-- ==== Sys2Proof/Word.lean ====
section
/-!
DEFINITION. The word of the register bus and its plainest arithmetic: 32-bit register words (R29), signed readings of a
two's-complement field, saturating counters, and rounding divisions that several chapters share.
-/

namespace Sys2Proof

/-- A register word on the interconnect (R29: every page register is 32 bits wide). -/
abbrev Word := BitVec 32

/-- A byte of an addressed memory. -/
abbrev Byte := BitVec 8

/-- The value `v` cut to its low `w` bits. -/
def lowBits (w v : Nat) : Nat := v % 2 ^ w

/-- Bits `lsb+w-1 … lsb` of `v`. -/
def bitsOf (v lsb w : Nat) : Nat := v / 2 ^ lsb % 2 ^ w

/-- Bit `k` of `v`. -/
def bitOf (v k : Nat) : Bool := v / 2 ^ k % 2 == 1

/-- `v` with bit `k` set. -/
def withBit (v k : Nat) : Nat := if bitOf v k then v else v + 2 ^ k

/-- `v` with bit `k` clear. -/
def sansBit (v k : Nat) : Nat := if bitOf v k then v - 2 ^ k else v

/-- `v` with bit `k` set to `b`. -/
def putBit (v k : Nat) (b : Bool) : Nat := if b then withBit v k else sansBit v k

/-- `a` without the bits of `b`, over 32 bits. -/
def andNot (a b : Nat) : Nat := a - (a &&& b)

/-- The signed reading of a `w`-bit two's-complement field. -/
def toSigned (w v : Nat) : Int :=
  if bitOf v (w - 1) then (v % 2 ^ w : Int) - (2 ^ w : Int) else (v % 2 ^ w : Int)

/-- The `w`-bit two's-complement pattern of an integer. -/
def ofSigned (w : Nat) (x : Int) : Nat := (x % (2 ^ w : Int)).toNat

/-- `v` brought into `[lo, hi]`. -/
def clampNat (lo hi v : Nat) : Nat := max lo (min hi v)

/-- `v` brought into `[lo, hi]`. -/
def clampInt (lo hi v : Int) : Int := max lo (min hi v)

/-- The quotient `a / b` rounded up. -/
def ceilDiv (a b : Nat) : Nat := (a + b - 1) / b

/-- `a + b` held at the largest `w`-bit value. -/
def satAdd (w a b : Nat) : Nat := min (a + b) (2 ^ w - 1)

/-- One if `b`, else zero. -/
def b2n (b : Bool) : Nat := if b then 1 else 0

end Sys2Proof
end

