-- ==== Sys2Proof/Syntax.lean ====
section
/-!
DEFINITION. The commands that the hub takes from outside, and the ring frame that some of them carry (05_ring_links_and_frames.md,
R124). A command's operands are what the outside supplies: a lane, a port, an address, a measured value, a received frame.
-/

namespace Sys2Proof

/-- A frame of the ring, by the fields of its header (R124) and its payload bytes. -/
structure Frame where
  /-- TYPE, R125 -/
  typ   : Nat := 0
  /-- CLASS -/
  cls   : Nat := 0
  /-- COPY: 0 first sent east, 1 first sent west -/
  copy  : Nat := 0
  /-- REACH, R127 -/
  reach : Nat := 0
  dst   : Nat := 0
  src   : Nat := 0
  mc    : Bool := false
  evf   : Bool := false
  prio  : Nat := 0
  /-- word 1 [2:0]: reserved, sent as 0, ignored on receipt and forwarded unchanged -/
  rsv   : Nat := 0
  seq   : Nat := 0
  tick  : Nat := 0
  w3    : Nat := 0
  w4    : Nat := 0
  w5    : Nat := 0
  pay   : List Nat := []
  deriving DecidableEq, Repr

/-- PLEN: the payload length (R124). -/
def Frame.plen (f : Frame) : Nat := f.pay.length

/-- Who sends a register access: the initiator code of NODE.WRITE_REJECT1 (0 to 3 field cores, 4 management core, 5 transfer
engine, 6 host port, 7 JTAG, 8 transaction engine) and, for 8, the source node. -/
structure By where
  ini : Nat
  src : Nat := 0
  deriving DecidableEq, Repr

/-- How a received frame ends (R128, steps 5 and 6). -/
inductive FrameEnd where
  | good | lenErr | pcsErr | stomp | crcErr
  deriving DecidableEq, Repr

/-- What a lane's receiver reports with a part of a frame: the outcome of steps 1 and 2 of R128 on its head (0 pass, 1 PCS error,
2 HCRC), and what the PCS and the FEC decoder have found since the command before on that lane (R144): errored PCS blocks, codewords
corrected, codewords that could not be corrected. -/
structure LineIn where
  head   : Nat := 0
  pcs    : Nat := 0
  corr   : Nat := 0
  uncorr : Nat := 0
  deriving DecidableEq, Repr

/-- The part of a frame that a receive command brings: the whole frame, its head alone (steps 1 to 4), or the end of the
frame whose head is in reception on the lane. -/
inductive FramePart where
  | whole (e : FrameEnd)
  | head
  | tail (e : FrameEnd)
  deriving DecidableEq, Repr

/-- A frame received on a CAN bus (R398, R399); with `start` only its SOF has been seen, and the frame itself follows. -/
structure CanRx where
  start : Bool
  ide  : Bool
  rtr  : Bool
  id   : Nat
  fmt  : Nat
  brs  : Bool
  esi  : Bool
  sdt  : Nat
  vcid : Nat
  sec  : Bool
  af   : Nat
  data : List Nat
  deriving DecidableEq, Repr


/-- A voltage seen by the power-entry core, mV, at its time in ns. -/
structure FeedIn where
  v : Int
  t : Nat
  deriving DecidableEq, Repr

/-- The rise of an output over the last 1 ms of a ramp, mV, at the core's time in ns (R458). -/
structure RiseIn where
  rise : Nat
  t    : Nat
  deriving DecidableEq, Repr

/-- The voltage across a controller's FET, mV, at the core's time in ns (R457, R459). -/
structure FetIn where
  dv : Nat
  t  : Nat
  deriving DecidableEq, Repr

/-- A change of encoder lines (R367): its instant in 0.5 ns, and for how many samples of 4 ns lines A and B then hold their levels. -/
structure EncEdge where
  t2    : Nat
  holdA : Nat
  holdB : Nat
  deriving DecidableEq, Repr

/-- A command of the Dawn protocol (R548): the path that it comes on (1 USB, 2 host port), its TAG, and for DAWN_INFO its CMD, which
another than 0x01 to 0x05 makes an unknown command. -/
structure DawnIn where
  path : Nat
  tag  : Nat := 0
  cmd  : Nat := 1
  deriving DecidableEq, Repr

/-- The commands of the block, one constructor for each row of spec/opcode_table.json, in the table's order. -/
inductive Instr where
  /-- STITCH_REPLAY (R6): direction (0 to the field die, 1 from it), sequence number of the flit, the replay passes. -/
  | stitchReplay (d : Nat) (n : Nat) (ok : Bool)
  /-- STITCH_LINK_DOWN (R7): direction whose flit failed. -/
  | stitchLinkDown (d : Nat)
  /-- HEARTBEAT_FLIT (R8): ring time of the flit, it arrives valid. -/
  | heartbeatFlit (t : Nat) (ok : Bool)
  /-- FDIE_WATCHDOG_EXPIRY (R8): ring time. -/
  | fdieWatchdogExpiry (t : Nat)
  /-- FIELD_PAGE_ACCESS_DONE (R9): the initiator, page, offset, the access is a write. -/
  | fieldPageAccessDone (who : By) (page : Nat) (off : Nat) (wr : Bool)
  /-- ECC_ERROR (R12): memory (0 item store, 1 session tables, 2 table RAM, 3 cell pool, 4 other), corrected, page that captures
  a core access, address, initiator of the access (5 and up: no core). -/
  | eccError (m : Nat) (corr : Bool) (page : Nat) (addr : Nat) (ini : Nat)
  /-- PWR_CTRL_WRITE (R15): the writer of PWR_CTRL, bits CORE_ON, FIELDLOG_ON, ETH_ON from bit 0. -/
  | pwrCtrlWrite (who : By) (m : Nat)
  /-- DOMAIN_OFF (R15): power domain. -/
  | domainOff (d : Nat)
  /-- RAILS_GOOD (R588). -/
  | railsGood
  /-- RAIL_FAIL (R589). -/
  | railFail
  /-- RST_N_LOW (R588): length of the low pulse in ns. -/
  | rstNLow (w : Nat)
  /-- WARM_RESET (R20). -/
  | warmReset
  /-- BOOT_ROM_START (R544): level of BOOTSEL, reading slot A or slot B meets a flash error. -/
  | bootRomStart (bootsel : Bool) (errA : Bool) (errB : Bool)
  /-- REGISTER_WRITE (R39): the writer, page, offset, word. -/
  | registerWrite (who : By) (page : Nat) (off : Nat) (word : Nat)
  /-- PAGE_STOP (R30): page, the writer, STOP. -/
  | pageStop (page : Nat) (who : By) (stop : Bool)
  /-- BLOCK_STOPPED (R30): page. -/
  | blockStopped (page : Nat)
  /-- EV_FORCE (R31): page, the writer, EV. -/
  | evForce (page : Nat) (who : By) (m : Nat)
  /-- COMMIT_DISCARD (R38): page, the writer. -/
  | commitDiscard (page : Nat) (who : By)
  /-- LOCK_KEY (R46): page, the writer, word. -/
  | lockKey (page : Nat) (who : By) (word : Nat)
  /-- KEY_ARM_LAPSE (R46): page. -/
  | keyArmLapse (page : Nat)
  /-- RESET_CTRL (R48): the writer, KEY. -/
  | resetCtrl (who : By) (key : Nat)
  /-- STATE_REQ (R52): the writer, TARGET. -/
  | stateReq (who : By) (target : Nat)
  /-- JOIN_ALONE (R56): ring time in ns. -/
  | joinAlone (t : Nat)
  /-- CUT_OFF (R58). -/
  | cutOff
  /-- ISOLATE_RECORD_WRITTEN (R59). -/
  | isolateRecordWritten
  /-- GW_RESET_DEFER_EXPIRY (R69): ring time in ns. -/
  | gwResetDeferExpiry (t : Nat)
  /-- FEED_WINDOW_SETTLED (R61): time of the power-entry core in ns. -/
  | feedWindowSettled (t : Nat)
  /-- FEEDS_LOST (R61). -/
  | feedsLost
  /-- TICK_INSTANT (R78). -/
  | tickInstant
  /-- COMMIT_POINT (R83). -/
  | commitPoint
  /-- CORE_DONE (R83): the writer, DONE. -/
  | coreDone (who : By) (m : Nat)
  /-- TICK_RECEIVED (R91): lane, receive stamp in ns and 2^-16 ns, the checked TICK. -/
  | tickReceived (i : Nat) (t : Nat) (fr : Nat) (f : Frame)
  /-- TICK_CLOSURE (R94): lane, receive stamp in ns and 2^-16 ns, the checked TICK. -/
  | tickClosure (i : Nat) (t : Nat) (fr : Nat) (f : Frame)
  /-- PROBE_SEND (R89): lane, send stamp in 1/16 ns. -/
  | probeSend (i : Nat) (t1 : Nat)
  /-- PROBE (R89): lane, the probe, receive and send stamp in 1/16 ns. -/
  | probe (i : Nat) (f : Frame) (t2 : Nat) (t3 : Nat)
  /-- PROBE_REPLY (R89): lane, the reply, receive stamp in 1/16 ns. -/
  | probeReply (i : Nat) (f : Frame) (t4 : Nat)
  /-- PROBE_FAIL (R90): lane. -/
  | probeFail (i : Nat)
  /-- MISS_DEADLINE (R96): tick number, ring time in ns. -/
  | missDeadline (n : Nat) (t : Nat)
  /-- ZENITH_LISTEN_EXPIRY (R99): ring time in ns. -/
  | zenithListenExpiry (t : Nat)
  /-- TAKEOVER (R100): of ring k at a gateway. -/
  | takeover (k : Bool)
  /-- ZENITH_YIELD (R101). -/
  | zenithYield
  /-- CMD_GO (R106): the writer. -/
  | cmdGo (who : By)
  /-- LINE_REQ (R106): the writer, LINE. -/
  | lineReq (who : By) (v : Nat)
  /-- LINE (R105). -/
  | line
  /-- TICK_LEN (R105). -/
  | tickLen
  /-- WINDOW (R105). -/
  | window
  /-- ZENITH_MOVE (R102). -/
  | zenithMove
  /-- ACTIVATE (R554). -/
  | activate
  /-- USER (R105). -/
  | user
  /-- CNT_CLEAR (R110): page, the writer. -/
  | cntClear (page : Nat) (who : By)
  /-- SIGNAL_DETECT (R114): lane. -/
  | signalDetect (i : Nat)
  /-- BLOCK_LOCK (R114): lane, the complement of valid sync headers was found. -/
  | blockLock (i : Nat) (inv : Bool)
  /-- LOCK_TIMEOUT (R114): lane. -/
  | lockTimeout (i : Nat)
  /-- SIGNAL_TIMEOUT (R114): lane. -/
  | signalTimeout (i : Nat)
  /-- HELLO_SEND (R114): lane. -/
  | helloSend (i : Nat)
  /-- HELLO (R115): lane, the checked frame. -/
  | hello (i : Nat) (f : Frame)
  /-- HELLO_TIMEOUT (R114): lane. -/
  | helloTimeout (i : Nat)
  /-- LANE_DOWN (R114): lane, cause (1 signal lost, 2 block lock lost, 3 hi_ber). -/
  | laneDown (i : Nat) (cause : Nat)
  /-- FLAP_HOLD_END (R117): lane, ring time in ns. -/
  | flapHoldEnd (i : Nat) (t : Nat)
  /-- PPM_WINDOW (R116): lane, offset in 0.01 ppm. -/
  | ppmWindow (i : Nat) (ppm : Int)
  /-- CRC_WINDOW (R118): lane. -/
  | crcWindow (i : Nat)
  /-- RING_FRAME_RECEIVED (R128): lane, what its receiver reports, the frame, which part of it, ring time in ns. -/
  | ringFrameReceived (i : Nat) (hd : LineIn) (f : Frame) (part : FramePart) (t : Nat)
  /-- HALO_ENTRY_AGED (R135): source address, Halo group, ring time in ns. -/
  | haloEntryAged (src : Nat) (g : Nat) (t : Nat)
  /-- ANNOUNCE (R136): lane, the checked frame, ring time in ns. -/
  | announce (i : Nat) (f : Frame) (t : Nat)
  /-- HOLD_DONE (R137): ring time in ns. -/
  | holdDone (t : Nat)
  /-- NEIGHBOUR_SEND (R138): ring time in ns. -/
  | neighbourSend (t : Nat)
  /-- NEIGHBOUR (R138): lane, the checked frame. -/
  | neighbour (i : Nat) (f : Frame)
  /-- NEIGHBOUR_MISSED (R138): lane. -/
  | neighbourMissed (i : Nat)
  /-- CHANGE (R139): the checked frame. -/
  | change (f : Frame)
  /-- STATUS_SEND (R140). -/
  | statusSend
  /-- DUPLICATE (R143): the checked frame. -/
  | duplicate (f : Frame)
  /-- ENTRY_SEL (R146): the writer, GROUP, SRC. -/
  | entrySel (who : By) (grp : Nat) (src : Nat)
  /-- PORT_DOWN (R162): port. -/
  | portDown (p : Nat)
  /-- FRAME_TRANSMIT_START (R171): port, ring time in ns. -/
  | frameTransmitStart (p : Nat) (t : Nat)
  /-- FRAME_TRANSMIT_END (R173): port, ring time in ns. -/
  | frameTransmitEnd (p : Nat) (t : Nat)
  /-- GATE_CHANGE (R165): port, ring time in ns. -/
  | gateChange (p : Nat) (t : Nat)
  /-- SQUALL_INTERVAL (R175): ETH port. -/
  | squallInterval (m : Nat)
  /-- CELL_ECC_ERROR (R177): storage number of the frame, address of the cell. -/
  | cellEccError (id : Nat) (addr : Nat)
  /-- PUB_READY (R186): the writer, channels 32 to 63, CH bits. -/
  | pubReady (who : By) (hi : Bool) (m : Nat)
  /-- CHANNEL_OFFER (R189). -/
  | channelOffer
  /-- PUBLISH_RECEIVED (R191): the checked frame, ring time of its last byte in ns. -/
  | publishReceived (f : Frame) (t : Nat)
  /-- REMOTE_LOAD (R212): core, address, bytes. -/
  | remoteLoad (k : Nat) (a : Nat) (n : Nat)
  /-- REMOTE_STORE (R212): core, address, bytes. -/
  | remoteStore (k : Nat) (a : Nat) (b : List Nat)
  /-- REMOTE_AMO (R212): core, address, bytes, kind (0 AMOAND, 1 AMOOR, 2 AMOADD, others any other AMO, LR, SC), operand. -/
  | remoteAmo (k : Nat) (a : Nat) (n : Nat) (kind : Nat) (v : Nat)
  /-- RD32 (R209): the checked frame, its read meets an uncorrectable ECC error. -/
  | rd32 (f : Frame) (ecc : Bool)
  /-- RD64 (R209): the checked frame, its read meets an uncorrectable ECC error. -/
  | rd64 (f : Frame) (ecc : Bool)
  /-- RDBLK (R209): the checked frame, its read meets an uncorrectable ECC error. -/
  | rdblk (f : Frame) (ecc : Bool)
  /-- WR32 (R209): the checked frame. -/
  | wr32 (f : Frame)
  /-- WR64 (R209): the checked frame. -/
  | wr64 (f : Frame)
  /-- WRBLK (R209): the checked frame. -/
  | wrblk (f : Frame)
  /-- AND32 (R209): the checked frame, its read meets an uncorrectable ECC error. -/
  | and32 (f : Frame) (ecc : Bool)
  /-- OR32 (R209): the checked frame, its read meets an uncorrectable ECC error. -/
  | or32 (f : Frame) (ecc : Bool)
  /-- ADD32 (R209): the checked frame, its read meets an uncorrectable ECC error. -/
  | add32 (f : Frame) (ecc : Bool)
  /-- CAS32 (R209): the checked frame, its read meets an uncorrectable ECC error. -/
  | cas32 (f : Frame) (ecc : Bool)
  /-- AND64 (R209): the checked frame, its read meets an uncorrectable ECC error. -/
  | and64 (f : Frame) (ecc : Bool)
  /-- OR64 (R209): the checked frame, its read meets an uncorrectable ECC error. -/
  | or64 (f : Frame) (ecc : Bool)
  /-- ADD64 (R209): the checked frame, its read meets an uncorrectable ECC error. -/
  | add64 (f : Frame) (ecc : Bool)
  /-- CAS64 (R209): the checked frame, its read meets an uncorrectable ECC error. -/
  | cas64 (f : Frame) (ecc : Bool)
  /-- EVENT (R228): the checked frame. -/
  | event (f : Frame)
  /-- TXN_CPL (R219): the checked frame. -/
  | txnCpl (f : Frame)
  /-- TXN_RESEND (R219): tag. -/
  | txnResend (n : Nat)
  /-- TXN_TIMEOUT (R219): tag. -/
  | txnTimeout (n : Nat)
  /-- HOLDING_SLOT_RELEASE (R215): slot. -/
  | holdingSlotRelease (k : Nat)
  /-- STREAM_SLOT_RELEASE (R220): slot. -/
  | streamSlotRelease (k : Nat)
  /-- ORPH_POP (R215): the writer. -/
  | orphPop (who : By)
  /-- EVOUT (R226): the writer, DST, K, VALUE. -/
  | evout (who : By) (dst : Nat) (k : Nat) (v : Nat)
  /-- HANDOVER_DONE (R232). -/
  | handoverDone
  /-- XFER_START (R235): channel, the fetch fails ECC. -/
  | xferStart (c : Nat) (ecc : Bool)
  /-- XFER_COMPLETE (R234): channel, descriptor, the write-back fails ECC. -/
  | xferComplete (c : Nat) (idx : Nat) (ecc : Bool)
  /-- POP (R245): queue, the writer of Q_CMD. -/
  | pop (q : Nat) (who : By)
  /-- PEEK (R245): queue, the writer of Q_CMD. -/
  | peek (q : Nat) (who : By)
  /-- DROP_REST (R245): queue, the writer of Q_CMD. -/
  | dropRest (q : Nat) (who : By)
  /-- MARK (R245): queue, the writer of Q_CMD. -/
  | mark (q : Nat) (who : By)
  /-- MARK_CLEAR (R245): queue, the writer of Q_CMD. -/
  | markClear (q : Nat) (who : By)
  /-- REWIND (R245): queue, the writer of Q_CMD. -/
  | rewind (q : Nat) (who : By)
  /-- FLUSH (R245): queue, the writer of Q_CMD. -/
  | flush (q : Nat) (who : By)
  /-- PUSH (R252): the writer, SESSION, LEN. -/
  | push (who : By) (k : Nat) (len : Nat)
  /-- SES_ENABLE (R254): the writer, RSID, DST; the session is the one selected in SES_SEL. -/
  | sesEnable (who : By) (rsid : Nat) (dst : Nat)
  /-- SES_DISABLE (R265): the writer; the session is the one selected in SES_SEL. -/
  | sesDisable (who : By)
  /-- RSES_ENABLE (R262): the writer, PRIO, SSID, SRC; the session is the one selected in RSES_SEL. -/
  | rsesEnable (who : By) (prio : Nat) (ssid : Nat) (src : Nat)
  /-- RSES_DISABLE (R265): the writer; the session is the one selected in RSES_SEL. -/
  | rsesDisable (who : By)
  /-- RTO_EXPIRY (R255): sending session. -/
  | rtoExpiry (k : Nat)
  /-- STALL (R255): sending session. -/
  | stall (k : Nat)
  /-- ACK (R256): the checked frame. -/
  | ack (f : Frame)
  /-- MSG (R258): the checked frame. -/
  | msg (f : Frame)
  /-- ACK_SEND (R259). -/
  | ackSend
  /-- FRESH_ACK_REPEAT (R260): receiving session. -/
  | freshAckRepeat (r : Nat)
  /-- SCHEDULED_WINDOW_END (R280). -/
  | scheduledWindowEnd
  /-- RECLAIM (R282): track slot, the writer. -/
  | reclaim (k : Nat) (who : By)
  /-- EVAL (R288): track slot, the writer, EVAL_T_HI. -/
  | eval (k : Nat) (who : By) (v : Nat)
  /-- INDUCT (R302): the writer, track slot. -/
  | induct (who : By) (k : Nat)
  /-- UPDATE (R319): the writer, store slot. -/
  | update (who : By) (slot : Nat)
  /-- OP_RETIRE (R316): the writer, store slot. -/
  | opRetire (who : By) (slot : Nat)
  /-- FIND (R319): the writer. -/
  | find (who : By)
  /-- OP_CANCEL (R319): the writer, store slot, action. -/
  | opCancel (who : By) (slot : Nat) (a : Nat)
  /-- FREE (R319): the writer, store slot. -/
  | free (who : By) (slot : Nat)
  /-- OFFER (R306): the checked frame. -/
  | offer (f : Frame)
  /-- ACCEPT (R305): the checked frame. -/
  | accept (f : Frame)
  /-- REFUSE (R305): the checked frame. -/
  | refuse (f : Frame)
  /-- COMMIT (R308): the checked frame. -/
  | commit (f : Frame)
  /-- DONE (R308): the checked frame. -/
  | driftDone (f : Frame)
  /-- RELEASE (R304): the checked frame. -/
  | release (f : Frame)
  /-- SET (R313): the checked frame. -/
  | driftSet (f : Frame)
  /-- RETIRE (R316): the checked frame. -/
  | retire (f : Frame)
  /-- DRIFT_ACK (R313): the checked frame. -/
  | driftAck (f : Frame)
  /-- QUERY (R314): the checked frame. -/
  | query (f : Frame)
  /-- ANSWER (R314): the checked frame. -/
  | answer (f : Frame)
  /-- RESULT (R317): the checked frame. -/
  | result (f : Frame)
  /-- DRIFT_RESEND (R304). -/
  | driftResend
  /-- HANDOFF_TIMEOUT (R305). -/
  | handoffTimeout
  /-- PENDING_EXPIRED (R308). -/
  | pendingExpired
  /-- RESYNC_TIMEOUT (R314). -/
  | resyncTimeout
  /-- ENT_SEL (R327): the writer, entry. -/
  | entSel (who : By) (n : Nat)
  /-- CONFIGURE (R327): the writer of ENT_CMD. -/
  | configure (who : By)
  /-- ARM (R327): the writer of ENT_CMD. -/
  | arm (who : By)
  /-- EDGE_CANCEL (R327): the writer of ENT_CMD. -/
  | edgeCancel (who : By)
  /-- EDGE_RELEASE (R327): the writer of ENT_CMD. -/
  | edgeRelease (who : By)
  /-- EDGE_COMMIT (R331): ring time in 0.5 ns. -/
  | edgeCommit (t2 : Nat)
  /-- EDGE_PLACE (R337): ring time in 0.5 ns. -/
  | edgePlace (t2 : Nat)
  /-- FIELD_COMMAND_ARRIVAL (R333): target kind (1 field channel, 3 branch), unit, ring time in 0.5 ns. -/
  | fieldCommandArrival (kind : Nat) (unit : Nat) (t2 : Nat)
  /-- FIELD_EDGE_ACTION (R337): ring time in 0.5 ns. -/
  | fieldEdgeAction (t2 : Nat)
  /-- INPUT_EDGE (R344): source kind (2 GPIO, 3 encoder line, 4 EVT pin), number, new level, stamp in ns and 2^-16 ns, ns for
  which the level holds. -/
  | inputEdge (kind : Nat) (index : Nat) (lvl : Bool) (t : Nat) (fr : Nat) (w : Nat)
  /-- MODE_WRITE (R352): field channel, the writer, MODE. -/
  | modeWrite (c : Nat) (who : By) (m : Nat)
  /-- LEVEL (R355): field channel, the writer, LEVEL. -/
  | level (c : Nat) (who : By) (v : Bool)
  /-- CHANNEL_RELEASE (R366): field channel, the writer. -/
  | channelRelease (c : Nat) (who : By)
  /-- FORCE_SAFE (R365): field channel, the writer. -/
  | forceSafe (c : Nat) (who : By)
  /-- WURQ (R359): field channel, the writer. -/
  | wurq (c : Nat) (who : By)
  /-- WAKE_UP_END (R359): channel. -/
  | wakeUpEnd (c : Nat)
  /-- FIELD_INPUT_EDGE (R357): channel, new level, stamp in ns and 2^-16 ns, ns for which the level holds. -/
  | fieldInputEdge (c : Nat) (lvl : Bool) (t : Nat) (fr : Nat) (w : Nat)
  /-- OPEN (R360): channel. -/
  | openLoad (c : Nat)
  /-- SHORT_VF (R360): channel. -/
  | shortVf (c : Nat)
  /-- OVERLOAD (R360): channel. -/
  | overload (c : Nat)
  /-- TRIPPED (R361): channel. -/
  | tripped (c : Nat)
  /-- TRIP_CLEAR (R361): field channel, the writer. -/
  | tripClear (c : Nat) (who : By)
  /-- TRIP_RETRY (R361): channel. -/
  | tripRetry (c : Nat)
  /-- THERMAL (R360): channel. -/
  | thermal (c : Nat)
  /-- THERMAL_RECOVER (R360): channel. -/
  | thermalRecover (c : Nat)
  /-- BREAK (R360): channel. -/
  | wireBreak (c : Nat)
  /-- VF_UV (R362). -/
  | vfUv
  /-- VF_REV (R362). -/
  | vfRev
  /-- VF_RECOVER (R362). -/
  | vfRecover
  /-- OVERTEMP (R363). -/
  | overtemp
  /-- OVERTEMP_CLEAR (R363). -/
  | overtempClear
  /-- SAFE_HOLD_EXPIRY (R364): channel. -/
  | safeHoldExpiry (c : Nat)
  /-- ENCODER_EDGE (R367): receiver, new levels of A and B, when and for how long. -/
  | encoderEdge (e : Nat) (a : Bool) (b : Bool) (ed : EncEdge)
  /-- Z_EDGE (R369): receiver. -/
  | zEdge (e : Nat)
  /-- ENCODER_BREAK (R370): receiver, lines (bit 0 A, 1 B, 2 Z). -/
  | encoderBreak (e : Nat) (lines : Nat)
  /-- ENCODER_BREAK_CLEAR (R370): receiver. -/
  | encoderBreakClear (e : Nat)
  /-- CLK_LOST (R371). -/
  | clkLost
  /-- ADC_ROUND (R372): input, code of this round, its value in the input's unit. -/
  | adcRound (r : List (Nat × Nat × Int))
  /-- FIFO_READ (R373): the reader. -/
  | fifoRead (who : By)
  /-- MB_SEL (R383): channel, the writer, mailbox. -/
  | mbSel (c : Nat) (who : By) (m : Nat)
  /-- LOAD (R383): channel, the writer. -/
  | mbLoad (c : Nat) (who : By)
  /-- MB_ARM (R383): channel, the writer. -/
  | mbArm (c : Nat) (who : By)
  /-- MB_CANCEL (R387): channel, the writer, mailbox bits. -/
  | mbCancel (c : Nat) (who : By) (m : Nat)
  /-- MB_CLEAR (R383): channel, the writer. -/
  | mbClear (c : Nat) (who : By)
  /-- CAN_SOF (R385): channel, SOF instant in ns, measured loop delay in ns; none where the data of the frame to be sent meet an
  uncorrectable ECC error, and no SOF is driven (R386). -/
  | canSof (c : Nat) (t : Nat) (dly : Option Nat)
  /-- CAN_FRAME_SENT (R386): channel. -/
  | canFrameSent (c : Nat)
  /-- CAN_ATTEMPT_FAILED (R388): channel, error code (0 lost arbitration), data phase, TEC kept by ISO 11898-1. -/
  | canAttemptFailed (c : Nat) (code : Nat) (phase : Bool) (keep : Bool)
  /-- BUS_OFF (R390): channel. -/
  | busOff (c : Nat)
  /-- RECOVER (R390): channel, the writer. -/
  | recover (c : Nat) (who : By)
  /-- RECOVERY_END (R390): channel. -/
  | recoveryEnd (c : Nat)
  /-- CAN_WINDOW_END (R396): channel, window, ring time in ns. -/
  | canWindowEnd (c : Nat) (w : Nat) (t : Nat)
  /-- CAN_FRAME_RECEIVED (R398): channel, RX edge of SOF in ns, frame or its start. -/
  | canFrameReceived (c : Nat) (t : Nat) (f : CanRx)
  /-- TUNNEL_FIELD (R401): the checked frame. -/
  | tunnelField (f : Frame)
  /-- JUMP (R411): engine, level of TEST_SIG. -/
  | jump (e : Nat) (lvl : Bool)
  /-- WAIT_SIG (R411): engine, level of the signal waited for. -/
  | waitSig (e : Nat) (lvl : Bool)
  /-- WAIT_TRIG (R411). -/
  | waitTrig (e : Nat)
  /-- WAIT_TICK (R411). -/
  | waitTick (e : Nat)
  /-- SET_LEVELS (R411). -/
  | setLevels (e : Nat)
  /-- SET_DRIVES (R411). -/
  | setDrives (e : Nat)
  /-- SET_SR (R411). -/
  | setSr (e : Nat)
  /-- SET_FLAG (R411). -/
  | setFlag (e : Nat)
  /-- CMP_LOADI (R411). -/
  | cmpLoadi (e : Nat)
  /-- CMP_LOADR (R411). -/
  | cmpLoadr (e : Nat)
  /-- CMP_DEC (R411). -/
  | cmpDec (e : Nat)
  /-- CMP_MATCH (R411). -/
  | cmpMatch (e : Nat)
  /-- CMP_TAKEQ (R411). -/
  | cmpTakeq (e : Nat)
  /-- SHIFT_OUT (R411). -/
  | shiftOut (e : Nat)
  /-- SHIFT_IN (R411): engine, levels of the signals from SI_FIRST. -/
  | shiftIn (e : Nat) (lvls : Nat)
  /-- PULL (R411). -/
  | pull (e : Nat)
  /-- PIO_PUSH (R411). -/
  | pioPush (e : Nat)
  /-- OUTQ_W (R413): engine, the writer, DATA. -/
  | outqW (e : Nat) (who : By) (v : Nat)
  /-- INQ_R (R413): engine, the reader. -/
  | inqR (e : Nat) (who : By)
  /-- TRIG_FORCE (R414): engine, the writer, FORCE. -/
  | trigForce (e : Nat) (who : By) (m : Nat)
  /-- FLUSH_OUTQ (R419): engine, the writer. -/
  | flushOutq (e : Nat) (who : By)
  /-- FLUSH_INQ (R419): engine, the writer. -/
  | flushInq (e : Nat) (who : By)
  /-- ENGINE_START (R419). -/
  | engineStart (e : Nat)
  /-- INSTR_WRITE (R420): engine, the writer, slot (32 for WRAP), word. -/
  | instrWrite (e : Nat) (who : By) (k : Nat) (v : Nat)
  /-- ETH_FRAME_RECEIVED (R426): ETH port, the frame from destination address to its last byte without FCS, its FCS is right,
  start-of-frame delimiter in ring time ns. -/
  | ethFrameReceived (m : Nat) (bytes : List Nat) (fcs : Bool) (t : Nat)
  /-- TUNNEL_ETH (R428): lane, the frame. -/
  | tunnelEth (i : Nat) (f : Frame)
  /-- TX_CTRL (R430): ETH port, the writer, TS_REQ, LEN. -/
  | txCtrl (m : Nat) (who : By) (ts : Bool) (len : Nat)
  /-- ETH_LINK_CHANGE (R425): ETH port, link up, LINK_STAT.SPEED. -/
  | ethLinkChange (m : Nat) (up : Bool) (speed : Nat)
  /-- AS_OFF_HI (R432): ETH port, the writer, value. -/
  | asOffHi (m : Nat) (who : By) (v : Nat)
  /-- AS_TIMEOUT (R432): ETH port, ring time in ns. -/
  | asTimeout (m : Nat) (t : Nat)
  /-- UART_CHARACTER (R435): UART, character with its ninth bit, parity error, framing error, break, ring time of its start bit
  in ns. -/
  | uartCharacter (u : Nat) (ch : Nat) (par : Bool) (frm : Bool) (brk : Bool) (t : Nat)
  /-- UART_GAP (R435): UART. -/
  | uartGap (u : Nat)
  /-- U_TX (R436): UART, the writer, ADDR9, LEN. -/
  | uTx (u : Nat) (who : By) (a9 : Bool) (len : Nat)
  /-- UART_TX_END (R434): UART. -/
  | uartTxEnd (u : Nat)
  /-- HOST_READ (R439): opcode and its complement, address, length in bytes. -/
  | hostRead (cmd : Nat) (a : Nat) (n : Nat)
  /-- HOST_WRITE (R439): opcode and its complement, address, data. -/
  | hostWrite (cmd : Nat) (a : Nat) (b : List Nat)
  /-- HOST_ABORT (R440): a read had been sent, its address and length in bytes. -/
  | hostAbort (sent : Bool) (a : Nat) (n : Nat)
  /-- PROGRAM (R441): the writer of FL_CMD. -/
  | program (who : By)
  /-- ERASE_4K (R441): the writer of FL_CMD. -/
  | erase4k (who : By)
  /-- ERASE_64K (R441): the writer of FL_CMD. -/
  | erase64k (who : By)
  /-- FLASH_DONE (R441): the device reports no error. -/
  | flashDone (ok : Bool)
  /-- DOORBELL (R448): the writer, word. -/
  | doorbell (who : By) (v : Nat)
  /-- DOORBELL_CLR (R448): the writer, word. -/
  | doorbellClr (who : By) (v : Nat)
  /-- FEED_DIODE_ON (R451): feed (0 A, 1 B). -/
  | feedDiodeOn (x : Nat)
  /-- FEED_REVERSE (R451): feed (0 A, 1 B). -/
  | feedReverse (x : Nat)
  /-- FEED_REVERSED (R452): feed (0 A, 1 B). -/
  | feedReversed (x : Nat)
  /-- FEED_WINDOW (R453): feed (0 A, 1 B) or FEED_COM (2), voltage in mV. -/
  | feedWindow (x : Nat) (v : FeedIn)
  /-- SEAT_CHANGE (R454): SEAT_A_N low, SEAT_B_N low, time of the power-entry core in ns. -/
  | seatChange (a : Bool) (b : Bool) (t : Nat)
  /-- SEAT_QUALIFIED (R454): time of the power-entry core in ns. -/
  | seatQualified (t : Nat)
  /-- RAMP_DONE (R457): controller (0 to 7 branch, 8 main), time of the power-entry core in ns. -/
  | rampDone (c : Nat) (t : Nat)
  /-- SC (R464): controller (0 to 7 branch, 8 main), time of the power-entry core in ns. -/
  | shortCircuit (c : Nat) (t : Nat)
  /-- SOA (R458): controller (0 to 7 branch, 8 main), time of the power-entry core in ns. -/
  | soaTrip (c : Nat) (t : Nat)
  /-- DVDT (R458): controller (0 to 7 branch, 8 main), time of the power-entry core in ns. -/
  | dvdtTrip (c : Nat) (d : RiseIn)
  /-- START_TO (R458): controller (0 to 7 branch, 8 main), time of the power-entry core in ns. -/
  | startTo (c : Nat) (t : Nat)
  /-- PG_QUALIFIED (R459): controller (0 to 7 branch, 8 main), time of the power-entry core in ns. -/
  | pgQualified (c : Nat) (t : Nat)
  /-- CURVE_TRIP (R463): controller (0 to 7 branch, 8 main), time of the power-entry core in ns. -/
  | curveTrip (c : Nat) (t : Nat)
  /-- OV_SHUTDOWN (R465): time of the power-entry core in ns. -/
  | ovShutdown (t : Nat)
  /-- RETRY_WAIT_END (R466): controller (0 to 7 branch, 8 main), time of the power-entry core in ns. -/
  | retryWaitEnd (c : Nat) (t : Nat)
  /-- RETRIES_RESET (R467): controller (0 to 7 branch, 8 main), time of the power-entry core in ns. -/
  | retriesReset (c : Nat) (t : Nat)
  /-- LATCH_CLEAR (R468): controller (0 to 7 branch, 8 main), the writer. -/
  | latchClear (c : Nat) (who : By)
  /-- CURVE_APPLY (R462): controller (0 to 7 branch, 8 main), the writer. -/
  | curveApply (c : Nat) (who : By)
  /-- POWER_ENTRY_RESTART (R608). -/
  | powerEntryRestart
  /-- BRANCH_ON (R469): branch, the writer. -/
  | branchOn (b : Nat) (who : By)
  /-- BRANCH_OFF (R469): branch, the writer. -/
  | branchOff (b : Nat) (who : By)
  /-- BRANCH_RAMP_START (R470): branch, time of the power-entry core in ns. -/
  | branchRampStart (b : Nat) (t : Nat)
  /-- LAST_GASP (R473): time of the power-entry core in ns. -/
  | lastGasp (t : Nat)
  /-- LG_RECOVER (R474). -/
  | lgRecover
  /-- BLACK_BOX_WRITTEN (R535). -/
  | blackBoxWritten
  /-- VBUS0_RISE (R482). -/
  | vbus0Rise
  /-- SVC_OVERLAP_END (R483): time of the power-entry core in ns. -/
  | svcOverlapEnd (t : Nat)
  /-- SERVICE_TAKEOVER (R484): VBUS0 in mV. -/
  | serviceTakeover (v : Nat)
  /-- ATTACH (R480): port, the port presented Rp, Rp seen as sink, PD 3.x is negotiated. -/
  | attach (p : Nat) (src : Bool) (rp : Nat) (rev3 : Bool)
  /-- DETACH (R490): port. -/
  | detach (p : Nat)
  /-- SOURCE_CAPABILITIES (R486): mV, mA, fixed. -/
  | sourceCapabilities (pdos : List (Nat × Nat × Bool))
  /-- PR_SWAP (R487): port, the writer of PD_CMD. -/
  | prSwap (p : Nat) (who : By)
  /-- SOFT_RESET (R501): port, the writer of PD_CMD. -/
  | softReset (p : Nat) (who : By)
  /-- HARD_RESET (R489): port, the writer of PD_CMD. -/
  | hardReset (p : Nat) (who : By)
  /-- GET_SRC_CAP (R501): port, the writer of PD_CMD. -/
  | getSrcCap (p : Nat) (who : By)
  /-- REQUEST (R486): port, the writer of PD_CMD. -/
  | request (p : Nat) (who : By)
  /-- PR_SWAP_RECEIVED (R487): port. -/
  | prSwapReceived (p : Nat)
  /-- HARD_RESET_RECEIVED (R489): port. -/
  | hardResetReceived (p : Nat)
  /-- UNSUPPORTED_REQUEST (R481): port, kind (0 unsupported feature, 1 DR_Swap, 2 SOP' or SOP'', 3 BIST Carrier Mode, 4 BIST Test
  Data, 5 the end of the carrier). -/
  | unsupportedRequest (p : Nat) (kind : Nat)
  /-- PD_TIMER_EXPIRY (R495): port, timer by its place in the table of R495 from 0. -/
  | pdTimerExpiry (p : Nat) (k : Nat)
  /-- VSET_TRIM (R491): VBUS1 in mV, VSET read back in 0.1 mV. -/
  | vsetTrim (v : Nat) (rb : Nat)
  /-- TRANSITION_FAIL (R493): port, failing condition (0 START, 1 SLOPE, 2 SETTLE). -/
  | transitionFail (p : Nat) (k : Nat)
  /-- VBUS_OV (R494). -/
  | vbusOv
  /-- VBUS_OV_CLEAR (R494). -/
  | vbusOvClear
  /-- DISCOVER_SVIDS (R496). -/
  | discoverSvids
  /-- DISCOVER_MODES (R496). -/
  | discoverModes
  /-- ENTER_MODE (R496). -/
  | enterMode
  /-- EXIT_MODE (R498). -/
  | exitMode
  /-- USB_BUS_RESET (R500): high-speed handshake. -/
  | usbBusReset (high : Bool)
  /-- SETUP (R500): the 8 bytes. -/
  | setup (b : List Nat)
  /-- EP_ARM (R502): endpoint index, EP_CTRL.LEN, the writer. -/
  | epArm (e : Nat) (len : Nat) (who : By)
  /-- EP_DONE (R502): endpoint index, the host sent data, the data. -/
  | epDone (e : Nat) (out : Bool) (b : List Nat)
  /-- MTIP (R509): core, ring time in ns. -/
  | mtip (k : Nat) (t : Nat)
  /-- HART_EN (R511): the writer of CORE_CTRL, HART_EN, DBG_PAUSE; from 2^13 on, what the debugger and WFI do to the cores (R527). -/
  | hartEn (who : By) (m : Nat) (pause : Bool)
  /-- COMMIT_WARN (R513): ring time in ns. -/
  | commitWarn (t : Nat)
  /-- FWDT_KICK (R515): the writer, KEY, CORE. -/
  | fwdtKick (who : By) (key : Nat) (m : Nat)
  /-- FWDT_EXPIRY (R515): field core. -/
  | fwdtExpiry (k : Nat)
  /-- MWDT_KICK (R516): the writer, KEY. -/
  | mwdtKick (who : By) (key : Nat)
  /-- MWDT_EXPIRY (R516). -/
  | mwdtExpiry
  /-- CLAIM (R519): target, the reader. -/
  | claim (k : Nat) (who : By)
  /-- COMPLETE (R519): target, the writer, source. -/
  | complete (k : Nat) (who : By) (n : Nat)
  /-- SWEV_SET (R524): the writer, EV. -/
  | swevSet (who : By) (m : Nat)
  /-- VOLT (R531): VMON number, mV. -/
  | volt (d : Nat) (mv : Nat)
  /-- TEMP (R531): sensor, 0.125 degrees Celsius. -/
  | temp (k : Nat) (v : Int)
  /-- LOG_APPEND (R532): the writer of APPEND_B, ARG1. -/
  | logAppend (who : By) (v : Nat)
  /-- LOG_EXPORT (R533): the writer. -/
  | logExport (who : By)
  /-- LOG_EXPORT_DONE (R533): no flash error. -/
  | logExportDone (ok : Bool)
  /-- BB_CTRL (R535): the writer, KIND, ARG. -/
  | bbCtrl (who : By) (kind : Nat) (arg : Nat)
  /-- PROGRAM_KEY (R540): the writer, SLOT. -/
  | programKey (who : By) (slot : Nat)
  /-- REVOKE_KEY (R540): the writer, SLOT. -/
  | revokeKey (who : By) (slot : Nat)
  /-- DEBUG_LOCK (R540): the writer. -/
  | debugLock (who : By)
  /-- DEBUG_DISABLE (R540): the writer. -/
  | debugDisable (who : By)
  /-- OTP_DONE (R540): every bit reads back. -/
  | otpDone (ok : Bool)
  /-- VFY_CMD (R538): the writer, KEYS. -/
  | vfyCmd (who : By) (keys : Nat)
  /-- VFY_DONE (R538): the object is the line configuration in flash. -/
  | vfyDone (cfg : Bool)
  /-- UNLOCK (R541): the writer. -/
  | unlock (who : By)
  /-- BOOT_GOOD (R546): the writer, KEY. -/
  | bootGood (who : By) (key : Nat)
  /-- DAWN_REQ (R560): the writer, KEY. -/
  | dawnReq (who : By) (key : Nat)
  /-- INFO (R548): the command. -/
  | dawnInfo (c : DawnIn)
  /-- BEGIN (R548): the command, ARG0, data, flash error. -/
  | dawnBegin (c : DawnIn) (slot : Nat) (h : List Nat) (err : Bool)
  /-- DATA (R548): the command, ARG0, data, flash error. -/
  | dawnData (c : DawnIn) (off : Nat) (b : List Nat) (err : Bool)
  /-- END (R548): the command, flash error. -/
  | dawnEnd (c : DawnIn) (err : Bool)
  /-- EXIT (R548): the command. -/
  | dawnExit (c : DawnIn)
  /-- BULK_DISTRIBUTION (R550): the checked frame, the ROM erases or programs. -/
  | bulkDistribution (f : Frame) (busy : Bool)
  /-- APPLY (R552): the writer. -/
  | applySlot (who : By)
  /-- APPLY_DONE (R552): a flash error. -/
  | applyDone (err : Bool)
  /-- UNSTAGE (R553): the writer. -/
  | unstage (who : By)
  /-- BANK_TOUCHED (R553): address in the map of its core, bytes stored. -/
  | bankTouched (a : Nat) (b : List Nat)
  /-- ACT_GO (R554): the writer. -/
  | actGo (who : By)
  /-- EXPORT_DONE (R555): the writer, bits. -/
  | exportDone (who : By) (m : Nat)
  /-- ACT_READY (R555): the writer, bits. -/
  | actReady (who : By) (m : Nat)
  /-- ECLIPSE_N (R566): ring time of the falling edge in ns, length of the pulse in ns. -/
  | eclipseN (t : Nat) (w : Nat)
  /-- ECL_NOW (R566): the writer. -/
  | eclNow (who : By)
  /-- ECL_ARM (R567): the writer. -/
  | eclArm (who : By)
  /-- DISARM (R567): the writer. -/
  | disarm (who : By)
  /-- ARM_REACHED (R566): ring time in ns. -/
  | armReached (t : Nat)
  /-- ECL_REQ (R574): the checked frame. -/
  | eclReq (f : Frame)
  /-- DUMP_REQ (R580): the checked frame. -/
  | dumpReq (f : Frame)
  /-- AUTO_DUMP (R580): ring time in ns. -/
  | autoDump (t : Nat)
  /-- ECL_RELEASE (R580): the checked frame. -/
  | eclRelease (f : Frame)
  /-- JTAG_READOUT (R579): segment, byte offset. -/
  | jtagReadout (seg : Nat) (off : Nat)
  /-- FAULT_NOW_CLEAR (R360): channel, fault bit. -/
  | faultNowClear (c : Nat) (k : Nat)
  /-- FIELD_CLOCK_RESTORED (R371): line levels: bits 2e (A) and 2e + 1 (B). -/
  | fieldClockRestored (lv : Nat)
  /-- RECEIVE_ERROR (R389): channel, error code, data phase, step of REC. -/
  | receiveError (c : Nat) (code : Nat) (phase : Bool) (d : Nat)
  /-- BUS_INTEGRATION (R404): channel; 11 consecutive recessive bits. -/
  | busIntegration (c : Nat)
  /-- BREAKER_SAMPLE (R463): controller, current in mA, FET voltage in mV. -/
  | breakerSample (c : Nat) (i : Nat) (d : FetIn)
  /-- USB_SUSPEND (R503). -/
  | usbSuspend
  /-- USB_RESUME (R503). -/
  | usbResume
  /-- AO_SUPPLY_FAIL (R23). -/
  | aoSupplyFail
  /-- RST_N_RELEASE (R588). -/
  | rstNRelease
  /-- EVT_PULSE_END (R522): EVT pin. -/
  | evtPulseEnd (p : Nat)
  /-- REQUEST_RECEIVED (R491): port, PDO position from 1, current in mA. -/
  | requestReceived (p : Nat) (pos : Nat) (ma : Nat)
  /-- PARTNER_ACCEPT (R492): port, Accept rather than Reject. -/
  | partnerAccept (p : Nat) (acc : Bool)
  /-- PS_RDY (R489): port. -/
  | psRdy (p : Nat)
  deriving DecidableEq, Repr

end Sys2Proof
end

