-- ==== Sys2Proof/Decode.lean ====
section
/-!
DEFINITION. The decoder of the command table. No row of spec/opcode_table.json has bits: a command is an event at the hub's
boundary, not a word.
-/

namespace Sys2Proof

/-- The command that a word spells by the table's bits: none, since the table gives no bits to any row. -/
def decodeTableWord (nbits w : Nat) : Option Instr :=
  match nbits, w with
  | _, _ => none

end Sys2Proof
end

