-- ==== Sys2Proof/Config.lean ====
section
/-!
DEFINITION. What the spec leaves open. Every constant here has no body: nothing can be proved of its value, so a claim holds
whatever the hardware does.
-/

namespace Sys2Proof.Machine.Config

/-- A fresh open value for each draw (notes/assumptions/2.md). -/
opaque freeValue : Nat → Nat

/-- Where the spec gives a real number and a field of whole units but no rounding: does this rounding go up? The argument
says which rounding it is (notes/assumptions/3.md). -/
opaque roundUp : Nat → Rat → Bool

/-- The index in the cell pool of the cell with a serial number (R268, CELL): the spec does not say which free cell the hub
takes (notes/assumptions/2.md). -/
opaque cellIndex : Nat → Nat

/-- Does an encoder count up when A leads B (R367)? The spec names no direction for X4, X2 and X1 (notes/assumptions/2.md). -/
opaque quadUp : Bool

/-- log2 of the flash device's size in bytes, none if it has no SFDP tables (R441), and whether those declare suspend
(notes/assumptions/2.md). -/
opaque flashLog2 : Option Nat
opaque flashSuspends : Bool

/-- The device declares 8D-8D-8D (R544; notes/assumptions/2.md). -/
opaque flashOctal : Bool

/-- SHA-256 of a list of bytes (R538): the spec names the standard and does not repeat it (notes/assumptions/2.md). -/
opaque sha256 : List Nat → Nat

/-- KEYHASH0, the vendor root that slot 0 holds at manufacture (R537; notes/assumptions/121.md). -/
opaque vendorRoot : BitVec 256

/-- The ECDSA check on P-256 of a signature (64 bytes) over a hash under a key (64 bytes) (R538; notes/assumptions/2.md). -/
opaque ecdsaOk : List Nat → Nat → List Nat → Bool

end Sys2Proof.Machine.Config
end

