-- ==== Sys2Proof/Machine/Pages.lean ====
section
/-!
DEFINITION. The page map (02_register_pages.md, R35): page numbers, page types, and what the type fixes for the header.
-/

namespace Sys2Proof.Machine

/-! Page numbers (R35). Where pages are banked, the function takes the number of the instance (lane, port,
channel, queue), cut to the instances there are. -/

def P.node : Nat := 0x000
def P.ev1 : Nat := 0x001
def P.ev2 : Nat := 0x002
def P.ev3 : Nat := 0x003
def P.time : Nat := 0x004
def P.halo : Nat := 0x00C
def P.switch : Nat := 0x010
def P.pool : Nat := 0x020
def P.pub : Nat := 0x030
def P.sub : Nat := 0x031
def P.txn : Nat := 0x038
def P.gw : Nat := 0x039
def P.sestx : Nat := 0x080
def P.sesrx : Nat := 0x081
def P.drift : Nat := 0x090
def P.zones : Nat := 0x091
def P.edge : Nat := 0x098
def P.capt : Nat := 0x099
def P.enc : Nat := 0x0A8
def P.fdie : Nat := 0x0A9
def P.adc : Nat := 0x0AA
def P.pinmux : Nat := 0x0D8
def P.host : Nat := 0x0E4
def P.flash : Nat := 0x0E5
def P.power : Nat := 0x0F0
def P.usb : Nat := 0x102
def P.cores : Nat := 0x110
def P.xfer : Nat := 0x111
def P.mgmt : Nat := 0x120
def P.sens : Nat := 0x121
def P.log : Nat := 0x122
def P.upd : Nat := 0x123
def P.sec : Nat := 0x124
def P.ecl : Nat := 0x130
def P.lane (i : Nat) : Nat := 0x008 + i % 4
def P.swport (p : Nat) : Nat := 0x011 + p % 14
def P.queue (q : Nat) : Nat := 0x040 + q / 16 % 64
def P.track (k : Nat) : Nat := 0x088 + k % 8
def P.field (c : Nat) : Nat := 0x0A0 + c / 8 % 8
def P.can (c : Nat) : Nat := 0x0B0 + c % 8
def P.uart (u : Nat) : Nat := 0x0B8 + u / 4 % 4
def P.pio (e : Nat) : Nat := 0x0C0 + e % 24
def P.eth (m : Nat) : Nat := 0x0E0 + m % 4
def P.branch (b : Nat) : Nat := 0x0F1 + b % 8
def P.pd (p : Nat) : Nat := 0x100 + p % 2

/-- Page types (R35). -/
inductive PageType where
  | node | event | time | lane | halo | switch | swport | cellpool | publish | subscribe
  | txn | gateway | queue | session | track | drift | zones | edge | capture | field
  | encoder | fdie | adc | can | uart | pio | pinmux | eth | hostport | flash
  | power | branch | pd | usbdev | cores | xfer | mgmt | sensors | log | update
  | security | eclipse
  deriving DecidableEq, Repr

/-- The page map of R35: first page, last page, type, SIDEFX, FIELD_DIE. -/
structure MapRow where
  first : Nat
  last  : Nat
  typ   : PageType
  sidefx : Bool
  fieldDie : Bool
  deriving DecidableEq, Repr

def pageMap_1 : List MapRow := [
  ⟨0x000, 0x000, .node, true, false⟩,
  ⟨0x001, 0x003, .event, true, false⟩,
  ⟨0x004, 0x004, .time, false, false⟩,
  ⟨0x008, 0x00B, .lane, true, false⟩,
  ⟨0x00C, 0x00C, .halo, false, false⟩,
  ⟨0x010, 0x010, .switch, false, false⟩,
  ⟨0x011, 0x01E, .swport, true, false⟩,
  ⟨0x020, 0x020, .cellpool, true, false⟩,
  ⟨0x030, 0x030, .publish, false, false⟩,
  ⟨0x031, 0x031, .subscribe, false, false⟩,
  ⟨0x038, 0x038, .txn, true, false⟩,
  ⟨0x039, 0x039, .gateway, false, false⟩,
  ⟨0x040, 0x07F, .queue, true, false⟩,
  ⟨0x080, 0x081, .session, true, false⟩,
  ⟨0x088, 0x08F, .track, false, false⟩]

def pageMap_2 : List MapRow := [
  ⟨0x090, 0x090, .drift, true, false⟩,
  ⟨0x091, 0x091, .zones, false, false⟩,
  ⟨0x098, 0x098, .edge, false, false⟩,
  ⟨0x099, 0x099, .capture, true, false⟩,
  ⟨0x0A0, 0x0A7, .field, false, true⟩,
  ⟨0x0A8, 0x0A8, .encoder, false, true⟩,
  ⟨0x0A9, 0x0A9, .fdie, false, true⟩,
  ⟨0x0AA, 0x0AA, .adc, true, true⟩,
  ⟨0x0B0, 0x0B7, .can, true, false⟩,
  ⟨0x0B8, 0x0BB, .uart, true, false⟩,
  ⟨0x0C0, 0x0D7, .pio, true, false⟩,
  ⟨0x0D8, 0x0D8, .pinmux, false, false⟩,
  ⟨0x0E0, 0x0E3, .eth, true, false⟩,
  ⟨0x0E4, 0x0E4, .hostport, true, false⟩,
  ⟨0x0E5, 0x0E5, .flash, false, false⟩]

def pageMap_3 : List MapRow := [
  ⟨0x0F0, 0x0F0, .power, false, true⟩,
  ⟨0x0F1, 0x0F8, .branch, false, true⟩,
  ⟨0x100, 0x101, .pd, true, false⟩,
  ⟨0x102, 0x102, .usbdev, true, false⟩,
  ⟨0x110, 0x110, .cores, false, false⟩,
  ⟨0x111, 0x111, .xfer, false, false⟩,
  ⟨0x120, 0x120, .mgmt, false, false⟩,
  ⟨0x121, 0x121, .sensors, false, false⟩,
  ⟨0x122, 0x122, .log, true, false⟩,
  ⟨0x123, 0x123, .update, false, false⟩,
  ⟨0x124, 0x124, .security, false, false⟩,
  ⟨0x130, 0x130, .eclipse, false, false⟩]

/-- The whole page map. -/
def pageMap : List MapRow := pageMap_1 ++ pageMap_2 ++ pageMap_3

/-- The map row of a page; none where the page number is reserved (R35). -/
def pageRow (page : Nat) : Option MapRow := pageMap.find? fun r => decide (r.first ≤ page ∧ page ≤ r.last)

/-- The type of a listed page. -/
def pageType (page : Nat) : Option PageType := (pageRow page).map (·.typ)

/-- Event router source of bit 0 of a page's EV_STAT (R526), and how many event bits it has. -/
def evMap (page : Nat) : Nat × Nat :=
  match pageRow page with
  | none => (0, 0)
  | some r =>
    let i := page - r.first
    match r.typ with
    | .node => (0, 9) | .time => (16, 15) | .lane => (32 + 6 * i, 6) | .halo => (56, 8) | .switch => (64, 1)
    | .cellpool => (72, 6) | .swport => (80 + i, 1) | .publish => (96, 3) | .subscribe => (100, 6)
    | .txn => (112, 24) | .gateway => (136, 5) | .session => if i = 0 then (144, 6) else (160, 7)
    | .track => (176 + 2 * i, 2) | .drift => (192, 17) | .edge => (224, 8) | .capture => (240, 16)
    | .field => (256 + 8 * i, 8) | .encoder => (320, 8) | .fdie => (328, 6) | .adc => (334, 2)
    | .can => (336 + 2 * i, 2) | .uart => (352 + 4 * i, 4) | .pio => (368 + i, 1) | .eth => (392 + 2 * i, 2)
    | .hostport => (400, 3) | .flash => (404, 2) | .power => (408, 8) | .branch => (416 + i, 1)
    | .pd => (424 + 3 * i, 3) | .usbdev => (430, 2) | .cores => (432, 8) | .xfer => (440, 8)
    | .mgmt => (448, 3) | .sensors => (456, 3) | .log => (464, 3) | .update => (468, 7) | .security => (476, 4)
    | .eclipse => (480, 4) | .event => (0, 0) | .queue => (0, 0) | .zones => (0, 0) | .pinmux => (0, 0)

/-- HAS_STOP by page type (R607). -/
def hasStop : PageType → Bool
  | .lane => true | .swport => true | .publish => true | .subscribe => true | .xfer => true | .track => true
  | .drift => true | .edge => true | .can => true | .pio => true
  | .node => false | .event => false | .time => false | .halo => false | .switch => false | .cellpool => false
  | .txn => false | .gateway => false | .queue => false | .session => false | .zones => false | .capture => false
  | .field => false | .encoder => false | .fdie => false | .adc => false | .uart => false | .pinmux => false
  | .eth => false | .hostport => false | .flash => false | .power => false | .branch => false | .pd => false
  | .usbdev => false | .cores => false | .mgmt => false | .sensors => false | .log => false | .update => false
  | .security => false | .eclipse => false

end Sys2Proof.Machine
end

