-- ==== Sys2Proof/Machine/Assoc.lean ====
section
/-!
DEFINITION. Sparse tables as plain data: association lists in one canonical form. A key that is not listed reads as a
default; a write of the default removes the entry, so equal tables are equal lists.
-/

namespace Sys2Proof.Machine

/-- The value listed for `k`, or the default. -/
def alGet {κ α : Type} [DecidableEq κ] (t : List (κ × α)) (k : κ) (d : α) : α :=
  match t with
  | [] => d
  | e :: r => if e.1 = k then e.2 else alGet r k d

/-- The table without the entries of `k`. -/
def alErase {κ α : Type} [DecidableEq κ] (t : List (κ × α)) (k : κ) : List (κ × α) :=
  match t with
  | [] => []
  | e :: r => if e.1 = k then alErase r k else e :: alErase r k

/-- The table with `(k, v)` put in front of the first key that `lt` places after `k`. -/
def alInsert {κ α : Type} (lt : κ → κ → Bool) (t : List (κ × α)) (k : κ) (v : α) : List (κ × α) :=
  match t with
  | [] => [(k, v)]
  | e :: r => if lt k e.1 then (k, v) :: e :: r else e :: alInsert lt r k v

/-- The table with `k` reading as `v`; `d` is what an unlisted `k` reads as. -/
def alSet {κ α : Type} [DecidableEq κ] [DecidableEq α] (lt : κ → κ → Bool) (t : List (κ × α)) (k : κ) (d v : α) :
    List (κ × α) :=
  if v = d then alErase t k else alInsert lt (alErase t k) k v

/-- Strict order of numeric keys. -/
def natLt (a b : Nat) : Bool := decide (a < b)

/-- Every key precedes the next under `lt`. -/
def alSorted {κ α : Type} (lt : κ → κ → Bool) : List (κ × α) → Bool
  | [] => true
  | [_] => true
  | a :: b :: r => lt a.1 b.1 && alSorted lt (b :: r)

/-- A table from numbers to records: `d` is what an unlisted number holds. -/
abbrev Tbl (α : Type) := List (Nat × α)

/-- Entry `k` of a table. -/
def Tbl.at {α : Type} (t : Tbl α) (d : α) (k : Nat) : α := alGet t k d

/-- The table with entry `k` set. -/
def Tbl.put {α : Type} [DecidableEq α] (t : Tbl α) (d : α) (k : Nat) (v : α) : Tbl α := alSet natLt t k d v

/-- A table with `f` applied to every entry, in canonical form. -/
def tblMap {α : Type} [DecidableEq α] (t : Tbl α) (d : α) (f : α → α) : Tbl α :=
  t.foldl (fun r e => Tbl.put r d e.1 (f e.2)) []

end Sys2Proof.Machine
end

