-- ==== Sys2Proof/Machine/Reg.lean ====
section
/-!
DEFINITION. The shape of a register field (00_scope.md, Conventions; R5): its place in the page, its access code, its
write class and its reset value; and the key under which State holds it.
-/

namespace Sys2Proof.Machine

/-- Access codes (00_scope.md, Conventions). -/
inductive Acc where
  | ro | rw | rws | w1c | w1s | wo | roc
  deriving DecidableEq, Repr

/-- Write classes of R5; `none` is the class column's dash. -/
inductive Cls where
  | a | t | c | s | b | none
  deriving DecidableEq, Repr

/-- One field of a page register: byte offset of the register in the page, lowest bit, width, access code, reset value
and write class. -/
structure Fld where
  off   : Nat
  lsb   : Nat
  width : Nat
  acc   : Acc
  reset : Nat
  cls   : Cls
  deriving DecidableEq, Repr

/-- Where a field's value is held: page number, offset, lowest bit, and the entry of a table that a select register or the
initiator picks (0 where the register is not banked). -/
structure Key where
  page : Nat
  off  : Nat
  lsb  : Nat
  idx  : Nat
  deriving DecidableEq, Repr

/-- Lexicographic order of keys. -/
def Key.lt (a b : Key) : Bool :=
  if a.page = b.page then
    if a.off = b.off then
      if a.lsb = b.lsb then decide (a.idx < b.idx) else decide (a.lsb < b.lsb)
    else decide (a.off < b.off)
  else decide (a.page < b.page)

/-- The code of a class in NODE.WRITE_REJECT0.WCLASS (02_register_pages.md, NODE page): 0 A, 1 T, 2 C, 3 S, 4 B. -/
def Cls.code : Cls → Nat
  | .a => 0 | .t => 1 | .c => 2 | .s => 3 | .b => 4 | .none => 0

end Sys2Proof.Machine
end

