-- ==== Sys2Proof/Machine/RegMapA.lean ====
section
/-!
DEFINITION. Register fields of the page types HDR, NODE, TIME, LANE, HALO, SWITCH, SWPORT, CELLPOOL, PUBLISH, SUBSCRIBE, each as
the register tables of spec/ give it: offset, lowest bit, width, access code, reset value, write class. An indexed register is a
function of its index. -/

namespace Sys2Proof.Machine

/-! HDR: spec/02_register_pages.md, R29. -/

def F.HDR_PAGE_ID_TYPE : Fld := ⟨0x000, 16, 16, .ro, 0, .none⟩
def F.HDR_PAGE_ID_VERSION : Fld := ⟨0x000, 8, 8, .ro, 1, .none⟩
def F.HDR_PAGE_ID_INSTANCE : Fld := ⟨0x000, 0, 8, .ro, 0, .none⟩
def F.HDR_PAGE_CAPS_BLOCK_CAPS : Fld := ⟨0x004, 16, 16, .ro, 0, .none⟩
def F.HDR_PAGE_CAPS_EV_COUNT : Fld := ⟨0x004, 8, 8, .ro, 0, .none⟩
def F.HDR_PAGE_CAPS_FIELD_DIE : Fld := ⟨0x004, 3, 1, .ro, 0, .none⟩
def F.HDR_PAGE_CAPS_HAS_STOP : Fld := ⟨0x004, 2, 1, .ro, 0, .none⟩
def F.HDR_PAGE_CAPS_HAS_SHADOW : Fld := ⟨0x004, 1, 1, .ro, 0, .none⟩
def F.HDR_PAGE_CAPS_PRESENT : Fld := ⟨0x004, 0, 1, .ro, 1, .none⟩
def F.HDR_PAGE_CTRL_LOCK : Fld := ⟨0x008, 31, 1, .rw, 0, .a⟩
def F.HDR_PAGE_CTRL_STOP : Fld := ⟨0x008, 1, 1, .rw, 0, .a⟩
def F.HDR_PAGE_CTRL_ENABLE : Fld := ⟨0x008, 0, 1, .rw, 1, .a⟩
def F.HDR_PAGE_STAT_STOPPED : Fld := ⟨0x00C, 31, 1, .ro, 0, .none⟩
def F.HDR_PAGE_STAT_LOCKED : Fld := ⟨0x00C, 30, 1, .ro, 0, .none⟩
def F.HDR_PAGE_STAT_KEY_ARMED : Fld := ⟨0x00C, 29, 1, .ro, 0, .none⟩
def F.HDR_PAGE_STAT_BLOCK_STAT : Fld := ⟨0x00C, 0, 16, .ro, 0, .none⟩
def F.HDR_EV_STAT_EV : Fld := ⟨0x010, 0, 32, .w1c, 0, .a⟩
def F.HDR_EV_MASK_EN : Fld := ⟨0x014, 0, 32, .rw, 0, .a⟩
def F.HDR_EV_FORCE_FORCE : Fld := ⟨0x018, 0, 32, .wo, 0, .a⟩
def F.HDR_EV_ROUTE_LAST : Fld := ⟨0x01C, 16, 9, .ro, 0, .none⟩
def F.HDR_EV_ROUTE_BASE : Fld := ⟨0x01C, 0, 9, .ro, 0, .none⟩
def F.HDR_ERR_CAPT0_VALID : Fld := ⟨0x020, 31, 1, .w1c, 0, .a⟩
def F.HDR_ERR_CAPT0_MULTI : Fld := ⟨0x020, 30, 1, .ro, 0, .none⟩
def F.HDR_ERR_CAPT0_CODE : Fld := ⟨0x020, 16, 8, .ro, 0, .none⟩
def F.HDR_ERR_CAPT0_COUNT : Fld := ⟨0x020, 0, 16, .ro, 0, .none⟩
def F.HDR_ERR_CAPT1_ADDR_LO : Fld := ⟨0x024, 0, 32, .ro, 0, .none⟩
def F.HDR_ERR_CAPT2_DETAIL : Fld := ⟨0x028, 16, 16, .ro, 0, .none⟩
def F.HDR_ERR_CAPT2_INITIATOR : Fld := ⟨0x028, 12, 4, .ro, 0, .none⟩
def F.HDR_ERR_CAPT2_ADDR_HI : Fld := ⟨0x028, 0, 8, .ro, 0, .none⟩
def F.HDR_ERR_CAPT3_TIME_LO : Fld := ⟨0x02C, 0, 32, .ro, 0, .none⟩
def F.HDR_PAGE_ATTR_REMOTE_WRITE : Fld := ⟨0x030, 30, 2, .rw, 1, .c⟩
def F.HDR_PAGE_ATTR_MGR_MASK : Fld := ⟨0x030, 8, 8, .rw, 1, .c⟩
def F.HDR_PAGE_ATTR_SHADOWED : Fld := ⟨0x030, 2, 1, .ro, 0, .none⟩
def F.HDR_PAGE_ATTR_PREFETCH_OK : Fld := ⟨0x030, 1, 1, .ro, 0, .none⟩
def F.HDR_PAGE_ATTR_SIDEFX : Fld := ⟨0x030, 0, 1, .ro, 0, .none⟩
def F.HDR_COMMIT_PENDING : Fld := ⟨0x034, 31, 1, .ro, 0, .none⟩
def F.HDR_COMMIT_DISCARD : Fld := ⟨0x034, 30, 1, .w1s, 0, .a⟩
def F.HDR_COMMIT_APPLIED_TICK : Fld := ⟨0x034, 0, 16, .ro, 0, .none⟩
def F.HDR_LOCK_KEY_KEY : Fld := ⟨0x038, 16, 16, .wo, 0, .a⟩
def F.HDR_LOCK_KEY_PAGE : Fld := ⟨0x038, 0, 10, .wo, 0, .a⟩

def regsHDR_1 : List Fld :=
  [F.HDR_PAGE_ID_TYPE, F.HDR_PAGE_ID_VERSION, F.HDR_PAGE_ID_INSTANCE, F.HDR_PAGE_CAPS_BLOCK_CAPS, F.HDR_PAGE_CAPS_EV_COUNT, F.HDR_PAGE_CAPS_FIELD_DIE, F.HDR_PAGE_CAPS_HAS_STOP, F.HDR_PAGE_CAPS_HAS_SHADOW, F.HDR_PAGE_CAPS_PRESENT, F.HDR_PAGE_CTRL_LOCK, F.HDR_PAGE_CTRL_STOP, F.HDR_PAGE_CTRL_ENABLE]
def regsHDR_2 : List Fld :=
  [F.HDR_PAGE_STAT_STOPPED, F.HDR_PAGE_STAT_LOCKED, F.HDR_PAGE_STAT_KEY_ARMED, F.HDR_PAGE_STAT_BLOCK_STAT, F.HDR_EV_STAT_EV, F.HDR_EV_MASK_EN, F.HDR_EV_FORCE_FORCE, F.HDR_EV_ROUTE_LAST, F.HDR_EV_ROUTE_BASE, F.HDR_ERR_CAPT0_VALID, F.HDR_ERR_CAPT0_MULTI, F.HDR_ERR_CAPT0_CODE]
def regsHDR_3 : List Fld :=
  [F.HDR_ERR_CAPT0_COUNT, F.HDR_ERR_CAPT1_ADDR_LO, F.HDR_ERR_CAPT2_DETAIL, F.HDR_ERR_CAPT2_INITIATOR, F.HDR_ERR_CAPT2_ADDR_HI, F.HDR_ERR_CAPT3_TIME_LO, F.HDR_PAGE_ATTR_REMOTE_WRITE, F.HDR_PAGE_ATTR_MGR_MASK, F.HDR_PAGE_ATTR_SHADOWED, F.HDR_PAGE_ATTR_PREFETCH_OK, F.HDR_PAGE_ATTR_SIDEFX, F.HDR_COMMIT_PENDING]
def regsHDR_4 : List Fld :=
  [F.HDR_COMMIT_DISCARD, F.HDR_COMMIT_APPLIED_TICK, F.HDR_LOCK_KEY_KEY, F.HDR_LOCK_KEY_PAGE]
/-- Every field of the page header (R29). -/
def regsHDR : List Fld :=
  regsHDR_1 ++ regsHDR_2 ++ regsHDR_3 ++ regsHDR_4

/-! NODE: spec/02_register_pages.md, R35 (NODE page). -/

def F.NODE_NODE_ID_PART : Fld := ⟨0x040, 16, 16, .ro, 0x4410, .none⟩
def F.NODE_NODE_ID_REV : Fld := ⟨0x040, 8, 8, .ro, 1, .none⟩
def F.NODE_NODE_ADDR_VALID : Fld := ⟨0x044, 31, 1, .ro, 0, .none⟩
def F.NODE_NODE_ADDR_ADDR : Fld := ⟨0x044, 0, 12, .ro, 0, .none⟩
def F.NODE_NODE_STATE_LINE : Fld := ⟨0x048, 10, 2, .ro, 0, .none⟩
def F.NODE_NODE_STATE_UPDATE : Fld := ⟨0x048, 8, 2, .ro, 0, .none⟩
def F.NODE_NODE_STATE_ROLE : Fld := ⟨0x048, 6, 2, .ro, 0, .none⟩
def F.NODE_NODE_STATE_POWER : Fld := ⟨0x048, 4, 2, .ro, 0, .none⟩
def F.NODE_NODE_STATE_STATE : Fld := ⟨0x048, 0, 4, .ro, 0, .none⟩
def F.NODE_STATE_REQ_TARGET : Fld := ⟨0x04C, 0, 4, .wo, 0, .a⟩
def F.NODE_RESET_CTRL_KEY : Fld := ⟨0x050, 16, 16, .wo, 0, .a⟩
def F.NODE_RESET_CTRL_WARM : Fld := ⟨0x050, 0, 1, .w1s, 0, .a⟩
def F.NODE_RESET_CAUSE_AO_LOST : Fld := ⟨0x054, 31, 1, .w1c, 0, .a⟩
def F.NODE_RESET_CAUSE_ISOLATE : Fld := ⟨0x054, 8, 1, .w1c, 0, .a⟩
def F.NODE_RESET_CAUSE_ECLIPSE_EXIT : Fld := ⟨0x054, 7, 1, .w1c, 0, .a⟩
def F.NODE_RESET_CAUSE_REMOTE : Fld := ⟨0x054, 6, 1, .w1c, 0, .a⟩
def F.NODE_RESET_CAUSE_SOFTWARE : Fld := ⟨0x054, 5, 1, .w1c, 0, .a⟩
def F.NODE_RESET_CAUSE_WDT_CORE : Fld := ⟨0x054, 4, 1, .w1c, 0, .a⟩
def F.NODE_RESET_CAUSE_WDT_MGMT : Fld := ⟨0x054, 3, 1, .w1c, 0, .a⟩
def F.NODE_RESET_CAUSE_RST_PIN : Fld := ⟨0x054, 2, 1, .w1c, 0, .a⟩
def F.NODE_RESET_CAUSE_POWER_ON : Fld := ⟨0x054, 1, 1, .w1c, 0, .a⟩
def F.NODE_WRITE_REJECT0_VALID : Fld := ⟨0x058, 31, 1, .w1c, 0, .a⟩
def F.NODE_WRITE_REJECT0_MULTI : Fld := ⟨0x058, 30, 1, .ro, 0, .none⟩
def F.NODE_WRITE_REJECT0_CAUSE : Fld := ⟨0x058, 27, 3, .ro, 0, .none⟩
def F.NODE_WRITE_REJECT0_WCLASS : Fld := ⟨0x058, 24, 3, .ro, 0, .none⟩
def F.NODE_WRITE_REJECT0_PAGE : Fld := ⟨0x058, 0, 10, .ro, 0, .none⟩
def F.NODE_WRITE_REJECT1_SRC_NODE : Fld := ⟨0x05C, 20, 12, .ro, 0, .none⟩
def F.NODE_WRITE_REJECT1_INITIATOR : Fld := ⟨0x05C, 16, 4, .ro, 0, .none⟩
def F.NODE_WRITE_REJECT1_OFFSET : Fld := ⟨0x05C, 0, 12, .ro, 0, .none⟩
def F.NODE_WRITE_REJECT2_COUNT : Fld := ⟨0x060, 0, 32, .roc, 0, .none⟩
def F.NODE_MANAGER_VALID (m : Nat) : Fld := ⟨0x080 + 0x4 * m, 31, 1, .rw, if m = 0 then 1 else 0, .c⟩
def F.NODE_MANAGER_ADDR (m : Nat) : Fld := ⟨0x080 + 0x4 * m, 0, 12, .rw, if m = 0 then 0xFFF else 0, .c⟩
/-! NODE: spec/03_node_states.md, R74. -/

def F.NODE_STATE_REFUSE_VALID : Fld := ⟨0x064, 31, 1, .w1c, 0, .a⟩
def F.NODE_STATE_REFUSE_CAUSE : Fld := ⟨0x064, 24, 4, .ro, 0, .none⟩
def F.NODE_STATE_REFUSE_FROM : Fld := ⟨0x064, 4, 4, .ro, 0, .none⟩
def F.NODE_STATE_REFUSE_TARGET : Fld := ⟨0x064, 0, 4, .ro, 0, .none⟩
def F.NODE_DEFER_JOIN_NO_PG : Fld := ⟨0x068, 6, 1, .ro, 0, .none⟩
def F.NODE_DEFER_GW_RESET : Fld := ⟨0x068, 5, 1, .ro, 0, .none⟩
def F.NODE_DEFER_JOIN_COAST : Fld := ⟨0x068, 4, 1, .ro, 0, .none⟩
def F.NODE_DEFER_GW_FAILOVER : Fld := ⟨0x068, 3, 1, .ro, 0, .none⟩
def F.NODE_DEFER_ACT_JOIN : Fld := ⟨0x068, 2, 1, .ro, 0, .none⟩
def F.NODE_DEFER_ACT_COAST : Fld := ⟨0x068, 1, 1, .ro, 0, .none⟩
def F.NODE_DEFER_ACT_CHANGE : Fld := ⟨0x068, 0, 1, .ro, 0, .none⟩
def F.NODE_OWN_FAULT_CAUSE : Fld := ⟨0x06C, 0, 8, .w1c, 0, .a⟩
def F.NODE_STATE_INFO_WAKE : Fld := ⟨0x070, 20, 3, .ro, 0, .none⟩
def F.NODE_STATE_INFO_HELD : Fld := ⟨0x070, 16, 4, .ro, 15, .none⟩
def F.NODE_STATE_INFO_PREV : Fld := ⟨0x070, 12, 4, .ro, 15, .none⟩
def F.NODE_STATE_INFO_ALONE : Fld := ⟨0x070, 4, 1, .ro, 0, .none⟩
def F.NODE_STATE_INFO_ONE_SIDED : Fld := ⟨0x070, 3, 1, .ro, 0, .none⟩
def F.NODE_STATE_INFO_TIME_LOCK : Fld := ⟨0x070, 2, 1, .ro, 0, .none⟩
def F.NODE_STATE_INFO_CFG_OK : Fld := ⟨0x070, 1, 1, .ro, 0, .none⟩
def F.NODE_STATE_INFO_JOIN_DONE : Fld := ⟨0x070, 0, 1, .ro, 0, .none⟩
def F.NODE_STATE_TICK_TICK : Fld := ⟨0x074, 0, 32, .ro, 0, .none⟩

def regsNODE_1 : List Fld :=
  [F.NODE_NODE_ID_PART, F.NODE_NODE_ID_REV, F.NODE_NODE_ADDR_VALID, F.NODE_NODE_ADDR_ADDR, F.NODE_NODE_STATE_LINE, F.NODE_NODE_STATE_UPDATE, F.NODE_NODE_STATE_ROLE, F.NODE_NODE_STATE_POWER, F.NODE_NODE_STATE_STATE, F.NODE_STATE_REQ_TARGET, F.NODE_RESET_CTRL_KEY, F.NODE_RESET_CTRL_WARM]
def regsNODE_2 : List Fld :=
  [F.NODE_RESET_CAUSE_AO_LOST, F.NODE_RESET_CAUSE_ISOLATE, F.NODE_RESET_CAUSE_ECLIPSE_EXIT, F.NODE_RESET_CAUSE_REMOTE, F.NODE_RESET_CAUSE_SOFTWARE, F.NODE_RESET_CAUSE_WDT_CORE, F.NODE_RESET_CAUSE_WDT_MGMT, F.NODE_RESET_CAUSE_RST_PIN, F.NODE_RESET_CAUSE_POWER_ON, F.NODE_WRITE_REJECT0_VALID, F.NODE_WRITE_REJECT0_MULTI, F.NODE_WRITE_REJECT0_CAUSE]
def regsNODE_3 : List Fld :=
  [F.NODE_WRITE_REJECT0_WCLASS, F.NODE_WRITE_REJECT0_PAGE, F.NODE_WRITE_REJECT1_SRC_NODE, F.NODE_WRITE_REJECT1_INITIATOR, F.NODE_WRITE_REJECT1_OFFSET, F.NODE_WRITE_REJECT2_COUNT]
def regsNODE_4 : List Fld :=
  (List.range 8).flatMap fun m => [F.NODE_MANAGER_VALID m, F.NODE_MANAGER_ADDR m]
def regsNODE_5 : List Fld :=
  [F.NODE_STATE_REFUSE_VALID, F.NODE_STATE_REFUSE_CAUSE, F.NODE_STATE_REFUSE_FROM, F.NODE_STATE_REFUSE_TARGET, F.NODE_DEFER_JOIN_NO_PG, F.NODE_DEFER_GW_RESET, F.NODE_DEFER_JOIN_COAST, F.NODE_DEFER_GW_FAILOVER, F.NODE_DEFER_ACT_JOIN, F.NODE_DEFER_ACT_COAST, F.NODE_DEFER_ACT_CHANGE, F.NODE_OWN_FAULT_CAUSE]
def regsNODE_6 : List Fld :=
  [F.NODE_STATE_INFO_WAKE, F.NODE_STATE_INFO_HELD, F.NODE_STATE_INFO_PREV, F.NODE_STATE_INFO_ALONE, F.NODE_STATE_INFO_ONE_SIDED, F.NODE_STATE_INFO_TIME_LOCK, F.NODE_STATE_INFO_CFG_OK, F.NODE_STATE_INFO_JOIN_DONE, F.NODE_STATE_TICK_TICK]
/-- Every field that a page of type NODE defines beyond the header. -/
def regsNODE : List Fld :=
  regsNODE_1 ++ regsNODE_2 ++ regsNODE_3 ++ regsNODE_4 ++ regsNODE_5 ++ regsNODE_6

/-! TIME: spec/04_tick_and_ring_time.md, R110. -/

def F.TIME_TIME_LO_NS : Fld := ⟨0x040, 0, 32, .ro, 0, .none⟩
def F.TIME_TIME_HI_NS : Fld := ⟨0x044, 0, 32, .ro, 0, .none⟩
def F.TIME_TIME_FRAC_FRAC : Fld := ⟨0x048, 0, 16, .ro, 0, .none⟩
def F.TIME_TICK_LO_N : Fld := ⟨0x04C, 0, 32, .ro, 0, .none⟩
def F.TIME_TICK_HI_N : Fld := ⟨0x050, 0, 16, .ro, 0, .none⟩
def F.TIME_TSTART_LO_NS : Fld := ⟨0x054, 0, 32, .ro, 0, .none⟩
def F.TIME_TSTART_HI_NS : Fld := ⟨0x058, 0, 32, .ro, 0, .none⟩
def F.TIME_TICK_CFG_F : Fld := ⟨0x05C, 24, 8, .ro, 0x40, .none⟩
def F.TIME_TICK_CFG_LEN : Fld := ⟨0x05C, 0, 21, .ro, 0x186A0, .none⟩
def F.TIME_TICK_START_LEN_CFG : Fld := ⟨0x060, 0, 21, .rw, 0x186A0, .b⟩
def F.TIME_COMMIT_CFG_CORES : Fld := ⟨0x064, 24, 4, .rws, 15, .t⟩
def F.TIME_COMMIT_CFG_MARGIN : Fld := ⟨0x064, 0, 21, .rws, 0x1388, .t⟩
def F.TIME_CORE_DONE_DONE : Fld := ⟨0x068, 0, 4, .w1s, 0, .a⟩
def F.TIME_OVR_STAT_CONSEC : Fld := ⟨0x06C, 24, 8, .ro, 0, .none⟩
def F.TIME_OVR_STAT_LATE_CORES : Fld := ⟨0x06C, 16, 4, .ro, 0, .none⟩
def F.TIME_ROLE_CFG_GW_PRIMARY : Fld := ⟨0x070, 8, 1, .rw, 0, .b⟩
def F.TIME_ROLE_CFG_STANDBY_PRIO : Fld := ⟨0x070, 0, 2, .rw, 0, .b⟩
def F.TIME_SERVO_CFG_SLEW_MAX : Fld := ⟨0x074, 24, 8, .rws, 0x64, .t⟩
def F.TIME_SERVO_CFG_LOCK_THRESH : Fld := ⟨0x074, 16, 8, .rws, 0x14, .t⟩
def F.TIME_SERVO_CFG_OUTLIER : Fld := ⟨0x074, 0, 16, .rws, 0xC8, .t⟩
def F.TIME_MISS_WIN_NS : Fld := ⟨0x078, 0, 20, .rws, 0x4E20, .t⟩
def F.TIME_SERVO_STAT_LOCKED : Fld := ⟨0x07C, 31, 1, .ro, 0, .none⟩
def F.TIME_SERVO_STAT_HOLDOVER : Fld := ⟨0x07C, 30, 1, .ro, 0, .none⟩
def F.TIME_SERVO_STAT_SLEWING : Fld := ⟨0x07C, 29, 1, .ro, 0, .none⟩
def F.TIME_SERVO_STAT_CLAMP : Fld := ⟨0x07C, 28, 1, .w1c, 0, .a⟩
def F.TIME_SERVO_STAT_SIDES : Fld := ⟨0x07C, 26, 2, .ro, 0, .none⟩
def F.TIME_SERVO_STAT_MISSED : Fld := ⟨0x07C, 20, 4, .ro, 0, .none⟩
def F.TIME_OFFSET_O : Fld := ⟨0x080, 0, 32, .ro, 0, .none⟩
def F.TIME_FREQ_ADJ_PPB : Fld := ⟨0x084, 0, 32, .ro, 0, .none⟩
def F.TIME_PATH_E_HOPS : Fld := ⟨0x088, 21, 11, .ro, 0, .none⟩
def F.TIME_PATH_E_LAT : Fld := ⟨0x088, 0, 20, .ro, 0, .none⟩
def F.TIME_PATH_W_HOPS : Fld := ⟨0x08C, 21, 11, .ro, 0, .none⟩
def F.TIME_PATH_W_LAT : Fld := ⟨0x08C, 0, 20, .ro, 0, .none⟩
def F.TIME_SOURCE_EPOCH : Fld := ⟨0x090, 24, 8, .ro, 0, .none⟩
def F.TIME_SOURCE_LINE : Fld := ⟨0x090, 22, 2, .ro, 0, .none⟩
def F.TIME_SOURCE_PRIO : Fld := ⟨0x090, 20, 2, .ro, 0, .none⟩
def F.TIME_SOURCE_ADDR : Fld := ⟨0x090, 0, 12, .ro, 0, .none⟩
def F.TIME_ZENITH_VALID : Fld := ⟨0x094, 31, 1, .ro, 0, .none⟩
def F.TIME_ZENITH_ADDR : Fld := ⟨0x094, 0, 12, .ro, 0, .none⟩
def F.TIME_ASYM_A : Fld := ⟨0x098, 0, 32, .ro, 0, .none⟩
def F.TIME_CLOSE_LAT_VALID : Fld := ⟨0x09C, 31, 1, .ro, 0, .none⟩
def F.TIME_CLOSE_LAT_NS : Fld := ⟨0x09C, 0, 20, .ro, 0, .none⟩
def F.TIME_CLOSE_E_C : Fld := ⟨0x0A0, 0, 32, .ro, 0, .none⟩
def F.TIME_CLOSE_W_C : Fld := ⟨0x0A4, 0, 32, .ro, 0, .none⟩
def F.TIME_CLOSE_CMN_C : Fld := ⟨0x0A8, 0, 32, .ro, 0, .none⟩
def F.TIME_LINK_DELAY_D (k : Nat) : Fld := ⟨0x0B0 + 0x4 * k, 0, 24, .ro, 0, .none⟩
def F.TIME_CMD_CODE_CODE : Fld := ⟨0x0C0, 0, 8, .rw, 0, .a⟩
def F.TIME_CMD_EFF_LO_E : Fld := ⟨0x0C4, 0, 32, .rw, 0, .a⟩
def F.TIME_CMD_EFF_HI_E : Fld := ⟨0x0C8, 0, 16, .rw, 0, .a⟩
def F.TIME_CMD_ARG_LO_ARG : Fld := ⟨0x0CC, 0, 32, .rw, 0, .a⟩
def F.TIME_CMD_ARG_HI_ARG : Fld := ⟨0x0D0, 0, 32, .rw, 0, .a⟩
def F.TIME_CMD_CTRL_GO : Fld := ⟨0x0D4, 0, 1, .w1s, 0, .a⟩
def F.TIME_CMD_STAT_RESULT : Fld := ⟨0x0D8, 30, 2, .ro, 0, .none⟩
def F.TIME_CMD_STAT_CAUSE : Fld := ⟨0x0D8, 24, 4, .ro, 0, .none⟩
def F.TIME_CMD_STAT_IN_FLIGHT : Fld := ⟨0x0D8, 0, 4, .ro, 0, .none⟩
def F.TIME_LINE_REQ_LINE : Fld := ⟨0x0DC, 0, 2, .wo, 0, .a⟩
def F.TIME_CMD_LEAD_LEAD : Fld := ⟨0x0E0, 0, 16, .ro, 3, .none⟩
def F.TIME_USER_CODE_CODE : Fld := ⟨0x0E4, 0, 8, .ro, 0, .none⟩
def F.TIME_USER_ARG_LO_ARG : Fld := ⟨0x0E8, 0, 32, .ro, 0, .none⟩
def F.TIME_USER_ARG_HI_ARG : Fld := ⟨0x0EC, 0, 32, .ro, 0, .none⟩
def F.TIME_EXT_CFG_EXT_SLEW : Fld := ⟨0x0F0, 8, 8, .rw, 10, .c⟩
def F.TIME_EXT_CFG_SRC : Fld := ⟨0x0F0, 0, 3, .rw, 0, .c⟩
def F.TIME_CNT_TICK_E_N : Fld := ⟨0x100, 0, 32, .ro, 0, .none⟩
def F.TIME_CNT_TICK_W_N : Fld := ⟨0x104, 0, 32, .ro, 0, .none⟩
def F.TIME_CNT_MISSED_N : Fld := ⟨0x108, 0, 32, .ro, 0, .none⟩
def F.TIME_CNT_OVERRUN_N : Fld := ⟨0x10C, 0, 32, .ro, 0, .none⟩
def F.TIME_CNT_LATE_DONE_N : Fld := ⟨0x110, 0, 32, .ro, 0, .none⟩
def F.TIME_CNT_OUTLIER_N : Fld := ⟨0x114, 0, 32, .ro, 0, .none⟩
def F.TIME_CNT_PROBE_OUTLIER_N : Fld := ⟨0x118, 0, 32, .ro, 0, .none⟩
def F.TIME_CNT_REJECT_N : Fld := ⟨0x11C, 0, 32, .ro, 0, .none⟩
def F.TIME_CNT_CMD_LATE_N : Fld := ⟨0x120, 0, 32, .ro, 0, .none⟩
def F.TIME_CNT_BAD_CMD_N : Fld := ⟨0x124, 0, 32, .ro, 0, .none⟩
def F.TIME_CNT_CLEAR_CLEAR : Fld := ⟨0x128, 0, 1, .w1s, 0, .a⟩

def regsTIME_1 : List Fld :=
  [F.TIME_TIME_LO_NS, F.TIME_TIME_HI_NS, F.TIME_TIME_FRAC_FRAC, F.TIME_TICK_LO_N, F.TIME_TICK_HI_N, F.TIME_TSTART_LO_NS, F.TIME_TSTART_HI_NS, F.TIME_TICK_CFG_F, F.TIME_TICK_CFG_LEN, F.TIME_TICK_START_LEN_CFG, F.TIME_COMMIT_CFG_CORES, F.TIME_COMMIT_CFG_MARGIN]
def regsTIME_2 : List Fld :=
  [F.TIME_CORE_DONE_DONE, F.TIME_OVR_STAT_CONSEC, F.TIME_OVR_STAT_LATE_CORES, F.TIME_ROLE_CFG_GW_PRIMARY, F.TIME_ROLE_CFG_STANDBY_PRIO, F.TIME_SERVO_CFG_SLEW_MAX, F.TIME_SERVO_CFG_LOCK_THRESH, F.TIME_SERVO_CFG_OUTLIER, F.TIME_MISS_WIN_NS, F.TIME_SERVO_STAT_LOCKED, F.TIME_SERVO_STAT_HOLDOVER, F.TIME_SERVO_STAT_SLEWING]
def regsTIME_3 : List Fld :=
  [F.TIME_SERVO_STAT_CLAMP, F.TIME_SERVO_STAT_SIDES, F.TIME_SERVO_STAT_MISSED, F.TIME_OFFSET_O, F.TIME_FREQ_ADJ_PPB, F.TIME_PATH_E_HOPS, F.TIME_PATH_E_LAT, F.TIME_PATH_W_HOPS, F.TIME_PATH_W_LAT, F.TIME_SOURCE_EPOCH, F.TIME_SOURCE_LINE, F.TIME_SOURCE_PRIO]
def regsTIME_4 : List Fld :=
  [F.TIME_SOURCE_ADDR, F.TIME_ZENITH_VALID, F.TIME_ZENITH_ADDR, F.TIME_ASYM_A, F.TIME_CLOSE_LAT_VALID, F.TIME_CLOSE_LAT_NS, F.TIME_CLOSE_E_C, F.TIME_CLOSE_W_C, F.TIME_CLOSE_CMN_C]
def regsTIME_5 : List Fld :=
  (List.range 4).flatMap fun k => [F.TIME_LINK_DELAY_D k]
def regsTIME_6 : List Fld :=
  [F.TIME_CMD_CODE_CODE, F.TIME_CMD_EFF_LO_E, F.TIME_CMD_EFF_HI_E, F.TIME_CMD_ARG_LO_ARG, F.TIME_CMD_ARG_HI_ARG, F.TIME_CMD_CTRL_GO, F.TIME_CMD_STAT_RESULT, F.TIME_CMD_STAT_CAUSE, F.TIME_CMD_STAT_IN_FLIGHT, F.TIME_LINE_REQ_LINE, F.TIME_CMD_LEAD_LEAD, F.TIME_USER_CODE_CODE]
def regsTIME_7 : List Fld :=
  [F.TIME_USER_ARG_LO_ARG, F.TIME_USER_ARG_HI_ARG, F.TIME_EXT_CFG_EXT_SLEW, F.TIME_EXT_CFG_SRC, F.TIME_CNT_TICK_E_N, F.TIME_CNT_TICK_W_N, F.TIME_CNT_MISSED_N, F.TIME_CNT_OVERRUN_N, F.TIME_CNT_LATE_DONE_N, F.TIME_CNT_OUTLIER_N, F.TIME_CNT_PROBE_OUTLIER_N, F.TIME_CNT_REJECT_N]
def regsTIME_8 : List Fld :=
  [F.TIME_CNT_CMD_LATE_N, F.TIME_CNT_BAD_CMD_N, F.TIME_CNT_CLEAR_CLEAR]
/-- Every field that a page of type TIME defines beyond the header. -/
def regsTIME : List Fld :=
  regsTIME_1 ++ regsTIME_2 ++ regsTIME_3 ++ regsTIME_4 ++ regsTIME_5 ++ regsTIME_6 ++ regsTIME_7 ++ regsTIME_8

/-! LANE: spec/05_ring_links_and_frames.md, R144. -/

def F.LANE_LANE_CFG_RATE : Fld := ⟨0x040, 30, 2, .rw, 0, .s⟩
def F.LANE_LANE_CFG_FEC : Fld := ⟨0x040, 28, 2, .rw, 0, .s⟩
def F.LANE_LANE_CFG_MEDIA : Fld := ⟨0x040, 27, 1, .rw, 0, .s⟩
def F.LANE_LANE_CFG_TX_INVERT : Fld := ⟨0x040, 26, 1, .rw, 0, .s⟩
def F.LANE_LANE_CFG_RX_AUTO_INV : Fld := ⟨0x040, 25, 1, .rw, 1, .s⟩
def F.LANE_LANE_CFG_ERR_DOWN : Fld := ⟨0x040, 24, 1, .rw, 0, .a⟩
def F.LANE_LANE_CFG_TX_EQ : Fld := ⟨0x040, 16, 8, .rw, 0, .s⟩
def F.LANE_LANE_CFG_FLAP_MAX : Fld := ⟨0x040, 8, 8, .rw, 5, .a⟩
def F.LANE_LANE_CFG_FLAP_HOLD : Fld := ⟨0x040, 0, 8, .rw, 0x1E, .a⟩
def F.LANE_LANE_TMR_LOCK_TO : Fld := ⟨0x044, 20, 12, .rw, 0x64, .a⟩
def F.LANE_LANE_TMR_HELLO_TO : Fld := ⟨0x044, 8, 12, .rw, 10, .a⟩
def F.LANE_ERR_CFG_CRC_LIMIT : Fld := ⟨0x048, 0, 16, .rw, 0x64, .a⟩
def F.LANE_LANE_STAT_STATE : Fld := ⟨0x04C, 28, 4, .ro, 0, .none⟩
def F.LANE_LANE_STAT_CAUSE : Fld := ⟨0x04C, 24, 4, .ro, 0, .none⟩
def F.LANE_LANE_STAT_RX_INVERTED : Fld := ⟨0x04C, 23, 1, .ro, 0, .none⟩
def F.LANE_LANE_STAT_CLK_RANGE : Fld := ⟨0x04C, 22, 1, .ro, 0, .none⟩
def F.LANE_LANE_STAT_REVERSED : Fld := ⟨0x04C, 21, 1, .ro, 0, .none⟩
def F.LANE_LANE_STAT_NBR_PRESENT : Fld := ⟨0x04C, 20, 1, .ro, 0, .none⟩
def F.LANE_LANE_STAT_SUP_MISSED : Fld := ⟨0x04C, 16, 4, .ro, 0, .none⟩
def F.LANE_LANE_STAT_ROLE : Fld := ⟨0x04C, 14, 2, .ro, 0, .none⟩
def F.LANE_LANE_STAT_RING : Fld := ⟨0x04C, 12, 2, .ro, 0, .none⟩
def F.LANE_LANE_STAT_DOWNS : Fld := ⟨0x04C, 0, 8, .ro, 0, .none⟩
def F.LANE_LANE_PPM_PPM : Fld := ⟨0x050, 0, 16, .ro, 0, .none⟩
def F.LANE_NBR_INFO_VALID : Fld := ⟨0x054, 31, 1, .ro, 0, .none⟩
def F.LANE_NBR_INFO_STATE : Fld := ⟨0x054, 24, 4, .ro, 0, .none⟩
def F.LANE_NBR_INFO_LANE : Fld := ⟨0x054, 22, 2, .ro, 0, .none⟩
def F.LANE_NBR_INFO_ADDR_VALID : Fld := ⟨0x054, 21, 1, .ro, 0, .none⟩
def F.LANE_NBR_INFO_ADDR : Fld := ⟨0x054, 0, 12, .ro, 0, .none⟩
def F.LANE_NBR_UID_LO_UID : Fld := ⟨0x058, 0, 32, .ro, 0, .none⟩
def F.LANE_NBR_UID_HI_UID : Fld := ⟨0x05C, 0, 32, .ro, 0, .none⟩
def F.LANE_RX_FRAMES_N : Fld := ⟨0x080, 0, 32, .roc, 0, .none⟩
def F.LANE_TX_FRAMES_N : Fld := ⟨0x084, 0, 32, .roc, 0, .none⟩
def F.LANE_CRC_ERR_N : Fld := ⟨0x088, 0, 32, .roc, 0, .none⟩
def F.LANE_HCRC_ERR_N : Fld := ⟨0x08C, 0, 32, .roc, 0, .none⟩
def F.LANE_BAD_HDR_N : Fld := ⟨0x090, 0, 32, .roc, 0, .none⟩
def F.LANE_LEN_ERR_N : Fld := ⟨0x094, 0, 32, .roc, 0, .none⟩
def F.LANE_STOMP_SEEN_N : Fld := ⟨0x098, 0, 32, .roc, 0, .none⟩
def F.LANE_STOMP_SENT_N : Fld := ⟨0x09C, 0, 32, .roc, 0, .none⟩
def F.LANE_PCS_ERR_N : Fld := ⟨0x0A0, 0, 32, .roc, 0, .none⟩
def F.LANE_FEC_CORR_N : Fld := ⟨0x0A4, 0, 32, .roc, 0, .none⟩
def F.LANE_FEC_UNCORR_N : Fld := ⟨0x0A8, 0, 32, .roc, 0, .none⟩
def F.LANE_HALO_DUP_N : Fld := ⟨0x0AC, 0, 32, .roc, 0, .none⟩
def F.LANE_NBR_MISSED_N : Fld := ⟨0x0B0, 0, 32, .roc, 0, .none⟩
def F.LANE_DOWN_COUNT_N : Fld := ⟨0x0B4, 0, 32, .roc, 0, .none⟩

def regsLANE_1 : List Fld :=
  [F.LANE_LANE_CFG_RATE, F.LANE_LANE_CFG_FEC, F.LANE_LANE_CFG_MEDIA, F.LANE_LANE_CFG_TX_INVERT, F.LANE_LANE_CFG_RX_AUTO_INV, F.LANE_LANE_CFG_ERR_DOWN, F.LANE_LANE_CFG_TX_EQ, F.LANE_LANE_CFG_FLAP_MAX, F.LANE_LANE_CFG_FLAP_HOLD, F.LANE_LANE_TMR_LOCK_TO, F.LANE_LANE_TMR_HELLO_TO, F.LANE_ERR_CFG_CRC_LIMIT]
def regsLANE_2 : List Fld :=
  [F.LANE_LANE_STAT_STATE, F.LANE_LANE_STAT_CAUSE, F.LANE_LANE_STAT_RX_INVERTED, F.LANE_LANE_STAT_CLK_RANGE, F.LANE_LANE_STAT_REVERSED, F.LANE_LANE_STAT_NBR_PRESENT, F.LANE_LANE_STAT_SUP_MISSED, F.LANE_LANE_STAT_ROLE, F.LANE_LANE_STAT_RING, F.LANE_LANE_STAT_DOWNS, F.LANE_LANE_PPM_PPM, F.LANE_NBR_INFO_VALID]
def regsLANE_3 : List Fld :=
  [F.LANE_NBR_INFO_STATE, F.LANE_NBR_INFO_LANE, F.LANE_NBR_INFO_ADDR_VALID, F.LANE_NBR_INFO_ADDR, F.LANE_NBR_UID_LO_UID, F.LANE_NBR_UID_HI_UID, F.LANE_RX_FRAMES_N, F.LANE_TX_FRAMES_N, F.LANE_CRC_ERR_N, F.LANE_HCRC_ERR_N, F.LANE_BAD_HDR_N, F.LANE_LEN_ERR_N]
def regsLANE_4 : List Fld :=
  [F.LANE_STOMP_SEEN_N, F.LANE_STOMP_SENT_N, F.LANE_PCS_ERR_N, F.LANE_FEC_CORR_N, F.LANE_FEC_UNCORR_N, F.LANE_HALO_DUP_N, F.LANE_NBR_MISSED_N, F.LANE_DOWN_COUNT_N]
/-- Every field that a page of type LANE defines beyond the header. -/
def regsLANE : List Fld :=
  regsLANE_1 ++ regsLANE_2 ++ regsLANE_3 ++ regsLANE_4

/-! HALO: spec/05_ring_links_and_frames.md, R146. -/

def F.HALO_RING_CFG_ANCHOR : Fld := ⟨0x040, 31, 1, .rw, 0, .b⟩
def F.HALO_RING_CFG_ADDR_MODE : Fld := ⟨0x040, 30, 1, .rw, 0, .b⟩
def F.HALO_RING_CFG_RING_NUM : Fld := ⟨0x040, 28, 2, .rw, 0, .b⟩
def F.HALO_RING_CFG_RING_SIZE : Fld := ⟨0x040, 16, 11, .rw, 0, .b⟩
def F.HALO_RING_CFG_FIXED_POS : Fld := ⟨0x040, 0, 10, .rw, 0, .b⟩
def F.HALO_HALO_CFG_ANNOUNCE_HOLD : Fld := ⟨0x044, 24, 8, .rw, 10, .b⟩
def F.HALO_HALO_CFG_HALO_AGE : Fld := ⟨0x044, 12, 12, .rw, 0x64, .b⟩
def F.HALO_STATUS_CFG_STATUS_PERIOD : Fld := ⟨0x048, 0, 16, .rws, 0x100, .t⟩
def F.HALO_JOIN_STAT_ADDR_VALID : Fld := ⟨0x04C, 31, 1, .ro, 0, .none⟩
def F.HALO_JOIN_STAT_ADDR_SRC : Fld := ⟨0x04C, 28, 3, .ro, 0, .none⟩
def F.HALO_JOIN_STAT_ADDR_FAULT : Fld := ⟨0x04C, 24, 4, .ro, 0, .none⟩
def F.HALO_JOIN_STAT_ANNOUNCED : Fld := ⟨0x04C, 23, 1, .ro, 0, .none⟩
def F.HALO_JOIN_STAT_HOLD_DONE : Fld := ⟨0x04C, 22, 1, .ro, 0, .none⟩
def F.HALO_JOIN_STAT_AO_LOST : Fld := ⟨0x04C, 21, 1, .ro, 0, .none⟩
def F.HALO_JOIN_STAT_INCARNATION : Fld := ⟨0x04C, 0, 16, .ro, 0, .none⟩
def F.HALO_RING_STAT_BROKEN : Fld := ⟨0x050, 31, 1, .ro, 0, .none⟩
def F.HALO_RING_STAT_BREAKS : Fld := ⟨0x050, 16, 10, .ro, 0, .none⟩
def F.HALO_RING_STAT_PRESENT_COUNT : Fld := ⟨0x050, 0, 13, .ro, 0, .none⟩
def F.HALO_LAST_BREAK_VALID : Fld := ⟨0x054, 31, 1, .ro, 0, .none⟩
def F.HALO_LAST_BREAK_WEST_END : Fld := ⟨0x054, 16, 12, .ro, 0, .none⟩
def F.HALO_LAST_BREAK_EAST_END : Fld := ⟨0x054, 0, 12, .ro, 0, .none⟩
def F.HALO_ENTRY_SEL_GROUP : Fld := ⟨0x058, 12, 1, .rw, 0, .a⟩
def F.HALO_ENTRY_SEL_SRC : Fld := ⟨0x058, 0, 12, .rw, 0, .a⟩
def F.HALO_ENTRY_STAT_VALID : Fld := ⟨0x05C, 31, 1, .ro, 0, .none⟩
def F.HALO_ENTRY_STAT_PENDING : Fld := ⟨0x05C, 30, 1, .ro, 0, .none⟩
def F.HALO_ENTRY_STAT_BASE : Fld := ⟨0x05C, 0, 16, .ro, 0, .none⟩
def F.HALO_ENTRY_MAP_LO_MAP : Fld := ⟨0x060, 0, 32, .ro, 0, .none⟩
def F.HALO_ENTRY_MAP_HI_MAP : Fld := ⟨0x064, 0, 32, .ro, 0, .none⟩
def F.HALO_ENTRY_INC_SEEN : Fld := ⟨0x068, 31, 1, .ro, 0, .none⟩
def F.HALO_ENTRY_INC_INC : Fld := ⟨0x068, 0, 16, .ro, 0, .none⟩
def F.HALO_CNT_ACCEPT0_N : Fld := ⟨0x080, 0, 32, .ro, 0, .none⟩
def F.HALO_CNT_ACCEPT1_N : Fld := ⟨0x084, 0, 32, .ro, 0, .none⟩
def F.HALO_CNT_DUP0_N : Fld := ⟨0x088, 0, 32, .ro, 0, .none⟩
def F.HALO_CNT_DUP1_N : Fld := ⟨0x08C, 0, 32, .ro, 0, .none⟩
def F.HALO_CNT_STALE_N : Fld := ⟨0x090, 0, 32, .ro, 0, .none⟩
def F.HALO_CNT_HELD_N : Fld := ⟨0x094, 0, 32, .ro, 0, .none⟩
def F.HALO_CNT_STRIP_N : Fld := ⟨0x098, 0, 32, .ro, 0, .none⟩
def F.HALO_CNT_RESTART_N : Fld := ⟨0x09C, 0, 32, .ro, 0, .none⟩
def F.HALO_CNT_AGED_N : Fld := ⟨0x0A0, 0, 32, .ro, 0, .none⟩
def F.HALO_CNT_CLEAR_CLEAR : Fld := ⟨0x0A4, 0, 1, .w1s, 0, .a⟩
def F.HALO_PRESENT_P (k : Nat) : Fld := ⟨0x200 + 0x4 * k, 0, 32, .ro, 0, .none⟩

def regsHALO_1 : List Fld :=
  [F.HALO_RING_CFG_ANCHOR, F.HALO_RING_CFG_ADDR_MODE, F.HALO_RING_CFG_RING_NUM, F.HALO_RING_CFG_RING_SIZE, F.HALO_RING_CFG_FIXED_POS, F.HALO_HALO_CFG_ANNOUNCE_HOLD, F.HALO_HALO_CFG_HALO_AGE, F.HALO_STATUS_CFG_STATUS_PERIOD, F.HALO_JOIN_STAT_ADDR_VALID, F.HALO_JOIN_STAT_ADDR_SRC, F.HALO_JOIN_STAT_ADDR_FAULT, F.HALO_JOIN_STAT_ANNOUNCED]
def regsHALO_2 : List Fld :=
  [F.HALO_JOIN_STAT_HOLD_DONE, F.HALO_JOIN_STAT_AO_LOST, F.HALO_JOIN_STAT_INCARNATION, F.HALO_RING_STAT_BROKEN, F.HALO_RING_STAT_BREAKS, F.HALO_RING_STAT_PRESENT_COUNT, F.HALO_LAST_BREAK_VALID, F.HALO_LAST_BREAK_WEST_END, F.HALO_LAST_BREAK_EAST_END, F.HALO_ENTRY_SEL_GROUP, F.HALO_ENTRY_SEL_SRC, F.HALO_ENTRY_STAT_VALID]
def regsHALO_3 : List Fld :=
  [F.HALO_ENTRY_STAT_PENDING, F.HALO_ENTRY_STAT_BASE, F.HALO_ENTRY_MAP_LO_MAP, F.HALO_ENTRY_MAP_HI_MAP, F.HALO_ENTRY_INC_SEEN, F.HALO_ENTRY_INC_INC, F.HALO_CNT_ACCEPT0_N, F.HALO_CNT_ACCEPT1_N, F.HALO_CNT_DUP0_N, F.HALO_CNT_DUP1_N, F.HALO_CNT_STALE_N, F.HALO_CNT_HELD_N]
def regsHALO_4 : List Fld :=
  [F.HALO_CNT_STRIP_N, F.HALO_CNT_RESTART_N, F.HALO_CNT_AGED_N, F.HALO_CNT_CLEAR_CLEAR]
def regsHALO_5 : List Fld :=
  (List.range 128).flatMap fun k => [F.HALO_PRESENT_P k]
/-- Every field that a page of type HALO defines beyond the header. -/
def regsHALO : List Fld :=
  regsHALO_1 ++ regsHALO_2 ++ regsHALO_3 ++ regsHALO_4 ++ regsHALO_5

/-! SWITCH: spec/06_switch_core.md, R178. -/

def F.SWITCH_SW_CFG_PUB_AGE : Fld := ⟨0x040, 8, 4, .rws, 1, .t⟩
def F.SWITCH_SW_CFG_CT_CLASSES : Fld := ⟨0x040, 0, 8, .rw, 0xFF, .c⟩
def F.SWITCH_GRP_SEL_GROUP : Fld := ⟨0x044, 0, 12, .rw, 0, .a⟩
def F.SWITCH_GRP_DATA_VALID : Fld := ⟨0x048, 31, 1, .rw, 0, .a⟩
def F.SWITCH_GRP_DATA_PORTS : Fld := ⟨0x048, 0, 14, .rw, 0, .a⟩
def F.SWITCH_CNT_CT_N : Fld := ⟨0x080, 0, 32, .ro, 0, .none⟩
def F.SWITCH_CNT_SF_N : Fld := ⟨0x084, 0, 32, .ro, 0, .none⟩
def F.SWITCH_CNT_MC_REFUSED_N : Fld := ⟨0x088, 0, 32, .ro, 0, .none⟩
def F.SWITCH_CNT_CLEAR_CLEAR : Fld := ⟨0x08C, 0, 1, .w1s, 0, .a⟩

def regsSWITCH_1 : List Fld :=
  [F.SWITCH_SW_CFG_PUB_AGE, F.SWITCH_SW_CFG_CT_CLASSES, F.SWITCH_GRP_SEL_GROUP, F.SWITCH_GRP_DATA_VALID, F.SWITCH_GRP_DATA_PORTS, F.SWITCH_CNT_CT_N, F.SWITCH_CNT_SF_N, F.SWITCH_CNT_MC_REFUSED_N, F.SWITCH_CNT_CLEAR_CLEAR]
/-- Every field that a page of type SWITCH defines beyond the header. -/
def regsSWITCH : List Fld :=
  regsSWITCH_1

/-! SWPORT: spec/06_switch_core.md, R180. -/

def F.SWPORT_PORT_CFG_CT_EN : Fld := ⟨0x040, 31, 1, .rw, 1, .c⟩
def F.SWPORT_PORT_CFG_GUARD_MODE : Fld := ⟨0x040, 30, 1, .rws, 0, .t⟩
def F.SWPORT_PORT_STAT_DOWN : Fld := ⟨0x044, 31, 1, .ro, 1, .none⟩
def F.SWPORT_PORT_STAT_TX_BUSY : Fld := ⟨0x044, 30, 1, .ro, 0, .none⟩
def F.SWPORT_PORT_STAT_RATE : Fld := ⟨0x044, 0, 20, .ro, 0, .none⟩
def F.SWPORT_GATE_STAT_ELIGIBLE : Fld := ⟨0x048, 8, 8, .ro, 0, .none⟩
def F.SWPORT_GATE_STAT_OPEN : Fld := ⟨0x048, 0, 8, .ro, 0xFF, .none⟩
def F.SWPORT_ALERT_STAT_ALERT : Fld := ⟨0x04C, 0, 8, .w1c, 0, .a⟩
def F.SWPORT_GCL_VALID (k : Nat) : Fld := ⟨0x050 + 0x4 * k, 31, 1, .rws, if k < 2 then 1 else 0, .t⟩
def F.SWPORT_GCL_AT_W (k : Nat) : Fld := ⟨0x050 + 0x4 * k, 30, 1, .rws, if k = 1 then 1 else 0, .t⟩
def F.SWPORT_GCL_GATES (k : Nat) : Fld := ⟨0x050 + 0x4 * k, 22, 8, .rws, if k = 0 then 0xE0 else if k = 1 then 0xDF else 0, .t⟩
def F.SWPORT_GCL_OFFSET (k : Nat) : Fld := ⟨0x050 + 0x4 * k, 0, 21, .rws, 0, .t⟩
def F.SWPORT_GUARD_NS (k : Nat) : Fld := ⟨0x070 + 0x4 * k, 0, 16, .rws, 0x690, .t⟩
def F.SWPORT_SHAPER_CFG_RESET_HI : Fld := ⟨0x090, 4, 4, .rw, 0, .a⟩
def F.SWPORT_SHAPER_CFG_EN : Fld := ⟨0x090, 0, 4, .rw, 0, .a⟩
def F.SWPORT_SHAPER_RESETS_N : Fld := ⟨0x094, 0, 32, .roc, 0, .none⟩
def F.SWPORT_IDLE_SLOPE_KBPS (c : Nat) : Fld := ⟨0x0A0 + 0x10 * c, 0, 25, .rw, 0, .a⟩
def F.SWPORT_HI_CREDIT_BITS (c : Nat) : Fld := ⟨0x0A4 + 0x10 * c, 0, 24, .rw, 0x4140, .a⟩
def F.SWPORT_LO_CREDIT_BITS (c : Nat) : Fld := ⟨0x0A8 + 0x10 * c, 0, 24, .rw, 0x4140, .a⟩
def F.SWPORT_CREDIT_BITS (c : Nat) : Fld := ⟨0x0AC + 0x10 * c, 0, 32, .ro, 0, .none⟩
def F.SWPORT_LAST_DISCARD_BITS (c : Nat) : Fld := ⟨0x0E0 + 0x4 * c, 0, 32, .ro, 0, .none⟩
def F.SWPORT_METER_CFG_ACTION : Fld := ⟨0x0F0, 4, 3, .rw, 0, .a⟩
def F.SWPORT_METER_CFG_EN : Fld := ⟨0x0F0, 0, 3, .rw, 0, .a⟩
def F.SWPORT_METER_RATE_KBPS (c : Nat) : Fld := ⟨0x0F4 + 0x8 * c, 0, 25, .rw, 0, .a⟩
def F.SWPORT_METER_BURST_BYTES (c : Nat) : Fld := ⟨0x0F8 + 0x8 * c, 0, 20, .rw, 0x4000, .a⟩
def F.SWPORT_SQ_LIMIT_OUT : Fld := ⟨0x10C, 16, 16, .rw, 0x3E8, .a⟩
def F.SWPORT_SQ_LIMIT_IN : Fld := ⟨0x10C, 0, 16, .rw, 0x3E8, .a⟩
def F.SWPORT_SQ_INTERVAL_MS : Fld := ⟨0x110, 0, 10, .rw, 10, .a⟩
def F.SWPORT_DROP_N (k : Nat) : Fld := ⟨0x140 + 0x4 * k, 0, 32, .roc, 0, .none⟩
def F.SWPORT_FLUSH_N (k : Nat) : Fld := ⟨0x160 + 0x4 * k, 0, 32, .roc, 0, .none⟩
def F.SWPORT_TX_FRAMES_N : Fld := ⟨0x180, 0, 32, .roc, 0, .none⟩
def F.SWPORT_CT_FRAMES_N : Fld := ⟨0x184, 0, 32, .roc, 0, .none⟩
def F.SWPORT_GATE_OVERRUN_N : Fld := ⟨0x188, 0, 32, .roc, 0, .none⟩
def F.SWPORT_OVERSIZE_N : Fld := ⟨0x18C, 0, 32, .roc, 0, .none⟩
def F.SWPORT_AGED_N : Fld := ⟨0x190, 0, 32, .roc, 0, .none⟩
def F.SWPORT_BP_COUNT_N : Fld := ⟨0x194, 0, 32, .roc, 0, .none⟩
def F.SWPORT_METER_DROP_N (k : Nat) : Fld := ⟨0x198 + 0x4 * k, 0, 32, .roc, 0, .none⟩
def F.SWPORT_SQ_IN_DROP_N : Fld := ⟨0x1A4, 0, 32, .roc, 0, .none⟩
def F.SWPORT_SQ_OUT_DROP_N : Fld := ⟨0x1A8, 0, 32, .roc, 0, .none⟩

def regsSWPORT_1 : List Fld :=
  [F.SWPORT_PORT_CFG_CT_EN, F.SWPORT_PORT_CFG_GUARD_MODE, F.SWPORT_PORT_STAT_DOWN, F.SWPORT_PORT_STAT_TX_BUSY, F.SWPORT_PORT_STAT_RATE, F.SWPORT_GATE_STAT_ELIGIBLE, F.SWPORT_GATE_STAT_OPEN, F.SWPORT_ALERT_STAT_ALERT]
def regsSWPORT_2 : List Fld :=
  (List.range 8).flatMap fun k => [F.SWPORT_GCL_VALID k, F.SWPORT_GCL_AT_W k, F.SWPORT_GCL_GATES k, F.SWPORT_GCL_OFFSET k, F.SWPORT_GUARD_NS k]
def regsSWPORT_3 : List Fld :=
  [F.SWPORT_SHAPER_CFG_RESET_HI, F.SWPORT_SHAPER_CFG_EN, F.SWPORT_SHAPER_RESETS_N]
def regsSWPORT_4 : List Fld :=
  (List.range 4).flatMap fun c => [F.SWPORT_IDLE_SLOPE_KBPS c, F.SWPORT_HI_CREDIT_BITS c, F.SWPORT_LO_CREDIT_BITS c, F.SWPORT_CREDIT_BITS c, F.SWPORT_LAST_DISCARD_BITS c]
def regsSWPORT_5 : List Fld :=
  [F.SWPORT_METER_CFG_ACTION, F.SWPORT_METER_CFG_EN]
def regsSWPORT_6 : List Fld :=
  (List.range 3).flatMap fun c => [F.SWPORT_METER_RATE_KBPS c, F.SWPORT_METER_BURST_BYTES c]
def regsSWPORT_7 : List Fld :=
  [F.SWPORT_SQ_LIMIT_OUT, F.SWPORT_SQ_LIMIT_IN, F.SWPORT_SQ_INTERVAL_MS]
def regsSWPORT_8 : List Fld :=
  (List.range 8).flatMap fun k => [F.SWPORT_DROP_N k, F.SWPORT_FLUSH_N k]
def regsSWPORT_9 : List Fld :=
  [F.SWPORT_TX_FRAMES_N, F.SWPORT_CT_FRAMES_N, F.SWPORT_GATE_OVERRUN_N, F.SWPORT_OVERSIZE_N, F.SWPORT_AGED_N, F.SWPORT_BP_COUNT_N]
def regsSWPORT_10 : List Fld :=
  (List.range 3).flatMap fun k => [F.SWPORT_METER_DROP_N k]
def regsSWPORT_11 : List Fld :=
  [F.SWPORT_SQ_IN_DROP_N, F.SWPORT_SQ_OUT_DROP_N]
/-- Every field that a page of type SWPORT defines beyond the header. -/
def regsSWPORT : List Fld :=
  regsSWPORT_1 ++ regsSWPORT_2 ++ regsSWPORT_3 ++ regsSWPORT_4 ++ regsSWPORT_5 ++ regsSWPORT_6 ++ regsSWPORT_7 ++ regsSWPORT_8 ++ regsSWPORT_9 ++ regsSWPORT_10 ++ regsSWPORT_11

/-! CELLPOOL: spec/06_switch_core.md, R182. -/

def F.CELLPOOL_POOL_CFG_POOL_RESERVE : Fld := ⟨0x040, 0, 15, .rw, 0x400, .c⟩
def F.CELLPOOL_POOL_STAT_OVERCOMMIT : Fld := ⟨0x044, 31, 1, .ro, 0, .none⟩
def F.CELLPOOL_POOL_STAT_FREE : Fld := ⟨0x044, 0, 15, .ro, 0x6000, .none⟩
def F.CELLPOOL_GUAR_SUM_CELLS : Fld := ⟨0x048, 0, 25, .ro, 0, .none⟩
def F.CELLPOOL_GUAR_UNUSED_CELLS : Fld := ⟨0x04C, 0, 15, .ro, 0, .none⟩
def F.CELLPOOL_SHARED_FREE_CELLS : Fld := ⟨0x050, 0, 16, .ro, 0x6000, .none⟩
def F.CELLPOOL_USED_MAX_CELLS : Fld := ⟨0x054, 0, 15, .roc, 0, .none⟩
def F.CELLPOOL_SHARED_MIN_CELLS : Fld := ⟨0x058, 0, 16, .roc, 0x6000, .none⟩
def F.CELLPOOL_WM_EN (k : Nat) : Fld := ⟨0x060 + 0x4 * k, 31, 1, .rw, 0, .a⟩
def F.CELLPOOL_WM_LEVEL (k : Nat) : Fld := ⟨0x060 + 0x4 * k, 0, 15, .rw, 0, .a⟩
def F.CELLPOOL_WM_STAT_CROSSED : Fld := ⟨0x070, 0, 4, .w1c, 0, .a⟩
def F.CELLPOOL_CNT_ALLOC_FAIL_N : Fld := ⟨0x080, 0, 32, .roc, 0, .none⟩
def F.CELLPOOL_CNT_ECC_CORR_N : Fld := ⟨0x084, 0, 32, .roc, 0, .none⟩
def F.CELLPOOL_CNT_ECC_UNCORR_N : Fld := ⟨0x088, 0, 32, .roc, 0, .none⟩

def regsCELLPOOL_1 : List Fld :=
  [F.CELLPOOL_POOL_CFG_POOL_RESERVE, F.CELLPOOL_POOL_STAT_OVERCOMMIT, F.CELLPOOL_POOL_STAT_FREE, F.CELLPOOL_GUAR_SUM_CELLS, F.CELLPOOL_GUAR_UNUSED_CELLS, F.CELLPOOL_SHARED_FREE_CELLS, F.CELLPOOL_USED_MAX_CELLS, F.CELLPOOL_SHARED_MIN_CELLS]
def regsCELLPOOL_2 : List Fld :=
  (List.range 4).flatMap fun k => [F.CELLPOOL_WM_EN k, F.CELLPOOL_WM_LEVEL k]
def regsCELLPOOL_3 : List Fld :=
  [F.CELLPOOL_WM_STAT_CROSSED, F.CELLPOOL_CNT_ALLOC_FAIL_N, F.CELLPOOL_CNT_ECC_CORR_N, F.CELLPOOL_CNT_ECC_UNCORR_N]
/-- Every field that a page of type CELLPOOL defines beyond the header. -/
def regsCELLPOOL : List Fld :=
  regsCELLPOOL_1 ++ regsCELLPOOL_2 ++ regsCELLPOOL_3

/-! PUBLISH: spec/07_cyclic_publication.md, R202. -/

def F.PUBLISH_PUB_CFG_STAGE_SEL : Fld := ⟨0x040, 0, 7, .rw, 0x10, .s⟩
def F.PUBLISH_READY_LO_CH : Fld := ⟨0x044, 0, 32, .w1s, 0, .a⟩
def F.PUBLISH_READY_HI_CH : Fld := ⟨0x048, 0, 32, .w1s, 0, .a⟩
def F.PUBLISH_SENT_LO_CH : Fld := ⟨0x04C, 0, 32, .ro, 0, .none⟩
def F.PUBLISH_SENT_HI_CH : Fld := ⟨0x050, 0, 32, .ro, 0, .none⟩
def F.PUBLISH_CNT_SENT_N : Fld := ⟨0x080, 0, 32, .ro, 0, .none⟩
def F.PUBLISH_CNT_NOT_READY_N : Fld := ⟨0x084, 0, 32, .ro, 0, .none⟩
def F.PUBLISH_CNT_READY_LATE_N : Fld := ⟨0x088, 0, 32, .ro, 0, .none⟩
def F.PUBLISH_CNT_DROP_N : Fld := ⟨0x08C, 0, 32, .ro, 0, .none⟩
def F.PUBLISH_CNT_CLEAR_CLEAR : Fld := ⟨0x090, 0, 1, .w1s, 0, .a⟩
def F.PUBLISH_CH_CFG_EN (c : Nat) : Fld := ⟨0x100 + 0x8 * c, 31, 1, .rws, 0, .t⟩
def F.PUBLISH_CH_CFG_SOURCE (c : Nat) : Fld := ⟨0x100 + 0x8 * c, 28, 3, .rw, 0, .c⟩
def F.PUBLISH_CH_CFG_SEL (c : Nat) : Fld := ⟨0x100 + 0x8 * c, 25, 3, .rw, 0, .c⟩
def F.PUBLISH_CH_CFG_GROUP (c : Nat) : Fld := ⟨0x100 + 0x8 * c, 9, 12, .rw, 0, .c⟩
def F.PUBLISH_CH_CFG_LEN (c : Nat) : Fld := ⟨0x100 + 0x8 * c, 0, 9, .rw, 0, .c⟩
def F.PUBLISH_CH_REACH_REACH_E (c : Nat) : Fld := ⟨0x104 + 0x8 * c, 16, 10, .rws, 0, .t⟩
def F.PUBLISH_CH_REACH_REACH_W (c : Nat) : Fld := ⟨0x104 + 0x8 * c, 0, 10, .rws, 0, .t⟩

def regsPUBLISH_1 : List Fld :=
  [F.PUBLISH_PUB_CFG_STAGE_SEL, F.PUBLISH_READY_LO_CH, F.PUBLISH_READY_HI_CH, F.PUBLISH_SENT_LO_CH, F.PUBLISH_SENT_HI_CH, F.PUBLISH_CNT_SENT_N, F.PUBLISH_CNT_NOT_READY_N, F.PUBLISH_CNT_READY_LATE_N, F.PUBLISH_CNT_DROP_N, F.PUBLISH_CNT_CLEAR_CLEAR]
def regsPUBLISH_2 : List Fld :=
  (List.range 64).flatMap fun c => [F.PUBLISH_CH_CFG_EN c, F.PUBLISH_CH_CFG_SOURCE c, F.PUBLISH_CH_CFG_SEL c, F.PUBLISH_CH_CFG_GROUP c, F.PUBLISH_CH_CFG_LEN c, F.PUBLISH_CH_REACH_REACH_E c, F.PUBLISH_CH_REACH_REACH_W c]
/-- Every field that a page of type PUBLISH defines beyond the header. -/
def regsPUBLISH : List Fld :=
  regsPUBLISH_1 ++ regsPUBLISH_2

/-! SUBSCRIBE: spec/07_cyclic_publication.md, R204. -/

def F.SUBSCRIBE_SUB_CFG_IMG_SEL : Fld := ⟨0x040, 0, 3, .rw, 0, .s⟩
def F.SUBSCRIBE_SWAP_TICK_N : Fld := ⟨0x044, 0, 32, .ro, 0, .none⟩
def F.SUBSCRIBE_STALE_E (k : Nat) : Fld := ⟨0x048 + 0x4 * k, 0, 32, .ro, 0xFFFFFFFF, .none⟩
def F.SUBSCRIBE_CNT_ACCEPT_N : Fld := ⟨0x080, 0, 32, .ro, 0, .none⟩
def F.SUBSCRIBE_CNT_UNMATCHED_N : Fld := ⟨0x084, 0, 32, .ro, 0, .none⟩
def F.SUBSCRIBE_CNT_OFFTICK_N : Fld := ⟨0x088, 0, 32, .ro, 0, .none⟩
def F.SUBSCRIBE_CNT_LEN_MISMATCH_N : Fld := ⟨0x08C, 0, 32, .ro, 0, .none⟩
def F.SUBSCRIBE_CNT_STALE_N : Fld := ⟨0x090, 0, 32, .ro, 0, .none⟩
def F.SUBSCRIBE_CNT_MIRROR_LATE_N : Fld := ⟨0x094, 0, 32, .ro, 0, .none⟩
def F.SUBSCRIBE_CNT_MIRROR_OVF_N : Fld := ⟨0x098, 0, 32, .ro, 0, .none⟩
def F.SUBSCRIBE_CNT_CLEAR_CLEAR : Fld := ⟨0x09C, 0, 1, .w1s, 0, .a⟩
def F.SUBSCRIBE_IMG_STAT_STALE (i : Nat) : Fld := ⟨0x400 + 0x4 * i, 31, 1, .ro, 1, .none⟩
def F.SUBSCRIBE_IMG_STAT_NEVER (i : Nat) : Fld := ⟨0x400 + 0x4 * i, 30, 1, .ro, 1, .none⟩
def F.SUBSCRIBE_IMG_STAT_AGE (i : Nat) : Fld := ⟨0x400 + 0x4 * i, 16, 8, .ro, 0xFF, .none⟩
def F.SUBSCRIBE_IMG_STAT_DATA_TICK (i : Nat) : Fld := ⟨0x400 + 0x4 * i, 0, 16, .ro, 0, .none⟩
def F.SUBSCRIBE_SUB_MATCH_EN (i : Nat) : Fld := ⟨0x800 + 0x8 * i, 31, 1, .rws, 0, .t⟩
def F.SUBSCRIBE_SUB_MATCH_MIRROR (i : Nat) : Fld := ⟨0x800 + 0x8 * i, 30, 1, .rw, 0, .c⟩
def F.SUBSCRIBE_SUB_MATCH_CHANNEL (i : Nat) : Fld := ⟨0x800 + 0x8 * i, 24, 6, .rw, 0, .c⟩
def F.SUBSCRIBE_SUB_MATCH_SRC (i : Nat) : Fld := ⟨0x800 + 0x8 * i, 12, 12, .rw, 0, .c⟩
def F.SUBSCRIBE_SUB_MATCH_LEN (i : Nat) : Fld := ⟨0x800 + 0x8 * i, 0, 9, .rw, 0, .c⟩
def F.SUBSCRIBE_SUB_MIRROR_EDGE_BASE (i : Nat) : Fld := ⟨0x804 + 0x8 * i, 26, 6, .rw, 0, .c⟩
def F.SUBSCRIBE_SUB_MIRROR_HOLD (i : Nat) : Fld := ⟨0x804 + 0x8 * i, 16, 8, .rw, 3, .c⟩
def F.SUBSCRIBE_SUB_MIRROR_DELAY (i : Nat) : Fld := ⟨0x804 + 0x8 * i, 0, 16, .rw, 0, .c⟩

def regsSUBSCRIBE_1 : List Fld :=
  [F.SUBSCRIBE_SUB_CFG_IMG_SEL, F.SUBSCRIBE_SWAP_TICK_N]
def regsSUBSCRIBE_2 : List Fld :=
  (List.range 8).flatMap fun k => [F.SUBSCRIBE_STALE_E k]
def regsSUBSCRIBE_3 : List Fld :=
  [F.SUBSCRIBE_CNT_ACCEPT_N, F.SUBSCRIBE_CNT_UNMATCHED_N, F.SUBSCRIBE_CNT_OFFTICK_N, F.SUBSCRIBE_CNT_LEN_MISMATCH_N, F.SUBSCRIBE_CNT_STALE_N, F.SUBSCRIBE_CNT_MIRROR_LATE_N, F.SUBSCRIBE_CNT_MIRROR_OVF_N, F.SUBSCRIBE_CNT_CLEAR_CLEAR]
def regsSUBSCRIBE_4 : List Fld :=
  (List.range 256).flatMap fun i => [F.SUBSCRIBE_IMG_STAT_STALE i, F.SUBSCRIBE_IMG_STAT_NEVER i, F.SUBSCRIBE_IMG_STAT_AGE i, F.SUBSCRIBE_IMG_STAT_DATA_TICK i, F.SUBSCRIBE_SUB_MATCH_EN i, F.SUBSCRIBE_SUB_MATCH_MIRROR i, F.SUBSCRIBE_SUB_MATCH_CHANNEL i, F.SUBSCRIBE_SUB_MATCH_SRC i, F.SUBSCRIBE_SUB_MATCH_LEN i, F.SUBSCRIBE_SUB_MIRROR_EDGE_BASE i, F.SUBSCRIBE_SUB_MIRROR_HOLD i, F.SUBSCRIBE_SUB_MIRROR_DELAY i]
/-- Every field that a page of type SUBSCRIBE defines beyond the header. -/
def regsSUBSCRIBE : List Fld :=
  regsSUBSCRIBE_1 ++ regsSUBSCRIBE_2 ++ regsSUBSCRIBE_3 ++ regsSUBSCRIBE_4

end Sys2Proof.Machine
end

