-- ==== Sys2Proof/Machine/RegMapB.lean ====
section
/-!
DEFINITION. Register fields of the page types TXN, GATEWAY, XFER, QUEUE, SESTX, SESRX, TRACK, DRIFT, ZONES, EDGE, CAPTURE, each
as the register tables of spec/ give it: offset, lowest bit, width, access code, reset value, write class. An indexed register
is a function of its index. -/

namespace Sys2Proof.Machine

/-! TXN: spec/08_transactions_and_bridging.md, R236. -/

def F.TXN_TXN_CFG_RETRY_TO : Fld := ⟨0x040, 24, 8, .rws, 4, .t⟩
def F.TXN_TXN_CFG_HOLD_TICKS : Fld := ⟨0x040, 16, 8, .rws, 8, .t⟩
def F.TXN_TXN_CFG_TIMEOUT : Fld := ⟨0x040, 0, 16, .rws, 0x40, .t⟩
def F.TXN_SLOT_CFG_GW_SETTLE : Fld := ⟨0x044, 16, 16, .rws, 0x40, .t⟩
def F.TXN_SLOT_CFG_SLOT_HOLD : Fld := ⟨0x044, 0, 16, .rws, 0x80, .t⟩
def F.TXN_QUOTA0_CORE1 : Fld := ⟨0x048, 16, 10, .rw, 0x80, .c⟩
def F.TXN_QUOTA0_CORE0 : Fld := ⟨0x048, 0, 10, .rw, 0x80, .c⟩
def F.TXN_QUOTA1_CORE3 : Fld := ⟨0x04C, 16, 10, .rw, 0x80, .c⟩
def F.TXN_QUOTA1_CORE2 : Fld := ⟨0x04C, 0, 10, .rw, 0x80, .c⟩
def F.TXN_QUOTA2_XFER : Fld := ⟨0x050, 16, 10, .rw, 0x100, .c⟩
def F.TXN_QUOTA2_HOST : Fld := ⟨0x050, 0, 10, .rw, 0x40, .c⟩
def F.TXN_TXN_STAT_TAGS_USED : Fld := ⟨0x054, 16, 10, .ro, 0, .none⟩
def F.TXN_TXN_STAT_STREAMS : Fld := ⟨0x054, 8, 6, .ro, 0, .none⟩
def F.TXN_TXN_STAT_HOLD_USED : Fld := ⟨0x054, 0, 7, .ro, 0, .none⟩
def F.TXN_EVOUT_DST : Fld := ⟨0x058, 20, 12, .wo, 0, .a⟩
def F.TXN_EVOUT_K : Fld := ⟨0x058, 16, 4, .wo, 0, .a⟩
def F.TXN_EVOUT_VALUE : Fld := ⟨0x058, 0, 16, .wo, 0, .a⟩
def F.TXN_EVIN_SRC (k : Nat) : Fld := ⟨0x060 + 0x4 * k, 20, 12, .ro, 0, .none⟩
def F.TXN_EVIN_VALUE (k : Nat) : Fld := ⟨0x060 + 0x4 * k, 0, 16, .ro, 0, .none⟩
def F.TXN_ORPH_STAT_OVF : Fld := ⟨0x0A0, 31, 1, .w1c, 0, .a⟩
def F.TXN_ORPH_STAT_COUNT : Fld := ⟨0x0A0, 0, 6, .ro, 0, .none⟩
def F.TXN_ORPH_ADDR_LO_ADDR : Fld := ⟨0x0A4, 0, 32, .ro, 0, .none⟩
def F.TXN_ORPH_ADDR_HI_INIT : Fld := ⟨0x0A8, 28, 3, .ro, 0, .none⟩
def F.TXN_ORPH_ADDR_HI_OP : Fld := ⟨0x0A8, 24, 4, .ro, 0, .none⟩
def F.TXN_ORPH_ADDR_HI_ADDR : Fld := ⟨0x0A8, 0, 8, .ro, 0, .none⟩
def F.TXN_ORPH_DATA_LO_DATA : Fld := ⟨0x0AC, 0, 32, .ro, 0, .none⟩
def F.TXN_ORPH_DATA_HI_DATA : Fld := ⟨0x0B0, 0, 32, .ro, 0, .none⟩
def F.TXN_ORPH_TIME_LO_NS : Fld := ⟨0x0B4, 0, 32, .ro, 0, .none⟩
def F.TXN_ORPH_TIME_HI_NS : Fld := ⟨0x0B8, 0, 32, .ro, 0, .none⟩
def F.TXN_ORPH_POP_POP : Fld := ⟨0x0BC, 0, 1, .w1s, 0, .a⟩
def F.TXN_CNT_ISSUED_N : Fld := ⟨0x100, 0, 32, .roc, 0, .none⟩
def F.TXN_CNT_RETRY_N : Fld := ⟨0x104, 0, 32, .roc, 0, .none⟩
def F.TXN_CNT_TIMEOUT_N : Fld := ⟨0x108, 0, 32, .roc, 0, .none⟩
def F.TXN_CNT_INBOUND_N : Fld := ⟨0x10C, 0, 32, .roc, 0, .none⟩
def F.TXN_CNT_CACHE_HIT_N : Fld := ⟨0x110, 0, 32, .roc, 0, .none⟩
def F.TXN_CNT_DUP_DISCARD_N : Fld := ⟨0x114, 0, 32, .roc, 0, .none⟩
def F.TXN_CNT_SLOT_FULL_N : Fld := ⟨0x118, 0, 32, .roc, 0, .none⟩
def F.TXN_CNT_INC_FETCH_N : Fld := ⟨0x11C, 0, 32, .roc, 0, .none⟩
def F.TXN_CNT_LOCAL_RETRY_N : Fld := ⟨0x120, 0, 32, .roc, 0, .none⟩
def F.TXN_CNT_UNCOLLECTED_N : Fld := ⟨0x124, 0, 32, .roc, 0, .none⟩
def F.TXN_CNT_ORPHAN_LOST_N : Fld := ⟨0x128, 0, 32, .roc, 0, .none⟩
def F.TXN_CNT_EV_OVERWRITE_N : Fld := ⟨0x12C, 0, 32, .roc, 0, .none⟩

def regsTXN_1 : List Fld :=
  [F.TXN_TXN_CFG_RETRY_TO, F.TXN_TXN_CFG_HOLD_TICKS, F.TXN_TXN_CFG_TIMEOUT, F.TXN_SLOT_CFG_GW_SETTLE, F.TXN_SLOT_CFG_SLOT_HOLD, F.TXN_QUOTA0_CORE1, F.TXN_QUOTA0_CORE0, F.TXN_QUOTA1_CORE3, F.TXN_QUOTA1_CORE2, F.TXN_QUOTA2_XFER, F.TXN_QUOTA2_HOST, F.TXN_TXN_STAT_TAGS_USED]
def regsTXN_2 : List Fld :=
  [F.TXN_TXN_STAT_STREAMS, F.TXN_TXN_STAT_HOLD_USED, F.TXN_EVOUT_DST, F.TXN_EVOUT_K, F.TXN_EVOUT_VALUE]
def regsTXN_3 : List Fld :=
  (List.range 16).flatMap fun k => [F.TXN_EVIN_SRC k, F.TXN_EVIN_VALUE k]
def regsTXN_4 : List Fld :=
  [F.TXN_ORPH_STAT_OVF, F.TXN_ORPH_STAT_COUNT, F.TXN_ORPH_ADDR_LO_ADDR, F.TXN_ORPH_ADDR_HI_INIT, F.TXN_ORPH_ADDR_HI_OP, F.TXN_ORPH_ADDR_HI_ADDR, F.TXN_ORPH_DATA_LO_DATA, F.TXN_ORPH_DATA_HI_DATA, F.TXN_ORPH_TIME_LO_NS, F.TXN_ORPH_TIME_HI_NS, F.TXN_ORPH_POP_POP, F.TXN_CNT_ISSUED_N]
def regsTXN_5 : List Fld :=
  [F.TXN_CNT_RETRY_N, F.TXN_CNT_TIMEOUT_N, F.TXN_CNT_INBOUND_N, F.TXN_CNT_CACHE_HIT_N, F.TXN_CNT_DUP_DISCARD_N, F.TXN_CNT_SLOT_FULL_N, F.TXN_CNT_INC_FETCH_N, F.TXN_CNT_LOCAL_RETRY_N, F.TXN_CNT_UNCOLLECTED_N, F.TXN_CNT_ORPHAN_LOST_N, F.TXN_CNT_EV_OVERWRITE_N]
/-- Every field that a page of type TXN defines beyond the header. -/
def regsTXN : List Fld :=
  regsTXN_1 ++ regsTXN_2 ++ regsTXN_3 ++ regsTXN_4 ++ regsTXN_5

/-! GATEWAY: spec/08_transactions_and_bridging.md, R238. -/

def F.GATEWAY_GW_CFG_RING_K : Fld := ⟨0x040, 28, 2, .rw, 0, .b⟩
def F.GATEWAY_GW_CFG_PARTNER : Fld := ⟨0x040, 0, 12, .rw, 0, .b⟩
def F.GATEWAY_GW_CFG2_CROSS_LIMIT : Fld := ⟨0x044, 0, 15, .rw, 0x200, .c⟩
def F.GATEWAY_GW_ADDR_VALID : Fld := ⟨0x048, 31, 1, .ro, 0, .none⟩
def F.GATEWAY_GW_ADDR_ADDR : Fld := ⟨0x048, 0, 12, .ro, 0, .none⟩
def F.GATEWAY_GW_STAT_ACTIVE : Fld := ⟨0x04C, 31, 1, .ro, 0, .none⟩
def F.GATEWAY_GW_STAT_FAILOVER : Fld := ⟨0x04C, 30, 1, .ro, 0, .none⟩
def F.GATEWAY_GW_STAT_PARTNER_PRESENT : Fld := ⟨0x04C, 29, 1, .ro, 0, .none⟩
def F.GATEWAY_XGRP_SEL_GROUP : Fld := ⟨0x050, 0, 12, .rw, 0, .a⟩
def F.GATEWAY_XGRP_DATA_CROSS : Fld := ⟨0x054, 0, 1, .rw, 0, .c⟩
def F.GATEWAY_CNT_CROSS_0K_N : Fld := ⟨0x080, 0, 32, .ro, 0, .none⟩
def F.GATEWAY_CNT_CROSS_K0_N : Fld := ⟨0x084, 0, 32, .ro, 0, .none⟩
def F.GATEWAY_CNT_STRIP_X_N : Fld := ⟨0x088, 0, 32, .ro, 0, .none⟩
def F.GATEWAY_CNT_XBUSY_N : Fld := ⟨0x08C, 0, 32, .ro, 0, .none⟩
def F.GATEWAY_CNT_CLEAR_CLEAR : Fld := ⟨0x090, 0, 1, .w1s, 0, .a⟩

def regsGATEWAY_1 : List Fld :=
  [F.GATEWAY_GW_CFG_RING_K, F.GATEWAY_GW_CFG_PARTNER, F.GATEWAY_GW_CFG2_CROSS_LIMIT, F.GATEWAY_GW_ADDR_VALID, F.GATEWAY_GW_ADDR_ADDR, F.GATEWAY_GW_STAT_ACTIVE, F.GATEWAY_GW_STAT_FAILOVER, F.GATEWAY_GW_STAT_PARTNER_PRESENT, F.GATEWAY_XGRP_SEL_GROUP, F.GATEWAY_XGRP_DATA_CROSS, F.GATEWAY_CNT_CROSS_0K_N, F.GATEWAY_CNT_CROSS_K0_N]
def regsGATEWAY_2 : List Fld :=
  [F.GATEWAY_CNT_STRIP_X_N, F.GATEWAY_CNT_XBUSY_N, F.GATEWAY_CNT_CLEAR_CLEAR]
/-- Every field that a page of type GATEWAY defines beyond the header. -/
def regsGATEWAY : List Fld :=
  regsGATEWAY_1 ++ regsGATEWAY_2

/-! XFER: spec/08_transactions_and_bridging.md, R240. -/

def F.XFER_CH_CFG_EN (c : Nat) : Fld := ⟨0x100 + 0x20 * c, 31, 1, .rw, 0, .a⟩
def F.XFER_CH_CFG_HALT_ON_ERR (c : Nat) : Fld := ⟨0x100 + 0x20 * c, 30, 1, .rw, 1, .a⟩
def F.XFER_CH_CFG_LOG2_SIZE (c : Nat) : Fld := ⟨0x100 + 0x20 * c, 0, 4, .rw, 0, .s⟩
def F.XFER_CH_BASE_LO_ADDR (c : Nat) : Fld := ⟨0x104 + 0x20 * c, 5, 27, .rw, 0, .s⟩
def F.XFER_CH_BASE_HI_ADDR (c : Nat) : Fld := ⟨0x108 + 0x20 * c, 0, 8, .rw, 0, .s⟩
def F.XFER_CH_HEAD_IDX (c : Nat) : Fld := ⟨0x10C + 0x20 * c, 0, 9, .rw, 0, .a⟩
def F.XFER_CH_TAIL_IDX (c : Nat) : Fld := ⟨0x110 + 0x20 * c, 0, 9, .ro, 0, .none⟩
def F.XFER_CH_STAT_HALTED (c : Nat) : Fld := ⟨0x114 + 0x20 * c, 31, 1, .w1c, 0, .a⟩
def F.XFER_CH_STAT_BUSY (c : Nat) : Fld := ⟨0x114 + 0x20 * c, 30, 1, .ro, 0, .none⟩
def F.XFER_CH_STAT_LAST_ERR (c : Nat) : Fld := ⟨0x114 + 0x20 * c, 24, 4, .ro, 0, .none⟩
def F.XFER_CH_STAT_IN_FLIGHT (c : Nat) : Fld := ⟨0x114 + 0x20 * c, 0, 10, .ro, 0, .none⟩

def regsXFER_1 : List Fld :=
  (List.range 8).flatMap fun c => [F.XFER_CH_CFG_EN c, F.XFER_CH_CFG_HALT_ON_ERR c, F.XFER_CH_CFG_LOG2_SIZE c, F.XFER_CH_BASE_LO_ADDR c, F.XFER_CH_BASE_HI_ADDR c, F.XFER_CH_HEAD_IDX c, F.XFER_CH_TAIL_IDX c, F.XFER_CH_STAT_HALTED c, F.XFER_CH_STAT_BUSY c, F.XFER_CH_STAT_LAST_ERR c, F.XFER_CH_STAT_IN_FLIGHT c]
/-- Every field that a page of type XFER defines beyond the header. -/
def regsXFER : List Fld :=
  regsXFER_1

/-! QUEUE: spec/09_queues_and_sessions.md, R268. -/

def F.QUEUE_Q_CFG_OVERWRITE (j : Nat) : Fld := ⟨0x100 + 0x40 * j, 31, 1, .rw, 0, .c⟩
def F.QUEUE_Q_CFG_TYPE (j : Nat) : Fld := ⟨0x100 + 0x40 * j, 28, 3, .ro, 1, .none⟩
def F.QUEUE_Q_CFG_CONSUMER (j : Nat) : Fld := ⟨0x100 + 0x40 * j, 24, 4, .rw, 15, .c⟩
def F.QUEUE_Q_LIMIT_MAX (j : Nat) : Fld := ⟨0x104 + 0x40 * j, 16, 15, .rw, 2048, .c⟩
def F.QUEUE_Q_LIMIT_MIN (j : Nat) : Fld := ⟨0x104 + 0x40 * j, 0, 15, .rw, 16, .c⟩
def F.QUEUE_Q_COUNT_ITEMS (j : Nat) : Fld := ⟨0x108 + 0x40 * j, 16, 15, .ro, 0, .none⟩
def F.QUEUE_Q_COUNT_CELLS (j : Nat) : Fld := ⟨0x108 + 0x40 * j, 0, 15, .ro, 0, .none⟩
def F.QUEUE_Q_LEVEL_HELD (j : Nat) : Fld := ⟨0x10C + 0x40 * j, 8, 15, .ro, 0, .none⟩
def F.QUEUE_Q_LEVEL_PRIO (j : Nat) : Fld := ⟨0x10C + 0x40 * j, 0, 8, .ro, 0, .none⟩
def F.QUEUE_Q_STAT_MARK_VALID (j : Nat) : Fld := ⟨0x110 + 0x40 * j, 31, 1, .ro, 0, .none⟩
def F.QUEUE_Q_STAT_MARK_LOST (j : Nat) : Fld := ⟨0x110 + 0x40 * j, 30, 1, .ro, 0, .none⟩
def F.QUEUE_Q_STAT_FOREIGN (j : Nat) : Fld := ⟨0x110 + 0x40 * j, 29, 1, .w1c, 0, .a⟩
def F.QUEUE_Q_STAT_CURRENT (j : Nat) : Fld := ⟨0x110 + 0x40 * j, 28, 1, .ro, 0, .none⟩
def F.QUEUE_Q_CMD_OP (j : Nat) : Fld := ⟨0x114 + 0x40 * j, 28, 4, .wo, 0, .a⟩
def F.QUEUE_Q_CMD_CLEAR (j : Nat) : Fld := ⟨0x114 + 0x40 * j, 0, 1, .wo, 0, .a⟩
def F.QUEUE_Q_RES0_RESULT (j : Nat) : Fld := ⟨0x118 + 0x40 * j, 28, 4, .ro, 0, .none⟩
def F.QUEUE_Q_RES0_FIRST (j : Nat) : Fld := ⟨0x118 + 0x40 * j, 27, 1, .ro, 0, .none⟩
def F.QUEUE_Q_RES0_LAST (j : Nat) : Fld := ⟨0x118 + 0x40 * j, 26, 1, .ro, 0, .none⟩
def F.QUEUE_Q_RES0_PRIO (j : Nat) : Fld := ⟨0x118 + 0x40 * j, 23, 3, .ro, 0, .none⟩
def F.QUEUE_Q_RES0_MAYBE_DUP (j : Nat) : Fld := ⟨0x118 + 0x40 * j, 22, 1, .ro, 0, .none⟩
def F.QUEUE_Q_RES0_CELL (j : Nat) : Fld := ⟨0x118 + 0x40 * j, 0, 15, .ro, 0, .none⟩
def F.QUEUE_Q_RES1_SRC (j : Nat) : Fld := ⟨0x11C + 0x40 * j, 20, 12, .ro, 0, .none⟩
def F.QUEUE_Q_RES1_TAG (j : Nat) : Fld := ⟨0x11C + 0x40 * j, 12, 8, .ro, 0, .none⟩
def F.QUEUE_Q_RES1_BYTES (j : Nat) : Fld := ⟨0x11C + 0x40 * j, 0, 9, .ro, 0, .none⟩
def F.QUEUE_Q_RES2_META (j : Nat) : Fld := ⟨0x120 + 0x40 * j, 0, 32, .ro, 0, .none⟩
def F.QUEUE_Q_RES3_OFFSET (j : Nat) : Fld := ⟨0x124 + 0x40 * j, 24, 8, .ro, 0, .none⟩
def F.QUEUE_Q_RES3_LEN (j : Nat) : Fld := ⟨0x124 + 0x40 * j, 0, 24, .ro, 0, .none⟩
def F.QUEUE_Q_RECYCLED_N (j : Nat) : Fld := ⟨0x128 + 0x40 * j, 0, 32, .roc, 0, .none⟩
def F.QUEUE_Q_REFUSED_N (j : Nat) : Fld := ⟨0x12C + 0x40 * j, 0, 32, .roc, 0, .none⟩

def regsQUEUE_1 : List Fld :=
  (List.range 16).flatMap fun j => [F.QUEUE_Q_CFG_OVERWRITE j, F.QUEUE_Q_CFG_TYPE j, F.QUEUE_Q_CFG_CONSUMER j, F.QUEUE_Q_LIMIT_MAX j, F.QUEUE_Q_LIMIT_MIN j, F.QUEUE_Q_COUNT_ITEMS j, F.QUEUE_Q_COUNT_CELLS j, F.QUEUE_Q_LEVEL_HELD j, F.QUEUE_Q_LEVEL_PRIO j, F.QUEUE_Q_STAT_MARK_VALID j, F.QUEUE_Q_STAT_MARK_LOST j, F.QUEUE_Q_STAT_FOREIGN j]
def regsQUEUE_2 : List Fld :=
  (List.range 16).flatMap fun j => [F.QUEUE_Q_STAT_CURRENT j, F.QUEUE_Q_CMD_OP j, F.QUEUE_Q_CMD_CLEAR j, F.QUEUE_Q_RES0_RESULT j, F.QUEUE_Q_RES0_FIRST j, F.QUEUE_Q_RES0_LAST j, F.QUEUE_Q_RES0_PRIO j, F.QUEUE_Q_RES0_MAYBE_DUP j, F.QUEUE_Q_RES0_CELL j, F.QUEUE_Q_RES1_SRC j, F.QUEUE_Q_RES1_TAG j, F.QUEUE_Q_RES1_BYTES j]
def regsQUEUE_3 : List Fld :=
  (List.range 16).flatMap fun j => [F.QUEUE_Q_RES2_META j, F.QUEUE_Q_RES3_OFFSET j, F.QUEUE_Q_RES3_LEN j, F.QUEUE_Q_RECYCLED_N j, F.QUEUE_Q_REFUSED_N j]
/-- Every field that a page of type QUEUE defines beyond the header. -/
def regsQUEUE : List Fld :=
  regsQUEUE_1 ++ regsQUEUE_2 ++ regsQUEUE_3

/-! SESTX: spec/09_queues_and_sessions.md, R269. -/

def F.SESTX_PUSH_ADDR_SPACE : Fld := ⟨0x040, 31, 1, .rw, 0, .a⟩
def F.SESTX_PUSH_ADDR_OFFSET : Fld := ⟨0x040, 0, 21, .rw, 0, .a⟩
def F.SESTX_PUSH_CTRL_SESSION : Fld := ⟨0x044, 24, 8, .wo, 0, .a⟩
def F.SESTX_PUSH_CTRL_LEN : Fld := ⟨0x044, 0, 12, .wo, 0, .a⟩
def F.SESTX_PUSH_STAT_STATUS (i : Nat) : Fld := ⟨0x050 + 0x8 * i, 28, 4, .ro, 0, .none⟩
def F.SESTX_PUSH_STAT_SESSION (i : Nat) : Fld := ⟨0x050 + 0x8 * i, 0, 8, .ro, 0, .none⟩
def F.SESTX_PUSH_SEQ_MSEQ (i : Nat) : Fld := ⟨0x054 + 0x8 * i, 0, 32, .ro, 0, .none⟩
def F.SESTX_SES_SEL_SESSION : Fld := ⟨0x090, 0, 8, .rw, 0, .a⟩
def F.SESTX_SES_CFG_EN : Fld := ⟨0x094, 31, 1, .rw, 0, .c⟩
def F.SESTX_SES_CFG_RSID : Fld := ⟨0x094, 20, 8, .rw, 0, .c⟩
def F.SESTX_SES_CFG_DST : Fld := ⟨0x094, 0, 12, .rw, 0, .c⟩
def F.SESTX_SES_TMR_STALL_TICKS : Fld := ⟨0x098, 16, 16, .rw, 0x3E8, .c⟩
def F.SESTX_SES_TMR_RTO : Fld := ⟨0x098, 0, 8, .rw, 8, .c⟩
def F.SESTX_SES_STAT_STATE : Fld := ⟨0x09C, 29, 3, .ro, 0, .none⟩
def F.SESTX_SES_STAT_FRESH : Fld := ⟨0x09C, 28, 1, .ro, 0, .none⟩
def F.SESTX_SES_STAT_STALLED : Fld := ⟨0x09C, 27, 1, .ro, 0, .none⟩
def F.SESTX_SES_STAT_RETAINED : Fld := ⟨0x09C, 0, 7, .ro, 0, .none⟩
def F.SESTX_SES_NEXT_MSEQ : Fld := ⟨0x0A0, 0, 32, .ro, 0, .none⟩
def F.SESTX_SES_RCVD_MSEQ : Fld := ⟨0x0A4, 0, 32, .ro, 0, .none⟩
def F.SESTX_SES_CONS_MSEQ : Fld := ⟨0x0A8, 0, 32, .ro, 0, .none⟩
def F.SESTX_SES_RINC_INC : Fld := ⟨0x0AC, 0, 16, .ro, 0, .none⟩
def F.SESTX_SES_RETX_N : Fld := ⟨0x0B0, 0, 32, .roc, 0, .none⟩
def F.SESTX_STALLED_S (k : Nat) : Fld := ⟨0x100 + 0x4 * k, 0, 32, .ro, 0, .none⟩
def F.SESTX_CNT_PUSH_N : Fld := ⟨0x180, 0, 32, .roc, 0, .none⟩
def F.SESTX_CNT_PUSH_REFUSED_N : Fld := ⟨0x184, 0, 32, .roc, 0, .none⟩
def F.SESTX_CNT_RETX_N : Fld := ⟨0x188, 0, 32, .roc, 0, .none⟩
def F.SESTX_CNT_PROBE_N : Fld := ⟨0x18C, 0, 32, .roc, 0, .none⟩
def F.SESTX_CNT_ACK_RX_N : Fld := ⟨0x190, 0, 32, .roc, 0, .none⟩
def F.SESTX_CNT_BAD_ACK_N : Fld := ⟨0x194, 0, 32, .roc, 0, .none⟩
def F.SESTX_CNT_DISCARD_N : Fld := ⟨0x198, 0, 32, .roc, 0, .none⟩

def regsSESTX_1 : List Fld :=
  [F.SESTX_PUSH_ADDR_SPACE, F.SESTX_PUSH_ADDR_OFFSET, F.SESTX_PUSH_CTRL_SESSION, F.SESTX_PUSH_CTRL_LEN]
def regsSESTX_2 : List Fld :=
  (List.range 8).flatMap fun i => [F.SESTX_PUSH_STAT_STATUS i, F.SESTX_PUSH_STAT_SESSION i, F.SESTX_PUSH_SEQ_MSEQ i]
def regsSESTX_3 : List Fld :=
  [F.SESTX_SES_SEL_SESSION, F.SESTX_SES_CFG_EN, F.SESTX_SES_CFG_RSID, F.SESTX_SES_CFG_DST, F.SESTX_SES_TMR_STALL_TICKS, F.SESTX_SES_TMR_RTO, F.SESTX_SES_STAT_STATE, F.SESTX_SES_STAT_FRESH, F.SESTX_SES_STAT_STALLED, F.SESTX_SES_STAT_RETAINED, F.SESTX_SES_NEXT_MSEQ, F.SESTX_SES_RCVD_MSEQ]
def regsSESTX_4 : List Fld :=
  [F.SESTX_SES_CONS_MSEQ, F.SESTX_SES_RINC_INC, F.SESTX_SES_RETX_N]
def regsSESTX_5 : List Fld :=
  (List.range 8).flatMap fun k => [F.SESTX_STALLED_S k]
def regsSESTX_6 : List Fld :=
  [F.SESTX_CNT_PUSH_N, F.SESTX_CNT_PUSH_REFUSED_N, F.SESTX_CNT_RETX_N, F.SESTX_CNT_PROBE_N, F.SESTX_CNT_ACK_RX_N, F.SESTX_CNT_BAD_ACK_N, F.SESTX_CNT_DISCARD_N]
/-- Every field that a page of type SESTX defines beyond the header. -/
def regsSESTX : List Fld :=
  regsSESTX_1 ++ regsSESTX_2 ++ regsSESTX_3 ++ regsSESTX_4 ++ regsSESTX_5 ++ regsSESTX_6

/-! SESRX: spec/09_queues_and_sessions.md, R270. -/

def F.SESRX_RSES_SEL_SESSION : Fld := ⟨0x040, 0, 8, .rw, 0, .a⟩
def F.SESRX_RSES_CFG_EN : Fld := ⟨0x044, 31, 1, .rw, 0, .c⟩
def F.SESRX_RSES_CFG_PRIO : Fld := ⟨0x044, 28, 3, .rw, 0, .c⟩
def F.SESRX_RSES_CFG_SSID : Fld := ⟨0x044, 20, 8, .rw, 0, .c⟩
def F.SESRX_RSES_CFG_SRC : Fld := ⟨0x044, 0, 12, .rw, 0, .c⟩
def F.SESRX_RSES_QUEUE_QUEUE : Fld := ⟨0x048, 0, 10, .rw, 0, .c⟩
def F.SESRX_RSES_STAT_STATE : Fld := ⟨0x04C, 29, 3, .ro, 0, .none⟩
def F.SESRX_RSES_STAT_NO_HISTORY : Fld := ⟨0x04C, 28, 1, .ro, 0, .none⟩
def F.SESRX_RSES_STAT_UNSAFE : Fld := ⟨0x04C, 27, 1, .ro, 0, .none⟩
def F.SESRX_RSES_STAT_SINC : Fld := ⟨0x04C, 0, 16, .ro, 0, .none⟩
def F.SESRX_RSES_NEXT_MSEQ : Fld := ⟨0x050, 0, 32, .ro, 0, .none⟩
def F.SESRX_RSES_CONS_MSEQ : Fld := ⟨0x054, 0, 32, .ro, 0, .none⟩
def F.SESRX_RSES_DUP_MSEQ : Fld := ⟨0x058, 0, 32, .ro, 0, .none⟩
def F.SESRX_CNT_RX_N : Fld := ⟨0x080, 0, 32, .roc, 0, .none⟩
def F.SESRX_CNT_RX_DUP_N : Fld := ⟨0x084, 0, 32, .roc, 0, .none⟩
def F.SESRX_CNT_RX_GAP_N : Fld := ⟨0x088, 0, 32, .roc, 0, .none⟩
def F.SESRX_CNT_RX_FULL_N : Fld := ⟨0x08C, 0, 32, .roc, 0, .none⟩
def F.SESRX_CNT_ACK_TX_N : Fld := ⟨0x090, 0, 32, .roc, 0, .none⟩
def F.SESRX_CNT_UNKNOWN_N : Fld := ⟨0x094, 0, 32, .roc, 0, .none⟩
def F.SESRX_CNT_MAYBE_DUP_N : Fld := ⟨0x098, 0, 32, .roc, 0, .none⟩
def F.SESRX_BB_STAT_VALID : Fld := ⟨0x0A0, 31, 1, .ro, 0, .none⟩
def F.SESRX_BB_STAT_ENTRIES : Fld := ⟨0x0A0, 0, 9, .ro, 0, .none⟩

def regsSESRX_1 : List Fld :=
  [F.SESRX_RSES_SEL_SESSION, F.SESRX_RSES_CFG_EN, F.SESRX_RSES_CFG_PRIO, F.SESRX_RSES_CFG_SSID, F.SESRX_RSES_CFG_SRC, F.SESRX_RSES_QUEUE_QUEUE, F.SESRX_RSES_STAT_STATE, F.SESRX_RSES_STAT_NO_HISTORY, F.SESRX_RSES_STAT_UNSAFE, F.SESRX_RSES_STAT_SINC, F.SESRX_RSES_NEXT_MSEQ, F.SESRX_RSES_CONS_MSEQ]
def regsSESRX_2 : List Fld :=
  [F.SESRX_RSES_DUP_MSEQ, F.SESRX_CNT_RX_N, F.SESRX_CNT_RX_DUP_N, F.SESRX_CNT_RX_GAP_N, F.SESRX_CNT_RX_FULL_N, F.SESRX_CNT_ACK_TX_N, F.SESRX_CNT_UNKNOWN_N, F.SESRX_CNT_MAYBE_DUP_N, F.SESRX_BB_STAT_VALID, F.SESRX_BB_STAT_ENTRIES]
/-- Every field that a page of type SESRX defines beyond the header. -/
def regsSESRX : List Fld :=
  regsSESRX_1 ++ regsSESRX_2

/-! TRACK: spec/10_tracks_and_position.md, R293. -/

def F.TRACK_TRK_CFG_TRACK : Fld := ⟨0x040, 24, 8, .rw, 0, .c⟩
def F.TRACK_TRK_CFG_ROLE : Fld := ⟨0x040, 23, 1, .rw, 0, .c⟩
def F.TRACK_TRK_CFG_RANK : Fld := ⟨0x040, 20, 2, .rw, 0, .c⟩
def F.TRACK_TRK_CFG_SUB_VALID : Fld := ⟨0x040, 16, 4, .rw, 0, .c⟩
def F.TRACK_TRK_CFG_ENC : Fld := ⟨0x040, 12, 2, .rw, 0, .c⟩
def F.TRACK_TRK_CFG_DIR_INV : Fld := ⟨0x040, 11, 1, .rw, 0, .c⟩
def F.TRACK_TRK_CFG_INTERP : Fld := ⟨0x040, 10, 1, .rw, 1, .c⟩
def F.TRACK_SUB_MAP_ENTRY3_0 : Fld := ⟨0x044, 0, 32, .rw, 0, .c⟩
def F.TRACK_SCALE_SCALE : Fld := ⟨0x048, 0, 32, .rw, 0, .c⟩
def F.TRACK_OFFSET_LO_POS : Fld := ⟨0x04C, 0, 32, .rw, 0, .c⟩
def F.TRACK_OFFSET_HI_POS : Fld := ⟨0x050, 0, 16, .rw, 0, .c⟩
def F.TRACK_LOOP_LEN_LO_LEN : Fld := ⟨0x054, 0, 32, .rw, 0, .c⟩
def F.TRACK_LOOP_LEN_HI_LEN : Fld := ⟨0x058, 0, 16, .rw, 0, .c⟩
def F.TRACK_TRK_TMR_VEL_WIN : Fld := ⟨0x05C, 16, 16, .rws, 0x3E8, .t⟩
def F.TRACK_TRK_TMR_ACC_TICKS : Fld := ⟨0x05C, 8, 8, .rws, 8, .t⟩
def F.TRACK_TRK_TMR_EXTRAP_MAX : Fld := ⟨0x05C, 0, 8, .rws, 10, .t⟩
def F.TRACK_TRK_TMR2_STILL_TIME : Fld := ⟨0x060, 16, 16, .rws, 0x64, .t⟩
def F.TRACK_TRK_TMR2_TAKE_TICKS : Fld := ⟨0x060, 0, 4, .rws, 2, .t⟩
def F.TRACK_STEP_LIMIT_UM : Fld := ⟨0x064, 0, 24, .rws, 0x7D0, .t⟩
def F.TRACK_ENC_DELAY_NS : Fld := ⟨0x068, 0, 16, .rw, 0, .c⟩
def F.TRACK_HALT_CREEP_UM : Fld := ⟨0x06C, 0, 24, .rws, 0x1388, .t⟩
def F.TRACK_TRK_CTRL_RECLAIM : Fld := ⟨0x070, 0, 1, .w1s, 0, .a⟩
def F.TRACK_TRK_STAT_STATE : Fld := ⟨0x074, 29, 3, .ro, 0, .none⟩
def F.TRACK_TRK_STAT_SRC_STATE : Fld := ⟨0x074, 27, 2, .ro, 0, .none⟩
def F.TRACK_TRK_STAT_USE_RANK : Fld := ⟨0x074, 25, 2, .ro, 0, .none⟩
def F.TRACK_TRK_STAT_STILL : Fld := ⟨0x074, 24, 1, .ro, 0, .none⟩
def F.TRACK_TRK_STAT_DELTA_VALID : Fld := ⟨0x074, 23, 1, .ro, 0, .none⟩
def F.TRACK_TRK_STAT_CREEP : Fld := ⟨0x074, 22, 1, .ro, 0, .none⟩
def F.TRACK_TRK_STAT_EVAL_PAST : Fld := ⟨0x074, 21, 1, .ro, 0, .none⟩
def F.TRACK_TRK_MISS_MISSING : Fld := ⟨0x0B8, 0, 8, .ro, 0, .none⟩
def F.TRACK_TRK_STAT_AGE : Fld := ⟨0x074, 8, 8, .ro, 0xFF, .none⟩
def F.TRACK_TRK_STAT_GEN : Fld := ⟨0x074, 0, 8, .ro, 0, .none⟩
def F.TRACK_SMP_TICK_N : Fld := ⟨0x078, 0, 32, .ro, 0, .none⟩
def F.TRACK_SMP_POS_LO_POS : Fld := ⟨0x07C, 0, 32, .ro, 0, .none⟩
def F.TRACK_SMP_POS_HI_POS : Fld := ⟨0x080, 0, 16, .ro, 0, .none⟩
def F.TRACK_SMP_VEL_V : Fld := ⟨0x084, 0, 32, .ro, 0, .none⟩
def F.TRACK_SMP_ACC_A : Fld := ⟨0x088, 0, 32, .ro, 0, .none⟩
def F.TRACK_SMP_SRC_FLAGS : Fld := ⟨0x08C, 24, 8, .ro, 0, .none⟩
def F.TRACK_SMP_SRC_ADDR : Fld := ⟨0x08C, 0, 12, .ro, 0, .none⟩
def F.TRACK_DELTA_LO_D : Fld := ⟨0x090, 0, 32, .ro, 0, .none⟩
def F.TRACK_DELTA_HI_D : Fld := ⟨0x094, 0, 16, .ro, 0, .none⟩
def F.TRACK_LAST_STEP_UM : Fld := ⟨0x098, 0, 32, .ro, 0, .none⟩
def F.TRACK_EVAL_T_LO_NS : Fld := ⟨0x0A0, 0, 32, .rw, 0, .a⟩
def F.TRACK_EVAL_T_HI_NS : Fld := ⟨0x0A4, 0, 32, .rw, 0, .a⟩
def F.TRACK_EVAL_POS_LO_POS : Fld := ⟨0x0A8, 0, 32, .ro, 0, .none⟩
def F.TRACK_EVAL_POS_HI_POS : Fld := ⟨0x0AC, 0, 16, .ro, 0, .none⟩
def F.TRACK_EVAL_VEL_V : Fld := ⟨0x0B0, 0, 32, .ro, 0, .none⟩
def F.TRACK_RAW_COUNT_C : Fld := ⟨0x0B4, 0, 32, .ro, 0, .none⟩
def F.TRACK_CNT_TAKEN_N : Fld := ⟨0x0C0, 0, 32, .ro, 0, .none⟩
def F.TRACK_CNT_MISSED_N : Fld := ⟨0x0C4, 0, 32, .ro, 0, .none⟩
def F.TRACK_CNT_LATE_N : Fld := ⟨0x0C8, 0, 32, .ro, 0, .none⟩
def F.TRACK_CNT_WRONG_TRACK_N : Fld := ⟨0x0CC, 0, 32, .ro, 0, .none⟩
def F.TRACK_CNT_DISC_N : Fld := ⟨0x0D0, 0, 32, .ro, 0, .none⟩
def F.TRACK_CNT_TAKEOVER_N : Fld := ⟨0x0D4, 0, 32, .ro, 0, .none⟩
def F.TRACK_CNT_COUNT_ERR_N : Fld := ⟨0x0D8, 0, 32, .ro, 0, .none⟩
def F.TRACK_CNT_LOST_N : Fld := ⟨0x0DC, 0, 32, .ro, 0, .none⟩
def F.TRACK_CNT_CLEAR_CLEAR : Fld := ⟨0x0E0, 0, 1, .w1s, 0, .a⟩

def regsTRACK_1 : List Fld :=
  [F.TRACK_TRK_CFG_TRACK, F.TRACK_TRK_CFG_ROLE, F.TRACK_TRK_CFG_RANK, F.TRACK_TRK_CFG_SUB_VALID, F.TRACK_TRK_CFG_ENC, F.TRACK_TRK_CFG_DIR_INV, F.TRACK_TRK_CFG_INTERP, F.TRACK_SUB_MAP_ENTRY3_0, F.TRACK_SCALE_SCALE, F.TRACK_OFFSET_LO_POS, F.TRACK_OFFSET_HI_POS, F.TRACK_LOOP_LEN_LO_LEN]
def regsTRACK_2 : List Fld :=
  [F.TRACK_LOOP_LEN_HI_LEN, F.TRACK_TRK_TMR_VEL_WIN, F.TRACK_TRK_TMR_ACC_TICKS, F.TRACK_TRK_TMR_EXTRAP_MAX, F.TRACK_TRK_TMR2_STILL_TIME, F.TRACK_TRK_TMR2_TAKE_TICKS, F.TRACK_STEP_LIMIT_UM, F.TRACK_ENC_DELAY_NS, F.TRACK_HALT_CREEP_UM, F.TRACK_TRK_CTRL_RECLAIM, F.TRACK_TRK_STAT_STATE, F.TRACK_TRK_STAT_SRC_STATE]
def regsTRACK_3 : List Fld :=
  [F.TRACK_TRK_STAT_USE_RANK, F.TRACK_TRK_STAT_STILL, F.TRACK_TRK_STAT_DELTA_VALID, F.TRACK_TRK_STAT_CREEP, F.TRACK_TRK_STAT_EVAL_PAST, F.TRACK_TRK_MISS_MISSING, F.TRACK_TRK_STAT_AGE, F.TRACK_TRK_STAT_GEN, F.TRACK_SMP_TICK_N, F.TRACK_SMP_POS_LO_POS, F.TRACK_SMP_POS_HI_POS, F.TRACK_SMP_VEL_V]
def regsTRACK_4 : List Fld :=
  [F.TRACK_SMP_ACC_A, F.TRACK_SMP_SRC_FLAGS, F.TRACK_SMP_SRC_ADDR, F.TRACK_DELTA_LO_D, F.TRACK_DELTA_HI_D, F.TRACK_LAST_STEP_UM, F.TRACK_EVAL_T_LO_NS, F.TRACK_EVAL_T_HI_NS, F.TRACK_EVAL_POS_LO_POS, F.TRACK_EVAL_POS_HI_POS, F.TRACK_EVAL_VEL_V, F.TRACK_RAW_COUNT_C]
def regsTRACK_5 : List Fld :=
  [F.TRACK_CNT_TAKEN_N, F.TRACK_CNT_MISSED_N, F.TRACK_CNT_LATE_N, F.TRACK_CNT_WRONG_TRACK_N, F.TRACK_CNT_DISC_N, F.TRACK_CNT_TAKEOVER_N, F.TRACK_CNT_COUNT_ERR_N, F.TRACK_CNT_LOST_N, F.TRACK_CNT_CLEAR_CLEAR]
/-- Every field that a page of type TRACK defines beyond the header. -/
def regsTRACK : List Fld :=
  regsTRACK_1 ++ regsTRACK_2 ++ regsTRACK_3 ++ regsTRACK_4 ++ regsTRACK_5

/-! DRIFT: spec/11_item_tracking.md, R322. -/

def F.DRIFT_DRIFT_CFG_IND_RESERVE : Fld := ⟨0x040, 16, 15, .rw, 0x100, .c⟩
def F.DRIFT_DRIFT_CFG_NOTE_QUEUE : Fld := ⟨0x040, 0, 10, .rw, 0, .c⟩
def F.DRIFT_DRIFT_TMR_HO_RETRY : Fld := ⟨0x044, 24, 8, .rws, 1, .t⟩
def F.DRIFT_DRIFT_TMR_HO_TO : Fld := ⟨0x044, 16, 8, .rws, 4, .t⟩
def F.DRIFT_DRIFT_TMR_PEND_TO : Fld := ⟨0x044, 8, 8, .rws, 0x20, .t⟩
def F.DRIFT_DRIFT_TMR_REOFFER : Fld := ⟨0x044, 0, 8, .rws, 0x64, .t⟩
def F.DRIFT_DRIFT_TMR2_RESYNC_TO : Fld := ⟨0x048, 0, 16, .rws, 0x3E8, .t⟩
def F.DRIFT_ACT_POOL_ACT_COUNT : Fld := ⟨0x04C, 16, 10, .rw, 0, .c⟩
def F.DRIFT_ACT_POOL_ACT_BASE : Fld := ⟨0x04C, 0, 10, .rw, 0, .c⟩
def F.DRIFT_STORE_STAT_FREE : Fld := ⟨0x050, 16, 15, .ro, 0x4000, .none⟩
def F.DRIFT_STORE_STAT_OWNED : Fld := ⟨0x050, 0, 15, .ro, 0, .none⟩
def F.DRIFT_STORE_STAT2_MIRROR : Fld := ⟨0x054, 16, 15, .ro, 0, .none⟩
def F.DRIFT_STORE_STAT2_PENDING : Fld := ⟨0x054, 0, 15, .ro, 0, .none⟩
def F.DRIFT_STORE_STAT3_RESYNC_DONE : Fld := ⟨0x058, 31, 1, .ro, 0, .none⟩
def F.DRIFT_STORE_STAT3_RETIRED : Fld := ⟨0x058, 16, 15, .ro, 0, .none⟩
def F.DRIFT_STORE_STAT3_DOUBT : Fld := ⟨0x058, 0, 15, .ro, 0, .none⟩
def F.DRIFT_OP_ADDR_OFFSET : Fld := ⟨0x060, 0, 21, .rw, 0, .a⟩
def F.DRIFT_OP_ARG_LO_ARG : Fld := ⟨0x064, 0, 32, .rw, 0, .a⟩
def F.DRIFT_OP_ARG_HI_ARG : Fld := ⟨0x068, 0, 32, .rw, 0, .a⟩
def F.DRIFT_OP_CMD_OP : Fld := ⟨0x06C, 28, 4, .wo, 0, .a⟩
def F.DRIFT_OP_CMD_ACTION : Fld := ⟨0x06C, 20, 2, .wo, 0, .a⟩
def F.DRIFT_OP_CMD_SLOT : Fld := ⟨0x06C, 0, 14, .wo, 0, .a⟩
def F.DRIFT_OP_RES_STATUS : Fld := ⟨0x070, 28, 4, .ro, 0, .none⟩
def F.DRIFT_OP_RES_SLOT : Fld := ⟨0x070, 0, 14, .ro, 0, .none⟩
def F.DRIFT_OP_VER_VERSION : Fld := ⟨0x074, 0, 16, .ro, 0, .none⟩
def F.DRIFT_CNT_INDUCT_N : Fld := ⟨0x080, 0, 32, .roc, 0, .none⟩
def F.DRIFT_CNT_IND_REFUSED_N : Fld := ⟨0x084, 0, 32, .roc, 0, .none⟩
def F.DRIFT_CNT_HO_OUT_N : Fld := ⟨0x088, 0, 32, .roc, 0, .none⟩
def F.DRIFT_CNT_HO_IN_N : Fld := ⟨0x08C, 0, 32, .roc, 0, .none⟩
def F.DRIFT_CNT_ADOPT_N : Fld := ⟨0x090, 0, 32, .roc, 0, .none⟩
def F.DRIFT_CNT_SKIP_N : Fld := ⟨0x094, 0, 32, .roc, 0, .none⟩
def F.DRIFT_CNT_MISSED_N : Fld := ⟨0x098, 0, 32, .roc, 0, .none⟩
def F.DRIFT_CNT_RETIRE_N : Fld := ⟨0x09C, 0, 32, .roc, 0, .none⟩
def F.DRIFT_CNT_HELD_N : Fld := ⟨0x0A0, 0, 32, .roc, 0, .none⟩
def F.DRIFT_CNT_RESEND_N : Fld := ⟨0x0A4, 0, 32, .roc, 0, .none⟩
def F.DRIFT_CNT_PEND_EXPIRED_N : Fld := ⟨0x0A8, 0, 32, .roc, 0, .none⟩
def F.DRIFT_CNT_UNKNOWN_N : Fld := ⟨0x0AC, 0, 32, .roc, 0, .none⟩
def F.DRIFT_CNT_RESYNC_KEPT_N : Fld := ⟨0x0B0, 0, 32, .roc, 0, .none⟩
def F.DRIFT_CNT_RESYNC_FREED_N : Fld := ⟨0x0B4, 0, 32, .roc, 0, .none⟩
def F.DRIFT_CNT_ORPHAN_N : Fld := ⟨0x0B8, 0, 32, .roc, 0, .none⟩
def F.DRIFT_CNT_CRC_ERR_N : Fld := ⟨0x0BC, 0, 32, .roc, 0, .none⟩
def F.DRIFT_CNT_NOTE_LOST_N : Fld := ⟨0x0C0, 0, 32, .roc, 0, .none⟩

def regsDRIFT_1 : List Fld :=
  [F.DRIFT_DRIFT_CFG_IND_RESERVE, F.DRIFT_DRIFT_CFG_NOTE_QUEUE, F.DRIFT_DRIFT_TMR_HO_RETRY, F.DRIFT_DRIFT_TMR_HO_TO, F.DRIFT_DRIFT_TMR_PEND_TO, F.DRIFT_DRIFT_TMR_REOFFER, F.DRIFT_DRIFT_TMR2_RESYNC_TO, F.DRIFT_ACT_POOL_ACT_COUNT, F.DRIFT_ACT_POOL_ACT_BASE, F.DRIFT_STORE_STAT_FREE, F.DRIFT_STORE_STAT_OWNED, F.DRIFT_STORE_STAT2_MIRROR]
def regsDRIFT_2 : List Fld :=
  [F.DRIFT_STORE_STAT2_PENDING, F.DRIFT_STORE_STAT3_RESYNC_DONE, F.DRIFT_STORE_STAT3_RETIRED, F.DRIFT_STORE_STAT3_DOUBT, F.DRIFT_OP_ADDR_OFFSET, F.DRIFT_OP_ARG_LO_ARG, F.DRIFT_OP_ARG_HI_ARG, F.DRIFT_OP_CMD_OP, F.DRIFT_OP_CMD_ACTION, F.DRIFT_OP_CMD_SLOT, F.DRIFT_OP_RES_STATUS, F.DRIFT_OP_RES_SLOT]
def regsDRIFT_3 : List Fld :=
  [F.DRIFT_OP_VER_VERSION, F.DRIFT_CNT_INDUCT_N, F.DRIFT_CNT_IND_REFUSED_N, F.DRIFT_CNT_HO_OUT_N, F.DRIFT_CNT_HO_IN_N, F.DRIFT_CNT_ADOPT_N, F.DRIFT_CNT_SKIP_N, F.DRIFT_CNT_MISSED_N, F.DRIFT_CNT_RETIRE_N, F.DRIFT_CNT_HELD_N, F.DRIFT_CNT_RESEND_N, F.DRIFT_CNT_PEND_EXPIRED_N]
def regsDRIFT_4 : List Fld :=
  [F.DRIFT_CNT_UNKNOWN_N, F.DRIFT_CNT_RESYNC_KEPT_N, F.DRIFT_CNT_RESYNC_FREED_N, F.DRIFT_CNT_ORPHAN_N, F.DRIFT_CNT_CRC_ERR_N, F.DRIFT_CNT_NOTE_LOST_N]
/-- Every field that a page of type DRIFT defines beyond the header. -/
def regsDRIFT : List Fld :=
  regsDRIFT_1 ++ regsDRIFT_2 ++ regsDRIFT_3 ++ regsDRIFT_4

/-! ZONES: spec/11_item_tracking.md, R324. -/

def F.ZONES_ZCFG_EN (s : Nat) : Fld := ⟨0x100 + 0x80 * s, 31, 1, .rw, 0, .c⟩
def F.ZONES_ZCFG_INDUCT (s : Nat) : Fld := ⟨0x100 + 0x80 * s, 30, 1, .rw, 1, .c⟩
def F.ZONES_ZCFG_HANDOFF_LEAD (s : Nat) : Fld := ⟨0x100 + 0x80 * s, 0, 24, .rw, 0x7A120, .c⟩
def F.ZONES_ZCFG2_VMAX (s : Nat) : Fld := ⟨0x104 + 0x80 * s, 16, 16, .rw, 0xFA0, .c⟩
def F.ZONES_ZCFG2_RET_SES (s : Nat) : Fld := ⟨0x104 + 0x80 * s, 0, 8, .rw, 0, .c⟩
def F.ZONES_ZSTAT_LEAD_SHORT (s : Nat) : Fld := ⟨0x108 + 0x80 * s, 31, 1, .ro, 0, .none⟩
def F.ZONES_ZSTAT_HOLDING (s : Nat) : Fld := ⟨0x108 + 0x80 * s, 30, 1, .ro, 0, .none⟩
def F.ZONES_ZSTAT_CHAIN_END (s : Nat) : Fld := ⟨0x108 + 0x80 * s, 29, 1, .ro, 0, .none⟩
def F.ZONES_ZSTAT_DISC (s : Nat) : Fld := ⟨0x108 + 0x80 * s, 28, 1, .w1c, 0, .a⟩
def F.ZONES_ZSTAT_CHAIN_BAD (s : Nat) : Fld := ⟨0x108 + 0x80 * s, 27, 1, .ro, 0, .none⟩
def F.ZONES_ZSTAT_ITEMS (s : Nat) : Fld := ⟨0x108 + 0x80 * s, 0, 16, .ro, 0, .none⟩
def F.ZONES_ZTARGET_VALID (s : Nat) : Fld := ⟨0x10C + 0x80 * s, 31, 1, .ro, 0, .none⟩
def F.ZONES_ZTARGET_ADDR (s : Nat) : Fld := ⟨0x10C + 0x80 * s, 0, 12, .ro, 0, .none⟩
def F.ZONES_CHAIN_LO_START (s : Nat) (k : Nat) : Fld := ⟨0x140 + 0x80 * s + 0x8 * k, 0, 32, .rw, 0, .c⟩
def F.ZONES_CHAIN_HI_VALID (s : Nat) (k : Nat) : Fld := ⟨0x144 + 0x80 * s + 0x8 * k, 31, 1, .rw, 0, .c⟩
def F.ZONES_CHAIN_HI_OWNER (s : Nat) (k : Nat) : Fld := ⟨0x144 + 0x80 * s + 0x8 * k, 16, 12, .rw, 0, .c⟩
def F.ZONES_CHAIN_HI_START (s : Nat) (k : Nat) : Fld := ⟨0x144 + 0x80 * s + 0x8 * k, 0, 16, .rw, 0, .c⟩

def regsZONES_1 : List Fld :=
  (List.range 8).flatMap fun s => [F.ZONES_ZCFG_EN s, F.ZONES_ZCFG_INDUCT s, F.ZONES_ZCFG_HANDOFF_LEAD s, F.ZONES_ZCFG2_VMAX s, F.ZONES_ZCFG2_RET_SES s, F.ZONES_ZSTAT_LEAD_SHORT s, F.ZONES_ZSTAT_HOLDING s, F.ZONES_ZSTAT_CHAIN_END s, F.ZONES_ZSTAT_DISC s, F.ZONES_ZSTAT_CHAIN_BAD s, F.ZONES_ZSTAT_ITEMS s, F.ZONES_ZTARGET_VALID s]
def regsZONES_2 : List Fld :=
  (List.range 8).flatMap fun s => [F.ZONES_ZTARGET_ADDR s]
def regsZONES_3 : List Fld :=
  (List.range 8).flatMap fun s => (List.range 8).flatMap fun k => [F.ZONES_CHAIN_LO_START s k, F.ZONES_CHAIN_HI_VALID s k, F.ZONES_CHAIN_HI_OWNER s k, F.ZONES_CHAIN_HI_START s k]
/-- Every field that a page of type ZONES defines beyond the header. -/
def regsZONES : List Fld :=
  regsZONES_1 ++ regsZONES_2 ++ regsZONES_3

/-! EDGE: spec/12_scheduled_actuation.md, R346. -/

def F.EDGE_EDGE_CFG_HORIZON : Fld := ⟨0x040, 24, 4, .rws, 2, .t⟩
def F.EDGE_EDGE_CFG_LATE_MAX : Fld := ⟨0x040, 0, 20, .rws, 0x2710, .t⟩
def F.EDGE_EDGE_STAT_PENDING : Fld := ⟨0x044, 16, 13, .ro, 0, .none⟩
def F.EDGE_EDGE_STAT_ACTIVE : Fld := ⟨0x044, 0, 11, .ro, 0, .none⟩
def F.EDGE_ENT_SEL_ENTRY : Fld := ⟨0x048, 0, 10, .rw, 0, .a⟩
def F.EDGE_ENT_TGT_KIND : Fld := ⟨0x04C, 28, 4, .rw, 0, .a⟩
def F.EDGE_ENT_TGT_SAFE : Fld := ⟨0x04C, 26, 2, .rw, 0, .a⟩
def F.EDGE_ENT_TGT_LATE_FIRE : Fld := ⟨0x04C, 25, 1, .rw, 0, .a⟩
def F.EDGE_ENT_TGT_ON_LOST : Fld := ⟨0x04C, 24, 1, .rw, 0, .a⟩
def F.EDGE_ENT_TGT_IRQ : Fld := ⟨0x04C, 23, 1, .rw, 0, .a⟩
def F.EDGE_ENT_TGT_UNIT : Fld := ⟨0x04C, 8, 8, .rw, 0, .a⟩
def F.EDGE_ENT_TGT_SUB : Fld := ⟨0x04C, 0, 8, .rw, 0, .a⟩
def F.EDGE_ENT_ARM0_POS : Fld := ⟨0x050, 31, 1, .rw, 0, .a⟩
def F.EDGE_ENT_ARM0_SLOT : Fld := ⟨0x050, 28, 3, .rw, 0, .a⟩
def F.EDGE_ENT_ARM0_DUR_POS : Fld := ⟨0x050, 27, 1, .rw, 0, .a⟩
def F.EDGE_ENT_ARM0_HALF : Fld := ⟨0x050, 24, 1, .rw, 0, .a⟩
def F.EDGE_ENT_ARM0_PATTERN : Fld := ⟨0x050, 0, 16, .rw, 0, .a⟩
def F.EDGE_ENT_ARM1_TRIG : Fld := ⟨0x054, 0, 32, .rw, 0, .a⟩
def F.EDGE_ENT_ARM2_TRIG : Fld := ⟨0x058, 0, 32, .rw, 0, .a⟩
def F.EDGE_ENT_ARM3_DURATION : Fld := ⟨0x05C, 8, 24, .rw, 0, .a⟩
def F.EDGE_ENT_CMD_OP : Fld := ⟨0x060, 28, 4, .wo, 0, .a⟩
def F.EDGE_ENT_RES_RESULT : Fld := ⟨0x064, 28, 4, .ro, 0, .none⟩
def F.EDGE_ENT_STAT_STATE : Fld := ⟨0x068, 30, 2, .ro, 0, .none⟩
def F.EDGE_ENT_STAT_LAST : Fld := ⟨0x068, 24, 4, .ro, 0, .none⟩
def F.EDGE_ENT_STAT_PENDING : Fld := ⟨0x068, 0, 13, .ro, 0, .none⟩
def F.EDGE_ENT_NEXT_LO_NS : Fld := ⟨0x06C, 0, 32, .ro, 0, .none⟩
def F.EDGE_ENT_NEXT_HI_NS : Fld := ⟨0x070, 0, 32, .ro, 0, .none⟩
def F.EDGE_ENT_LAST_LO_NS : Fld := ⟨0x074, 0, 32, .ro, 0, .none⟩
def F.EDGE_ENT_LAST_HI_NS : Fld := ⟨0x078, 0, 32, .ro, 0, .none⟩
def F.EDGE_CNT_FIRED_N : Fld := ⟨0x080, 0, 32, .ro, 0, .none⟩
def F.EDGE_CNT_LATE_FIRED_N : Fld := ⟨0x084, 0, 32, .ro, 0, .none⟩
def F.EDGE_CNT_LATE_DROPPED_N : Fld := ⟨0x088, 0, 32, .ro, 0, .none⟩
def F.EDGE_CNT_TARGET_ERR_N : Fld := ⟨0x08C, 0, 32, .ro, 0, .none⟩
def F.EDGE_CNT_POOL_FULL_N : Fld := ⟨0x090, 0, 32, .ro, 0, .none⟩
def F.EDGE_CNT_COLLIDE_N : Fld := ⟨0x094, 0, 32, .ro, 0, .none⟩
def F.EDGE_CNT_RETRACT_N : Fld := ⟨0x098, 0, 32, .ro, 0, .none⟩
def F.EDGE_CNT_DISC_PASSED_N : Fld := ⟨0x09C, 0, 32, .ro, 0, .none⟩
def F.EDGE_CNT_FIELD_LATE_N : Fld := ⟨0x0A0, 0, 32, .ro, 0, .none⟩
def F.EDGE_CNT_CMP_BUSY_N : Fld := ⟨0x0A4, 0, 32, .ro, 0, .none⟩
def F.EDGE_CNT_CLEAR_CLEAR : Fld := ⟨0x0A8, 0, 1, .w1s, 0, .a⟩
def F.EDGE_DRV_DLY_NS (c : Nat) : Fld := ⟨0x100 + 0x4 * c, 0, 16, .rw, 0, .c⟩

def regsEDGE_1 : List Fld :=
  [F.EDGE_EDGE_CFG_HORIZON, F.EDGE_EDGE_CFG_LATE_MAX, F.EDGE_EDGE_STAT_PENDING, F.EDGE_EDGE_STAT_ACTIVE, F.EDGE_ENT_SEL_ENTRY, F.EDGE_ENT_TGT_KIND, F.EDGE_ENT_TGT_SAFE, F.EDGE_ENT_TGT_LATE_FIRE, F.EDGE_ENT_TGT_ON_LOST, F.EDGE_ENT_TGT_IRQ, F.EDGE_ENT_TGT_UNIT, F.EDGE_ENT_TGT_SUB]
def regsEDGE_2 : List Fld :=
  [F.EDGE_ENT_ARM0_POS, F.EDGE_ENT_ARM0_SLOT, F.EDGE_ENT_ARM0_DUR_POS, F.EDGE_ENT_ARM0_HALF, F.EDGE_ENT_ARM0_PATTERN, F.EDGE_ENT_ARM1_TRIG, F.EDGE_ENT_ARM2_TRIG, F.EDGE_ENT_ARM3_DURATION, F.EDGE_ENT_CMD_OP, F.EDGE_ENT_RES_RESULT, F.EDGE_ENT_STAT_STATE, F.EDGE_ENT_STAT_LAST]
def regsEDGE_3 : List Fld :=
  [F.EDGE_ENT_STAT_PENDING, F.EDGE_ENT_NEXT_LO_NS, F.EDGE_ENT_NEXT_HI_NS, F.EDGE_ENT_LAST_LO_NS, F.EDGE_ENT_LAST_HI_NS, F.EDGE_CNT_FIRED_N, F.EDGE_CNT_LATE_FIRED_N, F.EDGE_CNT_LATE_DROPPED_N, F.EDGE_CNT_TARGET_ERR_N, F.EDGE_CNT_POOL_FULL_N, F.EDGE_CNT_COLLIDE_N, F.EDGE_CNT_RETRACT_N]
def regsEDGE_4 : List Fld :=
  [F.EDGE_CNT_DISC_PASSED_N, F.EDGE_CNT_FIELD_LATE_N, F.EDGE_CNT_CMP_BUSY_N, F.EDGE_CNT_CLEAR_CLEAR]
def regsEDGE_5 : List Fld :=
  (List.range 64).flatMap fun c => [F.EDGE_DRV_DLY_NS c]
/-- Every field that a page of type EDGE defines beyond the header. -/
def regsEDGE : List Fld :=
  regsEDGE_1 ++ regsEDGE_2 ++ regsEDGE_3 ++ regsEDGE_4 ++ regsEDGE_5

/-! CAPTURE: spec/12_scheduled_actuation.md, R348. -/

def F.CAPTURE_CNT_RECORDS_N : Fld := ⟨0x080, 0, 32, .ro, 0, .none⟩
def F.CAPTURE_CNT_LOST_N : Fld := ⟨0x084, 0, 32, .ro, 0, .none⟩
def F.CAPTURE_CNT_CLEAR_CLEAR : Fld := ⟨0x088, 0, 1, .w1s, 0, .a⟩
def F.CAPTURE_CAP_CFG_EN (u : Nat) : Fld := ⟨0x100 + 0x20 * u, 31, 1, .rw, 0, .a⟩
def F.CAPTURE_CAP_CFG_KIND (u : Nat) : Fld := ⟨0x100 + 0x20 * u, 28, 3, .rw, 0, .c⟩
def F.CAPTURE_CAP_CFG_INDEX (u : Nat) : Fld := ⟨0x100 + 0x20 * u, 20, 8, .rw, 0, .c⟩
def F.CAPTURE_CAP_CFG_EDGES (u : Nat) : Fld := ⟨0x100 + 0x20 * u, 18, 2, .rw, 0, .a⟩
def F.CAPTURE_CAP_CFG_POS_EN (u : Nat) : Fld := ⟨0x100 + 0x20 * u, 17, 1, .rw, 0, .a⟩
def F.CAPTURE_CAP_CFG_SLOT (u : Nat) : Fld := ⟨0x100 + 0x20 * u, 14, 3, .rw, 0, .a⟩
def F.CAPTURE_CAP_CFG_IRQ (u : Nat) : Fld := ⟨0x100 + 0x20 * u, 13, 1, .rw, 0, .a⟩
def F.CAPTURE_CAP_CFG_QUEUE (u : Nat) : Fld := ⟨0x100 + 0x20 * u, 0, 10, .rw, 0, .c⟩
def F.CAPTURE_CAP_FILT_IN_DLY (u : Nat) : Fld := ⟨0x104 + 0x20 * u, 16, 16, .rw, 0, .c⟩
def F.CAPTURE_CAP_FILT_MIN_WIDTH (u : Nat) : Fld := ⟨0x104 + 0x20 * u, 0, 12, .rw, 0, .c⟩
def F.CAPTURE_CAP_LAST_LO_NS (u : Nat) : Fld := ⟨0x108 + 0x20 * u, 0, 32, .ro, 0, .none⟩
def F.CAPTURE_CAP_LAST_HI_NS (u : Nat) : Fld := ⟨0x10C + 0x20 * u, 0, 32, .ro, 0, .none⟩
def F.CAPTURE_CAP_LAST_INFO_VALID (u : Nat) : Fld := ⟨0x110 + 0x20 * u, 31, 1, .ro, 0, .none⟩
def F.CAPTURE_CAP_LAST_INFO_LEVEL (u : Nat) : Fld := ⟨0x110 + 0x20 * u, 30, 1, .ro, 0, .none⟩
def F.CAPTURE_CAP_LAST_INFO_FRAC (u : Nat) : Fld := ⟨0x110 + 0x20 * u, 0, 16, .ro, 0, .none⟩
def F.CAPTURE_CAP_TICK_LEVEL (u : Nat) : Fld := ⟨0x114 + 0x20 * u, 31, 1, .ro, 0, .none⟩
def F.CAPTURE_CAP_TICK_COUNT (u : Nat) : Fld := ⟨0x114 + 0x20 * u, 0, 16, .ro, 0, .none⟩
def F.CAPTURE_CAP_STAT_OVF (u : Nat) : Fld := ⟨0x118 + 0x20 * u, 31, 1, .w1c, 0, .a⟩
def F.CAPTURE_CAP_LOST_N (u : Nat) : Fld := ⟨0x11C + 0x20 * u, 0, 32, .roc, 0, .none⟩

def regsCAPTURE_1 : List Fld :=
  [F.CAPTURE_CNT_RECORDS_N, F.CAPTURE_CNT_LOST_N, F.CAPTURE_CNT_CLEAR_CLEAR]
def regsCAPTURE_2 : List Fld :=
  (List.range 16).flatMap fun u => [F.CAPTURE_CAP_CFG_EN u, F.CAPTURE_CAP_CFG_KIND u, F.CAPTURE_CAP_CFG_INDEX u, F.CAPTURE_CAP_CFG_EDGES u, F.CAPTURE_CAP_CFG_POS_EN u, F.CAPTURE_CAP_CFG_SLOT u, F.CAPTURE_CAP_CFG_IRQ u, F.CAPTURE_CAP_CFG_QUEUE u, F.CAPTURE_CAP_FILT_IN_DLY u, F.CAPTURE_CAP_FILT_MIN_WIDTH u, F.CAPTURE_CAP_LAST_LO_NS u, F.CAPTURE_CAP_LAST_HI_NS u]
def regsCAPTURE_3 : List Fld :=
  (List.range 16).flatMap fun u => [F.CAPTURE_CAP_LAST_INFO_VALID u, F.CAPTURE_CAP_LAST_INFO_LEVEL u, F.CAPTURE_CAP_LAST_INFO_FRAC u, F.CAPTURE_CAP_TICK_LEVEL u, F.CAPTURE_CAP_TICK_COUNT u, F.CAPTURE_CAP_STAT_OVF u, F.CAPTURE_CAP_LOST_N u]
/-- Every field that a page of type CAPTURE defines beyond the header. -/
def regsCAPTURE : List Fld :=
  regsCAPTURE_1 ++ regsCAPTURE_2 ++ regsCAPTURE_3

end Sys2Proof.Machine
end

