-- ==== Sys2Proof/Machine/RegMapC.lean ====
section
/-!
DEFINITION. Register fields of the page types FIELD, ENCODER, FDIE, ADC, CAN, PIO, PINMUX, ETH, UART, HOSTPORT, FLASH, each as
the register tables of spec/ give it: offset, lowest bit, width, access code, reset value, write class. An indexed register is a
function of its index. -/

namespace Sys2Proof.Machine

/-! FIELD: spec/13_field_io.md, R374. -/

def F.FIELD_IN_TICK_LEVEL : Fld := ⟨0x040, 0, 8, .ro, 0, .none⟩
def F.FIELD_IN_NOW_LEVEL : Fld := ⟨0x044, 0, 8, .ro, 0, .none⟩
def F.FIELD_CH_CFG_MODE (k : Nat) : Fld := ⟨0x100 + 0x20 * k, 28, 4, .rw, 0, .c⟩
def F.FIELD_CH_CFG_SAFE (k : Nat) : Fld := ⟨0x100 + 0x20 * k, 26, 2, .rw, 0, .c⟩
def F.FIELD_CH_CFG_AUTO_RETRY (k : Nat) : Fld := ⟨0x100 + 0x20 * k, 25, 1, .rw, 0, .c⟩
def F.FIELD_CH_CFG_BREAK_EN (k : Nat) : Fld := ⟨0x100 + 0x20 * k, 24, 1, .rw, 0, .c⟩
def F.FIELD_CH_CFG_OVL_TIME (k : Nat) : Fld := ⟨0x100 + 0x20 * k, 16, 8, .rw, 0x14, .c⟩
def F.FIELD_CH_CFG_FILT (k : Nat) : Fld := ⟨0x100 + 0x20 * k, 8, 8, .rw, 0, .a⟩
def F.FIELD_CH_CFG_EDGE_EV (k : Nat) : Fld := ⟨0x100 + 0x20 * k, 4, 2, .rw, 0, .a⟩
def F.FIELD_CH_CFG_SIO (k : Nat) : Fld := ⟨0x100 + 0x20 * k, 1, 1, .rw, 0, .a⟩
def F.FIELD_CH_CFG_SIO_OUT (k : Nat) : Fld := ⟨0x100 + 0x20 * k, 0, 1, .rw, 0, .a⟩
def F.FIELD_CH_OUT_RELEASE (k : Nat) : Fld := ⟨0x104 + 0x20 * k, 31, 1, .w1s, 0, .a⟩
def F.FIELD_CH_OUT_FORCE_SAFE (k : Nat) : Fld := ⟨0x104 + 0x20 * k, 30, 1, .w1s, 0, .a⟩
def F.FIELD_CH_OUT_WURQ (k : Nat) : Fld := ⟨0x104 + 0x20 * k, 1, 1, .w1s, 0, .a⟩
def F.FIELD_CH_OUT_LEVEL (k : Nat) : Fld := ⟨0x104 + 0x20 * k, 0, 1, .rw, 0, .a⟩
def F.FIELD_CH_STAT_SAFE_ACTIVE (k : Nat) : Fld := ⟨0x108 + 0x20 * k, 31, 1, .ro, 0, .none⟩
def F.FIELD_CH_STAT_DRIVER_ON (k : Nat) : Fld := ⟨0x108 + 0x20 * k, 30, 1, .ro, 0, .none⟩
def F.FIELD_CH_STAT_PIN (k : Nat) : Fld := ⟨0x108 + 0x20 * k, 29, 1, .ro, 0, .none⟩
def F.FIELD_CH_STAT_TICK_LEVEL (k : Nat) : Fld := ⟨0x108 + 0x20 * k, 28, 1, .ro, 0, .none⟩
def F.FIELD_CH_STAT_WURQ_BUSY (k : Nat) : Fld := ⟨0x108 + 0x20 * k, 27, 1, .ro, 0, .none⟩
def F.FIELD_CH_STAT_FAULT_NOW (k : Nat) : Fld := ⟨0x108 + 0x20 * k, 16, 7, .ro, 0, .none⟩
def F.FIELD_CH_STAT_FAULT (k : Nat) : Fld := ⟨0x108 + 0x20 * k, 0, 7, .w1c, 0, .a⟩
def F.FIELD_CH_CUR_MA (k : Nat) : Fld := ⟨0x10C + 0x20 * k, 0, 11, .ro, 0, .none⟩
def F.FIELD_CH_CNT_TRIPS (k : Nat) : Fld := ⟨0x110 + 0x20 * k, 16, 16, .ro, 0, .none⟩
def F.FIELD_CH_CNT_THERMALS (k : Nat) : Fld := ⟨0x110 + 0x20 * k, 0, 16, .ro, 0, .none⟩

def regsFIELD_1 : List Fld :=
  [F.FIELD_IN_TICK_LEVEL, F.FIELD_IN_NOW_LEVEL]
def regsFIELD_2 : List Fld :=
  (List.range 8).flatMap fun k => [F.FIELD_CH_CFG_MODE k, F.FIELD_CH_CFG_SAFE k, F.FIELD_CH_CFG_AUTO_RETRY k, F.FIELD_CH_CFG_BREAK_EN k, F.FIELD_CH_CFG_OVL_TIME k, F.FIELD_CH_CFG_FILT k, F.FIELD_CH_CFG_EDGE_EV k, F.FIELD_CH_CFG_SIO k, F.FIELD_CH_CFG_SIO_OUT k, F.FIELD_CH_OUT_RELEASE k, F.FIELD_CH_OUT_FORCE_SAFE k, F.FIELD_CH_OUT_WURQ k]
def regsFIELD_3 : List Fld :=
  (List.range 8).flatMap fun k => [F.FIELD_CH_OUT_LEVEL k, F.FIELD_CH_STAT_SAFE_ACTIVE k, F.FIELD_CH_STAT_DRIVER_ON k, F.FIELD_CH_STAT_PIN k, F.FIELD_CH_STAT_TICK_LEVEL k, F.FIELD_CH_STAT_WURQ_BUSY k, F.FIELD_CH_STAT_FAULT_NOW k, F.FIELD_CH_STAT_FAULT k, F.FIELD_CH_CUR_MA k, F.FIELD_CH_CNT_TRIPS k, F.FIELD_CH_CNT_THERMALS k]
/-- Every field that a page of type FIELD defines beyond the header. -/
def regsFIELD : List Fld :=
  regsFIELD_1 ++ regsFIELD_2 ++ regsFIELD_3

/-! ENCODER: spec/13_field_io.md, R376. -/

def F.ENCODER_ENC_CFG_EN (e : Nat) : Fld := ⟨0x100 + 0x20 * e, 31, 1, .rw, 0, .c⟩
def F.ENCODER_ENC_CFG_CMODE (e : Nat) : Fld := ⟨0x100 + 0x20 * e, 28, 3, .rw, 0, .c⟩
def F.ENCODER_ENC_CFG_HTL (e : Nat) : Fld := ⟨0x100 + 0x20 * e, 27, 1, .rw, 0, .c⟩
def F.ENCODER_ENC_CFG_COMPL (e : Nat) : Fld := ⟨0x100 + 0x20 * e, 26, 1, .rw, 1, .c⟩
def F.ENCODER_ENC_CFG_Z_CHECK (e : Nat) : Fld := ⟨0x100 + 0x20 * e, 25, 1, .rw, 0, .c⟩
def F.ENCODER_ENC_CFG_BREAK_EN (e : Nat) : Fld := ⟨0x100 + 0x20 * e, 24, 1, .rw, 1, .c⟩
def F.ENCODER_ENC_CFG_FILT (e : Nat) : Fld := ⟨0x100 + 0x20 * e, 16, 4, .rw, 2, .c⟩
def F.ENCODER_ENC_CFG_BREAK_TIME (e : Nat) : Fld := ⟨0x100 + 0x20 * e, 0, 8, .rw, 0x14, .c⟩
def F.ENCODER_ENC_COUNT_C (e : Nat) : Fld := ⟨0x104 + 0x20 * e, 0, 32, .ro, 0, .none⟩
def F.ENCODER_ENC_TICK_C (e : Nat) : Fld := ⟨0x108 + 0x20 * e, 0, 32, .ro, 0, .none⟩
def F.ENCODER_ENC_ZLATCH_C (e : Nat) : Fld := ⟨0x10C + 0x20 * e, 0, 32, .ro, 0, .none⟩
def F.ENCODER_ENC_STAT_BREAK (e : Nat) : Fld := ⟨0x110 + 0x20 * e, 31, 1, .ro, 0, .none⟩
def F.ENCODER_ENC_STAT_BREAK_SEEN (e : Nat) : Fld := ⟨0x110 + 0x20 * e, 30, 1, .w1c, 0, .a⟩
def F.ENCODER_ENC_STAT_ERR_SEEN (e : Nat) : Fld := ⟨0x110 + 0x20 * e, 29, 1, .w1c, 0, .a⟩
def F.ENCODER_ENC_STAT_CLK_LOST (e : Nat) : Fld := ⟨0x110 + 0x20 * e, 28, 1, .w1c, 0, .a⟩
def F.ENCODER_ENC_STAT_BREAK_LINES (e : Nat) : Fld := ⟨0x110 + 0x20 * e, 24, 3, .ro, 0, .none⟩
def F.ENCODER_ENC_ERRS_N (e : Nat) : Fld := ⟨0x114 + 0x20 * e, 0, 32, .ro, 0, .none⟩

def regsENCODER_1 : List Fld :=
  (List.range 4).flatMap fun e => [F.ENCODER_ENC_CFG_EN e, F.ENCODER_ENC_CFG_CMODE e, F.ENCODER_ENC_CFG_HTL e, F.ENCODER_ENC_CFG_COMPL e, F.ENCODER_ENC_CFG_Z_CHECK e, F.ENCODER_ENC_CFG_BREAK_EN e, F.ENCODER_ENC_CFG_FILT e, F.ENCODER_ENC_CFG_BREAK_TIME e, F.ENCODER_ENC_COUNT_C e, F.ENCODER_ENC_TICK_C e, F.ENCODER_ENC_ZLATCH_C e, F.ENCODER_ENC_STAT_BREAK e]
def regsENCODER_2 : List Fld :=
  (List.range 4).flatMap fun e => [F.ENCODER_ENC_STAT_BREAK_SEEN e, F.ENCODER_ENC_STAT_ERR_SEEN e, F.ENCODER_ENC_STAT_CLK_LOST e, F.ENCODER_ENC_STAT_BREAK_LINES e, F.ENCODER_ENC_ERRS_N e]
/-- Every field that a page of type ENCODER defines beyond the header. -/
def regsENCODER : List Fld :=
  regsENCODER_1 ++ regsENCODER_2

/-! FDIE: spec/13_field_io.md, R378. -/

def F.FDIE_WDT_CFG_TIME : Fld := ⟨0x040, 0, 17, .rw, 0x3E8, .b⟩
def F.FDIE_SAFE_HOLD_T : Fld := ⟨0x044, 0, 8, .rw, 10, .c⟩
def F.FDIE_FD_STAT_VF_UV : Fld := ⟨0x048, 31, 1, .ro, 0, .none⟩
def F.FDIE_FD_STAT_VF_REV : Fld := ⟨0x048, 30, 1, .ro, 0, .none⟩
def F.FDIE_FD_STAT_OVERTEMP : Fld := ⟨0x048, 29, 1, .ro, 0, .none⟩
def F.FDIE_FD_STAT_CLK_LOST : Fld := ⟨0x048, 28, 1, .ro, 0, .none⟩
def F.FDIE_FD_STAT_LAST_CAUSE : Fld := ⟨0x048, 0, 3, .ro, 0, .none⟩
def F.FDIE_VF_CFG_UV : Fld := ⟨0x04C, 0, 16, .rw, 0x4268, .c⟩
def F.FDIE_IN_LO_LEVEL : Fld := ⟨0x050, 0, 32, .ro, 0, .none⟩
def F.FDIE_IN_HI_LEVEL : Fld := ⟨0x054, 0, 32, .ro, 0, .none⟩
def F.FDIE_CNT_WDT_N : Fld := ⟨0x058, 0, 32, .ro, 0, .none⟩
def F.FDIE_CNT_SAFE_N : Fld := ⟨0x05C, 0, 32, .ro, 0, .none⟩

def regsFDIE_1 : List Fld :=
  [F.FDIE_WDT_CFG_TIME, F.FDIE_SAFE_HOLD_T, F.FDIE_FD_STAT_VF_UV, F.FDIE_FD_STAT_VF_REV, F.FDIE_FD_STAT_OVERTEMP, F.FDIE_FD_STAT_CLK_LOST, F.FDIE_FD_STAT_LAST_CAUSE, F.FDIE_VF_CFG_UV, F.FDIE_IN_LO_LEVEL, F.FDIE_IN_HI_LEVEL, F.FDIE_CNT_WDT_N, F.FDIE_CNT_SAFE_N]
/-- Every field that a page of type FDIE defines beyond the header. -/
def regsFDIE : List Fld :=
  regsFDIE_1

/-! ADC: spec/13_field_io.md, R380. -/

def F.ADC_ADC_CFG_AVG : Fld := ⟨0x040, 29, 3, .rw, 0, .a⟩
def F.ADC_ADC_SEL_CH_SEL : Fld := ⟨0x044, 0, 6, .rw, 0, .a⟩
def F.ADC_SCAN_EN : Fld := ⟨0x048, 0, 24, .rw, 0xCFFF7F, .a⟩
def F.ADC_LIM_STAT_OUT : Fld := ⟨0x04C, 0, 24, .w1c, 0, .a⟩
def F.ADC_FIFO_MASK_EN : Fld := ⟨0x050, 0, 24, .rw, 0, .a⟩
def F.ADC_FIFO_VALID : Fld := ⟨0x054, 31, 1, .roc, 0, .none⟩
def F.ADC_FIFO_INPUT : Fld := ⟨0x054, 24, 5, .roc, 0, .none⟩
def F.ADC_FIFO_VALUE : Fld := ⟨0x054, 0, 16, .roc, 0, .none⟩
def F.ADC_FIFO_STAT_OVF : Fld := ⟨0x058, 31, 1, .w1c, 0, .a⟩
def F.ADC_FIFO_STAT_LEVEL : Fld := ⟨0x058, 0, 7, .ro, 0, .none⟩
def F.ADC_RESULT_VALID (i : Nat) : Fld := ⟨0x100 + 0x4 * i, 31, 1, .ro, 0, .none⟩
def F.ADC_RESULT_OVR (i : Nat) : Fld := ⟨0x100 + 0x4 * i, 30, 1, .ro, 0, .none⟩
def F.ADC_RESULT_RAW (i : Nat) : Fld := ⟨0x100 + 0x4 * i, 16, 12, .ro, 0, .none⟩
def F.ADC_RESULT_VALUE (i : Nat) : Fld := ⟨0x100 + 0x4 * i, 0, 16, .ro, 0, .none⟩
def F.ADC_SCALE_GAIN (i : Nat) : Fld := ⟨0x180 + 0x4 * i, 16, 16, .rw, 0x1000, .c⟩
def F.ADC_SCALE_OFFSET (i : Nat) : Fld := ⟨0x180 + 0x4 * i, 0, 16, .rw, 0, .c⟩
def F.ADC_LIMIT_HI (i : Nat) : Fld := ⟨0x200 + 0x4 * i, 16, 16, .rw, 0, .a⟩
def F.ADC_LIMIT_LO (i : Nat) : Fld := ⟨0x200 + 0x4 * i, 0, 16, .rw, 0, .a⟩

def regsADC_1 : List Fld :=
  [F.ADC_ADC_CFG_AVG, F.ADC_ADC_SEL_CH_SEL, F.ADC_SCAN_EN, F.ADC_LIM_STAT_OUT, F.ADC_FIFO_MASK_EN, F.ADC_FIFO_VALID, F.ADC_FIFO_INPUT, F.ADC_FIFO_VALUE, F.ADC_FIFO_STAT_OVF, F.ADC_FIFO_STAT_LEVEL]
def regsADC_2 : List Fld :=
  (List.range 24).flatMap fun i => [F.ADC_RESULT_VALID i, F.ADC_RESULT_OVR i, F.ADC_RESULT_RAW i, F.ADC_RESULT_VALUE i, F.ADC_SCALE_GAIN i, F.ADC_SCALE_OFFSET i, F.ADC_LIMIT_HI i, F.ADC_LIMIT_LO i]
/-- Every field that a page of type ADC defines beyond the header. -/
def regsADC : List Fld :=
  regsADC_1 ++ regsADC_2

/-! CAN: spec/14_can_controllers.md, R405. -/

def F.CAN_CAN_CFG_PROTO : Fld := ⟨0x040, 30, 2, .rw, 1, .s⟩
def F.CAN_CAN_CFG_LISTEN_ONLY : Fld := ⟨0x040, 29, 1, .rw, 0, .s⟩
def F.CAN_CAN_CFG_RESTRICTED : Fld := ⟨0x040, 28, 1, .rw, 0, .s⟩
def F.CAN_CAN_CFG_LOOPBACK : Fld := ⟨0x040, 27, 1, .rw, 0, .s⟩
def F.CAN_CAN_CFG_PXHD : Fld := ⟨0x040, 26, 1, .rw, 0, .s⟩
def F.CAN_CAN_CFG_BO_MANUAL : Fld := ⟨0x040, 25, 1, .rw, 0, .a⟩
def F.CAN_CAN_CFG_SELF_RX : Fld := ⟨0x040, 24, 1, .rw, 0, .a⟩
def F.CAN_CAN_CFG_PRIO_MODE : Fld := ⟨0x040, 23, 1, .rw, 0, .a⟩
def F.CAN_CAN_CFG_REJECT_NOMATCH : Fld := ⟨0x040, 22, 1, .rw, 1, .c⟩
def F.CAN_CAN_CFG_XL_TMS : Fld := ⟨0x040, 21, 1, .rw, 0, .s⟩
def F.CAN_CAN_CFG_FALLBACK : Fld := ⟨0x040, 16, 3, .rw, 0, .a⟩
def F.CAN_CAN_CFG_FB_EN : Fld := ⟨0x040, 15, 1, .rw, 0, .a⟩
def F.CAN_CAN_CFG_FB_BASE : Fld := ⟨0x040, 0, 5, .rw, 0x18, .a⟩
def F.CAN_NBT_BRP : Fld := ⟨0x044, 27, 5, .rw, 9, .s⟩
def F.CAN_NBT_TSEG1 : Fld := ⟨0x044, 18, 9, .rw, 0x26, .s⟩
def F.CAN_NBT_TSEG2 : Fld := ⟨0x044, 11, 7, .rw, 9, .s⟩
def F.CAN_NBT_SJW : Fld := ⟨0x044, 4, 7, .rw, 9, .s⟩
def F.CAN_DBT_BRP : Fld := ⟨0x048, 27, 5, .rw, 0, .s⟩
def F.CAN_DBT_TSEG1 : Fld := ⟨0x048, 21, 6, .rw, 0x25, .s⟩
def F.CAN_DBT_TSEG2 : Fld := ⟨0x048, 16, 5, .rw, 10, .s⟩
def F.CAN_DBT_SJW : Fld := ⟨0x048, 11, 5, .rw, 10, .s⟩
def F.CAN_DBT_TDC_EN : Fld := ⟨0x048, 10, 1, .rw, 1, .s⟩
def F.CAN_DBT_TDCO : Fld := ⟨0x048, 0, 8, .rw, 0x26, .s⟩
def F.CAN_XL_PWM_PWMS : Fld := ⟨0x050, 16, 6, .rw, 0, .s⟩
def F.CAN_XL_PWM_PWML : Fld := ⟨0x050, 8, 6, .rw, 0, .s⟩
def F.CAN_XL_PWM_PWMO : Fld := ⟨0x050, 0, 6, .rw, 0, .s⟩
def F.CAN_STAMP_CFG_LOOP_SPLIT : Fld := ⟨0x054, 0, 8, .rw, 0x80, .a⟩
def F.CAN_LOOP_LOOP_DLY : Fld := ⟨0x058, 0, 16, .ro, 0, .none⟩
def F.CAN_ERR_STAT_STATE : Fld := ⟨0x05C, 30, 2, .ro, 0, .none⟩
def F.CAN_ERR_STAT_TEC : Fld := ⟨0x05C, 16, 9, .ro, 0, .none⟩
def F.CAN_ERR_STAT_REC : Fld := ⟨0x05C, 8, 8, .ro, 0, .none⟩
def F.CAN_ERR_STAT_BO_SEQ : Fld := ⟨0x05C, 0, 7, .ro, 0, .none⟩
def F.CAN_ERR_CTRL_RECOVER : Fld := ⟨0x060, 0, 1, .w1s, 0, .a⟩
def F.CAN_LAST_ERR_CODE : Fld := ⟨0x064, 28, 4, .roc, 0, .none⟩
def F.CAN_LAST_ERR_PHASE : Fld := ⟨0x064, 27, 1, .roc, 0, .none⟩
def F.CAN_LAST_ERR_TX : Fld := ⟨0x064, 26, 1, .roc, 0, .none⟩
def F.CAN_RXQ_A_QUEUE1 : Fld := ⟨0x068, 16, 10, .rw, 0, .c⟩
def F.CAN_RXQ_A_QUEUE0 : Fld := ⟨0x068, 0, 10, .rw, 0, .c⟩
def F.CAN_RXQ_B_QUEUE3 : Fld := ⟨0x06C, 16, 10, .rw, 0, .c⟩
def F.CAN_RXQ_B_QUEUE2 : Fld := ⟨0x06C, 0, 10, .rw, 0, .c⟩
def F.CAN_AUX_Q_TUN_QUEUE : Fld := ⟨0x070, 16, 10, .rw, 0, .c⟩
def F.CAN_AUX_Q_TXC_QUEUE : Fld := ⟨0x070, 0, 10, .rw, 0, .c⟩
def F.CAN_SCHED_CFG_EN : Fld := ⟨0x074, 31, 1, .rws, 0, .t⟩
def F.CAN_SCHED_CFG_GAP_FREE : Fld := ⟨0x074, 30, 1, .rws, 1, .t⟩
def F.CAN_SCHED_CFG_CYCLE : Fld := ⟨0x074, 16, 6, .rws, 1, .t⟩
def F.CAN_SCHED_CFG_PHASE : Fld := ⟨0x074, 0, 6, .rws, 0, .t⟩
def F.CAN_STATUS_BUS_IDLE : Fld := ⟨0x078, 31, 1, .ro, 0, .none⟩
def F.CAN_STATUS_TX_ACTIVE : Fld := ⟨0x078, 30, 1, .ro, 0, .none⟩
def F.CAN_STATUS_CUR_MB : Fld := ⟨0x078, 16, 5, .ro, 0, .none⟩
def F.CAN_STATUS_WIN_VALID : Fld := ⟨0x078, 4, 1, .ro, 0, .none⟩
def F.CAN_STATUS_WIN : Fld := ⟨0x078, 0, 4, .ro, 0, .none⟩
def F.CAN_MB_READY_M : Fld := ⟨0x07C, 0, 32, .ro, 0, .none⟩
def F.CAN_MB_CANCEL_M : Fld := ⟨0x080, 0, 32, .w1s, 0, .a⟩
def F.CAN_MB_DONE_M : Fld := ⟨0x084, 0, 32, .w1c, 0, .a⟩
def F.CAN_TUN_CFG_TUN_AGE : Fld := ⟨0x088, 8, 8, .rw, 4, .a⟩
def F.CAN_TUN_CFG_RETRY_ARB : Fld := ⟨0x088, 4, 1, .rw, 0, .a⟩
def F.CAN_TUN_CFG_RETRY_MAX : Fld := ⟨0x088, 0, 4, .rw, 3, .a⟩
def F.CAN_CNT_TX_N : Fld := ⟨0x0C0, 0, 32, .roc, 0, .none⟩
def F.CAN_CNT_RX_N : Fld := ⟨0x0C4, 0, 32, .roc, 0, .none⟩
def F.CAN_CNT_ARB_LOST_N : Fld := ⟨0x0C8, 0, 32, .roc, 0, .none⟩
def F.CAN_CNT_ERR_N : Fld := ⟨0x0CC, 0, 32, .roc, 0, .none⟩
def F.CAN_CNT_RX_DROP_N : Fld := ⟨0x0D0, 0, 32, .roc, 0, .none⟩
def F.CAN_CNT_NOMATCH_N : Fld := ⟨0x0D4, 0, 32, .roc, 0, .none⟩
def F.CAN_CNT_BUSOFF_N : Fld := ⟨0x0D8, 0, 32, .roc, 0, .none⟩
def F.CAN_CNT_MOVED_N : Fld := ⟨0x0DC, 0, 32, .roc, 0, .none⟩
def F.CAN_CNT_CANCEL_LATE_N : Fld := ⟨0x0E0, 0, 32, .roc, 0, .none⟩
def F.CAN_CNT_WIN_MISSED_N : Fld := ⟨0x0E4, 0, 32, .roc, 0, .none⟩
def F.CAN_CNT_TRIG_IGNORED_N : Fld := ⟨0x0E8, 0, 32, .roc, 0, .none⟩
def F.CAN_CNT_TXC_LOST_N : Fld := ⟨0x0EC, 0, 32, .roc, 0, .none⟩
def F.CAN_CNT_TUN_TX_N : Fld := ⟨0x0F0, 0, 32, .roc, 0, .none⟩
def F.CAN_CNT_TUN_AGED_N : Fld := ⟨0x0F4, 0, 32, .roc, 0, .none⟩
def F.CAN_CNT_TUN_FAIL_N : Fld := ⟨0x0F8, 0, 32, .roc, 0, .none⟩
def F.CAN_CNT_TUN_TOOBIG_N : Fld := ⟨0x0FC, 0, 32, .roc, 0, .none⟩
def F.CAN_CNT_TUN_UNMATCHED_N : Fld := ⟨0x0BC, 0, 32, .roc, 0, .none⟩
def F.CAN_MB_SEL_MBOX : Fld := ⟨0x100, 0, 5, .rw, 0, .a⟩
def F.CAN_MB_CTRL_CMD : Fld := ⟨0x104, 28, 4, .wo, 0, .a⟩
def F.CAN_MB_CTRL_RETRY_MAX : Fld := ⟨0x104, 24, 4, .rw, 15, .a⟩
def F.CAN_MB_CTRL_RETRY_ARB : Fld := ⟨0x104, 23, 1, .rw, 0, .a⟩
def F.CAN_MB_CTRL_SCHED : Fld := ⟨0x104, 22, 1, .rw, 0, .a⟩
def F.CAN_MB_CTRL_WIN_ABORT : Fld := ⟨0x104, 21, 1, .rw, 0, .a⟩
def F.CAN_MB_CTRL_FB : Fld := ⟨0x104, 20, 1, .rw, 0, .a⟩
def F.CAN_MB_CTRL_IRQ : Fld := ⟨0x104, 19, 1, .rw, 0, .a⟩
def F.CAN_MB_CTRL_TXC : Fld := ⟨0x104, 18, 1, .rw, 0, .a⟩
def F.CAN_MB_ID_IDE : Fld := ⟨0x108, 31, 1, .rw, 0, .a⟩
def F.CAN_MB_ID_RTR : Fld := ⟨0x108, 30, 1, .rw, 0, .a⟩
def F.CAN_MB_ID_ID : Fld := ⟨0x108, 0, 29, .rw, 0, .a⟩
def F.CAN_MB_FMT_FMT : Fld := ⟨0x10C, 30, 2, .rw, 0, .a⟩
def F.CAN_MB_FMT_BRS : Fld := ⟨0x10C, 29, 1, .rw, 0, .a⟩
def F.CAN_MB_FMT_DPTR : Fld := ⟨0x10C, 27, 1, .rw, 0, .a⟩
def F.CAN_MB_FMT_LEN : Fld := ⟨0x10C, 0, 12, .rw, 0, .a⟩
def F.CAN_MB_XL_SDT : Fld := ⟨0x110, 24, 8, .rw, 0, .a⟩
def F.CAN_MB_XL_VCID : Fld := ⟨0x110, 16, 8, .rw, 0, .a⟩
def F.CAN_MB_XL_SEC : Fld := ⟨0x110, 15, 1, .rw, 0, .a⟩
def F.CAN_MB_AF_AF : Fld := ⟨0x114, 0, 32, .rw, 0, .a⟩
def F.CAN_MB_DPTR_DPTR_OFS : Fld := ⟨0x118, 0, 21, .rw, 0, .a⟩
def F.CAN_MB_STAT_STATE : Fld := ⟨0x11C, 29, 3, .ro, 0, .none⟩
def F.CAN_MB_STAT_RESULT : Fld := ⟨0x11C, 24, 5, .ro, 0, .none⟩
def F.CAN_MB_STAT_CANCEL_LATE : Fld := ⟨0x11C, 23, 1, .ro, 0, .none⟩
def F.CAN_MB_STAT_WAIT_BO : Fld := ⟨0x11C, 22, 1, .ro, 0, .none⟩
def F.CAN_MB_STAT_RETRIES : Fld := ⟨0x11C, 16, 4, .ro, 0, .none⟩
def F.CAN_MB_STAT_MOVED_CH : Fld := ⟨0x11C, 12, 3, .ro, 0, .none⟩
def F.CAN_MB_STAT_MOVED_MB : Fld := ⟨0x11C, 0, 5, .ro, 0, .none⟩
def F.CAN_MB_STAMP_LO_NS : Fld := ⟨0x120, 0, 32, .ro, 0, .none⟩
def F.CAN_MB_STAMP_HI_NS : Fld := ⟨0x124, 0, 32, .ro, 0, .none⟩
def F.CAN_MB_RES_RESULT : Fld := ⟨0x128, 28, 4, .ro, 0, .none⟩
def F.CAN_MB_DATA_DATA (k : Nat) : Fld := ⟨0x140 + 0x4 * k, 0, 32, .rw, 0, .a⟩
def F.CAN_FLT_ID_EN (f : Nat) : Fld := ⟨0x200 + 0x10 * f, 31, 1, .rw, 0, .c⟩
def F.CAN_FLT_ID_IDE (f : Nat) : Fld := ⟨0x200 + 0x10 * f, 30, 1, .rw, 0, .c⟩
def F.CAN_FLT_ID_ID (f : Nat) : Fld := ⟨0x200 + 0x10 * f, 0, 29, .rw, 0, .c⟩
def F.CAN_FLT_MASK_MASK (f : Nat) : Fld := ⟨0x204 + 0x10 * f, 0, 29, .rw, 0, .c⟩
def F.CAN_FLT_ACT_FMTS (f : Nat) : Fld := ⟨0x208 + 0x10 * f, 29, 3, .rw, 7, .c⟩
def F.CAN_FLT_ACT_RTR_OK (f : Nat) : Fld := ⟨0x208 + 0x10 * f, 28, 1, .rw, 0, .c⟩
def F.CAN_FLT_ACT_RXQ (f : Nat) : Fld := ⟨0x208 + 0x10 * f, 24, 2, .rw, 0, .c⟩
def F.CAN_FLT_ACT_STORE (f : Nat) : Fld := ⟨0x208 + 0x10 * f, 23, 1, .rw, 1, .c⟩
def F.CAN_FLT_ACT_TUN (f : Nat) : Fld := ⟨0x208 + 0x10 * f, 22, 1, .rw, 0, .c⟩
def F.CAN_FLT_ACT_ROUTE (f : Nat) : Fld := ⟨0x208 + 0x10 * f, 16, 3, .rw, 0, .c⟩
def F.CAN_WIN_A_KIND (w : Nat) : Fld := ⟨0x400 + 0x8 * w, 30, 2, .rws, 0, .t⟩
def F.CAN_WIN_A_TICK_IDX (w : Nat) : Fld := ⟨0x400 + 0x8 * w, 24, 6, .rws, 0, .t⟩
def F.CAN_WIN_A_START (w : Nat) : Fld := ⟨0x400 + 0x8 * w, 0, 21, .rws, 0, .t⟩
def F.CAN_WIN_B_MASK (w : Nat) : Fld := ⟨0x404 + 0x8 * w, 0, 32, .rws, 0, .t⟩
def F.CAN_WIN_L_LEN (w : Nat) : Fld := ⟨0x480 + 0x4 * w, 0, 21, .rws, 0, .t⟩
def F.CAN_TUN_A_EN (r : Nat) : Fld := ⟨0x4C0 + 0x8 * r, 31, 1, .rw, 0, .c⟩
def F.CAN_TUN_A_MC (r : Nat) : Fld := ⟨0x4C0 + 0x8 * r, 30, 1, .rw, 0, .c⟩
def F.CAN_TUN_A_CLASS (r : Nat) : Fld := ⟨0x4C0 + 0x8 * r, 28, 2, .rw, 0, .c⟩
def F.CAN_TUN_A_PRIO (r : Nat) : Fld := ⟨0x4C0 + 0x8 * r, 25, 3, .rw, 0, .c⟩
def F.CAN_TUN_A_STREAM (r : Nat) : Fld := ⟨0x4C0 + 0x8 * r, 16, 8, .rw, 0, .c⟩
def F.CAN_TUN_A_DST (r : Nat) : Fld := ⟨0x4C0 + 0x8 * r, 0, 12, .rw, 0, .c⟩
def F.CAN_TUN_B_REACH_E (r : Nat) : Fld := ⟨0x4C4 + 0x8 * r, 16, 10, .rw, 0x3FF, .c⟩
def F.CAN_TUN_B_REACH_W (r : Nat) : Fld := ⟨0x4C4 + 0x8 * r, 0, 10, .rw, 0x3FF, .c⟩
def F.CAN_TIN_EN (i : Nat) : Fld := ⟨0x500 + 0x4 * i, 31, 1, .rw, 0, .c⟩
def F.CAN_TIN_ANY_SRC (i : Nat) : Fld := ⟨0x500 + 0x4 * i, 24, 1, .rw, 0, .c⟩
def F.CAN_TIN_STREAM (i : Nat) : Fld := ⟨0x500 + 0x4 * i, 16, 8, .rw, 0, .c⟩
def F.CAN_TIN_SRC (i : Nat) : Fld := ⟨0x500 + 0x4 * i, 0, 12, .rw, 0, .c⟩
def F.CAN_XBT_BRP : Fld := ⟨0x04C, 27, 5, .rw, 0, .s⟩
def F.CAN_XBT_TSEG1 : Fld := ⟨0x04C, 21, 6, .rw, 0x25, .s⟩
def F.CAN_XBT_TSEG2 : Fld := ⟨0x04C, 16, 5, .rw, 10, .s⟩
def F.CAN_XBT_SJW : Fld := ⟨0x04C, 11, 5, .rw, 10, .s⟩
def F.CAN_XBT_TDC_EN : Fld := ⟨0x04C, 10, 1, .rw, 1, .s⟩
def F.CAN_XBT_TDCO : Fld := ⟨0x04C, 0, 8, .rw, 0x26, .s⟩

def regsCAN_1 : List Fld :=
  [F.CAN_CAN_CFG_PROTO, F.CAN_CAN_CFG_LISTEN_ONLY, F.CAN_CAN_CFG_RESTRICTED, F.CAN_CAN_CFG_LOOPBACK, F.CAN_CAN_CFG_PXHD, F.CAN_CAN_CFG_BO_MANUAL, F.CAN_CAN_CFG_SELF_RX, F.CAN_CAN_CFG_PRIO_MODE, F.CAN_CAN_CFG_REJECT_NOMATCH, F.CAN_CAN_CFG_XL_TMS, F.CAN_CAN_CFG_FALLBACK, F.CAN_CAN_CFG_FB_EN]
def regsCAN_2 : List Fld :=
  [F.CAN_CAN_CFG_FB_BASE, F.CAN_NBT_BRP, F.CAN_NBT_TSEG1, F.CAN_NBT_TSEG2, F.CAN_NBT_SJW, F.CAN_DBT_BRP, F.CAN_DBT_TSEG1, F.CAN_DBT_TSEG2, F.CAN_DBT_SJW, F.CAN_DBT_TDC_EN, F.CAN_DBT_TDCO, F.CAN_XL_PWM_PWMS]
def regsCAN_3 : List Fld :=
  [F.CAN_XL_PWM_PWML, F.CAN_XL_PWM_PWMO, F.CAN_STAMP_CFG_LOOP_SPLIT, F.CAN_LOOP_LOOP_DLY, F.CAN_ERR_STAT_STATE, F.CAN_ERR_STAT_TEC, F.CAN_ERR_STAT_REC, F.CAN_ERR_STAT_BO_SEQ, F.CAN_ERR_CTRL_RECOVER, F.CAN_LAST_ERR_CODE, F.CAN_LAST_ERR_PHASE, F.CAN_LAST_ERR_TX]
def regsCAN_4 : List Fld :=
  [F.CAN_RXQ_A_QUEUE1, F.CAN_RXQ_A_QUEUE0, F.CAN_RXQ_B_QUEUE3, F.CAN_RXQ_B_QUEUE2, F.CAN_AUX_Q_TUN_QUEUE, F.CAN_AUX_Q_TXC_QUEUE, F.CAN_SCHED_CFG_EN, F.CAN_SCHED_CFG_GAP_FREE, F.CAN_SCHED_CFG_CYCLE, F.CAN_SCHED_CFG_PHASE, F.CAN_STATUS_BUS_IDLE, F.CAN_STATUS_TX_ACTIVE]
def regsCAN_5 : List Fld :=
  [F.CAN_STATUS_CUR_MB, F.CAN_STATUS_WIN_VALID, F.CAN_STATUS_WIN, F.CAN_MB_READY_M, F.CAN_MB_CANCEL_M, F.CAN_MB_DONE_M, F.CAN_TUN_CFG_TUN_AGE, F.CAN_TUN_CFG_RETRY_ARB, F.CAN_TUN_CFG_RETRY_MAX, F.CAN_CNT_TX_N, F.CAN_CNT_RX_N, F.CAN_CNT_ARB_LOST_N]
def regsCAN_6 : List Fld :=
  [F.CAN_CNT_ERR_N, F.CAN_CNT_RX_DROP_N, F.CAN_CNT_NOMATCH_N, F.CAN_CNT_BUSOFF_N, F.CAN_CNT_MOVED_N, F.CAN_CNT_CANCEL_LATE_N, F.CAN_CNT_WIN_MISSED_N, F.CAN_CNT_TRIG_IGNORED_N, F.CAN_CNT_TXC_LOST_N, F.CAN_CNT_TUN_TX_N, F.CAN_CNT_TUN_AGED_N, F.CAN_CNT_TUN_FAIL_N]
def regsCAN_7 : List Fld :=
  [F.CAN_CNT_TUN_TOOBIG_N, F.CAN_CNT_TUN_UNMATCHED_N, F.CAN_MB_SEL_MBOX, F.CAN_MB_CTRL_CMD, F.CAN_MB_CTRL_RETRY_MAX, F.CAN_MB_CTRL_RETRY_ARB, F.CAN_MB_CTRL_SCHED, F.CAN_MB_CTRL_WIN_ABORT, F.CAN_MB_CTRL_FB, F.CAN_MB_CTRL_IRQ, F.CAN_MB_CTRL_TXC, F.CAN_MB_ID_IDE]
def regsCAN_8 : List Fld :=
  [F.CAN_MB_ID_RTR, F.CAN_MB_ID_ID, F.CAN_MB_FMT_FMT, F.CAN_MB_FMT_BRS, F.CAN_MB_FMT_DPTR, F.CAN_MB_FMT_LEN, F.CAN_MB_XL_SDT, F.CAN_MB_XL_VCID, F.CAN_MB_XL_SEC, F.CAN_MB_AF_AF, F.CAN_MB_DPTR_DPTR_OFS, F.CAN_MB_STAT_STATE]
def regsCAN_9 : List Fld :=
  [F.CAN_MB_STAT_RESULT, F.CAN_MB_STAT_CANCEL_LATE, F.CAN_MB_STAT_WAIT_BO, F.CAN_MB_STAT_RETRIES, F.CAN_MB_STAT_MOVED_CH, F.CAN_MB_STAT_MOVED_MB, F.CAN_MB_STAMP_LO_NS, F.CAN_MB_STAMP_HI_NS, F.CAN_MB_RES_RESULT]
def regsCAN_10 : List Fld :=
  (List.range 16).flatMap fun k => [F.CAN_MB_DATA_DATA k]
def regsCAN_11 : List Fld :=
  (List.range 32).flatMap fun f => [F.CAN_FLT_ID_EN f, F.CAN_FLT_ID_IDE f, F.CAN_FLT_ID_ID f, F.CAN_FLT_MASK_MASK f, F.CAN_FLT_ACT_FMTS f, F.CAN_FLT_ACT_RTR_OK f, F.CAN_FLT_ACT_RXQ f, F.CAN_FLT_ACT_STORE f, F.CAN_FLT_ACT_TUN f, F.CAN_FLT_ACT_ROUTE f]
def regsCAN_12 : List Fld :=
  (List.range 16).flatMap fun w => [F.CAN_WIN_A_KIND w, F.CAN_WIN_A_TICK_IDX w, F.CAN_WIN_A_START w, F.CAN_WIN_B_MASK w, F.CAN_WIN_L_LEN w]
def regsCAN_13 : List Fld :=
  (List.range 8).flatMap fun r => [F.CAN_TUN_A_EN r, F.CAN_TUN_A_MC r, F.CAN_TUN_A_CLASS r, F.CAN_TUN_A_PRIO r, F.CAN_TUN_A_STREAM r, F.CAN_TUN_A_DST r, F.CAN_TUN_B_REACH_E r, F.CAN_TUN_B_REACH_W r]
def regsCAN_14 : List Fld :=
  (List.range 8).flatMap fun i => [F.CAN_TIN_EN i, F.CAN_TIN_ANY_SRC i, F.CAN_TIN_STREAM i, F.CAN_TIN_SRC i]
def regsCAN_15 : List Fld :=
  [F.CAN_XBT_BRP, F.CAN_XBT_TSEG1, F.CAN_XBT_TSEG2, F.CAN_XBT_SJW, F.CAN_XBT_TDC_EN, F.CAN_XBT_TDCO]
/-- Every field that a page of type CAN defines beyond the header. -/
def regsCAN : List Fld :=
  regsCAN_1 ++ regsCAN_2 ++ regsCAN_3 ++ regsCAN_4 ++ regsCAN_5 ++ regsCAN_6 ++ regsCAN_7 ++ regsCAN_8 ++ regsCAN_9 ++ regsCAN_10 ++ regsCAN_11 ++ regsCAN_12 ++ regsCAN_13 ++ regsCAN_14 ++ regsCAN_15

/-! PIO: spec/15_pio_engines.md, R422. -/

def F.PIO_ENG_CFG_START_MODE : Fld := ⟨0x040, 31, 1, .rw, 0, .a⟩
def F.PIO_ENG_CFG_RUN : Fld := ⟨0x040, 30, 1, .rws, 1, .t⟩
def F.PIO_ENG_CFG_START_SLOT : Fld := ⟨0x040, 8, 5, .rw, 0, .s⟩
def F.PIO_ENG_CFG_SI_ORDER : Fld := ⟨0x040, 1, 1, .rw, 0, .s⟩
def F.PIO_ENG_CFG_SO_ORDER : Fld := ⟨0x040, 0, 1, .rw, 0, .s⟩
def F.PIO_RATE_DIV_I : Fld := ⟨0x044, 8, 16, .rw, 1, .s⟩
def F.PIO_RATE_DIV_F : Fld := ⟨0x044, 0, 8, .rw, 0, .s⟩
def F.PIO_WRAP_LAST : Fld := ⟨0x048, 8, 5, .rw, 0x1F, .s⟩
def F.PIO_WRAP_FIRST : Fld := ⟨0x048, 0, 5, .rw, 0, .s⟩
def F.PIO_WINDOWS_A_SO_FIRST : Fld := ⟨0x04C, 24, 8, .rw, 0, .s⟩
def F.PIO_WINDOWS_A_SO_WIDTH : Fld := ⟨0x04C, 16, 6, .rw, 0, .s⟩
def F.PIO_WINDOWS_A_ST_FIRST : Fld := ⟨0x04C, 8, 8, .rw, 0, .s⟩
def F.PIO_WINDOWS_A_ST_WIDTH : Fld := ⟨0x04C, 0, 3, .rw, 0, .s⟩
def F.PIO_WINDOWS_B_SI_FIRST : Fld := ⟨0x050, 24, 8, .rw, 0, .s⟩
def F.PIO_WINDOWS_B_TEST_SIG : Fld := ⟨0x050, 8, 8, .rw, 0, .s⟩
def F.PIO_CMP_PRESET_V : Fld := ⟨0x054, 0, 32, .rw, 0, .a⟩
def F.PIO_CMP_MASK_M : Fld := ⟨0x058, 0, 32, .rw, 0xFFFFFFFF, .a⟩
def F.PIO_OUTQ_W_DATA : Fld := ⟨0x05C, 0, 32, .wo, 0, .a⟩
def F.PIO_INQ_R_DATA : Fld := ⟨0x060, 0, 32, .roc, 0, .none⟩
def F.PIO_QUEUE_STAT_OUTQ_OVER : Fld := ⟨0x064, 31, 1, .w1c, 0, .a⟩
def F.PIO_QUEUE_STAT_OUTQ_UNDER : Fld := ⟨0x064, 30, 1, .w1c, 0, .a⟩
def F.PIO_QUEUE_STAT_INQ_OVER : Fld := ⟨0x064, 29, 1, .w1c, 0, .a⟩
def F.PIO_QUEUE_STAT_INQ_UNDER : Fld := ⟨0x064, 28, 1, .w1c, 0, .a⟩
def F.PIO_QUEUE_STAT_OUTQ_LEVEL : Fld := ⟨0x064, 8, 4, .ro, 0, .none⟩
def F.PIO_QUEUE_STAT_INQ_LEVEL : Fld := ⟨0x064, 0, 4, .ro, 0, .none⟩
def F.PIO_ENG_STAT_RUNNING : Fld := ⟨0x068, 31, 1, .ro, 0, .none⟩
def F.PIO_ENG_STAT_STALLED : Fld := ⟨0x068, 30, 1, .ro, 0, .none⟩
def F.PIO_ENG_STAT_STALL_ON : Fld := ⟨0x068, 27, 3, .ro, 0, .none⟩
def F.PIO_ENG_STAT_Z : Fld := ⟨0x068, 26, 1, .ro, 0, .none⟩
def F.PIO_ENG_STAT_PC : Fld := ⟨0x068, 20, 5, .ro, 0, .none⟩
def F.PIO_ENG_STAT_USER : Fld := ⟨0x068, 16, 4, .ro, 0, .none⟩
def F.PIO_ENG_STAT_SHIFT_CNT : Fld := ⟨0x068, 8, 6, .ro, 0, .none⟩
def F.PIO_ENG_STAT_PROG_PEND : Fld := ⟨0x068, 5, 1, .ro, 0, .none⟩
def F.PIO_ENG_STAT_TRIG_OVF : Fld := ⟨0x068, 4, 1, .w1c, 0, .a⟩
def F.PIO_ENG_STAT_NOT_OWNER : Fld := ⟨0x068, 3, 1, .w1c, 0, .a⟩
def F.PIO_ENG_STAT_PROG_BUSY : Fld := ⟨0x068, 2, 1, .w1c, 0, .a⟩
def F.PIO_ENG_STAT_BAD_INSTR : Fld := ⟨0x068, 1, 1, .w1c, 0, .a⟩
def F.PIO_SR_SR : Fld := ⟨0x06C, 0, 32, .ro, 0, .none⟩
def F.PIO_CMP_V_V : Fld := ⟨0x070, 0, 32, .ro, 0, .none⟩
def F.PIO_TRIG_FORCE : Fld := ⟨0x074, 4, 4, .w1s, 0, .a⟩
def F.PIO_TRIG_PENDING : Fld := ⟨0x074, 0, 4, .ro, 0, .none⟩
def F.PIO_ENG_CMD_OP : Fld := ⟨0x078, 28, 4, .wo, 0, .a⟩
def F.PIO_CNT_PROG_BUSY_N : Fld := ⟨0x080, 0, 32, .roc, 0, .none⟩
def F.PIO_CNT_NOT_OWNER_N : Fld := ⟨0x084, 0, 32, .roc, 0, .none⟩
def F.PIO_INSTR_INSTR (k : Nat) : Fld := ⟨0x100 + 0x4 * k, 0, 16, .rw, 0, .s⟩

def regsPIO_1 : List Fld :=
  [F.PIO_ENG_CFG_START_MODE, F.PIO_ENG_CFG_RUN, F.PIO_ENG_CFG_START_SLOT, F.PIO_ENG_CFG_SI_ORDER, F.PIO_ENG_CFG_SO_ORDER, F.PIO_RATE_DIV_I, F.PIO_RATE_DIV_F, F.PIO_WRAP_LAST, F.PIO_WRAP_FIRST, F.PIO_WINDOWS_A_SO_FIRST, F.PIO_WINDOWS_A_SO_WIDTH, F.PIO_WINDOWS_A_ST_FIRST]
def regsPIO_2 : List Fld :=
  [F.PIO_WINDOWS_A_ST_WIDTH, F.PIO_WINDOWS_B_SI_FIRST, F.PIO_WINDOWS_B_TEST_SIG, F.PIO_CMP_PRESET_V, F.PIO_CMP_MASK_M, F.PIO_OUTQ_W_DATA, F.PIO_INQ_R_DATA, F.PIO_QUEUE_STAT_OUTQ_OVER, F.PIO_QUEUE_STAT_OUTQ_UNDER, F.PIO_QUEUE_STAT_INQ_OVER, F.PIO_QUEUE_STAT_INQ_UNDER, F.PIO_QUEUE_STAT_OUTQ_LEVEL]
def regsPIO_3 : List Fld :=
  [F.PIO_QUEUE_STAT_INQ_LEVEL, F.PIO_ENG_STAT_RUNNING, F.PIO_ENG_STAT_STALLED, F.PIO_ENG_STAT_STALL_ON, F.PIO_ENG_STAT_Z, F.PIO_ENG_STAT_PC, F.PIO_ENG_STAT_USER, F.PIO_ENG_STAT_SHIFT_CNT, F.PIO_ENG_STAT_PROG_PEND, F.PIO_ENG_STAT_TRIG_OVF, F.PIO_ENG_STAT_NOT_OWNER, F.PIO_ENG_STAT_PROG_BUSY]
def regsPIO_4 : List Fld :=
  [F.PIO_ENG_STAT_BAD_INSTR, F.PIO_SR_SR, F.PIO_CMP_V_V, F.PIO_TRIG_FORCE, F.PIO_TRIG_PENDING, F.PIO_ENG_CMD_OP, F.PIO_CNT_PROG_BUSY_N, F.PIO_CNT_NOT_OWNER_N]
def regsPIO_5 : List Fld :=
  (List.range 32).flatMap fun k => [F.PIO_INSTR_INSTR k]
/-- Every field that a page of type PIO defines beyond the header. -/
def regsPIO : List Fld :=
  regsPIO_1 ++ regsPIO_2 ++ regsPIO_3 ++ regsPIO_4 ++ regsPIO_5

/-! PINMUX: spec/15_pio_engines.md, R424. -/

def F.PINMUX_PIN_OWNER (s : Nat) : Fld := ⟨0x100 + 0x4 * s, 30, 2, .rws, 0, .t⟩
def F.PINMUX_PIN_ENGINE (s : Nat) : Fld := ⟨0x100 + 0x4 * s, 24, 5, .rws, 0, .t⟩
def F.PINMUX_PIN_INV (s : Nat) : Fld := ⟨0x100 + 0x4 * s, 16, 1, .rws, 0, .t⟩
def F.PINMUX_PIN_PULL (s : Nat) : Fld := ⟨0x100 + 0x4 * s, 12, 2, .rw, 0, .c⟩
def F.PINMUX_PIN_OE (s : Nat) : Fld := ⟨0x100 + 0x4 * s, 9, 1, .ro, 0, .none⟩
def F.PINMUX_PIN_LEVEL (s : Nat) : Fld := ⟨0x100 + 0x4 * s, 8, 1, .ro, 0, .none⟩

def regsPINMUX_1 : List Fld :=
  (List.range 160).flatMap fun s => [F.PINMUX_PIN_OWNER s, F.PINMUX_PIN_ENGINE s, F.PINMUX_PIN_INV s, F.PINMUX_PIN_PULL s, F.PINMUX_PIN_OE s, F.PINMUX_PIN_LEVEL s]
/-- Every field that a page of type PINMUX defines beyond the header. -/
def regsPINMUX : List Fld :=
  regsPINMUX_1

/-! ETH: spec/16_local_ports.md, R444. -/

def F.ETH_MAC_CFG_IFACE : Fld := ⟨0x040, 31, 1, .rw, 0, .s⟩
def F.ETH_MAC_CFG_SPEED : Fld := ⟨0x040, 28, 2, .rw, 2, .s⟩
def F.ETH_MAC_CFG_AN_EN : Fld := ⟨0x040, 27, 1, .rw, 1, .s⟩
def F.ETH_MAC_CFG_MAX_LEN : Fld := ⟨0x040, 0, 12, .rw, 0x5F2, .c⟩
def F.ETH_MAC_ADDR_LO_ADDR : Fld := ⟨0x044, 0, 32, .rw, 0, .c⟩
def F.ETH_MAC_ADDR_HI_ADDR : Fld := ⟨0x048, 0, 16, .rw, 0, .c⟩
def F.ETH_LINK_STAT_UP : Fld := ⟨0x04C, 31, 1, .ro, 0, .none⟩
def F.ETH_LINK_STAT_SPEED : Fld := ⟨0x04C, 28, 2, .ro, 0, .none⟩
def F.ETH_PCP_MAP_MAP : Fld := ⟨0x050, 0, 24, .rw, 0x491240, .c⟩
def F.ETH_VLAN_CFG_TAG_REQ : Fld := ⟨0x054, 31, 1, .rw, 0, .c⟩
def F.ETH_VLAN_CFG_DEF_PCP : Fld := ⟨0x054, 16, 3, .rw, 0, .c⟩
def F.ETH_VLAN_CFG_PVID : Fld := ⟨0x054, 0, 12, .rw, 1, .c⟩
def F.ETH_FLOOD_EN : Fld := ⟨0x058, 31, 1, .rw, 0, .c⟩
def F.ETH_FLOOD_MC : Fld := ⟨0x058, 30, 1, .rw, 0, .c⟩
def F.ETH_FLOOD_CLASS : Fld := ⟨0x058, 28, 2, .rw, 0, .c⟩
def F.ETH_FLOOD_STREAM : Fld := ⟨0x058, 16, 8, .rw, 0, .c⟩
def F.ETH_FLOOD_DST : Fld := ⟨0x058, 0, 12, .rw, 0, .c⟩
def F.ETH_FLOOD_REACH_REACH_E : Fld := ⟨0x05C, 16, 10, .rw, 0x3FF, .c⟩
def F.ETH_FLOOD_REACH_REACH_W : Fld := ⟨0x05C, 0, 10, .rw, 0x3FF, .c⟩
def F.ETH_QUEUES_TXC_QUEUE : Fld := ⟨0x060, 16, 10, .rw, 0, .c⟩
def F.ETH_QUEUES_RX_QUEUE : Fld := ⟨0x060, 0, 10, .rw, 0, .c⟩
def F.ETH_PHY_DLY_TX_DLY : Fld := ⟨0x064, 16, 16, .rw, 0, .c⟩
def F.ETH_PHY_DLY_RX_DLY : Fld := ⟨0x064, 0, 16, .rw, 0, .c⟩
def F.ETH_AS_OFF_LO_OFF : Fld := ⟨0x068, 0, 32, .rw, 0, .a⟩
def F.ETH_AS_OFF_HI_OFF : Fld := ⟨0x06C, 0, 32, .rw, 0, .a⟩
def F.ETH_AS_TMO_MS : Fld := ⟨0x070, 0, 16, .rw, 0x3E8, .a⟩
def F.ETH_AS_STAT_VALID : Fld := ⟨0x074, 31, 1, .ro, 0, .none⟩
def F.ETH_TX_ADDR_OFFSET : Fld := ⟨0x078, 0, 21, .rw, 0, .a⟩
def F.ETH_TX_CTRL_TS_REQ : Fld := ⟨0x07C, 31, 1, .wo, 0, .a⟩
def F.ETH_TX_CTRL_LEN : Fld := ⟨0x07C, 0, 12, .wo, 0, .a⟩
def F.ETH_TX_STAT_STATUS : Fld := ⟨0x080, 28, 4, .ro, 0, .none⟩
def F.ETH_TX_STAT_TX_ID : Fld := ⟨0x080, 0, 16, .ro, 0, .none⟩
def F.ETH_RX_FRAMES_N : Fld := ⟨0x0C0, 0, 32, .roc, 0, .none⟩
def F.ETH_TX_FRAMES_N : Fld := ⟨0x0C4, 0, 32, .roc, 0, .none⟩
def F.ETH_RX_FCS_ERR_N : Fld := ⟨0x0C8, 0, 32, .roc, 0, .none⟩
def F.ETH_RX_TOOLONG_N : Fld := ⟨0x0CC, 0, 32, .roc, 0, .none⟩
def F.ETH_RX_DROP_N : Fld := ⟨0x0D0, 0, 32, .roc, 0, .none⟩
def F.ETH_TUN_TOOBIG_N : Fld := ⟨0x0D4, 0, 32, .roc, 0, .none⟩
def F.ETH_STOMP_TX_N : Fld := ⟨0x0D8, 0, 32, .roc, 0, .none⟩
def F.ETH_CNT_TUN_UNMATCHED_N : Fld := ⟨0x0DC, 0, 32, .roc, 0, .none⟩
def F.ETH_FDB_MAC_LO_MAC (k : Nat) : Fld := ⟨0x200 + 0x10 * k, 0, 32, .rw, 0, .a⟩
def F.ETH_FDB_MAC_HI_EN (k : Nat) : Fld := ⟨0x204 + 0x10 * k, 31, 1, .rw, 0, .a⟩
def F.ETH_FDB_MAC_HI_VID (k : Nat) : Fld := ⟨0x204 + 0x10 * k, 16, 12, .rw, 0, .a⟩
def F.ETH_FDB_MAC_HI_MAC (k : Nat) : Fld := ⟨0x204 + 0x10 * k, 0, 16, .rw, 0, .a⟩
def F.ETH_FDB_DST_MC (k : Nat) : Fld := ⟨0x208 + 0x10 * k, 31, 1, .rw, 0, .a⟩
def F.ETH_FDB_DST_STREAM (k : Nat) : Fld := ⟨0x208 + 0x10 * k, 16, 8, .rw, 0, .a⟩
def F.ETH_FDB_DST_DST (k : Nat) : Fld := ⟨0x208 + 0x10 * k, 0, 12, .rw, 0, .a⟩
def F.ETH_FDB_REACH_REACH_E (k : Nat) : Fld := ⟨0x20C + 0x10 * k, 16, 10, .rw, 0x3FF, .a⟩
def F.ETH_FDB_REACH_REACH_W (k : Nat) : Fld := ⟨0x20C + 0x10 * k, 0, 10, .rw, 0x3FF, .a⟩
def F.ETH_TIN_EN (i : Nat) : Fld := ⟨0x600 + 0x4 * i, 31, 1, .rw, 0, .c⟩
def F.ETH_TIN_UNTAG (i : Nat) : Fld := ⟨0x600 + 0x4 * i, 25, 1, .rw, 0, .c⟩
def F.ETH_TIN_ANY_SRC (i : Nat) : Fld := ⟨0x600 + 0x4 * i, 24, 1, .rw, 0, .c⟩
def F.ETH_TIN_STREAM (i : Nat) : Fld := ⟨0x600 + 0x4 * i, 16, 8, .rw, 0, .c⟩
def F.ETH_TIN_SRC (i : Nat) : Fld := ⟨0x600 + 0x4 * i, 0, 12, .rw, 0, .c⟩

def regsETH_1 : List Fld :=
  [F.ETH_MAC_CFG_IFACE, F.ETH_MAC_CFG_SPEED, F.ETH_MAC_CFG_AN_EN, F.ETH_MAC_CFG_MAX_LEN, F.ETH_MAC_ADDR_LO_ADDR, F.ETH_MAC_ADDR_HI_ADDR, F.ETH_LINK_STAT_UP, F.ETH_LINK_STAT_SPEED, F.ETH_PCP_MAP_MAP, F.ETH_VLAN_CFG_TAG_REQ, F.ETH_VLAN_CFG_DEF_PCP, F.ETH_VLAN_CFG_PVID]
def regsETH_2 : List Fld :=
  [F.ETH_FLOOD_EN, F.ETH_FLOOD_MC, F.ETH_FLOOD_CLASS, F.ETH_FLOOD_STREAM, F.ETH_FLOOD_DST, F.ETH_FLOOD_REACH_REACH_E, F.ETH_FLOOD_REACH_REACH_W, F.ETH_QUEUES_TXC_QUEUE, F.ETH_QUEUES_RX_QUEUE, F.ETH_PHY_DLY_TX_DLY, F.ETH_PHY_DLY_RX_DLY, F.ETH_AS_OFF_LO_OFF]
def regsETH_3 : List Fld :=
  [F.ETH_AS_OFF_HI_OFF, F.ETH_AS_TMO_MS, F.ETH_AS_STAT_VALID, F.ETH_TX_ADDR_OFFSET, F.ETH_TX_CTRL_TS_REQ, F.ETH_TX_CTRL_LEN, F.ETH_TX_STAT_STATUS, F.ETH_TX_STAT_TX_ID, F.ETH_RX_FRAMES_N, F.ETH_TX_FRAMES_N, F.ETH_RX_FCS_ERR_N, F.ETH_RX_TOOLONG_N]
def regsETH_4 : List Fld :=
  [F.ETH_RX_DROP_N, F.ETH_TUN_TOOBIG_N, F.ETH_STOMP_TX_N, F.ETH_CNT_TUN_UNMATCHED_N]
def regsETH_5 : List Fld :=
  (List.range 64).flatMap fun k => [F.ETH_FDB_MAC_LO_MAC k, F.ETH_FDB_MAC_HI_EN k, F.ETH_FDB_MAC_HI_VID k, F.ETH_FDB_MAC_HI_MAC k, F.ETH_FDB_DST_MC k, F.ETH_FDB_DST_STREAM k, F.ETH_FDB_DST_DST k, F.ETH_FDB_REACH_REACH_E k, F.ETH_FDB_REACH_REACH_W k]
def regsETH_6 : List Fld :=
  (List.range 8).flatMap fun i => [F.ETH_TIN_EN i, F.ETH_TIN_UNTAG i, F.ETH_TIN_ANY_SRC i, F.ETH_TIN_STREAM i, F.ETH_TIN_SRC i]
/-- Every field that a page of type ETH defines beyond the header. -/
def regsETH : List Fld :=
  regsETH_1 ++ regsETH_2 ++ regsETH_3 ++ regsETH_4 ++ regsETH_5 ++ regsETH_6

/-! UART: spec/16_local_ports.md, R446. -/

def F.UART_U_CFG_MODE (k : Nat) : Fld := ⟨0x100 + 0x80 * k, 30, 2, .rw, 0, .s⟩
def F.UART_U_CFG_PARITY (k : Nat) : Fld := ⟨0x100 + 0x80 * k, 28, 2, .rw, 0, .s⟩
def F.UART_U_CFG_STOP2 (k : Nat) : Fld := ⟨0x100 + 0x80 * k, 27, 1, .rw, 0, .s⟩
def F.UART_U_CFG_BITS7 (k : Nat) : Fld := ⟨0x100 + 0x80 * k, 26, 1, .rw, 0, .s⟩
def F.UART_U_CFG_RX_IN_TX (k : Nat) : Fld := ⟨0x100 + 0x80 * k, 25, 1, .rw, 0, .s⟩
def F.UART_U_CFG_DE_POL (k : Nat) : Fld := ⟨0x100 + 0x80 * k, 24, 1, .rw, 0, .s⟩
def F.UART_U_BAUD_INT (k : Nat) : Fld := ⟨0x104 + 0x80 * k, 8, 16, .rw, 0x87A, .s⟩
def F.UART_U_BAUD_FRAC (k : Nat) : Fld := ⟨0x104 + 0x80 * k, 0, 8, .rw, 0x24, .s⟩
def F.UART_U_DE_DE_PRE (k : Nat) : Fld := ⟨0x108 + 0x80 * k, 24, 8, .rw, 8, .s⟩
def F.UART_U_DE_DE_POST (k : Nat) : Fld := ⟨0x108 + 0x80 * k, 16, 8, .rw, 8, .s⟩
def F.UART_U_PKT_DELIM (k : Nat) : Fld := ⟨0x10C + 0x80 * k, 30, 2, .rw, 0, .s⟩
def F.UART_U_PKT_GAP (k : Nat) : Fld := ⟨0x10C + 0x80 * k, 16, 8, .rw, 7, .s⟩
def F.UART_U_PKT_MATCH (k : Nat) : Fld := ⟨0x10C + 0x80 * k, 8, 8, .rw, 0, .s⟩
def F.UART_U_PKT2_MAX_LEN (k : Nat) : Fld := ⟨0x110 + 0x80 * k, 16, 12, .rw, 0x100, .s⟩
def F.UART_U_PKT2_ADDR_FILT (k : Nat) : Fld := ⟨0x110 + 0x80 * k, 8, 1, .rw, 0, .s⟩
def F.UART_U_PKT2_ADDR (k : Nat) : Fld := ⟨0x110 + 0x80 * k, 0, 8, .rw, 0, .s⟩
def F.UART_U_QUEUE_TUN_QUEUE (k : Nat) : Fld := ⟨0x114 + 0x80 * k, 16, 10, .rw, 0, .c⟩
def F.UART_U_QUEUE_RX_QUEUE (k : Nat) : Fld := ⟨0x114 + 0x80 * k, 0, 10, .rw, 0, .c⟩
def F.UART_U_TX_ADDR9 (k : Nat) : Fld := ⟨0x118 + 0x80 * k, 31, 1, .wo, 0, .a⟩
def F.UART_U_TX_LEN (k : Nat) : Fld := ⟨0x118 + 0x80 * k, 0, 12, .wo, 0, .a⟩
def F.UART_U_TXADDR_OFFSET (k : Nat) : Fld := ⟨0x11C + 0x80 * k, 0, 21, .rw, 0, .a⟩
def F.UART_U_STAT_TX_BUSY (k : Nat) : Fld := ⟨0x120 + 0x80 * k, 31, 1, .ro, 0, .none⟩
def F.UART_U_STAT_RX_ACTIVE (k : Nat) : Fld := ⟨0x120 + 0x80 * k, 30, 1, .ro, 0, .none⟩
def F.UART_U_STAT_DE (k : Nat) : Fld := ⟨0x120 + 0x80 * k, 29, 1, .ro, 0, .none⟩
def F.UART_U_STAT_ERR (k : Nat) : Fld := ⟨0x120 + 0x80 * k, 26, 3, .w1c, 0, .a⟩
def F.UART_U_STAT_TX_RES (k : Nat) : Fld := ⟨0x120 + 0x80 * k, 0, 4, .ro, 0, .none⟩
def F.UART_U_TUN_EN (k : Nat) : Fld := ⟨0x124 + 0x80 * k, 31, 1, .rw, 0, .c⟩
def F.UART_U_TUN_MC (k : Nat) : Fld := ⟨0x124 + 0x80 * k, 30, 1, .rw, 0, .c⟩
def F.UART_U_TUN_CLASS (k : Nat) : Fld := ⟨0x124 + 0x80 * k, 28, 2, .rw, 0, .c⟩
def F.UART_U_TUN_STREAM (k : Nat) : Fld := ⟨0x124 + 0x80 * k, 16, 8, .rw, 0, .c⟩
def F.UART_U_TUN_DST (k : Nat) : Fld := ⟨0x124 + 0x80 * k, 0, 12, .rw, 0, .c⟩
def F.UART_U_TREACH_REACH_E (k : Nat) : Fld := ⟨0x128 + 0x80 * k, 16, 10, .rw, 0x3FF, .c⟩
def F.UART_U_TREACH_REACH_W (k : Nat) : Fld := ⟨0x128 + 0x80 * k, 0, 10, .rw, 0x3FF, .c⟩
def F.UART_U_TIN_EN (k : Nat) : Fld := ⟨0x12C + 0x80 * k, 31, 1, .rw, 0, .c⟩
def F.UART_U_TIN_ANY_SRC (k : Nat) : Fld := ⟨0x12C + 0x80 * k, 24, 1, .rw, 0, .c⟩
def F.UART_U_TIN_STREAM (k : Nat) : Fld := ⟨0x12C + 0x80 * k, 16, 8, .rw, 0, .c⟩
def F.UART_U_TIN_SRC (k : Nat) : Fld := ⟨0x12C + 0x80 * k, 0, 12, .rw, 0, .c⟩
def F.UART_CNT_RX_N (k : Nat) : Fld := ⟨0x140 + 0x80 * k, 0, 32, .roc, 0, .none⟩
def F.UART_CNT_TX_N (k : Nat) : Fld := ⟨0x144 + 0x80 * k, 0, 32, .roc, 0, .none⟩
def F.UART_RX_DROP_N (k : Nat) : Fld := ⟨0x148 + 0x80 * k, 0, 32, .roc, 0, .none⟩
def F.UART_TUN_DROP_N (k : Nat) : Fld := ⟨0x14C + 0x80 * k, 0, 32, .roc, 0, .none⟩
def F.UART_CNT_TUN_UNMATCHED_N (k : Nat) : Fld := ⟨0x150 + 0x80 * k, 0, 32, .roc, 0, .none⟩

def regsUART_1 : List Fld :=
  (List.range 4).flatMap fun k => [F.UART_U_CFG_MODE k, F.UART_U_CFG_PARITY k, F.UART_U_CFG_STOP2 k, F.UART_U_CFG_BITS7 k, F.UART_U_CFG_RX_IN_TX k, F.UART_U_CFG_DE_POL k, F.UART_U_BAUD_INT k, F.UART_U_BAUD_FRAC k, F.UART_U_DE_DE_PRE k, F.UART_U_DE_DE_POST k, F.UART_U_PKT_DELIM k, F.UART_U_PKT_GAP k]
def regsUART_2 : List Fld :=
  (List.range 4).flatMap fun k => [F.UART_U_PKT_MATCH k, F.UART_U_PKT2_MAX_LEN k, F.UART_U_PKT2_ADDR_FILT k, F.UART_U_PKT2_ADDR k, F.UART_U_QUEUE_TUN_QUEUE k, F.UART_U_QUEUE_RX_QUEUE k, F.UART_U_TX_ADDR9 k, F.UART_U_TX_LEN k, F.UART_U_TXADDR_OFFSET k, F.UART_U_STAT_TX_BUSY k, F.UART_U_STAT_RX_ACTIVE k, F.UART_U_STAT_DE k]
def regsUART_3 : List Fld :=
  (List.range 4).flatMap fun k => [F.UART_U_STAT_ERR k, F.UART_U_STAT_TX_RES k, F.UART_U_TUN_EN k, F.UART_U_TUN_MC k, F.UART_U_TUN_CLASS k, F.UART_U_TUN_STREAM k, F.UART_U_TUN_DST k, F.UART_U_TREACH_REACH_E k, F.UART_U_TREACH_REACH_W k, F.UART_U_TIN_EN k, F.UART_U_TIN_ANY_SRC k, F.UART_U_TIN_STREAM k]
def regsUART_4 : List Fld :=
  (List.range 4).flatMap fun k => [F.UART_U_TIN_SRC k, F.UART_CNT_RX_N k, F.UART_CNT_TX_N k, F.UART_RX_DROP_N k, F.UART_TUN_DROP_N k, F.UART_CNT_TUN_UNMATCHED_N k]
/-- Every field that a page of type UART defines beyond the header. -/
def regsUART : List Fld :=
  regsUART_1 ++ regsUART_2 ++ regsUART_3 ++ regsUART_4

/-! HOSTPORT: spec/16_local_ports.md, R448. -/

def F.HOSTPORT_HP_CFG_LAT : Fld := ⟨0x040, 28, 4, .rw, 8, .a⟩
def F.HOSTPORT_HP_CFG_MODE : Fld := ⟨0x040, 27, 1, .rw, 0, .a⟩
def F.HOSTPORT_DOORBELL_TO_HOST : Fld := ⟨0x044, 16, 16, .w1s, 0, .a⟩
def F.HOSTPORT_DOORBELL_TO_HUB : Fld := ⟨0x044, 0, 16, .w1s, 0, .a⟩
def F.HOSTPORT_DOORBELL_CLR_TO_HOST : Fld := ⟨0x048, 16, 16, .w1c, 0, .a⟩
def F.HOSTPORT_DOORBELL_CLR_TO_HUB : Fld := ⟨0x048, 0, 16, .w1c, 0, .a⟩
def F.HOSTPORT_HP_CNT_CMD_N : Fld := ⟨0x080, 0, 32, .roc, 0, .none⟩
def F.HOSTPORT_HP_CNT_RETRY_N : Fld := ⟨0x084, 0, 32, .roc, 0, .none⟩
def F.HOSTPORT_HP_CNT_ABORT_N : Fld := ⟨0x088, 0, 32, .roc, 0, .none⟩

def regsHOSTPORT_1 : List Fld :=
  [F.HOSTPORT_HP_CFG_LAT, F.HOSTPORT_HP_CFG_MODE, F.HOSTPORT_DOORBELL_TO_HOST, F.HOSTPORT_DOORBELL_TO_HUB, F.HOSTPORT_DOORBELL_CLR_TO_HOST, F.HOSTPORT_DOORBELL_CLR_TO_HUB, F.HOSTPORT_HP_CNT_CMD_N, F.HOSTPORT_HP_CNT_RETRY_N, F.HOSTPORT_HP_CNT_ABORT_N]
/-- Every field that a page of type HOSTPORT defines beyond the header. -/
def regsHOSTPORT : List Fld :=
  regsHOSTPORT_1

/-! FLASH: spec/16_local_ports.md, R448. -/

def F.FLASH_FL_CFG_MODE : Fld := ⟨0x040, 31, 1, .rw, 0, .b⟩
def F.FLASH_FL_CFG_SUSPEND : Fld := ⟨0x040, 30, 1, .rw, 0, .b⟩
def F.FLASH_FL_CFG_CLK : Fld := ⟨0x040, 24, 3, .rw, 0, .b⟩
def F.FLASH_FL_CFG_DUMMY : Fld := ⟨0x040, 16, 4, .rw, 0, .b⟩
def F.FLASH_FL_PROT_PROT_END : Fld := ⟨0x044, 0, 16, .rw, 0, .b⟩
def F.FLASH_FL_CMD_OP : Fld := ⟨0x048, 28, 4, .wo, 0, .a⟩
def F.FLASH_FL_ADDR_ADDR : Fld := ⟨0x04C, 0, 28, .rw, 0, .a⟩
def F.FLASH_FL_BUF_LEN : Fld := ⟨0x050, 21, 9, .rw, 0, .a⟩
def F.FLASH_FL_BUF_OFFSET : Fld := ⟨0x050, 0, 21, .rw, 0, .a⟩
def F.FLASH_FL_STAT_BUSY : Fld := ⟨0x054, 31, 1, .ro, 0, .none⟩
def F.FLASH_FL_STAT_RESULT : Fld := ⟨0x054, 28, 3, .ro, 0, .none⟩
def F.FLASH_FL_SIZE_VALID : Fld := ⟨0x058, 31, 1, .ro, 0, .none⟩
def F.FLASH_FL_SIZE_LOG2 : Fld := ⟨0x058, 0, 5, .ro, 0, .none⟩

def regsFLASH_1 : List Fld :=
  [F.FLASH_FL_CFG_MODE, F.FLASH_FL_CFG_SUSPEND, F.FLASH_FL_CFG_CLK, F.FLASH_FL_CFG_DUMMY, F.FLASH_FL_PROT_PROT_END, F.FLASH_FL_CMD_OP, F.FLASH_FL_ADDR_ADDR, F.FLASH_FL_BUF_LEN, F.FLASH_FL_BUF_OFFSET, F.FLASH_FL_STAT_BUSY, F.FLASH_FL_STAT_RESULT, F.FLASH_FL_SIZE_VALID]
def regsFLASH_2 : List Fld :=
  [F.FLASH_FL_SIZE_LOG2]
/-- Every field that a page of type FLASH defines beyond the header. -/
def regsFLASH : List Fld :=
  regsFLASH_1 ++ regsFLASH_2

end Sys2Proof.Machine
end

