-- ==== Sys2Proof/Machine/RegMapD.lean ====
section
/-!
DEFINITION. Register fields of the page types POWER, BRANCH, PD, USBDEV, CORES, EVENTA, EVENTB, EVENTC, MGMT, SENSORS, LOG,
UPDATE, SECURITY, ECLIPSE, each as the register tables of spec/ give it: offset, lowest bit, width, access code, reset value,
write class. An indexed register is a function of its index. -/

namespace Sys2Proof.Machine

/-! POWER: spec/17_power_entry.md, R476. -/

def F.POWER_FEED_CFG_OV : Fld := ⟨0x040, 16, 16, .rw, 0xF230, .b⟩
def F.POWER_FEED_CFG_UV : Fld := ⟨0x040, 0, 16, .rw, 0x3E80, .b⟩
def F.POWER_SEAT_CFG_T_SEAT : Fld := ⟨0x044, 0, 8, .rw, 0x32, .b⟩
def F.POWER_MAIN_SNS_RSENSE : Fld := ⟨0x048, 0, 16, .rw, 0x3E8, .b⟩
def F.POWER_MAIN_START_SLEW : Fld := ⟨0x04C, 24, 8, .rw, 10, .b⟩
def F.POWER_MAIN_START_START_TO : Fld := ⟨0x04C, 16, 8, .rw, 0x14, .b⟩
def F.POWER_MAIN_START_PG_QUAL : Fld := ⟨0x04C, 8, 8, .rw, 10, .b⟩
def F.POWER_MAIN_START_RETRY_MAX : Fld := ⟨0x04C, 0, 8, .rw, 3, .b⟩
def F.POWER_MAIN_LIM_I_START : Fld := ⟨0x050, 0, 20, .rw, 0x1388, .b⟩
def F.POWER_MAIN_ISC_ISC : Fld := ⟨0x054, 0, 20, .rw, 0x186A0, .b⟩
def F.POWER_MAIN_SOA_SOA_BUDGET : Fld := ⟨0x058, 0, 16, .rw, 0x7D0, .b⟩
def F.POWER_MAIN_I_I (k : Nat) : Fld := ⟨0x060 + 0x8 * k, 0, 20, .rw, [10000, 12000, 15000, 20000, 30000, 40000, 60000, 80000].getD k 0, .b⟩
def F.POWER_MAIN_T_T (k : Nat) : Fld := ⟨0x064 + 0x8 * k, 0, 16, .rw, [50000, 10000, 2000, 500, 100, 20, 5, 1].getD k 0, .b⟩
def F.POWER_MAIN_CTRL_APPLY : Fld := ⟨0x0A0, 1, 1, .w1s, 0, .b⟩
def F.POWER_MAIN_CTRL_CLEAR : Fld := ⟨0x0A0, 0, 1, .w1s, 0, .a⟩
def F.POWER_MAIN_STAT_STATE : Fld := ⟨0x0A4, 29, 3, .ro, 0, .none⟩
def F.POWER_MAIN_STAT_PG : Fld := ⟨0x0A4, 28, 1, .ro, 0, .none⟩
def F.POWER_MAIN_STAT_CURVE_BAD : Fld := ⟨0x0A4, 27, 1, .ro, 0, .none⟩
def F.POWER_MAIN_STAT_LAST_CAUSE : Fld := ⟨0x0A4, 24, 3, .ro, 0, .none⟩
def F.POWER_MAIN_STAT_TIMERS : Fld := ⟨0x0A4, 16, 8, .ro, 0, .none⟩
def F.POWER_MAIN_STAT_RETRIES : Fld := ⟨0x0A4, 0, 8, .ro, 0, .none⟩
def F.POWER_MAIN_LAST_E : Fld := ⟨0x0A8, 16, 16, .ro, 0, .none⟩
def F.POWER_MAIN_LAST_T_ON : Fld := ⟨0x0A8, 0, 16, .ro, 0, .none⟩
def F.POWER_OFF_LEFT_MS : Fld := ⟨0x0AC, 0, 20, .ro, 0, .none⟩
def F.POWER_FEED_STAT_A_REV_SEEN : Fld := ⟨0x0B0, 31, 1, .w1c, 0, .a⟩
def F.POWER_FEED_STAT_B_REV_SEEN : Fld := ⟨0x0B0, 30, 1, .w1c, 0, .a⟩
def F.POWER_FEED_STAT_A : Fld := ⟨0x0B0, 10, 5, .ro, 0, .none⟩
def F.POWER_FEED_STAT_B : Fld := ⟨0x0B0, 2, 5, .ro, 0, .none⟩
def F.POWER_FEED_STAT_SEAT : Fld := ⟨0x0B0, 0, 2, .ro, 0, .none⟩
def F.POWER_STAGGER_CFG_STAGGER_GAP : Fld := ⟨0x0B4, 0, 8, .rw, 5, .c⟩
def F.POWER_LG_CFG_LG_FILT : Fld := ⟨0x0B8, 24, 8, .rw, 0x14, .b⟩
def F.POWER_LG_CFG_LG_KEEP : Fld := ⟨0x0B8, 0, 8, .rw, 0, .c⟩
def F.POWER_LG_STAT_ACTIVE : Fld := ⟨0x0BC, 31, 1, .ro, 0, .none⟩
def F.POWER_LG_STAT_RECOVERED : Fld := ⟨0x0BC, 30, 1, .w1c, 0, .a⟩
def F.POWER_CNT_TRIP_N : Fld := ⟨0x0C0, 0, 32, .ro, 0, .none⟩
def F.POWER_CNT_START_FAIL_N : Fld := ⟨0x0C4, 0, 32, .ro, 0, .none⟩
def F.POWER_CNT_LAST_GASP_N : Fld := ⟨0x0C8, 0, 32, .ro, 0, .none⟩
def F.POWER_CNT_REV_N : Fld := ⟨0x0CC, 0, 32, .ro, 0, .none⟩

def regsPOWER_1 : List Fld :=
  [F.POWER_FEED_CFG_OV, F.POWER_FEED_CFG_UV, F.POWER_SEAT_CFG_T_SEAT, F.POWER_MAIN_SNS_RSENSE, F.POWER_MAIN_START_SLEW, F.POWER_MAIN_START_START_TO, F.POWER_MAIN_START_PG_QUAL, F.POWER_MAIN_START_RETRY_MAX, F.POWER_MAIN_LIM_I_START, F.POWER_MAIN_ISC_ISC, F.POWER_MAIN_SOA_SOA_BUDGET]
def regsPOWER_2 : List Fld :=
  (List.range 8).flatMap fun k => [F.POWER_MAIN_I_I k, F.POWER_MAIN_T_T k]
def regsPOWER_3 : List Fld :=
  [F.POWER_MAIN_CTRL_APPLY, F.POWER_MAIN_CTRL_CLEAR, F.POWER_MAIN_STAT_STATE, F.POWER_MAIN_STAT_PG, F.POWER_MAIN_STAT_CURVE_BAD, F.POWER_MAIN_STAT_LAST_CAUSE, F.POWER_MAIN_STAT_TIMERS, F.POWER_MAIN_STAT_RETRIES, F.POWER_MAIN_LAST_E, F.POWER_MAIN_LAST_T_ON, F.POWER_OFF_LEFT_MS, F.POWER_FEED_STAT_A_REV_SEEN]
def regsPOWER_4 : List Fld :=
  [F.POWER_FEED_STAT_B_REV_SEEN, F.POWER_FEED_STAT_A, F.POWER_FEED_STAT_B, F.POWER_FEED_STAT_SEAT, F.POWER_STAGGER_CFG_STAGGER_GAP, F.POWER_LG_CFG_LG_FILT, F.POWER_LG_CFG_LG_KEEP, F.POWER_LG_STAT_ACTIVE, F.POWER_LG_STAT_RECOVERED, F.POWER_CNT_TRIP_N, F.POWER_CNT_START_FAIL_N, F.POWER_CNT_LAST_GASP_N]
def regsPOWER_5 : List Fld :=
  [F.POWER_CNT_REV_N]
/-- Every field that a page of type POWER defines beyond the header. -/
def regsPOWER : List Fld :=
  regsPOWER_1 ++ regsPOWER_2 ++ regsPOWER_3 ++ regsPOWER_4 ++ regsPOWER_5

/-! BRANCH: spec/17_power_entry.md, R478. -/

def F.BRANCH_BR_SNS_RSENSE : Fld := ⟨0x040, 0, 16, .rw, 0, .c⟩
def F.BRANCH_BR_START_SLEW : Fld := ⟨0x044, 24, 8, .rw, 10, .c⟩
def F.BRANCH_BR_START_START_TO : Fld := ⟨0x044, 16, 8, .rw, 0x14, .c⟩
def F.BRANCH_BR_START_PG_QUAL : Fld := ⟨0x044, 8, 8, .rw, 10, .c⟩
def F.BRANCH_BR_START_RETRY_MAX : Fld := ⟨0x044, 0, 8, .rw, 3, .c⟩
def F.BRANCH_BR_LIM_I_START : Fld := ⟨0x048, 0, 20, .rw, 0x7D0, .c⟩
def F.BRANCH_BR_ISC_ISC : Fld := ⟨0x04C, 0, 20, .rw, 0, .c⟩
def F.BRANCH_BR_SOA_SOA_BUDGET : Fld := ⟨0x050, 0, 16, .rw, 0x1F4, .c⟩
def F.BRANCH_BR_I_I (k : Nat) : Fld := ⟨0x060 + 0x8 * k, 0, 20, .rw, 0, .c⟩
def F.BRANCH_BR_T_T (k : Nat) : Fld := ⟨0x064 + 0x8 * k, 0, 16, .rw, 0, .c⟩
def F.BRANCH_BR_CTRL_APPLY : Fld := ⟨0x0A0, 2, 1, .w1s, 0, .c⟩
def F.BRANCH_BR_CTRL_CLEAR : Fld := ⟨0x0A0, 1, 1, .w1s, 0, .a⟩
def F.BRANCH_BR_CTRL_ON : Fld := ⟨0x0A0, 0, 1, .rw, 0, .a⟩
def F.BRANCH_BR_STAT_STATE : Fld := ⟨0x0A4, 29, 3, .ro, 0, .none⟩
def F.BRANCH_BR_STAT_PG : Fld := ⟨0x0A4, 28, 1, .ro, 0, .none⟩
def F.BRANCH_BR_STAT_CURVE_BAD : Fld := ⟨0x0A4, 27, 1, .ro, 0, .none⟩
def F.BRANCH_BR_STAT_LAST_CAUSE : Fld := ⟨0x0A4, 24, 3, .ro, 0, .none⟩
def F.BRANCH_BR_STAT_TIMERS : Fld := ⟨0x0A4, 16, 8, .ro, 0, .none⟩
def F.BRANCH_BR_STAT_RETRIES : Fld := ⟨0x0A4, 0, 8, .ro, 0, .none⟩
def F.BRANCH_BR_LAST_E : Fld := ⟨0x0A8, 16, 16, .ro, 0, .none⟩
def F.BRANCH_BR_LAST_T_ON : Fld := ⟨0x0A8, 0, 16, .ro, 0, .none⟩
def F.BRANCH_BR_OFF_LEFT_MS : Fld := ⟨0x0AC, 0, 20, .ro, 0, .none⟩
def F.BRANCH_CNT_TRIP_N : Fld := ⟨0x0B0, 0, 32, .ro, 0, .none⟩
def F.BRANCH_CNT_START_FAIL_N : Fld := ⟨0x0B4, 0, 32, .ro, 0, .none⟩

def regsBRANCH_1 : List Fld :=
  [F.BRANCH_BR_SNS_RSENSE, F.BRANCH_BR_START_SLEW, F.BRANCH_BR_START_START_TO, F.BRANCH_BR_START_PG_QUAL, F.BRANCH_BR_START_RETRY_MAX, F.BRANCH_BR_LIM_I_START, F.BRANCH_BR_ISC_ISC, F.BRANCH_BR_SOA_SOA_BUDGET]
def regsBRANCH_2 : List Fld :=
  (List.range 8).flatMap fun k => [F.BRANCH_BR_I_I k, F.BRANCH_BR_T_T k]
def regsBRANCH_3 : List Fld :=
  [F.BRANCH_BR_CTRL_APPLY, F.BRANCH_BR_CTRL_CLEAR, F.BRANCH_BR_CTRL_ON, F.BRANCH_BR_STAT_STATE, F.BRANCH_BR_STAT_PG, F.BRANCH_BR_STAT_CURVE_BAD, F.BRANCH_BR_STAT_LAST_CAUSE, F.BRANCH_BR_STAT_TIMERS, F.BRANCH_BR_STAT_RETRIES, F.BRANCH_BR_LAST_E, F.BRANCH_BR_LAST_T_ON, F.BRANCH_BR_OFF_LEFT_MS]
def regsBRANCH_4 : List Fld :=
  [F.BRANCH_CNT_TRIP_N, F.BRANCH_CNT_START_FAIL_N]
/-- Every field that a page of type BRANCH defines beyond the header. -/
def regsBRANCH : List Fld :=
  regsBRANCH_1 ++ regsBRANCH_2 ++ regsBRANCH_3 ++ regsBRANCH_4

/-! PD: spec/18_usb_c_ports.md, R501. -/

def F.PD_PD_CFG_EN : Fld := ⟨0x040, 31, 1, .rw, 1, .c⟩
def F.PD_PD_CFG_SRC_EN : Fld := ⟨0x040, 30, 1, .rw, 0, .c⟩
def F.PD_PD_CFG_SWAP_EN : Fld := ⟨0x040, 29, 1, .rw, 0, .c⟩
def F.PD_PD_CFG_TAP_EN : Fld := ⟨0x040, 28, 1, .rw, 1, .c⟩
def F.PD_PD_CFG_AUTO_SNK : Fld := ⟨0x040, 27, 1, .rw, 1, .a⟩
def F.PD_PD_CFG_SVC_TAKEOVER : Fld := ⟨0x040, 26, 1, .rw, 1, .c⟩
def F.PD_PD_CFG_TAP_CLASSES : Fld := ⟨0x040, 0, 8, .rw, 0xFF, .a⟩
def F.PD_SNK_CFG_SNK_VMAX : Fld := ⟨0x044, 16, 16, .rw, 0x1388, .a⟩
def F.PD_SNK_CFG_SNK_IOP : Fld := ⟨0x044, 0, 12, .rw, 0x384, .a⟩
def F.PD_SRC_PDO_PDO_EN : Fld := ⟨0x048, 16, 4, .rw, 1, .c⟩
def F.PD_SRC_PDO_IMAX : Fld := ⟨0x048, 0, 12, .rw, 0xBB8, .c⟩
def F.PD_VSET_CAL_GAIN : Fld := ⟨0x04C, 16, 16, .rw, 0xFA0, .c⟩
def F.PD_VSET_CAL_OFFSET : Fld := ⟨0x04C, 0, 16, .rw, 0, .c⟩
def F.PD_TRANS_CFG_SVC_OVERLAP : Fld := ⟨0x050, 8, 8, .rw, 10, .c⟩
def F.PD_TRANS_CFG_TRANS_LIMIT : Fld := ⟨0x050, 0, 8, .rw, 0x78, .c⟩
def F.PD_TMR_A_SENDER_RESP : Fld := ⟨0x054, 16, 16, .rw, 0x1B, .c⟩
def F.PD_TMR_A_SEND_SRC_CAP : Fld := ⟨0x054, 0, 16, .rw, 0x96, .c⟩
def F.PD_TMR_B_PS_TRANS : Fld := ⟨0x058, 16, 16, .rw, 0x1F4, .c⟩
def F.PD_TMR_B_PS_SRC_OFF : Fld := ⟨0x058, 0, 16, .rw, 0x343, .c⟩
def F.PD_TMR_C_PS_SRC_ON : Fld := ⟨0x05C, 16, 16, .rw, 0x1B3, .c⟩
def F.PD_TMR_C_SRC_RECOVER : Fld := ⟨0x05C, 0, 16, .rw, 0x33E, .c⟩
def F.PD_TMR_D_NO_RESPONSE : Fld := ⟨0x060, 16, 16, .rw, 0x1388, .c⟩
def F.PD_TMR_D_PS_HARD_RESET : Fld := ⟨0x060, 0, 16, .rw, 0x1E, .c⟩
def F.PD_TMR_E_VDM_RESP : Fld := ⟨0x064, 16, 16, .rw, 0x1B, .c⟩
def F.PD_TMR_E_SINK_TX : Fld := ⟨0x064, 0, 16, .rw, 0x12, .c⟩
def F.PD_PD_CMD_OP : Fld := ⟨0x070, 28, 4, .wo, 0, .a⟩
def F.PD_PD_RES_RESULT : Fld := ⟨0x074, 28, 4, .ro, 0, .none⟩
def F.PD_PD_STAT_ATTACH : Fld := ⟨0x078, 30, 2, .ro, 0, .none⟩
def F.PD_PD_STAT_DEAD_BATT : Fld := ⟨0x078, 29, 1, .ro, 0, .none⟩
def F.PD_PD_STAT_CONTRACT : Fld := ⟨0x078, 28, 1, .ro, 0, .none⟩
def F.PD_PD_STAT_REV3 : Fld := ⟨0x078, 27, 1, .ro, 0, .none⟩
def F.PD_PD_STAT_RP_ADV : Fld := ⟨0x078, 25, 2, .ro, 0, .none⟩
def F.PD_PD_STAT_SWAP_BUSY : Fld := ⟨0x078, 24, 1, .ro, 0, .none⟩
def F.PD_PD_STAT_TAP : Fld := ⟨0x078, 23, 1, .ro, 0, .none⟩
def F.PD_PD_STAT_BIST : Fld := ⟨0x078, 22, 1, .ro, 0, .none⟩
def F.PD_CONTRACT_V : Fld := ⟨0x07C, 16, 16, .ro, 0, .none⟩
def F.PD_CONTRACT_I : Fld := ⟨0x07C, 0, 16, .ro, 0, .none⟩
def F.PD_SVC_STAT_PATH_ON : Fld := ⟨0x080, 31, 1, .ro, 0, .none⟩
def F.PD_SVC_STAT_LOW_BUDGET : Fld := ⟨0x080, 30, 1, .ro, 0, .none⟩
def F.PD_SVC_STAT_BUDGET : Fld := ⟨0x080, 0, 16, .ro, 0, .none⟩
def F.PD_FAULT_CAUSE : Fld := ⟨0x084, 0, 7, .w1c, 0, .a⟩
def F.PD_CNT_HARD_RESET_N : Fld := ⟨0x0C0, 0, 32, .ro, 0, .none⟩
def F.PD_CNT_SWAP_N : Fld := ⟨0x0C4, 0, 32, .ro, 0, .none⟩
def F.PD_CNT_TAP_ENTRY_N : Fld := ⟨0x0C8, 0, 32, .ro, 0, .none⟩
def F.PD_CNT_TAP_REFUSED_N : Fld := ⟨0x0CC, 0, 32, .ro, 0, .none⟩

def regsPD_1 : List Fld :=
  [F.PD_PD_CFG_EN, F.PD_PD_CFG_SRC_EN, F.PD_PD_CFG_SWAP_EN, F.PD_PD_CFG_TAP_EN, F.PD_PD_CFG_AUTO_SNK, F.PD_PD_CFG_SVC_TAKEOVER, F.PD_PD_CFG_TAP_CLASSES, F.PD_SNK_CFG_SNK_VMAX, F.PD_SNK_CFG_SNK_IOP, F.PD_SRC_PDO_PDO_EN, F.PD_SRC_PDO_IMAX, F.PD_VSET_CAL_GAIN]
def regsPD_2 : List Fld :=
  [F.PD_VSET_CAL_OFFSET, F.PD_TRANS_CFG_SVC_OVERLAP, F.PD_TRANS_CFG_TRANS_LIMIT, F.PD_TMR_A_SENDER_RESP, F.PD_TMR_A_SEND_SRC_CAP, F.PD_TMR_B_PS_TRANS, F.PD_TMR_B_PS_SRC_OFF, F.PD_TMR_C_PS_SRC_ON, F.PD_TMR_C_SRC_RECOVER, F.PD_TMR_D_NO_RESPONSE, F.PD_TMR_D_PS_HARD_RESET, F.PD_TMR_E_VDM_RESP]
def regsPD_3 : List Fld :=
  [F.PD_TMR_E_SINK_TX, F.PD_PD_CMD_OP, F.PD_PD_RES_RESULT, F.PD_PD_STAT_ATTACH, F.PD_PD_STAT_DEAD_BATT, F.PD_PD_STAT_CONTRACT, F.PD_PD_STAT_REV3, F.PD_PD_STAT_RP_ADV, F.PD_PD_STAT_SWAP_BUSY, F.PD_PD_STAT_TAP, F.PD_PD_STAT_BIST, F.PD_CONTRACT_V]
def regsPD_4 : List Fld :=
  [F.PD_CONTRACT_I, F.PD_SVC_STAT_PATH_ON, F.PD_SVC_STAT_LOW_BUDGET, F.PD_SVC_STAT_BUDGET, F.PD_FAULT_CAUSE, F.PD_CNT_HARD_RESET_N, F.PD_CNT_SWAP_N, F.PD_CNT_TAP_ENTRY_N, F.PD_CNT_TAP_REFUSED_N]
/-- Every field that a page of type PD defines beyond the header. -/
def regsPD : List Fld :=
  regsPD_1 ++ regsPD_2 ++ regsPD_3 ++ regsPD_4

/-! USBDEV: spec/18_usb_c_ports.md, R502. -/

def F.USBDEV_DEV_CFG_CONNECT : Fld := ⟨0x040, 31, 1, .rw, 0, .a⟩
def F.USBDEV_DEV_CFG_HS_EN : Fld := ⟨0x040, 30, 1, .rw, 1, .a⟩
def F.USBDEV_DEV_STAT_VBUS : Fld := ⟨0x044, 31, 1, .ro, 0, .none⟩
def F.USBDEV_DEV_STAT_CONNECTED : Fld := ⟨0x044, 30, 1, .ro, 0, .none⟩
def F.USBDEV_DEV_STAT_SPEED : Fld := ⟨0x044, 28, 2, .ro, 0, .none⟩
def F.USBDEV_DEV_STAT_SUSPENDED : Fld := ⟨0x044, 27, 1, .ro, 0, .none⟩
def F.USBDEV_DEV_STAT_BUS_RESET : Fld := ⟨0x044, 26, 1, .w1c, 0, .a⟩
def F.USBDEV_DEV_ADDR_ADDR : Fld := ⟨0x048, 0, 7, .rw, 0, .a⟩
def F.USBDEV_SETUP_LO_DATA : Fld := ⟨0x04C, 0, 32, .ro, 0, .none⟩
def F.USBDEV_SETUP_HI_DATA : Fld := ⟨0x050, 0, 32, .ro, 0, .none⟩
def F.USBDEV_EP_CFG_EN (e : Nat) : Fld := ⟨0x100 + 0x10 * e, 31, 1, .rw, if e = 0 then 1 else 0, .a⟩
def F.USBDEV_EP_CFG_TYPE (e : Nat) : Fld := ⟨0x100 + 0x10 * e, 29, 2, .rw, if e = 0 then 0 else 1, .a⟩
def F.USBDEV_EP_CFG_MPS (e : Nat) : Fld := ⟨0x100 + 0x10 * e, 0, 11, .rw, 0x40, .a⟩
def F.USBDEV_EP_BUF_OFFSET (e : Nat) : Fld := ⟨0x104 + 0x10 * e, 0, 18, .rw, 0, .a⟩
def F.USBDEV_EP_CTRL_ARM (e : Nat) : Fld := ⟨0x108 + 0x10 * e, 31, 1, .w1s, 0, .a⟩
def F.USBDEV_EP_CTRL_STALL (e : Nat) : Fld := ⟨0x108 + 0x10 * e, 30, 1, .rw, 0, .a⟩
def F.USBDEV_EP_CTRL_ZLP (e : Nat) : Fld := ⟨0x108 + 0x10 * e, 29, 1, .rw, 0, .a⟩
def F.USBDEV_EP_CTRL_LEN (e : Nat) : Fld := ⟨0x108 + 0x10 * e, 0, 16, .rw, 0, .a⟩
def F.USBDEV_EP_STAT_DONE (e : Nat) : Fld := ⟨0x10C + 0x10 * e, 31, 1, .w1c, 0, .a⟩
def F.USBDEV_EP_STAT_SHORT (e : Nat) : Fld := ⟨0x10C + 0x10 * e, 30, 1, .ro, 0, .none⟩
def F.USBDEV_EP_STAT_ERR (e : Nat) : Fld := ⟨0x10C + 0x10 * e, 29, 1, .w1c, 0, .a⟩
def F.USBDEV_EP_STAT_XFER (e : Nat) : Fld := ⟨0x10C + 0x10 * e, 0, 16, .ro, 0, .none⟩

def regsUSBDEV_1 : List Fld :=
  [F.USBDEV_DEV_CFG_CONNECT, F.USBDEV_DEV_CFG_HS_EN, F.USBDEV_DEV_STAT_VBUS, F.USBDEV_DEV_STAT_CONNECTED, F.USBDEV_DEV_STAT_SPEED, F.USBDEV_DEV_STAT_SUSPENDED, F.USBDEV_DEV_STAT_BUS_RESET, F.USBDEV_DEV_ADDR_ADDR, F.USBDEV_SETUP_LO_DATA, F.USBDEV_SETUP_HI_DATA]
def regsUSBDEV_2 : List Fld :=
  (List.range 9).flatMap fun e => [F.USBDEV_EP_CFG_EN e, F.USBDEV_EP_CFG_TYPE e, F.USBDEV_EP_CFG_MPS e, F.USBDEV_EP_BUF_OFFSET e, F.USBDEV_EP_CTRL_ARM e, F.USBDEV_EP_CTRL_STALL e, F.USBDEV_EP_CTRL_ZLP e, F.USBDEV_EP_CTRL_LEN e, F.USBDEV_EP_STAT_DONE e, F.USBDEV_EP_STAT_SHORT e, F.USBDEV_EP_STAT_ERR e, F.USBDEV_EP_STAT_XFER e]
/-- Every field that a page of type USBDEV defines beyond the header. -/
def regsUSBDEV : List Fld :=
  regsUSBDEV_1 ++ regsUSBDEV_2

/-! CORES: spec/19_processors_and_events.md, R527. -/

def F.CORES_CORE_CTRL_DBG_PAUSE : Fld := ⟨0x040, 8, 1, .rw, 1, .a⟩
def F.CORES_CORE_CTRL_HART_EN : Fld := ⟨0x040, 0, 4, .rw, 0, .a⟩
def F.CORES_RESET_VEC_LO_ADDR : Fld := ⟨0x044, 1, 31, .rw, 0, .b⟩
def F.CORES_RESET_VEC_HI_ADDR : Fld := ⟨0x048, 0, 8, .rw, 0, .b⟩
def F.CORES_CORE_STAT_ISOLATED : Fld := ⟨0x04C, 12, 4, .ro, 0, .none⟩
def F.CORES_CORE_STAT_WFI : Fld := ⟨0x04C, 8, 4, .ro, 0, .none⟩
def F.CORES_CORE_STAT_DEBUG : Fld := ⟨0x04C, 4, 4, .ro, 0, .none⟩
def F.CORES_CORE_STAT_RUNNING : Fld := ⟨0x04C, 0, 4, .ro, 0, .none⟩
def F.CORES_BANK_ACTIVE : Fld := ⟨0x050, 0, 1, .rws, 0, .t⟩
def F.CORES_MSIP_MSIP : Fld := ⟨0x054, 0, 5, .rw, 0, .a⟩
def F.CORES_EV_CFG_WARN_LEAD : Fld := ⟨0x058, 8, 8, .rws, 10, .t⟩
def F.CORES_EV_CFG_COMMIT_WARN : Fld := ⟨0x058, 4, 1, .rw, 0, .a⟩
def F.CORES_EV_CFG_TICK_EN : Fld := ⟨0x058, 0, 4, .rw, 0, .a⟩
def F.CORES_MTIMECMP_LO_NS (k : Nat) : Fld := ⟨0x080 + 0x8 * k, 0, 32, .rw, 0xFFFFFFFF, .a⟩
def F.CORES_MTIMECMP_HI_NS (k : Nat) : Fld := ⟨0x084 + 0x8 * k, 0, 32, .rw, 0xFFFFFFFF, .a⟩
def F.CORES_FWDT_CFG_EN : Fld := ⟨0x0B0, 31, 1, .rw, 0, .b⟩
def F.CORES_FWDT_CFG_CORES : Fld := ⟨0x0B0, 24, 4, .rw, 15, .b⟩
def F.CORES_FWDT_CFG_TIME : Fld := ⟨0x0B0, 0, 20, .rw, 0x186A0, .b⟩
def F.CORES_FWDT_KICK_KEY : Fld := ⟨0x0B4, 16, 16, .wo, 0, .a⟩
def F.CORES_FWDT_KICK_CORE : Fld := ⟨0x0B4, 0, 4, .wo, 0, .a⟩
def F.CORES_FWDT_STAT_WARNED : Fld := ⟨0x0B8, 0, 4, .ro, 0, .none⟩
def F.CORES_MWDT_CFG_EN : Fld := ⟨0x0C0, 31, 1, .rw, 0, .b⟩
def F.CORES_MWDT_CFG_TIME : Fld := ⟨0x0C0, 0, 16, .rw, 0x3E8, .b⟩
def F.CORES_MWDT_KICK_KEY : Fld := ⟨0x0C4, 16, 16, .wo, 0, .a⟩
def F.CORES_MWDT_STAT_WARNED : Fld := ⟨0x0C8, 0, 1, .ro, 0, .none⟩
def F.CORES_CNT_FWDT_WARN_N : Fld := ⟨0x0D0, 0, 32, .ro, 0, .none⟩
def F.CORES_CNT_MWDT_WARN_N : Fld := ⟨0x0D4, 0, 32, .ro, 0, .none⟩
def F.CORES_CNT_COMMIT_WARN_N : Fld := ⟨0x0D8, 0, 32, .ro, 0, .none⟩

def regsCORES_1 : List Fld :=
  [F.CORES_CORE_CTRL_DBG_PAUSE, F.CORES_CORE_CTRL_HART_EN, F.CORES_RESET_VEC_LO_ADDR, F.CORES_RESET_VEC_HI_ADDR, F.CORES_CORE_STAT_ISOLATED, F.CORES_CORE_STAT_WFI, F.CORES_CORE_STAT_DEBUG, F.CORES_CORE_STAT_RUNNING, F.CORES_BANK_ACTIVE, F.CORES_MSIP_MSIP, F.CORES_EV_CFG_WARN_LEAD, F.CORES_EV_CFG_COMMIT_WARN]
def regsCORES_2 : List Fld :=
  [F.CORES_EV_CFG_TICK_EN]
def regsCORES_3 : List Fld :=
  (List.range 5).flatMap fun k => [F.CORES_MTIMECMP_LO_NS k, F.CORES_MTIMECMP_HI_NS k]
def regsCORES_4 : List Fld :=
  [F.CORES_FWDT_CFG_EN, F.CORES_FWDT_CFG_CORES, F.CORES_FWDT_CFG_TIME, F.CORES_FWDT_KICK_KEY, F.CORES_FWDT_KICK_CORE, F.CORES_FWDT_STAT_WARNED, F.CORES_MWDT_CFG_EN, F.CORES_MWDT_CFG_TIME, F.CORES_MWDT_KICK_KEY, F.CORES_MWDT_STAT_WARNED, F.CORES_CNT_FWDT_WARN_N, F.CORES_CNT_MWDT_WARN_N]
def regsCORES_5 : List Fld :=
  [F.CORES_CNT_COMMIT_WARN_N]
/-- Every field that a page of type CORES defines beyond the header. -/
def regsCORES : List Fld :=
  regsCORES_1 ++ regsCORES_2 ++ regsCORES_3 ++ regsCORES_4 ++ regsCORES_5

/-! EVENTA: spec/19_processors_and_events.md, R529. -/

def F.EVENTA_PEND_P (w : Nat) : Fld := ⟨0x080 + 0x4 * w, 0, 32, .ro, 0, .none⟩
def F.EVENTA_ASSERT_A (w : Nat) : Fld := ⟨0x0C0 + 0x4 * w, 0, 32, .ro, 0, .none⟩
def F.EVENTA_PRIO_PRIO (j : Nat) : Fld := ⟨0x100 + 0x4 * j, 0, 32, .rw, 0, .a⟩

def regsEVENTA_1 : List Fld :=
  (List.range 16).flatMap fun w => [F.EVENTA_PEND_P w, F.EVENTA_ASSERT_A w]
def regsEVENTA_2 : List Fld :=
  (List.range 64).flatMap fun j => [F.EVENTA_PRIO_PRIO j]
/-- Every field that a page of type EVENTA defines beyond the header. -/
def regsEVENTA : List Fld :=
  regsEVENTA_1 ++ regsEVENTA_2

/-! EVENTB: spec/19_processors_and_events.md, R529. -/

def F.EVENTB_EN_EN (k : Nat) (w : Nat) : Fld := ⟨0x100 + 0x40 * k + 0x4 * w, 0, 32, .rw, 0, .a⟩

def regsEVENTB_1 : List Fld :=
  (List.range 5).flatMap fun k => (List.range 16).flatMap fun w => [F.EVENTB_EN_EN k w]
/-- Every field that a page of type EVENTB defines beyond the header. -/
def regsEVENTB : List Fld :=
  regsEVENTB_1

/-! EVENTC: spec/19_processors_and_events.md, R529. -/

def F.EVENTC_THRESH_T (k : Nat) : Fld := ⟨0x040 + 0x8 * k, 0, 4, .rw, 0, .a⟩
def F.EVENTC_CLAIM_VALID (k : Nat) : Fld := ⟨0x044 + 0x8 * k, 31, 1, .rw, 0, .a⟩
def F.EVENTC_CLAIM_SRC (k : Nat) : Fld := ⟨0x044 + 0x8 * k, 0, 9, .rw, 0, .a⟩
def F.EVENTC_SWEV_EV : Fld := ⟨0x070, 0, 24, .w1c, 0, .a⟩
def F.EVENTC_SWEV_SET_EV : Fld := ⟨0x074, 0, 24, .w1s, 0, .a⟩
def F.EVENTC_EVT_CFG_OUT (p : Nat) : Fld := ⟨0x080 + 0x4 * p, 31, 1, .rw, 0, .a⟩
def F.EVENTC_EVT_CFG_POL (p : Nat) : Fld := ⟨0x080 + 0x4 * p, 30, 1, .rw, 0, .a⟩
def F.EVENTC_EVT_CFG_PULSE (p : Nat) : Fld := ⟨0x080 + 0x4 * p, 29, 1, .rw, 0, .a⟩
def F.EVENTC_EVT_CFG_SRC (p : Nat) : Fld := ⟨0x080 + 0x4 * p, 0, 9, .rw, 0, .a⟩
def F.EVENTC_PIOR_EN (r : Nat) : Fld := ⟨0x0A0 + 0x4 * r, 31, 1, .rw, 0, .a⟩
def F.EVENTC_PIOR_ENGINE (r : Nat) : Fld := ⟨0x0A0 + 0x4 * r, 20, 5, .rw, 0, .a⟩
def F.EVENTC_PIOR_TRIG (r : Nat) : Fld := ⟨0x0A0 + 0x4 * r, 16, 2, .rw, 0, .a⟩
def F.EVENTC_PIOR_SRC (r : Nat) : Fld := ⟨0x0A0 + 0x4 * r, 0, 9, .rw, 0, .a⟩
def F.EVENTC_EXP_STAT_BUSY : Fld := ⟨0x0C0, 16, 16, .ro, 0, .none⟩
def F.EVENTC_EXP_STAT_FAIL : Fld := ⟨0x0C0, 0, 16, .w1c, 0, .a⟩
def F.EVENTC_CNT_EXPORT_N : Fld := ⟨0x0C4, 0, 32, .roc, 0, .none⟩
def F.EVENTC_CNT_EXPORT_FAIL_N : Fld := ⟨0x0C8, 0, 32, .roc, 0, .none⟩
def F.EVENTC_CNT_EXPORT_MERGED_N : Fld := ⟨0x0CC, 0, 32, .roc, 0, .none⟩
def F.EVENTC_CNT_EXPORT_DROP_N : Fld := ⟨0x0D0, 0, 32, .roc, 0, .none⟩
def F.EVENTC_EXP_A_EN (e : Nat) : Fld := ⟨0x100 + 0x8 * e, 31, 1, .rw, 0, .c⟩
def F.EVENTC_EXP_A_K (e : Nat) : Fld := ⟨0x100 + 0x8 * e, 16, 4, .rw, 0, .c⟩
def F.EVENTC_EXP_A_SRC (e : Nat) : Fld := ⟨0x100 + 0x8 * e, 0, 9, .rw, 0, .c⟩
def F.EVENTC_EXP_B_DST (e : Nat) : Fld := ⟨0x104 + 0x8 * e, 0, 12, .rw, 0, .c⟩

def regsEVENTC_1 : List Fld :=
  (List.range 5).flatMap fun k => [F.EVENTC_THRESH_T k, F.EVENTC_CLAIM_VALID k, F.EVENTC_CLAIM_SRC k]
def regsEVENTC_2 : List Fld :=
  [F.EVENTC_SWEV_EV, F.EVENTC_SWEV_SET_EV]
def regsEVENTC_3 : List Fld :=
  (List.range 4).flatMap fun p => [F.EVENTC_EVT_CFG_OUT p, F.EVENTC_EVT_CFG_POL p, F.EVENTC_EVT_CFG_PULSE p, F.EVENTC_EVT_CFG_SRC p]
def regsEVENTC_4 : List Fld :=
  (List.range 8).flatMap fun r => [F.EVENTC_PIOR_EN r, F.EVENTC_PIOR_ENGINE r, F.EVENTC_PIOR_TRIG r, F.EVENTC_PIOR_SRC r]
def regsEVENTC_5 : List Fld :=
  [F.EVENTC_EXP_STAT_BUSY, F.EVENTC_EXP_STAT_FAIL, F.EVENTC_CNT_EXPORT_N, F.EVENTC_CNT_EXPORT_FAIL_N, F.EVENTC_CNT_EXPORT_MERGED_N, F.EVENTC_CNT_EXPORT_DROP_N]
def regsEVENTC_6 : List Fld :=
  (List.range 16).flatMap fun e => [F.EVENTC_EXP_A_EN e, F.EVENTC_EXP_A_K e, F.EVENTC_EXP_A_SRC e, F.EVENTC_EXP_B_DST e]
/-- Every field that a page of type EVENTC defines beyond the header. -/
def regsEVENTC : List Fld :=
  regsEVENTC_1 ++ regsEVENTC_2 ++ regsEVENTC_3 ++ regsEVENTC_4 ++ regsEVENTC_5 ++ regsEVENTC_6

/-! MGMT: spec/20_management_boot_update.md, R560. -/

def F.MGMT_PWR_CTRL_ETH_ON : Fld := ⟨0x040, 2, 1, .rw, 1, .a⟩
def F.MGMT_PWR_CTRL_FIELDLOG_ON : Fld := ⟨0x040, 1, 1, .rw, 0, .a⟩
def F.MGMT_PWR_CTRL_CORE_ON : Fld := ⟨0x040, 0, 1, .rw, 0, .a⟩
def F.MGMT_PWR_STAT_ON : Fld := ⟨0x044, 0, 10, .ro, 0, .none⟩
def F.MGMT_MBANK_ACTIVE : Fld := ⟨0x048, 0, 1, .rws, 0, .t⟩
def F.MGMT_BOOT_CTRL_KEY : Fld := ⟨0x04C, 16, 16, .wo, 0, .a⟩
def F.MGMT_BOOT_CTRL_BOOT_GOOD : Fld := ⟨0x04C, 0, 1, .w1s, 0, .a⟩
def F.MGMT_AO_STAT_AO_VALID : Fld := ⟨0x050, 31, 1, .ro, 0, .none⟩
def F.MGMT_AO_STAT_BOOT_FAILS : Fld := ⟨0x050, 24, 4, .ro, 0, .none⟩
def F.MGMT_AO_STAT_DAWN_REQ : Fld := ⟨0x050, 20, 1, .ro, 0, .none⟩
def F.MGMT_AO_STAT_HINT : Fld := ⟨0x050, 16, 2, .ro, 0, .none⟩
def F.MGMT_DAWN_REQ_KEY : Fld := ⟨0x054, 16, 16, .wo, 0, .a⟩
def F.MGMT_DAWN_REQ_REQ : Fld := ⟨0x054, 0, 1, .w1s, 0, .a⟩
def F.MGMT_DAWN_INFO_CAUSE : Fld := ⟨0x058, 28, 4, .ro, 0, .none⟩
def F.MGMT_DAWN_INFO_PATH : Fld := ⟨0x058, 24, 4, .ro, 0, .none⟩
def F.MGMT_RTC_LO_SEC : Fld := ⟨0x060, 0, 32, .rw, 0, .a⟩
def F.MGMT_RTC_HI_SEC : Fld := ⟨0x064, 0, 32, .rw, 0, .a⟩
def F.MGMT_RTC_SUB_T : Fld := ⟨0x068, 0, 15, .ro, 0, .none⟩
def F.MGMT_BB_ADDR_WORD : Fld := ⟨0x070, 0, 10, .rw, 0, .a⟩
def F.MGMT_BB_DATA_DATA : Fld := ⟨0x074, 0, 32, .ro, 0, .none⟩
def F.MGMT_BB_CTRL_KIND : Fld := ⟨0x078, 28, 4, .wo, 0, .a⟩
def F.MGMT_BB_CTRL_ARG : Fld := ⟨0x078, 0, 16, .wo, 0, .a⟩
def F.MGMT_BB_STAT_VALID : Fld := ⟨0x07C, 31, 1, .ro, 0, .none⟩
def F.MGMT_BB_STAT_BUSY : Fld := ⟨0x07C, 30, 1, .ro, 0, .none⟩
def F.MGMT_BB_STAT_KIND : Fld := ⟨0x07C, 24, 4, .ro, 0, .none⟩

def regsMGMT_1 : List Fld :=
  [F.MGMT_PWR_CTRL_ETH_ON, F.MGMT_PWR_CTRL_FIELDLOG_ON, F.MGMT_PWR_CTRL_CORE_ON, F.MGMT_PWR_STAT_ON, F.MGMT_MBANK_ACTIVE, F.MGMT_BOOT_CTRL_KEY, F.MGMT_BOOT_CTRL_BOOT_GOOD, F.MGMT_AO_STAT_AO_VALID, F.MGMT_AO_STAT_BOOT_FAILS, F.MGMT_AO_STAT_DAWN_REQ, F.MGMT_AO_STAT_HINT, F.MGMT_DAWN_REQ_KEY]
def regsMGMT_2 : List Fld :=
  [F.MGMT_DAWN_REQ_REQ, F.MGMT_DAWN_INFO_CAUSE, F.MGMT_DAWN_INFO_PATH, F.MGMT_RTC_LO_SEC, F.MGMT_RTC_HI_SEC, F.MGMT_RTC_SUB_T, F.MGMT_BB_ADDR_WORD, F.MGMT_BB_DATA_DATA, F.MGMT_BB_CTRL_KIND, F.MGMT_BB_CTRL_ARG, F.MGMT_BB_STAT_VALID, F.MGMT_BB_STAT_BUSY]
def regsMGMT_3 : List Fld :=
  [F.MGMT_BB_STAT_KIND]
/-- Every field that a page of type MGMT defines beyond the header. -/
def regsMGMT : List Fld :=
  regsMGMT_1 ++ regsMGMT_2 ++ regsMGMT_3

/-! SENSORS: spec/20_management_boot_update.md, R561. -/

def F.SENSORS_TEMP_T (k : Nat) : Fld := ⟨0x040 + 0x4 * k, 0, 16, .ro, 0, .none⟩
def F.SENSORS_TEMP_CFG_WARN : Fld := ⟨0x060, 0, 8, .rw, 0x6E, .a⟩
def F.SENSORS_TEMP_STAT_CRIT : Fld := ⟨0x064, 8, 6, .w1c, 0, .a⟩
def F.SENSORS_TEMP_STAT_WARN : Fld := ⟨0x064, 0, 8, .w1c, 0, .a⟩
def F.SENSORS_VMON_MV (d : Nat) : Fld := ⟨0x080 + 0x4 * d, 0, 16, .ro, 0, .none⟩
def F.SENSORS_VLIM_OV (d : Nat) : Fld := ⟨0x0C0 + 0x4 * d, 16, 16, .rw, [3600, 787, 787, 787, 945, 787, 787, 787, 787, 3465].getD d 0, .c⟩
def F.SENSORS_VLIM_UV (d : Nat) : Fld := ⟨0x0C0 + 0x4 * d, 0, 16, .rw, [2000, 712, 712, 712, 855, 712, 712, 712, 712, 3135].getD d 0, .c⟩
def F.SENSORS_VSTAT_OV : Fld := ⟨0x0F0, 16, 10, .w1c, 0, .a⟩
def F.SENSORS_VSTAT_UV : Fld := ⟨0x0F0, 0, 10, .w1c, 0, .a⟩

def regsSENSORS_1 : List Fld :=
  (List.range 8).flatMap fun k => [F.SENSORS_TEMP_T k]
def regsSENSORS_2 : List Fld :=
  [F.SENSORS_TEMP_CFG_WARN, F.SENSORS_TEMP_STAT_CRIT, F.SENSORS_TEMP_STAT_WARN]
def regsSENSORS_3 : List Fld :=
  (List.range 10).flatMap fun d => [F.SENSORS_VMON_MV d, F.SENSORS_VLIM_OV d, F.SENSORS_VLIM_UV d]
def regsSENSORS_4 : List Fld :=
  [F.SENSORS_VSTAT_OV, F.SENSORS_VSTAT_UV]
/-- Every field that a page of type SENSORS defines beyond the header. -/
def regsSENSORS : List Fld :=
  regsSENSORS_1 ++ regsSENSORS_2 ++ regsSENSORS_3 ++ regsSENSORS_4

/-! LOG: spec/20_management_boot_update.md, R562. -/

def F.LOG_LOG_CFG_SIZE : Fld := ⟨0x040, 16, 12, .rw, 0x10, .c⟩
def F.LOG_LOG_CFG_BASE : Fld := ⟨0x040, 0, 12, .rw, 0x30, .c⟩
def F.LOG_APPEND_A_KIND : Fld := ⟨0x044, 24, 8, .rw, 0x80, .a⟩
def F.LOG_APPEND_A_CODE : Fld := ⟨0x044, 16, 8, .rw, 0, .a⟩
def F.LOG_APPEND_A_ARG0 : Fld := ⟨0x044, 0, 16, .rw, 0, .a⟩
def F.LOG_APPEND_B_ARG1 : Fld := ⟨0x048, 0, 32, .wo, 0, .a⟩
def F.LOG_HEAD_INDEX : Fld := ⟨0x04C, 0, 12, .ro, 0, .none⟩
def F.LOG_EXP_STAT_BUSY : Fld := ⟨0x050, 31, 1, .ro, 0, .none⟩
def F.LOG_EXP_STAT_RESULT : Fld := ⟨0x050, 28, 3, .ro, 0, .none⟩
def F.LOG_EXP_STAT_PENDING : Fld := ⟨0x050, 0, 13, .ro, 0, .none⟩
def F.LOG_EXP_CTRL_GO : Fld := ⟨0x054, 0, 1, .w1s, 0, .a⟩
def F.LOG_FLASH_HEAD_OFFSET : Fld := ⟨0x058, 0, 28, .ro, 0, .none⟩
def F.LOG_RD_SEL_INDEX : Fld := ⟨0x05C, 0, 12, .rw, 0, .a⟩
def F.LOG_RD_W (k : Nat) : Fld := ⟨0x060 + 0x4 * k, 0, 32, .ro, 0, .none⟩
def F.LOG_CNT_LOST_N : Fld := ⟨0x080, 0, 32, .roc, 0, .none⟩
def F.LOG_CNT_APPEND_N : Fld := ⟨0x084, 0, 32, .roc, 0, .none⟩

def regsLOG_1 : List Fld :=
  [F.LOG_LOG_CFG_SIZE, F.LOG_LOG_CFG_BASE, F.LOG_APPEND_A_KIND, F.LOG_APPEND_A_CODE, F.LOG_APPEND_A_ARG0, F.LOG_APPEND_B_ARG1, F.LOG_HEAD_INDEX, F.LOG_EXP_STAT_BUSY, F.LOG_EXP_STAT_RESULT, F.LOG_EXP_STAT_PENDING, F.LOG_EXP_CTRL_GO, F.LOG_FLASH_HEAD_OFFSET]
def regsLOG_2 : List Fld :=
  [F.LOG_RD_SEL_INDEX]
def regsLOG_3 : List Fld :=
  (List.range 4).flatMap fun k => [F.LOG_RD_W k]
def regsLOG_4 : List Fld :=
  [F.LOG_CNT_LOST_N, F.LOG_CNT_APPEND_N]
/-- Every field that a page of type LOG defines beyond the header. -/
def regsLOG : List Fld :=
  regsLOG_1 ++ regsLOG_2 ++ regsLOG_3 ++ regsLOG_4

/-! UPDATE: spec/20_management_boot_update.md, R563. -/

def F.UPDATE_PKG_ADDR_ADDR : Fld := ⟨0x040, 0, 28, .rw, 0x400000, .a⟩
def F.UPDATE_STAGE_CMD_OP : Fld := ⟨0x044, 28, 4, .wo, 0, .a⟩
def F.UPDATE_UPD_STAT_STATE : Fld := ⟨0x048, 28, 4, .ro, 0, .none⟩
def F.UPDATE_UPD_STAT_RESULT : Fld := ⟨0x048, 24, 4, .ro, 0, .none⟩
def F.UPDATE_UPD_STAT_STAGED_SVN : Fld := ⟨0x048, 16, 8, .ro, 0, .none⟩
def F.UPDATE_UPD_STAT_ACTIVE_SLOT : Fld := ⟨0x048, 8, 1, .ro, 0, .none⟩
def F.UPDATE_STAGED_VER_LO_V : Fld := ⟨0x04C, 0, 32, .ro, 0, .none⟩
def F.UPDATE_STAGED_VER_HI_V : Fld := ⟨0x050, 0, 32, .ro, 0, .none⟩
def F.UPDATE_ACT_EFF_LO_E : Fld := ⟨0x054, 0, 32, .rw, 0, .a⟩
def F.UPDATE_ACT_EFF_HI_E : Fld := ⟨0x058, 0, 16, .rw, 0, .a⟩
def F.UPDATE_ACT_CTRL_GO : Fld := ⟨0x05C, 0, 1, .w1s, 0, .a⟩
def F.UPDATE_ACT_CFG_ACT_RETRY_MAX : Fld := ⟨0x060, 24, 8, .rws, 8, .t⟩
def F.UPDATE_ACT_CFG_HO_BASE : Fld := ⟨0x060, 0, 21, .rw, 0x100000, .c⟩
def F.UPDATE_MHO_CFG_MHO_BASE : Fld := ⟨0x064, 0, 18, .rw, 0x20000, .c⟩
def F.UPDATE_EXPORT_DONE_D : Fld := ⟨0x068, 0, 5, .w1s, 0, .a⟩
def F.UPDATE_READY_R : Fld := ⟨0x06C, 0, 5, .w1s, 0, .a⟩
def F.UPDATE_CNT_ACTIVATE_N : Fld := ⟨0x080, 0, 32, .ro, 0, .none⟩
def F.UPDATE_CNT_REVERT_N : Fld := ⟨0x084, 0, 32, .ro, 0, .none⟩
def F.UPDATE_CNT_ACT_IGNORED_N : Fld := ⟨0x088, 0, 32, .ro, 0, .none⟩
def F.UPDATE_CNT_POSTPONE_N : Fld := ⟨0x08C, 0, 32, .ro, 0, .none⟩

def regsUPDATE_1 : List Fld :=
  [F.UPDATE_PKG_ADDR_ADDR, F.UPDATE_STAGE_CMD_OP, F.UPDATE_UPD_STAT_STATE, F.UPDATE_UPD_STAT_RESULT, F.UPDATE_UPD_STAT_STAGED_SVN, F.UPDATE_UPD_STAT_ACTIVE_SLOT, F.UPDATE_STAGED_VER_LO_V, F.UPDATE_STAGED_VER_HI_V, F.UPDATE_ACT_EFF_LO_E, F.UPDATE_ACT_EFF_HI_E, F.UPDATE_ACT_CTRL_GO, F.UPDATE_ACT_CFG_ACT_RETRY_MAX]
def regsUPDATE_2 : List Fld :=
  [F.UPDATE_ACT_CFG_HO_BASE, F.UPDATE_MHO_CFG_MHO_BASE, F.UPDATE_EXPORT_DONE_D, F.UPDATE_READY_R, F.UPDATE_CNT_ACTIVATE_N, F.UPDATE_CNT_REVERT_N, F.UPDATE_CNT_ACT_IGNORED_N, F.UPDATE_CNT_POSTPONE_N]
/-- Every field that a page of type UPDATE defines beyond the header. -/
def regsUPDATE : List Fld :=
  regsUPDATE_1 ++ regsUPDATE_2

/-! SECURITY: spec/20_management_boot_update.md, R564. -/

def F.SECURITY_UID_UID (k : Nat) : Fld := ⟨0x040 + 0x4 * k, 0, 32, .ro, 0, .none⟩
def F.SECURITY_KEY_STAT_REVOKED : Fld := ⟨0x050, 4, 4, .ro, 0, .none⟩
def F.SECURITY_KEY_STAT_PROGRAMMED : Fld := ⟨0x050, 0, 4, .ro, 0, .none⟩
def F.SECURITY_KH_SEL_SLOT : Fld := ⟨0x054, 0, 2, .rw, 0, .a⟩
def F.SECURITY_KH_H (w : Nat) : Fld := ⟨0x058 + 0x4 * w, 0, 32, .ro, 0, .none⟩
def F.SECURITY_ROLLBACK_ROLL_AUTO : Fld := ⟨0x078, 31, 1, .rw, 1, .b⟩
def F.SECURITY_ROLLBACK_COUNT : Fld := ⟨0x078, 0, 6, .ro, 0, .none⟩
def F.SECURITY_DEBUG_FAILS : Fld := ⟨0x07C, 8, 4, .ro, 0, .none⟩
def F.SECURITY_DEBUG_UNLOCKED : Fld := ⟨0x07C, 4, 1, .ro, 0, .none⟩
def F.SECURITY_DEBUG_LOCK : Fld := ⟨0x07C, 0, 2, .ro, 0, .none⟩
def F.SECURITY_BOOT_INFO_SLOT : Fld := ⟨0x080, 31, 1, .ro, 0, .none⟩
def F.SECURITY_BOOT_INFO_VIA_HINT : Fld := ⟨0x080, 30, 1, .ro, 0, .none⟩
def F.SECURITY_BOOT_INFO_SIGNER : Fld := ⟨0x080, 28, 2, .ro, 0, .none⟩
def F.SECURITY_BOOT_INFO_SVN : Fld := ⟨0x080, 16, 8, .ro, 0, .none⟩
def F.SECURITY_BOOT_INFO_A_CAUSE : Fld := ⟨0x080, 12, 4, .ro, 0, .none⟩
def F.SECURITY_BOOT_INFO_B_CAUSE : Fld := ⟨0x080, 8, 4, .ro, 0, .none⟩
def F.SECURITY_CHAL_C (w : Nat) : Fld := ⟨0x0A0 + 0x4 * w, 0, 32, .ro, 0, .none⟩
def F.SECURITY_RESP_R (w : Nat) : Fld := ⟨0x0C0 + 0x4 * w, 0, 32, .wo, 0, .a⟩
def F.SECURITY_UNLOCK_CTRL_GO : Fld := ⟨0x140, 0, 1, .w1s, 0, .a⟩
def F.SECURITY_UNLOCK_STAT_RESULT : Fld := ⟨0x144, 0, 4, .ro, 0, .none⟩
def F.SECURITY_OTP_DATA_D (w : Nat) : Fld := ⟨0x150 + 0x4 * w, 0, 32, .wo, 0, .b⟩
def F.SECURITY_OTP_CMD_OP : Fld := ⟨0x170, 28, 4, .wo, 0, .b⟩
def F.SECURITY_OTP_CMD_SLOT : Fld := ⟨0x170, 0, 2, .wo, 0, .b⟩
def F.SECURITY_OTP_STAT_BUSY : Fld := ⟨0x174, 31, 1, .ro, 0, .none⟩
def F.SECURITY_OTP_STAT_RESULT : Fld := ⟨0x174, 0, 4, .ro, 0, .none⟩
def F.SECURITY_VFY_ADDR_SPACE : Fld := ⟨0x178, 31, 1, .rw, 0, .a⟩
def F.SECURITY_VFY_ADDR_OFFSET : Fld := ⟨0x178, 0, 21, .rw, 0, .a⟩
def F.SECURITY_VFY_CMD_KEYS : Fld := ⟨0x17C, 0, 4, .wo, 0, .a⟩
def F.SECURITY_VFY_STAT_BUSY : Fld := ⟨0x180, 31, 1, .ro, 0, .none⟩
def F.SECURITY_VFY_STAT_SIGNER : Fld := ⟨0x180, 4, 4, .ro, 0, .none⟩
def F.SECURITY_VFY_STAT_RESULT : Fld := ⟨0x180, 0, 4, .ro, 0, .none⟩

def regsSECURITY_1 : List Fld :=
  (List.range 4).flatMap fun k => [F.SECURITY_UID_UID k]
def regsSECURITY_2 : List Fld :=
  [F.SECURITY_KEY_STAT_REVOKED, F.SECURITY_KEY_STAT_PROGRAMMED, F.SECURITY_KH_SEL_SLOT]
def regsSECURITY_3 : List Fld :=
  (List.range 8).flatMap fun w => [F.SECURITY_KH_H w]
def regsSECURITY_4 : List Fld :=
  [F.SECURITY_ROLLBACK_ROLL_AUTO, F.SECURITY_ROLLBACK_COUNT, F.SECURITY_DEBUG_FAILS, F.SECURITY_DEBUG_UNLOCKED, F.SECURITY_DEBUG_LOCK, F.SECURITY_BOOT_INFO_SLOT, F.SECURITY_BOOT_INFO_VIA_HINT, F.SECURITY_BOOT_INFO_SIGNER, F.SECURITY_BOOT_INFO_SVN, F.SECURITY_BOOT_INFO_A_CAUSE, F.SECURITY_BOOT_INFO_B_CAUSE]
def regsSECURITY_5 : List Fld :=
  (List.range 8).flatMap fun w => [F.SECURITY_CHAL_C w]
def regsSECURITY_6 : List Fld :=
  (List.range 32).flatMap fun w => [F.SECURITY_RESP_R w]
def regsSECURITY_7 : List Fld :=
  [F.SECURITY_UNLOCK_CTRL_GO, F.SECURITY_UNLOCK_STAT_RESULT]
def regsSECURITY_8 : List Fld :=
  (List.range 8).flatMap fun w => [F.SECURITY_OTP_DATA_D w]
def regsSECURITY_9 : List Fld :=
  [F.SECURITY_OTP_CMD_OP, F.SECURITY_OTP_CMD_SLOT, F.SECURITY_OTP_STAT_BUSY, F.SECURITY_OTP_STAT_RESULT, F.SECURITY_VFY_ADDR_SPACE, F.SECURITY_VFY_ADDR_OFFSET, F.SECURITY_VFY_CMD_KEYS, F.SECURITY_VFY_STAT_BUSY, F.SECURITY_VFY_STAT_SIGNER, F.SECURITY_VFY_STAT_RESULT]
/-- Every field that a page of type SECURITY defines beyond the header. -/
def regsSECURITY : List Fld :=
  regsSECURITY_1 ++ regsSECURITY_2 ++ regsSECURITY_3 ++ regsSECURITY_4 ++ regsSECURITY_5 ++ regsSECURITY_6 ++ regsSECURITY_7 ++ regsSECURITY_8 ++ regsSECURITY_9

/-! ECLIPSE: spec/21_eclipse_and_diagnostics.md, R582. -/

def F.ECLIPSE_ECL_CFG_PIN_IN : Fld := ⟨0x040, 31, 1, .rw, 0, .c⟩
def F.ECLIPSE_ECL_CFG_PIN_OUT : Fld := ⟨0x040, 30, 1, .rw, 0, .c⟩
def F.ECLIPSE_ECL_CFG_SCOPE : Fld := ⟨0x040, 29, 1, .rw, 1, .c⟩
def F.ECLIPSE_ECL_CFG_AUTO_DUMP : Fld := ⟨0x040, 28, 1, .rw, 0, .c⟩
def F.ECLIPSE_ECL_CFG_EV_EN : Fld := ⟨0x040, 27, 1, .rw, 0, .c⟩
def F.ECLIPSE_ECL_CFG_EV_SRC : Fld := ⟨0x040, 16, 9, .rw, 0, .c⟩
def F.ECLIPSE_ECL_CFG_COLLECTOR : Fld := ⟨0x040, 0, 12, .rw, 0xFFF, .c⟩
def F.ECLIPSE_ECL_LATE_LATE_ECL : Fld := ⟨0x044, 0, 20, .rw, 0x3E8, .c⟩
def F.ECLIPSE_DUMP_CFG_RATE : Fld := ⟨0x048, 16, 10, .rw, 0x3E8, .a⟩
def F.ECLIPSE_DUMP_CFG_SEGS : Fld := ⟨0x048, 0, 10, .rw, 0x3FF, .a⟩
def F.ECLIPSE_ARM_T_LO_NS : Fld := ⟨0x04C, 0, 32, .rw, 0, .a⟩
def F.ECLIPSE_ARM_T_HI_NS : Fld := ⟨0x050, 0, 32, .rw, 0, .a⟩
def F.ECLIPSE_ECL_CTRL_NOW : Fld := ⟨0x054, 2, 1, .w1s, 0, .a⟩
def F.ECLIPSE_ECL_CTRL_ARM : Fld := ⟨0x054, 1, 1, .w1s, 0, .a⟩
def F.ECLIPSE_ECL_CTRL_DISARM : Fld := ⟨0x054, 0, 1, .w1s, 0, .a⟩
def F.ECLIPSE_ECL_STAT_ARMED : Fld := ⟨0x058, 31, 1, .ro, 0, .none⟩
def F.ECLIPSE_ECL_STAT_FROZEN : Fld := ⟨0x058, 30, 1, .ro, 0, .none⟩
def F.ECLIPSE_ECL_STAT_ARM_RING : Fld := ⟨0x058, 29, 1, .ro, 0, .none⟩
def F.ECLIPSE_ECL_STAT_CAUSE : Fld := ⟨0x058, 24, 4, .ro, 0, .none⟩
def F.ECLIPSE_ECL_STAT_LATE : Fld := ⟨0x058, 23, 1, .ro, 0, .none⟩
def F.ECLIPSE_ECL_STAT_REQ_ID : Fld := ⟨0x058, 0, 16, .ro, 0, .none⟩
def F.ECLIPSE_ARM_SRC_ADDR : Fld := ⟨0x05C, 0, 12, .ro, 0, .none⟩
def F.ECLIPSE_DUMP_STAT_STREAMING : Fld := ⟨0x060, 31, 1, .ro, 0, .none⟩
def F.ECLIPSE_DUMP_STAT_SEG : Fld := ⟨0x060, 24, 4, .ro, 0, .none⟩
def F.ECLIPSE_DUMP_OFS_OFFSET : Fld := ⟨0x064, 0, 28, .ro, 0, .none⟩
def F.ECLIPSE_CNT_REQ_N : Fld := ⟨0x080, 0, 32, .ro, 0, .none⟩
def F.ECLIPSE_CNT_REQ_REFUSED_N : Fld := ⟨0x084, 0, 32, .ro, 0, .none⟩
def F.ECLIPSE_CNT_REQ_STALE_N : Fld := ⟨0x088, 0, 32, .ro, 0, .none⟩
def F.ECLIPSE_CNT_REQ_IGNORED_N : Fld := ⟨0x08C, 0, 32, .ro, 0, .none⟩
def F.ECLIPSE_CNT_CLEAR_CLEAR : Fld := ⟨0x090, 0, 1, .w1s, 0, .a⟩

def regsECLIPSE_1 : List Fld :=
  [F.ECLIPSE_ECL_CFG_PIN_IN, F.ECLIPSE_ECL_CFG_PIN_OUT, F.ECLIPSE_ECL_CFG_SCOPE, F.ECLIPSE_ECL_CFG_AUTO_DUMP, F.ECLIPSE_ECL_CFG_EV_EN, F.ECLIPSE_ECL_CFG_EV_SRC, F.ECLIPSE_ECL_CFG_COLLECTOR, F.ECLIPSE_ECL_LATE_LATE_ECL, F.ECLIPSE_DUMP_CFG_RATE, F.ECLIPSE_DUMP_CFG_SEGS, F.ECLIPSE_ARM_T_LO_NS, F.ECLIPSE_ARM_T_HI_NS]
def regsECLIPSE_2 : List Fld :=
  [F.ECLIPSE_ECL_CTRL_NOW, F.ECLIPSE_ECL_CTRL_ARM, F.ECLIPSE_ECL_CTRL_DISARM, F.ECLIPSE_ECL_STAT_ARMED, F.ECLIPSE_ECL_STAT_FROZEN, F.ECLIPSE_ECL_STAT_ARM_RING, F.ECLIPSE_ECL_STAT_CAUSE, F.ECLIPSE_ECL_STAT_LATE, F.ECLIPSE_ECL_STAT_REQ_ID, F.ECLIPSE_ARM_SRC_ADDR, F.ECLIPSE_DUMP_STAT_STREAMING, F.ECLIPSE_DUMP_STAT_SEG]
def regsECLIPSE_3 : List Fld :=
  [F.ECLIPSE_DUMP_OFS_OFFSET, F.ECLIPSE_CNT_REQ_N, F.ECLIPSE_CNT_REQ_REFUSED_N, F.ECLIPSE_CNT_REQ_STALE_N, F.ECLIPSE_CNT_REQ_IGNORED_N, F.ECLIPSE_CNT_CLEAR_CLEAR]
/-- Every field that a page of type ECLIPSE defines beyond the header. -/
def regsECLIPSE : List Fld :=
  regsECLIPSE_1 ++ regsECLIPSE_2 ++ regsECLIPSE_3

end Sys2Proof.Machine
end

