-- ==== Sys2Proof/Machine/State.lean ====
section
/-!
DEFINITION. The whole state of the hub as plain data, the stop reasons, and the state right after a cold reset.
Register fields live in `regs`; everything else the spec gives a block (queues, timers, tables, sequencers) has a typed
record of its own. `pending` is the queue of commands that wait.
-/

namespace Sys2Proof.Machine

/-- Node control (03_node_states.md): what the NODE page's registers do not hold themselves. -/
structure NodeSt where
  /-- rails good (R588, R50): false is SHELF -/
  rails      : Bool := true
  /-- RST_N held low (R588) -/
  rstLow     : Bool := false
  /-- a cold or warm reset is asserted and the boot ROM has not started (R20, R544) -/
  inReset    : Bool := false
  /-- target of an accepted STATE_REQ that waits for its tick instant (R53, R54) -/
  pendTarget : Option Nat := none
  /-- pages armed by LOCK_KEY: (page, initiator, tick instants left) (R46) -/
  keyArms    : List (Nat × Nat × Nat) := []
  /-- class B fields are locked (R42) -/
  lockedB    : Bool := false
  /-- the boot ROM still runs: RESET_VEC is open to the management core (R512) -/
  romRuns    : Bool := true
  /-- a warm reset has been requested; RESET_CAUSE sources merged (R27) -/
  resetReq   : List Nat := []
  /-- the reset in progress, or the last one, is warm -/
  warm       : Bool := false
  /-- a warm reset waits for TRACKRAM or a last-gasp write (R25, R26) -/
  resetWait  : Bool := false
  /-- gateway warm resets deferred under R69: their sources -/
  gwReset    : List Nat := []
  /-- ring time at which it was deferred -/
  gwSince    : Nat := 0
  /-- the boot ROM found the AO contents lost (R23, R137) -/
  aoLost     : Bool := false
  /-- corrected ECC errors outside the cell pool (R12; the spec names no register for them) -/
  eccCorr    : Nat := 0
  /-- a requested ISOLATE record is being written (R59) -/
  isoRecord  : Bool := false
  /-- elapsed time, ns, at entry to ISOLATE (R59) -/
  isoSince   : Nat := 0
  /-- ring time at entry to JOIN (R56) -/
  joinSince  : Nat := 0
  /-- a ring lane has come up since JOIN was entered (R56) -/
  laneSeen   : Bool := false
  /-- the boot ROM started firmware from a verified image (R51, transition 3) -/
  imageOk    : Bool := false
  /-- consecutive ticks without SUPERVISION from any former neighbour (R58, CUT_OFF) -/
  supMiss    : Nat := 0
  deriving DecidableEq, Repr

/-- The stitch link (R6 to R9). -/
structure StitchSt where
  /-- next 16-bit sequence number of each direction: to the field die, from it -/
  seqOut   : Nat := 0
  seqIn    : Nat := 0
  /-- the last 32 flits sent in each direction, newest first: (sequence, first byte of the flit) -/
  storeOut : List (Nat × List Nat) := []
  storeIn  : List (Nat × List Nat) := []
  /-- consecutive failed replays of each flit held for replay, key direction * 65536 + sequence number -/
  replays  : Tbl Nat := []
  /-- link down until the next warm reset (R7), and whether the dead direction is the one to the field die -/
  down     : Bool := false
  outDead  : Bool := false
  /-- elapsed time, ns, at the last valid flit at the field die (R8) -/
  lastFlit : Nat := 0
  /-- the field-die watchdog has expired since its last valid flit (R8) -/
  wdtFired : Bool := false
  /-- accesses to field-die pages in flight: (initiator, page, offset, write value) (R9) -/
  access   : List (Nat × Nat × Nat × Option Nat) := []
  /-- the last read completed for an initiator: (initiator, value) -/
  readBack : Tbl Nat := []
  /-- atomics of field cores on field-die pages, each on its way: (core, address, bytes, kind, operand) (R9, R19) -/
  amos     : List (Nat × Nat × Nat × Nat × Nat) := []
  deriving DecidableEq, Repr

/-- A command carried by TICK, and the slot that carries it (R85, R105). -/
structure TickCmd where
  code : Nat := 0
  eff  : Nat := 0
  arg  : Nat := 0
  slot : Nat := 0
  deriving DecidableEq, Repr

/-- What the source of one ring keeps (R94, R95, R104). -/
structure SrcSt where
  orig   : Bool := false
  epoch  : Nat := 0
  prio   : Nat := 0
  asym   : Int := 0
  closed : Bool := false
  /-- the last 64 closure errors of COPY 0 and COPY 1 and the latencies of the same closures, 2^-16 ns, newest first -/
  cE     : List Int := []
  cW     : List Int := []
  latE   : List Int := []
  latW   : List Int := []
  /-- L0 as R107 takes it, ns: the mean of the closures returned so far, and before the first one a value that covers any ring -/
  l0     : Nat := 1000000
  /-- tick numbers of the newest returned copy of each side -/
  backE  : Option Nat := none
  backW  : Option Nat := none
  deriving DecidableEq, Repr

/-- The probe exchange of one lane (R89, R90). -/
structure ProbeSt where
  num    : Nat := 0
  /-- send stamp of the outstanding probe, 1/16 ns -/
  t1     : Option Nat := none
  fails  : Nat := 0
  valids : Nat := 0
  usable : Bool := false
  /-- the last 7 valid delays, 1/16 ns, newest first -/
  ds     : List Int := []
  deriving DecidableEq, Repr

/-- One accepted TICK copy that is not combined yet: tick number, side (0 E, 1 W), HOPS, offset in 2^-16 ns. -/
structure TickCopy where
  n    : Nat
  side : Nat
  hops : Nat
  off  : Int
  deriving DecidableEq, Repr

/-- The time base (04_tick_and_ring_time.md). -/
structure TimeSt where
  /-- ring time reached, ns, and the count of ring time itself, 2^-32 ns: the sum of the increments (R76) -/
  now      : Nat := 0
  count    : Nat := 0
  /-- the increment per TIMEBASE cycle, 2^-32 ns (R76) -/
  incr     : Nat := 0x200000000
  /-- the number of the current tick and its instant T(n) (R78) -/
  tick     : Nat := 0
  tStart   : Nat := 0
  /-- tick instants since the reset, and where elapsed time starts on the ring-time scale in force: a step of ring time moves
  neither what has elapsed nor what waits for it -/
  ticks    : Nat := 0
  base     : Int := 0
  /-- the instant of the tick before -/
  tPrev    : Nat := 0
  /-- tick lengths in force: (first tick, ns), newest first (R78, R96) -/
  lens     : List (Nat × Nat) := []
  /-- the servo's integral term y, as a fraction (R92) -/
  integ    : Rat := 0
  /-- INCR of the last 64 ticks, newest first (R97) -/
  incrs    : List Nat := []
  inBand   : Nat := 0
  outBand  : Nat := 0
  discards : Nat := 0
  copies   : List TickCopy := []
  /-- the last 64 tick numbers combined, and accepted from either side (R91, R96) -/
  combs    : List Nat := []
  gots     : List Nat := []
  /-- the next tick whose miss deadline has not passed (R96) -/
  missNext : Nat := 0
  /-- INCR for the following tick (R92) -/
  incrNext : Option Nat := none
  /-- instant of tick 0, which a first Zenith has set and not reached (R79) -/
  start    : Option Nat := none
  /-- how many sides the last combination used (R67) -/
  sides    : Nat := 0
  /-- the last 8 latencies of each side, ns, newest first (R96) -/
  latE     : List Int := []
  latW     : List Int := []
  lastE    : Option Nat := none
  lastW    : Option Nat := none
  lRef     : Int := 0
  /-- ring time of holdover entry; the tick that ended the last holdover, and what OUTLIER is raised by for it, ns (R97) -/
  holdFrom : Nat := 0
  exitTick : Nat := 0
  exitMore : Nat := 0
  /-- the first TICK has been accepted, so ring time is no longer stepped (R93) -/
  stepped  : Bool := false
  /-- commands received or issued and not yet applied, in slot order (R108) -/
  cmds     : List TickCmd := []
  /-- commands already stored once: repeats of them are ignored (R108) -/
  known    : List TickCmd := []
  /-- the four command slots of the TICK this node carries or last accepted (R105) -/
  slots    : List TickCmd := []
  src      : SrcSt := {}
  /-- the source state of ring k at a gateway (R104) -/
  srcK     : SrcSt := {}
  /-- a source with precedence has been accepted: stop originating at the next tick instant (R101), on ring 0 and on ring k -/
  yield    : Bool := false
  yieldK   : Bool := false
  /-- the ring-k source that a gateway follows as a standby: (EPOCH, PRIO, address), and its missed ticks (R104) -/
  folK     : Option (Nat × Nat × Nat) := none
  missK    : Nat := 0
  gotK     : Bool := false
  /-- the node listens for TICK in JOIN (R99) -/
  listen   : Bool := false
  /-- ring-0 closure latency that the last accepted TICK carried, µs (R85) -/
  lat0     : Nat := 0
  /-- closure latency reported for rings 1 to 3, ns (R107) -/
  ringLat  : Tbl Nat := []
  /-- the commit point of the current tick has passed, and it was clean (R37, R83) -/
  pastC    : Bool := false
  clean    : Bool := false
  /-- a line state has been received since reset (R63) -/
  lineSeen : Bool := false
  /-- the last CMD_LEAD inputs: L0 known from returned TICK frames -/
  probes   : Tbl ProbeSt := []
  extLock  : Bool := false
  deriving DecidableEq, Repr

/-- A frame whose head has been received on a lane and whose end has not (R128 to R134): storage number, whether Halo has it as
pending or holds it, whether it crosses at this gateway, and whether admission refused it everywhere (R159). -/
structure RxFrame where
  frame : Frame
  id    : Nat
  pend  : Bool
  held  : Bool
  cross : Bool
  refused : Bool := false
  /-- a queue took it at its head -/
  took  : Bool := false
  /-- only its end is judged: it goes on by a command of its own, or not at all -/
  only : Bool := false
  deriving DecidableEq, Repr

/-- A frame that has left on the ring or on Ethernet: its port, the frame as sent, and whether its end was stomped (R130). -/
structure Sent where
  port  : Nat
  frame : Frame
  stomp : Bool := false
  deriving DecidableEq, Repr

/-- A TUNNEL_ETH frame that a lane has accepted for this node and that still awaits the tunnel mapping (R428): storage number, the
frame, whether its sequence is pending, whether a queue took it or admission refused it everywhere so far, whether it has passed
step 6. -/
structure TunRx where
  id      : Nat
  frame   : Frame
  pend    : Bool
  took    : Bool
  refused : Bool
  ended   : Bool
  deriving DecidableEq, Repr

/-- One lane beyond its registers (05_ring_links_and_frames.md). -/
structure LaneSt where
  /-- a valid HELLO has been received on the lane since it left SIGNAL (R114) -/
  heard     : Bool := false
  /-- when the lane left UP in the last 10 s, as elapsed time (R117) -/
  downs     : List Nat := []
  /-- consecutive windows above 200 ppm and below 140 ppm (R116) -/
  overWins  : Nat := 0
  underWins : Nat := 0
  /-- the offset of the last window was above 200 ppm -/
  over200   : Bool := false
  /-- NO_SIGNAL already reported in this stay in SIGNAL (R114) -/
  noSigSaid : Bool := false
  /-- frames failed on CRC in the current 1 s window (R118) -/
  crcWin    : Nat := 0
  /-- a NEIGHBOUR arrived in the current tick (R138) -/
  nbrHere   : Bool := false
  /-- incarnation of the neighbour, from HELLO or NEIGHBOUR -/
  nbrInc    : Nat := 0
  /-- the neighbour's RING_SIZE, 0 unknown (R142) -/
  nbrSize   : Nat := 0
  /-- position offered by the last HELLO or NEIGHBOUR with a valid address (R142) -/
  offerPos  : Option Nat := none
  /-- CRC_ERR since the last STATUS (R126) -/
  crcStatus : Nat := 0
  /-- address of the neighbour that NBR_PRESENT is about, 0xFFF unknown (R138) -/
  nbrWas    : Nat := 0xFFF
  /-- a SUPERVISION frame of the neighbour arrived in the current tick, over any lane (R58) -/
  supHere   : Bool := false
  /-- the node had this neighbour at the start of the current run of missed ticks (R58) -/
  hadNbr    : Bool := false
  /-- the lane has been UP since reset (R138, LINK_UP) -/
  wasUp     : Bool := false
  /-- lanes UP that the last NEIGHBOUR reported: bit 0 E to bit 3 S1 -/
  nbrUp     : Nat := 0
  /-- the frame in reception, and the storage numbers of a TUNNEL_ETH frame and of a Tap copy (R497) in reception -/
  rx        : Option RxFrame := none
  tun       : Option TunRx := none
  tap       : Option Nat := none
  deriving DecidableEq, Repr

/-- A frame held behind a pending sequence (R134): lane it came on, its frame, whether it passed step 6. -/
structure HeldFrame where
  lane   : Nat
  frame  : Frame
  passed : Bool
  deriving DecidableEq, Repr

/-- A Halo entry (R133): base, 64-bit map, pending sequences, frames held behind them, when it was last touched. -/
structure HaloEnt where
  valid : Bool := false
  base  : Nat := 0
  map   : Nat := 0
  pend  : List Nat := []
  held  : List HeldFrame := []
  touch : Nat := 0
  deriving DecidableEq, Repr

/-- Halo, the ring map and the join (R131 to R143). -/
structure HaloSt where
  ents     : Tbl HaloEnt := []
  /-- stored incarnation of each source plus 1; 0 none (R136) -/
  incs     : Tbl Nat := []
  /-- originator SEQ counters of ring 0: groups 0 and 1 (R131); and of ring k at a gateway -/
  seq      : Nat × Nat := (0, 0)
  seqK     : Nat × Nat := (0, 0)
  /-- own ring's links reported down: (west end, east end) (R139) -/
  breaks   : List (Nat × Nat) := []
  /-- CHANGE notices still to be repeated at tick instants: (payload words, repeats left) (R138) -/
  repeats  : List (List Nat × Nat) := []
  /-- ring time of the node's own ANNOUNCE (R137) -/
  announcedAt : Nat := 0
  /-- the same of its ANNOUNCE on ring k at a gateway, and the wait after it is over -/
  announcedAtK : Nat := 0
  holdK    : Bool := false
  /-- the address has been withdrawn: no Halo-checked frame is originated (R143) -/
  withdrawn : Bool := false
  /-- tick of the last STATUS (R140) -/
  statusAt : Nat := 0
  deriving DecidableEq, Repr

/-- A frame in a switch queue (06_switch_core.md): storage number, cells, whether it may leave, ingress port. -/
structure SwEntry where
  id     : Nat
  frame  : Frame
  cells  : Nat
  ready  : Bool
  ingress : Nat
  cut    : Bool := false
  /-- FCS-relevant length in bytes of an Ethernet frame; 0 for a ring frame -/
  ethLen : Nat := 0
  /-- stamp from which a TICK's CORR still grows to its departure, 1/16 ns (R86) -/
  stamp  : Option Nat := none
  /-- the close of its class as it stood at its start, in GUARD_MODE 0 (R168, R170) -/
  close  : Option Nat := none
  deriving DecidableEq, Repr

/-- A frame that an internal port offers and the switch has not admitted yet (R158, R161). -/
structure Offer where
  port  : Nat
  frame : Frame
  /-- hop budgets of the two copies (R127) -/
  reachE : Nat := 0x3FF
  reachW : Nat := 0x3FF
  /-- through S0 and S1 of a gateway, on ring k -/
  ringK  : Bool := false
  /-- counted as back-pressured (R158) -/
  waited : Bool := false
  /-- admission has judged it and refused it, and that has been counted (R157) -/
  judged : Bool := false
  /-- a TICK's stamp, from which its CORR grows (R86) -/
  stamp  : Option Nat := none
  deriving DecidableEq, Repr

/-- The shaper of one class of a port (R172, R173): credit in 10^-6 bit, ring time of its last update, the parameters in
force, and a write that waits for the latch. -/
structure ShapeSt where
  credit : Int := 0
  last   : Nat := 0
  idle   : Nat := 0
  hi     : Nat := 16704
  lo     : Nat := 16704
  wait   : Bool := false
  /-- the gate of its class is open since the last update -/
  openG  : Bool := true
  deriving DecidableEq, Repr

/-- A meter (R174): credit in 10^-6 bit and ring time of its last update. DESIGN CHOICE (log 98): at reset it holds a full burst, that
of METER_BURST's reset value. -/
structure MeterSt where
  credit : Int := 131072000000
  last   : Nat := 0
  deriving DecidableEq, Repr

/-- The switch core and the cell pool (06_switch_core.md). -/
structure SwitchSt where
  nextId  : Nat := 0
  /-- output queue 8p + c: frames, oldest first -/
  queues  : Tbl (List SwEntry) := []
  /-- frame stored once: number of queues that still hold it, and its cells (R155) -/
  store   : Tbl (Nat × Nat) := []
  /-- cells taken from the pool, and cells each of the 1,024 queues is charged with -/
  used    : Nat := 0
  occ     : Tbl Nat := []
  offers  : List Offer := []
  /-- frame in transmission at a port: the entry, its class, ring time of its start -/
  sending : Tbl (Option (SwEntry × Nat × Nat)) := []
  shapers : Tbl ShapeSt := []
  meters  : Tbl MeterSt := []
  /-- Squall counts of ETH port m in the current interval: ingress, egress (R175) -/
  squall  : Tbl (Nat × Nat) := []
  /-- ring time at which its next interval begins, and whether it has dropped a frame in the current one (R175) -/
  sqNext  : Tbl Nat := []
  sqSaid  : Tbl Bool := []
  deriving DecidableEq, Repr


/-- One buffer of a subscription entry (R192). -/
structure ImgBuf where
  tick  : Nat := 0
  chSeq : Nat := 0
  src   : Nat := 0
  chan  : Nat := 0
  rx    : Nat := 0
  data  : List Nat := []
  deriving DecidableEq, Repr

/-- A subscription entry beyond its registers: front and back buffers, whether a frame of this tick was accepted, and the
stale swaps of a mirror entry since the last refresh (R192, R194, R201). -/
structure SubEnt where
  front : ImgBuf := {}
  back  : ImgBuf := {}
  fresh : Bool := false
  staleSwaps : Nat := 0
  lost  : Bool := false
  deriving DecidableEq, Repr

/-- Publication and subscription (07_cyclic_publication.md). -/
structure PubSt where
  /-- channels taken at this tick instant and not offered yet, with their payload (R186, R189) -/
  taken  : List (Nat × List Nat) := []
  /-- READY bits set after the commit point of the current tick (R186) -/
  late   : Nat := 0
  /-- transmit buffers by channel (R186) -/
  bufs   : Tbl (List Nat) := []
  /-- frames sent by channel since reset -/
  chSeq  : Tbl Nat := []
  /-- captured edges of field inputs since the last tick instant, oldest first: (channel, level, ring time) (R198) -/
  edges  : List (Nat × Bool × Nat) := []
  subs   : Tbl SubEnt := []
  deriving DecidableEq, Repr

/-- An outstanding transaction of this node (R211, R219). `bytes` is the request payload. -/
structure TagSt where
  init    : Nat
  dst     : Nat
  op      : Nat
  off     : Nat
  len     : Nat
  ord     : Nat
  bytes   : List Nat
  /-- tick of the first send, none while it waits for the target's incarnation (R222) or for a window of ORD (R217) -/
  first   : Option Nat
  last    : Nat
  isNew   : Bool
  evf     : Bool := false
  /-- the RD32 of offset 0 that fetches an incarnation (R222) -/
  fetch   : Bool := false
  /-- export entry plus 1, 0 none (R521) -/
  exp     : Nat := 0
  /-- transfer descriptor: channel plus 1 and ring index; 0 none (R234) -/
  xfer    : Nat × Nat := (0, 0)
  deriving DecidableEq, Repr

/-- A read-holding slot (R214, R215). -/
structure HoldSlot where
  init  : Nat
  addr  : Nat
  size  : Nat
  op    : Nat
  /-- the tag that it waits for, and the offset of its bytes in the data that the tag fetches -/
  tag   : Nat
  skip  : Nat := 0
  /-- data and status once they have arrived, and the tick of arrival -/
  data  : Option (List Nat × Nat) := none
  since : Nat := 0
  deriving DecidableEq, Repr

/-- An entry of the orphan read log (R215). -/
structure OrphEnt where
  addr : Nat
  init : Nat
  op   : Nat
  data : Nat
  time : Nat
  deriving DecidableEq, Repr

/-- An inbound request of a stream (R218): its ORD, OP, OFFSET, LEN, payload, TGT_INC, TAG. -/
structure InReq where
  src    : Nat
  init   : Nat
  tag    : Nat
  ord    : Nat
  op     : Nat
  off    : Nat
  len    : Nat
  bytes  : List Nat
  tgtInc : Option Nat
  isNew  : Bool
  retry  : Bool
  /-- its read meets an uncorrectable ECC error; the cells that it lies in (R218, R225) -/
  ecc    : Bool := false
  cells  : Nat := 0
  deriving DecidableEq, Repr

/-- A stream slot of the target (R220): identity, next expected ORD once NEW has come, held requests, and the last 64
completions, newest first, as (ORD, STATUS, data). -/
structure StreamSlot where
  src    : Nat
  inc    : Nat
  init   : Nat
  next   : Option Nat
  held   : List InReq
  cache  : List (Nat × Nat × List Nat)
  touch  : Nat
  deriving DecidableEq, Repr

/-- A transfer descriptor in flight (R234, R235): ring index, its fields, offset of the next piece to start, pieces in flight,
pieces read and not written yet (offset, bytes), bytes completed, first status other than OK. -/
structure XferDesc where
  idx    : Nat
  op     : Nat
  irq    : Bool
  evt    : Bool
  k      : Nat
  value  : Nat
  src    : Nat
  dst    : Nat
  len    : Nat
  next   : Nat := 0
  out    : Nat := 0
  got    : List (Nat × List Nat) := []
  /-- the access to a field-die page that the engine holds has crossed the stitch link (R9) -/
  crossed : Bool := false
  /-- the descriptor's own fetch or write-back has met an uncorrectable ECC error (R235) -/
  ownEcc : Bool := false
  done   : Nat := 0
  status : Nat := 0
  deriving DecidableEq, Repr

/-- The transaction engine, the gateway and the transfer engine (08_transactions_and_bridging.md). -/
structure TxnSt where
  /-- outstanding transactions by tag, 0 to 511 -/
  tags     : Tbl (Option TagSt) := []
  /-- next ORD of the stream (INIT, destination), key init * 4096 + dst -/
  ords     : Tbl Nat := []
  slots    : Tbl (Option HoldSlot) := []
  orphans  : List OrphEnt := []
  streams  : Tbl (Option StreamSlot) := []
  /-- results delivered to initiators, newest first: (INIT, address, STATUS, data) (R212, R213) -/
  results  : List (Nat × Nat × Nat × List Nat) := []
  /-- crossing counters per source and group, key src * 2 + group; and highest numbers tracked while inactive (R230) -/
  cross    : Tbl Nat := []
  track    : Tbl (Option Nat) := []
  /-- tick at which FAILOVER began (R232) -/
  failTick : Nat := 0
  descs    : Tbl (List XferDesc) := []
  deriving DecidableEq, Repr


/-- An item of a queue (R243): its header bytes (OFFSET of them) and data, cells, and how far it has been delivered and
released. Cells `lo … fin-1` are not released; a POP delivers cell `pos`; `held` is the first cell the mark holds. -/
structure QItem where
  /-- arrival number; also the serial number of the first cell -/
  arr      : Nat
  prio     : Nat
  src      : Nat
  tag      : Nat
  info     : Nat
  mayDup   : Bool
  head     : List Nat
  data     : List Nat
  n        : Nat
  lo       : Nat := 0
  pos      : Nat := 0
  fin      : Nat
  held     : Option Nat := none
  consumed : Bool := false
  /-- a message of a receiving session -/
  ses      : Bool := false
  deriving DecidableEq, Repr

/-- A queue (R243 to R248): items by arrival, the current item, the cell delivered last, the mark as (item, cell) with item 0
for the end of the queue, and the item that R248 makes the next. -/
structure QSt where
  items    : List QItem := []
  cur      : Option Nat := none
  last     : Option (Nat × Nat) := none
  mark     : Option (Nat × Nat) := none
  lost     : Bool := false
  first    : Option Nat := none
  deriving DecidableEq, Repr

/-- What a sending session keeps beside its registers (R252 to R257): retained messages by MSEQ, whether it holds a RINC,
the tick at which its RTO next expires and the tick of its last valid ACK. -/
structure TxSes where
  ret     : List (Nat × List Nat) := []
  hasRinc : Bool := false
  rtoDue  : Nat := 0
  /-- MSEQ of the next message that has never been sent -/
  unsent  : Nat := 0
  ackTick : Nat := 0
  deriving DecidableEq, Repr

/-- What a receiving session keeps beside its registers (R258 to R260): whether it holds a SINC, whether it has taken a MSG or
probe, tick of the last ACK, an ACK that is due with the tick it became due in, RX_NEXT and CONS_THRU in the last ACK, and
the tick at which the FRESH ACK is due. -/
structure RxSes where
  hasSinc  : Bool := false
  taken    : Bool := false
  ackTick  : Option Nat := none
  due      : Option Nat := none
  ackNext  : Nat := 0
  ackCons  : Nat := 0
  freshDue : Nat := 0
  deriving DecidableEq, Repr

/-- Queues 112 to 1,023 and the sessions (09_queues_and_sessions.md). -/
structure SesSt where
  qs      : Tbl QSt := []
  /-- next arrival number, from 1 -/
  next    : Nat := 1
  tx      : Tbl TxSes := []
  rx      : Tbl RxSes := []
  /-- last gasp has begun since the last reset (R261) -/
  frozen  : Bool := false
  /-- session frames to the node's own address, not judged yet (R263) -/
  loop    : List Frame := []
  deriving DecidableEq, Repr


/-- A track sample in use (R285): its tick, T of that tick in ns, position µm, velocity, acceleration, flag byte, rank, GEN and
publishing node. -/
structure TrkSample where
  tick : Nat
  t0   : Nat
  p    : Int
  v    : Int
  a    : Int
  flags : Nat
  rank : Nat
  gen  : Nat
  src  : Nat
  deriving DecidableEq, Repr

/-- A source's continuity record (R284), with the encoder that it counts. -/
structure TrkCont where
  enc   : Nat
  track : Nat
  scale : Nat
  gen   : Nat
  delta : Int
  r     : Int
  c     : Nat
  tick  : Nat
  deriving DecidableEq, Repr

/-- A track slot beyond its registers (10_tracks_and_position.md). Positions are in 2^-16 µm, stamps in 0.5 ns. -/
structure TrackSt where
  /-- raw position r(n) and the count c(n) it belongs to; false until the source's first tick instant -/
  init   : Bool := false
  r      : Int := 0
  c      : Nat := 0
  delta  : Int := 0
  /-- counted edges of the velocity window, newest first: (stamp, signed count) -/
  edges  : List (Nat × Int) := []
  /-- last counted edge: stamp and direction -/
  last   : Option (Nat × Int) := none
  /-- v(n) of the last ticks, newest first, µm/s -/
  vs     : List Int := []
  /-- last 16 offsets against the active source, and the tick of the last one -/
  recs   : List Int := []
  recTick : Nat := 0
  /-- a valid sample of this tick has been accepted from an ACTIVE source; the last one taken carried VALID = 0 -/
  heard  : Bool := false
  invalid : Bool := false
  /-- the node whose valid sample was accepted last: the active source (R280) -/
  actSrc : Option Nat := none
  /-- the slot has been a source at a tick instant since the reset (R292) -/
  ran    : Bool := false
  /-- the line state at the last tick instant (R290) -/
  line   : Nat := 0
  /-- the slot was ACTIVE before it entered FAULT -/
  wasActive : Bool := false
  /-- becomes ACTIVE, or STANDBY, at the next tick instant -/
  toActive : Bool := false
  toStandby : Bool := false
  gen    : Nat := 0
  /-- COUNT_ERR of the next sample -/
  cerr   : Bool := false
  /-- flags and STEP of the sample of this tick (R283) -/
  disc   : Bool := false
  initF  : Bool := false
  step   : Int := 0
  /-- p(n) in 2^-16 µm and a(n), STILL of the sample of this tick -/
  pos    : Int := 0
  vel    : Int := 0
  acc    : Int := 0
  still  : Bool := false
  /-- position at which HALT took effect -/
  halt   : Option Int := none
  cont   : Option TrkCont := none
  /-- the slot restarted from a valid continuity record, or has been ACTIVE since -/
  restored : Bool := false
  smp    : Option TrkSample := none
  deriving DecidableEq, Repr

/-- A Drift request that waits for its answer (R304): the item, the store slot it concerns (16,384 where the copy has been freed),
SUBTYPE, destination, action and result of a RESULT, the former mirror holder that a COMMIT's DONE releases (R305, step 5; 0xFFF
none), and the ticks of the first and the last sending. -/
structure DriftReq where
  id    : Nat
  slot  : Nat
  sub   : Nat
  dst   : Nat
  track : Nat
  ver   : Nat
  act   : Nat := 0
  res   : Nat := 0
  prev  : Nat := 0xFFF
  first : Nat
  last  : Nat
  deriving DecidableEq, Repr

/-- What the Drift engine keeps for a store slot beside the record: nodes to which a handoff of this record failed (R305),
the tick of the last OFFER of a PENDING copy (R308), armed edge entries by action (R317), the initiator whose induction waits
(R303), the report's reason, ring time and record of step 1 (R316), and nodes whose absence is still to be judged for the record
(R310). -/
structure DriftSlot where
  skip   : List Nat := []
  pend   : Nat := 0
  edges  : List (Nat × Nat) := []
  ini    : Option Nat := none
  report : Option (Nat × Nat × List Nat) := none
  lost   : List Nat := []
  deriving DecidableEq, Repr

/-- An armed action whose copy of the item has been freed (R317): item, action, pool entry, and what the copy said of the item. -/
structure LeftAct where
  id    : Nat
  act   : Nat
  entry : Nat
  track : Nat
  owner : Nat
  ver   : Nat
  deriving DecidableEq, Repr

/-- Drift (11_item_tracking.md): the item store as records of 32 words, and the engine. -/
structure DriftSt where
  recs    : Tbl (List Nat) := []
  slots   : Tbl DriftSlot := []
  reqs    : List DriftReq := []
  /-- nodes that refused an OFFER with STATE: tick of the refusal plus 1 (R300) -/
  refused : Tbl Nat := []
  /-- resynchronisation runs, and the tick at which its queries were sent (R314) -/
  resync  : Bool := false
  queried : Option Nat := none
  /-- armed actions of copies that have been freed (R317) -/
  left    : List LeftAct := []
  deriving DecidableEq, Repr


/-- An entry of the edge scheduler (R325): target, policy, last completion. -/
structure EdgeEnt where
  /-- CONFIGURED and not yet released -/
  used     : Bool := false
  /-- RELEASE has been commanded: FREE when the last edge completes (R327) -/
  leaving  : Bool := false
  kind     : Nat := 0
  safe     : Nat := 0
  lateFire : Bool := false
  onLost   : Bool := false
  irq      : Bool := false
  unit     : Nat := 0
  sub      : Nat := 0
  last     : Nat := 0
  lastNs   : Nat := 0
  deriving DecidableEq, Repr

/-- States of a pending edge (R330). -/
inductive EdgeSt where
  | waiting | converted | held | committed
  deriving DecidableEq, Repr

/-- A pending edge (R325). Instants are in units of 0.5 ns. -/
structure PendEdge where
  /-- arm order -/
  seq     : Nat
  entry   : Nat
  /-- position operation -/
  pos     : Bool
  slot    : Nat
  /-- trigger: 0.5 ns units of ring time, or µm -/
  trig    : Int
  level   : Bool
  op      : Nat
  dur     : Nat
  durPos  : Bool
  st      : EdgeSt
  /-- solved instant; none while unreachable -/
  inst    : Option Nat
  /-- at its commit instant it found no comparator or command place (R331) -/
  starved : Bool := false
  /-- it is placed late: completes LATE_FIRED (R332) -/
  late    : Bool := false
  /-- the first edge has completed: this is the return edge of a PULSE (R336) -/
  isReturn : Bool := false
  /-- placed instant of the first edge, 0.5 ns -/
  placed  : Nat := 0
  /-- trigger of a position return edge, µm (R336) -/
  rtrig   : Int := 0
  /-- Drift action: ITEM_ID and action index -/
  action  : Option (Nat × Nat) := none
  deriving DecidableEq, Repr

/-- A field-die edge command in flight or held at the field die (R333): target kind 1 or 3, unit, arm number of its edge,
action instant and deadline in 0.5 ns, and whether it has arrived. -/
structure FieldCmd where
  kind  : Nat
  unit  : Nat
  seq   : Nat
  act   : Nat
  dead  : Nat
  here  : Bool
  deriving DecidableEq, Repr

/-- The edge scheduler. -/
structure EdgeSched where
  ents   : Tbl EdgeEnt := []
  edges  : List PendEdge := []
  /-- the resolution step of each target in which an edge was last applied: (kind, unit and sub, step, COLLIDE counted) (R339) -/
  step   : List (Nat × Nat × Nat × Bool) := []
  nextSeq : Nat := 0
  cmds   : List FieldCmd := []
  /-- completions of Drift actions not yet taken by the Drift engine: (ITEM_ID, action, result) (R317, R341) -/
  results : List (Nat × Nat × Nat) := []
  /-- slots for which HELD has been raised since they entered LOST (R334) -/
  heldSaid : List Nat := []
  deriving DecidableEq, Repr

/-- A capture record (R345). -/
structure CapRec where
  unit   : Nat
  level  : Bool
  posValid : Bool
  coarse : Bool
  tstate : Nat
  frac   : Nat
  time   : Nat
  tick   : Nat
  pos    : Int
  track  : Nat
  vel    : Int
  deriving DecidableEq, Repr

/-- A capture unit: open cell, its first tick, edges since the last tick instant. -/
structure CapUnit where
  cell   : List CapRec := []
  first  : Nat := 0
  edges  : Nat := 0
  deriving DecidableEq, Repr


/-- A field channel beyond its registers (R355, R359, R361, R364). -/
structure FieldCh where
  /-- comparator level now -/
  comp    : Bool := false
  /-- level at entry to the safe state -/
  entry   : Bool := false
  /-- the HOLD time has run out -/
  holdEnd : Bool := false
  /-- OFF applies whatever SAFE holds (entry to DAWN) -/
  forceOff : Bool := false
  /-- in safe state because of a stale mirror (R366) -/
  mirror  : Bool := false
  /-- level driven by the wake-up pulse -/
  wakeLvl : Bool := false
  /-- IOL_TX, IOL_EN, IOL_WU as they reach the field die (R358) -/
  tx      : Bool := false
  en      : Bool := false
  wu      : Bool := false
  /-- the OVERLOAD timer runs -/
  ovl     : Bool := false
  deriving DecidableEq, Repr

/-- An encoder receiver's line levels (R367). -/
structure EncCh where
  a : Bool := false
  b : Bool := false
  z : Bool := false
  deriving DecidableEq, Repr

/-- The field die beyond its registers (13_field_io.md). -/
structure FieldSt where
  chans   : Tbl FieldCh := []
  encs    : Tbl EncCh := []
  /-- ADC FIFO, oldest first: (input, value) -/
  fifo    : List (Nat × Nat) := []
  /-- events of the FDIE page that wait for the stitch link (R379) -/
  waitEv  : List Nat := []
  /-- levels of the encoder lines as they reach the logic die (R343, R367): bit 3e + j -/
  encIn   : Nat := 0
  /-- rounds, codes and values that the next results will be the mean of, by input (R372) -/
  means   : Tbl (Nat × Nat × Int) := []
  deriving DecidableEq, Repr


/-- A frame of a transmit mailbox with its control bits (R383, R405). -/
structure MbFrame where
  ide  : Bool := false
  rtr  : Bool := false
  id   : Nat := 0
  fmt  : Nat := 0
  brs  : Bool := false
  dptr : Bool := false
  len  : Nat := 0
  sdt  : Nat := 0
  vcid : Nat := 0
  sec  : Bool := false
  af   : Nat := 0
  ofs  : Nat := 0
  data : List Nat := []
  retryMax : Nat := 15
  retryArb : Bool := false
  sched    : Bool := false
  winAbort : Bool := false
  fb   : Bool := false
  irq  : Bool := false
  txc  : Bool := false
  deriving DecidableEq, Repr

/-- States of a mailbox (R405). -/
inductive MbSt where
  | empty | ready | armed | active | complete
  deriving DecidableEq, Repr

/-- A transmit mailbox (R383 to R391). -/
structure Mailbox where
  f       : MbFrame := {}
  st      : MbSt := .empty
  result  : Nat := 0
  late    : Bool := false
  waitBo  : Bool := false
  retries : Nat := 0
  movedCh : Nat := 0
  movedMb : Nat := 0
  stamp   : Nat := 0
  deriving DecidableEq, Repr

/-- A CAN channel beyond its registers (14_can_controllers.md): mailboxes; the attempt in progress (a mailbox, or none for
the tunnel head), the tunnel item that it holds, the stamp of its SOF, the ESI bit that it sends and whether a late cancel reached
it; the RX edge of the SOF of a frame in reception; bus integration done; the last 8 loop delays; failed attempts of tunnel items,
by arrival; and the EXCLUSIVE window (tick, window) whose one attempt is used. -/
structure CanSt where
  mbs    : Tbl Mailbox := []
  att    : Option (Option Nat) := none
  item   : Option QItem := none
  sof    : Nat := 0
  esi    : Bool := false
  cancel : Bool := false
  rx     : Option Nat := none
  integ  : Bool := false
  loops  : List Nat := []
  tries  : Tbl Nat := []
  tried  : Option (Nat × Nat) := none
  deriving DecidableEq, Repr


/-- A PIO engine beyond its registers (R407). -/
structure PioSt where
  /-- output and input queues, oldest first -/
  outq : List Nat := []
  inq  : List Nat := []
  /-- tick at which a WAIT TICK began to stall -/
  waitFrom : Option Nat := none
  /-- staged program words by slot, and staged WRAP word (R420) -/
  prog : Tbl (Option Nat) := []
  wrap : Option Nat := none
  /-- stopped by BAD_INSTR (R412) -/
  bad  : Bool := false
  deriving DecidableEq, Repr

/-- A signal of the PINMUX space (R416): its owner's output latch and output enable, and the level that it is given from outside;
none where nothing outside has driven it. -/
structure SigSt where
  latch : Bool := false
  oe    : Bool := false
  ext   : Option Bool := none
  deriving DecidableEq, Repr


/-- An Ethernet port beyond its registers (R430, R432): frames sent with TS_REQ as (storage number, TX_ID), and
the ring time of the last write of AS_OFF_HI. -/
structure EthSt where
  ts     : List (Nat × Nat) := []
  asAt   : Nat := 0
  deriving DecidableEq, Repr

/-- A UART beyond its registers (R433 to R437): the characters of the packet in reception, oldest first, with the stamp of its
first start bit and what it has met; the line has been idle for GAP; a local packet that waits (bytes, ADDR9); the packet in
transmission, with whether it is local; and the packets sent, newest first. -/
structure UartSt where
  rx     : List (Nat × Bool) := []
  start  : Nat := 0
  par    : Bool := false
  frm    : Bool := false
  idle   : Bool := false
  wait   : Option (List Nat × Bool) := none
  tx     : Option (List Nat × Bool × Bool) := none
  sent   : List (List Nat × Bool) := []
  deriving DecidableEq, Repr

/-- The host port and the flash controller (R438 to R442): answers of the host port, newest first, as (STATUS, DETAIL, data);
and the flash operation in progress as (OP, address, bytes). -/
structure PortSt where
  host  : List (Nat × Nat × List Nat) := []
  flash : Option (Nat × Nat × List Nat) := none
  deriving DecidableEq, Repr


/-- A protection set in force (R462): RSENSE µΩ, I_START mA, ISC mA, SOA_BUDGET mJ, enabled points (k, I mA, t in 100 µs). -/
structure ProtSet where
  rsense : Nat
  iStart : Nat
  isc    : Nat
  soa    : Nat
  pts    : List (Nat × Nat × Nat)
  deriving DecidableEq, Repr

/-- A hot-swap controller beyond its registers: the main one or a branch (R454 to R472). -/
structure CtrlSt where
  /-- the set in force; none is an invalid set -/
  prot   : Option ProtSet := none
  /-- accumulators A_k in µs, and µs since the last decrement of each -/
  acc    : Tbl Nat := []
  sub    : Tbl Nat := []
  /-- energy of the attempt, pJ -/
  energy : Nat := 0
  /-- times in ns: start of the attempt's RAMP, end of the off time, assertion of power-good -/
  ramp   : Nat := 0
  till   : Nat := 0
  pgAt   : Nat := 0
  /-- since when power-good qualifies without a break; none while it does not (R459, R460) -/
  qual   : Option Nat := none
  deriving DecidableEq, Repr

/-- The set in force of the main controller after a restart: the reset values of R476. -/
def ProtSet.mainReset : ProtSet :=
  { rsense := 1000, iStart := 5000, isc := 100000, soa := 2000,
    pts := [(0, 10000, 50000), (1, 12000, 10000), (2, 15000, 2000), (3, 20000, 500), (4, 30000, 100), (5, 40000, 20),
            (6, 60000, 5), (7, 80000, 1)] }

/-- The power-entry core beyond its registers (17_power_entry.md). -/
structure PowerSt where
  main   : CtrlSt := { prot := some ProtSet.mainReset }
  br     : Tbl CtrlSt := []
  /-- QUEUED branches, first in front (R470) -/
  queue  : List Nat := []
  /-- time at which the last branch left RAMP, ns -/
  lastRamp : Option Nat := none
  /-- time of the core's own clock, ns, as last seen, and the elapsed time of the logic die then -/
  now : Nat := 0
  seen : Nat := 0
  /-- since when the main controller is in SEATING (R454) -/
  seatAt : Nat := 0
  /-- since when feed A, and feed B, is inside its window; both feeds are below UV; FEED_COM is above OV (R61, R465, R473) -/
  inA : Option Nat := none
  inB : Option Nat := none
  lowAt : Option Nat := none
  ovAt : Option Nat := none
  /-- FEED_COM is inside its window; below it; above it (R453) -/
  comIn  : Bool := false
  comUv  : Bool := true
  comOv  : Bool := false
  deriving DecidableEq, Repr


/-- A message that a PD port sends (R480 to R499): requests name the position of the PDO and the current in mA, and whether
they carry Capability Mismatch; source capabilities list (mV, mA). -/
inductive PdMsg where
  | accept | reject | notSupported | prSwap | softReset | hardReset | getSrcCap | psRdy | attention
  | request (pos ma : Nat) (mismatch : Bool)
  | srcCap (pdos : List (Nat × Nat))
  | svids (svid : Nat)
  | modes (vdo : Nat)
  | enterAck | enterNak | exitAck
  deriving DecidableEq, Repr

/-- A VBUS transition that the supervisor watches (R492): when it began, ns of elapsed time, whether an Accept began it, and the
voltages before and after, mV. -/
structure PdTrans where
  since  : Nat := 0
  accept : Bool := true
  was    : Nat := 5000
  goal   : Nat := 5000
  deriving DecidableEq, Repr

/-- A PD port beyond its registers (R480 to R495). -/
structure PdSt where
  /-- termination on CC: 0 open, 1 Rd, 2 Rp; and whether Rp was presented at attach -/
  cc     : Nat := 0
  rp     : Bool := false
  /-- the port drives VBUS, and at what voltage in mV -/
  vbus   : Bool := false
  mv     : Nat := 5000
  /-- PD_CMD in progress (its OP), and the atomic message sequence: 0 none, 1 PR_Swap sent, 2 swapping source to sink,
  3 swapping sink to source, 4 Get_Source_Cap sent, 5 Request sent, 6 the partner changes its voltage, 7 Soft Reset sent,
  8 Source_Capabilities sent, 9 Source_Capabilities received that firmware is to answer -/
  cmd    : Option Nat := none
  ams    : Nat := 0
  /-- PD_CMD waits until port 0 as sink sees SinkTxOK; as source its Rp stands at SinkTxNG (R488) -/
  wait   : Bool := false
  txNG   : Bool := false
  /-- the partner's source capabilities: (mV, mA, fixed) -/
  caps   : List (Nat × Nat × Bool) := []
  /-- voltage and current of the Request in flight -/
  asked  : Nat × Nat := (5000, 0)
  /-- timers that run, by their place in the table of R495, and since when, ns of elapsed time -/
  timers : List (Nat × Nat) := []
  /-- the transition that the supervisor watches (R492) -/
  trans  : Option PdTrans := none
  /-- VSET in steps of 1.2 mV (R491) -/
  vset   : Nat := 0
  deriving DecidableEq, Repr

/-- What the USB device sends (R500, R502): a data packet of endpoint `e` with its type in force (0 control, 1 bulk, 2 interrupt),
or a STALL. -/
inductive UsbPkt where
  | data (e kind : Nat) (b : List Nat)
  | stall (e : Nat)
  deriving DecidableEq, Repr

/-- The USB ports (18_usb_c_ports.md). -/
structure UsbSt where
  /-- SVC_GATE is on; start of the overlap of R483; it was turned off by an over-voltage (R494) -/
  svc    : Bool := false
  overlap : Option Nat := none
  ovOff  : Bool := false
  /-- VBUS0 is above 4.0 V -/
  vbus0  : Bool := false
  port0  : PdSt := { cc := 1 }
  port1  : PdSt := {}
  /-- messages sent, newest first: (port, message) -/
  sent   : List (Nat × PdMsg) := []
  /-- endpoints whose transfer is armed (R502) -/
  armed  : List Nat := []
  /-- packets that the USB device has sent, newest first, and the address that it answers (R502) -/
  packets : List UsbPkt := []
  addr   : Nat := 0
  deriving DecidableEq, Repr

/-- The event router and the core control (19_processors_and_events.md). -/
structure RouterSt where
  /-- sources in service: (source, target that claimed it) (R519) -/
  service : List (Nat × Nat) := []
  /-- EVT pins whose 1 µs pulse runs (R522) -/
  pulses  : List Nat := []
  /-- exports whose event waits to be sent: entry, DST, K and source at the rise (R521) -/
  exports : List (Nat × Nat × Nat × Nat) := []
  /-- the sources asserted when the node froze (R525) -/
  frozen  : Option (List Nat) := none
  /-- levels at the EVT balls from outside (R522) -/
  evtIn   : Nat := 0
  deriving DecidableEq, Repr

/-- One core: last instruction fetch address after a restart, arguments, held states (R511, R555, R59). -/
structure CoreSt where
  entry  : Nat := 0
  a0     : Nat := 0
  a1     : Nat := 0
  mtip   : Bool := false
  /-- debugger halt, WFI -/
  debug  : Bool := false
  wfi    : Bool := false
  /-- its watchdog timer: since when it counts, ns of elapsed time, and what it had counted before (R515 to R517) -/
  wdtAt  : Option Nat := none
  wdtAcc : Nat := 0
  /-- the address and size that an LR of the core has reserved (R506) -/
  resv   : Option (Nat × Nat) := none
  deriving DecidableEq, Repr

/-- An event log entry (R532). -/
structure LogEnt where
  time : Nat := 0
  kind : Nat := 0
  code : Nat := 0
  arg0 : Nat := 0
  arg1 : Nat := 0
  deriving DecidableEq, Repr

/-- A session entry of the black box (R261). -/
structure BbEnt where
  valid : Bool := false
  src   : Nat := 0
  ssid  : Nat := 0
  cons  : Nat := 0
  deriving DecidableEq, Repr

/-- The black-box record (R534, R535). -/
structure BlackBox where
  valid  : Bool := false
  kind   : Nat := 0
  arg    : Nat := 0
  time   : Nat := 0
  tick   : Nat := 0
  state  : Nat := 0
  own    : Nat := 0
  cause  : Nat := 0
  vinA   : Nat := 0
  vinB   : Nat := 0
  sess   : Tbl BbEnt := []
  tail   : List LogEnt := []
  deriving DecidableEq, Repr

/-- What the always-on domain keeps (R20, R534). -/
structure AoSt where
  valid     : Bool := true
  bootFails : Nat := 0
  dawnReq   : Bool := false
  /-- 0 none, 2 A, 3 B -/
  hint      : Nat := 0
  actFlag   : Bool := false
  incarnation : Nat := 0
  rtc       : Nat := 0
  rtcSub    : Nat := 0
  /-- wake sources recorded: bit 0 seat, 1 VBUS0, 2 feed (R50) -/
  wake      : Nat := 0
  bb        : BlackBox := {}
  /-- a black-box write in progress: its KIND and ARG (R535) -/
  writing   : Option (Nat × Nat) := none
  deriving DecidableEq, Repr

/-- The fuses (R537). -/
structure OtpSt where
  uid        : Nat := 0
  /-- KEYHASH1 to KEYHASH3; slot 0 holds the vendor root from manufacture on, and so is PROGRAMMED -/
  keyHash    : Tbl Nat := []
  programmed : Nat := 1
  revoked    : Nat := 0
  rollback   : Nat := 0
  /-- 0 OPEN, 1 LOCKED, 2 DISABLED -/
  lock       : Nat := 0
  svid       : Nat := 0x3A5C
  product    : Nat := 0x4410
  vdo        : Nat := 0
  deriving DecidableEq, Repr

/-- What the hub remembers of an image (R542): slot (0 A, 1 B), VERSION, SVN, key slot of its signature, and the resume
offsets of the field part and of the management part. -/
structure ImgInfo where
  slot    : Nat := 0
  version : Nat := 0
  svn     : Nat := 0
  signer  : Nat := 0
  field   : Nat := 0
  mgmt    : Nat := 0
  deriving DecidableEq, Repr

/-- The carousel manifest that a Dawn node follows (R550): XFER_ID, LEN, BLOCKS, and the blocks written so far. -/
structure Carousel where
  xfer   : Nat
  len    : Nat
  blocks : Nat
  have'  : List Nat := []
  deriving DecidableEq, Repr

/-- Management, boot, update (20_management_boot_update.md). -/
structure MgmtSt where
  /-- event log ring of 4,096 entries (R532) -/
  log      : Tbl LogEnt := []
  /-- entries not exported, and the number of entries that a running export copies (R533) -/
  unexp    : Nat := 0
  exporting : Nat := 0
  /-- the image that runs, and the one staged or being activated -/
  run      : ImgInfo := {}
  staged   : ImgInfo := {}
  /-- Dawn download: slot and IMG_LEN of the image begun; a slot has passed END (R548) -/
  begun    : Option (Nat × Nat) := none
  passedEnd : Bool := false
  /-- responses of the Dawn protocol, newest first: (path, CMD, STATUS, TAG, data) -/
  dawnOut  : List (Nat × Nat × Nat × Nat × List Nat) := []
  carousel : Option Carousel := none
  /-- OTP command in progress: (OP, SLOT); OP 5 raises the anti-rollback count to SLOT (R539) -/
  otpBusy  : Option (Nat × Nat) := none
  /-- verification in progress: KEYS and the address of its block (R538) -/
  vfyBusy  : Option (Nat × Nat) := none
  /-- the tick at which a requested activation is due (R554) -/
  actDue   : Option Nat := none
  /-- the request is held under R65 or R66 -/
  actHeld  : Bool := false
  /-- postponements of the activation under way (R556) -/
  actTries : Nat := 0
  /-- the activation reverts at the next tick instant (R557) -/
  revert   : Bool := false
  /-- domains being switched off (R15) -/
  stopWait : List Nat := []
  /-- sensors that must fall 5 °C below WARN before they warn again (R531) -/
  warmed   : Nat := 0
  deriving DecidableEq, Repr

/-- Eclipse control (21_eclipse_and_diagnostics.md). -/
structure EclSt where
  /-- the armed instant: t, source, REQ_ID, ring request?, SCOPE, COLLECTOR (R567, R574) -/
  armed    : Option (Nat × Nat × Nat × Bool × Nat × Nat) := none
  /-- freeze instant t_F (R568) -/
  tF       : Nat := 0
  scope    : Nat := 1
  /-- the freeze came from a ring request -/
  ring     : Bool := false
  collector : Nat := 0xFFF
  /-- reset sources discarded at the trigger (R572) -/
  discarded : List Nat := []
  /-- ECLIPSE_N driven low by this node (R570) -/
  pinLow   : Bool := false
  /-- stream: remaining (SEG, offset, end) ranges (R580) -/
  stream   : List (Nat × Nat × Nat) := []
  /-- frames to local ports discarded in PASS scope (R569) -/
  discards : Nat := 0
  deriving DecidableEq, Repr


/-- Why the block stops with a fault. -/
inductive Fault where
  /-- Raised by nobody: the spec lets no command stop the hub. An access fault (R11) is an answer to its initiator, held in
  `State.accFaults`; an own-fault (R58) is a state change. Safe. -/
  | unused
  deriving DecidableEq, Repr

/-- Why the model gives a command no effect. -/
inductive Refusal where
  /-- Raised by the dispatch for a command that has no meaning yet. Safe: nothing can be proved about the command. -/
  | notModelled (mnemonic : String)
  deriving DecidableEq, Repr

/-- The whole machine. -/
structure State where
  /-- commands that wait, first in first out -/
  pending : List Instr := []
  /-- register fields that differ from their reset value, by rising key (R29, R35) -/
  regs    : List (Key × Nat) := []
  /-- staged RWS values written before the commit point of the current tick, and from it on (R36, R37) -/
  staged     : List (Key × Nat) := []
  stagedLate : List (Key × Nat) := []
  /-- addressed memories, by rising key (R16 to R18): system SRAM, management RAM, flash -/
  mem     : List Host.Cell := []
  /-- access faults answered so far, newest first: (initiator, address) (R11) -/
  accFaults : List (Nat × Nat) := []
  /-- frames that left the node outside the switch queues or through an egress port, newest first: (port or lane, frame) -/
  wire    : List Sent := []
  /-- frames delivered whole to an internal port, newest first -/
  delivered : List (Nat × Frame) := []
  /-- the model's own counter of free values drawn -/
  draws   : Nat := 0
  node    : NodeSt := {}
  stitch  : StitchSt := {}
  time    : TimeSt := {}
  lanes   : Tbl LaneSt := []
  halo    : HaloSt := {}
  sw      : SwitchSt := {}
  pub     : PubSt := {}
  txn     : TxnSt := {}
  ses     : SesSt := {}
  tracks  : Tbl TrackSt := []
  drift   : DriftSt := {}
  edge    : EdgeSched := {}
  caps    : Tbl CapUnit := []
  field   : FieldSt := {}
  can     : Tbl CanSt := []
  pio     : Tbl PioSt := []
  sigs    : Tbl SigSt := []
  eths    : Tbl EthSt := []
  uarts   : Tbl UartSt := []
  ports   : PortSt := {}
  power   : PowerSt := {}
  usb     : UsbSt := {}
  router  : RouterSt := {}
  cores   : Tbl CoreSt := []
  ao      : AoSt := {}
  otp     : OtpSt := {}
  mgmt    : MgmtSt := {}
  ecl     : EclSt := {}
  deriving DecidableEq, Repr

/-- The machine right after a power-on cold reset (R20, R49): every register at the reset value of its table, RESET_CAUSE with
POWER_ON, nothing stored, and the reset still asserted: its release is the boot ROM's start (R544). -/
def State.reset : State := { regs := [(⟨0x000, 0x054, 1, 0⟩, 1)], node := { inReset := true } }

end Sys2Proof.Machine
end

