-- ==== Sys2Proof/Machine/Ops.lean ====
section
/-!
DEFINITION. The named operations over registers, memory, time and the wire that every meaning is written with.
-/

namespace Sys2Proof.Machine

/-! ## Registers -/

/-- The reset value of a field on a page: the table's, but for the pages whose reset value the spec gives apart
(R607 ENABLE; PWR_STAT in BOOT, R49; STOPPED of a lane in OFF, R114, and of an engine that does not run, R407; queue pages 0x047
and up, R250; port 1 of PD). -/
def resetVal (page : Nat) (f : Fld) (idx : Nat) : Nat :=
  if f = F.HDR_PAGE_CTRL_ENABLE then
    if page = 0x00A ∨ page = 0x00B ∨ (0x0C0 ≤ page ∧ page ≤ 0x0D7) then 0 else 1
  else if f = F.HDR_PAGE_STAT_STOPPED then
    if (0x008 ≤ page ∧ page ≤ 0x00B) ∨ (0x0C0 ≤ page ∧ page ≤ 0x0D7) then 1 else 0
  else if page = 0x101 ∧ f = F.PD_PD_CFG_EN then 0
  else if page = P.mgmt ∧ f = F.MGMT_PWR_STAT_ON then 0x3DB
  else if 0x047 ≤ page ∧ page ≤ 0x07F then
    if f = F.QUEUE_Q_CFG_TYPE ((f.off - 0x100) / 0x40) then 0
    else if f = F.QUEUE_Q_LIMIT_MAX ((f.off - 0x100) / 0x40) then 256
    else if f = F.QUEUE_Q_LIMIT_MIN ((f.off - 0x100) / 0x40) then 0
    else f.reset
  else if page = P.switch ∧ f.off = F.SWITCH_GRP_DATA_VALID.off ∧ f.lsb = F.SWITCH_GRP_DATA_VALID.lsb then
    if idx ≤ 1 then 1 else 0
  else if page = P.gw ∧ f.off = F.GATEWAY_XGRP_DATA_CROSS.off ∧ f.lsb = F.GATEWAY_XGRP_DATA_CROSS.lsb then
    if idx = 1 then 1 else f.reset
  else f.reset

/-- A banked field: entry `idx` of the table that the register shows. -/
def State.rdi (s : State) (page : Nat) (f : Fld) (idx : Nat) : Nat :=
  alGet s.regs ⟨page, f.off, f.lsb, idx⟩ (resetVal page f idx)

/-- A field of a page. -/
def State.rd (s : State) (page : Nat) (f : Fld) : Nat := s.rdi page f 0

/-- Is the field non-zero? -/
def State.on (s : State) (page : Nat) (f : Fld) : Bool := s.rd page f != 0

/-- Bit `k` of the field. -/
def State.bit (s : State) (page : Nat) (f : Fld) (k : Nat) : Bool := bitOf (s.rd page f) k

/-- Set a banked field; the value is cut to the field's width. -/
def State.wri (s : State) (page : Nat) (f : Fld) (idx v : Nat) : State :=
  { s with regs := alSet Key.lt s.regs ⟨page, f.off, f.lsb, idx⟩ (resetVal page f idx) (v % 2 ^ f.width) }

/-- Set a field. -/
def State.wr (s : State) (page : Nat) (f : Fld) (v : Nat) : State := s.wri page f 0 v

/-- Set bits of a field. -/
def State.orb (s : State) (page : Nat) (f : Fld) (m : Nat) : State := s.wr page f (s.rd page f ||| m)

/-- Set bit `k` of a field to `b`. -/
def State.setBit (s : State) (page : Nat) (f : Fld) (k : Nat) (b : Bool) : State :=
  s.wr page f (putBit (s.rd page f) k b)

/-- Add to a counter that saturates at its field's largest value. -/
def State.inc (s : State) (page : Nat) (f : Fld) (n : Nat := 1) : State :=
  s.wr page f (satAdd f.width (s.rd page f) n)

/-- Add to a banked counter that saturates. -/
def State.inci (s : State) (page : Nat) (f : Fld) (idx : Nat) (n : Nat := 1) : State :=
  s.wri page f idx (satAdd f.width (s.rdi page f idx) n)

/-- Keep the larger of a field and `v`. -/
def State.maxr (s : State) (page : Nat) (f : Fld) (v : Nat) : State :=
  if s.rd page f < v then s.wr page f v else s

/-- A 64-bit value held in a low and a high register. -/
def State.rd64 (s : State) (page : Nat) (lo hi : Fld) : Nat := s.rd page lo + s.rd page hi * 2 ^ lo.width

/-- Set a value held in a low and a high register. -/
def State.wr64 (s : State) (page : Nat) (lo hi : Fld) (v : Nat) : State :=
  (s.wr page lo v).wr page hi (v / 2 ^ lo.width)

/-- Set a list of fields to 0. -/
def State.zero (s : State) (page : Nat) (fs : List Fld) : State := fs.foldl (fun t f => t.wr page f 0) s

/-! ## Node states (R49) -/

def NS.boot : Nat := 0
def NS.dawn : Nat := 1
def NS.join : Nat := 2
def NS.commission : Nat := 3
def NS.run : Nat := 4
def NS.coast : Nat := 5
def NS.maint : Nat := 6
def NS.isolate : Nat := 7
def NS.eclipse : Nat := 8

/-- NODE_STATE.STATE. -/
def State.st (s : State) : Nat := s.rd P.node F.NODE_NODE_STATE_STATE

/-- The node's state is one of the list. -/
def State.isIn (s : State) (l : List Nat) : Bool := l.contains s.st

/-- COMMISSION, RUN, COAST or MAINT. -/
def State.working (s : State) : Bool := s.isIn [NS.commission, NS.run, NS.coast, NS.maint]

/-- Powered, out of reset and not frozen: the logic die takes clock edges (R49, R50, R568). -/
def State.alive (s : State) : Bool :=
  s.node.rails && !s.node.rstLow && !s.node.inReset && s.st != NS.eclipse

/-- The own node address, NODE_ADDR. -/
def State.own (s : State) : Nat := s.rd P.node F.NODE_NODE_ADDR_ADDR

/-- NODE_ADDR.VALID. -/
def State.ownValid (s : State) : Bool := s.on P.node F.NODE_NODE_ADDR_VALID

/-- ROLE: 0 ORDINARY, 1 ZENITH, 2 STANDBY_ZENITH, 3 GATEWAY (R62). -/
def State.role (s : State) : Nat := s.rd P.node F.NODE_NODE_STATE_ROLE

/-- Line state: 0 HALT, 1 COAST, 2 RUN (R63). -/
def State.line (s : State) : Nat := s.rd P.node F.NODE_NODE_STATE_LINE

/-- SERVICE power (R61). -/
def State.service (s : State) : Bool := s.on P.node F.NODE_NODE_STATE_POWER

/-! ## Power domains (R15; MGMT.PWR_STAT) -/

/-- Domain `d` of the power-domain table is powered: SHELF leaves AO alone; CORE, FIELDLOG and ETH are switched through
PWR_STAT. -/
def domOn (s : State) (d : Nat) : Bool :=
  if d = 1 then true
  else if !s.node.rails then false
  else if d = 3 ∨ d = 6 ∨ d = 7 then s.bit P.mgmt F.MGMT_PWR_STAT_ON (d - 1)
  else true

/-- Node state and power let CAN run (R60, R13). -/
def canAllowed (s : State) : Bool := (s.working || s.st == NS.join) && !s.service && domOn s 6

/-- Where state or power does not let CAN run, the channels are to integrate again before they take part (R404). -/
def canOut (s : State) : State :=
  if canAllowed s then s else { s with can := tblMap s.can {} fun x => { x with integ := false } }

/-- What a meaning answers. -/
abbrev Out := Host.Outcome State Fault Refusal

/-! ## Time -/

/-- Ring time, ns. -/
def State.now (s : State) : Nat := s.time.now

/-- The count of ring time once it has reached `t`: INCR is added on every cycle (R76). -/
def countTo (count incr t : Nat) : Nat :=
  if t * 2 ^ 32 ≤ count then count else count + (t * 2 ^ 32 - count + (incr - 1)) / incr * incr

/-- Ring time has reached `t`. -/
def State.atTime (s : State) (t : Nat) : State :=
  { s with time := { s.time with now := max s.time.now t, count := countTo s.time.count s.time.incr t } }

/-- The tick number. -/
def State.tick (s : State) : Nat := s.time.tick

/-- Ticks that have passed since the reset: what an interval in ticks is measured with. -/
def State.ticks (s : State) : Nat := s.time.ticks

/-- Nanoseconds that have passed since the reset at ring time `t`: what an interval is measured with. -/
def State.upAt (s : State) (t : Nat) : Nat := ((t : Int) - s.time.base).toNat

/-! ## Pages -/

/-- PAGE_CTRL.ENABLE. -/
def State.enabled (s : State) (page : Nat) : Bool := s.on page F.HDR_PAGE_CTRL_ENABLE

/-- PAGE_STAT.STOPPED. -/
def State.stopped (s : State) (page : Nat) : Bool := s.on page F.HDR_PAGE_STAT_STOPPED

/-- The page of a block of FIELDLOG that HAS_STOP: CAN, PIO, EDGE (R15, R607). -/
def fieldlogStops (page : Nat) : Bool :=
  decide (0x0B0 ≤ page ∧ page ≤ 0x0B7) || decide (0x0C0 ≤ page ∧ page ≤ 0x0D7) || page == P.edge

/-- A STOP that has been asked for (R30), or the block's domain is being switched off (R15). -/
def State.stopReq (s : State) (page : Nat) : Bool :=
  s.on page F.HDR_PAGE_CTRL_STOP || (fieldlogStops page && s.mgmt.stopWait.contains 6)


/-- What a byte that nothing has written reads as: 0xFF in the flash (erased), 0 elsewhere. -/
def memBlank (a : Nat) : Byte := if 0x50000000 ≤ a ∧ a ≤ 0x5FFFFFFF then 0xFF else 0

/-- One byte of an addressed memory. -/
def State.memAt (s : State) (a : Nat) : Byte := alGet s.mem a (memBlank a)

/-- Write one byte of an addressed memory; the form stays canonical. -/
def State.memPut (s : State) (a : Nat) (b : Byte) : State := { s with mem := alSet natLt s.mem a (memBlank a) b }

/-- The canonical form of the addressed memories: rising addresses, and no entry equal to what an unlisted one reads as. -/
def Memory.wf (m : List Host.Cell) : Bool := alSorted natLt m && m.all fun c => c.2 != memBlank c.1

/-- The register file and the memories are in canonical form. -/
def State.wf (s : State) : Bool := alSorted Key.lt s.regs && Memory.wf s.mem

/-- The `n` little-endian bytes of a value. -/
def leBytes : Nat → Nat → List Nat
  | 0, _ => []
  | n + 1, v => v % 256 :: leBytes n (v / 256)

/-- The bytes of a subscription view (R192), from its start on. -/
def viewBytes (b : ImgBuf) : List Nat :=
  leBytes 4 b.tick ++ leBytes 4 (b.tick / 2 ^ 32 % 2 ^ 16 * 2 ^ 16 + b.chSeq % 2 ^ 16) ++
    leBytes 4 (b.src * 2 ^ 20 + b.chan * 2 ^ 12 + b.data.length) ++ leBytes 4 b.rx ++ b.data

/-- Byte `x` of the image area: front views, then back views (R192). -/
def State.imageAt (s : State) (x : Nat) : Nat :=
  let e := s.pub.subs.at {} (x % 0x20000 / 0x200)
  (viewBytes (if x < 0x20000 then e.front else e.back)).getD (x % 0x200) 0

/-- Offset of an address in the image area, if it lies there. DEDUCED (log 125): in DAWN, where the blocks of the host path lie there
(R548), there is none. -/
def State.imageOff (s : State) (a : Nat) : Option Nat :=
  let base := 0x10200000 + s.rd P.sub F.SUBSCRIBE_SUB_CFG_IMG_SEL * 0x40000
  if s.st ≠ NS.dawn ∧ base ≤ a ∧ a < base + 0x40000 then some (a - base) else none

/-- The 16 bytes of an event log entry (R532). -/
def LogEnt.bytes (x : LogEnt) : List Nat :=
  leBytes 8 x.time ++ leBytes 4 (x.kind * 2 ^ 24 + x.code * 2 ^ 16 + x.arg0) ++ leBytes 4 x.arg1

/-- The address lies in the event log, as the management core sees it (R532). -/
def logAddr (a : Nat) : Bool := decide (0x08070000 ≤ a ∧ a < 0x08080000)

/-- Byte `x` of the event log ring. -/
def State.logByte (s : State) (x : Nat) : Nat := (s.mgmt.log.at {} (x / 16)).bytes.getD (x % 16) 0

/-- One byte as a read finds it: the image area shows the subscription views, and management data the event log. -/
def State.showAt (s : State) (a : Nat) : Nat :=
  match s.imageOff a with
  | some x => s.imageAt x
  | none => if logAddr a then s.logByte (a - 0x08070000) else (s.memAt a).toNat

/-- Read `n` bytes from `a` up. -/
def State.memRead (s : State) (a n : Nat) : List Nat := (List.range n).map fun k => s.showAt (a + k)

/-- Write bytes from `a` up. -/
def State.memWrite (s : State) (a : Nat) (l : List Nat) : State :=
  (l.foldl (fun p b => (p.1.memPut p.2 (BitVec.ofNat 8 b), p.2 + 1)) (s, a)).1

/-- Little-endian value of a list of bytes. -/
def leVal : List Nat → Nat
  | [] => 0
  | b :: r => b % 256 + 256 * leVal r

/-- Big-endian value of a list of bytes. -/
def beVal (l : List Nat) : Nat := leVal l.reverse

/-- The `n` big-endian bytes of a value. -/
def beBytes (n v : Nat) : List Nat := (leBytes n v).reverse

/-- `n` bytes of a list from `k` on, zeros past its end. -/
def slice (l : List Nat) (k n : Nat) : List Nat :=
  let r := (l.drop k).take n
  r ++ List.replicate (n - r.length) 0

/-- The big-endian field of `n` bytes at offset `k` of a payload. -/
def beAt (l : List Nat) (k n : Nat) : Nat := beVal (slice l k n)

/-! ## Free values, faults and the wire -/

/-- The next free value: nothing constrains it. -/
def State.draw (s : State) (w : Nat) : Nat × State :=
  (Config.freeValue s.draws % 2 ^ w, { s with draws := s.draws + 1 })

/-- Answer an access fault to an initiator (R11). -/
def State.accFault (s : State) (ini addr : Nat) : State := { s with accFaults := (ini, addr) :: s.accFaults }

/-- A frame leaves the node at port `p`. -/
def State.emit (s : State) (p : Nat) (f : Frame) : State := { s with wire := { port := p, frame := f } :: s.wire }

/-- The copy of a frame at port `p` ends stomped (R130). -/
def State.emitStomp (s : State) (p : Nat) (f : Frame) : State := { s with wire := { port := p, frame := f, stomp := true } :: s.wire }

/-- One lane's record. -/
def State.lane (s : State) (i : Nat) : LaneSt := s.lanes.at {} i

/-- Change one lane's record. -/
def State.setLane (s : State) (i : Nat) (l : LaneSt) : State := { s with lanes := s.lanes.put {} i l }

/-! ## The stitch link (R6) -/

/-- Push a flit on a store of the last 32. -/
def flitPush (l : List (Nat × List Nat)) (n : Nat) (b : List Nat) : List (Nat × List Nat) := ((n, b) :: l).take 32

/-- A flit goes to the field die: it is numbered and held for replay. -/
def flitOut (s : State) (b : List Nat) : State :=
  let n := s.stitch.seqOut
  { s with stitch := { s.stitch with
    seqOut := (n + 1) % 65536, storeOut := flitPush s.stitch.storeOut n b, replays := s.stitch.replays.put 0 n 0 } }

/-- A flit comes from the field die, which numbers it and holds it for replay. -/
def flitIn (s : State) (b : List Nat) : State :=
  let n := s.stitch.seqIn
  { s with stitch := { s.stitch with
    seqIn := (n + 1) % 65536, storeIn := flitPush s.stitch.storeIn n b, replays := s.stitch.replays.put 0 (65536 + n) 0 } }

/-- A valid flit reaches the field die at `t`: its watchdog restarts. The field die's own clock counts what has elapsed, and no
step of ring time moves it (R8). -/
def flitArrives (s : State) (t : Nat) : State :=
  { s with stitch := { s.stitch with lastFlit := max s.stitch.lastFlit (s.upAt t), wdtFired := false } }

/-! ## Repetition -/

/-- Fold over the numbers below `n`. -/
def State.each (s : State) (n : Nat) (f : State → Nat → State) : State := (List.range n).foldl f s

/-- Apply `f` when `b`. -/
def State.when (s : State) (b : Bool) (f : State → State) : State := if b then f s else s

end Sys2Proof.Machine
end

