-- ==== Sys2Proof/Machine/Frames.lean ====
section
/-!
DEFINITION. Frame headers as words (05_ring_links_and_frames.md, R124), the header CRC, and the serial arithmetic of sequence
numbers.
-/

namespace Sys2Proof.Machine

/-- Words 0 to 5 of the header with HCRC taken as 0. -/
def headWords0 (f : Frame) : List Nat :=
  [ f.typ % 16 * 2 ^ 28 + f.cls % 8 * 2 ^ 25 + f.copy % 2 * 2 ^ 24 + f.reach % 1024 * 2 ^ 14 + f.plen % 2 ^ 14,
    f.dst % 4096 * 2 ^ 20 + f.src % 4096 * 2 ^ 8 + b2n f.mc * 2 ^ 7 + b2n f.evf * 2 ^ 6 + f.prio % 8 * 2 ^ 3 + f.rsv % 8,
    f.seq % 65536 * 2 ^ 16 + f.tick % 65536,
    f.w3 % 2 ^ 32, f.w4 % 2 ^ 32, f.w5 % 2 ^ 32 / 2 ^ 16 * 2 ^ 16 ]

/-- One bit into a CRC-16 of polynomial 0x1021, most significant bit first. -/
def crc16Bit (c : Nat) (b : Bool) : Nat :=
  let top := bitOf c 15
  let c := c * 2 % 65536
  if top != b then c ^^^ 0x1021 else c

/-- One byte into the CRC-16. -/
def crc16Byte (c b : Nat) : Nat := ([7, 6, 5, 4, 3, 2, 1, 0]).foldl (fun a k => crc16Bit a (bitOf b k)) c

/-- HCRC of a frame's header. -/
def hcrc (f : Frame) : Nat := ((headWords0 f).flatMap (beBytes 4)).foldl crc16Byte 0xFFFF

/-- The 24 header bytes as they are on the ring. -/
def headBytes (f : Frame) : List Nat :=
  let l := (headWords0 f).flatMap (beBytes 4)
  l.take 22 ++ beBytes 2 (hcrc f)

/-- One bit of CRC-32 (IEEE 802.3, reflected). -/
def crc32Bit (c : Nat) : Nat := if c % 2 = 1 then (c / 2) ^^^ 0xEDB88320 else c / 2

/-- One byte into CRC-32. -/
def crc32Byte (c b : Nat) : Nat := (List.range 8).foldl (fun a _ => crc32Bit a) (c ^^^ (b % 256))

/-- CRC-32 of bytes. PRESUMED (log 76): initial value, reflection and complement are those of IEEE 802.3. -/
def crc32 (l : List Nat) : Nat := (l.foldl crc32Byte 0xFFFFFFFF) ^^^ 0xFFFFFFFF

/-- The CRC-32 of a frame: over its header and its payload (R124). -/
def frameCrc (f : Frame) : Nat := crc32 (headBytes f ++ f.pay)

/-- The CRC-32 with which a frame ends on the wire: fresh over the header as it is sent, and of a stomped copy XOR 0x5A5A5A5A
(R130). -/
def sentCrc (x : Sent) : Nat := if x.stomp then frameCrc x.frame ^^^ 0x5A5A5A5A else frameCrc x.frame

/-- The bytes of a frame on an Ethernet wire, `none` being a /V/ error code group (R429): with its FCS; a stomped one with /V/ in place
of its last byte, and the FCS XOR 0x5A5A5A5A. DEDUCED (log 113): the last byte is that of the frame ahead of its FCS. -/
def ethWire (x : Sent) : List (Option Nat) :=
  let b := x.frame.pay.map some
  if x.stomp then b.dropLast ++ [none] ++ (leBytes 4 (crc32 x.frame.pay ^^^ 0x5A5A5A5A)).map some
  else b ++ (leBytes 4 (crc32 x.frame.pay)).map some

/-- `b - a` modulo 2^32. -/
def serDist (a b : Nat) : Nat := (b + 2 ^ 32 - a % 2 ^ 32) % 2 ^ 32

/-- The next value modulo 2^32. -/
def serNext (a : Nat) : Nat := (a + 1) % 2 ^ 32

/-- The previous value modulo 2^32. -/
def serPrev (a : Nat) : Nat := (a + 2 ^ 32 - 1) % 2 ^ 32

/-- `a` precedes or equals `b` in serial arithmetic modulo 2^32 (R250). -/
def serLe (a b : Nat) : Bool := decide (serDist a b < 2 ^ 31)

/-- `a` precedes `b`. -/
def serLt (a b : Nat) : Bool := a % 2 ^ 32 != b % 2 ^ 32 && serLe a b

/-- SUBTYPE of SUPERVISION and DIAG frames: word 4 [31:24] (R126). -/
def frameSub (f : Frame) : Nat := f.w4 / 2 ^ 24 % 256

/-- Statuses (R210). -/
def TS.ok : Nat := 0
def TS.rejected : Nat := 1
def TS.addrErr : Nat := 2
def TS.readOnly : Nat := 3
def TS.unsupported : Nat := 4
def TS.ecc : Nat := 5
def TS.busy : Nat := 6
def TS.targetReset : Nat := 7
def TS.align : Nat := 8
def TS.absent : Nat := 9
def TS.timeout : Nat := 10

end Sys2Proof.Machine
end

