-- ==== Sys2Proof/Machine/FieldOps.lean ====
section
/-!
DEFINITION. The field die's channels (13_field_io.md): modes, levels, drivers and safe states. What raises an event takes
the raising function as an argument, so that the Eclipse freeze can use it with the router frozen.
-/

namespace Sys2Proof.Machine

/-- How an event bit of a page is raised. -/
abbrev Ev := State → Nat → Nat → State

/-- A field of channel `c` (R374: group c mod 8 of page 0x0A0 + c / 8). -/
def State.ch (s : State) (f : Nat → Fld) (c : Nat) : Nat := s.rd (P.field c) (f (c % 8))

/-- Set a field of channel `c`. -/
def State.chWr (s : State) (f : Nat → Fld) (c v : Nat) : State := s.wr (P.field c) (f (c % 8)) v

/-- A channel's record. -/
def State.chan (s : State) (c : Nat) : FieldCh := s.field.chans.at {} c

/-- Change a channel's record. -/
def State.setChan (s : State) (c : Nat) (x : FieldCh) : State :=
  { s with field := { s.field with chans := s.field.chans.put {} c x } }

/-- The mode in force (R351): 4 on channels 16 to 63 and 5 to 15 act as 0. -/
def chMode (s : State) (c : Nat) : Nat :=
  let m := s.ch F.FIELD_CH_CFG_MODE c
  if m ≥ 5 ∨ (m = 4 ∧ c ≥ 16) then 0 else m

/-- The comparator's level; a DISABLED channel's comparator is off (R351). -/
def chComp (s : State) (c : Nat) : Bool := chMode s c != 0 && (s.chan c).comp

/-- The channel counts as an input (R351). -/
def chIsInput (s : State) (c : Nat) : Bool :=
  let m := chMode s c
  m == 1 || m == 2 || (m == 4 && s.ch F.FIELD_CH_CFG_SIO c == 1 && s.ch F.FIELD_CH_CFG_SIO_OUT c == 0)

/-- The channel is configured as an output under R340 (R351). -/
def chIsOutput (s : State) (c : Nat) : Bool :=
  let m := chMode s c
  m == 3 || (m == 4 && s.ch F.FIELD_CH_CFG_SIO c == 1 && s.ch F.FIELD_CH_CFG_SIO_OUT c == 1)

/-- The channel is an IO-Link port driven by the PIO signals (R358). -/
def chIsIol (s : State) (c : Nat) : Bool := chMode s c == 4 && s.ch F.FIELD_CH_CFG_SIO c == 0

/-- SAFE_ACTIVE. -/
def chSafe (s : State) (c : Nat) : Bool := s.ch F.FIELD_CH_STAT_SAFE_ACTIVE c == 1

/-- A live fault: 0 OPEN, 1 SHORT_VF, 2 OVERLOAD, 3 TRIPPED, 4 THERMAL, 5 BREAK, 6 SUPPLY (R360). -/
def chFaultNow (s : State) (c k : Nat) : Bool := bitOf (s.ch F.FIELD_CH_STAT_FAULT_NOW c) k

/-- Something holds the driver off: TRIPPED, THERMAL, SUPPLY, over-temperature, SERVICE power, or a state before
COMMISSION that the node has not entered through a warm reset (R14, R72, R360 to R363). -/
def chHeldOff (s : State) (c : Nat) : Bool :=
  chFaultNow s c 3 || chFaultNow s c 4 || chFaultNow s c 6 || s.on P.fdie F.FDIE_FD_STAT_OVERTEMP || s.service ||
    (s.isIn [NS.boot, NS.dawn, NS.join] && !chSafe s c)

/-- The level an output channel drives in safe state (R364). -/
def chSafeLevel (s : State) (c : Nat) : Bool :=
  let x := s.chan c
  let sf := s.ch F.FIELD_CH_CFG_SAFE c
  if x.forceOff then false
  else if sf = 1 then x.entry && !x.holdEnd
  else if sf = 2 then x.entry
  else false

/-- The driver of the channel conducts (CH_STAT.DRIVER_ON; R352, R355, R358, R359, R364). -/
def chDriverOn (s : State) (c : Nat) : Bool :=
  if chHeldOff s c then false
  else if chIsOutput s c then
    if chSafe s c then chSafeLevel s c else s.ch F.FIELD_CH_OUT_LEVEL c == 1
  else if chIsIol s c then
    !chSafe s c && (s.ch F.FIELD_CH_STAT_WURQ_BUSY c == 1 || (s.chan c).en)
  else false

/-- A fault bit is set (R360): live and sticky; the channel's event is raised. -/
def chFault (ev : Ev) (s : State) (c k : Nat) : State :=
  let s := s.chWr F.FIELD_CH_STAT_FAULT_NOW c (withBit (s.ch F.FIELD_CH_STAT_FAULT_NOW c) k)
  let s := s.chWr F.FIELD_CH_STAT_FAULT c (withBit (s.ch F.FIELD_CH_STAT_FAULT c) k)
  ev s (P.field c) (c % 8)

/-- A live fault ends. -/
def chFaultEnd (s : State) (c k : Nat) : State :=
  s.chWr F.FIELD_CH_STAT_FAULT_NOW c (sansBit (s.ch F.FIELD_CH_STAT_FAULT_NOW c) k)

/-- One channel enters its safe state (R364); a channel already in it is left as it is, but for OFF at entry to DAWN. -/
def chEnterSafe (s : State) (forceOff mirror : Bool) (c : Nat) : State :=
  if chSafe s c then
    s.when forceOff fun s => s.setChan c { s.chan c with forceOff := true }
  else
    let s' := s.setChan c { s.chan c with
      entry := chIsOutput s c && s.ch F.FIELD_CH_OUT_LEVEL c == 1, holdEnd := false, forceOff := forceOff, mirror := mirror }
    s'.chWr F.FIELD_CH_STAT_SAFE_ACTIVE c 1

/-- ADC inputs whose gain and offset are settable (R380). -/
def adcScaled (i : Nat) : Bool := i == 6 || (8 ≤ i && i ≤ 15) || i == 20 || i == 21

/-- An event of the FDIE page; while the stitch link is down it waits (R379). -/
def fdieEv (ev : Ev) (s : State) (k : Nat) : State :=
  if s.stitch.down then { s with field := { s.field with waitEv := s.field.waitEv ++ [k] } } else ev s P.fdie k

/-- A safe-state trigger on a set of channels (R364, R365): one entry when it takes at least one channel in. -/
def safeEnter (ev : Ev) (s : State) (chs : List Nat) (cause : Nat) (forceOff mirror : Bool := false) : State :=
  let fresh := chs.any fun c => !chSafe s c
  let s := chs.foldl (fun t c => chEnterSafe t forceOff mirror c) s
  if fresh then
    let s := s.wr P.fdie F.FDIE_FD_STAT_LAST_CAUSE cause
    let s := s.inc P.fdie F.FDIE_CNT_SAFE_N
    fdieEv ev s 0
  else s

/-- All 64 channels. -/
def allChans : List Nat := List.range 64

/-- A channel leaves its safe state (R366, R201). -/
def chRelease (s : State) (c : Nat) : State :=
  (s.setChan c { s.chan c with holdEnd := false, forceOff := false, mirror := false }).chWr
    F.FIELD_CH_STAT_SAFE_ACTIVE c 0

/-- Set or clear SUPPLY on every channel (R362). -/
def supplyAll (ev : Ev) (s : State) (b : Bool) : State :=
  allChans.foldl (fun t c => if b then (if chFaultNow t c 6 then t else chFault ev t c 6) else chFaultEnd t c 6) s

end Sys2Proof.Machine
end

