-- ==== Sys2Proof/Machine/Events.lean ====
section
/-!
DEFINITION. The event router's sources and their effects (19_processors_and_events.md, R518 to R524), the PIO trigger flags
(R414), and the Eclipse freeze (21_eclipse_and_diagnostics.md, R566 to R572), which an event can cause.
-/

namespace Sys2Proof.Machine

/-- Every page that has event bits (R526). -/
def evPages : List Nat :=
  [0, 4] ++ (List.range 5).map (8 + ·) ++ [0x10] ++ (List.range 14).map (0x11 + ·) ++ [0x20, 0x30, 0x31, 0x38, 0x39, 0x80, 0x81] ++
  (List.range 8).map (0x88 + ·) ++ [0x90, 0x98, 0x99] ++ (List.range 11).map (0xA0 + ·) ++ (List.range 12).map (0xB0 + ·) ++
  (List.range 24).map (0xC0 + ·) ++ (List.range 6).map (0xE0 + ·) ++ (List.range 9).map (0xF0 + ·) ++
  [0x100, 0x101, 0x102, 0x110, 0x111, 0x120, 0x121, 0x122, 0x123, 0x124, 0x130]

/-- Page and bit of a source (R526); none where the number is reserved or a software event. -/
def srcPage (n : Nat) : Option (Nat × Nat) :=
  (evPages.find? fun p => decide ((evMap p).1 ≤ n ∧ n < (evMap p).1 + (evMap p).2)).map fun p => (p, n - (evMap p).1)

/-- A page's event bit is set and not masked (R518). -/
def evAsserted (s : State) (page k : Nat) : Bool := s.bit page F.HDR_EV_STAT_EV k && s.bit page F.HDR_EV_MASK_EN k

/-- The page or the software event of a source asserts it (R518, R524). -/
def srcLive (s : State) (n : Nat) : Bool :=
  if 488 ≤ n then decide (n < 512) && s.bit P.ev3 F.EVENTC_SWEV_EV (n - 488)
  else match srcPage n with
    | some (p, k) => evAsserted s p k
    | none => false

/-- A source is asserted, as the router sees it: frozen in ECLIPSE (R525). -/
def srcAsserted (s : State) (n : Nat) : Bool :=
  match s.router.frozen with
  | some l => l.contains n
  | none => srcLive s n

/-- Set an event bit without routing it: the router is frozen (R525). -/
def evOnly : Ev := fun s page k => s.setBit page F.HDR_EV_STAT_EV k true

/-- Local insertion of transactions is on (R60). -/
def State.mayInsert (s : State) : Bool := s.isIn [NS.join, NS.commission, NS.run, NS.coast, NS.maint]

/-- A change of the node state (R51): PREV, STATE and STATE_TICK. -/
def setState (s : State) (st : Nat) : State :=
  let s' := s.wr P.node F.NODE_STATE_INFO_PREV s.st
  (s'.wr P.node F.NODE_NODE_STATE_STATE st).wr P.node F.NODE_STATE_TICK_TICK s.tick

/-- Pad logic forces every CAN transmit pin recessive and every UART driver-enable inactive (R73): an attempt and a packet in
transmission are cut. -/
def cutTransmit (s : State) : State :=
  let s := s.each 8 fun t c =>
    { t with can := t.can.put {} c { t.can.at {} c with att := none, cancel := false } }.wr (P.can c) F.CAN_STATUS_TX_ACTIVE 0
  s.each 16 fun t u =>
    let t := { t with uarts := t.uarts.put {} u { t.uarts.at {} u with tx := none } }
    (t.wr (P.uart u) (F.UART_U_STAT_TX_BUSY (u % 4)) 0).wr (P.uart u) (F.UART_U_STAT_DE (u % 4)) 0

/-- The freeze at t_F (R568 to R572): scope and collector are those in force for it. Warm reset requests not yet taken are
discarded and recorded, gateway requests that wait are kept (they merge under R27); field outputs go to their safe states with
cause 4, unless the dead link leaves that to the field die's watchdog (R8); commands due later are dropped at the field die;
CAN and UART transmission is cut (R73); the port-1 USB pins go to their safe state (R499). -/
def freeze (s : State) (cause tF : Nat) (late ring : Bool) (scope collector : Nat) : State :=
  if s.st = NS.eclipse then s
  else
    let s := setState s NS.eclipse
    let s := s.wr P.ecl F.ECLIPSE_ECL_STAT_FROZEN 1
    let s := s.wr P.ecl F.ECLIPSE_ECL_STAT_CAUSE cause
    let s := s.wr P.ecl F.ECLIPSE_ECL_STAT_LATE (b2n late)
    let s := { s with
      ecl := { s.ecl with
        tF := tF, scope := scope, collector := collector, discarded := s.node.resetReq, ring := ring,
        pinLow := s.on P.ecl F.ECLIPSE_ECL_CFG_PIN_OUT }
      router := { s.router with frozen := some ((List.range 512).filter (srcLive s)) }
      node := { s.node with resetReq := [], resetWait := false, isoRecord := false, pendTarget := none }
      edge := { s.edge with cmds := s.edge.cmds.filter fun c => decide (c.act < 2 * tF) } }
    let s := cutTransmit s
    if s.stitch.outDead then s else safeEnter evOnly s allChans 4

/-- The freeze with the scope and collector of ECL_CFG. -/
def freezeCfg (s : State) (cause tF : Nat) : State :=
  freeze s cause tF false false (s.rd P.ecl F.ECLIPSE_ECL_CFG_SCOPE) (s.rd P.ecl F.ECLIPSE_ECL_CFG_COLLECTOR)

/-- Set trigger flag `t` of engine `e` (R414); true if the flag was already set, so that TRIG_OVF is set. -/
def pioTrig (s : State) (e t : Nat) : Bool × State :=
  if s.bit (P.pio e) F.PIO_TRIG_PENDING t then (true, s.wr (P.pio e) F.PIO_ENG_STAT_TRIG_OVF 1)
  else (false, s.setBit (P.pio e) F.PIO_TRIG_PENDING t true)

/-- Export entry `e` at a rise of its source (R521). What it sends is settled now; DESIGN CHOICE (log 118): it leaves at the next tick
instant. -/
def exportRise (s : State) (src e : Nat) : State :=
  if s.on P.ev3 (F.EVENTC_EXP_A_EN e) && s.rd P.ev3 (F.EVENTC_EXP_A_SRC e) == src then
    if s.bit P.ev3 F.EVENTC_EXP_STAT_BUSY e then s.inc P.ev3 F.EVENTC_CNT_EXPORT_MERGED_N
    else if s.mayInsert then
      let s := s.setBit P.ev3 F.EVENTC_EXP_STAT_BUSY e true
      let s := s.inc P.ev3 F.EVENTC_CNT_EXPORT_N
      { s with router := { s.router with exports := s.router.exports ++
        [(e, s.rd P.ev3 (F.EVENTC_EXP_B_DST e), s.rd P.ev3 (F.EVENTC_EXP_A_K e), src)] } }
    else s.inc P.ev3 F.EVENTC_CNT_EXPORT_DROP_N
  else s

/-- EVT pin `p` at a rise of its source: the pulse starts (R522). -/
def evtRise (s : State) (src p : Nat) : State :=
  if s.on P.ev3 (F.EVENTC_EVT_CFG_OUT p) && s.on P.ev3 (F.EVENTC_EVT_CFG_PULSE p) &&
      s.rd P.ev3 (F.EVENTC_EVT_CFG_SRC p) == src && !s.router.pulses.contains p then
    { s with router := { s.router with pulses := s.router.pulses ++ [p] } }
  else s

/-- The Eclipse event trigger at a rise of its source (R566, cause 5). -/
def eclRise (s : State) (src : Nat) : State :=
  if s.on P.ecl F.ECLIPSE_ECL_CFG_EV_EN && s.rd P.ecl F.ECLIPSE_ECL_CFG_EV_SRC == src then freezeCfg s 5 s.now else s

/-- A source's assertion rises: exports, EVT pulses, PIO routes, Eclipse (R521 to R523, R566). A route can set TRIG_OVF and
so raise the engine's own source; each engine's source rises at most once, so the fuel of `raise` is never short. -/
def rise : Nat → State → Nat → State
  | 0, s, _ => s
  | fuel + 1, s, src =>
    if s.st = NS.eclipse then s
    else
      let s := s.each 16 fun t e => exportRise t src e
      let s := s.each 4 fun t p => evtRise t src p
      let s := s.each 8 fun t r =>
        let e := t.rd P.ev3 (F.EVENTC_PIOR_ENGINE r)
        if t.on P.ev3 (F.EVENTC_PIOR_EN r) && t.rd P.ev3 (F.EVENTC_PIOR_SRC r) == src && decide (e < 24) then
          let o := pioTrig t e (t.rd P.ev3 (F.EVENTC_PIOR_TRIG r))
          if o.1 then
            let was := evAsserted o.2 (P.pio e) 0
            let t := evOnly o.2 (P.pio e) 0
            if !was && evAsserted t (P.pio e) 0 then rise fuel t (368 + e) else t
          else o.2
        else t
      eclRise s src

/-- An event of a page occurs: its EV_STAT bit is set (R31), and if that makes its source asserted the router's rise
effects follow. In ECLIPSE the router is frozen. -/
def raise (s : State) (page k : Nat) : State :=
  let was := evAsserted s page k
  let t := evOnly s page k
  if !was && evAsserted t page k then rise 40 t ((evMap page).1 + k) else t

/-- Raise an event when `b`. -/
def raiseIf (s : State) (b : Bool) (page k : Nat) : State := if b then raise s page k else s

/-- Sources of a page that become asserted when its mask changes from the mask of `old` (R518). -/
def maskRise (old s : State) (page : Nat) : State :=
  s.each (evMap page).2 fun t k =>
    if !evAsserted old page k && evAsserted s page k then rise 40 t ((evMap page).1 + k) else t

/-- A counter goes up and an event is raised. -/
def countRaise (s : State) (page : Nat) (f : Fld) (evPage k : Nat) : State := raise (s.inc page f) evPage k

/-! ## The event log (20_management_boot_update.md, R532) -/

/-- An open value where the spec states none. -/
def orDraw (s : State) (w : Nat) (v : Option Nat) : Nat × State :=
  match v with
  | some x => (x % 2 ^ w, s)
  | none => s.draw w

/-- An entry goes to the ring of 4,096; one overwritten before export counts in CNT_LOST (R533). -/
def logPut (s : State) (x : LogEnt) : State :=
  let h := s.rd P.log F.LOG_HEAD_INDEX
  let s := if s.mgmt.unexp = 4096 then s.inc P.log F.LOG_CNT_LOST_N else s
  { s with mgmt := { s.mgmt with log := s.mgmt.log.put {} h x, unexp := min 4096 (s.mgmt.unexp + 1) } }.wr
    P.log F.LOG_HEAD_INDEX (h + 1)

/-- NEAR_FULL when the number of entries not exported reaches 3,072 (R565). -/
def logAdd (s : State) (x : LogEnt) : State :=
  raiseIf (logPut s x) (s.mgmt.unexp == 3071) P.log 2

/-- The hub writes an entry of its own; what the spec does not state of it is open. -/
def hubLog (s : State) (kind : Nat) (code arg0 arg1 : Option Nat) : State :=
  let a := orDraw s 8 code
  let b := orDraw a.2 16 arg0
  let c := orDraw b.2 32 arg1
  logAdd c.2 { time := s.now, kind := kind, code := a.1, arg0 := b.1, arg1 := c.1 }

/-- A change of the node state with its event (NODE event bit 0) and its log entry. -/
def enterState (s : State) (st : Nat) : State :=
  hubLog (raise (setState s st) P.node 0) 2 (some st) (some s.st) none

/-- An error is captured in a page's ERR_CAPT registers (R32): the first after a release is held; later ones only count and
set MULTI. -/
def errCapture (s : State) (page code addr ini detail : Nat) : State :=
  let s := s.inc page F.HDR_ERR_CAPT0_COUNT
  if s.on page F.HDR_ERR_CAPT0_VALID then s.wr page F.HDR_ERR_CAPT0_MULTI 1
  else
    let s := (s.wr page F.HDR_ERR_CAPT0_VALID 1).wr page F.HDR_ERR_CAPT0_CODE code
    let s := (s.wr page F.HDR_ERR_CAPT1_ADDR_LO addr).wr page F.HDR_ERR_CAPT2_ADDR_HI (addr / 2 ^ 32)
    let s := (s.wr page F.HDR_ERR_CAPT2_INITIATOR ini).wr page F.HDR_ERR_CAPT2_DETAIL detail
    s.wr page F.HDR_ERR_CAPT3_TIME_LO s.now

/-- PIO engine `e` raises its event (R423). -/
def pioEv (s : State) (e : Nat) : State := raise s (P.pio e) 0

end Sys2Proof.Machine
end

