-- ==== Sys2Proof/Machine/Switch.lean ====
section
/-!
DEFINITION. Switch core, cell pool, gates, shapers and meters (06_switch_core.md, R148 to R183).
-/

namespace Sys2Proof.Machine

/-! ## The tick's lengths (R78, R81) -/

/-- Tick length in force, ns. -/
def State.tickL (s : State) : Nat := s.rd P.time F.TIME_TICK_CFG_LEN

/-- Scheduled-window fraction in force. -/
def State.tickF (s : State) : Nat := s.rd P.time F.TIME_TICK_CFG_F

/-- The argument of a stored command of `code` that takes effect at tick `n`, one that came late included (R108). -/
def cmdArg (s : State) (code n : Nat) : Option Nat :=
  (s.time.cmds.find? fun c => c.code == code && decide (c.eff ≤ n)).map (·.arg)

/-- An interval that ends at `d` ns of elapsed time may end now. DESIGN CHOICE (log 111): a command that carries no time stands
anywhere in the tick that runs. -/
def State.dueBy (s : State) (d : Nat) : Bool := decide (d ≤ s.upAt (s.now + s.tickL))

/-- Tick length of the next tick, a stored TICK_LEN included (R167). -/
def State.nextL (s : State) : Nat := ((cmdArg s 2 (s.tick + 1)).map (· % 2 ^ 21)).getD s.tickL

/-- The stored TICK_LEN in force at a tick `n` still to come: the latest one that has taken effect by then (R108, R167). -/
def State.lenAt (s : State) (n : Nat) : Nat :=
  if n = s.tick then s.tickL
  else ((s.time.cmds.foldl (fun (b : Option (Nat × Nat)) c =>
    if c.code = 2 ∧ c.eff ≤ n ∧ b.all (fun e => decide (e.1 < c.eff)) then some (c.eff, c.arg % 2 ^ 21) else b) none).map
      (·.2)).getD s.tickL

/-- Ticks until the last stored TICK_LEN takes effect. -/
def State.lastLen (s : State) : Nat :=
  s.time.cmds.foldl (fun b c => if c.code = 2 then max b (c.eff - s.tick) else b) 0

/-- The tick that holds an instant `t` before the instant `t0` of tick `k`, through the tick lengths in force; `l` is the length
before the oldest of them. -/
def tickFind (l : Nat) : List (Nat × Nat) → Nat → Nat → Nat → Nat
  | [], k, t0, t => k - ceilDiv (t0 - t) (max 1 l)
  | (e, x) :: r, k, t0, t =>
    let back := ceilDiv (t0 - t) (max 1 x)
    if back ≤ k - e then k - back else tickFind l r (min e k) (t0 - (k - min e k) * x) t

/-- The number of the tick that an instant belongs to (R80): one at the end of the current tick, or later, lies in a tick that is
still to begin. -/
def stampTick (s : State) (t : Nat) : Nat :=
  if t < s.time.tStart then tickFind s.tickL s.time.lens s.tick s.time.tStart t
  else if t < s.time.tStart + s.tickL then s.tick
  else s.tick + 1 + (t - (s.time.tStart + s.tickL)) / max 1 s.nextL

/-- Window fraction of the next tick, a stored WINDOW included. -/
def State.nextF (s : State) : Nat := ((cmdArg s 3 (s.tick + 1)).map (· % 2 ^ 8)).getD s.tickF

/-- W of the current tick: floor(L × F / 256) ns. -/
def State.winW (s : State) : Nat := s.tickL * s.tickF / 256

/-- The lanes and the ring interface run: powered, out of reset, and not frozen in FULL scope (R569). -/
def lanesOn (s : State) : Bool :=
  s.node.rails && !s.node.rstLow && !s.node.inReset && (s.st != NS.eclipse || s.ecl.scope == 1)

/-- Nanoseconds into the tick at ring time `t`: in ECLIPSE the gates go on with the tick length in force at the freeze (R569). -/
def tickPos (s : State) (t : Nat) : Nat :=
  if s.st = NS.eclipse then (t - s.time.tStart) % max 1 s.tickL else t - s.time.tStart

/-! ## Ports (R148, R162) -/

/-- The node's lanes are reversed (R120). -/
def State.reversed (s : State) : Bool := s.on (P.lane 0) F.LANE_LANE_STAT_REVERSED

/-- The physical lane of a ring port: ports 0 and 1 are the effective roles E and W. -/
def portLane (s : State) (p : Nat) : Nat := if s.reversed && decide (p < 2) then 1 - p else p

/-- The ring port that a physical lane is. -/
def lanePort (s : State) (i : Nat) : Nat := if s.reversed && decide (i < 2) then 1 - i else i

/-- A lane is UP (R114). -/
def laneUp (s : State) (i : Nat) : Bool := s.rd (P.lane i) F.LANE_LANE_STAT_STATE == 4

/-- A port is down (R162). -/
def portDown (s : State) (p : Nat) : Bool :=
  !s.enabled (P.swport p) ||
    (if p < 4 then !laneUp s (portLane s p)
     else if p < 8 then !(s.on (P.eth (p - 4)) F.ETH_LINK_STAT_UP && domOn s 7)
     else if p = 12 then !domOn s 6
     else false)

/-- Port rate in kb/s (R112, R114; S1 in the Tap role by R497; Ethernet by R425). DEDUCED (log 85): LINK_STAT.SPEED is coded as
MAC_CFG.SPEED, and 3 is 2,500 Mb/s. -/
def portRate (s : State) (p : Nat) : Nat :=
  if p < 2 then 10000000
  else if p = 3 ∧ s.on (P.pd 0) F.PD_PD_STAT_TAP then 10000000
  else if p < 4 then (if s.rd (P.lane p) F.LANE_LANE_CFG_RATE = 1 then 25000000 else 10000000)
  else if p < 8 then
    match s.rd (P.eth (p - 4)) F.ETH_LINK_STAT_SPEED with
    | 0 => 10000 | 1 => 100000 | 2 => 1000000 | _ => 2500000
  else 0

/-- An ALERT_STAT bit is set; a change from 0 to 1 raises ALERT (R181). -/
def alert (s : State) (p k : Nat) : State :=
  if s.bit (P.swport p) F.SWPORT_ALERT_STAT_ALERT k then s
  else raise (s.setBit (P.swport p) F.SWPORT_ALERT_STAT_ALERT k true) (P.swport p) 0

/-- A frame of class `c` is dropped at port `p` (R158). -/
def dropAt (s : State) (p c : Nat) : State := alert (s.inc (P.swport p) (F.SWPORT_DROP_N c)) p 0

/-! ## The cell pool (R155 to R157, R176) -/

/-- MIN and MAX of queue `q`, used as the nearest limit of their ranges (R268). -/
def qMin (s : State) (q : Nat) : Nat := min 24576 (s.rd (P.queue q) (F.QUEUE_Q_LIMIT_MIN (q % 16)))
def qMax (s : State) (q : Nat) : Nat := clampNat 1 24576 (s.rd (P.queue q) (F.QUEUE_Q_LIMIT_MAX (q % 16)))

/-- Cells that queue `q` is charged with. -/
def qOcc (s : State) (q : Nat) : Nat := s.sw.occ.at 0 q

/-- Free cells. -/
def poolFree (s : State) : Nat := 24576 - s.sw.used

/-- Σ over all queues of max(0, MIN − occupancy). -/
def guarUnused (s : State) : Nat := (List.range 1024).foldl (fun a q => a + (qMin s q - qOcc s q)) 0

/-- Σ MIN over all queues. -/
def guarSum (s : State) : Nat := (List.range 1024).foldl (fun a q => a + qMin s q) 0

/-- shared_free (R156), signed. -/
def sharedFree (s : State) : Int := (poolFree s : Int) - (guarUnused s : Int)

/-- The admission threshold of queue `q`: 0 for switch queues of classes 6 and 7, else POOL_RESERVE. -/
def qThreshold (s : State) (q : Nat) : Nat :=
  if q < 112 ∧ 6 ≤ q % 8 then 0 else s.rd P.pool F.CELLPOOL_POOL_CFG_POOL_RESERVE

/-- Admission of `k` cells to queue `q` (R156, R157): 0 refused, 1 admitted, 2 a step 1 admission that finds no free cell. -/
def admits (s : State) (q k : Nat) : Nat :=
  let occ := qOcc s q
  if occ + k ≤ qMin s q then (if k ≤ poolFree s then 1 else 2)
  else if occ + k ≤ qMax s q ∧ (qThreshold s q : Int) ≤ sharedFree s - ((occ + k - max occ (qMin s q) : Nat) : Int) then 1
  else 0

/-- Count a refused step 1 admission. -/
def noteRefusal (s : State) (r : Nat) : State := s.when (r == 2) (·.inc P.pool F.CELLPOOL_CNT_ALLOC_FAIL_N)

/-- SHARED_MIN follows shared_free (R176). -/
def sharedMin (s : State) : State :=
  let sf := sharedFree s
  if sf < toSigned 16 (s.rd P.pool F.CELLPOOL_SHARED_MIN_CELLS) then
    s.wr P.pool F.CELLPOOL_SHARED_MIN_CELLS (ofSigned 16 sf) else s

/-- The pool monitors after the used count has moved from `before` (R176). -/
def poolMonitor (s : State) (before : Nat) : State :=
  let s := sharedMin (s.maxr P.pool F.CELLPOOL_USED_MAX_CELLS s.sw.used)
  let s := s.each 4 fun t k =>
    let lvl := t.rd P.pool (F.CELLPOOL_WM_LEVEL k)
    if t.on P.pool (F.CELLPOOL_WM_EN k) && decide (before < lvl) && decide (lvl ≤ t.sw.used) &&
        !t.bit P.pool F.CELLPOOL_WM_STAT_CROSSED k then
      raise (t.setBit P.pool F.CELLPOOL_WM_STAT_CROSSED k true) P.pool k
    else t
  raiseIf s (decide (before < 24576) && s.sw.used == 24576) P.pool 5

/-- Charge queue `q` with `k` cells, of which `fresh` are newly taken from the pool. -/
def chargeCells (s : State) (q k fresh : Nat) : State :=
  let before := s.sw.used
  poolMonitor { s with sw := { s.sw with occ := s.sw.occ.put 0 q (qOcc s q + k), used := before + fresh } } before

/-- Discharge queue `q` of `k` cells, of which `back` return to the pool. Where fewer return, its guarantee may take of
shared_free. -/
def dischargeCells (s : State) (q k back : Nat) : State :=
  let s := { s with sw := { s.sw with occ := s.sw.occ.put 0 q (qOcc s q - k), used := s.sw.used - back } }
  if back < k then sharedMin s else s

/-- The sum of guarantees changed: OVERCOMMIT (R157). -/
def judgeOvercommit (s : State) : State :=
  let tooMuch := decide (24576 < guarSum s + s.rd P.pool F.CELLPOOL_POOL_CFG_POOL_RESERVE)
  let was := s.on P.pool F.CELLPOOL_POOL_STAT_OVERCOMMIT
  raiseIf (s.wr P.pool F.CELLPOOL_POOL_STAT_OVERCOMMIT (b2n tooMuch)) (tooMuch && !was) P.pool 4

/-- Cells of a ring frame (R155). -/
def ringCells (f : Frame) : Nat := ceilDiv (f.plen + 28) 256

/-! ## Switch queues -/

/-- The frames of queue `q`, oldest first. -/
def swQueue (s : State) (q : Nat) : List SwEntry := s.sw.queues.at [] q

/-! ## Where a frame goes (R150, R151) -/

/-- The local port of a unicast frame; none for what the lane and time-base logic takes. TUNNEL_ETH's ETH port is given by
the tunnel mapping. -/
def localPort (f : Frame) (eth : Nat) : Option Nat :=
  match f.typ with
  | 0x2 => some 10
  | 0x3 => some 9 | 0x4 => some 9
  | 0x5 => some 8 | 0x6 => some 8
  | 0x7 => some 11
  | 0x8 => some (match f.cls with | 6 => 8 | 5 => 10 | 4 => 9 | 3 => 13 | _ => 12)
  | 0x9 => if eth < 4 then some (4 + eth) else none
  | 0xA => some 12
  | 0xB => some 13
  | 0xC => some 13
  | 0xD => if f.cls = 3 then some 13 else none
  | _ => none

/-- Local ports of a group (R151): group 0 the time base, group 1 MGMT, else the valid entry's PORTS without the lanes. -/
def groupPorts (s : State) (g : Nat) : List Nat :=
  if g = 0 then []
  else if g = 1 then [13]
  else if s.rdi P.switch F.SWITCH_GRP_DATA_VALID g = 1 then
    (List.range 14).filter fun p => decide (4 ≤ p) && bitOf (s.rdi P.switch F.SWITCH_GRP_DATA_PORTS g) p
  else []

/-! ## Gates and guards (R165 to R168) -/

/-- The offset of gate entry `k` in a tick with window `w`. -/
def gclOffset (s : State) (p k w : Nat) : Nat :=
  if s.on (P.swport p) (F.SWPORT_GCL_AT_W k) then w else s.rd (P.swport p) (F.SWPORT_GCL_OFFSET k)

/-- Valid entries of the list in a tick of length `l` and window `w`: (offset, gates); an offset of at least `l` is ignored. -/
def gclList (s : State) (p l w : Nat) : List (Nat × Nat) :=
  ((List.range 8).filter fun k => s.on (P.swport p) (F.SWPORT_GCL_VALID k) && decide (gclOffset s p k w < l)).map
    fun k => (gclOffset s p k w, s.rd (P.swport p) (F.SWPORT_GCL_GATES k))

/-- The entry with the largest offset among those that satisfy `ok`; of equal offsets the later entry. -/
def gclBest (ok : Nat → Bool) (l : List (Nat × Nat)) : Option (Nat × Nat) :=
  l.foldl (fun b e => if ok e.1 then (match b with
    | some x => if x.1 ≤ e.1 then some e else b
    | none => some e) else b) none

/-- The gate mask `x` ns into a tick with entry list `l` (R165): bit 7 always open (R166). -/
def gateMask (l : List (Nat × Nat)) (x : Nat) : Nat :=
  match gclBest (fun o => decide (o ≤ x)) l with
  | some e => withBit e.2 7
  | none =>
    match gclBest (fun _ => true) l with
    | some e => withBit e.2 7
    | none => 0xFF

/-- Gate state of port `p` at ring time `t` of the current tick. -/
def gatesNow (s : State) (p t : Nat) : Nat :=
  if p < 8 then gateMask (gclList s p s.tickL s.winW) (tickPos s t) else 0xFF

/-- The next instant after `t` at which class `c` of port `p` closes; none if its gate never closes (R167). -/
def gateClose (s : State) (p c t : Nat) : Option Nat :=
  if 8 ≤ p then none
  else
    let l := gclList s p s.tickL s.winW
    let l2 := gclList s p s.nextL (s.nextL * s.nextF / 256)
    let x := tickPos s t
    let this := l.filterMap fun e =>
      if x < e.1 ∧ !bitOf (gateMask l e.1) c then some (t - x + e.1) else none
    let next := (0 :: l2.map (·.1)).filterMap fun o =>
      if !bitOf (gateMask l2 o) c then some (t - x + s.tickL + o) else none
    (this ++ next).foldl (fun b i => match b with
      | some j => some (min i j)
      | none => some i) none

/-- Bits of link time of a frame at port `p`: PLEN + 40 bytes on a ring lane (R123), length + 20 bytes on Ethernet. -/
def linkBits (p : Nat) (e : SwEntry) : Nat :=
  (if p < 4 then e.frame.plen + 40 else (if e.ethLen = 0 then e.frame.plen + 4 else e.ethLen) + 20) * 8

/-- The frame's link time at port `p` is below `x` ns, without rounding: the rate is in kb/s. -/
def linkBelow (s : State) (p : Nat) (e : SwEntry) (x : Nat) : Bool := decide (linkBits p e * 1000000 < x * portRate s p)

/-- The frame's link time at port `p` exceeds `x` ns. -/
def linkAbove (s : State) (p : Nat) (e : SwEntry) (x : Nat) : Bool := decide (x * portRate s p < linkBits p e * 1000000)

/-- Whether a frame of class `c` at port `p` may start at `t` before its class closes at `close` (R167): t < close − guard. -/
def guardMet (s : State) (p c : Nat) (e : SwEntry) (t close : Nat) : Bool :=
  if s.on (P.swport p) F.SWPORT_PORT_CFG_GUARD_MODE then linkBelow s p e (close - t)
  else decide (t + s.rd (P.swport p) (F.SWPORT_GUARD_NS c) < close)

/-- The longest open interval of class `c` in the list of port `p`, over two ticks; none if it never closes. -/
def longestOpen (s : State) (p c : Nat) : Option Nat :=
  let l := gclList s p s.tickL s.winW
  let pts := (0 :: l.map (·.1))
  if pts.all fun o => bitOf (gateMask l o) c then none
  else
    some (pts.foldl (fun b o =>
      if bitOf (gateMask l o) c then
        let ends := (l.map (·.1) ++ l.map (fun e => e.1 + s.tickL) ++ [s.tickL]).filter fun q =>
          decide (o < q) && !bitOf (gateMask l (q % s.tickL)) c
        match ends.foldl (fun b i => match b with
          | some j => some (min i j)
          | none => some i) none with
        | some q => max b (q - o)
        | none => b
      else b) 0)

/-! ## Shapers (R172, R173): credit in 10^-6 bit, slopes in kb/s, so credit moves by slope × ns -/

/-- A shaper's record: key 8p + c. -/
def shaper (s : State) (p c : Nat) : ShapeSt := s.sw.shapers.at {} (8 * p + c)

/-- Set a shaper's record. -/
def setShaper (s : State) (p c : Nat) (x : ShapeSt) : State :=
  { s with sw := { s.sw with shapers := s.sw.shapers.put {} (8 * p + c) x } }

/-- idleSlope in force: at most the port rate. -/
def idleSlope (s : State) (p c : Nat) : Nat := min (shaper s p c).idle (portRate s p)

/-- The credit of class `c` at ring time `t`: `busy` says the class is in transmission, `waits` that a frame of it waits,
`openG` that its gate is open, all since the last update. -/
def creditAt (s : State) (p c t : Nat) (busy waits openG : Bool) : Int :=
  let x := shaper s p c
  let dt : Int := (s.upAt t - x.last : Nat)
  let lo : Int := -(x.lo * 1000000 : Nat)
  let hi : Int := (x.hi * 1000000 : Nat)
  let idle : Int := idleSlope s p c
  let v : Int :=
    if busy then max lo (x.credit + (idle - portRate s p) * dt)
    else if !openG then x.credit
    else if waits then min hi (x.credit + idle * dt)
    else if x.credit < 0 then min 0 (x.credit + idle * dt)
    else 0
  v

/-- The credit of class `c` at port `p` at ring time `t` (R172). -/
def creditNow (s : State) (p c t : Nat) : Int :=
  let busy := match s.sw.sending.at none p with
    | some (_, k, _) => k == c
    | none => false
  creditAt s p c t busy (!(swQueue s (8 * p + c)).isEmpty) (shaper s p c).openG

/-- Bring the credits of port `p` to ring time `t`, at which its gates are as they are from here on. -/
def shapeTo (s : State) (p t : Nat) : State :=
  if 8 ≤ p then s
  else s.each 4 fun u c =>
    if bitOf (u.rd (P.swport p) F.SWPORT_SHAPER_CFG_EN) c then
      let v := creditNow u p c t
      let u := setShaper u p c { shaper u p c with credit := v, last := s.upAt t, openG := bitOf (gatesNow u p t) c }
      u.wr (P.swport p) (F.SWPORT_CREDIT_BITS c) (ofSigned 32 (v / 1000000))
    else u

/-- A write of SHAPER_CFG with enables `en`: credits are brought up to date, and a shaper that it enables starts at 0 (R172). -/
def shaperEnable (s : State) (p en : Nat) : State :=
  let was := s.rd (P.swport p) F.SWPORT_SHAPER_CFG_EN
  (shapeTo s p s.now).each 4 fun u c =>
    if bitOf en c && !bitOf was c then
      (setShaper u p c { shaper u p c with credit := 0, last := s.upAt s.now, openG := bitOf (gatesNow u p s.now) c }).wr
        (P.swport p) (F.SWPORT_CREDIT_BITS c) 0
    else u

/-- Latch the shaper parameters of class `c` at port `p` (R173). DESIGN CHOICE (log 100): SHAPER_RESETS counts once for each class that
latches, also where several do at one instant. -/
def shaperLatch (s : State) (p c : Nat) : State :=
  let x := shaper s p c
  if x.wait then
    let s := s.wr (P.swport p) (F.SWPORT_LAST_DISCARD_BITS c) (ofSigned 32 (x.credit / 1000000))
    let hi := s.rd (P.swport p) (F.SWPORT_HI_CREDIT_BITS c)
    let cr : Int := if bitOf (s.rd (P.swport p) F.SWPORT_SHAPER_CFG_RESET_HI) c then (hi * 1000000 : Nat) else 0
    let s := setShaper s p c { x with
      credit := cr, idle := s.rd (P.swport p) (F.SWPORT_IDLE_SLOPE_KBPS c), hi := hi,
      lo := s.rd (P.swport p) (F.SWPORT_LO_CREDIT_BITS c), wait := false }
    let s := s.wr (P.swport p) (F.SWPORT_CREDIT_BITS c) (ofSigned 32 (cr / 1000000))
    alert (s.inc (P.swport p) F.SWPORT_SHAPER_RESETS_N) p 4
  else s

/-- A write of shaper parameters of class `c`: it latches at once on an idle port (R173). -/
def shaperWritten (s : State) (p c : Nat) : State :=
  let s := shapeTo s p s.now
  let s := setShaper s p c { shaper s p c with wait := true }
  if (s.sw.sending.at none p).isNone then shaperLatch s p c else s

/-- Credit allows a start at `t`: class 4 and up, a shaper not enabled, or credit at least 0 (R171, R172). -/
def creditOk (s : State) (p c t : Nat) : Bool :=
  8 ≤ p || 4 ≤ c || !bitOf (s.rd (P.swport p) F.SWPORT_SHAPER_CFG_EN) c || decide (0 ≤ creditNow s p c t)

/-! ## The end of a transmission, and what queues hold -/

/-- Nothing is in transmission at port `p` any more: waiting shaper parameters latch, and a STOP has its safe point (R164, R173). -/
def sendOver (s : State) (p : Nat) : State :=
  let s := { s with sw := { s.sw with sending := s.sw.sending.put none p none } }
  let s := s.wr (P.swport p) F.SWPORT_PORT_STAT_TX_BUSY 0
  let s := s.each 4 fun u c => if p < 8 then shaperLatch u p c else u
  if s.stopReq (P.swport p) then s.wr (P.swport p) F.HDR_PAGE_STAT_STOPPED 1 else s

/-- Set the frames of queue `q`; the credit of its class is brought up to date first. -/
def setSwQueue (s : State) (q : Nat) (l : List SwEntry) : State :=
  let s := shapeTo s (q / 8) s.now
  { s with sw := { s.sw with queues := s.sw.queues.put [] q l } }

/-- Put a frame with storage number `id` at the end of queue `q`; the storage counts its holders (R155). -/
def enqueue (s : State) (q id : Nat) (f : Frame) (k : Nat) (ready cut : Bool) (ingress : Nat) (ethLen : Nat := 0) : State :=
  let held := s.sw.store.at (0, 0) id
  let s := chargeCells s q k (if held.1 = 0 then k else 0)
  let s := { s with sw := { s.sw with store := s.sw.store.put (0, 0) id (held.1 + 1, k) } }
  setSwQueue s q (swQueue s q ++ [{ id := id, frame := f, cells := k, ready := ready, ingress := ingress, cut := cut,
                                     ethLen := ethLen }])

/-- Queue `q` releases a frame: its charge ends, and its cells return when the last holder releases it. -/
def releaseEntry (s : State) (q : Nat) (e : SwEntry) : State :=
  let held := s.sw.store.at (0, 0) e.id
  let s := dischargeCells s q e.cells (if held.1 ≤ 1 then e.cells else 0)
  { s with sw := { s.sw with store := s.sw.store.put (0, 0) e.id (if held.1 ≤ 1 then (0, 0) else (held.1 - 1, held.2)) } }

/-- A new storage number. -/
def newId (s : State) : Nat × State := (s.sw.nextId, { s with sw := { s.sw with nextId := s.sw.nextId + 1 } })

/-- Port `p` flushes its 8 output queues; a frame in transmission is cut (R162). -/
def flushPort (s : State) (p : Nat) : State :=
  let s := s.each 8 fun t c =>
    let q := 8 * p + c
    let l := swQueue t q
    if l.isEmpty then t
    else
      let t := l.foldl (fun u e => releaseEntry u q e) t
      let t := setSwQueue t q []
      alert (t.inc (P.swport p) (F.SWPORT_FLUSH_N c) l.length) p 1
  match s.sw.sending.at none p with
  | some (e, c, _) =>
    sendOver (releaseEntry (shapeTo s p s.now) (8 * p + c) e) p
  | none => s

/-! ## Admission of a frame to its queues (R156 to R161, R163) -/

/-- A destination of a frame: the output port. -/
def outQueue (p c : Nat) : Nat := 8 * p + c

/-- Cut-through applies at egress `p` (R152, conditions 1 to 6); admission is condition 7. -/
def cutThrough (s : State) (ingress p : Nat) (f : Frame) (t : Nat) : Bool :=
  decide (ingress < 4) && decide (p < 8) &&
    bitOf (s.rd P.switch F.SWITCH_SW_CFG_CT_CLASSES) f.cls && s.on (P.swport p) F.SWPORT_PORT_CFG_CT_EN &&
    (s.sw.sending.at none p).isNone && ((List.range 8).all fun c => decide (c < f.cls) || (swQueue s (8 * p + c)).isEmpty) &&
    (f.cls == 7 || (bitOf (gatesNow s p t) f.cls &&
      (match gateClose s p f.cls t with
        | some x => guardMet s p f.cls { id := 0, frame := f, cells := 0, ready := true, ingress := ingress } t x
        | none => true))) &&
    creditOk s p f.cls t && decide (portRate s p ≤ portRate s ingress)

/-- Admit a frame with storage number `id` to the queue of port `p`. True if it was admitted. A port that is down admits
nothing (R163). -/
def admitOne (s : State) (p id : Nat) (f : Frame) (ready cut : Bool) (ingress : Nat) : Bool × State :=
  let q := outQueue p f.cls
  let k := ringCells f
  if portDown s p then (false, s)
  else
    let r := admits s q k
    if r = 1 then (true, enqueue s q id f k ready cut ingress)
    else (false, noteRefusal s r)

/-- Every queue of class `c` at the ports `ps` admits `k` cells, judged together before any is charged (R160, R161). -/
def admitsAll (s : State) (ps : List Nat) (c k : Nat) : Bool := ps.all fun p => admits s (outQueue p c) k == 1

/-- Count the refusals among them that found no free cell for a guarantee (R157). -/
def noteRefusals (s : State) (ps : List Nat) (c k : Nat) : State :=
  ps.foldl (fun t p => noteRefusal t (admits s (outQueue p c) k)) s

/-- Put a frame that has been admitted at port `p` into its queue. -/
def putOne (s : State) (p id : Nat) (f : Frame) (ready cut : Bool) (ingress : Nat) : State :=
  enqueue s (outQueue p f.cls) id f (ringCells f) ready cut ingress

/-- A received frame has entered the queue of port `p`: by cut-through, or stored. -/
def countPath (s : State) (p : Nat) (cut : Bool) : State :=
  if cut then (s.inc P.switch F.SWITCH_CNT_CT_N).inc (P.swport p) F.SWPORT_CT_FRAMES_N
  else if p < 8 then s.inc P.switch F.SWITCH_CNT_SF_N else s

/-- A frame that is admitted at every destination queue or at none (R160). -/
def wholeOrNone (f : Frame) : Bool := f.mc && f.cls == 6

/-- Admit a received frame at each of `outs` (R160): CONTROL multicast is all or none, together with the copies `far` of it that cross
to the other ring of a joint. A port that is down is no destination of a frame that has another; a frame with none else is dropped
there (R163). Answers the ports that took it. -/
def admitFrame (s : State) (outs : List Nat) (id : Nat) (f : Frame) (ready : Bool) (ingress : Nat) (far : List (Nat × Frame) := []) :
    List Nat × State :=
  let up := outs.filter fun p => !portDown s p
  let xs := far.filter fun c => !portDown s c.1
  let all := up ++ xs.map (·.1)
  if all = [] then ([], outs.foldl (fun t p => dropAt t p f.cls) s)
  else if wholeOrNone f then
    if admitsAll s all 6 (ringCells f) then
      let s := up.foldl (fun t p =>
        let cut := !ready && cutThrough t ingress p f t.now
        countPath (putOne t p id f ready cut ingress) p cut) s
      (all, xs.foldl (fun t c => putOne t c.1 id c.2 ready false ingress) s)
    else ([], countRaise (noteRefusals s all 6 (ringCells f)) P.switch F.SWITCH_CNT_MC_REFUSED_N P.switch 0)
  else
    up.foldl (fun a p =>
      let cut := !ready && cutThrough a.2 ingress p f a.2.now
      let o := admitOne a.2 p id f ready cut ingress
      if o.1 then (a.1 ++ [p], countPath o.2 p cut) else (a.1, dropAt o.2 p f.cls)) ([], s)

/-- Mark the frame `id` as passed: it may leave every queue that holds it. -/
def markReady (s : State) (id : Nat) : State :=
  { s with sw := { s.sw with queues := s.sw.queues.map fun e =>
      (e.1, e.2.map fun x => if x.id = id then { x with ready := true } else x) } }

/-- The entries of frame `id` in the queues of class 6 at the ports `ps` take the sequence number `n` (R230). -/
def numberEntries (s : State) (ps : List Nat) (id n : Nat) : State :=
  ps.foldl (fun t p => setSwQueue t (outQueue p 6) ((swQueue t (outQueue p 6)).map fun y =>
    if y.id = id then { y with frame := { y.frame with seq := n } } else y)) s

/-- Give the entries of frame `id` a stamp (R86). -/
def stampEntry (s : State) (id x : Nat) : State :=
  { s with sw := { s.sw with queues := s.sw.queues.map fun e =>
      (e.1, e.2.map fun y => if y.id = id then { y with stamp := some x } else y) } }

/-- Take the frame `id` out of the queues in `qs`: it is discarded there. -/
def dropStored (s : State) (id : Nat) (qs : List Nat) : State :=
  qs.foldl (fun t q =>
    let l := swQueue t q
    let t := (l.filter (·.id == id)).foldl (fun u e => releaseEntry u q e) t
    setSwQueue t q (l.filter (·.id != id))) s

/-- The frame `id` ends (R130, R177, R429): where it is in transmission on ring or Ethernet egress it is stomped; in a queue it is
discarded. -/
def stompStored (s : State) (id : Nat) : State :=
  let s := s.each 14 fun t p =>
    match t.sw.sending.at none p with
    | some (e, c, _) =>
      if e.id = id then
        let t := sendOver (releaseEntry (shapeTo t p t.now) (8 * p + c) e) p
        let t := if p < 8 then t.emitStomp p e.frame else t
        if p < 4 then t.inc (P.lane (portLane t p)) F.LANE_STOMP_SENT_N
        else if p < 8 then countRaise t (P.eth (p - 4)) F.ETH_STOMP_TX_N (P.eth (p - 4)) 1
        else t
      else t
    | none => t
  dropStored s id (List.range 112)

/-! ## Originating (R131, R158, R161) -/

/-- Halo group of a class: 0 for 4 to 7, 1 for 0 to 3 (R125). -/
def haloGroup (c : Nat) : Nat := if 4 ≤ c then 0 else 1

/-- The frame is Halo-checked (R125). -/
def haloChecked (f : Frame) : Bool :=
  let sub := f.w4 / 2 ^ 24
  match f.typ with
  | 0x1 => false
  | 0xB => !(sub == 1 || sub == 2 || sub == 5)
  | 0xD => f.cls == 3
  | _ => true

/-- A frame of the Eclipse read-out: DUMP or DUMP_END (R580). -/
def dumpFrame (f : Frame) : Bool := f.typ == 0xD && f.cls == 3 && (f.w4 / 2 ^ 24 == 0x11 || f.w4 / 2 ^ 24 == 0x13)

/-- Local insertion of a frame type in this state (R60, R59): everything from COMMISSION on; in JOIN supervision, probes,
transactions, TICK (R99), and what reopens sessions and resynchronises Drift; in ISOLATE probes; in ECLIPSE the read-out. -/
def mayOriginate (s : State) (f : Frame) : Bool :=
  if s.working then true
  else if s.st = NS.join then
    [1, 3, 4, 5, 6, 7, 0xB, 0xD].contains f.typ || (f.typ == 8 && f.cls == 4)
  else if s.st = NS.isolate then f.typ == 0xD && (f.w4 / 2 ^ 24 == 2 || f.w4 / 2 ^ 24 == 3)
  else s.st == NS.eclipse && dumpFrame f

/-- The next SEQ of a Halo group; `k` is a gateway's ring-k side, which has its own counters (R131). -/
def haloSeq (s : State) (k : Bool) (g : Nat) : Nat :=
  let c := if k then s.halo.seqK else s.halo.seq
  if g = 0 then c.1 else c.2

/-- One more frame originated in group `g` (R131). -/
def haloSeqNext (s : State) (k : Bool) (g : Nat) : State :=
  let up := fun (c : Nat × Nat) => if g = 0 then ((c.1 + 1) % 65536, c.2) else (c.1, (c.2 + 1) % 65536)
  { s with halo := if k then { s.halo with seqK := up s.halo.seqK } else { s.halo with seq := up s.halo.seq } }

/-- Address and its validity on a side: NODE_ADDR, or GW_ADDR on ring k. -/
def sideAddr (s : State) (k : Bool) : Bool × Nat :=
  if k then (s.on P.gw F.GATEWAY_GW_ADDR_VALID, s.rd P.gw F.GATEWAY_GW_ADDR_ADDR) else (s.ownValid, s.own)

/-- An address of this node. -/
def isOwn (s : State) (a : Nat) : Bool := (s.ownValid && s.own == a) || ((sideAddr s true).1 && (sideAddr s true).2 == a)

/-- The copies of an originated frame: egress port and REACH of each (R127, R131). `re` and `rw` are the hop budgets. -/
def copiesOf (s : State) (k : Bool) (re rw : Nat) : List (Nat × Nat) :=
  ([(if k then 2 else 0, re), (if k then 3 else 1, rw)]).filter fun c => c.2 != 0 && laneUp s (portLane s c.1)

/-- Back-pressured classes of internal producers (R158). -/
def backPressured (c : Nat) : Bool := c == 7 || c == 6 || c == 4 || c == 3

/-- Try to admit an originated frame: (it is done with, the new state). The SEQ is taken at admission. DEDUCED (log 81): a frame of
ring k waits for the wait after the ANNOUNCE of ring k too. DESIGN CHOICE (log 99): a CONTROL multicast that its producer holds back
is not taken by none of its queues, it waits for all of them, and CNT_MC_REFUSED does not count it (R158, R160). -/
def tryOriginate (s : State) (o : Offer) : Bool × State :=
  let ad := sideAddr s o.ringK
  let f := { o.frame with src := if ad.1 then ad.2 else 0xFFF, tick := s.tick % 65536 }
  if s.st = NS.eclipse ∧ dumpFrame f = false then (false, s)
  else if (haloChecked f && (!ad.1 || s.halo.withdrawn)) || !mayOriginate s f then (true, s)
  else if haloChecked f && (!s.on P.halo F.HALO_JOIN_STAT_HOLD_DONE || (o.ringK && !s.halo.holdK)) then (false, s)
  else
    let cs := copiesOf s o.ringK o.reachE o.reachW
    let k := ringCells f
    let g := haloGroup f.cls
    let f := { f with seq := if haloChecked f then haloSeq s o.ringK g else 0 }
    let copy := fun (c : Nat × Nat) => { f with copy := c.1 % 2, reach := c.2 }
    let (id, t) := newId s
    if backPressured f.cls then
      let up := cs.filter fun c => !portDown s c.1
      if admitsAll s (up.map (·.1)) f.cls k then
        let t := (cs.filter fun c => portDown s c.1).foldl (fun u c => dropAt u c.1 f.cls) t
        let t := up.foldl (fun u c => putOne u c.1 id (copy c) true false o.port) t
        let t := match o.stamp with
          | some x => stampEntry t id x
          | none => t
        (true, if haloChecked f && !up.isEmpty then haloSeqNext t o.ringK g else t)
      else (false, if o.judged then s else noteRefusals s (up.map (·.1)) f.cls k)
    else
      let r := cs.foldl (fun a c =>
        let x := admitOne a.2 c.1 id (copy c) true false o.port
        if x.1 then (true, x.2) else (a.1, dropAt x.2 c.1 f.cls)) (false, t)
      (true, if r.1 && haloChecked f then haloSeqNext r.2 o.ringK g else r.2)

/-- Admission holds an offer back, and not the wait of R137 or a freeze: such a frame counts in BP_COUNT. -/
def backHeld (s : State) (o : Offer) : Bool :=
  backPressured o.frame.cls && s.st != NS.eclipse &&
    (!haloChecked o.frame || (s.on P.halo F.HALO_JOIN_STAT_HOLD_DONE && (!o.ringK || s.halo.holdK)))

/-- Two offers are of one ingress, class and ring: they leave in order (R154). -/
def sameFlow (x o : Offer) : Bool := x.port == o.port && x.frame.cls == o.frame.cls && x.ringK == o.ringK

/-- Offer `o` leaves after offer `x` (R154). One that only the wait of R137 holds back has not come to admission: it holds back what
has to wait as long as it does, and no frame of the lane logic, such as NEIGHBOUR (R138). -/
def leavesAfter (s : State) (o x : Offer) : Bool := sameFlow o x && (backHeld s x || haloChecked o.frame)

/-- An offer that has to wait is counted once as back-pressured (R158). -/
def offerWaits (s : State) (o : Offer) : Offer × State :=
  if !o.waited && backHeld s o then ({ o with waited := true }, s.inc (P.swport o.port) F.SWPORT_BP_COUNT_N) else (o, s)

/-- An offer comes to admission, unless one that waits holds it back: it is done with, or it waits. Answers whether it is done
with. -/
def offerTry (s : State) (o : Offer) : Bool × Offer × State :=
  if s.sw.offers.any (leavesAfter s o) then (false, offerWaits s o)
  else
    let r := tryOriginate s o
    if r.1 then (true, o, r.2) else (false, offerWaits r.2 { o with judged := o.judged || backHeld s o })

/-- Offer a frame on one side (R158, R161): it is admitted, dropped, or held by its producer. -/
def originateOn (s : State) (k : Bool) (port : Nat) (f : Frame) (re rw : Nat) (stamp : Option Nat := none) : State :=
  let o : Offer := { port := port, frame := f, reachE := re, reachW := rw, ringK := k, stamp := stamp }
  let r := offerTry s o
  if r.1 then r.2.2 else { r.2.2 with sw := { r.2.2.sw with offers := r.2.2.sw.offers ++ [r.2.1] } }

/-- Offer a frame through internal port `port`. A gateway is on two rings (R113): a unicast frame leaves on the ring of its
destination, a multicast frame on both. -/
def originate (s : State) (port : Nat) (f : Frame) (re : Nat := 0x3FF) (rw : Nat := 0x3FF) : State :=
  let k := s.rd P.gw F.GATEWAY_GW_CFG_RING_K
  if s.role = 3 ∧ k ≠ 0 then
    if f.mc then originateOn (originateOn s false port f re rw) true port f re rw
    else originateOn s (f.dst / 1024 == k) port f re rw
  else originateOn s false port f re rw

/-- Producers retry the frames they hold, oldest first (R158); one behind a frame of its flow that still waits, waits (R154). -/
def pumpOffers (s : State) : State :=
  s.sw.offers.foldl (fun t o =>
    let r := offerTry t o
    if r.1 then r.2.2 else { r.2.2 with sw := { r.2.2.sw with offers := r.2.2.sw.offers ++ [r.2.1] } })
    { s with sw := { s.sw with offers := [] } }

/-! ## Transmission (R171 to R173) -/

/-- Heads that leave a queue without being sent: a class-5 frame older than PUB_AGE (R169), and in GUARD_MODE 1 a frame
longer than its class's longest open interval (R168). -/
def purgeHead (s : State) (p c : Nat) : Nat → State
  | 0 => s
  | fuel + 1 =>
    let q := 8 * p + c
    match swQueue s q with
    | [] => s
    | e :: r =>
      let age := (s.tick + 65536 - e.frame.tick % 65536) % 65536
      let lim := max 1 (s.rd P.switch F.SWITCH_SW_CFG_PUB_AGE)
      if c = 5 ∧ lim < age then
        let s := releaseEntry (setSwQueue s q r) q e
        purgeHead (alert (s.inc (P.swport p) F.SWPORT_AGED_N) p 7) p c fuel
      else if decide (p < 8) && c != 7 && s.on (P.swport p) F.SWPORT_PORT_CFG_GUARD_MODE &&
          (match longestOpen s p c with
            | some x => linkAbove s p e x
            | none => false) then
        let s := releaseEntry (setSwQueue s q r) q e
        purgeHead (alert (s.inc (P.swport p) F.SWPORT_OVERSIZE_N) p 3) p c fuel
      else s

/-- Class `c` of port `p` has a frame eligible at `t` (R171). -/
def eligible (s : State) (p c t : Nat) : Bool :=
  match swQueue s (8 * p + c) with
  | [] => false
  | e :: _ =>
    (e.ready || e.cut) && (c == 7 || 8 ≤ p ||
      (bitOf (gatesNow s p t) c && creditOk s p c t &&
        (match gateClose s p c t with
          | some x => guardMet s p c e t x
          | none => true)))

/-- The highest class eligible at `t`. -/
def topClass (s : State) (p t : Nat) : Option Nat := ([7, 6, 5, 4, 3, 2, 1, 0]).find? fun c => eligible s p c t

/-- A TICK departs at `t`: its CORR, in 1/16 ns, takes the time since its stamp (R86). -/
def departs (e : SwEntry) (t : Nat) : SwEntry :=
  match e.stamp with
  | some x => { e with stamp := none, frame := { e.frame with w3 := (e.frame.w3 + (16 * t - x)) % 2 ^ 32 } }
  | none => e

/-- FRAME_TRANSMIT_START (R171): at a frame boundary of port `p` the highest eligible class starts. In GUARD_MODE 0 the close that
its class has then stays with it (R168, R170). -/
def transmitStart (s : State) (p t : Nat) : State :=
  if portDown s p || s.stopReq (P.swport p) || (s.sw.sending.at none p).isSome then s
  else
    let s := shapeTo s p t
    let s := s.each 8 fun u c => purgeHead u p c (swQueue u (8 * p + c)).length
    match topClass s p t with
    | none => s
    | some c =>
      match swQueue s (8 * p + c) with
      | [] => s
      | e :: r =>
        let s := setSwQueue s (8 * p + c) r
        let e := { departs e t with close := if s.on (P.swport p) F.SWPORT_PORT_CFG_GUARD_MODE then none else gateClose s p c t }
        let s := { s with sw := { s.sw with sending := s.sw.sending.put none p (some (e, c, t)) } }
        s.wr (P.swport p) F.SWPORT_PORT_STAT_TX_BUSY 1

/-- FRAME_TRANSMIT_END (R173): the frame has left port `p`; its cells return; waiting shaper parameters latch. -/
def transmitEnd (s : State) (p t : Nat) : State :=
  match s.sw.sending.at none p with
  | none => s
  | some (e, c, _) =>
    let s := (shapeTo s p t).inc (P.swport p) F.SWPORT_TX_FRAMES_N
    let s := releaseEntry s (8 * p + c) e
    let s := if p < 8 then s.emit p e.frame else { s with delivered := (p, e.frame) :: s.delivered }
    let s := if p < 4 then s.inc (P.lane (portLane s p)) F.LANE_TX_FRAMES_N else s
    let s := if decide (p < 8) && c != 7 &&
        (match e.close with
          | some x => decide (x < t)
          | none => false) then
        alert (s.inc (P.swport p) F.SWPORT_GATE_OVERRUN_N) p 2 else s
    sendOver s p

/-! ## Meters and Squall (R174, R175) -/

/-- A meter's record: key 8p + c. -/
def meter (s : State) (p c : Nat) : MeterSt := s.sw.meters.at {} (8 * p + c)

/-- The credit of a meter at `t`, in 10^-6 bit: it rises at METER_RATE up to METER_BURST. -/
def meterCredit (s : State) (p c t : Nat) : Int :=
  let m := meter s p c
  min (max 2048 (s.rd (P.swport p) (F.SWPORT_METER_BURST_BYTES c)) * 8 * 1000000 : Nat)
    (m.credit + (s.rd (P.swport p) (F.SWPORT_METER_RATE_KBPS c) * (s.upAt t - m.last) : Nat))

/-- Set it. -/
def setMeter (s : State) (p c t : Nat) (v : Int) : State :=
  { s with sw := { s.sw with meters := s.sw.meters.put {} (8 * p + c) { credit := v, last := s.upAt t } } }

/-- The credits of port `p` are brought up to date before a rate or a burst changes. -/
def meterTo (s : State) (p : Nat) : State := s.each 3 fun u c => setMeter u p c u.now (meterCredit u p c u.now)

/-- Judge `b` bytes of tunnel class `c` at the meter of port `p` at `t`: none drops the frame, else its class. -/
def metered (s : State) (p c b t : Nat) : Option Nat × State :=
  if c < 3 ∧ bitOf (s.rd (P.swport p) F.SWPORT_METER_CFG_EN) c then
    let cr := meterCredit s p c t
    let need : Int := (b * 8 * 1000000 : Nat)
    if need ≤ cr then (some c, setMeter s p c t (cr - need))
    else
      let s := alert ((setMeter s p c t cr).inc (P.swport p) (F.SWPORT_METER_DROP_N c)) p 5
      (if bitOf (s.rd (P.swport p) F.SWPORT_METER_CFG_ACTION) c then some 0 else none, s)
  else (some c, s)

/-- Squall on ingress (`inn`) or egress of ETH port `m`: false drops the frame (R175). The first drop of an interval, in either
direction, sets the alert. -/
def squall (s : State) (m : Nat) (inn : Bool) : Bool × State :=
  let p := 4 + m
  let n := s.sw.squall.at (0, 0) m
  let lim := s.rd (P.swport p) (if inn then F.SWPORT_SQ_LIMIT_IN else F.SWPORT_SQ_LIMIT_OUT)
  if lim = 0 then (true, s)
  else
    let n' := if inn then (n.1 + 1, n.2) else (n.1, n.2 + 1)
    let s := { s with sw := { s.sw with squall := s.sw.squall.put (0, 0) m n' } }
    if (if inn then n'.1 else n'.2) ≤ lim then (true, s)
    else
      let s := s.inc (P.swport p) (if inn then F.SWPORT_SQ_IN_DROP_N else F.SWPORT_SQ_OUT_DROP_N)
      if s.sw.sqSaid.at false m then (false, s)
      else (false, alert { s with sw := { s.sw with sqSaid := s.sw.sqSaid.put false m true } } p 6)

/-! ## Meanings -/

/-- The port takes part in what the switch does: in ECLIPSE only the ring ports, under PASS scope (R569). -/
def portRuns (s : State) (p : Nat) : Bool := decide (p < 14) && (s.alive || (lanesOn s && decide (p < 4)))

/-- FRAME_TRANSMIT_START (R171) at ring time `t`. -/
def execFrameTransmitStart (p t : Nat) (s : State) : Out :=
  .next (if portRuns s p then transmitStart (pumpOffers (s.atTime t)) p t else s)

/-- GATE_CHANGE (R165): ring time reaches a gate offset; credits are brought up to it and GATE_STAT shows the new state. -/
def execGateChange (p t : Nat) (s : State) : Out :=
  .next (if portRuns s p && decide (p < 8) then
    let s := shapeTo (s.atTime t) p t
    s.wr (P.swport p) F.SWPORT_GATE_STAT_OPEN (gatesNow s p t)
  else s)

/-- A new interval of port `m`, which ends at ring time `next`. -/
def squallRestart (s : State) (m next : Nat) : State :=
  { s with sw := { s.sw with squall := s.sw.squall.put (0, 0) m (0, 0), sqSaid := s.sw.sqSaid.put false m false
                             sqNext := s.sw.sqNext.put 0 m next } }

/-- SQ_INTERVAL in ns, used within its range. -/
def sqLen (s : State) (m : Nat) : Nat := clampNat 1 1000 (s.rd (P.swport (4 + m)) F.SWPORT_SQ_INTERVAL_MS) * 1000000

/-- SQUALL_INTERVAL (R175): ring time reaches the end of the interval of ETH port `m` that runs, or has passed it: the counts
restart, and the next interval ends at the first end that lies ahead. -/
def execSquallInterval (m : Nat) (s : State) : Out :=
  .next (if s.alive && decide (m < 4) then
    let n := s.sw.sqNext.at 0 m
    let t := max s.now n
    squallRestart (s.atTime t) m (n + sqLen s m * ((t - n) / sqLen s m + 1))
  else s)

end Sys2Proof.Machine
end

