-- ==== Sys2Proof/Machine/Queues.lean ====
section
/-!
DEFINITION. Queues 112 to 1,023: items, admission with recycling, and the consumer's commands
(09_queues_and_sessions.md, R242 to R249, R268).
-/

namespace Sys2Proof.Machine

/-! ## Reading a queue -/

/-- Q_CFG.TYPE. -/
def qType (s : State) (q : Nat) : Nat := s.rd (P.queue q) (F.QUEUE_Q_CFG_TYPE (q % 16))

/-- A queue's record. -/
def queueSt (s : State) (q : Nat) : QSt := s.ses.qs.at {} q

/-- The item is wholly delivered or dropped. -/
def QItem.done (x : QItem) : Bool := x.fin ≤ x.pos

/-- Cells of the item that the mark holds. -/
def QItem.heldCells (x : QItem) : Nat :=
  match x.held with
  | some h => x.pos - h
  | none => 0

/-- Data bytes of cell `i` (R258, Q_RES1.BYTES). -/
def QItem.bytesAt (x : QItem) (i : Nat) : Nat :=
  let t := x.head.length + x.data.length
  min 256 (t - 256 * i) - (if i = 0 then x.head.length else 0)

/-- The first cell that is not released: what is unread, held by the mark, or the cell delivered last stays (R245, R246). -/
def QItem.keepFrom (x : QItem) (last : Option (Nat × Nat)) : Nat :=
  let a := match x.held with
    | some h => min h x.pos
    | none => x.pos
  match last with
  | some (i, c) => if i = x.arr then min a c else a
  | none => a

/-- Cells of the queue: unread, held and last delivered (R246). -/
def QSt.cells (z : QSt) : Nat := z.items.foldl (fun a x => a + (x.fin - x.lo)) 0

/-- Release every cell that nothing keeps, and forget items without cells. -/
def QSt.settle (z : QSt) : QSt :=
  { z with items := (z.items.map fun x => { x with lo := max x.lo (x.keepFrom z.last) }).filter fun x => decide (x.lo < x.fin) }

/-- Store a queue's record; the pool is charged with what it holds now. -/
def setQueueSt (s : State) (q : Nat) (z : QSt) : State :=
  let z := z.settle
  let was := (queueSt s q).cells
  let t := { s with ses := { s.ses with qs := s.ses.qs.put {} q z } }
  if was ≤ z.cells then chargeCells t q (z.cells - was) (z.cells - was)
  else dischargeCells t q (was - z.cells) (was - z.cells)

/-- Change one item of a queue. -/
def QSt.setItem (z : QSt) (x : QItem) : QSt :=
  { z with items := z.items.map fun y => if y.arr = x.arr then x else y }

/-- The item with an arrival number. -/
def QSt.item (z : QSt) (a : Nat) : Option QItem := z.items.find? fun x => x.arr == a

/-- The item that the next POP reads (R243): the current one, the one R248 names, else the earliest of the highest priority. -/
def QSt.head (z : QSt) : Option QItem :=
  let live := z.items.filter fun x => !x.done
  match z.cur.bind z.item with
  | some x => some x
  | none =>
    match z.first.bind fun a => live.find? fun x => x.arr == a with
    | some x => some x
    | none => live.foldl (fun b x => match b with
      | some y => if y.prio < x.prio then some x else b
      | none => some x) none

/-! ## Admission (R156, R247, R248) -/

/-- Q_STAT's mark is lost if the item at which it stands is `a` (R248). -/
def QSt.recycle (z : QSt) (a : Nat) : QSt :=
  let atMark := match z.mark with
    | some (m, _) => m == a
    | none => false
  let z := { z with
    items := z.items.filter fun x => x.arr != a
    last := match z.last with
      | some (i, c) => if i = a then none else some (i, c)
      | none => none }
  if atMark then
    { z with mark := none, lost := true, items := z.items.map fun x => { x with held := none } }
  else z

/-- Recycle the earliest-arrived items until `k` more cells stay within MAX: the current item and a wholly delivered item
that no mark holds are passed over. Answers the record and how many items were released. -/
def recycleFor (s : State) (q k : Nat) : State × Nat :=
  (queueSt s q).items.foldl (fun a x =>
    if qOcc a.1 q + k ≤ qMax a.1 q then a
    else
      let z := queueSt a.1 q
      if z.cur == some x.arr || (x.done && x.heldCells == 0) then a
      else (setQueueSt a.1 q (z.recycle x.arr), a.2 + 1)) (s, 0)

/-- Cells of an item with `h` header bytes and `d` data bytes. -/
def itemCells (h d : Nat) : Nat := max 1 (ceilDiv (h + d) 256)

/-- Q_REFUSED counts refusals at queues of TYPE 2 to 4. -/
def qRefuse (s : State) (q : Nat) : State :=
  if 2 ≤ qType s q ∧ qType s q ≤ 4 then s.inc (P.queue q) (F.QUEUE_Q_REFUSED_N (q % 16)) else s

/-- An item arrives at queue `q` (R156, R242, R247): true if it is admitted. -/
def qAdmit (s : State) (q prio src tag info : Nat) (mayDup : Bool) (head data : List Nat) (ses : Bool := false) : Bool × State :=
  let k := itemCells head.length data.length
  if q < 112 ∨ 1024 ≤ q ∨ qType s q = 0 then (false, s)
  else
    let ow := s.on (P.queue q) (F.QUEUE_Q_CFG_OVERWRITE (q % 16))
    let t := if ow && decide (k ≤ qMax s q) then recycleFor s q k else (s, 0)
    let r := admits t.1 q k
    if r = 1 then
      let u := t.1.inc (P.queue q) (F.QUEUE_Q_RECYCLED_N (q % 16)) t.2
      let x : QItem := { arr := u.ses.next, prio := prio % 8, src := src, tag := tag, info := info, mayDup := mayDup,
                         head := head, data := data, n := k, fin := k, ses := ses }
      let u := { u with ses := { u.ses with next := u.ses.next + k } }
      let z := queueSt u q
      -- the earliest-arrived item that survives a recycling of the mark is next after the REWIND that reports it (R248)
      (true, setQueueSt u q { z with items := z.items ++ [x] })
    else (false, qRefuse (noteRefusal s (admits s q k)) q)

/-! ## Results (R245, R268) -/

/-- Q_RES0.RESULT codes. -/
def QR.ok : Nat := 1
def QR.empty : Nat := 2
def QR.markLost : Nat := 3
def QR.noMark : Nat := 4
def QR.notAllowed : Nat := 5
def QR.frozen : Nat := 6
def QR.badOp : Nat := 7

/-- Report a result with no item. -/
def qResult (s : State) (q code len : Nat) : State :=
  let p := P.queue q
  let j := q % 16
  let s := s.zero p [F.QUEUE_Q_RES0_FIRST j, F.QUEUE_Q_RES0_LAST j, F.QUEUE_Q_RES0_PRIO j, F.QUEUE_Q_RES0_MAYBE_DUP j,
    F.QUEUE_Q_RES0_CELL j, F.QUEUE_Q_RES1_SRC j, F.QUEUE_Q_RES1_TAG j, F.QUEUE_Q_RES1_BYTES j, F.QUEUE_Q_RES2_META j,
    F.QUEUE_Q_RES3_OFFSET j]
  (s.wr p (F.QUEUE_Q_RES0_RESULT j) code).wr p (F.QUEUE_Q_RES3_LEN j) len

/-- Report cell `i` of an item. -/
def qResultCell (s : State) (q : Nat) (x : QItem) (i : Nat) : State :=
  let p := P.queue q
  let j := q % 16
  let s := s.wr p (F.QUEUE_Q_RES0_RESULT j) QR.ok
  let s := s.wr p (F.QUEUE_Q_RES0_FIRST j) (b2n (i == 0))
  let s := s.wr p (F.QUEUE_Q_RES0_LAST j) (b2n (i + 1 == x.fin))
  let s := s.wr p (F.QUEUE_Q_RES0_PRIO j) x.prio
  let s := s.wr p (F.QUEUE_Q_RES0_MAYBE_DUP j) (b2n x.mayDup)
  let s := s.wr p (F.QUEUE_Q_RES0_CELL j) (Config.cellIndex (x.arr + i) % 24576)
  let s := s.wr p (F.QUEUE_Q_RES1_SRC j) x.src
  let s := s.wr p (F.QUEUE_Q_RES1_TAG j) x.tag
  let s := s.wr p (F.QUEUE_Q_RES1_BYTES j) (x.bytesAt i)
  let s := s.wr p (F.QUEUE_Q_RES2_META j) x.info
  let s := s.wr p (F.QUEUE_Q_RES3_OFFSET j) (if i = 0 then x.head.length else 0)
  s.wr p (F.QUEUE_Q_RES3_LEN j) x.data.length

/-! ## Commands (R245) -/

/-- Messages newly consumed by a command (R259): (RSID, MSEQ), in order. -/
abbrev Consumed := List (Nat × Nat)

/-- What a first consumption of an item reports: nothing if it was consumed before or is no session's message. -/
def consumedOf (x : QItem) : Consumed := if x.consumed || !x.ses then [] else [(x.tag, x.info)]

/-- POP. -/
def qPop (s : State) (q : Nat) : Consumed × State :=
  let z := { queueSt s q with last := none }
  match z.head with
  | none => ([], qResult (setQueueSt s q z) q QR.empty 0)
  | some x =>
    let i := x.pos
    let y := { x with
      pos := i + 1
      held := if z.mark.isSome then some (x.held.getD i) else none
      consumed := x.consumed || decide (x.fin ≤ i + 1) }
    let z := z.setItem y
    let z := { z with
      last := some (x.arr, i)
      cur := if x.fin ≤ i + 1 then none else some x.arr
      first := none
      mark := match z.mark with
        | some (m, c) => if m = 0 then some (x.arr, i) else some (m, c)
        | none => none }
    (if x.fin ≤ i + 1 then consumedOf x else [], qResultCell (setQueueSt s q z) q x i)

/-- PEEK. -/
def qPeek (s : State) (q : Nat) : State :=
  match (queueSt s q).head with
  | none => qResult s q QR.empty 0
  | some x => qResultCell s q x x.pos

/-- DROP_REST. -/
def qDropRest (s : State) (q : Nat) : Consumed × State :=
  let z := { queueSt s q with last := none }
  match z.head with
  | none => ([], qResult (setQueueSt s q z) q QR.empty 0)
  | some x =>
    let z := z.setItem { x with fin := x.pos, consumed := true }
    (consumedOf x, qResult (setQueueSt s q { z with cur := none, first := none }) q QR.ok x.data.length)

/-- MARK: the position of the next POP is recorded; cells held by an earlier mark are released, the last delivered excepted. -/
def qMark (s : State) (q : Nat) : State :=
  let z := queueSt s q
  let pos := match z.head with
    | some x => (x.arr, x.pos)
    | none => (0, 0)
  qResult (setQueueSt s q { z with mark := some pos, items := z.items.map fun x => { x with held := none } }) q QR.ok 0

/-- MARK with CLEAR = 1. -/
def qMarkClear (s : State) (q : Nat) : State :=
  let z := queueSt s q
  qResult (setQueueSt s q { z with mark := none, items := z.items.map fun x => { x with held := none } }) q QR.ok 0

/-- REWIND (R245, R248). -/
def qRewind (s : State) (q : Nat) : State :=
  let z := { queueSt s q with last := none }
  if z.lost then
    let cut := z.items.map fun x => if z.cur = some x.arr then { x with fin := x.pos } else x
    let z := { z with lost := false, cur := none, items := cut }
    let z := z.settle
    qResult (setQueueSt s q { z with first := (z.items.head?).map (·.arr) }) q QR.markLost 0
  else
    match z.mark with
    | none => qResult (setQueueSt s q z) q QR.noMark 0
    | some (m, _) =>
      let back := z.items.map fun x =>
        match x.held with
        | some h => { x with pos := h, held := none }
        | none => x
      let z := { z with items := back }
      let cur := match z.item m with
        | some x => if 0 < x.pos ∧ x.pos < x.fin then some m else none
        | none => none
      qResult (setQueueSt s q { z with cur := cur }) q QR.ok 0

/-- FLUSH. -/
def qFlush (s : State) (q : Nat) : Consumed × State :=
  let z := queueSt s q
  (z.items.flatMap consumedOf, qResult (setQueueSt s q {}) q QR.ok z.items.length)

/-- The operations of Q_CMD. -/
inductive QOp where
  | pop | peek | dropRest | mark | markClear | rewind | flush | bad
  deriving DecidableEq, Repr

/-- OP and CLEAR of a Q_CMD word. -/
def qOpOf (op clear : Nat) : QOp :=
  match op with
  | 1 => .pop | 2 => .peek | 3 => .dropRest
  | 4 => if clear = 1 then .markClear else .mark
  | 5 => .rewind | 6 => .flush | _ => .bad

/-- One command carried out. -/
def qDo (s : State) (q : Nat) (o : QOp) : Consumed × State :=
  match o with
  | .pop => qPop s q
  | .peek => ([], qPeek s q)
  | .dropRest => qDropRest s q
  | .mark => ([], qMark s q)
  | .markClear => ([], qMarkClear s q)
  | .rewind => ([], qRewind s q)
  | .flush => qFlush s q
  | .bad => ([], qResult s q QR.badOp 0)

/-- A write of Q_CMD of queue `q` by initiator `ini` (R244, R261): the consumer's command is carried out; another's sets
FOREIGN; the switch queues refuse every command; a TYPE 3 queue is FROZEN in last gasp. -/
def qCommand (s : State) (q ini : Nat) (o : QOp) : Consumed × State :=
  if q < 112 then ([], qResult s q QR.notAllowed 0)
  else if 8 ≤ ini ∨ ini ≠ s.rd (P.queue q) (F.QUEUE_Q_CFG_CONSUMER (q % 16)) then
    ([], s.wr (P.queue q) (F.QUEUE_Q_STAT_FOREIGN (q % 16)) 1)
  else if s.ses.frozen && qType s q == 3 then ([], qResult s q QR.frozen 0)
  else qDo s q o

/-- Bind queue `q` to a block that names it (R242): true if the queue was unbound or of that type. -/
def qBind (s : State) (q typ : Nat) : Bool × State :=
  if q < 112 ∨ 1024 ≤ q then (false, s)
  else if qType s q = 0 ∨ qType s q = typ then (true, s.wr (P.queue q) (F.QUEUE_Q_CFG_TYPE (q % 16)) typ)
  else (false, s)

/-- A block's configuration names queue `q` (R242): capture units, CAN, UART and Ethernet receive and completion, Drift notices,
enabled receiving sessions. -/
def qNamed (s : State) (q : Nat) : Bool :=
  ((List.range 16).any fun u => s.rd P.capt (F.CAPTURE_CAP_CFG_QUEUE u) == q) ||
  ((List.range 8).any fun c => [F.CAN_RXQ_A_QUEUE0, F.CAN_RXQ_A_QUEUE1, F.CAN_RXQ_B_QUEUE2, F.CAN_RXQ_B_QUEUE3, F.CAN_AUX_Q_TUN_QUEUE,
    F.CAN_AUX_Q_TXC_QUEUE].any fun f => s.rd (P.can c) f == q) ||
  ((List.range 16).any fun u =>
    s.rd (P.uart u) (F.UART_U_QUEUE_TUN_QUEUE (u % 4)) == q || s.rd (P.uart u) (F.UART_U_QUEUE_RX_QUEUE (u % 4)) == q) ||
  ((List.range 4).any fun m => s.rd (P.eth m) F.ETH_QUEUES_TXC_QUEUE == q || s.rd (P.eth m) F.ETH_QUEUES_RX_QUEUE == q) ||
  s.rd P.drift F.DRIFT_DRIFT_CFG_NOTE_QUEUE == q ||
  ((List.range 256).any fun r => s.rdi P.sesrx F.SESRX_RSES_CFG_EN r == 1 && max 112 (s.rdi P.sesrx F.SESRX_RSES_QUEUE_QUEUE r) == q)

/-- Queue `q` is named no more by one block: it is unbound unless another names it (R242). -/
def qUnbind (s : State) (q : Nat) : State :=
  if q < 112 ∨ 1024 ≤ q ∨ qType s q = 0 ∨ qNamed s q then s else s.wr (P.queue q) (F.QUEUE_Q_CFG_TYPE (q % 16)) 0

/-- The frames that switch queue `q` holds: waiting, and in transmission. -/
def swHolds (s : State) (q : Nat) : List SwEntry :=
  (match s.sw.sending.at none (q / 8) with
    | some (e, c, _) => if c = q % 8 then [e] else []
    | none => []) ++ swQueue s q

/-- Live Q_COUNT.ITEMS of a queue (R246): a frame in transmission is not yet wholly delivered. -/
def qItems (s : State) (q : Nat) : Nat :=
  if q < 112 then (swHolds s q).length else ((queueSt s q).items.filter fun x => !x.done).length

/-- Live Q_STAT.CURRENT: on a switch queue, a frame of it is in transmission. -/
def qCurrent (s : State) (q : Nat) : Bool :=
  if q < 112 then decide ((swQueue s q).length < (swHolds s q).length) else (queueSt s q).cur.isSome

/-- Live Q_LEVEL.HELD. -/
def qHeld (s : State) (q : Nat) : Nat := (queueSt s q).items.foldl (fun a x => a + x.heldCells) 0

/-- Live Q_LEVEL.PRIO. DEDUCED (log 91): the priority of a frame in a switch queue is its PRIO. -/
def qPrios (s : State) (q : Nat) : Nat :=
  if q < 112 then (swHolds s q).foldl (fun a e => withBit a e.frame.prio) 0
  else (queueSt s q).items.foldl (fun a x => if x.done then a else withBit a x.prio) 0

/-! ## The cell pool debug view (R245) -/

/-- Index of cell `i` of an item, as Q_RES0.CELL reports it. -/
def QItem.cellNo (x : QItem) (i : Nat) : Nat := Config.cellIndex (x.arr + i) % 24576

/-- Cells of an item that the queue keeps: the one delivered last first. -/
def QSt.kept (z : QSt) : List (QItem × Nat) :=
  let all := z.items.flatMap fun x => ((List.range x.fin).filter fun i => decide (x.lo ≤ i)).map fun i => (x, i)
  let isLast := fun (e : QItem × Nat) => z.last == some (e.1.arr, e.2)
  all.filter isLast ++ all.filter fun e => !isLast e

/-- What cell `c` holds of an item: the item's bytes from the cell's start on. -/
def cellData (s : State) (c : Nat) : Option (List Nat) :=
  s.ses.qs.findSome? fun e => (e.2.kept.find? fun y => y.1.cellNo y.2 == c).map fun y =>
    ((y.1.head ++ y.1.data).drop (256 * y.2)).take 256

/-! ## An error in a cell (R177) -/

/-- The queue and the item that hold cell `c`. -/
def cellItem (s : State) (c : Nat) : Option (Nat × QItem) :=
  s.ses.qs.findSome? fun e => (e.2.kept.find? fun y => y.1.cellNo y.2 == c).map fun y => (e.1, y.1)

/-- An item is discarded, and its cells return. DESIGN CHOICE (log 101): a mark at which it stands is lost as under R248, and a message
discarded so is not consumed. -/
def qDiscard (s : State) (q : Nat) (x : QItem) : State :=
  let z := (queueSt s q).recycle x.arr
  setQueueSt s q { z with cur := if z.cur = some x.arr then none else z.cur, first := if z.first = some x.arr then none else z.first }

/-- CELL_ECC_ERROR (R177): the cell at `addr` belongs to the frame stored under `id`, or to an item of a queue 112 to 1,023, where its
address in the cell pool debug view names it. The frame ends: one in transmission is stomped on ring and Ethernet egress, any other
is discarded; CELLPOOL captures the error and the cells return. -/
def execCellEccError (id addr : Nat) (s : State) : Out :=
  .next (if s.alive then
    let seen := errCapture (s.inc P.pool F.CELLPOOL_CNT_ECC_UNCORR_N) P.pool 1 addr 0 0
    if (s.sw.store.at (0, 0) id).1 ≠ 0 then stompStored seen id
    else if 0x20000000 ≤ addr ∧ addr < 0x20600000 then
      match cellItem s ((addr - 0x20000000) / 256) with
      | some (q, x) => qDiscard seen q x
      | none => s
    else s
  else s)

end Sys2Proof.Machine
end

