-- ==== Sys2Proof/Machine/Round.lean ====
section
/-!
DEFINITION. Roundings that the spec leaves open: a quotient that is not whole goes down or up, and nothing says which.
-/

namespace Sys2Proof.Machine

/-- A rational brought to an integer: itself where it is whole, else one of its two neighbours, which one being open. `id`
names the place of the rounding. -/
def rnd (id : Nat) (q : Rat) : Int := if q.den = 1 then q.num else q.floor + (if Config.roundUp id q then 1 else 0)

/-! The places of open roundings. -/
def Rnd.interp : Nat := 1
def Rnd.vel : Nat := 2
def Rnd.acc : Nat := 3
def Rnd.delta : Nat := 4
def Rnd.pos : Nat := 5
def Rnd.evalVel : Nat := 6

end Sys2Proof.Machine
end

