-- ==== Sys2Proof/Machine/Can.lean ====
section
/-!
DEFINITION. CAN FD and CAN XL controllers (14_can_controllers.md, R382 to R406).
-/

namespace Sys2Proof.Machine

/-- A channel's record. -/
def can (s : State) (c : Nat) : CanSt := s.can.at {} c

/-- Change a channel's record. -/
def setCan (s : State) (c : Nat) (x : CanSt) : State := { s with can := s.can.put {} c x }

/-- A register of channel `c`. -/
def State.cn (s : State) (c : Nat) (f : Fld) : Nat := s.rd (P.can c) f

/-- Mailbox `m` of channel `c`. -/
def mbox (s : State) (c m : Nat) : Mailbox := (can s c).mbs.at {} m

/-- Change a mailbox. -/
def setMbox (s : State) (c m : Nat) (x : Mailbox) : State :=
  setCan s c { can s c with mbs := (can s c).mbs.put {} m x }

/-- The protocol in force: 3 acts as 1, and 2 as 1 on channels 4 to 7 (R382, R405). -/
def canProto (s : State) (c : Nat) : Nat :=
  match s.cn c F.CAN_CAN_CFG_PROTO with
  | 0 => 0
  | 2 => if c < 4 then 2 else 1
  | _ => 1

/-- The channel takes part in the bus (R404). -/
def canTakesPart (s : State) (c : Nat) : Bool :=
  canAllowed s && s.enabled (P.can c) && !s.stopReq (P.can c) && (can s c).integ

/-- The channel receives from its bus: it takes part, or a frame in reception is to end before it stops (R404). DESIGN CHOICE (log
108): internal loopback takes the receiver off the bus (R382). -/
def canHears (s : State) (c : Nat) : Bool :=
  s.cn c F.CAN_CAN_CFG_LOOPBACK == 0 && (canTakesPart s c || (can s c).rx.isSome)

/-- STATUS.BUS_IDLE (R405): integrated, and no frame in progress. DESIGN CHOICE (log 109): the intermission after a frame, and an
error frame, count as idle. -/
def canIdle (s : State) (c : Nat) : Bool := (can s c).integ && (can s c).att.isNone && (can s c).rx.isNone

/-- CANc_TX carries the attempt in progress; it stays recessive in internal loopback (R382). -/
def canDrives (s : State) (c : Nat) : Bool := (can s c).att.isSome && s.cn c F.CAN_CAN_CFG_LOOPBACK == 0

/-- The data phase of an XL frame that the channel sends is PWM-coded, with the transceiver mode switched (R382). -/
def canPwm (s : State) (c : Nat) : Bool := decide (c < 4) && s.cn c F.CAN_CAN_CFG_XL_TMS == 1

/-- ERR_STAT.STATE: 0 ERROR_ACTIVE, 1 ERROR_PASSIVE, 2 BUS_OFF, 3 RECOVERING. -/
def canErr (s : State) (c : Nat) : Nat := s.cn c F.CAN_ERR_STAT_STATE

/-- A change of ERR_STAT.STATE raises ERR (R389). -/
def setCanErr (s : State) (c v : Nat) : State :=
  if canErr s c = v then s else raise (s.wr (P.can c) F.CAN_ERR_STAT_STATE v) (P.can c) 1

/-- TEC and REC decide between error-active and error-passive (ISO 11898-1: passive above 127). -/
def canJudgeErr (s : State) (c : Nat) : State :=
  if 2 ≤ canErr s c then s
  else setCanErr s c (if 127 < s.cn c F.CAN_ERR_STAT_TEC ∨ 127 < s.cn c F.CAN_ERR_STAT_REC then 1 else 0)

/-! ## Mailboxes (R383, R386, R387) -/

/-- MB_READY: mailboxes READY or ARMED. -/
def mbReadyBits (s : State) (c : Nat) : Nat :=
  (List.range 32).foldl (fun a m => if (mbox s c m).st = .ready ∨ (mbox s c m).st = .armed then a + 2 ^ m else a) 0

/-- MB_STAT.STATE code. -/
def MbSt.code : MbSt → Nat
  | .empty => 0 | .ready => 1 | .armed => 2 | .active => 3 | .complete => 4

/-- RESULT codes. -/
def MR.done : Nat := 1
def MR.cancelled : Nat := 2
def MR.abortRetry : Nat := 3
def MR.abortWindow : Nat := 4
def MR.moved : Nat := 5
def MR.dataErr : Nat := 6

/-- MB_SEL was written: staging takes the mailbox's content. -/
def canSel (s : State) (c m : Nat) : State :=
  let x := mbox s c m
  let f := x.f
  let p := P.can c
  let w := fun (t : State) (e : Fld × Nat) => t.wr p e.1 e.2
  let s := ([(F.CAN_MB_CTRL_CMD, 0), (F.CAN_MB_CTRL_RETRY_MAX, f.retryMax), (F.CAN_MB_CTRL_RETRY_ARB, b2n f.retryArb),
    (F.CAN_MB_CTRL_SCHED, b2n f.sched), (F.CAN_MB_CTRL_WIN_ABORT, b2n f.winAbort), (F.CAN_MB_CTRL_FB, b2n f.fb),
    (F.CAN_MB_CTRL_IRQ, b2n f.irq), (F.CAN_MB_CTRL_TXC, b2n f.txc), (F.CAN_MB_ID_IDE, b2n f.ide), (F.CAN_MB_ID_RTR, b2n f.rtr),
    (F.CAN_MB_ID_ID, f.id), (F.CAN_MB_FMT_FMT, f.fmt), (F.CAN_MB_FMT_BRS, b2n f.brs), (F.CAN_MB_FMT_DPTR, b2n f.dptr),
    (F.CAN_MB_FMT_LEN, f.len), (F.CAN_MB_XL_SDT, f.sdt), (F.CAN_MB_XL_VCID, f.vcid), (F.CAN_MB_XL_SEC, b2n f.sec),
    (F.CAN_MB_AF_AF, f.af), (F.CAN_MB_DPTR_DPTR_OFS, f.ofs), (F.CAN_MB_STAT_STATE, x.st.code), (F.CAN_MB_STAT_RESULT, x.result),
    (F.CAN_MB_STAT_CANCEL_LATE, b2n x.late), (F.CAN_MB_STAT_WAIT_BO, b2n x.waitBo), (F.CAN_MB_STAT_RETRIES, min 15 x.retries),
    (F.CAN_MB_STAT_MOVED_CH, x.movedCh), (F.CAN_MB_STAT_MOVED_MB, x.movedMb), (F.CAN_MB_STAMP_LO_NS, x.stamp),
    (F.CAN_MB_STAMP_HI_NS, x.stamp / 2 ^ 32)]).foldl w s
  s.each 16 fun t k => t.wr p (F.CAN_MB_DATA_DATA k) (leVal (slice f.data (4 * k) 4))

/-- The staged frame. -/
def canStaged (s : State) (c : Nat) : MbFrame :=
  let r := fun f => s.cn c f
  { ide := r F.CAN_MB_ID_IDE == 1, rtr := r F.CAN_MB_ID_RTR == 1, id := r F.CAN_MB_ID_ID, fmt := r F.CAN_MB_FMT_FMT,
    brs := r F.CAN_MB_FMT_BRS == 1, dptr := r F.CAN_MB_FMT_DPTR == 1, len := r F.CAN_MB_FMT_LEN, sdt := r F.CAN_MB_XL_SDT,
    vcid := r F.CAN_MB_XL_VCID, sec := r F.CAN_MB_XL_SEC == 1, af := r F.CAN_MB_AF_AF, ofs := r F.CAN_MB_DPTR_DPTR_OFS,
    data := (List.range 16).flatMap fun k => leBytes 4 (r (F.CAN_MB_DATA_DATA k)),
    retryMax := r F.CAN_MB_CTRL_RETRY_MAX, retryArb := r F.CAN_MB_CTRL_RETRY_ARB == 1, sched := r F.CAN_MB_CTRL_SCHED == 1,
    winAbort := r F.CAN_MB_CTRL_WIN_ABORT == 1, fb := r F.CAN_MB_CTRL_FB == 1, irq := r F.CAN_MB_CTRL_IRQ == 1,
    txc := r F.CAN_MB_CTRL_TXC == 1 }

/-- LEN is a valid length of FMT (R383). -/
def canLenOk (fmt len : Nat) : Bool :=
  if fmt = 0 then decide (len ≤ 8)
  else if fmt = 1 then decide (len ≤ 8) || [12, 16, 20, 24, 32, 48, 64].contains len
  else decide (1 ≤ len ∧ len ≤ 2048)

/-- The frame takes its data at DPTR: with DPTR = 1, and as the only place for more than 64 bytes. -/
def MbFrame.usesPtr (f : MbFrame) : Bool := f.dptr || decide (64 < f.len)

/-- BAD_FMT (R383). -/
def canBadFmt (s : State) (c : Nat) (f : MbFrame) : Bool :=
  !canLenOk f.fmt f.len || decide (canProto s c < f.fmt) || (f.rtr && f.fmt != 0) || (f.dptr && f.fmt != 2) ||
    (f.usesPtr && decide (0x200000 < f.ofs + f.len))

/-- A mailbox completes (R386). -/
def canComplete (s : State) (c m result : Nat) : State :=
  let x := { mbox s c m with st := .complete, result := result, waitBo := false }
  let s := (setMbox s c m x).setBit (P.can c) F.CAN_MB_DONE_M m true
  let q := s.cn c F.CAN_AUX_Q_TXC_QUEUE
  let s := if x.f.txc && q != 0 then
      let rec32 := leBytes 8 x.stamp ++ leBytes 4 (result * 2 ^ 28 + b2n x.late * 2 ^ 27 + min 15 x.retries * 2 ^ 16 + m) ++
        leBytes 4 (b2n x.f.ide * 2 ^ 31 + b2n x.f.rtr * 2 ^ 30 + x.f.id)
      let a := qAdmit s q 0 0 c m false [] rec32
      if a.1 then a.2 else a.2.inc (P.can c) F.CAN_CNT_TXC_LOST_N
    else s
  raiseIf s x.f.irq (P.can c) 0

/-- A cancel of mailbox `m` (R387). -/
def canCancel (s : State) (c m : Nat) : State :=
  let x := mbox s c m
  match x.st with
  | .ready => canComplete s c m MR.cancelled
  | .armed => canComplete s c m MR.cancelled
  | .active =>
    let s := setMbox s c m { x with late := true }
    (setCan s c { can s c with cancel := true }).inc (P.can c) F.CAN_CNT_CANCEL_LATE_N
  | .empty => s
  | .complete => s

/-- MB_RES codes. -/
def canRes (s : State) (c v : Nat) : State := s.wr (P.can c) F.CAN_MB_RES_RESULT v

/-- MB_CTRL.CMD was written (R383) with the staged frame in place: 1 LOAD, 2 ARM, 3 CANCEL, 4 CLEAR. -/
def canCmd (s : State) (c cmd : Nat) : State :=
  let m := s.cn c F.CAN_MB_SEL_MBOX
  let x := mbox s c m
  if cmd = 0 ∨ 4 < cmd then s
  else if !canAllowed s then canRes s c 4
  else if cmd = 3 then canRes (canCancel s c m) c 1
  else if cmd = 4 then
    if x.st = .active then canRes s c 2 else canRes (setMbox s c m {}) c 1
  else if x.st ≠ .empty ∧ x.st ≠ .complete then canRes s c 2
  else
    let f := canStaged s c
    if canBadFmt s c f then canRes s c 3
    else canRes (setMbox s c m { f := f, st := if cmd = 1 then .ready else .armed }) c 1

/-- The edge scheduler's transmit trigger (R384). -/
def canTrigger (s : State) (c m : Nat) : State :=
  let x := mbox s c m
  if x.st = .armed then setMbox s c m { x with st := .ready } else s.inc (P.can c) F.CAN_CNT_TRIG_IGNORED_N

/-! ## Worst-case duration and the schedule (R393, R395) -/

/-- Nominal and data bit times in ns. -/
def canNomBit (s : State) (c : Nat) : Nat :=
  (s.cn c F.CAN_NBT_BRP + 1) * 4 * (3 + s.cn c F.CAN_NBT_TSEG1 + s.cn c F.CAN_NBT_TSEG2)
def canDataBit (s : State) (c : Nat) (xl : Bool) : Nat :=
  if xl then (s.cn c F.CAN_XBT_BRP + 1) * 4 * (3 + s.cn c F.CAN_XBT_TSEG1 + s.cn c F.CAN_XBT_TSEG2)
  else (s.cn c F.CAN_DBT_BRP + 1) * 4 * (3 + s.cn c F.CAN_DBT_TSEG1 + s.cn c F.CAN_DBT_TSEG2)

/-- (N_nom, N_data) of the table of R395. -/
def canBits (f : MbFrame) : Nat × Nat :=
  let d := if f.rtr then 0 else f.len
  if f.fmt = 0 then (ceilDiv (5 * (8 * d + (if f.ide then 54 else 34))) 4 + 13, 0)
  else if f.fmt = 1 then
    (if f.ide then 49 else 29, ceilDiv (5 * (8 * d + 5)) 4 + (if d ≤ 16 then 32 else 37))
  else (40, ceilDiv (11 * (8 * d + 120)) 10)

/-- T_max in ns. -/
def canTmax (s : State) (c : Nat) (f : MbFrame) : Nat :=
  let n := canBits f
  let td := if f.brs then canDataBit s c (f.fmt == 2) else canNomBit s c
  n.1 * canNomBit s c + n.2 * td

/-- CYCLE: 0 acts as 1. -/
def canCycle (s : State) (c : Nat) : Nat := max 1 (s.cn c F.CAN_SCHED_CFG_CYCLE)

/-- Tick index of tick `n`. -/
def canTickIdx (s : State) (c n : Nat) : Nat :=
  let cy := canCycle s c
  (n + 64 * cy - s.cn c F.CAN_SCHED_CFG_PHASE) % cy

/-- Window `w` in tick `n` of length `l`: (start, end) in ns from T(n), if it is used there. -/
def canWin (s : State) (c w n l : Nat) : Option (Nat × Nat) :=
  let st := s.cn c (F.CAN_WIN_A_START w)
  if s.cn c (F.CAN_WIN_A_KIND w) ≠ 0 ∧ s.cn c (F.CAN_WIN_A_TICK_IDX w) = canTickIdx s c n ∧ st < l then
    some (st, min l (st + s.cn c (F.CAN_WIN_L_LEN w)))
  else none

/-- The active window at `x` ns into the current tick: the lowest-numbered, with its end. -/
def canActive (s : State) (c x : Nat) : Option (Nat × Nat) :=
  (List.range 16).findSome? fun w =>
    match canWin s c w s.tick s.tickL with
    | some (a, e) => if a ≤ x ∧ x < e then some (w, e) else none
    | none => none

/-- The earliest window start in tick `n`, at `base` ns from T of the current tick, that lies after `x` there. -/
def canStarts (s : State) (c x n base : Nat) : Option Nat :=
  (List.range 16).foldl (fun b w =>
    match canWin s c w n (s.lenAt n), b with
    | some (a, _), some j => if x < base + a then some (min (base + a) j) else b
    | some (a, _), none => if x < base + a then some (base + a) else b
    | none, _ => b) none

/-- The search of `canGapEnd` from tick `n` on, through `fuel` ticks. -/
def canSearch (s : State) (c x : Nat) : Nat → Nat → Nat → Option Nat
  | 0, _, _ => none
  | fuel + 1, n, base => (canStarts s c x n base).orElse fun _ => canSearch s c x fuel (n + 1) (base + s.lenAt n)

/-- The start of the next window after `x` ns into the current tick, in ns from T(n), through the tick lengths that will be in
force; none if no window is used. -/
def canGapEnd (s : State) (c x : Nat) : Option Nat :=
  canSearch s c x (s.lastLen + canCycle s c + 1) s.tick 0

/-- The lowest set bit of a mask. -/
def lowestBit (m : Nat) : Option Nat := (List.range 32).find? fun k => bitOf m k

/-! ## Choosing (R385, R403) -/

/-- The arbitration field as a number: the smaller wins. -/
def arbKey (ide rtr : Bool) (id : Nat) : Nat :=
  if ide then id / 2 ^ 18 % 2048 * 2 ^ 21 + 2 ^ 20 + 2 ^ 19 + id % 2 ^ 18 * 2 + b2n rtr
  else id % 2048 * 2 ^ 21 + b2n rtr * 2 ^ 20

/-- The frame that the head item of TUN_QUEUE stands for (R400, R402). -/
def tunFrame (x : QItem) : MbFrame :=
  let w4 := beAt x.head 16 4
  let w5 := beAt x.head 20 2
  let fmt := w5 / 2 ^ 14 % 4
  { ide := bitOf w4 31, rtr := bitOf w4 30, id := w4 % 2 ^ 29, fmt := fmt, brs := bitOf w5 13, len := x.data.length - 16,
    sdt := beAt x.data 8 1, vcid := beAt x.data 9 1, sec := bitOf (beAt x.data 10 1) 7, af := beAt x.data 12 4,
    data := x.data.drop 16 }

/-- The head item of the tunnel queue. -/
def tunHead (s : State) (c : Nat) : Option QItem := (queueSt s (s.cn c F.CAN_AUX_Q_TUN_QUEUE)).head

/-- Item `x` leaves the tunnel queue. -/
def tunDrop (s : State) (c : Nat) (x : QItem) : State :=
  let q := s.cn c F.CAN_AUX_Q_TUN_QUEUE
  let s := setQueueSt s q { queueSt s q with items := (queueSt s q).items.filter fun y => y.arr != x.arr }
  setCan s c { can s c with tries := (can s c).tries.put 0 x.arr 0 }

/-- An item that would start is discarded where it is too old, or of a format that the channel cannot send (R402). -/
def tunRefuse (s : State) (c : Nat) (x : QItem) : Option State :=
  let age := (s.tick + 65536 - beAt x.head 10 2) % 65536
  let f := tunFrame x
  if max 1 (s.cn c F.CAN_TUN_CFG_TUN_AGE) < age then some ((tunDrop s c x).inc (P.can c) F.CAN_CNT_TUN_AGED_N)
  else if canProto s c < f.fmt ∨ !canLenOk f.fmt f.len ∨ (f.rtr ∧ f.fmt ≠ 0) then
    some ((tunDrop s c x).inc (P.can c) F.CAN_CNT_TUN_FAIL_N)
  else none

/-- Does `t + T_max` fit before the end `e` of the window or gap (ns from T(n))? -/
def canFits (s : State) (c t : Nat) (e : Option Nat) (f : MbFrame) : Bool :=
  match e with
  | some e => decide (t - s.time.tStart + canTmax s c f < e)
  | none => true

/-- Which mailboxes may start at `t`, and whether the tunnel head may (R393 to R395). -/
def canMayStart (s : State) (c t : Nat) : List Nat × Bool :=
  let x := t - s.time.tStart
  let ready := (List.range 32).filter fun m => (mbox s c m).st == .ready
  let tun := tunHead s c
  let free := fun (e : Option Nat) =>
    (ready.filter fun m => !(mbox s c m).f.sched && canFits s c t e (mbox s c m).f,
     match tun with
     | some q => canFits s c t e (tunFrame q)
     | none => false)
  if s.cn c F.CAN_SCHED_CFG_EN = 0 then (ready, tun.isSome)
  else
    match canActive s c x with
    | some (w, e) =>
      let mask := s.cn c (F.CAN_WIN_B_MASK w)
      match s.cn c (F.CAN_WIN_A_KIND w) with
      | 1 =>
        (match lowestBit mask with
         | some m => if ready.contains m && (mbox s c m).f.sched && canFits s c t (some e) (mbox s c m).f &&
             (can s c).tried != some (s.tick, w) then [m] else []
         | none => [], false)
      | 2 => (ready.filter fun m => (mbox s c m).f.sched && bitOf mask m && canFits s c t (some e) (mbox s c m).f, false)
      | _ => free (some e)
    | none => if s.cn c F.CAN_SCHED_CFG_GAP_FREE = 1 then free (canGapEnd s c x) else ([], false)

/-- The choice: some mailbox, or none for the tunnel head. -/
def canChoose (s : State) (c t : Nat) : Option (Option Nat) :=
  let (l, tun) := canMayStart s c t
  let key := fun m => let f := (mbox s c m).f; arbKey f.ide f.rtr f.id
  let prio := s.cn c F.CAN_CAN_CFG_PRIO_MODE
  let best := l.foldl (fun b m => match b with
    | some n => if prio = 0 ∧ key m < key n then some m else some n
    | none => some m) none
  match best, tun, tunHead s c with
  | some m, true, some q =>
    let f := tunFrame q
    if prio = 0 ∧ arbKey f.ide f.rtr f.id < key m then some none else some (some m)
  | some m, _, _ => some (some m)
  | none, true, _ => some none
  | none, false, _ => none

/-! ## Stamps (R392) -/

/-- A loop delay was measured. -/
def canLoop (s : State) (c dly : Nat) : State :=
  if 20 ≤ dly ∧ dly ≤ 2000 then
    let l := (dly :: (can s c).loops).take 8
    let m := rnd 7 (((l.foldl (· + ·) 0 : Nat) : Rat) / (l.length : Rat))
    (setCan s c { can s c with loops := l }).wr (P.can c) F.CAN_LOOP_LOOP_DLY m.toNat
  else s

/-- Stamp of a received frame: RX edge − LOOP_DLY × LOOP_SPLIT / 256, a multiple of 4 ns. -/
def canRxStamp (s : State) (c t : Nat) : Nat :=
  4 * (rnd 8 (((t : Rat) - ((s.cn c F.CAN_LOOP_LOOP_DLY * s.cn c F.CAN_STAMP_CFG_LOOP_SPLIT : Nat) : Rat) / 256) / 4)).toNat

/-- Stamp of a sent frame: TX edge + LOOP_DLY × (256 − LOOP_SPLIT) / 256, a multiple of 4 ns. -/
def canTxStamp (s : State) (c t : Nat) : Nat :=
  4 * (rnd 9 (((t : Rat) + ((s.cn c F.CAN_LOOP_LOOP_DLY * (256 - s.cn c F.CAN_STAMP_CFG_LOOP_SPLIT) : Nat) : Rat) / 256) / 4)).toNat

/-! ## Receiving (R398 to R400) -/

/-- The header word +0x08. -/
def canIdWord (f : MbFrame) : Nat := b2n f.ide * 2 ^ 31 + b2n f.rtr * 2 ^ 30 + f.id % 2 ^ 29

/-- The header word +0x10. -/
def canXlWord (f : MbFrame) : Nat := if f.fmt = 2 then f.sdt * 2 ^ 24 + f.vcid * 2 ^ 16 + b2n f.sec * 2 ^ 15 else 0

/-- The first enabled filter that matches (R398). -/
def canFilter (s : State) (c : Nat) (f : MbFrame) : Option Nat :=
  (List.range 32).find? fun k =>
    s.cn c (F.CAN_FLT_ID_EN k) == 1 && s.cn c (F.CAN_FLT_ID_IDE k) == b2n (f.ide && f.fmt != 2) &&
      (f.id ^^^ s.cn c (F.CAN_FLT_ID_ID k)) &&& s.cn c (F.CAN_FLT_MASK_MASK k) == 0 &&
      bitOf (s.cn c (F.CAN_FLT_ACT_FMTS k)) f.fmt && (!f.rtr || s.cn c (F.CAN_FLT_ACT_RTR_OK k) == 1)

/-- Receive queue `n` of the channel. -/
def canRxq (s : State) (c n : Nat) : Nat :=
  s.cn c (match n with
    | 0 => F.CAN_RXQ_A_QUEUE0 | 1 => F.CAN_RXQ_A_QUEUE1 | 2 => F.CAN_RXQ_B_QUEUE2 | _ => F.CAN_RXQ_B_QUEUE3)

/-- Store a frame in receive queue `n` (R399). -/
def canStore (s : State) (c n : Nat) (f : MbFrame) (esi self : Bool) (flt stamp : Nat) : State :=
  let head := leBytes 8 stamp ++ leBytes 4 (canIdWord f) ++
    leBytes 4 (f.fmt * 2 ^ 30 + b2n f.brs * 2 ^ 29 + b2n esi * 2 ^ 28 + b2n self * 2 ^ 27 + flt * 2 ^ 22 + f.data.length) ++
    leBytes 4 (canXlWord f) ++ leBytes 4 (if f.fmt = 2 then f.af else 0)
  let a := qAdmit s (canRxq s c n) 0 0 c (stampTick s stamp % 2 ^ 32) false head f.data
  if a.1 then a.2.inc (P.can c) F.CAN_CNT_RX_N else countRaise a.2 (P.can c) F.CAN_CNT_RX_DROP_N (P.can c) 1

/-- Send a frame on tunnel route `r` (R400). -/
def canTunnel (s : State) (c r : Nat) (f : MbFrame) (esi : Bool) (stamp : Nat) : State :=
  if s.cn c (F.CAN_TUN_A_EN r) = 0 then s
  else if 2032 < f.data.length then s.inc (P.can c) F.CAN_CNT_TUN_TOOBIG_N
  else
    let pay := beBytes 8 stamp ++ beBytes 4 (canXlWord f) ++ beBytes 4 (if f.fmt = 2 then f.af else 0) ++ f.data
    let cls := min 2 (s.cn c (F.CAN_TUN_A_CLASS r))
    let m := metered s 12 cls (pay.length + 28) s.now
    match m.1 with
    | none => m.2
    | some k =>
      let s := m.2.inc (P.can c) F.CAN_CNT_TUN_TX_N
      originate s 12 { typ := 0xA, cls := k, prio := s.cn c (F.CAN_TUN_A_PRIO r), mc := s.cn c (F.CAN_TUN_A_MC r) == 1,
                       dst := s.cn c (F.CAN_TUN_A_DST r), w3 := c * 2 ^ 24 + s.cn c (F.CAN_TUN_A_STREAM r) * 2 ^ 16,
                       w4 := canIdWord f, w5 := f.fmt * 2 ^ 30 + b2n f.brs * 2 ^ 29 + b2n esi * 2 ^ 28, pay := pay }
        (s.cn c (F.CAN_TUN_B_REACH_E r)) (s.cn c (F.CAN_TUN_B_REACH_W r))

/-- Judge a frame against the filters and act on it (R398). -/
def canReceive (s : State) (c : Nat) (f : MbFrame) (esi self : Bool) (stamp : Nat) : State :=
  match canFilter s c f with
  | some k =>
    let s := if s.cn c (F.CAN_FLT_ACT_STORE k) = 1 then canStore s c (s.cn c (F.CAN_FLT_ACT_RXQ k)) f esi self k stamp else s
    if s.cn c (F.CAN_FLT_ACT_TUN k) = 1 then canTunnel s c (s.cn c (F.CAN_FLT_ACT_ROUTE k)) f esi stamp else s
  | none =>
    let s := s.inc (P.can c) F.CAN_CNT_NOMATCH_N
    if s.cn c F.CAN_CAN_CFG_REJECT_NOMATCH = 1 then s else canStore s c 0 f esi self 0 stamp

/-- The data bytes that a mailbox sends. -/
def mbData (s : State) (f : MbFrame) : List Nat :=
  if f.rtr then [] else if f.usesPtr then s.memRead (0x10200000 + f.ofs) f.len else slice f.data 0 f.len

/-! ## Attempts (R386 to R390) -/

/-- A frame in progress has ended: STOPPED rises where the channel is told to stop (R404). -/
def canRest (s : State) (c : Nat) : State :=
  if s.stopReq (P.can c) ∧ (can s c).att.isNone ∧ (can s c).rx.isNone then s.wr (P.can c) F.HDR_PAGE_STAT_STOPPED 1 else s

/-- No attempt is in progress any more. -/
def canEnd (s : State) (c : Nat) : State :=
  let s := setCan s c { can s c with att := none, item := none, cancel := false }
  canRest (s.wr (P.can c) F.CAN_STATUS_TX_ACTIVE 0) c

/-- The reception in progress is over. -/
def canRxEnd (s : State) (c : Nat) : State := canRest (setCan s c { can s c with rx := none }) c

/-- The choice for a start at `t` (R385), after the tunnel items that would start and cannot have been discarded (R402). -/
def canPick (s : State) (c t : Nat) : Nat → Option (Option Nat) × State
  | 0 => (none, s)
  | fuel + 1 =>
    match canChoose s c t, tunHead s c with
    | some none, some x => (match tunRefuse s c x with
      | some u => canPick u c t fuel
      | none => (some none, s))
    | w, _ => (w, s)

/-- The choice is made for a SOF that the channel drives at `t`, with measured loop delay `dly`. Without one the chosen mailbox's
data cannot be read: it completes DATA_ERR (R386); else the attempt starts. A channel that is error-passive sends ESI recessive
(PRESUMED, ISO 11898-1, log 108). -/
def canSof (s : State) (c t : Nat) (dly : Option Nat) : State :=
  let p := canPick s c t 1024
  let s := p.2
  match p.1, dly with
  | none, _ => s
  | some (some m), none => canComplete s c m MR.dataErr
  | some who, _ =>
    let s := canLoop s c (dly.getD 0)
    let win := canActive s c (t - s.time.tStart)
    let s := match win with
      | some (w, _) => if s.cn c F.CAN_SCHED_CFG_EN = 1 ∧ s.cn c (F.CAN_WIN_A_KIND w) = 1 then
          setCan s c { can s c with tried := some (s.tick, w) } else s
      | none => s
    let item := if who.isNone then tunHead s c else none
    let s := setCan s c { can s c with att := some who, item := item, cancel := false, sof := canTxStamp s c t,
                                       esi := canErr s c == 1 }
    let s := s.wr (P.can c) F.CAN_STATUS_TX_ACTIVE 1
    match who with
    | some m =>
      let x := mbox s c m
      (setMbox s c m { x with st := .active, stamp := (can s c).sof }).wr (P.can c) F.CAN_STATUS_CUR_MB m
    | none => s

/-- A channel that starts takes part only after bus integration (R404). -/
def canFresh (s : State) (c : Nat) : State := setCan s c { can s c with integ := false, rx := none }

/-- STOP is cleared: TEC and REC are 0 unless the channel is bus-off (R404). -/
def canStart (s : State) (c : Nat) : State :=
  let s := canFresh s c
  if 2 ≤ canErr s c then s
  else setCanErr ((s.wr (P.can c) F.CAN_ERR_STAT_TEC 0).wr (P.can c) F.CAN_ERR_STAT_REC 0) c 0

/-- Move one mailbox to the fallback channel (R391): true if it moved. -/
def canMove (s : State) (c m : Nat) : State :=
  let x := mbox s c m
  let d := s.cn c F.CAN_CAN_CFG_FALLBACK
  let base := s.cn c F.CAN_CAN_CFG_FB_BASE
  if (x.st = .ready ∨ x.st = .armed) ∧ x.f.fb then
    match (List.range 32).find? fun k => decide (base ≤ k) && (mbox s d k).st == .empty with
    | some k =>
      if canErr s d ≤ 1 ∧ !s.stopReq (P.can d) ∧ x.f.fmt ≤ canProto s d then
        let s := setMbox s d k { f := { x.f with sched := false }, st := x.st }
        let s := setMbox s c m { x with movedCh := d, movedMb := k }
        let s := countRaise s (P.can c) F.CAN_CNT_MOVED_N (P.can c) 1
        canComplete s c m MR.moved
      else s
    | none => s
  else s

/-- Bus-off entry (R390, R391). -/
def busOff (s : State) (c : Nat) : State :=
  let s := match (can s c).att with
    | some (some m) =>
      let x := mbox s c m
      if (can s c).cancel then canComplete s c m MR.cancelled
      else setMbox s c m { x with st := .ready, waitBo := true }
    | _ => s
  let s := canEnd s c
  let s := s.inc (P.can c) F.CAN_CNT_BUSOFF_N
  let s := raise (s.wr (P.can c) F.CAN_ERR_STAT_STATE 2) (P.can c) 1
  let d := s.cn c F.CAN_CAN_CFG_FALLBACK
  let s := if s.cn c F.CAN_CAN_CFG_FB_EN = 1 ∧ d ≠ c then s.each 32 fun t m => canMove t c m else s
  if s.cn c F.CAN_CAN_CFG_BO_MANUAL = 0 then setCanErr s c 3 else s

/-- RECOVER was written (R390). -/
def canRecover (s : State) (c : Nat) : State := if canErr s c = 2 then setCanErr s c 3 else s

/-- A failed attempt of a mailbox or of the tunnel head (R388, R402). `counts` says that it increments RETRIES. -/
def canFail (s : State) (c : Nat) (counts : Bool → Bool) : State :=
  match (can s c).att with
  | some (some m) =>
    let x := mbox s c m
    let n := if counts x.f.retryArb then x.retries + 1 else x.retries
    let s' := setMbox s c m { x with retries := min 15 n, st := .ready }
    if (can s c).cancel then canEnd (canComplete s' c m MR.cancelled) c
    else if x.f.retryMax ≠ 15 ∧ x.f.retryMax < n then canEnd (canComplete s' c m MR.abortRetry) c
    else canEnd s' c
  | some none =>
    match (can s c).item with
    | none => canEnd s c
    | some x =>
      let k := (can s c).tries.at 0 x.arr
      let n := if counts (s.cn c F.CAN_TUN_CFG_RETRY_ARB == 1) then k + 1 else k
      let s := canEnd s c
      if s.cn c F.CAN_TUN_CFG_RETRY_MAX ≠ 15 ∧ s.cn c F.CAN_TUN_CFG_RETRY_MAX < n then
        (tunDrop s c x).inc (P.can c) F.CAN_CNT_TUN_FAIL_N
      else setCan s c { can s c with tries := (can s c).tries.put 0 x.arr n }
  | none => s

/-! ## Meanings -/

/-- CAN_SOF (R385): the bus is free for an attempt whose SOF falls at ring time `t`; `dly` is the loop delay measured on it, none
where the data meet an uncorrectable ECC error. -/
def execCanSof (c t : Nat) (dly : Option Nat) (s : State) : Out :=
  .next (if s.alive && decide (c < 8) && canTakesPart s c && decide (canErr s c ≤ 1) && (can s c).att.isNone &&
      (can s c).rx.isNone && s.cn c F.CAN_CAN_CFG_LISTEN_ONLY == 0 && s.cn c F.CAN_CAN_CFG_RESTRICTED == 0 then
    canSof (s.atTime t) c t dly
  else s)

/-- CAN_FRAME_SENT (R386): the frame in progress completes. -/
def execCanFrameSent (c : Nat) (s : State) : Out :=
  .next (if s.alive && decide (c < 8) then
    match (can s c).att with
    | none => s
    | some who =>
      let f := match who with
        | some m => (mbox s c m).f
        | none => ((can s c).item.map tunFrame).getD {}
      let data := match who with
        | some _ => mbData s f
        | none => f.data
      let stamp := (can s c).sof
      let esi := (can s c).esi && f.fmt == 1
      let item := (can s c).item
      let s := s.inc (P.can c) F.CAN_CNT_TX_N
      let s := canJudgeErr (s.wr (P.can c) F.CAN_ERR_STAT_TEC (s.cn c F.CAN_ERR_STAT_TEC - 1)) c
      let s := match who with
        | some m => canComplete s c m MR.done
        | none => (item.map (tunDrop s c)).getD s
      let s := if s.cn c F.CAN_CAN_CFG_SELF_RX = 1 then canReceive s c { f with data := data } esi true stamp else s
      canEnd s c
  else s)

/-- CAN_ATTEMPT_FAILED (R388): `code` is 0 for lost arbitration, else the LAST_ERR code; `phase` the data phase; `keep` that
ISO 11898-1 leaves TEC as it is for this error. -/
def execCanAttemptFailed (c code : Nat) (phase keep : Bool) (s : State) : Out :=
  .next (if s.alive && decide (c < 8) && (can s c).att.isSome then
    if code = 0 then
      -- the frame of the node that won is in reception from the same SOF
      let s := setCan s c { can s c with rx := some (can s c).sof }
      canFail (s.inc (P.can c) F.CAN_CNT_ARB_LOST_N) c (fun b => b)
    else
      let s := (s.inc (P.can c) F.CAN_CNT_ERR_N).wr (P.can c) F.CAN_LAST_ERR_CODE code
      let s := (s.wr (P.can c) F.CAN_LAST_ERR_PHASE (b2n phase)).wr (P.can c) F.CAN_LAST_ERR_TX 1
      let tec := s.cn c F.CAN_ERR_STAT_TEC + (if keep then 0 else 8)
      let s := canJudgeErr (s.wr (P.can c) F.CAN_ERR_STAT_TEC (min 511 tec)) c
      -- an error that takes TEC above 255 is bus-off: RETRIES stays (R390)
      if 255 < tec then s else canFail s c (fun _ => true)
  else s)

/-- BUS_OFF (R390): TEC has exceeded 255. -/
def execBusOff (c : Nat) (s : State) : Out :=
  .next (if s.alive && decide (c < 8) && decide (255 < s.cn c F.CAN_ERR_STAT_TEC) && decide (canErr s c ≤ 1) then busOff s c else s)

/-- RECOVERY_END (R390): 128 occurrences of 11 recessive bits have passed. -/
def execRecoveryEnd (c : Nat) (s : State) : Out :=
  .next (if s.alive && decide (c < 8) && canErr s c == 3 then
    let s := s.zero (P.can c) [F.CAN_ERR_STAT_TEC, F.CAN_ERR_STAT_REC, F.CAN_ERR_STAT_BO_SEQ]
    let s := s.each 32 fun t m =>
      let x := mbox t c m
      if x.waitBo then setMbox t c m { x with waitBo := false } else t
    setCanErr s c 0
  else s)

/-- CAN_WINDOW_END (R396): window `w` ends at `t`: scheduled mailboxes it names that stand READY have missed it. -/
def execCanWindowEnd (c w t : Nat) (s : State) : Out :=
  .next (if s.alive && decide (c < 8) && decide (w < 16) && s.cn c F.CAN_SCHED_CFG_EN == 1 then
    let s := s.atTime t
    let mask := s.cn c (F.CAN_WIN_B_MASK w)
    let kind := s.cn c (F.CAN_WIN_A_KIND w)
    let l := if kind = 1 then (lowestBit mask).toList else if kind = 2 then (List.range 32).filter fun m => bitOf mask m else []
    l.foldl (fun t m =>
      let x := mbox t c m
      if x.st = .ready ∧ x.f.sched then
        let t := t.inc (P.can c) F.CAN_CNT_WIN_MISSED_N
        if x.f.winAbort then canComplete t c m MR.abortWindow else t
      else t) s
  else s)

/-- An error on a frame that the channel receives (R389); `d` is the step of REC that ISO 11898-1 gives. -/
def canRxError (s : State) (c code : Nat) (phase : Bool) (d : Nat) : State :=
  let s := (s.inc (P.can c) F.CAN_CNT_ERR_N).wr (P.can c) F.CAN_LAST_ERR_CODE code
  let s := (s.wr (P.can c) F.CAN_LAST_ERR_PHASE (b2n phase)).wr (P.can c) F.CAN_LAST_ERR_TX 0
  canRxEnd (canJudgeErr (s.inc (P.can c) F.CAN_ERR_STAT_REC d) c) c

/-- A frame of a format above PROTO (R382; what ISO 11898-1 does there is PRESUMED, log 108): a protocol exception, after which the
channel integrates again with its counters as they are, or with PXHD = 1 a form error. -/
def canException (s : State) (c : Nat) : State :=
  if s.cn c F.CAN_CAN_CFG_PXHD = 1 then canRxError s c 2 false 1
  else
    let s := (s.wr (P.can c) F.CAN_LAST_ERR_CODE 7).wr (P.can c) F.CAN_LAST_ERR_PHASE 0
    let s := canRxEnd (s.wr (P.can c) F.CAN_LAST_ERR_TX 0) c
    setCan s c { can s c with integ := false }

/-- CAN_FRAME_RECEIVED (R398): a frame of another node has passed its CRC, or its SOF has been seen; `t` is the RX edge of its SOF,
and REC goes down as ISO 11898-1 says. -/
def execCanFrameReceived (c t : Nat) (f : CanRx) (s : State) : Out :=
  .next (if s.alive && decide (c < 8) && canHears s c && decide (canErr s c ≤ 1) then
    if f.start then
      if (can s c).att.isSome || !canTakesPart s c then s else setCan s c { can s c with rx := some t }
    else if canProto s c < f.fmt then canException s c
    else
    let rec0 := s.cn c F.CAN_ERR_STAT_REC
    let s := if rec0 ≤ 127 then s.wr (P.can c) F.CAN_ERR_STAT_REC (rec0 - 1)
      else
        let d := s.draw 8
        d.2.wr (P.can c) F.CAN_ERR_STAT_REC (119 + d.1 % 9)
    let s := canJudgeErr s c
    let m : MbFrame := { ide := f.ide, rtr := f.rtr, id := f.id, fmt := f.fmt, brs := f.brs, len := f.data.length, sdt := f.sdt,
                         vcid := f.vcid, sec := f.sec, af := f.af, data := f.data }
    canReceive (canRxEnd s c) c m f.esi false (canRxStamp s c t)
  else s)

/-- A TUNNEL_FIELD frame with KIND 0 is matched against the TIN entries of CAN0 to CAN7 (R401). -/
def canTunnelIn (s : State) (f : Frame) : State :=
  let stream := f.w3 / 2 ^ 16 % 256
  let hit := (List.range 8).find? fun c => (List.range 8).any fun i =>
    s.cn c (F.CAN_TIN_EN i) == 1 && s.cn c (F.CAN_TIN_STREAM i) == stream &&
      (s.cn c (F.CAN_TIN_ANY_SRC i) == 1 || s.cn c (F.CAN_TIN_SRC i) == f.src)
  match hit with
  | some c => (qAdmit s (s.cn c F.CAN_AUX_Q_TUN_QUEUE) f.prio f.src c (s.tick % 2 ^ 32) false (headBytes f) f.pay).2
  | none => s.inc (P.can 0) F.CAN_CNT_TUN_UNMATCHED_N

/-- RECEIVE_ERROR (R389): an error on a frame that the channel receives; `d` is the step of REC that ISO 11898-1 gives. -/
def execReceiveError (c code : Nat) (phase : Bool) (d : Nat) (s : State) : Out :=
  .next (if s.alive && decide (c < 8) && canHears s c && decide (canErr s c ≤ 1) then canRxError s c code phase d else s)

/-- BUS_INTEGRATION (R404): 11 consecutive recessive bits have passed; in recovery BO_SEQ counts them (R390, R405). -/
def execBusIntegration (c : Nat) (s : State) : Out :=
  .next (if s.alive && decide (c < 8) && canAllowed s && s.enabled (P.can c) && !s.stopReq (P.can c) then
    let s := if canErr s c = 3 then s.wr (P.can c) F.CAN_ERR_STAT_BO_SEQ (min 127 (s.cn c F.CAN_ERR_STAT_BO_SEQ + 1)) else s
    setCan s c { can s c with integ := true }
  else s)

end Sys2Proof.Machine
end

