-- ==== Sys2Proof/Machine/Pio.lean ====
section
/-!
DEFINITION. Programmable I/O engines (15_pio_engines.md, R407 to R424).
-/

namespace Sys2Proof.Machine

/-- An engine's record. -/
def State.eng (s : State) (e : Nat) : PioSt := s.pio.at {} e

/-- Change an engine's record; the queue levels of QUEUE_STAT and PROG_PEND follow. -/
def State.setEng (s : State) (e : Nat) (x : PioSt) : State :=
  let s := { s with pio := s.pio.put {} e x }
  let s := s.wr (P.pio e) F.PIO_QUEUE_STAT_OUTQ_LEVEL x.outq.length
  let s := s.wr (P.pio e) F.PIO_QUEUE_STAT_INQ_LEVEL x.inq.length
  s.wr (P.pio e) F.PIO_ENG_STAT_PROG_PEND (b2n (!x.prog.isEmpty || x.wrap.isSome))

/-- The engine is not told to stop (R407, R421): ENABLE = 1, STOP = 0, RUN = 1, in a state that runs PIO. -/
def pioWanted (s : State) (e : Nat) : Bool :=
  s.enabled (P.pio e) && !s.stopReq (P.pio e) && s.on (P.pio e) F.PIO_ENG_CFG_RUN && domOn s 6 &&
    s.isIn [NS.join, NS.commission, NS.run, NS.coast, NS.maint]

/-- The engine may run (R407, R412): it is not told to stop and not halted by BAD_INSTR. -/
def pioMayRun (s : State) (e : Nat) : Bool := pioWanted s e && !(s.eng e).bad

/-- ENG_STAT.RUNNING. -/
def pioRunning (s : State) (e : Nat) : Bool := s.on (P.pio e) F.PIO_ENG_STAT_RUNNING

/-- The engine may take an instruction: it runs, and a stalled one is not told to stop, since a stalled instruction does not
complete then. One told to stop takes the instruction in progress alone (R418, `pioNext`). -/
def pioLive (s : State) (e : Nat) : Bool :=
  pioRunning s e && (pioWanted s e || !s.on (P.pio e) F.PIO_ENG_STAT_STALLED)

/-- No instruction is in progress that is to complete before the engine stops (R412, R418). -/
def pioAtRest (s : State) (e : Nat) : Bool := s.on (P.pio e) F.PIO_ENG_STAT_STALLED || !pioRunning s e

/-- The engine is told to stop and has not stopped yet (R407, R412). -/
def pioToStop (s : State) (e : Nat) : Bool := (pioRunning s e || (s.eng e).bad) && !pioWanted s e

/-! ## Signals (R416) -/

/-- A signal's record. -/
def State.sig (s : State) (n : Nat) : SigSt := s.sigs.at {} n

/-- Change a signal's record. -/
def State.setSig (s : State) (n : Nat) (x : SigSt) : State := { s with sigs := s.sigs.put {} n x }

/-- The signal's owner: 0 NONE, 1 EDGE, 2 PIO (R416, R424: EDGE acts as NONE on IOL signals, 3 as NONE, engines 24 to 31 as
NONE; the owner of IOL_RX is ignored). -/
def sigOwner (s : State) (n : Nat) : Nat :=
  let o := s.rd P.pinmux (F.PINMUX_PIN_OWNER n)
  if 96 ≤ n ∧ n % 4 = 3 then 0
  else if o = 1 then (if n < 96 then 1 else 0)
  else if o = 2 then (if s.rd P.pinmux (F.PINMUX_PIN_ENGINE n) < 24 then 2 else 0)
  else 0

/-- INV of the signal. -/
def sigInv (s : State) (n : Nat) : Bool := s.on P.pinmux (F.PINMUX_PIN_INV n)

/-- The node state that decides what a logic-die pin does: an Eclipse holds what stood at the freeze instant (R72). -/
def pinState (s : State) : Nat := if s.st = NS.eclipse then s.rd P.node F.NODE_STATE_INFO_PREV else s.st

/-- The owner drives the pad now (R416, R421, R72): not in BOOT, DAWN or ISOLATE, nor in an Eclipse entered from one of them. -/
def sigOE (s : State) (n : Nat) : Bool :=
  if [NS.boot, NS.dawn, NS.isolate].contains (pinState s) || !domOn s 6 then false
  else match sigOwner s n with
    | 1 => true
    | 2 => if n < 96 then (s.sig n).oe else true
    | _ => false

/-- The level at the pad or field die now (R416, R424): driven by its owner, else from outside, and where nothing drives it pulled: the
pulls are 50 kΩ (R596). An IOL output stands at the field die as it last reached it (R421). DESIGN CHOICE (log 102): a pad that nothing
drives or pulls reads 0. -/
def sigLevel (s : State) (n : Nat) : Bool :=
  if 96 ≤ n ∧ n % 4 ≠ 3 then
    let x := s.chan ((n - 96) / 4)
    if n % 4 = 0 then x.tx else if n % 4 = 1 then x.en else x.wu
  else if sigOE s n then xor (s.sig n).latch (sigInv s n)
  else (s.sig n).ext.getD (decide (n < 96) && s.rd P.pinmux (F.PINMUX_PIN_PULL n) == 2)

/-- A wake-up request on channel `c` (R359): only in IOLINK mode with SIO = 0, out of safe state, and not while one runs.
The line is driven to the inverse of its level at the start. -/
def wurqStart (s : State) (c : Nat) : State :=
  if chIsIol s c && !chSafe s c && !s.service && s.ch F.FIELD_CH_STAT_WURQ_BUSY c == 0 then
    (s.setChan c { s.chan c with wakeLvl := !(if (s.chan c).en then (s.chan c).tx else (s.chan c).comp) }).chWr
      F.FIELD_CH_STAT_WURQ_BUSY c 1
  else s

/-- IOL_TX, IOL_EN or IOL_WU of channel `c` reaches the field die (R358, R359): a rising IOL_WU starts a wake-up request. -/
def iolSignal (s : State) (c j : Nat) (v : Bool) : State :=
  let x := s.chan c
  if j = 0 then s.setChan c { x with tx := v }
  else if j = 1 then s.setChan c { x with en := v }
  else
    let t := s.setChan c { x with wu := v }
    if v && !x.wu then wurqStart t c else t

/-- The owner's latch of a signal changes; an IOL output goes on to the field die with INV applied. -/
def driveSig (s : State) (n : Nat) (v : Bool) : State :=
  let s := s.setSig n { s.sig n with latch := v }
  if 96 ≤ n then iolSignal s ((n - 96) / 4) ((n - 96) % 4) (xor v (sigInv s n)) else s

/-- Engine `e` owns signal `n`. -/
def pioOwns (s : State) (e n : Nat) : Bool := sigOwner s n == 2 && s.rd P.pinmux (F.PINMUX_PIN_ENGINE n) == e

/-- NOT_OWNER (R416, R422, R423). -/
def pioNotOwner (s : State) (e : Nat) : State :=
  let s := s.wr (P.pio e) F.PIO_ENG_STAT_NOT_OWNER 1
  pioEv (s.inc (P.pio e) F.PIO_CNT_NOT_OWNER_N) e

/-- An output of engine `e` to signal `n` (R411, R416). -/
def pioOut (s : State) (e n : Nat) (v : Bool) : State :=
  if 159 < n then s
  else if pioOwns s e n then driveSig s n v
  else pioNotOwner s e

/-- An output enable of engine `e` for signal `n`; it has an effect on GPIO signals only. -/
def pioDrive (s : State) (e n : Nat) (v : Bool) : State :=
  if 159 < n then s
  else if pioOwns s e n then (if n < 96 then s.setSig n { s.sig n with oe := v } else s)
  else pioNotOwner s e

/-- The owner changes at a tick instant (R417): the new owner's latch and enable take the level and enable that the signal
has, so nothing moves. Where only INV changes, an IOL output changes at the field die (R416). An IOL output that no engine owns any
more has no effect there (R416); DESIGN CHOICE (log 110): it then stands at 0, so C/Q is high impedance. `old` is the state before
the change. -/
def sigOwnerChange (old s : State) (n : Nat) : State :=
  if sigOwner old n = sigOwner s n ∧ s.rd P.pinmux (F.PINMUX_PIN_ENGINE n) = old.rd P.pinmux (F.PINMUX_PIN_ENGINE n) then
    if sigOwner s n = 2 ∧ 96 ≤ n ∧ sigInv old n ≠ sigInv s n then driveSig s n (s.sig n).latch else s
  else
    let s := s.setSig n { s.sig n with latch := xor (sigLevel old n) (sigInv s n), oe := sigOE old n }
    if 96 ≤ n ∧ n % 4 ≠ 3 ∧ sigOwner s n ≠ 2 then iolSignal s ((n - 96) / 4) ((n - 96) % 4) false else s

/-! ## The program -/

/-- INSTR of slot `k`. -/
def pioInstr (s : State) (e k : Nat) : Nat := s.rd (P.pio e) (F.PIO_INSTR_INSTR k)

/-- The current slot. -/
def pioPC (s : State) (e : Nat) : Nat := s.rd (P.pio e) F.PIO_ENG_STAT_PC

/-- The instructions of R410, R411. -/
inductive PioOp where
  | jump | waitSig | waitTrig | waitTick | setLevels | setDrives | setSr | setFlag
  | loadi | loadr | dec | mtch | takeq | shiftOut | shiftIn | pull | push
  deriving DecidableEq, Repr

/-- Which instruction a word is; none where a reserved value or bit makes it BAD_INSTR (R410, R412). -/
def pioDecode (w : Nat) : Option PioOp :=
  match bitsOf w 0 3 with
  | 0 => if bitsOf w 13 3 = 7 ∨ bitOf w 12 then none else some .jump
  | 1 => match bitsOf w 14 2 with
    | 0 => some .waitSig | 1 => some .waitTrig | 3 => some .waitTick | _ => none
  | 2 => match bitsOf w 14 2 with
    | 0 => some .setLevels | 1 => some .setDrives | 2 => some .setSr | _ => some .setFlag
  | 3 => match bitsOf w 13 3 with
    | 0 => some .loadi | 1 => some .loadr | 2 => some .dec | 3 => some .mtch | 4 => some .takeq | _ => none
  | 4 => if bitsOf w 12 4 = 0 then some .shiftOut else none
  | 5 => if bitsOf w 12 4 = 0 then some .shiftIn else none
  | 6 => if bitsOf w 8 8 = 0 then some .pull else none
  | _ => if bitsOf w 9 7 = 0 then some .push else none

/-- Every staged program word and WRAP value of an engine applies (R420). -/
def pioApply (s : State) (e : Nat) : State :=
  let x := s.eng e
  let s := x.prog.foldl (fun t w => match w.2 with
    | some v => t.wr (P.pio e) (F.PIO_INSTR_INSTR w.1) v
    | none => t) s
  let s := match x.wrap with
    | some v => (s.wr (P.pio e) F.PIO_WRAP_LAST (bitsOf v 8 5)).wr (P.pio e) F.PIO_WRAP_FIRST (bitsOf v 0 5)
    | none => s
  s.setEng e { s.eng e with prog := [], wrap := none }

/-- No longer stalled. -/
def pioUnstall (s : State) (e : Nat) : State :=
  let s := s.setEng e { s.eng e with waitFrom := none }
  (s.wr (P.pio e) F.PIO_ENG_STAT_STALLED 0).wr (P.pio e) F.PIO_ENG_STAT_STALL_ON 0

/-- An engine ceases to run and reaches its stop point (R418, R420): a stalled instruction does not complete; staged program
values apply; STOPPED rises. A halt by BAD_INSTR ends here, since the next start is under R419. -/
def pioStop (s : State) (e : Nat) : State :=
  let s := pioUnstall s e
  let s := s.setEng e { s.eng e with bad := false }
  let s := pioApply s e
  (s.wr (P.pio e) F.PIO_ENG_STAT_RUNNING 0).wr (P.pio e) F.HDR_PAGE_STAT_STOPPED 1

/-- An engine that is told to stop with no instruction in progress stops at once (R418): a stalled one, and one that BAD_INSTR has
halted. -/
def pioHalt (s : State) (e : Nat) : State := if pioToStop s e && pioAtRest s e then pioStop s e else s

/-- The instruction stalls: 1 WAIT, 2 PULL, 3 PUSH, 4 CMP TAKEQ (R409); an engine told to stop stops with it. -/
def pioStall (s : State) (e on : Nat) : State :=
  pioHalt ((s.wr (P.pio e) F.PIO_ENG_STAT_STALLED 1).wr (P.pio e) F.PIO_ENG_STAT_STALL_ON on) e

/-- The next slot after the instruction at PC: TO of a taken JUMP, the wrap bottom after the wrap top, else the one that follows; a
wrap crossing applies the staged program (R409, R420). -/
def pioStep (s : State) (e : Nat) (dest : Option Nat) : State :=
  match dest with
  | some t => s.wr (P.pio e) F.PIO_ENG_STAT_PC t
  | none =>
    if pioPC s e = s.rd (P.pio e) F.PIO_WRAP_LAST then
      pioApply (s.wr (P.pio e) F.PIO_ENG_STAT_PC (s.rd (P.pio e) F.PIO_WRAP_FIRST)) e
    else s.wr (P.pio e) F.PIO_ENG_STAT_PC (pioPC s e + 1)

/-- The instruction completes (R409); an engine that is told to stop stops after it, with PC at the next instruction (R418). -/
def pioNext (s : State) (e : Nat) (dest : Option Nat) : State :=
  let s := pioStep (pioUnstall s e) e dest
  if pioToStop s e then pioStop s e else s

/-- An engine that meets a reserved value stops with PC there (R412). -/
def pioBad (s : State) (e : Nat) : State :=
  let s := s.setEng e { s.eng e with bad := true }
  let s := (s.wr (P.pio e) F.PIO_ENG_STAT_RUNNING 0).wr (P.pio e) F.PIO_ENG_STAT_BAD_INSTR 1
  pioEv (pioUnstall s e) e

/-- The engine takes its current instruction: `act` on its word when it is the wanted one. A reserved word stops the engine
whichever instruction was wanted. -/
def pioTake (s : State) (e : Nat) (op : PioOp) (act : State → Nat → State) : State :=
  if s.alive && decide (e < 24) && pioLive s e then
    let w := pioInstr s e (pioPC s e)
    match pioDecode w with
    | none => pioBad s e
    | some o => if o = op then act s w else s
  else s

/-- SR, with SHIFT_CNT moved on by `n`, saturating at 32 (R407). -/
def pioSr (s : State) (e v : Nat) : State := s.wr (P.pio e) F.PIO_SR_SR v

/-- SHIFT_CNT. -/
def pioCnt (s : State) (e v : Nat) : State := s.wr (P.pio e) F.PIO_ENG_STAT_SHIFT_CNT (min v 32)

/-- An input signal as the engine reads it (R411, R416): above 159 it reads 0; INV inverts it. -/
def pioIn (s : State) (n : Nat) (lvl : Bool) : Bool := if 159 < n then false else xor lvl (sigInv s n)

/-- The condition of a JUMP (R411). `lvl` is the level of TEST_SIG. -/
def pioIf (s : State) (e : Nat) (lvl : Bool) : Nat → Bool
  | 0 => true
  | 1 => s.on (P.pio e) F.PIO_ENG_STAT_Z
  | 2 => !s.on (P.pio e) F.PIO_ENG_STAT_Z
  | 3 => pioIn s (s.rd (P.pio e) F.PIO_WINDOWS_B_TEST_SIG) lvl
  | 4 => !pioIn s (s.rd (P.pio e) F.PIO_WINDOWS_B_TEST_SIG) lvl
  | 5 => !(s.eng e).outq.isEmpty
  | _ => bitOf (s.rd (P.pio e) F.PIO_SR_SR) (if s.on (P.pio e) F.PIO_ENG_CFG_SO_ORDER then 31 else 0)

/-- JUMP (R411). -/
def execJump (e : Nat) (lvl : Bool) (s : State) : Out :=
  .next (pioTake s e .jump fun s w =>
    if pioIf s e lvl (bitsOf w 13 3) then pioNext s e (some (bitsOf w 7 5)) else pioNext s e none)

/-- WAIT SIG (R411): `lvl` is the level of signal SI_FIRST + INDEX. -/
def execWaitSig (e : Nat) (lvl : Bool) (s : State) : Out :=
  .next (pioTake s e .waitSig fun s w =>
    if pioIn s (s.rd (P.pio e) F.PIO_WINDOWS_B_SI_FIRST + bitsOf w 7 6) lvl = bitOf w 13 then pioNext s e none
    else pioStall s e 1)

/-- WAIT TRIG (R411): the flag is cleared. -/
def execWaitTrig (e : Nat) (s : State) : Out :=
  .next (pioTake s e .waitTrig fun s w =>
    if s.bit (P.pio e) F.PIO_TRIG_PENDING (bitsOf w 7 2) then
      pioNext (s.setBit (P.pio e) F.PIO_TRIG_PENDING (bitsOf w 7 2) false) e none
    else pioStall s e 1)

/-- WAIT TICK (R411): completes at the next tick instant. -/
def execWaitTick (e : Nat) (s : State) : Out :=
  .next (pioTake s e .waitTick fun s _ =>
    match (s.eng e).waitFrom with
    | some n => if n < s.ticks then pioNext s e none else pioStall s e 1
    | none => pioStall (s.setEng e { s.eng e with waitFrom := some s.ticks }) e 1)

/-- SET LEVELS (R411). -/
def execSetLevels (e : Nat) (s : State) : Out :=
  .next (pioTake s e .setLevels fun s w =>
    let s := s.each (s.rd (P.pio e) F.PIO_WINDOWS_A_ST_WIDTH) fun t k =>
      pioOut t e (t.rd (P.pio e) F.PIO_WINDOWS_A_ST_FIRST + k) (bitOf w (7 + k))
    pioNext s e none)

/-- SET DRIVES (R411). -/
def execSetDrives (e : Nat) (s : State) : Out :=
  .next (pioTake s e .setDrives fun s w =>
    let s := s.each (s.rd (P.pio e) F.PIO_WINDOWS_A_ST_WIDTH) fun t k =>
      pioDrive t e (t.rd (P.pio e) F.PIO_WINDOWS_A_ST_FIRST + k) (bitOf w (7 + k))
    pioNext s e none)

/-- SET SR (R411). -/
def execSetSr (e : Nat) (s : State) : Out :=
  .next (pioTake s e .setSr fun s w => pioNext (pioCnt (pioSr s e (bitsOf w 7 7)) e 0) e none)

/-- SET FLAG (R411). -/
def execSetFlag (e : Nat) (s : State) : Out :=
  .next (pioTake s e .setFlag fun s w =>
    pioNext (pioEv (s.wr (P.pio e) F.PIO_ENG_STAT_USER (bitsOf w 7 4)) e) e none)

/-- CMP LOADI (R411). -/
def execCmpLoadi (e : Nat) (s : State) : Out :=
  .next (pioTake s e .loadi fun s w => pioNext (s.wr (P.pio e) F.PIO_CMP_V_V (bitsOf w 7 6)) e none)

/-- CMP LOADR (R411). -/
def execCmpLoadr (e : Nat) (s : State) : Out :=
  .next (pioTake s e .loadr fun s _ =>
    pioNext (s.wr (P.pio e) F.PIO_CMP_V_V (s.rd (P.pio e) F.PIO_CMP_PRESET_V)) e none)

/-- CMP DEC (R411). -/
def execCmpDec (e : Nat) (s : State) : Out :=
  .next (pioTake s e .dec fun s _ =>
    let v := (s.rd (P.pio e) F.PIO_CMP_V_V + (2 ^ 32 - 1)) % 2 ^ 32
    pioNext ((s.wr (P.pio e) F.PIO_CMP_V_V v).wr (P.pio e) F.PIO_ENG_STAT_Z (b2n (v == 0))) e none)

/-- CMP MATCH (R411). -/
def execCmpMatch (e : Nat) (s : State) : Out :=
  .next (pioTake s e .mtch fun s _ =>
    let z := (s.rd (P.pio e) F.PIO_SR_SR &&& s.rd (P.pio e) F.PIO_CMP_MASK_M) == s.rd (P.pio e) F.PIO_CMP_V_V
    pioNext (s.wr (P.pio e) F.PIO_ENG_STAT_Z (b2n z)) e none)

/-- CMP TAKEQ (R411). -/
def execCmpTakeq (e : Nat) (s : State) : Out :=
  .next (pioTake s e .takeq fun s _ =>
    match (s.eng e).outq with
    | [] => pioStall s e 4
    | v :: r => pioNext ((s.setEng e { s.eng e with outq := r }).wr (P.pio e) F.PIO_CMP_V_V v) e none)

/-- SHIFT_OUT (R411). -/
def execShiftOut (e : Nat) (s : State) : Out :=
  .next (pioTake s e .shiftOut fun s w =>
    let n := bitsOf w 7 5 + 1
    let sr := s.rd (P.pio e) F.PIO_SR_SR
    let msb := s.on (P.pio e) F.PIO_ENG_CFG_SO_ORDER
    let v := if msb then sr / 2 ^ (32 - n) else sr % 2 ^ n
    let wid := s.rd (P.pio e) F.PIO_WINDOWS_A_SO_WIDTH
    let first := s.rd (P.pio e) F.PIO_WINDOWS_A_SO_FIRST
    let s := s.each (min n (min wid 32)) fun t k =>
      pioOut t e (first + k) (bitOf v (if msb then n - 1 - k else k))
    let s := pioSr s e (if msb then sr * 2 ^ n % 2 ^ 32 else sr / 2 ^ n)
    pioNext (pioCnt s e (s.rd (P.pio e) F.PIO_ENG_STAT_SHIFT_CNT + n)) e none)

/-- The `n` signals from `first` as the engine reads them; bit k of `lvls` is the level of signal `first + k`. -/
def pioInVal (s : State) (first lvls : Nat) : Nat → Nat
  | 0 => 0
  | n + 1 => pioInVal s first lvls n + 2 ^ n * b2n (pioIn s (first + n) (bitOf lvls n))

/-- SHIFT_IN (R411): bit k of `lvls` is the level of signal SI_FIRST + k. -/
def execShiftIn (e lvls : Nat) (s : State) : Out :=
  .next (pioTake s e .shiftIn fun s w =>
    let n := bitsOf w 7 5 + 1
    let sr := s.rd (P.pio e) F.PIO_SR_SR
    let v := pioInVal s (s.rd (P.pio e) F.PIO_WINDOWS_B_SI_FIRST) lvls n
    let s := pioSr s e (if s.on (P.pio e) F.PIO_ENG_CFG_SI_ORDER then sr * 2 ^ n % 2 ^ 32 + v else sr / 2 ^ n + v * 2 ^ (32 - n))
    pioNext (pioCnt s e (s.rd (P.pio e) F.PIO_ENG_STAT_SHIFT_CNT + n)) e none)

/-- PULL (R411). -/
def execPull (e : Nat) (s : State) : Out :=
  .next (pioTake s e .pull fun s w =>
    match (s.eng e).outq with
    | v :: r => pioNext (pioCnt (pioSr (s.setEng e { s.eng e with outq := r }) e v) e 0) e none
    | [] =>
      if bitOf w 7 then pioNext (pioEv (s.wr (P.pio e) F.PIO_QUEUE_STAT_OUTQ_UNDER 1) e) e none
      else pioStall s e 2)

/-- PUSH (R411). -/
def execPioPush (e : Nat) (s : State) : Out :=
  .next (pioTake s e .push fun s w =>
    let clear := fun (t : State) => if bitOf w 8 then pioCnt (pioSr t e 0) e 0 else t
    if (s.eng e).inq.length < 8 then
      pioNext (clear (s.setEng e { s.eng e with inq := (s.eng e).inq ++ [s.rd (P.pio e) F.PIO_SR_SR] })) e none
    else if bitOf w 7 then pioNext (clear (pioEv (s.wr (P.pio e) F.PIO_QUEUE_STAT_INQ_OVER 1) e)) e none
    else pioStall s e 3)

/-- An engine starts (R419): RESUME keeps its state; CLEAR first resets PC, SR, SHIFT_CNT, V, Z, the trigger flags, BAD_INSTR
and USER. -/
def pioStart (s : State) (e : Nat) : State :=
  let s := if s.on (P.pio e) F.PIO_ENG_CFG_START_MODE then
      let s := s.wr (P.pio e) F.PIO_ENG_STAT_PC (s.rd (P.pio e) F.PIO_ENG_CFG_START_SLOT)
      s.zero (P.pio e) [F.PIO_SR_SR, F.PIO_ENG_STAT_SHIFT_CNT, F.PIO_CMP_V_V, F.PIO_ENG_STAT_Z, F.PIO_TRIG_PENDING,
        F.PIO_ENG_STAT_BAD_INSTR, F.PIO_ENG_STAT_USER]
    else s
  let s := s.wr (P.pio e) F.HDR_PAGE_STAT_STOPPED 0
  s.wr (P.pio e) F.PIO_ENG_STAT_RUNNING 1

/-- ENGINE_START (R419): the engine stands and may run. -/
def execEngineStart (e : Nat) (s : State) : Out :=
  .next (if s.alive && decide (e < 24) && !pioRunning s e && pioMayRun s e then pioStart s e else s)

/-- A write of OUTQ_W (R413). -/
def pioOutqW (s : State) (e v : Nat) : State :=
  if (s.eng e).outq.length < 8 then s.setEng e { s.eng e with outq := (s.eng e).outq ++ [v % 2 ^ 32] }
  else pioEv (s.wr (P.pio e) F.PIO_QUEUE_STAT_OUTQ_OVER 1) e

/-- A read of INQ_R (R413): the value and the state after it. -/
def pioInqR (s : State) (e : Nat) : Nat × State :=
  match (s.eng e).inq with
  | v :: r => (v, s.setEng e { s.eng e with inq := r })
  | [] => (0, pioEv (s.wr (P.pio e) F.PIO_QUEUE_STAT_INQ_UNDER 1) e)

/-- A trigger of flag `t` of engine `e` (R414). -/
def pioTrigger (s : State) (e t : Nat) : State :=
  let o := pioTrig s e t
  if o.1 then pioEv o.2 e else o.2

/-- A write of TRIG.FORCE (R414). -/
def pioForce (s : State) (e mask : Nat) : State := s.each 4 fun t k => if bitOf mask k then pioTrigger t e k else t

/-- A write of ENG_CMD (R419): 1 FLUSH_OUTQ, 2 FLUSH_INQ, while STOPPED = 1. -/
def pioCmd (s : State) (e op : Nat) : State :=
  if s.stopped (P.pio e) then
    if op = 1 then s.setEng e { s.eng e with outq := [] }
    else if op = 2 then s.setEng e { s.eng e with inq := [] }
    else s
  else s

end Sys2Proof.Machine
end

