-- ==== Sys2Proof/Machine/Tracks.lean ====
section
/-!
DEFINITION. Tracks: measurement, sources, takeover and the follower's model (10_tracks_and_position.md, R272 to R294).
-/

namespace Sys2Proof.Machine

/-! ## Configuration and records -/

/-- A slot's record. -/
def trk (s : State) (k : Nat) : TrackSt := s.tracks.at {} k

/-- Change a slot's record. -/
def setTrk (s : State) (k : Nat) (x : TrackSt) : State := { s with tracks := s.tracks.put {} k x }

/-- A register of slot `k`. -/
def State.tk (s : State) (f : Fld) (k : Nat) : Nat := s.rd (P.track k) f

/-- Set a register of slot `k`. -/
def State.tkWr (s : State) (f : Fld) (k v : Nat) : State := s.wr (P.track k) f v

/-- SCALE: 0 acts as 65,536. -/
def trkScale (s : State) (k : Nat) : Nat := let v := s.tk F.TRACK_SCALE_SCALE k; if v = 0 then 65536 else v

/-- LOOP_LEN in µm, 0 straight; otherwise used as the nearest limit of 1,000,000 to 2^47 − 1 (R293). -/
def loopLen (s : State) (k : Nat) : Nat :=
  let v := s.rd64 (P.track k) F.TRACK_LOOP_LEN_LO_LEN F.TRACK_LOOP_LEN_HI_LEN
  if v = 0 then 0 else clampNat 1000000 (2 ^ 47 - 1) v

/-- The modulus M of the track in µm (R273). -/
def trkMod (s : State) (k : Nat) : Nat := let l := loopLen s k; if l = 0 then 2 ^ 48 else l

/-- EXTRAP_MAX, TAKE_TICKS, STEP_LIMIT, HALT_CREEP, VEL_WIN, ACC_TICKS, STILL_TIME within their ranges. -/
def extrapMax (s : State) (k : Nat) : Nat := max 1 (s.tk F.TRACK_TRK_TMR_EXTRAP_MAX k)
def takeTicks (s : State) (k : Nat) : Nat := max 1 (s.tk F.TRACK_TRK_TMR2_TAKE_TICKS k)
def stepLimit (s : State) (k : Nat) : Nat := max 1 (s.tk F.TRACK_STEP_LIMIT_UM k)
def haltCreep (s : State) (k : Nat) : Nat := max 1 (s.tk F.TRACK_HALT_CREEP_UM k)
def velWin (s : State) (k : Nat) : Nat := max 10 (s.tk F.TRACK_TRK_TMR_VEL_WIN k)
def accTicks (s : State) (k : Nat) : Nat := clampNat 1 64 (s.tk F.TRACK_TRK_TMR_ACC_TICKS k)
def stillTime (s : State) (k : Nat) : Nat := max 1 (s.tk F.TRACK_TRK_TMR2_STILL_TIME k)

/-- The signed distance of R273 for a modulus of `m` µm between positions held in units of 1/`u` µm. -/
def distMod (m u : Nat) (a b : Int) : Int :=
  let d := (a - b) % ((m * u : Nat) : Int)
  if d < (((m - m / 2) * u : Nat) : Int) then d else d - ((m * u : Nat) : Int)

/-- A position in 2^-16 µm brought into the track's range: [0, LOOP_LEN) of a loop, 48-bit two's complement of a straight track. -/
def wrapPos (s : State) (k : Nat) (x : Int) : Int :=
  let l := loopLen s k
  if l ≠ 0 then x % ((l * 65536 : Nat) : Int)
  else
    let y := x % ((2 ^ 64 : Nat) : Int)
    if y < 2 ^ 63 then y else y - 2 ^ 64

/-- dist of two positions in 2^-16 µm. -/
def distPos (s : State) (k : Nat) (a b : Int) : Int := distMod (trkMod s k) 65536 a b

/-- dist of two positions in µm. -/
def distUm (s : State) (k : Nat) (a b : Int) : Int := distMod (trkMod s k) 1 a b

/-- Whole µm of a position held with 16 fraction bits: the floor (R273). -/
def floorUm (x : Int) : Int := x / 65536

/-- The track model follows in this state: JOIN and the working states (R60). -/
def tracksOn (s : State) : Bool := s.working || s.st == NS.join

/-- The slot works: page enabled, no STOP, model on. -/
def slotOn (s : State) (k : Nat) : Bool := tracksOn s && s.enabled (P.track k) && !s.stopReq (P.track k)

/-- STATUS of slot `k` (R294). -/
def trkStatus (s : State) (k : Nat) : State := raise s (P.track k) 1

/-- SRC_STATE codes: 0 OFF, 1 STANDBY, 2 ACTIVE, 3 FAULT; STATE codes: 0 IDLE, 1 WAIT, 2 OK, 3 HOLD, 4 LOST (R293). -/
def srcState (s : State) (k : Nat) : Nat := s.tk F.TRACK_TRK_STAT_SRC_STATE k
def trkState (s : State) (k : Nat) : Nat := s.tk F.TRACK_TRK_STAT_STATE k

/-- A change of the follower state raises STATUS (R287). -/
def setTrkState (s : State) (k v : Nat) : State :=
  if trkState s k = v then s
  else
    let s := s.tkWr F.TRACK_TRK_STAT_STATE k v
    let s := if v = 4 then s.inc (P.track k) F.TRACK_CNT_LOST_N else s
    trkStatus s k

/-! ## The model (R286) -/

/-- p̂ in 2^-16 µm and v̂ in µm/s from a sample at ring time `t` in 0.5 ns, and whether the evaluation lies before T(m).
`lost` takes the acceleration as 0. -/
def evalSample (s : State) (k : Nat) (x : TrkSample) (lost : Bool) (t2 : Int) : Int × Int × Bool :=
  let d0 : Rat := ((t2 - 2 * x.t0 : Int) : Rat) / 2000000000
  let still := bitOf x.flags 6
  let a : Rat := if lost || still then 0 else (x.a : Rat)
  let v : Rat := (x.v : Rat)
  let stop : Rat := if v * a < 0 then -v / a else 0
  let d : Rat := if v * a < 0 ∧ stop < d0 then stop else d0
  let p : Rat := ((x.p : Int) : Rat) * 65536 + (v * d + a * d * d / 2) * 65536
  (wrapPos s k (rnd Rnd.pos p), rnd Rnd.evalVel (v + a * d), decide (d0 < 0))

/-- p̂ and v̂ of slot `k` at ring time `t2` (0.5 ns); none in IDLE and WAIT. -/
def evalTrack (s : State) (k : Nat) (t2 : Int) : Option (Int × Int × Bool) :=
  if trkState s k ≤ 1 then none
  else (trk s k).smp.map fun x => evalSample s k x (trkState s k == 4) t2

/-- p̂ of slot `k` in µm at ring time `t` ns; none without a model. -/
def posAt (s : State) (k t : Nat) : Option Int := (evalTrack s k (2 * t)).map fun e => floorUm e.1

/-! ## Taking a sample (R278, R282, R283, R285) -/

/-- The signed big-endian field at offset `o` of a payload. -/
def beSigned (l : List Nat) (o n : Nat) : Int := toSigned (8 * n) (beAt l o n)

/-- A payload of R278: (track, flags [23:16], rank, gen, p µm, v, a). -/
def sampleP (l : List Nat) (straight : Bool) : Int :=
  let v := beAt l 6 2 * 2 ^ 32 + beAt l 8 4
  if straight then toSigned 48 v else (v : Int)

/-- Saturate to a signed 32-bit register. -/
def sat32 (x : Int) : Nat := ofSigned 32 (clampInt (-(2 ^ 31)) (2 ^ 31 - 1) x)

/-- The age of the sample in use at the current tick. -/
def smpAge (s : State) (k : Nat) : Nat :=
  match (trk s k).smp with
  | some x => min 255 (s.tick - x.tick)
  | none => 255

/-- Follower state by AGE (R287). -/
def stateByAge (s : State) (k age : Nat) : Nat := if age = 0 then 2 else if age ≤ extrapMax s k then 3 else 4

/-- DELTA registers follow δ. -/
def showDelta (s : State) (k : Nat) : State :=
  let v := ofSigned 48 (floorUm (trk s k).delta)
  s.wr64 (P.track k) F.TRACK_DELTA_LO_D F.TRACK_DELTA_HI_D v

/-- A STANDBY source reconciles δ with an accepted valid sample of this tick (R283). -/
def reconcile (s : State) (k : Nat) (p : Int) : State :=
  let x := trk s k
  if srcState s k = 1 ∧ x.init then
    let d := distPos s k (p * 65536) x.r
    let l := (d :: x.recs).take 16
    let sum : Int := l.foldl (fun a e => a + e) 0
    let m := rnd Rnd.delta ((sum : Rat) / ((l.length : Nat) : Rat))
    let s := setTrk s k { x with recs := l, recTick := s.ticks, delta := m }
    showDelta (s.tkWr F.TRACK_TRK_STAT_DELTA_VALID k 1) k
  else s

/-- What an ACTIVE source does with a valid sample of another (R282). -/
def yieldTo (s : State) (k rank src : Nat) : State :=
  let mine := s.tk F.TRACK_TRK_CFG_RANK k
  if srcState s k = 2 ∧ src ≠ s.own then
    if rank < mine then setTrk s k { trk s k with toStandby := true }
    else if rank = mine ∧ src < s.own then trkStatus (setTrk s k { trk s k with toStandby := true }) k
    else s
  else s

/-- Slot `k` takes a valid sample into use (R285): true if the sample carries DISC or INIT (R321, R334). -/
def useSample (s : State) (k : Nat) (x : TrkSample) : Bool × State :=
  let fl := x.flags
  let old := trkState s k
  let pred := evalTrack s k (2 * x.t0)
  let step : Int := match pred with
    | some e => floorUm (distPos s k (x.p * 65536) e.1)
    | none => 0
  let s := s.inc (P.track k) F.TRACK_CNT_TAKEN_N
  let s := if s.time.tStart + s.winW < s.now then s.inc (P.track k) F.TRACK_CNT_LATE_N else s
  let s := s.tkWr F.TRACK_LAST_STEP_UM k (sat32 step)
  let disc := (old != 1 && decide (stepLimit s k < step.natAbs)) || bitOf fl 5 || bitOf fl 4
  let genNew := (trk s k).smp.isSome && s.tk F.TRACK_TRK_STAT_GEN k != x.gen
  let s := setTrk s k { trk s k with smp := some x }
  let s := (s.tkWr F.TRACK_TRK_STAT_GEN k x.gen).tkWr F.TRACK_TRK_STAT_USE_RANK k x.rank
  let s := (s.tkWr F.TRACK_TRK_STAT_STILL k (b2n (bitOf fl 6))).tkWr F.TRACK_SMP_TICK_N k x.tick
  let s := s.wr64 (P.track k) F.TRACK_SMP_POS_LO_POS F.TRACK_SMP_POS_HI_POS (ofSigned 48 x.p)
  let s := (s.tkWr F.TRACK_SMP_VEL_V k (ofSigned 32 x.v)).tkWr F.TRACK_SMP_ACC_A k (ofSigned 32 x.a)
  let s := (s.tkWr F.TRACK_SMP_SRC_FLAGS k fl).tkWr F.TRACK_SMP_SRC_ADDR k x.src
  let s := s.tkWr F.TRACK_TRK_STAT_AGE k (smpAge s k)
  let s := raiseIf s genNew (P.track k) 1
  let s := setTrkState s k (stateByAge s k (smpAge s k))
  (bitOf fl 5 || bitOf fl 4, if disc then countRaise s (P.track k) F.TRACK_CNT_DISC_N (P.track k) 0 else s)

/-- An accepted PUBLISH payload at subscription entry `e` reaches slot `k` (R285): true if a sample with DISC or INIT is used.
A sample with VALID = 0 counts for R280 when it comes from the source whose valid sample was taken last; a STILL sample sets v and
a to 0 (R289). -/
def slotSample (s : State) (k e src : Nat) (pay : List Nat) : Bool × State :=
  let map := s.tk F.TRACK_SUB_MAP_ENTRY3_0 k
  let named := (List.range 4).any fun i => bitOf (s.tk F.TRACK_TRK_CFG_SUB_VALID k) i && map / 256 ^ i % 256 == e
  if !named || !slotOn s k || pay.length != 24 then (false, s)
  else if beAt pay 0 1 ≠ s.tk F.TRACK_TRK_CFG_TRACK k then
    (false, s.inc (P.track k) F.TRACK_CNT_WRONG_TRACK_N)
  else
    let fl := beAt pay 1 1
    let rank := beAt pay 2 1 % 4
    if !bitOf fl 7 then (false, if src ≠ s.own ∧ ((trk s k).actSrc.getD src = src) then setTrk s k { trk s k with invalid := true } else s)
    else
      let still := bitOf fl 6
      let x : TrkSample := { tick := s.tick, t0 := s.time.tStart, p := sampleP pay (loopLen s k == 0),
                             v := if still then 0 else beSigned pay 12 4, a := if still then 0 else beSigned pay 16 4,
                             flags := fl, rank := rank, gen := beAt pay 3 1, src := src }
      let s := setTrk s k { trk s k with heard := true, invalid := false, actSrc := some src }
      let s := yieldTo s k rank src
      let s := if src = s.own then s else reconcile s k x.p
      match (trk s k).smp with
      | some y => if y.tick = s.tick ∧ y.rank ≤ rank then (false, s) else useSample s k x
      | none => useSample s k x

/-! ## The source at a tick instant (R274 to R277, R279, R283) -/

/-- v(n), whether STILL holds (R276); `t` is T(n) in 0.5 ns. -/
def sourceVel (s : State) (k t : Nat) : Int × Bool :=
  let x := trk s k
  let sc : Rat := (trkScale s k : Rat) / 65536
  let win := x.edges.filter fun e => decide (t ≤ e.1 + velWin s k * 2000) && decide (e.1 < t)
  match win with
  | newest :: rest =>
    match rest.getLast? with
    | some oldest =>
      let n : Int := (newest :: rest.dropLast).foldl (fun a e => a + e.2) 0
      (rnd Rnd.vel (sc * (n : Rat) * 2000000000 / ((newest.1 - oldest.1 : Nat) : Rat)), false)
    | none => slow x sc
  | [] => slow x sc
where
  /-- Fewer than two edges in the window. -/
  slow (x : TrackSt) (sc : Rat) : Int × Bool :=
    match x.last with
    | some (ts, d) =>
      if t - ts < stillTime s k * 2000000 then
        let lim := rnd Rnd.vel (sc * 2000000000 / ((t - ts : Nat) : Rat))
        let m := min ((x.vs.head?.getD 0).natAbs : Int) lim
        (if d < 0 then -m else m, false)
      else (0, true)
    | none => (0, true)

/-- i(n) of R275 in 2^-16 µm. -/
def sourceInterp (s : State) (k t : Nat) (v : Int) (still : Bool) : Int :=
  if s.tk F.TRACK_TRK_CFG_INTERP k = 0 || still then 0
  else
    match (trk s k).last with
    | some (ts, d) =>
      let m := min (rnd Rnd.interp ((v.natAbs : Rat) * ((t - ts : Nat) : Rat) * 65536 / 2000000000)) ((trkScale s k : Int) - 1)
      if d < 0 then -m else m
    | none => 0

/-- The signed 32-bit difference of two counts, negated if DIR_INV (R274). -/
def countDiff (s : State) (k c was : Nat) : Int :=
  let d := toSigned 32 ((c + 2 ^ 32 - was % 2 ^ 32) % 2 ^ 32)
  if s.tk F.TRACK_TRK_CFG_DIR_INV k = 1 then -d else d

/-- OFFSET in 2^-16 µm. -/
def trkOffset (s : State) (k : Nat) : Int :=
  let v := s.rd64 (P.track k) F.TRACK_OFFSET_LO_POS F.TRACK_OFFSET_HI_POS
  wrapPos s k (toSigned 48 v * 65536)

/-- The wire break of slot `k`'s encoder stands (R277). -/
def encBroken (s : State) (k : Nat) : Bool := s.on P.enc (F.ENCODER_ENC_STAT_BREAK (s.tk F.TRACK_TRK_CFG_ENC k))

/-- The continuity record can be used (R284): never while the field die reports a wire break. -/
def contValid (s : State) (k : Nat) : Bool :=
  match (trk s k).cont with
  | some c => !encBroken s k && c.track == s.tk F.TRACK_TRK_CFG_TRACK k && c.scale == trkScale s k &&
      decide (s.tick < c.tick + 2 ^ 31 ∧ c.tick < s.tick + 2 ^ 31)
  | none => false

/-- The latched count c(n) of slot `k`. -/
def latched (s : State) (k : Nat) : Nat := s.rd P.enc (F.ENCODER_ENC_TICK_C (s.tk F.TRACK_TRK_CFG_ENC k))

/-- r(n) at a tick instant: restored with δ and GEN, or started, at the first, advanced by Δc × SCALE after it. -/
def sourceCount (s : State) (k : Nat) : State :=
  let x := { trk s k with ran := true }
  let c := latched s k
  let s := s.tkWr F.TRACK_RAW_COUNT_C k c
  let reduce := fun (v : Int) => if loopLen s k = 0 then v else wrapPos s k v
  if x.init then
    setTrk s k { x with r := reduce (x.r + countDiff s k c x.c * (trkScale s k : Int)), c := c }
  else
    match contValid s k, x.cont with
    | true, some d =>
      setTrk s k { x with
        init := true, restored := true, delta := d.delta, gen := d.gen
        r := reduce (d.r + countDiff s k c d.c * (trkScale s k : Int)), c := c }
    | _, _ => setTrk s k { x with init := true, restored := false, r := trkOffset s k, c := c }

/-- The track's generation as the slot knows it: its own while ACTIVE, else the one of the sample in use (R278, R284). -/
def knownGen (s : State) (k : Nat) : Nat :=
  let x := trk s k
  if srcState s k = 2 then x.gen else (x.smp.map fun y => y.gen).getD x.gen

/-- A slot becomes ACTIVE at T(n) = `t` with the interpolation `i` (R280, R283): GEN, offset, STEP and flags. -/
def becomeActive (s : State) (k t : Nat) (i : Int) : State :=
  let x := trk s k
  let holds := x.smp.isSome
  let x := { x with toActive := false, gen := (knownGen s k + 1) % 256, wasActive := false }
  let dv := s.tk F.TRACK_TRK_STAT_DELTA_VALID k == 1
  let cv := x.restored
  let x :=
    if dv || cv then x
    else { x with delta := 0, r := trkOffset s k, c := latched s k }
  let p := wrapPos s k (x.r + x.delta + i)
  let step : Int := if holds then
      match evalTrack s k (2 * t) with
      | some e => floorUm (distPos s k p e.1)
      | none => 0
    else 0
  let disc := holds && decide (stepLimit s k < step.natAbs)
  let s := setTrk s k { x with step := step, disc := disc, initF := !dv && !cv, restored := true }
  let s := showDelta (s.tkWr F.TRACK_TRK_STAT_SRC_STATE k 2) k
  trkStatus (s.inc (P.track k) F.TRACK_CNT_TAKEOVER_N) k

/-- A slot becomes STANDBY; while a wire break stands on its encoder it is FAULT at once, without a sample to send (R279). -/
def becomeStandby (s : State) (k : Nat) : State :=
  let s := setTrk s k { trk s k with toActive := false, toStandby := false, wasActive := false }
  if encBroken s k then
    (setTrk s k { trk s k with recs := [] }).tkWr F.TRACK_TRK_STAT_DELTA_VALID k 0 |>.tkWr F.TRACK_TRK_STAT_SRC_STATE k 3
  else s.tkWr F.TRACK_TRK_STAT_SRC_STATE k 1

/-- The creep watch of a source at position `p` (R290): p_halt is recorded at the tick instant at which HALT takes effect. -/
def haltWatch (s : State) (k : Nat) (p : Int) : State :=
  let x := trk s k
  if s.line ≠ 0 then s
  else if x.line ≠ 0 then setTrk s k { x with halt := some p }
  else
    match x.halt with
    | none => s
    | some h =>
      if haltCreep s k * 65536 < (distPos s k p h).natAbs ∧ s.tk F.TRACK_TRK_STAT_CREEP k = 0 then
        trkStatus (s.tkWr F.TRACK_TRK_STAT_CREEP k 1) k
      else s

/-- What the line state does at T(n) to every slot, stopped or not: CREEP and p_halt end with HALT (R290). -/
def haltEnds (s : State) (k : Nat) : State :=
  if s.line = 0 then s else (setTrk s k { trk s k with halt := none }).tkWr F.TRACK_TRK_STAT_CREEP k 0

/-- A source slot at T(n). A continuity record written while a wire break stands would never be valid (R284), so none is kept. -/
def sourceTick (s : State) (k : Nat) : State :=
  let t := s.time.tStart
  let s := sourceCount s k
  let (v, still) := sourceVel s k (2 * t)
  let x := trk s k
  let before := x.vs.getD (accTicks s k - 1) v
  let a := if still then 0 else rnd Rnd.acc (((v - before : Int) : Rat) * 1000000000 / ((accTicks s k * max 1 s.tickL : Nat) : Rat))
  let s := setTrk s k { x with vs := (v :: x.vs).take 64, vel := v, acc := a, still := still, disc := false, initF := false, step := 0,
                               edges := x.edges.filter fun e => decide (2 * t ≤ e.1 + 131070000) }
  let stale := s.tk F.TRACK_TRK_STAT_DELTA_VALID k == 1 && decide (extrapMax s k < s.ticks - (trk s k).recTick)
  let s := if stale then (setTrk s k { trk s k with recs := [] }).tkWr F.TRACK_TRK_STAT_DELTA_VALID k 0 else s
  let s := if (trk s k).toStandby then becomeStandby s k else s
  let i := sourceInterp s k (2 * t) v still
  let s := if (trk s k).toActive && srcState s k == 1 && s.working && !s.service then becomeActive s k t i
    else setTrk s k { trk s k with toActive := false }
  let x := trk s k
  let p := wrapPos s k (x.r + x.delta + i)
  let s := haltWatch (setTrk s k { x with pos := p }) k p
  let x := trk s k
  setTrk s k { x with cont := if encBroken s k then none else some {
    enc := s.tk F.TRACK_TRK_CFG_ENC k, track := s.tk F.TRACK_TRK_CFG_TRACK k, scale := trkScale s k, gen := knownGen s k,
    delta := x.delta, r := x.r, c := x.c, tick := s.tick } }

/-- Switch a slot on or off as page, STOP and node state say (R279, R287, R292). -/
def slotRefresh (s : State) (k : Nat) : State :=
  if slotOn s k then
    let s := if trkState s k = 0 then setTrkState (setTrk s k { trk s k with smp := none }) k 1 else s
    if s.tk F.TRACK_TRK_CFG_ROLE k = 1 then
      if srcState s k = 0 then (becomeStandby s k).tkWr F.TRACK_TRK_MISS_MISSING k 0 else s
    else s.tkWr F.TRACK_TRK_STAT_SRC_STATE k 0
  else
    let s := setTrkState s k 0
    let s := setTrk s k { trk s k with
      smp := none, toActive := false, toStandby := false, init := false, edges := [], last := none, vs := [] }
    (s.tkWr F.TRACK_TRK_STAT_SRC_STATE k 0).tkWr F.TRACK_TRK_STAT_AGE k 255

/-- All slots. -/
def tracksRefresh (s : State) : State := s.each 8 slotRefresh

/-- Entry to COMMISSION, RUN, COAST or MAINT sets MISSING to 0 (R280). -/
def tracksEntry (s : State) : State :=
  let s := tracksRefresh s
  if s.working then s.each 8 fun t k => t.tkWr F.TRACK_TRK_MISS_MISSING k 0 else s

/-- A class C field of slot `k`'s configuration was written (R292). The continuity record goes with it unless only SUB_MAP was
written, or the slot has not been a source at a tick instant since the reset: the reset clears TRK_CFG, so without that the record
of R284 could never be used. -/
def trkConfigured (s : State) (k : Nat) (subMapOnly : Bool) : State :=
  let x := trk s k
  let s := setTrk s k { x with
    smp := none, recs := [], init := false, toActive := false, toStandby := false, wasActive := false, invalid := false, actSrc := none,
    edges := [], last := none, vs := [], cont := if subMapOnly || !x.ran then x.cont else none }
  let s := (s.tkWr F.TRACK_TRK_STAT_DELTA_VALID k 0).tkWr F.TRACK_TRK_STAT_AGE k 255
  if slotOn s k then
    let s := setTrkState s k 1
    if s.tk F.TRACK_TRK_CFG_ROLE k = 1 then becomeStandby s k else s.tkWr F.TRACK_TRK_STAT_SRC_STATE k 0
  else s

/-- Every slot at T(n), after the counts have been latched. -/
def tracksTick (s : State) : State :=
  s.each 8 fun t k =>
    let t := slotRefresh t k
    let t := haltEnds (setTrk t k { trk t k with heard := false }) k
    let t := if slotOn t k && t.tk F.TRACK_TRK_CFG_ROLE k == 1 then sourceTick t k else t
    setTrk t k { trk t k with line := t.line }

/-- The payload of the sample that slot `k` sends in this tick; none unless ACTIVE, or in FAULT after ACTIVE (R278, R279). -/
def samplePayload (s : State) (k : Nat) : Option (List Nat) :=
  let x := trk s k
  let fault := srcState s k == 3
  if !slotOn s k || !(srcState s k == 2 || (fault && x.wasActive)) then none
  else
    let fl := b2n (!fault) * 128 + b2n x.still * 64 + b2n x.disc * 32 + b2n x.initF * 16 + b2n x.cerr * 8 +
      s.tk F.TRACK_TRK_STAT_CREEP k * 4
    let p := ofSigned 48 (floorUm x.pos)
    some ([s.tk F.TRACK_TRK_CFG_TRACK k, fl, s.tk F.TRACK_TRK_CFG_RANK k, x.gen, 0, 0] ++ beBytes 6 p ++
      beBytes 4 (ofSigned 32 x.vel) ++ beBytes 4 (ofSigned 32 x.acc) ++ beBytes 4 (ofSigned 32 x.step))

/-! ## Encoder events at the slots that use encoder `e` (R277, R279, R283, R284) -/

/-- Slots that are sources on encoder `e`. -/
def encSlots (s : State) (e : Nat) : List Nat :=
  (List.range 8).filter fun k => s.tk F.TRACK_TRK_CFG_ROLE k == 1 && s.tk F.TRACK_TRK_CFG_ENC k == e && slotOn s k

/-- A counted edge with stamp `t2` (0.5 ns) and signed count `d`; ENC_DELAY is subtracted. -/
def trkEdge (s : State) (e t2 : Nat) (d : Int) : State :=
  (encSlots s e).foldl (fun t k =>
    let x := trk t k
    let st := t2 - 2 * t.tk F.TRACK_ENC_DELAY_NS k
    let d := if t.tk F.TRACK_TRK_CFG_DIR_INV k = 1 then -d else d
    setTrk t k { x with edges := (st, d) :: x.edges, last := some (st, d) }) s

/-- A count error or a wire break of encoder `e` ends the continuity records that count it, in a slot that is off too (R284). -/
def contLost (s : State) (e : Nat) : State :=
  s.each 8 fun t k => setTrk t k { trk t k with
    cont := (trk t k).cont.filter fun c => c.enc != e
    restored := (trk t k).restored && !((trk t k).cont.any fun c => c.enc == e) }

/-- A count error: COUNT_ERR in the next sample, δ and the continuity record become invalid. -/
def trkCountErr (s : State) (e : Nat) : State :=
  let s := contLost s e
  (encSlots s e).foldl (fun t k =>
    let t := t.inc (P.track k) F.TRACK_CNT_COUNT_ERR_N
    (setTrk t k { trk t k with cerr := true, recs := [] }).tkWr F.TRACK_TRK_STAT_DELTA_VALID k 0) s

/-- A wire break: FAULT from ACTIVE or STANDBY. -/
def trkBreak (s : State) (e : Nat) : State :=
  let s := contLost s e
  (encSlots s e).foldl (fun t k =>
    if srcState t k = 1 ∨ srcState t k = 2 then
      let t := setTrk t k { trk t k with wasActive := srcState t k == 2, recs := [], toActive := false, toStandby := false }
      (t.tkWr F.TRACK_TRK_STAT_SRC_STATE k 3).tkWr F.TRACK_TRK_STAT_DELTA_VALID k 0
    else t) s

/-- The break clears: STANDBY. -/
def trkBreakClear (s : State) (e : Nat) : State :=
  (encSlots s e).foldl (fun t k => if srcState t k = 3 then becomeStandby t k else t) s

/-! ## T(n) + W (R280, R287) -/

/-- A STANDBY source judges tick n. -/
def judgeMissing (s : State) (k : Nat) : State :=
  if srcState s k = 1 ∧ s.working ∧ !s.service then
    let x := trk s k
    let m := if x.heard then 0 else min 255 (s.tk F.TRACK_TRK_MISS_MISSING k + 1)
    let s := s.tkWr F.TRACK_TRK_MISS_MISSING k m
    let rank := s.tk F.TRACK_TRK_CFG_RANK k
    let lim := if x.invalid then max 1 rank else takeTicks s k * (rank + 1)
    if lim ≤ m then setTrk s k { x with toActive := true } else s
  else s

/-- The follower's age and state at T(n) + W: HOLD counts a missed tick. -/
def judgeAge (s : State) (k : Nat) : State :=
  if trkState s k ≤ 1 then s
  else
    let age := smpAge s k
    let s := s.tkWr F.TRACK_TRK_STAT_AGE k age
    let v := stateByAge s k age
    let s := setTrkState s k v
    if v = 3 then s.inc (P.track k) F.TRACK_CNT_MISSED_N else s

/-- Every slot at T(n) + W. -/
def tracksWindow (s : State) : State :=
  s.each 8 fun t k => if slotOn t k then judgeAge (judgeMissing t k) k else t

/-- EVAL_T_HI was written (R288): evaluate at the ring time in EVAL_T. -/
def trkEval (s : State) (k : Nat) : State :=
  let t := s.rd64 (P.track k) F.TRACK_EVAL_T_LO_NS F.TRACK_EVAL_T_HI_NS
  let (p, v, past) := (evalTrack s k (2 * t)).getD (0, 0, false)
  let s := s.wr64 (P.track k) F.TRACK_EVAL_POS_LO_POS F.TRACK_EVAL_POS_HI_POS (ofSigned 48 (floorUm p))
  (s.tkWr F.TRACK_EVAL_VEL_V k (ofSigned 32 v)).tkWr F.TRACK_TRK_STAT_EVAL_PAST k (b2n past)

/-- RECLAIM (R282): a STANDBY source with a valid δ becomes ACTIVE at the next tick instant. -/
def trkReclaim (s : State) (k : Nat) : State :=
  if srcState s k = 1 ∧ s.tk F.TRACK_TRK_STAT_DELTA_VALID k = 1 then setTrk s k { trk s k with toActive := true } else s

end Sys2Proof.Machine
end

