-- ==== Sys2Proof/Machine/Capture.lean ====
section
/-!
DEFINITION. Capture of input edges (12_scheduled_actuation.md, R343 to R349).
-/

namespace Sys2Proof.Machine

/-- A field of capture unit `u`. -/
def State.cap (s : State) (f : Nat → Fld) (u : Nat) : Nat := s.rd P.capt (f u)

/-- A unit's record. -/
def capUnit (s : State) (u : Nat) : CapUnit := s.caps.at {} u

/-- Change it. -/
def setCapUnit (s : State) (u : Nat) (x : CapUnit) : State := { s with caps := s.caps.put {} u x }

/-- Capture runs (R60). -/
def captureOn (s : State) : Bool := (s.working || s.isIn [NS.join, NS.isolate]) && domOn s 6

/-- KIND: 5 to 7 act as 0. -/
def capKind (s : State) (u : Nat) : Nat := let k := s.cap F.CAPTURE_CAP_CFG_KIND u; if 5 ≤ k then 0 else k

/-- The input level of a unit's source now. -/
def capLevel (s : State) (u : Nat) : Bool :=
  let i := s.cap F.CAPTURE_CAP_CFG_INDEX u
  match capKind s u with
  | 1 => chComp s i
  | 2 => sigLevel s i
  | 3 => bitOf s.field.encIn i
  | 4 => bitOf s.router.evtIn i
  | _ => false

/-- The 32 bytes of a record (R345). -/
def CapRec.bytes (x : CapRec) : List Nat :=
  let p := ofSigned 48 x.pos
  leBytes 4 (x.unit * 2 ^ 28 + b2n x.level * 2 ^ 27 + b2n x.posValid * 2 ^ 26 + b2n x.coarse * 2 ^ 25 + x.tstate * 2 ^ 22 + x.frac) ++
    leBytes 8 x.time ++ leBytes 4 x.tick ++ leBytes 4 p ++ leBytes 4 (x.track * 2 ^ 24 + p / 2 ^ 32 % 2 ^ 16) ++
    leBytes 4 (ofSigned 32 x.vel) ++ leBytes 4 0

/-- The open cell of unit `u` becomes one item of its queue (R345). -/
def closeCell (s : State) (u : Nat) : State :=
  let x := capUnit s u
  match x.cell with
  | [] => s
  | r :: _ =>
    let q := s.cap F.CAPTURE_CAP_CFG_QUEUE u
    let s := setCapUnit s u { x with cell := [] }
    let s := dischargeCells s q 1 1
    let it : QItem := { arr := s.ses.next, prio := 0, src := 0, tag := u, info := r.tick % 2 ^ 32, mayDup := false, head := [],
                        data := x.cell.flatMap CapRec.bytes, n := 1, fin := 1 }
    let s := { s with ses := { s.ses with next := s.ses.next + 1 } }
    let z := queueSt s q
    setQueueSt s q { z with items := z.items ++ [it] }

/-- Admission of a capture cell (R156, k = 1): the cell is held from then on. -/
def openCell (s : State) (q : Nat) : Bool × State :=
  if q < 112 ∨ 1024 ≤ q ∨ qType s q ≠ 4 then (false, s)
  else
    let ow := s.on (P.queue q) (F.QUEUE_Q_CFG_OVERWRITE (q % 16))
    let t := if ow then recycleFor s q 1 else (s, 0)
    let r := admits t.1 q 1
    if r = 1 then (true, chargeCells (t.1.inc (P.queue q) (F.QUEUE_Q_RECYCLED_N (q % 16)) t.2) q 1 1)
    else (false, qRefuse (noteRefusal s (admits s q 1)) q)

/-- Unit `u` writes a record (R345, R349). -/
def capRecord (s : State) (u : Nat) (r : CapRec) : State :=
  let q := s.cap F.CAPTURE_CAP_CFG_QUEUE u
  if q = 0 then s
  else
    let o := if (capUnit s u).cell.isEmpty then openCell s q else (true, s)
    if o.1 then
      let s := o.2
      let x := capUnit s u
      let s := setCapUnit s u { x with cell := x.cell ++ [r] }
      let s := s.inc P.capt F.CAPTURE_CNT_RECORDS_N
      let s := raiseIf s (s.cap F.CAPTURE_CAP_CFG_IRQ u == 1) P.capt u
      if 8 ≤ (capUnit s u).cell.length then closeCell s u else s
    else
      let s := (o.2.inc P.capt (F.CAPTURE_CAP_LOST_N u)).inc P.capt F.CAPTURE_CNT_LOST_N
      raise (s.wr P.capt (F.CAPTURE_CAP_STAT_OVF u) 1) P.capt u

/-- An edge of unit `u`'s source at `t` ns and `fr` × 2^-16 ns to level `lvl`, which then holds for `w` ns (R344). -/
def capUnitEdge (s : State) (u kind : Nat) (lvl : Bool) (t fr w : Nat) : State :=
  let sel := s.cap F.CAPTURE_CAP_CFG_EDGES u
  if !(if lvl then bitOf sel 0 else bitOf sel 1) then s
  else if kind ≠ 1 ∧ w < 2 * s.cap F.CAPTURE_CAP_FILT_MIN_WIDTH u then s
  else
    let t := t - s.cap F.CAPTURE_CAP_FILT_IN_DLY u
    let s := setCapUnit s u { capUnit s u with edges := (capUnit s u).edges + 1 }
    let s := s.wr64 P.capt (F.CAPTURE_CAP_LAST_LO_NS u) (F.CAPTURE_CAP_LAST_HI_NS u) t
    let s := (s.wr P.capt (F.CAPTURE_CAP_LAST_INFO_VALID u) 1).wr P.capt (F.CAPTURE_CAP_LAST_INFO_LEVEL u) (b2n lvl)
    let s := s.wr P.capt (F.CAPTURE_CAP_LAST_INFO_FRAC u) fr
    let k := s.cap F.CAPTURE_CAP_CFG_SLOT u
    let ev := if s.cap F.CAPTURE_CAP_CFG_POS_EN u = 1 then evalTrack s k (2 * t + fr / 2 ^ 15 : Nat) else none
    let (p, v, s) := match ev with
      | some e => (floorUm e.1, e.2.1, s)
      | none =>
        -- no position: what the record then holds in POS and VEL is open
        let (a, s) := s.draw 48
        let (b, s) := s.draw 32
        (toSigned 48 a, toSigned 32 b, s)
    capRecord s u { unit := u, level := lvl, posValid := ev.isSome, coarse := kind == 1, tstate := trkState s k, frac := fr,
                    time := t, tick := stampTick s t, pos := p, track := s.tk F.TRACK_TRK_CFG_TRACK k, vel := v }

/-- An edge at an input: every enabled unit that watches it. -/
def captureEdge (s : State) (kind index : Nat) (lvl : Bool) (t fr w : Nat) : State :=
  if !captureOn s then s
  else s.each 16 fun u k =>
    if u.cap F.CAPTURE_CAP_CFG_EN k == 1 && capKind u k == kind && u.cap F.CAPTURE_CAP_CFG_INDEX k == index then
      capUnitEdge u k kind lvl t fr w else u

/-- Capture at T(n) (R344, R345): CAP_TICK, and open cells become items. -/
def captureTick (s : State) : State :=
  if !captureOn s then s
  else s.each 16 fun t u =>
    let x := capUnit t u
    let t := (t.wr P.capt (F.CAPTURE_CAP_TICK_LEVEL u) (b2n (capLevel t u))).wr P.capt (F.CAPTURE_CAP_TICK_COUNT u)
      (min x.edges 65535)
    closeCell (setCapUnit t u { x with edges := 0 }) u

/-- INPUT_EDGE (R344): an edge at a logic GPIO (kind 2), an encoder line (kind 3) or an EVT pin (kind 4) at `t` ns and `fr` ×
2^-16 ns to level `lvl`, which holds for `w` ns. The level stands at the ball whatever state the node is in. -/
def execInputEdge (kind index : Nat) (lvl : Bool) (t fr w : Nat) (s : State) : Out :=
  .next (if decide (2 ≤ kind ∧ kind ≤ 4) && decide (index < (if kind = 2 then 96 else if kind = 3 then 12 else 4)) then
    let s := if kind = 2 then s.setSig index { s.sig index with ext := some lvl }
      else if kind = 4 then { s with router := { s.router with evtIn := putBit s.router.evtIn index lvl } }
      else { s with field := { s.field with encIn := putBit s.field.encIn index lvl } }
    if s.alive then captureEdge (s.atTime t) kind index lvl t (fr % 65536) w else s
  else s)

end Sys2Proof.Machine
end

