-- ==== Sys2Proof/Machine/PowerOps.lean ====
section
/-!
DEFINITION. The power-entry core: feeds, the hot-swap controllers, the breaker curve engine and the branches
(17_power_entry.md, R450 to R472, R608). Controllers are numbered 0 to 7 for the branches and 8 for the main one.
-/

namespace Sys2Proof.Machine

/-! ## A controller's registers and record -/

/-- The main controller's number. -/
def mainCtl : Nat := 8

/-- The page of a controller. -/
def ctlPage (c : Nat) : Nat := if c = mainCtl then P.power else P.branch c

/-- A field of a controller: the POWER page's for the main one, else the BRANCH page's. -/
def State.ctl (s : State) (c : Nat) (m b : Fld) : Nat := s.rd (ctlPage c) (if c = mainCtl then m else b)

/-- Set a field of a controller. -/
def State.ctlWr (s : State) (c : Nat) (m b : Fld) (v : Nat) : State := s.wr (ctlPage c) (if c = mainCtl then m else b) v

/-- A controller's record. -/
def ctl (s : State) (c : Nat) : CtrlSt := if c = mainCtl then s.power.main else s.power.br.at {} c

/-- Change a controller's record. -/
def setCtl (s : State) (c : Nat) (x : CtrlSt) : State :=
  if c = mainCtl then { s with power := { s.power with main := x } }
  else { s with power := { s.power with br := s.power.br.put {} c x } }

/-- STATE of a controller. Main: 0 OFF, 1 SEATING; branch: 0 OFF, 1 QUEUED; both: 2 RAMP, 3 QUAL, 4 ON, 5 RETRY_WAIT, 6 LATCHED. -/
def ctlState (s : State) (c : Nat) : Nat := s.ctl c F.POWER_MAIN_STAT_STATE F.BRANCH_BR_STAT_STATE

/-- Set STATE. -/
def setCtlState (s : State) (c v : Nat) : State := s.ctlWr c F.POWER_MAIN_STAT_STATE F.BRANCH_BR_STAT_STATE v

/-- Power-good of a controller: PG_MAIN for the main one. -/
def ctlPg (s : State) (c : Nat) : Bool := s.ctl c F.POWER_MAIN_STAT_PG F.BRANCH_BR_STAT_PG == 1

/-- PG_MAIN is asserted. -/
def pgMain (s : State) : Bool := ctlPg s mainCtl

/-- LAST_CAUSE codes (R476, R478). -/
def PC.curve : Nat := 1
def PC.sc : Nat := 2
def PC.soa : Nat := 3
def PC.dvdt : Nat := 4
def PC.startTo : Nat := 5
def PC.ovOrTemp : Nat := 6
def PC.seatOrConfig : Nat := 7

/-- Set LAST_CAUSE; while the logic die runs, its log takes an entry of kind POWER (R532). -/
def setCause (s : State) (c v : Nat) : State :=
  let s := s.ctlWr c F.POWER_MAIN_STAT_LAST_CAUSE F.BRANCH_BR_STAT_LAST_CAUSE v
  if s.alive then hubLog s 6 (some (ctlPage c)) (some v) none else s

/-- An event of the core; without a running logic die the router does not see it. -/
def powerEv (s : State) (page k : Nat) : State := if s.alive then raise s page k else evOnly s page k

/-- A controller's event: bit `k` of POWER for the main one, bit 0 of a BRANCH page. -/
def ctlEv (s : State) (c k : Nat) : State := if c = mainCtl then powerEv s P.power k else powerEv s (P.branch c) 0

/-- The core's own clock now. DESIGN CHOICE (log 114): it runs on with the elapsed time of the logic die since it was last seen, so
that a write, which carries no time, is placed on it. -/
def State.coreNow (s : State) : Nat := s.power.now + (s.upAt s.now - s.power.seen)

/-- The core's own clock has reached `t` ns. -/
def State.coreAt (s : State) (t : Nat) : State :=
  { s with power := { s.power with now := max s.coreNow t, seen := s.upAt s.now } }

/-- TIMERS shows which accumulators are above 0 (R463). -/
def showTimers (s : State) (c : Nat) : State :=
  s.ctlWr c F.POWER_MAIN_STAT_TIMERS F.BRANCH_BR_STAT_TIMERS
    ((List.range 8).foldl (fun a k => if 0 < (ctl s c).acc.at 0 k then a + 2 ^ k else a) 0)

/-- RETRY_MAX. -/
def retryMax (s : State) (c : Nat) : Nat := s.ctl c F.POWER_MAIN_START_RETRY_MAX F.BRANCH_BR_START_RETRY_MAX

/-- RETRIES. -/
def retries (s : State) (c : Nat) : Nat := s.ctl c F.POWER_MAIN_STAT_RETRIES F.BRANCH_BR_STAT_RETRIES

/-- Set RETRIES. -/
def setRetries (s : State) (c v : Nat) : State := s.ctlWr c F.POWER_MAIN_STAT_RETRIES F.BRANCH_BR_STAT_RETRIES v

/-- The gate is on. -/
def gateOn (s : State) (c : Nat) : Bool := ctlState s c == 2 || ctlState s c == 3 || ctlState s c == 4

/-- Power-good changes; its event follows. -/
def setPg (s : State) (c : Nat) (b : Bool) : State :=
  if ctlPg s c == b then s
  else ctlEv (s.ctlWr c F.POWER_MAIN_STAT_PG F.BRANCH_BR_STAT_PG (b2n b)) c 4

/-! ## Branch queue (R470, R471) -/

/-- BR_CTRL.ON of a branch. -/
def brOn (s : State) (b : Nat) : Bool := s.on (P.branch b) F.BRANCH_BR_CTRL_ON

/-- Set BR_CTRL.ON. -/
def setBrOn (s : State) (b : Nat) (v : Bool) : State := s.wr (P.branch b) F.BRANCH_BR_CTRL_ON (b2n v)

/-- A branch leaves the queue. -/
def unqueue (s : State) (b : Nat) : State :=
  { s with power := { s.power with queue := s.power.queue.filter (· != b) } }

/-- A branch with ON = 1 enters QUEUED if its set in force is valid, else it stays OFF with cause CONFIG. -/
def brEnqueue (s : State) (b : Nat) : State :=
  if (ctl s b).prot.isNone then setCause s b PC.seatOrConfig
  else
    let s := setCtlState (unqueue s b) b 1
    { s with power := { s.power with queue := s.power.queue ++ [b] } }

/-- The energy of the attempt that leaves RAMP is kept in LAST.E (R458). -/
def keepEnergy (s : State) (c : Nat) : State :=
  if ctlState s c = 2 then s.ctlWr c F.POWER_MAIN_LAST_E F.BRANCH_BR_LAST_E (min 65535 ((ctl s c).energy / 1000000000)) else s

/-- A branch's gate turns off and the branch enters `st`; leaving RAMP starts the stagger gap. The accumulators run on down
(R463). -/
def brGateOff (s : State) (b st : Nat) : State :=
  let s := keepEnergy s b
  let s := if ctlState s b = 2 then { s with power := { s.power with lastRamp := some s.coreNow } } else s
  setPg (setCtlState (unqueue s b) b st) b false

/-- PG_MAIN falls: all branch gates turn off with ON kept. -/
def brPgFell (s : State) : State := s.each 8 fun t b => if gateOn t b then brGateOff t b 0 else t

/-- PG_MAIN asserts: branches with ON = 1 that are OFF re-enter QUEUED in ascending order. -/
def brPgRose (s : State) : State :=
  s.each 8 fun t b => if brOn t b && ctlState t b == 0 then brEnqueue t b else t

/-- A command to switch a branch off (R469): always accepted. -/
def branchOff (s : State) (b : Nat) : State :=
  let s := setBrOn s b false
  if ctlState s b = 5 ∨ ctlState s b = 6 then s else brGateOff s b 0

/-- A branch may be switched on (R64, R66, R14). -/
def branchAllowed (s : State) : Bool := s.working && !s.service

/-- A command to switch a branch on: a latched branch ignores it. -/
def branchOn (s : State) (b : Nat) : State :=
  if ctlState s b = 6 then s
  else
    let s := setBrOn s b true
    if ctlState s b = 0 then brEnqueue s b else s

/-- ON of every branch not in `keep` is cleared (R471). -/
def branchesOff (s : State) (keep : Nat) : State := s.each 8 fun t b => if bitOf keep b then t else branchOff t b

/-- Over-temperature: every branch gate turns off with ON kept and no retry consumed (R472). A branch without a valid set goes on to
report CONFIG (R462). -/
def branchesOvertemp (s : State) : State :=
  s.each 8 fun t b =>
    if gateOn t b then brGateOff (setCause t b PC.ovOrTemp) b 0
    else if (ctl t b).prot.isNone then t
    else setCause t b PC.ovOrTemp

/-- Over-temperature ends: branches with ON = 1 re-enter QUEUED. -/
def branchesCool (s : State) : State := brPgRose s

/-! ## Failures and retries (R465 to R468) -/

/-- The gate of controller `c` is commanded off at `t`: its energy, and power-good with what follows it. -/
def endAttempt (s : State) (c t : Nat) : State :=
  let s := keepEnergy s c
  let s := if c ≠ mainCtl ∧ ctlState s c = 2 then { s with power := { s.power with lastRamp := some t } } else s
  let pg := ctlPg s c
  let s := setPg s c false
  if c = mainCtl ∧ pg then brPgFell s else s

/-- A trip, or a start failure in RAMP, at `t`: the accumulators go to 0 (R465), and it consumes a retry (R466). -/
def failAttempt (s : State) (c cause t : Nat) : State :=
  let start := ctlState s c == 2
  let ton := min 10000000000 (t - (ctl s c).ramp)
  let s := endAttempt s c t
  let s := s.ctlWr c F.POWER_MAIN_LAST_T_ON F.BRANCH_BR_LAST_T_ON (min 65535 (ton / 1000000))
  let s := setCause (showTimers (setCtl s c { ctl s c with acc := [], sub := [] }) c) c cause
  let s := if c = mainCtl then s.inc P.power (if start then F.POWER_CNT_START_FAIL_N else F.POWER_CNT_TRIP_N)
    else s.inc (P.branch c) (if start then F.BRANCH_CNT_START_FAIL_N else F.BRANCH_CNT_TRIP_N)
  let s := ctlEv s c 2
  if retries s c < retryMax s c ∨ retryMax s c = 255 then
    let s := setRetries s c (min 255 (retries s c + 1))
    setCtlState (setCtl s c { ctl s c with till := t + max 1000000000 (99 * ton) }) c 5
  else ctlEv (setCtlState s c 6) c 3

/-- The conditions of R454 hold: both seats low and FEED_COM inside its window. -/
def seated (s : State) : Bool := s.rd P.power F.POWER_FEED_STAT_SEAT == 3 && s.power.comIn

/-- The main controller follows its seating conditions: OFF to SEATING, where T_SEAT starts, and back at any break. -/
def mainSeating (s : State) : State :=
  if ctlState s mainCtl = 0 ∧ seated s then
    setCtlState { s with power := { s.power with seatAt := s.coreNow } } mainCtl 1
  else if ctlState s mainCtl = 1 ∧ !seated s then setCtlState s mainCtl 0
  else s

/-- A start of RAMP at `t`. -/
def rampStart (s : State) (c t : Nat) : State :=
  setCtlState (setCtl s c { ctl s c with ramp := t, energy := 0, qual := none }) c 2

/-- A shutdown of the main gate that consumes no retry: OV or SEAT (R455, R465). -/
def mainShutdown (s : State) (cause t : Nat) : State :=
  let s := if gateOn s mainCtl then endAttempt s mainCtl t else s
  mainSeating (setCtlState (setCause s mainCtl cause) mainCtl 0)

/-! ## Feeds (R451 to R453) -/

/-- FEED_STAT.A or B: bit 4 IN_WINDOW, 3 ON, 2 UV, 1 OV, 0 REVERSED. -/
def feedFld (x : Nat) : Fld := if x = 0 then F.POWER_FEED_STAT_A else F.POWER_FEED_STAT_B

/-- Bit `k` of a feed's status. -/
def feedBit (s : State) (x k : Nat) : Bool := s.bit P.power (feedFld x) k

/-- Set bit `k` of a feed's status. -/
def setFeedBit (s : State) (x k : Nat) (b : Bool) : State := s.setBit P.power (feedFld x) k b

/-- Either feed is inside its window. -/
def feedOk (s : State) : Bool := feedBit s 0 4 || feedBit s 1 4

/-- UV and OV in mV within their ranges (R476). -/
def feedUv (s : State) : Nat := clampNat 12000 40000 (s.rd P.power F.POWER_FEED_CFG_UV)
def feedOv (s : State) : Nat := clampNat 30000 65000 (s.rd P.power F.POWER_FEED_CFG_OV)

/-- Inside, below and above the window with 500 mV of hysteresis, from what held before (R453): a voltage that is neither inside nor
above has not risen above UV + 500 mV yet. -/
def window (s : State) (v : Int) (inW ov : Bool) : Bool × Bool × Bool :=
  let lo : Int := feedUv s
  let hi : Int := feedOv s
  let below := decide (v < lo) || (!inW && !ov && decide (v ≤ lo + 500))
  let above := decide (hi < v) || (!inW && ov && decide (hi - 500 ≤ v))
  (!below && !above, below, above)

/-- Since when something holds: it goes on, begins at `t`, or does not hold. -/
def holdsSince (b : Bool) (was : Option Nat) (t : Nat) : Option Nat := if b then some (was.getD t) else none

/-- A feed's voltage is `v` mV at the core's time: its window and reversal follow, and since when it is inside and both are below. -/
def feedWindow (s : State) (x : Nat) (v : Int) : State :=
  let w := window s v (feedBit s x 4) (feedBit s x 1)
  let changed := w.1 != feedBit s x 4
  let s := setFeedBit (setFeedBit (setFeedBit s x 4 w.1) x 2 w.2.1) x 1 w.2.2
  let s := if -1000 ≤ v then setFeedBit s x 0 false else s
  let t := s.coreNow
  let s := { s with power := { s.power with
    inA := holdsSince (feedBit s 0 4) s.power.inA t, inB := holdsSince (feedBit s 1 4) s.power.inB t
    lowAt := holdsSince (feedBit s 0 2 && feedBit s 1 2) s.power.lowAt t } }
  if changed then powerEv s P.power 0 else s

/-- FEED_COM is `v` mV: its window, and the seating conditions with it. -/
def comWindow (s : State) (v : Int) : State :=
  let w := window s v s.power.comIn s.power.comOv
  mainSeating { s with power := { s.power with
    comIn := w.1, comUv := w.2.1, comOv := w.2.2, ovAt := holdsSince w.2.2 s.power.ovAt s.coreNow } }

/-! ## Protection sets (R462) -/

/-- The staged set of a controller. -/
def stagedSet (s : State) (c : Nat) : ProtSet :=
  { rsense := s.ctl c F.POWER_MAIN_SNS_RSENSE F.BRANCH_BR_SNS_RSENSE
    iStart := s.ctl c F.POWER_MAIN_LIM_I_START F.BRANCH_BR_LIM_I_START
    isc := s.ctl c F.POWER_MAIN_ISC_ISC F.BRANCH_BR_ISC_ISC
    soa := s.ctl c F.POWER_MAIN_SOA_SOA_BUDGET F.BRANCH_BR_SOA_SOA_BUDGET
    pts := (List.range 8).filterMap fun k =>
      let i := s.ctl c (F.POWER_MAIN_I_I k) (F.BRANCH_BR_I_I k)
      if i = 0 then none else some (k, i, max 1 (s.ctl c (F.POWER_MAIN_T_T k) (F.BRANCH_BR_T_T k))) }

/-- I strictly increases and t strictly decreases along the points. -/
def ptsOrdered : List (Nat × Nat × Nat) → Bool
  | [] => true
  | [_] => true
  | a :: b :: r => decide (a.2.1 < b.2.1) && decide (b.2.2 < a.2.2) && ptsOrdered (b :: r)

/-- The checks of R462: 100 mV and 150 mV are I × RSENSE in nV. -/
def ProtSet.passes (p : ProtSet) : Bool :=
  p.rsense != 0 && p.iStart != 0 && !p.pts.isEmpty && ptsOrdered p.pts && (p.pts.all fun q => decide (q.2.1 < p.isc)) &&
    (p.pts.all fun q => decide (q.2.1 * p.rsense ≤ 100000000)) && decide (p.isc * p.rsense ≤ 150000000)

/-- A write of APPLY: a branch reports CONFIG only until it passes (R478). -/
def curveApply (s : State) (c : Nat) : State :=
  let p := stagedSet s c
  if p.passes then
    let s := setCtl s c { ctl s c with prot := some p }
    let s := s.ctlWr c F.POWER_MAIN_STAT_CURVE_BAD F.BRANCH_BR_STAT_CURVE_BAD 0
    let s := s.when (c != mainCtl && s.rd (P.branch c) F.BRANCH_BR_STAT_LAST_CAUSE == PC.seatOrConfig) fun s =>
      s.wr (P.branch c) F.BRANCH_BR_STAT_LAST_CAUSE 0
    if c ≠ mainCtl ∧ brOn s c ∧ ctlState s c = 0 then brEnqueue s c else s
  else ctlEv (s.ctlWr c F.POWER_MAIN_STAT_CURVE_BAD F.BRANCH_BR_STAT_CURVE_BAD 1) c 7

/-- A write of CLEAR (R468). -/
def latchClear (s : State) (c : Nat) : State :=
  if ctlState s c = 6 then
    let s := setRetries (setCtlState s c 0) c 0
    if c = mainCtl then mainSeating s else s
  else s

/-! ## The 1 µs sample (R457, R463) -/

/-- One accumulator: up by 1 µs above I_k, down by 1 for every 8 µs otherwise. -/
def accStep (x : CtrlSt) (k i ik : Nat) : CtrlSt :=
  let a := x.acc.at 0 k
  if ik < i then { x with acc := x.acc.put 0 k (a + 1), sub := x.sub.put 0 k 0 }
  else
    let n := x.sub.at 0 k + 1
    if 8 ≤ n then { x with acc := x.acc.put 0 k (a - 1), sub := x.sub.put 0 k 0 }
    else { x with sub := x.sub.put 0 k (if a = 0 then 0 else n) }

/-- I_k of an enabled point of the set in force. -/
def ptLimit (x : CtrlSt) (k : Nat) : Option Nat := x.prot.bind fun p => (p.pts.find? fun q => q.1 == k).map (·.2.1)

/-- A curve timer runs. -/
def timerRuns (s : State) (c : Nat) : Bool := (List.range 8).any fun k => decide (0 < (ctl s c).acc.at 0 k)

/-- The sensed current is `i` mA and the FET carries `dv` mV at `t`: energy in RAMP; accumulators against the set in force in QUAL and
ON, and falling in every other state (R463); in QUAL power-good qualifies while no timer runs and the output holds (R459, R460). -/
def breakerSample (s : State) (c i dv t : Nat) : State :=
  let x := ctl s c
  let st := ctlState s c
  let x := if st = 2 then { x with energy := x.energy + dv * i } else x
  let x := (List.range 8).foldl (fun y k =>
    match (if st = 3 ∨ st = 4 then ptLimit y k else none) with
    | some ik => accStep y k i ik
    | none => accStep y k 0 0) x
  let s := showTimers (setCtl s c x) c
  if st = 3 then setCtl s c { x with qual := holdsSince (!timerRuns s c && decide (dv ≤ 1500)) x.qual t } else s

/-- Some accumulator exceeds its t_k. -/
def curveOver (s : State) (c : Nat) : Bool :=
  match (ctl s c).prot with
  | some p => p.pts.any fun q => decide (q.2.2 * 100 < (ctl s c).acc.at 0 q.1)
  | none => false

/-- Every register of a page returns to its reset value. -/
def resetPage (s : State) (page : Nat) : State := { s with regs := s.regs.filter fun e => e.1.page != page }

/-- The power-entry core restarts (R608): reset values, every gate off. The windows, reversals and seats are levels that go on, and so
seating begins at once where they allow it. -/
def powerRestart (s : State) : State :=
  let a := sansBit (s.rd P.power F.POWER_FEED_STAT_A) 3
  let b := sansBit (s.rd P.power F.POWER_FEED_STAT_B) 3
  let seat := s.rd P.power F.POWER_FEED_STAT_SEAT
  let x := s.power
  let s := s.each 9 fun t i => resetPage t (0x0F0 + i)
  let s := { s with power := { comIn := x.comIn, comUv := x.comUv, comOv := x.comOv, now := x.now, seen := x.seen, inA := x.inA,
                               inB := x.inB, lowAt := x.lowAt, ovAt := x.ovAt } }
  mainSeating (((s.wr P.power F.POWER_FEED_STAT_A a).wr P.power F.POWER_FEED_STAT_B b).wr P.power F.POWER_FEED_STAT_SEAT seat)

end Sys2Proof.Machine
end

