-- ==== Sys2Proof/Machine/EdgeOps.lean ====
section
/-!
DEFINITION. The edge scheduler: entries, pending edges, instants, commits, placement and completion
(12_scheduled_actuation.md, R325 to R342). Instants are in units of 0.5 ns of ring time; `n2` is the current ring time in
that unit.
-/

namespace Sys2Proof.Machine

/-! ## Entries and edges -/

/-- An entry. -/
def entOf (s : State) (n : Nat) : EdgeEnt := s.edge.ents.at {} n

/-- Change an entry. -/
def setEnt (s : State) (n : Nat) (x : EdgeEnt) : State := { s with edge := { s.edge with ents := s.edge.ents.put {} n x } }

/-- The pending edge with an arm number. -/
def edgeOf (s : State) (q : Nat) : Option PendEdge := s.edge.edges.find? (·.seq == q)

/-- Change a pending edge. -/
def setEdge (s : State) (e : PendEdge) : State :=
  { s with edge := { s.edge with edges := s.edge.edges.map fun x => if x.seq = e.seq then e else x } }

/-- Pending edges of entry `n`. -/
def entEdges (s : State) (n : Nat) : List PendEdge := s.edge.edges.filter (·.entry == n)

/-- ENT_STAT.STATE: 0 FREE, 1 IDLE, 2 ACTIVE (R325). -/
def entState (s : State) (n : Nat) : Nat :=
  if !(entOf s n).used then 0 else if (entEdges s n).isEmpty then 1 else 2

/-- A pending edge is given back; a released entry becomes FREE with its last edge (R327). -/
def dropEdge (s : State) (e : PendEdge) : State :=
  let s := { s with edge := { s.edge with
    edges := s.edge.edges.filter (·.seq != e.seq), cmds := s.edge.cmds.filter (·.seq != e.seq) } }
  if (entOf s e.entry).leaving && (entEdges s e.entry).isEmpty then setEnt s e.entry {} else s

/-- The edge is a position operation now: a return edge by DUR_POS, else by POS. -/
def PendEdge.isPos (e : PendEdge) : Bool := if e.isReturn then e.durPos else e.pos

/-- The position trigger of the edge, µm. -/
def PendEdge.posTrig (e : PendEdge) : Int := if e.isReturn then e.rtrig else e.trig

/-- Not yet committed. -/
def PendEdge.open (e : PendEdge) : Bool := e.st != .committed

/-- Commands go to the field die (kinds 1 and 3). -/
def EdgeEnt.atField (x : EdgeEnt) : Bool := x.kind == 1 || x.kind == 3

/-- Resolution of a target (R337). -/
def edgeRes (kind : Nat) : Nat := match kind with
  | 1 => 20 | 3 => 20 | 4 => 8 | 5 => 8 | _ => 1

/-- Rounded up to a multiple. -/
def ceilTo (r x : Nat) : Nat := ceilDiv x r * r

/-- DRV_DLY of the entry's field channel, 0.5 ns; 0 for other targets. -/
def drvDly (s : State) (x : EdgeEnt) : Nat := if x.kind = 1 then 2 * s.rd P.edge (F.EDGE_DRV_DLY_NS x.unit) else 0

/-- The commit lead (R331). -/
def commitLead (s : State) (x : EdgeEnt) : Nat := if x.atField then drvDly s x + 6000 else 2000

/-- LATE_MAX and HORIZON within their ranges, LATE_MAX in 0.5 ns. -/
def lateMax (s : State) : Nat := 2 * min 1000000 (s.rd P.edge F.EDGE_EDGE_CFG_LATE_MAX)
def horizon (s : State) : Nat := max 1 (s.rd P.edge F.EDGE_EDGE_CFG_HORIZON)

/-- No edge is committed while the scheduler is off (R60, R15) or STOP is asked for (R342). -/
def edgeHeld (s : State) : Bool := !s.working || !domOn s 6 || s.stopReq P.edge || s.stopped P.edge

/-! ## Position to instant (R329, R332): distances in µm × 8·10^18, so that the model is exact at every 0.5 ns -/

/-- The model's travel from the sample's position at `d` × 0.5 ns from its tick instant, with the stop limit for d > 0. -/
def travel (x : TrkSample) (lost : Bool) (d : Int) : Rat :=
  let a : Int := if lost || bitOf x.flags 6 then 0 else x.a
  if 0 < d ∧ x.v * a < 0 ∧ 2000000000 * (x.v.natAbs : Int) < d * (a.natAbs : Int) then
    ((4000000000000000000 * x.v * (x.v.natAbs : Int) : Int) : Rat) / ((a.natAbs : Int) : Rat)
  else ((4000000000 * x.v * d + a * d * d : Int) : Rat)

/-- The smallest number in (lo, lo + 2^n] at which `p` holds, `p` holding at the upper end and never ceasing to. -/
def bisect (p : Int → Bool) : Nat → Int → Int
  | 0, lo => lo + 1
  | n + 1, lo => if p (lo + 2 ^ n) then bisect p n lo else bisect p n (lo + 2 ^ n)

/-- Remainder in [0, m). -/
def ratMod (m x : Rat) : Rat := x - m * ((x / m).floor : Int)

/-- What solving a position operation answers: an instant still to come, a trigger already passed (with the instant at which
it was passed on the model), or unreachable. -/
inductive EdgeSol where
  | at (i : Nat)
  | passed (i : Option Nat)
  | never
  deriving DecidableEq, Repr

/-- The passed instant on the model (R332): the latest time at or before `d0` at which the belt reaches the trigger moving
forward. -/
def solveBack (x : TrkSample) (lost : Bool) (m t : Rat) (d0 : Int) : Option Int :=
  let a : Int := if lost || bitOf x.flags 6 then 0 else x.a
  -- the end and the start of the stretch on which the belt moves forward
  let de : Option Int :=
    if 0 < x.v then some d0
    else if a < 0 then some (min d0 ((-x.v * 2000000000) / a))
    else if x.v = 0 ∧ 0 < a then some d0
    else none
  de.bind fun de =>
    let ds : Int := if 0 < a then -((x.v * 2000000000) / a) else de - 2 ^ 80
    let top := travel x lost de
    let goal := top - ratMod m (((x.p : Int) : Rat) * 8000000000000000000 + top - t)
    if ds < de ∧ travel x lost ds < goal then
      some (bisect (fun d => decide (de ≤ d) || decide (goal ≤ travel x lost d)) 81 ds)
    else none

/-- Solve a position trigger (µm) on slot `k`'s model from ring time `n2` on (R329). -/
def solvePos (s : State) (k : Nat) (trig : Int) (n2 : Nat) : EdgeSol :=
  match (trk s k).smp with
  | none => .never
  | some x =>
    let lost := trkState s k == 4
    let m : Rat := ((trkMod s k : Nat) : Rat) * 8000000000000000000
    let t : Rat := (trig : Rat) * 8000000000000000000
    let d0 : Int := (n2 : Int) - 2 * (x.t0 : Int)
    let here := travel x lost d0
    let r := ratMod m (((x.p : Int) : Rat) * 8000000000000000000 + here - t)
    if r < ((trkMod s k - trkMod s k / 2 : Nat) : Rat) * 8000000000000000000 then
      .passed ((solveBack x lost m t d0).map fun d => (2 * (x.t0 : Int) + d).toNat)
    else
      let goal := here + (m - r)
      let p := fun (d : Int) => decide (goal ≤ travel x lost d)
      if p (d0 + 2 ^ 80) then .at (2 * (x.t0 : Int) + bisect p 80 d0).toNat else .never

/-! ## Placement (R337 to R340) -/

/-- The level that the edge drives, from the level in force. -/
def PendEdge.drive (e : PendEdge) (cur : Bool) : Bool :=
  if e.isReturn then !e.level else if e.op = 2 then !cur else e.level

/-- The edge's target has had another edge in this resolution step (R339). -/
def edgeAgain (s : State) (x : EdgeEnt) : Bool :=
  s.edge.step.any fun y => y.1 == x.kind && y.2.1 == x.unit * 256 + x.sub && y.2.2.2

/-- Carry out the edge at its target; none is TARGET_ERR (R340). A second trigger of a flag in one FIELD clock adds nothing (R414). -/
def edgeApply (s : State) (x : EdgeEnt) (e : PendEdge) : Option State :=
  match x.kind with
  | 1 =>
    if chIsOutput s x.unit && !chSafe s x.unit && !s.service then
      some (s.chWr F.FIELD_CH_OUT_LEVEL x.unit (b2n (e.drive (s.ch F.FIELD_CH_OUT_LEVEL x.unit == 1))))
    else none
  | 2 => if sigOwner s x.unit = 1 then some (driveSig s x.unit (e.drive (s.sig x.unit).latch)) else none
  | 3 =>
    if s.service then none
    else if e.drive (brOn s x.unit) then (if branchAllowed s then some (branchOn s x.unit) else none)
    else some (branchOff s x.unit)
  | 4 => some (if edgeAgain s x then s else pioTrigger s x.unit x.sub)
  | 5 => some (canTrigger s x.unit x.sub)
  | _ => some s

/-- Two edges in one resolution step of a target: COLLIDE, once for each step (R339). -/
def edgeStep (s : State) (x : EdgeEnt) (at2 : Nat) : State :=
  let u := x.unit * 256 + x.sub
  let n := at2 / edgeRes x.kind
  let rest := s.edge.step.filter fun y => !(y.1 == x.kind && y.2.1 == u)
  match s.edge.step.find? fun y => y.1 == x.kind && y.2.1 == u && y.2.2.1 == n with
  | some y =>
    let s := { s with edge := { s.edge with step := (x.kind, u, n, true) :: rest } }
    if y.2.2.2 then s else countRaise s P.edge F.EDGE_CNT_COLLIDE_N P.edge 4
  | none => { s with edge := { s.edge with step := (x.kind, u, n, false) :: rest } }

/-! ## Completion (R341) and the commit (R330 to R332) -/

/-- Completion codes (R341). -/
def ER.done : Nat := 1
def ER.lateFired : Nat := 2
def ER.lateDropped : Nat := 3
def ER.cancelled : Nat := 4
def ER.targetErr : Nat := 5
def ER.discarded : Nat := 6

/-- The counter and the event of a result. -/
def edgeCount (s : State) (r : Nat) : State :=
  match r with
  | 1 => s.inc P.edge F.EDGE_CNT_FIRED_N
  | 2 => countRaise s P.edge F.EDGE_CNT_LATE_FIRED_N P.edge 1
  | 3 => countRaise s P.edge F.EDGE_CNT_LATE_DROPPED_N P.edge 1
  | 5 => countRaise s P.edge F.EDGE_CNT_TARGET_ERR_N P.edge 2
  | _ => s

/-- What the completion of a first edge reports. `at2` is the placed instant; an edge that was not placed has none, and
what ENT_LAST then shows is open. -/
def edgeReport (s : State) (e : PendEdge) (r : Nat) (at2 : Option Nat) : State :=
  let x := entOf s e.entry
  let (ns, s) := match at2 with
    | some i => (i / 2, s)
    | none => s.draw 64
  let s := setEnt s e.entry { x with last := r, lastNs := ns }
  let s := edgeCount s r
  let s := match e.action with
    | some (k, a) => { s with edge := { s.edge with results := s.edge.results ++ [(k, a, r)] } }
    | none => s
  raiseIf s x.irq P.edge 0

/-- The edge ends without being placed. -/
def edgeEnd (s : State) (e : PendEdge) (r : Nat) : State :=
  let s := if e.isReturn then (if r = ER.targetErr then edgeCount s r else s) else edgeReport s e r none
  dropEdge s e

/-- A comparator or a command place is free for the entry's target (R331). -/
def placeFree (s : State) (x : EdgeEnt) : Bool :=
  if x.atField then decide ((s.edge.cmds.filter fun c => c.kind == x.kind && c.unit == x.unit).length < 8)
  else decide ((s.edge.edges.filter fun e => e.st == .committed && !(entOf s e.entry).atField).length < 64)

/-- Commit an edge with instant `i`: a comparator, or a command to the field die (R331, R333). -/
def edgeCommit (s : State) (x : EdgeEnt) (e : PendEdge) (i : Nat) (late : Bool) : State :=
  let s := setEdge s { e with st := .committed, inst := some i, late := late, starved := false }
  if x.atField then
    let act := i - drvDly s x
    let c : FieldCmd := { kind := x.kind, unit := x.unit, seq := e.seq, act := act,
                          dead := act + (if x.lateFire then lateMax s else 0), here := false }
    { s with edge := { s.edge with cmds := s.edge.cmds ++ [c] } }
  else s

/-- No place is free: the edge waits for one (R331). -/
def edgeStarve (s : State) (e : PendEdge) : State :=
  if e.starved then s
  else countRaise (setEdge s { e with starved := true }) P.edge F.EDGE_CNT_CMP_BUSY_N P.edge 7

/-- Commit or judge a CONVERTED edge at `n2` (R331, R332): due at its commit instant, and late once E is later than its
instant. -/
def edgeTry (s : State) (e : PendEdge) (n2 : Nat) : State :=
  let x := entOf s e.entry
  let early := n2 + commitLead s x
  if edgeHeld s then s
  else if e.starved && !placeFree s x then s
  else match e.inst with
    | none => edgeEnd s e ER.lateDropped
    | some i =>
      if early < i then s
      else if early = i then
        (if placeFree s x then edgeCommit s x e i false else edgeStarve s e)
      else if x.lateFire && decide (early - i ≤ lateMax s) then
        (if placeFree s x then edgeCommit s x e (ceilTo (edgeRes x.kind) early) true else edgeStarve s e)
      else edgeEnd s e ER.lateDropped

/-- Solve a position operation at `n2` (R330). With `judge` a passed trigger is judged at once under R332; else it becomes
due at its commit. -/
def edgeSolve (s : State) (e : PendEdge) (n2 : Nat) (judge : Bool) : State :=
  let x := entOf s e.entry
  match solvePos s e.slot e.posTrig n2 with
  | .at i =>
    let i := ceilTo (edgeRes x.kind) i
    if e.st == .converted || decide (i < 2 * (s.time.tStart + horizon s * s.tickL)) then
      let e := { e with st := .converted, inst := some i }
      let s := setEdge s e
      if judge then edgeTry s e n2 else s
    else setEdge s { e with st := .waiting, inst := some i }
  | .passed i =>
    let e := { e with st := .converted, inst := i.map (ceilTo (edgeRes x.kind)) }
    let s := setEdge s e
    if judge then edgeTry s e n2 else s
  | .never =>
    let s := s.when (e.st == .converted) (·.inc P.edge F.EDGE_CNT_RETRACT_N)
    setEdge s { e with st := .waiting, inst := none }

/-- A position operation is solved again at a sample with DISC or INIT (R334). It counts as carried past its trigger where the
model before the sample had not passed it: it is none of `gone`, by arm order. -/
def edgeDisc (s : State) (e : PendEdge) (n2 : Nat) (gone : List Nat) : State :=
  match solvePos s e.slot e.posTrig n2 with
  | .passed _ => edgeSolve (if gone.contains e.seq then s else countRaise s P.edge F.EDGE_CNT_DISC_PASSED_N P.edge 6) e n2 true
  | _ => edgeSolve s e n2 false

/-- A sample with DISC or INIT that slot `slot` has taken, and the operations that its model had passed before. -/
structure DiscStep where
  slot : Nat
  gone : List Nat
  deriving DecidableEq, Repr

/-- What the state of its track slot does to an uncommitted position operation (R334): true if HELD was newly caused by LOST. -/
def edgeBySlot (s : State) (e : PendEdge) (n2 : Nat) (d : Option DiscStep) : Bool × State :=
  let st := trkState s e.slot
  if st = 0 then (false, edgeEnd s e ER.discarded)
  else if st = 1 then (false, setEdge s { e with st := .held, starved := false })
  else if st = 4 ∧ !(entOf s e.entry).onLost then (true, setEdge s { e with st := .held, starved := false })
  else if e.st == .held then
    (false, match d with
      | some d => if d.slot = e.slot then edgeDisc s e n2 d.gone else edgeSolve s e n2 true
      | none => edgeSolve s e n2 true)
  else (false, s)

/-- A position operation is brought in line with its slot (R334); HELD is raised once for each entry of a slot to LOST. -/
def edgeSync (s : State) (e : PendEdge) (n2 : Nat) (d : Option DiscStep := none) : State :=
  let r := edgeBySlot s e n2 d
  if r.1 && !r.2.edge.heldSaid.contains e.slot then
    raise { r.2 with edge := { r.2.edge with heldSaid := e.slot :: r.2.edge.heldSaid } } P.edge 5
  else r.2

/-- Every uncommitted position operation is brought in line with its slot (R334). -/
def edgesSync (s : State) (n2 : Nat) (d : Option DiscStep := none) : State :=
  let s := { s with edge := { s.edge with heldSaid := s.edge.heldSaid.filter fun k => trkState s k == 4 } }
  s.edge.edges.foldl (fun t e => if e.isPos && e.open then edgeSync t e n2 d else t) s

/-- Position operations of slot `k` that are neither committed nor held. -/
def edgesLive (s : State) (k : Nat) : List PendEdge :=
  s.edge.edges.filter fun e => e.isPos && e.open && e.slot == k && e.st != .held

/-- Position operations of slot `k` that the model at `n2` has passed, or that no step can carry past, for want of a model: their
arm order. -/
def edgesGone (s : State) (k n2 : Nat) : List Nat :=
  ((s.edge.edges.filter fun e => e.isPos && e.open && e.slot == k).filter fun e =>
    (trk s k).smp.isNone || (match solvePos s k e.posTrig n2 with
      | .passed _ => true
      | _ => false)).map (·.seq)

/-- Slot `k` has taken a sample (R330, R334), with DISC or INIT where `d` names it. An operation that the sample releases from HELD
is judged as it leaves it. -/
def edgesSample (s : State) (k n2 : Nat) (d : Option DiscStep) : State :=
  let live := (edgesLive s k).map (·.seq)
  let s := edgesSync s n2 d
  ((edgesLive s k).filter fun e => live.contains e.seq).foldl (fun t e =>
    match d with
    | some d => edgeDisc t e n2 d.gone
    | none => edgeSolve t e n2 false) s

/-- A tick instant has passed (R330): a WAITING operation whose instant now lies before T(k) + H × L becomes CONVERTED. -/
def edgesConvert (s : State) : State :=
  let lim := 2 * (s.time.tStart + horizon s * s.tickL)
  (s.edge.edges.filter fun e => e.isPos && e.open && e.st == .waiting && e.inst.any fun i => decide (i < lim)).foldl
    (fun t e => setEdge t { e with st := .converted }) s

/-- T(k) + W: every live position operation is solved again (R330). -/
def edgesWindow (s : State) (n2 : Nat) : State :=
  let s := edgesSync s n2
  s.each 8 fun t k => (edgesLive t k).foldl (fun u e => edgeSolve u e n2 false) t

/-- A configuration write of slot `k`: its uncommitted position operations complete DISCARDED (R334, R292). -/
def edgesReconfigured (s : State) (k : Nat) : State :=
  (s.edge.edges.filter fun e => e.isPos && e.open && e.slot == k).foldl (fun t e => edgeEnd t e ER.discarded) s

/-- The return edge of a PULSE is set (R336). -/
def edgeReturn (s : State) (e : PendEdge) (at2 n2 : Nat) : State :=
  let x := entOf s e.entry
  let e := { e with isReturn := true, placed := at2, starved := false, late := false, action := none }
  if !e.durPos then
    let e := { e with st := .converted, inst := some (ceilTo (edgeRes x.kind) (at2 + 2000 * e.dur)) }
    edgeTry (setEdge s e) e n2
  else
    let base : Option Int := if e.pos then some e.trig else (evalTrack s e.slot at2).map fun p => floorUm p.1
    match base, decide (trkState s e.slot ≤ 1) with
    | some b, false =>
      let e := { e with st := .held, inst := none, rtrig := b + e.dur }
      edgeSync (setEdge s e) e n2
    | _, _ =>
      let e := { e with st := .converted, inst := some at2, durPos := false }
      edgeTry (setEdge s e) e n2

/-- An edge is placed at `at2` with the result DONE or LATE_FIRED, or fails at its target (R337 to R341). -/
def edgePlace (s : State) (e : PendEdge) (at2 n2 : Nat) (late : Bool) : State :=
  let x := entOf s e.entry
  let s := edgeStep s x at2
  match edgeApply s x e with
  | none => edgeEnd s e ER.targetErr
  | some s =>
    if e.isReturn then dropEdge s e
    else
      let s := edgeReport s e (if late then ER.lateFired else ER.done) (some at2)
      if e.op = 1 ∧ 1 ≤ x.kind ∧ x.kind ≤ 3 then
        edgeReturn { s with edge := { s.edge with cmds := s.edge.cmds.filter (·.seq != e.seq) } } e at2 n2
      else dropEdge s e

/-- Order of application (R339): by instant, then entry, then arm order. -/
def PendEdge.before (a b : PendEdge) : Bool :=
  let i := a.inst.getD 0
  let j := b.inst.getD 0
  if i = j then (if a.entry = b.entry then decide (a.seq < b.seq) else decide (a.entry < b.entry)) else decide (i < j)

/-- Insert in order. -/
def edgeInsert (e : PendEdge) : List PendEdge → List PendEdge
  | [] => [e]
  | x :: r => if x.before e then x :: edgeInsert e r else e :: x :: r

/-- Sorted by the order of application. -/
def edgeSort (l : List PendEdge) : List PendEdge := l.foldr edgeInsert []

/-- STOPPED rises when every committed edge has been placed (R342). -/
def edgeStopJudge (s : State) : State :=
  if s.stopReq P.edge && s.edge.edges.all (fun e => e.st != .committed) then s.wr P.edge F.HDR_PAGE_STAT_STOPPED 1 else s

/-- Edges that wait for a place try again. -/
def edgesRetry (s : State) (n2 : Nat) : State :=
  (edgeSort (s.edge.edges.filter fun e => e.st == .converted && e.starved)).foldl (fun t e => edgeTry t e n2) s

/-! ## Passing of ring time -/

/-- Ring time reaches commit instants (R331). -/
def edgesCommit (s : State) (n2 : Nat) : State :=
  (edgeSort (s.edge.edges.filter fun e => e.st == .converted)).foldl (fun t e => edgeTry t e n2) s

/-- Comparators fire: every committed edge of a logic-die target with an instant up to `n2` is placed (R337). -/
def edgesPlace (s : State) (n2 : Nat) : State :=
  let due := edgeSort (s.edge.edges.filter fun e =>
    e.st == .committed && !(entOf s e.entry).atField && decide (e.inst.getD 0 ≤ n2))
  edgeStopJudge (edgesRetry (due.foldl (fun t e => edgePlace t e (e.inst.getD 0) n2 e.late) s) n2)

/-- Commands at the field die whose action instant is reached take effect (R333, R337). -/
def edgesField (s : State) (n2 : Nat) : State :=
  let due := (s.edge.cmds.filter fun c => c.here && decide (c.act ≤ n2)).filterMap fun c => edgeOf s c.seq
  edgeStopJudge (edgesRetry ((edgeSort due).foldl (fun t e => edgePlace t e (e.inst.getD 0) n2 e.late) s) n2)

/-- The oldest command on the way to a field-die target arrives (R333). -/
def fieldCmdArrives (s : State) (kind unit n2 : Nat) : State :=
  if s.stitch.down then s
  else match s.edge.cmds.find? fun c => c.kind == kind && c.unit == unit && !c.here with
    | none => s
    | some c =>
      let s := flitArrives s (n2 / 2)
      match edgeOf s c.seq with
      | none => s
      | some e =>
        if n2 < c.act then
          { s with edge := { s.edge with cmds := s.edge.cmds.map fun y => if y.seq = c.seq then { c with here := true } else y } }
        else
          let s := s.inc P.edge F.EDGE_CNT_FIELD_LATE_N
          let s := if n2 < c.dead then edgePlace s e (n2 + drvDly s (entOf s e.entry)) n2 true else edgeEnd s e ER.lateDropped
          edgeStopJudge (edgesRetry s n2)

/-! ## Commands (R327) -/

/-- Unit and sub of a kind are defined (R325). -/
def targetOk (kind unit sub : Nat) : Bool :=
  match kind with
  | 0 => true
  | 1 => decide (unit < 64) && sub == 0
  | 2 => decide (unit < 96) && sub == 0
  | 3 => decide (unit < 8) && sub == 0
  | 4 => decide (unit < 24 ∧ sub < 4)
  | 5 => decide (unit < 8 ∧ sub < 32)
  | _ => false

/-- The entry lies in the Drift action pool. -/
def inActPool (s : State) (n : Nat) : Bool :=
  let b := s.rd P.drift F.DRIFT_ACT_POOL_ACT_BASE
  decide (b ≤ n ∧ n < b + s.rd P.drift F.DRIFT_ACT_POOL_ACT_COUNT)

/-- The slot is an enabled track slot: ENABLE = 1 and STOP = 0. -/
def slotEnabled (s : State) (k : Nat) : Bool := s.enabled (P.track k) && !s.stopReq (P.track k)

/-- The operation of an ARM. -/
structure ArmOp where
  pos    : Bool
  slot   : Nat
  durPos : Bool
  trig   : Int
  pattern : Nat
  dur    : Nat
  deriving DecidableEq, Repr

/-- The operation is defined (R326, R327). -/
def armOk (s : State) (o : ArmOp) : Bool :=
  let op := bitsOf o.pattern 12 3
  decide (op ≤ 2) && o.pattern % 4096 == 0 && (op != 1 || decide (0 < o.dur)) &&
    (!(o.pos || (op == 1 && o.durPos)) || slotEnabled s o.slot)

/-- Take a pending edge for the operation; it is judged under R330 and R332. -/
def edgeArm (s : State) (n : Nat) (o : ArmOp) (action : Option (Nat × Nat)) (n2 : Nat) : State :=
  let x := entOf s n
  let e : PendEdge := { seq := s.edge.nextSeq, entry := n, pos := o.pos, slot := o.slot, trig := o.trig,
                        level := bitOf o.pattern 15, op := bitsOf o.pattern 12 3, dur := o.dur, durPos := o.durPos,
                        st := if o.pos then .held else .converted,
                        inst := if o.pos then none else some (ceilTo (edgeRes x.kind) o.trig.toNat), action := action }
  let s := { s with edge := { s.edge with nextSeq := s.edge.nextSeq + 1, edges := s.edge.edges ++ [e] } }
  if o.pos then edgeSync s e n2 else edgeTry s e n2

/-- ENT_RES codes. -/
def EC.ok : Nat := 1
def EC.state : Nat := 2
def EC.badArg : Nat := 3
def EC.drift : Nat := 4
def EC.busy : Nat := 5
def EC.poolFull : Nat := 6

/-- Arm with the checks of R327 after STATE and DRIFT: the result and the state. -/
def armChecked (s : State) (n : Nat) (o : ArmOp) (action : Option (Nat × Nat)) (n2 : Nat) : Nat × State :=
  if !(entOf s n).used || !armOk s o then (EC.badArg, s)
  else if 4096 ≤ s.edge.edges.length then (EC.poolFull, countRaise s P.edge F.EDGE_CNT_POOL_FULL_N P.edge 3)
  else (EC.ok, edgeArm s n o action n2)

/-- End every pending edge of entry `n` whose first edge is not committed (R327). -/
def edgesCancel (s : State) (n : Nat) : State :=
  (entEdges s n).foldl (fun t e => if e.open && !e.isReturn then edgeEnd t e ER.cancelled else t) s

/-- RELEASE (R327). -/
def edgesRelease (s : State) (n : Nat) : State :=
  let s := edgesCancel s n
  if (entEdges s n).isEmpty then setEnt s n {} else setEnt s n { entOf s n with leaving := true }

/-- The operation in the staging registers. -/
def stagedArm (s : State) : ArmOp :=
  let pos := s.on P.edge F.EDGE_ENT_ARM0_POS
  let v := s.rd64 P.edge F.EDGE_ENT_ARM1_TRIG F.EDGE_ENT_ARM2_TRIG
  { pos := pos, slot := s.rd P.edge F.EDGE_ENT_ARM0_SLOT, durPos := s.on P.edge F.EDGE_ENT_ARM0_DUR_POS,
    trig := if pos then toSigned 48 (v % 2 ^ 48) else ((2 * v + s.rd P.edge F.EDGE_ENT_ARM0_HALF : Nat) : Int),
    pattern := s.rd P.edge F.EDGE_ENT_ARM0_PATTERN, dur := s.rd P.edge F.EDGE_ENT_ARM3_DURATION }

/-- A write of ENT_CMD (R327): 1 CONFIGURE, 2 ARM, 3 CANCEL, 4 RELEASE. -/
def entCommand (s : State) (op n2 : Nat) : State :=
  let n := s.rd P.edge F.EDGE_ENT_SEL_ENTRY
  let r : Nat × State :=
    if op = 0 ∨ 4 < op then (EC.badArg, s)
    else if !s.working then (EC.state, s)
    else if inActPool s n then (EC.drift, s)
    else if op = 1 then
      let k := s.rd P.edge F.EDGE_ENT_TGT_KIND
      let u := s.rd P.edge F.EDGE_ENT_TGT_UNIT
      let b := s.rd P.edge F.EDGE_ENT_TGT_SUB
      if !(entEdges s n).isEmpty then (EC.busy, s)
      else if !targetOk k u b then (EC.badArg, s)
      else (EC.ok, setEnt s n { entOf s n with
        used := true, leaving := false, kind := k, safe := s.rd P.edge F.EDGE_ENT_TGT_SAFE,
        lateFire := s.on P.edge F.EDGE_ENT_TGT_LATE_FIRE, onLost := s.on P.edge F.EDGE_ENT_TGT_ON_LOST,
        irq := s.on P.edge F.EDGE_ENT_TGT_IRQ, unit := u, sub := b })
    else if op = 2 then armChecked s n (stagedArm s) none n2
    else if op = 3 then (EC.ok, edgesCancel s n)
    else (EC.ok, edgesRelease s n)
  r.2.wr P.edge F.EDGE_ENT_RES_RESULT r.1

/-- Earliest pending edge of an entry: by instant where one is known, else by arm order. -/
def entFirst (s : State) (n : Nat) : Option PendEdge :=
  let l := entEdges s n
  match edgeSort (l.filter fun e => e.inst.isSome) with
  | e :: _ => some e
  | [] => l.head?

/-- A write of ENT_SEL (R327): the staging registers show the entry's target and its earliest pending edge; without one the
operation registers read 0. -/
def entSelect (s : State) (n : Nat) : State :=
  let x := entOf s n
  let s := s.wr P.edge F.EDGE_ENT_SEL_ENTRY n
  let s := (s.wr P.edge F.EDGE_ENT_TGT_KIND x.kind).wr P.edge F.EDGE_ENT_TGT_SAFE x.safe
  let s := (s.wr P.edge F.EDGE_ENT_TGT_LATE_FIRE (b2n x.lateFire)).wr P.edge F.EDGE_ENT_TGT_ON_LOST (b2n x.onLost)
  let s := s.wr P.edge F.EDGE_ENT_TGT_IRQ (b2n x.irq)
  let s := (s.wr P.edge F.EDGE_ENT_TGT_UNIT x.unit).wr P.edge F.EDGE_ENT_TGT_SUB x.sub
  let put := fun (p sl dp half pat trig dur : Nat) =>
    let s := (s.wr P.edge F.EDGE_ENT_ARM0_POS p).wr P.edge F.EDGE_ENT_ARM0_SLOT sl
    let s := (s.wr P.edge F.EDGE_ENT_ARM0_DUR_POS dp).wr P.edge F.EDGE_ENT_ARM0_HALF half
    let s := (s.wr P.edge F.EDGE_ENT_ARM0_PATTERN pat).wr64 P.edge F.EDGE_ENT_ARM1_TRIG F.EDGE_ENT_ARM2_TRIG trig
    s.wr P.edge F.EDGE_ENT_ARM3_DURATION dur
  match entFirst s n with
  | none => put 0 0 0 0 0 0 0
  | some e =>
    let pat := b2n e.level * 2 ^ 15 + e.op * 2 ^ 12
    if e.pos then put 1 e.slot (b2n e.durPos) 0 pat (ofSigned 48 e.trig) e.dur
    else put 0 e.slot (b2n e.durPos) (e.trig.toNat % 2) pat (e.trig.toNat / 2) e.dur

/-! ## Discards -/

/-- Every pending edge completes DISCARDED, committed field-die commands too (R342, R59). -/
def edgesDiscardAll (s : State) : State := s.edge.edges.foldl (fun t e => edgeEnd t e ER.discarded) s

/-- The field die drops the commands pending for a channel or branch; their edges complete DISCARDED (R352, R364). -/
def edgesDropAt (s : State) (kind unit : Nat) : State :=
  (s.edge.cmds.filter fun c => c.kind == kind && c.unit == unit).foldl (fun t c =>
    match edgeOf t c.seq with
    | some e => edgeEnd t e ER.discarded
    | none => t) s

/-- A safe-state trigger outside a freeze (R364): the channels that enter drop their edge commands. -/
def safeTrigger (s : State) (chs : List Nat) (cause : Nat) (forceOff mirror : Bool := false) : State :=
  let ins := chs.filter fun c => !chSafe s c
  let s := safeEnter raise s chs cause forceOff mirror
  if s.st = NS.eclipse then s else ins.foldl (fun t c => edgesDropAt t 1 c) s

/-- The safe state of the target of entry `n` (R342): a mirror has lost its feed. -/
def entSafe (s : State) (n : Nat) : State :=
  let x := entOf s n
  if !x.used then s
  else match x.kind with
    | 1 => safeTrigger s [x.unit] 6 false true
    | 2 => if sigOwner s x.unit = 1 ∧ x.safe ≤ 1 then driveSig s x.unit (x.safe == 1) else s
    | 3 => branchOff s x.unit
    | _ => s

/-- A page that was stopped runs again: edges whose commit instant has passed are judged (R342). -/
def edgesResume (s : State) (n2 : Nat) : State := edgesCommit s n2

end Sys2Proof.Machine
end

