-- ==== Sys2Proof/Machine/Sessions.lean ====
section
/-!
DEFINITION. Guaranteed sessions (09_queues_and_sessions.md, R250 to R265, R269 to R271).
-/

namespace Sys2Proof.Machine

/-! ## Shared -/

/-- The node's states in which sessions run (R60). -/
def State.sessionsRun (s : State) : Bool := s.working || s.st == NS.join

/-- The node's 16-bit incarnation (R136). -/
def State.inc16 (s : State) : Nat := s.ao.incarnation % 65536

/-- JOIN_STAT.HOLD_DONE (R137). -/
def State.holdDone (s : State) : Bool := s.on P.halo F.HALO_JOIN_STAT_HOLD_DONE

/-- The presence bit of node `a` (R139). -/
def present (s : State) (a : Nat) : Bool := s.bit P.halo (F.HALO_PRESENT_P (a / 32)) (a % 32)

/-- A sending session's record. -/
def txSes (s : State) (k : Nat) : TxSes := s.ses.tx.at {} k

/-- Change a sending session's record; RETAINED follows. -/
def setTx (s : State) (k : Nat) (x : TxSes) : State :=
  { s with ses := { s.ses with tx := s.ses.tx.put {} k x } }.wri P.sestx F.SESTX_SES_STAT_RETAINED k x.ret.length

/-- A receiving session's record. -/
def rxSes (s : State) (r : Nat) : RxSes := s.ses.rx.at {} r

/-- Change a receiving session's record. -/
def setRx (s : State) (r : Nat) (x : RxSes) : State := { s with ses := { s.ses with rx := s.ses.rx.put {} r x } }

/-- A register of sending session `k`. -/
def State.tx (s : State) (f : Fld) (k : Nat) : Nat := s.rdi P.sestx f k

/-- A register of receiving session `r`. -/
def State.rx (s : State) (f : Fld) (r : Nat) : Nat := s.rdi P.sesrx f r

/-- RTO in ticks: 0 acts as 1 (R269). -/
def rtoOf (s : State) (k : Nat) : Nat := max 1 (s.tx F.SESTX_SES_TMR_RTO k)

/-- STALL_TICKS, used as the nearest limit of 16 to 65,535. -/
def stallOf (s : State) (k : Nat) : Nat := max 16 (s.tx F.SESTX_SES_TMR_STALL_TICKS k)

/-- Cells of a message of `n` bytes (R252). -/
def msgCells (n : Nat) : Nat := ceilDiv (n + 28) 256

/-- Cells of a session's retention list. -/
def retCells (l : List (Nat × List Nat)) : Nat := l.foldl (fun a e => a + msgCells e.2.length) 0

/-- Set the messages that a session retains; the pool follows. -/
def setRet (s : State) (k : Nat) (l : List (Nat × List Nat)) : State :=
  let x := txSes s k
  let was := retCells x.ret
  let is := retCells l
  let before := s.sw.used
  let s := { s with sw := { s.sw with used := before + is - was } }
  let s := if was < is then poolMonitor s before else s
  setTx s k { x with ret := l }

/-- Session frames leave through port 8; frames to an address of the node itself stay inside (R263), and come from that address. In
last gasp none leave (R261). -/
def sendSes (s : State) (f : Frame) : State :=
  if s.ses.frozen || !s.sessionsRun then s
  else if isOwn s f.dst then
    { s with ses := { s.ses with loop := s.ses.loop ++ [{ f with src := f.dst }] } }
  else originate s 8 f

/-- STALLED of session `k` and its bit in STALLEDw. -/
def setStalled (s : State) (k : Nat) (b : Bool) : State :=
  (s.wri P.sestx F.SESTX_SES_STAT_STALLED k (b2n b)).setBit P.sestx (F.SESTX_STALLED_S (k / 32)) (k % 32) b

/-! ## Sending (R254 to R257) -/

/-- Words 4 and 5 of a session frame and the frame itself (R251). -/
def sesFrame (typ dst w3 ssid rsid inc flags : Nat) (pay : List Nat) : Frame :=
  { typ := typ, cls := 6, reach := 0x3FF, dst := dst, w3 := w3, w4 := ssid * 2 ^ 24 + rsid * 2 ^ 16 + inc, w5 := flags, pay := pay }

/-- Send one message of session `k`; none leaves in last gasp, and none counts (R261). -/
def sendMsg (s : State) (k : Nat) (retx : Bool) (m : Nat × List Nat) : State :=
  if s.ses.frozen then s else
  let s := if retx then (s.inc P.sestx F.SESTX_CNT_RETX_N).inci P.sestx F.SESTX_SES_RETX_N k else s
  sendSes s (sesFrame 5 (s.tx F.SESTX_SES_CFG_DST k) m.1 k (s.tx F.SESTX_SES_CFG_RSID k) s.inc16
    (s.tx F.SESTX_SES_STAT_FRESH k * 2 ^ 30 + b2n retx * 2 ^ 29) m.2)

/-- Send a probe of session `k`. -/
def sendProbe (s : State) (k : Nat) : State :=
  if s.ses.frozen then s else
  let s := s.inc P.sestx F.SESTX_CNT_PROBE_N
  sendSes s (sesFrame 5 (s.tx F.SESTX_SES_CFG_DST k) 0 k (s.tx F.SESTX_SES_CFG_RSID k) s.inc16
    (2 ^ 31 + s.tx F.SESTX_SES_STAT_FRESH k * 2 ^ 30)
    (beBytes 4 (serNext (s.tx F.SESTX_SES_CONS_MSEQ k)) ++ beBytes 4 (s.tx F.SESTX_SES_NEXT_MSEQ k)))

/-- Resend every retained message from MSEQ `m` on, in order, with RETX = 1 (R255). -/
def resendFrom (s : State) (k m : Nat) : State :=
  let l := (txSes s k).ret.filter fun e => serLe m e.1
  let s := l.foldl (fun t e => sendMsg t k true e) s
  setTx s k { txSes s k with unsent := s.tx F.SESTX_SES_NEXT_MSEQ k }

/-- Send what has never been sent, in MSEQ order, with RETX = 0 (R254). -/
def sendNew (s : State) (k : Nat) : State :=
  if s.tx F.SESTX_SES_STAT_STATE k = 2 then
    let l := (txSes s k).ret.filter fun e => serLe (txSes s k).unsent e.1
    let s := l.foldl (fun t e => sendMsg t k false e) s
    setTx s k { txSes s k with unsent := s.tx F.SESTX_SES_NEXT_MSEQ k }
  else s

/-- Codes of PUSH_STATi.STATUS (R269). -/
def PS.queued : Nat := 1
def PS.ok : Nat := 2

/-- RCVD_THRU takes the value `m`: pushes that it reaches return OK (R253). -/
def setRcvd (s : State) (k m : Nat) : State :=
  let was := s.tx F.SESTX_SES_RCVD_MSEQ k
  let s := s.wri P.sestx F.SESTX_SES_RCVD_MSEQ k m
  if serLt was m then
    let s := s.each 8 fun t i =>
      if t.rd P.sestx (F.SESTX_PUSH_STAT_STATUS i) = PS.queued ∧ t.rd P.sestx (F.SESTX_PUSH_STAT_SESSION i) = k ∧
          serLe (t.rd P.sestx (F.SESTX_PUSH_SEQ_MSEQ i)) m then
        t.wr P.sestx (F.SESTX_PUSH_STAT_STATUS i) PS.ok
      else t
    raiseIf s ((txSes s k).ret.any fun e => serLt was e.1 && serLe e.1 m) P.sestx 0
  else s

/-- CONS_THRU takes the value `c`; retained messages up to it are released (R256, step 3). -/
def setCons (s : State) (k c : Nat) : State :=
  let s := s.wri P.sestx F.SESTX_SES_CONS_MSEQ k c
  let l := (txSes s k).ret
  let left := l.filter fun e => !serLe e.1 c
  raiseIf (setRet s k left) (decide (left.length < l.length)) P.sestx 1

/-- A valid ACK: the timers restart, STALLED clears, and the session is OPEN (R256, step 5). -/
def ackTaken (s : State) (k : Nat) : State :=
  let s := setTx s k { txSes s k with rtoDue := s.ticks + rtoOf s k, ackTick := s.ticks }
  (setStalled s k false).wri P.sestx F.SESTX_SES_STAT_STATE k 2

/-- An ACK arrives at the sender (R256, R257). -/
def judgeAck (s : State) (f : Frame) : State :=
  let k := f.w4 / 2 ^ 24 % 256
  let rsid := f.w4 / 2 ^ 16 % 256
  let rinc := f.w4 % 65536
  let gap := bitOf f.w5 31
  let fresh := bitOf f.w5 30
  let rxn := beAt f.pay 0 4
  let cseq := f.w3 % 2 ^ 32
  let cons := s.tx F.SESTX_SES_CONS_MSEQ k
  let next := s.tx F.SESTX_SES_NEXT_MSEQ k
  let mine := s.tx F.SESTX_SES_CFG_EN k == 1 && f.src == s.tx F.SESTX_SES_CFG_DST k && rsid == s.tx F.SESTX_SES_CFG_RSID k
  let noHist := s.tx F.SESTX_SES_STAT_FRESH k == 1
  let inWin := decide (serDist cons cseq < serDist cons rxn) && decide (serDist cons rxn ≤ serDist cons next)
  let sync := noHist && s.tx F.SESTX_SES_STAT_STATE k == 1
  if !(mine && (sync || fresh || inWin)) then s.inc P.sestx F.SESTX_CNT_BAD_ACK_N
  else
    let s := s.inc P.sestx F.SESTX_CNT_ACK_RX_N
    let x := txSes s k
    if noHist then
      let s := setTx s k { x with hasRinc := true, unsent := rxn }
      let s := s.wri P.sestx F.SESTX_SES_RINC_INC k rinc
      let s := s.wri P.sestx F.SESTX_SES_NEXT_MSEQ k rxn
      let s := s.wri P.sestx F.SESTX_SES_RCVD_MSEQ k cseq
      let s := s.wri P.sestx F.SESTX_SES_CONS_MSEQ k cseq
      ackTaken (s.wri P.sestx F.SESTX_SES_STAT_FRESH k 0) k
    else if fresh then
      let s := setTx s k { x with hasRinc := true }
      let s := raise (s.wri P.sestx F.SESTX_SES_RINC_INC k rinc) P.sestx 2
      let s := ackTaken s k
      if x.ret.isEmpty then sendProbe s k else resendFrom s k (serNext cons)
    else
      let changed := x.hasRinc && s.tx F.SESTX_SES_RINC_INC k != rinc
      let s := setTx s k { x with hasRinc := true }
      let s := s.wri P.sestx F.SESTX_SES_RINC_INC k rinc
      let s := raiseIf s changed P.sestx 2
      let r := serPrev rxn
      let s := if changed || serLt (s.tx F.SESTX_SES_RCVD_MSEQ k) r then setRcvd s k r else s
      let s := setCons s k cseq
      let s := ackTaken s k
      let s := if changed || gap then resendFrom s k rxn else s
      sendNew s k

/-! ## Receiving (R258 to R262) -/

/-- The ACK of receiving session `r` leaves (R251, R260). -/
def sendAck (s : State) (r : Nat) (gap : Bool) : State :=
  if s.ses.frozen || !s.sessionsRun then s
  else
    let x := rxSes s r
    let fresh := s.rx F.SESRX_RSES_STAT_NO_HISTORY r == 1 && !x.taken
    let cons := if fresh then 0xFFFFFFFF else s.rx F.SESRX_RSES_CONS_MSEQ r
    let next := if fresh then 0 else s.rx F.SESRX_RSES_NEXT_MSEQ r
    let s := setRx s r { x with ackTick := some s.ticks, due := none, ackNext := next, ackCons := cons, freshDue := s.ticks + 8 }
    let s := s.inc P.sesrx F.SESRX_CNT_ACK_TX_N
    let s := raiseIf s gap P.sesrx 1
    sendSes s (sesFrame 6 (s.rx F.SESRX_RSES_CFG_SRC r) cons (s.rx F.SESRX_RSES_CFG_SSID r) r s.inc16
      (b2n gap * 2 ^ 31 + b2n fresh * 2 ^ 30) (beBytes 4 next))

/-- An ACK that the table of R258 calls for: at most one in a tick. -/
def tableAck (s : State) (r : Nat) (gap : Bool) : State :=
  if (rxSes s r).ackTick = some s.ticks then s else sendAck s r gap

/-- RX_NEXT or CONS_THRU has advanced: the ACK is due at the next tick instant, at once after 16 (R259). -/
def ackAdvance (s : State) (r : Nat) : State :=
  let x := rxSes s r
  let s := setRx s r { x with due := some (x.due.getD s.ticks) }
  if 16 ≤ serDist x.ackNext (s.rx F.SESRX_RSES_NEXT_MSEQ r) ∨ 16 ≤ serDist x.ackCons (s.rx F.SESRX_RSES_CONS_MSEQ r) then
    (if s.rx F.SESRX_RSES_CFG_EN r = 1 then sendAck s r false else s)
  else s

/-- A message of session `r` is consumed (R259): CONS_THRU advances to it, in the order of MSEQ. -/
def consumeMsg (s : State) (r m : Nat) : State :=
  let cons := s.rx F.SESRX_RSES_CONS_MSEQ r
  if serLt cons m && serLt m (s.rx F.SESRX_RSES_NEXT_MSEQ r) then
    ackAdvance (s.wri P.sesrx F.SESRX_RSES_CONS_MSEQ r m) r
  else s

/-- RSES_QUEUE: 112 to 1,023, others act as 112 (R270). -/
def rsesQueue (s : State) (r : Nat) : Nat :=
  let q := s.rx F.SESRX_RSES_QUEUE_QUEUE r
  if q < 112 then 112 else q

/-- A MSG or probe arrives (R258). While last gasp holds the sessions FROZEN nothing is taken (R261). -/
def judgeMsg (s : State) (f : Frame) : State :=
  let k := f.w4 / 2 ^ 24 % 256
  let r := f.w4 / 2 ^ 16 % 256
  let sinc := f.w4 % 65536
  let probe := bitOf f.w5 31
  let fresh := bitOf f.w5 30
  let m := f.w3 % 2 ^ 32
  if s.ses.frozen then s
  else if !(s.rx F.SESRX_RSES_CFG_EN r == 1 && f.src == s.rx F.SESRX_RSES_CFG_SRC r && k == s.rx F.SESRX_RSES_CFG_SSID r) then
    raise (s.inc P.sesrx F.SESRX_CNT_UNKNOWN_N) P.sesrx 3
  else
    let x := rxSes s r
    let resync := x.hasSinc && s.rx F.SESRX_RSES_STAT_SINC r != sinc
    let s := raiseIf (s.wri P.sesrx F.SESRX_RSES_STAT_SINC r sinc) resync P.sesrx 4
    let s :=
      if s.rx F.SESRX_RSES_STAT_NO_HISTORY r = 1 ∧ !x.taken then
        let n := if probe then beAt f.pay 0 4 else m
        let s := (s.wri P.sesrx F.SESRX_RSES_NEXT_MSEQ r n).wri P.sesrx F.SESRX_RSES_CONS_MSEQ r (serPrev n)
        let s := setRx s r { rxSes s r with ackNext := n, ackCons := serPrev n }
        if fresh then s
        else
          let s := s.wri P.sesrx F.SESRX_RSES_STAT_UNSAFE r 1
          raise (s.wri P.sesrx F.SESRX_RSES_DUP_MSEQ r (if probe then beAt f.pay 4 4 else serNext m)) P.sesrx 5
      else s
    let s := setRx s r { rxSes s r with hasSinc := true, taken := true }
    let next := s.rx F.SESRX_RSES_NEXT_MSEQ r
    if probe then tableAck s r false
    else if serLt m next then tableAck (s.inc P.sesrx F.SESRX_CNT_RX_DUP_N) r false
    else if m = next then
      let dup := s.rx F.SESRX_RSES_STAT_UNSAFE r == 1 && serLt m (s.rx F.SESRX_RSES_DUP_MSEQ r)
      let a := qAdmit s (rsesQueue s r) (s.rx F.SESRX_RSES_CFG_PRIO r) f.src r m dup (headBytes f) f.pay true
      if a.1 then
        let s := a.2.wri P.sesrx F.SESRX_RSES_NEXT_MSEQ r (serNext m)
        let s := s.inc P.sesrx F.SESRX_CNT_RX_N
        let s := if dup then s.inc P.sesrx F.SESRX_CNT_MAYBE_DUP_N else s
        ackAdvance (raise s P.sesrx 0) r
      else countRaise a.2 P.sesrx F.SESRX_CNT_RX_FULL_N P.sesrx 2
    else tableAck (s.inc P.sesrx F.SESRX_CNT_RX_GAP_N) r true

/-- Judge the session frames to the node itself (R263). -/
def drainLoop : Nat → State → State
  | 0, s => s
  | fuel + 1, s =>
    match s.ses.loop with
    | [] => s
    | f :: r =>
      let s := { s with ses := { s.ses with loop := r } }
      drainLoop fuel (if f.typ = 5 then judgeMsg s f else judgeAck s f)

/-- Finish a session operation: what it sent to the node itself is judged. -/
def sesDone (s : State) : State := drainLoop 4096 s

/-! ## Commands on queues that consume messages -/

/-- A Q_CMD write with the consumption it causes (R245, R259). -/
def queueCommand (s : State) (q ini : Nat) (o : QOp) : State :=
  let r := qCommand s q ini o
  sesDone (r.1.foldl (fun t c => consumeMsg t c.1 c.2) r.2)

/-! ## Pushes (R252) -/

/-- The first failing check of a push: its STATUS code; 1 QUEUED if none fails. -/
def pushJudge (s : State) (ini k len : Nat) : Nat :=
  let space := s.rdi P.sestx F.SESTX_PUSH_ADDR_SPACE ini
  let off := s.rdi P.sestx F.SESTX_PUSH_ADDR_OFFSET ini
  if !s.sessionsRun then 10
  else if s.ses.frozen then 8
  else if s.tx F.SESTX_SES_CFG_EN k = 0 then 5
  else if s.tx F.SESTX_SES_STAT_FRESH k = 1 then 9
  else if len = 0 ∨ 2048 < len then 6
  else if (space = 1 ∧ ini ≠ 4) ∨ (if space = 1 then 0x40000 else 0x200000) < off + len then 7
  else if 64 ≤ (txSes s k).ret.length then 3
  else if sharedFree s - (msgCells len : Int) < (s.rd P.pool F.CELLPOOL_POOL_CFG_POOL_RESERVE : Int) then 4
  else 1

/-- A message is retained on session `k` and sent when it may be (R252, R254): its MSEQ and the state. RTO and STALL_TICKS count from
the first message retained; in SYNC they count already (R254, R255). -/
def retainMsg (s : State) (k : Nat) (bytes : List Nat) : Nat × State :=
  let m := s.tx F.SESTX_SES_NEXT_MSEQ k
  let x := txSes s k
  let s := if x.ret.isEmpty ∧ s.tx F.SESTX_SES_STAT_STATE k ≠ 1 then
      setTx s k { x with rtoDue := s.ticks + rtoOf s k, ackTick := s.ticks } else s
  let s := setRet s k ((txSes s k).ret ++ [(m, bytes)])
  let s := s.wri P.sestx F.SESTX_SES_NEXT_MSEQ k (serNext m)
  (m, sesDone (sendNew (s.inc P.sestx F.SESTX_CNT_PUSH_N) k))

/-- A push by local initiator `ini` on session `k` of `len` bytes. -/
def pushMsg (s : State) (ini k len : Nat) : State :=
  let c := pushJudge s ini k len
  let s := s.wr P.sestx (F.SESTX_PUSH_STAT_SESSION ini) k
  let s := s.wr P.sestx (F.SESTX_PUSH_STAT_STATUS ini) c
  if c = 1 then
    let base := if s.rdi P.sestx F.SESTX_PUSH_ADDR_SPACE ini = 1 then 0x08040000 else 0x10200000
    let s := s.wr P.sestx (F.SESTX_PUSH_SEQ_MSEQ ini) (s.tx F.SESTX_SES_NEXT_MSEQ k)
    (retainMsg s k (s.memRead (base + s.rdi P.sestx F.SESTX_PUSH_ADDR_OFFSET ini) len)).2
  else s.inc P.sestx F.SESTX_CNT_PUSH_REFUSED_N

/-! ## Enabling and disabling (R254, R262, R265) -/

/-- A sending session is enabled from DISABLED: it has no history (R254), which is NEXT 0 and CONS_THRU and RCVD_THRU just
below it, as R260 gives them. -/
def sesEnable (s : State) (k : Nat) : State :=
  let s := (s.wri P.sestx F.SESTX_SES_CFG_EN k 1).wri P.sestx F.SESTX_SES_STAT_STATE k 1
  let s := s.wri P.sestx F.SESTX_SES_STAT_FRESH k 1
  let s := s.wri P.sestx F.SESTX_SES_NEXT_MSEQ k 0
  let s := s.wri P.sestx F.SESTX_SES_RCVD_MSEQ k (serPrev 0)
  let s := s.wri P.sestx F.SESTX_SES_CONS_MSEQ k (serPrev 0)
  setTx s k { txSes s k with hasRinc := false, rtoDue := 0, unsent := 0, ackTick := s.ticks }

/-- A sending session is disabled: its retained messages are released and counted. -/
def sesDisable (s : State) (k : Nat) : State :=
  let n := (txSes s k).ret.length
  let s := setRet s k []
  let s := (s.wri P.sestx F.SESTX_SES_CFG_EN k 0).wri P.sestx F.SESTX_SES_STAT_STATE k 0
  let s := setStalled s k false
  raiseIf (s.inc P.sestx F.SESTX_CNT_DISCARD_N n) (decide (0 < n)) P.sestx 5

/-- May receiving session `r` be enabled: its queue is of TYPE 0 or 3 without OVERWRITE (R262). -/
def rsesMayEnable (s : State) (r : Nat) : Bool :=
  let q := rsesQueue s r
  (qType s q == 0 || qType s q == 3) && !s.on (P.queue q) (F.QUEUE_Q_CFG_OVERWRITE (q % 16))

/-- A receiving session is enabled from DISABLED: history from the black box, or none. -/
def rsesEnable (s : State) (r : Nat) : State :=
  let s := (qBind s (rsesQueue s r) 3).2
  let s := s.wri P.sesrx F.SESRX_RSES_CFG_EN r 1
  let s := s.wri P.sesrx F.SESRX_RSES_STAT_STATE r (if s.ses.frozen then 2 else 1)
  let s := (s.wri P.sesrx F.SESRX_RSES_STAT_UNSAFE r 0).wri P.sesrx F.SESRX_RSES_DUP_MSEQ r 0
  let b := s.ao.bb.sess.at {} r
  -- a session entry is used at most once (R536)
  let s := { s with ao := { s.ao with bb := { s.ao.bb with sess := s.ao.bb.sess.put {} r {} } } }
  if s.on P.sesrx F.SESRX_BB_STAT_VALID && b.valid && b.src == s.rx F.SESRX_RSES_CFG_SRC r && b.ssid == s.rx F.SESRX_RSES_CFG_SSID r then
    let s := s.wri P.sesrx F.SESRX_RSES_STAT_NO_HISTORY r 0
    let s := s.wri P.sesrx F.SESRX_RSES_CONS_MSEQ r b.cons
    let s := s.wri P.sesrx F.SESRX_RSES_NEXT_MSEQ r (serNext b.cons)
    setRx s r { due := some s.ticks, ackNext := serNext b.cons, ackCons := b.cons }
  else
    let s := s.wri P.sesrx F.SESRX_RSES_STAT_NO_HISTORY r 1
    let s := (s.wri P.sesrx F.SESRX_RSES_NEXT_MSEQ r 0).wri P.sesrx F.SESRX_RSES_CONS_MSEQ r (serPrev 0)
    setRx s r { freshDue := s.ticks }

/-- A receiving session is disabled: nothing is discarded, nothing more admitted. -/
def rsesDisable (s : State) (r : Nat) : State :=
  let s := (s.wri P.sesrx F.SESRX_RSES_CFG_EN r 0).wri P.sesrx F.SESRX_RSES_STAT_STATE r 0
  qUnbind (setRx s r { rxSes s r with due := none }) (rsesQueue s r)

/-! ## The other end's presence (R254) -/

/-- The presence bit of node `a` has cleared: sessions to it that are OPEN or SYNC become ABSENT. -/
def sesPeerAbsent (s : State) (a : Nat) : State :=
  s.each 256 fun t k =>
    if t.tx F.SESTX_SES_CFG_EN k = 1 ∧ t.tx F.SESTX_SES_CFG_DST k = a ∧
        (t.tx F.SESTX_SES_STAT_STATE k = 1 ∨ t.tx F.SESTX_SES_STAT_STATE k = 2) then
      raise (t.wri P.sestx F.SESTX_SES_STAT_STATE k 3) P.sestx 4
    else t

/-- The presence bit of node `a` has set: sessions to it that are ABSENT enter SYNC; the probe leaves at the next tick instant. What
has passed without a valid ACK while messages are retained goes on counting (R255). -/
def sesPeerPresent (s : State) (a : Nat) : State :=
  s.each 256 fun t k =>
    if t.tx F.SESTX_SES_CFG_EN k = 1 ∧ t.tx F.SESTX_SES_CFG_DST k = a ∧ t.tx F.SESTX_SES_STAT_STATE k = 3 then
      let t := t.wri P.sestx F.SESTX_SES_STAT_STATE k 1
      let x := txSes t k
      setTx t k { x with rtoDue := t.ticks + 1, ackTick := if x.ret.isEmpty then t.ticks else x.ackTick }
    else t

/-- Last-gasp entry (R261): the receiving sessions freeze, and session frames that still wait for admission never leave. -/
def sesFreeze (s : State) : State :=
  let s := { s with
    ses := { s.ses with frozen := true }
    sw := { s.sw with offers := s.sw.offers.filter fun o => !(o.frame.typ == 5 || o.frame.typ == 6) } }
  let any := (List.range 256).any fun r => s.rx F.SESRX_RSES_CFG_EN r == 1
  raiseIf (s.each 256 fun t r =>
    if t.rx F.SESRX_RSES_CFG_EN r = 1 then t.wri P.sesrx F.SESRX_RSES_STAT_STATE r 2 else t) any P.sesrx 6

/-- A reset release (R254, R260): enabled sending sessions enter SYNC; enabled receiving sessions lose what their queue
held, name it again and owe an ACK. -/
def sesRelease (s : State) : State :=
  let s := { s with ses := { s.ses with frozen := false, loop := [] } }
  s.each 256 fun t k =>
    let t := if t.tx F.SESTX_SES_CFG_EN k = 1 then
        let t := t.wri P.sestx F.SESTX_SES_STAT_STATE k 1
        setTx (setStalled t k false) k { txSes t k with rtoDue := 0, ackTick := t.ticks }
      else t
    if t.rx F.SESRX_RSES_CFG_EN k = 1 then
      let t := (qBind t (rsesQueue t k) 3).2.wri P.sesrx F.SESRX_RSES_STAT_STATE k 1
      let c := t.rx F.SESRX_RSES_CONS_MSEQ k
      let t := t.wri P.sesrx F.SESRX_RSES_NEXT_MSEQ k (serNext c)
      setRx t k { rxSes t k with due := some 0, ackTick := none, ackNext := serNext c, ackCons := c, freshDue := 0 }
    else t

/-! ## Meanings -/

/-- RTO_EXPIRY (R254, R255): RTO ticks of session `k` have passed. -/
def execRtoExpiry (k : Nat) (s : State) : Out :=
  let st := s.tx F.SESTX_SES_STAT_STATE k
  let x := txSes s k
  .next (if s.alive && decide (k < 256) && s.sessionsRun && !s.ses.frozen && s.tx F.SESTX_SES_CFG_EN k == 1 && decide (x.rtoDue ≤ s.ticks) &&
      ((st == 1 && s.holdDone) || (st == 2 && !x.ret.isEmpty)) then
    let s := setTx s k { x with rtoDue := s.ticks + rtoOf s k }
    let rcvd := s.tx F.SESTX_SES_RCVD_MSEQ k
    sesDone (if st = 2 ∧ serLt rcvd (serPrev (s.tx F.SESTX_SES_NEXT_MSEQ k)) then resendFrom s k (serNext rcvd)
      else sendProbe s k)
  else s)

/-- STALL (R255): STALL_TICKS ticks of session `k` have passed without a valid ACK. -/
def execStall (k : Nat) (s : State) : Out :=
  let x := txSes s k
  .next (if s.alive && decide (k < 256) && s.sessionsRun && s.tx F.SESTX_SES_CFG_EN k == 1 &&
      decide (x.ackTick + stallOf s k ≤ s.ticks) && (!x.ret.isEmpty || s.tx F.SESTX_SES_STAT_STATE k == 1) &&
      s.tx F.SESTX_SES_STAT_STALLED k == 0 then
    raise (setStalled s k true) P.sestx 3
  else s)

/-- MSG (R258): a checked MSG frame or probe for this node. -/
def execMsg (f : Frame) (s : State) : Out :=
  .next (if s.alive && s.sessionsRun && f.typ == 5 then sesDone (judgeMsg s f) else s)

/-- ACK_SEND (R259): at a tick instant the ACKs that became due before it leave in ascending RSID order. -/
def execAckSend (s : State) : Out :=
  .next (if s.alive && s.sessionsRun && s.holdDone && !s.ses.frozen then
    sesDone (s.each 256 fun t r =>
      match (rxSes t r).due with
      | some d => if d < t.ticks ∧ t.rx F.SESRX_RSES_CFG_EN r = 1 then sendAck t r false else t
      | none => t)
  else s)

/-- FRESH_ACK_REPEAT (R260): the FRESH ACK of receiving session `r`, first after HOLD_DONE and then every 8 ticks. -/
def execFreshAckRepeat (r : Nat) (s : State) : Out :=
  let x := rxSes s r
  .next (if s.alive && decide (r < 256) && s.sessionsRun && s.holdDone && s.rx F.SESRX_RSES_CFG_EN r == 1 &&
      s.rx F.SESRX_RSES_STAT_NO_HISTORY r == 1 && !x.taken && decide (x.freshDue ≤ s.ticks) then
    sesDone (sendAck s r false)
  else s)

end Sys2Proof.Machine
end

