-- ==== Sys2Proof/Machine/DriftOps.lean ====
section
/-!
DEFINITION. The Drift engine: item records, handoff, adoption, resynchronisation, retirement and actions
(11_item_tracking.md, R295 to R324).
-/

namespace Sys2Proof.Machine

/-! ## The record (R295 to R297) -/

/-- A field of a record: word, lowest bit, width. -/
structure RecFld where
  word  : Nat
  lsb   : Nat
  width : Nat
  deriving DecidableEq, Repr

def R.track : RecFld := ⟨2, 24, 8⟩
def R.state : RecFld := ⟨2, 20, 4⟩
def R.ver : RecFld := ⟨2, 0, 16⟩
def R.owner : RecFld := ⟨3, 20, 12⟩
def R.mirror : RecFld := ⟨3, 8, 12⟩
def R.flags : RecFld := ⟨3, 0, 8⟩
def R.leadLo : RecFld := ⟨4, 0, 32⟩
def R.leadHi : RecFld := ⟨5, 0, 16⟩
def R.prev : RecFld := ⟨5, 20, 12⟩
def R.node (a : Nat) : RecFld := ⟨8 + 4 * a, 20, 12⟩
def R.trigHi (a : Nat) : RecFld := ⟨8 + 4 * a, 0, 16⟩
def R.trigLo (a : Nat) : RecFld := ⟨9 + 4 * a, 0, 32⟩
def R.outref (a : Nat) : RecFld := ⟨10 + 4 * a, 22, 10⟩
def R.pattern (a : Nat) : RecFld := ⟨10 + 4 * a, 0, 16⟩
def R.dur (a : Nat) : RecFld := ⟨11 + 4 * a, 8, 24⟩
def R.retire (a : Nat) : RecFld := ⟨11 + 4 * a, 7, 1⟩
def R.durPos (a : Nat) : RecFld := ⟨11 + 4 * a, 6, 1⟩
def R.result (a : Nat) : RecFld := ⟨11 + 4 * a, 0, 4⟩

/-- A record: 32 words. -/
abbrev Rec := List Nat

/-- Word `k`. -/
def Rec.word (r : Rec) (k : Nat) : Nat := r.getD k 0

/-- Set word `k`. -/
def Rec.setWord (r : Rec) (k v : Nat) : Rec := (List.range 32).map fun i => if i = k then v % 2 ^ 32 else r.getD i 0

/-- A field. -/
def Rec.g (r : Rec) (f : RecFld) : Nat := bitsOf (r.word f.word) f.lsb f.width

/-- Set a field. -/
def Rec.s (r : Rec) (f : RecFld) (v : Nat) : Rec :=
  let w := r.word f.word
  r.setWord f.word (w - bitsOf w f.lsb f.width * 2 ^ f.lsb + v % 2 ^ f.width * 2 ^ f.lsb)

/-- ITEM_ID. -/
def Rec.id (r : Rec) : Nat := r.word 0 + r.word 1 * 2 ^ 32

/-- LEAD_POS, 48 bits. -/
def Rec.lead (r : Rec) : Nat := r.g R.leadLo + r.g R.leadHi * 2 ^ 32

/-- Record states. -/
def RS.free : Nat := 0
def RS.pending : Nat := 1
def RS.owned : Nat := 2
def RS.mirror : Nat := 3
def RS.retired : Nat := 4

/-- Bits of FLAGS. -/
def RFl.doubt : Nat := 1
def RFl.orphan : Nat := 2
def RFl.reported : Nat := 3
def RFl.disc : Nat := 4
def RFl.solo : Nat := 5
def RFl.hoBusy : Nat := 6
def RFl.proxy : Nat := 7

/-- A flag. -/
def Rec.fl (r : Rec) (k : Nat) : Bool := bitOf (r.g R.flags) k

/-- Set a flag. -/
def Rec.setFl (r : Rec) (k : Nat) (b : Bool) : Rec := r.s R.flags (putBit (r.g R.flags) k b)

/-- The 128 bytes. -/
def Rec.bytes (r : Rec) : List Nat := (List.range 32).flatMap fun k => leBytes 4 (r.word k)

/-- A record from 128 bytes. -/
def Rec.ofBytes (l : List Nat) : Rec := (List.range 32).map fun k => leVal (slice l (4 * k) 4)

/-- The CRC that the record should carry (R295). -/
def Rec.crc (r : Rec) : Nat := crc32 (r.setWord 7 0).bytes

/-- The record with its CRC recomputed. -/
def Rec.seal (r : Rec) : Rec := r.setWord 7 r.crc

/-! ## The store -/

/-- The record of a slot; a slot never written is FREE. -/
def recAt (s : State) (i : Nat) : Rec := s.drift.recs.at [] i

/-- A Drift write of a record: CRC is recomputed (R297). -/
def recPut (s : State) (i : Nat) (r : Rec) : State :=
  { s with drift := { s.drift with recs := s.drift.recs.put [] i r.seal } }

/-- What the engine keeps for a slot. -/
def dslot (s : State) (i : Nat) : DriftSlot := s.drift.slots.at {} i

/-- Change it. -/
def setDslot (s : State) (i : Nat) (x : DriftSlot) : State :=
  { s with drift := { s.drift with slots := s.drift.slots.put {} i x } }

/-- Slots that hold a record, in order. -/
def recSlots (s : State) : List Nat := (s.drift.recs.filter fun e => Rec.g e.2 R.state != RS.free).map (·.1)

/-- Slots counted by a state (STORE_STAT). -/
def recCount (s : State) (st : Nat) : Nat := (s.drift.recs.filter fun e => Rec.g e.2 R.state == st).length

/-- Free slots. -/
def freeSlots (s : State) : Nat := 16384 - (recSlots s).length

/-- A free slot; which one the hub takes is open. -/
def takeSlot (s : State) : Option Nat × State :=
  let used := recSlots s
  let l := (List.range 16384).filter fun i => !used.contains i
  let (v, t) := s.draw 32
  if l.isEmpty then (none, s) else (l[v % l.length]?, t)

/-- Drift event `k`. -/
def driftEv (s : State) (k : Nat) : State := raise s P.drift k

/-- Count and raise. -/
def driftCount (s : State) (f : Fld) (k : Nat) : State := countRaise s P.drift f P.drift k

/-- A notice to NOTE_QUEUE (R320). -/
def driftNote (s : State) (kind slot peer id : Nat) : State :=
  let q := s.rd P.drift F.DRIFT_DRIFT_CFG_NOTE_QUEUE
  if q < 112 then s
  else
    let r := qAdmit s q 0 peer kind slot false [] (leBytes 8 id)
    if r.1 then r.2 else r.2.inc P.drift F.DRIFT_CNT_NOTE_LOST_N

/-- End requests. -/
def dropReqs (s : State) (p : DriftReq → Bool) : State :=
  { s with drift := { s.drift with reqs := s.drift.reqs.filter fun q => !p q } }

/-- Set ORPHAN (R315): the record leaves every rule, so its OFFER, COMMIT, SET, RETIRE and QUERY end, and DOUBT is cleared
(R314). -/
def markOrphan (s : State) (i peer : Nat) : State :=
  let r := recAt s i
  if r.fl RFl.orphan then s
  else
    let s := recPut s i ((r.setFl RFl.orphan true).setFl RFl.doubt false)
    let s := dropReqs s fun q => q.slot == i && q.sub != 6 && q.sub != 12
    driftNote (driftCount s F.DRIFT_CNT_ORPHAN_N 9) 9 i peer r.id

/-- Drift reads a record: a CRC that fails makes it ORPHAN (R297). -/
def crcCheck (s : State) (i : Nat) : State :=
  let r := recAt s i
  if r.g R.state = RS.free ∨ r.fl RFl.orphan ∨ r.word 7 = r.crc then s
  else markOrphan (driftCount s F.DRIFT_CNT_CRC_ERR_N 15) i 0xFFF

/-- Drift reads every record it holds. -/
def readStore (s : State) : State := (recSlots s).foldl crcCheck s

/-- Requests of slot `i` that need its record end with it. COMMIT, RELEASE and RESULT carry all they need, so they stay until they
are answered (R304). -/
def endReqs (s : State) (i : Nat) : State :=
  dropReqs s fun q => q.slot == i && q.sub != 4 && q.sub != 6 && q.sub != 12

/-- The slot becomes FREE: only STATE changes in it. Requests that go on are about no slot any more; an armed action keeps its edge
entry (R317). -/
def freeRec (s : State) (i : Nat) : State :=
  let r := recAt s i
  let l := (dslot s i).edges.map fun e =>
    { id := r.id, act := e.1, entry := e.2, track := r.g R.track, owner := r.g R.owner, ver := r.g R.ver : LeftAct }
  let s := endReqs (setDslot (recPut s i (r.s R.state RS.free)) i {}) i
  driftNote { s with drift := { s.drift with
    left := s.drift.left ++ l
    reqs := s.drift.reqs.map fun q => if q.slot = i then { q with slot := 16384 } else q } } 8 i 0xFFF r.id

/-- The slot that holds an item, ORPHAN records apart; the record is read, so its CRC is checked. -/
def findItem (s : State) (id : Nat) : Option Nat × State :=
  let c := (recSlots s).filter fun i => (recAt s i).id == id && !(recAt s i).fl RFl.orphan
  let s := c.foldl crcCheck s
  (c.find? fun i => !(recAt s i).fl RFl.orphan, s)

/-! ## Zones (R298 to R301) -/

/-- The zones slot that serves a track. -/
def zoneSlot (s : State) (track : Nat) : Option Nat :=
  (List.range 8).find? fun k => s.on P.zones (F.ZONES_ZCFG_EN k) && s.tk F.TRACK_TRK_CFG_TRACK k == track

/-- HANDOFF_LEAD within its range. -/
def handoffLead (s : State) (k : Nat) : Nat := max 1 (s.rd P.zones (F.ZONES_ZCFG_HANDOFF_LEAD k))

/-- HO_RETRY, HO_TO, PEND_TO, REOFFER, RESYNC_TO within their ranges. -/
def hoRetry (s : State) : Nat := max 1 (s.rd P.drift F.DRIFT_DRIFT_TMR_HO_RETRY)
def hoTo (s : State) : Nat := max 1 (s.rd P.drift F.DRIFT_DRIFT_TMR_HO_TO)
def pendTo (s : State) : Nat := max 2 (s.rd P.drift F.DRIFT_DRIFT_TMR_PEND_TO)
def reoffer (s : State) : Nat := max 1 (s.rd P.drift F.DRIFT_DRIFT_TMR_REOFFER)
def resyncTo (s : State) : Nat := max 16 (s.rd P.drift F.DRIFT_DRIFT_TMR2_RESYNC_TO)

/-- Chain entry `j` of slot `k`: owner and START; none where not valid. -/
def chainEnt (s : State) (k j : Nat) : Option (Nat × Int) :=
  if s.on P.zones (F.ZONES_CHAIN_HI_VALID k j) then
    some (s.rd P.zones (F.ZONES_CHAIN_HI_OWNER k j),
      ((s.rd P.zones (F.ZONES_CHAIN_LO_START k j) + s.rd P.zones (F.ZONES_CHAIN_HI_START k j) * 2 ^ 32 : Nat) : Int))
  else none

/-- START of the next valid entry after `j`: the end of zone `j`. -/
def zoneEnd (s : State) (k j : Nat) : Option Int :=
  (((List.range 8).filter fun i => decide (j < i)).findSome? (chainEnt s k)).map (·.2)

/-- CHAIN_BAD of slot `k` is judged (R299). -/
def judgeZone (s : State) (k : Nat) : State :=
  let en := s.on P.zones (F.ZONES_ZCFG_EN k)
  let bad := en && (((chainEnt s k 3).map (·.1)) != some s.own || (chainEnt s k 4).isNone || !slotEnabled s k)
  let was := s.on P.zones (F.ZONES_ZSTAT_CHAIN_BAD k)
  raiseIf (s.wr P.zones (F.ZONES_ZSTAT_CHAIN_BAD k) (b2n bad)) (bad && !was) P.drift 16

/-- Every slot is judged. -/
def judgeZones (s : State) : State := s.each 8 judgeZone

/-- The relation of R301 is evaluated for slot `k`: when the slot is enabled and after a change of the tick length. -/
def judgeLead (s : State) (k : Nat) : State :=
  let short := s.on P.zones (F.ZONES_ZCFG_EN k) && decide (handoffLead s k * 1000000 <
    s.rd P.zones (F.ZONES_ZCFG2_VMAX k) * (horizon s + hoTo s) * s.tickL)
  raiseIf (s.wr P.zones (F.ZONES_ZSTAT_LEAD_SHORT k) (b2n short)) short P.drift 16

/-- The slot works: enabled and not in error. -/
def zoneOk (s : State) (k : Nat) : Bool := s.on P.zones (F.ZONES_ZCFG_EN k) && !s.on P.zones (F.ZONES_ZSTAT_CHAIN_BAD k)

/-- lead(t) of a record on slot `k` at ring time now, µm in [0, M); none without a model. -/
def leadOf (s : State) (k : Nat) (r : Rec) : Option Int :=
  (posAt s k s.now).map fun p => (p - (r.lead : Int)) % ((trkMod s k : Nat) : Int)

/-- A node is available (R300). -/
def available (s : State) (a : Nat) : Bool :=
  a != s.own && a != 0xFFF && present s a &&
    (match s.drift.refused.at 0 a with
      | 0 => true
      | n + 1 => decide (n + reoffer s < s.ticks))

/-- What R300 names as the next owner. -/
inductive NextOwner where
  | keep
  | finish (start : Int)
  | to (a : Nat) (point : Int)
  deriving DecidableEq, Repr

/-- The next owner of a record of slot `i` with its lead at `l` on track slot `k` (R300). -/
def nextOwner (s : State) (k i : Nat) (l : Int) : NextOwner :=
  let hl : Int := (handoffLead s k : Nat)
  let step := fun (b : NextOwner × Bool) (j : Nat) =>
    if b.2 then b
    else match chainEnt s k j with
      | none => b
      | some (a, st) =>
        if a = 0xFFF then (.finish st, true)
        else
          let far := match zoneEnd s k j with
            | none => true
            | some e => decide (0 < distUm s k e (l + hl))
          if available s a && !(dslot s i).skip.contains a && far then (.to a (st - hl), true) else b
  (([4, 5, 6, 7]).foldl step (.keep, false)).1

/-- The mirror target (R303). -/
def mirrorTarget (s : State) (k : Nat) : Option Nat :=
  ([2, 1, 0, 4, 5, 6, 7]).findSome? fun j =>
    (chainEnt s k j).bind fun e => if available s e.1 then some e.1 else none

/-! ## Frames and requests (R304) -/

/-- Drift sends and answers nothing while STOP = 1, and outside the states that R60 gives it. -/
def driftOn (s : State) : Bool := (s.working || s.st == NS.join) && !s.stopReq P.drift

/-- Drift owns zones in RUN and COAST (R60). -/
def driftOwns (s : State) : Bool := s.isIn [NS.run, NS.coast]

/-- A Drift frame. -/
def driftFrame (sub dst ver track code hstate howner : Nat) (pay : List Nat) : Frame :=
  { typ := 7, cls := 6, reach := 0x3FF, dst := dst, w3 := ver % 65536 * 2 ^ 16 + track % 256 * 2 ^ 8,
    w4 := sub * 2 ^ 24 + code % 16 * 2 ^ 20 + hstate % 16 * 2 ^ 16 + howner % 4096, pay := pay }

/-- Send a Drift frame through port 11. -/
def driftSend (s : State) (f : Frame) : State := if driftOn s then originate s 11 f else s

/-- The record that an OFFER or a SET carries now: as it is, of a RETIRED one as it stood at step 1 (R316), since its LEAD_POS has
become the report's MSEQ. -/
def sentRec (s : State) (i : Nat) : Rec :=
  match (dslot s i).report with
  | some x => if (recAt s i).g R.state = RS.retired then x.2.2 else recAt s i
  | none => recAt s i

/-- The frame of a request now. -/
def reqFrame (s : State) (q : DriftReq) : Frame :=
  let pay := if q.sub = 1 ∨ q.sub = 7 then (sentRec s q.slot).bytes
    else if q.sub = 12 then leBytes 8 q.id ++ leBytes 4 (q.act * 2 ^ 16 + q.res)
    else leBytes 8 q.id
  let ver := if q.sub = 1 ∨ q.sub = 7 then (recAt s q.slot).g R.ver else q.ver
  driftFrame q.sub q.dst ver q.track 0 0 0 pay

/-- Outstanding requests of a kind for a slot. -/
def reqsOf (s : State) (i sub : Nat) : List DriftReq := s.drift.reqs.filter fun q => q.slot == i && q.sub == sub

/-- Start a request: it is sent and waits for its answer. -/
def startReq (s : State) (q : DriftReq) : State :=
  driftSend { s with drift := { s.drift with reqs := s.drift.reqs ++ [q] } } (reqFrame s q)

/-- Start a request about the record of slot `i`; one of the same kind for the same action is replaced. -/
def request (s : State) (i sub dst : Nat) (act res : Nat := 0) (prev : Nat := 0xFFF) : State :=
  let r := recAt s i
  startReq (dropReqs s fun x => x.slot == i && x.sub == sub && x.act == act && x.id == r.id)
    { id := r.id, slot := i, sub := sub, dst := dst, track := r.g R.track, ver := r.g R.ver, act := act, res := res, prev := prev,
      first := s.ticks, last := s.ticks }

/-- Answer a frame about slot `i`, none where the item is not held. -/
def answerTo (s : State) (f : Frame) (sub code : Nat) (i : Option Nat) : State :=
  let r := match i with
    | some i => recAt s i
    | none => []
  driftSend s (driftFrame sub f.src (r.g R.ver) (f.w3 / 2 ^ 8 % 256) code (r.g R.state) (r.g R.owner) (slice f.pay 0 8))

/-- ITEM_ID of a Drift frame. -/
def frameId (f : Frame) : Nat := leVal (slice f.pay 0 8)

/-- VERSION of a Drift frame. -/
def frameVer (f : Frame) : Nat := f.w3 / 2 ^ 16 % 65536

/-- CODE, HSTATE and HOWNER of a Drift frame. -/
def frameCode (f : Frame) : Nat := f.w4 / 2 ^ 20 % 16
def frameHState (f : Frame) : Nat := f.w4 / 2 ^ 16 % 16
def frameHOwner (f : Frame) : Nat := f.w4 % 4096

/-! ## Versions, mirrors and actions -/

/-- One more VERSION. -/
def Rec.up (r : Rec) : Rec := r.s R.ver (r.g R.ver + 1)

/-- The induction of the record of slot `i` is committed (R303): OP_RES of its initiator, the count, the event and the notice. -/
def inductOk (s : State) (i peer : Nat) : State :=
  match (dslot s i).ini with
  | none => s
  | some n =>
    let r := recAt s i
    let s := setDslot s i { dslot s i with ini := none }
    let s := if s.rdi P.drift F.DRIFT_OP_RES_STATUS n = 1 ∧ s.rdi P.drift F.DRIFT_OP_RES_SLOT n = i then
      (s.wri P.drift F.DRIFT_OP_RES_STATUS n 2).wri P.drift F.DRIFT_OP_VER_VERSION n (r.g R.ver) else s
    driftNote (driftCount s F.DRIFT_CNT_INDUCT_N 0) 1 i peer r.id

/-- Send the record to its mirror, or look for one where there is none (R303, R312, R318). An induction whose record stays without
one is OK at once. -/
def mirrorSend (s : State) (i : Nat) : State :=
  let r := recAt s i
  if r.g R.state ≠ RS.owned ∨ r.fl RFl.orphan then s
  else if r.g R.mirror ≠ 0xFFF then request s i 7 (r.g R.mirror)
  else
    match (zoneSlot s (r.g R.track)).bind (mirrorTarget s) with
    | some a => request s i 7 a
    | none => inductOk (if r.fl RFl.solo then s else recPut s i (r.setFl RFl.solo true)) i 0xFFF

/-- A record without a mirror sends SET as soon as a target is available (R303). -/
def mirrorSeek (s : State) (i : Nat) : State :=
  let s := crcCheck s i
  let r := recAt s i
  if r.g R.state = RS.owned ∧ !r.fl RFl.doubt ∧ r.g R.mirror = 0xFFF ∧ (reqsOf s i 7).isEmpty then mirrorSend s i else s

/-- The owner changes its record (R297, R318): VERSION goes up and the mirror is told. -/
def ownerChange (s : State) (i : Nat) (r : Rec) : State := mirrorSend (recPut s i r.up) i

/-- The ACTION notice of action `a` of the record of slot `i` (R320). -/
def actionNote (s : State) (i a : Nat) : State := driftNote s 6 i ((recAt s i).g (R.node a)) (recAt s i).id

/-- Actions of node `x` that are PENDING or ARMED become MISSED (R310); true if any did. -/
def missActions (s : State) (i x : Nat) : Bool × State :=
  ([0, 1, 2, 3]).foldl (fun b a =>
    let r := recAt b.2 i
    if r.g (R.node a) = x ∧ (r.g (R.result a) = 1 ∨ r.g (R.result a) = 2) then
      (true, actionNote (driftCount (recPut b.2 i (r.s (R.result a) 5)) F.DRIFT_CNT_MISSED_N 6) i a)
    else b) (false, s)

/-- Release the edge entry of an action (R319): its uncommitted edges end, unreported. -/
def releaseAction (s : State) (i a : Nat) : State :=
  match (dslot s i).edges.find? fun e => e.1 == a with
  | none => s
  | some (_, n) =>
    let quiet := { s with edge := { s.edge with edges := s.edge.edges.map fun e =>
      if e.entry = n ∧ e.open then { e with action := none } else e } }
    edgesRelease (setDslot quiet i { dslot quiet i with edges := (dslot quiet i).edges.filter fun e => e.1 != a }) n

/-- Arm one action of an owned record on a pool entry (R317, R328). -/
def armAction (s : State) (i a : Nat) : State :=
  let r := recAt s i
  let base := s.rd P.drift F.DRIFT_ACT_POOL_ACT_BASE
  let pool := (List.range (s.rd P.drift F.DRIFT_ACT_POOL_ACT_COUNT)).map (base + ·)
  let tmpl := entOf s (r.g (R.outref a))
  let fail := fun (t : State) => actionNote (ownerChange t i ((recAt t i).s (R.result a) 6)) i a
  match pool.find? fun n => decide (n < 1024) && entState s n == 0, zoneSlot s (r.g R.track) with
  | some n, some k =>
    let t := setEnt s n { tmpl with leaving := false, irq := false, last := 0, lastNs := 0 }
    let o : ArmOp := { pos := true, slot := k, durPos := r.g (R.durPos a) == 1,
                       trig := toSigned 48 (r.g (R.trigLo a) + r.g (R.trigHi a) * 2 ^ 32),
                       pattern := r.g (R.pattern a), dur := r.g (R.dur a) }
    let t := setDslot t i { dslot t i with edges := (a, n) :: (dslot t i).edges.filter fun e => e.1 != a }
    let t := recPut t i (r.s (R.result a) 2)
    let c := armChecked t n o (some (r.id, a)) (2 * t.now)
    if c.1 = EC.ok then c.2
    else fail (setDslot (setEnt c.2 n {}) i (dslot s i))
  | _, _ => fail s

/-- An owner arms its own pending actions (R317). -/
def armActions (s : State) (i : Nat) : State :=
  ([0, 1, 2, 3]).foldl (fun t a =>
    let t := crcCheck t i
    let r := recAt t i
    if r.g R.state = RS.owned ∧ !r.fl RFl.orphan ∧ !r.fl RFl.doubt ∧ r.g (R.node a) = t.own ∧ r.g (R.result a) = 1 ∧ t.working ∧
        !t.stopReq P.drift then
      armAction t i a
    else t) s

/-! ## Retirement (R316) -/

/-- RELEASE about the item of slot `i` to node `a`. -/
def releaseTo (s : State) (i a : Nat) : State := request s i 6 a

/-- RELEASE of the former mirror holder that an answered COMMIT names (R305, step 5), also where the copy has been freed. -/
def releasePrev (s : State) (q : DriftReq) : State :=
  startReq s { q with sub := 6, dst := q.prev, prev := 0xFFF, first := s.ticks, last := s.ticks }

/-- Step 4: the report is accepted work. -/
def retireDone (s : State) (i : Nat) : State :=
  let r := recAt s i
  let s := if r.g R.mirror ≠ 0xFFF then releaseTo s i (r.g R.mirror) else s
  let s := driftNote (driftCount s F.DRIFT_CNT_RETIRE_N 7) 7 i (r.g R.mirror) r.id
  freeRec s i

/-- The report's 144 bytes; reason and time of a report that a warm reset has cut off from step 1 are open. -/
def reportBytes (s : State) (i : Nat) : List Nat × State :=
  let r := recAt s i
  match (dslot s i).report with
  | some (reason, t, snap) => (leBytes 4 (reason * 2 ^ 24 + s.own) ++ leBytes 4 0 ++ leBytes 8 t ++ Rec.bytes snap, s)
  | none =>
    let (reason, s) := s.draw 8
    let (t, s) := s.draw 64
    (leBytes 4 (reason * 2 ^ 24 + s.own) ++ leBytes 4 0 ++ leBytes 8 t ++ r.bytes, s)

/-- The push checks of the Drift engine: state, SYNCING, FULL and cells (R316, R252). -/
def reportFits (s : State) (k : Nat) : Bool :=
  s.sessionsRun && !s.ses.frozen && s.tx F.SESTX_SES_CFG_EN k == 1 && s.tx F.SESTX_SES_STAT_FRESH k == 0 &&
    decide ((txSes s k).ret.length < 64) &&
    decide ((s.rd P.pool F.CELLPOOL_POOL_CFG_POOL_RESERVE : Int) ≤ sharedFree s - (msgCells 144 : Int))

/-- Step 3, or its retry: push the report. -/
def retireReport (s : State) (i : Nat) : State :=
  let r := recAt s i
  match zoneSlot s (r.g R.track) with
  | none => s
  | some k =>
    let k := s.rd P.zones (F.ZONES_ZCFG2_RET_SES k)
    if r.fl RFl.reported || !driftOn s || !reportFits s k then s
    else
      let (b, s) := reportBytes s i
      let (m, s) := retainMsg s k b
      recPut s i (((recAt s i).setFl RFl.reported true).s R.leadLo m)

/-- Steps 3 and 4 of a RETIRED record that this node owns, when they are due. DESIGN CHOICE (log 106): a SET that is not yet
acknowledged at step 1 is resent until it is (R304), and the retirement waits for it, since its ACK names the holder. -/
def retireProceed (s : State) (i : Nat) : State :=
  let s := crcCheck s i
  let r := recAt s i
  if r.g R.state ≠ RS.retired ∨ r.fl RFl.orphan ∨ r.fl RFl.doubt ∨ r.g R.owner ≠ s.own ∨ !(reqsOf s i 8).isEmpty ∨
      !(reqsOf s i 7).isEmpty then s
  else
    let s := retireReport s i
    let r := recAt s i
    match zoneSlot s (r.g R.track) with
    | some z =>
      let k := s.rd P.zones (F.ZONES_ZCFG2_RET_SES z)
      if r.fl RFl.reported && serLe (r.g R.leadLo) (s.tx F.SESTX_SES_RCVD_MSEQ k) then retireDone s i else s
    | none => s

/-- Every due report (R316): at a tick instant and when an ACK arrives. -/
def driftReports (s : State) : State := (recSlots s).foldl retireProceed s

/-- Withdraw an OFFER (R305, R319). -/
def withdraw (s : State) (i : Nat) : State :=
  let s := dropReqs s fun q => q.slot == i && q.sub == 1
  if (recAt s i).fl RFl.hoBusy then recPut s i ((recAt s i).setFl RFl.hoBusy false) else s

/-- Step 1 of a retirement with its reason: 1 DIVERT, 2 END, 3 FIRMWARE. -/
def retireStart (s : State) (i reason : Nat) : State :=
  let s := withdraw s i
  let s := ([0, 1, 2, 3]).foldl (fun t a =>
    let r := recAt t i
    if r.g (R.result a) = 1 ∨ r.g (R.result a) = 2 then
      let t := if r.g (R.node a) = t.own ∧ r.g (R.result a) = 2 then releaseAction t i a else t
      actionNote (recPut t i ((recAt t i).s (R.result a) 7)) i a
    else t) s
  let s := recPut s i ((recAt s i).s R.state RS.retired)
  let s := setDslot s i { dslot s i with report := some (reason, s.now, recAt s i) }
  let m := (recAt s i).g R.mirror
  if m ≠ 0xFFF then request s i 8 m else retireProceed s i

/-! ## Results (R317) -/

/-- A result of action `a` at the owner: written once, VERSION and the mirror follow; a DONE with RETIRE = 1 retires. A record in
DOUBT is owned by nobody here (R314). -/
def ownResult (s : State) (i a code : Nat) : State :=
  let r := recAt s i
  if r.fl RFl.doubt ∨ r.g (R.result a) = code then s
  else
    let s := actionNote (ownerChange s i (r.s (R.result a) code)) i a
    if code = 3 ∧ r.g (R.retire a) = 1 then retireStart s i 1 else s

/-- Drift RESULT of an edge completion (R341). -/
def edgeToResult (r : Nat) : Nat :=
  match r with
  | 1 => 3 | 2 => 4 | 3 => 4 | 4 => 7 | 5 => 6 | _ => 5

/-- The pool entry of an armed action goes back, of a copy held or of one that has been freed. -/
def actionEntryEnd (s : State) (id a : Nat) : State :=
  let held := (recSlots s).findSome? fun i =>
    if (recAt s i).id == id then ((dslot s i).edges.find? fun e => e.1 == a).map fun e => (i, e.2) else none
  match held, s.drift.left.find? fun l => l.id == id && l.act == a with
  | some (i, n), _ => edgesRelease (setDslot s i { dslot s i with edges := (dslot s i).edges.filter fun e => e.1 != a }) n
  | none, some l => edgesRelease { s with drift := { s.drift with left := s.drift.left.erase l } } l.entry
  | none, none => s

/-- The executing node has a result (R317): written where it owns the record, else sent to the OWNER that its copy names, also when
the copy has been freed. -/
def actionResult (s : State) (id a r : Nat) : State :=
  let was := s.drift.left.find? fun l => l.id == id && l.act == a
  let o := findItem (actionEntryEnd s id a) id
  let s := o.2
  match o.1, was with
  | some i, _ =>
    let st := (recAt s i).g R.state
    if st = RS.owned then ownResult s i a (edgeToResult r)
    else if st = RS.retired ∧ (recAt s i).g R.owner = s.own then s
    else request s i 12 ((recAt s i).g R.owner) a (edgeToResult r)
  | none, some l =>
    if l.owner = s.own then s
    else startReq s { id := id, slot := 16384, sub := 12, dst := l.owner, track := l.track, ver := l.ver, act := a,
                      res := edgeToResult r, first := s.ticks, last := s.ticks }
  | none, none => s

/-- Take the completions that the edge scheduler has for Drift. Taking one can complete further edges, so it goes in rounds. -/
def driftDrain : Nat → State → State
  | 0, s => s
  | fuel + 1, s =>
    if s.edge.results.isEmpty then s
    else
      let l := s.edge.results
      let s := { s with edge := { s.edge with results := [] } }
      driftDrain fuel (l.foldl (fun t x => actionResult t x.1 x.2.1 x.2.2) s)

/-- Completions go to their records. -/
def settleEdges (s : State) : State := driftDrain 64 s

/-! ## Handoff (R304 to R309) -/

/-- The handoff of slot `i` to `b` fails (R305). A refusal with STATE leaves `b` to REOFFER (R300); else `b` stays unavailable for
the record until it has been absent and is present again. -/
def handoffFail (s : State) (i b : Nat) (state : Bool) : State :=
  let s := withdraw s i
  let s := recPut s i ((recAt s i).setFl RFl.proxy true)
  let s := if state then s else setDslot s i { dslot s i with skip := b :: (dslot s i).skip }
  let s := driftCount s F.DRIFT_CNT_SKIP_N 5
  let m := missActions s i b
  let s := if m.1 then ownerChange m.2 i (recAt m.2 i) else m.2
  driftNote s 5 i b (recAt s i).id

/-- Store slots of the records owned on track slot `k`: not ORPHAN, and not in DOUBT (R314, R315). -/
def ownsOn (s : State) (k : Nat) : List Nat :=
  (recSlots s).filter fun i =>
    let r := recAt s i
    r.g R.state == RS.owned && !r.fl RFl.orphan && !r.fl RFl.doubt && zoneSlot s (r.g R.track) == some k

/-- Records owned on slot `k` whose lead the model gives, furthest ahead first: (lead, slot). -/
def ownedBy (s : State) (k : Nat) : List (Int × Nat) :=
  let st : Int := ((chainEnt s k 3).map (·.2)).getD 0
  let l := (ownsOn s k).filterMap fun i => (leadOf s k (recAt s i)).map fun l => (distUm s k l st, l, i)
  (l.foldl ins []).map (·.2)
where
  /-- Insert by descending distance from the zone's start. -/
  ins (l : List (Int × Int × Nat)) (x : Int × Int × Nat) : List (Int × Int × Nat) :=
    l.takeWhile (fun y => decide (x.1 ≤ y.1)) ++ x :: l.dropWhile (fun y => decide (x.1 ≤ y.1))

/-- A SET, RESULT or RETIRE of the record is unacknowledged (R309). -/
def unacked (s : State) (i : Nat) : Bool :=
  s.drift.reqs.any fun q => q.slot == i && q.id == (recAt s i).id && (q.sub == 7 || q.sub == 12 || q.sub == 8)

/-- The handoff check of slot `k` at T(n) + W (R300, R309, R316): items in lead order, one OFFER for each next owner, which an item
between OFFER and ACCEPT has already, wherever it stands in that order. -/
def handoffCheck (s : State) (k : Nat) : State :=
  let busy := (s.drift.reqs.filter fun q => q.sub == 1 && zoneSlot s q.track == some k).map (·.dst)
  let r := (ownedBy s k).foldl (fun (b : List Nat × Bool × State) (x : Int × Nat) =>
    let t := crcCheck b.2.2 x.2
    let r := recAt t x.2
    if r.fl RFl.orphan || r.g R.state != RS.owned then (b.1, b.2.1, t)
    else if r.fl RFl.hoBusy then (b.1, b.2.1, t)
    else match nextOwner t k x.2 x.1 with
      | .keep => (b.1, true, t)
      | .finish st => if 0 ≤ distUm t k x.1 st then (b.1, b.2.1, retireStart t x.2 2) else (b.1, b.2.1, t)
      | .to a pt =>
        if b.1.contains a then (b.1, b.2.1, t)
        else if 0 ≤ distUm t k x.1 pt ∧ !unacked t x.2 ∧ !t.on P.zones (F.ZONES_ZSTAT_HOLDING k) then
          (a :: b.1, b.2.1, request (recPut t x.2 (r.setFl RFl.hoBusy true)) x.2 1 a)
        else (a :: b.1, b.2.1, t)) (busy, false, s)
  let s := r.2.2
  let was := s.on P.zones (F.ZONES_ZSTAT_CHAIN_END k)
  raiseIf (s.wr P.zones (F.ZONES_ZSTAT_CHAIN_END k) (b2n r.2.1)) (r.2.1 && !was) P.drift 12

/-- HOLDING of slot `k` (R321). -/
def judgeHolding (s : State) (k : Nat) : State :=
  let h := s.on P.zones (F.ZONES_ZCFG_EN k) && trkState s k != 2 && trkState s k != 3
  let was := s.on P.zones (F.ZONES_ZSTAT_HOLDING k)
  raiseIf (s.wr P.zones (F.ZONES_ZSTAT_HOLDING k) (b2n h)) (h && !was) P.drift 14

/-! ## The resynchronisation's end (R314) -/

/-- Kept, or freed, by the resynchronisation. -/
def resyncKeep (s : State) (i : Nat) : State :=
  (recPut s i ((recAt s i).setFl RFl.doubt false)).inc P.drift F.DRIFT_CNT_RESYNC_KEPT_N
def resyncFree (s : State) (i : Nat) : State := freeRec (s.inc P.drift F.DRIFT_CNT_RESYNC_FREED_N) i

/-- Records still in doubt. -/
def doubtful (s : State) : List Nat := (recSlots s).filter fun i => (recAt s i).fl RFl.doubt

/-- RESYNC_DONE when every record has been judged. -/
def resyncJudge (s : State) : State :=
  if s.drift.resync && (doubtful s).isEmpty then
    driftEv ({ s with drift := { s.drift with resync := false } }.wr P.drift F.DRIFT_STORE_STAT3_RESYNC_DONE 1) 10
  else s

/-! ## Received frames -/

/-- A copy received in an OFFER or a SET replaces what slot `i` holds; armed actions keep their edge entries (R317). -/
def putCopy (s : State) (i st : Nat) (r : Rec) : State :=
  let x := (((r.s R.state st).setFl RFl.hoBusy false).setFl RFl.orphan false).setFl RFl.doubt false
  let s := recPut (endReqs s i) i x
  setDslot s i { edges := (dslot s i).edges, pend := s.ticks }

/-- The answered request: the record it is about is read (R297), and a request that ends with it is none. -/
def answered (s : State) (p : DriftReq → Bool) : Option DriftReq × State :=
  match s.drift.reqs.find? p with
  | none => (none, s)
  | some q =>
    let s := if q.slot < 16384 then resyncJudge (crcCheck s q.slot) else s
    (s.drift.reqs.find? (· == q), s)

/-- OFFER (R306). -/
def onOffer (s : State) (f : Frame) : State :=
  let r := Rec.ofBytes f.pay
  let refuse := fun (t : State) (code : Nat) (i : Option Nat) => answerTo t f 3 code i
  let take := fun (t : State) (i : Nat) => answerTo (putCopy t i RS.pending r) f 2 0 (some i)
  let o := findItem s r.id
  let s := o.2
  if !driftOwns s || !s.on P.drift F.DRIFT_STORE_STAT3_RESYNC_DONE then refuse s 1 o.1
  else match zoneSlot s (r.g R.track) with
    | none => refuse s 4 o.1
    | some k =>
      if !zoneOk s k then refuse s 4 o.1
      else
        match o.1 with
        | some i =>
          let h := recAt s i
          if h.g R.state = RS.owned then refuse s 3 (some i)
          else if h.g R.state = RS.retired ∧ r.g R.ver ≤ h.g R.ver then refuse s 3 (some i)
          else if h.g R.owner ≠ f.src ∧ r.g R.ver ≤ h.g R.ver then refuse s 3 (some i)
          else take s i
        | none =>
          match takeSlot s with
          | (some i, t) => take (setDslot t i {}) i
          | (none, t) => refuse t 2 none

/-- The request of SUBTYPE `sub` about the frame's item that is outstanding at its sender. -/
def askedOf (s : State) (f : Frame) (sub : Nat) : Option DriftReq × State :=
  answered s fun q => q.sub == sub && q.dst == f.src && q.id == frameId f

/-- ACCEPT (step 3). -/
def onAccept (s : State) (f : Frame) : State :=
  let o := askedOf s f 1
  let s := o.2
  match o.1 with
  | none => s
  | some q =>
    let i := q.slot
    let s := withdraw s i
    let r := recAt s i
    let m := r.g R.mirror
    -- the former mirror holder is released when DONE answers
    let r := ((((r.s R.state RS.mirror).s R.owner f.src).s R.prev m).s R.mirror s.own).up
    let s := recPut s i ((r.setFl RFl.proxy false).setFl RFl.solo false)
    request (dropReqs s fun q => q.slot == i && q.sub == 7) i 4 f.src 0 0 m

/-- REFUSE (R305, R307, R300). -/
def onRefuse (s : State) (f : Frame) : State :=
  let o := askedOf s f 1
  let s := o.2
  match o.1 with
  | none => s
  | some q =>
    let i := q.slot
    let code := frameCode f
    if code = 3 then
      let s := withdraw s i
      let id := (recAt s i).id
      let s := driftCount s F.DRIFT_CNT_HELD_N 8
      freeRec (driftNote s 10 i f.src id) i
    else
      let s := if code = 1 then { s with drift := { s.drift with refused := s.drift.refused.put 0 f.src (s.ticks + 1) } } else s
      handoffFail s i f.src (code == 1)

/-- COMMIT (R308, step 4). -/
def onCommit (s : State) (f : Frame) : State :=
  let o := findItem s (frameId f)
  let s := o.2
  match o.1 with
  | none => answerTo s f 5 1 none
  | some i =>
    let r := recAt s i
    if r.g R.state = RS.pending ∧ r.g R.ver + 1 = frameVer f then
      let r := ((((r.s R.state RS.owned).s R.owner s.own).s R.mirror f.src).s R.prev 0xFFF).up
      let r := (r.setFl RFl.proxy false).setFl RFl.solo false
      let s := answerTo (recPut s i r) f 5 0 (some i)
      let s := driftCount s F.DRIFT_CNT_HO_IN_N 2
      let s := driftNote s 2 i f.src r.id
      settleEdges (armActions s i)
    else if frameVer f ≤ r.g R.ver then answerTo s f 5 0 (some i)
    else answerTo s f 5 1 (some i)

/-- DONE (R305, R308, step 5). -/
def onDone (s : State) (f : Frame) : State :=
  let o := askedOf s f 4
  let s := o.2
  match o.1 with
  | none => s
  | some q =>
    let i := q.slot
    let s := dropReqs s (· == q)
    let r := recAt s i
    let held := r.id == q.id && r.g R.state != RS.free
    if frameCode f = 0 then
      let s := driftNote (driftCount s F.DRIFT_CNT_HO_OUT_N 3) 3 i f.src q.id
      if q.prev = 0xFFF then s
      else if q.prev ≠ f.src then releasePrev s q
      else if held ∧ r.g R.prev = f.src then recPut s i (r.s R.prev 0xFFF)
      else s
    else if held ∧ r.g R.state = RS.mirror ∧ r.g R.owner = f.src then
      let p := r.g R.prev
      let r := ((((r.s R.state RS.owned).s R.owner s.own).s R.mirror (if p = f.src then 0xFFF else p)).s R.prev 0xFFF).up
      let s := driftNote ((recPut s i r).inc P.drift F.DRIFT_CNT_UNKNOWN_N) 2 i f.src r.id
      settleEdges (armActions (mirrorSend s i) i)
    else s

/-- RELEASE (step 6): the holder's copy is freed unless it owns the item or holds a newer one. -/
def onRelease (s : State) (f : Frame) : State :=
  let o := findItem s (frameId f)
  let s := match o.1 with
    | some i =>
      let r := recAt o.2 i
      if (r.g R.state = RS.mirror ∨ r.g R.state = RS.retired) ∧ r.g R.ver ≤ frameVer f then resyncJudge (freeRec o.2 i) else o.2
    | none => o.2
  answerTo s f 9 6 ((findItem s (frameId f)).1)

/-- SET (R313). -/
def onSet (s : State) (f : Frame) : State :=
  let r := Rec.ofBytes f.pay
  let put := fun (t : State) (i : Nat) => putCopy t i RS.mirror r
  let o := findItem s r.id
  let s := o.2
  let s := match o.1 with
    | none =>
      match takeSlot s with
      | (some i, t) => put (setDslot t i {}) i
      | (none, t) => t
    | some i =>
      let h := recAt s i
      if h.g R.state = RS.owned ∧ h.g R.ver ≤ r.g R.ver ∧ r.g R.owner = f.src then
        driftNote (driftCount (put s i) F.DRIFT_CNT_HELD_N 8) 10 i f.src r.id
      else if h.g R.ver < r.g R.ver then put s i
      else s
  let s := resyncJudge s
  answerTo s f 9 7 ((findItem s r.id).1)

/-- RETIRE (R316, step 2). -/
def onRetire (s : State) (f : Frame) : State :=
  let o := findItem s (frameId f)
  let s := match o.1 with
    | some i =>
      let r := recAt o.2 i
      if r.g R.state = RS.mirror ∨ r.g R.state = RS.pending then recPut o.2 i (r.s R.state RS.retired) else o.2
    | none => o.2
  answerTo s f 9 8 ((findItem s (frameId f)).1)

/-- The ACK of a SET (R303, R312, R313). The holder that it names to a record RETIRED meanwhile is told to retire its copy (R316). A MIRROR of a lower VERSION answers an earlier SET, not this one; every other ACK ends the
request, and a node that holds no mirror is not MIRROR any more. -/
def setAcked (s : State) (q : DriftReq) (f : Frame) : State :=
  let i := q.slot
  let r := recAt s i
  let out := r.g R.state == RS.retired
  if frameHState f = RS.mirror ∧ frameVer f < r.g R.ver then s
  else
    let s := dropReqs s (· == q)
    if frameVer f = r.g R.ver ∧ (frameHState f = RS.mirror ∨ (out ∧ frameHState f = RS.retired)) then
      let s := inductOk (recPut s i ((r.s R.mirror f.src).setFl RFl.solo false)) i f.src
      if !out then s
      else if r.g R.mirror ≠ f.src ∧ frameHState f = RS.mirror then request s i 8 f.src
      else retireProceed s i
    else if r.g R.ver < frameVer f ∧ frameHOwner f ≠ s.own then
      freeRec (driftNote (driftEv s 8) 10 i f.src r.id) i
    else if r.g R.mirror = f.src then recPut s i (r.s R.mirror 0xFFF)
    else s

/-- ACK (R304): CODE names the request. -/
def onAck (s : State) (f : Frame) : State :=
  let o := askedOf s f (frameCode f)
  let s := o.2
  match o.1 with
  | none => s
  | some q =>
    if q.sub = 7 then setAcked s q f
    else if q.sub = 6 then
      let s := dropReqs s (· == q)
      let r := recAt s q.slot
      if r.id = q.id ∧ r.g R.state ≠ RS.free ∧ r.g R.prev = f.src then recPut s q.slot (r.s R.prev 0xFFF) else s
    else if q.sub = 8 then retireProceed (dropReqs s (· == q)) q.slot
    else if q.sub = 12 then
      let s := dropReqs s (· == q)
      -- the item has moved on: the result follows it
      if frameHState f ≠ RS.owned ∧ frameHState f ≠ RS.free ∧ frameHState f ≠ RS.retired ∧ frameHOwner f ≠ f.src ∧
          frameHOwner f ≠ s.own then
        startReq s { q with dst := frameHOwner f, first := s.ticks, last := s.ticks }
      else s
    else s

/-- QUERY (R314): CODE 1 says that the answering copy names the asker as its mirror. -/
def onQuery (s : State) (f : Frame) : State :=
  let o := findItem s (frameId f)
  let named := match o.1 with
    | some i => (recAt o.2 i).g R.mirror == f.src
    | none => false
  answerTo o.2 f 11 (b2n named) o.1

/-- RESULT (R317). -/
def onResult (s : State) (f : Frame) : State :=
  let o := findItem s (frameId f)
  let w := leVal (slice f.pay 8 4)
  let s := match o.1 with
    | some i => if (recAt o.2 i).g R.state = RS.owned then ownResult o.2 i (w / 2 ^ 16 % 4) (w % 16) else o.2
    | none => o.2
  settleEdges (answerTo s f 9 12 ((findItem s (frameId f)).1))

/-! ## Absence and adoption (R305, R310, R312) -/

/-- What the absence of `x` does to the record of slot `i`. It stays to be judged for a record in DOUBT, and for a mirror of `x`
while the node owns no zone (R60). -/
def recAbsent (s : State) (x i : Nat) : State :=
  let s := crcCheck s i
  let r := recAt s i
  if r.g R.state = RS.free ∨ r.fl RFl.orphan ∨ r.fl RFl.doubt ∨
      (r.g R.state = RS.mirror ∧ r.g R.owner = x ∧ !driftOwns s) then s
  else
    let s := setDslot s i { dslot s i with lost := (dslot s i).lost.filter (· != x) }
    let s := if (reqsOf s i 1).any fun q => q.dst == x then handoffFail s i x false else s
    let hadSet := (reqsOf s i 7).any fun q => q.dst == x
    let s := dropReqs s fun q => q.slot == i && q.dst == x && (q.sub == 4 || q.sub == 7 || q.sub == 12)
    let toRetire := (reqsOf s i 8).any fun q => q.dst == x
    let s := dropReqs s fun q => q.slot == i && q.dst == x && q.sub == 8
    let r := recAt s i
    let s := if r.g R.prev = x then recPut s i (r.s R.prev 0xFFF) else s
    let r := recAt s i
    if r.g R.state = RS.retired then
      if r.g R.owner = x ∧ x ≠ s.own then markOrphan s i x
      else if toRetire ∨ hadSet then
        let r := if r.g R.mirror = x then r.s R.mirror 0xFFF else r
        retireProceed (inductOk (recPut s i (if (dslot s i).ini.isSome then r.setFl RFl.solo true else r)) i 0xFFF) i
      else s
    else if r.g R.state = RS.mirror ∧ r.g R.owner = x then
      let r := (((r.s R.state RS.owned).s R.owner s.own).s R.mirror 0xFFF).up
      let s := driftCount (recPut s i (r.setFl RFl.proxy true)) F.DRIFT_CNT_ADOPT_N 4
      let s := driftNote (missActions s i x).2 4 i x r.id
      armActions (mirrorSend s i) i
    else if r.g R.state = RS.owned ∧ (r.g R.mirror = x ∨ hadSet) then
      mirrorSend (if r.g R.mirror = x then recPut s i (r.s R.mirror 0xFFF) else s) i
    else s

/-- The record of slot `i` has to do with node `x`. -/
def concerns (s : State) (x i : Nat) : Bool :=
  let r := recAt s i
  r.g R.owner == x || r.g R.mirror == x || r.g R.prev == x || s.drift.reqs.any fun q => q.slot == i && q.dst == x

/-- Absences still to be judged, record by record; none while Drift stands (R322). -/
def judgeLost (s : State) : State :=
  if !driftOn s then s
  else (recSlots s).foldl (fun t i => (dslot t i).lost.foldl (fun u x => recAbsent u x i) t) s

/-- The handoff check outside the window: overdue items are offered at once (R311). -/
def checkNow (s : State) : State :=
  if driftOwns s && driftOn s then s.each 8 fun t k => if zoneOk t k then handoffCheck t k else t else s

/-- Node `x` becomes absent to Drift. A QUERY is resent until RESYNC_TO all the same (R304). -/
def driftAbsent (s : State) (x : Nat) : State :=
  let s := ((recSlots s).filter (concerns s x)).foldl (fun t i =>
    setDslot t i { dslot t i with lost := x :: (dslot t i).lost.filter (· != x) }) s
  let s := dropReqs s fun q => q.dst == x && (q.sub == 6 || q.sub == 12 || (q.sub == 4 && q.slot == 16384))
  if driftOn s then settleEdges (checkNow (judgeLost s)) else s

/-- Node `x` is present again: records that it failed may be offered to it (R311). -/
def driftPresent (s : State) (x : Nat) : State :=
  checkNow (s.drift.slots.foldl (fun t e =>
    if e.2.skip.contains x then setDslot t e.1 { dslot t e.1 with skip := (dslot t e.1).skip.filter (· != x) } else t) s)

/-- A sample used with DISC or INIT on slot `k` (R321), in every state in which Drift runs (R60). -/
def driftDisc (s : State) (k : Nat) : State :=
  if !s.on P.zones (F.ZONES_ZCFG_EN k) || !(s.working || s.st == NS.join) then s
  else
    let s := readStore s
    let s := driftEv (s.wr P.zones (F.ZONES_ZSTAT_DISC k) 1) 13
    (ownsOn s k).foldl (fun t i =>
      let r := recAt t i
      driftNote (ownerChange t i (r.setFl RFl.disc true)) 11 i 0xFFF r.id) s

/-- Drift at T(n) + W. -/
def driftWindow (s : State) : State :=
  if !driftOn s then s
  else
    let s := judgeLost (s.each 8 fun t k => judgeHolding (judgeZone t k) k)
    if !driftOwns s then s
    else
      let s := (recSlots s).foldl (fun t i => armActions (mirrorSeek t i) i) s
      let s := s.each 8 fun t k => if zoneOk t k then handoffCheck t k else t
      settleEdges s

/-! ## Time (R304, R305, R308) -/

/-- Requests whose HO_RETRY has passed are sent again (DRIFT_RESEND). -/
def driftResend (s : State) : State :=
  if !driftOn s then s
  else (s.drift.reqs.filter fun q => decide (q.last + hoRetry s ≤ s.ticks)).foldl (fun t q =>
    let t := if q.sub = 1 ∨ q.sub = 7 then crcCheck t q.slot else t
    if t.drift.reqs.contains q then
      let n := { q with last := t.ticks }
      let t := { t with drift := { t.drift with reqs := t.drift.reqs.map fun x => if x = q then n else x } }
      driftSend (t.inc P.drift F.DRIFT_CNT_RESEND_N) (reqFrame t n)
    else t) s

/-- OFFERs without an answer for HO_TO ticks fail (HANDOFF_TIMEOUT). -/
def handoffTimeouts (s : State) : State :=
  if !driftOn s then s
  else settleEdges ((s.drift.reqs.filter fun q => q.sub == 1 && decide (q.first + hoTo s ≤ s.ticks)).foldl
    (fun t q =>
      let t := crcCheck t q.slot
      if t.drift.reqs.contains q then handoffFail t q.slot q.dst false else t) s)

/-- PENDING copies without a COMMIT for PEND_TO ticks are freed (PENDING_EXPIRED). -/
def pendingExpire (s : State) : State :=
  if !driftOn s then s
  else (recSlots s).foldl (fun t i =>
    let t := crcCheck t i
    let r := recAt t i
    if r.g R.state = RS.pending ∧ !r.fl RFl.orphan ∧ (dslot t i).pend + pendTo t ≤ t.ticks then
      freeRec (t.inc P.drift F.DRIFT_CNT_PEND_EXPIRED_N) i
    else t) s

/-! ## Resynchronisation (R314) -/

/-- Entry to JOIN after a reset: every record is read, and each is in DOUBT, also one that was ORPHAN before (R297); PENDING ones are
freed at once. A CRC that fails now makes the record ORPHAN, which judges it. -/
def resyncStart (s : State) : State :=
  let s := { s with drift := { s.drift with resync := true, queried := none, reqs := [], refused := [], slots := [], left := [] } }
  let s := s.wr P.drift F.DRIFT_STORE_STAT3_RESYNC_DONE 0
  resyncJudge ((recSlots s).foldl (fun t i =>
    let was := (recAt t i).fl RFl.orphan
    let t := crcCheck t i
    let r := recAt t i
    if r.fl RFl.orphan ∧ !was then t
    else if r.g R.state = RS.pending then resyncFree t i
    else recPut t i (r.setFl RFl.doubt true)) s)

/-- A RETIRED record of this node goes on with its retirement (R316). -/
def resyncRetired (s : State) (i : Nat) : State :=
  let s := resyncKeep s i
  let r := recAt s i
  if r.fl RFl.orphan ∨ r.fl RFl.reported ∨ r.g R.mirror = 0xFFF then s else request s i 8 (r.g R.mirror)

/-- After HOLD_DONE, with the address known, the node's own retirements go on and QUERYs are sent. -/
def resyncQuery (s : State) : State :=
  if s.drift.resync && s.drift.queried.isNone && s.on P.halo F.HALO_JOIN_STAT_HOLD_DONE then
    resyncJudge ((doubtful s).foldl (fun t i =>
      let t := crcCheck t i
      let r := recAt t i
      if !r.fl RFl.doubt then t
      else if r.g R.state = RS.retired ∧ r.g R.owner = t.own then resyncRetired t i
      else
        let dst := if r.g R.state = RS.owned then r.g R.mirror else r.g R.owner
        if dst = 0xFFF then t else request t i 10 dst)
      { s with drift := { s.drift with queried := some s.ticks } })
  else s

/-- ANSWER. -/
def onAnswer (s : State) (f : Frame) : State :=
  let o := askedOf s f 10
  let s := o.2
  match o.1 with
  | none => s
  | some q =>
    let s := dropReqs s (· == q)
    let r := recAt s q.slot
    let keep :=
      if r.g R.state = RS.mirror then
        frameHState f == RS.owned && frameVer f == r.g R.ver && frameHOwner f == f.src && frameCode f == 1
      else if r.g R.state = RS.retired then frameHState f == RS.retired
      else false
    resyncJudge (if keep then resyncKeep s q.slot else resyncFree s q.slot)

/-- RESYNC_TO ticks without an answer: kept as ORPHAN, and ORPHAN raised. -/
def resyncTimeouts (s : State) : State :=
  match s.drift.queried with
  | none => s
  | some t0 =>
    if !driftOn s || !s.drift.resync || !decide (t0 + resyncTo s ≤ s.ticks) then s
    else
      let s := readStore s
      resyncJudge ((doubtful s).foldl (fun t i =>
        if (recAt t i).fl RFl.orphan then driftEv (resyncKeep t i) 9 else markOrphan (resyncKeep t i) i 0xFFF)
        (dropReqs s fun q => q.sub == 10))

/-! ## Firmware operations (R302, R319) -/

/-- Status codes of OP_RES. -/
def DS.queued : Nat := 1
def DS.ok : Nat := 2
def DS.reserve : Nat := 3
def DS.state : Nat := 4
def DS.model : Nat := 5
def DS.zone : Nat := 6
def DS.dupId : Nat := 7
def DS.notOwner : Nat := 8
def DS.busy : Nat := 9
def DS.badArg : Nat := 10
def DS.notFound : Nat := 11

/-- Report the result of an operation. -/
def opResult (s : State) (ini status slot ver : Nat) : State :=
  ((s.wri P.drift F.DRIFT_OP_RES_STATUS ini status).wri P.drift F.DRIFT_OP_RES_SLOT ini slot).wri P.drift F.DRIFT_OP_VER_VERSION
    ini ver

/-- The image at OP_ADDR in the system SRAM data region. -/
def opImage (s : State) (ini : Nat) : Rec := Rec.ofBytes (s.memRead (0x10200000 + s.rdi P.drift F.DRIFT_OP_ADDR_OFFSET ini) 128)

/-- The first failing check of INDUCT; none if all pass. The last one reads the store. -/
def inductJudge (s : State) (k : Nat) (r : Rec) : Option Nat × State :=
  if s.st ≠ NS.run then (some DS.state, s)
  else if 8 ≤ k ∨ !zoneOk s k ∨ !s.on P.zones (F.ZONES_ZCFG_INDUCT k) ∨ r.g R.track ≠ s.tk F.TRACK_TRK_CFG_TRACK k then
    (some DS.badArg, s)
  else if trkState s k ≠ 2 ∧ trkState s k ≠ 3 then (some DS.model, s)
  else
    let inZone := match leadOf s k r, chainEnt s k 3 with
      | some l, some (_, st) =>
        decide (0 ≤ distUm s k l st) && (match zoneEnd s k 3 with
          | some e => decide (distUm s k l e < 0)
          | none => true)
      | _, _ => false
    if !inZone then (some DS.zone, s)
    else if freeSlots s ≤ min 16383 (s.rd P.drift F.DRIFT_DRIFT_CFG_IND_RESERVE) then (some DS.reserve, s)
    else if r.id = 0 then (some DS.dupId, s)
    else
      let o := findItem s r.id
      (if o.1.isSome then some DS.dupId else none, o.2)

/-- INDUCT. -/
def opInduct (s : State) (ini k : Nat) : State :=
  let r := opImage s ini
  let o := inductJudge s k r
  let s := o.2
  match o.1 with
  | some c =>
    let s := opResult s ini c k 0
    let s := driftCount s F.DRIFT_CNT_IND_REFUSED_N 1
    raiseIf s (c == DS.reserve) P.drift 11
  | none =>
    match takeSlot s with
    | (none, t) => driftEv (driftCount (opResult t ini DS.reserve k 0) F.DRIFT_CNT_IND_REFUSED_N 1) 11
    | (some i, s) =>
      let r := ((((r.s R.state RS.owned).s R.ver 1).s R.owner s.own).s R.prev 0xFFF).s R.flags 0
      let r := (r.s R.mirror 0xFFF)
      let r := ([0, 1, 2, 3]).foldl (fun x a => Rec.s x (R.result a) (if Rec.g x (R.result a) = 1 then 1 else 0)) r
      let s := setDslot (recPut s i r) i { ini := some ini }
      settleEdges (armActions (mirrorSend (opResult s ini DS.queued i 1) i) i)

/-- The refusal of UPDATE, RETIRE and CANCEL on a record; none where it is owned and idle. -/
def ownedJudge (s : State) (i : Nat) : Option Nat :=
  let r := recAt s i
  if r.g R.state ≠ RS.owned ∨ r.fl RFl.orphan ∨ r.fl RFl.doubt then some DS.notOwner
  else if r.fl RFl.hoBusy then some DS.busy
  else none

/-- UPDATE. -/
def opUpdate (s : State) (ini i : Nat) : State :=
  let s := crcCheck s i
  match ownedJudge s i with
  | some c => opResult s ini c i ((recAt s i).g R.ver)
  | none =>
    let im := opImage s ini
    let r := recAt s i
    let r := ([0, 1, 2, 3]).foldl (fun (x : Rec) a =>
      if x.g (R.result a) ≤ 1 then
        let x := ([0, 1, 2, 3]).foldl (fun (y : Rec) w => y.setWord (8 + 4 * a + w) (im.word (8 + 4 * a + w))) x
        x.s (R.result a) (if x.g (R.result a) = 1 then 1 else 0)
      else x) r
    let r := ([24, 25, 26, 27, 28, 29, 30, 31]).foldl (fun (x : Rec) w => x.setWord w (im.word w)) r
    let s := ownerChange s i r
    let s := settleEdges (armActions s i)
    opResult s ini DS.ok i ((recAt s i).g R.ver)

/-- OP_RETIRE. -/
def opRetireRec (s : State) (ini i : Nat) : State :=
  let s := crcCheck s i
  match ownedJudge s i with
  | some c => opResult s ini c i ((recAt s i).g R.ver)
  | none => settleEdges (retireStart (opResult s ini DS.ok i ((recAt s i).g R.ver)) i 3)

/-- FIND. -/
def opFind (s : State) (ini : Nat) : State :=
  let id := s.rdi P.drift F.DRIFT_OP_ARG_LO_ARG ini + s.rdi P.drift F.DRIFT_OP_ARG_HI_ARG ini * 2 ^ 32
  let o := findItem s id
  match o.1 with
  | some i => opResult o.2 ini DS.ok i ((recAt o.2 i).g R.ver)
  | none => opResult o.2 ini DS.notFound 0 0

/-- CANCEL. -/
def opCancelAct (s : State) (ini i a : Nat) : State :=
  let s := crcCheck s i
  match ownedJudge s i with
  | some c => opResult s ini c i ((recAt s i).g R.ver)
  | none =>
    let s := if (recAt s i).g (R.result a) = 2 then releaseAction s i a else s
    let s := settleEdges (actionNote (ownerChange s i ((recAt s i).s (R.result a) 7)) i a)
    opResult s ini DS.ok i ((recAt s i).g R.ver)

/-- FREE. -/
def opFreeRec (s : State) (ini i : Nat) : State :=
  let s := crcCheck s i
  let r := recAt s i
  if r.fl RFl.orphan || s.isIn [NS.commission, NS.maint] then
    opResult (resyncJudge (freeRec (dropReqs s fun q => q.slot == i) i)) ini DS.ok i (r.g R.ver)
  else opResult s ini DS.badArg i (r.g R.ver)

/-- A write of OP_CMD by initiator `ini` (R319). -/
def driftOp (s : State) (ini op act slot : Nat) : State :=
  if !(s.working || s.st == NS.join) && op != 1 then opResult s ini DS.state slot 0
  else match op with
    | 1 => opInduct s ini slot
    | 2 => opUpdate s ini slot
    | 3 => opRetireRec s ini slot
    | 4 => opFind s ini
    | 5 => opCancelAct s ini slot (act % 4)
    | 6 => opFreeRec s ini slot
    | _ => opResult s ini DS.badArg slot 0

/-- Drift at T(n): STOPPED rises; queries after HOLD_DONE; report retries. -/
def driftTick (s : State) : State :=
  let s := if s.stopReq P.drift then s.wr P.drift F.HDR_PAGE_STAT_STOPPED 1 else s
  if driftOn s then driftReports (resyncQuery s) else s

end Sys2Proof.Machine
end

