-- ==== Sys2Proof/Machine/Layout.lean ====
section
/-!
DEFINITION. Which fields a page has (R29, R35): the header's and those of its type.
-/

namespace Sys2Proof.Machine

/-- The fields that a page defines beyond the header. -/
def typeFields (page : Nat) : List Fld :=
  match pageType page with
  | none => []
  | some t =>
    match t with
    | .node => regsNODE
    | .event => if page = P.ev1 then regsEVENTA else if page = P.ev2 then regsEVENTB else regsEVENTC
    | .time => regsTIME | .lane => regsLANE | .halo => regsHALO | .switch => regsSWITCH | .swport => regsSWPORT
    | .cellpool => regsCELLPOOL | .publish => regsPUBLISH | .subscribe => regsSUBSCRIBE | .txn => regsTXN
    | .gateway => regsGATEWAY | .queue => regsQUEUE
    | .session => if page = P.sestx then regsSESTX else regsSESRX
    | .track => regsTRACK | .drift => regsDRIFT | .zones => regsZONES | .edge => regsEDGE | .capture => regsCAPTURE
    | .field => regsFIELD | .encoder => regsENCODER | .fdie => regsFDIE | .adc => regsADC | .can => regsCAN
    | .uart => regsUART | .pio => regsPIO | .pinmux => regsPINMUX | .eth => regsETH | .hostport => regsHOSTPORT
    | .flash => regsFLASH | .power => regsPOWER | .branch => regsBRANCH | .pd => regsPD | .usbdev => regsUSBDEV
    | .cores => regsCORES | .xfer => regsXFER | .mgmt => regsMGMT | .sensors => regsSENSORS | .log => regsLOG
    | .update => regsUPDATE | .security => regsSECURITY | .eclipse => regsECLIPSE

/-- Every field of a page. -/
def pageFields (page : Nat) : List Fld := regsHDR ++ typeFields page

/-- The fields of the register at `off` of a page. -/
def regFields (page off : Nat) : List Fld := (pageFields page).filter fun f => f.off == off

/-- The field that a key names. -/
def fieldOf (k : Key) : Option Fld := (pageFields k.page).find? fun f => f.off == k.off && f.lsb == k.lsb

/-- The write class of what a key names. -/
def classOf (k : Key) : Cls := ((fieldOf k).map (·.cls)).getD .none

/-- The page is on the field die and reached across the stitch link (R9). -/
def onFieldDie (page : Nat) : Bool := ((pageRow page).map (·.fieldDie)).getD false

end Sys2Proof.Machine
end

