-- ==== Sys2Proof/Machine/CoreOps.lean ====
section
/-!
DEFINITION. The cores as the hub controls them: compare registers and core control (19_processors_and_events.md, R509 to R512).
-/

namespace Sys2Proof.Machine

/-! ## Cores (R509 to R512) -/

/-- A core's record. -/
def core (s : State) (k : Nat) : CoreSt := s.cores.at {} k

/-- Set it. -/
def setCore (s : State) (k : Nat) (x : CoreSt) : State := { s with cores := s.cores.put {} k x }

/-- MTIMECMPk. -/
def mtimecmp (s : State) (k : Nat) : Nat := s.rd64 P.cores (F.CORES_MTIMECMP_LO_NS k) (F.CORES_MTIMECMP_HI_NS k)

/-- MTIP of core `k` follows its compare (R509, R510): judged at a write of it and where ring time is stepped. -/
def mtipFollow (s : State) (k : Nat) : State := setCore s k { core s k with mtip := decide (mtimecmp s k ≤ s.now) }

/-! ## Watchdog timers (R515 to R517) -/

/-- A watchdog watches core `k`: FWDT for the field cores that CORES names, MWDT for the management core. -/
def wdtOn (s : State) (k : Nat) : Bool :=
  if k = 4 then s.on P.cores F.CORES_MWDT_CFG_EN
  else decide (k < 4) && s.on P.cores F.CORES_FWDT_CFG_EN && s.bit P.cores F.CORES_FWDT_CFG_CORES k

/-- The debugger has halted core `k`. -/
def coreDebug (s : State) (k : Nat) : Bool := if k = 4 then (core s 4).debug else s.bit P.cores F.CORES_CORE_STAT_DEBUG k

/-- The timer of core `k` counts (R517). -/
def wdtCounts (s : State) (k : Nat) : Bool :=
  s.alive && wdtOn s k && (k == 4 || s.bit P.cores F.CORES_CORE_STAT_RUNNING k) &&
    !(coreDebug s k && s.on P.cores F.CORES_CORE_CTRL_DBG_PAUSE)

/-- FWDT_CFG.TIME and MWDT_CFG.TIME in ns, within their ranges. -/
def wdtLen (s : State) (k : Nat) : Nat :=
  if k = 4 then clampNat 10 65535 (s.rd P.cores F.CORES_MWDT_CFG_TIME) * 1000000
  else clampNat 100 1000000 (s.rd P.cores F.CORES_FWDT_CFG_TIME) * 1000

/-- When a timer that counts reaches TIME, ns of elapsed time. -/
def wdtDue (s : State) (k : Nat) : Option Nat := (core s k).wdtAt.map fun u => u + (wdtLen s k - (core s k).wdtAcc)

/-- A timer restarts from zero at `u` ns. -/
def wdtRestart (s : State) (k u : Nat) : State :=
  setCore s k { core s k with wdtAcc := 0, wdtAt := (core s k).wdtAt.map fun _ => u }

/-- A timer follows what lets it count: held, it keeps its count; unwatched, it is at zero (log 119). -/
def wdtFollow (s : State) (k : Nat) : State :=
  let x := core s k
  if !wdtOn s k then (if x.wdtAt.isNone ∧ x.wdtAcc = 0 then s else setCore s k { x with wdtAt := none, wdtAcc := 0 })
  else match x.wdtAt, wdtCounts s k with
    | none, true => setCore s k { x with wdtAt := some (s.upAt s.now) }
    | some u, false => setCore s k { x with wdtAt := none, wdtAcc := x.wdtAcc + (s.upAt s.now - u) }
    | _, _ => s

/-- All five follow. -/
def wdtsFollow (s : State) : State := s.each 5 wdtFollow

/-! ## Starting and holding -/

/-- RESET_VEC (R512). -/
def resetVec (s : State) : Nat :=
  s.rd P.cores F.CORES_RESET_VEC_LO_ADDR * 2 + s.rd P.cores F.CORES_RESET_VEC_HI_ADDR * 2 ^ 32

/-- Field core `k` starts at `entry`. -/
def coreStart (s : State) (k entry a0 a1 : Nat) : State :=
  let s := setCore s k { core s k with entry := entry, a0 := a0, a1 := a1, debug := false, wfi := false, resv := none }
  let s := s.setBit P.cores F.CORES_CORE_STAT_DEBUG k false
  (s.setBit P.cores F.CORES_CORE_STAT_WFI k false).setBit P.cores F.CORES_CORE_STAT_RUNNING k true

/-- Field core `k` is held in reset. -/
def coreHold (s : State) (k : Nat) : State :=
  let s := s.setBit P.cores F.CORES_CORE_STAT_RUNNING k false
  let s := s.setBit P.cores F.CORES_CORE_STAT_DEBUG k false
  s.setBit P.cores F.CORES_CORE_STAT_WFI k false

/-- The cores follow HART_EN, the CORE domain and ISOLATE (R511, R59). -/
def coresFollow (s : State) : State :=
  wdtsFollow <| s.each 4 fun t k =>
    let run := t.bit P.cores F.CORES_CORE_CTRL_HART_EN k && domOn t 3 && t.st != NS.isolate
    let was := t.bit P.cores F.CORES_CORE_STAT_RUNNING k
    if run && !was then coreStart t k (resetVec t) 0 0
    else if !run && was then coreHold t k
    else t

/-- What the debugger and WFI do to the cores (R527): bits 3:0 of `m` name the field cores that the debugger halts, bit 4 the
management core, bits 8:5 the field cores in WFI; `tap` says that the debugger has the cores (R541). -/
def coresTold (s : State) (m : Nat) (tap : Bool) : State :=
  let s := s.each 4 fun t k =>
    let run := t.bit P.cores F.CORES_CORE_STAT_RUNNING k
    (t.setBit P.cores F.CORES_CORE_STAT_DEBUG k (run && tap && bitOf m k)).setBit P.cores F.CORES_CORE_STAT_WFI k
      (run && bitOf m (5 + k))
  wdtsFollow (setCore s 4 { core s 4 with debug := tap && bitOf m 4 })

/-- A write of HART_EN (R511). -/
def hartEn (s : State) (m : Nat) : State := coresFollow (s.wr P.cores F.CORES_CORE_CTRL_HART_EN m)

end Sys2Proof.Machine
end

