-- ==== Sys2Proof/Machine/LaneState.lean ====
section
/-!
DEFINITION. A ring lane's state, role and cause (05_ring_links_and_frames.md, R113, R114, R120, R144).
-/

namespace Sys2Proof.Machine

/-! ## Lanes -/

/-- The lane carries a ring at this node (R113). -/
def ringLane (s : State) (i : Nat) : Bool := i < 2 || (i < 4 && s.role == 3)

/-- Effective role of a lane: 0 E, 1 W (R113, R120). -/
def laneRole (s : State) (i : Nat) : Nat := lanePort s i % 2

/-- The lane is on ring k of a gateway. -/
def laneK (i : Nat) : Bool := decide (2 ≤ i)

/-- The ring number that a lane serves. -/
def laneRing (s : State) (i : Nat) : Nat :=
  if laneK i then s.rd P.gw F.GATEWAY_GW_CFG_RING_K else s.rd P.halo F.HALO_RING_CFG_RING_NUM

/-- A lane state. -/
def laneState (s : State) (i : Nat) : Nat := s.rd (P.lane i) F.LANE_LANE_STAT_STATE

/-- Lane state codes (R144). -/
def LS.off : Nat := 0
def LS.signal : Nat := 1
def LS.lock : Nat := 2
def LS.hello : Nat := 3
def LS.up : Nat := 4
def LS.fault : Nat := 5
def LS.hold : Nat := 6

/-- Lane cause codes (R144). -/
def LC.noSignal : Nat := 1
def LC.noLock : Nat := 2
def LC.hiBer : Nat := 3
def LC.clkDown : Nat := 4
def LC.crossed : Nat := 5
def LC.loopback : Nat := 6
def LC.ringMismatch : Nat := 7
def LC.helloTimeout : Nat := 8
def LC.flapping : Nat := 9
def LC.errDown : Nat := 10

/-- Set LANE_STAT.CAUSE. -/
def laneCause (s : State) (i c : Nat) : State := s.wr (P.lane i) F.LANE_LANE_STAT_CAUSE c

/-- Set the state; STOPPED is 1 exactly in OFF; entry to SIGNAL forgets the HELLO. -/
def setLaneState (s : State) (i st : Nat) : State :=
  let s := (s.wr (P.lane i) F.LANE_LANE_STAT_STATE st).wr (P.lane i) F.HDR_PAGE_STAT_STOPPED (b2n (st == LS.off))
  if st = LS.signal then s.setLane i { s.lane i with heard := false, noSigSaid := false } else s

end Sys2Proof.Machine
end

