-- ==== Sys2Proof/Machine/Halo.lean ====
section
/-!
DEFINITION. What a frame received on a ring lane goes through once its header has passed (05_ring_links_and_frames.md, R131 to
R134; 08_transactions_and_bridging.md, R229 to R233): Halo, the crossing at a gateway, its admission, how its end settles it; and
what a lane does with it when it leaves UP.
-/

namespace Sys2Proof.Machine

/-! ## Addresses on a lane (R126, R142) -/

/-- The far end of a lane has this address, or 0xFFF. -/
def nbrAddr (s : State) (i : Nat) : Nat :=
  if s.on (P.lane i) F.LANE_NBR_INFO_ADDR_VALID then s.rd (P.lane i) F.LANE_NBR_INFO_ADDR else 0xFFF

/-- The address that this node has on the ring of lane `i`, or 0xFFF. -/
def ownOn (s : State) (i : Nat) : Nat := let a := sideAddr s (laneK i); if a.1 then a.2 else 0xFFF

/-! ## The crossing at a gateway (R229 to R233) -/

/-- Ring k of the joint; 0 no joint. -/
def gwRing (s : State) : Nat := s.rd P.gw F.GATEWAY_GW_CFG_RING_K

/-- The node is a gateway of a joint. -/
def isGateway (s : State) : Bool := s.role == 3 && gwRing s != 0

/-- It is active: the TICK source of ring k (R104). A frozen gateway carries nothing across (R569). -/
def gwActive (s : State) : Bool := isGateway s && s.time.srcK.orig && s.st != NS.eclipse

/-- Key of a crossing counter. -/
def crossKey (src g : Nat) : Nat := 2 * src + g

/-- The inactive gateway tracks the highest crossing number of a source and group (R230). -/
def gwTrack (s : State) (f : Frame) : State :=
  let k := crossKey f.src (haloGroup f.cls)
  let v := match s.txn.track.at none k with
    | some x => if (f.seq + 65536 - x) % 65536 < 32768 then f.seq else x
    | none => f.seq
  { s with txn := { s.txn with track := s.txn.track.put none k (some v) } }

/-- The ring of an address. -/
def ringOf (a : Nat) : Nat := a / 1024 % 4

/-- An address lies on the other side of the joint from a lane (R229, R231). -/
def farSide (s : State) (i a : Nat) : Bool := if laneK i then ringOf a != gwRing s else ringOf a == gwRing s

/-- The group crosses: group 1 always, group 0 never, else its crossing bit. -/
def groupCrosses (s : State) (g : Nat) : Bool :=
  if g = 0 then false else if g = 1 then true else s.rdi P.gw F.GATEWAY_XGRP_DATA_CROSS g == 1

/-- The frame, received on lane `i`, crosses at the active gateway (R229). -/
def crosses (s : State) (i : Nat) (f : Frame) : Bool :=
  gwActive s && !(f.typ == 1 || f.typ == 2 || (f.typ == 0xD && f.cls == 7) || (f.typ == 0xB && frameSub f == 1)) &&
    (if f.mc then groupCrosses s f.dst else farSide s i f.dst && !isOwn s f.dst)

/-- A frame on lane `i` whose SRC lies on the other side of the joint (R231). -/
def crossedBack (s : State) (i : Nat) (f : Frame) : Bool := isGateway s && farSide s i f.src

/-- REACH after a hop (R127). -/
def fwdReach (f : Frame) : Nat := if f.reach = 0x3FF then 0x3FF else f.reach - 1

/-- The port of the opposite role on the same ring. -/
def otherPort (p : Nat) : Nat := if p % 2 = 0 then p + 1 else p - 1

/-- The copies of a frame that crosses to ring k, or to ring 0, each with its egress port (R229). -/
def crossCopies (s : State) (toK : Bool) (f : Frame) : List (Nat × Frame) :=
  (copiesOf s toK 0x3FF 0x3FF).map fun c => (c.1, { f with copy := c.1 % 2, reach := c.2 })

/-- The next crossing number of the frame's source and group (R230). -/
def crossNum (s : State) (f : Frame) : Nat := if haloChecked f then s.txn.cross.at 0 (crossKey f.src (haloGroup f.cls)) else 0

/-- A frame has been given its crossing number. -/
def crossNext (s : State) (f : Frame) : State :=
  if haloChecked f then
    { s with txn := { s.txn with cross := s.txn.cross.put 0 (crossKey f.src (haloGroup f.cls)) ((crossNum s f + 1) % 65536) } }
  else s

/-- Originate a frame on ring k, or on ring 0, in the name of its source (R229, R230): both copies, under the crossing number of
its source and group. Answers whether one was admitted; a frame that is refused at every queue takes no number. -/
def crossOut (s : State) (toK : Bool) (ingress : Nat) (f : Frame) : Bool × State :=
  let (id, t) := newId s
  let r := (crossCopies s toK { f with seq := crossNum s f }).foldl (fun (a : Bool × State) c =>
    let o := admitOne a.2 c.1 id c.2 true false ingress
    if o.1 then (true, o.2) else (a.1, dropAt o.2 c.1 f.cls)) (false, t)
  (r.1, if r.1 then crossNext r.2 f else r.2)

/-- The copies of a CONTROL multicast stored under `id` that were admitted with its other queues (R160) take their crossing number. -/
def crossWhole (s : State) (toK : Bool) (id : Nat) (f : Frame) : Bool × State :=
  let ps := if toK then [2, 3] else [0, 1]
  if ps.any fun p => (swQueue s (outQueue p 6)).any (·.id == id) then (true, crossNext (numberEntries s ps id (crossNum s f)) f)
  else (false, s)

/-- A frame crosses: it is re-originated, and counted where a queue takes it (R238). -/
def crossSend (s : State) (toK : Bool) (ingress id : Nat) (f : Frame) : Bool × State :=
  let r := if wholeOrNone f then crossWhole s toK id f else crossOut s toK ingress f
  (r.1, r.2.when r.1 (·.inc P.gw (if toK then F.GATEWAY_CNT_CROSS_0K_N else F.GATEWAY_CNT_CROSS_K0_N)))

/-- Cells that frames crossing towards ring k (or ring 0) hold in this node, one in transmission among them (R155). -/
def crossCells (s : State) (toK : Bool) : Nat :=
  let far := fun (p : Nat) => if toK then decide (p < 2) else decide (2 ≤ p ∧ p < 4)
  let es := (if toK then [2, 3] else [0, 1]).flatMap fun p =>
    let out := match s.sw.sending.at none p with
      | some (e, _) => [e]
      | none => []
    ((List.range 8).flatMap (fun c => swQueue s (8 * p + c)) ++ out).filter fun e => far e.ingress
  (es.foldl (fun (a : List (Nat × Nat)) e => if a.any (·.1 == e.id) then a else (e.id, e.cells) :: a) []).foldl
    (fun a e => a + e.2) 0

/-- The joint is congested both ways (R233). -/
def crossFull (s : State) : Bool :=
  let lim := s.rd P.gw F.GATEWAY_GW_CFG2_CROSS_LIMIT
  decide (lim < crossCells s true) && decide (lim < crossCells s false)

/-- The completion with BUSY that the gateway gives in the name of the target (R233). -/
def busyCpl (s : State) (f : Frame) : Frame :=
  let inc := s.halo.incs.at 0 f.dst
  { typ := 4, cls := 4, dst := f.src, src := f.dst, tick := s.tick % 65536
    w3 := f.w3 / 2 ^ 20 * 2 ^ 20 + (inc - 1), w4 := f.w4 / 2 ^ 28 * 2 ^ 28 + TS.busy * 2 ^ 24 + f.w4 % 2 ^ 24, w5 := f.w5 }

/-- A frame that crosses, stored under `id`, has passed step 6 on lane `i`. Answers whether it was taken: one that is answered BUSY
is. -/
def crossFrame (s : State) (i id : Nat) (f : Frame) : Bool × State :=
  if f.typ = 3 ∧ laneK i = true ∧ crossFull s = true then
    let s := countRaise s P.gw F.GATEWAY_CNT_XBUSY_N P.gw 2
    (true, (crossOut s true (lanePort s i) (busyCpl s f)).2)
  else crossSend s (!laneK i) (lanePort s i) id f

/-! ## Halo entries (R133, R135) -/

/-- A Halo entry: key 2 × source + group. -/
def haloEnt (s : State) (src g : Nat) : HaloEnt := s.halo.ents.at {} (2 * src + g)

/-- Set a Halo entry. -/
def setHaloEnt (s : State) (src g : Nat) (e : HaloEnt) : State :=
  { s with halo := { s.halo with ents := s.halo.ents.put {} (2 * src + g) e } }

/-- Local ports get frames in every state but ISOLATE and ECLIPSE (R132). -/
def deliversLocal (s : State) : Bool := s.st != NS.isolate && s.st != NS.eclipse

/-! ## Halo (R133, R134) -/

/-- A decision of Halo. -/
inductive HaloDec where
  | accept | duplicate | stale | hold
  deriving DecidableEq, Repr

/-- Bring a window to sequence `q`: base and map. -/
def haloWindow (e : HaloEnt) (q : Nat) : HaloEnt :=
  let d := (q + 65536 - e.base) % 65536
  if !e.valid then { valid := true, base := (q + 65536 - 63) % 65536, map := 0 }
  else if 64 ≤ d ∧ d < 32768 then { e with base := (e.base + (d - 63)) % 65536, map := e.map / 2 ^ (d - 63) }
  else e

/-- Decide on sequence `q` of a source and group at `t`; an accepted one becomes pending. -/
def haloDecide (s : State) (src g q t : Nat) : HaloDec × State :=
  let e := { haloWindow (haloEnt s src g) q with touch := s.upAt t }
  let d := (q + 65536 - e.base) % 65536
  if 32768 ≤ d then (.stale, setHaloEnt s src g e)
  else if bitOf e.map d then (.duplicate, setHaloEnt s src g e)
  else if e.pend.contains q then (.hold, setHaloEnt s src g e)
  else (.accept, setHaloEnt s src g { e with pend := e.pend ++ [q] })

/-- Count an ACCEPT of group `g`. -/
def haloAccept (s : State) (g : Nat) : State := s.inc P.halo (if g = 0 then F.HALO_CNT_ACCEPT0_N else F.HALO_CNT_ACCEPT1_N)

/-- Count a DUPLICATE of group `g` from lane `i`. -/
def haloDup (s : State) (i g : Nat) : State :=
  (s.inc P.halo (if g = 0 then F.HALO_CNT_DUP0_N else F.HALO_CNT_DUP1_N)).inc (P.lane i) F.LANE_HALO_DUP_N

/-- The pending sequence `q` ends: marked in the map, or released unmarked. -/
def haloSettle (s : State) (src g q : Nat) (ok : Bool) : State :=
  let e := haloEnt s src g
  let d := (q + 65536 - e.base) % 65536
  setHaloEnt s src g { e with pend := e.pend.filter (· != q), map := if ok && decide (d < 64) then withBit e.map d else e.map }

/-! ## Where a received frame goes (R132, R150, R151) -/

/-- Local ports of a frame for this node. TUNNEL_ETH goes by the tunnel mapping (R428; TUNNEL_ETH's own command). -/
def localOuts (s : State) (f : Frame) : List Nat :=
  if !deliversLocal s then []
  else if f.mc then (groupPorts s f.dst).filter fun p => !(f.typ == 9 && decide (4 ≤ p ∧ p < 8))
  else if isOwn s f.dst then (localPort f 4).toList
  else []

/-- The port on which the frame goes on, if any. -/
def forwardOuts (s : State) (i : Nat) (f : Frame) (cross : Bool) : List Nat :=
  if fwdReach f = 0 ∨ (f.mc = false ∧ (isOwn s f.dst ∨ cross = true)) then [] else [otherPort (lanePort s i)]

/-- Count what PASS scope does not deliver (R569). -/
def suppressed (s : State) (f : Frame) : State :=
  if s.st = NS.eclipse ∧ (isOwn s f.dst ∨ (f.mc = true ∧ groupPorts s f.dst ≠ [])) then
    { s with ecl := { s.ecl with discards := s.ecl.discards + 1 } }
  else s

/-- The copies of a CONTROL multicast that crosses: they are admitted with its other queues (R160). -/
def farCopies (s : State) (i : Nat) (f : Frame) (cross : Bool) : List (Nat × Frame) :=
  if cross && wholeOrNone f then crossCopies s (!laneK i) f else []

/-- The frame is admitted to its queues: whether one took it, and whether admission refused it everywhere (R159). -/
def admitRx (s : State) (i id : Nat) (f : Frame) (cross ready : Bool) : (Bool × Bool) × State :=
  let outs := forwardOuts s i f cross ++ localOuts s f
  let far := farCopies s i f cross
  let o := admitFrame (suppressed s f) outs id { f with reach := fwdReach f } ready (lanePort s i) far
  ((!o.1.isEmpty, o.1.isEmpty && !(outs.isEmpty && far.isEmpty)), o.2)

/-- STATUS reaches the system Zenith: a primary gateway's closure latency of its ring (R107, R140). -/
def noteStatus (s : State) (f : Frame) : State :=
  if f.typ == 0xB && frameSub f == 4 && isOwn s f.dst && s.alive && s.time.src.orig then
    let k := bitsOf (beAt f.pay 12 4) 12 2
    let l := beAt f.pay 36 4
    if k ≠ 0 ∧ l ≠ 0 then { s with time := { s.time with ringLat := s.time.ringLat.put 0 k l } } else s
  else s

/-- What the end of an accepted frame, stored under `id`, adds when it has passed step 6. `o` says whether a queue took it at its
head, and whether admission refused it everywhere; the answer says so with the queues of its crossing (R159). -/
def passed (s : State) (i id : Nat) (f : Frame) (cross : Bool) (o : Bool × Bool) : (Bool × Bool) × State :=
  if cross then
    let x := crossFrame s i id f
    let took := o.1 || x.1
    ((took, !took && (o.2 || !(crossCopies s (!laneK i) f).isEmpty)), noteStatus x.2 f)
  else (o, noteStatus s f)

/-- The node itself takes the frame, from its tunnel mapping on (R428). -/
def tunnelled (s : State) (f : Frame) : Bool := f.typ == 9 && deliversLocal s && (f.mc || isOwn s f.dst)

/-- A TUNNEL_ETH frame waits for the tunnel mapping (R428; TUNNEL_ETH's own command), which decides with what is known of its other
queues whether its sequence is marked (R159). -/
def noteTun (s : State) (i id : Nat) (f : Frame) (pend took refused ended : Bool) : State :=
  s.when (tunnelled s f) fun s => s.setLane i { s.lane i with
    tun := some { id := id, frame := f, pend := pend, took := took, refused := refused, ended := ended } }

/-- The mapping of a frame that has passed step 6 has not come: its sequence is settled without it. -/
def tunForget (s : State) (i : Nat) : State :=
  match (s.lane i).tun with
  | some x =>
    let s := s.setLane i { s.lane i with tun := none }
    if x.ended && x.pend then haloSettle s x.frame.src (haloGroup x.frame.cls) x.frame.seq (x.took || !x.refused) else s
  | none => s

/-- A held frame that is decided afresh as ACCEPT has passed already: its sequence is marked unless admission refuses it
everywhere (R134, R159). One that goes to the tunnel mapping stays pending until then. -/
def acceptHeld (s : State) (g : Nat) (h : HeldFrame) : State :=
  let x := crosses s h.lane h.frame
  let n := newId (haloAccept s g)
  let a := admitRx n.2 h.lane n.1 h.frame x true
  let p := passed a.2 h.lane n.1 h.frame x a.1
  let o := p.1
  let s := p.2
  if tunnelled s h.frame then
    let e := haloEnt s h.frame.src g
    noteTun (setHaloEnt s h.frame.src g { e with pend := e.pend.filter (· != h.frame.seq) ++ [h.frame.seq] })
      h.lane n.1 h.frame true o.1 o.2 true
  else haloSettle s h.frame.src g h.frame.seq (!o.2)

/-- The outcome of a pending frame reaches those held behind it (R134). -/
def settleHeld (s : State) (src g q : Nat) (ok : Bool) : State :=
  let s := haloSettle s src g q ok
  let e := haloEnt s src g
  let mine := e.held.filter fun h => h.frame.seq == q && h.passed
  let s := setHaloEnt s src g { e with held := e.held.filter fun h => !(h.frame.seq == q && h.passed) }
  if ok then mine.foldl (fun t h => haloDup t h.lane g) s
  else
    match mine with
    | [] => s
    | h :: r => r.foldl (fun t x => haloDup t x.lane g) (acceptHeld s g h)

/-! ## The end of a frame (R128 steps 5 and 6, R130, R134) -/

/-- Count a failure of step 5 or 6 on a lane; CRC_ERR counts in the windows of R118 and for STATUS. PCS_ERR counts blocks
(`lineErrs`). -/
def endFault (s : State) (i : Nat) (e : FrameEnd) : State :=
  match e with
  | .good => s
  | .lenErr => s.inc (P.lane i) F.LANE_LEN_ERR_N
  | .pcsErr => s
  | .stomp => s.inc (P.lane i) F.LANE_STOMP_SEEN_N
  | .crcErr =>
    let s := s.inc (P.lane i) F.LANE_CRC_ERR_N
    s.setLane i { s.lane i with crcWin := (s.lane i).crcWin + 1, crcStatus := min (2 ^ 32 - 1) ((s.lane i).crcStatus + 1) }

/-- A held frame ends: it waits for the outcome of the pending one, or is decided now if that is known. -/
def endHeld (s : State) (i : Nat) (f : Frame) (ok : Bool) : State :=
  let g := haloGroup f.cls
  let e := haloEnt s f.src g
  let mine := fun (h : HeldFrame) => h.lane == i && h.frame == f && !h.passed
  if !ok then setHaloEnt s f.src g { e with held := e.held.filter fun h => !mine h }
  else if e.pend.contains f.seq then
    setHaloEnt s f.src g { e with held := e.held.map fun h => if mine h then { h with passed := true } else h }
  else
    let s := setHaloEnt s f.src g { e with held := e.held.filter fun h => !mine h }
    match haloDecide s f.src g f.seq s.now with
    | (.accept, s) => acceptHeld s g { lane := i, frame := f, passed := true }
    | (.stale, s) => countRaise s P.halo F.HALO_CNT_STALE_N P.halo 6
    | (_, s) => haloDup s i g

/-- Exits from UP within the last 10 s at `t` (R117). -/
def downsAt (s : State) (i t : Nat) : List Nat := (s.lane i).downs.filter fun d => decide (s.upAt t < d + 10000000000)

/-- The frame `x` of lane `i` fails after its head: its copies end (R130), and its pending sequence is released (R134). -/
def rxLost (s : State) (i : Nat) (x : RxFrame) : State :=
  if x.only then s
  else if x.held then endHeld s i x.frame false
  else
    let s := stompStored s x.id
    let s := match (s.lane i).tun with
      | some y => if y.id = x.id then s.setLane i { s.lane i with tun := none } else s
      | none => s
    if x.pend then settleHeld s x.frame.src (haloGroup x.frame.cls) x.frame.seq false else s

/-- The Tap's copy of the frame in reception ends with it. -/
def tapEnds (s : State) (i : Nat) (e : FrameEnd) : State :=
  match (s.lane i).tap with
  | none => s
  | some id =>
    let s := if e == .good then markReady s id else stompStored s id
    s.setLane i { s.lane i with tap := none }

/-- The ingress of lane `i` goes down in the middle of a frame (R162). -/
def rxCut (s : State) (i : Nat) : State :=
  let s := tapEnds s i .lenErr
  match (s.lane i).rx with
  | none => s
  | some x => rxLost (s.setLane i { s.lane i with rx := none }) i x

/-! ## The exit from UP (R114, R117) -/

/-- An UP lane leaves UP for state `st`, or for HOLD by the flap rule: event, counter, flush of its port (R162). -/
def laneExit (s : State) (i st : Nat) : State :=
  let downs := downsAt s i s.now ++ [s.upAt s.now]
  let s := s.setLane i { s.lane i with downs := downs }
  let s := countRaise s (P.lane i) F.LANE_DOWN_COUNT_N (P.lane i) 1
  let max := s.rd (P.lane i) F.LANE_LANE_CFG_FLAP_MAX
  let hold := decide (0 < max) && decide (max ≤ downs.length) && st != LS.off
  let s := setLaneState s i (if hold then LS.hold else st)
  let s := if hold then laneCause s i LC.flapping else s
  flushPort (rxCut s i) (lanePort s i)

end Sys2Proof.Machine
end

