-- ==== Sys2Proof/Machine/UsbOps.lean ====
section
/-!
DEFINITION. What the USB ports share with the rest (18_usb_c_ports.md): the service path, the service budget, a port's record and
messages, Tap, port 1 as supply, and the USB 2.0 device's connection.
-/

namespace Sys2Proof.Machine

/-! ## A port -/

/-- A PD port's record. -/
def pdSt (s : State) (p : Nat) : PdSt := if p = 0 then s.usb.port0 else s.usb.port1

/-- Change it. -/
def setPd (s : State) (p : Nat) (x : PdSt) : State :=
  if p = 0 then { s with usb := { s.usb with port0 := x } } else { s with usb := { s.usb with port1 := x } }

/-- A register of port `p`. -/
def State.pd (s : State) (p : Nat) (f : Fld) : Nat := s.rd (P.pd p) f

/-- Set it. -/
def State.pdWr (s : State) (p : Nat) (f : Fld) (v : Nat) : State := s.wr (P.pd p) f v

/-- A message leaves port `p`. -/
def pdSend (s : State) (p : Nat) (m : PdMsg) : State := { s with usb := { s.usb with sent := (p, m) :: s.usb.sent } }

/-- The port's event: 0 ATTACH, 1 CONTRACT, 2 FAULT. -/
def pdEv (s : State) (p k : Nat) : State := if s.alive then raise s (P.pd p) k else evOnly s (P.pd p) k

/-- PD_STAT.ATTACH: 0 none, 1 as sink, 2 as source. -/
def pdAttach (s : State) (p : Nat) : Nat := s.pd p F.PD_PD_STAT_ATTACH

/-- A FAULT cause bit is set. -/
def pdFault (s : State) (p k : Nat) : State := s.setBit (P.pd p) F.PD_FAULT_CAUSE k true

/-- Codes of PD_RES.RESULT (R501). -/
def PR.ok : Nat := 1
def PR.rejected : Nat := 2
def PR.refused : Nat := 3
def PR.timeout : Nat := 4
def PR.busy : Nat := 5

/-- PD_CMD completes with a result, if one is in progress. -/
def pdComplete (s : State) (p r : Nat) : State :=
  if (pdSt s p).cmd.isSome then setPd (s.pdWr p F.PD_PD_RES_RESULT r) p { pdSt s p with cmd := none } else s

/-- A timer starts at `u` ns of elapsed time; it starts now; it stops. -/
def pdStartAt (s : State) (p k u : Nat) : State :=
  setPd s p { pdSt s p with timers := (pdSt s p).timers.filter (·.1 != k) ++ [(k, u)] }
def pdStart (s : State) (p k : Nat) : State := pdStartAt s p k (s.upAt s.now)
def pdStop (s : State) (p k : Nat) : State := setPd s p { pdSt s p with timers := (pdSt s p).timers.filter (·.1 != k) }

/-- The timers of R495, by their place in its table. -/
def PT.senderResp : Nat := 0
def PT.sendSrcCap : Nat := 1
def PT.psTrans : Nat := 2
def PT.psSrcOff : Nat := 3
def PT.psSrcOn : Nat := 4
def PT.srcRecover : Nat := 5
def PT.noResponse : Nat := 6
def PT.psHardReset : Nat := 7
def PT.vdmResp : Nat := 8
def PT.sinkTx : Nat := 9

/-- The field of a timer (R495, R501). -/
def pdTimerFld (k : Nat) : Fld :=
  match k with
  | 0 => F.PD_TMR_A_SENDER_RESP | 1 => F.PD_TMR_A_SEND_SRC_CAP | 2 => F.PD_TMR_B_PS_TRANS | 3 => F.PD_TMR_B_PS_SRC_OFF
  | 4 => F.PD_TMR_C_PS_SRC_ON | 5 => F.PD_TMR_C_SRC_RECOVER | 6 => F.PD_TMR_D_NO_RESPONSE | 7 => F.PD_TMR_D_PS_HARD_RESET
  | 8 => F.PD_TMR_E_VDM_RESP | _ => F.PD_TMR_E_SINK_TX

/-- Length of timer `k` of port `p` in ns: 1 ms at least. -/
def pdTime (s : State) (p k : Nat) : Nat := max 1 (s.pd p (pdTimerFld k)) * 1000000

/-- When timer `k` ends, ns of elapsed time; none while it does not run. -/
def pdDue (s : State) (p k : Nat) : Option Nat :=
  ((pdSt s p).timers.find? fun e => e.1 == k).map fun e => e.2 + pdTime s p k

/-! ## Atomic message sequences (R487, R488) -/

/-- An atomic message sequence begins. Where port 0 as source starts it with a PD 3.x partner, Rp goes to SinkTxNG (R488). -/
def amsStart (s : State) (p a : Nat) : State :=
  setPd s p { pdSt s p with ams := a, txNG := p == 0 && pdAttach s 0 == 2 && s.pd 0 F.PD_PD_STAT_REV3 == 1 }

/-- It ends, and Rp returns to SinkTxOK. -/
def amsEnd (s : State) (p : Nat) : State := setPd s p { pdSt s p with ams := 0, txNG := false }

/-- VBUS on port `p` before a transition, mV. -/
def pdVolts (s : State) (p : Nat) : Nat :=
  if (pdSt s p).vbus then (pdSt s p).mv else if s.pd p F.PD_PD_STAT_CONTRACT = 1 then s.pd p F.PD_CONTRACT_V else 5000

/-- The supervisor watches a transition from `was` to `goal` mV, which an Accept begins or not (R492). -/
def pdWatch (s : State) (p : Nat) (accept : Bool) (was goal : Nat) : State :=
  setPd s p { pdSt s p with trans := some ⟨s.upAt s.now, accept, was, goal⟩ }

/-! ## The service path and its budget (R482 to R485) -/

/-- SVC_GATE. SVC_STAT.PATH_ON shows it. -/
def setSvc (s : State) (b : Bool) : State := { s with usb := { s.usb with svc := b } }

/-- SVC_STAT.BUDGET in mW: contract, else 5 V at the Rp advertisement; at most 3,600; 0 while port 0 is not a sink. -/
def svcBudget (s : State) : Nat :=
  if pdAttach s 0 ≠ 1 then 0
  else if s.pd 0 F.PD_PD_STAT_CONTRACT = 1 then min 3600 (s.pd 0 F.PD_CONTRACT_V * s.pd 0 F.PD_CONTRACT_I / 1000)
  else match s.pd 0 F.PD_PD_STAT_RP_ADV with
    | 0 => 2500
    | _ => 3600

/-- BUDGET follows; a fall below 3,600 mW while CORE is on under SERVICE power sets LOW_BUDGET and raises FAULT. -/
def judgeBudget (s : State) : State :=
  let was := s.pd 0 F.PD_SVC_STAT_BUDGET
  let b := svcBudget s
  let s := s.pdWr 0 F.PD_SVC_STAT_BUDGET b
  if s.service && domOn s 3 && decide (b < 3600) && decide (3600 ≤ was) then
    pdEv (s.pdWr 0 F.PD_SVC_STAT_LOW_BUDGET 1) 0 2
  else s

/-- POWER becomes FEED (R483): the service path stays on for SVC_OVERLAP from now. -/
def svcOverlap (s : State) : State :=
  if s.usb.svc then { s with usb := { s.usb with overlap := some s.coreNow } } else s

/-- PG_MAIN has fallen, or both feeds have left their windows: an overlap that runs leaves the path on. -/
def svcKeep (s : State) : State :=
  if s.usb.overlap.isSome && (!pgMain s || !feedOk s) then { s with usb := { s.usb with overlap := none } } else s

/-! ## Tap (R496 to R499) -/

/-- Tap has been entered. -/
def tapOn (s : State) : Bool := s.pd 0 F.PD_PD_STAT_TAP == 1

/-- Tap ends: the mux returns to its safe state and S1 to its settings; a lane that was UP leaves UP (R114). -/
def tapEnd (s : State) : State :=
  if tapOn s then
    let s := pdEv (s.pdWr 0 F.PD_PD_STAT_TAP 0) 0 1
    let st := if s.enabled (P.lane 3) && !s.stopReq (P.lane 3) then LS.signal else LS.off
    if laneUp s 3 then laneExit s 3 st else setLaneState s 3 st
  else s

/-- The node state allows Tap entry (R64), the node is no gateway (R66), TAP_EN = 1 and S1 is not stopped. -/
def tapAllowed (s : State) : Bool :=
  s.isIn [NS.join, NS.commission, NS.run, NS.coast, NS.maint] && s.role != 3 && s.pd 0 F.PD_PD_CFG_TAP_EN == 1 &&
    !s.on (P.lane 3) F.HDR_PAGE_CTRL_STOP

/-- Tap ends in a state that refuses its entry, other than ECLIPSE, and in the role GATEWAY (R498). -/
def tapJudge (s : State) : State :=
  if s.st != NS.eclipse && (!s.isIn [NS.join, NS.commission, NS.run, NS.coast, NS.maint] || s.role == 3) then tapEnd s else s

/-! ## The USB 2.0 device (R500, R502) -/

/-- The device's event: 0 BUS, 1 EP. -/
def usbEv (s : State) (k : Nat) : State := if s.alive then raise s P.usb k else evOnly s P.usb k

/-- Every armed transfer is aborted and completes with ERR. -/
def usbAbort (s : State) : State :=
  let l := s.usb.armed
  let s := l.foldl (fun t e => t.wr P.usb (F.USBDEV_EP_STAT_ERR e) 1) { s with usb := { s.usb with armed := [] } }
  if l.isEmpty then s else usbEv s 1

/-- CONNECTED follows VBUS0 and CONNECT (DEV_STAT.VBUS shows `usb.vbus0`); a disconnection ends what the bus carried. -/
def usbConnect (s : State) : State :=
  let c := s.usb.vbus0 && s.on P.usb F.USBDEV_DEV_CFG_CONNECT
  if c = s.on P.usb F.USBDEV_DEV_STAT_CONNECTED then s
  else
    let s := s.wr P.usb F.USBDEV_DEV_STAT_CONNECTED (b2n c)
    let s := if c then s else (usbAbort s).zero P.usb [F.USBDEV_DEV_STAT_SPEED, F.USBDEV_DEV_STAT_SUSPENDED]
    usbEv s 0

/-! ## Detach and port 1 as supply (R490) -/

/-- The end of what runs on a port: contract, swap, sequence and timers; a command in progress completes TIMEOUT or REJECTED. -/
def pdQuiet (s : State) (p : Nat) : State :=
  let s :=
    if (pdSt s p).cmd.isSome then
      let d := s.draw 1
      pdComplete d.2 p (if d.1 = 1 then PR.timeout else PR.rejected)
    else s
  let s := s.zero (P.pd p) [F.PD_PD_STAT_CONTRACT, F.PD_PD_STAT_SWAP_BUSY, F.PD_CONTRACT_V, F.PD_CONTRACT_I, F.PD_PD_STAT_BIST]
  setPd s p { pdSt s p with ams := 0, wait := false, txNG := false, timers := [], trans := none }

/-- VBUS0 has fallen below 4.0 V (R482, R500): the pre-regulator no longer drives SVC_GATE, and the USB device disconnects. -/
def vbusFall (s : State) : State :=
  let s := { s with usb := { s.usb with vbus0 := false, svc := false, overlap := none, ovOff := false } }
  if s.alive then usbConnect s else s

/-- The partner is gone. -/
def pdDetach (s : State) (p : Nat) : State :=
  if pdAttach s p = 0 then s
  else
    let s := pdQuiet s p
    let s := s.zero (P.pd p) [F.PD_PD_STAT_ATTACH, F.PD_PD_STAT_REV3, F.PD_PD_STAT_RP_ADV, F.PD_PD_STAT_DEAD_BATT]
    let s := setPd s p { pdSt s p with vbus := false, mv := 5000, caps := [], rp := false, cc := if p = 0 then 1 else (pdSt s p).cc }
    let s := if p = 0 then judgeBudget (tapEnd (vbusFall s)) else s
    pdEv s p 0

/-- Port 0 never sources VBUS under SERVICE power (R485). DESIGN CHOICE (log 115): as source it ends its attach there. -/
def sourceJudge (s : State) : State := if s.service && pdAttach s 0 == 2 then pdDetach s 0 else s

/-- Port 1 may supply. -/
def supplyOk (s : State) : Bool := s.pd 1 F.PD_PD_CFG_EN == 1 && !s.service && pgMain s

/-- Port 1 follows its conditions: it opens CC and turns VBUS1 off, or presents Rp again. -/
def supplyJudge (s : State) : State :=
  if supplyOk s then (if (pdSt s 1).cc = 0 then setPd s 1 { pdSt s 1 with cc := 2 } else s)
  else
    let s := pdDetach s 1
    setPd s 1 { pdSt s 1 with cc := 0, vbus := false }

/-! ## Domains that firmware switches (R15; MGMT.PWR_CTRL) -/

/-- A switched domain is to be on: 3 CORE, 6 FIELDLOG, 7 ETH. DEDUCED (log 13): FIELDLOG stays on under SERVICE power, under which
engines may run (R421), and its field-facing functions are off each for itself (R13). -/
def domWant (s : State) (d : Nat) : Bool :=
  match d with
  | 3 => s.on P.mgmt F.MGMT_PWR_CTRL_CORE_ON && s.st != NS.dawn
  | 6 => s.on P.mgmt F.MGMT_PWR_CTRL_FIELDLOG_ON && !s.isIn [NS.boot, NS.dawn]
  | _ => s.on P.mgmt F.MGMT_PWR_CTRL_ETH_ON

/-- STOPPED falls on the pages of FIELDLOG that are not told to stop. -/
def fieldlogStart (s : State) : State :=
  (P.edge :: (List.range 8).map P.can).foldl (fun t p =>
    if t.on p F.HDR_PAGE_CTRL_STOP then t else t.wr p F.HDR_PAGE_STAT_STOPPED 0) s

/-- One domain follows: on at once; off after its blocks have stopped (DOMAIN_OFF). -/
def domApply (s : State) (d : Nat) : State :=
  let on := s.bit P.mgmt F.MGMT_PWR_STAT_ON (d - 1)
  if domWant s d then
    let s := { s with mgmt := { s.mgmt with stopWait := s.mgmt.stopWait.filter (· != d) } }
    let s := if d = 6 then fieldlogStart s else s
    if on then s else raise (s.setBit P.mgmt F.MGMT_PWR_STAT_ON (d - 1) true) P.mgmt 0
  else if on && !s.mgmt.stopWait.contains d then { s with mgmt := { s.mgmt with stopWait := s.mgmt.stopWait ++ [d] } }
  else s

/-- All three follow, and the field cores with them (R511). -/
def domainsApply (s : State) : State := coresFollow ([3, 6, 7].foldl domApply s)

end Sys2Proof.Machine
end

