-- ==== Sys2Proof/Machine/NodeOps.lean ====
section
/-!
DEFINITION. Node states (03_node_states.md): entering a state, own-faults, state requests and their judgement, and the cold and
warm reset with what each preserves (01_architecture.md, R20 to R28).
-/

namespace Sys2Proof.Machine

/-! ## Presence (R139) -/

/-- One bit of the presence map takes a value: sessions and Drift follow the presence of the other end. -/
def setPresent (s : State) (a : Nat) (b : Bool) : State :=
  if 4096 ≤ a ∨ present s a = b then s
  else
    let n := s.rd P.halo F.HALO_RING_STAT_PRESENT_COUNT
    let s := s.setBit P.halo (F.HALO_PRESENT_P (a / 32)) (a % 32) b
    let s := s.wr P.halo F.HALO_RING_STAT_PRESENT_COUNT (if b then n + 1 else n - 1)
    let s := raise s P.halo 3
    let s := raiseIf s (s.role == 3 && s.rd P.gw F.GATEWAY_GW_CFG_PARTNER == a) P.gw (if b then 4 else 3)
    let s := if b then sesPeerPresent s a else sesPeerAbsent s a
    if isOwn s a then s else if b then driftPresent s a else driftAbsent s a

/-- The node's own bit (R139), and a gateway's of its ring-k address: it follows the node's own state. -/
def ownPresence (s : State) : State :=
  let b := s.working && s.on P.node F.NODE_STATE_INFO_JOIN_DONE
  let s := if s.ownValid then setPresent s s.own b else s
  if (sideAddr s true).1 then setPresent s (sideAddr s true).2 b else s

/-! ## Roles (R62) -/

/-- ROLE changes with its event. -/
def setRole (s : State) (r : Nat) : State :=
  if s.role = r then s else raise (s.wr P.node F.NODE_NODE_STATE_ROLE r) P.node 6

/-- STANDBY_PRIO: 3 acts as 0. -/
def standbyPrio (s : State) : Nat := let v := s.rd P.time F.TIME_ROLE_CFG_STANDBY_PRIO; if v = 3 then 0 else v

/-- The role that a node takes from its configuration in JOIN: GATEWAY with a ring k, STANDBY_ZENITH with a priority. -/
def configRole (s : State) : Nat :=
  if s.rd P.gw F.GATEWAY_GW_CFG_RING_K ≠ 0 then 3 else if standbyPrio s ≠ 0 then 2 else 0

/-! ## Entering a state -/

/-- Field cores stop at entry to ISOLATE (R59). -/
def haltCores (s : State) : State :=
  let r := s.rd P.cores F.CORES_CORE_STAT_RUNNING
  wdtsFollow ((s.wr P.cores F.CORES_CORE_STAT_ISOLATED r).wr P.cores F.CORES_CORE_STAT_RUNNING 0)

/-- A request that waits is dropped because the state refuses it (R65). -/
def deferDropped (s : State) : State := raise s P.node 7

/-- Fill STATE_REFUSE and set its event (R52). -/
def refuse (s : State) (target cause : Nat) : State :=
  let s :=
    if s.on P.node F.NODE_STATE_REFUSE_VALID then s
    else
      let t := (s.wr P.node F.NODE_STATE_REFUSE_VALID 1).wr P.node F.NODE_STATE_REFUSE_CAUSE cause
      (t.wr P.node F.NODE_STATE_REFUSE_FROM s.st).wr P.node F.NODE_STATE_REFUSE_TARGET target
  raise s P.node 1

/-- The bits of NODE.DEFER that show a held activation (R65). -/
def actDeferBits : List Fld := [F.NODE_DEFER_ACT_JOIN, F.NODE_DEFER_ACT_COAST, F.NODE_DEFER_GW_FAILOVER, F.NODE_DEFER_ACT_CHANGE]

/-- No activation is requested any more: what showed it as held is cleared. -/
def actForget (s : State) : State :=
  { s with mgmt := { s.mgmt with actDue := none, actHeld := false } }.zero P.node actDeferBits

/-- An own-fault abandons an activation in EXPORT or ACTIVATING (R66, R559, R565): nothing of it happens any more, and the node
boots the image that UPDATE marks active. DEDUCED (log 66): UPDATE reads NONE with RESULT ABANDONED from here on. -/
def actAbandon (s : State) : State :=
  if s.rd P.upd F.UPDATE_UPD_STAT_STATE < 3 then s
  else
    let s := (s.wr P.upd F.UPDATE_UPD_STAT_STATE 0).wr P.upd F.UPDATE_UPD_STAT_RESULT 14
    let s := actForget (s.wr P.node F.NODE_NODE_STATE_UPDATE 0)
    raise { s with mgmt := { s.mgmt with revert := false } } P.upd 5

/-- A transition that waits is refused BUSY at entry to ISOLATE. DESIGN CHOICE (log 67): it shows FROM = ISOLATE, the state in which
the refusal is made. -/
def isolateRefuse (s : State) : State :=
  match s.node.pendTarget with
  | some t => refuse { s with node := { s.node with pendTarget := none } } t 6
  | none => s

/-- The safe states at entry to ISOLATE: a field die that hears nothing applies them by its own watchdog (R8). -/
def isolateSafe (s : State) : State := if s.stitch.outDead then s else safeTrigger s allChans 4

/-- The node is source of neither ring. -/
def sourcesEnd (s : State) : State :=
  { s with time := { s.time with src := { s.time.src with orig := false }, srcK := { s.time.srcK with orig := false } } }

/-- Entry to ISOLATE (R59, R60). -/
def isolateEntry (s : State) : State :=
  let s := settleEdges (edgesDiscardAll (isolateSafe (isolateRefuse s)))
  let s := { haltCores s with node := { s.node with isoRecord := true, isoSince := s.upAt s.now } }
  let s := actForget (if s.mgmt.actHeld then deferDropped s else s)
  ownPresence (sourcesEnd ((canOut s).each 24 pioHalt))

/-- What entry to a state does (R42, R56, R59, R60, R62, R72). -/
def entryEffects (s : State) (st : Nat) : State :=
  if st = NS.join then
    let s := { s with node := { s.node with
      joinSince := s.upAt s.now, lockedB := true, laneSeen := (List.range 4).any fun i => ringLane s i && laneUp s i } }
    tracksEntry (resyncStart (setRole s (configRole s)))
  else if st = NS.isolate then isolateEntry s
  else if st = NS.dawn then branchesOff (safeTrigger ((canOut s).each 24 pioHalt) allChans 4 true) 0
  else tracksEntry (ownPresence s)

/-- The node enters a state. In ECLIPSE nothing but a warm reset changes it (R28). -/
def goState (s : State) (st : Nat) : State :=
  if s.st = NS.eclipse ∨ s.st = st then s else domainsApply (tapJudge (entryEffects (enterState s st) st))

/-! ## Own-faults (R58) -/

/-- Own-fault bits. -/
def OF.stitch : Nat := 0
def OF.eccTrack : Nat := 1
def OF.eccTable : Nat := 2
def OF.feedLost : Nat := 3
def OF.cutOff : Nat := 4
def OF.fdieWdt : Nat := 5
def OF.requested : Nat := 6
def OF.dupAddr : Nat := 7

/-- An own-fault is recorded; in RUN, COAST and COMMISSION the node enters ISOLATE. In ECLIPSE, where the rest stands still, one
is recorded with its event bit and nothing else (R57, R58). -/
def ownFault (s : State) (k : Nat) : State :=
  if s.st = NS.eclipse then evOnly (s.setBit P.node F.NODE_OWN_FAULT_CAUSE k true) P.node 4
  else
    let s := actAbandon (raise (s.setBit P.node F.NODE_OWN_FAULT_CAUSE k true) P.node 4)
    let s := hubLog s 3 none none (some (s.rd P.node F.NODE_OWN_FAULT_CAUSE))
    if s.isIn [NS.run, NS.coast, NS.commission] then goState s NS.isolate else s

/-- DESIGN CHOICE (log 94): a command that finds the node in ECLIPSE and names an own-fault that stood when it froze stands for one
in the clock of the trigger, which is recorded and does not enter ISOLATE (R57). -/
def faultAtFreeze (s : State) (b : Bool) (k : Nat) : State := if s.st = NS.eclipse ∧ b = true then ownFault s k else s

/-! ## POWER (R61) -/

/-- POWER changes with its event: switched domains, the service path and port 1 follow. -/
def setPower (s : State) (service : Bool) : State :=
  if s.service = service then s
  else
    let s := raise (s.wr P.node F.NODE_NODE_STATE_POWER (b2n service)) P.node 5
    let s := if service then sourceJudge (branchesOff s 0) else svcOverlap s
    judgeBudget (supplyJudge (domainsApply (canOut s)))

/-! ## State requests (R52 to R56) -/

/-- CFG_OK. -/
def cfgOk (s : State) : Bool := s.on P.node F.NODE_STATE_INFO_CFG_OK

/-- ALONE. -/
def alone (s : State) : Bool := s.on P.node F.NODE_STATE_INFO_ALONE

/-- The first failing condition of COMMISSION → RUN (transition 10, R53): its cause. -/
def runRefusal (s : State) : Option Nat :=
  if s.service then some 1
  else if !cfgOk s then some 2
  else if !pgMain s then some 3
  else if alone s then some 4
  else if s.line = 1 then some 5
  else none

/-- The targets that a state accepts (R52). -/
def listedTarget (st target : Nat) : Bool :=
  if st = NS.boot then target == NS.join
  else if st = NS.join then target == NS.commission || target == NS.maint
  else if st = NS.commission then target == NS.maint || target == NS.run || target == NS.isolate
  else if st = NS.run ∨ st = NS.coast then target == NS.isolate
  else if st = NS.maint then target == NS.commission
  else false

/-- A STATE_REQ write by initiator `ini` (R52 to R55). -/
def stateReq (s : State) (ini target : Nat) : State :=
  if target = s.st then s
  else if !listedTarget s.st target then refuse s target 0
  else if s.st = NS.boot then
    if ini = 4 ∧ s.node.imageOk then goState s NS.join else refuse s target 0
  else if s.st = NS.join then s.wr P.node F.NODE_STATE_INFO_HELD target
  else
    match if target = NS.run then runRefusal s else none with
    | some c => refuse s target c
    | none =>
      if s.node.pendTarget.isSome then refuse s target 6
      else { s with node := { s.node with pendTarget := some target } }

/-- Transitions 11 and 12 (R51, R63): the node state follows the line state. -/
def lineTransition (s : State) : State :=
  if s.st = NS.run ∧ s.line = 1 then goState s NS.coast
  else if s.st = NS.coast ∧ s.line ≠ 1 then goState s NS.run
  else s

/-- The accepted request is judged again at its tick instant (R54). -/
def pendTransition (s : State) : State :=
  match s.node.pendTarget with
  | none => s
  | some t =>
    let s := { s with node := { s.node with pendTarget := none } }
    if !listedTarget s.st t then refuse s t 0
    else if t = NS.isolate then ownFault s OF.requested
    else
      match if t = NS.run then runRefusal s else none with
      | some c => refuse s t c
      | none => goState s t

/-- Join is complete (R50), or the node is alone (R56). -/
def joinComplete (s : State) : Bool :=
  alone s || (s.ownValid && ((List.range 4).any fun i => ringLane s i && laneUp s i) && s.on P.node F.NODE_STATE_INFO_TIME_LOCK)

/-- The exit from JOIN (transitions 5 to 7, R55, R56, R66). -/
def joinExit (s : State) : State :=
  if s.st ≠ NS.join ∨ !joinComplete s then s
  else
    let s := s.wr P.node F.NODE_STATE_INFO_JOIN_DONE 1
    let held := s.rd P.node F.NODE_STATE_INFO_HELD
    let go := fun (s : State) (t : Nat) =>
      goState (s.zero P.node [F.NODE_DEFER_JOIN_NO_PG, F.NODE_DEFER_JOIN_COAST]) t
    if held = NS.maint then go s NS.maint
    else if alone s || held == NS.commission || !cfgOk s then go s NS.commission
    else if s.service then go s NS.maint
    else
      let noPg := !pgMain s
      let coast := s.line == 1 || !s.time.lineSeen
      let s := (s.wr P.node F.NODE_DEFER_JOIN_NO_PG (b2n noPg)).wr P.node F.NODE_DEFER_JOIN_COAST (b2n (coast && !noPg))
      if noPg || coast then s else go s NS.run

/-- Node-state transitions due at a tick instant (R82, step 3; R57 for their order). -/
def tickTransitions (s : State) : State := joinExit (pendTransition (lineTransition s))

/-! ## Warm reset requests (R25 to R28, R69) -/

/-- RESET_CAUSE bits. -/
def RC.powerOn : Nat := 1
def RC.pin : Nat := 2
def RC.wdtMgmt : Nat := 3
def RC.wdtCore : Nat := 4
def RC.software : Nat := 5
def RC.remote : Nat := 6
def RC.eclipse : Nat := 7
def RC.isolate : Nat := 8

/-- The field of a RESET_CAUSE bit. -/
def causeFld (k : Nat) : Fld := ⟨0x054, k, 1, .w1c, 0, .a⟩

/-- The partner gateway carries the joint as far as this node can tell (R69): it is present, and what its last NEIGHBOUR, if it
is a neighbour, says of its state and lanes agrees. -/
def partnerCarries (s : State) : Bool :=
  let p := s.rd P.gw F.GATEWAY_GW_CFG_PARTNER
  present s p && ((List.range 4).all fun i =>
    !(s.on (P.lane i) F.LANE_NBR_INFO_ADDR_VALID && s.rd (P.lane i) F.LANE_NBR_INFO_ADDR == p) ||
      (decide (3 ≤ s.rd (P.lane i) F.LANE_NBR_INFO_STATE ∧ s.rd (P.lane i) F.LANE_NBR_INFO_STATE ≤ 6) &&
        (s.lane i).nbrUp == 15))

/-- A warm reset is requested by source `k`. At a gateway a software or remote request waits for the partner. -/
def requestWarm (s : State) (k : Nat) : State :=
  if s.st = NS.eclipse then
    -- any warm reset ends the Eclipse (R28, R581)
    { s with node := { s.node with resetReq := (s.node.resetReq.filter (· != k)) ++ [k] } }
  else if s.role = 3 ∧ (k = RC.software ∨ k = RC.remote) ∧ !partnerCarries s then
    { s with node := { s.node with
      gwReset := (s.node.gwReset.filter (· != k)) ++ [k]
      gwSince := if s.node.gwReset.isEmpty then s.upAt s.now else s.node.gwSince } }.wr P.node F.NODE_DEFER_GW_RESET 1
  else { s with node := { s.node with resetReq := (s.node.resetReq.filter (· != k)) ++ [k] } }

/-- A deferred gateway reset is carried out once the partner carries the joint (R65, R69). -/
def gwResetTick (s : State) : State :=
  if !s.node.gwReset.isEmpty && partnerCarries s then
    { s with node := { s.node with gwReset := [], resetReq := s.node.resetReq ++ s.node.gwReset } }.wr P.node F.NODE_DEFER_GW_RESET 0
  else s

/-! ## What a reset keeps (R20) -/

/-- Registers kept: those whose key passes, without the lock and the key arm of the page (R46). -/
def keepRegs (s : State) (p : Key → Bool) : List (Key × Nat) :=
  s.regs.filter fun e => p e.1 && !(e.1.off == 0x008 && e.1.lsb == 31) && !(e.1.off == 0x00C && (e.1.lsb == 29 || e.1.lsb == 30))

/-- A page of the power-entry core. -/
def powerPage (p : Nat) : Bool := decide (0x0F0 ≤ p ∧ p ≤ 0x0F8)

/-- A page of the field die's channels, encoders, diagnostics and ADC. -/
def fieldPage (p : Nat) : Bool := decide (0x0A0 ≤ p ∧ p ≤ 0x0AA)

/-- A field of the session tables in TRACKRAM: the banked registers of SES_ and RSES_, and STALLEDw. -/
def sesKey (k : Key) : Bool :=
  (k.page == P.sestx && decide (0x094 ≤ k.off) && decide (k.off < 0x180)) ||
    (k.page == P.sesrx && decide (0x044 ≤ k.off) && decide (k.off < 0x080))

/-- What the SECURITY page keeps until a cold reset (R541): FAILS, UNLOCKED and the challenge. -/
def unlockKey (k : Key) : Bool :=
  k.page == P.sec && (k.off == 0x07C || (decide (0x0A0 ≤ k.off) && decide (k.off < 0x0C0)))

/-- The flash that a reset leaves. DEDUCED (log 56): a reset during an apply leaves the inactive slot without an image (R552), its
first 64 KiB, the header in them, erased. -/
def resetFlash (s : State) : List Host.Cell :=
  let b := if s.rd P.upd F.UPDATE_UPD_STAT_ACTIVE_SLOT = 0 then 0x52000000 else 0x51000000
  s.mem.filter fun c => decide (0x50000000 ≤ c.1 ∧ c.1 ≤ 0x5FFFFFFF) &&
    !(s.rd P.upd F.UPDATE_UPD_STAT_STATE == 1 && decide (b ≤ c.1 ∧ c.1 < b + 0x10000))

/-- What both resets keep: what waits outside, levels at the balls, AO, the fuses, the flash device, and the power-entry core
but for its page locks. -/
def resetBase (s : State) (keep : Key → Bool) : State :=
  { pending := s.pending, draws := s.draws, accFaults := s.accFaults, wire := s.wire, delivered := s.delivered
    regs := keepRegs s fun k => powerPage k.page || keep k
    mem := resetFlash s
    node := { rails := s.node.rails, rstLow := s.node.rstLow, inReset := true }
    field := { chans := tblMap s.field.chans {} fun x => { comp := x.comp }
               encs := s.field.encs, encIn := s.field.encIn }
    sigs := tblMap s.sigs {} fun x => { ext := x.ext }
    router := { evtIn := s.router.evtIn }
    power := { s.power with now := s.coreNow, seen := 0 }
    usb := { s.usb with
      armed := [], addr := 0
      port0 := { cc := 1 }, port1 := {} }
    ao := s.ao
    otp := s.otp }

/-- A cold reset (R20, R24, R48): RESET_CAUSE holds its source alone. `pin` is RST_N, which restarts the power-entry core
too (R608). -/
def coldReset (s : State) (pin : Bool) : State :=
  let t := resetBase s fun _ => false
  let t := if pin then svcKeep (powerRestart t) else t
  t.wr P.node (causeFld (if pin then RC.pin else RC.powerOn)) 1

/-- A warm reset (R20, R21, R26, R27, R75): TRACKRAM, the retained messages with their cells, class B fields with their lock,
the field die and the power-entry core are kept; field outputs go to their safe states (R365). -/
def warmReset (s : State) : State :=
  let keep := fun (k : Key) => fieldPage k.page || sesKey k || unlockKey k || classOf k == .b ||
    (k.page == P.node && (k.off == 0x054 || k.off == 0x06C)) ||
    (k.page == P.pd 0 && decide (k = ⟨P.pd 0, F.PD_PD_STAT_ATTACH.off, F.PD_PD_STAT_ATTACH.lsb, 0⟩ ∨
      k = ⟨P.pd 0, F.PD_PD_STAT_RP_ADV.off, F.PD_PD_STAT_RP_ADV.lsb, 0⟩))
  let srcs := s.node.resetReq ++ s.node.gwReset ++ (if s.st = NS.eclipse then [RC.eclipse] else [])
  let used := (s.ses.tx.map fun e => retCells e.2.ret).foldl (· + ·) 0
  let t := { resetBase s keep with
    -- no PIO signal reaches the field die with PINMUX at its reset values (R416)
    field := { s.field with waitEv := [], chans := tblMap s.field.chans {} fun x => { x with tx := false, en := false, wu := false } }
    drift := { recs := s.drift.recs }
    tracks := tblMap s.tracks {} fun x => { cont := x.cont }
    ses := { tx := s.ses.tx, rx := s.ses.rx }
    usb := { s.usb with
      armed := [], addr := 0
      port0 := { cc := s.usb.port0.cc, rp := s.usb.port0.rp, vbus := s.usb.port0.vbus }
      port1 := {} }
    sw := { used := used } }
  let t := { t with node := { t.node with lockedB := s.node.lockedB, warm := true } }
  let t := srcs.foldl (fun u k => u.wr P.node (causeFld k) 1) t
  let t := t.wr P.node F.NODE_STATE_INFO_PREV s.st
  -- the stitch link returns, and with it the field die's waiting events (R379)
  let t := s.field.waitEv.foldl (fun u k => evOnly u P.fdie k) t
  sesRelease (safeEnter evOnly t allChans 3)

end Sys2Proof.Machine
end

