-- ==== Sys2Proof/Machine/LinkOps.lean ====
section
/-!
DEFINITION. Ring lanes, HELLO, supervision, the ring map and addresses (05_ring_links_and_frames.md, R112 to R147).
-/

namespace Sys2Proof.Machine

/-! ## Tap copies (R497) -/

/-- A frame that passes step 3 of R128 on E or W is copied to the S1 queues while the Tap is on, if its class is in
TAP_CLASSES: its storage number, where the copy was admitted. Any class is dropped as R158 says where it does not fit. -/
def tapAdmit (s : State) (i : Nat) (f : Frame) (ready : Bool) : Option Nat × State :=
  if tapOn s && decide (i < 2) && bitOf (s.rd (P.pd 0) F.PD_PD_CFG_TAP_CLASSES) f.cls then
    let (id, s) := newId s
    let o := admitOne s 3 id f ready false (lanePort s i)
    if o.1 then (some id, o.2) else (none, dropAt o.2 3 f.cls)
  else (none, s)

/-- A SUPERVISION frame of a neighbour has arrived, on any lane (R58). DEDUCED (log 80): it has when its header has passed. -/
def noteSup (s : State) (f : Frame) : State :=
  if f.typ == 0xB && f.src != 0xFFF then
    s.each 4 fun t i => if (t.lane i).nbrWas = f.src then t.setLane i { t.lane i with supHere := true } else t
  else s

/-- A whole frame has passed step 3 on lane `i`: it is counted, and copied to the Tap. -/
def rxCount (s : State) (i : Nat) (f : Frame) : State :=
  (tapAdmit (noteSup (s.inc (P.lane i) F.LANE_RX_FRAMES_N) f) i f true).2

/-- S1 in the Tap role (R497). -/
def tapLane (s : State) (i : Nat) : Bool := i == 3 && tapOn s

/-! ## CHANGE notices and the ring map (R138, R139) -/

/-- Two reports name the same link: an end that is known agrees (an unknown end is 0xFFF). -/
def sameLink (a b : Nat × Nat) : Bool := (a.1 != 0xFFF && a.1 == b.1) || (a.2 != 0xFFF && a.2 == b.2)

/-- The link is one of the node's own ring. -/
def ownRingLink (s : State) (l : Nat × Nat) : Bool :=
  (if l.1 = 0xFFF then l.2 else l.1) / 1024 == s.rd P.halo F.HALO_RING_CFG_RING_NUM

/-- BREAKS, BROKEN and their events follow the list of links that are down. -/
def judgeBreaks (s : State) (l : List (Nat × Nat)) : State :=
  let was := s.rd P.halo F.HALO_RING_STAT_BREAKS
  let n := min 1023 (l.filter (ownRingLink s)).length
  let s := { s with halo := { s.halo with breaks := l } }
  let s := (s.wr P.halo F.HALO_RING_STAT_BREAKS n).wr P.halo F.HALO_RING_STAT_BROKEN (b2n (n != 0))
  raiseIf (raiseIf s (was == 0 && n != 0) P.halo 4) (was != 0 && n == 0) P.halo 5

/-- Both ring links of `x` are reported down: the one west of it and the one east of it. -/
def bothDown (s : State) (x : Nat) : Bool :=
  x != 0xFFF && s.halo.breaks.any (fun l => l.1 == x) && s.halo.breaks.any (fun l => l.2 == x)

/-- Apply a notice (R139): KIND 1 ABSENT, 2 PRESENT, 3 LINK_DOWN, 4 LINK_UP; it is idempotent. The node's own bit follows its own
state alone (`ownPresence`). -/
def applyChange (s : State) (kind a b : Nat) : State :=
  let mark := fun (u : State) (x : Nat) (b : Bool) => if isOwn u x then u else setPresent u x b
  if kind = 1 then mark s a false
  else if kind = 2 then mark s a true
  else if kind = 3 then
    let s := if ownRingLink s (a, b) then
        ((s.wr P.halo F.HALO_LAST_BREAK_VALID 1).wr P.halo F.HALO_LAST_BREAK_WEST_END a).wr P.halo
          F.HALO_LAST_BREAK_EAST_END b
      else s
    let s := if s.halo.breaks.any (sameLink (a, b)) then s else judgeBreaks s (s.halo.breaks ++ [(a, b)])
    let s := if bothDown s a then mark s a false else s
    if bothDown s b then mark s b false else s
  else if kind = 4 then judgeBreaks s (s.halo.breaks.filter fun l => !sameLink (a, b) l)
  else s

/-- A ring-wide SUPERVISION frame. -/
def supFrame (sub : Nat) (pay : List Nat) : Frame :=
  { typ := 0xB, cls := 6, reach := 0x3FF, dst := 1, mc := true, w4 := sub * 2 ^ 24, pay := pay }

/-- The payload of a CHANGE (R126). -/
def changePay (s : State) (kind a b : Nat) : List Nat :=
  beBytes 4 (kind * 2 ^ 28 + a % 4096 * 2 ^ 16 + b % 4096) ++ beBytes 4 s.tick ++ List.replicate 8 0

/-- Originate a CHANGE: the node applies it itself, sends it now and at the next two tick instants. -/
def changeNotice (s : State) (kind a b : Nat) : State :=
  let s := applyChange s kind a b
  let pay := changePay s kind a b
  let s := originate s 13 (supFrame 3 pay)
  { s with halo := { s.halo with repeats := s.halo.repeats ++ [(pay, 2)] } }

/-- The repeats due at a tick instant. -/
def changeRepeats (s : State) : State :=
  let l := s.halo.repeats
  let s := l.foldl (fun t e => originate t 13 (supFrame 3 e.1)) s
  { s with halo := { s.halo with repeats := (l.map fun e => (e.1, e.2 - 1)).filter fun e => decide (0 < e.2) } }

/-- The notice of a lane's link: the west end is the node whose role-E lane is on it. -/
def linkNotice (s : State) (i kind : Nat) : State :=
  if !ringLane s i then s
  else if laneRole s i = 0 then changeNotice s kind (ownOn s i) (nbrAddr s i)
  else changeNotice s kind (nbrAddr s i) (ownOn s i)

/-! ## HELLO (R114, R126) -/

/-- RING_SIZE in force for the ring of a lane: configured, or heard from a neighbour; 0 unknown (R142). DESIGN CHOICE (log 77): what a
gateway has configured is the size of ring 0. -/
def ringSize (s : State) (k : Bool) : Nat :=
  let cfg := s.rd P.halo F.HALO_RING_CFG_RING_SIZE
  let cfg := if k ∨ cfg < 2 ∨ 1024 < cfg then 0 else cfg
  if cfg ≠ 0 then cfg
  else ([0, 1, 2, 3].filter fun i => laneK i == k).foldl (fun a i => if a = 0 then (s.lane i).nbrSize else a) 0

/-- The node anchors the ring of a lane. -/
def anchors (s : State) (k : Bool) : Bool :=
  if k then s.on P.time F.TIME_ROLE_CFG_GW_PRIMARY else s.on P.halo F.HALO_RING_CFG_ANCHOR

/-- The node's own HELLO on lane `i`. -/
def helloFrame (s : State) (i : Nat) : Frame :=
  let a := sideAddr s (laneK i)
  let w := b2n a.1 * 2 ^ 31 + b2n (s.lane i).heard * 2 ^ 30 + b2n (anchors s (laneK i)) * 2 ^ 29 +
    s.rd (P.lane i) F.LANE_LANE_STAT_RX_INVERTED * 2 ^ 28 + laneRole s i * 2 ^ 26 + laneRing s i * 2 ^ 24 +
    (if a.1 then a.2 else 0)
  { typ := 0xD, cls := 7, copy := laneRole s i, reach := 1, dst := nbrAddr s i, src := ownOn s i, tick := s.tick % 65536,
    w4 := 2 ^ 24, pay := beBytes 8 s.otp.uid ++ beBytes 4 w ++ beBytes 4 (ringSize s (laneK i) * 2 ^ 16 + s.inc16) }

/-- Send a HELLO on lane `i`: outside the switch queues (R150). -/
def sendHello (s : State) (i : Nat) : State :=
  (s.emit (lanePort s i) (helloFrame s i)).inc (P.lane i) F.LANE_TX_FRAMES_N

/-! ## Up and down -/

/-- FLAP_HOLD in ns: 0 acts as 1 s. -/
def flapHold (s : State) (i : Nat) : Nat := max 1 (s.rd (P.lane i) F.LANE_LANE_CFG_FLAP_HOLD) * 1000000000

/-- A lane leaves UP, with the LINK_DOWN notice of its link (R138). -/
def leaveUp (s : State) (i st : Nat) : State :=
  linkNotice (laneExit s i st) i 3

/-- An UP lane goes down with a cause. -/
def laneGoDown (s : State) (i cause : Nat) : State := if laneUp s i then leaveUp (laneCause s i cause) i LS.signal else s

/-- The lane goes OFF: ENABLE = 0, or the safe point of a STOP (R114). -/
def laneOff (s : State) (i : Nat) : State :=
  if laneState s i = LS.off then s else if laneUp s i then leaveUp s i LS.off else setLaneState s i LS.off

/-- An OFF lane that may run starts. -/
def laneStart (s : State) (i : Nat) : State :=
  if laneState s i = LS.off ∧ s.enabled (P.lane i) ∧ !s.stopReq (P.lane i) then setLaneState s i LS.signal else s

/-! ## Addresses (R141 to R143) -/

/-- The position that the lane's side offers: eastward from its role-W lane, westward from its role-E lane; the fault where the
rule gives none. -/
def sideOffer (s : State) (i : Nat) : Option Nat × Option Nat :=
  match (s.lane i).offerPos with
  | none => (none, none)
  | some p =>
    let n := ringSize s (laneK i)
    if laneRole s i = 1 then
      if 1023 < p + 1 ∨ (n ≠ 0 ∧ n ≤ p + 1) then (none, some 3) else (some (p + 1), none)
    else if n = 0 then (none, some 4)
    else (some ((p + n - 1) % n), none)

/-- The rule of R142 on a side: (position, ADDR_SRC), and the fault that the sides give. The lane of role W comes first: its
OVERFLOW stands beside a position that the other lane offers. DESIGN CHOICE (log 77): ADDR_MODE and FIXED_POS are ring 0's; ring k
is anchored or positional. -/
def addressRule (s : State) (k : Bool) : Option (Nat × Nat) × Option Nat :=
  let lanes := ([0, 1, 2, 3].filter fun i => laneK i == k)
  let w := lanes.find? fun i => laneRole s i == 1
  let e := lanes.find? fun i => laneRole s i == 0
  let ow := match w with
    | some i => sideOffer s i
    | none => (none, none)
  let oe := match e with
    | some i => sideOffer s i
    | none => (none, none)
  if !k && s.on P.halo F.HALO_RING_CFG_ADDR_MODE then (some (s.rd P.halo F.HALO_RING_CFG_FIXED_POS, 4), none)
  else if anchors s k then (some (0, 1), none)
  else
    match ow.1, oe.1 with
    | some p, _ => (some (p, 2), none)
    | none, some p => (some (p, 3), ow.2)
    | none, none => (none, ow.2.or oe.2)

/-- Set ADDR_FAULT; CONFLICT (1) and DUPLICATE (2) raise ADDR_FAULT when they come. -/
def addrFault (s : State) (c : Nat) : State :=
  let was := s.rd P.halo F.HALO_JOIN_STAT_ADDR_FAULT
  raiseIf (s.wr P.halo F.HALO_JOIN_STAT_ADDR_FAULT c) ((c == 1 || c == 2) && was != c) P.halo 1

/-- ANNOUNCE of the node's address on one side (R126, R137). -/
def announceOn (s : State) (k : Bool) : State :=
  let a := (sideAddr s k).2
  originateOn s k 13 (supFrame 2 (beBytes 8 s.otp.uid ++
    beBytes 4 (b2n s.node.aoLost * 2 ^ 31 + a) ++ beBytes 4 s.inc16)) 0x3FF 0x3FF

/-- A side takes the address `a`, and its wait after ANNOUNCE begins (R137). DESIGN CHOICE (log 78): an ADDR_FAULT of NO_SIZE or
OVERFLOW that stood before stays. -/
def assignAddr (s : State) (k : Bool) (a src : Nat) : State :=
  if k then
    let s := announceOn ((s.wr P.gw F.GATEWAY_GW_ADDR_VALID 1).wr P.gw F.GATEWAY_GW_ADDR_ADDR a) true
    { s with halo := { s.halo with announcedAtK := s.upAt s.now } }
  else
    let s := (s.wr P.node F.NODE_NODE_ADDR_VALID 1).wr P.node F.NODE_NODE_ADDR_ADDR a
    let s := (s.wr P.halo F.HALO_JOIN_STAT_ADDR_VALID 1).wr P.halo F.HALO_JOIN_STAT_ADDR_SRC src
    let s := announceOn (raise s P.halo 0) false
    let s := (s.wr P.halo F.HALO_JOIN_STAT_ANNOUNCED 1).wr P.halo F.HALO_JOIN_STAT_AO_LOST (b2n s.node.aoLost)
    { s with halo := { s.halo with announcedAt := s.upAt s.now }, time := { s.time with listen := true } }

/-- One side takes an address in JOIN, once a lane of it is UP, or judges what is offered against the one it has (R142). -/
def takeAddress (s : State) (k : Bool) : State :=
  let lanes := ([0, 1, 2, 3].filter fun i => laneK i == k)
  let ad := sideAddr s k
  if ad.1 then
    let bad := lanes.any fun i => match (sideOffer s i).1 with
      | some p => p != ad.2 % 1024
      | none => false
    if bad then addrFault s 1 else s
  else if s.st ≠ NS.join ∨ alone s ∨ s.halo.withdrawn ∨ (k = true ∧ s.role ≠ 3) ∨ !(lanes.any fun i => laneUp s i) then s
  else
    match addressRule s k with
    | (some (p, src), c) =>
      assignAddr (match c with
        | some c => addrFault s c
        | none => s) k ((if k then s.rd P.gw F.GATEWAY_GW_CFG_RING_K else s.rd P.halo F.HALO_RING_CFG_RING_NUM) * 1024 + p) src
    | (none, some c) => addrFault s c
    | (none, none) => s

/-- A node that is in JOIN takes its addresses where a lane is UP already (R141). -/
def joinAddress (s : State) : State := if s.st = NS.join then takeAddress (takeAddress s false) true else s

/-- The node withdraws from its address (R143). DESIGN CHOICE (log 77): a gateway whose ring-k address is contested withdraws as a
node, from NODE_ADDR, and GW_ADDR.VALID stands. -/
def withdrawAddr (s : State) : State :=
  let s := setPresent s s.own false
  let s := (s.wr P.node F.NODE_NODE_ADDR_VALID 0).wr P.halo F.HALO_JOIN_STAT_ADDR_VALID 0
  let s := addrFault s 2
  let s := { s with halo := { s.halo with withdrawn := true } }
  if s.isIn [NS.boot, NS.dawn, NS.join] then s else ownFault s OF.dupAddr

/-- The node had left JOIN when it froze (R57, R58). -/
def leftJoin (s : State) : Bool := !([NS.boot, NS.dawn, NS.join].contains (s.rd P.node F.NODE_STATE_INFO_PREV))

/-! ## Entry to UP (R114) -/

/-- A lane enters UP. -/
def goUp (s : State) (i : Nat) : State :=
  let was := (s.lane i).wasUp
  let s := setLaneState s i LS.up
  let s := sendHello (s.setLane i { s.lane i with heard := true, wasUp := true }) i
  let s := raise s (P.lane i) 0
  let s := if ringLane s i then { s with node := { s.node with laneSeen := true } } else s
  let s := if was then linkNotice s i 4 else s
  takeAddress s (laneK i)

/-- The first check of R115 that a HELLO fails: its cause. -/
def helloFault (s : State) (i uid role ring : Nat) : Option Nat :=
  if uid = s.otp.uid then some LC.loopback
  else if ring ≠ laneRing s i then some LC.ringMismatch
  else if role = laneRole s i then some LC.crossed
  else none

/-- A lane enters FAULT with a cause. -/
def laneFault (s : State) (i c : Nat) : State :=
  let s := laneCause s i c
  if laneState s i = LS.fault then s else raise (setLaneState s i LS.fault) (P.lane i) 3

/-- The node reverses its lanes when all of R120 holds; the crossed lanes then go UP. DESIGN CHOICE (log 79): a lane that has fallen
back to SIGNAL since its HELLO counts as one that has received none. -/
def judgeReversal (s : State) : State :=
  let heard := [0, 1].filter fun i => (s.lane i).heard
  let crossed := fun (i : Nat) => laneState s i == LS.fault && s.rd (P.lane i) F.LANE_LANE_STAT_CAUSE == LC.crossed
  if !s.ownValid && !anchors s false && s.role != 3 && !s.reversed && !heard.isEmpty && heard.all crossed &&
      heard.any (fun i => s.on (P.lane i) F.LANE_NBR_INFO_ADDR_VALID) then
    let s := s.each 4 fun t i => t.wr (P.lane i) F.LANE_LANE_STAT_REVERSED 1
    heard.foldl (fun t i => if (t.lane i).over200 then t else goUp t i) s
  else s

/-- A valid HELLO arrives on lane `i` (R114, R115, R120, R142). -/
def onHello (s : State) (i : Nat) (f : Frame) : State :=
  let uid := beAt f.pay 0 8
  let w := beAt f.pay 8 4
  let x := beAt f.pay 12 4
  let av := bitOf w 31
  let role := bitsOf w 26 2
  let p := P.lane i
  let s := (s.wr p F.LANE_NBR_INFO_VALID 1).wr p F.LANE_NBR_INFO_LANE role
  let s := (s.wr p F.LANE_NBR_INFO_ADDR_VALID (b2n av)).wr p F.LANE_NBR_INFO_ADDR (if av then w % 4096 else 0)
  let s := s.wr64 p F.LANE_NBR_UID_LO_UID F.LANE_NBR_UID_HI_UID uid
  let size := bitsOf x 16 11
  let s := s.setLane i { s.lane i with
    heard := true, nbrInc := x % 65536, nbrSize := if size ≠ 0 then size else (s.lane i).nbrSize
    offerPos := if av then some (w % 1024) else none }
  let st := laneState s i
  let s :=
    match helloFault s i uid role (bitsOf w 24 2) with
    | some c => if st = LS.hello ∨ st = LS.fault then laneFault s i c else laneCause s i c
    | none => if !(s.lane i).over200 && ((st == LS.hello && bitOf w 30) || st == LS.fault) then goUp s i else s
  let s := if st = LS.up ∧ !bitOf w 30 then sendHello s i else s
  takeAddress (judgeReversal s) (laneK i)

/-! ## Neighbours (R138) -/

/-- The node's own NEIGHBOUR frame. -/
def neighbourFrame (s : State) (i : Nat) : Frame :=
  let ups := (List.range 4).foldl (fun a l => if laneUp s l then withBit a l else a) 0
  let w := s.st * 2 ^ 28 + s.role * 2 ^ 26 + b2n s.service * 2 ^ 25 + s.rd P.node F.NODE_STATE_INFO_JOIN_DONE * 2 ^ 24 +
    b2n (sideAddr s (laneK i)).1 * 2 ^ 23 + ups * 2 ^ 16 + s.inc16
  { typ := 0xB, cls := 6, reach := 1, dst := nbrAddr s i, w4 := 2 ^ 24,
    pay := beBytes 4 w ++ beBytes 4 s.tick ++ beBytes 8 s.otp.uid }

/-- A NEIGHBOUR arrives on lane `i`. -/
def onNeighbour (s : State) (i : Nat) (f : Frame) : State :=
  let w := beAt f.pay 0 4
  let av := bitOf w 23
  let p := P.lane i
  let st := bitsOf w 28 4
  let s := s.wr p F.LANE_NBR_INFO_STATE st
  let s := (s.wr p F.LANE_NBR_INFO_ADDR_VALID (b2n av)).wr p F.LANE_NBR_INFO_ADDR (if av then f.src else 0)
  let s := s.setLane i { s.lane i with
    nbrHere := true, nbrWas := if av then f.src else (s.lane i).nbrWas, nbrInc := w % 65536, nbrUp := bitsOf w 16 4
    offerPos := if av then some (f.src % 1024) else none, supHere := true }
  let s := if bitOf w 24 && decide (3 ≤ st ∧ st ≤ 6) && !s.on p F.LANE_LANE_STAT_NBR_PRESENT then
      let s := s.wr p F.LANE_LANE_STAT_NBR_PRESENT 1
      if av then changeNotice s 2 f.src 0 else s
    else s
  takeAddress s (laneK i)

/-- Three ticks have been missed on lane `i`. -/
def neighbourMissed (s : State) (i : Nat) : State :=
  let was := s.on (P.lane i) F.LANE_LANE_STAT_NBR_PRESENT
  let a := (s.lane i).nbrWas
  let s := raise (s.wr (P.lane i) F.LANE_LANE_STAT_NBR_PRESENT 0) (P.lane i) 5
  if was && a != 0xFFF then changeNotice s 1 a 0 else s

/-- The tick that ends is judged on every ring lane (R138), and for CUT_OFF (R58) over the neighbours that the node had at the
start of the run of missed ticks: any SUPERVISION frame of one of them ends the run, whichever lane it came on. -/
def nbrTick (s : State) : State :=
  let s := s.each 4 fun t i =>
    let t := if t.node.supMiss = 0 then t.setLane i { t.lane i with hadNbr := t.on (P.lane i) F.LANE_LANE_STAT_NBR_PRESENT } else t
    if ringLane t i then
      if (t.lane i).nbrHere && laneUp t i then t.wr (P.lane i) F.LANE_LANE_STAT_SUP_MISSED 0
      else (t.wr (P.lane i) F.LANE_LANE_STAT_SUP_MISSED (min 15 (t.rd (P.lane i) F.LANE_LANE_STAT_SUP_MISSED + 1))).inc
        (P.lane i) F.LANE_NBR_MISSED_N
    else t
  let had := (List.range 4).filter fun i => (s.lane i).hadNbr
  let miss := !had.isEmpty && had.all fun i => !(s.lane i).supHere
  let s := { s with node := { s.node with supMiss := if miss then s.node.supMiss + 1 else 0 } }
  s.each 4 fun t i => t.setLane i { t.lane i with nbrHere := false, supHere := false }

/-! ## Composed words -/

/-- LANE_STAT as one word (R144): ROLE, RING and DOWNS are formed from what they report. -/
def laneStatWord (s : State) (i : Nat) : Nat :=
  let r := fun (f : Fld) => s.rd (P.lane i) f * 2 ^ f.lsb
  let role := if ringLane s i then laneRole s i else if i = 3 ∧ tapOn s then 3 else 2
  r F.LANE_LANE_STAT_STATE + r F.LANE_LANE_STAT_CAUSE + r F.LANE_LANE_STAT_RX_INVERTED + r F.LANE_LANE_STAT_CLK_RANGE +
    r F.LANE_LANE_STAT_REVERSED + r F.LANE_LANE_STAT_NBR_PRESENT + r F.LANE_LANE_STAT_SUP_MISSED +
    role * 2 ^ 14 + (if ringLane s i then laneRing s i else 0) * 2 ^ 12 + min 255 (downsAt s i s.now).length

/-- NODE_STATE as one word. -/
def nodeStateWord (s : State) : Nat :=
  let r := fun (f : Fld) => s.rd P.node f * 2 ^ f.lsb
  r F.NODE_NODE_STATE_STATE + r F.NODE_NODE_STATE_POWER + r F.NODE_NODE_STATE_ROLE + r F.NODE_NODE_STATE_UPDATE +
    r F.NODE_NODE_STATE_LINE

end Sys2Proof.Machine
end

