-- ==== Sys2Proof/Machine/TxnOps.lean ====
section
/-!
DEFINITION. The requester side of the transaction engine (08_transactions_and_bridging.md, R206 to R223, R226): tags, streams,
completions, the read-holding slots, and the transfer descriptors that transactions serve.
-/

namespace Sys2Proof.Machine

/-! ## Windows and settings -/

/-- The address of an offset in the window of a node (R206). -/
def winAddr (dst off : Nat) : Nat := 0x100000000 + dst * 0x1000000 + off

/-- Node and offset of an address in a window. -/
def winOf (a : Nat) : Option (Nat × Nat) :=
  if 0x100000000 ≤ a ∧ a < 0x1100000000 then some ((a - 0x100000000) / 0x1000000, a % 0x1000000) else none

/-- TXN_CFG and SLOT_CFG, used within their ranges (R236). -/
def retryTo (s : State) : Nat := max 1 (s.rd P.txn F.TXN_TXN_CFG_RETRY_TO)
def holdTicks (s : State) : Nat := max 1 (s.rd P.txn F.TXN_TXN_CFG_HOLD_TICKS)
def txnTimeout (s : State) : Nat := max 8 (s.rd P.txn F.TXN_TXN_CFG_TIMEOUT)
def slotHold (s : State) : Nat := max 16 (s.rd P.txn F.TXN_SLOT_CFG_SLOT_HOLD)
def gwSettle (s : State) : Nat := max 1 (s.rd P.txn F.TXN_SLOT_CFG_GW_SETTLE)

/-- Quota of an INIT: 5 and 6 share XFER. -/
def quotaOf (s : State) (init : Nat) : Nat :=
  clampNat 1 512 (s.rd P.txn (match init with
    | 0 => F.TXN_QUOTA0_CORE0 | 1 => F.TXN_QUOTA0_CORE1 | 2 => F.TXN_QUOTA1_CORE2 | 3 => F.TXN_QUOTA1_CORE3
    | 4 => F.TXN_QUOTA2_HOST | _ => F.TXN_QUOTA2_XFER))

/-- The initiator code (NODE.WRITE_REJECT1) of an INIT. -/
def initCode (init : Nat) : Nat := match init with
  | 4 => 6 | 6 => 4 | k => k

/-- Bytes of a request's block or operand, by OP and LEN (R209). -/
def opBytes (op len : Nat) : Nat :=
  match op with
  | 1 | 4 | 0xA | 0xB | 0xC | 0xD => 8
  | 2 | 5 => 4 * len + 4
  | _ => 4

/-- A read that carries data but changes nothing. -/
def opReads (op : Nat) : Bool := op ≤ 2

/-- A write, atomic or event: it needs the target's incarnation (R222). -/
def opChanges (op : Nat) : Bool := 3 ≤ op

/-- An atomic. -/
def opAtomic (op : Nat) : Bool := 6 ≤ op && op ≤ 0xD

/-! ## Tags (R211, R217) -/

/-- An outstanding transaction. -/
def tagAt (s : State) (n : Nat) : Option TagSt := s.txn.tags.at none n

/-- Set or free a tag. -/
def setTag (s : State) (n : Nat) (g : Option TagSt) : State :=
  { s with txn := { s.txn with tags := s.txn.tags.put none n g } }

/-- The tags in use. -/
def tagsUsed (s : State) : List (Nat × TagSt) := s.txn.tags.filterMap fun e => e.2.map fun g => (e.1, g)

/-- Outstanding requests of a stream. -/
def streamTags (s : State) (init dst : Nat) : List (Nat × TagSt) :=
  (tagsUsed s).filter fun e => e.2.init == init && e.2.dst == dst

/-- ORD of the next request of a stream. -/
def nextOrd (s : State) (init dst : Nat) : Nat := s.txn.ords.at 0 (init * 4096 + dst)

/-- The stream may take `n` more requests (R217): none is 64 or more beyond its oldest outstanding one. -/
def ordRoom (s : State) (init dst n : Nat) : Bool :=
  (streamTags s init dst).all fun e => decide ((nextOrd s init dst + 256 - e.2.ord) % 256 + n ≤ 64)

/-- An initiator may take `n` more tags. -/
def mayTake (s : State) (init dst n : Nat) : Bool :=
  let used := tagsUsed s
  let mine := used.filter fun e => if 5 ≤ init then decide (5 ≤ e.2.init) else e.2.init == init
  decide (mine.length + n ≤ quotaOf s init) && decide (used.length + n ≤ 512) && ordRoom s init dst n

/-- Put a request under the lowest free tag, with the next ORD of its stream. -/
def putTag (s : State) (g : TagSt) : Nat × State :=
  let k := ((List.range 512).find? fun k => (tagAt s k).isNone).getD 0
  let o := nextOrd s g.init g.dst
  let s := { s with txn := { s.txn with ords := s.txn.ords.put 0 (g.init * 4096 + g.dst) ((o + 1) % 256) } }
  (k, setTag s k (some { g with ord := o }))

/-- The frame of a request (R209, R227). -/
def txnFrame (s : State) (n : Nat) (g : TagSt) (retry isNew : Bool) : Frame :=
  let inc := s.halo.incs.at 0 g.dst
  let w3 := n * 2 ^ 23 + g.init * 2 ^ 20 + b2n retry * 2 ^ 19 + b2n isNew * 2 ^ 18 + b2n (inc != 0) * 2 ^ 17 + (inc - 1)
  if g.op = 0xE then
    { typ := 8, cls := 4, dst := g.dst, evf := g.evf, w3 := w3, w4 := g.off % 2 ^ 20, w5 := g.ord * 2 ^ 18 }
  else
    { typ := 3, cls := 4, dst := g.dst, evf := g.evf, w3 := w3, w4 := g.op * 2 ^ 28 + g.off % 2 ^ 24
      w5 := g.len * 2 ^ 26 + g.ord * 2 ^ 18, pay := g.bytes }

/-- Send a request, first or again (R217, R219). -/
def sendTag (s : State) (n : Nat) : State :=
  match tagAt s n with
  | none => s
  | some g =>
    match g.first with
    | some _ =>
      let s := setTag s n (some { g with last := s.ticks })
      originate (s.inc P.txn F.TXN_CNT_RETRY_N) 9 (txnFrame s n g true g.isNew)
    | none =>
      let fresh := (streamTags s g.init g.dst).all fun e => e.1 == n || e.2.first.isNone
      let s := setTag s n (some { g with first := some s.ticks, last := s.ticks, isNew := fresh })
      originate (s.inc P.txn F.TXN_CNT_ISSUED_N) 9 (txnFrame s n g false fresh)

/-- Take a request (R211, R222, R223): its tag, or none where the initiator waits. A write, atomic or event to a node whose
incarnation is unknown waits for an RD32 of offset 0 that goes ahead of it, which is sent even where the request itself finds no
tag yet. An EVENT that an RD32 goes just before marks it (R226). -/
def takeTag (s : State) (g : TagSt) : Option Nat × State :=
  let known := s.halo.incs.at 0 g.dst != 0
  let waits := opChanges g.op && !known
  let fetch := waits && !(streamTags s g.init g.dst).any fun e => e.2.fetch
  let s :=
    if fetch && mayTake s g.init g.dst 1 then
      let x := putTag s { g with
        op := 0, off := 0, len := 0, bytes := [], first := none, evf := g.op == 0xE, fetch := true, exp := 0, xfer := (0, 0) }
      sendTag (x.2.inc P.txn F.TXN_CNT_INC_FETCH_N) x.1
    else s
  if !mayTake s g.init g.dst 1 then (none, s)
  else
    let x := putTag s g
    (some x.1, if waits then x.2 else sendTag x.2 x.1)

/-! ## Holding slots (R214) -/

/-- A read-holding slot. -/
def holdAt (s : State) (k : Nat) : Option HoldSlot := s.txn.slots.at none k

/-- Set or free a slot. -/
def setHold (s : State) (k : Nat) (x : Option HoldSlot) : State :=
  { s with txn := { s.txn with slots := s.txn.slots.put none k x } }

/-- Slots in use. -/
def holdsUsed (s : State) : List (Nat × HoldSlot) := s.txn.slots.filterMap fun e => e.2.map fun x => (e.1, x)

/-- Data and status reach every slot that waits for tag `n`. -/
def fillHolds (s : State) (n status : Nat) (data : List Nat) : State :=
  (holdsUsed s).foldl (fun t e =>
    if e.2.tag = n ∧ e.2.data.isNone then
      setHold t e.1 (some { e.2 with
        data := some (if status = 0 then slice data e.2.skip e.2.size else [], status), since := t.ticks })
    else t) s

/-! ## Completions (R210, R212, R219, R222) -/

/-- What an initiator is told: (INIT, address, STATUS, data). -/
def answer (s : State) (init addr status : Nat) (data : List Nat) : State :=
  { s with txn := { s.txn with results := (init, addr, status, data) :: s.txn.results } }

/-- A failing completion is captured with CODE = 0x10 + STATUS: in HOSTPORT for the host port (R439), else in TXN. -/
def txnCapture (s : State) (init addr status : Nat) : State :=
  errCapture s (if init = 4 then P.host else P.txn) (0x10 + status) addr (initCode init) 0

/-- A posted write or event of an initiator has failed (R212, R439). -/
def writeFailed (s : State) (init addr status : Nat) : State :=
  let s := txnCapture s init addr status
  if init = 4 then raise s P.host 1 else raise s P.txn 0

/-- An export's event completes (R521). -/
def exportDone (s : State) (e status : Nat) : State :=
  let s := s.setBit P.ev3 F.EVENTC_EXP_STAT_BUSY e false
  if status = 0 then s
  else (s.setBit P.ev3 F.EVENTC_EXP_STAT_FAIL e true).inc P.ev3 F.EVENTC_CNT_EXPORT_FAIL_N

/-- The descriptors of a transfer channel in flight. -/
def descsOf (s : State) (c : Nat) : List XferDesc := s.txn.descs.at [] c

/-- Set them. -/
def setDescs (s : State) (c : Nat) (l : List XferDesc) : State :=
  { s with txn := { s.txn with descs := s.txn.descs.put [] c l } }

/-- Change the descriptor with ring index `idx`. -/
def mapDesc (s : State) (c idx : Nat) (f : XferDesc → XferDesc) : State :=
  setDescs s c ((descsOf s c).map fun d => if d.idx = idx then f d else d)

/-- A piece of a descriptor comes to its end (R234, R235). -/
def pieceDone (s : State) (g : TagSt) (status : Nat) (data : List Nat) : State :=
  let a := winAddr g.dst g.off
  mapDesc s (g.xfer.1 - 1) g.xfer.2 fun d =>
    let d := { d with out := d.out - 1, status := if d.status = 0 then status else d.status }
    if status ≠ 0 then d
    else if opAtomic g.op then { d with got := d.got ++ [(0, data)] }
    else if opReads g.op then { d with got := d.got ++ [(a - d.src, data)] }
    else { d with done := d.done + opBytes g.op g.len }

/-- A transaction ends with a status. -/
def endTag (s : State) (n status : Nat) (data : List Nat) : State :=
  match tagAt s n with
  | none => s
  | some g =>
    let s := setTag s n none
    let a := winAddr g.dst g.off
    let s := if status = TS.timeout then countRaise s P.txn F.TXN_CNT_TIMEOUT_N P.txn 1 else s
    let s := raiseIf s (status == TS.targetReset) P.txn 2
    if g.fetch then s
    else if g.exp ≠ 0 then exportDone s (g.exp - 1) status
    else if g.xfer.1 ≠ 0 then pieceDone s g status data
    else if opReads g.op || opAtomic g.op then
      fillHolds (s.when (status != 0 && g.init != 4) (txnCapture · g.init a status)) n status data
    else if status = 0 then s
    else writeFailed s g.init a status

/-- The requests that wait behind a fetch of the stream. -/
def fetchWaits (s : State) (g : TagSt) : List (Nat × TagSt) := (streamTags s g.init g.dst).filter fun e => e.2.first.isNone

/-- Any completion of the fetch, whatever its STATUS, sends the requests that wait for it, in their order (R222). -/
def fetchServed (s : State) (g : TagSt) : State :=
  let ids := (List.range 64).filterMap fun k => ((fetchWaits s g).find? fun e => (g.ord + 1 + k) % 256 == e.2.ord).map (·.1)
  ids.foldl sendTag s

/-- A transaction ends; where it was the fetch of an incarnation, the requests that wait for it are sent, or end with its
status where it ends ABSENT or TIMEOUT (R222). -/
def completeTag (s : State) (n status : Nat) (data : List Nat) : State :=
  match tagAt s n with
  | none => s
  | some g =>
    let s := endTag s n status data
    if !g.fetch then s
    else if status = TS.absent ∨ status = TS.timeout then (fetchWaits s g).foldl (fun t e => endTag t e.1 status []) s
    else fetchServed s g

/-- Queue of the requests that reach the transaction engine: class 4 at port 9. -/
def inQueue : Nat := 8 * 9 + 4

/-- Requests that a stream slot holds give their cells back (R218). -/
def heldBack (s : State) (l : List InReq) : State := l.foldl (fun t r => dischargeCells t inQueue r.cells r.cells) s

/-- SEQ_RESTART of a node (R220, R222): its stream slots are released, and every transaction to it ends with TARGET_RESET. -/
def txnRestart (s : State) (src : Nat) : State :=
  let gone := s.txn.streams.filterMap fun e => e.2.filter fun x => x.src == src
  let s := heldBack s (gone.flatMap (·.held))
  let s := { s with txn := { s.txn with streams := s.txn.streams.filter fun e => match e.2 with
    | some x => x.src != src
    | none => true } }
  ((tagsUsed s).filter fun e => e.2.dst == src).foldl (fun t e => endTag t e.1 TS.targetReset []) s

/-! ## Taking requests -/

/-- A request as an initiator makes it. -/
def newReq (init dst op off len : Nat) (bytes : List Nat) : TagSt :=
  { init := init, dst := dst, op := op, off := off, len := len, ord := 0, bytes := bytes, first := none, last := 0, isNew := false }

/-- Send an EVENT in the stream of `init` (R226): the request just before it carries EVF from now on. False where the
initiator waits for a tag. -/
def sendEvent (s : State) (init dst k value exp : Nat) : Bool × State :=
  match takeTag s { newReq init dst 0xE (k % 16 * 2 ^ 16 + value % 2 ^ 16) 0 [] with exp := exp } with
  | (none, s) => (false, s)
  | (some _, s) =>
    let prev := (nextOrd s init dst + 254) % 256
    match (streamTags s init dst).find? fun e => e.2.ord == prev with
    | some (n, g) => (true, setTag s n (some { g with evf := true }))
    | none => (true, s)

/-- Exports take their tags, oldest first; a destination that is absent fails at once (R208, R521). -/
def pumpExports (s : State) : State :=
  s.router.exports.foldl (fun t x =>
    let keep := fun (u : State) => { u with router := { u.router with exports := u.router.exports ++ [x] } }
    match x with
    | (e, dst, k, src) =>
      if !present t dst then exportDone t e TS.absent
      else
        let r := sendEvent t 6 dst k src (e + 1)
        if r.1 then r.2 else keep r.2)
    { s with router := { s.router with exports := [] } }

/-! ## Resending, timeout and release (R215, R219, R220) -/

/-- RETRY_TO ticks have passed since the last send: the presence is looked at again, then the request is resent. -/
def txnResend (s : State) (n : Nat) : State :=
  match tagAt s n with
  | none => s
  | some g =>
    match g.first with
    | none => s
    | some _ =>
      if s.ticks < g.last + retryTo s then s
      else if !present s g.dst then completeTag s n TS.absent []
      else sendTag s n

/-- TIMEOUT ticks have passed since the first send. -/
def txnExpire (s : State) (n : Nat) : State :=
  match tagAt s n with
  | none => s
  | some g =>
    match g.first with
    | none => s
    | some t => if s.ticks < t + txnTimeout s then s else completeTag s n TS.timeout []

/-- The page that an offset in a window names has SIDEFX = 1. -/
def sidefxAt (off : Nat) : Bool := decide (off < 0x400000) && (((pageRow (off / 0x1000)).map (·.sidefx)).getD false)

/-- An entry goes to the orphan read log (R215). -/
def orphan (s : State) (x : OrphEnt) : State :=
  let full := decide (32 ≤ s.txn.orphans.length)
  let l := if full then s.txn.orphans.drop 1 else s.txn.orphans
  let s := raise { s with txn := { s.txn with orphans := l ++ [x] } } P.txn 3
  if full then raise ((s.inc P.txn F.TXN_CNT_ORPHAN_LOST_N).wr P.txn F.TXN_ORPH_STAT_OVF 1) P.txn 4 else s

/-- A holding slot that nobody has collected is released. A failed fetch holds no content to log. -/
def holdRelease (s : State) (k : Nat) : State :=
  match holdAt s k with
  | none => s
  | some x =>
    match x.data with
    | none => s
    | some (d, st) =>
      if s.ticks < x.since + holdTicks s then s
      else
        let s := setHold s k none
        if st == 0 && (opAtomic x.op || sidefxAt (x.addr % 0x1000000)) then
          orphan s { addr := x.addr, init := x.init, op := x.op, data := leVal d, time := s.now }
        else s.inc P.txn F.TXN_CNT_UNCOLLECTED_N

/-- A stream slot without a request for SLOT_HOLD ticks is released. -/
def streamRelease (s : State) (k : Nat) : State :=
  match s.txn.streams.at none k with
  | none => s
  | some x =>
    if s.ticks < x.touch + slotHold s then s
    else
      let s := heldBack s x.held
      { s with txn := { s.txn with streams := s.txn.streams.put none k none } }

end Sys2Proof.Machine
end

