-- ==== Sys2Proof/Machine/Gateway.lean ====
section
/-!
DEFINITION. The gateway of a joint (08_transactions_and_bridging.md, R229 to R233, R238): which of the two is active, what
crosses, and the crossing numbers.
-/

namespace Sys2Proof.Machine

/-- The inactive gateway becomes active (R232): each tracked source goes on at the tracked value + 64, others at 0. -/
def gwTakes (s : State) : State :=
  if s.time.srcK.orig then s
  else
    let s := { s with
      time := { s.time with srcK := { s.time.srcK with orig := true }, yieldK := false }
      txn := { s.txn with
        cross := s.txn.track.filterMap fun (e : Nat × Option Nat) => e.2.map fun v => (e.1, (v + 64) % 65536), track := [], failTick := s.ticks } }
    raise (s.wr P.gw F.GATEWAY_GW_STAT_FAILOVER 1) P.gw 0

/-- It stops being the source of ring k (R101). -/
def gwYields (s : State) : State :=
  { s with time := { s.time with yieldK := false, srcK := { s.time.srcK with orig := false } } }

/-- HANDOVER_DONE (R232): GW_SETTLE ticks after the failover. -/
def execHandoverDone (s : State) : Out :=
  .next (if s.alive && s.on P.gw F.GATEWAY_GW_STAT_FAILOVER && decide (s.txn.failTick + gwSettle s ≤ s.ticks) then
    raise (s.wr P.gw F.GATEWAY_GW_STAT_FAILOVER 0) P.gw 1
  else s)

end Sys2Proof.Machine
end

