-- ==== Sys2Proof/Machine/TimeOps.lean ====
section
/-!
DEFINITION. Ring time, TICK, the servo, closure, missed ticks and tick commands (04_tick_and_ring_time.md). Offsets are in
2^-16 ns, stamps in 1/16 ns.
-/

namespace Sys2Proof.Machine

/-! Places of roundings. -/
def Rnd.est : Nat := 20
def Rnd.offset : Nat := 21
def Rnd.incr : Nat := 22
def Rnd.ppb : Nat := 23
def Rnd.asym : Nat := 24
def Rnd.mean : Nat := 25
def Rnd.probe : Nat := 26

/-! ## Settings used within their ranges (R81, R92, R93, R96, R110) -/

/-- M: the nearest limit of 1,000 ns to L/2, rounded down to 10 ns (log 69). -/
def commitM (s : State) : Nat := clampNat 1000 (s.tickL / 2) (s.rd P.time F.TIME_COMMIT_CFG_MARGIN) / 10 * 10

/-- C(n) of the current tick. -/
def commitAt (s : State) : Nat := s.time.tStart + s.tickL - commitM s

/-- A value in force had to be clamped: CLAMP and its event. -/
def clampSeen (s : State) : State := raise (s.wr P.time F.TIME_SERVO_STAT_CLAMP 1) P.time 14

/-- Judge MARGIN against the tick length in force (R81). -/
def judgeMargin (s : State) : State :=
  if commitM s = s.rd P.time F.TIME_COMMIT_CFG_MARGIN then s else clampSeen s

/-- SLEW_MAX, LOCK_THRESH, OUTLIER, MISS_WIN, EXT_SLEW. -/
def slewMax (s : State) : Nat := clampNat 10 200 (s.rd P.time F.TIME_SERVO_CFG_SLEW_MAX)
def lockThresh (s : State) : Nat := max 1 (s.rd P.time F.TIME_SERVO_CFG_LOCK_THRESH)
def outlierNs (s : State) : Nat := max 20 (s.rd P.time F.TIME_SERVO_CFG_OUTLIER)
def missWin (s : State) : Nat := clampNat 1000 1000000 (s.rd P.time F.TIME_MISS_WIN_NS)
def extSlew (s : State) : Nat := clampNat 1 100 (s.rd P.time F.TIME_EXT_CFG_EXT_SLEW)

/-- TICK_START.LEN_CFG, used within the range of R78. -/
def startLen (s : State) : Nat := clampNat 10000 2000000 (s.rd P.time F.TIME_TICK_START_LEN_CFG)

/-- Fields of TIME that became active out of their range are used as the nearest limit and set CLAMP (R110). -/
def judgeRanges (s : State) (written : Fld → Bool) : State :=
  let bad := fun (f : Fld) (v : Nat) => written f && v != s.rd P.time f
  if bad F.TIME_SERVO_CFG_SLEW_MAX (slewMax s) || bad F.TIME_SERVO_CFG_LOCK_THRESH (lockThresh s) ||
      bad F.TIME_SERVO_CFG_OUTLIER (outlierNs s) || bad F.TIME_MISS_WIN_NS (missWin s) || bad F.TIME_TICK_START_LEN_CFG (startLen s) || bad F.TIME_EXT_CFG_EXT_SLEW (extSlew s) then
    clampSeen s
  else s

/-- Nominal INCR, 2 ns in 2^-32 ns. -/
def incrNom : Nat := 2 ^ 33

/-- The time base is servoed or locking (R60): JOIN, the working states and ISOLATE, and the node is not alone (R56). -/
def servoed (s : State) : Bool := (s.working || s.isIn [NS.join, NS.isolate]) && !alone s

/-- Tick length of a free-running node (R79, TICK_START): a multiple of 10 ns within R78. -/
def freeL (s : State) : Nat := startLen s / 10 * 10

/-! ## Line state (R63) -/

/-- The line state takes a value. -/
def setLine (s : State) (v : Nat) : State :=
  let was := s.line
  let s := (s.wr P.node F.NODE_NODE_STATE_LINE v).wr P.time F.TIME_SOURCE_LINE v
  raiseIf { s with time := { s.time with lineSeen := true } } (was != v) P.node 8

/-! ## Sources (R88) -/

/-- A source: EPOCH, PRIO, address. -/
abbrev Source := Nat × Nat × Nat

/-- `a` has precedence over `b`. -/
def precedes (a b : Source) : Bool :=
  let d := (a.1 + 256 - b.1 % 256) % 256
  if d ≠ 0 then decide (d < 128)
  else if a.2.1 ≠ b.2.1 then decide (a.2.1 < b.2.1)
  else decide (a.2.2 < b.2.2)

/-- The source that the node follows, or is itself; a source that has to yield follows the one with precedence (R88, R101). -/
def followed (s : State) : Option Source :=
  if s.time.src.orig && !s.time.yield then some (s.time.src.epoch, s.time.src.prio, s.own)
  else if s.on P.time F.TIME_ZENITH_VALID then
    some (s.rd P.time F.TIME_SOURCE_EPOCH, s.rd P.time F.TIME_SOURCE_PRIO, s.rd P.time F.TIME_SOURCE_ADDR)
  else none

/-- The node judges a TICK from `x`: it is from the source followed, or from one with precedence. -/
def acceptable (cur : Option Source) (x : Source) : Bool :=
  match cur with
  | some c => x == c || precedes x c
  | none => true

/-- Show a source in TIME.SOURCE. -/
def showSource (s : State) (x : Source) : State :=
  ((s.wr P.time F.TIME_SOURCE_EPOCH x.1).wr P.time F.TIME_SOURCE_PRIO x.2.1).wr P.time F.TIME_SOURCE_ADDR x.2.2

/-- EPOCH, PRIO and address of a TICK. -/
def tickSource (f : Frame) : Source := (bitsOf f.w4 24 8, bitsOf f.w4 20 2, f.src)

/-- HOPS of a TICK (R85). -/
def tickHops (f : Frame) : Nat := bitsOf f.w5 21 11

/-- A TICK's T_ORIGIN, TICK_NUM, L, F. -/
def tickNum (f : Frame) : Nat := beAt f.pay 0 8 % 2 ^ 48
def tickOrigin (f : Frame) : Nat := beAt f.pay 8 8
def tickLen (f : Frame) : Nat := beAt f.pay 16 4 % 2 ^ 21
def tickWin (f : Frame) : Nat := beAt f.pay 16 4 / 2 ^ 24
def tickAsym (f : Frame) : Int := toSigned 32 (beAt f.pay 20 4)
def tickFlags (f : Frame) : Nat := beAt f.pay 24 4

/-- The four command slots of a TICK. -/
def tickSlots (f : Frame) : List TickCmd :=
  (List.range 4).map fun k =>
    { slot := k, code := beAt f.pay (32 + 16 * k) 1, eff := beAt f.pay (34 + 16 * k) 6, arg := beAt f.pay (40 + 16 * k) 8 }

/-! ## Probes (R89, R90) -/

/-- The probe exchange of a lane. -/
def probe (s : State) (i : Nat) : ProbeSt := s.time.probes.at {} i

/-- Change it. -/
def setProbe (s : State) (i : Nat) (x : ProbeSt) : State :=
  { s with time := { s.time with probes := s.time.probes.put {} i x } }

/-- Ascending insertion sort. -/
def sortedInts (l : List Int) : List Int := l.foldl (fun a x => a.filter (· ≤ x) ++ [x] ++ a.filter (x < ·)) []

/-- The median of a list: its middle element, the lower of two. -/
def medianInt (l : List Int) : Int := (sortedInts l).getD ((l.length - 1) / 2) 0

/-- The delay in use on a lane, 1/16 ns. -/
def linkDelay (s : State) (i : Nat) : Int := medianInt (probe s i).ds

/-- The SERVO_STAT.SIDES bit of a lane: side E (bit 0) is received on the role-W lane. -/
def sideBit (s : State) (i : Nat) : Nat := if laneRole s i = 1 then 0 else 1

/-- Show in SIDES whether a lane of ring 0 is usable. -/
def showSide (s : State) (i : Nat) (b : Bool) : State :=
  if i < 2 then s.setBit P.time F.TIME_SERVO_STAT_SIDES (sideBit s i) b else s

/-- A probe has failed on lane `i` (R90). -/
def probeFailed (s : State) (i : Nat) : State :=
  let x := probe s i
  let s := setProbe s i { x with t1 := none, fails := x.fails + 1, valids := 0 }
  if x.fails + 1 = 8 then raise (showSide (setProbe s i { probe s i with usable := false }) i false) P.time 13 else s

/-- A probe reply gives the delay `d` (R89). -/
def probeValue (s : State) (i : Nat) (d : Int) : State :=
  let x := probe s i
  if !x.ds.isEmpty && decide (160 < (d - linkDelay s i).natAbs) then
    (setProbe s i { x with t1 := none, fails := 0, valids := 0 }).inc P.time F.TIME_CNT_PROBE_OUTLIER_N
  else
    let s := setProbe s i { x with
      t1 := none, fails := 0, valids := x.valids + 1, ds := (d :: x.ds).take 7, usable := x.usable || decide (8 ≤ x.valids + 1) }
    let s := s.wr P.time (F.TIME_LINK_DELAY_D i) (ofSigned 24 (linkDelay s i))
    if 8 ≤ x.valids + 1 then showSide s i true else s

/-! ## Estimates and the servo (R91, R92) -/

/-- est of a TICK copy received on lane `i`, 2^-16 ns; `asym` is 0 for closure. -/
def tickEst (s : State) (i : Nat) (f : Frame) (asym : Int) : Int :=
  let sgn : Int := if f.copy = 0 then 1 else -1
  (tickOrigin f : Int) * 65536 + toSigned 32 f.w3 * 4096 + linkDelay s i * 4096 + sgn * (tickHops f : Int) * asym

/-- The combined offset of the copies of one tick, 2^-16 ns. -/
def combine (l : List TickCopy) : Rat :=
  match l with
  | [] => 0
  | [c] => (c.off : Rat)
  | c :: d :: _ =>
    let a : Rat := max 1 c.hops
    let b : Rat := max 1 d.hops
    ((c.off : Rat) / a + (d.off : Rat) / b) / (1 / a + 1 / b)

/-- `x` limited to ±`m`. -/
def ratLimit (m x : Rat) : Rat := max (-m) (min m x)

/-- Set INCR and FREQ_ADJ from a relative deviation. -/
def incrOf (x : Rat) : Nat := (rnd Rnd.incr ((incrNom : Rat) * (1 + x))).toNat

/-- Show the deviation of INCR from nominal. -/
def showIncr (s : State) : State :=
  s.wr P.time F.TIME_FREQ_ADJ_PPB
    (ofSigned 32 (rnd Rnd.ppb ((((s.time.incr : Int) - (incrNom : Int) : Int) : Rat) * 1000000000 / (incrNom : Rat))))

/-- TIME_LOCK and LOCKED. -/
def setLock (s : State) (b : Bool) : State :=
  let was := s.on P.node F.NODE_STATE_INFO_TIME_LOCK
  let s := (s.wr P.node F.NODE_STATE_INFO_TIME_LOCK (b2n b)).wr P.time F.TIME_SERVO_STAT_LOCKED (b2n b)
  raiseIf (raiseIf s (b && !was) P.time 4) (!b && was) P.time 5

/-- One tick's combined offset is judged for TIME_LOCK (R93). -/
def judgeLock (s : State) (o : Rat) : State :=
  let a := max o (-o)
  let inn := if a ≤ (lockThresh s : Rat) then s.time.inBand + 1 else 0
  let out := if 5 * (lockThresh s : Rat) < a then s.time.outBand + 1 else 0
  let s := { s with time := { s.time with inBand := min 16 inn, outBand := min 4 out } }
  if 16 ≤ inn then setLock s true
  else if 4 ≤ out ∧ s.on P.node F.NODE_STATE_INFO_JOIN_DONE then setLock s false
  else s

/-- Combination for tick `n` with offset `o` in ns (R92); `lim` is OUTLIER as it stands for this tick. -/
def servo (s : State) (o lim : Rat) : State :=
  let s := s.wr P.time F.TIME_OFFSET_O (ofSigned 32 (rnd Rnd.offset (o * 16)))
  let big := decide (lim < max o (-o))
  if big && decide (s.time.discards < 8) then
    { s with time := { s.time with discards := s.time.discards + 1 } }.inc P.time F.TIME_CNT_OUTLIER_N
  else
    let s := raiseIf { s with time := { s.time with discards := 0 } } big P.time 6
    let l : Rat := s.tickL
    let y := ratLimit (250 / 1000000) (s.time.integ + o / (16 * l))
    let m : Rat := (slewMax s : Rat) / 1000000
    let p := ratLimit m (o / l)
    let s := { s with time := { s.time with integ := y, incrNext := some (incrOf (ratLimit (250 / 1000000) (y + p))) } }
    s.wr P.time F.TIME_SERVO_STAT_SLEWING (b2n (decide (m ≤ max (o / l) (-(o / l)))))

/-- OUTLIER as it stands for tick `n`: the one that ends holdover raises it (R97). -/
def outlierFor (s : State) (n : Nat) : Rat := outlierNs s + (if n = s.time.exitTick then s.time.exitMore else 0 : Nat)

/-- Combine the copies held for tick `n` (R91): once per tick. -/
def combineTick (s : State) (n : Nat) : State :=
  let l := s.time.copies.filter fun c => c.n == n
  let s := { s with time := { s.time with copies := s.time.copies.filter fun c => c.n != n } }
  if l.isEmpty || s.time.combs.contains n then s
  else
    let o := combine l / 65536
    let s := { s with time := { s.time with combs := (n :: s.time.combs).take 64, sides := l.length } }
    judgeLock (servo s o (outlierFor s n)) o

/-! ## Latencies and missed ticks (R96, R97) -/

/-- The mean of a list of integers, as a fraction. -/
def meanInt (l : List Int) : Rat := if l.isEmpty then 0 else (l.foldl (· + ·) 0 : Int) / (l.length : Rat)

/-- L_ref: the smallest mean latency among sides that delivered within the last 8 ticks, else as before; in 2^-16 ns. -/
def lRef (s : State) (n : Nat) : Int :=
  let side := fun (l : List Int) (last : Option Nat) =>
    match last with
    | some x => if l.isEmpty ∨ x + 8 < n then none else some (rnd Rnd.mean (meanInt l))
    | none => none
  match side s.time.latE s.time.lastE, side s.time.latW s.time.lastW with
  | some a, some b => min a b
  | some a, none => a
  | none, some b => b
  | none, none => s.time.lRef

/-- T(n) found backwards from T(k), through the tick lengths in force; `l` is the length before the oldest of them. -/
def tickBack (l : Nat) : List (Nat × Nat) → Nat → Nat → Nat → Nat
  | [], k, t, n => t - (k - n) * l
  | (e, x) :: r, k, t, n => if e ≤ n then t - (k - n) * x else tickBack l r (min e k) (t - (k - min e k) * x) n

/-- T(n) of a tick up to the current one (R78). -/
def tickAt (s : State) (n : Nat) : Nat := tickBack s.tickL s.time.lens s.tick s.time.tStart n

/-- The tick length in force from tick `n` on takes a value. -/
def setTickLen (s : State) (n l : Nat) : State :=
  let old := if s.time.lens.isEmpty then [(0, s.tickL)] else s.time.lens
  { s.wr P.time F.TIME_TICK_CFG_LEN l with time := { s.time with lens := ((n, l) :: old).take 64 } }.each 8 judgeLead

/-- D(n), ns (rounded up to a whole ns). -/
def missDeadline (s : State) (n : Nat) : Nat := tickAt s n + ((lRef s n + 65535) / 65536).toNat + missWin s

/-- Entry to holdover (R97). -/
def holdoverEnter (s : State) (t : Nat) : State :=
  let l := s.time.incrs
  let mean := if l.isEmpty then s.time.incr else (rnd Rnd.mean ((l.foldl (· + ·) 0 : Nat) / (l.length : Rat))).toNat
  let s := raise (s.wr P.time F.TIME_SERVO_STAT_HOLDOVER 1) P.time 2
  showIncr { s with time := { s.time with incr := mean, incrNext := none, holdFrom := t } }

/-- A tick is missed. -/
def tickMissed (s : State) (t : Nat) : State :=
  let m := min 15 (s.rd P.time F.TIME_SERVO_STAT_MISSED + 1)
  let s := (s.wr P.time F.TIME_SERVO_STAT_MISSED m).inc P.time F.TIME_CNT_MISSED_N
  let s := { s with time := { s.time with inBand := 0, outBand := 0 } }
  if m = 3 ∧ !s.on P.time F.TIME_SERVO_STAT_HOLDOVER then holdoverEnter s t else s

/-- The miss deadline of tick `n` passes at `t` (R96, R91). -/
def missJudge (s : State) (n t : Nat) : State :=
  let s := { s with time := { s.time with missNext := n + 1, lRef := lRef s n } }
  if s.time.gots.contains n then combineTick s n else tickMissed s t

/-! ## Commands (R105 to R108) -/

/-- The codes that mean something. -/
def cmdKnown (c : Nat) : Bool := decide (1 ≤ c ∧ c ≤ 5) || decide (0x10 ≤ c ∧ c ≤ 0x1F)

/-- The ARG is in the command's range. -/
def cmdArgOk (code arg : Nat) : Bool :=
  if code = 1 then arg % 4 != 3
  else if code = 2 then decide (10000 ≤ arg % 2 ^ 21 ∧ arg % 2 ^ 21 ≤ 2000000) && arg % 2 ^ 21 % 10 == 0
  else if code = 3 then decide (16 ≤ arg % 256 ∧ arg % 256 ≤ 192)
  else true

/-- A command is received (R108): it is stored on its first receipt. What has been stored is known for as long as a TICK can carry
it. DESIGN CHOICE (log 70): an ACTIVATE received late raises CMD_LATE and counts too. -/
def storeCmd (s : State) (c : TickCmd) : State :=
  let k := { c with slot := 0 }
  if c.code = 0 ∨ s.time.known.contains k then s
  else
    let s := { s with time := { s.time with known := k :: s.time.known.filter fun x => decide (s.tick ≤ x.eff + 64) } }
    if !cmdKnown c.code then s.inc P.time F.TIME_CNT_BAD_CMD_N
    else
      let s := { s with time := { s.time with cmds := s.time.cmds ++ [c] } }
      if c.eff ≤ s.tick then countRaise s P.time F.TIME_CNT_CMD_LATE_N P.time 9 else s

/-- The first stored command of `code` that is due at the tick instant to come, and what is left. -/
def takeCmd (s : State) (code : Nat) : Option TickCmd × State :=
  match s.time.cmds.find? fun c => c.code == code && decide (c.eff ≤ s.tick) with
  | some c => (some c, { s with time := { s.time with cmds := s.time.cmds.erase c } })
  | none => (none, s)

/-- LINE takes effect: the line state. The node state follows in step 3 of R82 (R51, R63). -/
def cmdLine (s : State) (arg : Nat) : State := if arg % 4 = 3 then s else setLine s (arg % 4)

/-- TICK_LEN takes effect. -/
def cmdTickLen (s : State) (arg : Nat) : State :=
  if cmdArgOk 2 arg then judgeZones (judgeMargin (setTickLen s s.tick (arg % 2 ^ 21))) else s

/-- WINDOW takes effect. -/
def cmdWindow (s : State) (arg : Nat) : State := if cmdArgOk 3 arg then s.wr P.time F.TIME_TICK_CFG_F (arg % 256) else s

/-- USER: CODE and ARG are latched (R105). -/
def cmdUser (s : State) (code arg : Nat) : State :=
  raise ((s.wr P.time F.TIME_USER_CODE_CODE code).wr64 P.time F.TIME_USER_ARG_LO_ARG F.TIME_USER_ARG_HI_ARG arg) P.time 10

/-- The node stops originating (R101). -/
def stopSource (s : State) : State :=
  let s := { s with time := { s.time with yield := false, src := { s.time.src with orig := false } } }
  if s.role = 1 then setRole s (if standbyPrio s ≠ 0 then 2 else 0) else s

/-- The node becomes the source of its ring with an EPOCH and a PRIO; it takes TIME_LOCK at its first TICK. DESIGN CHOICE (log 71):
a standby that is in holdover when it takes the role leaves it without HOLDOVER_EXIT. -/
def becomeSource (s : State) (epoch prio : Nat) : State :=
  let s := setRole s 1
  let s := showSource s (epoch, prio, s.own)
  let s := (s.wr P.time F.TIME_ZENITH_VALID 1).wr P.time F.TIME_ZENITH_ADDR s.own
  let s := (s.wr P.time F.TIME_SERVO_STAT_MISSED 0).wr P.time F.TIME_SERVO_STAT_HOLDOVER 0
  let a := toSigned 32 (s.rd P.time F.TIME_ASYM_A)
  { s with time := { s.time with
      src := { orig := true, epoch := epoch % 256, prio := prio, asym := a }, stepped := true, yield := false, copies := [] } }

/-- ZENITH_MOVE takes effect (R102): the Zenith stops, itself the named node or not; the named node, a standby or 0x000 in a state
of Zenith duty, originates. -/
def cmdZenithMove (s : State) (arg : Nat) : State :=
  let s := if s.time.src.orig then stopSource s else s
  if s.ownValid && arg % 4096 == s.own && s.working && s.role != 3 && (s.own == 0 || s.role == 2) then
    becomeSource s ((s.rd P.time F.TIME_SOURCE_EPOCH + 1) % 256) (if s.own = 0 then 0 else standbyPrio s)
  else s

/-- A stored command takes effect; ACTIVATE has its own rules (R554). -/
def applyCmd (s : State) (c : TickCmd) : State :=
  if c.code = 1 then cmdLine s c.arg
  else if c.code = 2 then cmdTickLen s c.arg
  else if c.code = 3 then cmdWindow s c.arg
  else if c.code = 4 then cmdZenithMove s c.arg
  else if 0x10 ≤ c.code then cmdUser s c.code c.arg
  else s

/-- IN_FLIGHT: a bit per occupied slot. -/
def showSlots (s : State) : State :=
  s.wr P.time F.TIME_CMD_STAT_IN_FLIGHT
    ((List.range 4).foldl (fun a k => if (s.time.slots.getD k {}).code = 0 then a else withBit a k) 0)

/-- L0 as the Zenith takes it (R107), ns. -/
def leadL0 (s : State) : Nat := s.time.src.l0

/-- CMD_LEAD (R107). -/
def leadNow (s : State) : Nat :=
  let term := fun (l : Nat) => (l + 5000) / s.tickL + 1
  let k := s.time.ringLat.foldl (fun a e => if e.2 = 0 then a else max a (term e.2)) 0
  max 3 (term (leadL0 s) + k)

/-- Issue a command at the Zenith (R106). DESIGN CHOICE (log 72): of several causes that hold, CAUSE shows the first in the order of
R106. -/
def issueCmd (s : State) (code eff arg : Nat) : State :=
  let refused := fun (s : State) (c : Nat) =>
    raise ((s.wr P.time F.TIME_CMD_STAT_RESULT 2).wr P.time F.TIME_CMD_STAT_CAUSE c) P.time 11
  let slots := (List.range 4).map fun k => s.time.slots.getD k {}
  if !(s.role = 1 && s.time.src.orig) then refused s 0
  else if eff < s.tick + 1 + s.rd P.time F.TIME_CMD_LEAD_LEAD then refused s 1
  else if slots.all (fun c => c.code != 0) then refused s 2
  else if slots.any (fun c => c.code == code && code != 0 && decide (eff ≤ c.eff)) then refused s 3
  else if !cmdArgOk code arg then refused s 4
  else if !cmdKnown code then refused s 5
  else
    let k := slots.findIdx fun x => x.code == 0
    let c : TickCmd := { code := code, eff := eff, arg := arg, slot := k }
    let s := { s with time := { s.time with slots := slots.set k c } }
    let s := showSlots (storeCmd s c)
    (s.wr P.time F.TIME_CMD_STAT_RESULT 1).wr P.time F.TIME_CMD_STAT_CAUSE 0

/-! ## Accepting a TICK (R88, R91, R93, R96 to R98) -/

/-- The node follows a source: SOURCE, SOURCE_CHANGE; latencies are recomputed from its frames. -/
def followSource (s : State) (x : Source) : State :=
  if followed s = some x then s
  else
    let s := raise (showSource s x) P.time 7
    { s with time := { s.time with latE := [], latW := [], lastE := none, lastW := none, yield := s.time.yield || s.time.src.orig } }

/-- Side bookkeeping of an accepted copy: latency, PATH, counter (R90, R96). -/
def noteSide (s : State) (f : Frame) (stamp : Int) : State :=
  let lat := stamp - (tickOrigin f : Int) * 65536
  let n := tickNum f
  if f.copy = 0 then
    let l := (lat :: s.time.latE).take 8
    let s := { s with time := { s.time with latE := l, lastE := some n } }
    let s := (s.wr P.time F.TIME_PATH_E_HOPS (tickHops f)).wr P.time F.TIME_PATH_E_LAT (rnd Rnd.mean (meanInt l / 65536)).toNat
    s.inc P.time F.TIME_CNT_TICK_E_N
  else
    let l := (lat :: s.time.latW).take 8
    let s := { s with time := { s.time with latW := l, lastW := some n } }
    let s := (s.wr P.time F.TIME_PATH_W_HOPS (tickHops f)).wr P.time F.TIME_PATH_W_LAT (rnd Rnd.mean (meanInt l / 65536)).toNat
    s.inc P.time F.TIME_CNT_TICK_W_N

/-- Line state, tick length, F and the Zenith address as a TICK carries them (R93, R98). -/
def restoreFrom (s : State) (f : Frame) : State :=
  let s := setLine s (bitsOf f.w4 22 2)
  let s := cmdTickLen s (tickLen f)
  cmdWindow s (tickWin f)

/-- The first TICK in JOIN steps ring time to est (R93); the compares of the cores follow (R510). -/
def stepTime (s : State) (f : Frame) (est : Int) : State :=
  let now := (est / 65536).toNat
  (restoreFrom { s with time := { s.time with
    now := now, count := (est * 65536).toNat, tick := tickNum f, tStart := tickOrigin f, tPrev := tickOrigin f - s.tickL
    lens := []
    base := s.time.base + ((now : Int) - s.now), stepped := true, missNext := tickNum f + 1, start := none } } f).each 5 mtipFollow

/-- A TICK copy is accepted on lane `i` with receive stamp `stamp` (2^-16 ns). The copies of a tick are combined when the later one
arrives, or else at the miss deadline (R91); a copy that comes after the deadline is combined as it comes. DESIGN CHOICE (log 96):
the TICK that steps ring time is not combined, in neither of its copies. -/
def acceptTick (s : State) (i : Nat) (f : Frame) (stamp : Int) : State :=
  let s := followSource s (tickSource f)
  let s := s.wr P.time F.TIME_SOURCE_LINE (bitsOf f.w4 22 2)
  let s := (s.wr P.time F.TIME_ZENITH_VALID 1).wr P.time F.TIME_ZENITH_ADDR (tickFlags f % 4096)
  let s := s.wr P.time F.TIME_ASYM_A (ofSigned 32 (tickAsym f))
  let s := { s with time := { s.time with extLock := bitOf (tickFlags f) 30, lat0 := bitsOf (tickFlags f) 12 12, slots := tickSlots f } }
  let n := tickNum f
  let est := tickEst s i f (tickAsym f)
  let hold := s.on P.time F.TIME_SERVO_STAT_HOLDOVER
  let secs := if hold then ceilDiv (s.now - s.time.holdFrom) 1000000000 else 0
  let first := !s.time.stepped
  let s := if first then stepTime s f est else s
  let stamp := if first then est else stamp
  let s := noteSide s f stamp
  let s := s.wr P.time F.TIME_SERVO_STAT_MISSED 0
  let s := if hold then
      let s := restoreFrom (raise (s.wr P.time F.TIME_SERVO_STAT_HOLDOVER 0) P.time 3) f
      { s with time := { s.time with exitTick := n, exitMore := 50 * secs } }
    else s
  let s := { s with time := { s.time with gots := if s.time.gots.contains n then s.time.gots else (n :: s.time.gots).take 64 } }
  let s := (tickSlots f).foldl storeCmd s
  if first then { s with time := { s.time with combs := (n :: s.time.combs).take 64 } }
  else if s.time.combs.contains n then s
  else
    let cs := s.time.copies.filter fun c => !(c.n == n && c.side == f.copy)
    let c : TickCopy := { n := n, side := f.copy, hops := tickHops f, off := est - stamp }
    let s := { s with time := { s.time with copies := cs ++ [c] } }
    let both := (s.time.copies.filter fun c => c.n == n).length == 2
    if both || decide (n < s.time.missNext) then combineTick s n else s

/-- A TICK goes on to the other lane of its ring (R86, R127): the link delay is added to CORR, the residence time at departure. -/
def forwardTick (s : State) (i : Nat) (f : Frame) (stamp16 : Nat) : State :=
  if fwd = 0 then s
  else
    let p := lanePort s i
    let g := { f with
      reach := fwd
      w3 := ofSigned 32 (toSigned 32 f.w3 + linkDelay s i)
      w5 := (tickHops f + 1) % 2048 * 2 ^ 21 + f.w5 % 2 ^ 21 }
    let (id, s) := newId s
    let o := if p % 2 = 0 then p + 1 else p - 1
    stampEntry (admitFrame s [o] id g true p).2 id stamp16
where
  /-- REACH after this hop. -/
  fwd : Nat := if f.reach = 0x3FF then 0x3FF else f.reach - 1

/-! ## Originating TICK (R85, R86, R104) -/

/-- The payload of a TICK. -/
def tickPay (s : State) (src : SrcSt) (zen lat : Nat) (ext : Bool) : List Nat :=
  beBytes 8 s.tick ++ beBytes 8 s.time.tStart ++ beBytes 4 (s.tickF * 2 ^ 24 + s.tickL) ++ beBytes 4 (ofSigned 32 src.asym) ++
    beBytes 4 (b2n src.closed * 2 ^ 31 + b2n ext * 2 ^ 30 + min 4095 (lat / 1000) * 2 ^ 12 + zen) ++ beBytes 4 0 ++
    ((List.range 4).flatMap fun k =>
      let c := s.time.slots.getD k {}
      let c := if c.eff ≤ s.tick then ({} : TickCmd) else c
      beBytes 1 c.code ++ [0] ++ beBytes 6 c.eff ++ beBytes 8 c.arg)

/-- The source of a ring sends TICK at its tick instant, on both sides (`k`: of ring k). FLAGS carries ring 0's closure latency on
every ring (R85). DESIGN CHOICE (log 73): before a TICK of its own has returned the Zenith sends the value that R107 assumes. -/
def originateTick (s : State) (k : Bool) : State :=
  let src := if k then s.time.srcK else s.time.src
  let zen := if s.time.src.orig ∧ !k then s.own else s.rd P.time F.TIME_ZENITH_ADDR
  let lat := if k && !s.time.src.orig then 1000 * s.time.lat0 else leadL0 s
  let ad := sideAddr s k
  let f : Frame := { typ := 1, cls := 7, dst := 0, mc := true, src := ad.2, tick := s.tick % 65536
                     w4 := src.epoch % 256 * 2 ^ 24 + s.line * 2 ^ 22 + src.prio * 2 ^ 20, w5 := 2 ^ 21
                     pay := tickPay s src zen lat s.time.extLock }
  if !ad.1 then s
  else originateOn s k 13 f 0x3FF 0x3FF (some (16 * s.time.tStart))

/-! ## Closure (R94, R95) -/

/-- The closure average is complete: 64 closures of both copies. -/
def SrcSt.full (x : SrcSt) : Bool := x.cE.length == 64 && x.cW.length == 64

/-- L_circ, ns: the mean latency of the closures averaged. -/
def SrcSt.lCirc (x : SrcSt) : Nat := (rnd Rnd.mean (meanInt (x.latE ++ x.latW) / 65536)).toNat

/-- The nearest whole number; which one is open halfway between two. -/
def rndNear (id : Nat) (q : Rat) : Int := if (2 * q).den = 1 then rnd id q else (q + 1 / 2).floor

/-- Show what a source measured. -/
def showClosure (s : State) (x : SrcSt) : State :=
  let e := meanInt x.cE / 65536
  let w := meanInt x.cW / 65536
  let r := fun (v : Rat) => ofSigned 32 (rnd Rnd.mean (v * 16))
  let s := (s.wr P.time F.TIME_CLOSE_E_C (r e)).wr P.time F.TIME_CLOSE_W_C (r w)
  let s := s.wr P.time F.TIME_CLOSE_CMN_C (r ((e + w) / 2))
  let s := (s.wr P.time F.TIME_CLOSE_LAT_VALID (b2n x.full)).wr P.time F.TIME_CLOSE_LAT_NS x.lCirc
  raiseIf s (x.full && decide (20 < max ((e + w) / 2) (-((e + w) / 2)))) P.time 12

/-- A returned copy of a source's own TICK: its closure error and latency, and ASYM once 64 of both sides are averaged. -/
def closeCopy (x : SrcSt) (f : Frame) (c lat : Int) : SrcSt :=
  let x := if f.copy = 0 then
      { x with cE := (c :: x.cE).take 64, latE := (lat :: x.latE).take 64, backE := some (tickNum f) }
    else { x with cW := (c :: x.cW).take 64, latW := (lat :: x.latW).take 64, backW := some (tickNum f) }
  let x := { x with l0 := x.lCirc }
  if x.full then
    { x with closed := true, asym := rndNear Rnd.asym ((meanInt x.cW - meanInt x.cE) / (2 * (max 1 (tickHops f) : Nat) : Rat)) }
  else x

/-- The source's own TICK returns on lane `i` (R87, R94). -/
def closure (s : State) (i : Nat) (f : Frame) (stamp : Int) : State :=
  let c := tickEst s i f 0 - stamp
  let lat := stamp - (tickOrigin f : Int) * 65536
  if laneK i then
    let x := closeCopy s.time.srcK f c lat
    showClosure { s with time := { s.time with srcK := x } } x
  else
    let x := closeCopy s.time.src f c lat
    let s := showClosure { s with time := { s.time with src := x } } x
    s.wr P.time F.TIME_ASYM_A (ofSigned 32 x.asym)

/-- At a tick instant a source judges whether both copies still return (R95): a side whose newest returned copy is older than
a circulation does not, and the average starts again. -/
def judgeReturns (s : State) (x : SrcSt) : SrcSt :=
  let lag := (leadL0 s + 5000) / s.tickL + 2
  let fails := fun (b : Option Nat) => match b with
    | some n => decide (n + lag < s.tick)
    | none => true
  if x.orig && (fails x.backE || fails x.backW) then
    { x with closed := false, cE := [], cW := [], latE := [], latW := [] }
  else x

/-! ## The time base at a tick instant (R78, R79, R92, R97) -/

/-- The tick number and T(n) advance; a free-running node uses TICK_START (R79, R110). -/
def tickAdvance (s : State) : State :=
  let t := s.time
  match t.start with
  | some t0 =>
    let s := { s with time := { t with
      start := none, tick := 0, ticks := t.ticks + 1, tPrev := t.tStart, tStart := t0, lens := [], missNext := 0 } }
    s.atTime t0
  | none =>
    let l := s.tickL
    { s with time := { t with tick := t.tick + 1, ticks := t.ticks + 1, tPrev := t.tStart, tStart := t.tStart + l } }.atTime (t.tStart + l)

/-- A node that neither follows nor originates runs at TICK_START.LEN_CFG. -/
def freeRun (s : State) : State :=
  if s.time.stepped || s.tickL == freeL s then s else judgeMargin (setTickLen s s.tick (freeL s))

/-- The 802.1AS time, at ring time `t`, of the Ethernet port that EXT_CFG.SRC names, while that port's AS_STAT.VALID = 1 (R103,
R432). -/
def asTime (s : State) (t : Nat) : Option Nat :=
  let src := s.rd P.time F.TIME_EXT_CFG_SRC
  if 1 ≤ src ∧ src ≤ 4 ∧ s.on (P.eth (src - 1)) F.ETH_AS_STAT_VALID then
    let off := toSigned 64 (s.rd64 (P.eth (src - 1)) F.ETH_AS_OFF_LO_OFF F.ETH_AS_OFF_HI_OFF)
    some ((t : Int) + off).toNat
  else none

/-- INCR for the tick that begins; the Zenith may steer towards an external time, by no more than EXT_SLEW (R103): how much of
it is open. DESIGN CHOICE (log 74): a source that free-runs counts with the nominal INCR, and a node keeps the INCR in force, with its
p, through a tick for which no combination has set one. -/
def incrTick (s : State) : State :=
  let s :=
    if s.time.src.orig then
      match asTime s s.now with
      | some x =>
        let d := s.draw 32
        let m := d.1 % (incrNom * extSlew s / 1000000 + 1)
        { d.2 with time := { d.2.time with
          extLock := true
          incr := if x = s.now then incrNom else if s.now < x then incrNom + m else incrNom - m } }
      | none => { s with time := { s.time with extLock := false, incr := incrNom } }
    else match s.time.incrNext with
      | some v => { s with time := { s.time with incr := v, incrNext := none } }
      | none => s
  let s := { s with time := { s.time with incrs := if s.on P.time F.TIME_SERVO_STAT_HOLDOVER then s.time.incrs
    else (s.time.incr :: s.time.incrs).take 64 } }
  showIncr s

/-- The primary gateway is the source of ring k once it follows ring 0, has its ring-k address and follows no other source of
ring k (R104), in a state of source duty (R59, R60). -/
def startK (s : State) : State :=
  if isGateway s && s.on P.time F.TIME_ROLE_CFG_GW_PRIMARY && !s.time.srcK.orig && s.time.folK.isNone && s.time.stepped &&
      s.working && !alone s && (sideAddr s true).1 then gwTakes { s with time := { s.time with srcK := {} } }
  else s

/-- What a source does at its tick instant: it stops where it has to yield (R101); slots run out, the lead is recomputed,
TIME_LOCK is set, TICK leaves. -/
def sourceInstant (s : State) : State :=
  let s := if s.time.yield then stopSource s else s
  let s := startK (if s.time.yieldK then gwYields s else s)
  let s := { s with time := { s.time with src := judgeReturns s s.time.src, srcK := judgeReturns s s.time.srcK } }
  let s := s.wr P.time F.TIME_CLOSE_LAT_VALID (b2n ((s.time.src.orig && s.time.src.full) || (s.time.srcK.orig && s.time.srcK.full)))
  let s :=
    if s.time.src.orig then
      let s := { s with time := { s.time with
        slots := (List.range 4).map fun k => let c := s.time.slots.getD k {}; if c.eff ≤ s.tick then {} else c } }
      let s := (showSlots s).wr P.time F.TIME_CMD_LEAD_LEAD (leadNow s)
      originateTick (setLock s true) false
    else s
  if s.time.srcK.orig && s.role == 3 then originateTick s true else s

/-- ONE_SIDED (R67). -/
def oneSided (s : State) : State :=
  if s.time.sides = 1 then s.wr P.node F.NODE_STATE_INFO_ONE_SIDED 1
  else if s.time.sides = 2 then s.wr P.node F.NODE_STATE_INFO_ONE_SIDED 0
  else s

/-! ## The commit point (R83) -/

/-- Cores that have to declare done: named, and neither off, halted nor in reset. -/
def coresJudged (s : State) : Nat :=
  s.rd P.time F.TIME_COMMIT_CFG_CORES &&& andNot (s.rd P.cores F.CORES_CORE_STAT_RUNNING) (s.rd P.cores F.CORES_CORE_STAT_DEBUG)

/-- C(n) passes. -/
def commitJudge (s : State) : State :=
  let late := andNot (coresJudged s) (s.rd P.time F.TIME_CORE_DONE_DONE)
  let s := { s with time := { s.time with pastC := true, clean := late == 0 } }
  if late = 0 then s.wr P.time F.TIME_OVR_STAT_CONSEC 0
  else
    let s := (s.wr P.time F.TIME_OVR_STAT_LATE_CORES late).inc P.time F.TIME_CNT_OVERRUN_N
    raise (s.inc P.time F.TIME_OVR_STAT_CONSEC) P.time 0

/-- A write of CORE_DONE: taken before C(n), discarded from it on. -/
def coreDone (s : State) (m : Nat) : State :=
  if s.time.pastC || decide (commitAt s ≤ s.now) then countRaise s P.time F.TIME_CNT_LATE_DONE_N P.time 1
  else s.orb P.time F.TIME_CORE_DONE_DONE (m % 16)

end Sys2Proof.Machine
end

