-- ==== Sys2Proof/Machine/Cores.lean ====
section
/-!
DEFINITION. Core control, watchdogs and the claim side of the event router (19_processors_and_events.md, R509 to R525).
-/

namespace Sys2Proof.Machine

/-! ## Cores -/

/-- MTIP (R509): ring time `t` reaches MTIMECMPk. -/
def execMtip (k t : Nat) (s : State) : Out :=
  .next (if s.alive && decide (k < 5) && decide (mtimecmp s k ≤ t) then mtipFollow (s.atTime t) k else s)

/-- COMMIT_WARN (R513): C(n) − WARN_LEAD at `t`. -/
def execCommitWarn (t : Nat) (s : State) : Out :=
  let lead := max 1 (s.rd P.cores F.CORES_EV_CFG_WARN_LEAD) * 1000
  .next (if s.alive && s.on P.cores F.CORES_EV_CFG_COMMIT_WARN && decide (t + lead = commitAt s) &&
      andNot (coresJudged s) (s.rd P.time F.TIME_CORE_DONE_DONE) != 0 then
    countRaise (s.atTime t) P.cores F.CORES_CNT_COMMIT_WARN_N P.cores 4
  else s)

/-! ## Watchdogs (R515 to R517) -/

/-- The key of both watchdogs. -/
def wdtKey : Nat := 0x4B43

/-- A write of FWDT_KICK by `ini` (R515). -/
def fwdtKick (s : State) (ini key cores : Nat) : State :=
  if key = wdtKey ∧ ini < 4 ∧ bitOf cores ini then
    wdtRestart (s.setBit P.cores F.CORES_FWDT_STAT_WARNED ini false) ini (s.upAt s.now)
  else s

/-- The timer of core `k` may reach TIME now, by its count. -/
def wdtMay (s : State) (k : Nat) : Bool := wdtCounts s k && (wdtDue s k).any s.dueBy

/-- It restarts there. -/
def wdtAgain (s : State) (k : Nat) : State := wdtRestart s k (max (s.upAt s.now) ((wdtDue s k).getD 0))

/-- FWDT_EXPIRY (R515): the timer of core `k` reaches TIME. -/
def execFwdtExpiry (k : Nat) (s : State) : Out :=
  .next (if !(decide (k < 4) && wdtMay s k) then s
  else if s.bit P.cores F.CORES_FWDT_STAT_WARNED k then requestWarm (wdtAgain s k) RC.wdtCore
  else countRaise ((wdtAgain s k).setBit P.cores F.CORES_FWDT_STAT_WARNED k true) P.cores F.CORES_CNT_FWDT_WARN_N P.cores 5)

/-- A write of MWDT_KICK by `ini` (R516). -/
def mwdtKick (s : State) (ini key : Nat) : State :=
  if key = wdtKey ∧ ini = 4 then wdtRestart (s.wr P.cores F.CORES_MWDT_STAT_WARNED 0) 4 (s.upAt s.now) else s

/-- MWDT_EXPIRY (R516): the timer of the management watchdog reaches TIME. -/
def execMwdtExpiry (s : State) : Out :=
  .next (if !wdtMay s 4 then s
  else if s.on P.cores F.CORES_MWDT_STAT_WARNED then requestWarm (wdtAgain s 4) RC.wdtMgmt
  else countRaise ((wdtAgain s 4).wr P.cores F.CORES_MWDT_STAT_WARNED 1) P.cores F.CORES_CNT_MWDT_WARN_N P.cores 6)

/-! ## Claim and complete (R518 to R520) -/

/-- The source is in service. -/
def inService (s : State) (n : Nat) : Bool := s.router.service.any fun e => e.1 == n

/-- The source is pending: asserted and not in service (R518). -/
def srcPending (s : State) (n : Nat) : Bool := srcAsserted s n && !inService s n

/-- PRIO of a source. -/
def srcPrio (s : State) (n : Nat) : Nat := bitsOf (s.rd P.ev1 (F.EVENTA_PRIO_PRIO (n / 8))) (4 * (n % 8)) 4

/-- The source may be claimed by target `k`: pending, enabled for it, and above its threshold. -/
def claimable (s : State) (k n : Nat) : Bool :=
  bitOf (s.rd P.ev2 (F.EVENTB_EN_EN k (n / 32))) (n % 32) && decide (s.rd P.ev3 (F.EVENTC_THRESH_T k) < srcPrio s n) &&
    srcPending s n

/-- The source that a claim of target `k` finds: the highest priority, and of equal ones the lowest number (R519). -/
def bestSource (s : State) (k : Nat) : Option Nat :=
  (List.range 512).foldl (fun b n =>
    if claimable s k n then
      match b with
      | some m => if srcPrio s m < srcPrio s n then some n else b
      | none => some n
    else b) none

/-- MEIP of target `k` (R518). -/
def meip (s : State) (k : Nat) : Bool := (List.range 512).any fun n => claimable s k n

/-- A read of CLAIMk: the word that it gives (R519). -/
def routerClaim (s : State) (k : Nat) : Nat × State :=
  match bestSource s k with
  | some n => (2 ^ 31 + n, { s with router := { s.router with service := s.router.service ++ [(n, k)] } })
  | none => (0, s)

/-- A write of source `n` to CLAIMk (R519, R520). -/
def routerComplete (s : State) (k n : Nat) : State :=
  { s with router := { s.router with service := s.router.service.filter fun e => !(e.1 == n && e.2 == k) } }

/-- PENDw and ASSERTw. -/
def pendWord (s : State) (w : Nat) : Nat :=
  (List.range 32).foldl (fun a i => if srcPending s (32 * w + i) then withBit a i else a) 0
def assertWord (s : State) (w : Nat) : Nat :=
  (List.range 32).foldl (fun a i => if srcAsserted s (32 * w + i) then withBit a i else a) 0

/-! ## Software events and EVT pins (R522, R524) -/

/-- A write of SWEV_SET: software events are asserted (R524). -/
def swevSet (s : State) (m : Nat) : State :=
  s.each 24 fun t i =>
    if bitOf m i && !t.bit P.ev3 F.EVENTC_SWEV_EV i then rise 40 (t.setBit P.ev3 F.EVENTC_SWEV_EV i true) (488 + i) else t

/-- The level that an EVT pin with OUT = 1 drives (R522). -/
def evtLevel (s : State) (p : Nat) : Bool :=
  let on := if s.on P.ev3 (F.EVENTC_EVT_CFG_PULSE p) then s.router.pulses.contains p
    else srcAsserted s (s.rd P.ev3 (F.EVENTC_EVT_CFG_SRC p))
  on != s.on P.ev3 (F.EVENTC_EVT_CFG_POL p)

/-- EVT_PULSE_END (R522): the pulse of pin `p` ends. -/
def execEvtPulseEnd (p : Nat) (s : State) : Out :=
  .next (if s.alive then { s with router := { s.router with pulses := s.router.pulses.filter (· != p) } } else s)

/-! ## Program banks (R507) -/

/-- BANK.ACTIVE changes at a tick instant. -/
def bankSwap (s : State) (b : Nat) : State :=
  if s.rd P.cores F.CORES_BANK_ACTIVE = b then s else raise (s.wr P.cores F.CORES_BANK_ACTIVE b) P.cores 7

/-- TICKk events of a tick instant (R513). -/
def tickEvents (s : State) : State :=
  s.each 4 fun t k => raiseIf t (t.bit P.cores F.CORES_EV_CFG_TICK_EN k) P.cores k

end Sys2Proof.Machine
end

