-- ==== Sys2Proof/Machine/Links.lean ====
section
/-!
DEFINITION. Meanings of the lane, supervision and address commands (05_ring_links_and_frames.md).
-/

namespace Sys2Proof.Machine

/-! ## The lane state machine (R114 to R119) -/

/-- SIGNAL_DETECT: SIGNAL → LOCK. -/
def execSignalDetect (i : Nat) (s : State) : Out :=
  .next (if lanesOn s && decide (i < 4) && laneState s i == LS.signal then setLaneState s i LS.lock else s)

/-- BLOCK_LOCK (R114, R119): LOCK → HELLO; in the Tap role LOCK → UP (R497). `inv` says that the lane found complemented headers,
which RX_AUTO_INV corrects; without it there is no lock. -/
def execBlockLock (i : Nat) (inv : Bool) (s : State) : Out :=
  .next (if lanesOn s && decide (i < 4) && laneState s i == LS.lock &&
      (!inv || s.on (P.lane i) F.LANE_LANE_CFG_RX_AUTO_INV) then
    let s := if inv then
        s.wr (P.lane i) F.LANE_LANE_STAT_RX_INVERTED (1 - s.rd (P.lane i) F.LANE_LANE_STAT_RX_INVERTED) else s
    if tapLane s i then raise (setLaneState s i LS.up) (P.lane i) 0 else setLaneState s i LS.hello
  else s)

/-- LOCK_TIMEOUT: LOCK → SIGNAL with NO_LOCK. -/
def execLockTimeout (i : Nat) (s : State) : Out :=
  .next (if lanesOn s && decide (i < 4) && laneState s i == LS.lock then setLaneState (laneCause s i LC.noLock) i LS.signal
  else s)

/-- SIGNAL_TIMEOUT: a lane has been in SIGNAL for LOCK_TO; NO_SIGNAL, and CABLE_FAULT once. -/
def execSignalTimeout (i : Nat) (s : State) : Out :=
  .next (if lanesOn s && decide (i < 4) && laneState s i == LS.signal && !(s.lane i).noSigSaid then
    raise ((laneCause s i LC.noSignal).setLane i { s.lane i with noSigSaid := true }) (P.lane i) 3
  else s)

/-- HELLO_SEND: a lane in HELLO or FAULT sends a HELLO. -/
def execHelloSend (i : Nat) (s : State) : Out :=
  .next (if lanesOn s && decide (i < 4) && (laneState s i == LS.hello || laneState s i == LS.fault) then sendHello s i else s)

/-- HELLO (R114, R115, R120, R142): a valid HELLO on a lane past block lock. -/
def execHello (i : Nat) (f : Frame) (s : State) : Out :=
  .next (if lanesOn s && decide (i < 4) && (laneState s i == LS.hello || laneState s i == LS.up || laneState s i == LS.fault) &&
      !tapLane s i && f.typ == 0xD && frameSub f == 1 then
    onHello (rxCount s i f) i f
  else s)

/-- HELLO_TIMEOUT: HELLO_TO expires with no valid HELLO. -/
def execHelloTimeout (i : Nat) (s : State) : Out :=
  .next (if lanesOn s && decide (i < 4) && laneState s i == LS.hello && !(s.lane i).heard then
    setLaneState (laneCause s i LC.helloTimeout) i LS.signal
  else s)

/-- LANE_DOWN: signal loss (1), block lock loss (2) or hi_ber (3) on an UP lane. -/
def execLaneDown (i cause : Nat) (s : State) : Out :=
  .next (if lanesOn s && decide (i < 4) && decide (1 ≤ cause ∧ cause ≤ 3) then laneGoDown s i cause else s)

/-- FLAP_HOLD_END (R117): FLAP_HOLD seconds have passed since the exit from UP that held the lane. -/
def execFlapHoldEnd (i t : Nat) (s : State) : Out :=
  .next (if lanesOn s && decide (i < 4) && laneState s i == LS.hold &&
      decide ((s.lane i).downs.foldl max 0 + flapHold s i ≤ s.upAt t) then setLaneState (s.atTime t) i LS.signal else s)

/-- PPM_WINDOW (R116): the offset of a 1 ms window. -/
def execPpmWindow (i : Nat) (ppm : Int) (s : State) : Out :=
  .next (if lanesOn s && decide (i < 4) then
    let a := ppm.natAbs
    let x := s.lane i
    let s := s.wr (P.lane i) F.LANE_LANE_PPM_PPM (ofSigned 16 ppm)
    let s := if 15000 < a then raise (s.wr (P.lane i) F.LANE_LANE_STAT_CLK_RANGE 1) (P.lane i) 2 else s
    let under := if a < 14000 then x.underWins + 1 else 0
    let tooMuch := if 20000 < a then x.overWins + 1 else 0
    let s := if 10 ≤ under then s.wr (P.lane i) F.LANE_LANE_STAT_CLK_RANGE 0 else s
    let s := s.setLane i { s.lane i with overWins := tooMuch, underWins := min 10 under, over200 := decide (20000 < a) }
    if 2 ≤ tooMuch then laneGoDown s i LC.clkDown else s
  else s)

/-- CRC_WINDOW (R118): a 1 s window ends. -/
def execCrcWindow (i : Nat) (s : State) : Out :=
  .next (if lanesOn s && decide (i < 4) then
    let n := (s.lane i).crcWin
    let s := s.setLane i { s.lane i with crcWin := 0 }
    if max 1 (s.rd (P.lane i) F.LANE_ERR_CFG_CRC_LIMIT) < n then
      let s := raise s (P.lane i) 4
      if s.on (P.lane i) F.LANE_LANE_CFG_ERR_DOWN then laneGoDown s i LC.errDown else s
    else s
  else s)

/-! ## Halo entries (R135 to R137) -/

/-- HALO_AGE in ns, used within its range. -/
def haloAge (s : State) : Nat := clampNat 10 4000 (s.rd P.halo F.HALO_HALO_CFG_HALO_AGE) * 1000000

/-- HALO_ENTRY_AGED (R135): no frame has touched the entry for HALO_AGE. -/
def execHaloEntryAged (src g t : Nat) (s : State) : Out :=
  let e := haloEnt s src g
  .next (if lanesOn s && decide (src < 4096) && decide (g < 2) && e.valid && decide (e.touch + haloAge s ≤ s.upAt t) then
    (setHaloEnt (s.atTime t) src g {}).inc P.halo F.HALO_CNT_AGED_N
  else s)

/-- A Halo-exempt SUPERVISION frame to all nodes: forwarded, delivered to MGMT, and taken across where it crosses. -/
def exemptPass (s : State) (i : Nat) (f : Frame) (loc : Bool := true) (cross : Bool := false) : State :=
  let p := lanePort s i
  let outs := (if fwdReach f = 0 then [] else [otherPort p]) ++ (if loc && deliversLocal s then [13] else [])
  let (id, s) := newId s
  let far := farCopies s i f cross
  let s := (admitFrame s outs id { f with reach := fwdReach f } true p far).2
  if far.isEmpty then s else (crossFrame s i id f).2

/-- The source's incarnation is new (R136): its Halo entries go, and Drift treats its items as those of an absent node. -/
def newIncarnation (s : State) (src inc : Nat) : State :=
  let had := s.halo.incs.at 0 src != 0
  let s := setHaloEnt (setHaloEnt s src 0 {}) src 1 {}
  let s := { s with halo := { s.halo with incs := s.halo.incs.put 0 src (inc + 1) } }
  let s := countRaise s P.halo F.HALO_CNT_RESTART_N P.halo 7
  let s := txnRestart s src
  if had && s.alive then driftAbsent s src else s

/-- An ANNOUNCE with a new incarnation passes: where it crosses, at the active gateway, its source's crossing counters start at 0
(R230). -/
def announcePass (s : State) (i : Nat) (f : Frame) : State :=
  if crosses s i f then
    let c := (s.txn.cross.put 0 (crossKey f.src 0) 0).put 0 (crossKey f.src 1) 0
    exemptPass { s with txn := { s.txn with cross := c } } i f true true
  else exemptPass s i f

/-- ANNOUNCE (R132, R136, R143) on lane `i` at `t`. DESIGN CHOICE (log 82): a copy that is discarded for its stored incarnation is
judged by R143 all the same. -/
def execAnnounce (i : Nat) (f : Frame) (t : Nat) (s : State) : Out :=
  .next (if lanesOn s && decide (i < 4) && ringLane s i && laneUp s i && f.typ == 0xB && frameSub f == 2 then
    let s := rxCount (s.atTime t) i f
    let uid := beAt f.pay 0 8
    let inc := beAt f.pay 12 4 % 65536
    if isOwn s f.src && uid == s.otp.uid then s.inc P.halo F.HALO_CNT_STRIP_N
    else if crossedBack s i f then
      if gwActive s then s.inc P.gw F.GATEWAY_CNT_STRIP_X_N else exemptPass s i f false
    else
      let s := if s.halo.incs.at 0 f.src = inc + 1 then s else announcePass (newIncarnation s f.src inc) i f
      let a := beAt f.pay 8 4 % 4096
      if s.alive && isOwn s a && uid != s.otp.uid then
        if (if s.ownValid && s.own == a then s.holdDone else s.halo.holdK) then
          originate s 13 (supFrame 5 (beBytes 8 uid ++ beBytes 4 a ++ beBytes 4 0))
        else if uid < s.otp.uid then withdrawAddr s
        else s
      else s
  else s)

/-- The wait after the node's ANNOUNCE. -/
def announceWait (s : State) : Nat :=
  clampNat 2 255 (s.rd P.halo F.HALO_HALO_CFG_ANNOUNCE_HOLD) * 100000 + (if s.node.aoLost then haloAge s else 0)

/-- The wait on ring 0 is over at `t`. -/
def holdOver (s : State) (t : Nat) : Bool :=
  s.on P.halo F.HALO_JOIN_STAT_ANNOUNCED && !s.holdDone && decide (s.halo.announcedAt + announceWait s ≤ s.upAt t)

/-- The wait of a gateway on ring k is over at `t`. -/
def holdOverK (s : State) (t : Nat) : Bool :=
  (sideAddr s true).1 && !s.halo.holdK && decide (s.halo.announcedAtK + announceWait s ≤ s.upAt t)

/-- HOLD_DONE (R137): the wait after the node's ANNOUNCE is over at `t`, on ring 0 or, at a gateway, on ring k; the extended wait
of AO_LOST ends with ring 0's. -/
def execHoldDone (t : Nat) (s : State) : Out :=
  .next (if s.alive && !s.halo.withdrawn && (holdOver s t || holdOverK s t) then
    let u := if holdOverK s t then { s with halo := { s.halo with holdK := true } } else s
    let u := u.atTime t
    pumpOffers (if holdOver s t then
      raise ((u.wr P.halo F.HALO_JOIN_STAT_HOLD_DONE 1).wr P.halo F.HALO_JOIN_STAT_AO_LOST 0) P.halo 2 else u)
  else s)

/-! ## Supervision (R138 to R140, R143) -/

/-- NEIGHBOUR_SEND (R138): at T(n) + 2 µs a NEIGHBOUR leaves on each UP ring lane. -/
def execNeighbourSend (t : Nat) (s : State) : Out :=
  .next (if s.alive && s.mayInsert then
    (s.atTime t).each 4 fun u i =>
      if ringLane u i && laneUp u i then
        originateOn u (laneK i) 13 (neighbourFrame u i) (if laneRole u i = 0 then 1 else 0) (if laneRole u i = 1 then 1 else 0)
      else u
  else s)

/-- NEIGHBOUR (R138, R142): a valid NEIGHBOUR on lane `i`. -/
def execNeighbour (i : Nat) (f : Frame) (s : State) : Out :=
  .next (if s.alive && decide (i < 4) && ringLane s i && laneUp s i && f.typ == 0xB && frameSub f == 1 then
    onNeighbour (rxCount s i f) i f
  else s)

/-- NEIGHBOUR_MISSED (R138): 3 consecutive ticks have been missed on lane `i`. -/
def execNeighbourMissed (i : Nat) (s : State) : Out :=
  .next (if s.alive && decide (i < 4) && s.rd (P.lane i) F.LANE_LANE_STAT_SUP_MISSED == 3 then neighbourMissed s i else s)

/-- CHANGE (R139): a checked CHANGE notice. -/
def execChange (f : Frame) (s : State) : Out :=
  .next (if s.alive && deliversLocal s && f.typ == 0xB && frameSub f == 3 then
    let w := beAt f.pay 0 4
    applyChange s (bitsOf w 28 4) (bitsOf w 16 12) (w % 4096)
  else s)

/-- STATUS_PERIOD, used within its range. -/
def statusPeriod (s : State) : Nat := max 16 (s.rd P.halo F.HALO_STATUS_CFG_STATUS_PERIOD)

/-- STATUS_SEND (R140): every STATUS_PERIOD ticks to the system Zenith. -/
def execStatusSend (s : State) : Out :=
  .next (if s.alive && s.mayInsert && s.ownValid && s.on P.time F.TIME_ZENITH_VALID &&
      decide (s.halo.statusAt + statusPeriod s ≤ s.ticks) then
    let lat := if s.role = 3 ∧ s.on P.time F.TIME_ROLE_CFG_GW_PRIMARY ∧ s.on P.time F.TIME_CLOSE_LAT_VALID then
        s.rd P.time F.TIME_CLOSE_LAT_NS else 0
    let pay := beBytes 4 (nodeStateWord s) ++ ((List.range 4).flatMap fun i => beBytes 4 (laneStatWord s i)) ++
      ((List.range 4).flatMap fun i => beBytes 4 (s.lane i).crcStatus) ++ beBytes 4 lat ++ List.replicate 8 0
    let s := s.each 4 fun t i => t.setLane i { t.lane i with crcStatus := 0 }
    let s := { s with halo := { s.halo with statusAt := s.ticks } }
    originate s 13 { typ := 0xB, cls := 6, dst := s.rd P.time F.TIME_ZENITH_ADDR, w4 := 4 * 2 ^ 24, pay := pay }
  else s)

/-- DUPLICATE (R143): a checked DUPLICATE. The node it names withdraws. -/
def execDuplicate (f : Frame) (s : State) : Out :=
  .next (if f.typ == 0xB && frameSub f == 5 && beAt f.pay 0 8 == s.otp.uid && (s.ownValid || (sideAddr s true).1) then
    if s.alive then withdrawAddr s else faultAtFreeze s (leftJoin s) OF.dupAddr
  else s)

end Sys2Proof.Machine
end

