-- ==== Sys2Proof/Machine/Pub.lean ====
section
/-!
DEFINITION. Cyclic publication, subscription and wire mirroring (07_cyclic_publication.md, R184 to R205).
-/

namespace Sys2Proof.Machine

/-- Publication and subscription are on (R60). -/
def pubOn (s : State) : Bool := s.working

/-- The PUBLISH page works. -/
def pubRuns (s : State) : Bool := pubOn s && !s.stopReq P.pub && !s.stopped P.pub

/-- The SUBSCRIBE page works. -/
def subRuns (s : State) : Bool := pubOn s && !s.stopReq P.sub && !s.stopped P.sub

/-! ## Channels (R184 to R189) -/

/-- Channel `c` is enabled: groups 0 and 1 act as disabled. -/
def chanEn (s : State) (c : Nat) : Bool :=
  s.on P.pub (F.PUBLISH_CH_CFG_EN c) && decide (2 ≤ s.rd P.pub (F.PUBLISH_CH_CFG_GROUP c))

/-- SOURCE: 4 to 7 act as 0. -/
def chanSource (s : State) (c : Nat) : Nat := let v := s.rd P.pub (F.PUBLISH_CH_CFG_SOURCE c); if 4 ≤ v then 0 else v

/-- LEN: above 256 acts as 256. -/
def chanLen (s : State) (c : Nat) : Nat := min 256 (s.rd P.pub (F.PUBLISH_CH_CFG_LEN c))

/-- READY bits, 64 channels. -/
def readyBits (s : State) : Nat := s.rd64 P.pub F.PUBLISH_READY_LO_CH F.PUBLISH_READY_HI_CH

/-- Set the READY bits. -/
def setReady (s : State) (v : Nat) : State := s.wr64 P.pub F.PUBLISH_READY_LO_CH F.PUBLISH_READY_HI_CH v

/-- Channel `c` is an enabled FIRMWARE channel: its READY bit has an effect (R186). -/
def firmwareChan (s : State) (c : Nat) : Bool := chanEn s c && chanSource s c == 0

/-- A counter of publication goes up, unless the node has no valid address (R189), and its event is raised. -/
def pubCount (s : State) (f : Fld) (k : Nat) : State := raise (s.when s.ownValid (·.inc P.pub f)) P.pub k

/-- READY bits are written with 1 (R186): a bit newly set from the commit point on is late, where it has an effect. -/
def readyWrite (s : State) (m : Nat) : State :=
  (List.range 64).foldl (fun t c =>
    if bitOf m c && !bitOf (readyBits t) c then
      let t := setReady t (readyBits t + 2 ^ c)
      if firmwareChan t c && (t.time.pastC || decide (commitAt t ≤ t.now)) then
        pubCount { t with pub := { t.pub with late := withBit t.pub.late c } } F.PUBLISH_CNT_READY_LATE_N 0
      else t
    else t) s

/-- Staging slot of channel `c`. -/
def stageAddr (s : State) (c : Nat) : Nat := 0x10200000 + s.rd P.pub F.PUBLISH_PUB_CFG_STAGE_SEL * 0x4000 + c * 0x100

/-- The INPUTS payload at T(n) (R184). -/
def inputsPayload (s : State) : List Nat :=
  let f := (List.range 64).foldl (fun a c => if chIsInput s c && s.ch F.FIELD_CH_STAT_TICK_LEVEL c == 1 then a + 2 ^ c else a) 0
  let g := (List.range 96).foldl (fun a n => if sigLevel s n then a + 2 ^ n else a) 0
  beBytes 8 f ++ beBytes 12 g

/-- The MIRROR payload of block `b` sent in the current tick (R198). -/
def mirrorPayload (s : State) (b : Nat) : List Nat :=
  let lev := (List.range 16).foldl (fun a k =>
    if chIsInput s (16 * b + k) && s.ch F.FIELD_CH_STAT_TICK_LEVEL (16 * b + k) == 1 then a + 2 ^ k else a) 0
  let l := s.pub.edges.filter fun e =>
    e.1 / 16 == b && chIsInput s e.1 && decide (s.time.tPrev ≤ e.2.2 ∧ e.2.2 < s.time.tStart)
  let r := l.take 30
  let recs := r.flatMap fun e => [e.1 % 16 * 16 + b2n e.2.1 * 8, 0, 0, 0] ++ beBytes 4 e.2.2
  let out := beBytes 2 lev ++ [r.length, min 255 (l.length - 30), 0, 0, 0, 0] ++ recs
  out ++ List.replicate (248 - out.length) 0

/-- A channel is taken at T(n) with its payload. -/
def takeChan (s : State) (c : Nat) (pay : List Nat) : State :=
  { s with pub := { s.pub with taken := s.pub.taken ++ [(c, pay)], bufs := s.pub.bufs.put [] c pay } }

/-- The channels at T(n) (R186, R187). -/
def pubTake (s : State) : State :=
  let s := { s with pub := { s.pub with taken := [] } }
  let s := (s.wr P.pub F.PUBLISH_SENT_LO_CH 0).wr P.pub F.PUBLISH_SENT_HI_CH 0
  let s := if pubRuns s then
      s.each 64 fun t c =>
        if !chanEn t c then t
        else match chanSource t c with
          | 1 => match samplePayload t (t.rd P.pub (F.PUBLISH_CH_CFG_SEL c)) with
            | some p => takeChan t c p
            | none => t
          | 2 => takeChan t c (inputsPayload t)
          | 3 => takeChan t c (mirrorPayload t (min 3 (t.rd P.pub (F.PUBLISH_CH_CFG_SEL c))))
          | _ =>
            if bitOf (readyBits t) c && !bitOf t.pub.late c then
              takeChan (setReady t (sansBit (readyBits t) c)) c (t.memRead (stageAddr t c) (chanLen t c))
            else pubCount t F.PUBLISH_CNT_NOT_READY_N 2
    else s
  let s := (List.range 8).foldl (fun t k =>
    if s.pub.taken.any fun e => chanSource s e.1 == 1 && s.rd P.pub (F.PUBLISH_CH_CFG_SEL e.1) == k then
      setTrk t k { trk t k with cerr := false } else t) s
  let s := { s with pub := { s.pub with late := 0, edges := s.pub.edges.filter fun e => decide (s.time.tStart ≤ e.2.2) } }
  if s.stopReq P.pub then s.wr P.pub F.HDR_PAGE_STAT_STOPPED 1 else s

/-! ## Subscription entries (R190 to R194) -/

/-- A subscription entry's record. -/
def subEnt (s : State) (i : Nat) : SubEnt := s.pub.subs.at {} i

/-- Change it. -/
def setSubEnt (s : State) (i : Nat) (x : SubEnt) : State := { s with pub := { s.pub with subs := s.pub.subs.put {} i x } }

/-- Enabled entries that match SRC and CHANNEL. -/
def matching (s : State) (src chan : Nat) : List Nat :=
  (List.range 256).filter fun i =>
    s.on P.sub (F.SUBSCRIBE_SUB_MATCH_EN i) && s.rd P.sub (F.SUBSCRIBE_SUB_MATCH_SRC i) == src &&
      s.rd P.sub (F.SUBSCRIBE_SUB_MATCH_CHANNEL i) == chan

/-- Slot `k` may take an accepted payload (R285), with what follows from a sample taken (R330, R334, R321). -/
def slotTakes (s : State) (k i src : Nat) (pay : List Nat) : State :=
  let was := (trk s k).smp
  let gone := edgesGone s k (2 * s.now)
  let r := slotSample s k i src pay
  let s := r.2
  if (trk s k).smp = was then s
  else
    let s := edgesSample s k (2 * s.now) (if r.1 then some ⟨k, gone⟩ else none)
    if r.1 then driftDisc s k else s

/-- A frame of this tick reaches entry `i` (R191). -/
def feedEntry (s : State) (i src chan chSeq : Nat) (pay : List Nat) (rx : Nat) : State :=
  if pay.length ≠ min 256 (s.rd P.sub (F.SUBSCRIBE_SUB_MATCH_LEN i)) then
    countRaise s P.sub F.SUBSCRIBE_CNT_LEN_MISMATCH_N P.sub 3
  else
    let x := subEnt s i
    let s := setSubEnt s i { x with
      back := { tick := s.tick, chSeq := chSeq, src := src, chan := chan, rx := rx % 2 ^ 32, data := pay }, fresh := true }
    let s := s.inc P.sub F.SUBSCRIBE_CNT_ACCEPT_N
    s.each 8 fun t k => slotTakes t k i src pay

/-- A PUBLISH frame delivered to the subscription engine, its last byte received at ring time `t` (R190, R191). DESIGN CHOICE (log
104): where several entries match, CNT_OFFTICK counts the frame once and CNT_LEN_MISMATCH counts each entry that it does not fit. -/
def pubDeliver (s : State) (f : Frame) (t : Nat) : State :=
  let chan := f.w3 / 2 ^ 26 % 64
  if !subRuns s || !(groupPorts s f.dst).contains 10 then s
  else
    let l := matching s f.src chan
    if l.isEmpty then s.inc P.sub F.SUBSCRIBE_CNT_UNMATCHED_N
    else if f.w4 % 2 ^ 32 * 65536 + f.tick % 65536 ≠ s.tick % 2 ^ 48 then countRaise s P.sub F.SUBSCRIBE_CNT_OFFTICK_N P.sub 2
    else settleEdges (l.foldl (fun u i => feedEntry u i f.src chan (f.w3 % 65536) f.pay t) s)

/-! ## Offering (R185, R189, R195) -/

/-- The frame of channel `c` in the current tick. DESIGN CHOICE (log 103): CH_SEQ counts the frames sent before it, so that the first
carries 0. -/
def chanFrame (s : State) (c : Nat) (pay : List Nat) : Frame :=
  { typ := 2, cls := 5, mc := true, dst := s.rd P.pub (F.PUBLISH_CH_CFG_GROUP c),
    w3 := c * 2 ^ 26 + s.pub.chSeq.at 0 c % 65536, w4 := s.tick / 65536 % 2 ^ 32, pay := pay }

/-- Channel `c` is offered on E and W with its reaches; each refused copy counts (R189). Publications leave on ring 0 only. -/
def offerChan (s : State) (c : Nat) (pay : List Nat) : State :=
  let f := { chanFrame s c pay with src := s.own, tick := s.tick % 65536, seq := haloSeq s false 0 }
  let cs := copiesOf s false (s.rd P.pub (F.PUBLISH_CH_REACH_REACH_E c)) (s.rd P.pub (F.PUBLISH_CH_REACH_REACH_W c))
  let (id, t) := newId s
  let r := cs.foldl (fun (a : Bool × State) x =>
    let o := admitOne a.2 x.1 id { f with copy := x.1 % 2, reach := x.2 } true false 10
    if o.1 then (true, o.2)
    else (a.1, countRaise (dropAt o.2 x.1 5) P.pub F.PUBLISH_CNT_DROP_N P.pub 1)) (false, t)
  let s := if r.1 then haloSeqNext r.2 false 0 else r.2
  let sq := s.pub.chSeq.at 0 c
  let s := { s with pub := { s.pub with chSeq := s.pub.chSeq.put 0 c ((sq + 1) % 65536) } }
  let s := (s.inc P.pub F.PUBLISH_CNT_SENT_N).setBit P.pub (if c < 32 then F.PUBLISH_SENT_LO_CH else F.PUBLISH_SENT_HI_CH) (c % 32) true
  if subRuns s then (matching s s.own c).foldl (fun t i => feedEntry t i s.own c sq pay t.now) s else s

/-- The taken channels are offered in ascending order; a node without a valid address offers none. Before HOLD_DONE they wait
(R137), until the next tick takes its own. -/
def pubOffer (s : State) : State :=
  let l := s.pub.taken
  let u := { s with pub := { s.pub with taken := [] } }
  if s.ownValid && pubOn s then
    if s.on P.halo F.HALO_JOIN_STAT_HOLD_DONE then settleEdges (l.foldl (fun t e => offerChan t e.1 e.2) u) else s
  else u

/-! ## The swap (R194, R199 to R201) -/

/-- HOLD: 0 acts as 1. -/
def mirrorHold (s : State) (i : Nat) : Nat := max 1 (s.rd P.sub (F.SUBSCRIBE_SUB_MIRROR_HOLD i))

/-- The entry mirrors: MIRROR = 1, which needs LEN = 248. -/
def isMirror (s : State) (i : Nat) : Bool :=
  s.on P.sub (F.SUBSCRIBE_SUB_MATCH_MIRROR i) && s.rd P.sub (F.SUBSCRIBE_SUB_MATCH_LEN i) == 248

/-- Edge entry of line `k` of a mirror. -/
def mirrorEntry (s : State) (i k : Nat) : Nat := 16 * s.rd P.sub (F.SUBSCRIBE_SUB_MIRROR_EDGE_BASE i) + k

/-- Hand a level with fire time `t` ns to the edge entry of line `k` (R199, R200, R328). -/
def handLine (s : State) (i k t : Nat) (lvl : Bool) : State :=
  let n := mirrorEntry s i k
  let s := if t < s.now then countRaise s P.sub F.SUBSCRIBE_CNT_MIRROR_LATE_N P.sub 4 else s
  if inActPool s n then s
  else
    (armChecked s n { pos := false, slot := 0, durPos := false, trig := ((2 * t : Nat) : Int), pattern := b2n lvl * 2 ^ 15,
                      dur := 0 } none (2 * s.now)).2

/-- A refreshing swap of a mirror entry: its lines follow the records and then LEVELS. Its data are of the tick that has just
ended. -/
def mirrorFollow (s : State) (i : Nat) : State :=
  let pay := (subEnt s i).front.data
  let dly := 1000 * s.rd P.sub (F.SUBSCRIBE_SUB_MIRROR_DELAY i)
  let tn := s.time.tPrev
  let s := s.each 16 fun t k =>
    let x := entOf t (mirrorEntry t i k)
    if x.used && x.kind == 1 && (t.chan x.unit).mirror && chSafe t x.unit then chRelease t x.unit else t
  let s := setSubEnt s i { subEnt s i with staleSwaps := 0, lost := false }
  let s := if beAt pay 3 1 ≠ 0 then s.inc P.sub F.SUBSCRIBE_CNT_MIRROR_OVF_N else s
  let s := (List.range (min 30 (beAt pay 2 1))).foldl (fun t j =>
    let h := beAt pay (8 + 8 * j) 1
    let tm := beAt pay (12 + 8 * j) 4
    let e := (tn - 1) - ((tn - 1) + 2 ^ 32 - tm) % 2 ^ 32
    handLine t i (h / 16) (e + dly) (bitOf h 3)) s
  s.each 16 fun t k => handLine t i k (tn + dly) (bitOf (beAt pay 0 2) k)

/-- A stale swap of a mirror entry: after HOLD of them its lines take their safe states. -/
def mirrorStale (s : State) (i : Nat) : State :=
  let x := subEnt s i
  let n := x.staleSwaps + 1
  let s := setSubEnt s i { x with staleSwaps := n, lost := x.lost || decide (mirrorHold s i ≤ n) }
  if !x.lost && decide (mirrorHold s i ≤ n) then
    raise (s.each 16 fun t k => entSafe t (mirrorEntry t i k)) P.sub 5
  else s

/-- Entry `i` swaps or turns stale. -/
def swapEntry (s : State) (i : Nat) : State :=
  let x := subEnt s i
  if x.fresh then
    let s := setSubEnt s i { x with front := x.back, back := x.front, fresh := false }
    let s := (s.wr P.sub (F.SUBSCRIBE_IMG_STAT_AGE i) 0).wr P.sub (F.SUBSCRIBE_IMG_STAT_STALE i) 0
    let s := (s.wr P.sub (F.SUBSCRIBE_IMG_STAT_NEVER i) 0).wr P.sub (F.SUBSCRIBE_IMG_STAT_DATA_TICK i) x.back.tick
    if isMirror s i then mirrorFollow s i else s
  else
    let was := s.on P.sub (F.SUBSCRIBE_IMG_STAT_STALE i)
    let s := s.wr P.sub (F.SUBSCRIBE_IMG_STAT_AGE i) (min 255 (s.rd P.sub (F.SUBSCRIBE_IMG_STAT_AGE i) + 1))
    let s := (s.wr P.sub (F.SUBSCRIBE_IMG_STAT_STALE i) 1).inc P.sub F.SUBSCRIBE_CNT_STALE_N
    let s := raiseIf s (!was) P.sub 1
    if isMirror s i then mirrorStale s i else s

/-- STALE0 to STALE7 show STALE of every entry. -/
def showStale (s : State) : State :=
  s.each 8 fun t w =>
    t.wr P.sub (F.SUBSCRIBE_STALE_E w)
      ((List.range 32).foldl (fun a k => if t.on P.sub (F.SUBSCRIBE_IMG_STAT_STALE (32 * w + k)) then a + 2 ^ k else a) 0)

/-- The swap at a tick instant, step 4 of R82. -/
def pubSwap (s : State) : State :=
  if subRuns s then
    let s := s.each 256 fun t i => if t.on P.sub (F.SUBSCRIBE_SUB_MATCH_EN i) then swapEntry t i else t
    let s := (showStale s).wr P.sub F.SUBSCRIBE_SWAP_TICK_N s.tick
    settleEdges (raise s P.sub 0)
  else
    let s := s.pub.subs.foldl (fun t e => setSubEnt t e.1 { subEnt t e.1 with fresh := false }) s
    if s.stopReq P.sub then s.wr P.sub F.HDR_PAGE_STAT_STOPPED 1 else s

/-- Entry `i` becomes enabled (R194). -/
def subEnabled (s : State) (i : Nat) : State :=
  let s := setSubEnt s i { subEnt s i with fresh := false, staleSwaps := 0, lost := false }
  let s := (s.wr P.sub (F.SUBSCRIBE_IMG_STAT_AGE i) 255).wr P.sub (F.SUBSCRIBE_IMG_STAT_STALE i) 1
  showStale (s.wr P.sub (F.SUBSCRIBE_IMG_STAT_NEVER i) 1)

/-! ## Meanings -/

/-- CHANNEL_OFFER (R189). -/
def execChannelOffer (s : State) : Out := .next (if s.alive then pubOffer s else s)

/-- PUBLISH_RECEIVED (R191): a checked PUBLISH frame, its last byte received at ring time `t`. -/
def execPublishReceived (f : Frame) (t : Nat) (s : State) : Out :=
  .next (if s.alive && f.typ == 2 && f.mc then pubDeliver (s.atTime t) f t else s)

end Sys2Proof.Machine
end

