-- ==== Sys2Proof/Machine/Ring.lean ====
section
/-!
DEFINITION. A frame received on a ring lane (05_ring_links_and_frames.md, R127 to R134): the checks in order, the decision with
Halo, forwarding and local delivery, crossing at a gateway (R229 to R231), and how its end settles it.
-/

namespace Sys2Proof.Machine

/-! ## Checks (R124, R125, R126, R128 step 3) -/

/-- Permitted classes of a type. -/
def classOk (typ cls sub : Nat) : Bool :=
  match typ with
  | 1 => cls == 7
  | 2 => cls == 5
  | 3 => cls == 4 | 4 => cls == 4
  | 5 => cls == 6 | 6 => cls == 6 | 7 => cls == 6
  | 8 => cls ≤ 6
  | 9 => cls ≤ 2 | 0xA => cls ≤ 2
  | 0xB => cls == 6
  | 0xC => cls == 3
  | 0xD => if 1 ≤ sub ∧ sub ≤ 3 then cls == 7 else cls == 3
  | _ => false

/-- A defined SUBTYPE. -/
def subOk (typ sub : Nat) : Bool :=
  if typ = 0xB then decide (1 ≤ sub ∧ sub ≤ 5)
  else if typ = 0xD then decide ((1 ≤ sub ∧ sub ≤ 3) ∨ (0x10 ≤ sub ∧ sub ≤ 0x14))
  else true

/-- Step 3. -/
def headerOk (f : Frame) : Bool :=
  classOk f.typ f.cls (frameSub f) && subOk f.typ (frameSub f) && decide (f.plen ≤ 2048) && f.reach != 0

/-- Types that the lane and time-base logic takes, and ANNOUNCE: they have commands of their own. -/
def ownCommand (f : Frame) : Bool :=
  f.typ == 1 || (f.typ == 0xD && f.cls == 7) || (f.typ == 0xB && (frameSub f == 1 || frameSub f == 2))

/-- The end of the frame in reception on lane `i`. A good frame with a command of its own goes on, and counts, by that command. -/
def rxEnd (s : State) (i : Nat) (x : RxFrame) (e : FrameEnd) : State :=
  let s := endFault (s.setLane i { s.lane i with rx := none }) i e
  if e != .good then rxLost (if x.only then s.inc (P.lane i) F.LANE_RX_FRAMES_N else s) i x
  else if x.only then (if ownCommand x.frame then s else s.inc (P.lane i) F.LANE_RX_FRAMES_N)
  else if x.held then endHeld s i x.frame true
  else
    let (o, s) := passed (markReady s x.id) i x.id x.frame x.cross (x.took, x.refused)
    let tun := match (s.lane i).tun with
      | some y => if y.id = x.id then some y else none
      | none => none
    if let some y := tun then s.setLane i { s.lane i with tun := some { y with ended := true, took := o.1, refused := o.2 } }
    else if x.pend then settleHeld s x.frame.src (haloGroup x.frame.cls) x.frame.seq (!o.2) else s

/-! ## The head of a frame (R128 steps 1 to 4) -/

/-- The frame is accepted: it is admitted, and its end is awaited. -/
def rxAccept (s : State) (i : Nat) (f : Frame) (pend cross : Bool) : State :=
  let (id, s) := newId s
  let (o, s) := admitRx s i id f cross false
  let s := noteTun s i id f pend o.1 o.2 false
  s.setLane i { s.lane i with rx := some { frame := f, id := id, pend := pend, held := false, cross := cross, took := o.1, refused := o.2 } }

/-- Step 4 (R132, R231): the first rule that applies. -/
def rxDecide (s : State) (i : Nat) (f : Frame) (t : Nat) : State :=
  let g := haloGroup f.cls
  let ownDup := f.typ == 0xB && frameSub f == 5 && beAt f.pay 0 8 == s.otp.uid
  if isOwn s f.src && !ownDup then s.inc P.halo F.HALO_CNT_STRIP_N
  else if crossedBack s i f && !isOwn s f.src then
    if gwActive s then s.inc P.gw F.GATEWAY_CNT_STRIP_X_N
    else
      let toMe := !f.mc && isOwn s f.dst
      let (id, s) := newId s
      let on := if fwdReach f = 0 ∨ toMe = true then [] else [otherPort (lanePort s i)]
      let outs := on ++ (if toMe then localOuts s f else [])
      let a := admitFrame s outs id { f with reach := fwdReach f } false (lanePort s i)
      let s := if haloChecked f && on.any a.1.contains then gwTrack a.2 f else a.2
      let s := if toMe then noteTun s i id f false (!a.1.isEmpty) (a.1.isEmpty && !outs.isEmpty) false else s
      s.setLane i { s.lane i with rx := some { frame := f, id := id, pend := false, held := false, cross := false } }
  else if !haloChecked f then rxAccept s i f false (crosses s i f)
  else
    match haloDecide s f.src g f.seq t with
    | (.stale, s) => countRaise s P.halo F.HALO_CNT_STALE_N P.halo 6
    | (.duplicate, s) => haloDup s i g
    | (.hold, s) =>
      let e := haloEnt s f.src g
      let s := setHaloEnt s f.src g { e with held := e.held ++ [{ lane := i, frame := f, passed := false }] }
      let s := s.inc P.halo F.HALO_CNT_HELD_N
      s.setLane i { s.lane i with rx := some { frame := f, id := 0, pend := false, held := true, cross := false } }
    | (.accept, s) => rxAccept (haloAccept s g) i f true (crosses s i f)

/-- A frame of the Tap's tool goes to MGMT alone (R497). -/
def rxTap (s : State) (i : Nat) (f : Frame) : State :=
  let (id, s) := newId s
  let s := (admitFrame s [13] id f false 3).2
  s.setLane i { s.lane i with rx := some { frame := f, id := id, pend := false, held := false, cross := false } }

/-- A frame has passed step 3: the Tap's copy, then step 4. -/
def rxPassed3 (s : State) (i : Nat) (f : Frame) (t : Nat) : State :=
  let s := noteSup (s.inc (P.lane i) F.LANE_RX_FRAMES_N) f
  if tapLane s i then rxTap s i f
  else
    let (c, s) := tapAdmit s i f false
    rxDecide (s.setLane i { s.lane i with tap := c }) i f t

/-- Steps 1 to 4 on the head of a frame: `hd` is 0 where steps 1 and 2 pass, 1 for a PCS error, 2 for a wrong HCRC. -/
def rxHead (s : State) (i hd : Nat) (f : Frame) (t : Nat) : State :=
  let s := tunForget s i
  if hd = 1 then s
  else if hd ≠ 0 then s.inc (P.lane i) F.LANE_HCRC_ERR_N
  else if !headerOk f then s.inc (P.lane i) F.LANE_BAD_HDR_N
  else if (ownCommand f && !tapLane s i) || !laneUp s i then
    s.setLane i { s.lane i with rx := some { frame := f, id := 0, pend := false, held := false, cross := false, only := true } }
  else rxPassed3 s i f t

/-- FEC in force on lane `i`: 0 none, 1 clause 74, 2 clause 108, which is for 25GBASE-R only (R112, R144); none in the Tap role,
whatever LANE_CFG holds (R497). -/
def fecMode (s : State) (i : Nat) : Nat :=
  let v := s.rd (P.lane i) F.LANE_LANE_CFG_FEC
  if tapLane s i then 0
  else if v = 1 ∨ (v = 2 ∧ 2 ≤ i ∧ s.rd (P.lane i) F.LANE_LANE_CFG_RATE = 1) then v else 0

/-- What the decoders of lane `i` found counts (R144): errored PCS blocks, at least one where a frame fails for them (`bad`), and
codewords where FEC is on. -/
def lineErrs (s : State) (i : Nat) (ln : LineIn) (bad : Bool) : State :=
  let s := s.inc (P.lane i) F.LANE_PCS_ERR_N (if bad then max 1 ln.pcs else ln.pcs)
  if fecMode s i = 0 then s
  else (s.inc (P.lane i) F.LANE_FEC_CORR_N ln.corr).inc (P.lane i) F.LANE_FEC_UNCORR_N ln.uncorr

/-- The part of a frame brings a PCS error that fails it: within the first 24 bytes, or after them. -/
def pcsFails (hd : Nat) (part : FramePart) : Bool :=
  match part with
  | .head => hd == 1
  | .tail e => e == .pcsErr
  | .whole e => hd == 1 || e == .pcsErr

/-- A lane past block lock judges what it receives (R128): a ring lane or the Tap's, in HELLO, UP or FAULT. DEDUCED (log 83): only
an UP lane takes a frame on past step 3. -/
def laneJudges (s : State) (i : Nat) : Bool :=
  (ringLane s i || tapLane s i) && (laneUp s i || laneState s i == LS.hello || laneState s i == LS.fault)

/-- RING_FRAME_RECEIVED (R128) on lane `i` at `t`: the head, the end, or all of a frame. TICK, link-local frames and ANNOUNCE
have commands of their own, which hold what they do when their checks pass; here only their failures count. -/
def execRingFrameReceived (i : Nat) (hd : LineIn) (f : Frame) (part : FramePart) (t : Nat) (s : State) : Out :=
  .next (if lanesOn s && decide (i < 4) && laneJudges s i then
    let s := lineErrs (s.atTime t) i hd (pcsFails hd.head part)
    match part with
    | .head => rxHead (rxCut s i) i hd.head f t
    | .tail e =>
      let s := tapEnds s i e
      match (s.lane i).rx with
      | some x => rxEnd s i x e
      | none => s
    | .whole e =>
      let u := rxHead (rxCut s i) i hd.head f t
      let u := tapEnds u i e
      match (u.lane i).rx with
      | some x => rxEnd u i x e
      | none => u
  else s)

end Sys2Proof.Machine
end

