-- ==== Sys2Proof/Machine/Eth.lean ====
section
/-!
DEFINITION. The Ethernet ports (16_local_ports.md, R425 to R432), and the end of a transmission and of a port (R162, R173), which
also complete an Ethernet frame sent with TS_REQ.
-/

namespace Sys2Proof.Machine

/-! ## Frames (R426, R427) -/

/-- A register of ETH port `m`. -/
def State.et (s : State) (m : Nat) (f : Fld) : Nat := s.rd (P.eth m) f

/-- The port's record. -/
def ethSt (s : State) (m : Nat) : EthSt := s.eths.at {} m

/-- Change it. -/
def setEth (s : State) (m : Nat) (x : EthSt) : State := { s with eths := s.eths.put {} m x }

/-- MAX_LEN within its range. -/
def ethMax (s : State) (m : Nat) : Nat := clampNat 64 2052 (s.et m F.ETH_MAC_CFG_MAX_LEN)

/-- The MAC runs (R15, R30). -/
def ethOn (s : State) : Bool := s.alive && domOn s 7

/-- The frame carries an 802.1Q tag. -/
def tagged (b : List Nat) : Bool := beAt b 12 2 == 0x8100

/-- PCP and VID of a tagged frame. -/
def pcpOf (b : List Nat) : Nat := beAt b 14 2 / 2 ^ 13
def vidOf (b : List Nat) : Nat := beAt b 14 2 % 2 ^ 12

/-- A frame with the tag of a PCP and a VID supplied. -/
def addTag (b : List Nat) (pcp vid : Nat) : List Nat := b.take 12 ++ beBytes 2 0x8100 ++ beBytes 2 (pcp * 2 ^ 13 + vid) ++ b.drop 12

/-- A frame without its tag. -/
def dropTag (b : List Nat) : List Nat := if tagged b then b.take 12 ++ b.drop 16 else b

/-- The EtherType behind the tag. -/
def etherType (b : List Nat) : Nat := if tagged b then beAt b 16 2 else beAt b 12 2

/-- Class of a PCP: PCP_MAP, 3 to 7 act as 2. -/
def pcpClass (s : State) (m p : Nat) : Nat := min 2 (bitsOf (s.et m F.ETH_PCP_MAP_MAP) (3 * p) 3)

/-- Broadcast. -/
def ethBroadcast (b : List Nat) : Bool := beAt b 0 6 == 0xFFFFFFFFFFFF

/-- The entry of the address table that matches (VID, destination MAC). -/
def fdbMatch (s : State) (m : Nat) (b : List Nat) : Option Nat :=
  (List.range 64).find? fun k =>
    s.et m (F.ETH_FDB_MAC_HI_EN k) == 1 && s.et m (F.ETH_FDB_MAC_HI_VID k) == vidOf b &&
      s.et m (F.ETH_FDB_MAC_LO_MAC k) + s.et m (F.ETH_FDB_MAC_HI_MAC k) * 2 ^ 32 == beAt b 0 6

/-- A frame goes to RX_QUEUE: eight bytes of its receive stamp, then the frame. -/
def ethDeliver (s : State) (m stamp : Nat) (b : List Nat) : State :=
  (qAdmit s (s.et m F.ETH_QUEUES_RX_QUEUE) 0 0 m (s.tick % 2 ^ 32) false (leBytes 8 stamp) b).2

/-- A frame is tunnelled (R427). -/
def ethTunnel (s : State) (m cls stamp : Nat) (flood mc : Bool) (stream dst re rw : Nat) (b : List Nat) : State :=
  if !s.working then s.inc (P.eth m) F.ETH_RX_DROP_N
  else if 2048 < b.length then countRaise s (P.eth m) F.ETH_TUN_TOOBIG_N (P.eth m) 1
  else originate s (4 + m) { typ := 9, cls := cls, prio := pcpOf b, mc := mc, dst := dst
                             w3 := (4 + m) * 2 ^ 24 + stream * 2 ^ 16 + b2n flood * 2 ^ 15, w4 := stamp % 2 ^ 32, pay := b } re rw

/-- Steps 5 to 7 of R426 on a tagged frame of class `c`: an entry that matches disposes of a broadcast too. The meter judges the
frame with its FCS (R174). DESIGN CHOICE (log 105): the tag that step 2 supplies to an untagged frame counts in that length. -/
def ethRoute (s : State) (m c stamp t : Nat) (b : List Nat) : State :=
  let hit := fdbMatch s m b
  let q := if ethBroadcast b || hit.isNone then squall s m true else (true, s)
  if !q.1 then q.2
  else
    let r := metered q.2 (4 + m) c (b.length + 4) t
    match r.1 with
    | none => r.2
    | some c =>
      let s := r.2
      match hit with
      | some k =>
        if s.et m (F.ETH_FDB_DST_MC k) = 0 ∧ s.ownValid = true ∧ s.et m (F.ETH_FDB_DST_DST k) = s.own then ethDeliver s m stamp b
        else ethTunnel s m c stamp false (s.et m (F.ETH_FDB_DST_MC k) == 1) (s.et m (F.ETH_FDB_DST_STREAM k))
          (s.et m (F.ETH_FDB_DST_DST k)) (s.et m (F.ETH_FDB_REACH_REACH_E k)) (s.et m (F.ETH_FDB_REACH_REACH_W k)) b
      | none =>
        if s.et m F.ETH_FLOOD_EN = 1 then
          ethTunnel s m c stamp true (s.et m F.ETH_FLOOD_MC == 1) (s.et m F.ETH_FLOOD_STREAM) (s.et m F.ETH_FLOOD_DST)
            (s.et m F.ETH_FLOOD_REACH_REACH_E) (s.et m F.ETH_FLOOD_REACH_REACH_W) b
        else s.inc (P.eth m) F.ETH_RX_DROP_N

/-- A received frame (R425, R426). -/
def ethReceive (s : State) (m : Nat) (b : List Nat) (fcs : Bool) (t : Nat) : State :=
  if !fcs then countRaise s (P.eth m) F.ETH_RX_FCS_ERR_N (P.eth m) 1
  else if ethMax s m < b.length + 4 then s.inc (P.eth m) F.ETH_RX_TOOLONG_N
  else
    let s := s.inc (P.eth m) F.ETH_RX_FRAMES_N
    if b.length < 14 ∨ (beAt b 12 2 = 0x8808 ∧ beAt b 14 2 = 1) then s.inc (P.eth m) F.ETH_RX_DROP_N
    else if !tagged b && s.et m F.ETH_VLAN_CFG_TAG_REQ == 1 then s.inc (P.eth m) F.ETH_RX_DROP_N
    else
      let b := if tagged b then b else addTag b (s.et m F.ETH_VLAN_CFG_DEF_PCP) (s.et m F.ETH_VLAN_CFG_PVID)
      let stamp := (t - s.et m F.ETH_PHY_DLY_RX_DLY) / 2 * 2
      if etherType b = 0x88F7 then ethDeliver s m stamp b
      else ethRoute s m (pcpClass s m (pcpOf b)) stamp t b

/-- ETH_FRAME_RECEIVED (R426). -/
def execEthFrameReceived (m : Nat) (bytes : List Nat) (fcs : Bool) (t : Nat) (s : State) : Out :=
  .next (if decide (m < 4) && ethOn s && s.on (P.eth m) F.ETH_LINK_STAT_UP then ethReceive (s.atTime t) m bytes fcs t else s)

/-! ## Sending (R428, R430) -/

/-- A frame enters the queue of its class at ETH port `m`. -/
def admitEth (s : State) (m id : Nat) (f : Frame) (k ethLen : Nat) (ready cut : Bool) (ingress : Nat) : Nat × State :=
  let q := outQueue (4 + m) f.cls
  let r := admits s q k
  if r = 1 then (1, enqueue s q id f k ready cut ingress ethLen) else (r, noteRefusal s r)

/-- The TIN entry of ETH ports among `ps` that takes a tunnelled frame: port and entry (R428). -/
def tinMatch (s : State) (ps : List Nat) (f : Frame) : Option (Nat × Nat) :=
  ps.findSome? fun m =>
    ((List.range 8).find? fun i =>
      s.et m (F.ETH_TIN_EN i) == 1 && s.et m (F.ETH_TIN_STREAM i) == f.w3 / 2 ^ 16 % 256 &&
        (s.et m (F.ETH_TIN_ANY_SRC i) == 1 || s.et m (F.ETH_TIN_SRC i) == f.src)).map fun i => (m, i)

/-- A tunnelled frame leaves through the port that its TIN entry names; a multicast of an invalid group has no local ports and is
forwarded only (R151). It is charged as the ring frame that is stored (R155). `run` says
that its reception still runs. Answers 1 where the port took it, 2 where admission refused it, 0 where it came to no admission. -/
def tunnelOut (s : State) (i id : Nat) (run : Bool) (f : Frame) : Nat × State :=
  let ps := if f.mc then (List.range 4).filter fun m => (groupPorts s f.dst).contains (4 + m) else List.range 4
  match tinMatch s ps f with
  | none => (0, if f.mc && (groupPorts s f.dst).isEmpty then s else s.inc (P.eth 0) F.ETH_CNT_TUN_UNMATCHED_N)
  | some (m, e) =>
    let b := if s.et m (F.ETH_TIN_UNTAG e) = 1 then dropTag f.pay else f.pay
    let q := if bitOf f.w3 15 || ethBroadcast b then squall s m false else (true, s)
    if !q.1 then (0, q.2)
    else
      let s := q.2
      if portDown s (4 + m) then (2, dropAt s (4 + m) f.cls)
      else
        let g := { f with pay := b }
        let cut := run && cutThrough s (lanePort s i) (4 + m) g s.now
        let r := admitEth s m id g (ringCells f) (b.length + 4) (!run) cut (lanePort s i)
        if r.1 ≠ 1 then (2, dropAt r.2 (4 + m) f.cls) else (1, countPath r.2 (4 + m) cut)

/-- What the tunnel mapping came to is known: the sequence of the frame `x` is settled if it has ended, else its end will do so
(R159). -/
def tunSettle (s : State) (i : Nat) (x : TunRx) (r : Nat) : State :=
  let refused := !x.took && r != 1 && (x.refused || r == 2)
  let s := s.setLane i { s.lane i with tun := none }
  if x.ended then
    if x.pend then settleHeld s x.frame.src (haloGroup x.frame.cls) x.frame.seq (!refused) else s
  else
    match (s.lane i).rx with
    | some y => s.setLane i { s.lane i with rx := some { y with refused := refused, took := y.took || r == 1 } }
    | none => s

/-- TUNNEL_ETH (R428): the TUNNEL_ETH frame that lane `i` has accepted for this node goes to its ETH port; its reception may
still run. -/
def execTunnelEth (i : Nat) (f : Frame) (s : State) : Out :=
  .next (if lanesOn s && decide (i < 4) && tunnelled s f then
    match (s.lane i).tun with
    | none => s
    | some x =>
      let r := tunnelOut s i x.id (!x.ended) x.frame
      tunSettle r.2 i x r.1
  else s)

/-- TX_STAT of port `m`. -/
def txStat (s : State) (m st id : Nat) : State := (s.wr (P.eth m) F.ETH_TX_STAT_STATUS st).wr (P.eth m) F.ETH_TX_STAT_TX_ID id

/-- A write of TX_CTRL by initiator `ini` (R430). -/
def ethSend (s : State) (m ini : Nat) (ts : Bool) (len : Nat) : State :=
  let off := s.rdi (P.eth m) F.ETH_TX_ADDR_OFFSET ini
  if !s.working then txStat s m 6 0
  else if len < 14 ∨ ethMax s m - 4 < len then txStat s m 2 0
  else if 0x200000 < off + len then txStat s m 3 0
  else if !ethOn s || portDown s (4 + m) then txStat s m 5 0
  else
    let b := s.memRead (0x10200000 + off) len
    let c := pcpClass s m (if tagged b then pcpOf b else s.et m F.ETH_VLAN_CFG_DEF_PCP)
    let (id, t) := newId s
    let r := admitEth t m id { cls := c, pay := b } (ceilDiv (len + 4) 256) (len + 4) true false (4 + m)
    if r.1 ≠ 1 then txStat (noteRefusal s r.1) m 4 0
    else
      let d := r.2.draw 16
      let s := txStat d.2 m 1 d.1
      s.when ts fun s => setEth s m { ethSt s m with ts := (ethSt s m).ts ++ [(id, d.1)] }

/-- A completion record enters TXC_QUEUE: `res` 1 SENT, 2 FLUSHED. -/
def txRecord (s : State) (m txid stamp res : Nat) : State :=
  (qAdmit s (s.et m F.ETH_QUEUES_TXC_QUEUE) 0 0 m txid false [] (leBytes 8 stamp ++ leBytes 4 (res * 2 ^ 28))).2

/-- The frame stored under `id` leaves port `m`, which started at `t0`, or is flushed: a frame sent with TS_REQ completes. The
stamp of a flushed frame is open. -/
def txComplete (s : State) (m id : Nat) (t0 : Option Nat) : State :=
  match (ethSt s m).ts.find? fun e => e.1 == id with
  | none => s
  | some e =>
    let s := setEth s m { ethSt s m with ts := (ethSt s m).ts.filter fun x => x.1 != id }
    match t0 with
    | some t => txRecord s m e.2 ((t + s.et m F.ETH_PHY_DLY_TX_DLY) / 2 * 2) 1
    | none =>
      let d := s.draw 64
      txRecord d.2 m e.2 d.1 2

/-- Flush port `p`, and cut what it receives; frames of an ETH port that were sent with TS_REQ complete FLUSHED. -/
def flushFull (s : State) (p : Nat) : State :=
  let ids := (List.range 8).flatMap (fun c => (swQueue s (8 * p + c)).map (·.id)) ++
    (match s.sw.sending.at none p with
      | some (e, _, _) => [e.id]
      | none => [])
  let s := flushPort (if p < 4 then rxCut s (portLane s p) else s) p
  if 4 ≤ p ∧ p < 8 then ids.foldl (fun t id => txComplete t (p - 4) id none) s else s

/-- The end of a transmission at port `p` (R173, R430). -/
def transmitEndFull (s : State) (p t : Nat) : State :=
  if 4 ≤ p ∧ p < 8 then
    match s.sw.sending.at none p with
    | none => s
    | some (e, _, t0) => txComplete ((transmitEnd s p t).inc (P.eth (p - 4)) F.ETH_TX_FRAMES_N) (p - 4) e.id (some t0)
  else transmitEnd s p t

/-- PORT_DOWN (R162): a port that is down flushes its queues. -/
def execPortDown (p : Nat) (s : State) : Out :=
  .next (if s.alive && decide (p < 14) && portDown s p then flushFull s p else s)

/-! ## The link and the 802.1AS input (R425, R432, R445) -/

/-- The rate at which the link of port `m` comes up where the PHY offers `speed` (R425): 2,500 Mb/s on 2500BASE-X, on SGMII what
auto-negotiation gives, or SPEED without it; none where SGMII has no such rate. -/
def ethSpeed (s : State) (m speed : Nat) : Option Nat :=
  if s.et m F.ETH_MAC_CFG_IFACE = 1 then some 3
  else if s.et m F.ETH_MAC_CFG_AN_EN = 0 then some (min 2 (s.et m F.ETH_MAC_CFG_SPEED))
  else if speed ≤ 2 then some speed
  else none

/-- The link of port `m` goes up or down. Squall's first interval begins at the next whole millisecond (R175). -/
def ethLink (s : State) (m : Nat) (up : Bool) (speed : Nat) : State :=
  let s := ((shapeTo s (4 + m) s.now).wr (P.eth m) F.ETH_LINK_STAT_UP (b2n up)).wr (P.eth m) F.ETH_LINK_STAT_SPEED speed
  let s := raise s (P.eth m) 0
  if up then squallRestart s m ((s.now / 1000000 + 1) * 1000000) else flushFull s (4 + m)

/-- ETH_LINK_CHANGE (R425): the link comes up at a rate of the port's interface, or goes down. -/
def execEthLinkChange (m : Nat) (up : Bool) (speed : Nat) (s : State) : Out :=
  .next (if decide (m < 4) && ethOn s then
    if up then (match ethSpeed s m speed with
      | some v => ethLink s m true v
      | none => s)
    else ethLink s m false (s.et m F.ETH_LINK_STAT_SPEED)
  else s)

/-- A write of AS_OFF_HI (R432). -/
def asOffHi (s : State) (m v : Nat) : State :=
  let s := (s.wr (P.eth m) F.ETH_AS_OFF_HI_OFF v).wr (P.eth m) F.ETH_AS_STAT_VALID 1
  setEth s m { ethSt s m with asAt := s.upAt s.now }

/-- AS_TIMEOUT (R432). -/
def execAsTimeout (m t : Nat) (s : State) : Out :=
  .next (if decide (m < 4) && ethOn s && s.on (P.eth m) F.ETH_AS_STAT_VALID &&
      decide ((ethSt s m).asAt + max 10 (s.et m F.ETH_AS_TMO_MS) * 1000000 ≤ s.upAt t) then
    raise ((s.atTime t).wr (P.eth m) F.ETH_AS_STAT_VALID 0) (P.eth m) 1
  else s)

end Sys2Proof.Machine
end

