-- ==== Sys2Proof/Machine/Field.lean ====
section
/-!
DEFINITION. Field channels, encoders, the ADC and the field die's supervision (13_field_io.md): the operations and the meanings
of what happens at the field die.
-/

namespace Sys2Proof.Machine

/-- Places of roundings. -/
def Rnd.adc : Nat := 30
def Rnd.adcMean : Nat := 31

/-- The field die runs: powered, and no cold reset held. -/
def fieldOn (s : State) : Bool := s.node.rails && !s.node.rstLow

/-! ## Channel operations (R352, R355, R359, R361, R365, R366) -/

/-- FAULT_NOW bits that hold a driver off beyond a mode change: TRIPPED, THERMAL, SUPPLY. -/
def holdingFaults : Nat := 0x58

/-- A MODE change takes effect (R352): live faults that only report or time end, and a channel that leaves DO or IOLINK discards
its edge commands. -/
def chModeWrite (s : State) (c m : Nat) : State :=
  let was := chMode s c
  let s := s.chWr F.FIELD_CH_CFG_MODE c m
  let now := chMode s c
  if now = was then s
  else
    let s := s.chWr F.FIELD_CH_STAT_FAULT_NOW c (s.ch F.FIELD_CH_STAT_FAULT_NOW c &&& holdingFaults)
    let s := s.setChan c { s.chan c with ovl := false }
    if was = 3 ∨ was = 4 then edgesDropAt s 1 c else s

/-- A write of 1 to FAULT.TRIPPED ends the trip (R361). -/
def chTripClear (s : State) (c : Nat) : State :=
  (chFaultEnd s c 3).chWr F.FIELD_CH_STAT_FAULT c (sansBit (s.ch F.FIELD_CH_STAT_FAULT c) 3)

/-- Output faults concern DO, and IOLINK acting as DO or driving C/Q. -/
def chDrives (s : State) (c : Nat) : Bool := chIsOutput s c || chIsIol s c

/-- Field inputs are on: JOIN to ISOLATE (R60). -/
def fieldInputsOn (s : State) : Bool := s.working || s.isIn [NS.join, NS.isolate]

/-- Channel levels latched at T(n) (R356). -/
def channelLatch (s : State) : State :=
  let lv := fun (c : Nat) => chIsInput s c && (s.chan c).comp
  let s := allChans.foldl (fun t c => t.chWr F.FIELD_CH_STAT_TICK_LEVEL c (b2n (lv c))) s
  let word := fun (b n : Nat) => (List.range n).foldl (fun a k => if lv (b + k) then a + 2 ^ k else a) 0
  let s := (s.wr P.fdie F.FDIE_IN_LO_LEVEL (word 0 32)).wr P.fdie F.FDIE_IN_HI_LEVEL (word 32 32)
  s.each 8 fun t j => t.wr (P.field (8 * j)) F.FIELD_IN_TICK_LEVEL (word (8 * j) 8)

/-- What the field die latches at T(n) (R356, R369): encoder counts in every state. -/
def fieldLatch (s : State) : State :=
  (s.when (fieldInputsOn s) channelLatch).each 4 fun t e => t.wr P.enc (F.ENCODER_ENC_TICK_C e) (t.rd P.enc (F.ENCODER_ENC_COUNT_C e))

/-! ## Meanings: channels -/

/-- FIELD_INPUT_EDGE (R357): the comparator of channel `c` changes to `lvl` at `t` ns and `fr` × 2^-16 ns, and holds it for `w`
ns. It is reported where it holds for FILT µs, in the states in which field inputs are on (R60). -/
def execFieldInputEdge (c : Nat) (lvl : Bool) (t fr w : Nat) (s : State) : Out :=
  .next (if fieldOn s && decide (c < 64) then
    let s := s.setChan c { s.chan c with comp := lvl }
    let s := if c < 16 then s.setSig (99 + 4 * c) { s.sig (99 + 4 * c) with ext := some lvl } else s
    if !fieldInputsOn s || !chIsInput s c || decide (w < 1000 * s.ch F.FIELD_CH_CFG_FILT c) then s
    else
      let s := if bitOf (s.ch F.FIELD_CH_CFG_EDGE_EV c) (if lvl then 0 else 1) then raise s (P.field c) (c % 8) else s
      if s.alive then
        let s := s.atTime t
        let s := { s with pub := { s.pub with edges := s.pub.edges ++ [(c, lvl, t)] } }
        captureEdge s 1 c lvl t (fr % 65536) w
      else s
  else s)

/-- WAKE_UP_END (R359): the pulse ends, the driver follows IOL_EN again. -/
def execWakeUpEnd (c : Nat) (s : State) : Out :=
  .next (if fieldOn s && decide (c < 64) && s.ch F.FIELD_CH_STAT_WURQ_BUSY c == 1 then
    raise (s.chWr F.FIELD_CH_STAT_WURQ_BUSY c 0) (P.field c) (c % 8)
  else s)

/-- OPEN (R360): DO with BREAK_EN. -/
def execOpenLoad (c : Nat) (s : State) : Out :=
  .next (if fieldOn s && decide (c < 64) && chIsOutput s c && s.ch F.FIELD_CH_CFG_BREAK_EN c == 1 then chFault raise s c 0 else s)

/-- SHORT_VF (R360): DO with the driver off. -/
def execShortVf (c : Nat) (s : State) : Out :=
  .next (if fieldOn s && decide (c < 64) && chIsOutput s c && !chDriverOn s c then chFault raise s c 1 else s)

/-- OVERLOAD (R360): the current limit engages; the OVERLOAD timer runs. -/
def execOverload (c : Nat) (s : State) : Out :=
  .next (if fieldOn s && decide (c < 64) && chDrives s c && chDriverOn s c then
    let s := chFault raise s c 2
    s.setChan c { s.chan c with ovl := true }
  else s)

/-- TRIPPED (R361): the limit has stayed engaged for OVL_TIME; the driver is latched off. -/
def execTripped (c : Nat) (s : State) : Out :=
  .next (if fieldOn s && decide (c < 64) && chDrives s c && chDriverOn s c && (s.chan c).ovl then
    let s := chFault raise s c 3
    let s := s.setChan c { s.chan c with ovl := false }
    s.chWr F.FIELD_CH_CNT_TRIPS c (satAdd 16 (s.ch F.FIELD_CH_CNT_TRIPS c) 1)
  else s)

/-- TRIP_RETRY (R361): 1 s after the trip the driver comes back on by itself. -/
def execTripRetry (c : Nat) (s : State) : Out :=
  .next (if fieldOn s && decide (c < 64) && chFaultNow s c 3 && s.ch F.FIELD_CH_CFG_AUTO_RETRY c == 1 then chFaultEnd s c 3 else s)

/-- THERMAL (R360, R361): the driver goes off, and an OVERLOAD timer stops. -/
def execThermal (c : Nat) (s : State) : Out :=
  .next (if fieldOn s && decide (c < 64) && chDrives s c && !chFaultNow s c 4 then
    let s := chFault raise s c 4
    let s := s.setChan c { s.chan c with ovl := false }
    s.chWr F.FIELD_CH_CNT_THERMALS c (satAdd 16 (s.ch F.FIELD_CH_CNT_THERMALS c) 1)
  else s)

/-- THERMAL_RECOVER (R360, R361): the OVERLOAD timer of an overload that lasts restarts from zero. -/
def execThermalRecover (c : Nat) (s : State) : Out :=
  .next (if fieldOn s && decide (c < 64) && chFaultNow s c 4 then
    let s := chFaultEnd s c 4
    s.setChan c { s.chan c with ovl := chFaultNow s c 2 && !chFaultNow s c 3 }
  else s)

/-- BREAK (R360): DI1 or DI3 with BREAK_EN, and an IOLINK channel that acts as DI1 input (R358). -/
def execWireBreak (c : Nat) (s : State) : Out :=
  .next (if fieldOn s && decide (c < 64) && chIsInput s c && s.ch F.FIELD_CH_CFG_BREAK_EN c == 1 then
    chFault raise s c 5
  else s)

/-- FAULT_NOW_CLEAR (R360): OPEN (0), SHORT_VF (1), OVERLOAD (2) or BREAK (5) ends; an OVERLOAD timer stops with its fault. -/
def execFaultNowClear (c k : Nat) (s : State) : Out :=
  .next (if fieldOn s && decide (c < 64) && (k == 0 || k == 1 || k == 2 || k == 5) then
    let s := chFaultEnd s c k
    if k = 2 then s.setChan c { s.chan c with ovl := false } else s
  else s)

/-- SAFE_HOLD_EXPIRY (R364): the HOLD time of a channel runs out. -/
def execSafeHoldExpiry (c : Nat) (s : State) : Out :=
  .next (if fieldOn s && decide (c < 64) && chSafe s c && s.ch F.FIELD_CH_CFG_SAFE c == 1 then
    s.setChan c { s.chan c with holdEnd := true }
  else s)

/-! ## Meanings: VFIELD and temperature (R362, R363) -/

/-- VF_UV. -/
def execVfUv (s : State) : Out :=
  .next (if fieldOn s && !s.on P.fdie F.FDIE_FD_STAT_VF_UV then
    fdieEv raise (supplyAll raise (s.wr P.fdie F.FDIE_FD_STAT_VF_UV 1) true) 1
  else s)

/-- VF_REV. -/
def execVfRev (s : State) : Out :=
  .next (if fieldOn s && !s.on P.fdie F.FDIE_FD_STAT_VF_REV then
    fdieEv raise (supplyAll raise (s.wr P.fdie F.FDIE_FD_STAT_VF_REV 1) true) 2
  else s)

/-- VF_RECOVER. -/
def execVfRecover (s : State) : Out :=
  .next (if fieldOn s then
    supplyAll raise ((s.wr P.fdie F.FDIE_FD_STAT_VF_UV 0).wr P.fdie F.FDIE_FD_STAT_VF_REV 0) false
  else s)

/-- OVERTEMP: every channel driver and every branch gate goes off. -/
def execOvertemp (s : State) : Out :=
  .next (if fieldOn s && !s.on P.fdie F.FDIE_FD_STAT_OVERTEMP then
    branchesOvertemp (fdieEv raise (s.wr P.fdie F.FDIE_FD_STAT_OVERTEMP 1) 3)
  else s)

/-- OVERTEMP_CLEAR. -/
def execOvertempClear (s : State) : Out :=
  .next (if fieldOn s && s.on P.fdie F.FDIE_FD_STAT_OVERTEMP then branchesCool (s.wr P.fdie F.FDIE_FD_STAT_OVERTEMP 0) else s)

/-! ## Encoders (R367 to R371) -/

/-- CMODE: 5 to 7 act as 0. -/
def encMode (s : State) (e : Nat) : Nat := let m := s.rd P.enc (F.ENCODER_ENC_CFG_CMODE e); if 5 ≤ m then 0 else m

/-- The receiver counts: enabled, with the FIELD clock. -/
def encCounts (s : State) (e : Nat) : Bool := s.on P.enc (F.ENCODER_ENC_CFG_EN e) && !s.on P.fdie F.FDIE_FD_STAT_CLK_LOST

/-- A quadrature step: A changes to differ from B, or B changes to equal A, in one direction of travel. -/
def quadStep (fwd : Bool) : Int := if fwd == Config.quadUp then 1 else -1

/-- What a change of the lines from (a, b) to (a', b') counts; none where it is an illegal transition (R368). -/
def encDelta (mode : Nat) (a b a' b' : Bool) : Option Int :=
  if mode ≤ 1 ∧ a ≠ a' ∧ b ≠ b' then none
  else
    some (match mode with
      | 0 => if a != a' then quadStep (a' != b') else if b != b' then quadStep (a' == b') else 0
      | 1 => if a != a' then quadStep (a' != b') else 0
      | 2 => if !a && a' then quadStep (a' != b') else 0
      | 3 => if !a && a' then (if b' then -1 else 1) else 0
      | _ => if !a && a' then 1 else 0)

/-- A new level of a line of receiver `e` that holds for `n` samples of 4 ns passes the filter (R367). -/
def encPasses (s : State) (e n : Nat) : Bool := decide (s.rd P.enc (F.ENCODER_ENC_CFG_FILT e) ≤ n)

/-- ENCODER_EDGE (R367, R368): the lines of receiver `e` become (a, b) at an instant; a line counts where it holds its level for FILT
samples. The delay of the filter is timing: the edge is counted as of its instant. -/
def execEncoderEdge (e : Nat) (a b : Bool) (ed : EncEdge) (s : State) : Out :=
  .next (if fieldOn s && decide (e < 4) then
    let t2 := ed.t2
    let x := s.field.encs.at {} e
    let a := if encPasses s e ed.holdA then a else x.a
    let b := if encPasses s e ed.holdB then b else x.b
    let u := { s with field := { s.field with encs := s.field.encs.put {} e { x with a := a, b := b } } }
    if !encCounts s e then u
    else
      match encDelta (encMode s e) x.a x.b a b with
      | none =>
        let u := (u.inc P.enc (F.ENCODER_ENC_ERRS_N e)).wr P.enc (F.ENCODER_ENC_STAT_ERR_SEEN e) 1
        trkCountErr (raise u P.enc (2 * e + 1)) e
      | some d =>
        if d = 0 then u
        else
          let u := u.wr P.enc (F.ENCODER_ENC_COUNT_C e) (ofSigned 32 (u.rd P.enc (F.ENCODER_ENC_COUNT_C e) + d))
          trkEdge u e t2 d
  else s)

/-- Z_EDGE (R369): a rising edge of Z latches the count. -/
def execZEdge (e : Nat) (s : State) : Out :=
  .next (if fieldOn s && decide (e < 4) && encCounts s e then
    s.wr P.enc (F.ENCODER_ENC_ZLATCH_C e) (s.rd P.enc (F.ENCODER_ENC_COUNT_C e))
  else s)

/-- Lines of a receiver that are judged for breaks (R370): bit 0 A, 1 B, 2 Z. -/
def breakLines (s : State) (e : Nat) : Nat :=
  let htl := s.on P.enc (F.ENCODER_ENC_CFG_HTL e) && !s.on P.enc (F.ENCODER_ENC_CFG_COMPL e)
  if !s.on P.enc (F.ENCODER_ENC_CFG_EN e) || !s.on P.enc (F.ENCODER_ENC_CFG_BREAK_EN e) || htl then 0
  else if s.on P.enc (F.ENCODER_ENC_CFG_Z_CHECK e) then 7 else 3

/-- ENCODER_BREAK (R370): the condition of the lines in `lines` has held for BREAK_TIME. -/
def execEncoderBreak (e lines : Nat) (s : State) : Out :=
  let m := lines &&& breakLines s e
  .next (if fieldOn s && decide (e < 4) && m != 0 then
    let s := (s.wr P.enc (F.ENCODER_ENC_STAT_BREAK e) 1).orb P.enc (F.ENCODER_ENC_STAT_BREAK_LINES e) m
    trkBreak (raise (s.wr P.enc (F.ENCODER_ENC_STAT_BREAK_SEEN e) 1) P.enc (2 * e)) e
  else s)

/-- ENCODER_BREAK_CLEAR (R370). -/
def execEncoderBreakClear (e : Nat) (s : State) : Out :=
  .next (if fieldOn s && decide (e < 4) && s.on P.enc (F.ENCODER_ENC_STAT_BREAK e) then
    trkBreakClear ((s.wr P.enc (F.ENCODER_ENC_STAT_BREAK e) 0).wr P.enc (F.ENCODER_ENC_STAT_BREAK_LINES e) 0) e
  else s)

/-- CLK_LOST (R371): counting stops, and every receiver's count is in error. -/
def execClkLost (s : State) : Out :=
  .next (if fieldOn s && !s.on P.fdie F.FDIE_FD_STAT_CLK_LOST then
    let s := s.each 4 fun t e => trkCountErr (t.wr P.enc (F.ENCODER_ENC_STAT_CLK_LOST e) 1) e
    fdieEv raise (s.wr P.fdie F.FDIE_FD_STAT_CLK_LOST 1) 4
  else s)

/-- FIELD_CLOCK_RESTORED (R371): counting resumes from the line levels of that instant: bits 2e (A) and 2e + 1 (B). -/
def execFieldClockRestored (lv : Nat) (s : State) : Out :=
  .next (if fieldOn s && s.on P.fdie F.FDIE_FD_STAT_CLK_LOST then
    (s.wr P.fdie F.FDIE_FD_STAT_CLK_LOST 0).each 4 fun t e =>
      let x : EncCh := { t.field.encs.at {} e with a := bitOf lv (2 * e), b := bitOf lv (2 * e + 1) }
      { t with field := { t.field with encs := t.field.encs.put {} e x } }
  else s)

/-! ## ADC (R372, R373) -/

/-- WARN in 0.125 °C. -/
def tempWarn (s : State) : Nat := clampNat 60 130 (s.rd P.sens F.SENSORS_TEMP_CFG_WARN) * 8

/-- Sensor `k` reads `v` in 0.125 °C (R530, R531). WARN is judged with its hysteresis; a logic-die reading of 135 °C or above sets
CRIT and raises TEMP_CRIT each time. DESIGN CHOICE (log 112): the log of the hub gets one entry for each rise to either. -/
def tempReading (s : State) (k : Nat) (v : Int) : State :=
  let was := toSigned 16 (s.rd P.sens (F.SENSORS_TEMP_T k))
  let s := s.wr P.sens (F.SENSORS_TEMP_T k) (ofSigned 16 v)
  let s := if v ≤ (tempWarn s : Int) - 40 then { s with mgmt := { s.mgmt with warmed := putBit s.mgmt.warmed k false } } else s
  let s :=
    if (tempWarn s : Int) ≤ v && !bitOf s.mgmt.warmed k then
      let s := { s with mgmt := { s.mgmt with warmed := putBit s.mgmt.warmed k true } }
      hubLog (raise (s.setBit P.sens F.SENSORS_TEMP_STAT_WARN k true) P.sens 0) 5 none none none
    else s
  if k < 6 ∧ 1080 ≤ v then
    let s := raise (s.setBit P.sens F.SENSORS_TEMP_STAT_CRIT k true) P.sens 1
    if was < 1080 then hubLog s 5 none none none else s
  else s

/-- TEMP6 and TEMP7 are copies of ADC inputs 16 and 17, renewed with them while the field die can be reached (R530). -/
def adcCopies (s : State) (i : Nat) : State :=
  if (i = 16 ∨ i = 17) ∧ s.alive ∧ !s.stitch.down then
    tempReading s (i - 10) (toSigned 16 (s.rd P.adc (F.ADC_RESULT_VALUE i)))
  else s

/-- A result of input `i` is renewed: mean code `raw`, and for the inputs of fixed gain the value in their unit. A value that
does not fit 16 bits is not stated: it is a free value. -/
def adcResult (s : State) (i raw : Nat) (fixed : Int) : State :=
  let v : Int :=
    if adcScaled i then
      rnd Rnd.adc ((raw * s.rd P.adc (F.ADC_SCALE_GAIN i) : Nat) / (4096 : Rat)) + toSigned 16 (s.rd P.adc (F.ADC_SCALE_OFFSET i))
    else fixed
  let (w, s) := if -32768 ≤ v ∧ v < 32768 then (ofSigned 16 v, s) else s.draw 16
  let v := toSigned 16 w
  let hi := toSigned 16 (s.rd P.adc (F.ADC_LIMIT_HI i))
  let lo := toSigned 16 (s.rd P.adc (F.ADC_LIMIT_LO i))
  let out := !(hi == 0 && lo == 0) && (decide (v < lo) || decide (hi < v))
  let s := (s.wr P.adc (F.ADC_RESULT_VALID i) 1).wr P.adc (F.ADC_RESULT_RAW i) raw
  let s := (s.wr P.adc (F.ADC_RESULT_VALUE i) w).wr P.adc (F.ADC_RESULT_OVR i) (b2n out)
  let s := if out then raise (s.setBit P.adc F.ADC_LIM_STAT_OUT i true) P.adc 0 else s
  if !s.bit P.adc F.ADC_FIFO_MASK_EN i then s
  else if 64 ≤ s.field.fifo.length then raise (s.wr P.adc F.ADC_FIFO_STAT_OVF 1) P.adc 1
  else
    let s := { s with field := { s.field with fifo := s.field.fifo ++ [(i, w)] } }
    s.wr P.adc F.ADC_FIFO_STAT_LEVEL s.field.fifo.length

/-- A conversion of input `i` in a round (R372): its result is renewed at the 2^AVG-th round, with the means. DESIGN CHOICE (log
107): the rounds of a mean are counted for each input, a change of AVG acts on the mean in progress, and an input that is taken out
of the scan loses it. -/
def adcConvert (s : State) (i raw : Nat) (v : Int) : State :=
  let m := s.field.means.at (0, 0, 0) i
  let n := m.1 + 1
  let sum := m.2.1 + raw
  let tot := m.2.2 + v
  let put := fun (x : Nat × Nat × Int) => { s with field := { s.field with means := s.field.means.put (0, 0, 0) i x } }
  if n < 2 ^ s.rd P.adc F.ADC_ADC_CFG_AVG then put (n, sum, tot)
  else adcCopies (adcResult (put (0, 0, 0)) i ((rnd Rnd.adcMean ((sum : Rat) / n)).toNat % 4096)
    (rnd Rnd.adcMean ((tot : Rat) / n))) i

/-- ADC_ROUND (R372): the inputs of the scan are converted in order; `r` gives input, code and the value in its unit. -/
def execAdcRound (r : List (Nat × Nat × Int)) (s : State) : Out :=
  .next (if fieldOn s then
    (List.range 24).foldl (fun t i =>
      if t.bit P.adc F.ADC_SCAN_EN i && i != 7 then
        match r.find? fun e => e.1 == i with
        | some (_, raw, v) => adcConvert t i (raw % 4096) v
        | none => t
      else { t with field := { t.field with means := t.field.means.put (0, 0, 0) i (0, 0, 0) } }) s
  else s)

/-- A read of ADC.FIFO (R373): the oldest entry goes, as a word with VALID. -/
def adcFifoRead (s : State) : Nat × State :=
  match s.field.fifo with
  | [] => (0, s)
  | (i, v) :: r =>
    (2 ^ 31 + i * 2 ^ 24 + v,
      ({ s with field := { s.field with fifo := r } }).wr P.adc F.ADC_FIFO_STAT_LEVEL r.length)

end Sys2Proof.Machine
end

