-- ==== Sys2Proof/Machine/Flash.lean ====
section
/-!
DEFINITION. The flash controller (16_local_ports.md, R441, R442).
-/

namespace Sys2Proof.Machine

/-- Codes of FL_STAT.RESULT (R448). -/
def FR.ok : Nat := 1
def FR.prot : Nat := 2
def FR.badArg : Nat := 3
def FR.devErr : Nat := 4
def FR.busy : Nat := 5

/-- An operation completes: RESULT, and DONE or ERR. -/
def flashResult (s : State) (r : Nat) : State :=
  raise (s.wr P.flash F.FLASH_FL_STAT_RESULT r) P.flash (if r = FR.ok then 0 else 1)

/-- Where an operation acts: first byte and number of bytes. -/
def flashSpan (op addr len : Nat) : Nat × Nat :=
  match op with
  | 1 => (addr, len)
  | 2 => (addr / 0x1000 * 0x1000, 0x1000)
  | _ => (addr / 0x10000 * 0x10000, 0x10000)

/-- A write of FL_CMD (R441, R442). A program stays within one device page of 256 bytes. -/
def flashCmd (s : State) (op : Nat) : State :=
  let addr := s.rd P.flash F.FLASH_FL_ADDR_ADDR
  let len := s.rd P.flash F.FLASH_FL_BUF_LEN
  let off := s.rd P.flash F.FLASH_FL_BUF_OFFSET
  if s.on P.flash F.FLASH_FL_STAT_BUSY || s.on P.log F.LOG_EXP_STAT_BUSY then flashResult s FR.busy
  else if op < 1 ∨ 3 < op ∨ (op = 1 ∧ (len < 1 ∨ 256 < addr % 256 + len ∨ 0x200000 < off + len)) then flashResult s FR.badArg
  else if (flashSpan op addr len).1 < s.rd P.flash F.FLASH_FL_PROT_PROT_END * 0x10000 then flashResult s FR.prot
  else
    let b := if op = 1 then s.memRead (0x10200000 + off) len else []
    (s.wr P.flash F.FLASH_FL_STAT_BUSY 1).wr P.flash F.FLASH_FL_STAT_RESULT 0
      |> fun s => { s with ports := { s.ports with flash := some (op, addr, b) } }

/-- Bytes of the flash from `a` up become 0xFF. -/
def flashErase (s : State) (a n : Nat) : State :=
  { s with mem := s.mem.filter fun c => !(decide (0x50000000 + a ≤ c.1) && decide (c.1 < 0x50000000 + a + n)) }

/-- A program clears bits: each byte becomes the AND of the old and the new. -/
def flashProgram (s : State) (a : Nat) (b : List Nat) : State :=
  s.memWrite (0x50000000 + a) ((List.range b.length).map fun k => (s.memAt (0x50000000 + a + k)).toNat &&& b.getD k 0)

/-- `n` bytes from `a` up hold open values. -/
def memUnknown (s : State) (a n : Nat) : State :=
  s.each n fun t k => let d := t.draw 8; d.2.memPut (a + k) (BitVec.ofNat 8 d.1)

/-- Bytes of the flash hold open values after a failed operation. -/
def flashUnknown (s : State) (a n : Nat) : State := memUnknown s (0x50000000 + a) n

/-- FLASH_DONE (R441): the device has finished the operation, with or without an error. -/
def execFlashDone (ok : Bool) (s : State) : Out :=
  .next (if s.alive && domOn s 7 then
    match s.ports.flash with
    | none => s
    | some (op, addr, b) =>
      let w := flashSpan op addr b.length
      let s := { s with ports := { s.ports with flash := none } }.wr P.flash F.FLASH_FL_STAT_BUSY 0
      let s := if !ok then flashUnknown s w.1 w.2 else if op = 1 then flashProgram s w.1 b else flashErase s w.1 w.2
      flashResult s (if ok then FR.ok else FR.devErr)
  else s)

end Sys2Proof.Machine
end

