-- ==== Sys2Proof/Machine/Image.lean ====
section
/-!
DEFINITION. Program banks, images, boot headers and keys (20_management_boot_update.md, R537 to R545; 01_architecture.md, R17).
-/

namespace Sys2Proof.Machine

/-! ## Program banks (R17) -/

/-- The address at which the model holds a byte of a program bank: the bank that is physically active under either alias. -/
def bankPhys (s : State) (a : Nat) : Nat :=
  if 0x10000000 ≤ a ∧ a < 0x10200000 then
    (if s.on P.cores F.CORES_BANK_ACTIVE then (if a < 0x10100000 then a + 0x100000 else a - 0x100000) else a)
  else if 0x08000000 ≤ a ∧ a < 0x08040000 then
    (if s.on P.mgmt F.MGMT_MBANK_ACTIVE then (if a < 0x08020000 then a + 0x20000 else a - 0x20000) else a)
  else a

/-- Bytes of the flash from offset `a` up. -/
def flashBytes (s : State) (a n : Nat) : List Nat := s.memRead (0x50000000 + a) n

/-- The little-endian field of `n` bytes at offset `k` of a block. -/
def leAt (l : List Nat) (k n : Nat) : Nat := leVal (slice l k n)

/-- Base of an image slot in the flash (R443). -/
def slotBase (slot : Nat) : Nat := if slot = 0 then 0x1000000 else 0x2000000

/-! ## Boot headers (R543) -/

/-- A boot header copy: (SEQ, PRIMARY) if it is valid. -/
def bootCopy (s : State) (a : Nat) : Option (Nat × Nat) :=
  let b := flashBytes s a 16
  if leAt b 0 4 = 0x53524B48 then
    (if leAt b 12 4 = crc32 (b.take 12) then some (leAt b 4 4, leAt b 8 4 % 2) else none)
  else none

/-- `a` is later than `b` in serial arithmetic of 32 bits. -/
def seqLater (a b : Nat) : Bool := let d := (a + 2 ^ 32 - b) % 2 ^ 32; decide (0 < d ∧ d < 2 ^ 31)

/-- The deciding copy: (its address, SEQ, PRIMARY). -/
def bootHeader (s : State) : Option (Nat × Nat × Nat) :=
  match bootCopy s 0, bootCopy s 0x10000 with
  | some x, some y => if seqLater y.1 x.1 then some (0x10000, y) else some (0, x)
  | some x, none => some (0, x)
  | none, some y => some (0x10000, y)
  | none, none => none

/-- Write a boot header that names a slot: over the copy that does not decide, with SEQ + 1. -/
def bootWrite (s : State) (slot : Nat) : State :=
  let x := match bootHeader s with
    | some (a, q, _) => (if a = 0 then 0x10000 else 0, (q + 1) % 2 ^ 32)
    | none => (0, 1)
  let b := leBytes 4 0x53524B48 ++ leBytes 4 x.2 ++ leBytes 4 slot
  flashProgram (flashErase s x.1 0x1000) x.1 (b ++ leBytes 4 (crc32 b))

/-! ## Keys (R537, R538) -/

/-- A key slot is PROGRAMMED and not revoked. -/
def keyLive (s : State) (k : Nat) : Bool := bitOf s.otp.programmed k && !bitOf s.otp.revoked k

/-- Admitted key slots: `service` adds slot 3; slot 0 only while neither 1 nor 2 is live. -/
def keysFor (s : State) (service : Bool) : List Nat :=
  (if keyLive s 1 || keyLive s 2 then [] else [0]) ++ [1, 2] ++ (if service then [3] else [])

/-- KEYHASH of a slot, 256 bits. -/
def keyHash (s : State) (k : Nat) : Nat := if k = 0 then Config.vendorRoot.toNat else s.otp.keyHash.at 0 k

/-- The live slot of a list whose hash is that of a key. -/
def keyMatch (s : State) (l : List Nat) (key : List Nat) : Option Nat :=
  l.find? fun k => keyLive s k && keyHash s k == Config.sha256 key

/-! ## Images (R542, R545) -/

/-- Codes of BOOT_INFO.A_CAUSE and B_CAUSE (R564). -/
def BC.ok : Nat := 1
def BC.noHeader : Nat := 2
def BC.badLen : Nat := 3
def BC.key : Nat := 4
def BC.sig : Nat := 5
def BC.rollback : Nat := 6
def BC.hash : Nat := 7
def BC.flash : Nat := 8

/-- SVN, VERSION and IMG_LEN of an image header. -/
def imgSvn (h : List Nat) : Nat := leAt h 4 1
def imgVersion (h : List Nat) : Nat := leAt h 8 8
def imgLen (h : List Nat) : Nat := leAt h 0x10 4
def mgmtLen (h : List Nat) : Nat := leAt h 0x14 4
def fieldLen (h : List Nat) : Nat := leAt h 0x18 4

/-- Lengths and offsets are in range. -/
def imgLens (h : List Nat) : Bool :=
  let ml := mgmtLen h
  let fl := fieldLen h
  decide (4 ≤ ml ∧ ml ≤ 131072 ∧ 4 ≤ fl ∧ fl ≤ 1048576) && imgLen h == 0x21000 + fl &&
    ([0x1C, 0x24].all fun o => decide (leAt h o 4 < 0x20000) && leAt h o 4 % 4 == 0) &&
    ([0x20, 0x28].all fun o => decide (leAt h o 4 < 0x100000) && leAt h o 4 % 4 == 0) && decide (imgSvn h ≤ 32)

/-- The first five checks of R545 on a header: OK, or the cause of the first that fails. -/
def judgeHead (s : State) (h : List Nat) : Nat :=
  if leAt h 0 4 ≠ 0x53524B31 ∨ leAt h 6 2 ≠ 1 then BC.noHeader
  else if !imgLens h then BC.badLen
  else
    let key := slice h 0x80 64
    match keyMatch s (keysFor s false) key with
    | none => BC.key
    | some _ =>
      if !Config.ecdsaOk key (Config.sha256 (slice h 0 0x80)) (slice h 0xC0 64) then BC.sig
      else if imgSvn h < s.otp.rollback then BC.rollback
      else BC.ok

/-- The key slot that signed a header. -/
def imgSigner (s : State) (h : List Nat) : Nat := (keyMatch s (keysFor s false) (slice h 0x80 64)).getD 0

/-- MGMT_HASH and FIELD_HASH are those of the parts in a slot. -/
def partsOk (s : State) (slot : Nat) (h : List Nat) : Bool :=
  let b := slotBase slot
  Config.sha256 (flashBytes s (b + 0x1000) (mgmtLen h)) == beVal (slice h 0x30 32) &&
    Config.sha256 (flashBytes s (b + 0x21000) (fieldLen h)) == beVal (slice h 0x50 32)

/-- The header in a slot. -/
def slotHead (s : State) (slot : Nat) : List Nat := flashBytes s (slotBase slot) 256

/-- R545 on a slot, in its order; `err` says that reading it met a flash error or an uncorrectable ECC error. -/
def judgeSlot (s : State) (slot : Nat) (err : Bool) : Nat :=
  let c := judgeHead s (slotHead s slot)
  if c ≠ BC.ok then c
  else if !partsOk s slot (slotHead s slot) then BC.hash
  else if err then BC.flash
  else BC.ok

/-- What the hub remembers of the image in a slot. -/
def imgInfo (s : State) (slot : Nat) : ImgInfo :=
  let h := slotHead s slot
  { slot := slot, version := imgVersion h, svn := imgSvn h, signer := imgSigner s h
    field := leAt h 0x28 4, mgmt := leAt h 0x24 4 }

/-- Copy the parts of a slot into program banks: the active ones, or the inactive ones. -/
def loadParts (s : State) (slot : Nat) (active : Bool) : State :=
  let h := slotHead s slot
  let b := slotBase slot
  let s := s.memWrite (bankPhys s (if active then 0x08000000 else 0x08020000)) (flashBytes s (b + 0x1000) (mgmtLen h))
  s.memWrite (bankPhys s (if active then 0x10000000 else 0x10100000)) (flashBytes s (b + 0x21000) (fieldLen h))

end Sys2Proof.Machine
end

