-- ==== Sys2Proof/Machine/Uart.lean ====
section
/-!
DEFINITION. The UARTs (16_local_ports.md, R433 to R437), and TUNNEL_FIELD frames of both kinds.
-/

namespace Sys2Proof.Machine

/-- A register of UART `u`. -/
def State.ua (s : State) (u : Nat) (f : Nat → Fld) : Nat := s.rd (P.uart u) (f (u % 4))

/-- Set it. -/
def State.uaWr (s : State) (u : Nat) (f : Nat → Fld) (v : Nat) : State := s.wr (P.uart u) (f (u % 4)) v

/-- Count in it. -/
def State.uaInc (s : State) (u : Nat) (f : Nat → Fld) : State := s.inc (P.uart u) (f (u % 4))

/-- The UART's record. -/
def uart (s : State) (u : Nat) : UartSt := s.uarts.at {} u

/-- Change it; RX_ACTIVE, TX_BUSY and DE follow. -/
def setUart (s : State) (u : Nat) (x : UartSt) : State :=
  let s := { s with uarts := s.uarts.put {} u x }
  let s := (s.uaWr u F.UART_U_STAT_RX_ACTIVE (b2n !x.rx.isEmpty)).uaWr u F.UART_U_STAT_TX_BUSY (b2n x.tx.isSome)
  s.uaWr u F.UART_U_STAT_DE (b2n (x.tx.isSome && s.ua u F.UART_U_CFG_MODE == 2))

/-- The level of UARTn_DE (R434, R446): asserted while U_STAT.DE is 1, low where DE_POL = 1 makes it active low. -/
def uartDePin (s : State) (u : Nat) : Bool := xor (s.ua u F.UART_U_STAT_DE == 1) (s.ua u F.UART_U_CFG_DE_POL == 1)

/-- The bit time in 1/64 ns: (INT + FRAC / 256) × 4 ns with INT at least 25 (R433). -/
def uartBit (s : State) (u : Nat) : Nat := 256 * max 25 (s.ua u F.UART_U_BAUD_INT) + s.ua u F.UART_U_BAUD_FRAC

/-- From when to when DE is asserted for a transmission whose first start bit begins at `a` and whose last stop bit ends at `b` (R434):
DE_PRE/8 bit times before and DE_POST/8 after; in 1/512 ns. UART_TX_END stands at the second. -/
def uartDeSpan (s : State) (u a b : Nat) : Nat × Nat :=
  (512 * a - s.ua u F.UART_U_DE_DE_PRE * uartBit s u, 512 * b + s.ua u F.UART_U_DE_DE_POST * uartBit s u)

/-- The UART runs (R433): state, power, domain, page, and MODE 1 or 2. -/
def uartOn (s : State) (u : Nat) : Bool :=
  s.alive && canAllowed s && (s.ua u F.UART_U_CFG_MODE == 1 || s.ua u F.UART_U_CFG_MODE == 2)

/-- The UART's event. -/
def uartEv (s : State) (u : Nat) : State := raise s (P.uart u) (u % 4)

/-- ERR bits are set: 2 FRAMING, 1 PARITY, 0 BREAK. -/
def uartErr (s : State) (u k : Nat) : State := uartEv (s.uaWr u F.UART_U_STAT_ERR (withBit (s.ua u F.UART_U_STAT_ERR) k)) u

/-! ## Receiving (R435, R437) -/

/-- Header word +8 of a packet. -/
def uartWord (x : UartSt) (cut brk : Bool) : Nat :=
  b2n x.par * 2 ^ 31 + b2n x.frm * 2 ^ 30 + b2n cut * 2 ^ 29 + b2n brk * 2 ^ 28 +
    b2n ((x.rx.head?.map (·.2)).getD false) * 2 ^ 27 + x.rx.length

/-- A kept packet is also tunnelled (R437). -/
def uartTunnel (s : State) (u word stamp : Nat) (data : List Nat) : State :=
  if s.ua u F.UART_U_TUN_EN = 0 then s
  else if 2040 < data.length then s.uaInc u F.UART_TUN_DROP_N
  else
    let pay := beBytes 8 stamp ++ data
    let m := metered s 12 (min 2 (s.ua u F.UART_U_TUN_CLASS)) (pay.length + 28) s.now
    match m.1 with
    | none => m.2
    | some k =>
      originate m.2 12 { typ := 0xA, cls := k, mc := s.ua u F.UART_U_TUN_MC == 1, dst := s.ua u F.UART_U_TUN_DST
                         w3 := 2 ^ 28 + u * 2 ^ 24 + s.ua u F.UART_U_TUN_STREAM * 2 ^ 16, w4 := word, pay := pay }
        (s.ua u F.UART_U_TREACH_REACH_E) (s.ua u F.UART_U_TREACH_REACH_W)

/-- The packet in reception ends (R435). -/
def uartPacket (s : State) (u : Nat) (cut brk : Bool) : State :=
  let x := uart s u
  if x.rx.isEmpty then s
  else
    let data := x.rx.map (·.1)
    let first := data.headD 0
    let s := setUart s u { x with rx := [], par := false, frm := false }
    if s.ua u F.UART_U_PKT_DELIM = 3 ∧ s.ua u F.UART_U_PKT2_ADDR_FILT = 1 ∧ first ≠ s.ua u F.UART_U_PKT2_ADDR ∧ first ≠ 0xFF then s
    else
      let w := uartWord x cut brk
      let s := uartEv (s.uaInc u F.UART_CNT_RX_N) u
      let a := qAdmit s (s.ua u F.UART_U_QUEUE_RX_QUEUE) 0 0 u (s.tick % 2 ^ 32) false
        (leBytes 8 x.start ++ leBytes 4 w ++ leBytes 4 0) data
      let s := if a.1 then a.2 else a.2.uaInc u F.UART_RX_DROP_N
      uartTunnel s u w x.start data

/-- A character joins the packet in reception, and may end it. -/
def uartChar (s : State) (u d : Nat) (nine par frm : Bool) (t : Nat) : State :=
  let delim := s.ua u F.UART_U_PKT_DELIM
  let s := if delim = 3 ∧ nine = true then uartPacket s u false false else s
  let x := uart s u
  let s := setUart s u { x with
    rx := x.rx ++ [(d, nine)], start := if x.rx.isEmpty then t else x.start, par := x.par || par, frm := x.frm || frm }
  if delim = 1 ∧ d = s.ua u F.UART_U_PKT_MATCH then uartPacket s u false false
  else if clampNat 1 2048 (s.ua u F.UART_U_PKT2_MAX_LEN) ≤ x.rx.length + 1 then uartPacket s u (delim != 2) false
  else s

/-- UART_CHARACTER (R434, R435). -/
def execUartCharacter (u ch : Nat) (par frm brk : Bool) (t : Nat) (s : State) : Out :=
  .next (if decide (u < 16) && uartOn s u &&
      !(s.ua u F.UART_U_CFG_MODE == 2 && (uart s u).tx.isSome && s.ua u F.UART_U_CFG_RX_IN_TX == 0) then
    let s := s.atTime t
    let s := setUart s u { uart s u with idle := false }
    if brk then uartErr (uartPacket s u false true) u 0
    else
      let s := if frm then uartErr s u 2 else s
      let s := if par then uartErr s u 1 else s
      let d := ch % (if s.ua u F.UART_U_CFG_BITS7 = 1 then 128 else 256)
      uartChar s u d (bitOf ch 8 && s.ua u F.UART_U_CFG_PARITY == 3) par frm t
  else s)

/-! ## Sending (R434, R436) -/

/-- The head item of TUN_QUEUE. -/
def uartTunHead (s : State) (u : Nat) : Option QItem := (queueSt s (s.ua u F.UART_U_QUEUE_TUN_QUEUE)).head

/-- A transmission starts if none runs and, in MODE 2, the line has been idle for GAP: a local packet first, else the head of
TUN_QUEUE. -/
def uartStart (s : State) (u : Nat) : State :=
  let x := uart s u
  if !uartOn s u || x.tx.isSome || (s.ua u F.UART_U_CFG_MODE == 2 && !x.idle) then s
  else
    match x.wait with
    | some (b, a9) => setUart s u { x with wait := none, tx := some (b, a9, true), idle := false }
    | none =>
      match uartTunHead s u with
      | none => s
      | some i =>
        let q := s.ua u F.UART_U_QUEUE_TUN_QUEUE
        let s := setQueueSt s q { queueSt s q with items := (queueSt s q).items.filter fun y => y.arr != i.arr }
        setUart s u { uart s u with tx := some (i.data.drop 8, bitOf (beAt i.head 16 4) 27, false), idle := false }

/-- UART_GAP (R434, R435): the line has been idle for GAP. -/
def execUartGap (u : Nat) (s : State) : Out :=
  .next (if decide (u < 16) && uartOn s u then
    let s := uartPacket s u false false
    uartStart (setUart s u { uart s u with idle := true }) u
  else s)

/-- A write of U_TX (R436). -/
def uartSend (s : State) (u : Nat) (a9 : Bool) (len : Nat) : State :=
  let off := s.ua u F.UART_U_TXADDR_OFFSET
  let res := fun (t : State) (v : Nat) => t.uaWr u F.UART_U_STAT_TX_RES v
  if !uartOn s u then res s 5
  else if (uart s u).tx.isSome || (uart s u).wait.isSome then res s 2
  else if len < 1 ∨ 2048 < len then res s 3
  else if 0x200000 < off + len then res s 4
  else
    let b := s.memRead (0x10200000 + off) len
    uartStart (setUart (res s 1) u { uart s u with wait := some (b, a9) }) u

/-- UART_TX_END (R434, R447): the transmission has ended and DE is released. -/
def execUartTxEnd (u : Nat) (s : State) : Out :=
  .next (if s.alive && decide (u < 16) then
    match (uart s u).tx with
    | none => s
    | some (b, a9, mine) =>
      let s := setUart s u { uart s u with tx := none, sent := (b, a9) :: (uart s u).sent }
      let s := s.uaInc u F.UART_CNT_TX_N
      uartStart (if mine then uartEv s u else s) u
  else s)

/-- A TUNNEL_FIELD frame with KIND 1 is matched against the U_TIN entries of UART 0 to 15 (R437). -/
def uartTunnelIn (s : State) (f : Frame) : State :=
  let hit := (List.range 16).find? fun u =>
    s.ua u F.UART_U_TIN_EN == 1 && s.ua u F.UART_U_TIN_STREAM == f.w3 / 2 ^ 16 % 256 &&
      (s.ua u F.UART_U_TIN_ANY_SRC == 1 || s.ua u F.UART_U_TIN_SRC == f.src)
  match hit with
  | some u =>
    uartStart (qAdmit s (s.ua u F.UART_U_QUEUE_TUN_QUEUE) f.prio f.src u (s.tick % 2 ^ 32) false (headBytes f) f.pay).2 u
  | none => s.uaInc 0 F.UART_CNT_TUN_UNMATCHED_N

/-- TUNNEL_FIELD (R401, R437): a checked TUNNEL_FIELD frame goes to a CAN channel (KIND 0) or to a UART (KIND 1). -/
def execTunnelField (f : Frame) (s : State) : Out :=
  .next (if s.alive && f.typ == 0xA && canAllowed s then
    if f.w3 / 2 ^ 28 = 0 then canTunnelIn s f
    else if f.w3 / 2 ^ 28 = 1 then uartTunnelIn s f
    else s
  else s)

end Sys2Proof.Machine
end

