-- ==== Sys2Proof/Machine/Mgmt.lean ====
section
/-!
DEFINITION. Power domains, sensors, the event log, the black box, boot and Dawn (20_management_boot_update.md, R530 to R550, R560
to R562; 01_architecture.md, R15, R23).
-/

namespace Sys2Proof.Machine

/-! ## Power domains (R15, R485) -/

/-- A write of PWR_CTRL: bit 0 CORE_ON, 1 FIELDLOG_ON, 2 ETH_ON. -/
def pwrCtrl (s : State) (m : Nat) : State :=
  let s := s.wr P.mgmt F.MGMT_PWR_CTRL_CORE_ON (m % 2)
  let s := s.wr P.mgmt F.MGMT_PWR_CTRL_FIELDLOG_ON (m / 2)
  domainsApply (s.wr P.mgmt F.MGMT_PWR_CTRL_ETH_ON (m / 4))

/-- A request to switch CORE on that the service budget does not allow (R485). -/
def coreRefused (s : State) (m : Nat) : Bool :=
  bitOf m 0 && !s.on P.mgmt F.MGMT_PWR_CTRL_CORE_ON && s.service && decide (svcBudget s < 3600)

/-- The blocks of the domain that are told to stop show STOPPED. -/
def domStopped (s : State) (d : Nat) : Bool :=
  d != 6 || (P.edge :: (List.range 8).map P.can ++ (List.range 24).map P.pio).all fun p => s.stopped p

/-- A running flash operation or log export ends where ETH goes off. -/
def flashCut (s : State) : State :=
  let s :=
    match s.ports.flash with
    | some (op, a, b) =>
      let w := flashSpan op a b.length
      let s := flashUnknown s w.1 w.2
      flashResult ({ s with ports := { s.ports with flash := none } }.wr P.flash F.FLASH_FL_STAT_BUSY 0) FR.devErr
    | none => s
  if s.on P.log F.LOG_EXP_STAT_BUSY then
    raise ((s.wr P.log F.LOG_EXP_STAT_BUSY 0).wr P.log F.LOG_EXP_STAT_RESULT 2) P.log 1
  else s

/-- What ends with a domain: packets and frames on its ports are cut, a link goes down with its event (R445), and a capture cell
in progress ends as the item that it is (R15, R345). -/
def domCut (s : State) (d : Nat) : State :=
  match d with
  | 3 => wdtsFollow (s.each 4 coreHold)
  | 6 =>
    let s := s.each 16 fun t u => setUart t u { uart t u with rx := [], wait := none, tx := none }
    flushPort (s.each 16 closeCell) 12
  | 7 =>
    let s := s.each 4 fun t m =>
      if t.on (P.eth m) F.ETH_LINK_STAT_UP then ethLink t m false (t.rd (P.eth m) F.ETH_LINK_STAT_SPEED) else flushFull t (4 + m)
    flashCut s
  | _ => s

/-- DOMAIN_OFF (R15): every block of domain `d` has stopped, and the domain goes off. -/
def execDomainOff (d : Nat) (s : State) : Out :=
  .next (if s.alive && s.mgmt.stopWait.contains d && s.bit P.mgmt F.MGMT_PWR_STAT_ON (d - 1) && domStopped s d then
    let s := domCut s d
    let s := canOut (s.setBit P.mgmt F.MGMT_PWR_STAT_ON (d - 1) false)
    raise { s with mgmt := { s.mgmt with stopWait := s.mgmt.stopWait.filter (· != d) } } P.mgmt 0
  else s)

/-! ## Sensors (R530, R531) -/

/-- VOLT: domain `d` + 1 has read `mv` for 10 µs; outside its limits it is an event. -/
def execVolt (d mv : Nat) (s : State) : Out :=
  let hi := decide (s.rd P.sens (F.SENSORS_VLIM_OV d) < mv)
  let lo := decide (mv < s.rd P.sens (F.SENSORS_VLIM_UV d))
  .next (if s.alive && decide (d < 10) then
    let s := s.wr P.sens (F.SENSORS_VMON_MV d) mv
    if hi || lo then
      let s := if hi then s.setBit P.sens F.SENSORS_VSTAT_OV d true else s.setBit P.sens F.SENSORS_VSTAT_UV d true
      hubLog (raise s P.sens 2) 4 (some (d + 1)) (some mv) none
    else s
  else s)

/-- TEMP: logic-die sensor `k` reads `v` in 0.125 °C; TEMP6 and TEMP7 follow the ADC (R530). -/
def execTemp (k : Nat) (v : Int) (s : State) : Out :=
  .next (if s.alive && decide (k < 6) then tempReading s k v else s)

/-! ## Event log (R532, R533) -/

/-- A write of APPEND_B by `ini` appends the entry that its APPEND_A describes. -/
def logAppend (s : State) (ini arg1 : Nat) : State :=
  let k := s.rdi P.log F.LOG_APPEND_A_KIND ini
  logAdd (s.inc P.log F.LOG_CNT_APPEND_N)
    { time := s.now, kind := if k < 0x80 then 0x80 else k, code := s.rdi P.log F.LOG_APPEND_A_CODE ini
      arg0 := s.rdi P.log F.LOG_APPEND_A_ARG0 ini, arg1 := arg1 % 2 ^ 32 }

/-- The latest `n` entries, oldest first. -/
def logTail (s : State) (n : Nat) : List LogEnt :=
  (List.range n).map fun k => s.mgmt.log.at {} ((s.rd P.log F.LOG_HEAD_INDEX + 4096 - n + k) % 4096)

/-- A write of EXP_CTRL.GO. -/
def logExport (s : State) : State :=
  let fail := fun (t : State) (r : Nat) => raise (t.wr P.log F.LOG_EXP_STAT_RESULT r) P.log 1
  if s.on P.log F.LOG_EXP_STAT_BUSY || s.on P.flash F.FLASH_FL_STAT_BUSY then fail s 3
  else if !domOn s 7 then fail s 2
  else
    let s := (s.wr P.log F.LOG_EXP_STAT_BUSY 1).wr P.log F.LOG_EXP_STAT_RESULT 0
    { s with mgmt := { s.mgmt with exporting := s.mgmt.unexp } }

/-- Start and size in bytes of the flash log area. -/
def logArea (s : State) : Nat × Nat :=
  (s.rd P.log F.LOG_LOG_CFG_BASE * 0x10000, max 1 (s.rd P.log F.LOG_LOG_CFG_SIZE) * 0x10000)

/-- One entry goes to the area; a sector is erased before its first entry. -/
def logFlash (s : State) (x : LogEnt) : State :=
  let a := logArea s
  let o := s.rd P.log F.LOG_FLASH_HEAD_OFFSET % a.2
  let s := if o % 0x1000 = 0 then flashErase s (a.1 + o) 0x1000 else s
  (flashProgram s (a.1 + o) x.bytes).wr P.log F.LOG_FLASH_HEAD_OFFSET ((o + 16) % a.2)

/-- LOG_EXPORT_DONE: the export completes, with or without a flash error. -/
def execLogExportDone (ok : Bool) (s : State) : Out :=
  .next (if s.alive && s.on P.log F.LOG_EXP_STAT_BUSY then
    let n := min s.mgmt.exporting s.mgmt.unexp
    let s := s.wr P.log F.LOG_EXP_STAT_BUSY 0
    if ok then
      let s := ((logTail s s.mgmt.unexp).take n).foldl logFlash s
      let s := { s with mgmt := { s.mgmt with unexp := s.mgmt.unexp - n, exporting := 0 } }
      raise (s.wr P.log F.LOG_EXP_STAT_RESULT 1) P.log 0
    else
      let a := logArea s
      let s := flashUnknown s (a.1 + s.rd P.log F.LOG_FLASH_HEAD_OFFSET) (16 * n)
      raise (s.wr P.log F.LOG_EXP_STAT_RESULT 2) P.log 1
  else s)

/-! ## Black box (R534, R535, R59) -/

/-- RESET_CAUSE as one word. -/
def causeWord (s : State) : Nat :=
  ([1, 2, 3, 4, 5, 6, 7, 8, 31]).foldl (fun a k => a + s.rd P.node (causeFld k) * 2 ^ k) 0

/-- The session entry of receiving session `r` (R261). -/
def bbEntry (s : State) (r : Nat) : BbEnt :=
  { valid := s.rx F.SESRX_RSES_CFG_EN r == 1, src := s.rx F.SESRX_RSES_CFG_SRC r, ssid := s.rx F.SESRX_RSES_CFG_SSID r
    cons := s.rdi P.sesrx F.SESRX_RSES_CONS_MSEQ r }

/-- The record of a black-box write: the session part only at last gasp; `vin` is what the feeds measure in mV. -/
def bbRecord (s : State) (kind arg : Nat) (vin : Nat × Nat) : BlackBox :=
  { valid := true, kind := kind, arg := arg, time := s.now, tick := s.tick % 2 ^ 32, state := nodeStateWord s
    own := s.rd P.node F.NODE_OWN_FAULT_CAUSE, cause := causeWord s
    vinA := vin.1, vinB := vin.2
    sess := if kind = 1 then (List.range 256).foldl (fun t r => t.put {} r (bbEntry s r)) [] else s.ao.bb.sess
    tail := logTail s 120 }

/-- A write of BB_CTRL (R535): KIND 2 and 3 start a record. -/
def bbCtrl (s : State) (kind arg : Nat) : State :=
  if (kind = 2 ∨ kind = 3) ∧ s.ao.writing.isNone then { s with ao := { s.ao with writing := some (kind, arg % 65536) } } else s

/-- BLACK_BOX_WRITTEN (R535, R25): the write in progress completes; a warm reset that waited for it follows. -/
def execBlackBoxWritten (s : State) : Out :=
  .next (match s.ao.writing with
  | some (k, a) =>
    if s.node.rails then
      let va := s.draw 16
      let vb := va.2.draw 16
      let s := vb.2
      let bb := bbRecord s k a (va.1, vb.1)
      let s := { s with ao := { s.ao with bb := bb, writing := none } }
      let s := if s.alive then raise s P.mgmt 1 else s
      if s.node.resetWait then warmReset s else s
    else s
  | none => s)

/-- ISOLATE_RECORD_WRITTEN (R59): the management core has written the record; the warm reset follows. -/
def execIsolateRecordWritten (s : State) : Out :=
  .next (if s.alive && s.st == NS.isolate && s.node.isoRecord then
    requestWarm { s with node := { s.node with isoRecord := false } } RC.isolate
  else s)

/-! ## Reset release and boot (R20, R23, R61, R136, R536, R543 to R545) -/

/-- RESULT of UPDATE, with its log entry. -/
def updResult (s : State) (r : Nat) : State := hubLog (s.wr P.upd F.UPDATE_UPD_STAT_RESULT r) 7 (some r) none none

/-- What AO holds after a loss (R23). -/
def aoLoss (s : State) : State :=
  { s with
    ao := { s.ao with valid := true, bootFails := 0, dawnReq := false, hint := 0, actFlag := false, incarnation := 0, bb := {} }
    node := { s.node with aoLost := true } }.wr P.node F.NODE_RESET_CAUSE_AO_LOST 1

/-- A new challenge (R541). -/
def newChallenge (s : State) : State :=
  s.each 8 fun t w => let d := t.draw 32; d.2.wr P.sec (F.SECURITY_CHAL_C w) d.1

/-- What the hub does at a cold release: AO, the black-box session record, WAKE, the challenge, dead battery. -/
def coldRelease (s : State) : State :=
  let ok := s.ao.valid
  let s := if ok then { s with ao := { s.ao with incarnation := (s.ao.incarnation + 1) % 65536 } } else aoLoss s
  let s := s.wr P.mgmt F.MGMT_AO_STAT_AO_VALID (b2n ok)
  let n := (s.ao.bb.sess.filter fun e => e.2.valid).length
  let found := ok && s.ao.bb.valid && decide (0 < n)
  let s := (s.wr P.sesrx F.SESRX_BB_STAT_VALID (b2n found)).wr P.sesrx F.SESRX_BB_STAT_ENTRIES (if found then n else 0)
  let s := s.wr P.node F.NODE_STATE_INFO_WAKE s.ao.wake
  let s := s.wr (P.pd 0) F.PD_PD_STAT_DEAD_BATT (b2n (bitOf s.ao.wake 1))
  newChallenge { s with ao := { s.ao with wake := 0 } }

/-- What the hub does at a warm release: the session entries of the black box are cleared (R536); an attached port 0 starts
with a Soft Reset and an Attention (R499). -/
def warmRelease (s : State) : State :=
  let s := { s with ao := { s.ao with incarnation := (s.ao.incarnation + 1) % 65536, bb := { s.ao.bb with sess := [] } } }
  let s := s.wr P.mgmt F.MGMT_AO_STAT_AO_VALID 1
  if pdAttach s 0 = 0 then s else pdSend (pdSend s 0 .softReset) 0 .attention

/-- The release of a reset. The lanes that are enabled leave OFF (R114). -/
def resetRelease (s : State) : State :=
  let warm := s.node.warm
  let s := { s with node := { s.node with inReset := false, romRuns := true } }
  let s := (if warm then warmRelease s else coldRelease s).each 4 laneStart
  let s := s.wr P.node F.NODE_NODE_STATE_POWER (b2n (!feedOk s))
  let s := if s.service then sourceJudge s else if pgMain s && s.usb.overlap.isNone then svcOverlap s else s
  wdtsFollow (judgeBudget (hubLog s 1 (some (causeWord s)) none (some (causeWord s))))

/-- The node enters DAWN with a cause (R547). -/
def dawnEnter (s : State) (c : Nat) : State :=
  let s := goState (s.wr P.mgmt F.MGMT_DAWN_INFO_CAUSE c) NS.dawn
  let s := (s.wri P.switch F.SWITCH_GRP_DATA_VALID 0xFFE 1).wri P.switch F.SWITCH_GRP_DATA_PORTS 0xFFE (2 ^ 13)
  -- the vendor interface: bulk OUT1 and IN1
  let s := [1, 5].foldl (fun t e => (t.wr P.usb (F.USBDEV_EP_CFG_EN e) 1).wr P.usb (F.USBDEV_EP_CFG_TYPE e) 1) s
  usbConnect (s.wr P.usb F.USBDEV_DEV_CFG_CONNECT 1)

/-- The order in which the slots are tried: first slot, whether by the hint (R543). `n` is the boot-fail count found. -/
def slotOrder (s : State) (n : Nat) : Nat × Bool :=
  let f := match s.ao.hint with
    | 2 => (0, true)
    | 3 => (1, true)
    | _ => ((match bootHeader s with
        | some (_, _, p) => p
        | none => 0), false)
  (if n = 2 then 1 - f.1 else f.1, f.2)

/-- The ROM judges a slot (R545): its cause, and the parts in the active banks where the checks reach them; what a flash error
leaves there is open. -/
def bootTry (s : State) (slot : Nat) (err : Bool) : Nat × State :=
  let c := judgeSlot s slot err
  let h := slotHead s slot
  let t := if judgeHead s h ≠ BC.ok then s else loadParts s slot true
  let t := if c ≠ BC.flash then t
    else memUnknown (memUnknown t (bankPhys t 0x08000000) (mgmtLen h)) (bankPhys t 0x10000000) (fieldLen h)
  (c, t.wr P.sec (if slot = 0 then F.SECURITY_BOOT_INFO_A_CAUSE else F.SECURITY_BOOT_INFO_B_CAUSE) c)

/-- The ROM starts the image in a slot (R544, step 6). -/
def startImage (s : State) (slot : Nat) (hint : Bool) : State :=
  let h := slotHead s slot
  let s := (s.wr P.sec F.SECURITY_BOOT_INFO_SLOT slot).wr P.sec F.SECURITY_BOOT_INFO_VIA_HINT (b2n hint)
  let s := (s.wr P.sec F.SECURITY_BOOT_INFO_SIGNER (imgSigner s h)).wr P.sec F.SECURITY_BOOT_INFO_SVN (imgSvn h)
  let s := s.wr P.upd F.UPDATE_UPD_STAT_ACTIVE_SLOT slot
  let s := { s with mgmt := { s.mgmt with run := imgInfo s slot } }
  let vec := 0x10000000 + leAt h 0x20 4
  let s := (s.wr P.cores F.CORES_RESET_VEC_LO_ADDR (vec / 2)).wr P.cores F.CORES_RESET_VEC_HI_ADDR (vec / 2 ^ 32)
  let s := if s.service ∧ svcBudget s < 3600 then s else s.wr P.mgmt F.MGMT_PWR_CTRL_CORE_ON 1
  let s := domainsApply (s.wr P.cores F.CORES_CORE_CTRL_HART_EN (leAt h 0x2C 1 % 16))
  let s := setCore s 4 { core s 4 with entry := 0x08000000 + leAt h 0x1C 4 }
  { s with node := { s.node with imageOk := true, romRuns := false } }

/-- The ROM judges the slots in order and starts the first that passes (R544, steps 3 to 6); else DAWN. -/
def bootSlots (s : State) (n : Nat) (errA errB : Bool) : State :=
  let s := if Config.flashOctal then (s.wr P.flash F.FLASH_FL_CFG_MODE 1).wr P.flash F.FLASH_FL_CFG_CLK 2 else s
  let o := slotOrder s n
  let s := match bootHeader s with
    | some (_, _, p) => if s.ao.hint = 2 + p then { s with ao := { s.ao with hint := 0 } } else s
    | none => s
  let err := fun (k : Nat) => if k = 0 then errA else errB
  let x := bootTry s o.1 (err o.1)
  if x.1 = BC.ok then startImage x.2 o.1 o.2
  else
    let y := bootTry x.2 (1 - o.1) (err (1 - o.1))
    if y.1 = BC.ok then startImage y.2 (1 - o.1) o.2 else dawnEnter y.2 1

/-- BOOT_ROM_START (R544): the reset is released; `bootsel` is the level of BOOTSEL, `errA` and `errB` say that reading a slot
meets a flash error. An activation that a reset abandoned is reported (R559, R565; log 66). -/
def execBootRomStart (bootsel errA errB : Bool) (s : State) : Out :=
  .next (if s.node.inReset && s.node.rails && !s.node.rstLow then
    let s := resetRelease s
    let s := if s.ao.actFlag then raise (updResult { s with ao := { s.ao with actFlag := false } } 14) P.upd 5 else s
    let n := s.ao.bootFails
    if bootsel then dawnEnter s 2
    else if s.ao.dawnReq then dawnEnter s 4
    else if 3 ≤ n then dawnEnter s 3
    else bootSlots { s with ao := { s.ao with bootFails := n + 1 } } n errA errB
  else s)

/-! ## Boot-fail count and Dawn request (R546, R539, R560) -/

/-- A write of BOOT_CTRL with BOOT_GOOD = 1. -/
def bootGood (s : State) (key : Nat) : State :=
  if key ≠ 0x4247 then s
  else
    let s := { s with ao := { s.ao with bootFails := 0 } }
    if s.on P.sec F.SECURITY_ROLLBACK_ROLL_AUTO && decide (s.otp.rollback < s.mgmt.run.svn) && s.mgmt.otpBusy.isNone then
      { s with mgmt := { s.mgmt with otpBusy := some (5, s.mgmt.run.svn) } }.wr P.sec F.SECURITY_OTP_STAT_BUSY 1
    else s

/-- A write of DAWN_REQ with REQ = 1, by initiator `ini`. -/
def dawnReq (s : State) (ini key : Nat) : State :=
  if key ≠ 0x4457 then s
  else requestWarm { s with ao := { s.ao with dawnReq := true } } (if ini = 8 then RC.remote else RC.software)

end Sys2Proof.Machine
end

