-- ==== Sys2Proof/Machine/Secure.lean ====
section
/-!
DEFINITION. OTP commands, signature checks and debug unlock (20_management_boot_update.md, R537 to R541, R564).
-/

namespace Sys2Proof.Machine

/-- A SECURITY event with its log entry (R532, R565). -/
def secEvent (s : State) (k : Nat) : State := hubLog (raise s P.sec k) 8 (some k) none none

/-! ## OTP (R540) -/

/-- An OTP command completes. -/
def otpResult (s : State) (r : Nat) : State :=
  secEvent ((s.wr P.sec F.SECURITY_OTP_STAT_BUSY 0).wr P.sec F.SECURITY_OTP_STAT_RESULT r) 2

/-- The hub refuses the command. -/
def otpRefused (s : State) (op slot : Nat) : Bool :=
  if op = 1 then slot == 0 || bitOf s.otp.programmed slot
  else if op = 2 then
    (s.node.imageOk && s.mgmt.run.signer == slot) ||
      (let l := (keysFor s false).filter (keyLive s)
       l == [slot])
  else false

/-- A write of OTP_CMD: 1 PROGRAM_KEY, 2 REVOKE_KEY, 3 DEBUG_LOCK, 4 DEBUG_DISABLE. While a command runs another has no effect. -/
def otpCmd (s : State) (op slot : Nat) : State :=
  if s.mgmt.otpBusy.isSome ∨ op < 1 ∨ 4 < op then s
  else if s.service || !pgMain s then otpResult s 2
  else if otpRefused s op slot then otpResult s 3
  else
    { s with mgmt := { s.mgmt with otpBusy := some (op, slot) } }.wr P.sec F.SECURITY_OTP_STAT_BUSY 1
      |> fun s => s.wr P.sec F.SECURITY_OTP_STAT_RESULT 0

/-- The 256 bits of OTP_DATA. -/
def otpData (s : State) : Nat := (List.range 8).foldl (fun a w => a + s.rd P.sec (F.SECURITY_OTP_DATA_D w) * 2 ^ (32 * w)) 0

/-- The fuses of a KEYHASH with those of `v` programmed: none returns to 0 (R537). -/
def keyFuses (s : State) (slot v : Nat) : Nat := s.otp.keyHash.at 0 slot ||| v

/-- What a command programs. -/
def otpApply (s : State) (op slot : Nat) : State :=
  match op with
  | 1 => { s with otp := { s.otp with
      keyHash := s.otp.keyHash.put 0 slot (keyFuses s slot (otpData s)), programmed := withBit s.otp.programmed slot } }
  | 2 => { s with otp := { s.otp with revoked := withBit s.otp.revoked slot } }
  | 3 => { s with otp := { s.otp with lock := max s.otp.lock 1 } }
  | 4 => { s with otp := { s.otp with lock := max s.otp.lock 2 } }
  | _ => { s with otp := { s.otp with rollback := max s.otp.rollback (min 32 slot) } }

/-- A command whose readback fails: which of its fuses it has programmed is open. Programmed bits never return to 0. -/
def otpPartial (s : State) (op slot : Nat) : State :=
  let d := s.draw 257
  let s := d.2
  match op with
  | 1 => { s with otp := { s.otp with
      keyHash := s.otp.keyHash.put 0 slot (keyFuses s slot (otpData s &&& d.1))
      programmed := if d.1 / 2 ^ 256 = 1 then withBit s.otp.programmed slot else s.otp.programmed } }
  | 2 => { s with otp := { s.otp with revoked := s.otp.revoked ||| (d.1 % 2 * 2 ^ slot) } }
  | 3 => { s with otp := { s.otp with lock := max s.otp.lock (d.1 % 2) } }
  | 4 => { s with otp := { s.otp with lock := max s.otp.lock (d.1 % 3) } }
  | _ => { s with otp := { s.otp with rollback := max s.otp.rollback (d.1 % (min 32 slot + 1)) } }

/-- The fuses of the slot read back as OTP_DATA once it is programmed: none is set that is not in it. -/
def keyReadsBack (s : State) (op slot : Nat) : Bool := op != 1 || keyFuses s slot (otpData s) == otpData s

/-- OTP_DONE: the command in progress completes; `ok` says that every bit reads back. NO_POWER where the anti-rollback count is
to be raised without the power that R540 asks for. -/
def execOtpDone (ok : Bool) (s : State) : Out :=
  .next (match s.alive, s.mgmt.otpBusy with
  | true, some (op, slot) =>
    let s := { s with mgmt := { s.mgmt with otpBusy := none } }
    if op = 5 && (s.service || !pgMain s) then otpResult s 2
    else if ok && keyReadsBack s op slot then otpResult (otpApply s op slot) 1
    else otpResult (otpPartial s op slot) 4
  | _, _ => s)

/-! ## Signature checks for firmware (R538) -/

/-- Base of the data space that a block lies in, and its length. -/
def vfySpace (s : State) : Nat × Nat := if s.on P.sec F.SECURITY_VFY_ADDR_SPACE then (0x08040000, 0x40000) else (0x10200000, 0x200000)

/-- A verification completes. -/
def vfyResult (s : State) (r signer : Nat) : State :=
  let s := (s.wr P.sec F.SECURITY_VFY_STAT_BUSY 0).wr P.sec F.SECURITY_VFY_STAT_RESULT r
  secEvent (s.wr P.sec F.SECURITY_VFY_STAT_SIGNER signer) 3

/-- A write of VFY_CMD by `ini`. While a verification runs another write has no effect. -/
def vfyCmd (s : State) (ini keys : Nat) : State :=
  let w := vfySpace s
  let off := s.rd P.sec F.SECURITY_VFY_ADDR_OFFSET
  if s.mgmt.vfyBusy.isSome then s
  else if w.2 < off + 160 ∨ (s.on P.sec F.SECURITY_VFY_ADDR_SPACE ∧ ini ≠ 4) then vfyResult s 5 0
  else
    { s with mgmt := { s.mgmt with vfyBusy := some (keys % 16, w.1 + off) } }.wr P.sec F.SECURITY_VFY_STAT_BUSY 1
      |> fun s => s.wr P.sec F.SECURITY_VFY_STAT_RESULT 0

/-- VFY_DONE: the verification completes. `cfg` says that the object is the line configuration in flash: the node then has an
approved configuration (CFG_OK; 03_node_states.md), if the key stands in a slot admitted for one (R538). -/
def execVfyDone (cfg : Bool) (s : State) : Out :=
  .next (match s.alive, s.mgmt.vfyBusy with
  | true, some (keys, a) =>
    let s := { s with mgmt := { s.mgmt with vfyBusy := none } }
    let b := s.memRead a 160
    let key := slice b 32 64
    let here := [0, 1, 2, 3].filter fun k => bitOf keys k && bitOf s.otp.programmed k && keyHash s k == Config.sha256 key
    match here.find? (keyLive s), here with
    | some k, _ =>
      if Config.ecdsaOk key (beVal (slice b 0 32)) (slice b 96 64) then
        let approved := cfg && (here.filter (keyLive s)).any (keysFor s true).contains
        vfyResult (if approved then s.wr P.node F.NODE_STATE_INFO_CFG_OK 1 else s) 1 k
      else vfyResult s 4 k
    | none, k :: _ => vfyResult s 3 k
    | none, [] => vfyResult s 2 0
  | _, _ => s)

/-! ## Debug unlock (R541) -/

/-- A failed attempt. -/
def unlockFail (s : State) (r : Nat) (counts : Bool) : State :=
  let s := s.wr P.sec F.SECURITY_UNLOCK_STAT_RESULT r
  secEvent (newChallenge (if counts then s.inc P.sec F.SECURITY_DEBUG_FAILS else s)) 1

/-- A JTAG write of UNLOCK_CTRL.GO. -/
def unlockGo (s : State) : State :=
  let resp := (List.range 32).flatMap fun w => leBytes 4 (s.rd P.sec (F.SECURITY_RESP_R w))
  let chal := (List.range 8).flatMap fun w => leBytes 4 (s.rd P.sec (F.SECURITY_CHAL_C w))
  let key := slice resp 0 64
  if s.otp.lock = 2 ∨ 3 ≤ s.rd P.sec F.SECURITY_DEBUG_FAILS then unlockFail s 4 false
  else
    match keyMatch s (keysFor s true) key with
    | none => unlockFail s 3 true
    | some _ =>
      if Config.ecdsaOk key (Config.sha256 (chal ++ leBytes 16 s.otp.uid ++ [1])) (slice resp 64 64) then
        let s := (s.wr P.sec F.SECURITY_UNLOCK_STAT_RESULT 1).wr P.sec F.SECURITY_DEBUG_UNLOCKED 1
        secEvent (newChallenge s) 0
      else unlockFail s 2 true

/-- The TAP gives full debug access. -/
def tapOpen (s : State) : Bool := s.otp.lock == 0 || s.on P.sec F.SECURITY_DEBUG_UNLOCKED

/-- The TAP keeps `who` from a page: JTAG reaches the SECURITY page only until the TAP is open. -/
def tapShut (s : State) (who : By) (page : Nat) : Bool := who.ini == 7 && page != P.sec && !tapOpen s

end Sys2Proof.Machine
end

