-- ==== Sys2Proof/Machine/Dawn.lean ====
section
/-!
DEFINITION. The Dawn download protocol and the carousel (20_management_boot_update.md, R547 to R550).
-/

namespace Sys2Proof.Machine

/-- Dawn STATUS values (R548). -/
def DW.ok : Nat := 0
def DW.badCmd : Nat := 1
def DW.badHdr : Nat := 2
def DW.key : Nat := 3
def DW.sig : Nat := 4
def DW.rollback : Nat := 5
def DW.range : Nat := 6
def DW.hash : Nat := 7
def DW.flash : Nat := 8
def DW.sequence : Nat := 9
def DW.noImage : Nat := 10

/-- The ROM runs the protocol. -/
def dawnOn (s : State) : Bool := s.alive && s.st == NS.dawn

/-- On the host port (R548) the command's doorbell bit is taken back, the response block with the TAG of the command block is put
in place, its bytes little-endian, and DOORBELL bit 16 tells the host. VAL0 and VAL1 are open. -/
def dawnReply (s : State) (cmd st tag : Nat) (d : List Nat) : State :=
  let v := s.draw 64
  let s := v.2.memWrite 0x10202000 (leBytes 4 (cmd * 2 ^ 24 + st * 2 ^ 16 + tag) ++ leBytes 8 v.1 ++ leBytes 4 d.length ++ d)
  (s.setBit P.host F.HOSTPORT_DOORBELL_TO_HUB 0 false).setBit P.host F.HOSTPORT_DOORBELL_TO_HOST 0 true

/-- TAG of a command: on the host port its command block holds it. -/
def dawnTag (s : State) (c : DawnIn) : Nat := if c.path = 2 then leVal (s.memRead 0x10200000 2) else c.tag % 2 ^ 16

/-- A response leaves on the path of the command (1 USB, 2 host port): command, STATUS, TAG, data. -/
def dawnSay (s : State) (c : DawnIn) (cmd st : Nat) (d : List Nat) : State :=
  let tag := dawnTag s c
  let s := { s with mgmt := { s.mgmt with dawnOut := (c.path, cmd, st, tag, d) :: s.mgmt.dawnOut } }
  if c.path = 2 then dawnReply s cmd st tag d else s

/-- The most data bytes that a command carries. -/
def dawnMax : Nat := 4096

/-- STATUS of a header that R545 refuses. -/
def dawnCause (c : Nat) : Nat :=
  if c = BC.key then DW.key else if c = BC.sig then DW.sig else if c = BC.rollback then DW.rollback else DW.badHdr

/-- The slot that ARG0 names; 0xFF is the first slot that fails R545, else the non-primary one. -/
def dawnSlot (s : State) (a : Nat) : Option Nat :=
  if a = 0xFF then
    if judgeSlot s 0 false ≠ BC.ok then some 0
    else if judgeSlot s 1 false ≠ BC.ok then some 1
    else match bootHeader s with
      | some (_, _, p) => some (1 - p)
      | none => some 1
  else if a < 2 then some a
  else none

/-- BEGIN: STATUS and the new state. More data than a command carries is RANGE (log 122). -/
def dawnStart (s : State) (a : Nat) (h : List Nat) (err : Bool) : Nat × State :=
  match (if dawnMax < h.length then none else dawnSlot s a) with
  | none => (DW.range, s)
  | some k =>
    let c := if h.length = 256 then judgeHead s h else BC.noHeader
    if c ≠ BC.ok then (dawnCause c, s)
    else if err then
      (DW.flash, flashUnknown { s with mgmt := { s.mgmt with begun := none } } (slotBase k) (ceilDiv (imgLen h) 0x10000 * 0x10000))
    else
      let s := flashErase s (slotBase k) (ceilDiv (imgLen h) 0x10000 * 0x10000)
      (DW.ok, { flashProgram s (slotBase k) h with mgmt := { s.mgmt with begun := some (k, imgLen h), passedEnd := false } })

/-- DATA: STATUS and the new state. -/
def dawnWrite (s : State) (off : Nat) (b : List Nat) (err : Bool) : Nat × State :=
  match s.mgmt.begun with
  | none => (DW.sequence, s)
  | some (k, len) =>
    if off % 4 ≠ 0 ∨ off < 0x100 ∨ len < off + b.length ∨ dawnMax < b.length then (DW.range, s)
    else if err then (DW.flash, flashUnknown s (slotBase k + off) b.length)
    else (DW.ok, flashProgram s (slotBase k + off) b)

/-- END: STATUS and the new state; `path` goes to DAWN_INFO. -/
def dawnFinish (s : State) (path : Nat) (err : Bool) : Nat × State :=
  match s.mgmt.begun with
  | none => (DW.sequence, s)
  | some (k, _) =>
    if !partsOk s k (slotHead s k) then (DW.hash, s)
    else if err then (DW.flash, s)
    else
      let s := (bootWrite s k).wr P.mgmt F.MGMT_DAWN_INFO_PATH path
      (DW.ok, { s with
        ao := { s.ao with bootFails := 0, dawnReq := false }
        mgmt := { s.mgmt with begun := none, passedEnd := true } })

/-- EXIT finds an image to boot: a slot has passed END, or a slot is valid. -/
def dawnMayLeave (s : State) : Bool := s.mgmt.passedEnd || judgeSlot s 0 false == BC.ok || judgeSlot s 1 false == BC.ok

/-- EXIT: the warm reset to BOOT (R51, transition 4). -/
def dawnLeave (s : State) (ok : Bool) : State := if ok then requestWarm s RC.software else s

/-- KEY_STAT, BOOT_INFO and DAWN_INFO as words. -/
def keyStatWord (s : State) : Nat := s.otp.revoked % 16 * 16 + s.otp.programmed % 16
def pageWord (s : State) (page : Nat) (l : List Fld) : Nat := l.foldl (fun a f => a + s.rd page f * 2 ^ f.lsb) 0
def bootInfoWord (s : State) : Nat := pageWord s P.sec
  [F.SECURITY_BOOT_INFO_SLOT, F.SECURITY_BOOT_INFO_VIA_HINT, F.SECURITY_BOOT_INFO_SIGNER, F.SECURITY_BOOT_INFO_SVN,
   F.SECURITY_BOOT_INFO_A_CAUSE, F.SECURITY_BOOT_INFO_B_CAUSE]
def dawnInfoWord (s : State) : Nat := pageWord s P.mgmt [F.MGMT_DAWN_INFO_CAUSE, F.MGMT_DAWN_INFO_PATH]

/-- INFO (R548): 64 bytes; those after the five items hold open values. The row also brings a CMD that the table of R548 does not
name, which is BAD_CMD (log 122). -/
def execDawnInfo (c : DawnIn) (s : State) : Out :=
  .next (if !dawnOn s then s
  else if c.cmd < 1 ∨ 5 < c.cmd then dawnSay s c c.cmd DW.badCmd []
  else
    let d := s.draw 256
    dawnSay d.2 c 1 DW.ok (leBytes 16 s.otp.uid ++ leBytes 4 (keyStatWord s) ++ leBytes 4 s.otp.rollback ++
      leBytes 4 (bootInfoWord s) ++ leBytes 4 (dawnInfoWord s) ++ leBytes 32 d.1))

/-- BEGIN (R548). -/
def execDawnBegin (c : DawnIn) (slot : Nat) (h : List Nat) (err : Bool) (s : State) : Out :=
  .next (if dawnOn s then
    let r := dawnStart s slot h err
    dawnSay r.2 c 2 r.1 []
  else s)

/-- DATA (R548). -/
def execDawnData (c : DawnIn) (off : Nat) (b : List Nat) (err : Bool) (s : State) : Out :=
  .next (if dawnOn s then
    let r := dawnWrite s off b err
    dawnSay r.2 c 3 r.1 []
  else s)

/-- END (R548). -/
def execDawnEnd (c : DawnIn) (err : Bool) (s : State) : Out :=
  .next (if dawnOn s then
    let r := dawnFinish s c.path err
    dawnSay r.2 c 4 r.1 []
  else s)

/-- EXIT (R548): the response, then the reset. -/
def execDawnExit (c : DawnIn) (s : State) : Out :=
  .next (if dawnOn s then
    let ok := dawnMayLeave s
    dawnLeave (dawnSay s c 5 (if ok then DW.ok else DW.noImage) []) ok
  else s)

/-! ## The carousel (R550) -/

/-- A manifest: the node takes it when it names no node, or this one. -/
def manifest (s : State) (xfer : Nat) (f : Frame) : State :=
  let w := beAt f.pay 40 4
  if f.plen ≠ 64 ∨ (bitOf w 31 ∧ beAt f.pay 48 8 ≠ s.otp.uid % 2 ^ 64) then s
  else if w % 4 = 1 then dawnLeave s (dawnMayLeave s)
  else if w % 4 ≠ 0 then s
  else match s.mgmt.carousel with
    | some c => if c.xfer = xfer then s else
        { s with mgmt := { s.mgmt with carousel := some { xfer := xfer, len := beAt f.pay 0 4, blocks := beAt f.pay 4 4 } } }
    | none => { s with mgmt := { s.mgmt with carousel := some { xfer := xfer, len := beAt f.pay 0 4, blocks := beAt f.pay 4 4 } } }

/-- A block of the carousel is written. -/
def carouselPut (s : State) (c : Carousel) (b : Nat) : State :=
  let s := { s with mgmt := { s.mgmt with carousel := some { c with have' := c.have' ++ [b] } } }
  if (List.range c.blocks).all fun k => k == b || c.have'.contains k then
    let r := dawnFinish s 3 false
    let s := { r.2 with mgmt := { r.2.mgmt with carousel := none } }
    if r.1 = DW.ok then dawnLeave s (dawnMayLeave s) else s
  else s

/-- Block `b` of the carousel: block 0 is BEGIN with automatic slot. -/
def carouselBlock (s : State) (c : Carousel) (b : Nat) (d : List Nat) : State :=
  if c.have'.contains b ∨ c.blocks ≤ b then s
  else if b = 0 then
    let r := dawnStart s 0xFF (d.take 256) false
    if r.1 = DW.ok then
      let w := dawnWrite r.2 0x100 (d.drop 256) false
      if w.1 = DW.ok then carouselPut w.2 c b else w.2
    else r.2
  else
    let w := dawnWrite s (2048 * b) d false
    if w.1 = DW.ok then carouselPut w.2 c b else w.2

/-- BULK_DISTRIBUTION (R550): a checked BULK frame delivered to MGMT. The ROM takes KIND 2 on group 0xFFE in DAWN; `busy` says that
it erases or programs, and drops a block. KIND 1 is the management firmware's. -/
def execBulkDistribution (f : Frame) (busy : Bool) (s : State) : Out :=
  .next (if dawnOn s && f.typ == 0xC && f.mc && f.dst == 0xFFE && bitsOf f.w3 8 8 == 2 then
    if f.w4 = 0xFFFFFFFF then manifest s (bitsOf f.w3 16 16) f
    else match s.mgmt.carousel with
      | some c => if c.xfer = bitsOf f.w3 16 16 ∧ busy = false then carouselBlock s c f.w4 f.pay else s
      | none => s
  else s)

end Sys2Proof.Machine
end

