-- ==== Sys2Proof/Machine/Drift.lean ====
section
/-!
DEFINITION. Meanings of the Drift commands that come from outside: received frames and the passing of ring time
(11_item_tracking.md).
-/

namespace Sys2Proof.Machine

/-- A checked Drift frame of a subtype with a payload of `n` bytes, while Drift answers. -/
def driftTakes (s : State) (f : Frame) (sub n : Nat) : Bool :=
  s.alive && driftOn s && f.typ == 7 && frameSub f == sub && f.plen == n

/-- OFFER (R306). -/
def execOffer (f : Frame) (s : State) : Out := .next (if driftTakes s f 1 128 then onOffer s f else s)

/-- ACCEPT (R305). -/
def execAccept (f : Frame) (s : State) : Out := .next (if driftTakes s f 2 8 then onAccept s f else s)

/-- REFUSE (R305). -/
def execRefuse (f : Frame) (s : State) : Out := .next (if driftTakes s f 3 8 then checkNow (onRefuse s f) else s)

/-- COMMIT (R308). -/
def execCommit (f : Frame) (s : State) : Out := .next (if driftTakes s f 4 8 then onCommit s f else s)

/-- DONE (R308). -/
def execDriftDone (f : Frame) (s : State) : Out := .next (if driftTakes s f 5 8 then onDone s f else s)

/-- RELEASE (R304). -/
def execRelease (f : Frame) (s : State) : Out := .next (if driftTakes s f 6 8 then onRelease s f else s)

/-- SET (R313). -/
def execDriftSet (f : Frame) (s : State) : Out := .next (if driftTakes s f 7 128 then onSet s f else s)

/-- RETIRE (R316). -/
def execRetire (f : Frame) (s : State) : Out := .next (if driftTakes s f 8 8 then onRetire s f else s)

/-- DRIFT_ACK (R313). -/
def execDriftAck (f : Frame) (s : State) : Out := .next (if driftTakes s f 9 8 then onAck s f else s)

/-- QUERY (R314). -/
def execQuery (f : Frame) (s : State) : Out := .next (if driftTakes s f 10 8 then onQuery s f else s)

/-- ANSWER (R314). -/
def execAnswer (f : Frame) (s : State) : Out := .next (if driftTakes s f 11 8 then onAnswer s f else s)

/-- RESULT (R317). -/
def execResult (f : Frame) (s : State) : Out := .next (if driftTakes s f 12 12 then onResult s f else s)

/-- DRIFT_RESEND (R304). -/
def execDriftResend (s : State) : Out := .next (if s.alive then driftResend s else s)

/-- HANDOFF_TIMEOUT (R305). -/
def execHandoffTimeout (s : State) : Out := .next (if s.alive then handoffTimeouts s else s)

/-- PENDING_EXPIRED (R308). -/
def execPendingExpired (s : State) : Out := .next (if s.alive then pendingExpire s else s)

/-- RESYNC_TIMEOUT (R314). -/
def execResyncTimeout (s : State) : Out := .next (if s.alive then resyncTimeouts s else s)

/-- SCHEDULED_WINDOW_END (R280): ring time reaches T(n) + W; tracks, Drift and the edge scheduler judge. -/
def execScheduledWindowEnd (s : State) : Out :=
  .next (if s.alive then
    let s := s.atTime (s.time.tStart + s.winW)
    let s := tracksWindow s
    let s := edgesWindow s (2 * s.now)
    driftWindow (settleEdges s)
  else s)

/-- ACK (R256): also what a report waits for (R316). -/
def execAck (f : Frame) (s : State) : Out :=
  .next (if s.alive && s.sessionsRun && f.typ == 6 then driftReports (sesDone (judgeAck s f)) else s)

end Sys2Proof.Machine
end

