-- ==== Sys2Proof/Machine/BusRead.lean ====
section
/-!
DEFINITION. What a read of a page register gives (02_register_pages.md, R29 to R35): fields held in `regs`, fields formed
from what they report, fields whose value the spec leaves open; and the side effects of a read.
-/

namespace Sys2Proof.Machine

/-- Where a field's value comes from: `regs`, a value formed from the state, or nothing that the spec states. -/
inductive Shown where
  | held
  | val (n : Nat)
  | unknown
  deriving DecidableEq, Repr

/-- The index of a field in an array of registers `stride` bytes apart. -/
def arr (f : Fld) (g : Nat → Fld) (stride n : Nat) : Option Nat :=
  let k := (f.off - (g 0).off) / stride
  if (g 0).off ≤ f.off ∧ k < n ∧ f = g k then some k else none

/-- The value of a field among those listed; a field not listed is held in `regs`. -/
def pick (f : Fld) (l : List (Fld × Nat)) : Shown :=
  match l.find? fun e => e.1 == f with
  | some e => .val e.2
  | none => .held

/-! ## The header (R30, R31, R34, R35, R46) -/

/-- The page's instance does not have the field: an external-port register of an internal switch port (R179), a meter or
Squall register of a port that has none, a register of the other PD port (R506). -/
def absentField (page : Nat) (f : Fld) : Bool :=
  let o := f.off
  if 0x011 ≤ page ∧ page ≤ 0x01E then
    let p := page - 0x011
    (decide (8 ≤ p) && (o == 0x040 || decide (0x050 ≤ o ∧ o < 0x090) || o == 0x090 || decide (0x0A0 ≤ o ∧ o < 0x0F0))) ||
    (!(decide (4 ≤ p ∧ p ≤ 7) || p == 12) && decide (0x0F0 ≤ o ∧ o < 0x10C)) ||
    (!decide (4 ≤ p ∧ p ≤ 7) && (o == 0x10C || o == 0x110))
  else if page = 0x101 then
    (o == 0x040 && f != F.PD_PD_CFG_EN) || o == 0x044 || (o == 0x050 && f == F.PD_TRANS_CFG_SVC_OVERLAP) ||
    (o == 0x078 && (f == F.PD_PD_STAT_DEAD_BATT || f == F.PD_PD_STAT_TAP)) || o == 0x080
  else if page = 0x100 then o == 0x048 || o == 0x04C
  else false

/-- The page's instance has RWS fields. -/
def hasShadow (page : Nat) : Bool := (pageFields page).any fun f => f.acc == .rws && !absentField page f

/-- A staged value waits on the page (R36). -/
def stagedOn (s : State) (page : Nat) : Bool := (s.staged ++ s.stagedLate).any fun e => e.1.page == page

/-- HAS_STOP of a page (R607). -/
def pageStops (page : Nat) : Bool := ((pageType page).map hasStop).getD false

/-- BLOCK_CAPS: 25GBASE-R at S0 and S1 (R144), CAN XL on channels 0 to 3 (R382). -/
def blockCaps (page : Nat) : Nat :=
  if page = 0x00A ∨ page = 0x00B ∨ (0x0B0 ≤ page ∧ page ≤ 0x0B3) then 1 else 0

/-- Header fields that no register holds. DESIGN CHOICE (log 4): BLOCK_STAT, 'per page', reads 0 on every page, and BLOCK_CAPS
reads 0 where the page's chapter gives it no bits. -/
def shownHdr (s : State) (page : Nat) (f : Fld) : Shown :=
  match pageRow page with
  | none => .held
  | some r => pick f [
      (F.HDR_PAGE_ID_TYPE, r.first), (F.HDR_PAGE_ID_VERSION, 1), (F.HDR_PAGE_ID_INSTANCE, page - r.first),
      (F.HDR_PAGE_CAPS_BLOCK_CAPS, blockCaps page), (F.HDR_PAGE_CAPS_EV_COUNT, (evMap page).2),
      (F.HDR_PAGE_CAPS_FIELD_DIE, b2n r.fieldDie), (F.HDR_PAGE_CAPS_HAS_STOP, b2n (hasStop r.typ)),
      (F.HDR_PAGE_CAPS_HAS_SHADOW, b2n (hasShadow page)), (F.HDR_PAGE_CAPS_PRESENT, 1),
      (F.HDR_PAGE_STAT_LOCKED, s.rd page F.HDR_PAGE_CTRL_LOCK),
      (F.HDR_PAGE_STAT_KEY_ARMED, b2n (s.node.keyArms.any fun e => e.1 == page)), (F.HDR_PAGE_STAT_BLOCK_STAT, 0),
      (F.HDR_EV_ROUTE_BASE, (evMap page).1),
      (F.HDR_EV_ROUTE_LAST, if (evMap page).2 = 0 then 0 else (evMap page).1 + (evMap page).2 - 1),
      (F.HDR_PAGE_ATTR_SHADOWED, b2n (hasShadow page)), (F.HDR_PAGE_ATTR_PREFETCH_OK, b2n (!r.sidefx)),
      (F.HDR_PAGE_ATTR_SIDEFX, b2n r.sidefx), (F.HDR_COMMIT_PENDING, b2n (stagedOn s page))]

/-! ## Fields formed from what they report, by page type -/

/-- TIME: the count of ring time, which stands at t_F in ECLIPSE (R568), tick and instant of the current tick. -/
def shownTime (s : State) (f : Fld) : Shown :=
 let count := if s.st = NS.eclipse then s.ecl.tF * 2 ^ 32 else s.time.count
 pick f [
  (F.TIME_TIME_LO_NS, count / 2 ^ 32), (F.TIME_TIME_HI_NS, count / 2 ^ 64), (F.TIME_TIME_FRAC_FRAC, count / 2 ^ 16),
  (F.TIME_TICK_LO_N, s.tick), (F.TIME_TICK_HI_N, s.tick / 2 ^ 32),
  (F.TIME_TSTART_LO_NS, s.time.tStart), (F.TIME_TSTART_HI_NS, s.time.tStart / 2 ^ 32)]

/-- LANE_STAT: role, ring and exits from UP. -/
def shownLane (s : State) (i : Nat) (f : Fld) : Shown :=
  let w := laneStatWord s i
  pick f [(F.LANE_LANE_STAT_ROLE, bitsOf w 14 2), (F.LANE_LANE_STAT_RING, bitsOf w 12 2), (F.LANE_LANE_STAT_DOWNS, w % 256)]

/-- HALO: the entry that ENTRY_SEL selects and the own incarnation. -/
def shownHalo (s : State) (f : Fld) : Shown :=
  let src := s.rd P.halo F.HALO_ENTRY_SEL_SRC
  let e := haloEnt s src (s.rd P.halo F.HALO_ENTRY_SEL_GROUP)
  let inc := s.halo.incs.at 0 src
  pick f [
    (F.HALO_JOIN_STAT_INCARNATION, s.inc16), (F.HALO_ENTRY_STAT_VALID, b2n e.valid),
    (F.HALO_ENTRY_STAT_PENDING, b2n (!e.pend.isEmpty)), (F.HALO_ENTRY_STAT_BASE, e.base),
    (F.HALO_ENTRY_MAP_LO_MAP, e.map), (F.HALO_ENTRY_MAP_HI_MAP, e.map / 2 ^ 32),
    (F.HALO_ENTRY_INC_SEEN, b2n (inc != 0)), (F.HALO_ENTRY_INC_INC, inc - 1)]

/-- SWPORT: port and gate state now, credit now (R162, R166, R171, R172). -/
def shownPort (s : State) (p : Nat) (f : Fld) : Shown :=
  match arr f F.SWPORT_CREDIT_BITS 16 4 with
  | some c => .val (if bitOf (s.rd (P.swport p) F.SWPORT_SHAPER_CFG_EN) c then ofSigned 32 (creditNow s p c s.now / 1000000)
      else s.rd (P.swport p) (F.SWPORT_CREDIT_BITS c))
  | none => pick f [
      (F.SWPORT_PORT_STAT_DOWN, b2n (portDown s p)), (F.SWPORT_PORT_STAT_RATE, portRate s p / 1000),
      (F.SWPORT_GATE_STAT_OPEN, gatesNow s p s.now),
      (F.SWPORT_GATE_STAT_ELIGIBLE, (List.range 8).foldl (fun a c => if eligible s p c s.now then withBit a c else a) 0)]

/-- CELLPOOL. -/
def shownPool (s : State) (f : Fld) : Shown := pick f [
  (F.CELLPOOL_POOL_STAT_FREE, poolFree s), (F.CELLPOOL_GUAR_SUM_CELLS, guarSum s),
  (F.CELLPOOL_GUAR_UNUSED_CELLS, guarUnused s), (F.CELLPOOL_SHARED_FREE_CELLS, ofSigned 16 (sharedFree s))]

/-- TXN: tables in use and the oldest orphan. -/
def shownTxn (s : State) (f : Fld) : Shown :=
  let o := (s.txn.orphans.head?).getD { addr := 0, init := 0, op := 0, data := 0, time := 0 }
  pick f [
    (F.TXN_TXN_STAT_TAGS_USED, (tagsUsed s).length), (F.TXN_TXN_STAT_HOLD_USED, (holdsUsed s).length),
    (F.TXN_TXN_STAT_STREAMS, (s.txn.streams.filter fun e => e.2.isSome).length),
    (F.TXN_ORPH_STAT_COUNT, s.txn.orphans.length), (F.TXN_ORPH_ADDR_LO_ADDR, o.addr), (F.TXN_ORPH_ADDR_HI_ADDR, o.addr / 2 ^ 32),
    (F.TXN_ORPH_ADDR_HI_INIT, o.init), (F.TXN_ORPH_ADDR_HI_OP, o.op), (F.TXN_ORPH_DATA_LO_DATA, o.data),
    (F.TXN_ORPH_DATA_HI_DATA, o.data / 2 ^ 32), (F.TXN_ORPH_TIME_LO_NS, o.time), (F.TXN_ORPH_TIME_HI_NS, o.time / 2 ^ 32)]

/-- GATEWAY. -/
def shownGw (s : State) (f : Fld) : Shown :=
  pick f [
  (F.GATEWAY_GW_STAT_ACTIVE, b2n (isGateway s && s.time.srcK.orig)),
  (F.GATEWAY_GW_STAT_PARTNER_PRESENT, b2n (isGateway s && present s (s.rd P.gw F.GATEWAY_GW_CFG_PARTNER)))]

/-- XFER: descriptors in flight of a channel. -/
def shownXfer (s : State) (f : Fld) : Shown :=
  match arr f F.XFER_CH_STAT_BUSY 32 8, arr f F.XFER_CH_STAT_IN_FLIGHT 32 8 with
  | some c, _ => .val (b2n (!(descsOf s c).isEmpty))
  | _, some c => .val (descsOf s c).length
  | none, none => .held

/-- QUEUE: the live state of a queue (R246, R248). -/
def shownQueue (s : State) (page : Nat) (f : Fld) : Shown :=
  let j := (f.off - 0x100) / 0x40
  let q := 16 * (page - 0x040) + j
  if f.off < 0x100 then .held
  else pick f [
    (F.QUEUE_Q_COUNT_ITEMS j, qItems s q), (F.QUEUE_Q_COUNT_CELLS j, qOcc s q),
    (F.QUEUE_Q_LEVEL_HELD j, qHeld s q), (F.QUEUE_Q_LEVEL_PRIO j, qPrios s q),
    (F.QUEUE_Q_STAT_MARK_VALID j, b2n (queueSt s q).mark.isSome), (F.QUEUE_Q_STAT_MARK_LOST j, b2n (queueSt s q).lost),
    (F.QUEUE_Q_STAT_CURRENT j, b2n (qCurrent s q))]

/-- DRIFT: records by state. -/
def shownDrift (s : State) (f : Fld) : Shown := pick f [
  (F.DRIFT_STORE_STAT_FREE, freeSlots s), (F.DRIFT_STORE_STAT_OWNED, recCount s RS.owned),
  (F.DRIFT_STORE_STAT2_MIRROR, recCount s RS.mirror), (F.DRIFT_STORE_STAT2_PENDING, recCount s RS.pending),
  (F.DRIFT_STORE_STAT3_RETIRED, recCount s RS.retired), (F.DRIFT_STORE_STAT3_DOUBT, (doubtful s).length)]

/-- The next owner of the item furthest ahead on a track slot (R300). -/
def zoneTarget (s : State) (k : Nat) : Option Nat :=
  match ownedBy s k with
  | (l, i) :: _ => match nextOwner s k i l with
    | .to a _ => some a
    | _ => none
  | [] => none

/-- ZONES. -/
def shownZones (s : State) (f : Fld) : Shown :=
  let k := (f.off - 0x100) / 0x80
  if f.off < 0x100 then .held
  else pick f [
    (F.ZONES_ZSTAT_ITEMS k, (ownsOn s k).length), (F.ZONES_ZTARGET_VALID k, b2n (zoneTarget s k).isSome),
    (F.ZONES_ZTARGET_ADDR k, (zoneTarget s k).getD 0)]

/-- The earliest CONVERTED or COMMITTED instant of an entry, ns; 0 if none (R327). -/
def entNext (s : State) (n : Nat) : Nat :=
  match edgeSort ((entEdges s n).filter fun e => e.inst.isSome && (e.st == .converted || e.st == .committed)) with
  | e :: _ => (e.inst.getD 0) / 2
  | [] => 0

/-- EDGE: the pool and the entry that ENT_SEL selects. -/
def shownEdge (s : State) (f : Fld) : Shown :=
  let n := s.rd P.edge F.EDGE_ENT_SEL_ENTRY
  let x := entOf s n
  pick f [
    (F.EDGE_EDGE_STAT_PENDING, s.edge.edges.length),
    (F.EDGE_EDGE_STAT_ACTIVE, (s.edge.ents.filter fun e => entState s e.1 == 2).length),
    (F.EDGE_ENT_STAT_STATE, entState s n), (F.EDGE_ENT_STAT_LAST, x.last), (F.EDGE_ENT_STAT_PENDING, (entEdges s n).length),
    (F.EDGE_ENT_NEXT_LO_NS, entNext s n), (F.EDGE_ENT_NEXT_HI_NS, entNext s n / 2 ^ 32),
    (F.EDGE_ENT_LAST_LO_NS, x.lastNs), (F.EDGE_ENT_LAST_HI_NS, x.lastNs / 2 ^ 32)]

/-- FIELD: comparator and driver levels now; the current of an output is what the chip measures. -/
def shownField (s : State) (page : Nat) (f : Fld) : Shown :=
  let c0 := 8 * (page - 0x0A0)
  if f = F.FIELD_IN_NOW_LEVEL then
    .val ((List.range 8).foldl (fun a k => if chComp s (c0 + k) then withBit a k else a) 0)
  else if f.off < 0x100 then .held
  else
    let k := (f.off - 0x100) / 0x20
    if f = F.FIELD_CH_CUR_MA k then (if chIsOutput s (c0 + k) || chIsIol s (c0 + k) then .unknown else .val 0)
    else pick f [(F.FIELD_CH_STAT_DRIVER_ON k, b2n (chDriverOn s (c0 + k))), (F.FIELD_CH_STAT_PIN k, b2n (chComp s (c0 + k)))]

/-- CAN: the bus, the schedule window while the matrix is enabled, and mailboxes ready. -/
def shownCan (s : State) (c : Nat) (f : Fld) : Shown :=
    let w := if s.on (P.can c) F.CAN_SCHED_CFG_EN then canActive s c (s.now - s.time.tStart) else none
    pick f [
      (F.CAN_STATUS_BUS_IDLE, b2n (canIdle s c)),
      (F.CAN_STATUS_WIN_VALID, b2n w.isSome), (F.CAN_STATUS_WIN, (w.map (·.1)).getD 0), (F.CAN_MB_READY_M, mbReadyBits s c)]

/-- PINMUX: a signal's output enable and level. -/
def shownPin (s : State) (f : Fld) : Shown :=
  let n := (f.off - 0x100) / 4
  if f.off < 0x100 then .held
  else pick f [(F.PINMUX_PIN_OE n, b2n (sigOE s n)), (F.PINMUX_PIN_LEVEL n, b2n (sigLevel s n))]

/-- POWER and BRANCH: the remaining off time in ms; a time that is not whole goes either way. -/
def offLeft (s : State) (c : Nat) : Nat :=
  if ctlState s c = 5 then (rnd 40 (((ctl s c).till - s.coreNow : Nat) / 1000000)).toNat else 0

/-- EVENT: pending and asserted sources (R518). -/
def shownEv (s : State) (page : Nat) (f : Fld) : Shown :=
  if page = P.ev1 then
    match arr f F.EVENTA_PEND_P 4 16, arr f F.EVENTA_ASSERT_A 4 16 with
    | some w, _ => .val (pendWord s w)
    | _, some w => .val (assertWord s w)
    | none, none => .held
  else .held

/-- The black-box part of the retention RAM (R534): none where nothing states the byte. -/
def bbBytes (b : BlackBox) : List (Option Nat) :=
  if !b.valid then List.replicate 0xFC0 none
  else
    let head := leBytes 4 (b.kind * 2 ^ 24 + b.arg % 65536) ++ leBytes 8 b.time ++ leBytes 4 b.tick ++ leBytes 4 b.state ++
      leBytes 4 b.own ++ leBytes 4 b.cause ++ leBytes 4 b.vinA ++ leBytes 4 b.vinB
    let ent := fun (r : Nat) =>
      let e := b.sess.at {} r
      leBytes 8 (b2n e.valid * 2 ^ 63 + e.src % 4096 * 2 ^ 48 + e.ssid % 256 * 2 ^ 40 + e.cons % 2 ^ 32)
    let some' := fun (l : List Nat) => l.map fun x => some x
    some' head ++ List.replicate (64 - head.length) none ++ some' ((List.range 256).flatMap ent) ++
      some' (b.tail.flatMap LogEnt.bytes)

/-- The word that BB_DATA shows; the layout of the AO state above 0xFC0 is not stated. -/
def bbWord (s : State) (w : Nat) : Shown :=
  let l := ((bbBytes s.ao.bb).drop (4 * w)).take 4
  if l.length = 4 ∧ l.all (·.isSome) then .val (leVal (l.map fun b => b.getD 0)) else .unknown

/-- MGMT: always-on contents and the black box. -/
def shownMgmt (s : State) (f : Fld) : Shown :=
  if f = F.MGMT_BB_DATA_DATA then bbWord s (s.rd P.mgmt F.MGMT_BB_ADDR_WORD)
  else if f = F.MGMT_RTC_LO_SEC ∨ f = F.MGMT_RTC_HI_SEC ∨ f = F.MGMT_RTC_SUB_T then .unknown
  else pick f [
    (F.MGMT_AO_STAT_AO_VALID, b2n s.ao.valid), (F.MGMT_AO_STAT_BOOT_FAILS, s.ao.bootFails),
    (F.MGMT_AO_STAT_DAWN_REQ, b2n s.ao.dawnReq), (F.MGMT_AO_STAT_HINT, s.ao.hint),
    (F.MGMT_BB_STAT_VALID, b2n s.ao.bb.valid), (F.MGMT_BB_STAT_BUSY, b2n s.ao.writing.isSome),
    (F.MGMT_BB_STAT_KIND, s.ao.bb.kind)]

/-- LOG: the selected entry and the entries not exported. -/
def shownLog (s : State) (f : Fld) : Shown :=
  if f = F.LOG_EXP_STAT_PENDING then .val s.mgmt.unexp
  else match arr f F.LOG_RD_W 4 4 with
    | some k => .val (leVal (slice (s.mgmt.log.at {} (s.rd P.log F.LOG_RD_SEL_INDEX)).bytes (4 * k) 4))
    | none => .held

/-- SECURITY: the fuses. -/
def shownSec (s : State) (f : Fld) : Shown :=
  match arr f F.SECURITY_UID_UID 4 4, arr f F.SECURITY_KH_H 4 8 with
  | some k, _ => .val (s.otp.uid / 2 ^ (32 * k))
  | _, some w => .val (keyHash s (s.rd P.sec F.SECURITY_KH_SEL_SLOT) / 2 ^ (32 * w))
  | none, none => pick f [
      (F.SECURITY_KEY_STAT_PROGRAMMED, s.otp.programmed), (F.SECURITY_KEY_STAT_REVOKED, s.otp.revoked),
      (F.SECURITY_ROLLBACK_COUNT, s.otp.rollback), (F.SECURITY_DEBUG_LOCK, s.otp.lock)]

/-- ECLIPSE: the held arming and the stream. -/
def shownEcl (s : State) (f : Fld) : Shown :=
  let a := s.ecl.armed.getD (0, 0, 0, false, 0, 0)
  pick f [
    (F.ECLIPSE_ECL_STAT_ARMED, b2n s.ecl.armed.isSome), (F.ECLIPSE_ECL_STAT_ARM_RING, b2n a.2.2.2.1),
    (F.ECLIPSE_ECL_STAT_REQ_ID, a.2.2.1), (F.ECLIPSE_ARM_SRC_ADDR, a.2.1),
    (F.ECLIPSE_DUMP_STAT_STREAMING, b2n (!s.ecl.stream.isEmpty)),
    (F.ECLIPSE_DUMP_STAT_SEG, (s.ecl.stream.head?.map (·.1)).getD 0),
    (F.ECLIPSE_DUMP_OFS_OFFSET, (s.ecl.stream.head?.map (·.2.1)).getD 0)]

/-- Where a field of a page comes from. -/
def shown (s : State) (page : Nat) (f : Fld) : Shown :=
  if f.off < 0x040 then shownHdr s page f
  else match pageType page with
    | none => .held
    | some t => match t with
      | .node => pick f [(F.NODE_NODE_ID_PART, 0x4410), (F.NODE_NODE_ID_REV, 1)]
      | .event => shownEv s page f
      | .time => shownTime s f
      | .lane => shownLane s (page - 0x008) f
      | .halo => shownHalo s f
      | .swport => shownPort s (page - 0x011) f
      | .cellpool => shownPool s f
      | .txn => shownTxn s f
      | .gateway => shownGw s f
      | .xfer => shownXfer s f
      | .queue => shownQueue s page f
      | .drift => shownDrift s f
      | .zones => shownZones s f
      | .edge => shownEdge s f
      | .field => shownField s page f
      | .can => shownCan s (page - 0x0B0) f
      | .pinmux => shownPin s f
      | .hostport => pick f [
          (F.HOSTPORT_DOORBELL_CLR_TO_HOST, s.rd page F.HOSTPORT_DOORBELL_TO_HOST),
          (F.HOSTPORT_DOORBELL_CLR_TO_HUB, s.rd page F.HOSTPORT_DOORBELL_TO_HUB)]
      | .flash => pick f [
          (F.FLASH_FL_SIZE_VALID, b2n Config.flashLog2.isSome), (F.FLASH_FL_SIZE_LOG2, Config.flashLog2.getD 0)]
      | .power => pick f [(F.POWER_OFF_LEFT_MS, offLeft s mainCtl)]
      | .branch =>
        -- a branch whose set was never valid reports CONFIG (R462, R478)
        if f = F.BRANCH_BR_STAT_LAST_CAUSE ∧ (ctl s (page - 0x0F1)).prot.isNone then .val PC.seatOrConfig
        else pick f [(F.BRANCH_BR_OFF_LEFT_MS, offLeft s (page - 0x0F1))]
      | .pd => pick f [(F.PD_SVC_STAT_PATH_ON, b2n (page == 0x100 && s.usb.svc))]
      | .usbdev => pick f [(F.USBDEV_DEV_STAT_VBUS, b2n s.usb.vbus0)]
      | .mgmt => shownMgmt s f
      | .log => shownLog s f
      | .security => shownSec s f
      | .eclipse => shownEcl s f
      | .switch | .publish | .subscribe | .session | .track | .capture | .encoder | .fdie | .adc | .uart | .pio | .eth
      | .cores | .sensors | .update => .held

/-! ## Registers that a selection or the initiator picks -/

/-- The initiator's own copy of a per-initiator register: codes 0 to 8 (R252, R319). -/
def iniIdx (ini : Nat) : Nat := min ini 8

/-- Which entry of a table the register of a field shows. -/
def bankIdx (s : State) (who : By) (page : Nat) (f : Fld) : Nat :=
  if page = P.sestx then
    if f.off = 0x040 then iniIdx who.ini
    else if 0x094 ≤ f.off ∧ f.off ≤ 0x0B0 then s.rd P.sestx F.SESTX_SES_SEL_SESSION else 0
  else if page = P.sesrx then
    if 0x044 ≤ f.off ∧ f.off ≤ 0x058 then s.rd P.sesrx F.SESRX_RSES_SEL_SESSION else 0
  else if page = P.switch then (if f.off = 0x048 then s.rd P.switch F.SWITCH_GRP_SEL_GROUP else 0)
  else if page = P.gw then (if f.off = 0x054 then s.rd P.gw F.GATEWAY_XGRP_SEL_GROUP else 0)
  else if page = P.drift then (if 0x060 ≤ f.off ∧ f.off ≤ 0x074 then iniIdx who.ini else 0)
  else if 0x0E0 ≤ page ∧ page ≤ 0x0E3 then (if f.off = 0x078 then iniIdx who.ini else 0)
  else if page = P.log then (if f.off = 0x044 then iniIdx who.ini else 0)
  else 0

/-- Bits whose write does something and that read 0: write-only fields and triggers. Ready bits, doorbells and handshakes are
W1S fields that can be read. -/
def readsZero (page : Nat) (f : Fld) : Bool :=
  f.acc == .wo ||
  (f.acc == .w1s && !(
    (page == P.time && f == F.TIME_CORE_DONE_DONE) ||
    (page == P.pub && (f == F.PUBLISH_READY_LO_CH || f == F.PUBLISH_READY_HI_CH)) ||
    (page == P.host && (f == F.HOSTPORT_DOORBELL_TO_HOST || f == F.HOSTPORT_DOORBELL_TO_HUB)) ||
    (page == P.upd && (f == F.UPDATE_EXPORT_DONE_D || f == F.UPDATE_READY_R))))

/-! ## Reading -/

/-- The value of a field as a read shows it; only the count of free values can change. -/
def fieldValue (s : State) (who : By) (page : Nat) (f : Fld) : Nat × State :=
  if absentField page f || readsZero page f then (0, s)
  else match shown s page f with
    | .held => (s.rdi page f (bankIdx s who page f), s)
    | .val n => (n % 2 ^ f.width, s)
    | .unknown => s.draw f.width

/-- The word of a register without the side effects of reading it. -/
def regPeek (s : State) (who : By) (page off : Nat) : Nat × State :=
  (regFields page off).foldl (fun (r : Nat × State) f =>
    let v := fieldValue r.2 who page f
    (r.1 + v.1 * 2 ^ f.lsb, v.2)) (0, s)

/-- Clearing of read-to-clear fields; USED_MAX and SHARED_MIN start again from the present level (R176). -/
def readClears (s : State) (who : By) (page off : Nat) : State :=
  (regFields page off).foldl (fun t f =>
    if f.acc != .roc || absentField page f then t
    else if page = P.pool ∧ f = F.CELLPOOL_USED_MAX_CELLS then t.wr page f t.sw.used
    else if page = P.pool ∧ f = F.CELLPOOL_SHARED_MIN_CELLS then t.wr page f (ofSigned 16 (sharedFree t))
    else t.wri page f (bankIdx t who page f) 0) s

/-- A read of a page register at an aligned offset: its word and the state after it. Registers whose read takes something
are CLAIMk (R519), INQ_R (R413) and ADC.FIFO (R373). -/
def regRead (s : State) (who : By) (page off : Nat) : Nat × State :=
  if page = P.ev3 ∧ 0x044 ≤ off ∧ off ≤ 0x064 ∧ off % 8 = 4 then routerClaim s ((off - 0x044) / 8)
  else if 0x0C0 ≤ page ∧ page ≤ 0x0D7 ∧ off = 0x060 then pioInqR s (page - 0x0C0)
  else if page = P.adc ∧ off = 0x054 then adcFifoRead s
  else
    let r := regPeek s who page off
    (r.1, readClears r.2 who page off)

end Sys2Proof.Machine
end

