-- ==== Sys2Proof/Machine/EclOps.lean ====
section
/-!
DEFINITION. Arming an Eclipse instant (21_eclipse_and_diagnostics.md, R566, R567), and the arrival of a remote event
(08_transactions_and_bridging.md, R226, R228).
-/

namespace Sys2Proof.Machine

/-- An arming of instant `t` (R567): it freezes at once if `t` is not ahead; it replaces a held one only if it is earlier. The
ring's request brings its own scope and collector (R574). -/
def armEcl (s : State) (t src id : Nat) (ring : Bool) (scope coll : Nat) : State :=
  if t ≤ s.now then
    if ring then freeze s 3 s.now false true scope coll else freezeCfg s 3 s.now
  else
    let taken := match s.ecl.armed with
      | some a => decide (t < a.1)
      | none => true
    if taken then raise { s with ecl := { s.ecl with armed := some (t, src, id, ring, scope, coll) } } P.ecl 0
    else s.inc P.ecl F.ECLIPSE_CNT_REQ_IGNORED_N

/-- The held arming is given up (R567). -/
def disarmEcl (s : State) : State :=
  if s.ecl.armed.isSome then raise { s with ecl := { s.ecl with armed := none } } P.ecl 1 else s

/-- A write of ECL_CTRL: bit 2 NOW, bit 1 ARM, bit 0 DISARM. -/
def eclCtrl (s : State) (m : Nat) : State :=
  let s := if bitOf m 2 then freezeCfg s 2 s.now else s
  let s := if bitOf m 0 && s.st != NS.eclipse then disarmEcl s else s
  if bitOf m 1 && s.st != NS.eclipse then
    armEcl s (s.rd64 P.ecl F.ECLIPSE_ARM_T_LO_NS F.ECLIPSE_ARM_T_HI_NS) s.own 0 false 0 0
  else s

/-- An event from node `src` arrives (R228): EVINk takes it and event bit 8 + k is raised. -/
def eventIn (s : State) (src k value : Nat) : State :=
  let s := if s.bit P.txn F.HDR_EV_STAT_EV (8 + k) then s.inc P.txn F.TXN_CNT_EV_OVERWRITE_N else s
  raise ((s.wr P.txn (F.TXN_EVIN_SRC k) src).wr P.txn (F.TXN_EVIN_VALUE k) value) P.txn (8 + k)

/-- The INIT code of an initiator (08_transactions_and_bridging.md, word 3): 6 for the management core and JTAG. -/
def initOf (ini : Nat) : Nat := if ini ≤ 3 then ini else if ini = 5 then 5 else if ini = 6 then 4 else 6

/-- A write of EVOUT (R226) by an initiator: an absent destination fails at once (R208). An event to the own address is
delivered here. False where the initiator waits for a tag (R211). -/
def evout (s : State) (ini dst k value : Nat) : Bool × State :=
  if s.ownValid && s.own == dst then (true, eventIn s dst (k % 16) (value % 2 ^ 16))
  else if !present s dst then (true, writeFailed s (initOf ini) (winAddr dst 0) TS.absent)
  else sendEvent s (initOf ini) dst k value 0

/-- A write of 1 to ORPH_POP: the oldest entry goes. -/
def orphPop (s : State) : State := { s with txn := { s.txn with orphans := s.txn.orphans.drop 1 } }

end Sys2Proof.Machine
end

