-- ==== Sys2Proof/Machine/Power.lean ====
section
/-!
DEFINITION. Meanings of the power-entry commands (17_power_entry.md, R450 to R475, R608). The power-entry core runs in every node
state and by its own clock: `t` is its time in ns. Controllers are 0 to 7 for the branches and 8 for the main one.
-/

namespace Sys2Proof.Machine

/-- A controller number. -/
def isCtl (c : Nat) : Bool := decide (c ≤ 8)

/-- What follows PG_MAIN: an overlap of the service path, and port 1. -/
def afterPower (s : State) : State := if s.alive then supplyJudge (svcKeep s) else svcKeep s

/-! ## Feeds and seating -/

/-- FEED_DIODE_ON (R451): feed `x` (0 A, 1 B) exceeds FEED_COM by more than 50 mV; a reversed feed is held off. -/
def execFeedDiodeOn (x : Nat) (s : State) : Out :=
  .next (if decide (x < 2) && !feedBit s x 0 then setFeedBit s x 3 true else s)

/-- FEED_REVERSE (R451): FEED_COM exceeds feed `x` by more than 10 mV. -/
def execFeedReverse (x : Nat) (s : State) : Out :=
  .next (if decide (x < 2) && feedBit s x 3 then
    let s := setFeedBit s x 3 false
    let s := s.wr P.power (if x = 0 then F.POWER_FEED_STAT_A_REV_SEEN else F.POWER_FEED_STAT_B_REV_SEEN) 1
    powerEv (s.inc P.power F.POWER_CNT_REV_N) P.power 0
  else s)

/-- FEED_REVERSED (R452): feed `x` is below -1 V. -/
def execFeedReversed (x : Nat) (s : State) : Out :=
  .next (if decide (x < 2) then powerEv (setFeedBit (setFeedBit s x 3 false) x 0 true) P.power 0 else s)

/-- FEED_WINDOW (R453): feed `x` (0 A, 1 B) or FEED_COM (2) is at a voltage. In SHELF a feed that rises above UV is a wake source
(R50). -/
def execFeedWindow (x : Nat) (v : FeedIn) (s : State) : Out :=
  .next (if x < 2 then
    let was := feedBit s x 2 || !feedBit s x 4
    let s := feedWindow (s.coreAt v.t) x v.v
    let s := if !s.node.rails && was && !feedBit s x 2 then { s with ao := { s.ao with wake := withBit s.ao.wake 2 } } else s
    afterPower s
  else if x = 2 then comWindow (s.coreAt v.t) v.v
  else s)

/-- FEED_WINDOW_SETTLED (R61): a feed has stayed inside its window for 10 ms while PG_MAIN is asserted under SERVICE power. -/
def execFeedWindowSettled (t : Nat) (s : State) : Out :=
  let held := fun (a : Option Nat) => a.any fun u => decide (u + 10000000 ≤ t)
  .next (if s.alive && s.service && pgMain s && (held s.power.inA || held s.power.inB) then setPower (s.coreAt t) false else s)

/-- FEEDS_LOST (R61, R13, R14, R471): both feeds are lost while the service path holds the rails. -/
def execFeedsLost (s : State) : Out :=
  .next (if s.alive && !s.service && !feedOk s && s.usb.svc then
    let s := setPower s true
    if s.isIn [NS.run, NS.coast] then ownFault s OF.feedLost else s
  else s)

/-- SEAT_CHANGE (R454, R455, R468): the levels of SEAT_A_N and SEAT_B_N, true for low. -/
def execSeatChange (a b : Bool) (t : Nat) (s : State) : Out :=
  let was := s.rd P.power F.POWER_FEED_STAT_SEAT
  let is := b2n a * 2 + b2n b
  .next (if was = is then s
  else
    let s := powerEv ((s.coreAt t).wr P.power F.POWER_FEED_STAT_SEAT is) P.power 1
    let s := if !s.node.rails && is == 3 then { s with ao := { s.ao with wake := withBit s.ao.wake 0 } } else s
    let rose := (bitOf was 1 && !a) || (bitOf was 0 && !b)
    let s :=
      if ctlState s mainCtl = 6 then (if is = 0 then latchClear s mainCtl else s)
      else if rose then mainShutdown s PC.seatOrConfig t
      else s
    afterPower (mainSeating s))

/-- T_SEAT in ns: 0 acts as 1. -/
def seatTime (s : State) : Nat := max 1 (s.rd P.power F.POWER_SEAT_CFG_T_SEAT) * 1000000

/-- SEAT_QUALIFIED (R454, R456, R462): the conditions have held for T_SEAT. -/
def execSeatQualified (t : Nat) (s : State) : Out :=
  .next (if ctlState s mainCtl == 1 && seated s && (ctl s mainCtl).prot.isSome && decide (s.power.seatAt + seatTime s ≤ t) then rampStart (s.coreAt t) mainCtl t else s)

/-! ## Inrush and power-good -/

/-- RAMP_DONE (R457): MAIN_OUT, or the branch's output, has reached its supply but for 1.5 V. -/
def execRampDone (c t : Nat) (s : State) : Out :=
  .next (if isCtl c && ctlState s c == 2 then
    let s := keepEnergy (s.coreAt t) c
    let s := if c ≠ mainCtl then { s with power := { s.power with lastRamp := some t } } else s
    setCtlState (setCtl s c { ctl s c with qual := holdsSince (!timerRuns s c) none t }) c 3
  else s)

/-- A failure of controller `c` with its consequences. -/
def ctlFail (s : State) (c cause t : Nat) : State := afterPower (failAttempt (s.coreAt t) c cause t)

/-- SC (R458, R464): the current exceeds ISC while the gate is on. -/
def execShortCircuit (c t : Nat) (s : State) : Out := .next (if isCtl c && gateOn s c then ctlFail s c PC.sc t else s)

/-- SOA (R458): the energy of the ramp exceeds SOA_BUDGET. -/
def execSoaTrip (c t : Nat) (s : State) : Out :=
  .next (match (ctl s c).prot with
    | some p => if isCtl c && ctlState s c == 2 && decide (p.soa * 1000000000 < (ctl s c).energy) then ctlFail s c PC.soa t else s
    | none => s)

/-- SLEW in 0.1 V/ms within its range (R476). -/
def slew (s : State) (c : Nat) : Nat := clampNat 1 100 (s.ctl c F.POWER_MAIN_START_SLEW F.BRANCH_BR_START_SLEW)

/-- DVDT (R458): the output rises by less than SLEW × 0.25 ms in some 1 ms of the ramp. -/
def execDvdtTrip (c : Nat) (d : RiseIn) (s : State) : Out :=
  .next (if isCtl c && ctlState s c == 2 && decide ((ctl s c).ramp + 1000000 ≤ d.t) && decide (d.rise < 25 * slew s c) then
    ctlFail s c PC.dvdt d.t
  else s)

/-- START_TO (R458): QUAL has not been reached within START_TO. -/
def execStartTo (c t : Nat) (s : State) : Out :=
  let lim := max 1 (s.ctl c F.POWER_MAIN_START_START_TO F.BRANCH_BR_START_START_TO) * 10000000
  .next (if isCtl c && ctlState s c == 2 && decide ((ctl s c).ramp + lim ≤ t) then ctlFail s c PC.startTo t else s)

/-- PG_QUAL in ns within its range. -/
def pgQual (s : State) (c : Nat) : Nat := max 1 (s.ctl c F.POWER_MAIN_START_PG_QUAL F.BRANCH_BR_START_PG_QUAL) * 1000000

/-- PG_QUALIFIED (R459, R460): the output has held for PG_QUAL with no curve timer running at any moment of it. PG_MAIN gives FEED
power (R61). -/
def execPgQualified (c t : Nat) (s : State) : Out :=
  .next (if isCtl c && ctlState s c == 3 && !timerRuns s c && (ctl s c).qual.any (fun u => decide (u + pgQual s c ≤ t)) then
    let s := s.coreAt t
    let s := setPg (setCtlState (setCtl s c { ctl s c with pgAt := t }) c 4) c true
    if c = mainCtl then
      let s := svcOverlap (brPgRose s)
      if s.alive then supplyJudge (if s.service then setPower s false else s) else s
    else s
  else s)

/-! ## The breaker -/

/-- BREAKER_SAMPLE (R457, R463): the 1 µs sample of controller `c`: current `i` in mA, and what its FET carries. -/
def execBreakerSample (c i : Nat) (d : FetIn) (s : State) : Out :=
  .next (if isCtl c then breakerSample (s.coreAt d.t) c i d.dv d.t else s)

/-- CURVE_TRIP (R463): an accumulator exceeds its t_k. -/
def execCurveTrip (c t : Nat) (s : State) : Out :=
  .next (if isCtl c && (ctlState s c == 3 || ctlState s c == 4) && curveOver s c then ctlFail s c PC.curve t else s)

/-- OV_SHUTDOWN (R465): FEED_COM has stayed above OV for 10 µs. -/
def execOvShutdown (t : Nat) (s : State) : Out :=
  .next (if gateOn s mainCtl && s.power.ovAt.any (fun u => decide (u + 10000 ≤ t)) then afterPower (mainShutdown (s.coreAt t) PC.ovOrTemp t) else s)

/-- RETRY_WAIT_END (R466, R469): the off time ends. -/
def execRetryWaitEnd (c t : Nat) (s : State) : Out :=
  .next (if isCtl c && ctlState s c == 5 && decide ((ctl s c).till ≤ t) then
    let s := s.coreAt t
    if c = mainCtl then (if seated s then rampStart s c t else setCtlState s c 0)
    else
      let s := setCtlState s c 0
      if brOn s c then brEnqueue s c else s
  else s)

/-- RETRIES_RESET (R467): power-good has stayed asserted for 10 s. -/
def execRetriesReset (c t : Nat) (s : State) : Out :=
  .next (if isCtl c && ctlPg s c && decide ((ctl s c).pgAt + 10000000000 ≤ t) then setRetries (s.coreAt t) c 0 else s)

/-- POWER_ENTRY_RESTART (R608): the higher of VIN_A and VIN_B has stayed below 10 V for 10 ms. -/
def execPowerEntryRestart (s : State) : Out := .next (afterPower (powerRestart s))

/-- BRANCH_RAMP_START (R470): the branch that is first in the queue starts its ramp; none does while over-temperature holds the
branch gates off (R472). -/
def execBranchRampStart (b t : Nat) (s : State) : Out :=
  let gap := max 1 (s.rd P.power F.POWER_STAGGER_CFG_STAGGER_GAP) * 1000000
  .next (if decide (b < 8) && ctlState s b == 1 && s.power.queue.head? == some b && pgMain s &&
      !s.on P.fdie F.FDIE_FD_STAT_OVERTEMP &&
      ((List.range 8).all fun x => ctlState s x != 2) &&
      (match s.power.lastRamp with
        | some u => decide (u + gap ≤ t)
        | none => true) then
    rampStart (unqueue (s.coreAt t) b) b t
  else s)

/-! ## Last gasp (R473, R474) -/

/-- LAST_GASP (R473, R261, R471, R535): both feeds have stayed below UV for LG_FILT with PG_MAIN asserted and the service path
off. -/
def execLastGasp (t : Nat) (s : State) : Out :=
  let filt := max 1 (s.rd P.power F.POWER_LG_CFG_LG_FILT) * 1000
  .next (if !s.on P.power F.POWER_LG_STAT_ACTIVE && s.power.lowAt.any (fun u => decide (u + filt ≤ t)) && pgMain s &&
      !s.usb.svc then
    let s := (s.coreAt t).wr P.power F.POWER_LG_STAT_ACTIVE 1
    let s := powerEv (s.inc P.power F.POWER_CNT_LAST_GASP_N) P.power 5
    let s := branchesOff s (s.rd P.power F.POWER_LG_CFG_LG_KEEP)
    let s := if s.node.rails then { s with ao := { s.ao with writing := some (1, 0) } } else s
    if s.alive then sesFreeze s else s
  else s)

/-- LG_RECOVER (R474): a feed has been back inside its window for 10 ms. -/
def execLgRecover (s : State) : Out :=
  .next (if s.on P.power F.POWER_LG_STAT_ACTIVE && feedOk s then
    powerEv ((s.wr P.power F.POWER_LG_STAT_ACTIVE 0).wr P.power F.POWER_LG_STAT_RECOVERED 1) P.power 6
  else s)

end Sys2Proof.Machine
end

