-- ==== Sys2Proof/Machine/Update.lean ====
section
/-!
DEFINITION. Falgel packages and activation (20_management_boot_update.md, R551 to R559, R563).
-/

namespace Sys2Proof.Machine

/-! ## UPDATE -/

/-- UPD_STAT.STATE. -/
def updState (s : State) : Nat := s.rd P.upd F.UPDATE_UPD_STAT_STATE

/-- Set it, and NODE_STATE.UPDATE with it (0 NONE, 1 STAGED, 2 ACTIVATING, 3 EXPORT). -/
def setUpd (s : State) (st : Nat) : State :=
  (s.wr P.upd F.UPDATE_UPD_STAT_STATE st).wr P.node F.NODE_NODE_STATE_UPDATE
    (match st with | 2 => 1 | 3 => 3 | 4 => 2 | _ => 0)

/-- The slot that runs. -/
def activeSlot (s : State) : Nat := s.rd P.upd F.UPDATE_UPD_STAT_ACTIVE_SLOT

/-! ## Staging (R551 to R553) -/

/-- A write of STAGE_CMD APPLY. -/
def stageApply (s : State) : State :=
  if !(s.working || s.st == NS.join) then updResult s 2
  else if updState s = 1 ∨ updState s = 3 ∨ updState s = 4 then updResult s 3
  else
    actForget ((setUpd s 1).wr P.upd F.UPDATE_UPD_STAT_RESULT 0)

/-- UPDATE leaves STAGED. -/
def unstage (s : State) (r : Nat) : State :=
  if updState s = 2 then actForget (updResult (setUpd s 0) r) else s

/-- The operations of a package from offset `pos` on (R551): the bytes that they produce, or none where they are malformed. END
ends exactly at OPS_LEN. -/
def falgelOps (s : State) (base opsLen : Nat) : Nat → Nat → List Nat → Option (List Nat)
  | 0, _, _ => none
  | fuel + 1, pos, out =>
    let w := leVal (flashBytes s (base + 0x100 + pos) 4)
    let op := bitsOf w 28 4
    let len := w % 2 ^ 24
    if opsLen < pos + 4 then none
    else if op = 3 then (if len = 0 ∧ pos + 4 = opsLen then some out else none)
    else if op = 1 then
      let src := leVal (flashBytes s (base + 0x104 + pos) 4)
      if opsLen < pos + 8 ∨ 0x1000000 < src + len then none
      else falgelOps s base opsLen fuel (pos + 8) (out ++ flashBytes s (slotBase (activeSlot s) + src) len)
    else if op = 2 then
      falgelOps s base opsLen fuel (pos + 4 + ceilDiv len 4 * 4) (out ++ flashBytes s (base + 0x104 + pos) len)
    else none

/-- The apply ends with a failure. -/
def applyFail (s : State) (r : Nat) : State := raise (updResult (setUpd s 0) r) P.upd 1

/-- Steps 5 and 6 of R552, on what the inactive slot holds. -/
def applyJudge (s : State) (version : Nat) : State :=
  let slot := 1 - activeSlot s
  let h := slotHead s slot
  let c := judgeHead s h
  if c = BC.rollback then applyFail s 6
  else if c ≠ BC.ok ∨ imgVersion h ≠ version then applyFail s 9
  else if partsOk s slot h = false then applyFail (loadParts s slot false) 9
  else
    let s := loadParts s slot false
    let s := { s with mgmt := { s.mgmt with staged := imgInfo s slot } }
    let s := (setUpd s 2).wr P.upd F.UPDATE_UPD_STAT_STAGED_SVN (imgSvn h)
    let s := s.wr64 P.upd F.UPDATE_STAGED_VER_LO_V F.UPDATE_STAGED_VER_HI_V (imgVersion h)
    raise (updResult s 1) P.upd 0

/-- The steps of R552 in order; `err` says that one of them meets a flash error. -/
def applySteps (s : State) (err : Bool) : State :=
  let base := s.rd P.upd F.UPDATE_PKG_ADDR_ADDR
  let h := flashBytes s base 256
  let key := slice h 0x80 64
  let old := slotBase (activeSlot s)
  let new := slotBase (1 - activeSlot s)
  let opsLen := leAt h 8 4
  let dstLen := leAt h 0xC 4
  if leAt h 0 4 ≠ 0x46414C31 ∨ leAt h 4 4 ≠ 1 then applyFail s 4
  else if (keyMatch s (keysFor s false) key).isNone ∨ Config.ecdsaOk key (Config.sha256 (slice h 0 0x80)) (slice h 0xC0 64) = false then
    applyFail s 5
  else if leAt h 0x58 1 < s.otp.rollback then applyFail s 6
  else if Config.sha256 (flashBytes s old (imgLen (slotHead s (activeSlot s)))) ≠ beVal (slice h 0x10 32) then applyFail s 7
  else if 0x1000000 < dstLen then applyFail s 4
  else if err then applyFail (flashUnknown s new dstLen) 10
  else
    match falgelOps s base opsLen (opsLen / 4 + 1) 0 [] with
    | none => applyFail (flashErase s new (ceilDiv dstLen 0x10000 * 0x10000)) 4
    | some out =>
      if out.length ≠ dstLen then applyFail (flashErase s new (ceilDiv dstLen 0x10000 * 0x10000)) 4
      else
        let s := flashProgram (flashErase s new (ceilDiv dstLen 0x10000 * 0x10000)) new out
        if Config.sha256 out ≠ beVal (slice h 0x30 32) then applyFail s 8 else applyJudge s (leAt h 0x50 8)

/-- APPLY_DONE (R552): the apply engine has run; `err` says that the flash failed. -/
def execApplyDone (err : Bool) (s : State) : Out :=
  .next (if s.alive && updState s == 1 then applySteps s err else s)

/-- An address of an inactive program bank. -/
def inactiveBank (a : Nat) : Bool := decide (0x10100000 ≤ a ∧ a < 0x10200000) || decide (0x08020000 ≤ a ∧ a < 0x08040000)

/-- BANK_TOUCHED (R553): a store of `b` to `a` in an inactive program bank. -/
def execBankTouched (a : Nat) (b : List Nat) (s : State) : Out :=
  .next (if s.alive && inactiveBank a && inactiveBank (a + b.length - 1) then
    unstage (s.memWrite (bankPhys s a) b) 11
  else s)

/-! ## Activation (R554 to R559) -/

/-- An activation is requested for tick `e`; `version` 0 matches any. DESIGN CHOICE (log 68): a request in a state whose row of
R64 refuses it (BOOT, DAWN, ISOLATE) is ignored as one without a staged image is. -/
def actRequest (s : State) (e version : Nat) : State :=
  if !(s.working || s.st == NS.join) ∨ updState s ≠ 2 ∨ (version ≠ 0 ∧ version ≠ s.mgmt.staged.version) then
    countRaise s P.upd F.UPDATE_CNT_ACT_IGNORED_N P.upd 6
  else
    let s := actForget s
    { s with mgmt := { s.mgmt with actDue := some e, actTries := 0 } }

/-- A write of ACT_CTRL.GO. -/
def actGo (s : State) : State :=
  let e := s.rd64 P.upd F.UPDATE_ACT_EFF_LO_E F.UPDATE_ACT_EFF_HI_E
  if e < s.tick + 2 then updResult s 15 else actRequest s e 0

/-- ACTIVATE (R554): the first stored ACTIVATE command requests activation at its effective tick. -/
def execActivate (s : State) : Out :=
  .next (if s.alive then
    match s.time.cmds.find? fun c => c.code == 5 with
    | some c => actRequest { s with time := { s.time with cmds := s.time.cmds.erase c } } c.eff c.arg
    | none => s
  else s)

/-- Why an activation is held (R64 to R66). -/
def actDefer (s : State) : Option Fld :=
  if s.st = NS.join then some F.NODE_DEFER_ACT_JOIN
  else if s.st = NS.coast then some F.NODE_DEFER_ACT_COAST
  else if s.role = 3 ∧ (s.on P.gw F.GATEWAY_GW_STAT_FAILOVER ∨ present s (s.rd P.gw F.GATEWAY_GW_CFG_PARTNER) = false) then
    some F.NODE_DEFER_GW_FAILOVER
  else none

/-- EXPORT begins, or begins again. -/
def exportStart (s : State) (due : Nat) : State :=
  let s := setUpd (s.wr P.upd F.UPDATE_EXPORT_DONE_D 0) 3
  let s := actForget s
  raise { s with mgmt := { s.mgmt with actDue := some due } } P.upd 2

/-- The cores that an activation needs: those with HART_EN set, and the management core. -/
def actCores (s : State) : Nat := s.rd P.cores F.CORES_CORE_CTRL_HART_EN + 16

/-- Every needed core has set its bit. -/
def actAll (s : State) (f : Fld) : Bool := andNot (actCores s) (s.rd P.upd f) == 0

/-- Both program banks change places (R507). -/
def banksFlip (s : State) : State :=
  let s := bankSwap s (1 - s.rd P.cores F.CORES_BANK_ACTIVE)
  raise (s.wr P.mgmt F.MGMT_MBANK_ACTIVE (1 - s.rd P.mgmt F.MGMT_MBANK_ACTIVE)) P.mgmt 2

/-- The needed cores restart at the resume offsets of an image, and their watchdog timers with them. -/
def coresResume (s : State) (x : ImgInfo) (a0 : Nat) (a1 : Option (Nat × Nat)) : State :=
  let d := orDraw s 40 (a1.map (·.1))
  let e := orDraw d.2 32 (a1.map (·.2))
  let s := e.2.each 4 fun t k =>
    if t.bit P.cores F.CORES_CORE_CTRL_HART_EN k && domOn t 3 then
      wdtRestart (coreStart t k (0x10000000 + x.field) a0 d.1) k (t.upAt t.now)
    else t
  wdtsFollow (wdtRestart (setCore s 4 { core s 4 with entry := 0x08000000 + x.mgmt, a0 := a0, a1 := e.1, resv := none }) 4 (s.upAt s.now))

/-- The swap at T(e) (R555, step 3). -/
def actSwap (s : State) : State :=
  let s := banksFlip s
  let s := coresResume s s.mgmt.staged 0
    (some (0x10200000 + s.rd P.upd F.UPDATE_ACT_CFG_HO_BASE, 0x08040000 + s.rd P.upd F.UPDATE_MHO_CFG_MHO_BASE))
  let s := setUpd (s.wr P.upd F.UPDATE_READY_R 0) 4
  raise { s with ao := { s.ao with actFlag := true } } P.upd 3

/-- ACT_RETRY_MAX: 0 acts as 1. -/
def actRetryMax (s : State) : Nat := max 1 (s.rd P.upd F.UPDATE_ACT_CFG_ACT_RETRY_MAX)

/-- The swap is due: it happens, is deferred for a change to COAST, is postponed, or the activation ends (R555, R556). -/
def actDueNow (s : State) (clean : Bool) (e : Nat) : State :=
  if s.st = NS.coast then
    (setUpd { s with mgmt := { s.mgmt with actHeld := true } } 2).wr P.node F.NODE_DEFER_ACT_CHANGE 1
  else if clean && actAll s F.UPDATE_EXPORT_DONE_D then actSwap s
  else if s.mgmt.actTries < actRetryMax s then
    let s := s.inc P.upd F.UPDATE_CNT_POSTPONE_N
    exportStart { s with mgmt := { s.mgmt with actTries := s.mgmt.actTries + 1 } } (e + 1)
  else
    let s := updResult (setUpd (actForget s) 2) 13
    raise s P.upd 5

/-- The activation at a tick instant; `clean` says that the preceding commit was. -/
def actTick (s : State) (clean : Bool) : State :=
  match s.mgmt.actDue with
  | none => s
  | some e =>
    if updState s = 3 then (if s.tick < e then s else actDueNow s clean e)
    else if updState s ≠ 2 ∨ s.tick + 1 < e then s
    else
      match actDefer s with
      | some f =>
        let change := s.on P.node F.NODE_DEFER_ACT_CHANGE && f == F.NODE_DEFER_ACT_COAST
        let s := { s with mgmt := { s.mgmt with actHeld := true } }.zero P.node actDeferBits
        s.wr P.node (if change then F.NODE_DEFER_ACT_CHANGE else f) 1
      | none => exportStart s (s.tick + 1)

/-- The commit point of an activation (R555, step 5). -/
def actCommit (s : State) (clean : Bool) : State :=
  if updState s ≠ 4 then s
  else if clean && actAll s F.UPDATE_READY_R then
    let x := s.mgmt.staged
    let s := s.wr P.upd F.UPDATE_UPD_STAT_ACTIVE_SLOT x.slot
    let s := { s with
      ao := { s.ao with hint := 2 + x.slot, actFlag := false }
      mgmt := { s.mgmt with run := x, actDue := none } }
    countRaise (updResult (setUpd s 0) 1) P.upd F.UPDATE_CNT_ACTIVATE_N P.upd 4
  else { s with mgmt := { s.mgmt with revert := true } }

/-- The revert at T(e + 1) (R557). -/
def actRevert (s : State) : State :=
  if !s.mgmt.revert then s
  else
    let s := banksFlip { s with staged := [], stagedLate := [] }
    let s := coresResume (setReady s 0) s.mgmt.run 1 none
    let s := { s with
      ao := { s.ao with actFlag := false }
      mgmt := { s.mgmt with revert := false, actDue := none } }
    countRaise (updResult (setUpd s 0) 12) P.upd F.UPDATE_CNT_REVERT_N P.upd 5

/-- A write of EXPORT_DONE or READY by core `ini`: only its own bit counts. -/
def actBit (s : State) (f : Fld) (ini m : Nat) : State :=
  if ini < 5 ∧ bitOf m ini then s.setBit P.upd f ini true else s

end Sys2Proof.Machine
end

