-- ==== Sys2Proof/Machine/Usb.lean ====
section
/-!
DEFINITION. The USB-C ports and the USB 2.0 device (18_usb_c_ports.md, R480 to R503). A PD message exchange is commanded by its
messages; what the hub answers stands in `usb.sent`. Timers run from their registers and end by PD_TIMER_EXPIRY.
-/

namespace Sys2Proof.Machine

/-- The PD engines run (MGMT domain). -/
def pdRuns (s : State) (p : Nat) : Bool := s.alive && decide (p < 2) && s.pd p F.PD_PD_CFG_EN == 1

/-! ## The service path (R482 to R484, R494) -/

/-- VBUS0_RISE (R482, R50, R500): VBUS0 exceeds 4.0 V. The service path turns on unless the node has MAIN_OUT or sources VBUS0. A
rise that finds VBUS0 high tells of a fall before it. -/
def execVbus0Rise (s : State) : Out :=
  let s := if s.usb.vbus0 then vbusFall s else s
  let s := { s with usb := { s.usb with vbus0 := true } }
  let s := if !s.node.rails then { s with ao := { s.ao with wake := withBit s.ao.wake 1 } } else s
  let s := if pgMain s || s.usb.port0.vbus then s else setSvc s true
  .next (if s.alive then usbConnect s else s)

/-- SVC_OVERLAP_END (R483): SVC_OVERLAP has passed. -/
def execSvcOverlapEnd (t : Nat) (s : State) : Out :=
  let ms := max 1 (s.pd 0 F.PD_TRANS_CFG_SVC_OVERLAP)
  .next (match s.usb.overlap with
    | some u =>
      if u + ms * 1000000 ≤ t then setSvc { s with usb := { s.usb with overlap := none } } false else s
    | none => s)

/-- SERVICE_TAKEOVER (R484): both feeds have fallen below UV while VBUS0 is at `v` mV. -/
def execServiceTakeover (v : Nat) (s : State) : Out :=
  let w := if s.pd 0 F.PD_PD_STAT_CONTRACT = 1 then s.pd 0 F.PD_CONTRACT_V else 5000
  .next (if s.alive && s.pd 0 F.PD_PD_CFG_SVC_TAKEOVER == 1 && pdAttach s 0 == 1 && feedBit s 0 2 && feedBit s 1 2 &&
      decide (95 * w ≤ 100 * v ∧ 100 * v ≤ 105 * w) then setSvc s true
  else s)

/-- VBUS_OV (R494): VBUS0 has exceeded its limit for 10 µs while port 0 is a sink. -/
def execVbusOv (s : State) : Out :=
  .next (if pdAttach s 0 = 1 then
    let s := pdFault (setSvc { s with usb := { s.usb with ovOff := true } } false) 0 6
    pdEv s 0 2
  else s)

/-- VBUS_OV_CLEAR (R494): VBUS0 has stayed within ±5 % of the contract voltage for 10 ms. -/
def execVbusOvClear (s : State) : Out :=
  .next (if s.usb.ovOff then
    let s := { s with usb := { s.usb with ovOff := false } }
    if pgMain s then s else setSvc s true
  else s)

/-! ## Attach and capabilities (R480, R486, R490) -/

/-- The fixed PDOs that port `p` offers: (mV, mA). -/
def pdOffer (s : State) (p : Nat) : List (Nat × Nat) :=
  if p = 0 then [(5000, 1500)]
  else
    let i := clampNat 500 3000 (s.pd 1 F.PD_SRC_PDO_IMAX)
    let en := withBit (s.pd 1 F.PD_SRC_PDO_PDO_EN) 0
    ([(0, 5000), (1, 9000), (2, 15000), (3, 20000)].filter fun e => bitOf en e.1).map fun e => (e.2, i)

/-- The port is a source and offers its capabilities: the sequence runs until the Request is answered. -/
def pdOfferNow (s : State) (p : Nat) : State := pdStart (amsStart (pdSend s p (.srcCap (pdOffer s p))) p 8) p PT.sendSrcCap

/-- VSET for `mv` mV in steps of 1.2 mV, 0 to 1,200 mV (R491). -/
def vsetFor (s : State) (mv : Nat) : Nat :=
  let off := toSigned 16 (s.pd 1 F.PD_VSET_CAL_OFFSET)
  let q : Rat := ((off : Rat) + (s.pd 1 F.PD_VSET_CAL_GAIN * mv : Nat) / 100000) * 10 / 12
  (clampInt 0 1000 (rnd 20 q)).toNat

/-- The port drives VBUS at `mv` mV. -/
def pdDrive (s : State) (p mv : Nat) : State :=
  let s := setPd s p { pdSt s p with vbus := true, mv := mv }
  if p = 1 then setPd s 1 { pdSt s 1 with vset := vsetFor s mv } else s

/-- Port 0 as sink sees another Rp (R485, R488): with a PD 3.x partner SINK_TX runs from the change. -/
def rpChange (s : State) (rp : Nat) : State :=
  if s.pd 0 F.PD_PD_STAT_RP_ADV = rp then s
  else
    let s := judgeBudget (s.pdWr 0 F.PD_PD_STAT_RP_ADV rp)
    if s.pd 0 F.PD_PD_STAT_REV3 = 1 then pdStart s 0 PT.sinkTx else s

/-- ATTACH (R480, R490): a partner attaches; `src` says that the port presented Rp, `rp` is the Rp that it sees as sink, `rev3`
the revision that they negotiate. DESIGN CHOICE (log 115): for port 0 attached as sink the row tells the Rp that it sees now. -/
def execAttach (p : Nat) (src : Bool) (rp : Nat) (rev3 : Bool) (s : State) : Out :=
  .next (if pdRuns s p && p == 0 && pdAttach s 0 == 1 && !src then rpChange s (rp % 4)
  else if pdRuns s p && pdAttach s p == 0 &&
      (if p = 0 then !src || (s.pd 0 F.PD_PD_CFG_SRC_EN == 1 && !s.service && pgMain s) else src && supplyOk s) then
    let s := s.pdWr p F.PD_PD_STAT_ATTACH (if src then 2 else 1)
    let s := (s.pdWr p F.PD_PD_STAT_REV3 (b2n rev3)).pdWr p F.PD_PD_STAT_RP_ADV (if src then 0 else rp)
    let s := setPd s p { pdSt s p with rp := src, cc := if src then 2 else 1 }
    let s := if src then pdOfferNow (pdDrive s p 5000) p else judgeBudget s
    pdEv s p 0
  else s)

/-- DETACH (R490, R498, R500): the partner is gone, and on port 0 its VBUS with it, attached or not. -/
def execDetach (p : Nat) (s : State) : Out :=
  .next (if 2 ≤ p then s
  else
    let s := if s.alive then pdDetach s p else s
    if p = 0 ∧ s.usb.vbus0 then vbusFall s else s)

/-- SNK_VMAX and SNK_IOP within their ranges. -/
def snkVmax (s : State) : Nat := clampNat 5000 20000 (s.pd 0 F.PD_SNK_CFG_SNK_VMAX)
def snkIop (s : State) : Nat := clampNat 100 3000 (s.pd 0 F.PD_SNK_CFG_SNK_IOP)

/-- The Request of R486: position from 1, voltage, current, Capability Mismatch. -/
def pdChoose (s : State) (l : List (Nat × Nat × Bool)) : Nat × Nat × Nat × Bool :=
  let ok := (List.range l.length).filter fun k =>
    let e := l.getD k (0, 0, false)
    e.2.2 && decide (e.1 ≤ snkVmax s) && decide (snkIop s ≤ e.2.1)
  let best := ok.foldl (fun b k => match b with
    | none => some k
    | some j => if (l.getD j (0, 0, false)).1 < (l.getD k (0, 0, false)).1 then some k else b) none
  match best with
  | some k => (k + 1, (l.getD k (0, 0, false)).1, snkIop s, false)
  | none => (1, 5000, (l.getD 0 (5000, 0, true)).2.1, true)

/-- Port 0 requests under R486 and waits for the answer. -/
def pdRequest (s : State) : State :=
  let c := pdChoose s (pdSt s 0).caps
  let s := amsStart (pdSend s 0 (.request c.1 c.2.2.1 c.2.2.2)) 0 5
  pdStart (setPd s 0 { pdSt s 0 with asked := (c.2.1, c.2.2.1) }) 0 PT.senderResp

/-- SOURCE_CAPABILITIES (R486): the partner offers (mV, mA, fixed) to port 0 as sink. -/
def execSourceCapabilities (pdos : List (Nat × Nat × Bool)) (s : State) : Out :=
  .next (if pdRuns s 0 && pdAttach s 0 == 1 then
    let s := pdStop s 0 PT.noResponse
    let s := if (pdSt s 0).ams = 4 then pdComplete (pdStop (amsEnd s 0) 0 PT.senderResp) 0 PR.ok else s
    let s := setPd s 0 { pdSt s 0 with caps := pdos }
    if s.pd 0 F.PD_PD_CFG_AUTO_SNK = 1 then pdRequest s
    else if (pdSt s 0).ams = 0 then pdStart (setPd s 0 { pdSt s 0 with ams := 9 }) 0 PT.senderResp
    else s
  else s)

/-! ## Hard Reset (R489, R493) -/

/-- Port `p` stops driving VBUS. -/
def pdDriveOff (s : State) (p : Nat) : State :=
  let s := setPd s p { pdSt s p with vbus := false, mv := 5000 }
  if p = 0 ∧ s.usb.vbus0 then vbusFall s else s

/-- A Hard Reset is sent or received on port `p`. A partner that is source removes VBUS0 (R493). -/
def hardReset (s : State) (p : Nat) (sent : Bool) : State :=
  let swap := s.pd p F.PD_PD_STAT_SWAP_BUSY == 1
  let s := if sent then pdSend s p .hardReset else s
  let s := s.inc (P.pd p) F.PD_CNT_HARD_RESET_N
  let s := pdEv (pdFault s p (if sent then 4 else 3)) p 2
  let s := pdQuiet s p
  let s := if p = 0 then tapEnd s else s
  let s :=
    if swap then
      let s := pdDriveOff s p
      if (pdSt s p).rp then pdStart ((setPd s p { pdSt s p with cc := 2 }).pdWr p F.PD_PD_STAT_ATTACH 2) p PT.srcRecover
      else (setPd s p { pdSt s p with cc := 1 }).pdWr p F.PD_PD_STAT_ATTACH 1
    else if pdAttach s p = 2 then pdStart s p PT.psHardReset
    else pdStart (if s.usb.vbus0 then vbusFall s else s) p PT.noResponse
  if p = 0 then judgeBudget s else s

/-- HARD_RESET_RECEIVED (R489). -/
def execHardResetReceived (p : Nat) (s : State) : Out :=
  .next (if pdRuns s p && pdAttach s p != 0 then hardReset s p false else s)

/-- TRANS_LIMIT in ns, within its range. -/
def transLimit (s : State) (p : Nat) : Nat := clampNat 5 250 (s.pd p F.PD_TRANS_CFG_TRANS_LIMIT) * 1000000

/-- Condition `k` of R492 may fail now: 0 START until 35 ms from the Accept, 1 SLOPE until TRANS_LIMIT from the latest start, both
between two voltages only; 2 SETTLE from TRANS_LIMIT after the earliest start on, for as long as the voltage stands. DEDUCED
(log 116). -/
def transMay (s : State) (p k : Nat) (x : PdTrans) : Bool :=
  let now := s.upAt s.now
  let moves := x.was != x.goal
  let start := fun (n : Nat) => x.since + if moves && x.accept then n * 1000000 else 0
  match k with
  | 0 => moves && x.accept && decide (now ≤ start 35)
  | 1 => moves && decide (now ≤ start 35 + transLimit s p)
  | 2 => s.dueBy (start 25 + transLimit s p)
  | _ => false

/-- TRANSITION_FAIL (R492, R493): condition `k` of a watched transition fails: 0 START, 1 SLOPE, 2 SETTLE. -/
def execTransitionFail (p k : Nat) (s : State) : Out :=
  .next (if pdRuns s p && (pdSt s p).trans.any (transMay s p k) then hardReset (pdFault s p k) p true else s)

/-! ## PD_CMD (R487, R501) -/

/-- Port 0 may swap its power role (R487). -/
def swapOk (s : State) (p : Nat) : Bool :=
  p == 0 && s.pd 0 F.PD_PD_CFG_SWAP_EN == 1 && !s.service && pgMain s && (pdSt s 0).ams == 0 &&
    (pdAttach s 0 == 2 || (pdAttach s 0 == 1 && s.pd 0 F.PD_PD_CFG_SRC_EN == 1))

/-- Operation `op` of PD_CMD may run now: 1 PR_SWAP, 2 SOFT_RESET, 3 HARD_RESET, 4 GET_SRC_CAP, 5 REQUEST. A Soft Reset ends an
offer that no Request has answered. -/
def pdOpOk (s : State) (p op : Nat) : Bool :=
  let a := (pdSt s p).ams
  pdRuns s p && pdAttach s p != 0 &&
  match op with
  | 1 => swapOk s p
  | 2 => a == 0 || a == 8 || a == 9
  | 3 => true
  | 4 => a == 0
  | 5 => (a == 0 || a == 9) && p == 0 && pdAttach s 0 == 1 && !(pdSt s 0).caps.isEmpty
  | _ => false

/-- It runs: a message goes out, and an answer is waited for. -/
def pdOpRun (s : State) (p op : Nat) : State :=
  let ask := fun (m : PdMsg) (a : Nat) => pdStart (amsStart (pdSend s p m) p a) p PT.senderResp
  match op with
  | 1 => ask .prSwap 1
  | 2 => ask .softReset 7
  | 3 => hardReset (pdComplete s p PR.ok) p true
  | 4 => ask .getSrcCap 4
  | _ => pdRequest s

/-- Port 0 as sink of a PD 3.x partner may start a sequence: it sees SinkTxOK, Rp at 3.0 A, and SINK_TX has passed since Rp changed
(R488). -/
def sinkTxOk (s : State) (p : Nat) : Bool :=
  !(p == 0 && pdAttach s 0 == 1 && s.pd 0 F.PD_PD_STAT_REV3 == 1) ||
    (s.pd 0 F.PD_PD_STAT_RP_ADV == 2 && (pdDue s 0 PT.sinkTx).isNone)

/-- A write of PD_CMD with operation `op`: BUSY while one is in progress, REFUSED where it may not run. A sequence that a sink starts
waits for SinkTxOK; a Hard Reset and the answer to Source_Capabilities start none. -/
def pdCmd (s : State) (p op : Nat) : State :=
  if op = 0 ∨ 5 < op then s
  else if (pdSt s p).cmd.isSome then s.pdWr p F.PD_PD_RES_RESULT PR.busy
  else
    let t := setPd s p { pdSt s p with cmd := some op }
    if !pdOpOk s p op then pdComplete t p PR.refused
    else
      let t := t.pdWr p F.PD_PD_RES_RESULT 0
      if op = 3 ∨ (pdSt s p).ams = 9 ∨ sinkTxOk s p then pdOpRun t p op else setPd t p { pdSt t p with wait := true }

/-- SINK_TX ends: a command that waits runs where port 0 sees SinkTxOK. -/
def sinkTxEnd (s : State) : State :=
  let x := pdSt s 0
  match x.cmd with
  | some op =>
    if x.wait && sinkTxOk s 0 then
      let s := setPd s 0 { x with wait := false }
      if pdOpOk s 0 op then pdOpRun s 0 op else pdComplete s 0 PR.refused
    else s
  | none => s

/-! ## Swaps and answers (R487 to R489, R492) -/

/-- An accepted swap begins: a source gives up VBUS, presents Rd and says so; a sink waits for the partner to. -/
def swapBegin (s : State) (p : Nat) : State :=
  let s := pdWatch (pdStop (s.pdWr p F.PD_PD_STAT_SWAP_BUSY 1) p PT.senderResp) p true (pdVolts s p) 0
  if pdAttach s p = 2 then
    let s := pdDriveOff s p
    pdStart (pdSend (setPd s p { pdSt s p with ams := 2, txNG := false, cc := 1 }) p .psRdy) p PT.psSrcOn
  else pdStart (setPd s p { pdSt s p with ams := 3 }) p PT.psSrcOff

/-- A swap is complete: the port is sink (1) or source (2) now. -/
def swapDone (s : State) (p role : Nat) : State :=
  let s := (s.pdWr p F.PD_PD_STAT_SWAP_BUSY 0).pdWr p F.PD_PD_STAT_ATTACH role
  let s := s.zero (P.pd p) [F.PD_PD_STAT_CONTRACT, F.PD_CONTRACT_V, F.PD_CONTRACT_I]
  let s := setPd (amsEnd s p) p { pdSt (amsEnd s p) p with timers := [] }
  let s := pdComplete (s.inc (P.pd p) F.PD_CNT_SWAP_N) p PR.ok
  judgeBudget (pdEv s p 1)

/-- PR_SWAP_RECEIVED (R487, R488): Accept or Reject. Where port 0 has sent its own, the source's message wins with a PD 2.0
partner. -/
def execPrSwapReceived (p : Nat) (s : State) : Out :=
  .next (if pdRuns s p && pdAttach s p != 0 then
    if p = 0 ∧ (pdSt s 0).ams = 1 ∧ s.pd 0 F.PD_PD_STAT_REV3 = 0 then
      if pdAttach s 0 = 2 then s
      else
        let s := pdStop (pdComplete (amsEnd s 0) 0 PR.rejected) 0 PT.senderResp
        if swapOk s 0 then swapBegin (pdSend s 0 .accept) 0 else pdSend s 0 .reject
    else if swapOk s p then swapBegin (pdSend s p .accept) p
    else pdSend s p .reject
  else s)

/-- PARTNER_ACCEPT (R487, R492): the partner answers Accept (`acc`) or Reject to what the port has sent. -/
def execPartnerAccept (p : Nat) (acc : Bool) (s : State) : Out :=
  .next (if pdRuns s p then
    let x := pdSt s p
    let s' := pdStop s p PT.senderResp
    let idle := amsEnd s' p
    if x.ams = 1 then (if acc then swapBegin s' p else pdComplete idle p PR.rejected)
    else if x.ams = 5 then
      if acc then pdStart (setPd (pdWatch s' p true (pdVolts s p) x.asked.1) p
        { pdSt (pdWatch s' p true (pdVolts s p) x.asked.1) p with ams := 6 }) p PT.psTrans
      else pdComplete idle p PR.rejected
    else if x.ams = 4 then (if acc then s else pdComplete idle p PR.rejected)
    else if x.ams = 7 then pdComplete idle p (if acc then PR.ok else PR.rejected)
    else s
  else s)

/-- A new contract is in force. -/
def pdContract (s : State) (p v i : Nat) : State :=
  let s := ((s.pdWr p F.PD_PD_STAT_CONTRACT 1).pdWr p F.PD_CONTRACT_V v).pdWr p F.PD_CONTRACT_I i
  pdEv (if p = 0 then judgeBudget s else s) p 1

/-- PS_RDY (R489): the partner's PS_RDY completes a contract change or a step of a swap. Port 0 never sources VBUS under SERVICE
power (R485): a swap that reaches this point there ends by Hard Reset. -/
def execPsRdy (p : Nat) (s : State) : Out :=
  .next (if pdRuns s p then
    let x := pdSt s p
    if x.ams = 6 then
      pdContract (pdComplete (amsEnd (pdStop s p PT.psTrans) p) p PR.ok) p x.asked.1 x.asked.2
    else if x.ams = 2 then swapDone (pdWatch s p false 0 5000) p 1
    else if x.ams = 3 then
      if p = 0 ∧ s.service then hardReset s p true
      else
        let s := if p = 0 ∧ s.usb.vbus0 then vbusFall s else s
        let s := pdWatch (pdDrive (setPd s p { pdSt s p with cc := 2 }) p 5000) p false 0 5000
        pdOfferNow (swapDone (pdSend s p .psRdy) p 2) p
    else s
  else s)

/-- REQUEST_RECEIVED (R490 to R492): a partner of a source port asks for PDO `pos` at `ma` mA; an accepted one starts a
transition and is the contract. The answer ends the sequence of the offer. -/
def execRequestReceived (p pos ma : Nat) (s : State) : Out :=
  .next (if pdRuns s p && pdAttach s p == 2 && (p == 0 || supplyOk s) then
    let s := pdStop s p PT.sendSrcCap
    let s := if (pdSt s p).ams = 8 then amsEnd s p else s
    match if pos = 0 then none else (pdOffer s p)[pos - 1]? with
    | some (v, i) =>
      if ma ≤ i then
        let s := pdDrive (pdWatch (pdSend s p .accept) p true (pdVolts s p) v) p v
        pdContract (pdSend s p .psRdy) p v ma
      else pdSend s p .reject
    | none => pdSend s p .reject
  else s)

/-- UNSUPPORTED_REQUEST (R481): 0 an unsupported feature, 1 DR_Swap, 2 a SOP' or SOP'' message. The row also brings BIST (R480,
R501): 3 BIST Carrier Mode and 4 BIST Test Data, which PD 3.1 takes under a contract at 5 V only, 5 the end of the carrier.
DESIGN CHOICE (log 115). -/
def execUnsupportedRequest (p kind : Nat) (s : State) : Out :=
  .next (if pdRuns s p && pdAttach s p != 0 then
    if kind = 0 then pdSend s p (if s.pd p F.PD_PD_STAT_REV3 = 1 then .notSupported else .reject)
    else if kind = 1 then pdSend s p .reject
    else if (kind = 3 ∨ kind = 4) ∧ s.pd p F.PD_PD_STAT_CONTRACT = 1 ∧ s.pd p F.PD_CONTRACT_V = 5000 then
      s.pdWr p F.PD_PD_STAT_BIST 1
    else if kind = 5 then s.pdWr p F.PD_PD_STAT_BIST 0
    else s
  else s)

/-- PD_TIMER_EXPIRY (R489, R495): timer `k` of the table of R495 ends. What the text does not state of it is taken from PD 3.1. -/
def execPdTimerExpiry (p k : Nat) (s : State) : Out :=
  .next (if pdRuns s p && (pdDue s p k).any s.dueBy then
    let due := max (s.upAt s.now) ((pdDue s p k).getD 0)
    let s := pdStop s p k
    let ams := (pdSt s p).ams
    if k = PT.senderResp then
      if ams = 5 ∨ ams = 7 then hardReset (pdComplete s p PR.timeout) p true
      else pdComplete (amsEnd s p) p PR.timeout
    else if k = PT.sendSrcCap then (if pdAttach s p = 2 then pdOfferNow s p else s)
    else if k = PT.psTrans ∨ k = PT.psSrcOff ∨ k = PT.psSrcOn then hardReset s p true
    else if k = PT.noResponse then hardReset (pdFault s p 5) p true
    else if k = PT.psHardReset then pdStartAt (pdDriveOff s p) p PT.srcRecover due
    else if k = PT.srcRecover then (if p = 0 ∧ s.service then s else pdOfferNow (pdDrive s p 5000) p)
    else if k = PT.sinkTx then sinkTxEnd s
    else s
  else s)

/-- VSET_TRIM (R491): once a millisecond VSET moves by one step while VBUS1, at `v` mV, is not within ±1 % of its target; a VSET
read back at `rb` tenths of a mV, outside ±2 % of the commanded value, is a SETTLE fault. -/
def execVsetTrim (v rb : Nat) (s : State) : Out :=
  .next (if pdRuns s 1 && (pdSt s 1).vbus then
    let x := pdSt s 1
    let c := x.vset * 12
    let s := if rb * 100 < c * 98 ∨ c * 102 < rb * 100 then pdEv (pdFault s 1 2) 1 2 else s
    if v * 100 < x.mv * 99 then setPd s 1 { x with vset := min 1000 (x.vset + 1) }
    else if x.mv * 101 < v * 100 then setPd s 1 { x with vset := x.vset - 1 }
    else s
  else s)

/-! ## The Tap alternate mode (R496 to R498) -/

/-- DISCOVER_SVIDS (R496). -/
def execDiscoverSvids (s : State) : Out :=
  .next (if pdRuns s 0 && s.pd 0 F.PD_PD_STAT_CONTRACT == 1 then pdSend s 0 (.svids s.otp.svid) else s)

/-- DISCOVER_MODES (R496). -/
def execDiscoverModes (s : State) : Out :=
  .next (if pdRuns s 0 && s.pd 0 F.PD_PD_STAT_CONTRACT == 1 then pdSend s 0 (.modes s.otp.vdo) else s)

/-- ENTER_MODE (R496, R497): S1 takes the Tap role. -/
def execEnterMode (s : State) : Out :=
  .next (if pdRuns s 0 && pdAttach s 0 != 0 then
    if tapAllowed s then
      let s := pdSend s 0 .enterAck
      if tapOn s then s
      else
        let s := pdEv ((s.pdWr 0 F.PD_PD_STAT_TAP 1).inc (P.pd 0) F.PD_CNT_TAP_ENTRY_N) 0 1
        if laneUp s 3 then laneExit s 3 LS.signal else setLaneState s 3 LS.signal
    else (pdSend s 0 .enterNak).inc (P.pd 0) F.PD_CNT_TAP_REFUSED_N
  else s)

/-- EXIT_MODE (R498): Tap ends before the ACK is sent. -/
def execExitMode (s : State) : Out := .next (if pdRuns s 0 && tapOn s then pdSend (tapEnd s) 0 .exitAck else s)

/-! ## The USB 2.0 device (R500, R502, R503) -/

/-- The device is connected. -/
def usbUp (s : State) : Bool := s.alive && s.on P.usb F.USBDEV_DEV_STAT_CONNECTED

/-- USB_BUS_RESET (R500): armed transfers are aborted. The device address returns to 0 (USB 2.0). -/
def execUsbBusReset (high : Bool) (s : State) : Out :=
  .next (if usbUp s then
    let s := usbAbort s
    let s := s.wr P.usb F.USBDEV_DEV_STAT_SPEED (if high && s.on P.usb F.USBDEV_DEV_CFG_HS_EN then 2 else 1)
    let s := (s.wr P.usb F.USBDEV_DEV_STAT_SUSPENDED 0).wr P.usb F.USBDEV_DEV_ADDR_ADDR 0
    let s := { s with usb := { s.usb with addr := 0 } }
    usbEv (s.wr P.usb F.USBDEV_DEV_STAT_BUS_RESET 1) 0
  else s)

/-- USB_SUSPEND (R503). -/
def execUsbSuspend (s : State) : Out :=
  .next (if usbUp s && !s.on P.usb F.USBDEV_DEV_STAT_SUSPENDED then usbEv (s.wr P.usb F.USBDEV_DEV_STAT_SUSPENDED 1) 0 else s)

/-- USB_RESUME (R503). -/
def execUsbResume (s : State) : Out :=
  .next (if usbUp s && s.on P.usb F.USBDEV_DEV_STAT_SUSPENDED then usbEv (s.wr P.usb F.USBDEV_DEV_STAT_SUSPENDED 0) 0 else s)

/-- Maximum packet size of endpoint `e`, within its range. -/
def epMps (s : State) (e : Nat) : Nat := clampNat 8 1024 (s.rd P.usb (F.USBDEV_EP_CFG_MPS e))

/-- Type of endpoint `e` in force: endpoint 0 is control; of the others 2 is interrupt and the rest acts as bulk. -/
def epKind (s : State) (e : Nat) : Nat :=
  if e = 0 then 0 else if s.rd P.usb (F.USBDEV_EP_CFG_TYPE e) = 2 then 2 else 1

/-- Endpoint `e` carries the direction: 0 both, 1 to 4 OUT, 5 to 8 IN. -/
def epDir (e : Nat) (out : Bool) : Bool := e == 0 || (decide (e < 9) && decide (e < 5) == out)

/-- The packets of an IN transfer of `d`, in order: full ones of `m` bytes, then the rest; where the last is full, or there is none,
a zero-length one under `zlp`, or alone. -/
def inPackets (m : Nat) (zlp : Bool) (d : List Nat) : List (List Nat) :=
  let n := d.length / m
  let full := (List.range n).map fun k => (d.drop (m * k)).take m
  if d.length % m ≠ 0 then full ++ [d.drop (m * n)] else if zlp ∨ n = 0 then full ++ [[]] else full

/-! ### The ROM's own descriptors (R547). PRESUMED (log 123): their layout is that of USB 2.0; what the spec does not give is open. -/

/-- The device descriptor: vendor and product IDs from the OTP. `d` holds what is open. -/
def romDevice (s : State) (d : Nat) : List Nat :=
  [18, 1, 0, 2] ++ leBytes 3 d ++ leBytes 1 (epMps s 0) ++ leBytes 2 s.otp.svid ++ leBytes 2 s.otp.product ++
    leBytes 6 (d / 2 ^ 24)

/-- The configuration: one vendor-class interface with bulk OUT1 and IN1. -/
def romConfig (s : State) (d : Nat) : List Nat :=
  [9, 2, 32, 0, 1] ++ leBytes 4 d ++ [9, 4, 0, 0, 2, 255] ++ leBytes 3 (d / 2 ^ 32) ++
    [7, 5, 0x01, 2] ++ leBytes 2 (epMps s 1) ++ leBytes 1 (d / 2 ^ 56) ++
    [7, 5, 0x81, 2] ++ leBytes 2 (epMps s 5) ++ leBytes 1 (d / 2 ^ 64)

/-- The ROM answers a control request: its descriptors, and an address. -/
def romSetup (s : State) (b : List Nat) : State :=
  let len := leVal (slice b 6 2)
  let kind := b.getD 3 0
  if slice b 0 2 = [0x80, 6] ∧ (kind = 1 ∨ kind = 2) then
    let d := s.draw 72
    let r := if kind = 1 then romDevice s d.1 else romConfig s d.1
    let l := (inPackets (epMps s 0) (decide (r.length < len)) (r.take len)).map (.data 0 0)
    { d.2 with usb := { d.2.usb with packets := l.reverse ++ d.2.usb.packets } }
  else if slice b 0 2 = [0, 5] then
    let a := b.getD 2 0 % 128
    { s with usb := { s.usb with addr := a } }.wr P.usb F.USBDEV_DEV_ADDR_ADDR a
  else s

/-- SETUP (R500, R502): the 8 bytes of a SETUP packet. In DAWN the ROM answers it (R547). -/
def execSetup (b : List Nat) (s : State) : Out :=
  .next (if usbUp s then
    let s := s.wr P.usb F.USBDEV_SETUP_LO_DATA (leVal (slice b 0 4))
    let s := usbEv (s.wr P.usb F.USBDEV_SETUP_HI_DATA (leVal (slice b 4 4))) 1
    if s.st = NS.dawn then romSetup s b else s
  else s)

/-- A write of EP_CTRL with ARM = 1: a transfer of LEN bytes starts; a buffer outside management data is an error. -/
def epArm (s : State) (e : Nat) : State :=
  let len := s.rd P.usb (F.USBDEV_EP_CTRL_LEN e)
  let s := s.zero P.usb [F.USBDEV_EP_STAT_XFER e, F.USBDEV_EP_STAT_SHORT e]
  if s.rd P.usb (F.USBDEV_EP_CFG_EN e) = 0 then s
  else if 0x40000 < s.rd P.usb (F.USBDEV_EP_BUF_OFFSET e) + len then usbEv (s.wr P.usb (F.USBDEV_EP_STAT_ERR e) 1) 1
  else { s with usb := { s.usb with armed := s.usb.armed.filter (· != e) ++ [e] } }

/-- The transfer of endpoint 0 is the status stage of the control transfer that the last SETUP began: no data, and against the
direction of its data stage, or IN where it has none. -/
def statusStage (s : State) (e len : Nat) (out : Bool) : Bool :=
  e == 0 && len == 0 &&
    out == (bitOf (s.rd P.usb F.USBDEV_SETUP_LO_DATA) 7 && s.rd P.usb F.USBDEV_SETUP_HI_DATA / 2 ^ 16 != 0)

/-- EP_DONE (R502): the transfer of endpoint `e` ends; `out` says that the host sent `b`, else it took what the endpoint had. A
stalled endpoint answers STALL. SHORT says that the last packet was shorter than the maximum (log 117). -/
def execEpDone (e : Nat) (out : Bool) (b : List Nat) (s : State) : Out :=
  .next (if !(usbUp s && epDir e out && s.on P.usb (F.USBDEV_EP_CFG_EN e)) then s
  else if s.on P.usb (F.USBDEV_EP_CTRL_STALL e) then { s with usb := { s.usb with packets := .stall e :: s.usb.packets } }
  else if s.usb.armed.contains e then
    let len := s.rd P.usb (F.USBDEV_EP_CTRL_LEN e)
    let buf := 0x08040000 + s.rd P.usb (F.USBDEV_EP_BUF_OFFSET e)
    let s := { s with usb := { s.usb with armed := s.usb.armed.filter (· != e) } }
    let s :=
      if out then
        let d := b.take len
        let s := (s.memWrite buf d).wr P.usb (F.USBDEV_EP_STAT_XFER e) d.length
        s.wr P.usb (F.USBDEV_EP_STAT_SHORT e) (b2n (decide (d.length < len ∨ d.length % epMps s e ≠ 0)))
      else
        let l := (inPackets (epMps s e) (s.on P.usb (F.USBDEV_EP_CTRL_ZLP e)) (s.memRead buf len)).map (.data e (epKind s e))
        { s with usb := { s.usb with packets := l.reverse ++ s.usb.packets } }.wr P.usb (F.USBDEV_EP_STAT_XFER e) len
    let s := if statusStage s e (if out then (b.take len).length else len) out then
        { s with usb := { s.usb with addr := s.rd P.usb F.USBDEV_DEV_ADDR_ADDR } }
      else s
    usbEv (s.wr P.usb (F.USBDEV_EP_STAT_DONE e) 1) 1
  else s)

end Sys2Proof.Machine
end

