-- ==== Sys2Proof/Machine/Bus.lean ====
section
/-!
DEFINITION. A write to a page register (02_register_pages.md, R29 to R48): how it is judged, what a rejection leaves, what is
stored or staged, and what the block does with it. Every register command of the table is one of these writes.
-/

namespace Sys2Proof.Machine

/-- The bits of field `f` in a register word. -/
def fbits (word : Nat) (f : Fld) : Nat := bitsOf word f.lsb f.width

/-- A register word from values of its fields. -/
def mkWord (l : List (Fld × Nat)) : Nat := l.foldl (fun a e => a + e.2 % 2 ^ e.1.width * 2 ^ e.1.lsb) 0

/-! ## Rejection (R43, R46, R47) -/

def WC.clas : Nat := 0
def WC.locked : Nat := 1
def WC.lockFail : Nat := 2
def WC.remote : Nat := 3

/-- A write is rejected: WRITE_REJECT0 to 2 and NODE event 2; LOCK_FAIL also raises event 3. WCLASS of a cause other than CLASS
and SRC_NODE of a local write are not stated. -/
def reject (s : State) (who : By) (page off cause : Nat) (cls : Option Cls) : State :=
  let s := s.inc P.node F.NODE_WRITE_REJECT2_COUNT
  let s :=
    if s.on P.node F.NODE_WRITE_REJECT0_VALID then s.wr P.node F.NODE_WRITE_REJECT0_MULTI 1
    else
      let c := orDraw s 3 (cls.map (·.code))
      let n := orDraw c.2 12 (if who.ini = 8 then some who.src else none)
      let s := (n.2.wr P.node F.NODE_WRITE_REJECT0_VALID 1).wr P.node F.NODE_WRITE_REJECT0_CAUSE cause
      let s := (s.wr P.node F.NODE_WRITE_REJECT0_WCLASS c.1).wr P.node F.NODE_WRITE_REJECT0_PAGE page
      let s := (s.wr P.node F.NODE_WRITE_REJECT1_SRC_NODE n.1).wr P.node F.NODE_WRITE_REJECT1_INITIATOR who.ini
      s.wr P.node F.NODE_WRITE_REJECT1_OFFSET off
  let s := raise s P.node 2
  raiseIf s (cause == WC.lockFail) P.node 3

/-! ## Judging (R39 to R46) -/

/-- The initiator that an arm belongs to: its code, and the source node of a remote write. -/
def armWho (who : By) : Nat := if who.ini = 8 then 8 + 16 * who.src else who.ini

/-- The page is armed for this initiator (R46). -/
def armedFor (s : State) (who : By) (page : Nat) : Bool :=
  s.node.keyArms.any fun e => e.1 == page && e.2.1 == armWho who

/-- A write that reaches the page ends its arms. -/
def dropArms (s : State) (page : Nat) : State :=
  { s with node := { s.node with keyArms := s.node.keyArms.filter fun e => e.1 != page } }

/-- The page is armed until the second tick instant from now. -/
def arm (s : State) (who : By) (page : Nat) : State :=
  { s with node := { s.node with keyArms := s.node.keyArms ++ [(page, armWho who, 2)] } }

/-- A manager entry names the source of a remote write (R44). -/
def isManager (s : State) (src m : Nat) : Bool :=
  s.on P.node (F.NODE_MANAGER_VALID m) &&
    (let a := s.rd P.node (F.NODE_MANAGER_ADDR m)
     if a = 0xFFF then s.on P.time F.TIME_ZENITH_VALID && s.rd P.time F.TIME_ZENITH_ADDR == src else a == src)

/-- PAGE_ATTR lets node `src` write the page (R34, R44). -/
def remoteOpen (s : State) (src page : Nat) : Bool :=
  match s.rd page F.HDR_PAGE_ATTR_REMOTE_WRITE with
  | 1 => (List.range 8).any fun m => s.bit page F.HDR_PAGE_ATTR_MGR_MASK m && isManager s src m
  | 2 => true
  | _ => false

/-- A PIO program slot or the WRAP register, which R420 judges. -/
def pioProgram (page off : Nat) : Bool :=
  decide (0x0C0 ≤ page ∧ page ≤ 0x0D7) && (off == 0x048 || decide (0x100 ≤ off ∧ off < 0x180))

/-- The write class of a field lets the write through (R5, R41, R42, R420, R512). -/
def classOpen (s : State) (who : By) (page : Nat) (f : Fld) : Bool :=
  match f.cls with
  | .a | .t | .none => true
  | .c => s.isIn [NS.join, NS.commission, NS.maint]
  | .s => s.stopped page || (pioProgram page f.off && s.isIn [NS.boot, NS.dawn, NS.maint])
  | .b =>
    if page = P.cores ∧ (f.off = 0x044 ∨ f.off = 0x048) then who.ini == 4 && s.node.romRuns
    else s.isIn [NS.boot, NS.dawn] && !s.node.lockedB

/-- What a field holds for the purpose of R40. -/
def activeValue (s : State) (who : By) (page : Nat) (f : Fld) : Nat := s.rdi page f (bankIdx s who page f)

/-- A field that names a queue: the TYPE it must have, whether 0 names none, and whether any number below 112 names none
(R242). -/
def queueNaming (page : Nat) (f : Fld) : Option (Nat × Bool × Bool) :=
  if page = P.capt then
    match arr f F.CAPTURE_CAP_CFG_QUEUE 32 16 with
    | some _ => some (4, true, false)
    | none => none
  else if 0x0B0 ≤ page ∧ page ≤ 0x0B7 then
    if f = F.CAN_RXQ_A_QUEUE0 ∨ f = F.CAN_RXQ_A_QUEUE1 ∨ f = F.CAN_RXQ_B_QUEUE2 ∨ f = F.CAN_RXQ_B_QUEUE3 then some (2, false, false)
    else if f = F.CAN_AUX_Q_TUN_QUEUE then some (2, true, false)
    else if f = F.CAN_AUX_Q_TXC_QUEUE then some (4, true, false)
    else none
  else if 0x0B8 ≤ page ∧ page ≤ 0x0BB then
    match arr f F.UART_U_QUEUE_TUN_QUEUE 128 4, arr f F.UART_U_QUEUE_RX_QUEUE 128 4 with
    | none, none => none
    | _, _ => some (2, true, false)
  else if 0x0E0 ≤ page ∧ page ≤ 0x0E3 then
    if f = F.ETH_QUEUES_TXC_QUEUE then some (4, true, false)
    else if f = F.ETH_QUEUES_RX_QUEUE then some (2, true, false) else none
  else if page = P.drift then
    if f = F.DRIFT_DRIFT_CFG_NOTE_QUEUE then some (4, true, true) else none
  else if page = P.sesrx then
    if f = F.SESRX_RSES_QUEUE_QUEUE then some (3, false, false) else none
  else none

/-- The queue that a value of a naming field names: RSES_QUEUE below 112 acts as 112 (R270). -/
def namedQueue (page v : Nat) : Nat := if page = P.sesrx then max 112 v else v

/-- A receiving session's queue is bound, and so judged, only while the session is enabled (R262). -/
def namingJudged (s : State) (page : Nat) : Bool :=
  page != P.sesrx || s.rx F.SESRX_RSES_CFG_EN (s.rd P.sesrx F.SESRX_RSES_SEL_SESSION) == 1

/-- The value of a naming field names a queue that may be of its TYPE. -/
def namingOk (s : State) (page : Nat) (f : Fld) (v : Nat) : Bool :=
  match queueNaming page f with
  | none => true
  | some (t, zero, low) =>
    !namingJudged s page || (zero && v == 0) || (low && decide (v < 112)) || (qBind s (namedQueue page v) t).1

/-- Conditions beyond the write class under which a field's new value is rejected with cause CLASS. -/
def fieldOk (s : State) (who : By) (page : Nat) (f : Fld) (v : Nat) : Bool :=
  namingOk s page f v &&
  (if 0x0A0 ≤ page ∧ page ≤ 0x0A7 then
    match arr f F.FIELD_CH_OUT_RELEASE 32 8 with
    | some _ => s.working && !s.service
    | none => true
  else if page = P.sesrx ∧ f = F.SESRX_RSES_CFG_EN then v == 0 || rsesMayEnable s (s.rd P.sesrx F.SESRX_RSES_SEL_SESSION)
  else if page = P.mgmt ∧ f = F.MGMT_PWR_CTRL_CORE_ON then !coreRefused s v
  else if 0x0F1 ≤ page ∧ page ≤ 0x0F8 ∧ f = F.BRANCH_BR_CTRL_ON then v == 0 || branchAllowed s
  else if page = P.sec ∧ (f = F.SECURITY_UNLOCK_CTRL_GO ∨ (0x0C0 ≤ f.off ∧ f.off < 0x140)) then who.ini == 7
  else true)

/-- The first field of the register, with a value other than the one it holds, whose class or whose own condition refuses the
write. -/
def badField (s : State) (who : By) (page off word : Nat) : Option Fld :=
  (regFields page off).find? fun f =>
    !absentField page f && f.acc != .ro && f.acc != .roc && fbits word f != activeValue s who page f &&
      !(classOpen s who page f && fieldOk s who page f (fbits word f))

/-- Why a write is refused, if it is: cause, and the class for cause CLASS. `armed` says that the page was armed for the
writer. DEDUCED (log 8): the page's lock and remote permission are judged ahead of what the register holds (R39), so a remote write
without permission to a register of RO fields alone is rejected REMOTE. -/
def writeRefusal (s : State) (who : By) (page off word : Nat) (armed : Bool) : Option (Nat × Option Cls) :=
  if off ≠ 0x038 ∧ s.on page F.HDR_PAGE_CTRL_LOCK ∧ !(armed && off == 0x008) then some (WC.locked, none)
  else if who.ini = 8 ∧ (!remoteOpen s who.src page || (page == P.sestx && off == 0x044)) then some (WC.remote, none)
  else if off = 0x038 then
    if word % 2 ^ 32 = 0x1F3C0000 + page then none else some (WC.lockFail, none)
  else (badField s who page off word).map fun f => (WC.clas, some f.cls)

/-- What a rejection does beside R43: R420 for a running PIO engine, R485 for the service budget. -/
def refusedExtra (s : State) (page off word : Nat) : State :=
  if pioProgram page off then
    let e := page - 0x0C0
    pioEv ((s.wr page F.PIO_ENG_STAT_PROG_BUSY 1).inc page F.PIO_CNT_PROG_BUSY_N) e
  else if page = P.mgmt ∧ off = 0x040 ∧ coreRefused s word then s.wr (P.pd 0) F.PD_SVC_STAT_LOW_BUDGET 1
  else s

/-! ## Storing and staging (R36 to R38) -/

/-- Fields that the effect of the write stores itself. -/
def ownStore (page : Nat) (f : Fld) : Bool :=
  if 0x0A0 ≤ page ∧ page ≤ 0x0A7 then (arr f F.FIELD_CH_CFG_MODE 32 8).isSome
  else if page = P.sestx then f == F.SESTX_SES_CFG_EN
  else if page = P.sesrx then f == F.SESRX_RSES_CFG_EN
  else if page = P.mgmt then f.off == 0x040 || f.off == 0x060 || f.off == 0x064
  else if 0x0F1 ≤ page ∧ page ≤ 0x0F8 then f == F.BRANCH_BR_CTRL_ON
  else if page = P.ev3 then decide (0x044 ≤ f.off ∧ f.off ≤ 0x064 ∧ f.off % 8 = 4)
  else if page = P.host then f.off == 0x048
  else false

/-- Fields with a fixed value on some page or entry. -/
def fixedField (s : State) (page : Nat) (f : Fld) : Bool :=
  if page = P.switch then (f == F.SWITCH_GRP_DATA_VALID || f == F.SWITCH_GRP_DATA_PORTS) && decide (s.rd P.switch F.SWITCH_GRP_SEL_GROUP ≤ 1)
  else if page = P.gw then f == F.GATEWAY_XGRP_DATA_CROSS && decide (s.rd P.gw F.GATEWAY_XGRP_SEL_GROUP ≤ 1)
  else if 0x040 ≤ page ∧ page ≤ 0x046 then (arr f F.QUEUE_Q_CFG_OVERWRITE 64 16).isSome
  else if page = P.adc then
    (match arr f F.ADC_SCALE_GAIN 4 24, arr f F.ADC_SCALE_OFFSET 4 24 with
      | some i, _ | none, some i => !adcScaled i
      | none, none => false)
  else false

/-- The value that a field stores: bit 0 of PDO_EN is fixed 1. -/
def storeValue (page : Nat) (f : Fld) (v : Nat) : Nat :=
  if page = 0x101 ∧ f = F.PD_SRC_PDO_PDO_EN then withBit v 0 else v

/-- A staged value waits for the commit: one written from the commit point on waits for the next (R37, R38). -/
def stage (s : State) (page : Nat) (f : Fld) (v : Nat) : State :=
  let k : Key := ⟨page, f.off, f.lsb, 0⟩
  if s.time.pastC || decide (commitAt s ≤ s.now) then
    { s with stagedLate := alInsert Key.lt (alErase s.stagedLate k) k v }
  else { s with staged := alInsert Key.lt (alErase s.staged k) k v }

/-- A PIO program word written to a running engine waits for the next wrap crossing (R420). -/
def stageProgram (s : State) (e off word : Nat) : State :=
  let x := s.eng e
  let s := if off = 0x048 then s.setEng e { x with wrap := some word }
    else s.setEng e { x with prog := x.prog.put none ((off - 0x100) / 4) (some (word % 2 ^ 16)) }
  s.wr (P.pio e) F.PIO_ENG_STAT_PROG_PEND 1

/-- Store one field of an accepted write. -/
def storeField (s : State) (who : By) (page : Nat) (f : Fld) (word : Nat) : State :=
  let v := fbits word f
  let i := bankIdx s who page f
  if absentField page f || ownStore page f || fixedField s page f then s
  else match f.acc with
    | .rw => s.wri page f i (storeValue page f v)
    | .rws => stage s page f v
    | .w1c => s.wri page f i (andNot (s.rdi page f i) v)
    | .wo => if page = P.sec ∧ ((0x0C0 ≤ f.off ∧ f.off < 0x140) ∨ (0x150 ≤ f.off ∧ f.off < 0x170)) then s.wr page f v else s
    | .w1s | .ro | .roc => s

/-- Store an accepted write. -/
def storeWord (s : State) (who : By) (page off word : Nat) : State :=
  if pioProgram page off && !s.stopped page then
    -- a word that the slot holds already passes in the other states, and stages nothing
    if s.isIn [NS.boot, NS.dawn, NS.maint] then stageProgram s (page - 0x0C0) off word else s
  else (regFields page off).foldl (fun t f => storeField t who page f word) s

/-- Names given to queues bind them, and names taken away unbind them (R242). -/
def bindQueues (old s : State) (who : By) (page off : Nat) : State :=
  (regFields page off).foldl (fun t f =>
    match queueNaming page f with
    | none => t
    | some (ty, zero, low) =>
      let v := t.rdi page f (bankIdx t who page f)
      let was := activeValue old who page f
      if !namingJudged t page || was == v then t
      else
        let t := qUnbind t (namedQueue page was)
        if (zero && v == 0) || (low && decide (v < 112)) then t else (qBind t (namedQueue page v) ty).2) s

/-! ## Stopping and starting blocks (R30, R607) -/

/-- The safe point at which STOPPED rises is reached now; those that are tick instants are reached there. -/
def safePoint (s : State) (page : Nat) : Bool :=
  match pageType page with
  | some .lane => (s.sw.sending.at none (lanePort s (page - 0x008))).isNone
  | some .swport => (s.sw.sending.at none (page - 0x011)).isNone
  | some .xfer => (List.range 8).all fun c => (descsOf s c).isEmpty
  | some .edge => s.edge.edges.all fun e => e.st != .committed
  | some .can => (can s (page - 0x0B0)).att.isNone && (can s (page - 0x0B0)).rx.isNone
  | some .pio => pioAtRest s (page - 0x0C0)
  | _ => false

/-- The block is told to stop: by STOP, by its power domain, and for an engine by any of the reasons of R407. -/
def toldToStop (s : State) (page : Nat) : Bool :=
  if 0x0C0 ≤ page ∧ page ≤ 0x0D7 then pioToStop s (page - 0x0C0) else s.stopReq page

/-- The block reaches its safe point (R30). -/
def blockStop (s : State) (page : Nat) : State :=
  if pageStops page && toldToStop s page && !s.stopped page && safePoint s page then
    match pageType page with
    | some .lane => laneOff s (page - 0x008)
    | some .pio => pioStop s (page - 0x0C0)
    | _ => s.wr page F.HDR_PAGE_STAT_STOPPED 1
  else s

/-- What the block does when STOP is cleared (R30). -/
def resume (s : State) (page : Nat) : State :=
  match pageType page with
  | some .lane => laneStart s (page - 0x008)
  | some .pio => s
  | some .edge => settleEdges (edgesResume (s.wr page F.HDR_PAGE_STAT_STOPPED 0) (2 * s.now))
  | some .can => canStart (s.wr page F.HDR_PAGE_STAT_STOPPED 0) (page - 0x0B0)
  | _ => s.wr page F.HDR_PAGE_STAT_STOPPED 0

/-- ENABLE changed: lanes (R114), ports (R162), CAN channels (R404) follow. -/
def enableChange (s : State) (page : Nat) : State :=
  let on := s.enabled page
  match pageType page with
  | some .lane => if on then laneStart s (page - 0x008) else laneOff s (page - 0x008)
  | some .swport => if on then s else flushFull s (page - 0x011)
  | some .can => canFresh s (page - 0x0B0)
  | _ => s

/-- PAGE_CTRL was written. -/
def ctrlWritten (old s : State) (page : Nat) : State :=
  let stop := s.on page F.HDR_PAGE_CTRL_STOP
  let s := if old.on page F.HDR_PAGE_CTRL_STOP && !stop && pageStops page then resume s page else s
  let s := if old.enabled page != s.enabled page then enableChange s page else s
  let s := blockStop s page
  if 0x088 ≤ page ∧ page ≤ 0x08F then settleEdges (edgesSync (judgeZones (slotRefresh s (page - 0x088))) (2 * s.now)) else s

/-! ## What the blocks do with a write -/

/-- Clear every CNT_ register of a page below its CNT_CLEAR: the read-only counters. -/
def cntClear (s : State) (page off : Nat) : State :=
  let lo := if page = P.time then 0x100 else if 0x088 ≤ page ∧ page ≤ 0x08F then 0x0C0 else 0x080
  (pageFields page).foldl (fun t f => if f.acc == .ro && decide (lo ≤ f.off ∧ f.off < off) then t.wr page f 0 else t) s

/-- The header's registers. -/
def effHdr (old s : State) (page off word : Nat) : State :=
  if off = 0x008 then ctrlWritten old s page
  else if off = 0x014 then maskRise old s page
  else if off = 0x018 then s.each (min 32 (evMap page).2) fun t k => raiseIf t (bitOf word k) page k
  else if off = 0x020 then
    if bitOf word 31 then s.zero page [F.HDR_ERR_CAPT0_MULTI, F.HDR_ERR_CAPT0_COUNT] else s
  else if off = 0x034 then
    if bitOf word 30 then
      { s with staged := s.staged.filter fun e => e.1.page != page, stagedLate := s.stagedLate.filter fun e => e.1.page != page }
    else s
  else s

/-- A write of RESET_CTRL: key 0x5752 and WARM = 1 request a warm reset (R25). -/
def resetCtrl (s : State) (ini word : Nat) : State :=
  if fbits word F.NODE_RESET_CTRL_KEY = 0x5752 ∧ bitOf word 0 then requestWarm s (if ini = 8 then RC.remote else RC.software)
  else s

/-- NODE. -/
def effNode (s : State) (ini off word : Nat) : State :=
  if off = 0x04C then joinAddress (stateReq s ini (word % 16))
  else if off = 0x050 then resetCtrl s ini word
  else if off = 0x058 then (if bitOf word 31 then s.wr P.node F.NODE_WRITE_REJECT0_MULTI 0 else s)
  else s

/-- EVENT: claim completion and software events. -/
def effEvent (s : State) (page off word : Nat) : State :=
  if page ≠ P.ev3 then s
  else if 0x044 ≤ off ∧ off ≤ 0x064 ∧ off % 8 = 4 then routerComplete s ((off - 0x044) / 8) (word % 512)
  else if off = 0x074 then swevSet s (word % 2 ^ 24)
  else s

/-- TIME. -/
def effTime (s : State) (ini off word : Nat) : State :=
  if off = 0x068 then
    -- a core declares only for itself (R514)
    if ini ≤ 3 ∧ bitOf word ini then coreDone s (2 ^ ini) else s
  else if off = 0x0D4 then
    if bitOf word 0 then
      issueCmd s (s.rd P.time F.TIME_CMD_CODE_CODE) (s.rd64 P.time F.TIME_CMD_EFF_LO_E F.TIME_CMD_EFF_HI_E)
        (s.rd64 P.time F.TIME_CMD_ARG_LO_ARG F.TIME_CMD_ARG_HI_ARG)
    else s
  else if off = 0x0F0 then judgeRanges s fun f => f == F.TIME_EXT_CFG_EXT_SLEW
  else if off = 0x060 then judgeRanges s fun f => f == F.TIME_TICK_START_LEN_CFG
  else if off = 0x0DC then issueCmd s 1 (s.tick + 1 + s.rd P.time F.TIME_CMD_LEAD_LEAD) (word % 4)
  else if off = 0x128 ∧ bitOf word 0 then cntClear s P.time off
  else s

/-- SWPORT: shaper parameters. -/
def effPort (s : State) (p off : Nat) : State :=
  if p < 8 ∧ 0x0A0 ≤ off ∧ off < 0x0E0 ∧ off % 16 ≠ 12 then shaperWritten s p ((off - 0x0A0) / 16) else s

/-- TXN; EVOUT may have to wait, and so stands apart. -/
def effTxn (s : State) (off word : Nat) : State :=
  if off = 0x0BC ∧ bitOf word 0 then orphPop s
  else s

/-- QUEUE: a limit, a command. -/
def effQueue (s : State) (page ini off word : Nat) : State :=
  let q := 16 * (page - 0x040) + (off - 0x100) / 0x40
  if off < 0x100 then s
  else if off % 0x40 = 0x04 then judgeOvercommit (sharedMin s)
  else if off % 0x40 = 0x14 then queueCommand s q ini (qOpOf (word / 2 ^ 28 % 16) (word % 2))
  else s

/-- SESSION, sending side. -/
def effSesTx (s : State) (ini off word : Nat) : State :=
  if off = 0x044 then pushMsg s ini (word / 2 ^ 24 % 256) (word % 4096)
  else if off = 0x094 then
    let k := s.rd P.sestx F.SESTX_SES_SEL_SESSION
    let en := bitOf word 31
    if en == (s.tx F.SESTX_SES_CFG_EN k == 1) then s else if en then sesDone (sesEnable s k) else sesDisable s k
  else s

/-- SESSION, receiving side. -/
def effSesRx (s : State) (off word : Nat) : State :=
  if off = 0x044 then
    let r := s.rd P.sesrx F.SESRX_RSES_SEL_SESSION
    let en := bitOf word 31
    if en == (s.rx F.SESRX_RSES_CFG_EN r == 1) then s else if en then rsesEnable s r else rsesDisable s r
  else s

/-- TRACK (R282, R288, R292): a write of TRK_CFG, SUB_MAP, SCALE, OFFSET, LOOP_LEN or ENC_DELAY starts the slot anew. -/
def effTrack (s : State) (k off word : Nat) : State :=
  if (0x040 ≤ off ∧ off ≤ 0x058) ∨ off = 0x068 then
    judgeZones (edgesReconfigured (trkConfigured s k (off == 0x044)) k)
  else if off = 0x070 then (if bitOf word 0 then trkReclaim s k else s)
  else if off = 0x0A4 then trkEval s k
  else if off = 0x0E0 ∧ bitOf word 0 then cntClear s (P.track k) off
  else s

/-- DRIFT. -/
def effDrift (s : State) (ini off word : Nat) : State :=
  if off = 0x06C then driftOp s (iniIdx ini) (word / 2 ^ 28 % 16) (word / 2 ^ 20 % 4) (word % 2 ^ 14) else s

/-- EDGE. -/
def effEdge (s : State) (off word : Nat) : State :=
  if off = 0x048 then entSelect s (word % 1024)
  else if off = 0x060 then entCommand s (word / 2 ^ 28 % 16) (2 * s.now)
  else if off = 0x0A8 ∧ bitOf word 0 then cntClear s P.edge off
  else s

/-- FIELD (R352, R359, R361, R365, R366). -/
def effField (s : State) (page off word : Nat) : State :=
  let c := 8 * (page - 0x0A0) + (off - 0x100) / 0x20
  if off < 0x100 then s
  else if off % 0x20 = 0 then chModeWrite s c (word / 2 ^ 28 % 16)
  else if off % 0x20 = 4 then
    let s := if bitOf word 31 then chRelease s c else s
    let s := if bitOf word 30 then safeTrigger s [c] 7 else s
    if bitOf word 1 then wurqStart s c else s
  else if off % 0x20 = 8 then (if bitOf word 3 then chTripClear s c else s)
  else s

/-- CAN. -/
def effCan (s : State) (c off word : Nat) : State :=
  if off = 0x060 then (if bitOf word 0 then canRecover s c else s)
  else if off = 0x080 then s.each 32 fun t m => if bitOf word m then canCancel t c m else t
  else if off = 0x100 then canSel s c (word % 32)
  else if off = 0x104 then canCmd s c (word / 2 ^ 28 % 16)
  else s

/-- PIO. -/
def effPio (s : State) (e off word : Nat) : State :=
  if off = 0x05C then pioOutqW s e word
  else if off = 0x074 then pioForce s e (word / 16 % 16)
  else if off = 0x078 then pioCmd s e (word / 2 ^ 28 % 16)
  else s

/-- ETH. -/
def effEth (s : State) (m ini off word : Nat) : State :=
  if off = 0x06C then asOffHi s m word
  else if off = 0x07C then ethSend s m (iniIdx ini) (bitOf word 31) (word % 4096)
  else s

/-- The level of HOST_IRQ_N (R448): low while any bit of TO_HOST is set. -/
def hostIrqN (s : State) : Bool := s.rd P.host F.HOSTPORT_DOORBELL_TO_HOST == 0

/-- HOSTPORT: doorbells. -/
def effHost (s : State) (off word : Nat) : State :=
  if off = 0x044 then
    let was := s.rd P.host F.HOSTPORT_DOORBELL_TO_HUB
    let s := (s.orb P.host F.HOSTPORT_DOORBELL_TO_HOST (word / 2 ^ 16 % 2 ^ 16)).orb P.host F.HOSTPORT_DOORBELL_TO_HUB (word % 2 ^ 16)
    raiseIf s (andNot (word % 2 ^ 16) was != 0) P.host 0
  else if off = 0x048 then
    let s := s.wr P.host F.HOSTPORT_DOORBELL_TO_HOST (andNot (s.rd P.host F.HOSTPORT_DOORBELL_TO_HOST) (word / 2 ^ 16 % 2 ^ 16))
    s.wr P.host F.HOSTPORT_DOORBELL_TO_HUB (andNot (s.rd P.host F.HOSTPORT_DOORBELL_TO_HUB) (word % 2 ^ 16))
  else s

/-- POWER (R462, R468). -/
def effPower (s : State) (off word : Nat) : State :=
  if off = 0x0A0 then
    let s := if bitOf word 1 then curveApply s mainCtl else s
    if bitOf word 0 then afterPower (latchClear s mainCtl) else s
  else s

/-- BRANCH (R462, R468, R469): each write of ON is a command; where a branch may not be switched on, ON = 1 that stands stays. -/
def effBranch (s : State) (b off word : Nat) : State :=
  if off = 0x0A0 then
    let s := if bitOf word 2 then curveApply s b else s
    let s := if bitOf word 1 then latchClear s b else s
    if !bitOf word 0 then branchOff s b
    else if brOn s b && !branchAllowed s then s
    else branchOn s b
  else s

/-- PD: enabling, and commands. -/
def effPd (s : State) (p off word : Nat) : State :=
  if off = 0x040 then (if p = 1 then supplyJudge s else tapJudge s)
  else if off = 0x070 then pdCmd s p (word / 2 ^ 28 % 16)
  else s

/-- USBDEV. -/
def effUsb (s : State) (off word : Nat) : State :=
  if off = 0x040 then usbConnect s
  else if 0x100 ≤ off ∧ off < 0x190 ∧ off % 16 = 8 ∧ bitOf word 31 then epArm s ((off - 0x100) / 16)
  else s

/-- CORES. -/
def effCores (s : State) (ini off word : Nat) : State :=
  if off = 0x040 then hartEn s (word % 16)
  else if 0x080 ≤ off ∧ off < 0x0A8 then mtipFollow s ((off - 0x080) / 8)
  else if off = 0x0B0 ∨ off = 0x0C0 then wdtsFollow s
  else if off = 0x0B4 then fwdtKick s ini (word / 2 ^ 16 % 2 ^ 16) (word % 16)
  else if off = 0x0C4 then mwdtKick s ini (word / 2 ^ 16 % 2 ^ 16)
  else s

/-- MGMT. The RTC counts in AO: a write sets its seconds. -/
def effMgmt (s : State) (ini off word : Nat) : State :=
  if off = 0x040 then pwrCtrl s (word % 8)
  else if off = 0x04C then (if bitOf word 0 then bootGood s (word / 2 ^ 16 % 2 ^ 16) else s)
  else if off = 0x054 then (if bitOf word 0 then dawnReq s ini (word / 2 ^ 16 % 2 ^ 16) else s)
  else if off = 0x060 then { s with ao := { s.ao with rtc := s.ao.rtc / 2 ^ 32 * 2 ^ 32 + word % 2 ^ 32 } }
  else if off = 0x064 then { s with ao := { s.ao with rtc := s.ao.rtc % 2 ^ 32 + word % 2 ^ 32 * 2 ^ 32 } }
  else if off = 0x078 then bbCtrl s (word / 2 ^ 28 % 16) (word % 2 ^ 16)
  else s

/-- LOG. -/
def effLog (s : State) (ini off word : Nat) : State :=
  if off = 0x048 then logAppend s (iniIdx ini) word
  else if off = 0x054 ∧ bitOf word 0 then logExport s
  else s

/-- UPDATE. -/
def effUpdate (s : State) (ini off word : Nat) : State :=
  if off = 0x044 then
    let op := word / 2 ^ 28 % 16
    if op = 1 then stageApply s else if op = 2 then unstage s 1 else s
  else if off = 0x05C then (if bitOf word 0 then actGo s else s)
  else if off = 0x068 then actBit s F.UPDATE_EXPORT_DONE_D ini word
  else if off = 0x06C then actBit s F.UPDATE_READY_R ini word
  else s

/-- SECURITY. -/
def effSec (s : State) (ini off word : Nat) : State :=
  if off = 0x140 then (if bitOf word 0 then unlockGo s else s)
  else if off = 0x170 then otpCmd s (word / 2 ^ 28 % 16) (word % 4)
  else if off = 0x17C then vfyCmd s ini (word % 16)
  else s

/-- ECLIPSE. -/
def effEcl (s : State) (off word : Nat) : State :=
  if off = 0x054 then eclCtrl s (word % 8)
  else if off = 0x090 ∧ bitOf word 0 then cntClear s P.ecl off
  else s

/-- What the block does with an accepted write, after its fields have been stored. -/
def writeEffect (old s : State) (who : By) (page off word : Nat) : State :=
  if off < 0x040 then effHdr old s page off word
  else match pageType page with
    | none => s
    | some t => match t with
      | .node => effNode s who.ini off word
      | .event => effEvent s page off word
      | .time => effTime s who.ini off word
      | .halo => if off = 0x0A4 ∧ bitOf word 0 then cntClear s page off else s
      | .switch => if off = 0x08C ∧ bitOf word 0 then cntClear s page off else s
      | .swport => effPort s (page - 0x011) off
      | .cellpool => if off = 0x040 then judgeOvercommit s else s
      | .publish =>
        if off = 0x044 then readyWrite s word
        else if off = 0x048 then readyWrite s (word % 2 ^ 32 * 2 ^ 32)
        else if off = 0x090 ∧ bitOf word 0 then cntClear s page off else s
      | .subscribe => if off = 0x09C ∧ bitOf word 0 then cntClear s page off else s
      | .txn => effTxn s off word
      | .gateway => if off = 0x090 ∧ bitOf word 0 then cntClear s page off else s
      | .queue => effQueue s page who.ini off word
      | .session => if page = P.sestx then effSesTx s who.ini off word else effSesRx s off word
      | .track => effTrack s (page - 0x088) off word
      | .drift => effDrift s who.ini off word
      | .zones =>
        let k := (off - 0x100) / 0x80
        if off < 0x100 then s else (judgeZone s k).when (off % 0x80 == 0) fun t => judgeLead t k
      | .edge => effEdge s off word
      | .capture => if off = 0x088 ∧ bitOf word 0 then cntClear s page off else s
      | .field => effField s page off word
      | .can => effCan s (page - 0x0B0) off word
      | .uart =>
        if 0x100 ≤ off ∧ off < 0x300 ∧ off % 0x80 = 0x18 then
          uartSend s (4 * (page - 0x0B8) + (off - 0x100) / 0x80) (bitOf word 31) (word % 4096)
        else s
      | .pio => effPio s (page - 0x0C0) off word
      | .eth => effEth s (page - 0x0E0) who.ini off word
      | .hostport => effHost s off word
      | .flash => if off = 0x048 then flashCmd s (word / 2 ^ 28 % 16) else s
      | .power => effPower s off word
      | .branch => effBranch s (page - 0x0F1) off word
      | .pd => effPd s (page - 0x100) off word
      | .usbdev => effUsb s off word
      | .cores => effCores s who.ini off word
      | .mgmt => effMgmt s who.ini off word
      | .log => effLog s who.ini off word
      | .update => effUpdate s who.ini off word
      | .security => effSec s who.ini off word
      | .eclipse => effEcl s off word
      | .lane | .xfer | .encoder | .fdie | .adc | .pinmux | .sensors => s

/-- What has to happen before the fields change: credits up to now count under the old shaper enables and meter rates (R172, R174),
and an open
capture cell goes to the queue that it was opened in (R345). -/
def beforeWrite (s : State) (page off word : Nat) : State :=
  if 0x011 ≤ page ∧ page ≤ 0x018 ∧ off = 0x090 then
    shaperEnable s (page - 0x011) (fbits word F.SWPORT_SHAPER_CFG_EN)
  else if ((0x015 ≤ page ∧ page ≤ 0x018) ∨ page = 0x01D) ∧ 0x0F4 ≤ off ∧ off < 0x10C then meterTo s (page - 0x011)
  else if page = P.capt ∧ 0x100 ≤ off ∧ off < 0x300 ∧ off % 32 = 0 then
    let u := (off - 0x100) / 32
    if fbits word (F.CAPTURE_CAP_CFG_QUEUE u) = s.cap F.CAPTURE_CAP_CFG_QUEUE u then s else closeCell s u
  else s

/-! ## The write -/

/-- In ECLIPSE only JTAG reaches the node's registers, and only the ECLIPSE page and RESET_CTRL take a write (R71, R28). -/
def eclipseOpen (who : By) (page off : Nat) : Bool := who.ini == 7 && (page == P.ecl || (page == P.node && off == 0x050))

/-- The register exists at the offset: some field of it that the page's instance has (R29). -/
def registerAt (page off : Nat) : Bool := (regFields page off).any fun f => !absentField page f

/-- An accepted write takes effect. -/
def applyWrite (s : State) (who : By) (page off word : Nat) : State :=
  let s := beforeWrite s page off word
  let t := bindQueues s (storeWord s who page off word) who page off
  writeEffect s t who page off word

/-- A write in ECLIPSE that R71 lets through. DEDUCED (log 93): the page's lock and its arms hold for it as elsewhere (R45, R46);
a refusal is not recorded, since the recording logic stands still. -/
def eclipseWrite (s : State) (who : By) (page off word : Nat) : State :=
  let armed := armedFor s who page
  let s := dropArms s page
  if off = 0x038 then (if word % 2 ^ 32 = 0x1F3C0000 + page then arm s who page else s)
  else if s.on page F.HDR_PAGE_CTRL_LOCK && !(armed && off == 0x008) then s
  else applyWrite s who page off word

/-- A write that passes: EVOUT may find no tag, and then waits (BUSY, R211). -/
def acceptedWrite (s : State) (who : By) (page off word : Nat) : Nat × State :=
  if off = 0x038 then (TS.ok, arm s who page)
  else if page = P.txn ∧ off = 0x058 then
    let r := evout s who.ini (word / 2 ^ 20 % 4096) (word / 2 ^ 16 % 16) (word % 2 ^ 16)
    (if r.1 then TS.ok else TS.busy, r.2)
  else (TS.ok, applyWrite s who page off word)

/-- A write of `word` to the register at `off` of a page, by `who`: what it answers (R210) and the state after it. A page that
the map reserves faults (R11), and so answers a remote writer ADDR_ERR (R207). No access crosses a stitch link that is down (R7).
A TAP that is not open offers JTAG no other page than SECURITY (R541); in ECLIPSE R71 says what JTAG reaches (log 120). An offset at
which no register is defined takes nothing and rejects nothing (R29). -/
def busWrite (s : State) (who : By) (page off word : Nat) : Nat × State :=
  if !s.node.rails || s.node.rstLow || s.node.inReset then (TS.ok, s)
  else if s.st = NS.eclipse then (TS.ok, if eclipseOpen who page off then eclipseWrite s who page off word else s)
  else if tapShut s who page then (TS.ok, s)
  else if (pageRow page).isNone then
    (TS.addrErr, if who.ini = 8 then s else s.accFault who.ini (0x40000000 + page * 0x1000 + off))
  else if (((pageRow page).map (·.fieldDie)).getD false) && s.stitch.down then (TS.ok, s)
  else
    let armed := armedFor s who page
    let s := dropArms s page
    if !registerAt page off then (TS.ok, s)
    else match writeRefusal s who page off word armed with
    | some (c, k) => (TS.rejected, refusedIf c (reject s who page off c k) page off word)
    | none => acceptedWrite s who page off word
where
  /-- The further effects of a refusal with cause CLASS. -/
  refusedIf (c : Nat) (s : State) (page off word : Nat) : State :=
    if c = WC.clas then refusedExtra s page off word else s

/-- The state after a write. -/
def busStore (s : State) (who : By) (page off word : Nat) : State := (busWrite s who page off word).2

/-- A read: its word and the state after it; a reserved page faults (R11). -/
def busRead (s : State) (who : By) (page off : Nat) : Nat × State :=
  if !s.node.rails || s.node.rstLow || s.node.inReset || (s.st != NS.eclipse && tapShut s who page) then s.draw 32
  else if (pageRow page).isNone then
    let d := s.draw 32
    (d.1, d.2.accFault who.ini (0x40000000 + page * 0x1000 + off))
  else if s.st = NS.eclipse then regPeek s who page off
  else regRead s who page off

end Sys2Proof.Machine
end

