-- ==== Sys2Proof/Machine/Local.lean ====
section
/-!
DEFINITION. Accesses of the local initiators to the core physical map (01_architecture.md, R11, R16 to R19), and the contents
of a node's window as an access through the ring finds them (08_transactions_and_bridging.md, R206, R207).
-/

namespace Sys2Proof.Machine

/-! ## Register pages, word by word -/

/-- A flit of an access to a field-die page arrives there (R8, R9). -/
def fieldFlit (s : State) (page : Nat) : State := if onFieldDie page && !s.stitch.down then flitArrives s s.now else s

/-- Read `n` words of register pages from page address `a` (page number × 0x1000 + offset) up. -/
def readWords (s : State) (who : By) (a : Nat) : Nat → List Nat × State
  | 0 => ([], s)
  | n + 1 =>
    let r := busRead (fieldFlit s (a / 0x1000)) who (a / 0x1000) (a % 0x1000 / 4 * 4)
    let q := readWords r.2 who (a + 4) n
    (leBytes 4 r.1 ++ q.1, q.2)

/-- The words of a list of bytes with their page addresses. -/
def wordsAt (a : Nat) (b : List Nat) : List (Nat × Nat) :=
  (List.range (ceilDiv b.length 4)).map fun k => (a + 4 * k, leVal (slice b (4 * k) 4))

/-- Write words to register pages. The hub judges per register (R40): a local write goes on past a register that refuses it, and
its status is the first that is not OK. Of a transaction a register that would refuse is written alone, and leaves everything
else undone: one answered REJECTED has changed nothing (R210). Neither does a write that waits (R211). -/
def writeWords (s : State) (who : By) (l : List (Nat × Nat)) : Nat × State :=
  let one := fun (t : State) (e : Nat × Nat) =>
    busWrite (fieldFlit t (e.1 / 0x1000)) who (e.1 / 0x1000) (e.1 % 0x1000 / 4 * 4) e.2
  match l.find? fun e => (one s e).1 != TS.ok && (who.ini == 8 || (one s e).1 == TS.busy) with
  | some e => one s e
  | none => l.foldl (fun a e =>
      let r := one a.2 e
      (if a.1 = TS.ok then r.1 else a.1, r.2)) (TS.ok, s)

/-- Every page that `n` bytes from page address `a` on lie in is listed in the page map. -/
def pageListed (a n : Nat) : Bool := (pageRow (a / 0x1000)).isSome && (pageRow ((a + (n - 1)) / 0x1000)).isSome

/-- Writes of an initiator to field-die pages leave over the stitch link (R9): page addresses with their words. -/
def stitchPost (s : State) (ini : Nat) (l : List (Nat × Nat)) : State :=
  let s := l.foldl (fun t e => flitOut t (leBytes 4 e.1 ++ leBytes 4 e.2)) s
  { s with stitch := { s.stitch with
    access := s.stitch.access ++ l.map fun e => (ini, e.1 / 0x1000, e.1 % 0x1000, some e.2) } }

/-! ## Memories -/

/-- Bytes that the spec does not let a program know: free values. -/
def openBytes (s : State) : Nat → List Nat × State
  | 0 => ([], s)
  | n + 1 =>
    let d := s.draw 8
    let r := openBytes d.2 n
    (d.1 :: r.1, r.2)

/-- A read in the cell pool debug view from offset `x` on: bytes of items that queues keep (R245), and free values elsewhere. -/
def cellRead (s : State) (x : Nat) : Nat → List Nat × State
  | 0 => ([], s)
  | n + 1 =>
    let b := match (cellData s (x / 256)).bind fun l => l[x % 256]? with
      | some v => (v, s)
      | none => s.draw 8
    let r := cellRead b.2 (x + 1) n
    (b.1 :: r.1, r.2)

/-- Bytes of the item store from offset `x` on. -/
def storeBytes (s : State) (x n : Nat) : List Nat :=
  (List.range n).map fun k => (Rec.bytes (recAt s ((x + k) / 128))).getD ((x + k) % 128) 0

/-- A raw write of item store bytes, word by word (R18). -/
def storeRaw (s : State) (x : Nat) (b : List Nat) : State :=
  (List.range b.length).foldl (fun t k =>
    let slot := (x + k) / 128
    let r := recAt t slot
    let w := (x + k) % 128 / 4
    let sh := 2 ^ (8 * ((x + k) % 4))
    let v := r.word w
    { t with drift := { t.drift with
      recs := t.drift.recs.put [] slot (r.setWord w (v - v / sh % 256 * sh + b.getD k 0 % 256 * sh)) } }) s

/-- The parts of a window (R206). -/
inductive WinPart where
  | pages | items | views | transmit | reserved
  deriving DecidableEq, Repr

/-- The part that an offset lies in. -/
def winPartOf (off : Nat) : WinPart :=
  if off < 0x400000 then .pages
  else if off < 0x600000 then .items
  else if 0x800000 ≤ off ∧ off < 0x820000 then .views
  else if 0x820000 ≤ off ∧ off < 0x824000 then .transmit
  else .reserved

/-- The part that an access of `n` bytes lies in; one that leaves it reaches what is reserved, or another part, and has none. -/
def winPart (off n : Nat) : WinPart := if winPartOf off = winPartOf (off + (n - 1)) then winPartOf off else .reserved

/-- The regions of the core physical map. -/
inductive Region where
  | rom | bank | data | cells | items | pages | flash | window (dst off : Nat) | none
  deriving DecidableEq, Repr

/-- The region of an address (01_architecture.md, Address maps). -/
def regionOf (a : Nat) : Region :=
  if a < 0x20000 then .rom
  else if 0x10000000 ≤ a ∧ a < 0x10200000 then .bank
  else if 0x10200000 ≤ a ∧ a < 0x10400000 then .data
  else if 0x20000000 ≤ a ∧ a < 0x20600000 then .cells
  else if 0x30000000 ≤ a ∧ a < 0x30200000 then .items
  else if 0x40000000 ≤ a ∧ a < 0x40400000 then .pages
  else if 0x50000000 ≤ a ∧ a < 0x60000000 then .flash
  else match winOf a with
    | some (d, o) => .window d o
    | none => .none

/-! ## Inside a window (R206, R207) -/

/-- Two addresses lie in one region, or in one window. -/
def sameRegion (a b : Nat) : Bool :=
  match regionOf a, regionOf b with
  | .window d _, .window e _ => d == e
  | r, q => r == q

/-- How many of the `n` bytes from `a` on lie in the region of `a`. -/
def regionSpan (a n : Nat) : Nat := ((List.range n).takeWhile fun k => sameRegion a (a + k)).length

/-- Every byte of an access is mapped (R11). -/
def spanMapped (a n : Nat) : Bool := regionOf a != .none && regionOf (a + (n - 1)) != .none

/-- A page with SIDEFX = 1 at a page address (R33). -/
def sidefxPage (a : Nat) : Bool := ((pageRow (a / 0x1000)).map (·.sidefx)).getD false

/-- A read of `n` bytes at an offset of this node's window: STATUS and data. `block` is RDBLK. -/
def windowRead (s : State) (who : By) (off n : Nat) (block : Bool) : Nat × List Nat × State :=
  match winPart off n with
  | .pages =>
    if !pageListed off n then (TS.addrErr, [], s)
    else if block && sidefxPage off then (TS.unsupported, [], s)
    else
      let r := readWords s who off (ceilDiv n 4)
      (TS.ok, r.1.take n, r.2)
  | .items => (TS.ok, storeBytes s (off - 0x400000) n, s)
  | .views => (TS.ok, (List.range n).map fun k => s.imageAt (off - 0x800000 + k), s)
  | .transmit =>
    (TS.ok, (List.range n).map fun k => (s.pub.bufs.at [] ((off - 0x820000 + k) / 0x100)).getD ((off + k) % 0x100) 0, s)
  | .reserved => (TS.addrErr, [], s)

/-- A write at an offset of this node's window: STATUS. `block` is WRBLK. -/
def windowWrite (s : State) (who : By) (off : Nat) (b : List Nat) (block : Bool) : Nat × State :=
  match winPart off b.length with
  | .pages =>
    if !pageListed off b.length then (TS.addrErr, s)
    else if block && sidefxPage off then (TS.unsupported, s)
    else writeWords s who (wordsAt off b)
  | .items | .views | .transmit => (TS.readOnly, s)
  | .reserved => (TS.addrErr, s)

/-- The value that an atomic writes, none where it writes nothing: `k` 0 AND, 1 OR, 2 ADD, 3 CAS, on `n` bytes (R209). -/
def atomicNew (k n old a b : Nat) : Option Nat :=
  match k with
  | 0 => some (old &&& a)
  | 1 => some (old ||| a)
  | 2 => some ((old + a) % 2 ^ (8 * n))
  | _ => if old = a % 2 ^ (8 * n) then some b else none

/-- An atomic at an offset of this node's window (R207, R209): STATUS and the old value, which a rejected write part leaves as it
is. -/
def windowAtomic (s : State) (who : By) (off k n : Nat) (pay : List Nat) : Nat × List Nat × State :=
  match winPart off n with
  | .pages =>
    if !pageListed off n then (TS.addrErr, [], s)
    else if sidefxPage off then (TS.unsupported, [], s)
    else
      let r := readWords s who off (n / 4)
      match atomicNew k n (leVal r.1) (leVal (slice pay 0 n)) (leVal (slice pay n n)) with
      | none => (TS.ok, r.1, r.2)
      | some v =>
        let w := writeWords r.2 who (wordsAt off (leBytes n v))
        (w.1, r.1, w.2)
  | .items | .views | .transmit => (TS.readOnly, [], s)
  | .reserved => (TS.addrErr, [], s)

/-! ## Accesses of the host port and the transfer engine -/

/-- The flash serves an XIP read now: the domain is on, and no operation runs, or the controller suspends it (R442). -/
def flashServes (s : State) : Bool :=
  domOn s 7 && (s.ports.flash.isNone || (s.on P.flash F.FLASH_FL_CFG_SUSPEND && Config.flashSuspends))

/-- The address lies in this node's own window (R19). -/
def ownWindow (s : State) (a : Nat) : Option Nat :=
  match winOf a with
  | some (d, o) => if isOwn s d then some o else none
  | none => none

/-- The page address, on the field die, of an address in this node: through the register pages, or through the window of the
node's own address, which is served here (R9, R19). -/
def fieldAddr (s : State) (a : Nat) : Option Nat :=
  let x := match ownWindow s a with
    | some o => o
    | none => if regionOf a = .pages then a - 0x40000000 else 0x400000
  if x < 0x400000 ∧ onFieldDie (x / 0x1000) = true then some x else none

/-- Address of a field-die page that an initiator reaches over the stitch link (R9). -/
def hostField (s : State) (a : Nat) : Bool := (fieldAddr s a).isSome

/-- A local read of `n` bytes within one region: STATUS (ADDR_ERR stands for the access fault of R11) and data. -/
def regionRead (s : State) (who : By) (a n : Nat) : Nat × List Nat × State :=
  match regionOf a with
  | .rom => let r := openBytes s n; (TS.ok, r.1, r.2)
  | .cells => let r := cellRead s (a - 0x20000000) n; (TS.ok, r.1, r.2)
  | .bank => (TS.ok, (List.range n).map fun k => (s.memAt (bankPhys s (a + k))).toNat, s)
  | .data | .flash => (TS.ok, s.memRead a n, s)
  | .items => (TS.ok, storeBytes s (a - 0x30000000) n, s)
  | .pages =>
    if !pageListed (a - 0x40000000) n then (TS.addrErr, [], s)
    else let r := readWords s who (a - 0x40000000) (ceilDiv n 4); (TS.ok, r.1.take n, r.2)
  | .window _ off => windowRead s who off n (decide (n ≠ 4 ∧ n ≠ 8))
  | .none => (TS.addrErr, [], s)

/-- A local read of `n` bytes, region by region: it faults where one of them is not mapped (R11). -/
def localRead (s : State) (who : By) (a n : Nat) : Nat × List Nat × State :=
  let k := regionSpan a n
  if !spanMapped a n then (TS.addrErr, [], s)
  else
    let r := regionRead s who a k
    if n ≤ k ∨ r.1 ≠ TS.ok then r
    else
      let q := regionRead r.2.2 who (a + k) (n - k)
      (q.1, if q.1 = TS.ok then r.2.1 ++ q.2.1 else [], q.2.2)

/-- A local write within one region: STATUS. Read-only regions and the image area refuse it (R18, R192, R193). -/
def regionWrite (s : State) (who : By) (a : Nat) (b : List Nat) : Nat × State :=
  match regionOf a with
  | .rom | .cells | .flash => (TS.addrErr, s)
  | .bank =>
    let s := s.memWrite (bankPhys s a) b
    (TS.ok, if inactiveBank a then unstage s 11 else s)
  | .data =>
    if (List.range b.length).any fun k => (s.imageOff (a + k)).isSome then (TS.addrErr, s) else (TS.ok, s.memWrite a b)
  | .items =>
    if s.isIn [NS.maint, NS.commission] then (TS.ok, storeRaw s (a - 0x30000000) b) else (TS.addrErr, s)
  | .pages =>
    if !pageListed (a - 0x40000000) b.length then (TS.addrErr, s) else writeWords s who (wordsAt (a - 0x40000000) b)
  | .window _ off => windowWrite s who off b (decide (b.length ≠ 4 ∧ b.length ≠ 8))
  | .none => (TS.addrErr, s)

/-- A local write, region by region: one of whose bytes are not all mapped, or whose first part is refused, has no effect beyond
(R11). -/
def localWrite (s : State) (who : By) (a : Nat) (b : List Nat) : Nat × State :=
  let k := regionSpan a b.length
  if !spanMapped a b.length then (TS.addrErr, s)
  else
    let r := regionWrite s who a (b.take k)
    if b.length ≤ k ∨ r.1 ≠ TS.ok then r else regionWrite r.2 who (a + k) (b.drop k)

end Sys2Proof.Machine
end

