-- ==== Sys2Proof/Machine/TxnIn.lean ====
section
/-!
DEFINITION. The target side of the transaction engine (08_transactions_and_bridging.md, R207, R208, R218, R220, R222, R224,
R225, R228): stream slots, order, execution, and completions.
-/

namespace Sys2Proof.Machine

/-! ## Requests -/

/-- The request that a TXN_REQ or a class-4 EVENT carries (R209, R227); `ecc` says that its read meets an uncorrectable error. -/
def inReq (f : Frame) (ecc : Bool) : InReq :=
  { src := f.src, init := bitsOf f.w3 20 3, tag := bitsOf f.w3 23 9, ord := bitsOf f.w5 18 8,
    op := if f.typ = 8 then 0xE else bitsOf f.w4 28 4, off := f.w4 % 2 ^ 24, len := bitsOf f.w5 26 6, bytes := f.pay,
    tgtInc := if bitOf f.w3 17 then some (f.w3 % 2 ^ 16) else none, isNew := bitOf f.w3 18, retry := bitOf f.w3 19,
    ecc := ecc, cells := ringCells f }

/-- Bytes that a request reads or returns. -/
def inBytes (r : InReq) : Nat := match r.op with
  | 0 => 4 | 1 => 8 | 2 => 4 * r.len + 4 | 3 | 4 | 5 | 0xE => 0
  | k => if k < 0xA then 4 else 8

/-- Execute a request (R207, R222, R228): STATUS and data. -/
def inExec (s : State) (r : InReq) : Nat × List Nat × State :=
  let who : By := ⟨8, r.src⟩
  if opChanges r.op && r.tgtInc.isSome && r.tgtInc != some s.inc16 then (TS.targetReset, [], s)
  else if r.ecc && (opReads r.op || opAtomic r.op) then (TS.ecc, [], s)
  else match r.op with
    | 0 | 1 | 2 => windowRead s who r.off (inBytes r) (r.op == 2)
    | 3 | 4 | 5 =>
      let w := windowWrite s who r.off (r.bytes.take (opBytes r.op r.len)) (r.op == 5)
      (w.1, [], w.2)
    | 0xE => (TS.ok, [], eventIn s r.src (bitsOf r.off 16 4) (r.off % 2 ^ 16))
    | k => windowAtomic s who r.off (if k < 0xA then k - 6 else k - 0xA) (inBytes r) r.bytes

/-- The request goes to a field-die page while the stitch link is down: it stays held (R7, R9). -/
def inBlocked (s : State) (r : InReq) : Bool :=
  r.op != 0xE && decide (r.off < 0x400000) && ((pageRow (r.off / 0x1000)).map (·.fieldDie)).getD false && s.stitch.down

/-! ## Completions (R209, R225) -/

/-- The completion of a request. -/
def cplFrame (s : State) (r : InReq) (status : Nat) (data : List Nat) : Frame :=
  { typ := 4, cls := 4, dst := r.src, w3 := r.tag * 2 ^ 23 + r.init * 2 ^ 20 + s.inc16,
    w4 := r.op * 2 ^ 28 + status * 2 ^ 24 + r.off, w5 := r.len * 2 ^ 26 + r.ord * 2 ^ 18,
    pay := if status = TS.ok then data else [] }

/-- The completion leaves on ring k of a gateway. -/
def cplSide (s : State) (dst : Nat) : Bool :=
  s.role == 3 && s.rd P.gw F.GATEWAY_GW_CFG_RING_K != 0 && decide (dst / 1024 = s.rd P.gw F.GATEWAY_GW_CFG_RING_K)

/-- The cells of the completion can be reserved (R225). -/
def cplRoom (s : State) (r : InReq) : Bool :=
  (copiesOf s (cplSide s r.src) 0x3FF 0x3FF).all fun c =>
    admits s (outQueue c.1 4) (ringCells (cplFrame s r TS.ok (List.replicate (inBytes r) 0))) == 1

/-- Send a completion, behind the completions that wait already and ahead of what this node's own requests offer (R154, R225). -/
def cplSend (s : State) (r : InReq) (status : Nat) (data : List Nat) : State :=
  let o : Offer := { port := 9, frame := cplFrame s r status data, ringK := cplSide s r.src }
  let own := fun (x : Offer) => sameFlow o x && x.frame.typ == 4
  let held := s.sw.offers
  let w := offerTry { s with sw := { s.sw with offers := held.filter own } } o
  let l := held.takeWhile own
  { w.2.2 with sw := { w.2.2.sw with offers := l ++ (if w.1 then [] else [w.2.1]) ++ held.dropWhile own } }

/-! ## Stream slots (R218, R220) -/

/-- A stream slot's content. -/
def streamAt (s : State) (k : Nat) : Option StreamSlot := s.txn.streams.at none k

/-- Set it. -/
def setStream (s : State) (k : Nat) (x : Option StreamSlot) : State :=
  { s with txn := { s.txn with streams := s.txn.streams.put none k x } }

/-- The incarnation that stands for a requester: what Halo holds for it, plus 1; 0 where it holds none. -/
def srcInc (s : State) (src : Nat) : Nat := s.halo.incs.at 0 src

/-- The slot of the request's stream. A slot opened while Halo held no incarnation of the requester is that of its incarnation:
a new one would have released it (R216, R220). -/
def streamOf (s : State) (r : InReq) : Option Nat :=
  (List.range 32).find? fun k => match streamAt s k with
    | some x => x.src == r.src && (x.inc == 0 || x.inc == srcInc s r.src) && x.init == r.init
    | none => false

/-- The lowest free slot. -/
def streamFree (s : State) : Option Nat := (List.range 32).find? fun k => (streamAt s k).isNone

/-- Answer from the completion cache: it holds 8 bytes of data; what a longer read returned beyond them is open. -/
def answerCached (s : State) (r : InReq) (c : Nat × Nat × List Nat) : State :=
  let s := s.inc P.txn F.TXN_CNT_CACHE_HIT_N
  let d := if c.2.1 = TS.ok then openBytes s (inBytes r - c.2.2.length) else ([], s)
  cplSend d.2 r c.2.1 (c.2.2 ++ d.1)

/-- Execute the request that is next in order, answer it, and keep its completion. One that could not be executed now, since it
writes EVOUT and no tag is free, is answered BUSY and stays the next one (R210, R225). -/
def inRun (s : State) (k : Nat) (x : StreamSlot) (r : InReq) : State :=
  let e := inExec s r
  let s := e.2.2
  let st := e.1
  if st = TS.busy then cplSend (setStream s k (some { x with held := x.held.filter fun h => h.ord != r.ord })) r st []
  else
  let s := s.when (st == TS.ok) (·.inc P.txn F.TXN_CNT_INBOUND_N)
  let s := raiseIf s (decide (1 ≤ st ∧ st ≤ 4)) P.txn 5
  let s := setStream s k (some { x with
    next := some ((r.ord + 1) % 256), held := x.held.filter fun h => h.ord != r.ord,
    cache := ((r.ord, st, e.2.1.take 8) :: x.cache).take 64 })
  cplSend s r st e.2.1

/-- Execute what a slot holds and is next in order, as long as completions find room, in the states that serve requests (R60,
R208). -/
def inDrain : Nat → State → Nat → State
  | 0, s, _ => s
  | fuel + 1, s, k =>
    match streamAt s k with
    | none => s
    | some x =>
      match x.held.find? fun h => x.next == some h.ord with
      | none => s
      | some r =>
        if !s.mayInsert || inBlocked s r || !cplRoom s r then s else inDrain fuel (inRun (heldBack s [r]) k x r) k

/-- One more request of a stream that has a slot (R218). One that is held stays in its cells. -/
def inOrder (s : State) (k : Nat) (x : StreamSlot) (r : InReq) : State :=
  let x := { x with touch := s.ticks, inc := srcInc s r.src, next := if x.next.isNone ∧ r.isNew = true then some r.ord else x.next }
  let s := setStream s k (some x)
  let hold := fun (s : State) =>
    if x.held.any fun h => h.ord == r.ord then s.inc P.txn F.TXN_CNT_DUP_DISCARD_N
    else chargeCells (setStream s k (some { x with held := x.held ++ [r] })) inQueue r.cells r.cells
  match x.next with
  | none => hold s
  | some n =>
    let d := (r.ord + 256 - n) % 256
    if d = 0 then
      if inBlocked s r || !cplRoom s r then hold s else inDrain 256 (inRun s k x r) k
    else if d < 64 then inDrain 256 (hold s) k
    else match x.cache.find? fun c => c.1 == r.ord with
      | some c => answerCached s r c
      | none => s.inc P.txn F.TXN_CNT_DUP_DISCARD_N

/-- An inbound request (R218, R220). -/
def inbound (s : State) (r : InReq) : State :=
  match streamOf s r with
  | some k => match streamAt s k with
    | some x => inOrder s k x r
    | none => s
  | none =>
    match streamFree s with
    | some k =>
      inOrder s k { src := r.src, inc := srcInc s r.src, init := r.init, next := none, held := [], cache := [], touch := s.ticks } r
    | none => cplSend (raise (s.inc P.txn F.TXN_CNT_SLOT_FULL_N) P.txn 6) r TS.busy []

/-- Requests held for want of room are tried again. -/
def inRetry (s : State) : State := s.each 32 fun t k => inDrain 256 t k

/-- A checked request frame with this OP reaches the target: it serves inbound transactions from JOIN on, not in ISOLATE (R60,
R208). -/
def inFrame (s : State) (op : Nat) (f : Frame) (ecc : Bool) : State :=
  let mine := if op = 0xE then f.typ == 8 && f.cls == 4 else f.typ == 3 && bitsOf f.w4 28 4 == op
  if s.alive && s.mayInsert && mine && !f.mc && isOwn s f.dst then inbound (inRetry s) (inReq f ecc) else s

end Sys2Proof.Machine
end

