-- ==== Sys2Proof/Machine/XferOps.lean ====
section
/-!
DEFINITION. The transfer engine (08_transactions_and_bridging.md, R234, R235): descriptors as they are read, their pieces, and
how they move on.
-/

namespace Sys2Proof.Machine

/-! ## Channels (R240) -/

/-- Descriptors in the ring of channel `c`. -/
def descRing (s : State) (c : Nat) : Nat := 2 ^ min 9 (s.rd P.xfer (F.XFER_CH_CFG_LOG2_SIZE c))

/-- Address of descriptor `idx` of channel `c`. -/
def descAddr (s : State) (c idx : Nat) : Nat :=
  s.rd P.xfer (F.XFER_CH_BASE_LO_ADDR c) * 32 + s.rd P.xfer (F.XFER_CH_BASE_HI_ADDR c) * 2 ^ 32 + 32 * idx

/-- Descriptors in flight across all channels. -/
def descsTotal (s : State) : Nat := (List.range 8).foldl (fun a c => a + (descsOf s c).length) 0

/-- Bytes of the request payload of an atomic, and of its old value (R209). -/
def atomicSize (op : Nat) : Nat := if op < 0xA then 4 else 8
def atomicPay (op : Nat) : Nat := if op = 9 ∨ op = 0xD then 2 * atomicSize op else atomicSize op

/-- Code of a malformed descriptor (R234). -/
def TS.badDesc : Nat := 11

/-- The node of a remote window; none for a local address. -/
def remoteOf (s : State) (a : Nat) : Option (Nat × Nat) :=
  match winOf a with
  | some (d, o) => if isOwn s d then none else some (d, o)
  | none => none

/-- The descriptor that 32 bytes spell (R234). A malformed one comes to its end at once with BAD_DESC: an atomic's payload lies at
a local address, and its destination in a window. -/
def parseDesc (s : State) (idx : Nat) (b : List Nat) : XferDesc :=
  let w := leVal (slice b 0 4)
  let op := bitsOf w 28 4
  let src := leVal (slice b 4 5)
  let dst := leVal (slice b 12 5)
  let len := if op = 0 then w % 2 ^ 24 else atomicSize op
  let bad :=
    if op = 0 then len == 0 || len % 4 != 0 || src % 4 != 0 || dst % 4 != 0
    else !opAtomic op || (winOf dst).isNone || (remoteOf s src).isSome
  { idx := idx, op := op, irq := bitOf w 26, evt := bitOf w 25, k := bitsOf (leVal (slice b 20 4)) 16 4,
    value := leVal (slice b 20 2), src := src, dst := dst, len := len, next := if bad then len else 0,
    status := if bad then TS.badDesc else 0 }

/-- FENCE of a descriptor. -/
def descFence (b : List Nat) : Bool := bitOf (leVal (slice b 0 4)) 27

/-! ## Pieces (R235) -/

/-- Bytes from `a` to the next 4 KiB boundary. -/
def toBoundary (a : Nat) : Nat := 0x1000 - a % 0x1000

/-- Length of the piece at offset `o` of a COPY. -/
def pieceLen (d : XferDesc) (o : Nat) : Nat :=
  min (min 256 (d.len - o)) (min (toBoundary (d.src + o)) (toBoundary (d.dst + o)))

/-- OP of a read, or of a write, of `n` bytes at offset `o` (R209). -/
def readOp (n o : Nat) : Nat := if n = 4 then 0 else if n = 8 ∧ o % 8 = 0 then 1 else 2
def writeOp (n o : Nat) : Nat := if n = 4 then 3 else if n = 8 ∧ o % 8 = 0 then 4 else 5

/-- Who the engine is at a register page (initiator code 5). -/
def byXfer : By := ⟨5, 0⟩

/-- A failure of a descriptor: the first status other than OK stays. -/
def XferDesc.fail (d : XferDesc) (st : Nat) : XferDesc := { d with status := if d.status = 0 then st else d.status }

/-- Page and offset of a register on the field die that an address reaches in this node (R9). -/
def fieldPageOf (s : State) (a : Nat) : Option (Nat × Nat) := (fieldAddr s a).map fun x => (x / 0x1000, x % 0x1000)

/-- What the engine takes for done: a write that a register rejects is ignored without a bus error (R43). -/
def localDone (st : Nat) : Bool := st == TS.ok || st == TS.rejected

/-- The access across the stitch link that a descriptor does next: page, offset, and whether it writes (R9). -/
def xferStitch (s : State) (d : XferDesc) : Option (Nat × Nat × Bool) :=
  let at' := fun (a : Nat) (w : Bool) => (fieldPageOf s a).map fun e => (e.1, e.2, w)
  match d.got with
  | (o, _) :: _ => at' (if opAtomic d.op then d.src else d.dst + o) true
  | [] =>
    if d.len ≤ d.next then none
    else if !opAtomic d.op then at' (d.src + d.next) false
    else match at' d.src false with
      | some e => some e
      | none => at' d.dst true

/-- Put `b` where offset `o` of the descriptor's destination lies: false where the engine waits for a tag. -/
def putPiece (s : State) (c : Nat) (d : XferDesc) (o : Nat) (b : List Nat) : Bool × State :=
  match remoteOf s (d.dst + o) with
  | some (n, x) =>
    if !present s n then (true, mapDesc s c d.idx fun e => e.fail TS.absent)
    else
      let g := { newReq 5 n (writeOp b.length x) x (b.length / 4 - 1) b with xfer := (c + 1, d.idx) }
      match takeTag s g with
      | (none, t) => (false, t)
      | (some _, t) => (true, mapDesc t c d.idx fun e => { e with out := e.out + 1 })
  | none =>
    let r := localWrite s byXfer (d.dst + o) b
    (r.1 != TS.busy, mapDesc r.2 c d.idx fun e =>
      if r.1 = TS.busy then e else if localDone r.1 then { e with done := e.done + b.length } else e.fail r.1)

/-- Start the next piece of a COPY, or the one operation of an atomic: false where the engine waits. -/
def nextPiece (s : State) (c : Nat) (d : XferDesc) : Bool × State :=
  if opAtomic d.op then
    match remoteOf s d.dst with
    | some (n, x) =>
      let r := localRead s byXfer d.src (atomicPay d.op)
      let s := r.2.2
      if r.1 ≠ TS.ok then (true, mapDesc s c d.idx fun e => e.fail r.1)
      else if x % atomicSize d.op ≠ 0 then (true, mapDesc s c d.idx fun e => e.fail TS.align)
      else if !present s n then (true, mapDesc s c d.idx fun e => e.fail TS.absent)
      else
        let g := { newReq 5 n d.op x (atomicSize d.op / 4 - 1) r.2.1 with xfer := (c + 1, d.idx) }
        match takeTag s g with
        | (none, t) => (false, t)
        | (some _, t) => (true, mapDesc t c d.idx fun e => { e with out := e.out + 1, next := e.len })
    | none =>
      -- a window of the own address is served here (R19)
      let p := localRead s byXfer d.src (atomicPay d.op)
      let k := if d.op < 0xA then d.op - 6 else d.op - 0xA
      if p.1 ≠ TS.ok then (true, mapDesc p.2.2 c d.idx fun e => e.fail p.1)
      else if d.dst % atomicSize d.op ≠ 0 then (true, mapDesc p.2.2 c d.idx fun e => e.fail TS.align)
      else
      let r := windowAtomic p.2.2 byXfer (d.dst % 0x1000000) k (atomicSize d.op) p.2.1
      (true, mapDesc r.2.2 c d.idx fun e =>
        if localDone r.1 then { e with next := e.len, got := [(0, r.2.1)] } else { (e.fail r.1) with next := e.len })
  else
    let n := pieceLen d d.next
    match remoteOf s (d.src + d.next) with
    | some (m, x) =>
      if !present s m then (true, mapDesc s c d.idx fun e => e.fail TS.absent)
      else
        let g := { newReq 5 m (readOp n x) x (n / 4 - 1) [] with xfer := (c + 1, d.idx) }
        match takeTag s g with
        | (none, t) => (false, t)
        | (some _, t) => (true, mapDesc t c d.idx fun e => { e with out := e.out + 1, next := e.next + n })
    | none =>
      if regionOf (d.src + d.next) = .flash ∧ flashServes s = false then (false, s)
      else
        let r := localRead s byXfer (d.src + d.next) n
        (true, mapDesc r.2.2 c d.idx fun e =>
          if r.1 ≠ TS.ok then e.fail r.1 else { e with next := e.next + n, got := e.got ++ [(d.next, r.2.1)] })

/-- One descriptor moves on: pieces that have been read are written first, and an access to a field-die page waits for the stitch
link (R9). False where nothing more can be done now. -/
def descStep (s : State) (c idx : Nat) : Bool × State :=
  match (descsOf s c).find? (·.idx == idx) with
  | none => (false, s)
  | some d =>
    if d.status ≠ 0 ∨ ((xferStitch s d).isSome = true ∧ d.crossed = false) then (false, s)
    else
    let s := if d.crossed then mapDesc s c idx fun e => { e with crossed := false } else s
    match d.got with
      | (o, b) :: r =>
        if opAtomic d.op then
          let w := localWrite s byXfer d.src b
          (true, mapDesc w.2 c idx fun e =>
            if localDone w.1 then { e with got := r, done := e.len } else { (e.fail w.1) with got := r })
        else
          let w := putPiece s c d o b
          if w.1 then (true, mapDesc w.2 c idx fun e => { e with got := r }) else (false, w.2)
      | [] => if d.next < d.len then nextPiece s c d else (false, s)

/-- One descriptor moves on as far as it can. -/
def descRun : Nat → State → Nat → Nat → State
  | 0, s, _, _ => s
  | fuel + 1, s, c, idx =>
    let r := descStep s c idx
    if r.1 then descRun fuel r.2 c idx else r.2

/-- Steps that the descriptor can still take: each moves at least four bytes on, twice. -/
def descFuel (d : XferDesc) : Nat := d.len / 2 + d.got.length + 4

/-- Every descriptor in flight moves on as far as tags allow. -/
def xferPump (s : State) : State :=
  s.each 8 fun t c => (descsOf t c).foldl (fun u d => descRun (descFuel d) u c d.idx) t

/-- The descriptor has come to its end. -/
def descOver (d : XferDesc) : Bool := d.out == 0 && (d.status != 0 || (d.next == d.len && d.got.isEmpty))

/-! ## Completion (R234, R235) -/

/-- The channel halts. -/
def chanHalt (s : State) (c : Nat) : State := raise (s.wr P.xfer (F.XFER_CH_STAT_HALTED c) 1) P.xfer c

/-- The write-back of a descriptor falls outside the data region, or into the image area, which no store reaches (R11, R193). -/
def backRefused (s : State) (c : Nat) (d : XferDesc) : Bool :=
  let a := descAddr s c d.idx + 0x1C
  decide (a < 0x10200000 ∨ 0x10400000 < a + 4) || (List.range 4).any fun k => (s.imageOff (a + k)).isSome

/-- Write DONE, STATUS and DONE_LEN back. -/
def writeBack (s : State) (c : Nat) (d : XferDesc) : State :=
  if backRefused s c d then s
  else s.memWrite (descAddr s c d.idx + 0x1C) (leBytes 4 (2 ^ 31 + d.status * 2 ^ 24 + d.done % 2 ^ 24))

/-- The event that a descriptor announces: to its DST node in the engine's stream, or here. False where it waits for a tag. -/
def descEvent (s : State) (d : XferDesc) : Bool × State :=
  if !d.evt then (true, s)
  else match remoteOf s d.dst with
    | some (n, _) => if present s n then sendEvent s 5 n d.k d.value 0 else (true, writeFailed s 5 (winAddr n 0) TS.absent)
    | none => (true, eventIn s s.own d.k d.value)

/-- Descriptor `idx` of channel `c` completes; `ecc` says that its write-back fails ECC. A write-back that is refused completes
with the error status of an access fault. Only ECC of its own fetch or write-back halts the channel whatever HALT_ON_ERR
holds. -/
def descComplete (s : State) (c : Nat) (d : XferDesc) (ecc : Bool) : State :=
  let d := if ecc then { d with status := TS.ecc, ownEcc := true } else if backRefused s c d then d.fail TS.addrErr else d
  let e := descEvent s d
  if !e.1 then s
  else
    let s := setDescs e.2 c ((descsOf e.2 c).filter (·.idx != d.idx))
    let s := if ecc then s else writeBack s c d
    let s := if d.status ≠ 0 then s.wr P.xfer (F.XFER_CH_STAT_LAST_ERR c) d.status else s
    let halts := d.ownEcc || (d.status != 0 && s.on P.xfer (F.XFER_CH_CFG_HALT_ON_ERR c))
    let s := if halts then chanHalt s c else raiseIf s d.irq P.xfer c
    blockStop s P.xfer

end Sys2Proof.Machine
end

