-- ==== Sys2Proof/Machine/Txn.lean ====
section
/-!
DEFINITION. The commands of the transaction engine (08_transactions_and_bridging.md, R207 to R228) and of the host port
(16_local_ports.md, R438 to R440).
-/

namespace Sys2Proof.Machine

/-! ## Reads and atomics through holding slots (R212 to R214) -/

/-- The slot of an access: same initiator, address and size, and the same atomic, or none. -/
def holdOf (s : State) (init a n op : Nat) : Option (Nat × HoldSlot) :=
  (holdsUsed s).find? fun e =>
    e.2.init == init && e.2.addr == a && e.2.size == n &&
      (if opAtomic op then e.2.op == op else !opAtomic e.2.op)

/-- The lowest free slot. -/
def holdFree (s : State) : Option Nat := (List.range 64).find? fun k => (holdAt s k).isNone

/-- A slot waits for tag `n`. -/
def holdTake (s : State) (k init a n op tag skip : Nat) : State :=
  setHold s k (some { init := init, addr := a, size := n, op := op, tag := tag, skip := skip, since := s.ticks })

/-- The page at an offset of a window may be fetched ahead (R33, R214). -/
def prefetchOk (off : Nat) : Bool := decide (off < 0x400000) && ((pageRow (off / 0x1000)).map fun r => !r.sidefx).getD false

/-- The block of 64 bytes that a read lies in. -/
def blockOf (off : Nat) : Nat := off / 64 * 64

/-- The RDBLK of the read's block that is in flight for the initiator. -/
def blockFetch (s : State) (init dst off : Nat) : Option Nat :=
  ((tagsUsed s).find? fun e =>
    e.2.init == init && e.2.dst == dst && e.2.op == 2 && e.2.len == 15 && e.2.off == blockOf off && e.2.xfer.1 == 0).map (·.1)

/-- A read of the same block is in flight for the initiator. -/
def blockBusy (s : State) (init dst off : Nat) : Bool :=
  (holdsUsed s).any fun e => e.2.init == init && e.2.data.isNone && !opAtomic e.2.op &&
    ((winOf e.2.addr).any fun w => w.1 == dst && blockOf w.2 == blockOf off)

/-- The read is sent, or joins a fetch of its block (R214): the state, unchanged where the initiator waits. Bytes and halfwords
are taken from the word that holds them. -/
def readFetch (s : State) (init dst off n : Nat) : State :=
  match holdFree s with
  | none => s
  | some k =>
    let a := winAddr dst off
    let one := prefetchOk off && decide (off % 64 + n ≤ 64)
    match (if one then blockFetch s init dst off else none) with
    | some tag => holdTake s k init a n 2 tag (off % 64)
    | none =>
      let blk := one && blockBusy s init dst off
      let o := if blk then blockOf off else off / 4 * 4
      let m := if blk then 64 else max 4 n
      match takeTag s (newReq init dst (readOp m o) o (m / 4 - 1) []) with
      | (some tag, t) => holdTake t k init a n (readOp m o) tag (off - o)
      | (none, t) => t

/-- A remote read of an initiator at offset `off` of node `dst`: its answer, if there is one now. -/
def remoteRead (s : State) (init dst off n : Nat) : Option (Nat × List Nat) × State :=
  match holdOf s init (winAddr dst off) n 0 with
  | some (k, x) =>
    match x.data with
    | some (b, st) => (some (st, b), setHold s k none)
    | none => (none, s)
  | none =>
    if !present s dst then (some (TS.absent, []), s)
    else (none, readFetch s init dst off n)

/-! ## Field cores (R212) -/

/-- A field core's access fails: access fault; a status of the engine is captured too. -/
def coreFault (s : State) (k a st : Nat) : State := (txnCapture s k a st).accFault k a

/-- Size of a core access. -/
def coreSize (n : Nat) : Bool := n == 1 || n == 2 || n == 4 || n == 8

/-- The address lies in an I/O region as a field core sees it (R506). -/
def ioAt (s : State) (a : Nat) : Bool :=
  match regionOf a with
  | .cells | .items | .pages | .window _ _ => true
  | .data => (s.imageOff a).isSome
  | .rom | .bank | .flash | .none => false

/-- A misaligned access of a field core faults where it touches an I/O region; in memory it completes (R506). -/
def coreAligned (s : State) (a n : Nat) : Bool := a % n == 0 || !(ioAt s a || ioAt s (a + (n - 1)))

/-- The flash is asked, and serves nothing now: the initiator waits (R442). -/
def flashWaits (s : State) (a n : Nat) : Bool :=
  (regionOf a == .flash || regionOf (a + (n - 1)) == .flash) && !flashServes s

/-- A field core reads `n` bytes of its own map (R11). A field-die page is read over the stitch link (FIELD_PAGE_ACCESS_DONE), and
the core stalls; so it does while the flash is programmed or erased (R442). -/
def coreRead (s : State) (k a n : Nat) : State :=
  if hostField s a || flashWaits s a n then s
  else
    let half := regionOf a == .pages && decide (n < 4)
    let r := localRead s ⟨k, 0⟩ (if half then a / 4 * 4 else a) (if half then 4 else n)
    if r.1 = TS.ok then answer r.2.2 k a TS.ok (slice r.2.1 (if half then a % 4 else 0) n) else r.2.2.accFault k a

/-- A byte of the active program bank, which no field core stores to (R506). -/
def activeBankAt (a : Nat) : Bool := regionOf a == .bank && !inactiveBank a

/-- A field core writes bytes of its own map (R11, R18): a store that the map or an attribute refuses is a store access fault. -/
def coreWrite (s : State) (k a : Nat) (b : List Nat) : State :=
  match fieldAddr s a with
  | some x => stitchPost s k (wordsAt x b)
  | none =>
    if activeBankAt a || activeBankAt (a + (b.length - 1)) then s.accFault k a
    else
      let r := localWrite s ⟨k, 0⟩ a b
      if localDone r.1 ∨ r.1 = TS.busy then r.2 else r.2.accFault k a

/-- What an AMO of a field core stores, by its kind: 0 AND, 1 OR, 2 ADD, 3 SWAP, 4 XOR, 5 MIN, 6 MAX, 7 MINU, others MAXU, on `n`
bytes. -/
def amoNew (kind n old v : Nat) : Nat :=
  let v := v % 2 ^ (8 * n)
  let less := toSigned (8 * n) old < toSigned (8 * n) v
  match kind with
  | 0 => old &&& v
  | 1 => old ||| v
  | 2 => (old + v) % 2 ^ (8 * n)
  | 3 => v
  | 4 => old ^^^ v
  | 5 => if less then old else v
  | 6 => if less then v else old
  | 7 => min old v
  | _ => max old v

/-- The reservation of a field core. -/
def setResv (s : State) (k : Nat) (x : Option (Nat × Nat)) : State :=
  { s with cores := s.cores.put {} k { s.cores.at {} k with resv := x } }

/-- An AMO, LR (kind 9) or SC (kind 10) of a field core on its own map: carried out on cacheable regions, and where they take
stores; everywhere else it faults (R506). DESIGN CHOICE (log 95): an SC on the reservation that its core holds may fail, as a free
value says. -/
def coreAmo (s : State) (k a n kind v : Nat) : State :=
  let bad := fun (x : Nat) => ioAt s x || !(regionOf x == .data || regionOf x == .bank) || (kind != 9 && activeBankAt x)
  if bad a || bad (a + (n - 1)) then s.accFault k a
  else
    let r := localRead s ⟨k, 0⟩ a n
    let s := r.2.2
    if kind = 9 then answer (setResv s k (some (a, n))) k a TS.ok r.2.1
    else if kind = 10 then
      let d := s.draw 1
      if (s.cores.at {} k).resv = some (a, n) ∧ d.1 = 0 then
        answer (setResv (localWrite d.2 ⟨k, 0⟩ a (leBytes n v)).2 k none) k a TS.ok (leBytes n 0)
      else answer (setResv d.2 k none) k a TS.ok (leBytes n 1)
    else answer (localWrite s ⟨k, 0⟩ a (leBytes n (amoNew kind n (leVal r.2.1) v))).2 k a TS.ok r.2.1

/-- The `n` bytes from `a` on lie in the program banks or the data of the management core (01_architecture.md, Address maps). -/
def mgmtOwn (a n : Nat) : Bool := decide (0x08000000 ≤ a ∧ a + n ≤ 0x08080000)

/-- The rest of its map, which the field cores' map shares: boot ROM, register pages, flash. -/
def mgmtShared (a n : Nat) : Bool :=
  [a, a + (n - 1)].all fun x => regionOf x == .rom || regionOf x == .pages || regionOf x == .flash

/-- The management core, a 32-bit one, loads `n` bytes from its own map. -/
def mgmtLoad (s : State) (a n : Nat) : State :=
  if mgmtOwn a n then answer s 4 a TS.ok ((List.range n).map fun i => s.showAt (bankPhys s (a + i)))
  else if mgmtShared a n && coreAligned s a n then coreRead s 4 a n
  else s.accFault 4 a

/-- It stores: into the event log no store is let (R532); one to its inactive bank touches what is staged (R553). -/
def mgmtStore (s : State) (a : Nat) (b : List Nat) : State :=
  if mgmtOwn a b.length then
    if logAddr a || logAddr (a + (b.length - 1)) then s.accFault 4 a
    else
      let s := b.zipIdx.foldl (fun t e => t.memWrite (bankPhys t (a + e.2)) [e.1]) s
      if inactiveBank a || inactiveBank (a + (b.length - 1)) then unstage s 11 else s
  else if mgmtShared a b.length && coreAligned s a b.length && (regionOf a != .pages || b.length == 4) then coreWrite s 4 a b
  else s.accFault 4 a

/-- REMOTE_LOAD: a load of `n` bytes, first issued or replayed; from outside the windows it is a load of the core's own map. DESIGN
CHOICE (log 124): the
management core (4) has no windows and its own map. -/
def execRemoteLoad (k a n : Nat) (s : State) : Out :=
  .next (if s.alive && k == 4 && decide (n < 8) && coreSize n then mgmtLoad s a n
  else if s.alive && decide (k < 4) && coreSize n then
    match winOf a with
    | none => if coreAligned s a n then coreRead s k a n else s.accFault k a
    | some (d, o) =>
      if a % n ≠ 0 then coreFault s k a TS.align
      else if hostField s a then s
      else if isOwn s d then
        let r := windowRead s ⟨k, 0⟩ (if n < 4 then o / 4 * 4 else o) (max 4 n) false
        if r.1 = TS.ok then answer r.2.2 k a TS.ok (slice r.2.1 (if n < 4 then o % 4 else 0) n) else r.2.2.accFault k a
      else match remoteRead s k d o n with
        | (some (st, b), t) =>
          if st = TS.ok then answer t k a TS.ok b
          -- what ends a transaction has been captured at its end; an absence found at once has not
          else if (holdOf s k a n 0).isNone then coreFault t k a st
          else t.accFault k a
        | (none, t) => t
  else s)

/-- A posted write to a remote window (R212, R213): false where the initiator waits for a tag. -/
def remoteWrite (s : State) (init dst off : Nat) (b : List Nat) : Bool × State :=
  if !present s dst then (true, writeFailed s init (winAddr dst off) TS.absent)
  else match takeTag s (newReq init dst (writeOp b.length off) off (b.length / 4 - 1) b) with
    | (some _, t) => (true, t)
    | (none, t) => (false, t)

/-- REMOTE_STORE: a store of bytes `b`. No OP carries less than four bytes. Outside the windows it is a store of the core's own
map, the item store among it (R18). The management core (4) has no windows and its own map. -/
def execRemoteStore (k a : Nat) (b : List Nat) (s : State) : Out :=
  .next (if s.alive && k == 4 && decide (b.length < 8) && coreSize b.length then mgmtStore s a b
  else if s.alive && decide (k < 4) && coreSize b.length then
    match winOf a with
    | none =>
      if coreAligned s a b.length = false ∨ (regionOf a = .pages ∧ b.length < 4) then s.accFault k a else coreWrite s k a b
    | some (d, o) =>
      if a % b.length ≠ 0 then writeFailed s k a TS.align
      else if b.length < 4 then writeFailed s k a TS.unsupported
      else if hostField s a then coreWrite s k a b
      else if isOwn s d then
        let r := windowWrite s ⟨k, 0⟩ o b false
        if localDone r.1 ∨ r.1 = TS.busy then r.2 else r.2.accFault k a
      else (remoteWrite s k d o b).2
  else s)

/-- An atomic of a field core at `a`, in the window of its own node: the core has the old value, whatever a register made of the
write (R19, R43). -/
def ownAmo (s : State) (k a n kind v : Nat) : State :=
  let r := windowAtomic s ⟨k, 0⟩ (a % 0x1000000) kind n (leBytes n v)
  if localDone r.1 then answer r.2.2 k a TS.ok r.2.1 else r.2.2.accFault k a

/-- REMOTE_AMO: `kind` 0 AMOAND, 1 AMOOR, 2 AMOADD, others the AMOs that fault on a window; `n` bytes, operand `v`. Outside the
windows it is an AMO, LR or SC on the core's own map. One on a field-die page goes over the stitch link (R9), and the core stalls
until FIELD_PAGE_ACCESS_DONE. -/
def execRemoteAmo (k a n kind v : Nat) (s : State) : Out :=
  .next (if s.alive && decide (k < 4) && (n == 4 || n == 8) then
    match winOf a with
    | none => if coreAligned s a n then coreAmo s k a n kind v else s.accFault k a
    | some (d, o) =>
      if 3 ≤ kind then s.accFault k a
      else if a % n ≠ 0 then coreFault s k a TS.align
      else
        let op := (if n = 4 then 6 else 0xA) + kind
        if hostField s a && !sidefxPage o then
          let x := (k, a, n, kind, v)
          if s.stitch.amos.contains x then s else { s with stitch := { s.stitch with amos := s.stitch.amos ++ [x] } }
        else if isOwn s d then ownAmo s k a n kind v
        else match holdOf s k a n op with
          | some (i, x) =>
            match x.data with
            | some (b, st) => if st = TS.ok then answer (setHold s i none) k a st b else (setHold s i none).accFault k a
            | none => s
          | none =>
            if !present s d then coreFault s k a TS.absent
            else match holdFree s with
              | none => s
              | some i =>
                match takeTag s (newReq k d op o (n / 4 - 1) (leBytes n v)) with
                | (some tag, t) => holdTake t i k a n op tag 0
                | (none, t) => t
  else s)

/-! ## The target (R209, R218, R228) -/

/-- RD32. -/
def execRd32 (f : Frame) (ecc : Bool) (s : State) : Out := .next (inFrame s 0x0 f ecc)

/-- RD64. -/
def execRd64 (f : Frame) (ecc : Bool) (s : State) : Out := .next (inFrame s 0x1 f ecc)

/-- RDBLK. -/
def execRdblk (f : Frame) (ecc : Bool) (s : State) : Out := .next (inFrame s 0x2 f ecc)

/-- WR32. -/
def execWr32 (f : Frame) (s : State) : Out := .next (inFrame s 0x3 f false)

/-- WR64. -/
def execWr64 (f : Frame) (s : State) : Out := .next (inFrame s 0x4 f false)

/-- WRBLK. -/
def execWrblk (f : Frame) (s : State) : Out := .next (inFrame s 0x5 f false)

/-- AND32. -/
def execAnd32 (f : Frame) (ecc : Bool) (s : State) : Out := .next (inFrame s 0x6 f ecc)

/-- OR32. -/
def execOr32 (f : Frame) (ecc : Bool) (s : State) : Out := .next (inFrame s 0x7 f ecc)

/-- ADD32. -/
def execAdd32 (f : Frame) (ecc : Bool) (s : State) : Out := .next (inFrame s 0x8 f ecc)

/-- CAS32. -/
def execCas32 (f : Frame) (ecc : Bool) (s : State) : Out := .next (inFrame s 0x9 f ecc)

/-- AND64. -/
def execAnd64 (f : Frame) (ecc : Bool) (s : State) : Out := .next (inFrame s 0xA f ecc)

/-- OR64. -/
def execOr64 (f : Frame) (ecc : Bool) (s : State) : Out := .next (inFrame s 0xB f ecc)

/-- ADD64. -/
def execAdd64 (f : Frame) (ecc : Bool) (s : State) : Out := .next (inFrame s 0xC f ecc)

/-- CAS64. -/
def execCas64 (f : Frame) (ecc : Bool) (s : State) : Out := .next (inFrame s 0xD f ecc)

/-- EVENT of class 4. -/
def execEvent (f : Frame) (s : State) : Out := .next (inFrame s 0xE f false)

/-! ## The requester (R215, R219, R220, R222) -/

/-- TXN_CPL: a checked completion. -/
def execTxnCpl (f : Frame) (s : State) : Out :=
  .next (if s.alive && deliversLocal s && f.typ == 4 && f.cls == 4 && isOwn s f.dst then
    let s := if s.halo.incs.at 0 f.src = 0 then
        { s with halo := { s.halo with incs := s.halo.incs.put 0 f.src (f.w3 % 2 ^ 16 + 1) } } else s
    let n := bitsOf f.w3 23 9
    match tagAt s n with
    | none => s
    | some g =>
      let st := bitsOf f.w4 24 4
      if g.dst ≠ f.src ∨ g.ord ≠ bitsOf f.w5 18 8 ∨ g.first = none then s
      else if st = TS.busy then (if g.fetch then fetchServed s g else s)
      else xferPump (completeTag s n st f.pay)
  else s)

/-- TXN_RESEND: RETRY_TO ticks have passed since the last send of tag `n`. -/
def execTxnResend (n : Nat) (s : State) : Out := .next (if s.alive then xferPump (txnResend s n) else s)

/-- TXN_TIMEOUT: TIMEOUT ticks have passed since the first send of tag `n`. -/
def execTxnTimeout (n : Nat) (s : State) : Out := .next (if s.alive then xferPump (txnExpire s n) else s)

/-- HOLDING_SLOT_RELEASE: slot `k` has not been collected within HOLD_TICKS. -/
def execHoldingSlotRelease (k : Nat) (s : State) : Out := .next (if s.alive then holdRelease s k else s)

/-- STREAM_SLOT_RELEASE: slot `k` has had no request for SLOT_HOLD ticks. -/
def execStreamSlotRelease (k : Nat) (s : State) : Out := .next (if s.alive then streamRelease s k else s)

/-! ## The host port (R438 to R440) -/

/-- Host port statuses (R438). -/
def HS.ok : Nat := 0
def HS.retry : Nat := 1
def HS.fault : Nat := 2
def HS.badCmd : Nat := 3
def HS.align : Nat := 4

/-- The host port answers. -/
def hostAnswer (s : State) (st detail : Nat) (b : List Nat) : State :=
  let s := s.when (st == HS.retry) (·.inc P.host F.HOSTPORT_HP_CNT_RETRY_N)
  { s with ports := { s.ports with host := (st, detail, b) :: s.ports.host } }

/-- The host port works: its domain is on. -/
def hostOn (s : State) : Bool := s.alive && domOn s 7

/-- The host as an initiator. -/
def byHost : By := ⟨6, 0⟩

/-- An aligned access of the host: on a word boundary and within 4 KiB. -/
def hostAligned (a n : Nat) : Bool := a % 4 == 0 && decide (a % 0x1000 + n ≤ 0x1000)

/-- A read whose slot holds the data, or waits for them: the tag 512 stands for the stitch link. -/
def hostSlot (s : State) (a n : Nat) : Option (Nat × List Nat) × State :=
  match holdOf s 4 a n 0 with
  | some (k, x) =>
    match x.data with
    | some (b, st) => (some (st, b), setHold s k none)
    | none => (none, s)
  | none =>
    match holdFree s with
    | some k => (none, holdTake s k 4 a n 0 512 0)
    | none => (none, s)

/-- A read of the host as far as its status phase: none is RETRY. -/
def hostFetch (s : State) (a n : Nat) : Option (Nat × List Nat) × State :=
  match remoteOf s a with
  | some (d, o) => remoteRead s 4 d o n
  | none =>
    if hostField s a then hostSlot s a n
    else if flashWaits s a n then (none, s)
    else
      let r := localRead s byHost a n
      (some (if r.1 = TS.ok then TS.ok else 0x80, r.2.1), r.2.2)

/-- HOST_READ: command word, address, length in bytes. -/
def execHostRead (cmd a n : Nat) (s : State) : Out :=
  .next (if hostOn s && n % 4 == 0 && decide (4 ≤ n ∧ n ≤ 256) then
    let s := s.inc P.host F.HOSTPORT_HP_CNT_CMD_N
    if cmd ≠ 0x0BF4 then hostAnswer s HS.badCmd 0 []
    else if !hostAligned a n then hostAnswer s HS.align 0 []
    else match hostFetch s a n with
      | (none, t) => hostAnswer t HS.retry 0 []
      | (some (st, b), t) => if st = TS.ok then hostAnswer t HS.ok 0 b else hostAnswer t HS.fault st []
  else s)

/-- HOST_WRITE: command word, address, bytes. -/
def execHostWrite (cmd a : Nat) (b : List Nat) (s : State) : Out :=
  .next (if hostOn s && b.length % 4 == 0 && decide (4 ≤ b.length ∧ b.length ≤ 256) then
    let s := s.inc P.host F.HOSTPORT_HP_CNT_CMD_N
    if cmd ≠ 0x12ED then hostAnswer s HS.badCmd 0 []
    else if !hostAligned a b.length then hostAnswer s HS.align 0 []
    else match remoteOf s a with
      | some (d, o) =>
        let r := remoteWrite s 4 d o b
        hostAnswer r.2 (if r.1 then HS.ok else HS.retry) 0 []
      | none =>
        match fieldAddr s a with
        | some x => hostAnswer (stitchPost s 6 (wordsAt x b)) HS.ok 0 []
        | none =>
          let r := localWrite s byHost a b
          if r.1 = TS.busy then hostAnswer r.2 HS.retry 0 []
          else if localDone r.1 then hostAnswer r.2 HS.ok 0 [] else hostAnswer r.2 HS.fault 0x80 []
  else s)

/-- HOST_ABORT: the access is abandoned. A read of `n` bytes at `a` that had been sent goes on into its slot. -/
def execHostAbort (sent : Bool) (a n : Nat) (s : State) : Out :=
  .next (if hostOn s then
    let s := countRaise (s.inc P.host F.HOSTPORT_HP_CNT_CMD_N) P.host F.HOSTPORT_HP_CNT_ABORT_N P.host 2
    if sent && hostAligned a n && decide (4 ≤ n ∧ n ≤ 256) && (holdOf s 4 a n 0).isNone then
      match remoteOf s a with
      | some (d, o) => if present s d then readFetch s 4 d o n else s
      | none => s.when (hostField s a) fun s => (hostSlot s a n).2
    else s
  else s)

end Sys2Proof.Machine
end

