-- ==== Sys2Proof/Machine/Writes.lean ====
section
/-!
DEFINITION. Meanings of the commands that are register accesses: each is a write through `busStore`, judged and applied by its
rules, of the word that the command's operands form; fields of the register that the command does not name are written with
what they hold.
-/

namespace Sys2Proof.Machine

/-- The word of a register with its fields as they stand, triggers 0, and the fields of `l` replaced. -/
def keepWord (s : State) (who : By) (page off : Nat) (l : List (Fld × Nat)) : Nat :=
  mkWord ((regFields page off).map fun f =>
    match l.find? fun e => e.1 == f with
    | some e => e
    | none => (f, if f.acc == .rw then activeValue s who page f else 0))

/-- The value that a read gave, kept for its initiator. -/
def readTo (who : By) (r : Nat × State) : State :=
  { r.2 with stitch := { r.2.stitch with readBack := r.2.stitch.readBack.put 0 (armWho who) r.1 } }

/-! ## Any register (R9, R30, R39) -/

/-- REGISTER_WRITE. A local initiator's write to a field-die page travels over the stitch link first. -/
def execRegisterWrite (who : By) (page off word : Nat) (s : State) : Out :=
  .next (if onFieldDie page && who.ini != 8 && s.alive then
    stitchPost s who.ini [(page * 0x1000 + off, word % 2 ^ 32)]
  else busStore s who page off (word % 2 ^ 32))

/-- A read of the host port over the stitch link: the data reach its holding slot (R439). None where no slot waits. -/
def hostFill (s : State) (page off : Nat) : Option State :=
  match (holdsUsed s).find? fun e => e.2.tag == 512 && e.2.data.isNone && fieldAddr s e.2.addr == some (page * 0x1000 + off) with
  | none => none
  | some (k, x) =>
    let r := readWords s ⟨6, 0⟩ (page * 0x1000 + off) (x.size / 4)
    some (setHold r.2 k (some { x with data := some (r.1, TS.ok), since := s.ticks }))

/-- The access that the transfer engine holds on the page has crossed the link: its descriptor goes on (R9). -/
def xferCrossed (s : State) (page off : Nat) (wr : Bool) : State :=
  let s := (List.range 8).foldl (fun t c =>
    match (descsOf t c).find? fun d => xferStitch t d == some (page, off, wr) && !d.crossed with
    | some d => mapDesc t c d.idx fun e => { e with crossed := true }
    | none => t) s
  xferPump s

/-- The atomic of core `k` that has crossed the link is carried out (R9, R19). -/
def amoCrossed (s : State) (k page off : Nat) : Option State :=
  (s.stitch.amos.find? fun e => e.1 == k && fieldAddr s e.2.1 == some (page * 0x1000 + off)).map fun e =>
    ownAmo { s with stitch := { s.stitch with amos := s.stitch.amos.erase e } } k e.2.1 e.2.2.1 e.2.2.2.1 e.2.2.2.2

/-- FIELD_PAGE_ACCESS_DONE (R9): a read of a field-die page gives its word, or the initiator's oldest write in flight takes
effect; an atomic does both, and the transfer engine's descriptor goes on. A flit answers. Nothing completes over a link that is
down (R7). -/
def execFieldPageAccessDone (who : By) (page off : Nat) (wr : Bool) (s : State) : Out :=
  .next (if !onFieldDie page || s.stitch.down || !s.alive then s
  else
  let s := flitIn (if wr then s else flitOut s (leBytes 4 (page * 0x1000 + off))) (leBytes 4 (page * 0x1000 + off))
  let s := fieldFlit s page
  if who.ini = 5 then xferCrossed s page off wr
  else if wr then
    match s.stitch.access.find? fun e => e.1 == who.ini && e.2.1 == page && e.2.2.1 == off with
    | some (i, p, o, some w) =>
      busStore { s with stitch := { s.stitch with access := s.stitch.access.erase (i, p, o, some w) } } who page off w
    | _ => s
  else if who.ini = 6 then (hostFill s page off).getD s
  else if let some t := amoCrossed s who.ini page off then t
  else readTo who (busRead s who page off))

/-- PAGE_STOP: a write of PAGE_CTRL with the STOP bit given. -/
def execPageStop (page : Nat) (who : By) (stop : Bool) (s : State) : Out :=
  .next (busStore s who page 0x008 (keepWord s who page 0x008 [(F.HDR_PAGE_CTRL_STOP, b2n stop)]))

/-- BLOCK_STOPPED (R30): the block reaches its safe point. -/
def execBlockStopped (page : Nat) (s : State) : Out := .next (if s.alive then blockStop s page else s)

/-- EV_FORCE (R31). -/
def execEvForce (page : Nat) (who : By) (m : Nat) (s : State) : Out := .next (busStore s who page 0x018 (m % 2 ^ 32))

/-- COMMIT_DISCARD (R38). -/
def execCommitDiscard (page : Nat) (who : By) (s : State) : Out := .next (busStore s who page 0x034 (2 ^ 30))

/-- LOCK_KEY (R46). -/
def execLockKey (page : Nat) (who : By) (word : Nat) (s : State) : Out := .next (busStore s who page 0x038 (word % 2 ^ 32))

/-- KEY_ARM_LAPSE (R46): the second tick instant after the key write. -/
def execKeyArmLapse (page : Nat) (s : State) : Out :=
  .next (if s.alive then
    { s with node := { s.node with keyArms := s.node.keyArms.filter fun e => !(e.1 == page && decide (e.2.2 ≤ 1)) } }
  else s)

/-- CNT_CLEAR: where the page has the register. -/
def cntClearOff (page : Nat) : Option Nat :=
  match pageType page with
  | some .time => some 0x128
  | some .halo => some 0x0A4
  | some .switch => some 0x08C
  | some .publish => some 0x090
  | some .subscribe => some 0x09C
  | some .gateway => some 0x090
  | some .track => some 0x0E0
  | some .edge => some 0x0A8
  | some .capture => some 0x088
  | some .eclipse => some 0x090
  | _ => none

/-- CNT_CLEAR (R110). -/
def execCntClear (page : Nat) (who : By) (s : State) : Out :=
  .next (match cntClearOff page with
  | some off => busStore s who page off 1
  | none => s)

/-! ## Node and time -/

/-- RESET_CTRL (R48). -/
def execResetCtrl (who : By) (key : Nat) (s : State) : Out :=
  .next (busStore s who P.node 0x050 (mkWord [(F.NODE_RESET_CTRL_KEY, key), (F.NODE_RESET_CTRL_WARM, 1)]))

/-- STATE_REQ (R52). -/
def execStateReq (who : By) (target : Nat) (s : State) : Out := .next (busStore s who P.node 0x04C (target % 16))

/-- CORE_DONE (R83). -/
def execCoreDone (who : By) (m : Nat) (s : State) : Out := .next (busStore s who P.time 0x068 (m % 16))

/-- CMD_GO (R106). -/
def execCmdGo (who : By) (s : State) : Out := .next (busStore s who P.time 0x0D4 1)

/-- LINE_REQ (R106). -/
def execLineReq (who : By) (v : Nat) (s : State) : Out := .next (busStore s who P.time 0x0DC (v % 4))

/-- ENTRY_SEL (R146). -/
def execEntrySel (who : By) (grp src : Nat) (s : State) : Out :=
  .next (busStore s who P.halo 0x058 (mkWord [(F.HALO_ENTRY_SEL_GROUP, grp), (F.HALO_ENTRY_SEL_SRC, src)]))

/-- PUB_READY (R186). -/
def execPubReady (who : By) (hi : Bool) (m : Nat) (s : State) : Out :=
  .next (busStore s who P.pub (if hi then 0x048 else 0x044) (m % 2 ^ 32))

/-! ## Transactions, queues, sessions -/

/-- ORPH_POP (R215). -/
def execOrphPop (who : By) (s : State) : Out := .next (busStore s who P.txn 0x0BC 1)

/-- EVOUT (R226). -/
def execEvout (who : By) (dst k v : Nat) (s : State) : Out :=
  .next (busStore s who P.txn 0x058 (mkWord [(F.TXN_EVOUT_DST, dst), (F.TXN_EVOUT_K, k), (F.TXN_EVOUT_VALUE, v)]))

/-- A write of Q_CMD of queue `q`. -/
def qCmdWrite (s : State) (q : Nat) (who : By) (op clear : Nat) : State :=
  let q := q % 1024
  busStore s who (P.queue q) (0x114 + 0x40 * (q % 16)) (op * 2 ^ 28 + clear)

/-- The consumer's commands (R245). -/
def execPop (q : Nat) (who : By) (s : State) : Out := .next (qCmdWrite s q who 1 0)
def execPeek (q : Nat) (who : By) (s : State) : Out := .next (qCmdWrite s q who 2 0)
def execDropRest (q : Nat) (who : By) (s : State) : Out := .next (qCmdWrite s q who 3 0)
def execMark (q : Nat) (who : By) (s : State) : Out := .next (qCmdWrite s q who 4 0)
def execMarkClear (q : Nat) (who : By) (s : State) : Out := .next (qCmdWrite s q who 4 1)
def execRewind (q : Nat) (who : By) (s : State) : Out := .next (qCmdWrite s q who 5 0)
def execFlush (q : Nat) (who : By) (s : State) : Out := .next (qCmdWrite s q who 6 0)

/-- PUSH (R252). -/
def execPush (who : By) (k len : Nat) (s : State) : Out :=
  .next (busStore s who P.sestx 0x044 (mkWord [(F.SESTX_PUSH_CTRL_SESSION, k), (F.SESTX_PUSH_CTRL_LEN, len)]))

/-- SES_ENABLE (R254): SES_CFG of the selected session with EN = 1. -/
def execSesEnable (who : By) (rsid dst : Nat) (s : State) : Out :=
  .next (busStore s who P.sestx 0x094
    (mkWord [(F.SESTX_SES_CFG_EN, 1), (F.SESTX_SES_CFG_RSID, rsid), (F.SESTX_SES_CFG_DST, dst)]))

/-- SES_DISABLE (R265). -/
def execSesDisable (who : By) (s : State) : Out :=
  .next (busStore s who P.sestx 0x094 (keepWord s who P.sestx 0x094 [(F.SESTX_SES_CFG_EN, 0)]))

/-- RSES_ENABLE (R262): RSES_CFG of the selected session with EN = 1. -/
def execRsesEnable (who : By) (prio ssid src : Nat) (s : State) : Out :=
  .next (busStore s who P.sesrx 0x044 (mkWord [
    (F.SESRX_RSES_CFG_EN, 1), (F.SESRX_RSES_CFG_PRIO, prio), (F.SESRX_RSES_CFG_SSID, ssid), (F.SESRX_RSES_CFG_SRC, src)]))

/-- RSES_DISABLE (R265). -/
def execRsesDisable (who : By) (s : State) : Out :=
  .next (busStore s who P.sesrx 0x044 (keepWord s who P.sesrx 0x044 [(F.SESRX_RSES_CFG_EN, 0)]))

/-! ## Tracks, Drift, edges -/

/-- RECLAIM (R282). -/
def execReclaim (k : Nat) (who : By) (s : State) : Out := .next (busStore s who (P.track (k % 8)) 0x070 1)

/-- EVAL (R288): a write of EVAL_T_HI. -/
def execEval (k : Nat) (who : By) (v : Nat) (s : State) : Out := .next (busStore s who (P.track (k % 8)) 0x0A4 (v % 2 ^ 32))

/-- A write of OP_CMD. -/
def driftCmd (s : State) (who : By) (op act slot : Nat) : State :=
  busStore s who P.drift 0x06C
    (mkWord [(F.DRIFT_OP_CMD_OP, op), (F.DRIFT_OP_CMD_ACTION, act), (F.DRIFT_OP_CMD_SLOT, slot)])

/-- The operations of R319. -/
def execInduct (who : By) (k : Nat) (s : State) : Out := .next (driftCmd s who 1 0 k)
def execUpdate (who : By) (slot : Nat) (s : State) : Out := .next (driftCmd s who 2 0 slot)
def execOpRetire (who : By) (slot : Nat) (s : State) : Out := .next (driftCmd s who 3 0 slot)
def execFind (who : By) (s : State) : Out := .next (driftCmd s who 4 0 0)
def execOpCancel (who : By) (slot a : Nat) (s : State) : Out := .next (driftCmd s who 5 a slot)
def execFree (who : By) (slot : Nat) (s : State) : Out := .next (driftCmd s who 6 0 slot)

/-- ENT_SEL (R327). -/
def execEntSel (who : By) (n : Nat) (s : State) : Out := .next (busStore s who P.edge 0x048 (n % 1024))

/-- A write of ENT_CMD. -/
def entCmd (s : State) (who : By) (op : Nat) : State := busStore s who P.edge 0x060 (op * 2 ^ 28)

/-- The commands of R327. -/
def execConfigure (who : By) (s : State) : Out := .next (entCmd s who 1)
def execArm (who : By) (s : State) : Out := .next (entCmd s who 2)
def execEdgeCancel (who : By) (s : State) : Out := .next (entCmd s who 3)
def execEdgeRelease (who : By) (s : State) : Out := .next (entCmd s who 4)

/-! ## Field channels, CAN, PIO -/

/-- Offset of a register of field channel `c`. -/
def chOff (c o : Nat) : Nat := 0x100 + 0x20 * (c % 8) + o

/-- MODE_WRITE (R352). -/
def execModeWrite (c : Nat) (who : By) (m : Nat) (s : State) : Out :=
  let c := c % 64
  .next (busStore s who (P.field c) (chOff c 0) (keepWord s who (P.field c) (chOff c 0) [(F.FIELD_CH_CFG_MODE (c % 8), m)]))

/-- LEVEL (R355). -/
def execLevel (c : Nat) (who : By) (v : Bool) (s : State) : Out :=
  .next (busStore s who (P.field (c % 64)) (chOff c 4) (b2n v))

/-- A write of CH_OUT that sets one trigger and keeps LEVEL. -/
def chOutSet (s : State) (c : Nat) (who : By) (f : Nat → Fld) : State :=
  let c := c % 64
  busStore s who (P.field c) (chOff c 4) (keepWord s who (P.field c) (chOff c 4) [(f (c % 8), 1)])

/-- CHANNEL_RELEASE (R366). -/
def execChannelRelease (c : Nat) (who : By) (s : State) : Out := .next (chOutSet s c who F.FIELD_CH_OUT_RELEASE)
/-- FORCE_SAFE (R365). -/
def execForceSafe (c : Nat) (who : By) (s : State) : Out := .next (chOutSet s c who F.FIELD_CH_OUT_FORCE_SAFE)
/-- WURQ (R359). -/
def execWurq (c : Nat) (who : By) (s : State) : Out := .next (chOutSet s c who F.FIELD_CH_OUT_WURQ)

/-- TRIP_CLEAR (R361): a write of 1 to FAULT.TRIPPED. -/
def execTripClear (c : Nat) (who : By) (s : State) : Out := .next (busStore s who (P.field (c % 64)) (chOff c 8) 8)

/-- FIFO_READ (R373). -/
def execFifoRead (who : By) (s : State) : Out :=
  .next (if s.alive && !s.stitch.down then readTo who (busRead s who P.adc 0x054) else s)

/-- MB_SEL (R383). -/
def execMbSel (c : Nat) (who : By) (m : Nat) (s : State) : Out := .next (busStore s who (P.can (c % 8)) 0x100 (m % 32))

/-- A write of MB_CTRL.CMD with the staged control bits. -/
def mbCmd (s : State) (c : Nat) (who : By) (cmd : Nat) : State :=
  busStore s who (P.can (c % 8)) 0x104 (keepWord s who (P.can (c % 8)) 0x104 [(F.CAN_MB_CTRL_CMD, cmd)])

/-- LOAD, ARM and CLEAR of R383. -/
def execMbLoad (c : Nat) (who : By) (s : State) : Out := .next (mbCmd s c who 1)
def execMbArm (c : Nat) (who : By) (s : State) : Out := .next (mbCmd s c who 2)
def execMbClear (c : Nat) (who : By) (s : State) : Out := .next (mbCmd s c who 4)

/-- MB_CANCEL (R387). -/
def execMbCancel (c : Nat) (who : By) (m : Nat) (s : State) : Out := .next (busStore s who (P.can (c % 8)) 0x080 (m % 2 ^ 32))

/-- RECOVER (R390). -/
def execRecover (c : Nat) (who : By) (s : State) : Out := .next (busStore s who (P.can (c % 8)) 0x060 1)

/-- OUTQ_W (R413). -/
def execOutqW (e : Nat) (who : By) (v : Nat) (s : State) : Out := .next (busStore s who (P.pio (e % 24)) 0x05C (v % 2 ^ 32))

/-- INQ_R (R413). -/
def execInqR (e : Nat) (who : By) (s : State) : Out :=
  .next (if s.alive then readTo who (busRead s who (P.pio (e % 24)) 0x060) else s)

/-- TRIG_FORCE (R414). -/
def execTrigForce (e : Nat) (who : By) (m : Nat) (s : State) : Out :=
  .next (busStore s who (P.pio (e % 24)) 0x074 (m % 16 * 16))

/-- FLUSH_OUTQ and FLUSH_INQ (R419). -/
def execFlushOutq (e : Nat) (who : By) (s : State) : Out := .next (busStore s who (P.pio (e % 24)) 0x078 (1 * 2 ^ 28))
def execFlushInq (e : Nat) (who : By) (s : State) : Out := .next (busStore s who (P.pio (e % 24)) 0x078 (2 * 2 ^ 28))

/-- INSTR_WRITE (R420): a program slot, or WRAP. -/
def execInstrWrite (e : Nat) (who : By) (k v : Nat) (s : State) : Out :=
  .next (busStore s who (P.pio (e % 24)) (if k < 32 then 0x100 + 4 * k else 0x048) (v % 2 ^ 32))

/-! ## Local ports, flash, power, PD, USB -/

/-- TX_CTRL (R430). -/
def execTxCtrl (m : Nat) (who : By) (ts : Bool) (len : Nat) (s : State) : Out :=
  .next (busStore s who (P.eth (m % 4)) 0x07C (mkWord [(F.ETH_TX_CTRL_TS_REQ, b2n ts), (F.ETH_TX_CTRL_LEN, len)]))

/-- AS_OFF_HI (R432). -/
def execAsOffHi (m : Nat) (who : By) (v : Nat) (s : State) : Out := .next (busStore s who (P.eth (m % 4)) 0x06C (v % 2 ^ 32))

/-- U_TX (R436). -/
def execUTx (u : Nat) (who : By) (a9 : Bool) (len : Nat) (s : State) : Out :=
  let u := u % 16
  .next (busStore s who (P.uart u) (0x118 + 0x80 * (u % 4))
    (mkWord [(F.UART_U_TX_ADDR9 (u % 4), b2n a9), (F.UART_U_TX_LEN (u % 4), len)]))

/-- FL_CMD (R441). -/
def execProgram (who : By) (s : State) : Out := .next (busStore s who P.flash 0x048 (1 * 2 ^ 28))
def execErase4k (who : By) (s : State) : Out := .next (busStore s who P.flash 0x048 (2 * 2 ^ 28))
def execErase64k (who : By) (s : State) : Out := .next (busStore s who P.flash 0x048 (3 * 2 ^ 28))

/-- DOORBELL and DOORBELL_CLR (16_local_ports.md). -/
def execDoorbell (who : By) (v : Nat) (s : State) : Out := .next (busStore s who P.host 0x044 (v % 2 ^ 32))
def execDoorbellClr (who : By) (v : Nat) (s : State) : Out := .next (busStore s who P.host 0x048 (v % 2 ^ 32))

/-- A write of MAIN_CTRL or BR_CTRL that sets one trigger and keeps ON. -/
def ctlSet (s : State) (c : Nat) (who : By) (main br : Fld) : State :=
  if c = mainCtl then busStore s who P.power 0x0A0 (mkWord [(main, 1)])
  else busStore s who (P.branch (c % 8)) 0x0A0 (keepWord s who (P.branch (c % 8)) 0x0A0 [(br, 1)])

/-- LATCH_CLEAR (R468) and CURVE_APPLY (R462). -/
def execLatchClear (c : Nat) (who : By) (s : State) : Out := .next (ctlSet s c who F.POWER_MAIN_CTRL_CLEAR F.BRANCH_BR_CTRL_CLEAR)
def execCurveApply (c : Nat) (who : By) (s : State) : Out := .next (ctlSet s c who F.POWER_MAIN_CTRL_APPLY F.BRANCH_BR_CTRL_APPLY)

/-- BRANCH_ON and BRANCH_OFF (R469). -/
def execBranchOn (b : Nat) (who : By) (s : State) : Out := .next (busStore s who (P.branch (b % 8)) 0x0A0 1)
def execBranchOff (b : Nat) (who : By) (s : State) : Out := .next (busStore s who (P.branch (b % 8)) 0x0A0 0)

/-- A write of PD_CMD. -/
def pdWrite (s : State) (p : Nat) (who : By) (op : Nat) : State := busStore s who (P.pd (p % 2)) 0x070 (op * 2 ^ 28)

/-- The commands of PD_CMD. -/
def execPrSwap (p : Nat) (who : By) (s : State) : Out := .next (pdWrite s p who 1)
def execSoftReset (p : Nat) (who : By) (s : State) : Out := .next (pdWrite s p who 2)
def execHardReset (p : Nat) (who : By) (s : State) : Out := .next (pdWrite s p who 3)
def execGetSrcCap (p : Nat) (who : By) (s : State) : Out := .next (pdWrite s p who 4)
def execRequest (p : Nat) (who : By) (s : State) : Out := .next (pdWrite s p who 5)

/-- EP_ARM (R502). -/
def execEpArm (e len : Nat) (who : By) (s : State) : Out :=
  let e := e % 9
  .next (busStore s who P.usb (0x108 + 16 * e)
    (keepWord s who P.usb (0x108 + 16 * e) [(F.USBDEV_EP_CTRL_ARM e, 1), (F.USBDEV_EP_CTRL_LEN e, len)]))

/-! ## Cores and the event router -/

/-- HART_EN (R511): a write. DESIGN CHOICE (log 119): from 2^13 on `m` tells instead, in its low bits, what the debugger and WFI do to
the cores (R517, R527), for which the table has no row. -/
def execHartEn (who : By) (m : Nat) (pause : Bool) (s : State) : Out :=
  .next (if 2 ^ 13 ≤ m then (if s.alive then coresTold s (m % 2 ^ 13) (tapOpen s) else s)
  else busStore s who P.cores 0x040 (mkWord [(F.CORES_CORE_CTRL_HART_EN, m), (F.CORES_CORE_CTRL_DBG_PAUSE, b2n pause)]))

/-- FWDT_KICK (R515). -/
def execFwdtKick (who : By) (key m : Nat) (s : State) : Out :=
  .next (busStore s who P.cores 0x0B4 (mkWord [(F.CORES_FWDT_KICK_KEY, key), (F.CORES_FWDT_KICK_CORE, m)]))

/-- MWDT_KICK (R516). -/
def execMwdtKick (who : By) (key : Nat) (s : State) : Out :=
  .next (busStore s who P.cores 0x0C4 (mkWord [(F.CORES_MWDT_KICK_KEY, key)]))

/-- CLAIM (R519): a read of CLAIMk. -/
def execClaim (k : Nat) (who : By) (s : State) : Out :=
  .next (if s.alive && decide (k < 5) then readTo who (busRead s who P.ev3 (0x044 + 8 * k)) else s)

/-- COMPLETE (R519): a write of CLAIMk. -/
def execComplete (k : Nat) (who : By) (n : Nat) (s : State) : Out :=
  .next (if k < 5 then busStore s who P.ev3 (0x044 + 8 * k) (n % 512) else s)

/-- SWEV_SET (R524). -/
def execSwevSet (who : By) (m : Nat) (s : State) : Out := .next (busStore s who P.ev3 0x074 (m % 2 ^ 24))

/-! ## Management, boot, update, security, Eclipse -/

/-- PWR_CTRL_WRITE (R15). -/
def execPwrCtrlWrite (who : By) (m : Nat) (s : State) : Out := .next (busStore s who P.mgmt 0x040 (m % 8))

/-- LOG_APPEND (R532) and LOG_EXPORT (R533). -/
def execLogAppend (who : By) (v : Nat) (s : State) : Out := .next (busStore s who P.log 0x048 (v % 2 ^ 32))
def execLogExport (who : By) (s : State) : Out := .next (busStore s who P.log 0x054 1)

/-- BB_CTRL (R535). -/
def execBbCtrl (who : By) (kind arg : Nat) (s : State) : Out :=
  .next (busStore s who P.mgmt 0x078 (mkWord [(F.MGMT_BB_CTRL_KIND, kind), (F.MGMT_BB_CTRL_ARG, arg)]))

/-- A write of OTP_CMD (R540). -/
def otpWrite (s : State) (who : By) (op slot : Nat) : State :=
  busStore s who P.sec 0x170 (mkWord [(F.SECURITY_OTP_CMD_OP, op), (F.SECURITY_OTP_CMD_SLOT, slot)])

def execProgramKey (who : By) (slot : Nat) (s : State) : Out := .next (otpWrite s who 1 slot)
def execRevokeKey (who : By) (slot : Nat) (s : State) : Out := .next (otpWrite s who 2 slot)
def execDebugLock (who : By) (s : State) : Out := .next (otpWrite s who 3 0)
def execDebugDisable (who : By) (s : State) : Out := .next (otpWrite s who 4 0)

/-- VFY_CMD (R538). -/
def execVfyCmd (who : By) (keys : Nat) (s : State) : Out := .next (busStore s who P.sec 0x17C (keys % 16))

/-- UNLOCK (R541). -/
def execUnlock (who : By) (s : State) : Out := .next (busStore s who P.sec 0x140 1)

/-- BOOT_GOOD (R546) and DAWN_REQ (R560). -/
def execBootGood (who : By) (key : Nat) (s : State) : Out :=
  .next (busStore s who P.mgmt 0x04C (mkWord [(F.MGMT_BOOT_CTRL_KEY, key), (F.MGMT_BOOT_CTRL_BOOT_GOOD, 1)]))
def execDawnReq (who : By) (key : Nat) (s : State) : Out :=
  .next (busStore s who P.mgmt 0x054 (mkWord [(F.MGMT_DAWN_REQ_KEY, key), (F.MGMT_DAWN_REQ_REQ, 1)]))

/-- APPLY and UNSTAGE (R552, R553), ACT_GO (R554), EXPORT_DONE and READY (R555). -/
def execApplySlot (who : By) (s : State) : Out := .next (busStore s who P.upd 0x044 (1 * 2 ^ 28))
def execUnstage (who : By) (s : State) : Out := .next (busStore s who P.upd 0x044 (2 * 2 ^ 28))
def execActGo (who : By) (s : State) : Out := .next (busStore s who P.upd 0x05C 1)
def execExportDone (who : By) (m : Nat) (s : State) : Out := .next (busStore s who P.upd 0x068 (m % 32))
def execActReady (who : By) (m : Nat) (s : State) : Out := .next (busStore s who P.upd 0x06C (m % 32))

end Sys2Proof.Machine
end

