-- ==== Sys2Proof/Machine/Eclipse.lean ====
section
/-!
DEFINITION. Eclipse: triggers, ring requests and read-out (21_eclipse_and_diagnostics.md, R566 to R581).
-/

namespace Sys2Proof.Machine

/-! ## Triggers (R566, R567) -/

/-- ECLIPSE_N: a low pulse of `w` ns on ECLIPSE_N whose falling edge is at `t`. The node's own drive is no trigger. -/
def execEclipseN (t w : Nat) (s : State) : Out :=
  .next (if s.alive && s.on P.ecl F.ECLIPSE_ECL_CFG_PIN_IN && decide (20 ≤ w) && !s.ecl.pinLow then
    freezeCfg (s.atTime t) 1 t
  else s)

/-- ECL_NOW: a write of ECL_CTRL.NOW. -/
def execEclNow (who : By) (s : State) : Out := .next (busStore s who P.ecl 0x054 4)

/-- ECL_ARM: a write of ECL_CTRL.ARM. -/
def execEclArm (who : By) (s : State) : Out := .next (busStore s who P.ecl 0x054 2)

/-- DISARM: a write of ECL_CTRL.DISARM. -/
def execDisarm (who : By) (s : State) : Out := .next (busStore s who P.ecl 0x054 1)

/-- ARM_REACHED: ring time reaches the armed instant. -/
def execArmReached (t : Nat) (s : State) : Out :=
  .next (if s.alive then
    match s.ecl.armed with
    | none => s
    | some (t0, _, _, ring, scope, coll) =>
      if t < t0 then s
      else if ring then freeze (s.atTime t) 4 t0 false true scope coll
      else freezeCfg (s.atTime t) 3 t0
  else s)

/-! ## Ring requests (R573 to R575) -/

/-- A frame of the Eclipse protocol: DIAG, class 3, with this SUBTYPE. -/
def eclFrame (f : Frame) (sub : Nat) : Bool := f.typ == 0xD && f.cls == 3 && frameSub f == sub

/-- The node is a target of the request. -/
def eclTarget (s : State) (f : Frame) : Bool :=
  bitOf (beAt f.pay 8 4) 31 ||
    (List.range (min 16 (bitsOf (beAt f.pay 8 4) 16 8))).any fun j => isOwn s (beAt f.pay (16 + 4 * j) 4 % 4096)

/-- The collector of a request: its own, or that of ECL_CFG. -/
def eclCollector (s : State) (f : Frame) : Nat :=
  let c := beAt f.pay 12 4 % 4096
  if c = 0xFFF then s.rd P.ecl F.ECLIPSE_ECL_CFG_COLLECTOR else c

/-- A request from an allowed source. -/
def eclJudge (s : State) (f : Frame) : State :=
  let t := beAt f.pay 0 8
  let w := beAt f.pay 8 4
  let id := w % 2 ^ 16
  let scope := bitsOf w 30 1
  if bitOf w 29 then
    let s := s.inc P.ecl F.ECLIPSE_CNT_REQ_N
    match s.ecl.armed with
    | some (_, src, i, _, _, _) => if src = f.src ∧ i = id then disarmEcl s else s
    | none => s
  else if s.now < t then armEcl (s.inc P.ecl F.ECLIPSE_CNT_REQ_N) t f.src id true scope (eclCollector s f)
  else if s.now - t ≤ min 1000000 (s.rd P.ecl F.ECLIPSE_ECL_LATE_LATE_ECL) * 1000 then
    freeze (s.inc P.ecl F.ECLIPSE_CNT_REQ_N) 4 s.now true true scope (eclCollector s f)
  else countRaise s P.ecl F.ECLIPSE_CNT_REQ_STALE_N P.ecl 3

/-- ECL_REQ: a received request. -/
def execEclReq (f : Frame) (s : State) : Out :=
  .next (if s.alive && (s.mayInsert || s.st == NS.isolate) && eclFrame f 0x10 && eclTarget s f then
    if remoteOpen s f.src P.ecl then eclJudge s f else countRaise s P.ecl F.ECLIPSE_CNT_REQ_REFUSED_N P.ecl 2
  else s)

/-! ## The segments (R576 to R578) -/

/-- Bytes of each segment. -/
def segSizes : List Nat := [256, 663552, 20480, 2654208, 4194304, 6291456, 2097152, 262144, 524288, 4096]

/-- Length of segment `k`. -/
def segSize (k : Nat) : Nat := segSizes.getD k 0

/-- The debug lock lets the segment out. -/
def segOpen (s : State) (k : Nat) : Bool := decide (k < 10) && (tapOpen s || k == 0 || k == 1 || k == 9)

/-- The logic-die pages in page-number order. -/
def logicPages : List Nat :=
  (pageMap.filter fun r => !r.fieldDie).flatMap fun r => (List.range (r.last + 1 - r.first)).map (r.first + ·)

/-- Byte `x` of a segment: none where the spec gives no content or no layout for it. Segment 1 is read through the pages. -/
def segByte (s : State) (k x : Nat) : Option Nat :=
  match k with
  | 4 => some (if x < 0x200000 then (s.memAt (bankPhys s (0x10000000 + x))).toNat else s.showAt (0x10000000 + x))
  | 6 => some ((storeBytes s x 1).getD 0 0)
  | 8 => some (s.showAt (bankPhys s (0x08000000 + x)))
  | 9 => (bbBytes s.ao.bb).getD x none
  | _ => none

/-- `n` bytes of a segment from `x` on; open bytes are free values. -/
def segRead (s : State) (k x : Nat) : Nat → List Nat × State
  | 0 => ([], s)
  | n + 1 =>
    let b := if k = 1 then
        let w := regPeek s ⟨7, 0⟩ (logicPages.getD (x / 0x1000) 0) (x % 0x1000 / 4 * 4)
        (bitsOf w.1 (8 * (x % 4)) 8, w.2)
      else match segByte s k x with
        | some v => (v % 256, s)
        | none => s.draw 8
    let r := segRead b.2 k (x + 1) n
    (b.1 :: r.1, r.2)

/-- CRC-32 of a segment: open where bytes of it are. -/
def segCrc (s : State) (k : Nat) : Nat × State :=
  if k = 4 ∨ k = 6 ∨ k = 8 then (crc32 (segRead s k 0 (segSize k)).1, s) else s.draw 32

/-! ## Streaming (R580) -/

/-- A DIAG frame of the read-out to the collector. -/
def dumpOut (s : State) (sub seg off : Nat) (pay : List Nat) : Frame :=
  { typ := 0xD, cls := 3, dst := s.ecl.collector, w3 := seg * 2 ^ 28 + off, w4 := sub * 2 ^ 24, pay := pay }

/-- Send the next frame of the stream. -/
def dumpSend (s : State) : State :=
  match s.ecl.stream with
  | [] => s
  | (k, x, e) :: r =>
    if x < e then
      let n := min 2048 (e - x)
      let b := segRead s k x n
      originate { b.2 with ecl := { b.2.ecl with stream := (k, x + n, e) :: r } } 13 (dumpOut s 0x11 k x b.1)
    else
      let c := if segOpen s k then segCrc s k else (0, s)
      originate { c.2 with ecl := { c.2.ecl with stream := r } } 13
        (dumpOut s 0x13 k 0 (beBytes 4 (if segOpen s k then segSize k else 0) ++ beBytes 4 c.1))

/-- A read-out frame is still on its way out of the node. -/
def dumpWaits (s : State) : Bool :=
  (s.sw.offers.any fun o => dumpFrame o.frame) ||
    (List.range 4).any fun p => (swQueue s (outQueue p 3)).any (fun e => dumpFrame e.frame && e.ingress == 13) ||
      (match s.sw.sending.at none p with
        | some (e, _, _) => dumpFrame e.frame && e.ingress == 13
        | none => false)

/-- The stream goes on when its last frame has left. -/
def dumpPump (s : State) : State := if s.st = NS.eclipse ∧ dumpWaits s = false then dumpSend s else s

/-- The range of a segment that a request asks for: a closed segment is answered by DUMP_END alone. -/
def dumpRange (s : State) (k x len : Nat) : Nat × Nat × Nat :=
  if !segOpen s k then (k, 0, 0)
  else (k, min x (segSize k), if len = 0 then segSize k else min (segSize k) (x + len))

/-- A request starts its stream in place of one in progress: SEG 0xF asks for the segments of DUMP_CFG.SEGS. -/
def dumpStart (s : State) (seg x len : Nat) : State :=
  let l := if seg = 0xF then
      ((List.range 10).filter fun k => s.bit P.ecl F.ECLIPSE_DUMP_CFG_SEGS k).map fun k => dumpRange s k 0 0
    else if seg < 10 then [dumpRange s seg x len] else []
  dumpPump { s with ecl := { s.ecl with stream := l } }

/-- The node is frozen in PASS scope. -/
def passFrozen (s : State) : Bool := lanesOn s && s.st == NS.eclipse

/-- DUMP_REQ from the collector. -/
def execDumpReq (f : Frame) (s : State) : Out :=
  .next (if passFrozen s && eclFrame f 0x12 && isOwn s f.dst && f.src == s.ecl.collector then
    dumpStart s (f.w3 / 2 ^ 28 % 16) (f.w3 % 2 ^ 28) (beAt f.pay 0 4)
  else s)

/-- AUTO_DUMP: 1 ms after t_F. -/
def execAutoDump (t : Nat) (s : State) : Out :=
  .next (if passFrozen s && s.on P.ecl F.ECLIPSE_ECL_CFG_AUTO_DUMP && decide (s.ecl.tF + 1000000 ≤ t) &&
      s.ecl.collector != 0xFFF then dumpStart (s.atTime t) 0xF 0 0
  else s)

/-- RELEASE: the collector, or a node that may write the ECLIPSE page, requests the warm reset that ends the Eclipse. -/
def execEclRelease (f : Frame) (s : State) : Out :=
  .next (if passFrozen s && eclFrame f 0x14 && isOwn s f.dst &&
      (f.src == s.ecl.collector || remoteOpen s f.src P.ecl) then requestWarm s RC.eclipse
  else s)

/-- JTAG_READOUT (R579): 32 bits of a segment, without side effect, kept for JTAG. -/
def execJtagReadout (seg off : Nat) (s : State) : Out :=
  .next (if s.node.rails && s.st == NS.eclipse && segOpen s seg && decide (off + 4 ≤ segSize seg) then
    let r := segRead s seg off 4
    readTo ⟨7, 0⟩ (leVal r.1, r.2)
  else s)

/-- FRAME_TRANSMIT_END (R173) at ring time `t`; the read-out stream goes on behind its frame. -/
def execFrameTransmitEnd (p t : Nat) (s : State) : Out :=
  .next (if portRuns s p then dumpPump (transmitEndFull (s.atTime t) p t) else s)

end Sys2Proof.Machine
end

