-- ==== Sys2Proof/Machine/Edge.lean ====
section
/-!
DEFINITION. Meanings of the edge scheduler's time-driven commands (12_scheduled_actuation.md). Times are in 0.5 ns of ring
time.
-/

namespace Sys2Proof.Machine

/-- EDGE_COMMIT (R331): ring time reaches `t2`; CONVERTED edges that are due are committed or judged. -/
def execEdgeCommit (t2 : Nat) (s : State) : Out :=
  .next (if s.alive then settleEdges (edgesCommit (s.atTime (t2 / 2)) t2) else s)

/-- EDGE_PLACE (R337): committed edges of logic-die targets with an instant up to `t2` are placed. -/
def execEdgePlace (t2 : Nat) (s : State) : Out :=
  .next (if s.alive then settleEdges (edgesPlace (s.atTime (t2 / 2)) t2) else s)

/-- FIELD_COMMAND_ARRIVAL (R333): the oldest command on its way to a field channel (kind 1) or branch (kind 3) arrives. -/
def execFieldCommandArrival (kind unit t2 : Nat) (s : State) : Out :=
  .next (if s.alive then settleEdges (fieldCmdArrives (s.atTime (t2 / 2)) kind unit t2) else s)

/-- FIELD_EDGE_ACTION (R337): the field die carries out the commands whose action instant is reached. -/
def execFieldEdgeAction (t2 : Nat) (s : State) : Out :=
  .next (if s.alive then settleEdges (edgesField (s.atTime (t2 / 2)) t2) else s)

end Sys2Proof.Machine
end

