-- ==== Sys2Proof/Machine/Node.lean ====
section
/-!
DEFINITION. Meanings of the stitch link, memory, reset and node-state commands (01_architecture.md, 03_node_states.md).
-/

namespace Sys2Proof.Machine

/-! ## The stitch link (R6 to R8) -/

/-- Consecutive failed replays of flit `n` of direction `d` (R7). -/
def flitReplays (s : State) (d n : Nat) : Nat := s.stitch.replays.at 0 (d * 65536 + n)

/-- A flit of direction `d` has failed 8 consecutive replays. -/
def flitDead (s : State) (d : Nat) : Bool :=
  (if d = 0 then s.stitch.storeOut else s.stitch.storeIn).any fun e => decide (8 ≤ flitReplays s d e.1)

/-- The watchdog time of the field die, ns (R378). -/
def wdtTime (s : State) : Nat := clampNat 50 100000 (s.rd P.fdie F.FDIE_WDT_CFG_TIME) * 1000

/-- STITCH_REPLAY (R6): the flit is sent again from the sender's store; `ok` says whether it passes. Eight failures in a row of one
flit take the link down (R7, STITCH_LINK_DOWN). -/
def execStitchReplay (d n : Nat) (ok : Bool) (s : State) : Out :=
  let held := if d = 0 then s.stitch.storeOut else s.stitch.storeIn
  .next (if s.alive && decide (d < 2) && !s.stitch.down && held.any (·.1 == n) then
    let r := if ok then 0 else flitReplays s d n + 1
    let s := { s with stitch := { s.stitch with replays := s.stitch.replays.put 0 (d * 65536 + n) r } }
    if ok && d == 0 then flitArrives s s.now else s
  else s)

/-- STITCH_LINK_DOWN (R7): a flit of direction `d` has failed 8 consecutive replays. The field die applies the safe states
(cause 2) when it can still be told; with the lanes to it dead its watchdog does (R8, the example after R366). The node records
STITCH. -/
def execStitchLinkDown (d : Nat) (s : State) : Out :=
  .next (if s.alive && decide (d < 2) && !s.stitch.down && flitDead s d then
    let s := if d = 0 then s else safeTrigger s allChans 2
    ownFault { s with stitch := { s.stitch with down := true, outDead := d == 0 } } OF.stitch
  else faultAtFreeze s (decide (d < 2) && !s.stitch.down && flitDead s d) OF.stitch)

/-- HEARTBEAT_FLIT (R8): a flit leaves at `t`; `ok` says that it arrives valid, and the field die then acknowledges it. -/
def execHeartbeatFlit (t : Nat) (ok : Bool) (s : State) : Out :=
  .next (if s.alive && !s.stitch.down then
    let s := flitOut (s.atTime t) []
    if ok then flitIn (flitArrives s t) [] else s
  else s)

/-- FDIE_WATCHDOG_EXPIRY (R8): no valid flit for the watchdog time. The field die runs on its own clock, through an Eclipse
too; a running logic die that it can still reach records FDIE_WDT, and one that froze at `t` or later does (R57). -/
def execFdieWatchdogExpiry (t : Nat) (s : State) : Out :=
  .next (if s.node.rails && !s.stitch.wdtFired && decide (s.stitch.lastFlit + wdtTime s ≤ s.upAt t) then
    let live := s.alive
    let ev : Ev := if live then raise else evOnly
    let s := { s with stitch := { s.stitch with wdtFired := true } }
    let s := fdieEv ev (s.inc P.fdie F.FDIE_CNT_WDT_N) 5
    let s := if s.alive then safeTrigger s allChans 1 else safeEnter evOnly s allChans 1
    if (live || (s.st == NS.eclipse && decide (t ≤ s.ecl.tF))) && !s.stitch.down then ownFault s OF.fdieWdt else s
  else s)

/-! ## Memory (R12) -/

/-- ECC_ERROR (R12): a corrected error is counted, one in a cell by CNT_ECC_CORR; an uncorrectable one in the item store, the
session tables or the table RAM is an own-fault, and on a core access an access fault with the address captured. -/
def execEccError (m : Nat) (corr : Bool) (page addr ini : Nat) (s : State) : Out :=
  .next (if !s.alive then faultAtFreeze s (!corr && decide (m < 3)) (if m < 2 then OF.eccTrack else OF.eccTable)
  else if corr && m == 3 then s.inc P.pool F.CELLPOOL_CNT_ECC_CORR_N
  else if corr then { s with node := { s.node with eccCorr := s.node.eccCorr + 1 } }
  else
    let s := if ini < 5 ∧ (pageRow page).isSome then (errCapture s page 1 addr ini 0).accFault ini addr else s
    if m < 2 then ownFault s OF.eccTrack else if m = 2 then ownFault s OF.eccTable else s)

/-! ## Resets (R20 to R28, R588, R589) -/

/-- RAILS_GOOD (R588): the four rails have been in range for 1 ms; the node leaves SHELF through a cold reset. -/
def execRailsGood (s : State) : Out :=
  .next (if s.node.rails then s else coldReset { s with node := { s.node with rails := true } } false)

/-- RAIL_FAIL (R589, R50): the detector asserts cold reset and the node is in SHELF. A black-box write that was running is cut,
and the AO CRC fails (R23). DEDUCED (log 115): under SERVICE power the rails fail with VBUS0. -/
def execRailFail (s : State) : Out :=
  .next (if s.node.rails then
    let s := if s.service then vbusFall s else s
    let s := coldReset { s with node := { s.node with rails := false } } false
    if s.ao.writing.isSome then { s with ao := { s.ao with valid := false, writing := none } } else s
  else s)

/-- AO_SUPPLY_FAIL (R23): AO has lost its supply while the rails are down. -/
def execAoSupplyFail (s : State) : Out :=
  .next (if s.node.rails then s else { s with ao := { s.ao with valid := false, writing := none } })

/-- RST_N_LOW (R588, R608): a low pulse of `w` ns. From 1 µs it causes a cold reset and restarts the power-entry core; below
100 ns it is ignored; between, which of the two happens is open. -/
def execRstNLow (w : Nat) (s : State) : Out :=
  .next (if w < 100 ∨ s.node.rstLow then s
  else
    let d := if w < 1000 then s.draw 1 else (1, s)
    if d.1 = 1 then coldReset { d.2 with node := { d.2.node with rstLow := true } } true else d.2)

/-- RST_N_RELEASE (R588): the cold reset ends where the rails are good. -/
def execRstNRelease (s : State) : Out := .next { s with node := { s.node with rstLow := false } }

/-- WARM_RESET (R20, R25 to R28): the requests merged so far take effect, unless a last-gasp record is being written. -/
def execWarmReset (s : State) : Out :=
  let gasp := match s.ao.writing with
    | some (k, _) => k == 1
    | none => false
  .next (if s.node.rails && !s.node.rstLow && !s.node.inReset && !s.node.resetReq.isEmpty then
    if gasp then { s with node := { s.node with resetWait := true } } else warmReset s
  else s)

/-- GW_RESET_DEFER_EXPIRY (R69): the partner has not carried the joint for 1 s. -/
def execGwResetDeferExpiry (t : Nat) (s : State) : Out :=
  .next (if s.alive && !s.node.gwReset.isEmpty && decide (s.node.gwSince + 1000000000 ≤ s.upAt t) then
    let s := { s.atTime t with node := { s.node with gwReset := [] } }
    deferDropped (s.wr P.node F.NODE_DEFER_GW_RESET 0)
  else s)

/-! ## Node states -/

/-- JOIN_ALONE (R56): no ring lane has come up within 5 s of entering JOIN. -/
def execJoinAlone (t : Nat) (s : State) : Out :=
  .next (if s.alive && s.st == NS.join && !s.node.laneSeen && decide (s.node.joinSince + 5000000000 ≤ s.upAt t) then
    (s.atTime t).wr P.node F.NODE_STATE_INFO_ALONE 1
  else s)

/-- CUT_OFF (R58): no SUPERVISION frame from any former neighbour for 3 consecutive ticks. -/
def execCutOff (s : State) : Out :=
  .next (if s.alive && decide (3 ≤ s.node.supMiss) then ownFault { s with node := { s.node with supMiss := 0 } } OF.cutOff
  else faultAtFreeze s (decide (3 ≤ s.node.supMiss)) OF.cutOff)

end Sys2Proof.Machine
end

