-- ==== Sys2Proof/Machine/Time.lean ====
section
/-!
DEFINITION. Meanings of the commands of ring time: TICK copies, probes, deadlines, the Zenith role and tick commands
(04_tick_and_ring_time.md).
-/

namespace Sys2Proof.Machine

/-! ## TICK copies (R86 to R88, R91, R104) -/

/-- The node judges TICK copies on ring 0: its time base is servoed, and in JOIN it listens once it has an address (R99). -/
def hearsTick (s : State) : Bool := s.alive && servoed s && (s.st != NS.join || s.ownValid)

/-- A TICK copy on a ring-k lane of a gateway (R104): only the source of ring k is judged by it; the time base follows ring 0. -/
def tickOnK (s : State) (i : Nat) (f : Frame) (stamp16 : Nat) : State :=
  let x := tickSource f
  let cur := if s.time.srcK.orig && !s.time.yieldK then some (s.time.srcK.epoch, s.time.srcK.prio, (sideAddr s true).2) else s.time.folK
  if !hearsTick s then forwardTick s i f stamp16
  else if !acceptable cur x then s.inc P.time F.TIME_CNT_REJECT_N
  else
    let s := { s with time := { s.time with
      yieldK := s.time.yieldK || s.time.srcK.orig, folK := some x, gotK := true, missK := 0
      srcK := if s.time.srcK.orig then s.time.srcK else { s.time.srcK with asym := tickAsym f, epoch := x.1 } } }
    forwardTick s i f stamp16

/-- TICK_RECEIVED (R91): a TICK copy arrives on lane `i` at `t` ns and `fr` 2^-16 ns. A copy of the node's own TICK is no
statement of another source: it is consumed (R87; TICK_CLOSURE). A node whose time base is not servoed only forwards, and so
does a lane that R90 has stopped using for time. DESIGN CHOICE (log 97): a TICK on a lane that R90 does not let it use counts as
none heard in the listening time (R99). -/
def execTickReceived (i t fr : Nat) (f : Frame) (s : State) : Out :=
  .next (if lanesOn s && decide (i < 4) && ringLane s i && laneUp s i && f.typ == 1 then
    let s := rxCount s i f
    let stamp : Int := (t * 65536 + fr % 65536 : Nat)
    if isOwn s f.src then s
    else if !s.alive then forwardTick s i f (16 * t + fr % 65536 / 4096)
    else
      let s := s.atTime t
      if !(probe s i).usable then forwardTick s i f (16 * t + fr % 65536 / 4096)
      else if laneK i then tickOnK s i f (16 * t + fr % 65536 / 4096)
      else if !hearsTick s then forwardTick s i f (16 * t + fr % 65536 / 4096)
      else if !acceptable (followed s) (tickSource f) then s.inc P.time F.TIME_CNT_REJECT_N
      else
        -- the residence time leaves out a step of ring time: it is taken on the new count
        let first := !s.time.stepped
        let est := tickEst s i f (tickAsym f)
        forwardTick (acceptTick s i f stamp) i f
          (if first then (est / 4096).toNat else 16 * t + fr % 65536 / 4096)
  else s)

/-- TICK_CLOSURE (R87, R94): a source's own TICK returns on lane `i`. It is consumed. -/
def execTickClosure (i t fr : Nat) (f : Frame) (s : State) : Out :=
  .next (if s.alive && decide (i < 4) && ringLane s i && laneUp s i && f.typ == 1 && isOwn s f.src &&
      (if laneK i then s.time.srcK.orig else s.time.src.orig) then
    let s := rxCount (s.atTime t) i f
    closure s i f (t * 65536 + fr % 65536 : Nat)
  else s)

/-! ## Probes (R89, R90) -/

/-- The node's time base probes its links (R60). -/
def probes (s : State) : Bool := s.alive && (s.working || s.isIn [NS.join, NS.isolate])

/-- A probe frame of lane `i`, outside the switch queues (R150). -/
def probeFrame (s : State) (i sub : Nat) (pay : List Nat) : Frame :=
  { typ := 0xD, cls := 7, copy := laneRole s i, reach := 1, dst := nbrAddr s i, src := ownOn s i, tick := s.tick % 65536
    w4 := sub * 2 ^ 24, pay := pay }

/-- Send it. -/
def sendProbe' (s : State) (i : Nat) (f : Frame) : State :=
  (s.emit (lanePort s i) f).inc (P.lane i) F.LANE_TX_FRAMES_N

/-- PROBE_SEND (R89): a probe leaves on an UP lane at `t1`. A probe of the tick before that is still unanswered has failed. -/
def execProbeSend (i t1 : Nat) (s : State) : Out :=
  .next (if probes s && decide (i < 4) && laneUp s i then
    let s := if (probe s i).t1.isSome then probeFailed s i else s
    let x := probe s i
    let n := (x.num + 1) % 2 ^ 32
    sendProbe' (setProbe s i { x with num := n, t1 := some t1 }) i (probeFrame s i 2 (beBytes 4 n ++ beBytes 4 0))
  else s)

/-- PROBE (R89): a probe is answered with its receive stamp `t2` and the send stamp `t3`. -/
def execProbe (i : Nat) (f : Frame) (t2 t3 : Nat) (s : State) : Out :=
  .next (if probes s && decide (i < 4) && laneUp s i && f.typ == 0xD && frameSub f == 2 then
    sendProbe' (rxCount s i f) i
      (probeFrame s i 3 (slice f.pay 0 4 ++ beBytes 4 0 ++ beBytes 8 t2 ++ beBytes 8 t3))
  else s)

/-- PROBE_REPLY (R89): the reply to the outstanding probe arrives at `t4`; d = ((t4 − t1) − (t3 − t2)) / 2. -/
def execProbeReply (i : Nat) (f : Frame) (t4 : Nat) (s : State) : Out :=
  .next (if probes s && decide (i < 4) && laneUp s i && f.typ == 0xD && frameSub f == 3 then
    let s := rxCount s i f
    match (probe s i).t1 with
    | some t1 =>
      if beAt f.pay 0 4 = (probe s i).num then
        let two : Int := ((t4 : Int) - t1) - ((beAt f.pay 16 8 : Int) - beAt f.pay 8 8)
        probeValue s i (rnd Rnd.probe ((two : Rat) / 2))
      else s
    | none => s
  else s)

/-- PROBE_FAIL (R90): the tick ends with a probe unanswered. -/
def execProbeFail (i : Nat) (s : State) : Out :=
  .next (if probes s && decide (i < 4) && (probe s i).t1.isSome then probeFailed s i else s)

/-! ## Deadlines and the role (R79, R96, R99 to R102, R104) -/

/-- MISS_DEADLINE (R96, R91): D(n) passes, before the first TICK as after it. A gateway judges the source of ring k at the same
deadline. A time base that is not servoed misses nothing (R60). -/
def execMissDeadline (n t : Nat) (s : State) : Out :=
  .next (if s.alive && decide (n = s.time.missNext ∧ n ≤ s.tick ∧ missDeadline s n ≤ t) then
    let s := s.atTime t
    if !servoed s then { s with time := { s.time with missNext := n + 1 } } else
    let s := { s with time := { s.time with missK := if s.time.gotK then 0 else s.time.missK + 1, gotK := false } }
    if s.time.src.orig then { s with time := { s.time with missNext := n + 1 } } else missJudge s n t
  else s)

/-- Listening time of a node in JOIN, ns (R99). -/
def listenTime (s : State) : Option Nat :=
  if s.own = 0 then some 20000000
  else match standbyPrio s with
    | 1 => some 40000000
    | 2 => some 60000000
    | _ => none

/-- ZENITH_LISTEN_EXPIRY (R99, R79): nothing has been heard for the listening time. Ring time is set from the 802.1AS time,
or from the AO RTC; tick 0 is the first whole microsecond at least 1 ms later; the line state is HALT. The compares of the cores
follow (R510). -/
def execZenithListenExpiry (t : Nat) (s : State) : Out :=
  .next (if s.alive && s.st == NS.join && s.ownValid && !alone s && s.time.listen && !s.on P.time F.TIME_ZENITH_VALID then
    match listenTime s with
    | none => s
    | some w =>
      if s.upAt t < s.halo.announcedAt + w then s
      else
        let now := (asTime s t).getD (s.ao.rtc * 1000000000)
        let s := judgeMargin ((s.wr P.time F.TIME_TICK_CFG_LEN (freeL s)).each 8 judgeLead)
        let t0 := (now + 1000000 + 999) / 1000 * 1000
        -- the tick in progress ends at the first instant of the new count
        let s := { s with time := { s.time with
          now := now, count := now * 2 ^ 32, lens := [], base := s.time.base + ((now : Int) - t),
          start := some t0, tStart := t0 - s.tickL, listen := false } }
        (becomeSource (setLine s 0) 0 (if s.own = 0 then 0 else standbyPrio s)).each 5 mtipFollow
  else s)

/-- TAKEOVER (R100, R104): the standby takes the role before the tick instant at which it first originates. On ring k the
partner gateway acts as a standby of priority 1. -/
def execTakeover (k : Bool) (s : State) : Out :=
  .next (if s.alive && s.working then
    if k then
      match s.time.folK with
      | some x =>
        if isGateway s && !s.on P.time F.TIME_ROLE_CFG_GW_PRIMARY && !s.time.srcK.orig && decide (2 ≤ s.time.missK) then
          let s := { s with time := { s.time with folK := none, missK := 0 } }
          let s := gwTakes { s with time := { s.time with
            srcK := { asym := s.time.srcK.asym, epoch := (x.1 + 1) % 256, prio := 1 } } }
          raise s P.time 8
        else s
      | none => s
    else
      let p := standbyPrio s
      if s.role == 2 && !s.time.src.orig && decide ((p = 1 ∧ 2 ≤ s.rd P.time F.TIME_SERVO_STAT_MISSED) ∨
          (p = 2 ∧ 4 ≤ s.rd P.time F.TIME_SERVO_STAT_MISSED)) then
        raise (becomeSource s ((s.rd P.time F.TIME_SOURCE_EPOCH + 1) % 256) p) P.time 8
      else s
  else s)

/-- ZENITH_YIELD (R101): a source that has accepted a TICK with precedence stops originating. -/
def execZenithYield (s : State) : Out :=
  .next (if s.alive then
    let s := if s.time.yield then stopSource s else s
    if s.time.yieldK then gwYields s else s
  else s)

/-! ## Tick commands taking effect (R105, R108): the first stored command of the code that is due -/

/-- LINE. -/
def execLine (s : State) : Out :=
  .next (if s.alive then
    match takeCmd s 1 with
    | (some c, s) => lineTransition (cmdLine s c.arg)
    | (none, s) => s
  else s)

/-- TICK_LEN. -/
def execTickLen (s : State) : Out :=
  .next (if s.alive then
    match takeCmd s 2 with
    | (some c, s) => cmdTickLen s c.arg
    | (none, s) => s
  else s)

/-- WINDOW. -/
def execWindow (s : State) : Out :=
  .next (if s.alive then
    match takeCmd s 3 with
    | (some c, s) => cmdWindow s c.arg
    | (none, s) => s
  else s)

/-- ZENITH_MOVE. -/
def execZenithMove (s : State) : Out :=
  .next (if s.alive then
    match takeCmd s 4 with
    | (some c, s) => cmdZenithMove s c.arg
    | (none, s) => s
  else s)

/-- The first stored USER command that is due. -/
def takeUser (s : State) : Option TickCmd × State :=
  match s.time.cmds.find? fun c => decide (0x10 ≤ c.code ∧ c.code ≤ 0x1F ∧ c.eff ≤ s.tick) with
  | some c => (some c, { s with time := { s.time with cmds := s.time.cmds.erase c } })
  | none => (none, s)

/-- USER. -/
def execUser (s : State) : Out :=
  .next (if s.alive then
    match takeUser s with
    | (some c, s) => cmdUser s c.code c.arg
    | (none, s) => s
  else s)

end Sys2Proof.Machine
end

