-- ==== Sys2Proof/Machine/Tick.lean ====
section
/-!
DEFINITION. The commit point and the tick instant (04_tick_and_ring_time.md, R78 to R84; 02_register_pages.md, R37): the steps
of R82 in their order, and what each block does at T(n).
-/

namespace Sys2Proof.Machine

/-! ## The commit point (R83) -/

/-- C(n) passes: the cores are judged, and an activation with them. -/
def commitPoint (s : State) : State :=
  if s.time.pastC then s
  else
    let s := commitJudge (s.atTime (commitAt s))
    actCommit s s.time.clean

/-- COMMIT_POINT. -/
def execCommitPoint (s : State) : Out := .next (if s.alive then commitPoint s else s)

/-! ## Tick commands (R82 step 1, R108, R554) -/

/-- Stored ACTIVATE commands become requests. -/
def takeActivates (s : State) : State :=
  let l := s.time.cmds.filter fun c => c.code == 5
  l.foldl (fun t c => actRequest t c.eff c.arg)
    { s with time := { s.time with cmds := s.time.cmds.filter fun c => c.code != 5 } }

/-- The commands due, in slot order. -/
def dueCommands (s : State) : State :=
  let due := s.time.cmds.filter fun c => decide (c.eff ≤ s.tick)
  ((List.range 4).flatMap fun k => due.filter fun c => c.slot % 4 == k).foldl applyCmd
    { s with time := { s.time with cmds := s.time.cmds.filter fun c => decide (s.tick < c.eff) } }

/-! ## Staged values (R82 step 2, R37) -/

/-- The field that a key names, among the fields with access code RWS. -/
def stagedFld (k : Key) : Option Fld := (pageFields k.page).find? fun f => f.acc == .rws && f.off == k.off && f.lsb == k.lsb

/-- Late staged values take the place of earlier ones of the same fields. -/
def overlay (a b : List (Key × Nat)) : List (Key × Nat) :=
  b.foldl (fun l e => alInsert Key.lt (alErase l e.1) e.1 e.2) a

/-- One staged value becomes active. The bank selects raise their events (R17, R507, R558). -/
def activate (s : State) (e : Key × Nat) : State :=
  match stagedFld e.1 with
  | none => s
  | some f =>
    if e.1.page = P.cores ∧ f = F.CORES_BANK_ACTIVE then bankSwap s (e.2 % 2)
    else if e.1.page = P.mgmt ∧ f = F.MGMT_MBANK_ACTIVE then
      if s.rd P.mgmt F.MGMT_MBANK_ACTIVE = e.2 % 2 then s else raise (s.wr P.mgmt F.MGMT_MBANK_ACTIVE e.2) P.mgmt 2
    else s.wr e.1.page f e.2

/-- What follows from the values that have become active: signal owners (R417), engines told to stop (R418), subscriptions (R194), the margin (R81) and the
ranges of the time base (R110). -/
def activated (old s : State) (l : List (Key × Nat)) : State :=
  let pages := l.map (·.1.page)
  let s := pages.foldl (fun t p => t.wr p F.HDR_COMMIT_APPLIED_TICK t.tick) s
  let s := if pages.contains P.pinmux then s.each 160 (sigOwnerChange old) else s
  let s := s.each 24 fun t e => if pages.contains (P.pio e) then pioHalt t e else t
  let s := if pages.contains P.sub then
      s.each 256 fun t i =>
        if t.on P.sub (F.SUBSCRIBE_SUB_MATCH_EN i) && !old.on P.sub (F.SUBSCRIBE_SUB_MATCH_EN i) then subEnabled t i else t
    else s
  judgeZones (if pages.contains P.time then
    judgeRanges (judgeMargin s) fun f => l.any fun e => e.1.page == P.time && e.1.off == f.off && e.1.lsb == f.lsb else s)

/-- The staged values of every page become active together after a clean commit point, else they stay for a later one. -/
def applyStaged (s : State) (clean : Bool) : State :=
  if clean then
    let l := s.staged
    let t := l.foldl activate { s with staged := s.stagedLate, stagedLate := [] }
    if l.isEmpty then t else activated s t l
  else { s with staged := overlay s.staged s.stagedLate, stagedLate := [] }

/-! ## The tick instant -/

/-- Arms of LOCK_KEY end at the second tick instant (R46). -/
def armsTick (s : State) : State :=
  { s with node := { s.node with keyArms := (s.node.keyArms.map fun e => (e.1, e.2.1, e.2.2 - 1)).filter fun e => e.2.2 != 0 } }

/-- A track slot that has been told to stop stands from here on (R30). -/
def tracksStop (s : State) : State :=
  s.each 8 fun t k =>
    if t.stopReq (P.track k) && !t.stopped (P.track k) then
      settleEdges (edgesSync (judgeZones (slotRefresh (t.wr (P.track k) F.HDR_PAGE_STAT_STOPPED 1) k)) (2 * t.now))
    else t

/-- Steps 1 to 3 of R82 with the time base. Shaper credits run on under the gates that the new tick opens with (R165, R172). -/
def tickFirst (s : State) (clean : Bool) : State :=
  let s := freeRun (tickAdvance (takeActivates (actRevert (nbrTick s))))
  let s := (applyStaged (dueCommands s) clean).each 8 fun t p => shapeTo t p t.now
  actTick (gwResetTick (tickTransitions s)) clean

/-- The time base and its source at T(n) (R86, R92, R95, R103). A node that takes TIME_LOCK by originating its first TICK
completes join at this tick instant (R93, R50). -/
def tickSourceStep (s : State) : State := joinExit (oneSided (sourceInstant (incrTick s)))

/-- Step 4 of R82: sampling, channels, swap. -/
def tickSample (s : State) : State := pubSwap (pubTake (tracksTick (tracksStop (captureTick (fieldLatch s)))))

/-- The warm reset follows entry to ISOLATE by at most 10 ms, with the record or without it (R59). DESIGN CHOICE (log 94): it is
judged at tick instants, and requested at the last one that keeps the limit. -/
def isolateLimit (s : State) : State :=
  if s.st = NS.isolate ∧ s.node.isoRecord = true ∧ s.node.isoSince + 10000000 < s.upAt s.now + s.tickL then
    requestWarm { s with node := { s.node with isoRecord := false } } RC.isolate
  else s

/-- Step 5 of R82, and what other blocks do at a tick instant. -/
def tickLast (s : State) : State :=
  let s := { s.wr P.time F.TIME_CORE_DONE_DONE 0 with time := { s.time with pastC := false, clean := false } }
  let s := driftTick (changeRepeats (armsTick (edgesConvert (tickEvents s))))
  isolateLimit (pumpExports (xferPump (inRetry (pumpOffers s))))

/-- TICK_INSTANT (R78, R82): ring time reaches T(n). The commit point of the tick that ends has passed before. -/
def execTickInstant (s : State) : Out :=
  .next (if s.alive then
    let s := commitPoint s
    tickLast (tickSample (tickSourceStep (tickFirst s s.time.clean)))
  else s)

end Sys2Proof.Machine
end

