-- ==== Sys2Proof/Machine/Xfer.lean ====
section
/-!
DEFINITION. The commands of the transfer engine (08_transactions_and_bridging.md, R234, R235).
-/

namespace Sys2Proof.Machine

/-- The channel may start a descriptor: enabled, not halted, not told to stop, with one to start and room for it (R240; the
page's ENABLE is storage only, R607). -/
def chanMayStart (s : State) (c : Nat) : Bool :=
  !s.stopped P.xfer && !s.stopReq P.xfer && s.on P.xfer (F.XFER_CH_CFG_EN c) && !s.on P.xfer (F.XFER_CH_STAT_HALTED c) &&
    s.rd P.xfer (F.XFER_CH_TAIL_IDX c) != s.rd P.xfer (F.XFER_CH_HEAD_IDX c) % descRing s c && decide (descsTotal s < 512)

/-- XFER_START (R235): channel `c` fetches the descriptor at its tail and starts it; `ecc` says that the fetch fails ECC. The ring
lies in the system SRAM data region; a fetch from outside it ends the descriptor with the error status of an access fault (R11). -/
def execXferStart (c : Nat) (ecc : Bool) (s : State) : Out :=
  .next (if s.alive && decide (c < 8) then
    let s := xferPump s
    if !chanMayStart s c then s
    else
      let idx := s.rd P.xfer (F.XFER_CH_TAIL_IDX c)
      let a := descAddr s c idx
      let out := decide (a < 0x10200000 ∨ 0x10400000 < a + 32)
      let b := s.memRead a 32
      if descFence b && !(descsOf s c).isEmpty && !ecc && !out then s
      else
        let s := s.wr P.xfer (F.XFER_CH_TAIL_IDX c) ((idx + 1) % descRing s c)
        let d := parseDesc s idx b
        let d := if ecc || out then
            { d with irq := false, evt := false, next := d.len, status := if out then TS.addrErr else TS.ecc, ownEcc := !out }
          else d
        xferPump (setDescs s c (descsOf s c ++ [d]))
  else s)

/-- XFER_COMPLETE (R234, R235): descriptor `idx` of channel `c` has come to its end; `ecc` says that its write-back fails ECC. -/
def execXferComplete (c idx : Nat) (ecc : Bool) (s : State) : Out :=
  .next (if s.alive && decide (c < 8) then
    let s := xferPump s
    match (descsOf s c).find? (·.idx == idx) with
    | some d => if descOver d then descComplete s c d ecc else s
    | none => s
  else s)

end Sys2Proof.Machine
end

