-- ==== Sys2Proof/Machine/Dispatch.lean ====
section
/-!
DEFINITION. The dispatch of a command to its meaning: one arm per row of the command table, in the table's order.
-/

namespace Sys2Proof.Machine

def exec (i : Instr) (s : State) : Host.Outcome State Fault Refusal :=
  match i with
  | .stitchReplay d n ok => Sys2Proof.Machine.execStitchReplay d n ok s
  | .stitchLinkDown d => Sys2Proof.Machine.execStitchLinkDown d s
  | .heartbeatFlit t ok => Sys2Proof.Machine.execHeartbeatFlit t ok s
  | .fdieWatchdogExpiry t => Sys2Proof.Machine.execFdieWatchdogExpiry t s
  | .fieldPageAccessDone who page off wr => Sys2Proof.Machine.execFieldPageAccessDone who page off wr s
  | .eccError m corr page addr ini => Sys2Proof.Machine.execEccError m corr page addr ini s
  | .pwrCtrlWrite who m => Sys2Proof.Machine.execPwrCtrlWrite who m s
  | .domainOff d => Sys2Proof.Machine.execDomainOff d s
  | .railsGood => Sys2Proof.Machine.execRailsGood s
  | .railFail => Sys2Proof.Machine.execRailFail s
  | .rstNLow w => Sys2Proof.Machine.execRstNLow w s
  | .warmReset => Sys2Proof.Machine.execWarmReset s
  | .bootRomStart bootsel errA errB => Sys2Proof.Machine.execBootRomStart bootsel errA errB s
  | .registerWrite who page off word => Sys2Proof.Machine.execRegisterWrite who page off word s
  | .pageStop page who stop => Sys2Proof.Machine.execPageStop page who stop s
  | .blockStopped page => Sys2Proof.Machine.execBlockStopped page s
  | .evForce page who m => Sys2Proof.Machine.execEvForce page who m s
  | .commitDiscard page who => Sys2Proof.Machine.execCommitDiscard page who s
  | .lockKey page who word => Sys2Proof.Machine.execLockKey page who word s
  | .keyArmLapse page => Sys2Proof.Machine.execKeyArmLapse page s
  | .resetCtrl who key => Sys2Proof.Machine.execResetCtrl who key s
  | .stateReq who target => Sys2Proof.Machine.execStateReq who target s
  | .joinAlone t => Sys2Proof.Machine.execJoinAlone t s
  | .cutOff => Sys2Proof.Machine.execCutOff s
  | .isolateRecordWritten => Sys2Proof.Machine.execIsolateRecordWritten s
  | .gwResetDeferExpiry t => Sys2Proof.Machine.execGwResetDeferExpiry t s
  | .feedWindowSettled t => Sys2Proof.Machine.execFeedWindowSettled t s
  | .feedsLost => Sys2Proof.Machine.execFeedsLost s
  | .tickInstant => Sys2Proof.Machine.execTickInstant s
  | .commitPoint => Sys2Proof.Machine.execCommitPoint s
  | .coreDone who m => Sys2Proof.Machine.execCoreDone who m s
  | .tickReceived lane t fr f => Sys2Proof.Machine.execTickReceived lane t fr f s
  | .tickClosure lane t fr f => Sys2Proof.Machine.execTickClosure lane t fr f s
  | .probeSend lane t1 => Sys2Proof.Machine.execProbeSend lane t1 s
  | .probe lane f t2 t3 => Sys2Proof.Machine.execProbe lane f t2 t3 s
  | .probeReply lane f t4 => Sys2Proof.Machine.execProbeReply lane f t4 s
  | .probeFail lane => Sys2Proof.Machine.execProbeFail lane s
  | .missDeadline n t => Sys2Proof.Machine.execMissDeadline n t s
  | .zenithListenExpiry t => Sys2Proof.Machine.execZenithListenExpiry t s
  | .takeover k => Sys2Proof.Machine.execTakeover k s
  | .zenithYield => Sys2Proof.Machine.execZenithYield s
  | .cmdGo who => Sys2Proof.Machine.execCmdGo who s
  | .lineReq who v => Sys2Proof.Machine.execLineReq who v s
  | .line => Sys2Proof.Machine.execLine s
  | .tickLen => Sys2Proof.Machine.execTickLen s
  | .window => Sys2Proof.Machine.execWindow s
  | .zenithMove => Sys2Proof.Machine.execZenithMove s
  | .activate => Sys2Proof.Machine.execActivate s
  | .user => Sys2Proof.Machine.execUser s
  | .cntClear page who => Sys2Proof.Machine.execCntClear page who s
  | .signalDetect lane => Sys2Proof.Machine.execSignalDetect lane s
  | .blockLock lane inv => Sys2Proof.Machine.execBlockLock lane inv s
  | .lockTimeout lane => Sys2Proof.Machine.execLockTimeout lane s
  | .signalTimeout lane => Sys2Proof.Machine.execSignalTimeout lane s
  | .helloSend lane => Sys2Proof.Machine.execHelloSend lane s
  | .hello lane f => Sys2Proof.Machine.execHello lane f s
  | .helloTimeout lane => Sys2Proof.Machine.execHelloTimeout lane s
  | .laneDown lane cause => Sys2Proof.Machine.execLaneDown lane cause s
  | .flapHoldEnd lane t => Sys2Proof.Machine.execFlapHoldEnd lane t s
  | .ppmWindow lane ppm => Sys2Proof.Machine.execPpmWindow lane ppm s
  | .crcWindow lane => Sys2Proof.Machine.execCrcWindow lane s
  | .ringFrameReceived lane hd f part t => Sys2Proof.Machine.execRingFrameReceived lane hd f part t s
  | .haloEntryAged src g t => Sys2Proof.Machine.execHaloEntryAged src g t s
  | .announce lane f t => Sys2Proof.Machine.execAnnounce lane f t s
  | .holdDone t => Sys2Proof.Machine.execHoldDone t s
  | .neighbourSend t => Sys2Proof.Machine.execNeighbourSend t s
  | .neighbour lane f => Sys2Proof.Machine.execNeighbour lane f s
  | .neighbourMissed lane => Sys2Proof.Machine.execNeighbourMissed lane s
  | .change f => Sys2Proof.Machine.execChange f s
  | .statusSend => Sys2Proof.Machine.execStatusSend s
  | .duplicate f => Sys2Proof.Machine.execDuplicate f s
  | .entrySel who grp src => Sys2Proof.Machine.execEntrySel who grp src s
  | .portDown p => Sys2Proof.Machine.execPortDown p s
  | .frameTransmitStart p t => Sys2Proof.Machine.execFrameTransmitStart p t s
  | .frameTransmitEnd p t => Sys2Proof.Machine.execFrameTransmitEnd p t s
  | .gateChange p t => Sys2Proof.Machine.execGateChange p t s
  | .squallInterval m => Sys2Proof.Machine.execSquallInterval m s
  | .cellEccError id addr => Sys2Proof.Machine.execCellEccError id addr s
  | .pubReady who hi m => Sys2Proof.Machine.execPubReady who hi m s
  | .channelOffer => Sys2Proof.Machine.execChannelOffer s
  | .publishReceived f t => Sys2Proof.Machine.execPublishReceived f t s
  | .remoteLoad k a n => Sys2Proof.Machine.execRemoteLoad k a n s
  | .remoteStore k a b => Sys2Proof.Machine.execRemoteStore k a b s
  | .remoteAmo k a n kind v => Sys2Proof.Machine.execRemoteAmo k a n kind v s
  | .rd32 f ecc => Sys2Proof.Machine.execRd32 f ecc s
  | .rd64 f ecc => Sys2Proof.Machine.execRd64 f ecc s
  | .rdblk f ecc => Sys2Proof.Machine.execRdblk f ecc s
  | .wr32 f => Sys2Proof.Machine.execWr32 f s
  | .wr64 f => Sys2Proof.Machine.execWr64 f s
  | .wrblk f => Sys2Proof.Machine.execWrblk f s
  | .and32 f ecc => Sys2Proof.Machine.execAnd32 f ecc s
  | .or32 f ecc => Sys2Proof.Machine.execOr32 f ecc s
  | .add32 f ecc => Sys2Proof.Machine.execAdd32 f ecc s
  | .cas32 f ecc => Sys2Proof.Machine.execCas32 f ecc s
  | .and64 f ecc => Sys2Proof.Machine.execAnd64 f ecc s
  | .or64 f ecc => Sys2Proof.Machine.execOr64 f ecc s
  | .add64 f ecc => Sys2Proof.Machine.execAdd64 f ecc s
  | .cas64 f ecc => Sys2Proof.Machine.execCas64 f ecc s
  | .event f => Sys2Proof.Machine.execEvent f s
  | .txnCpl f => Sys2Proof.Machine.execTxnCpl f s
  | .txnResend n => Sys2Proof.Machine.execTxnResend n s
  | .txnTimeout n => Sys2Proof.Machine.execTxnTimeout n s
  | .holdingSlotRelease k => Sys2Proof.Machine.execHoldingSlotRelease k s
  | .streamSlotRelease k => Sys2Proof.Machine.execStreamSlotRelease k s
  | .orphPop who => Sys2Proof.Machine.execOrphPop who s
  | .evout who dst k v => Sys2Proof.Machine.execEvout who dst k v s
  | .handoverDone => Sys2Proof.Machine.execHandoverDone s
  | .xferStart c ecc => Sys2Proof.Machine.execXferStart c ecc s
  | .xferComplete c idx ecc => Sys2Proof.Machine.execXferComplete c idx ecc s
  | .pop q who => Sys2Proof.Machine.execPop q who s
  | .peek q who => Sys2Proof.Machine.execPeek q who s
  | .dropRest q who => Sys2Proof.Machine.execDropRest q who s
  | .mark q who => Sys2Proof.Machine.execMark q who s
  | .markClear q who => Sys2Proof.Machine.execMarkClear q who s
  | .rewind q who => Sys2Proof.Machine.execRewind q who s
  | .flush q who => Sys2Proof.Machine.execFlush q who s
  | .push who k len => Sys2Proof.Machine.execPush who k len s
  | .sesEnable who rsid dst => Sys2Proof.Machine.execSesEnable who rsid dst s
  | .sesDisable who => Sys2Proof.Machine.execSesDisable who s
  | .rsesEnable who prio ssid src => Sys2Proof.Machine.execRsesEnable who prio ssid src s
  | .rsesDisable who => Sys2Proof.Machine.execRsesDisable who s
  | .rtoExpiry k => Sys2Proof.Machine.execRtoExpiry k s
  | .stall k => Sys2Proof.Machine.execStall k s
  | .ack f => Sys2Proof.Machine.execAck f s
  | .msg f => Sys2Proof.Machine.execMsg f s
  | .ackSend => Sys2Proof.Machine.execAckSend s
  | .freshAckRepeat r => Sys2Proof.Machine.execFreshAckRepeat r s
  | .scheduledWindowEnd => Sys2Proof.Machine.execScheduledWindowEnd s
  | .reclaim k who => Sys2Proof.Machine.execReclaim k who s
  | .eval k who v => Sys2Proof.Machine.execEval k who v s
  | .induct who k => Sys2Proof.Machine.execInduct who k s
  | .update who slot => Sys2Proof.Machine.execUpdate who slot s
  | .opRetire who slot => Sys2Proof.Machine.execOpRetire who slot s
  | .find who => Sys2Proof.Machine.execFind who s
  | .opCancel who slot a => Sys2Proof.Machine.execOpCancel who slot a s
  | .free who slot => Sys2Proof.Machine.execFree who slot s
  | .offer f => Sys2Proof.Machine.execOffer f s
  | .accept f => Sys2Proof.Machine.execAccept f s
  | .refuse f => Sys2Proof.Machine.execRefuse f s
  | .commit f => Sys2Proof.Machine.execCommit f s
  | .driftDone f => Sys2Proof.Machine.execDriftDone f s
  | .release f => Sys2Proof.Machine.execRelease f s
  | .driftSet f => Sys2Proof.Machine.execDriftSet f s
  | .retire f => Sys2Proof.Machine.execRetire f s
  | .driftAck f => Sys2Proof.Machine.execDriftAck f s
  | .query f => Sys2Proof.Machine.execQuery f s
  | .answer f => Sys2Proof.Machine.execAnswer f s
  | .result f => Sys2Proof.Machine.execResult f s
  | .driftResend => Sys2Proof.Machine.execDriftResend s
  | .handoffTimeout => Sys2Proof.Machine.execHandoffTimeout s
  | .pendingExpired => Sys2Proof.Machine.execPendingExpired s
  | .resyncTimeout => Sys2Proof.Machine.execResyncTimeout s
  | .entSel who n => Sys2Proof.Machine.execEntSel who n s
  | .configure who => Sys2Proof.Machine.execConfigure who s
  | .arm who => Sys2Proof.Machine.execArm who s
  | .edgeCancel who => Sys2Proof.Machine.execEdgeCancel who s
  | .edgeRelease who => Sys2Proof.Machine.execEdgeRelease who s
  | .edgeCommit t2 => Sys2Proof.Machine.execEdgeCommit t2 s
  | .edgePlace t2 => Sys2Proof.Machine.execEdgePlace t2 s
  | .fieldCommandArrival kind unit t2 => Sys2Proof.Machine.execFieldCommandArrival kind unit t2 s
  | .fieldEdgeAction t2 => Sys2Proof.Machine.execFieldEdgeAction t2 s
  | .inputEdge kind index lvl t fr w => Sys2Proof.Machine.execInputEdge kind index lvl t fr w s
  | .modeWrite c who m => Sys2Proof.Machine.execModeWrite c who m s
  | .level c who v => Sys2Proof.Machine.execLevel c who v s
  | .channelRelease c who => Sys2Proof.Machine.execChannelRelease c who s
  | .forceSafe c who => Sys2Proof.Machine.execForceSafe c who s
  | .wurq c who => Sys2Proof.Machine.execWurq c who s
  | .wakeUpEnd c => Sys2Proof.Machine.execWakeUpEnd c s
  | .fieldInputEdge c lvl t fr w => Sys2Proof.Machine.execFieldInputEdge c lvl t fr w s
  | .openLoad c => Sys2Proof.Machine.execOpenLoad c s
  | .shortVf c => Sys2Proof.Machine.execShortVf c s
  | .overload c => Sys2Proof.Machine.execOverload c s
  | .tripped c => Sys2Proof.Machine.execTripped c s
  | .tripClear c who => Sys2Proof.Machine.execTripClear c who s
  | .tripRetry c => Sys2Proof.Machine.execTripRetry c s
  | .thermal c => Sys2Proof.Machine.execThermal c s
  | .thermalRecover c => Sys2Proof.Machine.execThermalRecover c s
  | .wireBreak c => Sys2Proof.Machine.execWireBreak c s
  | .vfUv => Sys2Proof.Machine.execVfUv s
  | .vfRev => Sys2Proof.Machine.execVfRev s
  | .vfRecover => Sys2Proof.Machine.execVfRecover s
  | .overtemp => Sys2Proof.Machine.execOvertemp s
  | .overtempClear => Sys2Proof.Machine.execOvertempClear s
  | .safeHoldExpiry c => Sys2Proof.Machine.execSafeHoldExpiry c s
  | .encoderEdge e a b t2 => Sys2Proof.Machine.execEncoderEdge e a b t2 s
  | .zEdge e => Sys2Proof.Machine.execZEdge e s
  | .encoderBreak e lines => Sys2Proof.Machine.execEncoderBreak e lines s
  | .encoderBreakClear e => Sys2Proof.Machine.execEncoderBreakClear e s
  | .clkLost => Sys2Proof.Machine.execClkLost s
  | .adcRound r => Sys2Proof.Machine.execAdcRound r s
  | .fifoRead who => Sys2Proof.Machine.execFifoRead who s
  | .mbSel c who m => Sys2Proof.Machine.execMbSel c who m s
  | .mbLoad c who => Sys2Proof.Machine.execMbLoad c who s
  | .mbArm c who => Sys2Proof.Machine.execMbArm c who s
  | .mbCancel c who m => Sys2Proof.Machine.execMbCancel c who m s
  | .mbClear c who => Sys2Proof.Machine.execMbClear c who s
  | .canSof c t dly => Sys2Proof.Machine.execCanSof c t dly s
  | .canFrameSent c => Sys2Proof.Machine.execCanFrameSent c s
  | .canAttemptFailed c code phase keep => Sys2Proof.Machine.execCanAttemptFailed c code phase keep s
  | .busOff c => Sys2Proof.Machine.execBusOff c s
  | .recover c who => Sys2Proof.Machine.execRecover c who s
  | .recoveryEnd c => Sys2Proof.Machine.execRecoveryEnd c s
  | .canWindowEnd c w t => Sys2Proof.Machine.execCanWindowEnd c w t s
  | .canFrameReceived c t f => Sys2Proof.Machine.execCanFrameReceived c t f s
  | .tunnelField f => Sys2Proof.Machine.execTunnelField f s
  | .jump e lvl => Sys2Proof.Machine.execJump e lvl s
  | .waitSig e lvl => Sys2Proof.Machine.execWaitSig e lvl s
  | .waitTrig e => Sys2Proof.Machine.execWaitTrig e s
  | .waitTick e => Sys2Proof.Machine.execWaitTick e s
  | .setLevels e => Sys2Proof.Machine.execSetLevels e s
  | .setDrives e => Sys2Proof.Machine.execSetDrives e s
  | .setSr e => Sys2Proof.Machine.execSetSr e s
  | .setFlag e => Sys2Proof.Machine.execSetFlag e s
  | .cmpLoadi e => Sys2Proof.Machine.execCmpLoadi e s
  | .cmpLoadr e => Sys2Proof.Machine.execCmpLoadr e s
  | .cmpDec e => Sys2Proof.Machine.execCmpDec e s
  | .cmpMatch e => Sys2Proof.Machine.execCmpMatch e s
  | .cmpTakeq e => Sys2Proof.Machine.execCmpTakeq e s
  | .shiftOut e => Sys2Proof.Machine.execShiftOut e s
  | .shiftIn e lvls => Sys2Proof.Machine.execShiftIn e lvls s
  | .pull e => Sys2Proof.Machine.execPull e s
  | .pioPush e => Sys2Proof.Machine.execPioPush e s
  | .outqW e who v => Sys2Proof.Machine.execOutqW e who v s
  | .inqR e who => Sys2Proof.Machine.execInqR e who s
  | .trigForce e who m => Sys2Proof.Machine.execTrigForce e who m s
  | .flushOutq e who => Sys2Proof.Machine.execFlushOutq e who s
  | .flushInq e who => Sys2Proof.Machine.execFlushInq e who s
  | .engineStart e => Sys2Proof.Machine.execEngineStart e s
  | .instrWrite e who k v => Sys2Proof.Machine.execInstrWrite e who k v s
  | .ethFrameReceived m bytes fcs t => Sys2Proof.Machine.execEthFrameReceived m bytes fcs t s
  | .tunnelEth lane f => Sys2Proof.Machine.execTunnelEth lane f s
  | .txCtrl m who ts len => Sys2Proof.Machine.execTxCtrl m who ts len s
  | .ethLinkChange m up speed => Sys2Proof.Machine.execEthLinkChange m up speed s
  | .asOffHi m who v => Sys2Proof.Machine.execAsOffHi m who v s
  | .asTimeout m t => Sys2Proof.Machine.execAsTimeout m t s
  | .uartCharacter u ch par frm brk t => Sys2Proof.Machine.execUartCharacter u ch par frm brk t s
  | .uartGap u => Sys2Proof.Machine.execUartGap u s
  | .uTx u who a9 len => Sys2Proof.Machine.execUTx u who a9 len s
  | .uartTxEnd u => Sys2Proof.Machine.execUartTxEnd u s
  | .hostRead cmd a n => Sys2Proof.Machine.execHostRead cmd a n s
  | .hostWrite cmd a b => Sys2Proof.Machine.execHostWrite cmd a b s
  | .hostAbort sent a n => Sys2Proof.Machine.execHostAbort sent a n s
  | .program who => Sys2Proof.Machine.execProgram who s
  | .erase4k who => Sys2Proof.Machine.execErase4k who s
  | .erase64k who => Sys2Proof.Machine.execErase64k who s
  | .flashDone ok => Sys2Proof.Machine.execFlashDone ok s
  | .doorbell who v => Sys2Proof.Machine.execDoorbell who v s
  | .doorbellClr who v => Sys2Proof.Machine.execDoorbellClr who v s
  | .feedDiodeOn x => Sys2Proof.Machine.execFeedDiodeOn x s
  | .feedReverse x => Sys2Proof.Machine.execFeedReverse x s
  | .feedReversed x => Sys2Proof.Machine.execFeedReversed x s
  | .feedWindow x v => Sys2Proof.Machine.execFeedWindow x v s
  | .seatChange a b t => Sys2Proof.Machine.execSeatChange a b t s
  | .seatQualified t => Sys2Proof.Machine.execSeatQualified t s
  | .rampDone c t => Sys2Proof.Machine.execRampDone c t s
  | .shortCircuit c t => Sys2Proof.Machine.execShortCircuit c t s
  | .soaTrip c t => Sys2Proof.Machine.execSoaTrip c t s
  | .dvdtTrip c t => Sys2Proof.Machine.execDvdtTrip c t s
  | .startTo c t => Sys2Proof.Machine.execStartTo c t s
  | .pgQualified c t => Sys2Proof.Machine.execPgQualified c t s
  | .curveTrip c t => Sys2Proof.Machine.execCurveTrip c t s
  | .ovShutdown t => Sys2Proof.Machine.execOvShutdown t s
  | .retryWaitEnd c t => Sys2Proof.Machine.execRetryWaitEnd c t s
  | .retriesReset c t => Sys2Proof.Machine.execRetriesReset c t s
  | .latchClear c who => Sys2Proof.Machine.execLatchClear c who s
  | .curveApply c who => Sys2Proof.Machine.execCurveApply c who s
  | .powerEntryRestart => Sys2Proof.Machine.execPowerEntryRestart s
  | .branchOn b who => Sys2Proof.Machine.execBranchOn b who s
  | .branchOff b who => Sys2Proof.Machine.execBranchOff b who s
  | .branchRampStart b t => Sys2Proof.Machine.execBranchRampStart b t s
  | .lastGasp t => Sys2Proof.Machine.execLastGasp t s
  | .lgRecover => Sys2Proof.Machine.execLgRecover s
  | .blackBoxWritten => Sys2Proof.Machine.execBlackBoxWritten s
  | .vbus0Rise => Sys2Proof.Machine.execVbus0Rise s
  | .svcOverlapEnd t => Sys2Proof.Machine.execSvcOverlapEnd t s
  | .serviceTakeover v => Sys2Proof.Machine.execServiceTakeover v s
  | .attach p src rp rev3 => Sys2Proof.Machine.execAttach p src rp rev3 s
  | .detach p => Sys2Proof.Machine.execDetach p s
  | .sourceCapabilities pdos => Sys2Proof.Machine.execSourceCapabilities pdos s
  | .prSwap p who => Sys2Proof.Machine.execPrSwap p who s
  | .softReset p who => Sys2Proof.Machine.execSoftReset p who s
  | .hardReset p who => Sys2Proof.Machine.execHardReset p who s
  | .getSrcCap p who => Sys2Proof.Machine.execGetSrcCap p who s
  | .request p who => Sys2Proof.Machine.execRequest p who s
  | .prSwapReceived p => Sys2Proof.Machine.execPrSwapReceived p s
  | .hardResetReceived p => Sys2Proof.Machine.execHardResetReceived p s
  | .unsupportedRequest p kind => Sys2Proof.Machine.execUnsupportedRequest p kind s
  | .pdTimerExpiry p k => Sys2Proof.Machine.execPdTimerExpiry p k s
  | .vsetTrim v rb => Sys2Proof.Machine.execVsetTrim v rb s
  | .transitionFail p k => Sys2Proof.Machine.execTransitionFail p k s
  | .vbusOv => Sys2Proof.Machine.execVbusOv s
  | .vbusOvClear => Sys2Proof.Machine.execVbusOvClear s
  | .discoverSvids => Sys2Proof.Machine.execDiscoverSvids s
  | .discoverModes => Sys2Proof.Machine.execDiscoverModes s
  | .enterMode => Sys2Proof.Machine.execEnterMode s
  | .exitMode => Sys2Proof.Machine.execExitMode s
  | .usbBusReset high => Sys2Proof.Machine.execUsbBusReset high s
  | .setup b => Sys2Proof.Machine.execSetup b s
  | .epArm e len who => Sys2Proof.Machine.execEpArm e len who s
  | .epDone e out b => Sys2Proof.Machine.execEpDone e out b s
  | .mtip k t => Sys2Proof.Machine.execMtip k t s
  | .hartEn who m pause => Sys2Proof.Machine.execHartEn who m pause s
  | .commitWarn t => Sys2Proof.Machine.execCommitWarn t s
  | .fwdtKick who key m => Sys2Proof.Machine.execFwdtKick who key m s
  | .fwdtExpiry k => Sys2Proof.Machine.execFwdtExpiry k s
  | .mwdtKick who key => Sys2Proof.Machine.execMwdtKick who key s
  | .mwdtExpiry => Sys2Proof.Machine.execMwdtExpiry s
  | .claim k who => Sys2Proof.Machine.execClaim k who s
  | .complete k who n => Sys2Proof.Machine.execComplete k who n s
  | .swevSet who m => Sys2Proof.Machine.execSwevSet who m s
  | .volt d mv => Sys2Proof.Machine.execVolt d mv s
  | .temp k v => Sys2Proof.Machine.execTemp k v s
  | .logAppend who v => Sys2Proof.Machine.execLogAppend who v s
  | .logExport who => Sys2Proof.Machine.execLogExport who s
  | .logExportDone ok => Sys2Proof.Machine.execLogExportDone ok s
  | .bbCtrl who kind arg => Sys2Proof.Machine.execBbCtrl who kind arg s
  | .programKey who slot => Sys2Proof.Machine.execProgramKey who slot s
  | .revokeKey who slot => Sys2Proof.Machine.execRevokeKey who slot s
  | .debugLock who => Sys2Proof.Machine.execDebugLock who s
  | .debugDisable who => Sys2Proof.Machine.execDebugDisable who s
  | .otpDone ok => Sys2Proof.Machine.execOtpDone ok s
  | .vfyCmd who keys => Sys2Proof.Machine.execVfyCmd who keys s
  | .vfyDone cfg => Sys2Proof.Machine.execVfyDone cfg s
  | .unlock who => Sys2Proof.Machine.execUnlock who s
  | .bootGood who key => Sys2Proof.Machine.execBootGood who key s
  | .dawnReq who key => Sys2Proof.Machine.execDawnReq who key s
  | .dawnInfo c => Sys2Proof.Machine.execDawnInfo c s
  | .dawnBegin c slot h err => Sys2Proof.Machine.execDawnBegin c slot h err s
  | .dawnData c off b err => Sys2Proof.Machine.execDawnData c off b err s
  | .dawnEnd c err => Sys2Proof.Machine.execDawnEnd c err s
  | .dawnExit c => Sys2Proof.Machine.execDawnExit c s
  | .bulkDistribution f busy => Sys2Proof.Machine.execBulkDistribution f busy s
  | .applySlot who => Sys2Proof.Machine.execApplySlot who s
  | .applyDone err => Sys2Proof.Machine.execApplyDone err s
  | .unstage who => Sys2Proof.Machine.execUnstage who s
  | .bankTouched a b => Sys2Proof.Machine.execBankTouched a b s
  | .actGo who => Sys2Proof.Machine.execActGo who s
  | .exportDone who m => Sys2Proof.Machine.execExportDone who m s
  | .actReady who m => Sys2Proof.Machine.execActReady who m s
  | .eclipseN t w => Sys2Proof.Machine.execEclipseN t w s
  | .eclNow who => Sys2Proof.Machine.execEclNow who s
  | .eclArm who => Sys2Proof.Machine.execEclArm who s
  | .disarm who => Sys2Proof.Machine.execDisarm who s
  | .armReached t => Sys2Proof.Machine.execArmReached t s
  | .eclReq f => Sys2Proof.Machine.execEclReq f s
  | .dumpReq f => Sys2Proof.Machine.execDumpReq f s
  | .autoDump t => Sys2Proof.Machine.execAutoDump t s
  | .eclRelease f => Sys2Proof.Machine.execEclRelease f s
  | .jtagReadout seg off => Sys2Proof.Machine.execJtagReadout seg off s
  | .faultNowClear c k => Sys2Proof.Machine.execFaultNowClear c k s
  | .fieldClockRestored lv => Sys2Proof.Machine.execFieldClockRestored lv s
  | .receiveError c code phase d => Sys2Proof.Machine.execReceiveError c code phase d s
  | .busIntegration c => Sys2Proof.Machine.execBusIntegration c s
  | .breakerSample c lane dv => Sys2Proof.Machine.execBreakerSample c lane dv s
  | .usbSuspend => Sys2Proof.Machine.execUsbSuspend s
  | .usbResume => Sys2Proof.Machine.execUsbResume s
  | .aoSupplyFail => Sys2Proof.Machine.execAoSupplyFail s
  | .rstNRelease => Sys2Proof.Machine.execRstNRelease s
  | .evtPulseEnd p => Sys2Proof.Machine.execEvtPulseEnd p s
  | .requestReceived p pos ma => Sys2Proof.Machine.execRequestReceived p pos ma s
  | .partnerAccept p acc => Sys2Proof.Machine.execPartnerAccept p acc s
  | .psRdy p => Sys2Proof.Machine.execPsRdy p s

end Sys2Proof.Machine
end

