-- ==== Sys2Proof/Safety.lean ====
section
/-!
DEFINITION. What counts as a safe run: no step of it faults or is refused; and the order of the fuses, which only grow; which
parts of State each command can change. -/

namespace Sys2Proof.Machine

/-- The outcome is a next state. -/
def goesOn (o : Host.Outcome State Fault Refusal) : Bool :=
  match o with
  | .next _ => true
  | .fault _ => false
  | .refused _ => false

/-- The first `k` steps from `s` all answer a next state. -/
def Safe (s : State) (k : Nat) : Prop := goesOn (Sys2Proof.core.run k s) = true

/-- No fuse of `a` is back at 0 in `b` (R537). -/
structure OtpSt.le (a b : OtpSt) : Prop where
  keyHash : ∀ k i, (a.keyHash.at 0 k).testBit i = true → (b.keyHash.at 0 k).testBit i = true
  programmed : ∀ k, a.programmed.testBit k = true → b.programmed.testBit k = true
  revoked : ∀ k, a.revoked.testBit k = true → b.revoked.testBit k = true
  rollback : a.rollback ≤ b.rollback
  lock : a.lock ≤ b.lock
  uid : b.uid = a.uid
  svid : b.svid = a.svid
  product : b.product = a.product
  vdo : b.vdo = a.vdo

/-- Nothing stands in the way of a write by `who` to the register at `off` of `page`: the hub runs, the page is not locked, a
remote writer is let in, the TAP lets JTAG in, the stitch link to a field-die page is up, and every field of the register is of a class that is open
(R5, R7, R39 to R45). -/
structure MayWrite (s : State) (who : By) (page off : Nat) : Prop where
  alive : s.alive = true
  unlocked : s.rd page F.HDR_PAGE_CTRL_LOCK = 0
  remote : who.ini = 8 → remoteOpen s who.src page = true
  tap : tapShut s who page = false
  link : onFieldDie page = true → s.stitch.down = false
  open' : ∀ f ∈ regFields page off, classOpen s who page f = true

/-- As `MayWrite`, where of the register only the fields `fs` have to be open: what the write leaves as it is is not judged
(R40). -/
structure MayWriteTo (s : State) (who : By) (page : Nat) (fs : List Fld) : Prop where
  alive : s.alive = true
  unlocked : s.rd page F.HDR_PAGE_CTRL_LOCK = 0
  remote : who.ini = 8 → remoteOpen s who.src page = true
  tap : tapShut s who page = false
  link : onFieldDie page = true → s.stitch.down = false
  open' : ∀ f ∈ fs, classOpen s who page f = true

/-- Request `f` with OP `op` is the next in order of stream slot `k`: this node serves requests, no stream holds one back, its
completion finds room, and the incarnation that it names, if any, is the node's (R207, R218, R222, R225). -/
def nextRequest (s : State) (f : Frame) (op k : Nat) : Bool :=
  s.alive && s.mayInsert && (if op = 0xE then f.typ == 8 && f.cls == 4 else f.typ == 3 && bitsOf f.w4 28 4 == op) && !f.mc &&
    isOwn s f.dst &&
    (s.txn.streams.all fun e => match e.2 with
      | some x => x.held.isEmpty
      | none => true) &&
    streamOf s (inReq f false) == some k && (streamAt s k).bind (·.next) == some (inReq f false).ord && cplRoom s (inReq f false) &&
    ((inReq f false).tgtInc.isNone || (inReq f false).tgtInc == some s.inc16)

/-- Of the ring lanes only E is UP, nothing is offered, and a one-cell frame of class 6 of this node, which has its address and has
waited out its hold, finds room there. -/
def eastOnly (s : State) : Bool :=
  s.role != 3 && !s.reversed && laneUp s 0 && !laneUp s 1 && s.sw.offers.isEmpty && !portDown s 0 &&
    admits s (outQueue 0 6) 1 == 1 && s.ownValid && !s.halo.withdrawn && s.holdDone

/-- Engine `e` runs and its current instruction is `w`, an instruction `op` (R409, R410). -/
def pioAt (s : State) (e : Nat) (op : PioOp) (w : Nat) : Bool :=
  s.alive && decide (e < 24) && pioLive s e && pioInstr s e (pioPC s e) == w && decide (pioDecode w = some op)

/-- The slot that follows the current one: the wrap bottom after the wrap top, else the next (R409). -/
def pioFollow (s : State) (e : Nat) : Nat :=
  (if pioPC s e = s.rd (P.pio e) F.PIO_WRAP_LAST then s.rd (P.pio e) F.PIO_WRAP_FIRST else pioPC s e + 1) % 32

/-- The first pages of the groups of pages that a step's reach is counted in. -/
def groupStarts : List Nat :=
  [0x000, 0x001, 0x004, 0x008, 0x00C, 0x010, 0x011, 0x020, 0x030, 0x031, 0x038, 0x039, 0x040, 0x080, 0x081, 0x088, 0x090, 0x091,
   0x098, 0x099, 0x0A0, 0x0A8, 0x0A9, 0x0AA, 0x0B0, 0x0B8, 0x0C0, 0x0D8, 0x0E0, 0x0E4, 0x0E5, 0x0F0, 0x0F1, 0x100, 0x102, 0x110,
   0x111, 0x120, 0x121, 0x122, 0x123, 0x124, 0x130]

/-- The group of a register: 40 the page headers, 41 what an event can change beside them (the node state with PREV and
STATE_TICK; export status and counters; LAST_CAUSE and CNT_SAFE; ECL_STAT), 85 and up the registers of the NODE page, 43 to 84
the other groups of pages. -/
def regGroup (k : Key) : Nat :=
  if k.off < 0x040 then 40
  else if k.page = 0 then
    (if (k.off == 0x048 && k.lsb == 0) || (k.off == 0x070 && k.lsb == 12) || k.off == 0x074 then 41
    else if k.off < 0x078 then 69 + k.off / 4 else 42)
  else if (decide (k.page ≤ 3) && (k.off == 0x0C0 || k.off == 0x0C4 || k.off == 0x0CC || k.off == 0x0D0)) ||
      (k.page == 0x0A9 && (k.off == 0x048 || k.off == 0x05C)) || (k.page == 0x130 && k.off == 0x058) then 41
  else 41 + groupStarts.countP fun p => decide (p ≤ k.page)

/-- The registers of the page headers. -/
abbrev RG.hdr : Nat := 40

/-- The registers of what an event changes: STATE, PREV and STATE_TICK of the NODE page, the export status and counters,
LAST_CAUSE and CNT_SAFE, ECL_STAT. -/
abbrev RG.frz : Nat := 41

/-- The registers of the NODE page from 0x078 on. -/
abbrev RG.node : Nat := 42

/-- The registers of EVENTS pages. -/
abbrev RG.event : Nat := 43

/-- The registers of TIME pages. -/
abbrev RG.time : Nat := 44

/-- The registers of LANE pages. -/
abbrev RG.lane : Nat := 45

/-- The registers of HALO pages. -/
abbrev RG.halo : Nat := 46

/-- The registers of SWITCH pages. -/
abbrev RG.switch : Nat := 47

/-- The registers of SWITCH PORT pages. -/
abbrev RG.swport : Nat := 48

/-- The registers of CELL POOL pages. -/
abbrev RG.pool : Nat := 49

/-- The registers of PUB pages. -/
abbrev RG.pub : Nat := 50

/-- The registers of SUB pages. -/
abbrev RG.sub : Nat := 51

/-- The registers of TXN pages. -/
abbrev RG.txn : Nat := 52

/-- The registers of GATEWAY pages. -/
abbrev RG.gw : Nat := 53

/-- The registers of QUEUE pages. -/
abbrev RG.queue : Nat := 54

/-- The registers of SESSION TX pages. -/
abbrev RG.sestx : Nat := 55

/-- The registers of SESSION RX pages. -/
abbrev RG.sesrx : Nat := 56

/-- The registers of TRACK pages. -/
abbrev RG.track : Nat := 57

/-- The registers of DRIFT pages. -/
abbrev RG.drift : Nat := 58

/-- The registers of ZONES pages. -/
abbrev RG.zones : Nat := 59

/-- The registers of EDGE pages. -/
abbrev RG.edge : Nat := 60

/-- The registers of CAPTURE pages. -/
abbrev RG.capt : Nat := 61

/-- The registers of FIELD pages. -/
abbrev RG.field : Nat := 62

/-- The registers of ENCODER pages. -/
abbrev RG.enc : Nat := 63

/-- The registers of FIELD DIE pages. -/
abbrev RG.fdie : Nat := 64

/-- The registers of ADC pages. -/
abbrev RG.adc : Nat := 65

/-- The registers of CAN pages. -/
abbrev RG.can : Nat := 66

/-- The registers of UART pages. -/
abbrev RG.uart : Nat := 67

/-- The registers of PIO pages. -/
abbrev RG.pio : Nat := 68

/-- The registers of PINMUX pages. -/
abbrev RG.pinmux : Nat := 69

/-- The registers of ETH pages. -/
abbrev RG.eth : Nat := 70

/-- The registers of HOST pages. -/
abbrev RG.host : Nat := 71

/-- The registers of FLASH pages. -/
abbrev RG.flash : Nat := 72

/-- The registers of POWER pages. -/
abbrev RG.power : Nat := 73

/-- The registers of BRANCH pages. -/
abbrev RG.branch : Nat := 74

/-- The registers of PD pages. -/
abbrev RG.pd : Nat := 75

/-- The registers of USB pages. -/
abbrev RG.usb : Nat := 76

/-- The registers of CORES pages. -/
abbrev RG.cores : Nat := 77

/-- The registers of XFER pages. -/
abbrev RG.xfer : Nat := 78

/-- The registers of MGMT pages. -/
abbrev RG.mgmt : Nat := 79

/-- The registers of SENSORS pages. -/
abbrev RG.sens : Nat := 80

/-- The registers of LOG pages. -/
abbrev RG.log : Nat := 81

/-- The registers of UPDATE pages. -/
abbrev RG.upd : Nat := 82

/-- The registers of SECURITY pages. -/
abbrev RG.sec : Nat := 83

/-- The registers of ECLIPSE pages. -/
abbrev RG.ecl : Nat := 84

/-- The group of the registers of the NODE page at an offset from 0x040 to 0x074, but what an event changes. -/
abbrev RG.nodeAt (off : Nat) : Nat := 69 + off / 4

/-- The parts of State that the frame of a command speaks of: its fields, the TICK counters alone, and the registers by group
(`regGroup`). -/
inductive Part
  | pending | staged | stagedLate | mem | accFaults | wire | delivered | draws | node | stitch | time | lanes | halo | sw | pub | txn | ses
  | tracks | drift | edge | caps | field | can | pio | sigs | eths | uarts
  | ports | power | usb | router | cores | ao | otp | mgmt | ecl
  | tick
  | regs (g : Nat)
deriving DecidableEq, Repr

/-- The part is the same in both states. -/
def Part.same (s t : State) : Part → Prop
  | .pending => t.pending = s.pending
  | .staged => t.staged = s.staged
  | .stagedLate => t.stagedLate = s.stagedLate
  | .mem => t.mem = s.mem
  | .accFaults => t.accFaults = s.accFaults
  | .wire => t.wire = s.wire
  | .delivered => t.delivered = s.delivered
  | .draws => t.draws = s.draws
  | .node => t.node = s.node
  | .stitch => t.stitch = s.stitch
  | .time => t.time = s.time
  | .lanes => t.lanes = s.lanes
  | .halo => t.halo = s.halo
  | .sw => t.sw = s.sw
  | .pub => t.pub = s.pub
  | .txn => t.txn = s.txn
  | .ses => t.ses = s.ses
  | .tracks => t.tracks = s.tracks
  | .drift => t.drift = s.drift
  | .edge => t.edge = s.edge
  | .caps => t.caps = s.caps
  | .field => t.field = s.field
  | .can => t.can = s.can
  | .pio => t.pio = s.pio
  | .sigs => t.sigs = s.sigs
  | .eths => t.eths = s.eths
  | .uarts => t.uarts = s.uarts
  | .ports => t.ports = s.ports
  | .power => t.power = s.power
  | .usb => t.usb = s.usb
  | .router => t.router = s.router
  | .cores => t.cores = s.cores
  | .ao => t.ao = s.ao
  | .otp => t.otp = s.otp
  | .mgmt => t.mgmt = s.mgmt
  | .ecl => t.ecl = s.ecl
  | .tick => t.time.tick = s.time.tick ∧ t.time.ticks = s.time.ticks
  | .regs g => ∀ p f i, regGroup ⟨p, f.off, f.lsb, i⟩ = g → t.rdi p f i = s.rdi p f i

/-- What a command may change: some parts, or all but some. -/
inductive Reach
  | only (l : List Part)
  | allBut (l : List Part)
deriving DecidableEq, Repr

/-- A command of this reach leaves the part as it is. -/
def Reach.keeps : Reach → Part → Bool
  | .only l, p => !l.contains p
  | .allBut l, p => l.contains p

/-- What raising an event can change: its counters and log, the node state and the SAFE entry behind it, the outputs a class
forces. -/
def raised : List Part :=
  [.node, .edge, .field, .can, .uarts, .router, .ecl, .regs RG.hdr, .regs RG.frz, .regs RG.field, .regs RG.can, .regs RG.uart,
   .regs RG.pio]

/-- What an own fault can change: the node state, and all that leaving it or entering SAFE or FAULT drops. -/
def faulted : List Part :=
  [.wire, .draws, .node, .time, .lanes, .halo, .sw, .txn, .ses, .tracks, .drift, .edge, .field, .can, .pio, .uarts, .power,
   .router, .cores, .mgmt, .ecl, .regs RG.hdr, .regs RG.frz, .regs RG.lane, .regs RG.halo, .regs RG.switch, .regs RG.swport,
   .regs RG.pool, .regs RG.gw, .regs RG.queue, .regs RG.sestx, .regs RG.sesrx, .regs RG.track, .regs RG.drift, .regs RG.zones,
   .regs RG.edge, .regs RG.field, .regs RG.can, .regs RG.uart, .regs RG.pio, .regs RG.eth, .regs RG.power, .regs RG.branch,
   .regs RG.pd, .regs RG.cores, .regs RG.mgmt, .regs RG.log, .regs RG.upd, .regs (RG.nodeAt 0x048), .regs (RG.nodeAt 0x064),
   .regs (RG.nodeAt 0x068), .regs (RG.nodeAt 0x06C)]

/-- What an accepted write of some register can change. -/
def written : List Part :=
  [.staged, .stagedLate, .accFaults, .wire, .draws, .node, .time, .lanes, .halo, .sw, .pub, .txn, .ses, .tracks, .drift, .edge,
   .caps, .field, .can, .pio, .eths, .uarts, .ports, .power, .usb, .router, .cores, .ao, .mgmt, .ecl, .regs RG.hdr, .regs RG.frz,
   .regs RG.node, .regs RG.event, .regs RG.time, .regs RG.lane, .regs RG.halo, .regs RG.switch, .regs RG.swport, .regs RG.pool,
   .regs RG.pub, .regs RG.sub, .regs RG.txn, .regs RG.gw, .regs RG.queue, .regs RG.sestx, .regs RG.sesrx, .regs RG.track,
   .regs RG.drift, .regs RG.zones, .regs RG.edge, .regs RG.capt, .regs RG.field, .regs RG.enc, .regs RG.fdie, .regs RG.adc,
   .regs RG.can, .regs RG.uart, .regs RG.pio, .regs RG.pinmux, .regs RG.eth, .regs RG.host, .regs RG.flash, .regs RG.power,
   .regs RG.branch, .regs RG.pd, .regs RG.usb, .regs RG.cores, .regs RG.xfer, .regs RG.mgmt, .regs RG.sens, .regs RG.log,
   .regs RG.upd, .regs RG.sec, .regs RG.ecl, .regs (RG.nodeAt 0x040), .regs (RG.nodeAt 0x044), .regs (RG.nodeAt 0x048),
   .regs (RG.nodeAt 0x04C), .regs (RG.nodeAt 0x050), .regs (RG.nodeAt 0x054), .regs (RG.nodeAt 0x058), .regs (RG.nodeAt 0x05C),
   .regs (RG.nodeAt 0x060), .regs (RG.nodeAt 0x064), .regs (RG.nodeAt 0x068), .regs (RG.nodeAt 0x06C), .regs (RG.nodeAt 0x070),
   .regs (RG.nodeAt 0x074)]

/-- What the field die's SAFE entry can change. -/
def safeEntered : List Part :=
  [.field, .regs RG.hdr, .regs RG.frz, .regs RG.field]

/-- The reach of each command, over all its forms and all states. -/
def reach : Instr → Reach
  | .stitchReplay .. =>
    .only [.stitch]
  | .stitchLinkDown .. =>
    .only (faulted ++ [.stitch])
  | .heartbeatFlit .. =>
    .only [.stitch, .time]
  | .fdieWatchdogExpiry .. =>
    .only (faulted ++ [.stitch, .regs RG.fdie])
  | .fieldPageAccessDone .. | .remoteStore .. | .hostWrite .. | .remoteAmo .. | .txnCpl .. | .txnResend .. | .txnTimeout .. |
    .xferStart .. | .xferComplete .. =>
    .only (written ++ [.mem, .stitch])
  | .registerWrite .. | .rd32 .. | .rd64 .. | .rdblk .. | .wr32 .. | .wr64 .. | .wrblk .. | .and32 .. | .or32 .. | .add32 .. |
    .cas32 .. | .and64 .. | .or64 .. | .add64 .. | .cas64 .. | .event .. =>
    .only (written ++ [.stitch])
  | .eccError .. =>
    .only (faulted ++ [.accFaults])
  | .pwrCtrlWrite .. | .pageStop .. | .evForce .. | .commitDiscard .. | .lockKey .. | .resetCtrl .. | .stateReq .. |
    .coreDone .. | .cmdGo .. | .lineReq .. | .cntClear .. | .entrySel .. | .pubReady .. | .orphPop .. | .evout .. | .pop .. |
    .peek .. | .dropRest .. | .mark .. | .markClear .. | .rewind .. | .flush .. | .push .. | .sesEnable .. | .sesDisable .. |
    .rsesEnable .. | .rsesDisable .. | .reclaim .. | .eval .. | .induct .. | .update .. | .opRetire .. | .find .. | .opCancel .. |
    .free .. | .entSel .. | .configure .. | .arm .. | .edgeCancel .. | .edgeRelease .. | .modeWrite .. | .level .. |
    .channelRelease .. | .forceSafe .. | .wurq .. | .tripClear .. | .mbSel .. | .mbLoad .. | .mbArm .. | .mbCancel .. |
    .mbClear .. | .recover .. | .outqW .. | .trigForce .. | .flushOutq .. | .flushInq .. | .instrWrite .. | .txCtrl .. |
    .asOffHi .. | .uTx .. | .program .. | .erase4k .. | .erase64k .. | .doorbell .. | .doorbellClr .. | .latchClear .. |
    .curveApply .. | .branchOn .. | .branchOff .. | .prSwap .. | .softReset .. | .hardReset .. | .getSrcCap .. | .request .. |
    .epArm .. | .hartEn .. | .fwdtKick .. | .mwdtKick .. | .complete .. | .swevSet .. | .logAppend .. | .logExport .. |
    .bbCtrl .. | .programKey .. | .revokeKey .. | .debugLock .. | .debugDisable .. | .vfyCmd .. | .unlock .. | .bootGood .. |
    .dawnReq .. | .applySlot .. | .unstage .. | .actGo .. | .exportDone .. | .actReady .. | .eclNow .. | .eclArm .. |
    .disarm .. =>
    .only written
  | .domainOff .. =>
    .only (raised ++ [.mem, .wire, .draws, .time, .lanes, .halo, .sw, .txn, .ses, .caps, .eths, .ports, .cores, .mgmt,
      .regs RG.lane, .regs RG.halo, .regs RG.switch, .regs RG.swport, .regs RG.pool, .regs RG.gw, .regs RG.queue, .regs RG.eth,
      .regs RG.flash, .regs RG.cores, .regs RG.mgmt, .regs RG.log])
  | .railsGood .. | .warmReset .. =>
    .allBut [.pending, .accFaults, .wire, .delivered, .draws, .ao, .otp]
  | .railFail .. =>
    .allBut [.pending, .accFaults, .wire, .delivered, .draws, .otp]
  | .rstNLow .. =>
    .allBut [.pending, .accFaults, .wire, .delivered, .ao, .otp]
  | .bootRomStart .. =>
    .only (raised ++ [.mem, .wire, .draws, .time, .lanes, .halo, .sw, .txn, .ses, .tracks, .drift, .pio, .power, .usb, .cores,
      .ao, .mgmt, .regs RG.lane, .regs RG.halo, .regs RG.switch, .regs RG.swport, .regs RG.pool, .regs RG.gw, .regs RG.queue,
      .regs RG.sestx, .regs RG.sesrx, .regs RG.track, .regs RG.drift, .regs RG.zones, .regs RG.edge, .regs RG.eth, .regs RG.flash,
      .regs RG.power, .regs RG.branch, .regs RG.pd, .regs RG.usb, .regs RG.cores, .regs RG.mgmt, .regs RG.log, .regs RG.upd,
      .regs RG.sec, .regs (RG.nodeAt 0x048), .regs (RG.nodeAt 0x054), .regs (RG.nodeAt 0x064), .regs (RG.nodeAt 0x068),
      .regs (RG.nodeAt 0x070)])
  | .blockStopped .. =>
    .only (raised ++ [.wire, .draws, .time, .lanes, .halo, .sw, .txn, .ses, .drift, .pio, .regs RG.lane, .regs RG.halo,
      .regs RG.switch, .regs RG.swport, .regs RG.pool, .regs RG.gw, .regs RG.queue, .regs RG.sestx, .regs RG.sesrx,
      .regs RG.drift, .regs RG.zones, .regs RG.edge, .regs RG.eth])
  | .keyArmLapse .. | .rstNRelease .. =>
    .only [.node]
  | .joinAlone .. =>
    .only [.time, .regs RG.hdr, .regs (RG.nodeAt 0x070)]
  | .cutOff .. =>
    .only faulted
  | .isolateRecordWritten .. | .eclRelease .. =>
    .only [.node, .regs RG.hdr, .regs (RG.nodeAt 0x068)]
  | .gwResetDeferExpiry .. =>
    .only (raised ++ [.time, .regs (RG.nodeAt 0x068)])
  | .feedWindowSettled .. =>
    .only (raised ++ [.wire, .draws, .time, .lanes, .halo, .sw, .txn, .power, .usb, .cores, .mgmt, .regs RG.lane, .regs RG.halo,
      .regs RG.switch, .regs RG.swport, .regs RG.pool, .regs RG.gw, .regs RG.eth, .regs RG.power, .regs RG.branch, .regs RG.pd,
      .regs RG.usb, .regs RG.cores, .regs RG.mgmt, .regs (RG.nodeAt 0x048)])
  | .feedsLost .. =>
    .only (faulted ++ [.usb, .regs RG.usb])
  | .tickInstant .. =>
    .only (written ++ [.mem, .stitch, .sigs, .tick])
  | .commitPoint .. =>
    .only (raised ++ [.draws, .time, .ao, .mgmt, .regs RG.time, .regs RG.log, .regs RG.upd, .regs (RG.nodeAt 0x048)])
  | .tickReceived .. =>
    .only (raised ++ [.time, .lanes, .sw, .cores, .tick, .regs RG.time, .regs RG.lane, .regs RG.switch, .regs RG.swport,
      .regs RG.pool, .regs RG.zones, .regs (RG.nodeAt 0x048), .regs (RG.nodeAt 0x070)])
  | .tickClosure .. | .probeReply .. =>
    .only (raised ++ [.time, .lanes, .sw, .regs RG.time, .regs RG.lane, .regs RG.swport, .regs RG.pool])
  | .probeSend .. =>
    .only (raised ++ [.wire, .time, .regs RG.time, .regs RG.lane])
  | .probe .. =>
    .only (raised ++ [.wire, .lanes, .sw, .regs RG.lane, .regs RG.swport, .regs RG.pool])
  | .probeFail .. | .user .. =>
    .only (raised ++ [.time, .regs RG.time])
  | .missDeadline .. =>
    .only (raised ++ [.time, .regs RG.time, .regs (RG.nodeAt 0x070)])
  | .zenithListenExpiry .. =>
    .only (raised ++ [.time, .cores, .regs RG.time, .regs RG.zones, .regs (RG.nodeAt 0x048)])
  | .zenithMove .. =>
    .only (raised ++ [.time, .regs RG.time, .regs (RG.nodeAt 0x048)])
  | .takeover .. =>
    .only (raised ++ [.time, .txn, .regs RG.time, .regs RG.gw, .regs (RG.nodeAt 0x048)])
  | .zenithYield .. =>
    .only (raised ++ [.time, .regs (RG.nodeAt 0x048)])
  | .line .. =>
    .only (raised ++ [.wire, .draws, .time, .lanes, .halo, .sw, .txn, .ses, .tracks, .drift, .pio, .power, .cores, .mgmt,
      .regs RG.time, .regs RG.lane, .regs RG.halo, .regs RG.switch, .regs RG.swport, .regs RG.pool, .regs RG.gw, .regs RG.queue,
      .regs RG.sestx, .regs RG.sesrx, .regs RG.track, .regs RG.drift, .regs RG.zones, .regs RG.edge, .regs RG.eth, .regs RG.power,
      .regs RG.branch, .regs RG.pd, .regs RG.cores, .regs RG.mgmt, .regs RG.log, .regs (RG.nodeAt 0x048), .regs (RG.nodeAt 0x064),
      .regs (RG.nodeAt 0x068)])
  | .tickLen .. =>
    .only (raised ++ [.time, .regs RG.time, .regs RG.zones])
  | .window .. =>
    .only [.time, .regs RG.hdr, .regs RG.time]
  | .activate .. =>
    .only (raised ++ [.time, .mgmt, .regs RG.upd, .regs (RG.nodeAt 0x068)])
  | .signalDetect .. | .lockTimeout .. | .helloTimeout .. =>
    .only [.lanes, .regs RG.hdr, .regs RG.lane]
  | .blockLock .. | .signalTimeout .. =>
    .only (raised ++ [.lanes, .regs RG.lane])
  | .helloSend .. =>
    .only [.wire, .regs RG.hdr, .regs RG.lane]
  | .hello .. =>
    .only (raised ++ [.wire, .draws, .time, .lanes, .halo, .sw, .ses, .drift, .regs RG.lane, .regs RG.halo, .regs RG.swport,
      .regs RG.pool, .regs RG.gw, .regs RG.queue, .regs RG.sestx, .regs RG.sesrx, .regs RG.drift, .regs RG.zones, .regs RG.edge,
      .regs (RG.nodeAt 0x044)])
  | .laneDown .. | .ppmWindow .. | .crcWindow .. =>
    .only (raised ++ [.wire, .draws, .time, .lanes, .halo, .sw, .txn, .ses, .drift, .regs RG.lane, .regs RG.halo, .regs RG.switch,
      .regs RG.swport, .regs RG.pool, .regs RG.gw, .regs RG.queue, .regs RG.sestx, .regs RG.sesrx, .regs RG.drift, .regs RG.zones,
      .regs RG.edge, .regs RG.eth])
  | .flapHoldEnd .. =>
    .only [.time, .lanes, .regs RG.hdr, .regs RG.lane]
  | .ringFrameReceived .. =>
    .only (raised ++ [.wire, .time, .lanes, .halo, .sw, .txn, .regs RG.lane, .regs RG.halo, .regs RG.switch, .regs RG.swport,
      .regs RG.pool, .regs RG.gw, .regs RG.eth])
  | .haloEntryAged .. =>
    .only [.time, .halo, .regs RG.hdr, .regs RG.halo]
  | .announce .. =>
    .only (faulted ++ [.regs RG.event, .regs RG.txn, .regs (RG.nodeAt 0x044)])
  | .holdDone .. =>
    .only (raised ++ [.time, .halo, .sw, .regs RG.halo, .regs RG.swport, .regs RG.pool])
  | .neighbourSend .. | .frameTransmitStart .. =>
    .only (raised ++ [.time, .halo, .sw, .regs RG.swport, .regs RG.pool])
  | .neighbour .. =>
    .only (raised ++ [.draws, .time, .lanes, .halo, .sw, .ses, .drift, .regs RG.lane, .regs RG.halo, .regs RG.swport,
      .regs RG.pool, .regs RG.gw, .regs RG.queue, .regs RG.sestx, .regs RG.sesrx, .regs RG.drift, .regs RG.zones, .regs RG.edge,
      .regs (RG.nodeAt 0x044)])
  | .neighbourMissed .. =>
    .only (raised ++ [.draws, .halo, .sw, .ses, .drift, .regs RG.lane, .regs RG.halo, .regs RG.swport, .regs RG.pool,
      .regs RG.queue, .regs RG.sestx, .regs RG.sesrx, .regs RG.drift, .regs RG.zones, .regs RG.edge])
  | .change .. =>
    .only (raised ++ [.draws, .halo, .sw, .ses, .drift, .regs RG.halo, .regs RG.swport, .regs RG.pool, .regs RG.queue,
      .regs RG.sestx, .regs RG.sesrx, .regs RG.drift, .regs RG.zones, .regs RG.edge])
  | .statusSend .. =>
    .only (raised ++ [.lanes, .halo, .sw, .regs RG.swport, .regs RG.pool])
  | .duplicate .. =>
    .only (faulted ++ [.regs (RG.nodeAt 0x044)])
  | .portDown .. | .ethLinkChange .. =>
    .only (raised ++ [.wire, .draws, .time, .lanes, .halo, .sw, .txn, .ses, .eths, .regs RG.lane, .regs RG.halo, .regs RG.switch,
      .regs RG.swport, .regs RG.pool, .regs RG.gw, .regs RG.queue, .regs RG.eth])
  | .frameTransmitEnd .. =>
    .only (raised ++ [.wire, .delivered, .draws, .time, .halo, .sw, .ses, .eths, .regs RG.lane, .regs RG.swport, .regs RG.pool,
      .regs RG.queue, .regs RG.eth])
  | .gateChange .. =>
    .only [.time, .sw, .regs RG.hdr, .regs RG.swport]
  | .squallInterval .. =>
    .only [.time, .sw]
  | .cellEccError .. =>
    .only (raised ++ [.wire, .sw, .ses, .regs RG.lane, .regs RG.swport, .regs RG.pool, .regs RG.eth])
  | .channelOffer .. =>
    .only (raised ++ [.draws, .halo, .sw, .pub, .ses, .tracks, .drift, .regs RG.swport, .regs RG.pool, .regs RG.pub, .regs RG.sub,
      .regs RG.queue, .regs RG.sestx, .regs RG.sesrx, .regs RG.track, .regs RG.drift, .regs RG.zones, .regs RG.edge])
  | .publishReceived .. =>
    .only (raised ++ [.draws, .time, .halo, .sw, .pub, .ses, .tracks, .drift, .regs RG.swport, .regs RG.pool, .regs RG.sub,
      .regs RG.queue, .regs RG.sestx, .regs RG.sesrx, .regs RG.track, .regs RG.drift, .regs RG.zones, .regs RG.edge])
  | .remoteLoad .. =>
    .allBut [.pending, .staged, .stagedLate, .mem, .wire, .delivered, .time, .lanes, .pub, .ses, .tracks, .drift, .caps, .sigs,
      .eths, .ports, .power, .usb, .cores, .ao, .otp, .mgmt, .tick]
  | .holdingSlotRelease .. =>
    .only (raised ++ [.txn, .regs RG.txn])
  | .streamSlotRelease .. =>
    .only [.sw, .txn, .regs RG.hdr, .regs RG.pool]
  | .handoverDone .. =>
    .only (raised ++ [.regs RG.gw])
  | .rtoExpiry .. | .msg .. | .ackSend .. | .freshAckRepeat .. =>
    .only (raised ++ [.halo, .sw, .ses, .regs RG.swport, .regs RG.pool, .regs RG.queue, .regs RG.sestx, .regs RG.sesrx])
  | .stall .. =>
    .only (raised ++ [.regs RG.sestx])
  | .ack .. | .driftAck .. =>
    .only (raised ++ [.draws, .halo, .sw, .ses, .drift, .regs RG.swport, .regs RG.pool, .regs RG.queue, .regs RG.sestx,
      .regs RG.sesrx, .regs RG.drift])
  | .scheduledWindowEnd .. =>
    .only (raised ++ [.draws, .time, .halo, .sw, .ses, .tracks, .drift, .regs RG.swport, .regs RG.pool, .regs RG.queue,
      .regs RG.sestx, .regs RG.sesrx, .regs RG.track, .regs RG.drift, .regs RG.zones, .regs RG.edge])
  | .offer .. | .driftSet .. =>
    .only (raised ++ [.draws, .halo, .sw, .ses, .drift, .regs RG.swport, .regs RG.pool, .regs RG.queue, .regs RG.drift])
  | .accept .. | .release .. | .retire .. | .query .. | .driftResend .. =>
    .only (raised ++ [.halo, .sw, .ses, .drift, .regs RG.swport, .regs RG.pool, .regs RG.queue, .regs RG.drift])
  | .refuse .. =>
    .only (raised ++ [.draws, .halo, .sw, .ses, .drift, .regs RG.swport, .regs RG.pool, .regs RG.queue, .regs RG.sestx,
      .regs RG.sesrx, .regs RG.drift, .regs RG.zones, .regs RG.edge])
  | .commit .. | .driftDone .. | .result .. | .handoffTimeout .. =>
    .only (raised ++ [.draws, .halo, .sw, .ses, .drift, .regs RG.swport, .regs RG.pool, .regs RG.queue, .regs RG.sestx,
      .regs RG.sesrx, .regs RG.drift, .regs RG.edge])
  | .answer .. | .pendingExpired .. | .resyncTimeout .. =>
    .only (raised ++ [.sw, .ses, .drift, .regs RG.pool, .regs RG.queue, .regs RG.drift])
  | .edgeCommit .. =>
    .only (raised ++ [.draws, .time, .halo, .sw, .ses, .drift, .regs RG.swport, .regs RG.pool, .regs RG.queue, .regs RG.sestx,
      .regs RG.sesrx, .regs RG.drift, .regs RG.edge])
  | .edgePlace .. | .fieldEdgeAction .. =>
    .only (raised ++ [.draws, .time, .halo, .sw, .ses, .drift, .sigs, .power, .mgmt, .regs RG.swport, .regs RG.pool,
      .regs RG.queue, .regs RG.sestx, .regs RG.sesrx, .regs RG.drift, .regs RG.edge, .regs RG.power, .regs RG.branch,
      .regs RG.log])
  | .fieldCommandArrival .. =>
    .only (raised ++ [.draws, .stitch, .time, .halo, .sw, .ses, .drift, .sigs, .power, .mgmt, .regs RG.swport, .regs RG.pool,
      .regs RG.queue, .regs RG.sestx, .regs RG.sesrx, .regs RG.drift, .regs RG.edge, .regs RG.power, .regs RG.branch,
      .regs RG.log])
  | .inputEdge .. =>
    .only (raised ++ [.draws, .time, .sw, .ses, .caps, .sigs, .regs RG.pool, .regs RG.queue, .regs RG.capt])
  | .wakeUpEnd .. | .openLoad .. | .shortVf .. | .overload .. | .tripped .. | .thermal .. | .wireBreak .. | .vfUv .. | .vfRev .. |
    .vfRecover .. | .recoveryEnd .. | .receiveError .. =>
    .only raised
  | .fieldInputEdge .. =>
    .only (raised ++ [.draws, .time, .sw, .pub, .ses, .caps, .sigs, .regs RG.pool, .regs RG.queue, .regs RG.capt])
  | .tripRetry .. =>
    .only [.regs RG.hdr, .regs RG.field]
  | .thermalRecover .. | .faultNowClear .. =>
    .only [.field, .regs RG.hdr, .regs RG.field]
  | .overtemp .. | .overtempClear .. | .retryWaitEnd .. =>
    .only (raised ++ [.draws, .power, .mgmt, .regs RG.power, .regs RG.branch, .regs RG.log])
  | .safeHoldExpiry .. =>
    .only [.field]
  | .encoderEdge .. | .encoderBreak .. | .clkLost .. =>
    .only (raised ++ [.tracks, .regs RG.track, .regs RG.enc])
  | .zEdge .. =>
    .only [.regs RG.hdr, .regs RG.enc]
  | .encoderBreakClear .. =>
    .only [.tracks, .regs RG.hdr, .regs RG.track, .regs RG.enc]
  | .adcRound .. =>
    .only (raised ++ [.draws, .mgmt, .regs RG.adc, .regs RG.sens, .regs RG.log])
  | .fifoRead .. | .inqR .. | .claim .. =>
    .allBut [.pending, .staged, .stagedLate, .mem, .wire, .delivered, .time, .lanes, .halo, .sw, .pub, .txn, .ses, .tracks,
      .drift, .caps, .sigs, .eths, .ports, .power, .usb, .cores, .ao, .otp, .mgmt, .tick]
  | .canSof .. | .canWindowEnd .. =>
    .only (raised ++ [.time, .sw, .ses, .regs RG.pool, .regs RG.queue])
  | .canFrameSent .. | .uartGap .. =>
    .only (raised ++ [.halo, .sw, .ses, .regs RG.swport, .regs RG.pool, .regs RG.queue])
  | .canAttemptFailed .. | .busOff .. | .tunnelField .. =>
    .only (raised ++ [.sw, .ses, .regs RG.pool, .regs RG.queue])
  | .canFrameReceived .. =>
    .only (raised ++ [.draws, .halo, .sw, .ses, .regs RG.swport, .regs RG.pool, .regs RG.queue])
  | .jump .. | .waitSig .. | .waitTrig .. | .waitTick .. | .setSr .. | .setFlag .. | .cmpLoadi .. | .cmpLoadr .. | .cmpDec .. |
    .cmpMatch .. | .cmpTakeq .. | .shiftIn .. | .pull .. | .pioPush .. =>
    .only (raised ++ [.pio])
  | .setLevels .. | .setDrives .. | .shiftOut .. =>
    .only (raised ++ [.pio, .sigs])
  | .engineStart .. =>
    .only [.regs RG.hdr, .regs RG.pio]
  | .ethFrameReceived .. =>
    .only (raised ++ [.time, .halo, .sw, .ses, .regs RG.swport, .regs RG.pool, .regs RG.queue, .regs RG.eth])
  | .tunnelEth .. =>
    .only (raised ++ [.time, .lanes, .halo, .sw, .txn, .regs RG.lane, .regs RG.halo, .regs RG.switch, .regs RG.swport,
      .regs RG.pool, .regs RG.gw, .regs RG.eth])
  | .asTimeout .. =>
    .only (raised ++ [.time, .regs RG.eth])
  | .uartCharacter .. =>
    .only (raised ++ [.time, .halo, .sw, .ses, .regs RG.swport, .regs RG.pool, .regs RG.queue])
  | .uartTxEnd .. =>
    .only (raised ++ [.sw, .ses, .regs RG.pool])
  | .hostRead .. =>
    .allBut [.pending, .staged, .stagedLate, .mem, .wire, .delivered, .time, .lanes, .pub, .ses, .tracks, .drift, .caps, .sigs,
      .eths, .power, .usb, .cores, .ao, .otp, .mgmt, .tick]
  | .hostAbort .. =>
    .only (raised ++ [.halo, .sw, .txn, .regs RG.swport, .regs RG.pool, .regs RG.txn, .regs RG.host])
  | .flashDone .. =>
    .only (raised ++ [.mem, .draws, .ports, .regs RG.flash])
  | .feedDiodeOn .. =>
    .only [.regs RG.hdr, .regs RG.power]
  | .feedReverse .. | .feedReversed .. | .lgRecover .. =>
    .only (raised ++ [.regs RG.power])
  | .feedWindow .. =>
    .only (raised ++ [.wire, .draws, .time, .lanes, .halo, .sw, .txn, .power, .usb, .ao, .regs RG.lane, .regs RG.halo,
      .regs RG.switch, .regs RG.swport, .regs RG.pool, .regs RG.gw, .regs RG.eth, .regs RG.power, .regs RG.branch, .regs RG.pd,
      .regs RG.usb])
  | .seatChange .. =>
    .only (raised ++ [.wire, .draws, .time, .lanes, .halo, .sw, .txn, .power, .usb, .ao, .mgmt, .regs RG.lane, .regs RG.halo,
      .regs RG.switch, .regs RG.swport, .regs RG.pool, .regs RG.gw, .regs RG.eth, .regs RG.power, .regs RG.branch, .regs RG.pd,
      .regs RG.usb, .regs RG.log])
  | .seatQualified .. | .rampDone .. | .retriesReset .. | .branchRampStart .. | .breakerSample .. =>
    .only [.power, .regs RG.hdr, .regs RG.power, .regs RG.branch]
  | .shortCircuit .. | .soaTrip .. | .dvdtTrip .. | .startTo .. | .curveTrip .. | .ovShutdown .. =>
    .only (raised ++ [.wire, .draws, .time, .lanes, .halo, .sw, .txn, .power, .usb, .mgmt, .regs RG.lane, .regs RG.halo,
      .regs RG.switch, .regs RG.swport, .regs RG.pool, .regs RG.gw, .regs RG.eth, .regs RG.power, .regs RG.branch, .regs RG.pd,
      .regs RG.usb, .regs RG.log])
  | .pgQualified .. =>
    .only (raised ++ [.wire, .draws, .time, .lanes, .halo, .sw, .txn, .power, .usb, .cores, .mgmt, .regs RG.lane, .regs RG.halo,
      .regs RG.switch, .regs RG.swport, .regs RG.pool, .regs RG.gw, .regs RG.eth, .regs RG.power, .regs RG.branch, .regs RG.pd,
      .regs RG.usb, .regs RG.cores, .regs RG.mgmt, .regs RG.log, .regs (RG.nodeAt 0x048)])
  | .powerEntryRestart .. =>
    .allBut [.pending, .staged, .stagedLate, .mem, .accFaults, .delivered, .stitch, .pub, .ses, .tracks, .drift, .caps, .pio,
      .sigs, .eths, .ports, .cores, .ao, .otp, .mgmt, .tick]
  | .lastGasp .. =>
    .only (raised ++ [.sw, .ses, .power, .ao, .regs RG.sesrx, .regs RG.power, .regs RG.branch])
  | .blackBoxWritten .. =>
    .allBut [.pending, .accFaults, .wire, .delivered, .otp]
  | .vbus0Rise .. =>
    .only (raised ++ [.usb, .ao, .regs RG.usb])
  | .svcOverlapEnd .. | .serviceTakeover .. | .vbusOvClear .. | .discoverSvids .. | .discoverModes .. =>
    .only [.usb]
  | .unsupportedRequest .. | .sourceCapabilities .. =>
    .only [.usb, .regs RG.hdr, .regs RG.pd]
  | .attach .. | .vsetTrim .. | .vbusOv .. | .requestReceived .. =>
    .only (raised ++ [.usb, .regs RG.pd])
  | .psRdy .. | .detach .. | .hardResetReceived .. | .pdTimerExpiry .. | .transitionFail .. =>
    .only (raised ++ [.wire, .draws, .time, .lanes, .halo, .sw, .txn, .usb, .regs RG.lane, .regs RG.halo, .regs RG.switch,
      .regs RG.swport, .regs RG.pool, .regs RG.gw, .regs RG.eth, .regs RG.pd, .regs RG.usb])
  | .prSwapReceived .. | .partnerAccept .. =>
    .only (raised ++ [.usb, .regs RG.pd, .regs RG.usb])
  | .enterMode .. | .exitMode .. =>
    .only (raised ++ [.wire, .time, .lanes, .halo, .sw, .txn, .usb, .regs RG.lane, .regs RG.halo, .regs RG.switch,
      .regs RG.swport, .regs RG.pool, .regs RG.gw, .regs RG.eth, .regs RG.pd])
  | .usbBusReset .. =>
    .only (raised ++ [.usb, .regs RG.usb])
  | .setup .. =>
    .only (raised ++ [.draws, .usb, .regs RG.usb])
  | .usbSuspend .. | .usbResume .. =>
    .only (raised ++ [.regs RG.usb])
  | .epDone .. =>
    .only (raised ++ [.mem, .usb, .regs RG.usb])
  | .mtip .. =>
    .only [.time, .cores]
  | .commitWarn .. =>
    .only (raised ++ [.time, .regs RG.cores])
  | .fwdtExpiry .. | .mwdtExpiry .. =>
    .only (raised ++ [.cores, .regs RG.cores, .regs (RG.nodeAt 0x068)])
  | .volt .. | .temp .. =>
    .only (raised ++ [.draws, .mgmt, .regs RG.sens, .regs RG.log])
  | .logExportDone .. =>
    .only (raised ++ [.mem, .draws, .mgmt, .regs RG.log])
  | .otpDone .. =>
    .only (raised ++ [.draws, .otp, .mgmt, .regs RG.log, .regs RG.sec])
  | .vfyDone .. =>
    .only (raised ++ [.draws, .mgmt, .regs RG.log, .regs RG.sec, .regs (RG.nodeAt 0x070)])
  | .dawnInfo .. | .dawnBegin .. | .dawnData .. =>
    .only [.mem, .draws, .mgmt, .regs RG.hdr, .regs RG.host]
  | .dawnEnd .. =>
    .only [.mem, .draws, .ao, .mgmt, .regs RG.hdr, .regs RG.host, .regs RG.mgmt]
  | .dawnExit .. =>
    .only [.mem, .draws, .node, .mgmt, .regs RG.hdr, .regs RG.host, .regs (RG.nodeAt 0x068)]
  | .bulkDistribution .. =>
    .only [.mem, .draws, .node, .ao, .mgmt, .regs RG.hdr, .regs RG.mgmt, .regs (RG.nodeAt 0x068)]
  | .applyDone .. =>
    .only (raised ++ [.mem, .draws, .mgmt, .regs RG.log, .regs RG.upd, .regs (RG.nodeAt 0x048)])
  | .bankTouched .. =>
    .only (raised ++ [.mem, .draws, .mgmt, .regs RG.log, .regs RG.upd, .regs (RG.nodeAt 0x048), .regs (RG.nodeAt 0x068)])
  | .eclipseN .. | .armReached .. =>
    .only (safeEntered ++ [.node, .time, .edge, .can, .uarts, .router, .ecl, .regs RG.can, .regs RG.uart])
  | .eclReq .. =>
    .only (raised ++ [.regs RG.ecl])
  | .dumpReq .. =>
    .only (raised ++ [.draws, .halo, .sw, .regs RG.swport, .regs RG.pool])
  | .autoDump .. =>
    .only (raised ++ [.draws, .time, .halo, .sw, .regs RG.swport, .regs RG.pool])
  | .jtagReadout .. =>
    .only [.draws, .stitch]
  | .fieldClockRestored .. =>
    .only [.field, .regs RG.hdr, .regs RG.frz]
  | .busIntegration .. =>
    .only [.can, .regs RG.hdr, .regs RG.can]
  | .aoSupplyFail .. =>
    .only [.ao]
  | .evtPulseEnd .. =>
    .only [.router]

end Sys2Proof.Machine
end

