-- ==== Sys2Proof/Certificates/Slice0/Obligations.lean ====
section
/-!
DEFINITION. The statements for the provers (OBLIGATIONS.json lists them): what every command and every step does, then, family by
family, that each command completes and with which effect.
-/

open Sys2Proof Sys2Proof.Machine

/-- For every command c, queue rest r and state s whose queue is c followed by r: step of s is exec of c on s with the queue r. -/
def Obligations.StepExecutesTheFrontCommand : Prop :=
  ∀ (c : Instr) (r : List Instr) (s : State), s.pending = c :: r → step s = exec c { s with pending := r }

/-- A step on an empty queue answers the same state: the model's choice (notes/assumptions/1.md). -/
def Obligations.EmptyQueueIdles : Prop :=
  ∀ s : State, s.pending = [] → step s = .next s

/-- The state after a power-on cold reset: the register file and the memories in canonical form, nothing pending, nothing staged,
the reset still asserted, the logic die without clock edges; RESET_CAUSE.POWER_ON reads 1 and every other register field, of every
page and index, the reset value of its table (where the spec gives none: notes/assumptions/4.md). -/
def Obligations.ResetLeaves : Prop :=
  State.reset.wf = true ∧ State.reset.pending = [] ∧ State.reset.staged = [] ∧ State.reset.node.inReset = true ∧
  State.reset.alive = false ∧
  ∀ (p : Nat) (f : Fld) (i : Nat), State.reset.rdi p f i =
    if (⟨p, f.off, f.lsb, i⟩ : Key) = ⟨P.node, F.NODE_RESET_CAUSE_POWER_ON.off, F.NODE_RESET_CAUSE_POWER_ON.lsb, 0⟩ then 1
    else resetVal p f i

/-- For every command and every state exec answers a next state, neither a fault nor a refusal; the queue of pending commands is
as before, and the counter of free values drawn does not fall. -/
def Obligations.EveryCommandAnswersNext : Prop :=
  ∀ (c : Instr) (s : State), ∃ t, exec c s = .next t ∧ t.pending = s.pending ∧ s.draws ≤ t.draws

/-- For every state, as many steps as its queue is long answer a next state whose queue is empty. -/
def Obligations.RunsDrainTheQueue : Prop :=
  ∀ (s : State), ∃ t, Sys2Proof.core.run s.pending.length s = .next t ∧ t.pending = []

/-- For every command that answers a next state, every part of State outside the command's reach, as the table reach lists it, is
as before. -/
def Obligations.CommandsStayWithinTheirReach : Prop :=
  ∀ (c : Instr) (s t : State) (p : Part), exec c s = .next t → (reach c).keeps p = true → p.same s t

/-- For every state whose register file and memories are in canonical form (State.wf): if step answers a next state, that state's
are too. -/
def Obligations.StepKeepsTablesCanonical : Prop :=
  ∀ s t : State, s.wf = true → step s = .next t → t.wf = true

/-- For every state, if step answers a next state: every programmed bit of a key hash, every programmed and every revoked bit of a
key slot of the OTP is still set, the roll-back count and the debug lock have not fallen, and the fused UID, SVID, product and VDO
are the same. -/
def Obligations.FusesOnlyGrow : Prop :=
  ∀ s t : State, step s = .next t → s.otp.le t.otp

/-- STITCH_REPLAY of a flit that its sender holds: its count of consecutive failed replays is 0 after one that passes and 1 more
after one that fails; no other flit's count and no store changes, the link stays up and no register changes. STITCH_LINK_DOWN with
a flit held that has failed 8 consecutive replays: the link is down, and own-fault cause 0 is set. HEARTBEAT_FLIT on a link that
is up: the flit takes the next sequence number (mod 65,536) in the store of the last 32 flits sent; one that arrives valid
restarts the field-die watchdog and is acknowledged by a flit of the other direction; no register changes. FDIE_WATCHDOG_EXPIRY
after the watchdog time (WDT_CFG.TIME clamped to 50 µs to 100 ms) of elapsed time without a valid flit: the watchdog has fired,
CNT_WDT counts it, saturating, and a running logic die whose link is up sets own-fault cause 5. ECC_ERROR: a corrected error of
the cell pool (memory 3) counts in CNT_ECC_CORR and changes nothing else; a corrected one elsewhere is counted in the model's own
count and changes nothing else; an uncorrectable one on an access of one of the five cores through a mapped page is answered to it
as an access fault, and any other to nobody; an uncorrectable one in the item store or the session tables (memories 0 and 1) sets
own-fault cause 1, in the table RAM (memory 2) cause 2. -/
def Obligations.StitchLinkAndEcc : Prop :=
  (∀ (s : State) (d n : Nat) (ok : Bool), s.alive = true → d < 2 → s.stitch.down = false → (if d = 0 then s.stitch.storeOut else s.stitch.storeIn).any (·.1 == n) = true →
    ∃ t, exec (.stitchReplay d n ok) s = .next t ∧ flitReplays t d n = (if ok then 0 else flitReplays s d n + 1) ∧
      (∀ e m, e * 65536 + m ≠ d * 65536 + n → flitReplays t e m = flitReplays s e m) ∧
      t.stitch.storeOut = s.stitch.storeOut ∧ t.stitch.storeIn = s.stitch.storeIn ∧ t.stitch.down = false ∧ t.regs = s.regs) ∧
  (∀ (s : State) (d : Nat), s.alive = true → d < 2 → s.stitch.down = false → flitDead s d = true →
    ∃ t, exec (.stitchLinkDown d) s = .next t ∧ t.stitch.down = true ∧ t.stitch.outDead = (d == 0) ∧
      t.bit P.node F.NODE_OWN_FAULT_CAUSE 0 = true) ∧
  (∀ (s : State) (x : Nat) (ok : Bool), s.alive = true → s.stitch.down = false →
    ∃ t, exec (.heartbeatFlit x ok) s = .next t ∧ t.stitch.seqOut = (s.stitch.seqOut + 1) % 65536 ∧
      t.stitch.storeOut = ((s.stitch.seqOut, []) :: s.stitch.storeOut).take 32 ∧
      (ok = true → t.stitch.lastFlit = max s.stitch.lastFlit (s.upAt x) ∧ t.stitch.wdtFired = false ∧
        t.stitch.seqIn = (s.stitch.seqIn + 1) % 65536 ∧ t.stitch.storeIn = ((s.stitch.seqIn, []) :: s.stitch.storeIn).take 32) ∧
      (ok = false → t.stitch.lastFlit = s.stitch.lastFlit ∧ t.stitch.wdtFired = s.stitch.wdtFired) ∧ t.regs = s.regs) ∧
  (∀ (s : State) (x : Nat), s.node.rails = true → s.stitch.wdtFired = false → s.stitch.lastFlit + wdtTime s ≤ s.upAt x →
    ∃ t, exec (.fdieWatchdogExpiry x) s = .next t ∧ t.stitch.wdtFired = true ∧
      t.rd P.fdie F.FDIE_CNT_WDT_N = satAdd F.FDIE_CNT_WDT_N.width (s.rd P.fdie F.FDIE_CNT_WDT_N) 1 ∧
      (s.alive = true → s.stitch.down = false → t.bit P.node F.NODE_OWN_FAULT_CAUSE 5 = true)) ∧
  (∀ (s : State) (m : Nat) (corr : Bool) (page addr ini : Nat), s.alive = true →
    ∃ t, exec (.eccError m corr page addr ini) s = .next t ∧
      (corr = true → m = 3 → t = s.inc P.pool F.CELLPOOL_CNT_ECC_CORR_N) ∧
      (corr = true → m ≠ 3 → t = { s with node := { s.node with eccCorr := s.node.eccCorr + 1 } }) ∧
      (corr = false → t.accFaults = if ini < 5 ∧ (pageRow page).isSome then (ini, addr) :: s.accFaults else s.accFaults) ∧
      (corr = false → m < 2 → t.bit P.node F.NODE_OWN_FAULT_CAUSE 1 = true) ∧
      (corr = false → m = 2 → t.bit P.node F.NODE_OWN_FAULT_CAUSE 2 = true))

/-- RAILS_GOOD: from SHELF the rails come up with a cold reset asserted, RESET_CAUSE.POWER_ON set, fuses and AO contents kept.
RAIL_FAIL: the rails drop and a cold reset is asserted with POWER_ON; an AO write in progress ends and leaves the AO contents
invalid. AO_SUPPLY_FAIL: without the rails the AO contents are lost, an AO write in progress with them, and no register changes.
RST_N_LOW of w ns: under 100 ns nothing happens; from 1 µs on a cold reset is asserted with RESET_CAUSE.RST_PIN; between them it
is a reset or nothing (notes/assumptions/2.md). RST_N_RELEASE: the pin is high again; a reset that is asserted stays so, and no
register changes. WARM_RESET: a requested warm reset is asserted and keeps fuses, AO contents, item records, the power entry at
the instant it has reached and the class B lock; while a last-gasp write runs it waits and changes no register. -/
def Obligations.SuppliesAndResets : Prop :=
  (∀ (s : State), s.node.rails = false → 
    ∃ t, exec .railsGood s = .next t ∧ t.node.rails = true ∧ t.node.inReset = true ∧
      t.rd P.node F.NODE_RESET_CAUSE_POWER_ON = 1 ∧ t.otp = s.otp ∧ t.ao = s.ao) ∧
  (∀ (s : State), s.node.rails = true → 
    ∃ t, exec .railFail s = .next t ∧ t.node.rails = false ∧ t.node.inReset = true ∧
      t.rd P.node F.NODE_RESET_CAUSE_POWER_ON = 1 ∧ t.ao.writing = none ∧ (s.ao.writing.isSome → t.ao.valid = false)) ∧
  (∀ (s : State), s.node.rails = false → 
    ∃ t, exec .aoSupplyFail s = .next t ∧ t.ao.valid = false ∧ t.ao.writing = none ∧ t.regs = s.regs) ∧
  (∀ (s : State) (w : Nat), s.node.rstLow = false → 
    ∃ t, exec (.rstNLow w) s = .next t ∧ (w < 100 → t = s) ∧
      (1000 ≤ w → t.node.rstLow = true ∧ t.node.inReset = true ∧ t.rd P.node F.NODE_RESET_CAUSE_RST_PIN = 1) ∧
      (100 ≤ w → w < 1000 → t.node.rstLow = true ∨ t = { s with draws := s.draws + 1 })) ∧
  (∀ (s : State), 
    ∃ t, exec .rstNRelease s = .next t ∧ t.node.rstLow = false ∧ t.node.inReset = s.node.inReset ∧ t.regs = s.regs) ∧
  (∀ (s : State), s.node.rails = true → s.node.rstLow = false → s.node.inReset = false → s.node.resetReq ≠ [] → 
    ∃ t, exec .warmReset s = .next t ∧
      (if (s.ao.writing.map (·.1)) = some 1 then t.node.resetWait = true ∧ t.regs = s.regs
      else t.node.inReset = true ∧ t.node.warm = true ∧ t.node.resetReq = [] ∧ t.node.lockedB = s.node.lockedB ∧
        t.otp = s.otp ∧ t.ao = s.ao ∧ t.drift.recs = s.drift.recs ∧ t.power = { s.power with now := s.coreNow, seen := 0 }))

/-- GW_RESET_DEFER_EXPIRY: the gateway resets deferred for 1 s are dropped, DEFER.GW_RESET reads 0, and ring time stands at that
instant. JOIN_ALONE: 5 s in JOIN without a ring lane up set STATE_INFO.ALONE, and the state stays JOIN. CUT_OFF: three consecutive
ticks without a SUPERVISION frame set own-fault cause 4. -/
def Obligations.NodeStateTimers : Prop :=
  (∀ (s : State) (x : Nat), s.alive = true → s.node.gwReset ≠ [] → s.node.gwSince + 1000000000 ≤ s.upAt x →
    ∃ t, exec (.gwResetDeferExpiry x) s = .next t ∧ t.rd P.node F.NODE_DEFER_GW_RESET = 0 ∧ t.node.gwReset = [] ∧ t.now = max s.now x) ∧
  (∀ (s : State) (x : Nat), s.alive = true → s.st = NS.join → s.node.laneSeen = false → s.node.joinSince + 5000000000 ≤ s.upAt x → 
    ∃ t, exec (.joinAlone x) s = .next t ∧ t.rd P.node F.NODE_STATE_INFO_ALONE = 1 ∧ t.st = NS.join) ∧
  (∀ (s : State), s.alive = true → 3 ≤ s.node.supMiss → 
    ∃ t, exec .cutOff s = .next t ∧ t.bit P.node F.NODE_OWN_FAULT_CAUSE 4 = true)

/-- TICK_INSTANT: one more tick has passed; the tick number is one more, or 0 at the instant of tick 0 that a first Zenith has
set. COMMIT_POINT, while C(n) is still to come: it has passed; it is clean exactly when every core that is judged has declared
CORE_DONE; ring time has reached C(n). -/
def Obligations.TickInstantAndCommitPoint : Prop :=
  (∀ (s : State), s.alive = true → 
    ∃ t, exec .tickInstant s = .next t ∧ t.time.ticks = s.time.ticks + 1 ∧ t.tick = (if s.time.start.isSome then 0 else s.tick + 1)) ∧
  (∀ (s : State), s.alive = true → s.time.pastC = false → 
    ∃ t, exec .commitPoint s = .next t ∧ t.time.pastC = true ∧
      t.time.clean = (andNot (coresJudged s) (s.rd P.time F.TIME_CORE_DONE_DONE) == 0) ∧ t.now = max s.now (commitAt s))

/-- TICK_RECEIVED: a copy on an UP ring lane counts in that lane's RX_FRAMES, accepted or not. TICK_CLOSURE: a source's own TICK
that returns adds its latency, receive stamp less T_ORIGIN, to the list of its copy on its ring. -/
def Obligations.TickCopies : Prop :=
  (∀ (s : State) (i x fr : Nat) (f : Frame), lanesOn s = true → i < 4 → ringLane s i = true → laneUp s i = true → f.typ = 1 → 
    ∃ t, exec (.tickReceived i x fr f) s = .next t ∧
      t.rd (P.lane i) F.LANE_RX_FRAMES_N = satAdd F.LANE_RX_FRAMES_N.width (s.rd (P.lane i) F.LANE_RX_FRAMES_N) 1) ∧
  (∀ (s : State) (i x fr : Nat) (f : Frame), s.alive = true → i < 4 → ringLane s i = true → laneUp s i = true → f.typ = 1 → isOwn s f.src = true → (if laneK i then s.time.srcK.orig else s.time.src.orig) = true → 
    ∃ t, exec (.tickClosure i x fr f) s = .next t ∧
      (if f.copy = 0 then (if laneK i then t.time.srcK.latE else t.time.src.latE) else (if laneK i then t.time.srcK.latW else t.time.src.latW)).head? =
        some (((x * 65536 + fr % 65536 : Nat) : Int) - (tickOrigin f : Int) * 65536))

/-- PROBE_SEND on an UP lane: a probe with the next number (modulo 2^32) leaves on the lane's port, and its send stamp is held.
PROBE on an UP lane: the reply that leaves carries the probe's number, the receive stamp t2 and the send stamp t3. PROBE_REPLY
with the number of the outstanding probe: it ends, and the run of failures is 0. PROBE_FAIL: the unanswered probe ends, the run of
failures is 1 more and that of valid replies 0. -/
def Obligations.LinkProbes : Prop :=
  (∀ (s : State) (i t1 : Nat), probes s = true → i < 4 → laneUp s i = true →
    ∃ t, exec (.probeSend i t1) s = .next t ∧ (probe t i).t1 = some t1 ∧ (probe t i).num = ((probe s i).num + 1) % 2 ^ 32 ∧
      t.wire.tail = s.wire ∧ t.wire.head?.map (fun x => (x.port, x.frame.typ, frameSub x.frame)) = some (lanePort s i, 0xD, 2)) ∧
  (∀ (s : State) (i : Nat) (f : Frame) (t2 t3 : Nat), probes s = true → i < 4 → laneUp s i = true → f.typ = 0xD → frameSub f = 2 → 
    ∃ t, exec (.probe i f t2 t3) s = .next t ∧ t.wire.tail = s.wire ∧
      t.wire.head?.map (fun x => (x.port, x.frame.typ, frameSub x.frame, x.frame.pay)) =
        some (lanePort s i, 0xD, 3, slice f.pay 0 4 ++ beBytes 4 0 ++ beBytes 8 t2 ++ beBytes 8 t3)) ∧
  (∀ (s : State) (i : Nat) (f : Frame) (t1 t4 : Nat), probes s = true → i < 4 → laneUp s i = true → f.typ = 0xD → frameSub f = 3 → (probe s i).t1 = some t1 → beAt f.pay 0 4 = (probe s i).num → 
    ∃ t, exec (.probeReply i f t4) s = .next t ∧ (probe t i).t1 = none ∧ (probe t i).fails = 0) ∧
  (∀ (s : State) (i : Nat), probes s = true → i < 4 → (probe s i).t1.isSome = true → 
    ∃ t, exec (.probeFail i) s = .next t ∧ (probe t i).t1 = none ∧ (probe t i).fails = (probe s i).fails + 1 ∧
      (probe t i).valids = 0)

/-- MISS_DEADLINE of the next tick to be judged: a source of ring 0 goes on to the deadline of the tick after; any other node,
where it has accepted no copy of tick n, counts it in CNT_MISSED. ZENITH_LISTEN_EXPIRY: a node in JOIN with an address, not alone,
that has heard no source for its listening time originates, has set the instant of tick 0 and has the role ZENITH. TAKEOVER: a
standby of priority 1 after 2 missed ticks, or of priority 2 after 4, originates with the next EPOCH and its own PRIO, counts no
missed tick and has the role ZENITH; a gateway that is not the primary, after 2 missed ticks of ring k, originates there with the
next EPOCH and PRIO 1. ZENITH_YIELD: a source that has accepted a TICK with precedence stops originating on that ring, and only
such a one. -/
def Obligations.TickSourceRole : Prop :=
  (∀ (s : State) (n x : Nat), s.alive = true → servoed s = true → (n = s.time.missNext ∧ n ≤ s.tick ∧ missDeadline s n ≤ x) → 
    ∃ t, exec (.missDeadline n x) s = .next t ∧ (s.time.src.orig = true → t.time.missNext = n + 1) ∧
      (s.time.src.orig = false → n ∉ s.time.gots → t.rd P.time F.TIME_CNT_MISSED_N =
        satAdd F.TIME_CNT_MISSED_N.width (s.rd P.time F.TIME_CNT_MISSED_N) 1)) ∧
  (∀ (s : State) (x w : Nat), s.alive = true → s.st = NS.join → s.ownValid = true → alone s = false → s.time.listen = true → s.on P.time F.TIME_ZENITH_VALID = false → listenTime s = some w → s.halo.announcedAt + w ≤ s.upAt x → 
    ∃ t, exec (.zenithListenExpiry x) s = .next t ∧ t.time.src.orig = true ∧ t.time.stepped = true ∧
      t.rd P.time F.TIME_ZENITH_VALID = 1 ∧ t.time.start.isSome = true ∧ t.role = 1) ∧
  (∀ (s : State), s.alive = true → s.working = true → s.role = 2 → s.time.src.orig = false → (standbyPrio s = 1 ∧ 2 ≤ s.rd P.time F.TIME_SERVO_STAT_MISSED ∨ standbyPrio s = 2 ∧ 4 ≤ s.rd P.time F.TIME_SERVO_STAT_MISSED) → 
    ∃ t, exec (.takeover false) s = .next t ∧ t.time.src.orig = true ∧ t.time.src.prio = standbyPrio s ∧
      t.time.src.epoch = (s.rd P.time F.TIME_SOURCE_EPOCH + 1) % 256 ∧ t.rd P.time F.TIME_SERVO_STAT_MISSED = 0 ∧ t.role = 1) ∧
  (∀ (s : State) (x : Source), s.alive = true → s.working = true → isGateway s = true → s.on P.time F.TIME_ROLE_CFG_GW_PRIMARY = false → s.time.srcK.orig = false → s.time.folK = some x → 2 ≤ s.time.missK →
    ∃ t, exec (.takeover true) s = .next t ∧ t.time.srcK.orig = true ∧ t.time.srcK.prio = 1 ∧ t.time.srcK.epoch = (x.1 + 1) % 256) ∧
  (∀ (s : State), s.alive = true →
    ∃ t, exec .zenithYield s = .next t ∧ t.time.src.orig = (s.time.src.orig && !s.time.yield) ∧
      t.time.srcK.orig = (s.time.srcK.orig && !s.time.yieldK))

/-- Each takes effect on the first stored command of its code whose effective tick has come. LINE of a line state 0, 1 or 2: it is
the one in force, in NODE and in TIME, and the command is no longer stored. TICK_LEN: a length from 10,000 to 2,000,000 ns that 10
divides is in force, and the command is no longer stored. WINDOW: F from 16 to 192 is in force, and the command is no longer
stored. ZENITH_MOVE: a source other than the node named stops; the node named, in a working state, no gateway and no source yet,
and a standby or address 0, originates with the next EPOCH. USER (codes 0x10 to 0x1F): CODE and ARG are latched, and the command
is no longer stored. -/
def Obligations.TickCommandsTakeEffect : Prop :=
  (∀ (s : State) (c : TickCmd), s.alive = true → s.time.cmds.find? (fun c => c.code == 1 && decide (c.eff ≤ s.tick)) = some c → c.arg % 4 ≠ 3 → 
    ∃ t, exec .line s = .next t ∧ t.line = c.arg % 4 ∧ t.rd P.time F.TIME_SOURCE_LINE = c.arg % 4 ∧ t.time.cmds = s.time.cmds.erase c) ∧
  (∀ (s : State) (c : TickCmd), s.alive = true → s.time.cmds.find? (fun c => c.code == 2 && decide (c.eff ≤ s.tick)) = some c → (10000 ≤ c.arg % 2 ^ 21 ∧ c.arg % 2 ^ 21 ≤ 2000000 ∧ c.arg % 2 ^ 21 % 10 = 0) → 
    ∃ t, exec .tickLen s = .next t ∧ t.rd P.time F.TIME_TICK_CFG_LEN = c.arg % 2 ^ 21 ∧ t.time.cmds = s.time.cmds.erase c) ∧
  (∀ (s : State) (c : TickCmd), s.alive = true → s.time.cmds.find? (fun c => c.code == 3 && decide (c.eff ≤ s.tick)) = some c → (16 ≤ c.arg % 256 ∧ c.arg % 256 ≤ 192) → 
    ∃ t, exec .window s = .next t ∧ t.rd P.time F.TIME_TICK_CFG_F = c.arg % 256 ∧ t.time.cmds = s.time.cmds.erase c) ∧
  (∀ (s : State) (c : TickCmd), s.alive = true → s.time.cmds.find? (fun c => c.code == 4 && decide (c.eff ≤ s.tick)) = some c → 
    ∃ t, exec .zenithMove s = .next t ∧ (s.time.src.orig = true → c.arg % 4096 ≠ s.own → t.time.src.orig = false) ∧
      (c.arg % 4096 = s.own → s.ownValid = true → s.working = true → s.time.src.orig = false → s.role ≠ 3 → (s.own = 0 ∨ s.role = 2) →
        t.time.src.orig = true ∧ t.time.src.epoch = (s.rd P.time F.TIME_SOURCE_EPOCH + 1) % 256)) ∧
  (∀ (s : State) (c : TickCmd), s.alive = true → (s.time.cmds.find? (fun c => decide (0x10 ≤ c.code ∧ c.code ≤ 0x1F ∧ c.eff ≤ s.tick)) = some c) → 
    ∃ t, exec .user s = .next t ∧ t.rd P.time F.TIME_USER_CODE_CODE = c.code ∧
      t.rd64 P.time F.TIME_USER_ARG_LO_ARG F.TIME_USER_ARG_HI_ARG = c.arg % 2 ^ 64 ∧ t.time.cmds = s.time.cmds.erase c)

/-- LOCK_KEY from an initiator that reaches the page: the right key for the page (0x1F3C in the high half, the page below) arms
the page for its initiator until the second tick instant and ends other arms of the page; no register changes. KEY_ARM_LAPSE: the
arms of the page that have reached their second tick instant end, and nothing else changes. RESET_CTRL: with key 0x5752, at a node
that is no gateway, the warm reset is requested under the software or, from another node, the remote source; with any other key
nothing but the page's arms changes. STATE_REQ for another state: in JOIN a listed target is held in STATE_INFO.HELD; in
COMMISSION, with no request pending, MAINT waits for the next tick instant; an unlisted target leaves STATE_REFUSE valid. -/
def Obligations.NodeRegisterWrites : Prop :=
  (∀ (s : State) (page : Nat) (who : By) (w : Nat), s.alive = true → registerAt page 0x038 = true → (pageRow page).isSome = true → (onFieldDie page = true → s.stitch.down = false) → (who.ini = 8 → remoteOpen s who.src page = true) → tapShut s who page = false → w % 2 ^ 32 = 0x1F3C0000 + page → 
    ∃ t, exec (.lockKey page who w) s = .next t ∧ t.regs = s.regs ∧
      t.node.keyArms = s.node.keyArms.filter (fun e => e.1 != page) ++ [(page, armWho who, 2)]) ∧
  (∀ (s : State) (page : Nat), s.alive = true → 
    ∃ t, exec (.keyArmLapse page) s = .next t ∧
      t = { s with node := { s.node with keyArms := s.node.keyArms.filter fun e => !(e.1 == page && decide (e.2.2 ≤ 1)) } }) ∧
  (∀ (s : State) (who : By) (key : Nat), MayWrite s who P.node 0x050 → 
    ∃ t, exec (.resetCtrl who key) s = .next t ∧
      (key % 65536 = 0x5752 → s.role ≠ 3 → t.node.resetReq = (s.node.resetReq.filter (· != (if who.ini = 8 then RC.remote else RC.software))) ++
          [if who.ini = 8 then RC.remote else RC.software]) ∧
      (key % 65536 ≠ 0x5752 → t = dropArms s P.node)) ∧
  (∀ (s : State) (who : By) (x : Nat), MayWrite s who P.node 0x04C → x < 16 → x ≠ s.st → 
    ∃ t, exec (.stateReq who x) s = .next t ∧
      (s.st = NS.commission → x = NS.maint → s.node.pendTarget = none → t.node.pendTarget = some NS.maint ∧ t.st = s.st) ∧
      (s.st = NS.join → listedTarget s.st x = true → t.rd P.node F.NODE_STATE_INFO_HELD = x ∧ t.st = s.st) ∧
      (listedTarget s.st x = false → t.on P.node F.NODE_STATE_REFUSE_VALID = true))

/-- PWR_CTRL_WRITE of a word in which CORE is not refused: CORE_ON, FIELDLOG_ON and ETH_ON hold the bits written. DOMAIN_OFF: once
every block of a domain that was told to stop has stopped, its bit of PWR_STAT.ON is 0 and it waits no more. VOLT: a reading above
the domain's upper limit sets its bit of VSTAT.OV, one below the lower limit only its bit of VSTAT.UV. TEMP: one of the six hub
sensors at 135 °C or above sets its bit of TEMP_STAT.CRIT. LOG_APPEND: counts in CNT_APPEND. LOG_EXPORT: with no export and no
flash operation in progress and the ETH domain on, BUSY is set, RESULT is cleared, and what is not yet exported is what the export
takes. LOG_EXPORT_DONE: BUSY is cleared; RESULT is 1 after a good export and 2 after a flash error. BB_CTRL: KIND 2 or 3 starts a
record with its ARG when none is being written, and no register changes. BLACK_BOX_WRITTEN: the record in progress is valid with
its KIND and ARG, and none is being written. ISOLATE_RECORD_WRITTEN: in ISOLATE, once the requested record is written, the warm
reset is requested under cause ISOLATE. -/
def Obligations.PowerDomainsSensorsAndBlackBox : Prop :=
  (∀ (s : State) (who : By) (m : Nat), MayWrite s who P.mgmt 0x040 → m < 8 → coreRefused s m = false → 
    ∃ t, exec (.pwrCtrlWrite who m) s = .next t ∧ t.rd P.mgmt F.MGMT_PWR_CTRL_CORE_ON = m % 2 ∧
      t.rd P.mgmt F.MGMT_PWR_CTRL_FIELDLOG_ON = m / 2 % 2 ∧ t.rd P.mgmt F.MGMT_PWR_CTRL_ETH_ON = m / 4 % 2) ∧
  (∀ (s : State) (d : Nat), s.alive = true → s.mgmt.stopWait.contains d = true → s.bit P.mgmt F.MGMT_PWR_STAT_ON (d - 1) = true → domStopped s d = true → d ≤ 10 → 
    ∃ t, exec (.domainOff d) s = .next t ∧ t.bit P.mgmt F.MGMT_PWR_STAT_ON (d - 1) = false ∧ t.mgmt.stopWait.contains d = false) ∧
  (∀ (s : State) (d mv : Nat), s.alive = true → d < 10 → (s.rd P.sens (F.SENSORS_VLIM_OV d) < mv ∨ mv < s.rd P.sens (F.SENSORS_VLIM_UV d)) → 
    ∃ t, exec (.volt d mv) s = .next t ∧
      (s.rd P.sens (F.SENSORS_VLIM_OV d) < mv → t.bit P.sens F.SENSORS_VSTAT_OV d = true) ∧
      (mv ≤ s.rd P.sens (F.SENSORS_VLIM_OV d) → t.bit P.sens F.SENSORS_VSTAT_UV d = true)) ∧
  (∀ (s : State) (k : Nat) (v : Int), s.alive = true → k < 6 → 1080 ≤ v → 
    ∃ t, exec (.temp k v) s = .next t ∧ t.bit P.sens F.SENSORS_TEMP_STAT_CRIT k = true) ∧
  (∀ (s : State) (who : By) (v : Nat), MayWrite s who P.log 0x048 → 
    ∃ t, exec (.logAppend who v) s = .next t ∧
      t.rd P.log F.LOG_CNT_APPEND_N = satAdd F.LOG_CNT_APPEND_N.width (s.rd P.log F.LOG_CNT_APPEND_N) 1) ∧
  (∀ (s : State) (who : By), MayWrite s who P.log 0x054 → s.on P.log F.LOG_EXP_STAT_BUSY = false → s.on P.flash F.FLASH_FL_STAT_BUSY = false → domOn s 7 = true → 
    ∃ t, exec (.logExport who) s = .next t ∧ t.rd P.log F.LOG_EXP_STAT_BUSY = 1 ∧ t.rd P.log F.LOG_EXP_STAT_RESULT = 0 ∧
      t.mgmt.exporting = s.mgmt.unexp) ∧
  (∀ (s : State) (ok : Bool), s.alive = true → s.on P.log F.LOG_EXP_STAT_BUSY = true → 
    ∃ t, exec (.logExportDone ok) s = .next t ∧ t.rd P.log F.LOG_EXP_STAT_BUSY = 0 ∧ t.rd P.log F.LOG_EXP_STAT_RESULT = if ok then 1 else 2) ∧
  (∀ (s : State) (who : By) (kind arg : Nat), MayWrite s who P.mgmt 0x078 → (kind = 2 ∨ kind = 3) → s.ao.writing = none → 
    ∃ t, exec (.bbCtrl who kind arg) s = .next t ∧ t.ao.writing = some (kind, arg % 65536) ∧ t.regs = s.regs) ∧
  (∀ (s : State) (k a : Nat), s.ao.writing = some (k, a) → s.node.rails = true → 
    ∃ t, exec .blackBoxWritten s = .next t ∧ t.ao.writing = none ∧ t.ao.bb.valid = true ∧ t.ao.bb.kind = k ∧ t.ao.bb.arg = a) ∧
  (∀ (s : State), s.alive = true → s.st = NS.isolate → s.node.isoRecord = true → 
    ∃ t, exec .isolateRecordWritten s = .next t ∧ t.node.isoRecord = false ∧ RC.isolate ∈ t.node.resetReq)

/-- BOOT_ROM_START of a node whose AO contents are valid: the reset is released, and the node takes its next incarnation.
BOOT_GOOD: with key 0x4247 the boot-fail count is 0; with any other key nothing but the page's arms changes. DAWN_REQ: with key
0x4457 Dawn is requested at the next boot and, at a node that is no gateway, the warm reset that brings it is requested under its
source; with any other key nothing but the page's arms changes. -/
def Obligations.BootAndRelease : Prop :=
  (∀ (s : State) (b ea eb : Bool), s.node.inReset = true → s.node.rails = true → s.node.rstLow = false → s.ao.valid = true → 
    ∃ t, exec (.bootRomStart b ea eb) s = .next t ∧ t.node.inReset = false ∧ t.ao.incarnation = (s.ao.incarnation + 1) % 65536) ∧
  (∀ (s : State) (who : By) (key : Nat), MayWrite s who P.mgmt 0x04C → 
    ∃ t, exec (.bootGood who key) s = .next t ∧ (key % 65536 = 0x4247 → t.ao.bootFails = 0) ∧
      (key % 65536 ≠ 0x4247 → t = dropArms s P.mgmt)) ∧
  (∀ (s : State) (who : By) (key : Nat), MayWrite s who P.mgmt 0x054 → 
    ∃ t, exec (.dawnReq who key) s = .next t ∧
      (key % 65536 = 0x4457 → t.ao.dawnReq = true ∧ (s.role ≠ 3 → (if who.ini = 8 then RC.remote else RC.software) ∈ t.node.resetReq)) ∧
      (key % 65536 ≠ 0x4457 → t = dropArms s P.mgmt))

/-- REGISTER_WRITE of a local initiator to a field-die page: the access starts over the stitch link and changes no register yet.
REGISTER_WRITE to a plain register that nothing stands in the way of: SENSORS.TEMP_CFG.WARN holds the bits written.
FIELD_PAGE_ACCESS_DONE of the one write in flight, not the transfer engine's: it is in flight no more. PAGE_STOP: the STOP bit of
DRIFT holds the value written; a cleared one also clears STOPPED. BLOCK_STOPPED: a block told to stop that is at its safe point, a
lane not yet OFF, shows STOPPED. EV_FORCE of a masked event: its EV_STAT bit is set and nothing else but the page's arms changes.
COMMIT_DISCARD: the staged values of the page are dropped, those of other pages stay, and no register changes. CNT_CLEAR: a
counter of the page (TIME.CNT_MISSED) reads 0. -/
def Obligations.RegisterAccess : Prop :=
  (∀ (s : State) (who : By) (page off w : Nat), s.alive = true → onFieldDie page = true → who.ini ≠ 8 → 
    ∃ t, exec (.registerWrite who page off w) s = .next t ∧ t.regs = s.regs ∧
      t.stitch.access = s.stitch.access ++ [(who.ini, page, off, some (w % 2 ^ 32))]) ∧
  (∀ (s : State) (who : By) (w : Nat), MayWrite s who P.sens 0x060 → 
    ∃ t, exec (.registerWrite who P.sens 0x060 w) s = .next t ∧ t.rd P.sens F.SENSORS_TEMP_CFG_WARN = w % 256) ∧
  (∀ (s : State) (who : By) (page off w : Nat), s.alive = true → onFieldDie page = true → who.ini ≠ 5 → s.stitch.down = false → s.stitch.access = [(who.ini, page, off, some w)] → 
    ∃ t, exec (.fieldPageAccessDone who page off true) s = .next t ∧ t.stitch.access = []) ∧
  (∀ (s : State) (who : By) (b : Bool), MayWrite s who P.drift 0x008 → 
    ∃ t, exec (.pageStop P.drift who b) s = .next t ∧ t.rd P.drift F.HDR_PAGE_CTRL_STOP = (if b then 1 else 0) ∧
      (b = false → s.on P.drift F.HDR_PAGE_CTRL_STOP = true → t.rd P.drift F.HDR_PAGE_STAT_STOPPED = 0)) ∧
  (∀ (s : State) (page : Nat), s.alive = true → pageStops page = true → toldToStop s page = true → s.stopped page = false → safePoint s page = true → (pageType page = some .lane → laneState s (page - 8) ≠ LS.off) → 
    ∃ t, exec (.blockStopped page) s = .next t ∧ t.stopped page = true) ∧
  (∀ (s : State) (who : By), MayWrite s who P.switch 0x018 → s.bit P.switch F.HDR_EV_MASK_EN 0 = false → 
    ∃ t, exec (.evForce P.switch who 1) s = .next t ∧ t = (dropArms s P.switch).setBit P.switch F.HDR_EV_STAT_EV 0 true) ∧
  (∀ (s : State) (who : By), MayWrite s who P.time 0x034 → 
    ∃ t, exec (.commitDiscard P.time who) s = .next t ∧ t.staged = s.staged.filter (fun e => e.1.page != P.time) ∧
      t.stagedLate = s.stagedLate.filter (fun e => e.1.page != P.time) ∧ t.regs = s.regs) ∧
  (∀ (s : State) (who : By), MayWrite s who P.time 0x128 → 
    ∃ t, exec (.cntClear P.time who) s = .next t ∧ t.rd P.time F.TIME_CNT_MISSED_N = 0)

/-- CORE_DONE: a core's own bit, written before C(n), is set. CMD_GO: at the Zenith, with no slot in use, a USER command whose
effective tick is at least LEAD + 1 ahead is issued (RESULT 1, CAUSE 0). LINE_REQ: at the Zenith, with no slot in use, the LINE
command for 0, 1 or 2 is issued (RESULT 1, CAUSE 0). ENTRY_SEL: SRC and GROUP hold what is written. -/
def Obligations.TimeRegisterWrites : Prop :=
  (∀ (s : State) (who : By) (m : Nat), MayWrite s who P.time 0x068 → who.ini ≤ 3 → m < 16 → bitOf m who.ini = true → s.time.pastC = false → s.now < commitAt s → 
    ∃ t, exec (.coreDone who m) s = .next t ∧ t.bit P.time F.TIME_CORE_DONE_DONE who.ini = true) ∧
  (∀ (s : State) (who : By), MayWrite s who P.time 0x0D4 → (s.role = 1 ∧ s.time.src.orig = true) → s.tick + 1 + s.rd P.time F.TIME_CMD_LEAD_LEAD ≤ s.rd64 P.time F.TIME_CMD_EFF_LO_E F.TIME_CMD_EFF_HI_E → (∀ k < 4, (s.time.slots.getD k {}).code = 0) → (16 ≤ s.rd P.time F.TIME_CMD_CODE_CODE ∧ s.rd P.time F.TIME_CMD_CODE_CODE < 32) → 
    ∃ t, exec (.cmdGo who) s = .next t ∧ t.rd P.time F.TIME_CMD_STAT_RESULT = 1 ∧ t.rd P.time F.TIME_CMD_STAT_CAUSE = 0) ∧
  (∀ (s : State) (who : By) (v : Nat), MayWrite s who P.time 0x0DC → (s.role = 1 ∧ s.time.src.orig = true) → (∀ k < 4, (s.time.slots.getD k {}).code = 0) → v < 3 → 
    ∃ t, exec (.lineReq who v) s = .next t ∧ t.rd P.time F.TIME_CMD_STAT_RESULT = 1 ∧ t.rd P.time F.TIME_CMD_STAT_CAUSE = 0) ∧
  (∀ (s : State) (who : By) (g x : Nat), MayWrite s who P.halo 0x058 → g < 2 → x < 4096 → 
    ∃ t, exec (.entrySel who g x) s = .next t ∧ t.rd P.halo F.HALO_ENTRY_SEL_SRC = x ∧ t.rd P.halo F.HALO_ENTRY_SEL_GROUP = g)

/-- PUB_READY: every channel whose bit is written, in the low or the high half, reads ready. ORPH_POP: the oldest orphan entry
goes, and no register changes. EVOUT to the node's own address: EVINk takes the source and the value. COMPLETE: the core's service
of the source named ends, and no register changes. SWEV_SET: every software event whose bit is written is asserted. -/
def Obligations.PublicationAndTransactionWrites : Prop :=
  (∀ (s : State) (who : By) (hi : Bool) (m c : Nat), MayWrite s who P.pub (if hi then 0x048 else 0x044) → c < 32 → m < 2 ^ 32 → bitOf m c = true → 
    ∃ t, exec (.pubReady who hi m) s = .next t ∧ bitOf (readyBits t) (if hi then 32 + c else c) = true) ∧
  (∀ (s : State) (who : By), MayWrite s who P.txn 0x0BC → 
    ∃ t, exec (.orphPop who) s = .next t ∧ t.txn.orphans = s.txn.orphans.drop 1 ∧ t.regs = s.regs) ∧
  (∀ (s : State) (who : By) (d k v : Nat), MayWrite s who P.txn 0x058 → d < 4096 → k < 16 → v < 65536 → (s.ownValid = true ∧ s.own = d) → 
    ∃ t, exec (.evout who d k v) s = .next t ∧ t.rd P.txn (F.TXN_EVIN_SRC k) = d ∧ t.rd P.txn (F.TXN_EVIN_VALUE k) = v) ∧
  (∀ (s : State) (k : Nat) (who : By) (n : Nat), MayWrite s who P.ev3 (0x044 + 8 * k) → k < 5 → n < 512 → 
    ∃ t, exec (.complete k who n) s = .next t ∧ t.router.service = s.router.service.filter (fun e => !(e.1 == n && e.2 == k)) ∧ t.regs = s.regs) ∧
  (∀ (s : State) (who : By) (m i : Nat), MayWrite s who P.ev3 0x074 → i < 24 → bitOf m i = true → 
    ∃ t, exec (.swevSet who m) s = .next t ∧ t.bit P.ev3 F.EVENTC_SWEV_EV i = true)

/-- On a queue from 112 to 1,023, written by the local initiator that Q_CFG.CONSUMER names, and not of TYPE 3 while the sessions
are frozen. POP of a queue with an item: RESULT OK with the item's source and length. POP of an empty queue: RESULT EMPTY. PEEK:
RESULT OK with the source of the item whose cell is next, and the queue's record stays as it is. DROP_REST: RESULT OK with the
item's length, and no item is current. MARK: RESULT OK, and a mark is held. MARK with CLEAR = 1: RESULT OK, and no mark is held.
REWIND: OK at a mark that is held; MARK_LOST after a mark has been recycled, which is reported once; NO_MARK without one. FLUSH:
RESULT OK with the number of items, and a queue of another TYPE than 3 is empty. -/
def Obligations.QueueCommands : Prop :=
  (∀ (s : State) (q : Nat) (who : By) (x : QItem), MayWrite s who (P.queue q) (0x114 + 0x40 * (q % 16)) → (112 ≤ q ∧ q < 1024) → (who.ini < 8 ∧ who.ini = s.rd (P.queue q) (F.QUEUE_Q_CFG_CONSUMER (q % 16))) → s.ses.loop = [] → (s.ses.frozen && qType s q == 3) = false → (QSt.head { queueSt s q with last := none }) = some x → 
    ∃ t, exec (.pop q who) s = .next t ∧ t.rd (P.queue q) (F.QUEUE_Q_RES0_RESULT (q % 16)) = QR.ok ∧
      t.rd (P.queue q) (F.QUEUE_Q_RES1_SRC (q % 16)) = x.src % 2 ^ 12 ∧ t.rd (P.queue q) (F.QUEUE_Q_RES3_LEN (q % 16)) = x.data.length % 2 ^ 24) ∧
  (∀ (s : State) (q : Nat) (who : By), MayWrite s who (P.queue q) (0x114 + 0x40 * (q % 16)) → (112 ≤ q ∧ q < 1024) → (who.ini < 8 ∧ who.ini = s.rd (P.queue q) (F.QUEUE_Q_CFG_CONSUMER (q % 16))) → s.ses.loop = [] → (s.ses.frozen && qType s q == 3) = false → (queueSt s q).items = [] → (queueSt s q).cur = none → 
    ∃ t, exec (.pop q who) s = .next t ∧ t.rd (P.queue q) (F.QUEUE_Q_RES0_RESULT (q % 16)) = QR.empty) ∧
  (∀ (s : State) (q : Nat) (who : By) (x : QItem), MayWrite s who (P.queue q) (0x114 + 0x40 * (q % 16)) → (112 ≤ q ∧ q < 1024) → (who.ini < 8 ∧ who.ini = s.rd (P.queue q) (F.QUEUE_Q_CFG_CONSUMER (q % 16))) → s.ses.loop = [] → (s.ses.frozen && qType s q == 3) = false → (queueSt s q).head = some x → 
    ∃ t, exec (.peek q who) s = .next t ∧ t.rd (P.queue q) (F.QUEUE_Q_RES0_RESULT (q % 16)) = QR.ok ∧
      t.rd (P.queue q) (F.QUEUE_Q_RES1_SRC (q % 16)) = x.src % 2 ^ 12 ∧ queueSt t q = queueSt s q) ∧
  (∀ (s : State) (q : Nat) (who : By) (x : QItem), MayWrite s who (P.queue q) (0x114 + 0x40 * (q % 16)) → (112 ≤ q ∧ q < 1024) → (who.ini < 8 ∧ who.ini = s.rd (P.queue q) (F.QUEUE_Q_CFG_CONSUMER (q % 16))) → s.ses.loop = [] → (s.ses.frozen && qType s q == 3) = false → (QSt.head { queueSt s q with last := none }) = some x → 
    ∃ t, exec (.dropRest q who) s = .next t ∧ t.rd (P.queue q) (F.QUEUE_Q_RES0_RESULT (q % 16)) = QR.ok ∧
      t.rd (P.queue q) (F.QUEUE_Q_RES3_LEN (q % 16)) = x.data.length % 2 ^ 24 ∧ (queueSt t q).cur = none) ∧
  (∀ (s : State) (q : Nat) (who : By), MayWrite s who (P.queue q) (0x114 + 0x40 * (q % 16)) → (112 ≤ q ∧ q < 1024) → (who.ini < 8 ∧ who.ini = s.rd (P.queue q) (F.QUEUE_Q_CFG_CONSUMER (q % 16))) → s.ses.loop = [] → (s.ses.frozen && qType s q == 3) = false → 
    ∃ t, exec (.mark q who) s = .next t ∧ t.rd (P.queue q) (F.QUEUE_Q_RES0_RESULT (q % 16)) = QR.ok ∧ (queueSt t q).mark.isSome = true) ∧
  (∀ (s : State) (q : Nat) (who : By), MayWrite s who (P.queue q) (0x114 + 0x40 * (q % 16)) → (112 ≤ q ∧ q < 1024) → (who.ini < 8 ∧ who.ini = s.rd (P.queue q) (F.QUEUE_Q_CFG_CONSUMER (q % 16))) → s.ses.loop = [] → (s.ses.frozen && qType s q == 3) = false → 
    ∃ t, exec (.markClear q who) s = .next t ∧ t.rd (P.queue q) (F.QUEUE_Q_RES0_RESULT (q % 16)) = QR.ok ∧ (queueSt t q).mark = none) ∧
  (∀ (s : State) (q : Nat) (who : By), MayWrite s who (P.queue q) (0x114 + 0x40 * (q % 16)) → (112 ≤ q ∧ q < 1024) → (who.ini < 8 ∧ who.ini = s.rd (P.queue q) (F.QUEUE_Q_CFG_CONSUMER (q % 16))) → s.ses.loop = [] → (s.ses.frozen && qType s q == 3) = false → 
    ∃ t, exec (.rewind q who) s = .next t ∧ t.rd (P.queue q) (F.QUEUE_Q_RES0_RESULT (q % 16)) =
        (if (queueSt s q).lost then QR.markLost else if (queueSt s q).mark.isSome then QR.ok else QR.noMark) ∧
      (queueSt t q).lost = false) ∧
  (∀ (s : State) (q : Nat) (who : By), MayWrite s who (P.queue q) (0x114 + 0x40 * (q % 16)) → (112 ≤ q ∧ q < 1024) → (who.ini < 8 ∧ who.ini = s.rd (P.queue q) (F.QUEUE_Q_CFG_CONSUMER (q % 16))) → s.ses.loop = [] → (s.ses.frozen && qType s q == 3) = false → 
    ∃ t, exec (.flush q who) s = .next t ∧ t.rd (P.queue q) (F.QUEUE_Q_RES0_RESULT (q % 16)) = QR.ok ∧
      t.rd (P.queue q) (F.QUEUE_Q_RES3_LEN (q % 16)) = (queueSt s q).items.length % 2 ^ 24 ∧ (qType s q ≠ 3 → queueSt t q = {}))

/-- PUSH: a push that no check refuses takes the session's next MSEQ; a refused one reports its STATUS and counts in
CNT_PUSH_REFUSED. SES_ENABLE of the selected session, from DISABLED: EN is 1 with the RSID and DST written, the session is in SYNC
and FRESH, and its next MSEQ is 0. SES_DISABLE of the selected session: EN is 0, the session is DISABLED and retains nothing.
STALL of an enabled session in SYNC, or that retains messages: STALL_TICKS without a valid ACK set STALLED. RTO_EXPIRY of an
enabled session in SYNC, to an address that is not an own one, not frozen: it sends a probe after its RTO once the start-up hold
is done, and the next RTO runs from then. ACK of a FRESH session, in SYNC or itself a FRESH ACK: the session opens with the
receiver's NEXT and incarnation. -/
def Obligations.SendingSessions : Prop :=
  (∀ (s : State) (who : By) (k len : Nat), MayWrite s who P.sestx 0x044 → who.ini < 8 → k < 256 → len < 4096 → 
    ∃ t, exec (.push who k len) s = .next t ∧
      (pushJudge s who.ini k len = 1 → t.rd P.sestx (F.SESTX_PUSH_SEQ_MSEQ who.ini) = s.tx F.SESTX_SES_NEXT_MSEQ k % 2 ^ 32) ∧
      (pushJudge s who.ini k len ≠ 1 → t.rd P.sestx (F.SESTX_PUSH_STAT_STATUS who.ini) = pushJudge s who.ini k len % 16 ∧
        t.rd P.sestx F.SESTX_CNT_PUSH_REFUSED_N =
          satAdd F.SESTX_CNT_PUSH_REFUSED_N.width (s.rd P.sestx F.SESTX_CNT_PUSH_REFUSED_N) 1)) ∧
  (∀ (s : State) (who : By) (r d : Nat), MayWrite s who P.sestx 0x094 → r < 256 → d < 4096 → s.rd P.sestx F.SESTX_SES_SEL_SESSION < 256 → s.tx F.SESTX_SES_CFG_EN (s.rd P.sestx F.SESTX_SES_SEL_SESSION) = 0 → s.ses.loop = [] → 
    ∃ t, exec (.sesEnable who r d) s = .next t ∧
      (let k := s.rd P.sestx F.SESTX_SES_SEL_SESSION
       t.tx F.SESTX_SES_CFG_EN k = 1 ∧ t.tx F.SESTX_SES_CFG_RSID k = r ∧ t.tx F.SESTX_SES_CFG_DST k = d ∧
       t.tx F.SESTX_SES_STAT_STATE k = 1 ∧ t.tx F.SESTX_SES_STAT_FRESH k = 1 ∧ t.tx F.SESTX_SES_NEXT_MSEQ k = 0)) ∧
  (∀ (s : State) (who : By), MayWrite s who P.sestx 0x094 → s.rd P.sestx F.SESTX_SES_SEL_SESSION < 256 → s.tx F.SESTX_SES_CFG_EN (s.rd P.sestx F.SESTX_SES_SEL_SESSION) = 1 → 
    ∃ t, exec (.sesDisable who) s = .next t ∧
      (let k := s.rd P.sestx F.SESTX_SES_SEL_SESSION
       t.tx F.SESTX_SES_CFG_EN k = 0 ∧ t.tx F.SESTX_SES_STAT_STATE k = 0 ∧ (txSes t k).ret = [])) ∧
  (∀ (s : State) (k : Nat), s.alive = true → k < 256 → s.sessionsRun = true → s.tx F.SESTX_SES_CFG_EN k = 1 → (txSes s k).ackTick + stallOf s k ≤ s.ticks → ((txSes s k).ret ≠ [] ∨ s.tx F.SESTX_SES_STAT_STATE k = 1) → s.tx F.SESTX_SES_STAT_STALLED k = 0 → 
    ∃ t, exec (.stall k) s = .next t ∧ t.tx F.SESTX_SES_STAT_STALLED k = 1) ∧
  (∀ (s : State) (k : Nat), s.alive = true → k < 256 → s.sessionsRun = true → s.tx F.SESTX_SES_CFG_EN k = 1 → (txSes s k).rtoDue ≤ s.ticks → s.tx F.SESTX_SES_STAT_STATE k = 1 → s.holdDone = true → s.ses.loop = [] → s.ses.frozen = false → isOwn s (s.tx F.SESTX_SES_CFG_DST k) = false → 
    ∃ t, exec (.rtoExpiry k) s = .next t ∧
      t.rd P.sestx F.SESTX_CNT_PROBE_N = satAdd F.SESTX_CNT_PROBE_N.width (s.rd P.sestx F.SESTX_CNT_PROBE_N) 1 ∧
      (txSes t k).rtoDue = s.ticks + rtoOf s k) ∧
  (∀ (s : State) (f : Frame) (k : Nat), s.alive = true → s.sessionsRun = true → f.typ = 6 → s.ses.loop = [] → k = f.w4 / 2 ^ 24 % 256 → (s.tx F.SESTX_SES_CFG_EN k = 1 ∧ f.src = s.tx F.SESTX_SES_CFG_DST k ∧ f.w4 / 2 ^ 16 % 256 = s.tx F.SESTX_SES_CFG_RSID k) → s.tx F.SESTX_SES_STAT_FRESH k = 1 → (s.tx F.SESTX_SES_STAT_STATE k = 1 ∨ bitOf f.w5 30 = true) → 
    ∃ t, exec (.ack f) s = .next t ∧ t.tx F.SESTX_SES_STAT_STATE k = 2 ∧ t.tx F.SESTX_SES_STAT_FRESH k = 0 ∧
      t.tx F.SESTX_SES_NEXT_MSEQ k = beAt f.pay 0 4 % 2 ^ 32 ∧ t.tx F.SESTX_SES_RINC_INC k = f.w4 % 65536)

/-- RSES_ENABLE of the selected session, from DISABLED, with a queue that may take it: EN is 1 with the PRIO, SSID and SRC
written. RSES_DISABLE of the selected session: EN is 0 and the session is DISABLED; its queue keeps what it holds. MSG of no
enabled session counts in CNT_UNKNOWN. MSG from an address that is not an own one, that is the next of an enabled session that has
taken one before, and that its queue admits: the session expects the one after, and CNT_RX counts it. ACK_SEND, with no session
from an own address and the router no Eclipse trigger: an enabled session whose ACK became due before this tick instant owes none
any more. FRESH_ACK_REPEAT: a session from another address without history that has taken nothing sends its FRESH ACK and repeats
it 8 ticks later. -/
def Obligations.ReceivingSessions : Prop :=
  (∀ (s : State) (who : By) (p x a : Nat), MayWrite s who P.sesrx 0x044 → p < 8 → x < 256 → a < 4096 → s.rd P.sesrx F.SESRX_RSES_SEL_SESSION < 256 → s.rx F.SESRX_RSES_CFG_EN (s.rd P.sesrx F.SESRX_RSES_SEL_SESSION) = 0 → rsesMayEnable s (s.rd P.sesrx F.SESRX_RSES_SEL_SESSION) = true → 
    ∃ t, exec (.rsesEnable who p x a) s = .next t ∧
      (let r := s.rd P.sesrx F.SESRX_RSES_SEL_SESSION
       t.rx F.SESRX_RSES_CFG_EN r = 1 ∧ t.rx F.SESRX_RSES_CFG_PRIO r = p ∧ t.rx F.SESRX_RSES_CFG_SSID r = x ∧ t.rx F.SESRX_RSES_CFG_SRC r = a)) ∧
  (∀ (s : State) (who : By), MayWrite s who P.sesrx 0x044 → s.rd P.sesrx F.SESRX_RSES_SEL_SESSION < 256 → s.rx F.SESRX_RSES_CFG_EN (s.rd P.sesrx F.SESRX_RSES_SEL_SESSION) = 1 → 
    ∃ t, exec (.rsesDisable who) s = .next t ∧
      (let r := s.rd P.sesrx F.SESRX_RSES_SEL_SESSION
       t.rx F.SESRX_RSES_CFG_EN r = 0 ∧ t.rx F.SESRX_RSES_STAT_STATE r = 0 ∧ t.ses.qs = s.ses.qs)) ∧
  (∀ (s : State) (f : Frame) (r : Nat), s.alive = true → s.sessionsRun = true → f.typ = 5 → s.ses.frozen = false → s.ses.loop = [] → r = f.w4 / 2 ^ 16 % 256 → s.rx F.SESRX_RSES_CFG_EN r = 0 → 
    ∃ t, exec (.msg f) s = .next t ∧
      t.rd P.sesrx F.SESRX_CNT_UNKNOWN_N = satAdd F.SESRX_CNT_UNKNOWN_N.width (s.rd P.sesrx F.SESRX_CNT_UNKNOWN_N) 1) ∧
  (∀ (s : State) (f : Frame) (r : Nat), s.alive = true → s.sessionsRun = true → f.typ = 5 → s.ses.frozen = false → s.ses.loop = [] → r = f.w4 / 2 ^ 16 % 256 → (s.rx F.SESRX_RSES_CFG_EN r = 1 ∧ f.src = s.rx F.SESRX_RSES_CFG_SRC r ∧
      f.w4 / 2 ^ 24 % 256 = s.rx F.SESRX_RSES_CFG_SSID r) → (rxSes s r).taken = true → bitOf f.w5 31 = false → f.w3 % 2 ^ 32 = s.rx F.SESRX_RSES_NEXT_MSEQ r → ((qAdmit s (rsesQueue s r) (s.rx F.SESRX_RSES_CFG_PRIO r) f.src r (f.w3 % 2 ^ 32) false (headBytes f) f.pay).1 = true ∧
      (qAdmit s (rsesQueue s r) (s.rx F.SESRX_RSES_CFG_PRIO r) f.src r (f.w3 % 2 ^ 32) true (headBytes f) f.pay).1 = true) → isOwn s (s.rx F.SESRX_RSES_CFG_SRC r) = false → 
    ∃ t, exec (.msg f) s = .next t ∧ t.rx F.SESRX_RSES_NEXT_MSEQ r = serNext (f.w3 % 2 ^ 32) ∧
      t.rd P.sesrx F.SESRX_CNT_RX_N = satAdd F.SESRX_CNT_RX_N.width (s.rd P.sesrx F.SESRX_CNT_RX_N) 1) ∧
  (∀ (s : State) (r d : Nat), s.alive = true → s.sessionsRun = true → s.holdDone = true → s.ses.frozen = false → s.ses.loop = [] → ((List.range 256).all fun x => !isOwn s (s.rx F.SESRX_RSES_CFG_SRC x)) = true → r < 256 → (rxSes s r).due = some d → d < s.ticks → s.rx F.SESRX_RSES_CFG_EN r = 1 → s.on P.ecl F.ECLIPSE_ECL_CFG_EV_EN = false → 
    ∃ t, exec .ackSend s = .next t ∧ (rxSes t r).due = none ∧ (rxSes t r).ackTick = some s.ticks) ∧
  (∀ (s : State) (r : Nat), s.alive = true → r < 256 → s.sessionsRun = true → s.holdDone = true → s.ses.frozen = false → s.ses.loop = [] → isOwn s (s.rx F.SESRX_RSES_CFG_SRC r) = false → s.rx F.SESRX_RSES_CFG_EN r = 1 → s.rx F.SESRX_RSES_STAT_NO_HISTORY r = 1 → (rxSes s r).taken = false → (rxSes s r).freshDue ≤ s.ticks → 
    ∃ t, exec (.freshAckRepeat r) s = .next t ∧ (rxSes t r).freshDue = s.ticks + 8 ∧
      t.rd P.sesrx F.SESRX_CNT_ACK_TX_N = satAdd F.SESRX_CNT_ACK_TX_N.width (s.rd P.sesrx F.SESRX_CNT_ACK_TX_N) 1)

/-- SIGNAL_DETECT on a lane in SIGNAL: the lane enters LOCK. BLOCK_LOCK on a lane in LOCK: the lane enters HELLO; in the Tap role
it goes UP instead, with event 0; complemented headers, which lock only where RX_AUTO_INV is 1, change RX_INVERTED. LOCK_TIMEOUT
on a lane in LOCK: the lane enters SIGNAL with cause NO_LOCK. SIGNAL_TIMEOUT on a lane in SIGNAL that has not said so yet: cause
NO_SIGNAL and event 3 (CABLE_FAULT), and the lane stays in SIGNAL. HELLO_TIMEOUT on a lane in HELLO that has heard none: the lane
enters SIGNAL with cause HELLO_TIMEOUT. LANE_DOWN of an UP lane: the lane enters SIGNAL with the cause given or, where FLAP_MAX is
not 0, HOLD with cause FLAPPING; DOWN_COUNT counts it. FLAP_HOLD_END once FLAP_HOLD has passed since the lane's last exit from UP:
a lane in HOLD enters SIGNAL. -/
def Obligations.LaneStates : Prop :=
  (∀ (s : State) (i : Nat), lanesOn s = true → i < 4 → laneState s i = LS.signal → 
    ∃ t, exec (.signalDetect i) s = .next t ∧ laneState t i = LS.lock) ∧
  (∀ (s : State) (i : Nat) (b : Bool), lanesOn s = true → i < 4 → laneState s i = LS.lock → (b = true → s.on (P.lane i) F.LANE_LANE_CFG_RX_AUTO_INV = true) →
    ∃ t, exec (.blockLock i b) s = .next t ∧ laneState t i = (if tapLane s i then LS.up else LS.hello) ∧
      t.rd (P.lane i) F.LANE_LANE_STAT_RX_INVERTED = (if b then (1 - s.rd (P.lane i) F.LANE_LANE_STAT_RX_INVERTED) % 2
        else s.rd (P.lane i) F.LANE_LANE_STAT_RX_INVERTED) ∧
      (tapLane s i = true → t.bit (P.lane i) F.HDR_EV_STAT_EV 0 = true)) ∧
  (∀ (s : State) (i : Nat), lanesOn s = true → i < 4 → laneState s i = LS.lock → 
    ∃ t, exec (.lockTimeout i) s = .next t ∧ laneState t i = LS.signal ∧ t.rd (P.lane i) F.LANE_LANE_STAT_CAUSE = LC.noLock) ∧
  (∀ (s : State) (i : Nat), lanesOn s = true → i < 4 → laneState s i = LS.signal → (s.lane i).noSigSaid = false → 
    ∃ t, exec (.signalTimeout i) s = .next t ∧ t.rd (P.lane i) F.LANE_LANE_STAT_CAUSE = LC.noSignal ∧
      t.bit (P.lane i) F.HDR_EV_STAT_EV 3 = true ∧ laneState t i = LS.signal) ∧
  (∀ (s : State) (i : Nat), lanesOn s = true → i < 4 → laneState s i = LS.hello → (s.lane i).heard = false → 
    ∃ t, exec (.helloTimeout i) s = .next t ∧ laneState t i = LS.signal ∧ t.rd (P.lane i) F.LANE_LANE_STAT_CAUSE = LC.helloTimeout) ∧
  (∀ (s : State) (i c : Nat), lanesOn s = true → i < 4 → laneUp s i = true → (1 ≤ c ∧ c ≤ 3) → 
    ∃ t, exec (.laneDown i c) s = .next t ∧ (laneState t i = LS.signal ∧ t.rd (P.lane i) F.LANE_LANE_STAT_CAUSE = c ∨
      0 < s.rd (P.lane i) F.LANE_LANE_CFG_FLAP_MAX ∧ laneState t i = LS.hold ∧ t.rd (P.lane i) F.LANE_LANE_STAT_CAUSE = LC.flapping) ∧
      t.rd (P.lane i) F.LANE_DOWN_COUNT_N = satAdd F.LANE_DOWN_COUNT_N.width (s.rd (P.lane i) F.LANE_DOWN_COUNT_N) 1) ∧
  (∀ (s : State) (i x : Nat), lanesOn s = true → i < 4 → laneState s i = LS.hold → (s.lane i).downs.foldl max 0 + flapHold s i ≤ s.upAt x → 
    ∃ t, exec (.flapHoldEnd i x) s = .next t ∧ laneState t i = LS.signal)

/-- HELLO_SEND on a lane in HELLO or FAULT: its HELLO leaves on its port and counts in TX_FRAMES. HELLO on a lane in HELLO, no
Tap, within 200 ppm, from another node, of the lane's ring and the other role, heard by it: the lane is UP, and NBR_INFO is valid.
PPM_WINDOW: LANE_PPM holds the offset, where it fits; beyond 150 ppm CLK_RANGE is 1. CRC_WINDOW: the count restarts; above
CRC_LIMIT (0 acts as 1) event 4 of the lane is set. NEIGHBOUR_SEND on a node that is no gateway, with E UP alone, no offer waiting
and room: a NEIGHBOUR joins the queue of class 6 of that port. NEIGHBOUR on an UP ring lane: NBR_INFO.STATE takes the state it
names, and the tick is not missed. NEIGHBOUR_MISSED after 3 missed ticks: NBR_PRESENT is 0. -/
def Obligations.LaneHellosAndWindows : Prop :=
  (∀ (s : State) (i : Nat), lanesOn s = true → i < 4 → (laneState s i = LS.hello ∨ laneState s i = LS.fault) → 
    ∃ t, exec (.helloSend i) s = .next t ∧ t.wire = { port := lanePort s i, frame := helloFrame s i } :: s.wire ∧
      t.rd (P.lane i) F.LANE_TX_FRAMES_N = satAdd F.LANE_TX_FRAMES_N.width (s.rd (P.lane i) F.LANE_TX_FRAMES_N) 1) ∧
  (∀ (s : State) (i : Nat) (f : Frame), lanesOn s = true → i < 4 → laneState s i = LS.hello → tapLane s i = false → (f.typ = 0xD ∧ frameSub f = 1) → (s.lane i).over200 = false → bitOf (beAt f.pay 8 4) 30 = true → helloFault s i (beAt f.pay 0 8) (bitsOf (beAt f.pay 8 4) 26 2) (bitsOf (beAt f.pay 8 4) 24 2) = none → 
    ∃ t, exec (.hello i f) s = .next t ∧ laneState t i = LS.up ∧ t.rd (P.lane i) F.LANE_NBR_INFO_VALID = 1) ∧
  (∀ (s : State) (i : Nat) (x : Int), lanesOn s = true → i < 4 → (-32768 ≤ x ∧ x < 32768) → 
    ∃ t, exec (.ppmWindow i x) s = .next t ∧ toSigned 16 (t.rd (P.lane i) F.LANE_LANE_PPM_PPM) = x ∧
      (15000 < x.natAbs → t.rd (P.lane i) F.LANE_LANE_STAT_CLK_RANGE = 1)) ∧
  (∀ (s : State) (i : Nat), lanesOn s = true → i < 4 → 
    ∃ t, exec (.crcWindow i) s = .next t ∧ (t.lane i).crcWin = 0 ∧
      (max 1 (s.rd (P.lane i) F.LANE_ERR_CFG_CRC_LIMIT) < (s.lane i).crcWin → t.bit (P.lane i) F.HDR_EV_STAT_EV 4 = true)) ∧
  (∀ (s : State) (x : Nat), s.alive = true → s.mayInsert = true → s.role ≠ 3 → s.reversed = false → (laneUp s 0 = true ∧ laneUp s 1 = false) → s.sw.offers = [] → portDown s 0 = false → admits s (outQueue 0 6) 1 = 1 → 
    ∃ t, exec (.neighbourSend x) s = .next t ∧ (swQueue t (outQueue 0 6)).length = (swQueue s (outQueue 0 6)).length + 1) ∧
  (∀ (s : State) (i : Nat) (f : Frame), s.alive = true → i < 4 → ringLane s i = true → laneUp s i = true → (f.typ = 0xB ∧ frameSub f = 1) → 
    ∃ t, exec (.neighbour i f) s = .next t ∧ t.rd (P.lane i) F.LANE_NBR_INFO_STATE = bitsOf (beAt f.pay 0 4) 28 4 ∧ (t.lane i).nbrHere = true) ∧
  (∀ (s : State) (i : Nat), s.alive = true → i < 4 → s.rd (P.lane i) F.LANE_LANE_STAT_SUP_MISSED = 3 → 
    ∃ t, exec (.neighbourMissed i) s = .next t ∧ t.rd (P.lane i) F.LANE_LANE_STAT_NBR_PRESENT = 0)

/-- RING_FRAME_RECEIVED, head of a Halo-checked frame of group 0 of another node, no command of its own, on an UP ring lane on
which no frame is in reception, from a source without an entry: CNT_ACCEPT0 counts it, the frame is in reception and its sequence
pending. RING_FRAME_RECEIVED with a wrong HCRC on a lane that judges frames: HCRC_ERR counts it. HALO_ENTRY_AGED: an entry that
HALO_AGE has left untouched is released; CNT_AGED counts it. ANNOUNCE of another node with a new incarnation: the incarnation is
kept, and CNT_RESTART counts it. HOLD_DONE after the wait that follows the node's ANNOUNCE: JOIN_STAT.HOLD_DONE is 1 and AO_LOST
0. CHANGE about another node: a notice PRESENT sets the presence bit of the node it names, a notice ABSENT clears it. STATUS_SEND
once STATUS_PERIOD ticks have passed: the next is due as many ticks after this one, and each lane's count of CRC errors restarts.
DUPLICATE that names this node's UID: the node withdraws from its address with ADDR_FAULT DUPLICATE. -/
def Obligations.HaloAndSupervision : Prop :=
  (∀ (s : State) (i : Nat) (f : Frame) (ln : LineIn) (x : Nat), ln.head = 0 → lanesOn s = true → i < 4 → laneUp s i = true → ringLane s i = true → tapOn s = false → (s.lane i).rx = none → (s.lane i).tun = none → headerOk f = true → haloChecked f = true → ownCommand f = false → isOwn s f.src = false → crossedBack s i f = false → haloGroup f.cls = 0 → haloEnt s f.src 0 = {} →
    ∃ t, exec (.ringFrameReceived i ln f .head x) s = .next t ∧ (t.lane i).rx.isSome = true ∧ (haloEnt t f.src 0).pend = [f.seq] ∧
      t.rd P.halo F.HALO_CNT_ACCEPT0_N = satAdd F.HALO_CNT_ACCEPT0_N.width (s.rd P.halo F.HALO_CNT_ACCEPT0_N) 1) ∧
  (∀ (s : State) (i : Nat) (f : Frame) (ln : LineIn) (x : Nat), ln.head = 2 → lanesOn s = true → i < 4 → laneJudges s i = true →
    ∃ t, exec (.ringFrameReceived i ln f .head x) s = .next t ∧
      t.rd (P.lane i) F.LANE_HCRC_ERR_N = satAdd F.LANE_HCRC_ERR_N.width (s.rd (P.lane i) F.LANE_HCRC_ERR_N) 1) ∧
  (∀ (s : State) (a g x : Nat), lanesOn s = true → a < 4096 → g < 2 → (haloEnt s a g).valid = true → (haloEnt s a g).touch + haloAge s ≤ s.upAt x → 
    ∃ t, exec (.haloEntryAged a g x) s = .next t ∧ haloEnt t a g = {} ∧
      t.rd P.halo F.HALO_CNT_AGED_N = satAdd F.HALO_CNT_AGED_N.width (s.rd P.halo F.HALO_CNT_AGED_N) 1) ∧
  (∀ (s : State) (i : Nat) (f : Frame) (x : Nat), lanesOn s = true → i < 4 → laneUp s i = true → ringLane s i = true → (f.typ = 0xB ∧ frameSub f = 2) → isOwn s f.src = false → crossedBack s i f = false → s.halo.incs.at 0 f.src ≠ beAt f.pay 12 4 % 65536 + 1 → 
    ∃ t, exec (.announce i f x) s = .next t ∧ t.halo.incs.at 0 f.src = beAt f.pay 12 4 % 65536 + 1 ∧
      t.rd P.halo F.HALO_CNT_RESTART_N = satAdd F.HALO_CNT_RESTART_N.width (s.rd P.halo F.HALO_CNT_RESTART_N) 1) ∧
  (∀ (s : State) (x : Nat), s.alive = true → s.on P.halo F.HALO_JOIN_STAT_ANNOUNCED = true → s.holdDone = false → s.halo.withdrawn = false → s.halo.announcedAt + announceWait s ≤ s.upAt x →
    ∃ t, exec (.holdDone x) s = .next t ∧ t.holdDone = true ∧ t.rd P.halo F.HALO_JOIN_STAT_AO_LOST = 0) ∧
  (∀ (s : State) (f : Frame), s.alive = true → deliversLocal s = true → (f.typ = 0xB ∧ frameSub f = 3) → (bitsOf (beAt f.pay 0 4) 28 4 = 1 ∨ bitsOf (beAt f.pay 0 4) 28 4 = 2) → isOwn s (bitsOf (beAt f.pay 0 4) 16 12) = false →
    ∃ t, exec (.change f) s = .next t ∧ present t (bitsOf (beAt f.pay 0 4) 16 12) = decide (bitsOf (beAt f.pay 0 4) 28 4 = 2)) ∧
  (∀ (s : State), s.alive = true → s.mayInsert = true → s.ownValid = true → s.on P.time F.TIME_ZENITH_VALID = true → s.halo.statusAt + statusPeriod s ≤ s.ticks → 
    ∃ t, exec .statusSend s = .next t ∧ t.halo.statusAt = s.ticks ∧ ∀ i < 4, (t.lane i).crcStatus = 0) ∧
  (∀ (s : State) (f : Frame), s.alive = true → (f.typ = 0xB ∧ frameSub f = 5) → beAt f.pay 0 8 = s.otp.uid → s.ownValid = true → 
    ∃ t, exec (.duplicate f) s = .next t ∧ t.ownValid = false ∧ t.rd P.halo F.HALO_JOIN_STAT_ADDR_FAULT = 2 ∧ t.halo.withdrawn = true)

/-- PORT_DOWN of a port that is down: its eight queues are empty and nothing is in transmission. FRAME_TRANSMIT_START at a
boundary of a port that is up, with no offer waiting: the head of the highest eligible class leaves its queue and is in
transmission, and TX_BUSY is 1. FRAME_TRANSMIT_END: nothing is in transmission on the port, TX_BUSY is 0, and TX_FRAMES counts the
frame. GATE_CHANGE of a ring or Ethernet port: GATE_STAT shows the gates of that instant. SQUALL_INTERVAL: the counts of the ETH
port restart at 0, and the next interval ends later than now and than the one that ends. CELL_ECC_ERROR of a stored frame:
CNT_ECC_UNCORR counts it, and no queue holds the frame any more. HANDOVER_DONE once GW_SETTLE ticks have passed since the
failover: FAILOVER is 0 and GATEWAY event 1 is set. -/
def Obligations.SwitchCommands : Prop :=
  (∀ (s : State) (p : Nat), s.alive = true → p < 14 → portDown s p = true → 
    ∃ t, exec (.portDown p) s = .next t ∧ ((List.range 8).all fun c => (swQueue t (8 * p + c)).isEmpty) = true ∧ t.sw.sending.at none p = none) ∧
  (∀ (s : State) (p x c : Nat) (e : SwEntry) (r : List SwEntry), portRuns s p = true → portDown s p = false → s.stopReq (P.swport p) = false → s.sw.sending.at none p = none → s.sw.offers = [] → topClass ((shapeTo (s.atTime x) p x).each 8 fun u c => purgeHead u p c (swQueue u (8 * p + c)).length) p x = some c → swQueue ((shapeTo (s.atTime x) p x).each 8 fun u c => purgeHead u p c (swQueue u (8 * p + c)).length) (8 * p + c) = e :: r → 
    ∃ t, exec (.frameTransmitStart p x) s = .next t ∧ (t.sw.sending.at none p).map (fun y => (y.1.id, y.1.frame, y.2.1, y.2.2)) = some (e.id, (departs e x).frame, c, x) ∧ swQueue t (8 * p + c) = r ∧
      t.rd (P.swport p) F.SWPORT_PORT_STAT_TX_BUSY = 1) ∧
  (∀ (s : State) (p x : Nat) (e : SwEntry) (c b : Nat), portRuns s p = true → s.sw.sending.at none p = some (e, c, b) → 
    ∃ t, exec (.frameTransmitEnd p x) s = .next t ∧ t.sw.sending.at none p = none ∧ t.rd (P.swport p) F.SWPORT_PORT_STAT_TX_BUSY = 0 ∧
      t.rd (P.swport p) F.SWPORT_TX_FRAMES_N = satAdd F.SWPORT_TX_FRAMES_N.width (s.rd (P.swport p) F.SWPORT_TX_FRAMES_N) 1) ∧
  (∀ (s : State) (p x : Nat), portRuns s p = true → p < 8 → 
    ∃ t, exec (.gateChange p x) s = .next t ∧ t.rd (P.swport p) F.SWPORT_GATE_STAT_OPEN = gatesNow s p x % 256) ∧
  (∀ (s : State) (m : Nat), s.alive = true → m < 4 →
    ∃ t, exec (.squallInterval m) s = .next t ∧ t.sw.squall.at (0, 0) m = (0, 0) ∧
      s.now < t.sw.sqNext.at 0 m ∧ s.sw.sqNext.at 0 m < t.sw.sqNext.at 0 m) ∧
  (∀ (s : State) (i a : Nat), s.alive = true → (s.sw.store.at (0, 0) i).1 ≠ 0 → 
    ∃ t, exec (.cellEccError i a) s = .next t ∧ ((List.range 112).all fun q => (swQueue t q).all fun e => e.id != i) = true ∧
      t.rd P.pool F.CELLPOOL_CNT_ECC_UNCORR_N = satAdd F.CELLPOOL_CNT_ECC_UNCORR_N.width (s.rd P.pool F.CELLPOOL_CNT_ECC_UNCORR_N) 1) ∧
  (∀ (s : State), s.alive = true → s.on P.gw F.GATEWAY_GW_STAT_FAILOVER = true → s.txn.failTick + gwSettle s ≤ s.ticks → 
    ∃ t, exec .handoverDone s = .next t ∧ t.rd P.gw F.GATEWAY_GW_STAT_FAILOVER = 0 ∧ t.bit P.gw F.HDR_EV_STAT_EV 1 = true)

/-- CHANNEL_OFFER after HOLD_DONE with one channel taken: it is offered; its sequence number advances, and CNT_SENT counts it.
PUBLISH_RECEIVED of this tick that one entry matches, with the entry's length: its back image holds the payload and is fresh;
CNT_ACCEPT counts it. XFER_START of a channel that may start, its descriptor in the data region, with nothing in flight: its tail
advances in the ring, and the descriptor is in flight. XFER_COMPLETE of the one descriptor, at its end, that announces no event
and whose write-back is not refused: it is in flight no more, and the top byte of its last word has DONE and STATUS.
FEED_WINDOW_SETTLED on service power, with PG_MAIN and a feed in its window for 10 ms: POWER is FEED. FEEDS_LOST while the service
path holds the rails: POWER is SERVICE. ACTIVATE of a staged image, for it or for any version, in a state that allows activation:
the activation is due at the command's effective tick, and the command is taken. -/
def Obligations.PublicationTransferAndSupply : Prop :=
  (∀ (s : State) (c : Nat) (b : List Nat), s.alive = true → pubOn s = true → s.ownValid = true → s.on P.halo F.HALO_JOIN_STAT_HOLD_DONE = true → s.pub.taken = [(c, b)] → 
    ∃ t, exec .channelOffer s = .next t ∧ t.pub.taken = [] ∧ t.pub.chSeq.at 0 c = (s.pub.chSeq.at 0 c + 1) % 65536 ∧
      t.rd P.pub F.PUBLISH_CNT_SENT_N = satAdd F.PUBLISH_CNT_SENT_N.width (s.rd P.pub F.PUBLISH_CNT_SENT_N) 1) ∧
  (∀ (s : State) (f : Frame) (x i : Nat), s.alive = true → (f.typ = 2 ∧ f.mc = true) → subRuns s = true → (groupPorts s f.dst).contains 10 = true → matching s f.src (f.w3 / 2 ^ 26 % 64) = [i] → f.w4 % 2 ^ 32 * 65536 + f.tick % 65536 = s.tick % 2 ^ 48 → f.pay.length = min 256 (s.rd P.sub (F.SUBSCRIBE_SUB_MATCH_LEN i)) → 
    ∃ t, exec (.publishReceived f x) s = .next t ∧ (subEnt t i).back.data = f.pay ∧ (subEnt t i).fresh = true ∧
      t.rd P.sub F.SUBSCRIBE_CNT_ACCEPT_N = satAdd F.SUBSCRIBE_CNT_ACCEPT_N.width (s.rd P.sub F.SUBSCRIBE_CNT_ACCEPT_N) 1) ∧
  (∀ (s : State) (c : Nat) (b : Bool), s.alive = true → c < 8 → s.txn.descs = [] → chanMayStart s c = true → 0x10200000 ≤ descAddr s c (s.rd P.xfer (F.XFER_CH_TAIL_IDX c)) → descAddr s c (s.rd P.xfer (F.XFER_CH_TAIL_IDX c)) + 32 ≤ 0x10400000 → 
    ∃ t, exec (.xferStart c b) s = .next t ∧ (descsOf t c).map (·.idx) = [s.rd P.xfer (F.XFER_CH_TAIL_IDX c)] ∧
      t.rd P.xfer (F.XFER_CH_TAIL_IDX c) = (s.rd P.xfer (F.XFER_CH_TAIL_IDX c) + 1) % descRing s c) ∧
  (∀ (s : State) (c : Nat) (d : XferDesc), s.alive = true → c < 8 → s.txn.descs = [(c, [d])] → descOver d = true → d.evt = false → backRefused s c d = false → 
    ∃ t, exec (.xferComplete c d.idx false) s = .next t ∧ descsOf t c = [] ∧
      (t.memAt (descAddr s c d.idx + 0x1F)).toNat = (128 + d.status) % 256) ∧
  (∀ (s : State) (x : Nat), s.alive = true → s.service = true → pgMain s = true → ((s.power.inA.any fun u => decide (u + 10000000 ≤ x)) = true ∨ (s.power.inB.any fun u => decide (u + 10000000 ≤ x)) = true) → 
    ∃ t, exec (.feedWindowSettled x) s = .next t ∧ t.service = false) ∧
  (∀ (s : State), s.alive = true → s.service = false → feedOk s = false → s.usb.svc = true → 
    ∃ t, exec .feedsLost s = .next t ∧ t.service = true) ∧
  (∀ (s : State) (c : TickCmd), s.alive = true → s.time.cmds.find? (fun c => c.code == 5) = some c → (s.working = true ∨ s.st = NS.join) → updState s = 2 → (c.arg = 0 ∨ c.arg = s.mgmt.staged.version) → 
    ∃ t, exec .activate s = .next t ∧ t.mgmt.actDue = some c.eff ∧ t.mgmt.actTries = 0 ∧ t.time.cmds = s.time.cmds.erase c)

/-- All aligned and to another node. REMOTE_LOAD of a field core replayed once its holding slot has the data: the core is
answered, and the slot is free. REMOTE_STORE of a word or doubleword to a present node whose incarnation is known, with a tag
free: the write is issued. REMOTE_AMO replayed once its holding slot has the old value: the core is answered, and the slot is
free. TXN_CPL that matches a tag, not BUSY, and no descriptor in flight: the tag is free. TXN_RESEND after RETRY_TO ticks, to a
present node: the request is resent, and CNT_RETRY counts it. TXN_TIMEOUT after TIMEOUT ticks: the tag is free, and CNT_TIMEOUT
counts it. HOLDING_SLOT_RELEASE of data not collected within HOLD_TICKS: the slot is free. STREAM_SLOT_RELEASE after SLOT_HOLD
ticks without a request: the slot is free. -/
def Obligations.RemoteAccesses : Prop :=
  (∀ (s : State) (k a n d o i : Nat) (x : HoldSlot) (b : List Nat), s.alive = true → k < 4 → coreSize n = true → winOf a = some (d, o) → a % n = 0 → isOwn s d = false → holdOf s k (winAddr d o) n 0 = some (i, x) → x.data = some (b, 0) → 
    ∃ t, exec (.remoteLoad k a n) s = .next t ∧ t.txn.results = (k, a, 0, b) :: s.txn.results ∧ holdAt t i = none) ∧
  (∀ (s : State) (k a : Nat) (b : List Nat) (d o : Nat), s.alive = true → k < 4 → (b.length = 4 ∨ b.length = 8) → winOf a = some (d, o) → a % b.length = 0 → isOwn s d = false → present s d = true → s.halo.incs.at 0 d ≠ 0 → mayTake s k d 1 = true → 
    ∃ t, exec (.remoteStore k a b) s = .next t ∧
      t.rd P.txn F.TXN_CNT_ISSUED_N = satAdd F.TXN_CNT_ISSUED_N.width (s.rd P.txn F.TXN_CNT_ISSUED_N) 1) ∧
  (∀ (s : State) (k a n m v d o i : Nat) (x : HoldSlot) (b : List Nat), s.alive = true → k < 4 → (n = 4 ∨ n = 8) → m < 3 → winOf a = some (d, o) → a % n = 0 → isOwn s d = false → holdOf s k a n ((if n = 4 then 6 else 0xA) + m) = some (i, x) → x.data = some (b, 0) → 
    ∃ t, exec (.remoteAmo k a n m v) s = .next t ∧ t.txn.results = (k, a, 0, b) :: s.txn.results ∧ holdAt t i = none) ∧
  (∀ (s : State) (f : Frame) (g : TagSt), s.alive = true → deliversLocal s = true → (f.typ = 4 ∧ f.cls = 4) → isOwn s f.dst = true → s.txn.descs = [] → tagAt s (bitsOf f.w3 23 9) = some g → g.fetch = false → (g.dst = f.src ∧ g.ord = bitsOf f.w5 18 8 ∧ g.first ≠ none) → bitsOf f.w4 24 4 ≠ TS.busy → 
    ∃ t, exec (.txnCpl f) s = .next t ∧ tagAt t (bitsOf f.w3 23 9) = none) ∧
  (∀ (s : State) (n b : Nat) (g : TagSt), s.alive = true → s.txn.descs = [] → tagAt s n = some g → g.first = some b → g.last + retryTo s ≤ s.ticks → present s g.dst = true → 
    ∃ t, exec (.txnResend n) s = .next t ∧ tagAt t n = some { g with last := s.ticks } ∧
      t.rd P.txn F.TXN_CNT_RETRY_N = satAdd F.TXN_CNT_RETRY_N.width (s.rd P.txn F.TXN_CNT_RETRY_N) 1) ∧
  (∀ (s : State) (n b : Nat) (g : TagSt), s.alive = true → s.txn.descs = [] → tagAt s n = some g → g.fetch = false → g.first = some b → b + txnTimeout s ≤ s.ticks → 
    ∃ t, exec (.txnTimeout n) s = .next t ∧ tagAt t n = none ∧
      t.rd P.txn F.TXN_CNT_TIMEOUT_N = satAdd F.TXN_CNT_TIMEOUT_N.width (s.rd P.txn F.TXN_CNT_TIMEOUT_N) 1) ∧
  (∀ (s : State) (k : Nat) (x : HoldSlot), s.alive = true → holdAt s k = some x → x.data ≠ none → x.since + holdTicks s ≤ s.ticks → 
    ∃ t, exec (.holdingSlotRelease k) s = .next t ∧ holdAt t k = none) ∧
  (∀ (s : State) (k : Nat) (x : StreamSlot), s.alive = true → streamAt s k = some x → x.touch + slotHold s ≤ s.ticks → 
    ∃ t, exec (.streamSlotRelease k) s = .next t ∧ streamAt t k = none)

/-- Each of a request that is next in the order of its stream and that no field-die link holds; its ORD, STATUS and data (the
first 8 bytes) head the stream's completion cache. RD32, RD64 and RDBLK: answered; where the memory read has an uncorrectable
error, ECC; else from the item store OK with its bytes, outside what the window maps ADDRESS_ERROR, and of MTIMECMP0 (RDBLK with
LEN 1) OK with its 4 or 8 bytes. WR32, WR64 and WRBLK: to the item store READ_ONLY, and no record changes; outside what the window
maps ADDRESS_ERROR; to MTIMECMP0 (WRBLK with LEN 1) by a node that may write: the register holds the bytes, and the answer is OK.
EVENT: EVIN of its number takes source and value, and the TXN event of that number is set. -/
def Obligations.TargetReadsAndWrites : Prop :=
  (∀ (s : State) (f : Frame) (e : Bool) (k : Nat), nextRequest s f 0 k = true → inBlocked s (inReq f e) = false →
    ∃ t, exec (.rd32 f e) s = .next t ∧ ((streamAt t k).bind (fun x => x.cache.head?)).map (·.1) = some (inReq f e).ord ∧
      (e = true → (streamAt t k).bind (fun x => x.cache.head?) = some ((inReq f e).ord, TS.ecc, [])) ∧
      (e = false → winPart (inReq f e).off 4 = .items → (streamAt t k).bind (fun x => x.cache.head?) = some ((inReq f e).ord, TS.ok, storeBytes s ((inReq f e).off - 0x400000) 4)) ∧
      (e = false → winPart (inReq f e).off 4 = .reserved → (streamAt t k).bind (fun x => x.cache.head?) = some ((inReq f e).ord, TS.addrErr, [])) ∧
      (e = false → (inReq f e).off = 0x110080 → s.rd P.cores (F.CORES_MTIMECMP_LO_NS 0) < 2 ^ 32 → s.rd P.cores (F.CORES_MTIMECMP_HI_NS 0) < 2 ^ 32 →
        (streamAt t k).bind (fun x => x.cache.head?) = some ((inReq f e).ord, TS.ok, leBytes 4 (s.rd P.cores (F.CORES_MTIMECMP_LO_NS 0))))) ∧
  (∀ (s : State) (f : Frame) (e : Bool) (k : Nat), nextRequest s f 1 k = true → inBlocked s (inReq f e) = false →
    ∃ t, exec (.rd64 f e) s = .next t ∧ ((streamAt t k).bind (fun x => x.cache.head?)).map (·.1) = some (inReq f e).ord ∧
      (e = true → (streamAt t k).bind (fun x => x.cache.head?) = some ((inReq f e).ord, TS.ecc, [])) ∧
      (e = false → winPart (inReq f e).off 8 = .items → (streamAt t k).bind (fun x => x.cache.head?) = some ((inReq f e).ord, TS.ok, storeBytes s ((inReq f e).off - 0x400000) 8)) ∧
      (e = false → winPart (inReq f e).off 8 = .reserved → (streamAt t k).bind (fun x => x.cache.head?) = some ((inReq f e).ord, TS.addrErr, [])) ∧
      (e = false → (inReq f e).off = 0x110080 → s.rd P.cores (F.CORES_MTIMECMP_LO_NS 0) < 2 ^ 32 → s.rd P.cores (F.CORES_MTIMECMP_HI_NS 0) < 2 ^ 32 →
        (streamAt t k).bind (fun x => x.cache.head?) = some ((inReq f e).ord, TS.ok, leBytes 4 (s.rd P.cores (F.CORES_MTIMECMP_LO_NS 0)) ++ leBytes 4 (s.rd P.cores (F.CORES_MTIMECMP_HI_NS 0))))) ∧
  (∀ (s : State) (f : Frame) (e : Bool) (k : Nat), nextRequest s f 2 k = true → inBlocked s (inReq f e) = false →
    ∃ t, exec (.rdblk f e) s = .next t ∧ ((streamAt t k).bind (fun x => x.cache.head?)).map (·.1) = some (inReq f e).ord ∧
      (e = true → (streamAt t k).bind (fun x => x.cache.head?) = some ((inReq f e).ord, TS.ecc, [])) ∧
      (e = false → winPart (inReq f e).off (inBytes (inReq f e)) = .items →
        (streamAt t k).bind (fun x => x.cache.head?) = some ((inReq f e).ord, TS.ok, (storeBytes s ((inReq f e).off - 0x400000) (inBytes (inReq f e))).take 8)) ∧
      (e = false → winPart (inReq f e).off (inBytes (inReq f e)) = .reserved → (streamAt t k).bind (fun x => x.cache.head?) = some ((inReq f e).ord, TS.addrErr, [])) ∧
      (e = false → (inReq f e).off = 0x110080 → (inReq f e).len = 1 → s.rd P.cores (F.CORES_MTIMECMP_LO_NS 0) < 2 ^ 32 → s.rd P.cores (F.CORES_MTIMECMP_HI_NS 0) < 2 ^ 32 →
        (streamAt t k).bind (fun x => x.cache.head?) = some ((inReq f e).ord, TS.ok, leBytes 4 (s.rd P.cores (F.CORES_MTIMECMP_LO_NS 0)) ++ leBytes 4 (s.rd P.cores (F.CORES_MTIMECMP_HI_NS 0))))) ∧
  (∀ (s : State) (f : Frame) (k : Nat), nextRequest s f 3 k = true → inBlocked s (inReq f false) = false →
    ∃ t, exec (.wr32 f) s = .next t ∧
      (f.pay.length = 4 → winPart (inReq f false).off 4 = .items → t.drift.recs = s.drift.recs ∧ (streamAt t k).bind (fun x => x.cache.head?) = some ((inReq f false).ord, TS.readOnly, [])) ∧
      (f.pay.length = 4 → winPart (inReq f false).off 4 = .reserved → (streamAt t k).bind (fun x => x.cache.head?) = some ((inReq f false).ord, TS.addrErr, [])) ∧
      (MayWrite s ⟨8, f.src⟩ P.cores 0x080 → (inReq f false).off = 0x110080 → f.pay.length = 4 →
        t.rd P.cores (F.CORES_MTIMECMP_LO_NS 0) = leVal (slice f.pay 0 4) ∧
        (streamAt t k).bind (fun x => x.cache.head?) = some ((inReq f false).ord, TS.ok, []))) ∧
  (∀ (s : State) (f : Frame) (k : Nat), nextRequest s f 4 k = true → inBlocked s (inReq f false) = false →
    ∃ t, exec (.wr64 f) s = .next t ∧
      (f.pay.length = 8 → winPart (inReq f false).off 8 = .items → t.drift.recs = s.drift.recs ∧ (streamAt t k).bind (fun x => x.cache.head?) = some ((inReq f false).ord, TS.readOnly, [])) ∧
      (f.pay.length = 8 → winPart (inReq f false).off 8 = .reserved → (streamAt t k).bind (fun x => x.cache.head?) = some ((inReq f false).ord, TS.addrErr, [])) ∧
      (MayWrite s ⟨8, f.src⟩ P.cores 0x080 → (inReq f false).off = 0x110080 → f.pay.length = 8 →
        t.rd P.cores (F.CORES_MTIMECMP_LO_NS 0) = leVal (slice f.pay 0 4) ∧
        t.rd P.cores (F.CORES_MTIMECMP_HI_NS 0) = leVal (slice f.pay 4 4) ∧
        (streamAt t k).bind (fun x => x.cache.head?) = some ((inReq f false).ord, TS.ok, []))) ∧
  (∀ (s : State) (f : Frame) (k : Nat), nextRequest s f 5 k = true → inBlocked s (inReq f false) = false →
    ∃ t, exec (.wrblk f) s = .next t ∧
      (winPart (inReq f false).off ((inReq f false).bytes.take (opBytes 5 (inReq f false).len)).length = .items → t.drift.recs = s.drift.recs ∧ (streamAt t k).bind (fun x => x.cache.head?) = some ((inReq f false).ord, TS.readOnly, [])) ∧
      (winPart (inReq f false).off ((inReq f false).bytes.take (opBytes 5 (inReq f false).len)).length = .reserved → (streamAt t k).bind (fun x => x.cache.head?) = some ((inReq f false).ord, TS.addrErr, [])) ∧
      (MayWrite s ⟨8, f.src⟩ P.cores 0x080 → (inReq f false).off = 0x110080 → f.pay.length = 8 → (inReq f false).len = 1 →
        t.rd P.cores (F.CORES_MTIMECMP_LO_NS 0) = leVal (slice f.pay 0 4) ∧
        t.rd P.cores (F.CORES_MTIMECMP_HI_NS 0) = leVal (slice f.pay 4 4) ∧
        (streamAt t k).bind (fun x => x.cache.head?) = some ((inReq f false).ord, TS.ok, []))) ∧
  (∀ (s : State) (f : Frame) (k : Nat), nextRequest s f 14 k = true → f.src < 4096 → 
    ∃ t, exec (.event f) s = .next t ∧ t.rd P.txn (F.TXN_EVIN_SRC (bitsOf (inReq f false).off 16 4)) = f.src ∧
      t.rd P.txn (F.TXN_EVIN_VALUE (bitsOf (inReq f false).off 16 4)) = (inReq f false).off % 2 ^ 16 ∧
      t.bit P.txn F.HDR_EV_STAT_EV (8 + bitsOf (inReq f false).off 16 4) = true)

/-- AND32, OR32, ADD32, CAS32, AND64, OR64, ADD64 and CAS64, each of a request that is next in the order of its stream and that no
field-die link holds; its ORD, STATUS and data head the stream's completion cache. Where the memory read has an uncorrectable
error: ECC; else on the item store: READ_ONLY, and no record changes; outside what the window maps: ADDRESS_ERROR; on MTIMECMP0,
of 32 or 64 bits, by a node that may write: OK with the old value, and the register holds it ANDed with, ORed with or added to the
operand (modulo 2^32 or 2^64) or, for CAS, the second operand where it equalled the first, else what it held. -/
def Obligations.TargetAtomics : Prop :=
  (∀ (s : State) (f : Frame) (e : Bool) (k : Nat), nextRequest s f 6 k = true → inBlocked s (inReq f e) = false →
    ∃ t, exec (.and32 f e) s = .next t ∧
      (e = true → (streamAt t k).bind (fun x => x.cache.head?) = some ((inReq f e).ord, TS.ecc, [])) ∧
      (e = false → winPart (inReq f e).off 4 = .items → t.drift.recs = s.drift.recs ∧ (streamAt t k).bind (fun x => x.cache.head?) = some ((inReq f e).ord, TS.readOnly, [])) ∧
      (e = false → winPart (inReq f e).off 4 = .reserved → (streamAt t k).bind (fun x => x.cache.head?) = some ((inReq f e).ord, TS.addrErr, [])) ∧
      (e = false → MayWrite s ⟨8, f.src⟩ P.cores 0x080 → (inReq f e).off = 0x110080 → s.rd P.cores (F.CORES_MTIMECMP_LO_NS 0) < 2 ^ 32 → s.rd P.cores (F.CORES_MTIMECMP_HI_NS 0) < 2 ^ 32 →
        t.rd P.cores (F.CORES_MTIMECMP_LO_NS 0) = (s.rd P.cores (F.CORES_MTIMECMP_LO_NS 0) &&& leVal (slice f.pay 0 4)) ∧
        (streamAt t k).bind (fun x => x.cache.head?) = some ((inReq f e).ord, TS.ok, leBytes 4 (s.rd P.cores (F.CORES_MTIMECMP_LO_NS 0))))) ∧
  (∀ (s : State) (f : Frame) (e : Bool) (k : Nat), nextRequest s f 7 k = true → inBlocked s (inReq f e) = false →
    ∃ t, exec (.or32 f e) s = .next t ∧
      (e = true → (streamAt t k).bind (fun x => x.cache.head?) = some ((inReq f e).ord, TS.ecc, [])) ∧
      (e = false → winPart (inReq f e).off 4 = .items → t.drift.recs = s.drift.recs ∧ (streamAt t k).bind (fun x => x.cache.head?) = some ((inReq f e).ord, TS.readOnly, [])) ∧
      (e = false → winPart (inReq f e).off 4 = .reserved → (streamAt t k).bind (fun x => x.cache.head?) = some ((inReq f e).ord, TS.addrErr, [])) ∧
      (e = false → MayWrite s ⟨8, f.src⟩ P.cores 0x080 → (inReq f e).off = 0x110080 → s.rd P.cores (F.CORES_MTIMECMP_LO_NS 0) < 2 ^ 32 → s.rd P.cores (F.CORES_MTIMECMP_HI_NS 0) < 2 ^ 32 →
        t.rd P.cores (F.CORES_MTIMECMP_LO_NS 0) = (s.rd P.cores (F.CORES_MTIMECMP_LO_NS 0) ||| leVal (slice f.pay 0 4)) ∧
        (streamAt t k).bind (fun x => x.cache.head?) = some ((inReq f e).ord, TS.ok, leBytes 4 (s.rd P.cores (F.CORES_MTIMECMP_LO_NS 0))))) ∧
  (∀ (s : State) (f : Frame) (e : Bool) (k : Nat), nextRequest s f 8 k = true → inBlocked s (inReq f e) = false →
    ∃ t, exec (.add32 f e) s = .next t ∧
      (e = true → (streamAt t k).bind (fun x => x.cache.head?) = some ((inReq f e).ord, TS.ecc, [])) ∧
      (e = false → winPart (inReq f e).off 4 = .items → t.drift.recs = s.drift.recs ∧ (streamAt t k).bind (fun x => x.cache.head?) = some ((inReq f e).ord, TS.readOnly, [])) ∧
      (e = false → winPart (inReq f e).off 4 = .reserved → (streamAt t k).bind (fun x => x.cache.head?) = some ((inReq f e).ord, TS.addrErr, [])) ∧
      (e = false → MayWrite s ⟨8, f.src⟩ P.cores 0x080 → (inReq f e).off = 0x110080 → s.rd P.cores (F.CORES_MTIMECMP_LO_NS 0) < 2 ^ 32 → s.rd P.cores (F.CORES_MTIMECMP_HI_NS 0) < 2 ^ 32 →
        t.rd P.cores (F.CORES_MTIMECMP_LO_NS 0) = (s.rd P.cores (F.CORES_MTIMECMP_LO_NS 0) + leVal (slice f.pay 0 4)) % 2 ^ 32 ∧
        (streamAt t k).bind (fun x => x.cache.head?) = some ((inReq f e).ord, TS.ok, leBytes 4 (s.rd P.cores (F.CORES_MTIMECMP_LO_NS 0))))) ∧
  (∀ (s : State) (f : Frame) (e : Bool) (k : Nat), nextRequest s f 9 k = true → inBlocked s (inReq f e) = false →
    ∃ t, exec (.cas32 f e) s = .next t ∧
      (e = true → (streamAt t k).bind (fun x => x.cache.head?) = some ((inReq f e).ord, TS.ecc, [])) ∧
      (e = false → winPart (inReq f e).off 4 = .items → t.drift.recs = s.drift.recs ∧ (streamAt t k).bind (fun x => x.cache.head?) = some ((inReq f e).ord, TS.readOnly, [])) ∧
      (e = false → winPart (inReq f e).off 4 = .reserved → (streamAt t k).bind (fun x => x.cache.head?) = some ((inReq f e).ord, TS.addrErr, [])) ∧
      (e = false → MayWrite s ⟨8, f.src⟩ P.cores 0x080 → (inReq f e).off = 0x110080 → s.rd P.cores (F.CORES_MTIMECMP_LO_NS 0) < 2 ^ 32 → s.rd P.cores (F.CORES_MTIMECMP_HI_NS 0) < 2 ^ 32 →
        t.rd P.cores (F.CORES_MTIMECMP_LO_NS 0) = (if s.rd P.cores (F.CORES_MTIMECMP_LO_NS 0) = leVal (slice f.pay 0 4) then leVal (slice f.pay 4 4) else s.rd P.cores (F.CORES_MTIMECMP_LO_NS 0)) ∧
        (streamAt t k).bind (fun x => x.cache.head?) = some ((inReq f e).ord, TS.ok, leBytes 4 (s.rd P.cores (F.CORES_MTIMECMP_LO_NS 0))))) ∧
  (∀ (s : State) (f : Frame) (e : Bool) (k : Nat), nextRequest s f 10 k = true → inBlocked s (inReq f e) = false →
    ∃ t, exec (.and64 f e) s = .next t ∧
      (e = true → (streamAt t k).bind (fun x => x.cache.head?) = some ((inReq f e).ord, TS.ecc, [])) ∧
      (e = false → winPart (inReq f e).off 8 = .items → t.drift.recs = s.drift.recs ∧ (streamAt t k).bind (fun x => x.cache.head?) = some ((inReq f e).ord, TS.readOnly, [])) ∧
      (e = false → winPart (inReq f e).off 8 = .reserved → (streamAt t k).bind (fun x => x.cache.head?) = some ((inReq f e).ord, TS.addrErr, [])) ∧
      (e = false → MayWrite s ⟨8, f.src⟩ P.cores 0x080 → (inReq f e).off = 0x110080 → s.rd P.cores (F.CORES_MTIMECMP_LO_NS 0) < 2 ^ 32 → s.rd P.cores (F.CORES_MTIMECMP_HI_NS 0) < 2 ^ 32 →
        t.rd64 P.cores (F.CORES_MTIMECMP_LO_NS 0) (F.CORES_MTIMECMP_HI_NS 0) = (s.rd64 P.cores (F.CORES_MTIMECMP_LO_NS 0) (F.CORES_MTIMECMP_HI_NS 0) &&& leVal (slice f.pay 0 8)) ∧
        (streamAt t k).bind (fun x => x.cache.head?) = some ((inReq f e).ord, TS.ok, leBytes 4 (s.rd P.cores (F.CORES_MTIMECMP_LO_NS 0)) ++ leBytes 4 (s.rd P.cores (F.CORES_MTIMECMP_HI_NS 0))))) ∧
  (∀ (s : State) (f : Frame) (e : Bool) (k : Nat), nextRequest s f 11 k = true → inBlocked s (inReq f e) = false →
    ∃ t, exec (.or64 f e) s = .next t ∧
      (e = true → (streamAt t k).bind (fun x => x.cache.head?) = some ((inReq f e).ord, TS.ecc, [])) ∧
      (e = false → winPart (inReq f e).off 8 = .items → t.drift.recs = s.drift.recs ∧ (streamAt t k).bind (fun x => x.cache.head?) = some ((inReq f e).ord, TS.readOnly, [])) ∧
      (e = false → winPart (inReq f e).off 8 = .reserved → (streamAt t k).bind (fun x => x.cache.head?) = some ((inReq f e).ord, TS.addrErr, [])) ∧
      (e = false → MayWrite s ⟨8, f.src⟩ P.cores 0x080 → (inReq f e).off = 0x110080 → s.rd P.cores (F.CORES_MTIMECMP_LO_NS 0) < 2 ^ 32 → s.rd P.cores (F.CORES_MTIMECMP_HI_NS 0) < 2 ^ 32 →
        t.rd64 P.cores (F.CORES_MTIMECMP_LO_NS 0) (F.CORES_MTIMECMP_HI_NS 0) = (s.rd64 P.cores (F.CORES_MTIMECMP_LO_NS 0) (F.CORES_MTIMECMP_HI_NS 0) ||| leVal (slice f.pay 0 8)) ∧
        (streamAt t k).bind (fun x => x.cache.head?) = some ((inReq f e).ord, TS.ok, leBytes 4 (s.rd P.cores (F.CORES_MTIMECMP_LO_NS 0)) ++ leBytes 4 (s.rd P.cores (F.CORES_MTIMECMP_HI_NS 0))))) ∧
  (∀ (s : State) (f : Frame) (e : Bool) (k : Nat), nextRequest s f 12 k = true → inBlocked s (inReq f e) = false →
    ∃ t, exec (.add64 f e) s = .next t ∧
      (e = true → (streamAt t k).bind (fun x => x.cache.head?) = some ((inReq f e).ord, TS.ecc, [])) ∧
      (e = false → winPart (inReq f e).off 8 = .items → t.drift.recs = s.drift.recs ∧ (streamAt t k).bind (fun x => x.cache.head?) = some ((inReq f e).ord, TS.readOnly, [])) ∧
      (e = false → winPart (inReq f e).off 8 = .reserved → (streamAt t k).bind (fun x => x.cache.head?) = some ((inReq f e).ord, TS.addrErr, [])) ∧
      (e = false → MayWrite s ⟨8, f.src⟩ P.cores 0x080 → (inReq f e).off = 0x110080 → s.rd P.cores (F.CORES_MTIMECMP_LO_NS 0) < 2 ^ 32 → s.rd P.cores (F.CORES_MTIMECMP_HI_NS 0) < 2 ^ 32 →
        t.rd64 P.cores (F.CORES_MTIMECMP_LO_NS 0) (F.CORES_MTIMECMP_HI_NS 0) = (s.rd64 P.cores (F.CORES_MTIMECMP_LO_NS 0) (F.CORES_MTIMECMP_HI_NS 0) + leVal (slice f.pay 0 8)) % 2 ^ 64 ∧
        (streamAt t k).bind (fun x => x.cache.head?) = some ((inReq f e).ord, TS.ok, leBytes 4 (s.rd P.cores (F.CORES_MTIMECMP_LO_NS 0)) ++ leBytes 4 (s.rd P.cores (F.CORES_MTIMECMP_HI_NS 0))))) ∧
  (∀ (s : State) (f : Frame) (e : Bool) (k : Nat), nextRequest s f 13 k = true → inBlocked s (inReq f e) = false →
    ∃ t, exec (.cas64 f e) s = .next t ∧
      (e = true → (streamAt t k).bind (fun x => x.cache.head?) = some ((inReq f e).ord, TS.ecc, [])) ∧
      (e = false → winPart (inReq f e).off 8 = .items → t.drift.recs = s.drift.recs ∧ (streamAt t k).bind (fun x => x.cache.head?) = some ((inReq f e).ord, TS.readOnly, [])) ∧
      (e = false → winPart (inReq f e).off 8 = .reserved → (streamAt t k).bind (fun x => x.cache.head?) = some ((inReq f e).ord, TS.addrErr, [])) ∧
      (e = false → MayWrite s ⟨8, f.src⟩ P.cores 0x080 → (inReq f e).off = 0x110080 → s.rd P.cores (F.CORES_MTIMECMP_LO_NS 0) < 2 ^ 32 → s.rd P.cores (F.CORES_MTIMECMP_HI_NS 0) < 2 ^ 32 →
        t.rd64 P.cores (F.CORES_MTIMECMP_LO_NS 0) (F.CORES_MTIMECMP_HI_NS 0) = (if s.rd64 P.cores (F.CORES_MTIMECMP_LO_NS 0) (F.CORES_MTIMECMP_HI_NS 0) = leVal (slice f.pay 0 8) then leVal (slice f.pay 8 8) else s.rd64 P.cores (F.CORES_MTIMECMP_LO_NS 0) (F.CORES_MTIMECMP_HI_NS 0)) ∧
        (streamAt t k).bind (fun x => x.cache.head?) = some ((inReq f e).ord, TS.ok, leBytes 4 (s.rd P.cores (F.CORES_MTIMECMP_LO_NS 0)) ++ leBytes 4 (s.rd P.cores (F.CORES_MTIMECMP_HI_NS 0)))))

/-- SCHEDULED_WINDOW_END with Drift on and the router no Eclipse trigger: ring time is at T(n) + W or past it, and a zones slot
whose track is off and follows no sample is HOLDING. RECLAIM of a STANDBY source with a valid offset: it is to become ACTIVE.
EVAL: EVAL_POS and EVAL_VEL hold the slot's model at the ring time in EVAL_T; 0 without a model. INDUCT that no check refuses:
OP_RES says QUEUED or OK, and OP_VER 1. UPDATE of a record that the node owns, not in a handoff and with a good CRC: OP_RES says
OK, and the record has the first user word of the image. OP_RETIRE of such a record: OP_RES says OK, and the record is RETIRED, or
FREE once all its steps are done. FIND of an item that the store holds: OP_RES says OK with its slot. OP_CANCEL of an action of
such a record, with no edge pending: OP_RES says OK, and the action is CANCELLED. FREE in COMMISSION or MAINT: OP_RES says OK, and
the slot is FREE. Each initiator reads its own OP_RES. -/
def Obligations.TracksAndDriftOperations : Prop :=
  (∀ (s : State) (k : Nat), s.alive = true → driftOn s = true → s.on P.ecl F.ECLIPSE_ECL_CFG_EV_EN = false → k < 8 → s.on P.zones (F.ZONES_ZCFG_EN k) = true → slotOn s k = false → (trkState s k ≠ 2 ∧ trkState s k ≠ 3) → 
    ∃ t, exec .scheduledWindowEnd s = .next t ∧ s.time.tStart + s.winW ≤ t.now ∧ t.on P.zones (F.ZONES_ZSTAT_HOLDING k) = true) ∧
  (∀ (s : State) (k : Nat) (who : By), MayWrite s who (P.track (k % 8)) 0x070 → srcState s (k % 8) = 1 → s.tk F.TRACK_TRK_STAT_DELTA_VALID (k % 8) = 1 → 
    ∃ t, exec (.reclaim k who) s = .next t ∧ (trk t (k % 8)).toActive = true) ∧
  (∀ (s : State) (k : Nat) (who : By) (v : Nat), MayWrite s who (P.track (k % 8)) 0x0A4 → 
    ∃ t, exec (.eval k who v) s = .next t ∧
      (let e := (evalTrack s (k % 8) (2 * (s.tk F.TRACK_EVAL_T_LO_NS (k % 8) + v % 2 ^ 32 * 2 ^ 32 : Nat))).getD (0, 0, false)
       t.rd64 (P.track (k % 8)) F.TRACK_EVAL_POS_LO_POS F.TRACK_EVAL_POS_HI_POS = ofSigned 48 (floorUm e.1) ∧
       t.tk F.TRACK_EVAL_VEL_V (k % 8) = ofSigned 32 e.2.1)) ∧
  (∀ (s : State) (who : By) (k : Nat), MayWrite s who P.drift 0x06C → k < 16384 → (inductJudge s k (opImage s (iniIdx who.ini))).1 = none → 
    ∃ t, exec (.induct who k) s = .next t ∧ (t.rdi P.drift F.DRIFT_OP_RES_STATUS (iniIdx who.ini) = DS.queued ∨ t.rdi P.drift F.DRIFT_OP_RES_STATUS (iniIdx who.ini) = DS.ok) ∧
      t.rdi P.drift F.DRIFT_OP_VER_VERSION (iniIdx who.ini) = 1) ∧
  (∀ (s : State) (who : By) (i : Nat), MayWrite s who P.drift 0x06C → (s.working = true ∨ s.st = NS.join) → i < 16384 → (recAt s i).word 7 = (recAt s i).crc → ownedJudge s i = none → 
    ∃ t, exec (.update who i) s = .next t ∧ t.rdi P.drift F.DRIFT_OP_RES_STATUS (iniIdx who.ini) = DS.ok ∧
      (recAt t i).word 24 = (opImage s (iniIdx who.ini)).word 24 % 2 ^ 32) ∧
  (∀ (s : State) (who : By) (i : Nat), MayWrite s who P.drift 0x06C → (s.working = true ∨ s.st = NS.join) → i < 16384 → (recAt s i).word 7 = (recAt s i).crc → ownedJudge s i = none → 
    ∃ t, exec (.opRetire who i) s = .next t ∧ t.rdi P.drift F.DRIFT_OP_RES_STATUS (iniIdx who.ini) = DS.ok ∧
      ((recAt t i).g R.state = RS.retired ∨ (recAt t i).g R.state = RS.free)) ∧
  (∀ (s : State) (who : By) (i : Nat), MayWrite s who P.drift 0x06C → (s.working = true ∨ s.st = NS.join) → (findItem s (s.rdi P.drift F.DRIFT_OP_ARG_LO_ARG (iniIdx who.ini) + s.rdi P.drift F.DRIFT_OP_ARG_HI_ARG (iniIdx who.ini) * 2 ^ 32)).1 = some i → 
    ∃ t, exec (.find who) s = .next t ∧ t.rdi P.drift F.DRIFT_OP_RES_STATUS (iniIdx who.ini) = DS.ok ∧ t.rdi P.drift F.DRIFT_OP_RES_SLOT (iniIdx who.ini) = i % 2 ^ 14) ∧
  (∀ (s : State) (who : By) (i a : Nat), MayWrite s who P.drift 0x06C → (s.working = true ∨ s.st = NS.join) → i < 16384 → (recAt s i).word 7 = (recAt s i).crc → ownedJudge s i = none → a < 4 → (s.edge.edges = [] ∧ s.edge.results = []) → 
    ∃ t, exec (.opCancel who i a) s = .next t ∧ t.rdi P.drift F.DRIFT_OP_RES_STATUS (iniIdx who.ini) = DS.ok ∧ (recAt t i).g (R.result a) = 7) ∧
  (∀ (s : State) (who : By) (i : Nat), MayWrite s who P.drift 0x06C → (s.st = NS.commission ∨ s.st = NS.maint) → i < 16384 → 
    ∃ t, exec (.free who i) s = .next t ∧ t.rdi P.drift F.DRIFT_OP_RES_STATUS (iniIdx who.ini) = DS.ok ∧ (recAt t i).g R.state = RS.free)

/-- OFFER of an item that the store does not hold, for a zone that works, resynchronised, with a slot free and the router no
Eclipse trigger: one record more is PENDING. ACCEPT of the OFFER that is outstanding: the record is a MIRROR of the sender's, one
VERSION up. REFUSE of it with code 3, the item is held there: the slot is FREE. COMMIT of a PENDING copy, one VERSION up: this
node owns the item, and CNT_HO_IN counts it. DONE, code 0, for the COMMIT that is outstanding: it is answered, and CNT_HO_OUT
counts the handoff. RELEASE of a mirror or retired copy that is not newer: the slot is FREE. SET of an item that the store does
not hold, with a slot free: one record more is a MIRROR. -/
def Obligations.DriftHandoffFrames : Prop :=
  (∀ (s : State) (f : Frame) (k : Nat), driftTakes s f 1 128 = true → driftOwns s = true → s.on P.ecl F.ECLIPSE_ECL_CFG_EV_EN = false → s.on P.drift F.DRIFT_STORE_STAT3_RESYNC_DONE = true → zoneSlot s ((Rec.ofBytes f.pay).g R.track) = some k → zoneOk s k = true → (findItem s (Rec.ofBytes f.pay).id).1 = none → 0 < freeSlots s → 
    ∃ t, exec (.offer f) s = .next t ∧ recCount t RS.pending = recCount s RS.pending + 1) ∧
  (∀ (s : State) (f : Frame) (q : DriftReq), driftTakes s f 2 8 = true → (askedOf s f 1).1 = some q →
    ∃ t, exec (.accept f) s = .next t ∧ (recAt t q.slot).g R.state = RS.mirror ∧ (recAt t q.slot).g R.owner = f.src % 4096 ∧
      (recAt t q.slot).g R.ver = ((recAt s q.slot).g R.ver + 1) % 2 ^ 16) ∧
  (∀ (s : State) (f : Frame) (q : DriftReq), driftTakes s f 3 8 = true → (askedOf s f 1).1 = some q → frameCode f = 3 →
    ∃ t, exec (.refuse f) s = .next t ∧ (recAt t q.slot).g R.state = RS.free) ∧
  (∀ (s : State) (f : Frame) (i : Nat), driftTakes s f 4 8 = true → (findItem s (frameId f)).1 = some i → (recAt s i).g R.state = RS.pending → (recAt s i).g R.ver + 1 = frameVer f → 
    ∃ t, exec (.commit f) s = .next t ∧ (recAt t i).g R.owner = s.own % 4096 ∧
      t.rd P.drift F.DRIFT_CNT_HO_IN_N = satAdd F.DRIFT_CNT_HO_IN_N.width (s.rd P.drift F.DRIFT_CNT_HO_IN_N) 1) ∧
  (∀ (s : State) (f : Frame) (q : DriftReq), driftTakes s f 5 8 = true → (askedOf s f 4).1 = some q → frameCode f = 0 → 
    ∃ t, exec (.driftDone f) s = .next t ∧ t.drift.reqs.contains q = false ∧
      t.rd P.drift F.DRIFT_CNT_HO_OUT_N = satAdd F.DRIFT_CNT_HO_OUT_N.width (s.rd P.drift F.DRIFT_CNT_HO_OUT_N) 1) ∧
  (∀ (s : State) (f : Frame) (i : Nat), driftTakes s f 6 8 = true → (findItem s (frameId f)).1 = some i → ((recAt s i).g R.state = RS.mirror ∨ (recAt s i).g R.state = RS.retired) → (recAt s i).g R.ver ≤ frameVer f → 
    ∃ t, exec (.release f) s = .next t ∧ (recAt t i).g R.state = RS.free) ∧
  (∀ (s : State) (f : Frame), driftTakes s f 7 128 = true → (findItem s (Rec.ofBytes f.pay).id).1 = none → 0 < freeSlots s → 
    ∃ t, exec (.driftSet f) s = .next t ∧ recCount t RS.mirror = recCount s RS.mirror + 1)

/-- RETIRE of a mirror or pending copy: it is RETIRED. DRIFT_ACK of the current VERSION and HSTATE MIRROR for an outstanding SET:
the sender is the record's mirror, and the SET waits no more. QUERY about a slot whose copy is sound, with only E up and the
router no Eclipse trigger: an ANSWER joins the queue of class 6 of that port. ANSWER to an outstanding QUERY: it is answered, and
the record is kept without DOUBT, or FREE. RESULT of an action of an owned item not in DOUBT, with no edge pending: the record
holds the result. DRIFT_RESEND of the one outstanding request once HO_RETRY ticks have passed, its record sound: it is sent again
now, and CNT_RESEND counts it. HANDOFF_TIMEOUT of the one outstanding OFFER after HO_TO ticks, its record sound: it is withdrawn,
and CNT_SKIP counts it. PENDING_EXPIRED: a sound PENDING copy without a COMMIT for PEND_TO ticks, and not an ORPHAN, is FREE.
RESYNC_TIMEOUT, RESYNC_TO ticks after the QUERYs: the resynchronisation is done. -/
def Obligations.DriftAnswersAndTime : Prop :=
  (∀ (s : State) (f : Frame) (i : Nat), driftTakes s f 8 8 = true → (findItem s (frameId f)).1 = some i → ((recAt s i).g R.state = RS.mirror ∨ (recAt s i).g R.state = RS.pending) → 
    ∃ t, exec (.retire f) s = .next t ∧ (recAt t i).g R.state = RS.retired) ∧
  (∀ (s : State) (f : Frame) (q : DriftReq), driftTakes s f 9 8 = true → (askedOf s f (frameCode f)).1 = some q → q.sub = 7 → frameVer f = (recAt s q.slot).g R.ver → frameHState f = RS.mirror → 
    ∃ t, exec (.driftAck f) s = .next t ∧ (recAt t q.slot).g R.mirror = f.src % 4096 ∧ t.drift.reqs.contains q = false) ∧
  (∀ (s : State) (f : Frame), driftTakes s f 10 8 = true → (findItem s (frameId f)).2 = s → eastOnly s = true → s.on P.ecl F.ECLIPSE_ECL_CFG_EV_EN = false → 
    ∃ t, exec (.query f) s = .next t ∧ (swQueue t (outQueue 0 6)).length = (swQueue s (outQueue 0 6)).length + 1) ∧
  (∀ (s : State) (f : Frame) (q : DriftReq), driftTakes s f 11 8 = true → (askedOf s f 10).1 = some q → 
    ∃ t, exec (.answer f) s = .next t ∧ t.drift.reqs.contains q = false ∧
      ((recAt t q.slot).g R.state = RS.free ∨ (recAt t q.slot).fl RFl.doubt = false)) ∧
  (∀ (s : State) (f : Frame) (i : Nat), driftTakes s f 12 12 = true → (findItem s (frameId f)).1 = some i → (recAt s i).g R.state = RS.owned → (recAt s i).fl RFl.doubt = false → (s.edge.edges = [] ∧ s.edge.results = []) → 3 ≤ leVal (slice f.pay 8 4) % 16 → 
    ∃ t, exec (.result f) s = .next t ∧ (recAt t i).g (R.result (leVal (slice f.pay 8 4) / 2 ^ 16 % 4)) = leVal (slice f.pay 8 4) % 16) ∧
  (∀ (s : State) (q : DriftReq), s.alive = true → driftOn s = true → s.drift.reqs = [q] → (q.sub = 1 ∨ q.sub = 7 → crcCheck s q.slot = s) → q.last + hoRetry s ≤ s.ticks → 
    ∃ t, exec .driftResend s = .next t ∧ t.drift.reqs = [{ q with last := s.ticks }] ∧
      t.rd P.drift F.DRIFT_CNT_RESEND_N = satAdd F.DRIFT_CNT_RESEND_N.width (s.rd P.drift F.DRIFT_CNT_RESEND_N) 1) ∧
  (∀ (s : State) (q : DriftReq), s.alive = true → driftOn s = true → s.drift.reqs = [q] → crcCheck s q.slot = s → q.sub = 1 → q.first + hoTo s ≤ s.ticks → 
    ∃ t, exec .handoffTimeout s = .next t ∧ reqsOf t q.slot 1 = [] ∧
      t.rd P.drift F.DRIFT_CNT_SKIP_N = satAdd F.DRIFT_CNT_SKIP_N.width (s.rd P.drift F.DRIFT_CNT_SKIP_N) 1) ∧
  (∀ (s : State) (i : Nat), s.alive = true → driftOn s = true → crcCheck s i = s → (recAt s i).g R.state = RS.pending → (recAt s i).fl RFl.orphan = false → (dslot s i).pend + pendTo s ≤ s.ticks → 
    ∃ t, exec .pendingExpired s = .next t ∧ (recAt t i).g R.state = RS.free) ∧
  (∀ (s : State) (b : Nat), s.alive = true → driftOn s = true → s.drift.resync = true → s.drift.queried = some b → b + resyncTo s ≤ s.ticks → 
    ∃ t, exec .resyncTimeout s = .next t ∧ t.drift.resync = false ∧ t.rd P.drift F.DRIFT_STORE_STAT3_RESYNC_DONE = 1)

/-- ENT_SEL: SEL_ENTRY takes the entry, and staging its target. The others on the entry selected, outside the action pool, in a
working state. CONFIGURE of an entry without pending edges, with a defined target: ENT_RES says OK, and the entry has the staged
target. ARM of a time operation on an entry that is defined and not being released, its commit instant still to come, with a
pending edge free: ENT_RES says OK, and a CONVERTED edge with its instant is pending. CANCEL: ENT_RES says OK, and no first edge
of the entry is left uncommitted. RELEASE of an entry with no committed and no return edge: ENT_RES says OK, and the entry is
FREE. -/
def Obligations.EdgeCommands : Prop :=
  (∀ (s : State) (who : By) (n : Nat), MayWrite s who P.edge 0x048 → 
    ∃ t, exec (.entSel who n) s = .next t ∧ t.rd P.edge F.EDGE_ENT_SEL_ENTRY = n % 1024 ∧ t.rd P.edge F.EDGE_ENT_TGT_KIND = (entOf s (n % 1024)).kind % 16 ∧
      t.rd P.edge F.EDGE_ENT_TGT_UNIT = (entOf s (n % 1024)).unit % 256 ∧ t.rd P.edge F.EDGE_ENT_TGT_SUB = (entOf s (n % 1024)).sub % 256) ∧
  (∀ (s : State) (who : By) (n : Nat), MayWrite s who P.edge 0x060 → s.working = true → s.rd P.edge F.EDGE_ENT_SEL_ENTRY = n → inActPool s n = false → entEdges s n = [] → targetOk (s.rd P.edge F.EDGE_ENT_TGT_KIND) (s.rd P.edge F.EDGE_ENT_TGT_UNIT) (s.rd P.edge F.EDGE_ENT_TGT_SUB) = true → 
    ∃ t, exec (.configure who) s = .next t ∧ t.rd P.edge F.EDGE_ENT_RES_RESULT = EC.ok ∧ (entOf t n).used = true ∧
      (entOf t n).kind = s.rd P.edge F.EDGE_ENT_TGT_KIND ∧ (entOf t n).unit = s.rd P.edge F.EDGE_ENT_TGT_UNIT ∧
      (entOf t n).sub = s.rd P.edge F.EDGE_ENT_TGT_SUB) ∧
  (∀ (s : State) (who : By) (n : Nat), MayWrite s who P.edge 0x060 → s.working = true → s.rd P.edge F.EDGE_ENT_SEL_ENTRY = n → inActPool s n = false → ((entOf s n).used = true ∧ (entOf s n).leaving = false) → armOk s (stagedArm s) = true → s.on P.edge F.EDGE_ENT_ARM0_POS = false → s.edge.edges.length < 4096 → 2 * s.now + commitLead s (entOf s n) < ceilTo (edgeRes (entOf s n).kind) (stagedArm s).trig.toNat → 
    ∃ t, exec (.arm who) s = .next t ∧ t.rd P.edge F.EDGE_ENT_RES_RESULT = EC.ok ∧
      (t.edge.edges.getLast?).map (fun e => (e.entry, e.st, e.inst)) =
        some (n, .converted, some (ceilTo (edgeRes (entOf s n).kind) (stagedArm s).trig.toNat))) ∧
  (∀ (s : State) (who : By) (n : Nat), MayWrite s who P.edge 0x060 → s.working = true → s.rd P.edge F.EDGE_ENT_SEL_ENTRY = n → inActPool s n = false → 
    ∃ t, exec (.edgeCancel who) s = .next t ∧ t.rd P.edge F.EDGE_ENT_RES_RESULT = EC.ok ∧ ((entEdges t n).all fun e => !e.open || e.isReturn) = true) ∧
  (∀ (s : State) (who : By) (n : Nat), MayWrite s who P.edge 0x060 → s.working = true → s.rd P.edge F.EDGE_ENT_SEL_ENTRY = n → inActPool s n = false → ((entEdges s n).all fun e => e.open && !e.isReturn) = true → 
    ∃ t, exec (.edgeRelease who) s = .next t ∧ t.rd P.edge F.EDGE_ENT_RES_RESULT = EC.ok ∧ entState t n = 0)

/-- EDGE_COMMIT at the commit instant of the one pending edge, with a place free and EDGE not held: it is COMMITTED. EDGE_PLACE at
the instant of the one committed edge, of no action and no SAFE, on a GPIO that the scheduler owns, the router no Eclipse trigger:
the signal's latch takes its level, and the edge is complete. FIELD_COMMAND_ARRIVAL of a command before its action instant: it
waits at the field die. FIELD_EDGE_ACTION at the action instant of the one command, of no action and no SAFE, for an output
channel out of safe state, without SERVICE power, the router no Eclipse trigger: the channel's LEVEL takes the edge's level, and
the edge is complete. INPUT_EDGE at a GPIO, timestamp pin or encoder source that an enabled unit watches, of a kind it takes and
wide enough: CAP_LAST_INFO is valid with the level. -/
def Obligations.EdgesInTime : Prop :=
  (∀ (s : State) (e : PendEdge) (i : Nat), s.alive = true → s.edge.edges = [e] → s.edge.results = [] → (e.st = .converted ∧ e.inst = some i ∧ e.starved = false) → edgeHeld s = false → placeFree s (entOf s e.entry) = true → commitLead s (entOf s e.entry) ≤ i → 
    ∃ t, exec (.edgeCommit (i - commitLead s (entOf s e.entry))) s = .next t ∧ t.edge.edges.map (fun x => (x.st, x.inst)) = [(.committed, some i)]) ∧
  (∀ (s : State) (e : PendEdge) (i : Nat), s.alive = true → s.edge.edges = [e] → s.edge.results = [] → (e.st = .committed ∧ e.inst = some i ∧ e.action = none ∧ e.op ≠ 1) → ((entOf s e.entry).kind = 2 ∧ (entOf s e.entry).unit < 96) → sigOwner s (entOf s e.entry).unit = 1 → s.on P.ecl F.ECLIPSE_ECL_CFG_EV_EN = false → 
    ∃ t, exec (.edgePlace i) s = .next t ∧ t.edge.edges = [] ∧
      (t.sig (entOf s e.entry).unit).latch = e.drive (s.sig (entOf s e.entry).unit).latch) ∧
  (∀ (s : State) (c : FieldCmd) (e : PendEdge) (x : Nat), s.alive = true → s.stitch.down = false → s.edge.cmds = [c] → c.here = false → edgeOf s c.seq = some e → x < c.act → s.edge.results = [] → 
    ∃ t, exec (.fieldCommandArrival c.kind c.unit x) s = .next t ∧ t.edge.cmds = [{ c with here := true }]) ∧
  (∀ (s : State) (c : FieldCmd) (e : PendEdge), s.alive = true → (s.edge.cmds = [c] ∧ c.here = true ∧ c.seq = e.seq) → s.edge.edges = [e] → s.edge.results = [] → (e.action = none ∧ e.op ≠ 1) → ((entOf s e.entry).kind = 1 ∧ (entOf s e.entry).unit < 64) → (chIsOutput s (entOf s e.entry).unit = true ∧ chSafe s (entOf s e.entry).unit = false ∧ s.service = false) → s.on P.ecl F.ECLIPSE_ECL_CFG_EV_EN = false → 
    ∃ t, exec (.fieldEdgeAction c.act) s = .next t ∧ t.edge.edges = [] ∧
      t.ch F.FIELD_CH_OUT_LEVEL (entOf s e.entry).unit = b2n (e.drive (s.ch F.FIELD_CH_OUT_LEVEL (entOf s e.entry).unit == 1))) ∧
  (∀ (s : State) (k i u : Nat) (b : Bool) (x fr w : Nat), s.alive = true → captureOn s = true → (2 ≤ k ∧ k ≤ 4) → i < (if k = 2 then 96 else if k = 3 then 12 else 4) → u < 16 → (s.cap F.CAPTURE_CAP_CFG_EN u = 1 ∧ capKind s u = k ∧ s.cap F.CAPTURE_CAP_CFG_INDEX u = i) → bitOf (s.cap F.CAPTURE_CAP_CFG_EDGES u) (if b then 0 else 1) = true → 2 * s.cap F.CAPTURE_CAP_FILT_MIN_WIDTH u ≤ w → 
    ∃ t, exec (.inputEdge k i b x fr w) s = .next t ∧ t.cap F.CAPTURE_CAP_LAST_INFO_VALID u = 1 ∧ t.cap F.CAPTURE_CAP_LAST_INFO_LEVEL u = b2n b)

/-- MODE_WRITE: CH_CFG.MODE takes the mode. LEVEL: CH_OUT.LEVEL takes the level. CHANNEL_RELEASE in a working state, without
SERVICE power: the channel leaves its safe state. FORCE_SAFE of a channel out of safe state, the router no Eclipse trigger: it is
in safe state, with LAST_CAUSE 7. WURQ on an IO-Link channel out of safe state, without SERVICE power, none under way: WURQ_BUSY
is 1; WAKE_UP_END clears it and raises the channel's event. FIELD_INPUT_EDGE of an input, in a state in which field inputs are on,
that holds for FILT, the router no Eclipse trigger: the comparator has the new level, and the edge is reported. TRIP_CLEAR: the
trip ends, in FAULT_NOW and in FAULT. SAFE_HOLD_EXPIRY of a channel in safe state with SAFE = HOLD: its safe level is off. -/
def Obligations.FieldChannelCommands : Prop :=
  (∀ (s : State) (c : Nat) (who : By) (m : Nat), MayWrite s who (P.field (c % 64)) (chOff (c % 64) 0) → 
    ∃ t, exec (.modeWrite c who m) s = .next t ∧ t.ch F.FIELD_CH_CFG_MODE (c % 64) = m % 16) ∧
  (∀ (s : State) (c : Nat) (who : By) (b : Bool), MayWrite s who (P.field (c % 64)) (chOff (c % 64) 4) → s.ch F.FIELD_CH_OUT_RELEASE (c % 64) = 0 → 
    ∃ t, exec (.level c who b) s = .next t ∧ t.ch F.FIELD_CH_OUT_LEVEL (c % 64) = b2n b) ∧
  (∀ (s : State) (c : Nat) (who : By), MayWrite s who (P.field (c % 64)) (chOff (c % 64) 4) → (s.working = true ∧ s.service = false) → 
    ∃ t, exec (.channelRelease c who) s = .next t ∧ chSafe t (c % 64) = false) ∧
  (∀ (s : State) (c : Nat) (who : By), MayWrite s who (P.field (c % 64)) (chOff (c % 64) 4) → s.ch F.FIELD_CH_OUT_RELEASE (c % 64) = 0 → chSafe s (c % 64) = false → s.on P.ecl F.ECLIPSE_ECL_CFG_EV_EN = false → 
    ∃ t, exec (.forceSafe c who) s = .next t ∧ chSafe t (c % 64) = true ∧ t.rd P.fdie F.FDIE_FD_STAT_LAST_CAUSE = 7) ∧
  (∀ (s : State) (c : Nat) (who : By), MayWrite s who (P.field (c % 64)) (chOff (c % 64) 4) → s.service = false → s.ch F.FIELD_CH_OUT_RELEASE (c % 64) = 0 → chIsIol s (c % 64) = true → chSafe s (c % 64) = false → s.ch F.FIELD_CH_STAT_WURQ_BUSY (c % 64) = 0 → 
    ∃ t, exec (.wurq c who) s = .next t ∧ t.ch F.FIELD_CH_STAT_WURQ_BUSY (c % 64) = 1) ∧
  (∀ (s : State) (c : Nat), fieldOn s = true → c < 64 → s.ch F.FIELD_CH_STAT_WURQ_BUSY c = 1 → 
    ∃ t, exec (.wakeUpEnd c) s = .next t ∧ t.ch F.FIELD_CH_STAT_WURQ_BUSY c = 0 ∧ t.bit (P.field c) F.HDR_EV_STAT_EV (c % 8) = true) ∧
  (∀ (s : State) (c : Nat) (b : Bool) (x fr w : Nat), s.alive = true → c < 64 → fieldInputsOn s = true → chIsInput s c = true → 1000 * s.ch F.FIELD_CH_CFG_FILT c ≤ w → s.on P.ecl F.ECLIPSE_ECL_CFG_EV_EN = false → 
    ∃ t, exec (.fieldInputEdge c b x fr w) s = .next t ∧ (t.chan c).comp = b ∧ t.pub.edges = s.pub.edges ++ [(c, b, x)]) ∧
  (∀ (s : State) (c : Nat) (who : By), MayWrite s who (P.field (c % 64)) (chOff (c % 64) 8) → 
    ∃ t, exec (.tripClear c who) s = .next t ∧ chFaultNow t (c % 64) 3 = false ∧ bitOf (t.ch F.FIELD_CH_STAT_FAULT (c % 64)) 3 = false) ∧
  (∀ (s : State) (c : Nat), fieldOn s = true → c < 64 → chSafe s c = true → s.ch F.FIELD_CH_CFG_SAFE c = 1 → 
    ∃ t, exec (.safeHoldExpiry c) s = .next t ∧ chSafeLevel t c = false)

/-- Each sets its FAULT_NOW bit and raises the channel's event: OPEN (output, BREAK_EN), SHORT_VF (output, driver off), OVERLOAD
(driver on; its timer runs), THERMAL (driving mode; the driver is off) and BREAK (input, an IO-Link line in SIO input too,
BREAK_EN). TRIPPED once the OVERLOAD timer of a driver that is on runs out: FAULT_NOW has TRIPPED, the driver is off, and
CH_CNT.TRIPS counts it; TRIP_RETRY with AUTO_RETRY ends the trip. THERMAL_RECOVER and FAULT_NOW_CLEAR: the FAULT_NOW bit clears.
-/
def Obligations.FieldChannelFaults : Prop :=
  (∀ (s : State) (c : Nat), fieldOn s = true → c < 64 → chIsOutput s c = true → s.ch F.FIELD_CH_CFG_BREAK_EN c = 1 → 
    ∃ t, exec (.openLoad c) s = .next t ∧ chFaultNow t c 0 = true ∧ t.bit (P.field c) F.HDR_EV_STAT_EV (c % 8) = true) ∧
  (∀ (s : State) (c : Nat), fieldOn s = true → c < 64 → chIsOutput s c = true → chDriverOn s c = false → 
    ∃ t, exec (.shortVf c) s = .next t ∧ chFaultNow t c 1 = true ∧ t.bit (P.field c) F.HDR_EV_STAT_EV (c % 8) = true) ∧
  (∀ (s : State) (c : Nat), fieldOn s = true → c < 64 → chDrives s c = true → chDriverOn s c = true → 
    ∃ t, exec (.overload c) s = .next t ∧ chFaultNow t c 2 = true ∧ t.bit (P.field c) F.HDR_EV_STAT_EV (c % 8) = true ∧ (t.chan c).ovl = true) ∧
  (∀ (s : State) (c : Nat), fieldOn s = true → c < 64 → chDrives s c = true → chFaultNow s c 4 = false → 
    ∃ t, exec (.thermal c) s = .next t ∧ chFaultNow t c 4 = true ∧ t.bit (P.field c) F.HDR_EV_STAT_EV (c % 8) = true ∧ chDriverOn t c = false) ∧
  (∀ (s : State) (c : Nat), fieldOn s = true → c < 64 → chIsInput s c = true → s.ch F.FIELD_CH_CFG_BREAK_EN c = 1 → 
    ∃ t, exec (.wireBreak c) s = .next t ∧ chFaultNow t c 5 = true ∧ t.bit (P.field c) F.HDR_EV_STAT_EV (c % 8) = true) ∧
  (∀ (s : State) (c : Nat), fieldOn s = true → c < 64 → chDrives s c = true → chDriverOn s c = true → (s.chan c).ovl = true → 
    ∃ t, exec (.tripped c) s = .next t ∧ chFaultNow t c 3 = true ∧ chDriverOn t c = false ∧
      t.ch F.FIELD_CH_CNT_TRIPS c = satAdd 16 (s.ch F.FIELD_CH_CNT_TRIPS c) 1) ∧
  (∀ (s : State) (c : Nat), fieldOn s = true → c < 64 → chFaultNow s c 3 = true → s.ch F.FIELD_CH_CFG_AUTO_RETRY c = 1 → 
    ∃ t, exec (.tripRetry c) s = .next t ∧ chFaultNow t c 3 = false) ∧
  (∀ (s : State) (c : Nat), fieldOn s = true → c < 64 → chFaultNow s c 4 = true → 
    ∃ t, exec (.thermalRecover c) s = .next t ∧ chFaultNow t c 4 = false) ∧
  (∀ (s : State) (c k : Nat), fieldOn s = true → c < 64 → (k = 0 ∨ k = 1 ∨ k = 2 ∨ k = 5) → 
    ∃ t, exec (.faultNowClear c k) s = .next t ∧ chFaultNow t c k = false)

/-- VF_UV and VF_REV not yet noted: their FD_STAT bit is 1 and every channel has the SUPPLY fault; VF_RECOVER takes all away.
OVERTEMP: FD_STAT.OVERTEMP is 1 and no channel drives; OVERTEMP_CLEAR clears it. ENCODER_EDGE whose changes that FILT passes count
d: ENC_COUNT moves by d modulo 2^32; an illegal transition sets ERR_SEEN and counts in ENC_ERRS. Z_EDGE: ENC_ZLATCH takes the
count. ENCODER_BREAK of a judged line: BREAK and BREAK_SEEN are 1; ENCODER_BREAK_CLEAR clears BREAK. CLK_LOST: its bit is 1 and no
encoder counts; FIELD_CLOCK_RESTORED clears it and resumes from the levels of the lines. ADC_ROUND: of a scanned input (7 is
reserved) a round short of 2^AVG joins the sum; the one that completes it makes the result valid, with the rounded mean.
FIFO_READ: the oldest entry goes, with VALID, its input and its value. -/
def Obligations.FieldSupplyEncodersAndAdc : Prop :=
  (∀ (s : State) (c : Nat), fieldOn s = true → c < 64 → s.on P.fdie F.FDIE_FD_STAT_VF_UV = false → 
    ∃ t, exec .vfUv s = .next t ∧ t.rd P.fdie F.FDIE_FD_STAT_VF_UV = 1 ∧ chFaultNow t c 6 = true) ∧
  (∀ (s : State) (c : Nat), fieldOn s = true → c < 64 → s.on P.fdie F.FDIE_FD_STAT_VF_REV = false → 
    ∃ t, exec .vfRev s = .next t ∧ t.rd P.fdie F.FDIE_FD_STAT_VF_REV = 1 ∧ chFaultNow t c 6 = true) ∧
  (∀ (s : State) (c : Nat), fieldOn s = true → c < 64 → 
    ∃ t, exec .vfRecover s = .next t ∧ t.rd P.fdie F.FDIE_FD_STAT_VF_UV = 0 ∧ t.rd P.fdie F.FDIE_FD_STAT_VF_REV = 0 ∧ chFaultNow t c 6 = false) ∧
  (∀ (s : State) (c : Nat), fieldOn s = true → c < 64 → s.on P.fdie F.FDIE_FD_STAT_OVERTEMP = false → 
    ∃ t, exec .overtemp s = .next t ∧ t.rd P.fdie F.FDIE_FD_STAT_OVERTEMP = 1 ∧ chDriverOn t c = false) ∧
  (∀ (s : State), fieldOn s = true → s.on P.fdie F.FDIE_FD_STAT_OVERTEMP = true → 
    ∃ t, exec .overtempClear s = .next t ∧ t.rd P.fdie F.FDIE_FD_STAT_OVERTEMP = 0) ∧
  (∀ (s : State) (e : Nat) (a b : Bool) (ed : EncEdge) (d : Int), fieldOn s = true → e < 4 → encCounts s e = true → encDelta (encMode s e) (s.field.encs.at {} e).a (s.field.encs.at {} e).b (if encPasses s e ed.holdA then a else (s.field.encs.at {} e).a)
      (if encPasses s e ed.holdB then b else (s.field.encs.at {} e).b) = some d → d ≠ 0 → 
    ∃ t, exec (.encoderEdge e a b ed) s = .next t ∧ t.rd P.enc (F.ENCODER_ENC_COUNT_C e) = ofSigned 32 (s.rd P.enc (F.ENCODER_ENC_COUNT_C e) + d)) ∧
  (∀ (s : State) (e : Nat) (a b : Bool) (ed : EncEdge), fieldOn s = true → e < 4 → encCounts s e = true → encDelta (encMode s e) (s.field.encs.at {} e).a (s.field.encs.at {} e).b (if encPasses s e ed.holdA then a else (s.field.encs.at {} e).a)
      (if encPasses s e ed.holdB then b else (s.field.encs.at {} e).b) = none → 
    ∃ t, exec (.encoderEdge e a b ed) s = .next t ∧ t.rd P.enc (F.ENCODER_ENC_STAT_ERR_SEEN e) = 1 ∧
      t.rd P.enc (F.ENCODER_ENC_ERRS_N e) = satAdd (F.ENCODER_ENC_ERRS_N e).width (s.rd P.enc (F.ENCODER_ENC_ERRS_N e)) 1) ∧
  (∀ (s : State) (e : Nat), fieldOn s = true → e < 4 → encCounts s e = true → 
    ∃ t, exec (.zEdge e) s = .next t ∧ t.rd P.enc (F.ENCODER_ENC_ZLATCH_C e) = s.rd P.enc (F.ENCODER_ENC_COUNT_C e) % 2 ^ 32) ∧
  (∀ (s : State) (e l : Nat), fieldOn s = true → e < 4 → (l &&& breakLines s e) ≠ 0 → 
    ∃ t, exec (.encoderBreak e l) s = .next t ∧ t.rd P.enc (F.ENCODER_ENC_STAT_BREAK e) = 1 ∧ t.rd P.enc (F.ENCODER_ENC_STAT_BREAK_SEEN e) = 1) ∧
  (∀ (s : State) (e : Nat), fieldOn s = true → e < 4 → s.on P.enc (F.ENCODER_ENC_STAT_BREAK e) = true → 
    ∃ t, exec (.encoderBreakClear e) s = .next t ∧ t.rd P.enc (F.ENCODER_ENC_STAT_BREAK e) = 0) ∧
  (∀ (s : State) (e : Nat), fieldOn s = true → s.on P.fdie F.FDIE_FD_STAT_CLK_LOST = false → 
    ∃ t, exec .clkLost s = .next t ∧ t.rd P.fdie F.FDIE_FD_STAT_CLK_LOST = 1 ∧ encCounts t e = false) ∧
  (∀ (s : State) (l e : Nat), fieldOn s = true → e < 4 → s.on P.fdie F.FDIE_FD_STAT_CLK_LOST = true → 
    ∃ t, exec (.fieldClockRestored l) s = .next t ∧ t.rd P.fdie F.FDIE_FD_STAT_CLK_LOST = 0 ∧
      (t.field.encs.at {} e).a = bitOf l (2 * e) ∧ (t.field.encs.at {} e).b = bitOf l (2 * e + 1)) ∧
  (∀ (s : State) (r : List (Nat × Nat × Int)) (i j raw : Nat) (v : Int), fieldOn s = true → (i < 24 ∧ i ≠ 7) → s.bit P.adc F.ADC_SCAN_EN i = true → (r.find? fun e => e.1 == i) = some (j, raw, v) → 
    ∃ t, exec (.adcRound r) s = .next t ∧
      (let m := s.field.means.at (0, 0, 0) i
       if m.1 + 1 < 2 ^ s.rd P.adc F.ADC_ADC_CFG_AVG then t.field.means.at (0, 0, 0) i = (m.1 + 1, m.2.1 + raw % 4096, m.2.2 + v)
       else t.rd P.adc (F.ADC_RESULT_VALID i) = 1 ∧ t.rd P.adc (F.ADC_RESULT_RAW i) =
         (rnd Rnd.adcMean (((m.2.1 + raw % 4096 : Nat) : Rat) / (m.1 + 1 : Nat))).toNat % 4096)) ∧
  (∀ (s : State) (who : By) (i v : Nat) (r : List (Nat × Nat)), s.alive = true → s.stitch.down = false → tapShut s who P.adc = false → s.field.fifo = (i, v) :: r → 
    ∃ t, exec (.fifoRead who) s = .next t ∧ t.field.fifo = r ∧ t.stitch.readBack.at 0 (armWho who) = 2 ^ 31 + i * 2 ^ 24 + v)

/-- MB_SEL: MB_SEL_MBOX takes the mailbox, and MB_STAT.STATE its state. LOAD and ARM of an EMPTY or COMPLETE mailbox with a good
staged frame, while CAN runs: MB_RES says OK, and the mailbox is READY or ARMED; CLEAR of one that is not ACTIVE, while CAN runs:
OK, EMPTY. MB_CANCEL of a READY or ARMED mailbox: COMPLETE, CANCELLED. CAN_SOF on a channel that takes part, not bus-off, and
sends, no frame under way or in reception, for the mailbox that is chosen: it is ACTIVE, TX_ACTIVE is 1, and the attempt is its
own; where its data meet an ECC error: COMPLETE, DATA_ERR, and no attempt. CAN_FRAME_SENT: the mailbox is COMPLETE, DONE; CNT_TX
counts it. CAN_ATTEMPT_FAILED by lost arbitration: the attempt ends and CNT_ARB_LOST counts it; by an error short of bus-off: the
attempt ends, LAST_ERR has its code with TX 1. -/
def Obligations.CanMailboxes : Prop :=
  (∀ (s : State) (c : Nat) (who : By) (m : Nat), MayWrite s who (P.can (c % 8)) 0x100 → 
    ∃ t, exec (.mbSel c who m) s = .next t ∧ t.cn (c % 8) F.CAN_MB_SEL_MBOX = m % 32 ∧
      t.cn (c % 8) F.CAN_MB_STAT_STATE = (mbox s (c % 8) (m % 32)).st.code) ∧
  (∀ (s : State) (c : Nat) (who : By) (m : Nat), MayWrite s who (P.can (c % 8)) 0x104 → canAllowed s = true → s.cn (c % 8) F.CAN_MB_SEL_MBOX = m → ((mbox s (c % 8) m).st = .empty ∨ (mbox s (c % 8) m).st = .complete) → canBadFmt s (c % 8) (canStaged s (c % 8)) = false → 
    ∃ t, exec (.mbLoad c who) s = .next t ∧ t.cn (c % 8) F.CAN_MB_RES_RESULT = 1 ∧ (mbox t (c % 8) m).st = .ready) ∧
  (∀ (s : State) (c : Nat) (who : By) (m : Nat), MayWrite s who (P.can (c % 8)) 0x104 → canAllowed s = true → s.cn (c % 8) F.CAN_MB_SEL_MBOX = m → ((mbox s (c % 8) m).st = .empty ∨ (mbox s (c % 8) m).st = .complete) → canBadFmt s (c % 8) (canStaged s (c % 8)) = false → 
    ∃ t, exec (.mbArm c who) s = .next t ∧ t.cn (c % 8) F.CAN_MB_RES_RESULT = 1 ∧ (mbox t (c % 8) m).st = .armed) ∧
  (∀ (s : State) (c : Nat) (who : By) (m : Nat), MayWrite s who (P.can (c % 8)) 0x104 → canAllowed s = true → s.cn (c % 8) F.CAN_MB_SEL_MBOX = m → (mbox s (c % 8) m).st ≠ .active → 
    ∃ t, exec (.mbClear c who) s = .next t ∧ t.cn (c % 8) F.CAN_MB_RES_RESULT = 1 ∧ mbox t (c % 8) m = {}) ∧
  (∀ (s : State) (c : Nat) (who : By) (m k : Nat), MayWrite s who (P.can (c % 8)) 0x080 → k < 32 → bitOf m k = true → ((mbox s (c % 8) k).st = .ready ∨ (mbox s (c % 8) k).st = .armed) → 
    ∃ t, exec (.mbCancel c who m) s = .next t ∧ (mbox t (c % 8) k).st = .complete ∧ (mbox t (c % 8) k).result = MR.cancelled) ∧
  (∀ (s : State) (c x m : Nat) (d : Option Nat), s.alive = true → c < 8 → canTakesPart s c = true → canErr s c ≤ 1 → (can s c).att = none → (can s c).rx = none → (s.cn c F.CAN_CAN_CFG_LISTEN_ONLY = 0 ∧ s.cn c F.CAN_CAN_CFG_RESTRICTED = 0) → tunHead s c = none → canChoose (s.atTime x) c x = some (some m) → 
    ∃ t, exec (.canSof c x d) s = .next t ∧
      (d.isSome = true → (can t c).att = some (some m) ∧ (mbox t c m).st = .active ∧ t.cn c F.CAN_STATUS_TX_ACTIVE = 1) ∧
      (d = none → (can t c).att = none ∧ (mbox t c m).st = .complete ∧ (mbox t c m).result = MR.dataErr)) ∧
  (∀ (s : State) (c m : Nat), s.alive = true → c < 8 → (can s c).att = some (some m) → 
    ∃ t, exec (.canFrameSent c) s = .next t ∧ (can t c).att = none ∧ (mbox t c m).st = .complete ∧ (mbox t c m).result = MR.done ∧
      t.cn c F.CAN_CNT_TX_N = satAdd F.CAN_CNT_TX_N.width (s.cn c F.CAN_CNT_TX_N) 1) ∧
  (∀ (s : State) (c : Nat) (a b : Bool), s.alive = true → c < 8 → (can s c).att ≠ none → 
    ∃ t, exec (.canAttemptFailed c 0 a b) s = .next t ∧ (can t c).att = none ∧
      t.cn c F.CAN_CNT_ARB_LOST_N = satAdd F.CAN_CNT_ARB_LOST_N.width (s.cn c F.CAN_CNT_ARB_LOST_N) 1) ∧
  (∀ (s : State) (c k : Nat) (a b : Bool), s.alive = true → c < 8 → (can s c).att ≠ none → k ≠ 0 → s.cn c F.CAN_ERR_STAT_TEC + 8 ≤ 255 → 
    ∃ t, exec (.canAttemptFailed c k a b) s = .next t ∧ (can t c).att = none ∧ t.cn c F.CAN_LAST_ERR_CODE = k % 2 ^ F.CAN_LAST_ERR_CODE.width ∧
      t.cn c F.CAN_LAST_ERR_TX = 1)

/-- BUS_OFF with TEC above 255: the attempt ends, the channel is bus-off or recovering, and CNT_BUSOFF counts it; RECOVER at
bus-off: RECOVERING; RECOVERY_END: error-active with TEC 0. CAN_WINDOW_END of an EXCLUSIVE window whose scheduled mailbox stands
READY: CNT_WIN_MISSED counts it; with WIN_ABORT it completes ABORT_WINDOW. CAN_FRAME_RECEIVED, a whole frame of a format that
PROTO takes, on a channel that takes part, not bus-off and not in LOOPBACK, that a storing filter matches, its receive queue with
room and not OVERWRITE: CNT_RX counts it, the router no Eclipse trigger. TUNNEL_FIELD of KIND 0 whose stream a TIN entry of
channel c takes, its TUN_QUEUE with room and not OVERWRITE: the frame's data stand there. RECEIVE_ERROR on a channel that takes
part, not bus-off and not in LOOPBACK: LAST_ERR has its code with TX 0, and CNT_ERR counts it. BUS_INTEGRATION: an enabled channel
takes part from now on. -/
def Obligations.CanBus : Prop :=
  (∀ (s : State) (c : Nat), s.alive = true → c < 8 → 255 < s.cn c F.CAN_ERR_STAT_TEC → canErr s c ≤ 1 → 
    ∃ t, exec (.busOff c) s = .next t ∧ (can t c).att = none ∧ 2 ≤ canErr t c ∧
      t.cn c F.CAN_CNT_BUSOFF_N = satAdd F.CAN_CNT_BUSOFF_N.width (s.cn c F.CAN_CNT_BUSOFF_N) 1) ∧
  (∀ (s : State) (c : Nat) (who : By), MayWrite s who (P.can (c % 8)) 0x060 → canErr s (c % 8) = 2 → 
    ∃ t, exec (.recover c who) s = .next t ∧ canErr t (c % 8) = 3) ∧
  (∀ (s : State) (c : Nat), s.alive = true → c < 8 → canErr s c = 3 → 
    ∃ t, exec (.recoveryEnd c) s = .next t ∧ canErr t c = 0 ∧ t.cn c F.CAN_ERR_STAT_TEC = 0) ∧
  (∀ (s : State) (c w x m : Nat), s.alive = true → c < 8 → w < 16 → s.cn c F.CAN_SCHED_CFG_EN = 1 → s.cn c (F.CAN_WIN_A_KIND w) = 1 → lowestBit (s.cn c (F.CAN_WIN_B_MASK w)) = some m → ((mbox s c m).st = .ready ∧ (mbox s c m).f.sched = true) → 
    ∃ t, exec (.canWindowEnd c w x) s = .next t ∧
      t.cn c F.CAN_CNT_WIN_MISSED_N = satAdd F.CAN_CNT_WIN_MISSED_N.width (s.cn c F.CAN_CNT_WIN_MISSED_N) 1 ∧
      ((mbox s c m).f.winAbort = true → (mbox t c m).result = MR.abortWindow)) ∧
  (∀ (s : State) (c x : Nat) (f : CanRx) (k q : Nat), s.alive = true → c < 8 → canTakesPart s c = true → s.cn c F.CAN_CAN_CFG_LOOPBACK = 0 → canErr s c ≤ 1 → f.start = false → f.fmt ≤ canProto s c → s.on P.ecl F.ECLIPSE_ECL_CFG_EV_EN = false → canFilter s c { ide := f.ide, rtr := f.rtr, id := f.id, fmt := f.fmt, brs := f.brs, len := f.data.length, sdt := f.sdt, vcid := f.vcid, sec := f.sec, af := f.af, data := f.data } = some k → (s.cn c (F.CAN_FLT_ACT_STORE k) = 1 ∧ s.cn c (F.CAN_FLT_ACT_TUN k) = 0) → canRxq s c (s.cn c (F.CAN_FLT_ACT_RXQ k)) = q → (112 ≤ q ∧ q < 1024 ∧ qType s q ≠ 0) → s.on (P.queue q) (F.QUEUE_Q_CFG_OVERWRITE (q % 16)) = false → admits s q (itemCells 24 f.data.length) = 1 → 
    ∃ t, exec (.canFrameReceived c x f) s = .next t ∧ t.cn c F.CAN_CNT_RX_N = satAdd F.CAN_CNT_RX_N.width (s.cn c F.CAN_CNT_RX_N) 1) ∧
  (∀ (s : State) (f : Frame) (c q : Nat), s.alive = true → canAllowed s = true → (f.typ = 0xA ∧ f.w3 / 2 ^ 28 = 0) → ((List.range 8).find? fun c => (List.range 8).any fun i => s.cn c (F.CAN_TIN_EN i) == 1 &&
      s.cn c (F.CAN_TIN_STREAM i) == f.w3 / 2 ^ 16 % 256 && (s.cn c (F.CAN_TIN_ANY_SRC i) == 1 || s.cn c (F.CAN_TIN_SRC i) == f.src)) = some c → s.cn c F.CAN_AUX_Q_TUN_QUEUE = q → (112 ≤ q ∧ q < 1024 ∧ qType s q ≠ 0) → s.on (P.queue q) (F.QUEUE_Q_CFG_OVERWRITE (q % 16)) = false → admits s q (itemCells (headBytes f).length f.pay.length) = 1 → 
    ∃ t, exec (.tunnelField f) s = .next t ∧ ((queueSt t q).items.any fun x => x.tag == c && x.src == f.src && x.data == f.pay) = true) ∧
  (∀ (s : State) (c k : Nat) (b : Bool) (d : Nat), s.alive = true → c < 8 → canTakesPart s c = true → s.cn c F.CAN_CAN_CFG_LOOPBACK = 0 → canErr s c ≤ 1 → 
    ∃ t, exec (.receiveError c k b d) s = .next t ∧ t.cn c F.CAN_LAST_ERR_CODE = k % 2 ^ F.CAN_LAST_ERR_CODE.width ∧ t.cn c F.CAN_LAST_ERR_TX = 0 ∧
      t.cn c F.CAN_CNT_ERR_N = satAdd F.CAN_CNT_ERR_N.width (s.cn c F.CAN_CNT_ERR_N) 1) ∧
  (∀ (s : State) (c : Nat), s.alive = true → c < 8 → canAllowed s = true → s.enabled (P.can c) = true → s.stopReq (P.can c) = false → 
    ∃ t, exec (.busIntegration c) s = .next t ∧ canTakesPart t c = true)

/-- Each when it is the instruction at the engine's PC. JUMP: PC is TO where the condition holds, else the slot that follows. The
others go on at the slot that follows. WAIT SIG at the wanted level of its signal, and the engine is not STALLED. WAIT TRIG with
its flag set: the flag clears. WAIT TICK after a tick instant. SET LEVELS: an owned signal of the window takes its bit as level;
SET DRIVES: an owned GPIO as output enable. SET SR: SR is the immediate and SHIFT_CNT 0. SET FLAG: USER is the immediate, and the
engine raises its event. CMP LOADI and LOADR: V takes the immediate or PRESET. DEC: V less 1 modulo 2^32, Z where it is 0. MATCH:
Z where SR under MASK is V. TAKEQ: V takes the oldest OUTQ word, which leaves. -/
def Obligations.PioInstructions : Prop :=
  (∀ (s : State) (e w : Nat) (b : Bool), pioAt s e .jump w = true → 
    ∃ t, exec (.jump e b) s = .next t ∧ pioPC t e = if pioIf s e b (bitsOf w 13 3) then bitsOf w 7 5 else pioFollow s e) ∧
  (∀ (s : State) (e w : Nat) (b : Bool), pioAt s e .waitSig w = true → pioIn s (s.rd (P.pio e) F.PIO_WINDOWS_B_SI_FIRST + bitsOf w 7 6) b = bitOf w 13 → 
    ∃ t, exec (.waitSig e b) s = .next t ∧ pioPC t e = pioFollow s e ∧ t.rd (P.pio e) F.PIO_ENG_STAT_STALLED = 0) ∧
  (∀ (s : State) (e w : Nat), pioAt s e .waitTrig w = true → s.bit (P.pio e) F.PIO_TRIG_PENDING (bitsOf w 7 2) = true → 
    ∃ t, exec (.waitTrig e) s = .next t ∧ pioPC t e = pioFollow s e ∧ t.bit (P.pio e) F.PIO_TRIG_PENDING (bitsOf w 7 2) = false) ∧
  (∀ (s : State) (e w : Nat) (n : Nat), pioAt s e .waitTick w = true → (s.eng e).waitFrom = some n → n < s.ticks → 
    ∃ t, exec (.waitTick e) s = .next t ∧ pioPC t e = pioFollow s e) ∧
  (∀ (s : State) (e w : Nat) (k : Nat), pioAt s e .setLevels w = true → k < s.rd (P.pio e) F.PIO_WINDOWS_A_ST_WIDTH → pioOwns s e (s.rd (P.pio e) F.PIO_WINDOWS_A_ST_FIRST + k) = true → s.rd (P.pio e) F.PIO_WINDOWS_A_ST_FIRST + k < 160 → 
    ∃ t, exec (.setLevels e) s = .next t ∧ pioPC t e = pioFollow s e ∧ (t.sig (s.rd (P.pio e) F.PIO_WINDOWS_A_ST_FIRST + k)).latch = bitOf w (7 + k)) ∧
  (∀ (s : State) (e w : Nat) (k : Nat), pioAt s e .setDrives w = true → k < s.rd (P.pio e) F.PIO_WINDOWS_A_ST_WIDTH → pioOwns s e (s.rd (P.pio e) F.PIO_WINDOWS_A_ST_FIRST + k) = true → s.rd (P.pio e) F.PIO_WINDOWS_A_ST_FIRST + k < 96 → 
    ∃ t, exec (.setDrives e) s = .next t ∧ pioPC t e = pioFollow s e ∧ (t.sig (s.rd (P.pio e) F.PIO_WINDOWS_A_ST_FIRST + k)).oe = bitOf w (7 + k)) ∧
  (∀ (s : State) (e w : Nat), pioAt s e .setSr w = true → 
    ∃ t, exec (.setSr e) s = .next t ∧ pioPC t e = pioFollow s e ∧ t.rd (P.pio e) F.PIO_SR_SR = bitsOf w 7 7 ∧ t.rd (P.pio e) F.PIO_ENG_STAT_SHIFT_CNT = 0) ∧
  (∀ (s : State) (e w : Nat), pioAt s e .setFlag w = true → 
    ∃ t, exec (.setFlag e) s = .next t ∧ pioPC t e = pioFollow s e ∧ t.rd (P.pio e) F.PIO_ENG_STAT_USER = bitsOf w 7 4 ∧ t.bit (P.pio e) F.HDR_EV_STAT_EV 0 = true) ∧
  (∀ (s : State) (e w : Nat), pioAt s e .loadi w = true → 
    ∃ t, exec (.cmpLoadi e) s = .next t ∧ pioPC t e = pioFollow s e ∧ t.rd (P.pio e) F.PIO_CMP_V_V = bitsOf w 7 6) ∧
  (∀ (s : State) (e w : Nat), pioAt s e .loadr w = true → 
    ∃ t, exec (.cmpLoadr e) s = .next t ∧ pioPC t e = pioFollow s e ∧ t.rd (P.pio e) F.PIO_CMP_V_V = s.rd (P.pio e) F.PIO_CMP_PRESET_V % 2 ^ 32) ∧
  (∀ (s : State) (e w : Nat), pioAt s e .dec w = true → 
    ∃ t, exec (.cmpDec e) s = .next t ∧ pioPC t e = pioFollow s e ∧ t.rd (P.pio e) F.PIO_CMP_V_V = (s.rd (P.pio e) F.PIO_CMP_V_V + 4294967295) % 2 ^ 32 ∧ t.rd (P.pio e) F.PIO_ENG_STAT_Z = b2n (t.rd (P.pio e) F.PIO_CMP_V_V == 0)) ∧
  (∀ (s : State) (e w : Nat), pioAt s e .mtch w = true → 
    ∃ t, exec (.cmpMatch e) s = .next t ∧ pioPC t e = pioFollow s e ∧ t.rd (P.pio e) F.PIO_ENG_STAT_Z = b2n ((s.rd (P.pio e) F.PIO_SR_SR &&& s.rd (P.pio e) F.PIO_CMP_MASK_M) == s.rd (P.pio e) F.PIO_CMP_V_V)) ∧
  (∀ (s : State) (e w : Nat) (v : Nat) (r : List Nat), pioAt s e .takeq w = true → (s.eng e).outq = v :: r → 
    ∃ t, exec (.cmpTakeq e) s = .next t ∧ pioPC t e = pioFollow s e ∧ t.rd (P.pio e) F.PIO_CMP_V_V = v % 2 ^ 32 ∧ (t.eng e).outq = r)

/-- SHIFT_OUT by n, LSB first: SR loses its n low bits and SHIFT_CNT grows by n up to 32. SHIFT_IN of n signals, LSB first: SR
moves down n and takes their levels at its top. PULL of the oldest OUTQ word, which leaves: SR takes it, SHIFT_CNT is 0. PUSH with
room: INQ gains SR. OUTQ_W with fewer than 8 words: OUTQ gains the word. INQ_R: the oldest INQ word goes to the reader.
TRIG_FORCE: the trigger flags of the mask are set. FLUSH_OUTQ and FLUSH_INQ of a stopped engine: the queue is empty. ENGINE_START
of an engine that may run: RUNNING is 1 and STOPPED 0. INSTR_WRITE to a slot of a stopped engine: the slot holds the word. -/
def Obligations.PioShiftsQueuesAndProgram : Prop :=
  (∀ (s : State) (e w : Nat), pioAt s e .shiftOut w = true → s.on (P.pio e) F.PIO_ENG_CFG_SO_ORDER = false → 
    ∃ t, exec (.shiftOut e) s = .next t ∧ pioPC t e = pioFollow s e ∧ t.rd (P.pio e) F.PIO_SR_SR = s.rd (P.pio e) F.PIO_SR_SR / 2 ^ (bitsOf w 7 5 + 1) % 2 ^ 32 ∧ t.rd (P.pio e) F.PIO_ENG_STAT_SHIFT_CNT = min 32 (s.rd (P.pio e) F.PIO_ENG_STAT_SHIFT_CNT + bitsOf w 7 5 + 1)) ∧
  (∀ (s : State) (e w : Nat) (l : Nat), pioAt s e .shiftIn w = true → s.on (P.pio e) F.PIO_ENG_CFG_SI_ORDER = false → 
    ∃ t, exec (.shiftIn e l) s = .next t ∧ pioPC t e = pioFollow s e ∧ t.rd (P.pio e) F.PIO_SR_SR = (s.rd (P.pio e) F.PIO_SR_SR / 2 ^ (bitsOf w 7 5 + 1) + pioInVal s (s.rd (P.pio e) F.PIO_WINDOWS_B_SI_FIRST) l (bitsOf w 7 5 + 1) * 2 ^ (32 - (bitsOf w 7 5 + 1))) % 2 ^ 32) ∧
  (∀ (s : State) (e w : Nat) (v : Nat) (r : List Nat), pioAt s e .pull w = true → (s.eng e).outq = v :: r → 
    ∃ t, exec (.pull e) s = .next t ∧ pioPC t e = pioFollow s e ∧ t.rd (P.pio e) F.PIO_SR_SR = v % 2 ^ 32 ∧ t.rd (P.pio e) F.PIO_ENG_STAT_SHIFT_CNT = 0 ∧ (t.eng e).outq = r) ∧
  (∀ (s : State) (e w : Nat), pioAt s e .push w = true → (s.eng e).inq.length < 8 → 
    ∃ t, exec (.pioPush e) s = .next t ∧ pioPC t e = pioFollow s e ∧ (t.eng e).inq = (s.eng e).inq ++ [s.rd (P.pio e) F.PIO_SR_SR]) ∧
  (∀ (s : State) (e : Nat) (who : By) (v : Nat), MayWrite s who (P.pio (e % 24)) 0x05C → (s.eng (e % 24)).outq.length < 8 → 
    ∃ t, exec (.outqW e who v) s = .next t ∧ (t.eng (e % 24)).outq = (s.eng (e % 24)).outq ++ [v % 2 ^ 32]) ∧
  (∀ (s : State) (e : Nat) (who : By) (v : Nat) (r : List Nat), s.alive = true → tapShut s who (P.pio (e % 24)) = false → (s.eng (e % 24)).inq = v :: r → 
    ∃ t, exec (.inqR e who) s = .next t ∧ (t.eng (e % 24)).inq = r ∧ t.stitch.readBack.at 0 (armWho who) = v) ∧
  (∀ (s : State) (e : Nat) (who : By) (m k : Nat), MayWrite s who (P.pio (e % 24)) 0x074 → k < 4 → bitOf m k = true → 
    ∃ t, exec (.trigForce e who m) s = .next t ∧ t.bit (P.pio (e % 24)) F.PIO_TRIG_PENDING k = true) ∧
  (∀ (s : State) (e : Nat) (who : By), MayWrite s who (P.pio (e % 24)) 0x078 → s.stopped (P.pio (e % 24)) = true → 
    ∃ t, exec (.flushOutq e who) s = .next t ∧ (t.eng (e % 24)).outq = []) ∧
  (∀ (s : State) (e : Nat) (who : By), MayWrite s who (P.pio (e % 24)) 0x078 → s.stopped (P.pio (e % 24)) = true → 
    ∃ t, exec (.flushInq e who) s = .next t ∧ (t.eng (e % 24)).inq = []) ∧
  (∀ (s : State) (e : Nat), s.alive = true → e < 24 → pioRunning s e = false → pioMayRun s e = true → 
    ∃ t, exec (.engineStart e) s = .next t ∧ pioRunning t e = true ∧ t.stopped (P.pio e) = false) ∧
  (∀ (s : State) (e : Nat) (who : By) (k v : Nat), MayWrite s who (P.pio (e % 24)) (0x100 + 4 * k) → k < 32 → s.stopped (P.pio (e % 24)) = true → 
    ∃ t, exec (.instrWrite e who k v) s = .next t ∧ pioInstr t (e % 24) k = v % 2 ^ 16)

/-- ETH_FRAME_RECEIVED on a link that is up, good and within MAX_LEN, an 802.1AS frame, RX_QUEUE with room and not OVERWRITE: the
frame stands in RX_QUEUE, and RX_FRAMES counts it. TUNNEL_ETH, unicast to this node, wholly received, taken by TIN entry k of port
m, not a broadcast and not untagged, with room: the queue of its class at that port has one frame more, and CNT_SF counts it.
TX_CTRL of a good frame in DATA RAM, in a working state, the port up and with room: TX_STAT says QUEUED. ETH_LINK_CHANGE, up only
at a rate that IFACE, AN_EN and SPEED allow: LINK_STAT shows it, and event 0 is raised. AS_OFF_HI: it holds what is written, and
AS_STAT.VALID is 1; AS_TIMEOUT after AS_TMO: VALID is 0, with event 1. UART_CHARACTER in MODE 1 and DELIM 0, without error, short
of MAX_LEN: it joins the packet in reception. UART_GAP: no packet is in reception; one that is kept counts in RX_N. U_TX of 1 to
2,048 bytes in DATA RAM, none waiting or under way, in MODE 1: TX_RES says STARTED, and the packet is under way. UART_TX_END: it
is sent; CNT_TX counts it. -/
def Obligations.EthernetAndUarts : Prop :=
  (∀ (s : State) (m : Nat) (b : List Nat) (x q : Nat), m < 4 → ethOn s = true → s.on (P.eth m) F.ETH_LINK_STAT_UP = true → (14 ≤ b.length ∧ b.length + 4 ≤ ethMax s m) → (tagged b = true ∧ etherType b = 0x88F7) → s.et m F.ETH_QUEUES_RX_QUEUE = q → (112 ≤ q ∧ q < 1024 ∧ qType s q ≠ 0) → s.on (P.queue q) (F.QUEUE_Q_CFG_OVERWRITE (q % 16)) = false → admits s q (itemCells 8 b.length) = 1 → 
    ∃ t, exec (.ethFrameReceived m b true x) s = .next t ∧ ((queueSt t q).items.any fun e => e.tag == m && e.data == b) = true ∧
      t.et m F.ETH_RX_FRAMES_N = satAdd F.ETH_RX_FRAMES_N.width (s.et m F.ETH_RX_FRAMES_N) 1) ∧
  (∀ (s : State) (i : Nat) (f : Frame) (d : TunRx) (m k : Nat), lanesOn s = true → i < 4 → deliversLocal s = true → f.typ = 9 → (f.mc = false ∧ isOwn s f.dst = true) → ((s.lane i).tun = some d ∧ d.frame = f ∧ d.ended = true) → tinMatch s (List.range 4) f = some (m, k) → (ethBroadcast f.pay = false ∧ bitOf f.w3 15 = false ∧ s.et m (F.ETH_TIN_UNTAG k) = 0) → portDown s (4 + m) = false → admits s (outQueue (4 + m) f.cls) (ringCells f) = 1 →
    ∃ t, exec (.tunnelEth i f) s = .next t ∧ (swQueue t (outQueue (4 + m) f.cls)).length = (swQueue s (outQueue (4 + m) f.cls)).length + 1 ∧
      t.rd P.switch F.SWITCH_CNT_SF_N = satAdd F.SWITCH_CNT_SF_N.width (s.rd P.switch F.SWITCH_CNT_SF_N) 1) ∧
  (∀ (s : State) (m : Nat) (who : By) (b : Bool) (n o c : Nat), MayWrite s who (P.eth (m % 4)) 0x07C → s.working = true → ethOn s = true → (14 ≤ n ∧ n + 4 ≤ ethMax s (m % 4)) → (s.rdi (P.eth (m % 4)) F.ETH_TX_ADDR_OFFSET (iniIdx who.ini) = o ∧ o + n ≤ 0x200000) → portDown s (4 + m % 4) = false → pcpClass s (m % 4) (if tagged (s.memRead (0x10200000 + o) n) then pcpOf (s.memRead (0x10200000 + o) n) else s.et (m % 4) F.ETH_VLAN_CFG_DEF_PCP) = c → admits s (outQueue (4 + m % 4) c) (ceilDiv (n + 4) 256) = 1 → 
    ∃ t, exec (.txCtrl m who b n) s = .next t ∧ t.et (m % 4) F.ETH_TX_STAT_STATUS = 1) ∧
  (∀ (s : State) (m : Nat) (b : Bool) (v w : Nat), m < 4 → ethOn s = true → (if b then ethSpeed s m v else some (s.et m F.ETH_LINK_STAT_SPEED)) = some w → 
    ∃ t, exec (.ethLinkChange m b v) s = .next t ∧ t.et m F.ETH_LINK_STAT_UP = b2n b ∧ t.et m F.ETH_LINK_STAT_SPEED = w % 2 ^ F.ETH_LINK_STAT_SPEED.width ∧
      t.bit (P.eth m) F.HDR_EV_STAT_EV 0 = true) ∧
  (∀ (s : State) (m : Nat) (who : By) (v : Nat), MayWrite s who (P.eth (m % 4)) 0x06C → 
    ∃ t, exec (.asOffHi m who v) s = .next t ∧ t.et (m % 4) F.ETH_AS_OFF_HI_OFF = v % 2 ^ 32 ∧ t.et (m % 4) F.ETH_AS_STAT_VALID = 1) ∧
  (∀ (s : State) (m x : Nat), m < 4 → ethOn s = true → s.on (P.eth m) F.ETH_AS_STAT_VALID = true → (ethSt s m).asAt + max 10 (s.et m F.ETH_AS_TMO_MS) * 1000000 ≤ s.upAt x → 
    ∃ t, exec (.asTimeout m x) s = .next t ∧ t.et m F.ETH_AS_STAT_VALID = 0 ∧ t.bit (P.eth m) F.HDR_EV_STAT_EV 1 = true) ∧
  (∀ (s : State) (u c x : Nat), u < 16 → uartOn s u = true → s.ua u F.UART_U_CFG_MODE = 1 → s.ua u F.UART_U_PKT_DELIM = 0 → (uart s u).rx.length + 1 < clampNat 1 2048 (s.ua u F.UART_U_PKT2_MAX_LEN) → 
    ∃ t, exec (.uartCharacter u c false false false x) s = .next t ∧ (uart t u).rx = (uart s u).rx ++
      [(c % (if s.ua u F.UART_U_CFG_BITS7 = 1 then 128 else 256), bitOf c 8 && s.ua u F.UART_U_CFG_PARITY == 3)]) ∧
  (∀ (s : State) (u : Nat), u < 16 → uartOn s u = true → (uart s u).rx ≠ [] → s.ua u F.UART_U_PKT_DELIM ≠ 3 → 
    ∃ t, exec (.uartGap u) s = .next t ∧ (uart t u).rx = [] ∧
      t.ua u F.UART_CNT_RX_N = satAdd (F.UART_CNT_RX_N (u % 4)).width (s.ua u F.UART_CNT_RX_N) 1) ∧
  (∀ (s : State) (u : Nat) (who : By) (b : Bool) (n : Nat), MayWrite s who (P.uart (u % 16)) (0x118 + 0x80 * (u % 16 % 4)) → uartOn s (u % 16) = true → s.ua (u % 16) F.UART_U_CFG_MODE = 1 → (1 ≤ n ∧ n ≤ 2048) → ((uart s (u % 16)).tx = none ∧ (uart s (u % 16)).wait = none) → s.ua (u % 16) F.UART_U_TXADDR_OFFSET + n ≤ 0x200000 → 
    ∃ t, exec (.uTx u who b n) s = .next t ∧ t.ua (u % 16) F.UART_U_STAT_TX_RES = 1 ∧
      (uart t (u % 16)).tx = some (s.memRead (0x10200000 + s.ua (u % 16) F.UART_U_TXADDR_OFFSET) n, b, true)) ∧
  (∀ (s : State) (u : Nat) (l : List Nat) (a b : Bool), s.alive = true → u < 16 → (uart s u).tx = some (l, a, b) → 
    ∃ t, exec (.uartTxEnd u) s = .next t ∧ (uart t u).sent = (l, a) :: (uart s u).sent ∧
      t.ua u F.UART_CNT_TX_N = satAdd (F.UART_CNT_TX_N (u % 4)).width (s.ua u F.UART_CNT_TX_N) 1)

/-- HOST_READ of an aligned stretch of 4 to 256 bytes of DATA RAM: the answer is OK with the bytes. HOST_WRITE of one outside the
image area: OK, and those bytes and no others are written. HOST_ABORT: HP_CNT_ABORT counts it, with event 2. DOORBELL sets the
bits of TO_HUB and TO_HOST that its word has; DOORBELL_CLR clears them. PROGRAM within a device page, ERASE4K and ERASE64K, above
the protected part and with nothing under way: BUSY is 1, and the operation runs. FLASH_DONE without error: RESULT is OK, nothing
runs, and the bytes programmed are the AND of old and new, or those erased are blank. -/
def Obligations.HostPortAndFlash : Prop :=
  (∀ (s : State) (a n : Nat), hostOn s = true → (n % 4 = 0 ∧ 4 ≤ n ∧ n ≤ 256) → hostAligned a n = true → regionOf a = .data → remoteOf s a = none → 
    ∃ t, exec (.hostRead 0x0BF4 a n) s = .next t ∧ t.ports.host = (HS.ok, 0, s.memRead a n) :: s.ports.host) ∧
  (∀ (s : State) (a : Nat) (b : List Nat) (x : Nat), hostOn s = true → (b.length % 4 = 0 ∧ 4 ≤ b.length ∧ b.length ≤ 256) → hostAligned a b.length = true → regionOf a = .data → remoteOf s a = none → ((List.range b.length).all fun k => (s.imageOff (a + k)).isNone) = true → 
    ∃ t, exec (.hostWrite 0x12ED a b) s = .next t ∧ t.ports.host = (HS.ok, 0, []) :: s.ports.host ∧
      t.memAt x = (if a ≤ x ∧ x < a + b.length then BitVec.ofNat 8 (b.getD (x - a) 0) else s.memAt x)) ∧
  (∀ (s : State) (b : Bool) (a n : Nat), hostOn s = true → 
    ∃ t, exec (.hostAbort b a n) s = .next t ∧ t.bit P.host F.HDR_EV_STAT_EV 2 = true ∧
      t.rd P.host F.HOSTPORT_HP_CNT_ABORT_N = satAdd F.HOSTPORT_HP_CNT_ABORT_N.width (s.rd P.host F.HOSTPORT_HP_CNT_ABORT_N) 1) ∧
  (∀ (s : State) (who : By) (v : Nat), MayWrite s who P.host 0x044 → 
    ∃ t, exec (.doorbell who v) s = .next t ∧
      t.rd P.host F.HOSTPORT_DOORBELL_TO_HUB = (s.rd P.host F.HOSTPORT_DOORBELL_TO_HUB ||| v % 2 ^ 16) % 2 ^ 16 ∧
      t.rd P.host F.HOSTPORT_DOORBELL_TO_HOST = (s.rd P.host F.HOSTPORT_DOORBELL_TO_HOST ||| v / 2 ^ 16 % 2 ^ 16) % 2 ^ 16) ∧
  (∀ (s : State) (who : By) (v : Nat), MayWrite s who P.host 0x048 → 
    ∃ t, exec (.doorbellClr who v) s = .next t ∧
      t.rd P.host F.HOSTPORT_DOORBELL_TO_HUB = andNot (s.rd P.host F.HOSTPORT_DOORBELL_TO_HUB) (v % 2 ^ 16) % 2 ^ 16 ∧
      t.rd P.host F.HOSTPORT_DOORBELL_TO_HOST = andNot (s.rd P.host F.HOSTPORT_DOORBELL_TO_HOST) (v / 2 ^ 16 % 2 ^ 16) % 2 ^ 16) ∧
  (∀ (s : State) (who : By) (a n : Nat), MayWrite s who P.flash 0x048 → (s.on P.flash F.FLASH_FL_STAT_BUSY = false ∧ s.on P.log F.LOG_EXP_STAT_BUSY = false) → (s.rd P.flash F.FLASH_FL_ADDR_ADDR = a ∧ s.rd P.flash F.FLASH_FL_BUF_LEN = n) → (1 ≤ n ∧ a % 256 + n ≤ 256) → s.rd P.flash F.FLASH_FL_BUF_OFFSET + n ≤ 0x200000 → s.rd P.flash F.FLASH_FL_PROT_PROT_END * 0x10000 ≤ a → 
    ∃ t, exec (.program who) s = .next t ∧ t.rd P.flash F.FLASH_FL_STAT_BUSY = 1 ∧
      t.ports.flash = some (1, a, s.memRead (0x10200000 + s.rd P.flash F.FLASH_FL_BUF_OFFSET) n)) ∧
  (∀ (s : State) (who : By) (a : Nat), MayWrite s who P.flash 0x048 → (s.on P.flash F.FLASH_FL_STAT_BUSY = false ∧ s.on P.log F.LOG_EXP_STAT_BUSY = false) → s.rd P.flash F.FLASH_FL_ADDR_ADDR = a → s.rd P.flash F.FLASH_FL_PROT_PROT_END * 0x10000 ≤ a / 0x1000 * 0x1000 → 
    ∃ t, exec (.erase4k who) s = .next t ∧ t.rd P.flash F.FLASH_FL_STAT_BUSY = 1 ∧ t.ports.flash = some (2, a, [])) ∧
  (∀ (s : State) (who : By) (a : Nat), MayWrite s who P.flash 0x048 → (s.on P.flash F.FLASH_FL_STAT_BUSY = false ∧ s.on P.log F.LOG_EXP_STAT_BUSY = false) → s.rd P.flash F.FLASH_FL_ADDR_ADDR = a → s.rd P.flash F.FLASH_FL_PROT_PROT_END * 0x10000 ≤ a / 0x10000 * 0x10000 → 
    ∃ t, exec (.erase64k who) s = .next t ∧ t.rd P.flash F.FLASH_FL_STAT_BUSY = 1 ∧ t.ports.flash = some (3, a, [])) ∧
  (∀ (s : State) (a : Nat) (b : List Nat) (k : Nat), s.alive = true → domOn s 7 = true → s.ports.flash = some (1, a, b) → k < b.length → 
    ∃ t, exec (.flashDone true) s = .next t ∧ t.rd P.flash F.FLASH_FL_STAT_RESULT = FR.ok ∧ t.ports.flash = none ∧
      (t.memAt (0x50000000 + a + k)).toNat = ((s.memAt (0x50000000 + a + k)).toNat &&& b.getD k 0)) ∧
  (∀ (s : State) (p a : Nat) (b : List Nat) (x : Nat), s.alive = true → domOn s 7 = true → s.ports.flash = some (p, a, b) → (p = 2 ∨ p = 3) → (0x50000000 + (flashSpan p a 0).1 ≤ x ∧ x < 0x50000000 + (flashSpan p a 0).1 + (flashSpan p a 0).2) → 
    ∃ t, exec (.flashDone true) s = .next t ∧ t.rd P.flash F.FLASH_FL_STAT_RESULT = FR.ok ∧ t.ports.flash = none ∧ t.memAt x = memBlank x)

/-- FEED_DIODE_ON of a feed that is not reversed: it is ON. FEED_REVERSE, FEED_COM feeding back: it is off, and CNT_REV counts it.
FEED_REVERSED: it is off and REVERSED. FEED_WINDOW of a feed: well inside UV to OV it is IN_WINDOW; below UV it is UV and not
IN_WINDOW. FEED_WINDOW of FEED_COM: its window follows. SEAT_CHANGE to other levels: FEED_STAT.SEAT shows them, with event 1.
SEAT_QUALIFIED in SEATING, seated for T_SEAT, with a valid set: the main controller enters RAMP. RAMP_DONE: RAMP to QUAL.
PG_QUALIFIED in QUAL, qualified for PG_QUAL with no curve timer: ON, with power-good. POWER_ENTRY_RESTART: every gate is off,
every controller OFF, but the main one in SEATING where it is seated, and no branch waits. LAST_GASP, both feeds UV for LG_FILT
with power-good and no service path: LG_STAT.ACTIVE, counted, and branches outside LG_KEEP have ON 0. LG_RECOVER with a feed back:
not ACTIVE, RECOVERED, event 6. -/
def Obligations.PowerFeedsAndStart : Prop :=
  (∀ (s : State) (x : Nat), x < 2 → feedBit s x 0 = false → 
    ∃ t, exec (.feedDiodeOn x) s = .next t ∧ feedBit t x 3 = true) ∧
  (∀ (s : State) (x : Nat), x < 2 → feedBit s x 3 = true → 
    ∃ t, exec (.feedReverse x) s = .next t ∧ feedBit t x 3 = false ∧ t.rd P.power F.POWER_CNT_REV_N = satAdd F.POWER_CNT_REV_N.width (s.rd P.power F.POWER_CNT_REV_N) 1) ∧
  (∀ (s : State) (x : Nat), x < 2 → 
    ∃ t, exec (.feedReversed x) s = .next t ∧ feedBit t x 3 = false ∧ feedBit t x 0 = true) ∧
  (∀ (s : State) (x : Nat) (d : FeedIn), x < 2 → 
    ∃ t, exec (.feedWindow x d) s = .next t ∧ ((feedUv s : Int) + 500 < d.v ∧ d.v + 500 < (feedOv s : Int) → feedBit t x 4 = true) ∧ (d.v < (feedUv s : Int) → feedBit t x 4 = false ∧ feedBit t x 2 = true)) ∧
  (∀ (s : State) (d : FeedIn), 
    ∃ t, exec (.feedWindow 2 d) s = .next t ∧ t.power.comIn = (window s d.v s.power.comIn s.power.comOv).1) ∧
  (∀ (s : State) (a b : Bool) (x : Nat), s.rd P.power F.POWER_FEED_STAT_SEAT ≠ b2n a * 2 + b2n b → 
    ∃ t, exec (.seatChange a b x) s = .next t ∧ t.rd P.power F.POWER_FEED_STAT_SEAT = b2n a * 2 + b2n b ∧ t.bit P.power F.HDR_EV_STAT_EV 1 = true) ∧
  (∀ (s : State) (x : Nat), ctlState s mainCtl = 1 → seated s = true → (ctl s mainCtl).prot.isSome = true → s.power.seatAt + seatTime s ≤ x → 
    ∃ t, exec (.seatQualified x) s = .next t ∧ ctlState t mainCtl = 2) ∧
  (∀ (s : State) (c x : Nat), c ≤ 8 → ctlState s c = 2 → 
    ∃ t, exec (.rampDone c x) s = .next t ∧ ctlState t c = 3) ∧
  (∀ (s : State) (c x : Nat), c ≤ 8 → ctlState s c = 3 → timerRuns s c = false → ((ctl s c).qual.any fun u => decide (u + pgQual s c ≤ x)) = true → 
    ∃ t, exec (.pgQualified c x) s = .next t ∧ ctlState t c = 4 ∧ ctlPg t c = true) ∧
  (∀ (s : State) (c : Nat), c ≤ 8 → 
    ∃ t, exec (.powerEntryRestart) s = .next t ∧ ctlState t c = (if c = mainCtl ∧ seated t = true then 1 else 0) ∧ gateOn t c = false ∧ t.power.queue = []) ∧
  (∀ (s : State) (x b : Nat), s.on P.power F.POWER_LG_STAT_ACTIVE = false → (s.power.lowAt.any fun u => decide (u + max 1 (s.rd P.power F.POWER_LG_CFG_LG_FILT) * 1000 ≤ x)) = true → pgMain s = true → s.usb.svc = false → b < 8 → bitOf (s.rd P.power F.POWER_LG_CFG_LG_KEEP) b = false → 
    ∃ t, exec (.lastGasp x) s = .next t ∧ t.rd P.power F.POWER_LG_STAT_ACTIVE = 1 ∧ brOn t b = false ∧ t.rd P.power F.POWER_CNT_LAST_GASP_N = satAdd F.POWER_CNT_LAST_GASP_N.width (s.rd P.power F.POWER_CNT_LAST_GASP_N) 1) ∧
  (∀ (s : State), s.on P.power F.POWER_LG_STAT_ACTIVE = true → feedOk s = true → 
    ∃ t, exec (.lgRecover) s = .next t ∧ t.rd P.power F.POWER_LG_STAT_ACTIVE = 0 ∧ t.rd P.power F.POWER_LG_STAT_RECOVERED = 1 ∧ t.bit P.power F.HDR_EV_STAT_EV 6 = true)

/-- SC with the gate on, SOA_TRIP, DVDT_TRIP (a rise below a quarter of SLEW over 1 ms) and START_TO in RAMP, CURVE_TRIP in QUAL
or ON: LAST_CAUSE, and RETRY_WAIT while retries are left, else LATCHED. OV_SHUTDOWN after 10 µs above OV: the main gate is off
with cause OV. RETRY_WAIT_END: the main controller ramps again if seated, else OFF; a branch with ON and a set is QUEUED, else
OFF. RETRIES_RESET: RETRIES 0. LATCH_CLEAR of a LATCHED controller: RETRIES 0, and OFF, or SEATING or QUEUED. CURVE_APPLY of a set
that passes: it is in force, CURVE_BAD 0. BREAKER_SAMPLE in RAMP adds its energy; in QUAL or ON a current above I_k of the one
point adds 1 µs to its accumulator. BRANCH_ON of an OFF branch with a valid set, where allowed: ON, QUEUED; BRANCH_OFF: ON 0, the
gate off. BRANCH_RAMP_START, STAGGER_GAP after the last ramp and without over-temperature: the first of the queue enters RAMP. -/
def Obligations.PowerTripsAndBranches : Prop :=
  (∀ (s : State) (c x : Nat), c ≤ 8 → gateOn s c = true → 
    ∃ t, exec (.shortCircuit c x) s = .next t ∧ ctlState t c = (if retries s c < retryMax s c ∨ retryMax s c = 255 then 5 else 6) ∧ t.ctl c F.POWER_MAIN_STAT_LAST_CAUSE F.BRANCH_BR_STAT_LAST_CAUSE = PC.sc) ∧
  (∀ (s : State) (c x : Nat) (p : ProtSet), c ≤ 8 → ctlState s c = 2 → (ctl s c).prot = some p → p.soa * 1000000000 < (ctl s c).energy → 
    ∃ t, exec (.soaTrip c x) s = .next t ∧ ctlState t c = (if retries s c < retryMax s c ∨ retryMax s c = 255 then 5 else 6) ∧ t.ctl c F.POWER_MAIN_STAT_LAST_CAUSE F.BRANCH_BR_STAT_LAST_CAUSE = PC.soa) ∧
  (∀ (s : State) (c : Nat) (d : RiseIn), c ≤ 8 → ctlState s c = 2 → (ctl s c).ramp + 1000000 ≤ d.t → d.rise < 25 * slew s c → 
    ∃ t, exec (.dvdtTrip c d) s = .next t ∧ ctlState t c = (if retries s c < retryMax s c ∨ retryMax s c = 255 then 5 else 6) ∧ t.ctl c F.POWER_MAIN_STAT_LAST_CAUSE F.BRANCH_BR_STAT_LAST_CAUSE = PC.dvdt) ∧
  (∀ (s : State) (c x : Nat), c ≤ 8 → ctlState s c = 2 → (ctl s c).ramp + max 1 (s.ctl c F.POWER_MAIN_START_START_TO F.BRANCH_BR_START_START_TO) * 10000000 ≤ x → 
    ∃ t, exec (.startTo c x) s = .next t ∧ ctlState t c = (if retries s c < retryMax s c ∨ retryMax s c = 255 then 5 else 6) ∧ t.ctl c F.POWER_MAIN_STAT_LAST_CAUSE F.BRANCH_BR_STAT_LAST_CAUSE = PC.startTo) ∧
  (∀ (s : State) (c x : Nat), c ≤ 8 → (ctlState s c = 3 ∨ ctlState s c = 4) → curveOver s c = true → 
    ∃ t, exec (.curveTrip c x) s = .next t ∧ ctlState t c = (if retries s c < retryMax s c ∨ retryMax s c = 255 then 5 else 6) ∧ t.ctl c F.POWER_MAIN_STAT_LAST_CAUSE F.BRANCH_BR_STAT_LAST_CAUSE = PC.curve) ∧
  (∀ (s : State) (x : Nat), gateOn s mainCtl = true → (s.power.ovAt.any fun u => decide (u + 10000 ≤ x)) = true → 
    ∃ t, exec (.ovShutdown x) s = .next t ∧ gateOn t mainCtl = false ∧ t.rd P.power F.POWER_MAIN_STAT_LAST_CAUSE = PC.ovOrTemp) ∧
  (∀ (s : State) (c x : Nat), c ≤ 8 → ctlState s c = 5 → (ctl s c).till ≤ x → 
    ∃ t, exec (.retryWaitEnd c x) s = .next t ∧ ctlState t c = (if c = mainCtl then (if seated s then 2 else 0) else if brOn s c && (ctl s c).prot.isSome then 1 else 0)) ∧
  (∀ (s : State) (c x : Nat), c ≤ 8 → ctlPg s c = true → (ctl s c).pgAt + 10000000000 ≤ x → 
    ∃ t, exec (.retriesReset c x) s = .next t ∧ retries t c = 0) ∧
  (∀ (s : State) (c : Nat) (who : By), MayWriteTo s who (ctlPage c) [if c = mainCtl then F.POWER_MAIN_CTRL_CLEAR else F.BRANCH_BR_CTRL_CLEAR] → c ≤ 8 → ctlState s c = 6 → s.ctl c F.POWER_MAIN_CTRL_APPLY F.BRANCH_BR_CTRL_APPLY = 0 → s.rd (P.branch c) F.BRANCH_BR_CTRL_ON < 2 → 
    ∃ t, exec (.latchClear c who) s = .next t ∧ ctlState t c ≤ 1 ∧ retries t c = 0) ∧
  (∀ (s : State) (c : Nat) (who : By), MayWriteTo s who (ctlPage c) [if c = mainCtl then F.POWER_MAIN_CTRL_APPLY else F.BRANCH_BR_CTRL_APPLY] → c ≤ 8 → (stagedSet s c).passes = true → s.rd (P.branch c) F.BRANCH_BR_CTRL_ON < 2 → 
    ∃ t, exec (.curveApply c who) s = .next t ∧ (ctl t c).prot = some (stagedSet s c) ∧ t.ctl c F.POWER_MAIN_STAT_CURVE_BAD F.BRANCH_BR_STAT_CURVE_BAD = 0) ∧
  (∀ (s : State) (c i : Nat) (d : FetIn), c ≤ 8 → ctlState s c = 2 → 
    ∃ t, exec (.breakerSample c i d) s = .next t ∧ (ctl t c).energy = (ctl s c).energy + d.dv * i) ∧
  (∀ (s : State) (c i : Nat) (d : FetIn) (p : ProtSet) (k j n : Nat), c ≤ 8 → (ctlState s c = 3 ∨ ctlState s c = 4) → ((ctl s c).prot = some p ∧ p.pts = [(k, j, n)] ∧ k < 8) → j < i → 
    ∃ t, exec (.breakerSample c i d) s = .next t ∧ (ctl t c).acc.at 0 k = (ctl s c).acc.at 0 k + 1) ∧
  (∀ (s : State) (b : Nat) (who : By), MayWriteTo s who (P.branch (b % 8)) [F.BRANCH_BR_CTRL_ON] → s.rd (P.branch (b % 8)) F.BRANCH_BR_CTRL_APPLY = 0 → branchAllowed s = true → brOn s (b % 8) = false → ctlState s (b % 8) = 0 → (ctl s (b % 8)).prot.isSome = true → 
    ∃ t, exec (.branchOn b who) s = .next t ∧ brOn t (b % 8) = true ∧ ctlState t (b % 8) = 1) ∧
  (∀ (s : State) (b : Nat) (who : By), MayWriteTo s who (P.branch (b % 8)) [F.BRANCH_BR_CTRL_ON] → s.rd (P.branch (b % 8)) F.BRANCH_BR_CTRL_APPLY = 0 → brOn s (b % 8) = true → 
    ∃ t, exec (.branchOff b who) s = .next t ∧ brOn t (b % 8) = false ∧ gateOn t (b % 8) = false) ∧
  (∀ (s : State) (b x : Nat), b < 8 → ctlState s b = 1 → s.power.queue.head? = some b → pgMain s = true → ((List.range 8).all fun y => ctlState s y != 2) = true → (∀ u, s.power.lastRamp = some u → u + max 1 (s.rd P.power F.POWER_STAGGER_CFG_STAGGER_GAP) * 1000000 ≤ x) → s.on P.fdie F.FDIE_FD_STAT_OVERTEMP = false → 
    ∃ t, exec (.branchRampStart b x) s = .next t ∧ ctlState t b = 2)

/-- VBUS0_RISE: VBUS0 is there, and the service path turns on unless the node has MAIN_OUT or sources VBUS0. SVC_OVERLAP_END: it
turns off. SERVICE_TAKEOVER, allowed, as a sink, with both feeds UV and VBUS0 within 5 % of its voltage: it is on. VBUS_OV of a
sink: the path is off, FAULT.CAUSE has bit 6, event 2. VBUS_OV_CLEAR: the path is on again without MAIN_OUT. ATTACH where the port
presents what it may: ATTACH is 1 as sink or 2 as source, REV3 as the partner's, with event 0. DETACH: ATTACH is 0, with event 0.
SOURCE_CAPABILITIES: the port keeps them, and with AUTO_SNK requests what R486 chooses. REQUEST of port 0 that has capabilities to
answer, or is at rest under SinkTxOK, does so by command. REQUEST_RECEIVED of an offered PDO within its current: the contract is
in force. PARTNER_ACCEPT of the port's Request: it waits for PS_RDY, or, where it is refused, goes back to rest; PS_RDY: the
contract asked for is in force. -/
def Obligations.ServicePathAndAttach : Prop :=
  (∀ (s : State), s.usb.vbus0 = false → 
    ∃ t, exec (.vbus0Rise) s = .next t ∧ t.usb.vbus0 = true ∧ t.usb.svc = (if pgMain s || s.usb.port0.vbus then s.usb.svc else true)) ∧
  (∀ (s : State) (u x : Nat), s.usb.overlap = some u → u + max 1 (s.pd 0 F.PD_TRANS_CFG_SVC_OVERLAP) * 1000000 ≤ x → 
    ∃ t, exec (.svcOverlapEnd x) s = .next t ∧ t.usb.svc = false ∧ t.usb.overlap = none) ∧
  (∀ (s : State) (v w : Nat), s.alive = true → s.pd 0 F.PD_PD_CFG_SVC_TAKEOVER = 1 → pdAttach s 0 = 1 → (feedBit s 0 2 = true ∧ feedBit s 1 2 = true) → (if s.pd 0 F.PD_PD_STAT_CONTRACT = 1 then s.pd 0 F.PD_CONTRACT_V else 5000) = w → (95 * w ≤ 100 * v ∧ 100 * v ≤ 105 * w) → 
    ∃ t, exec (.serviceTakeover v) s = .next t ∧ t.usb.svc = true) ∧
  (∀ (s : State), pdAttach s 0 = 1 → 
    ∃ t, exec (.vbusOv) s = .next t ∧ t.usb.svc = false ∧ t.usb.ovOff = true ∧ t.bit (P.pd 0) F.PD_FAULT_CAUSE 6 = true ∧ t.bit (P.pd 0) F.HDR_EV_STAT_EV 2 = true) ∧
  (∀ (s : State), s.usb.ovOff = true → pgMain s = false → 
    ∃ t, exec (.vbusOvClear) s = .next t ∧ t.usb.svc = true ∧ t.usb.ovOff = false) ∧
  (∀ (s : State) (p : Nat) (b : Bool) (rp : Nat) (r : Bool), pdRuns s p = true → pdAttach s p = 0 → (if p = 0 then !b || (s.pd 0 F.PD_PD_CFG_SRC_EN == 1 && !s.service && pgMain s) else b && supplyOk s) = true → 
    ∃ t, exec (.attach p b rp r) s = .next t ∧ pdAttach t p = (if b then 2 else 1) ∧ t.pd p F.PD_PD_STAT_REV3 = b2n r ∧ t.bit (P.pd p) F.HDR_EV_STAT_EV 0 = true) ∧
  (∀ (s : State) (p : Nat), s.alive = true → p < 2 → pdAttach s p ≠ 0 → 
    ∃ t, exec (.detach p) s = .next t ∧ pdAttach t p = 0 ∧ t.bit (P.pd p) F.HDR_EV_STAT_EV 0 = true) ∧
  (∀ (s : State) (l : List (Nat × Nat × Bool)), pdRuns s 0 = true → pdAttach s 0 = 1 → 
    ∃ t, exec (.sourceCapabilities l) s = .next t ∧ (pdSt t 0).caps = l ∧ (s.pd 0 F.PD_PD_CFG_AUTO_SNK = 1 → t.usb.sent.head? = some (0, .request (pdChoose s l).1 (pdChoose s l).2.2.1 (pdChoose s l).2.2.2))) ∧
  (∀ (s : State) (p : Nat) (who : By) (l : List (Nat × Nat × Bool)), MayWrite s who (P.pd (p % 2)) 0x070 → p % 2 = 0 → pdRuns s 0 = true → pdAttach s 0 = 1 → ((pdSt s 0).cmd = none ∧ ((pdSt s 0).ams = 9 ∨ (pdSt s 0).ams = 0 ∧ sinkTxOk s 0 = true)) → ((pdSt s 0).caps = l ∧ l ≠ []) → 
    ∃ t, exec (.request p who) s = .next t ∧ t.usb.sent.head? = some (0, .request (pdChoose s l).1 (pdChoose s l).2.2.1 (pdChoose s l).2.2.2) ∧ (pdSt t 0).ams = 5) ∧
  (∀ (s : State) (p n m v i : Nat), pdRuns s p = true → pdAttach s p = 2 → (p = 0 ∨ supplyOk s = true) → n ≠ 0 → (pdOffer s p)[n - 1]? = some (v, i) → m ≤ i → 
    ∃ t, exec (.requestReceived p n m) s = .next t ∧ t.pd p F.PD_PD_STAT_CONTRACT = 1 ∧ t.pd p F.PD_CONTRACT_V = v % 2 ^ F.PD_CONTRACT_V.width ∧ t.pd p F.PD_CONTRACT_I = m % 2 ^ F.PD_CONTRACT_I.width) ∧
  (∀ (s : State) (p : Nat) (b : Bool), pdRuns s p = true → (pdSt s p).ams = 5 → 
    ∃ t, exec (.partnerAccept p b) s = .next t ∧ (pdSt t p).ams = (if b then 6 else 0)) ∧
  (∀ (s : State) (p : Nat), pdRuns s p = true → (pdSt s p).ams = 6 → 
    ∃ t, exec (.psRdy p) s = .next t ∧ t.pd p F.PD_PD_STAT_CONTRACT = 1 ∧ t.pd p F.PD_CONTRACT_V = (pdSt s p).asked.1 % 2 ^ F.PD_CONTRACT_V.width ∧ t.pd p F.PD_CONTRACT_I = (pdSt s p).asked.2 % 2 ^ F.PD_CONTRACT_I.width)

/-- PR_SWAP on port 0 where it may swap and start an AMS (SinkTxOK): the message is sent. SOFT_RESET and GET_SRC_CAP at rest
likewise. PR_SWAP_RECEIVED at rest: SWAP_BUSY is 1, or, where it may not swap, Reject is sent. HARD_RESET: sent, PD_RES says OK,
counted. HARD_RESET_RECEIVED: FAULT.CAUSE bit 3, event 2, counted. TRANSITION_FAIL of a limit that the transition in progress is
watched for: its bit of FAULT.CAUSE and a counted Hard Reset. PD_TIMER_EXPIRY of PSTransition, PSSourceOff and PSSourceOn when the
time of its register has run: a Hard Reset, counted. UNSUPPORTED_REQUEST of a feature, or of DR_Swap: Not_Supported to a PD 3
partner for the feature, else Reject. VSET_TRIM: VSET moves by one step towards ±1 % of the target. DISCOVER_SVIDS and
DISCOVER_MODES under a contract: the OTP's SVID and VDO are sent. ENTER_MODE where Tap is allowed: ACK, TAP is 1, and counted;
EXIT_MODE: TAP is 0, then ACK. -/
def Obligations.PdMessages : Prop :=
  (∀ (s : State) (p : Nat) (who : By), MayWrite s who (P.pd (p % 2)) 0x070 → p % 2 = 0 → pdRuns s 0 = true → swapOk s 0 = true → (pdSt s 0).cmd = none → sinkTxOk s 0 = true → 
    ∃ t, exec (.prSwap p who) s = .next t ∧ t.usb.sent = (0, .prSwap) :: s.usb.sent ∧ (pdSt t 0).ams = 1) ∧
  (∀ (s : State) (p : Nat) (who : By), MayWrite s who (P.pd (p % 2)) 0x070 → pdRuns s (p % 2) = true → pdAttach s (p % 2) ≠ 0 → ((pdSt s (p % 2)).cmd = none ∧ ((pdSt s (p % 2)).ams = 9 ∨ ((pdSt s (p % 2)).ams = 0 ∨ (pdSt s (p % 2)).ams = 8) ∧ sinkTxOk s (p % 2) = true)) → 
    ∃ t, exec (.softReset p who) s = .next t ∧ t.usb.sent = (p % 2, .softReset) :: s.usb.sent ∧ (pdSt t (p % 2)).ams = 7) ∧
  (∀ (s : State) (p : Nat) (who : By), MayWrite s who (P.pd (p % 2)) 0x070 → pdRuns s (p % 2) = true → pdAttach s (p % 2) ≠ 0 → ((pdSt s (p % 2)).cmd = none ∧ (pdSt s (p % 2)).ams = 0 ∧ sinkTxOk s (p % 2) = true) → 
    ∃ t, exec (.getSrcCap p who) s = .next t ∧ t.usb.sent = (p % 2, .getSrcCap) :: s.usb.sent ∧ (pdSt t (p % 2)).ams = 4) ∧
  (∀ (s : State) (p : Nat), pdRuns s p = true → pdAttach s p ≠ 0 → (pdSt s p).ams = 0 → 
    ∃ t, exec (.prSwapReceived p) s = .next t ∧ (swapOk s p = true → t.pd p F.PD_PD_STAT_SWAP_BUSY = 1) ∧ (swapOk s p = false → t.usb.sent = (p, .reject) :: s.usb.sent)) ∧
  (∀ (s : State) (q : Nat) (who : By) (p : Nat), MayWrite s who (P.pd (q % 2)) 0x070 → q % 2 = p → pdRuns s p = true → pdAttach s p ≠ 0 → (pdSt s p).cmd = none → 
    ∃ t, exec (.hardReset q who) s = .next t ∧ t.usb.sent.head? = some (p, .hardReset) ∧ t.pd p F.PD_PD_RES_RESULT = PR.ok ∧ t.pd p F.PD_CNT_HARD_RESET_N = satAdd F.PD_CNT_HARD_RESET_N.width (s.pd p F.PD_CNT_HARD_RESET_N) 1) ∧
  (∀ (s : State) (p : Nat), pdRuns s p = true → pdAttach s p ≠ 0 → 
    ∃ t, exec (.hardResetReceived p) s = .next t ∧ t.bit (P.pd p) F.PD_FAULT_CAUSE 3 = true ∧ t.bit (P.pd p) F.HDR_EV_STAT_EV 2 = true ∧ t.pd p F.PD_CNT_HARD_RESET_N = satAdd F.PD_CNT_HARD_RESET_N.width (s.pd p F.PD_CNT_HARD_RESET_N) 1) ∧
  (∀ (s : State) (p k : Nat), pdRuns s p = true → (pdSt s p).trans.any (transMay s p k) = true → 
    ∃ t, exec (.transitionFail p k) s = .next t ∧ t.bit (P.pd p) F.PD_FAULT_CAUSE k = true ∧ t.pd p F.PD_CNT_HARD_RESET_N = satAdd F.PD_CNT_HARD_RESET_N.width (s.pd p F.PD_CNT_HARD_RESET_N) 1) ∧
  (∀ (s : State) (p k : Nat), pdRuns s p = true → (pdDue s p k).any s.dueBy = true → (k = PT.psTrans ∨ k = PT.psSrcOff ∨ k = PT.psSrcOn) → 
    ∃ t, exec (.pdTimerExpiry p k) s = .next t ∧ t.usb.sent.head? = some (p, .hardReset) ∧ t.pd p F.PD_CNT_HARD_RESET_N = satAdd F.PD_CNT_HARD_RESET_N.width (s.pd p F.PD_CNT_HARD_RESET_N) 1) ∧
  (∀ (s : State) (p k : Nat), pdRuns s p = true → pdAttach s p ≠ 0 → k < 2 → 
    ∃ t, exec (.unsupportedRequest p k) s = .next t ∧ t.usb.sent = (p, if k = 0 ∧ s.pd p F.PD_PD_STAT_REV3 = 1 then .notSupported else .reject) :: s.usb.sent) ∧
  (∀ (s : State) (v r : Nat), pdRuns s 1 = true → (pdSt s 1).vbus = true → 
    ∃ t, exec (.vsetTrim v r) s = .next t ∧ (pdSt t 1).vset = (if v * 100 < (pdSt s 1).mv * 99 then min 1000 ((pdSt s 1).vset + 1) else if (pdSt s 1).mv * 101 < v * 100 then (pdSt s 1).vset - 1 else (pdSt s 1).vset)) ∧
  (∀ (s : State), pdRuns s 0 = true → s.pd 0 F.PD_PD_STAT_CONTRACT = 1 → 
    ∃ t, exec (.discoverSvids) s = .next t ∧ t.usb.sent = (0, .svids s.otp.svid) :: s.usb.sent) ∧
  (∀ (s : State), pdRuns s 0 = true → s.pd 0 F.PD_PD_STAT_CONTRACT = 1 → 
    ∃ t, exec (.discoverModes) s = .next t ∧ t.usb.sent = (0, .modes s.otp.vdo) :: s.usb.sent) ∧
  (∀ (s : State), pdRuns s 0 = true → pdAttach s 0 ≠ 0 → tapAllowed s = true → tapOn s = false → 
    ∃ t, exec (.enterMode) s = .next t ∧ tapOn t = true ∧ t.usb.sent = (0, .enterAck) :: s.usb.sent ∧ t.pd 0 F.PD_CNT_TAP_ENTRY_N = satAdd F.PD_CNT_TAP_ENTRY_N.width (s.pd 0 F.PD_CNT_TAP_ENTRY_N) 1) ∧
  (∀ (s : State), pdRuns s 0 = true → tapOn s = true → 
    ∃ t, exec (.exitMode) s = .next t ∧ tapOn t = false ∧ t.usb.sent.head? = some (0, .exitAck))

/-- USB_BUS_RESET: BUS_RESET is 1, the address 0, no endpoint is armed. USB_SUSPEND and USB_RESUME: SUSPENDED is 1 or 0, with
event 0. SETUP: its 8 bytes stand in the SETUP registers, with event 1. EP_ARM of an enabled endpoint with its buffer in place: it
is armed. EP_DONE of an armed, enabled endpoint in its direction, not stalled: it is armed no more, DONE is 1, and XFER the bytes
moved. -/
def Obligations.UsbDevice : Prop :=
  (∀ (s : State) (b : Bool), usbUp s = true → 
    ∃ t, exec (.usbBusReset b) s = .next t ∧ t.rd P.usb F.USBDEV_DEV_STAT_BUS_RESET = 1 ∧ t.rd P.usb F.USBDEV_DEV_ADDR_ADDR = 0 ∧ t.usb.armed = []) ∧
  (∀ (s : State), usbUp s = true → s.on P.usb F.USBDEV_DEV_STAT_SUSPENDED = false → 
    ∃ t, exec (.usbSuspend) s = .next t ∧ t.rd P.usb F.USBDEV_DEV_STAT_SUSPENDED = 1 ∧ t.bit P.usb F.HDR_EV_STAT_EV 0 = true) ∧
  (∀ (s : State), usbUp s = true → s.on P.usb F.USBDEV_DEV_STAT_SUSPENDED = true → 
    ∃ t, exec (.usbResume) s = .next t ∧ t.rd P.usb F.USBDEV_DEV_STAT_SUSPENDED = 0 ∧ t.bit P.usb F.HDR_EV_STAT_EV 0 = true) ∧
  (∀ (s : State) (b : List Nat), usbUp s = true → 
    ∃ t, exec (.setup b) s = .next t ∧ t.rd P.usb F.USBDEV_SETUP_LO_DATA = leVal (slice b 0 4) % 2 ^ 32 ∧ t.rd P.usb F.USBDEV_SETUP_HI_DATA = leVal (slice b 4 4) % 2 ^ 32 ∧ t.bit P.usb F.HDR_EV_STAT_EV 1 = true) ∧
  (∀ (s : State) (e n : Nat) (who : By), MayWrite s who P.usb (0x108 + 16 * (e % 9)) → s.on P.usb (F.USBDEV_EP_CFG_EN (e % 9)) = true → s.rd P.usb (F.USBDEV_EP_BUF_OFFSET (e % 9)) + n ≤ 0x40000 → 
    ∃ t, exec (.epArm e n who) s = .next t ∧ t.usb.armed.contains (e % 9) = true) ∧
  (∀ (s : State) (e : Nat) (o : Bool) (b : List Nat), usbUp s = true → s.usb.armed.contains e = true → epDir e o = true → s.on P.usb (F.USBDEV_EP_CFG_EN e) = true → s.on P.usb (F.USBDEV_EP_CTRL_STALL e) = false → 
    ∃ t, exec (.epDone e o b) s = .next t ∧ t.usb.armed.contains e = false ∧ t.rd P.usb (F.USBDEV_EP_STAT_DONE e) = 1 ∧ t.rd P.usb (F.USBDEV_EP_STAT_XFER e) = (if o then (b.take (s.rd P.usb (F.USBDEV_EP_CTRL_LEN e))).length else s.rd P.usb (F.USBDEV_EP_CTRL_LEN e)) % 2 ^ (F.USBDEV_EP_STAT_XFER e).width)

/-- HALO_ENTRY_AGED (R135): the entry of a source and group that no frame has touched for HALO_AGE is invalid, CNT_AGED counts it,
and every other entry is as before. -/
def Obligations.UntouchedHaloEntryAges : Prop :=
  ∀ (s : State) (a g x : Nat), lanesOn s = true → a < 4096 → g < 2 → (haloEnt s a g).valid = true → (haloEnt s a g).touch + haloAge s ≤ s.upAt x →
    ∃ t, exec (.haloEntryAged a g x) s = .next t ∧ (haloEnt t a g).valid = false ∧
      t.rd P.halo F.HALO_CNT_AGED_N = satAdd F.HALO_CNT_AGED_N.width (s.rd P.halo F.HALO_CNT_AGED_N) 1 ∧
      (∀ b h, h < 2 → (b ≠ a ∨ h ≠ g) → haloEnt t b h = haloEnt s b h)

/-- CORE_DONE, or the same word written by REGISTER_WRITE (R514): before C(n) a core's bit becomes set where that core itself
writes 1 to it; a write of another initiator leaves it as it is at any time, and no rejection is recorded. -/
def Obligations.CoreDoneIsTakenFromItsOwnCoreOnly : Prop :=
  ∀ (s : State) (who : By) (m k : Nat) (c : Instr), MayWrite s who P.time 0x068 → k < 4 → m < 16 →
    (c = .coreDone who m ∨ c = .registerWrite who P.time 0x068 m) →
    ∃ t, exec c s = .next t ∧
      (s.time.pastC = false → s.now < commitAt s →
        t.bit P.time F.TIME_CORE_DONE_DONE k = (s.bit P.time F.TIME_CORE_DONE_DONE k || (who.ini == k && bitOf m k))) ∧
      (who.ini ≠ k → t.bit P.time F.TIME_CORE_DONE_DONE k = s.bit P.time F.TIME_CORE_DONE_DONE k) ∧
      (∀ f : Fld, 0x058 ≤ f.off → f.off ≤ 0x060 → t.rd P.node f = s.rd P.node f)

/-- R27: a request for a warm reset (RESET_CTRL with its key, the second expiry, at its time, of a field core's watchdog and of
the management watchdog) is added to those that wait, while no reset is asserted; WARM_RESET is one reset for all that wait, and
RESET_CAUSE has the bit of every one of them. -/
def Obligations.WarmResetRequestsMerge : Prop :=
  (∀ (s : State) (who : By), MayWrite s who P.node 0x050 → (s.role ≠ 3 ∨ partnerCarries s = true) →
    ∃ t, exec (.resetCtrl who 0x5752) s = .next t ∧ t.node.inReset = false ∧
      ∀ k, k ∈ t.node.resetReq ↔ k ∈ s.node.resetReq ∨ k = if who.ini = 8 then RC.remote else RC.software) ∧
  (∀ (s : State) (k : Nat), k < 4 → wdtMay s k = true → s.bit P.cores F.CORES_FWDT_STAT_WARNED k = true →
    ∃ t, exec (.fwdtExpiry k) s = .next t ∧ t.node.inReset = false ∧
      ∀ j, j ∈ t.node.resetReq ↔ j ∈ s.node.resetReq ∨ j = RC.wdtCore) ∧
  (∀ (s : State), wdtMay s 4 = true → s.on P.cores F.CORES_MWDT_STAT_WARNED = true →
    ∃ t, exec .mwdtExpiry s = .next t ∧ t.node.inReset = false ∧
      ∀ j, j ∈ t.node.resetReq ↔ j ∈ s.node.resetReq ∨ j = RC.wdtMgmt) ∧
  (∀ (s : State), s.node.rails = true → s.node.rstLow = false → s.node.inReset = false → s.node.resetReq ≠ [] →
    s.ao.writing.map (·.1) ≠ some 1 →
    ∃ t, exec .warmReset s = .next t ∧ t.node.inReset = true ∧ t.node.resetReq = [] ∧
      ∀ k ∈ s.node.resetReq, t.rd P.node (causeFld k) = 1)

/-- REGISTER_WRITE, by an initiator that reaches the page, of a write that is refused (R47): COUNT goes up by 1. Where VALID is 0,
as after a release, WRITE_REJECT0 and WRITE_REJECT1 hold this rejection; where it is 1 they hold what they held, and MULTI is 1.
-/
def Obligations.FirstRejectionIsHeld : Prop :=
  ∀ (s : State) (who : By) (page off w cause : Nat) (cls : Option Cls), s.alive = true → (pageRow page).isSome = true → tapShut s who page = false →
    (onFieldDie page = true → who.ini = 8 ∧ s.stitch.down = false) → registerAt page off = true →
    writeRefusal (dropArms s page) who page off (w % 2 ^ 32) (armedFor s who page) = some (cause, cls) →
    ∃ t, exec (.registerWrite who page off w) s = .next t ∧
      t.rd P.node F.NODE_WRITE_REJECT2_COUNT = satAdd F.NODE_WRITE_REJECT2_COUNT.width (s.rd P.node F.NODE_WRITE_REJECT2_COUNT) 1 ∧
      (s.on P.node F.NODE_WRITE_REJECT0_VALID = false →
        t.rd P.node F.NODE_WRITE_REJECT0_VALID = 1 ∧ t.rd P.node F.NODE_WRITE_REJECT0_CAUSE = cause % 8 ∧
        (∀ k, cls = some k → t.rd P.node F.NODE_WRITE_REJECT0_WCLASS = k.code % 8) ∧
        t.rd P.node F.NODE_WRITE_REJECT0_PAGE = page % 1024 ∧ t.rd P.node F.NODE_WRITE_REJECT1_OFFSET = off % 4096 ∧
        t.rd P.node F.NODE_WRITE_REJECT1_INITIATOR = who.ini % 16 ∧
        (who.ini = 8 → t.rd P.node F.NODE_WRITE_REJECT1_SRC_NODE = who.src % 4096) ∧
        t.rd P.node F.NODE_WRITE_REJECT0_MULTI = s.rd P.node F.NODE_WRITE_REJECT0_MULTI) ∧
      (s.on P.node F.NODE_WRITE_REJECT0_VALID = true →
        t.rd P.node F.NODE_WRITE_REJECT0_MULTI = 1 ∧
        ∀ f ∈ [F.NODE_WRITE_REJECT0_VALID, F.NODE_WRITE_REJECT0_CAUSE, F.NODE_WRITE_REJECT0_WCLASS, F.NODE_WRITE_REJECT0_PAGE,
            F.NODE_WRITE_REJECT1_SRC_NODE, F.NODE_WRITE_REJECT1_INITIATOR, F.NODE_WRITE_REJECT1_OFFSET],
          t.rd P.node f = s.rd P.node f)

/-- R553: while an image is STAGED, a store into an inactive bank (BANK_TOUCHED) returns UPDATE to NONE with RESULT BANK_TOUCHED
(11), and UNSTAGE does so with RESULT OK (1); a new APPLY gives up the staged image and its activation and starts the apply
engine, whose success (APPLY_DONE) stages the image that the inactive slot then holds. -/
def Obligations.StagedImageIsGivenUp : Prop :=
  (∀ (s : State) (a : Nat) (b : List Nat), s.alive = true → inactiveBank a = true → inactiveBank (a + b.length - 1) = true → updState s = 2 →
    ∃ t, exec (.bankTouched a b) s = .next t ∧ updState t = 0 ∧ t.rd P.node F.NODE_NODE_STATE_UPDATE = 0 ∧
      t.rd P.upd F.UPDATE_UPD_STAT_RESULT = 11 ∧ t.mgmt.actDue = none) ∧
  (∀ (s : State) (who : By), MayWrite s who P.upd 0x044 → updState s = 2 →
    ∃ t, exec (.unstage who) s = .next t ∧ updState t = 0 ∧ t.rd P.node F.NODE_NODE_STATE_UPDATE = 0 ∧
      t.rd P.upd F.UPDATE_UPD_STAT_RESULT = 1 ∧ t.mgmt.actDue = none) ∧
  (∀ (s : State) (who : By), MayWrite s who P.upd 0x044 → updState s = 2 → (s.working = true ∨ s.st = NS.join) →
    ∃ t, exec (.applySlot who) s = .next t ∧ updState t = 1 ∧ t.rd P.node F.NODE_NODE_STATE_UPDATE = 0 ∧ t.mgmt.actDue = none) ∧
  (∀ (s : State) (err : Bool), s.alive = true → updState s = 1 →
    ∃ t, exec (.applyDone err) s = .next t ∧ (updState t = 0 ∨ updState t = 2) ∧
      (updState t = 2 → t.rd P.upd F.UPDATE_UPD_STAT_RESULT = 1 ∧ t.mgmt.staged = imgInfo t (1 - activeSlot t)) ∧
      (updState t = 0 → 4 ≤ t.rd P.upd F.UPDATE_UPD_STAT_RESULT ∧ t.mgmt.staged = s.mgmt.staged))

/-- MTIP (R509): ring time reaches MTIMECMPk, and the timer interrupt of core k is asserted; the other cores and every register
are as they were. HART_EN (R511): a field core runs exactly where its bit is set, CORE is on and the node is not in ISOLATE; one
that starts does so at RESET_VEC; DBG_PAUSE holds what is written. COMMIT_WARN (R513): at C(n) less WARN_LEAD (at least 1 µs) it
is counted where a judged core has not declared done. FWDT_KICK (R515) with the key and the own bit by that core: its WARNED bit
is 0, those of the others stand. FWDT_EXPIRY, the first, when the timer that counts has reached TIME: the core's WARNED bit is set
and CNT_FWDT_WARN counts it. MWDT_KICK (R516) with the key by the management core: WARNED is 0. MWDT_EXPIRY, the first, likewise:
WARNED is set and CNT_MWDT_WARN counts it. The second expiries are WarmResetRequestsMerge. CLAIM (R519): a read of CLAIMk by an
initiator that reaches the page gives VALID and, of the sources pending, enabled and above THRESHk, the one of highest priority,
of equal ones the lowest number, and puts it in service; with none it gives 0. EVT_PULSE_END (R522): the pulse of pin p ends,
those of the other pins go on. -/
def Obligations.CoresWatchdogsAndClaims : Prop :=
  (∀ (s : State) (k x : Nat), s.alive = true → k < 5 → mtimecmp s k ≤ x →
    ∃ t, exec (.mtip k x) s = .next t ∧ (Sys2Proof.Machine.core t k).mtip = true ∧ (∀ j, j ≠ k → Sys2Proof.Machine.core t j = Sys2Proof.Machine.core s j) ∧ t.now = max s.now x ∧
      t.regs = s.regs) ∧
  (∀ (s : State) (who : By) (m : Nat) (p : Bool), MayWrite s who P.cores 0x040 → m < 16 →
    ∃ t, exec (.hartEn who m p) s = .next t ∧ t.rd P.cores F.CORES_CORE_CTRL_HART_EN = m ∧
      t.rd P.cores F.CORES_CORE_CTRL_DBG_PAUSE = b2n p ∧
      ∀ k < 4, t.bit P.cores F.CORES_CORE_STAT_RUNNING k = (bitOf m k && domOn s 3 && s.st != NS.isolate) ∧
        (t.bit P.cores F.CORES_CORE_STAT_RUNNING k = true → s.bit P.cores F.CORES_CORE_STAT_RUNNING k = false →
          (Sys2Proof.Machine.core t k).entry = resetVec s)) ∧
  (∀ (s : State) (x : Nat), s.alive = true → s.on P.cores F.CORES_EV_CFG_COMMIT_WARN = true →
    x + max 1 (s.rd P.cores F.CORES_EV_CFG_WARN_LEAD) * 1000 = commitAt s →
    (∃ k < 4, bitOf (coresJudged s) k = true ∧ s.bit P.time F.TIME_CORE_DONE_DONE k = false) →
    ∃ t, exec (.commitWarn x) s = .next t ∧ t.rd P.cores F.CORES_CNT_COMMIT_WARN_N =
      satAdd F.CORES_CNT_COMMIT_WARN_N.width (s.rd P.cores F.CORES_CNT_COMMIT_WARN_N) 1) ∧
  (∀ (s : State) (who : By) (m : Nat), MayWrite s who P.cores 0x0B4 → who.ini < 4 → m < 16 → bitOf m who.ini = true →
    ∃ t, exec (.fwdtKick who 0x4B43 m) s = .next t ∧ t.bit P.cores F.CORES_FWDT_STAT_WARNED who.ini = false ∧
      ∀ k < 4, k ≠ who.ini → t.bit P.cores F.CORES_FWDT_STAT_WARNED k = s.bit P.cores F.CORES_FWDT_STAT_WARNED k) ∧
  (∀ (s : State) (k : Nat), k < 4 → wdtMay s k = true → s.bit P.cores F.CORES_FWDT_STAT_WARNED k = false →
    ∃ t, exec (.fwdtExpiry k) s = .next t ∧ t.bit P.cores F.CORES_FWDT_STAT_WARNED k = true ∧
      t.rd P.cores F.CORES_CNT_FWDT_WARN_N = satAdd F.CORES_CNT_FWDT_WARN_N.width (s.rd P.cores F.CORES_CNT_FWDT_WARN_N) 1) ∧
  (∀ (s : State) (who : By), MayWrite s who P.cores 0x0C4 → who.ini = 4 →
    ∃ t, exec (.mwdtKick who 0x4B43) s = .next t ∧ t.rd P.cores F.CORES_MWDT_STAT_WARNED = 0) ∧
  (∀ (s : State), wdtMay s 4 = true → s.on P.cores F.CORES_MWDT_STAT_WARNED = false →
    ∃ t, exec .mwdtExpiry s = .next t ∧ t.rd P.cores F.CORES_MWDT_STAT_WARNED = 1 ∧
      t.rd P.cores F.CORES_CNT_MWDT_WARN_N = satAdd F.CORES_CNT_MWDT_WARN_N.width (s.rd P.cores F.CORES_CNT_MWDT_WARN_N) 1) ∧
  (∀ (s : State) (k : Nat) (who : By), s.alive = true → k < 5 → tapShut s who P.ev3 = false →
    ∃ t, exec (.claim k who) s = .next t ∧
      (∀ n < 512, claimable s k n = true →
        (∀ m < 512, claimable s k m = true → m = n ∨ srcPrio s m < srcPrio s n ∨ srcPrio s m = srcPrio s n ∧ n < m) →
        t.stitch.readBack.at 0 (armWho who) = 2 ^ 31 + n ∧ t.router.service = s.router.service ++ [(n, k)]) ∧
      ((∀ m < 512, claimable s k m = false) →
        t.stitch.readBack.at 0 (armWho who) = 0 ∧ t.router.service = s.router.service)) ∧
  (∀ (s : State) (p : Nat), s.alive = true →
    ∃ t, exec (.evtPulseEnd p) s = .next t ∧ p ∉ t.router.pulses ∧ ∀ q, q ≠ p → (q ∈ t.router.pulses ↔ q ∈ s.router.pulses))

/-- OTP_CMD (R540) under FEED with PG_MAIN, none running: PROGRAM_KEY of a slot 1 to 3 not programmed, REVOKE_KEY of one not
refused, DEBUG_LOCK and DEBUG_DISABLE begin: BUSY 1, RESULT 0, no fuse changes. OTP_DONE: BUSY 0; where every bit reads back
RESULT is OK (1), and the slot has the hash of OTP_DATA and is PROGRAMMED, or is revoked, or the debug lock is at least LOCKED or
DISABLED, or the anti-rollback count at least the number given, at most 32; else RESULT is 4. VFY_CMD (R538) on 160 bytes within
its data space: BUSY 1, RESULT 0. VFY_DONE: BUSY 0; the key's hash in no named slot is RESULT 2, in revoked ones only 3; in a live
one OK (1) with SIGNER where the signature is good, else 4; CFG_OK for the line configuration under a slot admitted for one, and
only then. UNLOCK by JTAG (R541): DISABLED, or the third failure, is RESULT 4, uncounted; a key of no slot is RESULT 3, a bad
signature 2, both counted in DEBUG_FAILS; else OK and UNLOCKED. In DAWN (R548), every answer with the command's TAG: INFO answers
OK with 64 bytes, UID, KEY_STAT, COUNT, BOOT_INFO and DAWN_INFO first (the rest open, log 53), on the host path in the response
block with the doorbell; another CMD BAD_CMD (log 122). BEGIN of a header that R545 refuses answers why and leaves memory but the
response block; a good one OK, and its download begins. DATA within the image, at a multiple of 4 from 0x100 on, answers OK, above
4,096 bytes RANGE; each flash byte that it covers is the AND of old and new, and no other changes. END with a wrong part hash
answers HASH and leaves the download; with good ones OK, the download is over, the boot-fail count and the Dawn request are
cleared, DAWN_INFO.PATH is the path. EXIT after a slot passed END answers OK and requests the warm reset; with none passed or
valid NO_IMAGE. BULK_DISTRIBUTION (R550): a manifest for this node starts its carousel; a block while the ROM is busy is dropped;
another within the image that is not the last one missing is taken, once. -/
def Obligations.FusesSignaturesAndDawn : Prop :=
  (∀ (s : State) (who : By) (k : Nat), MayWrite s who P.sec 0x170 → s.mgmt.otpBusy = none → s.service = false → pgMain s = true →
    1 ≤ k → k < 4 → bitOf s.otp.programmed k = false →
    ∃ t, exec (.programKey who k) s = .next t ∧ t.mgmt.otpBusy = some (1, k) ∧ t.rd P.sec F.SECURITY_OTP_STAT_BUSY = 1 ∧
      t.rd P.sec F.SECURITY_OTP_STAT_RESULT = 0 ∧ t.otp = s.otp) ∧
  (∀ (s : State) (who : By) (k : Nat), MayWrite s who P.sec 0x170 → s.mgmt.otpBusy = none → s.service = false → pgMain s = true →
    k < 4 → otpRefused s 2 k = false →
    ∃ t, exec (.revokeKey who k) s = .next t ∧ t.mgmt.otpBusy = some (2, k) ∧ t.rd P.sec F.SECURITY_OTP_STAT_BUSY = 1 ∧
      t.rd P.sec F.SECURITY_OTP_STAT_RESULT = 0 ∧ t.otp = s.otp) ∧
  (∀ (s : State) (who : By), MayWrite s who P.sec 0x170 → s.mgmt.otpBusy = none → s.service = false → pgMain s = true →
    ∃ t, exec (.debugLock who) s = .next t ∧ t.mgmt.otpBusy = some (3, 0) ∧ t.rd P.sec F.SECURITY_OTP_STAT_BUSY = 1 ∧
      t.rd P.sec F.SECURITY_OTP_STAT_RESULT = 0 ∧ t.otp = s.otp) ∧
  (∀ (s : State) (who : By), MayWrite s who P.sec 0x170 → s.mgmt.otpBusy = none → s.service = false → pgMain s = true →
    ∃ t, exec (.debugDisable who) s = .next t ∧ t.mgmt.otpBusy = some (4, 0) ∧ t.rd P.sec F.SECURITY_OTP_STAT_BUSY = 1 ∧
      t.rd P.sec F.SECURITY_OTP_STAT_RESULT = 0 ∧ t.otp = s.otp) ∧
  (∀ (s : State) (op k : Nat) (ok : Bool), s.alive = true → s.mgmt.otpBusy = some (op, k) → 1 ≤ op → op ≤ 5 →
    (op = 5 → s.service = false ∧ pgMain s = true) →
    ∃ t, exec (.otpDone ok) s = .next t ∧ t.mgmt.otpBusy = none ∧ t.rd P.sec F.SECURITY_OTP_STAT_BUSY = 0 ∧
      t.rd P.sec F.SECURITY_OTP_STAT_RESULT = (if ok && keyReadsBack s op k then 1 else 4) ∧
      (ok = true → keyReadsBack s op k = true →
        (op = 1 → bitOf t.otp.programmed k = true ∧ t.otp.keyHash.at 0 k = otpData s) ∧ (op = 2 → bitOf t.otp.revoked k = true) ∧
        (op = 3 → t.otp.lock = max s.otp.lock 1) ∧ (op = 4 → t.otp.lock = max s.otp.lock 2) ∧
        (op = 5 → t.otp.rollback = max s.otp.rollback (min 32 k)))) ∧
  (∀ (s : State) (who : By) (keys : Nat), MayWrite s who P.sec 0x17C → s.mgmt.vfyBusy = none →
    (s.on P.sec F.SECURITY_VFY_ADDR_SPACE = true → who.ini = 4) → s.rd P.sec F.SECURITY_VFY_ADDR_OFFSET + 160 ≤ (vfySpace s).2 → keys < 16 →
    ∃ t, exec (.vfyCmd who keys) s = .next t ∧
      t.mgmt.vfyBusy = some (keys, (vfySpace s).1 + s.rd P.sec F.SECURITY_VFY_ADDR_OFFSET) ∧
      t.rd P.sec F.SECURITY_VFY_STAT_BUSY = 1 ∧ t.rd P.sec F.SECURITY_VFY_STAT_RESULT = 0) ∧
  (∀ (s : State) (cfg : Bool) (keys a : Nat), s.alive = true → s.mgmt.vfyBusy = some (keys, a) →
    ∃ t, exec (.vfyDone cfg) s = .next t ∧ t.mgmt.vfyBusy = none ∧ t.rd P.sec F.SECURITY_VFY_STAT_BUSY = 0 ∧
      (let b := s.memRead a 160
       let here := [0, 1, 2, 3].filter fun k => bitOf keys k && bitOf s.otp.programmed k && keyHash s k == Config.sha256 (slice b 32 64)
       let good := Config.ecdsaOk (slice b 32 64) (beVal (slice b 0 32)) (slice b 96 64)
       (here = [] → t.rd P.sec F.SECURITY_VFY_STAT_RESULT = 2) ∧
       (here ≠ [] → here.any (keyLive s) = false → t.rd P.sec F.SECURITY_VFY_STAT_RESULT = 3) ∧
       (∀ k, here.find? (keyLive s) = some k →
         t.rd P.sec F.SECURITY_VFY_STAT_RESULT = (if good then 1 else 4) ∧ t.rd P.sec F.SECURITY_VFY_STAT_SIGNER = k ∧
         (good = true → t.rd P.node F.NODE_STATE_INFO_CFG_OK =
           if cfg && (here.filter (keyLive s)).any (keysFor s true).contains then 1 else s.rd P.node F.NODE_STATE_INFO_CFG_OK)))) ∧
  (∀ (s : State) (who : By), MayWrite s who P.sec 0x140 → who.ini = 7 →
    ∃ t, exec (.unlock who) s = .next t ∧
      (let resp := (List.range 32).flatMap fun w => leBytes 4 (s.rd P.sec (F.SECURITY_RESP_R w))
       let chal := (List.range 8).flatMap fun w => leBytes 4 (s.rd P.sec (F.SECURITY_CHAL_C w))
       let shut := s.otp.lock = 2 ∨ 3 ≤ s.rd P.sec F.SECURITY_DEBUG_FAILS
       let known := keyMatch s (keysFor s true) (slice resp 0 64)
       let good := Config.ecdsaOk (slice resp 0 64) (Config.sha256 (chal ++ leBytes 16 s.otp.uid ++ [1])) (slice resp 64 64)
       (shut → t.rd P.sec F.SECURITY_UNLOCK_STAT_RESULT = 4 ∧ t.rd P.sec F.SECURITY_DEBUG_FAILS = s.rd P.sec F.SECURITY_DEBUG_FAILS) ∧
       (¬shut → known = none → t.rd P.sec F.SECURITY_UNLOCK_STAT_RESULT = 3 ∧
         t.rd P.sec F.SECURITY_DEBUG_FAILS = s.rd P.sec F.SECURITY_DEBUG_FAILS + 1) ∧
       (¬shut → known ≠ none → good = false → t.rd P.sec F.SECURITY_UNLOCK_STAT_RESULT = 2 ∧
         t.rd P.sec F.SECURITY_DEBUG_FAILS = s.rd P.sec F.SECURITY_DEBUG_FAILS + 1) ∧
       (¬shut → known ≠ none → good = true → t.rd P.sec F.SECURITY_UNLOCK_STAT_RESULT = 1 ∧
         t.rd P.sec F.SECURITY_DEBUG_UNLOCKED = 1))) ∧
  (∀ (s : State) (c : DawnIn), dawnOn s = true →
    ∃ t d, exec (.dawnInfo c) s = .next t ∧
      (1 ≤ c.cmd → c.cmd ≤ 5 → t.mgmt.dawnOut = (c.path, 1, DW.ok, dawnTag s c, d) :: s.mgmt.dawnOut ∧ d.length = 64 ∧
        d.take 32 = leBytes 16 s.otp.uid ++ leBytes 4 (keyStatWord s) ++ leBytes 4 s.otp.rollback ++ leBytes 4 (bootInfoWord s) ++
          leBytes 4 (dawnInfoWord s) ∧
        (c.path = 2 → t.memRead 0x10202000 4 = leBytes 4 (2 ^ 24 + dawnTag s c) ∧ t.memRead 0x1020200C 68 = leBytes 4 64 ++ d ∧
          t.bit P.host F.HOSTPORT_DOORBELL_TO_HOST 0 = true)) ∧
      (c.cmd = 0 ∨ 5 < c.cmd → t.mgmt.dawnOut = (c.path, c.cmd, DW.badCmd, dawnTag s c, []) :: s.mgmt.dawnOut)) ∧
  (∀ (s : State) (c : DawnIn) (a k : Nat) (h : List Nat), dawnOn s = true → dawnSlot s a = some k → h.length = 256 →
    ∃ t, exec (.dawnBegin c a h false) s = .next t ∧
      (judgeHead s h ≠ BC.ok → t.mgmt.dawnOut = (c.path, 2, dawnCause (judgeHead s h), dawnTag s c, []) :: s.mgmt.dawnOut ∧
        (∀ a, (c.path = 2 → a < 0x10202000 ∨ 0x10202010 ≤ a) → t.memAt a = s.memAt a) ∧ t.mgmt.begun = s.mgmt.begun) ∧
      (judgeHead s h = BC.ok → t.mgmt.dawnOut = (c.path, 2, DW.ok, dawnTag s c, []) :: s.mgmt.dawnOut ∧
        t.mgmt.begun = some (k, imgLen h) ∧ t.mgmt.passedEnd = false)) ∧
  (∀ (s : State) (c : DawnIn) (off k len : Nat) (b : List Nat), dawnOn s = true → s.mgmt.begun = some (k, len) → off % 4 = 0 →
    0x100 ≤ off → off + b.length ≤ len →
    ∃ t, exec (.dawnData c off b false) s = .next t ∧
      (dawnMax < b.length → t.mgmt.dawnOut = (c.path, 3, DW.range, dawnTag s c, []) :: s.mgmt.dawnOut ∧
        ∀ a, (c.path = 2 → a < 0x10202000 ∨ 0x10202010 ≤ a) → t.memAt a = s.memAt a) ∧
      (b.length ≤ dawnMax → t.mgmt.dawnOut = (c.path, 3, DW.ok, dawnTag s c, []) :: s.mgmt.dawnOut ∧
        ∀ a, (c.path = 2 → a < 0x10202000 ∨ 0x10202010 ≤ a) → t.memAt a =
          if 0x50000000 + (slotBase k + off) ≤ a ∧ a < 0x50000000 + (slotBase k + off) + b.length then
            s.memAt a &&& BitVec.ofNat 8 (b.getD (a - (0x50000000 + (slotBase k + off))) 0)
          else s.memAt a)) ∧
  (∀ (s : State) (c : DawnIn) (k len : Nat), dawnOn s = true → s.mgmt.begun = some (k, len) → c.path < 16 →
    ∃ t, exec (.dawnEnd c false) s = .next t ∧
      (partsOk s k (slotHead s k) = false → t.mgmt.dawnOut = (c.path, 4, DW.hash, dawnTag s c, []) :: s.mgmt.dawnOut ∧
        t.mgmt.begun = some (k, len) ∧ (∀ a, (c.path = 2 → a < 0x10202000 ∨ 0x10202010 ≤ a) → t.memAt a = s.memAt a)) ∧
      (partsOk s k (slotHead s k) = true → t.mgmt.dawnOut = (c.path, 4, DW.ok, dawnTag s c, []) :: s.mgmt.dawnOut ∧
        t.mgmt.begun = none ∧ t.mgmt.passedEnd = true ∧ t.ao.bootFails = 0 ∧ t.ao.dawnReq = false ∧
        t.rd P.mgmt F.MGMT_DAWN_INFO_PATH = c.path)) ∧
  (∀ (s : State) (c : DawnIn), dawnOn s = true → (s.role ≠ 3 ∨ partnerCarries s = true) →
    ∃ t, exec (.dawnExit c) s = .next t ∧
      (s.mgmt.passedEnd = true → t.mgmt.dawnOut = (c.path, 5, DW.ok, dawnTag s c, []) :: s.mgmt.dawnOut ∧
        RC.software ∈ t.node.resetReq) ∧
      (s.mgmt.passedEnd = false → judgeSlot s 0 false ≠ BC.ok → judgeSlot s 1 false ≠ BC.ok →
        t.mgmt.dawnOut = (c.path, 5, DW.noImage, dawnTag s c, []) :: s.mgmt.dawnOut ∧ t.node = s.node)) ∧
  (∀ (s : State) (f : Frame) (busy : Bool), dawnOn s = true → f.typ = 0xC → f.mc = true → f.dst = 0xFFE → bitsOf f.w3 8 8 = 2 →
    ∃ t, exec (.bulkDistribution f busy) s = .next t ∧
      (f.w4 = 0xFFFFFFFF → f.plen = 64 → (bitOf (beAt f.pay 40 4) 31 = true → beAt f.pay 48 8 = s.otp.uid % 2 ^ 64) →
        beAt f.pay 40 4 % 4 = 0 → s.mgmt.carousel = none →
        t.mgmt.carousel = some { xfer := bitsOf f.w3 16 16, len := beAt f.pay 0 4, blocks := beAt f.pay 4 4 }) ∧
      (f.w4 ≠ 0xFFFFFFFF → busy = true → t = s) ∧
      (∀ c k len, f.w4 ≠ 0xFFFFFFFF → busy = false → s.mgmt.carousel = some c → c.xfer = bitsOf f.w3 16 16 → 1 ≤ f.w4 → f.w4 < c.blocks →
        f.w4 ∉ c.have' → s.mgmt.begun = some (k, len) → 2048 * f.w4 + f.pay.length ≤ len →
        (∃ j < c.blocks, j ≠ f.w4 ∧ j ∉ c.have') →
        t.mgmt.carousel = some { c with have' := c.have' ++ [f.w4] } ∧ t.mem = (flashProgram s (slotBase k + 2048 * f.w4) f.pay).mem))

/-- ACT_GO (R554): with e from tick n + 2 on, a staged image and a state that allows activation, it is due at e; without them it
is counted in CNT_ACT_IGNORED and nothing more is due; with e below that RESULT is LEAD (15) and nothing more is due. EXPORT_DONE
and ACT_READY (R555) by a core with its own bit: that bit is set, those of the others stand. ECLIPSE_N (R566) low for 20 ns or
more with PIN_IN, not driven by the node: ECLIPSE with CAUSE 1 from the falling edge; a shorter pulse changes nothing. ECL_NOW:
ECLIPSE at once with CAUSE 2. ECL_ARM (R567): an instant ahead is armed where none is or a later one; where an earlier one is it
is counted as ignored; one not ahead freezes at once with CAUSE 3. DISARM: none is armed. ARM_REACHED: ECLIPSE at the armed
instant with CAUSE 3, or 4 for the ring's. ECL_REQ (R574, R575) from a node that may write the ECLIPSE page: an instant ahead is
armed with its source, REQ_ID, SCOPE and COLLECTOR; one not longer past than LATE_ECL (at most 1 s) freezes at once with CAUSE 4
and LATE (notes/assumptions/57.md); an older one is counted as stale; CANCEL of the armed one clears it; from another node it is
counted as refused. DUMP_REQ and AUTO_DUMP (R580): the stream is the range asked for, or every segment of DUMP_CFG.SEGS, less the
frame of up to 2,048 bytes that leaves now where none waits. ECL_RELEASE: the warm reset that ends the Eclipse is requested.
JTAG_READOUT (R579): the 32 bits at the offset, without side effect; in segment 4 they are the memory's. -/
def Obligations.ActivationAndEclipse : Prop :=
  (∀ (s : State) (who : By), MayWrite s who P.upd 0x05C →
    ∃ t, exec (.actGo who) s = .next t ∧
      (let e := s.rd64 P.upd F.UPDATE_ACT_EFF_LO_E F.UPDATE_ACT_EFF_HI_E
       (s.tick + 2 ≤ e → (s.working = true ∨ s.st = NS.join) → updState s = 2 → t.mgmt.actDue = some e) ∧
       (e < s.tick + 2 → t.rd P.upd F.UPDATE_UPD_STAT_RESULT = 15 ∧ t.mgmt.actDue = s.mgmt.actDue) ∧
       (s.tick + 2 ≤ e → (s.working = false ∧ s.st ≠ NS.join ∨ updState s ≠ 2) → t.rd P.upd F.UPDATE_CNT_ACT_IGNORED_N =
          satAdd F.UPDATE_CNT_ACT_IGNORED_N.width (s.rd P.upd F.UPDATE_CNT_ACT_IGNORED_N) 1 ∧ t.mgmt.actDue = s.mgmt.actDue))) ∧
  (∀ (s : State) (who : By) (m : Nat), MayWrite s who P.upd 0x068 → who.ini < 5 → bitOf m who.ini = true →
    ∃ t, exec (.exportDone who m) s = .next t ∧ t.bit P.upd F.UPDATE_EXPORT_DONE_D who.ini = true ∧
      ∀ k < 5, k ≠ who.ini → t.bit P.upd F.UPDATE_EXPORT_DONE_D k = s.bit P.upd F.UPDATE_EXPORT_DONE_D k) ∧
  (∀ (s : State) (who : By) (m : Nat), MayWrite s who P.upd 0x06C → who.ini < 5 → bitOf m who.ini = true →
    ∃ t, exec (.actReady who m) s = .next t ∧ t.bit P.upd F.UPDATE_READY_R who.ini = true ∧
      ∀ k < 5, k ≠ who.ini → t.bit P.upd F.UPDATE_READY_R k = s.bit P.upd F.UPDATE_READY_R k) ∧
  (∀ (s : State) (x w : Nat), s.alive = true → s.on P.ecl F.ECLIPSE_ECL_CFG_PIN_IN = true → s.ecl.pinLow = false →
    ∃ t, exec (.eclipseN x w) s = .next t ∧ (w < 20 → t = s) ∧
      (20 ≤ w → t.st = NS.eclipse ∧ t.rd P.ecl F.ECLIPSE_ECL_STAT_FROZEN = 1 ∧ t.rd P.ecl F.ECLIPSE_ECL_STAT_CAUSE = 1 ∧ t.ecl.tF = x)) ∧
  (∀ (s : State) (who : By), MayWrite s who P.ecl 0x054 →
    ∃ t, exec (.eclNow who) s = .next t ∧ t.st = NS.eclipse ∧ t.rd P.ecl F.ECLIPSE_ECL_STAT_FROZEN = 1 ∧
      t.rd P.ecl F.ECLIPSE_ECL_STAT_CAUSE = 2 ∧ t.ecl.tF = s.now) ∧
  (∀ (s : State) (who : By) (x : Nat), MayWrite s who P.ecl 0x054 → s.rd64 P.ecl F.ECLIPSE_ARM_T_LO_NS F.ECLIPSE_ARM_T_HI_NS = x →
    ∃ t, exec (.eclArm who) s = .next t ∧
      (s.now < x → (∀ a, s.ecl.armed = some a → x < a.1) → t.ecl.armed = some (x, s.own, 0, false, 0, 0)) ∧
      (∀ a, s.now < x → s.ecl.armed = some a → a.1 ≤ x → t.ecl.armed = some a ∧
        t.rd P.ecl F.ECLIPSE_CNT_REQ_IGNORED_N = satAdd F.ECLIPSE_CNT_REQ_IGNORED_N.width (s.rd P.ecl F.ECLIPSE_CNT_REQ_IGNORED_N) 1) ∧
      (x ≤ s.now → t.st = NS.eclipse ∧ t.rd P.ecl F.ECLIPSE_ECL_STAT_CAUSE = 3 ∧ t.ecl.tF = s.now)) ∧
  (∀ (s : State) (who : By), MayWrite s who P.ecl 0x054 →
    ∃ t, exec (.disarm who) s = .next t ∧ t.ecl.armed = none) ∧
  (∀ (s : State) (x t0 src id sc co : Nat) (ring : Bool), s.alive = true → s.ecl.armed = some (t0, src, id, ring, sc, co) → t0 ≤ x →
    ∃ t, exec (.armReached x) s = .next t ∧ t.st = NS.eclipse ∧ t.rd P.ecl F.ECLIPSE_ECL_STAT_FROZEN = 1 ∧
      t.rd P.ecl F.ECLIPSE_ECL_STAT_CAUSE = (if ring then 4 else 3) ∧ t.ecl.tF = t0 ∧
      t.ecl.scope = (if ring then sc else s.rd P.ecl F.ECLIPSE_ECL_CFG_SCOPE)) ∧
  (∀ (s : State) (f : Frame), s.alive = true → (s.mayInsert = true ∨ s.st = NS.isolate) → eclFrame f 0x10 = true → eclTarget s f = true →
    ∃ t, exec (.eclReq f) s = .next t ∧
      (let x := beAt f.pay 0 8
       let w := beAt f.pay 8 4
       let late := min 1000000 (s.rd P.ecl F.ECLIPSE_ECL_LATE_LATE_ECL) * 1000
       (remoteOpen s f.src P.ecl = false → t.rd P.ecl F.ECLIPSE_CNT_REQ_REFUSED_N =
          satAdd F.ECLIPSE_CNT_REQ_REFUSED_N.width (s.rd P.ecl F.ECLIPSE_CNT_REQ_REFUSED_N) 1 ∧ t.ecl.armed = s.ecl.armed) ∧
       (remoteOpen s f.src P.ecl = true → bitOf w 29 = false → s.now < x → s.ecl.armed = none →
          t.ecl.armed = some (x, f.src, w % 2 ^ 16, true, bitsOf w 30 1, eclCollector s f) ∧
          t.rd P.ecl F.ECLIPSE_CNT_REQ_N = satAdd F.ECLIPSE_CNT_REQ_N.width (s.rd P.ecl F.ECLIPSE_CNT_REQ_N) 1) ∧
       (remoteOpen s f.src P.ecl = true → bitOf w 29 = false → x ≤ s.now → s.now - x ≤ late →
          t.st = NS.eclipse ∧ t.rd P.ecl F.ECLIPSE_ECL_STAT_CAUSE = 4 ∧ t.rd P.ecl F.ECLIPSE_ECL_STAT_LATE = 1 ∧ t.ecl.tF = s.now) ∧
       (remoteOpen s f.src P.ecl = true → bitOf w 29 = false → x ≤ s.now → late < s.now - x →
          t.rd P.ecl F.ECLIPSE_CNT_REQ_STALE_N = satAdd F.ECLIPSE_CNT_REQ_STALE_N.width (s.rd P.ecl F.ECLIPSE_CNT_REQ_STALE_N) 1) ∧
       (∀ a, remoteOpen s f.src P.ecl = true → bitOf w 29 = true → s.ecl.armed = some a → a.2.1 = f.src → a.2.2.1 = w % 2 ^ 16 →
          t.ecl.armed = none))) ∧
  (∀ (s : State) (f : Frame) (k x n : Nat), lanesOn s = true → s.st = NS.eclipse → eclFrame f 0x12 = true → isOwn s f.dst = true →
    f.src = s.ecl.collector → f.w3 / 2 ^ 28 % 16 = k → k < 10 → segOpen s k = true → f.w3 % 2 ^ 28 = x → beAt f.pay 0 4 = n → x < segSize k →
    ∃ t, exec (.dumpReq f) s = .next t ∧
      (let e := if n = 0 then segSize k else min (segSize k) (x + n)
       t.ecl.stream = [(k, if dumpWaits s then x else x + min 2048 (e - x), e)])) ∧
  (∀ (s : State) (x : Nat), lanesOn s = true → s.st = NS.eclipse → s.on P.ecl F.ECLIPSE_ECL_CFG_AUTO_DUMP = true →
    s.ecl.collector ≠ 0xFFF → s.ecl.tF + 1000000 ≤ x →
    ∃ t, exec (.autoDump x) s = .next t ∧
      (let l := ((List.range 10).filter fun k => s.bit P.ecl F.ECLIPSE_DUMP_CFG_SEGS k).map fun k =>
          (k, 0, if segOpen s k then segSize k else 0)
       (dumpWaits s = true → t.ecl.stream = l) ∧
       (∀ k e r, dumpWaits s = false → l = (k, 0, e) :: r → t.ecl.stream = if 0 < e then (k, min 2048 e, e) :: r else r))) ∧
  (∀ (s : State) (f : Frame), lanesOn s = true → s.st = NS.eclipse → eclFrame f 0x14 = true → isOwn s f.dst = true →
    (f.src = s.ecl.collector ∨ remoteOpen s f.src P.ecl = true) →
    ∃ t, exec (.eclRelease f) s = .next t ∧ ∀ j, j ∈ t.node.resetReq ↔ j ∈ s.node.resetReq ∨ j = RC.eclipse) ∧
  (∀ (s : State) (k x : Nat), s.node.rails = true → s.st = NS.eclipse → segOpen s k = true → x + 4 ≤ segSize k →
    ∃ t, exec (.jtagReadout k x) s = .next t ∧ t.stitch.readBack.at 0 7 = leVal (segRead s k x 4).1 ∧
      (k = 4 → 0x200000 ≤ x → t.stitch.readBack.at 0 7 = leVal (s.memRead (0x10000000 + x) 4)) ∧
      t.mem = s.mem ∧ t.ecl = s.ecl ∧ ∀ p f i, t.rdi p f i = s.rdi p f i)
end

