-- ==== Sys2Proof/Laws/Assoc.lean ====
section
/-!
SUPPORT. What the sparse tables of Machine/Assoc.lean do: a read after a write, and that a write keeps the order of the keys.
-/

namespace Sys2Proof.Machine

section
variable {κ α : Type} [DecidableEq κ]

theorem alGet_alErase_same (t : List (κ × α)) (k : κ) (d : α) : alGet (alErase t k) k d = d := by
  induction t with
  | nil => rfl
  | cons e r ih =>
    unfold alErase
    split
    · exact ih
    · rename_i h
      simp [alGet, h, ih]

theorem alGet_alErase_ne (t : List (κ × α)) {k j : κ} (h : j ≠ k) (d : α) : alGet (alErase t k) j d = alGet t j d := by
  induction t with
  | nil => rfl
  | cons e r ih =>
    unfold alErase
    split
    · rename_i hk
      have : e.1 ≠ j := fun x => h (x.symm.trans hk)
      rw [ih, alGet, if_neg this]
    · simp only [alGet, ih]

theorem alGet_alInsert_ne (lt : κ → κ → Bool) (t : List (κ × α)) {k j : κ} (h : j ≠ k) (v d : α) :
    alGet (alInsert lt t k v) j d = alGet t j d := by
  induction t with
  | nil => simp [alInsert, alGet, h.symm]
  | cons e r ih =>
    unfold alInsert
    split
    · simp [alGet, h.symm]
    · simp only [alGet, ih]

theorem alGet_alInsert_same (lt : κ → κ → Bool) (t : List (κ × α)) (k : κ) (v d : α) :
    alGet (alInsert lt (alErase t k) k v) k d = v := by
  induction t with
  | nil => simp [alErase, alInsert, alGet]
  | cons e r ih =>
    unfold alErase
    split
    · exact ih
    · rename_i hk
      unfold alInsert
      split
      · simp [alGet]
      · simp [alGet, hk, ih]

variable [DecidableEq α]

/-- A read of the key just written. -/
theorem alGet_alSet_same (lt : κ → κ → Bool) (t : List (κ × α)) (k : κ) (d v : α) : alGet (alSet lt t k d v) k d = v := by
  unfold alSet
  split
  · rename_i h
    rw [alGet_alErase_same, h]
  · exact alGet_alInsert_same ..

/-- A read of any other key. -/
theorem alGet_alSet_ne (lt : κ → κ → Bool) (t : List (κ × α)) {k j : κ} (h : j ≠ k) (d e v : α) :
    alGet (alSet lt t k d v) j e = alGet t j e := by
  unfold alSet
  split
  · exact alGet_alErase_ne _ h _
  · rw [alGet_alInsert_ne _ _ h, alGet_alErase_ne _ h]

end

/-! ## Order -/

/-- A strict total order on keys, as `alSet` takes it. -/
structure StrictOrder {κ : Type} (lt : κ → κ → Bool) : Prop where
  trans : ∀ {a b c}, lt a b = true → lt b c = true → lt a c = true
  total : ∀ {a b}, a ≠ b → lt a b = false → lt b a = true

theorem natLt_strictOrder : StrictOrder natLt := by
  constructor
  · intro a b c
    simp only [natLt, decide_eq_true_eq]
    omega
  · intro a b
    simp only [natLt, decide_eq_true_eq, decide_eq_false_iff_not]
    omega

theorem Key.lt_strictOrder : StrictOrder Key.lt := by
  constructor
  · rintro ⟨a1, a2, a3, a4⟩ ⟨b1, b2, b3, b4⟩ ⟨c1, c2, c3, c4⟩
    simp only [Key.lt]
    split_ifs <;> simp only [decide_eq_true_eq] <;> omega
  · rintro ⟨a1, a2, a3, a4⟩ ⟨b1, b2, b3, b4⟩ h
    simp only [ne_eq, Key.mk.injEq] at h
    simp only [Key.lt]
    split_ifs <;> simp only [decide_eq_true_eq, decide_eq_false_iff_not] <;> omega

section
variable {κ α : Type} {lt : κ → κ → Bool}

theorem alSorted_tail {e : κ × α} {r : List (κ × α)} (h : alSorted lt (e :: r) = true) : alSorted lt r = true := by
  cases r with
  | nil => rfl
  | cons b r => simp only [alSorted, Bool.and_eq_true] at h; exact h.2

theorem alSorted_cons {e : κ × α} {r : List (κ × α)} (h : alSorted lt r = true) (k : ∀ b ∈ r.head?, lt e.1 b.1 = true) :
    alSorted lt (e :: r) = true := by
  cases r with
  | nil => rfl
  | cons b r => simp only [alSorted, Bool.and_eq_true]; exact ⟨k b rfl, h⟩

theorem alSorted_head {e : κ × α} {r : List (κ × α)} (o : StrictOrder lt) (h : alSorted lt (e :: r) = true) :
    ∀ b ∈ r, lt e.1 b.1 = true := by
  induction r generalizing e with
  | nil => simp
  | cons c r ih =>
    have h1 : lt e.1 c.1 = true := by simp only [alSorted, Bool.and_eq_true] at h; exact h.1
    intro b hb
    rcases List.mem_cons.mp hb with rfl | hb
    · exact h1
    · exact o.trans h1 (ih (alSorted_tail h) b hb)

theorem alSorted_filter (o : StrictOrder lt) (p : κ × α → Bool) {t : List (κ × α)} (h : alSorted lt t = true) :
    alSorted lt (t.filter p) = true := by
  induction t with
  | nil => rfl
  | cons e r ih =>
    rw [List.filter_cons]
    split
    · refine alSorted_cons (ih (alSorted_tail h)) fun b hb => ?_
      exact alSorted_head o h b (List.mem_filter.mp (List.mem_of_mem_head? hb)).1
    · exact ih (alSorted_tail h)

variable [DecidableEq κ]

theorem alErase_eq_filter (t : List (κ × α)) (k : κ) : alErase t k = t.filter fun e => decide (e.1 ≠ k) := by
  induction t with
  | nil => rfl
  | cons e r ih =>
    unfold alErase
    by_cases h : e.1 = k <;> simp [h, ih]

omit [DecidableEq κ] in
theorem alSorted_alInsert (o : StrictOrder lt) {t : List (κ × α)} (k : κ) (v : α) (h : alSorted lt t = true)
    (n : ∀ e ∈ t, e.1 ≠ k) : alSorted lt (alInsert lt t k v) = true := by
  induction t with
  | nil => rfl
  | cons e r ih =>
    unfold alInsert
    split
    · rename_i hk
      exact alSorted_cons h fun b hb => by simp at hb; subst hb; exact hk
    · rename_i hk
      have he : lt e.1 k = true := o.total (fun x => n e (by simp) x.symm) (by simpa using hk)
      have hr := ih (alSorted_tail h) fun b hb => n b (by simp [hb])
      refine alSorted_cons hr fun b hb => ?_
      cases r with
      | nil =>
        simp only [alInsert, List.head?_cons, Option.mem_def, Option.some.injEq] at hb
        subst hb
        exact he
      | cons c r =>
        unfold alInsert at hb
        split at hb
        · simp only [List.head?_cons, Option.mem_def, Option.some.injEq] at hb
          subst hb
          exact he
        · simp only [List.head?_cons, Option.mem_def, Option.some.injEq] at hb
          subst hb
          exact alSorted_head o h c (by simp)

/-- A write keeps the keys in order. -/
theorem alSorted_alSet [DecidableEq α] (o : StrictOrder lt) {t : List (κ × α)} (k : κ) (d v : α) (h : alSorted lt t = true) :
    alSorted lt (alSet lt t k d v) = true := by
  have he : alSorted lt (alErase t k) = true := alErase_eq_filter t k ▸ alSorted_filter o _ h
  unfold alSet
  split
  · exact he
  · refine alSorted_alInsert o k v he fun e m => ?_
    rw [alErase_eq_filter, List.mem_filter] at m
    simpa using m.2

/-- A member of a written table is the new entry or an old one. -/
theorem mem_alSet [DecidableEq α] {t : List (κ × α)} {k : κ} {d v : α} {e : κ × α} (h : e ∈ alSet lt t k d v) :
    (e = (k, v) ∧ v ≠ d) ∨ e ∈ t := by
  have ins : ∀ u : List (κ × α), e ∈ alInsert lt u k v → e = (k, v) ∨ e ∈ u := by
    intro u
    induction u with
    | nil => simp [alInsert]
    | cons a r ih =>
      unfold alInsert
      split
      · simp
      · intro m
        rcases List.mem_cons.mp m with rfl | m
        · simp
        · rcases ih m with h | h <;> simp [h]
  unfold alSet at h
  split at h
  · rw [alErase_eq_filter] at h
    exact .inr (List.mem_filter.mp h).1
  · rename_i hv
    rcases ins _ h with h | h
    · exact .inl ⟨h, hv⟩
    · rw [alErase_eq_filter] at h
      exact .inr (List.mem_filter.mp h).1

end

end Sys2Proof.Machine
end

