-- ==== Sys2Proof/Laws/Bits.lean ====
section
/-!
SUPPORT. Single bits of a word, and entries of a table.
-/

namespace Sys2Proof

theorem bitOf_eq_testBit (v k : Nat) : bitOf v k = v.testBit k := by
  rw [Nat.testBit_eq_decide_div_mod_eq]
  unfold bitOf
  rw [beq_eq_decide]

theorem bitOf_withBit (v k j : Nat) : bitOf (withBit v k) j = (decide (j = k) || bitOf v j) := by
  simp only [bitOf_eq_testBit]
  unfold withBit
  rw [bitOf_eq_testBit]
  cases hb : v.testBit k with
  | true =>
    rw [if_pos rfl]
    by_cases h : j = k
    · subst h; simp [hb]
    · simp [h]
  | false =>
    rw [if_neg (by decide)]
    have hk : v / 2 ^ k % 2 = 0 := by
      rw [Nat.testBit_eq_decide_div_mod_eq] at hb
      simp at hb
      omega
    rw [Nat.add_comm]
    rcases Nat.lt_trichotomy j k with hlt | rfl | hgt
    · rw [Nat.testBit_two_pow_add_gt hlt]
      simp [Nat.ne_of_lt hlt]
    · rw [Nat.testBit_two_pow_add_eq, hb]
      simp
    · have e : (2 ^ k + v) / 2 ^ (k + 1) = v / 2 ^ (k + 1) := by
        rw [pow_succ, ← Nat.div_div_eq_div_mul, ← Nat.div_div_eq_div_mul, Nat.add_div_left _ (by positivity)]
        omega
      obtain ⟨i, rfl⟩ : ∃ i, j = i + (k + 1) := ⟨j - (k + 1), by omega⟩
      rw [← Nat.testBit_div_two_pow, e, Nat.testBit_div_two_pow]
      simp
      omega

theorem withBit_sansBit (v k : Nat) (h : bitOf v k = true) : withBit (sansBit v k) k = v := by
  have hk : v / 2 ^ k % 2 = 1 := by simpa [bitOf] using h
  have hle : 2 ^ k ≤ v := by
    by_contra hc
    rw [Nat.div_eq_of_lt (by omega)] at hk
    omega
  have hs : sansBit v k = v - 2 ^ k := by simp [sansBit, h]
  have hd : (v - 2 ^ k) / 2 ^ k = v / 2 ^ k - 1 := by
    have := Nat.sub_mul_div v (2 ^ k) 1
    simpa using this
  have hb : bitOf (v - 2 ^ k) k = false := by
    simp only [bitOf, hd, beq_eq_false_iff_ne]
    omega
  rw [hs, withBit, hb, if_neg (by decide)]
  omega

theorem bitOf_sansBit (v k j : Nat) : bitOf (sansBit v k) j = (!decide (j = k) && bitOf v j) := by
  cases h : bitOf v k with
  | false =>
    have : sansBit v k = v := by simp [sansBit, h]
    rw [this]
    by_cases e : j = k
    · subst e; simp [h]
    · simp [e]
  | true =>
    have hw := bitOf_withBit (sansBit v k) k j
    rw [withBit_sansBit v k h] at hw
    by_cases e : j = k
    · subst e
      have hk : v / 2 ^ j % 2 = 1 := by simpa [bitOf] using h
      have hs : sansBit v j = v - 2 ^ j := by simp [sansBit, h]
      have hd : (v - 2 ^ j) / 2 ^ j = v / 2 ^ j - 1 := by
        have := Nat.sub_mul_div v (2 ^ j) 1
        simpa using this
      have : bitOf (v - 2 ^ j) j = false := by
        simp only [bitOf, hd, beq_eq_false_iff_ne]
        omega
      rw [hs, this]
      simp
    · rw [hw]
      simp [e]

/-- A bit of a word with one bit replaced. -/
theorem bitOf_putBit (v k j : Nat) (b : Bool) : bitOf (putBit v k b) j = if j = k then b else bitOf v j := by
  unfold putBit
  cases b with
  | true => rw [if_pos rfl, bitOf_withBit]; by_cases h : j = k <;> simp [h]
  | false => rw [if_neg (by decide), bitOf_sansBit]; by_cases h : j = k <;> simp [h]

/-- A bit of a word cut to `w` bits. -/
theorem bitOf_mod (v w j : Nat) : bitOf (v % 2 ^ w) j = (decide (j < w) && bitOf v j) := by
  simp only [bitOf_eq_testBit, Nat.testBit_mod_two_pow]

theorem b2n_lt (b : Bool) : b2n b < 2 := by cases b <;> decide

namespace Machine

@[simp] theorem Tbl.at_put_same {α : Type} [DecidableEq α] (t : Tbl α) (d : α) (k : Nat) (v : α) : (t.put d k v).at d k = v :=
  alGet_alSet_same ..

theorem Tbl.at_put_ne {α : Type} [DecidableEq α] (t : Tbl α) (d : α) {k j : Nat} (h : j ≠ k) (v : α) :
    (t.put d k v).at d j = t.at d j := alGet_alSet_ne _ _ h ..

end Machine

end Sys2Proof
end

