-- ==== Sys2Proof/Laws/Keeps.lean ====
section
/-!
SUPPORT. Which parts of State an operation can change. `Keeps m s t`: every part of `t` whose bit is clear in `m` is what it
is in `s`; the tables stay in canonical form, no fuse returns to 0, and no free value is drawn twice. The bits count the
fields of State from 0.
-/

namespace Sys2Proof.Machine

/-- The bits of `n` are among those of `m`. -/
def subMask (n m : Nat) : Bool := Nat.beq (Nat.lor n m) m

theorem OtpSt.le_refl (a : OtpSt) : a.le a := ⟨fun _ _ h => h, fun _ h => h, fun _ h => h, Nat.le_refl _, Nat.le_refl _, rfl, rfl, rfl, rfl⟩

theorem OtpSt.le.trans {a b c : OtpSt} (h : a.le b) (k : b.le c) : a.le c :=
  ⟨fun n i x => k.keyHash n i (h.keyHash n i x), fun i x => k.programmed i (h.programmed i x), fun i x => k.revoked i (h.revoked i x), h.rollback.trans k.rollback,
    h.lock.trans k.lock, k.uid.trans h.uid, k.svid.trans h.svid, k.product.trans h.product, k.vdo.trans h.vdo⟩

/-- Programming a KEYHASH returns no fuse to 0, of its slot or of another. -/
theorem keyFuses_mono (s : State) (slot v k i : Nat) (h : (s.otp.keyHash.at 0 k).testBit i = true) :
    ((s.otp.keyHash.put 0 slot (keyFuses s slot v)).at 0 k).testBit i = true := by
  unfold Tbl.put Tbl.at at *
  by_cases e : k = slot
  · subst e
    rw [alGet_alSet_same]
    unfold keyFuses Tbl.at
    rw [Nat.testBit_or, h, Bool.true_or]
  · rw [alGet_alSet_ne _ _ e]
    exact h

theorem withBit_mono (v k : Nat) {i : Nat} (h : v.testBit i = true) : (withBit v k).testBit i = true := by
  unfold withBit
  split
  · exact h
  · rename_i hb
    have hk : v / 2 ^ k % 2 = 0 := by
      simp only [bitOf, beq_iff_eq] at hb
      omega
    rw [Nat.add_comm]
    rcases Nat.lt_trichotomy i k with hlt | rfl | hgt
    · rw [Nat.testBit_two_pow_add_gt hlt]; exact h
    · rw [Nat.testBit_eq_decide_div_mod_eq] at h
      simp [hk] at h
    · have e : (2 ^ k + v) / 2 ^ (k + 1) = v / 2 ^ (k + 1) := by
        rw [pow_succ, ← Nat.div_div_eq_div_mul, ← Nat.div_div_eq_div_mul, Nat.add_div_left _ (by positivity)]
        omega
      obtain ⟨j, rfl⟩ : ∃ j, i = j + (k + 1) := ⟨i - (k + 1), by omega⟩
      rw [← Nat.testBit_div_two_pow, e, Nat.testBit_div_two_pow]
      exact h

theorem Memory.wf_filter {m : List Host.Cell} (h : Memory.wf m = true) (p : Host.Cell → Bool) : Memory.wf (m.filter p) = true := by
  simp only [Memory.wf, Bool.and_eq_true, List.all_eq_true] at h ⊢
  exact ⟨alSorted_filter natLt_strictOrder p h.1, fun c hc => h.2 c (List.mem_filter.mp hc).1⟩

/-- A write of one byte keeps the canonical form. -/
theorem Memory.wf_put {m : List Host.Cell} (h : Memory.wf m = true) (a : Nat) (b : Byte) :
    Memory.wf (alSet natLt m a (memBlank a) b) = true := by
  simp only [Memory.wf, Bool.and_eq_true, List.all_eq_true] at h ⊢
  refine ⟨alSorted_alSet natLt_strictOrder _ _ _ h.1, fun c hc => ?_⟩
  rcases mem_alSet hc with ⟨rfl, n⟩ | hc
  · simpa using n
  · exact h.2 c hc

/-- The bits of the registers of group `g` and of the headers. -/
def groupMask (g : Nat) : Nat := Nat.lor 1099511627778 (2 ^ g)

/-- Every group of registers. -/
def allGroups : Nat := 633825300114114699648839974912

theorem regGroup_all (k : Key) : allGroups.testBit (regGroup k) = true := by
  have h : ∀ g, 40 ≤ g → g < 99 → allGroups.testBit g = true := by decide
  have hc := List.countP_le_length (p := fun p => decide (p ≤ k.page)) (l := groupStarts)
  have e : groupStarts.length = 43 := rfl
  refine h _ ?_ ?_ <;> unfold regGroup <;> split <;> try omega
  all_goals split
  all_goals try split
  all_goals try split
  all_goals omega

theorem group_ev1 {o l i : Nat} (h : (o == 0x0C0 || o == 0x0C4 || o == 0x0CC || o == 0x0D0) = false) : regGroup ⟨P.ev1, o, l, i⟩ = 43 ∨ regGroup ⟨P.ev1, o, l, i⟩ = 40 := by
  unfold regGroup
  split
  · exact .inr rfl
  · left
    dsimp only
    rw [if_neg (by decide), if_neg (by simp_all [P.ev1])]
    exact rfl

theorem group_ev2 {o l i : Nat} (h : (o == 0x0C0 || o == 0x0C4 || o == 0x0CC || o == 0x0D0) = false) : regGroup ⟨P.ev2, o, l, i⟩ = 43 ∨ regGroup ⟨P.ev2, o, l, i⟩ = 40 := by
  unfold regGroup
  split
  · exact .inr rfl
  · left
    dsimp only
    rw [if_neg (by decide), if_neg (by simp_all [P.ev2])]
    exact rfl

theorem group_ev3 {o l i : Nat} (h : (o == 0x0C0 || o == 0x0C4 || o == 0x0CC || o == 0x0D0) = false) : regGroup ⟨P.ev3, o, l, i⟩ = 43 ∨ regGroup ⟨P.ev3, o, l, i⟩ = 40 := by
  unfold regGroup
  split
  · exact .inr rfl
  · left
    dsimp only
    rw [if_neg (by decide), if_neg (by simp_all [P.ev3])]
    exact rfl

theorem group_time {o l i : Nat} : regGroup ⟨P.time, o, l, i⟩ = 44 ∨ regGroup ⟨P.time, o, l, i⟩ = 40 := by
  unfold regGroup
  split
  · exact .inr rfl
  · left
    exact rfl

theorem group_halo {o l i : Nat} : regGroup ⟨P.halo, o, l, i⟩ = 46 ∨ regGroup ⟨P.halo, o, l, i⟩ = 40 := by
  unfold regGroup
  split
  · exact .inr rfl
  · left
    exact rfl

theorem group_switch {o l i : Nat} : regGroup ⟨P.switch, o, l, i⟩ = 47 ∨ regGroup ⟨P.switch, o, l, i⟩ = 40 := by
  unfold regGroup
  split
  · exact .inr rfl
  · left
    exact rfl

theorem group_pool {o l i : Nat} : regGroup ⟨P.pool, o, l, i⟩ = 49 ∨ regGroup ⟨P.pool, o, l, i⟩ = 40 := by
  unfold regGroup
  split
  · exact .inr rfl
  · left
    exact rfl

theorem group_pub {o l i : Nat} : regGroup ⟨P.pub, o, l, i⟩ = 50 ∨ regGroup ⟨P.pub, o, l, i⟩ = 40 := by
  unfold regGroup
  split
  · exact .inr rfl
  · left
    exact rfl

theorem group_sub {o l i : Nat} : regGroup ⟨P.sub, o, l, i⟩ = 51 ∨ regGroup ⟨P.sub, o, l, i⟩ = 40 := by
  unfold regGroup
  split
  · exact .inr rfl
  · left
    exact rfl

theorem group_txn {o l i : Nat} : regGroup ⟨P.txn, o, l, i⟩ = 52 ∨ regGroup ⟨P.txn, o, l, i⟩ = 40 := by
  unfold regGroup
  split
  · exact .inr rfl
  · left
    exact rfl

theorem group_gw {o l i : Nat} : regGroup ⟨P.gw, o, l, i⟩ = 53 ∨ regGroup ⟨P.gw, o, l, i⟩ = 40 := by
  unfold regGroup
  split
  · exact .inr rfl
  · left
    exact rfl

theorem group_sestx {o l i : Nat} : regGroup ⟨P.sestx, o, l, i⟩ = 55 ∨ regGroup ⟨P.sestx, o, l, i⟩ = 40 := by
  unfold regGroup
  split
  · exact .inr rfl
  · left
    exact rfl

theorem group_sesrx {o l i : Nat} : regGroup ⟨P.sesrx, o, l, i⟩ = 56 ∨ regGroup ⟨P.sesrx, o, l, i⟩ = 40 := by
  unfold regGroup
  split
  · exact .inr rfl
  · left
    exact rfl

theorem group_drift {o l i : Nat} : regGroup ⟨P.drift, o, l, i⟩ = 58 ∨ regGroup ⟨P.drift, o, l, i⟩ = 40 := by
  unfold regGroup
  split
  · exact .inr rfl
  · left
    exact rfl

theorem group_zones {o l i : Nat} : regGroup ⟨P.zones, o, l, i⟩ = 59 ∨ regGroup ⟨P.zones, o, l, i⟩ = 40 := by
  unfold regGroup
  split
  · exact .inr rfl
  · left
    exact rfl

theorem group_edge {o l i : Nat} : regGroup ⟨P.edge, o, l, i⟩ = 60 ∨ regGroup ⟨P.edge, o, l, i⟩ = 40 := by
  unfold regGroup
  split
  · exact .inr rfl
  · left
    exact rfl

theorem group_capt {o l i : Nat} : regGroup ⟨P.capt, o, l, i⟩ = 61 ∨ regGroup ⟨P.capt, o, l, i⟩ = 40 := by
  unfold regGroup
  split
  · exact .inr rfl
  · left
    exact rfl

theorem group_enc {o l i : Nat} : regGroup ⟨P.enc, o, l, i⟩ = 63 ∨ regGroup ⟨P.enc, o, l, i⟩ = 40 := by
  unfold regGroup
  split
  · exact .inr rfl
  · left
    exact rfl

theorem group_fdie {o l i : Nat} (h : (o == 0x048 || o == 0x05C) = false) : regGroup ⟨P.fdie, o, l, i⟩ = 64 ∨ regGroup ⟨P.fdie, o, l, i⟩ = 40 := by
  unfold regGroup
  split
  · exact .inr rfl
  · left
    dsimp only
    rw [if_neg (by decide), if_neg (by simp_all [P.fdie])]
    exact rfl

theorem group_adc {o l i : Nat} : regGroup ⟨P.adc, o, l, i⟩ = 65 ∨ regGroup ⟨P.adc, o, l, i⟩ = 40 := by
  unfold regGroup
  split
  · exact .inr rfl
  · left
    exact rfl

theorem group_pinmux {o l i : Nat} : regGroup ⟨P.pinmux, o, l, i⟩ = 69 ∨ regGroup ⟨P.pinmux, o, l, i⟩ = 40 := by
  unfold regGroup
  split
  · exact .inr rfl
  · left
    exact rfl

theorem group_host {o l i : Nat} : regGroup ⟨P.host, o, l, i⟩ = 71 ∨ regGroup ⟨P.host, o, l, i⟩ = 40 := by
  unfold regGroup
  split
  · exact .inr rfl
  · left
    exact rfl

theorem group_flash {o l i : Nat} : regGroup ⟨P.flash, o, l, i⟩ = 72 ∨ regGroup ⟨P.flash, o, l, i⟩ = 40 := by
  unfold regGroup
  split
  · exact .inr rfl
  · left
    exact rfl

theorem group_power {o l i : Nat} : regGroup ⟨P.power, o, l, i⟩ = 73 ∨ regGroup ⟨P.power, o, l, i⟩ = 40 := by
  unfold regGroup
  split
  · exact .inr rfl
  · left
    exact rfl

theorem group_usb {o l i : Nat} : regGroup ⟨P.usb, o, l, i⟩ = 76 ∨ regGroup ⟨P.usb, o, l, i⟩ = 40 := by
  unfold regGroup
  split
  · exact .inr rfl
  · left
    exact rfl

theorem group_cores {o l i : Nat} : regGroup ⟨P.cores, o, l, i⟩ = 77 ∨ regGroup ⟨P.cores, o, l, i⟩ = 40 := by
  unfold regGroup
  split
  · exact .inr rfl
  · left
    exact rfl

theorem group_xfer {o l i : Nat} : regGroup ⟨P.xfer, o, l, i⟩ = 78 ∨ regGroup ⟨P.xfer, o, l, i⟩ = 40 := by
  unfold regGroup
  split
  · exact .inr rfl
  · left
    exact rfl

theorem group_mgmt {o l i : Nat} : regGroup ⟨P.mgmt, o, l, i⟩ = 79 ∨ regGroup ⟨P.mgmt, o, l, i⟩ = 40 := by
  unfold regGroup
  split
  · exact .inr rfl
  · left
    exact rfl

theorem group_sens {o l i : Nat} : regGroup ⟨P.sens, o, l, i⟩ = 80 ∨ regGroup ⟨P.sens, o, l, i⟩ = 40 := by
  unfold regGroup
  split
  · exact .inr rfl
  · left
    exact rfl

theorem group_log {o l i : Nat} : regGroup ⟨P.log, o, l, i⟩ = 81 ∨ regGroup ⟨P.log, o, l, i⟩ = 40 := by
  unfold regGroup
  split
  · exact .inr rfl
  · left
    exact rfl

theorem group_upd {o l i : Nat} : regGroup ⟨P.upd, o, l, i⟩ = 82 ∨ regGroup ⟨P.upd, o, l, i⟩ = 40 := by
  unfold regGroup
  split
  · exact .inr rfl
  · left
    exact rfl

theorem group_sec {o l i : Nat} : regGroup ⟨P.sec, o, l, i⟩ = 83 ∨ regGroup ⟨P.sec, o, l, i⟩ = 40 := by
  unfold regGroup
  split
  · exact .inr rfl
  · left
    exact rfl

theorem group_ecl {o l i : Nat} (h : (o == 0x058) = false) : regGroup ⟨P.ecl, o, l, i⟩ = 84 ∨ regGroup ⟨P.ecl, o, l, i⟩ = 40 := by
  unfold regGroup
  split
  · exact .inr rfl
  · left
    dsimp only
    rw [if_neg (by decide), if_neg (by simp_all [P.ecl])]
    exact rfl

theorem group_lane {n : Nat} {o l i : Nat} : regGroup ⟨P.lane n, o, l, i⟩ = 45 ∨ regGroup ⟨P.lane n, o, l, i⟩ = 40 := by
  unfold regGroup P.lane
  split
  · exact .inr rfl
  · left
    dsimp only
    rw [if_neg (by omega), if_neg (by simp; omega)]
    simp only [groupStarts, List.countP_cons, List.countP_nil, decide_eq_true_eq]
    repeat' first | rw [if_pos (by omega)] | rw [if_neg (by omega)]

theorem group_swport {n : Nat} {o l i : Nat} : regGroup ⟨P.swport n, o, l, i⟩ = 48 ∨ regGroup ⟨P.swport n, o, l, i⟩ = 40 := by
  unfold regGroup P.swport
  split
  · exact .inr rfl
  · left
    dsimp only
    rw [if_neg (by omega), if_neg (by simp; omega)]
    simp only [groupStarts, List.countP_cons, List.countP_nil, decide_eq_true_eq]
    repeat' first | rw [if_pos (by omega)] | rw [if_neg (by omega)]

theorem group_queue {n : Nat} {o l i : Nat} : regGroup ⟨P.queue n, o, l, i⟩ = 54 ∨ regGroup ⟨P.queue n, o, l, i⟩ = 40 := by
  unfold regGroup P.queue
  split
  · exact .inr rfl
  · left
    dsimp only
    rw [if_neg (by omega), if_neg (by simp; omega)]
    simp only [groupStarts, List.countP_cons, List.countP_nil, decide_eq_true_eq]
    repeat' first | rw [if_pos (by omega)] | rw [if_neg (by omega)]

theorem group_track {n : Nat} {o l i : Nat} : regGroup ⟨P.track n, o, l, i⟩ = 57 ∨ regGroup ⟨P.track n, o, l, i⟩ = 40 := by
  unfold regGroup P.track
  split
  · exact .inr rfl
  · left
    dsimp only
    rw [if_neg (by omega), if_neg (by simp; omega)]
    simp only [groupStarts, List.countP_cons, List.countP_nil, decide_eq_true_eq]
    repeat' first | rw [if_pos (by omega)] | rw [if_neg (by omega)]

theorem group_field {n : Nat} {o l i : Nat} : regGroup ⟨P.field n, o, l, i⟩ = 62 ∨ regGroup ⟨P.field n, o, l, i⟩ = 40 := by
  unfold regGroup P.field
  split
  · exact .inr rfl
  · left
    dsimp only
    rw [if_neg (by omega), if_neg (by simp; omega)]
    simp only [groupStarts, List.countP_cons, List.countP_nil, decide_eq_true_eq]
    repeat' first | rw [if_pos (by omega)] | rw [if_neg (by omega)]

theorem group_can {n : Nat} {o l i : Nat} : regGroup ⟨P.can n, o, l, i⟩ = 66 ∨ regGroup ⟨P.can n, o, l, i⟩ = 40 := by
  unfold regGroup P.can
  split
  · exact .inr rfl
  · left
    dsimp only
    rw [if_neg (by omega), if_neg (by simp; omega)]
    simp only [groupStarts, List.countP_cons, List.countP_nil, decide_eq_true_eq]
    repeat' first | rw [if_pos (by omega)] | rw [if_neg (by omega)]

theorem group_uart {n : Nat} {o l i : Nat} : regGroup ⟨P.uart n, o, l, i⟩ = 67 ∨ regGroup ⟨P.uart n, o, l, i⟩ = 40 := by
  unfold regGroup P.uart
  split
  · exact .inr rfl
  · left
    dsimp only
    rw [if_neg (by omega), if_neg (by simp; omega)]
    simp only [groupStarts, List.countP_cons, List.countP_nil, decide_eq_true_eq]
    repeat' first | rw [if_pos (by omega)] | rw [if_neg (by omega)]

theorem group_pio {n : Nat} {o l i : Nat} : regGroup ⟨P.pio n, o, l, i⟩ = 68 ∨ regGroup ⟨P.pio n, o, l, i⟩ = 40 := by
  unfold regGroup P.pio
  split
  · exact .inr rfl
  · left
    dsimp only
    rw [if_neg (by omega), if_neg (by simp; omega)]
    simp only [groupStarts, List.countP_cons, List.countP_nil, decide_eq_true_eq]
    repeat' first | rw [if_pos (by omega)] | rw [if_neg (by omega)]

theorem group_eth {n : Nat} {o l i : Nat} : regGroup ⟨P.eth n, o, l, i⟩ = 70 ∨ regGroup ⟨P.eth n, o, l, i⟩ = 40 := by
  unfold regGroup P.eth
  split
  · exact .inr rfl
  · left
    dsimp only
    rw [if_neg (by omega), if_neg (by simp; omega)]
    simp only [groupStarts, List.countP_cons, List.countP_nil, decide_eq_true_eq]
    repeat' first | rw [if_pos (by omega)] | rw [if_neg (by omega)]

theorem group_branch {n : Nat} {o l i : Nat} : regGroup ⟨P.branch n, o, l, i⟩ = 74 ∨ regGroup ⟨P.branch n, o, l, i⟩ = 40 := by
  unfold regGroup P.branch
  split
  · exact .inr rfl
  · left
    dsimp only
    rw [if_neg (by omega), if_neg (by simp; omega)]
    simp only [groupStarts, List.countP_cons, List.countP_nil, decide_eq_true_eq]
    repeat' first | rw [if_pos (by omega)] | rw [if_neg (by omega)]

theorem group_pd {n : Nat} {o l i : Nat} : regGroup ⟨P.pd n, o, l, i⟩ = 75 ∨ regGroup ⟨P.pd n, o, l, i⟩ = 40 := by
  unfold regGroup P.pd
  split
  · exact .inr rfl
  · left
    dsimp only
    rw [if_neg (by omega), if_neg (by simp; omega)]
    simp only [groupStarts, List.countP_cons, List.countP_nil, decide_eq_true_eq]
    repeat' first | rw [if_pos (by omega)] | rw [if_neg (by omega)]

/-- Every part of State whose bit is clear in `m` is the same in both states. -/
structure Keeps (m : Nat) (s t : State) : Prop where
  pending : m.testBit 0 = false → t.pending = s.pending
  regs : m.testBit 1 = false → t.regs = s.regs
  staged : m.testBit 2 = false → t.staged = s.staged
  stagedLate : m.testBit 3 = false → t.stagedLate = s.stagedLate
  mem : m.testBit 4 = false → t.mem = s.mem
  accFaults : m.testBit 5 = false → t.accFaults = s.accFaults
  wire : m.testBit 6 = false → t.wire = s.wire
  delivered : m.testBit 7 = false → t.delivered = s.delivered
  draws : m.testBit 8 = false → t.draws = s.draws
  node : m.testBit 9 = false → t.node = s.node
  stitch : m.testBit 10 = false → t.stitch = s.stitch
  time : m.testBit 11 = false → t.time = s.time
  lanes : m.testBit 12 = false → t.lanes = s.lanes
  halo : m.testBit 13 = false → t.halo = s.halo
  sw : m.testBit 14 = false → t.sw = s.sw
  pub : m.testBit 15 = false → t.pub = s.pub
  txn : m.testBit 16 = false → t.txn = s.txn
  ses : m.testBit 17 = false → t.ses = s.ses
  tracks : m.testBit 18 = false → t.tracks = s.tracks
  drift : m.testBit 19 = false → t.drift = s.drift
  edge : m.testBit 20 = false → t.edge = s.edge
  caps : m.testBit 21 = false → t.caps = s.caps
  field : m.testBit 22 = false → t.field = s.field
  can : m.testBit 23 = false → t.can = s.can
  pio : m.testBit 24 = false → t.pio = s.pio
  sigs : m.testBit 25 = false → t.sigs = s.sigs
  eths : m.testBit 26 = false → t.eths = s.eths
  uarts : m.testBit 27 = false → t.uarts = s.uarts
  ports : m.testBit 28 = false → t.ports = s.ports
  power : m.testBit 29 = false → t.power = s.power
  usb : m.testBit 30 = false → t.usb = s.usb
  router : m.testBit 31 = false → t.router = s.router
  cores : m.testBit 32 = false → t.cores = s.cores
  ao : m.testBit 33 = false → t.ao = s.ao
  otp : m.testBit 34 = false → t.otp = s.otp
  mgmt : m.testBit 35 = false → t.mgmt = s.mgmt
  ecl : m.testBit 36 = false → t.ecl = s.ecl
  ticks : m.testBit 37 = false → t.time.tick = s.time.tick ∧ t.time.ticks = s.time.ticks
  pages : ∀ k d, m.testBit (regGroup k) = false → alGet t.regs k d = alGet s.regs k d
  wf : s.wf = true → t.wf = true
  fuses : s.otp.le t.otp
  fresh : s.draws ≤ t.draws

theorem Keeps.refl (m : Nat) (s : State) : Keeps m s s := by
  constructor <;> first | exact OtpSt.le_refl _ | exact Nat.le_refl _ | exact id | (intro _; rfl) | (intro _ _ _; rfl) | (intro _; exact ⟨rfl, rfl⟩)

theorem Keeps.trans {m : Nat} {s t u : State} (h : Keeps m s t) (k : Keeps m t u) : Keeps m s u where
  pending b := (k.pending b).trans (h.pending b)
  regs b := (k.regs b).trans (h.regs b)
  staged b := (k.staged b).trans (h.staged b)
  stagedLate b := (k.stagedLate b).trans (h.stagedLate b)
  mem b := (k.mem b).trans (h.mem b)
  accFaults b := (k.accFaults b).trans (h.accFaults b)
  wire b := (k.wire b).trans (h.wire b)
  delivered b := (k.delivered b).trans (h.delivered b)
  draws b := (k.draws b).trans (h.draws b)
  node b := (k.node b).trans (h.node b)
  stitch b := (k.stitch b).trans (h.stitch b)
  time b := (k.time b).trans (h.time b)
  lanes b := (k.lanes b).trans (h.lanes b)
  halo b := (k.halo b).trans (h.halo b)
  sw b := (k.sw b).trans (h.sw b)
  pub b := (k.pub b).trans (h.pub b)
  txn b := (k.txn b).trans (h.txn b)
  ses b := (k.ses b).trans (h.ses b)
  tracks b := (k.tracks b).trans (h.tracks b)
  drift b := (k.drift b).trans (h.drift b)
  edge b := (k.edge b).trans (h.edge b)
  caps b := (k.caps b).trans (h.caps b)
  field b := (k.field b).trans (h.field b)
  can b := (k.can b).trans (h.can b)
  pio b := (k.pio b).trans (h.pio b)
  sigs b := (k.sigs b).trans (h.sigs b)
  eths b := (k.eths b).trans (h.eths b)
  uarts b := (k.uarts b).trans (h.uarts b)
  ports b := (k.ports b).trans (h.ports b)
  power b := (k.power b).trans (h.power b)
  usb b := (k.usb b).trans (h.usb b)
  router b := (k.router b).trans (h.router b)
  cores b := (k.cores b).trans (h.cores b)
  ao b := (k.ao b).trans (h.ao b)
  otp b := (k.otp b).trans (h.otp b)
  mgmt b := (k.mgmt b).trans (h.mgmt b)
  ecl b := (k.ecl b).trans (h.ecl b)
  ticks b := ⟨(k.ticks b).1.trans (h.ticks b).1, (k.ticks b).2.trans (h.ticks b).2⟩
  pages k' d b := (k.pages k' d b).trans (h.pages k' d b)
  wf b := k.wf (h.wf b)
  fuses := h.fuses.trans k.fuses
  fresh := h.fresh.trans k.fresh

theorem Keeps.bit_mono {n m i : Nat} (h : subMask n m = true) (b : m.testBit i = false) : n.testBit i = false := by
  have := congrArg (fun x => x.testBit i) (Nat.eq_of_beq_eq_true h)
  change (n ||| m).testBit i = m.testBit i at this
  rw [Nat.testBit_or] at this
  cases hn : n.testBit i <;> simp_all

theorem subMask_left (n m : Nat) : subMask n (Nat.lor n m) = true := by
  have : Nat.lor n (Nat.lor n m) = Nat.lor n m := by
    change n ||| (n ||| m) = n ||| m
    rw [← Nat.or_assoc, Nat.or_self]
  unfold subMask
  rw [this]
  exact Nat.beq_refl _

theorem subMask_right (n m : Nat) : subMask m (Nat.lor n m) = true := by
  have : Nat.lor m (Nat.lor n m) = Nat.lor n m := by
    change m ||| (n ||| m) = n ||| m
    rw [Nat.or_left_comm, Nat.or_self]
  unfold subMask
  rw [this]
  exact Nat.beq_refl _

theorem subMask_trans {a b c : Nat} (h : subMask a b = true) (k : subMask b c = true) : subMask a c = true := by
  have h := Nat.eq_of_beq_eq_true h
  have k := Nat.eq_of_beq_eq_true k
  change a ||| b = b at h
  change b ||| c = c at k
  have : a ||| c = c := by rw [← k, ← Nat.or_assoc, h]
  unfold subMask
  exact Nat.beq_eq.mpr this

theorem subMask_lor_right {a b n : Nat} (h : subMask a b = true) : subMask a (Nat.lor n b) = true :=
  subMask_trans h (subMask_right n b)

theorem subMask_lor {a b n : Nat} (h : subMask a b = true) : subMask (Nat.lor n a) (Nat.lor n b) = true := by
  have h := Nat.eq_of_beq_eq_true h
  change a ||| b = b at h
  have : (n ||| a) ||| (n ||| b) = n ||| b := by
    rw [Nat.or_assoc, Nat.or_left_comm a n b, h, ← Nat.or_assoc, Nat.or_self]
  unfold subMask
  exact Nat.beq_eq.mpr this

theorem Keeps.mono {n m : Nat} {s t : State} (h : subMask n m = true) (k : Keeps n s t) : Keeps m s t where
  pending b := k.pending (Keeps.bit_mono h b)
  regs b := k.regs (Keeps.bit_mono h b)
  staged b := k.staged (Keeps.bit_mono h b)
  stagedLate b := k.stagedLate (Keeps.bit_mono h b)
  mem b := k.mem (Keeps.bit_mono h b)
  accFaults b := k.accFaults (Keeps.bit_mono h b)
  wire b := k.wire (Keeps.bit_mono h b)
  delivered b := k.delivered (Keeps.bit_mono h b)
  draws b := k.draws (Keeps.bit_mono h b)
  node b := k.node (Keeps.bit_mono h b)
  stitch b := k.stitch (Keeps.bit_mono h b)
  time b := k.time (Keeps.bit_mono h b)
  lanes b := k.lanes (Keeps.bit_mono h b)
  halo b := k.halo (Keeps.bit_mono h b)
  sw b := k.sw (Keeps.bit_mono h b)
  pub b := k.pub (Keeps.bit_mono h b)
  txn b := k.txn (Keeps.bit_mono h b)
  ses b := k.ses (Keeps.bit_mono h b)
  tracks b := k.tracks (Keeps.bit_mono h b)
  drift b := k.drift (Keeps.bit_mono h b)
  edge b := k.edge (Keeps.bit_mono h b)
  caps b := k.caps (Keeps.bit_mono h b)
  field b := k.field (Keeps.bit_mono h b)
  can b := k.can (Keeps.bit_mono h b)
  pio b := k.pio (Keeps.bit_mono h b)
  sigs b := k.sigs (Keeps.bit_mono h b)
  eths b := k.eths (Keeps.bit_mono h b)
  uarts b := k.uarts (Keeps.bit_mono h b)
  ports b := k.ports (Keeps.bit_mono h b)
  power b := k.power (Keeps.bit_mono h b)
  usb b := k.usb (Keeps.bit_mono h b)
  router b := k.router (Keeps.bit_mono h b)
  cores b := k.cores (Keeps.bit_mono h b)
  ao b := k.ao (Keeps.bit_mono h b)
  otp b := k.otp (Keeps.bit_mono h b)
  mgmt b := k.mgmt (Keeps.bit_mono h b)
  ecl b := k.ecl (Keeps.bit_mono h b)
  ticks b := k.ticks (Keeps.bit_mono h b)
  pages k' d b := k.pages k' d (Keeps.bit_mono h b)
  wf := k.wf
  fuses := k.fuses
  fresh := k.fresh

/-- One more operation, that changes no more than `m` allows. -/
theorem Keeps.step {n m : Nat} {s t u : State} (k : Keeps n t u) (h : subMask n m = true) (l : Keeps m s t) : Keeps m s u :=
  l.trans (k.mono h)

theorem Keeps.ite {m : Nat} {s t u : State} {c : Prop} [Decidable c] (h : Keeps m s t) (k : Keeps m s u) :
    Keeps m s (if c then t else u) := by split <;> assumption

theorem Keeps.foldl {m : Nat} {α : Type} {s : State} {f : State → α → State} (hf : ∀ t a, Keeps m t (f t a)) (l : List α) (t : State)
    (h : Keeps m s t) : Keeps m s (l.foldl f t) := by
  induction l generalizing t with
  | nil => exact h
  | cons a r ih => exact ih _ (h.trans (hf t a))

theorem Keeps.foldl_snd {m : Nat} {α β : Type} {s : State} {f : β × State → α → β × State} (hf : ∀ p a, Keeps m p.2 (f p a).2) (l : List α)
    (p : β × State) (h : Keeps m s p.2) : Keeps m s (l.foldl f p).2 := by
  induction l generalizing p with
  | nil => exact h
  | cons a r ih => exact ih _ (h.trans (hf p a))

theorem Keeps.foldl_fst {m : Nat} {α β : Type} {s : State} {f : State × β → α → State × β} (hf : ∀ p a, Keeps m p.1 (f p a).1) (l : List α)
    (p : State × β) (h : Keeps m s p.1) : Keeps m s (l.foldl f p).1 := by
  induction l generalizing p with
  | nil => exact h
  | cons a r ih => exact ih _ (h.trans (hf p a))

theorem Keeps.foldl_snd2 {m : Nat} {α β γ : Type} {s : State} {f : β × γ × State → α → β × γ × State}
    (hf : ∀ p a, Keeps m p.2.2 (f p a).2.2) (l : List α) (p : β × γ × State) (h : Keeps m s p.2.2) : Keeps m s (l.foldl f p).2.2 := by
  induction l generalizing p with
  | nil => exact h
  | cons a r ih => exact ih _ (h.trans (hf p a))

theorem Keeps.each {m : Nat} {s t : State} {n : Nat} {f : State → Nat → State} (hf : ∀ t a, Keeps m t (f t a))
    (h : Keeps m s t) : Keeps m s (t.each n f) := Keeps.foldl hf _ _ h

theorem Keeps.when {m : Nat} {s t : State} {b : Bool} {f : State → State} (hf : ∀ t, Keeps m t (f t)) (h : Keeps m s t) :
    Keeps m s (t.when b f) := by
  unfold State.when
  split
  · exact h.trans (hf t)
  · exact h

theorem Keeps.of_snd {m : Nat} {α : Type} {t u : State} {p : α × State} {a : α} (h : p = (a, u)) (k : Keeps m t p.2) : Keeps m t u := by
  subst h; exact k

theorem Keeps.of_getD {m : Nat} {t u : State} {o : Option State} (h : o = some u) (k : Keeps m t (o.getD t)) : Keeps m t u := by
  subst h; exact k

theorem Keeps.of_snd2 {m : Nat} {α β : Type} {t u : State} {p : α × β × State} {a : α} {b : β} (h : p = (a, b, u)) (k : Keeps m t p.2.2) :
    Keeps m t u := by
  subst h; exact k

theorem Keeps.ite_snd {m : Nat} {α : Type} {s : State} {t u : α × State} {c : Prop} [Decidable c] (h : Keeps m s t.2) (k : Keeps m s u.2) :
    Keeps m s (if c then t else u).2 := by split <;> assumption

theorem Keeps.ite_snd2 {m : Nat} {α β : Type} {s : State} {t u : α × β × State} {c : Prop} [Decidable c] (h : Keeps m s t.2.2)
    (k : Keeps m s u.2.2) : Keeps m s (if c then t else u).2.2 := by split <;> assumption

/-- The outcome is a next state that keeps all but `m`. -/
def OutKeeps (m : Nat) (s : State) (o : Out) : Prop := ∃ t, o = .next t ∧ Keeps m s t

theorem OutKeeps.ite {m : Nat} {s : State} {t u : Out} {c : Prop} [Decidable c] (h : OutKeeps m s t) (k : OutKeeps m s u) :
    OutKeeps m s (if c then t else u) := by split <;> assumption

theorem OutKeeps.mono {n m : Nat} {s : State} {o : Out} (h : subMask n m = true) (k : OutKeeps n s o) : OutKeeps m s o := by
  obtain ⟨t, e, k⟩ := k
  exact ⟨t, e, k.mono h⟩

theorem OutKeeps.next {m : Nat} {s t : State} (h : Keeps m s t) : OutKeeps m s (.next t) := ⟨t, rfl, h⟩

theorem Keeps.put_pending (t : State) (x) :
    Keeps 1 t { t with pending := x } where
  pending b := absurd b (by decide)
  regs b := rfl
  staged b := rfl
  stagedLate b := rfl
  mem b := rfl
  accFaults b := rfl
  wire b := rfl
  delivered b := rfl
  draws b := rfl
  node b := rfl
  stitch b := rfl
  time b := rfl
  lanes b := rfl
  halo b := rfl
  sw b := rfl
  pub b := rfl
  txn b := rfl
  ses b := rfl
  tracks b := rfl
  drift b := rfl
  edge b := rfl
  caps b := rfl
  field b := rfl
  can b := rfl
  pio b := rfl
  sigs b := rfl
  eths b := rfl
  uarts b := rfl
  ports b := rfl
  power b := rfl
  usb b := rfl
  router b := rfl
  cores b := rfl
  ao b := rfl
  otp b := rfl
  mgmt b := rfl
  ecl b := rfl
  ticks b := ⟨rfl, rfl⟩
  pages k d b := rfl
  wf := id
  fuses := OtpSt.le_refl _
  fresh := Nat.le_refl _

theorem Keeps.put_regs (t : State) (x) (w : t.wf = true → State.wf { t with regs := x } = true) :
    Keeps 633825300114114699648839974914 t { t with regs := x } where
  pending b := rfl
  regs b := absurd b (by decide)
  staged b := rfl
  stagedLate b := rfl
  mem b := rfl
  accFaults b := rfl
  wire b := rfl
  delivered b := rfl
  draws b := rfl
  node b := rfl
  stitch b := rfl
  time b := rfl
  lanes b := rfl
  halo b := rfl
  sw b := rfl
  pub b := rfl
  txn b := rfl
  ses b := rfl
  tracks b := rfl
  drift b := rfl
  edge b := rfl
  caps b := rfl
  field b := rfl
  can b := rfl
  pio b := rfl
  sigs b := rfl
  eths b := rfl
  uarts b := rfl
  ports b := rfl
  power b := rfl
  usb b := rfl
  router b := rfl
  cores b := rfl
  ao b := rfl
  otp b := rfl
  mgmt b := rfl
  ecl b := rfl
  ticks b := ⟨rfl, rfl⟩
  pages k d b := absurd ((Keeps.bit_mono (n := allGroups) rfl b).symm.trans (regGroup_all k)) (by decide)
  wf := w
  fuses := OtpSt.le_refl _
  fresh := Nat.le_refl _

theorem Keeps.put_staged (t : State) (x) :
    Keeps 4 t { t with staged := x } where
  pending b := rfl
  regs b := rfl
  staged b := absurd b (by decide)
  stagedLate b := rfl
  mem b := rfl
  accFaults b := rfl
  wire b := rfl
  delivered b := rfl
  draws b := rfl
  node b := rfl
  stitch b := rfl
  time b := rfl
  lanes b := rfl
  halo b := rfl
  sw b := rfl
  pub b := rfl
  txn b := rfl
  ses b := rfl
  tracks b := rfl
  drift b := rfl
  edge b := rfl
  caps b := rfl
  field b := rfl
  can b := rfl
  pio b := rfl
  sigs b := rfl
  eths b := rfl
  uarts b := rfl
  ports b := rfl
  power b := rfl
  usb b := rfl
  router b := rfl
  cores b := rfl
  ao b := rfl
  otp b := rfl
  mgmt b := rfl
  ecl b := rfl
  ticks b := ⟨rfl, rfl⟩
  pages k d b := rfl
  wf := id
  fuses := OtpSt.le_refl _
  fresh := Nat.le_refl _

theorem Keeps.put_stagedLate (t : State) (x) :
    Keeps 8 t { t with stagedLate := x } where
  pending b := rfl
  regs b := rfl
  staged b := rfl
  stagedLate b := absurd b (by decide)
  mem b := rfl
  accFaults b := rfl
  wire b := rfl
  delivered b := rfl
  draws b := rfl
  node b := rfl
  stitch b := rfl
  time b := rfl
  lanes b := rfl
  halo b := rfl
  sw b := rfl
  pub b := rfl
  txn b := rfl
  ses b := rfl
  tracks b := rfl
  drift b := rfl
  edge b := rfl
  caps b := rfl
  field b := rfl
  can b := rfl
  pio b := rfl
  sigs b := rfl
  eths b := rfl
  uarts b := rfl
  ports b := rfl
  power b := rfl
  usb b := rfl
  router b := rfl
  cores b := rfl
  ao b := rfl
  otp b := rfl
  mgmt b := rfl
  ecl b := rfl
  ticks b := ⟨rfl, rfl⟩
  pages k d b := rfl
  wf := id
  fuses := OtpSt.le_refl _
  fresh := Nat.le_refl _

theorem Keeps.put_mem (t : State) (x) (w : t.wf = true → State.wf { t with mem := x } = true) :
    Keeps 16 t { t with mem := x } where
  pending b := rfl
  regs b := rfl
  staged b := rfl
  stagedLate b := rfl
  mem b := absurd b (by decide)
  accFaults b := rfl
  wire b := rfl
  delivered b := rfl
  draws b := rfl
  node b := rfl
  stitch b := rfl
  time b := rfl
  lanes b := rfl
  halo b := rfl
  sw b := rfl
  pub b := rfl
  txn b := rfl
  ses b := rfl
  tracks b := rfl
  drift b := rfl
  edge b := rfl
  caps b := rfl
  field b := rfl
  can b := rfl
  pio b := rfl
  sigs b := rfl
  eths b := rfl
  uarts b := rfl
  ports b := rfl
  power b := rfl
  usb b := rfl
  router b := rfl
  cores b := rfl
  ao b := rfl
  otp b := rfl
  mgmt b := rfl
  ecl b := rfl
  ticks b := ⟨rfl, rfl⟩
  pages k d b := rfl
  wf := w
  fuses := OtpSt.le_refl _
  fresh := Nat.le_refl _

theorem Keeps.put_accFaults (t : State) (x) :
    Keeps 32 t { t with accFaults := x } where
  pending b := rfl
  regs b := rfl
  staged b := rfl
  stagedLate b := rfl
  mem b := rfl
  accFaults b := absurd b (by decide)
  wire b := rfl
  delivered b := rfl
  draws b := rfl
  node b := rfl
  stitch b := rfl
  time b := rfl
  lanes b := rfl
  halo b := rfl
  sw b := rfl
  pub b := rfl
  txn b := rfl
  ses b := rfl
  tracks b := rfl
  drift b := rfl
  edge b := rfl
  caps b := rfl
  field b := rfl
  can b := rfl
  pio b := rfl
  sigs b := rfl
  eths b := rfl
  uarts b := rfl
  ports b := rfl
  power b := rfl
  usb b := rfl
  router b := rfl
  cores b := rfl
  ao b := rfl
  otp b := rfl
  mgmt b := rfl
  ecl b := rfl
  ticks b := ⟨rfl, rfl⟩
  pages k d b := rfl
  wf := id
  fuses := OtpSt.le_refl _
  fresh := Nat.le_refl _

theorem Keeps.put_wire (t : State) (x) :
    Keeps 64 t { t with wire := x } where
  pending b := rfl
  regs b := rfl
  staged b := rfl
  stagedLate b := rfl
  mem b := rfl
  accFaults b := rfl
  wire b := absurd b (by decide)
  delivered b := rfl
  draws b := rfl
  node b := rfl
  stitch b := rfl
  time b := rfl
  lanes b := rfl
  halo b := rfl
  sw b := rfl
  pub b := rfl
  txn b := rfl
  ses b := rfl
  tracks b := rfl
  drift b := rfl
  edge b := rfl
  caps b := rfl
  field b := rfl
  can b := rfl
  pio b := rfl
  sigs b := rfl
  eths b := rfl
  uarts b := rfl
  ports b := rfl
  power b := rfl
  usb b := rfl
  router b := rfl
  cores b := rfl
  ao b := rfl
  otp b := rfl
  mgmt b := rfl
  ecl b := rfl
  ticks b := ⟨rfl, rfl⟩
  pages k d b := rfl
  wf := id
  fuses := OtpSt.le_refl _
  fresh := Nat.le_refl _

theorem Keeps.put_delivered (t : State) (x) :
    Keeps 128 t { t with delivered := x } where
  pending b := rfl
  regs b := rfl
  staged b := rfl
  stagedLate b := rfl
  mem b := rfl
  accFaults b := rfl
  wire b := rfl
  delivered b := absurd b (by decide)
  draws b := rfl
  node b := rfl
  stitch b := rfl
  time b := rfl
  lanes b := rfl
  halo b := rfl
  sw b := rfl
  pub b := rfl
  txn b := rfl
  ses b := rfl
  tracks b := rfl
  drift b := rfl
  edge b := rfl
  caps b := rfl
  field b := rfl
  can b := rfl
  pio b := rfl
  sigs b := rfl
  eths b := rfl
  uarts b := rfl
  ports b := rfl
  power b := rfl
  usb b := rfl
  router b := rfl
  cores b := rfl
  ao b := rfl
  otp b := rfl
  mgmt b := rfl
  ecl b := rfl
  ticks b := ⟨rfl, rfl⟩
  pages k d b := rfl
  wf := id
  fuses := OtpSt.le_refl _
  fresh := Nat.le_refl _

theorem Keeps.put_draws (t : State) (x) (w : t.draws ≤ x) :
    Keeps 256 t { t with draws := x } where
  pending b := rfl
  regs b := rfl
  staged b := rfl
  stagedLate b := rfl
  mem b := rfl
  accFaults b := rfl
  wire b := rfl
  delivered b := rfl
  draws b := absurd b (by decide)
  node b := rfl
  stitch b := rfl
  time b := rfl
  lanes b := rfl
  halo b := rfl
  sw b := rfl
  pub b := rfl
  txn b := rfl
  ses b := rfl
  tracks b := rfl
  drift b := rfl
  edge b := rfl
  caps b := rfl
  field b := rfl
  can b := rfl
  pio b := rfl
  sigs b := rfl
  eths b := rfl
  uarts b := rfl
  ports b := rfl
  power b := rfl
  usb b := rfl
  router b := rfl
  cores b := rfl
  ao b := rfl
  otp b := rfl
  mgmt b := rfl
  ecl b := rfl
  ticks b := ⟨rfl, rfl⟩
  pages k d b := rfl
  wf := id
  fuses := OtpSt.le_refl _
  fresh := w

theorem Keeps.put_node (t : State) (x) :
    Keeps 512 t { t with node := x } where
  pending b := rfl
  regs b := rfl
  staged b := rfl
  stagedLate b := rfl
  mem b := rfl
  accFaults b := rfl
  wire b := rfl
  delivered b := rfl
  draws b := rfl
  node b := absurd b (by decide)
  stitch b := rfl
  time b := rfl
  lanes b := rfl
  halo b := rfl
  sw b := rfl
  pub b := rfl
  txn b := rfl
  ses b := rfl
  tracks b := rfl
  drift b := rfl
  edge b := rfl
  caps b := rfl
  field b := rfl
  can b := rfl
  pio b := rfl
  sigs b := rfl
  eths b := rfl
  uarts b := rfl
  ports b := rfl
  power b := rfl
  usb b := rfl
  router b := rfl
  cores b := rfl
  ao b := rfl
  otp b := rfl
  mgmt b := rfl
  ecl b := rfl
  ticks b := ⟨rfl, rfl⟩
  pages k d b := rfl
  wf := id
  fuses := OtpSt.le_refl _
  fresh := Nat.le_refl _

theorem Keeps.put_stitch (t : State) (x) :
    Keeps 1024 t { t with stitch := x } where
  pending b := rfl
  regs b := rfl
  staged b := rfl
  stagedLate b := rfl
  mem b := rfl
  accFaults b := rfl
  wire b := rfl
  delivered b := rfl
  draws b := rfl
  node b := rfl
  stitch b := absurd b (by decide)
  time b := rfl
  lanes b := rfl
  halo b := rfl
  sw b := rfl
  pub b := rfl
  txn b := rfl
  ses b := rfl
  tracks b := rfl
  drift b := rfl
  edge b := rfl
  caps b := rfl
  field b := rfl
  can b := rfl
  pio b := rfl
  sigs b := rfl
  eths b := rfl
  uarts b := rfl
  ports b := rfl
  power b := rfl
  usb b := rfl
  router b := rfl
  cores b := rfl
  ao b := rfl
  otp b := rfl
  mgmt b := rfl
  ecl b := rfl
  ticks b := ⟨rfl, rfl⟩
  pages k d b := rfl
  wf := id
  fuses := OtpSt.le_refl _
  fresh := Nat.le_refl _

theorem Keeps.put_time (t : State) (x) (ht : x.tick = t.time.tick ∧ x.ticks = t.time.ticks) :
    Keeps 2048 t { t with time := x } where
  pending b := rfl
  regs b := rfl
  staged b := rfl
  stagedLate b := rfl
  mem b := rfl
  accFaults b := rfl
  wire b := rfl
  delivered b := rfl
  draws b := rfl
  node b := rfl
  stitch b := rfl
  time b := absurd b (by decide)
  lanes b := rfl
  halo b := rfl
  sw b := rfl
  pub b := rfl
  txn b := rfl
  ses b := rfl
  tracks b := rfl
  drift b := rfl
  edge b := rfl
  caps b := rfl
  field b := rfl
  can b := rfl
  pio b := rfl
  sigs b := rfl
  eths b := rfl
  uarts b := rfl
  ports b := rfl
  power b := rfl
  usb b := rfl
  router b := rfl
  cores b := rfl
  ao b := rfl
  otp b := rfl
  mgmt b := rfl
  ecl b := rfl
  ticks b := ht
  pages k d b := rfl
  wf := id
  fuses := OtpSt.le_refl _
  fresh := Nat.le_refl _

theorem Keeps.put_lanes (t : State) (x) :
    Keeps 4096 t { t with lanes := x } where
  pending b := rfl
  regs b := rfl
  staged b := rfl
  stagedLate b := rfl
  mem b := rfl
  accFaults b := rfl
  wire b := rfl
  delivered b := rfl
  draws b := rfl
  node b := rfl
  stitch b := rfl
  time b := rfl
  lanes b := absurd b (by decide)
  halo b := rfl
  sw b := rfl
  pub b := rfl
  txn b := rfl
  ses b := rfl
  tracks b := rfl
  drift b := rfl
  edge b := rfl
  caps b := rfl
  field b := rfl
  can b := rfl
  pio b := rfl
  sigs b := rfl
  eths b := rfl
  uarts b := rfl
  ports b := rfl
  power b := rfl
  usb b := rfl
  router b := rfl
  cores b := rfl
  ao b := rfl
  otp b := rfl
  mgmt b := rfl
  ecl b := rfl
  ticks b := ⟨rfl, rfl⟩
  pages k d b := rfl
  wf := id
  fuses := OtpSt.le_refl _
  fresh := Nat.le_refl _

theorem Keeps.put_halo (t : State) (x) :
    Keeps 8192 t { t with halo := x } where
  pending b := rfl
  regs b := rfl
  staged b := rfl
  stagedLate b := rfl
  mem b := rfl
  accFaults b := rfl
  wire b := rfl
  delivered b := rfl
  draws b := rfl
  node b := rfl
  stitch b := rfl
  time b := rfl
  lanes b := rfl
  halo b := absurd b (by decide)
  sw b := rfl
  pub b := rfl
  txn b := rfl
  ses b := rfl
  tracks b := rfl
  drift b := rfl
  edge b := rfl
  caps b := rfl
  field b := rfl
  can b := rfl
  pio b := rfl
  sigs b := rfl
  eths b := rfl
  uarts b := rfl
  ports b := rfl
  power b := rfl
  usb b := rfl
  router b := rfl
  cores b := rfl
  ao b := rfl
  otp b := rfl
  mgmt b := rfl
  ecl b := rfl
  ticks b := ⟨rfl, rfl⟩
  pages k d b := rfl
  wf := id
  fuses := OtpSt.le_refl _
  fresh := Nat.le_refl _

theorem Keeps.put_sw (t : State) (x) :
    Keeps 16384 t { t with sw := x } where
  pending b := rfl
  regs b := rfl
  staged b := rfl
  stagedLate b := rfl
  mem b := rfl
  accFaults b := rfl
  wire b := rfl
  delivered b := rfl
  draws b := rfl
  node b := rfl
  stitch b := rfl
  time b := rfl
  lanes b := rfl
  halo b := rfl
  sw b := absurd b (by decide)
  pub b := rfl
  txn b := rfl
  ses b := rfl
  tracks b := rfl
  drift b := rfl
  edge b := rfl
  caps b := rfl
  field b := rfl
  can b := rfl
  pio b := rfl
  sigs b := rfl
  eths b := rfl
  uarts b := rfl
  ports b := rfl
  power b := rfl
  usb b := rfl
  router b := rfl
  cores b := rfl
  ao b := rfl
  otp b := rfl
  mgmt b := rfl
  ecl b := rfl
  ticks b := ⟨rfl, rfl⟩
  pages k d b := rfl
  wf := id
  fuses := OtpSt.le_refl _
  fresh := Nat.le_refl _

theorem Keeps.put_pub (t : State) (x) :
    Keeps 32768 t { t with pub := x } where
  pending b := rfl
  regs b := rfl
  staged b := rfl
  stagedLate b := rfl
  mem b := rfl
  accFaults b := rfl
  wire b := rfl
  delivered b := rfl
  draws b := rfl
  node b := rfl
  stitch b := rfl
  time b := rfl
  lanes b := rfl
  halo b := rfl
  sw b := rfl
  pub b := absurd b (by decide)
  txn b := rfl
  ses b := rfl
  tracks b := rfl
  drift b := rfl
  edge b := rfl
  caps b := rfl
  field b := rfl
  can b := rfl
  pio b := rfl
  sigs b := rfl
  eths b := rfl
  uarts b := rfl
  ports b := rfl
  power b := rfl
  usb b := rfl
  router b := rfl
  cores b := rfl
  ao b := rfl
  otp b := rfl
  mgmt b := rfl
  ecl b := rfl
  ticks b := ⟨rfl, rfl⟩
  pages k d b := rfl
  wf := id
  fuses := OtpSt.le_refl _
  fresh := Nat.le_refl _

theorem Keeps.put_txn (t : State) (x) :
    Keeps 65536 t { t with txn := x } where
  pending b := rfl
  regs b := rfl
  staged b := rfl
  stagedLate b := rfl
  mem b := rfl
  accFaults b := rfl
  wire b := rfl
  delivered b := rfl
  draws b := rfl
  node b := rfl
  stitch b := rfl
  time b := rfl
  lanes b := rfl
  halo b := rfl
  sw b := rfl
  pub b := rfl
  txn b := absurd b (by decide)
  ses b := rfl
  tracks b := rfl
  drift b := rfl
  edge b := rfl
  caps b := rfl
  field b := rfl
  can b := rfl
  pio b := rfl
  sigs b := rfl
  eths b := rfl
  uarts b := rfl
  ports b := rfl
  power b := rfl
  usb b := rfl
  router b := rfl
  cores b := rfl
  ao b := rfl
  otp b := rfl
  mgmt b := rfl
  ecl b := rfl
  ticks b := ⟨rfl, rfl⟩
  pages k d b := rfl
  wf := id
  fuses := OtpSt.le_refl _
  fresh := Nat.le_refl _

theorem Keeps.put_ses (t : State) (x) :
    Keeps 131072 t { t with ses := x } where
  pending b := rfl
  regs b := rfl
  staged b := rfl
  stagedLate b := rfl
  mem b := rfl
  accFaults b := rfl
  wire b := rfl
  delivered b := rfl
  draws b := rfl
  node b := rfl
  stitch b := rfl
  time b := rfl
  lanes b := rfl
  halo b := rfl
  sw b := rfl
  pub b := rfl
  txn b := rfl
  ses b := absurd b (by decide)
  tracks b := rfl
  drift b := rfl
  edge b := rfl
  caps b := rfl
  field b := rfl
  can b := rfl
  pio b := rfl
  sigs b := rfl
  eths b := rfl
  uarts b := rfl
  ports b := rfl
  power b := rfl
  usb b := rfl
  router b := rfl
  cores b := rfl
  ao b := rfl
  otp b := rfl
  mgmt b := rfl
  ecl b := rfl
  ticks b := ⟨rfl, rfl⟩
  pages k d b := rfl
  wf := id
  fuses := OtpSt.le_refl _
  fresh := Nat.le_refl _

theorem Keeps.put_tracks (t : State) (x) :
    Keeps 262144 t { t with tracks := x } where
  pending b := rfl
  regs b := rfl
  staged b := rfl
  stagedLate b := rfl
  mem b := rfl
  accFaults b := rfl
  wire b := rfl
  delivered b := rfl
  draws b := rfl
  node b := rfl
  stitch b := rfl
  time b := rfl
  lanes b := rfl
  halo b := rfl
  sw b := rfl
  pub b := rfl
  txn b := rfl
  ses b := rfl
  tracks b := absurd b (by decide)
  drift b := rfl
  edge b := rfl
  caps b := rfl
  field b := rfl
  can b := rfl
  pio b := rfl
  sigs b := rfl
  eths b := rfl
  uarts b := rfl
  ports b := rfl
  power b := rfl
  usb b := rfl
  router b := rfl
  cores b := rfl
  ao b := rfl
  otp b := rfl
  mgmt b := rfl
  ecl b := rfl
  ticks b := ⟨rfl, rfl⟩
  pages k d b := rfl
  wf := id
  fuses := OtpSt.le_refl _
  fresh := Nat.le_refl _

theorem Keeps.put_drift (t : State) (x) :
    Keeps 524288 t { t with drift := x } where
  pending b := rfl
  regs b := rfl
  staged b := rfl
  stagedLate b := rfl
  mem b := rfl
  accFaults b := rfl
  wire b := rfl
  delivered b := rfl
  draws b := rfl
  node b := rfl
  stitch b := rfl
  time b := rfl
  lanes b := rfl
  halo b := rfl
  sw b := rfl
  pub b := rfl
  txn b := rfl
  ses b := rfl
  tracks b := rfl
  drift b := absurd b (by decide)
  edge b := rfl
  caps b := rfl
  field b := rfl
  can b := rfl
  pio b := rfl
  sigs b := rfl
  eths b := rfl
  uarts b := rfl
  ports b := rfl
  power b := rfl
  usb b := rfl
  router b := rfl
  cores b := rfl
  ao b := rfl
  otp b := rfl
  mgmt b := rfl
  ecl b := rfl
  ticks b := ⟨rfl, rfl⟩
  pages k d b := rfl
  wf := id
  fuses := OtpSt.le_refl _
  fresh := Nat.le_refl _

theorem Keeps.put_edge (t : State) (x) :
    Keeps 1048576 t { t with edge := x } where
  pending b := rfl
  regs b := rfl
  staged b := rfl
  stagedLate b := rfl
  mem b := rfl
  accFaults b := rfl
  wire b := rfl
  delivered b := rfl
  draws b := rfl
  node b := rfl
  stitch b := rfl
  time b := rfl
  lanes b := rfl
  halo b := rfl
  sw b := rfl
  pub b := rfl
  txn b := rfl
  ses b := rfl
  tracks b := rfl
  drift b := rfl
  edge b := absurd b (by decide)
  caps b := rfl
  field b := rfl
  can b := rfl
  pio b := rfl
  sigs b := rfl
  eths b := rfl
  uarts b := rfl
  ports b := rfl
  power b := rfl
  usb b := rfl
  router b := rfl
  cores b := rfl
  ao b := rfl
  otp b := rfl
  mgmt b := rfl
  ecl b := rfl
  ticks b := ⟨rfl, rfl⟩
  pages k d b := rfl
  wf := id
  fuses := OtpSt.le_refl _
  fresh := Nat.le_refl _

theorem Keeps.put_caps (t : State) (x) :
    Keeps 2097152 t { t with caps := x } where
  pending b := rfl
  regs b := rfl
  staged b := rfl
  stagedLate b := rfl
  mem b := rfl
  accFaults b := rfl
  wire b := rfl
  delivered b := rfl
  draws b := rfl
  node b := rfl
  stitch b := rfl
  time b := rfl
  lanes b := rfl
  halo b := rfl
  sw b := rfl
  pub b := rfl
  txn b := rfl
  ses b := rfl
  tracks b := rfl
  drift b := rfl
  edge b := rfl
  caps b := absurd b (by decide)
  field b := rfl
  can b := rfl
  pio b := rfl
  sigs b := rfl
  eths b := rfl
  uarts b := rfl
  ports b := rfl
  power b := rfl
  usb b := rfl
  router b := rfl
  cores b := rfl
  ao b := rfl
  otp b := rfl
  mgmt b := rfl
  ecl b := rfl
  ticks b := ⟨rfl, rfl⟩
  pages k d b := rfl
  wf := id
  fuses := OtpSt.le_refl _
  fresh := Nat.le_refl _

theorem Keeps.put_field (t : State) (x) :
    Keeps 4194304 t { t with field := x } where
  pending b := rfl
  regs b := rfl
  staged b := rfl
  stagedLate b := rfl
  mem b := rfl
  accFaults b := rfl
  wire b := rfl
  delivered b := rfl
  draws b := rfl
  node b := rfl
  stitch b := rfl
  time b := rfl
  lanes b := rfl
  halo b := rfl
  sw b := rfl
  pub b := rfl
  txn b := rfl
  ses b := rfl
  tracks b := rfl
  drift b := rfl
  edge b := rfl
  caps b := rfl
  field b := absurd b (by decide)
  can b := rfl
  pio b := rfl
  sigs b := rfl
  eths b := rfl
  uarts b := rfl
  ports b := rfl
  power b := rfl
  usb b := rfl
  router b := rfl
  cores b := rfl
  ao b := rfl
  otp b := rfl
  mgmt b := rfl
  ecl b := rfl
  ticks b := ⟨rfl, rfl⟩
  pages k d b := rfl
  wf := id
  fuses := OtpSt.le_refl _
  fresh := Nat.le_refl _

theorem Keeps.put_can (t : State) (x) :
    Keeps 8388608 t { t with can := x } where
  pending b := rfl
  regs b := rfl
  staged b := rfl
  stagedLate b := rfl
  mem b := rfl
  accFaults b := rfl
  wire b := rfl
  delivered b := rfl
  draws b := rfl
  node b := rfl
  stitch b := rfl
  time b := rfl
  lanes b := rfl
  halo b := rfl
  sw b := rfl
  pub b := rfl
  txn b := rfl
  ses b := rfl
  tracks b := rfl
  drift b := rfl
  edge b := rfl
  caps b := rfl
  field b := rfl
  can b := absurd b (by decide)
  pio b := rfl
  sigs b := rfl
  eths b := rfl
  uarts b := rfl
  ports b := rfl
  power b := rfl
  usb b := rfl
  router b := rfl
  cores b := rfl
  ao b := rfl
  otp b := rfl
  mgmt b := rfl
  ecl b := rfl
  ticks b := ⟨rfl, rfl⟩
  pages k d b := rfl
  wf := id
  fuses := OtpSt.le_refl _
  fresh := Nat.le_refl _

theorem Keeps.put_pio (t : State) (x) :
    Keeps 16777216 t { t with pio := x } where
  pending b := rfl
  regs b := rfl
  staged b := rfl
  stagedLate b := rfl
  mem b := rfl
  accFaults b := rfl
  wire b := rfl
  delivered b := rfl
  draws b := rfl
  node b := rfl
  stitch b := rfl
  time b := rfl
  lanes b := rfl
  halo b := rfl
  sw b := rfl
  pub b := rfl
  txn b := rfl
  ses b := rfl
  tracks b := rfl
  drift b := rfl
  edge b := rfl
  caps b := rfl
  field b := rfl
  can b := rfl
  pio b := absurd b (by decide)
  sigs b := rfl
  eths b := rfl
  uarts b := rfl
  ports b := rfl
  power b := rfl
  usb b := rfl
  router b := rfl
  cores b := rfl
  ao b := rfl
  otp b := rfl
  mgmt b := rfl
  ecl b := rfl
  ticks b := ⟨rfl, rfl⟩
  pages k d b := rfl
  wf := id
  fuses := OtpSt.le_refl _
  fresh := Nat.le_refl _

theorem Keeps.put_sigs (t : State) (x) :
    Keeps 33554432 t { t with sigs := x } where
  pending b := rfl
  regs b := rfl
  staged b := rfl
  stagedLate b := rfl
  mem b := rfl
  accFaults b := rfl
  wire b := rfl
  delivered b := rfl
  draws b := rfl
  node b := rfl
  stitch b := rfl
  time b := rfl
  lanes b := rfl
  halo b := rfl
  sw b := rfl
  pub b := rfl
  txn b := rfl
  ses b := rfl
  tracks b := rfl
  drift b := rfl
  edge b := rfl
  caps b := rfl
  field b := rfl
  can b := rfl
  pio b := rfl
  sigs b := absurd b (by decide)
  eths b := rfl
  uarts b := rfl
  ports b := rfl
  power b := rfl
  usb b := rfl
  router b := rfl
  cores b := rfl
  ao b := rfl
  otp b := rfl
  mgmt b := rfl
  ecl b := rfl
  ticks b := ⟨rfl, rfl⟩
  pages k d b := rfl
  wf := id
  fuses := OtpSt.le_refl _
  fresh := Nat.le_refl _

theorem Keeps.put_eths (t : State) (x) :
    Keeps 67108864 t { t with eths := x } where
  pending b := rfl
  regs b := rfl
  staged b := rfl
  stagedLate b := rfl
  mem b := rfl
  accFaults b := rfl
  wire b := rfl
  delivered b := rfl
  draws b := rfl
  node b := rfl
  stitch b := rfl
  time b := rfl
  lanes b := rfl
  halo b := rfl
  sw b := rfl
  pub b := rfl
  txn b := rfl
  ses b := rfl
  tracks b := rfl
  drift b := rfl
  edge b := rfl
  caps b := rfl
  field b := rfl
  can b := rfl
  pio b := rfl
  sigs b := rfl
  eths b := absurd b (by decide)
  uarts b := rfl
  ports b := rfl
  power b := rfl
  usb b := rfl
  router b := rfl
  cores b := rfl
  ao b := rfl
  otp b := rfl
  mgmt b := rfl
  ecl b := rfl
  ticks b := ⟨rfl, rfl⟩
  pages k d b := rfl
  wf := id
  fuses := OtpSt.le_refl _
  fresh := Nat.le_refl _

theorem Keeps.put_uarts (t : State) (x) :
    Keeps 134217728 t { t with uarts := x } where
  pending b := rfl
  regs b := rfl
  staged b := rfl
  stagedLate b := rfl
  mem b := rfl
  accFaults b := rfl
  wire b := rfl
  delivered b := rfl
  draws b := rfl
  node b := rfl
  stitch b := rfl
  time b := rfl
  lanes b := rfl
  halo b := rfl
  sw b := rfl
  pub b := rfl
  txn b := rfl
  ses b := rfl
  tracks b := rfl
  drift b := rfl
  edge b := rfl
  caps b := rfl
  field b := rfl
  can b := rfl
  pio b := rfl
  sigs b := rfl
  eths b := rfl
  uarts b := absurd b (by decide)
  ports b := rfl
  power b := rfl
  usb b := rfl
  router b := rfl
  cores b := rfl
  ao b := rfl
  otp b := rfl
  mgmt b := rfl
  ecl b := rfl
  ticks b := ⟨rfl, rfl⟩
  pages k d b := rfl
  wf := id
  fuses := OtpSt.le_refl _
  fresh := Nat.le_refl _

theorem Keeps.put_ports (t : State) (x) :
    Keeps 268435456 t { t with ports := x } where
  pending b := rfl
  regs b := rfl
  staged b := rfl
  stagedLate b := rfl
  mem b := rfl
  accFaults b := rfl
  wire b := rfl
  delivered b := rfl
  draws b := rfl
  node b := rfl
  stitch b := rfl
  time b := rfl
  lanes b := rfl
  halo b := rfl
  sw b := rfl
  pub b := rfl
  txn b := rfl
  ses b := rfl
  tracks b := rfl
  drift b := rfl
  edge b := rfl
  caps b := rfl
  field b := rfl
  can b := rfl
  pio b := rfl
  sigs b := rfl
  eths b := rfl
  uarts b := rfl
  ports b := absurd b (by decide)
  power b := rfl
  usb b := rfl
  router b := rfl
  cores b := rfl
  ao b := rfl
  otp b := rfl
  mgmt b := rfl
  ecl b := rfl
  ticks b := ⟨rfl, rfl⟩
  pages k d b := rfl
  wf := id
  fuses := OtpSt.le_refl _
  fresh := Nat.le_refl _

theorem Keeps.put_power (t : State) (x) :
    Keeps 536870912 t { t with power := x } where
  pending b := rfl
  regs b := rfl
  staged b := rfl
  stagedLate b := rfl
  mem b := rfl
  accFaults b := rfl
  wire b := rfl
  delivered b := rfl
  draws b := rfl
  node b := rfl
  stitch b := rfl
  time b := rfl
  lanes b := rfl
  halo b := rfl
  sw b := rfl
  pub b := rfl
  txn b := rfl
  ses b := rfl
  tracks b := rfl
  drift b := rfl
  edge b := rfl
  caps b := rfl
  field b := rfl
  can b := rfl
  pio b := rfl
  sigs b := rfl
  eths b := rfl
  uarts b := rfl
  ports b := rfl
  power b := absurd b (by decide)
  usb b := rfl
  router b := rfl
  cores b := rfl
  ao b := rfl
  otp b := rfl
  mgmt b := rfl
  ecl b := rfl
  ticks b := ⟨rfl, rfl⟩
  pages k d b := rfl
  wf := id
  fuses := OtpSt.le_refl _
  fresh := Nat.le_refl _

theorem Keeps.put_usb (t : State) (x) :
    Keeps 1073741824 t { t with usb := x } where
  pending b := rfl
  regs b := rfl
  staged b := rfl
  stagedLate b := rfl
  mem b := rfl
  accFaults b := rfl
  wire b := rfl
  delivered b := rfl
  draws b := rfl
  node b := rfl
  stitch b := rfl
  time b := rfl
  lanes b := rfl
  halo b := rfl
  sw b := rfl
  pub b := rfl
  txn b := rfl
  ses b := rfl
  tracks b := rfl
  drift b := rfl
  edge b := rfl
  caps b := rfl
  field b := rfl
  can b := rfl
  pio b := rfl
  sigs b := rfl
  eths b := rfl
  uarts b := rfl
  ports b := rfl
  power b := rfl
  usb b := absurd b (by decide)
  router b := rfl
  cores b := rfl
  ao b := rfl
  otp b := rfl
  mgmt b := rfl
  ecl b := rfl
  ticks b := ⟨rfl, rfl⟩
  pages k d b := rfl
  wf := id
  fuses := OtpSt.le_refl _
  fresh := Nat.le_refl _

theorem Keeps.put_router (t : State) (x) :
    Keeps 2147483648 t { t with router := x } where
  pending b := rfl
  regs b := rfl
  staged b := rfl
  stagedLate b := rfl
  mem b := rfl
  accFaults b := rfl
  wire b := rfl
  delivered b := rfl
  draws b := rfl
  node b := rfl
  stitch b := rfl
  time b := rfl
  lanes b := rfl
  halo b := rfl
  sw b := rfl
  pub b := rfl
  txn b := rfl
  ses b := rfl
  tracks b := rfl
  drift b := rfl
  edge b := rfl
  caps b := rfl
  field b := rfl
  can b := rfl
  pio b := rfl
  sigs b := rfl
  eths b := rfl
  uarts b := rfl
  ports b := rfl
  power b := rfl
  usb b := rfl
  router b := absurd b (by decide)
  cores b := rfl
  ao b := rfl
  otp b := rfl
  mgmt b := rfl
  ecl b := rfl
  ticks b := ⟨rfl, rfl⟩
  pages k d b := rfl
  wf := id
  fuses := OtpSt.le_refl _
  fresh := Nat.le_refl _

theorem Keeps.put_cores (t : State) (x) :
    Keeps 4294967296 t { t with cores := x } where
  pending b := rfl
  regs b := rfl
  staged b := rfl
  stagedLate b := rfl
  mem b := rfl
  accFaults b := rfl
  wire b := rfl
  delivered b := rfl
  draws b := rfl
  node b := rfl
  stitch b := rfl
  time b := rfl
  lanes b := rfl
  halo b := rfl
  sw b := rfl
  pub b := rfl
  txn b := rfl
  ses b := rfl
  tracks b := rfl
  drift b := rfl
  edge b := rfl
  caps b := rfl
  field b := rfl
  can b := rfl
  pio b := rfl
  sigs b := rfl
  eths b := rfl
  uarts b := rfl
  ports b := rfl
  power b := rfl
  usb b := rfl
  router b := rfl
  cores b := absurd b (by decide)
  ao b := rfl
  otp b := rfl
  mgmt b := rfl
  ecl b := rfl
  ticks b := ⟨rfl, rfl⟩
  pages k d b := rfl
  wf := id
  fuses := OtpSt.le_refl _
  fresh := Nat.le_refl _

theorem Keeps.put_ao (t : State) (x) :
    Keeps 8589934592 t { t with ao := x } where
  pending b := rfl
  regs b := rfl
  staged b := rfl
  stagedLate b := rfl
  mem b := rfl
  accFaults b := rfl
  wire b := rfl
  delivered b := rfl
  draws b := rfl
  node b := rfl
  stitch b := rfl
  time b := rfl
  lanes b := rfl
  halo b := rfl
  sw b := rfl
  pub b := rfl
  txn b := rfl
  ses b := rfl
  tracks b := rfl
  drift b := rfl
  edge b := rfl
  caps b := rfl
  field b := rfl
  can b := rfl
  pio b := rfl
  sigs b := rfl
  eths b := rfl
  uarts b := rfl
  ports b := rfl
  power b := rfl
  usb b := rfl
  router b := rfl
  cores b := rfl
  ao b := absurd b (by decide)
  otp b := rfl
  mgmt b := rfl
  ecl b := rfl
  ticks b := ⟨rfl, rfl⟩
  pages k d b := rfl
  wf := id
  fuses := OtpSt.le_refl _
  fresh := Nat.le_refl _

theorem Keeps.put_otp (t : State) (x) (w : t.otp.le x) :
    Keeps 17179869184 t { t with otp := x } where
  pending b := rfl
  regs b := rfl
  staged b := rfl
  stagedLate b := rfl
  mem b := rfl
  accFaults b := rfl
  wire b := rfl
  delivered b := rfl
  draws b := rfl
  node b := rfl
  stitch b := rfl
  time b := rfl
  lanes b := rfl
  halo b := rfl
  sw b := rfl
  pub b := rfl
  txn b := rfl
  ses b := rfl
  tracks b := rfl
  drift b := rfl
  edge b := rfl
  caps b := rfl
  field b := rfl
  can b := rfl
  pio b := rfl
  sigs b := rfl
  eths b := rfl
  uarts b := rfl
  ports b := rfl
  power b := rfl
  usb b := rfl
  router b := rfl
  cores b := rfl
  ao b := rfl
  otp b := absurd b (by decide)
  mgmt b := rfl
  ecl b := rfl
  ticks b := ⟨rfl, rfl⟩
  pages k d b := rfl
  wf := id
  fuses := w
  fresh := Nat.le_refl _

theorem Keeps.put_mgmt (t : State) (x) :
    Keeps 34359738368 t { t with mgmt := x } where
  pending b := rfl
  regs b := rfl
  staged b := rfl
  stagedLate b := rfl
  mem b := rfl
  accFaults b := rfl
  wire b := rfl
  delivered b := rfl
  draws b := rfl
  node b := rfl
  stitch b := rfl
  time b := rfl
  lanes b := rfl
  halo b := rfl
  sw b := rfl
  pub b := rfl
  txn b := rfl
  ses b := rfl
  tracks b := rfl
  drift b := rfl
  edge b := rfl
  caps b := rfl
  field b := rfl
  can b := rfl
  pio b := rfl
  sigs b := rfl
  eths b := rfl
  uarts b := rfl
  ports b := rfl
  power b := rfl
  usb b := rfl
  router b := rfl
  cores b := rfl
  ao b := rfl
  otp b := rfl
  mgmt b := absurd b (by decide)
  ecl b := rfl
  ticks b := ⟨rfl, rfl⟩
  pages k d b := rfl
  wf := id
  fuses := OtpSt.le_refl _
  fresh := Nat.le_refl _

theorem Keeps.put_ecl (t : State) (x) :
    Keeps 68719476736 t { t with ecl := x } where
  pending b := rfl
  regs b := rfl
  staged b := rfl
  stagedLate b := rfl
  mem b := rfl
  accFaults b := rfl
  wire b := rfl
  delivered b := rfl
  draws b := rfl
  node b := rfl
  stitch b := rfl
  time b := rfl
  lanes b := rfl
  halo b := rfl
  sw b := rfl
  pub b := rfl
  txn b := rfl
  ses b := rfl
  tracks b := rfl
  drift b := rfl
  edge b := rfl
  caps b := rfl
  field b := rfl
  can b := rfl
  pio b := rfl
  sigs b := rfl
  eths b := rfl
  uarts b := rfl
  ports b := rfl
  power b := rfl
  usb b := rfl
  router b := rfl
  cores b := rfl
  ao b := rfl
  otp b := rfl
  mgmt b := rfl
  ecl b := absurd b (by decide)
  ticks b := ⟨rfl, rfl⟩
  pages k d b := rfl
  wf := id
  fuses := OtpSt.le_refl _
  fresh := Nat.le_refl _

theorem Keeps.put_timeAny (t : State) (x) :
    Keeps 137438955520 t { t with time := x } where
  pending b := rfl
  regs b := rfl
  staged b := rfl
  stagedLate b := rfl
  mem b := rfl
  accFaults b := rfl
  wire b := rfl
  delivered b := rfl
  draws b := rfl
  node b := rfl
  stitch b := rfl
  time b := absurd b (by decide)
  lanes b := rfl
  halo b := rfl
  sw b := rfl
  pub b := rfl
  txn b := rfl
  ses b := rfl
  tracks b := rfl
  drift b := rfl
  edge b := rfl
  caps b := rfl
  field b := rfl
  can b := rfl
  pio b := rfl
  sigs b := rfl
  eths b := rfl
  uarts b := rfl
  ports b := rfl
  power b := rfl
  usb b := rfl
  router b := rfl
  cores b := rfl
  ao b := rfl
  otp b := rfl
  mgmt b := rfl
  ecl b := rfl
  ticks b := absurd b (by decide)
  pages k d b := rfl
  wf := id
  fuses := OtpSt.le_refl _
  fresh := Nat.le_refl _

theorem Keeps.put_node_edge_ecl (t : State) (x0 x1 x2) :
    Keeps 68720525824 t { t with node := x0, edge := x1, ecl := x2 } where
  pending b := rfl
  regs b := rfl
  staged b := rfl
  stagedLate b := rfl
  mem b := rfl
  accFaults b := rfl
  wire b := rfl
  delivered b := rfl
  draws b := rfl
  node b := absurd b (by decide)
  stitch b := rfl
  time b := rfl
  lanes b := rfl
  halo b := rfl
  sw b := rfl
  pub b := rfl
  txn b := rfl
  ses b := rfl
  tracks b := rfl
  drift b := rfl
  edge b := absurd b (by decide)
  caps b := rfl
  field b := rfl
  can b := rfl
  pio b := rfl
  sigs b := rfl
  eths b := rfl
  uarts b := rfl
  ports b := rfl
  power b := rfl
  usb b := rfl
  router b := rfl
  cores b := rfl
  ao b := rfl
  otp b := rfl
  mgmt b := rfl
  ecl b := absurd b (by decide)
  ticks b := ⟨rfl, rfl⟩
  pages k d b := rfl
  wf := id
  fuses := OtpSt.le_refl _
  fresh := Nat.le_refl _

theorem Keeps.put_staged_stagedLate (t : State) (x0 x1) :
    Keeps 12 t { t with staged := x0, stagedLate := x1 } where
  pending b := rfl
  regs b := rfl
  staged b := absurd b (by decide)
  stagedLate b := absurd b (by decide)
  mem b := rfl
  accFaults b := rfl
  wire b := rfl
  delivered b := rfl
  draws b := rfl
  node b := rfl
  stitch b := rfl
  time b := rfl
  lanes b := rfl
  halo b := rfl
  sw b := rfl
  pub b := rfl
  txn b := rfl
  ses b := rfl
  tracks b := rfl
  drift b := rfl
  edge b := rfl
  caps b := rfl
  field b := rfl
  can b := rfl
  pio b := rfl
  sigs b := rfl
  eths b := rfl
  uarts b := rfl
  ports b := rfl
  power b := rfl
  usb b := rfl
  router b := rfl
  cores b := rfl
  ao b := rfl
  otp b := rfl
  mgmt b := rfl
  ecl b := rfl
  ticks b := ⟨rfl, rfl⟩
  pages k d b := rfl
  wf := id
  fuses := OtpSt.le_refl _
  fresh := Nat.le_refl _

theorem Keeps.put_time_halo (t : State) (x0 x1) (ht : x0.tick = t.time.tick ∧ x0.ticks = t.time.ticks) :
    Keeps 10240 t { t with time := x0, halo := x1 } where
  pending b := rfl
  regs b := rfl
  staged b := rfl
  stagedLate b := rfl
  mem b := rfl
  accFaults b := rfl
  wire b := rfl
  delivered b := rfl
  draws b := rfl
  node b := rfl
  stitch b := rfl
  time b := absurd b (by decide)
  lanes b := rfl
  halo b := absurd b (by decide)
  sw b := rfl
  pub b := rfl
  txn b := rfl
  ses b := rfl
  tracks b := rfl
  drift b := rfl
  edge b := rfl
  caps b := rfl
  field b := rfl
  can b := rfl
  pio b := rfl
  sigs b := rfl
  eths b := rfl
  uarts b := rfl
  ports b := rfl
  power b := rfl
  usb b := rfl
  router b := rfl
  cores b := rfl
  ao b := rfl
  otp b := rfl
  mgmt b := rfl
  ecl b := rfl
  ticks b := ht
  pages k d b := rfl
  wf := id
  fuses := OtpSt.le_refl _
  fresh := Nat.le_refl _

theorem Keeps.put_time_mgmt (t : State) (x0 x1) (ht : x0.tick = t.time.tick ∧ x0.ticks = t.time.ticks) :
    Keeps 34359740416 t { t with time := x0, mgmt := x1 } where
  pending b := rfl
  regs b := rfl
  staged b := rfl
  stagedLate b := rfl
  mem b := rfl
  accFaults b := rfl
  wire b := rfl
  delivered b := rfl
  draws b := rfl
  node b := rfl
  stitch b := rfl
  time b := absurd b (by decide)
  lanes b := rfl
  halo b := rfl
  sw b := rfl
  pub b := rfl
  txn b := rfl
  ses b := rfl
  tracks b := rfl
  drift b := rfl
  edge b := rfl
  caps b := rfl
  field b := rfl
  can b := rfl
  pio b := rfl
  sigs b := rfl
  eths b := rfl
  uarts b := rfl
  ports b := rfl
  power b := rfl
  usb b := rfl
  router b := rfl
  cores b := rfl
  ao b := rfl
  otp b := rfl
  mgmt b := absurd b (by decide)
  ecl b := rfl
  ticks b := ht
  pages k d b := rfl
  wf := id
  fuses := OtpSt.le_refl _
  fresh := Nat.le_refl _

theorem Keeps.put_ao_mgmt (t : State) (x0 x1) :
    Keeps 42949672960 t { t with ao := x0, mgmt := x1 } where
  pending b := rfl
  regs b := rfl
  staged b := rfl
  stagedLate b := rfl
  mem b := rfl
  accFaults b := rfl
  wire b := rfl
  delivered b := rfl
  draws b := rfl
  node b := rfl
  stitch b := rfl
  time b := rfl
  lanes b := rfl
  halo b := rfl
  sw b := rfl
  pub b := rfl
  txn b := rfl
  ses b := rfl
  tracks b := rfl
  drift b := rfl
  edge b := rfl
  caps b := rfl
  field b := rfl
  can b := rfl
  pio b := rfl
  sigs b := rfl
  eths b := rfl
  uarts b := rfl
  ports b := rfl
  power b := rfl
  usb b := rfl
  router b := rfl
  cores b := rfl
  ao b := absurd b (by decide)
  otp b := rfl
  mgmt b := absurd b (by decide)
  ecl b := rfl
  ticks b := ⟨rfl, rfl⟩
  pages k d b := rfl
  wf := id
  fuses := OtpSt.le_refl _
  fresh := Nat.le_refl _

theorem Keeps.put_time_txn (t : State) (x0 x1) (ht : x0.tick = t.time.tick ∧ x0.ticks = t.time.ticks) :
    Keeps 67584 t { t with time := x0, txn := x1 } where
  pending b := rfl
  regs b := rfl
  staged b := rfl
  stagedLate b := rfl
  mem b := rfl
  accFaults b := rfl
  wire b := rfl
  delivered b := rfl
  draws b := rfl
  node b := rfl
  stitch b := rfl
  time b := absurd b (by decide)
  lanes b := rfl
  halo b := rfl
  sw b := rfl
  pub b := rfl
  txn b := absurd b (by decide)
  ses b := rfl
  tracks b := rfl
  drift b := rfl
  edge b := rfl
  caps b := rfl
  field b := rfl
  can b := rfl
  pio b := rfl
  sigs b := rfl
  eths b := rfl
  uarts b := rfl
  ports b := rfl
  power b := rfl
  usb b := rfl
  router b := rfl
  cores b := rfl
  ao b := rfl
  otp b := rfl
  mgmt b := rfl
  ecl b := rfl
  ticks b := ht
  pages k d b := rfl
  wf := id
  fuses := OtpSt.le_refl _
  fresh := Nat.le_refl _

theorem Keeps.put_node_ao (t : State) (x0 x1) :
    Keeps 8589935104 t { t with node := x0, ao := x1 } where
  pending b := rfl
  regs b := rfl
  staged b := rfl
  stagedLate b := rfl
  mem b := rfl
  accFaults b := rfl
  wire b := rfl
  delivered b := rfl
  draws b := rfl
  node b := absurd b (by decide)
  stitch b := rfl
  time b := rfl
  lanes b := rfl
  halo b := rfl
  sw b := rfl
  pub b := rfl
  txn b := rfl
  ses b := rfl
  tracks b := rfl
  drift b := rfl
  edge b := rfl
  caps b := rfl
  field b := rfl
  can b := rfl
  pio b := rfl
  sigs b := rfl
  eths b := rfl
  uarts b := rfl
  ports b := rfl
  power b := rfl
  usb b := rfl
  router b := rfl
  cores b := rfl
  ao b := absurd b (by decide)
  otp b := rfl
  mgmt b := rfl
  ecl b := rfl
  ticks b := ⟨rfl, rfl⟩
  pages k d b := rfl
  wf := id
  fuses := OtpSt.le_refl _
  fresh := Nat.le_refl _

theorem Keeps.put_sw_ses_tracks_drift_usb (t : State) (x0 x1 x2 x3 x4) :
    Keeps 1074675712 t { t with sw := x0, ses := x1, tracks := x2, drift := x3, usb := x4 } where
  pending b := rfl
  regs b := rfl
  staged b := rfl
  stagedLate b := rfl
  mem b := rfl
  accFaults b := rfl
  wire b := rfl
  delivered b := rfl
  draws b := rfl
  node b := rfl
  stitch b := rfl
  time b := rfl
  lanes b := rfl
  halo b := rfl
  sw b := absurd b (by decide)
  pub b := rfl
  txn b := rfl
  ses b := absurd b (by decide)
  tracks b := absurd b (by decide)
  drift b := absurd b (by decide)
  edge b := rfl
  caps b := rfl
  field b := rfl
  can b := rfl
  pio b := rfl
  sigs b := rfl
  eths b := rfl
  uarts b := rfl
  ports b := rfl
  power b := rfl
  usb b := absurd b (by decide)
  router b := rfl
  cores b := rfl
  ao b := rfl
  otp b := rfl
  mgmt b := rfl
  ecl b := rfl
  ticks b := ⟨rfl, rfl⟩
  pages k d b := rfl
  wf := id
  fuses := OtpSt.le_refl _
  fresh := Nat.le_refl _

theorem Keeps.put_field_drift_tracks_ses_usb_sw (t : State) (x0 x1 x2 x3 x4 x5) :
    Keeps 1078870016 t { t with field := x0, drift := x1, tracks := x2, ses := x3, usb := x4, sw := x5 } where
  pending b := rfl
  regs b := rfl
  staged b := rfl
  stagedLate b := rfl
  mem b := rfl
  accFaults b := rfl
  wire b := rfl
  delivered b := rfl
  draws b := rfl
  node b := rfl
  stitch b := rfl
  time b := rfl
  lanes b := rfl
  halo b := rfl
  sw b := absurd b (by decide)
  pub b := rfl
  txn b := rfl
  ses b := absurd b (by decide)
  tracks b := absurd b (by decide)
  drift b := absurd b (by decide)
  edge b := rfl
  caps b := rfl
  field b := absurd b (by decide)
  can b := rfl
  pio b := rfl
  sigs b := rfl
  eths b := rfl
  uarts b := rfl
  ports b := rfl
  power b := rfl
  usb b := absurd b (by decide)
  router b := rfl
  cores b := rfl
  ao b := rfl
  otp b := rfl
  mgmt b := rfl
  ecl b := rfl
  ticks b := ⟨rfl, rfl⟩
  pages k d b := rfl
  wf := id
  fuses := OtpSt.le_refl _
  fresh := Nat.le_refl _

theorem Keeps.put_sw_ses (t : State) (x0 x1) :
    Keeps 147456 t { t with sw := x0, ses := x1 } where
  pending b := rfl
  regs b := rfl
  staged b := rfl
  stagedLate b := rfl
  mem b := rfl
  accFaults b := rfl
  wire b := rfl
  delivered b := rfl
  draws b := rfl
  node b := rfl
  stitch b := rfl
  time b := rfl
  lanes b := rfl
  halo b := rfl
  sw b := absurd b (by decide)
  pub b := rfl
  txn b := rfl
  ses b := absurd b (by decide)
  tracks b := rfl
  drift b := rfl
  edge b := rfl
  caps b := rfl
  field b := rfl
  can b := rfl
  pio b := rfl
  sigs b := rfl
  eths b := rfl
  uarts b := rfl
  ports b := rfl
  power b := rfl
  usb b := rfl
  router b := rfl
  cores b := rfl
  ao b := rfl
  otp b := rfl
  mgmt b := rfl
  ecl b := rfl
  ticks b := ⟨rfl, rfl⟩
  pages k d b := rfl
  wf := id
  fuses := OtpSt.le_refl _
  fresh := Nat.le_refl _

theorem Keeps.put_node_edge_router_ecl (t : State) (x0 x1 x2 x3) :
    Keeps 70868009472 t { t with node := x0, edge := x1, router := x2, ecl := x3 } where
  pending b := rfl
  regs b := rfl
  staged b := rfl
  stagedLate b := rfl
  mem b := rfl
  accFaults b := rfl
  wire b := rfl
  delivered b := rfl
  draws b := rfl
  node b := absurd b (by decide)
  stitch b := rfl
  time b := rfl
  lanes b := rfl
  halo b := rfl
  sw b := rfl
  pub b := rfl
  txn b := rfl
  ses b := rfl
  tracks b := rfl
  drift b := rfl
  edge b := absurd b (by decide)
  caps b := rfl
  field b := rfl
  can b := rfl
  pio b := rfl
  sigs b := rfl
  eths b := rfl
  uarts b := rfl
  ports b := rfl
  power b := rfl
  usb b := rfl
  router b := absurd b (by decide)
  cores b := rfl
  ao b := rfl
  otp b := rfl
  mgmt b := rfl
  ecl b := absurd b (by decide)
  ticks b := ⟨rfl, rfl⟩
  pages k d b := rfl
  wf := id
  fuses := OtpSt.le_refl _
  fresh := Nat.le_refl _

end Sys2Proof.Machine
end

