-- ==== Sys2Proof/Laws/KeepsA.lean ====
section
/-!
SUPPORT. What each operation can change, part 1 of 6: one lemma per operation and per meaning, callees first.
-/

namespace Sys2Proof.Machine

theorem State.wri_keeps (g : Nat) {p : Nat} {f : Fld} {i : Nat}
    (hg : regGroup ⟨p, f.off, f.lsb, i⟩ = g ∨ regGroup ⟨p, f.off, f.lsb, i⟩ = 40) (s : State) (v : Nat) :
    Keeps (groupMask g) s (s.wri p f i v) := by
  have h1 : (groupMask g).testBit 1 = true := by
    show (1099511627778 ||| 2 ^ g).testBit 1 = true
    rw [Nat.testBit_or]
    exact Bool.or_eq_true_iff.mpr (.inl (by decide))
  have h40 : (groupMask g).testBit 40 = true := by
    show (1099511627778 ||| 2 ^ g).testBit 40 = true
    rw [Nat.testBit_or]
    exact Bool.or_eq_true_iff.mpr (.inl (by decide))
  have hgg : (groupMask g).testBit g = true := by
    show (1099511627778 ||| 2 ^ g).testBit g = true
    rw [Nat.testBit_or, Nat.testBit_two_pow_self, Bool.or_true]
  constructor <;> first
    | exact OtpSt.le_refl _ | exact Nat.le_refl _ | (intro _; rfl) | (intro _; exact ⟨rfl, rfl⟩) | skip
  · intro b
    rw [h1] at b
    exact absurd b (by decide)
  · intro k d b
    refine alGet_alSet_ne _ _ (fun e => ?_) ..
    subst e
    rcases hg with e | e <;> rw [e] at b <;> simp_all
  · intro h
    simp only [State.wf, Bool.and_eq_true] at h ⊢
    exact ⟨alSorted_alSet Key.lt_strictOrder _ _ _ h.1, h.2⟩

theorem State.wri_keepsAll (s : State) (p : Nat) (f : Fld) (i v : Nat) : Keeps 633825300114114699648839974914 s (s.wri p f i v) := by
  refine Keeps.put_regs _ _ fun h => ?_
  simp only [State.wf, Bool.and_eq_true] at h ⊢
  exact ⟨alSorted_alSet Key.lt_strictOrder _ _ _ h.1, h.2⟩

theorem group_cause (k i : Nat) :
    regGroup ⟨P.node, (causeFld k).off, (causeFld k).lsb, i⟩ = 90 ∨ regGroup ⟨P.node, (causeFld k).off, (causeFld k).lsb, i⟩ = 40 := by
  left
  simp [regGroup, causeFld, P.node]

theorem State.wr_keeps (g : Nat) {p : Nat} {f : Fld}
    (hg : regGroup ⟨p, f.off, f.lsb, 0⟩ = g ∨ regGroup ⟨p, f.off, f.lsb, 0⟩ = 40) (s : State) (v : Nat) :
    Keeps (groupMask g) s (s.wr p f v) := State.wri_keeps g hg ..

theorem State.wr_keepsAll (s : State) (p : Nat) (f : Fld) (v : Nat) : Keeps 633825300114114699648839974914 s (s.wr p f v) := State.wri_keepsAll ..

theorem State.inc_keeps (g : Nat) {p : Nat} {f : Fld}
    (hg : regGroup ⟨p, f.off, f.lsb, 0⟩ = g ∨ regGroup ⟨p, f.off, f.lsb, 0⟩ = 40) (s : State) (n : Nat) :
    Keeps (groupMask g) s (s.inc p f n) := State.wr_keeps g hg ..

theorem State.inc_keepsAll (s : State) (p : Nat) (f : Fld) (n : Nat) : Keeps 633825300114114699648839974914 s (s.inc p f n) := State.wri_keepsAll ..

theorem State.setBit_keeps (g : Nat) {p : Nat} {f : Fld}
    (hg : regGroup ⟨p, f.off, f.lsb, 0⟩ = g ∨ regGroup ⟨p, f.off, f.lsb, 0⟩ = 40) (s : State) (k : Nat) (b : Bool) :
    Keeps (groupMask g) s (s.setBit p f k b) := State.wr_keeps g hg ..

theorem State.maxr_keeps (g : Nat) {p : Nat} {f : Fld}
    (hg : regGroup ⟨p, f.off, f.lsb, 0⟩ = g ∨ regGroup ⟨p, f.off, f.lsb, 0⟩ = 40) (s : State) (v : Nat) :
    Keeps (groupMask g) s (s.maxr p f v) := by
  unfold State.maxr
  exact Keeps.ite (State.wr_keeps g hg ..) (Keeps.refl _ _)

theorem State.inci_keeps (g : Nat) {p : Nat} {f : Fld} {i : Nat}
    (hg : regGroup ⟨p, f.off, f.lsb, i⟩ = g ∨ regGroup ⟨p, f.off, f.lsb, i⟩ = 40) (s : State) (n : Nat) :
    Keeps (groupMask g) s (s.inci p f i n) := State.wri_keeps g hg ..

theorem State.orb_keeps (g : Nat) {p : Nat} {f : Fld}
    (hg : regGroup ⟨p, f.off, f.lsb, 0⟩ = g ∨ regGroup ⟨p, f.off, f.lsb, 0⟩ = 40) (s : State) (m : Nat) :
    Keeps (groupMask g) s (s.orb p f m) := State.wr_keeps g hg ..

theorem State.wr64_keeps (g : Nat) {p : Nat} {lo hi : Fld}
    (hl : regGroup ⟨p, lo.off, lo.lsb, 0⟩ = g ∨ regGroup ⟨p, lo.off, lo.lsb, 0⟩ = 40)
    (hh : regGroup ⟨p, hi.off, hi.lsb, 0⟩ = g ∨ regGroup ⟨p, hi.off, hi.lsb, 0⟩ = 40) (s : State) (v : Nat) :
    Keeps (groupMask g) s (s.wr64 p lo hi v) := (State.wr_keeps g hl ..).trans (State.wr_keeps g hh ..)

theorem State.zero_keeps (g : Nat) {p : Nat} {fs : List Fld}
    (hg : ∀ f ∈ fs, regGroup ⟨p, f.off, f.lsb, 0⟩ = g ∨ regGroup ⟨p, f.off, f.lsb, 0⟩ = 40) (s : State) :
    Keeps (groupMask g) s (s.zero p fs) := by
  unfold State.zero
  suffices ∀ t, Keeps (groupMask g) s t → Keeps (groupMask g) s (fs.foldl (fun t f => t.wr p f 0) t) from this s (Keeps.refl _ _)
  induction fs with
  | nil => exact fun t h => h
  | cons f r ih =>
    exact fun t h => ih (fun f hf => hg f (by simp [hf])) _ (h.trans (State.wr_keeps g (hg f (by simp)) ..))

theorem State.draw_keeps (s : State) (x1 : Nat) : Keeps 256 s (State.draw s x1).2 := Keeps.put_draws _ _ (Nat.le_succ _)

theorem evOnly_keeps (s : State) (x1 x2 : Nat) : Keeps 1099511627778 s (evOnly s x1 x2) := by
  unfold evOnly
  exact State.setBit_keeps 40 (.inr rfl) ..

theorem exportRise_keeps (s : State) (x1 x2 : Nat) : Keeps 3300682366978 s (exportRise s x1 x2) := by
  unfold exportRise
  refine Keeps.ite ?_ ?_
  · refine Keeps.ite ?_ ?_
    · refine Keeps.step (State.inc_keeps 41 (.inl rfl) ..) rfl ?_
      exact Keeps.refl _ _
    · refine Keeps.ite ?_ ?_
      · refine Keeps.step (Keeps.put_router ..) rfl ?_
        refine Keeps.step (State.inc_keeps 41 (.inl rfl) ..) rfl ?_
        refine Keeps.step (State.setBit_keeps 41 (.inl rfl) ..) rfl ?_
        exact Keeps.refl _ _
      · refine Keeps.step (State.inc_keeps 41 (.inl rfl) ..) rfl ?_
        exact Keeps.refl _ _
  · exact Keeps.refl _ _

theorem State.chWr_keeps (s : State) (x1 : Nat → Fld) (x2 x3 : Nat) : Keeps 4611687117939015682 s (State.chWr s x1 x2 x3) := by
  unfold State.chWr
  refine Keeps.step (State.wr_keeps 62 group_field ..) rfl ?_
  exact Keeps.refl _ _

theorem State.setChan_keeps (s : State) (x1 : Nat) (x2 : FieldCh) : Keeps 4194304 s (State.setChan s x1 x2) := by
  unfold State.setChan
  refine Keeps.step (Keeps.put_field ..) rfl ?_
  exact Keeps.refl _ _

theorem chEnterSafe_keeps (s : State) (x1 x2 : Bool) (x3 : Nat) : Keeps 4611687117943209986 s (chEnterSafe s x1 x2 x3) := by
  unfold chEnterSafe
  refine Keeps.ite ?_ ?_
  · refine Keeps.when (fun _ => ?_) ?_
    · refine Keeps.step (State.setChan_keeps ..) rfl ?_
      exact Keeps.refl _ _
    · exact Keeps.refl _ _
  · refine Keeps.step (State.chWr_keeps ..) rfl ?_
    refine Keeps.step (State.setChan_keeps ..) rfl ?_
    exact Keeps.refl _ _

theorem fdieEv_keeps {n : Nat} {ev : Ev} (hev : ∀ s p k, Keeps n s (ev s p k)) (s : State) (k : Nat) :
    Keeps (Nat.lor n 4194304) s (fdieEv ev s k) := by
  unfold fdieEv
  split
  · exact (Keeps.put_field ..).mono (subMask_right _ _)
  · exact (hev ..).mono (subMask_left _ _)

theorem safeEnter_keeps {n : Nat} {ev : Ev} (hev : ∀ s p k, Keeps n s (ev s p k)) (s : State) (x2 : List Nat) (x3 : Nat)
    (x4 x5 : Bool) : Keeps (Nat.lor n 4611689316966465538) s (safeEnter ev s x2 x3 x4 x5) := by
  have h : ∀ t : State, Keeps (Nat.lor n 4611689316966465538) t (x2.foldl (fun t c => chEnterSafe t x4 x5 c) t) := fun t =>
    Keeps.foldl (fun _ _ => (chEnterSafe_keeps ..).mono (subMask_lor_right rfl)) _ _ (Keeps.refl _ _)
  unfold safeEnter
  refine Keeps.ite ?_ (h s)
  refine Keeps.step (fdieEv_keeps hev ..) (subMask_lor rfl) ?_
  refine Keeps.step (State.inc_keeps 41 (.inl rfl) ..) (subMask_lor_right rfl) ?_
  exact Keeps.step (State.wr_keeps 41 (.inl rfl) ..) (subMask_lor_right rfl) (h s)

theorem cutTransmit_keeps (s : State) : Keeps 221360929984168853506 s (cutTransmit s) := by
  unfold cutTransmit
  refine Keeps.each (fun _ _ => ?_) ?_
  · refine Keeps.step (State.wr_keeps 67 group_uart ..) rfl ?_
    refine Keeps.step (State.wr_keeps 67 group_uart ..) rfl ?_
    refine Keeps.step (Keeps.put_uarts ..) rfl ?_
    exact Keeps.refl _ _
  · refine Keeps.each (fun _ _ => ?_) ?_
    · refine Keeps.step (State.wr_keeps 66 group_can ..) rfl ?_
      refine Keeps.step (Keeps.put_can ..) rfl ?_
      exact Keeps.refl _ _
    · exact Keeps.refl _ _

theorem setState_keeps (s : State) (x1 : Nat) : Keeps 3298534883330 s (setState s x1) := by
  unfold setState
  refine Keeps.step (State.wr_keeps 41 (.inl rfl) ..) rfl ?_
  refine Keeps.step (State.wr_keeps 41 (.inl rfl) ..) rfl ?_
  refine Keeps.step (State.wr_keeps 41 (.inl rfl) ..) rfl ?_
  exact Keeps.refl _ _

theorem freeze_keeps (s : State) (x1 x2 : Nat) (x3 x4 : Bool) (x5 x6 : Nat) :
    Keeps 225972618272491700738 s (freeze s x1 x2 x3 x4 x5 x6) := by
  unfold freeze
  refine Keeps.ite ?_ ?_
  · exact Keeps.refl _ _
  · refine Keeps.ite ?_ ?_
    · refine Keeps.step (cutTransmit_keeps ..) rfl ?_
      refine Keeps.step (Keeps.put_node_edge_router_ecl ..) rfl ?_
      refine Keeps.step (State.wr_keeps 41 (.inl rfl) ..) rfl ?_
      refine Keeps.step (State.wr_keeps 41 (.inl rfl) ..) rfl ?_
      refine Keeps.step (State.wr_keeps 41 (.inl rfl) ..) rfl ?_
      refine Keeps.step (setState_keeps ..) rfl ?_
      exact Keeps.refl _ _
    · refine Keeps.step (safeEnter_keeps evOnly_keeps ..) rfl ?_
      refine Keeps.step (cutTransmit_keeps ..) rfl ?_
      refine Keeps.step (Keeps.put_node_edge_router_ecl ..) rfl ?_
      refine Keeps.step (State.wr_keeps 41 (.inl rfl) ..) rfl ?_
      refine Keeps.step (State.wr_keeps 41 (.inl rfl) ..) rfl ?_
      refine Keeps.step (State.wr_keeps 41 (.inl rfl) ..) rfl ?_
      refine Keeps.step (setState_keeps ..) rfl ?_
      exact Keeps.refl _ _

theorem freezeCfg_keeps (s : State) (x1 x2 : Nat) : Keeps 225972618272491700738 s (freezeCfg s x1 x2) := by
  unfold freezeCfg
  refine Keeps.step (freeze_keeps ..) rfl ?_
  exact Keeps.refl _ _

theorem eclRise_keeps (s : State) (x1 : Nat) : Keeps 225972618272491700738 s (eclRise s x1) := by
  unfold eclRise
  refine Keeps.ite ?_ ?_
  · refine Keeps.step (freezeCfg_keeps ..) rfl ?_
    exact Keeps.refl _ _
  · exact Keeps.refl _ _

theorem pioTrig_keeps (s : State) (x1 x2 : Nat) : Keeps 295147906278864453634 s (pioTrig s x1 x2).2 := by
  unfold pioTrig
  refine Keeps.ite_snd ?_ ?_
  · refine Keeps.step (State.wr_keeps 68 group_pio ..) rfl ?_
    exact Keeps.refl _ _
  · refine Keeps.step (State.setBit_keeps 68 group_pio ..) rfl ?_
    exact Keeps.refl _ _

theorem evtRise_keeps (s : State) (x1 x2 : Nat) : Keeps 2147483648 s (evtRise s x1 x2) := by
  unfold evtRise
  refine Keeps.ite ?_ ?_
  · refine Keeps.step (Keeps.put_router ..) rfl ?_
    exact Keeps.refl _ _
  · exact Keeps.refl _ _

theorem rise_keeps (fuel : Nat) (s : State) (src : Nat) : Keeps 521120523451844526594 s (rise fuel s src) := by
  induction fuel generalizing s src with
  | zero => exact Keeps.refl _ _
  | succ n ih =>
    unfold rise
    refine Keeps.ite (Keeps.refl _ _) ?_
    refine Keeps.step (eclRise_keeps ..) rfl ?_
    refine Keeps.each (fun _ _ => ?_) ?_
    · refine Keeps.ite ?_ (Keeps.refl _ _)
      refine Keeps.ite ?_ ?_
      · refine Keeps.ite ?_ ?_
        · refine (Keeps.step (evOnly_keeps ..) rfl ?_).trans (ih ..)
          exact Keeps.step (pioTrig_keeps ..) rfl (Keeps.refl _ _)
        · refine Keeps.step (evOnly_keeps ..) rfl ?_
          exact Keeps.step (pioTrig_keeps ..) rfl (Keeps.refl _ _)
      · exact Keeps.step (pioTrig_keeps ..) rfl (Keeps.refl _ _)
    · refine Keeps.each (fun _ _ => Keeps.step (evtRise_keeps ..) rfl (Keeps.refl _ _)) ?_
      exact Keeps.each (fun _ _ => Keeps.step (exportRise_keeps ..) rfl (Keeps.refl _ _)) (Keeps.refl _ _)

theorem raise_keeps (s : State) (x1 x2 : Nat) : Keeps 521120523451844526594 s (raise s x1 x2) := by
  unfold raise
  refine Keeps.ite ?_ ?_
  · refine Keeps.step (rise_keeps ..) rfl ?_
    refine Keeps.step (evOnly_keeps ..) rfl ?_
    exact Keeps.refl _ _
  · refine Keeps.step (evOnly_keeps ..) rfl ?_
    exact Keeps.refl _ _

theorem ev_ite_keeps (c : Prop) [Decidable c] (s : State) (p k : Nat) :
    Keeps 521120523451844526594 s ((if c then raise else evOnly) s p k) := by
  split
  · exact raise_keeps ..
  · exact (evOnly_keeps ..).mono rfl

theorem driftEv_keeps (s : State) (x1 : Nat) : Keeps 521120523451844526594 s (driftEv s x1) := by
  unfold driftEv
  refine Keeps.step (raise_keeps ..) rfl ?_
  exact Keeps.refl _ _

theorem resyncJudge_keeps (s : State) : Keeps 521408753827996762626 s (resyncJudge s) := by
  unfold resyncJudge
  refine Keeps.ite ?_ ?_
  · refine Keeps.step (driftEv_keeps ..) rfl ?_
    refine Keeps.step (State.wr_keeps 58 group_drift ..) rfl ?_
    refine Keeps.step (Keeps.put_drift ..) rfl ?_
    exact Keeps.refl _ _
  · exact Keeps.refl _ _

theorem qRefuse_keeps (s : State) (x1 : Nat) : Keeps 18015498021109762 s (qRefuse s x1) := by
  unfold qRefuse
  refine Keeps.ite ?_ ?_
  · refine Keeps.step (State.inc_keeps 54 group_queue ..) rfl ?_
    exact Keeps.refl _ _
  · exact Keeps.refl _ _

theorem noteRefusal_keeps (s : State) (x1 : Nat) : Keeps 564049465049090 s (noteRefusal s x1) := by
  unfold noteRefusal
  refine Keeps.when (fun _ => ?_) ?_
  · refine Keeps.step (State.inc_keeps 49 group_pool ..) rfl ?_
    exact Keeps.refl _ _
  · exact Keeps.refl _ _

theorem sharedMin_keeps (s : State) : Keeps 564049465049090 s (sharedMin s) := by
  unfold sharedMin
  refine Keeps.ite ?_ ?_
  · refine Keeps.step (State.wr_keeps 49 group_pool ..) rfl ?_
    exact Keeps.refl _ _
  · exact Keeps.refl _ _

theorem raiseIf_keeps (s : State) (x1 : Bool) (x2 x3 : Nat) : Keeps 521120523451844526594 s (raiseIf s x1 x2 x3) := by
  unfold raiseIf
  refine Keeps.ite ?_ ?_
  · refine Keeps.step (raise_keeps ..) rfl ?_
    exact Keeps.refl _ _
  · exact Keeps.refl _ _

theorem poolMonitor_keeps (s : State) (x1 : Nat) : Keeps 521121086401797947906 s (poolMonitor s x1) := by
  unfold poolMonitor
  refine Keeps.step (raiseIf_keeps ..) rfl ?_
  refine Keeps.each (fun _ _ => ?_) ?_
  · refine Keeps.ite ?_ ?_
    · refine Keeps.step (raise_keeps ..) rfl ?_
      refine Keeps.step (State.setBit_keeps 49 group_pool ..) rfl ?_
      exact Keeps.refl _ _
    · exact Keeps.refl _ _
  · refine Keeps.step (sharedMin_keeps ..) rfl ?_
    refine Keeps.step (State.maxr_keeps 49 group_pool ..) rfl ?_
    exact Keeps.refl _ _

theorem chargeCells_keeps (s : State) (x1 x2 x3 : Nat) : Keeps 521121086401797964290 s (chargeCells s x1 x2 x3) := by
  unfold chargeCells
  refine Keeps.step (poolMonitor_keeps ..) rfl ?_
  refine Keeps.step (Keeps.put_sw ..) rfl ?_
  exact Keeps.refl _ _

theorem dischargeCells_keeps (s : State) (x1 x2 x3 : Nat) : Keeps 564049465065474 s (dischargeCells s x1 x2 x3) := by
  unfold dischargeCells
  refine Keeps.ite ?_ ?_
  · refine Keeps.step (sharedMin_keeps ..) rfl ?_
    refine Keeps.step (Keeps.put_sw ..) rfl ?_
    exact Keeps.refl _ _
  · refine Keeps.step (Keeps.put_sw ..) rfl ?_
    exact Keeps.refl _ _

theorem setQueueSt_keeps (s : State) (x1 : Nat) (x2 : QSt) : Keeps 521121086401798095362 s (setQueueSt s x1 x2) := by
  unfold setQueueSt
  refine Keeps.ite ?_ ?_
  · refine Keeps.step (chargeCells_keeps ..) rfl ?_
    refine Keeps.step (Keeps.put_ses ..) rfl ?_
    exact Keeps.refl _ _
  · refine Keeps.step (dischargeCells_keeps ..) rfl ?_
    refine Keeps.step (Keeps.put_ses ..) rfl ?_
    exact Keeps.refl _ _

theorem recycleFor_keeps (s : State) (x1 x2 : Nat) : Keeps 521121086401798095362 s (recycleFor s x1 x2).1 := by
  unfold recycleFor
  refine Keeps.foldl_fst (fun _ _ => ?_) _ _ ?_
  · split
    · exact Keeps.refl _ _
    · dsimp only
      split
      · exact Keeps.refl _ _
      · refine Keeps.step (setQueueSt_keeps ..) rfl ?_
        exact Keeps.refl _ _
  · exact Keeps.refl _ _

theorem qAdmit_keeps (s : State) (x1 x2 x3 x4 x5 : Nat) (x6 : Bool) (x7 x8 : List Nat) (x9 : Bool) :
    Keeps 521139100800307577346 s (qAdmit s x1 x2 x3 x4 x5 x6 x7 x8 x9).2 := by
  unfold qAdmit
  refine Keeps.ite_snd ?_ ?_
  · exact Keeps.refl _ _
  · refine Keeps.ite_snd ?_ ?_
    · refine Keeps.step (setQueueSt_keeps ..) rfl ?_
      refine Keeps.step (Keeps.put_ses ..) rfl ?_
      refine Keeps.step (State.inc_keeps 54 group_queue ..) rfl ?_
      split
      · refine Keeps.step (recycleFor_keeps ..) rfl ?_
        exact Keeps.refl _ _
      · exact Keeps.refl _ _
    · refine Keeps.step (qRefuse_keeps ..) rfl ?_
      refine Keeps.step (noteRefusal_keeps ..) rfl ?_
      exact Keeps.refl _ _

theorem driftNote_keeps (s : State) (x1 x2 x3 x4 : Nat) : Keeps 521427331176459289090 s (driftNote s x1 x2 x3 x4) := by
  unfold driftNote
  refine Keeps.ite ?_ ?_
  · exact Keeps.refl _ _
  · refine Keeps.ite ?_ ?_
    · refine Keeps.step (qAdmit_keeps ..) rfl ?_
      exact Keeps.refl _ _
    · refine Keeps.step (State.inc_keeps 58 group_drift ..) rfl ?_
      refine Keeps.step (qAdmit_keeps ..) rfl ?_
      exact Keeps.refl _ _

theorem dropReqs_keeps (s : State) (x1 : DriftReq → Bool) : Keeps 524288 s (dropReqs s x1) := by
  unfold dropReqs
  refine Keeps.step (Keeps.put_drift ..) rfl ?_
  exact Keeps.refl _ _

theorem recPut_keeps (s : State) (x1 : Nat) (x2 : Rec) : Keeps 524288 s (recPut s x1 x2) := by
  unfold recPut
  refine Keeps.step (Keeps.put_drift ..) rfl ?_
  exact Keeps.refl _ _

theorem countRaise_keeps (g : Nat) {p : Nat} {f : Fld}
    (hg : regGroup ⟨p, f.off, f.lsb, 0⟩ = g ∨ regGroup ⟨p, f.off, f.lsb, 0⟩ = 40) (s : State) (q k : Nat) :
    Keeps (Nat.lor 521120523451844526594 (groupMask g)) s (countRaise s p f q k) := by
  unfold countRaise
  refine Keeps.step (raise_keeps ..) (subMask_left _ _) ?_
  exact (State.inc_keeps g hg ..).mono (subMask_right _ _)

theorem driftCount_keeps (s : State) (x1 : Fld) (x2 : Nat) : Keeps 521408753827996238338 s (driftCount s x1 x2) := by
  unfold driftCount
  refine Keeps.step (countRaise_keeps 58 group_drift ..) rfl ?_
  exact Keeps.refl _ _

theorem markOrphan_keeps (s : State) (x1 x2 : Nat) : Keeps 521427331176459813378 s (markOrphan s x1 x2) := by
  unfold markOrphan
  refine Keeps.ite ?_ ?_
  · exact Keeps.refl _ _
  · refine Keeps.step (driftNote_keeps ..) rfl ?_
    refine Keeps.step (driftCount_keeps ..) rfl ?_
    refine Keeps.step (dropReqs_keeps ..) rfl ?_
    refine Keeps.step (recPut_keeps ..) rfl ?_
    exact Keeps.refl _ _

theorem crcCheck_keeps (s : State) (x1 : Nat) : Keeps 521427331176459813378 s (crcCheck s x1) := by
  unfold crcCheck
  refine Keeps.ite ?_ ?_
  · exact Keeps.refl _ _
  · refine Keeps.step (markOrphan_keeps ..) rfl ?_
    refine Keeps.step (driftCount_keeps ..) rfl ?_
    exact Keeps.refl _ _

theorem answered_keeps (s : State) (x1 : DriftReq → Bool) : Keeps 521427331176459813378 s (answered s x1).2 := by
  unfold answered
  split
  · exact Keeps.refl _ _
  · refine Keeps.ite ?_ ?_
    · refine Keeps.step (resyncJudge_keeps ..) rfl ?_
      refine Keeps.step (crcCheck_keeps ..) rfl ?_
      exact Keeps.refl _ _
    · exact Keeps.refl _ _

theorem askedOf_keeps (s : State) (x1 : Frame) (x2 : Nat) : Keeps 521427331176459813378 s (askedOf s x1 x2).2 := by
  unfold askedOf
  refine Keeps.step (answered_keeps ..) rfl ?_
  exact Keeps.refl _ _

theorem offerWaits_keeps (s : State) (x1 : Offer) : Keeps 282574488338434 s (offerWaits s x1).2 := by
  unfold offerWaits
  refine Keeps.ite_snd ?_ ?_
  · refine Keeps.step (State.inc_keeps 48 group_swport ..) rfl ?_
    exact Keeps.refl _ _
  · exact Keeps.refl _ _

theorem alert_keeps (s : State) (x1 x2 : Nat) : Keeps 521120804926821237250 s (alert s x1 x2) := by
  unfold alert
  refine Keeps.ite ?_ ?_
  · exact Keeps.refl _ _
  · refine Keeps.step (raise_keeps ..) rfl ?_
    refine Keeps.step (State.setBit_keeps 48 group_swport ..) rfl ?_
    exact Keeps.refl _ _

theorem dropAt_keeps (s : State) (x1 x2 : Nat) : Keeps 521120804926821237250 s (dropAt s x1 x2) := by
  unfold dropAt
  refine Keeps.step (alert_keeps ..) rfl ?_
  refine Keeps.step (State.inc_keeps 48 group_swport ..) rfl ?_
  exact Keeps.refl _ _

theorem newId_keeps (s : State) : Keeps 16384 s (newId s).2 := by
  unfold newId
  refine Keeps.step (Keeps.put_sw ..) rfl ?_
  exact Keeps.refl _ _

theorem setShaper_keeps (s : State) (x1 x2 : Nat) (x3 : ShapeSt) : Keeps 16384 s (setShaper s x1 x2 x3) := by
  unfold setShaper
  refine Keeps.step (Keeps.put_sw ..) rfl ?_
  exact Keeps.refl _ _

theorem shapeTo_keeps (s : State) (x1 x2 : Nat) : Keeps 282574488354818 s (shapeTo s x1 x2) := by
  unfold shapeTo
  refine Keeps.ite ?_ ?_
  · exact Keeps.refl _ _
  · refine Keeps.each (fun _ _ => ?_) ?_
    · refine Keeps.ite ?_ ?_
      · refine Keeps.step (State.wr_keeps 48 group_swport ..) rfl ?_
        refine Keeps.step (setShaper_keeps ..) rfl ?_
        exact Keeps.refl _ _
      · exact Keeps.refl _ _
    · exact Keeps.refl _ _

theorem setSwQueue_keeps (s : State) (x1 : Nat) (x2 : List SwEntry) : Keeps 282574488354818 s (setSwQueue s x1 x2) := by
  unfold setSwQueue
  refine Keeps.step (Keeps.put_sw ..) rfl ?_
  refine Keeps.step (shapeTo_keeps ..) rfl ?_
  exact Keeps.refl _ _

theorem enqueue_keeps (s : State) (x1 x2 : Nat) (x3 : Frame) (x4 : Nat) (x5 x6 : Bool) (x7 x8 : Nat) :
    Keeps 521121367876774674946 s (enqueue s x1 x2 x3 x4 x5 x6 x7 x8) := by
  unfold enqueue
  refine Keeps.step (setSwQueue_keeps ..) rfl ?_
  refine Keeps.step (Keeps.put_sw ..) rfl ?_
  refine Keeps.step (chargeCells_keeps ..) rfl ?_
  exact Keeps.refl _ _

theorem putOne_keeps (s : State) (x1 x2 : Nat) (x3 : Frame) (x4 x5 : Bool) (x6 : Nat) :
    Keeps 521121367876774674946 s (putOne s x1 x2 x3 x4 x5 x6) := by
  unfold putOne
  refine Keeps.step (enqueue_keeps ..) rfl ?_
  exact Keeps.refl _ _

theorem noteRefusals_keeps (s : State) (x1 : List Nat) (x2 x3 : Nat) : Keeps 564049465049090 s (noteRefusals s x1 x2 x3) := by
  unfold noteRefusals
  refine Keeps.foldl (fun _ _ => ?_) _ _ ?_
  · refine Keeps.step (noteRefusal_keeps ..) rfl ?_
    exact Keeps.refl _ _
  · exact Keeps.refl _ _

theorem admitOne_keeps (s : State) (x1 x2 : Nat) (x3 : Frame) (x4 x5 : Bool) (x6 : Nat) :
    Keeps 521121367876774674946 s (admitOne s x1 x2 x3 x4 x5 x6).2 := by
  unfold admitOne
  refine Keeps.ite_snd ?_ ?_
  · exact Keeps.refl _ _
  · refine Keeps.ite_snd ?_ ?_
    · refine Keeps.step (enqueue_keeps ..) rfl ?_
      exact Keeps.refl _ _
    · refine Keeps.step (noteRefusal_keeps ..) rfl ?_
      exact Keeps.refl _ _

theorem haloSeqNext_keeps (s : State) (x1 : Bool) (x2 : Nat) : Keeps 8192 s (haloSeqNext s x1 x2) := by
  unfold haloSeqNext
  refine Keeps.step (Keeps.put_halo ..) rfl ?_
  exact Keeps.refl _ _

theorem stampEntry_keeps (s : State) (x1 x2 : Nat) : Keeps 16384 s (stampEntry s x1 x2) := by
  unfold stampEntry
  refine Keeps.step (Keeps.put_sw ..) rfl ?_
  exact Keeps.refl _ _

theorem tryOriginate_keeps (s : State) (x1 : Offer) : Keeps 521121367876774683138 s (tryOriginate s x1).2 := by
  unfold tryOriginate
  refine Keeps.ite_snd ?_ ?_
  · exact Keeps.refl _ _
  · refine Keeps.ite_snd ?_ ?_
    · exact Keeps.refl _ _
    · refine Keeps.ite_snd ?_ ?_
      · exact Keeps.refl _ _
      · refine Keeps.ite_snd ?_ ?_
        · refine Keeps.ite_snd ?_ ?_
          · refine Keeps.ite ?_ ?_
            · refine Keeps.step (haloSeqNext_keeps ..) rfl ?_
              split
              · refine Keeps.step (stampEntry_keeps ..) rfl ?_
                refine Keeps.foldl (fun _ _ => ?_) _ _ ?_
                · refine Keeps.step (putOne_keeps ..) rfl ?_
                  exact Keeps.refl _ _
                · refine Keeps.foldl (fun _ _ => ?_) _ _ ?_
                  · refine Keeps.step (dropAt_keeps ..) rfl ?_
                    exact Keeps.refl _ _
                  · refine Keeps.step (Keeps.put_sw ..) rfl ?_
                    exact Keeps.refl _ _
              · refine Keeps.foldl (fun _ _ => ?_) _ _ ?_
                · refine Keeps.step (putOne_keeps ..) rfl ?_
                  exact Keeps.refl _ _
                · refine Keeps.foldl (fun _ _ => ?_) _ _ ?_
                  · refine Keeps.step (dropAt_keeps ..) rfl ?_
                    exact Keeps.refl _ _
                  · refine Keeps.step (Keeps.put_sw ..) rfl ?_
                    exact Keeps.refl _ _
            · split
              · refine Keeps.step (stampEntry_keeps ..) rfl ?_
                refine Keeps.foldl (fun _ _ => ?_) _ _ ?_
                · refine Keeps.step (putOne_keeps ..) rfl ?_
                  exact Keeps.refl _ _
                · refine Keeps.foldl (fun _ _ => ?_) _ _ ?_
                  · refine Keeps.step (dropAt_keeps ..) rfl ?_
                    exact Keeps.refl _ _
                  · refine Keeps.step (Keeps.put_sw ..) rfl ?_
                    exact Keeps.refl _ _
              · refine Keeps.foldl (fun _ _ => ?_) _ _ ?_
                · refine Keeps.step (putOne_keeps ..) rfl ?_
                  exact Keeps.refl _ _
                · refine Keeps.foldl (fun _ _ => ?_) _ _ ?_
                  · refine Keeps.step (dropAt_keeps ..) rfl ?_
                    exact Keeps.refl _ _
                  · refine Keeps.step (Keeps.put_sw ..) rfl ?_
                    exact Keeps.refl _ _
          · refine Keeps.ite ?_ ?_
            · exact Keeps.refl _ _
            · refine Keeps.step (noteRefusals_keeps ..) rfl ?_
              exact Keeps.refl _ _
        · refine Keeps.ite ?_ ?_
          · refine Keeps.step (haloSeqNext_keeps ..) rfl ?_
            refine Keeps.foldl_snd (fun _ _ => ?_) _ _ ?_
            · refine Keeps.ite_snd ?_ ?_
              · refine Keeps.step (admitOne_keeps ..) rfl ?_
                exact Keeps.refl _ _
              · refine Keeps.step (dropAt_keeps ..) rfl ?_
                refine Keeps.step (admitOne_keeps ..) rfl ?_
                exact Keeps.refl _ _
            · refine Keeps.step (Keeps.put_sw ..) rfl ?_
              exact Keeps.refl _ _
          · refine Keeps.foldl_snd (fun _ _ => ?_) _ _ ?_
            · refine Keeps.ite_snd ?_ ?_
              · refine Keeps.step (admitOne_keeps ..) rfl ?_
                exact Keeps.refl _ _
              · refine Keeps.step (dropAt_keeps ..) rfl ?_
                refine Keeps.step (admitOne_keeps ..) rfl ?_
                exact Keeps.refl _ _
            · refine Keeps.step (Keeps.put_sw ..) rfl ?_
              exact Keeps.refl _ _

theorem offerTry_keeps (s : State) (x1 : Offer) : Keeps 521121367876774683138 s (offerTry s x1).2.2 := by
  unfold offerTry
  refine Keeps.ite_snd2 ?_ ?_
  · refine Keeps.step (offerWaits_keeps ..) rfl ?_
    exact Keeps.refl _ _
  · refine Keeps.ite_snd2 ?_ ?_
    · refine Keeps.step (tryOriginate_keeps ..) rfl ?_
      exact Keeps.refl _ _
    · refine Keeps.step (offerWaits_keeps ..) rfl ?_
      refine Keeps.step (tryOriginate_keeps ..) rfl ?_
      exact Keeps.refl _ _

theorem originateOn_keeps (s : State) (x1 : Bool) (x2 : Nat) (x3 : Frame) (x4 x5 : Nat) (x6 : Option Nat) :
    Keeps 521121367876774683138 s (originateOn s x1 x2 x3 x4 x5 x6) := by
  unfold originateOn
  refine Keeps.ite ?_ ?_
  · refine Keeps.step (offerTry_keeps ..) rfl ?_
    exact Keeps.refl _ _
  · refine Keeps.step (Keeps.put_sw ..) rfl ?_
    refine Keeps.step (offerTry_keeps ..) rfl ?_
    exact Keeps.refl _ _

theorem originate_keeps (s : State) (x1 : Nat) (x2 : Frame) (x3 x4 : Nat) :
    Keeps 521121367876774683138 s (originate s x1 x2 x3 x4) := by
  unfold originate
  refine Keeps.ite ?_ ?_
  · refine Keeps.ite ?_ ?_
    · refine Keeps.step (originateOn_keeps ..) rfl ?_
      refine Keeps.step (originateOn_keeps ..) rfl ?_
      exact Keeps.refl _ _
    · refine Keeps.step (originateOn_keeps ..) rfl ?_
      exact Keeps.refl _ _
  · refine Keeps.step (originateOn_keeps ..) rfl ?_
    exact Keeps.refl _ _

theorem driftSend_keeps (s : State) (x1 : Frame) : Keeps 521121367876774683138 s (driftSend s x1) := by
  unfold driftSend
  refine Keeps.ite ?_ ?_
  · refine Keeps.step (originate_keeps ..) rfl ?_
    exact Keeps.refl _ _
  · exact Keeps.refl _ _

theorem startReq_keeps (s : State) (x1 : DriftReq) : Keeps 521121367876775207426 s (startReq s x1) := by
  unfold startReq
  refine Keeps.step (driftSend_keeps ..) rfl ?_
  refine Keeps.step (Keeps.put_drift ..) rfl ?_
  exact Keeps.refl _ _

theorem request_keeps (s : State) (x1 x2 x3 x4 x5 x6 : Nat) : Keeps 521121367876775207426 s (request s x1 x2 x3 x4 x5 x6) := by
  unfold request
  refine Keeps.step (startReq_keeps ..) rfl ?_
  refine Keeps.step (dropReqs_keeps ..) rfl ?_
  exact Keeps.refl _ _

theorem withdraw_keeps (s : State) (x1 : Nat) : Keeps 524288 s (withdraw s x1) := by
  unfold withdraw
  refine Keeps.ite ?_ ?_
  · refine Keeps.step (recPut_keeps ..) rfl ?_
    refine Keeps.step (dropReqs_keeps ..) rfl ?_
    exact Keeps.refl _ _
  · refine Keeps.step (dropReqs_keeps ..) rfl ?_
    exact Keeps.refl _ _

theorem onAccept_keeps (s : State) (x1 : Frame) : Keeps 521427612651436532226 s (onAccept s x1) := by
  unfold onAccept
  dsimp only
  split
  · refine Keeps.step (askedOf_keeps ..) rfl ?_
    exact Keeps.refl _ _
  · refine Keeps.step (request_keeps ..) rfl ?_
    refine Keeps.step (dropReqs_keeps ..) rfl ?_
    refine Keeps.step (recPut_keeps ..) rfl ?_
    refine Keeps.step (withdraw_keeps ..) rfl ?_
    refine Keeps.step (askedOf_keeps ..) rfl ?_
    exact Keeps.refl _ _

theorem execAccept_keeps (x0 : Frame) (s : State) : OutKeeps 521427612651436532226 s (execAccept x0 s) := by
  unfold execAccept
  refine OutKeeps.next ?_
  refine Keeps.ite ?_ ?_
  · refine Keeps.step (onAccept_keeps ..) rfl ?_
    exact Keeps.refl _ _
  · exact Keeps.refl _ _

theorem setRx_keeps (s : State) (x1 : Nat) (x2 : RxSes) : Keeps 131072 s (setRx s x1 x2) := by
  unfold setRx
  refine Keeps.step (Keeps.put_ses ..) rfl ?_
  exact Keeps.refl _ _

theorem sendSes_keeps (s : State) (x1 : Frame) : Keeps 521121367876774814210 s (sendSes s x1) := by
  unfold sendSes
  refine Keeps.ite ?_ ?_
  · exact Keeps.refl _ _
  · refine Keeps.ite ?_ ?_
    · refine Keeps.step (Keeps.put_ses ..) rfl ?_
      exact Keeps.refl _ _
    · refine Keeps.step (originate_keeps ..) rfl ?_
      exact Keeps.refl _ _

theorem sendAck_keeps (s : State) (x1 : Nat) (x2 : Bool) : Keeps 521193425470812742146 s (sendAck s x1 x2) := by
  unfold sendAck
  refine Keeps.ite ?_ ?_
  · exact Keeps.refl _ _
  · refine Keeps.step (sendSes_keeps ..) rfl ?_
    refine Keeps.step (raiseIf_keeps ..) rfl ?_
    refine Keeps.step (State.inc_keeps 56 group_sesrx ..) rfl ?_
    refine Keeps.step (setRx_keeps ..) rfl ?_
    exact Keeps.refl _ _

theorem ackAdvance_keeps (s : State) (x1 : Nat) : Keeps 521193425470812742146 s (ackAdvance s x1) := by
  unfold ackAdvance
  refine Keeps.ite ?_ ?_
  · refine Keeps.ite ?_ ?_
    · refine Keeps.step (sendAck_keeps ..) rfl ?_
      refine Keeps.step (setRx_keeps ..) rfl ?_
      exact Keeps.refl _ _
    · refine Keeps.step (setRx_keeps ..) rfl ?_
      exact Keeps.refl _ _
  · refine Keeps.step (setRx_keeps ..) rfl ?_
    exact Keeps.refl _ _

theorem tableAck_keeps (s : State) (x1 : Nat) (x2 : Bool) : Keeps 521193425470812742146 s (tableAck s x1 x2) := by
  unfold tableAck
  refine Keeps.ite ?_ ?_
  · exact Keeps.refl _ _
  · refine Keeps.step (sendAck_keeps ..) rfl ?_
    exact Keeps.refl _ _

theorem judgeMsg_keeps (s : State) (x1 : Frame) : Keeps 521211439869322224130 s (judgeMsg s x1) := by
  unfold judgeMsg
  refine Keeps.ite ?_ ?_
  · exact Keeps.refl _ _
  · refine Keeps.ite ?_ ?_
    · refine Keeps.step (raise_keeps ..) rfl ?_
      refine Keeps.step (State.inc_keeps 56 group_sesrx ..) rfl ?_
      exact Keeps.refl _ _
    · refine Keeps.ite ?_ ?_
      · refine Keeps.step (tableAck_keeps ..) rfl ?_
        refine Keeps.step (setRx_keeps ..) rfl ?_
        refine Keeps.ite ?_ ?_
        · refine Keeps.ite ?_ ?_
          · refine Keeps.step (setRx_keeps ..) rfl ?_
            refine Keeps.step (State.wri_keeps 56 group_sesrx ..) rfl ?_
            refine Keeps.step (State.wri_keeps 56 group_sesrx ..) rfl ?_
            refine Keeps.step (raiseIf_keeps ..) rfl ?_
            refine Keeps.step (State.wri_keeps 56 group_sesrx ..) rfl ?_
            exact Keeps.refl _ _
          · refine Keeps.step (raise_keeps ..) rfl ?_
            refine Keeps.step (State.wri_keeps 56 group_sesrx ..) rfl ?_
            refine Keeps.step (State.wri_keeps 56 group_sesrx ..) rfl ?_
            refine Keeps.step (setRx_keeps ..) rfl ?_
            refine Keeps.step (State.wri_keeps 56 group_sesrx ..) rfl ?_
            refine Keeps.step (State.wri_keeps 56 group_sesrx ..) rfl ?_
            refine Keeps.step (raiseIf_keeps ..) rfl ?_
            refine Keeps.step (State.wri_keeps 56 group_sesrx ..) rfl ?_
            exact Keeps.refl _ _
        · refine Keeps.step (raiseIf_keeps ..) rfl ?_
          refine Keeps.step (State.wri_keeps 56 group_sesrx ..) rfl ?_
          exact Keeps.refl _ _
      · refine Keeps.ite ?_ ?_
        · refine Keeps.step (tableAck_keeps ..) rfl ?_
          refine Keeps.step (State.inc_keeps 56 group_sesrx ..) rfl ?_
          refine Keeps.step (setRx_keeps ..) rfl ?_
          refine Keeps.ite ?_ ?_
          · refine Keeps.ite ?_ ?_
            · refine Keeps.step (setRx_keeps ..) rfl ?_
              refine Keeps.step (State.wri_keeps 56 group_sesrx ..) rfl ?_
              refine Keeps.step (State.wri_keeps 56 group_sesrx ..) rfl ?_
              refine Keeps.step (raiseIf_keeps ..) rfl ?_
              refine Keeps.step (State.wri_keeps 56 group_sesrx ..) rfl ?_
              exact Keeps.refl _ _
            · refine Keeps.step (raise_keeps ..) rfl ?_
              refine Keeps.step (State.wri_keeps 56 group_sesrx ..) rfl ?_
              refine Keeps.step (State.wri_keeps 56 group_sesrx ..) rfl ?_
              refine Keeps.step (setRx_keeps ..) rfl ?_
              refine Keeps.step (State.wri_keeps 56 group_sesrx ..) rfl ?_
              refine Keeps.step (State.wri_keeps 56 group_sesrx ..) rfl ?_
              refine Keeps.step (raiseIf_keeps ..) rfl ?_
              refine Keeps.step (State.wri_keeps 56 group_sesrx ..) rfl ?_
              exact Keeps.refl _ _
          · refine Keeps.step (raiseIf_keeps ..) rfl ?_
            refine Keeps.step (State.wri_keeps 56 group_sesrx ..) rfl ?_
            exact Keeps.refl _ _
        · refine Keeps.ite ?_ ?_
          · refine Keeps.ite ?_ ?_
            · refine Keeps.step (ackAdvance_keeps ..) rfl ?_
              refine Keeps.step (raise_keeps ..) rfl ?_
              refine Keeps.ite ?_ ?_
              · refine Keeps.step (State.inc_keeps 56 group_sesrx ..) rfl ?_
                refine Keeps.step (State.inc_keeps 56 group_sesrx ..) rfl ?_
                refine Keeps.step (State.wri_keeps 56 group_sesrx ..) rfl ?_
                refine Keeps.step (qAdmit_keeps ..) rfl ?_
                refine Keeps.step (setRx_keeps ..) rfl ?_
                refine Keeps.ite ?_ ?_
                · refine Keeps.ite ?_ ?_
                  · refine Keeps.step (setRx_keeps ..) rfl ?_
                    refine Keeps.step (State.wri_keeps 56 group_sesrx ..) rfl ?_
                    refine Keeps.step (State.wri_keeps 56 group_sesrx ..) rfl ?_
                    refine Keeps.step (raiseIf_keeps ..) rfl ?_
                    refine Keeps.step (State.wri_keeps 56 group_sesrx ..) rfl ?_
                    exact Keeps.refl _ _
                  · refine Keeps.step (raise_keeps ..) rfl ?_
                    refine Keeps.step (State.wri_keeps 56 group_sesrx ..) rfl ?_
                    refine Keeps.step (State.wri_keeps 56 group_sesrx ..) rfl ?_
                    refine Keeps.step (setRx_keeps ..) rfl ?_
                    refine Keeps.step (State.wri_keeps 56 group_sesrx ..) rfl ?_
                    refine Keeps.step (State.wri_keeps 56 group_sesrx ..) rfl ?_
                    refine Keeps.step (raiseIf_keeps ..) rfl ?_
                    refine Keeps.step (State.wri_keeps 56 group_sesrx ..) rfl ?_
                    exact Keeps.refl _ _
                · refine Keeps.step (raiseIf_keeps ..) rfl ?_
                  refine Keeps.step (State.wri_keeps 56 group_sesrx ..) rfl ?_
                  exact Keeps.refl _ _
              · refine Keeps.step (State.inc_keeps 56 group_sesrx ..) rfl ?_
                refine Keeps.step (State.wri_keeps 56 group_sesrx ..) rfl ?_
                refine Keeps.step (qAdmit_keeps ..) rfl ?_
                refine Keeps.step (setRx_keeps ..) rfl ?_
                refine Keeps.ite ?_ ?_
                · refine Keeps.ite ?_ ?_
                  · refine Keeps.step (setRx_keeps ..) rfl ?_
                    refine Keeps.step (State.wri_keeps 56 group_sesrx ..) rfl ?_
                    refine Keeps.step (State.wri_keeps 56 group_sesrx ..) rfl ?_
                    refine Keeps.step (raiseIf_keeps ..) rfl ?_
                    refine Keeps.step (State.wri_keeps 56 group_sesrx ..) rfl ?_
                    exact Keeps.refl _ _
                  · refine Keeps.step (raise_keeps ..) rfl ?_
                    refine Keeps.step (State.wri_keeps 56 group_sesrx ..) rfl ?_
                    refine Keeps.step (State.wri_keeps 56 group_sesrx ..) rfl ?_
                    refine Keeps.step (setRx_keeps ..) rfl ?_
                    refine Keeps.step (State.wri_keeps 56 group_sesrx ..) rfl ?_
                    refine Keeps.step (State.wri_keeps 56 group_sesrx ..) rfl ?_
                    refine Keeps.step (raiseIf_keeps ..) rfl ?_
                    refine Keeps.step (State.wri_keeps 56 group_sesrx ..) rfl ?_
                    exact Keeps.refl _ _
                · refine Keeps.step (raiseIf_keeps ..) rfl ?_
                  refine Keeps.step (State.wri_keeps 56 group_sesrx ..) rfl ?_
                  exact Keeps.refl _ _
            · refine Keeps.step (countRaise_keeps 56 group_sesrx ..) rfl ?_
              refine Keeps.step (qAdmit_keeps ..) rfl ?_
              refine Keeps.step (setRx_keeps ..) rfl ?_
              refine Keeps.ite ?_ ?_
              · refine Keeps.ite ?_ ?_
                · refine Keeps.step (setRx_keeps ..) rfl ?_
                  refine Keeps.step (State.wri_keeps 56 group_sesrx ..) rfl ?_
                  refine Keeps.step (State.wri_keeps 56 group_sesrx ..) rfl ?_
                  refine Keeps.step (raiseIf_keeps ..) rfl ?_
                  refine Keeps.step (State.wri_keeps 56 group_sesrx ..) rfl ?_
                  exact Keeps.refl _ _
                · refine Keeps.step (raise_keeps ..) rfl ?_
                  refine Keeps.step (State.wri_keeps 56 group_sesrx ..) rfl ?_
                  refine Keeps.step (State.wri_keeps 56 group_sesrx ..) rfl ?_
                  refine Keeps.step (setRx_keeps ..) rfl ?_
                  refine Keeps.step (State.wri_keeps 56 group_sesrx ..) rfl ?_
                  refine Keeps.step (State.wri_keeps 56 group_sesrx ..) rfl ?_
                  refine Keeps.step (raiseIf_keeps ..) rfl ?_
                  refine Keeps.step (State.wri_keeps 56 group_sesrx ..) rfl ?_
                  exact Keeps.refl _ _
              · refine Keeps.step (raiseIf_keeps ..) rfl ?_
                refine Keeps.step (State.wri_keeps 56 group_sesrx ..) rfl ?_
                exact Keeps.refl _ _
          · refine Keeps.step (tableAck_keeps ..) rfl ?_
            refine Keeps.step (State.inc_keeps 56 group_sesrx ..) rfl ?_
            refine Keeps.step (setRx_keeps ..) rfl ?_
            refine Keeps.ite ?_ ?_
            · refine Keeps.ite ?_ ?_
              · refine Keeps.step (setRx_keeps ..) rfl ?_
                refine Keeps.step (State.wri_keeps 56 group_sesrx ..) rfl ?_
                refine Keeps.step (State.wri_keeps 56 group_sesrx ..) rfl ?_
                refine Keeps.step (raiseIf_keeps ..) rfl ?_
                refine Keeps.step (State.wri_keeps 56 group_sesrx ..) rfl ?_
                exact Keeps.refl _ _
              · refine Keeps.step (raise_keeps ..) rfl ?_
                refine Keeps.step (State.wri_keeps 56 group_sesrx ..) rfl ?_
                refine Keeps.step (State.wri_keeps 56 group_sesrx ..) rfl ?_
                refine Keeps.step (setRx_keeps ..) rfl ?_
                refine Keeps.step (State.wri_keeps 56 group_sesrx ..) rfl ?_
                refine Keeps.step (State.wri_keeps 56 group_sesrx ..) rfl ?_
                refine Keeps.step (raiseIf_keeps ..) rfl ?_
                refine Keeps.step (State.wri_keeps 56 group_sesrx ..) rfl ?_
                exact Keeps.refl _ _
            · refine Keeps.step (raiseIf_keeps ..) rfl ?_
              refine Keeps.step (State.wri_keeps 56 group_sesrx ..) rfl ?_
              exact Keeps.refl _ _

theorem setTx_keeps (s : State) (x1 : Nat) (x2 : TxSes) : Keeps 36029896530722818 s (setTx s x1 x2) := by
  unfold setTx
  refine Keeps.step (State.wri_keeps 55 group_sestx ..) rfl ?_
  refine Keeps.step (Keeps.put_ses ..) rfl ?_
  exact Keeps.refl _ _

theorem setRet_keeps (s : State) (x1 : Nat) (x2 : List (Nat × List Nat)) : Keeps 521157115198817059330 s (setRet s x1 x2) := by
  unfold setRet
  refine Keeps.step (setTx_keeps ..) rfl ?_
  refine Keeps.ite ?_ ?_
  · refine Keeps.step (poolMonitor_keeps ..) rfl ?_
    refine Keeps.step (Keeps.put_sw ..) rfl ?_
    exact Keeps.refl _ _
  · refine Keeps.step (Keeps.put_sw ..) rfl ?_
    exact Keeps.refl _ _

theorem setCons_keeps (s : State) (x1 x2 : Nat) : Keeps 521157115198817059330 s (setCons s x1 x2) := by
  unfold setCons
  refine Keeps.step (raiseIf_keeps ..) rfl ?_
  refine Keeps.step (setRet_keeps ..) rfl ?_
  refine Keeps.step (State.wri_keeps 55 group_sestx ..) rfl ?_
  exact Keeps.refl _ _

theorem setRcvd_keeps (s : State) (x1 x2 : Nat) : Keeps 521156552248863490562 s (setRcvd s x1 x2) := by
  unfold setRcvd
  refine Keeps.ite ?_ ?_
  · refine Keeps.step (raiseIf_keeps ..) rfl ?_
    refine Keeps.each (fun _ _ => ?_) ?_
    · refine Keeps.ite ?_ ?_
      · refine Keeps.step (State.wr_keeps 55 group_sestx ..) rfl ?_
        exact Keeps.refl _ _
      · exact Keeps.refl _ _
    · refine Keeps.step (State.wri_keeps 55 group_sestx ..) rfl ?_
      exact Keeps.refl _ _
  · refine Keeps.step (State.wri_keeps 55 group_sestx ..) rfl ?_
    exact Keeps.refl _ _

theorem setStalled_keeps (s : State) (x1 : Nat) (x2 : Bool) : Keeps 36029896530591746 s (setStalled s x1 x2) := by
  unfold setStalled
  refine Keeps.step (State.setBit_keeps 55 group_sestx ..) rfl ?_
  refine Keeps.step (State.wri_keeps 55 group_sestx ..) rfl ?_
  exact Keeps.refl _ _

theorem ackTaken_keeps (s : State) (x1 : Nat) : Keeps 36029896530722818 s (ackTaken s x1) := by
  unfold ackTaken
  refine Keeps.step (State.wri_keeps 55 group_sestx ..) rfl ?_
  refine Keeps.step (setStalled_keeps ..) rfl ?_
  refine Keeps.step (setTx_keeps ..) rfl ?_
  exact Keeps.refl _ _

theorem sendMsg_keeps (s : State) (x1 : Nat) (x2 : Bool) (x3 : Nat × List Nat) :
    Keeps 521157396673793778178 s (sendMsg s x1 x2 x3) := by
  unfold sendMsg
  refine Keeps.ite ?_ ?_
  · exact Keeps.refl _ _
  · refine Keeps.step (sendSes_keeps ..) rfl ?_
    refine Keeps.ite ?_ ?_
    · refine Keeps.step (State.inci_keeps 55 group_sestx ..) rfl ?_
      refine Keeps.step (State.inc_keeps 55 group_sestx ..) rfl ?_
      exact Keeps.refl _ _
    · exact Keeps.refl _ _

theorem sendNew_keeps (s : State) (x1 : Nat) : Keeps 521157396673793778178 s (sendNew s x1) := by
  unfold sendNew
  refine Keeps.ite ?_ ?_
  · refine Keeps.step (setTx_keeps ..) rfl ?_
    refine Keeps.foldl (fun _ _ => ?_) _ _ ?_
    · refine Keeps.step (sendMsg_keeps ..) rfl ?_
      exact Keeps.refl _ _
    · exact Keeps.refl _ _
  · exact Keeps.refl _ _

theorem sendProbe_keeps (s : State) (x1 : Nat) : Keeps 521157396673793778178 s (sendProbe s x1) := by
  unfold sendProbe
  refine Keeps.ite ?_ ?_
  · exact Keeps.refl _ _
  · refine Keeps.step (sendSes_keeps ..) rfl ?_
    refine Keeps.step (State.inc_keeps 55 group_sestx ..) rfl ?_
    exact Keeps.refl _ _

theorem resendFrom_keeps (s : State) (x1 x2 : Nat) : Keeps 521157396673793778178 s (resendFrom s x1 x2) := by
  unfold resendFrom
  refine Keeps.step (setTx_keeps ..) rfl ?_
  refine Keeps.foldl (fun _ _ => ?_) _ _ ?_
  · refine Keeps.step (sendMsg_keeps ..) rfl ?_
    exact Keeps.refl _ _
  · exact Keeps.refl _ _

theorem judgeAck_keeps (s : State) (x1 : Frame) : Keeps 521157396673793778178 s (judgeAck s x1) := by
  unfold judgeAck
  refine Keeps.ite ?_ ?_
  · refine Keeps.step (State.inc_keeps 55 group_sestx ..) rfl ?_
    exact Keeps.refl _ _
  · refine Keeps.ite ?_ ?_
    · refine Keeps.step (ackTaken_keeps ..) rfl ?_
      refine Keeps.step (State.wri_keeps 55 group_sestx ..) rfl ?_
      refine Keeps.step (State.wri_keeps 55 group_sestx ..) rfl ?_
      refine Keeps.step (State.wri_keeps 55 group_sestx ..) rfl ?_
      refine Keeps.step (State.wri_keeps 55 group_sestx ..) rfl ?_
      refine Keeps.step (State.wri_keeps 55 group_sestx ..) rfl ?_
      refine Keeps.step (setTx_keeps ..) rfl ?_
      refine Keeps.step (State.inc_keeps 55 group_sestx ..) rfl ?_
      exact Keeps.refl _ _
    · refine Keeps.ite ?_ ?_
      · refine Keeps.ite ?_ ?_
        · refine Keeps.step (sendProbe_keeps ..) rfl ?_
          refine Keeps.step (ackTaken_keeps ..) rfl ?_
          refine Keeps.step (raise_keeps ..) rfl ?_
          refine Keeps.step (State.wri_keeps 55 group_sestx ..) rfl ?_
          refine Keeps.step (setTx_keeps ..) rfl ?_
          refine Keeps.step (State.inc_keeps 55 group_sestx ..) rfl ?_
          exact Keeps.refl _ _
        · refine Keeps.step (resendFrom_keeps ..) rfl ?_
          refine Keeps.step (ackTaken_keeps ..) rfl ?_
          refine Keeps.step (raise_keeps ..) rfl ?_
          refine Keeps.step (State.wri_keeps 55 group_sestx ..) rfl ?_
          refine Keeps.step (setTx_keeps ..) rfl ?_
          refine Keeps.step (State.inc_keeps 55 group_sestx ..) rfl ?_
          exact Keeps.refl _ _
      · refine Keeps.step (sendNew_keeps ..) rfl ?_
        refine Keeps.ite ?_ ?_
        · refine Keeps.step (resendFrom_keeps ..) rfl ?_
          refine Keeps.step (ackTaken_keeps ..) rfl ?_
          refine Keeps.step (setCons_keeps ..) rfl ?_
          refine Keeps.ite ?_ ?_
          · refine Keeps.step (setRcvd_keeps ..) rfl ?_
            refine Keeps.step (raiseIf_keeps ..) rfl ?_
            refine Keeps.step (State.wri_keeps 55 group_sestx ..) rfl ?_
            refine Keeps.step (setTx_keeps ..) rfl ?_
            refine Keeps.step (State.inc_keeps 55 group_sestx ..) rfl ?_
            exact Keeps.refl _ _
          · refine Keeps.step (raiseIf_keeps ..) rfl ?_
            refine Keeps.step (State.wri_keeps 55 group_sestx ..) rfl ?_
            refine Keeps.step (setTx_keeps ..) rfl ?_
            refine Keeps.step (State.inc_keeps 55 group_sestx ..) rfl ?_
            exact Keeps.refl _ _
        · refine Keeps.step (ackTaken_keeps ..) rfl ?_
          refine Keeps.step (setCons_keeps ..) rfl ?_
          refine Keeps.ite ?_ ?_
          · refine Keeps.step (setRcvd_keeps ..) rfl ?_
            refine Keeps.step (raiseIf_keeps ..) rfl ?_
            refine Keeps.step (State.wri_keeps 55 group_sestx ..) rfl ?_
            refine Keeps.step (setTx_keeps ..) rfl ?_
            refine Keeps.step (State.inc_keeps 55 group_sestx ..) rfl ?_
            exact Keeps.refl _ _
          · refine Keeps.step (raiseIf_keeps ..) rfl ?_
            refine Keeps.step (State.wri_keeps 55 group_sestx ..) rfl ?_
            refine Keeps.step (setTx_keeps ..) rfl ?_
            refine Keeps.step (State.inc_keeps 55 group_sestx ..) rfl ?_
            exact Keeps.refl _ _

theorem drainLoop_keeps (x0 : Nat) (s : State) : Keeps 521247468666341188098 s (drainLoop x0 s) := by
  unfold drainLoop
  split
  · exact Keeps.refl _ _
  · split
    · exact Keeps.refl _ _
    · refine Keeps.step (drainLoop_keeps ..) rfl ?_
      refine Keeps.ite ?_ ?_
      · refine Keeps.step (judgeMsg_keeps ..) rfl ?_
        refine Keeps.step (Keeps.put_ses ..) rfl ?_
        exact Keeps.refl _ _
      · refine Keeps.step (judgeAck_keeps ..) rfl ?_
        refine Keeps.step (Keeps.put_ses ..) rfl ?_
        exact Keeps.refl _ _

theorem sesDone_keeps (s : State) : Keeps 521247468666341188098 s (sesDone s) := by
  unfold sesDone
  refine Keeps.step (drainLoop_keeps ..) rfl ?_
  exact Keeps.refl _ _

theorem reportBytes_keeps (s : State) (x1 : Nat) : Keeps 256 s (reportBytes s x1).2 := by
  unfold reportBytes
  split
  · exact Keeps.refl _ _
  · refine Keeps.step (Keeps.put_draws _ _ (Nat.le_succ _)) rfl ?_
    refine Keeps.step (State.draw_keeps ..) rfl ?_
    exact Keeps.refl _ _

theorem retainMsg_keeps (s : State) (x1 : Nat) (x2 : List Nat) : Keeps 521247468666341188098 s (retainMsg s x1 x2).2 := by
  unfold retainMsg
  refine Keeps.step (sesDone_keeps ..) rfl ?_
  refine Keeps.step (sendNew_keeps ..) rfl ?_
  refine Keeps.step (State.inc_keeps 55 group_sestx ..) rfl ?_
  refine Keeps.step (State.wri_keeps 55 group_sestx ..) rfl ?_
  refine Keeps.step (setRet_keeps ..) rfl ?_
  refine Keeps.ite ?_ ?_
  · refine Keeps.step (setTx_keeps ..) rfl ?_
    exact Keeps.refl _ _
  · exact Keeps.refl _ _

theorem retireReport_keeps (s : State) (x1 : Nat) : Keeps 521247468666341712642 s (retireReport s x1) := by
  unfold retireReport
  split
  dsimp only
  split
  · exact Keeps.refl _ _
  · refine Keeps.ite ?_ ?_
    · exact Keeps.refl _ _
    · refine Keeps.step (recPut_keeps ..) rfl ?_
      refine Keeps.step (retainMsg_keeps ..) rfl ?_
      rename_i hq1 _ _ _
      refine Keeps.of_snd hq1 ?_
      refine Keeps.step (reportBytes_keeps ..) rfl ?_
      exact Keeps.refl _ _

theorem endReqs_keeps (s : State) (x1 : Nat) : Keeps 524288 s (endReqs s x1) := by
  unfold endReqs
  refine Keeps.step (dropReqs_keeps ..) rfl ?_
  exact Keeps.refl _ _

theorem setDslot_keeps (s : State) (x1 : Nat) (x2 : DriftSlot) : Keeps 524288 s (setDslot s x1 x2) := by
  unfold setDslot
  refine Keeps.step (Keeps.put_drift ..) rfl ?_
  exact Keeps.refl _ _

theorem freeRec_keeps (s : State) (x1 : Nat) : Keeps 521427331176459813378 s (freeRec s x1) := by
  unfold freeRec
  refine Keeps.step (driftNote_keeps ..) rfl ?_
  refine Keeps.step (Keeps.put_drift ..) rfl ?_
  refine Keeps.step (endReqs_keeps ..) rfl ?_
  refine Keeps.step (setDslot_keeps ..) rfl ?_
  refine Keeps.step (recPut_keeps ..) rfl ?_
  exact Keeps.refl _ _

theorem releaseTo_keeps (s : State) (x1 x2 : Nat) : Keeps 521121367876775207426 s (releaseTo s x1 x2) := by
  unfold releaseTo
  refine Keeps.step (request_keeps ..) rfl ?_
  exact Keeps.refl _ _

theorem retireDone_keeps (s : State) (x1 : Nat) : Keeps 521427612651436532226 s (retireDone s x1) := by
  unfold retireDone
  refine Keeps.step (freeRec_keeps ..) rfl ?_
  refine Keeps.step (driftNote_keeps ..) rfl ?_
  refine Keeps.step (driftCount_keeps ..) rfl ?_
  refine Keeps.ite ?_ ?_
  · refine Keeps.step (releaseTo_keeps ..) rfl ?_
    exact Keeps.refl _ _
  · exact Keeps.refl _ _

theorem retireProceed_keeps (s : State) (x1 : Nat) : Keeps 521535699042493424386 s (retireProceed s x1) := by
  unfold retireProceed
  refine Keeps.ite ?_ ?_
  · refine Keeps.step (crcCheck_keeps ..) rfl ?_
    exact Keeps.refl _ _
  · dsimp only
    split
    · refine Keeps.ite ?_ ?_
      · refine Keeps.step (retireDone_keeps ..) rfl ?_
        refine Keeps.step (retireReport_keeps ..) rfl ?_
        refine Keeps.step (crcCheck_keeps ..) rfl ?_
        exact Keeps.refl _ _
      · refine Keeps.step (retireReport_keeps ..) rfl ?_
        refine Keeps.step (crcCheck_keeps ..) rfl ?_
        exact Keeps.refl _ _
    · refine Keeps.step (retireReport_keeps ..) rfl ?_
      refine Keeps.step (crcCheck_keeps ..) rfl ?_
      exact Keeps.refl _ _

theorem driftReports_keeps (s : State) : Keeps 521535699042493424386 s (driftReports s) := by
  unfold driftReports
  refine Keeps.foldl (fun _ _ => ?_) _ _ ?_
  · refine Keeps.step (retireProceed_keeps ..) rfl ?_
    exact Keeps.refl _ _
  · exact Keeps.refl _ _

theorem execAck_keeps (x0 : Frame) (s : State) : OutKeeps 521535699042493424386 s (execAck x0 s) := by
  unfold execAck
  refine OutKeeps.next ?_
  refine Keeps.ite ?_ ?_
  · refine Keeps.step (driftReports_keeps ..) rfl ?_
    refine Keeps.step (sesDone_keeps ..) rfl ?_
    refine Keeps.step (judgeAck_keeps ..) rfl ?_
    exact Keeps.refl _ _
  · exact Keeps.refl _ _

theorem execAckSend_keeps (s : State) : OutKeeps 521247468666341188098 s (execAckSend s) := by
  unfold execAckSend
  refine OutKeeps.next ?_
  refine Keeps.ite ?_ ?_
  · refine Keeps.step (sesDone_keeps ..) rfl ?_
    refine Keeps.each (fun _ _ => ?_) ?_
    · split
      · refine Keeps.ite ?_ ?_
        · refine Keeps.step (sendAck_keeps ..) rfl ?_
          exact Keeps.refl _ _
        · exact Keeps.refl _ _
      · exact Keeps.refl _ _
    · exact Keeps.refl _ _
  · exact Keeps.refl _ _

theorem errCapture_keeps (s : State) (x1 x2 x3 x4 x5 : Nat) : Keeps 1099511627778 s (errCapture s x1 x2 x3 x4 x5) := by
  unfold errCapture
  refine Keeps.ite ?_ ?_
  · refine Keeps.step (State.wr_keeps 40 (.inr rfl) ..) rfl ?_
    refine Keeps.step (State.inc_keeps 40 (.inr rfl) ..) rfl ?_
    exact Keeps.refl _ _
  · refine Keeps.step (State.wr_keeps 40 (.inr rfl) ..) rfl ?_
    refine Keeps.step (State.wr_keeps 40 (.inr rfl) ..) rfl ?_
    refine Keeps.step (State.wr_keeps 40 (.inr rfl) ..) rfl ?_
    refine Keeps.step (State.wr_keeps 40 (.inr rfl) ..) rfl ?_
    refine Keeps.step (State.wr_keeps 40 (.inr rfl) ..) rfl ?_
    refine Keeps.step (State.wr_keeps 40 (.inr rfl) ..) rfl ?_
    refine Keeps.step (State.wr_keeps 40 (.inr rfl) ..) rfl ?_
    refine Keeps.step (State.inc_keeps 40 (.inr rfl) ..) rfl ?_
    exact Keeps.refl _ _

theorem txnCapture_keeps (s : State) (x1 x2 x3 : Nat) : Keeps 1099511627778 s (txnCapture s x1 x2 x3) := by
  unfold txnCapture
  refine Keeps.step (errCapture_keeps ..) rfl ?_
  exact Keeps.refl _ _

theorem writeFailed_keeps (s : State) (x1 x2 x3 : Nat) : Keeps 521120523451844526594 s (writeFailed s x1 x2 x3) := by
  unfold writeFailed
  refine Keeps.ite ?_ ?_
  · refine Keeps.step (raise_keeps ..) rfl ?_
    refine Keeps.step (txnCapture_keeps ..) rfl ?_
    exact Keeps.refl _ _
  · refine Keeps.step (raise_keeps ..) rfl ?_
    refine Keeps.step (txnCapture_keeps ..) rfl ?_
    exact Keeps.refl _ _

theorem setTag_keeps (s : State) (x1 : Nat) (x2 : Option TagSt) : Keeps 65536 s (setTag s x1 x2) := by
  unfold setTag
  refine Keeps.step (Keeps.put_txn ..) rfl ?_
  exact Keeps.refl _ _

theorem sendTag_keeps (s : State) (x1 : Nat) : Keeps 521125871476402119170 s (sendTag s x1) := by
  unfold sendTag
  split
  · exact Keeps.refl _ _
  · split
    · refine Keeps.step (originate_keeps ..) rfl ?_
      refine Keeps.step (State.inc_keeps 52 group_txn ..) rfl ?_
      refine Keeps.step (setTag_keeps ..) rfl ?_
      exact Keeps.refl _ _
    · refine Keeps.step (originate_keeps ..) rfl ?_
      refine Keeps.step (State.inc_keeps 52 group_txn ..) rfl ?_
      refine Keeps.step (setTag_keeps ..) rfl ?_
      exact Keeps.refl _ _

theorem putTag_keeps (s : State) (x1 : TagSt) : Keeps 65536 s (putTag s x1).2 := by
  unfold putTag
  refine Keeps.step (setTag_keeps ..) rfl ?_
  refine Keeps.step (Keeps.put_txn ..) rfl ?_
  exact Keeps.refl _ _

theorem takeTag_keeps (s : State) (x1 : TagSt) : Keeps 521125871476402119170 s (takeTag s x1).2 := by
  unfold takeTag
  refine Keeps.ite_snd ?_ ?_
  · refine Keeps.ite ?_ ?_
    · refine Keeps.step (sendTag_keeps ..) rfl ?_
      refine Keeps.step (State.inc_keeps 52 group_txn ..) rfl ?_
      refine Keeps.step (putTag_keeps ..) rfl ?_
      exact Keeps.refl _ _
    · exact Keeps.refl _ _
  · refine Keeps.ite ?_ ?_
    · refine Keeps.step (putTag_keeps ..) rfl ?_
      refine Keeps.ite ?_ ?_
      · refine Keeps.step (sendTag_keeps ..) rfl ?_
        refine Keeps.step (State.inc_keeps 52 group_txn ..) rfl ?_
        refine Keeps.step (putTag_keeps ..) rfl ?_
        exact Keeps.refl _ _
      · exact Keeps.refl _ _
    · refine Keeps.step (sendTag_keeps ..) rfl ?_
      refine Keeps.step (putTag_keeps ..) rfl ?_
      refine Keeps.ite ?_ ?_
      · refine Keeps.step (sendTag_keeps ..) rfl ?_
        refine Keeps.step (State.inc_keeps 52 group_txn ..) rfl ?_
        refine Keeps.step (putTag_keeps ..) rfl ?_
        exact Keeps.refl _ _
      · exact Keeps.refl _ _

theorem sendEvent_keeps (s : State) (x1 x2 x3 x4 x5 : Nat) : Keeps 521125871476402119170 s (sendEvent s x1 x2 x3 x4 x5).2 := by
  unfold sendEvent
  split
  · rename_i hq1
    refine Keeps.of_snd hq1 ?_
    refine Keeps.step (takeTag_keeps ..) rfl ?_
    exact Keeps.refl _ _
  · dsimp only
    split
    · refine Keeps.step (setTag_keeps ..) rfl ?_
      rename_i hq2 _ _ _ _
      refine Keeps.of_snd hq2 ?_
      refine Keeps.step (takeTag_keeps ..) rfl ?_
      exact Keeps.refl _ _
    · rename_i hq3 _ _
      refine Keeps.of_snd hq3 ?_
      refine Keeps.step (takeTag_keeps ..) rfl ?_
      exact Keeps.refl _ _

theorem eventIn_keeps (s : State) (x1 x2 x3 : Nat) : Keeps 521125027051471897090 s (eventIn s x1 x2 x3) := by
  unfold eventIn
  refine Keeps.step (raise_keeps ..) rfl ?_
  refine Keeps.step (State.wr_keeps 52 group_txn ..) rfl ?_
  refine Keeps.step (State.wr_keeps 52 group_txn ..) rfl ?_
  refine Keeps.ite ?_ ?_
  · refine Keeps.step (State.inc_keeps 52 group_txn ..) rfl ?_
    exact Keeps.refl _ _
  · exact Keeps.refl _ _

theorem evout_keeps (s : State) (x1 x2 x3 x4 : Nat) : Keeps 521125871476402119170 s (evout s x1 x2 x3 x4).2 := by
  unfold evout
  refine Keeps.ite_snd ?_ ?_
  · refine Keeps.step (eventIn_keeps ..) rfl ?_
    exact Keeps.refl _ _
  · refine Keeps.ite_snd ?_ ?_
    · refine Keeps.step (writeFailed_keeps ..) rfl ?_
      exact Keeps.refl _ _
    · refine Keeps.step (sendEvent_keeps ..) rfl ?_
      exact Keeps.refl _ _

theorem qBind_keeps (s : State) (x1 x2 : Nat) : Keeps 18015498021109762 s (qBind s x1 x2).2 := by
  unfold qBind
  refine Keeps.ite_snd ?_ ?_
  · exact Keeps.refl _ _
  · refine Keeps.ite_snd ?_ ?_
    · refine Keeps.step (State.wr_keeps 54 group_queue ..) rfl ?_
      exact Keeps.refl _ _
    · exact Keeps.refl _ _

theorem qUnbind_keeps (s : State) (x1 : Nat) : Keeps 18015498021109762 s (qUnbind s x1) := by
  unfold qUnbind
  refine Keeps.ite ?_ ?_
  · exact Keeps.refl _ _
  · refine Keeps.step (State.wr_keeps 54 group_queue ..) rfl ?_
    exact Keeps.refl _ _

theorem bindQueues_keeps (x0 : State) (s : State) (x2 : By) (x3 x4 : Nat) :
    Keeps 18015498021109762 s (bindQueues x0 s x2 x3 x4) := by
  unfold bindQueues
  refine Keeps.foldl (fun _ _ => ?_) _ _ ?_
  · split
    · exact Keeps.refl _ _
    · refine Keeps.ite ?_ ?_
      · exact Keeps.refl _ _
      · refine Keeps.ite ?_ ?_
        · refine Keeps.step (qUnbind_keeps ..) rfl ?_
          exact Keeps.refl _ _
        · refine Keeps.step (qBind_keeps ..) rfl ?_
          refine Keeps.step (qUnbind_keeps ..) rfl ?_
          exact Keeps.refl _ _
  · exact Keeps.refl _ _

theorem setCapUnit_keeps (s : State) (x1 : Nat) (x2 : CapUnit) : Keeps 2097152 s (setCapUnit s x1 x2) := by
  unfold setCapUnit
  refine Keeps.step (Keeps.put_caps ..) rfl ?_
  exact Keeps.refl _ _

theorem closeCell_keeps (s : State) (x1 : Nat) : Keeps 521121086401800192514 s (closeCell s x1) := by
  unfold closeCell
  dsimp only
  split
  · exact Keeps.refl _ _
  · refine Keeps.step (setQueueSt_keeps ..) rfl ?_
    refine Keeps.step (Keeps.put_ses ..) rfl ?_
    refine Keeps.step (dischargeCells_keeps ..) rfl ?_
    refine Keeps.step (setCapUnit_keeps ..) rfl ?_
    exact Keeps.refl _ _

theorem shaperEnable_keeps (s : State) (x1 x2 : Nat) : Keeps 282574488354818 s (shaperEnable s x1 x2) := by
  unfold shaperEnable
  refine Keeps.each (fun _ _ => ?_) ?_
  · refine Keeps.ite ?_ ?_
    · refine Keeps.step (State.wr_keeps 48 group_swport ..) rfl ?_
      refine Keeps.step (setShaper_keeps ..) rfl ?_
      exact Keeps.refl _ _
    · exact Keeps.refl _ _
  · refine Keeps.step (shapeTo_keeps ..) rfl ?_
    exact Keeps.refl _ _

theorem setMeter_keeps (s : State) (x1 x2 x3 : Nat) (x4 : Int) : Keeps 16384 s (setMeter s x1 x2 x3 x4) := by
  unfold setMeter
  refine Keeps.step (Keeps.put_sw ..) rfl ?_
  exact Keeps.refl _ _

theorem meterTo_keeps (s : State) (x1 : Nat) : Keeps 16384 s (meterTo s x1) := by
  unfold meterTo
  refine Keeps.each (fun _ _ => ?_) ?_
  · refine Keeps.step (setMeter_keeps ..) rfl ?_
    exact Keeps.refl _ _
  · exact Keeps.refl _ _

theorem beforeWrite_keeps (s : State) (x1 x2 x3 : Nat) : Keeps 521121367876776903170 s (beforeWrite s x1 x2 x3) := by
  unfold beforeWrite
  refine Keeps.ite ?_ ?_
  · refine Keeps.step (shaperEnable_keeps ..) rfl ?_
    exact Keeps.refl _ _
  · refine Keeps.ite ?_ ?_
    · refine Keeps.step (meterTo_keeps ..) rfl ?_
      exact Keeps.refl _ _
    · refine Keeps.ite ?_ ?_
      · refine Keeps.ite ?_ ?_
        · exact Keeps.refl _ _
        · refine Keeps.step (closeCell_keeps ..) rfl ?_
          exact Keeps.refl _ _
      · exact Keeps.refl _ _

theorem State.uaWr_keeps (s : State) (x1 : Nat) (x2 : Nat → Fld) (x3 : Nat) :
    Keeps 147573953689188040706 s (State.uaWr s x1 x2 x3) := by
  unfold State.uaWr
  refine Keeps.step (State.wr_keeps 67 group_uart ..) rfl ?_
  exact Keeps.refl _ _

theorem setUart_keeps (s : State) (x1 : Nat) (x2 : UartSt) : Keeps 147573953689322258434 s (setUart s x1 x2) := by
  unfold setUart
  refine Keeps.step (State.uaWr_keeps ..) rfl ?_
  refine Keeps.step (State.uaWr_keeps ..) rfl ?_
  refine Keeps.step (State.uaWr_keeps ..) rfl ?_
  refine Keeps.step (Keeps.put_uarts ..) rfl ?_
  exact Keeps.refl _ _

theorem uartStart_keeps (s : State) (x1 : Nat) : Keeps 521121086401798095362 s (uartStart s x1) := by
  unfold uartStart
  refine Keeps.ite ?_ ?_
  · exact Keeps.refl _ _
  · split
    · refine Keeps.step (setUart_keeps ..) rfl ?_
      exact Keeps.refl _ _
    · split
      · exact Keeps.refl _ _
      · refine Keeps.step (setUart_keeps ..) rfl ?_
        refine Keeps.step (setQueueSt_keeps ..) rfl ?_
        exact Keeps.refl _ _

theorem uartSend_keeps (s : State) (x1 : Nat) (x2 : Bool) (x3 : Nat) : Keeps 521121086401798095362 s (uartSend s x1 x2 x3) := by
  unfold uartSend
  refine Keeps.ite ?_ ?_
  · refine Keeps.step (State.uaWr_keeps ..) rfl ?_
    exact Keeps.refl _ _
  · refine Keeps.ite ?_ ?_
    · refine Keeps.step (State.uaWr_keeps ..) rfl ?_
      exact Keeps.refl _ _
    · refine Keeps.ite ?_ ?_
      · refine Keeps.step (State.uaWr_keeps ..) rfl ?_
        exact Keeps.refl _ _
      · refine Keeps.ite ?_ ?_
        · refine Keeps.step (State.uaWr_keeps ..) rfl ?_
          exact Keeps.refl _ _
        · refine Keeps.step (uartStart_keeps ..) rfl ?_
          refine Keeps.step (setUart_keeps ..) rfl ?_
          refine Keeps.step (State.uaWr_keeps ..) rfl ?_
          exact Keeps.refl _ _

theorem entSelect_keeps (s : State) (x1 : Nat) : Keeps 1152922604118474754 s (entSelect s x1) := by
  unfold entSelect
  dsimp only
  split
  · refine Keeps.step (State.wr_keeps 60 group_edge ..) rfl ?_
    refine Keeps.step (State.wr64_keeps 60 group_edge group_edge ..) rfl ?_
    refine Keeps.step (State.wr_keeps 60 group_edge ..) rfl ?_
    refine Keeps.step (State.wr_keeps 60 group_edge ..) rfl ?_
    refine Keeps.step (State.wr_keeps 60 group_edge ..) rfl ?_
    refine Keeps.step (State.wr_keeps 60 group_edge ..) rfl ?_
    refine Keeps.step (State.wr_keeps 60 group_edge ..) rfl ?_
    refine Keeps.step (State.wr_keeps 60 group_edge ..) rfl ?_
    refine Keeps.step (State.wr_keeps 60 group_edge ..) rfl ?_
    refine Keeps.step (State.wr_keeps 60 group_edge ..) rfl ?_
    refine Keeps.step (State.wr_keeps 60 group_edge ..) rfl ?_
    refine Keeps.step (State.wr_keeps 60 group_edge ..) rfl ?_
    refine Keeps.step (State.wr_keeps 60 group_edge ..) rfl ?_
    refine Keeps.step (State.wr_keeps 60 group_edge ..) rfl ?_
    refine Keeps.step (State.wr_keeps 60 group_edge ..) rfl ?_
    exact Keeps.refl _ _
  · refine Keeps.ite ?_ ?_
    · refine Keeps.step (State.wr_keeps 60 group_edge ..) rfl ?_
      refine Keeps.step (State.wr64_keeps 60 group_edge group_edge ..) rfl ?_
      refine Keeps.step (State.wr_keeps 60 group_edge ..) rfl ?_
      refine Keeps.step (State.wr_keeps 60 group_edge ..) rfl ?_
      refine Keeps.step (State.wr_keeps 60 group_edge ..) rfl ?_
      refine Keeps.step (State.wr_keeps 60 group_edge ..) rfl ?_
      refine Keeps.step (State.wr_keeps 60 group_edge ..) rfl ?_
      refine Keeps.step (State.wr_keeps 60 group_edge ..) rfl ?_
      refine Keeps.step (State.wr_keeps 60 group_edge ..) rfl ?_
      refine Keeps.step (State.wr_keeps 60 group_edge ..) rfl ?_
      refine Keeps.step (State.wr_keeps 60 group_edge ..) rfl ?_
      refine Keeps.step (State.wr_keeps 60 group_edge ..) rfl ?_
      refine Keeps.step (State.wr_keeps 60 group_edge ..) rfl ?_
      refine Keeps.step (State.wr_keeps 60 group_edge ..) rfl ?_
      refine Keeps.step (State.wr_keeps 60 group_edge ..) rfl ?_
      exact Keeps.refl _ _
    · refine Keeps.step (State.wr_keeps 60 group_edge ..) rfl ?_
      refine Keeps.step (State.wr64_keeps 60 group_edge group_edge ..) rfl ?_
      refine Keeps.step (State.wr_keeps 60 group_edge ..) rfl ?_
      refine Keeps.step (State.wr_keeps 60 group_edge ..) rfl ?_
      refine Keeps.step (State.wr_keeps 60 group_edge ..) rfl ?_
      refine Keeps.step (State.wr_keeps 60 group_edge ..) rfl ?_
      refine Keeps.step (State.wr_keeps 60 group_edge ..) rfl ?_
      refine Keeps.step (State.wr_keeps 60 group_edge ..) rfl ?_
      refine Keeps.step (State.wr_keeps 60 group_edge ..) rfl ?_
      refine Keeps.step (State.wr_keeps 60 group_edge ..) rfl ?_
      refine Keeps.step (State.wr_keeps 60 group_edge ..) rfl ?_
      refine Keeps.step (State.wr_keeps 60 group_edge ..) rfl ?_
      refine Keeps.step (State.wr_keeps 60 group_edge ..) rfl ?_
      refine Keeps.step (State.wr_keeps 60 group_edge ..) rfl ?_
      refine Keeps.step (State.wr_keeps 60 group_edge ..) rfl ?_
      exact Keeps.refl _ _

theorem cntClear_keeps (s : State) (x1 x2 : Nat) : Keeps 633825300114114699648839974914 s (cntClear s x1 x2) := by
  unfold cntClear
  refine Keeps.foldl (fun _ _ => ?_) _ _ ?_
  · refine Keeps.ite ?_ ?_
    · refine Keeps.step (State.wr_keepsAll ..) rfl ?_
      exact Keeps.refl _ _
    · exact Keeps.refl _ _
  · exact Keeps.refl _ _

theorem setEnt_keeps (s : State) (x1 : Nat) (x2 : EdgeEnt) : Keeps 1048576 s (setEnt s x1 x2) := by
  unfold setEnt
  refine Keeps.step (Keeps.put_edge ..) rfl ?_
  exact Keeps.refl _ _

theorem edgeCount_keeps (s : State) (x1 : Nat) : Keeps 522273444956451373570 s (edgeCount s x1) := by
  unfold edgeCount
  split
  · refine Keeps.step (State.inc_keeps 60 group_edge ..) rfl ?_
    exact Keeps.refl _ _
  · refine Keeps.step (countRaise_keeps 60 group_edge ..) rfl ?_
    exact Keeps.refl _ _
  · refine Keeps.step (countRaise_keeps 60 group_edge ..) rfl ?_
    exact Keeps.refl _ _
  · refine Keeps.step (countRaise_keeps 60 group_edge ..) rfl ?_
    exact Keeps.refl _ _
  · exact Keeps.refl _ _

theorem edgeReport_keeps (s : State) (x1 : PendEdge) (x2 : Nat) (x3 : Option Nat) :
    Keeps 522273444956451373826 s (edgeReport s x1 x2 x3) := by
  unfold edgeReport
  refine Keeps.step (raiseIf_keeps ..) rfl ?_
  split
  · refine Keeps.step (Keeps.put_edge ..) rfl ?_
    refine Keeps.step (edgeCount_keeps ..) rfl ?_
    refine Keeps.step (setEnt_keeps ..) rfl ?_
    split
    · exact Keeps.refl _ _
    · refine Keeps.step (State.draw_keeps ..) rfl ?_
      exact Keeps.refl _ _
  · refine Keeps.step (edgeCount_keeps ..) rfl ?_
    refine Keeps.step (setEnt_keeps ..) rfl ?_
    split
    · exact Keeps.refl _ _
    · refine Keeps.step (State.draw_keeps ..) rfl ?_
      exact Keeps.refl _ _

theorem dropEdge_keeps (s : State) (x1 : PendEdge) : Keeps 1048576 s (dropEdge s x1) := by
  unfold dropEdge
  refine Keeps.ite ?_ ?_
  · refine Keeps.step (setEnt_keeps ..) rfl ?_
    refine Keeps.step (Keeps.put_edge ..) rfl ?_
    exact Keeps.refl _ _
  · refine Keeps.step (Keeps.put_edge ..) rfl ?_
    exact Keeps.refl _ _

theorem edgeEnd_keeps (s : State) (x1 : PendEdge) (x2 : Nat) : Keeps 522273444956451373826 s (edgeEnd s x1 x2) := by
  unfold edgeEnd
  refine Keeps.step (dropEdge_keeps ..) rfl ?_
  refine Keeps.ite ?_ ?_
  · refine Keeps.ite ?_ ?_
    · refine Keeps.step (edgeCount_keeps ..) rfl ?_
      exact Keeps.refl _ _
    · exact Keeps.refl _ _
  · refine Keeps.step (edgeReport_keeps ..) rfl ?_
    exact Keeps.refl _ _

theorem edgesCancel_keeps (s : State) (x1 : Nat) : Keeps 522273444956451373826 s (edgesCancel s x1) := by
  unfold edgesCancel
  refine Keeps.foldl (fun _ _ => ?_) _ _ ?_
  · refine Keeps.ite ?_ ?_
    · refine Keeps.step (edgeEnd_keeps ..) rfl ?_
      exact Keeps.refl _ _
    · exact Keeps.refl _ _
  · exact Keeps.refl _ _

theorem edgesRelease_keeps (s : State) (x1 : Nat) : Keeps 522273444956451373826 s (edgesRelease s x1) := by
  unfold edgesRelease
  refine Keeps.ite ?_ ?_
  · refine Keeps.step (setEnt_keeps ..) rfl ?_
    refine Keeps.step (edgesCancel_keeps ..) rfl ?_
    exact Keeps.refl _ _
  · refine Keeps.step (setEnt_keeps ..) rfl ?_
    refine Keeps.step (edgesCancel_keeps ..) rfl ?_
    exact Keeps.refl _ _

theorem setEdge_keeps (s : State) (x1 : PendEdge) : Keeps 1048576 s (setEdge s x1) := by
  unfold setEdge
  refine Keeps.step (Keeps.put_edge ..) rfl ?_
  exact Keeps.refl _ _

theorem edgeStarve_keeps (s : State) (x1 : PendEdge) : Keeps 522273444956451373570 s (edgeStarve s x1) := by
  unfold edgeStarve
  refine Keeps.ite ?_ ?_
  · exact Keeps.refl _ _
  · refine Keeps.step (countRaise_keeps 60 group_edge ..) rfl ?_
    refine Keeps.step (setEdge_keeps ..) rfl ?_
    exact Keeps.refl _ _

theorem edgeCommit_keeps (s : State) (x1 : EdgeEnt) (x2 : PendEdge) (x3 : Nat) (x4 : Bool) :
    Keeps 1048576 s (edgeCommit s x1 x2 x3 x4) := by
  unfold edgeCommit
  refine Keeps.ite ?_ ?_
  · refine Keeps.step (Keeps.put_edge ..) rfl ?_
    refine Keeps.step (setEdge_keeps ..) rfl ?_
    exact Keeps.refl _ _
  · refine Keeps.step (setEdge_keeps ..) rfl ?_
    exact Keeps.refl _ _

theorem edgeTry_keeps (s : State) (x1 : PendEdge) (x2 : Nat) : Keeps 522273444956451373826 s (edgeTry s x1 x2) := by
  unfold edgeTry
  refine Keeps.ite ?_ ?_
  · exact Keeps.refl _ _
  · refine Keeps.ite ?_ ?_
    · exact Keeps.refl _ _
    · split
      · refine Keeps.step (edgeEnd_keeps ..) rfl ?_
        exact Keeps.refl _ _
      · refine Keeps.ite ?_ ?_
        · exact Keeps.refl _ _
        · refine Keeps.ite ?_ ?_
          · refine Keeps.ite ?_ ?_
            · refine Keeps.step (edgeCommit_keeps ..) rfl ?_
              exact Keeps.refl _ _
            · refine Keeps.step (edgeStarve_keeps ..) rfl ?_
              exact Keeps.refl _ _
          · refine Keeps.ite ?_ ?_
            · refine Keeps.ite ?_ ?_
              · refine Keeps.step (edgeCommit_keeps ..) rfl ?_
                exact Keeps.refl _ _
              · refine Keeps.step (edgeStarve_keeps ..) rfl ?_
                exact Keeps.refl _ _
            · refine Keeps.step (edgeEnd_keeps ..) rfl ?_
              exact Keeps.refl _ _

theorem edgeSolve_keeps (s : State) (x1 : PendEdge) (x2 : Nat) (x3 : Bool) :
    Keeps 522273444956451373826 s (edgeSolve s x1 x2 x3) := by
  unfold edgeSolve
  split
  · refine Keeps.ite ?_ ?_
    · refine Keeps.ite ?_ ?_
      · refine Keeps.step (edgeTry_keeps ..) rfl ?_
        refine Keeps.step (setEdge_keeps ..) rfl ?_
        exact Keeps.refl _ _
      · refine Keeps.step (setEdge_keeps ..) rfl ?_
        exact Keeps.refl _ _
    · refine Keeps.step (setEdge_keeps ..) rfl ?_
      exact Keeps.refl _ _
  · refine Keeps.ite ?_ ?_
    · refine Keeps.step (edgeTry_keeps ..) rfl ?_
      refine Keeps.step (setEdge_keeps ..) rfl ?_
      exact Keeps.refl _ _
    · refine Keeps.step (setEdge_keeps ..) rfl ?_
      exact Keeps.refl _ _
  · refine Keeps.step (setEdge_keeps ..) rfl ?_
    refine Keeps.when (fun _ => ?_) ?_
    · refine Keeps.step (State.inc_keeps 60 group_edge ..) rfl ?_
      exact Keeps.refl _ _
    · exact Keeps.refl _ _

theorem edgeDisc_keeps (s : State) (x1 : PendEdge) (x2 : Nat) (x3 : List Nat) :
    Keeps 522273444956451373826 s (edgeDisc s x1 x2 x3) := by
  unfold edgeDisc
  split
  · refine Keeps.step (edgeSolve_keeps ..) rfl ?_
    refine Keeps.ite ?_ ?_
    · exact Keeps.refl _ _
    · refine Keeps.step (countRaise_keeps 60 group_edge ..) rfl ?_
      exact Keeps.refl _ _
  · refine Keeps.step (edgeSolve_keeps ..) rfl ?_
    exact Keeps.refl _ _

theorem edgeBySlot_keeps (s : State) (x1 : PendEdge) (x2 : Nat) (x3 : Option DiscStep) :
    Keeps 522273444956451373826 s (edgeBySlot s x1 x2 x3).2 := by
  unfold edgeBySlot
  refine Keeps.ite_snd ?_ ?_
  · refine Keeps.step (edgeEnd_keeps ..) rfl ?_
    exact Keeps.refl _ _
  · refine Keeps.ite_snd ?_ ?_
    · refine Keeps.step (setEdge_keeps ..) rfl ?_
      exact Keeps.refl _ _
    · refine Keeps.ite_snd ?_ ?_
      · refine Keeps.step (setEdge_keeps ..) rfl ?_
        exact Keeps.refl _ _
      · refine Keeps.ite_snd ?_ ?_
        · split
          · refine Keeps.ite ?_ ?_
            · refine Keeps.step (edgeDisc_keeps ..) rfl ?_
              exact Keeps.refl _ _
            · refine Keeps.step (edgeSolve_keeps ..) rfl ?_
              exact Keeps.refl _ _
          · refine Keeps.step (edgeSolve_keeps ..) rfl ?_
            exact Keeps.refl _ _
        · exact Keeps.refl _ _

theorem edgeSync_keeps (s : State) (x1 : PendEdge) (x2 : Nat) (x3 : Option DiscStep) :
    Keeps 522273444956451373826 s (edgeSync s x1 x2 x3) := by
  unfold edgeSync
  refine Keeps.ite ?_ ?_
  · refine Keeps.step (raise_keeps ..) rfl ?_
    refine Keeps.step (Keeps.put_edge ..) rfl ?_
    refine Keeps.step (edgeBySlot_keeps ..) rfl ?_
    exact Keeps.refl _ _
  · refine Keeps.step (edgeBySlot_keeps ..) rfl ?_
    exact Keeps.refl _ _

theorem edgeArm_keeps (s : State) (x1 : Nat) (x2 : ArmOp) (x3 : Option (Nat × Nat)) (x4 : Nat) :
    Keeps 522273444956451373826 s (edgeArm s x1 x2 x3 x4) := by
  unfold edgeArm
  refine Keeps.ite ?_ ?_
  · refine Keeps.step (edgeSync_keeps ..) rfl ?_
    refine Keeps.step (Keeps.put_edge ..) rfl ?_
    exact Keeps.refl _ _
  · refine Keeps.step (edgeTry_keeps ..) rfl ?_
    refine Keeps.step (Keeps.put_edge ..) rfl ?_
    exact Keeps.refl _ _

theorem armChecked_keeps (s : State) (x1 : Nat) (x2 : ArmOp) (x3 : Option (Nat × Nat)) (x4 : Nat) :
    Keeps 522273444956451373826 s (armChecked s x1 x2 x3 x4).2 := by
  unfold armChecked
  refine Keeps.ite_snd ?_ ?_
  · exact Keeps.refl _ _
  · refine Keeps.ite_snd ?_ ?_
    · refine Keeps.step (countRaise_keeps 60 group_edge ..) rfl ?_
      exact Keeps.refl _ _
    · refine Keeps.step (edgeArm_keeps ..) rfl ?_
      exact Keeps.refl _ _

theorem entCommand_keeps (s : State) (x1 x2 : Nat) : Keeps 522273444956451373826 s (entCommand s x1 x2) := by
  unfold entCommand
  refine Keeps.step (State.wr_keeps 60 group_edge ..) rfl ?_
  refine Keeps.ite_snd ?_ ?_
  · exact Keeps.refl _ _
  · refine Keeps.ite_snd ?_ ?_
    · exact Keeps.refl _ _
    · refine Keeps.ite_snd ?_ ?_
      · exact Keeps.refl _ _
      · refine Keeps.ite_snd ?_ ?_
        · refine Keeps.ite_snd ?_ ?_
          · exact Keeps.refl _ _
          · refine Keeps.ite_snd ?_ ?_
            · exact Keeps.refl _ _
            · refine Keeps.step (setEnt_keeps ..) rfl ?_
              exact Keeps.refl _ _
        · refine Keeps.ite_snd ?_ ?_
          · refine Keeps.step (armChecked_keeps ..) rfl ?_
            exact Keeps.refl _ _
          · refine Keeps.ite_snd ?_ ?_
            · refine Keeps.step (edgesCancel_keeps ..) rfl ?_
              exact Keeps.refl _ _
            · refine Keeps.step (edgesRelease_keeps ..) rfl ?_
              exact Keeps.refl _ _

theorem effEdge_keeps (s : State) (x1 x2 : Nat) : Keeps 633825300114114699719854785282 s (effEdge s x1 x2) := by
  unfold effEdge
  refine Keeps.ite ?_ ?_
  · refine Keeps.step (entSelect_keeps ..) rfl ?_
    exact Keeps.refl _ _
  · refine Keeps.ite ?_ ?_
    · refine Keeps.step (entCommand_keeps ..) rfl ?_
      exact Keeps.refl _ _
    · refine Keeps.ite ?_ ?_
      · refine Keeps.step (cntClear_keeps ..) rfl ?_
        exact Keeps.refl _ _
      · exact Keeps.refl _ _

theorem judgeLead_keeps (s : State) (x1 : Nat) : Keeps 521696984204147950082 s (judgeLead s x1) := by
  unfold judgeLead
  refine Keeps.step (raiseIf_keeps ..) rfl ?_
  refine Keeps.step (State.wr_keeps 59 group_zones ..) rfl ?_
  exact Keeps.refl _ _

theorem State.ctlWr_keeps (s : State) (x1 : Nat) (x2 x3 : Fld) (x4 : Nat) :
    Keeps 28334198898317382909954 s (State.ctlWr s x1 x2 x3 x4) := by
  unfold State.ctlWr ctlPage
  split
  · exact (State.wr_keeps 73 group_power ..).mono rfl
  · exact (State.wr_keeps 74 group_branch ..).mono rfl

theorem setCtlState_keeps (s : State) (x1 x2 : Nat) : Keeps 28334198898317382909954 s (setCtlState s x1 x2) := by
  unfold setCtlState
  refine Keeps.step (State.ctlWr_keeps ..) rfl ?_
  exact Keeps.refl _ _

theorem mainSeating_keeps (s : State) : Keeps 28334198898317919780866 s (mainSeating s) := by
  unfold mainSeating
  refine Keeps.ite ?_ ?_
  · refine Keeps.step (setCtlState_keeps ..) rfl ?_
    refine Keeps.step (Keeps.put_power ..) rfl ?_
    exact Keeps.refl _ _
  · refine Keeps.ite ?_ ?_
    · refine Keeps.step (setCtlState_keeps ..) rfl ?_
      exact Keeps.refl _ _
    · exact Keeps.refl _ _

theorem setRetries_keeps (s : State) (x1 x2 : Nat) : Keeps 28334198898317382909954 s (setRetries s x1 x2) := by
  unfold setRetries
  refine Keeps.step (State.ctlWr_keeps ..) rfl ?_
  exact Keeps.refl _ _

theorem latchClear_keeps (s : State) (x1 : Nat) : Keeps 28334198898317919780866 s (latchClear s x1) := by
  unfold latchClear
  refine Keeps.ite ?_ ?_
  · refine Keeps.ite ?_ ?_
    · refine Keeps.step (mainSeating_keeps ..) rfl ?_
      refine Keeps.step (setRetries_keeps ..) rfl ?_
      refine Keeps.step (setCtlState_keeps ..) rfl ?_
      exact Keeps.refl _ _
    · refine Keeps.step (setRetries_keeps ..) rfl ?_
      refine Keeps.step (setCtlState_keeps ..) rfl ?_
      exact Keeps.refl _ _
  · exact Keeps.refl _ _

theorem svcKeep_keeps (s : State) : Keeps 1073741824 s (svcKeep s) := by
  unfold svcKeep
  refine Keeps.ite ?_ ?_
  · refine Keeps.step (Keeps.put_usb ..) rfl ?_
    exact Keeps.refl _ _
  · exact Keeps.refl _ _

theorem setPd_keeps (s : State) (x1 : Nat) (x2 : PdSt) : Keeps 1073741824 s (setPd s x1 x2) := by
  unfold setPd
  refine Keeps.ite ?_ ?_
  · refine Keeps.step (Keeps.put_usb ..) rfl ?_
    exact Keeps.refl _ _
  · refine Keeps.step (Keeps.put_usb ..) rfl ?_
    exact Keeps.refl _ _

theorem State.pdWr_keeps (s : State) (x1 : Nat) (x2 : Fld) (x3 : Nat) :
    Keeps 37778931864056673337346 s (State.pdWr s x1 x2 x3) := by
  unfold State.pdWr
  refine Keeps.step (State.wr_keeps 75 group_pd ..) rfl ?_
  exact Keeps.refl _ _

theorem pdComplete_keeps (s : State) (x1 x2 : Nat) : Keeps 37778931864057747079170 s (pdComplete s x1 x2) := by
  unfold pdComplete
  refine Keeps.ite ?_ ?_
  · refine Keeps.step (setPd_keeps ..) rfl ?_
    refine Keeps.step (State.pdWr_keeps ..) rfl ?_
    exact Keeps.refl _ _
  · exact Keeps.refl _ _

theorem pdQuiet_keeps (s : State) (x1 : Nat) : Keeps 37778931864057747079426 s (pdQuiet s x1) := by
  unfold pdQuiet
  refine Keeps.step (setPd_keeps ..) rfl ?_
  refine Keeps.step (State.zero_keeps 75 (fun _ _ => group_pd) ..) rfl ?_
  refine Keeps.ite ?_ ?_
  · refine Keeps.step (pdComplete_keeps ..) rfl ?_
    refine Keeps.step (State.draw_keeps ..) rfl ?_
    exact Keeps.refl _ _
  · exact Keeps.refl _ _

theorem pdEv_keeps (s : State) (x1 x2 : Nat) : Keeps 521120523451844526594 s (pdEv s x1 x2) := by
  unfold pdEv
  refine Keeps.ite ?_ ?_
  · refine Keeps.step (raise_keeps ..) rfl ?_
    exact Keeps.refl _ _
  · refine Keeps.step (evOnly_keeps ..) rfl ?_
    exact Keeps.refl _ _

theorem usbEv_keeps (s : State) (x1 : Nat) : Keeps 521120523451844526594 s (usbEv s x1) := by
  unfold usbEv
  refine Keeps.ite ?_ ?_
  · refine Keeps.step (raise_keeps ..) rfl ?_
    exact Keeps.refl _ _
  · refine Keeps.step (evOnly_keeps ..) rfl ?_
    exact Keeps.refl _ _

theorem usbAbort_keeps (s : State) : Keeps 76078984249367241687554 s (usbAbort s) := by
  unfold usbAbort
  refine Keeps.ite ?_ ?_
  · refine Keeps.foldl (fun _ _ => ?_) _ _ ?_
    · refine Keeps.step (State.wr_keeps 76 group_usb ..) rfl ?_
      exact Keeps.refl _ _
    · refine Keeps.step (Keeps.put_usb ..) rfl ?_
      exact Keeps.refl _ _
  · refine Keeps.step (usbEv_keeps ..) rfl ?_
    refine Keeps.foldl (fun _ _ => ?_) _ _ ?_
    · refine Keeps.step (State.wr_keeps 76 group_usb ..) rfl ?_
      exact Keeps.refl _ _
    · refine Keeps.step (Keeps.put_usb ..) rfl ?_
      exact Keeps.refl _ _

theorem usbConnect_keeps (s : State) : Keeps 76078984249367241687554 s (usbConnect s) := by
  unfold usbConnect
  refine Keeps.ite ?_ ?_
  · exact Keeps.refl _ _
  · refine Keeps.step (usbEv_keeps ..) rfl ?_
    refine Keeps.ite ?_ ?_
    · refine Keeps.step (State.wr_keeps 76 group_usb ..) rfl ?_
      exact Keeps.refl _ _
    · refine Keeps.step (State.zero_keeps 76 (fun _ _ => group_usb) ..) rfl ?_
      refine Keeps.step (usbAbort_keeps ..) rfl ?_
      refine Keeps.step (State.wr_keeps 76 group_usb ..) rfl ?_
      exact Keeps.refl _ _

theorem vbusFall_keeps (s : State) : Keeps 76078984249367241687554 s (vbusFall s) := by
  unfold vbusFall
  refine Keeps.ite ?_ ?_
  · refine Keeps.step (usbConnect_keeps ..) rfl ?_
    refine Keeps.step (Keeps.put_usb ..) rfl ?_
    exact Keeps.refl _ _
  · refine Keeps.step (Keeps.put_usb ..) rfl ?_
    exact Keeps.refl _ _

theorem judgeBudget_keeps (s : State) : Keeps 38300052386409006236162 s (judgeBudget s) := by
  unfold judgeBudget
  refine Keeps.ite ?_ ?_
  · refine Keeps.step (pdEv_keeps ..) rfl ?_
    refine Keeps.step (State.pdWr_keeps ..) rfl ?_
    refine Keeps.step (State.pdWr_keeps ..) rfl ?_
    exact Keeps.refl _ _
  · refine Keeps.step (State.pdWr_keeps ..) rfl ?_
    exact Keeps.refl _ _

theorem State.setLane_keeps (s : State) (x1 : Nat) (x2 : LaneSt) : Keeps 4096 s (State.setLane s x1 x2) := by
  unfold State.setLane
  refine Keeps.step (Keeps.put_lanes ..) rfl ?_
  exact Keeps.refl _ _

theorem setLaneState_keeps (s : State) (x1 x2 : Nat) : Keeps 36283883720706 s (setLaneState s x1 x2) := by
  unfold setLaneState
  refine Keeps.ite ?_ ?_
  · refine Keeps.step (State.setLane_keeps ..) rfl ?_
    refine Keeps.step (State.wr_keeps 45 group_lane ..) rfl ?_
    refine Keeps.step (State.wr_keeps 45 group_lane ..) rfl ?_
    exact Keeps.refl _ _
  · refine Keeps.step (State.wr_keeps 45 group_lane ..) rfl ?_
    refine Keeps.step (State.wr_keeps 45 group_lane ..) rfl ?_
    exact Keeps.refl _ _

theorem laneCause_keeps (s : State) (x1 x2 : Nat) : Keeps 36283883716610 s (laneCause s x1 x2) := by
  unfold laneCause
  refine Keeps.step (State.wr_keeps 45 group_lane ..) rfl ?_
  exact Keeps.refl _ _

theorem releaseEntry_keeps (s : State) (x1 : Nat) (x2 : SwEntry) : Keeps 564049465065474 s (releaseEntry s x1 x2) := by
  unfold releaseEntry
  refine Keeps.step (Keeps.put_sw ..) rfl ?_
  refine Keeps.step (dischargeCells_keeps ..) rfl ?_
  exact Keeps.refl _ _

theorem shaperLatch_keeps (s : State) (x1 x2 : Nat) : Keeps 521120804926821253634 s (shaperLatch s x1 x2) := by
  unfold shaperLatch
  refine Keeps.ite ?_ ?_
  · refine Keeps.step (alert_keeps ..) rfl ?_
    refine Keeps.step (State.inc_keeps 48 group_swport ..) rfl ?_
    refine Keeps.step (State.wr_keeps 48 group_swport ..) rfl ?_
    refine Keeps.step (setShaper_keeps ..) rfl ?_
    refine Keeps.step (State.wr_keeps 48 group_swport ..) rfl ?_
    exact Keeps.refl _ _
  · exact Keeps.refl _ _

theorem sendOver_keeps (s : State) (x1 : Nat) : Keeps 521120804926821253634 s (sendOver s x1) := by
  unfold sendOver
  refine Keeps.ite ?_ ?_
  · refine Keeps.step (State.wr_keeps 48 group_swport ..) rfl ?_
    refine Keeps.each (fun _ _ => ?_) ?_
    · refine Keeps.ite ?_ ?_
      · refine Keeps.step (shaperLatch_keeps ..) rfl ?_
        exact Keeps.refl _ _
      · exact Keeps.refl _ _
    · refine Keeps.step (State.wr_keeps 48 group_swport ..) rfl ?_
      refine Keeps.step (Keeps.put_sw ..) rfl ?_
      exact Keeps.refl _ _
  · refine Keeps.each (fun _ _ => ?_) ?_
    · refine Keeps.ite ?_ ?_
      · refine Keeps.step (shaperLatch_keeps ..) rfl ?_
        exact Keeps.refl _ _
      · exact Keeps.refl _ _
    · refine Keeps.step (State.wr_keeps 48 group_swport ..) rfl ?_
      refine Keeps.step (Keeps.put_sw ..) rfl ?_
      exact Keeps.refl _ _

theorem flushPort_keeps (s : State) (x1 : Nat) : Keeps 521121367876774674946 s (flushPort s x1) := by
  unfold flushPort
  dsimp only
  split
  · refine Keeps.step (sendOver_keeps ..) rfl ?_
    refine Keeps.step (releaseEntry_keeps ..) rfl ?_
    refine Keeps.step (shapeTo_keeps ..) rfl ?_
    refine Keeps.each (fun _ _ => ?_) ?_
    · refine Keeps.ite ?_ ?_
      · exact Keeps.refl _ _
      · refine Keeps.step (alert_keeps ..) rfl ?_
        refine Keeps.step (State.inc_keeps 48 group_swport ..) rfl ?_
        refine Keeps.step (setSwQueue_keeps ..) rfl ?_
        refine Keeps.foldl (fun _ _ => ?_) _ _ ?_
        · refine Keeps.step (releaseEntry_keeps ..) rfl ?_
          exact Keeps.refl _ _
        · exact Keeps.refl _ _
    · exact Keeps.refl _ _
  · refine Keeps.each (fun _ _ => ?_) ?_
    · refine Keeps.ite ?_ ?_
      · exact Keeps.refl _ _
      · refine Keeps.step (alert_keeps ..) rfl ?_
        refine Keeps.step (State.inc_keeps 48 group_swport ..) rfl ?_
        refine Keeps.step (setSwQueue_keeps ..) rfl ?_
        refine Keeps.foldl (fun _ _ => ?_) _ _ ?_
        · refine Keeps.step (releaseEntry_keeps ..) rfl ?_
          exact Keeps.refl _ _
        · exact Keeps.refl _ _
    · exact Keeps.refl _ _

theorem markReady_keeps (s : State) (x1 : Nat) : Keeps 16384 s (markReady s x1) := by
  unfold markReady
  refine Keeps.step (Keeps.put_sw ..) rfl ?_
  exact Keeps.refl _ _

theorem State.emitStomp_keeps (s : State) (x1 : Nat) (x2 : Frame) : Keeps 64 s (State.emitStomp s x1 x2) := by
  unfold State.emitStomp
  refine Keeps.step (Keeps.put_wire ..) rfl ?_
  exact Keeps.refl _ _

theorem dropStored_keeps (s : State) (x1 : Nat) (x2 : List Nat) : Keeps 845524441776130 s (dropStored s x1 x2) := by
  unfold dropStored
  refine Keeps.foldl (fun _ _ => ?_) _ _ ?_
  · refine Keeps.step (setSwQueue_keeps ..) rfl ?_
    refine Keeps.foldl (fun _ _ => ?_) _ _ ?_
    · refine Keeps.step (releaseEntry_keeps ..) rfl ?_
      exact Keeps.refl _ _
    · exact Keeps.refl _ _
  · exact Keeps.refl _ _

theorem stompStored_keeps (s : State) (x1 : Nat) : Keeps 1701713023778558067266 s (stompStored s x1) := by
  unfold stompStored
  refine Keeps.step (dropStored_keeps ..) rfl ?_
  refine Keeps.each (fun _ _ => ?_) ?_
  · split
    · refine Keeps.ite ?_ ?_
      · refine Keeps.ite ?_ ?_
        · refine Keeps.step (State.inc_keeps 45 group_lane ..) rfl ?_
          refine Keeps.ite ?_ ?_
          · refine Keeps.step (State.emitStomp_keeps ..) rfl ?_
            refine Keeps.step (sendOver_keeps ..) rfl ?_
            refine Keeps.step (releaseEntry_keeps ..) rfl ?_
            refine Keeps.step (shapeTo_keeps ..) rfl ?_
            exact Keeps.refl _ _
          · refine Keeps.step (sendOver_keeps ..) rfl ?_
            refine Keeps.step (releaseEntry_keeps ..) rfl ?_
            refine Keeps.step (shapeTo_keeps ..) rfl ?_
            exact Keeps.refl _ _
        · refine Keeps.ite ?_ ?_
          · refine Keeps.step (countRaise_keeps 70 group_eth ..) rfl ?_
            refine Keeps.ite ?_ ?_
            · refine Keeps.step (State.emitStomp_keeps ..) rfl ?_
              refine Keeps.step (sendOver_keeps ..) rfl ?_
              refine Keeps.step (releaseEntry_keeps ..) rfl ?_
              refine Keeps.step (shapeTo_keeps ..) rfl ?_
              exact Keeps.refl _ _
            · refine Keeps.step (sendOver_keeps ..) rfl ?_
              refine Keeps.step (releaseEntry_keeps ..) rfl ?_
              refine Keeps.step (shapeTo_keeps ..) rfl ?_
              exact Keeps.refl _ _
          · refine Keeps.ite ?_ ?_
            · refine Keeps.step (State.emitStomp_keeps ..) rfl ?_
              refine Keeps.step (sendOver_keeps ..) rfl ?_
              refine Keeps.step (releaseEntry_keeps ..) rfl ?_
              refine Keeps.step (shapeTo_keeps ..) rfl ?_
              exact Keeps.refl _ _
            · refine Keeps.step (sendOver_keeps ..) rfl ?_
              refine Keeps.step (releaseEntry_keeps ..) rfl ?_
              refine Keeps.step (shapeTo_keeps ..) rfl ?_
              exact Keeps.refl _ _
      · exact Keeps.refl _ _
    · exact Keeps.refl _ _
  · exact Keeps.refl _ _

theorem tapEnds_keeps (s : State) (x1 : Nat) (x2 : FrameEnd) : Keeps 1701713023778558071362 s (tapEnds s x1 x2) := by
  unfold tapEnds
  split
  · exact Keeps.refl _ _
  · refine Keeps.step (State.setLane_keeps ..) rfl ?_
    refine Keeps.ite ?_ ?_
    · refine Keeps.step (markReady_keeps ..) rfl ?_
      exact Keeps.refl _ _
    · refine Keeps.step (stompStored_keeps ..) rfl ?_
      exact Keeps.refl _ _

theorem setHaloEnt_keeps (s : State) (x1 x2 : Nat) (x3 : HaloEnt) : Keeps 8192 s (setHaloEnt s x1 x2 x3) := by
  unfold setHaloEnt
  refine Keeps.step (Keeps.put_halo ..) rfl ?_
  exact Keeps.refl _ _

theorem haloDecide_keeps (s : State) (x1 x2 x3 x4 : Nat) : Keeps 8192 s (haloDecide s x1 x2 x3 x4).2 := by
  unfold haloDecide
  refine Keeps.ite_snd ?_ ?_
  · refine Keeps.step (setHaloEnt_keeps ..) rfl ?_
    exact Keeps.refl _ _
  · refine Keeps.ite_snd ?_ ?_
    · refine Keeps.step (setHaloEnt_keeps ..) rfl ?_
      exact Keeps.refl _ _
    · refine Keeps.ite_snd ?_ ?_
      · refine Keeps.step (setHaloEnt_keeps ..) rfl ?_
        exact Keeps.refl _ _
      · refine Keeps.step (setHaloEnt_keeps ..) rfl ?_
        exact Keeps.refl _ _

theorem haloDup_keeps (s : State) (x1 x2 : Nat) : Keeps 106652627894274 s (haloDup s x1 x2) := by
  unfold haloDup
  refine Keeps.step (State.inc_keeps 45 group_lane ..) rfl ?_
  refine Keeps.step (State.inc_keeps 46 group_halo ..) rfl ?_
  exact Keeps.refl _ _

theorem haloAccept_keeps (s : State) (x1 : Nat) : Keeps 71468255805442 s (haloAccept s x1) := by
  unfold haloAccept
  refine Keeps.step (State.inc_keeps 46 group_halo ..) rfl ?_
  exact Keeps.refl _ _

theorem crossNext_keeps (s : State) (x1 : Frame) : Keeps 65536 s (crossNext s x1) := by
  unfold crossNext
  refine Keeps.ite ?_ ?_
  · refine Keeps.step (Keeps.put_txn ..) rfl ?_
    exact Keeps.refl _ _
  · exact Keeps.refl _ _

theorem crossOut_keeps (s : State) (x1 : Bool) (x2 : Nat) (x3 : Frame) : Keeps 521121367876774740482 s (crossOut s x1 x2 x3).2 := by
  unfold crossOut
  refine Keeps.ite ?_ ?_
  · refine Keeps.step (crossNext_keeps ..) rfl ?_
    refine Keeps.foldl_snd (fun _ _ => ?_) _ _ ?_
    · refine Keeps.ite_snd ?_ ?_
      · refine Keeps.step (admitOne_keeps ..) rfl ?_
        exact Keeps.refl _ _
      · refine Keeps.step (dropAt_keeps ..) rfl ?_
        refine Keeps.step (admitOne_keeps ..) rfl ?_
        exact Keeps.refl _ _
    · refine Keeps.step (newId_keeps ..) rfl ?_
      exact Keeps.refl _ _
  · refine Keeps.foldl_snd (fun _ _ => ?_) _ _ ?_
    · refine Keeps.ite_snd ?_ ?_
      · refine Keeps.step (admitOne_keeps ..) rfl ?_
        exact Keeps.refl _ _
      · refine Keeps.step (dropAt_keeps ..) rfl ?_
        refine Keeps.step (admitOne_keeps ..) rfl ?_
        exact Keeps.refl _ _
    · refine Keeps.step (newId_keeps ..) rfl ?_
      exact Keeps.refl _ _

theorem numberEntries_keeps (s : State) (x1 : List Nat) (x2 x3 : Nat) : Keeps 282574488354818 s (numberEntries s x1 x2 x3) := by
  unfold numberEntries
  refine Keeps.foldl (fun _ _ => ?_) _ _ ?_
  · refine Keeps.step (setSwQueue_keeps ..) rfl ?_
    exact Keeps.refl _ _
  · exact Keeps.refl _ _

theorem crossWhole_keeps (s : State) (x1 : Bool) (x2 : Nat) (x3 : Frame) : Keeps 282574488420354 s (crossWhole s x1 x2 x3).2 := by
  unfold crossWhole
  refine Keeps.ite_snd ?_ ?_
  · refine Keeps.step (crossNext_keeps ..) rfl ?_
    refine Keeps.step (numberEntries_keeps ..) rfl ?_
    exact Keeps.refl _ _
  · exact Keeps.refl _ _

theorem crossSend_keeps (s : State) (x1 : Bool) (x2 x3 : Nat) (x4 : Frame) :
    Keeps 521130375076029481474 s (crossSend s x1 x2 x3 x4).2 := by
  unfold crossSend
  unfold State.when
  refine Keeps.ite ?_ ?_
  · refine Keeps.step (State.inc_keeps 53 group_gw ..) rfl ?_
    refine Keeps.ite_snd ?_ ?_
    · refine Keeps.step (crossWhole_keeps ..) rfl ?_
      exact Keeps.refl _ _
    · refine Keeps.step (crossOut_keeps ..) rfl ?_
      exact Keeps.refl _ _
  · refine Keeps.ite_snd ?_ ?_
    · refine Keeps.step (crossWhole_keeps ..) rfl ?_
      exact Keeps.refl _ _
    · refine Keeps.step (crossOut_keeps ..) rfl ?_
      exact Keeps.refl _ _

theorem crossFrame_keeps (s : State) (x1 x2 : Nat) (x3 : Frame) : Keeps 521130375076029481474 s (crossFrame s x1 x2 x3).2 := by
  unfold crossFrame
  refine Keeps.ite_snd ?_ ?_
  · refine Keeps.step (crossOut_keeps ..) rfl ?_
    refine Keeps.step (countRaise_keeps 53 group_gw ..) rfl ?_
    exact Keeps.refl _ _
  · refine Keeps.step (crossSend_keeps ..) rfl ?_
    exact Keeps.refl _ _

theorem noteStatus_keeps (s : State) (x1 : Frame) : Keeps 2048 s (noteStatus s x1) := by
  unfold noteStatus
  refine Keeps.ite ?_ ?_
  · refine Keeps.ite ?_ ?_
    · refine Keeps.step (Keeps.put_time (ht := ⟨rfl, rfl⟩) ..) rfl ?_
      exact Keeps.refl _ _
    · exact Keeps.refl _ _
  · exact Keeps.refl _ _

theorem passed_keeps (s : State) (x1 x2 : Nat) (x3 : Frame) (x4 : Bool) (x5 : Bool × Bool) :
    Keeps 521130375076029483522 s (passed s x1 x2 x3 x4 x5).2 := by
  unfold passed
  refine Keeps.ite_snd ?_ ?_
  · refine Keeps.step (noteStatus_keeps ..) rfl ?_
    refine Keeps.step (crossFrame_keeps ..) rfl ?_
    exact Keeps.refl _ _
  · refine Keeps.step (noteStatus_keeps ..) rfl ?_
    exact Keeps.refl _ _

theorem noteTun_keeps (s : State) (x1 x2 : Nat) (x3 : Frame) (x4 x5 x6 x7 : Bool) :
    Keeps 4096 s (noteTun s x1 x2 x3 x4 x5 x6 x7) := by
  unfold noteTun
  refine Keeps.when (fun _ => ?_) ?_
  · refine Keeps.step (State.setLane_keeps ..) rfl ?_
    exact Keeps.refl _ _
  · exact Keeps.refl _ _

theorem haloSettle_keeps (s : State) (x1 x2 x3 : Nat) (x4 : Bool) : Keeps 8192 s (haloSettle s x1 x2 x3 x4) := by
  unfold haloSettle
  refine Keeps.step (setHaloEnt_keeps ..) rfl ?_
  exact Keeps.refl _ _

theorem countPath_keeps (s : State) (x1 : Nat) (x2 : Bool) : Keeps 423311976693762 s (countPath s x1 x2) := by
  unfold countPath
  refine Keeps.ite ?_ ?_
  · refine Keeps.step (State.inc_keeps 48 group_swport ..) rfl ?_
    refine Keeps.step (State.inc_keeps 47 group_switch ..) rfl ?_
    exact Keeps.refl _ _
  · refine Keeps.ite ?_ ?_
    · refine Keeps.step (State.inc_keeps 47 group_switch ..) rfl ?_
      exact Keeps.refl _ _
    · exact Keeps.refl _ _

theorem admitFrame_keeps (s : State) (x1 : List Nat) (x2 : Nat) (x3 : Frame) (x4 : Bool) (x5 : Nat) (x6 : List (Nat × Frame)) :
    Keeps 521121508614263030274 s (admitFrame s x1 x2 x3 x4 x5 x6).2 := by
  unfold admitFrame
  refine Keeps.ite_snd ?_ ?_
  · refine Keeps.foldl (fun _ _ => ?_) _ _ ?_
    · refine Keeps.step (dropAt_keeps ..) rfl ?_
      exact Keeps.refl _ _
    · exact Keeps.refl _ _
  · refine Keeps.ite_snd ?_ ?_
    · refine Keeps.ite_snd ?_ ?_
      · refine Keeps.foldl (fun _ _ => ?_) _ _ ?_
        · refine Keeps.step (putOne_keeps ..) rfl ?_
          exact Keeps.refl _ _
        · refine Keeps.foldl (fun _ _ => ?_) _ _ ?_
          · refine Keeps.step (countPath_keeps ..) rfl ?_
            refine Keeps.step (putOne_keeps ..) rfl ?_
            exact Keeps.refl _ _
          · exact Keeps.refl _ _
      · refine Keeps.step (countRaise_keeps 47 group_switch ..) rfl ?_
        refine Keeps.step (noteRefusals_keeps ..) rfl ?_
        exact Keeps.refl _ _
    · refine Keeps.foldl_snd (fun _ _ => ?_) _ _ ?_
      · refine Keeps.ite_snd ?_ ?_
        · refine Keeps.step (countPath_keeps ..) rfl ?_
          refine Keeps.step (admitOne_keeps ..) rfl ?_
          exact Keeps.refl _ _
        · refine Keeps.step (dropAt_keeps ..) rfl ?_
          refine Keeps.step (admitOne_keeps ..) rfl ?_
          exact Keeps.refl _ _
      · exact Keeps.refl _ _

theorem suppressed_keeps (s : State) (x1 : Frame) : Keeps 68719476736 s (suppressed s x1) := by
  unfold suppressed
  refine Keeps.ite ?_ ?_
  · refine Keeps.step (Keeps.put_ecl ..) rfl ?_
    exact Keeps.refl _ _
  · exact Keeps.refl _ _

theorem admitRx_keeps (s : State) (x1 x2 : Nat) (x3 : Frame) (x4 x5 : Bool) :
    Keeps 521121508614263030274 s (admitRx s x1 x2 x3 x4 x5).2 := by
  unfold admitRx
  refine Keeps.step (admitFrame_keeps ..) rfl ?_
  refine Keeps.step (suppressed_keeps ..) rfl ?_
  exact Keeps.refl _ _

theorem acceptHeld_keeps (s : State) (x1 : Nat) (x2 : HeldFrame) : Keeps 521130586182262028802 s (acceptHeld s x1 x2) := by
  unfold acceptHeld
  refine Keeps.ite ?_ ?_
  · refine Keeps.step (noteTun_keeps ..) rfl ?_
    refine Keeps.step (setHaloEnt_keeps ..) rfl ?_
    refine Keeps.step (passed_keeps ..) rfl ?_
    refine Keeps.step (admitRx_keeps ..) rfl ?_
    refine Keeps.step (newId_keeps ..) rfl ?_
    refine Keeps.step (haloAccept_keeps ..) rfl ?_
    exact Keeps.refl _ _
  · refine Keeps.step (haloSettle_keeps ..) rfl ?_
    refine Keeps.step (passed_keeps ..) rfl ?_
    refine Keeps.step (admitRx_keeps ..) rfl ?_
    refine Keeps.step (newId_keeps ..) rfl ?_
    refine Keeps.step (haloAccept_keeps ..) rfl ?_
    exact Keeps.refl _ _

theorem endHeld_keeps (s : State) (x1 : Nat) (x2 : Frame) (x3 : Bool) : Keeps 521130621366634117634 s (endHeld s x1 x2 x3) := by
  unfold endHeld
  refine Keeps.ite ?_ ?_
  · refine Keeps.step (setHaloEnt_keeps ..) rfl ?_
    exact Keeps.refl _ _
  · refine Keeps.ite ?_ ?_
    · refine Keeps.step (setHaloEnt_keeps ..) rfl ?_
      exact Keeps.refl _ _
    · dsimp only
      split
      · refine Keeps.step (acceptHeld_keeps ..) rfl ?_
        rename_i hq1
        refine Keeps.of_snd hq1 ?_
        refine Keeps.step (haloDecide_keeps ..) rfl ?_
        refine Keeps.step (setHaloEnt_keeps ..) rfl ?_
        exact Keeps.refl _ _
      · refine Keeps.step (countRaise_keeps 46 group_halo ..) rfl ?_
        rename_i hq2
        refine Keeps.of_snd hq2 ?_
        refine Keeps.step (haloDecide_keeps ..) rfl ?_
        refine Keeps.step (setHaloEnt_keeps ..) rfl ?_
        exact Keeps.refl _ _
      · refine Keeps.step (haloDup_keeps ..) rfl ?_
        rename_i hq3
        refine Keeps.of_snd hq3 ?_
        refine Keeps.step (haloDecide_keeps ..) rfl ?_
        refine Keeps.step (setHaloEnt_keeps ..) rfl ?_
        exact Keeps.refl _ _

theorem settleHeld_keeps (s : State) (x1 x2 x3 : Nat) (x4 : Bool) : Keeps 521130621366634117634 s (settleHeld s x1 x2 x3 x4) := by
  unfold settleHeld
  refine Keeps.ite ?_ ?_
  · refine Keeps.foldl (fun _ _ => ?_) _ _ ?_
    · refine Keeps.step (haloDup_keeps ..) rfl ?_
      exact Keeps.refl _ _
    · refine Keeps.step (setHaloEnt_keeps ..) rfl ?_
      refine Keeps.step (haloSettle_keeps ..) rfl ?_
      exact Keeps.refl _ _
  · split
    · refine Keeps.step (setHaloEnt_keeps ..) rfl ?_
      refine Keeps.step (haloSettle_keeps ..) rfl ?_
      exact Keeps.refl _ _
    · refine Keeps.foldl (fun _ _ => ?_) _ _ ?_
      · refine Keeps.step (haloDup_keeps ..) rfl ?_
        exact Keeps.refl _ _
      · refine Keeps.step (acceptHeld_keeps ..) rfl ?_
        refine Keeps.step (setHaloEnt_keeps ..) rfl ?_
        refine Keeps.step (haloSettle_keeps ..) rfl ?_
        exact Keeps.refl _ _

theorem rxLost_keeps (s : State) (x1 : Nat) (x2 : RxFrame) : Keeps 1701722242084045421122 s (rxLost s x1 x2) := by
  unfold rxLost
  refine Keeps.ite ?_ ?_
  · exact Keeps.refl _ _
  · refine Keeps.ite ?_ ?_
    · refine Keeps.step (endHeld_keeps ..) rfl ?_
      exact Keeps.refl _ _
    · refine Keeps.ite ?_ ?_
      · refine Keeps.step (settleHeld_keeps ..) rfl ?_
        split
        · refine Keeps.ite ?_ ?_
          · refine Keeps.step (State.setLane_keeps ..) rfl ?_
            refine Keeps.step (stompStored_keeps ..) rfl ?_
            exact Keeps.refl _ _
          · refine Keeps.step (stompStored_keeps ..) rfl ?_
            exact Keeps.refl _ _
        · refine Keeps.step (stompStored_keeps ..) rfl ?_
          exact Keeps.refl _ _
      · split
        · refine Keeps.ite ?_ ?_
          · refine Keeps.step (State.setLane_keeps ..) rfl ?_
            refine Keeps.step (stompStored_keeps ..) rfl ?_
            exact Keeps.refl _ _
          · refine Keeps.step (stompStored_keeps ..) rfl ?_
            exact Keeps.refl _ _
        · refine Keeps.step (stompStored_keeps ..) rfl ?_
          exact Keeps.refl _ _

theorem rxCut_keeps (s : State) (x1 : Nat) : Keeps 1701722242084045421122 s (rxCut s x1) := by
  unfold rxCut
  dsimp only
  split
  · refine Keeps.step (tapEnds_keeps ..) rfl ?_
    exact Keeps.refl _ _
  · refine Keeps.step (rxLost_keeps ..) rfl ?_
    refine Keeps.step (State.setLane_keeps ..) rfl ?_
    refine Keeps.step (tapEnds_keeps ..) rfl ?_
    exact Keeps.refl _ _

theorem laneExit_keeps (s : State) (x1 x2 : Nat) : Keeps 1701722242084045421122 s (laneExit s x1 x2) := by
  unfold laneExit
  refine Keeps.step (flushPort_keeps ..) rfl ?_
  refine Keeps.step (rxCut_keeps ..) rfl ?_
  refine Keeps.ite ?_ ?_
  · refine Keeps.step (laneCause_keeps ..) rfl ?_
    refine Keeps.step (setLaneState_keeps ..) rfl ?_
    refine Keeps.step (countRaise_keeps 45 group_lane ..) rfl ?_
    refine Keeps.step (State.setLane_keeps ..) rfl ?_
    exact Keeps.refl _ _
  · refine Keeps.step (setLaneState_keeps ..) rfl ?_
    refine Keeps.step (countRaise_keeps 45 group_lane ..) rfl ?_
    refine Keeps.step (State.setLane_keeps ..) rfl ?_
    exact Keeps.refl _ _

theorem tapEnd_keeps (s : State) : Keeps 39480654105041207130690 s (tapEnd s) := by
  unfold tapEnd
  refine Keeps.ite ?_ ?_
  · refine Keeps.ite ?_ ?_
    · refine Keeps.step (laneExit_keeps ..) rfl ?_
      refine Keeps.step (pdEv_keeps ..) rfl ?_
      refine Keeps.step (State.pdWr_keeps ..) rfl ?_
      exact Keeps.refl _ _
    · refine Keeps.step (setLaneState_keeps ..) rfl ?_
      refine Keeps.step (pdEv_keeps ..) rfl ?_
      refine Keeps.step (State.pdWr_keeps ..) rfl ?_
      exact Keeps.refl _ _
  · exact Keeps.refl _ _

theorem pdDetach_keeps (s : State) (x1 : Nat) : Keeps 115038517830956604291906 s (pdDetach s x1) := by
  unfold pdDetach
  refine Keeps.ite ?_ ?_
  · exact Keeps.refl _ _
  · refine Keeps.step (pdEv_keeps ..) rfl ?_
    refine Keeps.ite ?_ ?_
    · refine Keeps.step (judgeBudget_keeps ..) rfl ?_
      refine Keeps.step (tapEnd_keeps ..) rfl ?_
      refine Keeps.step (vbusFall_keeps ..) rfl ?_
      refine Keeps.step (setPd_keeps ..) rfl ?_
      refine Keeps.step (State.zero_keeps 75 (fun _ _ => group_pd) ..) rfl ?_
      refine Keeps.step (pdQuiet_keeps ..) rfl ?_
      exact Keeps.refl _ _
    · refine Keeps.step (setPd_keeps ..) rfl ?_
      refine Keeps.step (State.zero_keeps 75 (fun _ _ => group_pd) ..) rfl ?_
      refine Keeps.step (pdQuiet_keeps ..) rfl ?_
      exact Keeps.refl _ _

theorem supplyJudge_keeps (s : State) : Keeps 115038517830956604291906 s (supplyJudge s) := by
  unfold supplyJudge
  refine Keeps.ite ?_ ?_
  · refine Keeps.ite ?_ ?_
    · refine Keeps.step (setPd_keeps ..) rfl ?_
      exact Keeps.refl _ _
    · exact Keeps.refl _ _
  · refine Keeps.step (setPd_keeps ..) rfl ?_
    refine Keeps.step (pdDetach_keeps ..) rfl ?_
    exact Keeps.refl _ _

theorem afterPower_keeps (s : State) : Keeps 115038517830956604291906 s (afterPower s) := by
  unfold afterPower
  refine Keeps.ite ?_ ?_
  · refine Keeps.step (supplyJudge_keeps ..) rfl ?_
    refine Keeps.step (svcKeep_keeps ..) rfl ?_
    exact Keeps.refl _ _
  · refine Keeps.step (svcKeep_keeps ..) rfl ?_
    exact Keeps.refl _ _

theorem setCtl_keeps (s : State) (x1 : Nat) (x2 : CtrlSt) : Keeps 536870912 s (setCtl s x1 x2) := by
  unfold setCtl
  refine Keeps.ite ?_ ?_
  · refine Keeps.step (Keeps.put_power ..) rfl ?_
    exact Keeps.refl _ _
  · refine Keeps.step (Keeps.put_power ..) rfl ?_
    exact Keeps.refl _ _

theorem powerEv_keeps (s : State) (x1 x2 : Nat) : Keeps 521120523451844526594 s (powerEv s x1 x2) := by
  unfold powerEv
  refine Keeps.ite ?_ ?_
  · refine Keeps.step (raise_keeps ..) rfl ?_
    exact Keeps.refl _ _
  · refine Keeps.step (evOnly_keeps ..) rfl ?_
    exact Keeps.refl _ _

theorem ctlEv_keeps (s : State) (x1 x2 : Nat) : Keeps 521120523451844526594 s (ctlEv s x1 x2) := by
  unfold ctlEv
  refine Keeps.ite ?_ ?_
  · refine Keeps.step (powerEv_keeps ..) rfl ?_
    exact Keeps.refl _ _
  · refine Keeps.step (powerEv_keeps ..) rfl ?_
    exact Keeps.refl _ _

theorem orDraw_keeps (s : State) (x1 : Nat) (x2 : Option Nat) : Keeps 256 s (orDraw s x1 x2).2 := by
  unfold orDraw
  split
  · exact Keeps.refl _ _
  · refine Keeps.step (State.draw_keeps ..) rfl ?_
    exact Keeps.refl _ _

theorem logPut_keeps (s : State) (x1 : LogEnt) : Keeps 2417851639230392220778498 s (logPut s x1) := by
  unfold logPut
  refine Keeps.step (State.wr_keeps 81 group_log ..) rfl ?_
  refine Keeps.step (Keeps.put_mgmt ..) rfl ?_
  refine Keeps.ite ?_ ?_
  · refine Keeps.step (State.inc_keeps 81 group_log ..) rfl ?_
    exact Keeps.refl _ _
  · exact Keeps.refl _ _

theorem logAdd_keeps (s : State) (x1 : LogEnt) : Keeps 2418372759752744553677314 s (logAdd s x1) := by
  unfold logAdd
  refine Keeps.step (raiseIf_keeps ..) rfl ?_
  refine Keeps.step (logPut_keeps ..) rfl ?_
  exact Keeps.refl _ _

theorem hubLog_keeps (s : State) (x1 : Nat) (x2 x3 x4 : Option Nat) : Keeps 2418372759752744553677570 s (hubLog s x1 x2 x3 x4) := by
  unfold hubLog
  refine Keeps.step (logAdd_keeps ..) rfl ?_
  refine Keeps.step (orDraw_keeps ..) rfl ?_
  refine Keeps.step (orDraw_keeps ..) rfl ?_
  refine Keeps.step (orDraw_keeps ..) rfl ?_
  exact Keeps.refl _ _

theorem setCause_keeps (s : State) (x1 x2 : Nat) : Keeps 2446706958649962424959746 s (setCause s x1 x2) := by
  unfold setCause
  refine Keeps.ite ?_ ?_
  · refine Keeps.step (hubLog_keeps ..) rfl ?_
    refine Keeps.step (State.ctlWr_keeps ..) rfl ?_
    exact Keeps.refl _ _
  · refine Keeps.step (State.ctlWr_keeps ..) rfl ?_
    exact Keeps.refl _ _

theorem unqueue_keeps (s : State) (x1 : Nat) : Keeps 536870912 s (unqueue s x1) := by
  unfold unqueue
  refine Keeps.step (Keeps.put_power ..) rfl ?_
  exact Keeps.refl _ _

theorem brEnqueue_keeps (s : State) (x1 : Nat) : Keeps 2446706958649962961830658 s (brEnqueue s x1) := by
  unfold brEnqueue
  refine Keeps.ite ?_ ?_
  · refine Keeps.step (setCause_keeps ..) rfl ?_
    exact Keeps.refl _ _
  · refine Keeps.step (Keeps.put_power ..) rfl ?_
    refine Keeps.step (setCtlState_keeps ..) rfl ?_
    refine Keeps.step (unqueue_keeps ..) rfl ?_
    exact Keeps.refl _ _

theorem curveApply_keeps (s : State) (x1 : Nat) : Keeps 2446706958649962961830658 s (curveApply s x1) := by
  unfold curveApply
  refine Keeps.ite ?_ ?_
  · refine Keeps.ite ?_ ?_
    · refine Keeps.step (brEnqueue_keeps ..) rfl ?_
      refine Keeps.when (fun _ => ?_) ?_
      · refine Keeps.step (State.wr_keeps 74 group_branch ..) rfl ?_
        exact Keeps.refl _ _
      · refine Keeps.step (State.ctlWr_keeps ..) rfl ?_
        refine Keeps.step (setCtl_keeps ..) rfl ?_
        exact Keeps.refl _ _
    · refine Keeps.when (fun _ => ?_) ?_
      · refine Keeps.step (State.wr_keeps 74 group_branch ..) rfl ?_
        exact Keeps.refl _ _
      · refine Keeps.step (State.ctlWr_keeps ..) rfl ?_
        refine Keeps.step (setCtl_keeps ..) rfl ?_
        exact Keeps.refl _ _
  · refine Keeps.step (ctlEv_keeps ..) rfl ?_
    refine Keeps.step (State.ctlWr_keeps ..) rfl ?_
    exact Keeps.refl _ _

theorem effPower_keeps (s : State) (x1 x2 : Nat) : Keeps 2561224355957467721595714 s (effPower s x1 x2) := by
  unfold effPower
  refine Keeps.ite ?_ ?_
  · refine Keeps.ite ?_ ?_
    · refine Keeps.step (afterPower_keeps ..) rfl ?_
      refine Keeps.step (latchClear_keeps ..) rfl ?_
      refine Keeps.ite ?_ ?_
      · refine Keeps.step (curveApply_keeps ..) rfl ?_
        exact Keeps.refl _ _
      · exact Keeps.refl _ _
    · refine Keeps.ite ?_ ?_
      · refine Keeps.step (curveApply_keeps ..) rfl ?_
        exact Keeps.refl _ _
      · exact Keeps.refl _ _
  · exact Keeps.refl _ _

theorem armEcl_keeps (s : State) (x1 x2 x3 : Nat) (x4 : Bool) (x5 x6 : Nat) :
    Keeps 19343334234357518639825410 s (armEcl s x1 x2 x3 x4 x5 x6) := by
  unfold armEcl
  refine Keeps.ite ?_ ?_
  · refine Keeps.ite ?_ ?_
    · refine Keeps.step (freeze_keeps ..) rfl ?_
      exact Keeps.refl _ _
    · refine Keeps.step (freezeCfg_keeps ..) rfl ?_
      exact Keeps.refl _ _
  · refine Keeps.ite ?_ ?_
    · refine Keeps.step (raise_keeps ..) rfl ?_
      refine Keeps.step (Keeps.put_ecl ..) rfl ?_
      exact Keeps.refl _ _
    · refine Keeps.step (State.inc_keeps 84 (group_ecl rfl) ..) rfl ?_
      exact Keeps.refl _ _

theorem disarmEcl_keeps (s : State) : Keeps 521120523451844526594 s (disarmEcl s) := by
  unfold disarmEcl
  refine Keeps.ite ?_ ?_
  · refine Keeps.step (raise_keeps ..) rfl ?_
    refine Keeps.step (Keeps.put_ecl ..) rfl ?_
    exact Keeps.refl _ _
  · exact Keeps.refl _ _

theorem eclCtrl_keeps (s : State) (x1 : Nat) : Keeps 19343334234357518639825410 s (eclCtrl s x1) := by
  unfold eclCtrl
  refine Keeps.ite ?_ ?_
  · refine Keeps.step (armEcl_keeps ..) rfl ?_
    refine Keeps.ite ?_ ?_
    · refine Keeps.step (disarmEcl_keeps ..) rfl ?_
      refine Keeps.ite ?_ ?_
      · refine Keeps.step (freezeCfg_keeps ..) rfl ?_
        exact Keeps.refl _ _
      · exact Keeps.refl _ _
    · refine Keeps.ite ?_ ?_
      · refine Keeps.step (freezeCfg_keeps ..) rfl ?_
        exact Keeps.refl _ _
      · exact Keeps.refl _ _
  · refine Keeps.ite ?_ ?_
    · refine Keeps.step (disarmEcl_keeps ..) rfl ?_
      refine Keeps.ite ?_ ?_
      · refine Keeps.step (freezeCfg_keeps ..) rfl ?_
        exact Keeps.refl _ _
      · exact Keeps.refl _ _
    · refine Keeps.ite ?_ ?_
      · refine Keeps.step (freezeCfg_keeps ..) rfl ?_
        exact Keeps.refl _ _
      · exact Keeps.refl _ _

theorem effEcl_keeps (s : State) (x1 x2 : Nat) : Keeps 633825300114114699719854785026 s (effEcl s x1 x2) := by
  unfold effEcl
  refine Keeps.ite ?_ ?_
  · refine Keeps.step (eclCtrl_keeps ..) rfl ?_
    exact Keeps.refl _ _
  · refine Keeps.ite ?_ ?_
    · refine Keeps.step (cntClear_keeps ..) rfl ?_
      exact Keeps.refl _ _
    · exact Keeps.refl _ _

theorem tapJudge_keeps (s : State) : Keeps 39480654105041207130690 s (tapJudge s) := by
  unfold tapJudge
  refine Keeps.ite ?_ ?_
  · refine Keeps.step (tapEnd_keeps ..) rfl ?_
    exact Keeps.refl _ _
  · exact Keeps.refl _ _

theorem amsStart_keeps (s : State) (x1 x2 : Nat) : Keeps 1073741824 s (amsStart s x1 x2) := by
  unfold amsStart
  refine Keeps.step (setPd_keeps ..) rfl ?_
  exact Keeps.refl _ _

theorem pdSend_keeps (s : State) (x1 : Nat) (x2 : PdMsg) : Keeps 1073741824 s (pdSend s x1 x2) := by
  unfold pdSend
  refine Keeps.step (Keeps.put_usb ..) rfl ?_
  exact Keeps.refl _ _

theorem pdStartAt_keeps (s : State) (x1 x2 x3 : Nat) : Keeps 1073741824 s (pdStartAt s x1 x2 x3) := by
  unfold pdStartAt
  refine Keeps.step (setPd_keeps ..) rfl ?_
  exact Keeps.refl _ _

theorem pdStart_keeps (s : State) (x1 x2 : Nat) : Keeps 1073741824 s (pdStart s x1 x2) := by
  unfold pdStart
  refine Keeps.step (pdStartAt_keeps ..) rfl ?_
  exact Keeps.refl _ _

theorem pdRequest_keeps (s : State) : Keeps 1073741824 s (pdRequest s) := by
  unfold pdRequest
  refine Keeps.step (pdStart_keeps ..) rfl ?_
  refine Keeps.step (setPd_keeps ..) rfl ?_
  refine Keeps.step (amsStart_keeps ..) rfl ?_
  refine Keeps.step (pdSend_keeps ..) rfl ?_
  exact Keeps.refl _ _

theorem pdDriveOff_keeps (s : State) (x1 : Nat) : Keeps 76078984249367241687554 s (pdDriveOff s x1) := by
  unfold pdDriveOff
  refine Keeps.ite ?_ ?_
  · refine Keeps.step (vbusFall_keeps ..) rfl ?_
    refine Keeps.step (setPd_keeps ..) rfl ?_
    exact Keeps.refl _ _
  · refine Keeps.step (setPd_keeps ..) rfl ?_
    exact Keeps.refl _ _

theorem pdFault_keeps (s : State) (x1 x2 : Nat) : Keeps 37778931864056673337346 s (pdFault s x1 x2) := by
  unfold pdFault
  refine Keeps.step (State.setBit_keeps 75 group_pd ..) rfl ?_
  exact Keeps.refl _ _

theorem hardReset_keeps (s : State) (x1 : Nat) (x2 : Bool) : Keeps 115038517830956604291906 s (hardReset s x1 x2) := by
  unfold hardReset
  refine Keeps.ite ?_ ?_
  · refine Keeps.step (judgeBudget_keeps ..) rfl ?_
    refine Keeps.ite ?_ ?_
    · refine Keeps.ite ?_ ?_
      · refine Keeps.step (pdStart_keeps ..) rfl ?_
        refine Keeps.step (State.pdWr_keeps ..) rfl ?_
        refine Keeps.step (setPd_keeps ..) rfl ?_
        refine Keeps.step (pdDriveOff_keeps ..) rfl ?_
        refine Keeps.ite ?_ ?_
        · refine Keeps.step (tapEnd_keeps ..) rfl ?_
          refine Keeps.step (pdQuiet_keeps ..) rfl ?_
          refine Keeps.step (pdEv_keeps ..) rfl ?_
          refine Keeps.step (pdFault_keeps ..) rfl ?_
          refine Keeps.step (State.inc_keeps 75 group_pd ..) rfl ?_
          refine Keeps.ite ?_ ?_
          · refine Keeps.step (pdSend_keeps ..) rfl ?_
            exact Keeps.refl _ _
          · exact Keeps.refl _ _
        · refine Keeps.step (pdQuiet_keeps ..) rfl ?_
          refine Keeps.step (pdEv_keeps ..) rfl ?_
          refine Keeps.step (pdFault_keeps ..) rfl ?_
          refine Keeps.step (State.inc_keeps 75 group_pd ..) rfl ?_
          refine Keeps.ite ?_ ?_
          · refine Keeps.step (pdSend_keeps ..) rfl ?_
            exact Keeps.refl _ _
          · exact Keeps.refl _ _
      · refine Keeps.step (State.pdWr_keeps ..) rfl ?_
        refine Keeps.step (setPd_keeps ..) rfl ?_
        refine Keeps.step (pdDriveOff_keeps ..) rfl ?_
        refine Keeps.ite ?_ ?_
        · refine Keeps.step (tapEnd_keeps ..) rfl ?_
          refine Keeps.step (pdQuiet_keeps ..) rfl ?_
          refine Keeps.step (pdEv_keeps ..) rfl ?_
          refine Keeps.step (pdFault_keeps ..) rfl ?_
          refine Keeps.step (State.inc_keeps 75 group_pd ..) rfl ?_
          refine Keeps.ite ?_ ?_
          · refine Keeps.step (pdSend_keeps ..) rfl ?_
            exact Keeps.refl _ _
          · exact Keeps.refl _ _
        · refine Keeps.step (pdQuiet_keeps ..) rfl ?_
          refine Keeps.step (pdEv_keeps ..) rfl ?_
          refine Keeps.step (pdFault_keeps ..) rfl ?_
          refine Keeps.step (State.inc_keeps 75 group_pd ..) rfl ?_
          refine Keeps.ite ?_ ?_
          · refine Keeps.step (pdSend_keeps ..) rfl ?_
            exact Keeps.refl _ _
          · exact Keeps.refl _ _
    · refine Keeps.ite ?_ ?_
      · refine Keeps.step (pdStart_keeps ..) rfl ?_
        refine Keeps.ite ?_ ?_
        · refine Keeps.step (tapEnd_keeps ..) rfl ?_
          refine Keeps.step (pdQuiet_keeps ..) rfl ?_
          refine Keeps.step (pdEv_keeps ..) rfl ?_
          refine Keeps.step (pdFault_keeps ..) rfl ?_
          refine Keeps.step (State.inc_keeps 75 group_pd ..) rfl ?_
          refine Keeps.ite ?_ ?_
          · refine Keeps.step (pdSend_keeps ..) rfl ?_
            exact Keeps.refl _ _
          · exact Keeps.refl _ _
        · refine Keeps.step (pdQuiet_keeps ..) rfl ?_
          refine Keeps.step (pdEv_keeps ..) rfl ?_
          refine Keeps.step (pdFault_keeps ..) rfl ?_
          refine Keeps.step (State.inc_keeps 75 group_pd ..) rfl ?_
          refine Keeps.ite ?_ ?_
          · refine Keeps.step (pdSend_keeps ..) rfl ?_
            exact Keeps.refl _ _
          · exact Keeps.refl _ _
      · refine Keeps.step (pdStart_keeps ..) rfl ?_
        refine Keeps.ite ?_ ?_
        · refine Keeps.step (vbusFall_keeps ..) rfl ?_
          refine Keeps.ite ?_ ?_
          · refine Keeps.step (tapEnd_keeps ..) rfl ?_
            refine Keeps.step (pdQuiet_keeps ..) rfl ?_
            refine Keeps.step (pdEv_keeps ..) rfl ?_
            refine Keeps.step (pdFault_keeps ..) rfl ?_
            refine Keeps.step (State.inc_keeps 75 group_pd ..) rfl ?_
            refine Keeps.ite ?_ ?_
            · refine Keeps.step (pdSend_keeps ..) rfl ?_
              exact Keeps.refl _ _
            · exact Keeps.refl _ _
          · refine Keeps.step (pdQuiet_keeps ..) rfl ?_
            refine Keeps.step (pdEv_keeps ..) rfl ?_
            refine Keeps.step (pdFault_keeps ..) rfl ?_
            refine Keeps.step (State.inc_keeps 75 group_pd ..) rfl ?_
            refine Keeps.ite ?_ ?_
            · refine Keeps.step (pdSend_keeps ..) rfl ?_
              exact Keeps.refl _ _
            · exact Keeps.refl _ _
        · refine Keeps.ite ?_ ?_
          · refine Keeps.step (tapEnd_keeps ..) rfl ?_
            refine Keeps.step (pdQuiet_keeps ..) rfl ?_
            refine Keeps.step (pdEv_keeps ..) rfl ?_
            refine Keeps.step (pdFault_keeps ..) rfl ?_
            refine Keeps.step (State.inc_keeps 75 group_pd ..) rfl ?_
            refine Keeps.ite ?_ ?_
            · refine Keeps.step (pdSend_keeps ..) rfl ?_
              exact Keeps.refl _ _
            · exact Keeps.refl _ _
          · refine Keeps.step (pdQuiet_keeps ..) rfl ?_
            refine Keeps.step (pdEv_keeps ..) rfl ?_
            refine Keeps.step (pdFault_keeps ..) rfl ?_
            refine Keeps.step (State.inc_keeps 75 group_pd ..) rfl ?_
            refine Keeps.ite ?_ ?_
            · refine Keeps.step (pdSend_keeps ..) rfl ?_
              exact Keeps.refl _ _
            · exact Keeps.refl _ _
  · refine Keeps.ite ?_ ?_
    · refine Keeps.ite ?_ ?_
      · refine Keeps.step (pdStart_keeps ..) rfl ?_
        refine Keeps.step (State.pdWr_keeps ..) rfl ?_
        refine Keeps.step (setPd_keeps ..) rfl ?_
        refine Keeps.step (pdDriveOff_keeps ..) rfl ?_
        refine Keeps.ite ?_ ?_
        · refine Keeps.step (tapEnd_keeps ..) rfl ?_
          refine Keeps.step (pdQuiet_keeps ..) rfl ?_
          refine Keeps.step (pdEv_keeps ..) rfl ?_
          refine Keeps.step (pdFault_keeps ..) rfl ?_
          refine Keeps.step (State.inc_keeps 75 group_pd ..) rfl ?_
          refine Keeps.ite ?_ ?_
          · refine Keeps.step (pdSend_keeps ..) rfl ?_
            exact Keeps.refl _ _
          · exact Keeps.refl _ _
        · refine Keeps.step (pdQuiet_keeps ..) rfl ?_
          refine Keeps.step (pdEv_keeps ..) rfl ?_
          refine Keeps.step (pdFault_keeps ..) rfl ?_
          refine Keeps.step (State.inc_keeps 75 group_pd ..) rfl ?_
          refine Keeps.ite ?_ ?_
          · refine Keeps.step (pdSend_keeps ..) rfl ?_
            exact Keeps.refl _ _
          · exact Keeps.refl _ _
      · refine Keeps.step (State.pdWr_keeps ..) rfl ?_
        refine Keeps.step (setPd_keeps ..) rfl ?_
        refine Keeps.step (pdDriveOff_keeps ..) rfl ?_
        refine Keeps.ite ?_ ?_
        · refine Keeps.step (tapEnd_keeps ..) rfl ?_
          refine Keeps.step (pdQuiet_keeps ..) rfl ?_
          refine Keeps.step (pdEv_keeps ..) rfl ?_
          refine Keeps.step (pdFault_keeps ..) rfl ?_
          refine Keeps.step (State.inc_keeps 75 group_pd ..) rfl ?_
          refine Keeps.ite ?_ ?_
          · refine Keeps.step (pdSend_keeps ..) rfl ?_
            exact Keeps.refl _ _
          · exact Keeps.refl _ _
        · refine Keeps.step (pdQuiet_keeps ..) rfl ?_
          refine Keeps.step (pdEv_keeps ..) rfl ?_
          refine Keeps.step (pdFault_keeps ..) rfl ?_
          refine Keeps.step (State.inc_keeps 75 group_pd ..) rfl ?_
          refine Keeps.ite ?_ ?_
          · refine Keeps.step (pdSend_keeps ..) rfl ?_
            exact Keeps.refl _ _
          · exact Keeps.refl _ _
    · refine Keeps.ite ?_ ?_
      · refine Keeps.step (pdStart_keeps ..) rfl ?_
        refine Keeps.ite ?_ ?_
        · refine Keeps.step (tapEnd_keeps ..) rfl ?_
          refine Keeps.step (pdQuiet_keeps ..) rfl ?_
          refine Keeps.step (pdEv_keeps ..) rfl ?_
          refine Keeps.step (pdFault_keeps ..) rfl ?_
          refine Keeps.step (State.inc_keeps 75 group_pd ..) rfl ?_
          refine Keeps.ite ?_ ?_
          · refine Keeps.step (pdSend_keeps ..) rfl ?_
            exact Keeps.refl _ _
          · exact Keeps.refl _ _
        · refine Keeps.step (pdQuiet_keeps ..) rfl ?_
          refine Keeps.step (pdEv_keeps ..) rfl ?_
          refine Keeps.step (pdFault_keeps ..) rfl ?_
          refine Keeps.step (State.inc_keeps 75 group_pd ..) rfl ?_
          refine Keeps.ite ?_ ?_
          · refine Keeps.step (pdSend_keeps ..) rfl ?_
            exact Keeps.refl _ _
          · exact Keeps.refl _ _
      · refine Keeps.step (pdStart_keeps ..) rfl ?_
        refine Keeps.ite ?_ ?_
        · refine Keeps.step (vbusFall_keeps ..) rfl ?_
          refine Keeps.ite ?_ ?_
          · refine Keeps.step (tapEnd_keeps ..) rfl ?_
            refine Keeps.step (pdQuiet_keeps ..) rfl ?_
            refine Keeps.step (pdEv_keeps ..) rfl ?_
            refine Keeps.step (pdFault_keeps ..) rfl ?_
            refine Keeps.step (State.inc_keeps 75 group_pd ..) rfl ?_
            refine Keeps.ite ?_ ?_
            · refine Keeps.step (pdSend_keeps ..) rfl ?_
              exact Keeps.refl _ _
            · exact Keeps.refl _ _
          · refine Keeps.step (pdQuiet_keeps ..) rfl ?_
            refine Keeps.step (pdEv_keeps ..) rfl ?_
            refine Keeps.step (pdFault_keeps ..) rfl ?_
            refine Keeps.step (State.inc_keeps 75 group_pd ..) rfl ?_
            refine Keeps.ite ?_ ?_
            · refine Keeps.step (pdSend_keeps ..) rfl ?_
              exact Keeps.refl _ _
            · exact Keeps.refl _ _
        · refine Keeps.ite ?_ ?_
          · refine Keeps.step (tapEnd_keeps ..) rfl ?_
            refine Keeps.step (pdQuiet_keeps ..) rfl ?_
            refine Keeps.step (pdEv_keeps ..) rfl ?_
            refine Keeps.step (pdFault_keeps ..) rfl ?_
            refine Keeps.step (State.inc_keeps 75 group_pd ..) rfl ?_
            refine Keeps.ite ?_ ?_
            · refine Keeps.step (pdSend_keeps ..) rfl ?_
              exact Keeps.refl _ _
            · exact Keeps.refl _ _
          · refine Keeps.step (pdQuiet_keeps ..) rfl ?_
            refine Keeps.step (pdEv_keeps ..) rfl ?_
            refine Keeps.step (pdFault_keeps ..) rfl ?_
            refine Keeps.step (State.inc_keeps 75 group_pd ..) rfl ?_
            refine Keeps.ite ?_ ?_
            · refine Keeps.step (pdSend_keeps ..) rfl ?_
              exact Keeps.refl _ _
            · exact Keeps.refl _ _

theorem pdOpRun_keeps (s : State) (x1 x2 : Nat) : Keeps 115038517830956604291906 s (pdOpRun s x1 x2) := by
  unfold pdOpRun
  split
  · refine Keeps.step (pdStart_keeps ..) rfl ?_
    refine Keeps.step (amsStart_keeps ..) rfl ?_
    refine Keeps.step (pdSend_keeps ..) rfl ?_
    exact Keeps.refl _ _
  · refine Keeps.step (pdStart_keeps ..) rfl ?_
    refine Keeps.step (amsStart_keeps ..) rfl ?_
    refine Keeps.step (pdSend_keeps ..) rfl ?_
    exact Keeps.refl _ _
  · refine Keeps.step (hardReset_keeps ..) rfl ?_
    refine Keeps.step (pdComplete_keeps ..) rfl ?_
    exact Keeps.refl _ _
  · refine Keeps.step (pdStart_keeps ..) rfl ?_
    refine Keeps.step (amsStart_keeps ..) rfl ?_
    refine Keeps.step (pdSend_keeps ..) rfl ?_
    exact Keeps.refl _ _
  · refine Keeps.step (pdRequest_keeps ..) rfl ?_
    exact Keeps.refl _ _

theorem pdCmd_keeps (s : State) (x1 x2 : Nat) : Keeps 115038517830956604291906 s (pdCmd s x1 x2) := by
  unfold pdCmd
  refine Keeps.ite ?_ ?_
  · exact Keeps.refl _ _
  · refine Keeps.ite ?_ ?_
    · refine Keeps.step (State.pdWr_keeps ..) rfl ?_
      exact Keeps.refl _ _
    · refine Keeps.ite ?_ ?_
      · refine Keeps.step (pdComplete_keeps ..) rfl ?_
        refine Keeps.step (setPd_keeps ..) rfl ?_
        exact Keeps.refl _ _
      · refine Keeps.ite ?_ ?_
        · refine Keeps.step (pdOpRun_keeps ..) rfl ?_
          refine Keeps.step (State.pdWr_keeps ..) rfl ?_
          refine Keeps.step (setPd_keeps ..) rfl ?_
          exact Keeps.refl _ _
        · refine Keeps.step (setPd_keeps ..) rfl ?_
          refine Keeps.step (State.pdWr_keeps ..) rfl ?_
          refine Keeps.step (setPd_keeps ..) rfl ?_
          exact Keeps.refl _ _

end Sys2Proof.Machine
end

