-- ==== Sys2Proof/Laws/KeepsB.lean ====
section
/-!
SUPPORT. What each operation can change, part 2 of 6: one lemma per operation and per meaning, callees first.
-/

namespace Sys2Proof.Machine

theorem effPd_keeps (s : State) (x1 x2 x3 : Nat) : Keeps 115038517830956604291906 s (effPd s x1 x2 x3) := by
  unfold effPd
  refine Keeps.ite ?_ ?_
  · refine Keeps.ite ?_ ?_
    · refine Keeps.step (supplyJudge_keeps ..) rfl ?_
      exact Keeps.refl _ _
    · refine Keeps.step (tapJudge_keeps ..) rfl ?_
      exact Keeps.refl _ _
  · refine Keeps.ite ?_ ?_
    · refine Keeps.step (pdCmd_keeps ..) rfl ?_
      exact Keeps.refl _ _
    · exact Keeps.refl _ _

theorem consumeMsg_keeps (s : State) (x1 x2 : Nat) : Keeps 521193425470812742146 s (consumeMsg s x1 x2) := by
  unfold consumeMsg
  refine Keeps.ite ?_ ?_
  · refine Keeps.step (ackAdvance_keeps ..) rfl ?_
    refine Keeps.step (State.wri_keeps 56 group_sesrx ..) rfl ?_
    exact Keeps.refl _ _
  · exact Keeps.refl _ _

theorem qResultCell_keeps (s : State) (x1 : Nat) (x2 : QItem) (x3 : Nat) : Keeps 18015498021109762 s (qResultCell s x1 x2 x3) := by
  unfold qResultCell
  refine Keeps.step (State.wr_keeps 54 group_queue ..) rfl ?_
  refine Keeps.step (State.wr_keeps 54 group_queue ..) rfl ?_
  refine Keeps.step (State.wr_keeps 54 group_queue ..) rfl ?_
  refine Keeps.step (State.wr_keeps 54 group_queue ..) rfl ?_
  refine Keeps.step (State.wr_keeps 54 group_queue ..) rfl ?_
  refine Keeps.step (State.wr_keeps 54 group_queue ..) rfl ?_
  refine Keeps.step (State.wr_keeps 54 group_queue ..) rfl ?_
  refine Keeps.step (State.wr_keeps 54 group_queue ..) rfl ?_
  refine Keeps.step (State.wr_keeps 54 group_queue ..) rfl ?_
  refine Keeps.step (State.wr_keeps 54 group_queue ..) rfl ?_
  refine Keeps.step (State.wr_keeps 54 group_queue ..) rfl ?_
  refine Keeps.step (State.wr_keeps 54 group_queue ..) rfl ?_
  exact Keeps.refl _ _

theorem qResult_keeps (s : State) (x1 x2 x3 : Nat) : Keeps 18015498021109762 s (qResult s x1 x2 x3) := by
  unfold qResult
  refine Keeps.step (State.wr_keeps 54 group_queue ..) rfl ?_
  refine Keeps.step (State.wr_keeps 54 group_queue ..) rfl ?_
  refine Keeps.step (State.zero_keeps 54 (fun _ _ => group_queue) ..) rfl ?_
  exact Keeps.refl _ _

theorem qPeek_keeps (s : State) (x1 : Nat) : Keeps 18015498021109762 s (qPeek s x1) := by
  unfold qPeek
  split
  · refine Keeps.step (qResult_keeps ..) rfl ?_
    exact Keeps.refl _ _
  · refine Keeps.step (qResultCell_keeps ..) rfl ?_
    exact Keeps.refl _ _

theorem qFlush_keeps (s : State) (x1 : Nat) : Keeps 521139100800307577346 s (qFlush s x1).2 := by
  unfold qFlush
  refine Keeps.step (qResult_keeps ..) rfl ?_
  refine Keeps.step (setQueueSt_keeps ..) rfl ?_
  exact Keeps.refl _ _

theorem qMark_keeps (s : State) (x1 : Nat) : Keeps 521139100800307577346 s (qMark s x1) := by
  unfold qMark
  refine Keeps.step (qResult_keeps ..) rfl ?_
  refine Keeps.step (setQueueSt_keeps ..) rfl ?_
  exact Keeps.refl _ _

theorem qPop_keeps (s : State) (x1 : Nat) : Keeps 521139100800307577346 s (qPop s x1).2 := by
  unfold qPop
  dsimp only
  split
  · refine Keeps.step (qResult_keeps ..) rfl ?_
    refine Keeps.step (setQueueSt_keeps ..) rfl ?_
    exact Keeps.refl _ _
  · refine Keeps.step (qResultCell_keeps ..) rfl ?_
    refine Keeps.step (setQueueSt_keeps ..) rfl ?_
    exact Keeps.refl _ _

theorem qDropRest_keeps (s : State) (x1 : Nat) : Keeps 521139100800307577346 s (qDropRest s x1).2 := by
  unfold qDropRest
  dsimp only
  split
  · refine Keeps.step (qResult_keeps ..) rfl ?_
    refine Keeps.step (setQueueSt_keeps ..) rfl ?_
    exact Keeps.refl _ _
  · refine Keeps.step (qResult_keeps ..) rfl ?_
    refine Keeps.step (setQueueSt_keeps ..) rfl ?_
    exact Keeps.refl _ _

theorem qRewind_keeps (s : State) (x1 : Nat) : Keeps 521139100800307577346 s (qRewind s x1) := by
  unfold qRewind
  refine Keeps.ite ?_ ?_
  · refine Keeps.step (qResult_keeps ..) rfl ?_
    refine Keeps.step (setQueueSt_keeps ..) rfl ?_
    exact Keeps.refl _ _
  · split
    · refine Keeps.step (qResult_keeps ..) rfl ?_
      refine Keeps.step (setQueueSt_keeps ..) rfl ?_
      exact Keeps.refl _ _
    · refine Keeps.step (qResult_keeps ..) rfl ?_
      refine Keeps.step (setQueueSt_keeps ..) rfl ?_
      exact Keeps.refl _ _

theorem qMarkClear_keeps (s : State) (x1 : Nat) : Keeps 521139100800307577346 s (qMarkClear s x1) := by
  unfold qMarkClear
  refine Keeps.step (qResult_keeps ..) rfl ?_
  refine Keeps.step (setQueueSt_keeps ..) rfl ?_
  exact Keeps.refl _ _

theorem qDo_keeps (s : State) (x1 : Nat) (x2 : QOp) : Keeps 521139100800307577346 s (qDo s x1 x2).2 := by
  unfold qDo
  split
  · refine Keeps.step (qPop_keeps ..) rfl ?_
    exact Keeps.refl _ _
  · refine Keeps.step (qPeek_keeps ..) rfl ?_
    exact Keeps.refl _ _
  · refine Keeps.step (qDropRest_keeps ..) rfl ?_
    exact Keeps.refl _ _
  · refine Keeps.step (qMark_keeps ..) rfl ?_
    exact Keeps.refl _ _
  · refine Keeps.step (qMarkClear_keeps ..) rfl ?_
    exact Keeps.refl _ _
  · refine Keeps.step (qRewind_keeps ..) rfl ?_
    exact Keeps.refl _ _
  · refine Keeps.step (qFlush_keeps ..) rfl ?_
    exact Keeps.refl _ _
  · refine Keeps.step (qResult_keeps ..) rfl ?_
    exact Keeps.refl _ _

theorem qCommand_keeps (s : State) (x1 x2 : Nat) (x3 : QOp) : Keeps 521139100800307577346 s (qCommand s x1 x2 x3).2 := by
  unfold qCommand
  refine Keeps.ite_snd ?_ ?_
  · refine Keeps.step (qResult_keeps ..) rfl ?_
    exact Keeps.refl _ _
  · refine Keeps.ite_snd ?_ ?_
    · refine Keeps.step (State.wr_keeps 54 group_queue ..) rfl ?_
      exact Keeps.refl _ _
    · refine Keeps.ite_snd ?_ ?_
      · refine Keeps.step (qResult_keeps ..) rfl ?_
        exact Keeps.refl _ _
      · refine Keeps.step (qDo_keeps ..) rfl ?_
        exact Keeps.refl _ _

theorem queueCommand_keeps (s : State) (x1 x2 : Nat) (x3 : QOp) : Keeps 521247468666341188098 s (queueCommand s x1 x2 x3) := by
  unfold queueCommand
  refine Keeps.step (sesDone_keeps ..) rfl ?_
  refine Keeps.foldl (fun _ _ => ?_) _ _ ?_
  · refine Keeps.step (consumeMsg_keeps ..) rfl ?_
    exact Keeps.refl _ _
  · refine Keeps.step (qCommand_keeps ..) rfl ?_
    exact Keeps.refl _ _

theorem judgeOvercommit_keeps (s : State) : Keeps 521121086401797947906 s (judgeOvercommit s) := by
  unfold judgeOvercommit
  refine Keeps.step (raiseIf_keeps ..) rfl ?_
  refine Keeps.step (State.wr_keeps 49 group_pool ..) rfl ?_
  exact Keeps.refl _ _

theorem effQueue_keeps (s : State) (x1 x2 x3 x4 : Nat) : Keeps 521247468666341188098 s (effQueue s x1 x2 x3 x4) := by
  unfold effQueue
  refine Keeps.ite ?_ ?_
  · exact Keeps.refl _ _
  · refine Keeps.ite ?_ ?_
    · refine Keeps.step (judgeOvercommit_keeps ..) rfl ?_
      refine Keeps.step (sharedMin_keeps ..) rfl ?_
      exact Keeps.refl _ _
    · refine Keeps.ite ?_ ?_
      · refine Keeps.step (queueCommand_keeps ..) rfl ?_
        exact Keeps.refl _ _
      · exact Keeps.refl _ _

theorem setBrOn_keeps (s : State) (x1 : Nat) (x2 : Bool) : Keeps 18889465932578092482562 s (setBrOn s x1 x2) := by
  unfold setBrOn
  refine Keeps.step (State.wr_keeps 74 group_branch ..) rfl ?_
  exact Keeps.refl _ _

theorem keepEnergy_keeps (s : State) (x1 : Nat) : Keeps 28334198898317382909954 s (keepEnergy s x1) := by
  unfold keepEnergy
  refine Keeps.ite ?_ ?_
  · refine Keeps.step (State.ctlWr_keeps ..) rfl ?_
    exact Keeps.refl _ _
  · exact Keeps.refl _ _

theorem setPg_keeps (s : State) (x1 : Nat) (x2 : Bool) : Keeps 28855319420669715808770 s (setPg s x1 x2) := by
  unfold setPg
  refine Keeps.ite ?_ ?_
  · exact Keeps.refl _ _
  · refine Keeps.step (ctlEv_keeps ..) rfl ?_
    refine Keeps.step (State.ctlWr_keeps ..) rfl ?_
    exact Keeps.refl _ _

theorem brGateOff_keeps (s : State) (x1 x2 : Nat) : Keeps 28855319420670252679682 s (brGateOff s x1 x2) := by
  unfold brGateOff
  refine Keeps.step (setPg_keeps ..) rfl ?_
  refine Keeps.step (setCtlState_keeps ..) rfl ?_
  refine Keeps.step (unqueue_keeps ..) rfl ?_
  refine Keeps.ite ?_ ?_
  · refine Keeps.step (Keeps.put_power ..) rfl ?_
    refine Keeps.step (keepEnergy_keeps ..) rfl ?_
    exact Keeps.refl _ _
  · refine Keeps.step (keepEnergy_keeps ..) rfl ?_
    exact Keeps.refl _ _

theorem branchOff_keeps (s : State) (x1 : Nat) : Keeps 28855319420670252679682 s (branchOff s x1) := by
  unfold branchOff
  refine Keeps.ite ?_ ?_
  · refine Keeps.step (setBrOn_keeps ..) rfl ?_
    exact Keeps.refl _ _
  · refine Keeps.step (brGateOff_keeps ..) rfl ?_
    refine Keeps.step (setBrOn_keeps ..) rfl ?_
    exact Keeps.refl _ _

theorem branchOn_keeps (s : State) (x1 : Nat) : Keeps 2446706958649962961830658 s (branchOn s x1) := by
  unfold branchOn
  refine Keeps.ite ?_ ?_
  · exact Keeps.refl _ _
  · refine Keeps.ite ?_ ?_
    · refine Keeps.step (brEnqueue_keeps ..) rfl ?_
      refine Keeps.step (setBrOn_keeps ..) rfl ?_
      exact Keeps.refl _ _
    · refine Keeps.step (setBrOn_keeps ..) rfl ?_
      exact Keeps.refl _ _

theorem effBranch_keeps (s : State) (x1 x2 x3 : Nat) : Keeps 2446706958649962961830658 s (effBranch s x1 x2 x3) := by
  unfold effBranch
  refine Keeps.ite ?_ ?_
  · refine Keeps.ite ?_ ?_
    · refine Keeps.step (branchOff_keeps ..) rfl ?_
      refine Keeps.ite ?_ ?_
      · refine Keeps.step (latchClear_keeps ..) rfl ?_
        refine Keeps.ite ?_ ?_
        · refine Keeps.step (curveApply_keeps ..) rfl ?_
          exact Keeps.refl _ _
        · exact Keeps.refl _ _
      · refine Keeps.ite ?_ ?_
        · refine Keeps.step (curveApply_keeps ..) rfl ?_
          exact Keeps.refl _ _
        · exact Keeps.refl _ _
    · refine Keeps.ite ?_ ?_
      · refine Keeps.ite ?_ ?_
        · refine Keeps.step (latchClear_keeps ..) rfl ?_
          refine Keeps.ite ?_ ?_
          · refine Keeps.step (curveApply_keeps ..) rfl ?_
            exact Keeps.refl _ _
          · exact Keeps.refl _ _
        · refine Keeps.ite ?_ ?_
          · refine Keeps.step (curveApply_keeps ..) rfl ?_
            exact Keeps.refl _ _
          · exact Keeps.refl _ _
      · refine Keeps.step (branchOn_keeps ..) rfl ?_
        refine Keeps.ite ?_ ?_
        · refine Keeps.step (latchClear_keeps ..) rfl ?_
          refine Keeps.ite ?_ ?_
          · refine Keeps.step (curveApply_keeps ..) rfl ?_
            exact Keeps.refl _ _
          · exact Keeps.refl _ _
        · refine Keeps.ite ?_ ?_
          · refine Keeps.step (curveApply_keeps ..) rfl ?_
            exact Keeps.refl _ _
          · exact Keeps.refl _ _
  · exact Keeps.refl _ _

theorem effHost_keeps (s : State) (x1 x2 : Nat) : Keeps 2882303764886667133442 s (effHost s x1 x2) := by
  unfold effHost
  refine Keeps.ite ?_ ?_
  · refine Keeps.step (raiseIf_keeps ..) rfl ?_
    refine Keeps.step (State.orb_keeps 71 group_host ..) rfl ?_
    refine Keeps.step (State.orb_keeps 71 group_host ..) rfl ?_
    exact Keeps.refl _ _
  · refine Keeps.ite ?_ ?_
    · refine Keeps.step (State.wr_keeps 71 group_host ..) rfl ?_
      refine Keeps.step (State.wr_keeps 71 group_host ..) rfl ?_
      exact Keeps.refl _ _
    · exact Keeps.refl _ _

theorem setEth_keeps (s : State) (x1 : Nat) (x2 : EthSt) : Keeps 67108864 s (setEth s x1 x2) := by
  unfold setEth
  refine Keeps.step (Keeps.put_eths ..) rfl ?_
  exact Keeps.refl _ _

theorem asOffHi_keeps (s : State) (x1 x2 : Nat) : Keeps 1180591621816990040066 s (asOffHi s x1 x2) := by
  unfold asOffHi
  refine Keeps.step (setEth_keeps ..) rfl ?_
  refine Keeps.step (State.wr_keeps 70 group_eth ..) rfl ?_
  refine Keeps.step (State.wr_keeps 70 group_eth ..) rfl ?_
  exact Keeps.refl _ _

theorem txStat_keeps (s : State) (x1 x2 x3 : Nat) : Keeps 1180591621816922931202 s (txStat s x1 x2 x3) := by
  unfold txStat
  refine Keeps.step (State.wr_keeps 70 group_eth ..) rfl ?_
  refine Keeps.step (State.wr_keeps 70 group_eth ..) rfl ?_
  exact Keeps.refl _ _

theorem admitEth_keeps (s : State) (x1 x2 : Nat) (x3 : Frame) (x4 x5 : Nat) (x6 x7 : Bool) (x8 : Nat) :
    Keeps 521121367876774674946 s (admitEth s x1 x2 x3 x4 x5 x6 x7 x8).2 := by
  unfold admitEth
  refine Keeps.ite_snd ?_ ?_
  · refine Keeps.step (enqueue_keeps ..) rfl ?_
    exact Keeps.refl _ _
  · refine Keeps.step (noteRefusal_keeps ..) rfl ?_
    exact Keeps.refl _ _

theorem ethSend_keeps (s : State) (x1 x2 : Nat) (x3 : Bool) (x4 : Nat) :
    Keeps 1701712988594253087490 s (ethSend s x1 x2 x3 x4) := by
  unfold ethSend
  refine Keeps.ite ?_ ?_
  · refine Keeps.step (txStat_keeps ..) rfl ?_
    exact Keeps.refl _ _
  · refine Keeps.ite ?_ ?_
    · refine Keeps.step (txStat_keeps ..) rfl ?_
      exact Keeps.refl _ _
    · refine Keeps.ite ?_ ?_
      · refine Keeps.step (txStat_keeps ..) rfl ?_
        exact Keeps.refl _ _
      · refine Keeps.ite ?_ ?_
        · refine Keeps.step (txStat_keeps ..) rfl ?_
          exact Keeps.refl _ _
        · refine Keeps.ite ?_ ?_
          · refine Keeps.step (txStat_keeps ..) rfl ?_
            refine Keeps.step (noteRefusal_keeps ..) rfl ?_
            exact Keeps.refl _ _
          · refine Keeps.when (fun _ => ?_) ?_
            · refine Keeps.step (setEth_keeps ..) rfl ?_
              exact Keeps.refl _ _
            · refine Keeps.step (txStat_keeps ..) rfl ?_
              refine Keeps.step (State.draw_keeps ..) rfl ?_
              refine Keeps.step (admitEth_keeps ..) rfl ?_
              refine Keeps.step (Keeps.put_sw ..) rfl ?_
              exact Keeps.refl _ _

theorem effEth_keeps (s : State) (x1 x2 x3 x4 : Nat) : Keeps 1701712988594253087490 s (effEth s x1 x2 x3 x4) := by
  unfold effEth
  refine Keeps.ite ?_ ?_
  · refine Keeps.step (asOffHi_keeps ..) rfl ?_
    exact Keeps.refl _ _
  · refine Keeps.ite ?_ ?_
    · refine Keeps.step (ethSend_keeps ..) rfl ?_
      exact Keeps.refl _ _
    · exact Keeps.refl _ _

theorem pubCount_keeps (s : State) (x1 : Fld) (x2 : Nat) : Keeps 521121649351751369218 s (pubCount s x1 x2) := by
  unfold pubCount
  refine Keeps.step (raise_keeps ..) rfl ?_
  refine Keeps.when (fun _ => ?_) ?_
  · refine Keeps.step (State.inc_keeps 50 group_pub ..) rfl ?_
    exact Keeps.refl _ _
  · exact Keeps.refl _ _

theorem setReady_keeps (s : State) (x1 : Nat) : Keeps 1126999418470402 s (setReady s x1) := by
  unfold setReady
  refine Keeps.step (State.wr64_keeps 50 group_pub group_pub ..) rfl ?_
  exact Keeps.refl _ _

theorem readyWrite_keeps (s : State) (x1 : Nat) : Keeps 521121649351751401986 s (readyWrite s x1) := by
  unfold readyWrite
  refine Keeps.foldl (fun _ _ => ?_) _ _ ?_
  · refine Keeps.ite ?_ ?_
    · refine Keeps.ite ?_ ?_
      · refine Keeps.step (pubCount_keeps ..) rfl ?_
        refine Keeps.step (Keeps.put_pub ..) rfl ?_
        refine Keeps.step (setReady_keeps ..) rfl ?_
        exact Keeps.refl _ _
      · refine Keeps.step (setReady_keeps ..) rfl ?_
        exact Keeps.refl _ _
    · exact Keeps.refl _ _
  · exact Keeps.refl _ _

theorem chFaultEnd_keeps (s : State) (x1 x2 : Nat) : Keeps 4611687117939015682 s (chFaultEnd s x1 x2) := by
  unfold chFaultEnd
  refine Keeps.step (State.chWr_keeps ..) rfl ?_
  exact Keeps.refl _ _

theorem chTripClear_keeps (s : State) (x1 : Nat) : Keeps 4611687117939015682 s (chTripClear s x1) := by
  unfold chTripClear
  refine Keeps.step (State.chWr_keeps ..) rfl ?_
  refine Keeps.step (chFaultEnd_keeps ..) rfl ?_
  exact Keeps.refl _ _

theorem edgesDropAt_keeps (s : State) (x1 x2 : Nat) : Keeps 522273444956451373826 s (edgesDropAt s x1 x2) := by
  unfold edgesDropAt
  refine Keeps.foldl (fun _ _ => ?_) _ _ ?_
  · split
    · refine Keeps.step (edgeEnd_keeps ..) rfl ?_
      exact Keeps.refl _ _
    · exact Keeps.refl _ _
  · exact Keeps.refl _ _

theorem chModeWrite_keeps (s : State) (x1 x2 : Nat) : Keeps 522273444956451373826 s (chModeWrite s x1 x2) := by
  unfold chModeWrite
  refine Keeps.ite ?_ ?_
  · refine Keeps.step (State.chWr_keeps ..) rfl ?_
    exact Keeps.refl _ _
  · refine Keeps.ite ?_ ?_
    · refine Keeps.step (edgesDropAt_keeps ..) rfl ?_
      refine Keeps.step (State.setChan_keeps ..) rfl ?_
      refine Keeps.step (State.chWr_keeps ..) rfl ?_
      refine Keeps.step (State.chWr_keeps ..) rfl ?_
      exact Keeps.refl _ _
    · refine Keeps.step (State.setChan_keeps ..) rfl ?_
      refine Keeps.step (State.chWr_keeps ..) rfl ?_
      refine Keeps.step (State.chWr_keeps ..) rfl ?_
      exact Keeps.refl _ _

theorem wurqStart_keeps (s : State) (x1 : Nat) : Keeps 4611687117943209986 s (wurqStart s x1) := by
  unfold wurqStart
  refine Keeps.ite ?_ ?_
  · refine Keeps.step (State.chWr_keeps ..) rfl ?_
    refine Keeps.step (State.setChan_keeps ..) rfl ?_
    exact Keeps.refl _ _
  · exact Keeps.refl _ _

theorem chRelease_keeps (s : State) (x1 : Nat) : Keeps 4611687117943209986 s (chRelease s x1) := by
  unfold chRelease
  refine Keeps.step (State.chWr_keeps ..) rfl ?_
  refine Keeps.step (State.setChan_keeps ..) rfl ?_
  exact Keeps.refl _ _

theorem safeTrigger_keeps (s : State) (x1 : List Nat) (x2 : Nat) (x3 x4 : Bool) :
    Keeps 522273444956451373826 s (safeTrigger s x1 x2 x3 x4) := by
  unfold safeTrigger
  refine Keeps.ite ?_ ?_
  · refine Keeps.step (safeEnter_keeps raise_keeps ..) rfl ?_
    exact Keeps.refl _ _
  · refine Keeps.foldl (fun _ _ => ?_) _ _ ?_
    · refine Keeps.step (edgesDropAt_keeps ..) rfl ?_
      exact Keeps.refl _ _
    · refine Keeps.step (safeEnter_keeps raise_keeps ..) rfl ?_
      exact Keeps.refl _ _

theorem effField_keeps (s : State) (x1 x2 x3 : Nat) : Keeps 522273444956451373826 s (effField s x1 x2 x3) := by
  unfold effField
  refine Keeps.ite ?_ ?_
  · exact Keeps.refl _ _
  · refine Keeps.ite ?_ ?_
    · refine Keeps.step (chModeWrite_keeps ..) rfl ?_
      exact Keeps.refl _ _
    · refine Keeps.ite ?_ ?_
      · refine Keeps.ite ?_ ?_
        · refine Keeps.step (wurqStart_keeps ..) rfl ?_
          refine Keeps.ite ?_ ?_
          · refine Keeps.step (safeTrigger_keeps ..) rfl ?_
            refine Keeps.ite ?_ ?_
            · refine Keeps.step (chRelease_keeps ..) rfl ?_
              exact Keeps.refl _ _
            · exact Keeps.refl _ _
          · refine Keeps.ite ?_ ?_
            · refine Keeps.step (chRelease_keeps ..) rfl ?_
              exact Keeps.refl _ _
            · exact Keeps.refl _ _
        · refine Keeps.ite ?_ ?_
          · refine Keeps.step (safeTrigger_keeps ..) rfl ?_
            refine Keeps.ite ?_ ?_
            · refine Keeps.step (chRelease_keeps ..) rfl ?_
              exact Keeps.refl _ _
            · exact Keeps.refl _ _
          · refine Keeps.ite ?_ ?_
            · refine Keeps.step (chRelease_keeps ..) rfl ?_
              exact Keeps.refl _ _
            · exact Keeps.refl _ _
      · refine Keeps.ite ?_ ?_
        · refine Keeps.ite ?_ ?_
          · refine Keeps.step (chTripClear_keeps ..) rfl ?_
            exact Keeps.refl _ _
          · exact Keeps.refl _ _
        · exact Keeps.refl _ _

theorem judgeZone_keeps (s : State) (x1 : Nat) : Keeps 521696984204147950082 s (judgeZone s x1) := by
  unfold judgeZone
  refine Keeps.step (raiseIf_keeps ..) rfl ?_
  refine Keeps.step (State.wr_keeps 59 group_zones ..) rfl ?_
  exact Keeps.refl _ _

theorem judgeZones_keeps (s : State) : Keeps 521696984204147950082 s (judgeZones s) := by
  unfold judgeZones
  refine Keeps.each (fun _ _ => ?_) ?_
  · refine Keeps.step (judgeZone_keeps ..) rfl ?_
    exact Keeps.refl _ _
  · exact Keeps.refl _ _

theorem setTrk_keeps (s : State) (x1 : Nat) (x2 : TrackSt) : Keeps 262144 s (setTrk s x1 x2) := by
  unfold setTrk
  refine Keeps.step (Keeps.put_tracks ..) rfl ?_
  exact Keeps.refl _ _

theorem trkReclaim_keeps (s : State) (x1 : Nat) : Keeps 262144 s (trkReclaim s x1) := by
  unfold trkReclaim
  refine Keeps.ite ?_ ?_
  · refine Keeps.step (setTrk_keeps ..) rfl ?_
    exact Keeps.refl _ _
  · exact Keeps.refl _ _

theorem edgesReconfigured_keeps (s : State) (x1 : Nat) : Keeps 522273444956451373826 s (edgesReconfigured s x1) := by
  unfold edgesReconfigured
  refine Keeps.foldl (fun _ _ => ?_) _ _ ?_
  · refine Keeps.step (edgeEnd_keeps ..) rfl ?_
    exact Keeps.refl _ _
  · exact Keeps.refl _ _

theorem trkStatus_keeps (s : State) (x1 : Nat) : Keeps 521120523451844526594 s (trkStatus s x1) := by
  unfold trkStatus
  refine Keeps.step (raise_keeps ..) rfl ?_
  exact Keeps.refl _ _

theorem State.tkWr_keeps (s : State) (x1 : Fld) (x2 x3 : Nat) : Keeps 144116287587483650 s (State.tkWr s x1 x2 x3) := by
  unfold State.tkWr
  refine Keeps.step (State.wr_keeps 57 group_track ..) rfl ?_
  exact Keeps.refl _ _

theorem setTrkState_keeps (s : State) (x1 x2 : Nat) : Keeps 521264638639920382466 s (setTrkState s x1 x2) := by
  unfold setTrkState
  refine Keeps.ite ?_ ?_
  · exact Keeps.refl _ _
  · refine Keeps.step (trkStatus_keeps ..) rfl ?_
    refine Keeps.ite ?_ ?_
    · refine Keeps.step (State.inc_keeps 57 group_track ..) rfl ?_
      refine Keeps.step (State.tkWr_keeps ..) rfl ?_
      exact Keeps.refl _ _
    · refine Keeps.step (State.tkWr_keeps ..) rfl ?_
      exact Keeps.refl _ _

theorem becomeStandby_keeps (s : State) (x1 : Nat) : Keeps 144116287587745794 s (becomeStandby s x1) := by
  unfold becomeStandby
  refine Keeps.ite ?_ ?_
  · refine Keeps.step (State.tkWr_keeps ..) rfl ?_
    refine Keeps.step (State.tkWr_keeps ..) rfl ?_
    refine Keeps.step (setTrk_keeps ..) rfl ?_
    refine Keeps.step (setTrk_keeps ..) rfl ?_
    exact Keeps.refl _ _
  · refine Keeps.step (State.tkWr_keeps ..) rfl ?_
    refine Keeps.step (setTrk_keeps ..) rfl ?_
    exact Keeps.refl _ _

theorem trkConfigured_keeps (s : State) (x1 : Nat) (x2 : Bool) : Keeps 521264638639920644610 s (trkConfigured s x1 x2) := by
  unfold trkConfigured
  refine Keeps.ite ?_ ?_
  · refine Keeps.ite ?_ ?_
    · refine Keeps.step (becomeStandby_keeps ..) rfl ?_
      refine Keeps.step (setTrkState_keeps ..) rfl ?_
      refine Keeps.step (State.tkWr_keeps ..) rfl ?_
      refine Keeps.step (State.tkWr_keeps ..) rfl ?_
      refine Keeps.step (setTrk_keeps ..) rfl ?_
      exact Keeps.refl _ _
    · refine Keeps.step (State.tkWr_keeps ..) rfl ?_
      refine Keeps.step (setTrkState_keeps ..) rfl ?_
      refine Keeps.step (State.tkWr_keeps ..) rfl ?_
      refine Keeps.step (State.tkWr_keeps ..) rfl ?_
      refine Keeps.step (setTrk_keeps ..) rfl ?_
      exact Keeps.refl _ _
  · refine Keeps.step (State.tkWr_keeps ..) rfl ?_
    refine Keeps.step (State.tkWr_keeps ..) rfl ?_
    refine Keeps.step (setTrk_keeps ..) rfl ?_
    exact Keeps.refl _ _

theorem trkEval_keeps (s : State) (x1 : Nat) : Keeps 144116287587483650 s (trkEval s x1) := by
  unfold trkEval
  refine Keeps.step (State.tkWr_keeps ..) rfl ?_
  refine Keeps.step (State.tkWr_keeps ..) rfl ?_
  refine Keeps.step (State.wr64_keeps 57 group_track group_track ..) rfl ?_
  exact Keeps.refl _ _

theorem effTrack_keeps (s : State) (x1 x2 x3 : Nat) : Keeps 633825300114114699719855047426 s (effTrack s x1 x2 x3) := by
  unfold effTrack
  refine Keeps.ite ?_ ?_
  · refine Keeps.step (judgeZones_keeps ..) rfl ?_
    refine Keeps.step (edgesReconfigured_keeps ..) rfl ?_
    refine Keeps.step (trkConfigured_keeps ..) rfl ?_
    exact Keeps.refl _ _
  · refine Keeps.ite ?_ ?_
    · refine Keeps.ite ?_ ?_
      · refine Keeps.step (trkReclaim_keeps ..) rfl ?_
        exact Keeps.refl _ _
      · exact Keeps.refl _ _
    · refine Keeps.ite ?_ ?_
      · refine Keeps.step (trkEval_keeps ..) rfl ?_
        exact Keeps.refl _ _
      · refine Keeps.ite ?_ ?_
        · refine Keeps.step (cntClear_keeps ..) rfl ?_
          exact Keeps.refl _ _
        · exact Keeps.refl _ _

theorem rsesDisable_keeps (s : State) (x1 : Nat) : Keeps 90073092059168770 s (rsesDisable s x1) := by
  unfold rsesDisable
  refine Keeps.step (qUnbind_keeps ..) rfl ?_
  refine Keeps.step (setRx_keeps ..) rfl ?_
  refine Keeps.step (State.wri_keeps 56 group_sesrx ..) rfl ?_
  refine Keeps.step (State.wri_keeps 56 group_sesrx ..) rfl ?_
  exact Keeps.refl _ _

theorem rsesEnable_keeps (s : State) (x1 : Nat) : Keeps 90073100649103362 s (rsesEnable s x1) := by
  unfold rsesEnable
  refine Keeps.ite ?_ ?_
  · refine Keeps.step (setRx_keeps ..) rfl ?_
    refine Keeps.step (State.wri_keeps 56 group_sesrx ..) rfl ?_
    refine Keeps.step (State.wri_keeps 56 group_sesrx ..) rfl ?_
    refine Keeps.step (State.wri_keeps 56 group_sesrx ..) rfl ?_
    refine Keeps.step (Keeps.put_ao ..) rfl ?_
    refine Keeps.step (State.wri_keeps 56 group_sesrx ..) rfl ?_
    refine Keeps.step (State.wri_keeps 56 group_sesrx ..) rfl ?_
    refine Keeps.step (State.wri_keeps 56 group_sesrx ..) rfl ?_
    refine Keeps.step (State.wri_keeps 56 group_sesrx ..) rfl ?_
    refine Keeps.step (qBind_keeps ..) rfl ?_
    exact Keeps.refl _ _
  · refine Keeps.step (setRx_keeps ..) rfl ?_
    refine Keeps.step (State.wri_keeps 56 group_sesrx ..) rfl ?_
    refine Keeps.step (State.wri_keeps 56 group_sesrx ..) rfl ?_
    refine Keeps.step (State.wri_keeps 56 group_sesrx ..) rfl ?_
    refine Keeps.step (Keeps.put_ao ..) rfl ?_
    refine Keeps.step (State.wri_keeps 56 group_sesrx ..) rfl ?_
    refine Keeps.step (State.wri_keeps 56 group_sesrx ..) rfl ?_
    refine Keeps.step (State.wri_keeps 56 group_sesrx ..) rfl ?_
    refine Keeps.step (State.wri_keeps 56 group_sesrx ..) rfl ?_
    refine Keeps.step (qBind_keeps ..) rfl ?_
    exact Keeps.refl _ _

theorem effSesRx_keeps (s : State) (x1 x2 : Nat) : Keeps 90073100649103362 s (effSesRx s x1 x2) := by
  unfold effSesRx
  refine Keeps.ite ?_ ?_
  · refine Keeps.ite ?_ ?_
    · exact Keeps.refl _ _
    · refine Keeps.ite ?_ ?_
      · refine Keeps.step (rsesEnable_keeps ..) rfl ?_
        exact Keeps.refl _ _
      · refine Keeps.step (rsesDisable_keeps ..) rfl ?_
        exact Keeps.refl _ _
  · exact Keeps.refl _ _

theorem flashResult_keeps (s : State) (x1 : Nat) : Keeps 5243487006321489740290 s (flashResult s x1) := by
  unfold flashResult
  refine Keeps.step (raise_keeps ..) rfl ?_
  refine Keeps.step (State.wr_keeps 72 group_flash ..) rfl ?_
  exact Keeps.refl _ _

theorem flashCmd_keeps (s : State) (x1 : Nat) : Keeps 5243487006321758175746 s (flashCmd s x1) := by
  unfold flashCmd
  refine Keeps.ite ?_ ?_
  · refine Keeps.step (flashResult_keeps ..) rfl ?_
    exact Keeps.refl _ _
  · refine Keeps.ite ?_ ?_
    · refine Keeps.step (flashResult_keeps ..) rfl ?_
      exact Keeps.refl _ _
    · refine Keeps.ite ?_ ?_
      · refine Keeps.step (flashResult_keeps ..) rfl ?_
        exact Keeps.refl _ _
      · refine Keeps.step (Keeps.put_ports ..) rfl ?_
        refine Keeps.step (State.wr_keeps 72 group_flash ..) rfl ?_
        refine Keeps.step (State.wr_keeps 72 group_flash ..) rfl ?_
        exact Keeps.refl _ _

theorem State.setEng_keeps (s : State) (x1 : Nat) (x2 : PioSt) : Keeps 295147906278881230850 s (State.setEng s x1 x2) := by
  unfold State.setEng
  refine Keeps.step (State.wr_keeps 68 group_pio ..) rfl ?_
  refine Keeps.step (State.wr_keeps 68 group_pio ..) rfl ?_
  refine Keeps.step (State.wr_keeps 68 group_pio ..) rfl ?_
  refine Keeps.step (Keeps.put_pio ..) rfl ?_
  exact Keeps.refl _ _

theorem pioEv_keeps (s : State) (x1 : Nat) : Keeps 521120523451844526594 s (pioEv s x1) := by
  unfold pioEv
  refine Keeps.step (raise_keeps ..) rfl ?_
  exact Keeps.refl _ _

theorem pioOutqW_keeps (s : State) (x1 x2 : Nat) : Keeps 521120523451861303810 s (pioOutqW s x1 x2) := by
  unfold pioOutqW
  refine Keeps.ite ?_ ?_
  · refine Keeps.step (State.setEng_keeps ..) rfl ?_
    exact Keeps.refl _ _
  · refine Keeps.step (pioEv_keeps ..) rfl ?_
    refine Keeps.step (State.wr_keeps 68 group_pio ..) rfl ?_
    exact Keeps.refl _ _

theorem pioTrigger_keeps (s : State) (x1 x2 : Nat) : Keeps 521120523451844526594 s (pioTrigger s x1 x2) := by
  unfold pioTrigger
  refine Keeps.ite ?_ ?_
  · refine Keeps.step (pioEv_keeps ..) rfl ?_
    refine Keeps.step (pioTrig_keeps ..) rfl ?_
    exact Keeps.refl _ _
  · refine Keeps.step (pioTrig_keeps ..) rfl ?_
    exact Keeps.refl _ _

theorem pioForce_keeps (s : State) (x1 x2 : Nat) : Keeps 521120523451844526594 s (pioForce s x1 x2) := by
  unfold pioForce
  refine Keeps.each (fun _ _ => ?_) ?_
  · refine Keeps.ite ?_ ?_
    · refine Keeps.step (pioTrigger_keeps ..) rfl ?_
      exact Keeps.refl _ _
    · exact Keeps.refl _ _
  · exact Keeps.refl _ _

theorem pioCmd_keeps (s : State) (x1 x2 : Nat) : Keeps 295147906278881230850 s (pioCmd s x1 x2) := by
  unfold pioCmd
  refine Keeps.ite ?_ ?_
  · refine Keeps.ite ?_ ?_
    · refine Keeps.step (State.setEng_keeps ..) rfl ?_
      exact Keeps.refl _ _
    · refine Keeps.ite ?_ ?_
      · refine Keeps.step (State.setEng_keeps ..) rfl ?_
        exact Keeps.refl _ _
      · exact Keeps.refl _ _
  · exact Keeps.refl _ _

theorem effPio_keeps (s : State) (x1 x2 x3 : Nat) : Keeps 521120523451861303810 s (effPio s x1 x2 x3) := by
  unfold effPio
  refine Keeps.ite ?_ ?_
  · refine Keeps.step (pioOutqW_keeps ..) rfl ?_
    exact Keeps.refl _ _
  · refine Keeps.ite ?_ ?_
    · refine Keeps.step (pioForce_keeps ..) rfl ?_
      exact Keeps.refl _ _
    · refine Keeps.ite ?_ ?_
      · refine Keeps.step (pioCmd_keeps ..) rfl ?_
        exact Keeps.refl _ _
      · exact Keeps.refl _ _

theorem setCore_keeps (s : State) (x1 : Nat) (x2 : CoreSt) : Keeps 4294967296 s (setCore s x1 x2) := by
  unfold setCore
  refine Keeps.step (Keeps.put_cores ..) rfl ?_
  exact Keeps.refl _ _

theorem wdtRestart_keeps (s : State) (x1 x2 : Nat) : Keeps 4294967296 s (wdtRestart s x1 x2) := by
  unfold wdtRestart
  refine Keeps.step (setCore_keeps ..) rfl ?_
  exact Keeps.refl _ _

theorem fwdtKick_keeps (s : State) (x1 x2 x3 : Nat) : Keeps 151115727452932453433346 s (fwdtKick s x1 x2 x3) := by
  unfold fwdtKick
  refine Keeps.ite ?_ ?_
  · refine Keeps.step (wdtRestart_keeps ..) rfl ?_
    refine Keeps.step (State.setBit_keeps 77 group_cores ..) rfl ?_
    exact Keeps.refl _ _
  · exact Keeps.refl _ _

theorem mwdtKick_keeps (s : State) (x1 x2 : Nat) : Keeps 151115727452932453433346 s (mwdtKick s x1 x2) := by
  unfold mwdtKick
  refine Keeps.ite ?_ ?_
  · refine Keeps.step (wdtRestart_keeps ..) rfl ?_
    refine Keeps.step (State.wr_keeps 77 group_cores ..) rfl ?_
    exact Keeps.refl _ _
  · exact Keeps.refl _ _

theorem mtipFollow_keeps (s : State) (x1 : Nat) : Keeps 4294967296 s (mtipFollow s x1) := by
  unfold mtipFollow
  refine Keeps.step (setCore_keeps ..) rfl ?_
  exact Keeps.refl _ _

theorem coreHold_keeps (s : State) (x1 : Nat) : Keeps 151115727452928158466050 s (coreHold s x1) := by
  unfold coreHold
  refine Keeps.step (State.setBit_keeps 77 group_cores ..) rfl ?_
  refine Keeps.step (State.setBit_keeps 77 group_cores ..) rfl ?_
  refine Keeps.step (State.setBit_keeps 77 group_cores ..) rfl ?_
  exact Keeps.refl _ _

theorem wdtFollow_keeps (s : State) (x1 : Nat) : Keeps 4294967296 s (wdtFollow s x1) := by
  unfold wdtFollow
  refine Keeps.ite ?_ ?_
  · refine Keeps.ite ?_ ?_
    · exact Keeps.refl _ _
    · refine Keeps.step (setCore_keeps ..) rfl ?_
      exact Keeps.refl _ _
  · split
    · refine Keeps.step (setCore_keeps ..) rfl ?_
      exact Keeps.refl _ _
    · refine Keeps.step (setCore_keeps ..) rfl ?_
      exact Keeps.refl _ _
    · exact Keeps.refl _ _

theorem wdtsFollow_keeps (s : State) : Keeps 4294967296 s (wdtsFollow s) := by
  unfold wdtsFollow
  refine Keeps.each (fun _ _ => ?_) ?_
  · refine Keeps.step (wdtFollow_keeps ..) rfl ?_
    exact Keeps.refl _ _
  · exact Keeps.refl _ _

theorem coreStart_keeps (s : State) (x1 x2 x3 x4 : Nat) : Keeps 151115727452932453433346 s (coreStart s x1 x2 x3 x4) := by
  unfold coreStart
  refine Keeps.step (State.setBit_keeps 77 group_cores ..) rfl ?_
  refine Keeps.step (State.setBit_keeps 77 group_cores ..) rfl ?_
  refine Keeps.step (State.setBit_keeps 77 group_cores ..) rfl ?_
  refine Keeps.step (setCore_keeps ..) rfl ?_
  exact Keeps.refl _ _

theorem coresFollow_keeps (s : State) : Keeps 151115727452932453433346 s (coresFollow s) := by
  unfold coresFollow
  refine Keeps.step (wdtsFollow_keeps ..) rfl ?_
  refine Keeps.each (fun _ _ => ?_) ?_
  · refine Keeps.ite ?_ ?_
    · refine Keeps.step (coreStart_keeps ..) rfl ?_
      exact Keeps.refl _ _
    · refine Keeps.ite ?_ ?_
      · refine Keeps.step (coreHold_keeps ..) rfl ?_
        exact Keeps.refl _ _
      · exact Keeps.refl _ _
  · exact Keeps.refl _ _

theorem hartEn_keeps (s : State) (x1 : Nat) : Keeps 151115727452932453433346 s (hartEn s x1) := by
  unfold hartEn
  refine Keeps.step (coresFollow_keeps ..) rfl ?_
  refine Keeps.step (State.wr_keeps 77 group_cores ..) rfl ?_
  exact Keeps.refl _ _

theorem effCores_keeps (s : State) (x1 x2 x3 : Nat) : Keeps 151115727452932453433346 s (effCores s x1 x2 x3) := by
  unfold effCores
  refine Keeps.ite ?_ ?_
  · refine Keeps.step (hartEn_keeps ..) rfl ?_
    exact Keeps.refl _ _
  · refine Keeps.ite ?_ ?_
    · refine Keeps.step (mtipFollow_keeps ..) rfl ?_
      exact Keeps.refl _ _
    · refine Keeps.ite ?_ ?_
      · refine Keeps.step (wdtsFollow_keeps ..) rfl ?_
        exact Keeps.refl _ _
      · refine Keeps.ite ?_ ?_
        · refine Keeps.step (fwdtKick_keeps ..) rfl ?_
          exact Keeps.refl _ _
        · refine Keeps.ite ?_ ?_
          · refine Keeps.step (mwdtKick_keeps ..) rfl ?_
            exact Keeps.refl _ _
          · exact Keeps.refl _ _

theorem actForget_keeps (s : State) : Keeps 39614081257132169930643341314 s (actForget s) := by
  unfold actForget
  refine Keeps.step (State.zero_keeps 95 (by decide) ..) rfl ?_
  refine Keeps.step (Keeps.put_mgmt ..) rfl ?_
  exact Keeps.refl _ _

theorem actRequest_keeps (s : State) (x1 x2 : Nat) : Keeps 39618917481531150799675064834 s (actRequest s x1 x2) := by
  unfold actRequest
  refine Keeps.ite ?_ ?_
  · refine Keeps.step (countRaise_keeps 82 group_upd ..) rfl ?_
    exact Keeps.refl _ _
  · refine Keeps.step (Keeps.put_mgmt ..) rfl ?_
    refine Keeps.step (actForget_keeps ..) rfl ?_
    exact Keeps.refl _ _

theorem updResult_keeps (s : State) (x1 : Nat) : Keeps 7254076038211261252502274 s (updResult s x1) := by
  unfold updResult
  refine Keeps.step (hubLog_keeps ..) rfl ?_
  refine Keeps.step (State.wr_keeps 82 group_upd ..) rfl ?_
  exact Keeps.refl _ _

theorem actGo_keeps (s : State) : Keeps 39621335333170380058024477442 s (actGo s) := by
  unfold actGo
  refine Keeps.ite ?_ ?_
  · refine Keeps.step (updResult_keeps ..) rfl ?_
    exact Keeps.refl _ _
  · refine Keeps.step (actRequest_keeps ..) rfl ?_
    exact Keeps.refl _ _

theorem actBit_keeps (s : State) (x1 : Fld) (x2 x3 : Nat) : Keeps 4835703278459616210452482 s (actBit s x1 x2 x3) := by
  unfold actBit
  refine Keeps.ite ?_ ?_
  · refine Keeps.step (State.setBit_keeps 82 group_upd ..) rfl ?_
    exact Keeps.refl _ _
  · exact Keeps.refl _ _

theorem setUpd_keeps (s : State) (x1 : Nat) : Keeps 159578208189132150572843010 s (setUpd s x1) := by
  unfold setUpd
  refine Keeps.step (State.wr_keeps 87 (.inl rfl) ..) rfl ?_
  refine Keeps.step (State.wr_keeps 82 group_upd ..) rfl ?_
  exact Keeps.refl _ _

theorem stageApply_keeps (s : State) : Keeps 39776077838081052592386867970 s (stageApply s) := by
  unfold stageApply
  refine Keeps.ite ?_ ?_
  · refine Keeps.step (updResult_keeps ..) rfl ?_
    exact Keeps.refl _ _
  · refine Keeps.ite ?_ ?_
    · refine Keeps.step (updResult_keeps ..) rfl ?_
      exact Keeps.refl _ _
    · refine Keeps.step (actForget_keeps ..) rfl ?_
      refine Keeps.step (State.wr_keeps 82 group_upd ..) rfl ?_
      refine Keeps.step (setUpd_keeps ..) rfl ?_
      exact Keeps.refl _ _

theorem unstage_keeps (s : State) (x1 : Nat) : Keeps 39776077838081052592386867970 s (unstage s x1) := by
  unfold unstage
  refine Keeps.ite ?_ ?_
  · refine Keeps.step (actForget_keeps ..) rfl ?_
    refine Keeps.step (updResult_keeps ..) rfl ?_
    refine Keeps.step (setUpd_keeps ..) rfl ?_
    exact Keeps.refl _ _
  · exact Keeps.refl _ _

theorem effUpdate_keeps (s : State) (x1 x2 x3 : Nat) : Keeps 39776077838081052592386867970 s (effUpdate s x1 x2 x3) := by
  unfold effUpdate
  refine Keeps.ite ?_ ?_
  · refine Keeps.ite ?_ ?_
    · refine Keeps.step (stageApply_keeps ..) rfl ?_
      exact Keeps.refl _ _
    · refine Keeps.ite ?_ ?_
      · refine Keeps.step (unstage_keeps ..) rfl ?_
        exact Keeps.refl _ _
      · exact Keeps.refl _ _
  · refine Keeps.ite ?_ ?_
    · refine Keeps.ite ?_ ?_
      · refine Keeps.step (actGo_keeps ..) rfl ?_
        exact Keeps.refl _ _
      · exact Keeps.refl _ _
    · refine Keeps.ite ?_ ?_
      · refine Keeps.step (actBit_keeps ..) rfl ?_
        exact Keeps.refl _ _
      · refine Keeps.ite ?_ ?_
        · refine Keeps.step (actBit_keeps ..) rfl ?_
          exact Keeps.refl _ _
        · exact Keeps.refl _ _

theorem epArm_keeps (s : State) (x1 : Nat) : Keeps 76078984249367241687554 s (epArm s x1) := by
  unfold epArm
  refine Keeps.ite ?_ ?_
  · refine Keeps.step (State.zero_keeps 76 (fun _ _ => group_usb) ..) rfl ?_
    exact Keeps.refl _ _
  · refine Keeps.ite ?_ ?_
    · refine Keeps.step (usbEv_keeps ..) rfl ?_
      refine Keeps.step (State.wr_keeps 76 group_usb ..) rfl ?_
      refine Keeps.step (State.zero_keeps 76 (fun _ _ => group_usb) ..) rfl ?_
      exact Keeps.refl _ _
    · refine Keeps.step (Keeps.put_usb ..) rfl ?_
      refine Keeps.step (State.zero_keeps 76 (fun _ _ => group_usb) ..) rfl ?_
      exact Keeps.refl _ _

theorem effUsb_keeps (s : State) (x1 x2 : Nat) : Keeps 76078984249367241687554 s (effUsb s x1 x2) := by
  unfold effUsb
  refine Keeps.ite ?_ ?_
  · refine Keeps.step (usbConnect_keeps ..) rfl ?_
    exact Keeps.refl _ _
  · refine Keeps.ite ?_ ?_
    · refine Keeps.step (epArm_keeps ..) rfl ?_
      exact Keeps.refl _ _
    · exact Keeps.refl _ _

theorem secEvent_keeps (s : State) (x1 : Nat) : Keeps 2418372759752744553677570 s (secEvent s x1) := by
  unfold secEvent
  refine Keeps.step (hubLog_keeps ..) rfl ?_
  refine Keeps.step (raise_keeps ..) rfl ?_
  exact Keeps.refl _ _

theorem newChallenge_keeps (s : State) : Keeps 9671406556918132909277442 s (newChallenge s) := by
  unfold newChallenge
  refine Keeps.each (fun _ _ => ?_) ?_
  · refine Keeps.step (State.wr_keeps 83 group_sec ..) rfl ?_
    refine Keeps.step (State.draw_keeps ..) rfl ?_
    exact Keeps.refl _ _
  · exact Keeps.refl _ _

theorem unlockFail_keeps (s : State) (x1 : Nat) (x2 : Bool) : Keeps 12089779316669777951326978 s (unlockFail s x1 x2) := by
  unfold unlockFail
  refine Keeps.step (secEvent_keeps ..) rfl ?_
  refine Keeps.step (newChallenge_keeps ..) rfl ?_
  refine Keeps.ite ?_ ?_
  · refine Keeps.step (State.inc_keeps 83 group_sec ..) rfl ?_
    refine Keeps.step (State.wr_keeps 83 group_sec ..) rfl ?_
    exact Keeps.refl _ _
  · refine Keeps.step (State.wr_keeps 83 group_sec ..) rfl ?_
    exact Keeps.refl _ _

theorem unlockGo_keeps (s : State) : Keeps 12089779316669777951326978 s (unlockGo s) := by
  unfold unlockGo
  refine Keeps.ite ?_ ?_
  · refine Keeps.step (unlockFail_keeps ..) rfl ?_
    exact Keeps.refl _ _
  · split
    · refine Keeps.step (unlockFail_keeps ..) rfl ?_
      exact Keeps.refl _ _
    · refine Keeps.ite ?_ ?_
      · refine Keeps.step (secEvent_keeps ..) rfl ?_
        refine Keeps.step (newChallenge_keeps ..) rfl ?_
        refine Keeps.step (State.wr_keeps 83 group_sec ..) rfl ?_
        refine Keeps.step (State.wr_keeps 83 group_sec ..) rfl ?_
        exact Keeps.refl _ _
      · refine Keeps.step (unlockFail_keeps ..) rfl ?_
        exact Keeps.refl _ _

theorem otpResult_keeps (s : State) (x1 : Nat) : Keeps 12089779316669777951326978 s (otpResult s x1) := by
  unfold otpResult
  refine Keeps.step (secEvent_keeps ..) rfl ?_
  refine Keeps.step (State.wr_keeps 83 group_sec ..) rfl ?_
  refine Keeps.step (State.wr_keeps 83 group_sec ..) rfl ?_
  exact Keeps.refl _ _

theorem otpCmd_keeps (s : State) (x1 x2 : Nat) : Keeps 12089779316669777951326978 s (otpCmd s x1 x2) := by
  unfold otpCmd
  refine Keeps.ite ?_ ?_
  · exact Keeps.refl _ _
  · refine Keeps.ite ?_ ?_
    · refine Keeps.step (otpResult_keeps ..) rfl ?_
      exact Keeps.refl _ _
    · refine Keeps.ite ?_ ?_
      · refine Keeps.step (otpResult_keeps ..) rfl ?_
        exact Keeps.refl _ _
      · refine Keeps.step (State.wr_keeps 83 group_sec ..) rfl ?_
        refine Keeps.step (State.wr_keeps 83 group_sec ..) rfl ?_
        refine Keeps.step (Keeps.put_mgmt ..) rfl ?_
        exact Keeps.refl _ _

theorem vfyResult_keeps (s : State) (x1 x2 : Nat) : Keeps 12089779316669777951326978 s (vfyResult s x1 x2) := by
  unfold vfyResult
  refine Keeps.step (secEvent_keeps ..) rfl ?_
  refine Keeps.step (State.wr_keeps 83 group_sec ..) rfl ?_
  refine Keeps.step (State.wr_keeps 83 group_sec ..) rfl ?_
  refine Keeps.step (State.wr_keeps 83 group_sec ..) rfl ?_
  exact Keeps.refl _ _

theorem vfyCmd_keeps (s : State) (x1 x2 : Nat) : Keeps 12089779316669777951326978 s (vfyCmd s x1 x2) := by
  unfold vfyCmd
  refine Keeps.ite ?_ ?_
  · exact Keeps.refl _ _
  · refine Keeps.ite ?_ ?_
    · refine Keeps.step (vfyResult_keeps ..) rfl ?_
      exact Keeps.refl _ _
    · refine Keeps.step (State.wr_keeps 83 group_sec ..) rfl ?_
      refine Keeps.step (State.wr_keeps 83 group_sec ..) rfl ?_
      refine Keeps.step (Keeps.put_mgmt ..) rfl ?_
      exact Keeps.refl _ _

theorem effSec_keeps (s : State) (x1 x2 x3 : Nat) : Keeps 12089779316669777951326978 s (effSec s x1 x2 x3) := by
  unfold effSec
  refine Keeps.ite ?_ ?_
  · refine Keeps.ite ?_ ?_
    · refine Keeps.step (unlockGo_keeps ..) rfl ?_
      exact Keeps.refl _ _
    · exact Keeps.refl _ _
  · refine Keeps.ite ?_ ?_
    · refine Keeps.step (otpCmd_keeps ..) rfl ?_
      exact Keeps.refl _ _
    · refine Keeps.ite ?_ ?_
      · refine Keeps.step (vfyCmd_keeps ..) rfl ?_
        exact Keeps.refl _ _
      · exact Keeps.refl _ _

theorem clampSeen_keeps (s : State) : Keeps 521120541044030571010 s (clampSeen s) := by
  unfold clampSeen
  refine Keeps.step (raise_keeps ..) rfl ?_
  refine Keeps.step (State.wr_keeps 44 group_time ..) rfl ?_
  exact Keeps.refl _ _

theorem judgeRanges_keeps (s : State) (x1 : Fld → Bool) : Keeps 521120541044030571010 s (judgeRanges s x1) := by
  unfold judgeRanges
  refine Keeps.ite ?_ ?_
  · refine Keeps.step (clampSeen_keeps ..) rfl ?_
    exact Keeps.refl _ _
  · exact Keeps.refl _ _

theorem coreDone_keeps (s : State) (x1 : Nat) : Keeps 521120541044030571010 s (coreDone s x1) := by
  unfold coreDone
  refine Keeps.ite ?_ ?_
  · refine Keeps.step (countRaise_keeps 44 group_time ..) rfl ?_
    exact Keeps.refl _ _
  · refine Keeps.step (State.orb_keeps 44 group_time ..) rfl ?_
    exact Keeps.refl _ _

theorem showSlots_keeps (s : State) : Keeps 18691697672194 s (showSlots s) := by
  unfold showSlots
  refine Keeps.step (State.wr_keeps 44 group_time ..) rfl ?_
  exact Keeps.refl _ _

theorem storeCmd_keeps (s : State) (x1 : TickCmd) : Keeps 521120541044030573058 s (storeCmd s x1) := by
  unfold storeCmd
  refine Keeps.ite ?_ ?_
  · exact Keeps.refl _ _
  · refine Keeps.ite ?_ ?_
    · refine Keeps.step (State.inc_keeps 44 group_time ..) rfl ?_
      refine Keeps.step (Keeps.put_time (ht := ⟨rfl, rfl⟩) ..) rfl ?_
      exact Keeps.refl _ _
    · refine Keeps.ite ?_ ?_
      · refine Keeps.step (countRaise_keeps 44 group_time ..) rfl ?_
        refine Keeps.step (Keeps.put_time (ht := ⟨rfl, rfl⟩) ..) rfl ?_
        refine Keeps.step (Keeps.put_time (ht := ⟨rfl, rfl⟩) ..) rfl ?_
        exact Keeps.refl _ _
      · refine Keeps.step (Keeps.put_time (ht := ⟨rfl, rfl⟩) ..) rfl ?_
        refine Keeps.step (Keeps.put_time (ht := ⟨rfl, rfl⟩) ..) rfl ?_
        exact Keeps.refl _ _

theorem issueCmd_keeps (s : State) (x1 x2 x3 : Nat) : Keeps 521120541044030573058 s (issueCmd s x1 x2 x3) := by
  unfold issueCmd
  refine Keeps.ite ?_ ?_
  · refine Keeps.step (raise_keeps ..) rfl ?_
    refine Keeps.step (State.wr_keeps 44 group_time ..) rfl ?_
    refine Keeps.step (State.wr_keeps 44 group_time ..) rfl ?_
    exact Keeps.refl _ _
  · refine Keeps.ite ?_ ?_
    · refine Keeps.step (raise_keeps ..) rfl ?_
      refine Keeps.step (State.wr_keeps 44 group_time ..) rfl ?_
      refine Keeps.step (State.wr_keeps 44 group_time ..) rfl ?_
      exact Keeps.refl _ _
    · refine Keeps.ite ?_ ?_
      · refine Keeps.step (raise_keeps ..) rfl ?_
        refine Keeps.step (State.wr_keeps 44 group_time ..) rfl ?_
        refine Keeps.step (State.wr_keeps 44 group_time ..) rfl ?_
        exact Keeps.refl _ _
      · refine Keeps.ite ?_ ?_
        · refine Keeps.step (raise_keeps ..) rfl ?_
          refine Keeps.step (State.wr_keeps 44 group_time ..) rfl ?_
          refine Keeps.step (State.wr_keeps 44 group_time ..) rfl ?_
          exact Keeps.refl _ _
        · refine Keeps.ite ?_ ?_
          · refine Keeps.step (raise_keeps ..) rfl ?_
            refine Keeps.step (State.wr_keeps 44 group_time ..) rfl ?_
            refine Keeps.step (State.wr_keeps 44 group_time ..) rfl ?_
            exact Keeps.refl _ _
          · refine Keeps.ite ?_ ?_
            · refine Keeps.step (raise_keeps ..) rfl ?_
              refine Keeps.step (State.wr_keeps 44 group_time ..) rfl ?_
              refine Keeps.step (State.wr_keeps 44 group_time ..) rfl ?_
              exact Keeps.refl _ _
            · refine Keeps.step (State.wr_keeps 44 group_time ..) rfl ?_
              refine Keeps.step (State.wr_keeps 44 group_time ..) rfl ?_
              refine Keeps.step (showSlots_keeps ..) rfl ?_
              refine Keeps.step (storeCmd_keeps ..) rfl ?_
              refine Keeps.step (Keeps.put_time (ht := ⟨rfl, rfl⟩) ..) rfl ?_
              exact Keeps.refl _ _

theorem effTime_keeps (s : State) (x1 x2 x3 : Nat) : Keeps 633825300114114699719854787074 s (effTime s x1 x2 x3) := by
  unfold effTime
  refine Keeps.ite ?_ ?_
  · refine Keeps.ite ?_ ?_
    · refine Keeps.step (coreDone_keeps ..) rfl ?_
      exact Keeps.refl _ _
    · exact Keeps.refl _ _
  · refine Keeps.ite ?_ ?_
    · refine Keeps.ite ?_ ?_
      · refine Keeps.step (issueCmd_keeps ..) rfl ?_
        exact Keeps.refl _ _
      · exact Keeps.refl _ _
    · refine Keeps.ite ?_ ?_
      · refine Keeps.step (judgeRanges_keeps ..) rfl ?_
        exact Keeps.refl _ _
      · refine Keeps.ite ?_ ?_
        · refine Keeps.step (judgeRanges_keeps ..) rfl ?_
          exact Keeps.refl _ _
        · refine Keeps.ite ?_ ?_
          · refine Keeps.step (issueCmd_keeps ..) rfl ?_
            exact Keeps.refl _ _
          · refine Keeps.ite ?_ ?_
            · refine Keeps.step (cntClear_keeps ..) rfl ?_
              exact Keeps.refl _ _
            · exact Keeps.refl _ _

theorem logAppend_keeps (s : State) (x1 x2 : Nat) : Keeps 2418372759752744553677314 s (logAppend s x1 x2) := by
  unfold logAppend
  refine Keeps.step (logAdd_keeps ..) rfl ?_
  refine Keeps.step (State.inc_keeps 81 group_log ..) rfl ?_
  exact Keeps.refl _ _

theorem logExport_keeps (s : State) : Keeps 2418372759752744553677314 s (logExport s) := by
  unfold logExport
  refine Keeps.ite ?_ ?_
  · refine Keeps.step (raise_keeps ..) rfl ?_
    refine Keeps.step (State.wr_keeps 81 group_log ..) rfl ?_
    exact Keeps.refl _ _
  · refine Keeps.ite ?_ ?_
    · refine Keeps.step (raise_keeps ..) rfl ?_
      refine Keeps.step (State.wr_keeps 81 group_log ..) rfl ?_
      exact Keeps.refl _ _
    · refine Keeps.step (Keeps.put_mgmt ..) rfl ?_
      refine Keeps.step (State.wr_keeps 81 group_log ..) rfl ?_
      refine Keeps.step (State.wr_keeps 81 group_log ..) rfl ?_
      exact Keeps.refl _ _

theorem effLog_keeps (s : State) (x1 x2 x3 : Nat) : Keeps 2418372759752744553677314 s (effLog s x1 x2 x3) := by
  unfold effLog
  refine Keeps.ite ?_ ?_
  · refine Keeps.step (logAppend_keeps ..) rfl ?_
    exact Keeps.refl _ _
  · refine Keeps.ite ?_ ?_
    · refine Keeps.step (logExport_keeps ..) rfl ?_
      exact Keeps.refl _ _
    · exact Keeps.refl _ _

theorem slotRefresh_keeps (s : State) (x1 : Nat) : Keeps 521264638639920644610 s (slotRefresh s x1) := by
  unfold slotRefresh
  refine Keeps.ite ?_ ?_
  · refine Keeps.ite ?_ ?_
    · refine Keeps.ite ?_ ?_
      · refine Keeps.step (State.tkWr_keeps ..) rfl ?_
        refine Keeps.step (becomeStandby_keeps ..) rfl ?_
        refine Keeps.ite ?_ ?_
        · refine Keeps.step (setTrkState_keeps ..) rfl ?_
          refine Keeps.step (setTrk_keeps ..) rfl ?_
          exact Keeps.refl _ _
        · exact Keeps.refl _ _
      · refine Keeps.ite ?_ ?_
        · refine Keeps.step (setTrkState_keeps ..) rfl ?_
          refine Keeps.step (setTrk_keeps ..) rfl ?_
          exact Keeps.refl _ _
        · exact Keeps.refl _ _
    · refine Keeps.step (State.tkWr_keeps ..) rfl ?_
      refine Keeps.ite ?_ ?_
      · refine Keeps.step (setTrkState_keeps ..) rfl ?_
        refine Keeps.step (setTrk_keeps ..) rfl ?_
        exact Keeps.refl _ _
      · exact Keeps.refl _ _
  · refine Keeps.step (State.tkWr_keeps ..) rfl ?_
    refine Keeps.step (State.tkWr_keeps ..) rfl ?_
    refine Keeps.step (setTrk_keeps ..) rfl ?_
    refine Keeps.step (setTrkState_keeps ..) rfl ?_
    exact Keeps.refl _ _

theorem setCan_keeps (s : State) (x1 : Nat) (x2 : CanSt) : Keeps 8388608 s (setCan s x1 x2) := by
  unfold setCan
  refine Keeps.step (Keeps.put_can ..) rfl ?_
  exact Keeps.refl _ _

theorem canFresh_keeps (s : State) (x1 : Nat) : Keeps 8388608 s (canFresh s x1) := by
  unfold canFresh
  refine Keeps.step (setCan_keeps ..) rfl ?_
  exact Keeps.refl _ _

theorem judgeBreaks_keeps (s : State) (x1 : List (Nat × Nat)) : Keeps 521120593820588712450 s (judgeBreaks s x1) := by
  unfold judgeBreaks
  refine Keeps.step (raiseIf_keeps ..) rfl ?_
  refine Keeps.step (raiseIf_keeps ..) rfl ?_
  refine Keeps.step (State.wr_keeps 46 group_halo ..) rfl ?_
  refine Keeps.step (State.wr_keeps 46 group_halo ..) rfl ?_
  refine Keeps.step (Keeps.put_halo ..) rfl ?_
  exact Keeps.refl _ _

theorem sesPeerPresent_keeps (s : State) (x1 : Nat) : Keeps 36029896530722818 s (sesPeerPresent s x1) := by
  unfold sesPeerPresent
  refine Keeps.each (fun _ _ => ?_) ?_
  · refine Keeps.ite ?_ ?_
    · refine Keeps.step (setTx_keeps ..) rfl ?_
      refine Keeps.step (State.wri_keeps 55 group_sestx ..) rfl ?_
      exact Keeps.refl _ _
    · exact Keeps.refl _ _
  · exact Keeps.refl _ _

theorem inductOk_keeps (s : State) (x1 x2 : Nat) : Keeps 521427331176459813378 s (inductOk s x1 x2) := by
  unfold inductOk
  split
  · exact Keeps.refl _ _
  · refine Keeps.step (driftNote_keeps ..) rfl ?_
    refine Keeps.step (driftCount_keeps ..) rfl ?_
    refine Keeps.ite ?_ ?_
    · refine Keeps.step (State.wri_keeps 58 group_drift ..) rfl ?_
      refine Keeps.step (State.wri_keeps 58 group_drift ..) rfl ?_
      refine Keeps.step (setDslot_keeps ..) rfl ?_
      exact Keeps.refl _ _
    · refine Keeps.step (setDslot_keeps ..) rfl ?_
      exact Keeps.refl _ _

theorem mirrorSend_keeps (s : State) (x1 : Nat) : Keeps 521427612651436532226 s (mirrorSend s x1) := by
  unfold mirrorSend
  refine Keeps.ite ?_ ?_
  · exact Keeps.refl _ _
  · refine Keeps.ite ?_ ?_
    · refine Keeps.step (request_keeps ..) rfl ?_
      exact Keeps.refl _ _
    · split
      · refine Keeps.step (request_keeps ..) rfl ?_
        exact Keeps.refl _ _
      · refine Keeps.step (inductOk_keeps ..) rfl ?_
        refine Keeps.ite ?_ ?_
        · exact Keeps.refl _ _
        · refine Keeps.step (recPut_keeps ..) rfl ?_
          exact Keeps.refl _ _

theorem ownerChange_keeps (s : State) (x1 : Nat) (x2 : Rec) : Keeps 521427612651436532226 s (ownerChange s x1 x2) := by
  unfold ownerChange
  refine Keeps.step (mirrorSend_keeps ..) rfl ?_
  refine Keeps.step (recPut_keeps ..) rfl ?_
  exact Keeps.refl _ _

theorem actionNote_keeps (s : State) (x1 x2 : Nat) : Keeps 521427331176459289090 s (actionNote s x1 x2) := by
  unfold actionNote
  refine Keeps.step (driftNote_keeps ..) rfl ?_
  exact Keeps.refl _ _

theorem armAction_keeps (s : State) (x1 x2 : Nat) : Keeps 522580534156043379458 s (armAction s x1 x2) := by
  unfold armAction
  dsimp only
  split
  · refine Keeps.ite ?_ ?_
    · refine Keeps.step (armChecked_keeps ..) rfl ?_
      refine Keeps.step (recPut_keeps ..) rfl ?_
      refine Keeps.step (setDslot_keeps ..) rfl ?_
      refine Keeps.step (setEnt_keeps ..) rfl ?_
      exact Keeps.refl _ _
    · refine Keeps.step (actionNote_keeps ..) rfl ?_
      refine Keeps.step (ownerChange_keeps ..) rfl ?_
      refine Keeps.step (setDslot_keeps ..) rfl ?_
      refine Keeps.step (setEnt_keeps ..) rfl ?_
      refine Keeps.step (armChecked_keeps ..) rfl ?_
      refine Keeps.step (recPut_keeps ..) rfl ?_
      refine Keeps.step (setDslot_keeps ..) rfl ?_
      refine Keeps.step (setEnt_keeps ..) rfl ?_
      exact Keeps.refl _ _
  · refine Keeps.step (actionNote_keeps ..) rfl ?_
    refine Keeps.step (ownerChange_keeps ..) rfl ?_
    exact Keeps.refl _ _

theorem armActions_keeps (s : State) (x1 : Nat) : Keeps 522580534156043379458 s (armActions s x1) := by
  unfold armActions
  refine Keeps.foldl (fun _ _ => ?_) _ _ ?_
  · refine Keeps.ite ?_ ?_
    · refine Keeps.step (armAction_keeps ..) rfl ?_
      refine Keeps.step (crcCheck_keeps ..) rfl ?_
      exact Keeps.refl _ _
    · refine Keeps.step (crcCheck_keeps ..) rfl ?_
      exact Keeps.refl _ _
  · exact Keeps.refl _ _

theorem missActions_keeps (s : State) (x1 x2 : Nat) : Keeps 521427331176459813378 s (missActions s x1 x2).2 := by
  unfold missActions
  refine Keeps.foldl_snd (fun _ _ => ?_) _ _ ?_
  · refine Keeps.ite_snd ?_ ?_
    · refine Keeps.step (actionNote_keeps ..) rfl ?_
      refine Keeps.step (driftCount_keeps ..) rfl ?_
      refine Keeps.step (recPut_keeps ..) rfl ?_
      exact Keeps.refl _ _
    · exact Keeps.refl _ _
  · exact Keeps.refl _ _

theorem handoffFail_keeps (s : State) (x1 x2 : Nat) (x3 : Bool) : Keeps 521427612651436532226 s (handoffFail s x1 x2 x3) := by
  unfold handoffFail
  refine Keeps.step (driftNote_keeps ..) rfl ?_
  refine Keeps.ite ?_ ?_
  · refine Keeps.step (ownerChange_keeps ..) rfl ?_
    refine Keeps.step (missActions_keeps ..) rfl ?_
    refine Keeps.step (driftCount_keeps ..) rfl ?_
    refine Keeps.ite ?_ ?_
    · refine Keeps.step (recPut_keeps ..) rfl ?_
      refine Keeps.step (withdraw_keeps ..) rfl ?_
      exact Keeps.refl _ _
    · refine Keeps.step (setDslot_keeps ..) rfl ?_
      refine Keeps.step (recPut_keeps ..) rfl ?_
      refine Keeps.step (withdraw_keeps ..) rfl ?_
      exact Keeps.refl _ _
  · refine Keeps.step (missActions_keeps ..) rfl ?_
    refine Keeps.step (driftCount_keeps ..) rfl ?_
    refine Keeps.ite ?_ ?_
    · refine Keeps.step (recPut_keeps ..) rfl ?_
      refine Keeps.step (withdraw_keeps ..) rfl ?_
      exact Keeps.refl _ _
    · refine Keeps.step (setDslot_keeps ..) rfl ?_
      refine Keeps.step (recPut_keeps ..) rfl ?_
      refine Keeps.step (withdraw_keeps ..) rfl ?_
      exact Keeps.refl _ _

theorem recAbsent_keeps (s : State) (x1 x2 : Nat) : Keeps 522688620547100271362 s (recAbsent s x1 x2) := by
  unfold recAbsent
  refine Keeps.ite ?_ ?_
  · refine Keeps.step (crcCheck_keeps ..) rfl ?_
    exact Keeps.refl _ _
  · refine Keeps.ite ?_ ?_
    · refine Keeps.ite ?_ ?_
      · refine Keeps.step (markOrphan_keeps ..) rfl ?_
        refine Keeps.ite ?_ ?_
        · refine Keeps.step (recPut_keeps ..) rfl ?_
          refine Keeps.step (dropReqs_keeps ..) rfl ?_
          refine Keeps.step (dropReqs_keeps ..) rfl ?_
          refine Keeps.ite ?_ ?_
          · refine Keeps.step (handoffFail_keeps ..) rfl ?_
            refine Keeps.step (setDslot_keeps ..) rfl ?_
            refine Keeps.step (crcCheck_keeps ..) rfl ?_
            exact Keeps.refl _ _
          · refine Keeps.step (setDslot_keeps ..) rfl ?_
            refine Keeps.step (crcCheck_keeps ..) rfl ?_
            exact Keeps.refl _ _
        · refine Keeps.step (dropReqs_keeps ..) rfl ?_
          refine Keeps.step (dropReqs_keeps ..) rfl ?_
          refine Keeps.ite ?_ ?_
          · refine Keeps.step (handoffFail_keeps ..) rfl ?_
            refine Keeps.step (setDslot_keeps ..) rfl ?_
            refine Keeps.step (crcCheck_keeps ..) rfl ?_
            exact Keeps.refl _ _
          · refine Keeps.step (setDslot_keeps ..) rfl ?_
            refine Keeps.step (crcCheck_keeps ..) rfl ?_
            exact Keeps.refl _ _
      · refine Keeps.ite ?_ ?_
        · refine Keeps.step (retireProceed_keeps ..) rfl ?_
          refine Keeps.step (inductOk_keeps ..) rfl ?_
          refine Keeps.step (recPut_keeps ..) rfl ?_
          refine Keeps.ite ?_ ?_
          · refine Keeps.step (recPut_keeps ..) rfl ?_
            refine Keeps.step (dropReqs_keeps ..) rfl ?_
            refine Keeps.step (dropReqs_keeps ..) rfl ?_
            refine Keeps.ite ?_ ?_
            · refine Keeps.step (handoffFail_keeps ..) rfl ?_
              refine Keeps.step (setDslot_keeps ..) rfl ?_
              refine Keeps.step (crcCheck_keeps ..) rfl ?_
              exact Keeps.refl _ _
            · refine Keeps.step (setDslot_keeps ..) rfl ?_
              refine Keeps.step (crcCheck_keeps ..) rfl ?_
              exact Keeps.refl _ _
          · refine Keeps.step (dropReqs_keeps ..) rfl ?_
            refine Keeps.step (dropReqs_keeps ..) rfl ?_
            refine Keeps.ite ?_ ?_
            · refine Keeps.step (handoffFail_keeps ..) rfl ?_
              refine Keeps.step (setDslot_keeps ..) rfl ?_
              refine Keeps.step (crcCheck_keeps ..) rfl ?_
              exact Keeps.refl _ _
            · refine Keeps.step (setDslot_keeps ..) rfl ?_
              refine Keeps.step (crcCheck_keeps ..) rfl ?_
              exact Keeps.refl _ _
        · refine Keeps.ite ?_ ?_
          · refine Keeps.step (recPut_keeps ..) rfl ?_
            refine Keeps.step (dropReqs_keeps ..) rfl ?_
            refine Keeps.step (dropReqs_keeps ..) rfl ?_
            refine Keeps.ite ?_ ?_
            · refine Keeps.step (handoffFail_keeps ..) rfl ?_
              refine Keeps.step (setDslot_keeps ..) rfl ?_
              refine Keeps.step (crcCheck_keeps ..) rfl ?_
              exact Keeps.refl _ _
            · refine Keeps.step (setDslot_keeps ..) rfl ?_
              refine Keeps.step (crcCheck_keeps ..) rfl ?_
              exact Keeps.refl _ _
          · refine Keeps.step (dropReqs_keeps ..) rfl ?_
            refine Keeps.step (dropReqs_keeps ..) rfl ?_
            refine Keeps.ite ?_ ?_
            · refine Keeps.step (handoffFail_keeps ..) rfl ?_
              refine Keeps.step (setDslot_keeps ..) rfl ?_
              refine Keeps.step (crcCheck_keeps ..) rfl ?_
              exact Keeps.refl _ _
            · refine Keeps.step (setDslot_keeps ..) rfl ?_
              refine Keeps.step (crcCheck_keeps ..) rfl ?_
              exact Keeps.refl _ _
    · refine Keeps.ite ?_ ?_
      · refine Keeps.step (armActions_keeps ..) rfl ?_
        refine Keeps.step (mirrorSend_keeps ..) rfl ?_
        refine Keeps.step (driftNote_keeps ..) rfl ?_
        refine Keeps.step (missActions_keeps ..) rfl ?_
        refine Keeps.step (driftCount_keeps ..) rfl ?_
        refine Keeps.step (recPut_keeps ..) rfl ?_
        refine Keeps.ite ?_ ?_
        · refine Keeps.step (recPut_keeps ..) rfl ?_
          refine Keeps.step (dropReqs_keeps ..) rfl ?_
          refine Keeps.step (dropReqs_keeps ..) rfl ?_
          refine Keeps.ite ?_ ?_
          · refine Keeps.step (handoffFail_keeps ..) rfl ?_
            refine Keeps.step (setDslot_keeps ..) rfl ?_
            refine Keeps.step (crcCheck_keeps ..) rfl ?_
            exact Keeps.refl _ _
          · refine Keeps.step (setDslot_keeps ..) rfl ?_
            refine Keeps.step (crcCheck_keeps ..) rfl ?_
            exact Keeps.refl _ _
        · refine Keeps.step (dropReqs_keeps ..) rfl ?_
          refine Keeps.step (dropReqs_keeps ..) rfl ?_
          refine Keeps.ite ?_ ?_
          · refine Keeps.step (handoffFail_keeps ..) rfl ?_
            refine Keeps.step (setDslot_keeps ..) rfl ?_
            refine Keeps.step (crcCheck_keeps ..) rfl ?_
            exact Keeps.refl _ _
          · refine Keeps.step (setDslot_keeps ..) rfl ?_
            refine Keeps.step (crcCheck_keeps ..) rfl ?_
            exact Keeps.refl _ _
      · refine Keeps.ite ?_ ?_
        · refine Keeps.step (mirrorSend_keeps ..) rfl ?_
          refine Keeps.ite ?_ ?_
          · refine Keeps.step (recPut_keeps ..) rfl ?_
            refine Keeps.ite ?_ ?_
            · refine Keeps.step (recPut_keeps ..) rfl ?_
              refine Keeps.step (dropReqs_keeps ..) rfl ?_
              refine Keeps.step (dropReqs_keeps ..) rfl ?_
              refine Keeps.ite ?_ ?_
              · refine Keeps.step (handoffFail_keeps ..) rfl ?_
                refine Keeps.step (setDslot_keeps ..) rfl ?_
                refine Keeps.step (crcCheck_keeps ..) rfl ?_
                exact Keeps.refl _ _
              · refine Keeps.step (setDslot_keeps ..) rfl ?_
                refine Keeps.step (crcCheck_keeps ..) rfl ?_
                exact Keeps.refl _ _
            · refine Keeps.step (dropReqs_keeps ..) rfl ?_
              refine Keeps.step (dropReqs_keeps ..) rfl ?_
              refine Keeps.ite ?_ ?_
              · refine Keeps.step (handoffFail_keeps ..) rfl ?_
                refine Keeps.step (setDslot_keeps ..) rfl ?_
                refine Keeps.step (crcCheck_keeps ..) rfl ?_
                exact Keeps.refl _ _
              · refine Keeps.step (setDslot_keeps ..) rfl ?_
                refine Keeps.step (crcCheck_keeps ..) rfl ?_
                exact Keeps.refl _ _
          · refine Keeps.ite ?_ ?_
            · refine Keeps.step (recPut_keeps ..) rfl ?_
              refine Keeps.step (dropReqs_keeps ..) rfl ?_
              refine Keeps.step (dropReqs_keeps ..) rfl ?_
              refine Keeps.ite ?_ ?_
              · refine Keeps.step (handoffFail_keeps ..) rfl ?_
                refine Keeps.step (setDslot_keeps ..) rfl ?_
                refine Keeps.step (crcCheck_keeps ..) rfl ?_
                exact Keeps.refl _ _
              · refine Keeps.step (setDslot_keeps ..) rfl ?_
                refine Keeps.step (crcCheck_keeps ..) rfl ?_
                exact Keeps.refl _ _
            · refine Keeps.step (dropReqs_keeps ..) rfl ?_
              refine Keeps.step (dropReqs_keeps ..) rfl ?_
              refine Keeps.ite ?_ ?_
              · refine Keeps.step (handoffFail_keeps ..) rfl ?_
                refine Keeps.step (setDslot_keeps ..) rfl ?_
                refine Keeps.step (crcCheck_keeps ..) rfl ?_
                exact Keeps.refl _ _
              · refine Keeps.step (setDslot_keeps ..) rfl ?_
                refine Keeps.step (crcCheck_keeps ..) rfl ?_
                exact Keeps.refl _ _
        · refine Keeps.ite ?_ ?_
          · refine Keeps.step (recPut_keeps ..) rfl ?_
            refine Keeps.step (dropReqs_keeps ..) rfl ?_
            refine Keeps.step (dropReqs_keeps ..) rfl ?_
            refine Keeps.ite ?_ ?_
            · refine Keeps.step (handoffFail_keeps ..) rfl ?_
              refine Keeps.step (setDslot_keeps ..) rfl ?_
              refine Keeps.step (crcCheck_keeps ..) rfl ?_
              exact Keeps.refl _ _
            · refine Keeps.step (setDslot_keeps ..) rfl ?_
              refine Keeps.step (crcCheck_keeps ..) rfl ?_
              exact Keeps.refl _ _
          · refine Keeps.step (dropReqs_keeps ..) rfl ?_
            refine Keeps.step (dropReqs_keeps ..) rfl ?_
            refine Keeps.ite ?_ ?_
            · refine Keeps.step (handoffFail_keeps ..) rfl ?_
              refine Keeps.step (setDslot_keeps ..) rfl ?_
              refine Keeps.step (crcCheck_keeps ..) rfl ?_
              exact Keeps.refl _ _
            · refine Keeps.step (setDslot_keeps ..) rfl ?_
              refine Keeps.step (crcCheck_keeps ..) rfl ?_
              exact Keeps.refl _ _

theorem judgeLost_keeps (s : State) : Keeps 522688620547100271362 s (judgeLost s) := by
  unfold judgeLost
  refine Keeps.ite ?_ ?_
  · exact Keeps.refl _ _
  · refine Keeps.foldl (fun _ _ => ?_) _ _ ?_
    · refine Keeps.foldl (fun _ _ => ?_) _ _ ?_
      · refine Keeps.step (recAbsent_keeps ..) rfl ?_
        exact Keeps.refl _ _
      · exact Keeps.refl _ _
    · exact Keeps.refl _ _

theorem releaseAction_keeps (s : State) (x1 x2 : Nat) : Keeps 522273444956451898114 s (releaseAction s x1 x2) := by
  unfold releaseAction
  split
  · exact Keeps.refl _ _
  · refine Keeps.step (edgesRelease_keeps ..) rfl ?_
    refine Keeps.step (setDslot_keeps ..) rfl ?_
    refine Keeps.step (Keeps.put_edge ..) rfl ?_
    exact Keeps.refl _ _

theorem retireStart_keeps (s : State) (x1 x2 : Nat) : Keeps 522688620547100271362 s (retireStart s x1 x2) := by
  unfold retireStart
  refine Keeps.ite ?_ ?_
  · refine Keeps.step (request_keeps ..) rfl ?_
    refine Keeps.step (setDslot_keeps ..) rfl ?_
    refine Keeps.step (recPut_keeps ..) rfl ?_
    refine Keeps.foldl (fun _ _ => ?_) _ _ ?_
    · refine Keeps.ite ?_ ?_
      · refine Keeps.step (actionNote_keeps ..) rfl ?_
        refine Keeps.step (recPut_keeps ..) rfl ?_
        refine Keeps.ite ?_ ?_
        · refine Keeps.step (releaseAction_keeps ..) rfl ?_
          exact Keeps.refl _ _
        · exact Keeps.refl _ _
      · exact Keeps.refl _ _
    · refine Keeps.step (withdraw_keeps ..) rfl ?_
      exact Keeps.refl _ _
  · refine Keeps.step (retireProceed_keeps ..) rfl ?_
    refine Keeps.step (setDslot_keeps ..) rfl ?_
    refine Keeps.step (recPut_keeps ..) rfl ?_
    refine Keeps.foldl (fun _ _ => ?_) _ _ ?_
    · refine Keeps.ite ?_ ?_
      · refine Keeps.step (actionNote_keeps ..) rfl ?_
        refine Keeps.step (recPut_keeps ..) rfl ?_
        refine Keeps.ite ?_ ?_
        · refine Keeps.step (releaseAction_keeps ..) rfl ?_
          exact Keeps.refl _ _
        · exact Keeps.refl _ _
      · exact Keeps.refl _ _
    · refine Keeps.step (withdraw_keeps ..) rfl ?_
      exact Keeps.refl _ _

theorem handoffCheck_keeps (s : State) (x1 : Nat) : Keeps 523265081299403694850 s (handoffCheck s x1) := by
  unfold handoffCheck
  refine Keeps.step (raiseIf_keeps ..) rfl ?_
  refine Keeps.step (State.wr_keeps 59 group_zones ..) rfl ?_
  refine Keeps.foldl_snd2 (fun _ _ => ?_) _ _ ?_
  · refine Keeps.ite_snd2 ?_ ?_
    · refine Keeps.step (crcCheck_keeps ..) rfl ?_
      exact Keeps.refl _ _
    · refine Keeps.ite_snd2 ?_ ?_
      · refine Keeps.step (crcCheck_keeps ..) rfl ?_
        exact Keeps.refl _ _
      · split
        · refine Keeps.step (crcCheck_keeps ..) rfl ?_
          exact Keeps.refl _ _
        · refine Keeps.ite_snd2 ?_ ?_
          · refine Keeps.step (retireStart_keeps ..) rfl ?_
            refine Keeps.step (crcCheck_keeps ..) rfl ?_
            exact Keeps.refl _ _
          · refine Keeps.step (crcCheck_keeps ..) rfl ?_
            exact Keeps.refl _ _
        · refine Keeps.ite_snd2 ?_ ?_
          · refine Keeps.step (crcCheck_keeps ..) rfl ?_
            exact Keeps.refl _ _
          · refine Keeps.ite_snd2 ?_ ?_
            · refine Keeps.step (request_keeps ..) rfl ?_
              refine Keeps.step (recPut_keeps ..) rfl ?_
              refine Keeps.step (crcCheck_keeps ..) rfl ?_
              exact Keeps.refl _ _
            · refine Keeps.step (crcCheck_keeps ..) rfl ?_
              exact Keeps.refl _ _
  · exact Keeps.refl _ _

theorem checkNow_keeps (s : State) : Keeps 523265081299403694850 s (checkNow s) := by
  unfold checkNow
  refine Keeps.ite ?_ ?_
  · refine Keeps.each (fun _ _ => ?_) ?_
    · refine Keeps.ite ?_ ?_
      · refine Keeps.step (handoffCheck_keeps ..) rfl ?_
        exact Keeps.refl _ _
      · exact Keeps.refl _ _
    · exact Keeps.refl _ _
  · exact Keeps.refl _ _

theorem ownResult_keeps (s : State) (x1 x2 x3 : Nat) : Keeps 522688620547100271362 s (ownResult s x1 x2 x3) := by
  unfold ownResult
  refine Keeps.ite ?_ ?_
  · exact Keeps.refl _ _
  · refine Keeps.ite ?_ ?_
    · refine Keeps.step (retireStart_keeps ..) rfl ?_
      refine Keeps.step (actionNote_keeps ..) rfl ?_
      refine Keeps.step (ownerChange_keeps ..) rfl ?_
      exact Keeps.refl _ _
    · refine Keeps.step (actionNote_keeps ..) rfl ?_
      refine Keeps.step (ownerChange_keeps ..) rfl ?_
      exact Keeps.refl _ _

theorem actionEntryEnd_keeps (s : State) (x1 x2 : Nat) : Keeps 522273444956451898114 s (actionEntryEnd s x1 x2) := by
  unfold actionEntryEnd
  dsimp only
  split
  · refine Keeps.step (edgesRelease_keeps ..) rfl ?_
    refine Keeps.step (setDslot_keeps ..) rfl ?_
    exact Keeps.refl _ _
  · refine Keeps.step (edgesRelease_keeps ..) rfl ?_
    refine Keeps.step (Keeps.put_drift ..) rfl ?_
    exact Keeps.refl _ _
  · exact Keeps.refl _ _

theorem findItem_keeps (s : State) (x1 : Nat) : Keeps 521427331176459813378 s (findItem s x1).2 := by
  unfold findItem
  refine Keeps.foldl (fun _ _ => ?_) _ _ ?_
  · refine Keeps.step (crcCheck_keeps ..) rfl ?_
    exact Keeps.refl _ _
  · exact Keeps.refl _ _

theorem actionResult_keeps (s : State) (x1 x2 x3 : Nat) : Keeps 522688620547100271362 s (actionResult s x1 x2 x3) := by
  unfold actionResult
  dsimp only
  split
  · refine Keeps.ite ?_ ?_
    · refine Keeps.step (ownResult_keeps ..) rfl ?_
      refine Keeps.step (findItem_keeps ..) rfl ?_
      refine Keeps.step (actionEntryEnd_keeps ..) rfl ?_
      exact Keeps.refl _ _
    · refine Keeps.ite ?_ ?_
      · refine Keeps.step (findItem_keeps ..) rfl ?_
        refine Keeps.step (actionEntryEnd_keeps ..) rfl ?_
        exact Keeps.refl _ _
      · refine Keeps.step (request_keeps ..) rfl ?_
        refine Keeps.step (findItem_keeps ..) rfl ?_
        refine Keeps.step (actionEntryEnd_keeps ..) rfl ?_
        exact Keeps.refl _ _
  · refine Keeps.ite ?_ ?_
    · refine Keeps.step (findItem_keeps ..) rfl ?_
      refine Keeps.step (actionEntryEnd_keeps ..) rfl ?_
      exact Keeps.refl _ _
    · refine Keeps.step (startReq_keeps ..) rfl ?_
      refine Keeps.step (findItem_keeps ..) rfl ?_
      refine Keeps.step (actionEntryEnd_keeps ..) rfl ?_
      exact Keeps.refl _ _
  · refine Keeps.step (findItem_keeps ..) rfl ?_
    refine Keeps.step (actionEntryEnd_keeps ..) rfl ?_
    exact Keeps.refl _ _

theorem driftDrain_keeps (x0 : Nat) (s : State) : Keeps 522688620547100271362 s (driftDrain x0 s) := by
  unfold driftDrain
  split
  · exact Keeps.refl _ _
  · refine Keeps.ite ?_ ?_
    · exact Keeps.refl _ _
    · refine Keeps.step (driftDrain_keeps ..) rfl ?_
      refine Keeps.foldl (fun _ _ => ?_) _ _ ?_
      · refine Keeps.step (actionResult_keeps ..) rfl ?_
        exact Keeps.refl _ _
      · refine Keeps.step (Keeps.put_edge ..) rfl ?_
        exact Keeps.refl _ _

theorem settleEdges_keeps (s : State) : Keeps 522688620547100271362 s (settleEdges s) := by
  unfold settleEdges
  refine Keeps.step (driftDrain_keeps ..) rfl ?_
  exact Keeps.refl _ _

theorem driftAbsent_keeps (s : State) (x1 : Nat) : Keeps 523265081299403694850 s (driftAbsent s x1) := by
  unfold driftAbsent
  refine Keeps.ite ?_ ?_
  · refine Keeps.step (settleEdges_keeps ..) rfl ?_
    refine Keeps.step (checkNow_keeps ..) rfl ?_
    refine Keeps.step (judgeLost_keeps ..) rfl ?_
    refine Keeps.step (dropReqs_keeps ..) rfl ?_
    refine Keeps.foldl (fun _ _ => ?_) _ _ ?_
    · refine Keeps.step (setDslot_keeps ..) rfl ?_
      exact Keeps.refl _ _
    · exact Keeps.refl _ _
  · refine Keeps.step (dropReqs_keeps ..) rfl ?_
    refine Keeps.foldl (fun _ _ => ?_) _ _ ?_
    · refine Keeps.step (setDslot_keeps ..) rfl ?_
      exact Keeps.refl _ _
    · exact Keeps.refl _ _

theorem sesPeerAbsent_keeps (s : State) (x1 : Nat) : Keeps 521156552248863490562 s (sesPeerAbsent s x1) := by
  unfold sesPeerAbsent
  refine Keeps.each (fun _ _ => ?_) ?_
  · refine Keeps.ite ?_ ?_
    · refine Keeps.step (raise_keeps ..) rfl ?_
      refine Keeps.step (State.wri_keeps 55 group_sestx ..) rfl ?_
      exact Keeps.refl _ _
    · exact Keeps.refl _ _
  · exact Keeps.refl _ _

theorem driftPresent_keeps (s : State) (x1 : Nat) : Keeps 523265081299403694850 s (driftPresent s x1) := by
  unfold driftPresent
  refine Keeps.step (checkNow_keeps ..) rfl ?_
  refine Keeps.foldl (fun _ _ => ?_) _ _ ?_
  · refine Keeps.ite ?_ ?_
    · refine Keeps.step (setDslot_keeps ..) rfl ?_
      exact Keeps.refl _ _
    · exact Keeps.refl _ _
  · exact Keeps.refl _ _

theorem setPresent_keeps (s : State) (x1 : Nat) (x2 : Bool) : Keeps 523265151668147872514 s (setPresent s x1 x2) := by
  unfold setPresent
  refine Keeps.ite ?_ ?_
  · exact Keeps.refl _ _
  · refine Keeps.ite ?_ ?_
    · refine Keeps.ite ?_ ?_
      · refine Keeps.step (sesPeerPresent_keeps ..) rfl ?_
        refine Keeps.step (raiseIf_keeps ..) rfl ?_
        refine Keeps.step (raise_keeps ..) rfl ?_
        refine Keeps.step (State.wr_keeps 46 group_halo ..) rfl ?_
        refine Keeps.step (State.setBit_keeps 46 group_halo ..) rfl ?_
        exact Keeps.refl _ _
      · refine Keeps.step (sesPeerAbsent_keeps ..) rfl ?_
        refine Keeps.step (raiseIf_keeps ..) rfl ?_
        refine Keeps.step (raise_keeps ..) rfl ?_
        refine Keeps.step (State.wr_keeps 46 group_halo ..) rfl ?_
        refine Keeps.step (State.setBit_keeps 46 group_halo ..) rfl ?_
        exact Keeps.refl _ _
    · refine Keeps.ite ?_ ?_
      · refine Keeps.step (driftPresent_keeps ..) rfl ?_
        refine Keeps.ite ?_ ?_
        · refine Keeps.step (sesPeerPresent_keeps ..) rfl ?_
          refine Keeps.step (raiseIf_keeps ..) rfl ?_
          refine Keeps.step (raise_keeps ..) rfl ?_
          refine Keeps.step (State.wr_keeps 46 group_halo ..) rfl ?_
          refine Keeps.step (State.setBit_keeps 46 group_halo ..) rfl ?_
          exact Keeps.refl _ _
        · refine Keeps.step (sesPeerAbsent_keeps ..) rfl ?_
          refine Keeps.step (raiseIf_keeps ..) rfl ?_
          refine Keeps.step (raise_keeps ..) rfl ?_
          refine Keeps.step (State.wr_keeps 46 group_halo ..) rfl ?_
          refine Keeps.step (State.setBit_keeps 46 group_halo ..) rfl ?_
          exact Keeps.refl _ _
      · refine Keeps.step (driftAbsent_keeps ..) rfl ?_
        refine Keeps.ite ?_ ?_
        · refine Keeps.step (sesPeerPresent_keeps ..) rfl ?_
          refine Keeps.step (raiseIf_keeps ..) rfl ?_
          refine Keeps.step (raise_keeps ..) rfl ?_
          refine Keeps.step (State.wr_keeps 46 group_halo ..) rfl ?_
          refine Keeps.step (State.setBit_keeps 46 group_halo ..) rfl ?_
          exact Keeps.refl _ _
        · refine Keeps.step (sesPeerAbsent_keeps ..) rfl ?_
          refine Keeps.step (raiseIf_keeps ..) rfl ?_
          refine Keeps.step (raise_keeps ..) rfl ?_
          refine Keeps.step (State.wr_keeps 46 group_halo ..) rfl ?_
          refine Keeps.step (State.setBit_keeps 46 group_halo ..) rfl ?_
          exact Keeps.refl _ _

theorem applyChange_keeps (s : State) (x1 x2 x3 : Nat) : Keeps 523265151668147872514 s (applyChange s x1 x2 x3) := by
  unfold applyChange
  refine Keeps.ite ?_ ?_
  · refine Keeps.ite ?_ ?_
    · exact Keeps.refl _ _
    · refine Keeps.step (setPresent_keeps ..) rfl ?_
      exact Keeps.refl _ _
  · refine Keeps.ite ?_ ?_
    · refine Keeps.ite ?_ ?_
      · exact Keeps.refl _ _
      · refine Keeps.step (setPresent_keeps ..) rfl ?_
        exact Keeps.refl _ _
    · refine Keeps.ite ?_ ?_
      · refine Keeps.ite ?_ ?_
        · refine Keeps.ite ?_ ?_
          · refine Keeps.ite ?_ ?_
            · refine Keeps.ite ?_ ?_
              · refine Keeps.ite ?_ ?_
                · refine Keeps.ite ?_ ?_
                  · refine Keeps.step (State.wr_keeps 46 group_halo ..) rfl ?_
                    refine Keeps.step (State.wr_keeps 46 group_halo ..) rfl ?_
                    refine Keeps.step (State.wr_keeps 46 group_halo ..) rfl ?_
                    exact Keeps.refl _ _
                  · exact Keeps.refl _ _
                · refine Keeps.step (judgeBreaks_keeps ..) rfl ?_
                  refine Keeps.ite ?_ ?_
                  · refine Keeps.step (State.wr_keeps 46 group_halo ..) rfl ?_
                    refine Keeps.step (State.wr_keeps 46 group_halo ..) rfl ?_
                    refine Keeps.step (State.wr_keeps 46 group_halo ..) rfl ?_
                    exact Keeps.refl _ _
                  · exact Keeps.refl _ _
              · refine Keeps.step (setPresent_keeps ..) rfl ?_
                refine Keeps.ite ?_ ?_
                · refine Keeps.ite ?_ ?_
                  · refine Keeps.step (State.wr_keeps 46 group_halo ..) rfl ?_
                    refine Keeps.step (State.wr_keeps 46 group_halo ..) rfl ?_
                    refine Keeps.step (State.wr_keeps 46 group_halo ..) rfl ?_
                    exact Keeps.refl _ _
                  · exact Keeps.refl _ _
                · refine Keeps.step (judgeBreaks_keeps ..) rfl ?_
                  refine Keeps.ite ?_ ?_
                  · refine Keeps.step (State.wr_keeps 46 group_halo ..) rfl ?_
                    refine Keeps.step (State.wr_keeps 46 group_halo ..) rfl ?_
                    refine Keeps.step (State.wr_keeps 46 group_halo ..) rfl ?_
                    exact Keeps.refl _ _
                  · exact Keeps.refl _ _
            · refine Keeps.ite ?_ ?_
              · refine Keeps.ite ?_ ?_
                · refine Keeps.step (State.wr_keeps 46 group_halo ..) rfl ?_
                  refine Keeps.step (State.wr_keeps 46 group_halo ..) rfl ?_
                  refine Keeps.step (State.wr_keeps 46 group_halo ..) rfl ?_
                  exact Keeps.refl _ _
                · exact Keeps.refl _ _
              · refine Keeps.step (judgeBreaks_keeps ..) rfl ?_
                refine Keeps.ite ?_ ?_
                · refine Keeps.step (State.wr_keeps 46 group_halo ..) rfl ?_
                  refine Keeps.step (State.wr_keeps 46 group_halo ..) rfl ?_
                  refine Keeps.step (State.wr_keeps 46 group_halo ..) rfl ?_
                  exact Keeps.refl _ _
                · exact Keeps.refl _ _
          · refine Keeps.step (setPresent_keeps ..) rfl ?_
            refine Keeps.ite ?_ ?_
            · refine Keeps.ite ?_ ?_
              · refine Keeps.ite ?_ ?_
                · refine Keeps.ite ?_ ?_
                  · refine Keeps.step (State.wr_keeps 46 group_halo ..) rfl ?_
                    refine Keeps.step (State.wr_keeps 46 group_halo ..) rfl ?_
                    refine Keeps.step (State.wr_keeps 46 group_halo ..) rfl ?_
                    exact Keeps.refl _ _
                  · exact Keeps.refl _ _
                · refine Keeps.step (judgeBreaks_keeps ..) rfl ?_
                  refine Keeps.ite ?_ ?_
                  · refine Keeps.step (State.wr_keeps 46 group_halo ..) rfl ?_
                    refine Keeps.step (State.wr_keeps 46 group_halo ..) rfl ?_
                    refine Keeps.step (State.wr_keeps 46 group_halo ..) rfl ?_
                    exact Keeps.refl _ _
                  · exact Keeps.refl _ _
              · refine Keeps.step (setPresent_keeps ..) rfl ?_
                refine Keeps.ite ?_ ?_
                · refine Keeps.ite ?_ ?_
                  · refine Keeps.step (State.wr_keeps 46 group_halo ..) rfl ?_
                    refine Keeps.step (State.wr_keeps 46 group_halo ..) rfl ?_
                    refine Keeps.step (State.wr_keeps 46 group_halo ..) rfl ?_
                    exact Keeps.refl _ _
                  · exact Keeps.refl _ _
                · refine Keeps.step (judgeBreaks_keeps ..) rfl ?_
                  refine Keeps.ite ?_ ?_
                  · refine Keeps.step (State.wr_keeps 46 group_halo ..) rfl ?_
                    refine Keeps.step (State.wr_keeps 46 group_halo ..) rfl ?_
                    refine Keeps.step (State.wr_keeps 46 group_halo ..) rfl ?_
                    exact Keeps.refl _ _
                  · exact Keeps.refl _ _
            · refine Keeps.ite ?_ ?_
              · refine Keeps.ite ?_ ?_
                · refine Keeps.step (State.wr_keeps 46 group_halo ..) rfl ?_
                  refine Keeps.step (State.wr_keeps 46 group_halo ..) rfl ?_
                  refine Keeps.step (State.wr_keeps 46 group_halo ..) rfl ?_
                  exact Keeps.refl _ _
                · exact Keeps.refl _ _
              · refine Keeps.step (judgeBreaks_keeps ..) rfl ?_
                refine Keeps.ite ?_ ?_
                · refine Keeps.step (State.wr_keeps 46 group_halo ..) rfl ?_
                  refine Keeps.step (State.wr_keeps 46 group_halo ..) rfl ?_
                  refine Keeps.step (State.wr_keeps 46 group_halo ..) rfl ?_
                  exact Keeps.refl _ _
                · exact Keeps.refl _ _
        · refine Keeps.ite ?_ ?_
          · refine Keeps.ite ?_ ?_
            · refine Keeps.ite ?_ ?_
              · refine Keeps.ite ?_ ?_
                · refine Keeps.step (State.wr_keeps 46 group_halo ..) rfl ?_
                  refine Keeps.step (State.wr_keeps 46 group_halo ..) rfl ?_
                  refine Keeps.step (State.wr_keeps 46 group_halo ..) rfl ?_
                  exact Keeps.refl _ _
                · exact Keeps.refl _ _
              · refine Keeps.step (judgeBreaks_keeps ..) rfl ?_
                refine Keeps.ite ?_ ?_
                · refine Keeps.step (State.wr_keeps 46 group_halo ..) rfl ?_
                  refine Keeps.step (State.wr_keeps 46 group_halo ..) rfl ?_
                  refine Keeps.step (State.wr_keeps 46 group_halo ..) rfl ?_
                  exact Keeps.refl _ _
                · exact Keeps.refl _ _
            · refine Keeps.step (setPresent_keeps ..) rfl ?_
              refine Keeps.ite ?_ ?_
              · refine Keeps.ite ?_ ?_
                · refine Keeps.step (State.wr_keeps 46 group_halo ..) rfl ?_
                  refine Keeps.step (State.wr_keeps 46 group_halo ..) rfl ?_
                  refine Keeps.step (State.wr_keeps 46 group_halo ..) rfl ?_
                  exact Keeps.refl _ _
                · exact Keeps.refl _ _
              · refine Keeps.step (judgeBreaks_keeps ..) rfl ?_
                refine Keeps.ite ?_ ?_
                · refine Keeps.step (State.wr_keeps 46 group_halo ..) rfl ?_
                  refine Keeps.step (State.wr_keeps 46 group_halo ..) rfl ?_
                  refine Keeps.step (State.wr_keeps 46 group_halo ..) rfl ?_
                  exact Keeps.refl _ _
                · exact Keeps.refl _ _
          · refine Keeps.ite ?_ ?_
            · refine Keeps.ite ?_ ?_
              · refine Keeps.step (State.wr_keeps 46 group_halo ..) rfl ?_
                refine Keeps.step (State.wr_keeps 46 group_halo ..) rfl ?_
                refine Keeps.step (State.wr_keeps 46 group_halo ..) rfl ?_
                exact Keeps.refl _ _
              · exact Keeps.refl _ _
            · refine Keeps.step (judgeBreaks_keeps ..) rfl ?_
              refine Keeps.ite ?_ ?_
              · refine Keeps.step (State.wr_keeps 46 group_halo ..) rfl ?_
                refine Keeps.step (State.wr_keeps 46 group_halo ..) rfl ?_
                refine Keeps.step (State.wr_keeps 46 group_halo ..) rfl ?_
                exact Keeps.refl _ _
              · exact Keeps.refl _ _
      · refine Keeps.ite ?_ ?_
        · refine Keeps.step (judgeBreaks_keeps ..) rfl ?_
          exact Keeps.refl _ _
        · exact Keeps.refl _ _

theorem changeNotice_keeps (s : State) (x1 x2 x3 : Nat) : Keeps 523265151668147872514 s (changeNotice s x1 x2 x3) := by
  unfold changeNotice
  refine Keeps.step (Keeps.put_halo ..) rfl ?_
  refine Keeps.step (originate_keeps ..) rfl ?_
  refine Keeps.step (applyChange_keeps ..) rfl ?_
  exact Keeps.refl _ _

theorem linkNotice_keeps (s : State) (x1 x2 : Nat) : Keeps 523265151668147872514 s (linkNotice s x1 x2) := by
  unfold linkNotice
  refine Keeps.ite ?_ ?_
  · exact Keeps.refl _ _
  · refine Keeps.ite ?_ ?_
    · refine Keeps.step (changeNotice_keeps ..) rfl ?_
      exact Keeps.refl _ _
    · refine Keeps.step (changeNotice_keeps ..) rfl ?_
      exact Keeps.refl _ _

theorem leaveUp_keeps (s : State) (x1 x2 : Nat) : Keeps 1703865955506674432834 s (leaveUp s x1 x2) := by
  unfold leaveUp
  refine Keeps.step (linkNotice_keeps ..) rfl ?_
  refine Keeps.step (laneExit_keeps ..) rfl ?_
  exact Keeps.refl _ _

theorem laneOff_keeps (s : State) (x1 : Nat) : Keeps 1703865955506674432834 s (laneOff s x1) := by
  unfold laneOff
  refine Keeps.ite ?_ ?_
  · exact Keeps.refl _ _
  · refine Keeps.ite ?_ ?_
    · refine Keeps.step (leaveUp_keeps ..) rfl ?_
      exact Keeps.refl _ _
    · refine Keeps.step (setLaneState_keeps ..) rfl ?_
      exact Keeps.refl _ _

theorem laneStart_keeps (s : State) (x1 : Nat) : Keeps 36283883720706 s (laneStart s x1) := by
  unfold laneStart
  refine Keeps.ite ?_ ?_
  · refine Keeps.step (setLaneState_keeps ..) rfl ?_
    exact Keeps.refl _ _
  · exact Keeps.refl _ _

theorem txRecord_keeps (s : State) (x1 x2 x3 x4 : Nat) : Keeps 521139100800307577346 s (txRecord s x1 x2 x3 x4) := by
  unfold txRecord
  refine Keeps.step (qAdmit_keeps ..) rfl ?_
  exact Keeps.refl _ _

theorem txComplete_keeps (s : State) (x1 x2 : Nat) (x3 : Option Nat) : Keeps 521139100800374686466 s (txComplete s x1 x2 x3) := by
  unfold txComplete
  split
  · exact Keeps.refl _ _
  · split
    · refine Keeps.step (txRecord_keeps ..) rfl ?_
      refine Keeps.step (setEth_keeps ..) rfl ?_
      exact Keeps.refl _ _
    · refine Keeps.step (txRecord_keeps ..) rfl ?_
      refine Keeps.step (State.draw_keeps ..) rfl ?_
      refine Keeps.step (setEth_keeps ..) rfl ?_
      exact Keeps.refl _ _

theorem flushFull_keeps (s : State) (x1 : Nat) : Keeps 1701740256482622143298 s (flushFull s x1) := by
  unfold flushFull
  refine Keeps.ite ?_ ?_
  · refine Keeps.foldl (fun _ _ => ?_) _ _ ?_
    · refine Keeps.step (txComplete_keeps ..) rfl ?_
      exact Keeps.refl _ _
    · refine Keeps.step (flushPort_keeps ..) rfl ?_
      refine Keeps.ite ?_ ?_
      · refine Keeps.step (rxCut_keeps ..) rfl ?_
        exact Keeps.refl _ _
      · exact Keeps.refl _ _
  · refine Keeps.step (flushPort_keeps ..) rfl ?_
    refine Keeps.ite ?_ ?_
    · refine Keeps.step (rxCut_keeps ..) rfl ?_
      exact Keeps.refl _ _
    · exact Keeps.refl _ _

theorem enableChange_keeps (s : State) (x1 : Nat) : Keeps 1703865955506741541698 s (enableChange s x1) := by
  unfold enableChange
  split
  · refine Keeps.ite ?_ ?_
    · refine Keeps.step (laneStart_keeps ..) rfl ?_
      exact Keeps.refl _ _
    · refine Keeps.step (laneOff_keeps ..) rfl ?_
      exact Keeps.refl _ _
  · refine Keeps.ite ?_ ?_
    · exact Keeps.refl _ _
    · refine Keeps.step (flushFull_keeps ..) rfl ?_
      exact Keeps.refl _ _
  · refine Keeps.step (canFresh_keeps ..) rfl ?_
    exact Keeps.refl _ _
  · exact Keeps.refl _ _

theorem pioApply_keeps (s : State) (x1 : Nat) : Keeps 295147906278881230850 s (pioApply s x1) := by
  unfold pioApply
  refine Keeps.step (State.setEng_keeps ..) rfl ?_
  split
  · refine Keeps.step (State.wr_keeps 68 group_pio ..) rfl ?_
    refine Keeps.step (State.wr_keeps 68 group_pio ..) rfl ?_
    refine Keeps.foldl (fun _ _ => ?_) _ _ ?_
    · split
      · refine Keeps.step (State.wr_keeps 68 group_pio ..) rfl ?_
        exact Keeps.refl _ _
      · exact Keeps.refl _ _
    · exact Keeps.refl _ _
  · refine Keeps.foldl (fun _ _ => ?_) _ _ ?_
    · split
      · refine Keeps.step (State.wr_keeps 68 group_pio ..) rfl ?_
        exact Keeps.refl _ _
      · exact Keeps.refl _ _
    · exact Keeps.refl _ _

theorem pioUnstall_keeps (s : State) (x1 : Nat) : Keeps 295147906278881230850 s (pioUnstall s x1) := by
  unfold pioUnstall
  refine Keeps.step (State.wr_keeps 68 group_pio ..) rfl ?_
  refine Keeps.step (State.wr_keeps 68 group_pio ..) rfl ?_
  refine Keeps.step (State.setEng_keeps ..) rfl ?_
  exact Keeps.refl _ _

theorem pioStop_keeps (s : State) (x1 : Nat) : Keeps 295147906278881230850 s (pioStop s x1) := by
  unfold pioStop
  refine Keeps.step (State.wr_keeps 68 group_pio ..) rfl ?_
  refine Keeps.step (State.wr_keeps 68 group_pio ..) rfl ?_
  refine Keeps.step (pioApply_keeps ..) rfl ?_
  refine Keeps.step (State.setEng_keeps ..) rfl ?_
  refine Keeps.step (pioUnstall_keeps ..) rfl ?_
  exact Keeps.refl _ _

theorem blockStop_keeps (s : State) (x1 : Nat) : Keeps 1703865955506691210050 s (blockStop s x1) := by
  unfold blockStop
  refine Keeps.ite ?_ ?_
  · split
    · refine Keeps.step (laneOff_keeps ..) rfl ?_
      exact Keeps.refl _ _
    · refine Keeps.step (pioStop_keeps ..) rfl ?_
      exact Keeps.refl _ _
    · refine Keeps.step (State.wr_keeps 40 (.inr rfl) ..) rfl ?_
      exact Keeps.refl _ _
  · exact Keeps.refl _ _

theorem edgesSync_keeps (s : State) (x1 : Nat) (x2 : Option DiscStep) : Keeps 522273444956451373826 s (edgesSync s x1 x2) := by
  unfold edgesSync
  refine Keeps.foldl (fun _ _ => ?_) _ _ ?_
  · refine Keeps.ite ?_ ?_
    · refine Keeps.step (edgeSync_keeps ..) rfl ?_
      exact Keeps.refl _ _
    · exact Keeps.refl _ _
  · refine Keeps.step (Keeps.put_edge ..) rfl ?_
    exact Keeps.refl _ _

theorem edgesCommit_keeps (s : State) (x1 : Nat) : Keeps 522273444956451373826 s (edgesCommit s x1) := by
  unfold edgesCommit
  refine Keeps.foldl (fun _ _ => ?_) _ _ ?_
  · refine Keeps.step (edgeTry_keeps ..) rfl ?_
    exact Keeps.refl _ _
  · exact Keeps.refl _ _

theorem edgesResume_keeps (s : State) (x1 : Nat) : Keeps 522273444956451373826 s (edgesResume s x1) := by
  unfold edgesResume
  refine Keeps.step (edgesCommit_keeps ..) rfl ?_
  exact Keeps.refl _ _

theorem setCanErr_keeps (s : State) (x1 x2 : Nat) : Keeps 521120523451844526594 s (setCanErr s x1 x2) := by
  unfold setCanErr
  refine Keeps.ite ?_ ?_
  · exact Keeps.refl _ _
  · refine Keeps.step (raise_keeps ..) rfl ?_
    refine Keeps.step (State.wr_keeps 66 group_can ..) rfl ?_
    exact Keeps.refl _ _

theorem canStart_keeps (s : State) (x1 : Nat) : Keeps 521120523451844526594 s (canStart s x1) := by
  unfold canStart
  refine Keeps.ite ?_ ?_
  · refine Keeps.step (canFresh_keeps ..) rfl ?_
    exact Keeps.refl _ _
  · refine Keeps.step (setCanErr_keeps ..) rfl ?_
    refine Keeps.step (State.wr_keeps 66 group_can ..) rfl ?_
    refine Keeps.step (State.wr_keeps 66 group_can ..) rfl ?_
    refine Keeps.step (canFresh_keeps ..) rfl ?_
    exact Keeps.refl _ _

theorem resume_keeps (s : State) (x1 : Nat) : Keeps 522688655731472364290 s (resume s x1) := by
  unfold resume
  split
  · refine Keeps.step (laneStart_keeps ..) rfl ?_
    exact Keeps.refl _ _
  · exact Keeps.refl _ _
  · refine Keeps.step (settleEdges_keeps ..) rfl ?_
    refine Keeps.step (edgesResume_keeps ..) rfl ?_
    refine Keeps.step (State.wr_keeps 40 (.inr rfl) ..) rfl ?_
    exact Keeps.refl _ _
  · refine Keeps.step (canStart_keeps ..) rfl ?_
    refine Keeps.step (State.wr_keeps 40 (.inr rfl) ..) rfl ?_
    exact Keeps.refl _ _
  · refine Keeps.step (State.wr_keeps 40 (.inr rfl) ..) rfl ?_
    exact Keeps.refl _ _

theorem ctrlWritten_keeps (x0 : State) (s : State) (x2 : Nat) : Keeps 1704010070694834436930 s (ctrlWritten x0 s x2) := by
  unfold ctrlWritten
  refine Keeps.ite ?_ ?_
  · refine Keeps.step (settleEdges_keeps ..) rfl ?_
    refine Keeps.step (edgesSync_keeps ..) rfl ?_
    refine Keeps.step (judgeZones_keeps ..) rfl ?_
    refine Keeps.step (slotRefresh_keeps ..) rfl ?_
    refine Keeps.step (blockStop_keeps ..) rfl ?_
    refine Keeps.ite ?_ ?_
    · refine Keeps.step (enableChange_keeps ..) rfl ?_
      refine Keeps.ite ?_ ?_
      · refine Keeps.step (resume_keeps ..) rfl ?_
        exact Keeps.refl _ _
      · exact Keeps.refl _ _
    · refine Keeps.ite ?_ ?_
      · refine Keeps.step (resume_keeps ..) rfl ?_
        exact Keeps.refl _ _
      · exact Keeps.refl _ _
  · refine Keeps.step (blockStop_keeps ..) rfl ?_
    refine Keeps.ite ?_ ?_
    · refine Keeps.step (enableChange_keeps ..) rfl ?_
      refine Keeps.ite ?_ ?_
      · refine Keeps.step (resume_keeps ..) rfl ?_
        exact Keeps.refl _ _
      · exact Keeps.refl _ _
    · refine Keeps.ite ?_ ?_
      · refine Keeps.step (resume_keeps ..) rfl ?_
        exact Keeps.refl _ _
      · exact Keeps.refl _ _

theorem maskRise_keeps (x0 : State) (s : State) (x2 : Nat) : Keeps 521120523451844526594 s (maskRise x0 s x2) := by
  unfold maskRise
  refine Keeps.each (fun _ _ => ?_) ?_
  · refine Keeps.ite ?_ ?_
    · refine Keeps.step (rise_keeps ..) rfl ?_
      exact Keeps.refl _ _
    · exact Keeps.refl _ _
  · exact Keeps.refl _ _

theorem effHdr_keeps (x0 : State) (s : State) (x2 x3 x4 : Nat) : Keeps 1704010070694834436942 s (effHdr x0 s x2 x3 x4) := by
  unfold effHdr
  refine Keeps.ite ?_ ?_
  · refine Keeps.step (ctrlWritten_keeps ..) rfl ?_
    exact Keeps.refl _ _
  · refine Keeps.ite ?_ ?_
    · refine Keeps.step (maskRise_keeps ..) rfl ?_
      exact Keeps.refl _ _
    · refine Keeps.ite ?_ ?_
      · refine Keeps.each (fun _ _ => ?_) ?_
        · refine Keeps.step (raiseIf_keeps ..) rfl ?_
          exact Keeps.refl _ _
        · exact Keeps.refl _ _
      · refine Keeps.ite ?_ ?_
        · refine Keeps.ite ?_ ?_
          · refine Keeps.step (State.zero_keeps 40 (by intro f hf; simp at hf; rcases hf with rfl | rfl <;> exact .inr rfl) ..) rfl ?_
            exact Keeps.refl _ _
          · exact Keeps.refl _ _
        · refine Keeps.ite ?_ ?_
          · refine Keeps.ite ?_ ?_
            · refine Keeps.step (Keeps.put_staged_stagedLate ..) rfl ?_
              exact Keeps.refl _ _
            · exact Keeps.refl _ _
          · exact Keeps.refl _ _

theorem opResult_keeps (s : State) (x1 x2 x3 x4 : Nat) : Keeps 288231475663339522 s (opResult s x1 x2 x3 x4) := by
  unfold opResult
  refine Keeps.step (State.wri_keeps 58 group_drift ..) rfl ?_
  refine Keeps.step (State.wri_keeps 58 group_drift ..) rfl ?_
  refine Keeps.step (State.wri_keeps 58 group_drift ..) rfl ?_
  exact Keeps.refl _ _

theorem opFreeRec_keeps (s : State) (x1 x2 : Nat) : Keeps 521427331176459813378 s (opFreeRec s x1 x2) := by
  unfold opFreeRec
  refine Keeps.ite ?_ ?_
  · refine Keeps.step (opResult_keeps ..) rfl ?_
    refine Keeps.step (resyncJudge_keeps ..) rfl ?_
    refine Keeps.step (freeRec_keeps ..) rfl ?_
    refine Keeps.step (dropReqs_keeps ..) rfl ?_
    refine Keeps.step (crcCheck_keeps ..) rfl ?_
    exact Keeps.refl _ _
  · refine Keeps.step (opResult_keeps ..) rfl ?_
    refine Keeps.step (crcCheck_keeps ..) rfl ?_
    exact Keeps.refl _ _

theorem opCancelAct_keeps (s : State) (x1 x2 x3 : Nat) : Keeps 522688620547100271362 s (opCancelAct s x1 x2 x3) := by
  unfold opCancelAct
  dsimp only
  split
  · refine Keeps.step (opResult_keeps ..) rfl ?_
    refine Keeps.step (crcCheck_keeps ..) rfl ?_
    exact Keeps.refl _ _
  · refine Keeps.step (opResult_keeps ..) rfl ?_
    refine Keeps.step (settleEdges_keeps ..) rfl ?_
    refine Keeps.step (actionNote_keeps ..) rfl ?_
    refine Keeps.step (ownerChange_keeps ..) rfl ?_
    refine Keeps.ite ?_ ?_
    · refine Keeps.step (releaseAction_keeps ..) rfl ?_
      refine Keeps.step (crcCheck_keeps ..) rfl ?_
      exact Keeps.refl _ _
    · refine Keeps.step (crcCheck_keeps ..) rfl ?_
      exact Keeps.refl _ _

theorem opRetireRec_keeps (s : State) (x1 x2 : Nat) : Keeps 522688620547100271362 s (opRetireRec s x1 x2) := by
  unfold opRetireRec
  dsimp only
  split
  · refine Keeps.step (opResult_keeps ..) rfl ?_
    refine Keeps.step (crcCheck_keeps ..) rfl ?_
    exact Keeps.refl _ _
  · refine Keeps.step (settleEdges_keeps ..) rfl ?_
    refine Keeps.step (retireStart_keeps ..) rfl ?_
    refine Keeps.step (opResult_keeps ..) rfl ?_
    refine Keeps.step (crcCheck_keeps ..) rfl ?_
    exact Keeps.refl _ _

theorem opFind_keeps (s : State) (x1 : Nat) : Keeps 521427331176459813378 s (opFind s x1) := by
  unfold opFind
  dsimp only
  split
  · refine Keeps.step (opResult_keeps ..) rfl ?_
    refine Keeps.step (findItem_keeps ..) rfl ?_
    exact Keeps.refl _ _
  · refine Keeps.step (opResult_keeps ..) rfl ?_
    refine Keeps.step (findItem_keeps ..) rfl ?_
    exact Keeps.refl _ _

theorem takeSlot_keeps (s : State) : Keeps 256 s (takeSlot s).2 := by
  unfold takeSlot
  refine Keeps.ite_snd ?_ ?_
  · exact Keeps.refl _ _
  · refine Keeps.step (Keeps.put_draws _ _ (Nat.le_succ _)) rfl ?_
    exact Keeps.refl _ _

theorem inductJudge_keeps (s : State) (x1 : Nat) (x2 : Rec) : Keeps 521427331176459813378 s (inductJudge s x1 x2).2 := by
  unfold inductJudge
  refine Keeps.ite_snd ?_ ?_
  · exact Keeps.refl _ _
  · refine Keeps.ite_snd ?_ ?_
    · exact Keeps.refl _ _
    · refine Keeps.ite_snd ?_ ?_
      · exact Keeps.refl _ _
      · refine Keeps.ite_snd ?_ ?_
        · exact Keeps.refl _ _
        · refine Keeps.ite_snd ?_ ?_
          · exact Keeps.refl _ _
          · refine Keeps.ite_snd ?_ ?_
            · exact Keeps.refl _ _
            · refine Keeps.step (findItem_keeps ..) rfl ?_
              exact Keeps.refl _ _

theorem opInduct_keeps (s : State) (x1 x2 : Nat) : Keeps 522688620547100271362 s (opInduct s x1 x2) := by
  unfold opInduct
  dsimp only
  split
  · refine Keeps.step (raiseIf_keeps ..) rfl ?_
    refine Keeps.step (driftCount_keeps ..) rfl ?_
    refine Keeps.step (opResult_keeps ..) rfl ?_
    refine Keeps.step (inductJudge_keeps ..) rfl ?_
    exact Keeps.refl _ _
  · split
    · refine Keeps.step (driftEv_keeps ..) rfl ?_
      refine Keeps.step (driftCount_keeps ..) rfl ?_
      refine Keeps.step (opResult_keeps ..) rfl ?_
      rename_i hq1
      refine Keeps.of_snd hq1 ?_
      refine Keeps.step (takeSlot_keeps ..) rfl ?_
      refine Keeps.step (inductJudge_keeps ..) rfl ?_
      exact Keeps.refl _ _
    · refine Keeps.step (settleEdges_keeps ..) rfl ?_
      refine Keeps.step (armActions_keeps ..) rfl ?_
      refine Keeps.step (mirrorSend_keeps ..) rfl ?_
      refine Keeps.step (opResult_keeps ..) rfl ?_
      refine Keeps.step (setDslot_keeps ..) rfl ?_
      refine Keeps.step (recPut_keeps ..) rfl ?_
      rename_i hq2
      refine Keeps.of_snd hq2 ?_
      refine Keeps.step (takeSlot_keeps ..) rfl ?_
      refine Keeps.step (inductJudge_keeps ..) rfl ?_
      exact Keeps.refl _ _

theorem opUpdate_keeps (s : State) (x1 x2 : Nat) : Keeps 522688620547100271362 s (opUpdate s x1 x2) := by
  unfold opUpdate
  dsimp only
  split
  · refine Keeps.step (opResult_keeps ..) rfl ?_
    refine Keeps.step (crcCheck_keeps ..) rfl ?_
    exact Keeps.refl _ _
  · refine Keeps.step (opResult_keeps ..) rfl ?_
    refine Keeps.step (settleEdges_keeps ..) rfl ?_
    refine Keeps.step (armActions_keeps ..) rfl ?_
    refine Keeps.step (ownerChange_keeps ..) rfl ?_
    refine Keeps.step (crcCheck_keeps ..) rfl ?_
    exact Keeps.refl _ _

theorem driftOp_keeps (s : State) (x1 x2 x3 x4 : Nat) : Keeps 522688620547100271362 s (driftOp s x1 x2 x3 x4) := by
  unfold driftOp
  refine Keeps.ite ?_ ?_
  · refine Keeps.step (opResult_keeps ..) rfl ?_
    exact Keeps.refl _ _
  · split
    · refine Keeps.step (opInduct_keeps ..) rfl ?_
      exact Keeps.refl _ _
    · refine Keeps.step (opUpdate_keeps ..) rfl ?_
      exact Keeps.refl _ _
    · refine Keeps.step (opRetireRec_keeps ..) rfl ?_
      exact Keeps.refl _ _
    · refine Keeps.step (opFind_keeps ..) rfl ?_
      exact Keeps.refl _ _
    · refine Keeps.step (opCancelAct_keeps ..) rfl ?_
      exact Keeps.refl _ _
    · refine Keeps.step (opFreeRec_keeps ..) rfl ?_
      exact Keeps.refl _ _
    · refine Keeps.step (opResult_keeps ..) rfl ?_
      exact Keeps.refl _ _

theorem effDrift_keeps (s : State) (x1 x2 x3 : Nat) : Keeps 522688620547100271362 s (effDrift s x1 x2 x3) := by
  unfold effDrift
  refine Keeps.ite ?_ ?_
  · refine Keeps.step (driftOp_keeps ..) rfl ?_
    exact Keeps.refl _ _
  · exact Keeps.refl _ _

theorem canRecover_keeps (s : State) (x1 : Nat) : Keeps 521120523451844526594 s (canRecover s x1) := by
  unfold canRecover
  refine Keeps.ite ?_ ?_
  · refine Keeps.step (setCanErr_keeps ..) rfl ?_
    exact Keeps.refl _ _
  · exact Keeps.refl _ _

theorem canRes_keeps (s : State) (x1 x2 : Nat) : Keeps 73786977394349834242 s (canRes s x1 x2) := by
  unfold canRes
  refine Keeps.step (State.wr_keeps 66 group_can ..) rfl ?_
  exact Keeps.refl _ _

theorem setMbox_keeps (s : State) (x1 x2 : Nat) (x3 : Mailbox) : Keeps 8388608 s (setMbox s x1 x2 x3) := by
  unfold setMbox
  refine Keeps.step (setCan_keeps ..) rfl ?_
  exact Keeps.refl _ _

theorem canComplete_keeps (s : State) (x1 x2 x3 : Nat) : Keeps 521139100800307577346 s (canComplete s x1 x2 x3) := by
  unfold canComplete
  refine Keeps.step (raiseIf_keeps ..) rfl ?_
  refine Keeps.ite ?_ ?_
  · refine Keeps.ite ?_ ?_
    · refine Keeps.step (qAdmit_keeps ..) rfl ?_
      refine Keeps.step (State.setBit_keeps 66 group_can ..) rfl ?_
      refine Keeps.step (setMbox_keeps ..) rfl ?_
      exact Keeps.refl _ _
    · refine Keeps.step (State.inc_keeps 66 group_can ..) rfl ?_
      refine Keeps.step (qAdmit_keeps ..) rfl ?_
      refine Keeps.step (State.setBit_keeps 66 group_can ..) rfl ?_
      refine Keeps.step (setMbox_keeps ..) rfl ?_
      exact Keeps.refl _ _
  · refine Keeps.step (State.setBit_keeps 66 group_can ..) rfl ?_
    refine Keeps.step (setMbox_keeps ..) rfl ?_
    exact Keeps.refl _ _

theorem canCancel_keeps (s : State) (x1 x2 : Nat) : Keeps 521139100800307577346 s (canCancel s x1 x2) := by
  unfold canCancel
  dsimp only
  split
  · refine Keeps.step (canComplete_keeps ..) rfl ?_
    exact Keeps.refl _ _
  · refine Keeps.step (canComplete_keeps ..) rfl ?_
    exact Keeps.refl _ _
  · refine Keeps.step (State.inc_keeps 66 group_can ..) rfl ?_
    refine Keeps.step (setCan_keeps ..) rfl ?_
    refine Keeps.step (setMbox_keeps ..) rfl ?_
    exact Keeps.refl _ _
  · exact Keeps.refl _ _
  · exact Keeps.refl _ _

theorem canCmd_keeps (s : State) (x1 x2 : Nat) : Keeps 521139100800307577346 s (canCmd s x1 x2) := by
  unfold canCmd
  refine Keeps.ite ?_ ?_
  · exact Keeps.refl _ _
  · refine Keeps.ite ?_ ?_
    · refine Keeps.step (canRes_keeps ..) rfl ?_
      exact Keeps.refl _ _
    · refine Keeps.ite ?_ ?_
      · refine Keeps.step (canRes_keeps ..) rfl ?_
        refine Keeps.step (canCancel_keeps ..) rfl ?_
        exact Keeps.refl _ _
      · refine Keeps.ite ?_ ?_
        · refine Keeps.ite ?_ ?_
          · refine Keeps.step (canRes_keeps ..) rfl ?_
            exact Keeps.refl _ _
          · refine Keeps.step (canRes_keeps ..) rfl ?_
            refine Keeps.step (setMbox_keeps ..) rfl ?_
            exact Keeps.refl _ _
        · refine Keeps.ite ?_ ?_
          · refine Keeps.step (canRes_keeps ..) rfl ?_
            exact Keeps.refl _ _
          · refine Keeps.ite ?_ ?_
            · refine Keeps.step (canRes_keeps ..) rfl ?_
              exact Keeps.refl _ _
            · refine Keeps.step (canRes_keeps ..) rfl ?_
              refine Keeps.step (setMbox_keeps ..) rfl ?_
              exact Keeps.refl _ _

theorem canSel_keeps (s : State) (x1 x2 : Nat) : Keeps 73786977394349834242 s (canSel s x1 x2) := by
  unfold canSel
  refine Keeps.each (fun _ _ => ?_) ?_
  · refine Keeps.step (State.wr_keeps 66 group_can ..) rfl ?_
    exact Keeps.refl _ _
  · refine Keeps.foldl (fun _ _ => ?_) _ _ ?_
    · refine Keeps.step (State.wr_keeps 66 group_can ..) rfl ?_
      exact Keeps.refl _ _
    · exact Keeps.refl _ _

theorem effCan_keeps (s : State) (x1 x2 x3 : Nat) : Keeps 521139100800307577346 s (effCan s x1 x2 x3) := by
  unfold effCan
  refine Keeps.ite ?_ ?_
  · refine Keeps.ite ?_ ?_
    · refine Keeps.step (canRecover_keeps ..) rfl ?_
      exact Keeps.refl _ _
    · exact Keeps.refl _ _
  · refine Keeps.ite ?_ ?_
    · refine Keeps.each (fun _ _ => ?_) ?_
      · refine Keeps.ite ?_ ?_
        · refine Keeps.step (canCancel_keeps ..) rfl ?_
          exact Keeps.refl _ _
        · exact Keeps.refl _ _
      · exact Keeps.refl _ _
    · refine Keeps.ite ?_ ?_
      · refine Keeps.step (canSel_keeps ..) rfl ?_
        exact Keeps.refl _ _
      · refine Keeps.ite ?_ ?_
        · refine Keeps.step (canCmd_keeps ..) rfl ?_
          exact Keeps.refl _ _
        · exact Keeps.refl _ _

theorem orphPop_keeps (s : State) : Keeps 65536 s (orphPop s) := by
  unfold orphPop
  refine Keeps.step (Keeps.put_txn ..) rfl ?_
  exact Keeps.refl _ _

theorem effTxn_keeps (s : State) (x1 x2 : Nat) : Keeps 65536 s (effTxn s x1 x2) := by
  unfold effTxn
  refine Keeps.ite ?_ ?_
  · refine Keeps.step (orphPop_keeps ..) rfl ?_
    exact Keeps.refl _ _
  · exact Keeps.refl _ _

theorem enterState_keeps (s : State) (x1 : Nat) : Keeps 2418372759752744553677570 s (enterState s x1) := by
  unfold enterState
  refine Keeps.step (hubLog_keeps ..) rfl ?_
  refine Keeps.step (raise_keeps ..) rfl ?_
  refine Keeps.step (setState_keeps ..) rfl ?_
  exact Keeps.refl _ _

theorem fieldlogStart_keeps (s : State) : Keeps 1099511627778 s (fieldlogStart s) := by
  unfold fieldlogStart
  refine Keeps.foldl (fun _ _ => ?_) _ _ ?_
  · refine Keeps.ite ?_ ?_
    · exact Keeps.refl _ _
    · refine Keeps.step (State.wr_keeps 40 (.inr rfl) ..) rfl ?_
      exact Keeps.refl _ _
  · exact Keeps.refl _ _

theorem domApply_keeps (s : State) (x1 : Nat) : Keeps 604984030330800791618050 s (domApply s x1) := by
  unfold domApply
  refine Keeps.ite ?_ ?_
  · refine Keeps.ite ?_ ?_
    · refine Keeps.ite ?_ ?_
      · refine Keeps.step (fieldlogStart_keeps ..) rfl ?_
        refine Keeps.step (Keeps.put_mgmt ..) rfl ?_
        exact Keeps.refl _ _
      · refine Keeps.step (Keeps.put_mgmt ..) rfl ?_
        exact Keeps.refl _ _
    · refine Keeps.step (raise_keeps ..) rfl ?_
      refine Keeps.step (State.setBit_keeps 79 group_mgmt ..) rfl ?_
      refine Keeps.ite ?_ ?_
      · refine Keeps.step (fieldlogStart_keeps ..) rfl ?_
        refine Keeps.step (Keeps.put_mgmt ..) rfl ?_
        exact Keeps.refl _ _
      · refine Keeps.step (Keeps.put_mgmt ..) rfl ?_
        exact Keeps.refl _ _
  · refine Keeps.ite ?_ ?_
    · refine Keeps.step (Keeps.put_mgmt ..) rfl ?_
      exact Keeps.refl _ _
    · exact Keeps.refl _ _

theorem domainsApply_keeps (s : State) : Keeps 756099757782633733423618 s (domainsApply s) := by
  unfold domainsApply
  refine Keeps.step (coresFollow_keeps ..) rfl ?_
  refine Keeps.foldl (fun _ _ => ?_) _ _ ?_
  · refine Keeps.step (domApply_keeps ..) rfl ?_
    exact Keeps.refl _ _
  · exact Keeps.refl _ _

theorem branchesOff_keeps (s : State) (x1 : Nat) : Keeps 28855319420670252679682 s (branchesOff s x1) := by
  unfold branchesOff
  refine Keeps.each (fun _ _ => ?_) ?_
  · refine Keeps.ite ?_ ?_
    · exact Keeps.refl _ _
    · refine Keeps.step (branchOff_keeps ..) rfl ?_
      exact Keeps.refl _ _
  · exact Keeps.refl _ _

theorem pioHalt_keeps (s : State) (x1 : Nat) : Keeps 295147906278881230850 s (pioHalt s x1) := by
  unfold pioHalt
  refine Keeps.ite ?_ ?_
  · refine Keeps.step (pioStop_keeps ..) rfl ?_
    exact Keeps.refl _ _
  · exact Keeps.refl _ _

theorem setRole_keeps (s : State) (x1 : Nat) : Keeps 154743026031195986206917122 s (setRole s x1) := by
  unfold setRole
  refine Keeps.ite ?_ ?_
  · exact Keeps.refl _ _
  · refine Keeps.step (raise_keeps ..) rfl ?_
    refine Keeps.step (State.wr_keeps 87 (.inl rfl) ..) rfl ?_
    exact Keeps.refl _ _

theorem ownPresence_keeps (s : State) : Keeps 523265151668147872514 s (ownPresence s) := by
  unfold ownPresence
  refine Keeps.ite ?_ ?_
  · refine Keeps.step (setPresent_keeps ..) rfl ?_
    refine Keeps.ite ?_ ?_
    · refine Keeps.step (setPresent_keeps ..) rfl ?_
      exact Keeps.refl _ _
    · exact Keeps.refl _ _
  · refine Keeps.ite ?_ ?_
    · refine Keeps.step (setPresent_keeps ..) rfl ?_
      exact Keeps.refl _ _
    · exact Keeps.refl _ _

theorem tracksRefresh_keeps (s : State) : Keeps 521264638639920644610 s (tracksRefresh s) := by
  unfold tracksRefresh
  refine Keeps.each (fun _ _ => ?_) ?_
  · refine Keeps.step (slotRefresh_keeps ..) rfl ?_
    exact Keeps.refl _ _
  · exact Keeps.refl _ _

theorem tracksEntry_keeps (s : State) : Keeps 521264638639920644610 s (tracksEntry s) := by
  unfold tracksEntry
  refine Keeps.ite ?_ ?_
  · refine Keeps.each (fun _ _ => ?_) ?_
    · refine Keeps.step (State.tkWr_keeps ..) rfl ?_
      exact Keeps.refl _ _
    · refine Keeps.step (tracksRefresh_keeps ..) rfl ?_
      exact Keeps.refl _ _
  · refine Keeps.step (tracksRefresh_keeps ..) rfl ?_
    exact Keeps.refl _ _

theorem resyncFree_keeps (s : State) (x1 : Nat) : Keeps 521427331176459813378 s (resyncFree s x1) := by
  unfold resyncFree
  refine Keeps.step (freeRec_keeps ..) rfl ?_
  refine Keeps.step (State.inc_keeps 58 group_drift ..) rfl ?_
  exact Keeps.refl _ _

theorem resyncStart_keeps (s : State) : Keeps 521427331176459813378 s (resyncStart s) := by
  unfold resyncStart
  refine Keeps.step (resyncJudge_keeps ..) rfl ?_
  refine Keeps.foldl (fun _ _ => ?_) _ _ ?_
  · refine Keeps.ite ?_ ?_
    · refine Keeps.step (crcCheck_keeps ..) rfl ?_
      exact Keeps.refl _ _
    · refine Keeps.ite ?_ ?_
      · refine Keeps.step (resyncFree_keeps ..) rfl ?_
        refine Keeps.step (crcCheck_keeps ..) rfl ?_
        exact Keeps.refl _ _
      · refine Keeps.step (recPut_keeps ..) rfl ?_
        refine Keeps.step (crcCheck_keeps ..) rfl ?_
        exact Keeps.refl _ _
  · refine Keeps.step (State.wr_keeps 58 group_drift ..) rfl ?_
    refine Keeps.step (Keeps.put_drift ..) rfl ?_
    exact Keeps.refl _ _

theorem canOut_keeps (s : State) : Keeps 8388608 s (canOut s) := by
  unfold canOut
  refine Keeps.ite ?_ ?_
  · exact Keeps.refl _ _
  · refine Keeps.step (Keeps.put_can ..) rfl ?_
    exact Keeps.refl _ _

theorem refuse_keeps (s : State) (x1 x2 : Nat) : Keeps 19807041149686607850230514178 s (refuse s x1 x2) := by
  unfold refuse
  refine Keeps.step (raise_keeps ..) rfl ?_
  refine Keeps.ite ?_ ?_
  · exact Keeps.refl _ _
  · refine Keeps.step (State.wr_keeps 94 (.inl rfl) ..) rfl ?_
    refine Keeps.step (State.wr_keeps 94 (.inl rfl) ..) rfl ?_
    refine Keeps.step (State.wr_keeps 94 (.inl rfl) ..) rfl ?_
    refine Keeps.step (State.wr_keeps 94 (.inl rfl) ..) rfl ?_
    exact Keeps.refl _ _

theorem isolateRefuse_keeps (s : State) : Keeps 19807041149686607850230514178 s (isolateRefuse s) := by
  unfold isolateRefuse
  split
  · refine Keeps.step (refuse_keeps ..) rfl ?_
    refine Keeps.step (Keeps.put_node ..) rfl ?_
    exact Keeps.refl _ _
  · exact Keeps.refl _ _

theorem deferDropped_keeps (s : State) : Keeps 521120523451844526594 s (deferDropped s) := by
  unfold deferDropped
  refine Keeps.step (raise_keeps ..) rfl ?_
  exact Keeps.refl _ _

theorem isolateSafe_keeps (s : State) : Keeps 522273444956451373826 s (isolateSafe s) := by
  unfold isolateSafe
  refine Keeps.ite ?_ ?_
  · exact Keeps.refl _ _
  · refine Keeps.step (safeTrigger_keeps ..) rfl ?_
    exact Keeps.refl _ _

theorem edgesDiscardAll_keeps (s : State) : Keeps 522273444956451373826 s (edgesDiscardAll s) := by
  unfold edgesDiscardAll
  refine Keeps.foldl (fun _ _ => ?_) _ _ ?_
  · refine Keeps.step (edgeEnd_keeps ..) rfl ?_
    exact Keeps.refl _ _
  · exact Keeps.refl _ _

theorem sourcesEnd_keeps (s : State) : Keeps 2048 s (sourcesEnd s) := by
  unfold sourcesEnd
  refine Keeps.step (Keeps.put_time (ht := ⟨rfl, rfl⟩) ..) rfl ?_
  exact Keeps.refl _ _

theorem haltCores_keeps (s : State) : Keeps 151115727452932453433346 s (haltCores s) := by
  unfold haltCores
  refine Keeps.step (wdtsFollow_keeps ..) rfl ?_
  refine Keeps.step (State.wr_keeps 77 group_cores ..) rfl ?_
  refine Keeps.step (State.wr_keeps 77 group_cores ..) rfl ?_
  exact Keeps.refl _ _

theorem isolateEntry_keeps (s : State) : Keeps 59421273524690856730624158466 s (isolateEntry s) := by
  unfold isolateEntry
  refine Keeps.step (ownPresence_keeps ..) rfl ?_
  refine Keeps.step (sourcesEnd_keeps ..) rfl ?_
  refine Keeps.each (fun _ _ => ?_) ?_
  · refine Keeps.step (pioHalt_keeps ..) rfl ?_
    exact Keeps.refl _ _
  · refine Keeps.step (canOut_keeps ..) rfl ?_
    refine Keeps.step (actForget_keeps ..) rfl ?_
    refine Keeps.ite ?_ ?_
    · refine Keeps.step (deferDropped_keeps ..) rfl ?_
      refine Keeps.step (Keeps.put_node ..) rfl ?_
      refine Keeps.step (haltCores_keeps ..) rfl ?_
      refine Keeps.step (settleEdges_keeps ..) rfl ?_
      refine Keeps.step (edgesDiscardAll_keeps ..) rfl ?_
      refine Keeps.step (isolateSafe_keeps ..) rfl ?_
      refine Keeps.step (isolateRefuse_keeps ..) rfl ?_
      exact Keeps.refl _ _
    · refine Keeps.step (Keeps.put_node ..) rfl ?_
      refine Keeps.step (haltCores_keeps ..) rfl ?_
      refine Keeps.step (settleEdges_keeps ..) rfl ?_
      refine Keeps.step (edgesDiscardAll_keeps ..) rfl ?_
      refine Keeps.step (isolateSafe_keeps ..) rfl ?_
      refine Keeps.step (isolateRefuse_keeps ..) rfl ?_
      exact Keeps.refl _ _

theorem entryEffects_keeps (s : State) (x1 : Nat) : Keeps 59576044363944541671470820098 s (entryEffects s x1) := by
  unfold entryEffects
  refine Keeps.ite ?_ ?_
  · refine Keeps.step (tracksEntry_keeps ..) rfl ?_
    refine Keeps.step (resyncStart_keeps ..) rfl ?_
    refine Keeps.step (setRole_keeps ..) rfl ?_
    refine Keeps.step (Keeps.put_node ..) rfl ?_
    exact Keeps.refl _ _
  · refine Keeps.ite ?_ ?_
    · refine Keeps.step (isolateEntry_keeps ..) rfl ?_
      exact Keeps.refl _ _
    · refine Keeps.ite ?_ ?_
      · refine Keeps.step (branchesOff_keeps ..) rfl ?_
        refine Keeps.step (safeTrigger_keeps ..) rfl ?_
        refine Keeps.each (fun _ _ => ?_) ?_
        · refine Keeps.step (pioHalt_keeps ..) rfl ?_
          exact Keeps.refl _ _
        · refine Keeps.step (canOut_keeps ..) rfl ?_
          exact Keeps.refl _ _
      · refine Keeps.step (tracksEntry_keeps ..) rfl ?_
        refine Keeps.step (ownPresence_keeps ..) rfl ?_
        exact Keeps.refl _ _

theorem goState_keeps (s : State) (x1 : Nat) : Keeps 59579105638026245040095853378 s (goState s x1) := by
  unfold goState
  refine Keeps.ite ?_ ?_
  · exact Keeps.refl _ _
  · refine Keeps.step (domainsApply_keeps ..) rfl ?_
    refine Keeps.step (tapJudge_keeps ..) rfl ?_
    refine Keeps.step (entryEffects_keeps ..) rfl ?_
    refine Keeps.step (enterState_keeps ..) rfl ?_
    exact Keeps.refl _ _

theorem stateReq_keeps (s : State) (x1 x2 : Nat) : Keeps 218035430666554920227183754050 s (stateReq s x1 x2) := by
  unfold stateReq
  refine Keeps.ite ?_ ?_
  · exact Keeps.refl _ _
  · refine Keeps.ite ?_ ?_
    · refine Keeps.step (refuse_keeps ..) rfl ?_
      exact Keeps.refl _ _
    · refine Keeps.ite ?_ ?_
      · refine Keeps.ite ?_ ?_
        · refine Keeps.step (goState_keeps ..) rfl ?_
          exact Keeps.refl _ _
        · refine Keeps.step (refuse_keeps ..) rfl ?_
          exact Keeps.refl _ _
      · refine Keeps.ite ?_ ?_
        · refine Keeps.step (State.wr_keeps 97 (.inl rfl) ..) rfl ?_
          exact Keeps.refl _ _
        · split
          · refine Keeps.step (refuse_keeps ..) rfl ?_
            exact Keeps.refl _ _
          · refine Keeps.ite ?_ ?_
            · refine Keeps.step (refuse_keeps ..) rfl ?_
              exact Keeps.refl _ _
            · refine Keeps.step (Keeps.put_node ..) rfl ?_
              exact Keeps.refl _ _

theorem requestWarm_keeps (s : State) (x1 : Nat) : Keeps 39614081257132169896283603458 s (requestWarm s x1) := by
  unfold requestWarm
  refine Keeps.ite ?_ ?_
  · refine Keeps.step (Keeps.put_node ..) rfl ?_
    exact Keeps.refl _ _
  · refine Keeps.ite ?_ ?_
    · refine Keeps.step (State.wr_keeps 95 (.inl rfl) ..) rfl ?_
      refine Keeps.step (Keeps.put_node ..) rfl ?_
      exact Keeps.refl _ _
    · refine Keeps.step (Keeps.put_node ..) rfl ?_
      exact Keeps.refl _ _

theorem resetCtrl_keeps (s : State) (x1 x2 : Nat) : Keeps 39614081257132169896283603458 s (resetCtrl s x1 x2) := by
  unfold resetCtrl
  refine Keeps.ite ?_ ?_
  · refine Keeps.step (requestWarm_keeps ..) rfl ?_
    exact Keeps.refl _ _
  · exact Keeps.refl _ _

theorem addrFault_keeps (s : State) (x1 : Nat) : Keeps 521120593820588704258 s (addrFault s x1) := by
  unfold addrFault
  refine Keeps.step (raiseIf_keeps ..) rfl ?_
  refine Keeps.step (State.wr_keeps 46 group_halo ..) rfl ?_
  exact Keeps.refl _ _

theorem announceOn_keeps (s : State) (x1 : Bool) : Keeps 521121367876774683138 s (announceOn s x1) := by
  unfold announceOn
  refine Keeps.step (originateOn_keeps ..) rfl ?_
  exact Keeps.refl _ _

theorem assignAddr_keeps (s : State) (x1 : Bool) (x2 x3 : Nat) : Keeps 77371773585781711954799106 s (assignAddr s x1 x2 x3) := by
  unfold assignAddr
  refine Keeps.ite ?_ ?_
  · refine Keeps.step (Keeps.put_halo ..) rfl ?_
    refine Keeps.step (announceOn_keeps ..) rfl ?_
    refine Keeps.step (State.wr_keeps 53 group_gw ..) rfl ?_
    refine Keeps.step (State.wr_keeps 53 group_gw ..) rfl ?_
    exact Keeps.refl _ _
  · refine Keeps.step (Keeps.put_time_halo (ht := ⟨rfl, rfl⟩) ..) rfl ?_
    refine Keeps.step (State.wr_keeps 46 group_halo ..) rfl ?_
    refine Keeps.step (State.wr_keeps 46 group_halo ..) rfl ?_
    refine Keeps.step (announceOn_keeps ..) rfl ?_
    refine Keeps.step (raise_keeps ..) rfl ?_
    refine Keeps.step (State.wr_keeps 46 group_halo ..) rfl ?_
    refine Keeps.step (State.wr_keeps 46 group_halo ..) rfl ?_
    refine Keeps.step (State.wr_keeps 86 (.inl rfl) ..) rfl ?_
    refine Keeps.step (State.wr_keeps 86 (.inl rfl) ..) rfl ?_
    exact Keeps.refl _ _

theorem takeAddress_keeps (s : State) (x1 : Bool) : Keeps 77371773585781711954799106 s (takeAddress s x1) := by
  unfold takeAddress
  refine Keeps.ite ?_ ?_
  · refine Keeps.ite ?_ ?_
    · refine Keeps.step (addrFault_keeps ..) rfl ?_
      exact Keeps.refl _ _
    · exact Keeps.refl _ _
  · refine Keeps.ite ?_ ?_
    · exact Keeps.refl _ _
    · split
      · refine Keeps.step (assignAddr_keeps ..) rfl ?_
        split
        · refine Keeps.step (addrFault_keeps ..) rfl ?_
          exact Keeps.refl _ _
        · exact Keeps.refl _ _
      · refine Keeps.step (addrFault_keeps ..) rfl ?_
        exact Keeps.refl _ _
      · exact Keeps.refl _ _

theorem joinAddress_keeps (s : State) : Keeps 77371773585781711954799106 s (joinAddress s) := by
  unfold joinAddress
  refine Keeps.ite ?_ ?_
  · refine Keeps.step (takeAddress_keeps ..) rfl ?_
    refine Keeps.step (takeAddress_keeps ..) rfl ?_
    exact Keeps.refl _ _
  · exact Keeps.refl _ _

theorem effNode_keeps (s : State) (x1 x2 x3 : Nat) : Keeps 220588681997581017044163197762 s (effNode s x1 x2 x3) := by
  unfold effNode
  refine Keeps.ite ?_ ?_
  · refine Keeps.step (joinAddress_keeps ..) rfl ?_
    refine Keeps.step (stateReq_keeps ..) rfl ?_
    exact Keeps.refl _ _
  · refine Keeps.ite ?_ ?_
    · refine Keeps.step (resetCtrl_keeps ..) rfl ?_
      exact Keeps.refl _ _
    · refine Keeps.ite ?_ ?_
      · refine Keeps.ite ?_ ?_
        · refine Keeps.step (State.wr_keeps 91 (.inl rfl) ..) rfl ?_
          exact Keeps.refl _ _
        · exact Keeps.refl _ _
      · exact Keeps.refl _ _

theorem shaperWritten_keeps (s : State) (x1 x2 : Nat) : Keeps 521120804926821253634 s (shaperWritten s x1 x2) := by
  unfold shaperWritten
  refine Keeps.ite ?_ ?_
  · refine Keeps.step (shaperLatch_keeps ..) rfl ?_
    refine Keeps.step (setShaper_keeps ..) rfl ?_
    refine Keeps.step (shapeTo_keeps ..) rfl ?_
    exact Keeps.refl _ _
  · refine Keeps.step (setShaper_keeps ..) rfl ?_
    refine Keeps.step (shapeTo_keeps ..) rfl ?_
    exact Keeps.refl _ _

theorem effPort_keeps (s : State) (x1 x2 : Nat) : Keeps 521120804926821253634 s (effPort s x1 x2) := by
  unfold effPort
  refine Keeps.ite ?_ ?_
  · refine Keeps.step (shaperWritten_keeps ..) rfl ?_
    exact Keeps.refl _ _
  · exact Keeps.refl _ _

theorem bbCtrl_keeps (s : State) (x1 x2 : Nat) : Keeps 8589934592 s (bbCtrl s x1 x2) := by
  unfold bbCtrl
  refine Keeps.ite ?_ ?_
  · refine Keeps.step (Keeps.put_ao ..) rfl ?_
    exact Keeps.refl _ _
  · exact Keeps.refl _ _

end Sys2Proof.Machine
end

