-- ==== Sys2Proof/Laws/KeepsC.lean ====
section
/-!
SUPPORT. What each operation can change, part 3 of 6: one lemma per operation and per meaning, callees first.
-/

namespace Sys2Proof.Machine

theorem bootGood_keeps (s : State) (x1 : Nat) : Keeps 9671406556918175858950146 s (bootGood s x1) := by
  unfold bootGood
  refine Keeps.ite ?_ ?_
  · exact Keeps.refl _ _
  · refine Keeps.ite ?_ ?_
    · refine Keeps.step (State.wr_keeps 83 group_sec ..) rfl ?_
      refine Keeps.step (Keeps.put_mgmt ..) rfl ?_
      refine Keeps.step (Keeps.put_ao ..) rfl ?_
      exact Keeps.refl _ _
    · refine Keeps.step (Keeps.put_ao ..) rfl ?_
      exact Keeps.refl _ _

theorem pwrCtrl_keeps (s : State) (x1 : Nat) : Keeps 756099757782633733423618 s (pwrCtrl s x1) := by
  unfold pwrCtrl
  refine Keeps.step (domainsApply_keeps ..) rfl ?_
  refine Keeps.step (State.wr_keeps 79 group_mgmt ..) rfl ?_
  refine Keeps.step (State.wr_keeps 79 group_mgmt ..) rfl ?_
  refine Keeps.step (State.wr_keeps 79 group_mgmt ..) rfl ?_
  exact Keeps.refl _ _

theorem dawnReq_keeps (s : State) (x1 x2 : Nat) : Keeps 39614081257132169904873538050 s (dawnReq s x1 x2) := by
  unfold dawnReq
  refine Keeps.ite ?_ ?_
  · exact Keeps.refl _ _
  · refine Keeps.step (requestWarm_keeps ..) rfl ?_
    refine Keeps.step (Keeps.put_ao ..) rfl ?_
    exact Keeps.refl _ _

theorem effMgmt_keeps (s : State) (x1 x2 x3 : Nat) : Keeps 39624508763446868472492982786 s (effMgmt s x1 x2 x3) := by
  unfold effMgmt
  refine Keeps.ite ?_ ?_
  · refine Keeps.step (pwrCtrl_keeps ..) rfl ?_
    exact Keeps.refl _ _
  · refine Keeps.ite ?_ ?_
    · refine Keeps.ite ?_ ?_
      · refine Keeps.step (bootGood_keeps ..) rfl ?_
        exact Keeps.refl _ _
      · exact Keeps.refl _ _
    · refine Keeps.ite ?_ ?_
      · refine Keeps.ite ?_ ?_
        · refine Keeps.step (dawnReq_keeps ..) rfl ?_
          exact Keeps.refl _ _
        · exact Keeps.refl _ _
      · refine Keeps.ite ?_ ?_
        · refine Keeps.step (Keeps.put_ao ..) rfl ?_
          exact Keeps.refl _ _
        · refine Keeps.ite ?_ ?_
          · refine Keeps.step (Keeps.put_ao ..) rfl ?_
            exact Keeps.refl _ _
          · refine Keeps.ite ?_ ?_
            · refine Keeps.step (bbCtrl_keeps ..) rfl ?_
              exact Keeps.refl _ _
            · exact Keeps.refl _ _

theorem pushMsg_keeps (s : State) (x1 x2 x3 : Nat) : Keeps 521247468666341188098 s (pushMsg s x1 x2 x3) := by
  unfold pushMsg
  refine Keeps.ite ?_ ?_
  · refine Keeps.step (retainMsg_keeps ..) rfl ?_
    refine Keeps.step (State.wr_keeps 55 group_sestx ..) rfl ?_
    refine Keeps.step (State.wr_keeps 55 group_sestx ..) rfl ?_
    refine Keeps.step (State.wr_keeps 55 group_sestx ..) rfl ?_
    exact Keeps.refl _ _
  · refine Keeps.step (State.inc_keeps 55 group_sestx ..) rfl ?_
    refine Keeps.step (State.wr_keeps 55 group_sestx ..) rfl ?_
    refine Keeps.step (State.wr_keeps 55 group_sestx ..) rfl ?_
    exact Keeps.refl _ _

theorem sesDisable_keeps (s : State) (x1 : Nat) : Keeps 521157115198817059330 s (sesDisable s x1) := by
  unfold sesDisable
  refine Keeps.step (raiseIf_keeps ..) rfl ?_
  refine Keeps.step (State.inc_keeps 55 group_sestx ..) rfl ?_
  refine Keeps.step (setStalled_keeps ..) rfl ?_
  refine Keeps.step (State.wri_keeps 55 group_sestx ..) rfl ?_
  refine Keeps.step (State.wri_keeps 55 group_sestx ..) rfl ?_
  refine Keeps.step (setRet_keeps ..) rfl ?_
  exact Keeps.refl _ _

theorem sesEnable_keeps (s : State) (x1 : Nat) : Keeps 36029896530722818 s (sesEnable s x1) := by
  unfold sesEnable
  refine Keeps.step (setTx_keeps ..) rfl ?_
  refine Keeps.step (State.wri_keeps 55 group_sestx ..) rfl ?_
  refine Keeps.step (State.wri_keeps 55 group_sestx ..) rfl ?_
  refine Keeps.step (State.wri_keeps 55 group_sestx ..) rfl ?_
  refine Keeps.step (State.wri_keeps 55 group_sestx ..) rfl ?_
  refine Keeps.step (State.wri_keeps 55 group_sestx ..) rfl ?_
  refine Keeps.step (State.wri_keeps 55 group_sestx ..) rfl ?_
  exact Keeps.refl _ _

theorem effSesTx_keeps (s : State) (x1 x2 x3 : Nat) : Keeps 521247468666341188098 s (effSesTx s x1 x2 x3) := by
  unfold effSesTx
  refine Keeps.ite ?_ ?_
  · refine Keeps.step (pushMsg_keeps ..) rfl ?_
    exact Keeps.refl _ _
  · refine Keeps.ite ?_ ?_
    · refine Keeps.ite ?_ ?_
      · exact Keeps.refl _ _
      · refine Keeps.ite ?_ ?_
        · refine Keeps.step (sesDone_keeps ..) rfl ?_
          refine Keeps.step (sesEnable_keeps ..) rfl ?_
          exact Keeps.refl _ _
        · refine Keeps.step (sesDisable_keeps ..) rfl ?_
          exact Keeps.refl _ _
    · exact Keeps.refl _ _

theorem swevSet_keeps (s : State) (x1 : Nat) : Keeps 521120532247937548802 s (swevSet s x1) := by
  unfold swevSet
  refine Keeps.each (fun _ _ => ?_) ?_
  · refine Keeps.ite ?_ ?_
    · refine Keeps.step (rise_keeps ..) rfl ?_
      refine Keeps.step (State.setBit_keeps 43 (group_ev3 rfl) ..) rfl ?_
      exact Keeps.refl _ _
    · exact Keeps.refl _ _
  · exact Keeps.refl _ _

theorem routerComplete_keeps (s : State) (x1 x2 : Nat) : Keeps 2147483648 s (routerComplete s x1 x2) := by
  unfold routerComplete
  refine Keeps.step (Keeps.put_router ..) rfl ?_
  exact Keeps.refl _ _

theorem effEvent_keeps (s : State) (x1 x2 x3 : Nat) : Keeps 521120532247937548802 s (effEvent s x1 x2 x3) := by
  unfold effEvent
  refine Keeps.ite ?_ ?_
  · exact Keeps.refl _ _
  · refine Keeps.ite ?_ ?_
    · refine Keeps.step (routerComplete_keeps ..) rfl ?_
      exact Keeps.refl _ _
    · refine Keeps.ite ?_ ?_
      · refine Keeps.step (swevSet_keeps ..) rfl ?_
        exact Keeps.refl _ _
      · exact Keeps.refl _ _

theorem writeEffect_keeps (x0 : State) (s : State) (x2 : By) (x3 x4 x5 : Nat) :
    Keeps 633825300114114699769063406414 s (writeEffect x0 s x2 x3 x4 x5) := by
  unfold writeEffect
  refine Keeps.ite ?_ ?_
  · refine Keeps.step (effHdr_keeps ..) rfl ?_
    exact Keeps.refl _ _
  · split
    · exact Keeps.refl _ _
    · split
      · refine Keeps.step (effNode_keeps ..) rfl ?_
        exact Keeps.refl _ _
      · refine Keeps.step (effEvent_keeps ..) rfl ?_
        exact Keeps.refl _ _
      · refine Keeps.step (effTime_keeps ..) rfl ?_
        exact Keeps.refl _ _
      · refine Keeps.ite ?_ ?_
        · refine Keeps.step (cntClear_keeps ..) rfl ?_
          exact Keeps.refl _ _
        · exact Keeps.refl _ _
      · refine Keeps.ite ?_ ?_
        · refine Keeps.step (cntClear_keeps ..) rfl ?_
          exact Keeps.refl _ _
        · exact Keeps.refl _ _
      · refine Keeps.step (effPort_keeps ..) rfl ?_
        exact Keeps.refl _ _
      · refine Keeps.ite ?_ ?_
        · refine Keeps.step (judgeOvercommit_keeps ..) rfl ?_
          exact Keeps.refl _ _
        · exact Keeps.refl _ _
      · refine Keeps.ite ?_ ?_
        · refine Keeps.step (readyWrite_keeps ..) rfl ?_
          exact Keeps.refl _ _
        · refine Keeps.ite ?_ ?_
          · refine Keeps.step (readyWrite_keeps ..) rfl ?_
            exact Keeps.refl _ _
          · refine Keeps.ite ?_ ?_
            · refine Keeps.step (cntClear_keeps ..) rfl ?_
              exact Keeps.refl _ _
            · exact Keeps.refl _ _
      · refine Keeps.ite ?_ ?_
        · refine Keeps.step (cntClear_keeps ..) rfl ?_
          exact Keeps.refl _ _
        · exact Keeps.refl _ _
      · refine Keeps.step (effTxn_keeps ..) rfl ?_
        exact Keeps.refl _ _
      · refine Keeps.ite ?_ ?_
        · refine Keeps.step (cntClear_keeps ..) rfl ?_
          exact Keeps.refl _ _
        · exact Keeps.refl _ _
      · refine Keeps.step (effQueue_keeps ..) rfl ?_
        exact Keeps.refl _ _
      · refine Keeps.ite ?_ ?_
        · refine Keeps.step (effSesTx_keeps ..) rfl ?_
          exact Keeps.refl _ _
        · refine Keeps.step (effSesRx_keeps ..) rfl ?_
          exact Keeps.refl _ _
      · refine Keeps.step (effTrack_keeps ..) rfl ?_
        exact Keeps.refl _ _
      · refine Keeps.step (effDrift_keeps ..) rfl ?_
        exact Keeps.refl _ _
      · refine Keeps.ite ?_ ?_
        · exact Keeps.refl _ _
        · refine Keeps.when (fun _ => ?_) ?_
          · refine Keeps.step (judgeLead_keeps ..) rfl ?_
            exact Keeps.refl _ _
          · refine Keeps.step (judgeZone_keeps ..) rfl ?_
            exact Keeps.refl _ _
      · refine Keeps.step (effEdge_keeps ..) rfl ?_
        exact Keeps.refl _ _
      · refine Keeps.ite ?_ ?_
        · refine Keeps.step (cntClear_keeps ..) rfl ?_
          exact Keeps.refl _ _
        · exact Keeps.refl _ _
      · refine Keeps.step (effField_keeps ..) rfl ?_
        exact Keeps.refl _ _
      · refine Keeps.step (effCan_keeps ..) rfl ?_
        exact Keeps.refl _ _
      · refine Keeps.ite ?_ ?_
        · refine Keeps.step (uartSend_keeps ..) rfl ?_
          exact Keeps.refl _ _
        · exact Keeps.refl _ _
      · refine Keeps.step (effPio_keeps ..) rfl ?_
        exact Keeps.refl _ _
      · refine Keeps.step (effEth_keeps ..) rfl ?_
        exact Keeps.refl _ _
      · refine Keeps.step (effHost_keeps ..) rfl ?_
        exact Keeps.refl _ _
      · refine Keeps.ite ?_ ?_
        · refine Keeps.step (flashCmd_keeps ..) rfl ?_
          exact Keeps.refl _ _
        · exact Keeps.refl _ _
      · refine Keeps.step (effPower_keeps ..) rfl ?_
        exact Keeps.refl _ _
      · refine Keeps.step (effBranch_keeps ..) rfl ?_
        exact Keeps.refl _ _
      · refine Keeps.step (effPd_keeps ..) rfl ?_
        exact Keeps.refl _ _
      · refine Keeps.step (effUsb_keeps ..) rfl ?_
        exact Keeps.refl _ _
      · refine Keeps.step (effCores_keeps ..) rfl ?_
        exact Keeps.refl _ _
      · refine Keeps.step (effMgmt_keeps ..) rfl ?_
        exact Keeps.refl _ _
      · refine Keeps.step (effLog_keeps ..) rfl ?_
        exact Keeps.refl _ _
      · refine Keeps.step (effUpdate_keeps ..) rfl ?_
        exact Keeps.refl _ _
      · refine Keeps.step (effSec_keeps ..) rfl ?_
        exact Keeps.refl _ _
      · refine Keeps.step (effEcl_keeps ..) rfl ?_
        exact Keeps.refl _ _
      · exact Keeps.refl _ _
      · exact Keeps.refl _ _
      · exact Keeps.refl _ _
      · exact Keeps.refl _ _
      · exact Keeps.refl _ _
      · exact Keeps.refl _ _
      · exact Keeps.refl _ _

theorem stage_keeps (s : State) (x1 : Nat) (x2 : Fld) (x3 : Nat) : Keeps 12 s (stage s x1 x2 x3) := by
  unfold stage
  refine Keeps.ite ?_ ?_
  · refine Keeps.step (Keeps.put_stagedLate ..) rfl ?_
    exact Keeps.refl _ _
  · refine Keeps.step (Keeps.put_staged ..) rfl ?_
    exact Keeps.refl _ _

theorem storeField_keeps (s : State) (x1 : By) (x2 : Nat) (x3 : Fld) (x4 : Nat) :
    Keeps 633825300114114699648839974926 s (storeField s x1 x2 x3 x4) := by
  unfold storeField
  refine Keeps.ite ?_ ?_
  · exact Keeps.refl _ _
  · split
    · refine Keeps.step (State.wri_keepsAll ..) rfl ?_
      exact Keeps.refl _ _
    · refine Keeps.step (stage_keeps ..) rfl ?_
      exact Keeps.refl _ _
    · refine Keeps.step (State.wri_keepsAll ..) rfl ?_
      exact Keeps.refl _ _
    · refine Keeps.ite ?_ ?_
      · refine Keeps.step (State.wr_keepsAll ..) rfl ?_
        exact Keeps.refl _ _
      · exact Keeps.refl _ _
    · exact Keeps.refl _ _
    · exact Keeps.refl _ _
    · exact Keeps.refl _ _

theorem stageProgram_keeps (s : State) (x1 x2 x3 : Nat) : Keeps 295147906278881230850 s (stageProgram s x1 x2 x3) := by
  unfold stageProgram
  refine Keeps.step (State.wr_keeps 68 group_pio ..) rfl ?_
  refine Keeps.ite ?_ ?_
  · refine Keeps.step (State.setEng_keeps ..) rfl ?_
    exact Keeps.refl _ _
  · refine Keeps.step (State.setEng_keeps ..) rfl ?_
    exact Keeps.refl _ _

theorem storeWord_keeps (s : State) (x1 : By) (x2 x3 x4 : Nat) :
    Keeps 633825300114114699648856752142 s (storeWord s x1 x2 x3 x4) := by
  unfold storeWord
  refine Keeps.ite ?_ ?_
  · refine Keeps.ite ?_ ?_
    · refine Keeps.step (stageProgram_keeps ..) rfl ?_
      exact Keeps.refl _ _
    · exact Keeps.refl _ _
  · refine Keeps.foldl (fun _ _ => ?_) _ _ ?_
    · refine Keeps.step (storeField_keeps ..) rfl ?_
      exact Keeps.refl _ _
    · exact Keeps.refl _ _

theorem applyWrite_keeps (s : State) (x1 : By) (x2 x3 x4 : Nat) :
    Keeps 633825300114114699769065503566 s (applyWrite s x1 x2 x3 x4) := by
  unfold applyWrite
  refine Keeps.step (writeEffect_keeps ..) rfl ?_
  refine Keeps.step (bindQueues_keeps ..) rfl ?_
  refine Keeps.step (storeWord_keeps ..) rfl ?_
  refine Keeps.step (beforeWrite_keeps ..) rfl ?_
  exact Keeps.refl _ _

theorem arm_keeps (s : State) (x1 : By) (x2 : Nat) : Keeps 512 s (arm s x1 x2) := by
  unfold arm
  refine Keeps.step (Keeps.put_node ..) rfl ?_
  exact Keeps.refl _ _

theorem acceptedWrite_keeps (s : State) (x1 : By) (x2 x3 x4 : Nat) :
    Keeps 633825300114114699769065503566 s (acceptedWrite s x1 x2 x3 x4).2 := by
  unfold acceptedWrite
  refine Keeps.ite_snd ?_ ?_
  · refine Keeps.step (arm_keeps ..) rfl ?_
    exact Keeps.refl _ _
  · refine Keeps.ite_snd ?_ ?_
    · refine Keeps.step (evout_keeps ..) rfl ?_
      exact Keeps.refl _ _
    · refine Keeps.step (applyWrite_keeps ..) rfl ?_
      exact Keeps.refl _ _

theorem State.accFault_keeps (s : State) (x1 x2 : Nat) : Keeps 32 s (State.accFault s x1 x2) := by
  unfold State.accFault
  refine Keeps.step (Keeps.put_accFaults ..) rfl ?_
  exact Keeps.refl _ _

theorem dropArms_keeps (s : State) (x1 : Nat) : Keeps 512 s (dropArms s x1) := by
  unfold dropArms
  refine Keeps.step (Keeps.put_node ..) rfl ?_
  exact Keeps.refl _ _

theorem reject_keeps (s : State) (x1 : By) (x2 x3 x4 : Nat) (x5 : Option Cls) :
    Keeps 17331161071115847300432265986 s (reject s x1 x2 x3 x4 x5) := by
  unfold reject
  refine Keeps.step (raiseIf_keeps ..) rfl ?_
  refine Keeps.step (raise_keeps ..) rfl ?_
  refine Keeps.ite ?_ ?_
  · refine Keeps.step (State.wr_keeps 91 (.inl rfl) ..) rfl ?_
    refine Keeps.step (State.inc_keeps 93 (.inl rfl) ..) rfl ?_
    exact Keeps.refl _ _
  · refine Keeps.step (State.wr_keeps 92 (.inl rfl) ..) rfl ?_
    refine Keeps.step (State.wr_keeps 92 (.inl rfl) ..) rfl ?_
    refine Keeps.step (State.wr_keeps 92 (.inl rfl) ..) rfl ?_
    refine Keeps.step (State.wr_keeps 91 (.inl rfl) ..) rfl ?_
    refine Keeps.step (State.wr_keeps 91 (.inl rfl) ..) rfl ?_
    refine Keeps.step (State.wr_keeps 91 (.inl rfl) ..) rfl ?_
    refine Keeps.step (State.wr_keeps 91 (.inl rfl) ..) rfl ?_
    refine Keeps.step (orDraw_keeps ..) rfl ?_
    refine Keeps.step (orDraw_keeps ..) rfl ?_
    refine Keeps.step (State.inc_keeps 93 (.inl rfl) ..) rfl ?_
    exact Keeps.refl _ _

theorem refusedExtra_keeps (s : State) (x1 x2 x3 : Nat) : Keeps 633825300114114699719854785026 s (refusedExtra s x1 x2 x3) := by
  unfold refusedExtra
  refine Keeps.ite ?_ ?_
  · refine Keeps.step (pioEv_keeps ..) rfl ?_
    refine Keeps.step (State.inc_keepsAll ..) rfl ?_
    refine Keeps.step (State.wr_keepsAll ..) rfl ?_
    exact Keeps.refl _ _
  · refine Keeps.ite ?_ ?_
    · refine Keeps.step (State.wr_keeps 75 group_pd ..) rfl ?_
      exact Keeps.refl _ _
    · exact Keeps.refl _ _

theorem busWrite.refusedIf_keeps (x0 : Nat) (s : State) (x2 x3 x4 : Nat) :
    Keeps 633825300114114699719854785026 s (busWrite.refusedIf x0 s x2 x3 x4) := by
  unfold busWrite.refusedIf
  refine Keeps.ite ?_ ?_
  · refine Keeps.step (refusedExtra_keeps ..) rfl ?_
    exact Keeps.refl _ _
  · exact Keeps.refl _ _

theorem eclipseWrite_keeps (s : State) (x1 : By) (x2 x3 x4 : Nat) :
    Keeps 633825300114114699769065503566 s (eclipseWrite s x1 x2 x3 x4) := by
  unfold eclipseWrite
  refine Keeps.ite ?_ ?_
  · refine Keeps.ite ?_ ?_
    · refine Keeps.step (arm_keeps ..) rfl ?_
      refine Keeps.step (dropArms_keeps ..) rfl ?_
      exact Keeps.refl _ _
    · refine Keeps.step (dropArms_keeps ..) rfl ?_
      exact Keeps.refl _ _
  · refine Keeps.ite ?_ ?_
    · refine Keeps.step (dropArms_keeps ..) rfl ?_
      exact Keeps.refl _ _
    · refine Keeps.step (applyWrite_keeps ..) rfl ?_
      refine Keeps.step (dropArms_keeps ..) rfl ?_
      exact Keeps.refl _ _

theorem busWrite_keeps (s : State) (x1 : By) (x2 x3 x4 : Nat) :
    Keeps 633825300114114699769065503598 s (busWrite s x1 x2 x3 x4).2 := by
  unfold busWrite
  refine Keeps.ite_snd ?_ ?_
  · exact Keeps.refl _ _
  · refine Keeps.ite_snd ?_ ?_
    · refine Keeps.ite ?_ ?_
      · refine Keeps.step (eclipseWrite_keeps ..) rfl ?_
        exact Keeps.refl _ _
      · exact Keeps.refl _ _
    · refine Keeps.ite_snd ?_ ?_
      · exact Keeps.refl _ _
      · refine Keeps.ite_snd ?_ ?_
        · refine Keeps.ite ?_ ?_
          · exact Keeps.refl _ _
          · refine Keeps.step (State.accFault_keeps ..) rfl ?_
            exact Keeps.refl _ _
        · refine Keeps.ite_snd ?_ ?_
          · exact Keeps.refl _ _
          · refine Keeps.ite_snd ?_ ?_
            · refine Keeps.step (dropArms_keeps ..) rfl ?_
              exact Keeps.refl _ _
            · split
              · refine Keeps.step (busWrite.refusedIf_keeps ..) rfl ?_
                refine Keeps.step (reject_keeps ..) rfl ?_
                refine Keeps.step (dropArms_keeps ..) rfl ?_
                exact Keeps.refl _ _
              · refine Keeps.step (acceptedWrite_keeps ..) rfl ?_
                refine Keeps.step (dropArms_keeps ..) rfl ?_
                exact Keeps.refl _ _

theorem busStore_keeps (s : State) (x1 : By) (x2 x3 x4 : Nat) :
    Keeps 633825300114114699769065503598 s (busStore s x1 x2 x3 x4) := by
  unfold busStore
  refine Keeps.step (busWrite_keeps ..) rfl ?_
  exact Keeps.refl _ _

theorem execActGo_keeps (x0 : By) (s : State) : OutKeeps 633825300114114699769065503598 s (execActGo x0 s) := by
  unfold execActGo
  refine OutKeeps.next ?_
  refine Keeps.step (busStore_keeps ..) rfl ?_
  exact Keeps.refl _ _

theorem execActReady_keeps (x0 : By) (x1 : Nat) (s : State) : OutKeeps 633825300114114699769065503598 s (execActReady x0 x1 s) := by
  unfold execActReady
  refine OutKeeps.next ?_
  refine Keeps.step (busStore_keeps ..) rfl ?_
  exact Keeps.refl _ _

theorem execActivate_keeps (s : State) : OutKeeps 39618917481531150799675066882 s (execActivate s) := by
  unfold execActivate
  refine OutKeeps.next ?_
  refine Keeps.ite ?_ ?_
  · split
    · refine Keeps.step (actRequest_keeps ..) rfl ?_
      refine Keeps.step (Keeps.put_time (ht := ⟨rfl, rfl⟩) ..) rfl ?_
      exact Keeps.refl _ _
    · exact Keeps.refl _ _
  · exact Keeps.refl _ _

theorem tempReading_keeps (s : State) (x1 : Nat) (x2 : Int) : Keeps 3627298579367373728383746 s (tempReading s x1 x2) := by
  unfold tempReading
  refine Keeps.ite ?_ ?_
  · refine Keeps.ite ?_ ?_
    · refine Keeps.step (hubLog_keeps ..) rfl ?_
      refine Keeps.step (raise_keeps ..) rfl ?_
      refine Keeps.step (State.setBit_keeps 80 group_sens ..) rfl ?_
      refine Keeps.ite ?_ ?_
      · refine Keeps.step (hubLog_keeps ..) rfl ?_
        refine Keeps.step (raise_keeps ..) rfl ?_
        refine Keeps.step (State.setBit_keeps 80 group_sens ..) rfl ?_
        refine Keeps.step (Keeps.put_mgmt ..) rfl ?_
        refine Keeps.ite ?_ ?_
        · refine Keeps.step (Keeps.put_mgmt ..) rfl ?_
          refine Keeps.step (State.wr_keeps 80 group_sens ..) rfl ?_
          exact Keeps.refl _ _
        · refine Keeps.step (State.wr_keeps 80 group_sens ..) rfl ?_
          exact Keeps.refl _ _
      · refine Keeps.ite ?_ ?_
        · refine Keeps.step (Keeps.put_mgmt ..) rfl ?_
          refine Keeps.step (State.wr_keeps 80 group_sens ..) rfl ?_
          exact Keeps.refl _ _
        · refine Keeps.step (State.wr_keeps 80 group_sens ..) rfl ?_
          exact Keeps.refl _ _
    · refine Keeps.step (raise_keeps ..) rfl ?_
      refine Keeps.step (State.setBit_keeps 80 group_sens ..) rfl ?_
      refine Keeps.ite ?_ ?_
      · refine Keeps.step (hubLog_keeps ..) rfl ?_
        refine Keeps.step (raise_keeps ..) rfl ?_
        refine Keeps.step (State.setBit_keeps 80 group_sens ..) rfl ?_
        refine Keeps.step (Keeps.put_mgmt ..) rfl ?_
        refine Keeps.ite ?_ ?_
        · refine Keeps.step (Keeps.put_mgmt ..) rfl ?_
          refine Keeps.step (State.wr_keeps 80 group_sens ..) rfl ?_
          exact Keeps.refl _ _
        · refine Keeps.step (State.wr_keeps 80 group_sens ..) rfl ?_
          exact Keeps.refl _ _
      · refine Keeps.ite ?_ ?_
        · refine Keeps.step (Keeps.put_mgmt ..) rfl ?_
          refine Keeps.step (State.wr_keeps 80 group_sens ..) rfl ?_
          exact Keeps.refl _ _
        · refine Keeps.step (State.wr_keeps 80 group_sens ..) rfl ?_
          exact Keeps.refl _ _
  · refine Keeps.ite ?_ ?_
    · refine Keeps.step (hubLog_keeps ..) rfl ?_
      refine Keeps.step (raise_keeps ..) rfl ?_
      refine Keeps.step (State.setBit_keeps 80 group_sens ..) rfl ?_
      refine Keeps.step (Keeps.put_mgmt ..) rfl ?_
      refine Keeps.ite ?_ ?_
      · refine Keeps.step (Keeps.put_mgmt ..) rfl ?_
        refine Keeps.step (State.wr_keeps 80 group_sens ..) rfl ?_
        exact Keeps.refl _ _
      · refine Keeps.step (State.wr_keeps 80 group_sens ..) rfl ?_
        exact Keeps.refl _ _
    · refine Keeps.ite ?_ ?_
      · refine Keeps.step (Keeps.put_mgmt ..) rfl ?_
        refine Keeps.step (State.wr_keeps 80 group_sens ..) rfl ?_
        exact Keeps.refl _ _
      · refine Keeps.step (State.wr_keeps 80 group_sens ..) rfl ?_
        exact Keeps.refl _ _

theorem adcCopies_keeps (s : State) (x1 : Nat) : Keeps 3627298579367373728383746 s (adcCopies s x1) := by
  unfold adcCopies
  refine Keeps.ite ?_ ?_
  · refine Keeps.step (tempReading_keeps ..) rfl ?_
    exact Keeps.refl _ _
  · exact Keeps.refl _ _

theorem adcResult_keeps (s : State) (x1 x2 : Nat) (x3 : Int) : Keeps 558014011599263630082 s (adcResult s x1 x2 x3) := by
  unfold adcResult
  split
  · dsimp only
    refine Keeps.ite ?_ ?_
    · refine Keeps.ite ?_ ?_
      · refine Keeps.step (raise_keeps ..) rfl ?_
        refine Keeps.step (State.setBit_keeps 65 group_adc ..) rfl ?_
        refine Keeps.step (State.wr_keeps 65 group_adc ..) rfl ?_
        refine Keeps.step (State.wr_keeps 65 group_adc ..) rfl ?_
        refine Keeps.step (State.wr_keeps 65 group_adc ..) rfl ?_
        refine Keeps.step (State.wr_keeps 65 group_adc ..) rfl ?_
        refine Keeps.ite_snd ?_ ?_
        · exact Keeps.refl _ _
        · refine Keeps.step (State.draw_keeps ..) rfl ?_
          exact Keeps.refl _ _
      · refine Keeps.step (State.wr_keeps 65 group_adc ..) rfl ?_
        refine Keeps.step (State.wr_keeps 65 group_adc ..) rfl ?_
        refine Keeps.step (State.wr_keeps 65 group_adc ..) rfl ?_
        refine Keeps.step (State.wr_keeps 65 group_adc ..) rfl ?_
        refine Keeps.ite_snd ?_ ?_
        · exact Keeps.refl _ _
        · refine Keeps.step (State.draw_keeps ..) rfl ?_
          exact Keeps.refl _ _
    · refine Keeps.ite ?_ ?_
      · refine Keeps.step (raise_keeps ..) rfl ?_
        refine Keeps.step (State.wr_keeps 65 group_adc ..) rfl ?_
        refine Keeps.ite ?_ ?_
        · refine Keeps.step (raise_keeps ..) rfl ?_
          refine Keeps.step (State.setBit_keeps 65 group_adc ..) rfl ?_
          refine Keeps.step (State.wr_keeps 65 group_adc ..) rfl ?_
          refine Keeps.step (State.wr_keeps 65 group_adc ..) rfl ?_
          refine Keeps.step (State.wr_keeps 65 group_adc ..) rfl ?_
          refine Keeps.step (State.wr_keeps 65 group_adc ..) rfl ?_
          refine Keeps.ite_snd ?_ ?_
          · exact Keeps.refl _ _
          · refine Keeps.step (State.draw_keeps ..) rfl ?_
            exact Keeps.refl _ _
        · refine Keeps.step (State.wr_keeps 65 group_adc ..) rfl ?_
          refine Keeps.step (State.wr_keeps 65 group_adc ..) rfl ?_
          refine Keeps.step (State.wr_keeps 65 group_adc ..) rfl ?_
          refine Keeps.step (State.wr_keeps 65 group_adc ..) rfl ?_
          refine Keeps.ite_snd ?_ ?_
          · exact Keeps.refl _ _
          · refine Keeps.step (State.draw_keeps ..) rfl ?_
            exact Keeps.refl _ _
      · refine Keeps.step (State.wr_keeps 65 group_adc ..) rfl ?_
        refine Keeps.step (Keeps.put_field ..) rfl ?_
        refine Keeps.ite ?_ ?_
        · refine Keeps.step (raise_keeps ..) rfl ?_
          refine Keeps.step (State.setBit_keeps 65 group_adc ..) rfl ?_
          refine Keeps.step (State.wr_keeps 65 group_adc ..) rfl ?_
          refine Keeps.step (State.wr_keeps 65 group_adc ..) rfl ?_
          refine Keeps.step (State.wr_keeps 65 group_adc ..) rfl ?_
          refine Keeps.step (State.wr_keeps 65 group_adc ..) rfl ?_
          refine Keeps.ite_snd ?_ ?_
          · exact Keeps.refl _ _
          · refine Keeps.step (State.draw_keeps ..) rfl ?_
            exact Keeps.refl _ _
        · refine Keeps.step (State.wr_keeps 65 group_adc ..) rfl ?_
          refine Keeps.step (State.wr_keeps 65 group_adc ..) rfl ?_
          refine Keeps.step (State.wr_keeps 65 group_adc ..) rfl ?_
          refine Keeps.step (State.wr_keeps 65 group_adc ..) rfl ?_
          refine Keeps.ite_snd ?_ ?_
          · exact Keeps.refl _ _
          · refine Keeps.step (State.draw_keeps ..) rfl ?_
            exact Keeps.refl _ _
  · dsimp only
    refine Keeps.ite ?_ ?_
    · refine Keeps.ite ?_ ?_
      · refine Keeps.step (raise_keeps ..) rfl ?_
        refine Keeps.step (State.setBit_keeps 65 group_adc ..) rfl ?_
        refine Keeps.step (State.wr_keeps 65 group_adc ..) rfl ?_
        refine Keeps.step (State.wr_keeps 65 group_adc ..) rfl ?_
        refine Keeps.step (State.wr_keeps 65 group_adc ..) rfl ?_
        refine Keeps.step (State.wr_keeps 65 group_adc ..) rfl ?_
        refine Keeps.ite_snd ?_ ?_
        · exact Keeps.refl _ _
        · refine Keeps.step (State.draw_keeps ..) rfl ?_
          exact Keeps.refl _ _
      · refine Keeps.step (State.wr_keeps 65 group_adc ..) rfl ?_
        refine Keeps.step (State.wr_keeps 65 group_adc ..) rfl ?_
        refine Keeps.step (State.wr_keeps 65 group_adc ..) rfl ?_
        refine Keeps.step (State.wr_keeps 65 group_adc ..) rfl ?_
        refine Keeps.ite_snd ?_ ?_
        · exact Keeps.refl _ _
        · refine Keeps.step (State.draw_keeps ..) rfl ?_
          exact Keeps.refl _ _
    · refine Keeps.ite ?_ ?_
      · refine Keeps.step (raise_keeps ..) rfl ?_
        refine Keeps.step (State.wr_keeps 65 group_adc ..) rfl ?_
        refine Keeps.ite ?_ ?_
        · refine Keeps.step (raise_keeps ..) rfl ?_
          refine Keeps.step (State.setBit_keeps 65 group_adc ..) rfl ?_
          refine Keeps.step (State.wr_keeps 65 group_adc ..) rfl ?_
          refine Keeps.step (State.wr_keeps 65 group_adc ..) rfl ?_
          refine Keeps.step (State.wr_keeps 65 group_adc ..) rfl ?_
          refine Keeps.step (State.wr_keeps 65 group_adc ..) rfl ?_
          refine Keeps.ite_snd ?_ ?_
          · exact Keeps.refl _ _
          · refine Keeps.step (State.draw_keeps ..) rfl ?_
            exact Keeps.refl _ _
        · refine Keeps.step (State.wr_keeps 65 group_adc ..) rfl ?_
          refine Keeps.step (State.wr_keeps 65 group_adc ..) rfl ?_
          refine Keeps.step (State.wr_keeps 65 group_adc ..) rfl ?_
          refine Keeps.step (State.wr_keeps 65 group_adc ..) rfl ?_
          refine Keeps.ite_snd ?_ ?_
          · exact Keeps.refl _ _
          · refine Keeps.step (State.draw_keeps ..) rfl ?_
            exact Keeps.refl _ _
      · refine Keeps.step (State.wr_keeps 65 group_adc ..) rfl ?_
        refine Keeps.step (Keeps.put_field ..) rfl ?_
        refine Keeps.ite ?_ ?_
        · refine Keeps.step (raise_keeps ..) rfl ?_
          refine Keeps.step (State.setBit_keeps 65 group_adc ..) rfl ?_
          refine Keeps.step (State.wr_keeps 65 group_adc ..) rfl ?_
          refine Keeps.step (State.wr_keeps 65 group_adc ..) rfl ?_
          refine Keeps.step (State.wr_keeps 65 group_adc ..) rfl ?_
          refine Keeps.step (State.wr_keeps 65 group_adc ..) rfl ?_
          refine Keeps.ite_snd ?_ ?_
          · exact Keeps.refl _ _
          · refine Keeps.step (State.draw_keeps ..) rfl ?_
            exact Keeps.refl _ _
        · refine Keeps.step (State.wr_keeps 65 group_adc ..) rfl ?_
          refine Keeps.step (State.wr_keeps 65 group_adc ..) rfl ?_
          refine Keeps.step (State.wr_keeps 65 group_adc ..) rfl ?_
          refine Keeps.step (State.wr_keeps 65 group_adc ..) rfl ?_
          refine Keeps.ite_snd ?_ ?_
          · exact Keeps.refl _ _
          · refine Keeps.step (State.draw_keeps ..) rfl ?_
            exact Keeps.refl _ _

theorem adcConvert_keeps (s : State) (x1 x2 : Nat) (x3 : Int) : Keeps 3627335472855521147486978 s (adcConvert s x1 x2 x3) := by
  unfold adcConvert
  refine Keeps.ite ?_ ?_
  · refine Keeps.step (Keeps.put_field ..) rfl ?_
    exact Keeps.refl _ _
  · refine Keeps.step (adcCopies_keeps ..) rfl ?_
    refine Keeps.step (adcResult_keeps ..) rfl ?_
    refine Keeps.step (Keeps.put_field ..) rfl ?_
    exact Keeps.refl _ _

theorem execAdcRound_keeps (x0 : List (Nat × Nat × Int)) (s : State) :
    OutKeeps 3627335472855521147486978 s (execAdcRound x0 s) := by
  unfold execAdcRound
  refine OutKeeps.next ?_
  refine Keeps.ite ?_ ?_
  · refine Keeps.foldl (fun _ _ => ?_) _ _ ?_
    · refine Keeps.ite ?_ ?_
      · split
        · refine Keeps.step (adcConvert_keeps ..) rfl ?_
          exact Keeps.refl _ _
        · exact Keeps.refl _ _
      · refine Keeps.step (Keeps.put_field ..) rfl ?_
        exact Keeps.refl _ _
    · exact Keeps.refl _ _
  · exact Keeps.refl _ _

theorem openBytes_keeps (s : State) (x1 : Nat) : Keeps 256 s (openBytes s x1).2 := by
  unfold openBytes
  split
  · exact Keeps.refl _ _
  · refine Keeps.step (openBytes_keeps ..) rfl ?_
    refine Keeps.step (State.draw_keeps ..) rfl ?_
    exact Keeps.refl _ _

theorem cplSend_keeps (s : State) (x1 : InReq) (x2 : Nat) (x3 : List Nat) : Keeps 521121367876774683138 s (cplSend s x1 x2 x3) := by
  unfold cplSend
  refine Keeps.step (Keeps.put_sw ..) rfl ?_
  refine Keeps.step (offerTry_keeps ..) rfl ?_
  refine Keeps.step (Keeps.put_sw ..) rfl ?_
  exact Keeps.refl _ _

theorem answerCached_keeps (s : State) (x1 : InReq) (x2 : Nat × Nat × List Nat) :
    Keeps 521125871476402053890 s (answerCached s x1 x2) := by
  unfold answerCached
  refine Keeps.step (cplSend_keeps ..) rfl ?_
  refine Keeps.ite_snd ?_ ?_
  · refine Keeps.step (openBytes_keeps ..) rfl ?_
    refine Keeps.step (State.inc_keeps 52 group_txn ..) rfl ?_
    exact Keeps.refl _ _
  · refine Keeps.step (State.inc_keeps 52 group_txn ..) rfl ?_
    exact Keeps.refl _ _

theorem setStream_keeps (s : State) (x1 : Nat) (x2 : Option StreamSlot) : Keeps 65536 s (setStream s x1 x2) := by
  unfold setStream
  refine Keeps.step (Keeps.put_txn ..) rfl ?_
  exact Keeps.refl _ _

theorem flitArrives_keeps (s : State) (x1 : Nat) : Keeps 1024 s (flitArrives s x1) := by
  unfold flitArrives
  refine Keeps.step (Keeps.put_stitch ..) rfl ?_
  exact Keeps.refl _ _

theorem fieldFlit_keeps (s : State) (x1 : Nat) : Keeps 1024 s (fieldFlit s x1) := by
  unfold fieldFlit
  refine Keeps.ite ?_ ?_
  · refine Keeps.step (flitArrives_keeps ..) rfl ?_
    exact Keeps.refl _ _
  · exact Keeps.refl _ _

theorem fieldValue_keeps (s : State) (x1 : By) (x2 : Nat) (x3 : Fld) : Keeps 256 s (fieldValue s x1 x2 x3).2 := by
  unfold fieldValue
  refine Keeps.ite_snd ?_ ?_
  · exact Keeps.refl _ _
  · split
    · exact Keeps.refl _ _
    · exact Keeps.refl _ _
    · refine Keeps.step (State.draw_keeps ..) rfl ?_
      exact Keeps.refl _ _

theorem regPeek_keeps (s : State) (x1 : By) (x2 x3 : Nat) : Keeps 256 s (regPeek s x1 x2 x3).2 := by
  unfold regPeek
  refine Keeps.foldl_snd (fun _ _ => ?_) _ _ ?_
  · refine Keeps.step (fieldValue_keeps ..) rfl ?_
    exact Keeps.refl _ _
  · exact Keeps.refl _ _

theorem readClears_keeps (s : State) (x1 : By) (x2 x3 : Nat) : Keeps 633825300114114699648839974914 s (readClears s x1 x2 x3) := by
  unfold readClears
  refine Keeps.foldl (fun _ _ => ?_) _ _ ?_
  · refine Keeps.ite ?_ ?_
    · exact Keeps.refl _ _
    · refine Keeps.ite ?_ ?_
      · refine Keeps.step (State.wr_keepsAll ..) rfl ?_
        exact Keeps.refl _ _
      · refine Keeps.ite ?_ ?_
        · refine Keeps.step (State.wr_keepsAll ..) rfl ?_
          exact Keeps.refl _ _
        · refine Keeps.step (State.wri_keepsAll ..) rfl ?_
          exact Keeps.refl _ _
  · exact Keeps.refl _ _

theorem adcFifoRead_keeps (s : State) : Keeps 36893489246934925314 s (adcFifoRead s).2 := by
  unfold adcFifoRead
  split
  · exact Keeps.refl _ _
  · refine Keeps.step (State.wr_keeps 65 group_adc ..) rfl ?_
    refine Keeps.step (Keeps.put_field ..) rfl ?_
    exact Keeps.refl _ _

theorem routerClaim_keeps (s : State) (x1 : Nat) : Keeps 2147483648 s (routerClaim s x1).2 := by
  unfold routerClaim
  split
  · refine Keeps.step (Keeps.put_router ..) rfl ?_
    exact Keeps.refl _ _
  · exact Keeps.refl _ _

theorem pioInqR_keeps (s : State) (x1 : Nat) : Keeps 521120523451861303810 s (pioInqR s x1).2 := by
  unfold pioInqR
  split
  · refine Keeps.step (State.setEng_keeps ..) rfl ?_
    exact Keeps.refl _ _
  · refine Keeps.step (pioEv_keeps ..) rfl ?_
    refine Keeps.step (State.wr_keeps 68 group_pio ..) rfl ?_
    exact Keeps.refl _ _

theorem regRead_keeps (s : State) (x1 : By) (x2 x3 : Nat) : Keeps 633825300114114699719871562498 s (regRead s x1 x2 x3).2 := by
  unfold regRead
  refine Keeps.ite_snd ?_ ?_
  · refine Keeps.step (routerClaim_keeps ..) rfl ?_
    exact Keeps.refl _ _
  · refine Keeps.ite_snd ?_ ?_
    · refine Keeps.step (pioInqR_keeps ..) rfl ?_
      exact Keeps.refl _ _
    · refine Keeps.ite_snd ?_ ?_
      · refine Keeps.step (adcFifoRead_keeps ..) rfl ?_
        exact Keeps.refl _ _
      · refine Keeps.step (readClears_keeps ..) rfl ?_
        refine Keeps.step (regPeek_keeps ..) rfl ?_
        exact Keeps.refl _ _

theorem busRead_keeps (s : State) (x1 : By) (x2 x3 : Nat) : Keeps 633825300114114699719871562530 s (busRead s x1 x2 x3).2 := by
  unfold busRead
  refine Keeps.ite_snd ?_ ?_
  · refine Keeps.step (State.draw_keeps ..) rfl ?_
    exact Keeps.refl _ _
  · refine Keeps.ite_snd ?_ ?_
    · refine Keeps.step (State.accFault_keeps ..) rfl ?_
      refine Keeps.step (State.draw_keeps ..) rfl ?_
      exact Keeps.refl _ _
    · refine Keeps.ite_snd ?_ ?_
      · refine Keeps.step (regPeek_keeps ..) rfl ?_
        exact Keeps.refl _ _
      · refine Keeps.step (regRead_keeps ..) rfl ?_
        exact Keeps.refl _ _

theorem readWords_keeps (s : State) (x1 : By) (x2 x3 : Nat) : Keeps 633825300114114699719871563554 s (readWords s x1 x2 x3).2 := by
  unfold readWords
  split
  · exact Keeps.refl _ _
  · refine Keeps.step (readWords_keeps ..) rfl ?_
    refine Keeps.step (busRead_keeps ..) rfl ?_
    refine Keeps.step (fieldFlit_keeps ..) rfl ?_
    exact Keeps.refl _ _

theorem writeWords_keeps (s : State) (x1 : By) (x2 : List (Nat × Nat)) :
    Keeps 633825300114114699769065504622 s (writeWords s x1 x2).2 := by
  unfold writeWords
  dsimp only
  split
  · refine Keeps.step (busWrite_keeps ..) rfl ?_
    refine Keeps.step (fieldFlit_keeps ..) rfl ?_
    exact Keeps.refl _ _
  · refine Keeps.foldl_snd (fun _ _ => ?_) _ _ ?_
    · refine Keeps.step (busWrite_keeps ..) rfl ?_
      refine Keeps.step (fieldFlit_keeps ..) rfl ?_
      exact Keeps.refl _ _
    · exact Keeps.refl _ _

theorem windowAtomic_keeps (s : State) (x1 : By) (x2 x3 x4 : Nat) (x5 : List Nat) :
    Keeps 633825300114114699769065504622 s (windowAtomic s x1 x2 x3 x4 x5).2.2 := by
  unfold windowAtomic
  split
  · refine Keeps.ite_snd2 ?_ ?_
    · exact Keeps.refl _ _
    · refine Keeps.ite_snd2 ?_ ?_
      · exact Keeps.refl _ _
      · dsimp only
        split
        · refine Keeps.step (readWords_keeps ..) rfl ?_
          exact Keeps.refl _ _
        · refine Keeps.step (writeWords_keeps ..) rfl ?_
          refine Keeps.step (readWords_keeps ..) rfl ?_
          exact Keeps.refl _ _
  · exact Keeps.refl _ _
  · exact Keeps.refl _ _
  · exact Keeps.refl _ _
  · exact Keeps.refl _ _

theorem windowRead_keeps (s : State) (x1 : By) (x2 x3 : Nat) (x4 : Bool) :
    Keeps 633825300114114699719871563554 s (windowRead s x1 x2 x3 x4).2.2 := by
  unfold windowRead
  split
  · refine Keeps.ite_snd2 ?_ ?_
    · exact Keeps.refl _ _
    · refine Keeps.ite_snd2 ?_ ?_
      · exact Keeps.refl _ _
      · refine Keeps.step (readWords_keeps ..) rfl ?_
        exact Keeps.refl _ _
  · exact Keeps.refl _ _
  · exact Keeps.refl _ _
  · exact Keeps.refl _ _
  · exact Keeps.refl _ _

theorem windowWrite_keeps (s : State) (x1 : By) (x2 : Nat) (x3 : List Nat) (x4 : Bool) :
    Keeps 633825300114114699769065504622 s (windowWrite s x1 x2 x3 x4).2 := by
  unfold windowWrite
  split
  · refine Keeps.ite_snd ?_ ?_
    · exact Keeps.refl _ _
    · refine Keeps.ite_snd ?_ ?_
      · exact Keeps.refl _ _
      · refine Keeps.step (writeWords_keeps ..) rfl ?_
        exact Keeps.refl _ _
  · exact Keeps.refl _ _
  · exact Keeps.refl _ _
  · exact Keeps.refl _ _
  · exact Keeps.refl _ _

theorem inExec_keeps (s : State) (x1 : InReq) : Keeps 633825300114114699769065504622 s (inExec s x1).2.2 := by
  unfold inExec
  refine Keeps.ite_snd2 ?_ ?_
  · exact Keeps.refl _ _
  · refine Keeps.ite_snd2 ?_ ?_
    · exact Keeps.refl _ _
    · split
      · refine Keeps.step (windowRead_keeps ..) rfl ?_
        exact Keeps.refl _ _
      · refine Keeps.step (windowRead_keeps ..) rfl ?_
        exact Keeps.refl _ _
      · refine Keeps.step (windowRead_keeps ..) rfl ?_
        exact Keeps.refl _ _
      · refine Keeps.step (windowWrite_keeps ..) rfl ?_
        exact Keeps.refl _ _
      · refine Keeps.step (windowWrite_keeps ..) rfl ?_
        exact Keeps.refl _ _
      · refine Keeps.step (windowWrite_keeps ..) rfl ?_
        exact Keeps.refl _ _
      · refine Keeps.step (eventIn_keeps ..) rfl ?_
        exact Keeps.refl _ _
      · refine Keeps.step (windowAtomic_keeps ..) rfl ?_
        exact Keeps.refl _ _

theorem inRun_keeps (s : State) (x1 : Nat) (x2 : StreamSlot) (x3 : InReq) :
    Keeps 633825300114114699769065504622 s (inRun s x1 x2 x3) := by
  unfold inRun
  refine Keeps.ite ?_ ?_
  · refine Keeps.step (cplSend_keeps ..) rfl ?_
    refine Keeps.step (setStream_keeps ..) rfl ?_
    refine Keeps.step (inExec_keeps ..) rfl ?_
    exact Keeps.refl _ _
  · refine Keeps.step (cplSend_keeps ..) rfl ?_
    refine Keeps.step (setStream_keeps ..) rfl ?_
    refine Keeps.step (raiseIf_keeps ..) rfl ?_
    refine Keeps.when (fun _ => ?_) ?_
    · refine Keeps.step (State.inc_keeps 52 group_txn ..) rfl ?_
      exact Keeps.refl _ _
    · refine Keeps.step (inExec_keeps ..) rfl ?_
      exact Keeps.refl _ _

theorem heldBack_keeps (s : State) (x1 : List InReq) : Keeps 564049465065474 s (heldBack s x1) := by
  unfold heldBack
  refine Keeps.foldl (fun _ _ => ?_) _ _ ?_
  · refine Keeps.step (dischargeCells_keeps ..) rfl ?_
    exact Keeps.refl _ _
  · exact Keeps.refl _ _

theorem inDrain_keeps (x0 : Nat) (s : State) (x2 : Nat) : Keeps 633825300114114699769065504622 s (inDrain x0 s x2) := by
  unfold inDrain
  split
  · exact Keeps.refl _ _
  · split
    · exact Keeps.refl _ _
    · split
      · exact Keeps.refl _ _
      · refine Keeps.ite ?_ ?_
        · exact Keeps.refl _ _
        · refine Keeps.step (inDrain_keeps ..) rfl ?_
          refine Keeps.step (inRun_keeps ..) rfl ?_
          refine Keeps.step (heldBack_keeps ..) rfl ?_
          exact Keeps.refl _ _

theorem inOrder_keeps (s : State) (x1 : Nat) (x2 : StreamSlot) (x3 : InReq) :
    Keeps 633825300114114699769065504622 s (inOrder s x1 x2 x3) := by
  unfold inOrder
  split
  · dsimp only
    split
    · refine Keeps.ite ?_ ?_
      · refine Keeps.ite ?_ ?_
        · refine Keeps.step (State.inc_keeps 52 group_txn ..) rfl ?_
          refine Keeps.step (setStream_keeps ..) rfl ?_
          exact Keeps.refl _ _
        · refine Keeps.step (chargeCells_keeps ..) rfl ?_
          refine Keeps.step (setStream_keeps ..) rfl ?_
          refine Keeps.step (setStream_keeps ..) rfl ?_
          exact Keeps.refl _ _
      · refine Keeps.step (inDrain_keeps ..) rfl ?_
        refine Keeps.step (inRun_keeps ..) rfl ?_
        refine Keeps.step (setStream_keeps ..) rfl ?_
        exact Keeps.refl _ _
    · refine Keeps.ite ?_ ?_
      · refine Keeps.step (inDrain_keeps ..) rfl ?_
        refine Keeps.ite ?_ ?_
        · refine Keeps.step (State.inc_keeps 52 group_txn ..) rfl ?_
          refine Keeps.step (setStream_keeps ..) rfl ?_
          exact Keeps.refl _ _
        · refine Keeps.step (chargeCells_keeps ..) rfl ?_
          refine Keeps.step (setStream_keeps ..) rfl ?_
          refine Keeps.step (setStream_keeps ..) rfl ?_
          exact Keeps.refl _ _
      · split
        · refine Keeps.step (answerCached_keeps ..) rfl ?_
          refine Keeps.step (setStream_keeps ..) rfl ?_
          exact Keeps.refl _ _
        · refine Keeps.step (State.inc_keeps 52 group_txn ..) rfl ?_
          refine Keeps.step (setStream_keeps ..) rfl ?_
          exact Keeps.refl _ _
  · dsimp only
    split
    · refine Keeps.ite ?_ ?_
      · refine Keeps.step (State.inc_keeps 52 group_txn ..) rfl ?_
        refine Keeps.step (setStream_keeps ..) rfl ?_
        exact Keeps.refl _ _
      · refine Keeps.step (chargeCells_keeps ..) rfl ?_
        refine Keeps.step (setStream_keeps ..) rfl ?_
        refine Keeps.step (setStream_keeps ..) rfl ?_
        exact Keeps.refl _ _
    · refine Keeps.ite ?_ ?_
      · refine Keeps.ite ?_ ?_
        · refine Keeps.ite ?_ ?_
          · refine Keeps.step (State.inc_keeps 52 group_txn ..) rfl ?_
            refine Keeps.step (setStream_keeps ..) rfl ?_
            exact Keeps.refl _ _
          · refine Keeps.step (chargeCells_keeps ..) rfl ?_
            refine Keeps.step (setStream_keeps ..) rfl ?_
            refine Keeps.step (setStream_keeps ..) rfl ?_
            exact Keeps.refl _ _
        · refine Keeps.step (inDrain_keeps ..) rfl ?_
          refine Keeps.step (inRun_keeps ..) rfl ?_
          refine Keeps.step (setStream_keeps ..) rfl ?_
          exact Keeps.refl _ _
      · refine Keeps.ite ?_ ?_
        · refine Keeps.step (inDrain_keeps ..) rfl ?_
          refine Keeps.ite ?_ ?_
          · refine Keeps.step (State.inc_keeps 52 group_txn ..) rfl ?_
            refine Keeps.step (setStream_keeps ..) rfl ?_
            exact Keeps.refl _ _
          · refine Keeps.step (chargeCells_keeps ..) rfl ?_
            refine Keeps.step (setStream_keeps ..) rfl ?_
            refine Keeps.step (setStream_keeps ..) rfl ?_
            exact Keeps.refl _ _
        · split
          · refine Keeps.step (answerCached_keeps ..) rfl ?_
            refine Keeps.step (setStream_keeps ..) rfl ?_
            exact Keeps.refl _ _
          · refine Keeps.step (State.inc_keeps 52 group_txn ..) rfl ?_
            refine Keeps.step (setStream_keeps ..) rfl ?_
            exact Keeps.refl _ _

theorem inbound_keeps (s : State) (x1 : InReq) : Keeps 633825300114114699769065504622 s (inbound s x1) := by
  unfold inbound
  split
  · split
    · refine Keeps.step (inOrder_keeps ..) rfl ?_
      exact Keeps.refl _ _
    · exact Keeps.refl _ _
  · split
    · refine Keeps.step (inOrder_keeps ..) rfl ?_
      exact Keeps.refl _ _
    · refine Keeps.step (cplSend_keeps ..) rfl ?_
      refine Keeps.step (raise_keeps ..) rfl ?_
      refine Keeps.step (State.inc_keeps 52 group_txn ..) rfl ?_
      exact Keeps.refl _ _

theorem inRetry_keeps (s : State) : Keeps 633825300114114699769065504622 s (inRetry s) := by
  unfold inRetry
  refine Keeps.each (fun _ _ => ?_) ?_
  · refine Keeps.step (inDrain_keeps ..) rfl ?_
    exact Keeps.refl _ _
  · exact Keeps.refl _ _

theorem inFrame_keeps (s : State) (x1 : Nat) (x2 : Frame) (x3 : Bool) :
    Keeps 633825300114114699769065504622 s (inFrame s x1 x2 x3) := by
  unfold inFrame
  refine Keeps.ite ?_ ?_
  · refine Keeps.step (inbound_keeps ..) rfl ?_
    refine Keeps.step (inRetry_keeps ..) rfl ?_
    exact Keeps.refl _ _
  · exact Keeps.refl _ _

theorem execAdd32_keeps (x0 : Frame) (x1 : Bool) (s : State) : OutKeeps 633825300114114699769065504622 s (execAdd32 x0 x1 s) := by
  unfold execAdd32
  refine OutKeeps.next ?_
  refine Keeps.step (inFrame_keeps ..) rfl ?_
  exact Keeps.refl _ _

theorem execAdd64_keeps (x0 : Frame) (x1 : Bool) (s : State) : OutKeeps 633825300114114699769065504622 s (execAdd64 x0 x1 s) := by
  unfold execAdd64
  refine OutKeeps.next ?_
  refine Keeps.step (inFrame_keeps ..) rfl ?_
  exact Keeps.refl _ _

theorem execAnd32_keeps (x0 : Frame) (x1 : Bool) (s : State) : OutKeeps 633825300114114699769065504622 s (execAnd32 x0 x1 s) := by
  unfold execAnd32
  refine OutKeeps.next ?_
  refine Keeps.step (inFrame_keeps ..) rfl ?_
  exact Keeps.refl _ _

theorem execAnd64_keeps (x0 : Frame) (x1 : Bool) (s : State) : OutKeeps 633825300114114699769065504622 s (execAnd64 x0 x1 s) := by
  unfold execAnd64
  refine OutKeeps.next ?_
  refine Keeps.step (inFrame_keeps ..) rfl ?_
  exact Keeps.refl _ _

theorem noteSup_keeps (s : State) (x1 : Frame) : Keeps 4096 s (noteSup s x1) := by
  unfold noteSup
  refine Keeps.ite ?_ ?_
  · refine Keeps.each (fun _ _ => ?_) ?_
    · refine Keeps.ite ?_ ?_
      · refine Keeps.step (State.setLane_keeps ..) rfl ?_
        exact Keeps.refl _ _
      · exact Keeps.refl _ _
    · exact Keeps.refl _ _
  · exact Keeps.refl _ _

theorem tapAdmit_keeps (s : State) (x1 : Nat) (x2 : Frame) (x3 : Bool) : Keeps 521121367876774674946 s (tapAdmit s x1 x2 x3).2 := by
  unfold tapAdmit
  refine Keeps.ite_snd ?_ ?_
  · refine Keeps.ite_snd ?_ ?_
    · refine Keeps.step (admitOne_keeps ..) rfl ?_
      refine Keeps.step (Keeps.put_sw ..) rfl ?_
      exact Keeps.refl _ _
    · refine Keeps.step (dropAt_keeps ..) rfl ?_
      refine Keeps.step (admitOne_keeps ..) rfl ?_
      refine Keeps.step (Keeps.put_sw ..) rfl ?_
      exact Keeps.refl _ _
  · exact Keeps.refl _ _

theorem rxCount_keeps (s : State) (x1 : Nat) (x2 : Frame) : Keeps 521121403061146767874 s (rxCount s x1 x2) := by
  unfold rxCount
  refine Keeps.step (tapAdmit_keeps ..) rfl ?_
  refine Keeps.step (noteSup_keeps ..) rfl ?_
  refine Keeps.step (State.inc_keeps 45 group_lane ..) rfl ?_
  exact Keeps.refl _ _

theorem actAbandon_keeps (s : State) : Keeps 39773659986441823334037455362 s (actAbandon s) := by
  unfold actAbandon
  refine Keeps.ite ?_ ?_
  · exact Keeps.refl _ _
  · refine Keeps.step (raise_keeps ..) rfl ?_
    refine Keeps.step (Keeps.put_mgmt ..) rfl ?_
    refine Keeps.step (actForget_keeps ..) rfl ?_
    refine Keeps.step (State.wr_keeps 87 (.inl rfl) ..) rfl ?_
    refine Keeps.step (State.wr_keeps 82 group_upd ..) rfl ?_
    refine Keeps.step (State.wr_keeps 82 group_upd ..) rfl ?_
    exact Keeps.refl _ _

theorem ownFault_keeps (s : State) (x1 : Nat) : Keeps 138812103855569041150338628418 s (ownFault s x1) := by
  unfold ownFault
  refine Keeps.ite ?_ ?_
  · refine Keeps.step (evOnly_keeps ..) rfl ?_
    refine Keeps.step (State.setBit_keeps 96 (.inl rfl) ..) rfl ?_
    exact Keeps.refl _ _
  · refine Keeps.ite ?_ ?_
    · refine Keeps.step (goState_keeps ..) rfl ?_
      refine Keeps.step (hubLog_keeps ..) rfl ?_
      refine Keeps.step (actAbandon_keeps ..) rfl ?_
      refine Keeps.step (raise_keeps ..) rfl ?_
      refine Keeps.step (State.setBit_keeps 96 (.inl rfl) ..) rfl ?_
      exact Keeps.refl _ _
    · refine Keeps.step (hubLog_keeps ..) rfl ?_
      refine Keeps.step (actAbandon_keeps ..) rfl ?_
      refine Keeps.step (raise_keeps ..) rfl ?_
      refine Keeps.step (State.setBit_keeps 96 (.inl rfl) ..) rfl ?_
      exact Keeps.refl _ _

theorem withdrawAddr_keeps (s : State) : Keeps 138889475108024377417519823682 s (withdrawAddr s) := by
  unfold withdrawAddr
  refine Keeps.ite ?_ ?_
  · refine Keeps.step (Keeps.put_halo ..) rfl ?_
    refine Keeps.step (addrFault_keeps ..) rfl ?_
    refine Keeps.step (State.wr_keeps 46 group_halo ..) rfl ?_
    refine Keeps.step (State.wr_keeps 86 (.inl rfl) ..) rfl ?_
    refine Keeps.step (setPresent_keeps ..) rfl ?_
    exact Keeps.refl _ _
  · refine Keeps.step (ownFault_keeps ..) rfl ?_
    refine Keeps.step (Keeps.put_halo ..) rfl ?_
    refine Keeps.step (addrFault_keeps ..) rfl ?_
    refine Keeps.step (State.wr_keeps 46 group_halo ..) rfl ?_
    refine Keeps.step (State.wr_keeps 86 (.inl rfl) ..) rfl ?_
    refine Keeps.step (setPresent_keeps ..) rfl ?_
    exact Keeps.refl _ _

theorem setHold_keeps (s : State) (x1 : Nat) (x2 : Option HoldSlot) : Keeps 65536 s (setHold s x1 x2) := by
  unfold setHold
  refine Keeps.step (Keeps.put_txn ..) rfl ?_
  exact Keeps.refl _ _

theorem fillHolds_keeps (s : State) (x1 x2 : Nat) (x3 : List Nat) : Keeps 65536 s (fillHolds s x1 x2 x3) := by
  unfold fillHolds
  refine Keeps.foldl (fun _ _ => ?_) _ _ ?_
  · refine Keeps.ite ?_ ?_
    · refine Keeps.step (setHold_keeps ..) rfl ?_
      exact Keeps.refl _ _
    · exact Keeps.refl _ _
  · exact Keeps.refl _ _

theorem setDescs_keeps (s : State) (x1 : Nat) (x2 : List XferDesc) : Keeps 65536 s (setDescs s x1 x2) := by
  unfold setDescs
  refine Keeps.step (Keeps.put_txn ..) rfl ?_
  exact Keeps.refl _ _

theorem mapDesc_keeps (s : State) (x1 x2 : Nat) (x3 : XferDesc → XferDesc) : Keeps 65536 s (mapDesc s x1 x2 x3) := by
  unfold mapDesc
  refine Keeps.step (setDescs_keeps ..) rfl ?_
  exact Keeps.refl _ _

theorem pieceDone_keeps (s : State) (x1 : TagSt) (x2 : Nat) (x3 : List Nat) : Keeps 65536 s (pieceDone s x1 x2 x3) := by
  unfold pieceDone
  refine Keeps.step (mapDesc_keeps ..) rfl ?_
  exact Keeps.refl _ _

theorem exportDone_keeps (s : State) (x1 x2 : Nat) : Keeps 12094627905538 s (exportDone s x1 x2) := by
  unfold exportDone
  refine Keeps.ite ?_ ?_
  · refine Keeps.step (State.setBit_keeps 41 (.inl rfl) ..) rfl ?_
    exact Keeps.refl _ _
  · refine Keeps.step (State.inc_keeps 43 (group_ev3 rfl) ..) rfl ?_
    refine Keeps.step (State.setBit_keeps 41 (.inl rfl) ..) rfl ?_
    refine Keeps.step (State.setBit_keeps 41 (.inl rfl) ..) rfl ?_
    exact Keeps.refl _ _

theorem endTag_keeps (s : State) (x1 x2 : Nat) (x3 : List Nat) : Keeps 521125035847564984834 s (endTag s x1 x2 x3) := by
  unfold endTag
  split
  · exact Keeps.refl _ _
  · refine Keeps.ite ?_ ?_
    · refine Keeps.step (raiseIf_keeps ..) rfl ?_
      refine Keeps.ite ?_ ?_
      · refine Keeps.step (countRaise_keeps 52 group_txn ..) rfl ?_
        refine Keeps.step (setTag_keeps ..) rfl ?_
        exact Keeps.refl _ _
      · refine Keeps.step (setTag_keeps ..) rfl ?_
        exact Keeps.refl _ _
    · refine Keeps.ite ?_ ?_
      · refine Keeps.step (exportDone_keeps ..) rfl ?_
        refine Keeps.step (raiseIf_keeps ..) rfl ?_
        refine Keeps.ite ?_ ?_
        · refine Keeps.step (countRaise_keeps 52 group_txn ..) rfl ?_
          refine Keeps.step (setTag_keeps ..) rfl ?_
          exact Keeps.refl _ _
        · refine Keeps.step (setTag_keeps ..) rfl ?_
          exact Keeps.refl _ _
      · refine Keeps.ite ?_ ?_
        · refine Keeps.step (pieceDone_keeps ..) rfl ?_
          refine Keeps.step (raiseIf_keeps ..) rfl ?_
          refine Keeps.ite ?_ ?_
          · refine Keeps.step (countRaise_keeps 52 group_txn ..) rfl ?_
            refine Keeps.step (setTag_keeps ..) rfl ?_
            exact Keeps.refl _ _
          · refine Keeps.step (setTag_keeps ..) rfl ?_
            exact Keeps.refl _ _
        · refine Keeps.ite ?_ ?_
          · refine Keeps.step (fillHolds_keeps ..) rfl ?_
            refine Keeps.when (fun _ => ?_) ?_
            · refine Keeps.step (txnCapture_keeps ..) rfl ?_
              exact Keeps.refl _ _
            · refine Keeps.step (raiseIf_keeps ..) rfl ?_
              refine Keeps.ite ?_ ?_
              · refine Keeps.step (countRaise_keeps 52 group_txn ..) rfl ?_
                refine Keeps.step (setTag_keeps ..) rfl ?_
                exact Keeps.refl _ _
              · refine Keeps.step (setTag_keeps ..) rfl ?_
                exact Keeps.refl _ _
          · refine Keeps.ite ?_ ?_
            · refine Keeps.step (raiseIf_keeps ..) rfl ?_
              refine Keeps.ite ?_ ?_
              · refine Keeps.step (countRaise_keeps 52 group_txn ..) rfl ?_
                refine Keeps.step (setTag_keeps ..) rfl ?_
                exact Keeps.refl _ _
              · refine Keeps.step (setTag_keeps ..) rfl ?_
                exact Keeps.refl _ _
            · refine Keeps.step (writeFailed_keeps ..) rfl ?_
              refine Keeps.step (raiseIf_keeps ..) rfl ?_
              refine Keeps.ite ?_ ?_
              · refine Keeps.step (countRaise_keeps 52 group_txn ..) rfl ?_
                refine Keeps.step (setTag_keeps ..) rfl ?_
                exact Keeps.refl _ _
              · refine Keeps.step (setTag_keeps ..) rfl ?_
                exact Keeps.refl _ _

theorem txnRestart_keeps (s : State) (x1 : Nat) : Keeps 521125598797518422530 s (txnRestart s x1) := by
  unfold txnRestart
  refine Keeps.foldl (fun _ _ => ?_) _ _ ?_
  · refine Keeps.step (endTag_keeps ..) rfl ?_
    exact Keeps.refl _ _
  · refine Keeps.step (Keeps.put_txn ..) rfl ?_
    refine Keeps.step (heldBack_keeps ..) rfl ?_
    exact Keeps.refl _ _

theorem newIncarnation_keeps (s : State) (x1 x2 : Nat) : Keeps 523269664063868330754 s (newIncarnation s x1 x2) := by
  unfold newIncarnation
  refine Keeps.ite ?_ ?_
  · refine Keeps.step (driftAbsent_keeps ..) rfl ?_
    refine Keeps.step (txnRestart_keeps ..) rfl ?_
    refine Keeps.step (countRaise_keeps 46 group_halo ..) rfl ?_
    refine Keeps.step (Keeps.put_halo ..) rfl ?_
    refine Keeps.step (setHaloEnt_keeps ..) rfl ?_
    refine Keeps.step (setHaloEnt_keeps ..) rfl ?_
    exact Keeps.refl _ _
  · refine Keeps.step (txnRestart_keeps ..) rfl ?_
    refine Keeps.step (countRaise_keeps 46 group_halo ..) rfl ?_
    refine Keeps.step (Keeps.put_halo ..) rfl ?_
    refine Keeps.step (setHaloEnt_keeps ..) rfl ?_
    refine Keeps.step (setHaloEnt_keeps ..) rfl ?_
    exact Keeps.refl _ _

theorem exemptPass_keeps (s : State) (x1 : Nat) (x2 : Frame) (x3 x4 : Bool) :
    Keeps 521130515813517836802 s (exemptPass s x1 x2 x3 x4) := by
  unfold exemptPass
  refine Keeps.ite ?_ ?_
  · refine Keeps.step (admitFrame_keeps ..) rfl ?_
    refine Keeps.step (Keeps.put_sw ..) rfl ?_
    exact Keeps.refl _ _
  · refine Keeps.step (crossFrame_keeps ..) rfl ?_
    refine Keeps.step (admitFrame_keeps ..) rfl ?_
    refine Keeps.step (Keeps.put_sw ..) rfl ?_
    exact Keeps.refl _ _

theorem announcePass_keeps (s : State) (x1 : Nat) (x2 : Frame) : Keeps 521130515813517836802 s (announcePass s x1 x2) := by
  unfold announcePass
  refine Keeps.ite ?_ ?_
  · refine Keeps.step (exemptPass_keeps ..) rfl ?_
    refine Keeps.step (Keeps.put_txn ..) rfl ?_
    exact Keeps.refl _ _
  · refine Keeps.step (exemptPass_keeps ..) rfl ?_
    exact Keeps.refl _ _

theorem State.atTime_keeps (s : State) (x1 : Nat) : Keeps 2048 s (State.atTime s x1) := by
  unfold State.atTime
  refine Keeps.step (Keeps.put_time (ht := ⟨rfl, rfl⟩) ..) rfl ?_
  exact Keeps.refl _ _

theorem execAnnounce_keeps (x0 : Nat) (x1 : Frame) (x2 : Nat) (s : State) :
    OutKeeps 138889475108028889813240216386 s (execAnnounce x0 x1 x2 s) := by
  unfold execAnnounce
  refine OutKeeps.next ?_
  refine Keeps.ite ?_ ?_
  · refine Keeps.ite ?_ ?_
    · refine Keeps.step (State.inc_keeps 46 group_halo ..) rfl ?_
      refine Keeps.step (rxCount_keeps ..) rfl ?_
      refine Keeps.step (State.atTime_keeps ..) rfl ?_
      exact Keeps.refl _ _
    · refine Keeps.ite ?_ ?_
      · refine Keeps.ite ?_ ?_
        · refine Keeps.step (State.inc_keeps 53 group_gw ..) rfl ?_
          refine Keeps.step (rxCount_keeps ..) rfl ?_
          refine Keeps.step (State.atTime_keeps ..) rfl ?_
          exact Keeps.refl _ _
        · refine Keeps.step (exemptPass_keeps ..) rfl ?_
          refine Keeps.step (rxCount_keeps ..) rfl ?_
          refine Keeps.step (State.atTime_keeps ..) rfl ?_
          exact Keeps.refl _ _
      · refine Keeps.ite ?_ ?_
        · refine Keeps.ite ?_ ?_
          · refine Keeps.step (originate_keeps ..) rfl ?_
            refine Keeps.ite ?_ ?_
            · refine Keeps.step (rxCount_keeps ..) rfl ?_
              refine Keeps.step (State.atTime_keeps ..) rfl ?_
              exact Keeps.refl _ _
            · refine Keeps.step (announcePass_keeps ..) rfl ?_
              refine Keeps.step (newIncarnation_keeps ..) rfl ?_
              refine Keeps.step (rxCount_keeps ..) rfl ?_
              refine Keeps.step (State.atTime_keeps ..) rfl ?_
              exact Keeps.refl _ _
          · refine Keeps.ite ?_ ?_
            · refine Keeps.step (withdrawAddr_keeps ..) rfl ?_
              refine Keeps.ite ?_ ?_
              · refine Keeps.step (rxCount_keeps ..) rfl ?_
                refine Keeps.step (State.atTime_keeps ..) rfl ?_
                exact Keeps.refl _ _
              · refine Keeps.step (announcePass_keeps ..) rfl ?_
                refine Keeps.step (newIncarnation_keeps ..) rfl ?_
                refine Keeps.step (rxCount_keeps ..) rfl ?_
                refine Keeps.step (State.atTime_keeps ..) rfl ?_
                exact Keeps.refl _ _
            · refine Keeps.ite ?_ ?_
              · refine Keeps.step (rxCount_keeps ..) rfl ?_
                refine Keeps.step (State.atTime_keeps ..) rfl ?_
                exact Keeps.refl _ _
              · refine Keeps.step (announcePass_keeps ..) rfl ?_
                refine Keeps.step (newIncarnation_keeps ..) rfl ?_
                refine Keeps.step (rxCount_keeps ..) rfl ?_
                refine Keeps.step (State.atTime_keeps ..) rfl ?_
                exact Keeps.refl _ _
        · refine Keeps.ite ?_ ?_
          · refine Keeps.step (rxCount_keeps ..) rfl ?_
            refine Keeps.step (State.atTime_keeps ..) rfl ?_
            exact Keeps.refl _ _
          · refine Keeps.step (announcePass_keeps ..) rfl ?_
            refine Keeps.step (newIncarnation_keeps ..) rfl ?_
            refine Keeps.step (rxCount_keeps ..) rfl ?_
            refine Keeps.step (State.atTime_keeps ..) rfl ?_
            exact Keeps.refl _ _
  · exact Keeps.refl _ _

theorem resyncKeep_keeps (s : State) (x1 : Nat) : Keeps 288231475663863810 s (resyncKeep s x1) := by
  unfold resyncKeep
  refine Keeps.step (State.inc_keeps 58 group_drift ..) rfl ?_
  refine Keeps.step (recPut_keeps ..) rfl ?_
  exact Keeps.refl _ _

theorem onAnswer_keeps (s : State) (x1 : Frame) : Keeps 521427331176459813378 s (onAnswer s x1) := by
  unfold onAnswer
  dsimp only
  split
  · refine Keeps.step (askedOf_keeps ..) rfl ?_
    exact Keeps.refl _ _
  · refine Keeps.step (resyncJudge_keeps ..) rfl ?_
    refine Keeps.ite ?_ ?_
    · refine Keeps.step (resyncKeep_keeps ..) rfl ?_
      refine Keeps.step (dropReqs_keeps ..) rfl ?_
      refine Keeps.step (askedOf_keeps ..) rfl ?_
      exact Keeps.refl _ _
    · refine Keeps.step (resyncFree_keeps ..) rfl ?_
      refine Keeps.step (dropReqs_keeps ..) rfl ?_
      refine Keeps.step (askedOf_keeps ..) rfl ?_
      exact Keeps.refl _ _

theorem execAnswer_keeps (x0 : Frame) (s : State) : OutKeeps 521427331176459813378 s (execAnswer x0 s) := by
  unfold execAnswer
  refine OutKeeps.next ?_
  refine Keeps.ite ?_ ?_
  · refine Keeps.step (onAnswer_keeps ..) rfl ?_
    exact Keeps.refl _ _
  · exact Keeps.refl _ _

theorem execAoSupplyFail_keeps (s : State) : OutKeeps 8589934592 s (execAoSupplyFail s) := by
  unfold execAoSupplyFail
  refine OutKeeps.next ?_
  refine Keeps.ite ?_ ?_
  · exact Keeps.refl _ _
  · refine Keeps.step (Keeps.put_ao ..) rfl ?_
    exact Keeps.refl _ _

theorem applyFail_keeps (s : State) (x1 : Nat) : Keeps 161996580948883795614892802 s (applyFail s x1) := by
  unfold applyFail
  refine Keeps.step (raise_keeps ..) rfl ?_
  refine Keeps.step (updResult_keeps ..) rfl ?_
  refine Keeps.step (setUpd_keeps ..) rfl ?_
  exact Keeps.refl _ _

theorem State.memPut_keeps (s : State) (x1 : Nat) (x2 : Byte) : Keeps 16 s (State.memPut s x1 x2) := by
  refine Keeps.put_mem _ _ fun h => ?_
  simp only [State.wf, Bool.and_eq_true] at h ⊢
  exact ⟨h.1, Memory.wf_put h.2 _ _⟩

theorem memUnknown_keeps (s : State) (x1 x2 : Nat) : Keeps 272 s (memUnknown s x1 x2) := by
  unfold memUnknown
  refine Keeps.each (fun _ _ => ?_) ?_
  · refine Keeps.step (State.memPut_keeps ..) rfl ?_
    refine Keeps.step (State.draw_keeps ..) rfl ?_
    exact Keeps.refl _ _
  · exact Keeps.refl _ _

theorem flashUnknown_keeps (s : State) (x1 x2 : Nat) : Keeps 272 s (flashUnknown s x1 x2) := by
  unfold flashUnknown
  refine Keeps.step (memUnknown_keeps ..) rfl ?_
  exact Keeps.refl _ _

theorem State.memWrite_keeps (s : State) (x1 : Nat) (x2 : List Nat) : Keeps 16 s (State.memWrite s x1 x2) := by
  unfold State.memWrite
  refine Keeps.foldl_fst (fun _ _ => ?_) _ _ ?_
  · refine Keeps.step (State.memPut_keeps ..) rfl ?_
    exact Keeps.refl _ _
  · exact Keeps.refl _ _

theorem loadParts_keeps (s : State) (x1 : Nat) (x2 : Bool) : Keeps 16 s (loadParts s x1 x2) := by
  unfold loadParts
  refine Keeps.step (State.memWrite_keeps ..) rfl ?_
  refine Keeps.step (State.memWrite_keeps ..) rfl ?_
  exact Keeps.refl _ _

theorem applyJudge_keeps (s : State) (x1 : Nat) : Keeps 161996580948883795614892818 s (applyJudge s x1) := by
  unfold applyJudge
  refine Keeps.ite ?_ ?_
  · refine Keeps.step (applyFail_keeps ..) rfl ?_
    exact Keeps.refl _ _
  · refine Keeps.ite ?_ ?_
    · refine Keeps.step (applyFail_keeps ..) rfl ?_
      exact Keeps.refl _ _
    · refine Keeps.ite ?_ ?_
      · refine Keeps.step (applyFail_keeps ..) rfl ?_
        refine Keeps.step (loadParts_keeps ..) rfl ?_
        exact Keeps.refl _ _
      · refine Keeps.step (raise_keeps ..) rfl ?_
        refine Keeps.step (updResult_keeps ..) rfl ?_
        refine Keeps.step (State.wr64_keeps 82 group_upd group_upd ..) rfl ?_
        refine Keeps.step (State.wr_keeps 82 group_upd ..) rfl ?_
        refine Keeps.step (setUpd_keeps ..) rfl ?_
        refine Keeps.step (Keeps.put_mgmt ..) rfl ?_
        refine Keeps.step (loadParts_keeps ..) rfl ?_
        exact Keeps.refl _ _

theorem flashProgram_keeps (s : State) (x1 : Nat) (x2 : List Nat) : Keeps 16 s (flashProgram s x1 x2) := by
  unfold flashProgram
  refine Keeps.step (State.memWrite_keeps ..) rfl ?_
  exact Keeps.refl _ _

theorem flashErase_keeps (s : State) (x1 x2 : Nat) : Keeps 16 s (flashErase s x1 x2) := by
  refine Keeps.put_mem _ _ fun h => ?_
  simp only [State.wf, Bool.and_eq_true] at h ⊢
  exact ⟨h.1, Memory.wf_filter h.2 _⟩

theorem applySteps_keeps (s : State) (x1 : Bool) : Keeps 161996580948883795614892818 s (applySteps s x1) := by
  unfold applySteps
  refine Keeps.ite ?_ ?_
  · refine Keeps.step (applyFail_keeps ..) rfl ?_
    exact Keeps.refl _ _
  · refine Keeps.ite ?_ ?_
    · refine Keeps.step (applyFail_keeps ..) rfl ?_
      exact Keeps.refl _ _
    · refine Keeps.ite ?_ ?_
      · refine Keeps.step (applyFail_keeps ..) rfl ?_
        exact Keeps.refl _ _
      · refine Keeps.ite ?_ ?_
        · refine Keeps.step (applyFail_keeps ..) rfl ?_
          exact Keeps.refl _ _
        · refine Keeps.ite ?_ ?_
          · refine Keeps.step (applyFail_keeps ..) rfl ?_
            exact Keeps.refl _ _
          · refine Keeps.ite ?_ ?_
            · refine Keeps.step (applyFail_keeps ..) rfl ?_
              refine Keeps.step (flashUnknown_keeps ..) rfl ?_
              exact Keeps.refl _ _
            · split
              · refine Keeps.step (applyFail_keeps ..) rfl ?_
                refine Keeps.step (flashErase_keeps ..) rfl ?_
                exact Keeps.refl _ _
              · refine Keeps.ite ?_ ?_
                · refine Keeps.step (applyFail_keeps ..) rfl ?_
                  refine Keeps.step (flashErase_keeps ..) rfl ?_
                  exact Keeps.refl _ _
                · refine Keeps.ite ?_ ?_
                  · refine Keeps.step (applyFail_keeps ..) rfl ?_
                    refine Keeps.step (flashProgram_keeps ..) rfl ?_
                    refine Keeps.step (flashErase_keeps ..) rfl ?_
                    exact Keeps.refl _ _
                  · refine Keeps.step (applyJudge_keeps ..) rfl ?_
                    refine Keeps.step (flashProgram_keeps ..) rfl ?_
                    refine Keeps.step (flashErase_keeps ..) rfl ?_
                    exact Keeps.refl _ _

theorem execApplyDone_keeps (x0 : Bool) (s : State) : OutKeeps 161996580948883795614892818 s (execApplyDone x0 s) := by
  unfold execApplyDone
  refine OutKeeps.next ?_
  refine Keeps.ite ?_ ?_
  · refine Keeps.step (applySteps_keeps ..) rfl ?_
    exact Keeps.refl _ _
  · exact Keeps.refl _ _

theorem execApplySlot_keeps (x0 : By) (s : State) : OutKeeps 633825300114114699769065503598 s (execApplySlot x0 s) := by
  unfold execApplySlot
  refine OutKeeps.next ?_
  refine Keeps.step (busStore_keeps ..) rfl ?_
  exact Keeps.refl _ _

theorem entCmd_keeps (s : State) (x1 : By) (x2 : Nat) : Keeps 633825300114114699769065503598 s (entCmd s x1 x2) := by
  unfold entCmd
  refine Keeps.step (busStore_keeps ..) rfl ?_
  exact Keeps.refl _ _

theorem execArm_keeps (x0 : By) (s : State) : OutKeeps 633825300114114699769065503598 s (execArm x0 s) := by
  unfold execArm
  refine OutKeeps.next ?_
  refine Keeps.step (entCmd_keeps ..) rfl ?_
  exact Keeps.refl _ _

theorem execArmReached_keeps (x0 : Nat) (s : State) : OutKeeps 225972618272491702786 s (execArmReached x0 s) := by
  unfold execArmReached
  refine OutKeeps.next ?_
  refine Keeps.ite ?_ ?_
  · split
    · exact Keeps.refl _ _
    · refine Keeps.ite ?_ ?_
      · exact Keeps.refl _ _
      · refine Keeps.ite ?_ ?_
        · refine Keeps.step (freeze_keeps ..) rfl ?_
          refine Keeps.step (State.atTime_keeps ..) rfl ?_
          exact Keeps.refl _ _
        · refine Keeps.step (freezeCfg_keeps ..) rfl ?_
          refine Keeps.step (State.atTime_keeps ..) rfl ?_
          exact Keeps.refl _ _
  · exact Keeps.refl _ _

theorem execAsOffHi_keeps (x0 : Nat) (x1 : By) (x2 : Nat) (s : State) :
    OutKeeps 633825300114114699769065503598 s (execAsOffHi x0 x1 x2 s) := by
  unfold execAsOffHi
  refine OutKeeps.next ?_
  refine Keeps.step (busStore_keeps ..) rfl ?_
  exact Keeps.refl _ _

theorem execAsTimeout_keeps (x0 x1 : Nat) (s : State) : OutKeeps 1701712144169255832066 s (execAsTimeout x0 x1 s) := by
  unfold execAsTimeout
  refine OutKeeps.next ?_
  refine Keeps.ite ?_ ?_
  · refine Keeps.step (raise_keeps ..) rfl ?_
    refine Keeps.step (State.wr_keeps 70 group_eth ..) rfl ?_
    refine Keeps.step (State.atTime_keeps ..) rfl ?_
    exact Keeps.refl _ _
  · exact Keeps.refl _ _

theorem pdOfferNow_keeps (s : State) (x1 : Nat) : Keeps 1073741824 s (pdOfferNow s x1) := by
  unfold pdOfferNow
  refine Keeps.step (pdStart_keeps ..) rfl ?_
  refine Keeps.step (amsStart_keeps ..) rfl ?_
  refine Keeps.step (pdSend_keeps ..) rfl ?_
  exact Keeps.refl _ _

theorem rpChange_keeps (s : State) (x1 : Nat) : Keeps 38300052386410079977986 s (rpChange s x1) := by
  unfold rpChange
  refine Keeps.ite ?_ ?_
  · exact Keeps.refl _ _
  · refine Keeps.ite ?_ ?_
    · refine Keeps.step (pdStart_keeps ..) rfl ?_
      refine Keeps.step (judgeBudget_keeps ..) rfl ?_
      refine Keeps.step (State.pdWr_keeps ..) rfl ?_
      exact Keeps.refl _ _
    · refine Keeps.step (judgeBudget_keeps ..) rfl ?_
      refine Keeps.step (State.pdWr_keeps ..) rfl ?_
      exact Keeps.refl _ _

theorem pdDrive_keeps (s : State) (x1 x2 : Nat) : Keeps 1073741824 s (pdDrive s x1 x2) := by
  unfold pdDrive
  refine Keeps.ite ?_ ?_
  · refine Keeps.step (setPd_keeps ..) rfl ?_
    refine Keeps.step (setPd_keeps ..) rfl ?_
    exact Keeps.refl _ _
  · refine Keeps.step (setPd_keeps ..) rfl ?_
    exact Keeps.refl _ _

theorem execAttach_keeps (x0 : Nat) (x1 : Bool) (x2 : Nat) (x3 : Bool) (s : State) :
    OutKeeps 38300052386410079977986 s (execAttach x0 x1 x2 x3 s) := by
  unfold execAttach
  refine OutKeeps.next ?_
  refine Keeps.ite ?_ ?_
  · refine Keeps.step (rpChange_keeps ..) rfl ?_
    exact Keeps.refl _ _
  · refine Keeps.ite ?_ ?_
    · refine Keeps.step (pdEv_keeps ..) rfl ?_
      refine Keeps.ite ?_ ?_
      · refine Keeps.step (pdOfferNow_keeps ..) rfl ?_
        refine Keeps.step (pdDrive_keeps ..) rfl ?_
        refine Keeps.step (setPd_keeps ..) rfl ?_
        refine Keeps.step (State.pdWr_keeps ..) rfl ?_
        refine Keeps.step (State.pdWr_keeps ..) rfl ?_
        refine Keeps.step (State.pdWr_keeps ..) rfl ?_
        exact Keeps.refl _ _
      · refine Keeps.step (judgeBudget_keeps ..) rfl ?_
        refine Keeps.step (setPd_keeps ..) rfl ?_
        refine Keeps.step (State.pdWr_keeps ..) rfl ?_
        refine Keeps.step (State.pdWr_keeps ..) rfl ?_
        refine Keeps.step (State.pdWr_keeps ..) rfl ?_
        exact Keeps.refl _ _
    · exact Keeps.refl _ _

theorem segRead_keeps (s : State) (x1 x2 x3 : Nat) : Keeps 256 s (segRead s x1 x2 x3).2 := by
  unfold segRead
  split
  · exact Keeps.refl _ _
  · refine Keeps.step (segRead_keeps ..) rfl ?_
    refine Keeps.ite_snd ?_ ?_
    · refine Keeps.step (regPeek_keeps ..) rfl ?_
      exact Keeps.refl _ _
    · split
      · exact Keeps.refl _ _
      · refine Keeps.step (State.draw_keeps ..) rfl ?_
        exact Keeps.refl _ _

theorem segCrc_keeps (s : State) (x1 : Nat) : Keeps 256 s (segCrc s x1).2 := by
  unfold segCrc
  refine Keeps.ite_snd ?_ ?_
  · exact Keeps.refl _ _
  · refine Keeps.step (State.draw_keeps ..) rfl ?_
    exact Keeps.refl _ _

theorem dumpSend_keeps (s : State) : Keeps 521121367876774683394 s (dumpSend s) := by
  unfold dumpSend
  split
  · exact Keeps.refl _ _
  · refine Keeps.ite ?_ ?_
    · refine Keeps.step (originate_keeps ..) rfl ?_
      refine Keeps.step (Keeps.put_ecl ..) rfl ?_
      refine Keeps.step (segRead_keeps ..) rfl ?_
      exact Keeps.refl _ _
    · refine Keeps.step (originate_keeps ..) rfl ?_
      refine Keeps.step (Keeps.put_ecl ..) rfl ?_
      refine Keeps.ite_snd ?_ ?_
      · refine Keeps.step (segCrc_keeps ..) rfl ?_
        exact Keeps.refl _ _
      · exact Keeps.refl _ _

theorem dumpPump_keeps (s : State) : Keeps 521121367876774683394 s (dumpPump s) := by
  unfold dumpPump
  refine Keeps.ite ?_ ?_
  · refine Keeps.step (dumpSend_keeps ..) rfl ?_
    exact Keeps.refl _ _
  · exact Keeps.refl _ _

theorem dumpStart_keeps (s : State) (x1 x2 x3 : Nat) : Keeps 521121367876774683394 s (dumpStart s x1 x2 x3) := by
  unfold dumpStart
  refine Keeps.step (dumpPump_keeps ..) rfl ?_
  refine Keeps.step (Keeps.put_ecl ..) rfl ?_
  exact Keeps.refl _ _

theorem execAutoDump_keeps (x0 : Nat) (s : State) : OutKeeps 521121367876774685442 s (execAutoDump x0 s) := by
  unfold execAutoDump
  refine OutKeeps.next ?_
  refine Keeps.ite ?_ ?_
  · refine Keeps.step (dumpStart_keeps ..) rfl ?_
    refine Keeps.step (State.atTime_keeps ..) rfl ?_
    exact Keeps.refl _ _
  · exact Keeps.refl _ _

theorem execBankTouched_keeps (x0 : Nat) (x1 : List Nat) (s : State) :
    OutKeeps 39776077838081052592386867986 s (execBankTouched x0 x1 s) := by
  unfold execBankTouched
  refine OutKeeps.next ?_
  refine Keeps.ite ?_ ?_
  · refine Keeps.step (unstage_keeps ..) rfl ?_
    refine Keeps.step (State.memWrite_keeps ..) rfl ?_
    exact Keeps.refl _ _
  · exact Keeps.refl _ _

theorem execBbCtrl_keeps (x0 : By) (x1 x2 : Nat) (s : State) :
    OutKeeps 633825300114114699769065503598 s (execBbCtrl x0 x1 x2 s) := by
  unfold execBbCtrl
  refine OutKeeps.next ?_
  refine Keeps.step (busStore_keeps ..) rfl ?_
  exact Keeps.refl _ _

theorem resetBase_keeps (s : State) (x1 : Key → Bool) : Keeps 633825300114114699897948077598 s (resetBase s x1) := by
  constructor <;> first
    | exact OtpSt.le_refl _ | exact Nat.le_refl _
    | (intro b; rfl) | (intro b; exact absurd b (by decide))
    | (intro b; exact ⟨rfl, rfl⟩) | (intro k d b; exact absurd ((Keeps.bit_mono (n := allGroups) rfl b).symm.trans (regGroup_all k)) (by decide)) | skip
  intro h
  simp only [State.wf, Bool.and_eq_true] at h ⊢
  exact ⟨alSorted_filter Key.lt_strictOrder _ h.1, Memory.wf_filter h.2 _⟩

theorem sesRelease_keeps (s : State) : Keeps 126101889078132738 s (sesRelease s) := by
  unfold sesRelease
  refine Keeps.each (fun _ _ => ?_) ?_
  · refine Keeps.ite ?_ ?_
    · refine Keeps.step (setRx_keeps ..) rfl ?_
      refine Keeps.step (State.wri_keeps 56 group_sesrx ..) rfl ?_
      refine Keeps.step (State.wri_keeps 56 group_sesrx ..) rfl ?_
      refine Keeps.step (qBind_keeps ..) rfl ?_
      refine Keeps.ite ?_ ?_
      · refine Keeps.step (setTx_keeps ..) rfl ?_
        refine Keeps.step (setStalled_keeps ..) rfl ?_
        refine Keeps.step (State.wri_keeps 55 group_sestx ..) rfl ?_
        exact Keeps.refl _ _
      · exact Keeps.refl _ _
    · refine Keeps.ite ?_ ?_
      · refine Keeps.step (setTx_keeps ..) rfl ?_
        refine Keeps.step (setStalled_keeps ..) rfl ?_
        refine Keeps.step (State.wri_keeps 55 group_sestx ..) rfl ?_
        exact Keeps.refl _ _
      · exact Keeps.refl _ _
  · refine Keeps.step (Keeps.put_ses ..) rfl ?_
    exact Keeps.refl _ _

theorem warmReset_keeps (s : State) : Keeps 633825300114114699897948077598 s (warmReset s) := by
  unfold warmReset
  dsimp only
  refine Keeps.step (sesRelease_keeps ..) rfl ?_
  refine Keeps.step (safeEnter_keeps evOnly_keeps ..) rfl ?_
  refine Keeps.foldl (fun _ _ => Keeps.step (evOnly_keeps ..) rfl (Keeps.refl _ _)) _ _ ?_
  refine Keeps.step (State.wr_keeps 41 (.inl rfl) ..) rfl ?_
  refine Keeps.foldl (fun _ _ => Keeps.step (State.wr_keeps 90 (group_cause _ _) ..) rfl (Keeps.refl _ _)) _ _ ?_
  constructor <;> first
    | exact OtpSt.le_refl _ | exact Nat.le_refl _ | (intro b; rfl) | (intro b; exact absurd b (by decide))
    | (intro b; exact ⟨rfl, rfl⟩) | (intro k d b; exact absurd ((Keeps.bit_mono (n := allGroups) rfl b).symm.trans (regGroup_all k)) (by decide)) | skip
  intro h
  simp only [State.wf, Bool.and_eq_true] at h ⊢
  exact ⟨alSorted_filter Key.lt_strictOrder _ h.1, Memory.wf_filter h.2 _⟩

theorem execBlackBoxWritten_keeps (s : State) : OutKeeps 633825300114114699906538012446 s (execBlackBoxWritten s) := by
  unfold execBlackBoxWritten
  refine OutKeeps.next ?_
  split
  · refine Keeps.ite ?_ ?_
    · refine Keeps.ite ?_ ?_
      · refine Keeps.step (warmReset_keeps ..) rfl ?_
        refine Keeps.ite ?_ ?_
        · refine Keeps.step (raise_keeps ..) rfl ?_
          refine Keeps.step (Keeps.put_ao ..) rfl ?_
          refine Keeps.step (State.draw_keeps ..) rfl ?_
          refine Keeps.step (State.draw_keeps ..) rfl ?_
          exact Keeps.refl _ _
        · refine Keeps.step (Keeps.put_ao ..) rfl ?_
          refine Keeps.step (State.draw_keeps ..) rfl ?_
          refine Keeps.step (State.draw_keeps ..) rfl ?_
          exact Keeps.refl _ _
      · refine Keeps.ite ?_ ?_
        · refine Keeps.step (raise_keeps ..) rfl ?_
          refine Keeps.step (Keeps.put_ao ..) rfl ?_
          refine Keeps.step (State.draw_keeps ..) rfl ?_
          refine Keeps.step (State.draw_keeps ..) rfl ?_
          exact Keeps.refl _ _
        · refine Keeps.step (Keeps.put_ao ..) rfl ?_
          refine Keeps.step (State.draw_keeps ..) rfl ?_
          refine Keeps.step (State.draw_keeps ..) rfl ?_
          exact Keeps.refl _ _
    · exact Keeps.refl _ _
  · exact Keeps.refl _ _

theorem execBlockLock_keeps (x0 : Nat) (x1 : Bool) (s : State) : OutKeeps 521120558636216619522 s (execBlockLock x0 x1 s) := by
  unfold execBlockLock
  refine OutKeeps.next ?_
  refine Keeps.ite ?_ ?_
  · refine Keeps.ite ?_ ?_
    · refine Keeps.step (raise_keeps ..) rfl ?_
      refine Keeps.step (setLaneState_keeps ..) rfl ?_
      refine Keeps.ite ?_ ?_
      · refine Keeps.step (State.wr_keeps 45 group_lane ..) rfl ?_
        exact Keeps.refl _ _
      · exact Keeps.refl _ _
    · refine Keeps.step (setLaneState_keeps ..) rfl ?_
      refine Keeps.ite ?_ ?_
      · refine Keeps.step (State.wr_keeps 45 group_lane ..) rfl ?_
        exact Keeps.refl _ _
      · exact Keeps.refl _ _
  · exact Keeps.refl _ _

theorem execBlockStopped_keeps (x0 : Nat) (s : State) : OutKeeps 1703865955506691210050 s (execBlockStopped x0 s) := by
  unfold execBlockStopped
  refine OutKeeps.next ?_
  refine Keeps.ite ?_ ?_
  · refine Keeps.step (blockStop_keeps ..) rfl ?_
    exact Keeps.refl _ _
  · exact Keeps.refl _ _

theorem execBootGood_keeps (x0 : By) (x1 : Nat) (s : State) : OutKeeps 633825300114114699769065503598 s (execBootGood x0 x1 s) := by
  unfold execBootGood
  refine OutKeeps.next ?_
  refine Keeps.step (busStore_keeps ..) rfl ?_
  exact Keeps.refl _ _

theorem sourceJudge_keeps (s : State) : Keeps 115038517830956604291906 s (sourceJudge s) := by
  unfold sourceJudge
  refine Keeps.ite ?_ ?_
  · refine Keeps.step (pdDetach_keeps ..) rfl ?_
    exact Keeps.refl _ _
  · exact Keeps.refl _ _

theorem warmRelease_keeps (s : State) : Keeps 604462909808423762657282 s (warmRelease s) := by
  unfold warmRelease
  refine Keeps.ite ?_ ?_
  · refine Keeps.step (State.wr_keeps 79 group_mgmt ..) rfl ?_
    refine Keeps.step (Keeps.put_ao ..) rfl ?_
    exact Keeps.refl _ _
  · refine Keeps.step (pdSend_keeps ..) rfl ?_
    refine Keeps.step (pdSend_keeps ..) rfl ?_
    refine Keeps.step (State.wr_keeps 79 group_mgmt ..) rfl ?_
    refine Keeps.step (Keeps.put_ao ..) rfl ?_
    exact Keeps.refl _ _

theorem aoLoss_keeps (s : State) : Keeps 1237940039285381383000687106 s (aoLoss s) := by
  unfold aoLoss
  refine Keeps.step (State.wr_keeps 90 (group_cause _ _) ..) rfl ?_
  refine Keeps.step (Keeps.put_node_ao ..) rfl ?_
  exact Keeps.refl _ _

theorem coldRelease_keeps (s : State) : Keeps 159704578716284701469273228034 s (coldRelease s) := by
  unfold coldRelease
  refine Keeps.step (newChallenge_keeps ..) rfl ?_
  refine Keeps.step (Keeps.put_ao ..) rfl ?_
  refine Keeps.step (State.wr_keeps 75 group_pd ..) rfl ?_
  refine Keeps.step (State.wr_keeps 97 (.inl rfl) ..) rfl ?_
  refine Keeps.step (State.wr_keeps 56 group_sesrx ..) rfl ?_
  refine Keeps.step (State.wr_keeps 56 group_sesrx ..) rfl ?_
  refine Keeps.step (State.wr_keeps 79 group_mgmt ..) rfl ?_
  refine Keeps.ite ?_ ?_
  · refine Keeps.step (Keeps.put_ao ..) rfl ?_
    exact Keeps.refl _ _
  · refine Keeps.step (aoLoss_keeps ..) rfl ?_
    exact Keeps.refl _ _

theorem svcOverlap_keeps (s : State) : Keeps 1073741824 s (svcOverlap s) := by
  unfold svcOverlap
  refine Keeps.ite ?_ ?_
  · refine Keeps.step (Keeps.put_usb ..) rfl ?_
    exact Keeps.refl _ _
  · exact Keeps.refl _ _

theorem resetRelease_keeps (s : State) : Keeps 159861816332420570200570690370 s (resetRelease s) := by
  unfold resetRelease
  refine Keeps.step (wdtsFollow_keeps ..) rfl ?_
  refine Keeps.step (judgeBudget_keeps ..) rfl ?_
  refine Keeps.step (hubLog_keeps ..) rfl ?_
  refine Keeps.ite ?_ ?_
  · refine Keeps.step (sourceJudge_keeps ..) rfl ?_
    refine Keeps.step (State.wr_keeps 87 (.inl rfl) ..) rfl ?_
    refine Keeps.each (fun _ _ => ?_) ?_
    · refine Keeps.step (laneStart_keeps ..) rfl ?_
      exact Keeps.refl _ _
    · refine Keeps.ite ?_ ?_
      · refine Keeps.step (warmRelease_keeps ..) rfl ?_
        refine Keeps.step (Keeps.put_node ..) rfl ?_
        exact Keeps.refl _ _
      · refine Keeps.step (coldRelease_keeps ..) rfl ?_
        refine Keeps.step (Keeps.put_node ..) rfl ?_
        exact Keeps.refl _ _
  · refine Keeps.ite ?_ ?_
    · refine Keeps.step (svcOverlap_keeps ..) rfl ?_
      refine Keeps.step (State.wr_keeps 87 (.inl rfl) ..) rfl ?_
      refine Keeps.each (fun _ _ => ?_) ?_
      · refine Keeps.step (laneStart_keeps ..) rfl ?_
        exact Keeps.refl _ _
      · refine Keeps.ite ?_ ?_
        · refine Keeps.step (warmRelease_keeps ..) rfl ?_
          refine Keeps.step (Keeps.put_node ..) rfl ?_
          exact Keeps.refl _ _
        · refine Keeps.step (coldRelease_keeps ..) rfl ?_
          refine Keeps.step (Keeps.put_node ..) rfl ?_
          exact Keeps.refl _ _
    · refine Keeps.step (State.wr_keeps 87 (.inl rfl) ..) rfl ?_
      refine Keeps.each (fun _ _ => ?_) ?_
      · refine Keeps.step (laneStart_keeps ..) rfl ?_
        exact Keeps.refl _ _
      · refine Keeps.ite ?_ ?_
        · refine Keeps.step (warmRelease_keeps ..) rfl ?_
          refine Keeps.step (Keeps.put_node ..) rfl ?_
          exact Keeps.refl _ _
        · refine Keeps.step (coldRelease_keeps ..) rfl ?_
          refine Keeps.step (Keeps.put_node ..) rfl ?_
          exact Keeps.refl _ _

theorem dawnEnter_keeps (s : State) (x1 : Nat) : Keeps 59579181195889970955493014338 s (dawnEnter s x1) := by
  unfold dawnEnter
  refine Keeps.step (usbConnect_keeps ..) rfl ?_
  refine Keeps.step (State.wr_keeps 76 group_usb ..) rfl ?_
  refine Keeps.foldl (fun _ _ => ?_) _ _ ?_
  · refine Keeps.step (State.wr_keeps 76 group_usb ..) rfl ?_
    refine Keeps.step (State.wr_keeps 76 group_usb ..) rfl ?_
    exact Keeps.refl _ _
  · refine Keeps.step (State.wri_keeps 47 group_switch ..) rfl ?_
    refine Keeps.step (State.wri_keeps 47 group_switch ..) rfl ?_
    refine Keeps.step (goState_keeps ..) rfl ?_
    refine Keeps.step (State.wr_keeps 79 group_mgmt ..) rfl ?_
    exact Keeps.refl _ _

theorem startImage_keeps (s : State) (x1 : Nat) (x2 : Bool) : Keeps 15263209593158183829897730 s (startImage s x1 x2) := by
  unfold startImage
  refine Keeps.step (Keeps.put_node ..) rfl ?_
  refine Keeps.step (setCore_keeps ..) rfl ?_
  refine Keeps.step (domainsApply_keeps ..) rfl ?_
  refine Keeps.step (State.wr_keeps 77 group_cores ..) rfl ?_
  refine Keeps.ite ?_ ?_
  · refine Keeps.step (State.wr_keeps 77 group_cores ..) rfl ?_
    refine Keeps.step (State.wr_keeps 77 group_cores ..) rfl ?_
    refine Keeps.step (Keeps.put_mgmt ..) rfl ?_
    refine Keeps.step (State.wr_keeps 82 group_upd ..) rfl ?_
    refine Keeps.step (State.wr_keeps 83 group_sec ..) rfl ?_
    refine Keeps.step (State.wr_keeps 83 group_sec ..) rfl ?_
    refine Keeps.step (State.wr_keeps 83 group_sec ..) rfl ?_
    refine Keeps.step (State.wr_keeps 83 group_sec ..) rfl ?_
    exact Keeps.refl _ _
  · refine Keeps.step (State.wr_keeps 79 group_mgmt ..) rfl ?_
    refine Keeps.step (State.wr_keeps 77 group_cores ..) rfl ?_
    refine Keeps.step (State.wr_keeps 77 group_cores ..) rfl ?_
    refine Keeps.step (Keeps.put_mgmt ..) rfl ?_
    refine Keeps.step (State.wr_keeps 82 group_upd ..) rfl ?_
    refine Keeps.step (State.wr_keeps 83 group_sec ..) rfl ?_
    refine Keeps.step (State.wr_keeps 83 group_sec ..) rfl ?_
    refine Keeps.step (State.wr_keeps 83 group_sec ..) rfl ?_
    refine Keeps.step (State.wr_keeps 83 group_sec ..) rfl ?_
    exact Keeps.refl _ _

theorem bootTry_keeps (s : State) (x1 : Nat) (x2 : Bool) : Keeps 9671406556918132909277458 s (bootTry s x1 x2).2 := by
  unfold bootTry
  refine Keeps.step (State.wr_keeps 83 group_sec ..) rfl ?_
  refine Keeps.ite ?_ ?_
  · refine Keeps.ite ?_ ?_
    · exact Keeps.refl _ _
    · refine Keeps.step (loadParts_keeps ..) rfl ?_
      exact Keeps.refl _ _
  · refine Keeps.step (memUnknown_keeps ..) rfl ?_
    refine Keeps.step (memUnknown_keeps ..) rfl ?_
    refine Keeps.ite ?_ ?_
    · exact Keeps.refl _ _
    · refine Keeps.step (loadParts_keeps ..) rfl ?_
      exact Keeps.refl _ _

theorem bootSlots_keeps (s : State) (x1 : Nat) (x2 x3 : Bool) : Keeps 59593693028091829383824636754 s (bootSlots s x1 x2 x3) := by
  unfold bootSlots
  refine Keeps.ite ?_ ?_
  · refine Keeps.step (startImage_keeps ..) rfl ?_
    refine Keeps.step (bootTry_keeps ..) rfl ?_
    split
    · refine Keeps.ite ?_ ?_
      · refine Keeps.step (Keeps.put_ao ..) rfl ?_
        refine Keeps.ite ?_ ?_
        · refine Keeps.step (State.wr_keeps 72 group_flash ..) rfl ?_
          refine Keeps.step (State.wr_keeps 72 group_flash ..) rfl ?_
          exact Keeps.refl _ _
        · exact Keeps.refl _ _
      · refine Keeps.ite ?_ ?_
        · refine Keeps.step (State.wr_keeps 72 group_flash ..) rfl ?_
          refine Keeps.step (State.wr_keeps 72 group_flash ..) rfl ?_
          exact Keeps.refl _ _
        · exact Keeps.refl _ _
    · refine Keeps.ite ?_ ?_
      · refine Keeps.step (State.wr_keeps 72 group_flash ..) rfl ?_
        refine Keeps.step (State.wr_keeps 72 group_flash ..) rfl ?_
        exact Keeps.refl _ _
      · exact Keeps.refl _ _
  · refine Keeps.ite ?_ ?_
    · refine Keeps.step (startImage_keeps ..) rfl ?_
      refine Keeps.step (bootTry_keeps ..) rfl ?_
      refine Keeps.step (bootTry_keeps ..) rfl ?_
      split
      · refine Keeps.ite ?_ ?_
        · refine Keeps.step (Keeps.put_ao ..) rfl ?_
          refine Keeps.ite ?_ ?_
          · refine Keeps.step (State.wr_keeps 72 group_flash ..) rfl ?_
            refine Keeps.step (State.wr_keeps 72 group_flash ..) rfl ?_
            exact Keeps.refl _ _
          · exact Keeps.refl _ _
        · refine Keeps.ite ?_ ?_
          · refine Keeps.step (State.wr_keeps 72 group_flash ..) rfl ?_
            refine Keeps.step (State.wr_keeps 72 group_flash ..) rfl ?_
            exact Keeps.refl _ _
          · exact Keeps.refl _ _
      · refine Keeps.ite ?_ ?_
        · refine Keeps.step (State.wr_keeps 72 group_flash ..) rfl ?_
          refine Keeps.step (State.wr_keeps 72 group_flash ..) rfl ?_
          exact Keeps.refl _ _
        · exact Keeps.refl _ _
    · refine Keeps.step (dawnEnter_keeps ..) rfl ?_
      refine Keeps.step (bootTry_keeps ..) rfl ?_
      refine Keeps.step (bootTry_keeps ..) rfl ?_
      split
      · refine Keeps.ite ?_ ?_
        · refine Keeps.step (Keeps.put_ao ..) rfl ?_
          refine Keeps.ite ?_ ?_
          · refine Keeps.step (State.wr_keeps 72 group_flash ..) rfl ?_
            refine Keeps.step (State.wr_keeps 72 group_flash ..) rfl ?_
            exact Keeps.refl _ _
          · exact Keeps.refl _ _
        · refine Keeps.ite ?_ ?_
          · refine Keeps.step (State.wr_keeps 72 group_flash ..) rfl ?_
            refine Keeps.step (State.wr_keeps 72 group_flash ..) rfl ?_
            exact Keeps.refl _ _
          · exact Keeps.refl _ _
      · refine Keeps.ite ?_ ?_
        · refine Keeps.step (State.wr_keeps 72 group_flash ..) rfl ?_
          refine Keeps.step (State.wr_keeps 72 group_flash ..) rfl ?_
          exact Keeps.refl _ _
        · exact Keeps.refl _ _

theorem execBootRomStart_keeps (x0 x1 x2 : Bool) (s : State) :
    OutKeeps 219287958095905884845811661650 s (execBootRomStart x0 x1 x2 s) := by
  unfold execBootRomStart
  refine OutKeeps.next ?_
  refine Keeps.ite ?_ ?_
  · refine Keeps.ite ?_ ?_
    · refine Keeps.step (dawnEnter_keeps ..) rfl ?_
      refine Keeps.ite ?_ ?_
      · refine Keeps.step (raise_keeps ..) rfl ?_
        refine Keeps.step (updResult_keeps ..) rfl ?_
        refine Keeps.step (Keeps.put_ao ..) rfl ?_
        refine Keeps.step (resetRelease_keeps ..) rfl ?_
        exact Keeps.refl _ _
      · refine Keeps.step (resetRelease_keeps ..) rfl ?_
        exact Keeps.refl _ _
    · refine Keeps.ite ?_ ?_
      · refine Keeps.step (dawnEnter_keeps ..) rfl ?_
        refine Keeps.ite ?_ ?_
        · refine Keeps.step (raise_keeps ..) rfl ?_
          refine Keeps.step (updResult_keeps ..) rfl ?_
          refine Keeps.step (Keeps.put_ao ..) rfl ?_
          refine Keeps.step (resetRelease_keeps ..) rfl ?_
          exact Keeps.refl _ _
        · refine Keeps.step (resetRelease_keeps ..) rfl ?_
          exact Keeps.refl _ _
      · refine Keeps.ite ?_ ?_
        · refine Keeps.step (dawnEnter_keeps ..) rfl ?_
          refine Keeps.ite ?_ ?_
          · refine Keeps.step (raise_keeps ..) rfl ?_
            refine Keeps.step (updResult_keeps ..) rfl ?_
            refine Keeps.step (Keeps.put_ao ..) rfl ?_
            refine Keeps.step (resetRelease_keeps ..) rfl ?_
            exact Keeps.refl _ _
          · refine Keeps.step (resetRelease_keeps ..) rfl ?_
            exact Keeps.refl _ _
        · refine Keeps.step (bootSlots_keeps ..) rfl ?_
          refine Keeps.step (Keeps.put_ao ..) rfl ?_
          refine Keeps.ite ?_ ?_
          · refine Keeps.step (raise_keeps ..) rfl ?_
            refine Keeps.step (updResult_keeps ..) rfl ?_
            refine Keeps.step (Keeps.put_ao ..) rfl ?_
            refine Keeps.step (resetRelease_keeps ..) rfl ?_
            exact Keeps.refl _ _
          · refine Keeps.step (resetRelease_keeps ..) rfl ?_
            exact Keeps.refl _ _
  · exact Keeps.refl _ _

theorem execBranchOff_keeps (x0 : Nat) (x1 : By) (s : State) :
    OutKeeps 633825300114114699769065503598 s (execBranchOff x0 x1 s) := by
  unfold execBranchOff
  refine OutKeeps.next ?_
  refine Keeps.step (busStore_keeps ..) rfl ?_
  exact Keeps.refl _ _

theorem execBranchOn_keeps (x0 : Nat) (x1 : By) (s : State) : OutKeeps 633825300114114699769065503598 s (execBranchOn x0 x1 s) := by
  unfold execBranchOn
  refine OutKeeps.next ?_
  refine Keeps.step (busStore_keeps ..) rfl ?_
  exact Keeps.refl _ _

theorem State.coreAt_keeps (s : State) (x1 : Nat) : Keeps 536870912 s (State.coreAt s x1) := by
  unfold State.coreAt
  refine Keeps.step (Keeps.put_power ..) rfl ?_
  exact Keeps.refl _ _

theorem rampStart_keeps (s : State) (x1 x2 : Nat) : Keeps 28334198898317919780866 s (rampStart s x1 x2) := by
  unfold rampStart
  refine Keeps.step (setCtlState_keeps ..) rfl ?_
  refine Keeps.step (setCtl_keeps ..) rfl ?_
  exact Keeps.refl _ _

theorem execBranchRampStart_keeps (x0 x1 : Nat) (s : State) : OutKeeps 28334198898317919780866 s (execBranchRampStart x0 x1 s) := by
  unfold execBranchRampStart
  refine OutKeeps.next ?_
  refine Keeps.ite ?_ ?_
  · refine Keeps.step (rampStart_keeps ..) rfl ?_
    refine Keeps.step (unqueue_keeps ..) rfl ?_
    refine Keeps.step (State.coreAt_keeps ..) rfl ?_
    exact Keeps.refl _ _
  · exact Keeps.refl _ _

theorem showTimers_keeps (s : State) (x1 : Nat) : Keeps 28334198898317382909954 s (showTimers s x1) := by
  unfold showTimers
  refine Keeps.step (State.ctlWr_keeps ..) rfl ?_
  exact Keeps.refl _ _

theorem breakerSample_keeps (s : State) (x1 x2 x3 x4 : Nat) : Keeps 28334198898317919780866 s (breakerSample s x1 x2 x3 x4) := by
  unfold breakerSample
  refine Keeps.ite ?_ ?_
  · refine Keeps.step (setCtl_keeps ..) rfl ?_
    refine Keeps.step (showTimers_keeps ..) rfl ?_
    refine Keeps.step (setCtl_keeps ..) rfl ?_
    exact Keeps.refl _ _
  · refine Keeps.step (showTimers_keeps ..) rfl ?_
    refine Keeps.step (setCtl_keeps ..) rfl ?_
    exact Keeps.refl _ _

theorem execBreakerSample_keeps (x0 x1 : Nat) (x2 : FetIn) (s : State) :
    OutKeeps 28334198898317919780866 s (execBreakerSample x0 x1 x2 s) := by
  unfold execBreakerSample
  refine OutKeeps.next ?_
  refine Keeps.ite ?_ ?_
  · refine Keeps.step (breakerSample_keeps ..) rfl ?_
    refine Keeps.step (State.coreAt_keeps ..) rfl ?_
    exact Keeps.refl _ _
  · exact Keeps.refl _ _

theorem dawnLeave_keeps (s : State) (x1 : Bool) : Keeps 39614081257132169896283603458 s (dawnLeave s x1) := by
  unfold dawnLeave
  refine Keeps.ite ?_ ?_
  · refine Keeps.step (requestWarm_keeps ..) rfl ?_
    exact Keeps.refl _ _
  · exact Keeps.refl _ _

theorem manifest_keeps (s : State) (x1 : Nat) (x2 : Frame) : Keeps 39614081257132169930643341826 s (manifest s x1 x2) := by
  unfold manifest
  refine Keeps.ite ?_ ?_
  · exact Keeps.refl _ _
  · refine Keeps.ite ?_ ?_
    · refine Keeps.step (dawnLeave_keeps ..) rfl ?_
      exact Keeps.refl _ _
    · refine Keeps.ite ?_ ?_
      · exact Keeps.refl _ _
      · split
        · refine Keeps.ite ?_ ?_
          · exact Keeps.refl _ _
          · refine Keeps.step (Keeps.put_mgmt ..) rfl ?_
            exact Keeps.refl _ _
        · refine Keeps.step (Keeps.put_mgmt ..) rfl ?_
          exact Keeps.refl _ _

theorem dawnWrite_keeps (s : State) (x1 : Nat) (x2 : List Nat) (x3 : Bool) : Keeps 272 s (dawnWrite s x1 x2 x3).2 := by
  unfold dawnWrite
  split
  · exact Keeps.refl _ _
  · refine Keeps.ite_snd ?_ ?_
    · exact Keeps.refl _ _
    · refine Keeps.ite_snd ?_ ?_
      · refine Keeps.step (flashUnknown_keeps ..) rfl ?_
        exact Keeps.refl _ _
      · refine Keeps.step (flashProgram_keeps ..) rfl ?_
        exact Keeps.refl _ _

theorem dawnStart_keeps (s : State) (x1 : Nat) (x2 : List Nat) (x3 : Bool) : Keeps 34359738640 s (dawnStart s x1 x2 x3).2 := by
  unfold dawnStart
  split
  · exact Keeps.refl _ _
  · refine Keeps.ite_snd ?_ ?_
    · exact Keeps.refl _ _
    · refine Keeps.ite_snd ?_ ?_
      · refine Keeps.step (flashUnknown_keeps ..) rfl ?_
        refine Keeps.step (Keeps.put_mgmt ..) rfl ?_
        exact Keeps.refl _ _
      · refine Keeps.step (Keeps.put_mgmt ..) rfl ?_
        refine Keeps.step (flashProgram_keeps ..) rfl ?_
        refine Keeps.step (flashErase_keeps ..) rfl ?_
        exact Keeps.refl _ _

theorem bootWrite_keeps (s : State) (x1 : Nat) : Keeps 16 s (bootWrite s x1) := by
  unfold bootWrite
  refine Keeps.step (flashProgram_keeps ..) rfl ?_
  refine Keeps.step (flashErase_keeps ..) rfl ?_
  exact Keeps.refl _ _

theorem dawnFinish_keeps (s : State) (x1 : Nat) (x2 : Bool) : Keeps 604462909808457048653842 s (dawnFinish s x1 x2).2 := by
  unfold dawnFinish
  split
  · exact Keeps.refl _ _
  · refine Keeps.ite_snd ?_ ?_
    · exact Keeps.refl _ _
    · refine Keeps.ite_snd ?_ ?_
      · exact Keeps.refl _ _
      · refine Keeps.step (Keeps.put_ao_mgmt ..) rfl ?_
        refine Keeps.step (State.wr_keeps 79 group_mgmt ..) rfl ?_
        refine Keeps.step (bootWrite_keeps ..) rfl ?_
        exact Keeps.refl _ _

theorem carouselPut_keeps (s : State) (x1 : Carousel) (x2 : Nat) : Keeps 39614685720041977253820629522 s (carouselPut s x1 x2) := by
  unfold carouselPut
  refine Keeps.ite ?_ ?_
  · refine Keeps.ite ?_ ?_
    · refine Keeps.step (dawnLeave_keeps ..) rfl ?_
      refine Keeps.step (Keeps.put_mgmt ..) rfl ?_
      refine Keeps.step (dawnFinish_keeps ..) rfl ?_
      refine Keeps.step (Keeps.put_mgmt ..) rfl ?_
      exact Keeps.refl _ _
    · refine Keeps.step (Keeps.put_mgmt ..) rfl ?_
      refine Keeps.step (dawnFinish_keeps ..) rfl ?_
      refine Keeps.step (Keeps.put_mgmt ..) rfl ?_
      exact Keeps.refl _ _
  · refine Keeps.step (Keeps.put_mgmt ..) rfl ?_
    exact Keeps.refl _ _

theorem carouselBlock_keeps (s : State) (x1 : Carousel) (x2 : Nat) (x3 : List Nat) :
    Keeps 39614685720041977253820629778 s (carouselBlock s x1 x2 x3) := by
  unfold carouselBlock
  refine Keeps.ite ?_ ?_
  · exact Keeps.refl _ _
  · refine Keeps.ite ?_ ?_
    · refine Keeps.ite ?_ ?_
      · refine Keeps.ite ?_ ?_
        · refine Keeps.step (carouselPut_keeps ..) rfl ?_
          refine Keeps.step (dawnWrite_keeps ..) rfl ?_
          refine Keeps.step (dawnStart_keeps ..) rfl ?_
          exact Keeps.refl _ _
        · refine Keeps.step (dawnWrite_keeps ..) rfl ?_
          refine Keeps.step (dawnStart_keeps ..) rfl ?_
          exact Keeps.refl _ _
      · refine Keeps.step (dawnStart_keeps ..) rfl ?_
        exact Keeps.refl _ _
    · refine Keeps.ite ?_ ?_
      · refine Keeps.step (carouselPut_keeps ..) rfl ?_
        refine Keeps.step (dawnWrite_keeps ..) rfl ?_
        exact Keeps.refl _ _
      · refine Keeps.step (dawnWrite_keeps ..) rfl ?_
        exact Keeps.refl _ _

theorem execBulkDistribution_keeps (x0 : Frame) (x1 : Bool) (s : State) :
    OutKeeps 39614685720041977253820629778 s (execBulkDistribution x0 x1 s) := by
  unfold execBulkDistribution
  refine OutKeeps.next ?_
  refine Keeps.ite ?_ ?_
  · refine Keeps.ite ?_ ?_
    · refine Keeps.step (manifest_keeps ..) rfl ?_
      exact Keeps.refl _ _
    · split
      · refine Keeps.ite ?_ ?_
        · refine Keeps.step (carouselBlock_keeps ..) rfl ?_
          exact Keeps.refl _ _
        · exact Keeps.refl _ _
      · exact Keeps.refl _ _
  · exact Keeps.refl _ _

theorem execBusIntegration_keeps (x0 : Nat) (s : State) : OutKeeps 73786977394358222850 s (execBusIntegration x0 s) := by
  unfold execBusIntegration
  refine OutKeeps.next ?_
  refine Keeps.ite ?_ ?_
  · refine Keeps.step (setCan_keeps ..) rfl ?_
    refine Keeps.ite ?_ ?_
    · refine Keeps.step (State.wr_keeps 66 group_can ..) rfl ?_
      exact Keeps.refl _ _
    · exact Keeps.refl _ _
  · exact Keeps.refl _ _

theorem canRest_keeps (s : State) (x1 : Nat) : Keeps 73786977394349834242 s (canRest s x1) := by
  unfold canRest
  refine Keeps.ite ?_ ?_
  · refine Keeps.step (State.wr_keeps 66 group_can ..) rfl ?_
    exact Keeps.refl _ _
  · exact Keeps.refl _ _

theorem canEnd_keeps (s : State) (x1 : Nat) : Keeps 73786977394358222850 s (canEnd s x1) := by
  unfold canEnd
  refine Keeps.step (canRest_keeps ..) rfl ?_
  refine Keeps.step (State.wr_keeps 66 group_can ..) rfl ?_
  refine Keeps.step (setCan_keeps ..) rfl ?_
  exact Keeps.refl _ _

theorem canMove_keeps (s : State) (x1 x2 : Nat) : Keeps 521139100800307577346 s (canMove s x1 x2) := by
  unfold canMove
  refine Keeps.ite ?_ ?_
  · split
    · refine Keeps.ite ?_ ?_
      · refine Keeps.step (canComplete_keeps ..) rfl ?_
        refine Keeps.step (countRaise_keeps 66 group_can ..) rfl ?_
        refine Keeps.step (setMbox_keeps ..) rfl ?_
        refine Keeps.step (setMbox_keeps ..) rfl ?_
        exact Keeps.refl _ _
      · exact Keeps.refl _ _
    · exact Keeps.refl _ _
  · exact Keeps.refl _ _

theorem busOff_keeps (s : State) (x1 : Nat) : Keeps 521139100800307577346 s (busOff s x1) := by
  unfold busOff
  refine Keeps.ite ?_ ?_
  · refine Keeps.step (setCanErr_keeps ..) rfl ?_
    refine Keeps.ite ?_ ?_
    · refine Keeps.each (fun _ _ => ?_) ?_
      · refine Keeps.step (canMove_keeps ..) rfl ?_
        exact Keeps.refl _ _
      · refine Keeps.step (raise_keeps ..) rfl ?_
        refine Keeps.step (State.wr_keeps 66 group_can ..) rfl ?_
        refine Keeps.step (State.inc_keeps 66 group_can ..) rfl ?_
        refine Keeps.step (canEnd_keeps ..) rfl ?_
        split
        · refine Keeps.ite ?_ ?_
          · refine Keeps.step (canComplete_keeps ..) rfl ?_
            exact Keeps.refl _ _
          · refine Keeps.step (setMbox_keeps ..) rfl ?_
            exact Keeps.refl _ _
        · exact Keeps.refl _ _
    · refine Keeps.step (raise_keeps ..) rfl ?_
      refine Keeps.step (State.wr_keeps 66 group_can ..) rfl ?_
      refine Keeps.step (State.inc_keeps 66 group_can ..) rfl ?_
      refine Keeps.step (canEnd_keeps ..) rfl ?_
      split
      · refine Keeps.ite ?_ ?_
        · refine Keeps.step (canComplete_keeps ..) rfl ?_
          exact Keeps.refl _ _
        · refine Keeps.step (setMbox_keeps ..) rfl ?_
          exact Keeps.refl _ _
      · exact Keeps.refl _ _
  · refine Keeps.ite ?_ ?_
    · refine Keeps.each (fun _ _ => ?_) ?_
      · refine Keeps.step (canMove_keeps ..) rfl ?_
        exact Keeps.refl _ _
      · refine Keeps.step (raise_keeps ..) rfl ?_
        refine Keeps.step (State.wr_keeps 66 group_can ..) rfl ?_
        refine Keeps.step (State.inc_keeps 66 group_can ..) rfl ?_
        refine Keeps.step (canEnd_keeps ..) rfl ?_
        split
        · refine Keeps.ite ?_ ?_
          · refine Keeps.step (canComplete_keeps ..) rfl ?_
            exact Keeps.refl _ _
          · refine Keeps.step (setMbox_keeps ..) rfl ?_
            exact Keeps.refl _ _
        · exact Keeps.refl _ _
    · refine Keeps.step (raise_keeps ..) rfl ?_
      refine Keeps.step (State.wr_keeps 66 group_can ..) rfl ?_
      refine Keeps.step (State.inc_keeps 66 group_can ..) rfl ?_
      refine Keeps.step (canEnd_keeps ..) rfl ?_
      split
      · refine Keeps.ite ?_ ?_
        · refine Keeps.step (canComplete_keeps ..) rfl ?_
          exact Keeps.refl _ _
        · refine Keeps.step (setMbox_keeps ..) rfl ?_
          exact Keeps.refl _ _
      · exact Keeps.refl _ _

theorem execBusOff_keeps (x0 : Nat) (s : State) : OutKeeps 521139100800307577346 s (execBusOff x0 s) := by
  unfold execBusOff
  refine OutKeeps.next ?_
  refine Keeps.ite ?_ ?_
  · refine Keeps.step (busOff_keeps ..) rfl ?_
    exact Keeps.refl _ _
  · exact Keeps.refl _ _

theorem tunDrop_keeps (s : State) (x1 : Nat) (x2 : QItem) : Keeps 521121086401798095362 s (tunDrop s x1 x2) := by
  unfold tunDrop
  refine Keeps.step (setCan_keeps ..) rfl ?_
  refine Keeps.step (setQueueSt_keeps ..) rfl ?_
  exact Keeps.refl _ _

theorem canFail_keeps (s : State) (x1 : Nat) (x2 : Bool → Bool) : Keeps 521139100800307577346 s (canFail s x1 x2) := by
  unfold canFail
  split
  · refine Keeps.ite ?_ ?_
    · refine Keeps.step (canEnd_keeps ..) rfl ?_
      refine Keeps.step (canComplete_keeps ..) rfl ?_
      refine Keeps.step (setMbox_keeps ..) rfl ?_
      exact Keeps.refl _ _
    · refine Keeps.ite ?_ ?_
      · refine Keeps.step (canEnd_keeps ..) rfl ?_
        refine Keeps.step (canComplete_keeps ..) rfl ?_
        refine Keeps.step (setMbox_keeps ..) rfl ?_
        exact Keeps.refl _ _
      · refine Keeps.step (canEnd_keeps ..) rfl ?_
        refine Keeps.step (setMbox_keeps ..) rfl ?_
        exact Keeps.refl _ _
  · split
    · refine Keeps.step (canEnd_keeps ..) rfl ?_
      exact Keeps.refl _ _
    · refine Keeps.ite ?_ ?_
      · refine Keeps.step (State.inc_keeps 66 group_can ..) rfl ?_
        refine Keeps.step (tunDrop_keeps ..) rfl ?_
        refine Keeps.step (canEnd_keeps ..) rfl ?_
        exact Keeps.refl _ _
      · refine Keeps.step (setCan_keeps ..) rfl ?_
        refine Keeps.step (canEnd_keeps ..) rfl ?_
        exact Keeps.refl _ _
  · exact Keeps.refl _ _

theorem canJudgeErr_keeps (s : State) (x1 : Nat) : Keeps 521120523451844526594 s (canJudgeErr s x1) := by
  unfold canJudgeErr
  refine Keeps.ite ?_ ?_
  · exact Keeps.refl _ _
  · refine Keeps.step (setCanErr_keeps ..) rfl ?_
    exact Keeps.refl _ _

theorem execCanAttemptFailed_keeps (x0 x1 : Nat) (x2 x3 : Bool) (s : State) :
    OutKeeps 521139100800307577346 s (execCanAttemptFailed x0 x1 x2 x3 s) := by
  unfold execCanAttemptFailed
  refine OutKeeps.next ?_
  refine Keeps.ite ?_ ?_
  · refine Keeps.ite ?_ ?_
    · refine Keeps.step (canFail_keeps ..) rfl ?_
      refine Keeps.step (State.inc_keeps 66 group_can ..) rfl ?_
      refine Keeps.step (setCan_keeps ..) rfl ?_
      exact Keeps.refl _ _
    · refine Keeps.ite ?_ ?_
      · refine Keeps.step (canJudgeErr_keeps ..) rfl ?_
        refine Keeps.step (State.wr_keeps 66 group_can ..) rfl ?_
        refine Keeps.step (State.wr_keeps 66 group_can ..) rfl ?_
        refine Keeps.step (State.wr_keeps 66 group_can ..) rfl ?_
        refine Keeps.step (State.wr_keeps 66 group_can ..) rfl ?_
        refine Keeps.step (State.inc_keeps 66 group_can ..) rfl ?_
        exact Keeps.refl _ _
      · refine Keeps.step (canFail_keeps ..) rfl ?_
        refine Keeps.step (canJudgeErr_keeps ..) rfl ?_
        refine Keeps.step (State.wr_keeps 66 group_can ..) rfl ?_
        refine Keeps.step (State.wr_keeps 66 group_can ..) rfl ?_
        refine Keeps.step (State.wr_keeps 66 group_can ..) rfl ?_
        refine Keeps.step (State.wr_keeps 66 group_can ..) rfl ?_
        refine Keeps.step (State.inc_keeps 66 group_can ..) rfl ?_
        exact Keeps.refl _ _
  · exact Keeps.refl _ _

theorem metered_keeps (s : State) (x1 x2 x3 x4 : Nat) : Keeps 521120804926821253634 s (metered s x1 x2 x3 x4).2 := by
  unfold metered
  refine Keeps.ite_snd ?_ ?_
  · refine Keeps.ite_snd ?_ ?_
    · refine Keeps.step (setMeter_keeps ..) rfl ?_
      exact Keeps.refl _ _
    · refine Keeps.step (alert_keeps ..) rfl ?_
      refine Keeps.step (State.inc_keeps 48 group_swport ..) rfl ?_
      refine Keeps.step (setMeter_keeps ..) rfl ?_
      exact Keeps.refl _ _
  · exact Keeps.refl _ _

theorem canTunnel_keeps (s : State) (x1 x2 : Nat) (x3 : MbFrame) (x4 : Bool) (x5 : Nat) :
    Keeps 521121367876774683138 s (canTunnel s x1 x2 x3 x4 x5) := by
  unfold canTunnel
  refine Keeps.ite ?_ ?_
  · exact Keeps.refl _ _
  · refine Keeps.ite ?_ ?_
    · refine Keeps.step (State.inc_keeps 66 group_can ..) rfl ?_
      exact Keeps.refl _ _
    · split
      · dsimp only
        split
        · refine Keeps.step (metered_keeps ..) rfl ?_
          exact Keeps.refl _ _
        · refine Keeps.step (originate_keeps ..) rfl ?_
          refine Keeps.step (State.inc_keeps 66 group_can ..) rfl ?_
          refine Keeps.step (metered_keeps ..) rfl ?_
          exact Keeps.refl _ _
      · dsimp only
        split
        · refine Keeps.step (metered_keeps ..) rfl ?_
          exact Keeps.refl _ _
        · refine Keeps.step (originate_keeps ..) rfl ?_
          refine Keeps.step (State.inc_keeps 66 group_can ..) rfl ?_
          refine Keeps.step (metered_keeps ..) rfl ?_
          exact Keeps.refl _ _

theorem canStore_keeps (s : State) (x1 x2 : Nat) (x3 : MbFrame) (x4 x5 : Bool) (x6 x7 : Nat) :
    Keeps 521139100800307577346 s (canStore s x1 x2 x3 x4 x5 x6 x7) := by
  unfold canStore
  refine Keeps.ite ?_ ?_
  · refine Keeps.step (State.inc_keeps 66 group_can ..) rfl ?_
    refine Keeps.step (qAdmit_keeps ..) rfl ?_
    exact Keeps.refl _ _
  · refine Keeps.step (countRaise_keeps 66 group_can ..) rfl ?_
    refine Keeps.step (qAdmit_keeps ..) rfl ?_
    exact Keeps.refl _ _

theorem canReceive_keeps (s : State) (x1 : Nat) (x2 : MbFrame) (x3 x4 : Bool) (x5 : Nat) :
    Keeps 521139382275284296194 s (canReceive s x1 x2 x3 x4 x5) := by
  unfold canReceive
  split
  · refine Keeps.ite ?_ ?_
    · refine Keeps.step (canTunnel_keeps ..) rfl ?_
      refine Keeps.ite ?_ ?_
      · refine Keeps.step (canStore_keeps ..) rfl ?_
        exact Keeps.refl _ _
      · exact Keeps.refl _ _
    · refine Keeps.ite ?_ ?_
      · refine Keeps.step (canStore_keeps ..) rfl ?_
        exact Keeps.refl _ _
      · exact Keeps.refl _ _
  · refine Keeps.ite ?_ ?_
    · refine Keeps.step (State.inc_keeps 66 group_can ..) rfl ?_
      exact Keeps.refl _ _
    · refine Keeps.step (canStore_keeps ..) rfl ?_
      refine Keeps.step (State.inc_keeps 66 group_can ..) rfl ?_
      exact Keeps.refl _ _

theorem canRxEnd_keeps (s : State) (x1 : Nat) : Keeps 73786977394358222850 s (canRxEnd s x1) := by
  unfold canRxEnd
  refine Keeps.step (canRest_keeps ..) rfl ?_
  refine Keeps.step (setCan_keeps ..) rfl ?_
  exact Keeps.refl _ _

theorem canRxError_keeps (s : State) (x1 x2 : Nat) (x3 : Bool) (x4 : Nat) :
    Keeps 521120523451844526594 s (canRxError s x1 x2 x3 x4) := by
  unfold canRxError
  refine Keeps.step (canRxEnd_keeps ..) rfl ?_
  refine Keeps.step (canJudgeErr_keeps ..) rfl ?_
  refine Keeps.step (State.inc_keeps 66 group_can ..) rfl ?_
  refine Keeps.step (State.wr_keeps 66 group_can ..) rfl ?_
  refine Keeps.step (State.wr_keeps 66 group_can ..) rfl ?_
  refine Keeps.step (State.wr_keeps 66 group_can ..) rfl ?_
  refine Keeps.step (State.inc_keeps 66 group_can ..) rfl ?_
  exact Keeps.refl _ _

theorem canException_keeps (s : State) (x1 : Nat) : Keeps 521120523451844526594 s (canException s x1) := by
  unfold canException
  refine Keeps.ite ?_ ?_
  · refine Keeps.step (canRxError_keeps ..) rfl ?_
    exact Keeps.refl _ _
  · refine Keeps.step (setCan_keeps ..) rfl ?_
    refine Keeps.step (canRxEnd_keeps ..) rfl ?_
    refine Keeps.step (State.wr_keeps 66 group_can ..) rfl ?_
    refine Keeps.step (State.wr_keeps 66 group_can ..) rfl ?_
    refine Keeps.step (State.wr_keeps 66 group_can ..) rfl ?_
    exact Keeps.refl _ _

theorem execCanFrameReceived_keeps (x0 x1 : Nat) (x2 : CanRx) (s : State) :
    OutKeeps 521139382275284296450 s (execCanFrameReceived x0 x1 x2 s) := by
  unfold execCanFrameReceived
  refine OutKeeps.next ?_
  refine Keeps.ite ?_ ?_
  · refine Keeps.ite ?_ ?_
    · refine Keeps.ite ?_ ?_
      · exact Keeps.refl _ _
      · refine Keeps.step (setCan_keeps ..) rfl ?_
        exact Keeps.refl _ _
    · refine Keeps.ite ?_ ?_
      · refine Keeps.step (canException_keeps ..) rfl ?_
        exact Keeps.refl _ _
      · refine Keeps.step (canReceive_keeps ..) rfl ?_
        refine Keeps.step (canRxEnd_keeps ..) rfl ?_
        refine Keeps.step (canJudgeErr_keeps ..) rfl ?_
        refine Keeps.ite ?_ ?_
        · refine Keeps.step (State.wr_keeps 66 group_can ..) rfl ?_
          exact Keeps.refl _ _
        · refine Keeps.step (State.wr_keeps 66 group_can ..) rfl ?_
          refine Keeps.step (State.draw_keeps ..) rfl ?_
          exact Keeps.refl _ _
  · exact Keeps.refl _ _

theorem execCanFrameSent_keeps (x0 : Nat) (s : State) : OutKeeps 521139382275284296194 s (execCanFrameSent x0 s) := by
  unfold execCanFrameSent
  refine OutKeeps.next ?_
  refine Keeps.ite ?_ ?_
  · split
    · exact Keeps.refl _ _
    · refine Keeps.step (canEnd_keeps ..) rfl ?_
      refine Keeps.ite ?_ ?_
      · refine Keeps.step (canReceive_keeps ..) rfl ?_
        split
        · refine Keeps.step (canComplete_keeps ..) rfl ?_
          refine Keeps.step (canJudgeErr_keeps ..) rfl ?_
          refine Keeps.step (State.wr_keeps 66 group_can ..) rfl ?_
          refine Keeps.step (State.inc_keeps 66 group_can ..) rfl ?_
          exact Keeps.refl _ _
        · unfold Option.map
          split
          · refine Keeps.step (tunDrop_keeps ..) rfl ?_
            refine Keeps.step (canJudgeErr_keeps ..) rfl ?_
            refine Keeps.step (State.wr_keeps 66 group_can ..) rfl ?_
            refine Keeps.step (State.inc_keeps 66 group_can ..) rfl ?_
            exact Keeps.refl _ _
          · refine Keeps.step (canJudgeErr_keeps ..) rfl ?_
            refine Keeps.step (State.wr_keeps 66 group_can ..) rfl ?_
            refine Keeps.step (State.inc_keeps 66 group_can ..) rfl ?_
            exact Keeps.refl _ _
      · split
        · refine Keeps.step (canComplete_keeps ..) rfl ?_
          refine Keeps.step (canJudgeErr_keeps ..) rfl ?_
          refine Keeps.step (State.wr_keeps 66 group_can ..) rfl ?_
          refine Keeps.step (State.inc_keeps 66 group_can ..) rfl ?_
          exact Keeps.refl _ _
        · unfold Option.map
          split
          · refine Keeps.step (tunDrop_keeps ..) rfl ?_
            refine Keeps.step (canJudgeErr_keeps ..) rfl ?_
            refine Keeps.step (State.wr_keeps 66 group_can ..) rfl ?_
            refine Keeps.step (State.inc_keeps 66 group_can ..) rfl ?_
            exact Keeps.refl _ _
          · refine Keeps.step (canJudgeErr_keeps ..) rfl ?_
            refine Keeps.step (State.wr_keeps 66 group_can ..) rfl ?_
            refine Keeps.step (State.inc_keeps 66 group_can ..) rfl ?_
            exact Keeps.refl _ _
  · exact Keeps.refl _ _

theorem tunRefuse_keeps (s : State) (x1 : Nat) (x2 : QItem) : Keeps 521121086401798095362 s ((tunRefuse s x1 x2).getD s) := by
  unfold tunRefuse
  dsimp only
  split
  · refine Keeps.step (State.inc_keeps 66 group_can ..) rfl ?_
    refine Keeps.step (tunDrop_keeps ..) rfl ?_
    exact Keeps.refl _ _
  · split
    · refine Keeps.step (State.inc_keeps 66 group_can ..) rfl ?_
      refine Keeps.step (tunDrop_keeps ..) rfl ?_
      exact Keeps.refl _ _
    · exact Keeps.refl _ _

theorem canPick_keeps (s : State) (x1 x2 x3 : Nat) : Keeps 521121086401798095362 s (canPick s x1 x2 x3).2 := by
  unfold canPick
  split
  · exact Keeps.refl _ _
  · split
    · split
      · refine Keeps.step (canPick_keeps ..) rfl ?_
        rename_i hq1
        refine Keeps.step (Keeps.of_getD hq1 (tunRefuse_keeps ..)) rfl ?_
        exact Keeps.refl _ _
      · exact Keeps.refl _ _
    · exact Keeps.refl _ _

theorem canLoop_keeps (s : State) (x1 x2 : Nat) : Keeps 73786977394358222850 s (canLoop s x1 x2) := by
  unfold canLoop
  refine Keeps.ite ?_ ?_
  · refine Keeps.step (State.wr_keeps 66 group_can ..) rfl ?_
    refine Keeps.step (setCan_keeps ..) rfl ?_
    exact Keeps.refl _ _
  · exact Keeps.refl _ _

theorem canSof_keeps (s : State) (x1 x2 : Nat) (x3 : Option Nat) : Keeps 521139100800307577346 s (canSof s x1 x2 x3) := by
  unfold canSof
  dsimp only
  split
  · refine Keeps.step (canPick_keeps ..) rfl ?_
    exact Keeps.refl _ _
  · refine Keeps.step (canComplete_keeps ..) rfl ?_
    refine Keeps.step (canPick_keeps ..) rfl ?_
    exact Keeps.refl _ _
  · split
    · refine Keeps.step (State.wr_keeps 66 group_can ..) rfl ?_
      refine Keeps.step (setMbox_keeps ..) rfl ?_
      refine Keeps.step (State.wr_keeps 66 group_can ..) rfl ?_
      refine Keeps.step (setCan_keeps ..) rfl ?_
      split
      · refine Keeps.ite ?_ ?_
        · refine Keeps.step (setCan_keeps ..) rfl ?_
          refine Keeps.step (canLoop_keeps ..) rfl ?_
          refine Keeps.step (canPick_keeps ..) rfl ?_
          exact Keeps.refl _ _
        · refine Keeps.step (canLoop_keeps ..) rfl ?_
          refine Keeps.step (canPick_keeps ..) rfl ?_
          exact Keeps.refl _ _
      · refine Keeps.step (canLoop_keeps ..) rfl ?_
        refine Keeps.step (canPick_keeps ..) rfl ?_
        exact Keeps.refl _ _
    · refine Keeps.step (State.wr_keeps 66 group_can ..) rfl ?_
      refine Keeps.step (setCan_keeps ..) rfl ?_
      split
      · refine Keeps.ite ?_ ?_
        · refine Keeps.step (setCan_keeps ..) rfl ?_
          refine Keeps.step (canLoop_keeps ..) rfl ?_
          refine Keeps.step (canPick_keeps ..) rfl ?_
          exact Keeps.refl _ _
        · refine Keeps.step (canLoop_keeps ..) rfl ?_
          refine Keeps.step (canPick_keeps ..) rfl ?_
          exact Keeps.refl _ _
      · refine Keeps.step (canLoop_keeps ..) rfl ?_
        refine Keeps.step (canPick_keeps ..) rfl ?_
        exact Keeps.refl _ _

theorem execCanSof_keeps (x0 x1 : Nat) (x2 : Option Nat) (s : State) :
    OutKeeps 521139100800307579394 s (execCanSof x0 x1 x2 s) := by
  unfold execCanSof
  refine OutKeeps.next ?_
  refine Keeps.ite ?_ ?_
  · refine Keeps.step (canSof_keeps ..) rfl ?_
    refine Keeps.step (State.atTime_keeps ..) rfl ?_
    exact Keeps.refl _ _
  · exact Keeps.refl _ _

theorem execCanWindowEnd_keeps (x0 x1 x2 : Nat) (s : State) : OutKeeps 521139100800307579394 s (execCanWindowEnd x0 x1 x2 s) := by
  unfold execCanWindowEnd
  refine OutKeeps.next ?_
  refine Keeps.ite ?_ ?_
  · refine Keeps.foldl (fun _ _ => ?_) _ _ ?_
    · refine Keeps.ite ?_ ?_
      · refine Keeps.ite ?_ ?_
        · refine Keeps.step (canComplete_keeps ..) rfl ?_
          refine Keeps.step (State.inc_keeps 66 group_can ..) rfl ?_
          exact Keeps.refl _ _
        · refine Keeps.step (State.inc_keeps 66 group_can ..) rfl ?_
          exact Keeps.refl _ _
      · exact Keeps.refl _ _
    · refine Keeps.step (State.atTime_keeps ..) rfl ?_
      exact Keeps.refl _ _
  · exact Keeps.refl _ _

theorem execCas32_keeps (x0 : Frame) (x1 : Bool) (s : State) : OutKeeps 633825300114114699769065504622 s (execCas32 x0 x1 s) := by
  unfold execCas32
  refine OutKeeps.next ?_
  refine Keeps.step (inFrame_keeps ..) rfl ?_
  exact Keeps.refl _ _

theorem execCas64_keeps (x0 : Frame) (x1 : Bool) (s : State) : OutKeeps 633825300114114699769065504622 s (execCas64 x0 x1 s) := by
  unfold execCas64
  refine OutKeeps.next ?_
  refine Keeps.step (inFrame_keeps ..) rfl ?_
  exact Keeps.refl _ _

theorem qDiscard_keeps (s : State) (x1 : Nat) (x2 : QItem) : Keeps 521121086401798095362 s (qDiscard s x1 x2) := by
  unfold qDiscard
  refine Keeps.step (setQueueSt_keeps ..) rfl ?_
  exact Keeps.refl _ _

theorem execCellEccError_keeps (x0 x1 : Nat) (s : State) : OutKeeps 1701713023778558198338 s (execCellEccError x0 x1 s) := by
  unfold execCellEccError
  refine OutKeeps.next ?_
  refine Keeps.ite ?_ ?_
  · refine Keeps.ite ?_ ?_
    · refine Keeps.step (stompStored_keeps ..) rfl ?_
      refine Keeps.step (errCapture_keeps ..) rfl ?_
      refine Keeps.step (State.inc_keeps 49 group_pool ..) rfl ?_
      exact Keeps.refl _ _
    · refine Keeps.ite ?_ ?_
      · split
        · refine Keeps.step (qDiscard_keeps ..) rfl ?_
          refine Keeps.step (errCapture_keeps ..) rfl ?_
          refine Keeps.step (State.inc_keeps 49 group_pool ..) rfl ?_
          exact Keeps.refl _ _
        · exact Keeps.refl _ _
      · exact Keeps.refl _ _
  · exact Keeps.refl _ _

theorem execChange_keeps (x0 : Frame) (s : State) : OutKeeps 523265151668147872514 s (execChange x0 s) := by
  unfold execChange
  refine OutKeeps.next ?_
  refine Keeps.ite ?_ ?_
  · refine Keeps.step (applyChange_keeps ..) rfl ?_
    exact Keeps.refl _ _
  · exact Keeps.refl _ _

theorem edgesSample_keeps (s : State) (x1 x2 : Nat) (x3 : Option DiscStep) :
    Keeps 522273444956451373826 s (edgesSample s x1 x2 x3) := by
  unfold edgesSample
  refine Keeps.foldl (fun _ _ => ?_) _ _ ?_
  · split
    · refine Keeps.step (edgeDisc_keeps ..) rfl ?_
      exact Keeps.refl _ _
    · refine Keeps.step (edgeSolve_keeps ..) rfl ?_
      exact Keeps.refl _ _
  · refine Keeps.step (edgesSync_keeps ..) rfl ?_
    exact Keeps.refl _ _

theorem readStore_keeps (s : State) : Keeps 521427331176459813378 s (readStore s) := by
  unfold readStore
  refine Keeps.foldl (fun _ _ => ?_) _ _ ?_
  · refine Keeps.step (crcCheck_keeps ..) rfl ?_
    exact Keeps.refl _ _
  · exact Keeps.refl _ _

theorem driftDisc_keeps (s : State) (x1 : Nat) : Keeps 522004073403739955714 s (driftDisc s x1) := by
  unfold driftDisc
  refine Keeps.ite ?_ ?_
  · exact Keeps.refl _ _
  · refine Keeps.foldl (fun _ _ => ?_) _ _ ?_
    · refine Keeps.step (driftNote_keeps ..) rfl ?_
      refine Keeps.step (ownerChange_keeps ..) rfl ?_
      exact Keeps.refl _ _
    · refine Keeps.step (driftEv_keeps ..) rfl ?_
      refine Keeps.step (State.wr_keeps 59 group_zones ..) rfl ?_
      refine Keeps.step (readStore_keeps ..) rfl ?_
      exact Keeps.refl _ _

theorem yieldTo_keeps (s : State) (x1 x2 x3 : Nat) : Keeps 521120523451844788738 s (yieldTo s x1 x2 x3) := by
  unfold yieldTo
  refine Keeps.ite ?_ ?_
  · refine Keeps.ite ?_ ?_
    · refine Keeps.step (setTrk_keeps ..) rfl ?_
      exact Keeps.refl _ _
    · refine Keeps.ite ?_ ?_
      · refine Keeps.step (trkStatus_keeps ..) rfl ?_
        refine Keeps.step (setTrk_keeps ..) rfl ?_
        exact Keeps.refl _ _
      · exact Keeps.refl _ _
  · exact Keeps.refl _ _

theorem useSample_keeps (s : State) (x1 : Nat) (x2 : TrkSample) : Keeps 521264638639920644610 s (useSample s x1 x2).2 := by
  unfold useSample
  refine Keeps.ite ?_ ?_
  · refine Keeps.step (countRaise_keeps 57 group_track ..) rfl ?_
    refine Keeps.step (setTrkState_keeps ..) rfl ?_
    refine Keeps.step (raiseIf_keeps ..) rfl ?_
    refine Keeps.step (State.tkWr_keeps ..) rfl ?_
    refine Keeps.step (State.tkWr_keeps ..) rfl ?_
    refine Keeps.step (State.tkWr_keeps ..) rfl ?_
    refine Keeps.step (State.tkWr_keeps ..) rfl ?_
    refine Keeps.step (State.tkWr_keeps ..) rfl ?_
    refine Keeps.step (State.wr64_keeps 57 group_track group_track ..) rfl ?_
    refine Keeps.step (State.tkWr_keeps ..) rfl ?_
    refine Keeps.step (State.tkWr_keeps ..) rfl ?_
    refine Keeps.step (State.tkWr_keeps ..) rfl ?_
    refine Keeps.step (State.tkWr_keeps ..) rfl ?_
    refine Keeps.step (setTrk_keeps ..) rfl ?_
    refine Keeps.step (State.tkWr_keeps ..) rfl ?_
    refine Keeps.ite ?_ ?_
    · refine Keeps.step (State.inc_keeps 57 group_track ..) rfl ?_
      refine Keeps.step (State.inc_keeps 57 group_track ..) rfl ?_
      exact Keeps.refl _ _
    · refine Keeps.step (State.inc_keeps 57 group_track ..) rfl ?_
      exact Keeps.refl _ _
  · refine Keeps.step (setTrkState_keeps ..) rfl ?_
    refine Keeps.step (raiseIf_keeps ..) rfl ?_
    refine Keeps.step (State.tkWr_keeps ..) rfl ?_
    refine Keeps.step (State.tkWr_keeps ..) rfl ?_
    refine Keeps.step (State.tkWr_keeps ..) rfl ?_
    refine Keeps.step (State.tkWr_keeps ..) rfl ?_
    refine Keeps.step (State.tkWr_keeps ..) rfl ?_
    refine Keeps.step (State.wr64_keeps 57 group_track group_track ..) rfl ?_
    refine Keeps.step (State.tkWr_keeps ..) rfl ?_
    refine Keeps.step (State.tkWr_keeps ..) rfl ?_
    refine Keeps.step (State.tkWr_keeps ..) rfl ?_
    refine Keeps.step (State.tkWr_keeps ..) rfl ?_
    refine Keeps.step (setTrk_keeps ..) rfl ?_
    refine Keeps.step (State.tkWr_keeps ..) rfl ?_
    refine Keeps.ite ?_ ?_
    · refine Keeps.step (State.inc_keeps 57 group_track ..) rfl ?_
      refine Keeps.step (State.inc_keeps 57 group_track ..) rfl ?_
      exact Keeps.refl _ _
    · refine Keeps.step (State.inc_keeps 57 group_track ..) rfl ?_
      exact Keeps.refl _ _

theorem showDelta_keeps (s : State) (x1 : Nat) : Keeps 144116287587483650 s (showDelta s x1) := by
  unfold showDelta
  refine Keeps.step (State.wr64_keeps 57 group_track group_track ..) rfl ?_
  exact Keeps.refl _ _

theorem reconcile_keeps (s : State) (x1 : Nat) (x2 : Int) : Keeps 144116287587745794 s (reconcile s x1 x2) := by
  unfold reconcile
  refine Keeps.ite ?_ ?_
  · refine Keeps.step (showDelta_keeps ..) rfl ?_
    refine Keeps.step (State.tkWr_keeps ..) rfl ?_
    refine Keeps.step (setTrk_keeps ..) rfl ?_
    exact Keeps.refl _ _
  · exact Keeps.refl _ _

theorem slotSample_keeps (s : State) (x1 x2 x3 : Nat) (x4 : List Nat) :
    Keeps 521264638639920644610 s (slotSample s x1 x2 x3 x4).2 := by
  unfold slotSample
  refine Keeps.ite_snd ?_ ?_
  · exact Keeps.refl _ _
  · refine Keeps.ite_snd ?_ ?_
    · refine Keeps.step (State.inc_keeps 57 group_track ..) rfl ?_
      exact Keeps.refl _ _
    · refine Keeps.ite_snd ?_ ?_
      · refine Keeps.ite ?_ ?_
        · refine Keeps.step (setTrk_keeps ..) rfl ?_
          exact Keeps.refl _ _
        · exact Keeps.refl _ _
      · dsimp only
        split
        · refine Keeps.ite_snd ?_ ?_
          · refine Keeps.ite ?_ ?_
            · refine Keeps.step (yieldTo_keeps ..) rfl ?_
              refine Keeps.step (setTrk_keeps ..) rfl ?_
              exact Keeps.refl _ _
            · refine Keeps.step (reconcile_keeps ..) rfl ?_
              refine Keeps.step (yieldTo_keeps ..) rfl ?_
              refine Keeps.step (setTrk_keeps ..) rfl ?_
              exact Keeps.refl _ _
          · refine Keeps.step (useSample_keeps ..) rfl ?_
            refine Keeps.ite ?_ ?_
            · refine Keeps.step (yieldTo_keeps ..) rfl ?_
              refine Keeps.step (setTrk_keeps ..) rfl ?_
              exact Keeps.refl _ _
            · refine Keeps.step (reconcile_keeps ..) rfl ?_
              refine Keeps.step (yieldTo_keeps ..) rfl ?_
              refine Keeps.step (setTrk_keeps ..) rfl ?_
              exact Keeps.refl _ _
        · refine Keeps.step (useSample_keeps ..) rfl ?_
          refine Keeps.ite ?_ ?_
          · refine Keeps.step (yieldTo_keeps ..) rfl ?_
            refine Keeps.step (setTrk_keeps ..) rfl ?_
            exact Keeps.refl _ _
          · refine Keeps.step (reconcile_keeps ..) rfl ?_
            refine Keeps.step (yieldTo_keeps ..) rfl ?_
            refine Keeps.step (setTrk_keeps ..) rfl ?_
            exact Keeps.refl _ _

end Sys2Proof.Machine
end

