-- ==== Sys2Proof/Laws/KeepsD.lean ====
section
/-!
SUPPORT. What each operation can change, part 4 of 6: one lemma per operation and per meaning, callees first.
-/

namespace Sys2Proof.Machine

theorem slotTakes_keeps (s : State) (x1 x2 x3 : Nat) (x4 : List Nat) : Keeps 523301110096422920962 s (slotTakes s x1 x2 x3 x4) := by
  unfold slotTakes
  refine Keeps.ite ?_ ?_
  · refine Keeps.step (slotSample_keeps ..) rfl ?_
    exact Keeps.refl _ _
  · refine Keeps.ite ?_ ?_
    · refine Keeps.step (driftDisc_keeps ..) rfl ?_
      refine Keeps.step (edgesSample_keeps ..) rfl ?_
      refine Keeps.step (slotSample_keeps ..) rfl ?_
      exact Keeps.refl _ _
    · refine Keeps.step (edgesSample_keeps ..) rfl ?_
      refine Keeps.step (slotSample_keeps ..) rfl ?_
      exact Keeps.refl _ _

theorem setSubEnt_keeps (s : State) (x1 : Nat) (x2 : SubEnt) : Keeps 32768 s (setSubEnt s x1 x2) := by
  unfold setSubEnt
  refine Keeps.step (Keeps.put_pub ..) rfl ?_
  exact Keeps.refl _ _

theorem feedEntry_keeps (s : State) (x1 x2 x3 x4 : Nat) (x5 : List Nat) (x6 : Nat) :
    Keeps 523303361896236638978 s (feedEntry s x1 x2 x3 x4 x5 x6) := by
  unfold feedEntry
  refine Keeps.ite ?_ ?_
  · refine Keeps.step (countRaise_keeps 51 group_sub ..) rfl ?_
    exact Keeps.refl _ _
  · refine Keeps.each (fun _ _ => ?_) ?_
    · refine Keeps.step (slotTakes_keeps ..) rfl ?_
      exact Keeps.refl _ _
    · refine Keeps.step (State.inc_keeps 51 group_sub ..) rfl ?_
      refine Keeps.step (setSubEnt_keeps ..) rfl ?_
      exact Keeps.refl _ _

theorem offerChan_keeps (s : State) (x1 : Nat) (x2 : List Nat) : Keeps 523304487796143481602 s (offerChan s x1 x2) := by
  unfold offerChan
  refine Keeps.ite ?_ ?_
  · refine Keeps.foldl (fun _ _ => ?_) _ _ ?_
    · refine Keeps.step (feedEntry_keeps ..) rfl ?_
      exact Keeps.refl _ _
    · refine Keeps.step (State.setBit_keeps 50 group_pub ..) rfl ?_
      refine Keeps.step (State.inc_keeps 50 group_pub ..) rfl ?_
      refine Keeps.step (Keeps.put_pub ..) rfl ?_
      refine Keeps.ite ?_ ?_
      · refine Keeps.step (haloSeqNext_keeps ..) rfl ?_
        refine Keeps.foldl_snd (fun _ _ => ?_) _ _ ?_
        · refine Keeps.ite_snd ?_ ?_
          · refine Keeps.step (admitOne_keeps ..) rfl ?_
            exact Keeps.refl _ _
          · refine Keeps.step (countRaise_keeps 50 group_pub ..) rfl ?_
            refine Keeps.step (dropAt_keeps ..) rfl ?_
            refine Keeps.step (admitOne_keeps ..) rfl ?_
            exact Keeps.refl _ _
        · refine Keeps.step (Keeps.put_sw ..) rfl ?_
          exact Keeps.refl _ _
      · refine Keeps.foldl_snd (fun _ _ => ?_) _ _ ?_
        · refine Keeps.ite_snd ?_ ?_
          · refine Keeps.step (admitOne_keeps ..) rfl ?_
            exact Keeps.refl _ _
          · refine Keeps.step (countRaise_keeps 50 group_pub ..) rfl ?_
            refine Keeps.step (dropAt_keeps ..) rfl ?_
            refine Keeps.step (admitOne_keeps ..) rfl ?_
            exact Keeps.refl _ _
        · refine Keeps.step (Keeps.put_sw ..) rfl ?_
          exact Keeps.refl _ _
  · refine Keeps.step (State.setBit_keeps 50 group_pub ..) rfl ?_
    refine Keeps.step (State.inc_keeps 50 group_pub ..) rfl ?_
    refine Keeps.step (Keeps.put_pub ..) rfl ?_
    refine Keeps.ite ?_ ?_
    · refine Keeps.step (haloSeqNext_keeps ..) rfl ?_
      refine Keeps.foldl_snd (fun _ _ => ?_) _ _ ?_
      · refine Keeps.ite_snd ?_ ?_
        · refine Keeps.step (admitOne_keeps ..) rfl ?_
          exact Keeps.refl _ _
        · refine Keeps.step (countRaise_keeps 50 group_pub ..) rfl ?_
          refine Keeps.step (dropAt_keeps ..) rfl ?_
          refine Keeps.step (admitOne_keeps ..) rfl ?_
          exact Keeps.refl _ _
      · refine Keeps.step (Keeps.put_sw ..) rfl ?_
        exact Keeps.refl _ _
    · refine Keeps.foldl_snd (fun _ _ => ?_) _ _ ?_
      · refine Keeps.ite_snd ?_ ?_
        · refine Keeps.step (admitOne_keeps ..) rfl ?_
          exact Keeps.refl _ _
        · refine Keeps.step (countRaise_keeps 50 group_pub ..) rfl ?_
          refine Keeps.step (dropAt_keeps ..) rfl ?_
          refine Keeps.step (admitOne_keeps ..) rfl ?_
          exact Keeps.refl _ _
      · refine Keeps.step (Keeps.put_sw ..) rfl ?_
        exact Keeps.refl _ _

theorem pubOffer_keeps (s : State) : Keeps 523412574187200373506 s (pubOffer s) := by
  unfold pubOffer
  refine Keeps.ite ?_ ?_
  · refine Keeps.ite ?_ ?_
    · refine Keeps.step (settleEdges_keeps ..) rfl ?_
      refine Keeps.foldl (fun _ _ => ?_) _ _ ?_
      · refine Keeps.step (offerChan_keeps ..) rfl ?_
        exact Keeps.refl _ _
      · refine Keeps.step (Keeps.put_pub ..) rfl ?_
        exact Keeps.refl _ _
    · exact Keeps.refl _ _
  · refine Keeps.step (Keeps.put_pub ..) rfl ?_
    exact Keeps.refl _ _

theorem execChannelOffer_keeps (s : State) : OutKeeps 523412574187200373506 s (execChannelOffer s) := by
  unfold execChannelOffer
  refine OutKeeps.next ?_
  refine Keeps.ite ?_ ?_
  · refine Keeps.step (pubOffer_keeps ..) rfl ?_
    exact Keeps.refl _ _
  · exact Keeps.refl _ _

theorem chOutSet_keeps (s : State) (x1 : Nat) (x2 : By) (x3 : Nat → Fld) :
    Keeps 633825300114114699769065503598 s (chOutSet s x1 x2 x3) := by
  unfold chOutSet
  refine Keeps.step (busStore_keeps ..) rfl ?_
  exact Keeps.refl _ _

theorem execChannelRelease_keeps (x0 : Nat) (x1 : By) (s : State) :
    OutKeeps 633825300114114699769065503598 s (execChannelRelease x0 x1 s) := by
  unfold execChannelRelease
  refine OutKeeps.next ?_
  refine Keeps.step (chOutSet_keeps ..) rfl ?_
  exact Keeps.refl _ _

theorem execClaim_keeps (x0 : Nat) (x1 : By) (s : State) : OutKeeps 633825300114114699719871563554 s (execClaim x0 x1 s) := by
  unfold execClaim
  refine OutKeeps.next ?_
  refine Keeps.ite ?_ ?_
  · unfold readTo
    refine Keeps.step (Keeps.put_stitch ..) rfl ?_
    refine Keeps.step (busRead_keeps ..) rfl ?_
    exact Keeps.refl _ _
  · exact Keeps.refl _ _

theorem contLost_keeps (s : State) (x1 : Nat) : Keeps 262144 s (contLost s x1) := by
  unfold contLost
  refine Keeps.each (fun _ _ => ?_) ?_
  · refine Keeps.step (setTrk_keeps ..) rfl ?_
    exact Keeps.refl _ _
  · exact Keeps.refl _ _

theorem trkCountErr_keeps (s : State) (x1 : Nat) : Keeps 144116287587745794 s (trkCountErr s x1) := by
  unfold trkCountErr
  refine Keeps.foldl (fun _ _ => ?_) _ _ ?_
  · refine Keeps.step (State.tkWr_keeps ..) rfl ?_
    refine Keeps.step (setTrk_keeps ..) rfl ?_
    refine Keeps.step (State.inc_keeps 57 group_track ..) rfl ?_
    exact Keeps.refl _ _
  · refine Keeps.step (contLost_keeps ..) rfl ?_
    exact Keeps.refl _ _

theorem execClkLost_keeps (s : State) : OutKeeps 530488010676775420418 s (execClkLost s) := by
  unfold execClkLost
  refine OutKeeps.next ?_
  refine Keeps.ite ?_ ?_
  · refine Keeps.step (fdieEv_keeps raise_keeps ..) rfl ?_
    refine Keeps.step (State.wr_keeps 41 (.inl rfl) ..) rfl ?_
    refine Keeps.each (fun _ _ => ?_) ?_
    · refine Keeps.step (trkCountErr_keeps ..) rfl ?_
      refine Keeps.step (State.wr_keeps 63 group_enc ..) rfl ?_
      exact Keeps.refl _ _
    · exact Keeps.refl _ _
  · exact Keeps.refl _ _

theorem execCmdGo_keeps (x0 : By) (s : State) : OutKeeps 633825300114114699769065503598 s (execCmdGo x0 s) := by
  unfold execCmdGo
  refine OutKeeps.next ?_
  refine Keeps.step (busStore_keeps ..) rfl ?_
  exact Keeps.refl _ _

theorem pioStep_keeps (s : State) (x1 : Nat) (x2 : Option Nat) : Keeps 295147906278881230850 s (pioStep s x1 x2) := by
  unfold pioStep
  split
  · refine Keeps.step (State.wr_keeps 68 group_pio ..) rfl ?_
    exact Keeps.refl _ _
  · refine Keeps.ite ?_ ?_
    · refine Keeps.step (pioApply_keeps ..) rfl ?_
      refine Keeps.step (State.wr_keeps 68 group_pio ..) rfl ?_
      exact Keeps.refl _ _
    · refine Keeps.step (State.wr_keeps 68 group_pio ..) rfl ?_
      exact Keeps.refl _ _

theorem pioNext_keeps (s : State) (x1 : Nat) (x2 : Option Nat) : Keeps 295147906278881230850 s (pioNext s x1 x2) := by
  unfold pioNext
  refine Keeps.ite ?_ ?_
  · refine Keeps.step (pioStop_keeps ..) rfl ?_
    refine Keeps.step (pioStep_keeps ..) rfl ?_
    refine Keeps.step (pioUnstall_keeps ..) rfl ?_
    exact Keeps.refl _ _
  · refine Keeps.step (pioStep_keeps ..) rfl ?_
    refine Keeps.step (pioUnstall_keeps ..) rfl ?_
    exact Keeps.refl _ _

theorem pioBad_keeps (s : State) (x1 : Nat) : Keeps 521120523451861303810 s (pioBad s x1) := by
  unfold pioBad
  refine Keeps.step (pioEv_keeps ..) rfl ?_
  refine Keeps.step (pioUnstall_keeps ..) rfl ?_
  refine Keeps.step (State.wr_keeps 68 group_pio ..) rfl ?_
  refine Keeps.step (State.wr_keeps 68 group_pio ..) rfl ?_
  refine Keeps.step (State.setEng_keeps ..) rfl ?_
  exact Keeps.refl _ _

theorem pioTake_keeps {n : Nat} (s : State) (x1 : Nat) (x2 : PioOp) {x3 : State → Nat → State} (hr : ∀ t w, Keeps n t (x3 t w)) :
    Keeps (Nat.lor n 521120523451861303810) s (pioTake s x1 x2 x3) := by
  unfold pioTake
  refine Keeps.ite ?_ (Keeps.refl _ _)
  dsimp only
  split
  · exact (pioBad_keeps ..).mono (subMask_lor_right rfl)
  · exact Keeps.ite ((hr ..).mono (subMask_left _ _)) (Keeps.refl _ _)

theorem execCmpDec_keeps (x0 : Nat) (s : State) : OutKeeps 521120523451861303810 s (execCmpDec x0 s) := by
  unfold execCmpDec
  refine OutKeeps.next ?_
  refine Keeps.step (pioTake_keeps (n := 295147906278881230850) (hr := fun _ _ => ?_) ..) rfl ?_
  · refine Keeps.step (pioNext_keeps ..) rfl ?_
    refine Keeps.step (State.wr_keeps 68 group_pio ..) rfl ?_
    refine Keeps.step (State.wr_keeps 68 group_pio ..) rfl ?_
    exact Keeps.refl _ _
  · exact Keeps.refl _ _

theorem execCmpLoadi_keeps (x0 : Nat) (s : State) : OutKeeps 521120523451861303810 s (execCmpLoadi x0 s) := by
  unfold execCmpLoadi
  refine OutKeeps.next ?_
  refine Keeps.step (pioTake_keeps (n := 295147906278881230850) (hr := fun _ _ => ?_) ..) rfl ?_
  · refine Keeps.step (pioNext_keeps ..) rfl ?_
    refine Keeps.step (State.wr_keeps 68 group_pio ..) rfl ?_
    exact Keeps.refl _ _
  · exact Keeps.refl _ _

theorem execCmpLoadr_keeps (x0 : Nat) (s : State) : OutKeeps 521120523451861303810 s (execCmpLoadr x0 s) := by
  unfold execCmpLoadr
  refine OutKeeps.next ?_
  refine Keeps.step (pioTake_keeps (n := 295147906278881230850) (hr := fun _ _ => ?_) ..) rfl ?_
  · refine Keeps.step (pioNext_keeps ..) rfl ?_
    refine Keeps.step (State.wr_keeps 68 group_pio ..) rfl ?_
    exact Keeps.refl _ _
  · exact Keeps.refl _ _

theorem execCmpMatch_keeps (x0 : Nat) (s : State) : OutKeeps 521120523451861303810 s (execCmpMatch x0 s) := by
  unfold execCmpMatch
  refine OutKeeps.next ?_
  refine Keeps.step (pioTake_keeps (n := 295147906278881230850) (hr := fun _ _ => ?_) ..) rfl ?_
  · refine Keeps.step (pioNext_keeps ..) rfl ?_
    refine Keeps.step (State.wr_keeps 68 group_pio ..) rfl ?_
    exact Keeps.refl _ _
  · exact Keeps.refl _ _

theorem pioStall_keeps (s : State) (x1 x2 : Nat) : Keeps 295147906278881230850 s (pioStall s x1 x2) := by
  unfold pioStall
  refine Keeps.step (pioHalt_keeps ..) rfl ?_
  refine Keeps.step (State.wr_keeps 68 group_pio ..) rfl ?_
  refine Keeps.step (State.wr_keeps 68 group_pio ..) rfl ?_
  exact Keeps.refl _ _

theorem execCmpTakeq_keeps (x0 : Nat) (s : State) : OutKeeps 521120523451861303810 s (execCmpTakeq x0 s) := by
  unfold execCmpTakeq
  refine OutKeeps.next ?_
  refine Keeps.step (pioTake_keeps (n := 295147906278881230850) (hr := fun _ _ => ?_) ..) rfl ?_
  · split
    · refine Keeps.step (pioStall_keeps ..) rfl ?_
      exact Keeps.refl _ _
    · refine Keeps.step (pioNext_keeps ..) rfl ?_
      refine Keeps.step (State.wr_keeps 68 group_pio ..) rfl ?_
      refine Keeps.step (State.setEng_keeps ..) rfl ?_
      exact Keeps.refl _ _
  · exact Keeps.refl _ _

theorem execCntClear_keeps (x0 : Nat) (x1 : By) (s : State) : OutKeeps 633825300114114699769065503598 s (execCntClear x0 x1 s) := by
  unfold execCntClear
  refine OutKeeps.next ?_
  split
  · refine Keeps.step (busStore_keeps ..) rfl ?_
    exact Keeps.refl _ _
  · exact Keeps.refl _ _

theorem answerTo_keeps (s : State) (x1 : Frame) (x2 x3 : Nat) (x4 : Option Nat) :
    Keeps 521121367876774683138 s (answerTo s x1 x2 x3 x4) := by
  unfold answerTo
  refine Keeps.step (driftSend_keeps ..) rfl ?_
  exact Keeps.refl _ _

theorem onCommit_keeps (s : State) (x1 : Frame) : Keeps 522688620547100271362 s (onCommit s x1) := by
  unfold onCommit
  dsimp only
  split
  · refine Keeps.step (answerTo_keeps ..) rfl ?_
    refine Keeps.step (findItem_keeps ..) rfl ?_
    exact Keeps.refl _ _
  · refine Keeps.ite ?_ ?_
    · refine Keeps.step (settleEdges_keeps ..) rfl ?_
      refine Keeps.step (armActions_keeps ..) rfl ?_
      refine Keeps.step (driftNote_keeps ..) rfl ?_
      refine Keeps.step (driftCount_keeps ..) rfl ?_
      refine Keeps.step (answerTo_keeps ..) rfl ?_
      refine Keeps.step (recPut_keeps ..) rfl ?_
      refine Keeps.step (findItem_keeps ..) rfl ?_
      exact Keeps.refl _ _
    · refine Keeps.ite ?_ ?_
      · refine Keeps.step (answerTo_keeps ..) rfl ?_
        refine Keeps.step (findItem_keeps ..) rfl ?_
        exact Keeps.refl _ _
      · refine Keeps.step (answerTo_keeps ..) rfl ?_
        refine Keeps.step (findItem_keeps ..) rfl ?_
        exact Keeps.refl _ _

theorem execCommit_keeps (x0 : Frame) (s : State) : OutKeeps 522688620547100271362 s (execCommit x0 s) := by
  unfold execCommit
  refine OutKeeps.next ?_
  refine Keeps.ite ?_ ?_
  · refine Keeps.step (onCommit_keeps ..) rfl ?_
    exact Keeps.refl _ _
  · exact Keeps.refl _ _

theorem execCommitDiscard_keeps (x0 : Nat) (x1 : By) (s : State) :
    OutKeeps 633825300114114699769065503598 s (execCommitDiscard x0 x1 s) := by
  unfold execCommitDiscard
  refine OutKeeps.next ?_
  refine Keeps.step (busStore_keeps ..) rfl ?_
  exact Keeps.refl _ _

theorem actCommit_keeps (s : State) (x1 : Bool) : Keeps 161996580948883804204827394 s (actCommit s x1) := by
  unfold actCommit
  refine Keeps.ite ?_ ?_
  · exact Keeps.refl _ _
  · refine Keeps.ite ?_ ?_
    · refine Keeps.step (countRaise_keeps 82 group_upd ..) rfl ?_
      refine Keeps.step (updResult_keeps ..) rfl ?_
      refine Keeps.step (setUpd_keeps ..) rfl ?_
      refine Keeps.step (Keeps.put_ao_mgmt ..) rfl ?_
      refine Keeps.step (State.wr_keeps 82 group_upd ..) rfl ?_
      exact Keeps.refl _ _
    · refine Keeps.step (Keeps.put_mgmt ..) rfl ?_
      exact Keeps.refl _ _

theorem commitJudge_keeps (s : State) : Keeps 521120541044030573058 s (commitJudge s) := by
  unfold commitJudge
  refine Keeps.ite ?_ ?_
  · refine Keeps.step (State.wr_keeps 44 group_time ..) rfl ?_
    refine Keeps.step (Keeps.put_time (ht := ⟨rfl, rfl⟩) ..) rfl ?_
    exact Keeps.refl _ _
  · refine Keeps.step (raise_keeps ..) rfl ?_
    refine Keeps.step (State.inc_keeps 44 group_time ..) rfl ?_
    refine Keeps.step (State.inc_keeps 44 group_time ..) rfl ?_
    refine Keeps.step (State.wr_keeps 44 group_time ..) rfl ?_
    refine Keeps.step (Keeps.put_time (ht := ⟨rfl, rfl⟩) ..) rfl ?_
    exact Keeps.refl _ _

theorem commitPoint_keeps (s : State) : Keeps 161996580948901396390873858 s (commitPoint s) := by
  unfold commitPoint
  refine Keeps.ite ?_ ?_
  · exact Keeps.refl _ _
  · refine Keeps.step (actCommit_keeps ..) rfl ?_
    refine Keeps.step (commitJudge_keeps ..) rfl ?_
    refine Keeps.step (State.atTime_keeps ..) rfl ?_
    exact Keeps.refl _ _

theorem execCommitPoint_keeps (s : State) : OutKeeps 161996580948901396390873858 s (execCommitPoint s) := by
  unfold execCommitPoint
  refine OutKeeps.next ?_
  refine Keeps.ite ?_ ?_
  · refine Keeps.step (commitPoint_keeps ..) rfl ?_
    exact Keeps.refl _ _
  · exact Keeps.refl _ _

theorem execCommitWarn_keeps (x0 : Nat) (s : State) : OutKeeps 151636847975280491366914 s (execCommitWarn x0 s) := by
  unfold execCommitWarn
  refine OutKeeps.next ?_
  refine Keeps.ite ?_ ?_
  · refine Keeps.step (countRaise_keeps 77 group_cores ..) rfl ?_
    refine Keeps.step (State.atTime_keeps ..) rfl ?_
    exact Keeps.refl _ _
  · exact Keeps.refl _ _

theorem execComplete_keeps (x0 : Nat) (x1 : By) (x2 : Nat) (s : State) :
    OutKeeps 633825300114114699769065503598 s (execComplete x0 x1 x2 s) := by
  unfold execComplete
  refine OutKeeps.next ?_
  refine Keeps.ite ?_ ?_
  · refine Keeps.step (busStore_keeps ..) rfl ?_
    exact Keeps.refl _ _
  · exact Keeps.refl _ _

theorem execConfigure_keeps (x0 : By) (s : State) : OutKeeps 633825300114114699769065503598 s (execConfigure x0 s) := by
  unfold execConfigure
  refine OutKeeps.next ?_
  refine Keeps.step (entCmd_keeps ..) rfl ?_
  exact Keeps.refl _ _

theorem execCoreDone_keeps (x0 : By) (x1 : Nat) (s : State) : OutKeeps 633825300114114699769065503598 s (execCoreDone x0 x1 s) := by
  unfold execCoreDone
  refine OutKeeps.next ?_
  refine Keeps.step (busStore_keeps ..) rfl ?_
  exact Keeps.refl _ _

theorem laneGoDown_keeps (s : State) (x1 x2 : Nat) : Keeps 1703865955506674432834 s (laneGoDown s x1 x2) := by
  unfold laneGoDown
  refine Keeps.ite ?_ ?_
  · refine Keeps.step (leaveUp_keeps ..) rfl ?_
    refine Keeps.step (laneCause_keeps ..) rfl ?_
    exact Keeps.refl _ _
  · exact Keeps.refl _ _

theorem execCrcWindow_keeps (x0 : Nat) (s : State) : OutKeeps 1703865955506674432834 s (execCrcWindow x0 s) := by
  unfold execCrcWindow
  refine OutKeeps.next ?_
  refine Keeps.ite ?_ ?_
  · refine Keeps.ite ?_ ?_
    · refine Keeps.ite ?_ ?_
      · refine Keeps.step (laneGoDown_keeps ..) rfl ?_
        refine Keeps.step (raise_keeps ..) rfl ?_
        refine Keeps.step (State.setLane_keeps ..) rfl ?_
        exact Keeps.refl _ _
      · refine Keeps.step (raise_keeps ..) rfl ?_
        refine Keeps.step (State.setLane_keeps ..) rfl ?_
        exact Keeps.refl _ _
    · refine Keeps.step (State.setLane_keeps ..) rfl ?_
      exact Keeps.refl _ _
  · exact Keeps.refl _ _

theorem ctlSet_keeps (s : State) (x1 : Nat) (x2 : By) (x3 x4 : Fld) :
    Keeps 633825300114114699769065503598 s (ctlSet s x1 x2 x3 x4) := by
  unfold ctlSet
  refine Keeps.ite ?_ ?_
  · refine Keeps.step (busStore_keeps ..) rfl ?_
    exact Keeps.refl _ _
  · refine Keeps.step (busStore_keeps ..) rfl ?_
    exact Keeps.refl _ _

theorem execCurveApply_keeps (x0 : Nat) (x1 : By) (s : State) :
    OutKeeps 633825300114114699769065503598 s (execCurveApply x0 x1 s) := by
  unfold execCurveApply
  refine OutKeeps.next ?_
  refine Keeps.step (ctlSet_keeps ..) rfl ?_
  exact Keeps.refl _ _

theorem brPgFell_keeps (s : State) : Keeps 28855319420670252679682 s (brPgFell s) := by
  unfold brPgFell
  refine Keeps.each (fun _ _ => ?_) ?_
  · refine Keeps.ite ?_ ?_
    · refine Keeps.step (brGateOff_keeps ..) rfl ?_
      exact Keeps.refl _ _
    · exact Keeps.refl _ _
  · exact Keeps.refl _ _

theorem endAttempt_keeps (s : State) (x1 x2 : Nat) : Keeps 28855319420670252679682 s (endAttempt s x1 x2) := by
  unfold endAttempt
  refine Keeps.ite ?_ ?_
  · refine Keeps.step (brPgFell_keeps ..) rfl ?_
    refine Keeps.step (setPg_keeps ..) rfl ?_
    refine Keeps.ite ?_ ?_
    · refine Keeps.step (Keeps.put_power ..) rfl ?_
      refine Keeps.step (keepEnergy_keeps ..) rfl ?_
      exact Keeps.refl _ _
    · refine Keeps.step (keepEnergy_keeps ..) rfl ?_
      exact Keeps.refl _ _
  · refine Keeps.step (setPg_keeps ..) rfl ?_
    refine Keeps.ite ?_ ?_
    · refine Keeps.step (Keeps.put_power ..) rfl ?_
      refine Keeps.step (keepEnergy_keeps ..) rfl ?_
      exact Keeps.refl _ _
    · refine Keeps.step (keepEnergy_keeps ..) rfl ?_
      exact Keeps.refl _ _

theorem failAttempt_keeps (s : State) (x1 x2 x3 : Nat) : Keeps 2446706958649962961830658 s (failAttempt s x1 x2 x3) := by
  unfold failAttempt
  refine Keeps.ite ?_ ?_
  · refine Keeps.step (setCtlState_keeps ..) rfl ?_
    refine Keeps.step (setCtl_keeps ..) rfl ?_
    refine Keeps.step (setRetries_keeps ..) rfl ?_
    refine Keeps.step (ctlEv_keeps ..) rfl ?_
    refine Keeps.ite ?_ ?_
    · refine Keeps.step (State.inc_keeps 73 group_power ..) rfl ?_
      refine Keeps.step (setCause_keeps ..) rfl ?_
      refine Keeps.step (showTimers_keeps ..) rfl ?_
      refine Keeps.step (setCtl_keeps ..) rfl ?_
      refine Keeps.step (State.ctlWr_keeps ..) rfl ?_
      refine Keeps.step (endAttempt_keeps ..) rfl ?_
      exact Keeps.refl _ _
    · refine Keeps.step (State.inc_keeps 74 group_branch ..) rfl ?_
      refine Keeps.step (setCause_keeps ..) rfl ?_
      refine Keeps.step (showTimers_keeps ..) rfl ?_
      refine Keeps.step (setCtl_keeps ..) rfl ?_
      refine Keeps.step (State.ctlWr_keeps ..) rfl ?_
      refine Keeps.step (endAttempt_keeps ..) rfl ?_
      exact Keeps.refl _ _
  · refine Keeps.step (ctlEv_keeps ..) rfl ?_
    refine Keeps.step (setCtlState_keeps ..) rfl ?_
    refine Keeps.step (ctlEv_keeps ..) rfl ?_
    refine Keeps.ite ?_ ?_
    · refine Keeps.step (State.inc_keeps 73 group_power ..) rfl ?_
      refine Keeps.step (setCause_keeps ..) rfl ?_
      refine Keeps.step (showTimers_keeps ..) rfl ?_
      refine Keeps.step (setCtl_keeps ..) rfl ?_
      refine Keeps.step (State.ctlWr_keeps ..) rfl ?_
      refine Keeps.step (endAttempt_keeps ..) rfl ?_
      exact Keeps.refl _ _
    · refine Keeps.step (State.inc_keeps 74 group_branch ..) rfl ?_
      refine Keeps.step (setCause_keeps ..) rfl ?_
      refine Keeps.step (showTimers_keeps ..) rfl ?_
      refine Keeps.step (setCtl_keeps ..) rfl ?_
      refine Keeps.step (State.ctlWr_keeps ..) rfl ?_
      refine Keeps.step (endAttempt_keeps ..) rfl ?_
      exact Keeps.refl _ _

theorem ctlFail_keeps (s : State) (x1 x2 x3 : Nat) : Keeps 2561224355957467721595714 s (ctlFail s x1 x2 x3) := by
  unfold ctlFail
  refine Keeps.step (afterPower_keeps ..) rfl ?_
  refine Keeps.step (failAttempt_keeps ..) rfl ?_
  refine Keeps.step (State.coreAt_keeps ..) rfl ?_
  exact Keeps.refl _ _

theorem execCurveTrip_keeps (x0 x1 : Nat) (s : State) : OutKeeps 2561224355957467721595714 s (execCurveTrip x0 x1 s) := by
  unfold execCurveTrip
  refine OutKeeps.next ?_
  refine Keeps.ite ?_ ?_
  · refine Keeps.step (ctlFail_keeps ..) rfl ?_
    exact Keeps.refl _ _
  · exact Keeps.refl _ _

theorem faultAtFreeze_keeps (s : State) (x1 : Bool) (x2 : Nat) :
    Keeps 138812103855569041150338628418 s (faultAtFreeze s x1 x2) := by
  unfold faultAtFreeze
  refine Keeps.ite ?_ ?_
  · refine Keeps.step (ownFault_keeps ..) rfl ?_
    exact Keeps.refl _ _
  · exact Keeps.refl _ _

theorem execCutOff_keeps (s : State) : OutKeeps 138812103855569041150338628418 s (execCutOff s) := by
  unfold execCutOff
  refine OutKeeps.next ?_
  refine Keeps.ite ?_ ?_
  · refine Keeps.step (ownFault_keeps ..) rfl ?_
    refine Keeps.step (Keeps.put_node ..) rfl ?_
    exact Keeps.refl _ _
  · refine Keeps.step (faultAtFreeze_keeps ..) rfl ?_
    exact Keeps.refl _ _

theorem dawnReply_keeps (s : State) (x1 x2 x3 : Nat) (x4 : List Nat) :
    Keeps 2361183242534334234898 s (dawnReply s x1 x2 x3 x4) := by
  unfold dawnReply
  refine Keeps.step (State.setBit_keeps 71 group_host ..) rfl ?_
  refine Keeps.step (State.setBit_keeps 71 group_host ..) rfl ?_
  refine Keeps.step (State.memWrite_keeps ..) rfl ?_
  refine Keeps.step (State.draw_keeps ..) rfl ?_
  exact Keeps.refl _ _

theorem dawnSay_keeps (s : State) (x1 : DawnIn) (x2 x3 : Nat) (x4 : List Nat) :
    Keeps 2361183242568693973266 s (dawnSay s x1 x2 x3 x4) := by
  unfold dawnSay
  refine Keeps.ite ?_ ?_
  · refine Keeps.step (dawnReply_keeps ..) rfl ?_
    refine Keeps.step (Keeps.put_mgmt ..) rfl ?_
    exact Keeps.refl _ _
  · refine Keeps.step (Keeps.put_mgmt ..) rfl ?_
    exact Keeps.refl _ _

theorem execDawnBegin_keeps (x0 : DawnIn) (x1 : Nat) (x2 : List Nat) (x3 : Bool) (s : State) :
    OutKeeps 2361183242568693973266 s (execDawnBegin x0 x1 x2 x3 s) := by
  unfold execDawnBegin
  refine OutKeeps.next ?_
  refine Keeps.ite ?_ ?_
  · refine Keeps.step (dawnSay_keeps ..) rfl ?_
    refine Keeps.step (dawnStart_keeps ..) rfl ?_
    exact Keeps.refl _ _
  · exact Keeps.refl _ _

theorem execDawnData_keeps (x0 : DawnIn) (x1 : Nat) (x2 : List Nat) (x3 : Bool) (s : State) :
    OutKeeps 2361183242568693973266 s (execDawnData x0 x1 x2 x3 s) := by
  unfold execDawnData
  refine OutKeeps.next ?_
  refine Keeps.ite ?_ ?_
  · refine Keeps.step (dawnSay_keeps ..) rfl ?_
    refine Keeps.step (dawnWrite_keeps ..) rfl ?_
    exact Keeps.refl _ _
  · exact Keeps.refl _ _

theorem execDawnEnd_keeps (x0 : DawnIn) (x1 : Bool) (s : State) : OutKeeps 606824093049891871260946 s (execDawnEnd x0 x1 s) := by
  unfold execDawnEnd
  refine OutKeeps.next ?_
  refine Keeps.ite ?_ ?_
  · refine Keeps.step (dawnSay_keeps ..) rfl ?_
    refine Keeps.step (dawnFinish_keeps ..) rfl ?_
    exact Keeps.refl _ _
  · exact Keeps.refl _ _

theorem execDawnExit_keeps (x0 : DawnIn) (s : State) : OutKeeps 39614083618315411365465948946 s (execDawnExit x0 s) := by
  unfold execDawnExit
  refine OutKeeps.next ?_
  refine Keeps.ite ?_ ?_
  · refine Keeps.step (dawnLeave_keeps ..) rfl ?_
    refine Keeps.step (dawnSay_keeps ..) rfl ?_
    exact Keeps.refl _ _
  · exact Keeps.refl _ _

theorem execDawnInfo_keeps (x0 : DawnIn) (s : State) : OutKeeps 2361183242568693973266 s (execDawnInfo x0 s) := by
  unfold execDawnInfo
  refine OutKeeps.next ?_
  refine Keeps.ite ?_ ?_
  · exact Keeps.refl _ _
  · refine Keeps.ite ?_ ?_
    · refine Keeps.step (dawnSay_keeps ..) rfl ?_
      exact Keeps.refl _ _
    · refine Keeps.step (dawnSay_keeps ..) rfl ?_
      refine Keeps.step (State.draw_keeps ..) rfl ?_
      exact Keeps.refl _ _

theorem execDawnReq_keeps (x0 : By) (x1 : Nat) (s : State) : OutKeeps 633825300114114699769065503598 s (execDawnReq x0 x1 s) := by
  unfold execDawnReq
  refine OutKeeps.next ?_
  refine Keeps.step (busStore_keeps ..) rfl ?_
  exact Keeps.refl _ _

theorem otpWrite_keeps (s : State) (x1 : By) (x2 x3 : Nat) : Keeps 633825300114114699769065503598 s (otpWrite s x1 x2 x3) := by
  unfold otpWrite
  refine Keeps.step (busStore_keeps ..) rfl ?_
  exact Keeps.refl _ _

theorem execDebugDisable_keeps (x0 : By) (s : State) : OutKeeps 633825300114114699769065503598 s (execDebugDisable x0 s) := by
  unfold execDebugDisable
  refine OutKeeps.next ?_
  refine Keeps.step (otpWrite_keeps ..) rfl ?_
  exact Keeps.refl _ _

theorem execDebugLock_keeps (x0 : By) (s : State) : OutKeeps 633825300114114699769065503598 s (execDebugLock x0 s) := by
  unfold execDebugLock
  refine OutKeeps.next ?_
  refine Keeps.step (otpWrite_keeps ..) rfl ?_
  exact Keeps.refl _ _

theorem execDetach_keeps (x0 : Nat) (s : State) : OutKeeps 115038517830956604291906 s (execDetach x0 s) := by
  unfold execDetach
  refine OutKeeps.next ?_
  refine Keeps.ite ?_ ?_
  · exact Keeps.refl _ _
  · refine Keeps.ite ?_ ?_
    · refine Keeps.step (vbusFall_keeps ..) rfl ?_
      refine Keeps.ite ?_ ?_
      · refine Keeps.step (pdDetach_keeps ..) rfl ?_
        exact Keeps.refl _ _
      · exact Keeps.refl _ _
    · refine Keeps.ite ?_ ?_
      · refine Keeps.step (pdDetach_keeps ..) rfl ?_
        exact Keeps.refl _ _
      · exact Keeps.refl _ _

theorem execDisarm_keeps (x0 : By) (s : State) : OutKeeps 633825300114114699769065503598 s (execDisarm x0 s) := by
  unfold execDisarm
  refine OutKeeps.next ?_
  refine Keeps.step (busStore_keeps ..) rfl ?_
  exact Keeps.refl _ _

theorem execDiscoverModes_keeps (s : State) : OutKeeps 1073741824 s (execDiscoverModes s) := by
  unfold execDiscoverModes
  refine OutKeeps.next ?_
  refine Keeps.ite ?_ ?_
  · refine Keeps.step (pdSend_keeps ..) rfl ?_
    exact Keeps.refl _ _
  · exact Keeps.refl _ _

theorem execDiscoverSvids_keeps (s : State) : OutKeeps 1073741824 s (execDiscoverSvids s) := by
  unfold execDiscoverSvids
  refine OutKeeps.next ?_
  refine Keeps.ite ?_ ?_
  · refine Keeps.step (pdSend_keeps ..) rfl ?_
    exact Keeps.refl _ _
  · exact Keeps.refl _ _

theorem squallRestart_keeps (s : State) (x1 x2 : Nat) : Keeps 16384 s (squallRestart s x1 x2) := by
  unfold squallRestart
  refine Keeps.step (Keeps.put_sw ..) rfl ?_
  exact Keeps.refl _ _

theorem ethLink_keeps (s : State) (x1 : Nat) (x2 : Bool) (x3 : Nat) : Keeps 1701740256482622143298 s (ethLink s x1 x2 x3) := by
  unfold ethLink
  refine Keeps.ite ?_ ?_
  · refine Keeps.step (squallRestart_keeps ..) rfl ?_
    refine Keeps.step (raise_keeps ..) rfl ?_
    refine Keeps.step (State.wr_keeps 70 group_eth ..) rfl ?_
    refine Keeps.step (State.wr_keeps 70 group_eth ..) rfl ?_
    refine Keeps.step (shapeTo_keeps ..) rfl ?_
    exact Keeps.refl _ _
  · refine Keeps.step (flushFull_keeps ..) rfl ?_
    refine Keeps.step (raise_keeps ..) rfl ?_
    refine Keeps.step (State.wr_keeps 70 group_eth ..) rfl ?_
    refine Keeps.step (State.wr_keeps 70 group_eth ..) rfl ?_
    refine Keeps.step (shapeTo_keeps ..) rfl ?_
    exact Keeps.refl _ _

theorem flashCut_keeps (s : State) : Keeps 2423095126235580107588370 s (flashCut s) := by
  unfold flashCut
  refine Keeps.ite ?_ ?_
  · refine Keeps.step (raise_keeps ..) rfl ?_
    refine Keeps.step (State.wr_keeps 81 group_log ..) rfl ?_
    refine Keeps.step (State.wr_keeps 81 group_log ..) rfl ?_
    split
    · refine Keeps.step (flashResult_keeps ..) rfl ?_
      refine Keeps.step (State.wr_keeps 72 group_flash ..) rfl ?_
      refine Keeps.step (Keeps.put_ports ..) rfl ?_
      refine Keeps.step (flashUnknown_keeps ..) rfl ?_
      exact Keeps.refl _ _
    · exact Keeps.refl _ _
  · split
    · refine Keeps.step (flashResult_keeps ..) rfl ?_
      refine Keeps.step (State.wr_keeps 72 group_flash ..) rfl ?_
      refine Keeps.step (Keeps.put_ports ..) rfl ?_
      refine Keeps.step (flashUnknown_keeps ..) rfl ?_
      exact Keeps.refl _ _
    · exact Keeps.refl _ _

theorem domCut_keeps (s : State) (x1 : Nat) : Keeps 2575391473420443829107538 s (domCut s x1) := by
  unfold domCut
  split
  · refine Keeps.step (wdtsFollow_keeps ..) rfl ?_
    refine Keeps.each (fun _ _ => ?_) ?_
    · refine Keeps.step (coreHold_keeps ..) rfl ?_
      exact Keeps.refl _ _
    · exact Keeps.refl _ _
  · refine Keeps.step (flushPort_keeps ..) rfl ?_
    refine Keeps.each (fun _ _ => ?_) ?_
    · refine Keeps.step (closeCell_keeps ..) rfl ?_
      exact Keeps.refl _ _
    · refine Keeps.each (fun _ _ => ?_) ?_
      · refine Keeps.step (setUart_keeps ..) rfl ?_
        exact Keeps.refl _ _
      · exact Keeps.refl _ _
  · refine Keeps.step (flashCut_keeps ..) rfl ?_
    refine Keeps.each (fun _ _ => ?_) ?_
    · refine Keeps.ite ?_ ?_
      · refine Keeps.step (ethLink_keeps ..) rfl ?_
        exact Keeps.refl _ _
      · refine Keeps.step (flushFull_keeps ..) rfl ?_
        exact Keeps.refl _ _
    · exact Keeps.refl _ _
  · exact Keeps.refl _ _

theorem execDomainOff_keeps (x0 : Nat) (s : State) : OutKeeps 3179854383227792776198994 s (execDomainOff x0 s) := by
  unfold execDomainOff
  refine OutKeeps.next ?_
  refine Keeps.ite ?_ ?_
  · refine Keeps.step (raise_keeps ..) rfl ?_
    refine Keeps.step (Keeps.put_mgmt ..) rfl ?_
    refine Keeps.step (canOut_keeps ..) rfl ?_
    refine Keeps.step (State.setBit_keeps 79 group_mgmt ..) rfl ?_
    refine Keeps.step (domCut_keeps ..) rfl ?_
    exact Keeps.refl _ _
  · exact Keeps.refl _ _

theorem execDoorbell_keeps (x0 : By) (x1 : Nat) (s : State) : OutKeeps 633825300114114699769065503598 s (execDoorbell x0 x1 s) := by
  unfold execDoorbell
  refine OutKeeps.next ?_
  refine Keeps.step (busStore_keeps ..) rfl ?_
  exact Keeps.refl _ _

theorem execDoorbellClr_keeps (x0 : By) (x1 : Nat) (s : State) :
    OutKeeps 633825300114114699769065503598 s (execDoorbellClr x0 x1 s) := by
  unfold execDoorbellClr
  refine OutKeeps.next ?_
  refine Keeps.step (busStore_keeps ..) rfl ?_
  exact Keeps.refl _ _

theorem setAcked_keeps (s : State) (x1 : DriftReq) (x2 : Frame) : Keeps 521535699042493424386 s (setAcked s x1 x2) := by
  unfold setAcked
  refine Keeps.ite ?_ ?_
  · exact Keeps.refl _ _
  · refine Keeps.ite ?_ ?_
    · refine Keeps.ite ?_ ?_
      · refine Keeps.step (inductOk_keeps ..) rfl ?_
        refine Keeps.step (recPut_keeps ..) rfl ?_
        refine Keeps.step (dropReqs_keeps ..) rfl ?_
        exact Keeps.refl _ _
      · refine Keeps.ite ?_ ?_
        · refine Keeps.step (request_keeps ..) rfl ?_
          refine Keeps.step (inductOk_keeps ..) rfl ?_
          refine Keeps.step (recPut_keeps ..) rfl ?_
          refine Keeps.step (dropReqs_keeps ..) rfl ?_
          exact Keeps.refl _ _
        · refine Keeps.step (retireProceed_keeps ..) rfl ?_
          refine Keeps.step (inductOk_keeps ..) rfl ?_
          refine Keeps.step (recPut_keeps ..) rfl ?_
          refine Keeps.step (dropReqs_keeps ..) rfl ?_
          exact Keeps.refl _ _
    · refine Keeps.ite ?_ ?_
      · refine Keeps.step (freeRec_keeps ..) rfl ?_
        refine Keeps.step (driftNote_keeps ..) rfl ?_
        refine Keeps.step (driftEv_keeps ..) rfl ?_
        refine Keeps.step (dropReqs_keeps ..) rfl ?_
        exact Keeps.refl _ _
      · refine Keeps.ite ?_ ?_
        · refine Keeps.step (recPut_keeps ..) rfl ?_
          refine Keeps.step (dropReqs_keeps ..) rfl ?_
          exact Keeps.refl _ _
        · refine Keeps.step (dropReqs_keeps ..) rfl ?_
          exact Keeps.refl _ _

theorem onAck_keeps (s : State) (x1 : Frame) : Keeps 521535699042493424386 s (onAck s x1) := by
  unfold onAck
  dsimp only
  split
  · refine Keeps.step (askedOf_keeps ..) rfl ?_
    exact Keeps.refl _ _
  · refine Keeps.ite ?_ ?_
    · refine Keeps.step (setAcked_keeps ..) rfl ?_
      refine Keeps.step (askedOf_keeps ..) rfl ?_
      exact Keeps.refl _ _
    · refine Keeps.ite ?_ ?_
      · refine Keeps.ite ?_ ?_
        · refine Keeps.step (recPut_keeps ..) rfl ?_
          refine Keeps.step (dropReqs_keeps ..) rfl ?_
          refine Keeps.step (askedOf_keeps ..) rfl ?_
          exact Keeps.refl _ _
        · refine Keeps.step (dropReqs_keeps ..) rfl ?_
          refine Keeps.step (askedOf_keeps ..) rfl ?_
          exact Keeps.refl _ _
      · refine Keeps.ite ?_ ?_
        · refine Keeps.step (retireProceed_keeps ..) rfl ?_
          refine Keeps.step (dropReqs_keeps ..) rfl ?_
          refine Keeps.step (askedOf_keeps ..) rfl ?_
          exact Keeps.refl _ _
        · refine Keeps.ite ?_ ?_
          · refine Keeps.ite ?_ ?_
            · refine Keeps.step (startReq_keeps ..) rfl ?_
              refine Keeps.step (dropReqs_keeps ..) rfl ?_
              refine Keeps.step (askedOf_keeps ..) rfl ?_
              exact Keeps.refl _ _
            · refine Keeps.step (dropReqs_keeps ..) rfl ?_
              refine Keeps.step (askedOf_keeps ..) rfl ?_
              exact Keeps.refl _ _
          · refine Keeps.step (askedOf_keeps ..) rfl ?_
            exact Keeps.refl _ _

theorem execDriftAck_keeps (x0 : Frame) (s : State) : OutKeeps 521535699042493424386 s (execDriftAck x0 s) := by
  unfold execDriftAck
  refine OutKeeps.next ?_
  refine Keeps.ite ?_ ?_
  · refine Keeps.step (onAck_keeps ..) rfl ?_
    exact Keeps.refl _ _
  · exact Keeps.refl _ _

theorem releasePrev_keeps (s : State) (x1 : DriftReq) : Keeps 521121367876775207426 s (releasePrev s x1) := by
  unfold releasePrev
  refine Keeps.step (startReq_keeps ..) rfl ?_
  exact Keeps.refl _ _

theorem onDone_keeps (s : State) (x1 : Frame) : Keeps 522688620547100271362 s (onDone s x1) := by
  unfold onDone
  split
  · dsimp only
    split
    · refine Keeps.step (askedOf_keeps ..) rfl ?_
      exact Keeps.refl _ _
    · refine Keeps.ite ?_ ?_
      · refine Keeps.step (driftNote_keeps ..) rfl ?_
        refine Keeps.step (driftCount_keeps ..) rfl ?_
        refine Keeps.step (dropReqs_keeps ..) rfl ?_
        refine Keeps.step (askedOf_keeps ..) rfl ?_
        exact Keeps.refl _ _
      · refine Keeps.ite ?_ ?_
        · refine Keeps.step (releasePrev_keeps ..) rfl ?_
          refine Keeps.step (driftNote_keeps ..) rfl ?_
          refine Keeps.step (driftCount_keeps ..) rfl ?_
          refine Keeps.step (dropReqs_keeps ..) rfl ?_
          refine Keeps.step (askedOf_keeps ..) rfl ?_
          exact Keeps.refl _ _
        · refine Keeps.ite ?_ ?_
          · refine Keeps.step (recPut_keeps ..) rfl ?_
            refine Keeps.step (driftNote_keeps ..) rfl ?_
            refine Keeps.step (driftCount_keeps ..) rfl ?_
            refine Keeps.step (dropReqs_keeps ..) rfl ?_
            refine Keeps.step (askedOf_keeps ..) rfl ?_
            exact Keeps.refl _ _
          · refine Keeps.step (driftNote_keeps ..) rfl ?_
            refine Keeps.step (driftCount_keeps ..) rfl ?_
            refine Keeps.step (dropReqs_keeps ..) rfl ?_
            refine Keeps.step (askedOf_keeps ..) rfl ?_
            exact Keeps.refl _ _
  · dsimp only
    split
    · refine Keeps.step (askedOf_keeps ..) rfl ?_
      exact Keeps.refl _ _
    · refine Keeps.ite ?_ ?_
      · refine Keeps.step (settleEdges_keeps ..) rfl ?_
        refine Keeps.step (armActions_keeps ..) rfl ?_
        refine Keeps.step (mirrorSend_keeps ..) rfl ?_
        refine Keeps.step (driftNote_keeps ..) rfl ?_
        refine Keeps.step (State.inc_keeps 58 group_drift ..) rfl ?_
        refine Keeps.step (recPut_keeps ..) rfl ?_
        refine Keeps.step (dropReqs_keeps ..) rfl ?_
        refine Keeps.step (askedOf_keeps ..) rfl ?_
        exact Keeps.refl _ _
      · refine Keeps.step (dropReqs_keeps ..) rfl ?_
        refine Keeps.step (askedOf_keeps ..) rfl ?_
        exact Keeps.refl _ _

theorem execDriftDone_keeps (x0 : Frame) (s : State) : OutKeeps 522688620547100271362 s (execDriftDone x0 s) := by
  unfold execDriftDone
  refine OutKeeps.next ?_
  refine Keeps.ite ?_ ?_
  · refine Keeps.step (onDone_keeps ..) rfl ?_
    exact Keeps.refl _ _
  · exact Keeps.refl _ _

theorem driftResend_keeps (s : State) : Keeps 521427612651436532226 s (driftResend s) := by
  unfold driftResend
  refine Keeps.ite ?_ ?_
  · exact Keeps.refl _ _
  · refine Keeps.foldl (fun _ _ => ?_) _ _ ?_
    · refine Keeps.ite ?_ ?_
      · refine Keeps.step (driftSend_keeps ..) rfl ?_
        refine Keeps.step (State.inc_keeps 58 group_drift ..) rfl ?_
        refine Keeps.step (Keeps.put_drift ..) rfl ?_
        refine Keeps.ite ?_ ?_
        · refine Keeps.step (crcCheck_keeps ..) rfl ?_
          exact Keeps.refl _ _
        · exact Keeps.refl _ _
      · refine Keeps.ite ?_ ?_
        · refine Keeps.step (crcCheck_keeps ..) rfl ?_
          exact Keeps.refl _ _
        · exact Keeps.refl _ _
    · exact Keeps.refl _ _

theorem execDriftResend_keeps (s : State) : OutKeeps 521427612651436532226 s (execDriftResend s) := by
  unfold execDriftResend
  refine OutKeeps.next ?_
  refine Keeps.ite ?_ ?_
  · refine Keeps.step (driftResend_keeps ..) rfl ?_
    exact Keeps.refl _ _
  · exact Keeps.refl _ _

theorem putCopy_keeps (s : State) (x1 x2 : Nat) (x3 : Rec) : Keeps 524288 s (putCopy s x1 x2 x3) := by
  unfold putCopy
  refine Keeps.step (setDslot_keeps ..) rfl ?_
  refine Keeps.step (recPut_keeps ..) rfl ?_
  refine Keeps.step (endReqs_keeps ..) rfl ?_
  exact Keeps.refl _ _

theorem onSet_keeps (s : State) (x1 : Frame) : Keeps 521427612651436532482 s (onSet s x1) := by
  unfold onSet
  refine Keeps.step (answerTo_keeps ..) rfl ?_
  refine Keeps.step (resyncJudge_keeps ..) rfl ?_
  split
  · split
    · refine Keeps.step (putCopy_keeps ..) rfl ?_
      refine Keeps.step (setDslot_keeps ..) rfl ?_
      rename_i hq1
      refine Keeps.of_snd hq1 ?_
      refine Keeps.step (takeSlot_keeps ..) rfl ?_
      refine Keeps.step (findItem_keeps ..) rfl ?_
      exact Keeps.refl _ _
    · rename_i hq2
      refine Keeps.of_snd hq2 ?_
      refine Keeps.step (takeSlot_keeps ..) rfl ?_
      refine Keeps.step (findItem_keeps ..) rfl ?_
      exact Keeps.refl _ _
  · refine Keeps.ite ?_ ?_
    · refine Keeps.step (driftNote_keeps ..) rfl ?_
      refine Keeps.step (driftCount_keeps ..) rfl ?_
      refine Keeps.step (putCopy_keeps ..) rfl ?_
      refine Keeps.step (findItem_keeps ..) rfl ?_
      exact Keeps.refl _ _
    · refine Keeps.ite ?_ ?_
      · refine Keeps.step (putCopy_keeps ..) rfl ?_
        refine Keeps.step (findItem_keeps ..) rfl ?_
        exact Keeps.refl _ _
      · refine Keeps.step (findItem_keeps ..) rfl ?_
        exact Keeps.refl _ _

theorem execDriftSet_keeps (x0 : Frame) (s : State) : OutKeeps 521427612651436532482 s (execDriftSet x0 s) := by
  unfold execDriftSet
  refine OutKeeps.next ?_
  refine Keeps.ite ?_ ?_
  · refine Keeps.step (onSet_keeps ..) rfl ?_
    exact Keeps.refl _ _
  · exact Keeps.refl _ _

theorem qCmdWrite_keeps (s : State) (x1 : Nat) (x2 : By) (x3 x4 : Nat) :
    Keeps 633825300114114699769065503598 s (qCmdWrite s x1 x2 x3 x4) := by
  unfold qCmdWrite
  refine Keeps.step (busStore_keeps ..) rfl ?_
  exact Keeps.refl _ _

theorem execDropRest_keeps (x0 : Nat) (x1 : By) (s : State) : OutKeeps 633825300114114699769065503598 s (execDropRest x0 x1 s) := by
  unfold execDropRest
  refine OutKeeps.next ?_
  refine Keeps.step (qCmdWrite_keeps ..) rfl ?_
  exact Keeps.refl _ _

theorem execDumpReq_keeps (x0 : Frame) (s : State) : OutKeeps 521121367876774683394 s (execDumpReq x0 s) := by
  unfold execDumpReq
  refine OutKeeps.next ?_
  refine Keeps.ite ?_ ?_
  · refine Keeps.step (dumpStart_keeps ..) rfl ?_
    exact Keeps.refl _ _
  · exact Keeps.refl _ _

theorem execDuplicate_keeps (x0 : Frame) (s : State) : OutKeeps 138889475108024377417519823682 s (execDuplicate x0 s) := by
  unfold execDuplicate
  refine OutKeeps.next ?_
  refine Keeps.ite ?_ ?_
  · refine Keeps.ite ?_ ?_
    · refine Keeps.step (withdrawAddr_keeps ..) rfl ?_
      exact Keeps.refl _ _
    · refine Keeps.step (faultAtFreeze_keeps ..) rfl ?_
      exact Keeps.refl _ _
  · exact Keeps.refl _ _

theorem execDvdtTrip_keeps (x0 : Nat) (x1 : RiseIn) (s : State) : OutKeeps 2561224355957467721595714 s (execDvdtTrip x0 x1 s) := by
  unfold execDvdtTrip
  refine OutKeeps.next ?_
  refine Keeps.ite ?_ ?_
  · refine Keeps.step (ctlFail_keeps ..) rfl ?_
    exact Keeps.refl _ _
  · exact Keeps.refl _ _

theorem execEccError_keeps (x0 : Nat) (x1 : Bool) (x2 x3 x4 : Nat) (s : State) :
    OutKeeps 138812103855569041150338628450 s (execEccError x0 x1 x2 x3 x4 s) := by
  unfold execEccError
  refine OutKeeps.next ?_
  refine Keeps.ite ?_ ?_
  · refine Keeps.step (faultAtFreeze_keeps ..) rfl ?_
    exact Keeps.refl _ _
  · refine Keeps.ite ?_ ?_
    · refine Keeps.step (State.inc_keeps 49 group_pool ..) rfl ?_
      exact Keeps.refl _ _
    · refine Keeps.ite ?_ ?_
      · refine Keeps.step (Keeps.put_node ..) rfl ?_
        exact Keeps.refl _ _
      · refine Keeps.ite ?_ ?_
        · refine Keeps.step (ownFault_keeps ..) rfl ?_
          refine Keeps.ite ?_ ?_
          · refine Keeps.step (State.accFault_keeps ..) rfl ?_
            refine Keeps.step (errCapture_keeps ..) rfl ?_
            exact Keeps.refl _ _
          · exact Keeps.refl _ _
        · refine Keeps.ite ?_ ?_
          · refine Keeps.step (ownFault_keeps ..) rfl ?_
            refine Keeps.ite ?_ ?_
            · refine Keeps.step (State.accFault_keeps ..) rfl ?_
              refine Keeps.step (errCapture_keeps ..) rfl ?_
              exact Keeps.refl _ _
            · exact Keeps.refl _ _
          · refine Keeps.ite ?_ ?_
            · refine Keeps.step (State.accFault_keeps ..) rfl ?_
              refine Keeps.step (errCapture_keeps ..) rfl ?_
              exact Keeps.refl _ _
            · exact Keeps.refl _ _

theorem execEclArm_keeps (x0 : By) (s : State) : OutKeeps 633825300114114699769065503598 s (execEclArm x0 s) := by
  unfold execEclArm
  refine OutKeeps.next ?_
  refine Keeps.step (busStore_keeps ..) rfl ?_
  exact Keeps.refl _ _

theorem execEclNow_keeps (x0 : By) (s : State) : OutKeeps 633825300114114699769065503598 s (execEclNow x0 s) := by
  unfold execEclNow
  refine OutKeeps.next ?_
  refine Keeps.step (busStore_keeps ..) rfl ?_
  exact Keeps.refl _ _

theorem execEclRelease_keeps (x0 : Frame) (s : State) : OutKeeps 39614081257132169896283603458 s (execEclRelease x0 s) := by
  unfold execEclRelease
  refine OutKeeps.next ?_
  refine Keeps.ite ?_ ?_
  · refine Keeps.step (requestWarm_keeps ..) rfl ?_
    exact Keeps.refl _ _
  · exact Keeps.refl _ _

theorem eclJudge_keeps (s : State) (x1 : Frame) : Keeps 19343334234357518639825410 s (eclJudge s x1) := by
  unfold eclJudge
  refine Keeps.ite ?_ ?_
  · dsimp only
    split
    · refine Keeps.ite ?_ ?_
      · refine Keeps.step (disarmEcl_keeps ..) rfl ?_
        refine Keeps.step (State.inc_keeps 84 (group_ecl rfl) ..) rfl ?_
        exact Keeps.refl _ _
      · refine Keeps.step (State.inc_keeps 84 (group_ecl rfl) ..) rfl ?_
        exact Keeps.refl _ _
    · refine Keeps.step (State.inc_keeps 84 (group_ecl rfl) ..) rfl ?_
      exact Keeps.refl _ _
  · refine Keeps.ite ?_ ?_
    · refine Keeps.step (armEcl_keeps ..) rfl ?_
      refine Keeps.step (State.inc_keeps 84 (group_ecl rfl) ..) rfl ?_
      exact Keeps.refl _ _
    · refine Keeps.ite ?_ ?_
      · refine Keeps.step (freeze_keeps ..) rfl ?_
        refine Keeps.step (State.inc_keeps 84 (group_ecl rfl) ..) rfl ?_
        exact Keeps.refl _ _
      · refine Keeps.step (countRaise_keeps 84 (group_ecl rfl) ..) rfl ?_
        exact Keeps.refl _ _

theorem execEclReq_keeps (x0 : Frame) (s : State) : OutKeeps 19343334234357518639825410 s (execEclReq x0 s) := by
  unfold execEclReq
  refine OutKeeps.next ?_
  refine Keeps.ite ?_ ?_
  · refine Keeps.ite ?_ ?_
    · refine Keeps.step (eclJudge_keeps ..) rfl ?_
      exact Keeps.refl _ _
    · refine Keeps.step (countRaise_keeps 84 (group_ecl rfl) ..) rfl ?_
      exact Keeps.refl _ _
  · exact Keeps.refl _ _

theorem execEclipseN_keeps (x0 x1 : Nat) (s : State) : OutKeeps 225972618272491702786 s (execEclipseN x0 x1 s) := by
  unfold execEclipseN
  refine OutKeeps.next ?_
  refine Keeps.ite ?_ ?_
  · refine Keeps.step (freezeCfg_keeps ..) rfl ?_
    refine Keeps.step (State.atTime_keeps ..) rfl ?_
    exact Keeps.refl _ _
  · exact Keeps.refl _ _

theorem execEdgeCancel_keeps (x0 : By) (s : State) : OutKeeps 633825300114114699769065503598 s (execEdgeCancel x0 s) := by
  unfold execEdgeCancel
  refine OutKeeps.next ?_
  refine Keeps.step (entCmd_keeps ..) rfl ?_
  exact Keeps.refl _ _

theorem execEdgeCommit_keeps (x0 : Nat) (s : State) : OutKeeps 522688620547100273410 s (execEdgeCommit x0 s) := by
  unfold execEdgeCommit
  refine OutKeeps.next ?_
  refine Keeps.ite ?_ ?_
  · refine Keeps.step (settleEdges_keeps ..) rfl ?_
    refine Keeps.step (edgesCommit_keeps ..) rfl ?_
    refine Keeps.step (State.atTime_keeps ..) rfl ?_
    exact Keeps.refl _ _
  · exact Keeps.refl _ _

theorem edgeStopJudge_keeps (s : State) : Keeps 1152922604118474754 s (edgeStopJudge s) := by
  unfold edgeStopJudge
  refine Keeps.ite ?_ ?_
  · refine Keeps.step (State.wr_keeps 60 group_edge ..) rfl ?_
    exact Keeps.refl _ _
  · exact Keeps.refl _ _

theorem edgesRetry_keeps (s : State) (x1 : Nat) : Keeps 522273444956451373826 s (edgesRetry s x1) := by
  unfold edgesRetry
  refine Keeps.foldl (fun _ _ => ?_) _ _ ?_
  · refine Keeps.step (edgeTry_keeps ..) rfl ?_
    exact Keeps.refl _ _
  · exact Keeps.refl _ _

theorem edgeStep_keeps (s : State) (x1 : EdgeEnt) (x2 : Nat) : Keeps 522273444956451373570 s (edgeStep s x1 x2) := by
  unfold edgeStep
  dsimp only
  split
  · refine Keeps.ite ?_ ?_
    · refine Keeps.step (Keeps.put_edge ..) rfl ?_
      exact Keeps.refl _ _
    · refine Keeps.step (countRaise_keeps 60 group_edge ..) rfl ?_
      refine Keeps.step (Keeps.put_edge ..) rfl ?_
      exact Keeps.refl _ _
  · refine Keeps.step (Keeps.put_edge ..) rfl ?_
    exact Keeps.refl _ _

theorem iolSignal_keeps (s : State) (x1 x2 : Nat) (x3 : Bool) : Keeps 4611687117943209986 s (iolSignal s x1 x2 x3) := by
  unfold iolSignal
  refine Keeps.ite ?_ ?_
  · refine Keeps.step (State.setChan_keeps ..) rfl ?_
    exact Keeps.refl _ _
  · refine Keeps.ite ?_ ?_
    · refine Keeps.step (State.setChan_keeps ..) rfl ?_
      exact Keeps.refl _ _
    · refine Keeps.ite ?_ ?_
      · refine Keeps.step (wurqStart_keeps ..) rfl ?_
        refine Keeps.step (State.setChan_keeps ..) rfl ?_
        exact Keeps.refl _ _
      · refine Keeps.step (State.setChan_keeps ..) rfl ?_
        exact Keeps.refl _ _

theorem State.setSig_keeps (s : State) (x1 : Nat) (x2 : SigSt) : Keeps 33554432 s (State.setSig s x1 x2) := by
  unfold State.setSig
  refine Keeps.step (Keeps.put_sigs ..) rfl ?_
  exact Keeps.refl _ _

theorem driveSig_keeps (s : State) (x1 : Nat) (x2 : Bool) : Keeps 4611687117976764418 s (driveSig s x1 x2) := by
  unfold driveSig
  refine Keeps.ite ?_ ?_
  · refine Keeps.step (iolSignal_keeps ..) rfl ?_
    refine Keeps.step (State.setSig_keeps ..) rfl ?_
    exact Keeps.refl _ _
  · refine Keeps.step (State.setSig_keeps ..) rfl ?_
    exact Keeps.refl _ _

theorem canTrigger_keeps (s : State) (x1 x2 : Nat) : Keeps 73786977394358222850 s (canTrigger s x1 x2) := by
  unfold canTrigger
  refine Keeps.ite ?_ ?_
  · refine Keeps.step (setMbox_keeps ..) rfl ?_
    exact Keeps.refl _ _
  · refine Keeps.step (State.inc_keeps 66 group_can ..) rfl ?_
    exact Keeps.refl _ _

theorem edgeApply_keeps (s : State) (x1 : EdgeEnt) (x2 : PendEdge) :
    Keeps 2446706958649962995385090 s ((edgeApply s x1 x2).getD s) := by
  unfold edgeApply
  split
  · split
    · refine Keeps.step (State.chWr_keeps ..) rfl ?_
      exact Keeps.refl _ _
    · exact Keeps.refl _ _
  · split
    · refine Keeps.step (driveSig_keeps ..) rfl ?_
      exact Keeps.refl _ _
    · exact Keeps.refl _ _
  · split
    · exact Keeps.refl _ _
    · split
      · split
        · refine Keeps.step (branchOn_keeps ..) rfl ?_
          exact Keeps.refl _ _
        · exact Keeps.refl _ _
      · refine Keeps.step (branchOff_keeps ..) rfl ?_
        exact Keeps.refl _ _
  · refine Keeps.ite ?_ ?_
    · exact Keeps.refl _ _
    · refine Keeps.step (pioTrigger_keeps ..) rfl ?_
      exact Keeps.refl _ _
  · refine Keeps.step (canTrigger_keeps ..) rfl ?_
    exact Keeps.refl _ _
  · exact Keeps.refl _ _

theorem edgeReturn_keeps (s : State) (x1 : PendEdge) (x2 x3 : Nat) : Keeps 522273444956451373826 s (edgeReturn s x1 x2 x3) := by
  unfold edgeReturn
  refine Keeps.ite ?_ ?_
  · refine Keeps.step (edgeTry_keeps ..) rfl ?_
    refine Keeps.step (setEdge_keeps ..) rfl ?_
    exact Keeps.refl _ _
  · split
    · dsimp only
      split
      · refine Keeps.step (edgeSync_keeps ..) rfl ?_
        refine Keeps.step (setEdge_keeps ..) rfl ?_
        exact Keeps.refl _ _
      · refine Keeps.step (edgeTry_keeps ..) rfl ?_
        refine Keeps.step (setEdge_keeps ..) rfl ?_
        exact Keeps.refl _ _
    · dsimp only
      split
      · refine Keeps.step (edgeSync_keeps ..) rfl ?_
        refine Keeps.step (setEdge_keeps ..) rfl ?_
        exact Keeps.refl _ _
      · refine Keeps.step (edgeTry_keeps ..) rfl ?_
        refine Keeps.step (setEdge_keeps ..) rfl ?_
        exact Keeps.refl _ _

theorem edgePlace_keeps (s : State) (x1 : PendEdge) (x2 x3 : Nat) (x4 : Bool) :
    Keeps 2446708111571467602232066 s (edgePlace s x1 x2 x3 x4) := by
  unfold edgePlace
  split
  · dsimp only
    split
    · refine Keeps.step (edgeEnd_keeps ..) rfl ?_
      refine Keeps.step (edgeStep_keeps ..) rfl ?_
      exact Keeps.refl _ _
    · refine Keeps.step (dropEdge_keeps ..) rfl ?_
      rename_i hq1
      refine Keeps.step (Keeps.of_getD hq1 (edgeApply_keeps ..)) rfl ?_
      refine Keeps.step (edgeStep_keeps ..) rfl ?_
      exact Keeps.refl _ _
  · split
    · dsimp only
      split
      · refine Keeps.step (edgeEnd_keeps ..) rfl ?_
        refine Keeps.step (edgeStep_keeps ..) rfl ?_
        exact Keeps.refl _ _
      · refine Keeps.ite ?_ ?_
        · refine Keeps.step (edgeReturn_keeps ..) rfl ?_
          refine Keeps.step (Keeps.put_edge ..) rfl ?_
          refine Keeps.step (edgeReport_keeps ..) rfl ?_
          rename_i hq2
          refine Keeps.step (Keeps.of_getD hq2 (edgeApply_keeps ..)) rfl ?_
          refine Keeps.step (edgeStep_keeps ..) rfl ?_
          exact Keeps.refl _ _
        · refine Keeps.step (dropEdge_keeps ..) rfl ?_
          refine Keeps.step (edgeReport_keeps ..) rfl ?_
          rename_i hq3
          refine Keeps.step (Keeps.of_getD hq3 (edgeApply_keeps ..)) rfl ?_
          refine Keeps.step (edgeStep_keeps ..) rfl ?_
          exact Keeps.refl _ _
    · dsimp only
      split
      · refine Keeps.step (edgeEnd_keeps ..) rfl ?_
        refine Keeps.step (edgeStep_keeps ..) rfl ?_
        exact Keeps.refl _ _
      · refine Keeps.ite ?_ ?_
        · refine Keeps.step (edgeReturn_keeps ..) rfl ?_
          refine Keeps.step (Keeps.put_edge ..) rfl ?_
          refine Keeps.step (edgeReport_keeps ..) rfl ?_
          rename_i hq4
          refine Keeps.step (Keeps.of_getD hq4 (edgeApply_keeps ..)) rfl ?_
          refine Keeps.step (edgeStep_keeps ..) rfl ?_
          exact Keeps.refl _ _
        · refine Keeps.step (dropEdge_keeps ..) rfl ?_
          refine Keeps.step (edgeReport_keeps ..) rfl ?_
          rename_i hq5
          refine Keeps.step (Keeps.of_getD hq5 (edgeApply_keeps ..)) rfl ?_
          refine Keeps.step (edgeStep_keeps ..) rfl ?_
          exact Keeps.refl _ _

theorem edgesPlace_keeps (s : State) (x1 : Nat) : Keeps 2446708111571467602232066 s (edgesPlace s x1) := by
  unfold edgesPlace
  refine Keeps.step (edgeStopJudge_keeps ..) rfl ?_
  refine Keeps.step (edgesRetry_keeps ..) rfl ?_
  refine Keeps.foldl (fun _ _ => ?_) _ _ ?_
  · refine Keeps.step (edgePlace_keeps ..) rfl ?_
    exact Keeps.refl _ _
  · exact Keeps.refl _ _

theorem execEdgePlace_keeps (x0 : Nat) (s : State) : OutKeeps 2446708526747058251131650 s (execEdgePlace x0 s) := by
  unfold execEdgePlace
  refine OutKeeps.next ?_
  refine Keeps.ite ?_ ?_
  · refine Keeps.step (settleEdges_keeps ..) rfl ?_
    refine Keeps.step (edgesPlace_keeps ..) rfl ?_
    refine Keeps.step (State.atTime_keeps ..) rfl ?_
    exact Keeps.refl _ _
  · exact Keeps.refl _ _

theorem execEdgeRelease_keeps (x0 : By) (s : State) : OutKeeps 633825300114114699769065503598 s (execEdgeRelease x0 s) := by
  unfold execEdgeRelease
  refine OutKeeps.next ?_
  refine Keeps.step (entCmd_keeps ..) rfl ?_
  exact Keeps.refl _ _

theorem trkBreak_keeps (s : State) (x1 : Nat) : Keeps 144116287587745794 s (trkBreak s x1) := by
  unfold trkBreak
  refine Keeps.foldl (fun _ _ => ?_) _ _ ?_
  · refine Keeps.ite ?_ ?_
    · refine Keeps.step (State.tkWr_keeps ..) rfl ?_
      refine Keeps.step (State.tkWr_keeps ..) rfl ?_
      refine Keeps.step (setTrk_keeps ..) rfl ?_
      exact Keeps.refl _ _
    · exact Keeps.refl _ _
  · refine Keeps.step (contLost_keeps ..) rfl ?_
    exact Keeps.refl _ _

theorem execEncoderBreak_keeps (x0 x1 : Nat) (s : State) : OutKeeps 530488010676775420418 s (execEncoderBreak x0 x1 s) := by
  unfold execEncoderBreak
  refine OutKeeps.next ?_
  refine Keeps.ite ?_ ?_
  · refine Keeps.step (trkBreak_keeps ..) rfl ?_
    refine Keeps.step (raise_keeps ..) rfl ?_
    refine Keeps.step (State.wr_keeps 63 group_enc ..) rfl ?_
    refine Keeps.step (State.orb_keeps 63 group_enc ..) rfl ?_
    refine Keeps.step (State.wr_keeps 63 group_enc ..) rfl ?_
    exact Keeps.refl _ _
  · exact Keeps.refl _ _

theorem trkBreakClear_keeps (s : State) (x1 : Nat) : Keeps 144116287587745794 s (trkBreakClear s x1) := by
  unfold trkBreakClear
  refine Keeps.foldl (fun _ _ => ?_) _ _ ?_
  · refine Keeps.ite ?_ ?_
    · refine Keeps.step (becomeStandby_keeps ..) rfl ?_
      exact Keeps.refl _ _
    · exact Keeps.refl _ _
  · exact Keeps.refl _ _

theorem execEncoderBreakClear_keeps (x0 : Nat) (s : State) : OutKeeps 9367488324442521602 s (execEncoderBreakClear x0 s) := by
  unfold execEncoderBreakClear
  refine OutKeeps.next ?_
  refine Keeps.ite ?_ ?_
  · refine Keeps.step (trkBreakClear_keeps ..) rfl ?_
    refine Keeps.step (State.wr_keeps 63 group_enc ..) rfl ?_
    refine Keeps.step (State.wr_keeps 63 group_enc ..) rfl ?_
    exact Keeps.refl _ _
  · exact Keeps.refl _ _

theorem trkEdge_keeps (s : State) (x1 x2 : Nat) (x3 : Int) : Keeps 262144 s (trkEdge s x1 x2 x3) := by
  unfold trkEdge
  refine Keeps.foldl (fun _ _ => ?_) _ _ ?_
  · refine Keeps.step (setTrk_keeps ..) rfl ?_
    exact Keeps.refl _ _
  · exact Keeps.refl _ _

theorem execEncoderEdge_keeps (x0 : Nat) (x1 x2 : Bool) (x3 : EncEdge) (s : State) :
    OutKeeps 530488010676775420418 s (execEncoderEdge x0 x1 x2 x3 s) := by
  unfold execEncoderEdge
  refine OutKeeps.next ?_
  refine Keeps.ite ?_ ?_
  · refine Keeps.ite ?_ ?_
    · refine Keeps.step (Keeps.put_field ..) rfl ?_
      exact Keeps.refl _ _
    · split
      · refine Keeps.step (trkCountErr_keeps ..) rfl ?_
        refine Keeps.step (raise_keeps ..) rfl ?_
        refine Keeps.step (State.wr_keeps 63 group_enc ..) rfl ?_
        refine Keeps.step (State.inc_keeps 63 group_enc ..) rfl ?_
        refine Keeps.step (Keeps.put_field ..) rfl ?_
        exact Keeps.refl _ _
      · refine Keeps.ite ?_ ?_
        · refine Keeps.step (Keeps.put_field ..) rfl ?_
          exact Keeps.refl _ _
        · refine Keeps.step (trkEdge_keeps ..) rfl ?_
          refine Keeps.step (State.wr_keeps 63 group_enc ..) rfl ?_
          refine Keeps.step (Keeps.put_field ..) rfl ?_
          exact Keeps.refl _ _
  · exact Keeps.refl _ _

theorem pioStart_keeps (s : State) (x1 : Nat) : Keeps 295147906278864453634 s (pioStart s x1) := by
  unfold pioStart
  refine Keeps.step (State.wr_keeps 68 group_pio ..) rfl ?_
  refine Keeps.step (State.wr_keeps 68 group_pio ..) rfl ?_
  refine Keeps.ite ?_ ?_
  · refine Keeps.step (State.zero_keeps 68 (fun _ _ => group_pio) ..) rfl ?_
    refine Keeps.step (State.wr_keeps 68 group_pio ..) rfl ?_
    exact Keeps.refl _ _
  · exact Keeps.refl _ _

theorem execEngineStart_keeps (x0 : Nat) (s : State) : OutKeeps 295147906278864453634 s (execEngineStart x0 s) := by
  unfold execEngineStart
  refine OutKeeps.next ?_
  refine Keeps.ite ?_ ?_
  · refine Keeps.step (pioStart_keeps ..) rfl ?_
    exact Keeps.refl _ _
  · exact Keeps.refl _ _

theorem execEntSel_keeps (x0 : By) (x1 : Nat) (s : State) : OutKeeps 633825300114114699769065503598 s (execEntSel x0 x1 s) := by
  unfold execEntSel
  refine OutKeeps.next ?_
  refine Keeps.step (busStore_keeps ..) rfl ?_
  exact Keeps.refl _ _

theorem execEnterMode_keeps (s : State) : OutKeeps 39480654105042280872514 s (execEnterMode s) := by
  unfold execEnterMode
  refine OutKeeps.next ?_
  refine Keeps.ite ?_ ?_
  · refine Keeps.ite ?_ ?_
    · refine Keeps.ite ?_ ?_
      · refine Keeps.step (pdSend_keeps ..) rfl ?_
        exact Keeps.refl _ _
      · refine Keeps.ite ?_ ?_
        · refine Keeps.step (laneExit_keeps ..) rfl ?_
          refine Keeps.step (pdEv_keeps ..) rfl ?_
          refine Keeps.step (State.inc_keeps 75 group_pd ..) rfl ?_
          refine Keeps.step (State.pdWr_keeps ..) rfl ?_
          refine Keeps.step (pdSend_keeps ..) rfl ?_
          exact Keeps.refl _ _
        · refine Keeps.step (setLaneState_keeps ..) rfl ?_
          refine Keeps.step (pdEv_keeps ..) rfl ?_
          refine Keeps.step (State.inc_keeps 75 group_pd ..) rfl ?_
          refine Keeps.step (State.pdWr_keeps ..) rfl ?_
          refine Keeps.step (pdSend_keeps ..) rfl ?_
          exact Keeps.refl _ _
    · refine Keeps.step (State.inc_keeps 75 group_pd ..) rfl ?_
      refine Keeps.step (pdSend_keeps ..) rfl ?_
      exact Keeps.refl _ _
  · exact Keeps.refl _ _

theorem execEntrySel_keeps (x0 : By) (x1 x2 : Nat) (s : State) :
    OutKeeps 633825300114114699769065503598 s (execEntrySel x0 x1 x2 s) := by
  unfold execEntrySel
  refine OutKeeps.next ?_
  refine Keeps.step (busStore_keeps ..) rfl ?_
  exact Keeps.refl _ _

theorem execEpArm_keeps (x0 x1 : Nat) (x2 : By) (s : State) : OutKeeps 633825300114114699769065503598 s (execEpArm x0 x1 x2 s) := by
  unfold execEpArm
  refine OutKeeps.next ?_
  refine Keeps.step (busStore_keeps ..) rfl ?_
  exact Keeps.refl _ _

theorem execEpDone_keeps (x0 : Nat) (x1 : Bool) (x2 : List Nat) (s : State) :
    OutKeeps 76078984249367241687570 s (execEpDone x0 x1 x2 s) := by
  unfold execEpDone
  refine OutKeeps.next ?_
  refine Keeps.ite ?_ ?_
  · exact Keeps.refl _ _
  · refine Keeps.ite ?_ ?_
    · refine Keeps.step (Keeps.put_usb ..) rfl ?_
      exact Keeps.refl _ _
    · refine Keeps.ite ?_ ?_
      · refine Keeps.step (usbEv_keeps ..) rfl ?_
        refine Keeps.step (State.wr_keeps 76 group_usb ..) rfl ?_
        refine Keeps.ite ?_ ?_
        · refine Keeps.step (Keeps.put_usb ..) rfl ?_
          refine Keeps.ite ?_ ?_
          · refine Keeps.step (State.wr_keeps 76 group_usb ..) rfl ?_
            refine Keeps.step (State.wr_keeps 76 group_usb ..) rfl ?_
            refine Keeps.step (State.memWrite_keeps ..) rfl ?_
            refine Keeps.step (Keeps.put_usb ..) rfl ?_
            exact Keeps.refl _ _
          · refine Keeps.step (State.wr_keeps 76 group_usb ..) rfl ?_
            refine Keeps.step (Keeps.put_usb ..) rfl ?_
            refine Keeps.step (Keeps.put_usb ..) rfl ?_
            exact Keeps.refl _ _
        · refine Keeps.ite ?_ ?_
          · refine Keeps.step (State.wr_keeps 76 group_usb ..) rfl ?_
            refine Keeps.step (State.wr_keeps 76 group_usb ..) rfl ?_
            refine Keeps.step (State.memWrite_keeps ..) rfl ?_
            refine Keeps.step (Keeps.put_usb ..) rfl ?_
            exact Keeps.refl _ _
          · refine Keeps.step (State.wr_keeps 76 group_usb ..) rfl ?_
            refine Keeps.step (Keeps.put_usb ..) rfl ?_
            refine Keeps.step (Keeps.put_usb ..) rfl ?_
            exact Keeps.refl _ _
      · exact Keeps.refl _ _

theorem execErase4k_keeps (x0 : By) (s : State) : OutKeeps 633825300114114699769065503598 s (execErase4k x0 s) := by
  unfold execErase4k
  refine OutKeeps.next ?_
  refine Keeps.step (busStore_keeps ..) rfl ?_
  exact Keeps.refl _ _

theorem execErase64k_keeps (x0 : By) (s : State) : OutKeeps 633825300114114699769065503598 s (execErase64k x0 s) := by
  unfold execErase64k
  refine OutKeeps.next ?_
  refine Keeps.step (busStore_keeps ..) rfl ?_
  exact Keeps.refl _ _

theorem ethDeliver_keeps (s : State) (x1 x2 : Nat) (x3 : List Nat) : Keeps 521139100800307577346 s (ethDeliver s x1 x2 x3) := by
  unfold ethDeliver
  refine Keeps.step (qAdmit_keeps ..) rfl ?_
  exact Keeps.refl _ _

theorem squall_keeps (s : State) (x1 : Nat) (x2 : Bool) : Keeps 521120804926821253634 s (squall s x1 x2).2 := by
  unfold squall
  refine Keeps.ite_snd ?_ ?_
  · exact Keeps.refl _ _
  · refine Keeps.ite_snd ?_ ?_
    · refine Keeps.step (Keeps.put_sw ..) rfl ?_
      exact Keeps.refl _ _
    · refine Keeps.ite_snd ?_ ?_
      · refine Keeps.step (State.inc_keeps 48 group_swport ..) rfl ?_
        refine Keeps.step (Keeps.put_sw ..) rfl ?_
        exact Keeps.refl _ _
      · refine Keeps.step (alert_keeps ..) rfl ?_
        refine Keeps.step (Keeps.put_sw ..) rfl ?_
        refine Keeps.step (State.inc_keeps 48 group_swport ..) rfl ?_
        refine Keeps.step (Keeps.put_sw ..) rfl ?_
        exact Keeps.refl _ _

theorem ethTunnel_keeps (s : State) (x1 x2 x3 : Nat) (x4 x5 : Bool) (x6 x7 x8 x9 : Nat) (x10 : List Nat) :
    Keeps 1701712988594185986562 s (ethTunnel s x1 x2 x3 x4 x5 x6 x7 x8 x9 x10) := by
  unfold ethTunnel
  refine Keeps.ite ?_ ?_
  · refine Keeps.step (State.inc_keeps 70 group_eth ..) rfl ?_
    exact Keeps.refl _ _
  · refine Keeps.ite ?_ ?_
    · refine Keeps.step (countRaise_keeps 70 group_eth ..) rfl ?_
      exact Keeps.refl _ _
    · refine Keeps.step (originate_keeps ..) rfl ?_
      exact Keeps.refl _ _

theorem ethRoute_keeps (s : State) (x1 x2 x3 x4 : Nat) (x5 : List Nat) :
    Keeps 1701731002992695599618 s (ethRoute s x1 x2 x3 x4 x5) := by
  unfold ethRoute
  refine Keeps.ite ?_ ?_
  · refine Keeps.ite_snd ?_ ?_
    · refine Keeps.step (squall_keeps ..) rfl ?_
      exact Keeps.refl _ _
    · exact Keeps.refl _ _
  · split
    · split
      · dsimp only
        split
        · refine Keeps.step (metered_keeps ..) rfl ?_
          refine Keeps.step (squall_keeps ..) rfl ?_
          exact Keeps.refl _ _
        · refine Keeps.ite ?_ ?_
          · refine Keeps.step (ethDeliver_keeps ..) rfl ?_
            refine Keeps.step (metered_keeps ..) rfl ?_
            refine Keeps.step (squall_keeps ..) rfl ?_
            exact Keeps.refl _ _
          · refine Keeps.step (ethTunnel_keeps ..) rfl ?_
            refine Keeps.step (metered_keeps ..) rfl ?_
            refine Keeps.step (squall_keeps ..) rfl ?_
            exact Keeps.refl _ _
      · dsimp only
        split
        · refine Keeps.step (metered_keeps ..) rfl ?_
          refine Keeps.step (squall_keeps ..) rfl ?_
          exact Keeps.refl _ _
        · refine Keeps.ite ?_ ?_
          · refine Keeps.step (ethTunnel_keeps ..) rfl ?_
            refine Keeps.step (metered_keeps ..) rfl ?_
            refine Keeps.step (squall_keeps ..) rfl ?_
            exact Keeps.refl _ _
          · refine Keeps.step (State.inc_keeps 70 group_eth ..) rfl ?_
            refine Keeps.step (metered_keeps ..) rfl ?_
            refine Keeps.step (squall_keeps ..) rfl ?_
            exact Keeps.refl _ _
    · split
      · dsimp only
        split
        · refine Keeps.step (metered_keeps ..) rfl ?_
          exact Keeps.refl _ _
        · refine Keeps.ite ?_ ?_
          · refine Keeps.step (ethDeliver_keeps ..) rfl ?_
            refine Keeps.step (metered_keeps ..) rfl ?_
            exact Keeps.refl _ _
          · refine Keeps.step (ethTunnel_keeps ..) rfl ?_
            refine Keeps.step (metered_keeps ..) rfl ?_
            exact Keeps.refl _ _
      · dsimp only
        split
        · refine Keeps.step (metered_keeps ..) rfl ?_
          exact Keeps.refl _ _
        · refine Keeps.ite ?_ ?_
          · refine Keeps.step (ethTunnel_keeps ..) rfl ?_
            refine Keeps.step (metered_keeps ..) rfl ?_
            exact Keeps.refl _ _
          · refine Keeps.step (State.inc_keeps 70 group_eth ..) rfl ?_
            refine Keeps.step (metered_keeps ..) rfl ?_
            exact Keeps.refl _ _

theorem ethReceive_keeps (s : State) (x1 : Nat) (x2 : List Nat) (x3 : Bool) (x4 : Nat) :
    Keeps 1701731002992695599618 s (ethReceive s x1 x2 x3 x4) := by
  unfold ethReceive
  refine Keeps.ite ?_ ?_
  · refine Keeps.step (countRaise_keeps 70 group_eth ..) rfl ?_
    exact Keeps.refl _ _
  · refine Keeps.ite ?_ ?_
    · refine Keeps.step (State.inc_keeps 70 group_eth ..) rfl ?_
      exact Keeps.refl _ _
    · refine Keeps.ite ?_ ?_
      · refine Keeps.step (State.inc_keeps 70 group_eth ..) rfl ?_
        refine Keeps.step (State.inc_keeps 70 group_eth ..) rfl ?_
        exact Keeps.refl _ _
      · refine Keeps.ite ?_ ?_
        · refine Keeps.step (State.inc_keeps 70 group_eth ..) rfl ?_
          refine Keeps.step (State.inc_keeps 70 group_eth ..) rfl ?_
          exact Keeps.refl _ _
        · refine Keeps.ite ?_ ?_
          · refine Keeps.step (ethDeliver_keeps ..) rfl ?_
            refine Keeps.step (State.inc_keeps 70 group_eth ..) rfl ?_
            exact Keeps.refl _ _
          · refine Keeps.step (ethRoute_keeps ..) rfl ?_
            refine Keeps.step (State.inc_keeps 70 group_eth ..) rfl ?_
            exact Keeps.refl _ _

theorem execEthFrameReceived_keeps (x0 : Nat) (x1 : List Nat) (x2 : Bool) (x3 : Nat) (s : State) :
    OutKeeps 1701731002992695601666 s (execEthFrameReceived x0 x1 x2 x3 s) := by
  unfold execEthFrameReceived
  refine OutKeeps.next ?_
  refine Keeps.ite ?_ ?_
  · refine Keeps.step (ethReceive_keeps ..) rfl ?_
    refine Keeps.step (State.atTime_keeps ..) rfl ?_
    exact Keeps.refl _ _
  · exact Keeps.refl _ _

theorem execEthLinkChange_keeps (x0 : Nat) (x1 : Bool) (x2 : Nat) (s : State) :
    OutKeeps 1701740256482622143298 s (execEthLinkChange x0 x1 x2 s) := by
  unfold execEthLinkChange
  refine OutKeeps.next ?_
  refine Keeps.ite ?_ ?_
  · refine Keeps.ite ?_ ?_
    · split
      · refine Keeps.step (ethLink_keeps ..) rfl ?_
        exact Keeps.refl _ _
      · exact Keeps.refl _ _
    · refine Keeps.step (ethLink_keeps ..) rfl ?_
      exact Keeps.refl _ _
  · exact Keeps.refl _ _

theorem execEvForce_keeps (x0 : Nat) (x1 : By) (x2 : Nat) (s : State) :
    OutKeeps 633825300114114699769065503598 s (execEvForce x0 x1 x2 s) := by
  unfold execEvForce
  refine OutKeeps.next ?_
  refine Keeps.step (busStore_keeps ..) rfl ?_
  exact Keeps.refl _ _

theorem execEval_keeps (x0 : Nat) (x1 : By) (x2 : Nat) (s : State) :
    OutKeeps 633825300114114699769065503598 s (execEval x0 x1 x2 s) := by
  unfold execEval
  refine OutKeeps.next ?_
  refine Keeps.step (busStore_keeps ..) rfl ?_
  exact Keeps.refl _ _

theorem execEvent_keeps (x0 : Frame) (s : State) : OutKeeps 633825300114114699769065504622 s (execEvent x0 s) := by
  unfold execEvent
  refine OutKeeps.next ?_
  refine Keeps.step (inFrame_keeps ..) rfl ?_
  exact Keeps.refl _ _

theorem execEvout_keeps (x0 : By) (x1 x2 x3 : Nat) (s : State) :
    OutKeeps 633825300114114699769065503598 s (execEvout x0 x1 x2 x3 s) := by
  unfold execEvout
  refine OutKeeps.next ?_
  refine Keeps.step (busStore_keeps ..) rfl ?_
  exact Keeps.refl _ _

theorem execEvtPulseEnd_keeps (x0 : Nat) (s : State) : OutKeeps 2147483648 s (execEvtPulseEnd x0 s) := by
  unfold execEvtPulseEnd
  refine OutKeeps.next ?_
  refine Keeps.ite ?_ ?_
  · refine Keeps.step (Keeps.put_router ..) rfl ?_
    exact Keeps.refl _ _
  · exact Keeps.refl _ _

theorem execExitMode_keeps (s : State) : OutKeeps 39480654105042280872514 s (execExitMode s) := by
  unfold execExitMode
  refine OutKeeps.next ?_
  refine Keeps.ite ?_ ?_
  · refine Keeps.step (pdSend_keeps ..) rfl ?_
    refine Keeps.step (tapEnd_keeps ..) rfl ?_
    exact Keeps.refl _ _
  · exact Keeps.refl _ _

theorem execExportDone_keeps (x0 : By) (x1 : Nat) (s : State) :
    OutKeeps 633825300114114699769065503598 s (execExportDone x0 x1 s) := by
  unfold execExportDone
  refine OutKeeps.next ?_
  refine Keeps.step (busStore_keeps ..) rfl ?_
  exact Keeps.refl _ _

theorem execFaultNowClear_keeps (x0 x1 : Nat) (s : State) : OutKeeps 4611687117943209986 s (execFaultNowClear x0 x1 s) := by
  unfold execFaultNowClear
  refine OutKeeps.next ?_
  refine Keeps.ite ?_ ?_
  · refine Keeps.ite ?_ ?_
    · refine Keeps.step (State.setChan_keeps ..) rfl ?_
      refine Keeps.step (chFaultEnd_keeps ..) rfl ?_
      exact Keeps.refl _ _
    · refine Keeps.step (chFaultEnd_keeps ..) rfl ?_
      exact Keeps.refl _ _
  · exact Keeps.refl _ _

theorem execFdieWatchdogExpiry_keeps (x0 : Nat) (s : State) :
    OutKeeps 138812103874015785224048181058 s (execFdieWatchdogExpiry x0 s) := by
  unfold execFdieWatchdogExpiry
  refine OutKeeps.next ?_
  refine Keeps.ite ?_ ?_
  · refine Keeps.ite ?_ ?_
    · refine Keeps.step (ownFault_keeps ..) rfl ?_
      refine Keeps.ite ?_ ?_
      · refine Keeps.step (safeTrigger_keeps ..) rfl ?_
        refine Keeps.step (fdieEv_keeps (ev_ite_keeps _) ..) rfl ?_
        refine Keeps.step (State.inc_keeps 64 (group_fdie rfl) ..) rfl ?_
        refine Keeps.step (Keeps.put_stitch ..) rfl ?_
        exact Keeps.refl _ _
      · refine Keeps.step (safeEnter_keeps evOnly_keeps ..) rfl ?_
        refine Keeps.step (fdieEv_keeps (ev_ite_keeps _) ..) rfl ?_
        refine Keeps.step (State.inc_keeps 64 (group_fdie rfl) ..) rfl ?_
        refine Keeps.step (Keeps.put_stitch ..) rfl ?_
        exact Keeps.refl _ _
    · refine Keeps.ite ?_ ?_
      · refine Keeps.step (safeTrigger_keeps ..) rfl ?_
        refine Keeps.step (fdieEv_keeps (ev_ite_keeps _) ..) rfl ?_
        refine Keeps.step (State.inc_keeps 64 (group_fdie rfl) ..) rfl ?_
        refine Keeps.step (Keeps.put_stitch ..) rfl ?_
        exact Keeps.refl _ _
      · refine Keeps.step (safeEnter_keeps evOnly_keeps ..) rfl ?_
        refine Keeps.step (fdieEv_keeps (ev_ite_keeps _) ..) rfl ?_
        refine Keeps.step (State.inc_keeps 64 (group_fdie rfl) ..) rfl ?_
        refine Keeps.step (Keeps.put_stitch ..) rfl ?_
        exact Keeps.refl _ _
  · exact Keeps.refl _ _

theorem setFeedBit_keeps (s : State) (x1 x2 : Nat) (x3 : Bool) : Keeps 9444732966838802055170 s (setFeedBit s x1 x2 x3) := by
  unfold setFeedBit
  refine Keeps.step (State.setBit_keeps 73 group_power ..) rfl ?_
  exact Keeps.refl _ _

theorem execFeedDiodeOn_keeps (x0 : Nat) (s : State) : OutKeeps 9444732966838802055170 s (execFeedDiodeOn x0 s) := by
  unfold execFeedDiodeOn
  refine OutKeeps.next ?_
  refine Keeps.ite ?_ ?_
  · refine Keeps.step (setFeedBit_keeps ..) rfl ?_
    exact Keeps.refl _ _
  · exact Keeps.refl _ _

theorem execFeedReverse_keeps (x0 : Nat) (s : State) : OutKeeps 9965853489191134953986 s (execFeedReverse x0 s) := by
  unfold execFeedReverse
  refine OutKeeps.next ?_
  refine Keeps.ite ?_ ?_
  · refine Keeps.step (powerEv_keeps ..) rfl ?_
    refine Keeps.step (State.inc_keeps 73 group_power ..) rfl ?_
    refine Keeps.step (State.wr_keeps 73 group_power ..) rfl ?_
    refine Keeps.step (setFeedBit_keeps ..) rfl ?_
    exact Keeps.refl _ _
  · exact Keeps.refl _ _

theorem execFeedReversed_keeps (x0 : Nat) (s : State) : OutKeeps 9965853489191134953986 s (execFeedReversed x0 s) := by
  unfold execFeedReversed
  refine OutKeeps.next ?_
  refine Keeps.ite ?_ ?_
  · refine Keeps.step (powerEv_keeps ..) rfl ?_
    refine Keeps.step (setFeedBit_keeps ..) rfl ?_
    refine Keeps.step (setFeedBit_keeps ..) rfl ?_
    exact Keeps.refl _ _
  · exact Keeps.refl _ _

theorem comWindow_keeps (s : State) (x1 : Int) : Keeps 28334198898317919780866 s (comWindow s x1) := by
  unfold comWindow
  refine Keeps.step (mainSeating_keeps ..) rfl ?_
  refine Keeps.step (Keeps.put_power ..) rfl ?_
  exact Keeps.refl _ _

theorem feedWindow_keeps (s : State) (x1 : Nat) (x2 : Int) : Keeps 9965853489191671824898 s (feedWindow s x1 x2) := by
  unfold feedWindow
  refine Keeps.ite ?_ ?_
  · refine Keeps.step (powerEv_keeps ..) rfl ?_
    refine Keeps.step (Keeps.put_power ..) rfl ?_
    refine Keeps.ite ?_ ?_
    · refine Keeps.step (setFeedBit_keeps ..) rfl ?_
      refine Keeps.step (setFeedBit_keeps ..) rfl ?_
      refine Keeps.step (setFeedBit_keeps ..) rfl ?_
      refine Keeps.step (setFeedBit_keeps ..) rfl ?_
      exact Keeps.refl _ _
    · refine Keeps.step (setFeedBit_keeps ..) rfl ?_
      refine Keeps.step (setFeedBit_keeps ..) rfl ?_
      refine Keeps.step (setFeedBit_keeps ..) rfl ?_
      exact Keeps.refl _ _
  · refine Keeps.step (Keeps.put_power ..) rfl ?_
    refine Keeps.ite ?_ ?_
    · refine Keeps.step (setFeedBit_keeps ..) rfl ?_
      refine Keeps.step (setFeedBit_keeps ..) rfl ?_
      refine Keeps.step (setFeedBit_keeps ..) rfl ?_
      refine Keeps.step (setFeedBit_keeps ..) rfl ?_
      exact Keeps.refl _ _
    · refine Keeps.step (setFeedBit_keeps ..) rfl ?_
      refine Keeps.step (setFeedBit_keeps ..) rfl ?_
      refine Keeps.step (setFeedBit_keeps ..) rfl ?_
      exact Keeps.refl _ _

theorem execFeedWindow_keeps (x0 : Nat) (x1 : FeedIn) (s : State) :
    OutKeeps 143372716728183602379586 s (execFeedWindow x0 x1 s) := by
  unfold execFeedWindow
  refine OutKeeps.next ?_
  refine Keeps.ite ?_ ?_
  · refine Keeps.step (afterPower_keeps ..) rfl ?_
    refine Keeps.ite ?_ ?_
    · refine Keeps.step (Keeps.put_ao ..) rfl ?_
      refine Keeps.step (feedWindow_keeps ..) rfl ?_
      refine Keeps.step (State.coreAt_keeps ..) rfl ?_
      exact Keeps.refl _ _
    · refine Keeps.step (feedWindow_keeps ..) rfl ?_
      refine Keeps.step (State.coreAt_keeps ..) rfl ?_
      exact Keeps.refl _ _
  · refine Keeps.ite ?_ ?_
    · refine Keeps.step (comWindow_keeps ..) rfl ?_
      refine Keeps.step (State.coreAt_keeps ..) rfl ?_
      exact Keeps.refl _ _
    · exact Keeps.refl _ _

theorem setPower_keeps (s : State) (x1 : Bool) : Keeps 155641456264659891263732546 s (setPower s x1) := by
  unfold setPower
  refine Keeps.ite ?_ ?_
  · exact Keeps.refl _ _
  · refine Keeps.step (judgeBudget_keeps ..) rfl ?_
    refine Keeps.step (supplyJudge_keeps ..) rfl ?_
    refine Keeps.step (domainsApply_keeps ..) rfl ?_
    refine Keeps.step (canOut_keeps ..) rfl ?_
    refine Keeps.ite ?_ ?_
    · refine Keeps.step (sourceJudge_keeps ..) rfl ?_
      refine Keeps.step (branchesOff_keeps ..) rfl ?_
      refine Keeps.step (raise_keeps ..) rfl ?_
      refine Keeps.step (State.wr_keeps 87 (.inl rfl) ..) rfl ?_
      exact Keeps.refl _ _
    · refine Keeps.step (svcOverlap_keeps ..) rfl ?_
      refine Keeps.step (raise_keeps ..) rfl ?_
      refine Keeps.step (State.wr_keeps 87 (.inl rfl) ..) rfl ?_
      exact Keeps.refl _ _

theorem execFeedWindowSettled_keeps (x0 : Nat) (s : State) :
    OutKeeps 155641456264659891263732546 s (execFeedWindowSettled x0 s) := by
  unfold execFeedWindowSettled
  refine OutKeeps.next ?_
  refine Keeps.ite ?_ ?_
  · refine Keeps.step (setPower_keeps ..) rfl ?_
    refine Keeps.step (State.coreAt_keeps ..) rfl ?_
    exact Keeps.refl _ _
  · exact Keeps.refl _ _

theorem execFeedsLost_keeps (s : State) : OutKeeps 138812179413432767065735789378 s (execFeedsLost s) := by
  unfold execFeedsLost
  refine OutKeeps.next ?_
  refine Keeps.ite ?_ ?_
  · refine Keeps.ite ?_ ?_
    · refine Keeps.step (ownFault_keeps ..) rfl ?_
      refine Keeps.step (setPower_keeps ..) rfl ?_
      exact Keeps.refl _ _
    · refine Keeps.step (setPower_keeps ..) rfl ?_
      exact Keeps.refl _ _
  · exact Keeps.refl _ _

theorem execFieldClockRestored_keeps (x0 : Nat) (s : State) : OutKeeps 3298539077634 s (execFieldClockRestored x0 s) := by
  unfold execFieldClockRestored
  refine OutKeeps.next ?_
  refine Keeps.ite ?_ ?_
  · refine Keeps.each (fun _ _ => ?_) ?_
    · refine Keeps.step (Keeps.put_field ..) rfl ?_
      exact Keeps.refl _ _
    · refine Keeps.step (State.wr_keeps 41 (.inl rfl) ..) rfl ?_
      exact Keeps.refl _ _
  · exact Keeps.refl _ _

theorem fieldCmdArrives_keeps (s : State) (x1 x2 x3 : Nat) : Keeps 2446708111571467602233090 s (fieldCmdArrives s x1 x2 x3) := by
  unfold fieldCmdArrives
  refine Keeps.ite ?_ ?_
  · exact Keeps.refl _ _
  · split
    · exact Keeps.refl _ _
    · split
      · dsimp only
        split
        · refine Keeps.step (flitArrives_keeps ..) rfl ?_
          exact Keeps.refl _ _
        · refine Keeps.step (Keeps.put_edge ..) rfl ?_
          refine Keeps.step (flitArrives_keeps ..) rfl ?_
          exact Keeps.refl _ _
      · split
        · dsimp only
          split
          · refine Keeps.step (flitArrives_keeps ..) rfl ?_
            exact Keeps.refl _ _
          · refine Keeps.step (edgeStopJudge_keeps ..) rfl ?_
            refine Keeps.step (edgesRetry_keeps ..) rfl ?_
            refine Keeps.step (edgePlace_keeps ..) rfl ?_
            refine Keeps.step (State.inc_keeps 60 group_edge ..) rfl ?_
            refine Keeps.step (flitArrives_keeps ..) rfl ?_
            exact Keeps.refl _ _
        · dsimp only
          split
          · refine Keeps.step (flitArrives_keeps ..) rfl ?_
            exact Keeps.refl _ _
          · refine Keeps.step (edgeStopJudge_keeps ..) rfl ?_
            refine Keeps.step (edgesRetry_keeps ..) rfl ?_
            refine Keeps.step (edgeEnd_keeps ..) rfl ?_
            refine Keeps.step (State.inc_keeps 60 group_edge ..) rfl ?_
            refine Keeps.step (flitArrives_keeps ..) rfl ?_
            exact Keeps.refl _ _

theorem execFieldCommandArrival_keeps (x0 x1 x2 : Nat) (s : State) :
    OutKeeps 2446708526747058251132674 s (execFieldCommandArrival x0 x1 x2 s) := by
  unfold execFieldCommandArrival
  refine OutKeeps.next ?_
  refine Keeps.ite ?_ ?_
  · refine Keeps.step (settleEdges_keeps ..) rfl ?_
    refine Keeps.step (fieldCmdArrives_keeps ..) rfl ?_
    refine Keeps.step (State.atTime_keeps ..) rfl ?_
    exact Keeps.refl _ _
  · exact Keeps.refl _ _

theorem edgesField_keeps (s : State) (x1 : Nat) : Keeps 2446708111571467602232066 s (edgesField s x1) := by
  unfold edgesField
  refine Keeps.step (edgeStopJudge_keeps ..) rfl ?_
  refine Keeps.step (edgesRetry_keeps ..) rfl ?_
  refine Keeps.foldl (fun _ _ => ?_) _ _ ?_
  · refine Keeps.step (edgePlace_keeps ..) rfl ?_
    exact Keeps.refl _ _
  · exact Keeps.refl _ _

theorem execFieldEdgeAction_keeps (x0 : Nat) (s : State) : OutKeeps 2446708526747058251131650 s (execFieldEdgeAction x0 s) := by
  unfold execFieldEdgeAction
  refine OutKeeps.next ?_
  refine Keeps.ite ?_ ?_
  · refine Keeps.step (settleEdges_keeps ..) rfl ?_
    refine Keeps.step (edgesField_keeps ..) rfl ?_
    refine Keeps.step (State.atTime_keeps ..) rfl ?_
    exact Keeps.refl _ _
  · exact Keeps.refl _ _

theorem openCell_keeps (s : State) (x1 : Nat) : Keeps 521139100800307577346 s (openCell s x1).2 := by
  unfold openCell
  refine Keeps.ite_snd ?_ ?_
  · exact Keeps.refl _ _
  · refine Keeps.ite_snd ?_ ?_
    · refine Keeps.step (chargeCells_keeps ..) rfl ?_
      refine Keeps.step (State.inc_keeps 54 group_queue ..) rfl ?_
      split
      · refine Keeps.step (recycleFor_keeps ..) rfl ?_
        exact Keeps.refl _ _
      · exact Keeps.refl _ _
    · refine Keeps.step (qRefuse_keeps ..) rfl ?_
      refine Keeps.step (noteRefusal_keeps ..) rfl ?_
      exact Keeps.refl _ _

theorem capRecord_keeps (s : State) (x1 : Nat) (x2 : CapRec) : Keeps 523444943809523368450 s (capRecord s x1 x2) := by
  unfold capRecord
  refine Keeps.ite ?_ ?_
  · exact Keeps.refl _ _
  · refine Keeps.ite ?_ ?_
    · refine Keeps.ite ?_ ?_
      · refine Keeps.step (closeCell_keeps ..) rfl ?_
        refine Keeps.step (raiseIf_keeps ..) rfl ?_
        refine Keeps.step (State.inc_keeps 61 group_capt ..) rfl ?_
        refine Keeps.step (setCapUnit_keeps ..) rfl ?_
        refine Keeps.ite_snd ?_ ?_
        · refine Keeps.step (openCell_keeps ..) rfl ?_
          exact Keeps.refl _ _
        · exact Keeps.refl _ _
      · refine Keeps.step (raiseIf_keeps ..) rfl ?_
        refine Keeps.step (State.inc_keeps 61 group_capt ..) rfl ?_
        refine Keeps.step (setCapUnit_keeps ..) rfl ?_
        refine Keeps.ite_snd ?_ ?_
        · refine Keeps.step (openCell_keeps ..) rfl ?_
          exact Keeps.refl _ _
        · exact Keeps.refl _ _
    · refine Keeps.step (raise_keeps ..) rfl ?_
      refine Keeps.step (State.wr_keeps 61 group_capt ..) rfl ?_
      refine Keeps.step (State.inc_keeps 61 group_capt ..) rfl ?_
      refine Keeps.step (State.inc_keeps 61 group_capt ..) rfl ?_
      refine Keeps.ite_snd ?_ ?_
      · refine Keeps.step (openCell_keeps ..) rfl ?_
        exact Keeps.refl _ _
      · exact Keeps.refl _ _

theorem capUnitEdge_keeps (s : State) (x1 x2 : Nat) (x3 : Bool) (x4 x5 x6 : Nat) :
    Keeps 523444943809523368706 s (capUnitEdge s x1 x2 x3 x4 x5 x6) := by
  have hd : ∀ t : State, Keeps 523444943809523368706 t ((t.draw 48).2.draw 32).2 := fun t =>
    Keeps.trans ((State.draw_keeps t 48).mono rfl) ((State.draw_keeps (t.draw 48).2 32).mono rfl)
  unfold capUnitEdge
  dsimp only
  refine Keeps.ite ?_ (Keeps.ite ?_ ?_)
  · exact Keeps.refl _ _
  · exact Keeps.refl _ _
  · refine Keeps.step (capRecord_keeps ..) rfl ?_
    split
    · refine Keeps.step (State.wr_keeps 61 group_capt ..) rfl ?_
      refine Keeps.step (State.wr_keeps 61 group_capt ..) rfl ?_
      refine Keeps.step (State.wr_keeps 61 group_capt ..) rfl ?_
      refine Keeps.step (State.wr64_keeps 61 group_capt group_capt ..) rfl ?_
      exact (setCapUnit_keeps ..).mono rfl
    · refine Keeps.trans ?_ (hd _)
      refine Keeps.step (State.wr_keeps 61 group_capt ..) rfl ?_
      refine Keeps.step (State.wr_keeps 61 group_capt ..) rfl ?_
      refine Keeps.step (State.wr_keeps 61 group_capt ..) rfl ?_
      refine Keeps.step (State.wr64_keeps 61 group_capt group_capt ..) rfl ?_
      exact (setCapUnit_keeps ..).mono rfl

theorem captureEdge_keeps (s : State) (x1 x2 : Nat) (x3 : Bool) (x4 x5 x6 : Nat) :
    Keeps 523444943809523368706 s (captureEdge s x1 x2 x3 x4 x5 x6) := by
  unfold captureEdge
  refine Keeps.ite ?_ ?_
  · exact Keeps.refl _ _
  · refine Keeps.each (fun _ _ => ?_) ?_
    · refine Keeps.ite ?_ ?_
      · refine Keeps.step (capUnitEdge_keeps ..) rfl ?_
        exact Keeps.refl _ _
      · exact Keeps.refl _ _
    · exact Keeps.refl _ _

theorem execFieldInputEdge_keeps (x0 : Nat) (x1 : Bool) (x2 x3 x4 : Nat) (s : State) :
    OutKeeps 523444943809556957954 s (execFieldInputEdge x0 x1 x2 x3 x4 s) := by
  unfold execFieldInputEdge
  refine OutKeeps.next ?_
  refine Keeps.ite ?_ ?_
  · refine Keeps.ite ?_ ?_
    · refine Keeps.ite ?_ ?_
      · refine Keeps.step (State.setSig_keeps ..) rfl ?_
        refine Keeps.step (State.setChan_keeps ..) rfl ?_
        exact Keeps.refl _ _
      · refine Keeps.step (State.setChan_keeps ..) rfl ?_
        exact Keeps.refl _ _
    · refine Keeps.ite ?_ ?_
      · refine Keeps.step (captureEdge_keeps ..) rfl ?_
        refine Keeps.step (Keeps.put_pub ..) rfl ?_
        refine Keeps.step (State.atTime_keeps ..) rfl ?_
        refine Keeps.ite ?_ ?_
        · refine Keeps.step (raise_keeps ..) rfl ?_
          refine Keeps.ite ?_ ?_
          · refine Keeps.step (State.setSig_keeps ..) rfl ?_
            refine Keeps.step (State.setChan_keeps ..) rfl ?_
            exact Keeps.refl _ _
          · refine Keeps.step (State.setChan_keeps ..) rfl ?_
            exact Keeps.refl _ _
        · refine Keeps.ite ?_ ?_
          · refine Keeps.step (State.setSig_keeps ..) rfl ?_
            refine Keeps.step (State.setChan_keeps ..) rfl ?_
            exact Keeps.refl _ _
          · refine Keeps.step (State.setChan_keeps ..) rfl ?_
            exact Keeps.refl _ _
      · refine Keeps.ite ?_ ?_
        · refine Keeps.step (raise_keeps ..) rfl ?_
          refine Keeps.ite ?_ ?_
          · refine Keeps.step (State.setSig_keeps ..) rfl ?_
            refine Keeps.step (State.setChan_keeps ..) rfl ?_
            exact Keeps.refl _ _
          · refine Keeps.step (State.setChan_keeps ..) rfl ?_
            exact Keeps.refl _ _
        · refine Keeps.ite ?_ ?_
          · refine Keeps.step (State.setSig_keeps ..) rfl ?_
            refine Keeps.step (State.setChan_keeps ..) rfl ?_
            exact Keeps.refl _ _
          · refine Keeps.step (State.setChan_keeps ..) rfl ?_
            exact Keeps.refl _ _
  · exact Keeps.refl _ _

theorem storeRaw_keeps (s : State) (x1 : Nat) (x2 : List Nat) : Keeps 524288 s (storeRaw s x1 x2) := by
  unfold storeRaw
  refine Keeps.foldl (fun _ _ => ?_) _ _ ?_
  · refine Keeps.step (Keeps.put_drift ..) rfl ?_
    exact Keeps.refl _ _
  · exact Keeps.refl _ _

theorem regionWrite_keeps (s : State) (x1 : By) (x2 : Nat) (x3 : List Nat) :
    Keeps 633825300114114699769065504638 s (regionWrite s x1 x2 x3).2 := by
  unfold regionWrite
  split
  · exact Keeps.refl _ _
  · exact Keeps.refl _ _
  · exact Keeps.refl _ _
  · refine Keeps.ite ?_ ?_
    · refine Keeps.step (unstage_keeps ..) rfl ?_
      refine Keeps.step (State.memWrite_keeps ..) rfl ?_
      exact Keeps.refl _ _
    · refine Keeps.step (State.memWrite_keeps ..) rfl ?_
      exact Keeps.refl _ _
  · refine Keeps.ite_snd ?_ ?_
    · exact Keeps.refl _ _
    · refine Keeps.step (State.memWrite_keeps ..) rfl ?_
      exact Keeps.refl _ _
  · refine Keeps.ite_snd ?_ ?_
    · refine Keeps.step (storeRaw_keeps ..) rfl ?_
      exact Keeps.refl _ _
    · exact Keeps.refl _ _
  · refine Keeps.ite_snd ?_ ?_
    · exact Keeps.refl _ _
    · refine Keeps.step (writeWords_keeps ..) rfl ?_
      exact Keeps.refl _ _
  · refine Keeps.step (windowWrite_keeps ..) rfl ?_
    exact Keeps.refl _ _
  · exact Keeps.refl _ _

theorem localWrite_keeps (s : State) (x1 : By) (x2 : Nat) (x3 : List Nat) :
    Keeps 633825300114114699769065504638 s (localWrite s x1 x2 x3).2 := by
  unfold localWrite
  refine Keeps.ite_snd ?_ ?_
  · exact Keeps.refl _ _
  · refine Keeps.ite_snd ?_ ?_
    · refine Keeps.step (regionWrite_keeps ..) rfl ?_
      exact Keeps.refl _ _
    · refine Keeps.step (regionWrite_keeps ..) rfl ?_
      refine Keeps.step (regionWrite_keeps ..) rfl ?_
      exact Keeps.refl _ _

theorem cellRead_keeps (s : State) (x1 x2 : Nat) : Keeps 256 s (cellRead s x1 x2).2 := by
  unfold cellRead
  split
  · exact Keeps.refl _ _
  · refine Keeps.step (cellRead_keeps ..) rfl ?_
    split
    · exact Keeps.refl _ _
    · refine Keeps.step (State.draw_keeps ..) rfl ?_
      exact Keeps.refl _ _

theorem regionRead_keeps (s : State) (x1 : By) (x2 x3 : Nat) :
    Keeps 633825300114114699719871563554 s (regionRead s x1 x2 x3).2.2 := by
  unfold regionRead
  split
  · refine Keeps.step (openBytes_keeps ..) rfl ?_
    exact Keeps.refl _ _
  · refine Keeps.step (cellRead_keeps ..) rfl ?_
    exact Keeps.refl _ _
  · exact Keeps.refl _ _
  · exact Keeps.refl _ _
  · exact Keeps.refl _ _
  · exact Keeps.refl _ _
  · refine Keeps.ite_snd2 ?_ ?_
    · exact Keeps.refl _ _
    · refine Keeps.step (readWords_keeps ..) rfl ?_
      exact Keeps.refl _ _
  · refine Keeps.step (windowRead_keeps ..) rfl ?_
    exact Keeps.refl _ _
  · exact Keeps.refl _ _

theorem localRead_keeps (s : State) (x1 : By) (x2 x3 : Nat) :
    Keeps 633825300114114699719871563554 s (localRead s x1 x2 x3).2.2 := by
  unfold localRead
  refine Keeps.ite_snd2 ?_ ?_
  · exact Keeps.refl _ _
  · refine Keeps.ite_snd2 ?_ ?_
    · refine Keeps.step (regionRead_keeps ..) rfl ?_
      exact Keeps.refl _ _
    · refine Keeps.step (regionRead_keeps ..) rfl ?_
      refine Keeps.step (regionRead_keeps ..) rfl ?_
      exact Keeps.refl _ _

theorem nextPiece_keeps (s : State) (x1 : Nat) (x2 : XferDesc) : Keeps 633825300114114699769065504622 s (nextPiece s x1 x2).2 := by
  unfold nextPiece
  refine Keeps.ite_snd ?_ ?_
  · split
    · refine Keeps.ite_snd ?_ ?_
      · refine Keeps.step (mapDesc_keeps ..) rfl ?_
        refine Keeps.step (localRead_keeps ..) rfl ?_
        exact Keeps.refl _ _
      · refine Keeps.ite_snd ?_ ?_
        · refine Keeps.step (mapDesc_keeps ..) rfl ?_
          refine Keeps.step (localRead_keeps ..) rfl ?_
          exact Keeps.refl _ _
        · refine Keeps.ite_snd ?_ ?_
          · refine Keeps.step (mapDesc_keeps ..) rfl ?_
            refine Keeps.step (localRead_keeps ..) rfl ?_
            exact Keeps.refl _ _
          · dsimp only
            split
            · rename_i hq1
              refine Keeps.of_snd hq1 ?_
              refine Keeps.step (takeTag_keeps ..) rfl ?_
              refine Keeps.step (localRead_keeps ..) rfl ?_
              exact Keeps.refl _ _
            · refine Keeps.step (mapDesc_keeps ..) rfl ?_
              rename_i hq2
              refine Keeps.of_snd hq2 ?_
              refine Keeps.step (takeTag_keeps ..) rfl ?_
              refine Keeps.step (localRead_keeps ..) rfl ?_
              exact Keeps.refl _ _
    · refine Keeps.ite_snd ?_ ?_
      · refine Keeps.step (mapDesc_keeps ..) rfl ?_
        refine Keeps.step (localRead_keeps ..) rfl ?_
        exact Keeps.refl _ _
      · refine Keeps.ite_snd ?_ ?_
        · refine Keeps.step (mapDesc_keeps ..) rfl ?_
          refine Keeps.step (localRead_keeps ..) rfl ?_
          exact Keeps.refl _ _
        · refine Keeps.step (mapDesc_keeps ..) rfl ?_
          refine Keeps.step (windowAtomic_keeps ..) rfl ?_
          refine Keeps.step (localRead_keeps ..) rfl ?_
          exact Keeps.refl _ _
  · split
    · refine Keeps.ite_snd ?_ ?_
      · refine Keeps.step (mapDesc_keeps ..) rfl ?_
        exact Keeps.refl _ _
      · dsimp only
        split
        · rename_i hq3
          refine Keeps.of_snd hq3 ?_
          refine Keeps.step (takeTag_keeps ..) rfl ?_
          exact Keeps.refl _ _
        · refine Keeps.step (mapDesc_keeps ..) rfl ?_
          rename_i hq4
          refine Keeps.of_snd hq4 ?_
          refine Keeps.step (takeTag_keeps ..) rfl ?_
          exact Keeps.refl _ _
    · refine Keeps.ite_snd ?_ ?_
      · exact Keeps.refl _ _
      · refine Keeps.step (mapDesc_keeps ..) rfl ?_
        refine Keeps.step (localRead_keeps ..) rfl ?_
        exact Keeps.refl _ _

theorem putPiece_keeps (s : State) (x1 : Nat) (x2 : XferDesc) (x3 : Nat) (x4 : List Nat) :
    Keeps 633825300114114699769065504638 s (putPiece s x1 x2 x3 x4).2 := by
  unfold putPiece
  split
  · refine Keeps.ite_snd ?_ ?_
    · refine Keeps.step (mapDesc_keeps ..) rfl ?_
      exact Keeps.refl _ _
    · dsimp only
      split
      · rename_i hq1
        refine Keeps.of_snd hq1 ?_
        refine Keeps.step (takeTag_keeps ..) rfl ?_
        exact Keeps.refl _ _
      · refine Keeps.step (mapDesc_keeps ..) rfl ?_
        rename_i hq2
        refine Keeps.of_snd hq2 ?_
        refine Keeps.step (takeTag_keeps ..) rfl ?_
        exact Keeps.refl _ _
  · refine Keeps.step (mapDesc_keeps ..) rfl ?_
    refine Keeps.step (localWrite_keeps ..) rfl ?_
    exact Keeps.refl _ _

theorem descStep_keeps (s : State) (x1 x2 : Nat) : Keeps 633825300114114699769065504638 s (descStep s x1 x2).2 := by
  unfold descStep
  split
  · exact Keeps.refl _ _
  · refine Keeps.ite_snd ?_ ?_
    · exact Keeps.refl _ _
    · split
      · split
        · refine Keeps.ite_snd ?_ ?_
          · refine Keeps.step (mapDesc_keeps ..) rfl ?_
            refine Keeps.step (localWrite_keeps ..) rfl ?_
            refine Keeps.step (mapDesc_keeps ..) rfl ?_
            exact Keeps.refl _ _
          · refine Keeps.ite_snd ?_ ?_
            · refine Keeps.step (mapDesc_keeps ..) rfl ?_
              refine Keeps.step (putPiece_keeps ..) rfl ?_
              refine Keeps.step (mapDesc_keeps ..) rfl ?_
              exact Keeps.refl _ _
            · refine Keeps.step (putPiece_keeps ..) rfl ?_
              refine Keeps.step (mapDesc_keeps ..) rfl ?_
              exact Keeps.refl _ _
        · refine Keeps.ite_snd ?_ ?_
          · refine Keeps.step (nextPiece_keeps ..) rfl ?_
            refine Keeps.step (mapDesc_keeps ..) rfl ?_
            exact Keeps.refl _ _
          · refine Keeps.step (mapDesc_keeps ..) rfl ?_
            exact Keeps.refl _ _
      · split
        · refine Keeps.ite_snd ?_ ?_
          · refine Keeps.step (mapDesc_keeps ..) rfl ?_
            refine Keeps.step (localWrite_keeps ..) rfl ?_
            exact Keeps.refl _ _
          · refine Keeps.ite_snd ?_ ?_
            · refine Keeps.step (mapDesc_keeps ..) rfl ?_
              refine Keeps.step (putPiece_keeps ..) rfl ?_
              exact Keeps.refl _ _
            · refine Keeps.step (putPiece_keeps ..) rfl ?_
              exact Keeps.refl _ _
        · refine Keeps.ite_snd ?_ ?_
          · refine Keeps.step (nextPiece_keeps ..) rfl ?_
            exact Keeps.refl _ _
          · exact Keeps.refl _ _

theorem descRun_keeps (x0 : Nat) (s : State) (x2 x3 : Nat) : Keeps 633825300114114699769065504638 s (descRun x0 s x2 x3) := by
  unfold descRun
  split
  · exact Keeps.refl _ _
  · refine Keeps.ite ?_ ?_
    · refine Keeps.step (descRun_keeps ..) rfl ?_
      refine Keeps.step (descStep_keeps ..) rfl ?_
      exact Keeps.refl _ _
    · refine Keeps.step (descStep_keeps ..) rfl ?_
      exact Keeps.refl _ _

theorem xferPump_keeps (s : State) : Keeps 633825300114114699769065504638 s (xferPump s) := by
  unfold xferPump
  refine Keeps.each (fun _ _ => ?_) ?_
  · refine Keeps.foldl (fun _ _ => ?_) _ _ ?_
    · refine Keeps.step (descRun_keeps ..) rfl ?_
      exact Keeps.refl _ _
    · exact Keeps.refl _ _
  · exact Keeps.refl _ _

theorem xferCrossed_keeps (s : State) (x1 x2 : Nat) (x3 : Bool) :
    Keeps 633825300114114699769065504638 s (xferCrossed s x1 x2 x3) := by
  unfold xferCrossed
  refine Keeps.step (xferPump_keeps ..) rfl ?_
  refine Keeps.foldl (fun _ _ => ?_) _ _ ?_
  · split
    · refine Keeps.step (mapDesc_keeps ..) rfl ?_
      exact Keeps.refl _ _
    · exact Keeps.refl _ _
  · exact Keeps.refl _ _

theorem flitIn_keeps (s : State) (x1 : List Nat) : Keeps 1024 s (flitIn s x1) := by
  unfold flitIn
  refine Keeps.step (Keeps.put_stitch ..) rfl ?_
  exact Keeps.refl _ _

theorem hostFill_keeps (s : State) (x1 x2 : Nat) : Keeps 633825300114114699719871629090 s ((hostFill s x1 x2).getD s) := by
  unfold hostFill
  split
  · exact Keeps.refl _ _
  · refine Keeps.step (setHold_keeps ..) rfl ?_
    refine Keeps.step (readWords_keeps ..) rfl ?_
    exact Keeps.refl _ _

theorem answer_keeps (s : State) (x1 x2 x3 : Nat) (x4 : List Nat) : Keeps 65536 s (answer s x1 x2 x3 x4) := by
  unfold answer
  refine Keeps.step (Keeps.put_txn ..) rfl ?_
  exact Keeps.refl _ _

theorem ownAmo_keeps (s : State) (x1 x2 x3 x4 x5 : Nat) : Keeps 633825300114114699769065504622 s (ownAmo s x1 x2 x3 x4 x5) := by
  unfold ownAmo
  refine Keeps.ite ?_ ?_
  · refine Keeps.step (answer_keeps ..) rfl ?_
    refine Keeps.step (windowAtomic_keeps ..) rfl ?_
    exact Keeps.refl _ _
  · refine Keeps.step (State.accFault_keeps ..) rfl ?_
    refine Keeps.step (windowAtomic_keeps ..) rfl ?_
    exact Keeps.refl _ _

theorem amoCrossed_keeps (s : State) (x1 x2 x3 : Nat) :
    Keeps 633825300114114699769065504622 s ((amoCrossed s x1 x2 x3).getD s) := by
  unfold amoCrossed
  unfold Option.map
  split
  · refine Keeps.step (ownAmo_keeps ..) rfl ?_
    refine Keeps.step (Keeps.put_stitch ..) rfl ?_
    exact Keeps.refl _ _
  · exact Keeps.refl _ _

theorem flitOut_keeps (s : State) (x1 : List Nat) : Keeps 1024 s (flitOut s x1) := by
  unfold flitOut
  refine Keeps.step (Keeps.put_stitch ..) rfl ?_
  exact Keeps.refl _ _

theorem execFieldPageAccessDone_keeps (x0 : By) (x1 x2 : Nat) (x3 : Bool) (s : State) :
    OutKeeps 633825300114114699769065504638 s (execFieldPageAccessDone x0 x1 x2 x3 s) := by
  unfold execFieldPageAccessDone
  refine OutKeeps.next ?_
  refine Keeps.ite ?_ ?_
  · exact Keeps.refl _ _
  · refine Keeps.ite ?_ ?_
    · refine Keeps.step (xferCrossed_keeps ..) rfl ?_
      refine Keeps.step (fieldFlit_keeps ..) rfl ?_
      refine Keeps.step (flitIn_keeps ..) rfl ?_
      refine Keeps.ite ?_ ?_
      · exact Keeps.refl _ _
      · refine Keeps.step (flitOut_keeps ..) rfl ?_
        exact Keeps.refl _ _
    · refine Keeps.ite ?_ ?_
      · split
        · refine Keeps.step (busStore_keeps ..) rfl ?_
          refine Keeps.step (Keeps.put_stitch ..) rfl ?_
          refine Keeps.step (fieldFlit_keeps ..) rfl ?_
          refine Keeps.step (flitIn_keeps ..) rfl ?_
          refine Keeps.ite ?_ ?_
          · exact Keeps.refl _ _
          · refine Keeps.step (flitOut_keeps ..) rfl ?_
            exact Keeps.refl _ _
        · refine Keeps.step (fieldFlit_keeps ..) rfl ?_
          refine Keeps.step (flitIn_keeps ..) rfl ?_
          refine Keeps.ite ?_ ?_
          · exact Keeps.refl _ _
          · refine Keeps.step (flitOut_keeps ..) rfl ?_
            exact Keeps.refl _ _
      · refine Keeps.ite ?_ ?_
        · refine Keeps.step (hostFill_keeps ..) rfl ?_
          refine Keeps.step (fieldFlit_keeps ..) rfl ?_
          refine Keeps.step (flitIn_keeps ..) rfl ?_
          refine Keeps.ite ?_ ?_
          · exact Keeps.refl _ _
          · refine Keeps.step (flitOut_keeps ..) rfl ?_
            exact Keeps.refl _ _
        · split
          · rename_i hq1
            refine Keeps.step (Keeps.of_getD hq1 (amoCrossed_keeps ..)) rfl ?_
            refine Keeps.step (fieldFlit_keeps ..) rfl ?_
            refine Keeps.step (flitIn_keeps ..) rfl ?_
            refine Keeps.ite ?_ ?_
            · exact Keeps.refl _ _
            · refine Keeps.step (flitOut_keeps ..) rfl ?_
              exact Keeps.refl _ _
          · unfold readTo
            refine Keeps.step (Keeps.put_stitch ..) rfl ?_
            refine Keeps.step (busRead_keeps ..) rfl ?_
            refine Keeps.step (fieldFlit_keeps ..) rfl ?_
            refine Keeps.step (flitIn_keeps ..) rfl ?_
            refine Keeps.ite ?_ ?_
            · exact Keeps.refl _ _
            · refine Keeps.step (flitOut_keeps ..) rfl ?_
              exact Keeps.refl _ _

theorem execFifoRead_keeps (x0 : By) (s : State) : OutKeeps 633825300114114699719871563554 s (execFifoRead x0 s) := by
  unfold execFifoRead
  refine OutKeeps.next ?_
  refine Keeps.ite ?_ ?_
  · unfold readTo
    refine Keeps.step (Keeps.put_stitch ..) rfl ?_
    refine Keeps.step (busRead_keeps ..) rfl ?_
    exact Keeps.refl _ _
  · exact Keeps.refl _ _

theorem driftCmd_keeps (s : State) (x1 : By) (x2 x3 x4 : Nat) :
    Keeps 633825300114114699769065503598 s (driftCmd s x1 x2 x3 x4) := by
  unfold driftCmd
  refine Keeps.step (busStore_keeps ..) rfl ?_
  exact Keeps.refl _ _

theorem execFind_keeps (x0 : By) (s : State) : OutKeeps 633825300114114699769065503598 s (execFind x0 s) := by
  unfold execFind
  refine OutKeeps.next ?_
  refine Keeps.step (driftCmd_keeps ..) rfl ?_
  exact Keeps.refl _ _

theorem execFlapHoldEnd_keeps (x0 x1 : Nat) (s : State) : OutKeeps 36283883722754 s (execFlapHoldEnd x0 x1 s) := by
  unfold execFlapHoldEnd
  refine OutKeeps.next ?_
  refine Keeps.ite ?_ ?_
  · refine Keeps.step (setLaneState_keeps ..) rfl ?_
    refine Keeps.step (State.atTime_keeps ..) rfl ?_
    exact Keeps.refl _ _
  · exact Keeps.refl _ _

theorem execFlashDone_keeps (x0 : Bool) (s : State) : OutKeeps 5243487006321758176018 s (execFlashDone x0 s) := by
  unfold execFlashDone
  refine OutKeeps.next ?_
  refine Keeps.ite ?_ ?_
  · split
    · exact Keeps.refl _ _
    · refine Keeps.step (flashResult_keeps ..) rfl ?_
      refine Keeps.ite ?_ ?_
      · refine Keeps.step (flashUnknown_keeps ..) rfl ?_
        refine Keeps.step (State.wr_keeps 72 group_flash ..) rfl ?_
        refine Keeps.step (Keeps.put_ports ..) rfl ?_
        exact Keeps.refl _ _
      · refine Keeps.ite ?_ ?_
        · refine Keeps.step (flashProgram_keeps ..) rfl ?_
          refine Keeps.step (State.wr_keeps 72 group_flash ..) rfl ?_
          refine Keeps.step (Keeps.put_ports ..) rfl ?_
          exact Keeps.refl _ _
        · refine Keeps.step (flashErase_keeps ..) rfl ?_
          refine Keeps.step (State.wr_keeps 72 group_flash ..) rfl ?_
          refine Keeps.step (Keeps.put_ports ..) rfl ?_
          exact Keeps.refl _ _
  · exact Keeps.refl _ _

theorem execFlush_keeps (x0 : Nat) (x1 : By) (s : State) : OutKeeps 633825300114114699769065503598 s (execFlush x0 x1 s) := by
  unfold execFlush
  refine OutKeeps.next ?_
  refine Keeps.step (qCmdWrite_keeps ..) rfl ?_
  exact Keeps.refl _ _

theorem execFlushInq_keeps (x0 : Nat) (x1 : By) (s : State) : OutKeeps 633825300114114699769065503598 s (execFlushInq x0 x1 s) := by
  unfold execFlushInq
  refine OutKeeps.next ?_
  refine Keeps.step (busStore_keeps ..) rfl ?_
  exact Keeps.refl _ _

theorem execFlushOutq_keeps (x0 : Nat) (x1 : By) (s : State) :
    OutKeeps 633825300114114699769065503598 s (execFlushOutq x0 x1 s) := by
  unfold execFlushOutq
  refine OutKeeps.next ?_
  refine Keeps.step (busStore_keeps ..) rfl ?_
  exact Keeps.refl _ _

theorem execForceSafe_keeps (x0 : Nat) (x1 : By) (s : State) :
    OutKeeps 633825300114114699769065503598 s (execForceSafe x0 x1 s) := by
  unfold execForceSafe
  refine OutKeeps.next ?_
  refine Keeps.step (chOutSet_keeps ..) rfl ?_
  exact Keeps.refl _ _

theorem State.emit_keeps (s : State) (x1 : Nat) (x2 : Frame) : Keeps 64 s (State.emit s x1 x2) := by
  unfold State.emit
  refine Keeps.step (Keeps.put_wire ..) rfl ?_
  exact Keeps.refl _ _

theorem transmitEnd_keeps (s : State) (x1 x2 : Nat) : Keeps 521121403061146763970 s (transmitEnd s x1 x2) := by
  unfold transmitEnd
  split
  · exact Keeps.refl _ _
  · refine Keeps.step (sendOver_keeps ..) rfl ?_
    refine Keeps.ite ?_ ?_
    · refine Keeps.step (alert_keeps ..) rfl ?_
      refine Keeps.step (State.inc_keeps 48 group_swport ..) rfl ?_
      refine Keeps.ite ?_ ?_
      · refine Keeps.step (State.inc_keeps 45 group_lane ..) rfl ?_
        refine Keeps.ite ?_ ?_
        · refine Keeps.step (State.emit_keeps ..) rfl ?_
          refine Keeps.step (releaseEntry_keeps ..) rfl ?_
          refine Keeps.step (State.inc_keeps 48 group_swport ..) rfl ?_
          refine Keeps.step (shapeTo_keeps ..) rfl ?_
          exact Keeps.refl _ _
        · refine Keeps.step (Keeps.put_delivered ..) rfl ?_
          refine Keeps.step (releaseEntry_keeps ..) rfl ?_
          refine Keeps.step (State.inc_keeps 48 group_swport ..) rfl ?_
          refine Keeps.step (shapeTo_keeps ..) rfl ?_
          exact Keeps.refl _ _
      · refine Keeps.ite ?_ ?_
        · refine Keeps.step (State.emit_keeps ..) rfl ?_
          refine Keeps.step (releaseEntry_keeps ..) rfl ?_
          refine Keeps.step (State.inc_keeps 48 group_swport ..) rfl ?_
          refine Keeps.step (shapeTo_keeps ..) rfl ?_
          exact Keeps.refl _ _
        · refine Keeps.step (Keeps.put_delivered ..) rfl ?_
          refine Keeps.step (releaseEntry_keeps ..) rfl ?_
          refine Keeps.step (State.inc_keeps 48 group_swport ..) rfl ?_
          refine Keeps.step (shapeTo_keeps ..) rfl ?_
          exact Keeps.refl _ _
    · refine Keeps.ite ?_ ?_
      · refine Keeps.step (State.inc_keeps 45 group_lane ..) rfl ?_
        refine Keeps.ite ?_ ?_
        · refine Keeps.step (State.emit_keeps ..) rfl ?_
          refine Keeps.step (releaseEntry_keeps ..) rfl ?_
          refine Keeps.step (State.inc_keeps 48 group_swport ..) rfl ?_
          refine Keeps.step (shapeTo_keeps ..) rfl ?_
          exact Keeps.refl _ _
        · refine Keeps.step (Keeps.put_delivered ..) rfl ?_
          refine Keeps.step (releaseEntry_keeps ..) rfl ?_
          refine Keeps.step (State.inc_keeps 48 group_swport ..) rfl ?_
          refine Keeps.step (shapeTo_keeps ..) rfl ?_
          exact Keeps.refl _ _
      · refine Keeps.ite ?_ ?_
        · refine Keeps.step (State.emit_keeps ..) rfl ?_
          refine Keeps.step (releaseEntry_keeps ..) rfl ?_
          refine Keeps.step (State.inc_keeps 48 group_swport ..) rfl ?_
          refine Keeps.step (shapeTo_keeps ..) rfl ?_
          exact Keeps.refl _ _
        · refine Keeps.step (Keeps.put_delivered ..) rfl ?_
          refine Keeps.step (releaseEntry_keeps ..) rfl ?_
          refine Keeps.step (State.inc_keeps 48 group_swport ..) rfl ?_
          refine Keeps.step (shapeTo_keeps ..) rfl ?_
          exact Keeps.refl _ _

theorem transmitEndFull_keeps (s : State) (x1 x2 : Nat) : Keeps 1701731038177134789570 s (transmitEndFull s x1 x2) := by
  unfold transmitEndFull
  refine Keeps.ite ?_ ?_
  · split
    · exact Keeps.refl _ _
    · refine Keeps.step (txComplete_keeps ..) rfl ?_
      refine Keeps.step (State.inc_keeps 70 group_eth ..) rfl ?_
      refine Keeps.step (transmitEnd_keeps ..) rfl ?_
      exact Keeps.refl _ _
  · refine Keeps.step (transmitEnd_keeps ..) rfl ?_
    exact Keeps.refl _ _

theorem execFrameTransmitEnd_keeps (x0 x1 : Nat) (s : State) :
    OutKeeps 1701731038177134799810 s (execFrameTransmitEnd x0 x1 s) := by
  unfold execFrameTransmitEnd
  refine OutKeeps.next ?_
  refine Keeps.ite ?_ ?_
  · refine Keeps.step (dumpPump_keeps ..) rfl ?_
    refine Keeps.step (transmitEndFull_keeps ..) rfl ?_
    refine Keeps.step (State.atTime_keeps ..) rfl ?_
    exact Keeps.refl _ _
  · exact Keeps.refl _ _

theorem pumpOffers_keeps (s : State) : Keeps 521121367876774683138 s (pumpOffers s) := by
  unfold pumpOffers
  refine Keeps.foldl (fun _ _ => ?_) _ _ ?_
  · refine Keeps.ite ?_ ?_
    · refine Keeps.step (offerTry_keeps ..) rfl ?_
      exact Keeps.refl _ _
    · refine Keeps.step (Keeps.put_sw ..) rfl ?_
      refine Keeps.step (offerTry_keeps ..) rfl ?_
      exact Keeps.refl _ _
  · refine Keeps.step (Keeps.put_sw ..) rfl ?_
    exact Keeps.refl _ _

theorem purgeHead_keeps (s : State) (x1 x2 fuel : Nat) : Keeps 521121367876774674946 s (purgeHead s x1 x2 fuel) := by
  induction fuel generalizing s with
  | zero => exact Keeps.refl _ _
  | succ n ih =>
    have h : ∀ q r e (f : Fld) (k : Nat), Keeps 521121367876774674946 s
        (alert ((releaseEntry (setSwQueue s q r) q e).inc (P.swport x1) f) x1 k) := fun q r e f k => by
      refine Keeps.step (alert_keeps ..) rfl ?_
      refine Keeps.step (State.inc_keeps 48 group_swport ..) rfl ?_
      refine Keeps.step (releaseEntry_keeps ..) rfl ?_
      exact Keeps.step (setSwQueue_keeps ..) rfl (Keeps.refl _ _)
    unfold purgeHead
    dsimp only
    split
    · exact Keeps.refl _ _
    · refine Keeps.ite ((h ..).trans (ih ..)) (Keeps.ite ((h ..).trans (ih ..)) (Keeps.refl _ _))

theorem transmitStart_keeps (s : State) (x1 x2 : Nat) : Keeps 521121367876774674946 s (transmitStart s x1 x2) := by
  unfold transmitStart
  refine Keeps.ite ?_ ?_
  · exact Keeps.refl _ _
  · dsimp only
    split
    · refine Keeps.each (fun _ _ => ?_) ?_
      · refine Keeps.step (purgeHead_keeps ..) rfl ?_
        exact Keeps.refl _ _
      · refine Keeps.step (shapeTo_keeps ..) rfl ?_
        exact Keeps.refl _ _
    · split
      · refine Keeps.each (fun _ _ => ?_) ?_
        · refine Keeps.step (purgeHead_keeps ..) rfl ?_
          exact Keeps.refl _ _
        · refine Keeps.step (shapeTo_keeps ..) rfl ?_
          exact Keeps.refl _ _
      · refine Keeps.step (State.wr_keeps 48 group_swport ..) rfl ?_
        refine Keeps.step (Keeps.put_sw ..) rfl ?_
        refine Keeps.step (setSwQueue_keeps ..) rfl ?_
        refine Keeps.each (fun _ _ => ?_) ?_
        · refine Keeps.step (purgeHead_keeps ..) rfl ?_
          exact Keeps.refl _ _
        · refine Keeps.step (shapeTo_keeps ..) rfl ?_
          exact Keeps.refl _ _

theorem execFrameTransmitStart_keeps (x0 x1 : Nat) (s : State) :
    OutKeeps 521121367876774685186 s (execFrameTransmitStart x0 x1 s) := by
  unfold execFrameTransmitStart
  refine OutKeeps.next ?_
  refine Keeps.ite ?_ ?_
  · refine Keeps.step (transmitStart_keeps ..) rfl ?_
    refine Keeps.step (pumpOffers_keeps ..) rfl ?_
    refine Keeps.step (State.atTime_keeps ..) rfl ?_
    exact Keeps.refl _ _
  · exact Keeps.refl _ _

theorem execFree_keeps (x0 : By) (x1 : Nat) (s : State) : OutKeeps 633825300114114699769065503598 s (execFree x0 x1 s) := by
  unfold execFree
  refine OutKeeps.next ?_
  refine Keeps.step (driftCmd_keeps ..) rfl ?_
  exact Keeps.refl _ _

theorem execFreshAckRepeat_keeps (x0 : Nat) (s : State) : OutKeeps 521247468666341188098 s (execFreshAckRepeat x0 s) := by
  unfold execFreshAckRepeat
  refine OutKeeps.next ?_
  refine Keeps.ite ?_ ?_
  · refine Keeps.step (sesDone_keeps ..) rfl ?_
    refine Keeps.step (sendAck_keeps ..) rfl ?_
    exact Keeps.refl _ _
  · exact Keeps.refl _ _

theorem wdtAgain_keeps (s : State) (x1 : Nat) : Keeps 4294967296 s (wdtAgain s x1) := by
  unfold wdtAgain
  refine Keeps.step (wdtRestart_keeps ..) rfl ?_
  exact Keeps.refl _ _

theorem execFwdtExpiry_keeps (x0 : Nat) (s : State) : OutKeeps 39614232893980144081558307330 s (execFwdtExpiry x0 s) := by
  unfold execFwdtExpiry
  refine OutKeeps.next ?_
  refine Keeps.ite ?_ ?_
  · exact Keeps.refl _ _
  · refine Keeps.ite ?_ ?_
    · refine Keeps.step (requestWarm_keeps ..) rfl ?_
      refine Keeps.step (wdtAgain_keeps ..) rfl ?_
      exact Keeps.refl _ _
    · refine Keeps.step (countRaise_keeps 77 group_cores ..) rfl ?_
      refine Keeps.step (State.setBit_keeps 77 group_cores ..) rfl ?_
      refine Keeps.step (wdtAgain_keeps ..) rfl ?_
      exact Keeps.refl _ _

theorem execFwdtKick_keeps (x0 : By) (x1 x2 : Nat) (s : State) :
    OutKeeps 633825300114114699769065503598 s (execFwdtKick x0 x1 x2 s) := by
  unfold execFwdtKick
  refine OutKeeps.next ?_
  refine Keeps.step (busStore_keeps ..) rfl ?_
  exact Keeps.refl _ _

theorem execGateChange_keeps (x0 x1 : Nat) (s : State) : OutKeeps 282574488356866 s (execGateChange x0 x1 s) := by
  unfold execGateChange
  refine OutKeeps.next ?_
  refine Keeps.ite ?_ ?_
  · refine Keeps.step (State.wr_keeps 48 group_swport ..) rfl ?_
    refine Keeps.step (shapeTo_keeps ..) rfl ?_
    refine Keeps.step (State.atTime_keeps ..) rfl ?_
    exact Keeps.refl _ _
  · exact Keeps.refl _ _

theorem pdWrite_keeps (s : State) (x1 : Nat) (x2 : By) (x3 : Nat) :
    Keeps 633825300114114699769065503598 s (pdWrite s x1 x2 x3) := by
  unfold pdWrite
  refine Keeps.step (busStore_keeps ..) rfl ?_
  exact Keeps.refl _ _

theorem execGetSrcCap_keeps (x0 : Nat) (x1 : By) (s : State) :
    OutKeeps 633825300114114699769065503598 s (execGetSrcCap x0 x1 s) := by
  unfold execGetSrcCap
  refine OutKeeps.next ?_
  refine Keeps.step (pdWrite_keeps ..) rfl ?_
  exact Keeps.refl _ _

theorem execGwResetDeferExpiry_keeps (x0 : Nat) (s : State) :
    OutKeeps 39614081778252692248616503810 s (execGwResetDeferExpiry x0 s) := by
  unfold execGwResetDeferExpiry
  refine OutKeeps.next ?_
  refine Keeps.ite ?_ ?_
  · refine Keeps.step (deferDropped_keeps ..) rfl ?_
    refine Keeps.step (State.wr_keeps 95 (.inl rfl) ..) rfl ?_
    refine Keeps.step (Keeps.put_node ..) rfl ?_
    refine Keeps.step (State.atTime_keeps ..) rfl ?_
    exact Keeps.refl _ _
  · exact Keeps.refl _ _

theorem execHaloEntryAged_keeps (x0 x1 x2 : Nat) (s : State) : OutKeeps 71468255815682 s (execHaloEntryAged x0 x1 x2 s) := by
  unfold execHaloEntryAged
  refine OutKeeps.next ?_
  refine Keeps.ite ?_ ?_
  · refine Keeps.step (State.inc_keeps 46 group_halo ..) rfl ?_
    refine Keeps.step (setHaloEnt_keeps ..) rfl ?_
    refine Keeps.step (State.atTime_keeps ..) rfl ?_
    exact Keeps.refl _ _
  · exact Keeps.refl _ _

theorem handoffTimeouts_keeps (s : State) : Keeps 522688620547100271362 s (handoffTimeouts s) := by
  unfold handoffTimeouts
  refine Keeps.ite ?_ ?_
  · exact Keeps.refl _ _
  · refine Keeps.step (settleEdges_keeps ..) rfl ?_
    refine Keeps.foldl (fun _ _ => ?_) _ _ ?_
    · refine Keeps.ite ?_ ?_
      · refine Keeps.step (handoffFail_keeps ..) rfl ?_
        refine Keeps.step (crcCheck_keeps ..) rfl ?_
        exact Keeps.refl _ _
      · refine Keeps.step (crcCheck_keeps ..) rfl ?_
        exact Keeps.refl _ _
    · exact Keeps.refl _ _

theorem execHandoffTimeout_keeps (s : State) : OutKeeps 522688620547100271362 s (execHandoffTimeout s) := by
  unfold execHandoffTimeout
  refine OutKeeps.next ?_
  refine Keeps.ite ?_ ?_
  · refine Keeps.step (handoffTimeouts_keeps ..) rfl ?_
    exact Keeps.refl _ _
  · exact Keeps.refl _ _

theorem execHandoverDone_keeps (s : State) : OutKeeps 521129530651099267586 s (execHandoverDone s) := by
  unfold execHandoverDone
  refine OutKeeps.next ?_
  refine Keeps.ite ?_ ?_
  · refine Keeps.step (raise_keeps ..) rfl ?_
    refine Keeps.step (State.wr_keeps 53 group_gw ..) rfl ?_
    exact Keeps.refl _ _
  · exact Keeps.refl _ _

theorem execHardReset_keeps (x0 : Nat) (x1 : By) (s : State) :
    OutKeeps 633825300114114699769065503598 s (execHardReset x0 x1 s) := by
  unfold execHardReset
  refine OutKeeps.next ?_
  refine Keeps.step (pdWrite_keeps ..) rfl ?_
  exact Keeps.refl _ _

theorem execHardResetReceived_keeps (x0 : Nat) (s : State) : OutKeeps 115038517830956604291906 s (execHardResetReceived x0 s) := by
  unfold execHardResetReceived
  refine OutKeeps.next ?_
  refine Keeps.ite ?_ ?_
  · refine Keeps.step (hardReset_keeps ..) rfl ?_
    exact Keeps.refl _ _
  · exact Keeps.refl _ _

theorem coresTold_keeps (s : State) (x1 : Nat) (x2 : Bool) : Keeps 151115727452932453433346 s (coresTold s x1 x2) := by
  unfold coresTold
  refine Keeps.step (wdtsFollow_keeps ..) rfl ?_
  refine Keeps.step (setCore_keeps ..) rfl ?_
  refine Keeps.each (fun _ _ => ?_) ?_
  · refine Keeps.step (State.setBit_keeps 77 group_cores ..) rfl ?_
    refine Keeps.step (State.setBit_keeps 77 group_cores ..) rfl ?_
    exact Keeps.refl _ _
  · exact Keeps.refl _ _

theorem execHartEn_keeps (x0 : By) (x1 : Nat) (x2 : Bool) (s : State) :
    OutKeeps 633825300114114699769065503598 s (execHartEn x0 x1 x2 s) := by
  unfold execHartEn
  refine OutKeeps.next ?_
  refine Keeps.ite ?_ ?_
  · refine Keeps.ite ?_ ?_
    · refine Keeps.step (coresTold_keeps ..) rfl ?_
      exact Keeps.refl _ _
    · exact Keeps.refl _ _
  · refine Keeps.step (busStore_keeps ..) rfl ?_
    exact Keeps.refl _ _

theorem execHeartbeatFlit_keeps (x0 : Nat) (x1 : Bool) (s : State) : OutKeeps 3072 s (execHeartbeatFlit x0 x1 s) := by
  unfold execHeartbeatFlit
  refine OutKeeps.next ?_
  refine Keeps.ite ?_ ?_
  · refine Keeps.ite ?_ ?_
    · refine Keeps.step (flitIn_keeps ..) rfl ?_
      refine Keeps.step (flitArrives_keeps ..) rfl ?_
      refine Keeps.step (flitOut_keeps ..) rfl ?_
      refine Keeps.step (State.atTime_keeps ..) rfl ?_
      exact Keeps.refl _ _
    · refine Keeps.step (flitOut_keeps ..) rfl ?_
      refine Keeps.step (State.atTime_keeps ..) rfl ?_
      exact Keeps.refl _ _
  · exact Keeps.refl _ _

theorem laneFault_keeps (s : State) (x1 x2 : Nat) : Keeps 521120558636216619522 s (laneFault s x1 x2) := by
  unfold laneFault
  refine Keeps.ite ?_ ?_
  · refine Keeps.step (laneCause_keeps ..) rfl ?_
    exact Keeps.refl _ _
  · refine Keeps.step (raise_keeps ..) rfl ?_
    refine Keeps.step (setLaneState_keeps ..) rfl ?_
    refine Keeps.step (laneCause_keeps ..) rfl ?_
    exact Keeps.refl _ _

end Sys2Proof.Machine
end

