-- ==== Sys2Proof/Laws/KeepsE.lean ====
section
/-!
SUPPORT. What each operation can change, part 5 of 6: one lemma per operation and per meaning, callees first.
-/

namespace Sys2Proof.Machine

theorem sendHello_keeps (s : State) (x1 : Nat) : Keeps 36283883716674 s (sendHello s x1) := by
  unfold sendHello
  refine Keeps.step (State.inc_keeps 45 group_lane ..) rfl ?_
  refine Keeps.step (State.emit_keeps ..) rfl ?_
  exact Keeps.refl _ _

theorem goUp_keeps (s : State) (x1 : Nat) : Keeps 77371775729530318955903810 s (goUp s x1) := by
  unfold goUp
  refine Keeps.step (takeAddress_keeps ..) rfl ?_
  refine Keeps.ite ?_ ?_
  · refine Keeps.step (linkNotice_keeps ..) rfl ?_
    refine Keeps.ite ?_ ?_
    · refine Keeps.step (Keeps.put_node ..) rfl ?_
      refine Keeps.step (raise_keeps ..) rfl ?_
      refine Keeps.step (sendHello_keeps ..) rfl ?_
      refine Keeps.step (State.setLane_keeps ..) rfl ?_
      refine Keeps.step (setLaneState_keeps ..) rfl ?_
      exact Keeps.refl _ _
    · refine Keeps.step (raise_keeps ..) rfl ?_
      refine Keeps.step (sendHello_keeps ..) rfl ?_
      refine Keeps.step (State.setLane_keeps ..) rfl ?_
      refine Keeps.step (setLaneState_keeps ..) rfl ?_
      exact Keeps.refl _ _
  · refine Keeps.ite ?_ ?_
    · refine Keeps.step (Keeps.put_node ..) rfl ?_
      refine Keeps.step (raise_keeps ..) rfl ?_
      refine Keeps.step (sendHello_keeps ..) rfl ?_
      refine Keeps.step (State.setLane_keeps ..) rfl ?_
      refine Keeps.step (setLaneState_keeps ..) rfl ?_
      exact Keeps.refl _ _
    · refine Keeps.step (raise_keeps ..) rfl ?_
      refine Keeps.step (sendHello_keeps ..) rfl ?_
      refine Keeps.step (State.setLane_keeps ..) rfl ?_
      refine Keeps.step (setLaneState_keeps ..) rfl ?_
      exact Keeps.refl _ _

theorem judgeReversal_keeps (s : State) : Keeps 77371775729530318955903810 s (judgeReversal s) := by
  unfold judgeReversal
  refine Keeps.ite ?_ ?_
  · refine Keeps.foldl (fun _ _ => ?_) _ _ ?_
    · refine Keeps.ite ?_ ?_
      · exact Keeps.refl _ _
      · refine Keeps.step (goUp_keeps ..) rfl ?_
        exact Keeps.refl _ _
    · refine Keeps.each (fun _ _ => ?_) ?_
      · refine Keeps.step (State.wr_keeps 45 group_lane ..) rfl ?_
        exact Keeps.refl _ _
      · exact Keeps.refl _ _
  · exact Keeps.refl _ _

theorem onHello_keeps (s : State) (x1 : Nat) (x2 : Frame) : Keeps 77371775729530318955903810 s (onHello s x1 x2) := by
  unfold onHello
  refine Keeps.step (takeAddress_keeps ..) rfl ?_
  refine Keeps.step (judgeReversal_keeps ..) rfl ?_
  refine Keeps.ite ?_ ?_
  · refine Keeps.step (sendHello_keeps ..) rfl ?_
    split
    · refine Keeps.ite ?_ ?_
      · refine Keeps.step (laneFault_keeps ..) rfl ?_
        refine Keeps.step (State.setLane_keeps ..) rfl ?_
        refine Keeps.step (State.wr64_keeps 45 group_lane group_lane ..) rfl ?_
        refine Keeps.step (State.wr_keeps 45 group_lane ..) rfl ?_
        refine Keeps.step (State.wr_keeps 45 group_lane ..) rfl ?_
        refine Keeps.step (State.wr_keeps 45 group_lane ..) rfl ?_
        refine Keeps.step (State.wr_keeps 45 group_lane ..) rfl ?_
        exact Keeps.refl _ _
      · refine Keeps.step (laneCause_keeps ..) rfl ?_
        refine Keeps.step (State.setLane_keeps ..) rfl ?_
        refine Keeps.step (State.wr64_keeps 45 group_lane group_lane ..) rfl ?_
        refine Keeps.step (State.wr_keeps 45 group_lane ..) rfl ?_
        refine Keeps.step (State.wr_keeps 45 group_lane ..) rfl ?_
        refine Keeps.step (State.wr_keeps 45 group_lane ..) rfl ?_
        refine Keeps.step (State.wr_keeps 45 group_lane ..) rfl ?_
        exact Keeps.refl _ _
    · refine Keeps.ite ?_ ?_
      · refine Keeps.step (goUp_keeps ..) rfl ?_
        refine Keeps.step (State.setLane_keeps ..) rfl ?_
        refine Keeps.step (State.wr64_keeps 45 group_lane group_lane ..) rfl ?_
        refine Keeps.step (State.wr_keeps 45 group_lane ..) rfl ?_
        refine Keeps.step (State.wr_keeps 45 group_lane ..) rfl ?_
        refine Keeps.step (State.wr_keeps 45 group_lane ..) rfl ?_
        refine Keeps.step (State.wr_keeps 45 group_lane ..) rfl ?_
        exact Keeps.refl _ _
      · refine Keeps.step (State.setLane_keeps ..) rfl ?_
        refine Keeps.step (State.wr64_keeps 45 group_lane group_lane ..) rfl ?_
        refine Keeps.step (State.wr_keeps 45 group_lane ..) rfl ?_
        refine Keeps.step (State.wr_keeps 45 group_lane ..) rfl ?_
        refine Keeps.step (State.wr_keeps 45 group_lane ..) rfl ?_
        refine Keeps.step (State.wr_keeps 45 group_lane ..) rfl ?_
        exact Keeps.refl _ _
  · split
    · refine Keeps.ite ?_ ?_
      · refine Keeps.step (laneFault_keeps ..) rfl ?_
        refine Keeps.step (State.setLane_keeps ..) rfl ?_
        refine Keeps.step (State.wr64_keeps 45 group_lane group_lane ..) rfl ?_
        refine Keeps.step (State.wr_keeps 45 group_lane ..) rfl ?_
        refine Keeps.step (State.wr_keeps 45 group_lane ..) rfl ?_
        refine Keeps.step (State.wr_keeps 45 group_lane ..) rfl ?_
        refine Keeps.step (State.wr_keeps 45 group_lane ..) rfl ?_
        exact Keeps.refl _ _
      · refine Keeps.step (laneCause_keeps ..) rfl ?_
        refine Keeps.step (State.setLane_keeps ..) rfl ?_
        refine Keeps.step (State.wr64_keeps 45 group_lane group_lane ..) rfl ?_
        refine Keeps.step (State.wr_keeps 45 group_lane ..) rfl ?_
        refine Keeps.step (State.wr_keeps 45 group_lane ..) rfl ?_
        refine Keeps.step (State.wr_keeps 45 group_lane ..) rfl ?_
        refine Keeps.step (State.wr_keeps 45 group_lane ..) rfl ?_
        exact Keeps.refl _ _
    · refine Keeps.ite ?_ ?_
      · refine Keeps.step (goUp_keeps ..) rfl ?_
        refine Keeps.step (State.setLane_keeps ..) rfl ?_
        refine Keeps.step (State.wr64_keeps 45 group_lane group_lane ..) rfl ?_
        refine Keeps.step (State.wr_keeps 45 group_lane ..) rfl ?_
        refine Keeps.step (State.wr_keeps 45 group_lane ..) rfl ?_
        refine Keeps.step (State.wr_keeps 45 group_lane ..) rfl ?_
        refine Keeps.step (State.wr_keeps 45 group_lane ..) rfl ?_
        exact Keeps.refl _ _
      · refine Keeps.step (State.setLane_keeps ..) rfl ?_
        refine Keeps.step (State.wr64_keeps 45 group_lane group_lane ..) rfl ?_
        refine Keeps.step (State.wr_keeps 45 group_lane ..) rfl ?_
        refine Keeps.step (State.wr_keeps 45 group_lane ..) rfl ?_
        refine Keeps.step (State.wr_keeps 45 group_lane ..) rfl ?_
        refine Keeps.step (State.wr_keeps 45 group_lane ..) rfl ?_
        exact Keeps.refl _ _

theorem execHello_keeps (x0 : Nat) (x1 : Frame) (s : State) : OutKeeps 77371775729530318955903810 s (execHello x0 x1 s) := by
  unfold execHello
  refine OutKeeps.next ?_
  refine Keeps.ite ?_ ?_
  · refine Keeps.step (onHello_keeps ..) rfl ?_
    refine Keeps.step (rxCount_keeps ..) rfl ?_
    exact Keeps.refl _ _
  · exact Keeps.refl _ _

theorem execHelloSend_keeps (x0 : Nat) (s : State) : OutKeeps 36283883716674 s (execHelloSend x0 s) := by
  unfold execHelloSend
  refine OutKeeps.next ?_
  refine Keeps.ite ?_ ?_
  · refine Keeps.step (sendHello_keeps ..) rfl ?_
    exact Keeps.refl _ _
  · exact Keeps.refl _ _

theorem execHelloTimeout_keeps (x0 : Nat) (s : State) : OutKeeps 36283883720706 s (execHelloTimeout x0 s) := by
  unfold execHelloTimeout
  refine OutKeeps.next ?_
  refine Keeps.ite ?_ ?_
  · refine Keeps.step (setLaneState_keeps ..) rfl ?_
    refine Keeps.step (laneCause_keeps ..) rfl ?_
    exact Keeps.refl _ _
  · exact Keeps.refl _ _

theorem execHoldDone_keeps (x0 : Nat) (s : State) : OutKeeps 521121438245518862850 s (execHoldDone x0 s) := by
  unfold execHoldDone
  refine OutKeeps.next ?_
  refine Keeps.ite ?_ ?_
  · refine Keeps.step (pumpOffers_keeps ..) rfl ?_
    refine Keeps.ite ?_ ?_
    · refine Keeps.step (raise_keeps ..) rfl ?_
      refine Keeps.step (State.wr_keeps 46 group_halo ..) rfl ?_
      refine Keeps.step (State.wr_keeps 46 group_halo ..) rfl ?_
      refine Keeps.step (State.atTime_keeps ..) rfl ?_
      refine Keeps.ite ?_ ?_
      · refine Keeps.step (Keeps.put_halo ..) rfl ?_
        exact Keeps.refl _ _
      · exact Keeps.refl _ _
    · refine Keeps.step (State.atTime_keeps ..) rfl ?_
      refine Keeps.ite ?_ ?_
      · refine Keeps.step (Keeps.put_halo ..) rfl ?_
        exact Keeps.refl _ _
      · exact Keeps.refl _ _
  · exact Keeps.refl _ _

theorem orphan_keeps (s : State) (x1 : OrphEnt) : Keeps 521125027051471962626 s (orphan s x1) := by
  unfold orphan
  refine Keeps.ite ?_ ?_
  · refine Keeps.step (raise_keeps ..) rfl ?_
    refine Keeps.step (State.wr_keeps 52 group_txn ..) rfl ?_
    refine Keeps.step (State.inc_keeps 52 group_txn ..) rfl ?_
    refine Keeps.step (raise_keeps ..) rfl ?_
    refine Keeps.step (Keeps.put_txn ..) rfl ?_
    exact Keeps.refl _ _
  · refine Keeps.step (raise_keeps ..) rfl ?_
    refine Keeps.step (Keeps.put_txn ..) rfl ?_
    exact Keeps.refl _ _

theorem holdRelease_keeps (s : State) (x1 : Nat) : Keeps 521125027051471962626 s (holdRelease s x1) := by
  unfold holdRelease
  split
  · exact Keeps.refl _ _
  · split
    · exact Keeps.refl _ _
    · refine Keeps.ite ?_ ?_
      · exact Keeps.refl _ _
      · refine Keeps.ite ?_ ?_
        · refine Keeps.step (orphan_keeps ..) rfl ?_
          refine Keeps.step (setHold_keeps ..) rfl ?_
          exact Keeps.refl _ _
        · refine Keeps.step (State.inc_keeps 52 group_txn ..) rfl ?_
          refine Keeps.step (setHold_keeps ..) rfl ?_
          exact Keeps.refl _ _

theorem execHoldingSlotRelease_keeps (x0 : Nat) (s : State) : OutKeeps 521125027051471962626 s (execHoldingSlotRelease x0 s) := by
  unfold execHoldingSlotRelease
  refine OutKeeps.next ?_
  refine Keeps.ite ?_ ?_
  · refine Keeps.step (holdRelease_keeps ..) rfl ?_
    exact Keeps.refl _ _
  · exact Keeps.refl _ _

theorem holdTake_keeps (s : State) (x1 x2 x3 x4 x5 x6 x7 : Nat) : Keeps 65536 s (holdTake s x1 x2 x3 x4 x5 x6 x7) := by
  unfold holdTake
  refine Keeps.step (setHold_keeps ..) rfl ?_
  exact Keeps.refl _ _

theorem readFetch_keeps (s : State) (x1 x2 x3 x4 : Nat) : Keeps 521125871476402119170 s (readFetch s x1 x2 x3 x4) := by
  unfold readFetch
  split
  · exact Keeps.refl _ _
  · dsimp only
    split
    · refine Keeps.step (holdTake_keeps ..) rfl ?_
      exact Keeps.refl _ _
    · split
      · refine Keeps.step (holdTake_keeps ..) rfl ?_
        rename_i hq1
        refine Keeps.of_snd hq1 ?_
        refine Keeps.step (takeTag_keeps ..) rfl ?_
        exact Keeps.refl _ _
      · rename_i hq2
        refine Keeps.of_snd hq2 ?_
        refine Keeps.step (takeTag_keeps ..) rfl ?_
        exact Keeps.refl _ _

theorem hostSlot_keeps (s : State) (x1 x2 : Nat) : Keeps 65536 s (hostSlot s x1 x2).2 := by
  unfold hostSlot
  split
  · split
    · refine Keeps.step (setHold_keeps ..) rfl ?_
      exact Keeps.refl _ _
    · exact Keeps.refl _ _
  · split
    · refine Keeps.step (holdTake_keeps ..) rfl ?_
      exact Keeps.refl _ _
    · exact Keeps.refl _ _

theorem execHostAbort_keeps (x0 : Bool) (x1 x2 : Nat) (s : State) :
    OutKeeps 2882309112911224726018 s (execHostAbort x0 x1 x2 s) := by
  unfold execHostAbort
  refine OutKeeps.next ?_
  refine Keeps.ite ?_ ?_
  · refine Keeps.ite ?_ ?_
    · split
      · refine Keeps.ite ?_ ?_
        · refine Keeps.step (readFetch_keeps ..) rfl ?_
          refine Keeps.step (countRaise_keeps 71 group_host ..) rfl ?_
          refine Keeps.step (State.inc_keeps 71 group_host ..) rfl ?_
          exact Keeps.refl _ _
        · refine Keeps.step (countRaise_keeps 71 group_host ..) rfl ?_
          refine Keeps.step (State.inc_keeps 71 group_host ..) rfl ?_
          exact Keeps.refl _ _
      · refine Keeps.when (fun _ => ?_) ?_
        · refine Keeps.step (hostSlot_keeps ..) rfl ?_
          exact Keeps.refl _ _
        · refine Keeps.step (countRaise_keeps 71 group_host ..) rfl ?_
          refine Keeps.step (State.inc_keeps 71 group_host ..) rfl ?_
          exact Keeps.refl _ _
    · refine Keeps.step (countRaise_keeps 71 group_host ..) rfl ?_
      refine Keeps.step (State.inc_keeps 71 group_host ..) rfl ?_
      exact Keeps.refl _ _
  · exact Keeps.refl _ _

theorem remoteRead_keeps (s : State) (x1 x2 x3 x4 : Nat) : Keeps 521125871476402119170 s (remoteRead s x1 x2 x3 x4).2 := by
  unfold remoteRead
  split
  · split
    · refine Keeps.step (setHold_keeps ..) rfl ?_
      exact Keeps.refl _ _
    · exact Keeps.refl _ _
  · refine Keeps.ite_snd ?_ ?_
    · exact Keeps.refl _ _
    · refine Keeps.step (readFetch_keeps ..) rfl ?_
      exact Keeps.refl _ _

theorem hostFetch_keeps (s : State) (x1 x2 : Nat) : Keeps 633825300114114699719871653666 s (hostFetch s x1 x2).2 := by
  unfold hostFetch
  split
  · refine Keeps.step (remoteRead_keeps ..) rfl ?_
    exact Keeps.refl _ _
  · refine Keeps.ite_snd ?_ ?_
    · refine Keeps.step (hostSlot_keeps ..) rfl ?_
      exact Keeps.refl _ _
    · refine Keeps.ite_snd ?_ ?_
      · exact Keeps.refl _ _
      · refine Keeps.step (localRead_keeps ..) rfl ?_
        exact Keeps.refl _ _

theorem hostAnswer_keeps (s : State) (x1 x2 : Nat) (x3 : List Nat) : Keeps 2361183242534602670082 s (hostAnswer s x1 x2 x3) := by
  unfold hostAnswer
  refine Keeps.step (Keeps.put_ports ..) rfl ?_
  refine Keeps.when (fun _ => ?_) ?_
  · refine Keeps.step (State.inc_keeps 71 group_host ..) rfl ?_
    exact Keeps.refl _ _
  · exact Keeps.refl _ _

theorem execHostRead_keeps (x0 x1 x2 : Nat) (s : State) : OutKeeps 633825300114114699720140089122 s (execHostRead x0 x1 x2 s) := by
  unfold execHostRead
  refine OutKeeps.next ?_
  refine Keeps.ite ?_ ?_
  · refine Keeps.ite ?_ ?_
    · refine Keeps.step (hostAnswer_keeps ..) rfl ?_
      refine Keeps.step (State.inc_keeps 71 group_host ..) rfl ?_
      exact Keeps.refl _ _
    · refine Keeps.ite ?_ ?_
      · refine Keeps.step (hostAnswer_keeps ..) rfl ?_
        refine Keeps.step (State.inc_keeps 71 group_host ..) rfl ?_
        exact Keeps.refl _ _
      · split
        · refine Keeps.step (hostAnswer_keeps ..) rfl ?_
          rename_i hq1
          refine Keeps.of_snd hq1 ?_
          refine Keeps.step (hostFetch_keeps ..) rfl ?_
          refine Keeps.step (State.inc_keeps 71 group_host ..) rfl ?_
          exact Keeps.refl _ _
        · refine Keeps.ite ?_ ?_
          · refine Keeps.step (hostAnswer_keeps ..) rfl ?_
            rename_i hq2
            refine Keeps.of_snd hq2 ?_
            refine Keeps.step (hostFetch_keeps ..) rfl ?_
            refine Keeps.step (State.inc_keeps 71 group_host ..) rfl ?_
            exact Keeps.refl _ _
          · refine Keeps.step (hostAnswer_keeps ..) rfl ?_
            rename_i hq3
            refine Keeps.of_snd hq3 ?_
            refine Keeps.step (hostFetch_keeps ..) rfl ?_
            refine Keeps.step (State.inc_keeps 71 group_host ..) rfl ?_
            exact Keeps.refl _ _
  · exact Keeps.refl _ _

theorem remoteWrite_keeps (s : State) (x1 x2 x3 : Nat) (x4 : List Nat) :
    Keeps 521125871476402119170 s (remoteWrite s x1 x2 x3 x4).2 := by
  unfold remoteWrite
  refine Keeps.ite_snd ?_ ?_
  · refine Keeps.step (writeFailed_keeps ..) rfl ?_
    exact Keeps.refl _ _
  · split
    · rename_i hq1
      refine Keeps.of_snd hq1 ?_
      refine Keeps.step (takeTag_keeps ..) rfl ?_
      exact Keeps.refl _ _
    · rename_i hq2
      refine Keeps.of_snd hq2 ?_
      refine Keeps.step (takeTag_keeps ..) rfl ?_
      exact Keeps.refl _ _

theorem stitchPost_keeps (s : State) (x1 : Nat) (x2 : List (Nat × Nat)) : Keeps 1024 s (stitchPost s x1 x2) := by
  unfold stitchPost
  refine Keeps.step (Keeps.put_stitch ..) rfl ?_
  refine Keeps.foldl (fun _ _ => ?_) _ _ ?_
  · refine Keeps.step (flitOut_keeps ..) rfl ?_
    exact Keeps.refl _ _
  · exact Keeps.refl _ _

theorem execHostWrite_keeps (x0 x1 : Nat) (x2 : List Nat) (s : State) :
    OutKeeps 633825300114114699769065504638 s (execHostWrite x0 x1 x2 s) := by
  unfold execHostWrite
  refine OutKeeps.next ?_
  refine Keeps.ite ?_ ?_
  · refine Keeps.ite ?_ ?_
    · refine Keeps.step (hostAnswer_keeps ..) rfl ?_
      refine Keeps.step (State.inc_keeps 71 group_host ..) rfl ?_
      exact Keeps.refl _ _
    · refine Keeps.ite ?_ ?_
      · refine Keeps.step (hostAnswer_keeps ..) rfl ?_
        refine Keeps.step (State.inc_keeps 71 group_host ..) rfl ?_
        exact Keeps.refl _ _
      · split
        · refine Keeps.step (hostAnswer_keeps ..) rfl ?_
          refine Keeps.step (remoteWrite_keeps ..) rfl ?_
          refine Keeps.step (State.inc_keeps 71 group_host ..) rfl ?_
          exact Keeps.refl _ _
        · split
          · refine Keeps.step (hostAnswer_keeps ..) rfl ?_
            refine Keeps.step (stitchPost_keeps ..) rfl ?_
            refine Keeps.step (State.inc_keeps 71 group_host ..) rfl ?_
            exact Keeps.refl _ _
          · refine Keeps.ite ?_ ?_
            · refine Keeps.step (hostAnswer_keeps ..) rfl ?_
              refine Keeps.step (localWrite_keeps ..) rfl ?_
              refine Keeps.step (State.inc_keeps 71 group_host ..) rfl ?_
              exact Keeps.refl _ _
            · refine Keeps.ite ?_ ?_
              · refine Keeps.step (hostAnswer_keeps ..) rfl ?_
                refine Keeps.step (localWrite_keeps ..) rfl ?_
                refine Keeps.step (State.inc_keeps 71 group_host ..) rfl ?_
                exact Keeps.refl _ _
              · refine Keeps.step (hostAnswer_keeps ..) rfl ?_
                refine Keeps.step (localWrite_keeps ..) rfl ?_
                refine Keeps.step (State.inc_keeps 71 group_host ..) rfl ?_
                exact Keeps.refl _ _
  · exact Keeps.refl _ _

theorem execInduct_keeps (x0 : By) (x1 : Nat) (s : State) : OutKeeps 633825300114114699769065503598 s (execInduct x0 x1 s) := by
  unfold execInduct
  refine OutKeeps.next ?_
  refine Keeps.step (driftCmd_keeps ..) rfl ?_
  exact Keeps.refl _ _

theorem execInputEdge_keeps (x0 x1 : Nat) (x2 : Bool) (x3 x4 x5 : Nat) (s : State) :
    OutKeeps 523444943809556925186 s (execInputEdge x0 x1 x2 x3 x4 x5 s) := by
  unfold execInputEdge
  refine OutKeeps.next ?_
  refine Keeps.ite ?_ ?_
  · refine Keeps.ite ?_ ?_
    · refine Keeps.step (captureEdge_keeps ..) rfl ?_
      refine Keeps.step (State.atTime_keeps ..) rfl ?_
      refine Keeps.ite ?_ ?_
      · refine Keeps.step (State.setSig_keeps ..) rfl ?_
        exact Keeps.refl _ _
      · refine Keeps.ite ?_ ?_
        · refine Keeps.step (Keeps.put_router ..) rfl ?_
          exact Keeps.refl _ _
        · refine Keeps.step (Keeps.put_field ..) rfl ?_
          exact Keeps.refl _ _
    · refine Keeps.ite ?_ ?_
      · refine Keeps.step (State.setSig_keeps ..) rfl ?_
        exact Keeps.refl _ _
      · refine Keeps.ite ?_ ?_
        · refine Keeps.step (Keeps.put_router ..) rfl ?_
          exact Keeps.refl _ _
        · refine Keeps.step (Keeps.put_field ..) rfl ?_
          exact Keeps.refl _ _
  · exact Keeps.refl _ _

theorem execInqR_keeps (x0 : Nat) (x1 : By) (s : State) : OutKeeps 633825300114114699719871563554 s (execInqR x0 x1 s) := by
  unfold execInqR
  refine OutKeeps.next ?_
  refine Keeps.ite ?_ ?_
  · unfold readTo
    refine Keeps.step (Keeps.put_stitch ..) rfl ?_
    refine Keeps.step (busRead_keeps ..) rfl ?_
    exact Keeps.refl _ _
  · exact Keeps.refl _ _

theorem execInstrWrite_keeps (x0 : Nat) (x1 : By) (x2 x3 : Nat) (s : State) :
    OutKeeps 633825300114114699769065503598 s (execInstrWrite x0 x1 x2 x3 s) := by
  unfold execInstrWrite
  refine OutKeeps.next ?_
  refine Keeps.step (busStore_keeps ..) rfl ?_
  exact Keeps.refl _ _

theorem execIsolateRecordWritten_keeps (s : State) : OutKeeps 39614081257132169896283603458 s (execIsolateRecordWritten s) := by
  unfold execIsolateRecordWritten
  refine OutKeeps.next ?_
  refine Keeps.ite ?_ ?_
  · refine Keeps.step (requestWarm_keeps ..) rfl ?_
    refine Keeps.step (Keeps.put_node ..) rfl ?_
    exact Keeps.refl _ _
  · exact Keeps.refl _ _

theorem execJoinAlone_keeps (x0 : Nat) (s : State) : OutKeeps 158456325028528676286599530498 s (execJoinAlone x0 s) := by
  unfold execJoinAlone
  refine OutKeeps.next ?_
  refine Keeps.ite ?_ ?_
  · refine Keeps.step (State.wr_keeps 97 (.inl rfl) ..) rfl ?_
    refine Keeps.step (State.atTime_keeps ..) rfl ?_
    exact Keeps.refl _ _
  · exact Keeps.refl _ _

theorem execJtagReadout_keeps (x0 x1 : Nat) (s : State) : OutKeeps 1280 s (execJtagReadout x0 x1 s) := by
  unfold execJtagReadout
  refine OutKeeps.next ?_
  refine Keeps.ite ?_ ?_
  · unfold readTo
    refine Keeps.step (Keeps.put_stitch ..) rfl ?_
    refine Keeps.step (segRead_keeps ..) rfl ?_
    exact Keeps.refl _ _
  · exact Keeps.refl _ _

theorem execJump_keeps (x0 : Nat) (x1 : Bool) (s : State) : OutKeeps 521120523451861303810 s (execJump x0 x1 s) := by
  unfold execJump
  refine OutKeeps.next ?_
  refine Keeps.step (pioTake_keeps (n := 295147906278881230850) (hr := fun _ _ => ?_) ..) rfl ?_
  · refine Keeps.ite ?_ ?_
    · refine Keeps.step (pioNext_keeps ..) rfl ?_
      exact Keeps.refl _ _
    · refine Keeps.step (pioNext_keeps ..) rfl ?_
      exact Keeps.refl _ _
  · exact Keeps.refl _ _

theorem execKeyArmLapse_keeps (x0 : Nat) (s : State) : OutKeeps 512 s (execKeyArmLapse x0 s) := by
  unfold execKeyArmLapse
  refine OutKeeps.next ?_
  refine Keeps.ite ?_ ?_
  · refine Keeps.step (Keeps.put_node ..) rfl ?_
    exact Keeps.refl _ _
  · exact Keeps.refl _ _

theorem execLaneDown_keeps (x0 x1 : Nat) (s : State) : OutKeeps 1703865955506674432834 s (execLaneDown x0 x1 s) := by
  unfold execLaneDown
  refine OutKeeps.next ?_
  refine Keeps.ite ?_ ?_
  · refine Keeps.step (laneGoDown_keeps ..) rfl ?_
    exact Keeps.refl _ _
  · exact Keeps.refl _ _

theorem sesFreeze_keeps (s : State) : Keeps 521192581045882601986 s (sesFreeze s) := by
  unfold sesFreeze
  refine Keeps.step (raiseIf_keeps ..) rfl ?_
  refine Keeps.each (fun _ _ => ?_) ?_
  · refine Keeps.ite ?_ ?_
    · refine Keeps.step (State.wri_keeps 56 group_sesrx ..) rfl ?_
      exact Keeps.refl _ _
    · exact Keeps.refl _ _
  · refine Keeps.step (Keeps.put_sw_ses ..) rfl ?_
    exact Keeps.refl _ _

theorem execLastGasp_keeps (x0 : Nat) (s : State) : OutKeeps 28855391478272880689666 s (execLastGasp x0 s) := by
  unfold execLastGasp
  refine OutKeeps.next ?_
  refine Keeps.ite ?_ ?_
  · refine Keeps.ite ?_ ?_
    · refine Keeps.step (sesFreeze_keeps ..) rfl ?_
      refine Keeps.ite ?_ ?_
      · refine Keeps.step (Keeps.put_ao ..) rfl ?_
        refine Keeps.step (branchesOff_keeps ..) rfl ?_
        refine Keeps.step (powerEv_keeps ..) rfl ?_
        refine Keeps.step (State.inc_keeps 73 group_power ..) rfl ?_
        refine Keeps.step (State.wr_keeps 73 group_power ..) rfl ?_
        refine Keeps.step (State.coreAt_keeps ..) rfl ?_
        exact Keeps.refl _ _
      · refine Keeps.step (branchesOff_keeps ..) rfl ?_
        refine Keeps.step (powerEv_keeps ..) rfl ?_
        refine Keeps.step (State.inc_keeps 73 group_power ..) rfl ?_
        refine Keeps.step (State.wr_keeps 73 group_power ..) rfl ?_
        refine Keeps.step (State.coreAt_keeps ..) rfl ?_
        exact Keeps.refl _ _
    · refine Keeps.ite ?_ ?_
      · refine Keeps.step (Keeps.put_ao ..) rfl ?_
        refine Keeps.step (branchesOff_keeps ..) rfl ?_
        refine Keeps.step (powerEv_keeps ..) rfl ?_
        refine Keeps.step (State.inc_keeps 73 group_power ..) rfl ?_
        refine Keeps.step (State.wr_keeps 73 group_power ..) rfl ?_
        refine Keeps.step (State.coreAt_keeps ..) rfl ?_
        exact Keeps.refl _ _
      · refine Keeps.step (branchesOff_keeps ..) rfl ?_
        refine Keeps.step (powerEv_keeps ..) rfl ?_
        refine Keeps.step (State.inc_keeps 73 group_power ..) rfl ?_
        refine Keeps.step (State.wr_keeps 73 group_power ..) rfl ?_
        refine Keeps.step (State.coreAt_keeps ..) rfl ?_
        exact Keeps.refl _ _
  · exact Keeps.refl _ _

theorem execLatchClear_keeps (x0 : Nat) (x1 : By) (s : State) :
    OutKeeps 633825300114114699769065503598 s (execLatchClear x0 x1 s) := by
  unfold execLatchClear
  refine OutKeeps.next ?_
  refine Keeps.step (ctlSet_keeps ..) rfl ?_
  exact Keeps.refl _ _

theorem execLevel_keeps (x0 : Nat) (x1 : By) (x2 : Bool) (s : State) :
    OutKeeps 633825300114114699769065503598 s (execLevel x0 x1 x2 s) := by
  unfold execLevel
  refine OutKeeps.next ?_
  refine Keeps.step (busStore_keeps ..) rfl ?_
  exact Keeps.refl _ _

theorem execLgRecover_keeps (s : State) : OutKeeps 9965853489191134953986 s (execLgRecover s) := by
  unfold execLgRecover
  refine OutKeeps.next ?_
  refine Keeps.ite ?_ ?_
  · refine Keeps.step (powerEv_keeps ..) rfl ?_
    refine Keeps.step (State.wr_keeps 73 group_power ..) rfl ?_
    refine Keeps.step (State.wr_keeps 73 group_power ..) rfl ?_
    exact Keeps.refl _ _
  · exact Keeps.refl _ _

theorem setLine_keeps (s : State) (x1 : Nat) : Keeps 154743026031213578392963586 s (setLine s x1) := by
  unfold setLine
  refine Keeps.step (raiseIf_keeps ..) rfl ?_
  refine Keeps.step (Keeps.put_time (ht := ⟨rfl, rfl⟩) ..) rfl ?_
  refine Keeps.step (State.wr_keeps 44 group_time ..) rfl ?_
  refine Keeps.step (State.wr_keeps 87 (.inl rfl) ..) rfl ?_
  exact Keeps.refl _ _

theorem cmdLine_keeps (s : State) (x1 : Nat) : Keeps 154743026031213578392963586 s (cmdLine s x1) := by
  unfold cmdLine
  refine Keeps.ite ?_ ?_
  · exact Keeps.refl _ _
  · refine Keeps.step (setLine_keeps ..) rfl ?_
    exact Keeps.refl _ _

theorem takeCmd_keeps (s : State) (x1 : Nat) : Keeps 2048 s (takeCmd s x1).2 := by
  unfold takeCmd
  split
  · refine Keeps.step (Keeps.put_time (ht := ⟨rfl, rfl⟩) ..) rfl ?_
    exact Keeps.refl _ _
  · exact Keeps.refl _ _

theorem lineTransition_keeps (s : State) : Keeps 59579105638026245040095853378 s (lineTransition s) := by
  unfold lineTransition
  refine Keeps.ite ?_ ?_
  · refine Keeps.step (goState_keeps ..) rfl ?_
    exact Keeps.refl _ _
  · refine Keeps.ite ?_ ?_
    · refine Keeps.step (goState_keeps ..) rfl ?_
      exact Keeps.refl _ _
    · exact Keeps.refl _ _

theorem execLine_keeps (s : State) : OutKeeps 59579105638026262632281897794 s (execLine s) := by
  unfold execLine
  refine OutKeeps.next ?_
  refine Keeps.ite ?_ ?_
  · split
    · refine Keeps.step (lineTransition_keeps ..) rfl ?_
      refine Keeps.step (cmdLine_keeps ..) rfl ?_
      rename_i hq1
      refine Keeps.of_snd hq1 ?_
      refine Keeps.step (takeCmd_keeps ..) rfl ?_
      exact Keeps.refl _ _
    · rename_i hq2
      refine Keeps.of_snd hq2 ?_
      refine Keeps.step (takeCmd_keeps ..) rfl ?_
      exact Keeps.refl _ _
  · exact Keeps.refl _ _

theorem execLineReq_keeps (x0 : By) (x1 : Nat) (s : State) : OutKeeps 633825300114114699769065503598 s (execLineReq x0 x1 s) := by
  unfold execLineReq
  refine OutKeeps.next ?_
  refine Keeps.step (busStore_keeps ..) rfl ?_
  exact Keeps.refl _ _

theorem execLockKey_keeps (x0 : Nat) (x1 : By) (x2 : Nat) (s : State) :
    OutKeeps 633825300114114699769065503598 s (execLockKey x0 x1 x2 s) := by
  unfold execLockKey
  refine OutKeeps.next ?_
  refine Keeps.step (busStore_keeps ..) rfl ?_
  exact Keeps.refl _ _

theorem execLockTimeout_keeps (x0 : Nat) (s : State) : OutKeeps 36283883720706 s (execLockTimeout x0 s) := by
  unfold execLockTimeout
  refine OutKeeps.next ?_
  refine Keeps.ite ?_ ?_
  · refine Keeps.step (setLaneState_keeps ..) rfl ?_
    refine Keeps.step (laneCause_keeps ..) rfl ?_
    exact Keeps.refl _ _
  · exact Keeps.refl _ _

theorem execLogAppend_keeps (x0 : By) (x1 : Nat) (s : State) :
    OutKeeps 633825300114114699769065503598 s (execLogAppend x0 x1 s) := by
  unfold execLogAppend
  refine OutKeeps.next ?_
  refine Keeps.step (busStore_keeps ..) rfl ?_
  exact Keeps.refl _ _

theorem execLogExport_keeps (x0 : By) (s : State) : OutKeeps 633825300114114699769065503598 s (execLogExport x0 s) := by
  unfold execLogExport
  refine OutKeeps.next ?_
  refine Keeps.step (busStore_keeps ..) rfl ?_
  exact Keeps.refl _ _

theorem logFlash_keeps (s : State) (x1 : LogEnt) : Keeps 2417851639230357861040146 s (logFlash s x1) := by
  unfold logFlash
  refine Keeps.step (State.wr_keeps 81 group_log ..) rfl ?_
  refine Keeps.step (flashProgram_keeps ..) rfl ?_
  refine Keeps.ite ?_ ?_
  · refine Keeps.step (flashErase_keeps ..) rfl ?_
    exact Keeps.refl _ _
  · exact Keeps.refl _ _

theorem execLogExportDone_keeps (x0 : Bool) (s : State) : OutKeeps 2418372759752744553677586 s (execLogExportDone x0 s) := by
  unfold execLogExportDone
  refine OutKeeps.next ?_
  refine Keeps.ite ?_ ?_
  · refine Keeps.ite ?_ ?_
    · refine Keeps.step (raise_keeps ..) rfl ?_
      refine Keeps.step (State.wr_keeps 81 group_log ..) rfl ?_
      refine Keeps.step (Keeps.put_mgmt ..) rfl ?_
      refine Keeps.foldl (fun _ _ => ?_) _ _ ?_
      · refine Keeps.step (logFlash_keeps ..) rfl ?_
        exact Keeps.refl _ _
      · refine Keeps.step (State.wr_keeps 81 group_log ..) rfl ?_
        exact Keeps.refl _ _
    · refine Keeps.step (raise_keeps ..) rfl ?_
      refine Keeps.step (State.wr_keeps 81 group_log ..) rfl ?_
      refine Keeps.step (flashUnknown_keeps ..) rfl ?_
      refine Keeps.step (State.wr_keeps 81 group_log ..) rfl ?_
      exact Keeps.refl _ _
  · exact Keeps.refl _ _

theorem execMark_keeps (x0 : Nat) (x1 : By) (s : State) : OutKeeps 633825300114114699769065503598 s (execMark x0 x1 s) := by
  unfold execMark
  refine OutKeeps.next ?_
  refine Keeps.step (qCmdWrite_keeps ..) rfl ?_
  exact Keeps.refl _ _

theorem execMarkClear_keeps (x0 : Nat) (x1 : By) (s : State) :
    OutKeeps 633825300114114699769065503598 s (execMarkClear x0 x1 s) := by
  unfold execMarkClear
  refine OutKeeps.next ?_
  refine Keeps.step (qCmdWrite_keeps ..) rfl ?_
  exact Keeps.refl _ _

theorem mbCmd_keeps (s : State) (x1 : Nat) (x2 : By) (x3 : Nat) : Keeps 633825300114114699769065503598 s (mbCmd s x1 x2 x3) := by
  unfold mbCmd
  refine Keeps.step (busStore_keeps ..) rfl ?_
  exact Keeps.refl _ _

theorem execMbArm_keeps (x0 : Nat) (x1 : By) (s : State) : OutKeeps 633825300114114699769065503598 s (execMbArm x0 x1 s) := by
  unfold execMbArm
  refine OutKeeps.next ?_
  refine Keeps.step (mbCmd_keeps ..) rfl ?_
  exact Keeps.refl _ _

theorem execMbCancel_keeps (x0 : Nat) (x1 : By) (x2 : Nat) (s : State) :
    OutKeeps 633825300114114699769065503598 s (execMbCancel x0 x1 x2 s) := by
  unfold execMbCancel
  refine OutKeeps.next ?_
  refine Keeps.step (busStore_keeps ..) rfl ?_
  exact Keeps.refl _ _

theorem execMbClear_keeps (x0 : Nat) (x1 : By) (s : State) : OutKeeps 633825300114114699769065503598 s (execMbClear x0 x1 s) := by
  unfold execMbClear
  refine OutKeeps.next ?_
  refine Keeps.step (mbCmd_keeps ..) rfl ?_
  exact Keeps.refl _ _

theorem execMbLoad_keeps (x0 : Nat) (x1 : By) (s : State) : OutKeeps 633825300114114699769065503598 s (execMbLoad x0 x1 s) := by
  unfold execMbLoad
  refine OutKeeps.next ?_
  refine Keeps.step (mbCmd_keeps ..) rfl ?_
  exact Keeps.refl _ _

theorem execMbSel_keeps (x0 : Nat) (x1 : By) (x2 : Nat) (s : State) :
    OutKeeps 633825300114114699769065503598 s (execMbSel x0 x1 x2 s) := by
  unfold execMbSel
  refine OutKeeps.next ?_
  refine Keeps.step (busStore_keeps ..) rfl ?_
  exact Keeps.refl _ _

theorem servo_keeps (s : State) (x1 x2 : ℚ) : Keeps 521120541044030573058 s (servo s x1 x2) := by
  unfold servo
  refine Keeps.ite ?_ ?_
  · refine Keeps.step (State.inc_keeps 44 group_time ..) rfl ?_
    refine Keeps.step (Keeps.put_time (ht := ⟨rfl, rfl⟩) ..) rfl ?_
    refine Keeps.step (State.wr_keeps 44 group_time ..) rfl ?_
    exact Keeps.refl _ _
  · refine Keeps.step (State.wr_keeps 44 group_time ..) rfl ?_
    refine Keeps.step (Keeps.put_time (ht := ⟨rfl, rfl⟩) ..) rfl ?_
    refine Keeps.step (raiseIf_keeps ..) rfl ?_
    refine Keeps.step (Keeps.put_time (ht := ⟨rfl, rfl⟩) ..) rfl ?_
    refine Keeps.step (State.wr_keeps 44 group_time ..) rfl ?_
    exact Keeps.refl _ _

theorem setLock_keeps (s : State) (x1 : Bool) : Keeps 158456325549649216231118471682 s (setLock s x1) := by
  unfold setLock
  refine Keeps.step (raiseIf_keeps ..) rfl ?_
  refine Keeps.step (raiseIf_keeps ..) rfl ?_
  refine Keeps.step (State.wr_keeps 44 group_time ..) rfl ?_
  refine Keeps.step (State.wr_keeps 97 (.inl rfl) ..) rfl ?_
  exact Keeps.refl _ _

theorem judgeLock_keeps (s : State) (x1 : ℚ) : Keeps 158456325549649216231118473730 s (judgeLock s x1) := by
  unfold judgeLock
  refine Keeps.ite ?_ ?_
  · refine Keeps.step (setLock_keeps ..) rfl ?_
    refine Keeps.step (Keeps.put_time (ht := ⟨rfl, rfl⟩) ..) rfl ?_
    exact Keeps.refl _ _
  · refine Keeps.ite ?_ ?_
    · refine Keeps.step (setLock_keeps ..) rfl ?_
      refine Keeps.step (Keeps.put_time (ht := ⟨rfl, rfl⟩) ..) rfl ?_
      exact Keeps.refl _ _
    · refine Keeps.step (Keeps.put_time (ht := ⟨rfl, rfl⟩) ..) rfl ?_
      exact Keeps.refl _ _

theorem combineTick_keeps (s : State) (x1 : Nat) : Keeps 158456325549649216231118473730 s (combineTick s x1) := by
  unfold combineTick
  refine Keeps.ite ?_ ?_
  · refine Keeps.step (Keeps.put_time (ht := ⟨rfl, rfl⟩) ..) rfl ?_
    exact Keeps.refl _ _
  · refine Keeps.step (judgeLock_keeps ..) rfl ?_
    refine Keeps.step (servo_keeps ..) rfl ?_
    refine Keeps.step (Keeps.put_time (ht := ⟨rfl, rfl⟩) ..) rfl ?_
    refine Keeps.step (Keeps.put_time (ht := ⟨rfl, rfl⟩) ..) rfl ?_
    exact Keeps.refl _ _

theorem showIncr_keeps (s : State) : Keeps 18691697672194 s (showIncr s) := by
  unfold showIncr
  refine Keeps.step (State.wr_keeps 44 group_time ..) rfl ?_
  exact Keeps.refl _ _

theorem holdoverEnter_keeps (s : State) (x1 : Nat) : Keeps 521120541044030573058 s (holdoverEnter s x1) := by
  unfold holdoverEnter
  refine Keeps.step (showIncr_keeps ..) rfl ?_
  refine Keeps.step (Keeps.put_time (ht := ⟨rfl, rfl⟩) ..) rfl ?_
  refine Keeps.step (raise_keeps ..) rfl ?_
  refine Keeps.step (State.wr_keeps 44 group_time ..) rfl ?_
  exact Keeps.refl _ _

theorem tickMissed_keeps (s : State) (x1 : Nat) : Keeps 521120541044030573058 s (tickMissed s x1) := by
  unfold tickMissed
  refine Keeps.ite ?_ ?_
  · refine Keeps.step (holdoverEnter_keeps ..) rfl ?_
    refine Keeps.step (Keeps.put_time (ht := ⟨rfl, rfl⟩) ..) rfl ?_
    refine Keeps.step (State.inc_keeps 44 group_time ..) rfl ?_
    refine Keeps.step (State.wr_keeps 44 group_time ..) rfl ?_
    exact Keeps.refl _ _
  · refine Keeps.step (Keeps.put_time (ht := ⟨rfl, rfl⟩) ..) rfl ?_
    refine Keeps.step (State.inc_keeps 44 group_time ..) rfl ?_
    refine Keeps.step (State.wr_keeps 44 group_time ..) rfl ?_
    exact Keeps.refl _ _

theorem missJudge_keeps (s : State) (x1 x2 : Nat) : Keeps 158456325549649216231118473730 s (missJudge s x1 x2) := by
  unfold missJudge
  refine Keeps.ite ?_ ?_
  · refine Keeps.step (combineTick_keeps ..) rfl ?_
    refine Keeps.step (Keeps.put_time (ht := ⟨rfl, rfl⟩) ..) rfl ?_
    exact Keeps.refl _ _
  · refine Keeps.step (tickMissed_keeps ..) rfl ?_
    refine Keeps.step (Keeps.put_time (ht := ⟨rfl, rfl⟩) ..) rfl ?_
    exact Keeps.refl _ _

theorem execMissDeadline_keeps (x0 x1 : Nat) (s : State) :
    OutKeeps 158456325549649216231118473730 s (execMissDeadline x0 x1 s) := by
  unfold execMissDeadline
  refine OutKeeps.next ?_
  refine Keeps.ite ?_ ?_
  · refine Keeps.ite ?_ ?_
    · refine Keeps.step (Keeps.put_time (ht := ⟨rfl, rfl⟩) ..) rfl ?_
      refine Keeps.step (State.atTime_keeps ..) rfl ?_
      exact Keeps.refl _ _
    · refine Keeps.ite ?_ ?_
      · refine Keeps.step (Keeps.put_time (ht := ⟨rfl, rfl⟩) ..) rfl ?_
        refine Keeps.step (Keeps.put_time (ht := ⟨rfl, rfl⟩) ..) rfl ?_
        refine Keeps.step (State.atTime_keeps ..) rfl ?_
        exact Keeps.refl _ _
      · refine Keeps.step (missJudge_keeps ..) rfl ?_
        refine Keeps.step (Keeps.put_time (ht := ⟨rfl, rfl⟩) ..) rfl ?_
        refine Keeps.step (State.atTime_keeps ..) rfl ?_
        exact Keeps.refl _ _
  · exact Keeps.refl _ _

theorem execModeWrite_keeps (x0 : Nat) (x1 : By) (x2 : Nat) (s : State) :
    OutKeeps 633825300114114699769065503598 s (execModeWrite x0 x1 x2 s) := by
  unfold execModeWrite
  refine OutKeeps.next ?_
  refine Keeps.step (busStore_keeps ..) rfl ?_
  exact Keeps.refl _ _

theorem execMsg_keeps (x0 : Frame) (s : State) : OutKeeps 521247468666341188098 s (execMsg x0 s) := by
  unfold execMsg
  refine OutKeeps.next ?_
  refine Keeps.ite ?_ ?_
  · refine Keeps.step (sesDone_keeps ..) rfl ?_
    refine Keeps.step (judgeMsg_keeps ..) rfl ?_
    exact Keeps.refl _ _
  · exact Keeps.refl _ _

theorem execMtip_keeps (x0 x1 : Nat) (s : State) : OutKeeps 4294969344 s (execMtip x0 x1 s) := by
  unfold execMtip
  refine OutKeeps.next ?_
  refine Keeps.ite ?_ ?_
  · refine Keeps.step (mtipFollow_keeps ..) rfl ?_
    refine Keeps.step (State.atTime_keeps ..) rfl ?_
    exact Keeps.refl _ _
  · exact Keeps.refl _ _

theorem execMwdtExpiry_keeps (s : State) : OutKeeps 39614232893980144081558307330 s (execMwdtExpiry s) := by
  unfold execMwdtExpiry
  refine OutKeeps.next ?_
  refine Keeps.ite ?_ ?_
  · exact Keeps.refl _ _
  · refine Keeps.ite ?_ ?_
    · refine Keeps.step (requestWarm_keeps ..) rfl ?_
      refine Keeps.step (wdtAgain_keeps ..) rfl ?_
      exact Keeps.refl _ _
    · refine Keeps.step (countRaise_keeps 77 group_cores ..) rfl ?_
      refine Keeps.step (State.wr_keeps 77 group_cores ..) rfl ?_
      refine Keeps.step (wdtAgain_keeps ..) rfl ?_
      exact Keeps.refl _ _

theorem execMwdtKick_keeps (x0 : By) (x1 : Nat) (s : State) : OutKeeps 633825300114114699769065503598 s (execMwdtKick x0 x1 s) := by
  unfold execMwdtKick
  refine OutKeeps.next ?_
  refine Keeps.step (busStore_keeps ..) rfl ?_
  exact Keeps.refl _ _

theorem onNeighbour_keeps (s : State) (x1 : Nat) (x2 : Frame) : Keeps 77371775729530318955903746 s (onNeighbour s x1 x2) := by
  unfold onNeighbour
  refine Keeps.step (takeAddress_keeps ..) rfl ?_
  refine Keeps.ite ?_ ?_
  · refine Keeps.ite ?_ ?_
    · refine Keeps.step (changeNotice_keeps ..) rfl ?_
      refine Keeps.step (State.wr_keeps 45 group_lane ..) rfl ?_
      refine Keeps.step (State.setLane_keeps ..) rfl ?_
      refine Keeps.step (State.wr_keeps 45 group_lane ..) rfl ?_
      refine Keeps.step (State.wr_keeps 45 group_lane ..) rfl ?_
      refine Keeps.step (State.wr_keeps 45 group_lane ..) rfl ?_
      exact Keeps.refl _ _
    · refine Keeps.step (State.wr_keeps 45 group_lane ..) rfl ?_
      refine Keeps.step (State.setLane_keeps ..) rfl ?_
      refine Keeps.step (State.wr_keeps 45 group_lane ..) rfl ?_
      refine Keeps.step (State.wr_keeps 45 group_lane ..) rfl ?_
      refine Keeps.step (State.wr_keeps 45 group_lane ..) rfl ?_
      exact Keeps.refl _ _
  · refine Keeps.step (State.setLane_keeps ..) rfl ?_
    refine Keeps.step (State.wr_keeps 45 group_lane ..) rfl ?_
    refine Keeps.step (State.wr_keeps 45 group_lane ..) rfl ?_
    refine Keeps.step (State.wr_keeps 45 group_lane ..) rfl ?_
    exact Keeps.refl _ _

theorem execNeighbour_keeps (x0 : Nat) (x1 : Frame) (s : State) :
    OutKeeps 77371775729530318955903746 s (execNeighbour x0 x1 s) := by
  unfold execNeighbour
  refine OutKeeps.next ?_
  refine Keeps.ite ?_ ?_
  · refine Keeps.step (onNeighbour_keeps ..) rfl ?_
    refine Keeps.step (rxCount_keeps ..) rfl ?_
    exact Keeps.refl _ _
  · exact Keeps.refl _ _

theorem neighbourMissed_keeps (s : State) (x1 : Nat) : Keeps 523265186852519961346 s (neighbourMissed s x1) := by
  unfold neighbourMissed
  refine Keeps.ite ?_ ?_
  · refine Keeps.step (changeNotice_keeps ..) rfl ?_
    refine Keeps.step (raise_keeps ..) rfl ?_
    refine Keeps.step (State.wr_keeps 45 group_lane ..) rfl ?_
    exact Keeps.refl _ _
  · refine Keeps.step (raise_keeps ..) rfl ?_
    refine Keeps.step (State.wr_keeps 45 group_lane ..) rfl ?_
    exact Keeps.refl _ _

theorem execNeighbourMissed_keeps (x0 : Nat) (s : State) : OutKeeps 523265186852519961346 s (execNeighbourMissed x0 s) := by
  unfold execNeighbourMissed
  refine OutKeeps.next ?_
  refine Keeps.ite ?_ ?_
  · refine Keeps.step (neighbourMissed_keeps ..) rfl ?_
    exact Keeps.refl _ _
  · exact Keeps.refl _ _

theorem execNeighbourSend_keeps (x0 : Nat) (s : State) : OutKeeps 521121367876774685186 s (execNeighbourSend x0 s) := by
  unfold execNeighbourSend
  refine OutKeeps.next ?_
  refine Keeps.ite ?_ ?_
  · refine Keeps.each (fun _ _ => ?_) ?_
    · refine Keeps.ite ?_ ?_
      · refine Keeps.step (originateOn_keeps ..) rfl ?_
        exact Keeps.refl _ _
      · exact Keeps.refl _ _
    · refine Keeps.step (State.atTime_keeps ..) rfl ?_
      exact Keeps.refl _ _
  · exact Keeps.refl _ _

theorem onOffer_keeps (s : State) (x1 : Frame) : Keeps 521427612651436532482 s (onOffer s x1) := by
  unfold onOffer
  refine Keeps.ite ?_ ?_
  · refine Keeps.step (answerTo_keeps ..) rfl ?_
    refine Keeps.step (findItem_keeps ..) rfl ?_
    exact Keeps.refl _ _
  · split
    · refine Keeps.step (answerTo_keeps ..) rfl ?_
      refine Keeps.step (findItem_keeps ..) rfl ?_
      exact Keeps.refl _ _
    · refine Keeps.ite ?_ ?_
      · refine Keeps.step (answerTo_keeps ..) rfl ?_
        refine Keeps.step (findItem_keeps ..) rfl ?_
        exact Keeps.refl _ _
      · split
        · refine Keeps.ite ?_ ?_
          · refine Keeps.step (answerTo_keeps ..) rfl ?_
            refine Keeps.step (findItem_keeps ..) rfl ?_
            exact Keeps.refl _ _
          · refine Keeps.ite ?_ ?_
            · refine Keeps.step (answerTo_keeps ..) rfl ?_
              refine Keeps.step (findItem_keeps ..) rfl ?_
              exact Keeps.refl _ _
            · refine Keeps.ite ?_ ?_
              · refine Keeps.step (answerTo_keeps ..) rfl ?_
                refine Keeps.step (findItem_keeps ..) rfl ?_
                exact Keeps.refl _ _
              · refine Keeps.step (answerTo_keeps ..) rfl ?_
                refine Keeps.step (putCopy_keeps ..) rfl ?_
                refine Keeps.step (findItem_keeps ..) rfl ?_
                exact Keeps.refl _ _
        · split
          · refine Keeps.step (answerTo_keeps ..) rfl ?_
            refine Keeps.step (putCopy_keeps ..) rfl ?_
            refine Keeps.step (setDslot_keeps ..) rfl ?_
            rename_i hq1
            refine Keeps.of_snd hq1 ?_
            refine Keeps.step (takeSlot_keeps ..) rfl ?_
            refine Keeps.step (findItem_keeps ..) rfl ?_
            exact Keeps.refl _ _
          · refine Keeps.step (answerTo_keeps ..) rfl ?_
            rename_i hq2
            refine Keeps.of_snd hq2 ?_
            refine Keeps.step (takeSlot_keeps ..) rfl ?_
            refine Keeps.step (findItem_keeps ..) rfl ?_
            exact Keeps.refl _ _

theorem execOffer_keeps (x0 : Frame) (s : State) : OutKeeps 521427612651436532482 s (execOffer x0 s) := by
  unfold execOffer
  refine OutKeeps.next ?_
  refine Keeps.ite ?_ ?_
  · refine Keeps.step (onOffer_keeps ..) rfl ?_
    exact Keeps.refl _ _
  · exact Keeps.refl _ _

theorem execOpCancel_keeps (x0 : By) (x1 x2 : Nat) (s : State) :
    OutKeeps 633825300114114699769065503598 s (execOpCancel x0 x1 x2 s) := by
  unfold execOpCancel
  refine OutKeeps.next ?_
  refine Keeps.step (driftCmd_keeps ..) rfl ?_
  exact Keeps.refl _ _

theorem execOpRetire_keeps (x0 : By) (x1 : Nat) (s : State) : OutKeeps 633825300114114699769065503598 s (execOpRetire x0 x1 s) := by
  unfold execOpRetire
  refine OutKeeps.next ?_
  refine Keeps.step (driftCmd_keeps ..) rfl ?_
  exact Keeps.refl _ _

theorem chFault_keeps {n : Nat} {ev : Ev} (hev : ∀ s p k, Keeps n s (ev s p k)) (s : State) (c k : Nat) :
    Keeps (Nat.lor n 4611687117939015682) s (chFault ev s c k) := by
  unfold chFault
  refine Keeps.step (hev ..) (subMask_left _ _) ?_
  refine Keeps.step (State.chWr_keeps ..) (subMask_right _ _) ?_
  exact (State.chWr_keeps ..).mono (subMask_right _ _)

theorem execOpenLoad_keeps (x0 : Nat) (s : State) : OutKeeps 521120523451844526594 s (execOpenLoad x0 s) := by
  unfold execOpenLoad
  refine OutKeeps.next ?_
  refine Keeps.ite ?_ ?_
  · refine Keeps.step (chFault_keeps raise_keeps ..) rfl ?_
    exact Keeps.refl _ _
  · exact Keeps.refl _ _

theorem execOr32_keeps (x0 : Frame) (x1 : Bool) (s : State) : OutKeeps 633825300114114699769065504622 s (execOr32 x0 x1 s) := by
  unfold execOr32
  refine OutKeeps.next ?_
  refine Keeps.step (inFrame_keeps ..) rfl ?_
  exact Keeps.refl _ _

theorem execOr64_keeps (x0 : Frame) (x1 : Bool) (s : State) : OutKeeps 633825300114114699769065504622 s (execOr64 x0 x1 s) := by
  unfold execOr64
  refine OutKeeps.next ?_
  refine Keeps.step (inFrame_keeps ..) rfl ?_
  exact Keeps.refl _ _

theorem execOrphPop_keeps (x0 : By) (s : State) : OutKeeps 633825300114114699769065503598 s (execOrphPop x0 s) := by
  unfold execOrphPop
  refine OutKeeps.next ?_
  refine Keeps.step (busStore_keeps ..) rfl ?_
  exact Keeps.refl _ _

theorem otpApply_keeps (s : State) (x1 x2 : Nat) : Keeps 17179869184 s (otpApply s x1 x2) := by
  unfold otpApply
  split
  · exact Keeps.put_otp _ _ ⟨fun k i h => keyFuses_mono s _ _ k i h, fun _ h => withBit_mono _ _ h, fun _ h => h, Nat.le_refl _, Nat.le_refl _,
      rfl, rfl, rfl, rfl⟩
  · exact Keeps.put_otp _ _ ⟨fun _ _ h => h, fun _ h => h, fun i h => withBit_mono _ _ h, Nat.le_refl _, Nat.le_refl _,
      rfl, rfl, rfl, rfl⟩
  · exact Keeps.put_otp _ _ ⟨fun _ _ h => h, fun _ h => h, fun _ h => h, Nat.le_refl _, Nat.le_max_left .., rfl, rfl, rfl, rfl⟩
  · exact Keeps.put_otp _ _ ⟨fun _ _ h => h, fun _ h => h, fun _ h => h, Nat.le_refl _, Nat.le_max_left .., rfl, rfl, rfl, rfl⟩
  · exact Keeps.put_otp _ _ ⟨fun _ _ h => h, fun _ h => h, fun _ h => h, Nat.le_max_left .., Nat.le_refl _, rfl, rfl, rfl, rfl⟩

theorem otpPartial_keeps (s : State) (x1 x2 : Nat) : Keeps 17179869440 s (otpPartial s x1 x2) := by
  unfold otpPartial
  refine Keeps.trans (t := (s.draw 257).2) ((State.draw_keeps ..).mono rfl) ?_
  dsimp only
  split <;> refine Keeps.mono (n := 17179869184) rfl (Keeps.put_otp (t := (s.draw 257).2) _ ?_)
  · refine ⟨fun k i h => keyFuses_mono (s.draw 257).2 _ _ k i h, fun i h => ?_, fun _ h => h, Nat.le_refl _, Nat.le_refl _, rfl, rfl, rfl, rfl⟩
    dsimp only
    split
    · exact withBit_mono _ _ h
    · exact h
  · refine ⟨fun _ _ h => h, fun _ h => h, fun i h => ?_, Nat.le_refl _, Nat.le_refl _, rfl, rfl, rfl, rfl⟩
    rw [Nat.testBit_or, h, Bool.true_or]
  · exact ⟨fun _ _ h => h, fun _ h => h, fun _ h => h, Nat.le_refl _, Nat.le_max_left .., rfl, rfl, rfl, rfl⟩
  · exact ⟨fun _ _ h => h, fun _ h => h, fun _ h => h, Nat.le_refl _, Nat.le_max_left .., rfl, rfl, rfl, rfl⟩
  · exact ⟨fun _ _ h => h, fun _ h => h, fun _ h => h, Nat.le_max_left .., Nat.le_refl _, rfl, rfl, rfl, rfl⟩

theorem execOtpDone_keeps (x0 : Bool) (s : State) : OutKeeps 12089779316669795131196162 s (execOtpDone x0 s) := by
  unfold execOtpDone
  refine OutKeeps.next ?_
  split
  · refine Keeps.ite ?_ ?_
    · refine Keeps.step (otpResult_keeps ..) rfl ?_
      refine Keeps.step (Keeps.put_mgmt ..) rfl ?_
      exact Keeps.refl _ _
    · refine Keeps.ite ?_ ?_
      · refine Keeps.step (otpResult_keeps ..) rfl ?_
        refine Keeps.step (otpApply_keeps ..) rfl ?_
        refine Keeps.step (Keeps.put_mgmt ..) rfl ?_
        exact Keeps.refl _ _
      · refine Keeps.step (otpResult_keeps ..) rfl ?_
        refine Keeps.step (otpPartial_keeps ..) rfl ?_
        refine Keeps.step (Keeps.put_mgmt ..) rfl ?_
        exact Keeps.refl _ _
  · exact Keeps.refl _ _

theorem execOutqW_keeps (x0 : Nat) (x1 : By) (x2 : Nat) (s : State) :
    OutKeeps 633825300114114699769065503598 s (execOutqW x0 x1 x2 s) := by
  unfold execOutqW
  refine OutKeeps.next ?_
  refine Keeps.step (busStore_keeps ..) rfl ?_
  exact Keeps.refl _ _

theorem mainShutdown_keeps (s : State) (x1 x2 : Nat) : Keeps 2446706958649962961830658 s (mainShutdown s x1 x2) := by
  unfold mainShutdown
  refine Keeps.step (mainSeating_keeps ..) rfl ?_
  refine Keeps.step (setCtlState_keeps ..) rfl ?_
  refine Keeps.step (setCause_keeps ..) rfl ?_
  refine Keeps.ite ?_ ?_
  · refine Keeps.step (endAttempt_keeps ..) rfl ?_
    exact Keeps.refl _ _
  · exact Keeps.refl _ _

theorem execOvShutdown_keeps (x0 : Nat) (s : State) : OutKeeps 2561224355957467721595714 s (execOvShutdown x0 s) := by
  unfold execOvShutdown
  refine OutKeeps.next ?_
  refine Keeps.ite ?_ ?_
  · refine Keeps.step (afterPower_keeps ..) rfl ?_
    refine Keeps.step (mainShutdown_keeps ..) rfl ?_
    refine Keeps.step (State.coreAt_keeps ..) rfl ?_
    exact Keeps.refl _ _
  · exact Keeps.refl _ _

theorem execOverload_keeps (x0 : Nat) (s : State) : OutKeeps 521120523451844526594 s (execOverload x0 s) := by
  unfold execOverload
  refine OutKeeps.next ?_
  refine Keeps.ite ?_ ?_
  · refine Keeps.step (State.setChan_keeps ..) rfl ?_
    refine Keeps.step (chFault_keeps raise_keeps ..) rfl ?_
    exact Keeps.refl _ _
  · exact Keeps.refl _ _

theorem branchesOvertemp_keeps (s : State) : Keeps 2446706958649962961830658 s (branchesOvertemp s) := by
  unfold branchesOvertemp
  refine Keeps.each (fun _ _ => ?_) ?_
  · refine Keeps.ite ?_ ?_
    · refine Keeps.step (brGateOff_keeps ..) rfl ?_
      refine Keeps.step (setCause_keeps ..) rfl ?_
      exact Keeps.refl _ _
    · refine Keeps.ite ?_ ?_
      · exact Keeps.refl _ _
      · refine Keeps.step (setCause_keeps ..) rfl ?_
        exact Keeps.refl _ _
  · exact Keeps.refl _ _

theorem execOvertemp_keeps (s : State) : OutKeeps 2446706958649962961830658 s (execOvertemp s) := by
  unfold execOvertemp
  refine OutKeeps.next ?_
  refine Keeps.ite ?_ ?_
  · refine Keeps.step (branchesOvertemp_keeps ..) rfl ?_
    refine Keeps.step (fdieEv_keeps raise_keeps ..) rfl ?_
    refine Keeps.step (State.wr_keeps 41 (.inl rfl) ..) rfl ?_
    exact Keeps.refl _ _
  · exact Keeps.refl _ _

theorem brPgRose_keeps (s : State) : Keeps 2446706958649962961830658 s (brPgRose s) := by
  unfold brPgRose
  refine Keeps.each (fun _ _ => ?_) ?_
  · refine Keeps.ite ?_ ?_
    · refine Keeps.step (brEnqueue_keeps ..) rfl ?_
      exact Keeps.refl _ _
    · exact Keeps.refl _ _
  · exact Keeps.refl _ _

theorem branchesCool_keeps (s : State) : Keeps 2446706958649962961830658 s (branchesCool s) := by
  unfold branchesCool
  refine Keeps.step (brPgRose_keeps ..) rfl ?_
  exact Keeps.refl _ _

theorem execOvertempClear_keeps (s : State) : OutKeeps 2446706958649962961830658 s (execOvertempClear s) := by
  unfold execOvertempClear
  refine OutKeeps.next ?_
  refine Keeps.ite ?_ ?_
  · refine Keeps.step (branchesCool_keeps ..) rfl ?_
    refine Keeps.step (State.wr_keeps 41 (.inl rfl) ..) rfl ?_
    exact Keeps.refl _ _
  · exact Keeps.refl _ _

theorem execPageStop_keeps (x0 : Nat) (x1 : By) (x2 : Bool) (s : State) :
    OutKeeps 633825300114114699769065503598 s (execPageStop x0 x1 x2 s) := by
  unfold execPageStop
  refine OutKeeps.next ?_
  refine Keeps.step (busStore_keeps ..) rfl ?_
  exact Keeps.refl _ _

theorem pdWatch_keeps (s : State) (x1 : Nat) (x2 : Bool) (x3 x4 : Nat) : Keeps 1073741824 s (pdWatch s x1 x2 x3 x4) := by
  unfold pdWatch
  refine Keeps.step (setPd_keeps ..) rfl ?_
  exact Keeps.refl _ _

theorem amsEnd_keeps (s : State) (x1 : Nat) : Keeps 1073741824 s (amsEnd s x1) := by
  unfold amsEnd
  refine Keeps.step (setPd_keeps ..) rfl ?_
  exact Keeps.refl _ _

theorem pdStop_keeps (s : State) (x1 x2 : Nat) : Keeps 1073741824 s (pdStop s x1 x2) := by
  unfold pdStop
  refine Keeps.step (setPd_keeps ..) rfl ?_
  exact Keeps.refl _ _

theorem swapBegin_keeps (s : State) (x1 : Nat) : Keeps 113857916112324403397122 s (swapBegin s x1) := by
  unfold swapBegin
  refine Keeps.ite ?_ ?_
  · refine Keeps.step (pdStart_keeps ..) rfl ?_
    refine Keeps.step (pdSend_keeps ..) rfl ?_
    refine Keeps.step (setPd_keeps ..) rfl ?_
    refine Keeps.step (pdDriveOff_keeps ..) rfl ?_
    refine Keeps.step (pdWatch_keeps ..) rfl ?_
    refine Keeps.step (pdStop_keeps ..) rfl ?_
    refine Keeps.step (State.pdWr_keeps ..) rfl ?_
    exact Keeps.refl _ _
  · refine Keeps.step (pdStart_keeps ..) rfl ?_
    refine Keeps.step (setPd_keeps ..) rfl ?_
    refine Keeps.step (pdWatch_keeps ..) rfl ?_
    refine Keeps.step (pdStop_keeps ..) rfl ?_
    refine Keeps.step (State.pdWr_keeps ..) rfl ?_
    exact Keeps.refl _ _

theorem execPartnerAccept_keeps (x0 : Nat) (x1 : Bool) (s : State) :
    OutKeeps 113857916112324403397122 s (execPartnerAccept x0 x1 s) := by
  unfold execPartnerAccept
  refine OutKeeps.next ?_
  refine Keeps.ite ?_ ?_
  · refine Keeps.ite ?_ ?_
    · refine Keeps.ite ?_ ?_
      · refine Keeps.step (swapBegin_keeps ..) rfl ?_
        refine Keeps.step (pdStop_keeps ..) rfl ?_
        exact Keeps.refl _ _
      · refine Keeps.step (pdComplete_keeps ..) rfl ?_
        refine Keeps.step (amsEnd_keeps ..) rfl ?_
        refine Keeps.step (pdStop_keeps ..) rfl ?_
        exact Keeps.refl _ _
    · refine Keeps.ite ?_ ?_
      · refine Keeps.ite ?_ ?_
        · refine Keeps.step (pdStart_keeps ..) rfl ?_
          refine Keeps.step (setPd_keeps ..) rfl ?_
          refine Keeps.step (pdWatch_keeps ..) rfl ?_
          refine Keeps.step (pdStop_keeps ..) rfl ?_
          exact Keeps.refl _ _
        · refine Keeps.step (pdComplete_keeps ..) rfl ?_
          refine Keeps.step (amsEnd_keeps ..) rfl ?_
          refine Keeps.step (pdStop_keeps ..) rfl ?_
          exact Keeps.refl _ _
      · refine Keeps.ite ?_ ?_
        · refine Keeps.ite ?_ ?_
          · exact Keeps.refl _ _
          · refine Keeps.step (pdComplete_keeps ..) rfl ?_
            refine Keeps.step (amsEnd_keeps ..) rfl ?_
            refine Keeps.step (pdStop_keeps ..) rfl ?_
            exact Keeps.refl _ _
        · refine Keeps.ite ?_ ?_
          · refine Keeps.step (pdComplete_keeps ..) rfl ?_
            refine Keeps.step (amsEnd_keeps ..) rfl ?_
            refine Keeps.step (pdStop_keeps ..) rfl ?_
            exact Keeps.refl _ _
          · exact Keeps.refl _ _
  · exact Keeps.refl _ _

theorem sinkTxEnd_keeps (s : State) : Keeps 115038517830956604291906 s (sinkTxEnd s) := by
  unfold sinkTxEnd
  dsimp only
  split
  · refine Keeps.ite ?_ ?_
    · refine Keeps.ite ?_ ?_
      · refine Keeps.step (pdOpRun_keeps ..) rfl ?_
        refine Keeps.step (setPd_keeps ..) rfl ?_
        exact Keeps.refl _ _
      · refine Keeps.step (pdComplete_keeps ..) rfl ?_
        refine Keeps.step (setPd_keeps ..) rfl ?_
        exact Keeps.refl _ _
    · exact Keeps.refl _ _
  · exact Keeps.refl _ _

theorem execPdTimerExpiry_keeps (x0 x1 : Nat) (s : State) : OutKeeps 115038517830956604291906 s (execPdTimerExpiry x0 x1 s) := by
  unfold execPdTimerExpiry
  refine OutKeeps.next ?_
  refine Keeps.ite ?_ ?_
  · refine Keeps.ite ?_ ?_
    · refine Keeps.ite ?_ ?_
      · refine Keeps.step (hardReset_keeps ..) rfl ?_
        refine Keeps.step (pdComplete_keeps ..) rfl ?_
        refine Keeps.step (pdStop_keeps ..) rfl ?_
        exact Keeps.refl _ _
      · refine Keeps.step (pdComplete_keeps ..) rfl ?_
        refine Keeps.step (amsEnd_keeps ..) rfl ?_
        refine Keeps.step (pdStop_keeps ..) rfl ?_
        exact Keeps.refl _ _
    · refine Keeps.ite ?_ ?_
      · refine Keeps.ite ?_ ?_
        · refine Keeps.step (pdOfferNow_keeps ..) rfl ?_
          refine Keeps.step (pdStop_keeps ..) rfl ?_
          exact Keeps.refl _ _
        · refine Keeps.step (pdStop_keeps ..) rfl ?_
          exact Keeps.refl _ _
      · refine Keeps.ite ?_ ?_
        · refine Keeps.step (hardReset_keeps ..) rfl ?_
          refine Keeps.step (pdStop_keeps ..) rfl ?_
          exact Keeps.refl _ _
        · refine Keeps.ite ?_ ?_
          · refine Keeps.step (hardReset_keeps ..) rfl ?_
            refine Keeps.step (pdFault_keeps ..) rfl ?_
            refine Keeps.step (pdStop_keeps ..) rfl ?_
            exact Keeps.refl _ _
          · refine Keeps.ite ?_ ?_
            · refine Keeps.step (pdStartAt_keeps ..) rfl ?_
              refine Keeps.step (pdDriveOff_keeps ..) rfl ?_
              refine Keeps.step (pdStop_keeps ..) rfl ?_
              exact Keeps.refl _ _
            · refine Keeps.ite ?_ ?_
              · refine Keeps.ite ?_ ?_
                · refine Keeps.step (pdStop_keeps ..) rfl ?_
                  exact Keeps.refl _ _
                · refine Keeps.step (pdOfferNow_keeps ..) rfl ?_
                  refine Keeps.step (pdDrive_keeps ..) rfl ?_
                  refine Keeps.step (pdStop_keeps ..) rfl ?_
                  exact Keeps.refl _ _
              · refine Keeps.ite ?_ ?_
                · refine Keeps.step (sinkTxEnd_keeps ..) rfl ?_
                  refine Keeps.step (pdStop_keeps ..) rfl ?_
                  exact Keeps.refl _ _
                · refine Keeps.step (pdStop_keeps ..) rfl ?_
                  exact Keeps.refl _ _
  · exact Keeps.refl _ _

theorem execPeek_keeps (x0 : Nat) (x1 : By) (s : State) : OutKeeps 633825300114114699769065503598 s (execPeek x0 x1 s) := by
  unfold execPeek
  refine OutKeeps.next ?_
  refine Keeps.step (qCmdWrite_keeps ..) rfl ?_
  exact Keeps.refl _ _

theorem pendingExpire_keeps (s : State) : Keeps 521427331176459813378 s (pendingExpire s) := by
  unfold pendingExpire
  refine Keeps.ite ?_ ?_
  · exact Keeps.refl _ _
  · refine Keeps.foldl (fun _ _ => ?_) _ _ ?_
    · refine Keeps.ite ?_ ?_
      · refine Keeps.step (freeRec_keeps ..) rfl ?_
        refine Keeps.step (State.inc_keeps 58 group_drift ..) rfl ?_
        refine Keeps.step (crcCheck_keeps ..) rfl ?_
        exact Keeps.refl _ _
      · refine Keeps.step (crcCheck_keeps ..) rfl ?_
        exact Keeps.refl _ _
    · exact Keeps.refl _ _

theorem execPendingExpired_keeps (s : State) : OutKeeps 521427331176459813378 s (execPendingExpired s) := by
  unfold execPendingExpired
  refine OutKeeps.next ?_
  refine Keeps.ite ?_ ?_
  · refine Keeps.step (pendingExpire_keeps ..) rfl ?_
    exact Keeps.refl _ _
  · exact Keeps.refl _ _

theorem execPgQualified_keeps (x0 x1 : Nat) (s : State) : OutKeeps 158059307903889149613144898 s (execPgQualified x0 x1 s) := by
  unfold execPgQualified
  refine OutKeeps.next ?_
  refine Keeps.ite ?_ ?_
  · refine Keeps.ite ?_ ?_
    · refine Keeps.ite ?_ ?_
      · refine Keeps.step (supplyJudge_keeps ..) rfl ?_
        refine Keeps.ite ?_ ?_
        · refine Keeps.step (setPower_keeps ..) rfl ?_
          refine Keeps.step (svcOverlap_keeps ..) rfl ?_
          refine Keeps.step (brPgRose_keeps ..) rfl ?_
          refine Keeps.step (setPg_keeps ..) rfl ?_
          refine Keeps.step (setCtlState_keeps ..) rfl ?_
          refine Keeps.step (setCtl_keeps ..) rfl ?_
          refine Keeps.step (State.coreAt_keeps ..) rfl ?_
          exact Keeps.refl _ _
        · refine Keeps.step (svcOverlap_keeps ..) rfl ?_
          refine Keeps.step (brPgRose_keeps ..) rfl ?_
          refine Keeps.step (setPg_keeps ..) rfl ?_
          refine Keeps.step (setCtlState_keeps ..) rfl ?_
          refine Keeps.step (setCtl_keeps ..) rfl ?_
          refine Keeps.step (State.coreAt_keeps ..) rfl ?_
          exact Keeps.refl _ _
      · refine Keeps.step (svcOverlap_keeps ..) rfl ?_
        refine Keeps.step (brPgRose_keeps ..) rfl ?_
        refine Keeps.step (setPg_keeps ..) rfl ?_
        refine Keeps.step (setCtlState_keeps ..) rfl ?_
        refine Keeps.step (setCtl_keeps ..) rfl ?_
        refine Keeps.step (State.coreAt_keeps ..) rfl ?_
        exact Keeps.refl _ _
    · refine Keeps.step (setPg_keeps ..) rfl ?_
      refine Keeps.step (setCtlState_keeps ..) rfl ?_
      refine Keeps.step (setCtl_keeps ..) rfl ?_
      refine Keeps.step (State.coreAt_keeps ..) rfl ?_
      exact Keeps.refl _ _
  · exact Keeps.refl _ _

theorem pioCnt_keeps (s : State) (x1 x2 : Nat) : Keeps 295147906278864453634 s (pioCnt s x1 x2) := by
  unfold pioCnt
  refine Keeps.step (State.wr_keeps 68 group_pio ..) rfl ?_
  exact Keeps.refl _ _

theorem pioSr_keeps (s : State) (x1 x2 : Nat) : Keeps 295147906278864453634 s (pioSr s x1 x2) := by
  unfold pioSr
  refine Keeps.step (State.wr_keeps 68 group_pio ..) rfl ?_
  exact Keeps.refl _ _

theorem execPioPush_keeps (x0 : Nat) (s : State) : OutKeeps 521120523451861303810 s (execPioPush x0 s) := by
  unfold execPioPush
  refine OutKeeps.next ?_
  refine Keeps.step (pioTake_keeps (n := 521120523451861303810) (hr := fun _ _ => ?_) ..) rfl ?_
  · refine Keeps.ite ?_ ?_
    · refine Keeps.step (pioNext_keeps ..) rfl ?_
      refine Keeps.ite ?_ ?_
      · refine Keeps.step (pioCnt_keeps ..) rfl ?_
        refine Keeps.step (pioSr_keeps ..) rfl ?_
        refine Keeps.step (State.setEng_keeps ..) rfl ?_
        exact Keeps.refl _ _
      · refine Keeps.step (State.setEng_keeps ..) rfl ?_
        exact Keeps.refl _ _
    · refine Keeps.ite ?_ ?_
      · refine Keeps.step (pioNext_keeps ..) rfl ?_
        refine Keeps.ite ?_ ?_
        · refine Keeps.step (pioCnt_keeps ..) rfl ?_
          refine Keeps.step (pioSr_keeps ..) rfl ?_
          refine Keeps.step (pioEv_keeps ..) rfl ?_
          refine Keeps.step (State.wr_keeps 68 group_pio ..) rfl ?_
          exact Keeps.refl _ _
        · refine Keeps.step (pioEv_keeps ..) rfl ?_
          refine Keeps.step (State.wr_keeps 68 group_pio ..) rfl ?_
          exact Keeps.refl _ _
      · refine Keeps.step (pioStall_keeps ..) rfl ?_
        exact Keeps.refl _ _
  · exact Keeps.refl _ _

theorem execPop_keeps (x0 : Nat) (x1 : By) (s : State) : OutKeeps 633825300114114699769065503598 s (execPop x0 x1 s) := by
  unfold execPop
  refine OutKeeps.next ?_
  refine Keeps.step (qCmdWrite_keeps ..) rfl ?_
  exact Keeps.refl _ _

theorem execPortDown_keeps (x0 : Nat) (s : State) : OutKeeps 1701740256482622143298 s (execPortDown x0 s) := by
  unfold execPortDown
  refine OutKeeps.next ?_
  refine Keeps.ite ?_ ?_
  · refine Keeps.step (flushFull_keeps ..) rfl ?_
    exact Keeps.refl _ _
  · exact Keeps.refl _ _

theorem resetPage_keeps (s : State) (x1 : Nat) : Keeps 633825300114114699648839974914 s (resetPage s x1) := by
  refine Keeps.put_regs _ _ fun h => ?_
  simp only [State.wf, Bool.and_eq_true] at h ⊢
  exact ⟨alSorted_filter Key.lt_strictOrder _ h.1, h.2⟩

theorem powerRestart_keeps (s : State) : Keeps 633825300114114699649376845826 s (powerRestart s) := by
  unfold powerRestart
  refine Keeps.step (mainSeating_keeps ..) rfl ?_
  refine Keeps.step (State.wr_keeps 73 group_power ..) rfl ?_
  refine Keeps.step (State.wr_keeps 73 group_power ..) rfl ?_
  refine Keeps.step (State.wr_keeps 73 group_power ..) rfl ?_
  refine Keeps.step (Keeps.put_power ..) rfl ?_
  refine Keeps.each (fun _ _ => ?_) ?_
  · refine Keeps.step (resetPage_keeps ..) rfl ?_
    exact Keeps.refl _ _
  · exact Keeps.refl _ _

theorem execPowerEntryRestart_keeps (s : State) : OutKeeps 633825300114114699721465494338 s (execPowerEntryRestart s) := by
  unfold execPowerEntryRestart
  refine OutKeeps.next ?_
  refine Keeps.step (afterPower_keeps ..) rfl ?_
  refine Keeps.step (powerRestart_keeps ..) rfl ?_
  exact Keeps.refl _ _

theorem execPpmWindow_keeps (x0 : Nat) (x1 : Int) (s : State) : OutKeeps 1703865955506674432834 s (execPpmWindow x0 x1 s) := by
  unfold execPpmWindow
  refine OutKeeps.next ?_
  refine Keeps.ite ?_ ?_
  · refine Keeps.ite ?_ ?_
    · refine Keeps.step (laneGoDown_keeps ..) rfl ?_
      refine Keeps.step (State.setLane_keeps ..) rfl ?_
      refine Keeps.ite ?_ ?_
      · refine Keeps.step (State.wr_keeps 45 group_lane ..) rfl ?_
        refine Keeps.ite ?_ ?_
        · refine Keeps.step (raise_keeps ..) rfl ?_
          refine Keeps.step (State.wr_keeps 45 group_lane ..) rfl ?_
          refine Keeps.step (State.wr_keeps 45 group_lane ..) rfl ?_
          exact Keeps.refl _ _
        · refine Keeps.step (State.wr_keeps 45 group_lane ..) rfl ?_
          exact Keeps.refl _ _
      · refine Keeps.ite ?_ ?_
        · refine Keeps.step (raise_keeps ..) rfl ?_
          refine Keeps.step (State.wr_keeps 45 group_lane ..) rfl ?_
          refine Keeps.step (State.wr_keeps 45 group_lane ..) rfl ?_
          exact Keeps.refl _ _
        · refine Keeps.step (State.wr_keeps 45 group_lane ..) rfl ?_
          exact Keeps.refl _ _
    · refine Keeps.step (State.setLane_keeps ..) rfl ?_
      refine Keeps.ite ?_ ?_
      · refine Keeps.step (State.wr_keeps 45 group_lane ..) rfl ?_
        refine Keeps.ite ?_ ?_
        · refine Keeps.step (raise_keeps ..) rfl ?_
          refine Keeps.step (State.wr_keeps 45 group_lane ..) rfl ?_
          refine Keeps.step (State.wr_keeps 45 group_lane ..) rfl ?_
          exact Keeps.refl _ _
        · refine Keeps.step (State.wr_keeps 45 group_lane ..) rfl ?_
          exact Keeps.refl _ _
      · refine Keeps.ite ?_ ?_
        · refine Keeps.step (raise_keeps ..) rfl ?_
          refine Keeps.step (State.wr_keeps 45 group_lane ..) rfl ?_
          refine Keeps.step (State.wr_keeps 45 group_lane ..) rfl ?_
          exact Keeps.refl _ _
        · refine Keeps.step (State.wr_keeps 45 group_lane ..) rfl ?_
          exact Keeps.refl _ _
  · exact Keeps.refl _ _

theorem execPrSwap_keeps (x0 : Nat) (x1 : By) (s : State) : OutKeeps 633825300114114699769065503598 s (execPrSwap x0 x1 s) := by
  unfold execPrSwap
  refine OutKeeps.next ?_
  refine Keeps.step (pdWrite_keeps ..) rfl ?_
  exact Keeps.refl _ _

theorem execPrSwapReceived_keeps (x0 : Nat) (s : State) : OutKeeps 113857916112324403397122 s (execPrSwapReceived x0 s) := by
  unfold execPrSwapReceived
  refine OutKeeps.next ?_
  refine Keeps.ite ?_ ?_
  · refine Keeps.ite ?_ ?_
    · refine Keeps.ite ?_ ?_
      · exact Keeps.refl _ _
      · refine Keeps.ite ?_ ?_
        · refine Keeps.step (swapBegin_keeps ..) rfl ?_
          refine Keeps.step (pdSend_keeps ..) rfl ?_
          refine Keeps.step (pdStop_keeps ..) rfl ?_
          refine Keeps.step (pdComplete_keeps ..) rfl ?_
          refine Keeps.step (amsEnd_keeps ..) rfl ?_
          exact Keeps.refl _ _
        · refine Keeps.step (pdSend_keeps ..) rfl ?_
          refine Keeps.step (pdStop_keeps ..) rfl ?_
          refine Keeps.step (pdComplete_keeps ..) rfl ?_
          refine Keeps.step (amsEnd_keeps ..) rfl ?_
          exact Keeps.refl _ _
    · refine Keeps.ite ?_ ?_
      · refine Keeps.step (swapBegin_keeps ..) rfl ?_
        refine Keeps.step (pdSend_keeps ..) rfl ?_
        exact Keeps.refl _ _
      · refine Keeps.step (pdSend_keeps ..) rfl ?_
        exact Keeps.refl _ _
  · exact Keeps.refl _ _

theorem sendProbe'_keeps (s : State) (x1 : Nat) (x2 : Frame) : Keeps 36283883716674 s (sendProbe' s x1 x2) := by
  unfold sendProbe'
  refine Keeps.step (State.inc_keeps 45 group_lane ..) rfl ?_
  refine Keeps.step (State.emit_keeps ..) rfl ?_
  exact Keeps.refl _ _

theorem execProbe_keeps (x0 : Nat) (x1 : Frame) (x2 x3 : Nat) (s : State) :
    OutKeeps 521121403061146767938 s (execProbe x0 x1 x2 x3 s) := by
  unfold execProbe
  refine OutKeeps.next ?_
  refine Keeps.ite ?_ ?_
  · refine Keeps.step (sendProbe'_keeps ..) rfl ?_
    refine Keeps.step (rxCount_keeps ..) rfl ?_
    exact Keeps.refl _ _
  · exact Keeps.refl _ _

theorem showSide_keeps (s : State) (x1 : Nat) (x2 : Bool) : Keeps 18691697672194 s (showSide s x1 x2) := by
  unfold showSide
  refine Keeps.ite ?_ ?_
  · refine Keeps.step (State.setBit_keeps 44 group_time ..) rfl ?_
    exact Keeps.refl _ _
  · exact Keeps.refl _ _

theorem setProbe_keeps (s : State) (x1 : Nat) (x2 : ProbeSt) : Keeps 2048 s (setProbe s x1 x2) := by
  unfold setProbe
  refine Keeps.step (Keeps.put_time (ht := ⟨rfl, rfl⟩) ..) rfl ?_
  exact Keeps.refl _ _

theorem probeFailed_keeps (s : State) (x1 : Nat) : Keeps 521120541044030573058 s (probeFailed s x1) := by
  unfold probeFailed
  refine Keeps.ite ?_ ?_
  · refine Keeps.step (raise_keeps ..) rfl ?_
    refine Keeps.step (showSide_keeps ..) rfl ?_
    refine Keeps.step (setProbe_keeps ..) rfl ?_
    refine Keeps.step (setProbe_keeps ..) rfl ?_
    exact Keeps.refl _ _
  · refine Keeps.step (setProbe_keeps ..) rfl ?_
    exact Keeps.refl _ _

theorem execProbeFail_keeps (x0 : Nat) (s : State) : OutKeeps 521120541044030573058 s (execProbeFail x0 s) := by
  unfold execProbeFail
  refine OutKeeps.next ?_
  refine Keeps.ite ?_ ?_
  · refine Keeps.step (probeFailed_keeps ..) rfl ?_
    exact Keeps.refl _ _
  · exact Keeps.refl _ _

theorem probeValue_keeps (s : State) (x1 : Nat) (x2 : Int) : Keeps 18691697674242 s (probeValue s x1 x2) := by
  unfold probeValue
  refine Keeps.ite ?_ ?_
  · refine Keeps.step (State.inc_keeps 44 group_time ..) rfl ?_
    refine Keeps.step (setProbe_keeps ..) rfl ?_
    exact Keeps.refl _ _
  · refine Keeps.ite ?_ ?_
    · refine Keeps.step (showSide_keeps ..) rfl ?_
      refine Keeps.step (State.wr_keeps 44 group_time ..) rfl ?_
      refine Keeps.step (setProbe_keeps ..) rfl ?_
      exact Keeps.refl _ _
    · refine Keeps.step (State.wr_keeps 44 group_time ..) rfl ?_
      refine Keeps.step (setProbe_keeps ..) rfl ?_
      exact Keeps.refl _ _

theorem execProbeReply_keeps (x0 : Nat) (x1 : Frame) (x2 : Nat) (s : State) :
    OutKeeps 521121420653332814338 s (execProbeReply x0 x1 x2 s) := by
  unfold execProbeReply
  refine OutKeeps.next ?_
  refine Keeps.ite ?_ ?_
  · dsimp only
    split
    · refine Keeps.ite ?_ ?_
      · refine Keeps.step (probeValue_keeps ..) rfl ?_
        refine Keeps.step (rxCount_keeps ..) rfl ?_
        exact Keeps.refl _ _
      · refine Keeps.step (rxCount_keeps ..) rfl ?_
        exact Keeps.refl _ _
    · refine Keeps.step (rxCount_keeps ..) rfl ?_
      exact Keeps.refl _ _
  · exact Keeps.refl _ _

theorem execProbeSend_keeps (x0 x1 : Nat) (s : State) : OutKeeps 521120576228402661954 s (execProbeSend x0 x1 s) := by
  unfold execProbeSend
  refine OutKeeps.next ?_
  refine Keeps.ite ?_ ?_
  · refine Keeps.step (sendProbe'_keeps ..) rfl ?_
    refine Keeps.step (setProbe_keeps ..) rfl ?_
    refine Keeps.ite ?_ ?_
    · refine Keeps.step (probeFailed_keeps ..) rfl ?_
      exact Keeps.refl _ _
    · exact Keeps.refl _ _
  · exact Keeps.refl _ _

theorem execProgram_keeps (x0 : By) (s : State) : OutKeeps 633825300114114699769065503598 s (execProgram x0 s) := by
  unfold execProgram
  refine OutKeeps.next ?_
  refine Keeps.step (busStore_keeps ..) rfl ?_
  exact Keeps.refl _ _

theorem execProgramKey_keeps (x0 : By) (x1 : Nat) (s : State) :
    OutKeeps 633825300114114699769065503598 s (execProgramKey x0 x1 s) := by
  unfold execProgramKey
  refine OutKeeps.next ?_
  refine Keeps.step (otpWrite_keeps ..) rfl ?_
  exact Keeps.refl _ _

theorem swapDone_keeps (s : State) (x1 x2 : Nat) : Keeps 38300052386410079977986 s (swapDone s x1 x2) := by
  unfold swapDone
  refine Keeps.step (judgeBudget_keeps ..) rfl ?_
  refine Keeps.step (pdEv_keeps ..) rfl ?_
  refine Keeps.step (pdComplete_keeps ..) rfl ?_
  refine Keeps.step (State.inc_keeps 75 group_pd ..) rfl ?_
  refine Keeps.step (setPd_keeps ..) rfl ?_
  refine Keeps.step (amsEnd_keeps ..) rfl ?_
  refine Keeps.step (State.zero_keeps 75 (fun _ _ => group_pd) ..) rfl ?_
  refine Keeps.step (State.pdWr_keeps ..) rfl ?_
  refine Keeps.step (State.pdWr_keeps ..) rfl ?_
  exact Keeps.refl _ _

theorem pdContract_keeps (s : State) (x1 x2 x3 : Nat) : Keeps 38300052386409006236162 s (pdContract s x1 x2 x3) := by
  unfold pdContract
  refine Keeps.step (pdEv_keeps ..) rfl ?_
  refine Keeps.ite ?_ ?_
  · refine Keeps.step (judgeBudget_keeps ..) rfl ?_
    refine Keeps.step (State.pdWr_keeps ..) rfl ?_
    refine Keeps.step (State.pdWr_keeps ..) rfl ?_
    refine Keeps.step (State.pdWr_keeps ..) rfl ?_
    exact Keeps.refl _ _
  · refine Keeps.step (State.pdWr_keeps ..) rfl ?_
    refine Keeps.step (State.pdWr_keeps ..) rfl ?_
    refine Keeps.step (State.pdWr_keeps ..) rfl ?_
    exact Keeps.refl _ _

theorem execPsRdy_keeps (x0 : Nat) (s : State) : OutKeeps 115038517830956604291906 s (execPsRdy x0 s) := by
  unfold execPsRdy
  refine OutKeeps.next ?_
  refine Keeps.ite ?_ ?_
  · refine Keeps.ite ?_ ?_
    · refine Keeps.step (pdContract_keeps ..) rfl ?_
      refine Keeps.step (pdComplete_keeps ..) rfl ?_
      refine Keeps.step (amsEnd_keeps ..) rfl ?_
      refine Keeps.step (pdStop_keeps ..) rfl ?_
      exact Keeps.refl _ _
    · refine Keeps.ite ?_ ?_
      · refine Keeps.step (swapDone_keeps ..) rfl ?_
        refine Keeps.step (pdWatch_keeps ..) rfl ?_
        exact Keeps.refl _ _
      · refine Keeps.ite ?_ ?_
        · refine Keeps.ite ?_ ?_
          · refine Keeps.step (hardReset_keeps ..) rfl ?_
            exact Keeps.refl _ _
          · refine Keeps.step (pdOfferNow_keeps ..) rfl ?_
            refine Keeps.step (swapDone_keeps ..) rfl ?_
            refine Keeps.step (pdSend_keeps ..) rfl ?_
            refine Keeps.step (pdWatch_keeps ..) rfl ?_
            refine Keeps.step (pdDrive_keeps ..) rfl ?_
            refine Keeps.step (setPd_keeps ..) rfl ?_
            refine Keeps.ite ?_ ?_
            · refine Keeps.step (vbusFall_keeps ..) rfl ?_
              exact Keeps.refl _ _
            · exact Keeps.refl _ _
        · exact Keeps.refl _ _
  · exact Keeps.refl _ _

theorem execPubReady_keeps (x0 : By) (x1 : Bool) (x2 : Nat) (s : State) :
    OutKeeps 633825300114114699769065503598 s (execPubReady x0 x1 x2 s) := by
  unfold execPubReady
  refine OutKeeps.next ?_
  refine Keeps.step (busStore_keeps ..) rfl ?_
  exact Keeps.refl _ _

theorem pubDeliver_keeps (s : State) (x1 : Frame) (x2 : Nat) : Keeps 523411448287293530882 s (pubDeliver s x1 x2) := by
  unfold pubDeliver
  refine Keeps.ite ?_ ?_
  · exact Keeps.refl _ _
  · refine Keeps.ite ?_ ?_
    · refine Keeps.step (State.inc_keeps 51 group_sub ..) rfl ?_
      exact Keeps.refl _ _
    · refine Keeps.ite ?_ ?_
      · refine Keeps.step (countRaise_keeps 51 group_sub ..) rfl ?_
        exact Keeps.refl _ _
      · refine Keeps.step (settleEdges_keeps ..) rfl ?_
        refine Keeps.foldl (fun _ _ => ?_) _ _ ?_
        · refine Keeps.step (feedEntry_keeps ..) rfl ?_
          exact Keeps.refl _ _
        · exact Keeps.refl _ _

theorem execPublishReceived_keeps (x0 : Frame) (x1 : Nat) (s : State) :
    OutKeeps 523411448287293532930 s (execPublishReceived x0 x1 s) := by
  unfold execPublishReceived
  refine OutKeeps.next ?_
  refine Keeps.ite ?_ ?_
  · refine Keeps.step (pubDeliver_keeps ..) rfl ?_
    refine Keeps.step (State.atTime_keeps ..) rfl ?_
    exact Keeps.refl _ _
  · exact Keeps.refl _ _

theorem execPull_keeps (x0 : Nat) (s : State) : OutKeeps 521120523451861303810 s (execPull x0 s) := by
  unfold execPull
  refine OutKeeps.next ?_
  refine Keeps.step (pioTake_keeps (n := 521120523451861303810) (hr := fun _ _ => ?_) ..) rfl ?_
  · split
    · refine Keeps.step (pioNext_keeps ..) rfl ?_
      refine Keeps.step (pioCnt_keeps ..) rfl ?_
      refine Keeps.step (pioSr_keeps ..) rfl ?_
      refine Keeps.step (State.setEng_keeps ..) rfl ?_
      exact Keeps.refl _ _
    · refine Keeps.ite ?_ ?_
      · refine Keeps.step (pioNext_keeps ..) rfl ?_
        refine Keeps.step (pioEv_keeps ..) rfl ?_
        refine Keeps.step (State.wr_keeps 68 group_pio ..) rfl ?_
        exact Keeps.refl _ _
      · refine Keeps.step (pioStall_keeps ..) rfl ?_
        exact Keeps.refl _ _
  · exact Keeps.refl _ _

theorem execPush_keeps (x0 : By) (x1 x2 : Nat) (s : State) : OutKeeps 633825300114114699769065503598 s (execPush x0 x1 x2 s) := by
  unfold execPush
  refine OutKeeps.next ?_
  refine Keeps.step (busStore_keeps ..) rfl ?_
  exact Keeps.refl _ _

theorem execPwrCtrlWrite_keeps (x0 : By) (x1 : Nat) (s : State) :
    OutKeeps 633825300114114699769065503598 s (execPwrCtrlWrite x0 x1 s) := by
  unfold execPwrCtrlWrite
  refine OutKeeps.next ?_
  refine Keeps.step (busStore_keeps ..) rfl ?_
  exact Keeps.refl _ _

theorem onQuery_keeps (s : State) (x1 : Frame) : Keeps 521427612651436532226 s (onQuery s x1) := by
  unfold onQuery
  refine Keeps.step (answerTo_keeps ..) rfl ?_
  refine Keeps.step (findItem_keeps ..) rfl ?_
  exact Keeps.refl _ _

theorem execQuery_keeps (x0 : Frame) (s : State) : OutKeeps 521427612651436532226 s (execQuery x0 s) := by
  unfold execQuery
  refine OutKeeps.next ?_
  refine Keeps.ite ?_ ?_
  · refine Keeps.step (onQuery_keeps ..) rfl ?_
    exact Keeps.refl _ _
  · exact Keeps.refl _ _

theorem coldReset_keeps (s : State) (x1 : Bool) : Keeps 633825300114114699897948077598 s (coldReset s x1) := by
  unfold coldReset
  refine Keeps.step (State.wr_keeps 90 (group_cause _ _) ..) rfl ?_
  refine Keeps.ite ?_ ?_
  · refine Keeps.step (svcKeep_keeps ..) rfl ?_
    refine Keeps.step (powerRestart_keeps ..) rfl ?_
    refine Keeps.step (resetBase_keeps ..) rfl ?_
    exact Keeps.refl _ _
  · refine Keeps.step (resetBase_keeps ..) rfl ?_
    exact Keeps.refl _ _

theorem execRailFail_keeps (s : State) : OutKeeps 633825300114114699906538012190 s (execRailFail s) := by
  unfold execRailFail
  refine OutKeeps.next ?_
  refine Keeps.ite ?_ ?_
  · refine Keeps.ite ?_ ?_
    · refine Keeps.step (Keeps.put_ao ..) rfl ?_
      refine Keeps.step (coldReset_keeps ..) rfl ?_
      refine Keeps.step (Keeps.put_node ..) rfl ?_
      refine Keeps.ite ?_ ?_
      · refine Keeps.step (vbusFall_keeps ..) rfl ?_
        exact Keeps.refl _ _
      · exact Keeps.refl _ _
    · refine Keeps.step (coldReset_keeps ..) rfl ?_
      refine Keeps.step (Keeps.put_node ..) rfl ?_
      refine Keeps.ite ?_ ?_
      · refine Keeps.step (vbusFall_keeps ..) rfl ?_
        exact Keeps.refl _ _
      · exact Keeps.refl _ _
  · exact Keeps.refl _ _

theorem execRailsGood_keeps (s : State) : OutKeeps 633825300114114699897948077598 s (execRailsGood s) := by
  unfold execRailsGood
  refine OutKeeps.next ?_
  refine Keeps.ite ?_ ?_
  · exact Keeps.refl _ _
  · refine Keeps.step (coldReset_keeps ..) rfl ?_
    refine Keeps.step (Keeps.put_node ..) rfl ?_
    exact Keeps.refl _ _

theorem execRampDone_keeps (x0 x1 : Nat) (s : State) : OutKeeps 28334198898317919780866 s (execRampDone x0 x1 s) := by
  unfold execRampDone
  refine OutKeeps.next ?_
  refine Keeps.ite ?_ ?_
  · refine Keeps.step (setCtlState_keeps ..) rfl ?_
    refine Keeps.step (setCtl_keeps ..) rfl ?_
    refine Keeps.ite ?_ ?_
    · refine Keeps.step (Keeps.put_power ..) rfl ?_
      refine Keeps.step (keepEnergy_keeps ..) rfl ?_
      refine Keeps.step (State.coreAt_keeps ..) rfl ?_
      exact Keeps.refl _ _
    · refine Keeps.step (keepEnergy_keeps ..) rfl ?_
      refine Keeps.step (State.coreAt_keeps ..) rfl ?_
      exact Keeps.refl _ _
  · exact Keeps.refl _ _

theorem execRd32_keeps (x0 : Frame) (x1 : Bool) (s : State) : OutKeeps 633825300114114699769065504622 s (execRd32 x0 x1 s) := by
  unfold execRd32
  refine OutKeeps.next ?_
  refine Keeps.step (inFrame_keeps ..) rfl ?_
  exact Keeps.refl _ _

theorem execRd64_keeps (x0 : Frame) (x1 : Bool) (s : State) : OutKeeps 633825300114114699769065504622 s (execRd64 x0 x1 s) := by
  unfold execRd64
  refine OutKeeps.next ?_
  refine Keeps.step (inFrame_keeps ..) rfl ?_
  exact Keeps.refl _ _

theorem execRdblk_keeps (x0 : Frame) (x1 : Bool) (s : State) : OutKeeps 633825300114114699769065504622 s (execRdblk x0 x1 s) := by
  unfold execRdblk
  refine OutKeeps.next ?_
  refine Keeps.step (inFrame_keeps ..) rfl ?_
  exact Keeps.refl _ _

theorem execReceiveError_keeps (x0 x1 : Nat) (x2 : Bool) (x3 : Nat) (s : State) :
    OutKeeps 521120523451844526594 s (execReceiveError x0 x1 x2 x3 s) := by
  unfold execReceiveError
  refine OutKeeps.next ?_
  refine Keeps.ite ?_ ?_
  · refine Keeps.step (canRxError_keeps ..) rfl ?_
    exact Keeps.refl _ _
  · exact Keeps.refl _ _

theorem execReclaim_keeps (x0 : Nat) (x1 : By) (s : State) : OutKeeps 633825300114114699769065503598 s (execReclaim x0 x1 s) := by
  unfold execReclaim
  refine OutKeeps.next ?_
  refine Keeps.step (busStore_keeps ..) rfl ?_
  exact Keeps.refl _ _

theorem execRecover_keeps (x0 : Nat) (x1 : By) (s : State) : OutKeeps 633825300114114699769065503598 s (execRecover x0 x1 s) := by
  unfold execRecover
  refine OutKeeps.next ?_
  refine Keeps.step (busStore_keeps ..) rfl ?_
  exact Keeps.refl _ _

theorem execRecoveryEnd_keeps (x0 : Nat) (s : State) : OutKeeps 521120523451844526594 s (execRecoveryEnd x0 s) := by
  unfold execRecoveryEnd
  refine OutKeeps.next ?_
  refine Keeps.ite ?_ ?_
  · refine Keeps.step (setCanErr_keeps ..) rfl ?_
    refine Keeps.each (fun _ _ => ?_) ?_
    · refine Keeps.ite ?_ ?_
      · refine Keeps.step (setMbox_keeps ..) rfl ?_
        exact Keeps.refl _ _
      · exact Keeps.refl _ _
    · refine Keeps.step (State.zero_keeps 66 (fun _ _ => group_can) ..) rfl ?_
      exact Keeps.refl _ _
  · exact Keeps.refl _ _

theorem onRefuse_keeps (s : State) (x1 : Frame) : Keeps 521427612651436532226 s (onRefuse s x1) := by
  unfold onRefuse
  dsimp only
  split
  · refine Keeps.step (askedOf_keeps ..) rfl ?_
    exact Keeps.refl _ _
  · refine Keeps.ite ?_ ?_
    · refine Keeps.step (freeRec_keeps ..) rfl ?_
      refine Keeps.step (driftNote_keeps ..) rfl ?_
      refine Keeps.step (driftCount_keeps ..) rfl ?_
      refine Keeps.step (withdraw_keeps ..) rfl ?_
      refine Keeps.step (askedOf_keeps ..) rfl ?_
      exact Keeps.refl _ _
    · refine Keeps.step (handoffFail_keeps ..) rfl ?_
      refine Keeps.ite ?_ ?_
      · refine Keeps.step (Keeps.put_drift ..) rfl ?_
        refine Keeps.step (askedOf_keeps ..) rfl ?_
        exact Keeps.refl _ _
      · refine Keeps.step (askedOf_keeps ..) rfl ?_
        exact Keeps.refl _ _

theorem execRefuse_keeps (x0 : Frame) (s : State) : OutKeeps 523265081299403694850 s (execRefuse x0 s) := by
  unfold execRefuse
  refine OutKeeps.next ?_
  refine Keeps.ite ?_ ?_
  · refine Keeps.step (checkNow_keeps ..) rfl ?_
    refine Keeps.step (onRefuse_keeps ..) rfl ?_
    exact Keeps.refl _ _
  · exact Keeps.refl _ _

theorem execRegisterWrite_keeps (x0 : By) (x1 x2 x3 : Nat) (s : State) :
    OutKeeps 633825300114114699769065504622 s (execRegisterWrite x0 x1 x2 x3 s) := by
  unfold execRegisterWrite
  refine OutKeeps.next ?_
  refine Keeps.ite ?_ ?_
  · refine Keeps.step (stitchPost_keeps ..) rfl ?_
    exact Keeps.refl _ _
  · refine Keeps.step (busStore_keeps ..) rfl ?_
    exact Keeps.refl _ _

theorem onRelease_keeps (s : State) (x1 : Frame) : Keeps 521427612651436532226 s (onRelease s x1) := by
  unfold onRelease
  refine Keeps.step (answerTo_keeps ..) rfl ?_
  split
  · refine Keeps.ite ?_ ?_
    · refine Keeps.step (resyncJudge_keeps ..) rfl ?_
      refine Keeps.step (freeRec_keeps ..) rfl ?_
      refine Keeps.step (findItem_keeps ..) rfl ?_
      exact Keeps.refl _ _
    · refine Keeps.step (findItem_keeps ..) rfl ?_
      exact Keeps.refl _ _
  · refine Keeps.step (findItem_keeps ..) rfl ?_
    exact Keeps.refl _ _

theorem execRelease_keeps (x0 : Frame) (s : State) : OutKeeps 521427612651436532226 s (execRelease x0 s) := by
  unfold execRelease
  refine OutKeeps.next ?_
  refine Keeps.ite ?_ ?_
  · refine Keeps.step (onRelease_keeps ..) rfl ?_
    exact Keeps.refl _ _
  · exact Keeps.refl _ _

theorem setResv_keeps (s : State) (x1 : Nat) (x2 : Option (Nat × Nat)) : Keeps 4294967296 s (setResv s x1 x2) := by
  unfold setResv
  refine Keeps.step (Keeps.put_cores ..) rfl ?_
  exact Keeps.refl _ _

theorem coreAmo_keeps (s : State) (x1 x2 x3 x4 x5 : Nat) : Keeps 633825300114114699769065504638 s (coreAmo s x1 x2 x3 x4 x5) := by
  unfold coreAmo
  refine Keeps.ite ?_ ?_
  · refine Keeps.step (State.accFault_keeps ..) rfl ?_
    exact Keeps.refl _ _
  · refine Keeps.ite ?_ ?_
    · refine Keeps.step (answer_keeps ..) rfl ?_
      refine Keeps.step (setResv_keeps ..) rfl ?_
      refine Keeps.step (localRead_keeps ..) rfl ?_
      exact Keeps.refl _ _
    · refine Keeps.ite ?_ ?_
      · refine Keeps.ite ?_ ?_
        · refine Keeps.step (answer_keeps ..) rfl ?_
          refine Keeps.step (setResv_keeps ..) rfl ?_
          refine Keeps.step (localWrite_keeps ..) rfl ?_
          refine Keeps.step (State.draw_keeps ..) rfl ?_
          refine Keeps.step (localRead_keeps ..) rfl ?_
          exact Keeps.refl _ _
        · refine Keeps.step (answer_keeps ..) rfl ?_
          refine Keeps.step (setResv_keeps ..) rfl ?_
          refine Keeps.step (State.draw_keeps ..) rfl ?_
          refine Keeps.step (localRead_keeps ..) rfl ?_
          exact Keeps.refl _ _
      · refine Keeps.step (answer_keeps ..) rfl ?_
        refine Keeps.step (localWrite_keeps ..) rfl ?_
        refine Keeps.step (localRead_keeps ..) rfl ?_
        exact Keeps.refl _ _

theorem coreFault_keeps (s : State) (x1 x2 x3 : Nat) : Keeps 1099511627810 s (coreFault s x1 x2 x3) := by
  unfold coreFault
  refine Keeps.step (State.accFault_keeps ..) rfl ?_
  refine Keeps.step (txnCapture_keeps ..) rfl ?_
  exact Keeps.refl _ _

theorem execRemoteAmo_keeps (x0 x1 x2 x3 x4 : Nat) (s : State) :
    OutKeeps 633825300114114699769065504638 s (execRemoteAmo x0 x1 x2 x3 x4 s) := by
  unfold execRemoteAmo
  refine OutKeeps.next ?_
  refine Keeps.ite ?_ ?_
  · split
    · refine Keeps.ite ?_ ?_
      · refine Keeps.step (coreAmo_keeps ..) rfl ?_
        exact Keeps.refl _ _
      · refine Keeps.step (State.accFault_keeps ..) rfl ?_
        exact Keeps.refl _ _
    · refine Keeps.ite ?_ ?_
      · refine Keeps.step (State.accFault_keeps ..) rfl ?_
        exact Keeps.refl _ _
      · refine Keeps.ite ?_ ?_
        · refine Keeps.step (coreFault_keeps ..) rfl ?_
          exact Keeps.refl _ _
        · refine Keeps.ite ?_ ?_
          · refine Keeps.ite ?_ ?_
            · exact Keeps.refl _ _
            · refine Keeps.step (Keeps.put_stitch ..) rfl ?_
              exact Keeps.refl _ _
          · refine Keeps.ite ?_ ?_
            · refine Keeps.step (ownAmo_keeps ..) rfl ?_
              exact Keeps.refl _ _
            · split
              · split
                · refine Keeps.ite ?_ ?_
                  · refine Keeps.step (answer_keeps ..) rfl ?_
                    refine Keeps.step (setHold_keeps ..) rfl ?_
                    exact Keeps.refl _ _
                  · refine Keeps.step (State.accFault_keeps ..) rfl ?_
                    refine Keeps.step (setHold_keeps ..) rfl ?_
                    exact Keeps.refl _ _
                · exact Keeps.refl _ _
              · refine Keeps.ite ?_ ?_
                · refine Keeps.step (coreFault_keeps ..) rfl ?_
                  exact Keeps.refl _ _
                · split
                  · exact Keeps.refl _ _
                  · split
                    · refine Keeps.step (holdTake_keeps ..) rfl ?_
                      rename_i hq1
                      refine Keeps.of_snd hq1 ?_
                      refine Keeps.step (takeTag_keeps ..) rfl ?_
                      exact Keeps.refl _ _
                    · rename_i hq2
                      refine Keeps.of_snd hq2 ?_
                      refine Keeps.step (takeTag_keeps ..) rfl ?_
                      exact Keeps.refl _ _
  · exact Keeps.refl _ _

theorem coreRead_keeps (s : State) (x1 x2 x3 : Nat) : Keeps 633825300114114699719871629090 s (coreRead s x1 x2 x3) := by
  unfold coreRead
  refine Keeps.ite ?_ ?_
  · exact Keeps.refl _ _
  · refine Keeps.ite ?_ ?_
    · refine Keeps.step (answer_keeps ..) rfl ?_
      refine Keeps.step (localRead_keeps ..) rfl ?_
      exact Keeps.refl _ _
    · refine Keeps.step (State.accFault_keeps ..) rfl ?_
      refine Keeps.step (localRead_keeps ..) rfl ?_
      exact Keeps.refl _ _

theorem mgmtLoad_keeps (s : State) (x1 x2 : Nat) : Keeps 633825300114114699719871629090 s (mgmtLoad s x1 x2) := by
  unfold mgmtLoad
  refine Keeps.ite ?_ ?_
  · refine Keeps.step (answer_keeps ..) rfl ?_
    exact Keeps.refl _ _
  · refine Keeps.ite ?_ ?_
    · refine Keeps.step (coreRead_keeps ..) rfl ?_
      exact Keeps.refl _ _
    · refine Keeps.step (State.accFault_keeps ..) rfl ?_
      exact Keeps.refl _ _

theorem execRemoteLoad_keeps (x0 x1 x2 : Nat) (s : State) :
    OutKeeps 633825300114114699719871653666 s (execRemoteLoad x0 x1 x2 s) := by
  unfold execRemoteLoad
  refine OutKeeps.next ?_
  refine Keeps.ite ?_ ?_
  · refine Keeps.step (mgmtLoad_keeps ..) rfl ?_
    exact Keeps.refl _ _
  · refine Keeps.ite ?_ ?_
    · split
      · refine Keeps.ite ?_ ?_
        · refine Keeps.step (coreRead_keeps ..) rfl ?_
          exact Keeps.refl _ _
        · refine Keeps.step (State.accFault_keeps ..) rfl ?_
          exact Keeps.refl _ _
      · refine Keeps.ite ?_ ?_
        · refine Keeps.step (coreFault_keeps ..) rfl ?_
          exact Keeps.refl _ _
        · refine Keeps.ite ?_ ?_
          · exact Keeps.refl _ _
          · refine Keeps.ite ?_ ?_
            · refine Keeps.ite ?_ ?_
              · refine Keeps.step (answer_keeps ..) rfl ?_
                refine Keeps.step (windowRead_keeps ..) rfl ?_
                exact Keeps.refl _ _
              · refine Keeps.step (State.accFault_keeps ..) rfl ?_
                refine Keeps.step (windowRead_keeps ..) rfl ?_
                exact Keeps.refl _ _
            · split
              · refine Keeps.ite ?_ ?_
                · refine Keeps.step (answer_keeps ..) rfl ?_
                  rename_i hq1
                  refine Keeps.of_snd hq1 ?_
                  refine Keeps.step (remoteRead_keeps ..) rfl ?_
                  exact Keeps.refl _ _
                · refine Keeps.ite ?_ ?_
                  · refine Keeps.step (coreFault_keeps ..) rfl ?_
                    rename_i hq2
                    refine Keeps.of_snd hq2 ?_
                    refine Keeps.step (remoteRead_keeps ..) rfl ?_
                    exact Keeps.refl _ _
                  · refine Keeps.step (State.accFault_keeps ..) rfl ?_
                    rename_i hq3
                    refine Keeps.of_snd hq3 ?_
                    refine Keeps.step (remoteRead_keeps ..) rfl ?_
                    exact Keeps.refl _ _
              · rename_i hq4
                refine Keeps.of_snd hq4 ?_
                refine Keeps.step (remoteRead_keeps ..) rfl ?_
                exact Keeps.refl _ _
    · exact Keeps.refl _ _

theorem coreWrite_keeps (s : State) (x1 x2 : Nat) (x3 : List Nat) :
    Keeps 633825300114114699769065504638 s (coreWrite s x1 x2 x3) := by
  unfold coreWrite
  split
  · refine Keeps.step (stitchPost_keeps ..) rfl ?_
    exact Keeps.refl _ _
  · refine Keeps.ite ?_ ?_
    · refine Keeps.step (State.accFault_keeps ..) rfl ?_
      exact Keeps.refl _ _
    · refine Keeps.ite ?_ ?_
      · refine Keeps.step (localWrite_keeps ..) rfl ?_
        exact Keeps.refl _ _
      · refine Keeps.step (State.accFault_keeps ..) rfl ?_
        refine Keeps.step (localWrite_keeps ..) rfl ?_
        exact Keeps.refl _ _

theorem mgmtStore_keeps (s : State) (x1 : Nat) (x2 : List Nat) : Keeps 633825300114114699769065504638 s (mgmtStore s x1 x2) := by
  unfold mgmtStore
  refine Keeps.ite ?_ ?_
  · refine Keeps.ite ?_ ?_
    · refine Keeps.step (State.accFault_keeps ..) rfl ?_
      exact Keeps.refl _ _
    · refine Keeps.ite ?_ ?_
      · refine Keeps.step (unstage_keeps ..) rfl ?_
        refine Keeps.foldl (fun _ _ => ?_) _ _ ?_
        · refine Keeps.step (State.memWrite_keeps ..) rfl ?_
          exact Keeps.refl _ _
        · exact Keeps.refl _ _
      · refine Keeps.foldl (fun _ _ => ?_) _ _ ?_
        · refine Keeps.step (State.memWrite_keeps ..) rfl ?_
          exact Keeps.refl _ _
        · exact Keeps.refl _ _
  · refine Keeps.ite ?_ ?_
    · refine Keeps.step (coreWrite_keeps ..) rfl ?_
      exact Keeps.refl _ _
    · refine Keeps.step (State.accFault_keeps ..) rfl ?_
      exact Keeps.refl _ _

theorem execRemoteStore_keeps (x0 x1 : Nat) (x2 : List Nat) (s : State) :
    OutKeeps 633825300114114699769065504638 s (execRemoteStore x0 x1 x2 s) := by
  unfold execRemoteStore
  refine OutKeeps.next ?_
  refine Keeps.ite ?_ ?_
  · refine Keeps.step (mgmtStore_keeps ..) rfl ?_
    exact Keeps.refl _ _
  · refine Keeps.ite ?_ ?_
    · split
      · refine Keeps.ite ?_ ?_
        · refine Keeps.step (State.accFault_keeps ..) rfl ?_
          exact Keeps.refl _ _
        · refine Keeps.step (coreWrite_keeps ..) rfl ?_
          exact Keeps.refl _ _
      · refine Keeps.ite ?_ ?_
        · refine Keeps.step (writeFailed_keeps ..) rfl ?_
          exact Keeps.refl _ _
        · refine Keeps.ite ?_ ?_
          · refine Keeps.step (writeFailed_keeps ..) rfl ?_
            exact Keeps.refl _ _
          · refine Keeps.ite ?_ ?_
            · refine Keeps.step (coreWrite_keeps ..) rfl ?_
              exact Keeps.refl _ _
            · refine Keeps.ite ?_ ?_
              · refine Keeps.ite ?_ ?_
                · refine Keeps.step (windowWrite_keeps ..) rfl ?_
                  exact Keeps.refl _ _
                · refine Keeps.step (State.accFault_keeps ..) rfl ?_
                  refine Keeps.step (windowWrite_keeps ..) rfl ?_
                  exact Keeps.refl _ _
              · refine Keeps.step (remoteWrite_keeps ..) rfl ?_
                exact Keeps.refl _ _
    · exact Keeps.refl _ _

theorem execRequest_keeps (x0 : Nat) (x1 : By) (s : State) : OutKeeps 633825300114114699769065503598 s (execRequest x0 x1 s) := by
  unfold execRequest
  refine OutKeeps.next ?_
  refine Keeps.step (pdWrite_keeps ..) rfl ?_
  exact Keeps.refl _ _

theorem execRequestReceived_keeps (x0 x1 x2 : Nat) (s : State) :
    OutKeeps 38300052386410079977986 s (execRequestReceived x0 x1 x2 s) := by
  unfold execRequestReceived
  refine OutKeeps.next ?_
  refine Keeps.ite ?_ ?_
  · split
    · refine Keeps.step (pdSend_keeps ..) rfl ?_
      refine Keeps.ite ?_ ?_
      · refine Keeps.step (amsEnd_keeps ..) rfl ?_
        refine Keeps.step (pdStop_keeps ..) rfl ?_
        exact Keeps.refl _ _
      · refine Keeps.step (pdStop_keeps ..) rfl ?_
        exact Keeps.refl _ _
    · dsimp only
      split
      · refine Keeps.ite ?_ ?_
        · refine Keeps.step (pdContract_keeps ..) rfl ?_
          refine Keeps.step (pdSend_keeps ..) rfl ?_
          refine Keeps.step (pdDrive_keeps ..) rfl ?_
          refine Keeps.step (pdWatch_keeps ..) rfl ?_
          refine Keeps.step (pdSend_keeps ..) rfl ?_
          refine Keeps.ite ?_ ?_
          · refine Keeps.step (amsEnd_keeps ..) rfl ?_
            refine Keeps.step (pdStop_keeps ..) rfl ?_
            exact Keeps.refl _ _
          · refine Keeps.step (pdStop_keeps ..) rfl ?_
            exact Keeps.refl _ _
        · refine Keeps.step (pdSend_keeps ..) rfl ?_
          refine Keeps.ite ?_ ?_
          · refine Keeps.step (amsEnd_keeps ..) rfl ?_
            refine Keeps.step (pdStop_keeps ..) rfl ?_
            exact Keeps.refl _ _
          · refine Keeps.step (pdStop_keeps ..) rfl ?_
            exact Keeps.refl _ _
      · refine Keeps.step (pdSend_keeps ..) rfl ?_
        refine Keeps.ite ?_ ?_
        · refine Keeps.step (amsEnd_keeps ..) rfl ?_
          refine Keeps.step (pdStop_keeps ..) rfl ?_
          exact Keeps.refl _ _
        · refine Keeps.step (pdStop_keeps ..) rfl ?_
          exact Keeps.refl _ _
  · exact Keeps.refl _ _

theorem execResetCtrl_keeps (x0 : By) (x1 : Nat) (s : State) :
    OutKeeps 633825300114114699769065503598 s (execResetCtrl x0 x1 s) := by
  unfold execResetCtrl
  refine OutKeeps.next ?_
  refine Keeps.step (busStore_keeps ..) rfl ?_
  exact Keeps.refl _ _

theorem onResult_keeps (s : State) (x1 : Frame) : Keeps 522688620547100271362 s (onResult s x1) := by
  unfold onResult
  refine Keeps.step (settleEdges_keeps ..) rfl ?_
  refine Keeps.step (answerTo_keeps ..) rfl ?_
  split
  · refine Keeps.ite ?_ ?_
    · refine Keeps.step (ownResult_keeps ..) rfl ?_
      refine Keeps.step (findItem_keeps ..) rfl ?_
      exact Keeps.refl _ _
    · refine Keeps.step (findItem_keeps ..) rfl ?_
      exact Keeps.refl _ _
  · refine Keeps.step (findItem_keeps ..) rfl ?_
    exact Keeps.refl _ _

theorem execResult_keeps (x0 : Frame) (s : State) : OutKeeps 522688620547100271362 s (execResult x0 s) := by
  unfold execResult
  refine OutKeeps.next ?_
  refine Keeps.ite ?_ ?_
  · refine Keeps.step (onResult_keeps ..) rfl ?_
    exact Keeps.refl _ _
  · exact Keeps.refl _ _

theorem resyncTimeouts_keeps (s : State) : Keeps 521427331176459813378 s (resyncTimeouts s) := by
  unfold resyncTimeouts
  split
  · exact Keeps.refl _ _
  · refine Keeps.ite ?_ ?_
    · exact Keeps.refl _ _
    · refine Keeps.step (resyncJudge_keeps ..) rfl ?_
      refine Keeps.foldl (fun _ _ => ?_) _ _ ?_
      · refine Keeps.ite ?_ ?_
        · refine Keeps.step (driftEv_keeps ..) rfl ?_
          refine Keeps.step (resyncKeep_keeps ..) rfl ?_
          exact Keeps.refl _ _
        · refine Keeps.step (markOrphan_keeps ..) rfl ?_
          refine Keeps.step (resyncKeep_keeps ..) rfl ?_
          exact Keeps.refl _ _
      · refine Keeps.step (dropReqs_keeps ..) rfl ?_
        refine Keeps.step (readStore_keeps ..) rfl ?_
        exact Keeps.refl _ _

theorem execResyncTimeout_keeps (s : State) : OutKeeps 521427331176459813378 s (execResyncTimeout s) := by
  unfold execResyncTimeout
  refine OutKeeps.next ?_
  refine Keeps.ite ?_ ?_
  · refine Keeps.step (resyncTimeouts_keeps ..) rfl ?_
    exact Keeps.refl _ _
  · exact Keeps.refl _ _

theorem onRetire_keeps (s : State) (x1 : Frame) : Keeps 521427612651436532226 s (onRetire s x1) := by
  unfold onRetire
  refine Keeps.step (answerTo_keeps ..) rfl ?_
  split
  · refine Keeps.ite ?_ ?_
    · refine Keeps.step (recPut_keeps ..) rfl ?_
      refine Keeps.step (findItem_keeps ..) rfl ?_
      exact Keeps.refl _ _
    · refine Keeps.step (findItem_keeps ..) rfl ?_
      exact Keeps.refl _ _
  · refine Keeps.step (findItem_keeps ..) rfl ?_
    exact Keeps.refl _ _

theorem execRetire_keeps (x0 : Frame) (s : State) : OutKeeps 521427612651436532226 s (execRetire x0 s) := by
  unfold execRetire
  refine OutKeeps.next ?_
  refine Keeps.ite ?_ ?_
  · refine Keeps.step (onRetire_keeps ..) rfl ?_
    exact Keeps.refl _ _
  · exact Keeps.refl _ _

theorem execRetriesReset_keeps (x0 x1 : Nat) (s : State) : OutKeeps 28334198898317919780866 s (execRetriesReset x0 x1 s) := by
  unfold execRetriesReset
  refine OutKeeps.next ?_
  refine Keeps.ite ?_ ?_
  · refine Keeps.step (setRetries_keeps ..) rfl ?_
    refine Keeps.step (State.coreAt_keeps ..) rfl ?_
    exact Keeps.refl _ _
  · exact Keeps.refl _ _

theorem execRetryWaitEnd_keeps (x0 x1 : Nat) (s : State) : OutKeeps 2446706958649962961830658 s (execRetryWaitEnd x0 x1 s) := by
  unfold execRetryWaitEnd
  refine OutKeeps.next ?_
  refine Keeps.ite ?_ ?_
  · refine Keeps.ite ?_ ?_
    · refine Keeps.ite ?_ ?_
      · refine Keeps.step (rampStart_keeps ..) rfl ?_
        refine Keeps.step (State.coreAt_keeps ..) rfl ?_
        exact Keeps.refl _ _
      · refine Keeps.step (setCtlState_keeps ..) rfl ?_
        refine Keeps.step (State.coreAt_keeps ..) rfl ?_
        exact Keeps.refl _ _
    · refine Keeps.ite ?_ ?_
      · refine Keeps.step (brEnqueue_keeps ..) rfl ?_
        refine Keeps.step (setCtlState_keeps ..) rfl ?_
        refine Keeps.step (State.coreAt_keeps ..) rfl ?_
        exact Keeps.refl _ _
      · refine Keeps.step (setCtlState_keeps ..) rfl ?_
        refine Keeps.step (State.coreAt_keeps ..) rfl ?_
        exact Keeps.refl _ _
  · exact Keeps.refl _ _

theorem execRevokeKey_keeps (x0 : By) (x1 : Nat) (s : State) :
    OutKeeps 633825300114114699769065503598 s (execRevokeKey x0 x1 s) := by
  unfold execRevokeKey
  refine OutKeeps.next ?_
  refine Keeps.step (otpWrite_keeps ..) rfl ?_
  exact Keeps.refl _ _

theorem execRewind_keeps (x0 : Nat) (x1 : By) (s : State) : OutKeeps 633825300114114699769065503598 s (execRewind x0 x1 s) := by
  unfold execRewind
  refine OutKeeps.next ?_
  refine Keeps.step (qCmdWrite_keeps ..) rfl ?_
  exact Keeps.refl _ _

theorem rxAccept_keeps (s : State) (x1 : Nat) (x2 : Frame) (x3 x4 : Bool) :
    Keeps 521121508614263034370 s (rxAccept s x1 x2 x3 x4) := by
  unfold rxAccept
  refine Keeps.step (State.setLane_keeps ..) rfl ?_
  refine Keeps.step (noteTun_keeps ..) rfl ?_
  refine Keeps.step (admitFrame_keeps ..) rfl ?_
  refine Keeps.step (suppressed_keeps ..) rfl ?_
  refine Keeps.step (Keeps.put_sw ..) rfl ?_
  exact Keeps.refl _ _

theorem gwTrack_keeps (s : State) (x1 : Frame) : Keeps 65536 s (gwTrack s x1) := by
  unfold gwTrack
  refine Keeps.step (Keeps.put_txn ..) rfl ?_
  exact Keeps.refl _ _

theorem rxDecide_keeps (s : State) (x1 : Nat) (x2 : Frame) (x3 : Nat) : Keeps 521130621366634115586 s (rxDecide s x1 x2 x3) := by
  unfold rxDecide
  refine Keeps.ite ?_ ?_
  · refine Keeps.step (State.inc_keeps 46 group_halo ..) rfl ?_
    exact Keeps.refl _ _
  · refine Keeps.ite ?_ ?_
    · refine Keeps.ite ?_ ?_
      · refine Keeps.step (State.inc_keeps 53 group_gw ..) rfl ?_
        exact Keeps.refl _ _
      · refine Keeps.step (State.setLane_keeps ..) rfl ?_
        refine Keeps.ite ?_ ?_
        · refine Keeps.step (noteTun_keeps ..) rfl ?_
          refine Keeps.ite ?_ ?_
          · refine Keeps.step (gwTrack_keeps ..) rfl ?_
            refine Keeps.step (admitFrame_keeps ..) rfl ?_
            refine Keeps.step (Keeps.put_sw ..) rfl ?_
            exact Keeps.refl _ _
          · refine Keeps.step (admitFrame_keeps ..) rfl ?_
            refine Keeps.step (Keeps.put_sw ..) rfl ?_
            exact Keeps.refl _ _
        · refine Keeps.ite ?_ ?_
          · refine Keeps.step (gwTrack_keeps ..) rfl ?_
            refine Keeps.step (admitFrame_keeps ..) rfl ?_
            refine Keeps.step (Keeps.put_sw ..) rfl ?_
            exact Keeps.refl _ _
          · refine Keeps.step (admitFrame_keeps ..) rfl ?_
            refine Keeps.step (Keeps.put_sw ..) rfl ?_
            exact Keeps.refl _ _
    · refine Keeps.ite ?_ ?_
      · refine Keeps.step (rxAccept_keeps ..) rfl ?_
        exact Keeps.refl _ _
      · split
        · refine Keeps.step (countRaise_keeps 46 group_halo ..) rfl ?_
          rename_i hq1
          refine Keeps.of_snd hq1 ?_
          refine Keeps.step (haloDecide_keeps ..) rfl ?_
          exact Keeps.refl _ _
        · refine Keeps.step (haloDup_keeps ..) rfl ?_
          rename_i hq2
          refine Keeps.of_snd hq2 ?_
          refine Keeps.step (haloDecide_keeps ..) rfl ?_
          exact Keeps.refl _ _
        · refine Keeps.step (State.setLane_keeps ..) rfl ?_
          refine Keeps.step (State.inc_keeps 46 group_halo ..) rfl ?_
          refine Keeps.step (setHaloEnt_keeps ..) rfl ?_
          rename_i hq3
          refine Keeps.of_snd hq3 ?_
          refine Keeps.step (haloDecide_keeps ..) rfl ?_
          exact Keeps.refl _ _
        · refine Keeps.step (rxAccept_keeps ..) rfl ?_
          refine Keeps.step (haloAccept_keeps ..) rfl ?_
          rename_i hq4
          refine Keeps.of_snd hq4 ?_
          refine Keeps.step (haloDecide_keeps ..) rfl ?_
          exact Keeps.refl _ _

theorem rxTap_keeps (s : State) (x1 : Nat) (x2 : Frame) : Keeps 521121508614263034370 s (rxTap s x1 x2) := by
  unfold rxTap
  refine Keeps.step (State.setLane_keeps ..) rfl ?_
  refine Keeps.step (admitFrame_keeps ..) rfl ?_
  refine Keeps.step (Keeps.put_sw ..) rfl ?_
  exact Keeps.refl _ _

theorem rxPassed3_keeps (s : State) (x1 : Nat) (x2 : Frame) (x3 : Nat) : Keeps 521130621366634115586 s (rxPassed3 s x1 x2 x3) := by
  unfold rxPassed3
  dsimp only
  split
  · refine Keeps.step (rxTap_keeps ..) rfl ?_
    refine Keeps.step (noteSup_keeps ..) rfl ?_
    refine Keeps.step (State.inc_keeps 45 group_lane ..) rfl ?_
    exact Keeps.refl _ _
  · refine Keeps.step (rxDecide_keeps ..) rfl ?_
    refine Keeps.step (State.setLane_keeps ..) rfl ?_
    refine Keeps.step (tapAdmit_keeps ..) rfl ?_
    refine Keeps.step (noteSup_keeps ..) rfl ?_
    refine Keeps.step (State.inc_keeps 45 group_lane ..) rfl ?_
    exact Keeps.refl _ _

theorem tunForget_keeps (s : State) (x1 : Nat) : Keeps 12288 s (tunForget s x1) := by
  unfold tunForget
  split
  · refine Keeps.ite ?_ ?_
    · refine Keeps.step (haloSettle_keeps ..) rfl ?_
      refine Keeps.step (State.setLane_keeps ..) rfl ?_
      exact Keeps.refl _ _
    · refine Keeps.step (State.setLane_keeps ..) rfl ?_
      exact Keeps.refl _ _
  · exact Keeps.refl _ _

theorem rxHead_keeps (s : State) (x1 x2 : Nat) (x3 : Frame) (x4 : Nat) : Keeps 521130621366634115586 s (rxHead s x1 x2 x3 x4) := by
  unfold rxHead
  refine Keeps.ite ?_ ?_
  · refine Keeps.step (tunForget_keeps ..) rfl ?_
    exact Keeps.refl _ _
  · refine Keeps.ite ?_ ?_
    · refine Keeps.step (State.inc_keeps 45 group_lane ..) rfl ?_
      refine Keeps.step (tunForget_keeps ..) rfl ?_
      exact Keeps.refl _ _
    · refine Keeps.ite ?_ ?_
      · refine Keeps.step (State.inc_keeps 45 group_lane ..) rfl ?_
        refine Keeps.step (tunForget_keeps ..) rfl ?_
        exact Keeps.refl _ _
      · refine Keeps.ite ?_ ?_
        · refine Keeps.step (State.setLane_keeps ..) rfl ?_
          refine Keeps.step (tunForget_keeps ..) rfl ?_
          exact Keeps.refl _ _
        · refine Keeps.step (rxPassed3_keeps ..) rfl ?_
          refine Keeps.step (tunForget_keeps ..) rfl ?_
          exact Keeps.refl _ _

theorem endFault_keeps (s : State) (x1 : Nat) (x2 : FrameEnd) : Keeps 36283883720706 s (endFault s x1 x2) := by
  unfold endFault
  split
  · exact Keeps.refl _ _
  · refine Keeps.step (State.inc_keeps 45 group_lane ..) rfl ?_
    exact Keeps.refl _ _
  · exact Keeps.refl _ _
  · refine Keeps.step (State.inc_keeps 45 group_lane ..) rfl ?_
    exact Keeps.refl _ _
  · refine Keeps.step (State.setLane_keeps ..) rfl ?_
    refine Keeps.step (State.inc_keeps 45 group_lane ..) rfl ?_
    exact Keeps.refl _ _

theorem rxEnd_keeps (s : State) (x1 : Nat) (x2 : RxFrame) (x3 : FrameEnd) : Keeps 1701722242084045421122 s (rxEnd s x1 x2 x3) := by
  unfold rxEnd
  refine Keeps.ite ?_ ?_
  · refine Keeps.step (rxLost_keeps ..) rfl ?_
    refine Keeps.ite ?_ ?_
    · refine Keeps.step (State.inc_keeps 45 group_lane ..) rfl ?_
      refine Keeps.step (endFault_keeps ..) rfl ?_
      refine Keeps.step (State.setLane_keeps ..) rfl ?_
      exact Keeps.refl _ _
    · refine Keeps.step (endFault_keeps ..) rfl ?_
      refine Keeps.step (State.setLane_keeps ..) rfl ?_
      exact Keeps.refl _ _
  · refine Keeps.ite ?_ ?_
    · refine Keeps.ite ?_ ?_
      · refine Keeps.step (endFault_keeps ..) rfl ?_
        refine Keeps.step (State.setLane_keeps ..) rfl ?_
        exact Keeps.refl _ _
      · refine Keeps.step (State.inc_keeps 45 group_lane ..) rfl ?_
        refine Keeps.step (endFault_keeps ..) rfl ?_
        refine Keeps.step (State.setLane_keeps ..) rfl ?_
        exact Keeps.refl _ _
    · refine Keeps.ite ?_ ?_
      · refine Keeps.step (endHeld_keeps ..) rfl ?_
        refine Keeps.step (endFault_keeps ..) rfl ?_
        refine Keeps.step (State.setLane_keeps ..) rfl ?_
        exact Keeps.refl _ _
      · split
        split
        · split
          · refine Keeps.step (State.setLane_keeps ..) rfl ?_
            rename_i hq1 _ _ _ _
            refine Keeps.of_snd hq1 ?_
            refine Keeps.step (passed_keeps ..) rfl ?_
            refine Keeps.step (markReady_keeps ..) rfl ?_
            refine Keeps.step (endFault_keeps ..) rfl ?_
            refine Keeps.step (State.setLane_keeps ..) rfl ?_
            exact Keeps.refl _ _
          · refine Keeps.ite ?_ ?_
            · refine Keeps.step (settleHeld_keeps ..) rfl ?_
              rename_i hq2 _ _ _ _
              refine Keeps.of_snd hq2 ?_
              refine Keeps.step (passed_keeps ..) rfl ?_
              refine Keeps.step (markReady_keeps ..) rfl ?_
              refine Keeps.step (endFault_keeps ..) rfl ?_
              refine Keeps.step (State.setLane_keeps ..) rfl ?_
              exact Keeps.refl _ _
            · rename_i hq3 _ _ _ _
              refine Keeps.of_snd hq3 ?_
              refine Keeps.step (passed_keeps ..) rfl ?_
              refine Keeps.step (markReady_keeps ..) rfl ?_
              refine Keeps.step (endFault_keeps ..) rfl ?_
              refine Keeps.step (State.setLane_keeps ..) rfl ?_
              exact Keeps.refl _ _
        · refine Keeps.ite ?_ ?_
          · refine Keeps.step (settleHeld_keeps ..) rfl ?_
            rename_i hq4 _ _
            refine Keeps.of_snd hq4 ?_
            refine Keeps.step (passed_keeps ..) rfl ?_
            refine Keeps.step (markReady_keeps ..) rfl ?_
            refine Keeps.step (endFault_keeps ..) rfl ?_
            refine Keeps.step (State.setLane_keeps ..) rfl ?_
            exact Keeps.refl _ _
          · rename_i hq5 _ _
            refine Keeps.of_snd hq5 ?_
            refine Keeps.step (passed_keeps ..) rfl ?_
            refine Keeps.step (markReady_keeps ..) rfl ?_
            refine Keeps.step (endFault_keeps ..) rfl ?_
            refine Keeps.step (State.setLane_keeps ..) rfl ?_
            exact Keeps.refl _ _

theorem lineErrs_keeps (s : State) (x1 : Nat) (x2 : LineIn) (x3 : Bool) : Keeps 36283883716610 s (lineErrs s x1 x2 x3) := by
  unfold lineErrs
  refine Keeps.ite ?_ ?_
  · refine Keeps.step (State.inc_keeps 45 group_lane ..) rfl ?_
    exact Keeps.refl _ _
  · refine Keeps.step (State.inc_keeps 45 group_lane ..) rfl ?_
    refine Keeps.step (State.inc_keeps 45 group_lane ..) rfl ?_
    refine Keeps.step (State.inc_keeps 45 group_lane ..) rfl ?_
    exact Keeps.refl _ _

theorem execRingFrameReceived_keeps (x0 : Nat) (x1 : LineIn) (x2 : Frame) (x3 : FramePart) (x4 : Nat) (s : State) :
    OutKeeps 1701722242084045421122 s (execRingFrameReceived x0 x1 x2 x3 x4 s) := by
  unfold execRingFrameReceived
  refine OutKeeps.next ?_
  refine Keeps.ite ?_ ?_
  · split
    · refine Keeps.step (rxHead_keeps ..) rfl ?_
      refine Keeps.step (rxCut_keeps ..) rfl ?_
      refine Keeps.step (lineErrs_keeps ..) rfl ?_
      refine Keeps.step (State.atTime_keeps ..) rfl ?_
      exact Keeps.refl _ _
    · dsimp only
      split
      · refine Keeps.step (rxEnd_keeps ..) rfl ?_
        refine Keeps.step (tapEnds_keeps ..) rfl ?_
        refine Keeps.step (lineErrs_keeps ..) rfl ?_
        refine Keeps.step (State.atTime_keeps ..) rfl ?_
        exact Keeps.refl _ _
      · refine Keeps.step (tapEnds_keeps ..) rfl ?_
        refine Keeps.step (lineErrs_keeps ..) rfl ?_
        refine Keeps.step (State.atTime_keeps ..) rfl ?_
        exact Keeps.refl _ _
    · dsimp only
      split
      · refine Keeps.step (rxEnd_keeps ..) rfl ?_
        refine Keeps.step (tapEnds_keeps ..) rfl ?_
        refine Keeps.step (rxHead_keeps ..) rfl ?_
        refine Keeps.step (rxCut_keeps ..) rfl ?_
        refine Keeps.step (lineErrs_keeps ..) rfl ?_
        refine Keeps.step (State.atTime_keeps ..) rfl ?_
        exact Keeps.refl _ _
      · refine Keeps.step (tapEnds_keeps ..) rfl ?_
        refine Keeps.step (rxHead_keeps ..) rfl ?_
        refine Keeps.step (rxCut_keeps ..) rfl ?_
        refine Keeps.step (lineErrs_keeps ..) rfl ?_
        refine Keeps.step (State.atTime_keeps ..) rfl ?_
        exact Keeps.refl _ _
  · exact Keeps.refl _ _

theorem execRsesDisable_keeps (x0 : By) (s : State) : OutKeeps 633825300114114699769065503598 s (execRsesDisable x0 s) := by
  unfold execRsesDisable
  refine OutKeeps.next ?_
  refine Keeps.step (busStore_keeps ..) rfl ?_
  exact Keeps.refl _ _

theorem execRsesEnable_keeps (x0 : By) (x1 x2 x3 : Nat) (s : State) :
    OutKeeps 633825300114114699769065503598 s (execRsesEnable x0 x1 x2 x3 s) := by
  unfold execRsesEnable
  refine OutKeeps.next ?_
  refine Keeps.step (busStore_keeps ..) rfl ?_
  exact Keeps.refl _ _

theorem execRstNLow_keeps (x0 : Nat) (s : State) : OutKeeps 633825300114114699897948077854 s (execRstNLow x0 s) := by
  unfold execRstNLow
  refine OutKeeps.next ?_
  refine Keeps.ite ?_ ?_
  · exact Keeps.refl _ _
  · refine Keeps.ite ?_ ?_
    · refine Keeps.step (coldReset_keeps ..) rfl ?_
      refine Keeps.step (Keeps.put_node ..) rfl ?_
      refine Keeps.ite_snd ?_ ?_
      · refine Keeps.step (State.draw_keeps ..) rfl ?_
        exact Keeps.refl _ _
      · exact Keeps.refl _ _
    · refine Keeps.ite_snd ?_ ?_
      · refine Keeps.step (State.draw_keeps ..) rfl ?_
        exact Keeps.refl _ _
      · exact Keeps.refl _ _

theorem execRstNRelease_keeps (s : State) : OutKeeps 512 s (execRstNRelease s) := by
  unfold execRstNRelease
  refine OutKeeps.next ?_
  refine Keeps.step (Keeps.put_node ..) rfl ?_
  exact Keeps.refl _ _

theorem execRtoExpiry_keeps (x0 : Nat) (s : State) : OutKeeps 521247468666341188098 s (execRtoExpiry x0 s) := by
  unfold execRtoExpiry
  refine OutKeeps.next ?_
  refine Keeps.ite ?_ ?_
  · refine Keeps.step (sesDone_keeps ..) rfl ?_
    refine Keeps.ite ?_ ?_
    · refine Keeps.step (resendFrom_keeps ..) rfl ?_
      refine Keeps.step (setTx_keeps ..) rfl ?_
      exact Keeps.refl _ _
    · refine Keeps.step (sendProbe_keeps ..) rfl ?_
      refine Keeps.step (setTx_keeps ..) rfl ?_
      exact Keeps.refl _ _
  · exact Keeps.refl _ _

theorem execSafeHoldExpiry_keeps (x0 : Nat) (s : State) : OutKeeps 4194304 s (execSafeHoldExpiry x0 s) := by
  unfold execSafeHoldExpiry
  refine OutKeeps.next ?_
  refine Keeps.ite ?_ ?_
  · refine Keeps.step (State.setChan_keeps ..) rfl ?_
    exact Keeps.refl _ _
  · exact Keeps.refl _ _

theorem mirrorSeek_keeps (s : State) (x1 : Nat) : Keeps 521427612651436532226 s (mirrorSeek s x1) := by
  unfold mirrorSeek
  refine Keeps.ite ?_ ?_
  · refine Keeps.step (mirrorSend_keeps ..) rfl ?_
    refine Keeps.step (crcCheck_keeps ..) rfl ?_
    exact Keeps.refl _ _
  · refine Keeps.step (crcCheck_keeps ..) rfl ?_
    exact Keeps.refl _ _

theorem judgeHolding_keeps (s : State) (x1 : Nat) : Keeps 521696984204147950082 s (judgeHolding s x1) := by
  unfold judgeHolding
  refine Keeps.step (raiseIf_keeps ..) rfl ?_
  refine Keeps.step (State.wr_keeps 59 group_zones ..) rfl ?_
  exact Keeps.refl _ _

theorem driftWindow_keeps (s : State) : Keeps 523265081299403694850 s (driftWindow s) := by
  unfold driftWindow
  refine Keeps.ite ?_ ?_
  · exact Keeps.refl _ _
  · refine Keeps.ite ?_ ?_
    · refine Keeps.step (judgeLost_keeps ..) rfl ?_
      refine Keeps.each (fun _ _ => ?_) ?_
      · refine Keeps.step (judgeHolding_keeps ..) rfl ?_
        refine Keeps.step (judgeZone_keeps ..) rfl ?_
        exact Keeps.refl _ _
      · exact Keeps.refl _ _
    · refine Keeps.step (settleEdges_keeps ..) rfl ?_
      refine Keeps.each (fun _ _ => ?_) ?_
      · refine Keeps.ite ?_ ?_
        · refine Keeps.step (handoffCheck_keeps ..) rfl ?_
          exact Keeps.refl _ _
        · exact Keeps.refl _ _
      · refine Keeps.foldl (fun _ _ => ?_) _ _ ?_
        · refine Keeps.step (armActions_keeps ..) rfl ?_
          refine Keeps.step (mirrorSeek_keeps ..) rfl ?_
          exact Keeps.refl _ _
        · refine Keeps.step (judgeLost_keeps ..) rfl ?_
          refine Keeps.each (fun _ _ => ?_) ?_
          · refine Keeps.step (judgeHolding_keeps ..) rfl ?_
            refine Keeps.step (judgeZone_keeps ..) rfl ?_
            exact Keeps.refl _ _
          · exact Keeps.refl _ _

theorem edgesWindow_keeps (s : State) (x1 : Nat) : Keeps 522273444956451373826 s (edgesWindow s x1) := by
  unfold edgesWindow
  refine Keeps.each (fun _ _ => ?_) ?_
  · refine Keeps.foldl (fun _ _ => ?_) _ _ ?_
    · refine Keeps.step (edgeSolve_keeps ..) rfl ?_
      exact Keeps.refl _ _
    · exact Keeps.refl _ _
  · refine Keeps.step (edgesSync_keeps ..) rfl ?_
    exact Keeps.refl _ _

theorem judgeMissing_keeps (s : State) (x1 : Nat) : Keeps 144116287587745794 s (judgeMissing s x1) := by
  unfold judgeMissing
  refine Keeps.ite ?_ ?_
  · refine Keeps.ite ?_ ?_
    · refine Keeps.step (setTrk_keeps ..) rfl ?_
      refine Keeps.step (State.tkWr_keeps ..) rfl ?_
      exact Keeps.refl _ _
    · refine Keeps.step (State.tkWr_keeps ..) rfl ?_
      exact Keeps.refl _ _
  · exact Keeps.refl _ _

theorem judgeAge_keeps (s : State) (x1 : Nat) : Keeps 521264638639920382466 s (judgeAge s x1) := by
  unfold judgeAge
  refine Keeps.ite ?_ ?_
  · exact Keeps.refl _ _
  · refine Keeps.ite ?_ ?_
    · refine Keeps.step (State.inc_keeps 57 group_track ..) rfl ?_
      refine Keeps.step (setTrkState_keeps ..) rfl ?_
      refine Keeps.step (State.tkWr_keeps ..) rfl ?_
      exact Keeps.refl _ _
    · refine Keeps.step (setTrkState_keeps ..) rfl ?_
      refine Keeps.step (State.tkWr_keeps ..) rfl ?_
      exact Keeps.refl _ _

theorem tracksWindow_keeps (s : State) : Keeps 521264638639920644610 s (tracksWindow s) := by
  unfold tracksWindow
  refine Keeps.each (fun _ _ => ?_) ?_
  · refine Keeps.ite ?_ ?_
    · refine Keeps.step (judgeAge_keeps ..) rfl ?_
      refine Keeps.step (judgeMissing_keeps ..) rfl ?_
      exact Keeps.refl _ _
    · exact Keeps.refl _ _
  · exact Keeps.refl _ _

theorem execScheduledWindowEnd_keeps (s : State) : OutKeeps 523409196487479814914 s (execScheduledWindowEnd s) := by
  unfold execScheduledWindowEnd
  refine OutKeeps.next ?_
  refine Keeps.ite ?_ ?_
  · refine Keeps.step (driftWindow_keeps ..) rfl ?_
    refine Keeps.step (settleEdges_keeps ..) rfl ?_
    refine Keeps.step (edgesWindow_keeps ..) rfl ?_
    refine Keeps.step (tracksWindow_keeps ..) rfl ?_
    refine Keeps.step (State.atTime_keeps ..) rfl ?_
    exact Keeps.refl _ _
  · exact Keeps.refl _ _

theorem execSeatChange_keeps (x0 x1 : Bool) (x2 : Nat) (s : State) :
    OutKeeps 2561224355957476311530306 s (execSeatChange x0 x1 x2 s) := by
  unfold execSeatChange
  refine OutKeeps.next ?_
  refine Keeps.ite ?_ ?_
  · exact Keeps.refl _ _
  · refine Keeps.step (afterPower_keeps ..) rfl ?_
    refine Keeps.step (mainSeating_keeps ..) rfl ?_
    refine Keeps.ite ?_ ?_
    · refine Keeps.ite ?_ ?_
      · refine Keeps.step (latchClear_keeps ..) rfl ?_
        refine Keeps.ite ?_ ?_
        · refine Keeps.step (Keeps.put_ao ..) rfl ?_
          refine Keeps.step (powerEv_keeps ..) rfl ?_
          refine Keeps.step (State.wr_keeps 73 group_power ..) rfl ?_
          refine Keeps.step (State.coreAt_keeps ..) rfl ?_
          exact Keeps.refl _ _
        · refine Keeps.step (powerEv_keeps ..) rfl ?_
          refine Keeps.step (State.wr_keeps 73 group_power ..) rfl ?_
          refine Keeps.step (State.coreAt_keeps ..) rfl ?_
          exact Keeps.refl _ _
      · refine Keeps.ite ?_ ?_
        · refine Keeps.step (Keeps.put_ao ..) rfl ?_
          refine Keeps.step (powerEv_keeps ..) rfl ?_
          refine Keeps.step (State.wr_keeps 73 group_power ..) rfl ?_
          refine Keeps.step (State.coreAt_keeps ..) rfl ?_
          exact Keeps.refl _ _
        · refine Keeps.step (powerEv_keeps ..) rfl ?_
          refine Keeps.step (State.wr_keeps 73 group_power ..) rfl ?_
          refine Keeps.step (State.coreAt_keeps ..) rfl ?_
          exact Keeps.refl _ _
    · refine Keeps.ite ?_ ?_
      · refine Keeps.step (mainShutdown_keeps ..) rfl ?_
        refine Keeps.ite ?_ ?_
        · refine Keeps.step (Keeps.put_ao ..) rfl ?_
          refine Keeps.step (powerEv_keeps ..) rfl ?_
          refine Keeps.step (State.wr_keeps 73 group_power ..) rfl ?_
          refine Keeps.step (State.coreAt_keeps ..) rfl ?_
          exact Keeps.refl _ _
        · refine Keeps.step (powerEv_keeps ..) rfl ?_
          refine Keeps.step (State.wr_keeps 73 group_power ..) rfl ?_
          refine Keeps.step (State.coreAt_keeps ..) rfl ?_
          exact Keeps.refl _ _
      · refine Keeps.ite ?_ ?_
        · refine Keeps.step (Keeps.put_ao ..) rfl ?_
          refine Keeps.step (powerEv_keeps ..) rfl ?_
          refine Keeps.step (State.wr_keeps 73 group_power ..) rfl ?_
          refine Keeps.step (State.coreAt_keeps ..) rfl ?_
          exact Keeps.refl _ _
        · refine Keeps.step (powerEv_keeps ..) rfl ?_
          refine Keeps.step (State.wr_keeps 73 group_power ..) rfl ?_
          refine Keeps.step (State.coreAt_keeps ..) rfl ?_
          exact Keeps.refl _ _

theorem execSeatQualified_keeps (x0 : Nat) (s : State) : OutKeeps 28334198898317919780866 s (execSeatQualified x0 s) := by
  unfold execSeatQualified
  refine OutKeeps.next ?_
  refine Keeps.ite ?_ ?_
  · refine Keeps.step (rampStart_keeps ..) rfl ?_
    refine Keeps.step (State.coreAt_keeps ..) rfl ?_
    exact Keeps.refl _ _
  · exact Keeps.refl _ _

theorem setSvc_keeps (s : State) (x1 : Bool) : Keeps 1073741824 s (setSvc s x1) := by
  unfold setSvc
  refine Keeps.step (Keeps.put_usb ..) rfl ?_
  exact Keeps.refl _ _

theorem execServiceTakeover_keeps (x0 : Nat) (s : State) : OutKeeps 1073741824 s (execServiceTakeover x0 s) := by
  unfold execServiceTakeover
  refine OutKeeps.next ?_
  refine Keeps.ite ?_ ?_
  · refine Keeps.step (setSvc_keeps ..) rfl ?_
    exact Keeps.refl _ _
  · exact Keeps.refl _ _

theorem execSesDisable_keeps (x0 : By) (s : State) : OutKeeps 633825300114114699769065503598 s (execSesDisable x0 s) := by
  unfold execSesDisable
  refine OutKeeps.next ?_
  refine Keeps.step (busStore_keeps ..) rfl ?_
  exact Keeps.refl _ _

theorem execSesEnable_keeps (x0 : By) (x1 x2 : Nat) (s : State) :
    OutKeeps 633825300114114699769065503598 s (execSesEnable x0 x1 x2 s) := by
  unfold execSesEnable
  refine OutKeeps.next ?_
  refine Keeps.step (busStore_keeps ..) rfl ?_
  exact Keeps.refl _ _

end Sys2Proof.Machine
end

