-- ==== Sys2Proof/Laws/KeepsF.lean ====
section
/-!
SUPPORT. What each operation can change, part 6 of 6: one lemma per operation and per meaning, callees first.
-/

namespace Sys2Proof.Machine

theorem pioNotOwner_keeps (s : State) (x1 : Nat) : Keeps 521120523451844526594 s (pioNotOwner s x1) := by
  unfold pioNotOwner
  refine Keeps.step (pioEv_keeps ..) rfl ?_
  refine Keeps.step (State.inc_keeps 68 group_pio ..) rfl ?_
  refine Keeps.step (State.wr_keeps 68 group_pio ..) rfl ?_
  exact Keeps.refl _ _

theorem pioDrive_keeps (s : State) (x1 x2 : Nat) (x3 : Bool) : Keeps 521120523451878081026 s (pioDrive s x1 x2 x3) := by
  unfold pioDrive
  refine Keeps.ite ?_ ?_
  · exact Keeps.refl _ _
  · refine Keeps.ite ?_ ?_
    · refine Keeps.ite ?_ ?_
      · refine Keeps.step (State.setSig_keeps ..) rfl ?_
        exact Keeps.refl _ _
      · exact Keeps.refl _ _
    · refine Keeps.step (pioNotOwner_keeps ..) rfl ?_
      exact Keeps.refl _ _

theorem execSetDrives_keeps (x0 : Nat) (s : State) : OutKeeps 521120523451894858242 s (execSetDrives x0 s) := by
  unfold execSetDrives
  refine OutKeeps.next ?_
  refine Keeps.step (pioTake_keeps (n := 521120523451894858242) (hr := fun _ _ => ?_) ..) rfl ?_
  · refine Keeps.step (pioNext_keeps ..) rfl ?_
    refine Keeps.each (fun _ _ => ?_) ?_
    · refine Keeps.step (pioDrive_keeps ..) rfl ?_
      exact Keeps.refl _ _
    · exact Keeps.refl _ _
  · exact Keeps.refl _ _

theorem execSetFlag_keeps (x0 : Nat) (s : State) : OutKeeps 521120523451861303810 s (execSetFlag x0 s) := by
  unfold execSetFlag
  refine OutKeeps.next ?_
  refine Keeps.step (pioTake_keeps (n := 521120523451861303810) (hr := fun _ _ => ?_) ..) rfl ?_
  · refine Keeps.step (pioNext_keeps ..) rfl ?_
    refine Keeps.step (pioEv_keeps ..) rfl ?_
    refine Keeps.step (State.wr_keeps 68 group_pio ..) rfl ?_
    exact Keeps.refl _ _
  · exact Keeps.refl _ _

theorem pioOut_keeps (s : State) (x1 x2 : Nat) (x3 : Bool) : Keeps 521120523451878081026 s (pioOut s x1 x2 x3) := by
  unfold pioOut
  refine Keeps.ite ?_ ?_
  · exact Keeps.refl _ _
  · refine Keeps.ite ?_ ?_
    · refine Keeps.step (driveSig_keeps ..) rfl ?_
      exact Keeps.refl _ _
    · refine Keeps.step (pioNotOwner_keeps ..) rfl ?_
      exact Keeps.refl _ _

theorem execSetLevels_keeps (x0 : Nat) (s : State) : OutKeeps 521120523451894858242 s (execSetLevels x0 s) := by
  unfold execSetLevels
  refine OutKeeps.next ?_
  refine Keeps.step (pioTake_keeps (n := 521120523451894858242) (hr := fun _ _ => ?_) ..) rfl ?_
  · refine Keeps.step (pioNext_keeps ..) rfl ?_
    refine Keeps.each (fun _ _ => ?_) ?_
    · refine Keeps.step (pioOut_keeps ..) rfl ?_
      exact Keeps.refl _ _
    · exact Keeps.refl _ _
  · exact Keeps.refl _ _

theorem execSetSr_keeps (x0 : Nat) (s : State) : OutKeeps 521120523451861303810 s (execSetSr x0 s) := by
  unfold execSetSr
  refine OutKeeps.next ?_
  refine Keeps.step (pioTake_keeps (n := 295147906278881230850) (hr := fun _ _ => ?_) ..) rfl ?_
  · refine Keeps.step (pioNext_keeps ..) rfl ?_
    refine Keeps.step (pioCnt_keeps ..) rfl ?_
    refine Keeps.step (pioSr_keeps ..) rfl ?_
    exact Keeps.refl _ _
  · exact Keeps.refl _ _

theorem romSetup_keeps (s : State) (x1 : List Nat) : Keeps 75557863727014908788994 s (romSetup s x1) := by
  unfold romSetup
  refine Keeps.ite ?_ ?_
  · refine Keeps.step (Keeps.put_usb ..) rfl ?_
    refine Keeps.step (State.draw_keeps ..) rfl ?_
    exact Keeps.refl _ _
  · refine Keeps.ite ?_ ?_
    · refine Keeps.step (State.wr_keeps 76 group_usb ..) rfl ?_
      refine Keeps.step (Keeps.put_usb ..) rfl ?_
      exact Keeps.refl _ _
    · exact Keeps.refl _ _

theorem execSetup_keeps (x0 : List Nat) (s : State) : OutKeeps 76078984249367241687810 s (execSetup x0 s) := by
  unfold execSetup
  refine OutKeeps.next ?_
  refine Keeps.ite ?_ ?_
  · refine Keeps.ite ?_ ?_
    · refine Keeps.step (romSetup_keeps ..) rfl ?_
      refine Keeps.step (usbEv_keeps ..) rfl ?_
      refine Keeps.step (State.wr_keeps 76 group_usb ..) rfl ?_
      refine Keeps.step (State.wr_keeps 76 group_usb ..) rfl ?_
      exact Keeps.refl _ _
    · refine Keeps.step (usbEv_keeps ..) rfl ?_
      refine Keeps.step (State.wr_keeps 76 group_usb ..) rfl ?_
      refine Keeps.step (State.wr_keeps 76 group_usb ..) rfl ?_
      exact Keeps.refl _ _
  · exact Keeps.refl _ _

theorem execShiftIn_keeps (x0 x1 : Nat) (s : State) : OutKeeps 521120523451861303810 s (execShiftIn x0 x1 s) := by
  unfold execShiftIn
  refine OutKeeps.next ?_
  refine Keeps.step (pioTake_keeps (n := 295147906278881230850) (hr := fun _ _ => ?_) ..) rfl ?_
  · refine Keeps.step (pioNext_keeps ..) rfl ?_
    refine Keeps.step (pioCnt_keeps ..) rfl ?_
    refine Keeps.step (pioSr_keeps ..) rfl ?_
    exact Keeps.refl _ _
  · exact Keeps.refl _ _

theorem execShiftOut_keeps (x0 : Nat) (s : State) : OutKeeps 521120523451894858242 s (execShiftOut x0 s) := by
  unfold execShiftOut
  refine OutKeeps.next ?_
  refine Keeps.step (pioTake_keeps (n := 521120523451894858242) (hr := fun _ _ => ?_) ..) rfl ?_
  · refine Keeps.step (pioNext_keeps ..) rfl ?_
    refine Keeps.step (pioCnt_keeps ..) rfl ?_
    refine Keeps.step (pioSr_keeps ..) rfl ?_
    refine Keeps.each (fun _ _ => ?_) ?_
    · refine Keeps.step (pioOut_keeps ..) rfl ?_
      exact Keeps.refl _ _
    · exact Keeps.refl _ _
  · exact Keeps.refl _ _

theorem execShortCircuit_keeps (x0 x1 : Nat) (s : State) : OutKeeps 2561224355957467721595714 s (execShortCircuit x0 x1 s) := by
  unfold execShortCircuit
  refine OutKeeps.next ?_
  refine Keeps.ite ?_ ?_
  · refine Keeps.step (ctlFail_keeps ..) rfl ?_
    exact Keeps.refl _ _
  · exact Keeps.refl _ _

theorem execShortVf_keeps (x0 : Nat) (s : State) : OutKeeps 521120523451844526594 s (execShortVf x0 s) := by
  unfold execShortVf
  refine OutKeeps.next ?_
  refine Keeps.ite ?_ ?_
  · refine Keeps.step (chFault_keeps raise_keeps ..) rfl ?_
    exact Keeps.refl _ _
  · exact Keeps.refl _ _

theorem execSignalDetect_keeps (x0 : Nat) (s : State) : OutKeeps 36283883720706 s (execSignalDetect x0 s) := by
  unfold execSignalDetect
  refine OutKeeps.next ?_
  refine Keeps.ite ?_ ?_
  · refine Keeps.step (setLaneState_keeps ..) rfl ?_
    exact Keeps.refl _ _
  · exact Keeps.refl _ _

theorem execSignalTimeout_keeps (x0 : Nat) (s : State) : OutKeeps 521120558636216619522 s (execSignalTimeout x0 s) := by
  unfold execSignalTimeout
  refine OutKeeps.next ?_
  refine Keeps.ite ?_ ?_
  · refine Keeps.step (raise_keeps ..) rfl ?_
    refine Keeps.step (State.setLane_keeps ..) rfl ?_
    refine Keeps.step (laneCause_keeps ..) rfl ?_
    exact Keeps.refl _ _
  · exact Keeps.refl _ _

theorem execSoaTrip_keeps (x0 x1 : Nat) (s : State) : OutKeeps 2561224355957467721595714 s (execSoaTrip x0 x1 s) := by
  unfold execSoaTrip
  refine OutKeeps.next ?_
  split
  · refine Keeps.ite ?_ ?_
    · refine Keeps.step (ctlFail_keeps ..) rfl ?_
      exact Keeps.refl _ _
    · exact Keeps.refl _ _
  · exact Keeps.refl _ _

theorem execSoftReset_keeps (x0 : Nat) (x1 : By) (s : State) :
    OutKeeps 633825300114114699769065503598 s (execSoftReset x0 x1 s) := by
  unfold execSoftReset
  refine OutKeeps.next ?_
  refine Keeps.step (pdWrite_keeps ..) rfl ?_
  exact Keeps.refl _ _

theorem execSourceCapabilities_keeps (x0 : List (Nat × Nat × Bool)) (s : State) :
    OutKeeps 37778931864057747079170 s (execSourceCapabilities x0 s) := by
  unfold execSourceCapabilities
  refine OutKeeps.next ?_
  refine Keeps.ite ?_ ?_
  · refine Keeps.ite ?_ ?_
    · refine Keeps.step (pdRequest_keeps ..) rfl ?_
      refine Keeps.step (setPd_keeps ..) rfl ?_
      refine Keeps.ite ?_ ?_
      · refine Keeps.step (pdComplete_keeps ..) rfl ?_
        refine Keeps.step (pdStop_keeps ..) rfl ?_
        refine Keeps.step (amsEnd_keeps ..) rfl ?_
        refine Keeps.step (pdStop_keeps ..) rfl ?_
        exact Keeps.refl _ _
      · refine Keeps.step (pdStop_keeps ..) rfl ?_
        exact Keeps.refl _ _
    · refine Keeps.ite ?_ ?_
      · refine Keeps.step (pdStart_keeps ..) rfl ?_
        refine Keeps.step (setPd_keeps ..) rfl ?_
        refine Keeps.step (setPd_keeps ..) rfl ?_
        refine Keeps.ite ?_ ?_
        · refine Keeps.step (pdComplete_keeps ..) rfl ?_
          refine Keeps.step (pdStop_keeps ..) rfl ?_
          refine Keeps.step (amsEnd_keeps ..) rfl ?_
          refine Keeps.step (pdStop_keeps ..) rfl ?_
          exact Keeps.refl _ _
        · refine Keeps.step (pdStop_keeps ..) rfl ?_
          exact Keeps.refl _ _
      · refine Keeps.step (setPd_keeps ..) rfl ?_
        refine Keeps.ite ?_ ?_
        · refine Keeps.step (pdComplete_keeps ..) rfl ?_
          refine Keeps.step (pdStop_keeps ..) rfl ?_
          refine Keeps.step (amsEnd_keeps ..) rfl ?_
          refine Keeps.step (pdStop_keeps ..) rfl ?_
          exact Keeps.refl _ _
        · refine Keeps.step (pdStop_keeps ..) rfl ?_
          exact Keeps.refl _ _
  · exact Keeps.refl _ _

theorem execSquallInterval_keeps (x0 : Nat) (s : State) : OutKeeps 18432 s (execSquallInterval x0 s) := by
  unfold execSquallInterval
  refine OutKeeps.next ?_
  refine Keeps.ite ?_ ?_
  · refine Keeps.step (squallRestart_keeps ..) rfl ?_
    refine Keeps.step (State.atTime_keeps ..) rfl ?_
    exact Keeps.refl _ _
  · exact Keeps.refl _ _

theorem execStall_keeps (x0 : Nat) (s : State) : OutKeeps 521156552248863490562 s (execStall x0 s) := by
  unfold execStall
  refine OutKeeps.next ?_
  refine Keeps.ite ?_ ?_
  · refine Keeps.step (raise_keeps ..) rfl ?_
    refine Keeps.step (setStalled_keeps ..) rfl ?_
    exact Keeps.refl _ _
  · exact Keeps.refl _ _

theorem execStartTo_keeps (x0 x1 : Nat) (s : State) : OutKeeps 2561224355957467721595714 s (execStartTo x0 x1 s) := by
  unfold execStartTo
  refine OutKeeps.next ?_
  refine Keeps.ite ?_ ?_
  · refine Keeps.step (ctlFail_keeps ..) rfl ?_
    exact Keeps.refl _ _
  · exact Keeps.refl _ _

theorem execStateReq_keeps (x0 : By) (x1 : Nat) (s : State) : OutKeeps 633825300114114699769065503598 s (execStateReq x0 x1 s) := by
  unfold execStateReq
  refine OutKeeps.next ?_
  refine Keeps.step (busStore_keeps ..) rfl ?_
  exact Keeps.refl _ _

theorem execStatusSend_keeps (s : State) : OutKeeps 521121367876774687234 s (execStatusSend s) := by
  unfold execStatusSend
  refine OutKeeps.next ?_
  refine Keeps.ite ?_ ?_
  · refine Keeps.step (originate_keeps ..) rfl ?_
    refine Keeps.step (Keeps.put_halo ..) rfl ?_
    refine Keeps.each (fun _ _ => ?_) ?_
    · refine Keeps.step (State.setLane_keeps ..) rfl ?_
      exact Keeps.refl _ _
    · exact Keeps.refl _ _
  · exact Keeps.refl _ _

theorem execStitchLinkDown_keeps (x0 : Nat) (s : State) : OutKeeps 138812103855569041150338629442 s (execStitchLinkDown x0 s) := by
  unfold execStitchLinkDown
  refine OutKeeps.next ?_
  refine Keeps.ite ?_ ?_
  · refine Keeps.step (ownFault_keeps ..) rfl ?_
    refine Keeps.step (Keeps.put_stitch ..) rfl ?_
    refine Keeps.ite ?_ ?_
    · exact Keeps.refl _ _
    · refine Keeps.step (safeTrigger_keeps ..) rfl ?_
      exact Keeps.refl _ _
  · refine Keeps.step (faultAtFreeze_keeps ..) rfl ?_
    exact Keeps.refl _ _

theorem execStitchReplay_keeps (x0 x1 : Nat) (x2 : Bool) (s : State) : OutKeeps 1024 s (execStitchReplay x0 x1 x2 s) := by
  unfold execStitchReplay
  refine OutKeeps.next ?_
  refine Keeps.ite ?_ ?_
  · refine Keeps.ite ?_ ?_
    · refine Keeps.step (flitArrives_keeps ..) rfl ?_
      refine Keeps.step (Keeps.put_stitch ..) rfl ?_
      exact Keeps.refl _ _
    · refine Keeps.step (Keeps.put_stitch ..) rfl ?_
      exact Keeps.refl _ _
  · exact Keeps.refl _ _

theorem streamRelease_keeps (s : State) (x1 : Nat) : Keeps 564049465131010 s (streamRelease s x1) := by
  unfold streamRelease
  split
  · exact Keeps.refl _ _
  · refine Keeps.ite ?_ ?_
    · exact Keeps.refl _ _
    · refine Keeps.step (Keeps.put_txn ..) rfl ?_
      refine Keeps.step (heldBack_keeps ..) rfl ?_
      exact Keeps.refl _ _

theorem execStreamSlotRelease_keeps (x0 : Nat) (s : State) : OutKeeps 564049465131010 s (execStreamSlotRelease x0 s) := by
  unfold execStreamSlotRelease
  refine OutKeeps.next ?_
  refine Keeps.ite ?_ ?_
  · refine Keeps.step (streamRelease_keeps ..) rfl ?_
    exact Keeps.refl _ _
  · exact Keeps.refl _ _

theorem execSvcOverlapEnd_keeps (x0 : Nat) (s : State) : OutKeeps 1073741824 s (execSvcOverlapEnd x0 s) := by
  unfold execSvcOverlapEnd
  refine OutKeeps.next ?_
  split
  · refine Keeps.ite ?_ ?_
    · refine Keeps.step (setSvc_keeps ..) rfl ?_
      refine Keeps.step (Keeps.put_usb ..) rfl ?_
      exact Keeps.refl _ _
    · exact Keeps.refl _ _
  · exact Keeps.refl _ _

theorem execSwevSet_keeps (x0 : By) (x1 : Nat) (s : State) : OutKeeps 633825300114114699769065503598 s (execSwevSet x0 x1 s) := by
  unfold execSwevSet
  refine OutKeeps.next ?_
  refine Keeps.step (busStore_keeps ..) rfl ?_
  exact Keeps.refl _ _

theorem showSource_keeps (s : State) (x1 : Source) : Keeps 18691697672194 s (showSource s x1) := by
  unfold showSource
  refine Keeps.step (State.wr_keeps 44 group_time ..) rfl ?_
  refine Keeps.step (State.wr_keeps 44 group_time ..) rfl ?_
  refine Keeps.step (State.wr_keeps 44 group_time ..) rfl ?_
  exact Keeps.refl _ _

theorem becomeSource_keeps (s : State) (x1 x2 : Nat) : Keeps 154743026031213578392963586 s (becomeSource s x1 x2) := by
  unfold becomeSource
  refine Keeps.step (Keeps.put_time (ht := ⟨rfl, rfl⟩) ..) rfl ?_
  refine Keeps.step (State.wr_keeps 44 group_time ..) rfl ?_
  refine Keeps.step (State.wr_keeps 44 group_time ..) rfl ?_
  refine Keeps.step (State.wr_keeps 44 group_time ..) rfl ?_
  refine Keeps.step (State.wr_keeps 44 group_time ..) rfl ?_
  refine Keeps.step (showSource_keeps ..) rfl ?_
  refine Keeps.step (setRole_keeps ..) rfl ?_
  exact Keeps.refl _ _

theorem gwTakes_keeps (s : State) : Keeps 521129530651099335170 s (gwTakes s) := by
  unfold gwTakes
  refine Keeps.ite ?_ ?_
  · exact Keeps.refl _ _
  · refine Keeps.step (raise_keeps ..) rfl ?_
    refine Keeps.step (State.wr_keeps 53 group_gw ..) rfl ?_
    refine Keeps.step (Keeps.put_time_txn (ht := ⟨rfl, rfl⟩) ..) rfl ?_
    exact Keeps.refl _ _

theorem execTakeover_keeps (x0 : Bool) (s : State) : OutKeeps 154743026040220777647770114 s (execTakeover x0 s) := by
  unfold execTakeover
  refine OutKeeps.next ?_
  refine Keeps.ite ?_ ?_
  · refine Keeps.ite ?_ ?_
    · split
      · refine Keeps.ite ?_ ?_
        · refine Keeps.step (raise_keeps ..) rfl ?_
          refine Keeps.step (gwTakes_keeps ..) rfl ?_
          refine Keeps.step (Keeps.put_time (ht := ⟨rfl, rfl⟩) ..) rfl ?_
          refine Keeps.step (Keeps.put_time (ht := ⟨rfl, rfl⟩) ..) rfl ?_
          exact Keeps.refl _ _
        · exact Keeps.refl _ _
      · exact Keeps.refl _ _
    · refine Keeps.ite ?_ ?_
      · refine Keeps.step (raise_keeps ..) rfl ?_
        refine Keeps.step (becomeSource_keeps ..) rfl ?_
        exact Keeps.refl _ _
      · exact Keeps.refl _ _
  · exact Keeps.refl _ _

theorem execTemp_keeps (x0 : Nat) (x1 : Int) (s : State) : OutKeeps 3627298579367373728383746 s (execTemp x0 x1 s) := by
  unfold execTemp
  refine OutKeeps.next ?_
  refine Keeps.ite ?_ ?_
  · refine Keeps.step (tempReading_keeps ..) rfl ?_
    exact Keeps.refl _ _
  · exact Keeps.refl _ _

theorem execThermal_keeps (x0 : Nat) (s : State) : OutKeeps 521120523451844526594 s (execThermal x0 s) := by
  unfold execThermal
  refine OutKeeps.next ?_
  refine Keeps.ite ?_ ?_
  · refine Keeps.step (State.chWr_keeps ..) rfl ?_
    refine Keeps.step (State.setChan_keeps ..) rfl ?_
    refine Keeps.step (chFault_keeps raise_keeps ..) rfl ?_
    exact Keeps.refl _ _
  · exact Keeps.refl _ _

theorem execThermalRecover_keeps (x0 : Nat) (s : State) : OutKeeps 4611687117943209986 s (execThermalRecover x0 s) := by
  unfold execThermalRecover
  refine OutKeeps.next ?_
  refine Keeps.ite ?_ ?_
  · refine Keeps.step (State.setChan_keeps ..) rfl ?_
    refine Keeps.step (chFaultEnd_keeps ..) rfl ?_
    exact Keeps.refl _ _
  · exact Keeps.refl _ _

theorem showClosure_keeps (s : State) (x1 : SrcSt) : Keeps 521120541044030571010 s (showClosure s x1) := by
  unfold showClosure
  refine Keeps.step (raiseIf_keeps ..) rfl ?_
  refine Keeps.step (State.wr_keeps 44 group_time ..) rfl ?_
  refine Keeps.step (State.wr_keeps 44 group_time ..) rfl ?_
  refine Keeps.step (State.wr_keeps 44 group_time ..) rfl ?_
  refine Keeps.step (State.wr_keeps 44 group_time ..) rfl ?_
  refine Keeps.step (State.wr_keeps 44 group_time ..) rfl ?_
  exact Keeps.refl _ _

theorem closure_keeps (s : State) (x1 : Nat) (x2 : Frame) (x3 : Int) : Keeps 521120541044030573058 s (closure s x1 x2 x3) := by
  unfold closure
  refine Keeps.ite ?_ ?_
  · refine Keeps.step (showClosure_keeps ..) rfl ?_
    refine Keeps.step (Keeps.put_time (ht := ⟨rfl, rfl⟩) ..) rfl ?_
    exact Keeps.refl _ _
  · refine Keeps.step (State.wr_keeps 44 group_time ..) rfl ?_
    refine Keeps.step (showClosure_keeps ..) rfl ?_
    refine Keeps.step (Keeps.put_time (ht := ⟨rfl, rfl⟩) ..) rfl ?_
    exact Keeps.refl _ _

theorem execTickClosure_keeps (x0 x1 x2 : Nat) (x3 : Frame) (s : State) :
    OutKeeps 521121420653332814338 s (execTickClosure x0 x1 x2 x3 s) := by
  unfold execTickClosure
  refine OutKeeps.next ?_
  refine Keeps.ite ?_ ?_
  · refine Keeps.step (closure_keeps ..) rfl ?_
    refine Keeps.step (rxCount_keeps ..) rfl ?_
    refine Keeps.step (State.atTime_keeps ..) rfl ?_
    exact Keeps.refl _ _
  · exact Keeps.refl _ _

theorem pumpExports_keeps (s : State) : Keeps 521125880272495141378 s (pumpExports s) := by
  unfold pumpExports
  refine Keeps.foldl (fun _ _ => ?_) _ _ ?_
  · refine Keeps.ite ?_ ?_
    · refine Keeps.step (exportDone_keeps ..) rfl ?_
      exact Keeps.refl _ _
    · refine Keeps.ite ?_ ?_
      · refine Keeps.step (sendEvent_keeps ..) rfl ?_
        exact Keeps.refl _ _
      · refine Keeps.step (Keeps.put_router ..) rfl ?_
        refine Keeps.step (sendEvent_keeps ..) rfl ?_
        exact Keeps.refl _ _
  · refine Keeps.step (Keeps.put_router ..) rfl ?_
    exact Keeps.refl _ _

theorem tickEvents_keeps (s : State) : Keeps 521120523451844526594 s (tickEvents s) := by
  unfold tickEvents
  refine Keeps.each (fun _ _ => ?_) ?_
  · refine Keeps.step (raiseIf_keeps ..) rfl ?_
    exact Keeps.refl _ _
  · exact Keeps.refl _ _

theorem changeRepeats_keeps (s : State) : Keeps 521121367876774683138 s (changeRepeats s) := by
  unfold changeRepeats
  refine Keeps.step (Keeps.put_halo ..) rfl ?_
  refine Keeps.foldl (fun _ _ => ?_) _ _ ?_
  · refine Keeps.step (originate_keeps ..) rfl ?_
    exact Keeps.refl _ _
  · exact Keeps.refl _ _

theorem edgesConvert_keeps (s : State) : Keeps 1048576 s (edgesConvert s) := by
  unfold edgesConvert
  refine Keeps.foldl (fun _ _ => ?_) _ _ ?_
  · refine Keeps.step (setEdge_keeps ..) rfl ?_
    exact Keeps.refl _ _
  · exact Keeps.refl _ _

theorem armsTick_keeps (s : State) : Keeps 512 s (armsTick s) := by
  unfold armsTick
  refine Keeps.step (Keeps.put_node ..) rfl ?_
  exact Keeps.refl _ _

theorem resyncRetired_keeps (s : State) (x1 : Nat) : Keeps 521409598252926919170 s (resyncRetired s x1) := by
  unfold resyncRetired
  refine Keeps.ite ?_ ?_
  · refine Keeps.step (resyncKeep_keeps ..) rfl ?_
    exact Keeps.refl _ _
  · refine Keeps.step (request_keeps ..) rfl ?_
    refine Keeps.step (resyncKeep_keeps ..) rfl ?_
    exact Keeps.refl _ _

theorem resyncQuery_keeps (s : State) : Keeps 521427612651436532226 s (resyncQuery s) := by
  unfold resyncQuery
  refine Keeps.ite ?_ ?_
  · refine Keeps.step (resyncJudge_keeps ..) rfl ?_
    refine Keeps.foldl (fun _ _ => ?_) _ _ ?_
    · refine Keeps.ite ?_ ?_
      · refine Keeps.step (crcCheck_keeps ..) rfl ?_
        exact Keeps.refl _ _
      · refine Keeps.ite ?_ ?_
        · refine Keeps.step (resyncRetired_keeps ..) rfl ?_
          refine Keeps.step (crcCheck_keeps ..) rfl ?_
          exact Keeps.refl _ _
        · refine Keeps.ite ?_ ?_
          · refine Keeps.step (crcCheck_keeps ..) rfl ?_
            exact Keeps.refl _ _
          · refine Keeps.step (request_keeps ..) rfl ?_
            refine Keeps.step (crcCheck_keeps ..) rfl ?_
            exact Keeps.refl _ _
    · refine Keeps.step (Keeps.put_drift ..) rfl ?_
      exact Keeps.refl _ _
  · exact Keeps.refl _ _

theorem driftTick_keeps (s : State) : Keeps 521535699042493424386 s (driftTick s) := by
  unfold driftTick
  refine Keeps.ite ?_ ?_
  · refine Keeps.step (driftReports_keeps ..) rfl ?_
    refine Keeps.step (resyncQuery_keeps ..) rfl ?_
    refine Keeps.ite ?_ ?_
    · refine Keeps.step (State.wr_keeps 58 group_drift ..) rfl ?_
      exact Keeps.refl _ _
    · exact Keeps.refl _ _
  · refine Keeps.ite ?_ ?_
    · refine Keeps.step (State.wr_keeps 58 group_drift ..) rfl ?_
      exact Keeps.refl _ _
    · exact Keeps.refl _ _

theorem isolateLimit_keeps (s : State) : Keeps 39614081257132169896283603458 s (isolateLimit s) := by
  unfold isolateLimit
  refine Keeps.ite ?_ ?_
  · refine Keeps.step (requestWarm_keeps ..) rfl ?_
    refine Keeps.step (Keeps.put_node ..) rfl ?_
    exact Keeps.refl _ _
  · exact Keeps.refl _ _

theorem tickLast_keeps (s : State) : Keeps 633825300114114699769065504638 s (tickLast s) := by
  unfold tickLast
  refine Keeps.step (isolateLimit_keeps ..) rfl ?_
  refine Keeps.step (pumpExports_keeps ..) rfl ?_
  refine Keeps.step (xferPump_keeps ..) rfl ?_
  refine Keeps.step (inRetry_keeps ..) rfl ?_
  refine Keeps.step (pumpOffers_keeps ..) rfl ?_
  refine Keeps.step (driftTick_keeps ..) rfl ?_
  refine Keeps.step (changeRepeats_keeps ..) rfl ?_
  refine Keeps.step (armsTick_keeps ..) rfl ?_
  refine Keeps.step (edgesConvert_keeps ..) rfl ?_
  refine Keeps.step (tickEvents_keeps ..) rfl ?_
  refine Keeps.step (Keeps.put_time (ht := ⟨rfl, rfl⟩) ..) rfl ?_
  refine Keeps.step (State.wr_keeps 44 group_time ..) rfl ?_
  exact Keeps.refl _ _

theorem oneSided_keeps (s : State) : Keeps 158456325028528676286599528450 s (oneSided s) := by
  unfold oneSided
  refine Keeps.ite ?_ ?_
  · refine Keeps.step (State.wr_keeps 97 (.inl rfl) ..) rfl ?_
    exact Keeps.refl _ _
  · refine Keeps.ite ?_ ?_
    · refine Keeps.step (State.wr_keeps 97 (.inl rfl) ..) rfl ?_
      exact Keeps.refl _ _
    · exact Keeps.refl _ _

theorem joinExit_keeps (s : State) : Keeps 218035430666554920227183754050 s (joinExit s) := by
  unfold joinExit
  refine Keeps.ite ?_ ?_
  · exact Keeps.refl _ _
  · refine Keeps.ite ?_ ?_
    · refine Keeps.step (goState_keeps ..) rfl ?_
      refine Keeps.step (State.zero_keeps 95 (by decide) ..) rfl ?_
      refine Keeps.step (State.wr_keeps 97 (.inl rfl) ..) rfl ?_
      exact Keeps.refl _ _
    · refine Keeps.ite ?_ ?_
      · refine Keeps.step (goState_keeps ..) rfl ?_
        refine Keeps.step (State.zero_keeps 95 (by decide) ..) rfl ?_
        refine Keeps.step (State.wr_keeps 97 (.inl rfl) ..) rfl ?_
        exact Keeps.refl _ _
      · refine Keeps.ite ?_ ?_
        · refine Keeps.step (goState_keeps ..) rfl ?_
          refine Keeps.step (State.zero_keeps 95 (by decide) ..) rfl ?_
          refine Keeps.step (State.wr_keeps 97 (.inl rfl) ..) rfl ?_
          exact Keeps.refl _ _
        · refine Keeps.ite ?_ ?_
          · refine Keeps.step (State.wr_keeps 95 (.inl rfl) ..) rfl ?_
            refine Keeps.step (State.wr_keeps 95 (.inl rfl) ..) rfl ?_
            refine Keeps.step (State.wr_keeps 97 (.inl rfl) ..) rfl ?_
            exact Keeps.refl _ _
          · refine Keeps.step (goState_keeps ..) rfl ?_
            refine Keeps.step (State.zero_keeps 95 (by decide) ..) rfl ?_
            refine Keeps.step (State.wr_keeps 95 (.inl rfl) ..) rfl ?_
            refine Keeps.step (State.wr_keeps 95 (.inl rfl) ..) rfl ?_
            refine Keeps.step (State.wr_keeps 97 (.inl rfl) ..) rfl ?_
            exact Keeps.refl _ _

theorem startK_keeps (s : State) : Keeps 521129530651099335170 s (startK s) := by
  unfold startK
  refine Keeps.ite ?_ ?_
  · refine Keeps.step (gwTakes_keeps ..) rfl ?_
    refine Keeps.step (Keeps.put_time (ht := ⟨rfl, rfl⟩) ..) rfl ?_
    exact Keeps.refl _ _
  · exact Keeps.refl _ _

theorem originateTick_keeps (s : State) (x1 : Bool) : Keeps 521121367876774683138 s (originateTick s x1) := by
  unfold originateTick
  refine Keeps.ite ?_ ?_
  · exact Keeps.refl _ _
  · refine Keeps.step (originateOn_keeps ..) rfl ?_
    exact Keeps.refl _ _

theorem stopSource_keeps (s : State) : Keeps 154743026031195986206919170 s (stopSource s) := by
  unfold stopSource
  refine Keeps.ite ?_ ?_
  · refine Keeps.step (setRole_keeps ..) rfl ?_
    refine Keeps.step (Keeps.put_time (ht := ⟨rfl, rfl⟩) ..) rfl ?_
    exact Keeps.refl _ _
  · refine Keeps.step (Keeps.put_time (ht := ⟨rfl, rfl⟩) ..) rfl ?_
    exact Keeps.refl _ _

theorem gwYields_keeps (s : State) : Keeps 2048 s (gwYields s) := by
  unfold gwYields
  refine Keeps.step (Keeps.put_time (ht := ⟨rfl, rfl⟩) ..) rfl ?_
  exact Keeps.refl _ _

theorem sourceInstant_keeps (s : State) : Keeps 158611068054569740389665827330 s (sourceInstant s) := by
  unfold sourceInstant
  refine Keeps.ite ?_ ?_
  · refine Keeps.step (originateTick_keeps ..) rfl ?_
    refine Keeps.ite ?_ ?_
    · refine Keeps.step (originateTick_keeps ..) rfl ?_
      refine Keeps.step (setLock_keeps ..) rfl ?_
      refine Keeps.step (State.wr_keeps 44 group_time ..) rfl ?_
      refine Keeps.step (showSlots_keeps ..) rfl ?_
      refine Keeps.step (Keeps.put_time (ht := ⟨rfl, rfl⟩) ..) rfl ?_
      refine Keeps.step (State.wr_keeps 44 group_time ..) rfl ?_
      refine Keeps.step (Keeps.put_time (ht := ⟨rfl, rfl⟩) ..) rfl ?_
      refine Keeps.step (startK_keeps ..) rfl ?_
      refine Keeps.ite ?_ ?_
      · refine Keeps.step (gwYields_keeps ..) rfl ?_
        refine Keeps.ite ?_ ?_
        · refine Keeps.step (stopSource_keeps ..) rfl ?_
          exact Keeps.refl _ _
        · exact Keeps.refl _ _
      · refine Keeps.ite ?_ ?_
        · refine Keeps.step (stopSource_keeps ..) rfl ?_
          exact Keeps.refl _ _
        · exact Keeps.refl _ _
    · refine Keeps.step (State.wr_keeps 44 group_time ..) rfl ?_
      refine Keeps.step (Keeps.put_time (ht := ⟨rfl, rfl⟩) ..) rfl ?_
      refine Keeps.step (startK_keeps ..) rfl ?_
      refine Keeps.ite ?_ ?_
      · refine Keeps.step (gwYields_keeps ..) rfl ?_
        refine Keeps.ite ?_ ?_
        · refine Keeps.step (stopSource_keeps ..) rfl ?_
          exact Keeps.refl _ _
        · exact Keeps.refl _ _
      · refine Keeps.ite ?_ ?_
        · refine Keeps.step (stopSource_keeps ..) rfl ?_
          exact Keeps.refl _ _
        · exact Keeps.refl _ _
  · refine Keeps.ite ?_ ?_
    · refine Keeps.step (originateTick_keeps ..) rfl ?_
      refine Keeps.step (setLock_keeps ..) rfl ?_
      refine Keeps.step (State.wr_keeps 44 group_time ..) rfl ?_
      refine Keeps.step (showSlots_keeps ..) rfl ?_
      refine Keeps.step (Keeps.put_time (ht := ⟨rfl, rfl⟩) ..) rfl ?_
      refine Keeps.step (State.wr_keeps 44 group_time ..) rfl ?_
      refine Keeps.step (Keeps.put_time (ht := ⟨rfl, rfl⟩) ..) rfl ?_
      refine Keeps.step (startK_keeps ..) rfl ?_
      refine Keeps.ite ?_ ?_
      · refine Keeps.step (gwYields_keeps ..) rfl ?_
        refine Keeps.ite ?_ ?_
        · refine Keeps.step (stopSource_keeps ..) rfl ?_
          exact Keeps.refl _ _
        · exact Keeps.refl _ _
      · refine Keeps.ite ?_ ?_
        · refine Keeps.step (stopSource_keeps ..) rfl ?_
          exact Keeps.refl _ _
        · exact Keeps.refl _ _
    · refine Keeps.step (State.wr_keeps 44 group_time ..) rfl ?_
      refine Keeps.step (Keeps.put_time (ht := ⟨rfl, rfl⟩) ..) rfl ?_
      refine Keeps.step (startK_keeps ..) rfl ?_
      refine Keeps.ite ?_ ?_
      · refine Keeps.step (gwYields_keeps ..) rfl ?_
        refine Keeps.ite ?_ ?_
        · refine Keeps.step (stopSource_keeps ..) rfl ?_
          exact Keeps.refl _ _
        · exact Keeps.refl _ _
      · refine Keeps.ite ?_ ?_
        · refine Keeps.step (stopSource_keeps ..) rfl ?_
          exact Keeps.refl _ _
        · exact Keeps.refl _ _

theorem incrTick_keeps (s : State) : Keeps 18691697674498 s (incrTick s) := by
  unfold incrTick
  refine Keeps.step (showIncr_keeps ..) rfl ?_
  refine Keeps.step (Keeps.put_time (ht := ⟨rfl, rfl⟩) ..) rfl ?_
  refine Keeps.ite ?_ ?_
  · split
    · refine Keeps.step (Keeps.put_time (ht := ⟨rfl, rfl⟩) ..) rfl ?_
      refine Keeps.step (State.draw_keeps ..) rfl ?_
      exact Keeps.refl _ _
    · refine Keeps.step (Keeps.put_time (ht := ⟨rfl, rfl⟩) ..) rfl ?_
      exact Keeps.refl _ _
  · split
    · refine Keeps.step (Keeps.put_time (ht := ⟨rfl, rfl⟩) ..) rfl ?_
      exact Keeps.refl _ _
    · exact Keeps.refl _ _

theorem tickSourceStep_keeps (s : State) : Keeps 218035430666554937819369798466 s (tickSourceStep s) := by
  unfold tickSourceStep
  refine Keeps.step (joinExit_keeps ..) rfl ?_
  refine Keeps.step (oneSided_keeps ..) rfl ?_
  refine Keeps.step (sourceInstant_keeps ..) rfl ?_
  refine Keeps.step (incrTick_keeps ..) rfl ?_
  exact Keeps.refl _ _

theorem captureTick_keeps (s : State) : Keeps 523426929411013886466 s (captureTick s) := by
  unfold captureTick
  refine Keeps.ite ?_ ?_
  · exact Keeps.refl _ _
  · refine Keeps.each (fun _ _ => ?_) ?_
    · refine Keeps.step (closeCell_keeps ..) rfl ?_
      refine Keeps.step (setCapUnit_keeps ..) rfl ?_
      refine Keeps.step (State.wr_keeps 61 group_capt ..) rfl ?_
      refine Keeps.step (State.wr_keeps 61 group_capt ..) rfl ?_
      exact Keeps.refl _ _
    · exact Keeps.refl _ _

theorem takeChan_keeps (s : State) (x1 : Nat) (x2 : List Nat) : Keeps 32768 s (takeChan s x1 x2) := by
  unfold takeChan
  refine Keeps.step (Keeps.put_pub ..) rfl ?_
  exact Keeps.refl _ _

theorem pubTake_keeps (s : State) : Keeps 521121649351751664130 s (pubTake s) := by
  unfold pubTake
  refine Keeps.ite ?_ ?_
  · refine Keeps.step (State.wr_keeps 50 group_pub ..) rfl ?_
    refine Keeps.step (Keeps.put_pub ..) rfl ?_
    refine Keeps.foldl (fun _ _ => ?_) _ _ ?_
    · refine Keeps.ite ?_ ?_
      · refine Keeps.step (setTrk_keeps ..) rfl ?_
        exact Keeps.refl _ _
      · exact Keeps.refl _ _
    · refine Keeps.ite ?_ ?_
      · refine Keeps.each (fun _ _ => ?_) ?_
        · refine Keeps.ite ?_ ?_
          · exact Keeps.refl _ _
          · split
            · split
              · refine Keeps.step (takeChan_keeps ..) rfl ?_
                exact Keeps.refl _ _
              · exact Keeps.refl _ _
            · refine Keeps.step (takeChan_keeps ..) rfl ?_
              exact Keeps.refl _ _
            · refine Keeps.step (takeChan_keeps ..) rfl ?_
              exact Keeps.refl _ _
            · refine Keeps.ite ?_ ?_
              · refine Keeps.step (takeChan_keeps ..) rfl ?_
                refine Keeps.step (setReady_keeps ..) rfl ?_
                exact Keeps.refl _ _
              · refine Keeps.step (pubCount_keeps ..) rfl ?_
                exact Keeps.refl _ _
        · refine Keeps.step (State.wr_keeps 50 group_pub ..) rfl ?_
          refine Keeps.step (State.wr_keeps 50 group_pub ..) rfl ?_
          refine Keeps.step (Keeps.put_pub ..) rfl ?_
          exact Keeps.refl _ _
      · refine Keeps.step (State.wr_keeps 50 group_pub ..) rfl ?_
        refine Keeps.step (State.wr_keeps 50 group_pub ..) rfl ?_
        refine Keeps.step (Keeps.put_pub ..) rfl ?_
        exact Keeps.refl _ _
  · refine Keeps.step (Keeps.put_pub ..) rfl ?_
    refine Keeps.foldl (fun _ _ => ?_) _ _ ?_
    · refine Keeps.ite ?_ ?_
      · refine Keeps.step (setTrk_keeps ..) rfl ?_
        exact Keeps.refl _ _
      · exact Keeps.refl _ _
    · refine Keeps.ite ?_ ?_
      · refine Keeps.each (fun _ _ => ?_) ?_
        · refine Keeps.ite ?_ ?_
          · exact Keeps.refl _ _
          · split
            · split
              · refine Keeps.step (takeChan_keeps ..) rfl ?_
                exact Keeps.refl _ _
              · exact Keeps.refl _ _
            · refine Keeps.step (takeChan_keeps ..) rfl ?_
              exact Keeps.refl _ _
            · refine Keeps.step (takeChan_keeps ..) rfl ?_
              exact Keeps.refl _ _
            · refine Keeps.ite ?_ ?_
              · refine Keeps.step (takeChan_keeps ..) rfl ?_
                refine Keeps.step (setReady_keeps ..) rfl ?_
                exact Keeps.refl _ _
              · refine Keeps.step (pubCount_keeps ..) rfl ?_
                exact Keeps.refl _ _
        · refine Keeps.step (State.wr_keeps 50 group_pub ..) rfl ?_
          refine Keeps.step (State.wr_keeps 50 group_pub ..) rfl ?_
          refine Keeps.step (Keeps.put_pub ..) rfl ?_
          exact Keeps.refl _ _
      · refine Keeps.step (State.wr_keeps 50 group_pub ..) rfl ?_
        refine Keeps.step (State.wr_keeps 50 group_pub ..) rfl ?_
        refine Keeps.step (Keeps.put_pub ..) rfl ?_
        exact Keeps.refl _ _

theorem showStale_keeps (s : State) : Keeps 2252899325313026 s (showStale s) := by
  unfold showStale
  refine Keeps.each (fun _ _ => ?_) ?_
  · refine Keeps.step (State.wr_keeps 51 group_sub ..) rfl ?_
    exact Keeps.refl _ _
  · exact Keeps.refl _ _

theorem entSafe_keeps (s : State) (x1 : Nat) : Keeps 28856472342174893081346 s (entSafe s x1) := by
  unfold entSafe
  refine Keeps.ite ?_ ?_
  · exact Keeps.refl _ _
  · split
    · refine Keeps.step (safeTrigger_keeps ..) rfl ?_
      exact Keeps.refl _ _
    · refine Keeps.ite ?_ ?_
      · refine Keeps.step (driveSig_keeps ..) rfl ?_
        exact Keeps.refl _ _
      · exact Keeps.refl _ _
    · refine Keeps.step (branchOff_keeps ..) rfl ?_
      exact Keeps.refl _ _
    · exact Keeps.refl _ _

theorem mirrorStale_keeps (s : State) (x1 : Nat) : Keeps 28856472342174893114114 s (mirrorStale s x1) := by
  unfold mirrorStale
  refine Keeps.ite ?_ ?_
  · refine Keeps.step (raise_keeps ..) rfl ?_
    refine Keeps.each (fun _ _ => ?_) ?_
    · refine Keeps.step (entSafe_keeps ..) rfl ?_
      exact Keeps.refl _ _
    · refine Keeps.step (setSubEnt_keeps ..) rfl ?_
      exact Keeps.refl _ _
  · refine Keeps.step (setSubEnt_keeps ..) rfl ?_
    exact Keeps.refl _ _

theorem handLine_keeps (s : State) (x1 x2 x3 : Nat) (x4 : Bool) : Keeps 522275696756265059074 s (handLine s x1 x2 x3 x4) := by
  unfold handLine
  refine Keeps.ite ?_ ?_
  · refine Keeps.ite ?_ ?_
    · refine Keeps.step (countRaise_keeps 51 group_sub ..) rfl ?_
      exact Keeps.refl _ _
    · exact Keeps.refl _ _
  · refine Keeps.step (armChecked_keeps ..) rfl ?_
    refine Keeps.ite ?_ ?_
    · refine Keeps.step (countRaise_keeps 51 group_sub ..) rfl ?_
      exact Keeps.refl _ _
    · exact Keeps.refl _ _

theorem mirrorFollow_keeps (s : State) (x1 : Nat) : Keeps 522275696756265091842 s (mirrorFollow s x1) := by
  unfold mirrorFollow
  refine Keeps.each (fun _ _ => ?_) ?_
  · refine Keeps.step (handLine_keeps ..) rfl ?_
    exact Keeps.refl _ _
  · refine Keeps.foldl (fun _ _ => ?_) _ _ ?_
    · refine Keeps.step (handLine_keeps ..) rfl ?_
      exact Keeps.refl _ _
    · refine Keeps.ite ?_ ?_
      · refine Keeps.step (State.inc_keeps 51 group_sub ..) rfl ?_
        refine Keeps.step (setSubEnt_keeps ..) rfl ?_
        refine Keeps.each (fun _ _ => ?_) ?_
        · refine Keeps.ite ?_ ?_
          · refine Keeps.step (chRelease_keeps ..) rfl ?_
            exact Keeps.refl _ _
          · exact Keeps.refl _ _
        · exact Keeps.refl _ _
      · refine Keeps.step (setSubEnt_keeps ..) rfl ?_
        refine Keeps.each (fun _ _ => ?_) ?_
        · refine Keeps.ite ?_ ?_
          · refine Keeps.step (chRelease_keeps ..) rfl ?_
            exact Keeps.refl _ _
          · exact Keeps.refl _ _
        · exact Keeps.refl _ _

theorem swapEntry_keeps (s : State) (x1 : Nat) : Keeps 28856474593974706799362 s (swapEntry s x1) := by
  unfold swapEntry
  refine Keeps.ite ?_ ?_
  · refine Keeps.ite ?_ ?_
    · refine Keeps.step (mirrorFollow_keeps ..) rfl ?_
      refine Keeps.step (State.wr_keeps 51 group_sub ..) rfl ?_
      refine Keeps.step (State.wr_keeps 51 group_sub ..) rfl ?_
      refine Keeps.step (State.wr_keeps 51 group_sub ..) rfl ?_
      refine Keeps.step (State.wr_keeps 51 group_sub ..) rfl ?_
      refine Keeps.step (setSubEnt_keeps ..) rfl ?_
      exact Keeps.refl _ _
    · refine Keeps.step (State.wr_keeps 51 group_sub ..) rfl ?_
      refine Keeps.step (State.wr_keeps 51 group_sub ..) rfl ?_
      refine Keeps.step (State.wr_keeps 51 group_sub ..) rfl ?_
      refine Keeps.step (State.wr_keeps 51 group_sub ..) rfl ?_
      refine Keeps.step (setSubEnt_keeps ..) rfl ?_
      exact Keeps.refl _ _
  · refine Keeps.ite ?_ ?_
    · refine Keeps.step (mirrorStale_keeps ..) rfl ?_
      refine Keeps.step (raiseIf_keeps ..) rfl ?_
      refine Keeps.step (State.inc_keeps 51 group_sub ..) rfl ?_
      refine Keeps.step (State.wr_keeps 51 group_sub ..) rfl ?_
      refine Keeps.step (State.wr_keeps 51 group_sub ..) rfl ?_
      exact Keeps.refl _ _
    · refine Keeps.step (raiseIf_keeps ..) rfl ?_
      refine Keeps.step (State.inc_keeps 51 group_sub ..) rfl ?_
      refine Keeps.step (State.wr_keeps 51 group_sub ..) rfl ?_
      refine Keeps.step (State.wr_keeps 51 group_sub ..) rfl ?_
      exact Keeps.refl _ _

theorem pubSwap_keeps (s : State) : Keeps 28856889769565355696898 s (pubSwap s) := by
  unfold pubSwap
  refine Keeps.ite ?_ ?_
  · refine Keeps.step (settleEdges_keeps ..) rfl ?_
    refine Keeps.step (raise_keeps ..) rfl ?_
    refine Keeps.step (State.wr_keeps 51 group_sub ..) rfl ?_
    refine Keeps.step (showStale_keeps ..) rfl ?_
    refine Keeps.each (fun _ _ => ?_) ?_
    · refine Keeps.ite ?_ ?_
      · refine Keeps.step (swapEntry_keeps ..) rfl ?_
        exact Keeps.refl _ _
      · exact Keeps.refl _ _
    · exact Keeps.refl _ _
  · refine Keeps.ite ?_ ?_
    · refine Keeps.step (State.wr_keeps 51 group_sub ..) rfl ?_
      refine Keeps.foldl (fun _ _ => ?_) _ _ ?_
      · refine Keeps.step (setSubEnt_keeps ..) rfl ?_
        exact Keeps.refl _ _
      · exact Keeps.refl _ _
    · refine Keeps.foldl (fun _ _ => ?_) _ _ ?_
      · refine Keeps.step (setSubEnt_keeps ..) rfl ?_
        exact Keeps.refl _ _
      · exact Keeps.refl _ _

theorem channelLatch_keeps (s : State) : Keeps 23058431191648567298 s (channelLatch s) := by
  unfold channelLatch
  refine Keeps.each (fun _ _ => ?_) ?_
  · refine Keeps.step (State.wr_keeps 62 group_field ..) rfl ?_
    exact Keeps.refl _ _
  · refine Keeps.step (State.wr_keeps 64 (group_fdie rfl) ..) rfl ?_
    refine Keeps.step (State.wr_keeps 64 (group_fdie rfl) ..) rfl ?_
    refine Keeps.foldl (fun _ _ => ?_) _ _ ?_
    · refine Keeps.step (State.chWr_keeps ..) rfl ?_
      exact Keeps.refl _ _
    · exact Keeps.refl _ _

theorem fieldLatch_keeps (s : State) : Keeps 32281803228503343106 s (fieldLatch s) := by
  unfold fieldLatch
  refine Keeps.each (fun _ _ => ?_) ?_
  · refine Keeps.step (State.wr_keeps 63 group_enc ..) rfl ?_
    exact Keeps.refl _ _
  · refine Keeps.when (fun _ => ?_) ?_
    · refine Keeps.step (channelLatch_keeps ..) rfl ?_
      exact Keeps.refl _ _
    · exact Keeps.refl _ _

theorem tracksStop_keeps (s : State) : Keeps 523409196487479812866 s (tracksStop s) := by
  unfold tracksStop
  refine Keeps.each (fun _ _ => ?_) ?_
  · refine Keeps.ite ?_ ?_
    · refine Keeps.step (settleEdges_keeps ..) rfl ?_
      refine Keeps.step (edgesSync_keeps ..) rfl ?_
      refine Keeps.step (judgeZones_keeps ..) rfl ?_
      refine Keeps.step (slotRefresh_keeps ..) rfl ?_
      refine Keeps.step (State.wr_keeps 57 group_track ..) rfl ?_
      exact Keeps.refl _ _
    · exact Keeps.refl _ _
  · exact Keeps.refl _ _

theorem becomeActive_keeps (s : State) (x1 x2 : Nat) (x3 : Int) : Keeps 521264638639920644610 s (becomeActive s x1 x2 x3) := by
  unfold becomeActive
  refine Keeps.step (trkStatus_keeps ..) rfl ?_
  refine Keeps.step (State.inc_keeps 57 group_track ..) rfl ?_
  refine Keeps.step (showDelta_keeps ..) rfl ?_
  refine Keeps.step (State.tkWr_keeps ..) rfl ?_
  refine Keeps.step (setTrk_keeps ..) rfl ?_
  exact Keeps.refl _ _

theorem sourceCount_keeps (s : State) (x1 : Nat) : Keeps 144116287587745794 s (sourceCount s x1) := by
  unfold sourceCount
  refine Keeps.ite ?_ ?_
  · refine Keeps.step (setTrk_keeps ..) rfl ?_
    refine Keeps.step (State.tkWr_keeps ..) rfl ?_
    exact Keeps.refl _ _
  · split
    · refine Keeps.step (setTrk_keeps ..) rfl ?_
      refine Keeps.step (State.tkWr_keeps ..) rfl ?_
      exact Keeps.refl _ _
    · refine Keeps.step (setTrk_keeps ..) rfl ?_
      refine Keeps.step (State.tkWr_keeps ..) rfl ?_
      exact Keeps.refl _ _

theorem haltWatch_keeps (s : State) (x1 : Nat) (x2 : Int) : Keeps 521264638639920644610 s (haltWatch s x1 x2) := by
  unfold haltWatch
  refine Keeps.ite ?_ ?_
  · exact Keeps.refl _ _
  · refine Keeps.ite ?_ ?_
    · refine Keeps.step (setTrk_keeps ..) rfl ?_
      exact Keeps.refl _ _
    · split
      · exact Keeps.refl _ _
      · refine Keeps.ite ?_ ?_
        · refine Keeps.step (trkStatus_keeps ..) rfl ?_
          refine Keeps.step (State.tkWr_keeps ..) rfl ?_
          exact Keeps.refl _ _
        · exact Keeps.refl _ _

theorem sourceTick_keeps (s : State) (x1 : Nat) : Keeps 521264638639920644610 s (sourceTick s x1) := by
  unfold sourceTick
  refine Keeps.step (setTrk_keeps ..) rfl ?_
  refine Keeps.step (haltWatch_keeps ..) rfl ?_
  refine Keeps.step (setTrk_keeps ..) rfl ?_
  refine Keeps.ite ?_ ?_
  · refine Keeps.step (becomeActive_keeps ..) rfl ?_
    refine Keeps.ite ?_ ?_
    · refine Keeps.step (becomeStandby_keeps ..) rfl ?_
      refine Keeps.ite ?_ ?_
      · refine Keeps.step (State.tkWr_keeps ..) rfl ?_
        refine Keeps.step (setTrk_keeps ..) rfl ?_
        refine Keeps.step (setTrk_keeps ..) rfl ?_
        refine Keeps.step (sourceCount_keeps ..) rfl ?_
        exact Keeps.refl _ _
      · refine Keeps.step (setTrk_keeps ..) rfl ?_
        refine Keeps.step (sourceCount_keeps ..) rfl ?_
        exact Keeps.refl _ _
    · refine Keeps.ite ?_ ?_
      · refine Keeps.step (State.tkWr_keeps ..) rfl ?_
        refine Keeps.step (setTrk_keeps ..) rfl ?_
        refine Keeps.step (setTrk_keeps ..) rfl ?_
        refine Keeps.step (sourceCount_keeps ..) rfl ?_
        exact Keeps.refl _ _
      · refine Keeps.step (setTrk_keeps ..) rfl ?_
        refine Keeps.step (sourceCount_keeps ..) rfl ?_
        exact Keeps.refl _ _
  · refine Keeps.step (setTrk_keeps ..) rfl ?_
    refine Keeps.ite ?_ ?_
    · refine Keeps.step (becomeStandby_keeps ..) rfl ?_
      refine Keeps.ite ?_ ?_
      · refine Keeps.step (State.tkWr_keeps ..) rfl ?_
        refine Keeps.step (setTrk_keeps ..) rfl ?_
        refine Keeps.step (setTrk_keeps ..) rfl ?_
        refine Keeps.step (sourceCount_keeps ..) rfl ?_
        exact Keeps.refl _ _
      · refine Keeps.step (setTrk_keeps ..) rfl ?_
        refine Keeps.step (sourceCount_keeps ..) rfl ?_
        exact Keeps.refl _ _
    · refine Keeps.ite ?_ ?_
      · refine Keeps.step (State.tkWr_keeps ..) rfl ?_
        refine Keeps.step (setTrk_keeps ..) rfl ?_
        refine Keeps.step (setTrk_keeps ..) rfl ?_
        refine Keeps.step (sourceCount_keeps ..) rfl ?_
        exact Keeps.refl _ _
      · refine Keeps.step (setTrk_keeps ..) rfl ?_
        refine Keeps.step (sourceCount_keeps ..) rfl ?_
        exact Keeps.refl _ _

theorem haltEnds_keeps (s : State) (x1 : Nat) : Keeps 144116287587745794 s (haltEnds s x1) := by
  unfold haltEnds
  refine Keeps.ite ?_ ?_
  · exact Keeps.refl _ _
  · refine Keeps.step (State.tkWr_keeps ..) rfl ?_
    refine Keeps.step (setTrk_keeps ..) rfl ?_
    exact Keeps.refl _ _

theorem tracksTick_keeps (s : State) : Keeps 521264638639920644610 s (tracksTick s) := by
  unfold tracksTick
  refine Keeps.each (fun _ _ => ?_) ?_
  · refine Keeps.step (setTrk_keeps ..) rfl ?_
    refine Keeps.ite ?_ ?_
    · refine Keeps.step (sourceTick_keeps ..) rfl ?_
      refine Keeps.step (haltEnds_keeps ..) rfl ?_
      refine Keeps.step (setTrk_keeps ..) rfl ?_
      refine Keeps.step (slotRefresh_keeps ..) rfl ?_
      exact Keeps.refl _ _
    · refine Keeps.step (haltEnds_keeps ..) rfl ?_
      refine Keeps.step (setTrk_keeps ..) rfl ?_
      refine Keeps.step (slotRefresh_keeps ..) rfl ?_
      exact Keeps.refl _ _
  · exact Keeps.refl _ _

theorem tickSample_keeps (s : State) : Keeps 28887587430525422199554 s (tickSample s) := by
  unfold tickSample
  refine Keeps.step (pubSwap_keeps ..) rfl ?_
  refine Keeps.step (pubTake_keeps ..) rfl ?_
  refine Keeps.step (tracksTick_keeps ..) rfl ?_
  refine Keeps.step (tracksStop_keeps ..) rfl ?_
  refine Keeps.step (captureTick_keeps ..) rfl ?_
  refine Keeps.step (fieldLatch_keeps ..) rfl ?_
  exact Keeps.refl _ _

theorem nbrTick_keeps (s : State) : Keeps 36283883721218 s (nbrTick s) := by
  unfold nbrTick
  refine Keeps.each (fun _ _ => ?_) ?_
  · refine Keeps.step (State.setLane_keeps ..) rfl ?_
    exact Keeps.refl _ _
  · refine Keeps.step (Keeps.put_node ..) rfl ?_
    refine Keeps.each (fun _ _ => ?_) ?_
    · refine Keeps.ite ?_ ?_
      · refine Keeps.ite ?_ ?_
        · refine Keeps.step (State.wr_keeps 45 group_lane ..) rfl ?_
          refine Keeps.ite ?_ ?_
          · refine Keeps.step (State.setLane_keeps ..) rfl ?_
            exact Keeps.refl _ _
          · exact Keeps.refl _ _
        · refine Keeps.step (State.inc_keeps 45 group_lane ..) rfl ?_
          refine Keeps.step (State.wr_keeps 45 group_lane ..) rfl ?_
          refine Keeps.ite ?_ ?_
          · refine Keeps.step (State.setLane_keeps ..) rfl ?_
            exact Keeps.refl _ _
          · exact Keeps.refl _ _
      · refine Keeps.ite ?_ ?_
        · refine Keeps.step (State.setLane_keeps ..) rfl ?_
          exact Keeps.refl _ _
        · exact Keeps.refl _ _
    · exact Keeps.refl _ _

theorem judgeMargin_keeps (s : State) : Keeps 521120541044030571010 s (judgeMargin s) := by
  unfold judgeMargin
  refine Keeps.ite ?_ ?_
  · exact Keeps.refl _ _
  · refine Keeps.step (clampSeen_keeps ..) rfl ?_
    exact Keeps.refl _ _

theorem setTickLen_keeps (s : State) (x1 x2 : Nat) : Keeps 521697001796333996546 s (setTickLen s x1 x2) := by
  unfold setTickLen
  refine Keeps.each (fun _ _ => ?_) ?_
  · refine Keeps.step (judgeLead_keeps ..) rfl ?_
    exact Keeps.refl _ _
  · refine Keeps.step (Keeps.put_time (ht := ⟨rfl, rfl⟩) ..) rfl ?_
    refine Keeps.step (State.wr_keeps 44 group_time ..) rfl ?_
    exact Keeps.refl _ _

theorem cmdTickLen_keeps (s : State) (x1 : Nat) : Keeps 521697001796333996546 s (cmdTickLen s x1) := by
  unfold cmdTickLen
  refine Keeps.ite ?_ ?_
  · refine Keeps.step (judgeZones_keeps ..) rfl ?_
    refine Keeps.step (judgeMargin_keeps ..) rfl ?_
    refine Keeps.step (setTickLen_keeps ..) rfl ?_
    exact Keeps.refl _ _
  · exact Keeps.refl _ _

theorem cmdZenithMove_keeps (s : State) (x1 : Nat) : Keeps 154743026031213578392963586 s (cmdZenithMove s x1) := by
  unfold cmdZenithMove
  refine Keeps.ite ?_ ?_
  · refine Keeps.step (becomeSource_keeps ..) rfl ?_
    refine Keeps.ite ?_ ?_
    · refine Keeps.step (stopSource_keeps ..) rfl ?_
      exact Keeps.refl _ _
    · exact Keeps.refl _ _
  · refine Keeps.ite ?_ ?_
    · refine Keeps.step (stopSource_keeps ..) rfl ?_
      exact Keeps.refl _ _
    · exact Keeps.refl _ _

theorem cmdWindow_keeps (s : State) (x1 : Nat) : Keeps 18691697672194 s (cmdWindow s x1) := by
  unfold cmdWindow
  refine Keeps.ite ?_ ?_
  · refine Keeps.step (State.wr_keeps 44 group_time ..) rfl ?_
    exact Keeps.refl _ _
  · exact Keeps.refl _ _

theorem cmdUser_keeps (s : State) (x1 x2 : Nat) : Keeps 521120541044030571010 s (cmdUser s x1 x2) := by
  unfold cmdUser
  refine Keeps.step (raise_keeps ..) rfl ?_
  refine Keeps.step (State.wr64_keeps 44 group_time group_time ..) rfl ?_
  refine Keeps.step (State.wr_keeps 44 group_time ..) rfl ?_
  exact Keeps.refl _ _

theorem applyCmd_keeps (s : State) (x1 : TickCmd) : Keeps 154743026607674330696387074 s (applyCmd s x1) := by
  unfold applyCmd
  refine Keeps.ite ?_ ?_
  · refine Keeps.step (cmdLine_keeps ..) rfl ?_
    exact Keeps.refl _ _
  · refine Keeps.ite ?_ ?_
    · refine Keeps.step (cmdTickLen_keeps ..) rfl ?_
      exact Keeps.refl _ _
    · refine Keeps.ite ?_ ?_
      · refine Keeps.step (cmdWindow_keeps ..) rfl ?_
        exact Keeps.refl _ _
      · refine Keeps.ite ?_ ?_
        · refine Keeps.step (cmdZenithMove_keeps ..) rfl ?_
          exact Keeps.refl _ _
        · refine Keeps.ite ?_ ?_
          · refine Keeps.step (cmdUser_keeps ..) rfl ?_
            exact Keeps.refl _ _
          · exact Keeps.refl _ _

theorem dueCommands_keeps (s : State) : Keeps 154743026607674330696387074 s (dueCommands s) := by
  unfold dueCommands
  refine Keeps.foldl (fun _ _ => ?_) _ _ ?_
  · refine Keeps.step (applyCmd_keeps ..) rfl ?_
    exact Keeps.refl _ _
  · refine Keeps.step (Keeps.put_time (ht := ⟨rfl, rfl⟩) ..) rfl ?_
    exact Keeps.refl _ _

theorem freeRun_keeps (s : State) : Keeps 521697001796333996546 s (freeRun s) := by
  unfold freeRun
  refine Keeps.ite ?_ ?_
  · exact Keeps.refl _ _
  · refine Keeps.step (judgeMargin_keeps ..) rfl ?_
    refine Keeps.step (setTickLen_keeps ..) rfl ?_
    exact Keeps.refl _ _

theorem pendTransition_keeps (s : State) : Keeps 138812103855569041150338628418 s (pendTransition s) := by
  unfold pendTransition
  split
  · exact Keeps.refl _ _
  · refine Keeps.ite ?_ ?_
    · refine Keeps.step (refuse_keeps ..) rfl ?_
      refine Keeps.step (Keeps.put_node ..) rfl ?_
      exact Keeps.refl _ _
    · refine Keeps.ite ?_ ?_
      · refine Keeps.step (ownFault_keeps ..) rfl ?_
        refine Keeps.step (Keeps.put_node ..) rfl ?_
        exact Keeps.refl _ _
      · split
        · refine Keeps.step (refuse_keeps ..) rfl ?_
          refine Keeps.step (Keeps.put_node ..) rfl ?_
          exact Keeps.refl _ _
        · refine Keeps.step (goState_keeps ..) rfl ?_
          refine Keeps.step (Keeps.put_node ..) rfl ?_
          exact Keeps.refl _ _

theorem tickTransitions_keeps (s : State) : Keeps 297268428884097716337426529090 s (tickTransitions s) := by
  unfold tickTransitions
  refine Keeps.step (joinExit_keeps ..) rfl ?_
  refine Keeps.step (pendTransition_keeps ..) rfl ?_
  refine Keeps.step (lineTransition_keeps ..) rfl ?_
  exact Keeps.refl _ _

theorem bankSwap_keeps (s : State) (x1 : Nat) : Keeps 151636847975280491364866 s (bankSwap s x1) := by
  unfold bankSwap
  refine Keeps.ite ?_ ?_
  · exact Keeps.refl _ _
  · refine Keeps.step (raise_keeps ..) rfl ?_
    refine Keeps.step (State.wr_keeps 77 group_cores ..) rfl ?_
    exact Keeps.refl _ _

theorem activate_keeps (s : State) (x1 : Key × Nat) : Keeps 633825300114114699719854785026 s (activate s x1) := by
  unfold activate
  split
  · exact Keeps.refl _ _
  · refine Keeps.ite ?_ ?_
    · refine Keeps.step (bankSwap_keeps ..) rfl ?_
      exact Keeps.refl _ _
    · refine Keeps.ite ?_ ?_
      · refine Keeps.ite ?_ ?_
        · exact Keeps.refl _ _
        · refine Keeps.step (raise_keeps ..) rfl ?_
          refine Keeps.step (State.wr_keeps 79 group_mgmt ..) rfl ?_
          exact Keeps.refl _ _
      · refine Keeps.step (State.wr_keepsAll ..) rfl ?_
        exact Keeps.refl _ _

theorem sigOwnerChange_keeps (x0 : State) (s : State) (x2 : Nat) : Keeps 4611687117976764418 s (sigOwnerChange x0 s x2) := by
  unfold sigOwnerChange
  refine Keeps.ite ?_ ?_
  · refine Keeps.ite ?_ ?_
    · refine Keeps.step (driveSig_keeps ..) rfl ?_
      exact Keeps.refl _ _
    · exact Keeps.refl _ _
  · refine Keeps.ite ?_ ?_
    · refine Keeps.step (iolSignal_keeps ..) rfl ?_
      refine Keeps.step (State.setSig_keeps ..) rfl ?_
      exact Keeps.refl _ _
    · refine Keeps.step (State.setSig_keeps ..) rfl ?_
      exact Keeps.refl _ _

theorem subEnabled_keeps (s : State) (x1 : Nat) : Keeps 2252899325345794 s (subEnabled s x1) := by
  unfold subEnabled
  refine Keeps.step (showStale_keeps ..) rfl ?_
  refine Keeps.step (State.wr_keeps 51 group_sub ..) rfl ?_
  refine Keeps.step (State.wr_keeps 51 group_sub ..) rfl ?_
  refine Keeps.step (State.wr_keeps 51 group_sub ..) rfl ?_
  refine Keeps.step (setSubEnt_keeps ..) rfl ?_
  exact Keeps.refl _ _

theorem activated_keeps (x0 : State) (s : State) (x2 : List (Key × Nat)) : Keeps 521699253596198044162 s (activated x0 s x2) := by
  unfold activated
  refine Keeps.step (judgeZones_keeps ..) rfl ?_
  refine Keeps.ite ?_ ?_
  · refine Keeps.step (judgeRanges_keeps ..) rfl ?_
    refine Keeps.step (judgeMargin_keeps ..) rfl ?_
    refine Keeps.ite ?_ ?_
    · refine Keeps.each (fun _ _ => ?_) ?_
      · refine Keeps.ite ?_ ?_
        · refine Keeps.step (subEnabled_keeps ..) rfl ?_
          exact Keeps.refl _ _
        · exact Keeps.refl _ _
      · refine Keeps.each (fun _ _ => ?_) ?_
        · refine Keeps.ite ?_ ?_
          · refine Keeps.step (pioHalt_keeps ..) rfl ?_
            exact Keeps.refl _ _
          · exact Keeps.refl _ _
        · refine Keeps.ite ?_ ?_
          · refine Keeps.each (fun _ _ => ?_) ?_
            · refine Keeps.step (sigOwnerChange_keeps ..) rfl ?_
              exact Keeps.refl _ _
            · refine Keeps.foldl (fun _ _ => ?_) _ _ ?_
              · refine Keeps.step (State.wr_keeps 40 (.inr rfl) ..) rfl ?_
                exact Keeps.refl _ _
              · exact Keeps.refl _ _
          · refine Keeps.foldl (fun _ _ => ?_) _ _ ?_
            · refine Keeps.step (State.wr_keeps 40 (.inr rfl) ..) rfl ?_
              exact Keeps.refl _ _
            · exact Keeps.refl _ _
    · refine Keeps.each (fun _ _ => ?_) ?_
      · refine Keeps.ite ?_ ?_
        · refine Keeps.step (pioHalt_keeps ..) rfl ?_
          exact Keeps.refl _ _
        · exact Keeps.refl _ _
      · refine Keeps.ite ?_ ?_
        · refine Keeps.each (fun _ _ => ?_) ?_
          · refine Keeps.step (sigOwnerChange_keeps ..) rfl ?_
            exact Keeps.refl _ _
          · refine Keeps.foldl (fun _ _ => ?_) _ _ ?_
            · refine Keeps.step (State.wr_keeps 40 (.inr rfl) ..) rfl ?_
              exact Keeps.refl _ _
            · exact Keeps.refl _ _
        · refine Keeps.foldl (fun _ _ => ?_) _ _ ?_
          · refine Keeps.step (State.wr_keeps 40 (.inr rfl) ..) rfl ?_
            exact Keeps.refl _ _
          · exact Keeps.refl _ _
  · refine Keeps.ite ?_ ?_
    · refine Keeps.each (fun _ _ => ?_) ?_
      · refine Keeps.ite ?_ ?_
        · refine Keeps.step (subEnabled_keeps ..) rfl ?_
          exact Keeps.refl _ _
        · exact Keeps.refl _ _
      · refine Keeps.each (fun _ _ => ?_) ?_
        · refine Keeps.ite ?_ ?_
          · refine Keeps.step (pioHalt_keeps ..) rfl ?_
            exact Keeps.refl _ _
          · exact Keeps.refl _ _
        · refine Keeps.ite ?_ ?_
          · refine Keeps.each (fun _ _ => ?_) ?_
            · refine Keeps.step (sigOwnerChange_keeps ..) rfl ?_
              exact Keeps.refl _ _
            · refine Keeps.foldl (fun _ _ => ?_) _ _ ?_
              · refine Keeps.step (State.wr_keeps 40 (.inr rfl) ..) rfl ?_
                exact Keeps.refl _ _
              · exact Keeps.refl _ _
          · refine Keeps.foldl (fun _ _ => ?_) _ _ ?_
            · refine Keeps.step (State.wr_keeps 40 (.inr rfl) ..) rfl ?_
              exact Keeps.refl _ _
            · exact Keeps.refl _ _
    · refine Keeps.each (fun _ _ => ?_) ?_
      · refine Keeps.ite ?_ ?_
        · refine Keeps.step (pioHalt_keeps ..) rfl ?_
          exact Keeps.refl _ _
        · exact Keeps.refl _ _
      · refine Keeps.ite ?_ ?_
        · refine Keeps.each (fun _ _ => ?_) ?_
          · refine Keeps.step (sigOwnerChange_keeps ..) rfl ?_
            exact Keeps.refl _ _
          · refine Keeps.foldl (fun _ _ => ?_) _ _ ?_
            · refine Keeps.step (State.wr_keeps 40 (.inr rfl) ..) rfl ?_
              exact Keeps.refl _ _
            · exact Keeps.refl _ _
        · refine Keeps.foldl (fun _ _ => ?_) _ _ ?_
          · refine Keeps.step (State.wr_keeps 40 (.inr rfl) ..) rfl ?_
            exact Keeps.refl _ _
          · exact Keeps.refl _ _

theorem applyStaged_keeps (s : State) (x1 : Bool) : Keeps 633825300114114699719905149454 s (applyStaged s x1) := by
  unfold applyStaged
  refine Keeps.ite ?_ ?_
  · refine Keeps.ite ?_ ?_
    · refine Keeps.foldl (fun _ _ => ?_) _ _ ?_
      · refine Keeps.step (activate_keeps ..) rfl ?_
        exact Keeps.refl _ _
      · refine Keeps.step (Keeps.put_staged_stagedLate ..) rfl ?_
        exact Keeps.refl _ _
    · refine Keeps.step (activated_keeps ..) rfl ?_
      refine Keeps.foldl (fun _ _ => ?_) _ _ ?_
      · refine Keeps.step (activate_keeps ..) rfl ?_
        exact Keeps.refl _ _
      · refine Keeps.step (Keeps.put_staged_stagedLate ..) rfl ?_
        exact Keeps.refl _ _
  · refine Keeps.step (Keeps.put_staged_stagedLate ..) rfl ?_
    exact Keeps.refl _ _

theorem gwResetTick_keeps (s : State) : Keeps 39614081257132169896283603458 s (gwResetTick s) := by
  unfold gwResetTick
  refine Keeps.ite ?_ ?_
  · refine Keeps.step (State.wr_keeps 95 (.inl rfl) ..) rfl ?_
    refine Keeps.step (Keeps.put_node ..) rfl ?_
    exact Keeps.refl _ _
  · exact Keeps.refl _ _

theorem tickAdvance_keeps (s : State) : Keeps 137438955520 s (tickAdvance s) := by
  unfold tickAdvance
  dsimp only
  split
  · refine Keeps.step (State.atTime_keeps ..) rfl ?_
    refine Keeps.step (Keeps.put_timeAny ..) rfl ?_
    exact Keeps.refl _ _
  · refine Keeps.step (State.atTime_keeps ..) rfl ?_
    refine Keeps.step (Keeps.put_timeAny ..) rfl ?_
    exact Keeps.refl _ _

theorem takeActivates_keeps (s : State) : Keeps 39618917481531150799675066882 s (takeActivates s) := by
  unfold takeActivates
  refine Keeps.foldl (fun _ _ => ?_) _ _ ?_
  · refine Keeps.step (actRequest_keeps ..) rfl ?_
    exact Keeps.refl _ _
  · refine Keeps.step (Keeps.put_time (ht := ⟨rfl, rfl⟩) ..) rfl ?_
    exact Keeps.refl _ _

theorem coresResume_keeps (s : State) (x1 : ImgInfo) (x2 : Nat) (x3 : Option (Nat × Nat)) :
    Keeps 151115727452932453433602 s (coresResume s x1 x2 x3) := by
  unfold coresResume
  refine Keeps.step (wdtsFollow_keeps ..) rfl ?_
  refine Keeps.step (wdtRestart_keeps ..) rfl ?_
  refine Keeps.step (setCore_keeps ..) rfl ?_
  refine Keeps.each (fun _ _ => ?_) ?_
  · refine Keeps.ite ?_ ?_
    · refine Keeps.step (wdtRestart_keeps ..) rfl ?_
      refine Keeps.step (coreStart_keeps ..) rfl ?_
      exact Keeps.refl _ _
    · exact Keeps.refl _ _
  · refine Keeps.step (orDraw_keeps ..) rfl ?_
    refine Keeps.step (orDraw_keeps ..) rfl ?_
    exact Keeps.refl _ _

theorem banksFlip_keeps (s : State) : Keeps 756099757782595078717954 s (banksFlip s) := by
  unfold banksFlip
  refine Keeps.step (raise_keeps ..) rfl ?_
  refine Keeps.step (State.wr_keeps 79 group_mgmt ..) rfl ?_
  refine Keeps.step (bankSwap_keeps ..) rfl ?_
  exact Keeps.refl _ _

theorem actSwap_keeps (s : State) : Keeps 160334307946913659024835330 s (actSwap s) := by
  unfold actSwap
  refine Keeps.step (raise_keeps ..) rfl ?_
  refine Keeps.step (Keeps.put_ao ..) rfl ?_
  refine Keeps.step (setUpd_keeps ..) rfl ?_
  refine Keeps.step (State.wr_keeps 82 group_upd ..) rfl ?_
  refine Keeps.step (coresResume_keeps ..) rfl ?_
  refine Keeps.step (banksFlip_keeps ..) rfl ?_
  exact Keeps.refl _ _

theorem exportStart_keeps (s : State) (x1 : Nat) : Keeps 39773659986441823334037455362 s (exportStart s x1) := by
  unfold exportStart
  refine Keeps.step (raise_keeps ..) rfl ?_
  refine Keeps.step (Keeps.put_mgmt ..) rfl ?_
  refine Keeps.step (actForget_keeps ..) rfl ?_
  refine Keeps.step (setUpd_keeps ..) rfl ?_
  refine Keeps.step (State.wr_keeps 82 group_upd ..) rfl ?_
  exact Keeps.refl _ _

theorem actDueNow_keeps (s : State) (x1 : Bool) (x2 : Nat) : Keeps 39776833416718311748505961218 s (actDueNow s x1 x2) := by
  unfold actDueNow
  refine Keeps.ite ?_ ?_
  · refine Keeps.step (State.wr_keeps 95 (.inl rfl) ..) rfl ?_
    refine Keeps.step (setUpd_keeps ..) rfl ?_
    refine Keeps.step (Keeps.put_mgmt ..) rfl ?_
    exact Keeps.refl _ _
  · refine Keeps.ite ?_ ?_
    · refine Keeps.step (actSwap_keeps ..) rfl ?_
      exact Keeps.refl _ _
    · refine Keeps.ite ?_ ?_
      · refine Keeps.step (exportStart_keeps ..) rfl ?_
        refine Keeps.step (Keeps.put_mgmt ..) rfl ?_
        refine Keeps.step (State.inc_keeps 82 group_upd ..) rfl ?_
        exact Keeps.refl _ _
      · refine Keeps.step (raise_keeps ..) rfl ?_
        refine Keeps.step (updResult_keeps ..) rfl ?_
        refine Keeps.step (setUpd_keeps ..) rfl ?_
        refine Keeps.step (actForget_keeps ..) rfl ?_
        exact Keeps.refl _ _

theorem actDefer_group {s : State} {f : Fld} (h : actDefer s = some f) :
    regGroup ⟨P.node, f.off, f.lsb, 0⟩ = 95 ∨ regGroup ⟨P.node, f.off, f.lsb, 0⟩ = 40 := by
  left
  unfold actDefer at h
  split at h
  · cases h; rfl
  · split at h
    · cases h; rfl
    · split at h
      · cases h; rfl
      · cases h

theorem actTick_keeps (s : State) (x1 : Bool) : Keeps 633825300114114699767099425538 s (actTick s x1) := by
  unfold actTick
  split
  · exact Keeps.refl _ _
  · refine Keeps.ite ?_ ?_
    · refine Keeps.ite ?_ ?_
      · exact Keeps.refl _ _
      · refine Keeps.step (actDueNow_keeps ..) rfl ?_
        exact Keeps.refl _ _
    · refine Keeps.ite ?_ ?_
      · exact Keeps.refl _ _
      · split
        · refine Keeps.step (State.wr_keepsAll ..) rfl ?_
          refine Keeps.step (State.zero_keeps 95 (by decide) ..) rfl ?_
          refine Keeps.step (Keeps.put_mgmt ..) rfl ?_
          exact Keeps.refl _ _
        · refine Keeps.step (exportStart_keeps ..) rfl ?_
          exact Keeps.refl _ _

theorem actRevert_keeps (s : State) : Keeps 162752159587268851640828686 s (actRevert s) := by
  unfold actRevert
  refine Keeps.ite ?_ ?_
  · exact Keeps.refl _ _
  · refine Keeps.step (countRaise_keeps 82 group_upd ..) rfl ?_
    refine Keeps.step (updResult_keeps ..) rfl ?_
    refine Keeps.step (setUpd_keeps ..) rfl ?_
    refine Keeps.step (Keeps.put_ao_mgmt ..) rfl ?_
    refine Keeps.step (coresResume_keeps ..) rfl ?_
    refine Keeps.step (setReady_keeps ..) rfl ?_
    refine Keeps.step (banksFlip_keeps ..) rfl ?_
    refine Keeps.step (Keeps.put_staged_stagedLate ..) rfl ?_
    exact Keeps.refl _ _

theorem tickFirst_keeps (s : State) (x1 : Bool) : Keeps 633825300114114699905126628174 s (tickFirst s x1) := by
  unfold tickFirst
  refine Keeps.step (actTick_keeps ..) rfl ?_
  refine Keeps.step (gwResetTick_keeps ..) rfl ?_
  refine Keeps.step (tickTransitions_keeps ..) rfl ?_
  refine Keeps.each (fun _ _ => ?_) ?_
  · refine Keeps.step (shapeTo_keeps ..) rfl ?_
    exact Keeps.refl _ _
  · refine Keeps.step (applyStaged_keeps ..) rfl ?_
    refine Keeps.step (dueCommands_keeps ..) rfl ?_
    refine Keeps.step (freeRun_keeps ..) rfl ?_
    refine Keeps.step (tickAdvance_keeps ..) rfl ?_
    refine Keeps.step (takeActivates_keeps ..) rfl ?_
    refine Keeps.step (actRevert_keeps ..) rfl ?_
    refine Keeps.step (nbrTick_keeps ..) rfl ?_
    exact Keeps.refl _ _

theorem execTickInstant_keeps (s : State) : OutKeeps 633825300114114699906538012542 s (execTickInstant s) := by
  unfold execTickInstant
  refine OutKeeps.next ?_
  refine Keeps.ite ?_ ?_
  · refine Keeps.step (tickLast_keeps ..) rfl ?_
    refine Keeps.step (tickSample_keeps ..) rfl ?_
    refine Keeps.step (tickSourceStep_keeps ..) rfl ?_
    refine Keeps.step (tickFirst_keeps ..) rfl ?_
    refine Keeps.step (commitPoint_keeps ..) rfl ?_
    exact Keeps.refl _ _
  · exact Keeps.refl _ _

theorem execTickLen_keeps (s : State) : OutKeeps 521697001796333996546 s (execTickLen s) := by
  unfold execTickLen
  refine OutKeeps.next ?_
  refine Keeps.ite ?_ ?_
  · split
    · refine Keeps.step (cmdTickLen_keeps ..) rfl ?_
      rename_i hq1
      refine Keeps.of_snd hq1 ?_
      refine Keeps.step (takeCmd_keeps ..) rfl ?_
      exact Keeps.refl _ _
    · rename_i hq2
      refine Keeps.of_snd hq2 ?_
      refine Keeps.step (takeCmd_keeps ..) rfl ?_
      exact Keeps.refl _ _
  · exact Keeps.refl _ _

theorem forwardTick_keeps (s : State) (x1 : Nat) (x2 : Frame) (x3 : Nat) :
    Keeps 521121508614263030274 s (forwardTick s x1 x2 x3) := by
  unfold forwardTick
  refine Keeps.ite ?_ ?_
  · exact Keeps.refl _ _
  · refine Keeps.step (stampEntry_keeps ..) rfl ?_
    refine Keeps.step (admitFrame_keeps ..) rfl ?_
    refine Keeps.step (Keeps.put_sw ..) rfl ?_
    exact Keeps.refl _ _

theorem tickOnK_keeps (s : State) (x1 : Nat) (x2 : Frame) (x3 : Nat) : Keeps 521121526206449076738 s (tickOnK s x1 x2 x3) := by
  unfold tickOnK
  refine Keeps.ite ?_ ?_
  · refine Keeps.step (forwardTick_keeps ..) rfl ?_
    exact Keeps.refl _ _
  · refine Keeps.ite ?_ ?_
    · refine Keeps.step (State.inc_keeps 44 group_time ..) rfl ?_
      exact Keeps.refl _ _
    · refine Keeps.step (forwardTick_keeps ..) rfl ?_
      refine Keeps.step (Keeps.put_time (ht := ⟨rfl, rfl⟩) ..) rfl ?_
      exact Keeps.refl _ _

theorem noteSide_keeps (s : State) (x1 : Frame) (x2 : Int) : Keeps 18691697674242 s (noteSide s x1 x2) := by
  unfold noteSide
  refine Keeps.ite ?_ ?_
  · refine Keeps.step (State.inc_keeps 44 group_time ..) rfl ?_
    refine Keeps.step (State.wr_keeps 44 group_time ..) rfl ?_
    refine Keeps.step (State.wr_keeps 44 group_time ..) rfl ?_
    refine Keeps.step (Keeps.put_time (ht := ⟨rfl, rfl⟩) ..) rfl ?_
    exact Keeps.refl _ _
  · refine Keeps.step (State.inc_keeps 44 group_time ..) rfl ?_
    refine Keeps.step (State.wr_keeps 44 group_time ..) rfl ?_
    refine Keeps.step (State.wr_keeps 44 group_time ..) rfl ?_
    refine Keeps.step (Keeps.put_time (ht := ⟨rfl, rfl⟩) ..) rfl ?_
    exact Keeps.refl _ _

theorem restoreFrom_keeps (s : State) (x1 : Frame) : Keeps 154743026607674330696387074 s (restoreFrom s x1) := by
  unfold restoreFrom
  refine Keeps.step (cmdWindow_keeps ..) rfl ?_
  refine Keeps.step (cmdTickLen_keeps ..) rfl ?_
  refine Keeps.step (setLine_keeps ..) rfl ?_
  exact Keeps.refl _ _

theorem stepTime_keeps (s : State) (x1 : Frame) (x2 : Int) : Keeps 154743026607674472430307842 s (stepTime s x1 x2) := by
  unfold stepTime
  refine Keeps.each (fun _ _ => ?_) ?_
  · refine Keeps.step (mtipFollow_keeps ..) rfl ?_
    exact Keeps.refl _ _
  · refine Keeps.step (restoreFrom_keeps ..) rfl ?_
    refine Keeps.step (Keeps.put_timeAny ..) rfl ?_
    exact Keeps.refl _ _

theorem followSource_keeps (s : State) (x1 : Source) : Keeps 521120541044030573058 s (followSource s x1) := by
  unfold followSource
  refine Keeps.ite ?_ ?_
  · exact Keeps.refl _ _
  · refine Keeps.step (Keeps.put_time (ht := ⟨rfl, rfl⟩) ..) rfl ?_
    refine Keeps.step (raise_keeps ..) rfl ?_
    refine Keeps.step (showSource_keeps ..) rfl ?_
    exact Keeps.refl _ _

theorem acceptTick_keeps (s : State) (x1 : Nat) (x2 : Frame) (x3 : Int) :
    Keeps 158611068055136349659518208514 s (acceptTick s x1 x2 x3) := by
  unfold acceptTick
  refine Keeps.ite ?_ ?_
  · refine Keeps.step (Keeps.put_time (ht := ⟨rfl, rfl⟩) ..) rfl ?_
    refine Keeps.foldl (fun _ _ => ?_) _ _ ?_
    · refine Keeps.step (storeCmd_keeps ..) rfl ?_
      exact Keeps.refl _ _
    · refine Keeps.step (Keeps.put_time (ht := ⟨rfl, rfl⟩) ..) rfl ?_
      refine Keeps.ite ?_ ?_
      · refine Keeps.step (Keeps.put_time (ht := ⟨rfl, rfl⟩) ..) rfl ?_
        refine Keeps.step (restoreFrom_keeps ..) rfl ?_
        refine Keeps.step (raise_keeps ..) rfl ?_
        refine Keeps.step (State.wr_keeps 44 group_time ..) rfl ?_
        refine Keeps.step (State.wr_keeps 44 group_time ..) rfl ?_
        refine Keeps.step (noteSide_keeps ..) rfl ?_
        refine Keeps.ite ?_ ?_
        · refine Keeps.step (stepTime_keeps ..) rfl ?_
          refine Keeps.step (Keeps.put_time (ht := ⟨rfl, rfl⟩) ..) rfl ?_
          refine Keeps.step (State.wr_keeps 44 group_time ..) rfl ?_
          refine Keeps.step (State.wr_keeps 44 group_time ..) rfl ?_
          refine Keeps.step (State.wr_keeps 44 group_time ..) rfl ?_
          refine Keeps.step (State.wr_keeps 44 group_time ..) rfl ?_
          refine Keeps.step (followSource_keeps ..) rfl ?_
          exact Keeps.refl _ _
        · refine Keeps.step (Keeps.put_time (ht := ⟨rfl, rfl⟩) ..) rfl ?_
          refine Keeps.step (State.wr_keeps 44 group_time ..) rfl ?_
          refine Keeps.step (State.wr_keeps 44 group_time ..) rfl ?_
          refine Keeps.step (State.wr_keeps 44 group_time ..) rfl ?_
          refine Keeps.step (State.wr_keeps 44 group_time ..) rfl ?_
          refine Keeps.step (followSource_keeps ..) rfl ?_
          exact Keeps.refl _ _
      · refine Keeps.step (State.wr_keeps 44 group_time ..) rfl ?_
        refine Keeps.step (noteSide_keeps ..) rfl ?_
        refine Keeps.ite ?_ ?_
        · refine Keeps.step (stepTime_keeps ..) rfl ?_
          refine Keeps.step (Keeps.put_time (ht := ⟨rfl, rfl⟩) ..) rfl ?_
          refine Keeps.step (State.wr_keeps 44 group_time ..) rfl ?_
          refine Keeps.step (State.wr_keeps 44 group_time ..) rfl ?_
          refine Keeps.step (State.wr_keeps 44 group_time ..) rfl ?_
          refine Keeps.step (State.wr_keeps 44 group_time ..) rfl ?_
          refine Keeps.step (followSource_keeps ..) rfl ?_
          exact Keeps.refl _ _
        · refine Keeps.step (Keeps.put_time (ht := ⟨rfl, rfl⟩) ..) rfl ?_
          refine Keeps.step (State.wr_keeps 44 group_time ..) rfl ?_
          refine Keeps.step (State.wr_keeps 44 group_time ..) rfl ?_
          refine Keeps.step (State.wr_keeps 44 group_time ..) rfl ?_
          refine Keeps.step (State.wr_keeps 44 group_time ..) rfl ?_
          refine Keeps.step (followSource_keeps ..) rfl ?_
          exact Keeps.refl _ _
  · refine Keeps.ite ?_ ?_
    · refine Keeps.foldl (fun _ _ => ?_) _ _ ?_
      · refine Keeps.step (storeCmd_keeps ..) rfl ?_
        exact Keeps.refl _ _
      · refine Keeps.step (Keeps.put_time (ht := ⟨rfl, rfl⟩) ..) rfl ?_
        refine Keeps.ite ?_ ?_
        · refine Keeps.step (Keeps.put_time (ht := ⟨rfl, rfl⟩) ..) rfl ?_
          refine Keeps.step (restoreFrom_keeps ..) rfl ?_
          refine Keeps.step (raise_keeps ..) rfl ?_
          refine Keeps.step (State.wr_keeps 44 group_time ..) rfl ?_
          refine Keeps.step (State.wr_keeps 44 group_time ..) rfl ?_
          refine Keeps.step (noteSide_keeps ..) rfl ?_
          refine Keeps.ite ?_ ?_
          · refine Keeps.step (stepTime_keeps ..) rfl ?_
            refine Keeps.step (Keeps.put_time (ht := ⟨rfl, rfl⟩) ..) rfl ?_
            refine Keeps.step (State.wr_keeps 44 group_time ..) rfl ?_
            refine Keeps.step (State.wr_keeps 44 group_time ..) rfl ?_
            refine Keeps.step (State.wr_keeps 44 group_time ..) rfl ?_
            refine Keeps.step (State.wr_keeps 44 group_time ..) rfl ?_
            refine Keeps.step (followSource_keeps ..) rfl ?_
            exact Keeps.refl _ _
          · refine Keeps.step (Keeps.put_time (ht := ⟨rfl, rfl⟩) ..) rfl ?_
            refine Keeps.step (State.wr_keeps 44 group_time ..) rfl ?_
            refine Keeps.step (State.wr_keeps 44 group_time ..) rfl ?_
            refine Keeps.step (State.wr_keeps 44 group_time ..) rfl ?_
            refine Keeps.step (State.wr_keeps 44 group_time ..) rfl ?_
            refine Keeps.step (followSource_keeps ..) rfl ?_
            exact Keeps.refl _ _
        · refine Keeps.step (State.wr_keeps 44 group_time ..) rfl ?_
          refine Keeps.step (noteSide_keeps ..) rfl ?_
          refine Keeps.ite ?_ ?_
          · refine Keeps.step (stepTime_keeps ..) rfl ?_
            refine Keeps.step (Keeps.put_time (ht := ⟨rfl, rfl⟩) ..) rfl ?_
            refine Keeps.step (State.wr_keeps 44 group_time ..) rfl ?_
            refine Keeps.step (State.wr_keeps 44 group_time ..) rfl ?_
            refine Keeps.step (State.wr_keeps 44 group_time ..) rfl ?_
            refine Keeps.step (State.wr_keeps 44 group_time ..) rfl ?_
            refine Keeps.step (followSource_keeps ..) rfl ?_
            exact Keeps.refl _ _
          · refine Keeps.step (Keeps.put_time (ht := ⟨rfl, rfl⟩) ..) rfl ?_
            refine Keeps.step (State.wr_keeps 44 group_time ..) rfl ?_
            refine Keeps.step (State.wr_keeps 44 group_time ..) rfl ?_
            refine Keeps.step (State.wr_keeps 44 group_time ..) rfl ?_
            refine Keeps.step (State.wr_keeps 44 group_time ..) rfl ?_
            refine Keeps.step (followSource_keeps ..) rfl ?_
            exact Keeps.refl _ _
    · refine Keeps.ite ?_ ?_
      · refine Keeps.step (combineTick_keeps ..) rfl ?_
        refine Keeps.step (Keeps.put_time (ht := ⟨rfl, rfl⟩) ..) rfl ?_
        refine Keeps.foldl (fun _ _ => ?_) _ _ ?_
        · refine Keeps.step (storeCmd_keeps ..) rfl ?_
          exact Keeps.refl _ _
        · refine Keeps.step (Keeps.put_time (ht := ⟨rfl, rfl⟩) ..) rfl ?_
          refine Keeps.ite ?_ ?_
          · refine Keeps.step (Keeps.put_time (ht := ⟨rfl, rfl⟩) ..) rfl ?_
            refine Keeps.step (restoreFrom_keeps ..) rfl ?_
            refine Keeps.step (raise_keeps ..) rfl ?_
            refine Keeps.step (State.wr_keeps 44 group_time ..) rfl ?_
            refine Keeps.step (State.wr_keeps 44 group_time ..) rfl ?_
            refine Keeps.step (noteSide_keeps ..) rfl ?_
            refine Keeps.ite ?_ ?_
            · refine Keeps.step (stepTime_keeps ..) rfl ?_
              refine Keeps.step (Keeps.put_time (ht := ⟨rfl, rfl⟩) ..) rfl ?_
              refine Keeps.step (State.wr_keeps 44 group_time ..) rfl ?_
              refine Keeps.step (State.wr_keeps 44 group_time ..) rfl ?_
              refine Keeps.step (State.wr_keeps 44 group_time ..) rfl ?_
              refine Keeps.step (State.wr_keeps 44 group_time ..) rfl ?_
              refine Keeps.step (followSource_keeps ..) rfl ?_
              exact Keeps.refl _ _
            · refine Keeps.step (Keeps.put_time (ht := ⟨rfl, rfl⟩) ..) rfl ?_
              refine Keeps.step (State.wr_keeps 44 group_time ..) rfl ?_
              refine Keeps.step (State.wr_keeps 44 group_time ..) rfl ?_
              refine Keeps.step (State.wr_keeps 44 group_time ..) rfl ?_
              refine Keeps.step (State.wr_keeps 44 group_time ..) rfl ?_
              refine Keeps.step (followSource_keeps ..) rfl ?_
              exact Keeps.refl _ _
          · refine Keeps.step (State.wr_keeps 44 group_time ..) rfl ?_
            refine Keeps.step (noteSide_keeps ..) rfl ?_
            refine Keeps.ite ?_ ?_
            · refine Keeps.step (stepTime_keeps ..) rfl ?_
              refine Keeps.step (Keeps.put_time (ht := ⟨rfl, rfl⟩) ..) rfl ?_
              refine Keeps.step (State.wr_keeps 44 group_time ..) rfl ?_
              refine Keeps.step (State.wr_keeps 44 group_time ..) rfl ?_
              refine Keeps.step (State.wr_keeps 44 group_time ..) rfl ?_
              refine Keeps.step (State.wr_keeps 44 group_time ..) rfl ?_
              refine Keeps.step (followSource_keeps ..) rfl ?_
              exact Keeps.refl _ _
            · refine Keeps.step (Keeps.put_time (ht := ⟨rfl, rfl⟩) ..) rfl ?_
              refine Keeps.step (State.wr_keeps 44 group_time ..) rfl ?_
              refine Keeps.step (State.wr_keeps 44 group_time ..) rfl ?_
              refine Keeps.step (State.wr_keeps 44 group_time ..) rfl ?_
              refine Keeps.step (State.wr_keeps 44 group_time ..) rfl ?_
              refine Keeps.step (followSource_keeps ..) rfl ?_
              exact Keeps.refl _ _
      · refine Keeps.step (Keeps.put_time (ht := ⟨rfl, rfl⟩) ..) rfl ?_
        refine Keeps.foldl (fun _ _ => ?_) _ _ ?_
        · refine Keeps.step (storeCmd_keeps ..) rfl ?_
          exact Keeps.refl _ _
        · refine Keeps.step (Keeps.put_time (ht := ⟨rfl, rfl⟩) ..) rfl ?_
          refine Keeps.ite ?_ ?_
          · refine Keeps.step (Keeps.put_time (ht := ⟨rfl, rfl⟩) ..) rfl ?_
            refine Keeps.step (restoreFrom_keeps ..) rfl ?_
            refine Keeps.step (raise_keeps ..) rfl ?_
            refine Keeps.step (State.wr_keeps 44 group_time ..) rfl ?_
            refine Keeps.step (State.wr_keeps 44 group_time ..) rfl ?_
            refine Keeps.step (noteSide_keeps ..) rfl ?_
            refine Keeps.ite ?_ ?_
            · refine Keeps.step (stepTime_keeps ..) rfl ?_
              refine Keeps.step (Keeps.put_time (ht := ⟨rfl, rfl⟩) ..) rfl ?_
              refine Keeps.step (State.wr_keeps 44 group_time ..) rfl ?_
              refine Keeps.step (State.wr_keeps 44 group_time ..) rfl ?_
              refine Keeps.step (State.wr_keeps 44 group_time ..) rfl ?_
              refine Keeps.step (State.wr_keeps 44 group_time ..) rfl ?_
              refine Keeps.step (followSource_keeps ..) rfl ?_
              exact Keeps.refl _ _
            · refine Keeps.step (Keeps.put_time (ht := ⟨rfl, rfl⟩) ..) rfl ?_
              refine Keeps.step (State.wr_keeps 44 group_time ..) rfl ?_
              refine Keeps.step (State.wr_keeps 44 group_time ..) rfl ?_
              refine Keeps.step (State.wr_keeps 44 group_time ..) rfl ?_
              refine Keeps.step (State.wr_keeps 44 group_time ..) rfl ?_
              refine Keeps.step (followSource_keeps ..) rfl ?_
              exact Keeps.refl _ _
          · refine Keeps.step (State.wr_keeps 44 group_time ..) rfl ?_
            refine Keeps.step (noteSide_keeps ..) rfl ?_
            refine Keeps.ite ?_ ?_
            · refine Keeps.step (stepTime_keeps ..) rfl ?_
              refine Keeps.step (Keeps.put_time (ht := ⟨rfl, rfl⟩) ..) rfl ?_
              refine Keeps.step (State.wr_keeps 44 group_time ..) rfl ?_
              refine Keeps.step (State.wr_keeps 44 group_time ..) rfl ?_
              refine Keeps.step (State.wr_keeps 44 group_time ..) rfl ?_
              refine Keeps.step (State.wr_keeps 44 group_time ..) rfl ?_
              refine Keeps.step (followSource_keeps ..) rfl ?_
              exact Keeps.refl _ _
            · refine Keeps.step (Keeps.put_time (ht := ⟨rfl, rfl⟩) ..) rfl ?_
              refine Keeps.step (State.wr_keeps 44 group_time ..) rfl ?_
              refine Keeps.step (State.wr_keeps 44 group_time ..) rfl ?_
              refine Keeps.step (State.wr_keeps 44 group_time ..) rfl ?_
              refine Keeps.step (State.wr_keeps 44 group_time ..) rfl ?_
              refine Keeps.step (followSource_keeps ..) rfl ?_
              exact Keeps.refl _ _

theorem execTickReceived_keeps (x0 x1 x2 : Nat) (x3 : Frame) (s : State) :
    OutKeeps 158611068055137370006308805122 s (execTickReceived x0 x1 x2 x3 s) := by
  unfold execTickReceived
  refine OutKeeps.next ?_
  refine Keeps.ite ?_ ?_
  · refine Keeps.ite ?_ ?_
    · refine Keeps.step (rxCount_keeps ..) rfl ?_
      exact Keeps.refl _ _
    · refine Keeps.ite ?_ ?_
      · refine Keeps.step (forwardTick_keeps ..) rfl ?_
        refine Keeps.step (rxCount_keeps ..) rfl ?_
        exact Keeps.refl _ _
      · refine Keeps.ite ?_ ?_
        · refine Keeps.step (forwardTick_keeps ..) rfl ?_
          refine Keeps.step (State.atTime_keeps ..) rfl ?_
          refine Keeps.step (rxCount_keeps ..) rfl ?_
          exact Keeps.refl _ _
        · refine Keeps.ite ?_ ?_
          · refine Keeps.step (tickOnK_keeps ..) rfl ?_
            refine Keeps.step (State.atTime_keeps ..) rfl ?_
            refine Keeps.step (rxCount_keeps ..) rfl ?_
            exact Keeps.refl _ _
          · refine Keeps.ite ?_ ?_
            · refine Keeps.step (forwardTick_keeps ..) rfl ?_
              refine Keeps.step (State.atTime_keeps ..) rfl ?_
              refine Keeps.step (rxCount_keeps ..) rfl ?_
              exact Keeps.refl _ _
            · refine Keeps.ite ?_ ?_
              · refine Keeps.step (State.inc_keeps 44 group_time ..) rfl ?_
                refine Keeps.step (State.atTime_keeps ..) rfl ?_
                refine Keeps.step (rxCount_keeps ..) rfl ?_
                exact Keeps.refl _ _
              · refine Keeps.step (forwardTick_keeps ..) rfl ?_
                refine Keeps.step (acceptTick_keeps ..) rfl ?_
                refine Keeps.step (State.atTime_keeps ..) rfl ?_
                refine Keeps.step (rxCount_keeps ..) rfl ?_
                exact Keeps.refl _ _
  · exact Keeps.refl _ _

theorem execTransitionFail_keeps (x0 x1 : Nat) (s : State) : OutKeeps 115038517830956604291906 s (execTransitionFail x0 x1 s) := by
  unfold execTransitionFail
  refine OutKeeps.next ?_
  refine Keeps.ite ?_ ?_
  · refine Keeps.step (hardReset_keeps ..) rfl ?_
    refine Keeps.step (pdFault_keeps ..) rfl ?_
    exact Keeps.refl _ _
  · exact Keeps.refl _ _

theorem execTrigForce_keeps (x0 : Nat) (x1 : By) (x2 : Nat) (s : State) :
    OutKeeps 633825300114114699769065503598 s (execTrigForce x0 x1 x2 s) := by
  unfold execTrigForce
  refine OutKeeps.next ?_
  refine Keeps.step (busStore_keeps ..) rfl ?_
  exact Keeps.refl _ _

theorem execTripClear_keeps (x0 : Nat) (x1 : By) (s : State) :
    OutKeeps 633825300114114699769065503598 s (execTripClear x0 x1 s) := by
  unfold execTripClear
  refine OutKeeps.next ?_
  refine Keeps.step (busStore_keeps ..) rfl ?_
  exact Keeps.refl _ _

theorem execTripRetry_keeps (x0 : Nat) (s : State) : OutKeeps 4611687117939015682 s (execTripRetry x0 s) := by
  unfold execTripRetry
  refine OutKeeps.next ?_
  refine Keeps.ite ?_ ?_
  · refine Keeps.step (chFaultEnd_keeps ..) rfl ?_
    exact Keeps.refl _ _
  · exact Keeps.refl _ _

theorem execTripped_keeps (x0 : Nat) (s : State) : OutKeeps 521120523451844526594 s (execTripped x0 s) := by
  unfold execTripped
  refine OutKeeps.next ?_
  refine Keeps.ite ?_ ?_
  · refine Keeps.step (State.chWr_keeps ..) rfl ?_
    refine Keeps.step (State.setChan_keeps ..) rfl ?_
    refine Keeps.step (chFault_keeps raise_keeps ..) rfl ?_
    exact Keeps.refl _ _
  · exact Keeps.refl _ _

theorem tunSettle_keeps (s : State) (x1 : Nat) (x2 : TunRx) (x3 : Nat) : Keeps 521130621366634117634 s (tunSettle s x1 x2 x3) := by
  unfold tunSettle
  refine Keeps.ite ?_ ?_
  · refine Keeps.ite ?_ ?_
    · refine Keeps.step (settleHeld_keeps ..) rfl ?_
      refine Keeps.step (State.setLane_keeps ..) rfl ?_
      exact Keeps.refl _ _
    · refine Keeps.step (State.setLane_keeps ..) rfl ?_
      exact Keeps.refl _ _
  · split
    · refine Keeps.step (State.setLane_keeps ..) rfl ?_
      refine Keeps.step (State.setLane_keeps ..) rfl ?_
      exact Keeps.refl _ _
    · refine Keeps.step (State.setLane_keeps ..) rfl ?_
      exact Keeps.refl _ _

theorem tunnelOut_keeps (s : State) (x1 x2 : Nat) (x3 : Bool) (x4 : Frame) :
    Keeps 1701713129331674333698 s (tunnelOut s x1 x2 x3 x4).2 := by
  unfold tunnelOut
  split
  · split
    · dsimp only
      split
      · exact Keeps.refl _ _
      · refine Keeps.ite_snd ?_ ?_
        · refine Keeps.ite_snd ?_ ?_
          · refine Keeps.step (squall_keeps ..) rfl ?_
            exact Keeps.refl _ _
          · exact Keeps.refl _ _
        · refine Keeps.ite_snd ?_ ?_
          · refine Keeps.step (dropAt_keeps ..) rfl ?_
            refine Keeps.ite_snd ?_ ?_
            · refine Keeps.step (squall_keeps ..) rfl ?_
              exact Keeps.refl _ _
            · exact Keeps.refl _ _
          · refine Keeps.ite_snd ?_ ?_
            · refine Keeps.step (dropAt_keeps ..) rfl ?_
              refine Keeps.step (admitEth_keeps ..) rfl ?_
              refine Keeps.ite_snd ?_ ?_
              · refine Keeps.step (squall_keeps ..) rfl ?_
                exact Keeps.refl _ _
              · exact Keeps.refl _ _
            · refine Keeps.step (countPath_keeps ..) rfl ?_
              refine Keeps.step (admitEth_keeps ..) rfl ?_
              refine Keeps.ite_snd ?_ ?_
              · refine Keeps.step (squall_keeps ..) rfl ?_
                exact Keeps.refl _ _
              · exact Keeps.refl _ _
    · dsimp only
      split
      · refine Keeps.step (State.inc_keeps 70 group_eth ..) rfl ?_
        exact Keeps.refl _ _
      · refine Keeps.ite_snd ?_ ?_
        · refine Keeps.ite_snd ?_ ?_
          · refine Keeps.step (squall_keeps ..) rfl ?_
            exact Keeps.refl _ _
          · exact Keeps.refl _ _
        · refine Keeps.ite_snd ?_ ?_
          · refine Keeps.step (dropAt_keeps ..) rfl ?_
            refine Keeps.ite_snd ?_ ?_
            · refine Keeps.step (squall_keeps ..) rfl ?_
              exact Keeps.refl _ _
            · exact Keeps.refl _ _
          · refine Keeps.ite_snd ?_ ?_
            · refine Keeps.step (dropAt_keeps ..) rfl ?_
              refine Keeps.step (admitEth_keeps ..) rfl ?_
              refine Keeps.ite_snd ?_ ?_
              · refine Keeps.step (squall_keeps ..) rfl ?_
                exact Keeps.refl _ _
              · exact Keeps.refl _ _
            · refine Keeps.step (countPath_keeps ..) rfl ?_
              refine Keeps.step (admitEth_keeps ..) rfl ?_
              refine Keeps.ite_snd ?_ ?_
              · refine Keeps.step (squall_keeps ..) rfl ?_
                exact Keeps.refl _ _
              · exact Keeps.refl _ _
  · split
    · dsimp only
      split
      · exact Keeps.refl _ _
      · refine Keeps.ite_snd ?_ ?_
        · refine Keeps.ite_snd ?_ ?_
          · refine Keeps.step (squall_keeps ..) rfl ?_
            exact Keeps.refl _ _
          · exact Keeps.refl _ _
        · refine Keeps.ite_snd ?_ ?_
          · refine Keeps.step (dropAt_keeps ..) rfl ?_
            refine Keeps.ite_snd ?_ ?_
            · refine Keeps.step (squall_keeps ..) rfl ?_
              exact Keeps.refl _ _
            · exact Keeps.refl _ _
          · refine Keeps.ite_snd ?_ ?_
            · refine Keeps.step (dropAt_keeps ..) rfl ?_
              refine Keeps.step (admitEth_keeps ..) rfl ?_
              refine Keeps.ite_snd ?_ ?_
              · refine Keeps.step (squall_keeps ..) rfl ?_
                exact Keeps.refl _ _
              · exact Keeps.refl _ _
            · refine Keeps.step (countPath_keeps ..) rfl ?_
              refine Keeps.step (admitEth_keeps ..) rfl ?_
              refine Keeps.ite_snd ?_ ?_
              · refine Keeps.step (squall_keeps ..) rfl ?_
                exact Keeps.refl _ _
              · exact Keeps.refl _ _
    · dsimp only
      split
      · refine Keeps.step (State.inc_keeps 70 group_eth ..) rfl ?_
        exact Keeps.refl _ _
      · refine Keeps.ite_snd ?_ ?_
        · refine Keeps.ite_snd ?_ ?_
          · refine Keeps.step (squall_keeps ..) rfl ?_
            exact Keeps.refl _ _
          · exact Keeps.refl _ _
        · refine Keeps.ite_snd ?_ ?_
          · refine Keeps.step (dropAt_keeps ..) rfl ?_
            refine Keeps.ite_snd ?_ ?_
            · refine Keeps.step (squall_keeps ..) rfl ?_
              exact Keeps.refl _ _
            · exact Keeps.refl _ _
          · refine Keeps.ite_snd ?_ ?_
            · refine Keeps.step (dropAt_keeps ..) rfl ?_
              refine Keeps.step (admitEth_keeps ..) rfl ?_
              refine Keeps.ite_snd ?_ ?_
              · refine Keeps.step (squall_keeps ..) rfl ?_
                exact Keeps.refl _ _
              · exact Keeps.refl _ _
            · refine Keeps.step (countPath_keeps ..) rfl ?_
              refine Keeps.step (admitEth_keeps ..) rfl ?_
              refine Keeps.ite_snd ?_ ?_
              · refine Keeps.step (squall_keeps ..) rfl ?_
                exact Keeps.refl _ _
              · exact Keeps.refl _ _

theorem execTunnelEth_keeps (x0 : Nat) (x1 : Frame) (s : State) : OutKeeps 1701722242084045421058 s (execTunnelEth x0 x1 s) := by
  unfold execTunnelEth
  refine OutKeeps.next ?_
  refine Keeps.ite ?_ ?_
  · split
    · exact Keeps.refl _ _
    · refine Keeps.step (tunSettle_keeps ..) rfl ?_
      refine Keeps.step (tunnelOut_keeps ..) rfl ?_
      exact Keeps.refl _ _
  · exact Keeps.refl _ _

theorem canTunnelIn_keeps (s : State) (x1 : Frame) : Keeps 521139100800307577346 s (canTunnelIn s x1) := by
  unfold canTunnelIn
  dsimp only
  split
  · refine Keeps.step (qAdmit_keeps ..) rfl ?_
    exact Keeps.refl _ _
  · refine Keeps.step (State.inc_keeps 66 group_can ..) rfl ?_
    exact Keeps.refl _ _

theorem State.uaInc_keeps (s : State) (x1 : Nat) (x2 : Nat → Fld) : Keeps 147573953689188040706 s (State.uaInc s x1 x2) := by
  unfold State.uaInc
  refine Keeps.step (State.inc_keeps 67 group_uart ..) rfl ?_
  exact Keeps.refl _ _

theorem uartTunnelIn_keeps (s : State) (x1 : Frame) : Keeps 521139100800307577346 s (uartTunnelIn s x1) := by
  unfold uartTunnelIn
  dsimp only
  split
  · refine Keeps.step (uartStart_keeps ..) rfl ?_
    refine Keeps.step (qAdmit_keeps ..) rfl ?_
    exact Keeps.refl _ _
  · refine Keeps.step (State.uaInc_keeps ..) rfl ?_
    exact Keeps.refl _ _

theorem execTunnelField_keeps (x0 : Frame) (s : State) : OutKeeps 521139100800307577346 s (execTunnelField x0 s) := by
  unfold execTunnelField
  refine OutKeeps.next ?_
  refine Keeps.ite ?_ ?_
  · refine Keeps.ite ?_ ?_
    · refine Keeps.step (canTunnelIn_keeps ..) rfl ?_
      exact Keeps.refl _ _
    · refine Keeps.ite ?_ ?_
      · refine Keeps.step (uartTunnelIn_keeps ..) rfl ?_
        exact Keeps.refl _ _
      · exact Keeps.refl _ _
  · exact Keeps.refl _ _

theorem execTxCtrl_keeps (x0 : Nat) (x1 : By) (x2 : Bool) (x3 : Nat) (s : State) :
    OutKeeps 633825300114114699769065503598 s (execTxCtrl x0 x1 x2 x3 s) := by
  unfold execTxCtrl
  refine OutKeeps.next ?_
  refine Keeps.step (busStore_keeps ..) rfl ?_
  exact Keeps.refl _ _

theorem fetchServed_keeps (s : State) (x1 : TagSt) : Keeps 521125871476402119170 s (fetchServed s x1) := by
  unfold fetchServed
  refine Keeps.foldl (fun _ _ => ?_) _ _ ?_
  · refine Keeps.step (sendTag_keeps ..) rfl ?_
    exact Keeps.refl _ _
  · exact Keeps.refl _ _

theorem completeTag_keeps (s : State) (x1 x2 : Nat) (x3 : List Nat) : Keeps 521125880272495141378 s (completeTag s x1 x2 x3) := by
  unfold completeTag
  split
  · exact Keeps.refl _ _
  · refine Keeps.ite ?_ ?_
    · refine Keeps.step (endTag_keeps ..) rfl ?_
      exact Keeps.refl _ _
    · refine Keeps.ite ?_ ?_
      · refine Keeps.foldl (fun _ _ => ?_) _ _ ?_
        · refine Keeps.step (endTag_keeps ..) rfl ?_
          exact Keeps.refl _ _
        · refine Keeps.step (endTag_keeps ..) rfl ?_
          exact Keeps.refl _ _
      · refine Keeps.step (fetchServed_keeps ..) rfl ?_
        refine Keeps.step (endTag_keeps ..) rfl ?_
        exact Keeps.refl _ _

theorem execTxnCpl_keeps (x0 : Frame) (s : State) : OutKeeps 633825300114114699769065504638 s (execTxnCpl x0 s) := by
  unfold execTxnCpl
  refine OutKeeps.next ?_
  refine Keeps.ite ?_ ?_
  · split
    · dsimp only
      split
      · refine Keeps.step (Keeps.put_halo ..) rfl ?_
        exact Keeps.refl _ _
      · refine Keeps.ite ?_ ?_
        · refine Keeps.step (Keeps.put_halo ..) rfl ?_
          exact Keeps.refl _ _
        · refine Keeps.ite ?_ ?_
          · refine Keeps.ite ?_ ?_
            · refine Keeps.step (fetchServed_keeps ..) rfl ?_
              refine Keeps.step (Keeps.put_halo ..) rfl ?_
              exact Keeps.refl _ _
            · refine Keeps.step (Keeps.put_halo ..) rfl ?_
              exact Keeps.refl _ _
          · refine Keeps.step (xferPump_keeps ..) rfl ?_
            refine Keeps.step (completeTag_keeps ..) rfl ?_
            refine Keeps.step (Keeps.put_halo ..) rfl ?_
            exact Keeps.refl _ _
    · dsimp only
      split
      · exact Keeps.refl _ _
      · refine Keeps.ite ?_ ?_
        · exact Keeps.refl _ _
        · refine Keeps.ite ?_ ?_
          · refine Keeps.ite ?_ ?_
            · refine Keeps.step (fetchServed_keeps ..) rfl ?_
              exact Keeps.refl _ _
            · exact Keeps.refl _ _
          · refine Keeps.step (xferPump_keeps ..) rfl ?_
            refine Keeps.step (completeTag_keeps ..) rfl ?_
            exact Keeps.refl _ _
  · exact Keeps.refl _ _

theorem txnResend_keeps (s : State) (x1 : Nat) : Keeps 521125880272495141378 s (txnResend s x1) := by
  unfold txnResend
  split
  · exact Keeps.refl _ _
  · split
    · exact Keeps.refl _ _
    · refine Keeps.ite ?_ ?_
      · exact Keeps.refl _ _
      · refine Keeps.ite ?_ ?_
        · refine Keeps.step (completeTag_keeps ..) rfl ?_
          exact Keeps.refl _ _
        · refine Keeps.step (sendTag_keeps ..) rfl ?_
          exact Keeps.refl _ _

theorem execTxnResend_keeps (x0 : Nat) (s : State) : OutKeeps 633825300114114699769065504638 s (execTxnResend x0 s) := by
  unfold execTxnResend
  refine OutKeeps.next ?_
  refine Keeps.ite ?_ ?_
  · refine Keeps.step (xferPump_keeps ..) rfl ?_
    refine Keeps.step (txnResend_keeps ..) rfl ?_
    exact Keeps.refl _ _
  · exact Keeps.refl _ _

theorem txnExpire_keeps (s : State) (x1 : Nat) : Keeps 521125880272495141378 s (txnExpire s x1) := by
  unfold txnExpire
  split
  · exact Keeps.refl _ _
  · split
    · exact Keeps.refl _ _
    · refine Keeps.ite ?_ ?_
      · exact Keeps.refl _ _
      · refine Keeps.step (completeTag_keeps ..) rfl ?_
        exact Keeps.refl _ _

theorem execTxnTimeout_keeps (x0 : Nat) (s : State) : OutKeeps 633825300114114699769065504638 s (execTxnTimeout x0 s) := by
  unfold execTxnTimeout
  refine OutKeeps.next ?_
  refine Keeps.ite ?_ ?_
  · refine Keeps.step (xferPump_keeps ..) rfl ?_
    refine Keeps.step (txnExpire_keeps ..) rfl ?_
    exact Keeps.refl _ _
  · exact Keeps.refl _ _

theorem execUTx_keeps (x0 : Nat) (x1 : By) (x2 : Bool) (x3 : Nat) (s : State) :
    OutKeeps 633825300114114699769065503598 s (execUTx x0 x1 x2 x3 s) := by
  unfold execUTx
  refine OutKeeps.next ?_
  refine Keeps.step (busStore_keeps ..) rfl ?_
  exact Keeps.refl _ _

theorem uartEv_keeps (s : State) (x1 : Nat) : Keeps 521120523451844526594 s (uartEv s x1) := by
  unfold uartEv
  refine Keeps.step (raise_keeps ..) rfl ?_
  exact Keeps.refl _ _

theorem uartErr_keeps (s : State) (x1 x2 : Nat) : Keeps 521120523451844526594 s (uartErr s x1 x2) := by
  unfold uartErr
  refine Keeps.step (uartEv_keeps ..) rfl ?_
  refine Keeps.step (State.uaWr_keeps ..) rfl ?_
  exact Keeps.refl _ _

theorem uartTunnel_keeps (s : State) (x1 x2 x3 : Nat) (x4 : List Nat) :
    Keeps 521121367876774683138 s (uartTunnel s x1 x2 x3 x4) := by
  unfold uartTunnel
  refine Keeps.ite ?_ ?_
  · exact Keeps.refl _ _
  · refine Keeps.ite ?_ ?_
    · refine Keeps.step (State.uaInc_keeps ..) rfl ?_
      exact Keeps.refl _ _
    · dsimp only
      split
      · refine Keeps.step (metered_keeps ..) rfl ?_
        exact Keeps.refl _ _
      · refine Keeps.step (originate_keeps ..) rfl ?_
        refine Keeps.step (metered_keeps ..) rfl ?_
        exact Keeps.refl _ _

theorem uartPacket_keeps (s : State) (x1 : Nat) (x2 x3 : Bool) : Keeps 521139382275284296194 s (uartPacket s x1 x2 x3) := by
  unfold uartPacket
  refine Keeps.ite ?_ ?_
  · exact Keeps.refl _ _
  · refine Keeps.ite ?_ ?_
    · refine Keeps.step (setUart_keeps ..) rfl ?_
      exact Keeps.refl _ _
    · refine Keeps.step (uartTunnel_keeps ..) rfl ?_
      refine Keeps.ite ?_ ?_
      · refine Keeps.step (qAdmit_keeps ..) rfl ?_
        refine Keeps.step (uartEv_keeps ..) rfl ?_
        refine Keeps.step (State.uaInc_keeps ..) rfl ?_
        refine Keeps.step (setUart_keeps ..) rfl ?_
        exact Keeps.refl _ _
      · refine Keeps.step (State.uaInc_keeps ..) rfl ?_
        refine Keeps.step (qAdmit_keeps ..) rfl ?_
        refine Keeps.step (uartEv_keeps ..) rfl ?_
        refine Keeps.step (State.uaInc_keeps ..) rfl ?_
        refine Keeps.step (setUart_keeps ..) rfl ?_
        exact Keeps.refl _ _

theorem uartChar_keeps (s : State) (x1 x2 : Nat) (x3 x4 x5 : Bool) (x6 : Nat) :
    Keeps 521139382275284296194 s (uartChar s x1 x2 x3 x4 x5 x6) := by
  unfold uartChar
  refine Keeps.ite ?_ ?_
  · refine Keeps.step (uartPacket_keeps ..) rfl ?_
    refine Keeps.step (setUart_keeps ..) rfl ?_
    refine Keeps.ite ?_ ?_
    · refine Keeps.step (uartPacket_keeps ..) rfl ?_
      exact Keeps.refl _ _
    · exact Keeps.refl _ _
  · refine Keeps.ite ?_ ?_
    · refine Keeps.step (uartPacket_keeps ..) rfl ?_
      refine Keeps.step (setUart_keeps ..) rfl ?_
      refine Keeps.ite ?_ ?_
      · refine Keeps.step (uartPacket_keeps ..) rfl ?_
        exact Keeps.refl _ _
      · exact Keeps.refl _ _
    · refine Keeps.step (setUart_keeps ..) rfl ?_
      refine Keeps.ite ?_ ?_
      · refine Keeps.step (uartPacket_keeps ..) rfl ?_
        exact Keeps.refl _ _
      · exact Keeps.refl _ _

theorem execUartCharacter_keeps (x0 x1 : Nat) (x2 x3 x4 : Bool) (x5 : Nat) (s : State) :
    OutKeeps 521139382275284298242 s (execUartCharacter x0 x1 x2 x3 x4 x5 s) := by
  unfold execUartCharacter
  refine OutKeeps.next ?_
  refine Keeps.ite ?_ ?_
  · refine Keeps.ite ?_ ?_
    · refine Keeps.step (uartErr_keeps ..) rfl ?_
      refine Keeps.step (uartPacket_keeps ..) rfl ?_
      refine Keeps.step (setUart_keeps ..) rfl ?_
      refine Keeps.step (State.atTime_keeps ..) rfl ?_
      exact Keeps.refl _ _
    · refine Keeps.step (uartChar_keeps ..) rfl ?_
      refine Keeps.ite ?_ ?_
      · refine Keeps.step (uartErr_keeps ..) rfl ?_
        refine Keeps.ite ?_ ?_
        · refine Keeps.step (uartErr_keeps ..) rfl ?_
          refine Keeps.step (setUart_keeps ..) rfl ?_
          refine Keeps.step (State.atTime_keeps ..) rfl ?_
          exact Keeps.refl _ _
        · refine Keeps.step (setUart_keeps ..) rfl ?_
          refine Keeps.step (State.atTime_keeps ..) rfl ?_
          exact Keeps.refl _ _
      · refine Keeps.ite ?_ ?_
        · refine Keeps.step (uartErr_keeps ..) rfl ?_
          refine Keeps.step (setUart_keeps ..) rfl ?_
          refine Keeps.step (State.atTime_keeps ..) rfl ?_
          exact Keeps.refl _ _
        · refine Keeps.step (setUart_keeps ..) rfl ?_
          refine Keeps.step (State.atTime_keeps ..) rfl ?_
          exact Keeps.refl _ _
  · exact Keeps.refl _ _

theorem execUartGap_keeps (x0 : Nat) (s : State) : OutKeeps 521139382275284296194 s (execUartGap x0 s) := by
  unfold execUartGap
  refine OutKeeps.next ?_
  refine Keeps.ite ?_ ?_
  · refine Keeps.step (uartStart_keeps ..) rfl ?_
    refine Keeps.step (setUart_keeps ..) rfl ?_
    refine Keeps.step (uartPacket_keeps ..) rfl ?_
    exact Keeps.refl _ _
  · exact Keeps.refl _ _

theorem execUartTxEnd_keeps (x0 : Nat) (s : State) : OutKeeps 521121086401798095362 s (execUartTxEnd x0 s) := by
  unfold execUartTxEnd
  refine OutKeeps.next ?_
  refine Keeps.ite ?_ ?_
  · split
    · exact Keeps.refl _ _
    · refine Keeps.step (uartStart_keeps ..) rfl ?_
      refine Keeps.ite ?_ ?_
      · refine Keeps.step (uartEv_keeps ..) rfl ?_
        refine Keeps.step (State.uaInc_keeps ..) rfl ?_
        refine Keeps.step (setUart_keeps ..) rfl ?_
        exact Keeps.refl _ _
      · refine Keeps.step (State.uaInc_keeps ..) rfl ?_
        refine Keeps.step (setUart_keeps ..) rfl ?_
        exact Keeps.refl _ _
  · exact Keeps.refl _ _

theorem execUnlock_keeps (x0 : By) (s : State) : OutKeeps 633825300114114699769065503598 s (execUnlock x0 s) := by
  unfold execUnlock
  refine OutKeeps.next ?_
  refine Keeps.step (busStore_keeps ..) rfl ?_
  exact Keeps.refl _ _

theorem execUnstage_keeps (x0 : By) (s : State) : OutKeeps 633825300114114699769065503598 s (execUnstage x0 s) := by
  unfold execUnstage
  refine OutKeeps.next ?_
  refine Keeps.step (busStore_keeps ..) rfl ?_
  exact Keeps.refl _ _

theorem execUnsupportedRequest_keeps (x0 x1 : Nat) (s : State) :
    OutKeeps 37778931864057747079170 s (execUnsupportedRequest x0 x1 s) := by
  unfold execUnsupportedRequest
  refine OutKeeps.next ?_
  refine Keeps.ite ?_ ?_
  · refine Keeps.ite ?_ ?_
    · refine Keeps.step (pdSend_keeps ..) rfl ?_
      exact Keeps.refl _ _
    · refine Keeps.ite ?_ ?_
      · refine Keeps.step (pdSend_keeps ..) rfl ?_
        exact Keeps.refl _ _
      · refine Keeps.ite ?_ ?_
        · refine Keeps.step (State.pdWr_keeps ..) rfl ?_
          exact Keeps.refl _ _
        · refine Keeps.ite ?_ ?_
          · refine Keeps.step (State.pdWr_keeps ..) rfl ?_
            exact Keeps.refl _ _
          · exact Keeps.refl _ _
  · exact Keeps.refl _ _

theorem execUpdate_keeps (x0 : By) (x1 : Nat) (s : State) : OutKeeps 633825300114114699769065503598 s (execUpdate x0 x1 s) := by
  unfold execUpdate
  refine OutKeeps.next ?_
  refine Keeps.step (driftCmd_keeps ..) rfl ?_
  exact Keeps.refl _ _

theorem execUsbBusReset_keeps (x0 : Bool) (s : State) : OutKeeps 76078984249367241687554 s (execUsbBusReset x0 s) := by
  unfold execUsbBusReset
  refine OutKeeps.next ?_
  refine Keeps.ite ?_ ?_
  · refine Keeps.step (usbEv_keeps ..) rfl ?_
    refine Keeps.step (State.wr_keeps 76 group_usb ..) rfl ?_
    refine Keeps.step (Keeps.put_usb ..) rfl ?_
    refine Keeps.step (State.wr_keeps 76 group_usb ..) rfl ?_
    refine Keeps.step (State.wr_keeps 76 group_usb ..) rfl ?_
    refine Keeps.step (State.wr_keeps 76 group_usb ..) rfl ?_
    refine Keeps.step (usbAbort_keeps ..) rfl ?_
    exact Keeps.refl _ _
  · exact Keeps.refl _ _

theorem execUsbResume_keeps (s : State) : OutKeeps 76078984249366167945730 s (execUsbResume s) := by
  unfold execUsbResume
  refine OutKeeps.next ?_
  refine Keeps.ite ?_ ?_
  · refine Keeps.step (usbEv_keeps ..) rfl ?_
    refine Keeps.step (State.wr_keeps 76 group_usb ..) rfl ?_
    exact Keeps.refl _ _
  · exact Keeps.refl _ _

theorem execUsbSuspend_keeps (s : State) : OutKeeps 76078984249366167945730 s (execUsbSuspend s) := by
  unfold execUsbSuspend
  refine OutKeeps.next ?_
  refine Keeps.ite ?_ ?_
  · refine Keeps.step (usbEv_keeps ..) rfl ?_
    refine Keeps.step (State.wr_keeps 76 group_usb ..) rfl ?_
    exact Keeps.refl _ _
  · exact Keeps.refl _ _

theorem takeUser_keeps (s : State) : Keeps 2048 s (takeUser s).2 := by
  unfold takeUser
  split
  · refine Keeps.step (Keeps.put_time (ht := ⟨rfl, rfl⟩) ..) rfl ?_
    exact Keeps.refl _ _
  · exact Keeps.refl _ _

theorem execUser_keeps (s : State) : OutKeeps 521120541044030573058 s (execUser s) := by
  unfold execUser
  refine OutKeeps.next ?_
  refine Keeps.ite ?_ ?_
  · split
    · refine Keeps.step (cmdUser_keeps ..) rfl ?_
      rename_i hq1
      refine Keeps.of_snd hq1 ?_
      refine Keeps.step (takeUser_keeps ..) rfl ?_
      exact Keeps.refl _ _
    · rename_i hq2
      refine Keeps.of_snd hq2 ?_
      refine Keeps.step (takeUser_keeps ..) rfl ?_
      exact Keeps.refl _ _
  · exact Keeps.refl _ _

theorem execVbus0Rise_keeps (s : State) : OutKeeps 76078984249375831622146 s (execVbus0Rise s) := by
  unfold execVbus0Rise
  refine OutKeeps.next ?_
  refine Keeps.ite ?_ ?_
  · refine Keeps.step (usbConnect_keeps ..) rfl ?_
    refine Keeps.ite ?_ ?_
    · refine Keeps.ite ?_ ?_
      · refine Keeps.step (Keeps.put_ao ..) rfl ?_
        refine Keeps.step (Keeps.put_usb ..) rfl ?_
        refine Keeps.ite ?_ ?_
        · refine Keeps.step (vbusFall_keeps ..) rfl ?_
          exact Keeps.refl _ _
        · exact Keeps.refl _ _
      · refine Keeps.step (Keeps.put_usb ..) rfl ?_
        refine Keeps.ite ?_ ?_
        · refine Keeps.step (vbusFall_keeps ..) rfl ?_
          exact Keeps.refl _ _
        · exact Keeps.refl _ _
    · refine Keeps.step (setSvc_keeps ..) rfl ?_
      refine Keeps.ite ?_ ?_
      · refine Keeps.step (Keeps.put_ao ..) rfl ?_
        refine Keeps.step (Keeps.put_usb ..) rfl ?_
        refine Keeps.ite ?_ ?_
        · refine Keeps.step (vbusFall_keeps ..) rfl ?_
          exact Keeps.refl _ _
        · exact Keeps.refl _ _
      · refine Keeps.step (Keeps.put_usb ..) rfl ?_
        refine Keeps.ite ?_ ?_
        · refine Keeps.step (vbusFall_keeps ..) rfl ?_
          exact Keeps.refl _ _
        · exact Keeps.refl _ _
  · refine Keeps.ite ?_ ?_
    · refine Keeps.ite ?_ ?_
      · refine Keeps.step (Keeps.put_ao ..) rfl ?_
        refine Keeps.step (Keeps.put_usb ..) rfl ?_
        refine Keeps.ite ?_ ?_
        · refine Keeps.step (vbusFall_keeps ..) rfl ?_
          exact Keeps.refl _ _
        · exact Keeps.refl _ _
      · refine Keeps.step (Keeps.put_usb ..) rfl ?_
        refine Keeps.ite ?_ ?_
        · refine Keeps.step (vbusFall_keeps ..) rfl ?_
          exact Keeps.refl _ _
        · exact Keeps.refl _ _
    · refine Keeps.step (setSvc_keeps ..) rfl ?_
      refine Keeps.ite ?_ ?_
      · refine Keeps.step (Keeps.put_ao ..) rfl ?_
        refine Keeps.step (Keeps.put_usb ..) rfl ?_
        refine Keeps.ite ?_ ?_
        · refine Keeps.step (vbusFall_keeps ..) rfl ?_
          exact Keeps.refl _ _
        · exact Keeps.refl _ _
      · refine Keeps.step (Keeps.put_usb ..) rfl ?_
        refine Keeps.ite ?_ ?_
        · refine Keeps.step (vbusFall_keeps ..) rfl ?_
          exact Keeps.refl _ _
        · exact Keeps.refl _ _

theorem execVbusOv_keeps (s : State) : OutKeeps 38300052386410079977986 s (execVbusOv s) := by
  unfold execVbusOv
  refine OutKeeps.next ?_
  refine Keeps.ite ?_ ?_
  · refine Keeps.step (pdEv_keeps ..) rfl ?_
    refine Keeps.step (pdFault_keeps ..) rfl ?_
    refine Keeps.step (setSvc_keeps ..) rfl ?_
    refine Keeps.step (Keeps.put_usb ..) rfl ?_
    exact Keeps.refl _ _
  · exact Keeps.refl _ _

theorem execVbusOvClear_keeps (s : State) : OutKeeps 1073741824 s (execVbusOvClear s) := by
  unfold execVbusOvClear
  refine OutKeeps.next ?_
  refine Keeps.ite ?_ ?_
  · refine Keeps.ite ?_ ?_
    · refine Keeps.step (Keeps.put_usb ..) rfl ?_
      exact Keeps.refl _ _
    · refine Keeps.step (setSvc_keeps ..) rfl ?_
      refine Keeps.step (Keeps.put_usb ..) rfl ?_
      exact Keeps.refl _ _
  · exact Keeps.refl _ _

theorem supplyAll_keeps {n : Nat} {ev : Ev} (hev : ∀ s p k, Keeps n s (ev s p k)) (s : State) (b : Bool) :
    Keeps (Nat.lor n 4611687117939015682) s (supplyAll ev s b) := by
  refine Keeps.foldl (fun _ _ => ?_) _ _ (Keeps.refl _ _)
  refine Keeps.ite (Keeps.ite (Keeps.refl _ _) (chFault_keeps hev ..)) ?_
  exact (State.chWr_keeps ..).mono (subMask_right _ _)

theorem execVfRecover_keeps (s : State) : OutKeeps 521120523451844526594 s (execVfRecover s) := by
  unfold execVfRecover
  refine OutKeeps.next ?_
  refine Keeps.ite ?_ ?_
  · refine Keeps.step (supplyAll_keeps raise_keeps ..) rfl ?_
    refine Keeps.step (State.wr_keeps 41 (.inl rfl) ..) rfl ?_
    refine Keeps.step (State.wr_keeps 41 (.inl rfl) ..) rfl ?_
    exact Keeps.refl _ _
  · exact Keeps.refl _ _

theorem execVfRev_keeps (s : State) : OutKeeps 521120523451844526594 s (execVfRev s) := by
  unfold execVfRev
  refine OutKeeps.next ?_
  refine Keeps.ite ?_ ?_
  · refine Keeps.step (fdieEv_keeps raise_keeps ..) rfl ?_
    refine Keeps.step (supplyAll_keeps raise_keeps ..) rfl ?_
    refine Keeps.step (State.wr_keeps 41 (.inl rfl) ..) rfl ?_
    exact Keeps.refl _ _
  · exact Keeps.refl _ _

theorem execVfUv_keeps (s : State) : OutKeeps 521120523451844526594 s (execVfUv s) := by
  unfold execVfUv
  refine OutKeeps.next ?_
  refine Keeps.ite ?_ ?_
  · refine Keeps.step (fdieEv_keeps raise_keeps ..) rfl ?_
    refine Keeps.step (supplyAll_keeps raise_keeps ..) rfl ?_
    refine Keeps.step (State.wr_keeps 41 (.inl rfl) ..) rfl ?_
    exact Keeps.refl _ _
  · exact Keeps.refl _ _

theorem execVfyCmd_keeps (x0 : By) (x1 : Nat) (s : State) : OutKeeps 633825300114114699769065503598 s (execVfyCmd x0 x1 s) := by
  unfold execVfyCmd
  refine OutKeeps.next ?_
  refine Keeps.step (busStore_keeps ..) rfl ?_
  exact Keeps.refl _ _

theorem execVfyDone_keeps (x0 : Bool) (s : State) : OutKeeps 158468414807845344965039227650 s (execVfyDone x0 s) := by
  unfold execVfyDone
  refine OutKeeps.next ?_
  split
  · dsimp only
    split
    · refine Keeps.ite ?_ ?_
      · refine Keeps.step (vfyResult_keeps ..) rfl ?_
        refine Keeps.ite ?_ ?_
        · refine Keeps.step (State.wr_keeps 97 (.inl rfl) ..) rfl ?_
          refine Keeps.step (Keeps.put_mgmt ..) rfl ?_
          exact Keeps.refl _ _
        · refine Keeps.step (Keeps.put_mgmt ..) rfl ?_
          exact Keeps.refl _ _
      · refine Keeps.step (vfyResult_keeps ..) rfl ?_
        refine Keeps.step (Keeps.put_mgmt ..) rfl ?_
        exact Keeps.refl _ _
    · refine Keeps.step (vfyResult_keeps ..) rfl ?_
      refine Keeps.step (Keeps.put_mgmt ..) rfl ?_
      exact Keeps.refl _ _
    · refine Keeps.step (vfyResult_keeps ..) rfl ?_
      refine Keeps.step (Keeps.put_mgmt ..) rfl ?_
      exact Keeps.refl _ _
  · exact Keeps.refl _ _

theorem execVolt_keeps (x0 x1 : Nat) (s : State) : OutKeeps 3627298579367373728383746 s (execVolt x0 x1 s) := by
  unfold execVolt
  refine OutKeeps.next ?_
  refine Keeps.ite ?_ ?_
  · refine Keeps.ite ?_ ?_
    · refine Keeps.step (hubLog_keeps ..) rfl ?_
      refine Keeps.step (raise_keeps ..) rfl ?_
      refine Keeps.ite ?_ ?_
      · refine Keeps.step (State.setBit_keeps 80 group_sens ..) rfl ?_
        refine Keeps.step (State.wr_keeps 80 group_sens ..) rfl ?_
        exact Keeps.refl _ _
      · refine Keeps.step (State.setBit_keeps 80 group_sens ..) rfl ?_
        refine Keeps.step (State.wr_keeps 80 group_sens ..) rfl ?_
        exact Keeps.refl _ _
    · refine Keeps.step (State.wr_keeps 80 group_sens ..) rfl ?_
      exact Keeps.refl _ _
  · exact Keeps.refl _ _

theorem execVsetTrim_keeps (x0 x1 : Nat) (s : State) : OutKeeps 38300052386410079977986 s (execVsetTrim x0 x1 s) := by
  unfold execVsetTrim
  refine OutKeeps.next ?_
  refine Keeps.ite ?_ ?_
  · refine Keeps.ite ?_ ?_
    · refine Keeps.step (setPd_keeps ..) rfl ?_
      refine Keeps.ite ?_ ?_
      · refine Keeps.step (pdEv_keeps ..) rfl ?_
        refine Keeps.step (pdFault_keeps ..) rfl ?_
        exact Keeps.refl _ _
      · exact Keeps.refl _ _
    · refine Keeps.ite ?_ ?_
      · refine Keeps.step (setPd_keeps ..) rfl ?_
        refine Keeps.ite ?_ ?_
        · refine Keeps.step (pdEv_keeps ..) rfl ?_
          refine Keeps.step (pdFault_keeps ..) rfl ?_
          exact Keeps.refl _ _
        · exact Keeps.refl _ _
      · refine Keeps.ite ?_ ?_
        · refine Keeps.step (pdEv_keeps ..) rfl ?_
          refine Keeps.step (pdFault_keeps ..) rfl ?_
          exact Keeps.refl _ _
        · exact Keeps.refl _ _
  · exact Keeps.refl _ _

theorem execWaitSig_keeps (x0 : Nat) (x1 : Bool) (s : State) : OutKeeps 521120523451861303810 s (execWaitSig x0 x1 s) := by
  unfold execWaitSig
  refine OutKeeps.next ?_
  refine Keeps.step (pioTake_keeps (n := 295147906278881230850) (hr := fun _ _ => ?_) ..) rfl ?_
  · refine Keeps.ite ?_ ?_
    · refine Keeps.step (pioNext_keeps ..) rfl ?_
      exact Keeps.refl _ _
    · refine Keeps.step (pioStall_keeps ..) rfl ?_
      exact Keeps.refl _ _
  · exact Keeps.refl _ _

theorem execWaitTick_keeps (x0 : Nat) (s : State) : OutKeeps 521120523451861303810 s (execWaitTick x0 s) := by
  unfold execWaitTick
  refine OutKeeps.next ?_
  refine Keeps.step (pioTake_keeps (n := 295147906278881230850) (hr := fun _ _ => ?_) ..) rfl ?_
  · split
    · refine Keeps.ite ?_ ?_
      · refine Keeps.step (pioNext_keeps ..) rfl ?_
        exact Keeps.refl _ _
      · refine Keeps.step (pioStall_keeps ..) rfl ?_
        exact Keeps.refl _ _
    · refine Keeps.step (pioStall_keeps ..) rfl ?_
      refine Keeps.step (State.setEng_keeps ..) rfl ?_
      exact Keeps.refl _ _
  · exact Keeps.refl _ _

theorem execWaitTrig_keeps (x0 : Nat) (s : State) : OutKeeps 521120523451861303810 s (execWaitTrig x0 s) := by
  unfold execWaitTrig
  refine OutKeeps.next ?_
  refine Keeps.step (pioTake_keeps (n := 295147906278881230850) (hr := fun _ _ => ?_) ..) rfl ?_
  · refine Keeps.ite ?_ ?_
    · refine Keeps.step (pioNext_keeps ..) rfl ?_
      refine Keeps.step (State.setBit_keeps 68 group_pio ..) rfl ?_
      exact Keeps.refl _ _
    · refine Keeps.step (pioStall_keeps ..) rfl ?_
      exact Keeps.refl _ _
  · exact Keeps.refl _ _

theorem execWakeUpEnd_keeps (x0 : Nat) (s : State) : OutKeeps 521120523451844526594 s (execWakeUpEnd x0 s) := by
  unfold execWakeUpEnd
  refine OutKeeps.next ?_
  refine Keeps.ite ?_ ?_
  · refine Keeps.step (raise_keeps ..) rfl ?_
    refine Keeps.step (State.chWr_keeps ..) rfl ?_
    exact Keeps.refl _ _
  · exact Keeps.refl _ _

theorem execWarmReset_keeps (s : State) : OutKeeps 633825300114114699897948077598 s (execWarmReset s) := by
  unfold execWarmReset
  refine OutKeeps.next ?_
  refine Keeps.ite ?_ ?_
  · refine Keeps.ite ?_ ?_
    · refine Keeps.step (Keeps.put_node ..) rfl ?_
      exact Keeps.refl _ _
    · refine Keeps.step (warmReset_keeps ..) rfl ?_
      exact Keeps.refl _ _
  · exact Keeps.refl _ _

theorem execWindow_keeps (s : State) : OutKeeps 18691697674242 s (execWindow s) := by
  unfold execWindow
  refine OutKeeps.next ?_
  refine Keeps.ite ?_ ?_
  · split
    · refine Keeps.step (cmdWindow_keeps ..) rfl ?_
      rename_i hq1
      refine Keeps.of_snd hq1 ?_
      refine Keeps.step (takeCmd_keeps ..) rfl ?_
      exact Keeps.refl _ _
    · rename_i hq2
      refine Keeps.of_snd hq2 ?_
      refine Keeps.step (takeCmd_keeps ..) rfl ?_
      exact Keeps.refl _ _
  · exact Keeps.refl _ _

theorem execWireBreak_keeps (x0 : Nat) (s : State) : OutKeeps 521120523451844526594 s (execWireBreak x0 s) := by
  unfold execWireBreak
  refine OutKeeps.next ?_
  refine Keeps.ite ?_ ?_
  · refine Keeps.step (chFault_keeps raise_keeps ..) rfl ?_
    exact Keeps.refl _ _
  · exact Keeps.refl _ _

theorem execWr32_keeps (x0 : Frame) (s : State) : OutKeeps 633825300114114699769065504622 s (execWr32 x0 s) := by
  unfold execWr32
  refine OutKeeps.next ?_
  refine Keeps.step (inFrame_keeps ..) rfl ?_
  exact Keeps.refl _ _

theorem execWr64_keeps (x0 : Frame) (s : State) : OutKeeps 633825300114114699769065504622 s (execWr64 x0 s) := by
  unfold execWr64
  refine OutKeeps.next ?_
  refine Keeps.step (inFrame_keeps ..) rfl ?_
  exact Keeps.refl _ _

theorem execWrblk_keeps (x0 : Frame) (s : State) : OutKeeps 633825300114114699769065504622 s (execWrblk x0 s) := by
  unfold execWrblk
  refine OutKeeps.next ?_
  refine Keeps.step (inFrame_keeps ..) rfl ?_
  exact Keeps.refl _ _

theorem execWurq_keeps (x0 : Nat) (x1 : By) (s : State) : OutKeeps 633825300114114699769065503598 s (execWurq x0 x1 s) := by
  unfold execWurq
  refine OutKeeps.next ?_
  refine Keeps.step (chOutSet_keeps ..) rfl ?_
  exact Keeps.refl _ _

theorem descEvent_keeps (s : State) (x1 : XferDesc) : Keeps 521125871476402119170 s (descEvent s x1).2 := by
  unfold descEvent
  refine Keeps.ite_snd ?_ ?_
  · exact Keeps.refl _ _
  · split
    · refine Keeps.ite_snd ?_ ?_
      · refine Keeps.step (sendEvent_keeps ..) rfl ?_
        exact Keeps.refl _ _
      · dsimp only
        refine Keeps.step (writeFailed_keeps ..) rfl ?_
        exact Keeps.refl _ _
    · refine Keeps.step (eventIn_keeps ..) rfl ?_
      exact Keeps.refl _ _

theorem chanHalt_keeps (s : State) (x1 : Nat) : Keeps 302752575427109138203138 s (chanHalt s x1) := by
  unfold chanHalt
  refine Keeps.step (raise_keeps ..) rfl ?_
  refine Keeps.step (State.wr_keeps 78 group_xfer ..) rfl ?_
  exact Keeps.refl _ _

theorem writeBack_keeps (s : State) (x1 : Nat) (x2 : XferDesc) : Keeps 16 s (writeBack s x1 x2) := by
  unfold writeBack
  refine Keeps.ite ?_ ?_
  · exact Keeps.refl _ _
  · refine Keeps.step (State.memWrite_keeps ..) rfl ?_
    exact Keeps.refl _ _

theorem descComplete_keeps (s : State) (x1 : Nat) (x2 : XferDesc) (x3 : Bool) :
    Keeps 303935325362763612257106 s (descComplete s x1 x2 x3) := by
  unfold descComplete
  refine Keeps.ite ?_ ?_
  · exact Keeps.refl _ _
  · refine Keeps.step (blockStop_keeps ..) rfl ?_
    refine Keeps.ite ?_ ?_
    · refine Keeps.step (chanHalt_keeps ..) rfl ?_
      refine Keeps.ite ?_ ?_
      · refine Keeps.step (State.wr_keeps 78 group_xfer ..) rfl ?_
        refine Keeps.ite ?_ ?_
        · refine Keeps.step (setDescs_keeps ..) rfl ?_
          refine Keeps.step (descEvent_keeps ..) rfl ?_
          exact Keeps.refl _ _
        · refine Keeps.step (writeBack_keeps ..) rfl ?_
          refine Keeps.step (setDescs_keeps ..) rfl ?_
          refine Keeps.step (descEvent_keeps ..) rfl ?_
          exact Keeps.refl _ _
      · refine Keeps.ite ?_ ?_
        · refine Keeps.step (setDescs_keeps ..) rfl ?_
          refine Keeps.step (descEvent_keeps ..) rfl ?_
          exact Keeps.refl _ _
        · refine Keeps.step (writeBack_keeps ..) rfl ?_
          refine Keeps.step (setDescs_keeps ..) rfl ?_
          refine Keeps.step (descEvent_keeps ..) rfl ?_
          exact Keeps.refl _ _
    · refine Keeps.step (raiseIf_keeps ..) rfl ?_
      refine Keeps.ite ?_ ?_
      · refine Keeps.step (State.wr_keeps 78 group_xfer ..) rfl ?_
        refine Keeps.ite ?_ ?_
        · refine Keeps.step (setDescs_keeps ..) rfl ?_
          refine Keeps.step (descEvent_keeps ..) rfl ?_
          exact Keeps.refl _ _
        · refine Keeps.step (writeBack_keeps ..) rfl ?_
          refine Keeps.step (setDescs_keeps ..) rfl ?_
          refine Keeps.step (descEvent_keeps ..) rfl ?_
          exact Keeps.refl _ _
      · refine Keeps.ite ?_ ?_
        · refine Keeps.step (setDescs_keeps ..) rfl ?_
          refine Keeps.step (descEvent_keeps ..) rfl ?_
          exact Keeps.refl _ _
        · refine Keeps.step (writeBack_keeps ..) rfl ?_
          refine Keeps.step (setDescs_keeps ..) rfl ?_
          refine Keeps.step (descEvent_keeps ..) rfl ?_
          exact Keeps.refl _ _

theorem execXferComplete_keeps (x0 x1 : Nat) (x2 : Bool) (s : State) :
    OutKeeps 633825300114114699769065504638 s (execXferComplete x0 x1 x2 s) := by
  unfold execXferComplete
  refine OutKeeps.next ?_
  refine Keeps.ite ?_ ?_
  · dsimp only
    split
    · refine Keeps.ite ?_ ?_
      · refine Keeps.step (descComplete_keeps ..) rfl ?_
        refine Keeps.step (xferPump_keeps ..) rfl ?_
        exact Keeps.refl _ _
      · refine Keeps.step (xferPump_keeps ..) rfl ?_
        exact Keeps.refl _ _
    · refine Keeps.step (xferPump_keeps ..) rfl ?_
      exact Keeps.refl _ _
  · exact Keeps.refl _ _

theorem execXferStart_keeps (x0 : Nat) (x1 : Bool) (s : State) :
    OutKeeps 633825300114114699769065504638 s (execXferStart x0 x1 s) := by
  unfold execXferStart
  refine OutKeeps.next ?_
  refine Keeps.ite ?_ ?_
  · refine Keeps.ite ?_ ?_
    · refine Keeps.step (xferPump_keeps ..) rfl ?_
      exact Keeps.refl _ _
    · refine Keeps.ite ?_ ?_
      · refine Keeps.step (xferPump_keeps ..) rfl ?_
        exact Keeps.refl _ _
      · refine Keeps.step (xferPump_keeps ..) rfl ?_
        refine Keeps.step (setDescs_keeps ..) rfl ?_
        refine Keeps.step (State.wr_keeps 78 group_xfer ..) rfl ?_
        refine Keeps.step (xferPump_keeps ..) rfl ?_
        exact Keeps.refl _ _
  · exact Keeps.refl _ _

theorem execZEdge_keeps (x0 : Nat) (s : State) : OutKeeps 9223373136366403586 s (execZEdge x0 s) := by
  unfold execZEdge
  refine OutKeeps.next ?_
  refine Keeps.ite ?_ ?_
  · refine Keeps.step (State.wr_keeps 63 group_enc ..) rfl ?_
    exact Keeps.refl _ _
  · exact Keeps.refl _ _

theorem execZenithListenExpiry_keeps (x0 : Nat) (s : State) :
    OutKeeps 154743026607674334991354370 s (execZenithListenExpiry x0 s) := by
  unfold execZenithListenExpiry
  refine OutKeeps.next ?_
  refine Keeps.ite ?_ ?_
  · split
    · exact Keeps.refl _ _
    · refine Keeps.ite ?_ ?_
      · exact Keeps.refl _ _
      · refine Keeps.each (fun _ _ => ?_) ?_
        · refine Keeps.step (mtipFollow_keeps ..) rfl ?_
          exact Keeps.refl _ _
        · refine Keeps.step (becomeSource_keeps ..) rfl ?_
          refine Keeps.step (setLine_keeps ..) rfl ?_
          refine Keeps.step (Keeps.put_time (ht := ⟨rfl, rfl⟩) ..) rfl ?_
          refine Keeps.step (judgeMargin_keeps ..) rfl ?_
          refine Keeps.each (fun _ _ => ?_) ?_
          · refine Keeps.step (judgeLead_keeps ..) rfl ?_
            exact Keeps.refl _ _
          · refine Keeps.step (State.wr_keeps 44 group_time ..) rfl ?_
            exact Keeps.refl _ _
  · exact Keeps.refl _ _

theorem execZenithMove_keeps (s : State) : OutKeeps 154743026031213578392963586 s (execZenithMove s) := by
  unfold execZenithMove
  refine OutKeeps.next ?_
  refine Keeps.ite ?_ ?_
  · split
    · refine Keeps.step (cmdZenithMove_keeps ..) rfl ?_
      rename_i hq1
      refine Keeps.of_snd hq1 ?_
      refine Keeps.step (takeCmd_keeps ..) rfl ?_
      exact Keeps.refl _ _
    · rename_i hq2
      refine Keeps.of_snd hq2 ?_
      refine Keeps.step (takeCmd_keeps ..) rfl ?_
      exact Keeps.refl _ _
  · exact Keeps.refl _ _

theorem execZenithYield_keeps (s : State) : OutKeeps 154743026031195986206919170 s (execZenithYield s) := by
  unfold execZenithYield
  refine OutKeeps.next ?_
  refine Keeps.ite ?_ ?_
  · refine Keeps.ite ?_ ?_
    · refine Keeps.step (gwYields_keeps ..) rfl ?_
      refine Keeps.ite ?_ ?_
      · refine Keeps.step (stopSource_keeps ..) rfl ?_
        exact Keeps.refl _ _
      · exact Keeps.refl _ _
    · refine Keeps.ite ?_ ?_
      · refine Keeps.step (stopSource_keeps ..) rfl ?_
        exact Keeps.refl _ _
      · exact Keeps.refl _ _
  · exact Keeps.refl _ _

end Sys2Proof.Machine
end

