-- ==== Sys2Proof/Laws/Regs.lean ====
section
/-!
SUPPORT. Reads and writes of registers: a read after a write, and which registers an event, a log entry and a rejection can
change. `RegsKeep w s t`: every register whose key `w` does not name holds in `t` what it holds in `s`.
-/

namespace Sys2Proof.Machine

/-! ## A read after a write -/

@[simp] theorem rdi_wri_same (s : State) (p : Nat) (f : Fld) (i v : Nat) : (s.wri p f i v).rdi p f i = v % 2 ^ f.width :=
  alGet_alSet_same ..

theorem rdi_wri_ne (s : State) {p q i j : Nat} {f g : Fld} (v : Nat) (h : (⟨q, g.off, g.lsb, j⟩ : Key) ≠ ⟨p, f.off, f.lsb, i⟩) :
    (s.wri p f i v).rdi q g j = s.rdi q g j :=
  alGet_alSet_ne _ _ h ..

@[simp] theorem rd_wr_same (s : State) (p : Nat) (f : Fld) (v : Nat) : (s.wr p f v).rd p f = v % 2 ^ f.width := rdi_wri_same ..

theorem rd_wr_ne (s : State) {p q : Nat} {f g : Fld} (v : Nat) (h : (⟨q, g.off, g.lsb, 0⟩ : Key) ≠ ⟨p, f.off, f.lsb, 0⟩) :
    (s.wr p f v).rd q g = s.rd q g := rdi_wri_ne _ _ h

/-! ## Registers that the groups of an operation leave -/

theorem Keeps.rdi {m : Nat} {s t : State} (h : Keeps m s t) (p : Nat) (f : Fld) (i : Nat)
    (hb : m.testBit (regGroup ⟨p, f.off, f.lsb, i⟩) = false) : t.rdi p f i = s.rdi p f i := h.pages _ _ hb

theorem Keeps.rd {m : Nat} {s t : State} (h : Keeps m s t) (p : Nat) (f : Fld)
    (hb : m.testBit (regGroup ⟨p, f.off, f.lsb, 0⟩) = false) : t.rd p f = s.rd p f := h.pages _ _ hb

/-! ## Registers that an operation leaves -/

/-- Registers whose key `w` does not name are the same in both states. -/
structure RegsKeep (w : Key → Bool) (s t : State) : Prop where
  keep : ∀ k d, w k = false → alGet t.regs k d = alGet s.regs k d

theorem RegsKeep.refl (w : Key → Bool) (s : State) : RegsKeep w s s := ⟨fun _ _ _ => rfl⟩

theorem RegsKeep.trans {w : Key → Bool} {s t u : State} (h : RegsKeep w s t) (k : RegsKeep w t u) : RegsKeep w s u :=
  ⟨fun j d hj => (k.keep j d hj).trans (h.keep j d hj)⟩

theorem RegsKeep.mono {v w : Key → Bool} {s t : State} (h : RegsKeep v s t) (m : ∀ k, w k = false → v k = false) :
    RegsKeep w s t := ⟨fun k d hk => h.keep k d (m k hk)⟩

theorem RegsKeep.of_eq {w : Key → Bool} {s t : State} (h : t.regs = s.regs) : RegsKeep w s t := ⟨fun _ _ _ => by rw [h]⟩

theorem RegsKeep.rdi {w : Key → Bool} {s t : State} (h : RegsKeep w s t) (p : Nat) (f : Fld) (i : Nat)
    (hw : w ⟨p, f.off, f.lsb, i⟩ = false) : t.rdi p f i = s.rdi p f i := h.keep _ _ hw

theorem RegsKeep.rd {w : Key → Bool} {s t : State} (h : RegsKeep w s t) (p : Nat) (f : Fld)
    (hw : w ⟨p, f.off, f.lsb, 0⟩ = false) : t.rd p f = s.rd p f := h.keep _ _ hw

theorem RegsKeep.foldl {w : Key → Bool} {α : Type} {s : State} {f : State → α → State} (l : List α)
    (hf : ∀ t a, a ∈ l → RegsKeep w t (f t a)) (t : State) (h : RegsKeep w s t) : RegsKeep w s (l.foldl f t) := by
  induction l generalizing t with
  | nil => exact h
  | cons a r ih => exact ih (fun t b hb => hf t b (by simp [hb])) _ (h.trans (hf t a (by simp)))

theorem RegsKeep.each {w : Key → Bool} {s t : State} {n : Nat} {f : State → Nat → State}
    (hf : ∀ t a, a < n → RegsKeep w t (f t a)) (h : RegsKeep w s t) : RegsKeep w s (t.each n f) :=
  RegsKeep.foldl _ (fun t a ha => hf t a (List.mem_range.mp ha)) _ h

theorem RegsKeep.ite {w : Key → Bool} {s t u : State} {c : Prop} [Decidable c] (h : c → RegsKeep w s t) (k : ¬c → RegsKeep w s u) :
    RegsKeep w s (if c then t else u) := by
  split
  · exact h ‹_›
  · exact k ‹_›

theorem RegsKeep.wri {w : Key → Bool} {s t : State} {p : Nat} {f : Fld} {i : Nat} (v : Nat) (h : RegsKeep w s t)
    (hw : w ⟨p, f.off, f.lsb, i⟩ = true) : RegsKeep w s (t.wri p f i v) := ⟨fun k d hk => by
  rw [← h.keep k d hk]
  exact alGet_alSet_ne _ _ (fun e => by subst e; rw [hw] at hk; exact absurd hk (by decide)) ..⟩

theorem RegsKeep.wr {w : Key → Bool} {s t : State} {p : Nat} {f : Fld} (v : Nat) (h : RegsKeep w s t)
    (hw : w ⟨p, f.off, f.lsb, 0⟩ = true) : RegsKeep w s (t.wr p f v) := h.wri v hw

theorem RegsKeep.setBit {w : Key → Bool} {s t : State} {p : Nat} {f : Fld} (k : Nat) (b : Bool) (h : RegsKeep w s t)
    (hw : w ⟨p, f.off, f.lsb, 0⟩ = true) : RegsKeep w s (t.setBit p f k b) := h.wri _ hw

theorem RegsKeep.inc {w : Key → Bool} {s t : State} {p : Nat} {f : Fld} (n : Nat) (h : RegsKeep w s t)
    (hw : w ⟨p, f.off, f.lsb, 0⟩ = true) : RegsKeep w s (t.inc p f n) := h.wri _ hw

/-! ## An event -/

/-- Registers that an event can change: event bits, and what an export, a PIO route and the Eclipse freeze write,
the cut CAN and UART transmissions with it. -/
def evKey (k : Key) : Bool :=
  k.off == 0x010 || (k.page == 0 && ((k.off == 0x048 && k.lsb == 0) || (k.off == 0x070 && k.lsb == 12) || k.off == 0x074)) ||
    (k.page == 3 && (k.off == 0x0C0 || k.off == 0x0C4 || k.off == 0x0CC || k.off == 0x0D0)) ||
    (decide (0x0A0 ≤ k.page ∧ k.page < 0x0A8) && k.off % 32 == 8 && k.lsb == 31) ||
    (k.page == 0x0A9 && (k.off == 0x048 || k.off == 0x05C)) ||
    (decide (0x0B0 ≤ k.page ∧ k.page < 0x0B8) && k.off == 0x078 && k.lsb == 30) ||
    (decide (0x0B8 ≤ k.page ∧ k.page < 0x0BC) && k.off % 128 == 32 && (k.lsb == 31 || k.lsb == 29)) ||
    (decide (0x0C0 ≤ k.page ∧ k.page < 0x0D8) && ((k.off == 0x068 && k.lsb == 4) || k.off == 0x074)) ||
    (k.page == 0x130 && k.off == 0x058)

theorem evOnly_regs (s : State) (p k : Nat) : RegsKeep evKey s (evOnly s p k) :=
  (RegsKeep.refl _ s).setBit k true (by simp [evKey, F.HDR_EV_STAT_EV])

theorem exportRise_regs (s : State) (src e : Nat) : RegsKeep evKey s (exportRise s src e) := by
  unfold exportRise
  refine RegsKeep.ite (fun _ => ?_) fun _ => .refl ..
  refine RegsKeep.ite (fun _ => (RegsKeep.refl _ s).inc 1 (by decide)) fun _ => ?_
  refine RegsKeep.ite (fun _ => ?_) fun _ => (RegsKeep.refl _ s).inc 1 (by decide)
  exact RegsKeep.trans (((RegsKeep.refl _ s).setBit e true (by decide)).inc 1 (by decide)) (.of_eq rfl)

theorem evtRise_regs (s : State) (src p : Nat) : RegsKeep evKey s (evtRise s src p) := by
  unfold evtRise
  exact RegsKeep.ite (fun _ => .of_eq rfl) fun _ => .refl ..

theorem pioTrig_regs (s : State) (e k : Nat) (h : e < 24) : RegsKeep evKey s (pioTrig s e k).2 := by
  unfold pioTrig
  split
  · exact (RegsKeep.refl _ s).wr 1 (by simp [evKey, P.pio, F.PIO_ENG_STAT_TRIG_OVF]; omega)
  · exact (RegsKeep.refl _ s).setBit k true (by simp [evKey, P.pio, F.PIO_TRIG_PENDING]; omega)

theorem chEnterSafe_regs (s : State) (fo mi : Bool) (c : Nat) (h : c < 64) : RegsKeep evKey s (chEnterSafe s fo mi c) := by
  unfold chEnterSafe
  refine RegsKeep.ite (fun _ => .of_eq ?_) fun _ => ?_
  · cases fo <;> rfl
  · refine RegsKeep.wr (s := s) 1 (.of_eq rfl) ?_
    simp [evKey, P.field, F.FIELD_CH_STAT_SAFE_ACTIVE]
    omega

theorem fdieEv_regs {ev : Ev} (hev : ∀ s p k, RegsKeep evKey s (ev s p k)) (s : State) (k : Nat) :
    RegsKeep evKey s (fdieEv ev s k) := by
  unfold fdieEv
  exact RegsKeep.ite (fun _ => .of_eq rfl) fun _ => hev ..

theorem safeEnter_regs {ev : Ev} (hev : ∀ s p k, RegsKeep evKey s (ev s p k)) (s : State) (chs : List Nat) (h : ∀ c ∈ chs, c < 64)
    (cause : Nat) (fo mi : Bool) : RegsKeep evKey s (safeEnter ev s chs cause fo mi) := by
  have hf : RegsKeep evKey s (chs.foldl (fun t c => chEnterSafe t fo mi c) s) :=
    RegsKeep.foldl _ (fun t c hc => chEnterSafe_regs t fo mi c (h c hc)) _ (.refl ..)
  unfold safeEnter
  refine RegsKeep.ite (fun _ => ?_) fun _ => hf
  exact RegsKeep.trans ((hf.wr cause (by decide)).inc 1 (by decide)) (fdieEv_regs hev ..)

theorem setState_regs (s : State) (st : Nat) : RegsKeep evKey s (setState s st) := by
  unfold setState
  refine RegsKeep.wr _ (RegsKeep.wr _ (RegsKeep.wr _ (.refl ..) ?_) ?_) ?_ <;> decide

theorem RegsKeep.put_freeze {w : Key → Bool} {s t : State} (h : RegsKeep w s t) (n : NodeSt) (e : EdgeSched) (c : EclSt) (r : RouterSt) :
    RegsKeep w s { t with node := n, edge := e, ecl := c, router := r } := ⟨h.keep⟩

theorem cutTransmit_regs (s : State) : RegsKeep evKey s (cutTransmit s) := by
  unfold cutTransmit
  refine RegsKeep.each (fun t u _ => ?_) (RegsKeep.each (fun t c _ => ?_) (.refl ..))
  · refine RegsKeep.wr _ (RegsKeep.wr _ (RegsKeep.of_eq rfl) ?_) ?_ <;>
      (simp [evKey, P.uart, F.UART_U_STAT_TX_BUSY, F.UART_U_STAT_DE]; omega)
  · refine RegsKeep.wr _ (RegsKeep.of_eq rfl) ?_
    simp [evKey, P.can, F.CAN_STATUS_TX_ACTIVE]
    omega

theorem freeze_regs (s : State) (cause tF : Nat) (late ring : Bool) (sc co : Nat) :
    RegsKeep evKey s (freeze s cause tF late ring sc co) := by
  unfold freeze
  refine RegsKeep.ite (fun _ => .refl ..) fun _ => ?_
  have h : ∀ n e c r, RegsKeep evKey s (cutTransmit { ((((setState s NS.eclipse).wr P.ecl F.ECLIPSE_ECL_STAT_FROZEN 1).wr P.ecl
      F.ECLIPSE_ECL_STAT_CAUSE cause).wr P.ecl F.ECLIPSE_ECL_STAT_LATE (b2n late)) with node := n, edge := e, ecl := c, router := r }) :=
    fun n e c r => by
      refine RegsKeep.trans (RegsKeep.put_freeze ?_ _ _ _ _) (cutTransmit_regs _)
      refine RegsKeep.wr _ (RegsKeep.wr _ (RegsKeep.wr _ (setState_regs ..) ?_) ?_) ?_ <;> decide
  exact RegsKeep.ite (fun _ => h ..) fun _ =>
    RegsKeep.trans (h ..) (safeEnter_regs evOnly_regs _ _ (fun c hc => List.mem_range.mp hc) _ _ _)

theorem eclRise_regs (s : State) (src : Nat) : RegsKeep evKey s (eclRise s src) := by
  unfold eclRise freezeCfg
  exact RegsKeep.ite (fun _ => freeze_regs ..) fun _ => .refl ..

theorem rise_regs (fuel : Nat) (s : State) (src : Nat) : RegsKeep evKey s (rise fuel s src) := by
  induction fuel generalizing s src with
  | zero => exact .refl ..
  | succ n ih =>
    unfold rise
    refine RegsKeep.ite (fun _ => .refl ..) fun _ => ?_
    refine RegsKeep.trans ?_ (eclRise_regs ..)
    refine RegsKeep.each (fun t r _ => ?_) ?_
    · refine RegsKeep.ite (fun h => ?_) fun _ => .refl ..
      simp only [Bool.and_eq_true, decide_eq_true_eq] at h
      have hp := pioTrig_regs t _ (t.rd P.ev3 (F.EVENTC_PIOR_TRIG r)) h.2
      refine RegsKeep.ite (fun _ => ?_) fun _ => hp
      have he := hp.trans (evOnly_regs _ (P.pio (t.rd P.ev3 (F.EVENTC_PIOR_ENGINE r))) 0)
      exact RegsKeep.ite (fun _ => he.trans (ih ..)) fun _ => he
    · refine RegsKeep.each (fun t p _ => evtRise_regs ..) ?_
      exact RegsKeep.each (fun t e _ => exportRise_regs ..) (.refl ..)

/-- An event changes the registers of `evKey` only. -/
theorem raise_regs (s : State) (p k : Nat) : RegsKeep evKey s (raise s p k) := by
  unfold raise
  exact RegsKeep.ite (fun _ => (evOnly_regs ..).trans (rise_regs ..)) fun _ => evOnly_regs ..

theorem raiseIf_regs (s : State) (b : Bool) (p k : Nat) : RegsKeep evKey s (raiseIf s b p k) := by
  unfold raiseIf
  exact RegsKeep.ite (fun _ => raise_regs ..) fun _ => .refl ..

@[simp] theorem rdi_raise (s : State) (p k q : Nat) (f : Fld) (i : Nat) (h : evKey ⟨q, f.off, f.lsb, i⟩ = false) :
    (raise s p k).rdi q f i = s.rdi q f i := (raise_regs s p k).rdi q f i h

theorem rd_raise (s : State) (p k q : Nat) (f : Fld) (h : evKey ⟨q, f.off, f.lsb, 0⟩ = false) :
    (raise s p k).rd q f = s.rd q f := (raise_regs s p k).rd q f h

theorem rd_raiseIf (s : State) (b : Bool) (p k q : Nat) (f : Fld) (h : evKey ⟨q, f.off, f.lsb, 0⟩ = false) :
    (raiseIf s b p k).rd q f = s.rd q f := (raiseIf_regs s b p k).rd q f h

/-! ## A log entry -/

/-- Registers that a log entry can change. -/
def logKey (k : Key) : Bool := evKey k || (k.page == 0x122 && (k.off == 0x04C || k.off == 0x080))

theorem logPut_regs (s : State) (x : LogEnt) : RegsKeep logKey s (logPut s x) := by
  unfold logPut
  refine RegsKeep.wr (s := s) _ (RegsKeep.trans (t := if s.mgmt.unexp = 4096 then s.inc P.log F.LOG_CNT_LOST_N else s) ?_ (.of_eq rfl))
    (by decide)
  exact RegsKeep.ite (fun _ => (RegsKeep.refl _ s).inc 1 (by decide)) fun _ => .refl ..

theorem evKey_of_logKey (k : Key) (h : logKey k = false) : evKey k = false := by
  simp only [logKey, Bool.or_eq_false_iff] at h
  exact h.1

theorem logAdd_regs (s : State) (x : LogEnt) : RegsKeep logKey s (logAdd s x) :=
  (logPut_regs s x).trans ((raiseIf_regs ..).mono evKey_of_logKey)

theorem orDraw_regs_eq (s : State) (w : Nat) (v : Option Nat) : (orDraw s w v).2.regs = s.regs := by
  cases v <;> rfl

theorem hubLog_regs (s : State) (kind : Nat) (c a b : Option Nat) : RegsKeep logKey s (hubLog s kind c a b) := by
  refine RegsKeep.trans (.of_eq ?_) (logAdd_regs ..)
  rw [orDraw_regs_eq, orDraw_regs_eq, orDraw_regs_eq]

theorem rd_hubLog (s : State) (kind : Nat) (c a b : Option Nat) (q : Nat) (f : Fld) (h : logKey ⟨q, f.off, f.lsb, 0⟩ = false) :
    (hubLog s kind c a b).rd q f = s.rd q f := (hubLog_regs ..).rd q f h

end Sys2Proof.Machine
end

