-- ==== Sys2Proof/Laws/Bus.lean ====
section
/-!
SUPPORT. What a register write does once nothing stands in its way: it is applied, and a write to a register of triggers alone is
its block's operation and nothing else.
-/

namespace Sys2Proof.Machine

/-- A field whose write stores nothing by itself: triggers, read-only fields, fields that the block stores. -/
def storesNothing (page : Nat) (f : Fld) : Bool :=
  ownStore page f || match f.acc with
  | .w1s | .ro | .roc => true
  | .wo => page != P.sec || !(decide (0x0C0 ≤ f.off ∧ f.off < 0x140) || decide (0x150 ≤ f.off ∧ f.off < 0x170))
  | .rw | .rws | .w1c => false

/-- No condition beyond the class holds for the field. -/
def noCondition (page : Nat) (f : Fld) : Bool :=
  (queueNaming page f).isNone &&
    !(decide (0x0A0 ≤ page ∧ page ≤ 0x0A7) && (arr f F.FIELD_CH_OUT_RELEASE 32 8).isSome) &&
    !(page == P.sesrx && f == F.SESRX_RSES_CFG_EN) && !(page == P.mgmt && f == F.MGMT_PWR_CTRL_CORE_ON) &&
    !(decide (0x0F1 ≤ page ∧ page ≤ 0x0F8) && f == F.BRANCH_BR_CTRL_ON) &&
    !(page == P.sec && (f == F.SECURITY_UNLOCK_CTRL_GO || decide (0x0C0 ≤ f.off ∧ f.off < 0x140)))

/-- The register is one of triggers, and its write is its block's operation and nothing else. -/
def triggerReg (page off : Nat) : Bool :=
  (pageRow page).isSome && registerAt page off && !pioProgram page off &&
    !(decide (0x011 ≤ page ∧ page ≤ 0x018) && off == 0x090) && !(decide (0x011 ≤ page ∧ page ≤ 0x01E) && decide (0x0F4 ≤ off)) &&
    !(page == P.capt && decide (0x100 ≤ off)) && !(page == P.txn && off == 0x058) &&
    ((regFields page off).all fun f => storesNothing page f && (queueNaming page f).isNone)

theorem foldl_id {α β : Type} (f : β → α → β) (l : List α) (b : β) (h : ∀ a ∈ l, f b a = b) : l.foldl f b = b := by
  induction l with
  | nil => rfl
  | cons a r ih =>
    rw [List.foldl_cons, h a (by simp)]
    exact ih fun c hc => h c (by simp [hc])

theorem storeField_trigger {page : Nat} {f : Fld} (h : storesNothing page f = true) (s : State) (who : By) (word : Nat) :
    storeField s who page f word = s := by
  unfold storeField
  dsimp only
  split
  · rfl
  · rename_i hn
    unfold storesNothing at h
    simp only [Bool.or_eq_true, not_or] at h hn
    rcases h with h | h
    · exact absurd h hn.1.2
    · split <;> simp_all
      intro hp
      rcases h with h | h
      · exact absurd hp h
      · omega

theorem applyWrite_trigger {page off : Nat} (h : triggerReg page off = true) (s : State) (who : By) (word : Nat) :
    applyWrite s who page off word = writeEffect s s who page off word := by
  simp only [triggerReg, Bool.and_eq_true, Bool.not_eq_true', List.all_eq_true, bne_iff_ne, ne_eq] at h
  obtain ⟨⟨⟨⟨⟨⟨_, hp⟩, hb⟩, hm⟩, hc⟩, _⟩, hf⟩ := h
  simp only [Bool.and_eq_false_iff, beq_eq_false_iff_ne, decide_eq_false_iff_not] at hb hm hc
  have h1 : beforeWrite s page off word = s := by
    unfold beforeWrite
    rw [if_neg (by omega), if_neg (by omega), if_neg (by
      rintro ⟨h, h', _⟩
      rcases hc with hc | hc
      · exact hc h
      · exact hc h')]
  have h2 : storeWord s who page off word = s := by
    unfold storeWord
    rw [if_neg (by simp [hp])]
    exact foldl_id _ _ _ fun f hm => storeField_trigger (hf f hm).1 ..
  have h3 : bindQueues s s who page off = s := by
    unfold bindQueues
    refine foldl_id _ _ _ fun f hm => ?_
    have := (hf f hm).2
    rw [Option.isNone_iff_eq_none] at this
    simp [this]
  unfold applyWrite
  dsimp only
  rw [h1, h2, h3]

/-- The conditions beyond the class hold. -/
theorem fieldOk_of_noCondition {page : Nat} {f : Fld} (h : noCondition page f = true) (s : State) (who : By) (v : Nat) :
    fieldOk s who page f v = true := by
  simp only [noCondition, Bool.and_eq_true, Bool.not_eq_true', Bool.and_eq_false_iff] at h
  obtain ⟨⟨⟨⟨⟨h1, h2⟩, h3⟩, h4⟩, h5⟩, h6⟩ := h
  rw [Option.isNone_iff_eq_none] at h1
  unfold fieldOk namingOk
  rw [h1]
  simp only [Bool.true_and]
  split
  · rename_i hp
    rcases h2 with h2 | h2
    · simp at h2; omega
    · cases hm : arr f F.FIELD_CH_OUT_RELEASE 32 8 <;> simp_all
  · split
    · rename_i hp; rcases h3 with h3 | h3 <;> simp_all
    · split
      · rename_i hp; rcases h4 with h4 | h4 <;> simp_all
      · split
        · rename_i hp
          rcases h5 with h5 | h5
          · simp at h5; omega
          · simp_all
        · split
          · rename_i hp
            rcases h6 with h6 | h6
            · simp_all
            · simp only [Bool.or_eq_false_iff, beq_eq_false_iff_ne, decide_eq_false_iff_not] at h6
              rcases hp.2 with h | h
              · exact absurd h h6.1
              · exact absurd h h6.2
          · rfl

/-- Nothing stands in the way of the write: no check refuses it. -/
theorem MayWrite.taken {s : State} {who : By} {page off : Nat} (h : MayWrite s who page off) (word : Nat) (armed : Bool)
    (ho : off ≠ 0x038) (hc : ∀ f ∈ regFields page off, fieldOk (dropArms s page) who page f (fbits word f) = true)
    (hs : (page == P.sestx && off == 0x044) = false ∨ who.ini ≠ 8) :
    writeRefusal (dropArms s page) who page off word armed = none := by
  have hl : (dropArms s page).on page F.HDR_PAGE_CTRL_LOCK = false := by
    have : (dropArms s page).rd page F.HDR_PAGE_CTRL_LOCK = 0 := h.unlocked
    simp [State.on, this]
  have hr : who.ini = 8 → remoteOpen (dropArms s page) who.src page = true := h.remote
  have hcl : ∀ f ∈ regFields page off, classOpen (dropArms s page) who page f = true := h.open'
  unfold writeRefusal
  rw [if_neg (by simp [hl]), if_neg (by
    rintro ⟨e, x⟩
    simp only [hr e, Bool.not_true, Bool.false_or] at x
    rcases hs with h | h
    · rw [h] at x; exact absurd x (by decide)
    · exact h e), if_neg ho]
  have : badField (dropArms s page) who page off word = none := by
    unfold badField
    rw [List.find?_eq_none]
    intro f hf
    simp [hcl f hf, hc f hf]
  rw [this]
  rfl

/-- A write that nothing stands in the way of is applied. -/
theorem MayWrite.busStore_eq {s : State} {who : By} {page off : Nat} (h : MayWrite s who page off) (word : Nat) (ho : off ≠ 0x038)
    (hp : (pageRow page).isSome = true) (hr : registerAt page off = true) (he : (page == P.txn && off == 0x058) = false)
    (hc : ∀ f ∈ regFields page off, fieldOk (dropArms s page) who page f (fbits word f) = true)
    (hs : (page == P.sestx && off == 0x044) = false ∨ who.ini ≠ 8) :
    busStore s who page off word = applyWrite (dropArms s page) who page off word := by
  have hw := h.taken word (armedFor s who page) ho hc hs
  have ha := h.alive
  simp only [State.alive, Bool.and_eq_true, Bool.not_eq_true', bne_iff_ne, ne_eq] at ha
  obtain ⟨⟨⟨h1, h2⟩, h3⟩, h4⟩ := ha
  have hn : (pageRow page).isNone = false := by rw [Option.isNone_eq_false_iff]; exact hp
  unfold busStore busWrite
  rw [if_neg (by simp [h1, h2, h3]), if_neg h4, if_neg (by simp [h.tap]), if_neg (by simp [hn]), if_neg (by
    intro x
    simp only [Bool.and_eq_true] at x
    rw [h.link x.1] at x
    exact absurd x.2 (by decide))]
  dsimp only
  rw [if_neg (by simp [hr]), hw]
  simp only [Bool.and_eq_false_iff, beq_eq_false_iff_ne] at he
  unfold acceptedWrite
  dsimp only
  rw [if_neg ho, if_neg (by rintro ⟨h1, h2⟩; rcases he with h | h <;> contradiction)]

/-- A write to a register of triggers is its block's operation. -/
theorem MayWrite.trigger {s : State} {who : By} {page off : Nat} (h : MayWrite s who page off) (word : Nat)
    (ht : triggerReg page off = true) (hc : ((regFields page off).all (noCondition page)) = true)
    (hs : (page == P.sestx && off == 0x044) = false ∨ who.ini ≠ 8) (ho : (off == 0x038) = false) :
    busStore s who page off word = writeEffect (dropArms s page) (dropArms s page) who page off word := by
  have ht' := ht
  simp only [triggerReg, Bool.and_eq_true, Bool.not_eq_true'] at ht'
  rw [h.busStore_eq word (by simpa using ho) ht'.1.1.1.1.1.1.1 ht'.1.1.1.1.1.1.2 ht'.1.2
    (fun f hf => fieldOk_of_noCondition (List.all_eq_true.mp hc f hf) ..) hs]
  exact applyWrite_trigger ht ..

end Sys2Proof.Machine
end

