-- ==== Sys2Proof/Laws/State.lean ====
section
/-!
SUPPORT. What each update of State leaves: one lemma per part and per update, true by unfolding; and reads of single bits and
counters after a write.
-/

namespace Sys2Proof.Machine

@[simp] theorem wri_pending (s : State) (p : Nat) (f : Fld) (i v : Nat) : (s.wri p f i v).pending = s.pending := rfl
@[simp] theorem wri_staged (s : State) (p : Nat) (f : Fld) (i v : Nat) : (s.wri p f i v).staged = s.staged := rfl
@[simp] theorem wri_stagedLate (s : State) (p : Nat) (f : Fld) (i v : Nat) : (s.wri p f i v).stagedLate = s.stagedLate := rfl
@[simp] theorem wri_mem (s : State) (p : Nat) (f : Fld) (i v : Nat) : (s.wri p f i v).mem = s.mem := rfl
@[simp] theorem wri_accFaults (s : State) (p : Nat) (f : Fld) (i v : Nat) : (s.wri p f i v).accFaults = s.accFaults := rfl
@[simp] theorem wri_wire (s : State) (p : Nat) (f : Fld) (i v : Nat) : (s.wri p f i v).wire = s.wire := rfl
@[simp] theorem wri_delivered (s : State) (p : Nat) (f : Fld) (i v : Nat) : (s.wri p f i v).delivered = s.delivered := rfl
@[simp] theorem wri_draws (s : State) (p : Nat) (f : Fld) (i v : Nat) : (s.wri p f i v).draws = s.draws := rfl
@[simp] theorem wri_node (s : State) (p : Nat) (f : Fld) (i v : Nat) : (s.wri p f i v).node = s.node := rfl
@[simp] theorem wri_stitch (s : State) (p : Nat) (f : Fld) (i v : Nat) : (s.wri p f i v).stitch = s.stitch := rfl
@[simp] theorem wri_time (s : State) (p : Nat) (f : Fld) (i v : Nat) : (s.wri p f i v).time = s.time := rfl
@[simp] theorem wri_lanes (s : State) (p : Nat) (f : Fld) (i v : Nat) : (s.wri p f i v).lanes = s.lanes := rfl
@[simp] theorem wri_halo (s : State) (p : Nat) (f : Fld) (i v : Nat) : (s.wri p f i v).halo = s.halo := rfl
@[simp] theorem wri_sw (s : State) (p : Nat) (f : Fld) (i v : Nat) : (s.wri p f i v).sw = s.sw := rfl
@[simp] theorem wri_pub (s : State) (p : Nat) (f : Fld) (i v : Nat) : (s.wri p f i v).pub = s.pub := rfl
@[simp] theorem wri_txn (s : State) (p : Nat) (f : Fld) (i v : Nat) : (s.wri p f i v).txn = s.txn := rfl
@[simp] theorem wri_ses (s : State) (p : Nat) (f : Fld) (i v : Nat) : (s.wri p f i v).ses = s.ses := rfl
@[simp] theorem wri_tracks (s : State) (p : Nat) (f : Fld) (i v : Nat) : (s.wri p f i v).tracks = s.tracks := rfl
@[simp] theorem wri_drift (s : State) (p : Nat) (f : Fld) (i v : Nat) : (s.wri p f i v).drift = s.drift := rfl
@[simp] theorem wri_edge (s : State) (p : Nat) (f : Fld) (i v : Nat) : (s.wri p f i v).edge = s.edge := rfl
@[simp] theorem wri_caps (s : State) (p : Nat) (f : Fld) (i v : Nat) : (s.wri p f i v).caps = s.caps := rfl
@[simp] theorem wri_field (s : State) (p : Nat) (f : Fld) (i v : Nat) : (s.wri p f i v).field = s.field := rfl
@[simp] theorem wri_can (s : State) (p : Nat) (f : Fld) (i v : Nat) : (s.wri p f i v).can = s.can := rfl
@[simp] theorem wri_pio (s : State) (p : Nat) (f : Fld) (i v : Nat) : (s.wri p f i v).pio = s.pio := rfl
@[simp] theorem wri_sigs (s : State) (p : Nat) (f : Fld) (i v : Nat) : (s.wri p f i v).sigs = s.sigs := rfl
@[simp] theorem wri_eths (s : State) (p : Nat) (f : Fld) (i v : Nat) : (s.wri p f i v).eths = s.eths := rfl
@[simp] theorem wri_uarts (s : State) (p : Nat) (f : Fld) (i v : Nat) : (s.wri p f i v).uarts = s.uarts := rfl
@[simp] theorem wri_ports (s : State) (p : Nat) (f : Fld) (i v : Nat) : (s.wri p f i v).ports = s.ports := rfl
@[simp] theorem wri_power (s : State) (p : Nat) (f : Fld) (i v : Nat) : (s.wri p f i v).power = s.power := rfl
@[simp] theorem wri_usb (s : State) (p : Nat) (f : Fld) (i v : Nat) : (s.wri p f i v).usb = s.usb := rfl
@[simp] theorem wri_router (s : State) (p : Nat) (f : Fld) (i v : Nat) : (s.wri p f i v).router = s.router := rfl
@[simp] theorem wri_cores (s : State) (p : Nat) (f : Fld) (i v : Nat) : (s.wri p f i v).cores = s.cores := rfl
@[simp] theorem wri_ao (s : State) (p : Nat) (f : Fld) (i v : Nat) : (s.wri p f i v).ao = s.ao := rfl
@[simp] theorem wri_otp (s : State) (p : Nat) (f : Fld) (i v : Nat) : (s.wri p f i v).otp = s.otp := rfl
@[simp] theorem wri_mgmt (s : State) (p : Nat) (f : Fld) (i v : Nat) : (s.wri p f i v).mgmt = s.mgmt := rfl
@[simp] theorem wri_ecl (s : State) (p : Nat) (f : Fld) (i v : Nat) : (s.wri p f i v).ecl = s.ecl := rfl

@[simp] theorem wr_pending (s : State) (p : Nat) (f : Fld) (v : Nat) : (s.wr p f v).pending = s.pending := rfl
@[simp] theorem wr_staged (s : State) (p : Nat) (f : Fld) (v : Nat) : (s.wr p f v).staged = s.staged := rfl
@[simp] theorem wr_stagedLate (s : State) (p : Nat) (f : Fld) (v : Nat) : (s.wr p f v).stagedLate = s.stagedLate := rfl
@[simp] theorem wr_mem (s : State) (p : Nat) (f : Fld) (v : Nat) : (s.wr p f v).mem = s.mem := rfl
@[simp] theorem wr_accFaults (s : State) (p : Nat) (f : Fld) (v : Nat) : (s.wr p f v).accFaults = s.accFaults := rfl
@[simp] theorem wr_wire (s : State) (p : Nat) (f : Fld) (v : Nat) : (s.wr p f v).wire = s.wire := rfl
@[simp] theorem wr_delivered (s : State) (p : Nat) (f : Fld) (v : Nat) : (s.wr p f v).delivered = s.delivered := rfl
@[simp] theorem wr_draws (s : State) (p : Nat) (f : Fld) (v : Nat) : (s.wr p f v).draws = s.draws := rfl
@[simp] theorem wr_node (s : State) (p : Nat) (f : Fld) (v : Nat) : (s.wr p f v).node = s.node := rfl
@[simp] theorem wr_stitch (s : State) (p : Nat) (f : Fld) (v : Nat) : (s.wr p f v).stitch = s.stitch := rfl
@[simp] theorem wr_time (s : State) (p : Nat) (f : Fld) (v : Nat) : (s.wr p f v).time = s.time := rfl
@[simp] theorem wr_lanes (s : State) (p : Nat) (f : Fld) (v : Nat) : (s.wr p f v).lanes = s.lanes := rfl
@[simp] theorem wr_halo (s : State) (p : Nat) (f : Fld) (v : Nat) : (s.wr p f v).halo = s.halo := rfl
@[simp] theorem wr_sw (s : State) (p : Nat) (f : Fld) (v : Nat) : (s.wr p f v).sw = s.sw := rfl
@[simp] theorem wr_pub (s : State) (p : Nat) (f : Fld) (v : Nat) : (s.wr p f v).pub = s.pub := rfl
@[simp] theorem wr_txn (s : State) (p : Nat) (f : Fld) (v : Nat) : (s.wr p f v).txn = s.txn := rfl
@[simp] theorem wr_ses (s : State) (p : Nat) (f : Fld) (v : Nat) : (s.wr p f v).ses = s.ses := rfl
@[simp] theorem wr_tracks (s : State) (p : Nat) (f : Fld) (v : Nat) : (s.wr p f v).tracks = s.tracks := rfl
@[simp] theorem wr_drift (s : State) (p : Nat) (f : Fld) (v : Nat) : (s.wr p f v).drift = s.drift := rfl
@[simp] theorem wr_edge (s : State) (p : Nat) (f : Fld) (v : Nat) : (s.wr p f v).edge = s.edge := rfl
@[simp] theorem wr_caps (s : State) (p : Nat) (f : Fld) (v : Nat) : (s.wr p f v).caps = s.caps := rfl
@[simp] theorem wr_field (s : State) (p : Nat) (f : Fld) (v : Nat) : (s.wr p f v).field = s.field := rfl
@[simp] theorem wr_can (s : State) (p : Nat) (f : Fld) (v : Nat) : (s.wr p f v).can = s.can := rfl
@[simp] theorem wr_pio (s : State) (p : Nat) (f : Fld) (v : Nat) : (s.wr p f v).pio = s.pio := rfl
@[simp] theorem wr_sigs (s : State) (p : Nat) (f : Fld) (v : Nat) : (s.wr p f v).sigs = s.sigs := rfl
@[simp] theorem wr_eths (s : State) (p : Nat) (f : Fld) (v : Nat) : (s.wr p f v).eths = s.eths := rfl
@[simp] theorem wr_uarts (s : State) (p : Nat) (f : Fld) (v : Nat) : (s.wr p f v).uarts = s.uarts := rfl
@[simp] theorem wr_ports (s : State) (p : Nat) (f : Fld) (v : Nat) : (s.wr p f v).ports = s.ports := rfl
@[simp] theorem wr_power (s : State) (p : Nat) (f : Fld) (v : Nat) : (s.wr p f v).power = s.power := rfl
@[simp] theorem wr_usb (s : State) (p : Nat) (f : Fld) (v : Nat) : (s.wr p f v).usb = s.usb := rfl
@[simp] theorem wr_router (s : State) (p : Nat) (f : Fld) (v : Nat) : (s.wr p f v).router = s.router := rfl
@[simp] theorem wr_cores (s : State) (p : Nat) (f : Fld) (v : Nat) : (s.wr p f v).cores = s.cores := rfl
@[simp] theorem wr_ao (s : State) (p : Nat) (f : Fld) (v : Nat) : (s.wr p f v).ao = s.ao := rfl
@[simp] theorem wr_otp (s : State) (p : Nat) (f : Fld) (v : Nat) : (s.wr p f v).otp = s.otp := rfl
@[simp] theorem wr_mgmt (s : State) (p : Nat) (f : Fld) (v : Nat) : (s.wr p f v).mgmt = s.mgmt := rfl
@[simp] theorem wr_ecl (s : State) (p : Nat) (f : Fld) (v : Nat) : (s.wr p f v).ecl = s.ecl := rfl

@[simp] theorem setBit_pending (s : State) (p : Nat) (f : Fld) (k : Nat) (b : Bool) : (s.setBit p f k b).pending = s.pending := rfl
@[simp] theorem setBit_staged (s : State) (p : Nat) (f : Fld) (k : Nat) (b : Bool) : (s.setBit p f k b).staged = s.staged := rfl
@[simp] theorem setBit_stagedLate (s : State) (p : Nat) (f : Fld) (k : Nat) (b : Bool) : (s.setBit p f k b).stagedLate = s.stagedLate := rfl
@[simp] theorem setBit_mem (s : State) (p : Nat) (f : Fld) (k : Nat) (b : Bool) : (s.setBit p f k b).mem = s.mem := rfl
@[simp] theorem setBit_accFaults (s : State) (p : Nat) (f : Fld) (k : Nat) (b : Bool) : (s.setBit p f k b).accFaults = s.accFaults := rfl
@[simp] theorem setBit_wire (s : State) (p : Nat) (f : Fld) (k : Nat) (b : Bool) : (s.setBit p f k b).wire = s.wire := rfl
@[simp] theorem setBit_delivered (s : State) (p : Nat) (f : Fld) (k : Nat) (b : Bool) : (s.setBit p f k b).delivered = s.delivered := rfl
@[simp] theorem setBit_draws (s : State) (p : Nat) (f : Fld) (k : Nat) (b : Bool) : (s.setBit p f k b).draws = s.draws := rfl
@[simp] theorem setBit_node (s : State) (p : Nat) (f : Fld) (k : Nat) (b : Bool) : (s.setBit p f k b).node = s.node := rfl
@[simp] theorem setBit_stitch (s : State) (p : Nat) (f : Fld) (k : Nat) (b : Bool) : (s.setBit p f k b).stitch = s.stitch := rfl
@[simp] theorem setBit_time (s : State) (p : Nat) (f : Fld) (k : Nat) (b : Bool) : (s.setBit p f k b).time = s.time := rfl
@[simp] theorem setBit_lanes (s : State) (p : Nat) (f : Fld) (k : Nat) (b : Bool) : (s.setBit p f k b).lanes = s.lanes := rfl
@[simp] theorem setBit_halo (s : State) (p : Nat) (f : Fld) (k : Nat) (b : Bool) : (s.setBit p f k b).halo = s.halo := rfl
@[simp] theorem setBit_sw (s : State) (p : Nat) (f : Fld) (k : Nat) (b : Bool) : (s.setBit p f k b).sw = s.sw := rfl
@[simp] theorem setBit_pub (s : State) (p : Nat) (f : Fld) (k : Nat) (b : Bool) : (s.setBit p f k b).pub = s.pub := rfl
@[simp] theorem setBit_txn (s : State) (p : Nat) (f : Fld) (k : Nat) (b : Bool) : (s.setBit p f k b).txn = s.txn := rfl
@[simp] theorem setBit_ses (s : State) (p : Nat) (f : Fld) (k : Nat) (b : Bool) : (s.setBit p f k b).ses = s.ses := rfl
@[simp] theorem setBit_tracks (s : State) (p : Nat) (f : Fld) (k : Nat) (b : Bool) : (s.setBit p f k b).tracks = s.tracks := rfl
@[simp] theorem setBit_drift (s : State) (p : Nat) (f : Fld) (k : Nat) (b : Bool) : (s.setBit p f k b).drift = s.drift := rfl
@[simp] theorem setBit_edge (s : State) (p : Nat) (f : Fld) (k : Nat) (b : Bool) : (s.setBit p f k b).edge = s.edge := rfl
@[simp] theorem setBit_caps (s : State) (p : Nat) (f : Fld) (k : Nat) (b : Bool) : (s.setBit p f k b).caps = s.caps := rfl
@[simp] theorem setBit_field (s : State) (p : Nat) (f : Fld) (k : Nat) (b : Bool) : (s.setBit p f k b).field = s.field := rfl
@[simp] theorem setBit_can (s : State) (p : Nat) (f : Fld) (k : Nat) (b : Bool) : (s.setBit p f k b).can = s.can := rfl
@[simp] theorem setBit_pio (s : State) (p : Nat) (f : Fld) (k : Nat) (b : Bool) : (s.setBit p f k b).pio = s.pio := rfl
@[simp] theorem setBit_sigs (s : State) (p : Nat) (f : Fld) (k : Nat) (b : Bool) : (s.setBit p f k b).sigs = s.sigs := rfl
@[simp] theorem setBit_eths (s : State) (p : Nat) (f : Fld) (k : Nat) (b : Bool) : (s.setBit p f k b).eths = s.eths := rfl
@[simp] theorem setBit_uarts (s : State) (p : Nat) (f : Fld) (k : Nat) (b : Bool) : (s.setBit p f k b).uarts = s.uarts := rfl
@[simp] theorem setBit_ports (s : State) (p : Nat) (f : Fld) (k : Nat) (b : Bool) : (s.setBit p f k b).ports = s.ports := rfl
@[simp] theorem setBit_power (s : State) (p : Nat) (f : Fld) (k : Nat) (b : Bool) : (s.setBit p f k b).power = s.power := rfl
@[simp] theorem setBit_usb (s : State) (p : Nat) (f : Fld) (k : Nat) (b : Bool) : (s.setBit p f k b).usb = s.usb := rfl
@[simp] theorem setBit_router (s : State) (p : Nat) (f : Fld) (k : Nat) (b : Bool) : (s.setBit p f k b).router = s.router := rfl
@[simp] theorem setBit_cores (s : State) (p : Nat) (f : Fld) (k : Nat) (b : Bool) : (s.setBit p f k b).cores = s.cores := rfl
@[simp] theorem setBit_ao (s : State) (p : Nat) (f : Fld) (k : Nat) (b : Bool) : (s.setBit p f k b).ao = s.ao := rfl
@[simp] theorem setBit_otp (s : State) (p : Nat) (f : Fld) (k : Nat) (b : Bool) : (s.setBit p f k b).otp = s.otp := rfl
@[simp] theorem setBit_mgmt (s : State) (p : Nat) (f : Fld) (k : Nat) (b : Bool) : (s.setBit p f k b).mgmt = s.mgmt := rfl
@[simp] theorem setBit_ecl (s : State) (p : Nat) (f : Fld) (k : Nat) (b : Bool) : (s.setBit p f k b).ecl = s.ecl := rfl

@[simp] theorem inc_pending (s : State) (p : Nat) (f : Fld) (n : Nat) : (s.inc p f n).pending = s.pending := rfl
@[simp] theorem inc_staged (s : State) (p : Nat) (f : Fld) (n : Nat) : (s.inc p f n).staged = s.staged := rfl
@[simp] theorem inc_stagedLate (s : State) (p : Nat) (f : Fld) (n : Nat) : (s.inc p f n).stagedLate = s.stagedLate := rfl
@[simp] theorem inc_mem (s : State) (p : Nat) (f : Fld) (n : Nat) : (s.inc p f n).mem = s.mem := rfl
@[simp] theorem inc_accFaults (s : State) (p : Nat) (f : Fld) (n : Nat) : (s.inc p f n).accFaults = s.accFaults := rfl
@[simp] theorem inc_wire (s : State) (p : Nat) (f : Fld) (n : Nat) : (s.inc p f n).wire = s.wire := rfl
@[simp] theorem inc_delivered (s : State) (p : Nat) (f : Fld) (n : Nat) : (s.inc p f n).delivered = s.delivered := rfl
@[simp] theorem inc_draws (s : State) (p : Nat) (f : Fld) (n : Nat) : (s.inc p f n).draws = s.draws := rfl
@[simp] theorem inc_node (s : State) (p : Nat) (f : Fld) (n : Nat) : (s.inc p f n).node = s.node := rfl
@[simp] theorem inc_stitch (s : State) (p : Nat) (f : Fld) (n : Nat) : (s.inc p f n).stitch = s.stitch := rfl
@[simp] theorem inc_time (s : State) (p : Nat) (f : Fld) (n : Nat) : (s.inc p f n).time = s.time := rfl
@[simp] theorem inc_lanes (s : State) (p : Nat) (f : Fld) (n : Nat) : (s.inc p f n).lanes = s.lanes := rfl
@[simp] theorem inc_halo (s : State) (p : Nat) (f : Fld) (n : Nat) : (s.inc p f n).halo = s.halo := rfl
@[simp] theorem inc_sw (s : State) (p : Nat) (f : Fld) (n : Nat) : (s.inc p f n).sw = s.sw := rfl
@[simp] theorem inc_pub (s : State) (p : Nat) (f : Fld) (n : Nat) : (s.inc p f n).pub = s.pub := rfl
@[simp] theorem inc_txn (s : State) (p : Nat) (f : Fld) (n : Nat) : (s.inc p f n).txn = s.txn := rfl
@[simp] theorem inc_ses (s : State) (p : Nat) (f : Fld) (n : Nat) : (s.inc p f n).ses = s.ses := rfl
@[simp] theorem inc_tracks (s : State) (p : Nat) (f : Fld) (n : Nat) : (s.inc p f n).tracks = s.tracks := rfl
@[simp] theorem inc_drift (s : State) (p : Nat) (f : Fld) (n : Nat) : (s.inc p f n).drift = s.drift := rfl
@[simp] theorem inc_edge (s : State) (p : Nat) (f : Fld) (n : Nat) : (s.inc p f n).edge = s.edge := rfl
@[simp] theorem inc_caps (s : State) (p : Nat) (f : Fld) (n : Nat) : (s.inc p f n).caps = s.caps := rfl
@[simp] theorem inc_field (s : State) (p : Nat) (f : Fld) (n : Nat) : (s.inc p f n).field = s.field := rfl
@[simp] theorem inc_can (s : State) (p : Nat) (f : Fld) (n : Nat) : (s.inc p f n).can = s.can := rfl
@[simp] theorem inc_pio (s : State) (p : Nat) (f : Fld) (n : Nat) : (s.inc p f n).pio = s.pio := rfl
@[simp] theorem inc_sigs (s : State) (p : Nat) (f : Fld) (n : Nat) : (s.inc p f n).sigs = s.sigs := rfl
@[simp] theorem inc_eths (s : State) (p : Nat) (f : Fld) (n : Nat) : (s.inc p f n).eths = s.eths := rfl
@[simp] theorem inc_uarts (s : State) (p : Nat) (f : Fld) (n : Nat) : (s.inc p f n).uarts = s.uarts := rfl
@[simp] theorem inc_ports (s : State) (p : Nat) (f : Fld) (n : Nat) : (s.inc p f n).ports = s.ports := rfl
@[simp] theorem inc_power (s : State) (p : Nat) (f : Fld) (n : Nat) : (s.inc p f n).power = s.power := rfl
@[simp] theorem inc_usb (s : State) (p : Nat) (f : Fld) (n : Nat) : (s.inc p f n).usb = s.usb := rfl
@[simp] theorem inc_router (s : State) (p : Nat) (f : Fld) (n : Nat) : (s.inc p f n).router = s.router := rfl
@[simp] theorem inc_cores (s : State) (p : Nat) (f : Fld) (n : Nat) : (s.inc p f n).cores = s.cores := rfl
@[simp] theorem inc_ao (s : State) (p : Nat) (f : Fld) (n : Nat) : (s.inc p f n).ao = s.ao := rfl
@[simp] theorem inc_otp (s : State) (p : Nat) (f : Fld) (n : Nat) : (s.inc p f n).otp = s.otp := rfl
@[simp] theorem inc_mgmt (s : State) (p : Nat) (f : Fld) (n : Nat) : (s.inc p f n).mgmt = s.mgmt := rfl
@[simp] theorem inc_ecl (s : State) (p : Nat) (f : Fld) (n : Nat) : (s.inc p f n).ecl = s.ecl := rfl

@[simp] theorem orb_pending (s : State) (p : Nat) (f : Fld) (m : Nat) : (s.orb p f m).pending = s.pending := rfl
@[simp] theorem orb_staged (s : State) (p : Nat) (f : Fld) (m : Nat) : (s.orb p f m).staged = s.staged := rfl
@[simp] theorem orb_stagedLate (s : State) (p : Nat) (f : Fld) (m : Nat) : (s.orb p f m).stagedLate = s.stagedLate := rfl
@[simp] theorem orb_mem (s : State) (p : Nat) (f : Fld) (m : Nat) : (s.orb p f m).mem = s.mem := rfl
@[simp] theorem orb_accFaults (s : State) (p : Nat) (f : Fld) (m : Nat) : (s.orb p f m).accFaults = s.accFaults := rfl
@[simp] theorem orb_wire (s : State) (p : Nat) (f : Fld) (m : Nat) : (s.orb p f m).wire = s.wire := rfl
@[simp] theorem orb_delivered (s : State) (p : Nat) (f : Fld) (m : Nat) : (s.orb p f m).delivered = s.delivered := rfl
@[simp] theorem orb_draws (s : State) (p : Nat) (f : Fld) (m : Nat) : (s.orb p f m).draws = s.draws := rfl
@[simp] theorem orb_node (s : State) (p : Nat) (f : Fld) (m : Nat) : (s.orb p f m).node = s.node := rfl
@[simp] theorem orb_stitch (s : State) (p : Nat) (f : Fld) (m : Nat) : (s.orb p f m).stitch = s.stitch := rfl
@[simp] theorem orb_time (s : State) (p : Nat) (f : Fld) (m : Nat) : (s.orb p f m).time = s.time := rfl
@[simp] theorem orb_lanes (s : State) (p : Nat) (f : Fld) (m : Nat) : (s.orb p f m).lanes = s.lanes := rfl
@[simp] theorem orb_halo (s : State) (p : Nat) (f : Fld) (m : Nat) : (s.orb p f m).halo = s.halo := rfl
@[simp] theorem orb_sw (s : State) (p : Nat) (f : Fld) (m : Nat) : (s.orb p f m).sw = s.sw := rfl
@[simp] theorem orb_pub (s : State) (p : Nat) (f : Fld) (m : Nat) : (s.orb p f m).pub = s.pub := rfl
@[simp] theorem orb_txn (s : State) (p : Nat) (f : Fld) (m : Nat) : (s.orb p f m).txn = s.txn := rfl
@[simp] theorem orb_ses (s : State) (p : Nat) (f : Fld) (m : Nat) : (s.orb p f m).ses = s.ses := rfl
@[simp] theorem orb_tracks (s : State) (p : Nat) (f : Fld) (m : Nat) : (s.orb p f m).tracks = s.tracks := rfl
@[simp] theorem orb_drift (s : State) (p : Nat) (f : Fld) (m : Nat) : (s.orb p f m).drift = s.drift := rfl
@[simp] theorem orb_edge (s : State) (p : Nat) (f : Fld) (m : Nat) : (s.orb p f m).edge = s.edge := rfl
@[simp] theorem orb_caps (s : State) (p : Nat) (f : Fld) (m : Nat) : (s.orb p f m).caps = s.caps := rfl
@[simp] theorem orb_field (s : State) (p : Nat) (f : Fld) (m : Nat) : (s.orb p f m).field = s.field := rfl
@[simp] theorem orb_can (s : State) (p : Nat) (f : Fld) (m : Nat) : (s.orb p f m).can = s.can := rfl
@[simp] theorem orb_pio (s : State) (p : Nat) (f : Fld) (m : Nat) : (s.orb p f m).pio = s.pio := rfl
@[simp] theorem orb_sigs (s : State) (p : Nat) (f : Fld) (m : Nat) : (s.orb p f m).sigs = s.sigs := rfl
@[simp] theorem orb_eths (s : State) (p : Nat) (f : Fld) (m : Nat) : (s.orb p f m).eths = s.eths := rfl
@[simp] theorem orb_uarts (s : State) (p : Nat) (f : Fld) (m : Nat) : (s.orb p f m).uarts = s.uarts := rfl
@[simp] theorem orb_ports (s : State) (p : Nat) (f : Fld) (m : Nat) : (s.orb p f m).ports = s.ports := rfl
@[simp] theorem orb_power (s : State) (p : Nat) (f : Fld) (m : Nat) : (s.orb p f m).power = s.power := rfl
@[simp] theorem orb_usb (s : State) (p : Nat) (f : Fld) (m : Nat) : (s.orb p f m).usb = s.usb := rfl
@[simp] theorem orb_router (s : State) (p : Nat) (f : Fld) (m : Nat) : (s.orb p f m).router = s.router := rfl
@[simp] theorem orb_cores (s : State) (p : Nat) (f : Fld) (m : Nat) : (s.orb p f m).cores = s.cores := rfl
@[simp] theorem orb_ao (s : State) (p : Nat) (f : Fld) (m : Nat) : (s.orb p f m).ao = s.ao := rfl
@[simp] theorem orb_otp (s : State) (p : Nat) (f : Fld) (m : Nat) : (s.orb p f m).otp = s.otp := rfl
@[simp] theorem orb_mgmt (s : State) (p : Nat) (f : Fld) (m : Nat) : (s.orb p f m).mgmt = s.mgmt := rfl
@[simp] theorem orb_ecl (s : State) (p : Nat) (f : Fld) (m : Nat) : (s.orb p f m).ecl = s.ecl := rfl

@[simp] theorem rdi_put_pending (s : State) (x) (p : Nat) (g : Fld) (i : Nat) : State.rdi { s with pending := x } p g i = s.rdi p g i := rfl
@[simp] theorem rd_put_pending (s : State) (x) (p : Nat) (g : Fld) : State.rd { s with pending := x } p g = s.rd p g := rfl
@[simp] theorem rdi_put_staged (s : State) (x) (p : Nat) (g : Fld) (i : Nat) : State.rdi { s with staged := x } p g i = s.rdi p g i := rfl
@[simp] theorem rd_put_staged (s : State) (x) (p : Nat) (g : Fld) : State.rd { s with staged := x } p g = s.rd p g := rfl
@[simp] theorem rdi_put_stagedLate (s : State) (x) (p : Nat) (g : Fld) (i : Nat) : State.rdi { s with stagedLate := x } p g i = s.rdi p g i := rfl
@[simp] theorem rd_put_stagedLate (s : State) (x) (p : Nat) (g : Fld) : State.rd { s with stagedLate := x } p g = s.rd p g := rfl
@[simp] theorem rdi_put_mem (s : State) (x) (p : Nat) (g : Fld) (i : Nat) : State.rdi { s with mem := x } p g i = s.rdi p g i := rfl
@[simp] theorem rd_put_mem (s : State) (x) (p : Nat) (g : Fld) : State.rd { s with mem := x } p g = s.rd p g := rfl
@[simp] theorem rdi_put_accFaults (s : State) (x) (p : Nat) (g : Fld) (i : Nat) : State.rdi { s with accFaults := x } p g i = s.rdi p g i := rfl
@[simp] theorem rd_put_accFaults (s : State) (x) (p : Nat) (g : Fld) : State.rd { s with accFaults := x } p g = s.rd p g := rfl
@[simp] theorem rdi_put_wire (s : State) (x) (p : Nat) (g : Fld) (i : Nat) : State.rdi { s with wire := x } p g i = s.rdi p g i := rfl
@[simp] theorem rd_put_wire (s : State) (x) (p : Nat) (g : Fld) : State.rd { s with wire := x } p g = s.rd p g := rfl
@[simp] theorem rdi_put_delivered (s : State) (x) (p : Nat) (g : Fld) (i : Nat) : State.rdi { s with delivered := x } p g i = s.rdi p g i := rfl
@[simp] theorem rd_put_delivered (s : State) (x) (p : Nat) (g : Fld) : State.rd { s with delivered := x } p g = s.rd p g := rfl
@[simp] theorem rdi_put_draws (s : State) (x) (p : Nat) (g : Fld) (i : Nat) : State.rdi { s with draws := x } p g i = s.rdi p g i := rfl
@[simp] theorem rd_put_draws (s : State) (x) (p : Nat) (g : Fld) : State.rd { s with draws := x } p g = s.rd p g := rfl
@[simp] theorem rdi_put_node (s : State) (x) (p : Nat) (g : Fld) (i : Nat) : State.rdi { s with node := x } p g i = s.rdi p g i := rfl
@[simp] theorem rd_put_node (s : State) (x) (p : Nat) (g : Fld) : State.rd { s with node := x } p g = s.rd p g := rfl
@[simp] theorem rdi_put_stitch (s : State) (x) (p : Nat) (g : Fld) (i : Nat) : State.rdi { s with stitch := x } p g i = s.rdi p g i := rfl
@[simp] theorem rd_put_stitch (s : State) (x) (p : Nat) (g : Fld) : State.rd { s with stitch := x } p g = s.rd p g := rfl
@[simp] theorem rdi_put_time (s : State) (x) (p : Nat) (g : Fld) (i : Nat) : State.rdi { s with time := x } p g i = s.rdi p g i := rfl
@[simp] theorem rd_put_time (s : State) (x) (p : Nat) (g : Fld) : State.rd { s with time := x } p g = s.rd p g := rfl
@[simp] theorem rdi_put_lanes (s : State) (x) (p : Nat) (g : Fld) (i : Nat) : State.rdi { s with lanes := x } p g i = s.rdi p g i := rfl
@[simp] theorem rd_put_lanes (s : State) (x) (p : Nat) (g : Fld) : State.rd { s with lanes := x } p g = s.rd p g := rfl
@[simp] theorem rdi_put_halo (s : State) (x) (p : Nat) (g : Fld) (i : Nat) : State.rdi { s with halo := x } p g i = s.rdi p g i := rfl
@[simp] theorem rd_put_halo (s : State) (x) (p : Nat) (g : Fld) : State.rd { s with halo := x } p g = s.rd p g := rfl
@[simp] theorem rdi_put_sw (s : State) (x) (p : Nat) (g : Fld) (i : Nat) : State.rdi { s with sw := x } p g i = s.rdi p g i := rfl
@[simp] theorem rd_put_sw (s : State) (x) (p : Nat) (g : Fld) : State.rd { s with sw := x } p g = s.rd p g := rfl
@[simp] theorem rdi_put_pub (s : State) (x) (p : Nat) (g : Fld) (i : Nat) : State.rdi { s with pub := x } p g i = s.rdi p g i := rfl
@[simp] theorem rd_put_pub (s : State) (x) (p : Nat) (g : Fld) : State.rd { s with pub := x } p g = s.rd p g := rfl
@[simp] theorem rdi_put_txn (s : State) (x) (p : Nat) (g : Fld) (i : Nat) : State.rdi { s with txn := x } p g i = s.rdi p g i := rfl
@[simp] theorem rd_put_txn (s : State) (x) (p : Nat) (g : Fld) : State.rd { s with txn := x } p g = s.rd p g := rfl
@[simp] theorem rdi_put_ses (s : State) (x) (p : Nat) (g : Fld) (i : Nat) : State.rdi { s with ses := x } p g i = s.rdi p g i := rfl
@[simp] theorem rd_put_ses (s : State) (x) (p : Nat) (g : Fld) : State.rd { s with ses := x } p g = s.rd p g := rfl
@[simp] theorem rdi_put_tracks (s : State) (x) (p : Nat) (g : Fld) (i : Nat) : State.rdi { s with tracks := x } p g i = s.rdi p g i := rfl
@[simp] theorem rd_put_tracks (s : State) (x) (p : Nat) (g : Fld) : State.rd { s with tracks := x } p g = s.rd p g := rfl
@[simp] theorem rdi_put_drift (s : State) (x) (p : Nat) (g : Fld) (i : Nat) : State.rdi { s with drift := x } p g i = s.rdi p g i := rfl
@[simp] theorem rd_put_drift (s : State) (x) (p : Nat) (g : Fld) : State.rd { s with drift := x } p g = s.rd p g := rfl
@[simp] theorem rdi_put_edge (s : State) (x) (p : Nat) (g : Fld) (i : Nat) : State.rdi { s with edge := x } p g i = s.rdi p g i := rfl
@[simp] theorem rd_put_edge (s : State) (x) (p : Nat) (g : Fld) : State.rd { s with edge := x } p g = s.rd p g := rfl
@[simp] theorem rdi_put_caps (s : State) (x) (p : Nat) (g : Fld) (i : Nat) : State.rdi { s with caps := x } p g i = s.rdi p g i := rfl
@[simp] theorem rd_put_caps (s : State) (x) (p : Nat) (g : Fld) : State.rd { s with caps := x } p g = s.rd p g := rfl
@[simp] theorem rdi_put_field (s : State) (x) (p : Nat) (g : Fld) (i : Nat) : State.rdi { s with field := x } p g i = s.rdi p g i := rfl
@[simp] theorem rd_put_field (s : State) (x) (p : Nat) (g : Fld) : State.rd { s with field := x } p g = s.rd p g := rfl
@[simp] theorem rdi_put_can (s : State) (x) (p : Nat) (g : Fld) (i : Nat) : State.rdi { s with can := x } p g i = s.rdi p g i := rfl
@[simp] theorem rd_put_can (s : State) (x) (p : Nat) (g : Fld) : State.rd { s with can := x } p g = s.rd p g := rfl
@[simp] theorem rdi_put_pio (s : State) (x) (p : Nat) (g : Fld) (i : Nat) : State.rdi { s with pio := x } p g i = s.rdi p g i := rfl
@[simp] theorem rd_put_pio (s : State) (x) (p : Nat) (g : Fld) : State.rd { s with pio := x } p g = s.rd p g := rfl
@[simp] theorem rdi_put_sigs (s : State) (x) (p : Nat) (g : Fld) (i : Nat) : State.rdi { s with sigs := x } p g i = s.rdi p g i := rfl
@[simp] theorem rd_put_sigs (s : State) (x) (p : Nat) (g : Fld) : State.rd { s with sigs := x } p g = s.rd p g := rfl
@[simp] theorem rdi_put_eths (s : State) (x) (p : Nat) (g : Fld) (i : Nat) : State.rdi { s with eths := x } p g i = s.rdi p g i := rfl
@[simp] theorem rd_put_eths (s : State) (x) (p : Nat) (g : Fld) : State.rd { s with eths := x } p g = s.rd p g := rfl
@[simp] theorem rdi_put_uarts (s : State) (x) (p : Nat) (g : Fld) (i : Nat) : State.rdi { s with uarts := x } p g i = s.rdi p g i := rfl
@[simp] theorem rd_put_uarts (s : State) (x) (p : Nat) (g : Fld) : State.rd { s with uarts := x } p g = s.rd p g := rfl
@[simp] theorem rdi_put_ports (s : State) (x) (p : Nat) (g : Fld) (i : Nat) : State.rdi { s with ports := x } p g i = s.rdi p g i := rfl
@[simp] theorem rd_put_ports (s : State) (x) (p : Nat) (g : Fld) : State.rd { s with ports := x } p g = s.rd p g := rfl
@[simp] theorem rdi_put_power (s : State) (x) (p : Nat) (g : Fld) (i : Nat) : State.rdi { s with power := x } p g i = s.rdi p g i := rfl
@[simp] theorem rd_put_power (s : State) (x) (p : Nat) (g : Fld) : State.rd { s with power := x } p g = s.rd p g := rfl
@[simp] theorem rdi_put_usb (s : State) (x) (p : Nat) (g : Fld) (i : Nat) : State.rdi { s with usb := x } p g i = s.rdi p g i := rfl
@[simp] theorem rd_put_usb (s : State) (x) (p : Nat) (g : Fld) : State.rd { s with usb := x } p g = s.rd p g := rfl
@[simp] theorem rdi_put_router (s : State) (x) (p : Nat) (g : Fld) (i : Nat) : State.rdi { s with router := x } p g i = s.rdi p g i := rfl
@[simp] theorem rd_put_router (s : State) (x) (p : Nat) (g : Fld) : State.rd { s with router := x } p g = s.rd p g := rfl
@[simp] theorem rdi_put_cores (s : State) (x) (p : Nat) (g : Fld) (i : Nat) : State.rdi { s with cores := x } p g i = s.rdi p g i := rfl
@[simp] theorem rd_put_cores (s : State) (x) (p : Nat) (g : Fld) : State.rd { s with cores := x } p g = s.rd p g := rfl
@[simp] theorem rdi_put_ao (s : State) (x) (p : Nat) (g : Fld) (i : Nat) : State.rdi { s with ao := x } p g i = s.rdi p g i := rfl
@[simp] theorem rd_put_ao (s : State) (x) (p : Nat) (g : Fld) : State.rd { s with ao := x } p g = s.rd p g := rfl
@[simp] theorem rdi_put_otp (s : State) (x) (p : Nat) (g : Fld) (i : Nat) : State.rdi { s with otp := x } p g i = s.rdi p g i := rfl
@[simp] theorem rd_put_otp (s : State) (x) (p : Nat) (g : Fld) : State.rd { s with otp := x } p g = s.rd p g := rfl
@[simp] theorem rdi_put_mgmt (s : State) (x) (p : Nat) (g : Fld) (i : Nat) : State.rdi { s with mgmt := x } p g i = s.rdi p g i := rfl
@[simp] theorem rd_put_mgmt (s : State) (x) (p : Nat) (g : Fld) : State.rd { s with mgmt := x } p g = s.rd p g := rfl
@[simp] theorem rdi_put_ecl (s : State) (x) (p : Nat) (g : Fld) (i : Nat) : State.rdi { s with ecl := x } p g i = s.rdi p g i := rfl
@[simp] theorem rd_put_ecl (s : State) (x) (p : Nat) (g : Fld) : State.rd { s with ecl := x } p g = s.rd p g := rfl

/-! ## Keys -/

/-- Two fields are held under different keys. -/
def keyApart (q : Nat) (g : Fld) (p : Nat) (f : Fld) : Bool := q != p || g.off != f.off || g.lsb != f.lsb

theorem key_ne {q p i j : Nat} {g f : Fld} (h : keyApart q g p f = true) :
    (⟨q, g.off, g.lsb, j⟩ : Key) ≠ ⟨p, f.off, f.lsb, i⟩ := by
  intro e
  simp only [Key.mk.injEq] at e
  simp [keyApart, e.1, e.2.1, e.2.2.1] at h

theorem rdi_wri_apart (s : State) {p q i j : Nat} {f g : Fld} (v : Nat) (h : keyApart q g p f = true) :
    (s.wri p f i v).rdi q g j = s.rdi q g j := rdi_wri_ne _ _ (key_ne h)

theorem rd_wr_apart (s : State) {p q : Nat} {f g : Fld} (v : Nat) (h : keyApart q g p f = true) :
    (s.wr p f v).rd q g = s.rd q g := rd_wr_ne _ _ (key_ne h)

theorem rd_setBit_apart (s : State) {p q : Nat} {f g : Fld} (k : Nat) (b : Bool) (h : keyApart q g p f = true) :
    (s.setBit p f k b).rd q g = s.rd q g := rd_wr_ne _ _ (key_ne h)

theorem rd_inc_apart (s : State) {p q : Nat} {f g : Fld} (n : Nat) (h : keyApart q g p f = true) :
    (s.inc p f n).rd q g = s.rd q g := rd_wr_ne _ _ (key_ne h)

/-! ## Bits and counters -/

theorem rd_setBit_same (s : State) (p : Nat) (f : Fld) (k : Nat) (b : Bool) :
    (s.setBit p f k b).rd p f = putBit (s.rd p f) k b % 2 ^ f.width := rd_wr_same ..

/-- A bit of a field after one bit of it has been set or cleared. -/
theorem bit_setBit (s : State) (p : Nat) (f : Fld) (k j : Nat) (b : Bool) (h : j < f.width) :
    (s.setBit p f k b).bit p f j = if j = k then b else s.bit p f j := by
  unfold State.bit
  rw [rd_setBit_same, bitOf_mod, bitOf_putBit]
  simp [h]

theorem rd_inc_same (s : State) (p : Nat) (f : Fld) (n : Nat) :
    (s.inc p f n).rd p f = min (s.rd p f + n) (2 ^ f.width - 1) := by
  unfold State.inc
  rw [rd_wr_same, satAdd, Nat.mod_eq_of_lt]
  have : 0 < 2 ^ f.width := Nat.two_pow_pos _
  omega

theorem on_wr_same (s : State) (p : Nat) (f : Fld) (v : Nat) : (s.wr p f v).on p f = (v % 2 ^ f.width != 0) := by
  unfold State.on
  rw [rd_wr_same]

end Sys2Proof.Machine
end

