-- ==== Sys2Proof/WellFormed.lean ====
section
/-!
DEFINITION. Which commands can occur: operands within the ranges of what they number, frames whose fields fit the header
(05_ring_links_and_frames.md, R124), initiators of 02_register_pages.md. A meaning leaves the state as it is on an index out of
range; nothing else depends on this check.
-/

namespace Sys2Proof

/-- Every byte of a payload is a byte. -/
def bytesOk (l : List Nat) : Bool := l.all fun b => decide (b < 256)

/-- The fields of a frame fit their places in the header, and the payload is at most 2,048 bytes (R124). -/
def Frame.ok (f : Frame) : Bool :=
  decide (f.typ < 16 ∧ f.cls < 8 ∧ f.copy < 2 ∧ f.reach < 1024 ∧ f.dst < 4096 ∧ f.src < 4096 ∧ f.prio < 8 ∧ f.rsv < 8) &&
    decide (f.seq < 65536 ∧ f.tick < 65536 ∧ f.w3 < 2 ^ 32 ∧ f.w4 < 2 ^ 32 ∧ f.w5 < 2 ^ 32 ∧ f.plen ≤ 2048) && bytesOk f.pay

/-- An initiator code, and a source node for a remote write. -/
def By.ok (w : By) : Bool := decide (w.ini ≤ 8 ∧ w.src < 4096)

/-- A Dawn command: path, and fields of the width that the command block gives them. -/
def DawnIn.ok (c : DawnIn) : Bool := decide (c.path < 3 ∧ c.tag < 2 ^ 16 ∧ c.cmd < 2 ^ 8)

/-- The command can occur. -/
def Instr.ok (i : Instr) : Bool :=
  match i with
  | .stitchReplay d n _ => decide (d < 2 ∧ n < 65536)
  | .stitchLinkDown d => decide (d < 2)
  | .heartbeatFlit _ _ => true
  | .fdieWatchdogExpiry _ => true
  | .fieldPageAccessDone who page off _ => decide (page < 1024 ∧ off < 4096) && who.ok
  | .eccError m _ _ _ _ => decide (m < 4)
  | .pwrCtrlWrite who m => decide (m < 8) && who.ok
  | .domainOff _ => true
  | .railsGood => true
  | .railFail => true
  | .rstNLow _ => true
  | .warmReset => true
  | .bootRomStart _ _ _ => true
  | .registerWrite who page off word => decide (page < 1024 ∧ off < 4096 ∧ word < 2 ^ 32) && who.ok
  | .pageStop page who _ => decide (page < 1024) && who.ok
  | .blockStopped page => decide (page < 1024)
  | .evForce page who _ => decide (page < 1024) && who.ok
  | .commitDiscard page who => decide (page < 1024) && who.ok
  | .lockKey page who word => decide (page < 1024 ∧ word < 2 ^ 32) && who.ok
  | .keyArmLapse page => decide (page < 1024)
  | .resetCtrl who _ => who.ok
  | .stateReq who target => decide (target < 16) && who.ok
  | .joinAlone _ => true
  | .cutOff => true
  | .isolateRecordWritten => true
  | .gwResetDeferExpiry _ => true
  | .feedWindowSettled _ => true
  | .feedsLost => true
  | .tickInstant => true
  | .commitPoint => true
  | .coreDone who _ => who.ok
  | .tickReceived lane _ fr f => decide (lane < 4 ∧ fr < 65536) && f.ok
  | .tickClosure lane _ fr f => decide (lane < 4 ∧ fr < 65536) && f.ok
  | .probeSend lane _ => decide (lane < 4)
  | .probe lane f _ _ => decide (lane < 4) && f.ok
  | .probeReply lane f _ => decide (lane < 4) && f.ok
  | .probeFail lane => decide (lane < 4)
  | .missDeadline _ _ => true
  | .zenithListenExpiry _ => true
  | .takeover _ => true
  | .zenithYield => true
  | .cmdGo who => who.ok
  | .lineReq who v => decide (v < 4) && who.ok
  | .line => true
  | .tickLen => true
  | .window => true
  | .zenithMove => true
  | .activate => true
  | .user => true
  | .cntClear page who => decide (page < 1024) && who.ok
  | .signalDetect lane => decide (lane < 4)
  | .blockLock lane _ => decide (lane < 4)
  | .lockTimeout lane => decide (lane < 4)
  | .signalTimeout lane => decide (lane < 4)
  | .helloSend lane => decide (lane < 4)
  | .hello lane f => decide (lane < 4) && f.ok
  | .helloTimeout lane => decide (lane < 4)
  | .laneDown lane _ => decide (lane < 4)
  | .flapHoldEnd lane _ => decide (lane < 4)
  | .ppmWindow lane _ => decide (lane < 4)
  | .crcWindow lane => decide (lane < 4)
  | .ringFrameReceived lane hd f _ _ => decide (lane < 4 ∧ hd.head < 3) && f.ok
  | .haloEntryAged src g _ => decide (src < 4096 ∧ g < 2)
  | .announce lane f _ => decide (lane < 4) && f.ok
  | .holdDone _ => true
  | .neighbourSend _ => true
  | .neighbour lane f => decide (lane < 4) && f.ok
  | .neighbourMissed lane => decide (lane < 4)
  | .change f => f.ok
  | .statusSend => true
  | .duplicate f => f.ok
  | .entrySel who grp src => decide (grp < 2 ∧ src < 4096) && who.ok
  | .portDown p => decide (p < 14)
  | .frameTransmitStart p _ => decide (p < 14)
  | .frameTransmitEnd p _ => decide (p < 14)
  | .gateChange p _ => decide (p < 8)
  | .squallInterval m => decide (m < 4)
  | .cellEccError _ _ => true
  | .pubReady who _ _ => who.ok
  | .channelOffer => true
  | .publishReceived f _ => f.ok
  | .remoteLoad k a _ => decide (k < 5 ∧ a < 2 ^ 40)
  | .remoteStore k a b => decide (k < 5 ∧ a < 2 ^ 40) && bytesOk b
  | .remoteAmo k a _ _ _ => decide (k < 4 ∧ a < 2 ^ 40)
  | .rd32 f _ => f.ok
  | .rd64 f _ => f.ok
  | .rdblk f _ => f.ok
  | .wr32 f => f.ok
  | .wr64 f => f.ok
  | .wrblk f => f.ok
  | .and32 f _ => f.ok
  | .or32 f _ => f.ok
  | .add32 f _ => f.ok
  | .cas32 f _ => f.ok
  | .and64 f _ => f.ok
  | .or64 f _ => f.ok
  | .add64 f _ => f.ok
  | .cas64 f _ => f.ok
  | .event f => f.ok
  | .txnCpl f => f.ok
  | .txnResend n => decide (n < 512)
  | .txnTimeout n => decide (n < 512)
  | .holdingSlotRelease k => decide (k < 64)
  | .streamSlotRelease k => decide (k < 32)
  | .orphPop who => who.ok
  | .evout who dst k v => decide (dst < 4096 ∧ k < 16 ∧ v < 65536) && who.ok
  | .handoverDone => true
  | .xferStart c _ => decide (c < 8)
  | .xferComplete c idx _ => decide (c < 8 ∧ idx < 512)
  | .pop q who => decide (q < 1024) && who.ok
  | .peek q who => decide (q < 1024) && who.ok
  | .dropRest q who => decide (q < 1024) && who.ok
  | .mark q who => decide (q < 1024) && who.ok
  | .markClear q who => decide (q < 1024) && who.ok
  | .rewind q who => decide (q < 1024) && who.ok
  | .flush q who => decide (q < 1024) && who.ok
  | .push who k len => decide (k < 256 ∧ len < 4096) && who.ok
  | .sesEnable who _ _ => who.ok
  | .sesDisable who => who.ok
  | .rsesEnable who _ _ _ => who.ok
  | .rsesDisable who => who.ok
  | .rtoExpiry k => decide (k < 256)
  | .stall k => decide (k < 256)
  | .ack f => f.ok
  | .msg f => f.ok
  | .ackSend => true
  | .freshAckRepeat r => decide (r < 256)
  | .scheduledWindowEnd => true
  | .reclaim k who => decide (k < 8) && who.ok
  | .eval k who _ => decide (k < 8) && who.ok
  | .induct who k => decide (k < 8) && who.ok
  | .update who slot => decide (slot < 16384) && who.ok
  | .opRetire who slot => decide (slot < 16384) && who.ok
  | .find who => who.ok
  | .opCancel who slot _ => decide (slot < 16384) && who.ok
  | .free who slot => decide (slot < 16384) && who.ok
  | .offer f => f.ok
  | .accept f => f.ok
  | .refuse f => f.ok
  | .commit f => f.ok
  | .driftDone f => f.ok
  | .release f => f.ok
  | .driftSet f => f.ok
  | .retire f => f.ok
  | .driftAck f => f.ok
  | .query f => f.ok
  | .answer f => f.ok
  | .result f => f.ok
  | .driftResend => true
  | .handoffTimeout => true
  | .pendingExpired => true
  | .resyncTimeout => true
  | .entSel who n => decide (n < 1024) && who.ok
  | .configure who => who.ok
  | .arm who => who.ok
  | .edgeCancel who => who.ok
  | .edgeRelease who => who.ok
  | .edgeCommit _ => true
  | .edgePlace _ => true
  | .fieldCommandArrival _ _ _ => true
  | .fieldEdgeAction _ => true
  | .inputEdge kind _ _ _ fr _ => decide (kind < 5 ∧ fr < 65536)
  | .modeWrite c who m => decide (c < 64 ∧ m < 16) && who.ok
  | .level c who _ => decide (c < 64) && who.ok
  | .channelRelease c who => decide (c < 64) && who.ok
  | .forceSafe c who => decide (c < 64) && who.ok
  | .wurq c who => decide (c < 64) && who.ok
  | .wakeUpEnd c => decide (c < 64)
  | .fieldInputEdge c _ _ fr _ => decide (c < 64 ∧ fr < 65536)
  | .openLoad c => decide (c < 64)
  | .shortVf c => decide (c < 64)
  | .overload c => decide (c < 64)
  | .tripped c => decide (c < 64)
  | .tripClear c who => decide (c < 64) && who.ok
  | .tripRetry c => decide (c < 64)
  | .thermal c => decide (c < 64)
  | .thermalRecover c => decide (c < 64)
  | .wireBreak c => decide (c < 64)
  | .vfUv => true
  | .vfRev => true
  | .vfRecover => true
  | .overtemp => true
  | .overtempClear => true
  | .safeHoldExpiry c => decide (c < 64)
  | .encoderEdge e _ _ _ => decide (e < 4)
  | .zEdge e => decide (e < 4)
  | .encoderBreak e lines => decide (e < 4 ∧ lines < 8)
  | .encoderBreakClear e => decide (e < 4)
  | .clkLost => true
  | .adcRound _ => true
  | .fifoRead who => who.ok
  | .mbSel c who m => decide (c < 8 ∧ m < 32) && who.ok
  | .mbLoad c who => decide (c < 8) && who.ok
  | .mbArm c who => decide (c < 8) && who.ok
  | .mbCancel c who m => decide (c < 8 ∧ m < 2 ^ 32) && who.ok
  | .mbClear c who => decide (c < 8) && who.ok
  | .canSof c _ _ => decide (c < 8)
  | .canFrameSent c => decide (c < 8)
  | .canAttemptFailed c _ _ _ => decide (c < 8)
  | .busOff c => decide (c < 8)
  | .recover c who => decide (c < 8) && who.ok
  | .recoveryEnd c => decide (c < 8)
  | .canWindowEnd c _ _ => decide (c < 8)
  | .canFrameReceived c _ _ => decide (c < 8)
  | .tunnelField f => f.ok
  | .jump e _ => decide (e < 24)
  | .waitSig e _ => decide (e < 24)
  | .waitTrig e => decide (e < 24)
  | .waitTick e => decide (e < 24)
  | .setLevels e => decide (e < 24)
  | .setDrives e => decide (e < 24)
  | .setSr e => decide (e < 24)
  | .setFlag e => decide (e < 24)
  | .cmpLoadi e => decide (e < 24)
  | .cmpLoadr e => decide (e < 24)
  | .cmpDec e => decide (e < 24)
  | .cmpMatch e => decide (e < 24)
  | .cmpTakeq e => decide (e < 24)
  | .shiftOut e => decide (e < 24)
  | .shiftIn e _ => decide (e < 24)
  | .pull e => decide (e < 24)
  | .pioPush e => decide (e < 24)
  | .outqW e who v => decide (e < 24 ∧ v < 2 ^ 32) && who.ok
  | .inqR e who => decide (e < 24) && who.ok
  | .trigForce e who m => decide (e < 24 ∧ m < 16) && who.ok
  | .flushOutq e who => decide (e < 24) && who.ok
  | .flushInq e who => decide (e < 24) && who.ok
  | .engineStart e => decide (e < 24)
  | .instrWrite e who k _ => decide (e < 24 ∧ k < 33) && who.ok
  | .ethFrameReceived m bytes _ _ => decide (m < 4) && bytesOk bytes
  | .tunnelEth lane f => decide (lane < 4) && f.ok
  | .txCtrl m who _ len => decide (m < 4 ∧ len < 4096) && who.ok
  | .ethLinkChange m _ _ => decide (m < 4)
  | .asOffHi m who v => decide (m < 4 ∧ v < 2 ^ 32) && who.ok
  | .asTimeout m _ => decide (m < 4)
  | .uartCharacter u ch _ _ _ _ => decide (u < 16 ∧ ch < 512)
  | .uartGap u => decide (u < 16)
  | .uTx u who _ len => decide (u < 16 ∧ len < 4096) && who.ok
  | .uartTxEnd u => decide (u < 16)
  | .hostRead cmd a _ => decide (cmd < 65536 ∧ a < 2 ^ 40)
  | .hostWrite cmd a b => decide (cmd < 65536 ∧ a < 2 ^ 40) && bytesOk b
  | .hostAbort _ a _ => decide (a < 2 ^ 40)
  | .program who => who.ok
  | .erase4k who => who.ok
  | .erase64k who => who.ok
  | .flashDone _ => true
  | .doorbell who v => decide (v < 2 ^ 32) && who.ok
  | .doorbellClr who v => decide (v < 2 ^ 32) && who.ok
  | .feedDiodeOn x => decide (x < 2)
  | .feedReverse x => decide (x < 2)
  | .feedReversed x => decide (x < 2)
  | .feedWindow x _ => decide (x < 3)
  | .seatChange _ _ _ => true
  | .seatQualified _ => true
  | .rampDone c _ => decide (c < 9)
  | .shortCircuit c _ => decide (c < 9)
  | .soaTrip c _ => decide (c < 9)
  | .dvdtTrip c _ => decide (c < 9)
  | .startTo c _ => decide (c < 9)
  | .pgQualified c _ => decide (c < 9)
  | .curveTrip c _ => decide (c < 9)
  | .ovShutdown _ => true
  | .retryWaitEnd c _ => decide (c < 9)
  | .retriesReset c _ => decide (c < 9)
  | .latchClear c who => decide (c < 9) && who.ok
  | .curveApply c who => decide (c < 9) && who.ok
  | .powerEntryRestart => true
  | .branchOn b who => decide (b < 8) && who.ok
  | .branchOff b who => decide (b < 8) && who.ok
  | .branchRampStart b _ => decide (b < 8)
  | .lastGasp _ => true
  | .lgRecover => true
  | .blackBoxWritten => true
  | .vbus0Rise => true
  | .svcOverlapEnd _ => true
  | .serviceTakeover _ => true
  | .attach p _ _ _ => decide (p < 2)
  | .detach p => decide (p < 2)
  | .sourceCapabilities _ => true
  | .prSwap p who => decide (p < 2) && who.ok
  | .softReset p who => decide (p < 2) && who.ok
  | .hardReset p who => decide (p < 2) && who.ok
  | .getSrcCap p who => decide (p < 2) && who.ok
  | .request p who => decide (p < 2) && who.ok
  | .prSwapReceived p => decide (p < 2)
  | .hardResetReceived p => decide (p < 2)
  | .unsupportedRequest p kind => decide (p < 2 ∧ kind < 6)
  | .pdTimerExpiry p _ => decide (p < 2)
  | .vsetTrim _ _ => true
  | .transitionFail p k => decide (p < 2 ∧ k < 3)
  | .vbusOv => true
  | .vbusOvClear => true
  | .discoverSvids => true
  | .discoverModes => true
  | .enterMode => true
  | .exitMode => true
  | .usbBusReset _ => true
  | .setup b => bytesOk b
  | .epArm e _ who => decide (e < 9) && who.ok
  | .epDone e _ b => decide (e < 9) && bytesOk b
  | .mtip k _ => decide (k < 5)
  | .hartEn who m _ => decide (m < 16 ∨ (2 ^ 13 ≤ m ∧ m < 2 ^ 14)) && who.ok
  | .commitWarn _ => true
  | .fwdtKick who _ _ => who.ok
  | .fwdtExpiry k => decide (k < 4)
  | .mwdtKick who _ => who.ok
  | .mwdtExpiry => true
  | .claim k who => decide (k < 5) && who.ok
  | .complete k who n => decide (k < 5 ∧ n < 512) && who.ok
  | .swevSet who m => decide (m < 2 ^ 24) && who.ok
  | .volt _ _ => true
  | .temp _ _ => true
  | .logAppend who v => decide (v < 2 ^ 32) && who.ok
  | .logExport who => who.ok
  | .logExportDone _ => true
  | .bbCtrl who _ _ => who.ok
  | .programKey who slot => decide (slot < 4) && who.ok
  | .revokeKey who slot => decide (slot < 4) && who.ok
  | .debugLock who => who.ok
  | .debugDisable who => who.ok
  | .otpDone _ => true
  | .vfyCmd who _ => who.ok
  | .vfyDone _ => true
  | .unlock who => who.ok
  | .bootGood who _ => who.ok
  | .dawnReq who _ => who.ok
  | .dawnInfo c => c.ok
  | .dawnBegin c _ h _ => c.ok && bytesOk h
  | .dawnData c _ b _ => c.ok && bytesOk b
  | .dawnEnd c _ => c.ok
  | .dawnExit c => c.ok
  | .bulkDistribution f _ => f.ok
  | .applySlot who => who.ok
  | .applyDone _ => true
  | .unstage who => who.ok
  | .bankTouched _ b => bytesOk b
  | .actGo who => who.ok
  | .exportDone who _ => who.ok
  | .actReady who _ => who.ok
  | .eclipseN _ _ => true
  | .eclNow who => who.ok
  | .eclArm who => who.ok
  | .disarm who => who.ok
  | .armReached _ => true
  | .eclReq f => f.ok
  | .dumpReq f => f.ok
  | .autoDump _ => true
  | .eclRelease f => f.ok
  | .jtagReadout seg _ => decide (seg < 10)
  | .faultNowClear c k => decide (c < 64 ∧ k < 7)
  | .fieldClockRestored lv => decide (lv < 256)
  | .receiveError c _ _ _ => decide (c < 8)
  | .busIntegration c => decide (c < 8)
  | .breakerSample c _ _ => decide (c < 9)
  | .usbSuspend => true
  | .usbResume => true
  | .aoSupplyFail => true
  | .rstNRelease => true
  | .evtPulseEnd p => decide (p < 4)
  | .requestReceived p _ _ => decide (p < 2)
  | .partnerAccept p _ => decide (p < 2)
  | .psRdy p => decide (p < 2)

end Sys2Proof
end

