-- ==== Sys2Proof/Tests/Slice0.lean ====
section
/-!
SUPPORT. The model's own tests: ill-formed commands that the check refuses, a few single steps, and for every statement with
hypotheses a state and operands that meet them.
-/

namespace Sys2Proof.Tests

open Sys2Proof Sys2Proof.Machine

set_option Elab.async false

/-- The state with register fields set. -/
def put (l : List (Nat × Fld × Nat)) (s : State := {}) : State := l.foldl (fun t e => t.wr e.1 e.2.1 e.2.2) s

/-- A node state, a lane that is UP, an own address. -/
def nst (n : Nat) : Nat × Fld × Nat := (P.node, F.NODE_NODE_STATE_STATE, n)
def up (i : Nat) : Nat × Fld × Nat := (P.lane i, F.LANE_LANE_STAT_STATE, 4)
def addr (a : Nat) : List (Nat × Fld × Nat) := [(P.node, F.NODE_NODE_ADDR_VALID, 1), (P.node, F.NODE_NODE_ADDR_ADDR, a)]

/-- A Drift record with fields set. -/
def rec1 (l : List (RecFld × Nat)) : Rec := Rec.seal (l.foldl (fun r e => Rec.s r e.1 e.2) [])

/-- A state that serves Drift, with records. -/
def drift1 (st : Nat) (l : List (Nat × Rec)) : State :=
  { put ([nst st, (P.drift, F.DRIFT_STORE_STAT3_RESYNC_DONE, 1)] ++ addr 5) with drift := { recs := l } }

/-! ## Ill-formed commands -/

theorem test_ill_flit : (Instr.stitchReplay 2 0 true).ok = false := by decide
theorem test_ill_page : (Instr.registerWrite ⟨0, 0⟩ 1024 0 0).ok = false := by decide
theorem test_ill_offset : (Instr.registerWrite ⟨0, 0⟩ 0 4096 0).ok = false := by decide
theorem test_ill_word : (Instr.registerWrite ⟨0, 0⟩ 0 0 4294967296).ok = false := by decide
theorem test_ill_initiator : (Instr.registerWrite ⟨9, 0⟩ 0 0 0).ok = false := by decide
theorem test_ill_source : (Instr.registerWrite ⟨8, 4096⟩ 0 0 0).ok = false := by decide
theorem test_ill_memory : (Instr.eccError 4 true 0 0 0).ok = false := by decide
theorem test_ill_lane : (Instr.probeSend 4 0).ok = false := by decide
theorem test_ill_fraction : (Instr.tickReceived 0 0 65536 { typ := 1 }).ok = false := by decide
theorem test_ill_frame_type : (Instr.change { typ := 16 }).ok = false := by decide
theorem test_ill_frame_class : (Instr.change { typ := 1, cls := 8 }).ok = false := by decide
theorem test_ill_frame_node : (Instr.change { typ := 1, dst := 4096 }).ok = false := by decide
theorem test_ill_frame_byte : (Instr.change { typ := 1, pay := [256] }).ok = false := by decide
theorem test_ill_frame_length : (Instr.change { typ := 1, pay := List.replicate 2049 0 }).ok = false := by decide +kernel
theorem test_ill_address : (Instr.remoteStore 0 1099511627776 []).ok = false := by decide
theorem test_ill_state : (Instr.stateReq ⟨0, 0⟩ 16).ok = false := by decide
theorem test_ill_line : (Instr.lineReq ⟨0, 0⟩ 4).ok = false := by decide
theorem test_ill_switch_port : (Instr.portDown 14).ok = false := by decide
theorem test_ill_queue : (Instr.pop 1024 ⟨0, 0⟩).ok = false := by decide
theorem test_ill_session : (Instr.push ⟨0, 0⟩ 256 1).ok = false := by decide
theorem test_ill_slot : (Instr.free ⟨0, 0⟩ 16384).ok = false := by decide
theorem test_ill_track : (Instr.reclaim 8 ⟨0, 0⟩).ok = false := by decide
theorem test_ill_edge : (Instr.entSel ⟨0, 0⟩ 1024).ok = false := by decide
theorem test_ill_channel : (Instr.openLoad 64).ok = false := by decide

/-! ## Single steps -/

/-- What `f` says of the next state. -/
def after (o : Out) (f : State → Bool) : Bool :=
  match o with
  | .next t => f t
  | .fault _ => false
  | .refused _ => false

theorem test_step_front : after (step { pending := [.rstNRelease, .railFail], node := { rstLow := true } })
    (fun t => !t.node.rstLow && t.pending == [.railFail]) = true := by decide
theorem test_idle : after (step State.reset) (fun t => t == State.reset) = true := by decide
theorem test_reset_cause : State.reset.rd P.node F.NODE_RESET_CAUSE_POWER_ON = 1 := by decide

/-! ## The statements' hypotheses are met -/

theorem witness_stitchReplay : (fun (s : State) (d n : Nat) (ok : Bool) => (s.alive = true) ∧ (d < 2) ∧ (s.stitch.down = false) ∧ ((if d = 0 then s.stitch.storeOut else s.stitch.storeIn).any (·.1 == n) = true))
    ({ stitch := { storeOut := [(3, [])] } }) (0) (3) (true) := by decide +kernel
theorem witness_stitchLinkDown : (fun (s : State) (d : Nat) => (s.alive = true) ∧ (d < 2) ∧ (s.stitch.down = false) ∧ (flitDead s d = true))
    ({ stitch := { storeOut := [(3, [])], replays := [(3, 8)] } }) (0) := by decide +kernel
theorem witness_heartbeatFlit : (fun (s : State) (x : Nat) (ok : Bool) => (s.alive = true) ∧ (s.stitch.down = false))
    ({}) (5000) (true) := by decide +kernel
theorem witness_fdieWatchdogExpiry : (fun (s : State) (x : Nat) => (s.node.rails = true) ∧ (s.stitch.wdtFired = false) ∧ (s.stitch.lastFlit + wdtTime s ≤ s.upAt x))
    ({}) (2000000) := by decide +kernel
theorem witness_eccError : (fun (s : State) (m : Nat) (corr : Bool) (page addr ini : Nat) => (s.alive = true))
    ({}) (3) (true) (0x001) (64) (6) := by decide +kernel
theorem witness_railsGood : (fun (s : State) => (s.node.rails = false))
    ({ node := { rails := false } }) := by decide +kernel
theorem witness_railFail : (fun (s : State) => (s.node.rails = true))
    ({}) := by decide +kernel
theorem witness_aoSupplyFail : (fun (s : State) => (s.node.rails = false))
    ({ node := { rails := false } }) := by decide +kernel
theorem witness_rstNLow : (fun (s : State) (w : Nat) => (s.node.rstLow = false))
    ({}) (1500) := by decide +kernel
theorem witness_warmReset : (fun (s : State) => (s.node.rails = true) ∧ (s.node.rstLow = false) ∧ (s.node.inReset = false) ∧ (s.node.resetReq ≠ []))
    ({ node := { resetReq := [3] } }) := by decide +kernel
theorem witness_gwResetDeferExpiry : (fun (s : State) (x : Nat) => (s.alive = true) ∧ (s.node.gwReset ≠ []) ∧ (s.node.gwSince + 1000000000 ≤ s.upAt x))
    ({ node := { gwReset := [5] } }) (2000000000) := by decide +kernel
theorem witness_joinAlone : (fun (s : State) (x : Nat) => (s.alive = true) ∧ (s.st = NS.join) ∧ (s.node.laneSeen = false) ∧ (s.node.joinSince + 5000000000 ≤ s.upAt x))
    (({} : State).wr P.node F.NODE_NODE_STATE_STATE NS.join) (6000000000) := by decide +kernel
theorem witness_cutOff : (fun (s : State) => (s.alive = true) ∧ (3 ≤ s.node.supMiss))
    ({ node := { supMiss := 3 } }) := by decide +kernel
theorem witness_tickInstant : (fun (s : State) => (s.alive = true))
    ({}) := by decide +kernel
theorem witness_commitPoint : (fun (s : State) => (s.alive = true) ∧ (s.time.pastC = false))
    ({}) := by decide +kernel
theorem witness_tickReceived : (fun (s : State) (i x fr : Nat) (f : Frame) => (lanesOn s = true) ∧ (i < 4) ∧ (ringLane s i = true) ∧ (laneUp s i = true) ∧ (f.typ = 1))
    (put [up 0]) (0) (1000) (0) ({ typ := 1, src := 7 }) := by decide +kernel
theorem witness_tickClosure : (fun (s : State) (i x fr : Nat) (f : Frame) => (s.alive = true) ∧ (i < 4) ∧ (ringLane s i = true) ∧ (laneUp s i = true) ∧ (f.typ = 1) ∧ (isOwn s f.src = true) ∧ ((if laneK i then s.time.srcK.orig else s.time.src.orig) = true))
    ({ put (up 0 :: addr 0) with time := { src := { orig := true } } }) (0) (1000) (0) ({ typ := 1 }) := by decide +kernel
theorem witness_probeSend : (fun (s : State) (i t1 : Nat) => (probes s = true) ∧ (i < 4) ∧ (laneUp s i = true))
    (put [up 0, nst NS.run]) (0) (1000) := by decide +kernel
theorem witness_probe : (fun (s : State) (i : Nat) (f : Frame) (t2 t3 : Nat) => (probes s = true) ∧ (i < 4) ∧ (laneUp s i = true) ∧ (f.typ = 0xD) ∧ (frameSub f = 2))
    (put [up 0, nst NS.run]) (0) ({ typ := 0xD, w4 := 0x2000000 }) (5) (6) := by decide +kernel
theorem witness_probeReply : (fun (s : State) (i : Nat) (f : Frame) (t1 t4 : Nat) => (probes s = true) ∧ (i < 4) ∧ (laneUp s i = true) ∧ (f.typ = 0xD) ∧ (frameSub f = 3) ∧ ((probe s i).t1 = some t1) ∧ (beAt f.pay 0 4 = (probe s i).num))
    ({ put [up 0, nst NS.run] with time := { probes := [(0, { t1 := some 5 })] } }) (0) ({ typ := 0xD, w4 := 0x3000000 }) (5) (9) := by decide +kernel
theorem witness_probeFail : (fun (s : State) (i : Nat) => (probes s = true) ∧ (i < 4) ∧ ((probe s i).t1.isSome = true))
    ({ ({} : State).wr P.node F.NODE_NODE_STATE_STATE NS.run with time := { probes := [(0, { t1 := some 5 })] } }) (0) := by decide +kernel
theorem witness_missDeadline : (fun (s : State) (n x : Nat) => (s.alive = true) ∧ (servoed s = true) ∧ (n = s.time.missNext ∧ n ≤ s.tick ∧ missDeadline s n ≤ x))
    ({ ({} : State).wr P.node F.NODE_NODE_STATE_STATE NS.run with time := { stepped := true } }) (0) (2000000) := by decide +kernel
theorem witness_zenithListenExpiry : (fun (s : State) (x w : Nat) => (s.alive = true) ∧ (s.st = NS.join) ∧ (s.ownValid = true) ∧ (alone s = false) ∧ (s.time.listen = true) ∧ (s.on P.time F.TIME_ZENITH_VALID = false) ∧ (listenTime s = some w) ∧ (s.halo.announcedAt + w ≤ s.upAt x))
    ({ (({} : State).wr P.node F.NODE_NODE_STATE_STATE NS.join).wr P.node F.NODE_NODE_ADDR_VALID 1 with time := { listen := true } }) (90000000) (20000000) := by decide +kernel
theorem witness_takeover : (fun (s : State) => (s.alive = true) ∧ (s.working = true) ∧ (s.role = 2) ∧ (s.time.src.orig = false) ∧ (standbyPrio s = 1 ∧ 2 ≤ s.rd P.time F.TIME_SERVO_STAT_MISSED ∨ standbyPrio s = 2 ∧ 4 ≤ s.rd P.time F.TIME_SERVO_STAT_MISSED))
    (((((({} : State).wr P.node F.NODE_NODE_STATE_STATE NS.run).wr P.time F.TIME_ROLE_CFG_STANDBY_PRIO 1).wr P.time F.TIME_SERVO_STAT_MISSED 2).wr P.node F.NODE_NODE_STATE_ROLE 2)) := by decide +kernel
theorem witness_takeover_k : (fun (s : State) (x : Source) => (s.alive = true) ∧ (s.working = true) ∧ (isGateway s = true) ∧ (s.on P.time F.TIME_ROLE_CFG_GW_PRIMARY = false) ∧ (s.time.srcK.orig = false) ∧ (s.time.folK = some x) ∧ (2 ≤ s.time.missK))
    ({ put [nst NS.run, (P.node, F.NODE_NODE_STATE_ROLE, 3), (P.gw, F.GATEWAY_GW_CFG_RING_K, 2)] with time := { folK := some (4, 7, 0), missK := 2 } }) ((4, 7, 0)) := by decide +kernel
theorem witness_zenithYield : (fun (s : State) => (s.alive = true))
    ({ time := { yield := true } }) := by decide +kernel
theorem witness_line : (fun (s : State) (c : TickCmd) => (s.alive = true) ∧ (s.time.cmds.find? (fun c => c.code == 1 && decide (c.eff ≤ s.tick)) = some c) ∧ (c.arg % 4 ≠ 3))
    ({ time := { cmds := [{ code := 1, eff := 0, arg := 2 }] } }) ({ code := 1, eff := 0, arg := 2 }) := by decide +kernel
theorem witness_tickLen : (fun (s : State) (c : TickCmd) => (s.alive = true) ∧ (s.time.cmds.find? (fun c => c.code == 2 && decide (c.eff ≤ s.tick)) = some c) ∧ (10000 ≤ c.arg % 2 ^ 21 ∧ c.arg % 2 ^ 21 ≤ 2000000 ∧ c.arg % 2 ^ 21 % 10 = 0))
    ({ time := { cmds := [{ code := 2, eff := 0, arg := 500000 }] } }) ({ code := 2, eff := 0, arg := 500000 }) := by decide +kernel
theorem witness_window : (fun (s : State) (c : TickCmd) => (s.alive = true) ∧ (s.time.cmds.find? (fun c => c.code == 3 && decide (c.eff ≤ s.tick)) = some c) ∧ (16 ≤ c.arg % 256 ∧ c.arg % 256 ≤ 192))
    ({ time := { cmds := [{ code := 3, eff := 0, arg := 100 }] } }) ({ code := 3, eff := 0, arg := 100 }) := by decide +kernel
theorem witness_zenithMove : (fun (s : State) (c : TickCmd) => (s.alive = true) ∧ (s.time.cmds.find? (fun c => c.code == 4 && decide (c.eff ≤ s.tick)) = some c))
    ({ time := { cmds := [{ code := 4, eff := 0, arg := 9 }] } }) ({ code := 4, eff := 0, arg := 9 }) := by decide +kernel
theorem witness_zenithMove_own : (fun (s : State) (c : TickCmd) => s.alive = true ∧
      s.time.cmds.find? (fun c => c.code == 4 && decide (c.eff ≤ s.tick)) = some c ∧ c.arg % 4096 = s.own ∧ s.ownValid = true ∧
      s.working = true ∧ s.time.src.orig = false ∧ s.role ≠ 3 ∧ (s.own = 0 ∨ s.role = 2))
    { put ([nst NS.run, (P.node, F.NODE_NODE_STATE_ROLE, 2)] ++ addr 9) with time := { cmds := [{ code := 4, eff := 0, arg := 9 }] } }
    { code := 4, eff := 0, arg := 9 } := by decide +kernel
theorem witness_zenithMove_other : (fun (s : State) (c : TickCmd) => s.alive = true ∧
      s.time.cmds.find? (fun c => c.code == 4 && decide (c.eff ≤ s.tick)) = some c ∧ s.time.src.orig = true ∧ c.arg % 4096 ≠ s.own)
    { put (addr 5) with time := { cmds := [{ code := 4, eff := 0, arg := 9 }], src := { orig := true } } }
    { code := 4, eff := 0, arg := 9 } := by decide +kernel
theorem witness_user : (fun (s : State) (c : TickCmd) => (s.alive = true) ∧ (s.time.cmds.find? (fun c => decide (0x10 ≤ c.code ∧ c.code ≤ 0x1F ∧ c.eff ≤ s.tick)) = some c))
    ({ time := { cmds := [{ code := 16, eff := 0, arg := 5 }] } }) ({ code := 16, eff := 0, arg := 5 }) := by decide +kernel
theorem witness_lockKey : (fun (s : State) (page : Nat) (who : By) (w : Nat) => (s.alive = true) ∧ (registerAt page 0x038 = true) ∧ ((pageRow page).isSome = true) ∧ (onFieldDie page = true → s.stitch.down = false) ∧ (who.ini = 8 → remoteOpen s who.src page = true) ∧ (tapShut s who page = false) ∧ (w % 2 ^ 32 = 0x1F3C0000 + page))
    ({}) (4) (⟨0, 0⟩) (0x1F3C0004) := by decide +kernel
theorem witness_keyArmLapse : (fun (s : State) (page : Nat) => (s.alive = true))
    ({}) (4) := by decide +kernel
theorem witness_resetCtrl : (fun (s : State) (who : By) (key : Nat) => (MayWrite s who P.node 0x050))
    ({}) (⟨0, 0⟩) (0x5752) := by
  refine ⟨by decide +kernel, by decide +kernel, by decide +kernel, by decide +kernel, by decide +kernel, by decide +kernel⟩
theorem witness_stateReq : (fun (s : State) (who : By) (x : Nat) => (MayWrite s who P.node 0x04C) ∧ (x < 16) ∧ (x ≠ s.st))
    (put [nst NS.commission]) (⟨4, 0⟩) (6) := by
  refine ⟨⟨by decide +kernel, by decide +kernel, by decide +kernel, by decide +kernel, by decide +kernel, by decide +kernel⟩, by decide +kernel, by decide +kernel⟩
theorem witness_pwrCtrlWrite : (fun (s : State) (who : By) (m : Nat) => (MayWrite s who P.mgmt 0x040) ∧ (m < 8) ∧ (coreRefused s m = false))
    (put [nst NS.run]) (⟨4, 0⟩) (6) := by
  refine ⟨⟨by decide +kernel, by decide +kernel, by decide +kernel, by decide +kernel, by decide +kernel, by decide +kernel⟩, by decide +kernel, by decide +kernel⟩
theorem witness_domainOff : (fun (s : State) (d : Nat) => (s.alive = true) ∧ (s.mgmt.stopWait.contains d = true) ∧ (s.bit P.mgmt F.MGMT_PWR_STAT_ON (d - 1) = true) ∧ (domStopped s d = true) ∧ (d ≤ 10))
    ({ put [] with mgmt := { stopWait := [7] } }) (7) := by decide +kernel
theorem witness_volt : (fun (s : State) (d mv : Nat) => (s.alive = true) ∧ (d < 10) ∧ (s.rd P.sens (F.SENSORS_VLIM_OV d) < mv ∨ mv < s.rd P.sens (F.SENSORS_VLIM_UV d)))
    ({}) (0) (60000) := by decide +kernel
theorem witness_temp : (fun (s : State) (k : Nat) (v : Int) => (s.alive = true) ∧ (k < 6) ∧ (1080 ≤ v))
    ({}) (2) (1100) := by decide +kernel
theorem witness_logAppend : (fun (s : State) (who : By) (v : Nat) => (MayWrite s who P.log 0x048))
    ({}) (⟨4, 0⟩) (7) := by
  refine ⟨by decide +kernel, by decide +kernel, by decide +kernel, by decide +kernel, by decide +kernel, by decide +kernel⟩
theorem witness_logExport : (fun (s : State) (who : By) => (MayWrite s who P.log 0x054) ∧ (s.on P.log F.LOG_EXP_STAT_BUSY = false) ∧ (s.on P.flash F.FLASH_FL_STAT_BUSY = false) ∧ (domOn s 7 = true))
    ({}) (⟨4, 0⟩) := by
  refine ⟨⟨by decide +kernel, by decide +kernel, by decide +kernel, by decide +kernel, by decide +kernel, by decide +kernel⟩, by decide +kernel, by decide +kernel, by decide +kernel⟩
theorem witness_logExportDone : (fun (s : State) (ok : Bool) => (s.alive = true) ∧ (s.on P.log F.LOG_EXP_STAT_BUSY = true))
    (put [(P.log, F.LOG_EXP_STAT_BUSY, 1)]) (true) := by decide +kernel
theorem witness_bbCtrl : (fun (s : State) (who : By) (kind arg : Nat) => (MayWrite s who P.mgmt 0x078) ∧ (kind = 2 ∨ kind = 3) ∧ (s.ao.writing = none))
    ({}) (⟨4, 0⟩) (2) (9) := by
  refine ⟨⟨by decide +kernel, by decide +kernel, by decide +kernel, by decide +kernel, by decide +kernel, by decide +kernel⟩, by decide +kernel, by decide +kernel⟩
theorem witness_blackBoxWritten : (fun (s : State) (k a : Nat) => (s.ao.writing = some (k, a)) ∧ (s.node.rails = true))
    ({ put [] with ao := { writing := some (2, 9) } }) (2) (9) := by decide +kernel
theorem witness_isolateRecordWritten : (fun (s : State) => (s.alive = true) ∧ (s.st = NS.isolate) ∧ (s.node.isoRecord = true))
    ({ put [nst NS.isolate] with node := { isoRecord := true } }) := by decide +kernel
theorem witness_bootRomStart : (fun (s : State) (b ea eb : Bool) => (s.node.inReset = true) ∧ (s.node.rails = true) ∧ (s.node.rstLow = false) ∧ (s.ao.valid = true))
    (State.reset) (false) (false) (false) := by decide +kernel
theorem witness_bootGood : (fun (s : State) (who : By) (key : Nat) => (MayWrite s who P.mgmt 0x04C))
    ({}) (⟨4, 0⟩) (0x4247) := by
  refine ⟨by decide +kernel, by decide +kernel, by decide +kernel, by decide +kernel, by decide +kernel, by decide +kernel⟩
theorem witness_dawnReq : (fun (s : State) (who : By) (key : Nat) => (MayWrite s who P.mgmt 0x054))
    ({}) (⟨4, 0⟩) (0x4457) := by
  refine ⟨by decide +kernel, by decide +kernel, by decide +kernel, by decide +kernel, by decide +kernel, by decide +kernel⟩
theorem witness_registerWrite : (fun (s : State) (who : By) (page off w : Nat) => (s.alive = true) ∧ (onFieldDie page = true) ∧ (who.ini ≠ 8))
    ({}) (⟨0, 0⟩) (0x0A0) (0x008) (1) := by decide +kernel
theorem witness_registerWrite_store : (fun (s : State) (who : By) (w : Nat) => (MayWrite s who P.sens 0x060))
    ({}) (⟨0, 0⟩) (100) := by
  refine ⟨by decide +kernel, by decide +kernel, by decide +kernel, by decide +kernel, by decide +kernel, by decide +kernel⟩
theorem witness_fieldPageAccessDone : (fun (s : State) (who : By) (page off w : Nat) => (s.alive = true) ∧ (onFieldDie page = true) ∧ (who.ini ≠ 5) ∧ (s.stitch.down = false) ∧ (s.stitch.access = [(who.ini, page, off, some w)]))
    ({ stitch := { access := [(0, 0x0A0, 0x008, some 1)] } }) (⟨0, 0⟩) (0x0A0) (0x008) (1) := by decide +kernel
theorem witness_pageStop : (fun (s : State) (who : By) (b : Bool) => (MayWrite s who P.drift 0x008))
    ({}) (⟨0, 0⟩) (true) := by
  refine ⟨by decide +kernel, by decide +kernel, by decide +kernel, by decide +kernel, by decide +kernel, by decide +kernel⟩
theorem witness_blockStopped : (fun (s : State) (page : Nat) => (s.alive = true) ∧ (pageStops page = true) ∧ (toldToStop s page = true) ∧ (s.stopped page = false) ∧ (safePoint s page = true) ∧ (pageType page = some .lane → laneState s (page - 8) ≠ LS.off))
    (put [(P.xfer, F.HDR_PAGE_CTRL_STOP, 1)]) (P.xfer) := by decide +kernel
theorem witness_blockStopped_lane : (fun (s : State) (page : Nat) => s.alive = true ∧ pageStops page = true ∧
      toldToStop s page = true ∧ s.stopped page = false ∧ safePoint s page = true ∧ pageType page = some .lane ∧
      laneState s (page - 8) ≠ LS.off)
    (put [(P.lane 1, F.HDR_PAGE_CTRL_STOP, 1), (P.lane 1, F.HDR_PAGE_STAT_STOPPED, 0), up 1]) (P.lane 1) := by decide +kernel
theorem witness_evForce : (fun (s : State) (who : By) => (MayWrite s who P.switch 0x018) ∧ (s.bit P.switch F.HDR_EV_MASK_EN 0 = false))
    ({}) (⟨0, 0⟩) := by
  refine ⟨⟨by decide +kernel, by decide +kernel, by decide +kernel, by decide +kernel, by decide +kernel, by decide +kernel⟩, by decide +kernel⟩
theorem witness_commitDiscard : (fun (s : State) (who : By) => (MayWrite s who P.time 0x034))
    ({}) (⟨0, 0⟩) := by
  refine ⟨by decide +kernel, by decide +kernel, by decide +kernel, by decide +kernel, by decide +kernel, by decide +kernel⟩
theorem witness_cntClear : (fun (s : State) (who : By) => (MayWrite s who P.time 0x128))
    ({}) (⟨0, 0⟩) := by
  refine ⟨by decide +kernel, by decide +kernel, by decide +kernel, by decide +kernel, by decide +kernel, by decide +kernel⟩
theorem witness_coreDone : (fun (s : State) (who : By) (m : Nat) => (MayWrite s who P.time 0x068) ∧ (who.ini ≤ 3) ∧ (m < 16) ∧ (bitOf m who.ini = true) ∧ (s.time.pastC = false) ∧ (s.now < commitAt s))
    ({}) (⟨2, 0⟩) (4) := by
  refine ⟨⟨by decide +kernel, by decide +kernel, by decide +kernel, by decide +kernel, by decide +kernel, by decide +kernel⟩, by decide +kernel, by decide +kernel, by decide +kernel, by decide +kernel, by decide +kernel⟩
theorem witness_cmdGo : (fun (s : State) (who : By) => (MayWrite s who P.time 0x0D4) ∧ (s.role = 1 ∧ s.time.src.orig = true) ∧ (s.tick + 1 + s.rd P.time F.TIME_CMD_LEAD_LEAD ≤ s.rd64 P.time F.TIME_CMD_EFF_LO_E F.TIME_CMD_EFF_HI_E) ∧ (∀ k < 4, (s.time.slots.getD k {}).code = 0) ∧ (16 ≤ s.rd P.time F.TIME_CMD_CODE_CODE ∧ s.rd P.time F.TIME_CMD_CODE_CODE < 32))
    ({ put [(P.node, F.NODE_NODE_STATE_ROLE, 1), (P.time, F.TIME_CMD_CODE_CODE, 16), (P.time, F.TIME_CMD_EFF_LO_E, 900)] with time := { src := { orig := true } } }) (⟨4, 0⟩) := by
  refine ⟨⟨by decide +kernel, by decide +kernel, by decide +kernel, by decide +kernel, by decide +kernel, by decide +kernel⟩, by decide +kernel, by decide +kernel, by decide +kernel, by decide +kernel⟩
theorem witness_lineReq : (fun (s : State) (who : By) (v : Nat) => (MayWrite s who P.time 0x0DC) ∧ (s.role = 1 ∧ s.time.src.orig = true) ∧ (∀ k < 4, (s.time.slots.getD k {}).code = 0) ∧ (v < 3))
    ({ put [(P.node, F.NODE_NODE_STATE_ROLE, 1)] with time := { src := { orig := true } } }) (⟨4, 0⟩) (2) := by
  refine ⟨⟨by decide +kernel, by decide +kernel, by decide +kernel, by decide +kernel, by decide +kernel, by decide +kernel⟩, by decide +kernel, by decide +kernel, by decide +kernel⟩
theorem witness_entrySel : (fun (s : State) (who : By) (g x : Nat) => (MayWrite s who P.halo 0x058) ∧ (g < 2) ∧ (x < 4096))
    ({}) (⟨4, 0⟩) (1) (77) := by
  refine ⟨⟨by decide +kernel, by decide +kernel, by decide +kernel, by decide +kernel, by decide +kernel, by decide +kernel⟩, by decide +kernel, by decide +kernel⟩
theorem witness_pubReady : (fun (s : State) (who : By) (hi : Bool) (m c : Nat) => (MayWrite s who P.pub (if hi then 0x048 else 0x044)) ∧ (c < 32) ∧ (m < 2 ^ 32) ∧ (bitOf m c = true))
    ({}) (⟨0, 0⟩) (true) (5) (2) := by
  refine ⟨⟨by decide +kernel, by decide +kernel, by decide +kernel, by decide +kernel, by decide +kernel, by decide +kernel⟩, by decide +kernel, by decide +kernel, by decide +kernel⟩
theorem witness_orphPop : (fun (s : State) (who : By) => (MayWrite s who P.txn 0x0BC))
    ({}) (⟨0, 0⟩) := by
  refine ⟨by decide +kernel, by decide +kernel, by decide +kernel, by decide +kernel, by decide +kernel, by decide +kernel⟩
theorem witness_evout : (fun (s : State) (who : By) (d k v : Nat) => (MayWrite s who P.txn 0x058) ∧ (d < 4096) ∧ (k < 16) ∧ (v < 65536) ∧ (s.ownValid = true ∧ s.own = d))
    (put (addr 9)) (⟨0, 0⟩) (9) (3) (500) := by
  refine ⟨⟨by decide +kernel, by decide +kernel, by decide +kernel, by decide +kernel, by decide +kernel, by decide +kernel⟩, by decide +kernel, by decide +kernel, by decide +kernel, by decide +kernel⟩
theorem witness_complete : (fun (s : State) (k : Nat) (who : By) (n : Nat) => (MayWrite s who P.ev3 (0x044 + 8 * k)) ∧ (k < 5) ∧ (n < 512))
    ({}) (2) (⟨2, 0⟩) (77) := by
  refine ⟨⟨by decide +kernel, by decide +kernel, by decide +kernel, by decide +kernel, by decide +kernel, by decide +kernel⟩, by decide +kernel, by decide +kernel⟩
theorem witness_swevSet : (fun (s : State) (who : By) (m i : Nat) => (MayWrite s who P.ev3 0x074) ∧ (i < 24) ∧ (bitOf m i = true))
    ({}) (⟨2, 0⟩) (5) (2) := by
  refine ⟨⟨by decide +kernel, by decide +kernel, by decide +kernel, by decide +kernel, by decide +kernel, by decide +kernel⟩, by decide +kernel, by decide +kernel⟩
theorem witness_pop : (fun (s : State) (q : Nat) (who : By) (x : QItem) => (MayWrite s who (P.queue q) (0x114 + 0x40 * (q % 16))) ∧ (112 ≤ q ∧ q < 1024) ∧ (who.ini < 8 ∧ who.ini = s.rd (P.queue q) (F.QUEUE_Q_CFG_CONSUMER (q % 16))) ∧ (s.ses.loop = []) ∧ ((s.ses.frozen && qType s q == 3) = false) ∧ ((QSt.head { queueSt s q with last := none }) = some x))
    ({ put [(P.queue 112, F.QUEUE_Q_CFG_TYPE 0, 2), (P.queue 112, F.QUEUE_Q_CFG_CONSUMER 0, 0)] with ses := { qs := [(112, { items := [{ arr := 5, prio := 1, src := 7, tag := 0, info := 0, mayDup := false, head := [], data := [1, 2], n := 1, fin := 1 }] })] } }) (112) (⟨0, 0⟩) ({ arr := 5, prio := 1, src := 7, tag := 0, info := 0, mayDup := false, head := [], data := [1, 2], n := 1, fin := 1 }) := by
  refine ⟨⟨by decide +kernel, by decide +kernel, by decide +kernel, by decide +kernel, by decide +kernel, by decide +kernel⟩, by decide +kernel, by decide +kernel, by decide +kernel, by decide +kernel⟩
theorem witness_pop_empty : (fun (s : State) (q : Nat) (who : By) => (MayWrite s who (P.queue q) (0x114 + 0x40 * (q % 16))) ∧ (112 ≤ q ∧ q < 1024) ∧ (who.ini < 8 ∧ who.ini = s.rd (P.queue q) (F.QUEUE_Q_CFG_CONSUMER (q % 16))) ∧ (s.ses.loop = []) ∧ ((s.ses.frozen && qType s q == 3) = false) ∧ ((queueSt s q).items = []) ∧ ((queueSt s q).cur = none))
    (put [(P.queue 112, F.QUEUE_Q_CFG_TYPE 0, 2), (P.queue 112, F.QUEUE_Q_CFG_CONSUMER 0, 0)]) (112) (⟨0, 0⟩) := by
  refine ⟨⟨by decide +kernel, by decide +kernel, by decide +kernel, by decide +kernel, by decide +kernel, by decide +kernel⟩, by decide +kernel, by decide +kernel, by decide +kernel, by decide +kernel, by decide +kernel⟩
theorem witness_peek : (fun (s : State) (q : Nat) (who : By) (x : QItem) => (MayWrite s who (P.queue q) (0x114 + 0x40 * (q % 16))) ∧ (112 ≤ q ∧ q < 1024) ∧ (who.ini < 8 ∧ who.ini = s.rd (P.queue q) (F.QUEUE_Q_CFG_CONSUMER (q % 16))) ∧ (s.ses.loop = []) ∧ ((s.ses.frozen && qType s q == 3) = false) ∧ ((queueSt s q).head = some x))
    ({ put [(P.queue 112, F.QUEUE_Q_CFG_TYPE 0, 2), (P.queue 112, F.QUEUE_Q_CFG_CONSUMER 0, 0)] with ses := { qs := [(112, { items := [{ arr := 5, prio := 1, src := 7, tag := 0, info := 0, mayDup := false, head := [], data := [1, 2], n := 1, fin := 1 }] })] } }) (112) (⟨0, 0⟩) ({ arr := 5, prio := 1, src := 7, tag := 0, info := 0, mayDup := false, head := [], data := [1, 2], n := 1, fin := 1 }) := by
  refine ⟨⟨by decide +kernel, by decide +kernel, by decide +kernel, by decide +kernel, by decide +kernel, by decide +kernel⟩, by decide +kernel, by decide +kernel, by decide +kernel, by decide +kernel⟩
theorem witness_dropRest : (fun (s : State) (q : Nat) (who : By) (x : QItem) => (MayWrite s who (P.queue q) (0x114 + 0x40 * (q % 16))) ∧ (112 ≤ q ∧ q < 1024) ∧ (who.ini < 8 ∧ who.ini = s.rd (P.queue q) (F.QUEUE_Q_CFG_CONSUMER (q % 16))) ∧ (s.ses.loop = []) ∧ ((s.ses.frozen && qType s q == 3) = false) ∧ ((QSt.head { queueSt s q with last := none }) = some x))
    ({ put [(P.queue 112, F.QUEUE_Q_CFG_TYPE 0, 2), (P.queue 112, F.QUEUE_Q_CFG_CONSUMER 0, 0)] with ses := { qs := [(112, { items := [{ arr := 5, prio := 1, src := 7, tag := 0, info := 0, mayDup := false, head := [], data := [1, 2], n := 1, fin := 1 }] })] } }) (112) (⟨0, 0⟩) ({ arr := 5, prio := 1, src := 7, tag := 0, info := 0, mayDup := false, head := [], data := [1, 2], n := 1, fin := 1 }) := by
  refine ⟨⟨by decide +kernel, by decide +kernel, by decide +kernel, by decide +kernel, by decide +kernel, by decide +kernel⟩, by decide +kernel, by decide +kernel, by decide +kernel, by decide +kernel⟩
theorem witness_mark : (fun (s : State) (q : Nat) (who : By) => (MayWrite s who (P.queue q) (0x114 + 0x40 * (q % 16))) ∧ (112 ≤ q ∧ q < 1024) ∧ (who.ini < 8 ∧ who.ini = s.rd (P.queue q) (F.QUEUE_Q_CFG_CONSUMER (q % 16))) ∧ (s.ses.loop = []) ∧ ((s.ses.frozen && qType s q == 3) = false))
    ({ put [(P.queue 112, F.QUEUE_Q_CFG_TYPE 0, 2), (P.queue 112, F.QUEUE_Q_CFG_CONSUMER 0, 0)] with ses := { qs := [(112, { items := [{ arr := 5, prio := 1, src := 7, tag := 0, info := 0, mayDup := false, head := [], data := [1, 2], n := 1, fin := 1 }] })] } }) (112) (⟨0, 0⟩) := by
  refine ⟨⟨by decide +kernel, by decide +kernel, by decide +kernel, by decide +kernel, by decide +kernel, by decide +kernel⟩, by decide +kernel, by decide +kernel, by decide +kernel⟩
theorem witness_markClear : (fun (s : State) (q : Nat) (who : By) => (MayWrite s who (P.queue q) (0x114 + 0x40 * (q % 16))) ∧ (112 ≤ q ∧ q < 1024) ∧ (who.ini < 8 ∧ who.ini = s.rd (P.queue q) (F.QUEUE_Q_CFG_CONSUMER (q % 16))) ∧ (s.ses.loop = []) ∧ ((s.ses.frozen && qType s q == 3) = false))
    ({ put [(P.queue 112, F.QUEUE_Q_CFG_TYPE 0, 2), (P.queue 112, F.QUEUE_Q_CFG_CONSUMER 0, 0)] with ses := { qs := [(112, { items := [{ arr := 5, prio := 1, src := 7, tag := 0, info := 0, mayDup := false, head := [], data := [1, 2], n := 1, fin := 1 }], mark := some (5, 0) })] } }) (112) (⟨0, 0⟩) := by
  refine ⟨⟨by decide +kernel, by decide +kernel, by decide +kernel, by decide +kernel, by decide +kernel, by decide +kernel⟩, by decide +kernel, by decide +kernel, by decide +kernel⟩
theorem witness_rewind : (fun (s : State) (q : Nat) (who : By) => (MayWrite s who (P.queue q) (0x114 + 0x40 * (q % 16))) ∧ (112 ≤ q ∧ q < 1024) ∧ (who.ini < 8 ∧ who.ini = s.rd (P.queue q) (F.QUEUE_Q_CFG_CONSUMER (q % 16))) ∧ (s.ses.loop = []) ∧ ((s.ses.frozen && qType s q == 3) = false))
    ({ put [(P.queue 112, F.QUEUE_Q_CFG_TYPE 0, 2), (P.queue 112, F.QUEUE_Q_CFG_CONSUMER 0, 0)] with ses := { qs := [(112, { items := [{ arr := 5, prio := 1, src := 7, tag := 0, info := 0, mayDup := false, head := [], data := [1, 2], n := 1, fin := 1 }], mark := some (5, 0) })] } }) (112) (⟨0, 0⟩) := by
  refine ⟨⟨by decide +kernel, by decide +kernel, by decide +kernel, by decide +kernel, by decide +kernel, by decide +kernel⟩, by decide +kernel, by decide +kernel, by decide +kernel⟩
theorem witness_flush : (fun (s : State) (q : Nat) (who : By) => (MayWrite s who (P.queue q) (0x114 + 0x40 * (q % 16))) ∧ (112 ≤ q ∧ q < 1024) ∧ (who.ini < 8 ∧ who.ini = s.rd (P.queue q) (F.QUEUE_Q_CFG_CONSUMER (q % 16))) ∧ (s.ses.loop = []) ∧ ((s.ses.frozen && qType s q == 3) = false))
    ({ put [(P.queue 112, F.QUEUE_Q_CFG_TYPE 0, 2), (P.queue 112, F.QUEUE_Q_CFG_CONSUMER 0, 0)] with ses := { qs := [(112, { items := [{ arr := 5, prio := 1, src := 7, tag := 0, info := 0, mayDup := false, head := [], data := [1, 2], n := 1, fin := 1 }] })] } }) (112) (⟨0, 0⟩) := by
  refine ⟨⟨by decide +kernel, by decide +kernel, by decide +kernel, by decide +kernel, by decide +kernel, by decide +kernel⟩, by decide +kernel, by decide +kernel, by decide +kernel⟩
theorem witness_push : (fun (s : State) (who : By) (k len : Nat) => (MayWrite s who P.sestx 0x044) ∧ (who.ini < 8) ∧ (k < 256) ∧ (len < 4096))
    ({}) (⟨0, 0⟩) (3) (10) := by
  refine ⟨⟨by decide +kernel, by decide +kernel, by decide +kernel, by decide +kernel, by decide +kernel, by decide +kernel⟩, by decide +kernel, by decide +kernel, by decide +kernel⟩
theorem witness_sesEnable : (fun (s : State) (who : By) (r d : Nat) => (MayWrite s who P.sestx 0x094) ∧ (r < 256) ∧ (d < 4096) ∧ (s.rd P.sestx F.SESTX_SES_SEL_SESSION < 256) ∧ (s.tx F.SESTX_SES_CFG_EN (s.rd P.sestx F.SESTX_SES_SEL_SESSION) = 0) ∧ (s.ses.loop = []))
    (put [nst NS.commission]) (⟨0, 0⟩) (5) (9) := by
  refine ⟨⟨by decide +kernel, by decide +kernel, by decide +kernel, by decide +kernel, by decide +kernel, by decide +kernel⟩, by decide +kernel, by decide +kernel, by decide +kernel, by decide +kernel, by decide +kernel⟩
theorem witness_sesDisable : (fun (s : State) (who : By) => (MayWrite s who P.sestx 0x094) ∧ (s.rd P.sestx F.SESTX_SES_SEL_SESSION < 256) ∧ (s.tx F.SESTX_SES_CFG_EN (s.rd P.sestx F.SESTX_SES_SEL_SESSION) = 1))
    ({ put [nst NS.commission] with regs := [(⟨P.sestx, 0x094, 31, 0⟩, 1), (⟨P.node, F.NODE_NODE_STATE_STATE.off, F.NODE_NODE_STATE_STATE.lsb, 0⟩, NS.commission)].reverse }) (⟨0, 0⟩) := by
  refine ⟨⟨by decide +kernel, by decide +kernel, by decide +kernel, by decide +kernel, by decide +kernel, by decide +kernel⟩, by decide +kernel, by decide +kernel⟩
theorem witness_stall : (fun (s : State) (k : Nat) => (s.alive = true) ∧ (k < 256) ∧ (s.sessionsRun = true) ∧ (s.tx F.SESTX_SES_CFG_EN k = 1) ∧ ((txSes s k).ackTick + stallOf s k ≤ s.ticks) ∧ ((txSes s k).ret ≠ [] ∨ s.tx F.SESTX_SES_STAT_STATE k = 1) ∧ (s.tx F.SESTX_SES_STAT_STALLED k = 0))
    ({ put [nst NS.run] ((({} : State).wri P.sestx F.SESTX_SES_CFG_EN 2 1).wri P.sestx F.SESTX_SES_STAT_STATE 2 1) with time := { ticks := 99999 } }) (2) := by decide +kernel
theorem witness_rtoExpiry : (fun (s : State) (k : Nat) => (s.alive = true) ∧ (k < 256) ∧ (s.sessionsRun = true) ∧ (s.tx F.SESTX_SES_CFG_EN k = 1) ∧ ((txSes s k).rtoDue ≤ s.ticks) ∧ (s.tx F.SESTX_SES_STAT_STATE k = 1) ∧ (s.holdDone = true) ∧ (s.ses.loop = []) ∧ (s.ses.frozen = false) ∧ (isOwn s (s.tx F.SESTX_SES_CFG_DST k) = false))
    (put [nst NS.run, (P.halo, F.HALO_JOIN_STAT_HOLD_DONE, 1), (P.node, F.NODE_NODE_ADDR_ADDR, 9)] ((({} : State).wri P.sestx F.SESTX_SES_CFG_EN 2 1).wri P.sestx F.SESTX_SES_STAT_STATE 2 1)) (2) := by decide +kernel
theorem witness_ack : (fun (s : State) (f : Frame) (k : Nat) => (s.alive = true) ∧ (s.sessionsRun = true) ∧ (f.typ = 6) ∧ (s.ses.loop = []) ∧ (k = f.w4 / 2 ^ 24 % 256) ∧ (s.tx F.SESTX_SES_CFG_EN k = 1 ∧ f.src = s.tx F.SESTX_SES_CFG_DST k ∧ f.w4 / 2 ^ 16 % 256 = s.tx F.SESTX_SES_CFG_RSID k) ∧ (s.tx F.SESTX_SES_STAT_FRESH k = 1) ∧ (s.tx F.SESTX_SES_STAT_STATE k = 1 ∨ bitOf f.w5 30 = true))
    (put [nst NS.run] (((({} : State).wri P.sestx F.SESTX_SES_CFG_EN 2 1).wri P.sestx F.SESTX_SES_STAT_FRESH 2 1).wri P.sestx F.SESTX_SES_STAT_STATE 2 1)) ({ typ := 6, w4 := 0x2000005, pay := [0, 0, 0, 9] }) (2) := by decide +kernel
theorem witness_rsesEnable : (fun (s : State) (who : By) (p x a : Nat) => (MayWrite s who P.sesrx 0x044) ∧ (p < 8) ∧ (x < 256) ∧ (a < 4096) ∧ (s.rd P.sesrx F.SESRX_RSES_SEL_SESSION < 256) ∧ (s.rx F.SESRX_RSES_CFG_EN (s.rd P.sesrx F.SESRX_RSES_SEL_SESSION) = 0) ∧ (rsesMayEnable s (s.rd P.sesrx F.SESRX_RSES_SEL_SESSION) = true))
    (put [nst NS.commission]) (⟨0, 0⟩) (3) (5) (9) := by
  refine ⟨⟨by decide +kernel, by decide +kernel, by decide +kernel, by decide +kernel, by decide +kernel, by decide +kernel⟩, by decide +kernel, by decide +kernel, by decide +kernel, by decide +kernel, by decide +kernel, by decide +kernel⟩
theorem witness_rsesDisable : (fun (s : State) (who : By) => (MayWrite s who P.sesrx 0x044) ∧ (s.rd P.sesrx F.SESRX_RSES_SEL_SESSION < 256) ∧ (s.rx F.SESRX_RSES_CFG_EN (s.rd P.sesrx F.SESRX_RSES_SEL_SESSION) = 1))
    (put [nst NS.commission] (({} : State).wri P.sesrx F.SESRX_RSES_CFG_EN 0 1)) (⟨0, 0⟩) := by
  refine ⟨⟨by decide +kernel, by decide +kernel, by decide +kernel, by decide +kernel, by decide +kernel, by decide +kernel⟩, by decide +kernel, by decide +kernel⟩
theorem witness_msg : (fun (s : State) (f : Frame) (r : Nat) => (s.alive = true) ∧ (s.sessionsRun = true) ∧ (f.typ = 5) ∧ (s.ses.frozen = false) ∧ (s.ses.loop = []) ∧ (r = f.w4 / 2 ^ 16 % 256) ∧ (s.rx F.SESRX_RSES_CFG_EN r = 0))
    (put [nst NS.run]) ({ typ := 5, w4 := 0x2030001 }) (3) := by decide +kernel
theorem witness_msg_next : (fun (s : State) (f : Frame) (r : Nat) => (s.alive = true) ∧ (s.sessionsRun = true) ∧ (f.typ = 5) ∧ (s.ses.frozen = false) ∧ (s.ses.loop = []) ∧ (r = f.w4 / 2 ^ 16 % 256) ∧ (s.rx F.SESRX_RSES_CFG_EN r = 1 ∧ f.src = s.rx F.SESRX_RSES_CFG_SRC r ∧ f.w4 / 2 ^ 24 % 256 = s.rx F.SESRX_RSES_CFG_SSID r) ∧ ((rxSes s r).taken = true) ∧ (bitOf f.w5 31 = false) ∧ (f.w3 % 2 ^ 32 = s.rx F.SESRX_RSES_NEXT_MSEQ r) ∧ ((qAdmit s (rsesQueue s r) (s.rx F.SESRX_RSES_CFG_PRIO r) f.src r (f.w3 % 2 ^ 32) false (headBytes f) f.pay).1 = true ∧ (qAdmit s (rsesQueue s r) (s.rx F.SESRX_RSES_CFG_PRIO r) f.src r (f.w3 % 2 ^ 32) true (headBytes f) f.pay).1 = true) ∧ (isOwn s (s.rx F.SESRX_RSES_CFG_SRC r) = false))
    (put [nst NS.run, (P.queue 112, F.QUEUE_Q_CFG_TYPE 0, 3), (P.node, F.NODE_NODE_ADDR_ADDR, 9)] { ((({} : State).wri P.sesrx F.SESRX_RSES_CFG_EN 3 1).wri P.sesrx F.SESRX_RSES_CFG_SSID 3 2) with ses := { rx := [(3, { taken := true })] } }) ({ typ := 5, w4 := 0x2030001 }) (3) := by decide +kernel
theorem witness_ackSend : (fun (s : State) (r d : Nat) => (s.alive = true) ∧ (s.sessionsRun = true) ∧ (s.holdDone = true) ∧ (s.ses.frozen = false) ∧ (s.ses.loop = []) ∧ (((List.range 256).all fun x => !isOwn s (s.rx F.SESRX_RSES_CFG_SRC x)) = true) ∧ (r < 256) ∧ ((rxSes s r).due = some d) ∧ (d < s.ticks) ∧ (s.rx F.SESRX_RSES_CFG_EN r = 1) ∧ (s.on P.ecl F.ECLIPSE_ECL_CFG_EV_EN = false))
    (put [nst NS.run, (P.halo, F.HALO_JOIN_STAT_HOLD_DONE, 1), (P.node, F.NODE_NODE_ADDR_ADDR, 9)] { (({} : State).wri P.sesrx F.SESRX_RSES_CFG_EN 3 1) with ses := { rx := [(3, { due := some 1 })] }, time := { ticks := 5 } }) (3) (1) := by decide +kernel
theorem witness_freshAckRepeat : (fun (s : State) (r : Nat) => (s.alive = true) ∧ (r < 256) ∧ (s.sessionsRun = true) ∧ (s.holdDone = true) ∧ (s.ses.frozen = false) ∧ (s.ses.loop = []) ∧ (isOwn s (s.rx F.SESRX_RSES_CFG_SRC r) = false) ∧ (s.rx F.SESRX_RSES_CFG_EN r = 1) ∧ (s.rx F.SESRX_RSES_STAT_NO_HISTORY r = 1) ∧ ((rxSes s r).taken = false) ∧ ((rxSes s r).freshDue ≤ s.ticks))
    (put [nst NS.run, (P.halo, F.HALO_JOIN_STAT_HOLD_DONE, 1), (P.node, F.NODE_NODE_ADDR_ADDR, 9)] ((({} : State).wri P.sesrx F.SESRX_RSES_CFG_EN 3 1).wri P.sesrx F.SESRX_RSES_STAT_NO_HISTORY 3 1)) (3) := by decide +kernel
theorem witness_signalDetect : (fun (s : State) (i : Nat) => (lanesOn s = true) ∧ (i < 4) ∧ (laneState s i = LS.signal))
    (put [(P.lane 1, F.LANE_LANE_STAT_STATE, 1)]) (1) := by decide +kernel
theorem witness_blockLock : (fun (s : State) (i : Nat) (b : Bool) => (lanesOn s = true) ∧ (i < 4) ∧ (laneState s i = LS.lock) ∧ (b = true → s.on (P.lane i) F.LANE_LANE_CFG_RX_AUTO_INV = true))
    (put [(P.lane 1, F.LANE_LANE_STAT_STATE, 2)]) (1) (true) := by decide +kernel
theorem witness_blockLock_tap : (fun (s : State) (i : Nat) (b : Bool) => lanesOn s = true ∧ i < 4 ∧ laneState s i = LS.lock ∧
      (b = true → s.on (P.lane i) F.LANE_LANE_CFG_RX_AUTO_INV = true) ∧ tapLane s i = true)
    (put [(P.lane 3, F.LANE_LANE_STAT_STATE, 2), (P.pd 0, F.PD_PD_STAT_TAP, 1)]) (3) (true) := by decide +kernel
theorem witness_lockTimeout : (fun (s : State) (i : Nat) => (lanesOn s = true) ∧ (i < 4) ∧ (laneState s i = LS.lock))
    (put [(P.lane 1, F.LANE_LANE_STAT_STATE, 2)]) (1) := by decide +kernel
theorem witness_signalTimeout : (fun (s : State) (i : Nat) => (lanesOn s = true) ∧ (i < 4) ∧ (laneState s i = LS.signal) ∧ ((s.lane i).noSigSaid = false))
    (put [(P.lane 1, F.LANE_LANE_STAT_STATE, 1)]) (1) := by decide +kernel
theorem witness_helloTimeout : (fun (s : State) (i : Nat) => (lanesOn s = true) ∧ (i < 4) ∧ (laneState s i = LS.hello) ∧ ((s.lane i).heard = false))
    (put [(P.lane 1, F.LANE_LANE_STAT_STATE, 3)]) (1) := by decide +kernel
theorem witness_laneDown : (fun (s : State) (i c : Nat) => (lanesOn s = true) ∧ (i < 4) ∧ (laneUp s i = true) ∧ (1 ≤ c ∧ c ≤ 3))
    (put [up 1, (P.lane 1, F.LANE_LANE_CFG_FLAP_MAX, 0)]) (1) (2) := by decide +kernel
theorem witness_flapHoldEnd : (fun (s : State) (i x : Nat) => (lanesOn s = true) ∧ (i < 4) ∧ (laneState s i = LS.hold) ∧ ((s.lane i).downs.foldl max 0 + flapHold s i ≤ s.upAt x))
    (put [(P.lane 1, F.LANE_LANE_STAT_STATE, 6)]) (1) (100000000000) := by decide +kernel
theorem witness_helloSend : (fun (s : State) (i : Nat) => (lanesOn s = true) ∧ (i < 4) ∧ (laneState s i = LS.hello ∨ laneState s i = LS.fault))
    (put [(P.lane 1, F.LANE_LANE_STAT_STATE, 3)]) (1) := by decide +kernel
theorem witness_hello : (fun (s : State) (i : Nat) (f : Frame) => (lanesOn s = true) ∧ (i < 4) ∧ (laneState s i = LS.hello) ∧ (tapLane s i = false) ∧ (f.typ = 0xD ∧ frameSub f = 1) ∧ ((s.lane i).over200 = false) ∧ (bitOf (beAt f.pay 8 4) 30 = true) ∧ (helloFault s i (beAt f.pay 0 8) (bitsOf (beAt f.pay 8 4) 26 2) (bitsOf (beAt f.pay 8 4) 24 2) = none))
    (put [(P.lane 0, F.LANE_LANE_STAT_STATE, 3)]) (0) ({ typ := 13, cls := 7, w4 := 0x1000000, pay := [0,0,0,0,0,0,0,9, 0x44,0,0,0, 0,0,0,0] }) := by decide +kernel
theorem witness_ppmWindow : (fun (s : State) (i : Nat) (x : Int) => (lanesOn s = true) ∧ (i < 4) ∧ (-32768 ≤ x ∧ x < 32768))
    (put [up 0]) (0) (-16000) := by decide +kernel
theorem witness_crcWindow : (fun (s : State) (i : Nat) => (lanesOn s = true) ∧ (i < 4))
    ({ put [up 0] with lanes := [(0, { crcWin := 5000 })] }) (0) := by decide +kernel
theorem witness_neighbourSend : (fun (s : State) (x : Nat) => (s.alive = true) ∧ (s.mayInsert = true) ∧ (s.role ≠ 3) ∧ (s.reversed = false) ∧ (laneUp s 0 = true ∧ laneUp s 1 = false) ∧ (s.sw.offers = []) ∧ (portDown s 0 = false) ∧ (admits s (outQueue 0 6) 1 = 1))
    (put [nst NS.run, up 0]) (500) := by decide +kernel
theorem witness_neighbour : (fun (s : State) (i : Nat) (f : Frame) => (s.alive = true) ∧ (i < 4) ∧ (ringLane s i = true) ∧ (laneUp s i = true) ∧ (f.typ = 0xB ∧ frameSub f = 1))
    (put [nst NS.run, up 0]) (0) ({ typ := 11, cls := 6, w4 := 0x1000000, pay := [0x41, 0, 0, 0] }) := by decide +kernel
theorem witness_neighbourMissed : (fun (s : State) (i : Nat) => (s.alive = true) ∧ (i < 4) ∧ (s.rd (P.lane i) F.LANE_LANE_STAT_SUP_MISSED = 3))
    (put [nst NS.run, up 0, (P.lane 0, F.LANE_LANE_STAT_SUP_MISSED, 3), (P.lane 0, F.LANE_LANE_STAT_NBR_PRESENT, 1)]) (0) := by decide +kernel
theorem witness_ringFrameReceived : (fun (s : State) (i : Nat) (f : Frame) (ln : LineIn) (x : Nat) => (ln.head = 0) ∧ (lanesOn s = true) ∧ (i < 4) ∧ (laneUp s i = true) ∧ (ringLane s i = true) ∧ (tapOn s = false) ∧ ((s.lane i).rx = none) ∧ ((s.lane i).tun = none) ∧ (headerOk f = true) ∧ (haloChecked f = true) ∧ (ownCommand f = false) ∧ (isOwn s f.src = false) ∧ (crossedBack s i f = false) ∧ (haloGroup f.cls = 0) ∧ (haloEnt s f.src 0 = {}))
    (put [nst NS.run, up 0]) (0) ({ typ := 8, cls := 6, reach := 4, src := 7, dst := 9, seq := 100 }) ({}) (500) := by decide +kernel
theorem witness_ringFrameReceived_hcrc : (fun (s : State) (i : Nat) (f : Frame) (ln : LineIn) (x : Nat) => (ln.head = 2) ∧ (lanesOn s = true) ∧ (i < 4) ∧ (laneJudges s i = true))
    (put [nst NS.run, up 0]) (0) ({ typ := 8, cls := 6, reach := 4 }) ({ head := 2, pcs := 1 }) (500) := by decide +kernel
theorem witness_haloEntryAged : (fun (s : State) (a g x : Nat) => (lanesOn s = true) ∧ (a < 4096) ∧ (g < 2) ∧ ((haloEnt s a g).valid = true) ∧ ((haloEnt s a g).touch + haloAge s ≤ s.upAt x))
    ({ ({} : State) with halo := { ents := [(14, { valid := true, base := 3 })] } }) (7) (0) (100000000000) := by decide +kernel
theorem witness_announce : (fun (s : State) (i : Nat) (f : Frame) (x : Nat) => (lanesOn s = true) ∧ (i < 4) ∧ (laneUp s i = true) ∧ (ringLane s i = true) ∧ (f.typ = 0xB ∧ frameSub f = 2) ∧ (isOwn s f.src = false) ∧ (crossedBack s i f = false) ∧ (s.halo.incs.at 0 f.src ≠ beAt f.pay 12 4 % 65536 + 1))
    (put [nst NS.run, up 0]) (0) ({ typ := 11, cls := 6, reach := 4, mc := true, dst := 1, src := 7, w4 := 0x2000000, pay := [0,0,0,0,0,0,0,9, 0,0,0,0, 0,0,0,5] }) (500) := by decide +kernel
theorem witness_holdDone : (fun (s : State) (x : Nat) => (s.alive = true) ∧ (s.on P.halo F.HALO_JOIN_STAT_ANNOUNCED = true) ∧ (s.holdDone = false) ∧ (s.halo.withdrawn = false) ∧ (s.halo.announcedAt + announceWait s ≤ s.upAt x))
    (put [nst NS.run, (P.halo, F.HALO_JOIN_STAT_ANNOUNCED, 1)]) (100000000) := by decide +kernel
theorem witness_change : (fun (s : State) (f : Frame) => (s.alive = true) ∧ (deliversLocal s = true) ∧ (f.typ = 0xB ∧ frameSub f = 3) ∧ (bitsOf (beAt f.pay 0 4) 28 4 = 1 ∨ bitsOf (beAt f.pay 0 4) 28 4 = 2) ∧ (isOwn s (bitsOf (beAt f.pay 0 4) 16 12) = false))
    (put [nst NS.run]) ({ typ := 11, cls := 6, w4 := 0x3000000, pay := [0x20, 0x07, 0, 0] }) := by decide +kernel
theorem witness_statusSend : (fun (s : State) => (s.alive = true) ∧ (s.mayInsert = true) ∧ (s.ownValid = true) ∧ (s.on P.time F.TIME_ZENITH_VALID = true) ∧ (s.halo.statusAt + statusPeriod s ≤ s.ticks))
    ({ put ([nst NS.run, (P.time, F.TIME_ZENITH_VALID, 1)] ++ addr 5) with time := { ticks := 70000 } }) := by decide +kernel
theorem witness_duplicate : (fun (s : State) (f : Frame) => (s.alive = true) ∧ (f.typ = 0xB ∧ frameSub f = 5) ∧ (beAt f.pay 0 8 = s.otp.uid) ∧ (s.ownValid = true))
    (put ([nst NS.run] ++ addr 5)) ({ typ := 11, cls := 6, w4 := 0x5000000, pay := [0,0,0,0,0,0,0,0] }) := by decide +kernel
theorem witness_portDown : (fun (s : State) (p : Nat) => (s.alive = true) ∧ (p < 14) ∧ (portDown s p = true))
    ({ ({} : State) with sw := { queues := [(3, [{ id := 1, frame := {}, cells := 1, ready := true, ingress := 8 }])], occ := [(3, 1)], store := [(1, (1, 1))], used := 1 } }) (0) := by decide +kernel
theorem witness_frameTransmitStart : (fun (s : State) (p x c : Nat) (e : SwEntry) (r : List SwEntry) => (portRuns s p = true) ∧ (portDown s p = false) ∧ (s.stopReq (P.swport p) = false) ∧ (s.sw.sending.at none p = none) ∧ (s.sw.offers = []) ∧ (topClass ((shapeTo (s.atTime x) p x).each 8 fun u c => purgeHead u p c (swQueue u (8 * p + c)).length) p x = some c) ∧ (swQueue ((shapeTo (s.atTime x) p x).each 8 fun u c => purgeHead u p c (swQueue u (8 * p + c)).length) (8 * p + c) = e :: r))
    ({ ({} : State) with sw := { queues := [(108, [{ id := 1, frame := {}, cells := 1, ready := true, ingress := 8 }])] } }) (13) (500) (4) ({ id := 1, frame := {}, cells := 1, ready := true, ingress := 8 }) ([]) := by decide +kernel
theorem witness_frameTransmitEnd : (fun (s : State) (p x : Nat) (e : SwEntry) (c b : Nat) => (portRuns s p = true) ∧ (s.sw.sending.at none p = some (e, c, b)))
    ({ ({} : State) with sw := { sending := [(13, some ({ id := 1, frame := {}, cells := 1, ready := true, ingress := 8 }, 4, 10))] } }) (13) (500) ({ id := 1, frame := {}, cells := 1, ready := true, ingress := 8 }) (4) (10) := by decide +kernel
theorem witness_gateChange : (fun (s : State) (p x : Nat) => (portRuns s p = true) ∧ (p < 8))
    ({}) (3) (500) := by decide +kernel
theorem witness_squallInterval : (fun (s : State) (m : Nat) => (s.alive = true) ∧ (m < 4))
    ({ ({} : State) with sw := { squall := [(2, (4, 5))], sqNext := [(2, 1000000)] } }) (2) := by decide +kernel
theorem witness_cellEccError : (fun (s : State) (i a : Nat) => (s.alive = true) ∧ ((s.sw.store.at (0, 0) i).1 ≠ 0))
    ({ ({} : State) with sw := { queues := [(108, [{ id := 1, frame := {}, cells := 1, ready := true, ingress := 8 }])], occ := [(108, 1)], store := [(1, (1, 1))], used := 1 } }) (1) (64) := by decide +kernel
theorem witness_handoverDone : (fun (s : State) => (s.alive = true) ∧ (s.on P.gw F.GATEWAY_GW_STAT_FAILOVER = true) ∧ (s.txn.failTick + gwSettle s ≤ s.ticks))
    ({ put [(P.gw, F.GATEWAY_GW_STAT_FAILOVER, 1)] with time := { ticks := 100000 } }) := by decide +kernel
theorem witness_channelOffer : (fun (s : State) (c : Nat) (b : List Nat) => (s.alive = true) ∧ (pubOn s = true) ∧ (s.ownValid = true) ∧ (s.on P.halo F.HALO_JOIN_STAT_HOLD_DONE = true) ∧ (s.pub.taken = [(c, b)]))
    ({ put ([nst NS.run, (P.halo, F.HALO_JOIN_STAT_HOLD_DONE, 1)] ++ addr 5) with pub := { taken := [(3, [1, 2])] } }) (3) ([1, 2]) := by decide +kernel
theorem witness_publishReceived : (fun (s : State) (f : Frame) (x i : Nat) => (s.alive = true) ∧ (f.typ = 2 ∧ f.mc = true) ∧ (subRuns s = true) ∧ ((groupPorts s f.dst).contains 10 = true) ∧ (matching s f.src (f.w3 / 2 ^ 26 % 64) = [i]) ∧ (f.w4 % 2 ^ 32 * 65536 + f.tick % 65536 = s.tick % 2 ^ 48) ∧ (f.pay.length = min 256 (s.rd P.sub (F.SUBSCRIBE_SUB_MATCH_LEN i))))
    (put [nst NS.run, (P.sub, F.SUBSCRIBE_SUB_MATCH_EN 0, 1), (P.sub, F.SUBSCRIBE_SUB_MATCH_SRC 0, 7), (P.sub, F.SUBSCRIBE_SUB_MATCH_CHANNEL 0, 3), (P.sub, F.SUBSCRIBE_SUB_MATCH_LEN 0, 2)] ((({} : State).wri P.switch F.SWITCH_GRP_DATA_VALID 5 1).wri P.switch F.SWITCH_GRP_DATA_PORTS 5 1024)) ({ typ := 2, cls := 5, mc := true, dst := 5, src := 7, w3 := 0xC000000, pay := [8, 9] }) (500) (0) := by decide +kernel
theorem witness_xferStart : (fun (s : State) (c : Nat) (b : Bool) => (s.alive = true) ∧ (c < 8) ∧ (s.txn.descs = []) ∧ (chanMayStart s c = true) ∧ (0x10200000 ≤ descAddr s c (s.rd P.xfer (F.XFER_CH_TAIL_IDX c))) ∧ (descAddr s c (s.rd P.xfer (F.XFER_CH_TAIL_IDX c)) + 32 ≤ 0x10400000))
    (put [(P.xfer, F.HDR_PAGE_CTRL_ENABLE, 1), (P.xfer, F.XFER_CH_CFG_EN 2, 1), (P.xfer, F.XFER_CH_CFG_LOG2_SIZE 2, 4), (P.xfer, F.XFER_CH_HEAD_IDX 2, 1), (P.xfer, F.XFER_CH_BASE_LO_ADDR 2, 0x811000)]) (2) (false) := by decide +kernel
theorem witness_xferComplete : (fun (s : State) (c : Nat) (d : XferDesc) => (s.alive = true) ∧ (c < 8) ∧ (s.txn.descs = [(c, [d])]) ∧ (descOver d = true) ∧ (d.evt = false) ∧ (backRefused s c d = false))
    ({ put [(P.xfer, F.XFER_CH_BASE_LO_ADDR 2, 0x818000)] with txn := { descs := [(2, [{ idx := 3, op := 0, irq := true, evt := false, k := 0, value := 0, src := 0, dst := 0, len := 8, next := 8, done := 8 }])] } }) (2) ({ idx := 3, op := 0, irq := true, evt := false, k := 0, value := 0, src := 0, dst := 0, len := 8, next := 8, done := 8 }) := by decide +kernel
theorem witness_feedWindowSettled : (fun (s : State) (x : Nat) => (s.alive = true) ∧ (s.service = true) ∧ (pgMain s = true) ∧ ((s.power.inA.any fun u => decide (u + 10000000 ≤ x)) = true ∨ (s.power.inB.any fun u => decide (u + 10000000 ≤ x)) = true))
    ({ put [nst NS.maint, (P.node, F.NODE_NODE_STATE_POWER, 1), (P.power, F.POWER_MAIN_STAT_PG, 1), (P.power, feedFld 0, 16)] with power := { inA := some 500 } }) (10000500) := by decide +kernel
theorem witness_feedsLost : (fun (s : State) => (s.alive = true) ∧ (s.service = false) ∧ (feedOk s = false) ∧ (s.usb.svc = true))
    ({ put [nst NS.run] with usb := { svc := true } }) := by decide +kernel
theorem witness_activate : (fun (s : State) (c : TickCmd) => (s.alive = true) ∧ (s.time.cmds.find? (fun c => c.code == 5) = some c) ∧ (s.working = true ∨ s.st = NS.join) ∧ (updState s = 2) ∧ (c.arg = 0 ∨ c.arg = s.mgmt.staged.version))
    ({ put [nst NS.run, (P.upd, F.UPDATE_UPD_STAT_STATE, 2)] with time := { cmds := [{ code := 5, eff := 77, arg := 0 }] } }) ({ code := 5, eff := 77, arg := 0 }) := by decide +kernel
theorem witness_remoteLoad : (fun (s : State) (k a n d o i : Nat) (x : HoldSlot) (b : List Nat) => (s.alive = true) ∧ (k < 4) ∧ (coreSize n = true) ∧ (winOf a = some (d, o)) ∧ (a % n = 0) ∧ (isOwn s d = false) ∧ (holdOf s k (winAddr d o) n 0 = some (i, x)) ∧ (x.data = some (b, 0)))
    ({ ({} : State) with txn := { slots := [(0, some { init := 1, addr := 0x103000000, size := 4, op := 0, tag := 0, data := some ([1, 2, 3, 4], 0) })] } }) (1) (0x103000000) (4) (3) (0) (0) ({ init := 1, addr := 0x103000000, size := 4, op := 0, tag := 0, data := some ([1, 2, 3, 4], 0) }) ([1, 2, 3, 4]) := by decide +kernel
theorem witness_remoteStore : (fun (s : State) (k a : Nat) (b : List Nat) (d o : Nat) => (s.alive = true) ∧ (k < 4) ∧ (b.length = 4 ∨ b.length = 8) ∧ (winOf a = some (d, o)) ∧ (a % b.length = 0) ∧ (isOwn s d = false) ∧ (present s d = true) ∧ (s.halo.incs.at 0 d ≠ 0) ∧ (mayTake s k d 1 = true))
    ({ put [nst NS.run, (P.halo, F.HALO_PRESENT_P 0, 8)] with halo := { incs := [(3, 6)] } }) (1) (0x103000000) ([1, 2, 3, 4]) (3) (0) := by decide +kernel
theorem witness_remoteAmo : (fun (s : State) (k a n m v d o i : Nat) (x : HoldSlot) (b : List Nat) => (s.alive = true) ∧ (k < 4) ∧ (n = 4 ∨ n = 8) ∧ (m < 3) ∧ (winOf a = some (d, o)) ∧ (a % n = 0) ∧ (isOwn s d = false) ∧ (holdOf s k a n ((if n = 4 then 6 else 0xA) + m) = some (i, x)) ∧ (x.data = some (b, 0)))
    ({ ({} : State) with txn := { slots := [(0, some { init := 1, addr := 0x103000000, size := 4, op := 8, tag := 0, data := some ([1, 2, 3, 4], 0) })] } }) (1) (0x103000000) (4) (2) (55) (3) (0) (0) ({ init := 1, addr := 0x103000000, size := 4, op := 8, tag := 0, data := some ([1, 2, 3, 4], 0) }) ([1, 2, 3, 4]) := by decide +kernel
theorem witness_txnCpl : (fun (s : State) (f : Frame) (g : TagSt) => (s.alive = true) ∧ (deliversLocal s = true) ∧ (f.typ = 4 ∧ f.cls = 4) ∧ (isOwn s f.dst = true) ∧ (s.txn.descs = []) ∧ (tagAt s (bitsOf f.w3 23 9) = some g) ∧ (g.fetch = false) ∧ (g.dst = f.src ∧ g.ord = bitsOf f.w5 18 8 ∧ g.first ≠ none) ∧ (bitsOf f.w4 24 4 ≠ TS.busy))
    ({ put ([nst NS.run] ++ addr 5) with txn := { tags := [(4, some { init := 0, dst := 3, op := 0, off := 0, len := 0, ord := 2, bytes := [], first := some 1, last := 1, isNew := false })] } }) ({ typ := 4, cls := 4, dst := 5, src := 3, w3 := 0x2000000, w5 := 0x80000, pay := [1, 2, 3, 4] }) ({ init := 0, dst := 3, op := 0, off := 0, len := 0, ord := 2, bytes := [], first := some 1, last := 1, isNew := false }) := by decide +kernel
theorem witness_txnResend : (fun (s : State) (n b : Nat) (g : TagSt) => (s.alive = true) ∧ (s.txn.descs = []) ∧ (tagAt s n = some g) ∧ (g.first = some b) ∧ (g.last + retryTo s ≤ s.ticks) ∧ (present s g.dst = true))
    ({ put [nst NS.run, (P.halo, F.HALO_PRESENT_P 0, 8)] with time := { ticks := 100000 }, txn := { tags := [(4, some { init := 0, dst := 3, op := 0, off := 0, len := 0, ord := 2, bytes := [], first := some 1, last := 1, isNew := false })] } }) (4) (1) ({ init := 0, dst := 3, op := 0, off := 0, len := 0, ord := 2, bytes := [], first := some 1, last := 1, isNew := false }) := by decide +kernel
theorem witness_txnTimeout : (fun (s : State) (n b : Nat) (g : TagSt) => (s.alive = true) ∧ (s.txn.descs = []) ∧ (tagAt s n = some g) ∧ (g.fetch = false) ∧ (g.first = some b) ∧ (b + txnTimeout s ≤ s.ticks))
    ({ put [nst NS.run] with time := { ticks := 100000 }, txn := { tags := [(4, some { init := 0, dst := 3, op := 0, off := 0, len := 0, ord := 2, bytes := [], first := some 1, last := 1, isNew := false })] } }) (4) (1) ({ init := 0, dst := 3, op := 0, off := 0, len := 0, ord := 2, bytes := [], first := some 1, last := 1, isNew := false }) := by decide +kernel
/-- A target in RUN with address 5, a stream slot for node 7, and node 7 permitted to write the CORES page. -/
def target : State :=
  { put ([nst NS.run, (P.cores, F.HDR_PAGE_ATTR_REMOTE_WRITE, 2), (P.cores, F.CORES_MTIMECMP_LO_NS 0, 0x12345678)] ++ addr 5) with
    txn := { streams := [(2, some { src := 7, inc := 0, init := 0, next := some 0, held := [], cache := [], touch := 0 })] } }
/-- A request of node 7 with OP `op` at `off`; a block of 8 bytes. -/
def request7 (op off n : Nat) : Frame :=
  { typ := 3, cls := 4, dst := 5, src := 7, w4 := op * 2 ^ 28 + off, w5 := if op = 2 ∨ op = 5 then 0x4000000 else 0,
    pay := List.replicate n 3 }
/-- OP with the bytes of its payload and of its access. -/
def opSizes : List (Nat × Nat × Nat) :=
  [(0, 0, 4), (1, 0, 8), (2, 0, 8), (3, 4, 4), (4, 8, 8), (5, 8, 8), (6, 4, 4), (7, 4, 4), (8, 4, 4), (9, 8, 4), (10, 8, 8), (11, 8, 8),
   (12, 8, 8), (13, 16, 8)]
theorem witness_target_items : ∀ x ∈ opSizes, ∀ e : Bool, nextRequest target (request7 x.1 0x400000 x.2.1) x.1 2 = true ∧
    inBlocked target (inReq (request7 x.1 0x400000 x.2.1) e) = false ∧
    winPart (inReq (request7 x.1 0x400000 x.2.1) e).off x.2.2 = .items := by decide +kernel
theorem witness_target_reserved : ∀ x ∈ opSizes, ∀ e : Bool, nextRequest target (request7 x.1 0xFFFFF8 x.2.1) x.1 2 = true ∧
    inBlocked target (inReq (request7 x.1 0xFFFFF8 x.2.1) e) = false ∧
    winPart (inReq (request7 x.1 0xFFFFF8 x.2.1) e).off x.2.2 = .reserved := by decide +kernel
theorem witness_target_store : MayWrite target ⟨8, 7⟩ P.cores 0x080 := by
  refine ⟨by decide +kernel, by decide +kernel, by decide +kernel, by decide +kernel, by decide +kernel, by decide +kernel⟩
theorem witness_target_word : ∀ x ∈ opSizes, ∀ e : Bool, nextRequest target (request7 x.1 0x110080 x.2.1) x.1 2 = true ∧
    inBlocked target (inReq (request7 x.1 0x110080 x.2.1) e) = false ∧ (inReq (request7 x.1 0x110080 x.2.1) e).off = 0x110080 ∧
    target.rd P.cores (F.CORES_MTIMECMP_LO_NS 0) < 2 ^ 32 ∧ target.rd P.cores (F.CORES_MTIMECMP_HI_NS 0) < 2 ^ 32 := by decide +kernel
theorem witness_holdingSlotRelease : (fun (s : State) (k : Nat) (x : HoldSlot) => (s.alive = true) ∧ (holdAt s k = some x) ∧ (x.data ≠ none) ∧ (x.since + holdTicks s ≤ s.ticks))
    ({ ({} : State) with time := { ticks := 100000 }, txn := { slots := [(0, some { init := 1, addr := 0x103000000, size := 4, op := 0, tag := 0, data := some ([1, 2, 3, 4], 0) })] } }) (0) ({ init := 1, addr := 0x103000000, size := 4, op := 0, tag := 0, data := some ([1, 2, 3, 4], 0) }) := by decide +kernel
theorem witness_streamSlotRelease : (fun (s : State) (k : Nat) (x : StreamSlot) => (s.alive = true) ∧ (streamAt s k = some x) ∧ (x.touch + slotHold s ≤ s.ticks))
    ({ ({} : State) with time := { ticks := 100000 }, txn := { streams := [(2, some { src := 7, inc := 0, init := 0, next := some 0, held := [], cache := [], touch := 0 })] } }) (2) ({ src := 7, inc := 0, init := 0, next := some 0, held := [], cache := [], touch := 0 }) := by decide +kernel
theorem witness_rd32 : (fun (s : State) (f : Frame) (e : Bool) (k : Nat) => (nextRequest s f 0 k = true) ∧ (inBlocked s (inReq f e) = false))
    ({ put ([nst NS.run, (P.cores, F.HDR_PAGE_ATTR_REMOTE_WRITE, 2), (P.cores, F.CORES_MTIMECMP_LO_NS 0, 0x12345678)] ++ addr 5) with txn := { streams := [(2, some { src := 7, inc := 0, init := 0, next := some 0, held := [], cache := [], touch := 0 })] } }) ({ typ := 3, cls := 4, dst := 5, src := 7, w4 := 0x110080, w5 := 0, pay := [] }) (false) (2) := by decide +kernel
theorem witness_rd64 : (fun (s : State) (f : Frame) (e : Bool) (k : Nat) => (nextRequest s f 1 k = true) ∧ (inBlocked s (inReq f e) = false))
    ({ put ([nst NS.run, (P.cores, F.HDR_PAGE_ATTR_REMOTE_WRITE, 2), (P.cores, F.CORES_MTIMECMP_LO_NS 0, 0x12345678)] ++ addr 5) with txn := { streams := [(2, some { src := 7, inc := 0, init := 0, next := some 0, held := [], cache := [], touch := 0 })] } }) ({ typ := 3, cls := 4, dst := 5, src := 7, w4 := 0x10110080, w5 := 0, pay := [] }) (false) (2) := by decide +kernel
theorem witness_rdblk : (fun (s : State) (f : Frame) (e : Bool) (k : Nat) => (nextRequest s f 2 k = true) ∧ (inBlocked s (inReq f e) = false))
    ({ put ([nst NS.run, (P.cores, F.HDR_PAGE_ATTR_REMOTE_WRITE, 2), (P.cores, F.CORES_MTIMECMP_LO_NS 0, 0x12345678)] ++ addr 5) with txn := { streams := [(2, some { src := 7, inc := 0, init := 0, next := some 0, held := [], cache := [], touch := 0 })] } }) ({ typ := 3, cls := 4, dst := 5, src := 7, w4 := 0x20110080, w5 := 0x4000000, pay := [] }) (false) (2) := by decide +kernel
theorem witness_wr32 : (fun (s : State) (f : Frame) (k : Nat) => (nextRequest s f 3 k = true) ∧ (inBlocked s (inReq f false) = false))
    ({ put ([nst NS.run, (P.cores, F.HDR_PAGE_ATTR_REMOTE_WRITE, 2), (P.cores, F.CORES_MTIMECMP_LO_NS 0, 0x12345678)] ++ addr 5) with txn := { streams := [(2, some { src := 7, inc := 0, init := 0, next := some 0, held := [], cache := [], touch := 0 })] } }) ({ typ := 3, cls := 4, dst := 5, src := 7, w4 := 0x30110080, w5 := 0, pay := [1, 2, 3, 4] }) (2) := by decide +kernel
theorem witness_wr64 : (fun (s : State) (f : Frame) (k : Nat) => (nextRequest s f 4 k = true) ∧ (inBlocked s (inReq f false) = false))
    ({ put ([nst NS.run, (P.cores, F.HDR_PAGE_ATTR_REMOTE_WRITE, 2), (P.cores, F.CORES_MTIMECMP_LO_NS 0, 0x12345678)] ++ addr 5) with txn := { streams := [(2, some { src := 7, inc := 0, init := 0, next := some 0, held := [], cache := [], touch := 0 })] } }) ({ typ := 3, cls := 4, dst := 5, src := 7, w4 := 0x40110080, w5 := 0, pay := [1, 2, 3, 4, 5, 6, 7, 8] }) (2) := by decide +kernel
theorem witness_wrblk : (fun (s : State) (f : Frame) (k : Nat) => (nextRequest s f 5 k = true) ∧ (inBlocked s (inReq f false) = false))
    ({ put ([nst NS.run, (P.cores, F.HDR_PAGE_ATTR_REMOTE_WRITE, 2), (P.cores, F.CORES_MTIMECMP_LO_NS 0, 0x12345678)] ++ addr 5) with txn := { streams := [(2, some { src := 7, inc := 0, init := 0, next := some 0, held := [], cache := [], touch := 0 })] } }) ({ typ := 3, cls := 4, dst := 5, src := 7, w4 := 0x50110080, w5 := 0x4000000, pay := [1, 2, 3, 4, 5, 6, 7, 8] }) (2) := by decide +kernel
theorem witness_event : (fun (s : State) (f : Frame) (k : Nat) => (nextRequest s f 14 k = true) ∧ (f.src < 4096))
    ({ put ([nst NS.run, (P.cores, F.HDR_PAGE_ATTR_REMOTE_WRITE, 2), (P.cores, F.CORES_MTIMECMP_LO_NS 0, 0x12345678)] ++ addr 5) with txn := { streams := [(2, some { src := 7, inc := 0, init := 0, next := some 0, held := [], cache := [], touch := 0 })] } }) ({ typ := 8, cls := 4, dst := 5, src := 7, w4 := 0x3ABCD }) (2) := by decide +kernel
theorem witness_and32 : (fun (s : State) (f : Frame) (e : Bool) (k : Nat) => (nextRequest s f 6 k = true) ∧ (inBlocked s (inReq f e) = false))
    ({ put ([nst NS.run, (P.cores, F.HDR_PAGE_ATTR_REMOTE_WRITE, 2), (P.cores, F.CORES_MTIMECMP_LO_NS 0, 0x12345678)] ++ addr 5) with txn := { streams := [(2, some { src := 7, inc := 0, init := 0, next := some 0, held := [], cache := [], touch := 0 })] } }) ({ typ := 3, cls := 4, dst := 5, src := 7, w4 := 0x60110080, w5 := 0, pay := [1, 2, 3, 4] }) (false) (2) := by decide +kernel
theorem witness_or32 : (fun (s : State) (f : Frame) (e : Bool) (k : Nat) => (nextRequest s f 7 k = true) ∧ (inBlocked s (inReq f e) = false))
    ({ put ([nst NS.run, (P.cores, F.HDR_PAGE_ATTR_REMOTE_WRITE, 2), (P.cores, F.CORES_MTIMECMP_LO_NS 0, 0x12345678)] ++ addr 5) with txn := { streams := [(2, some { src := 7, inc := 0, init := 0, next := some 0, held := [], cache := [], touch := 0 })] } }) ({ typ := 3, cls := 4, dst := 5, src := 7, w4 := 0x70110080, w5 := 0, pay := [1, 2, 3, 4] }) (false) (2) := by decide +kernel
theorem witness_add32 : (fun (s : State) (f : Frame) (e : Bool) (k : Nat) => (nextRequest s f 8 k = true) ∧ (inBlocked s (inReq f e) = false))
    ({ put ([nst NS.run, (P.cores, F.HDR_PAGE_ATTR_REMOTE_WRITE, 2), (P.cores, F.CORES_MTIMECMP_LO_NS 0, 0x12345678)] ++ addr 5) with txn := { streams := [(2, some { src := 7, inc := 0, init := 0, next := some 0, held := [], cache := [], touch := 0 })] } }) ({ typ := 3, cls := 4, dst := 5, src := 7, w4 := 0x80110080, w5 := 0, pay := [1, 2, 3, 4] }) (false) (2) := by decide +kernel
theorem witness_cas32 : (fun (s : State) (f : Frame) (e : Bool) (k : Nat) => (nextRequest s f 9 k = true) ∧ (inBlocked s (inReq f e) = false))
    ({ put ([nst NS.run, (P.cores, F.HDR_PAGE_ATTR_REMOTE_WRITE, 2), (P.cores, F.CORES_MTIMECMP_LO_NS 0, 0x12345678)] ++ addr 5) with txn := { streams := [(2, some { src := 7, inc := 0, init := 0, next := some 0, held := [], cache := [], touch := 0 })] } }) ({ typ := 3, cls := 4, dst := 5, src := 7, w4 := 0x90110080, w5 := 0, pay := [120, 86, 52, 18, 1, 2, 3, 4] }) (false) (2) := by decide +kernel
theorem witness_and64 : (fun (s : State) (f : Frame) (e : Bool) (k : Nat) => (nextRequest s f 10 k = true) ∧ (inBlocked s (inReq f e) = false))
    ({ put ([nst NS.run, (P.cores, F.HDR_PAGE_ATTR_REMOTE_WRITE, 2), (P.cores, F.CORES_MTIMECMP_LO_NS 0, 0x12345678)] ++ addr 5) with txn := { streams := [(2, some { src := 7, inc := 0, init := 0, next := some 0, held := [], cache := [], touch := 0 })] } }) ({ typ := 3, cls := 4, dst := 5, src := 7, w4 := 0xa0110080, w5 := 0, pay := [1, 2, 3, 4, 5, 6, 7, 8] }) (false) (2) := by decide +kernel
theorem witness_or64 : (fun (s : State) (f : Frame) (e : Bool) (k : Nat) => (nextRequest s f 11 k = true) ∧ (inBlocked s (inReq f e) = false))
    ({ put ([nst NS.run, (P.cores, F.HDR_PAGE_ATTR_REMOTE_WRITE, 2), (P.cores, F.CORES_MTIMECMP_LO_NS 0, 0x12345678)] ++ addr 5) with txn := { streams := [(2, some { src := 7, inc := 0, init := 0, next := some 0, held := [], cache := [], touch := 0 })] } }) ({ typ := 3, cls := 4, dst := 5, src := 7, w4 := 0xb0110080, w5 := 0, pay := [1, 2, 3, 4, 5, 6, 7, 8] }) (false) (2) := by decide +kernel
theorem witness_add64 : (fun (s : State) (f : Frame) (e : Bool) (k : Nat) => (nextRequest s f 12 k = true) ∧ (inBlocked s (inReq f e) = false))
    ({ put ([nst NS.run, (P.cores, F.HDR_PAGE_ATTR_REMOTE_WRITE, 2), (P.cores, F.CORES_MTIMECMP_LO_NS 0, 0x12345678)] ++ addr 5) with txn := { streams := [(2, some { src := 7, inc := 0, init := 0, next := some 0, held := [], cache := [], touch := 0 })] } }) ({ typ := 3, cls := 4, dst := 5, src := 7, w4 := 0xc0110080, w5 := 0, pay := [1, 2, 3, 4, 5, 6, 7, 8] }) (false) (2) := by decide +kernel
theorem witness_cas64 : (fun (s : State) (f : Frame) (e : Bool) (k : Nat) => (nextRequest s f 13 k = true) ∧ (inBlocked s (inReq f e) = false))
    ({ put ([nst NS.run, (P.cores, F.HDR_PAGE_ATTR_REMOTE_WRITE, 2), (P.cores, F.CORES_MTIMECMP_LO_NS 0, 0x12345678)] ++ addr 5) with txn := { streams := [(2, some { src := 7, inc := 0, init := 0, next := some 0, held := [], cache := [], touch := 0 })] } }) ({ typ := 3, cls := 4, dst := 5, src := 7, w4 := 0xd0110080, w5 := 0, pay := [120, 86, 52, 18, 255, 255, 255, 255, 1, 2, 3, 4, 5, 6, 7, 8] }) (false) (2) := by decide +kernel
theorem witness_scheduledWindowEnd : (fun (s : State) (k : Nat) => (s.alive = true) ∧ (driftOn s = true) ∧ (s.on P.ecl F.ECLIPSE_ECL_CFG_EV_EN = false) ∧ (k < 8) ∧ (s.on P.zones (F.ZONES_ZCFG_EN k) = true) ∧ (slotOn s k = false) ∧ (trkState s k ≠ 2 ∧ trkState s k ≠ 3))
    (put [nst NS.run, (P.zones, F.ZONES_ZCFG_EN 2, 1), (P.track 2, F.HDR_PAGE_CTRL_ENABLE, 0)]) (2) := by decide +kernel
theorem witness_reclaim : (fun (s : State) (k : Nat) (who : By) => (MayWrite s who (P.track (k % 8)) 0x070) ∧ (srcState s (k % 8) = 1) ∧ (s.tk F.TRACK_TRK_STAT_DELTA_VALID (k % 8) = 1))
    (put [nst NS.run, (P.track 2, F.TRACK_TRK_STAT_SRC_STATE, 1), (P.track 2, F.TRACK_TRK_STAT_DELTA_VALID, 1)]) (2) (⟨0, 0⟩) := by
  refine ⟨⟨by decide +kernel, by decide +kernel, by decide +kernel, by decide +kernel, by decide +kernel, by decide +kernel⟩, by decide +kernel, by decide +kernel⟩
theorem witness_eval : (fun (s : State) (k : Nat) (who : By) (v : Nat) => (MayWrite s who (P.track (k % 8)) 0x0A4))
    (put [nst NS.run]) (2) (⟨0, 0⟩) (7) := by
  refine ⟨by decide +kernel, by decide +kernel, by decide +kernel, by decide +kernel, by decide +kernel, by decide +kernel⟩
theorem witness_induct : (fun (s : State) (who : By) (k : Nat) => (MayWrite s who P.drift 0x06C) ∧ (k < 16384) ∧ ((inductJudge s k (opImage s (iniIdx who.ini))).1 = none))
    ({ put [nst NS.run, (P.zones, F.ZONES_ZCFG_EN 0, 1), (P.zones, F.ZONES_ZCFG_INDUCT 0, 1), (P.zones, F.ZONES_CHAIN_HI_VALID 0 3, 1), (P.track 0, F.TRACK_TRK_STAT_STATE, 2), (P.drift, F.DRIFT_OP_ADDR_OFFSET, 0x100000)] with mem := [(0x10300000, 5)], tracks := [(0, { smp := some { tick := 0, t0 := 0, p := 100, v := 0, a := 0, flags := 0, rank := 0, gen := 0, src := 0 } })] }) (⟨0, 0⟩) (0) := by
  refine ⟨⟨by decide +kernel, by decide +kernel, by decide +kernel, by decide +kernel, by decide +kernel, by decide +kernel⟩, by decide +kernel, by decide +kernel⟩
theorem witness_update : (fun (s : State) (who : By) (i : Nat) => (MayWrite s who P.drift 0x06C) ∧ (s.working = true ∨ s.st = NS.join) ∧ (i < 16384) ∧ ((recAt s i).word 7 = (recAt s i).crc) ∧ (ownedJudge s i = none))
    (drift1 NS.run [(3, rec1 [(R.state, RS.owned), (R.owner, 5), (R.ver, 9)])]) (⟨0, 0⟩) (3) := by
  refine ⟨⟨by decide +kernel, by decide +kernel, by decide +kernel, by decide +kernel, by decide +kernel, by decide +kernel⟩, by decide +kernel, by decide +kernel, by decide +kernel, by decide +kernel⟩
theorem witness_opRetire : (fun (s : State) (who : By) (i : Nat) => (MayWrite s who P.drift 0x06C) ∧ (s.working = true ∨ s.st = NS.join) ∧ (i < 16384) ∧ ((recAt s i).word 7 = (recAt s i).crc) ∧ (ownedJudge s i = none))
    (drift1 NS.run [(3, rec1 [(R.state, RS.owned), (R.owner, 5), (R.ver, 9)])]) (⟨0, 0⟩) (3) := by
  refine ⟨⟨by decide +kernel, by decide +kernel, by decide +kernel, by decide +kernel, by decide +kernel, by decide +kernel⟩, by decide +kernel, by decide +kernel, by decide +kernel, by decide +kernel⟩
theorem witness_find : (fun (s : State) (who : By) (i : Nat) => (MayWrite s who P.drift 0x06C) ∧ (s.working = true ∨ s.st = NS.join) ∧ ((findItem s (s.rdi P.drift F.DRIFT_OP_ARG_LO_ARG (iniIdx who.ini) + s.rdi P.drift F.DRIFT_OP_ARG_HI_ARG (iniIdx who.ini) * 2 ^ 32)).1 = some i))
    (drift1 NS.run [(3, rec1 [(R.state, RS.owned), (R.owner, 5), (R.ver, 9)])]) (⟨0, 0⟩) (3) := by
  refine ⟨⟨by decide +kernel, by decide +kernel, by decide +kernel, by decide +kernel, by decide +kernel, by decide +kernel⟩, by decide +kernel, by decide +kernel⟩
theorem witness_opCancel : (fun (s : State) (who : By) (i a : Nat) => (MayWrite s who P.drift 0x06C) ∧ (s.working = true ∨ s.st = NS.join) ∧ (i < 16384) ∧ ((recAt s i).word 7 = (recAt s i).crc) ∧ (ownedJudge s i = none) ∧ (a < 4) ∧ (s.edge.edges = [] ∧ s.edge.results = []))
    (drift1 NS.run [(3, rec1 [(R.state, RS.owned), (R.owner, 5), (R.ver, 9)])]) (⟨0, 0⟩) (3) (1) := by
  refine ⟨⟨by decide +kernel, by decide +kernel, by decide +kernel, by decide +kernel, by decide +kernel, by decide +kernel⟩, by decide +kernel, by decide +kernel, by decide +kernel, by decide +kernel, by decide +kernel, by decide +kernel⟩
theorem witness_free : (fun (s : State) (who : By) (i : Nat) => (MayWrite s who P.drift 0x06C) ∧ (s.st = NS.commission ∨ s.st = NS.maint) ∧ (i < 16384))
    (drift1 NS.maint [(3, rec1 [(R.state, RS.owned), (R.owner, 5), (R.ver, 9)])]) (⟨0, 0⟩) (3) := by
  refine ⟨⟨by decide +kernel, by decide +kernel, by decide +kernel, by decide +kernel, by decide +kernel, by decide +kernel⟩, by decide +kernel, by decide +kernel⟩
theorem witness_offer : (fun (s : State) (f : Frame) (k : Nat) => (driftTakes s f 1 128 = true) ∧ (driftOwns s = true) ∧ (s.on P.ecl F.ECLIPSE_ECL_CFG_EV_EN = false) ∧ (s.on P.drift F.DRIFT_STORE_STAT3_RESYNC_DONE = true) ∧ (zoneSlot s ((Rec.ofBytes f.pay).g R.track) = some k) ∧ (zoneOk s k = true) ∧ ((findItem s (Rec.ofBytes f.pay).id).1 = none) ∧ (0 < freeSlots s))
    (put ([nst NS.run, (P.drift, F.DRIFT_STORE_STAT3_RESYNC_DONE, 1), (P.zones, F.ZONES_ZCFG_EN 0, 1)] ++ addr 5)) ({ typ := 7, cls := 6, src := 7, dst := 5, w3 := 0x0, w4 := 0x1000000, pay := 5 :: List.replicate 127 0 }) (0) := by decide +kernel
theorem witness_accept : (fun (s : State) (f : Frame) (q : DriftReq) => (driftTakes s f 2 8 = true) ∧ ((askedOf s f 1).1 = some q))
    ({ drift1 NS.run [(3, rec1 [(R.state, RS.owned), (R.owner, 5), (R.ver, 9), (R.mirror, 7)])] with drift := { recs := [(3, rec1 [(R.state, RS.owned), (R.owner, 5), (R.ver, 9), (R.mirror, 7)])], reqs := [{ id := 0, slot := 3, sub := 1, dst := 7, track := 0, ver := 9, first := 0, last := 0 }] } }) ({ typ := 7, cls := 6, src := 7, dst := 5, w3 := 0x0, w4 := 0x2000000, pay := List.replicate 8 0 }) ({ id := 0, slot := 3, sub := 1, dst := 7, track := 0, ver := 9, first := 0, last := 0 }) := by decide +kernel
theorem witness_refuse : (fun (s : State) (f : Frame) (q : DriftReq) => (driftTakes s f 3 8 = true) ∧ ((askedOf s f 1).1 = some q) ∧ (frameCode f = 3))
    ({ drift1 NS.run [(3, rec1 [(R.state, RS.owned), (R.owner, 5), (R.ver, 9), (R.mirror, 7)])] with drift := { recs := [(3, rec1 [(R.state, RS.owned), (R.owner, 5), (R.ver, 9), (R.mirror, 7)])], reqs := [{ id := 0, slot := 3, sub := 1, dst := 7, track := 0, ver := 9, first := 0, last := 0 }] } }) ({ typ := 7, cls := 6, src := 7, dst := 5, w3 := 0x0, w4 := 0x3300000, pay := List.replicate 8 0 }) ({ id := 0, slot := 3, sub := 1, dst := 7, track := 0, ver := 9, first := 0, last := 0 }) := by decide +kernel
theorem witness_commit : (fun (s : State) (f : Frame) (i : Nat) => (driftTakes s f 4 8 = true) ∧ ((findItem s (frameId f)).1 = some i) ∧ ((recAt s i).g R.state = RS.pending) ∧ ((recAt s i).g R.ver + 1 = frameVer f))
    (drift1 NS.run [(3, rec1 [(R.state, RS.pending), (R.owner, 7), (R.ver, 9)])]) ({ typ := 7, cls := 6, src := 7, dst := 5, w3 := 0xa0000, w4 := 0x4000000, pay := List.replicate 8 0 }) (3) := by decide +kernel
theorem witness_driftDone : (fun (s : State) (f : Frame) (q : DriftReq) => (driftTakes s f 5 8 = true) ∧ ((askedOf s f 4).1 = some q) ∧ (frameCode f = 0))
    ({ drift1 NS.run [(3, rec1 [(R.state, RS.mirror), (R.owner, 5), (R.ver, 9), (R.mirror, 7)])] with drift := { recs := [(3, rec1 [(R.state, RS.mirror), (R.owner, 5), (R.ver, 9), (R.mirror, 7)])], reqs := [{ id := 0, slot := 3, sub := 4, dst := 7, track := 0, ver := 9, first := 0, last := 0 }] } }) ({ typ := 7, cls := 6, src := 7, dst := 5, w3 := 0x0, w4 := 0x5000000, pay := List.replicate 8 0 }) ({ id := 0, slot := 3, sub := 4, dst := 7, track := 0, ver := 9, first := 0, last := 0 }) := by decide +kernel
theorem witness_release : (fun (s : State) (f : Frame) (i : Nat) => (driftTakes s f 6 8 = true) ∧ ((findItem s (frameId f)).1 = some i) ∧ ((recAt s i).g R.state = RS.mirror ∨ (recAt s i).g R.state = RS.retired) ∧ ((recAt s i).g R.ver ≤ frameVer f))
    (drift1 NS.run [(3, rec1 [(R.state, RS.mirror), (R.owner, 7), (R.ver, 9)])]) ({ typ := 7, cls := 6, src := 7, dst := 5, w3 := 0xa0000, w4 := 0x6000000, pay := List.replicate 8 0 }) (3) := by decide +kernel
theorem witness_driftSet : (fun (s : State) (f : Frame) => (driftTakes s f 7 128 = true) ∧ ((findItem s (Rec.ofBytes f.pay).id).1 = none) ∧ (0 < freeSlots s))
    (drift1 NS.run []) ({ typ := 7, cls := 6, src := 7, dst := 5, w3 := 0x0, w4 := 0x7000000, pay := 5 :: List.replicate 127 0 }) := by decide +kernel
theorem witness_retire : (fun (s : State) (f : Frame) (i : Nat) => (driftTakes s f 8 8 = true) ∧ ((findItem s (frameId f)).1 = some i) ∧ ((recAt s i).g R.state = RS.mirror ∨ (recAt s i).g R.state = RS.pending))
    (drift1 NS.run [(3, rec1 [(R.state, RS.mirror), (R.owner, 7), (R.ver, 9)])]) ({ typ := 7, cls := 6, src := 7, dst := 5, w3 := 0xa0000, w4 := 0x8000000, pay := List.replicate 8 0 }) (3) := by decide +kernel
theorem witness_driftAck : (fun (s : State) (f : Frame) (q : DriftReq) => (driftTakes s f 9 8 = true) ∧ ((askedOf s f (frameCode f)).1 = some q) ∧ (q.sub = 7) ∧ (frameVer f = (recAt s q.slot).g R.ver) ∧ (frameHState f = RS.mirror))
    ({ drift1 NS.run [(3, rec1 [(R.state, RS.owned), (R.owner, 5), (R.ver, 9), (R.mirror, 7)])] with drift := { recs := [(3, rec1 [(R.state, RS.owned), (R.owner, 5), (R.ver, 9), (R.mirror, 7)])], reqs := [{ id := 0, slot := 3, sub := 7, dst := 7, track := 0, ver := 9, first := 0, last := 0 }] } }) ({ typ := 7, cls := 6, src := 7, dst := 5, w3 := 0x90000, w4 := 0x9730000, pay := List.replicate 8 0 }) ({ id := 0, slot := 3, sub := 7, dst := 7, track := 0, ver := 9, first := 0, last := 0 }) := by decide +kernel
theorem witness_query : (fun (s : State) (f : Frame) => (driftTakes s f 10 8 = true) ∧ ((findItem s (frameId f)).2 = s) ∧ (eastOnly s = true) ∧ (s.on P.ecl F.ECLIPSE_ECL_CFG_EV_EN = false))
    (put ([nst NS.run, up 0, (P.halo, F.HALO_JOIN_STAT_HOLD_DONE, 1)] ++ addr 5)) ({ typ := 7, cls := 6, src := 7, dst := 5, w3 := 0x0, w4 := 0xa000000, pay := List.replicate 8 0 }) := by decide +kernel
theorem witness_answer : (fun (s : State) (f : Frame) (q : DriftReq) => (driftTakes s f 11 8 = true) ∧ ((askedOf s f 10).1 = some q))
    ({ drift1 NS.run [(3, rec1 [(R.state, RS.mirror), (R.owner, 5), (R.ver, 9), (R.mirror, 7)])] with drift := { recs := [(3, rec1 [(R.state, RS.mirror), (R.owner, 5), (R.ver, 9), (R.mirror, 7)])], reqs := [{ id := 0, slot := 3, sub := 10, dst := 7, track := 0, ver := 9, first := 0, last := 0 }] } }) ({ typ := 7, cls := 6, src := 7, dst := 5, w3 := 0x90000, w4 := 0xb120007, pay := List.replicate 8 0 }) ({ id := 0, slot := 3, sub := 10, dst := 7, track := 0, ver := 9, first := 0, last := 0 }) := by decide +kernel
theorem witness_result : (fun (s : State) (f : Frame) (i : Nat) => (driftTakes s f 12 12 = true) ∧ ((findItem s (frameId f)).1 = some i) ∧ ((recAt s i).g R.state = RS.owned) ∧ ((recAt s i).fl RFl.doubt = false) ∧ (s.edge.edges = [] ∧ s.edge.results = []) ∧ (3 ≤ leVal (slice f.pay 8 4) % 16))
    (drift1 NS.run [(3, rec1 [(R.state, RS.owned), (R.owner, 5), (R.ver, 9)])]) ({ typ := 7, cls := 6, src := 7, dst := 5, w3 := 0x0, w4 := 0xc000000, pay := [0,0,0,0,0,0,0,0, 4,0,1,0] }) (3) := by decide +kernel
theorem witness_driftResend : (fun (s : State) (q : DriftReq) => (s.alive = true) ∧ (driftOn s = true) ∧ (s.drift.reqs = [q]) ∧ (q.sub = 1 ∨ q.sub = 7 → crcCheck s q.slot = s) ∧ (q.last + hoRetry s ≤ s.ticks))
    ({ { drift1 NS.run [(3, rec1 [(R.state, RS.owned), (R.owner, 5), (R.ver, 9), (R.mirror, 7)])] with drift := { recs := [(3, rec1 [(R.state, RS.owned), (R.owner, 5), (R.ver, 9), (R.mirror, 7)])], reqs := [{ id := 0, slot := 3, sub := 1, dst := 7, track := 0, ver := 9, first := 0, last := 0 }] } } with time := { ticks := 100000 } }) ({ id := 0, slot := 3, sub := 1, dst := 7, track := 0, ver := 9, first := 0, last := 0 }) := by decide +kernel
theorem witness_handoffTimeout : (fun (s : State) (q : DriftReq) => (s.alive = true) ∧ (driftOn s = true) ∧ (s.drift.reqs = [q]) ∧ (crcCheck s q.slot = s) ∧ (q.sub = 1) ∧ (q.first + hoTo s ≤ s.ticks))
    ({ { drift1 NS.run [(3, rec1 [(R.state, RS.owned), (R.owner, 5), (R.ver, 9), (R.mirror, 7)])] with drift := { recs := [(3, rec1 [(R.state, RS.owned), (R.owner, 5), (R.ver, 9), (R.mirror, 7)])], reqs := [{ id := 0, slot := 3, sub := 1, dst := 7, track := 0, ver := 9, first := 0, last := 0 }] } } with time := { ticks := 100000 } }) ({ id := 0, slot := 3, sub := 1, dst := 7, track := 0, ver := 9, first := 0, last := 0 }) := by decide +kernel
theorem witness_pendingExpired : (fun (s : State) (i : Nat) => (s.alive = true) ∧ (driftOn s = true) ∧ (crcCheck s i = s) ∧ ((recAt s i).g R.state = RS.pending) ∧ ((recAt s i).fl RFl.orphan = false) ∧ ((dslot s i).pend + pendTo s ≤ s.ticks))
    ({ drift1 NS.run [(3, rec1 [(R.state, RS.pending), (R.owner, 7), (R.ver, 9)])] with time := { ticks := 100000 } }) (3) := by decide +kernel
theorem witness_resyncTimeout : (fun (s : State) (b : Nat) => (s.alive = true) ∧ (driftOn s = true) ∧ (s.drift.resync = true) ∧ (s.drift.queried = some b) ∧ (b + resyncTo s ≤ s.ticks))
    ({ drift1 NS.run [(3, rec1 [(R.state, RS.mirror), (R.owner, 7), (R.flags, 2)])] with time := { ticks := 100000 }, drift := { recs := [(3, rec1 [(R.state, RS.mirror), (R.owner, 7), (R.flags, 2)])], resync := true, queried := some 0 } }) (0) := by decide +kernel
theorem witness_entSel : (fun (s : State) (who : By) (n : Nat) => (MayWrite s who P.edge 0x048))
    ({ put [nst NS.run, (P.mgmt, F.MGMT_PWR_STAT_ON, 0x3FF), (P.edge, F.EDGE_ENT_SEL_ENTRY, 3), (P.pinmux, F.PINMUX_PIN_OWNER 7, 1), (P.field 5, F.FIELD_CH_CFG_MODE 5, 3)] with edge := { ents := [(3, { used := true, kind := 2, unit := 7 })], edges := [], cmds := [] } }) (⟨0, 0⟩) (3) := by
  refine ⟨by decide +kernel, by decide +kernel, by decide +kernel, by decide +kernel, by decide +kernel, by decide +kernel⟩
theorem witness_configure : (fun (s : State) (who : By) (n : Nat) => (MayWrite s who P.edge 0x060) ∧ (s.working = true) ∧ (s.rd P.edge F.EDGE_ENT_SEL_ENTRY = n) ∧ (inActPool s n = false) ∧ (entEdges s n = []) ∧ (targetOk (s.rd P.edge F.EDGE_ENT_TGT_KIND) (s.rd P.edge F.EDGE_ENT_TGT_UNIT) (s.rd P.edge F.EDGE_ENT_TGT_SUB) = true))
    (put [nst NS.run, (P.edge, F.EDGE_ENT_SEL_ENTRY, 3), (P.edge, F.EDGE_ENT_TGT_KIND, 2), (P.edge, F.EDGE_ENT_TGT_UNIT, 7)]) (⟨0, 0⟩) (3) := by
  refine ⟨⟨by decide +kernel, by decide +kernel, by decide +kernel, by decide +kernel, by decide +kernel, by decide +kernel⟩, by decide +kernel, by decide +kernel, by decide +kernel, by decide +kernel, by decide +kernel⟩
theorem witness_arm : (fun (s : State) (who : By) (n : Nat) => (MayWrite s who P.edge 0x060) ∧ (s.working = true) ∧ (s.rd P.edge F.EDGE_ENT_SEL_ENTRY = n) ∧ (inActPool s n = false) ∧ ((entOf s n).used = true ∧ (entOf s n).leaving = false) ∧ (armOk s (stagedArm s) = true) ∧ (s.on P.edge F.EDGE_ENT_ARM0_POS = false) ∧ (s.edge.edges.length < 4096) ∧ (2 * s.now + commitLead s (entOf s n) < ceilTo (edgeRes (entOf s n).kind) (stagedArm s).trig.toNat))
    ({ put [nst NS.run, (P.edge, F.EDGE_ENT_SEL_ENTRY, 3), (P.edge, F.EDGE_ENT_ARM1_TRIG, 500000), (P.edge, F.EDGE_ENT_ARM0_PATTERN, 0x8000)] with edge := { ents := [(3, { used := true, kind := 2, unit := 7 })], edges := [], cmds := [] } }) (⟨0, 0⟩) (3) := by
  refine ⟨⟨by decide +kernel, by decide +kernel, by decide +kernel, by decide +kernel, by decide +kernel, by decide +kernel⟩, by decide +kernel, by decide +kernel, by decide +kernel, by decide +kernel, by decide +kernel, by decide +kernel, by decide +kernel, by decide +kernel⟩
theorem witness_edgeCancel : (fun (s : State) (who : By) (n : Nat) => (MayWrite s who P.edge 0x060) ∧ (s.working = true) ∧ (s.rd P.edge F.EDGE_ENT_SEL_ENTRY = n) ∧ (inActPool s n = false))
    ({ put [nst NS.run, (P.mgmt, F.MGMT_PWR_STAT_ON, 0x3FF), (P.edge, F.EDGE_ENT_SEL_ENTRY, 3), (P.pinmux, F.PINMUX_PIN_OWNER 7, 1), (P.field 5, F.FIELD_CH_CFG_MODE 5, 3)] with edge := { ents := [(3, { used := true, kind := 2, unit := 7 })], edges := [{ seq := 0, entry := 3, pos := false, slot := 0, trig := 1000000, level := true, op := 0, dur := 0, durPos := false, st := .converted, inst := some 1000000 }], cmds := [] } }) (⟨0, 0⟩) (3) := by
  refine ⟨⟨by decide +kernel, by decide +kernel, by decide +kernel, by decide +kernel, by decide +kernel, by decide +kernel⟩, by decide +kernel, by decide +kernel, by decide +kernel⟩
theorem witness_edgeRelease : (fun (s : State) (who : By) (n : Nat) => (MayWrite s who P.edge 0x060) ∧ (s.working = true) ∧ (s.rd P.edge F.EDGE_ENT_SEL_ENTRY = n) ∧ (inActPool s n = false) ∧ (((entEdges s n).all fun e => e.open && !e.isReturn) = true))
    ({ put [nst NS.run, (P.mgmt, F.MGMT_PWR_STAT_ON, 0x3FF), (P.edge, F.EDGE_ENT_SEL_ENTRY, 3), (P.pinmux, F.PINMUX_PIN_OWNER 7, 1), (P.field 5, F.FIELD_CH_CFG_MODE 5, 3)] with edge := { ents := [(3, { used := true, kind := 2, unit := 7 })], edges := [{ seq := 0, entry := 3, pos := false, slot := 0, trig := 1000000, level := true, op := 0, dur := 0, durPos := false, st := .converted, inst := some 1000000 }], cmds := [] } }) (⟨0, 0⟩) (3) := by
  refine ⟨⟨by decide +kernel, by decide +kernel, by decide +kernel, by decide +kernel, by decide +kernel, by decide +kernel⟩, by decide +kernel, by decide +kernel, by decide +kernel, by decide +kernel⟩
theorem witness_edgeCommit : (fun (s : State) (e : PendEdge) (i : Nat) => (s.alive = true) ∧ (s.edge.edges = [e]) ∧ (s.edge.results = []) ∧ (e.st = .converted ∧ e.inst = some i ∧ e.starved = false) ∧ (edgeHeld s = false) ∧ (placeFree s (entOf s e.entry) = true) ∧ (commitLead s (entOf s e.entry) ≤ i))
    ({ put [nst NS.run, (P.mgmt, F.MGMT_PWR_STAT_ON, 0x3FF), (P.edge, F.EDGE_ENT_SEL_ENTRY, 3), (P.pinmux, F.PINMUX_PIN_OWNER 7, 1), (P.field 5, F.FIELD_CH_CFG_MODE 5, 3)] with edge := { ents := [(3, { used := true, kind := 2, unit := 7 })], edges := [{ seq := 0, entry := 3, pos := false, slot := 0, trig := 1000000, level := true, op := 0, dur := 0, durPos := false, st := .converted, inst := some 1000000 }], cmds := [] } }) ({ seq := 0, entry := 3, pos := false, slot := 0, trig := 1000000, level := true, op := 0, dur := 0, durPos := false, st := .converted, inst := some 1000000 }) (1000000) := by decide +kernel
theorem witness_edgePlace : (fun (s : State) (e : PendEdge) (i : Nat) => (s.alive = true) ∧ (s.edge.edges = [e]) ∧ (s.edge.results = []) ∧ (e.st = .committed ∧ e.inst = some i ∧ e.action = none ∧ e.op ≠ 1) ∧ ((entOf s e.entry).kind = 2 ∧ (entOf s e.entry).unit < 96) ∧ (sigOwner s (entOf s e.entry).unit = 1) ∧ (s.on P.ecl F.ECLIPSE_ECL_CFG_EV_EN = false))
    ({ put [nst NS.run, (P.mgmt, F.MGMT_PWR_STAT_ON, 0x3FF), (P.edge, F.EDGE_ENT_SEL_ENTRY, 3), (P.pinmux, F.PINMUX_PIN_OWNER 7, 1), (P.field 5, F.FIELD_CH_CFG_MODE 5, 3)] with edge := { ents := [(3, { used := true, kind := 2, unit := 7 })], edges := [{ seq := 0, entry := 3, pos := false, slot := 0, trig := 1000000, level := true, op := 0, dur := 0, durPos := false, st := .committed, inst := some 1000000 }], cmds := [] } }) ({ seq := 0, entry := 3, pos := false, slot := 0, trig := 1000000, level := true, op := 0, dur := 0, durPos := false, st := .committed, inst := some 1000000 }) (1000000) := by decide +kernel
theorem witness_fieldCommandArrival : (fun (s : State) (c : FieldCmd) (e : PendEdge) (x : Nat) => (s.alive = true) ∧ (s.stitch.down = false) ∧ (s.edge.cmds = [c]) ∧ (c.here = false) ∧ (edgeOf s c.seq = some e) ∧ (x < c.act) ∧ (s.edge.results = []))
    ({ put [nst NS.run, (P.mgmt, F.MGMT_PWR_STAT_ON, 0x3FF), (P.edge, F.EDGE_ENT_SEL_ENTRY, 3), (P.pinmux, F.PINMUX_PIN_OWNER 7, 1), (P.field 5, F.FIELD_CH_CFG_MODE 5, 3)] with edge := { ents := [(3, { used := true, kind := 1, unit := 5 })], edges := [{ seq := 0, entry := 3, pos := false, slot := 0, trig := 1000, level := true, op := 0, dur := 0, durPos := false, st := .committed, inst := some 1000 }], cmds := [{ kind := 1, unit := 5, seq := 0, act := 900, dead := 900, here := false }] } }) ({ kind := 1, unit := 5, seq := 0, act := 900, dead := 900, here := false }) ({ seq := 0, entry := 3, pos := false, slot := 0, trig := 1000, level := true, op := 0, dur := 0, durPos := false, st := .committed, inst := some 1000 }) (800) := by decide +kernel
theorem witness_fieldEdgeAction : (fun (s : State) (c : FieldCmd) (e : PendEdge) => (s.alive = true) ∧ (s.edge.cmds = [c] ∧ c.here = true ∧ c.seq = e.seq) ∧ (s.edge.edges = [e]) ∧ (s.edge.results = []) ∧ (e.action = none ∧ e.op ≠ 1) ∧ ((entOf s e.entry).kind = 1 ∧ (entOf s e.entry).unit < 64) ∧ (chIsOutput s (entOf s e.entry).unit = true ∧ chSafe s (entOf s e.entry).unit = false ∧ s.service = false) ∧ (s.on P.ecl F.ECLIPSE_ECL_CFG_EV_EN = false))
    ({ put [nst NS.run, (P.mgmt, F.MGMT_PWR_STAT_ON, 0x3FF), (P.edge, F.EDGE_ENT_SEL_ENTRY, 3), (P.pinmux, F.PINMUX_PIN_OWNER 7, 1), (P.field 5, F.FIELD_CH_CFG_MODE 5, 3)] with edge := { ents := [(3, { used := true, kind := 1, unit := 5 })], edges := [{ seq := 0, entry := 3, pos := false, slot := 0, trig := 1000, level := true, op := 0, dur := 0, durPos := false, st := .committed, inst := some 1000 }], cmds := [{ kind := 1, unit := 5, seq := 0, act := 900, dead := 900, here := true }] } }) ({ kind := 1, unit := 5, seq := 0, act := 900, dead := 900, here := true }) ({ seq := 0, entry := 3, pos := false, slot := 0, trig := 1000, level := true, op := 0, dur := 0, durPos := false, st := .committed, inst := some 1000 }) := by decide +kernel
theorem witness_inputEdge : (fun (s : State) (k i u : Nat) (b : Bool) (x fr w : Nat) => (s.alive = true) ∧ (captureOn s = true) ∧ (2 ≤ k ∧ k ≤ 4) ∧ (i < (if k = 2 then 96 else if k = 3 then 12 else 4)) ∧ (u < 16) ∧ (s.cap F.CAPTURE_CAP_CFG_EN u = 1 ∧ capKind s u = k ∧ s.cap F.CAPTURE_CAP_CFG_INDEX u = i) ∧ (bitOf (s.cap F.CAPTURE_CAP_CFG_EDGES u) (if b then 0 else 1) = true) ∧ (2 * s.cap F.CAPTURE_CAP_FILT_MIN_WIDTH u ≤ w))
    (put [nst NS.run, (P.mgmt, F.MGMT_PWR_STAT_ON, 0x3FF), (P.capt, F.CAPTURE_CAP_CFG_EN 2, 1), (P.capt, F.CAPTURE_CAP_CFG_KIND 2, 4), (P.capt, F.CAPTURE_CAP_CFG_INDEX 2, 3), (P.capt, F.CAPTURE_CAP_CFG_EDGES 2, 1)]) (4) (3) (2) (true) (5000) (7) (300) := by decide +kernel
theorem witness_modeWrite : (fun (s : State) (c : Nat) (who : By) (m : Nat) => (MayWrite s who (P.field (c % 64)) (chOff (c % 64) 0)))
    (put [nst NS.run, (P.node, F.NODE_NODE_STATE_STATE, 6), (P.field 13, F.HDR_PAGE_STAT_STOPPED, 1)]) (13) (⟨0, 0⟩) (3) := by
  refine ⟨by decide +kernel, by decide +kernel, by decide +kernel, by decide +kernel, by decide +kernel, by decide +kernel⟩
theorem witness_level : (fun (s : State) (c : Nat) (who : By) (b : Bool) => (MayWrite s who (P.field (c % 64)) (chOff (c % 64) 4)) ∧ (s.ch F.FIELD_CH_OUT_RELEASE (c % 64) = 0))
    (put [nst NS.run]) (13) (⟨0, 0⟩) (true) := by
  refine ⟨⟨by decide +kernel, by decide +kernel, by decide +kernel, by decide +kernel, by decide +kernel, by decide +kernel⟩, by decide +kernel⟩
theorem witness_channelRelease : (fun (s : State) (c : Nat) (who : By) => (MayWrite s who (P.field (c % 64)) (chOff (c % 64) 4)) ∧ (s.working = true ∧ s.service = false))
    (put [nst NS.run, (P.field 13, F.FIELD_CH_STAT_SAFE_ACTIVE 5, 1)]) (13) (⟨0, 0⟩) := by
  refine ⟨⟨by decide +kernel, by decide +kernel, by decide +kernel, by decide +kernel, by decide +kernel, by decide +kernel⟩, by decide +kernel⟩
theorem witness_forceSafe : (fun (s : State) (c : Nat) (who : By) => (MayWrite s who (P.field (c % 64)) (chOff (c % 64) 4)) ∧ (s.ch F.FIELD_CH_OUT_RELEASE (c % 64) = 0) ∧ (chSafe s (c % 64) = false) ∧ (s.on P.ecl F.ECLIPSE_ECL_CFG_EV_EN = false))
    (put [nst NS.run]) (13) (⟨0, 0⟩) := by
  refine ⟨⟨by decide +kernel, by decide +kernel, by decide +kernel, by decide +kernel, by decide +kernel, by decide +kernel⟩, by decide +kernel, by decide +kernel, by decide +kernel⟩
theorem witness_wurq : (fun (s : State) (c : Nat) (who : By) => (MayWrite s who (P.field (c % 64)) (chOff (c % 64) 4)) ∧ (s.service = false) ∧ (s.ch F.FIELD_CH_OUT_RELEASE (c % 64) = 0) ∧ (chIsIol s (c % 64) = true) ∧ (chSafe s (c % 64) = false) ∧ (s.ch F.FIELD_CH_STAT_WURQ_BUSY (c % 64) = 0))
    (put [nst NS.run, (P.field 5, F.FIELD_CH_CFG_MODE 5, 4)]) (5) (⟨0, 0⟩) := by
  refine ⟨⟨by decide +kernel, by decide +kernel, by decide +kernel, by decide +kernel, by decide +kernel, by decide +kernel⟩, by decide +kernel, by decide +kernel, by decide +kernel, by decide +kernel⟩
theorem witness_wakeUpEnd : (fun (s : State) (c : Nat) => (fieldOn s = true) ∧ (c < 64) ∧ (s.ch F.FIELD_CH_STAT_WURQ_BUSY c = 1))
    (put [nst NS.run, (P.field 5, F.FIELD_CH_STAT_WURQ_BUSY 5, 1)]) (5) := by decide +kernel
theorem witness_fieldInputEdge : (fun (s : State) (c : Nat) (b : Bool) (x fr w : Nat) => (s.alive = true) ∧ (c < 64) ∧ (fieldInputsOn s = true) ∧ (chIsInput s c = true) ∧ (1000 * s.ch F.FIELD_CH_CFG_FILT c ≤ w) ∧ (s.on P.ecl F.ECLIPSE_ECL_CFG_EV_EN = false))
    (put [nst NS.run, (P.field 13, F.FIELD_CH_CFG_MODE 5, 1)]) (13) (true) (5000) (0) (1000000) := by decide +kernel
theorem witness_tripClear : (fun (s : State) (c : Nat) (who : By) => (MayWrite s who (P.field (c % 64)) (chOff (c % 64) 8)))
    (put [nst NS.run, (P.field 13, F.FIELD_CH_STAT_FAULT_NOW 5, 8), (P.field 13, F.FIELD_CH_STAT_FAULT 5, 8)]) (13) (⟨0, 0⟩) := by
  refine ⟨by decide +kernel, by decide +kernel, by decide +kernel, by decide +kernel, by decide +kernel, by decide +kernel⟩
theorem witness_safeHoldExpiry : (fun (s : State) (c : Nat) => (fieldOn s = true) ∧ (c < 64) ∧ (chSafe s c = true) ∧ (s.ch F.FIELD_CH_CFG_SAFE c = 1))
    ({ put [nst NS.run, (P.field 13, F.FIELD_CH_STAT_SAFE_ACTIVE 5, 1), (P.field 13, F.FIELD_CH_CFG_SAFE 5, 1)] with field := { chans := [(13, { entry := true })] } }) (13) := by decide +kernel
theorem witness_openLoad : (fun (s : State) (c : Nat) => (fieldOn s = true) ∧ (c < 64) ∧ (chIsOutput s c = true) ∧ (s.ch F.FIELD_CH_CFG_BREAK_EN c = 1))
    (put [nst NS.run, (P.field 13, F.FIELD_CH_CFG_MODE 5, 3), (P.field 13, F.FIELD_CH_CFG_BREAK_EN 5, 1)]) (13) := by decide +kernel
theorem witness_shortVf : (fun (s : State) (c : Nat) => (fieldOn s = true) ∧ (c < 64) ∧ (chIsOutput s c = true) ∧ (chDriverOn s c = false))
    (put [nst NS.run, (P.field 13, F.FIELD_CH_CFG_MODE 5, 3)]) (13) := by decide +kernel
theorem witness_overload : (fun (s : State) (c : Nat) => (fieldOn s = true) ∧ (c < 64) ∧ (chDrives s c = true) ∧ (chDriverOn s c = true))
    (put [nst NS.run, (P.field 13, F.FIELD_CH_CFG_MODE 5, 3), (P.field 13, F.FIELD_CH_OUT_LEVEL 5, 1)]) (13) := by decide +kernel
theorem witness_thermal : (fun (s : State) (c : Nat) => (fieldOn s = true) ∧ (c < 64) ∧ (chDrives s c = true) ∧ (chFaultNow s c 4 = false))
    (put [nst NS.run, (P.field 13, F.FIELD_CH_CFG_MODE 5, 3)]) (13) := by decide +kernel
theorem witness_wireBreak : (fun (s : State) (c : Nat) => (fieldOn s = true) ∧ (c < 64) ∧ (chIsInput s c = true) ∧ (s.ch F.FIELD_CH_CFG_BREAK_EN c = 1))
    (put [nst NS.run, (P.field 13, F.FIELD_CH_CFG_MODE 5, 1), (P.field 13, F.FIELD_CH_CFG_BREAK_EN 5, 1)]) (13) := by decide +kernel
theorem witness_tripped : (fun (s : State) (c : Nat) => (fieldOn s = true) ∧ (c < 64) ∧ (chDrives s c = true) ∧ (chDriverOn s c = true) ∧ ((s.chan c).ovl = true))
    ({ put [nst NS.run, (P.field 13, F.FIELD_CH_CFG_MODE 5, 3), (P.field 13, F.FIELD_CH_OUT_LEVEL 5, 1)] with field := { chans := [(13, { ovl := true })] } }) (13) := by decide +kernel
theorem witness_tripRetry : (fun (s : State) (c : Nat) => (fieldOn s = true) ∧ (c < 64) ∧ (chFaultNow s c 3 = true) ∧ (s.ch F.FIELD_CH_CFG_AUTO_RETRY c = 1))
    (put [nst NS.run, (P.field 13, F.FIELD_CH_STAT_FAULT_NOW 5, 8), (P.field 13, F.FIELD_CH_CFG_AUTO_RETRY 5, 1)]) (13) := by decide +kernel
theorem witness_thermalRecover : (fun (s : State) (c : Nat) => (fieldOn s = true) ∧ (c < 64) ∧ (chFaultNow s c 4 = true))
    (put [nst NS.run, (P.field 13, F.FIELD_CH_STAT_FAULT_NOW 5, 16)]) (13) := by decide +kernel
theorem witness_faultNowClear : (fun (s : State) (c k : Nat) => (fieldOn s = true) ∧ (c < 64) ∧ (k = 0 ∨ k = 1 ∨ k = 2 ∨ k = 5))
    (put [nst NS.run, (P.field 13, F.FIELD_CH_STAT_FAULT_NOW 5, 4)]) (13) (2) := by decide +kernel
theorem witness_vfUv : (fun (s : State) (c : Nat) => (fieldOn s = true) ∧ (c < 64) ∧ (s.on P.fdie F.FDIE_FD_STAT_VF_UV = false))
    (put [nst NS.run]) (40) := by decide +kernel
theorem witness_vfRev : (fun (s : State) (c : Nat) => (fieldOn s = true) ∧ (c < 64) ∧ (s.on P.fdie F.FDIE_FD_STAT_VF_REV = false))
    (put [nst NS.run]) (40) := by decide +kernel
theorem witness_vfRecover : (fun (s : State) (c : Nat) => (fieldOn s = true) ∧ (c < 64))
    (put [nst NS.run, (P.fdie, F.FDIE_FD_STAT_VF_UV, 1), (P.field 40, F.FIELD_CH_STAT_FAULT_NOW 0, 64)]) (40) := by decide +kernel
theorem witness_overtemp : (fun (s : State) (c : Nat) => (fieldOn s = true) ∧ (c < 64) ∧ (s.on P.fdie F.FDIE_FD_STAT_OVERTEMP = false))
    (put [nst NS.run, (P.field 13, F.FIELD_CH_CFG_MODE 5, 3), (P.field 13, F.FIELD_CH_OUT_LEVEL 5, 1)]) (13) := by decide +kernel
theorem witness_overtempClear : (fun (s : State) => (fieldOn s = true) ∧ (s.on P.fdie F.FDIE_FD_STAT_OVERTEMP = true))
    (put [nst NS.run, (P.fdie, F.FDIE_FD_STAT_OVERTEMP, 1)]) := by decide +kernel
theorem witness_encoderEdge : (fun (s : State) (e : Nat) (a b : Bool) (ed : EncEdge) (d : Int) => (fieldOn s = true) ∧ (e < 4) ∧ (encCounts s e = true) ∧ (encDelta (encMode s e) (s.field.encs.at {} e).a (s.field.encs.at {} e).b (if encPasses s e ed.holdA then a else (s.field.encs.at {} e).a) (if encPasses s e ed.holdB then b else (s.field.encs.at {} e).b) = some d) ∧ (d ≠ 0))
    (put [nst NS.run, (P.enc, F.ENCODER_ENC_CFG_EN 2, 1), (P.enc, F.ENCODER_ENC_CFG_CMODE 2, 3), (P.enc, F.ENCODER_ENC_CFG_FILT 2, 4)]) (2) (true) (true) (⟨700, 4, 3⟩) (1) := by decide +kernel
theorem witness_encoderEdge_err : (fun (s : State) (e : Nat) (a b : Bool) (ed : EncEdge) => (fieldOn s = true) ∧ (e < 4) ∧ (encCounts s e = true) ∧ (encDelta (encMode s e) (s.field.encs.at {} e).a (s.field.encs.at {} e).b (if encPasses s e ed.holdA then a else (s.field.encs.at {} e).a) (if encPasses s e ed.holdB then b else (s.field.encs.at {} e).b) = none))
    (put [nst NS.run, (P.enc, F.ENCODER_ENC_CFG_EN 2, 1)]) (2) (true) (true) (⟨700, 255, 255⟩) := by decide +kernel
theorem witness_zEdge : (fun (s : State) (e : Nat) => (fieldOn s = true) ∧ (e < 4) ∧ (encCounts s e = true))
    (put [nst NS.run, (P.enc, F.ENCODER_ENC_CFG_EN 2, 1), (P.enc, F.ENCODER_ENC_COUNT_C 2, 77)]) (2) := by decide +kernel
theorem witness_encoderBreak : (fun (s : State) (e l : Nat) => (fieldOn s = true) ∧ (e < 4) ∧ ((l &&& breakLines s e) ≠ 0))
    (put [nst NS.run, (P.enc, F.ENCODER_ENC_CFG_EN 2, 1), (P.enc, F.ENCODER_ENC_CFG_BREAK_EN 2, 1)]) (2) (1) := by decide +kernel
theorem witness_encoderBreakClear : (fun (s : State) (e : Nat) => (fieldOn s = true) ∧ (e < 4) ∧ (s.on P.enc (F.ENCODER_ENC_STAT_BREAK e) = true))
    (put [nst NS.run, (P.enc, F.ENCODER_ENC_STAT_BREAK 2, 1)]) (2) := by decide +kernel
theorem witness_clkLost : (fun (s : State) (e : Nat) => (fieldOn s = true) ∧ (s.on P.fdie F.FDIE_FD_STAT_CLK_LOST = false))
    (put [nst NS.run, (P.enc, F.ENCODER_ENC_CFG_EN 2, 1)]) (2) := by decide +kernel
theorem witness_fieldClockRestored : (fun (s : State) (l e : Nat) => (fieldOn s = true) ∧ (e < 4) ∧ (s.on P.fdie F.FDIE_FD_STAT_CLK_LOST = true))
    (put [nst NS.run, (P.fdie, F.FDIE_FD_STAT_CLK_LOST, 1)]) (0x30) (2) := by decide +kernel
theorem witness_adcRound : (fun (s : State) (r : List (Nat × Nat × Int)) (i j raw : Nat) (v : Int) => (fieldOn s = true) ∧ (i < 24 ∧ i ≠ 7) ∧ (s.bit P.adc F.ADC_SCAN_EN i = true) ∧ ((r.find? fun e => e.1 == i) = some (j, raw, v)))
    (put [nst NS.run, (P.adc, F.ADC_SCAN_EN, 2 ^ 9)]) ([(9, 100, 0)]) (9) (9) (100) (0) := by decide +kernel
theorem witness_fifoRead : (fun (s : State) (who : By) (i v : Nat) (r : List (Nat × Nat)) => (s.alive = true) ∧ (s.stitch.down = false) ∧ (tapShut s who P.adc = false) ∧ (s.field.fifo = (i, v) :: r))
    ({ put [nst NS.run] with field := { fifo := [(9, 5), (10, 6)] } }) (⟨0, 0⟩) (9) (5) ([(10, 6)]) := by decide +kernel
theorem witness_mbSel : (fun (s : State) (c : Nat) (who : By) (m : Nat) => (MayWrite s who (P.can (c % 8)) 0x100))
    ({ put [nst NS.run] with can := [(5, { mbs := [(7, { st := .ready })] })] }) (5) (⟨0, 0⟩) (7) := by
  refine ⟨by decide +kernel, by decide +kernel, by decide +kernel, by decide +kernel, by decide +kernel, by decide +kernel⟩
theorem witness_mbLoad : (fun (s : State) (c : Nat) (who : By) (m : Nat) => (MayWrite s who (P.can (c % 8)) 0x104) ∧ (canAllowed s = true) ∧ (s.cn (c % 8) F.CAN_MB_SEL_MBOX = m) ∧ ((mbox s (c % 8) m).st = .empty ∨ (mbox s (c % 8) m).st = .complete) ∧ (canBadFmt s (c % 8) (canStaged s (c % 8)) = false))
    (put [nst NS.run, (P.mgmt, F.MGMT_PWR_STAT_ON, 0x3FF), (P.can 5, F.CAN_MB_SEL_MBOX, 7), (P.can 5, F.CAN_MB_FMT_LEN, 8)]) (5) (⟨0, 0⟩) (7) := by
  refine ⟨⟨by decide +kernel, by decide +kernel, by decide +kernel, by decide +kernel, by decide +kernel, by decide +kernel⟩, by decide +kernel, by decide +kernel, by decide +kernel, by decide +kernel⟩
theorem witness_mbArm : (fun (s : State) (c : Nat) (who : By) (m : Nat) => (MayWrite s who (P.can (c % 8)) 0x104) ∧ (canAllowed s = true) ∧ (s.cn (c % 8) F.CAN_MB_SEL_MBOX = m) ∧ ((mbox s (c % 8) m).st = .empty ∨ (mbox s (c % 8) m).st = .complete) ∧ (canBadFmt s (c % 8) (canStaged s (c % 8)) = false))
    (put [nst NS.run, (P.mgmt, F.MGMT_PWR_STAT_ON, 0x3FF), (P.can 5, F.CAN_MB_SEL_MBOX, 7), (P.can 5, F.CAN_MB_FMT_LEN, 8)]) (5) (⟨0, 0⟩) (7) := by
  refine ⟨⟨by decide +kernel, by decide +kernel, by decide +kernel, by decide +kernel, by decide +kernel, by decide +kernel⟩, by decide +kernel, by decide +kernel, by decide +kernel, by decide +kernel⟩
theorem witness_mbClear : (fun (s : State) (c : Nat) (who : By) (m : Nat) => (MayWrite s who (P.can (c % 8)) 0x104) ∧ (canAllowed s = true) ∧ (s.cn (c % 8) F.CAN_MB_SEL_MBOX = m) ∧ ((mbox s (c % 8) m).st ≠ .active))
    ({ put [nst NS.run, (P.mgmt, F.MGMT_PWR_STAT_ON, 0x3FF), (P.can 5, F.CAN_MB_SEL_MBOX, 7)] with can := [(5, { mbs := [(7, { st := .complete, result := 1 })] })] }) (5) (⟨0, 0⟩) (7) := by
  refine ⟨⟨by decide +kernel, by decide +kernel, by decide +kernel, by decide +kernel, by decide +kernel, by decide +kernel⟩, by decide +kernel, by decide +kernel, by decide +kernel⟩
theorem witness_mbCancel : (fun (s : State) (c : Nat) (who : By) (m k : Nat) => (MayWrite s who (P.can (c % 8)) 0x080) ∧ (k < 32) ∧ (bitOf m k = true) ∧ ((mbox s (c % 8) k).st = .ready ∨ (mbox s (c % 8) k).st = .armed))
    ({ put [nst NS.run] with can := [(5, { mbs := [(7, { st := .ready })] })] }) (5) (⟨0, 0⟩) (128) (7) := by
  refine ⟨⟨by decide +kernel, by decide +kernel, by decide +kernel, by decide +kernel, by decide +kernel, by decide +kernel⟩, by decide +kernel, by decide +kernel, by decide +kernel⟩
theorem witness_canSof : (fun (s : State) (c x m : Nat) (d : Option Nat) => (s.alive = true) ∧ (c < 8) ∧ (canTakesPart s c = true) ∧ (canErr s c ≤ 1) ∧ ((can s c).att = none) ∧ ((can s c).rx = none) ∧ (s.cn c F.CAN_CAN_CFG_LISTEN_ONLY = 0 ∧ s.cn c F.CAN_CAN_CFG_RESTRICTED = 0) ∧ (tunHead s c = none) ∧ (canChoose (s.atTime x) c x = some (some m)))
    ({ put [nst NS.run, (P.mgmt, F.MGMT_PWR_STAT_ON, 0x3FF)] with can := [(5, { integ := true, mbs := [(7, { st := .ready, f := { len := 8 } })] })] }) (5) (100) (7) (some 200) := by decide +kernel
theorem witness_canSof_dataErr : (fun (s : State) (c x m : Nat) (d : Option Nat) => (s.alive = true) ∧ (c < 8) ∧ (canTakesPart s c = true) ∧ (canErr s c ≤ 1) ∧ ((can s c).att = none) ∧ ((can s c).rx = none) ∧ (s.cn c F.CAN_CAN_CFG_LISTEN_ONLY = 0 ∧ s.cn c F.CAN_CAN_CFG_RESTRICTED = 0) ∧ (tunHead s c = none) ∧ (canChoose (s.atTime x) c x = some (some m)))
    ({ put [nst NS.run, (P.mgmt, F.MGMT_PWR_STAT_ON, 0x3FF)] with can := [(5, { integ := true, mbs := [(7, { st := .ready, f := { len := 8 } })] })] }) (5) (100) (7) (none) := by decide +kernel
theorem witness_canFrameSent : (fun (s : State) (c m : Nat) => (s.alive = true) ∧ (c < 8) ∧ ((can s c).att = some (some m)))
    ({ put [nst NS.run] with can := [(5, { att := some (some 7), mbs := [(7, { st := .active, f := { len := 8 } })] })] }) (5) (7) := by decide +kernel
theorem witness_canAttemptFailed : (fun (s : State) (c : Nat) (a b : Bool) => (s.alive = true) ∧ (c < 8) ∧ ((can s c).att ≠ none))
    ({ put [nst NS.run] with can := [(5, { att := some (some 7), mbs := [(7, { st := .active, f := { len := 8 } })] })] }) (5) (false) (false) := by decide +kernel
theorem witness_canAttemptFailed_err : (fun (s : State) (c k : Nat) (a b : Bool) => (s.alive = true) ∧ (c < 8) ∧ ((can s c).att ≠ none) ∧ (k ≠ 0) ∧ (s.cn c F.CAN_ERR_STAT_TEC + 8 ≤ 255))
    ({ put [nst NS.run] with can := [(5, { att := some (some 7), mbs := [(7, { st := .active, f := { len := 8 } })] })] }) (5) (3) (true) (false) := by decide +kernel
theorem witness_busOff : (fun (s : State) (c : Nat) => (s.alive = true) ∧ (c < 8) ∧ (255 < s.cn c F.CAN_ERR_STAT_TEC) ∧ (canErr s c ≤ 1))
    ({ put [nst NS.run, (P.can 5, F.CAN_ERR_STAT_TEC, 256)] with can := [(5, { att := some (some 7), mbs := [(7, { st := .active, f := { len := 8 } })] })] }) (5) := by decide +kernel
theorem witness_recover : (fun (s : State) (c : Nat) (who : By) => (MayWrite s who (P.can (c % 8)) 0x060) ∧ (canErr s (c % 8) = 2))
    (put [nst NS.run, (P.can 5, F.CAN_ERR_STAT_STATE, 2)]) (5) (⟨0, 0⟩) := by
  refine ⟨⟨by decide +kernel, by decide +kernel, by decide +kernel, by decide +kernel, by decide +kernel, by decide +kernel⟩, by decide +kernel⟩
theorem witness_recoveryEnd : (fun (s : State) (c : Nat) => (s.alive = true) ∧ (c < 8) ∧ (canErr s c = 3))
    (put [nst NS.run, (P.can 5, F.CAN_ERR_STAT_STATE, 3), (P.can 5, F.CAN_ERR_STAT_TEC, 256)]) (5) := by decide +kernel
theorem witness_canWindowEnd : (fun (s : State) (c w x m : Nat) => (s.alive = true) ∧ (c < 8) ∧ (w < 16) ∧ (s.cn c F.CAN_SCHED_CFG_EN = 1) ∧ (s.cn c (F.CAN_WIN_A_KIND w) = 1) ∧ (lowestBit (s.cn c (F.CAN_WIN_B_MASK w)) = some m) ∧ ((mbox s c m).st = .ready ∧ (mbox s c m).f.sched = true))
    ({ put [nst NS.run, (P.can 5, F.CAN_SCHED_CFG_EN, 1), (P.can 5, F.CAN_WIN_A_KIND 2, 1), (P.can 5, F.CAN_WIN_B_MASK 2, 128)] with can := [(5, { mbs := [(7, { st := .ready, f := { len := 8, sched := true, winAbort := true } })] })] }) (5) (2) (700) (7) := by decide +kernel
theorem witness_canFrameReceived : (fun (s : State) (c x : Nat) (f : CanRx) (k q : Nat) => (s.alive = true) ∧ (c < 8) ∧ (canTakesPart s c = true) ∧ (s.cn c F.CAN_CAN_CFG_LOOPBACK = 0) ∧ (canErr s c ≤ 1) ∧ (f.start = false) ∧ (f.fmt ≤ canProto s c) ∧ (s.on P.ecl F.ECLIPSE_ECL_CFG_EV_EN = false) ∧ (canFilter s c { ide := f.ide, rtr := f.rtr, id := f.id, fmt := f.fmt, brs := f.brs, len := f.data.length, sdt := f.sdt, vcid := f.vcid, sec := f.sec, af := f.af, data := f.data } = some k) ∧ (s.cn c (F.CAN_FLT_ACT_STORE k) = 1 ∧ s.cn c (F.CAN_FLT_ACT_TUN k) = 0) ∧ (canRxq s c (s.cn c (F.CAN_FLT_ACT_RXQ k)) = q) ∧ (112 ≤ q ∧ q < 1024 ∧ qType s q ≠ 0) ∧ (s.on (P.queue q) (F.QUEUE_Q_CFG_OVERWRITE (q % 16)) = false) ∧ (admits s q (itemCells 24 f.data.length) = 1))
    ({ put [nst NS.run, (P.mgmt, F.MGMT_PWR_STAT_ON, 0x3FF), (P.can 5, F.CAN_FLT_ID_EN 3, 1), (P.can 5, F.CAN_FLT_ID_ID 3, 0x123), (P.can 5, F.CAN_FLT_MASK_MASK 3, 0x7FF), (P.can 5, F.CAN_FLT_ACT_FMTS 3, 7), (P.can 5, F.CAN_FLT_ACT_STORE 3, 1), (P.can 5, F.CAN_RXQ_A_QUEUE0, 200), (P.queue 200, F.QUEUE_Q_CFG_TYPE 8, 2)] with can := [(5, { integ := true })] }) (5) (700) ({ ide := false, rtr := false, id := 0x123, fmt := 0, brs := false, esi := false, sdt := 0, vcid := 0, sec := false, af := 0, data := [1, 2], start := false }) (3) (200) := by decide +kernel
theorem witness_tunnelField : (fun (s : State) (f : Frame) (c q : Nat) => (s.alive = true) ∧ (canAllowed s = true) ∧ (f.typ = 0xA ∧ f.w3 / 2 ^ 28 = 0) ∧ (((List.range 8).find? fun c => (List.range 8).any fun i => s.cn c (F.CAN_TIN_EN i) == 1 &&
      s.cn c (F.CAN_TIN_STREAM i) == f.w3 / 2 ^ 16 % 256 && (s.cn c (F.CAN_TIN_ANY_SRC i) == 1 || s.cn c (F.CAN_TIN_SRC i) == f.src)) = some c) ∧ (s.cn c F.CAN_AUX_Q_TUN_QUEUE = q) ∧ (112 ≤ q ∧ q < 1024 ∧ qType s q ≠ 0) ∧ (s.on (P.queue q) (F.QUEUE_Q_CFG_OVERWRITE (q % 16)) = false) ∧ (admits s q (itemCells (headBytes f).length f.pay.length) = 1))
    (put [nst NS.run, (P.mgmt, F.MGMT_PWR_STAT_ON, 0x3FF), (P.can 5, F.CAN_TIN_EN 2, 1), (P.can 5, F.CAN_TIN_STREAM 2, 9), (P.can 5, F.CAN_TIN_ANY_SRC 2, 1), (P.can 5, F.CAN_AUX_Q_TUN_QUEUE, 200), (P.queue 200, F.QUEUE_Q_CFG_TYPE 8, 2)]) ({ typ := 0xA, w3 := 0x90000, src := 7, pay := [1, 2, 3] }) (5) (200) := by decide +kernel
theorem witness_receiveError : (fun (s : State) (c k : Nat) (b : Bool) (d : Nat) => (s.alive = true) ∧ (c < 8) ∧ (canTakesPart s c = true) ∧ (s.cn c F.CAN_CAN_CFG_LOOPBACK = 0) ∧ (canErr s c ≤ 1))
    ({ put [nst NS.run, (P.mgmt, F.MGMT_PWR_STAT_ON, 0x3FF)] with can := [(5, { integ := true })] }) (5) (3) (true) (8) := by decide +kernel
theorem witness_busIntegration : (fun (s : State) (c : Nat) => (s.alive = true) ∧ (c < 8) ∧ (canAllowed s = true) ∧ (s.enabled (P.can c) = true) ∧ (s.stopReq (P.can c) = false))
    (put [nst NS.run, (P.mgmt, F.MGMT_PWR_STAT_ON, 0x3FF)]) (5) := by decide +kernel
theorem witness_jump : (fun (s : State) (e w : Nat) (b : Bool) => (pioAt s e .jump w = true))
    (put [nst NS.run, (P.pio 5, F.PIO_ENG_STAT_RUNNING, 1), (P.pio 5, F.PIO_ENG_STAT_PC, 3), (P.pio 5, F.PIO_INSTR_INSTR 3, 0x0380)]) (5) (0x0380) (true) := by decide +kernel
theorem witness_waitSig : (fun (s : State) (e w : Nat) (b : Bool) => (pioAt s e .waitSig w = true) ∧ (pioIn s (s.rd (P.pio e) F.PIO_WINDOWS_B_SI_FIRST + bitsOf w 7 6) b = bitOf w 13))
    (put [nst NS.run, (P.pio 5, F.PIO_ENG_STAT_RUNNING, 1), (P.pio 5, F.PIO_ENG_STAT_PC, 3), (P.pio 5, F.PIO_INSTR_INSTR 3, 0x2001)]) (5) (0x2001) (true) := by decide +kernel
theorem witness_waitTrig : (fun (s : State) (e w : Nat) => (pioAt s e .waitTrig w = true) ∧ (s.bit (P.pio e) F.PIO_TRIG_PENDING (bitsOf w 7 2) = true))
    (put [nst NS.run, (P.pio 5, F.PIO_ENG_STAT_RUNNING, 1), (P.pio 5, F.PIO_ENG_STAT_PC, 3), (P.pio 5, F.PIO_INSTR_INSTR 3, 0x4101), (P.pio 5, F.PIO_TRIG_PENDING, 4)]) (5) (0x4101) := by decide +kernel
theorem witness_waitTick : (fun (s : State) (e w : Nat) (n : Nat) => (pioAt s e .waitTick w = true) ∧ ((s.eng e).waitFrom = some n) ∧ (n < s.ticks))
    ({ put [nst NS.run, (P.pio 5, F.PIO_ENG_STAT_RUNNING, 1), (P.pio 5, F.PIO_ENG_STAT_PC, 3), (P.pio 5, F.PIO_INSTR_INSTR 3, 0xC001)] with pio := [(5, { waitFrom := some 3 })], time := { ticks := 4 } }) (5) (0xC001) (3) := by decide +kernel
theorem witness_setLevels : (fun (s : State) (e w : Nat) (k : Nat) => (pioAt s e .setLevels w = true) ∧ (k < s.rd (P.pio e) F.PIO_WINDOWS_A_ST_WIDTH) ∧ (pioOwns s e (s.rd (P.pio e) F.PIO_WINDOWS_A_ST_FIRST + k) = true) ∧ (s.rd (P.pio e) F.PIO_WINDOWS_A_ST_FIRST + k < 160))
    (put [nst NS.run, (P.pio 5, F.PIO_ENG_STAT_RUNNING, 1), (P.pio 5, F.PIO_ENG_STAT_PC, 3), (P.pio 5, F.PIO_INSTR_INSTR 3, 0x0102), (P.pio 5, F.PIO_WINDOWS_A_ST_FIRST, 20), (P.pio 5, F.PIO_WINDOWS_A_ST_WIDTH, 3), (P.pinmux, F.PINMUX_PIN_OWNER 21, 2), (P.pinmux, F.PINMUX_PIN_ENGINE 21, 5)]) (5) (0x0102) (1) := by decide +kernel
theorem witness_setDrives : (fun (s : State) (e w : Nat) (k : Nat) => (pioAt s e .setDrives w = true) ∧ (k < s.rd (P.pio e) F.PIO_WINDOWS_A_ST_WIDTH) ∧ (pioOwns s e (s.rd (P.pio e) F.PIO_WINDOWS_A_ST_FIRST + k) = true) ∧ (s.rd (P.pio e) F.PIO_WINDOWS_A_ST_FIRST + k < 96))
    (put [nst NS.run, (P.pio 5, F.PIO_ENG_STAT_RUNNING, 1), (P.pio 5, F.PIO_ENG_STAT_PC, 3), (P.pio 5, F.PIO_INSTR_INSTR 3, 0x4102), (P.pio 5, F.PIO_WINDOWS_A_ST_FIRST, 20), (P.pio 5, F.PIO_WINDOWS_A_ST_WIDTH, 3), (P.pinmux, F.PINMUX_PIN_OWNER 21, 2), (P.pinmux, F.PINMUX_PIN_ENGINE 21, 5)]) (5) (0x4102) (1) := by decide +kernel
theorem witness_setSr : (fun (s : State) (e w : Nat) => (pioAt s e .setSr w = true))
    (put [nst NS.run, (P.pio 5, F.PIO_ENG_STAT_RUNNING, 1), (P.pio 5, F.PIO_ENG_STAT_PC, 3), (P.pio 5, F.PIO_INSTR_INSTR 3, 0x8182)]) (5) (0x8182) := by decide +kernel
theorem witness_setFlag : (fun (s : State) (e w : Nat) => (pioAt s e .setFlag w = true))
    (put [nst NS.run, (P.pio 5, F.PIO_ENG_STAT_RUNNING, 1), (P.pio 5, F.PIO_ENG_STAT_PC, 3), (P.pio 5, F.PIO_INSTR_INSTR 3, 0xC182)]) (5) (0xC182) := by decide +kernel
theorem witness_cmpLoadi : (fun (s : State) (e w : Nat) => (pioAt s e .loadi w = true))
    (put [nst NS.run, (P.pio 5, F.PIO_ENG_STAT_RUNNING, 1), (P.pio 5, F.PIO_ENG_STAT_PC, 3), (P.pio 5, F.PIO_INSTR_INSTR 3, 0x0183)]) (5) (0x0183) := by decide +kernel
theorem witness_cmpLoadr : (fun (s : State) (e w : Nat) => (pioAt s e .loadr w = true))
    (put [nst NS.run, (P.pio 5, F.PIO_ENG_STAT_RUNNING, 1), (P.pio 5, F.PIO_ENG_STAT_PC, 3), (P.pio 5, F.PIO_INSTR_INSTR 3, 0x2003), (P.pio 5, F.PIO_CMP_PRESET_V, 77)]) (5) (0x2003) := by decide +kernel
theorem witness_cmpDec : (fun (s : State) (e w : Nat) => (pioAt s e .dec w = true))
    (put [nst NS.run, (P.pio 5, F.PIO_ENG_STAT_RUNNING, 1), (P.pio 5, F.PIO_ENG_STAT_PC, 3), (P.pio 5, F.PIO_INSTR_INSTR 3, 0x4003)]) (5) (0x4003) := by decide +kernel
theorem witness_cmpMatch : (fun (s : State) (e w : Nat) => (pioAt s e .mtch w = true))
    (put [nst NS.run, (P.pio 5, F.PIO_ENG_STAT_RUNNING, 1), (P.pio 5, F.PIO_ENG_STAT_PC, 3), (P.pio 5, F.PIO_INSTR_INSTR 3, 0x6003), (P.pio 5, F.PIO_SR_SR, 6)]) (5) (0x6003) := by decide +kernel
theorem witness_cmpTakeq : (fun (s : State) (e w : Nat) (v : Nat) (r : List Nat) => (pioAt s e .takeq w = true) ∧ ((s.eng e).outq = v :: r))
    ({ put [nst NS.run, (P.pio 5, F.PIO_ENG_STAT_RUNNING, 1), (P.pio 5, F.PIO_ENG_STAT_PC, 3), (P.pio 5, F.PIO_INSTR_INSTR 3, 0x8003)] with pio := [(5, { outq := [9, 8] })] }) (5) (0x8003) (9) ([8]) := by decide +kernel
theorem witness_shiftOut : (fun (s : State) (e w : Nat) => (pioAt s e .shiftOut w = true) ∧ (s.on (P.pio e) F.PIO_ENG_CFG_SO_ORDER = false))
    (put [nst NS.run, (P.pio 5, F.PIO_ENG_STAT_RUNNING, 1), (P.pio 5, F.PIO_ENG_STAT_PC, 3), (P.pio 5, F.PIO_INSTR_INSTR 3, 0x0384), (P.pio 5, F.PIO_SR_SR, 0xABCD1234)]) (5) (0x0384) := by decide +kernel
theorem witness_shiftIn : (fun (s : State) (e w : Nat) (l : Nat) => (pioAt s e .shiftIn w = true) ∧ (s.on (P.pio e) F.PIO_ENG_CFG_SI_ORDER = false))
    (put [nst NS.run, (P.pio 5, F.PIO_ENG_STAT_RUNNING, 1), (P.pio 5, F.PIO_ENG_STAT_PC, 3), (P.pio 5, F.PIO_INSTR_INSTR 3, 0x0385), (P.pio 5, F.PIO_SR_SR, 0xABCD1234)]) (5) (0x0385) (0xA5) := by decide +kernel
theorem witness_pull : (fun (s : State) (e w : Nat) (v : Nat) (r : List Nat) => (pioAt s e .pull w = true) ∧ ((s.eng e).outq = v :: r))
    ({ put [nst NS.run, (P.pio 5, F.PIO_ENG_STAT_RUNNING, 1), (P.pio 5, F.PIO_ENG_STAT_PC, 3), (P.pio 5, F.PIO_INSTR_INSTR 3, 6)] with pio := [(5, { outq := [9, 8] })] }) (5) (6) (9) ([8]) := by decide +kernel
theorem witness_pioPush : (fun (s : State) (e w : Nat) => (pioAt s e .push w = true) ∧ ((s.eng e).inq.length < 8))
    (put [nst NS.run, (P.pio 5, F.PIO_ENG_STAT_RUNNING, 1), (P.pio 5, F.PIO_ENG_STAT_PC, 3), (P.pio 5, F.PIO_INSTR_INSTR 3, 7), (P.pio 5, F.PIO_SR_SR, 0x1234)]) (5) (7) := by decide +kernel
theorem witness_outqW : (fun (s : State) (e : Nat) (who : By) (v : Nat) => (MayWrite s who (P.pio (e % 24)) 0x05C) ∧ ((s.eng (e % 24)).outq.length < 8))
    (put [nst NS.run, (P.mgmt, F.MGMT_PWR_STAT_ON, 0x3FF)]) (5) (⟨0, 0⟩) (77) := by
  refine ⟨⟨by decide +kernel, by decide +kernel, by decide +kernel, by decide +kernel, by decide +kernel, by decide +kernel⟩, by decide +kernel⟩
theorem witness_inqR : (fun (s : State) (e : Nat) (who : By) (v : Nat) (r : List Nat) => (s.alive = true) ∧ (tapShut s who (P.pio (e % 24)) = false) ∧ ((s.eng (e % 24)).inq = v :: r))
    ({ put [nst NS.run, (P.mgmt, F.MGMT_PWR_STAT_ON, 0x3FF)] with pio := [(5, { inq := [9, 8] })] }) (5) (⟨0, 0⟩) (9) ([8]) := by decide +kernel
theorem witness_trigForce : (fun (s : State) (e : Nat) (who : By) (m k : Nat) => (MayWrite s who (P.pio (e % 24)) 0x074) ∧ (k < 4) ∧ (bitOf m k = true))
    (put [nst NS.run, (P.mgmt, F.MGMT_PWR_STAT_ON, 0x3FF)]) (5) (⟨0, 0⟩) (4) (2) := by
  refine ⟨⟨by decide +kernel, by decide +kernel, by decide +kernel, by decide +kernel, by decide +kernel, by decide +kernel⟩, by decide +kernel, by decide +kernel⟩
theorem witness_flushOutq : (fun (s : State) (e : Nat) (who : By) => (MayWrite s who (P.pio (e % 24)) 0x078) ∧ (s.stopped (P.pio (e % 24)) = true))
    ({ put [nst NS.run, (P.mgmt, F.MGMT_PWR_STAT_ON, 0x3FF), (P.pio 5, F.HDR_PAGE_STAT_STOPPED, 1)] with pio := [(5, { outq := [9, 8] })] }) (5) (⟨0, 0⟩) := by
  refine ⟨⟨by decide +kernel, by decide +kernel, by decide +kernel, by decide +kernel, by decide +kernel, by decide +kernel⟩, by decide +kernel⟩
theorem witness_flushInq : (fun (s : State) (e : Nat) (who : By) => (MayWrite s who (P.pio (e % 24)) 0x078) ∧ (s.stopped (P.pio (e % 24)) = true))
    ({ put [nst NS.run, (P.mgmt, F.MGMT_PWR_STAT_ON, 0x3FF), (P.pio 5, F.HDR_PAGE_STAT_STOPPED, 1)] with pio := [(5, { inq := [9, 8] })] }) (5) (⟨0, 0⟩) := by
  refine ⟨⟨by decide +kernel, by decide +kernel, by decide +kernel, by decide +kernel, by decide +kernel, by decide +kernel⟩, by decide +kernel⟩
theorem witness_engineStart : (fun (s : State) (e : Nat) => (s.alive = true) ∧ (e < 24) ∧ (pioRunning s e = false) ∧ (pioMayRun s e = true))
    (put [nst NS.run, (P.mgmt, F.MGMT_PWR_STAT_ON, 0x3FF), (P.pio 5, F.HDR_PAGE_CTRL_ENABLE, 1), (P.pio 5, F.PIO_ENG_CFG_RUN, 1)]) (5) := by decide +kernel
theorem witness_instrWrite : (fun (s : State) (e : Nat) (who : By) (k v : Nat) => (MayWrite s who (P.pio (e % 24)) (0x100 + 4 * k)) ∧ (k < 32) ∧ (s.stopped (P.pio (e % 24)) = true))
    (put [nst NS.run, (P.mgmt, F.MGMT_PWR_STAT_ON, 0x3FF), (P.pio 5, F.HDR_PAGE_STAT_STOPPED, 1)]) (5) (⟨0, 0⟩) (3) (0x1234) := by
  refine ⟨⟨by decide +kernel, by decide +kernel, by decide +kernel, by decide +kernel, by decide +kernel, by decide +kernel⟩, by decide +kernel, by decide +kernel⟩
theorem witness_ethFrameReceived : (fun (s : State) (m : Nat) (b : List Nat) (x q : Nat) => (m < 4) ∧ (ethOn s = true) ∧ (s.on (P.eth m) F.ETH_LINK_STAT_UP = true) ∧ (14 ≤ b.length ∧ b.length + 4 ≤ ethMax s m) ∧ (tagged b = true ∧ etherType b = 0x88F7) ∧ (s.et m F.ETH_QUEUES_RX_QUEUE = q) ∧ (112 ≤ q ∧ q < 1024 ∧ qType s q ≠ 0) ∧ (s.on (P.queue q) (F.QUEUE_Q_CFG_OVERWRITE (q % 16)) = false) ∧ (admits s q (itemCells 8 b.length) = 1))
    (put [nst NS.run, (P.mgmt, F.MGMT_PWR_STAT_ON, 0x3FF), (P.eth 2, F.ETH_LINK_STAT_UP, 1), (P.eth 2, F.ETH_QUEUES_RX_QUEUE, 200), (P.queue 200, F.QUEUE_Q_CFG_TYPE 8, 2)]) (2) ((List.replicate 12 0 ++ [0x81, 0, 0, 1, 0x88, 0xF7, 1, 2])) (7000) (200) := by decide +kernel
theorem witness_tunnelEth : (fun (s : State) (i : Nat) (f : Frame) (d : TunRx) (m k : Nat) => (lanesOn s = true) ∧ (i < 4) ∧ (deliversLocal s = true) ∧ (f.typ = 9) ∧ (f.mc = false ∧ isOwn s f.dst = true) ∧ ((s.lane i).tun = some d ∧ d.frame = f ∧ d.ended = true) ∧ (tinMatch s (List.range 4) f = some (m, k)) ∧ (ethBroadcast f.pay = false ∧ bitOf f.w3 15 = false ∧ s.et m (F.ETH_TIN_UNTAG k) = 0) ∧ (portDown s (4 + m) = false) ∧ (admits s (outQueue (4 + m) f.cls) (ringCells f) = 1))
    ({ put ([nst NS.run, up 0, (P.mgmt, F.MGMT_PWR_STAT_ON, 0x3FF), (P.eth 2, F.ETH_TIN_EN 3, 1), (P.eth 2, F.ETH_TIN_STREAM 3, 9), (P.eth 2, F.ETH_TIN_ANY_SRC 3, 1), (P.eth 2, F.ETH_LINK_STAT_UP, 1)] ++ addr 5) with lanes := [(0, { tun := some { id := 4, frame := { typ := 9, cls := 1, dst := 5, src := 7, w3 := 0x90000, pay := List.replicate 12 0 ++ [0x81, 0, 0, 1, 0x08, 0, 1, 2] }, pend := false, took := false, refused := false, ended := true } })] }) (0) ({ typ := 9, cls := 1, dst := 5, src := 7, w3 := 0x90000, pay := List.replicate 12 0 ++ [0x81, 0, 0, 1, 0x08, 0, 1, 2] }) ({ id := 4, frame := { typ := 9, cls := 1, dst := 5, src := 7, w3 := 0x90000, pay := List.replicate 12 0 ++ [0x81, 0, 0, 1, 0x08, 0, 1, 2] }, pend := false, took := false, refused := false, ended := true }) (2) (3) := by decide +kernel
theorem witness_txCtrl : (fun (s : State) (m : Nat) (who : By) (b : Bool) (n o c : Nat) => (MayWrite s who (P.eth (m % 4)) 0x07C) ∧ (s.working = true) ∧ (ethOn s = true) ∧ (14 ≤ n ∧ n + 4 ≤ ethMax s (m % 4)) ∧ (s.rdi (P.eth (m % 4)) F.ETH_TX_ADDR_OFFSET (iniIdx who.ini) = o ∧ o + n ≤ 0x200000) ∧ (portDown s (4 + m % 4) = false) ∧ (pcpClass s (m % 4) (if tagged (s.memRead (0x10200000 + o) n) then pcpOf (s.memRead (0x10200000 + o) n) else s.et (m % 4) F.ETH_VLAN_CFG_DEF_PCP) = c) ∧ (admits s (outQueue (4 + m % 4) c) (ceilDiv (n + 4) 256) = 1))
    (put [nst NS.run, (P.mgmt, F.MGMT_PWR_STAT_ON, 0x3FF), (P.eth 2, F.ETH_LINK_STAT_UP, 1)]) (2) (⟨0, 0⟩) (false) (60) (0) (0) := by
  refine ⟨⟨by decide +kernel, by decide +kernel, by decide +kernel, by decide +kernel, by decide +kernel, by decide +kernel⟩, by decide +kernel, by decide +kernel, by decide +kernel, by decide +kernel, by decide +kernel, by decide +kernel, by decide +kernel⟩
theorem witness_ethLinkChange : (fun (s : State) (m : Nat) (b : Bool) (v w : Nat) => (m < 4) ∧ (ethOn s = true) ∧ ((if b then ethSpeed s m v else some (s.et m F.ETH_LINK_STAT_SPEED)) = some w))
    (put [nst NS.run, (P.mgmt, F.MGMT_PWR_STAT_ON, 0x3FF)]) (2) (true) (1) (1) := by decide +kernel
theorem witness_asOffHi : (fun (s : State) (m : Nat) (who : By) (v : Nat) => (MayWrite s who (P.eth (m % 4)) 0x06C))
    (put [nst NS.run]) (2) (⟨0, 0⟩) (77) := by
  refine ⟨by decide +kernel, by decide +kernel, by decide +kernel, by decide +kernel, by decide +kernel, by decide +kernel⟩
theorem witness_asTimeout : (fun (s : State) (m x : Nat) => (m < 4) ∧ (ethOn s = true) ∧ (s.on (P.eth m) F.ETH_AS_STAT_VALID = true) ∧ ((ethSt s m).asAt + max 10 (s.et m F.ETH_AS_TMO_MS) * 1000000 ≤ s.upAt x))
    (put [nst NS.run, (P.mgmt, F.MGMT_PWR_STAT_ON, 0x3FF), (P.eth 2, F.ETH_AS_STAT_VALID, 1)]) (2) (100000000000) := by decide +kernel
theorem witness_uartCharacter : (fun (s : State) (u c x : Nat) => (u < 16) ∧ (uartOn s u = true) ∧ (s.ua u F.UART_U_CFG_MODE = 1) ∧ (s.ua u F.UART_U_PKT_DELIM = 0) ∧ ((uart s u).rx.length + 1 < clampNat 1 2048 (s.ua u F.UART_U_PKT2_MAX_LEN)))
    ({ put [nst NS.run, (P.mgmt, F.MGMT_PWR_STAT_ON, 0x3FF), (P.uart 6, F.UART_U_CFG_MODE 2, 1), (P.uart 6, F.UART_U_PKT2_MAX_LEN 2, 50)] with uarts := [(6, { rx := [(65, false)] })] }) (6) (66) (900) := by decide +kernel
theorem witness_uartGap : (fun (s : State) (u : Nat) => (u < 16) ∧ (uartOn s u = true) ∧ ((uart s u).rx ≠ []) ∧ (s.ua u F.UART_U_PKT_DELIM ≠ 3))
    ({ put [nst NS.run, (P.mgmt, F.MGMT_PWR_STAT_ON, 0x3FF), (P.uart 6, F.UART_U_CFG_MODE 2, 1)] with uarts := [(6, { rx := [(65, false)] })] }) (6) := by decide +kernel
theorem witness_uTx : (fun (s : State) (u : Nat) (who : By) (b : Bool) (n : Nat) => (MayWrite s who (P.uart (u % 16)) (0x118 + 0x80 * (u % 16 % 4))) ∧ (uartOn s (u % 16) = true) ∧ (s.ua (u % 16) F.UART_U_CFG_MODE = 1) ∧ (1 ≤ n ∧ n ≤ 2048) ∧ ((uart s (u % 16)).tx = none ∧ (uart s (u % 16)).wait = none) ∧ (s.ua (u % 16) F.UART_U_TXADDR_OFFSET + n ≤ 0x200000))
    (put [nst NS.run, (P.mgmt, F.MGMT_PWR_STAT_ON, 0x3FF), (P.uart 6, F.UART_U_CFG_MODE 2, 1)]) (6) (⟨0, 0⟩) (true) (3) := by
  refine ⟨⟨by decide +kernel, by decide +kernel, by decide +kernel, by decide +kernel, by decide +kernel, by decide +kernel⟩, by decide +kernel, by decide +kernel, by decide +kernel, by decide +kernel, by decide +kernel⟩
theorem witness_uartTxEnd : (fun (s : State) (u : Nat) (l : List Nat) (a b : Bool) => (s.alive = true) ∧ (u < 16) ∧ ((uart s u).tx = some (l, a, b)))
    ({ put [nst NS.run, (P.mgmt, F.MGMT_PWR_STAT_ON, 0x3FF), (P.uart 6, F.UART_U_CFG_MODE 2, 1)] with uarts := [(6, { tx := some ([1, 2], false, true) })] }) (6) ([1, 2]) (false) (true) := by decide +kernel
theorem witness_hostRead : (fun (s : State) (a n : Nat) => (hostOn s = true) ∧ (n % 4 = 0 ∧ 4 ≤ n ∧ n ≤ 256) ∧ (hostAligned a n = true) ∧ (regionOf a = .data) ∧ (remoteOf s a = none))
    (put [nst NS.run, (P.mgmt, F.MGMT_PWR_STAT_ON, 0x3FF)]) (0x10200000) (8) := by decide +kernel
theorem witness_hostWrite : (fun (s : State) (a : Nat) (b : List Nat) (x : Nat) => (hostOn s = true) ∧ (b.length % 4 = 0 ∧ 4 ≤ b.length ∧ b.length ≤ 256) ∧ (hostAligned a b.length = true) ∧ (regionOf a = .data) ∧ (remoteOf s a = none) ∧ (((List.range b.length).all fun k => (s.imageOff (a + k)).isNone) = true))
    (put [nst NS.run, (P.mgmt, F.MGMT_PWR_STAT_ON, 0x3FF)]) (0x10310000) ([1, 2, 3, 4]) (0x10310001) := by decide +kernel
theorem witness_hostAbort : (fun (s : State) (b : Bool) (a n : Nat) => (hostOn s = true))
    (put [nst NS.run, (P.mgmt, F.MGMT_PWR_STAT_ON, 0x3FF)]) (false) (0) (4) := by decide +kernel
theorem witness_doorbell : (fun (s : State) (who : By) (v : Nat) => (MayWrite s who P.host 0x044))
    (put [nst NS.run]) (⟨0, 0⟩) (0x30005) := by
  refine ⟨by decide +kernel, by decide +kernel, by decide +kernel, by decide +kernel, by decide +kernel, by decide +kernel⟩
theorem witness_doorbellClr : (fun (s : State) (who : By) (v : Nat) => (MayWrite s who P.host 0x048))
    (put [nst NS.run, (P.host, F.HOSTPORT_DOORBELL_TO_HUB, 7)]) (⟨0, 0⟩) (0x30005) := by
  refine ⟨by decide +kernel, by decide +kernel, by decide +kernel, by decide +kernel, by decide +kernel, by decide +kernel⟩
theorem witness_program : (fun (s : State) (who : By) (a n : Nat) => (MayWrite s who P.flash 0x048) ∧ (s.on P.flash F.FLASH_FL_STAT_BUSY = false ∧ s.on P.log F.LOG_EXP_STAT_BUSY = false) ∧ (s.rd P.flash F.FLASH_FL_ADDR_ADDR = a ∧ s.rd P.flash F.FLASH_FL_BUF_LEN = n) ∧ (1 ≤ n ∧ a % 256 + n ≤ 256) ∧ (s.rd P.flash F.FLASH_FL_BUF_OFFSET + n ≤ 0x200000) ∧ (s.rd P.flash F.FLASH_FL_PROT_PROT_END * 0x10000 ≤ a))
    (put [nst NS.run, (P.flash, F.FLASH_FL_ADDR_ADDR, 0x700000), (P.flash, F.FLASH_FL_BUF_LEN, 3)]) (⟨0, 0⟩) (0x700000) (3) := by
  refine ⟨⟨by decide +kernel, by decide +kernel, by decide +kernel, by decide +kernel, by decide +kernel, by decide +kernel⟩, by decide +kernel, by decide +kernel, by decide +kernel, by decide +kernel, by decide +kernel⟩
theorem witness_erase4k : (fun (s : State) (who : By) (a : Nat) => (MayWrite s who P.flash 0x048) ∧ (s.on P.flash F.FLASH_FL_STAT_BUSY = false ∧ s.on P.log F.LOG_EXP_STAT_BUSY = false) ∧ (s.rd P.flash F.FLASH_FL_ADDR_ADDR = a) ∧ (s.rd P.flash F.FLASH_FL_PROT_PROT_END * 0x10000 ≤ a / 0x1000 * 0x1000))
    (put [nst NS.run, (P.flash, F.FLASH_FL_ADDR_ADDR, 0x700000)]) (⟨0, 0⟩) (0x700000) := by
  refine ⟨⟨by decide +kernel, by decide +kernel, by decide +kernel, by decide +kernel, by decide +kernel, by decide +kernel⟩, by decide +kernel, by decide +kernel, by decide +kernel⟩
theorem witness_erase64k : (fun (s : State) (who : By) (a : Nat) => (MayWrite s who P.flash 0x048) ∧ (s.on P.flash F.FLASH_FL_STAT_BUSY = false ∧ s.on P.log F.LOG_EXP_STAT_BUSY = false) ∧ (s.rd P.flash F.FLASH_FL_ADDR_ADDR = a) ∧ (s.rd P.flash F.FLASH_FL_PROT_PROT_END * 0x10000 ≤ a / 0x10000 * 0x10000))
    (put [nst NS.run, (P.flash, F.FLASH_FL_ADDR_ADDR, 0x700000)]) (⟨0, 0⟩) (0x700000) := by
  refine ⟨⟨by decide +kernel, by decide +kernel, by decide +kernel, by decide +kernel, by decide +kernel, by decide +kernel⟩, by decide +kernel, by decide +kernel, by decide +kernel⟩
theorem witness_flashDone : (fun (s : State) (a : Nat) (b : List Nat) (k : Nat) => (s.alive = true) ∧ (domOn s 7 = true) ∧ (s.ports.flash = some (1, a, b)) ∧ (k < b.length))
    ({ put [nst NS.run, (P.mgmt, F.MGMT_PWR_STAT_ON, 0x3FF)] with ports := { flash := some (1, 0x700000, [1, 2, 3]) }, mem := [(0x50700001, 6)] }) (0x700000) ([1, 2, 3]) (1) := by decide +kernel
theorem witness_flashDone_erase : (fun (s : State) (p a : Nat) (b : List Nat) (x : Nat) => (s.alive = true) ∧ (domOn s 7 = true) ∧ (s.ports.flash = some (p, a, b)) ∧ (p = 2 ∨ p = 3) ∧ (0x50000000 + (flashSpan p a 0).1 ≤ x ∧ x < 0x50000000 + (flashSpan p a 0).1 + (flashSpan p a 0).2))
    ({ put [nst NS.run, (P.mgmt, F.MGMT_PWR_STAT_ON, 0x3FF)] with ports := { flash := some (2, 0x700123, []) }, mem := [(0x50700001, 6)] }) (2) (0x700123) ([]) (0x50700001) := by decide +kernel
theorem witness_feedDiodeOn : (fun (s : State) (x : Nat) => (x < 2) ∧ (feedBit s x 0 = false))
    (put [nst NS.run]) (1) := by decide +kernel
theorem witness_feedReverse : (fun (s : State) (x : Nat) => (x < 2) ∧ (feedBit s x 3 = true))
    (put [nst NS.run, (P.power, F.POWER_FEED_STAT_A, 8)]) (0) := by decide +kernel
theorem witness_feedReversed : (fun (s : State) (x : Nat) => (x < 2))
    (put [nst NS.run, (P.power, F.POWER_FEED_STAT_A, 8)]) (0) := by decide +kernel
theorem witness_feedWindow : (fun (s : State) (x : Nat) (d : FeedIn) => (x < 2))
    (put [nst NS.run, (P.power, F.POWER_FEED_STAT_A, 0)]) (0) (⟨48000, 700⟩) := by decide +kernel
theorem witness_feedWindow_com : (fun (_s : State) (_d : FeedIn) => (True))
    (put [nst NS.run]) (⟨48000, 700⟩) := by decide +kernel
theorem witness_seatChange : (fun (s : State) (a b : Bool) (x : Nat) => (s.rd P.power F.POWER_FEED_STAT_SEAT ≠ b2n a * 2 + b2n b))
    (put [nst NS.run]) (true) (true) (700) := by decide +kernel
theorem witness_seatQualified : (fun (s : State) (x : Nat) => (ctlState s mainCtl = 1) ∧ (seated s = true) ∧ ((ctl s mainCtl).prot.isSome = true) ∧ (s.power.seatAt + seatTime s ≤ x))
    ({ put [nst NS.run, (P.power, F.POWER_MAIN_STAT_STATE, 1), (P.power, F.POWER_FEED_STAT_SEAT, 3)] with power := { comIn := true, seatAt := 700 } }) (65535000700) := by decide +kernel
theorem witness_rampDone : (fun (s : State) (c x : Nat) => (c ≤ 8) ∧ (ctlState s c = 2))
    (put [nst NS.run, (P.branch 3, F.BRANCH_BR_STAT_STATE, 2)]) (3) (700) := by decide +kernel
theorem witness_pgQualified : (fun (s : State) (c x : Nat) => (c ≤ 8) ∧ (ctlState s c = 3) ∧ (timerRuns s c = false) ∧ (((ctl s c).qual.any fun u => decide (u + pgQual s c ≤ x)) = true))
    ({ put [nst NS.run, (P.power, F.POWER_MAIN_STAT_STATE, 3), (P.power, F.POWER_MAIN_START_PG_QUAL, 10)] with power := { main := { qual := some 700 } } }) (8) (10000700) := by decide +kernel
theorem witness_powerEntryRestart : (fun (s : State) (c : Nat) => (c ≤ 8))
    (put [nst NS.run, (P.power, F.POWER_MAIN_STAT_STATE, 4), (P.branch 3, F.BRANCH_BR_STAT_STATE, 4)]) (3) := by decide +kernel
theorem witness_lastGasp : (fun (s : State) (x b : Nat) => (s.on P.power F.POWER_LG_STAT_ACTIVE = false) ∧ ((s.power.lowAt.any fun u => decide (u + max 1 (s.rd P.power F.POWER_LG_CFG_LG_FILT) * 1000 ≤ x)) = true) ∧ (pgMain s = true) ∧ (s.usb.svc = false) ∧ (b < 8) ∧ (bitOf (s.rd P.power F.POWER_LG_CFG_LG_KEEP) b = false))
    ({ put [nst NS.run, (P.power, F.POWER_FEED_STAT_A, 4), (P.power, F.POWER_FEED_STAT_B, 4), (P.power, F.POWER_MAIN_STAT_PG, 1), (P.branch 3, F.BRANCH_BR_CTRL_ON, 1)] with power := { lowAt := some 700 } }) (100700) (3) := by decide +kernel
theorem witness_lgRecover : (fun (s : State) => (s.on P.power F.POWER_LG_STAT_ACTIVE = true) ∧ (feedOk s = true))
    (put [nst NS.run, (P.power, F.POWER_FEED_STAT_A, 16), (P.power, F.POWER_LG_STAT_ACTIVE, 1)]) := by decide +kernel
theorem witness_shortCircuit : (fun (s : State) (c x : Nat) => (c ≤ 8) ∧ (gateOn s c = true))
    (put [nst NS.run, (P.branch 3, F.BRANCH_BR_STAT_STATE, 4)]) (3) (700) := by decide +kernel
theorem witness_soaTrip : (fun (s : State) (c x : Nat) (p : ProtSet) => (c ≤ 8) ∧ (ctlState s c = 2) ∧ ((ctl s c).prot = some p) ∧ (p.soa * 1000000000 < (ctl s c).energy))
    ({ put [nst NS.run, (P.branch 3, F.BRANCH_BR_STAT_STATE, 2)] with power := { br := [(3, { prot := some { rsense := 1000, iStart := 5, isc := 100, soa := 1, pts := [(0, 10, 1)] }, energy := 2000000000 })] } }) (3) (700) ({ rsense := 1000, iStart := 5, isc := 100, soa := 1, pts := [(0, 10, 1)] }) := by decide +kernel
theorem witness_dvdtTrip : (fun (s : State) (c : Nat) (d : RiseIn) => (c ≤ 8) ∧ (ctlState s c = 2) ∧ ((ctl s c).ramp + 1000000 ≤ d.t) ∧ (d.rise < 25 * slew s c))
    (put [nst NS.run, (P.branch 3, F.BRANCH_BR_STAT_STATE, 2), (P.branch 3, F.BRANCH_BR_START_SLEW, 10)]) (3) (⟨249, 1000000⟩) := by decide +kernel
theorem witness_startTo : (fun (s : State) (c x : Nat) => (c ≤ 8) ∧ (ctlState s c = 2) ∧ ((ctl s c).ramp + max 1 (s.ctl c F.POWER_MAIN_START_START_TO F.BRANCH_BR_START_START_TO) * 10000000 ≤ x))
    (put [nst NS.run, (P.branch 3, F.BRANCH_BR_STAT_STATE, 2)]) (3) (700000000000) := by decide +kernel
theorem witness_curveTrip : (fun (s : State) (c x : Nat) => (c ≤ 8) ∧ (ctlState s c = 3 ∨ ctlState s c = 4) ∧ (curveOver s c = true))
    ({ put [nst NS.run, (P.branch 3, F.BRANCH_BR_STAT_STATE, 4)] with power := { br := [(3, { prot := some { rsense := 1000, iStart := 5, isc := 100, soa := 1, pts := [(0, 10, 1)] }, acc := [(0, 101)] })] } }) (3) (700) := by decide +kernel
theorem witness_ovShutdown : (fun (s : State) (x : Nat) => (gateOn s mainCtl = true) ∧ ((s.power.ovAt.any fun u => decide (u + 10000 ≤ x)) = true))
    ({ put [nst NS.run, (P.power, F.POWER_MAIN_STAT_STATE, 4)] with power := { comOv := true, ovAt := some 700 } }) (10700) := by decide +kernel
theorem witness_retryWaitEnd : (fun (s : State) (c x : Nat) => (c ≤ 8) ∧ (ctlState s c = 5) ∧ ((ctl s c).till ≤ x))
    ({ put [nst NS.run, (P.branch 3, F.BRANCH_BR_STAT_STATE, 5), (P.branch 3, F.BRANCH_BR_CTRL_ON, 1)] with power := { br := [(3, { prot := some { rsense := 1000, iStart := 5, isc := 100, soa := 1, pts := [(0, 10, 1)] } })] } }) (3) (700) := by decide +kernel
theorem witness_retriesReset : (fun (s : State) (c x : Nat) => (c ≤ 8) ∧ (ctlPg s c = true) ∧ ((ctl s c).pgAt + 10000000000 ≤ x))
    (put [nst NS.run, (P.branch 3, F.BRANCH_BR_STAT_PG, 1), (P.branch 3, F.BRANCH_BR_STAT_RETRIES, 2)]) (3) (10000000000) := by decide +kernel
theorem witness_latchClear : (fun (s : State) (c : Nat) (who : By) => (MayWriteTo s who (ctlPage c) [if c = mainCtl then F.POWER_MAIN_CTRL_CLEAR else F.BRANCH_BR_CTRL_CLEAR]) ∧ (c ≤ 8) ∧ (ctlState s c = 6) ∧ (s.ctl c F.POWER_MAIN_CTRL_APPLY F.BRANCH_BR_CTRL_APPLY = 0) ∧ (s.rd (P.branch c) F.BRANCH_BR_CTRL_ON < 2))
    (put [nst NS.run, (P.branch 3, F.BRANCH_BR_STAT_STATE, 6)]) (3) (⟨0, 0⟩) := by
  refine ⟨⟨by decide +kernel, by decide +kernel, by decide +kernel, by decide +kernel, by decide +kernel, by decide +kernel⟩, by decide +kernel, by decide +kernel, by decide +kernel, by decide +kernel⟩
theorem witness_curveApply : (fun (s : State) (c : Nat) (who : By) => (MayWriteTo s who (ctlPage c) [if c = mainCtl then F.POWER_MAIN_CTRL_APPLY else F.BRANCH_BR_CTRL_APPLY]) ∧ (c ≤ 8) ∧ ((stagedSet s c).passes = true) ∧ (s.rd (P.branch c) F.BRANCH_BR_CTRL_ON < 2))
    (put [nst NS.run, (P.node, F.NODE_NODE_STATE_STATE, 6), (P.branch 3, F.BRANCH_BR_SNS_RSENSE, 1000), (P.branch 3, F.BRANCH_BR_LIM_I_START, 500), (P.branch 3, F.BRANCH_BR_ISC_ISC, 5000), (P.branch 3, F.BRANCH_BR_I_I 0, 1000), (P.branch 3, F.BRANCH_BR_T_T 0, 50)]) (3) (⟨0, 0⟩) := by
  refine ⟨⟨by decide +kernel, by decide +kernel, by decide +kernel, by decide +kernel, by decide +kernel, by decide +kernel⟩, by decide +kernel, by decide +kernel, by decide +kernel⟩
theorem witness_breakerSample : (fun (s : State) (c i : Nat) (d : FetIn) => (c ≤ 8) ∧ (ctlState s c = 2))
    (put [nst NS.run, (P.branch 3, F.BRANCH_BR_STAT_STATE, 2)]) (3) (20) (⟨30, 700⟩) := by decide +kernel
theorem witness_breakerSample_on : (fun (s : State) (c i : Nat) (d : FetIn) (p : ProtSet) (k j n : Nat) => (c ≤ 8) ∧ (ctlState s c = 3 ∨ ctlState s c = 4) ∧ ((ctl s c).prot = some p ∧ p.pts = [(k, j, n)] ∧ k < 8) ∧ (j < i))
    ({ put [nst NS.run, (P.branch 3, F.BRANCH_BR_STAT_STATE, 4)] with power := { br := [(3, { prot := some { rsense := 1000, iStart := 5, isc := 100, soa := 1, pts := [(0, 10, 1)] } })] } }) (3) (20) (⟨30, 700⟩) ({ rsense := 1000, iStart := 5, isc := 100, soa := 1, pts := [(0, 10, 1)] }) (0) (10) (1) := by decide +kernel
theorem witness_branchOn : (fun (s : State) (b : Nat) (who : By) => (MayWriteTo s who (P.branch (b % 8)) [F.BRANCH_BR_CTRL_ON]) ∧ (s.rd (P.branch (b % 8)) F.BRANCH_BR_CTRL_APPLY = 0) ∧ (branchAllowed s = true) ∧ (brOn s (b % 8) = false) ∧ (ctlState s (b % 8) = 0) ∧ ((ctl s (b % 8)).prot.isSome = true))
    ({ put [nst NS.run] with power := { br := [(3, { prot := some { rsense := 1000, iStart := 5, isc := 100, soa := 1, pts := [(0, 10, 1)] } })] } }) (3) (⟨0, 0⟩) := by
  refine ⟨⟨by decide +kernel, by decide +kernel, by decide +kernel, by decide +kernel, by decide +kernel, by decide +kernel⟩, by decide +kernel, by decide +kernel, by decide +kernel, by decide +kernel, by decide +kernel⟩
theorem witness_branchOff : (fun (s : State) (b : Nat) (who : By) => (MayWriteTo s who (P.branch (b % 8)) [F.BRANCH_BR_CTRL_ON]) ∧ (s.rd (P.branch (b % 8)) F.BRANCH_BR_CTRL_APPLY = 0) ∧ (brOn s (b % 8) = true))
    (put [nst NS.run, (P.branch 3, F.BRANCH_BR_STAT_STATE, 4), (P.branch 3, F.BRANCH_BR_CTRL_ON, 1)]) (3) (⟨0, 0⟩) := by
  refine ⟨⟨by decide +kernel, by decide +kernel, by decide +kernel, by decide +kernel, by decide +kernel, by decide +kernel⟩, by decide +kernel, by decide +kernel⟩
theorem witness_branchRampStart : (fun (s : State) (b x : Nat) => (b < 8) ∧ (ctlState s b = 1) ∧ (s.power.queue.head? = some b) ∧ (pgMain s = true) ∧ (((List.range 8).all fun y => ctlState s y != 2) = true) ∧ (∀ u, s.power.lastRamp = some u → u + max 1 (s.rd P.power F.POWER_STAGGER_CFG_STAGGER_GAP) * 1000000 ≤ x) ∧ (s.on P.fdie F.FDIE_FD_STAT_OVERTEMP = false))
    ({ put [nst NS.run, (P.branch 3, F.BRANCH_BR_STAT_STATE, 1), (P.power, F.POWER_MAIN_STAT_PG, 1), (P.power, F.POWER_STAGGER_CFG_STAGGER_GAP, 2)] with power := { queue := [3, 5], lastRamp := some 500 } }) (3) (2000500) := by
  refine ⟨by decide +kernel, by decide +kernel, by decide +kernel, by decide +kernel, by decide +kernel, ?_, by decide +kernel⟩
  intro u h
  cases h
  decide +kernel
theorem witness_vbus0Rise : (fun (s : State) => (s.usb.vbus0 = false))
    (put [nst NS.run]) := by decide +kernel
theorem witness_svcOverlapEnd : (fun (s : State) (u x : Nat) => (s.usb.overlap = some u) ∧ (u + max 1 (s.pd 0 F.PD_TRANS_CFG_SVC_OVERLAP) * 1000000 ≤ x))
    ({ put [nst NS.run] with usb := { svc := true, overlap := some 5 } }) (5) (90000000000) := by decide +kernel
theorem witness_serviceTakeover : (fun (s : State) (v w : Nat) => (s.alive = true) ∧ (s.pd 0 F.PD_PD_CFG_SVC_TAKEOVER = 1) ∧ (pdAttach s 0 = 1) ∧ (feedBit s 0 2 = true ∧ feedBit s 1 2 = true) ∧ ((if s.pd 0 F.PD_PD_STAT_CONTRACT = 1 then s.pd 0 F.PD_CONTRACT_V else 5000) = w) ∧ (95 * w ≤ 100 * v ∧ 100 * v ≤ 105 * w))
    (put [nst NS.run, (P.pd 0, F.PD_PD_STAT_ATTACH, 1), (P.pd 0, F.PD_PD_CFG_SVC_TAKEOVER, 1), (P.power, F.POWER_FEED_STAT_A, 4), (P.power, F.POWER_FEED_STAT_B, 4)]) (5000) (5000) := by decide +kernel
theorem witness_vbusOv : (fun (s : State) => (pdAttach s 0 = 1))
    ({ put [nst NS.run, (P.pd 0, F.PD_PD_STAT_ATTACH, 1)] with usb := { svc := true } }) := by decide +kernel
theorem witness_vbusOvClear : (fun (s : State) => (s.usb.ovOff = true) ∧ (pgMain s = false))
    ({ put [nst NS.run, (P.pd 0, F.PD_PD_STAT_ATTACH, 1)] with usb := { ovOff := true } }) := by decide +kernel
theorem witness_attach : (fun (s : State) (p : Nat) (b : Bool) (rp : Nat) (r : Bool) => (pdRuns s p = true) ∧ (pdAttach s p = 0) ∧ ((if p = 0 then !b || (s.pd 0 F.PD_PD_CFG_SRC_EN == 1 && !s.service && pgMain s) else b && supplyOk s) = true))
    (put [nst NS.run]) (0) (false) (2) (true) := by decide +kernel
theorem witness_detach : (fun (s : State) (p : Nat) => (s.alive = true) ∧ (p < 2) ∧ (pdAttach s p ≠ 0))
    (put [nst NS.run, (P.pd 1, F.PD_PD_STAT_ATTACH, 2)]) (1) := by decide +kernel
theorem witness_sourceCapabilities : (fun (s : State) (l : List (Nat × Nat × Bool)) => (pdRuns s 0 = true) ∧ (pdAttach s 0 = 1))
    (put [nst NS.run, (P.pd 0, F.PD_PD_STAT_ATTACH, 1), (P.pd 0, F.PD_PD_CFG_AUTO_SNK, 1)]) ([(5000, 3000, true), (9000, 2000, true)]) := by decide +kernel
theorem witness_request : (fun (s : State) (p : Nat) (who : By) (l : List (Nat × Nat × Bool)) => (MayWrite s who (P.pd (p % 2)) 0x070) ∧ (p % 2 = 0) ∧ (pdRuns s 0 = true) ∧ (pdAttach s 0 = 1) ∧ ((pdSt s 0).cmd = none ∧ ((pdSt s 0).ams = 9 ∨ (pdSt s 0).ams = 0 ∧ sinkTxOk s 0 = true)) ∧ ((pdSt s 0).caps = l ∧ l ≠ []))
    ({ put [nst NS.run, (P.pd 0, F.PD_PD_STAT_ATTACH, 1)] with usb := { port0 := { caps := [(5000, 3000, true)] } } }) (0) (⟨0, 0⟩) ([(5000, 3000, true)]) := by
  refine ⟨⟨by decide +kernel, by decide +kernel, by decide +kernel, by decide +kernel, by decide +kernel, by decide +kernel⟩, by decide +kernel, by decide +kernel, by decide +kernel, by decide +kernel, by decide +kernel⟩
theorem witness_requestReceived : (fun (s : State) (p n m v i : Nat) => (pdRuns s p = true) ∧ (pdAttach s p = 2) ∧ (p = 0 ∨ supplyOk s = true) ∧ (n ≠ 0) ∧ ((pdOffer s p)[n - 1]? = some (v, i)) ∧ (m ≤ i))
    (put [nst NS.run, (P.pd 0, F.PD_PD_STAT_ATTACH, 2)]) (0) (1) (500) (5000) (1500) := by decide +kernel
theorem witness_partnerAccept : (fun (s : State) (p : Nat) (b : Bool) => (pdRuns s p = true) ∧ ((pdSt s p).ams = 5))
    ({ put [nst NS.run, (P.pd 0, F.PD_PD_STAT_ATTACH, 1)] with usb := { port0 := { ams := 5 } } }) (0) (true) := by decide +kernel
theorem witness_psRdy : (fun (s : State) (p : Nat) => (pdRuns s p = true) ∧ ((pdSt s p).ams = 6))
    ({ put [nst NS.run, (P.pd 0, F.PD_PD_STAT_ATTACH, 1)] with usb := { port0 := { ams := 6, asked := (9000, 2000) } } }) (0) := by decide +kernel
theorem witness_prSwap : (fun (s : State) (p : Nat) (who : By) => (MayWrite s who (P.pd (p % 2)) 0x070) ∧ (p % 2 = 0) ∧ (pdRuns s 0 = true) ∧ (swapOk s 0 = true) ∧ ((pdSt s 0).cmd = none) ∧ (sinkTxOk s 0 = true))
    (put [nst NS.run, (P.pd 0, F.PD_PD_STAT_ATTACH, 2), (P.pd 0, F.PD_PD_CFG_SWAP_EN, 1), (P.power, F.POWER_MAIN_STAT_PG, 1)]) (0) (⟨0, 0⟩) := by
  refine ⟨⟨by decide +kernel, by decide +kernel, by decide +kernel, by decide +kernel, by decide +kernel, by decide +kernel⟩, by decide +kernel, by decide +kernel, by decide +kernel, by decide +kernel⟩
theorem witness_softReset : (fun (s : State) (p : Nat) (who : By) => (MayWrite s who (P.pd (p % 2)) 0x070) ∧ (pdRuns s (p % 2) = true) ∧ (pdAttach s (p % 2) ≠ 0) ∧ ((pdSt s (p % 2)).cmd = none ∧ ((pdSt s (p % 2)).ams = 9 ∨ ((pdSt s (p % 2)).ams = 0 ∨ (pdSt s (p % 2)).ams = 8) ∧ sinkTxOk s (p % 2) = true)))
    (put [nst NS.run, (P.pd 1, F.PD_PD_STAT_ATTACH, 2), (P.pd 1, F.PD_PD_CFG_EN, 1)]) (1) (⟨0, 0⟩) := by
  refine ⟨⟨by decide +kernel, by decide +kernel, by decide +kernel, by decide +kernel, by decide +kernel, by decide +kernel⟩, by decide +kernel, by decide +kernel, by decide +kernel⟩
theorem witness_getSrcCap : (fun (s : State) (p : Nat) (who : By) => (MayWrite s who (P.pd (p % 2)) 0x070) ∧ (pdRuns s (p % 2) = true) ∧ (pdAttach s (p % 2) ≠ 0) ∧ ((pdSt s (p % 2)).cmd = none ∧ (pdSt s (p % 2)).ams = 0 ∧ sinkTxOk s (p % 2) = true))
    (put [nst NS.run, (P.pd 1, F.PD_PD_STAT_ATTACH, 2), (P.pd 1, F.PD_PD_CFG_EN, 1)]) (1) (⟨0, 0⟩) := by
  refine ⟨⟨by decide +kernel, by decide +kernel, by decide +kernel, by decide +kernel, by decide +kernel, by decide +kernel⟩, by decide +kernel, by decide +kernel, by decide +kernel⟩
theorem witness_prSwapReceived : (fun (s : State) (p : Nat) => (pdRuns s p = true) ∧ (pdAttach s p ≠ 0) ∧ ((pdSt s p).ams = 0))
    (put [nst NS.run, (P.pd 0, F.PD_PD_STAT_ATTACH, 2), (P.pd 0, F.PD_PD_CFG_SWAP_EN, 1), (P.power, F.POWER_MAIN_STAT_PG, 1)]) (0) := by decide +kernel
theorem witness_hardReset : (fun (s : State) (q : Nat) (who : By) (p : Nat) => (MayWrite s who (P.pd (q % 2)) 0x070) ∧ (q % 2 = p) ∧ (pdRuns s p = true) ∧ (pdAttach s p ≠ 0) ∧ ((pdSt s p).cmd = none))
    (put [nst NS.run, (P.pd 1, F.PD_PD_STAT_ATTACH, 2), (P.pd 1, F.PD_PD_CFG_EN, 1)]) (1) (⟨0, 0⟩) (1) := by
  refine ⟨⟨by decide +kernel, by decide +kernel, by decide +kernel, by decide +kernel, by decide +kernel, by decide +kernel⟩, by decide +kernel, by decide +kernel, by decide +kernel, by decide +kernel⟩
theorem witness_hardResetReceived : (fun (s : State) (p : Nat) => (pdRuns s p = true) ∧ (pdAttach s p ≠ 0))
    (put [nst NS.run, (P.pd 1, F.PD_PD_STAT_ATTACH, 2), (P.pd 1, F.PD_PD_CFG_EN, 1)]) (1) := by decide +kernel
theorem witness_transitionFail : (fun (s : State) (p k : Nat) => (pdRuns s p = true) ∧ ((pdSt s p).trans.any (transMay s p k) = true))
    ({ put [nst NS.run, (P.pd 1, F.PD_PD_STAT_ATTACH, 2), (P.pd 1, F.PD_PD_CFG_EN, 1)] with usb := { port1 := { trans := some { since := 0, accept := false } } }, time := { now := 10000000000 } }) (1) (2) := by decide +kernel
theorem witness_pdTimerExpiry : (fun (s : State) (p k : Nat) => (pdRuns s p = true) ∧ ((pdDue s p k).any s.dueBy = true) ∧ (k = PT.psTrans ∨ k = PT.psSrcOff ∨ k = PT.psSrcOn))
    ({ put [nst NS.run, (P.pd 1, F.PD_PD_STAT_ATTACH, 2), (P.pd 1, F.PD_PD_CFG_EN, 1)] with usb := { port1 := { timers := [(PT.psTrans, 0)] } }, time := { now := 10 ^ 10 } }) (1) (PT.psTrans) := by decide +kernel
theorem witness_unsupportedRequest : (fun (s : State) (p k : Nat) => (pdRuns s p = true) ∧ (pdAttach s p ≠ 0) ∧ (k < 2))
    (put [nst NS.run, (P.pd 1, F.PD_PD_STAT_ATTACH, 2), (P.pd 1, F.PD_PD_CFG_EN, 1)]) (1) (0) := by decide +kernel
theorem witness_vsetTrim : (fun (s : State) (v r : Nat) => (pdRuns s 1 = true) ∧ ((pdSt s 1).vbus = true))
    ({ put [nst NS.run, (P.pd 1, F.PD_PD_CFG_EN, 1)] with usb := { port1 := { vbus := true, vset := 400 } } }) (4900) (4800) := by decide +kernel
theorem witness_discoverSvids : (fun (s : State) => (pdRuns s 0 = true) ∧ (s.pd 0 F.PD_PD_STAT_CONTRACT = 1))
    (put [nst NS.run, (P.pd 0, F.PD_PD_STAT_ATTACH, 1), (P.pd 0, F.PD_PD_STAT_CONTRACT, 1)]) := by decide +kernel
theorem witness_discoverModes : (fun (s : State) => (pdRuns s 0 = true) ∧ (s.pd 0 F.PD_PD_STAT_CONTRACT = 1))
    (put [nst NS.run, (P.pd 0, F.PD_PD_STAT_ATTACH, 1), (P.pd 0, F.PD_PD_STAT_CONTRACT, 1)]) := by decide +kernel
theorem witness_enterMode : (fun (s : State) => (pdRuns s 0 = true) ∧ (pdAttach s 0 ≠ 0) ∧ (tapAllowed s = true) ∧ (tapOn s = false))
    (put [nst NS.run, (P.pd 0, F.PD_PD_STAT_ATTACH, 1), (P.pd 0, F.PD_PD_CFG_TAP_EN, 1)]) := by decide +kernel
theorem witness_exitMode : (fun (s : State) => (pdRuns s 0 = true) ∧ (tapOn s = true))
    (put [nst NS.run, (P.pd 0, F.PD_PD_STAT_ATTACH, 1), (P.pd 0, F.PD_PD_STAT_TAP, 1)]) := by decide +kernel
theorem witness_usbBusReset : (fun (s : State) (b : Bool) => (usbUp s = true))
    ({ put [nst NS.run, (P.usb, F.USBDEV_DEV_STAT_CONNECTED, 1)] with usb := { armed := [3] } }) (true) := by decide +kernel
theorem witness_usbSuspend : (fun (s : State) => (usbUp s = true) ∧ (s.on P.usb F.USBDEV_DEV_STAT_SUSPENDED = false))
    (put [nst NS.run, (P.usb, F.USBDEV_DEV_STAT_CONNECTED, 1)]) := by decide +kernel
theorem witness_usbResume : (fun (s : State) => (usbUp s = true) ∧ (s.on P.usb F.USBDEV_DEV_STAT_SUSPENDED = true))
    (put [nst NS.run, (P.usb, F.USBDEV_DEV_STAT_CONNECTED, 1), (P.usb, F.USBDEV_DEV_STAT_SUSPENDED, 1)]) := by decide +kernel
theorem witness_setup : (fun (s : State) (b : List Nat) => (usbUp s = true))
    (put [nst NS.run, (P.usb, F.USBDEV_DEV_STAT_CONNECTED, 1)]) ([1, 2, 3, 4, 5, 6, 7, 8]) := by decide +kernel
theorem witness_epArm : (fun (s : State) (e n : Nat) (who : By) => (MayWrite s who P.usb (0x108 + 16 * (e % 9))) ∧ (s.on P.usb (F.USBDEV_EP_CFG_EN (e % 9)) = true) ∧ (s.rd P.usb (F.USBDEV_EP_BUF_OFFSET (e % 9)) + n ≤ 0x40000))
    (put [nst NS.run, (P.usb, F.USBDEV_DEV_STAT_CONNECTED, 1), (P.usb, F.USBDEV_EP_CFG_EN 3, 1)]) (3) (64) (⟨0, 0⟩) := by
  refine ⟨⟨by decide +kernel, by decide +kernel, by decide +kernel, by decide +kernel, by decide +kernel, by decide +kernel⟩, by decide +kernel, by decide +kernel⟩
theorem witness_epDone : (fun (s : State) (e : Nat) (o : Bool) (b : List Nat) => (usbUp s = true) ∧ (s.usb.armed.contains e = true) ∧ (epDir e o = true) ∧ (s.on P.usb (F.USBDEV_EP_CFG_EN e) = true) ∧ (s.on P.usb (F.USBDEV_EP_CTRL_STALL e) = false))
    ({ put [nst NS.run, (P.usb, F.USBDEV_DEV_STAT_CONNECTED, 1), (P.usb, F.USBDEV_EP_CTRL_LEN 3, 64), (P.usb, F.USBDEV_EP_CFG_EN 3, 1)] with usb := { armed := [3] } }) (3) (true) ([1, 2, 3]) := by decide +kernel
theorem witness_untouchedHaloEntry : (fun (s : State) (a g x : Nat) => (lanesOn s = true) ∧ (a < 4096) ∧ (g < 2) ∧ ((haloEnt s a g).valid = true) ∧ ((haloEnt s a g).touch + haloAge s ≤ s.upAt x))
    ({ ({} : State) with halo := { ents := [(8191, { valid := true, base := 3 })] } }) (4095) (1) (100000000000) := by decide +kernel
theorem witness_coreDoneOther : (fun (s : State) (who : By) (m k : Nat) (c : Instr) => (MayWrite s who P.time 0x068) ∧ (k < 4) ∧ (m < 16) ∧ (c = .coreDone who m ∨ c = .registerWrite who P.time 0x068 m) ∧ (s.time.pastC = false) ∧ (s.now < commitAt s) ∧ (who.ini ≠ k))
    ({}) (⟨3, 0⟩) (15) (2) (.registerWrite ⟨3, 0⟩ P.time 0x068 15) := by
  refine ⟨⟨by decide +kernel, by decide +kernel, by decide +kernel, by decide +kernel, by decide +kernel, by decide +kernel⟩, by decide +kernel, by decide +kernel, by decide +kernel, by decide +kernel, by decide +kernel, by decide +kernel⟩
theorem witness_coreDoneOwn : (fun (s : State) (who : By) (m k : Nat) (c : Instr) => (MayWrite s who P.time 0x068) ∧ (k < 4) ∧ (m < 16) ∧ (c = .coreDone who m ∨ c = .registerWrite who P.time 0x068 m) ∧ (s.time.pastC = false) ∧ (s.now < commitAt s))
    ({}) (⟨3, 0⟩) (15) (3) (.coreDone ⟨3, 0⟩ 15) := by
  refine ⟨⟨by decide +kernel, by decide +kernel, by decide +kernel, by decide +kernel, by decide +kernel, by decide +kernel⟩, by decide +kernel, by decide +kernel, by decide +kernel, by decide +kernel, by decide +kernel⟩
theorem witness_resetMerge_resetCtrl : (fun (s : State) (who : By) => (MayWrite s who P.node 0x050) ∧ (s.role ≠ 3 ∨ partnerCarries s = true))
    ({ node := { resetReq := [RC.wdtCore] } }) (⟨4, 0⟩) := by
  refine ⟨⟨by decide +kernel, by decide +kernel, by decide +kernel, by decide +kernel, by decide +kernel, by decide +kernel⟩, by decide +kernel⟩
theorem witness_resetMerge_fwdtExpiry : (fun (s : State) (k : Nat) => (k < 4) ∧ (wdtMay s k = true) ∧ (s.bit P.cores F.CORES_FWDT_STAT_WARNED k = true))
    ({ put [(P.cores, F.CORES_FWDT_CFG_EN, 1), (P.cores, F.CORES_FWDT_CFG_CORES, 8), (P.cores, F.CORES_CORE_STAT_RUNNING, 8), (P.cores, F.CORES_FWDT_STAT_WARNED, 8)] with node := { resetReq := [RC.software] }, cores := [(3, { wdtAt := some 0 })], time := { now := 10 ^ 9 } }) (3) := by decide +kernel
theorem witness_resetMerge_mwdtExpiry : (fun (s : State) => (wdtMay s 4 = true) ∧ (s.on P.cores F.CORES_MWDT_STAT_WARNED = true))
    ({ put [(P.cores, F.CORES_MWDT_CFG_EN, 1), (P.cores, F.CORES_MWDT_CFG_TIME, 10), (P.cores, F.CORES_MWDT_STAT_WARNED, 1)] with cores := [(4, { wdtAt := some 0 })], time := { now := 10000000 } }) := by decide +kernel
theorem witness_resetMerge_warmReset : (fun (s : State) => (s.node.rails = true) ∧ (s.node.rstLow = false) ∧ (s.node.inReset = false) ∧ (s.node.resetReq ≠ []) ∧ (s.ao.writing.map (·.1) ≠ some 1))
    ({ node := { resetReq := [RC.software, RC.wdtCore] }, ao := { writing := some (2, 0) } }) := by decide +kernel
theorem witness_firstRejection : (fun (s : State) (who : By) (page off w cause : Nat) (cls : Option Cls) => (s.alive = true) ∧ ((pageRow page).isSome = true) ∧ (tapShut s who page = false) ∧ (onFieldDie page = true → who.ini = 8 ∧ s.stitch.down = false) ∧ (registerAt page off = true) ∧ (writeRefusal (dropArms s page) who page off (w % 2 ^ 32) (armedFor s who page) = some (cause, cls)) ∧ (s.on P.node F.NODE_WRITE_REJECT0_VALID = false))
    (put [nst NS.run]) (⟨4, 0⟩) (P.sec) (0x170) (0x10000001) (WC.clas) (some .b) := by decide +kernel
theorem witness_laterRejection : (fun (s : State) (who : By) (page off w cause : Nat) (cls : Option Cls) => (s.alive = true) ∧ ((pageRow page).isSome = true) ∧ (tapShut s who page = false) ∧ (onFieldDie page = true → who.ini = 8 ∧ s.stitch.down = false) ∧ (registerAt page off = true) ∧ (writeRefusal (dropArms s page) who page off (w % 2 ^ 32) (armedFor s who page) = some (cause, cls)) ∧ (s.on P.node F.NODE_WRITE_REJECT0_VALID = true))
    (put [nst NS.run, (P.node, F.NODE_WRITE_REJECT0_VALID, 1)]) (⟨8, 7⟩) (P.drift) (0x068) (1) (WC.remote) (none) := by decide +kernel
theorem witness_bankTouched : (fun (s : State) (a : Nat) (b : List Nat) => (s.alive = true) ∧ (inactiveBank a = true) ∧ (inactiveBank (a + b.length - 1) = true) ∧ (updState s = 2))
    (put [nst NS.run, (P.upd, F.UPDATE_UPD_STAT_STATE, 2)]) (0x101FFFFC) ([1, 2, 3, 4]) := by decide +kernel
theorem witness_unstage : (fun (s : State) (who : By) => (MayWrite s who P.upd 0x044) ∧ (updState s = 2))
    (put [nst NS.run, (P.upd, F.UPDATE_UPD_STAT_STATE, 2)]) (⟨4, 0⟩) := by
  refine ⟨⟨by decide +kernel, by decide +kernel, by decide +kernel, by decide +kernel, by decide +kernel, by decide +kernel⟩, by decide +kernel⟩
theorem witness_applySlot : (fun (s : State) (who : By) => (MayWrite s who P.upd 0x044) ∧ (updState s = 2) ∧ (s.working = true ∨ s.st = NS.join))
    (put [nst NS.join, (P.upd, F.UPDATE_UPD_STAT_STATE, 2)]) (⟨4, 0⟩) := by
  refine ⟨⟨by decide +kernel, by decide +kernel, by decide +kernel, by decide +kernel, by decide +kernel, by decide +kernel⟩, by decide +kernel, by decide +kernel⟩
theorem witness_applyDone : (fun (s : State) (err : Bool) => (s.alive = true) ∧ (updState s = 1))
    (put [nst NS.run, (P.upd, F.UPDATE_UPD_STAT_STATE, 1)]) (false) := by decide +kernel
theorem witness_mtip : (fun (s : State) (k x : Nat) => (s.alive = true) ∧ (k < 5) ∧ (mtimecmp s k ≤ x))
    ({}) (4) (0xFFFFFFFFFFFFFFFF) := by decide +kernel
theorem witness_hartEn : (fun (s : State) (who : By) (m : Nat) (p : Bool) => (MayWrite s who P.cores 0x040) ∧ (m < 16))
    (put [nst NS.run, (P.mgmt, F.MGMT_PWR_STAT_ON, 0x3DF)]) (⟨4, 0⟩) (15) (true) := by
  refine ⟨⟨by decide +kernel, by decide +kernel, by decide +kernel, by decide +kernel, by decide +kernel, by decide +kernel⟩, by decide +kernel⟩
theorem witness_commitWarn : (fun (s : State) (x : Nat) => (s.alive = true) ∧ (s.on P.cores F.CORES_EV_CFG_COMMIT_WARN = true) ∧ (x + max 1 (s.rd P.cores F.CORES_EV_CFG_WARN_LEAD) * 1000 = commitAt s) ∧ (∃ k < 4, bitOf (coresJudged s) k = true ∧ s.bit P.time F.TIME_CORE_DONE_DONE k = false))
    (put [(P.cores, F.CORES_EV_CFG_COMMIT_WARN, 1), (P.cores, F.CORES_EV_CFG_WARN_LEAD, 2), (P.cores, F.CORES_CORE_STAT_RUNNING, 1), (P.time, F.TIME_COMMIT_CFG_CORES, 1), (P.mgmt, F.MGMT_PWR_STAT_ON, 0x3DF)]) (93000) := by decide +kernel
theorem witness_fwdtKick : (fun (s : State) (who : By) (m : Nat) => (MayWrite s who P.cores 0x0B4) ∧ (who.ini < 4) ∧ (m < 16) ∧ (bitOf m who.ini = true))
    (put [(P.cores, F.CORES_FWDT_STAT_WARNED, 15)]) (⟨3, 0⟩) (8) := by
  refine ⟨⟨by decide +kernel, by decide +kernel, by decide +kernel, by decide +kernel, by decide +kernel, by decide +kernel⟩, by decide +kernel, by decide +kernel, by decide +kernel⟩
theorem witness_fwdtExpiry : (fun (s : State) (k : Nat) => (k < 4) ∧ (wdtMay s k = true) ∧ (s.bit P.cores F.CORES_FWDT_STAT_WARNED k = false))
    ({ put [(P.cores, F.CORES_FWDT_CFG_EN, 1), (P.cores, F.CORES_FWDT_CFG_TIME, 0), (P.cores, F.CORES_FWDT_CFG_CORES, 8), (P.cores, F.CORES_CORE_STAT_RUNNING, 8)] with cores := [(3, { wdtAt := some 0, wdtAcc := 50000 })], time := { now := 50000 } }) (3) := by decide +kernel
theorem witness_mwdtKick : (fun (s : State) (who : By) => (MayWrite s who P.cores 0x0C4) ∧ (who.ini = 4))
    (put [(P.cores, F.CORES_MWDT_STAT_WARNED, 1)]) (⟨4, 0⟩) := by
  refine ⟨⟨by decide +kernel, by decide +kernel, by decide +kernel, by decide +kernel, by decide +kernel, by decide +kernel⟩, by decide +kernel⟩
theorem witness_mwdtExpiry : (fun (s : State) => (wdtMay s 4 = true) ∧ (s.on P.cores F.CORES_MWDT_STAT_WARNED = false))
    ({ put [(P.cores, F.CORES_MWDT_CFG_EN, 1), (P.cores, F.CORES_MWDT_CFG_TIME, 10)] with cores := [(4, { wdtAt := some 0 })], time := { now := 10000000 } }) := by decide +kernel
theorem witness_claim : (fun (s : State) (k : Nat) (who : By) (n : Nat) => (s.alive = true) ∧ (k < 5) ∧ (tapShut s who P.ev3 = false) ∧ (n < 512) ∧ (claimable s k n = true) ∧ (∀ m < 512, claimable s k m = true → m = n ∨ srcPrio s m < srcPrio s n ∨ srcPrio s m = srcPrio s n ∧ n < m))
    (put [(P.ev2, F.EVENTB_EN_EN 2 15, 0x300), (P.ev1, F.EVENTA_PRIO_PRIO 61, 0x22), (P.ev3, F.EVENTC_SWEV_EV, 3)]) (2) (⟨2, 0⟩) (488) := by decide +kernel
theorem witness_claim_none : (fun (s : State) (k : Nat) (who : By) => (s.alive = true) ∧ (k < 5) ∧ (tapShut s who P.ev3 = false) ∧ (∀ m < 512, claimable s k m = false))
    ({}) (4) (⟨4, 0⟩) := by decide +kernel
theorem witness_evtPulseEnd : (fun (s : State) (p : Nat) => (s.alive = true))
    ({ router := { pulses := [1, 3] } }) (3) := by decide +kernel
theorem witness_programKey : (fun (s : State) (who : By) (k : Nat) => (MayWrite s who P.sec 0x170) ∧ (s.mgmt.otpBusy = none) ∧ (s.service = false) ∧ (pgMain s = true) ∧ (1 ≤ k) ∧ (k < 4) ∧ (bitOf s.otp.programmed k = false))
    (put [(P.power, F.POWER_MAIN_STAT_PG, 1)]) (⟨4, 0⟩) (3) := by
  refine ⟨⟨by decide +kernel, by decide +kernel, by decide +kernel, by decide +kernel, by decide +kernel, by decide +kernel⟩, by decide +kernel, by decide +kernel, by decide +kernel, by decide +kernel, by decide +kernel, by decide +kernel⟩
theorem witness_revokeKey : (fun (s : State) (who : By) (k : Nat) => (MayWrite s who P.sec 0x170) ∧ (s.mgmt.otpBusy = none) ∧ (s.service = false) ∧ (pgMain s = true) ∧ (k < 4) ∧ (otpRefused s 2 k = false))
    ({ put [(P.power, F.POWER_MAIN_STAT_PG, 1)] with otp := { programmed := 6 } }) (⟨4, 0⟩) (1) := by
  refine ⟨⟨by decide +kernel, by decide +kernel, by decide +kernel, by decide +kernel, by decide +kernel, by decide +kernel⟩, by decide +kernel, by decide +kernel, by decide +kernel, by decide +kernel, by decide +kernel⟩
theorem witness_debugLock : (fun (s : State) (who : By) => (MayWrite s who P.sec 0x170) ∧ (s.mgmt.otpBusy = none) ∧ (s.service = false) ∧ (pgMain s = true))
    (put [(P.power, F.POWER_MAIN_STAT_PG, 1)]) (⟨4, 0⟩) := by
  refine ⟨⟨by decide +kernel, by decide +kernel, by decide +kernel, by decide +kernel, by decide +kernel, by decide +kernel⟩, by decide +kernel, by decide +kernel, by decide +kernel⟩
theorem witness_debugDisable : (fun (s : State) (who : By) => (MayWrite s who P.sec 0x170) ∧ (s.mgmt.otpBusy = none) ∧ (s.service = false) ∧ (pgMain s = true))
    (put [(P.power, F.POWER_MAIN_STAT_PG, 1)]) (⟨7, 0⟩) := by
  refine ⟨⟨by decide +kernel, by decide +kernel, by decide +kernel, by decide +kernel, by decide +kernel, by decide +kernel⟩, by decide +kernel, by decide +kernel, by decide +kernel⟩
theorem witness_otpDone_1 : (fun (s : State) (op k : Nat) (ok : Bool) => (s.alive = true) ∧ (s.mgmt.otpBusy = some (op, k)) ∧ (1 ≤ op) ∧ (op ≤ 5) ∧ (op = 5 → s.service = false ∧ pgMain s = true) ∧ (ok = true) ∧ (keyReadsBack s op k = true))
    ({ put [(P.power, F.POWER_MAIN_STAT_PG, 1)] with mgmt := { otpBusy := some (1, 3) } }) (1) (3) (true) := by decide +kernel
theorem witness_otpDone_2 : (fun (s : State) (op k : Nat) (ok : Bool) => (s.alive = true) ∧ (s.mgmt.otpBusy = some (op, k)) ∧ (1 ≤ op) ∧ (op ≤ 5) ∧ (op = 5 → s.service = false ∧ pgMain s = true))
    ({ put [(P.power, F.POWER_MAIN_STAT_PG, 1)] with mgmt := { otpBusy := some (2, 1) } }) (2) (1) (true) := by decide +kernel
theorem witness_otpDone_3 : (fun (s : State) (op k : Nat) (ok : Bool) => (s.alive = true) ∧ (s.mgmt.otpBusy = some (op, k)) ∧ (1 ≤ op) ∧ (op ≤ 5) ∧ (op = 5 → s.service = false ∧ pgMain s = true))
    ({ put [(P.power, F.POWER_MAIN_STAT_PG, 1)] with mgmt := { otpBusy := some (3, 0) } }) (3) (0) (true) := by decide +kernel
theorem witness_otpDone_4 : (fun (s : State) (op k : Nat) (ok : Bool) => (s.alive = true) ∧ (s.mgmt.otpBusy = some (op, k)) ∧ (1 ≤ op) ∧ (op ≤ 5) ∧ (op = 5 → s.service = false ∧ pgMain s = true))
    ({ put [(P.power, F.POWER_MAIN_STAT_PG, 1)] with mgmt := { otpBusy := some (4, 0) } }) (4) (0) (true) := by decide +kernel
theorem witness_otpDone_5 : (fun (s : State) (op k : Nat) (ok : Bool) => (s.alive = true) ∧ (s.mgmt.otpBusy = some (op, k)) ∧ (1 ≤ op) ∧ (op ≤ 5) ∧ (op = 5 → s.service = false ∧ pgMain s = true))
    ({ put [(P.power, F.POWER_MAIN_STAT_PG, 1)] with mgmt := { otpBusy := some (5, 7) } }) (5) (7) (true) := by decide +kernel
theorem witness_vfyCmd : (fun (s : State) (who : By) (keys : Nat) => (MayWrite s who P.sec 0x17C) ∧ (s.mgmt.vfyBusy = none) ∧ (s.on P.sec F.SECURITY_VFY_ADDR_SPACE = true → who.ini = 4) ∧ (s.rd P.sec F.SECURITY_VFY_ADDR_OFFSET + 160 ≤ (vfySpace s).2) ∧ (keys < 16))
    (put [(P.sec, F.SECURITY_VFY_ADDR_SPACE, 1), (P.sec, F.SECURITY_VFY_ADDR_OFFSET, 0x3FF60)]) (⟨4, 0⟩) (15) := by
  refine ⟨⟨by decide +kernel, by decide +kernel, by decide +kernel, by decide +kernel, by decide +kernel, by decide +kernel⟩, by decide +kernel, by decide +kernel, by decide +kernel, by decide +kernel⟩
theorem witness_vfyDone_none : (fun (s : State) (cfg : Bool) (keys a : Nat) => (s.alive = true) ∧ (s.mgmt.vfyBusy = some (keys, a)) ∧ (([0, 1, 2, 3].filter fun k => bitOf keys k && bitOf s.otp.programmed k && keyHash s k == Config.sha256 (slice (s.memRead a 160) 32 64)) = []))
    ({ mgmt := { vfyBusy := some (14, 0x10200000) } }) (true) (14) (0x10200000) := by decide +kernel
theorem witness_unlock_shut : (fun (s : State) (who : By) => (MayWrite s who P.sec 0x140) ∧ (who.ini = 7) ∧ (s.otp.lock = 2 ∨ 3 ≤ s.rd P.sec F.SECURITY_DEBUG_FAILS))
    (put [(P.sec, F.SECURITY_DEBUG_FAILS, 3)]) (⟨7, 0⟩) := by
  refine ⟨⟨by decide +kernel, by decide +kernel, by decide +kernel, by decide +kernel, by decide +kernel, by decide +kernel⟩, by decide +kernel, by decide +kernel⟩
theorem witness_unlock_noKey : (fun (s : State) (who : By) => (MayWrite s who P.sec 0x140) ∧ (who.ini = 7) ∧ (¬(s.otp.lock = 2 ∨ 3 ≤ s.rd P.sec F.SECURITY_DEBUG_FAILS)) ∧ (keyMatch s (keysFor s true) (slice ((List.range 32).flatMap fun w => leBytes 4 (s.rd P.sec (F.SECURITY_RESP_R w))) 0 64) = none))
    ({ put [(P.sec, F.SECURITY_DEBUG_FAILS, 2)] with otp := { revoked := 1 } }) (⟨7, 0⟩) := by
  refine ⟨⟨by decide +kernel, by decide +kernel, by decide +kernel, by decide +kernel, by decide +kernel, by decide +kernel⟩, by decide +kernel, by decide +kernel, by decide +kernel⟩
theorem witness_dawnInfo : (fun (s : State) (c : DawnIn) => (dawnOn s = true) ∧ (1 ≤ c.cmd) ∧ (c.cmd ≤ 5) ∧ (c.path = 2))
    (put [nst NS.dawn]) (⟨2, 0x1234, 1⟩) := by decide +kernel
theorem witness_dawnInfo_bad : (fun (s : State) (c : DawnIn) => (dawnOn s = true) ∧ (c.cmd = 0 ∨ 5 < c.cmd))
    (put [nst NS.dawn]) (⟨1, 0x1234, 6⟩) := by decide +kernel
theorem witness_dawnBegin : (fun (s : State) (_c : DawnIn) (a k : Nat) (h : List Nat) => (dawnOn s = true) ∧ (dawnSlot s a = some k) ∧ (h.length = 256) ∧ (judgeHead s h ≠ BC.ok))
    (put [nst NS.dawn]) (⟨2, 0, 1⟩) (1) (1) (List.replicate 256 0) := by decide +kernel
theorem witness_dawnData_range : (fun (s : State) (_c : DawnIn) (off k len : Nat) (b : List Nat) => (dawnOn s = true) ∧ (s.mgmt.begun = some (k, len)) ∧ (off % 4 = 0) ∧ (0x100 ≤ off) ∧ (off + b.length ≤ len) ∧ (dawnMax < b.length))
    ({ put [nst NS.dawn] with mgmt := { begun := some (1, 0x2000) } }) (⟨1, 7, 1⟩) (0x100) (1) (0x2000) (List.replicate 4097 0) := by decide +kernel
theorem witness_dawnData : (fun (s : State) (_c : DawnIn) (off k len : Nat) (b : List Nat) => (dawnOn s = true) ∧ (s.mgmt.begun = some (k, len)) ∧ (off % 4 = 0) ∧ (0x100 ≤ off) ∧ (off + b.length ≤ len) ∧ (b.length ≤ dawnMax))
    ({ put [nst NS.dawn] with mgmt := { begun := some (1, 0x104) } }) (⟨1, 7, 1⟩) (0x100) (1) (0x104) ([1, 2, 3, 4]) := by decide +kernel
theorem witness_dawnEnd : (fun (s : State) (c : DawnIn) (k len : Nat) => (dawnOn s = true) ∧ (s.mgmt.begun = some (k, len)) ∧ (c.path < 16))
    ({ put [nst NS.dawn] with mgmt := { begun := some (1, 0x104) } }) (⟨2, 0, 1⟩) (1) (0x104) := by decide +kernel
theorem witness_dawnExit_passed : (fun (s : State) (_c : DawnIn) => (dawnOn s = true) ∧ (s.role ≠ 3 ∨ partnerCarries s = true) ∧ (s.mgmt.passedEnd = true))
    ({ put [nst NS.dawn] with mgmt := { passedEnd := true } }) (⟨1, 0, 1⟩) := by decide +kernel
theorem witness_dawnExit_none : (fun (s : State) (_c : DawnIn) => (dawnOn s = true) ∧ (s.role ≠ 3 ∨ partnerCarries s = true) ∧ (s.mgmt.passedEnd = false) ∧ (judgeSlot s 0 false ≠ BC.ok) ∧ (judgeSlot s 1 false ≠ BC.ok))
    (put [nst NS.dawn]) (⟨1, 0, 1⟩) := by decide +kernel
theorem witness_bulkDistribution_manifest : (fun (s : State) (f : Frame) (busy : Bool) => (dawnOn s = true) ∧ (f.typ = 0xC) ∧ (f.mc = true) ∧ (f.dst = 0xFFE) ∧ (bitsOf f.w3 8 8 = 2) ∧ (f.w4 = 0xFFFFFFFF) ∧ (f.plen = 64) ∧ (bitOf (beAt f.pay 40 4) 31 = true → beAt f.pay 48 8 = s.otp.uid % 2 ^ 64) ∧ (beAt f.pay 40 4 % 4 = 0) ∧ (s.mgmt.carousel = none))
    (put [nst NS.dawn]) ({ typ := 0xC, cls := 2, mc := true, dst := 0xFFE, w3 := 0x50200, w4 := 0xFFFFFFFF, pay := [0, 0, 16, 0, 0, 0, 0, 2] ++ List.replicate 56 0 }) (false) := by decide +kernel
theorem witness_bulkDistribution_busy : (fun (s : State) (f : Frame) (busy : Bool) => (dawnOn s = true) ∧ (f.typ = 0xC) ∧ (f.mc = true) ∧ (f.dst = 0xFFE) ∧ (bitsOf f.w3 8 8 = 2) ∧ (f.w4 ≠ 0xFFFFFFFF) ∧ (busy = true))
    (put [nst NS.dawn]) ({ typ := 0xC, cls := 2, mc := true, dst := 0xFFE, w3 := 0x50200, w4 := 1, pay := [1, 2, 3, 4] }) (true) := by decide +kernel
theorem witness_bulkDistribution_block : (fun (s : State) (f : Frame) (busy : Bool) (c : Carousel) (k len : Nat) => (dawnOn s = true) ∧ (f.typ = 0xC) ∧ (f.mc = true) ∧ (f.dst = 0xFFE) ∧ (bitsOf f.w3 8 8 = 2) ∧ (f.w4 ≠ 0xFFFFFFFF) ∧ (busy = false) ∧ (s.mgmt.carousel = some c) ∧ (c.xfer = bitsOf f.w3 16 16) ∧ (1 ≤ f.w4) ∧ (f.w4 < c.blocks) ∧ (f.w4 ∉ c.have') ∧ (s.mgmt.begun = some (k, len)) ∧ (2048 * f.w4 + f.pay.length ≤ len) ∧ (∃ j < c.blocks, j ≠ f.w4 ∧ j ∉ c.have'))
    ({ put [nst NS.dawn] with mgmt := { carousel := some { xfer := 5, len := 0x1804, blocks := 4, have' := [0] }, begun := some (0, 0x1804) } }) ({ typ := 0xC, cls := 2, mc := true, dst := 0xFFE, w3 := 0x50200, w4 := 3, pay := [1, 2, 3, 4] }) (false) ({ xfer := 5, len := 0x1804, blocks := 4, have' := [0] }) (0) (0x1804) := by decide +kernel
theorem witness_actGo : (fun (s : State) (who : By) => (MayWrite s who P.upd 0x05C) ∧ (s.tick + 2 ≤ s.rd64 P.upd F.UPDATE_ACT_EFF_LO_E F.UPDATE_ACT_EFF_HI_E) ∧ (updState s = 2))
    (put [nst NS.run, (P.upd, F.UPDATE_UPD_STAT_STATE, 2), (P.upd, F.UPDATE_ACT_EFF_LO_E, 2)]) (⟨4, 0⟩) := by
  refine ⟨⟨by decide +kernel, by decide +kernel, by decide +kernel, by decide +kernel, by decide +kernel, by decide +kernel⟩, by decide +kernel, by decide +kernel⟩
theorem witness_actGo_lead : (fun (s : State) (who : By) => (MayWrite s who P.upd 0x05C) ∧ (s.rd64 P.upd F.UPDATE_ACT_EFF_LO_E F.UPDATE_ACT_EFF_HI_E < s.tick + 2))
    (put [nst NS.run, (P.upd, F.UPDATE_UPD_STAT_STATE, 2), (P.upd, F.UPDATE_ACT_EFF_LO_E, 1)]) (⟨4, 0⟩) := by
  refine ⟨⟨by decide +kernel, by decide +kernel, by decide +kernel, by decide +kernel, by decide +kernel, by decide +kernel⟩, by decide +kernel⟩
theorem witness_actGo_none : (fun (s : State) (who : By) => (MayWrite s who P.upd 0x05C) ∧ (s.tick + 2 ≤ s.rd64 P.upd F.UPDATE_ACT_EFF_LO_E F.UPDATE_ACT_EFF_HI_E) ∧ (updState s ≠ 2))
    (put [nst NS.run, (P.upd, F.UPDATE_UPD_STAT_STATE, 0), (P.upd, F.UPDATE_ACT_EFF_LO_E, 2)]) (⟨4, 0⟩) := by
  refine ⟨⟨by decide +kernel, by decide +kernel, by decide +kernel, by decide +kernel, by decide +kernel, by decide +kernel⟩, by decide +kernel, by decide +kernel⟩
theorem witness_exportDone : (fun (s : State) (who : By) (m : Nat) => (MayWrite s who P.upd 0x068) ∧ (who.ini < 5) ∧ (bitOf m who.ini = true))
    (put [nst NS.run]) (⟨4, 0⟩) (31) := by
  refine ⟨⟨by decide +kernel, by decide +kernel, by decide +kernel, by decide +kernel, by decide +kernel, by decide +kernel⟩, by decide +kernel, by decide +kernel⟩
theorem witness_actReady : (fun (s : State) (who : By) (m : Nat) => (MayWrite s who P.upd 0x06C) ∧ (who.ini < 5) ∧ (bitOf m who.ini = true))
    (put [nst NS.run]) (⟨4, 0⟩) (31) := by
  refine ⟨⟨by decide +kernel, by decide +kernel, by decide +kernel, by decide +kernel, by decide +kernel, by decide +kernel⟩, by decide +kernel, by decide +kernel⟩
theorem witness_eclipseN : (fun (s : State) (x w : Nat) => (s.alive = true) ∧ (s.on P.ecl F.ECLIPSE_ECL_CFG_PIN_IN = true) ∧ (s.ecl.pinLow = false) ∧ (20 ≤ w))
    (put [nst NS.run, (P.ecl, F.ECLIPSE_ECL_CFG_PIN_IN, 1)]) (5000) (20) := by decide +kernel
theorem witness_eclipseN_short : (fun (s : State) (x w : Nat) => (s.alive = true) ∧ (s.on P.ecl F.ECLIPSE_ECL_CFG_PIN_IN = true) ∧ (s.ecl.pinLow = false) ∧ (w < 20))
    (put [nst NS.run, (P.ecl, F.ECLIPSE_ECL_CFG_PIN_IN, 1)]) (5000) (19) := by decide +kernel
theorem witness_eclNow : (fun (s : State) (who : By) => (MayWrite s who P.ecl 0x054))
    (put [nst NS.run]) (⟨0, 0⟩) := by
  refine ⟨by decide +kernel, by decide +kernel, by decide +kernel, by decide +kernel, by decide +kernel, by decide +kernel⟩
theorem witness_eclArm : (fun (s : State) (who : By) (x : Nat) => (MayWrite s who P.ecl 0x054) ∧ (s.rd64 P.ecl F.ECLIPSE_ARM_T_LO_NS F.ECLIPSE_ARM_T_HI_NS = x) ∧ (s.now < x) ∧ (∀ a, s.ecl.armed = some a → x < a.1))
    (put [nst NS.run, (P.ecl, F.ECLIPSE_ARM_T_LO_NS, 9000)]) (⟨0, 0⟩) (9000) := by
  refine ⟨⟨by decide +kernel, by decide +kernel, by decide +kernel, by decide +kernel, by decide +kernel, by decide +kernel⟩, by decide +kernel, by decide +kernel, by intro a h; cases h⟩
theorem witness_eclArm_later : (fun (s : State) (who : By) (x : Nat) (a : Nat × Nat × Nat × Bool × Nat × Nat) => (MayWrite s who P.ecl 0x054) ∧ (s.rd64 P.ecl F.ECLIPSE_ARM_T_LO_NS F.ECLIPSE_ARM_T_HI_NS = x) ∧ (s.now < x) ∧ (s.ecl.armed = some a) ∧ (a.1 ≤ x))
    ({ put [nst NS.run, (P.ecl, F.ECLIPSE_ARM_T_LO_NS, 9000)] with ecl := { armed := some (9000, 7, 1, true, 1, 9) } }) (⟨0, 0⟩) (9000) ((9000, 7, 1, true, 1, 9)) := by
  refine ⟨⟨by decide +kernel, by decide +kernel, by decide +kernel, by decide +kernel, by decide +kernel, by decide +kernel⟩, by decide +kernel, by decide +kernel, by decide +kernel, by decide +kernel⟩
theorem witness_eclArm_past : (fun (s : State) (who : By) (x : Nat) => (MayWrite s who P.ecl 0x054) ∧ (s.rd64 P.ecl F.ECLIPSE_ARM_T_LO_NS F.ECLIPSE_ARM_T_HI_NS = x) ∧ (x ≤ s.now))
    (put [nst NS.run]) (⟨0, 0⟩) (0) := by
  refine ⟨⟨by decide +kernel, by decide +kernel, by decide +kernel, by decide +kernel, by decide +kernel, by decide +kernel⟩, by decide +kernel, by decide +kernel⟩
theorem witness_disarm : (fun (s : State) (who : By) => (MayWrite s who P.ecl 0x054))
    ({ put [nst NS.run, (P.ecl, F.ECLIPSE_ARM_T_LO_NS, 9000)] with ecl := { armed := some (9000, 7, 1, true, 1, 9) } }) (⟨0, 0⟩) := by
  refine ⟨by decide +kernel, by decide +kernel, by decide +kernel, by decide +kernel, by decide +kernel, by decide +kernel⟩
theorem witness_armReached : (fun (s : State) (x t0 src id sc co : Nat) (ring : Bool) => (s.alive = true) ∧ (s.ecl.armed = some (t0, src, id, ring, sc, co)) ∧ (t0 ≤ x))
    ({ put [nst NS.run] with ecl := { armed := some (9000, 7, 1, false, 1, 9) } }) (9000) (9000) (7) (1) (1) (9) (false) := by decide +kernel
theorem witness_armReached_ring : (fun (s : State) (x t0 src id sc co : Nat) (ring : Bool) => (s.alive = true) ∧ (s.ecl.armed = some (t0, src, id, ring, sc, co)) ∧ (t0 ≤ x))
    ({ put [nst NS.run] with ecl := { armed := some (9000, 7, 1, true, 1, 9) } }) (9000) (9000) (7) (1) (1) (9) (true) := by decide +kernel
theorem witness_eclReq_refused : (fun (s : State) (f : Frame) => (s.alive = true) ∧ (s.mayInsert = true ∨ s.st = NS.isolate) ∧ (eclFrame f 0x10 = true) ∧ (eclTarget s f = true) ∧ (remoteOpen s f.src P.ecl = false))
    (put [nst NS.isolate]) ({ typ := 0xD, cls := 3, mc := true, dst := 1, src := 7, w4 := 0x10000000, pay := [0, 0, 0, 0, 0, 0, 35, 40, 128, 0, 0, 5, 0, 0, 0, 9] }) := by decide +kernel
theorem witness_eclReq_armed : (fun (s : State) (f : Frame) => (s.alive = true) ∧ (s.mayInsert = true ∨ s.st = NS.isolate) ∧ (eclFrame f 0x10 = true) ∧ (eclTarget s f = true) ∧ (remoteOpen s f.src P.ecl = true) ∧ (bitOf (beAt f.pay 8 4) 29 = false) ∧ (s.now < beAt f.pay 0 8) ∧ (s.ecl.armed = none))
    (put [nst NS.run, (P.ecl, F.HDR_PAGE_ATTR_REMOTE_WRITE, 2)]) ({ typ := 0xD, cls := 3, mc := true, dst := 1, src := 7, w4 := 0x10000000, pay := [0, 0, 0, 0, 0, 0, 35, 40, 192, 0, 0, 5, 0, 0, 0, 9] }) := by decide +kernel
theorem witness_eclReq_late : (fun (s : State) (f : Frame) => (s.alive = true) ∧ (s.mayInsert = true ∨ s.st = NS.isolate) ∧ (eclFrame f 0x10 = true) ∧ (eclTarget s f = true) ∧ (remoteOpen s f.src P.ecl = true) ∧ (bitOf (beAt f.pay 8 4) 29 = false) ∧ (beAt f.pay 0 8 ≤ s.now) ∧ (s.now - beAt f.pay 0 8 ≤ min 1000000 (s.rd P.ecl F.ECLIPSE_ECL_LATE_LATE_ECL) * 1000))
    ({ put [nst NS.run, (P.ecl, F.HDR_PAGE_ATTR_REMOTE_WRITE, 2), (P.ecl, F.ECLIPSE_ECL_LATE_LATE_ECL, 1)] with time := { now := 10000 } }) ({ typ := 0xD, cls := 3, mc := true, dst := 1, src := 7, w4 := 0x10000000, pay := [0, 0, 0, 0, 0, 0, 35, 40, 192, 0, 0, 5, 0, 0, 0, 9] }) := by decide +kernel
theorem witness_eclReq_stale : (fun (s : State) (f : Frame) => (s.alive = true) ∧ (s.mayInsert = true ∨ s.st = NS.isolate) ∧ (eclFrame f 0x10 = true) ∧ (eclTarget s f = true) ∧ (remoteOpen s f.src P.ecl = true) ∧ (bitOf (beAt f.pay 8 4) 29 = false) ∧ (beAt f.pay 0 8 ≤ s.now) ∧ (min 1000000 (s.rd P.ecl F.ECLIPSE_ECL_LATE_LATE_ECL) * 1000 < s.now - beAt f.pay 0 8))
    ({ put [nst NS.run, (P.ecl, F.HDR_PAGE_ATTR_REMOTE_WRITE, 2), (P.ecl, F.ECLIPSE_ECL_LATE_LATE_ECL, 1)] with time := { now := 10001 } }) ({ typ := 0xD, cls := 3, mc := true, dst := 1, src := 7, w4 := 0x10000000, pay := [0, 0, 0, 0, 0, 0, 35, 40, 192, 0, 0, 5, 0, 0, 0, 9] }) := by decide +kernel
theorem witness_eclReq_cancel : (fun (s : State) (f : Frame) (a : Nat × Nat × Nat × Bool × Nat × Nat) => (s.alive = true) ∧ (s.mayInsert = true ∨ s.st = NS.isolate) ∧ (eclFrame f 0x10 = true) ∧ (eclTarget s f = true) ∧ (remoteOpen s f.src P.ecl = true) ∧ (bitOf (beAt f.pay 8 4) 29 = true) ∧ (s.ecl.armed = some a) ∧ (a.2.1 = f.src) ∧ (a.2.2.1 = beAt f.pay 8 4 % 2 ^ 16))
    ({ put [nst NS.run, (P.ecl, F.HDR_PAGE_ATTR_REMOTE_WRITE, 2)] with ecl := { armed := some (9000, 7, 5, true, 1, 9) } }) ({ typ := 0xD, cls := 3, mc := true, dst := 1, src := 7, w4 := 0x10000000, pay := [0, 0, 0, 0, 0, 0, 35, 40, 160, 0, 0, 5, 0, 0, 0, 9] }) ((9000, 7, 5, true, 1, 9)) := by decide +kernel
theorem witness_dumpReq : (fun (s : State) (f : Frame) (k x n : Nat) => (lanesOn s = true) ∧ (s.st = NS.eclipse) ∧ (eclFrame f 0x12 = true) ∧ (isOwn s f.dst = true) ∧ (f.src = s.ecl.collector) ∧ (f.w3 / 2 ^ 28 % 16 = k) ∧ (k < 10) ∧ (segOpen s k = true) ∧ (f.w3 % 2 ^ 28 = x) ∧ (beAt f.pay 0 4 = n) ∧ (x < segSize k))
    ({ put ([nst NS.eclipse] ++ addr 5) with ecl := { collector := 9, scope := 1, tF := 1000 } }) ({ typ := 0xD, cls := 3, dst := 5, src := 9, w3 := 0x40000400, w4 := 0x12000000, pay := [0, 0, 16, 0] }) (4) (0x400) (4096) := by decide +kernel
theorem witness_autoDump : (fun (s : State) (x : Nat) => (lanesOn s = true) ∧ (s.st = NS.eclipse) ∧ (s.on P.ecl F.ECLIPSE_ECL_CFG_AUTO_DUMP = true) ∧ (s.ecl.collector ≠ 0xFFF) ∧ (s.ecl.tF + 1000000 ≤ x))
    ({ put ([nst NS.eclipse, (P.ecl, F.ECLIPSE_ECL_CFG_AUTO_DUMP, 1), (P.ecl, F.ECLIPSE_DUMP_CFG_SEGS, 0x3FF)] ++ addr 5) with ecl := { collector := 9, scope := 1, tF := 1000 } }) (1001000) := by decide +kernel
theorem witness_eclRelease : (fun (s : State) (f : Frame) => (lanesOn s = true) ∧ (s.st = NS.eclipse) ∧ (eclFrame f 0x14 = true) ∧ (isOwn s f.dst = true) ∧ (f.src = s.ecl.collector ∨ remoteOpen s f.src P.ecl = true))
    ({ put ([nst NS.eclipse] ++ addr 5) with ecl := { collector := 9, scope := 1, tF := 1000 } }) ({ typ := 0xD, cls := 3, dst := 5, src := 9, w4 := 0x14000000 }) := by decide +kernel
theorem witness_jtagReadout : (fun (s : State) (k x : Nat) => (s.node.rails = true) ∧ (s.st = NS.eclipse) ∧ (segOpen s k = true) ∧ (x + 4 ≤ segSize k))
    (put [nst NS.eclipse]) (4) (0x3FFFFC) := by decide +kernel

end Sys2Proof.Tests
end

section
/-!
PROOF. Warm reset requests merge (R27): a request joins the list of those that wait; the reset writes every one of them to
RESET_CAUSE, and nothing that follows in the reset reaches that register.
-/

namespace Sys2Proof.Machine

/-! ## A request -/

theorem State.inReset_of_alive {s : State} (h : s.alive = true) : s.node.inReset = false := by
  simp only [State.alive, Bool.and_eq_true, Bool.not_eq_true'] at h
  obtain ⟨⟨_, hr⟩, _⟩ := h
  exact hr

/-- A request that no absent partner defers (R69) joins those that wait, and the rest of the node control stays. -/
theorem requestWarm_node {s : State} {k : Nat}
    (h : k = RC.software ∨ k = RC.remote → s.role ≠ 3 ∨ partnerCarries s = true) :
    (requestWarm s k).node = { s.node with resetReq := s.node.resetReq.filter (· != k) ++ [k] } := by
  unfold requestWarm
  split
  · rfl
  · rw [if_neg]
    rintro ⟨hr, hk, hp⟩
    rcases h hk with h | h
    · exact h hr
    · simp [h] at hp

theorem mem_moved_last (l : List Nat) (k j : Nat) : j ∈ l.filter (· != k) ++ [k] ↔ j ∈ l ∨ j = k := by
  by_cases e : j = k <;> simp [e]

/-- What a warm reset request adds: in a state whose reset is not asserted, its source joins the sources that wait. -/
theorem requestWarm_merges {s : State} {k : Nat} (hr : s.node.inReset = false)
    (h : k = RC.software ∨ k = RC.remote → s.role ≠ 3 ∨ partnerCarries s = true) :
    (requestWarm s k).node.inReset = false ∧
      ∀ j, j ∈ (requestWarm s k).node.resetReq ↔ j ∈ s.node.resetReq ∨ j = k := by
  rw [requestWarm_node h]
  exact ⟨hr, mem_moved_last _ k⟩

theorem inReset_of_wdtMay {s : State} {k : Nat} (h : wdtMay s k = true) : s.node.inReset = false := by
  simp only [wdtMay, wdtCounts, Bool.and_eq_true] at h
  obtain ⟨⟨⟨⟨ha, _⟩, _⟩, _⟩, _⟩ := h
  exact State.inReset_of_alive ha

/-- The request of a watchdog, whose timer restarts with it; no gateway defers it. -/
theorem requestWarm_wdtAgain_merges {s : State} {i k : Nat} (h : wdtMay s i = true) (hk : ¬(k = RC.software ∨ k = RC.remote)) :
    (requestWarm (wdtAgain s i) k).node.inReset = false ∧
      ∀ j, j ∈ (requestWarm (wdtAgain s i) k).node.resetReq ↔ j ∈ s.node.resetReq ∨ j = k := by
  have hn : (wdtAgain s i).node = s.node := (wdtAgain_keeps s i).node rfl
  have hr : (wdtAgain s i).node.inReset = false := (congrArg NodeSt.inReset hn).trans (inReset_of_wdtMay h)
  simpa only [hn] using requestWarm_merges hr fun hd => absurd hd hk

/-- The second expiry of a field core's watchdog requests a warm reset (R515). It is taken anywhere in the tick in which
the timer reaches TIME: log 111, a choice of the model's. -/
theorem fwdtExpiry_second {s : State} {k : Nat} (hk : k < 4) (hm : wdtMay s k = true)
    (hs : s.bit P.cores F.CORES_FWDT_STAT_WARNED k = true) :
    exec (.fwdtExpiry k) s = .next (requestWarm (wdtAgain s k) RC.wdtCore) := by
  show execFwdtExpiry k s = _
  unfold execFwdtExpiry
  rw [if_neg (by simp [hk, hm]), if_pos hs]

/-- The second expiry of the management watchdog requests a warm reset (R516), judged on the same elapsed time (log 111). -/
theorem mwdtExpiry_second {s : State} (hm : wdtMay s 4 = true) (hs : s.on P.cores F.CORES_MWDT_STAT_WARNED = true) :
    exec .mwdtExpiry s = .next (requestWarm (wdtAgain s 4) RC.wdtMgmt) := by
  show execMwdtExpiry s = _
  unfold execMwdtExpiry
  rw [if_neg (by simp [hm]), if_pos hs]

/-- The word of RESET_CTRL with its key and WARM = 1 passes the key (R48). -/
theorem resetCtrl_request (s : State) (ini : Nat) :
    resetCtrl s ini (mkWord [(F.NODE_RESET_CTRL_KEY, 0x5752), (F.NODE_RESET_CTRL_WARM, 1)]) =
      requestWarm s (if ini = 8 then RC.remote else RC.software) := if_pos (by decide)

/-- RESET_CTRL with its key, by an initiator whose write is taken, is the request and nothing else. -/
theorem MayWrite.resetCtrl_eq {s : State} {who : By} (h : MayWrite s who P.node 0x050) :
    exec (.resetCtrl who 0x5752) s =
      .next (requestWarm (dropArms s P.node) (if who.ini = 8 then RC.remote else RC.software)) := by
  show Host.Outcome.next (busStore ..) = _
  rw [h.trigger _ (by decide) (by decide) (.inl (by decide)) (by decide)]
  exact congrArg _ (resetCtrl_request ..)

/-! ## The reset -/

/-- RESET_CAUSE reads 1 at every source written, and wherever it read 1 before. -/
theorem rd_foldl_cause {k : Nat} (l : List Nat) (s : State) (h : k ∈ l ∨ s.rd P.node (causeFld k) = 1) :
    (l.foldl (fun u j => u.wr P.node (causeFld j) 1) s).rd P.node (causeFld k) = 1 := by
  induction l generalizing s with
  | nil => simpa using h
  | cons a r ih =>
    refine ih _ ?_
    by_cases e : k = a
    · exact .inr (e ▸ rd_wr_same ..)
    · rw [rd_wr_apart _ _ (by simp [keyApart, causeFld, e])]
      exact h.imp_left fun h => (List.mem_cons.mp h).resolve_left e

theorem node_foldl_cause (l : List Nat) (s : State) :
    (l.foldl (fun u j => u.wr P.node (causeFld j) 1) s).node = s.node :=
  (Keeps.foldl (fun _ _ => State.wr_keeps 90 (group_cause _ _) ..) l s (Keeps.refl _ s)).node (by decide)

/-- What a warm reset can change once the causes are written: the page headers, the registers that an event changes, the
sessions and their queues, and the field die. -/
def afterCauses : Nat := 4737790106532970498

/-- The end of a warm reset: PREV is written, the field die's events return, the channels enter their safe states and the
sessions are released. -/
theorem warmReset_end_keeps (s : State) (prev : Nat) (evs : List Nat) :
    Keeps afterCauses s (sesRelease (safeEnter evOnly
      (evs.foldl (fun u k => evOnly u P.fdie k) (s.wr P.node F.NODE_STATE_INFO_PREV prev)) allChans 3)) := by
  refine Keeps.step (sesRelease_keeps ..) rfl ?_
  refine Keeps.step (safeEnter_keeps evOnly_keeps ..) rfl ?_
  refine Keeps.foldl (fun _ _ => Keeps.step (evOnly_keeps ..) rfl (Keeps.refl _ _)) _ _ ?_
  exact Keeps.step (State.wr_keeps 41 (.inl rfl) ..) rfl (Keeps.refl _ _)

/-- A warm reset asserts the reset, clears the requests, writes the sources that wait to RESET_CAUSE, and goes on within
`afterCauses`. -/
theorem warmReset_writes_causes (s : State) : ∃ (t : State) (more : List Nat), t.node.inReset = true ∧ t.node.resetReq = [] ∧
    Keeps afterCauses ((s.node.resetReq ++ more).foldl (fun u k => u.wr P.node (causeFld k) 1) t) (warmReset s) := by
  unfold warmReset
  dsimp only
  rw [List.append_assoc]
  exact ⟨_, _, rfl, rfl, warmReset_end_keeps ..⟩

/-- One reset for all requests that wait, with the bit of each in RESET_CAUSE. -/
theorem warmReset_merges (s : State) : (warmReset s).node.inReset = true ∧ (warmReset s).node.resetReq = [] ∧
    ∀ k ∈ s.node.resetReq, (warmReset s).rd P.node (causeFld k) = 1 := by
  obtain ⟨t, more, hr, hq, hk⟩ := warmReset_writes_causes s
  have hn : (warmReset s).node = t.node := (hk.node rfl).trans (node_foldl_cause ..)
  rw [hn]
  refine ⟨hr, hq, fun k hm => ?_⟩
  have hg : regGroup ⟨P.node, (causeFld k).off, (causeFld k).lsb, 0⟩ = 90 := by simp [regGroup, causeFld, P.node]
  rw [hk.rd _ _ (hg ▸ rfl)]
  exact rd_foldl_cause _ t (.inl (List.mem_append_left _ hm))

/-- WARM_RESET with a request waiting, while no last-gasp record is being written, is the reset (R25, R26). -/
theorem exec_warmReset_of_waiting {s : State} (hr : s.node.rails = true) (hl : s.node.rstLow = false) (hi : s.node.inReset = false)
    (hq : s.node.resetReq ≠ []) (hg : s.ao.writing.map (·.1) ≠ some 1) : exec .warmReset s = .next (warmReset s) := by
  show execWarmReset s = _
  unfold execWarmReset
  dsimp only
  rw [if_pos (by simp [hr, hl, hi, hq]), if_neg]
  cases hw : s.ao.writing with
  | none => decide
  | some w => simpa [hw] using hg

/-! ## The statement -/

/-- Settles O55: each request joins those that wait, and the reset records them all. -/
theorem warmResetRequestsMerge : Obligations.WarmResetRequestsMerge := by
  refine ⟨fun s who hw hp => ?resetCtrl, fun s k hk hm hs => ?fieldCore, fun s hm hs => ?management,
    fun s hr hl hi hq hg => ?reset⟩
  case resetCtrl =>
    have hi : (dropArms s P.node).node.inReset = false := State.inReset_of_alive hw.alive
    exact ⟨_, hw.resetCtrl_eq, requestWarm_merges hi fun _ => hp⟩
  case fieldCore => exact ⟨_, fwdtExpiry_second hk hm hs, requestWarm_wdtAgain_merges hm (by decide)⟩
  case management => exact ⟨_, mwdtExpiry_second hm hs, requestWarm_wdtAgain_merges hm (by decide)⟩
  case reset => exact ⟨_, exec_warmReset_of_waiting hr hl hi hq hg, warmReset_merges s⟩

end Sys2Proof.Machine
end

section
/-!
PROOF. The first rejection is held (R47): a refused write comes to `reject` and to effects that leave WRITE_REJECT0 to 2 alone, and
`reject` writes the rejection itself only while VALID is 0.
-/

namespace Sys2Proof.Machine

/-! ## A refused write -/

/-- A write that reaches its page and is refused leaves the rejection, with the further effects of cause CLASS. -/
theorem busStore_refused {s : State} {who : By} {page off word cause : Nat} {cls : Option Cls} (ha : s.alive = true)
    (ht : tapShut s who page = false) (hp : (pageRow page).isSome = true)
    (hl : onFieldDie page = true → s.stitch.down = false) (hr : registerAt page off = true)
    (hw : writeRefusal (dropArms s page) who page off word (armedFor s who page) = some (cause, cls)) :
    busStore s who page off word =
      busWrite.refusedIf cause (reject (dropArms s page) who page off cause cls) page off word := by
  simp only [State.alive, Bool.and_eq_true, Bool.not_eq_true', bne_iff_ne, ne_eq] at ha
  obtain ⟨⟨⟨hrails, hrst⟩, hreset⟩, hecl⟩ := ha
  have hlink : (((pageRow page).map (·.fieldDie)).getD false && s.stitch.down) = false :=
    Bool.and_eq_false_imp.mpr hl
  unfold busStore busWrite
  rw [if_neg (by simp [hrails, hrst, hreset]), if_neg hecl, if_neg (by simp [ht]),
    if_neg (by simpa using Option.isSome_iff_ne_none.mp hp), if_neg (by simp [hlink])]
  dsimp only
  rw [if_neg (by simp [hr]), hw]

/-- REGISTER_WRITE is the bus write, but for the local access to a field-die page, which goes over the stitch link (R9). -/
theorem exec_registerWrite_of_reaches {s : State} {who : By} {page : Nat} (h : onFieldDie page = true → who.ini = 8) (off w : Nat) :
    exec (.registerWrite who page off w) s = .next (busStore s who page off (w % 2 ^ 32)) := by
  show execRegisterWrite who page off w s = _
  unfold execRegisterWrite
  rw [if_neg]
  simp only [Bool.and_eq_true, bne_iff_ne, ne_eq]
  rintro ⟨⟨hd, hi⟩, _⟩
  exact hi (h hd)

/-! ## What leaves WRITE_REJECT0 to 2 -/

/-- A field of WRITE_REJECT0, WRITE_REJECT1 or WRITE_REJECT2. -/
def rejectReg (f : Fld) : Bool := f.off == 0x058 || f.off == 0x05C || f.off == 0x060

theorem evKey_rejectReg {f : Fld} (h : rejectReg f = true) : evKey ⟨P.node, f.off, f.lsb, 0⟩ = false := by
  simp only [rejectReg, Bool.or_eq_true, beq_iff_eq] at h
  obtain (h | h) | h := h <;> simp [evKey, P.node, h]

/-- Registers that the further effects of a refusal (R420, R485) can change: those of an event, and registers of pages from the PIO
engines on. -/
def extraKey (k : Key) : Bool := evKey k || decide (0x0C0 ≤ k.page)

theorem refusedExtra_regs (s : State) (page off word : Nat) : RegsKeep extraKey s (refusedExtra s page off word) := by
  unfold refusedExtra
  refine RegsKeep.ite (fun hpio => ?_) fun _ => RegsKeep.ite (fun _ => (RegsKeep.refl _ s).wr _ (by decide)) fun _ => .refl ..
  have hpage : 0x0C0 ≤ page := by
    simp only [pioProgram, Bool.and_eq_true, decide_eq_true_eq] at hpio
    exact hpio.1.1
  have hraise : ∀ t e, RegsKeep extraKey t (pioEv t e) := fun t e =>
    (raise_regs t (P.pio e) 0).mono fun k hk => (Bool.or_eq_false_iff.mp hk).1
  exact (((RegsKeep.refl _ s).wr 1 (by simp [extraKey, hpage])).inc 1 (by simp [extraKey, hpage])).trans (hraise ..)

theorem rd_refusedIf {f : Fld} (h : rejectReg f = true) (cause : Nat) (s : State) (page off word : Nat) :
    (busWrite.refusedIf cause s page off word).rd P.node f = s.rd P.node f := by
  unfold busWrite.refusedIf
  split
  · exact (refusedExtra_regs ..).rd _ _ (by rw [extraKey, evKey_rejectReg h]; rfl)
  · rfl

theorem rd_orDraw (s : State) (w : Nat) (v : Option Nat) (p : Nat) (f : Fld) : (orDraw s w v).2.rd p f = s.rd p f :=
  (RegsKeep.of_eq (w := fun _ => false) (orDraw_regs_eq ..)).rd p f rfl

/-! ## What a rejection writes -/

/-- The part of `reject` that holds a rejection while VALID is 0. -/
def holdRejection (s : State) (who : By) (page off cause : Nat) (cls : Option Cls) : State :=
  let c := orDraw s 3 (cls.map (·.code))
  let n := orDraw c.2 12 (if who.ini = 8 then some who.src else none)
  ((((((n.2.wr P.node F.NODE_WRITE_REJECT0_VALID 1).wr P.node F.NODE_WRITE_REJECT0_CAUSE cause).wr
    P.node F.NODE_WRITE_REJECT0_WCLASS c.1).wr P.node F.NODE_WRITE_REJECT0_PAGE page).wr
    P.node F.NODE_WRITE_REJECT1_SRC_NODE n.1).wr P.node F.NODE_WRITE_REJECT1_INITIATOR who.ini).wr
    P.node F.NODE_WRITE_REJECT1_OFFSET off

/-- The events of a rejection leave what it wrote to WRITE_REJECT0 to 2: COUNT, and MULTI or the rejection itself. -/
theorem rd_reject {f : Fld} (h : rejectReg f = true) (s : State) (who : By) (page off cause : Nat) (cls : Option Cls) :
    (reject s who page off cause cls).rd P.node f =
      (if s.on P.node F.NODE_WRITE_REJECT0_VALID
        then (s.inc P.node F.NODE_WRITE_REJECT2_COUNT).wr P.node F.NODE_WRITE_REJECT0_MULTI 1
        else holdRejection (s.inc P.node F.NODE_WRITE_REJECT2_COUNT) who page off cause cls).rd P.node f := by
  have hon : (s.inc P.node F.NODE_WRITE_REJECT2_COUNT).on P.node F.NODE_WRITE_REJECT0_VALID =
      s.on P.node F.NODE_WRITE_REJECT0_VALID := congrArg (· != 0) (rd_inc_apart _ _ rfl)
  unfold reject
  dsimp only
  rw [rd_raiseIf _ _ _ _ _ _ (evKey_rejectReg h), rd_raise _ _ _ _ _ (evKey_rejectReg h), hon]
  rfl

/-- A rejection held leaves MULTI and COUNT. -/
theorem rd_holdRejection_other {f : Fld} (h : f ∈ [F.NODE_WRITE_REJECT0_MULTI, F.NODE_WRITE_REJECT2_COUNT]) (s : State) (who : By)
    (page off cause : Nat) (cls : Option Cls) : (holdRejection s who page off cause cls).rd P.node f = s.rd P.node f := by
  unfold holdRejection
  simp only [List.mem_cons, List.not_mem_nil, or_false] at h
  obtain rfl | rfl := h <;> simp (disch := decide) only [rd_wr_apart, rd_orDraw]

/-- What WRITE_REJECT0 and WRITE_REJECT1 read of a rejection. WCLASS is stated for a class and SRC_NODE for a remote write only. -/
def HoldsRejection (t : State) (who : By) (page off cause : Nat) (cls : Option Cls) : Prop :=
  t.rd P.node F.NODE_WRITE_REJECT0_VALID = 1 ∧ t.rd P.node F.NODE_WRITE_REJECT0_CAUSE = cause % 8 ∧
  (∀ k, cls = some k → t.rd P.node F.NODE_WRITE_REJECT0_WCLASS = k.code % 8) ∧
  t.rd P.node F.NODE_WRITE_REJECT0_PAGE = page % 1024 ∧ t.rd P.node F.NODE_WRITE_REJECT1_OFFSET = off % 4096 ∧
  t.rd P.node F.NODE_WRITE_REJECT1_INITIATOR = who.ini % 16 ∧
  (who.ini = 8 → t.rd P.node F.NODE_WRITE_REJECT1_SRC_NODE = who.src % 4096)

theorem holdRejection_holds (s : State) (who : By) (page off cause : Nat) (cls : Option Cls) :
    HoldsRejection (holdRejection s who page off cause cls) who page off cause cls := by
  unfold HoldsRejection holdRejection
  simp (disch := decide) only [rd_wr_apart, rd_wr_same]
  refine ⟨rfl, rfl, ?wclass, rfl, rfl, rfl, ?srcNode⟩
  case wclass =>
    rintro k rfl
    exact Nat.mod_mod ..
  case srcNode =>
    intro hi
    rw [if_pos hi]
    exact Nat.mod_mod ..

/-- Every rejection counts. -/
theorem rd_reject_count (s : State) (who : By) (page off cause : Nat) (cls : Option Cls) :
    (reject s who page off cause cls).rd P.node F.NODE_WRITE_REJECT2_COUNT =
      satAdd F.NODE_WRITE_REJECT2_COUNT.width (s.rd P.node F.NODE_WRITE_REJECT2_COUNT) 1 := by
  rw [rd_reject rfl]
  split
  · rw [rd_wr_apart _ _ rfl]
    exact rd_inc_same ..
  · rw [rd_holdRejection_other (by simp)]
    exact rd_inc_same ..

/-- While VALID is 0 a rejection is held, and MULTI stays. -/
theorem reject_holds_of_released {s : State} (hv : s.on P.node F.NODE_WRITE_REJECT0_VALID = false) (who : By)
    (page off cause : Nat) (cls : Option Cls) :
    HoldsRejection (reject s who page off cause cls) who page off cause cls ∧
      (reject s who page off cause cls).rd P.node F.NODE_WRITE_REJECT0_MULTI = s.rd P.node F.NODE_WRITE_REJECT0_MULTI := by
  have hrd : ∀ f, rejectReg f = true → (reject s who page off cause cls).rd P.node f =
      (holdRejection (s.inc P.node F.NODE_WRITE_REJECT2_COUNT) who page off cause cls).rd P.node f := fun f hf => by
    rw [rd_reject hf, hv]
    rfl
  refine ⟨?_, ?_⟩
  · unfold HoldsRejection
    simp (disch := decide) only [hrd]
    exact holdRejection_holds ..
  · rw [hrd _ rfl, rd_holdRejection_other (by simp), rd_inc_apart _ _ rfl]

/-- The fields that hold a rejection. -/
def heldFields : List Fld :=
  [F.NODE_WRITE_REJECT0_VALID, F.NODE_WRITE_REJECT0_CAUSE, F.NODE_WRITE_REJECT0_WCLASS, F.NODE_WRITE_REJECT0_PAGE,
    F.NODE_WRITE_REJECT1_SRC_NODE, F.NODE_WRITE_REJECT1_INITIATOR, F.NODE_WRITE_REJECT1_OFFSET]

theorem heldFields_apart : ∀ f ∈ heldFields, rejectReg f = true ∧ keyApart P.node f P.node F.NODE_WRITE_REJECT0_MULTI = true ∧
    keyApart P.node f P.node F.NODE_WRITE_REJECT2_COUNT = true := by decide

/-- While VALID is 1 a rejection sets MULTI, and what is held stays. -/
theorem reject_keeps_held {s : State} (hv : s.on P.node F.NODE_WRITE_REJECT0_VALID = true) (who : By)
    (page off cause : Nat) (cls : Option Cls) :
    (reject s who page off cause cls).rd P.node F.NODE_WRITE_REJECT0_MULTI = 1 ∧
      ∀ f ∈ heldFields, (reject s who page off cause cls).rd P.node f = s.rd P.node f := by
  refine ⟨?_, fun f hf => ?_⟩
  · rw [rd_reject rfl, if_pos hv]
    exact rd_wr_same ..
  · obtain ⟨hreg, hmulti, hcount⟩ := heldFields_apart f hf
    rw [rd_reject hreg, if_pos hv, rd_wr_apart _ _ hmulti, rd_inc_apart _ _ hcount]

/-! ## The statement -/

/-- Settles O56: REGISTER_WRITE comes to `reject`, and its further effects leave what `reject` recorded. -/
theorem firstRejectionIsHeld : Obligations.FirstRejectionIsHeld := by
  intro s who page off w cause cls ha hp ht hl hr hw
  have hrd : ∀ f, rejectReg f = true → (busStore s who page off (w % 2 ^ 32)).rd P.node f =
      (reject (dropArms s page) who page off cause cls).rd P.node f := fun f hf => by
    rw [busStore_refused ha ht hp (fun h => (hl h).2) hr hw, rd_refusedIf hf]
  refine ⟨_, exec_registerWrite_of_reaches (fun h => (hl h).1) .., ?count, fun hv => ?first, fun hv => ?later⟩
  case count => exact (hrd _ rfl).trans (rd_reject_count ..)
  case first =>
    obtain ⟨⟨hvalid, hcause, hcls, hpage, hoff, hini, hsrc⟩, hmulti⟩ :=
      reject_holds_of_released (s := dropArms s page) hv who page off cause cls
    simp (disch := decide) only [hrd]
    exact ⟨hvalid, hcause, hcls, hpage, hoff, hini, hsrc, hmulti⟩
  case later =>
    obtain ⟨hmulti, hheld⟩ := reject_keeps_held (s := dropArms s page) hv who page off cause cls
    exact ⟨(hrd _ rfl).trans hmulti, fun f hf => (hrd f (heldFields_apart f hf).1).trans (hheld f hf)⟩

end Sys2Proof.Machine
end

section
/-!
PROOF. An untouched Halo entry ages (R135): HALO_ENTRY_AGED resets the entry of its source and group alone, and CNT_AGED counts it.
-/

namespace Sys2Proof.Machine

/-! ## Reads of Halo entries -/

@[simp] theorem haloEnt_inc (s : State) (p : Nat) (f : Fld) (n src g : Nat) :
    haloEnt (s.inc p f n) src g = haloEnt s src g := rfl

@[simp] theorem haloEnt_atTime (s : State) (t src g : Nat) : haloEnt (s.atTime t) src g = haloEnt s src g := rfl

@[simp] theorem haloEnt_setHaloEnt_same (s : State) (src g : Nat) (e : HaloEnt) :
    haloEnt (setHaloEnt s src g e) src g = e := Tbl.at_put_same ..

/-- Sources and groups have entries of their own: groups are 0 and 1, and the key is 2 × source + group. -/
theorem haloEnt_setHaloEnt_other (s : State) {src g src' g' : Nat} (e : HaloEnt) (hg : g < 2) (hg' : g' < 2)
    (h : src' ≠ src ∨ g' ≠ g) : haloEnt (setHaloEnt s src g e) src' g' = haloEnt s src' g' :=
  Tbl.at_put_ne _ _ (by omega) _

/-! ## The command -/

/-- HALO_ENTRY_AGED of a valid entry that was left untouched for HALO_AGE: the entry is as at reset, and CNT_AGED counts it. -/
theorem exec_haloEntryAged_of_untouched {s : State} {src g t : Nat} (hl : lanesOn s = true) (hs : src < 4096) (hg : g < 2)
    (hv : (haloEnt s src g).valid = true) (ha : (haloEnt s src g).touch + haloAge s ≤ s.upAt t) :
    exec (.haloEntryAged src g t) s = .next ((setHaloEnt (s.atTime t) src g {}).inc P.halo F.HALO_CNT_AGED_N) := by
  show execHaloEntryAged src g t s = _
  unfold execHaloEntryAged
  dsimp only
  rw [if_pos (by simp [hl, hs, hg, hv, ha])]

/-! ## The statement -/

/-- Settles O53: the entry is reset under its own key, so every other source and group reads as before. -/
theorem untouchedHaloEntryAges : Obligations.UntouchedHaloEntryAges := by
  intro s a g x hl ha hg hv ht
  refine ⟨_, exec_haloEntryAged_of_untouched hl ha hg hv ht, ?invalid, ?counted, fun b h hh hne => ?other⟩
  case invalid => rw [haloEnt_inc, haloEnt_setHaloEnt_same]
  case counted => exact rd_inc_same ..
  case other => rw [haloEnt_inc, haloEnt_setHaloEnt_other _ _ hg hh hne, haloEnt_atTime]

end Sys2Proof.Machine
end

section
/-!
PROOF. A CORE_DONE bit is taken from its own core only (R514): the write comes to `effTime`, which takes the writer's own bit or
nothing, before C(n) and from it on.
-/

namespace Sys2Proof.Machine

/-! ## What a declaration changes -/

/-- A bit of a field after a mask has been set in it. -/
theorem bit_orb (s : State) (p : Nat) (f : Fld) (m : Nat) {k : Nat} (h : k < f.width) :
    (s.orb p f m).bit p f k = (s.bit p f k || bitOf m k) := by
  unfold State.bit State.orb
  rw [rd_wr_same, bitOf_mod]
  simp [h, bitOf_eq_testBit]

theorem bitOf_two_pow (i k : Nat) : bitOf (2 ^ i) k = (i == k) := by
  rw [bitOf_eq_testBit, Nat.testBit_two_pow, beq_eq_decide]

/-- CORE_DONE after core `i` declares before C(n) (R83). -/
theorem bit_coreDone_of_early {s : State} (hp : s.time.pastC = false) (hc : s.now < commitAt s) (i : Nat) {k : Nat} (hk : k < 4) :
    (coreDone s (2 ^ i)).bit P.time F.TIME_CORE_DONE_DONE k = (s.bit P.time F.TIME_CORE_DONE_DONE k || (i == k)) := by
  unfold coreDone
  have hm : bitOf (2 ^ i % 16) k = (i == k) := by
    refine (bitOf_mod _ 4 k).trans ?_
    rw [bitOf_two_pow, decide_eq_true hk, Bool.true_and]
  rw [if_neg (by simp [hp, hc]), bit_orb _ _ _ _ hk, hm]

/-- A late declaration counts and raises its event; CORE_DONE stays. -/
theorem bit_coreDone_of_late {s : State} (h : (s.time.pastC || decide (commitAt s ≤ s.now)) = true) (m k : Nat) :
    (coreDone s m).bit P.time F.TIME_CORE_DONE_DONE k = s.bit P.time F.TIME_CORE_DONE_DONE k := by
  unfold coreDone
  rw [if_pos h]
  exact congrArg (bitOf · k) ((rd_raise _ _ _ _ _ (by decide)).trans (rd_inc_apart _ _ (by decide)))

/-- Core `i` declares for itself alone, at any time. -/
theorem bit_coreDone_other (s : State) {i k : Nat} (hk : k < 4) (h : i ≠ k) :
    (coreDone s (2 ^ i)).bit P.time F.TIME_CORE_DONE_DONE k = s.bit P.time F.TIME_CORE_DONE_DONE k := by
  by_cases hl : (s.time.pastC || decide (commitAt s ≤ s.now)) = true
  · exact bit_coreDone_of_late hl ..
  · simp only [Bool.or_eq_true, decide_eq_true_eq, not_or, Bool.not_eq_true, not_le] at hl
    obtain ⟨hp, hc⟩ := hl
    rw [bit_coreDone_of_early hp hc i hk, beq_false_of_ne h, Bool.or_false]

/-- A declaration, early or late, changes of page NODE what its event can. -/
theorem rd_node_coreDone (s : State) (m : Nat) {f : Fld} (h : evKey ⟨P.node, f.off, f.lsb, 0⟩ = false) :
    (coreDone s m).rd P.node f = s.rd P.node f := by
  unfold coreDone
  split
  · exact (rd_raise _ _ _ _ _ h).trans (rd_inc_apart _ _ rfl)
  · exact rd_wr_apart _ _ rfl

/-- No event changes WRITE_REJECT0 to 2. -/
theorem evKey_writeReject {f : Fld} (hl : 0x058 ≤ f.off) (hu : f.off ≤ 0x060) : evKey ⟨P.node, f.off, f.lsb, 0⟩ = false := by
  have h : f.off ≠ 0x010 ∧ f.off ≠ 0x048 ∧ f.off ≠ 0x070 ∧ f.off ≠ 0x074 := by omega
  simp [evKey, P.node, h]

/-! ## The write -/

/-- A write of CORE_DONE takes the writer's own bit, and no other. -/
theorem effTime_coreDone (s : State) (ini word : Nat) :
    effTime s ini 0x068 word = if ini ≤ 3 ∧ bitOf word ini = true then coreDone s (2 ^ ini) else s := by
  unfold effTime
  rw [if_pos rfl]

/-- A write to a register of TIME beyond the page header is TIME's operation. -/
theorem writeEffect_time (old s : State) (who : By) {off : Nat} (h : 0x040 ≤ off) (word : Nat) :
    writeEffect old s who P.time off word = effTime s who.ini off word := by
  have ht : pageType P.time = some .time := by decide
  unfold writeEffect
  rw [if_neg (by omega), ht]

/-- CORE_DONE, and REGISTER_WRITE of the same word, are TIME's operation with that word. -/
theorem MayWrite.coreDone_eq {s : State} {who : By} {m : Nat} {c : Instr} (h : MayWrite s who P.time 0x068) (hm : m < 16)
    (hc : c = .coreDone who m ∨ c = .registerWrite who P.time 0x068 m) :
    exec c s = .next (effTime (dropArms s P.time) who.ini 0x068 m) := by
  have hw : busStore s who P.time 0x068 m = effTime (dropArms s P.time) who.ini 0x068 m :=
    (h.trigger m (by decide) (by decide) (.inl (by decide)) (by decide)).trans (writeEffect_time _ _ _ (by decide) _)
  obtain rfl | rfl := hc
  · show execCoreDone who m s = _
    unfold execCoreDone
    rw [Nat.mod_eq_of_lt hm, hw]
  · rw [exec_registerWrite_of_reaches (fun hd => absurd hd (by decide)), Nat.mod_eq_of_lt (by omega), hw]

/-! ## The statement -/

/-- Settles O54: the write comes to the declaration of the writer's own core, or to nothing. -/
theorem coreDoneIsTakenFromItsOwnCoreOnly : Obligations.CoreDoneIsTakenFromItsOwnCoreOnly := by
  intro s who m k c hw hk hm hc
  refine ⟨_, hw.coreDone_eq hm hc, ?_⟩
  rw [effTime_coreDone]
  split
  next hown =>
    refine ⟨fun hp hn => ?early, fun hne => bit_coreDone_other _ hk hne,
      fun f hl hu => rd_node_coreDone _ _ (evKey_writeReject hl hu)⟩
    case early =>
      have hbit : (who.ini == k && bitOf m k) = (who.ini == k) := by
        by_cases e : who.ini = k
        · rw [← e, hown.2, Bool.and_true]
        · rw [beq_false_of_ne e, Bool.false_and]
      rw [hbit]
      exact bit_coreDone_of_early (s := dropArms s P.time) hp hn _ hk
  next hnone =>
    refine ⟨fun _ _ => ?_, fun _ => rfl, fun _ _ _ => rfl⟩
    have hb : (who.ini == k && bitOf m k) = false := by
      by_contra hb
      simp only [Bool.not_eq_false, Bool.and_eq_true, beq_iff_eq] at hb
      obtain ⟨rfl, hb⟩ := hb
      exact hnone ⟨by omega, hb⟩
    rw [hb, Bool.or_false]
    rfl

end Sys2Proof.Machine
end

section
/-!
PROOF. What R553 says of a staged image, command by command: BANK_TOUCHED and UNSTAGE give it up, APPLY gives it up and starts the apply
engine, and APPLY_DONE ends with a failure or stages what the inactive slot then holds. This last one is stated where IMG_SEL holds a
value of its 3 bits, so that the image area lies off the flash. `State` admits a register file with a larger value, which lays
the image area over a slot; and since DAWN has no image area (log 125), an Eclipse freeze that an event of the apply causes there
changes what the slot reads as after it has been judged.
-/

namespace Sys2Proof.Machine

/-! ## STATE, RESULT and NODE_STATE.UPDATE -/

theorem rd_updResult_same (s : State) (r : Nat) : (updResult s r).rd P.upd F.UPDATE_UPD_STAT_RESULT = r % 16 :=
  (rd_hubLog _ _ _ _ _ _ _ (by decide)).trans (rd_wr_same ..)

theorem rd_updResult_apart (s : State) (r : Nat) {q : Nat} {f : Fld} (h : logKey ⟨q, f.off, f.lsb, 0⟩ = false)
    (ha : keyApart q f P.upd F.UPDATE_UPD_STAT_RESULT = true) : (updResult s r).rd q f = s.rd q f :=
  (rd_hubLog _ _ _ _ _ _ _ h).trans (rd_wr_apart _ _ ha)

theorem updState_setUpd (s : State) {st : Nat} (h : st < 16) : updState (setUpd s st) = st :=
  (rd_wr_apart _ _ rfl).trans ((rd_wr_same ..).trans (Nat.mod_eq_of_lt h))

/-- NODE_STATE.UPDATE is NONE while nothing is staged, and while an apply runs. -/
theorem nodeUpdate_setUpd (s : State) {st : Nat} (h : st < 2) : (setUpd s st).rd P.node F.NODE_NODE_STATE_UPDATE = 0 := by
  unfold setUpd
  obtain rfl | rfl : st = 0 ∨ st = 1 := by omega
  all_goals exact rd_wr_same ..

theorem rd_setUpd_apart (s : State) (st : Nat) {q : Nat} {f : Fld} (h : keyApart q f P.upd F.UPDATE_UPD_STAT_STATE = true)
    (hn : keyApart q f P.node F.NODE_NODE_STATE_UPDATE = true) : (setUpd s st).rd q f = s.rd q f :=
  (rd_wr_apart _ _ hn).trans (rd_wr_apart _ _ h)

theorem rd_zero_apart (s : State) (p : Nat) (fs : List Fld) {q : Nat} {f : Fld} (h : ∀ g ∈ fs, keyApart q f p g = true) :
    (s.zero p fs).rd q f = s.rd q f := by
  induction fs generalizing s with
  | nil => rfl
  | cons g r ih =>
    obtain ⟨hg, hr⟩ := List.forall_mem_cons.mp h
    exact (ih (s.wr p g 0) hr).trans (rd_wr_apart _ _ hg)

theorem rd_actForget (s : State) {q : Nat} {f : Fld} (h : ∀ g ∈ actDeferBits, keyApart q f P.node g = true) :
    (actForget s).rd q f = s.rd q f := rd_zero_apart _ _ _ h

theorem actDue_actForget (s : State) : (actForget s).mgmt.actDue = none := rfl

/-! ## UPDATE leaves STAGED -/

/-- The staged image is given up, and its activation with it: UPDATE reads STATE `st` and RESULT `r`. -/
structure GivenUp (t : State) (st r : Nat) : Prop where
  state : updState t = st
  node : t.rd P.node F.NODE_NODE_STATE_UPDATE = 0
  result : t.rd P.upd F.UPDATE_UPD_STAT_RESULT = r
  due : t.mgmt.actDue = none

theorem unstage_givesUp {s : State} (h : updState s = 2) {r : Nat} (hr : r < 16) : GivenUp (unstage s r) 0 r := by
  unfold unstage
  rw [if_pos h]
  refine ⟨?_, ?_, ?_, actDue_actForget _⟩
  · exact (rd_actForget _ (by decide)).trans ((rd_updResult_apart _ _ (by decide) rfl).trans (updState_setUpd _ (by omega)))
  · exact (rd_actForget _ (by decide)).trans ((rd_updResult_apart _ _ (by decide) rfl).trans (nodeUpdate_setUpd _ (by omega)))
  · exact (rd_actForget _ (by decide)).trans ((rd_updResult_same ..).trans (Nat.mod_eq_of_lt hr))

theorem stageApply_givesUp {s : State} (h : updState s = 2) (hs : s.working = true ∨ s.st = NS.join) :
    GivenUp (stageApply s) 1 0 := by
  unfold stageApply
  rw [if_neg (by rcases hs with h | h <;> simp [h]), if_neg (by omega)]
  refine ⟨?_, ?_, ?_, actDue_actForget _⟩
  · exact (rd_actForget _ (by decide)).trans ((rd_wr_apart _ _ rfl).trans (updState_setUpd _ (by omega)))
  · exact (rd_actForget _ (by decide)).trans ((rd_wr_apart _ _ rfl).trans (nodeUpdate_setUpd _ (by omega)))
  · exact (rd_actForget _ (by decide)).trans (rd_wr_same ..)

/-! ## BANK_TOUCHED, UNSTAGE and APPLY -/

theorem updState_memWrite (s : State) (a : Nat) (b : List Nat) : updState (s.memWrite a b) = updState s :=
  (State.memWrite_keeps ..).rd _ _ rfl

/-- R553: a store into an inactive bank. -/
theorem exec_bankTouched_givesUp {s : State} {a : Nat} {b : List Nat} (ha : s.alive = true) (hl : inactiveBank a = true)
    (hu : inactiveBank (a + b.length - 1) = true) (hs : updState s = 2) :
    ∃ t, exec (.bankTouched a b) s = .next t ∧ GivenUp t 0 11 := by
  refine ⟨unstage (s.memWrite (bankPhys s a) b) 11, ?_, unstage_givesUp ((updState_memWrite ..).trans hs) (by decide)⟩
  show execBankTouched a b s = _
  unfold execBankTouched
  rw [if_pos (by simp [ha, hl, hu])]

theorem updState_dropArms (s : State) (p : Nat) : updState (dropArms s p) = updState s := (dropArms_keeps ..).rd _ _ rfl

theorem st_dropArms (s : State) (p : Nat) : (dropArms s p).st = s.st := (dropArms_keeps ..).rd _ _ rfl

/-- A write of STAGE_CMD is UPDATE's operation. -/
theorem MayWrite.stageCmd_eq {s : State} {who : By} (h : MayWrite s who P.upd 0x044) (word : Nat) :
    busStore s who P.upd 0x044 word = effUpdate (dropArms s P.upd) who.ini 0x044 word := by
  have ht : pageType P.upd = some .update := by decide
  rw [h.trigger word (by decide) (by decide) (.inl (by decide)) (by decide)]
  unfold writeEffect
  rw [if_neg (by decide), ht]

/-- R553: UNSTAGE. -/
theorem MayWrite.exec_unstage_givesUp {s : State} {who : By} (h : MayWrite s who P.upd 0x044) (hs : updState s = 2) :
    ∃ t, exec (.unstage who) s = .next t ∧ GivenUp t 0 1 := by
  refine ⟨unstage (dropArms s P.upd) 1, ?_, unstage_givesUp ((updState_dropArms ..).trans hs) (by decide)⟩
  show Host.Outcome.next (busStore ..) = _
  rw [h.stageCmd_eq]
  rfl

/-- R553: a new APPLY. -/
theorem MayWrite.exec_applySlot_givesUp {s : State} {who : By} (h : MayWrite s who P.upd 0x044) (hs : updState s = 2)
    (hn : s.working = true ∨ s.st = NS.join) : ∃ t, exec (.applySlot who) s = .next t ∧ GivenUp t 1 0 := by
  refine ⟨stageApply (dropArms s P.upd), ?_, stageApply_givesUp ((updState_dropArms ..).trans hs) ?_⟩
  · show Host.Outcome.next (busStore ..) = _
    rw [h.stageCmd_eq]
    rfl
  · unfold State.working State.isIn at *
    rwa [st_dropArms]

/-! ## What the hub remembers of an image -/

/-- With IMG_SEL within its field the image area ends below the flash, which so reads as what it holds. -/
theorem showAt_flash {s : State} (hi : s.rd P.sub F.SUBSCRIBE_SUB_CFG_IMG_SEL < 8) {a : Nat} (ha : 0x50000000 ≤ a) :
    s.showAt a = (s.memAt a).toNat := by
  have himg : s.imageOff a = none := if_neg (by omega)
  have hlog : logAddr a = false := by simp only [logAddr, decide_eq_false_iff_not]; omega
  unfold State.showAt
  rw [himg, hlog]
  rfl

theorem flashBytes_congr {s t : State} (hs : s.rd P.sub F.SUBSCRIBE_SUB_CFG_IMG_SEL < 8)
    (ht : t.rd P.sub F.SUBSCRIBE_SUB_CFG_IMG_SEL < 8) (hm : t.mem = s.mem) (a n : Nat) : flashBytes t a n = flashBytes s a n := by
  unfold flashBytes State.memRead
  refine List.map_congr_left fun k _ => ?_
  rw [showAt_flash hs (by omega), showAt_flash ht (by omega)]
  unfold State.memAt
  rw [hm]

theorem imgSigner_congr {s t : State} (ho : t.otp = s.otp) (h : List Nat) : imgSigner t h = imgSigner s h := by
  unfold imgSigner keyMatch keysFor keyLive keyHash
  rw [ho]

theorem imgInfo_congr {s t : State} (hs : s.rd P.sub F.SUBSCRIBE_SUB_CFG_IMG_SEL < 8)
    (ht : t.rd P.sub F.SUBSCRIBE_SUB_CFG_IMG_SEL < 8) (hm : t.mem = s.mem) (ho : t.otp = s.otp) (slot : Nat) :
    imgInfo t slot = imgInfo s slot := by
  have hh : slotHead t slot = slotHead s slot := flashBytes_congr hs ht hm ..
  unfold imgInfo
  simp only [hh, imgSigner_congr ho]

theorem staged_hubLog (s : State) (kind : Nat) (c a b : Option Nat) : (hubLog s kind c a b).mgmt.staged = s.mgmt.staged := by
  have hdraw : ∀ u w v, (orDraw u w v).2.mgmt.staged = u.mgmt.staged := fun u w v => by rw [(orDraw_keeps u w v).mgmt rfl]
  have hput : ∀ u x, (logPut u x).mgmt.staged = u.mgmt.staged := fun u x => by
    unfold logPut
    dsimp only
    split <;> rfl
  unfold hubLog logAdd
  rw [(raiseIf_keeps ..).mgmt rfl, hput, hdraw, hdraw, hdraw]

theorem staged_updResult (s : State) (r : Nat) : (updResult s r).mgmt.staged = s.mgmt.staged := staged_hubLog ..

/-! ## APPLY_DONE -/

theorem applyFail_fails (s : State) {r : Nat} (h : r < 16) : updState (applyFail s r) = 0 ∧
    (applyFail s r).rd P.upd F.UPDATE_UPD_STAT_RESULT = r ∧ (applyFail s r).mgmt.staged = s.mgmt.staged := by
  unfold applyFail
  refine ⟨?_, ?_, ?_⟩
  · exact (rd_raise _ _ _ _ _ (by decide)).trans
      ((rd_updResult_apart _ _ (by decide) rfl).trans (updState_setUpd _ (by omega)))
  · exact (rd_raise _ _ _ _ _ (by decide)).trans ((rd_updResult_same ..).trans (Nat.mod_eq_of_lt h))
  · rw [(raise_keeps ..).mgmt rfl]
    exact staged_updResult ..

/-- The end of an apply that succeeds: the image of `slot`, whose header is `h`, is staged. -/
def stageImage (s : State) (slot : Nat) (h : List Nat) : State :=
  let s := { s with mgmt := { s.mgmt with staged := imgInfo s slot } }
  let s := (setUpd s 2).wr P.upd F.UPDATE_UPD_STAT_STAGED_SVN (imgSvn h)
  let s := s.wr64 P.upd F.UPDATE_STAGED_VER_LO_V F.UPDATE_STAGED_VER_HI_V (imgVersion h)
  raise (updResult s 1) P.upd 0

theorem rd_stageImage_apart (s : State) (slot : Nat) (h : List Nat) {q : Nat} {f : Fld} (hl : logKey ⟨q, f.off, f.lsb, 0⟩ = false)
    (ha : ∀ g ∈ [F.UPDATE_UPD_STAT_RESULT, F.UPDATE_STAGED_VER_HI_V, F.UPDATE_STAGED_VER_LO_V, F.UPDATE_UPD_STAT_STAGED_SVN],
      keyApart q f P.upd g = true) : (stageImage s slot h).rd q f = (setUpd s 2).rd q f := by
  simp only [List.forall_mem_cons, List.not_mem_nil, false_implies, implies_true, and_true] at ha
  obtain ⟨hr, hhi, hlo, hsvn⟩ := ha
  exact (rd_raise _ _ _ _ _ (evKey_of_logKey _ hl)).trans ((rd_updResult_apart _ _ hl hr).trans
    ((rd_wr_apart _ _ hhi).trans ((rd_wr_apart _ _ hlo).trans (rd_wr_apart _ _ hsvn))))

theorem stageImage_mem (s : State) (slot : Nat) (h : List Nat) : (stageImage s slot h).mem = s.mem :=
  ((raise_keeps ..).mem rfl).trans ((updResult_keeps ..).mem rfl)

theorem stageImage_otp (s : State) (slot : Nat) (h : List Nat) : (stageImage s slot h).otp = s.otp :=
  ((raise_keeps ..).otp rfl).trans ((updResult_keeps ..).otp rfl)

theorem stageImage_staged (s : State) (slot : Nat) (h : List Nat) : (stageImage s slot h).mgmt.staged = imgInfo s slot := by
  unfold stageImage
  rw [(raise_keeps ..).mgmt rfl]
  exact staged_updResult ..

/-- What is staged is what the inactive slot holds afterwards. -/
theorem stageImage_stages {s : State} (hi : s.rd P.sub F.SUBSCRIBE_SUB_CFG_IMG_SEL < 8) (h : List Nat) :
    let t := stageImage s (1 - activeSlot s) h
    updState t = 2 ∧ t.rd P.upd F.UPDATE_UPD_STAT_RESULT = 1 ∧ t.mgmt.staged = imgInfo t (1 - activeSlot t) := by
  intro t
  have hslot : activeSlot t = activeSlot s := (rd_stageImage_apart _ _ _ (by decide) (by decide)).trans (rd_setUpd_apart _ _ rfl rfl)
  have hsel : t.rd P.sub F.SUBSCRIBE_SUB_CFG_IMG_SEL = s.rd P.sub F.SUBSCRIBE_SUB_CFG_IMG_SEL :=
    (rd_stageImage_apart _ _ _ (by decide) (by decide)).trans (rd_setUpd_apart _ _ rfl rfl)
  refine ⟨?_, ?_, ?_⟩
  · exact (rd_stageImage_apart _ _ _ (by decide) (by decide)).trans (updState_setUpd _ (by omega))
  · exact (rd_raise _ _ _ _ _ (by decide)).trans (rd_updResult_same ..)
  · rw [hslot, imgInfo_congr hi (hsel ▸ hi) (stageImage_mem ..) (stageImage_otp ..)]
    exact stageImage_staged ..

/-- The two ends of an apply: a failure with a RESULT of R552, or the image that the inactive slot then holds is staged. Until then
only memory changes, and free values are drawn. -/
inductive ApplyEnds (s : State) : State → Prop
  | fails {u : State} {r : Nat} (hk : Keeps 272 s u) (hr : 4 ≤ r ∧ r < 16) : ApplyEnds s (applyFail u r)
  | stages {u : State} (h : List Nat) (hk : Keeps 272 s u) : ApplyEnds s (stageImage u (1 - activeSlot u) h)

theorem ApplyEnds.ite {s t u : State} {c : Prop} [Decidable c] (ht : ApplyEnds s t) (hu : ApplyEnds s u) :
    ApplyEnds s (if c then t else u) := by split <;> assumption

/-- Steps 5 and 6 of R552. -/
theorem applyJudge_ends {s u : State} (hk : Keeps 272 s u) (version : Nat) : ApplyEnds s (applyJudge u version) := by
  have hload : Keeps 272 s (loadParts u (1 - activeSlot u) false) := Keeps.step (loadParts_keeps ..) rfl hk
  have hslot : activeSlot (loadParts u (1 - activeSlot u) false) = activeSlot u := (loadParts_keeps ..).rd _ _ rfl
  have hstage : ApplyEnds s (stageImage (loadParts u (1 - activeSlot u) false) (1 - activeSlot u) (slotHead u (1 - activeSlot u))) := by
    have := ApplyEnds.stages (slotHead u (1 - activeSlot u)) hload
    rwa [hslot] at this
  unfold applyJudge
  refine .ite (.fails hk (by decide)) (.ite (.fails hk (by decide)) (.ite (.fails hload (by decide)) ?_))
  exact hstage

/-- The steps of R552, in their order. -/
theorem applySteps_ends (s : State) (err : Bool) : ApplyEnds s (applySteps s err) := by
  have herase : ∀ a n, Keeps 272 s (flashErase s a n) := fun a n => (flashErase_keeps s a n).mono rfl
  have hwrite : ∀ a n b, Keeps 272 s (flashProgram (flashErase s a n) a b) := fun a n b =>
    Keeps.step (flashProgram_keeps ..) rfl (herase a n)
  unfold applySteps
  refine .ite (.fails (.refl ..) (by decide)) (.ite (.fails (.refl ..) (by decide)) (.ite (.fails (.refl ..) (by decide))
    (.ite (.fails (.refl ..) (by decide)) (.ite (.fails (.refl ..) (by decide))
      (.ite (.fails ((flashUnknown_keeps ..).mono rfl) (by decide)) ?_)))))
  split
  next => exact .fails (herase ..) (by decide)
  next =>
    exact .ite (.fails (herase ..) (by decide)) (.ite (.fails (hwrite ..) (by decide)) (applyJudge_ends (hwrite ..) _))

theorem ApplyEnds.stages_or_fails {s t : State} (h : ApplyEnds s t) (hi : s.rd P.sub F.SUBSCRIBE_SUB_CFG_IMG_SEL < 8) :
    (updState t = 0 ∨ updState t = 2) ∧
      (updState t = 2 → t.rd P.upd F.UPDATE_UPD_STAT_RESULT = 1 ∧ t.mgmt.staged = imgInfo t (1 - activeSlot t)) ∧
      (updState t = 0 → 4 ≤ t.rd P.upd F.UPDATE_UPD_STAT_RESULT ∧ t.mgmt.staged = s.mgmt.staged) := by
  cases h with
  | fails hk hr =>
    obtain ⟨hstate, hresult, hstaged⟩ := applyFail_fails _ hr.2
    rw [hstate, hresult, hstaged, hk.mgmt rfl]
    exact ⟨.inl rfl, fun h => absurd h (by decide), fun _ => ⟨hr.1, rfl⟩⟩
  | stages h hk =>
    obtain ⟨hstate, hresult, hstaged⟩ := stageImage_stages ((hk.rd _ _ rfl).trans_lt hi) h
    rw [hstate]
    exact ⟨.inr rfl, fun _ => ⟨hresult, hstaged⟩, fun h => absurd h (by decide)⟩

/-- R553, R552: the apply engine stages what the inactive slot then holds, or fails and leaves what was staged. -/
theorem exec_applyDone_stages_or_fails {s : State} (ha : s.alive = true) (hs : updState s = 1)
    (hi : s.rd P.sub F.SUBSCRIBE_SUB_CFG_IMG_SEL < 8) (err : Bool) :
    ∃ t, exec (.applyDone err) s = .next t ∧ (updState t = 0 ∨ updState t = 2) ∧
      (updState t = 2 → t.rd P.upd F.UPDATE_UPD_STAT_RESULT = 1 ∧ t.mgmt.staged = imgInfo t (1 - activeSlot t)) ∧
      (updState t = 0 → 4 ≤ t.rd P.upd F.UPDATE_UPD_STAT_RESULT ∧ t.mgmt.staged = s.mgmt.staged) := by
  refine ⟨applySteps s err, ?_, (applySteps_ends s err).stages_or_fails hi⟩
  show execApplyDone err s = _
  unfold execApplyDone
  rw [if_pos (by simp [ha, hs])]

end Sys2Proof.Machine
end

section
/-!
PROOF. What every command and every step does, whatever the state: a next state, the parts outside the command's reach as before,
the tables in canonical form, no fuse cleared. All of it follows from one lemma, `exec_keeps`: a command changes no part outside the
mask of its reach.
-/

namespace Sys2Proof.Machine

/-! ## The mask of a reach -/

/-- The bit of a part in the masks of `Keeps`. -/
def Part.idx : Part → Nat
  | .pending => 0 | .staged => 2 | .stagedLate => 3 | .mem => 4 | .accFaults => 5 | .wire => 6 | .delivered => 7 | .draws => 8
  | .node => 9 | .stitch => 10 | .time => 11 | .lanes => 12 | .halo => 13 | .sw => 14 | .pub => 15 | .txn => 16 | .ses => 17
  | .tracks => 18 | .drift => 19 | .edge => 20 | .caps => 21 | .field => 22 | .can => 23 | .pio => 24 | .sigs => 25 | .eths => 26
  | .uarts => 27 | .ports => 28 | .power => 29 | .usb => 30 | .router => 31 | .cores => 32 | .ao => 33 | .otp => 34 | .mgmt => 35
  | .ecl => 36 | .tick => 37
  | .regs g => g

/-- The part that a bit stands for. -/
def Part.ofIdx : Nat → Part
  | 0 => .pending | 1 => .pending | 2 => .staged | 3 => .stagedLate | 4 => .mem | 5 => .accFaults | 6 => .wire | 7 => .delivered
  | 8 => .draws | 9 => .node | 10 => .stitch | 11 => .time | 12 => .lanes | 13 => .halo | 14 => .sw | 15 => .pub | 16 => .txn
  | 17 => .ses | 18 => .tracks | 19 => .drift | 20 => .edge | 21 => .caps | 22 => .field | 23 => .can | 24 => .pio | 25 => .sigs
  | 26 => .eths | 27 => .uarts | 28 => .ports | 29 => .power | 30 => .usb | 31 => .router | 32 => .cores | 33 => .ao | 34 => .otp
  | 35 => .mgmt | 36 => .ecl | 37 => .tick
  | g + 38 => .regs (g + 38)

/-- A part that State has: the groups of registers start at 40. -/
def Part.real : Part → Bool
  | .regs g => decide (40 ≤ g)
  | _ => true

theorem Part.ofIdx_idx {p : Part} (h : p.real = true) : Part.ofIdx p.idx = p := by
  cases p with
  | regs g =>
    obtain ⟨n, rfl⟩ : ∃ n, g = n + 38 := ⟨g - 38, by simp [Part.real] at h; omega⟩
    rfl
  | _ => rfl

theorem Part.idx_ne_one {p : Part} (h : p.real = true) : p.idx ≠ 1 := by
  cases p with
  | regs g =>
    simp [Part.real] at h
    show g ≠ 1
    omega
  | _ => decide

/-- The mask of a list of parts. -/
def partsMask : List Part → Nat
  | [] => 0
  | p :: r => (if p.real then 2 ^ p.idx else 0) ||| partsMask r

/-- The mask of a reach; what an operation can do to the register file is told by groups, so bit 1 is always among it. -/
def Reach.mask : Reach → Nat
  | .only l => 2 ||| partsMask l
  | .allBut l => 2 ||| ((2 ^ 100 - 1) ^^^ partsMask l)

theorem testBit_partsMask {p : Part} (h : p.real = true) (l : List Part) : (partsMask l).testBit p.idx = l.contains p := by
  induction l with
  | nil => simp [partsMask]
  | cons q r ih =>
    rw [partsMask, Nat.testBit_or, ih, List.contains_cons]
    congr 1
    by_cases e : p = q
    · subst e
      simp [h, Nat.testBit_two_pow_self]
    · rw [beq_eq_false_iff_ne.mpr e]
      split
      · rename_i hq
        refine Nat.testBit_two_pow_of_ne fun hi => e ?_
        rw [← Part.ofIdx_idx h, ← Part.ofIdx_idx hq, hi]
      · exact Nat.zero_testBit _

/-- What a reach keeps is clear in its mask. -/
theorem Reach.testBit_mask {r : Reach} {p : Part} (h : p.real = true) (hp : p.idx < 100) (hk : r.keeps p = true) :
    r.mask.testBit p.idx = false := by
  have h1 : (2 : Nat).testBit p.idx = false := Nat.testBit_two_pow_of_ne (n := 1) (Part.idx_ne_one h).symm
  cases r with
  | only l =>
    rw [Reach.mask, Nat.testBit_or, h1, testBit_partsMask h]
    simpa [Reach.keeps] using hk
  | allBut l =>
    have hl : l.contains p = true := hk
    rw [Reach.mask, Nat.testBit_or, h1, Nat.testBit_xor, testBit_partsMask h, Nat.testBit_two_pow_sub_one, hl]
    simp [hp]

theorem regGroup_real (k : Key) : 40 ≤ regGroup k ∧ regGroup k < 100 := by
  have h : allGroups.testBit (regGroup k) = true := regGroup_all k
  constructor
  · by_contra hc
    have hlow : ∀ g < 40, allGroups.testBit g = false := by decide
    rw [hlow _ (by omega)] at h
    exact absurd h (by decide)
  · by_contra hc
    rw [Nat.testBit_lt_two_pow (show allGroups < 2 ^ regGroup k from
      lt_of_lt_of_le (by decide : allGroups < 2 ^ 100) (Nat.pow_le_pow_right (by decide) (by omega)))] at h
    exact absurd h (by decide)

/-- What a reach keeps is the same in both states, where no more than its mask has changed. -/
theorem Keeps.same {r : Reach} {s t : State} (k : Keeps r.mask s t) {p : Part} (h : r.keeps p = true) : p.same s t := by
  have hb : p.real = true → p.idx < 100 → r.mask.testBit p.idx = false := fun hr hi => Reach.testBit_mask hr hi h
  cases p with
  | regs g =>
    rintro q f i rfl
    obtain ⟨hlo, hhi⟩ := regGroup_real ⟨q, f.off, f.lsb, i⟩
    exact k.rdi q f i (hb (by simpa [Part.real] using hlo) hhi)
  | pending => exact k.pending (hb rfl (by decide))
  | staged => exact k.staged (hb rfl (by decide))
  | stagedLate => exact k.stagedLate (hb rfl (by decide))
  | mem => exact k.mem (hb rfl (by decide))
  | accFaults => exact k.accFaults (hb rfl (by decide))
  | wire => exact k.wire (hb rfl (by decide))
  | delivered => exact k.delivered (hb rfl (by decide))
  | draws => exact k.draws (hb rfl (by decide))
  | node => exact k.node (hb rfl (by decide))
  | stitch => exact k.stitch (hb rfl (by decide))
  | time => exact k.time (hb rfl (by decide))
  | lanes => exact k.lanes (hb rfl (by decide))
  | halo => exact k.halo (hb rfl (by decide))
  | sw => exact k.sw (hb rfl (by decide))
  | pub => exact k.pub (hb rfl (by decide))
  | txn => exact k.txn (hb rfl (by decide))
  | ses => exact k.ses (hb rfl (by decide))
  | tracks => exact k.tracks (hb rfl (by decide))
  | drift => exact k.drift (hb rfl (by decide))
  | edge => exact k.edge (hb rfl (by decide))
  | caps => exact k.caps (hb rfl (by decide))
  | field => exact k.field (hb rfl (by decide))
  | can => exact k.can (hb rfl (by decide))
  | pio => exact k.pio (hb rfl (by decide))
  | sigs => exact k.sigs (hb rfl (by decide))
  | eths => exact k.eths (hb rfl (by decide))
  | uarts => exact k.uarts (hb rfl (by decide))
  | ports => exact k.ports (hb rfl (by decide))
  | power => exact k.power (hb rfl (by decide))
  | usb => exact k.usb (hb rfl (by decide))
  | router => exact k.router (hb rfl (by decide))
  | cores => exact k.cores (hb rfl (by decide))
  | ao => exact k.ao (hb rfl (by decide))
  | otp => exact k.otp (hb rfl (by decide))
  | mgmt => exact k.mgmt (hb rfl (by decide))
  | ecl => exact k.ecl (hb rfl (by decide))
  | tick => exact k.ticks (hb rfl (by decide))

/-! ## Every command -/

theorem OutKeeps.within {n : Nat} {r : Reach} {s : State} {o : Out} (k : OutKeeps n s o) (h : subMask n r.mask = true) :
    OutKeeps r.mask s o := k.mono h

/-- Every command answers a next state, and changes no part outside its reach. -/
theorem exec_keeps (c : Instr) (s : State) : OutKeeps (reach c).mask s (exec c s) := by
  cases c with
  | stitchReplay d n ok => exact (execStitchReplay_keeps d n ok s).within (r := .only _) (by decide +kernel)
  | stitchLinkDown d => exact (execStitchLinkDown_keeps d s).within (r := .only _) (by decide +kernel)
  | heartbeatFlit t ok => exact (execHeartbeatFlit_keeps t ok s).within (r := .only _) (by decide +kernel)
  | fdieWatchdogExpiry t => exact (execFdieWatchdogExpiry_keeps t s).within (r := .only _) (by decide +kernel)
  | fieldPageAccessDone who page off wr => exact (execFieldPageAccessDone_keeps who page off wr s).within (r := .only _) (by decide +kernel)
  | eccError m corr page addr ini => exact (execEccError_keeps m corr page addr ini s).within (r := .only _) (by decide +kernel)
  | pwrCtrlWrite who m => exact (execPwrCtrlWrite_keeps who m s).within (r := .only _) (by decide +kernel)
  | domainOff d => exact (execDomainOff_keeps d s).within (r := .only _) (by decide +kernel)
  | railsGood => exact (execRailsGood_keeps s).within (r := .allBut _) (by decide +kernel)
  | railFail => exact (execRailFail_keeps s).within (r := .allBut _) (by decide +kernel)
  | rstNLow w => exact (execRstNLow_keeps w s).within (r := .allBut _) (by decide +kernel)
  | warmReset => exact (execWarmReset_keeps s).within (r := .allBut _) (by decide +kernel)
  | bootRomStart bootsel errA errB => exact (execBootRomStart_keeps bootsel errA errB s).within (r := .only _) (by decide +kernel)
  | registerWrite who page off word => exact (execRegisterWrite_keeps who page off word s).within (r := .only _) (by decide +kernel)
  | pageStop page who stop => exact (execPageStop_keeps page who stop s).within (r := .only _) (by decide +kernel)
  | blockStopped page => exact (execBlockStopped_keeps page s).within (r := .only _) (by decide +kernel)
  | evForce page who m => exact (execEvForce_keeps page who m s).within (r := .only _) (by decide +kernel)
  | commitDiscard page who => exact (execCommitDiscard_keeps page who s).within (r := .only _) (by decide +kernel)
  | lockKey page who word => exact (execLockKey_keeps page who word s).within (r := .only _) (by decide +kernel)
  | keyArmLapse page => exact (execKeyArmLapse_keeps page s).within (r := .only _) (by decide +kernel)
  | resetCtrl who key => exact (execResetCtrl_keeps who key s).within (r := .only _) (by decide +kernel)
  | stateReq who target => exact (execStateReq_keeps who target s).within (r := .only _) (by decide +kernel)
  | joinAlone t => exact (execJoinAlone_keeps t s).within (r := .only _) (by decide +kernel)
  | cutOff => exact (execCutOff_keeps s).within (r := .only _) (by decide +kernel)
  | isolateRecordWritten => exact (execIsolateRecordWritten_keeps s).within (r := .only _) (by decide +kernel)
  | gwResetDeferExpiry t => exact (execGwResetDeferExpiry_keeps t s).within (r := .only _) (by decide +kernel)
  | feedWindowSettled t => exact (execFeedWindowSettled_keeps t s).within (r := .only _) (by decide +kernel)
  | feedsLost => exact (execFeedsLost_keeps s).within (r := .only _) (by decide +kernel)
  | tickInstant => exact (execTickInstant_keeps s).within (r := .only _) (by decide +kernel)
  | commitPoint => exact (execCommitPoint_keeps s).within (r := .only _) (by decide +kernel)
  | coreDone who m => exact (execCoreDone_keeps who m s).within (r := .only _) (by decide +kernel)
  | tickReceived lane t fr f => exact (execTickReceived_keeps lane t fr f s).within (r := .only _) (by decide +kernel)
  | tickClosure lane t fr f => exact (execTickClosure_keeps lane t fr f s).within (r := .only _) (by decide +kernel)
  | probeSend lane t1 => exact (execProbeSend_keeps lane t1 s).within (r := .only _) (by decide +kernel)
  | probe lane f t2 t3 => exact (execProbe_keeps lane f t2 t3 s).within (r := .only _) (by decide +kernel)
  | probeReply lane f t4 => exact (execProbeReply_keeps lane f t4 s).within (r := .only _) (by decide +kernel)
  | probeFail lane => exact (execProbeFail_keeps lane s).within (r := .only _) (by decide +kernel)
  | missDeadline n t => exact (execMissDeadline_keeps n t s).within (r := .only _) (by decide +kernel)
  | zenithListenExpiry t => exact (execZenithListenExpiry_keeps t s).within (r := .only _) (by decide +kernel)
  | takeover k => exact (execTakeover_keeps k s).within (r := .only _) (by decide +kernel)
  | zenithYield => exact (execZenithYield_keeps s).within (r := .only _) (by decide +kernel)
  | cmdGo who => exact (execCmdGo_keeps who s).within (r := .only _) (by decide +kernel)
  | lineReq who v => exact (execLineReq_keeps who v s).within (r := .only _) (by decide +kernel)
  | line => exact (execLine_keeps s).within (r := .only _) (by decide +kernel)
  | tickLen => exact (execTickLen_keeps s).within (r := .only _) (by decide +kernel)
  | window => exact (execWindow_keeps s).within (r := .only _) (by decide +kernel)
  | zenithMove => exact (execZenithMove_keeps s).within (r := .only _) (by decide +kernel)
  | activate => exact (execActivate_keeps s).within (r := .only _) (by decide +kernel)
  | user => exact (execUser_keeps s).within (r := .only _) (by decide +kernel)
  | cntClear page who => exact (execCntClear_keeps page who s).within (r := .only _) (by decide +kernel)
  | signalDetect lane => exact (execSignalDetect_keeps lane s).within (r := .only _) (by decide +kernel)
  | blockLock lane inv => exact (execBlockLock_keeps lane inv s).within (r := .only _) (by decide +kernel)
  | lockTimeout lane => exact (execLockTimeout_keeps lane s).within (r := .only _) (by decide +kernel)
  | signalTimeout lane => exact (execSignalTimeout_keeps lane s).within (r := .only _) (by decide +kernel)
  | helloSend lane => exact (execHelloSend_keeps lane s).within (r := .only _) (by decide +kernel)
  | hello lane f => exact (execHello_keeps lane f s).within (r := .only _) (by decide +kernel)
  | helloTimeout lane => exact (execHelloTimeout_keeps lane s).within (r := .only _) (by decide +kernel)
  | laneDown lane cause => exact (execLaneDown_keeps lane cause s).within (r := .only _) (by decide +kernel)
  | flapHoldEnd lane t => exact (execFlapHoldEnd_keeps lane t s).within (r := .only _) (by decide +kernel)
  | ppmWindow lane ppm => exact (execPpmWindow_keeps lane ppm s).within (r := .only _) (by decide +kernel)
  | crcWindow lane => exact (execCrcWindow_keeps lane s).within (r := .only _) (by decide +kernel)
  | ringFrameReceived lane hd f part t => exact (execRingFrameReceived_keeps lane hd f part t s).within (r := .only _) (by decide +kernel)
  | haloEntryAged src g t => exact (execHaloEntryAged_keeps src g t s).within (r := .only _) (by decide +kernel)
  | announce lane f t => exact (execAnnounce_keeps lane f t s).within (r := .only _) (by decide +kernel)
  | holdDone t => exact (execHoldDone_keeps t s).within (r := .only _) (by decide +kernel)
  | neighbourSend t => exact (execNeighbourSend_keeps t s).within (r := .only _) (by decide +kernel)
  | neighbour lane f => exact (execNeighbour_keeps lane f s).within (r := .only _) (by decide +kernel)
  | neighbourMissed lane => exact (execNeighbourMissed_keeps lane s).within (r := .only _) (by decide +kernel)
  | change f => exact (execChange_keeps f s).within (r := .only _) (by decide +kernel)
  | statusSend => exact (execStatusSend_keeps s).within (r := .only _) (by decide +kernel)
  | duplicate f => exact (execDuplicate_keeps f s).within (r := .only _) (by decide +kernel)
  | entrySel who grp src => exact (execEntrySel_keeps who grp src s).within (r := .only _) (by decide +kernel)
  | portDown p => exact (execPortDown_keeps p s).within (r := .only _) (by decide +kernel)
  | frameTransmitStart p t => exact (execFrameTransmitStart_keeps p t s).within (r := .only _) (by decide +kernel)
  | frameTransmitEnd p t => exact (execFrameTransmitEnd_keeps p t s).within (r := .only _) (by decide +kernel)
  | gateChange p t => exact (execGateChange_keeps p t s).within (r := .only _) (by decide +kernel)
  | squallInterval m => exact (execSquallInterval_keeps m s).within (r := .only _) (by decide +kernel)
  | cellEccError id addr => exact (execCellEccError_keeps id addr s).within (r := .only _) (by decide +kernel)
  | pubReady who hi m => exact (execPubReady_keeps who hi m s).within (r := .only _) (by decide +kernel)
  | channelOffer => exact (execChannelOffer_keeps s).within (r := .only _) (by decide +kernel)
  | publishReceived f t => exact (execPublishReceived_keeps f t s).within (r := .only _) (by decide +kernel)
  | remoteLoad k a n => exact (execRemoteLoad_keeps k a n s).within (r := .allBut _) (by decide +kernel)
  | remoteStore k a b => exact (execRemoteStore_keeps k a b s).within (r := .only _) (by decide +kernel)
  | remoteAmo k a n kind v => exact (execRemoteAmo_keeps k a n kind v s).within (r := .only _) (by decide +kernel)
  | rd32 f ecc => exact (execRd32_keeps f ecc s).within (r := .only _) (by decide +kernel)
  | rd64 f ecc => exact (execRd64_keeps f ecc s).within (r := .only _) (by decide +kernel)
  | rdblk f ecc => exact (execRdblk_keeps f ecc s).within (r := .only _) (by decide +kernel)
  | wr32 f => exact (execWr32_keeps f s).within (r := .only _) (by decide +kernel)
  | wr64 f => exact (execWr64_keeps f s).within (r := .only _) (by decide +kernel)
  | wrblk f => exact (execWrblk_keeps f s).within (r := .only _) (by decide +kernel)
  | and32 f ecc => exact (execAnd32_keeps f ecc s).within (r := .only _) (by decide +kernel)
  | or32 f ecc => exact (execOr32_keeps f ecc s).within (r := .only _) (by decide +kernel)
  | add32 f ecc => exact (execAdd32_keeps f ecc s).within (r := .only _) (by decide +kernel)
  | cas32 f ecc => exact (execCas32_keeps f ecc s).within (r := .only _) (by decide +kernel)
  | and64 f ecc => exact (execAnd64_keeps f ecc s).within (r := .only _) (by decide +kernel)
  | or64 f ecc => exact (execOr64_keeps f ecc s).within (r := .only _) (by decide +kernel)
  | add64 f ecc => exact (execAdd64_keeps f ecc s).within (r := .only _) (by decide +kernel)
  | cas64 f ecc => exact (execCas64_keeps f ecc s).within (r := .only _) (by decide +kernel)
  | event f => exact (execEvent_keeps f s).within (r := .only _) (by decide +kernel)
  | txnCpl f => exact (execTxnCpl_keeps f s).within (r := .only _) (by decide +kernel)
  | txnResend n => exact (execTxnResend_keeps n s).within (r := .only _) (by decide +kernel)
  | txnTimeout n => exact (execTxnTimeout_keeps n s).within (r := .only _) (by decide +kernel)
  | holdingSlotRelease k => exact (execHoldingSlotRelease_keeps k s).within (r := .only _) (by decide +kernel)
  | streamSlotRelease k => exact (execStreamSlotRelease_keeps k s).within (r := .only _) (by decide +kernel)
  | orphPop who => exact (execOrphPop_keeps who s).within (r := .only _) (by decide +kernel)
  | evout who dst k v => exact (execEvout_keeps who dst k v s).within (r := .only _) (by decide +kernel)
  | handoverDone => exact (execHandoverDone_keeps s).within (r := .only _) (by decide +kernel)
  | xferStart c ecc => exact (execXferStart_keeps c ecc s).within (r := .only _) (by decide +kernel)
  | xferComplete c idx ecc => exact (execXferComplete_keeps c idx ecc s).within (r := .only _) (by decide +kernel)
  | pop q who => exact (execPop_keeps q who s).within (r := .only _) (by decide +kernel)
  | peek q who => exact (execPeek_keeps q who s).within (r := .only _) (by decide +kernel)
  | dropRest q who => exact (execDropRest_keeps q who s).within (r := .only _) (by decide +kernel)
  | mark q who => exact (execMark_keeps q who s).within (r := .only _) (by decide +kernel)
  | markClear q who => exact (execMarkClear_keeps q who s).within (r := .only _) (by decide +kernel)
  | rewind q who => exact (execRewind_keeps q who s).within (r := .only _) (by decide +kernel)
  | flush q who => exact (execFlush_keeps q who s).within (r := .only _) (by decide +kernel)
  | push who k len => exact (execPush_keeps who k len s).within (r := .only _) (by decide +kernel)
  | sesEnable who rsid dst => exact (execSesEnable_keeps who rsid dst s).within (r := .only _) (by decide +kernel)
  | sesDisable who => exact (execSesDisable_keeps who s).within (r := .only _) (by decide +kernel)
  | rsesEnable who prio ssid src => exact (execRsesEnable_keeps who prio ssid src s).within (r := .only _) (by decide +kernel)
  | rsesDisable who => exact (execRsesDisable_keeps who s).within (r := .only _) (by decide +kernel)
  | rtoExpiry k => exact (execRtoExpiry_keeps k s).within (r := .only _) (by decide +kernel)
  | stall k => exact (execStall_keeps k s).within (r := .only _) (by decide +kernel)
  | ack f => exact (execAck_keeps f s).within (r := .only _) (by decide +kernel)
  | msg f => exact (execMsg_keeps f s).within (r := .only _) (by decide +kernel)
  | ackSend => exact (execAckSend_keeps s).within (r := .only _) (by decide +kernel)
  | freshAckRepeat r => exact (execFreshAckRepeat_keeps r s).within (r := .only _) (by decide +kernel)
  | scheduledWindowEnd => exact (execScheduledWindowEnd_keeps s).within (r := .only _) (by decide +kernel)
  | reclaim k who => exact (execReclaim_keeps k who s).within (r := .only _) (by decide +kernel)
  | eval k who v => exact (execEval_keeps k who v s).within (r := .only _) (by decide +kernel)
  | induct who k => exact (execInduct_keeps who k s).within (r := .only _) (by decide +kernel)
  | update who slot => exact (execUpdate_keeps who slot s).within (r := .only _) (by decide +kernel)
  | opRetire who slot => exact (execOpRetire_keeps who slot s).within (r := .only _) (by decide +kernel)
  | find who => exact (execFind_keeps who s).within (r := .only _) (by decide +kernel)
  | opCancel who slot a => exact (execOpCancel_keeps who slot a s).within (r := .only _) (by decide +kernel)
  | free who slot => exact (execFree_keeps who slot s).within (r := .only _) (by decide +kernel)
  | offer f => exact (execOffer_keeps f s).within (r := .only _) (by decide +kernel)
  | accept f => exact (execAccept_keeps f s).within (r := .only _) (by decide +kernel)
  | refuse f => exact (execRefuse_keeps f s).within (r := .only _) (by decide +kernel)
  | commit f => exact (execCommit_keeps f s).within (r := .only _) (by decide +kernel)
  | driftDone f => exact (execDriftDone_keeps f s).within (r := .only _) (by decide +kernel)
  | release f => exact (execRelease_keeps f s).within (r := .only _) (by decide +kernel)
  | driftSet f => exact (execDriftSet_keeps f s).within (r := .only _) (by decide +kernel)
  | retire f => exact (execRetire_keeps f s).within (r := .only _) (by decide +kernel)
  | driftAck f => exact (execDriftAck_keeps f s).within (r := .only _) (by decide +kernel)
  | query f => exact (execQuery_keeps f s).within (r := .only _) (by decide +kernel)
  | answer f => exact (execAnswer_keeps f s).within (r := .only _) (by decide +kernel)
  | result f => exact (execResult_keeps f s).within (r := .only _) (by decide +kernel)
  | driftResend => exact (execDriftResend_keeps s).within (r := .only _) (by decide +kernel)
  | handoffTimeout => exact (execHandoffTimeout_keeps s).within (r := .only _) (by decide +kernel)
  | pendingExpired => exact (execPendingExpired_keeps s).within (r := .only _) (by decide +kernel)
  | resyncTimeout => exact (execResyncTimeout_keeps s).within (r := .only _) (by decide +kernel)
  | entSel who n => exact (execEntSel_keeps who n s).within (r := .only _) (by decide +kernel)
  | configure who => exact (execConfigure_keeps who s).within (r := .only _) (by decide +kernel)
  | arm who => exact (execArm_keeps who s).within (r := .only _) (by decide +kernel)
  | edgeCancel who => exact (execEdgeCancel_keeps who s).within (r := .only _) (by decide +kernel)
  | edgeRelease who => exact (execEdgeRelease_keeps who s).within (r := .only _) (by decide +kernel)
  | edgeCommit t2 => exact (execEdgeCommit_keeps t2 s).within (r := .only _) (by decide +kernel)
  | edgePlace t2 => exact (execEdgePlace_keeps t2 s).within (r := .only _) (by decide +kernel)
  | fieldCommandArrival kind unit t2 => exact (execFieldCommandArrival_keeps kind unit t2 s).within (r := .only _) (by decide +kernel)
  | fieldEdgeAction t2 => exact (execFieldEdgeAction_keeps t2 s).within (r := .only _) (by decide +kernel)
  | inputEdge kind index lvl t fr w => exact (execInputEdge_keeps kind index lvl t fr w s).within (r := .only _) (by decide +kernel)
  | modeWrite c who m => exact (execModeWrite_keeps c who m s).within (r := .only _) (by decide +kernel)
  | level c who v => exact (execLevel_keeps c who v s).within (r := .only _) (by decide +kernel)
  | channelRelease c who => exact (execChannelRelease_keeps c who s).within (r := .only _) (by decide +kernel)
  | forceSafe c who => exact (execForceSafe_keeps c who s).within (r := .only _) (by decide +kernel)
  | wurq c who => exact (execWurq_keeps c who s).within (r := .only _) (by decide +kernel)
  | wakeUpEnd c => exact (execWakeUpEnd_keeps c s).within (r := .only _) (by decide +kernel)
  | fieldInputEdge c lvl t fr w => exact (execFieldInputEdge_keeps c lvl t fr w s).within (r := .only _) (by decide +kernel)
  | openLoad c => exact (execOpenLoad_keeps c s).within (r := .only _) (by decide +kernel)
  | shortVf c => exact (execShortVf_keeps c s).within (r := .only _) (by decide +kernel)
  | overload c => exact (execOverload_keeps c s).within (r := .only _) (by decide +kernel)
  | tripped c => exact (execTripped_keeps c s).within (r := .only _) (by decide +kernel)
  | tripClear c who => exact (execTripClear_keeps c who s).within (r := .only _) (by decide +kernel)
  | tripRetry c => exact (execTripRetry_keeps c s).within (r := .only _) (by decide +kernel)
  | thermal c => exact (execThermal_keeps c s).within (r := .only _) (by decide +kernel)
  | thermalRecover c => exact (execThermalRecover_keeps c s).within (r := .only _) (by decide +kernel)
  | wireBreak c => exact (execWireBreak_keeps c s).within (r := .only _) (by decide +kernel)
  | vfUv => exact (execVfUv_keeps s).within (r := .only _) (by decide +kernel)
  | vfRev => exact (execVfRev_keeps s).within (r := .only _) (by decide +kernel)
  | vfRecover => exact (execVfRecover_keeps s).within (r := .only _) (by decide +kernel)
  | overtemp => exact (execOvertemp_keeps s).within (r := .only _) (by decide +kernel)
  | overtempClear => exact (execOvertempClear_keeps s).within (r := .only _) (by decide +kernel)
  | safeHoldExpiry c => exact (execSafeHoldExpiry_keeps c s).within (r := .only _) (by decide +kernel)
  | encoderEdge e a b t2 => exact (execEncoderEdge_keeps e a b t2 s).within (r := .only _) (by decide +kernel)
  | zEdge e => exact (execZEdge_keeps e s).within (r := .only _) (by decide +kernel)
  | encoderBreak e lines => exact (execEncoderBreak_keeps e lines s).within (r := .only _) (by decide +kernel)
  | encoderBreakClear e => exact (execEncoderBreakClear_keeps e s).within (r := .only _) (by decide +kernel)
  | clkLost => exact (execClkLost_keeps s).within (r := .only _) (by decide +kernel)
  | adcRound r => exact (execAdcRound_keeps r s).within (r := .only _) (by decide +kernel)
  | fifoRead who => exact (execFifoRead_keeps who s).within (r := .allBut _) (by decide +kernel)
  | mbSel c who m => exact (execMbSel_keeps c who m s).within (r := .only _) (by decide +kernel)
  | mbLoad c who => exact (execMbLoad_keeps c who s).within (r := .only _) (by decide +kernel)
  | mbArm c who => exact (execMbArm_keeps c who s).within (r := .only _) (by decide +kernel)
  | mbCancel c who m => exact (execMbCancel_keeps c who m s).within (r := .only _) (by decide +kernel)
  | mbClear c who => exact (execMbClear_keeps c who s).within (r := .only _) (by decide +kernel)
  | canSof c t dly => exact (execCanSof_keeps c t dly s).within (r := .only _) (by decide +kernel)
  | canFrameSent c => exact (execCanFrameSent_keeps c s).within (r := .only _) (by decide +kernel)
  | canAttemptFailed c code phase keep => exact (execCanAttemptFailed_keeps c code phase keep s).within (r := .only _) (by decide +kernel)
  | busOff c => exact (execBusOff_keeps c s).within (r := .only _) (by decide +kernel)
  | recover c who => exact (execRecover_keeps c who s).within (r := .only _) (by decide +kernel)
  | recoveryEnd c => exact (execRecoveryEnd_keeps c s).within (r := .only _) (by decide +kernel)
  | canWindowEnd c w t => exact (execCanWindowEnd_keeps c w t s).within (r := .only _) (by decide +kernel)
  | canFrameReceived c t f => exact (execCanFrameReceived_keeps c t f s).within (r := .only _) (by decide +kernel)
  | tunnelField f => exact (execTunnelField_keeps f s).within (r := .only _) (by decide +kernel)
  | jump e lvl => exact (execJump_keeps e lvl s).within (r := .only _) (by decide +kernel)
  | waitSig e lvl => exact (execWaitSig_keeps e lvl s).within (r := .only _) (by decide +kernel)
  | waitTrig e => exact (execWaitTrig_keeps e s).within (r := .only _) (by decide +kernel)
  | waitTick e => exact (execWaitTick_keeps e s).within (r := .only _) (by decide +kernel)
  | setLevels e => exact (execSetLevels_keeps e s).within (r := .only _) (by decide +kernel)
  | setDrives e => exact (execSetDrives_keeps e s).within (r := .only _) (by decide +kernel)
  | setSr e => exact (execSetSr_keeps e s).within (r := .only _) (by decide +kernel)
  | setFlag e => exact (execSetFlag_keeps e s).within (r := .only _) (by decide +kernel)
  | cmpLoadi e => exact (execCmpLoadi_keeps e s).within (r := .only _) (by decide +kernel)
  | cmpLoadr e => exact (execCmpLoadr_keeps e s).within (r := .only _) (by decide +kernel)
  | cmpDec e => exact (execCmpDec_keeps e s).within (r := .only _) (by decide +kernel)
  | cmpMatch e => exact (execCmpMatch_keeps e s).within (r := .only _) (by decide +kernel)
  | cmpTakeq e => exact (execCmpTakeq_keeps e s).within (r := .only _) (by decide +kernel)
  | shiftOut e => exact (execShiftOut_keeps e s).within (r := .only _) (by decide +kernel)
  | shiftIn e lvls => exact (execShiftIn_keeps e lvls s).within (r := .only _) (by decide +kernel)
  | pull e => exact (execPull_keeps e s).within (r := .only _) (by decide +kernel)
  | pioPush e => exact (execPioPush_keeps e s).within (r := .only _) (by decide +kernel)
  | outqW e who v => exact (execOutqW_keeps e who v s).within (r := .only _) (by decide +kernel)
  | inqR e who => exact (execInqR_keeps e who s).within (r := .allBut _) (by decide +kernel)
  | trigForce e who m => exact (execTrigForce_keeps e who m s).within (r := .only _) (by decide +kernel)
  | flushOutq e who => exact (execFlushOutq_keeps e who s).within (r := .only _) (by decide +kernel)
  | flushInq e who => exact (execFlushInq_keeps e who s).within (r := .only _) (by decide +kernel)
  | engineStart e => exact (execEngineStart_keeps e s).within (r := .only _) (by decide +kernel)
  | instrWrite e who k v => exact (execInstrWrite_keeps e who k v s).within (r := .only _) (by decide +kernel)
  | ethFrameReceived m bytes fcs t => exact (execEthFrameReceived_keeps m bytes fcs t s).within (r := .only _) (by decide +kernel)
  | tunnelEth lane f => exact (execTunnelEth_keeps lane f s).within (r := .only _) (by decide +kernel)
  | txCtrl m who ts len => exact (execTxCtrl_keeps m who ts len s).within (r := .only _) (by decide +kernel)
  | ethLinkChange m up speed => exact (execEthLinkChange_keeps m up speed s).within (r := .only _) (by decide +kernel)
  | asOffHi m who v => exact (execAsOffHi_keeps m who v s).within (r := .only _) (by decide +kernel)
  | asTimeout m t => exact (execAsTimeout_keeps m t s).within (r := .only _) (by decide +kernel)
  | uartCharacter u ch par frm brk t => exact (execUartCharacter_keeps u ch par frm brk t s).within (r := .only _) (by decide +kernel)
  | uartGap u => exact (execUartGap_keeps u s).within (r := .only _) (by decide +kernel)
  | uTx u who a9 len => exact (execUTx_keeps u who a9 len s).within (r := .only _) (by decide +kernel)
  | uartTxEnd u => exact (execUartTxEnd_keeps u s).within (r := .only _) (by decide +kernel)
  | hostRead cmd a n => exact (execHostRead_keeps cmd a n s).within (r := .allBut _) (by decide +kernel)
  | hostWrite cmd a b => exact (execHostWrite_keeps cmd a b s).within (r := .only _) (by decide +kernel)
  | hostAbort sent a n => exact (execHostAbort_keeps sent a n s).within (r := .only _) (by decide +kernel)
  | program who => exact (execProgram_keeps who s).within (r := .only _) (by decide +kernel)
  | erase4k who => exact (execErase4k_keeps who s).within (r := .only _) (by decide +kernel)
  | erase64k who => exact (execErase64k_keeps who s).within (r := .only _) (by decide +kernel)
  | flashDone ok => exact (execFlashDone_keeps ok s).within (r := .only _) (by decide +kernel)
  | doorbell who v => exact (execDoorbell_keeps who v s).within (r := .only _) (by decide +kernel)
  | doorbellClr who v => exact (execDoorbellClr_keeps who v s).within (r := .only _) (by decide +kernel)
  | feedDiodeOn x => exact (execFeedDiodeOn_keeps x s).within (r := .only _) (by decide +kernel)
  | feedReverse x => exact (execFeedReverse_keeps x s).within (r := .only _) (by decide +kernel)
  | feedReversed x => exact (execFeedReversed_keeps x s).within (r := .only _) (by decide +kernel)
  | feedWindow x v => exact (execFeedWindow_keeps x v s).within (r := .only _) (by decide +kernel)
  | seatChange a b t => exact (execSeatChange_keeps a b t s).within (r := .only _) (by decide +kernel)
  | seatQualified t => exact (execSeatQualified_keeps t s).within (r := .only _) (by decide +kernel)
  | rampDone c t => exact (execRampDone_keeps c t s).within (r := .only _) (by decide +kernel)
  | shortCircuit c t => exact (execShortCircuit_keeps c t s).within (r := .only _) (by decide +kernel)
  | soaTrip c t => exact (execSoaTrip_keeps c t s).within (r := .only _) (by decide +kernel)
  | dvdtTrip c t => exact (execDvdtTrip_keeps c t s).within (r := .only _) (by decide +kernel)
  | startTo c t => exact (execStartTo_keeps c t s).within (r := .only _) (by decide +kernel)
  | pgQualified c t => exact (execPgQualified_keeps c t s).within (r := .only _) (by decide +kernel)
  | curveTrip c t => exact (execCurveTrip_keeps c t s).within (r := .only _) (by decide +kernel)
  | ovShutdown t => exact (execOvShutdown_keeps t s).within (r := .only _) (by decide +kernel)
  | retryWaitEnd c t => exact (execRetryWaitEnd_keeps c t s).within (r := .only _) (by decide +kernel)
  | retriesReset c t => exact (execRetriesReset_keeps c t s).within (r := .only _) (by decide +kernel)
  | latchClear c who => exact (execLatchClear_keeps c who s).within (r := .only _) (by decide +kernel)
  | curveApply c who => exact (execCurveApply_keeps c who s).within (r := .only _) (by decide +kernel)
  | powerEntryRestart => exact (execPowerEntryRestart_keeps s).within (r := .allBut _) (by decide +kernel)
  | branchOn b who => exact (execBranchOn_keeps b who s).within (r := .only _) (by decide +kernel)
  | branchOff b who => exact (execBranchOff_keeps b who s).within (r := .only _) (by decide +kernel)
  | branchRampStart b t => exact (execBranchRampStart_keeps b t s).within (r := .only _) (by decide +kernel)
  | lastGasp t => exact (execLastGasp_keeps t s).within (r := .only _) (by decide +kernel)
  | lgRecover => exact (execLgRecover_keeps s).within (r := .only _) (by decide +kernel)
  | blackBoxWritten => exact (execBlackBoxWritten_keeps s).within (r := .allBut _) (by decide +kernel)
  | vbus0Rise => exact (execVbus0Rise_keeps s).within (r := .only _) (by decide +kernel)
  | svcOverlapEnd t => exact (execSvcOverlapEnd_keeps t s).within (r := .only _) (by decide +kernel)
  | serviceTakeover v => exact (execServiceTakeover_keeps v s).within (r := .only _) (by decide +kernel)
  | attach p src rp rev3 => exact (execAttach_keeps p src rp rev3 s).within (r := .only _) (by decide +kernel)
  | detach p => exact (execDetach_keeps p s).within (r := .only _) (by decide +kernel)
  | sourceCapabilities pdos => exact (execSourceCapabilities_keeps pdos s).within (r := .only _) (by decide +kernel)
  | prSwap p who => exact (execPrSwap_keeps p who s).within (r := .only _) (by decide +kernel)
  | softReset p who => exact (execSoftReset_keeps p who s).within (r := .only _) (by decide +kernel)
  | hardReset p who => exact (execHardReset_keeps p who s).within (r := .only _) (by decide +kernel)
  | getSrcCap p who => exact (execGetSrcCap_keeps p who s).within (r := .only _) (by decide +kernel)
  | request p who => exact (execRequest_keeps p who s).within (r := .only _) (by decide +kernel)
  | prSwapReceived p => exact (execPrSwapReceived_keeps p s).within (r := .only _) (by decide +kernel)
  | hardResetReceived p => exact (execHardResetReceived_keeps p s).within (r := .only _) (by decide +kernel)
  | unsupportedRequest p kind => exact (execUnsupportedRequest_keeps p kind s).within (r := .only _) (by decide +kernel)
  | pdTimerExpiry p k => exact (execPdTimerExpiry_keeps p k s).within (r := .only _) (by decide +kernel)
  | vsetTrim v rb => exact (execVsetTrim_keeps v rb s).within (r := .only _) (by decide +kernel)
  | transitionFail p k => exact (execTransitionFail_keeps p k s).within (r := .only _) (by decide +kernel)
  | vbusOv => exact (execVbusOv_keeps s).within (r := .only _) (by decide +kernel)
  | vbusOvClear => exact (execVbusOvClear_keeps s).within (r := .only _) (by decide +kernel)
  | discoverSvids => exact (execDiscoverSvids_keeps s).within (r := .only _) (by decide +kernel)
  | discoverModes => exact (execDiscoverModes_keeps s).within (r := .only _) (by decide +kernel)
  | enterMode => exact (execEnterMode_keeps s).within (r := .only _) (by decide +kernel)
  | exitMode => exact (execExitMode_keeps s).within (r := .only _) (by decide +kernel)
  | usbBusReset high => exact (execUsbBusReset_keeps high s).within (r := .only _) (by decide +kernel)
  | setup b => exact (execSetup_keeps b s).within (r := .only _) (by decide +kernel)
  | epArm e len who => exact (execEpArm_keeps e len who s).within (r := .only _) (by decide +kernel)
  | epDone e out b => exact (execEpDone_keeps e out b s).within (r := .only _) (by decide +kernel)
  | mtip k t => exact (execMtip_keeps k t s).within (r := .only _) (by decide +kernel)
  | hartEn who m pause => exact (execHartEn_keeps who m pause s).within (r := .only _) (by decide +kernel)
  | commitWarn t => exact (execCommitWarn_keeps t s).within (r := .only _) (by decide +kernel)
  | fwdtKick who key m => exact (execFwdtKick_keeps who key m s).within (r := .only _) (by decide +kernel)
  | fwdtExpiry k => exact (execFwdtExpiry_keeps k s).within (r := .only _) (by decide +kernel)
  | mwdtKick who key => exact (execMwdtKick_keeps who key s).within (r := .only _) (by decide +kernel)
  | mwdtExpiry => exact (execMwdtExpiry_keeps s).within (r := .only _) (by decide +kernel)
  | claim k who => exact (execClaim_keeps k who s).within (r := .allBut _) (by decide +kernel)
  | complete k who n => exact (execComplete_keeps k who n s).within (r := .only _) (by decide +kernel)
  | swevSet who m => exact (execSwevSet_keeps who m s).within (r := .only _) (by decide +kernel)
  | volt d mv => exact (execVolt_keeps d mv s).within (r := .only _) (by decide +kernel)
  | temp k v => exact (execTemp_keeps k v s).within (r := .only _) (by decide +kernel)
  | logAppend who v => exact (execLogAppend_keeps who v s).within (r := .only _) (by decide +kernel)
  | logExport who => exact (execLogExport_keeps who s).within (r := .only _) (by decide +kernel)
  | logExportDone ok => exact (execLogExportDone_keeps ok s).within (r := .only _) (by decide +kernel)
  | bbCtrl who kind arg => exact (execBbCtrl_keeps who kind arg s).within (r := .only _) (by decide +kernel)
  | programKey who slot => exact (execProgramKey_keeps who slot s).within (r := .only _) (by decide +kernel)
  | revokeKey who slot => exact (execRevokeKey_keeps who slot s).within (r := .only _) (by decide +kernel)
  | debugLock who => exact (execDebugLock_keeps who s).within (r := .only _) (by decide +kernel)
  | debugDisable who => exact (execDebugDisable_keeps who s).within (r := .only _) (by decide +kernel)
  | otpDone ok => exact (execOtpDone_keeps ok s).within (r := .only _) (by decide +kernel)
  | vfyCmd who keys => exact (execVfyCmd_keeps who keys s).within (r := .only _) (by decide +kernel)
  | vfyDone cfg => exact (execVfyDone_keeps cfg s).within (r := .only _) (by decide +kernel)
  | unlock who => exact (execUnlock_keeps who s).within (r := .only _) (by decide +kernel)
  | bootGood who key => exact (execBootGood_keeps who key s).within (r := .only _) (by decide +kernel)
  | dawnReq who key => exact (execDawnReq_keeps who key s).within (r := .only _) (by decide +kernel)
  | dawnInfo c => exact (execDawnInfo_keeps c s).within (r := .only _) (by decide +kernel)
  | dawnBegin c slot h err => exact (execDawnBegin_keeps c slot h err s).within (r := .only _) (by decide +kernel)
  | dawnData c off b err => exact (execDawnData_keeps c off b err s).within (r := .only _) (by decide +kernel)
  | dawnEnd c err => exact (execDawnEnd_keeps c err s).within (r := .only _) (by decide +kernel)
  | dawnExit c => exact (execDawnExit_keeps c s).within (r := .only _) (by decide +kernel)
  | bulkDistribution f busy => exact (execBulkDistribution_keeps f busy s).within (r := .only _) (by decide +kernel)
  | applySlot who => exact (execApplySlot_keeps who s).within (r := .only _) (by decide +kernel)
  | applyDone err => exact (execApplyDone_keeps err s).within (r := .only _) (by decide +kernel)
  | unstage who => exact (execUnstage_keeps who s).within (r := .only _) (by decide +kernel)
  | bankTouched a b => exact (execBankTouched_keeps a b s).within (r := .only _) (by decide +kernel)
  | actGo who => exact (execActGo_keeps who s).within (r := .only _) (by decide +kernel)
  | exportDone who m => exact (execExportDone_keeps who m s).within (r := .only _) (by decide +kernel)
  | actReady who m => exact (execActReady_keeps who m s).within (r := .only _) (by decide +kernel)
  | eclipseN t w => exact (execEclipseN_keeps t w s).within (r := .only _) (by decide +kernel)
  | eclNow who => exact (execEclNow_keeps who s).within (r := .only _) (by decide +kernel)
  | eclArm who => exact (execEclArm_keeps who s).within (r := .only _) (by decide +kernel)
  | disarm who => exact (execDisarm_keeps who s).within (r := .only _) (by decide +kernel)
  | armReached t => exact (execArmReached_keeps t s).within (r := .only _) (by decide +kernel)
  | eclReq f => exact (execEclReq_keeps f s).within (r := .only _) (by decide +kernel)
  | dumpReq f => exact (execDumpReq_keeps f s).within (r := .only _) (by decide +kernel)
  | autoDump t => exact (execAutoDump_keeps t s).within (r := .only _) (by decide +kernel)
  | eclRelease f => exact (execEclRelease_keeps f s).within (r := .only _) (by decide +kernel)
  | jtagReadout seg off => exact (execJtagReadout_keeps seg off s).within (r := .only _) (by decide +kernel)
  | faultNowClear c k => exact (execFaultNowClear_keeps c k s).within (r := .only _) (by decide +kernel)
  | fieldClockRestored lv => exact (execFieldClockRestored_keeps lv s).within (r := .only _) (by decide +kernel)
  | receiveError c code phase d => exact (execReceiveError_keeps c code phase d s).within (r := .only _) (by decide +kernel)
  | busIntegration c => exact (execBusIntegration_keeps c s).within (r := .only _) (by decide +kernel)
  | breakerSample c lane dv => exact (execBreakerSample_keeps c lane dv s).within (r := .only _) (by decide +kernel)
  | usbSuspend => exact (execUsbSuspend_keeps s).within (r := .only _) (by decide +kernel)
  | usbResume => exact (execUsbResume_keeps s).within (r := .only _) (by decide +kernel)
  | aoSupplyFail => exact (execAoSupplyFail_keeps s).within (r := .only _) (by decide +kernel)
  | rstNRelease => exact (execRstNRelease_keeps s).within (r := .only _) (by decide +kernel)
  | evtPulseEnd p => exact (execEvtPulseEnd_keeps p s).within (r := .only _) (by decide +kernel)
  | requestReceived p pos ma => exact (execRequestReceived_keeps p pos ma s).within (r := .only _) (by decide +kernel)
  | partnerAccept p acc => exact (execPartnerAccept_keeps p acc s).within (r := .only _) (by decide +kernel)
  | psRdy p => exact (execPsRdy_keeps p s).within (r := .only _) (by decide +kernel)

/-- A command that answers a next state has answered this one. -/
theorem keeps_of_exec {c : Instr} {s t : State} (h : exec c s = .next t) : Keeps (reach c).mask s t := by
  obtain ⟨u, hu, hk⟩ := exec_keeps c s
  cases hu.symm.trans h
  exact hk

theorem pending_of_exec {c : Instr} {s t : State} (h : exec c s = .next t) : t.pending = s.pending := by
  refine (keeps_of_exec h).pending (Reach.testBit_mask (p := .pending) rfl (by decide) ?_)
  cases c <;> rfl

/-- Settles O4: `exec_keeps`, and no reach holds the queue. -/
theorem everyCommandAnswersNext : Obligations.EveryCommandAnswersNext := by
  intro c s
  obtain ⟨t, ht, hk⟩ := exec_keeps c s
  exact ⟨t, ht, pending_of_exec ht, hk.fresh⟩

/-- Settles O6: what a reach keeps is clear in its mask. -/
theorem commandsStayWithinTheirReach : Obligations.CommandsStayWithinTheirReach := fun _ _ _ _ h hp =>
  (keeps_of_exec h).same hp

/-! ## Every step -/

/-- A step idles, or is a command that finds the rest of the queue. -/
theorem step_cases {s t : State} (h : step s = .next t) :
    t = s ∨ ∃ c r, s.pending = c :: r ∧ exec c { s with pending := r } = .next t := by
  unfold step at h
  split at h
  · cases h
    exact .inl rfl
  · exact .inr ⟨_, _, ‹_›, h⟩

/-- Settles O1. -/
theorem stepExecutesTheFrontCommand : Obligations.StepExecutesTheFrontCommand := by
  intro c r s h
  simp only [step, h]

/-- Settles O2. -/
theorem emptyQueueIdles : Obligations.EmptyQueueIdles := by
  intro s h
  simp only [step, h]

/-- Settles O7: the queue is no part of the tables, and a command keeps their form. -/
theorem stepKeepsTablesCanonical : Obligations.StepKeepsTablesCanonical := by
  intro s t hw h
  rcases step_cases h with rfl | ⟨c, r, _, he⟩
  · exact hw
  · exact (keeps_of_exec he).wf hw

/-- Settles O8: the queue is no part of the fuses, and no command clears one. -/
theorem fusesOnlyGrow : Obligations.FusesOnlyGrow := by
  intro s t h
  rcases step_cases h with rfl | ⟨c, r, _, he⟩
  · exact OtpSt.le_refl _
  · exact (keeps_of_exec he).fuses

theorem run_succ_of_next {M : Host.Core} {s u : M.State} (k : Nat) (h : M.step s = .next u) : M.run (k + 1) s = M.run k u := by
  simp only [Host.Core.run, h]

/-- As many steps as the queue is long empty it: each one takes its front command. -/
theorem run_drains (l : List Instr) (s : State) (h : s.pending = l) :
    ∃ t, Sys2Proof.core.run l.length s = .next t ∧ t.pending = [] := by
  induction l generalizing s with
  | nil => exact ⟨s, rfl, h⟩
  | cons c r ih =>
    obtain ⟨u, hu, -⟩ := exec_keeps c { s with pending := r }
    obtain ⟨t, ht, hp⟩ := ih u (pending_of_exec hu)
    have hs : Sys2Proof.core.step s = .next u := (stepExecutesTheFrontCommand c r s h).trans hu
    exact ⟨t, (run_succ_of_next _ hs).trans ht, hp⟩

/-- Settles O5: each step takes the front command. -/
theorem runsDrainTheQueue : Obligations.RunsDrainTheQueue := fun s => run_drains s.pending s rfl

/-! ## The reset -/

/-- Settles O3: the register file after the reset lists RESET_CAUSE.POWER_ON alone. -/
theorem resetLeaves : Obligations.ResetLeaves := by
  refine ⟨by decide, rfl, rfl, rfl, by decide, fun p f i => ?_⟩
  show (if (⟨0x000, 0x054, 1, 0⟩ : Key) = ⟨p, f.off, f.lsb, i⟩ then 1 else resetVal p f i) = _
  simp only [eq_comm (a := (⟨0x000, 0x054, 1, 0⟩ : Key))]
  rfl

end Sys2Proof.Machine
end

section
/-!
SUPPORT. What an event leaves beyond the mask of `raise_keeps`: it sets event bits and clears none, and where it freezes the node
(R566) it changes of the node control, the edge scheduler, the field channels, CAN and the UARTs what the freeze does, and no more.
-/

namespace Sys2Proof.Machine

/-- Registers that an event can change while the router triggers no Eclipse: event bits, and what an exported event and a PIO route write. -/
def calmKey (k : Key) : Bool :=
  k.off == 0x010 || (k.page == 3 && (k.off == 0x0C0 || k.off == 0x0C4 || k.off == 0x0CC || k.off == 0x0D0)) ||
    (decide (0x0C0 ≤ k.page ∧ k.page < 0x0D8) && ((k.off == 0x068 && k.lsb == 4) || k.off == 0x074))

/-- The parts that go with `calmKey`: the register file and the router. -/
def calmMask : Nat := 295147908480035192834

/-- What an event leaves; `c` says that nothing freezes. -/
structure Raised (c : Prop) (s t : State) : Prop where
  keeps : Keeps 521120523451844526594 s t
  regs : RegsKeep evKey s t
  ev : ∀ q k, k < 32 → s.bit q F.HDR_EV_STAT_EV k = true → t.bit q F.HDR_EV_STAT_EV k = true
  st : t.st = s.st ∨ t.st = NS.eclipse
  node : t.node = { s.node with
    resetReq := t.node.resetReq, resetWait := t.node.resetWait, isoRecord := t.node.isoRecord, pendTarget := t.node.pendTarget }
  edge : t.edge = { s.edge with cmds := t.edge.cmds }
  field : t.field = { s.field with chans := t.field.chans, waitEv := t.field.waitEv }
  chan : ∀ c, t.chan c = { s.chan c with
    entry := (t.chan c).entry, holdEnd := (t.chan c).holdEnd, forceOff := (t.chan c).forceOff, mirror := (t.chan c).mirror }
  safe : ∀ c, chSafe s c = true → chSafe t c = true
  can : ∀ c, can t c = { can s c with att := (can t c).att, cancel := (can t c).cancel } ∧
    ((can t c).att = (can s c).att ∨ (can t c).att = none)
  uart : ∀ u, t.uarts.at {} u = { s.uarts.at {} u with tx := (t.uarts.at {} u).tx } ∧
    ((t.uarts.at {} u).tx = (s.uarts.at {} u).tx ∨ (t.uarts.at {} u).tx = none)
  calm : c → Keeps calmMask s t ∧ RegsKeep calmKey s t

theorem Raised.refl {c : Prop} (s : State) : Raised c s s where
  keeps := .refl _ _
  regs := .refl _ _
  ev _ _ _ h := h
  st := .inl rfl
  node := rfl
  edge := rfl
  field := rfl
  chan _ := rfl
  safe _ h := h
  can _ := ⟨rfl, .inl rfl⟩
  uart _ := ⟨rfl, .inl rfl⟩
  calm _ := ⟨.refl _ _, .refl _ _⟩

theorem Raised.imp {c d : Prop} {s t : State} (h : Raised c s t) (i : d → c) : Raised d s t := { h with calm := h.calm ∘ i }

theorem Raised.trans {c : Prop} {s t u : State} (h : Raised c s t) (k : Raised c t u) : Raised c s u where
  keeps := h.keeps.trans k.keeps
  regs := h.regs.trans k.regs
  ev q j hj hb := k.ev q j hj (h.ev q j hj hb)
  st := k.st.elim (fun e => e ▸ h.st) .inr
  node := by rw [k.node, h.node]
  edge := by rw [k.edge, h.edge]
  field := by rw [k.field, h.field]
  chan c := by rw [k.chan c, h.chan c]
  safe c hs := k.safe c (h.safe c hs)
  can c := by
    obtain ⟨h1, h2⟩ := h.can c
    obtain ⟨k1, k2⟩ := k.can c
    exact ⟨by rw [k1, h1], k2.elim (fun e => e ▸ h2) .inr⟩
  uart c := by
    obtain ⟨h1, h2⟩ := h.uart c
    obtain ⟨k1, k2⟩ := k.uart c
    exact ⟨by rw [k1, h1], k2.elim (fun e => e ▸ h2) .inr⟩
  calm he := by
    obtain ⟨h1, h2⟩ := h.calm he
    obtain ⟨k1, k2⟩ := k.calm he
    exact ⟨h1.trans k1, h2.trans k2⟩

theorem Raised.ite {d : Prop} {s t u : State} {c : Prop} [Decidable c] (h : c → Raised d s t) (k : ¬c → Raised d s u) :
    Raised d s (if c then t else u) := by
  split
  · exact h ‹_›
  · exact k ‹_›

theorem Raised.foldl {c : Prop} {α : Type} {s t : State} {f : State → α → State} (l : List α)
    (hf : ∀ t, ∀ a ∈ l, Raised c t (f t a)) (h : Raised c s t) : Raised c s (l.foldl f t) := by
  induction l generalizing t with
  | nil => exact h
  | cons a r ih => exact ih (fun t b hb => hf t b (List.mem_cons_of_mem _ hb)) (h.trans (hf t a List.mem_cons_self))

theorem Raised.each {c : Prop} {s t : State} {n : Nat} {f : State → Nat → State} (hf : ∀ t a, a < n → Raised c t (f t a))
    (h : Raised c s t) : Raised c s (t.each n f) := .foldl _ (fun t a ha => hf t a (List.mem_range.mp ha)) h

/-! ## What sets no event bit and freezes nothing -/

/-- A register write that an event makes while nothing freezes. -/
theorem Raised.of_calm {c : Prop} {s t : State} (hk : Keeps calmMask s t) (hr : RegsKeep calmKey s t)
    (he : ∀ q k, k < 32 → s.bit q F.HDR_EV_STAT_EV k = true → t.bit q F.HDR_EV_STAT_EV k = true) : Raised c s t where
  keeps := hk.mono rfl
  regs := hr.mono fun k hk => by
    simp only [evKey, Bool.or_eq_false_iff] at hk
    simp only [calmKey, Bool.or_eq_false_iff]
    obtain ⟨⟨⟨⟨⟨⟨⟨⟨h1, _⟩, h3⟩, _⟩, _⟩, _⟩, _⟩, h8⟩, _⟩ := hk
    exact ⟨⟨h1, h3⟩, h8⟩
  ev := he
  st := .inl (hr.rd _ _ (by decide))
  node := by rw [hk.node rfl]
  edge := by rw [hk.edge rfl]
  field := by rw [hk.field rfl]
  chan c := by
    have : t.chan c = s.chan c := congrArg (fun x : FieldSt => x.chans.at {} c) (hk.field rfl)
    rw [this]
  safe c h := by
    have : t.ch F.FIELD_CH_STAT_SAFE_ACTIVE c = s.ch F.FIELD_CH_STAT_SAFE_ACTIVE c := by
      refine hr.rd _ _ ?_
      simp [calmKey, P.field, F.FIELD_CH_STAT_SAFE_ACTIVE]
      omega
    rw [chSafe, this]
    exact h
  can c := by
    have : Machine.can t c = Machine.can s c := congrArg (fun x : Tbl CanSt => x.at {} c) (hk.can rfl)
    rw [this]
    exact ⟨rfl, .inl rfl⟩
  uart u := by
    rw [hk.uarts rfl]
    exact ⟨rfl, .inl rfl⟩
  calm _ := ⟨hk, hr⟩

theorem bit_ev_wr (s : State) {p : Nat} {f : Fld} (v q k : Nat) (h : f.off ≠ 0x010) :
    (s.wr p f v).bit q F.HDR_EV_STAT_EV k = s.bit q F.HDR_EV_STAT_EV k :=
  congrArg (bitOf · k) (rd_wr_apart s v (by simp [keyApart, F.HDR_EV_STAT_EV, h.symm]))

/-- An event sets its own bit and clears none. -/
theorem bit_evOnly (s : State) (p k q j : Nat) (hj : j < 32) :
    (evOnly s p k).bit q F.HDR_EV_STAT_EV j = (decide (q = p ∧ j = k) || s.bit q F.HDR_EV_STAT_EV j) := by
  unfold evOnly
  by_cases hq : q = p
  · subst hq
    rw [bit_setBit _ _ _ _ _ _ hj]
    by_cases h : j = k <;> simp [h]
  · have : (s.setBit p F.HDR_EV_STAT_EV k true).bit q F.HDR_EV_STAT_EV j = s.bit q F.HDR_EV_STAT_EV j :=
      congrArg (bitOf · j) (rd_setBit_apart _ _ _ (by simp [keyApart, hq]))
    rw [this]
    simp [hq]

theorem evOnly_raised {c : Prop} (s : State) (p k : Nat) : Raised c s (evOnly s p k) := by
  refine .of_calm ((evOnly_keeps ..).mono rfl) ((RegsKeep.refl _ s).setBit k true (by simp [calmKey, F.HDR_EV_STAT_EV]))
    fun q j hj h => ?_
  rw [bit_evOnly _ _ _ _ _ hj, h, Bool.or_true]

/-- A write to a register of `calmKey` beyond the page header. -/
theorem Raised.wr {c : Prop} {s t : State} (h : Raised c s t) {p : Nat} {f : Fld} (v : Nat) (hg : regGroup ⟨p, f.off, f.lsb, 0⟩ = 41 ∨
    regGroup ⟨p, f.off, f.lsb, 0⟩ = 68) (hk : calmKey ⟨p, f.off, f.lsb, 0⟩ = true) (he : f.off ≠ 0x010) : Raised c s (t.wr p f v) := by
  refine h.trans (.of_calm ?_ ((RegsKeep.refl _ t).wr v hk) fun q j _ hb => ?_)
  · rcases hg with hg | hg
    · exact (State.wr_keeps 41 (.inl hg) ..).mono rfl
    · exact (State.wr_keeps 68 (.inl hg) ..).mono rfl
  · rw [bit_ev_wr _ _ _ _ he]
    exact hb

theorem Raised.put_router {c : Prop} {s t : State} (h : Raised c s t) (r : RouterSt) : Raised c s { t with router := r } :=
  h.trans (.of_calm ((Keeps.put_router ..).mono rfl) (.of_eq rfl) fun _ _ _ h => h)

theorem exportRise_raised {c : Prop} (s : State) (src e : Nat) : Raised c s (exportRise s src e) := by
  unfold exportRise
  refine .ite (fun _ => ?_) fun _ => .refl _
  refine .ite (fun _ => (Raised.refl s).wr _ (.inl rfl) (by decide) (by decide)) fun _ => ?_
  refine .ite (fun _ => ?_) fun _ => (Raised.refl s).wr _ (.inl rfl) (by decide) (by decide)
  exact (((Raised.refl s).wr _ (.inl rfl) (by decide) (by decide)).wr _ (.inl rfl) (by decide) (by decide)).put_router _

theorem evtRise_raised {c : Prop} (s : State) (src p : Nat) : Raised c s (evtRise s src p) := by
  unfold evtRise
  exact .ite (fun _ => (Raised.refl s).put_router _) fun _ => .refl _

theorem group_pio_body {e o l : Nat} (h : 0x040 ≤ o) : regGroup ⟨P.pio e, o, l, 0⟩ = 68 := by
  rcases group_pio (n := e) (o := o) (l := l) (i := 0) with h' | h'
  · exact h'
  · unfold regGroup at h'
    rw [if_neg (Nat.not_lt.mpr h)] at h'
    have : (39 : Nat) < 40 := by decide
    unfold P.pio at h'
    dsimp only at h'
    split_ifs at h' <;> omega

theorem pioTrig_raised {c : Prop} (s : State) (e k : Nat) (h : e < 24) : Raised c s (pioTrig s e k).2 := by
  unfold pioTrig
  split
  · exact (Raised.refl s).wr _ (.inr (group_pio_body (by decide))) (by simp [calmKey, P.pio, F.PIO_ENG_STAT_TRIG_OVF]; omega) (by decide)
  · exact (Raised.refl s).wr _ (.inr (group_pio_body (by decide))) (by simp [calmKey, P.pio, F.PIO_TRIG_PENDING]; omega) (by decide)

/-! ## The freeze -/

/-- A step of the freeze that sets no event bit and touches no part but those given. -/
theorem Raised.of_freeze {s t : State} (hk : Keeps 521120523451844526594 s t) (hr : RegsKeep evKey s t)
    (he : ∀ q, t.rd q F.HDR_EV_STAT_EV = s.rd q F.HDR_EV_STAT_EV) (hst : t.st = s.st ∨ t.st = NS.eclipse)
    (hn : t.node = { s.node with
      resetReq := t.node.resetReq, resetWait := t.node.resetWait, isoRecord := t.node.isoRecord, pendTarget := t.node.pendTarget })
    (hg : t.edge = { s.edge with cmds := t.edge.cmds })
    (hf : t.field = { s.field with chans := t.field.chans, waitEv := t.field.waitEv })
    (hc : ∀ c, t.chan c = { s.chan c with
      entry := (t.chan c).entry, holdEnd := (t.chan c).holdEnd, forceOff := (t.chan c).forceOff, mirror := (t.chan c).mirror })
    (hs : ∀ c, chSafe s c = true → chSafe t c = true)
    (ha : ∀ c, Machine.can t c = { Machine.can s c with att := (Machine.can t c).att, cancel := (Machine.can t c).cancel } ∧
      ((Machine.can t c).att = (Machine.can s c).att ∨ (Machine.can t c).att = none))
    (hu : ∀ u, t.uarts.at {} u = { s.uarts.at {} u with tx := (t.uarts.at {} u).tx } ∧
      ((t.uarts.at {} u).tx = (s.uarts.at {} u).tx ∨ (t.uarts.at {} u).tx = none)) : Raised False s t where
  keeps := hk
  regs := hr
  ev q k _ h := by
    rw [State.bit, he]
    exact h
  st := hst
  node := hn
  edge := hg
  field := hf
  chan := hc
  safe := hs
  can := ha
  uart := hu
  calm := False.elim

theorem Raised.of_regs {s t : State} (hk : Keeps 521120523451844526594 s t) (hr : RegsKeep evKey s t)
    (he : ∀ q, t.rd q F.HDR_EV_STAT_EV = s.rd q F.HDR_EV_STAT_EV) (hst : t.st = s.st ∨ t.st = NS.eclipse)
    (hs : ∀ c, chSafe s c = true → chSafe t c = true) (h : t = { s with regs := t.regs }) : Raised False s t := by
  have hn : t.node = s.node := by rw [h]
  have hg : t.edge = s.edge := by rw [h]
  have hf : t.field = s.field := by rw [h]
  have hc : ∀ c, t.chan c = s.chan c := fun c => congrArg (fun x : FieldSt => x.chans.at {} c) hf
  have ha : ∀ c, Machine.can t c = Machine.can s c := fun c => by rw [h]; rfl
  have hu : t.uarts = s.uarts := by rw [h]
  exact .of_freeze hk hr he hst (by rw [hn]) (by rw [hg]) (by rw [hf]) (fun c => by rw [hc]) hs
    (fun c => ⟨by rw [ha], .inl (by rw [ha])⟩) fun u => ⟨by rw [hu], .inl (by rw [hu])⟩

theorem chSafe_wr_apart (s : State) {p : Nat} {f : Fld} (v : Nat) (hs : p < 0xA0 ∨ 0xA8 ≤ p) (c : Nat) :
    chSafe (s.wr p f v) c = chSafe s c := by
  refine congrArg (· == 1) (rd_wr_apart _ _ ?_)
  have : P.field c ≠ p := by unfold P.field; omega
  simp [keyApart, this]

/-- A write that the freeze makes, to a register that is no event bit, STATE or SAFE_ACTIVE. -/
theorem Raised.wr_freeze {s t : State} (h : Raised False s t) {p : Nat} {f : Fld} (v g : Nat)
    (hg : regGroup ⟨p, f.off, f.lsb, 0⟩ = g ∨ regGroup ⟨p, f.off, f.lsb, 0⟩ = 40)
    (hm : subMask (groupMask g) 521120523451844526594 = true) (hk : evKey ⟨p, f.off, f.lsb, 0⟩ = true) (he : f.off ≠ 0x010)
    (hst : keyApart P.node F.NODE_NODE_STATE_STATE p f = true) (hs : p < 0xA0 ∨ 0xA8 ≤ p) : Raised False s (t.wr p f v) := by
  refine h.trans (.of_regs ((State.wr_keeps g hg ..).mono hm) ((RegsKeep.refl _ t).wr v hk) (fun q => ?_) (.inl ?_)
    (fun c hc => ?_) rfl)
  · exact rd_wr_apart _ _ (by simp [keyApart, F.HDR_EV_STAT_EV, he.symm])
  · exact rd_wr_apart _ _ hst
  · have : (t.wr p f v).ch F.FIELD_CH_STAT_SAFE_ACTIVE c = t.ch F.FIELD_CH_STAT_SAFE_ACTIVE c := by
      refine rd_wr_apart _ _ ?_
      have : P.field c ≠ p := by unfold P.field; omega
      simp [keyApart, this]
    rw [chSafe, this]
    exact hc

theorem setState_raised (s : State) : Raised False s (setState s NS.eclipse) := by
  unfold setState
  refine .wr_freeze ?_ _ 41 (.inl rfl) rfl rfl (by decide) rfl (by decide)
  refine Raised.trans (t := s.wr P.node F.NODE_STATE_INFO_PREV s.st) ?_ ?_
  · exact (Raised.refl _).wr_freeze _ 41 (.inl rfl) rfl rfl (by decide) rfl (by decide)
  · refine .of_regs ((State.wr_keeps 41 (.inl rfl) ..).mono rfl) ((RegsKeep.refl _ _).wr _ rfl) (fun q => ?_) (.inr ?_)
      (fun c hc => ?_) rfl
    · exact rd_wr_apart _ _ (by simp [keyApart, F.HDR_EV_STAT_EV, F.NODE_NODE_STATE_STATE])
    · exact rd_wr_same ..
    · exact (chSafe_wr_apart _ _ (by decide) c).trans hc

theorem cutTransmit_raised (s : State) : Raised False s (cutTransmit s) := by
  have hcan : ∀ t c, c < 8 → Raised False t ({ t with can := t.can.put {} c { t.can.at {} c with att := none, cancel := false } }.wr
      (P.can c) F.CAN_STATUS_TX_ACTIVE 0) := fun t c hc => by
    refine .wr_freeze (.of_freeze ((Keeps.put_can ..).mono rfl) (.of_eq rfl) (fun _ => rfl) (.inl rfl) rfl rfl rfl (fun _ => rfl)
      (fun _ => id) (fun d => ?_) fun _ => ⟨rfl, .inl rfl⟩) _ 66 group_can rfl ?_ (by decide) ?_ ?_
    · by_cases hd : d = c
      · subst hd
        simp only [Machine.can, Tbl.at_put_same]
        exact ⟨trivial, .inr trivial⟩
      · simp only [Machine.can, Tbl.at_put_ne _ _ hd]
        exact ⟨trivial, .inl trivial⟩
    · simp [evKey, P.can, F.CAN_STATUS_TX_ACTIVE]
      omega
    · simp [keyApart, P.can, P.node]
      omega
    · unfold P.can; omega
  have huart : ∀ t u, u < 16 → Raised False t ((({ t with uarts := t.uarts.put {} u { t.uarts.at {} u with tx := none } }.wr
      (P.uart u) (F.UART_U_STAT_TX_BUSY (u % 4)) 0)).wr (P.uart u) (F.UART_U_STAT_DE (u % 4)) 0) := fun t u hu => by
    refine .wr_freeze (.wr_freeze (.of_freeze ((Keeps.put_uarts ..).mono rfl) (.of_eq rfl) (fun _ => rfl) (.inl rfl) rfl rfl rfl
      (fun _ => rfl) (fun _ => id) (fun _ => ⟨rfl, .inl rfl⟩) fun d => ?_) _ 67 group_uart rfl ?_ ?_ ?_ ?_)
      _ 67 group_uart rfl ?_ ?_ ?_ ?_
    · by_cases hd : d = u
      · subst hd
        simp only [Tbl.at_put_same]
        exact ⟨trivial, .inr trivial⟩
      · simp only [Tbl.at_put_ne _ _ hd]
        exact ⟨trivial, .inl trivial⟩
    all_goals simp [evKey, keyApart, P.node, P.uart, F.UART_U_STAT_TX_BUSY, F.UART_U_STAT_DE, F.NODE_NODE_STATE_STATE]; try omega
  unfold cutTransmit
  exact .each huart (.each hcan (.refl _))

/-- SAFE_ACTIVE of one channel is set, and of no other. -/
theorem chSafe_chWr (s : State) (c d : Nat) (h : chSafe s d = true) : chSafe (s.chWr F.FIELD_CH_STAT_SAFE_ACTIVE c 1) d = true := by
  unfold chSafe State.chWr State.ch at *
  by_cases hk : keyApart (P.field d) (F.FIELD_CH_STAT_SAFE_ACTIVE (d % 8)) (P.field c) (F.FIELD_CH_STAT_SAFE_ACTIVE (c % 8)) = true
  · rw [rd_wr_apart _ _ hk]
    exact h
  · simp only [keyApart, Bool.or_eq_true, bne_iff_ne, not_or, ne_eq, Decidable.not_not] at hk
    obtain ⟨⟨hp, ho⟩, _⟩ := hk
    have hm : d % 8 = c % 8 := by
      simp only [F.FIELD_CH_STAT_SAFE_ACTIVE] at ho
      omega
    rw [hp, hm, rd_wr_same]
    rfl

theorem chEnterSafe_raised (s : State) (fo mi : Bool) (c : Nat) (h : c < 64) : Raised False s (chEnterSafe s fo mi c) := by
  have hset : ∀ x : FieldCh, x = { s.chan c with
      entry := x.entry, holdEnd := x.holdEnd, forceOff := x.forceOff, mirror := x.mirror } → Raised False s (s.setChan c x) := fun x hx =>
    .of_freeze ((State.setChan_keeps ..).mono rfl) (.of_eq rfl) (fun _ => rfl) (.inl rfl) rfl rfl rfl (fun d => by
      by_cases hd : d = c
      · subst hd
        have : (s.setChan d x).chan d = x := Tbl.at_put_same ..
        rw [this]
        exact hx
      · have : (s.setChan c x).chan d = s.chan d := Tbl.at_put_ne _ _ hd _
        rw [this]) (fun _ => id) (fun _ => ⟨rfl, .inl rfl⟩) fun _ => ⟨rfl, .inl rfl⟩
  unfold chEnterSafe
  refine .ite (fun _ => ?_) fun _ => ?_
  · cases fo
    · exact .refl _
    · exact hset _ rfl
  · refine (hset _ rfl).trans (.of_regs ((State.chWr_keeps ..).mono rfl) ((RegsKeep.refl _ _).wr _ ?_) (fun q => ?_) (.inl ?_)
      (fun d hd => chSafe_chWr _ _ _ hd) rfl)
    · simp [evKey, P.field, F.FIELD_CH_STAT_SAFE_ACTIVE]
      omega
    · exact rd_wr_apart _ _ (by simp [keyApart, F.HDR_EV_STAT_EV, F.FIELD_CH_STAT_SAFE_ACTIVE])
    · exact rd_wr_apart _ _ (by simp [keyApart, P.node, P.field]; omega)

theorem fdieEv_raised {ev : Ev} (hev : ∀ s k, Raised False s (ev s P.fdie k)) (s : State) (k : Nat) :
    Raised False s (fdieEv ev s k) := by
  unfold fdieEv
  exact .ite (fun _ => .of_freeze ((Keeps.put_field ..).mono rfl) (.of_eq rfl) (fun _ => rfl) (.inl rfl) rfl rfl rfl (fun _ => rfl)
    (fun _ => id) (fun _ => ⟨rfl, .inl rfl⟩) fun _ => ⟨rfl, .inl rfl⟩) fun _ => hev ..

theorem safeEnter_raised (s : State) (chs : List Nat) (h : ∀ c ∈ chs, c < 64) (cause : Nat) (fo mi : Bool) :
    Raised False s (safeEnter evOnly s chs cause fo mi) := by
  have hf : Raised False s (chs.foldl (fun t c => chEnterSafe t fo mi c) s) :=
    .foldl _ (fun t c hc => chEnterSafe_raised t fo mi c (h c hc)) (.refl _)
  unfold safeEnter
  refine .ite (fun _ => ?_) fun _ => hf
  refine Raised.trans ?_ (fdieEv_raised (fun _ _ => evOnly_raised ..) _ _)
  exact (hf.wr_freeze _ 41 (.inl rfl) rfl rfl (by decide) rfl (by decide)).wr_freeze _ 41 (.inl rfl) rfl rfl (by decide) rfl (by decide)

theorem freeze_raised (s : State) (cause tF : Nat) (late ring : Bool) (sc co : Nat) :
    Raised False s (freeze s cause tF late ring sc co) := by
  unfold freeze
  refine .ite (fun _ => .refl _) fun _ => ?_
  have hw : Raised False s ((((setState s NS.eclipse).wr P.ecl F.ECLIPSE_ECL_STAT_FROZEN 1).wr P.ecl F.ECLIPSE_ECL_STAT_CAUSE
      cause).wr P.ecl F.ECLIPSE_ECL_STAT_LATE (b2n late)) := by
    refine .wr_freeze (.wr_freeze (.wr_freeze (setState_raised s) _ 41 ?_ ?_ ?_ ?_ ?_ ?_) _ 41 ?_ ?_ ?_ ?_ ?_ ?_) _ 41 ?_ ?_ ?_ ?_ ?_ ?_
    all_goals decide
  have hp : ∀ (u : State) (l : Option (List Nat)) (e : EclSt) (g : List FieldCmd), Raised False u { u with
      ecl := e
      router := { u.router with frozen := l }
      node := { u.node with resetReq := [], resetWait := false, isoRecord := false, pendTarget := none }
      edge := { u.edge with cmds := g } } := fun u l e g =>
    .of_freeze ((Keeps.put_node_edge_router_ecl ..).mono rfl) (.of_eq rfl) (fun _ => rfl) (.inl rfl) rfl rfl rfl (fun _ => rfl)
      (fun _ => id) (fun _ => ⟨rfl, .inl rfl⟩) fun _ => ⟨rfl, .inl rfl⟩
  refine .ite (fun _ => (hw.trans (hp ..)).trans (cutTransmit_raised _)) fun _ => ?_
  exact ((hw.trans (hp ..)).trans (cutTransmit_raised _)).trans (safeEnter_raised _ _ (fun c hc => List.mem_range.mp hc) _ _ _)

theorem eclRise_raised (s : State) (src : Nat) : Raised (s.on P.ecl F.ECLIPSE_ECL_CFG_EV_EN = false) s (eclRise s src) := by
  unfold eclRise
  refine .ite (fun h => ?_) fun _ => .refl _
  rw [Bool.and_eq_true] at h
  exact (freeze_raised ..).imp fun he => by simp [he] at h

/-! ## Events and the log -/

/-- The router triggers no Eclipse on an event (R566). -/
abbrev noEclEv (s : State) : Prop := s.on P.ecl F.ECLIPSE_ECL_CFG_EV_EN = false

/-- Whether events trigger Eclipse is not changed by an event. -/
theorem Raised.evEn {c : Prop} {s t : State} (h : Raised c s t) : noEclEv t = noEclEv s := by
  unfold Machine.noEclEv State.on
  rw [h.regs.rd _ _ (by decide)]

/-- What follows an event, where its premise is that of the state before. -/
theorem Raised.step {s t u : State} (h : Raised (noEclEv s) s t) (k : Raised (noEclEv t) t u) : Raised (noEclEv s) s u :=
  h.trans (k.imp h.evEn.mpr)

theorem Raised.steps {s t : State} {n : Nat} {f : State → Nat → State} (hf : ∀ t a, a < n → Raised (noEclEv t) t (f t a))
    (h : Raised (noEclEv s) s t) : Raised (noEclEv s) s (t.each n f) := by
  have : ∀ (l : List Nat), (∀ a ∈ l, a < n) → ∀ t, Raised (noEclEv s) s t → Raised (noEclEv s) s (l.foldl f t) := by
    intro l
    induction l with
    | nil => exact fun _ _ h => h
    | cons a r ih =>
      exact fun hl t h => ih (fun b hb => hl b (List.mem_cons_of_mem _ hb)) _ (h.step (hf t a (hl a List.mem_cons_self)))
  exact this _ (fun a ha => List.mem_range.mp ha) t h

theorem rise_raised (fuel : Nat) (s : State) (src : Nat) : Raised (noEclEv s) s (rise fuel s src) := by
  induction fuel generalizing s src with
  | zero => exact .refl _
  | succ n ih =>
    unfold rise
    refine .ite (fun _ => .refl _) fun _ => ?_
    refine Raised.step ?_ (eclRise_raised ..)
    refine Raised.steps (fun t r _ => ?_) ?_
    · refine .ite (fun h => ?_) fun _ => .refl _
      simp only [Bool.and_eq_true, decide_eq_true_eq] at h
      have hp := pioTrig_raised (c := noEclEv t) t _ (t.rd P.ev3 (F.EVENTC_PIOR_TRIG r)) h.2
      refine .ite (fun _ => ?_) fun _ => hp
      have he := hp.trans (evOnly_raised _ (P.pio (t.rd P.ev3 (F.EVENTC_PIOR_ENGINE r))) 0)
      exact .ite (fun _ => he.step (ih ..)) fun _ => he
    · refine .each (fun t p _ => evtRise_raised ..) ?_
      exact .each (fun t e _ => exportRise_raised ..) (.refl _)

theorem raise_raised (s : State) (p k : Nat) : Raised (noEclEv s) s (raise s p k) := by
  unfold raise
  exact .ite (fun _ => (evOnly_raised s p k).step (rise_raised ..)) fun _ => evOnly_raised s p k

theorem raiseIf_raised (s : State) (b : Bool) (p k : Nat) : Raised (noEclEv s) s (raiseIf s b p k) := by
  unfold raiseIf
  exact .ite (fun _ => raise_raised ..) fun _ => .refl _

/-- A raised event is set. -/
theorem bit_raise (s : State) (p k : Nat) (hk : k < 32) : (raise s p k).bit p F.HDR_EV_STAT_EV k = true := by
  have he : (evOnly s p k).bit p F.HDR_EV_STAT_EV k = true := by rw [bit_evOnly _ _ _ _ _ hk]; simp
  unfold raise
  dsimp only
  split
  · exact (rise_raised ..).ev _ _ hk he
  · exact he

end Sys2Proof.Machine
end

section
/-!
PROOF. The stitch link and memory errors (R6 to R8, R12).
-/

namespace Sys2Proof.Machine

/-- A command whose guard holds. -/
theorem exec_of_guard {c : Instr} {s t u : State} {p : Prop} [Decidable p] (he : exec c s = .next (if p then t else u)) (hp : p) :
    exec c s = .next t := by rw [he, if_pos hp]

/-- A command whose guard fails. -/
theorem exec_of_not_guard {c : Instr} {s t u : State} {p : Prop} [Decidable p] (he : exec c s = .next (if p then t else u))
    (hp : ¬p) : exec c s = .next u := by rw [he, if_neg hp]

theorem Keeps.bit {m : Nat} {s t : State} (h : Keeps m s t) (p : Nat) (f : Fld) (k : Nat)
    (hb : m.testBit (regGroup ⟨p, f.off, f.lsb, 0⟩) = false) : t.bit p f k = s.bit p f k := congrArg (bitOf · k) (h.rd p f hb)

/-- An own-fault stays recorded through all that follows it (R58). -/
theorem bit_ownFault (s : State) {k : Nat} (h : k < 8) : (ownFault s k).bit P.node F.NODE_OWN_FAULT_CAUSE k = true := by
  have hset : (s.setBit P.node F.NODE_OWN_FAULT_CAUSE k true).bit P.node F.NODE_OWN_FAULT_CAUSE k = true := by
    rw [bit_setBit _ _ _ _ _ _ h, if_pos rfl]
  unfold ownFault
  split
  · exact ((evOnly_keeps ..).bit _ _ _ rfl).trans hset
  · have hlog : (hubLog (actAbandon (raise (s.setBit P.node F.NODE_OWN_FAULT_CAUSE k true) P.node 4)) 3 none none
        (some ((actAbandon (raise (s.setBit P.node F.NODE_OWN_FAULT_CAUSE k true) P.node 4)).rd P.node F.NODE_OWN_FAULT_CAUSE))).bit
        P.node F.NODE_OWN_FAULT_CAUSE k = true :=
      ((hubLog_keeps ..).bit _ _ _ rfl).trans (((actAbandon_keeps ..).bit _ _ _ rfl).trans (((raise_keeps ..).bit _ _ _ rfl).trans hset))
    dsimp only
    split
    · exact ((goState_keeps ..).bit _ _ _ rfl).trans hlog
    · exact hlog

/-- A flit that arrives at the field die changes the record of the stitch link alone: no store, no count, and not whether the link is up. -/
theorem stitchReplay_counts {s : State} {d n : Nat} (ok : Bool) (ha : s.alive = true) (hd : d < 2) (hl : s.stitch.down = false)
    (hh : (if d = 0 then s.stitch.storeOut else s.stitch.storeIn).any (·.1 == n) = true) :
    ∃ t, exec (.stitchReplay d n ok) s = .next t ∧
      t.stitch.replays = s.stitch.replays.put 0 (d * 65536 + n) (if ok then 0 else flitReplays s d n + 1) ∧
      t.stitch.storeOut = s.stitch.storeOut ∧ t.stitch.storeIn = s.stitch.storeIn ∧ t.stitch.down = s.stitch.down ∧ t.regs = s.regs := by
  refine ⟨_, exec_of_guard rfl (by simp [ha, hd, hl, hh]), ?_⟩
  by_cases h : (ok && d == 0) = true
  · rw [if_pos h]
    exact ⟨rfl, rfl, rfl, rfl, rfl⟩
  · rw [if_neg h]
    exact ⟨rfl, rfl, rfl, rfl, rfl⟩

theorem ownFault_stitch (s : State) (k : Nat) : (ownFault s k).stitch = s.stitch := (ownFault_keeps s k).stitch rfl

/-- What the expiry of the field die's watchdog does once it is counted: the event, and the safe states. -/
def watchdogSafe (s : State) (live : Bool) : State :=
  let s := fdieEv (if live then raise else evOnly) s 5
  if s.alive then safeTrigger s allChans 1 else safeEnter evOnly s allChans 1

/-- What entering the safe states can change: what an event can, and the edges. -/
def safeMask : Nat := 522273444956451373826

theorem watchdogSafe_keeps (s : State) (live : Bool) : Keeps safeMask s (watchdogSafe s live) := by
  have hev : ∀ t p k, Keeps 521120523451844526594 t ((if live then raise else evOnly : Ev) t p k) := by
    intro t p k
    cases live
    · exact (evOnly_keeps ..).mono rfl
    · exact raise_keeps ..
  have h : Keeps safeMask s (fdieEv (if live then raise else evOnly) s 5) := (fdieEv_keeps hev ..).mono rfl
  exact .ite (Keeps.step (safeTrigger_keeps ..) rfl h) (Keeps.step (safeEnter_keeps evOnly_keeps ..) rfl h)

/-- FDIE_WATCHDOG_EXPIRY that finds its time run out (R8). -/
theorem exec_fdieWatchdogExpiry {s : State} {x : Nat} (hr : s.node.rails = true) (hw : s.stitch.wdtFired = false)
    (ht : s.stitch.lastFlit + wdtTime s ≤ s.upAt x) : ∃ (u : State) (b : Bool),
    Keeps safeMask ({ s with stitch := { s.stitch with wdtFired := true } }.inc P.fdie F.FDIE_CNT_WDT_N) u ∧
      exec (.fdieWatchdogExpiry x) s = .next (if ((s.alive || b) && !u.stitch.down) = true then ownFault u OF.fdieWdt else u) :=
  ⟨_, _, watchdogSafe_keeps _ s.alive, exec_of_guard rfl (by simp [hr, hw, ht])⟩

/-- Settles O9. -/
theorem stitchLinkAndEcc : Obligations.StitchLinkAndEcc := by
  refine ⟨fun s d n ok ha hd hl hh => ?replay, fun s d ha hd hl hf => ?down, fun s x ok ha hl => ?heartbeat,
    fun s x hr hw ht => ?watchdog, fun s m corr page addr ini ha => ?ecc⟩
  case replay =>
    obtain ⟨t, he, hr, ho, hi, hdn, hg⟩ := stitchReplay_counts ok ha hd hl hh
    refine ⟨t, he, ?_, fun e m hne => ?_, ho, hi, hdn.trans hl, hg⟩
    · rw [flitReplays, hr, Tbl.at_put_same]
    · rw [flitReplays, hr, Tbl.at_put_ne _ _ hne]
      rfl
  case down =>
    refine ⟨_, exec_of_guard rfl (by simp [ha, hd, hl, hf]), ?_, ?_, bit_ownFault _ (by decide)⟩ <;> rw [ownFault_stitch]
  case heartbeat =>
    refine ⟨_, exec_of_guard rfl (by simp [ha, hl]), ?_⟩
    cases ok
    · refine ⟨rfl, rfl, fun h => absurd h (by decide), fun _ => ⟨rfl, rfl⟩, rfl⟩
    · refine ⟨rfl, rfl, fun _ => ⟨?_, rfl, rfl, rfl⟩, fun h => absurd h (by decide), rfl⟩
      rfl
  case watchdog =>
    obtain ⟨u, b, hk, he⟩ := exec_fdieWatchdogExpiry hr hw ht
    have hcnt : u.rd P.fdie F.FDIE_CNT_WDT_N = satAdd F.FDIE_CNT_WDT_N.width (s.rd P.fdie F.FDIE_CNT_WDT_N) 1 :=
      (hk.rd _ _ rfl).trans (rd_inc_same ..)
    have hst : u.stitch = { s.stitch with wdtFired := true } := hk.stitch rfl
    refine ⟨_, he, ?_⟩
    split
    next => exact ⟨by rw [ownFault_stitch, hst], ((ownFault_keeps ..).rd _ _ rfl).trans hcnt, fun _ _ => bit_ownFault _ (by decide)⟩
    next hn =>
      refine ⟨by rw [hst], hcnt, fun ha hd => absurd ?_ hn⟩
      simp [ha, hst, hd]
  case ecc =>
    have he := exec_of_not_guard (c := .eccError m corr page addr ini) (s := s) rfl (by simp [ha])
    cases corr
    · refine ⟨_, he, fun h => absurd h (by decide), fun h => absurd h (by decide), fun _ => ?_, fun _ h => ?_, fun _ h => ?_⟩
      · rw [if_neg (by simp), if_neg (by simp)]
        dsimp only
        have hown : ∀ u k, (ownFault u k).accFaults = u.accFaults := fun u k => (ownFault_keeps u k).accFaults rfl
        have hcap : ((errCapture s page 1 addr ini 0).accFault ini addr).accFaults = (ini, addr) :: s.accFaults :=
          congrArg ((ini, addr) :: ·) ((errCapture_keeps s page 1 addr ini 0).accFaults rfl)
        split_ifs <;> simp only [hown, hcap]
      · rw [if_neg (by simp), if_neg (by simp)]
        dsimp only
        rw [if_pos h]
        exact bit_ownFault _ (by decide)
      · subst h
        exact bit_ownFault _ (by decide)
    · refine ⟨_, he, fun _ h => ?_, fun _ h => ?_, fun h => absurd h (by decide), fun h => absurd h (by decide),
        fun h => absurd h (by decide)⟩
      · rw [if_pos (by simp [h])]
      · rw [if_neg (by simp [h]), if_pos rfl]

end Sys2Proof.Machine
end

section
/-!
PROOF. Supplies and resets (R20 to R28, R588, R589), the timers of the node state (R56, R58, R69), and the tick instant with its
commit point (R78 to R83).
-/

namespace Sys2Proof.Machine

/-! ## Cold and warm reset -/

/-- A cold reset by the detector writes POWER_ON and keeps what lies outside the reset. -/
theorem coldReset_powerOn (s : State) : (coldReset s false).rd P.node F.NODE_RESET_CAUSE_POWER_ON = 1 := rd_wr_same ..

theorem coldReset_pin (s : State) : (coldReset s true).rd P.node F.NODE_RESET_CAUSE_RST_PIN = 1 := rd_wr_same ..

theorem coldReset_pin_node (s : State) :
    (coldReset s true).node = { rails := s.node.rails, rstLow := s.node.rstLow, inReset := true } := by
  have h1 := (svcKeep_keeps (powerRestart (resetBase s fun _ => false))).node rfl
  have h2 := (powerRestart_keeps (resetBase s fun _ => false)).node rfl
  exact h1.trans h2

/-- A warm reset leaves the node control in reset with the class B lock as it was, keeps fuses, AO contents, item records and the
power entry, and goes on within the causes and `afterCauses`. -/
theorem warmReset_kept (s : State) : (warmReset s).node.inReset = true ∧ (warmReset s).node.warm = true ∧
    (warmReset s).node.resetReq = [] ∧ (warmReset s).node.lockedB = s.node.lockedB ∧ (warmReset s).otp = s.otp ∧
    (warmReset s).ao = s.ao ∧ (warmReset s).drift.recs = s.drift.recs ∧
    (warmReset s).power = { s.power with now := s.coreNow, seen := 0 } := by
  unfold warmReset
  dsimp only
  have hc : ∀ (l : List Nat) (t : State), Keeps (groupMask 90) t (l.foldl (fun u k => u.wr P.node (causeFld k) 1) t) := fun l t =>
    Keeps.foldl (fun _ _ => State.wr_keeps 90 (group_cause _ _) ..) l t (Keeps.refl _ t)
  have hk : ∀ (l e : List Nat) (t : State) (prev : Nat), Keeps (groupMask 90 ||| afterCauses) t (sesRelease (safeEnter evOnly
      (e.foldl (fun u k => evOnly u P.fdie k) ((l.foldl (fun u k => u.wr P.node (causeFld k) 1) t).wr P.node F.NODE_STATE_INFO_PREV
        prev)) allChans 3)) := fun l e t prev =>
    Keeps.step (warmReset_end_keeps _ prev e) rfl ((hc l t).mono rfl)
  exact ⟨(congrArg NodeSt.inReset ((hk ..).node rfl)).trans rfl, (congrArg NodeSt.warm ((hk ..).node rfl)).trans rfl,
    (congrArg NodeSt.resetReq ((hk ..).node rfl)).trans rfl, (congrArg NodeSt.lockedB ((hk ..).node rfl)).trans rfl,
    ((hk ..).otp rfl).trans rfl, ((hk ..).ao rfl).trans rfl, (congrArg DriftSt.recs ((hk ..).drift rfl)).trans rfl,
    ((hk ..).power rfl).trans rfl⟩

/-- Settles O10. -/
theorem suppliesAndResets : Obligations.SuppliesAndResets := by
  refine ⟨fun s h => ?good, fun s h => ?fail, fun s h => ?ao, fun s w h => ?low, fun s => ?release, fun s hr hl hi hq => ?warm⟩
  case good => exact ⟨_, exec_of_not_guard rfl (by simp [h]), rfl, rfl, coldReset_powerOn _, rfl, rfl⟩
  case fail =>
    refine ⟨_, exec_of_guard rfl h, ?_⟩
    dsimp only
    have hao : (if s.service = true then vbusFall s else s).ao = s.ao := by
      split
      · exact (vbusFall_keeps s).ao rfl
      · rfl
    generalize (if s.service = true then vbusFall s else s) = u at hao ⊢
    split
    next => exact ⟨rfl, rfl, coldReset_powerOn _, rfl, fun _ => rfl⟩
    next hw =>
      have hw' : u.ao.writing.isSome = false := Bool.eq_false_iff.mpr hw
      have hn : u.ao.writing = none := by simpa using hw'
      exact ⟨rfl, rfl, coldReset_powerOn _, hn, fun h => absurd h (by simp [← hao, hn])⟩
  case ao => exact ⟨_, exec_of_not_guard rfl (by simp [h]), rfl, rfl, rfl⟩
  case low =>
    by_cases hw : w < 100
    · exact ⟨s, exec_of_guard rfl (.inl hw), fun _ => rfl, fun h => by omega, fun h => by omega⟩
    · refine ⟨_, exec_of_not_guard rfl (by simp [h, hw]), fun h => absurd h hw, fun hl => ?_, fun _ hl => ?_⟩
      · rw [if_neg (show ¬w < 1000 by omega)]
        exact ⟨congrArg NodeSt.rstLow (coldReset_pin_node _), congrArg NodeSt.inReset (coldReset_pin_node _), coldReset_pin _⟩
      · rw [if_pos hl]
        dsimp only
        split
        · exact .inl (congrArg NodeSt.rstLow (coldReset_pin_node _))
        · exact .inr rfl
  case release => exact ⟨_, rfl, rfl, rfl, rfl⟩
  case warm =>
    by_cases hg : s.ao.writing.map (·.1) = some 1
    · refine ⟨{ s with node := { s.node with resetWait := true } }, ?_, ?_⟩
      · show execWarmReset s = _
        unfold execWarmReset
        dsimp only
        rw [if_pos (by simp [hr, hl, hi, hq]), if_pos]
        cases hw : s.ao.writing with
        | none => simp [hw] at hg
        | some w => simpa [hw] using hg
      · rw [if_pos hg]
        exact ⟨rfl, rfl⟩
    · obtain ⟨h1, h2, h3, h4, h5, h6, h7, h8⟩ := warmReset_kept s
      refine ⟨_, exec_warmReset_of_waiting hr hl hi hq hg, ?_⟩
      rw [if_neg hg]
      exact ⟨h1, h2, h3, h4, h5, h6, h7, h8⟩

/-! ## Timers of the node state -/

theorem State.wr_of_field {s : State} (p : Nat) (f : Fld) (v : Nat) (h : v < 2 ^ f.width) : (s.wr p f v).rd p f = v := by
  rw [rd_wr_same, Nat.mod_eq_of_lt h]

/-- Settles O11. -/
theorem nodeStateTimers : Obligations.NodeStateTimers := by
  refine ⟨fun s x ha hg ht => ?defer, fun s x ha hj hl ht => ?alone, fun s ha hm => ?cutOff⟩
  case defer =>
    have hk := fun u => deferDropped_keeps u
    refine ⟨_, exec_of_guard rfl (by simp [ha, hg, ht]), ?_, ?_, ?_⟩
    · exact ((hk _).rd _ _ rfl).trans (rd_wr_same ..)
    · exact congrArg NodeSt.gwReset (raise_raised ..).node
    · exact congrArg TimeSt.now ((hk _).time rfl)
  case alone =>
    refine ⟨_, exec_of_guard rfl (by simp [ha, hj, hl, ht]), rd_wr_same .., ?_⟩
    exact (rd_wr_apart _ _ rfl).trans hj
  case cutOff => exact ⟨_, exec_of_guard rfl (by simp [ha, hm]), bit_ownFault _ (by decide)⟩

/-! ## The tick instant and the commit point -/

/-- At C(n) ring time reaches it, the cores are judged, and the rest of the tick's times stay. -/
theorem commitJudge_time (s : State) : (commitJudge s).time = { s.time with
    pastC := true
    clean := andNot (coresJudged s) (s.rd P.time F.TIME_CORE_DONE_DONE) == 0 } := by
  unfold commitJudge
  dsimp only
  split
  · rfl
  · exact ((raise_keeps ..).time rfl).trans rfl

theorem commitPoint_time {s : State} (h : s.time.pastC = false) : (commitPoint s).time = { (s.atTime (commitAt s)).time with
    pastC := true
    clean := andNot (coresJudged s) (s.rd P.time F.TIME_CORE_DONE_DONE) == 0 } := by
  unfold commitPoint
  rw [if_neg (by simp [h])]
  exact ((actCommit_keeps ..).time rfl).trans (commitJudge_time _)

/-- C(n) does not move the tick number or the instant of a tick 0 to come. -/
theorem commitPoint_ticks (s : State) : (commitPoint s).time.start = s.time.start ∧ (commitPoint s).time.tick = s.time.tick ∧
    (commitPoint s).time.ticks = s.time.ticks := by
  cases h : s.time.pastC
  · rw [commitPoint_time h]
    exact ⟨rfl, rfl, rfl⟩
  · unfold commitPoint
    rw [if_pos h]
    exact ⟨rfl, rfl, rfl⟩

/-- What precedes the advance of the tick number leaves the time base as it is but for the commands taken. -/
theorem takeActivates_time (s : State) : (takeActivates s).time = { s.time with cmds := s.time.cmds.filter fun c => c.code != 5 } := by
  unfold takeActivates
  exact ((Keeps.foldl (fun _ _ => actRequest_keeps ..) _ _ (Keeps.refl _ _)).time rfl).trans rfl

/-- The tick number of R79 after the advance. -/
theorem tickAdvance_ticks (s : State) : (tickAdvance s).time.ticks = s.time.ticks + 1 ∧
    (tickAdvance s).time.tick = if s.time.start.isSome then 0 else s.time.tick + 1 := by
  unfold tickAdvance
  dsimp only
  split
  next h => rw [h]; exact ⟨rfl, rfl⟩
  next h => rw [h]; exact ⟨rfl, rfl⟩

theorem tickFirst_ticks (s : State) (clean : Bool) : (tickFirst s clean).time.ticks = s.time.ticks + 1 ∧
    (tickFirst s clean).time.tick = if s.time.start.isSome then 0 else s.time.tick + 1 := by
  have hbefore : (takeActivates (actRevert (nbrTick s))).time = { s.time with cmds := s.time.cmds.filter fun c => c.code != 5 } := by
    rw [takeActivates_time, (actRevert_keeps _).time rfl, (nbrTick_keeps _).time rfl]
  have hafter : ∀ u, Keeps (2 ^ 200 - 1 - 2 ^ 37) u (actTick (gwResetTick (tickTransitions ((applyStaged (dueCommands (freeRun u))
      clean).each 8 fun t p => shapeTo t p t.now))) clean) := fun u => by
    refine Keeps.step (actTick_keeps ..) rfl ?_
    refine Keeps.step (gwResetTick_keeps ..) rfl ?_
    refine Keeps.step (tickTransitions_keeps ..) rfl ?_
    refine Keeps.each (fun _ _ => Keeps.step (shapeTo_keeps ..) rfl (Keeps.refl _ _)) ?_
    refine Keeps.step (applyStaged_keeps ..) rfl ?_
    refine Keeps.step (dueCommands_keeps ..) rfl ?_
    exact Keeps.step (freeRun_keeps ..) rfl (Keeps.refl _ _)
  obtain ⟨h1, h2⟩ := tickAdvance_ticks (takeActivates (actRevert (nbrTick s)))
  obtain ⟨k1, k2⟩ := (hafter (tickAdvance (takeActivates (actRevert (nbrTick s))))).ticks rfl
  rw [hbefore] at h1 h2
  exact ⟨k2.trans h1, k1.trans h2⟩

/-- Settles O12. -/
theorem tickInstantAndCommitPoint : Obligations.TickInstantAndCommitPoint := by
  refine ⟨fun s h => ?tick, fun s h hc => ?commit⟩
  case tick =>
    have he : exec .tickInstant s = .next (tickLast (tickSample (tickSourceStep (tickFirst (commitPoint s)
      (commitPoint s).time.clean)))) := exec_of_guard rfl h
    refine ⟨_, he, ?_⟩
    obtain ⟨hs, ht, hn⟩ := commitPoint_ticks s
    have hafter : ∀ u, Keeps (2 ^ 200 - 1 - 2 ^ 37) u (tickLast (tickSample (tickSourceStep u))) := fun u => by
      refine Keeps.step (tickLast_keeps ..) rfl ?_
      refine Keeps.step (tickSample_keeps ..) rfl ?_
      exact Keeps.step (tickSourceStep_keeps ..) rfl (Keeps.refl _ _)
    obtain ⟨k1, k2⟩ := (hafter (tickFirst (commitPoint s) (commitPoint s).time.clean)).ticks rfl
    obtain ⟨h1, h2⟩ := tickFirst_ticks (commitPoint s) (commitPoint s).time.clean
    rw [hn] at h1
    rw [hs, ht] at h2
    exact ⟨k2.trans h1, k1.trans h2⟩
  case commit =>
    refine ⟨_, exec_of_guard rfl h, ?_⟩
    rw [State.now, commitPoint_time hc]
    exact ⟨rfl, rfl, rfl⟩

end Sys2Proof.Machine
end

section
/-!
PROOF. TICK copies and link probes (R86 to R94), missed ticks and the Zenith role (R96 to R104), tick commands (R105 to R110).
-/

namespace Sys2Proof.Machine

/-! ## Registers beyond the page header -/

/-- Only registers below 0x040 are in the group of the page headers. -/
theorem regGroup_ne_header {k : Key} (h : 0x040 ≤ k.off) : regGroup k ≠ 40 := by
  unfold regGroup
  rw [if_neg (Nat.not_lt.mpr h)]
  split_ifs <;> omega

/-- A register beyond the header, on a page of group `g`, stays where the group does. -/
theorem Keeps.rd_body {m g : Nat} {s t : State} (h : Keeps m s t) {p : Nat} {f : Fld}
    (hg : regGroup ⟨p, f.off, f.lsb, 0⟩ = g ∨ regGroup ⟨p, f.off, f.lsb, 0⟩ = 40) (ho : 0x040 ≤ f.off) (hm : m.testBit g = false) :
    t.rd p f = s.rd p f :=
  h.rd p f (by rw [hg.resolve_right (regGroup_ne_header ho)]; exact hm)

/-! ## TICK copies -/

theorem rxCount_counts (s : State) (i : Nat) (f : Frame) : (rxCount s i f).rd (P.lane i) F.LANE_RX_FRAMES_N =
    satAdd F.LANE_RX_FRAMES_N.width (s.rd (P.lane i) F.LANE_RX_FRAMES_N) 1 := by
  unfold rxCount
  exact ((tapAdmit_keeps ..).rd_body group_lane (by decide) rfl).trans
    (((noteSup_keeps ..).rd_body group_lane (by decide) rfl).trans (rd_inc_same ..))

/-- What follows the count of a TICK changes no lane's registers. -/
def tickMask : Nat := 2 ^ 200 - 1 - 2 ^ 45

/-- A returned copy is listed first among those of its copy. -/
theorem closeCopy_head (x : SrcSt) (f : Frame) (c lat : Int) :
    (if f.copy = 0 then (closeCopy x f c lat).latE else (closeCopy x f c lat).latW).head? = some lat := by
  unfold closeCopy
  dsimp only
  split_ifs <;> rfl

/-- Settles O13, by `rxCount_counts` and `closeCopy_head`. -/
theorem tickCopies : Obligations.TickCopies := by
  refine ⟨fun s i x fr f hl hi hr hu hf => ?received, fun s i x fr f ha hi hr hu hf ho hs => ?closure⟩
  case received =>
    refine ⟨_, exec_of_guard rfl (by simp [hl, hi, hr, hu, hf]), ?_⟩
    refine Eq.trans ?_ (rxCount_counts s i f)
    refine Keeps.rd_body (m := tickMask) ?_ group_lane (by decide) rfl
    refine .ite (.refl _ _) (.ite (Keeps.step (forwardTick_keeps ..) rfl (.refl _ _)) ?_)
    have hat : ∀ u, Keeps tickMask u (u.atTime x) := fun u => (State.atTime_keeps ..).mono rfl
    refine .ite (Keeps.step (forwardTick_keeps ..) rfl (hat _)) (.ite (Keeps.step (tickOnK_keeps ..) rfl (hat _)) ?_)
    refine .ite (Keeps.step (forwardTick_keeps ..) rfl (hat _)) (.ite (Keeps.step (State.inc_keeps 44 group_time ..) rfl (hat _)) ?_)
    exact Keeps.step (forwardTick_keeps ..) rfl (Keeps.step (acceptTick_keeps ..) rfl (hat _))
  case closure =>
    refine ⟨_, exec_of_guard rfl (by simp [ha, hi, hr, hu, hf, ho, hs]), ?_⟩
    unfold closure
    dsimp only
    have ht : ∀ u y, (showClosure u y).time = u.time := fun u y => (showClosure_keeps u y).time rfl
    have hw : ∀ u p f v, (State.wr u p f v).time = u.time := fun _ _ _ _ => rfl
    cases hk : laneK i
    · simp only [Bool.false_eq_true, if_false, hw, ht]
      exact closeCopy_head ..
    · simp only [if_true, ht]
      exact closeCopy_head ..

/-! ## Probes -/

theorem probe_setProbe (s : State) (i : Nat) (x : ProbeSt) : probe (setProbe s i x) i = x := Tbl.at_put_same ..

/-- A failed probe ends; its failure is counted, and no other number of the exchange changes. -/
theorem probeFailed_probe (s : State) (i : Nat) : (probe (probeFailed s i) i).t1 = none ∧
    (probe (probeFailed s i) i).fails = (probe s i).fails + 1 ∧ (probe (probeFailed s i) i).valids = 0 ∧
    (probe (probeFailed s i) i).num = (probe s i).num := by
  unfold probeFailed
  dsimp only
  split
  · have : ∀ u, probe (raise u P.time 13) i = probe u i := fun u =>
      congrArg (fun x : TimeSt => x.probes.at {} i) ((raise_keeps ..).time rfl)
    have hs : ∀ u b, probe (showSide u i b) i = probe u i := fun u b => by
      unfold showSide
      split <;> rfl
    simp only [this, hs, probe_setProbe]
    exact ⟨trivial, trivial, trivial, trivial⟩
  · simp only [probe_setProbe]
    exact ⟨trivial, trivial, trivial, trivial⟩

/-- A probe reply ends the outstanding probe and the run of failures. -/
theorem probeValue_probe (s : State) (i : Nat) (d : Int) : (probe (probeValue s i d) i).t1 = none ∧ (probe (probeValue s i d) i).fails = 0 := by
  have hs : ∀ u b, probe (showSide u i b) i = probe u i := fun u b => by
    unfold showSide
    split <;> rfl
  have hw : ∀ u p f v, probe (State.wr u p f v) i = probe u i := fun _ _ _ _ => rfl
  unfold probeValue
  dsimp only
  split_ifs <;> simp only [State.inc, hs, hw, probe_setProbe] <;> exact ⟨trivial, trivial⟩

theorem lanePort_eq {s t : State} (h : t.rd (P.lane 0) F.LANE_LANE_STAT_REVERSED = s.rd (P.lane 0) F.LANE_LANE_STAT_REVERSED)
    (i : Nat) : lanePort t i = lanePort s i := by
  unfold lanePort State.reversed State.on
  rw [h]

theorem Keeps.lanePort {m : Nat} {s t : State} (h : Keeps m s t) (hm : m.testBit 45 = false) (i : Nat) :
    lanePort t i = lanePort s i := lanePort_eq (h.rd_body group_lane (by decide) hm) i

/-- The count of a frame leaves the orientation of the lanes. -/
theorem rxCount_lanePort (s : State) (i : Nat) (f : Frame) (j : Nat) : lanePort (rxCount s i f) j = lanePort s j := by
  unfold rxCount
  refine ((tapAdmit_keeps ..).lanePort rfl j).trans (((noteSup_keeps ..).lanePort rfl j).trans (lanePort_eq ?_ j))
  exact rd_wr_apart _ _ (by simp [keyApart, F.LANE_LANE_STAT_REVERSED, F.LANE_RX_FRAMES_N])

/-- A probe frame leaves on its lane's port, before any other. -/
theorem sendProbe'_wire (s : State) (i : Nat) (f : Frame) : (sendProbe' s i f).wire = { port := lanePort s i, frame := f } :: s.wire := rfl

theorem probeFrame_typ (s : State) (i sub : Nat) (pay : List Nat) : (probeFrame s i sub pay).typ = 0xD ∧
    frameSub (probeFrame s i sub pay) = sub % 256 ∧ (probeFrame s i sub pay).pay = pay := by
  refine ⟨rfl, ?_, rfl⟩
  show sub * 2 ^ 24 / 2 ^ 24 % 256 = sub % 256
  rw [Nat.mul_div_cancel _ (by decide)]

/-- Settles O14. -/
theorem linkProbes : Obligations.LinkProbes := by
  refine ⟨fun s i t1 hp hi hu => ?send, fun s i f t2 t3 hp hi hu hf hs => ?probe, fun s i f t1 t4 hp hi hu hf hs h1 hn => ?reply,
    fun s i hp hi h1 => ?fail⟩
  case send =>
    refine ⟨_, exec_of_guard rfl (by simp [hp, hi, hu]), ?_⟩
    dsimp only
    have hk : Keeps tickMask s (if (probe s i).t1.isSome = true then probeFailed s i else s) :=
      .ite ((probeFailed_keeps ..).mono rfl) (.refl _ _)
    have hn : (probe (if (probe s i).t1.isSome = true then probeFailed s i else s) i).num = (probe s i).num := by
      split
      · exact (probeFailed_probe s i).2.2.2
      · rfl
    have hw : (if (probe s i).t1.isSome = true then probeFailed s i else s).wire = s.wire := by
      split
      · exact (probeFailed_keeps s i).wire rfl
      · rfl
    generalize (if (probe s i).t1.isSome = true then probeFailed s i else s) = u at hk hn hw ⊢
    have ht : ∀ v f, probe (sendProbe' v i f) i = probe v i := fun _ _ => rfl
    rw [ht, probe_setProbe, sendProbe'_wire, hn]
    obtain ⟨h1, h2, _⟩ := probeFrame_typ u i 2 (beBytes 4 (((probe s i).num + 1) % 2 ^ 32) ++ beBytes 4 0)
    refine ⟨rfl, rfl, hw, ?_⟩
    have hl : lanePort (setProbe u i { probe u i with num := ((probe s i).num + 1) % 2 ^ 32, t1 := some t1 }) i = lanePort s i :=
      hk.lanePort rfl i
    rw [List.head?_cons, Option.map_some, hl, h1, h2]
  case probe =>
    refine ⟨_, exec_of_guard rfl (by simp [hp, hi, hu, hf, hs]), ?_⟩
    obtain ⟨h1, h2, h3⟩ := probeFrame_typ s i 3 (slice f.pay 0 4 ++ beBytes 4 0 ++ beBytes 8 t2 ++ beBytes 8 t3)
    rw [sendProbe'_wire, rxCount_lanePort]
    refine ⟨(rxCount_keeps ..).wire rfl, ?_⟩
    rw [List.head?_cons, Option.map_some, h1, h2, h3]
  case reply =>
    have hr : probe (rxCount s i f) i = probe s i := congrArg (fun x : TimeSt => x.probes.at {} i) ((rxCount_keeps ..).time rfl)
    refine ⟨_, exec_of_guard rfl (by simp [hp, hi, hu, hf, hs]), ?_⟩
    dsimp only
    rw [hr, h1]
    dsimp only
    rw [if_pos hn]
    exact probeValue_probe ..
  case fail =>
    refine ⟨_, exec_of_guard rfl (by simp [hp, hi, h1]), ?_⟩
    obtain ⟨h1, h2, h3, _⟩ := probeFailed_probe s i
    exact ⟨h1, h2, h3⟩

/-! ## Missed ticks and the Zenith role -/

/-- A missed tick is counted. -/
theorem tickMissed_counts (s : State) (t : Nat) : (tickMissed s t).rd P.time F.TIME_CNT_MISSED_N =
    satAdd F.TIME_CNT_MISSED_N.width (s.rd P.time F.TIME_CNT_MISSED_N) 1 := by
  have hold : ∀ u, (holdoverEnter u t).rd P.time F.TIME_CNT_MISSED_N = u.rd P.time F.TIME_CNT_MISSED_N := fun u => by
    unfold holdoverEnter showIncr
    refine (rd_wr_apart _ _ rfl).trans ((rd_raise _ _ _ _ _ (by decide)).trans (rd_wr_apart _ _ rfl))
  have hc : ∀ v, ((s.wr P.time F.TIME_SERVO_STAT_MISSED v).inc P.time F.TIME_CNT_MISSED_N).rd P.time F.TIME_CNT_MISSED_N =
      satAdd F.TIME_CNT_MISSED_N.width (s.rd P.time F.TIME_CNT_MISSED_N) 1 := fun v =>
    (rd_inc_same ..).trans (by rw [rd_wr_apart _ _ rfl]; rfl)
  unfold tickMissed
  dsimp only
  split
  · exact (hold _).trans (hc _)
  · exact hc _

/-- The role that is set is held. -/
theorem setRole_role (s : State) {r : Nat} (h : r < 4) : (setRole s r).role = r := by
  unfold setRole
  split
  · assumption
  · exact (rd_raise _ _ _ _ _ (by decide)).trans (State.wr_of_field _ _ _ h)

/-- A source of ring 0 (R99 to R102). -/
theorem becomeSource_spec (s : State) (e p : Nat) : (becomeSource s e p).role = 1 ∧
    (becomeSource s e p).rd P.time F.TIME_ZENITH_VALID = 1 ∧ (becomeSource s e p).rd P.time F.TIME_SERVO_STAT_MISSED = 0 ∧
    (becomeSource s e p).time.src.orig = true ∧ (becomeSource s e p).time.src.epoch = e % 256 ∧
    (becomeSource s e p).time.src.prio = p ∧ (becomeSource s e p).time.stepped = true ∧
    (becomeSource s e p).time.start = s.time.start := by
  have hw : ∀ q g, (becomeSource s e p).rd q g = (State.wr (State.wr (State.wr (State.wr (showSource (setRole s 1)
      (e, p, (setRole s 1).own)) P.time F.TIME_ZENITH_VALID 1) P.time F.TIME_ZENITH_ADDR (showSource (setRole s 1)
      (e, p, (setRole s 1).own)).own) P.time F.TIME_SERVO_STAT_MISSED 0) P.time F.TIME_SERVO_STAT_HOLDOVER 0).rd q g := fun _ _ => rfl
  have hs : ∀ u x, (showSource u x).role = u.role := fun u x =>
    (rd_wr_apart _ _ rfl).trans ((rd_wr_apart _ _ rfl).trans (rd_wr_apart _ _ rfl))
  refine ⟨?_, ?_, ?_, rfl, rfl, rfl, rfl, (congrArg TimeSt.start ((setRole_keeps s 1).time rfl) :)⟩
  · rw [State.role, hw, rd_wr_apart _ _ rfl, rd_wr_apart _ _ rfl, rd_wr_apart _ _ rfl, rd_wr_apart _ _ rfl]
    exact (hs ..).trans (setRole_role s (by decide))
  · rw [hw, rd_wr_apart _ _ rfl, rd_wr_apart _ _ rfl, rd_wr_apart _ _ rfl, rd_wr_same]
    rfl
  · rw [hw, rd_wr_apart _ _ rfl, rd_wr_same]
    rfl

theorem stopSource_time (s : State) : (stopSource s).time = { s.time with yield := false, src := { s.time.src with orig := false } } := by
  unfold stopSource
  dsimp only
  split
  · exact (setRole_keeps ..).time rfl
  · rfl

/-- Settles O15. -/
theorem tickSourceRole : Obligations.TickSourceRole := by
  refine ⟨fun s n x ha hs hn => ?miss, fun s x w ha hj ho hal hl hz hw ht => ?listen, fun s ha hw hr ho hp => ?takeover,
    fun s x ha hw hg hp ho hf hm => ?takeoverK, fun s ha => ?yield⟩
  case miss =>
    refine ⟨_, exec_of_guard rfl (by rw [Bool.and_eq_true, decide_eq_true_eq]; exact ⟨ha, hn⟩), ?_⟩
    have hs' : servoed (s.atTime x) = true := hs
    dsimp only
    rw [if_neg (by simp [hs'])]
    refine ⟨fun ho => ?_, fun ho hg => ?_⟩
    · rw [if_pos (show (s.atTime x).time.src.orig = true from ho)]
    · rw [if_neg (show ¬(s.atTime x).time.src.orig = true by simp [State.atTime, ho])]
      unfold missJudge
      dsimp only
      rw [if_neg (by simpa [State.atTime] using hg)]
      exact tickMissed_counts ..
  case listen =>
    have he : ∃ t, exec (.zenithListenExpiry x) s = .next t ∧ ∃ u p, u.time.start.isSome = true ∧
        t = (becomeSource (setLine u 0) 0 p).each 5 mtipFollow := by
      show ∃ t, execZenithListenExpiry x s = .next t ∧ _
      unfold execZenithListenExpiry
      rw [if_pos (by simp [ha, hj, ho, hal, hl, hz]), hw]
      dsimp only
      rw [if_neg (by omega)]
      exact ⟨_, rfl, _, _, rfl, rfl⟩
    have hk : ∀ u : State, Keeps (2 ^ 32) u (u.each 5 mtipFollow) := fun u =>
      Keeps.each (fun _ _ => (mtipFollow_keeps ..).mono rfl) (.refl _ _)
    obtain ⟨_, he, u, p, hu, rfl⟩ := he
    refine ⟨_, he, ?_⟩
    rw [State.role, (hk _).rd _ _ rfl, (hk _).rd _ _ rfl, (hk _).time rfl]
    obtain ⟨h1, h2, _, h3, _, _, h4, h5⟩ := becomeSource_spec (setLine u 0) 0 p
    refine ⟨h3, h4, h2, ?_, h1⟩
    have hline : (setLine u 0).time.start = u.time.start := (congrArg TimeSt.start ((raiseIf_keeps ..).time rfl)).trans rfl
    rw [h5, hline]
    exact hu
  case takeover =>
    have he : exec (.takeover false) s = .next (raise (becomeSource s ((s.rd P.time F.TIME_SOURCE_EPOCH + 1) % 256) (standbyPrio s))
        P.time 8) := by
      show execTakeover false s = _
      unfold execTakeover
      rw [if_pos (by simp [ha, hw])]
      dsimp only
      rw [if_neg (by decide), if_pos (by simpa [hr, ho] using hp)]
    obtain ⟨h1, _, h2, h3, h4, h5, _⟩ := becomeSource_spec s ((s.rd P.time F.TIME_SOURCE_EPOCH + 1) % 256) (standbyPrio s)
    refine ⟨_, he, ?_⟩
    rw [(raise_keeps ..).time rfl, rd_raise _ _ _ _ _ (by decide), State.role, rd_raise _ _ _ _ _ (by decide)]
    exact ⟨h3, h5, h4.trans (Nat.mod_mod _ _), h2, h1⟩
  case takeoverK =>
    have he : ∃ t, exec (.takeover true) s = .next t ∧ ∃ u, t = raise (gwTakes u) P.time 8 ∧
        u.time.srcK = { asym := s.time.srcK.asym, epoch := (x.1 + 1) % 256, prio := 1 } := by
      show ∃ t, execTakeover true s = .next t ∧ _
      unfold execTakeover
      rw [if_pos (by simp [ha, hw])]
      dsimp only
      rw [if_pos rfl, hf]
      dsimp only
      rw [if_pos (by simp [hg, hp, ho, hm])]
      exact ⟨_, rfl, _, rfl, rfl⟩
    have hg : ∀ u : State, u.time.srcK.orig = false → (gwTakes u).time.srcK = { u.time.srcK with orig := true } := fun u hu => by
      unfold gwTakes
      rw [if_neg (by simp [hu])]
      exact congrArg TimeSt.srcK ((raise_keeps ..).time rfl)
    obtain ⟨_, he, u, rfl, hu⟩ := he
    refine ⟨_, he, ?_⟩
    rw [(raise_keeps ..).time rfl, hg u (by rw [hu]), hu]
    exact ⟨rfl, rfl, rfl⟩
  case yield =>
    refine ⟨_, exec_of_guard rfl ha, ?_⟩
    cases hy : s.time.yield <;> cases hk : s.time.yieldK <;> simp [hy, hk, stopSource_time, gwYields]

/-! ## Tick commands -/

/-- What a lane that goes down changes of the time base: the latencies that STATUS frames report (R107). -/
def TimeKept (s t : State) : Prop := t.time = { s.time with ringLat := t.time.ringLat }

theorem TimeKept.of_eq {s t : State} (h : t.time = s.time) : TimeKept s t := by rw [TimeKept, h]

theorem TimeKept.trans {s t u : State} (h : TimeKept s t) (k : TimeKept t u) : TimeKept s u := by
  unfold TimeKept at *
  rw [k, h]

theorem TimeKept.cmds {s t : State} (h : TimeKept s t) : t.time.cmds = s.time.cmds := by rw [h]

theorem noteStatus_time (s : State) (f : Frame) : TimeKept s (noteStatus s f) := by
  unfold noteStatus
  dsimp only
  split_ifs <;> rfl

theorem passed_time (s : State) (i id : Nat) (f : Frame) (c : Bool) (o : Bool × Bool) : TimeKept s (passed s i id f c o).2 := by
  unfold passed
  cases c
  · exact noteStatus_time s f
  · exact (TimeKept.of_eq ((crossFrame_keeps ..).time rfl)).trans (noteStatus_time _ f)

theorem acceptHeld_time (s : State) (g : Nat) (h : HeldFrame) : TimeKept s (acceptHeld s g h) := by
  unfold acceptHeld
  dsimp only
  have ha : ∀ x o, TimeKept s (passed (admitRx (newId (haloAccept s g)).2 h.lane (newId (haloAccept s g)).1 h.frame x true).2 h.lane
      (newId (haloAccept s g)).1 h.frame x o).2 := fun x o =>
    (TimeKept.of_eq (((admitRx_keeps ..).time rfl).trans (((newId_keeps ..).time rfl).trans ((haloAccept_keeps ..).time rfl)))).trans
      (passed_time ..)
  split
  · exact (ha ..).trans (.of_eq (((noteTun_keeps ..).time rfl).trans ((setHaloEnt_keeps ..).time rfl)))
  · exact (ha ..).trans (.of_eq ((haloSettle_keeps ..).time rfl))

theorem settleHeld_time (s : State) (src g q : Nat) (ok : Bool) : TimeKept s (settleHeld s src g q ok) := by
  have hf : ∀ (l : List HeldFrame) u, (l.foldl (fun t h => haloDup t h.lane g) u).time = u.time := fun l u =>
    (Keeps.foldl (fun _ _ => haloDup_keeps ..) l u (.refl _ _)).time rfl
  unfold settleHeld
  dsimp only
  have hs : ∀ e, (setHaloEnt (haloSettle s src g q ok) src g e).time = s.time := fun e =>
    ((setHaloEnt_keeps ..).time rfl).trans ((haloSettle_keeps ..).time rfl)
  split
  · exact .of_eq ((hf ..).trans (hs _))
  · split
    · exact .of_eq (hs _)
    · exact (TimeKept.of_eq (hs _)).trans ((acceptHeld_time ..).trans (.of_eq (hf ..)))

theorem endHeld_time (s : State) (i : Nat) (f : Frame) (ok : Bool) : TimeKept s (endHeld s i f ok) := by
  have hd : ∀ e g q n, (haloDecide (setHaloEnt s f.src g e) f.src g q n).2.time = s.time := fun e g q n =>
    ((haloDecide_keeps ..).time rfl).trans ((setHaloEnt_keeps ..).time rfl)
  unfold endHeld
  dsimp only
  split
  · exact .of_eq ((setHaloEnt_keeps ..).time rfl)
  · split
    · exact .of_eq ((setHaloEnt_keeps ..).time rfl)
    · split <;> rename_i t he <;> have ht := congrArg (fun x : HaloDec × State => x.2.time) he
      · exact (TimeKept.of_eq (ht.symm.trans (hd ..))).trans (acceptHeld_time ..)
      · exact .of_eq (((countRaise_keeps 46 group_halo ..).time rfl).trans (ht.symm.trans (hd ..)))
      · exact .of_eq (((haloDup_keeps ..).time rfl).trans (ht.symm.trans (hd ..)))

theorem rxLost_time (s : State) (i : Nat) (x : RxFrame) : TimeKept s (rxLost s i x) := by
  unfold rxLost
  split
  · exact .of_eq rfl
  · split
    · exact endHeld_time ..
    · dsimp only
      have hend : ∀ u, TimeKept s u → TimeKept s
          (if x.pend = true then settleHeld u x.frame.src (haloGroup x.frame.cls) x.frame.seq false else u) := fun u hu => by
        split
        · exact hu.trans (settleHeld_time ..)
        · exact hu
      have hs : (stompStored s x.id).time = s.time := (stompStored_keeps ..).time rfl
      have hl : ∀ (u : State) (y : LaneSt), (u.setLane i y).time = u.time := fun _ _ => rfl
      refine hend _ (.of_eq ?_)
      split
      · split
        · exact (hl ..).trans hs
        · exact hs
      · exact hs

theorem rxCut_time (s : State) (i : Nat) : TimeKept s (rxCut s i) := by
  unfold rxCut
  dsimp only
  split
  · exact .of_eq ((tapEnds_keeps ..).time rfl)
  · exact (TimeKept.of_eq (((State.setLane_keeps ..).time rfl).trans ((tapEnds_keeps ..).time rfl))).trans (rxLost_time ..)

theorem laneExit_time (s : State) (i st : Nat) : TimeKept s (laneExit s i st) := by
  have hc : ∀ u (b : Bool), (if b = true then laneCause u i LC.flapping else u).time = u.time := fun u b => by cases b <;> rfl
  unfold laneExit
  dsimp only
  refine TimeKept.trans (.of_eq ?_) ((rxCut_time _ i).trans (.of_eq ((flushPort_keeps ..).time rfl)))
  rw [hc, (setLaneState_keeps ..).time rfl, (countRaise_keeps 45 group_lane ..).time rfl]
  rfl

theorem tapEnd_time (s : State) : TimeKept s (tapEnd s) := by
  unfold tapEnd
  dsimp only
  have hp : (pdEv (s.pdWr 0 F.PD_PD_STAT_TAP 0) 0 1).time = s.time := ((pdEv_keeps ..).time rfl).trans ((State.pdWr_keeps ..).time rfl)
  split
  · split
    · exact (TimeKept.of_eq hp).trans (laneExit_time ..)
    · exact .of_eq (((setLaneState_keeps ..).time rfl).trans hp)
  · exact .of_eq rfl

theorem tapJudge_time (s : State) : TimeKept s (tapJudge s) := by
  unfold tapJudge
  split
  · exact tapEnd_time s
  · exact .of_eq rfl

/-- Registers that entry to a working state leaves. -/
def workMask : Nat := 2 ^ 200 - 1 - 2 ^ 87 - 2 ^ 44

/-- Entry to a working state but JOIN leaves the line state, ROLE and the tick commands. -/
theorem goState_work (s : State) {st : Nat} (h : st ≠ NS.join ∧ st ≠ NS.isolate ∧ st ≠ NS.dawn) :
    Keeps workMask s (goState s st) ∧ (goState s st).time.cmds = s.time.cmds := by
  obtain ⟨hj, hi, hd⟩ := h
  unfold goState
  split
  · exact ⟨.refl _ _, rfl⟩
  · unfold entryEffects
    rw [if_neg hj, if_neg hi, if_neg hd]
    refine ⟨?_, ?_⟩
    · refine Keeps.step (domainsApply_keeps ..) rfl ?_
      refine Keeps.step (tapJudge_keeps ..) rfl ?_
      refine Keeps.step (tracksEntry_keeps ..) rfl ?_
      refine Keeps.step (ownPresence_keeps ..) rfl ?_
      exact Keeps.step (enterState_keeps ..) rfl (.refl _ _)
    · rw [(domainsApply_keeps ..).time rfl, (tapJudge_time _).cmds, (tracksEntry_keeps ..).time rfl, (ownPresence_keeps ..).time rfl,
        (enterState_keeps ..).time rfl]

theorem lineTransition_keeps' (s : State) : Keeps workMask s (lineTransition s) ∧ (lineTransition s).time.cmds = s.time.cmds := by
  unfold lineTransition
  split
  · exact goState_work s (by decide)
  · split
    · exact goState_work s (by decide)
    · exact ⟨.refl _ _, rfl⟩

/-- A command that is found is taken. -/
theorem takeCmd_of_find {s : State} {code : Nat} {c : TickCmd}
    (h : s.time.cmds.find? (fun c => c.code == code && decide (c.eff ≤ s.tick)) = some c) :
    takeCmd s code = (some c, { s with time := { s.time with cmds := s.time.cmds.erase c } }) := by
  unfold takeCmd
  rw [h]

/-- The line state that is set is the one in force, in NODE and in TIME. -/
theorem setLine_spec (s : State) {v : Nat} (h : v < 4) : (setLine s v).line = v ∧ (setLine s v).rd P.time F.TIME_SOURCE_LINE = v ∧
    (setLine s v).time = { s.time with lineSeen := true } := by
  refine ⟨?_, ?_, (raiseIf_keeps ..).time rfl⟩
  · refine (rd_raiseIf _ _ _ _ _ _ (by decide)).trans ?_
    exact (rd_wr_apart _ _ rfl).trans (State.wr_of_field _ _ _ h)
  · refine (rd_raiseIf _ _ _ _ _ _ (by decide)).trans ?_
    exact State.wr_of_field _ _ _ h

/-- A change of the tick length shows in TICK_CFG; the stored commands stay. -/
theorem setTickLen_spec (s : State) (n : Nat) {l : Nat} (h : l < 2 ^ 21) :
    (setTickLen s n l).rd P.time F.TIME_TICK_CFG_LEN = l ∧ (setTickLen s n l).time.cmds = s.time.cmds := by
  have hk : ∀ u : State, Keeps (2 ^ 200 - 1 - 2 ^ 44 - 2 ^ 11) u (u.each 8 judgeLead) := fun u =>
    Keeps.each (fun _ _ => (judgeLead_keeps ..).mono rfl) (.refl _ _)
  unfold setTickLen
  dsimp only
  rw [(hk _).rd _ _ rfl, (hk _).time rfl]
  exact ⟨State.wr_of_field _ _ _ h, rfl⟩

/-- A tick length in range takes effect in TICK_CFG; the stored commands stay. -/
theorem cmdTickLen_spec (s : State) {v : Nat} (h : cmdArgOk 2 v = true) :
    (cmdTickLen s v).rd P.time F.TIME_TICK_CFG_LEN = v % 2 ^ 21 ∧ (cmdTickLen s v).time.cmds = s.time.cmds := by
  have hmargin : ∀ u, (judgeMargin u).rd P.time F.TIME_TICK_CFG_LEN = u.rd P.time F.TIME_TICK_CFG_LEN := fun u => by
    unfold judgeMargin
    split
    · rfl
    · exact (rd_raise _ _ _ _ _ (by decide)).trans (rd_wr_apart _ _ rfl)
  obtain ⟨h1, h2⟩ := setTickLen_spec s s.tick (l := v % 2 ^ 21) (Nat.mod_lt _ (by decide))
  unfold cmdTickLen
  rw [if_pos h, (judgeZones_keeps _).rd _ _ rfl, hmargin, (judgeZones_keeps _).time rfl, (judgeMargin_keeps _).time rfl]
  exact ⟨h1, h2⟩

/-- ZENITH_MOVE: the source stops where another node is named (R102). -/
theorem cmdZenithMove_stops {s : State} {arg : Nat} (ho : s.time.src.orig = true) (hx : arg % 4096 ≠ s.own) :
    (cmdZenithMove s arg).time.src.orig = false := by
  have hown : (stopSource s).own = s.own := (stopSource_keeps s).rd _ _ rfl
  unfold cmdZenithMove
  dsimp only
  rw [if_pos ho, if_neg, stopSource_time]
  rw [hown]
  simp only [Bool.and_eq_true, beq_iff_eq]
  rintro ⟨⟨⟨⟨-, h⟩, -⟩, -⟩, -⟩
  exact hx h

/-- ZENITH_MOVE: the node named originates with the next EPOCH (R102). -/
theorem cmdZenithMove_takes {s : State} {arg : Nat} (hx : arg % 4096 = s.own) (hv : s.ownValid = true) (hw : s.working = true)
    (ho : s.time.src.orig = false) (hr : s.role ≠ 3) (hz : s.own = 0 ∨ s.role = 2) : (cmdZenithMove s arg).time.src.orig = true ∧
    (cmdZenithMove s arg).time.src.epoch = (s.rd P.time F.TIME_SOURCE_EPOCH + 1) % 256 := by
  obtain ⟨-, -, -, h1, h2, -⟩ := becomeSource_spec s ((s.rd P.time F.TIME_SOURCE_EPOCH + 1) % 256)
    (if s.own = 0 then 0 else standbyPrio s)
  unfold cmdZenithMove
  dsimp only
  rw [if_neg (show ¬s.time.src.orig = true by simp [ho]), if_pos (by simp [hx, hv, hw, hr, hz])]
  exact ⟨h1, h2.trans (Nat.mod_mod _ _)⟩

/-- USER latches CODE and ARG. -/
theorem cmdUser_spec (s : State) (code arg : Nat) : (cmdUser s code arg).rd P.time F.TIME_USER_CODE_CODE = code % 256 ∧
    (cmdUser s code arg).rd64 P.time F.TIME_USER_ARG_LO_ARG F.TIME_USER_ARG_HI_ARG = arg % 2 ^ 64 ∧ (cmdUser s code arg).time = s.time := by
  refine ⟨?_, ?_, (raise_keeps ..).time rfl⟩
  · refine (rd_raise _ _ _ _ _ (by decide)).trans ?_
    exact (rd_wr_apart _ _ rfl).trans ((rd_wr_apart _ _ rfl).trans (rd_wr_same ..))
  · unfold cmdUser State.rd64 State.wr64
    rw [rd_raise _ _ _ _ _ (by decide), rd_raise _ _ _ _ _ (by decide), rd_wr_apart _ _ rfl, rd_wr_same, rd_wr_same]
    show arg % 2 ^ 32 + arg / 2 ^ 32 % 2 ^ 32 * 2 ^ 32 = _
    omega

/-- Settles O16. -/
theorem tickCommandsTakeEffect : Obligations.TickCommandsTakeEffect := by
  refine ⟨fun s c ha hc hx => ?line, fun s c ha hc hx => ?len, fun s c ha hc hx => ?window, fun s c ha hc => ?move,
    fun s c ha hc => ?user⟩
  case line =>
    have hx4 : c.arg % 4 < 4 := Nat.mod_lt _ (by decide)
    have he : exec .line s = .next (lineTransition (setLine { s with time := { s.time with cmds := s.time.cmds.erase c } }
        (c.arg % 4))) := by
      refine (exec_of_guard rfl ha).trans ?_
      rw [takeCmd_of_find hc]
      dsimp only
      rw [cmdLine, if_neg hx]
    obtain ⟨h1, h2, h3⟩ := setLine_spec { s with time := { s.time with cmds := s.time.cmds.erase c } } hx4
    obtain ⟨hk, hcm⟩ := lineTransition_keeps' (setLine { s with time := { s.time with cmds := s.time.cmds.erase c } } (c.arg % 4))
    refine ⟨_, he, (hk.rd _ _ rfl).trans h1, (hk.rd _ _ rfl).trans h2, hcm.trans ?_⟩
    rw [h3]
  case len =>
    have he : exec .tickLen s = .next (cmdTickLen { s with time := { s.time with cmds := s.time.cmds.erase c } } c.arg) := by
      refine (exec_of_guard rfl ha).trans ?_
      rw [takeCmd_of_find hc]
    exact ⟨_, he, cmdTickLen_spec _ (by simpa [cmdArgOk, and_assoc] using hx)⟩
  case window =>
    have he : exec .window s = .next (cmdWindow { s with time := { s.time with cmds := s.time.cmds.erase c } } c.arg) := by
      refine (exec_of_guard rfl ha).trans ?_
      rw [takeCmd_of_find hc]
    refine ⟨_, he, ?_⟩
    rw [cmdWindow, if_pos (by simpa [cmdArgOk] using hx)]
    exact ⟨State.wr_of_field _ _ _ (Nat.mod_lt _ (by decide)), rfl⟩
  case move =>
    have he : exec .zenithMove s = .next (cmdZenithMove { s with time := { s.time with cmds := s.time.cmds.erase c } } c.arg) := by
      refine (exec_of_guard rfl ha).trans ?_
      rw [takeCmd_of_find hc]
    exact ⟨_, he, fun ho hx => cmdZenithMove_stops ho hx, fun hx hv hw ho hr hz => cmdZenithMove_takes hx hv hw ho hr hz⟩
  case user =>
    have he : exec .user s = .next (cmdUser { s with time := { s.time with cmds := s.time.cmds.erase c } } c.code c.arg) := by
      refine (exec_of_guard rfl ha).trans ?_
      rw [takeUser, hc]
    obtain ⟨h1, h2, h3⟩ := cmdUser_spec { s with time := { s.time with cmds := s.time.cmds.erase c } } c.code c.arg
    have hcode : c.code < 256 := by
      have := List.find?_some hc
      simp only [decide_eq_true_eq] at this
      omega
    exact ⟨_, he, h1.trans (Nat.mod_eq_of_lt hcode), h2, congrArg TimeSt.cmds h3⟩

end Sys2Proof.Machine
end

section
/-!
PROOF. Requests for a node state (R52), power domains, sensors, log and black box (R15, R529 to R535), the start of the boot ROM (R544).
-/

namespace Sys2Proof.Machine

/-! ## A counterexample to the frame of STATE_REQ in JOIN -/

/-- A node in JOIN without an address whose lane 0 is UP and whose address is fixed; the HALO event of a new address (source 56)
triggers Eclipse. -/
def joinFrozenByAddress : State :=
  (((((({} : State).wr P.node F.NODE_NODE_STATE_STATE NS.join).wr (P.lane 0) F.LANE_LANE_STAT_STATE 4).wr P.halo
    F.HALO_RING_CFG_ADDR_MODE 1).wr P.halo F.HDR_EV_MASK_EN 1).wr P.ecl F.ECLIPSE_ECL_CFG_EV_EN 1).wr P.ecl F.ECLIPSE_ECL_CFG_EV_SRC 56

theorem joinFrozenByAddress_mayWrite : MayWrite joinFrozenByAddress ⟨4, 0⟩ P.node 0x04C := by
  refine ⟨?_, ?_, ?_, ?_, ?_, ?_⟩ <;> decide +kernel

/-- The write of STATE_REQ finds the lane UP, so the node takes its address (R141); that event freezes it. -/
theorem joinFrozenByAddress_freezes :
    (match exec (.stateReq ⟨4, 0⟩ NS.commission) joinFrozenByAddress with
      | .next t => t.st
      | _ => NS.join) = NS.eclipse := by decide +kernel

/-- Refutes O17: in JOIN a STATE_REQ for COMMISSION can leave another state than JOIN, as the node takes its address with it and the
event of that may trigger Eclipse. -/
theorem not_nodeRegisterWrites : ¬ Obligations.NodeRegisterWrites := by
  rintro ⟨-, -, -, h⟩
  obtain ⟨t, he, -, hjoin, -⟩ := h joinFrozenByAddress ⟨4, 0⟩ NS.commission joinFrozenByAddress_mayWrite (by decide) (by decide +kernel)
  obtain ⟨-, hst⟩ := hjoin (by decide +kernel) (by decide +kernel)
  have hf := joinFrozenByAddress_freezes
  rw [he] at hf
  exact absurd (hst.symm.trans hf) (by decide +kernel)

/-! ## Power domains, sensors, log and black box -/

/-- Registers are read from the register file alone. -/
theorem rd_of_regs {s t : State} (h : t.regs = s.regs) (p : Nat) (f : Fld) : t.rd p f = s.rd p f := by
  unfold State.rd State.rdi
  rw [h]

/-- A register of triggers whose fields have conditions of their own. -/
theorem MayWrite.trigger_of_fieldOk {s : State} {who : By} {page off : Nat} (h : MayWrite s who page off) (word : Nat)
    (ht : triggerReg page off = true) (hc : ∀ f ∈ regFields page off, fieldOk (dropArms s page) who page f (fbits word f) = true)
    (hs : (page == P.sestx && off == 0x044) = false ∨ who.ini ≠ 8) (ho : off ≠ 0x038) :
    busStore s who page off word = writeEffect (dropArms s page) (dropArms s page) who page off word := by
  have ht' := ht
  simp only [triggerReg, Bool.and_eq_true, Bool.not_eq_true'] at ht'
  obtain ⟨⟨⟨⟨⟨⟨⟨hp, hr⟩, -⟩, -⟩, -⟩, -⟩, he⟩, -⟩ := ht'
  rw [h.busStore_eq word ho hp hr he hc hs]
  exact applyWrite_trigger ht ..

/-- A write to MGMT that its conditions let through is MGMT's operation. -/
theorem MayWrite.mgmt_eq {s : State} {who : By} {off : Nat} (h : MayWrite s who P.mgmt off) (word : Nat)
    (ht : triggerReg P.mgmt off = true) (hc : (regFields P.mgmt off).all (noCondition P.mgmt) = true) (ho : 0x040 ≤ off) :
    busStore s who P.mgmt off word = effMgmt (dropArms s P.mgmt) who.ini off word := by
  rw [h.trigger word ht hc (.inl (by simp [P.mgmt, P.sestx])) (by simp; omega)]
  have hm : pageType P.mgmt = some .mgmt := by decide
  unfold writeEffect
  rw [if_neg (by omega), hm]

theorem coresFollow_mgmt (s : State) (f : Fld) (h : 0x040 ≤ f.off) : (coresFollow s).rd P.mgmt f = s.rd P.mgmt f :=
  (coresFollow_keeps s).rd_body group_mgmt h rfl

/-- A domain that follows PWR_CTRL changes no register of MGMT but PWR_STAT. -/
theorem domApply_mgmt (s : State) (d : Nat) {f : Fld} (hf : keyApart P.mgmt f P.mgmt F.MGMT_PWR_STAT_ON = true) (h : 0x040 ≤ f.off) :
    (domApply s d).rd P.mgmt f = s.rd P.mgmt f := by
  have hraise : ∀ u, (raise u P.mgmt 0).rd P.mgmt f = u.rd P.mgmt f := fun u => (raise_keeps u P.mgmt 0).rd_body group_mgmt h rfl
  have hfl : ∀ u : State, (if d = 6 then fieldlogStart u else u).rd P.mgmt f = u.rd P.mgmt f := fun u => by
    split
    · exact (fieldlogStart_keeps u).rd_body group_mgmt h rfl
    · rfl
  unfold domApply
  dsimp only
  split
  · split
    · exact (hfl _).trans rfl
    · exact (hraise _).trans ((rd_setBit_apart _ _ _ hf).trans ((hfl _).trans rfl))
  · split
    · rfl
    · rfl

theorem domainsApply_mgmt (s : State) {f : Fld} (hf : keyApart P.mgmt f P.mgmt F.MGMT_PWR_STAT_ON = true) (h : 0x040 ≤ f.off) :
    (domainsApply s).rd P.mgmt f = s.rd P.mgmt f := by
  unfold domainsApply
  rw [coresFollow_mgmt _ _ h]
  simp only [List.foldl_cons, List.foldl_nil, domApply_mgmt _ _ hf h]

/-- PWR_CTRL holds what is written (R15). -/
theorem pwrCtrl_holds (s : State) (m : Nat) : (pwrCtrl s m).rd P.mgmt F.MGMT_PWR_CTRL_CORE_ON = m % 2 ∧
    (pwrCtrl s m).rd P.mgmt F.MGMT_PWR_CTRL_FIELDLOG_ON = m / 2 % 2 ∧ (pwrCtrl s m).rd P.mgmt F.MGMT_PWR_CTRL_ETH_ON = m / 4 % 2 := by
  unfold pwrCtrl
  dsimp only
  rw [domainsApply_mgmt _ rfl (by decide), domainsApply_mgmt _ rfl (by decide), domainsApply_mgmt _ rfl (by decide),
    rd_wr_apart _ _ rfl, rd_wr_apart _ _ rfl, rd_wr_same, rd_wr_apart _ _ rfl, rd_wr_same, rd_wr_same]
  exact ⟨Nat.mod_mod _ _, rfl, rfl⟩

/-- Only CORE_ON has a condition among the fields of PWR_CTRL (R485). -/
theorem fieldOk_pwrCtrl {s : State} {m : Nat} (hc : coreRefused s m = false) (who : By) :
    ∀ f ∈ regFields P.mgmt 0x040, fieldOk s who P.mgmt f (fbits m f) = true := by
  have hl : regFields P.mgmt 0x040 = [F.MGMT_PWR_CTRL_ETH_ON, F.MGMT_PWR_CTRL_FIELDLOG_ON, F.MGMT_PWR_CTRL_CORE_ON] := by decide
  have hcore : ∀ v, fieldOk s who P.mgmt F.MGMT_PWR_CTRL_CORE_ON v = !coreRefused s v := fun v => by
    have hn : queueNaming P.mgmt F.MGMT_PWR_CTRL_CORE_ON = none := by decide
    unfold fieldOk namingOk
    rw [hn, if_neg (by decide), if_neg (by decide), if_pos (by decide)]
    rfl
  have hbit : bitOf (fbits m F.MGMT_PWR_CTRL_CORE_ON) 0 = bitOf m 0 := by simp [fbits, bitOf, bitsOf, F.MGMT_PWR_CTRL_CORE_ON]
  rw [hl]
  simp only [List.mem_cons, List.not_mem_nil, or_false]
  rintro f (rfl | rfl | rfl)
  · exact fieldOk_of_noCondition (by decide) ..
  · exact fieldOk_of_noCondition (by decide) ..
  · rw [hcore, coreRefused, hbit]
    exact congrArg not hc

/-- A reading of 135 °C or above sets CRIT (R530). -/
theorem tempReading_crit (s : State) {k : Nat} {v : Int} (hk : k < 6) (hv : 1080 ≤ v) :
    (tempReading s k v).bit P.sens F.SENSORS_TEMP_STAT_CRIT k = true := by
  have hset : ∀ u : State, (raise (u.setBit P.sens F.SENSORS_TEMP_STAT_CRIT k true) P.sens 1).bit P.sens F.SENSORS_TEMP_STAT_CRIT k = true :=
    fun u => ((raise_keeps ..).bit _ _ _ rfl).trans (by rw [bit_setBit _ _ _ _ _ _ hk, if_pos rfl])
  unfold tempReading
  dsimp only
  rw [if_pos ⟨hk, hv⟩]
  split
  · exact ((hubLog_keeps ..).bit _ _ _ rfl).trans (hset _)
  · exact hset _

/-- APPEND counts (R532). -/
theorem logAppend_counts (s : State) (i v : Nat) : (logAppend s i v).rd P.log F.LOG_CNT_APPEND_N =
    satAdd F.LOG_CNT_APPEND_N.width (s.rd P.log F.LOG_CNT_APPEND_N) 1 := by
  unfold logAppend
  exact ((logAdd_regs ..).rd _ _ (by decide)).trans (rd_inc_same ..)

/-- LOG_EXPORT that nothing stands in the way of takes what is not yet exported (R533). -/
theorem logExport_starts {s : State} (hb : s.on P.log F.LOG_EXP_STAT_BUSY = false) (hf : s.on P.flash F.FLASH_FL_STAT_BUSY = false)
    (hd : domOn s 7 = true) : (logExport s).rd P.log F.LOG_EXP_STAT_BUSY = 1 ∧ (logExport s).rd P.log F.LOG_EXP_STAT_RESULT = 0 ∧
      (logExport s).mgmt.exporting = s.mgmt.unexp := by
  have he : logExport s = { (s.wr P.log F.LOG_EXP_STAT_BUSY 1).wr P.log F.LOG_EXP_STAT_RESULT 0 with
      mgmt := { s.mgmt with exporting := s.mgmt.unexp } } := by
    unfold logExport
    dsimp only
    rw [if_neg (by simp [hb, hf]), if_neg (by simp [hd])]
    rfl
  have hr : (logExport s).regs = ((s.wr P.log F.LOG_EXP_STAT_BUSY 1).wr P.log F.LOG_EXP_STAT_RESULT 0).regs := by rw [he]
  refine ⟨(rd_of_regs hr ..).trans ?_, (rd_of_regs hr ..).trans ?_, by rw [he]⟩
  · exact (rd_wr_apart _ _ rfl).trans (rd_wr_same ..)
  · exact rd_wr_same ..

/-- A write to LOG that its conditions let through is LOG's operation. -/
theorem MayWrite.log_eq {s : State} {who : By} {off : Nat} (h : MayWrite s who P.log off) (word : Nat)
    (ht : triggerReg P.log off = true) (hc : (regFields P.log off).all (noCondition P.log) = true) (ho : 0x040 ≤ off) :
    busStore s who P.log off word = effLog (dropArms s P.log) who.ini off word := by
  rw [h.trigger word ht hc (.inl rfl) (by simp; omega)]
  have hm : pageType P.log = some .log := by decide
  unfold writeEffect
  rw [if_neg (by omega), hm]

/-- A program or an erasure of the flash changes no register. -/
theorem logFlash_old (s : State) (x : LogEnt) : (flashProgram (if s.rd P.log F.LOG_FLASH_HEAD_OFFSET % (logArea s).2 % 0x1000 = 0
    then flashErase s ((logArea s).1 + s.rd P.log F.LOG_FLASH_HEAD_OFFSET % (logArea s).2) 0x1000 else s)
    ((logArea s).1 + s.rd P.log F.LOG_FLASH_HEAD_OFFSET % (logArea s).2) x.bytes).rd P.log F.LOG_EXP_STAT_BUSY =
      s.rd P.log F.LOG_EXP_STAT_BUSY := by
  rw [(flashProgram_keeps ..).rd _ _ rfl]
  split
  · exact (flashErase_keeps ..).rd _ _ rfl
  · rfl

/-- The result of LOG_EXPORT reads GOOD or FLASH_ERROR, and nothing is in progress (R533). -/
theorem exec_logExportDone {s : State} (ok : Bool) (ha : s.alive = true) (hb : s.on P.log F.LOG_EXP_STAT_BUSY = true) :
    ∃ t, exec (.logExportDone ok) s = .next t ∧ t.rd P.log F.LOG_EXP_STAT_BUSY = 0 ∧
      t.rd P.log F.LOG_EXP_STAT_RESULT = if ok then 1 else 2 := by
  have hbusy : ∀ u r, u.rd P.log F.LOG_EXP_STAT_BUSY = 0 → (raise (State.wr u P.log F.LOG_EXP_STAT_RESULT r) P.log 0).rd P.log
      F.LOG_EXP_STAT_BUSY = 0 := fun u r h => (rd_raise _ _ _ _ _ (by decide)).trans ((rd_wr_apart _ _ rfl).trans h)
  refine ⟨_, exec_of_guard rfl (by simp [ha, hb]), ?_⟩
  dsimp only
  cases ok
  · rw [if_neg (by decide)]
    refine ⟨?_, ?_⟩
    · refine (rd_raise _ _ _ _ _ (by decide)).trans ((rd_wr_apart _ _ rfl).trans ?_)
      exact ((flashUnknown_keeps ..).rd _ _ rfl).trans (rd_wr_same ..)
    · exact (rd_raise _ _ _ _ _ (by decide)).trans (rd_wr_same ..)
  · have hl : ∀ (l : List LogEnt) u, (l.foldl logFlash u).rd P.log F.LOG_EXP_STAT_BUSY = State.rd u P.log F.LOG_EXP_STAT_BUSY := by
      intro l
      induction l with
      | nil => exact fun _ => rfl
      | cons x r ih =>
        intro u
        refine (ih (logFlash u x)).trans ?_
        exact (rd_wr_apart _ _ rfl).trans (logFlash_old u x)
    rw [if_pos rfl]
    refine ⟨?_, ?_⟩
    · refine (rd_raise _ _ _ _ _ (by decide)).trans ((rd_wr_apart _ _ rfl).trans ?_)
      exact (hl ..).trans (rd_wr_same ..)
    · exact (rd_raise _ _ _ _ _ (by decide)).trans (rd_wr_same ..)

/-- BB_CTRL is its operation with the fields written. -/
theorem MayWrite.bbCtrl_eq {s : State} {who : By} {kind : Nat} (hw : MayWrite s who P.mgmt 0x078) (arg : Nat) (hk : kind < 16) :
    exec (.bbCtrl who kind arg) s = .next (bbCtrl (dropArms s P.mgmt) kind (arg % 65536)) := by
  have hword : mkWord [(F.MGMT_BB_CTRL_KIND, kind), (F.MGMT_BB_CTRL_ARG, arg)] = kind * 2 ^ 28 + arg % 2 ^ 16 := by
    show 0 + kind % 2 ^ 4 * 2 ^ 28 + arg % 2 ^ 16 * 2 ^ 0 = _
    omega
  have hkind : (kind * 2 ^ 28 + arg % 2 ^ 16) / 2 ^ 28 % 16 = kind := by omega
  have harg : (kind * 2 ^ 28 + arg % 2 ^ 16) % 2 ^ 16 = arg % 65536 := by omega
  have he : ∀ (t : State) w, effMgmt t who.ini 0x078 w = bbCtrl t (w / 2 ^ 28 % 16) (w % 2 ^ 16) := fun t w => by
    unfold effMgmt
    rw [if_neg (by decide), if_neg (by decide), if_neg (by decide), if_neg (by decide), if_neg (by decide), if_pos rfl]
  show Host.Outcome.next (busStore ..) = _
  rw [hw.mgmt_eq _ (by decide) (by decide) (by decide), hword, he, hkind, harg]

/-- Settles O18. -/
theorem powerDomainsSensorsAndBlackBox : Obligations.PowerDomainsSensorsAndBlackBox := by
  refine ⟨fun s who m hw hm hc => ?pwr, fun s d ha hs hb hd h10 => ?off, fun s d mv ha hd hv => ?volt, fun s k v ha hk hv => ?temp,
    fun s who v hw => ?append, fun s who hw hb hf hd => ?exp, fun s ok ha hb => exec_logExportDone ok ha hb,
    fun s who kind arg hw hk hn => ?bb, fun s k a hw hr => ?written, fun s ha hi hr => ?iso⟩
  case pwr =>
    have he : exec (.pwrCtrlWrite who m) s = .next (pwrCtrl (dropArms s P.mgmt) m) := by
      show Host.Outcome.next (busStore ..) = _
      rw [hw.trigger_of_fieldOk _ (by decide) ?_ (.inl (by decide)) (by decide), Nat.mod_eq_of_lt hm]
      · have ht : pageType P.mgmt = some .mgmt := by decide
        unfold writeEffect
        rw [if_neg (by decide), ht]
        dsimp only
        rw [effMgmt, if_pos rfl, Nat.mod_eq_of_lt hm]
      · rw [Nat.mod_eq_of_lt hm]
        exact fieldOk_pwrCtrl hc who
    exact ⟨_, he, pwrCtrl_holds ..⟩
  case off =>
    have hd10 : d - 1 < F.MGMT_PWR_STAT_ON.width := by
      show d - 1 < 10
      omega
    refine ⟨_, exec_of_guard rfl (by rw [hs, ha, hb, hd]; rfl), ?_, ?_⟩
    · refine ((raise_keeps ..).bit _ _ _ rfl).trans ?_
      refine ((canOut_keeps _).bit _ _ _ rfl).trans ?_
      rw [bit_setBit _ _ _ _ _ _ hd10, if_pos rfl]
    · rw [(raise_keeps ..).mgmt rfl]
      simp
  case volt =>
    have hkeep : ∀ (u : State) a b c (f : Fld), regGroup ⟨P.sens, f.off, f.lsb, 0⟩ = 80 →
        (hubLog (raise u P.sens 2) 4 a b c).bit P.sens f d = u.bit P.sens f d := fun u a b c f hg =>
      ((hubLog_keeps ..).bit _ _ _ (by rw [hg]; rfl)).trans ((raise_keeps ..).bit _ _ _ (by rw [hg]; rfl))
    have hset : ∀ (u : State) (f : Fld), d < f.width → (u.setBit P.sens f d true).bit P.sens f d = true := fun u f h => by
      rw [bit_setBit _ _ _ _ _ _ h, if_pos rfl]
    refine ⟨_, exec_of_guard rfl (by simp [ha, hd]), fun hi => ?_, fun hi => ?_⟩
    · dsimp only
      rw [if_pos (by simp [hi]), if_pos (by simpa using hi), hkeep _ _ _ _ _ rfl]
      exact hset _ _ hd
    · have hlo : mv < s.rd P.sens (F.SENSORS_VLIM_UV d) := hv.resolve_left (by omega)
      dsimp only
      rw [if_pos (by simp [hlo]), if_neg (by simpa using hi), hkeep _ _ _ _ _ rfl]
      exact hset _ _ hd
  case temp => exact ⟨_, exec_of_guard rfl (by simp [ha, hk]), tempReading_crit s hk hv⟩
  case append =>
    have he : exec (.logAppend who v) s = .next (logAppend (dropArms s P.log) (iniIdx who.ini) (v % 2 ^ 32)) := by
      show Host.Outcome.next (busStore ..) = _
      rw [hw.log_eq _ (by decide) (by decide) (by decide), effLog, if_pos rfl]
    exact ⟨_, he, logAppend_counts ..⟩
  case exp =>
    have he : exec (.logExport who) s = .next (logExport (dropArms s P.log)) := by
      show Host.Outcome.next (busStore ..) = _
      rw [hw.log_eq _ (by decide) (by decide) (by decide), effLog, if_neg (by decide), if_pos (by decide)]
    refine ⟨_, he, ?_⟩
    exact logExport_starts hb hf hd
  case bb =>
    have he := hw.bbCtrl_eq arg (show kind < 16 by omega)
    refine ⟨_, he, ?_⟩
    rw [bbCtrl, if_pos ⟨hk, by simp [dropArms, hn]⟩]
    exact ⟨by rw [Nat.mod_mod], rfl⟩
  case written =>
    have he : ∃ t, exec .blackBoxWritten s = .next t ∧ t.ao.writing = none ∧ t.ao.bb.valid = true ∧ t.ao.bb.kind = k ∧ t.ao.bb.arg = a := by
      show ∃ t, execBlackBoxWritten s = .next t ∧ _
      unfold execBlackBoxWritten
      rw [hw]
      dsimp only
      rw [if_pos hr]
      have hraise : ∀ u : State, (if u.alive = true then raise u P.mgmt 1 else u).ao = u.ao := fun u => by
        split
        · exact (raise_keeps ..).ao rfl
        · rfl
      have hwarm : ∀ u : State, (if u.node.resetWait = true then warmReset u else u).ao = u.ao := fun u => by
        split
        · exact (warmReset_keeps u).ao rfl
        · rfl
      refine ⟨_, rfl, ?_⟩
      rw [hwarm, hraise]
      exact ⟨rfl, rfl, rfl, rfl⟩
    exact he
  case iso =>
    have hn := requestWarm_node (s := { s with node := { s.node with isoRecord := false } }) (k := RC.isolate)
      fun h => absurd h (by decide)
    refine ⟨_, exec_of_guard rfl (by simp [ha, hi, hr]), ?_⟩
    rw [hn]
    exact ⟨rfl, List.mem_append_right _ (List.mem_singleton.mpr rfl)⟩
end Sys2Proof.Machine
end

section
/-!
PROOF. Register accesses (R9, R30, R31, R38), writes to TIME, HALO, PUB, TXN and EVENTC.
-/

namespace Sys2Proof.Machine

/-! ## A counterexample to a write that leaves for a field-die page -/

/-- The access that leaves for an offset beyond the page names the page that the address falls into: FDIE's own page at 0x1000 is the
page after it. -/
theorem registerWrite_beyond_page :
    (match exec (.registerWrite ⟨4, 0⟩ P.fdie 0x1000 0) {} with
      | .next t => t.stitch.access
      | _ => []) = [(4, P.fdie + 1, 0, some 0)] := by decide +kernel

/-- Refutes O20: a REGISTER_WRITE to the offset 0x1000 of FDIE is not in flight to that page and offset, but to the page after it. -/
theorem not_registerAccess : ¬ Obligations.RegisterAccess := by
  rintro ⟨h, -⟩
  obtain ⟨t, he, -, ha⟩ := h {} ⟨4, 0⟩ P.fdie 0x1000 0 (by decide +kernel) (by decide) (by decide)
  have hx := registerWrite_beyond_page
  rw [he] at hx
  exact absurd (ha.symm.trans hx) (by decide +kernel)

/-! ## Writes to TIME and HALO -/

/-- A write to a register of triggers of a block's own offsets is the operation of the block. -/
theorem MayWrite.block {s : State} {who : By} {page off : Nat} (h : MayWrite s who page off) (word : Nat)
    (ht : triggerReg page off = true) (hc : (regFields page off).all (noCondition page) = true) (ho : 0x040 ≤ off)
    (hs : (page == P.sestx && off == 0x044) = false ∨ who.ini ≠ 8) {t : State}
    (he : writeEffect (dropArms s page) (dropArms s page) who page off word = t) :
    busStore s who page off word = t := by
  rw [h.trigger word ht hc hs (by simp; omega), he]

/-- At the Zenith with every slot free, a command with an ARG in its range is issued (R106). -/
theorem issueCmd_issues {s : State} {code eff arg : Nat} (hz : s.role = 1 ∧ s.time.src.orig = true)
    (he : s.tick + 1 + s.rd P.time F.TIME_CMD_LEAD_LEAD ≤ eff) (hf : ∀ k < 4, (s.time.slots.getD k {}).code = 0)
    (ha : cmdArgOk code arg = true) (hk : cmdKnown code = true) :
    (issueCmd s code eff arg).rd P.time F.TIME_CMD_STAT_RESULT = 1 ∧ (issueCmd s code eff arg).rd P.time F.TIME_CMD_STAT_CAUSE = 0 := by
  have hcode : code ≠ 0 := by
    rintro rfl
    exact absurd hk (by decide)
  have hall : (((List.range 4).map fun k => s.time.slots.getD k {}).all fun c => c.code != 0) = false := by
    simp only [List.all_map, List.all_eq_false, List.mem_range, Function.comp_apply]
    exact ⟨0, by decide, by rw [hf 0 (by decide)]; decide⟩
  have hany : (((List.range 4).map fun k => s.time.slots.getD k {}).any fun c => c.code == code && code != 0 && decide (eff ≤ c.eff)) = false := by
    simp only [List.any_map, List.any_eq_false, List.mem_range, Function.comp_apply]
    intro k hk4
    rw [hf k hk4, beq_false_of_ne (Ne.symm hcode), Bool.false_and, Bool.false_and]
    exact Bool.false_ne_true
  unfold issueCmd
  dsimp only
  rw [if_neg (by simp [hz]), if_neg (by omega), if_neg (ne_true_of_eq_false hall), if_neg (ne_true_of_eq_false hany), if_neg (by simp [ha]),
    if_neg (by simp [hk])]
  exact ⟨(rd_wr_apart _ _ rfl).trans (rd_wr_same ..), rd_wr_same ..⟩

/-- A plain register: nothing happens before its fields change, and none of them names a queue. -/
def plainReg (page off : Nat) : Bool :=
  (pageRow page).isSome && registerAt page off && !pioProgram page off &&
    !(decide (0x011 ≤ page ∧ page ≤ 0x018) && off == 0x090) && !(decide (0x011 ≤ page ∧ page ≤ 0x01E) && decide (0x0F4 ≤ off)) &&
    !(page == P.capt && decide (0x100 ≤ off)) && !(page == P.txn && off == 0x058) && !(page == P.sestx && off == 0x044) &&
    ((regFields page off).all fun f => noCondition page f)

/-- A write to a plain register stores its fields; then the block acts on it. -/
theorem MayWrite.plain {s : State} {who : By} {page off : Nat} (h : MayWrite s who page off) (word : Nat)
    (hp : plainReg page off = true) (ho : off ≠ 0x038) :
    busStore s who page off word = writeEffect (dropArms s page)
      ((regFields page off).foldl (fun t f => storeField t who page f word) (dropArms s page)) who page off word := by
  simp only [plainReg, Bool.and_eq_true, Bool.not_eq_true', List.all_eq_true] at hp
  obtain ⟨⟨⟨⟨⟨⟨⟨⟨hrow, hreg⟩, hpio⟩, hshape⟩, hmeter⟩, hcapt⟩, htxn⟩, hses⟩, hc⟩ := hp
  rw [h.busStore_eq word ho hrow hreg htxn (fun f hf => fieldOk_of_noCondition (hc f hf) ..) (.inl hses)]
  simp only [Bool.and_eq_false_iff, beq_eq_false_iff_ne, decide_eq_false_iff_not] at hshape hmeter hcapt
  have hbefore : beforeWrite (dropArms s page) page off word = dropArms s page := by
    unfold beforeWrite
    rw [if_neg (by omega), if_neg (by omega), if_neg (by
      rintro ⟨h, h', _⟩
      rcases hcapt with hcapt | hcapt
      · exact hcapt h
      · exact hcapt h')]
  have hbind : ∀ t, bindQueues (dropArms s page) t who page off = t := fun t => by
    refine foldl_id _ _ _ fun f hm => ?_
    have hn := hc f hm
    simp only [noCondition, Bool.and_eq_true, Option.isNone_iff_eq_none] at hn
    obtain ⟨⟨⟨⟨⟨hn, _⟩, _⟩, _⟩, _⟩, _⟩ := hn
    rw [hn]
  unfold applyWrite
  dsimp only
  rw [hbefore, hbind, storeWord, if_neg (by simp [hpio])]

/-- A read-write field stores what is written. -/
theorem storeField_rw {s : State} {who : By} {page : Nat} {f : Fld} {word : Nat} (ha : f.acc = .rw)
    (hn : (absentField page f || ownStore page f || fixedField s page f) = false) :
    storeField s who page f word = s.wri page f (bankIdx s who page f) (storeValue page f (fbits word f)) := by
  unfold storeField
  dsimp only
  rw [if_neg (by simp [hn]), ha]

/-- Settles O21. -/
theorem timeRegisterWrites : Obligations.TimeRegisterWrites := by
  refine ⟨fun s who m hw hi hm hb hp hc => ?done, fun s who hw hz he hf hcode => ?go, fun s who v hw hz hf hv => ?line,
    fun s who g x hw hg hx => ?sel⟩
  case done =>
    refine ⟨_, hw.coreDone_eq hm (.inl rfl), ?_⟩
    rw [effTime_coreDone, if_pos ⟨hi, hb⟩]
    refine (bit_coreDone_of_early ?_ ?_ who.ini (by omega)).trans (by simp)
    · exact hp
    · exact hc
  case go =>
    have hx : exec (.cmdGo who) s = .next (issueCmd (dropArms s P.time) (s.rd P.time F.TIME_CMD_CODE_CODE)
        (s.rd64 P.time F.TIME_CMD_EFF_LO_E F.TIME_CMD_EFF_HI_E) (s.rd64 P.time F.TIME_CMD_ARG_LO_ARG F.TIME_CMD_ARG_HI_ARG)) := by
      refine congrArg Host.Outcome.next (hw.block _ (by decide) (by decide) (by decide) (.inl rfl) ?_)
      rw [writeEffect_time _ _ _ (by decide), effTime, if_neg (by decide), if_pos rfl, if_pos (by decide)]
      rfl
    refine ⟨_, hx, issueCmd_issues hz he hf ?_ ?_⟩
    · obtain ⟨h1, -⟩ := hcode
      rw [cmdArgOk, if_neg (by omega), if_neg (by omega), if_neg (by omega)]
    · simp only [cmdKnown, Bool.or_eq_true, decide_eq_true_eq]
      omega
  case line =>
    have hx : exec (.lineReq who v) s = .next (issueCmd (dropArms s P.time) 1 (s.tick + 1 + s.rd P.time F.TIME_CMD_LEAD_LEAD) (v % 4 % 4)) := by
      refine congrArg Host.Outcome.next (hw.block _ (by decide) (by decide) (by decide) (.inl rfl) ?_)
      rw [writeEffect_time _ _ _ (by decide), effTime, if_neg (by decide), if_neg (by decide), if_neg (by decide),
        if_neg (by decide), if_pos rfl]
      rfl
    refine ⟨_, hx, issueCmd_issues hz (Nat.le_refl _) hf ?_ (by decide)⟩
    rw [cmdArgOk, if_pos rfl, bne_iff_ne]
    omega
  case sel =>
    have hword : mkWord [(F.HALO_ENTRY_SEL_GROUP, g), (F.HALO_ENTRY_SEL_SRC, x)] = g * 2 ^ 12 + x := by
      show 0 + g % 2 ^ 1 * 2 ^ 12 + x % 2 ^ 12 * 2 ^ 0 = _
      omega
    have hregs : regFields P.halo 0x058 = [F.HALO_ENTRY_SEL_GROUP, F.HALO_ENTRY_SEL_SRC] := by decide
    have hst : ∀ (t : State) w, (f : Fld) → f.acc = .rw → (absentField P.halo f || ownStore P.halo f || fixedField t P.halo f) = false →
        storeField t who P.halo f w = t.wr P.halo f (fbits w f) := fun t w f ha hn => by
      rw [storeField_rw ha hn]
      rfl
    have hex : exec (.entrySel who g x) s = .next (((dropArms s P.halo).wr P.halo F.HALO_ENTRY_SEL_GROUP g).wr P.halo F.HALO_ENTRY_SEL_SRC x) := by
      refine congrArg Host.Outcome.next ?_
      have hm : pageType P.halo = some .halo := by decide
      rw [hw.plain _ (by decide) (by decide), hregs]
      simp only [List.foldl_cons, List.foldl_nil]
      rw [hst _ _ _ rfl rfl, hst _ _ _ rfl rfl, writeEffect, if_neg (by decide), hm]
      dsimp only
      rw [if_neg fun h => absurd h.1 (by decide), hword]
      congr 2
      · show (g * 2 ^ 12 + x) / 2 ^ 12 % 2 ^ 1 = g
        omega
      · show (g * 2 ^ 12 + x) / 2 ^ 0 % 2 ^ 12 = x
        omega
    refine ⟨_, hex, ?_, ?_⟩
    · rw [rd_wr_same]
      exact Nat.mod_eq_of_lt hx
    · rw [rd_wr_apart _ _ rfl, rd_wr_same]
      exact Nat.mod_eq_of_lt hg

/-! ## Writes to PUB, TXN and EVENTC -/

theorem readyBits_raise (s : State) (k : Nat) : readyBits (raise s P.pub k) = readyBits s := by
  unfold readyBits State.rd64
  rw [rd_raise _ _ _ _ _ (by decide), rd_raise _ _ _ _ _ (by decide)]

theorem readyBits_pubCount (s : State) (f : Fld) (k : Nat) (hl : keyApart P.pub F.PUBLISH_READY_LO_CH P.pub f = true)
    (hh : keyApart P.pub F.PUBLISH_READY_HI_CH P.pub f = true) : readyBits (pubCount s f k) = readyBits s := by
  unfold pubCount
  rw [readyBits_raise]
  unfold State.when
  split
  · unfold readyBits State.rd64
    rw [rd_inc_apart _ _ hl, rd_inc_apart _ _ hh]
  · rfl

/-- The READY bits hold what is set, as far as there are channels. -/
theorem readyBits_setReady (s : State) (v : Nat) {c : Nat} (hc : c < 64) : bitOf (readyBits (setReady s v)) c = bitOf v c := by
  have hr : readyBits (setReady s v) = v % 2 ^ 64 := by
    unfold readyBits setReady State.rd64 State.wr64
    rw [rd_wr_apart _ _ rfl, rd_wr_same, rd_wr_same, show F.PUBLISH_READY_LO_CH.width = 32 from rfl,
      show F.PUBLISH_READY_HI_CH.width = 32 from rfl]
    omega
  rw [hr, bitOf_mod, decide_eq_true hc, Bool.true_and]

/-- One channel of a write to READY_LO or READY_HI (R186). -/
def readyStep (m : Nat) (t : State) (c : Nat) : State :=
  if bitOf m c && !bitOf (readyBits t) c then
    let t := setReady t (readyBits t + 2 ^ c)
    if firmwareChan t c && (t.time.pastC || decide (commitAt t ≤ t.now)) then
      pubCount { t with pub := { t.pub with late := withBit t.pub.late c } } F.PUBLISH_CNT_READY_LATE_N 0
    else t
  else t

theorem bitOf_add_two_pow {v c : Nat} (h : bitOf v c = false) (d : Nat) : bitOf (v + 2 ^ c) d = (bitOf v d || c == d) := by
  rw [bitOf_eq_testBit] at h
  rw [bitOf_eq_testBit, bitOf_eq_testBit]
  rcases Nat.lt_trichotomy d c with hd | rfl | hd
  · rw [Nat.add_comm, Nat.testBit_two_pow_add_gt hd, beq_false_of_ne (Ne.symm (Nat.ne_of_lt hd)), Bool.or_false]
  · rw [Nat.add_comm, Nat.testBit_two_pow_add_eq, h, beq_self_eq_true]
    rfl
  · have heven : v / 2 ^ c % 2 = 0 := by
      rw [Nat.testBit_eq_decide_div_mod_eq, decide_eq_false_iff_not] at h
      omega
    have hsplit : ∀ b < 2, (2 ^ (c + 1) * (v / 2 ^ c / 2) + (v % 2 ^ c + 2 ^ c * b)).testBit d = (v / 2 ^ c / 2).testBit (d - (c + 1)) :=
      fun b hb => by
        have hlt : v % 2 ^ c + 2 ^ c * b < 2 ^ (c + 1) := by
          have := Nat.mod_lt v (Nat.two_pow_pos c)
          have : 2 ^ c * b ≤ 2 ^ c * 1 := Nat.mul_le_mul_left _ (by omega)
          rw [Nat.pow_succ]
          omega
        rw [Nat.testBit_two_pow_mul_add _ hlt, if_neg (by omega)]
    have hv : 2 ^ (c + 1) * (v / 2 ^ c / 2) + v % 2 ^ c = v := by
      have hdiv := Nat.div_add_mod v (2 ^ c)
      have htwo : 2 * (v / 2 ^ c / 2) = v / 2 ^ c := by omega
      rw [Nat.pow_succ, Nat.mul_assoc, htwo, hdiv]
    have h0 := hsplit 0 (by decide)
    have h1 := hsplit 1 (by decide)
    rw [Nat.mul_zero, ← Nat.add_assoc, Nat.add_zero, hv] at h0
    rw [Nat.mul_one, ← Nat.add_assoc, hv] at h1
    rw [h0, h1, beq_false_of_ne (Nat.ne_of_lt hd), Bool.or_false]

/-- A channel's step sets its own bit where it is written, and clears none. -/
theorem readyStep_bit (m : Nat) (t : State) {c d : Nat} (hd : d < 64) :
    bitOf (readyBits (readyStep m t c)) d = (bitOf (readyBits t) d || (c == d && bitOf m d)) := by
  have hlate : ∀ (u : State) (p : PubSt), readyBits (pubCount { u with pub := p } F.PUBLISH_CNT_READY_LATE_N 0) = readyBits u :=
    fun u p => (readyBits_pubCount _ _ _ rfl rfl).trans rfl
  unfold readyStep
  dsimp only
  split
  · rename_i h
    simp only [Bool.and_eq_true, Bool.not_eq_true'] at h
    obtain ⟨hm, hb⟩ := h
    have hset : bitOf (readyBits (setReady t (readyBits t + 2 ^ c))) d = (bitOf (readyBits t) d || (c == d && bitOf m d)) := by
      rw [readyBits_setReady _ _ hd, bitOf_add_two_pow hb]
      by_cases hcd : c = d
      · subst hcd; simp [hm]
      · rw [beq_false_of_ne hcd, Bool.false_and]
    split
    · rw [hlate, hset]
    · exact hset
  · rename_i h
    simp only [Bool.and_eq_true, Bool.not_eq_true', not_and, Bool.not_eq_false] at h
    by_cases hcd : c = d
    · subst hcd
      cases hm : bitOf m c
      · simp
      · simp [h hm]
    · simp [hcd]

/-- READY bits written with 1 are set (R186). -/
theorem readyWrite_bit (s : State) {m c : Nat} (hc : c < 64) (hm : bitOf m c = true) : bitOf (readyBits (readyWrite s m)) c = true := by
  have hf : ∀ (l : List Nat) (t : State), bitOf (readyBits (l.foldl (readyStep m) t)) c =
      (bitOf (readyBits t) c || (l.any (· == c) && bitOf m c)) := by
    intro l
    induction l with
    | nil => simp
    | cons x r ih =>
      intro t
      rw [List.foldl_cons, ih, readyStep_bit _ _ hc, List.any_cons]
      cases bitOf (readyBits t) c <;> cases (x == c) <;> simp
  have := hf (List.range 64) s
  show bitOf (readyBits ((List.range 64).foldl (readyStep m) s)) c = true
  rw [this, hm]
  simp [hc]

/-- An accepted write of EVOUT is an event that leaves or arrives (R226). -/
theorem MayWrite.evout_eq {s : State} {who : By} (h : MayWrite s who P.txn 0x058) (word : Nat) :
    busStore s who P.txn 0x058 word =
      (evout (dropArms s P.txn) who.ini (word / 2 ^ 20 % 4096) (word / 2 ^ 16 % 16) (word % 2 ^ 16)).2 := by
  have hw := h.taken word (armedFor s who P.txn) (by decide)
    (fun f hf => fieldOk_of_noCondition (List.all_eq_true.mp (by decide : (regFields P.txn 0x058).all (noCondition P.txn) = true) f hf) ..)
    (.inl (by decide))
  have ha := h.alive
  simp only [State.alive, Bool.and_eq_true, Bool.not_eq_true', bne_iff_ne, ne_eq] at ha
  obtain ⟨⟨⟨h1, h2⟩, h3⟩, h4⟩ := ha
  unfold busStore busWrite
  rw [if_neg (by simp [h1, h2, h3]), if_neg h4, if_neg (by simp [h.tap]), if_neg (by decide), if_neg (by
    intro x
    exact absurd (Bool.and_eq_true_iff.mp x).1 (by decide))]
  dsimp only
  rw [if_neg (by decide), hw]
  rfl

/-- An event that arrives is shown in its EVIN register (R228). -/
theorem eventIn_shows (s : State) {src k v : Nat} (hs : src < 4096) (hk : k < 16) (hv : v < 65536) :
    (eventIn s src k v).rd P.txn (F.TXN_EVIN_SRC k) = src ∧ (eventIn s src k v).rd P.txn (F.TXN_EVIN_VALUE k) = v := by
  have hkey : ∀ l, evKey ⟨P.txn, (F.TXN_EVIN_SRC k).off, l, 0⟩ = false := fun l => by
    interval_cases k <;> rfl
  unfold eventIn
  dsimp only
  constructor
  · rw [rd_raise _ _ _ _ _ (hkey _), rd_wr_apart _ _ (by simp [keyApart, F.TXN_EVIN_SRC, F.TXN_EVIN_VALUE]), rd_wr_same]
    exact Nat.mod_eq_of_lt hs
  · rw [rd_raise _ _ _ _ _ (by exact hkey _), rd_wr_same]
    exact Nat.mod_eq_of_lt hv

/-- What each step of a fold establishes for its own element, and none undoes for another, holds of every element at the end. -/
theorem foldl_establishes {β : Type} {f : State → β → State} {q : State → β → Prop} (hkeep : ∀ t a b, q t b → q (f t a) b) (l : List β)
    (hmake : ∀ t, ∀ a ∈ l, q (f t a) a) (s : State) : ∀ b ∈ l, q (l.foldl f s) b := by
  have hstay : ∀ (r : List β) t b, q t b → q (r.foldl f t) b := by
    intro r
    induction r with
    | nil => exact fun _ _ h => h
    | cons a r ih => exact fun t b h => ih _ _ (hkeep t a b h)
  induction l generalizing s with
  | nil => exact fun b hb => absurd hb List.not_mem_nil
  | cons a r ih =>
    intro b hb
    rcases List.mem_cons.mp hb with rfl | hb
    · exact hstay r _ _ (hmake s _ List.mem_cons_self)
    · exact ih (fun t c hc => hmake t c (List.mem_cons_of_mem _ hc)) _ b hb

/-- Software events whose bit is written are asserted (R524). -/
theorem swevSet_bit (s : State) {m i : Nat} (hi : i < 24) (hm : bitOf m i = true) :
    (swevSet s m).bit P.ev3 F.EVENTC_SWEV_EV i = true := by
  have hrise : ∀ (t : State) src k, (rise 40 t src).bit P.ev3 F.EVENTC_SWEV_EV k = t.bit P.ev3 F.EVENTC_SWEV_EV k :=
    fun t src k => congrArg (bitOf · k) ((rise_raised 40 t src).regs.rd _ _ (by decide))
  have hset : ∀ (t : State) a b, b < 24 → (t.setBit P.ev3 F.EVENTC_SWEV_EV a true).bit P.ev3 F.EVENTC_SWEV_EV b =
      if b = a then true else t.bit P.ev3 F.EVENTC_SWEV_EV b := fun t a b hb => bit_setBit _ _ _ _ _ _ hb
  unfold swevSet State.each
  refine foldl_establishes (q := fun t j => j < 24 → bitOf m j = true → t.bit P.ev3 F.EVENTC_SWEV_EV j = true) ?keep _ ?make s i
    (List.mem_range.mpr hi) hi hm
  case keep =>
    intro t a b hq hb hmb
    split
    · rw [hrise, hset _ _ _ hb]
      split
      · rfl
      · exact hq hb hmb
    · exact hq hb hmb
  case make =>
    intro t a _ ha hma
    split
    · rw [hrise, hset _ _ _ ha, if_pos rfl]
    · rename_i hn
      simpa [hma] using hn

/-- Settles O22. -/
theorem publicationAndTransactionWrites : Obligations.PublicationAndTransactionWrites := by
  refine ⟨fun s who hi m c hw hc hm hb => ?ready, fun s who hw => ?pop, fun s who d k v hw hd hk hv ho => ?evout,
    fun s k who n hw hk hn => ?complete, fun s who m i hw hi hb => ?swev⟩
  case ready =>
    have hm' : m % 2 ^ 32 = m := Nat.mod_eq_of_lt hm
    have ht : pageType P.pub = some .publish := by decide
    have hpub : ∀ t w, writeEffect t t who P.pub 0x044 w = readyWrite t w ∧ writeEffect t t who P.pub 0x048 w = readyWrite t (w % 2 ^ 32 * 2 ^ 32) :=
      fun t w => by
        constructor
        · rw [writeEffect, if_neg (by decide), ht]
          rfl
        · rw [writeEffect, if_neg (by decide), ht]
          rfl
    cases hi
    · have he : exec (.pubReady who false m) s = .next (readyWrite (dropArms s P.pub) m) := by
        refine congrArg Host.Outcome.next (MayWrite.block (off := 0x044) hw _ (by decide) (by decide) (by decide) (.inl rfl) ?_)
        rw [hm', (hpub _ _).1]
      exact ⟨_, he, readyWrite_bit _ (Nat.lt_trans hc (by decide)) hb⟩
    · have he : exec (.pubReady who true m) s = .next (readyWrite (dropArms s P.pub) (m * 2 ^ 32)) := by
        refine congrArg Host.Outcome.next (MayWrite.block (off := 0x048) hw _ (by decide) (by decide) (by decide) (.inl rfl) ?_)
        rw [hm', (hpub _ _).2, hm']
      refine ⟨_, he, readyWrite_bit _ (by rw [if_pos rfl]; omega) ?_⟩
      rw [bitOf_eq_testBit] at hb ⊢
      rw [if_pos rfl, Nat.testBit_mul_two_pow, Nat.add_sub_cancel_left, hb]
      simp
  case pop =>
    have he : exec (.orphPop who) s = .next (orphPop (dropArms s P.txn)) :=
      congrArg Host.Outcome.next (hw.block _ (by decide) (by decide) (by decide) (.inl rfl) rfl)
    exact ⟨_, he, rfl, rfl⟩
  case evout =>
    obtain ⟨hv1, hown⟩ := ho
    have hword : mkWord [(F.TXN_EVOUT_DST, d), (F.TXN_EVOUT_K, k), (F.TXN_EVOUT_VALUE, v)] = d * 2 ^ 20 + k * 2 ^ 16 + v := by
      show 0 + d % 2 ^ 12 * 2 ^ 20 + k % 2 ^ 4 * 2 ^ 16 + v % 2 ^ 16 * 2 ^ 0 = _
      omega
    have he : exec (.evout who d k v) s = .next (eventIn (dropArms s P.txn) d k v) := by
      refine congrArg Host.Outcome.next ((hw.evout_eq _).trans ?_)
      rw [hword, show (d * 2 ^ 20 + k * 2 ^ 16 + v) / 2 ^ 20 % 4096 = d by omega,
        show (d * 2 ^ 20 + k * 2 ^ 16 + v) / 2 ^ 16 % 16 = k by omega, show (d * 2 ^ 20 + k * 2 ^ 16 + v) % 2 ^ 16 = v by omega]
      unfold evout
      rw [if_pos (by
        rw [Bool.and_eq_true, beq_iff_eq]
        exact ⟨hv1, hown⟩)]
      rw [show k % 16 = k by omega, show v % 2 ^ 16 = v by omega]
    exact ⟨_, he, eventIn_shows _ hd hk hv⟩
  case complete =>
    have he : exec (.complete k who n) s = .next (routerComplete (dropArms s P.ev3) k n) := by
      show Host.Outcome.next (if k < 5 then busStore s who P.ev3 (0x044 + 8 * k) (n % 512) else s) = _
      rw [if_pos hk]
      refine congrArg Host.Outcome.next (hw.block _ ?_ ?_ (by omega) (.inl rfl) ?_)
      · interval_cases k <;> decide
      · interval_cases k <;> decide
      · have hm : pageType P.ev3 = some .event := by decide
        rw [writeEffect, if_neg (by omega), hm]
        dsimp only
        rw [effEvent, if_neg (by decide), if_pos (by omega), show (0x044 + 8 * k - 0x044) / 8 = k by omega,
          show n % 512 % 512 = n by omega]
    exact ⟨_, he, rfl, rfl⟩
  case swev =>
    have he : exec (.swevSet who m) s = .next (swevSet (dropArms s P.ev3) (m % 2 ^ 24)) :=
      congrArg Host.Outcome.next (hw.block _ (by decide) (by decide) (by decide) (.inl rfl) (by
        show swevSet _ (m % 2 ^ 24 % 2 ^ 24) = _
        rw [Nat.mod_mod]))
    refine ⟨_, he, swevSet_bit _ hi ?_⟩
    rw [bitOf_mod, decide_eq_true hi, hb]
    rfl

end Sys2Proof.Machine
end

section
/-!
PROOF. Queue commands and sessions: two counterexamples.
-/

namespace Sys2Proof.Machine

/-- A state with entries of registers written: page, field, entry, value. -/
def State.withRegs (s : State) (l : List (Nat × Fld × Nat × Nat)) : State := l.foldl (fun t e => t.wri e.1 e.2.1 e.2.2.1 e.2.2.2) s

/-! ## A queue that a FLUSH leaves filled -/

/-- A node in COMMISSION with the address 5 and a session from itself to itself: queue 112, of TYPE 2, holds an item that a session
has delivered; the receiving session 0 owes an ACK 16 messages on, and the sending session 0 retains the message 16. -/
def flushRefills : State :=
  { ({} : State).withRegs [(P.node, F.NODE_NODE_STATE_STATE, 0, NS.commission), (P.node, F.NODE_NODE_ADDR_VALID, 0, 1),
      (P.node, F.NODE_NODE_ADDR_ADDR, 0, 5), (P.queue 112, F.QUEUE_Q_CFG_TYPE 0, 0, 2), (P.queue 112, F.QUEUE_Q_CFG_CONSUMER 0, 0, 4),
      (P.sesrx, F.SESRX_RSES_CFG_EN, 0, 1), (P.sesrx, F.SESRX_RSES_CFG_SRC, 0, 5), (P.sesrx, F.SESRX_RSES_NEXT_MSEQ, 0, 16),
      (P.sestx, F.SESTX_SES_CFG_EN, 0, 1), (P.sestx, F.SESTX_SES_CFG_DST, 0, 5), (P.sestx, F.SESTX_SES_STAT_STATE, 0, 2),
      (P.sestx, F.SESTX_SES_NEXT_MSEQ, 0, 17)] with
    ses := {
      qs := [(112, { items := [{ arr := 1, prio := 0, src := 5, tag := 0, info := 5, mayDup := false, head := [], data := [1],
                                 n := 1, fin := 1, ses := true }] })]
      rx := [(0, { taken := true })]
      tx := [(0, { ret := [(16, [1])], unsent := 16 })] } }

theorem flushRefills_mayWrite : MayWrite flushRefills ⟨4, 0⟩ (P.queue 112) (0x114 + 0x40 * (112 % 16)) := by
  refine ⟨?_, ?_, ?_, ?_, ?_, ?_⟩ <;> decide +kernel

/-- FLUSH consumes the item, its ACK is due at once and reaches the sending session, whose next message the queue takes. -/
theorem flushRefills_refills :
    (match exec (.flush 112 ⟨4, 0⟩) flushRefills with
      | .next t => (queueSt t 112).items.length
      | _ => 0) = 1 := by decide +kernel

/-- Refutes O23: a FLUSH of a queue of TYPE 2 that holds a session's item can let the node's own session push the next message into
that queue, which is then not empty. -/
theorem not_queueCommands : ¬ Obligations.QueueCommands := by
  rintro ⟨-, -, -, -, -, -, -, h⟩
  obtain ⟨t, he, -, -, hq⟩ := h flushRefills 112 ⟨4, 0⟩ flushRefills_mayWrite (by decide) (by decide +kernel) (by decide +kernel)
    (by decide +kernel)
  have hempty := hq (by decide +kernel)
  have hone := flushRefills_refills
  rw [he] at hone
  dsimp only at hone
  rw [hempty] at hone
  exact absurd hone (by decide)

/-! ## A session on which a report waits -/

/-- A node in COMMISSION with the address 0: sending session 0 to node 9 is in SYNC and FRESH, and slot 0 holds a retired record of
its own whose report (R316) waits for that session. -/
def ackReleasesReport : State :=
  { ({} : State).withRegs [(P.node, F.NODE_NODE_STATE_STATE, 0, NS.commission), (P.sestx, F.SESTX_SES_CFG_EN, 0, 1),
      (P.sestx, F.SESTX_SES_CFG_DST, 0, 9), (P.sestx, F.SESTX_SES_STAT_STATE, 0, 1), (P.sestx, F.SESTX_SES_STAT_FRESH, 0, 1),
      (P.zones, F.ZONES_ZCFG_EN 0, 0, 1)] with
    drift := { recs := [(0, (Rec.s [] R.state RS.retired).seal)] } }

/-- The ACK of the receiver at node 9, whose next MSEQ is 9. -/
def ackOfNine : Frame := { typ := 6, src := 9, pay := [0, 0, 0, 9] }

/-- The report takes the MSEQ 9 as soon as the ACK has opened the session. -/
theorem ackReleasesReport_pushes :
    (match exec (.ack ackOfNine) ackReleasesReport with
      | .next t => t.tx F.SESTX_SES_NEXT_MSEQ 0
      | _ => 9) = 10 := by decide +kernel

/-- Refutes O24: an ACK opens the session with the receiver's NEXT, and a report of Drift that waits for it takes that MSEQ in the
same command. -/
theorem not_sendingSessions : ¬ Obligations.SendingSessions := by
  rintro ⟨-, -, -, -, -, h⟩
  obtain ⟨t, he, -, -, hn, -⟩ := h ackReleasesReport ackOfNine 0 (by decide +kernel) (by decide +kernel) rfl (by decide +kernel) (by decide)
    (by decide +kernel) (by decide +kernel) (.inl (by decide +kernel))
  have hten := ackReleasesReport_pushes
  rw [he] at hten
  exact absurd (hten.symm.trans hn) (by decide)
end Sys2Proof.Machine
end

section
/-!
PROOF. Handoff frames of Drift: the table of records, and a counterexample.
-/

namespace Sys2Proof.Machine

/-! ## The table of records -/

theorem length_filter_alInsert {κ α : Type} (lt : κ → κ → Bool) (p : κ × α → Bool) (t : List (κ × α)) (k : κ) (v : α) :
    ((alInsert lt t k v).filter p).length = (t.filter p).length + if p (k, v) then 1 else 0 := by
  induction t with
  | nil => unfold alInsert; by_cases h : p (k, v) = true <;> simp [h]
  | cons e r ih =>
    unfold alInsert
    split
    · by_cases h : p (k, v) = true <;> simp [h]
    · by_cases h : p e = true <;> simp [h, ih]; omega

theorem length_filter_alErase_le {κ α : Type} [DecidableEq κ] (p : κ × α → Bool) (t : List (κ × α)) (k : κ) :
    ((alErase t k).filter p).length ≤ (t.filter p).length := by
  rw [alErase_eq_filter, List.filter_comm]
  exact List.length_filter_le ..

/-- One more record makes at most one more in a state. -/
theorem recCount_recPut_le (s : State) (i : Nat) (r : Rec) (st : Nat) : recCount (recPut s i r) st ≤ recCount s st + 1 := by
  have herase : _ ≤ recCount s st := length_filter_alErase_le (α := Rec) _ s.drift.recs i
  unfold recCount recPut Tbl.put alSet
  dsimp only
  split
  · exact herase.trans (Nat.le_succ _)
  · rw [length_filter_alInsert]
    exact Nat.add_le_add herase (by split <;> decide)

theorem recCount_of_recs {s t : State} (h : t.drift.recs = s.drift.recs) (st : Nat) : recCount t st = recCount s st := by
  rw [recCount, h, recCount]

theorem resyncJudge_recs (s : State) : (resyncJudge s).drift.recs = s.drift.recs := by
  unfold resyncJudge
  split
  · rw [(driftEv_keeps _ 10).drift rfl]; rfl
  · rfl

theorem takeSlot_drift (s : State) : (takeSlot s).2.drift = s.drift := by
  unfold takeSlot; dsimp only; split <;> rfl

/-- Slot `i` set and filled by a copy: at most one more record in a state. -/
theorem recCount_putCopy_le (s : State) (i st : Nat) (r : Rec) (x : DriftSlot) (c : Nat) :
    recCount (putCopy (setDslot s i x) i st r) c ≤ recCount s c + 1 := recCount_recPut_le (endReqs (setDslot s i x) i) i _ c

/-! ## A slot that is listed twice -/

/-- A node in COMMISSION whose record table lists slot 5 twice, each time a mirror of item 0 whose CRC is wrong. -/
def slotListedTwice : State :=
  { ({} : State).withRegs [(P.node, F.NODE_NODE_STATE_STATE, 0, NS.commission)] with
    drift := { recs := [(5, Rec.s [] R.state RS.mirror), (5, Rec.s [] R.state RS.mirror)] } }

/-- A SET of item 0. -/
def setOfItem0 : Frame := { typ := 7, w4 := 0x7000000, pay := List.replicate 128 0 }

/-- Reading the damaged record makes it an ORPHAN, and its second entry goes. -/
theorem slotListedTwice_read :
    (findItem slotListedTwice (Rec.ofBytes setOfItem0.pay).id).1 = none ∧
      recCount (findItem slotListedTwice (Rec.ofBytes setOfItem0.pay).id).2 RS.mirror = 1 := by decide +kernel

/-- So one mirror goes where one comes. -/
theorem slotListedTwice_keeps_count : recCount (onSet slotListedTwice setOfItem0) RS.mirror ≤ 2 := by
  obtain ⟨hnone, hone⟩ := slotListedTwice_read
  unfold onSet
  dsimp only
  rw [hnone, recCount_of_recs (congrArg DriftSt.recs ((answerTo_keeps ..).drift rfl)), recCount_of_recs (resyncJudge_recs _)]
  dsimp only
  have hdrift := takeSlot_drift (findItem slotListedTwice (Rec.ofBytes setOfItem0.pay).id).2
  split
  · next i t he =>
    rw [he] at hdrift
    refine (recCount_putCopy_le ..).trans ?_
    rw [recCount_of_recs (congrArg DriftSt.recs hdrift), hone]
  · next t he =>
    rw [he] at hdrift
    rw [recCount_of_recs (congrArg DriftSt.recs hdrift), hone]
    decide

/-- Refutes O35: a SET of an item whose damaged mirror the table lists twice leaves the count of mirrors as it is. -/
theorem not_driftHandoffFrames : ¬ Obligations.DriftHandoffFrames := by
  rintro ⟨-, -, -, -, -, -, h⟩
  have htakes : driftTakes slotListedTwice setOfItem0 7 128 = true := by decide +kernel
  obtain ⟨t, he, hcount⟩ := h slotListedTwice setOfItem0 htakes slotListedTwice_read.1 (by decide +kernel)
  have hexec : exec (.driftSet setOfItem0) slotListedTwice = .next (onSet slotListedTwice setOfItem0) := exec_of_guard rfl htakes
  have hafter := slotListedTwice_keeps_count
  injection he.symm.trans hexec with ht
  rw [← ht] at hafter
  have hbefore : recCount slotListedTwice RS.mirror = 2 := by decide +kernel
  omega

end Sys2Proof.Machine
end

section
/-!
PROOF. The carousel: a counterexample.
-/

namespace Sys2Proof.Machine

/-- A node in DAWN whose download of 10,000 bytes is fed by a carousel of 3 blocks, none of them taken. -/
def carouselRuns : State :=
  { ({} : State).withRegs [(P.node, F.NODE_NODE_STATE_STATE, 0, NS.dawn)] with
    mgmt := { begun := some (0, 10000), carousel := some ⟨0, 10000, 3, []⟩ } }

/-- Block 1, with more bytes than the ROM takes at once. -/
def overlongBlock : Frame :=
  { typ := 0xC, mc := true, dst := 0xFFE, w3 := 0x200, w4 := 1, pay := List.replicate 4097 0 }

theorem overlongBlock_length : overlongBlock.pay.length = 4097 := List.length_replicate

/-- The ROM refuses a block of more than 4,096 bytes. -/
theorem carouselBlock_of_overlong {s : State} {c : Carousel} {b k len : Nat} {d : List Nat}
    (hnew : ¬(c.have'.contains b = true ∨ c.blocks ≤ b)) (hb : b ≠ 0) (hbegun : s.mgmt.begun = some (k, len))
    (hlong : dawnMax < d.length) : carouselBlock s c b d = s := by
  have hrange : dawnWrite s (2048 * b) d false = (DW.range, s) := by
    unfold dawnWrite
    rw [hbegun]
    exact if_pos (.inr (.inr (.inr hlong)))
  rw [carouselBlock, if_neg hnew, if_neg hb, hrange]
  exact if_neg (show ¬DW.range = DW.ok by decide)

theorem exec_bulkDistribution_block {s : State} {f : Frame} {c : Carousel}
    (htaken : (dawnOn s && f.typ == 0xC && f.mc && f.dst == 0xFFE && bitsOf f.w3 8 8 == 2) = true) (hblock : f.w4 ≠ 0xFFFFFFFF)
    (hcarousel : s.mgmt.carousel = some c) (hxfer : c.xfer = bitsOf f.w3 16 16) :
    exec (.bulkDistribution f false) s = .next (carouselBlock s c f.w4 f.pay) := by
  show execBulkDistribution f false s = _
  rw [execBulkDistribution, if_pos htaken, if_neg hblock, hcarousel]
  exact congrArg Host.Outcome.next (if_pos ⟨hxfer, rfl⟩)

/-- Refutes O59: a block of 4,097 bytes that fits the image is refused as too long, and not taken. -/
theorem not_fusesSignaturesAndDawn : ¬ Obligations.FusesSignaturesAndDawn := by
  rintro ⟨-, -, -, -, -, -, -, -, -, -, -, -, -, h⟩
  have hlong : dawnMax < overlongBlock.pay.length := by rw [overlongBlock_length]; decide
  have hfits : 2048 * overlongBlock.w4 + overlongBlock.pay.length ≤ 10000 := by rw [overlongBlock_length]; decide
  have hexec : exec (.bulkDistribution overlongBlock false) carouselRuns = .next carouselRuns := by
    rw [exec_bulkDistribution_block (c := ⟨0, 10000, 3, []⟩) (by decide +kernel) (by decide) rfl (by decide),
      carouselBlock_of_overlong (k := 0) (len := 10000) (by decide) (by decide) rfl hlong]
  obtain ⟨t, he, -, -, htaken⟩ := h carouselRuns overlongBlock false (by decide +kernel) rfl rfl rfl (by decide)
  injection he.symm.trans hexec with ht
  have := (htaken ⟨0, 10000, 3, []⟩ 0 10000 (by decide) rfl rfl rfl (by decide) (by decide) (by decide) rfl hfits
    ⟨0, by decide, by decide, by decide⟩).1
  rw [ht] at this
  exact absurd this (by decide)

end Sys2Proof.Machine
end

section
/-!
PROOF. The channels of the field die: a channel's fields and record, and its faults.
-/

namespace Sys2Proof.Machine

/-! ## A channel's fields and record -/

@[simp] theorem ch_chWr_same (s : State) (f : Nat → Fld) (c v : Nat) : (s.chWr f c v).ch f c = v % 2 ^ (f (c % 8)).width := rd_wr_same ..

theorem ch_chWr_apart (s : State) {f g : Nat → Fld} {c : Nat} (v : Nat)
    (h : (f (c % 8)).off ≠ (g (c % 8)).off ∨ (f (c % 8)).lsb ≠ (g (c % 8)).lsb) : (s.chWr g c v).ch f c = s.ch f c :=
  rd_wr_apart _ _ (by simpa [keyApart, or_comm] using h)

/-- No event writes the field of a channel. -/
abbrev eventFree (f : Nat → Fld) : Prop := ∀ j < 8, (f j).off ≠ 0x010 ∧ ¬((f j).off % 32 = 8 ∧ (f j).lsb = 31)

theorem evKey_channel {f : Nat → Fld} (h : eventFree f) (c i : Nat) : evKey ⟨P.field c, (f (c % 8)).off, (f (c % 8)).lsb, i⟩ = false := by
  obtain ⟨h1, h2⟩ := h (c % 8) (Nat.mod_lt _ (by decide))
  have hj : c / 8 % 8 < 8 := Nat.mod_lt _ (by decide)
  unfold P.field
  interval_cases c / 8 % 8 <;> simp [evKey] <;> omega

theorem ch_raise (s : State) (p k : Nat) {f : Nat → Fld} (c : Nat) (h : eventFree f) : (raise s p k).ch f c = s.ch f c :=
  rd_raise _ _ _ _ _ (evKey_channel h c 0)

theorem chan_setChan_same (s : State) (c : Nat) (x : FieldCh) : (s.setChan c x).chan c = x := Tbl.at_put_same ..

/-! ## Faults (R360) -/

theorem chFaultNow_chFault (s : State) (c : Nat) {k j : Nat} (hj : j < 7) :
    chFaultNow (chFault raise s c k) c j = (decide (j = k) || chFaultNow s c j) := by
  unfold chFault chFaultNow
  dsimp only
  rw [ch_raise _ _ _ _ (by decide), ch_chWr_apart _ _ (.inr (show (16 : Nat) ≠ 0 by decide)), ch_chWr_same, bitOf_mod, bitOf_withBit]
  simp [F.FIELD_CH_STAT_FAULT_NOW, hj]

theorem chFaultNow_chFaultEnd (s : State) (c : Nat) {k j : Nat} (hj : j < 7) :
    chFaultNow (chFaultEnd s c k) c j = (!decide (j = k) && chFaultNow s c j) := by
  unfold chFaultEnd chFaultNow
  rw [ch_chWr_same, bitOf_mod, bitOf_sansBit]
  simp [F.FIELD_CH_STAT_FAULT_NOW, hj]

theorem bit_chFault (s : State) (c k : Nat) : (chFault raise s c k).bit (P.field c) F.HDR_EV_STAT_EV (c % 8) = true :=
  bit_raise _ _ _ (Nat.lt_trans (Nat.mod_lt _ (by decide)) (by decide))

theorem ch_chFault (s : State) (c k : Nat) {f : Nat → Fld} (h : eventFree f) (hf : (f (c % 8)).off ≠ 0x108 + 0x20 * (c % 8)) :
    (chFault raise s c k).ch f c = s.ch f c := by
  unfold chFault
  dsimp only
  rw [ch_raise _ _ _ _ h, ch_chWr_apart _ _ (.inl hf), ch_chWr_apart _ _ (.inl hf)]

/-- A live fault that holds the driver off (R360 to R362). -/
theorem chDriverOn_of_fault {s : State} {c : Nat} (h : chFaultNow s c 3 = true ∨ chFaultNow s c 4 = true) : chDriverOn s c = false := by
  have : chHeldOff s c = true := by rcases h with h | h <;> simp [chHeldOff, h]
  rw [chDriverOn, if_pos this]

theorem chFaultNow_chWr_apart (s : State) {f : Nat → Fld} {c : Nat} (v k : Nat) (h : (f (c % 8)).off ≠ 0x108 + 0x20 * (c % 8)) :
    chFaultNow (s.chWr f c v) c k = chFaultNow s c k :=
  congrArg (bitOf · k) (ch_chWr_apart s v (.inl (Ne.symm h)))

/-- Settles O40. -/
theorem fieldChannelFaults : Obligations.FieldChannelFaults := by
  refine ⟨fun s c hon hc ho hb => ?open', fun s c hon hc ho hd => ?short, fun s c hon hc ho hd => ?overload,
    fun s c hon hc ho hf => ?thermal, fun s c hon hc hi hb => ?wire, fun s c hon hc ho hd hovl => ?tripped,
    fun s c hon hc hf hr => ?retry, fun s c hon hc hf => ?recover, fun s c k hon hc hk => ?clear⟩
  case open' =>
    refine ⟨_, exec_of_guard rfl (by simp [hon, hc, ho, hb]), ?_, bit_chFault ..⟩
    rw [chFaultNow_chFault _ _ (by decide)]; rfl
  case short =>
    refine ⟨_, exec_of_guard rfl (by simp [hon, hc, ho, hd]), ?_, bit_chFault ..⟩
    rw [chFaultNow_chFault _ _ (by decide)]; rfl
  case overload =>
    refine ⟨_, exec_of_guard rfl (by simp [hon, hc, ho, hd]), ?_, bit_chFault s c 2, congrArg FieldCh.ovl (chan_setChan_same ..)⟩
    show chFaultNow (chFault raise s c 2) c 2 = true
    rw [chFaultNow_chFault _ _ (by decide)]; rfl
  case thermal =>
    refine ⟨_, exec_of_guard rfl (by simp [hon, hc, ho, hf]), ?_⟩
    dsimp only
    have hfault : chFaultNow (((chFault raise s c 4).setChan c { (chFault raise s c 4).chan c with ovl := false }).chWr
        F.FIELD_CH_CNT_THERMALS c (satAdd 16 ((chFault raise s c 4).ch F.FIELD_CH_CNT_THERMALS c) 1)) c 4 = true := by
      rw [chFaultNow_chWr_apart _ _ _ (by simp [F.FIELD_CH_CNT_THERMALS])]
      show chFaultNow (chFault raise s c 4) c 4 = true
      rw [chFaultNow_chFault _ _ (by decide)]; rfl
    exact ⟨hfault, (bit_ev_wr _ _ _ _ (by simp [F.FIELD_CH_CNT_THERMALS]; omega)).trans (bit_chFault s c 4), chDriverOn_of_fault (.inr hfault)⟩
  case wire =>
    refine ⟨_, exec_of_guard rfl (by simp [hon, hc, hi, hb]), ?_, bit_chFault ..⟩
    rw [chFaultNow_chFault _ _ (by decide)]; rfl
  case tripped =>
    refine ⟨_, exec_of_guard rfl (by simp [hon, hc, ho, hd, hovl]), ?_⟩
    dsimp only
    have hfault : chFaultNow (((chFault raise s c 3).setChan c { (chFault raise s c 3).chan c with ovl := false }).chWr
        F.FIELD_CH_CNT_TRIPS c (satAdd 16 ((chFault raise s c 3).ch F.FIELD_CH_CNT_TRIPS c) 1)) c 3 = true := by
      rw [chFaultNow_chWr_apart _ _ _ (by simp [F.FIELD_CH_CNT_TRIPS])]
      show chFaultNow (chFault raise s c 3) c 3 = true
      rw [chFaultNow_chFault _ _ (by decide)]; rfl
    refine ⟨hfault, chDriverOn_of_fault (.inl hfault), ?_⟩
    rw [ch_chWr_same]
    show satAdd 16 ((chFault raise s c 3).ch F.FIELD_CH_CNT_TRIPS c) 1 % 2 ^ 16 = _
    rw [ch_chFault _ _ _ (by decide) (by simp [F.FIELD_CH_CNT_TRIPS])]
    unfold satAdd
    omega
  case retry =>
    refine ⟨_, exec_of_guard rfl (by simp [hon, hc, hf, hr]), ?_⟩
    rw [chFaultNow_chFaultEnd _ _ (by decide)]; rfl
  case recover =>
    refine ⟨_, exec_of_guard rfl (by simp [hon, hc, hf]), ?_⟩
    show chFaultNow (chFaultEnd s c 4) c 4 = false
    rw [chFaultNow_chFaultEnd _ _ (by decide)]; rfl
  case clear =>
    refine ⟨_, exec_of_guard rfl (by rcases hk with rfl | rfl | rfl | rfl <;> simp [hon, hc]), ?_⟩
    have hend : chFaultNow (chFaultEnd s c k) c k = false := by
      rw [chFaultNow_chFaultEnd _ _ (by omega)]
      simp
    dsimp only
    split <;> exact hend

end Sys2Proof.Machine
end

section
/-!
SUPPORT. What leaves node control, the field die's records, CAN and the UARTs as they are, but for what a freeze does to them.
-/

namespace Sys2Proof.Machine

/-- Of node control, the channels of the field die, CAN and the UARTs only what a freeze changes. -/
structure Quiet (s t : State) : Prop where
  node : t.node = { s.node with
    resetReq := t.node.resetReq, resetWait := t.node.resetWait, isoRecord := t.node.isoRecord, pendTarget := t.node.pendTarget }
  field : t.field = { s.field with chans := t.field.chans, waitEv := t.field.waitEv }
  chan : ∀ c, t.chan c = { s.chan c with
    entry := (t.chan c).entry, holdEnd := (t.chan c).holdEnd, forceOff := (t.chan c).forceOff, mirror := (t.chan c).mirror }
  can : ∀ c, can t c = { can s c with att := (can t c).att, cancel := (can t c).cancel } ∧
    ((can t c).att = (can s c).att ∨ (can t c).att = none)
  uart : ∀ u, t.uarts.at {} u = { s.uarts.at {} u with tx := (t.uarts.at {} u).tx } ∧
    ((t.uarts.at {} u).tx = (s.uarts.at {} u).tx ∨ (t.uarts.at {} u).tx = none)

theorem Raised.quiet {c : Prop} {s t : State} (h : Raised c s t) : Quiet s t := ⟨h.node, h.field, h.chan, h.can, h.uart⟩

theorem Quiet.trans {s t u : State} (h : Quiet s t) (k : Quiet t u) : Quiet s u where
  node := by rw [k.node, h.node]
  field := by rw [k.field, h.field]
  chan c := by rw [k.chan c, h.chan c]
  can c := by
    obtain ⟨h1, h2⟩ := h.can c
    obtain ⟨k1, k2⟩ := k.can c
    exact ⟨by rw [k1, h1], k2.elim (fun e => e ▸ h2) .inr⟩
  uart c := by
    obtain ⟨h1, h2⟩ := h.uart c
    obtain ⟨k1, k2⟩ := k.uart c
    exact ⟨by rw [k1, h1], k2.elim (fun e => e ▸ h2) .inr⟩

/-- All parts but node control, field die, CAN and UARTs. -/
def quietMask : Nat := 2 ^ 200 - 1 - 2 ^ 9 - 2 ^ 22 - 2 ^ 23 - 2 ^ 27

theorem Quiet.of_keeps {m : Nat} {s t : State} (h : Keeps m s t) (hm : subMask m quietMask = true) : Quiet s t where
  node := by rw [(h.mono hm).node rfl]
  field := by rw [(h.mono hm).field rfl]
  chan c := by
    have : t.chan c = s.chan c := congrArg (fun x : FieldSt => x.chans.at {} c) ((h.mono hm).field rfl)
    rw [this]
  can c := by
    have : Machine.can t c = Machine.can s c := congrArg (fun x : Tbl CanSt => x.at {} c) ((h.mono hm).can rfl)
    rw [this]
    exact ⟨rfl, .inl rfl⟩
  uart u := by
    rw [(h.mono hm).uarts rfl]
    exact ⟨rfl, .inl rfl⟩

theorem Quiet.refl (s : State) : Quiet s s := .of_keeps (.refl 0 s) rfl

theorem Quiet.step {m : Nat} {s t u : State} (h : Quiet s t) (k : Keeps m t u) (hm : subMask m quietMask = true) : Quiet s u :=
  h.trans (.of_keeps k hm)

theorem Quiet.ite {s t u : State} {c : Prop} [Decidable c] (h : Quiet s t) (k : Quiet s u) : Quiet s (if c then t else u) := by
  split
  · exact h
  · exact k

theorem Quiet.foldl {α : Type} {s t : State} {f : State → α → State} (hf : ∀ t a, Quiet t (f t a)) (l : List α) (h : Quiet s t) :
    Quiet s (l.foldl f t) := by
  induction l generalizing t with
  | nil => exact h
  | cons a r ih => exact ih (h.trans (hf t a))

theorem Quiet.each {s t : State} {n : Nat} {f : State → Nat → State} (hf : ∀ t a, Quiet t (f t a)) (h : Quiet s t) :
    Quiet s (t.each n f) := .foldl hf _ h

theorem raise_quiet (s : State) (p k : Nat) : Quiet s (raise s p k) := (raise_raised s p k).quiet
theorem raiseIf_quiet (s : State) (b : Bool) (p k : Nat) : Quiet s (raiseIf s b p k) := (raiseIf_raised s b p k).quiet

/-- A register write, a count. -/
theorem Quiet.wr {s t : State} (h : Quiet s t) (p : Nat) (f : Fld) (v : Nat) : Quiet s (t.wr p f v) := h.trans ⟨rfl, rfl, fun _ => rfl, fun _ => ⟨rfl, .inl rfl⟩, fun _ => ⟨rfl, .inl rfl⟩⟩

/-! ## Queues and the cell pool -/

theorem poolMonitor_quiet (s : State) (before : Nat) : Quiet s (poolMonitor s before) := by
  have hmin : Quiet s (sharedMin (s.maxr P.pool F.CELLPOOL_USED_MAX_CELLS s.sw.used)) :=
    (Quiet.of_keeps (State.maxr_keeps 49 group_pool ..) rfl).step (sharedMin_keeps _) rfl
  unfold poolMonitor
  refine Quiet.trans (Quiet.each (fun t k => ?_) hmin) (raiseIf_quiet ..)
  exact .ite (((Quiet.refl t).wr ..).trans (raise_quiet ..)) (.refl t)

theorem chargeCells_quiet (s : State) (q k fresh : Nat) : Quiet s (chargeCells s q k fresh) :=
  (show Quiet s { s with sw := _ } from .of_keeps (Keeps.put_sw s _) rfl).trans (poolMonitor_quiet ..)

theorem setQueueSt_quiet (s : State) (q : Nat) (z : QSt) : Quiet s (setQueueSt s q z) := by
  unfold setQueueSt
  exact .ite ((Quiet.of_keeps (Keeps.put_ses s _) rfl).trans (chargeCells_quiet ..))
    ((Quiet.of_keeps (Keeps.put_ses s _) rfl).step (dischargeCells_keeps ..) rfl)

theorem recycleFor_quiet (s : State) (q k : Nat) : Quiet s (recycleFor s q k).1 := by
  unfold recycleFor
  have : ∀ (l : List QItem) (a : State × Nat), Quiet s a.1 → Quiet s (l.foldl (fun a x =>
      if qOcc a.1 q + k ≤ qMax a.1 q then a
      else
        let z := queueSt a.1 q
        if z.cur == some x.arr || (x.done && x.heldCells == 0) then a
        else (setQueueSt a.1 q (z.recycle x.arr), a.2 + 1)) a).1 := by
    intro l
    induction l with
    | nil => exact fun _ h => h
    | cons x r ih =>
      intro a h
      refine ih _ ?_
      dsimp only
      split
      · exact h
      · split
        · exact h
        · exact h.trans (setQueueSt_quiet ..)
  exact this _ _ (.refl s)

/-! ## Capture -/

theorem closeCell_quiet (s : State) (u : Nat) : Quiet s (closeCell s u) := by
  unfold closeCell
  dsimp only
  split
  · exact .refl s
  · refine .trans ?_ (setQueueSt_quiet ..)
    exact ((Quiet.of_keeps (setCapUnit_keeps s u _) rfl).step (dischargeCells_keeps ..) rfl).step (Keeps.put_ses ..) rfl

theorem openCell_quiet (s : State) (q : Nat) : Quiet s (openCell s q).2 := by
  have hrecycle : Quiet s (if s.on (P.queue q) (F.QUEUE_Q_CFG_OVERWRITE (q % 16)) then recycleFor s q 1 else (s, 0)).1 := by
    split
    · exact recycleFor_quiet ..
    · exact .refl s
  unfold openCell
  dsimp only
  generalize (if s.on (P.queue q) (F.QUEUE_Q_CFG_OVERWRITE (q % 16)) then recycleFor s q 1 else (s, 0)) = a at hrecycle ⊢
  split
  · exact .refl s
  · split
    · exact (hrecycle.wr ..).trans (chargeCells_quiet ..)
    · exact ((Quiet.of_keeps (noteRefusal_keeps ..) rfl).step (qRefuse_keeps ..) rfl)

theorem capRecord_quiet (s : State) (u : Nat) (r : CapRec) : Quiet s (capRecord s u r) := by
  have ho : Quiet s (if (capUnit s u).cell.isEmpty then openCell s (s.cap F.CAPTURE_CAP_CFG_QUEUE u) else (true, s)).2 := by
    split
    · exact openCell_quiet ..
    · exact .refl s
  unfold capRecord
  dsimp only
  generalize (if (capUnit s u).cell.isEmpty then openCell s (s.cap F.CAPTURE_CAP_CFG_QUEUE u) else (true, s)) = o at ho ⊢
  have hrecord : ∀ x b, Quiet s (raiseIf ((setCapUnit o.2 u x).inc P.capt F.CAPTURE_CNT_RECORDS_N) b P.capt u) := fun x b =>
    ((ho.step (setCapUnit_keeps ..) rfl).wr ..).trans (raiseIf_quiet ..)
  split
  · exact .refl s
  · exact .ite (.ite ((hrecord ..).trans (closeCell_quiet ..)) (hrecord ..)) ((((ho.wr ..).wr ..).wr ..).trans (raise_quiet ..))

theorem capUnitEdge_quiet (s : State) (u kind : Nat) (lvl : Bool) (t fr w : Nat) : Quiet s (capUnitEdge s u kind lvl t fr w) := by
  have hlast : ∀ x i b, Quiet s ((((((setCapUnit s u x).wr64 P.capt (F.CAPTURE_CAP_LAST_LO_NS u) (F.CAPTURE_CAP_LAST_HI_NS u) i).wr
      P.capt (F.CAPTURE_CAP_LAST_INFO_VALID u) 1).wr P.capt (F.CAPTURE_CAP_LAST_INFO_LEVEL u) b).wr P.capt
      (F.CAPTURE_CAP_LAST_INFO_FRAC u) fr)) := fun x i b =>
    (((((Quiet.of_keeps (setCapUnit_keeps s u x) rfl).wr ..).wr ..).wr ..).wr ..).wr ..
  unfold capUnitEdge
  dsimp only
  refine .ite (.refl s) (.ite (.refl s) (.trans ?_ (capRecord_quiet ..)))
  split
  · exact hlast ..
  · exact ((hlast ..).step (State.draw_keeps _ 48) rfl).step (State.draw_keeps _ 32) rfl

theorem captureEdge_quiet (s : State) (kind index : Nat) (lvl : Bool) (t fr w : Nat) : Quiet s (captureEdge s kind index lvl t fr w) := by
  unfold captureEdge
  exact .ite (.refl s) (.foldl (fun u k => .ite (capUnitEdge_quiet ..) (.refl u)) _ (.refl s))

end Sys2Proof.Machine
end

section
/-!
PROOF. Commands of a field channel: the writes to its registers, its input edges and the end of a wake-up.
-/

namespace Sys2Proof.Machine

/-! ## Writes of which some fields stay as they are -/

/-- A write that no field of the register refuses is applied. -/
theorem MayWriteTo.applied {s : State} {who : By} {page off : Nat} {fs : List Fld} (h : MayWriteTo s who page fs) (word : Nat) (ho : off ≠ 0x038)
    (hp : (pageRow page).isSome = true) (hr : registerAt page off = true) (he : (page == P.txn && off == 0x058) = false)
    (hs : (page == P.sestx && off == 0x044) = false) (hb : badField (dropArms s page) who page off word = none) :
    busStore s who page off word = applyWrite (dropArms s page) who page off word := by
  have hopen : (dropArms s page).on page F.HDR_PAGE_CTRL_LOCK = false := by
    have : (dropArms s page).rd page F.HDR_PAGE_CTRL_LOCK = 0 := h.unlocked
    simp [State.on, this]
  have hremote : who.ini = 8 → remoteOpen (dropArms s page) who.src page = true := h.remote
  have htaken : writeRefusal (dropArms s page) who page off word (armedFor s who page) = none := by
    unfold writeRefusal
    rw [if_neg (by simp [hopen]), if_neg (by rintro ⟨e, x⟩; simp [hremote e, hs] at x), if_neg ho, hb]
    rfl
  have ha := h.alive
  simp only [State.alive, Bool.and_eq_true, Bool.not_eq_true', bne_iff_ne, ne_eq] at ha
  obtain ⟨⟨⟨h1, h2⟩, h3⟩, h4⟩ := ha
  have hn : (pageRow page).isNone = false := by rw [Option.isNone_eq_false_iff]; exact hp
  unfold busStore busWrite
  rw [if_neg (by simp [h1, h2, h3]), if_neg h4, if_neg (by simp [h.tap]), if_neg (by simp [hn]), if_neg (by
    intro x
    simp only [Bool.and_eq_true] at x
    rw [h.link x.1] at x
    exact absurd x.2 (by decide))]
  dsimp only
  rw [if_neg (by simp [hr]), htaken]
  simp only [Bool.and_eq_false_iff, beq_eq_false_iff_ne] at he
  unfold acceptedWrite
  dsimp only
  rw [if_neg ho, if_neg (by rintro ⟨h1, h2⟩; rcases he with h | h <;> contradiction)]

theorem MayWrite.applied {s : State} {who : By} {page off : Nat} (h : MayWrite s who page off) (word : Nat) (ho : off ≠ 0x038)
    (hp : (pageRow page).isSome = true) (hr : registerAt page off = true) (he : (page == P.txn && off == 0x058) = false)
    (hs : (page == P.sestx && off == 0x044) = false) (hb : badField (dropArms s page) who page off word = none) :
    busStore s who page off word = applyWrite (dropArms s page) who page off word :=
  MayWriteTo.applied ⟨h.alive, h.unlocked, h.remote, h.tap, h.link, h.open'⟩ word ho hp hr he hs hb

/-- A field that is refused neither by its class nor by a condition, or that stays as it is. -/
theorem badField_eq_none {s : State} {who : By} {page off word : Nat}
    (h : ∀ f ∈ regFields page off, fbits word f = activeValue s who page f ∨
      classOpen s who page f = true ∧ fieldOk s who page f (fbits word f) = true) : badField s who page off word = none := by
  unfold badField
  rw [List.find?_eq_none]
  intro f hf
  rcases h f hf with h | ⟨h1, h2⟩
  · simp [h]
  · simp [h1, h2]

/-- Nothing happens before the register's fields change, and none of them names a queue. -/
def plainShape (page off : Nat) : Bool :=
  !pioProgram page off && !(decide (0x011 ≤ page ∧ page ≤ 0x018) && off == 0x090) &&
    !(decide (0x011 ≤ page ∧ page ≤ 0x01E) && decide (0x0F4 ≤ off)) && !(page == P.capt && decide (0x100 ≤ off)) &&
    ((regFields page off).all fun f => (queueNaming page f).isNone)

theorem applyWrite_plain {page off : Nat} (h : plainShape page off = true) (s : State) (who : By) (word : Nat) :
    applyWrite s who page off word =
      writeEffect s ((regFields page off).foldl (fun t f => storeField t who page f word) s) who page off word := by
  simp only [plainShape, Bool.and_eq_true, Bool.not_eq_true', List.all_eq_true] at h
  obtain ⟨⟨⟨⟨hpio, hshape⟩, hmeter⟩, hcapt⟩, hq⟩ := h
  simp only [Bool.and_eq_false_iff, beq_eq_false_iff_ne, decide_eq_false_iff_not] at hshape hmeter hcapt
  have hbefore : beforeWrite s page off word = s := by
    unfold beforeWrite
    rw [if_neg (by omega), if_neg (by omega), if_neg (by
      rintro ⟨h, h', _⟩
      rcases hcapt with hcapt | hcapt
      · exact hcapt h
      · exact hcapt h')]
  have hbind : ∀ t, bindQueues s t who page off = t := fun t => by
    refine foldl_id _ _ _ fun f hm => ?_
    have hn := hq f hm
    rw [Option.isNone_iff_eq_none] at hn
    rw [hn]
  unfold applyWrite
  dsimp only
  rw [hbefore, hbind, storeWord, if_neg (by simp [hpio])]

/-! ## The registers of a field channel -/

theorem regFields_chOut : ∀ c < 64, regFields (P.field c) (chOff c 4) =
    [F.FIELD_CH_OUT_RELEASE (c % 8), F.FIELD_CH_OUT_FORCE_SAFE (c % 8), F.FIELD_CH_OUT_WURQ (c % 8), F.FIELD_CH_OUT_LEVEL (c % 8)] := by
  decide +kernel

theorem field_register : ∀ c < 64, ∀ o ∈ [0, 4, 8], (pageRow (P.field c)).isSome = true ∧ registerAt (P.field c) (chOff c o) = true ∧
    plainShape (P.field c) (chOff c o) = true ∧ pageType (P.field c) = some .field := by decide +kernel

theorem chOut_noCondition : ∀ c < 64, ∀ f ∈ [F.FIELD_CH_OUT_FORCE_SAFE (c % 8), F.FIELD_CH_OUT_WURQ (c % 8), F.FIELD_CH_OUT_LEVEL (c % 8)],
    noCondition (P.field c) f = true := by decide +kernel

/-- The block's part of a write to a channel's register. -/
theorem writeEffect_field (old s : State) (who : By) {c o : Nat} (hc : c < 64) (ho : o ∈ [0, 4, 8]) (word : Nat) :
    writeEffect old s who (P.field c) (chOff c o) word = effField s (P.field c) (chOff c o) word := by
  obtain ⟨-, -, -, ht⟩ := field_register c hc o ho
  rw [writeEffect, if_neg (by unfold chOff; omega), ht]


theorem bankIdx_field (s : State) (who : By) (c : Nat) (f : Fld) : bankIdx s who (P.field c) f = 0 := by
  have hp : 0x0A0 ≤ P.field c ∧ P.field c < 0x0A8 := by unfold P.field; omega
  unfold bankIdx
  rw [if_neg (by simp [P.sestx]; omega), if_neg (by simp [P.sesrx]; omega), if_neg (by simp [P.switch]; omega),
    if_neg (by simp [P.gw]; omega), if_neg (by simp [P.drift]; omega), if_neg (by omega), if_neg (by simp [P.log]; omega)]

/-- A field of a channel that a write stores as it is written. -/
def chStores (c : Nat) (f : Fld) : Prop :=
  f.acc = .rw ∧ ∀ s, (absentField (P.field c) f || ownStore (P.field c) f || fixedField s (P.field c) f) = false

theorem storeField_field {c : Nat} {f : Fld} (h : chStores c f) (s : State) (who : By) (word : Nat) :
    storeField s who (P.field c) f word = s.wr (P.field c) f (fbits word f) := by
  obtain ⟨ha, hn⟩ := h
  rw [storeField_rw ha (hn s), bankIdx_field, storeValue, if_neg (by unfold P.field; omega)]
  rfl

theorem absentField_field (c : Nat) (f : Fld) : absentField (P.field c) f = false := by
  have hp : 0x0A0 ≤ P.field c ∧ P.field c < 0x0A8 := by unfold P.field; omega
  unfold absentField
  dsimp only
  rw [if_neg (by omega), if_neg (by omega), if_neg (by omega)]

theorem fixedField_field (s : State) (c : Nat) (f : Fld) : fixedField s (P.field c) f = false := by
  have hp : 0x0A0 ≤ P.field c ∧ P.field c < 0x0A8 := by unfold P.field; omega
  unfold fixedField
  rw [if_neg (by simp [P.switch]; omega), if_neg (by simp [P.gw]; omega), if_neg (by omega), if_neg (by simp [P.adc]; omega)]

theorem chOut_stores : ∀ c < 64, (∀ f ∈ [F.FIELD_CH_OUT_RELEASE (c % 8), F.FIELD_CH_OUT_FORCE_SAFE (c % 8), F.FIELD_CH_OUT_WURQ (c % 8)],
    storesNothing (P.field c) f = true) ∧ ownStore (P.field c) (F.FIELD_CH_OUT_LEVEL (c % 8)) = false := by decide +kernel

/-- A write of CH_OUT that does not release the channel, or may, stores LEVEL; then the channel acts on the triggers. -/
theorem MayWrite.chOut {s : State} {who : By} {c : Nat} (h : MayWrite s who (P.field c) (chOff c 4)) (hc : c < 64) (word : Nat)
    (hr : word / 2 ^ 31 % 2 = 0 ∧ s.ch F.FIELD_CH_OUT_RELEASE c = 0 ∨ s.working = true ∧ s.service = false) :
    busStore s who (P.field c) (chOff c 4) word =
      effField ((dropArms s (P.field c)).chWr F.FIELD_CH_OUT_LEVEL c (word % 2)) (P.field c) (chOff c 4) word := by
  obtain ⟨hrow, hreg, hshape, -⟩ := field_register c hc 4 (by simp)
  obtain ⟨hsn, hown⟩ := chOut_stores c hc
  have hpage : 0x0A0 ≤ P.field c ∧ P.field c < 0x0A8 := by unfold P.field; omega
  have hbad : badField (dropArms s (P.field c)) who (P.field c) (chOff c 4) word = none := by
    refine badField_eq_none fun f hf => ?_
    have hopen := h.open' f hf
    rw [regFields_chOut c hc] at hf
    rcases List.mem_cons.mp hf with rfl | hf
    · rcases hr with ⟨hw, hz⟩ | ⟨hw, hsv⟩
      · refine .inl (hw.trans (hz.symm.trans ?_))
        rw [activeValue, bankIdx_field]
        rfl
      · refine .inr ⟨hopen, ?_⟩
        have hq : queueNaming (P.field c) (F.FIELD_CH_OUT_RELEASE (c % 8)) = none := by
          simp only [plainShape, Bool.and_eq_true, List.all_eq_true, Option.isNone_iff_eq_none] at hshape
          exact hshape.2 _ (by rw [regFields_chOut c hc]; simp)
        unfold fieldOk namingOk
        rw [hq, if_pos (by omega)]
        have hworks : ((dropArms s (P.field c)).working && !(dropArms s (P.field c)).service) = true := by
          show (s.working && !s.service) = true
          simp [hw, hsv]
        cases arr (F.FIELD_CH_OUT_RELEASE (c % 8)) F.FIELD_CH_OUT_RELEASE 32 8 with
        | none => rfl
        | some i => rw [hworks]; rfl
    · exact .inr ⟨hopen, fieldOk_of_noCondition (chOut_noCondition c hc f hf) ..⟩
  rw [h.applied word (by unfold chOff; omega) hrow hreg (by simp [P.txn]; omega) (by simp [P.sestx]; omega) hbad,
    applyWrite_plain hshape, regFields_chOut c hc, writeEffect_field _ _ _ hc (by simp)]
  simp only [List.foldl_cons, List.foldl_nil]
  rw [storeField_trigger (hsn (F.FIELD_CH_OUT_RELEASE (c % 8)) (by simp)), storeField_trigger (hsn (F.FIELD_CH_OUT_FORCE_SAFE (c % 8)) (by simp)),
    storeField_trigger (hsn (F.FIELD_CH_OUT_WURQ (c % 8)) (by simp)), storeField_field (f := F.FIELD_CH_OUT_LEVEL (c % 8)) ⟨rfl, fun t => by rw [absentField_field, fixedField_field, hown]; rfl⟩]
  congr 2
  show word / 2 ^ 0 % 2 ^ 1 = word % 2
  omega

/-- What a write of CH_OUT triggers. -/
theorem effField_out (s : State) {c : Nat} (hc : c < 64) (word : Nat) : effField s (P.field c) (chOff c 4) word =
    let s := if bitOf word 31 then chRelease s c else s
    let s := if bitOf word 30 then safeTrigger s [c] 7 else s
    if bitOf word 1 then wurqStart s c else s := by
  have hch : 8 * (P.field c - 0x0A0) + (chOff c 4 - 0x100) / 0x20 = c := by unfold P.field chOff; omega
  unfold effField
  rw [hch]
  dsimp only
  rw [if_neg (by unfold chOff; omega), if_neg (by unfold chOff; omega), if_pos (by unfold chOff; omega)]


theorem regFields_chCfg : ∀ c < 64, regFields (P.field c) (chOff c 0) =
    [F.FIELD_CH_CFG_MODE (c % 8), F.FIELD_CH_CFG_SAFE (c % 8), F.FIELD_CH_CFG_AUTO_RETRY (c % 8), F.FIELD_CH_CFG_BREAK_EN (c % 8),
      F.FIELD_CH_CFG_OVL_TIME (c % 8), F.FIELD_CH_CFG_FILT (c % 8), F.FIELD_CH_CFG_EDGE_EV (c % 8), F.FIELD_CH_CFG_SIO (c % 8),
      F.FIELD_CH_CFG_SIO_OUT (c % 8)] := by
  decide +kernel

theorem channel_noCondition : ∀ c < 64, ∀ o ∈ [0, 8], (regFields (P.field c) (chOff c o)).all (noCondition (P.field c)) = true := by
  decide +kernel

/-- A word that replaces MODE and keeps the rest holds the mode. -/
theorem keepWord_mode (s : State) (who : By) {c : Nat} (hc : c < 64) (m : Nat) :
    keepWord s who (P.field c) (chOff c 0) [(F.FIELD_CH_CFG_MODE (c % 8), m)] / 2 ^ 28 % 16 = m % 16 := by
  unfold keepWord
  rw [regFields_chCfg c hc]
  simp only [List.map_cons, List.map_nil, List.find?_cons, List.find?_nil]
  simp [F.FIELD_CH_CFG_MODE, F.FIELD_CH_CFG_SAFE, F.FIELD_CH_CFG_AUTO_RETRY, F.FIELD_CH_CFG_BREAK_EN, F.FIELD_CH_CFG_OVL_TIME,
    F.FIELD_CH_CFG_FILT, F.FIELD_CH_CFG_EDGE_EV, F.FIELD_CH_CFG_SIO, F.FIELD_CH_CFG_SIO_OUT, mkWord, beq_eq_decide]
  omega


/-! ## The edges that a channel drops -/

/-- Outside the EDGE page only what an event changes; `calm` where the router triggers no Eclipse. -/
structure EdgeKept (s t : State) : Prop where
  regs : RegsKeep (fun k => evKey k || k.page == P.edge) s t
  calm : noEclEv s → RegsKeep (fun k => calmKey k || k.page == P.edge) s t

theorem EdgeKept.evEn {s t : State} (h : EdgeKept s t) : noEclEv t = noEclEv s := by
  unfold noEclEv State.on
  rw [h.regs.rd _ _ (by decide)]

theorem EdgeKept.trans {s t u : State} (h : EdgeKept s t) (k : EdgeKept t u) : EdgeKept s u :=
  ⟨h.regs.trans k.regs, fun e => (h.calm e).trans (k.calm (h.evEn ▸ e))⟩

theorem EdgeKept.of_regs {s t : State} (h : t.regs = s.regs) : EdgeKept s t := ⟨.of_eq h, fun _ => .of_eq h⟩

theorem EdgeKept.put_edge {s t : State} (h : EdgeKept s t) (x : EdgeSched) : EdgeKept s { t with edge := x } :=
  h.trans (.of_regs rfl)

theorem Raised.edgeKept {s t : State} (h : Raised (noEclEv s) s t) : EdgeKept s t where
  regs := h.regs.mono fun _ hk => (Bool.or_eq_false_iff.mp hk).1
  calm e := (h.calm e).2.mono fun _ hk => (Bool.or_eq_false_iff.mp hk).1

theorem EdgeKept.wr {s t : State} (h : EdgeKept s t) (f : Fld) (v : Nat) : EdgeKept s (t.wr P.edge f v) :=
  ⟨h.regs.wr v (by simp), fun e => (h.calm e).wr v (by simp)⟩

theorem edgeCount_kept (s : State) (r : Nat) : EdgeKept s (edgeCount s r) := by
  have hinc : ∀ f, EdgeKept s (s.inc P.edge f) := fun f => (EdgeKept.of_regs (s := s) rfl).wr f _
  have hraise : ∀ f k, EdgeKept s (countRaise s P.edge f P.edge k) := fun f k => (hinc f).trans (raise_raised ..).edgeKept
  unfold edgeCount
  split
  · exact hinc _
  · exact hraise ..
  · exact hraise ..
  · exact hraise ..
  · exact .of_regs rfl

theorem edgeReport_kept (s : State) (e : PendEdge) (r : Nat) (at2 : Option Nat) : EdgeKept s (edgeReport s e r at2) := by
  have hcount : ∀ (t : State) x, t.regs = s.regs → EdgeKept s (edgeCount (setEnt t e.entry x) r) := fun t x h =>
    (EdgeKept.of_regs (t := setEnt t e.entry x) h).trans (edgeCount_kept ..)
  unfold edgeReport
  dsimp only
  refine EdgeKept.trans ?_ (raiseIf_raised ..).edgeKept
  have hdrawn : ∀ x, EdgeKept s (edgeCount (setEnt (match at2 with | some i => (i / 2, s) | none => s.draw 64).2 e.entry x) r) :=
    fun x => hcount _ x (by cases at2 <;> rfl)
  cases e.action with
  | none => exact hdrawn _
  | some a => exact (hdrawn _).put_edge _

theorem dropEdge_regs (s : State) (e : PendEdge) : (dropEdge s e).regs = s.regs := by
  unfold dropEdge
  dsimp only
  split <;> rfl

theorem edgeEnd_kept (s : State) (e : PendEdge) (r : Nat) : EdgeKept s (edgeEnd s e r) := by
  unfold edgeEnd
  refine EdgeKept.trans ?_ (.of_regs (dropEdge_regs ..))
  split
  · split
    · exact edgeCount_kept ..
    · exact .of_regs rfl
  · exact edgeReport_kept ..

theorem edgesDropAt_kept (s : State) (kind unit : Nat) : EdgeKept s (edgesDropAt s kind unit) := by
  have : ∀ (l : List FieldCmd) (t : State), EdgeKept s t → EdgeKept s (l.foldl (fun t c =>
      match edgeOf t c.seq with
      | some e => edgeEnd t e ER.discarded
      | none => t) t) := by
    intro l
    induction l with
    | nil => exact fun _ h => h
    | cons c r ih =>
      intro t h
      refine ih _ ?_
      dsimp only
      split
      · exact h.trans (edgeEnd_kept ..)
      · exact h
  exact this _ _ (.of_regs rfl)


/-! ## The operations -/

theorem chModeWrite_mode (s : State) (c m : Nat) : (chModeWrite s c m).ch F.FIELD_CH_CFG_MODE c = m % 16 := by
  have hmode : ∀ v x, (((s.chWr F.FIELD_CH_CFG_MODE c m).chWr F.FIELD_CH_STAT_FAULT_NOW c v).setChan c x).ch F.FIELD_CH_CFG_MODE c = m % 16 :=
    fun v x => (ch_chWr_apart _ _ (.inr (show (28 : Nat) ≠ 16 by decide))).trans (ch_chWr_same ..)
  unfold chModeWrite
  dsimp only
  split
  · exact ch_chWr_same ..
  · split
    · refine ((edgesDropAt_kept _ 1 c).regs.rd _ _ ?_).trans (hmode ..)
      rw [evKey_channel (f := F.FIELD_CH_CFG_MODE) (by decide)]
      simp [P.field, P.edge]
      omega
    · exact hmode ..

theorem rd_fdieEv {s : State} (he : noEclEv s) (k p : Nat) {f : Fld} (h : calmKey ⟨p, f.off, f.lsb, 0⟩ = false) :
    (fdieEv raise s k).rd p f = s.rd p f := by
  unfold fdieEv
  split
  · rfl
  · exact ((raise_raised s P.fdie k).calm he).2.rd _ _ h

theorem calmKey_safeActive (c i : Nat) : calmKey ⟨P.field c, (F.FIELD_CH_STAT_SAFE_ACTIVE (c % 8)).off, (F.FIELD_CH_STAT_SAFE_ACTIVE (c % 8)).lsb, i⟩ = false := by
  simp [calmKey, P.field, F.FIELD_CH_STAT_SAFE_ACTIVE]
  omega

/-- A channel out of safe state that is taken in (R364, R365). -/
theorem safeTrigger_enters {s : State} {c : Nat} (cause : Nat) (h : chSafe s c = false) (he : noEclEv s) :
    chSafe (safeTrigger s [c] cause) c = true ∧ (safeTrigger s [c] cause).rd P.fdie F.FDIE_FD_STAT_LAST_CAUSE = cause % 8 := by
  have hpage : 0x0A0 ≤ P.field c ∧ P.field c < 0x0A8 := by unfold P.field; omega
  obtain ⟨w, hw, hsafe, hcause, hev⟩ : ∃ w, safeEnter raise s [c] cause = fdieEv raise w 0 ∧ chSafe w c = true ∧
      w.rd P.fdie F.FDIE_FD_STAT_LAST_CAUSE = cause % 8 ∧ noEclEv w := by
    refine ⟨_, by unfold safeEnter; rw [if_pos (by simp [h])], ?_, ?_, ?_⟩
    · unfold chSafe State.ch
      rw [rd_inc_apart _ _ (by simp [keyApart, P.fdie]; omega), rd_wr_apart _ _ (by simp [keyApart, P.fdie]; omega), List.foldl_cons,
        List.foldl_nil, chEnterSafe, if_neg (by simp [h])]
      exact beq_iff_eq.mpr (rd_wr_same ..)
    · exact (rd_inc_apart _ _ rfl).trans (rd_wr_same ..)
    · unfold noEclEv State.on
      rw [rd_inc_apart _ _ rfl, rd_wr_apart _ _ rfl, List.foldl_cons, List.foldl_nil, chEnterSafe, if_neg (by simp [h])]
      refine (congrArg (· != 0) (rd_wr_apart _ _ ?_)).trans he
      simp [keyApart, P.ecl]
      omega
  have hkeep : ∀ {p : Nat} {f : Fld}, calmKey ⟨p, f.off, f.lsb, 0⟩ = false → p ≠ P.edge →
      (safeTrigger s [c] cause).rd p f = w.rd p f := fun hk hp => by
    unfold safeTrigger
    dsimp only
    rw [hw]
    have hraised := rd_fdieEv hev 0 _ hk
    split
    · exact hraised
    · rw [List.filter_cons_of_pos (by simp [h]), List.filter_nil, List.foldl_cons, List.foldl_nil]
      refine (((edgesDropAt_kept _ 1 c).calm ?_).rd _ _ ?_).trans hraised
      · unfold noEclEv State.on
        rw [rd_fdieEv hev 0 _ (by decide)]
        exact hev
      · simp [hk, hp]
  constructor
  · unfold chSafe State.ch
    rw [hkeep (calmKey_safeActive c 0) (by simp [P.edge]; omega)]
    exact hsafe
  · rw [hkeep (by decide) (by decide), hcause]

/-- A word of CH_OUT that sets one trigger and keeps LEVEL. -/
theorem keepWord_chOut (s : State) (who : By) {c : Nat} (hc : c < 64) :
    let l := activeValue s who (P.field c) (F.FIELD_CH_OUT_LEVEL (c % 8)) % 2
    keepWord s who (P.field c) (chOff c 4) [(F.FIELD_CH_OUT_RELEASE (c % 8), 1)] = 2 ^ 31 + l ∧
      keepWord s who (P.field c) (chOff c 4) [(F.FIELD_CH_OUT_FORCE_SAFE (c % 8), 1)] = 2 ^ 30 + l ∧
      keepWord s who (P.field c) (chOff c 4) [(F.FIELD_CH_OUT_WURQ (c % 8), 1)] = 2 + l := by
  unfold keepWord
  rw [regFields_chOut c hc]
  simp only [List.map_cons, List.map_nil, List.find?_cons, List.find?_nil]
  simp [F.FIELD_CH_OUT_RELEASE, F.FIELD_CH_OUT_FORCE_SAFE, F.FIELD_CH_OUT_WURQ, F.FIELD_CH_OUT_LEVEL, mkWord, beq_eq_decide]


/-- A write of CH_CFG or CH_STAT stores the register's fields; then the channel acts. -/
theorem MayWrite.channel {s : State} {who : By} {c o : Nat} (h : MayWrite s who (P.field c) (chOff c o)) (hc : c < 64) (ho : o ∈ [0, 8])
    (word : Nat) : busStore s who (P.field c) (chOff c o) word = effField ((regFields (P.field c) (chOff c o)).foldl
      (fun t f => storeField t who (P.field c) f word) (dropArms s (P.field c))) (P.field c) (chOff c o) word := by
  have ho' : o ∈ [0, 4, 8] := by rcases List.mem_pair.mp ho with rfl | rfl <;> simp
  obtain ⟨hrow, hreg, hshape, -⟩ := field_register c hc o ho'
  have hnc := List.all_eq_true.mp (channel_noCondition c hc o ho)
  have hpage : 0x0A0 ≤ P.field c ∧ P.field c < 0x0A8 := by unfold P.field; omega
  rw [h.applied word (by unfold chOff; omega) hrow hreg (by simp [P.txn]; omega) (by simp [P.sestx]; omega)
      (badField_eq_none fun f hf => .inr ⟨h.open' f hf, fieldOk_of_noCondition (hnc f hf) ..⟩),
    applyWrite_plain hshape, writeEffect_field _ _ _ hc ho']

theorem effField_cfg (s : State) {c : Nat} (hc : c < 64) (word : Nat) :
    effField s (P.field c) (chOff c 0) word = chModeWrite s c (word / 2 ^ 28 % 16) := by
  have hch : 8 * (P.field c - 0x0A0) + (chOff c 0 - 0x100) / 0x20 = c := by unfold P.field chOff; omega
  unfold effField
  rw [hch]
  dsimp only
  rw [if_neg (by unfold chOff; omega), if_pos (by unfold chOff; omega)]

theorem effField_stat (s : State) {c word : Nat} (hc : c < 64) (hw : bitOf word 3 = true) :
    effField s (P.field c) (chOff c 8) word = chTripClear s c := by
  have hch : 8 * (P.field c - 0x0A0) + (chOff c 8 - 0x100) / 0x20 = c := by unfold P.field chOff; omega
  unfold effField
  rw [hch]
  dsimp only
  rw [if_neg (by unfold chOff; omega), if_neg (by unfold chOff; omega), if_neg (by unfold chOff; omega), if_pos (by unfold chOff; omega),
    if_pos hw]

theorem chOff_mod (c o : Nat) : chOff (c % 64) o = chOff c o := by unfold chOff; omega

/-- The triggers of a word that sets one of them. -/
theorem bitOf_trigger {l : Nat} (h : l < 2) : bitOf (2 ^ 31 + l) 31 = true ∧ bitOf (2 ^ 31 + l) 30 = false ∧ bitOf (2 ^ 31 + l) 1 = false ∧
    bitOf (2 ^ 30 + l) 31 = false ∧ bitOf (2 ^ 30 + l) 30 = true ∧ bitOf (2 ^ 30 + l) 1 = false ∧
    bitOf (2 + l) 31 = false ∧ bitOf (2 + l) 30 = false ∧ bitOf (2 + l) 1 = true := by
  interval_cases l <;> decide

/-- A command that sets one trigger of CH_OUT. -/
theorem MayWrite.chOutSet_eq {s : State} {who : By} {c : Nat} (h : MayWrite s who (P.field (c % 64)) (chOff (c % 64) 4)) (f : Nat → Fld)
    {word : Nat} (hword : keepWord s who (P.field (c % 64)) (chOff (c % 64) 4) [(f (c % 64 % 8), 1)] = word)
    (hr : word / 2 ^ 31 % 2 = 0 ∧ s.ch F.FIELD_CH_OUT_RELEASE (c % 64) = 0 ∨ s.working = true ∧ s.service = false) :
    chOutSet s c who f =
      let s := (dropArms s (P.field (c % 64))).chWr F.FIELD_CH_OUT_LEVEL (c % 64) (word % 2)
      let s := if bitOf word 31 then chRelease s (c % 64) else s
      let s := if bitOf word 30 then safeTrigger s [c % 64] 7 else s
      if bitOf word 1 then wurqStart s (c % 64) else s := by
  have hc : c % 64 < 64 := Nat.mod_lt _ (by decide)
  unfold chOutSet
  dsimp only
  rw [hword, h.chOut hc word hr, effField_out _ hc]

/-- A write of LEVEL leaves the other fields of the channel. -/
theorem chOut_kept (s : State) (c v : Nat) {f : Nat → Fld} (h : ∀ j < 8, (f j).off ≠ 0x104 + 0x20 * j ∨ (f j).lsb ≠ 0) :
    ((dropArms s (P.field c)).chWr F.FIELD_CH_OUT_LEVEL c v).ch f c = s.ch f c :=
  ch_chWr_apart _ _ (h (c % 8) (Nat.mod_lt _ (by decide)))

theorem wurqStart_starts {s : State} {c : Nat} (hi : chIsIol s c = true) (hs : chSafe s c = false) (hp : s.service = false)
    (hb : s.ch F.FIELD_CH_STAT_WURQ_BUSY c = 0) : (wurqStart s c).ch F.FIELD_CH_STAT_WURQ_BUSY c = 1 := by
  rw [wurqStart, if_pos (by simp [hi, hs, hp, hb])]
  exact ch_chWr_same ..

theorem Raised.alive {c : Prop} {s t : State} (h : Raised c s t) (hc : c) : t.alive = s.alive := by
  obtain ⟨hk, hr⟩ := h.calm hc
  have hst : t.st = s.st := hr.rd _ _ (by decide)
  rw [State.alive, hk.node rfl, hst]
  rfl

/-- A change of a comparator, and of the signal that shows it. -/
theorem inputEdge_levels (s : State) (c : Nat) (b : Bool) : ∃ u, (if c < 16 then (s.setChan c { s.chan c with comp := b }).setSig (99 + 4 * c)
      { (s.setChan c { s.chan c with comp := b }).sig (99 + 4 * c) with ext := some b } else s.setChan c { s.chan c with comp := b }) = u ∧
    u.regs = s.regs ∧ u.pub = s.pub ∧ u.node = s.node ∧ (u.chan c).comp = b := by
  refine ⟨_, rfl, ?_⟩
  split
  · exact ⟨rfl, rfl, rfl, congrArg FieldCh.comp (chan_setChan_same ..)⟩
  · exact ⟨rfl, rfl, rfl, congrArg FieldCh.comp (chan_setChan_same ..)⟩

/-- An edge of an input that holds for FILT (R357). -/
theorem inputEdge_reported {s : State} {c : Nat} {b : Bool} {x fr w : Nat} (hon : fieldOn s = true) (hc : c < 64) (ha : s.alive = true)
    (hin : fieldInputsOn s = true) (hi : chIsInput s c = true) (hfilt : 1000 * s.ch F.FIELD_CH_CFG_FILT c ≤ w) (hev : noEclEv s) :
    ∃ t, exec (.fieldInputEdge c b x fr w) s = .next t ∧ (t.chan c).comp = b ∧ t.pub.edges = s.pub.edges ++ [(c, b, x)] := by
  obtain ⟨u, hu, hregs, hpub, hnode, hcomp⟩ := inputEdge_levels s c b
  have hrd : ∀ p f, u.rd p f = s.rd p f := fun p f => rd_of_regs hregs p f
  have hguard : (!fieldInputsOn u || !chIsInput u c || decide (w < 1000 * u.ch F.FIELD_CH_CFG_FILT c)) = false := by
    have h1 : fieldInputsOn u = fieldInputsOn s := by simp only [fieldInputsOn, State.working, State.isIn, State.st, hrd]
    have h2 : chIsInput u c = chIsInput s c := by
      simp only [chIsInput, chMode, State.ch, hrd]
      rfl
    have h3 : u.ch F.FIELD_CH_CFG_FILT c = s.ch F.FIELD_CH_CFG_FILT c := hrd _ _
    rw [h1, h2, h3, hin, hi]
    simpa using hfilt
  have hevu : noEclEv u := (congrArg (· != 0) (hrd ..)).trans hev
  obtain ⟨v, hv, hr⟩ : ∃ v, (if bitOf (u.ch F.FIELD_CH_CFG_EDGE_EV c) (if b then 0 else 1) then raise u (P.field c) (c % 8) else u) = v ∧
      Raised (noEclEv u) u v := ⟨_, rfl, .ite (fun _ => raise_raised ..) fun _ => .refl u⟩
  have hva : v.alive = true := by
    rw [hr.alive hevu, State.alive, hnode, show u.st = s.st from hrd ..]
    exact ha
  have hvpub : v.pub = s.pub := ((hr.calm hevu).1.pub rfl).trans hpub
  refine ⟨_, exec_of_guard rfl (by simp [hon, hc]), ?_⟩
  dsimp only
  rw [hu, hguard, if_neg Bool.false_ne_true, hv, if_pos hva]
  constructor
  · rw [(captureEdge_quiet ..).chan c]
    show (v.chan c).comp = b
    rw [hr.chan c]
    exact hcomp
  · rw [(captureEdge_keeps ..).pub rfl]
    show v.pub.edges ++ _ = _
    rw [hvpub]

/-- Settles O39. -/
theorem fieldChannelCommands : Obligations.FieldChannelCommands := by
  refine ⟨fun s c who m hw => ?mode, fun s c who b hw hr => ?level, fun s c who hw hst => ?release,
    fun s c who hw hr hsafe hev => ?force, fun s c who hw hsv hr hiol hsafe hb => ?wurq, fun s c hon hc hb => ?wake,
    fun s c b x fr w ha hc hin hi hfilt hev => ?input, fun s c who hw => ?trip, fun s c hon hc hsafe hcfg => ?hold⟩
  case mode =>
    have hc : c % 64 < 64 := Nat.mod_lt _ (by decide)
    refine ⟨_, congrArg Host.Outcome.next ((hw.channel hc (by simp) _).trans (effField_cfg _ hc _)), ?_⟩
    rw [chModeWrite_mode, keepWord_mode s who hc]
    omega
  case level =>
    have hc : c % 64 < 64 := Nat.mod_lt _ (by decide)
    have hstore := (hw.chOut hc (b2n b) (.inl ⟨by cases b <;> rfl, hr⟩)).trans (effField_out _ hc _)
    rw [chOff_mod] at hstore
    refine ⟨_, congrArg Host.Outcome.next hstore, ?_⟩
    cases b
    · exact ch_chWr_same ..
    · exact ch_chWr_same ..
  case release =>
    obtain ⟨hword, -, -⟩ := keepWord_chOut s who (Nat.mod_lt c (by decide : 64 > 0))
    have hl := Nat.mod_lt (activeValue s who (P.field (c % 64)) (F.FIELD_CH_OUT_LEVEL (c % 64 % 8))) (by decide : 2 > 0)
    obtain ⟨h31, h30, h1, -⟩ := bitOf_trigger hl
    refine ⟨_, congrArg Host.Outcome.next (hw.chOutSet_eq _ hword (.inr hst)), ?_⟩
    dsimp only
    rw [h31, h30, h1]
    exact congrArg (· == 1) (ch_chWr_same ..)
  case force =>
    obtain ⟨-, hword, -⟩ := keepWord_chOut s who (Nat.mod_lt c (by decide : 64 > 0))
    have hl := Nat.mod_lt (activeValue s who (P.field (c % 64)) (F.FIELD_CH_OUT_LEVEL (c % 64 % 8))) (by decide : 2 > 0)
    obtain ⟨-, -, -, h31, h30, h1, -⟩ := bitOf_trigger hl
    refine ⟨_, congrArg Host.Outcome.next (hw.chOutSet_eq _ hword (.inl ⟨by omega, hr⟩)), ?_⟩
    dsimp only
    rw [h31, h30, h1, if_neg Bool.false_ne_true, if_pos rfl, if_neg Bool.false_ne_true]
    refine safeTrigger_enters 7 ((congrArg (· == 1) (chOut_kept s (c % 64) _ (by decide))).trans hsafe) ?_
    refine (congrArg (· != 0) (rd_wr_apart _ _ ?_)).trans hev
    simp [keyApart, P.ecl, P.field]
    omega
  case wurq =>
    obtain ⟨-, -, hword⟩ := keepWord_chOut s who (Nat.mod_lt c (by decide : 64 > 0))
    have hl := Nat.mod_lt (activeValue s who (P.field (c % 64)) (F.FIELD_CH_OUT_LEVEL (c % 64 % 8))) (by decide : 2 > 0)
    obtain ⟨-, -, -, -, -, -, h31, h30, h1⟩ := bitOf_trigger hl
    refine ⟨_, congrArg Host.Outcome.next (hw.chOutSet_eq _ hword (.inl ⟨by omega, hr⟩)), ?_⟩
    dsimp only
    rw [h31, h30, h1, if_neg Bool.false_ne_true, if_neg Bool.false_ne_true, if_pos rfl]
    refine wurqStart_starts ?_ ?_ ?_ ?_
    · unfold chIsIol chMode at hiol ⊢
      rw [chOut_kept _ _ _ (by decide), chOut_kept _ _ _ (by decide)]
      exact hiol
    · exact (congrArg (· == 1) (chOut_kept s (c % 64) _ (by decide))).trans hsafe
    · refine (congrArg (· != 0) (rd_wr_apart _ _ ?_)).trans hsv
      simp [keyApart, P.node, P.field]
      omega
    · exact (chOut_kept s (c % 64) _ (by decide)).trans hb
  case wake =>
    refine ⟨_, exec_of_guard rfl (by simp [hon, hc, hb]), ?_, bit_raise _ _ _ (Nat.lt_trans (Nat.mod_lt _ (by decide)) (by decide))⟩
    rw [ch_raise _ _ _ _ (by decide), ch_chWr_same]
    rfl
  case input =>
    have hon : fieldOn s = true := by
      simp only [State.alive, Bool.and_eq_true] at ha
      simp only [fieldOn, Bool.and_eq_true]
      exact ha.1.1
    exact inputEdge_reported hon hc ha hin hi hfilt hev
  case trip =>
    have hc : c % 64 < 64 := Nat.mod_lt _ (by decide)
    have hstore := (hw.channel hc (by simp) 8).trans (effField_stat _ hc rfl)
    rw [chOff_mod] at hstore
    refine ⟨_, congrArg Host.Outcome.next hstore, ?_, ?_⟩
    · unfold chTripClear chFaultNow
      rw [ch_chWr_apart _ _ (.inr (show (16 : Nat) ≠ 0 by decide))]
      exact (chFaultNow_chFaultEnd _ _ (by decide)).trans rfl
    · unfold chTripClear
      rw [ch_chWr_same, bitOf_mod, bitOf_sansBit]
      simp
  case hold =>
    refine ⟨_, exec_of_guard rfl (by simp [hon, hc, hsafe, hcfg]), ?_⟩
    unfold chSafeLevel
    rw [chan_setChan_same]
    dsimp only
    have hcfg' : State.ch (s.setChan c { s.chan c with holdEnd := true }) F.FIELD_CH_CFG_SAFE c = 1 := hcfg
    rw [hcfg', if_pos rfl]
    split <;> simp

end Sys2Proof.Machine
end

section
/-!
PROOF. VFIELD, temperature, encoders and the ADC of the field die.
-/

namespace Sys2Proof.Machine

/-! ## The field die's status beside its safe-state cause -/

/-- All registers but the fields of FD_STAT other than LAST_CAUSE. -/
def fdKey (k : Key) : Bool := !(k.page == 0x0A9 && k.off == 0x048 && k.lsb != 0)

theorem fdKey_eq_false {k : Key} (h : fdKey k = false) : k.page = 0x0A9 ∧ k.off = 0x048 ∧ k.lsb ≠ 0 := by
  simpa [fdKey, and_assoc] using h

/-- The fields of FD_STAT other than LAST_CAUSE are as before. -/
abbrev FdKept (s t : State) : Prop := RegsKeep fdKey s t

theorem FdKept.of_keeps {m : Nat} {s t : State} (h : Keeps m s t) (hm : m.testBit 41 = false) : FdKept s t where
  keep k d hk := h.pages k d (by
    obtain ⟨hp, ho, -⟩ := fdKey_eq_false hk
    simpa [regGroup, hp, ho] using hm)

theorem FdKept.rd {s t : State} (h : FdKept s t) {f : Fld} (ho : f.off = 0x048) (hl : f.lsb ≠ 0) : t.rd P.fdie f = s.rd P.fdie f :=
  RegsKeep.rd h _ _ (by simp [fdKey, ho, hl, P.fdie])

/-- Registers that the Eclipse freeze changes: of FD_STAT only LAST_CAUSE, and none of an exported event or a PIO engine. -/
def frzKey (k : Key) : Bool :=
  k.off == 0x010 || (k.page == 0 && ((k.off == 0x048 && k.lsb == 0) || (k.off == 0x070 && k.lsb == 12) || k.off == 0x074)) ||
    (decide (0x0A0 ≤ k.page ∧ k.page < 0x0A8) && k.off % 32 == 8 && k.lsb == 31) ||
    (k.page == 0x0A9 && ((k.off == 0x048 && k.lsb == 0) || k.off == 0x05C)) ||
    (decide (0x0B0 ≤ k.page ∧ k.page < 0x0B8) && k.off == 0x078 && k.lsb == 30) ||
    (decide (0x0B8 ≤ k.page ∧ k.page < 0x0BC) && k.off % 128 == 32 && (k.lsb == 31 || k.lsb == 29)) ||
    (k.page == 0x130 && k.off == 0x058)

theorem setState_frz (s : State) (st : Nat) : RegsKeep frzKey s (setState s st) := by
  unfold setState
  exact (((RegsKeep.refl _ s).wr _ (by decide)).wr _ (by decide)).wr _ (by decide)

theorem cutTransmit_frz (s : State) : RegsKeep frzKey s (cutTransmit s) := by
  unfold cutTransmit
  refine RegsKeep.each (fun t u _ => ?_) (RegsKeep.each (fun t c _ => ?_) (.refl ..))
  · refine RegsKeep.wr _ (RegsKeep.wr _ (RegsKeep.of_eq rfl) ?_) ?_ <;> (simp [frzKey, P.uart, F.UART_U_STAT_TX_BUSY, F.UART_U_STAT_DE]; omega)
  · refine RegsKeep.wr _ (RegsKeep.of_eq rfl) ?_
    simp [frzKey, P.can, F.CAN_STATUS_TX_ACTIVE]
    omega

theorem chEnterSafe_frz (s : State) (fo mi : Bool) {c : Nat} (h : c < 64) : RegsKeep frzKey s (chEnterSafe s fo mi c) := by
  unfold chEnterSafe
  refine RegsKeep.ite (fun _ => .of_eq ?_) fun _ => ?_
  · cases fo <;> rfl
  · refine RegsKeep.wr (s := s) 1 (.of_eq rfl) ?_
    simp [frzKey, P.field, F.FIELD_CH_STAT_SAFE_ACTIVE]
    omega

theorem evOnly_frz (s : State) (p k : Nat) : RegsKeep frzKey s (evOnly s p k) :=
  (RegsKeep.refl _ s).setBit k true (by simp [frzKey, F.HDR_EV_STAT_EV])

theorem fdieEv_regs_of {w : Key → Bool} {ev : Ev} (hev : ∀ s p k, RegsKeep w s (ev s p k)) (s : State) (k : Nat) :
    RegsKeep w s (fdieEv ev s k) := by
  unfold fdieEv
  exact RegsKeep.ite (fun _ => .of_eq rfl) fun _ => hev ..

theorem safeEnter_frz (s : State) (chs : List Nat) (h : ∀ c ∈ chs, c < 64) (cause : Nat) :
    RegsKeep frzKey s (safeEnter evOnly s chs cause) := by
  have henter : RegsKeep frzKey s (chs.foldl (fun t c => chEnterSafe t false false c) s) :=
    RegsKeep.foldl _ (fun t c hc => chEnterSafe_frz t false false (h c hc)) _ (.refl ..)
  unfold safeEnter
  refine RegsKeep.ite (fun _ => ?_) fun _ => henter
  exact RegsKeep.trans ((henter.wr cause (by decide)).inc 1 (by decide)) (fdieEv_regs_of evOnly_frz ..)

theorem freeze_frz (s : State) (cause tF : Nat) (late ring : Bool) (sc co : Nat) : RegsKeep frzKey s (freeze s cause tF late ring sc co) := by
  unfold freeze
  refine RegsKeep.ite (fun _ => .refl ..) fun _ => ?_
  have h : ∀ n e c r, RegsKeep frzKey s (cutTransmit { ((((setState s NS.eclipse).wr P.ecl F.ECLIPSE_ECL_STAT_FROZEN 1).wr P.ecl
      F.ECLIPSE_ECL_STAT_CAUSE cause).wr P.ecl F.ECLIPSE_ECL_STAT_LATE (b2n late)) with node := n, edge := e, ecl := c, router := r }) :=
    fun n e c r => RegsKeep.trans (RegsKeep.put_freeze
      ((((setState_frz s _).wr _ (by decide)).wr _ (by decide)).wr _ (by decide)) _ _ _ _) (cutTransmit_frz _)
  exact RegsKeep.ite (fun _ => h ..) fun _ => RegsKeep.trans (h ..) (safeEnter_frz _ _ (fun c hc => List.mem_range.mp hc) _)

theorem eclRise_frz (s : State) (src : Nat) : RegsKeep frzKey s (eclRise s src) := by
  unfold eclRise freezeCfg
  exact RegsKeep.ite (fun _ => freeze_frz ..) fun _ => .refl ..

/-- What freezes nothing writes no field of FD_STAT. -/
theorem Raised.fdKept {s t : State} (h : Raised True s t) : FdKept s t :=
  (h.calm trivial).2.mono fun k hk => by
    obtain ⟨hp, ho, -⟩ := fdKey_eq_false hk
    simp [calmKey, hp, ho]

theorem eclRise_fdKept (s : State) (src : Nat) : FdKept s (eclRise s src) :=
  (eclRise_frz s src).mono fun k hk => by
    obtain ⟨hp, ho, hl⟩ := fdKey_eq_false hk
    simp [frzKey, hp, ho, hl]

theorem evOnly_fdKept (s : State) (p k : Nat) : FdKept s (evOnly s p k) := (evOnly_raised s p k).fdKept

theorem rise_fdKept (fuel : Nat) (s : State) (src : Nat) : FdKept s (rise fuel s src) := by
  induction fuel generalizing s src with
  | zero => exact .refl ..
  | succ n ih =>
    unfold rise
    refine RegsKeep.ite (fun _ => .refl ..) fun _ => ?_
    refine RegsKeep.trans ?_ (eclRise_fdKept ..)
    refine RegsKeep.each (fun t r _ => ?_) ?_
    · refine RegsKeep.ite (fun h => ?_) fun _ => .refl ..
      simp only [Bool.and_eq_true, decide_eq_true_eq] at h
      have hp := (pioTrig_raised (c := True) t _ (t.rd P.ev3 (F.EVENTC_PIOR_TRIG r)) h.2).fdKept
      refine RegsKeep.ite (fun _ => ?_) fun _ => hp
      have he := hp.trans (evOnly_fdKept _ (P.pio (t.rd P.ev3 (F.EVENTC_PIOR_ENGINE r))) 0)
      exact RegsKeep.ite (fun _ => he.trans (ih ..)) fun _ => he
    · refine RegsKeep.each (fun t p _ => (evtRise_raised ..).fdKept) ?_
      exact RegsKeep.each (fun t e _ => (exportRise_raised ..).fdKept) (.refl ..)

theorem raise_fdKept (s : State) (p k : Nat) : FdKept s (raise s p k) := by
  unfold raise
  exact RegsKeep.ite (fun _ => (evOnly_fdKept ..).trans (rise_fdKept ..)) fun _ => evOnly_fdKept ..

theorem fdieEv_fdKept (s : State) (k : Nat) : FdKept s (fdieEv raise s k) := fdieEv_regs_of raise_fdKept s k

/-! ## SUPPLY on every channel (R362) -/

theorem keyApart_channel {a b : Nat} (ha : a < 64) (hb : b < 64) (h : b ≠ a) {f g : Nat → Fld} (hf : ∀ j, (f j).off = 0x108 + 0x20 * j)
    (hg : ∀ j, (g j).off = 0x108 + 0x20 * j) : keyApart (P.field b) (f (b % 8)) (P.field a) (g (a % 8)) = true := by
  simp only [keyApart, hf, hg, P.field, Bool.or_eq_true, bne_iff_ne]
  omega

theorem chFaultNow_chFault_ne (s : State) {a b : Nat} (ha : a < 64) (hb : b < 64) (h : b ≠ a) (k j : Nat) :
    chFaultNow (chFault raise s a k) b j = chFaultNow s b j := by
  unfold chFault chFaultNow
  dsimp only
  rw [ch_raise _ _ _ _ (by decide)]
  unfold State.ch State.chWr
  rw [rd_wr_apart _ _ (keyApart_channel ha hb h (fun _ => rfl) fun _ => rfl),
    rd_wr_apart _ _ (keyApart_channel ha hb h (fun _ => rfl) fun _ => rfl)]

theorem chFaultNow_chFaultEnd_ne (s : State) {a b : Nat} (ha : a < 64) (hb : b < 64) (h : b ≠ a) (k j : Nat) :
    chFaultNow (chFaultEnd s a k) b j = chFaultNow s b j :=
  congrArg (bitOf · j) (rd_wr_apart _ _ (keyApart_channel ha hb h (fun _ => rfl) fun _ => rfl))

/-- What the step of each number below `n` establishes for itself, and no other undoes, holds of all of them at the end. -/
theorem each_establishes {n : Nat} {f : State → Nat → State} {q : State → Nat → Prop} (hmake : ∀ t a, a < n → q (f t a) a)
    (hkeep : ∀ t a b, a < n → b < n → b ≠ a → q t b → q (f t a) b) (s : State) : ∀ b < n, q (s.each n f) b := by
  have hall : ∀ m ≤ n, ∀ b < m, q (s.each m f) b := by
    intro m
    induction m with
    | zero => exact fun _ _ hb => absurd hb (Nat.not_lt_zero _)
    | succ m ih =>
      intro hm b hb
      unfold State.each
      rw [List.range_succ, List.foldl_append, List.foldl_cons, List.foldl_nil]
      by_cases h : b = m
      · exact h ▸ hmake _ b (by omega)
      · exact hkeep _ _ _ hm (by omega) h (ih (by omega) b (by omega))
  exact hall n (Nat.le_refl _)

theorem supplyAll_sets (s : State) {c : Nat} (hc : c < 64) : chFaultNow (supplyAll raise s true) c 6 = true := by
  refine each_establishes (q := fun t b => chFaultNow t b 6 = true) (fun t a _ => ?make) (fun t a b ha hb h hq => ?keep) s c hc
  case make =>
    rw [if_pos rfl]
    split
    · assumption
    · rw [chFaultNow_chFault _ _ (by decide)]
      rfl
  case keep =>
    rw [if_pos rfl]
    split
    · exact hq
    · rw [chFaultNow_chFault_ne _ ha hb h]
      exact hq

theorem supplyAll_ends (s : State) {c : Nat} (hc : c < 64) : chFaultNow (supplyAll raise s false) c 6 = false := by
  refine each_establishes (q := fun t b => chFaultNow t b 6 = false) (fun t a _ => ?make) (fun t a b ha hb h hq => ?keep) s c hc
  case make =>
    rw [if_neg Bool.false_ne_true, chFaultNow_chFaultEnd _ _ (by decide)]
    rfl
  case keep =>
    rw [if_neg Bool.false_ne_true, chFaultNow_chFaultEnd_ne _ ha hb h]
    exact hq

theorem chWr_fdKept {s t : State} (h : FdKept s t) (f : Nat → Fld) (c v : Nat) : FdKept s (t.chWr f c v) :=
  RegsKeep.wr _ h (by simp [fdKey, P.field]; omega)

theorem supplyAll_fdKept (s : State) (b : Bool) : FdKept s (supplyAll raise s b) := by
  unfold supplyAll
  refine RegsKeep.foldl _ (fun t c _ => ?_) _ (.refl ..)
  refine RegsKeep.ite (fun _ => RegsKeep.ite (fun _ => .refl ..) fun _ => ?_) fun _ => chWr_fdKept (.refl ..) ..
  exact RegsKeep.trans (chWr_fdKept (chWr_fdKept (.refl ..) ..) ..) (raise_fdKept ..)

/-! ## The branches' over-temperature (R472) -/

theorem powerEv_fdKept (s : State) (page k : Nat) : FdKept s (powerEv s page k) :=
  RegsKeep.ite (fun _ => raise_fdKept ..) fun _ => evOnly_fdKept ..

theorem logAdd_fdKept (s : State) (x : LogEnt) : FdKept s (logAdd s x) := by
  refine RegsKeep.trans (FdKept.of_keeps (logPut_keeps s x) rfl) ?_
  exact RegsKeep.ite (fun _ => raise_fdKept ..) fun _ => .refl ..

theorem hubLog_fdKept (s : State) (kind : Nat) (c a b : Option Nat) : FdKept s (hubLog s kind c a b) := by
  refine RegsKeep.trans (.of_eq ?_) (logAdd_fdKept ..)
  rw [orDraw_regs_eq, orDraw_regs_eq, orDraw_regs_eq]

theorem setCause_fdKept (s : State) (c v : Nat) : FdKept s (setCause s c v) := by
  have hcause := FdKept.of_keeps (State.ctlWr_keeps s c F.POWER_MAIN_STAT_LAST_CAUSE F.BRANCH_BR_STAT_LAST_CAUSE v) rfl
  exact RegsKeep.ite (fun _ => hcause.trans (hubLog_fdKept ..)) fun _ => hcause

theorem setPg_fdKept (s : State) (c : Nat) (b : Bool) : FdKept s (setPg s c b) := by
  refine RegsKeep.ite (fun _ => .refl ..) fun _ => ?_
  refine RegsKeep.trans (FdKept.of_keeps (State.ctlWr_keeps s c F.POWER_MAIN_STAT_PG F.BRANCH_BR_STAT_PG (b2n b)) rfl) ?_
  exact RegsKeep.ite (fun _ => powerEv_fdKept ..) fun _ => powerEv_fdKept ..

theorem brGateOff_fdKept (s : State) (b st : Nat) : FdKept s (brGateOff s b st) := by
  have hkeep : FdKept s (keepEnergy s b) := .of_keeps (keepEnergy_keeps ..) rfl
  have hstate : ∀ t : State, FdKept t (setCtlState (unqueue t b) b st) := fun t =>
    RegsKeep.trans (t := unqueue t b) (.of_eq rfl) (FdKept.of_keeps (setCtlState_keeps ..) rfl)
  refine RegsKeep.trans (RegsKeep.trans ?_ (hstate _)) (setPg_fdKept ..)
  split
  · exact hkeep.trans (.of_eq rfl)
  · exact hkeep

theorem branchesOvertemp_fdKept (s : State) : FdKept s (branchesOvertemp s) := by
  refine RegsKeep.each (fun t b _ => ?_) (.refl ..)
  exact RegsKeep.ite (fun _ => (setCause_fdKept ..).trans (brGateOff_fdKept ..)) fun _ =>
    RegsKeep.ite (fun _ => .refl ..) fun _ => setCause_fdKept ..

theorem branchesCool_fdKept (s : State) : FdKept s (branchesCool s) := by
  refine RegsKeep.each (fun t b _ => RegsKeep.ite (fun _ => ?_) fun _ => .refl ..) (.refl ..)
  refine RegsKeep.ite (fun _ => setCause_fdKept ..) fun _ => ?_
  have hstate : FdKept t (setCtlState (unqueue t b) b 1) :=
    RegsKeep.trans (t := unqueue t b) (.of_eq rfl) (FdKept.of_keeps (setCtlState_keeps ..) rfl)
  exact hstate.trans (.of_eq rfl)


/-! ## Encoders (R367 to R371) -/

theorem chDriverOn_of_overtemp {s : State} (h : s.rd P.fdie F.FDIE_FD_STAT_OVERTEMP = 1) (c : Nat) : chDriverOn s c = false := by
  have : chHeldOff s c = true := by simp [chHeldOff, State.on, h]
  rw [chDriverOn, if_pos this]

theorem chFaultNow_fdieEv (s : State) (k c j : Nat) : chFaultNow (fdieEv raise s k) c j = chFaultNow s c j := by
  unfold fdieEv
  split
  · rfl
  · exact congrArg (bitOf · j) (ch_raise _ _ _ _ (by decide))

theorem exec_encoderEdge {s : State} {e : Nat} {a b : Bool} {ed : EncEdge} (hon : fieldOn s = true) (he : e < 4) (hc : encCounts s e = true) :
    ∃ u, u.regs = s.regs ∧ exec (.encoderEdge e a b ed) s = .next
      (match encDelta (encMode s e) (s.field.encs.at {} e).a (s.field.encs.at {} e).b
          (if encPasses s e ed.holdA then a else (s.field.encs.at {} e).a) (if encPasses s e ed.holdB then b else (s.field.encs.at {} e).b) with
        | none => trkCountErr (raise ((u.inc P.enc (F.ENCODER_ENC_ERRS_N e)).wr P.enc (F.ENCODER_ENC_STAT_ERR_SEEN e) 1) P.enc (2 * e + 1)) e
        | some d => if d = 0 then u
          else trkEdge (u.wr P.enc (F.ENCODER_ENC_COUNT_C e) (ofSigned 32 (u.rd P.enc (F.ENCODER_ENC_COUNT_C e) + d))) e ed.t2 d) := by
  refine ⟨_, ?_, (exec_of_guard rfl (by simp [hon, he])).trans (congrArg Host.Outcome.next (if_neg (by simpa using hc)))⟩
  rfl

theorem rd_raise_enc (s : State) (p k : Nat) {f : Fld} (h : 0x040 ≤ f.off) : (raise s p k).rd P.enc f = s.rd P.enc f :=
  rd_raise _ _ _ _ _ (by simp [evKey, P.enc]; omega)

theorem ofSigned_lt (x : Int) : ofSigned 32 x < 2 ^ 32 := by unfold ofSigned; omega

/-! ## The ADC (R372) -/

/-- The mean of input `i` in progress, its result and what its conversion reads are as before. -/
structure AdcKept (i : Nat) (s t : State) : Prop where
  mean : t.field.means.at (0, 0, 0) i = s.field.means.at (0, 0, 0) i
  regs : ∀ f ∈ [F.ADC_SCAN_EN, F.ADC_ADC_CFG_AVG, F.ADC_RESULT_VALID i, F.ADC_RESULT_RAW i], t.rd P.adc f = s.rd P.adc f

theorem AdcKept.trans {i : Nat} {s t u : State} (h : AdcKept i s t) (k : AdcKept i t u) : AdcKept i s u :=
  ⟨k.mean.trans h.mean, fun f hf => (k.regs f hf).trans (h.regs f hf)⟩

theorem AdcKept.wr {i : Nat} {s t : State} (h : AdcKept i s t) {p : Nat} {g : Fld} (v : Nat)
    (hg : p ≠ P.adc ∨ ∀ f ∈ [F.ADC_SCAN_EN, F.ADC_ADC_CFG_AVG, F.ADC_RESULT_VALID i], f.off ≠ g.off) : AdcKept i s (t.wr p g v) where
  mean := h.mean
  regs f hf := by
    refine (rd_wr_apart _ _ ?_).trans (h.regs f hf)
    simp only [keyApart, Bool.or_eq_true, bne_iff_ne]
    rcases hg with hg | hg
    · exact .inl (.inl (Ne.symm hg))
    · refine .inl (.inr ?_)
      simp only [List.mem_cons, List.not_mem_nil, or_false] at hf
      rcases hf with rfl | rfl | rfl | rfl
      · exact hg _ (by simp)
      · exact hg _ (by simp)
      · exact hg _ (by simp)
      · exact hg (F.ADC_RESULT_VALID i) (by simp)

theorem AdcKept.of_regs {i : Nat} {s t : State} (h : t.regs = s.regs)
    (hm : t.field.means.at (0, 0, 0) i = s.field.means.at (0, 0, 0) i) : AdcKept i s t := ⟨hm, fun f _ => rd_of_regs h _ f⟩

theorem AdcKept.refl (i : Nat) (s : State) : AdcKept i s s := .of_regs rfl rfl

theorem adc_body {i : Nat} {f : Fld} (hf : f ∈ [F.ADC_SCAN_EN, F.ADC_ADC_CFG_AVG, F.ADC_RESULT_VALID i, F.ADC_RESULT_RAW i]) : 0x040 ≤ f.off := by
  simp only [List.mem_cons, List.not_mem_nil, or_false] at hf
  rcases hf with rfl | rfl | rfl | rfl <;> simp [F.ADC_SCAN_EN, F.ADC_ADC_CFG_AVG, F.ADC_RESULT_VALID, F.ADC_RESULT_RAW] <;> omega

theorem raise_adcKept (i : Nat) (s : State) (p k : Nat) : AdcKept i s (raise s p k) where
  mean := by rw [(raise_raised s p k).field]
  regs f hf := rd_raise _ _ _ _ _ (by have := adc_body hf; simp [evKey, P.adc]; omega)

/-! ### Temperatures that are copies of ADC inputs (R530) -/

theorem hubLog_quiet (s : State) (kind : Nat) (c a b : Option Nat) : Quiet s (hubLog s kind c a b) := by
  have hdraw : ∀ (t : State) w v, Quiet t (orDraw t w v).2 := fun t w v => by
    cases v
    · exact .of_keeps (State.draw_keeps t w) rfl
    · exact .refl t
  refine .trans (((hdraw s 8 c).trans (hdraw _ 16 a)).trans (hdraw _ 32 b)) ?_
  exact (Quiet.of_keeps (logPut_keeps ..) rfl).trans (.ite (raise_quiet ..) (.refl _))

/-- Writes of the management block's own state. -/
theorem Quiet.put_mgmt {s t : State} (h : Quiet s t) (m : MgmtSt) : Quiet s { t with mgmt := m } :=
  h.trans ⟨rfl, rfl, fun _ => rfl, fun _ => ⟨rfl, .inl rfl⟩, fun _ => ⟨rfl, .inl rfl⟩⟩

theorem tempReading_quiet (s : State) (k : Nat) (v : Int) : Quiet s (tempReading s k v) := by
  have hset : ∀ (t : State) f e, Quiet t (raise (t.setBit P.sens f k true) P.sens e) := fun t f e =>
    ((Quiet.refl t).wr ..).trans (raise_quiet ..)
  have hwarm : ∀ t : State, Quiet t (if v ≤ (tempWarn t : Int) - 40 then
      { t with mgmt := { t.mgmt with warmed := putBit t.mgmt.warmed k false } } else t) := fun t =>
    .ite ((Quiet.refl t).put_mgmt _) (.refl t)
  refine Quiet.trans (((Quiet.refl s).wr P.sens (F.SENSORS_TEMP_T k) (ofSigned 16 v)).trans (hwarm _)) ?_
  unfold tempReading
  refine Quiet.trans (.ite ?_ (.refl _)) (.ite (.ite ?_ ?_) (.refl _))
  · exact (((Quiet.refl _).put_mgmt _).trans (hset ..)).trans (hubLog_quiet ..)
  · exact (hset ..).trans (hubLog_quiet ..)
  · exact hset ..

theorem adcCopies_kept (s : State) (i j : Nat) : AdcKept i s (adcCopies s j) where
  mean := by
    have hq : Quiet s (adcCopies s j) := .ite (tempReading_quiet ..) (.refl s)
    rw [hq.field]
  regs f hf := (adcCopies_keeps s j).rd_body group_adc (adc_body hf) rfl

/-- What follows a renewed result: the limits and the FIFO. -/
def adcNote (s : State) (i w : Nat) (out : Bool) : State :=
  let s := if out then raise (s.setBit P.adc F.ADC_LIM_STAT_OUT i true) P.adc 0 else s
  if !s.bit P.adc F.ADC_FIFO_MASK_EN i then s
  else if 64 ≤ s.field.fifo.length then raise (s.wr P.adc F.ADC_FIFO_STAT_OVF 1) P.adc 1
  else
    let s := { s with field := { s.field with fifo := s.field.fifo ++ [(i, w)] } }
    s.wr P.adc F.ADC_FIFO_STAT_LEVEL s.field.fifo.length

theorem adcResult_eq (s : State) (i raw : Nat) (fixed : Int) : ∃ (u : State) (w : Nat) (out : Bool), u.regs = s.regs ∧ u.field = s.field ∧
    adcResult s i raw fixed = adcNote ((((u.wr P.adc (F.ADC_RESULT_VALID i) 1).wr P.adc (F.ADC_RESULT_RAW i) raw).wr P.adc
      (F.ADC_RESULT_VALUE i) w).wr P.adc (F.ADC_RESULT_OVR i) (b2n out)) i w out := by
  have hdraw : ∀ v : Int, (if -32768 ≤ v ∧ v < 32768 then (ofSigned 16 v, s) else s.draw 16).2.regs = s.regs ∧
      (if -32768 ≤ v ∧ v < 32768 then (ofSigned 16 v, s) else s.draw 16).2.field = s.field := fun v => by
    split <;> exact ⟨rfl, rfl⟩
  exact ⟨_, _, _, (hdraw _).1, (hdraw _).2, rfl⟩

theorem adcNote_kept (i : Nat) (s : State) (j w : Nat) (out : Bool) : AdcKept i s (adcNote s j w out) := by
  have hlimit : AdcKept i s (if out then raise (s.setBit P.adc F.ADC_LIM_STAT_OUT j true) P.adc 0 else s) := by
    split
    · exact ((AdcKept.refl i s).wr _ (.inr (by simp [F.ADC_SCAN_EN, F.ADC_ADC_CFG_AVG, F.ADC_RESULT_VALID, F.ADC_LIM_STAT_OUT]; omega))).trans
        (raise_adcKept ..)
    · exact .refl i s
  unfold adcNote
  dsimp only
  generalize (if out then raise (s.setBit P.adc F.ADC_LIM_STAT_OUT j true) P.adc 0 else s) = u at hlimit ⊢
  split
  · exact hlimit
  · have hstat : ∀ (t : State) g v, AdcKept i u t → g.off = 0x058 → AdcKept i u (t.wr P.adc g v) := fun t g v h hg =>
      h.wr v (.inr (by simp [F.ADC_SCAN_EN, F.ADC_ADC_CFG_AVG, F.ADC_RESULT_VALID, hg]; omega))
    split
    · exact hlimit.trans ((hstat _ _ _ (.refl i u) rfl).trans (raise_adcKept ..))
    · refine hlimit.trans (hstat _ _ _ (.of_regs ?_ ?_) rfl) <;> rfl

theorem adcResult_kept_ne {i j : Nat} (h : j ≠ i) (s : State) (raw : Nat) (fixed : Int) : AdcKept i s (adcResult s j raw fixed) := by
  obtain ⟨u, w, out, hu, hf, he⟩ := adcResult_eq s j raw fixed
  have hres : ∀ (g : Nat → Fld), g j = ⟨0x100 + 4 * j, (g j).lsb, (g j).width, (g j).acc, (g j).reset, (g j).cls⟩ →
      P.adc ≠ P.adc ∨ ∀ f ∈ [F.ADC_SCAN_EN, F.ADC_ADC_CFG_AVG, F.ADC_RESULT_VALID i], f.off ≠ (g j).off := fun g hg => by
    refine .inr ?_
    rw [hg]
    simp [F.ADC_SCAN_EN, F.ADC_ADC_CFG_AVG, F.ADC_RESULT_VALID]
    omega
  rw [he]
  refine AdcKept.trans ?_ (adcNote_kept ..)
  exact ((((AdcKept.of_regs hu (congrArg (·.means.at (0, 0, 0) i) hf)).wr _ (hres F.ADC_RESULT_VALID rfl)).wr _
    (hres F.ADC_RESULT_RAW rfl)).wr _ (hres F.ADC_RESULT_VALUE rfl)).wr _ (hres F.ADC_RESULT_OVR rfl)

theorem at_put_mean (s : State) (i : Nat) (x : Nat × Nat × Int) :
    ({ s with field := { s.field with means := s.field.means.put (0, 0, 0) i x } } : State).field.means.at (0, 0, 0) i = x := by
  simp

theorem AdcKept.put_mean {i j : Nat} (h : j ≠ i) (s : State) (x : Nat × Nat × Int) :
    AdcKept i s { s with field := { s.field with means := s.field.means.put (0, 0, 0) j x } } :=
  .of_regs rfl (Tbl.at_put_ne _ _ (Ne.symm h) _)

theorem adcConvert_kept_ne {i j : Nat} (h : j ≠ i) (s : State) (raw : Nat) (v : Int) : AdcKept i s (adcConvert s j raw v) := by
  unfold adcConvert
  dsimp only
  split
  · exact .put_mean h ..
  · exact ((AdcKept.put_mean h s _).trans (adcResult_kept_ne h ..)).trans (adcCopies_kept ..)

/-- The result that completes a mean. -/
theorem adcResult_shows (s : State) (i raw : Nat) (fixed : Int) : (adcResult s i raw fixed).rd P.adc (F.ADC_RESULT_VALID i) = 1 ∧
    (adcResult s i raw fixed).rd P.adc (F.ADC_RESULT_RAW i) = raw % 4096 := by
  obtain ⟨u, w, out, -, -, he⟩ := adcResult_eq s i raw fixed
  have happart : ∀ f g : Nat → Fld, (f i).lsb ≠ (g i).lsb → keyApart P.adc (f i) P.adc (g i) = true := fun f g h => by
    simp [keyApart, h]
  have hn := fun t => adcNote_kept i t i w out
  rw [he, (hn _).regs (F.ADC_RESULT_VALID i) (by simp), (hn _).regs (F.ADC_RESULT_RAW i) (by simp)]
  have hover : ∀ (t : State) (f : Nat → Fld), (f i).lsb ≠ 30 → (f i).lsb ≠ 0 →
      ((t.wr P.adc (F.ADC_RESULT_VALUE i) w).wr P.adc (F.ADC_RESULT_OVR i) (b2n out)).rd P.adc (f i) = t.rd P.adc (f i) := fun t f h30 h0 =>
    (rd_wr_apart _ _ (happart f F.ADC_RESULT_OVR h30)).trans (rd_wr_apart _ _ (happart f F.ADC_RESULT_VALUE h0))
  rw [hover _ F.ADC_RESULT_VALID (by simp [F.ADC_RESULT_VALID]) (by simp [F.ADC_RESULT_VALID]),
    hover _ F.ADC_RESULT_RAW (by simp [F.ADC_RESULT_RAW]) (by simp [F.ADC_RESULT_RAW])]
  exact ⟨(rd_wr_apart _ _ (happart _ _ (by simp [F.ADC_RESULT_VALID, F.ADC_RESULT_RAW]))).trans (rd_wr_same ..), rd_wr_same ..⟩

/-- A fold over a range whose steps keep an invariant, and all but the one at `i` a relation: that step stands in between. -/
theorem range_foldl_at {p : State → Prop} {r : State → State → Prop} (hrefl : ∀ s, r s s) (htrans : ∀ {s t u}, r s t → r t u → r s u)
    {n i : Nat} (hi : i < n) {f : State → Nat → State} (hp : ∀ t j, p t → p (f t j)) (hf : ∀ t j, j ≠ i → p t → r t (f t j))
    {s : State} (hs : p s) : ∃ u, p u ∧ r s u ∧ p ((List.range n).foldl f s) ∧ r (f u i) ((List.range n).foldl f s) := by
  have hfold : ∀ (l : List Nat) (t : State), p t → i ∉ l → p (l.foldl f t) ∧ r t (l.foldl f t) := by
    intro l
    induction l with
    | nil => exact fun t ht _ => ⟨ht, hrefl t⟩
    | cons j l ih =>
      intro t ht hl
      rw [List.mem_cons, not_or] at hl
      obtain ⟨h1, h2⟩ := ih _ (hp t j ht) hl.2
      exact ⟨h1, htrans (hf t j (Ne.symm hl.1) ht) h2⟩
  obtain ⟨l, m, hlm⟩ := List.append_of_mem (List.mem_range.2 hi)
  have hnd := hlm ▸ List.nodup_range (n := n)
  rw [List.nodup_append, List.nodup_cons] at hnd
  obtain ⟨-, ⟨hm, -⟩, hlr⟩ := hnd
  obtain ⟨h1, h2⟩ := hfold l s hs fun h => hlr i h i (List.mem_cons_self ..) rfl
  obtain ⟨h3, h4⟩ := hfold m _ (hp _ i h1) hm
  rw [hlm, List.foldl_append, List.foldl_cons]
  exact ⟨_, h1, h2, h3, h4⟩

theorem execAdcRound_converts {s : State} {r : List (Nat × Nat × Int)} {i j raw : Nat} {v : Int} (hon : fieldOn s = true) (hi : i < 24)
    (h7 : i ≠ 7) (hscan : s.bit P.adc F.ADC_SCAN_EN i = true) (hr : (r.find? fun e => e.1 == i) = some (j, raw, v)) :
    ∃ u t, exec (.adcRound r) s = .next t ∧ AdcKept i s u ∧ AdcKept i (adcConvert u i (raw % 4096) v) t := by
  obtain ⟨u, -, hsu, -, hut⟩ := range_foldl_at (p := fun _ => True) (r := AdcKept i) (AdcKept.refl i) AdcKept.trans hi
    (f := fun t j => if t.bit P.adc F.ADC_SCAN_EN j && j != 7 then
        match r.find? fun e => e.1 == j with
        | some (_, raw, v) => adcConvert t j (raw % 4096) v
        | none => t
      else { t with field := { t.field with means := t.field.means.put (0, 0, 0) j (0, 0, 0) } })
    (fun _ _ _ => trivial) (fun t j hj _ => by
      dsimp only
      split
      · split
        · exact adcConvert_kept_ne hj ..
        · exact .refl ..
      · exact .put_mean hj ..) (s := s) trivial
  refine ⟨u, _, exec_of_guard rfl hon, hsu, ?_⟩
  have hbit : u.bit P.adc F.ADC_SCAN_EN i = true := (congrArg (bitOf · i) (hsu.regs _ (by simp))).trans hscan
  rwa [if_pos (by simp [hbit, h7]), hr] at hut

/-- Settles O41: the field die's supply and temperature act on every channel, an encoder counts or is in error, and the ADC's round
stands among the rounds of the other inputs. -/
theorem fieldSupplyEncodersAndAdc : Obligations.FieldSupplyEncodersAndAdc := by
  unfold Obligations.FieldSupplyEncodersAndAdc
  have henc : ∀ {m : Nat} {s t : State}, Keeps m s t → m.testBit 63 = false → ∀ f : Fld, 0x040 ≤ f.off → t.rd P.enc f = s.rd P.enc f :=
    fun h hm f hf => h.rd_body group_enc hf hm
  refine ⟨?uv, ?rev, ?recover, ?hot, ?cool, ?count, ?illegal, ?z, ?brk, ?brkClear, ?lost, ?restored, ?adc, ?fifo⟩
  case uv =>
    intro s c hon hc h
    refine ⟨_, exec_of_guard rfl (by simp [hon, h]), ?_, (chFaultNow_fdieEv ..).trans (supplyAll_sets _ hc)⟩
    exact ((fdieEv_fdKept _ _).rd rfl (by decide)).trans
      (((supplyAll_fdKept _ _).rd rfl (by decide)).trans (rd_wr_same ..))
  case rev =>
    intro s c hon hc h
    refine ⟨_, exec_of_guard rfl (by simp [hon, h]), ?_, (chFaultNow_fdieEv ..).trans (supplyAll_sets _ hc)⟩
    exact ((fdieEv_fdKept _ _).rd rfl (by decide)).trans
      (((supplyAll_fdKept _ _).rd rfl (by decide)).trans (rd_wr_same ..))
  case recover =>
    intro s c hon hc
    refine ⟨_, exec_of_guard rfl hon, ?_, ?_, supplyAll_ends _ hc⟩
    · exact ((supplyAll_fdKept _ _).rd rfl (by decide)).trans ((rd_wr_apart _ _ rfl).trans (rd_wr_same ..))
    · exact ((supplyAll_fdKept _ _).rd rfl (by decide)).trans (rd_wr_same ..)
  case hot =>
    intro s c hon _ h
    refine ⟨_, exec_of_guard rfl (by simp [hon, h]), ?_⟩
    have hset := ((branchesOvertemp_fdKept _).rd rfl (by decide)).trans (((fdieEv_fdKept
      (s.wr P.fdie F.FDIE_FD_STAT_OVERTEMP 1) 3).rd (f := F.FDIE_FD_STAT_OVERTEMP) rfl (by decide)).trans (rd_wr_same ..))
    exact ⟨hset, chDriverOn_of_overtemp hset c⟩
  case cool =>
    intro s hon h
    exact ⟨_, exec_of_guard rfl (by simp [hon, h]), ((branchesCool_fdKept _).rd rfl (by decide)).trans (rd_wr_same ..)⟩
  case count =>
    intro s e a b ed d hon he hc hd hd0
    obtain ⟨u, hu, hexec⟩ := exec_encoderEdge (ed := ed) (a := a) (b := b) hon he hc
    rw [hd] at hexec
    refine ⟨_, hexec, ?_⟩
    dsimp only
    rw [if_neg hd0, rd_of_regs ((trkEdge_keeps ..).regs rfl), rd_wr_same, rd_of_regs hu]
    exact Nat.mod_eq_of_lt (ofSigned_lt _)
  case illegal =>
    intro s e a b ed hon he hc hd
    obtain ⟨u, hu, hexec⟩ := exec_encoderEdge (ed := ed) (a := a) (b := b) hon he hc
    rw [hd] at hexec
    refine ⟨_, hexec, ?_, ?_⟩
    · rw [henc (trkCountErr_keeps ..) rfl _ (by simp [F.ENCODER_ENC_STAT_ERR_SEEN]; omega), rd_raise_enc _ _ _ (by simp [F.ENCODER_ENC_STAT_ERR_SEEN]; omega)]
      exact rd_wr_same ..
    · rw [henc (trkCountErr_keeps ..) rfl _ (by simp [F.ENCODER_ENC_ERRS_N]; omega), rd_raise_enc _ _ _ (by simp [F.ENCODER_ENC_ERRS_N]; omega),
        rd_wr_apart _ _ (by simp [keyApart, F.ENCODER_ENC_ERRS_N, F.ENCODER_ENC_STAT_ERR_SEEN]), rd_inc_same, rd_of_regs hu]
      rfl
  case z =>
    intro s e hon he hc
    exact ⟨_, exec_of_guard rfl (by simp [hon, he, hc]), rd_wr_same ..⟩
  case brk =>
    intro s e l hon he hl
    refine ⟨_, exec_of_guard rfl (by simp [hon, he, hl]), ?_, ?_⟩
    · rw [henc (trkBreak_keeps ..) rfl _ (by simp [F.ENCODER_ENC_STAT_BREAK]; omega), rd_raise_enc _ _ _ (by simp [F.ENCODER_ENC_STAT_BREAK]; omega),
        rd_wr_apart _ _ (by simp [keyApart, F.ENCODER_ENC_STAT_BREAK, F.ENCODER_ENC_STAT_BREAK_SEEN])]
      exact (rd_wr_apart _ _ (by simp [keyApart, F.ENCODER_ENC_STAT_BREAK, F.ENCODER_ENC_STAT_BREAK_LINES])).trans (rd_wr_same ..)
    · rw [henc (trkBreak_keeps ..) rfl _ (by simp [F.ENCODER_ENC_STAT_BREAK_SEEN]; omega),
        rd_raise_enc _ _ _ (by simp [F.ENCODER_ENC_STAT_BREAK_SEEN]; omega)]
      exact rd_wr_same ..
  case brkClear =>
    intro s e hon he h
    refine ⟨_, exec_of_guard rfl (by simp [hon, he, h]), ?_⟩
    rw [henc (trkBreakClear_keeps ..) rfl _ (by simp [F.ENCODER_ENC_STAT_BREAK]; omega),
      rd_wr_apart _ _ (by simp [keyApart, F.ENCODER_ENC_STAT_BREAK, F.ENCODER_ENC_STAT_BREAK_LINES])]
    exact rd_wr_same ..
  case lost =>
    intro s e hon h
    refine ⟨_, exec_of_guard rfl (by simp [hon, h]), ?_⟩
    have hset : ∀ u : State, (fdieEv raise (u.wr P.fdie F.FDIE_FD_STAT_CLK_LOST 1) 4).rd P.fdie F.FDIE_FD_STAT_CLK_LOST = 1 := fun u =>
      ((fdieEv_fdKept _ _).rd rfl (by decide)).trans (rd_wr_same ..)
    exact ⟨hset _, by simp [encCounts, State.on, hset]⟩
  case restored =>
    intro s l e hon he h
    refine ⟨_, exec_of_guard rfl (by simp [hon, h]), ?_, ?_⟩
    · refine (FdKept.rd ?_ rfl (by decide)).trans (rd_wr_same s P.fdie F.FDIE_FD_STAT_CLK_LOST 0)
      exact RegsKeep.each (fun t e _ => .of_eq rfl) (.refl ..)
    · refine each_establishes (q := fun t b => (t.field.encs.at {} b).a = bitOf l (2 * b) ∧ (t.field.encs.at {} b).b = bitOf l (2 * b + 1))
        (fun t a _ => ?make) (fun t a b _ _ hne hq => ?keep) _ e he
      case make =>
        simp
      case keep =>
        simpa [Tbl.at_put_ne _ _ hne] using hq
  case adc =>
    intro s r i j raw v hon hi hscan hr
    obtain ⟨u, t, hexec, hsu, hut⟩ := execAdcRound_converts hon hi.1 hi.2 hscan hr
    refine ⟨t, hexec, ?_⟩
    have havg := hsu.regs F.ADC_ADC_CFG_AVG (by simp)
    unfold adcConvert at hut
    dsimp only at hut ⊢
    rw [havg, hsu.mean] at hut
    split
    next hshort =>
      rw [if_pos hshort] at hut
      rw [hut.mean]
      exact at_put_mean u i _
    next hfull =>
      rw [if_neg hfull] at hut
      have hcopy := (adcCopies_kept _ i i).trans hut
      rw [hcopy.regs (F.ADC_RESULT_VALID i) (by simp), hcopy.regs (F.ADC_RESULT_RAW i) (by simp)]
      refine ⟨(adcResult_shows ..).1, (adcResult_shows ..).2.trans ?_⟩
      exact Nat.mod_mod ..
  case fifo =>
    intro s who i v r ha hdown htap hfifo
    obtain ⟨⟨⟨hrails, hlow⟩, hres⟩, hst⟩ : ((s.node.rails = true ∧ s.node.rstLow = false) ∧ s.node.inReset = false) ∧ s.st ≠ NS.eclipse := by
      simpa [State.alive] using ha
    have hbus : busRead s who P.adc 0x054 = adcFifoRead s := by
      unfold busRead
      rw [if_neg (by simp [hrails, hlow, hres, htap]), if_neg (by decide), if_neg hst]
      rfl
    refine ⟨_, exec_of_guard rfl (by simp [ha, hdown]), ?_⟩
    rw [hbus, adcFifoRead, hfifo]
    exact ⟨rfl, Tbl.at_put_same ..⟩

end Sys2Proof.Machine
end

section
/-!
PROOF. PIO engines: the instructions, the shifts and queues, triggers, start and program.
-/

namespace Sys2Proof.Machine

/-! ## Registers of one page -/

/-- The registers of one page that `w` names by offset and lowest bit. -/
def pageKey (p : Nat) (w : Nat → Nat → Bool) (k : Key) : Bool := k.page == p && w k.off k.lsb

theorem RegsKeep.page_wr {p : Nat} {w : Nat → Nat → Bool} {s t : State} (h : RegsKeep (pageKey p w) s t) {f : Fld} (v : Nat)
    (hw : w f.off f.lsb = true) : RegsKeep (pageKey p w) s (t.wr p f v) := h.wr v (by simp [pageKey, hw])

theorem RegsKeep.page_rd {p : Nat} {w : Nat → Nat → Bool} {s t : State} (h : RegsKeep (pageKey p w) s t) {f : Fld}
    (hw : w f.off f.lsb = false) : t.rd p f = s.rd p f := h.rd _ _ (by simp [pageKey, hw])

theorem RegsKeep.page_mono {p : Nat} {v w : Nat → Nat → Bool} {s t : State} (h : RegsKeep (pageKey p v) s t)
    (hw : ∀ o l, v o l = true → w o l = true) : RegsKeep (pageKey p w) s t :=
  h.mono fun k hk => by
    simp only [pageKey, Bool.and_eq_false_iff] at hk ⊢
    refine hk.imp id fun hk => ?_
    by_contra hv
    exact absurd (hw _ _ (by simpa using hv)) (by simp [hk])

/-- A read beside the field written of the same page. -/
theorem rd_wr_beside (s : State) (p : Nat) {f g : Fld} (v : Nat) (h : (f.off != g.off || f.lsb != g.lsb) = true) :
    (s.wr p g v).rd p f = s.rd p f := rd_wr_apart _ _ (by
  rw [keyApart, Bool.or_assoc, h, Bool.or_true])

/-! ## An engine's record and the end of an instruction (R409, R418, R420) -/

/-- What a change of an engine's record writes: the queue levels and PROG_PEND. -/
def engW (o l : Nat) : Bool := o == 0x064 || (o == 0x068 && l == 5)

/-- What the staged program adds: WRAP and the slots. -/
def applyW (o l : Nat) : Bool := engW o l || o == 0x048 || decide (0x100 ≤ o)

/-- What the end of a stall adds: STALLED and STALL_ON. -/
def unstallW (o l : Nat) : Bool := engW o l || (o == 0x068 && (l == 30 || l == 27))

/-- What a stop writes: RUNNING and STOPPED with all of these. -/
def stopW (o l : Nat) : Bool := applyW o l || unstallW o l || (o == 0x068 && l == 31) || o == 0x00C

/-- What the end of an instruction writes: PC and all of these. -/
def nextW (o l : Nat) : Bool := stopW o l || (o == 0x068 && l == 20)

theorem unstallW_stopW (o l : Nat) (h : unstallW o l = true) : stopW o l = true := by simp [stopW, h]
theorem applyW_stopW (o l : Nat) (h : applyW o l = true) : stopW o l = true := by simp [stopW, h]
theorem engW_stopW (o l : Nat) (h : engW o l = true) : stopW o l = true := by simp [stopW, applyW, h]
theorem stopW_nextW (o l : Nat) (h : stopW o l = true) : nextW o l = true := by simp [nextW, h]

theorem setEng_regs (s : State) (e : Nat) (x : PioSt) : RegsKeep (pageKey (P.pio e) engW) s (s.setEng e x) :=
  (((RegsKeep.of_eq (s := s) (t := { s with pio := s.pio.put {} e x }) rfl).page_wr _ rfl).page_wr _ rfl).page_wr _ rfl

@[simp] theorem eng_wr (s : State) (p : Nat) (f : Fld) (v e : Nat) : (s.wr p f v).eng e = s.eng e := rfl

@[simp] theorem eng_setEng (s : State) (e : Nat) (x : PioSt) : (s.setEng e x).eng e = x := Tbl.at_put_same ..

theorem eng_of_pio {s t : State} (h : t.pio = s.pio) (e : Nat) : t.eng e = s.eng e := congrArg (·.at {} e) h

theorem pioUnstall_regs (s : State) (e : Nat) : RegsKeep (pageKey (P.pio e) unstallW) s (pioUnstall s e) :=
  (((setEng_regs s e _).page_mono fun o l h => by simp [unstallW, h]).page_wr _ rfl).page_wr _ rfl

theorem pioApply_regs (s : State) (e : Nat) : RegsKeep (pageKey (P.pio e) applyW) s (pioApply s e) := by
  have hprog : RegsKeep (pageKey (P.pio e) applyW) s ((s.eng e).prog.foldl (fun t w => match w.2 with
      | some v => t.wr (P.pio e) (F.PIO_INSTR_INSTR w.1) v
      | none => t) s) := by
    refine RegsKeep.foldl _ (fun t w _ => ?_) _ (.refl ..)
    split
    · exact (RegsKeep.refl ..).page_wr _ (by simp [applyW, F.PIO_INSTR_INSTR])
    · exact .refl ..
  unfold pioApply
  dsimp only
  refine RegsKeep.trans ?_ ((setEng_regs ..).page_mono fun o l h => by simp [applyW, h])
  split
  · exact (hprog.page_wr _ rfl).page_wr _ rfl
  · exact hprog

theorem pioStop_regs (s : State) (e : Nat) : RegsKeep (pageKey (P.pio e) stopW) s (pioStop s e) :=
  (((((pioUnstall_regs s e).page_mono unstallW_stopW).trans ((setEng_regs ..).page_mono engW_stopW)).trans
    ((pioApply_regs ..).page_mono applyW_stopW)).page_wr _ rfl).page_wr _ rfl

theorem pioStep_regs (s : State) (e : Nat) (d : Option Nat) : RegsKeep (pageKey (P.pio e) nextW) s (pioStep s e d) := by
  unfold pioStep
  split
  · exact (RegsKeep.refl ..).page_wr _ rfl
  · refine RegsKeep.ite (fun _ => ?_) fun _ => (RegsKeep.refl ..).page_wr _ rfl
    refine RegsKeep.trans ((RegsKeep.refl _ s).page_wr _ ?_) ((pioApply_regs ..).page_mono fun o l h => stopW_nextW _ _ (applyW_stopW _ _ h))
    rfl

theorem pioNext_regs (s : State) (e : Nat) (d : Option Nat) : RegsKeep (pageKey (P.pio e) nextW) s (pioNext s e d) := by
  have hstep := ((pioUnstall_regs s e).page_mono fun o l h => stopW_nextW _ _ (unstallW_stopW _ _ h)).trans (pioStep_regs _ e d)
  exact RegsKeep.ite (fun _ => hstep.trans ((pioStop_regs ..).page_mono stopW_nextW)) fun _ => hstep

theorem pioUnstall_stalled (s : State) (e : Nat) : (pioUnstall s e).rd (P.pio e) F.PIO_ENG_STAT_STALLED = 0 :=
  (rd_wr_beside _ _ _ rfl).trans (rd_wr_same ..)

theorem pioStop_stalled (s : State) (e : Nat) : (pioStop s e).rd (P.pio e) F.PIO_ENG_STAT_STALLED = 0 :=
  (rd_wr_beside _ _ _ rfl).trans ((rd_wr_beside _ _ _ rfl).trans (((pioApply_regs ..).page_rd rfl).trans
    (((setEng_regs ..).page_rd rfl).trans (pioUnstall_stalled s e))))

theorem pioStep_stalled (s : State) (e : Nat) (d : Option Nat) :
    (pioStep s e d).rd (P.pio e) F.PIO_ENG_STAT_STALLED = s.rd (P.pio e) F.PIO_ENG_STAT_STALLED := by
  unfold pioStep
  split
  · exact rd_wr_beside _ _ _ rfl
  · split
    · exact ((pioApply_regs ..).page_rd rfl).trans (rd_wr_beside _ _ _ rfl)
    · exact rd_wr_beside _ _ _ rfl

theorem pioNext_stalled (s : State) (e : Nat) (d : Option Nat) : (pioNext s e d).rd (P.pio e) F.PIO_ENG_STAT_STALLED = 0 := by
  unfold pioNext
  dsimp only
  split
  · exact pioStop_stalled ..
  · exact (pioStep_stalled ..).trans (pioUnstall_stalled ..)

/-- Where an engine stands and wraps. -/
def flowRegs : List Fld := [F.PIO_ENG_STAT_PC, F.PIO_WRAP_LAST, F.PIO_WRAP_FIRST]

theorem pioFollow_of_rd {s t : State} {e : Nat} (h : ∀ f ∈ flowRegs, t.rd (P.pio e) f = s.rd (P.pio e) f) : pioFollow t e = pioFollow s e := by
  unfold pioFollow pioPC
  rw [h F.PIO_ENG_STAT_PC (by simp [flowRegs]), h F.PIO_WRAP_LAST (by simp [flowRegs]), h F.PIO_WRAP_FIRST (by simp [flowRegs])]

theorem pioStep_pc (s : State) (e : Nat) (d : Option Nat) :
    pioPC (pioStep s e d) e = match d with
      | some k => k % 32
      | none => pioFollow s e := by
  unfold pioStep
  cases d with
  | some k => exact rd_wr_same ..
  | none =>
    dsimp only
    unfold pioFollow
    split
    · exact ((pioApply_regs ..).page_rd rfl).trans (rd_wr_same ..)
    · exact rd_wr_same ..

theorem pioNext_pc (s : State) (e : Nat) (d : Option Nat) :
    pioPC (pioNext s e d) e = match d with
      | some k => k % 32
      | none => pioFollow s e := by
  have hstop : pioPC (pioNext s e d) e = pioPC (pioStep (pioUnstall s e) e d) e := by
    unfold pioNext
    dsimp only
    split
    · exact (pioStop_regs ..).page_rd rfl
    · rfl
  have hrest : pioFollow (pioUnstall s e) e = pioFollow s e := pioFollow_of_rd fun f hf => by
    simp only [flowRegs, List.mem_cons, List.not_mem_nil, or_false] at hf
    rcases hf with rfl | rfl | rfl <;> exact (pioUnstall_regs s e).page_rd rfl
  rw [hstop, pioStep_pc, hrest]

/-- The queues of an engine's record. -/
def pioQueues (s : State) (e : Nat) : List Nat × List Nat := ((s.eng e).outq, (s.eng e).inq)

theorem pioQueues_wr (s : State) (p : Nat) (f : Fld) (v e : Nat) : pioQueues (s.wr p f v) e = pioQueues s e := rfl

theorem pioQueues_setEng (s : State) (e : Nat) (x : PioSt) : pioQueues (s.setEng e x) e = (x.outq, x.inq) := by simp [pioQueues]

theorem pioQueues_unstall (s : State) (e : Nat) : pioQueues (pioUnstall s e) e = pioQueues s e := by simp [pioQueues, pioUnstall]

/-- A fold of steps that leave the engines' records leaves them. -/
theorem foldl_pio {α : Type} {f : State → α → State} (hf : ∀ t a, (f t a).pio = t.pio) (l : List α) (t : State) :
    (l.foldl f t).pio = t.pio := by
  induction l generalizing t with
  | nil => rfl
  | cons a r ih => exact (ih _).trans (hf t a)

theorem pioQueues_apply (s : State) (e : Nat) : pioQueues (pioApply s e) e = pioQueues s e := by
  have hprog : ((s.eng e).prog.foldl (fun t w => match w.2 with
      | some v => t.wr (P.pio e) (F.PIO_INSTR_INSTR w.1) v
      | none => t) s).eng e = s.eng e := by
    refine eng_of_pio (foldl_pio (fun t w => ?_) _ _) e
    split <;> rfl
  unfold pioApply pioQueues
  dsimp only
  rw [eng_setEng]
  split <;> exact Prod.ext (congrArg PioSt.outq hprog) (congrArg PioSt.inq hprog)

theorem pioQueues_stop (s : State) (e : Nat) : pioQueues (pioStop s e) e = pioQueues s e := by
  unfold pioStop
  dsimp only
  rw [pioQueues_wr, pioQueues_wr, pioQueues_apply, pioQueues_setEng]
  exact pioQueues_unstall ..

theorem pioQueues_next (s : State) (e : Nat) (d : Option Nat) : pioQueues (pioNext s e d) e = pioQueues s e := by
  have hstep : ∀ t, pioQueues (pioStep t e d) e = pioQueues t e := fun t => by
    unfold pioStep
    split
    · rfl
    · split
      · exact pioQueues_apply ..
      · rfl
  unfold pioNext
  dsimp only
  split
  · rw [pioQueues_stop, hstep, pioQueues_unstall]
  · rw [hstep, pioQueues_unstall]

theorem pioTake_of_at {s : State} {e w : Nat} {op : PioOp} (h : pioAt s e op w = true) (act : State → Nat → State) :
    pioTake s e op act = act s w := by
  simp only [pioAt, Bool.and_eq_true, decide_eq_true_eq, beq_iff_eq] at h
  obtain ⟨⟨⟨⟨ha, he⟩, hl⟩, hw⟩, hd⟩ := h
  unfold pioTake
  rw [if_pos (by simp [ha, he, hl]), hw]
  dsimp only
  rw [hd]
  exact if_pos rfl

/-- An instruction that ends by going on: `u` is the state in which it does, where the engine stands as in `s`. -/
theorem pioNext_follows {s u : State} {e : Nat} (h : ∀ f ∈ flowRegs, u.rd (P.pio e) f = s.rd (P.pio e) f) :
    pioPC (pioNext u e none) e = pioFollow s e := (pioNext_pc ..).trans (pioFollow_of_rd h)

theorem flow_wr {s u : State} {e : Nat} (h : ∀ f ∈ flowRegs, u.rd (P.pio e) f = s.rd (P.pio e) f) {g : Fld} (v : Nat)
    (hg : (flowRegs.all fun f => f.off != g.off || f.lsb != g.lsb) = true) :
    ∀ f ∈ flowRegs, (u.wr (P.pio e) g v).rd (P.pio e) f = s.rd (P.pio e) f := fun f hf =>
  (rd_wr_beside _ _ _ (List.all_eq_true.1 hg f hf)).trans (h f hf)

theorem flow_setEng {s u : State} {e : Nat} (h : ∀ f ∈ flowRegs, u.rd (P.pio e) f = s.rd (P.pio e) f) (x : PioSt) :
    ∀ f ∈ flowRegs, (u.setEng e x).rd (P.pio e) f = s.rd (P.pio e) f :=
  flow_wr (flow_wr (flow_wr h _ rfl) _ rfl) _ rfl

/-! ## Signals (R416) -/

/-- What an output of an engine to a signal can change: what an event can, NOT_OWNER with its count, and a channel's wake-up. -/
def outKey (k : Key) : Bool :=
  evKey k || decide (0x0A0 ≤ k.page ∧ k.page < 0x0A8) ||
    (decide (0x0C0 ≤ k.page ∧ k.page < 0x0D8) && ((k.off == 0x068 && k.lsb == 3) || k.off == 0x084))

theorem evKey_outKey {s t : State} (h : RegsKeep evKey s t) : RegsKeep outKey s t :=
  h.mono fun k hk => by simp only [outKey, Bool.or_eq_false_iff] at hk; exact hk.1.1

theorem pioNotOwner_regs (s : State) (e : Nat) : RegsKeep outKey s (pioNotOwner s e) :=
  RegsKeep.trans (((RegsKeep.refl _ s).wr 1 (by simp [outKey, P.pio, F.PIO_ENG_STAT_NOT_OWNER]; omega)).inc 1
    (by simp [outKey, P.pio, F.PIO_CNT_NOT_OWNER_N]; omega)) (evKey_outKey (raise_regs ..))

theorem wurqStart_regs {s t : State} (h : t.regs = s.regs) {c : Nat} (hc : c < 64) : RegsKeep outKey s (wurqStart t c) :=
  RegsKeep.ite (fun _ => RegsKeep.wr (s := s) 1 (.of_eq h) (by simp [outKey, P.field]; omega)) fun _ => .of_eq h

theorem driveSig_regs (s : State) {n : Nat} (hn : n < 160) (v : Bool) : RegsKeep outKey s (driveSig s n v) := by
  refine RegsKeep.ite (fun _ => ?_) fun _ => .of_eq rfl
  refine RegsKeep.trans (t := s.setSig n { s.sig n with latch := v }) (.of_eq rfl) ?_
  refine RegsKeep.ite (fun _ => .of_eq rfl) fun _ => RegsKeep.ite (fun _ => .of_eq rfl) fun _ => ?_
  refine RegsKeep.ite (fun _ => wurqStart_regs ?_ (c := (n - 96) / 4) (by omega)) fun _ => .of_eq rfl
  rfl

theorem pioOut_regs (s : State) (e n : Nat) (v : Bool) : RegsKeep outKey s (pioOut s e n v) := by
  refine RegsKeep.ite (fun _ => .refl ..) fun h => ?_
  exact RegsKeep.ite (fun _ => driveSig_regs s (by omega) v) fun _ => pioNotOwner_regs ..

theorem pioDrive_regs (s : State) (e n : Nat) (v : Bool) : RegsKeep outKey s (pioDrive s e n v) := by
  refine RegsKeep.ite (fun _ => .refl ..) fun h => RegsKeep.ite (fun _ => ?_) fun _ => pioNotOwner_regs ..
  exact RegsKeep.ite (fun _ => .of_eq rfl) fun _ => .refl ..

theorem outKey_pio {e o l : Nat} (h : o ≠ 0x010 ∧ o ≠ 0x074 ∧ o ≠ 0x084 ∧ (o = 0x068 → l ≠ 4 ∧ l ≠ 3)) :
    outKey ⟨P.pio e, o, l, 0⟩ = false := by
  have hp : 0xC0 ≤ P.pio e ∧ P.pio e < 0xD8 := by unfold P.pio; omega
  simp [outKey, evKey]
  omega

theorem sig_of_sigs {s t : State} (h : t.sigs = s.sigs) (n : Nat) : t.sig n = s.sig n := congrArg (·.at {} n) h

theorem sig_setSig_ne (s : State) {n m : Nat} (h : n ≠ m) (x : SigSt) : (s.setSig m x).sig n = s.sig n := Tbl.at_put_ne _ _ h _
@[simp] theorem sig_setSig (s : State) (n : Nat) (x : SigSt) : (s.setSig n x).sig n = x := Tbl.at_put_same ..

theorem driveSig_sigs (s : State) (n : Nat) (v : Bool) : (driveSig s n v).sigs = (s.setSig n { s.sig n with latch := v }).sigs := by
  unfold driveSig
  split
  · exact (iolSignal_keeps ..).sigs rfl
  · rfl

theorem pioOut_sig_ne (s : State) (e : Nat) {n m : Nat} (h : n ≠ m) (v : Bool) : (pioOut s e m v).sig n = s.sig n := by
  unfold pioOut
  split
  · rfl
  · split
    · exact (sig_of_sigs (driveSig_sigs ..) n).trans (sig_setSig_ne s h _)
    · exact sig_of_sigs ((pioNotOwner_keeps ..).sigs rfl) n

theorem pioDrive_sig_ne (s : State) (e : Nat) {n m : Nat} (h : n ≠ m) (v : Bool) : (pioDrive s e m v).sig n = s.sig n := by
  unfold pioDrive
  split
  · rfl
  · split
    · split
      · exact sig_setSig_ne s h _
      · rfl
    · exact sig_of_sigs ((pioNotOwner_keeps ..).sigs rfl) n

theorem pioOwns_of_regs {s t : State} (h : RegsKeep outKey s t) (e n : Nat) : pioOwns t e n = pioOwns s e n := by
  have ho : t.rd P.pinmux (F.PINMUX_PIN_OWNER n) = s.rd P.pinmux (F.PINMUX_PIN_OWNER n) :=
    h.rd _ _ (by simp [outKey, evKey, P.pinmux, F.PINMUX_PIN_OWNER]; omega)
  have he : t.rd P.pinmux (F.PINMUX_PIN_ENGINE n) = s.rd P.pinmux (F.PINMUX_PIN_ENGINE n) :=
    h.rd _ _ (by simp [outKey, evKey, P.pinmux, F.PINMUX_PIN_ENGINE]; omega)
  simp only [pioOwns, sigOwner, ho, he]

theorem pioOut_latch {s : State} {e n : Nat} (h : pioOwns s e n = true) (hn : n < 160) (v : Bool) : ((pioOut s e n v).sig n).latch = v := by
  rw [pioOut, if_neg (by omega), if_pos h, sig_of_sigs (driveSig_sigs ..), sig_setSig]

theorem pioDrive_oe {s : State} {e n : Nat} (h : pioOwns s e n = true) (hn : n < 96) (v : Bool) : ((pioDrive s e n v).sig n).oe = v := by
  rw [pioDrive, if_neg (by omega), if_pos h, if_pos hn, sig_setSig]

/-- An engine's operation on each signal of its ST window: what it makes of an owned signal is so at the end. -/
theorem stWindow_establishes {op : State → Nat → Nat → Bool → State} (hregs : ∀ t e n v, RegsKeep outKey t (op t e n v))
    (hne : ∀ t e n m v, n ≠ m → (op t e m v).sig n = t.sig n) (s : State) (e : Nat) (b : Nat → Bool) {k width : Nat} (hk : k < width) :
    ∃ u, RegsKeep outKey s u ∧
      let t := s.each width fun t k => op t e (t.rd (P.pio e) F.PIO_WINDOWS_A_ST_FIRST + k) (b k)
      let n := s.rd (P.pio e) F.PIO_WINDOWS_A_ST_FIRST + k
      RegsKeep outKey s t ∧ t.sig n = (op u e n (b k)).sig n := by
  have hfirst : ∀ t, RegsKeep outKey s t → t.rd (P.pio e) F.PIO_WINDOWS_A_ST_FIRST = s.rd (P.pio e) F.PIO_WINDOWS_A_ST_FIRST :=
    fun t h => h.rd _ _ (outKey_pio (by decide))
  obtain ⟨u, hu, -, ht, hsig⟩ := range_foldl_at (p := RegsKeep outKey s) (r := fun t u => u.sig (s.rd (P.pio e) F.PIO_WINDOWS_A_ST_FIRST + k) =
      t.sig (s.rd (P.pio e) F.PIO_WINDOWS_A_ST_FIRST + k)) (fun _ => rfl) (fun h h' => h'.trans h) hk
      (f := fun t k => op t e (t.rd (P.pio e) F.PIO_WINDOWS_A_ST_FIRST + k) (b k))
      (fun t j h => h.trans (hregs ..))
      (fun t j hj h => hne _ _ _ _ _ (by rw [hfirst t h]; omega)) (.refl ..)
  exact ⟨u, hu, ht, hfirst u hu ▸ hsig⟩

/-- Settles O44. -/
theorem pioInstructions : Obligations.PioInstructions := by
  unfold Obligations.PioInstructions
  have hflow : ∀ (s : State) e, ∀ f ∈ flowRegs, s.rd (P.pio e) f = s.rd (P.pio e) f := fun _ _ _ _ => rfl
  have hout : ∀ {s u : State} {e}, RegsKeep outKey s u → ∀ f ∈ flowRegs, u.rd (P.pio e) f = s.rd (P.pio e) f := fun h f hf => by
    simp only [flowRegs, List.mem_cons, List.not_mem_nil, or_false] at hf
    rcases hf with rfl | rfl | rfl <;> exact h.rd _ _ (outKey_pio (by decide))
  have hkeep : ∀ (s : State) (e : Nat) (d : Option Nat) (f : Fld), nextW f.off f.lsb = false →
      (pioNext s e d).rd (P.pio e) f = s.rd (P.pio e) f := fun s e d f hf => (pioNext_regs s e d).page_rd hf
  have hsig : ∀ (s : State) (e n : Nat) (d : Option Nat), (pioNext s e d).sig n = s.sig n := fun s e n d =>
    sig_of_sigs ((pioNext_keeps ..).sigs rfl) n
  refine ⟨?jump, ?waitSig, ?waitTrig, ?waitTick, ?levels, ?drives, ?sr, ?flag, ?loadi, ?loadr, ?dec, ?mtch, ?takeq⟩
  case jump =>
    intro s e w b h
    refine ⟨_, congrArg Host.Outcome.next (pioTake_of_at h _), ?_⟩
    split
    · exact (pioNext_pc ..).trans (Nat.mod_eq_of_lt (Nat.mod_lt _ (by decide)))
    · exact pioNext_pc ..
  case waitSig =>
    intro s e w b h hs
    exact ⟨_, congrArg Host.Outcome.next ((pioTake_of_at h _).trans (if_pos hs)), pioNext_pc .., pioNext_stalled ..⟩
  case waitTrig =>
    intro s e w h hb
    refine ⟨_, congrArg Host.Outcome.next ((pioTake_of_at h _).trans (if_pos hb)), pioNext_follows (flow_wr (hflow s e) _ rfl), ?_⟩
    refine (congrArg (bitOf · _) (hkeep _ _ _ _ rfl)).trans ?_
    exact (bit_setBit _ _ _ _ (bitsOf w 7 2) _ (Nat.mod_lt _ (by decide))).trans (by simp)
  case waitTick =>
    intro s e w n h hn hlt
    refine ⟨_, congrArg Host.Outcome.next (pioTake_of_at h _), ?_⟩
    dsimp only
    rw [hn]
    dsimp only
    rw [if_pos hlt]
    exact pioNext_pc ..
  case levels =>
    intro s e w k h hk ho hn
    obtain ⟨u, hu, ht, hs⟩ := stWindow_establishes pioOut_regs (fun t e n m v h => pioOut_sig_ne t e h v) s e (fun k => bitOf w (7 + k)) hk
    refine ⟨_, congrArg Host.Outcome.next (pioTake_of_at h _), pioNext_follows (hout ht), ?_⟩
    rw [hsig]
    refine (congrArg SigSt.latch hs).trans ?_
    exact pioOut_latch ((pioOwns_of_regs hu ..).trans ho) hn _
  case drives =>
    intro s e w k h hk ho hn
    obtain ⟨u, hu, ht, hs⟩ := stWindow_establishes pioDrive_regs (fun t e n m v h => pioDrive_sig_ne t e h v) s e (fun k => bitOf w (7 + k)) hk
    refine ⟨_, congrArg Host.Outcome.next (pioTake_of_at h _), pioNext_follows (hout ht), ?_⟩
    rw [hsig]
    refine (congrArg SigSt.oe hs).trans ?_
    exact pioDrive_oe ((pioOwns_of_regs hu ..).trans ho) hn _
  case sr =>
    intro s e w h
    refine ⟨_, congrArg Host.Outcome.next (pioTake_of_at h _), pioNext_follows (flow_wr (flow_wr (hflow s e) _ rfl) _ rfl), ?_, ?_⟩
    · rw [hkeep _ _ _ _ rfl, pioCnt, rd_wr_beside _ _ _ rfl]
      exact (rd_wr_same ..).trans (Nat.mod_eq_of_lt (Nat.lt_trans (Nat.mod_lt _ (by decide)) (by decide)))
    · rw [hkeep _ _ _ _ rfl]
      exact rd_wr_same ..
  case flag =>
    intro s e w h
    refine ⟨_, congrArg Host.Outcome.next (pioTake_of_at h _), pioNext_follows fun f hf => ?_, ?_, ?_⟩
    · exact (hout (evKey_outKey (raise_regs ..)) f hf).trans (flow_wr (hflow s e) _ rfl f hf)
    · rw [hkeep _ _ _ _ rfl, pioEv, rd_raise _ _ _ _ _ (by simp [evKey, P.pio, F.PIO_ENG_STAT_USER]), rd_wr_same]
      exact Nat.mod_eq_of_lt (Nat.mod_lt _ (by decide))
    · exact (congrArg (bitOf · 0) (hkeep _ _ _ _ rfl)).trans (bit_raise _ _ _ (by decide))
  case loadi =>
    intro s e w h
    refine ⟨_, congrArg Host.Outcome.next (pioTake_of_at h _), pioNext_follows (flow_wr (hflow s e) _ rfl), ?_⟩
    rw [hkeep _ _ _ _ rfl, rd_wr_same]
    exact Nat.mod_eq_of_lt (Nat.lt_trans (Nat.mod_lt _ (by decide)) (by decide))
  case loadr =>
    intro s e w h
    refine ⟨_, congrArg Host.Outcome.next (pioTake_of_at h _), pioNext_follows (flow_wr (hflow s e) _ rfl), ?_⟩
    exact (hkeep _ _ _ _ rfl).trans (rd_wr_same ..)
  case dec =>
    intro s e w h
    refine ⟨_, congrArg Host.Outcome.next (pioTake_of_at h _), pioNext_follows (flow_wr (flow_wr (hflow s e) _ rfl) _ rfl), ?_, ?_⟩
    · rw [hkeep _ _ _ _ rfl, rd_wr_beside _ _ _ rfl, rd_wr_same]
      exact Nat.mod_eq_of_lt (Nat.mod_lt _ (by decide))
    · rw [hkeep _ _ _ F.PIO_ENG_STAT_Z rfl, rd_wr_same, hkeep _ _ _ F.PIO_CMP_V_V rfl, rd_wr_beside _ _ _ rfl, rd_wr_same]
      exact (Nat.mod_eq_of_lt (b2n_lt ..)).trans (congrArg (fun v => b2n (v == 0)) (Nat.mod_mod ..).symm)
  case mtch =>
    intro s e w h
    refine ⟨_, congrArg Host.Outcome.next (pioTake_of_at h _), pioNext_follows (flow_wr (hflow s e) _ rfl), ?_⟩
    rw [hkeep _ _ _ _ rfl, rd_wr_same]
    exact Nat.mod_eq_of_lt (b2n_lt ..)
  case takeq =>
    intro s e w v r h hq
    have hact : exec (.cmpTakeq e) s = .next (pioNext ((s.setEng e { s.eng e with outq := r }).wr (P.pio e) F.PIO_CMP_V_V v) e none) := by
      refine (congrArg Host.Outcome.next (pioTake_of_at h _)).trans ?_
      rw [hq]
    refine ⟨_, hact, pioNext_follows (flow_wr (flow_setEng (hflow s e) _) _ rfl), ?_, ?_⟩
    · exact (hkeep _ _ _ _ rfl).trans (rd_wr_same ..)
    · exact (congrArg Prod.fst (pioQueues_next ..)).trans (by simp [pioQueues])

/-! ## Triggers (R414) -/

/-- No trigger flag that is set is cleared. -/
def FlagsStay (s t : State) : Prop := ∀ e k, k < 4 → s.bit (P.pio e) F.PIO_TRIG_PENDING k = true → t.bit (P.pio e) F.PIO_TRIG_PENDING k = true

theorem FlagsStay.trans {s t u : State} (h : FlagsStay s t) (k : FlagsStay t u) : FlagsStay s u := fun e j hl hj => k e j hl (h e j hl hj)

theorem FlagsStay.of_rd {s t : State} (h : ∀ e, t.rd (P.pio e) F.PIO_TRIG_PENDING = s.rd (P.pio e) F.PIO_TRIG_PENDING) : FlagsStay s t :=
  fun e k _ hk => by rwa [State.bit, h e]

theorem FlagsStay.refl (s : State) : FlagsStay s s := fun _ _ _ h => h

theorem FlagsStay.ite {s t u : State} {c : Prop} [Decidable c] (h : FlagsStay s t) (k : FlagsStay s u) : FlagsStay s (if c then t else u) := by
  split
  · exact h
  · exact k

theorem FlagsStay.each {s t : State} {n : Nat} {f : State → Nat → State} (hf : ∀ t a, FlagsStay t (f t a)) (h : FlagsStay s t) :
    FlagsStay s (t.each n f) := by
  unfold State.each
  generalize List.range n = l
  induction l generalizing t with
  | nil => exact h
  | cons a r ih => exact ih (h.trans (hf t a))

theorem FlagsStay.of_frz {s t : State} (h : RegsKeep frzKey s t) : FlagsStay s t :=
  .of_rd fun e => h.rd _ _ (by simp [frzKey, P.pio, F.PIO_TRIG_PENDING])

theorem pioTrig_flags (s : State) (e k : Nat) : FlagsStay s (pioTrig s e k).2 := by
  unfold pioTrig
  split
  · exact .of_rd fun q => rd_wr_apart _ _ (by simp [keyApart, F.PIO_TRIG_PENDING, F.PIO_ENG_STAT_TRIG_OVF])
  · intro q j hl hj
    by_cases hq : P.pio q = P.pio e
    · rw [hq] at hj ⊢
      rw [bit_setBit _ _ _ _ _ _ hl]
      split
      · rfl
      · exact hj
    · exact (congrArg (bitOf · j) (rd_wr_apart _ _ (by simp [keyApart, hq]))).trans hj

theorem rise_flags (fuel : Nat) (s : State) (src : Nat) : FlagsStay s (rise fuel s src) := by
  induction fuel generalizing s src with
  | zero => exact .refl s
  | succ n ih =>
    unfold rise
    refine .ite (.refl s) ?_
    refine FlagsStay.trans ?_ (.of_frz (eclRise_frz ..))
    refine .each (fun t r => .ite ?_ (.refl t)) (.each (fun t p => ?_) (.each (fun t e => ?_) (.refl s)))
    · have hp := pioTrig_flags t (t.rd P.ev3 (F.EVENTC_PIOR_ENGINE r)) (t.rd P.ev3 (F.EVENTC_PIOR_TRIG r))
      refine .ite ?_ hp
      have he := hp.trans (.of_frz (evOnly_frz _ (P.pio (t.rd P.ev3 (F.EVENTC_PIOR_ENGINE r))) 0))
      exact .ite (he.trans (ih _ _)) he
    · exact .of_rd fun e => rd_of_regs ((evtRise_keeps ..).regs rfl) _ _
    · exact .of_rd fun q => (exportRise_keeps ..).rd_body group_pio (by decide) rfl

theorem raise_flags (s : State) (p k : Nat) : FlagsStay s (raise s p k) := by
  have hev := FlagsStay.of_frz (evOnly_frz s p k)
  exact .ite (hev.trans (rise_flags _ _ _)) hev

theorem pioTrigger_flags (s : State) (e k : Nat) : FlagsStay s (pioTrigger s e k) := by
  have ht := pioTrig_flags s e k
  exact .ite (ht.trans (raise_flags _ _ _)) ht

theorem pioTrigger_sets (s : State) (e : Nat) {k : Nat} (hk : k < 4) : (pioTrigger s e k).bit (P.pio e) F.PIO_TRIG_PENDING k = true := by
  have ht : (pioTrig s e k).2.bit (P.pio e) F.PIO_TRIG_PENDING k = true := by
    unfold pioTrig
    split
    next h => exact (congrArg (bitOf · k) (rd_wr_beside _ _ _ rfl)).trans h
    next => exact (bit_setBit _ _ _ _ _ _ hk).trans (if_pos rfl)
  unfold pioTrigger
  dsimp only
  split
  · exact raise_flags _ _ _ e k hk ht
  · exact ht

/-! ## Writes to an engine's page -/

theorem pio_trigger : ∀ e < 24, ∀ o ∈ [0x05C, 0x074, 0x078], triggerReg (P.pio e) o = true ∧
    ((regFields (P.pio e) o).all (noCondition (P.pio e))) = true ∧ pageType (P.pio e) = some .pio := by decide +kernel

theorem pio_sub (e : Nat) : P.pio (e % 24) - 0x0C0 = e % 24 := by unfold P.pio; omega

/-- A write to a register of triggers of an engine is the engine's operation. -/
theorem MayWrite.pio {s : State} {who : By} {e o : Nat} (h : MayWrite s who (P.pio (e % 24)) o) (ho : o ∈ [0x05C, 0x074, 0x078])
    (word : Nat) : busStore s who (P.pio (e % 24)) o word = effPio (dropArms s (P.pio (e % 24))) (e % 24) o word := by
  obtain ⟨ht, hc, htype⟩ := pio_trigger (e % 24) (Nat.mod_lt _ (by decide)) o ho
  have hpage : (P.pio (e % 24) == P.sestx && o == 0x044) = false := by
    have : P.pio (e % 24) ≠ P.sestx := by unfold P.pio P.sestx; omega
    simp [this]
  have hoff : 0x040 ≤ o := by
    simp only [List.mem_cons, List.not_mem_nil, or_false] at ho
    omega
  refine h.block word ht hc hoff (.inl hpage) ?_
  rw [writeEffect, if_neg (by omega), htype]
  dsimp only
  rw [pio_sub]

theorem instr_register : ∀ e < 24, ∀ k < 32, (pageRow (P.pio e)).isSome = true ∧ registerAt (P.pio e) (0x100 + 4 * k) = true ∧
    pageType (P.pio e) = some .pio ∧ regFields (P.pio e) (0x100 + 4 * k) = [F.PIO_INSTR_INSTR k] ∧
    noCondition (P.pio e) (F.PIO_INSTR_INSTR k) = true ∧ absentField (P.pio e) (F.PIO_INSTR_INSTR k) = false ∧
    ownStore (P.pio e) (F.PIO_INSTR_INSTR k) = false := by decide +kernel

theorem bankIdx_pio (s : State) (who : By) (e : Nat) (f : Fld) : bankIdx s who (P.pio e) f = 0 := by
  have hp : 0xC0 ≤ P.pio e ∧ P.pio e < 0xD8 := by unfold P.pio; omega
  unfold bankIdx
  rw [if_neg (by simp [P.sestx]; omega), if_neg (by simp [P.sesrx]; omega), if_neg (by simp [P.switch]; omega),
    if_neg (by simp [P.gw]; omega), if_neg (by simp [P.drift]; omega), if_neg (by omega), if_neg (by simp [P.log]; omega)]

theorem fixedField_pio (s : State) (e : Nat) (f : Fld) : fixedField s (P.pio e) f = false := by
  have hp : 0xC0 ≤ P.pio e ∧ P.pio e < 0xD8 := by unfold P.pio; omega
  unfold fixedField
  rw [if_neg (by simp [P.switch]; omega), if_neg (by simp [P.gw]; omega), if_neg (by omega), if_neg (by simp [P.adc]; omega)]

/-- A word written to a slot of a stopped engine stands there. -/
theorem MayWrite.instr {s : State} {who : By} {e k : Nat} (h : MayWrite s who (P.pio (e % 24)) (0x100 + 4 * k)) (hk : k < 32)
    (hs : s.stopped (P.pio (e % 24)) = true) (word : Nat) :
    pioInstr (busStore s who (P.pio (e % 24)) (0x100 + 4 * k) word) (e % 24) k = word % 2 ^ 16 := by
  obtain ⟨hrow, hreg, htype, hfields, hcond, habsent, hown⟩ := instr_register (e % 24) (Nat.mod_lt _ (by decide)) k hk
  have hp : 0xC0 ≤ P.pio (e % 24) ∧ P.pio (e % 24) < 0xD8 := by unfold P.pio; omega
  rw [h.busStore_eq word (by omega) hrow hreg (by simp [P.txn]; omega) (by
    rw [hfields]
    intro f hf
    rw [List.mem_singleton.1 hf]
    exact fieldOk_of_noCondition hcond ..) (.inl (by simp [P.sestx]; omega))]
  have hbefore : ∀ t, beforeWrite t (P.pio (e % 24)) (0x100 + 4 * k) word = t := fun t => by
    unfold beforeWrite
    rw [if_neg (by omega), if_neg (by simp [P.pio] at hp ⊢; omega), if_neg (by simp [P.capt]; omega)]
  have hbind : ∀ t u, bindQueues t u who (P.pio (e % 24)) (0x100 + 4 * k) = u := fun t u => by
    simp only [noCondition, Bool.and_eq_true, Option.isNone_iff_eq_none] at hcond
    obtain ⟨⟨⟨⟨⟨hn, -⟩, -⟩, -⟩, -⟩, -⟩ := hcond
    rw [bindQueues, hfields, List.foldl_cons, List.foldl_nil, hn]
  have hstore : ∀ t : State, t.stopped (P.pio (e % 24)) = true → storeWord t who (P.pio (e % 24)) (0x100 + 4 * k) word =
      t.wr (P.pio (e % 24)) (F.PIO_INSTR_INSTR k) (fbits word (F.PIO_INSTR_INSTR k)) := fun t ht => by
    rw [storeWord, if_neg (by simp [ht]), hfields, List.foldl_cons, List.foldl_nil,
      storeField_rw rfl (by rw [habsent, hown, fixedField_pio]; rfl), bankIdx_pio, storeValue, if_neg (by omega)]
    rfl
  have heffect : ∀ t u, writeEffect t u who (P.pio (e % 24)) (0x100 + 4 * k) word = u := fun t u => by
    rw [writeEffect, if_neg (by omega), htype]
    dsimp only
    rw [effPio, if_neg (by omega), if_neg (by omega), if_neg (by omega)]
  unfold applyWrite
  dsimp only
  rw [hbefore, hbind, heffect, hstore (dropArms s _) hs]
  refine (rd_wr_same ..).trans ?_
  simp [fbits, bitsOf, F.PIO_INSTR_INSTR]

/-- Settles O45. -/
theorem pioShiftsQueuesAndProgram : Obligations.PioShiftsQueuesAndProgram := by
  unfold Obligations.PioShiftsQueuesAndProgram
  have hflow : ∀ (s : State) e, ∀ f ∈ flowRegs, s.rd (P.pio e) f = s.rd (P.pio e) f := fun _ _ _ _ => rfl
  have hkeep : ∀ (s : State) (e : Nat) (d : Option Nat) (f : Fld), nextW f.off f.lsb = false →
      (pioNext s e d).rd (P.pio e) f = s.rd (P.pio e) f := fun s e d f hf => (pioNext_regs s e d).page_rd hf
  refine ⟨?shiftOut, ?shiftIn, ?pull, ?push, ?outq, ?inq, ?trig, ?flushOut, ?flushIn, ?start, ?instr⟩
  case shiftOut =>
    intro s e w h hord
    have hloop : ∀ (n : Nat) (g : Nat → Nat) (b : Nat → Bool), RegsKeep outKey s (s.each n fun t k => pioOut t e (g k) (b k)) := fun n g b =>
      RegsKeep.each (fun t k _ => pioOut_regs ..) (.refl ..)
    have hrd : ∀ {u : State} {f : Fld}, RegsKeep outKey s u → (f.off ≠ 0x010 ∧ f.off ≠ 0x074 ∧ f.off ≠ 0x084 ∧ (f.off = 0x068 → f.lsb ≠ 4 ∧ f.lsb ≠ 3)) →
      u.rd (P.pio e) f = s.rd (P.pio e) f := fun h hf => h.rd _ _ (outKey_pio hf)
    refine ⟨_, congrArg Host.Outcome.next (pioTake_of_at h _), ?_, ?_, ?_⟩
    · refine pioNext_follows (flow_wr (flow_wr (fun f hf => ?_) _ rfl) _ rfl)
      simp only [flowRegs, List.mem_cons, List.not_mem_nil, or_false] at hf
      rcases hf with rfl | rfl | rfl <;> exact hrd (hloop ..) (by decide)
    · rw [hkeep _ _ _ _ rfl, pioCnt, rd_wr_beside _ _ _ rfl, pioSr, rd_wr_same, hord]
      rfl
    · rw [hkeep _ _ _ _ rfl, pioCnt, rd_wr_same, pioSr, rd_wr_beside _ _ _ rfl, hrd (hloop ..) (by decide), Nat.min_comm, ← Nat.add_assoc]
      exact Nat.mod_eq_of_lt (Nat.lt_of_le_of_lt (Nat.min_le_left ..) (by decide))
  case shiftIn =>
    intro s e w l h hord
    refine ⟨_, congrArg Host.Outcome.next (pioTake_of_at h _), pioNext_follows (flow_wr (flow_wr (hflow s e) _ rfl) _ rfl), ?_⟩
    rw [hkeep _ _ _ _ rfl, pioCnt, rd_wr_beside _ _ _ rfl, pioSr, rd_wr_same, hord]
    rfl
  case pull =>
    intro s e w v r h hq
    have hact : exec (.pull e) s = .next (pioNext (pioCnt (pioSr (s.setEng e { s.eng e with outq := r }) e v) e 0) e none) := by
      refine (congrArg Host.Outcome.next (pioTake_of_at h _)).trans ?_
      rw [hq]
    refine ⟨_, hact, pioNext_follows (flow_wr (flow_wr (flow_setEng (hflow s e) _) _ rfl) _ rfl), ?_, ?_, ?_⟩
    · rw [hkeep _ _ _ _ rfl, pioCnt, rd_wr_beside _ _ _ rfl]
      exact rd_wr_same ..
    · rw [hkeep _ _ _ _ rfl]
      exact rd_wr_same ..
    · exact (congrArg Prod.fst (pioQueues_next ..)).trans (by simp [pioQueues, pioCnt, pioSr])
  case push =>
    intro s e w h hlen
    have hcut : ∀ t : State, (∀ f ∈ flowRegs, t.rd (P.pio e) f = s.rd (P.pio e) f) →
        (∀ f ∈ flowRegs, (if bitOf w 8 then pioCnt (pioSr t e 0) e 0 else t).rd (P.pio e) f = s.rd (P.pio e) f) ∧
        (if bitOf w 8 then pioCnt (pioSr t e 0) e 0 else t).eng e = t.eng e := fun t ht => by
      split
      · exact ⟨flow_wr (flow_wr ht _ rfl) _ rfl, rfl⟩
      · exact ⟨ht, rfl⟩
    obtain ⟨hf, he⟩ := hcut (s.setEng e { s.eng e with inq := (s.eng e).inq ++ [s.rd (P.pio e) F.PIO_SR_SR] }) (flow_setEng (hflow s e) _)
    refine ⟨_, congrArg Host.Outcome.next ((pioTake_of_at h _).trans (if_pos hlen)), pioNext_follows hf, ?_⟩
    exact (congrArg Prod.snd (pioQueues_next ..)).trans ((congrArg PioSt.inq he).trans (by simp))
  case outq =>
    intro s e who v hw hlen
    refine ⟨_, congrArg Host.Outcome.next (hw.pio (by simp) _), ?_⟩
    rw [effPio, if_pos rfl, pioOutqW, if_pos (by exact hlen), eng_setEng, Nat.mod_mod]
    rfl
  case inq =>
    intro s e who v r ha htap hq
    obtain ⟨⟨⟨hrails, hlow⟩, hres⟩, hst⟩ : ((s.node.rails = true ∧ s.node.rstLow = false) ∧ s.node.inReset = false) ∧ s.st ≠ NS.eclipse := by
      simpa [State.alive] using ha
    have hp : P.pio (e % 24) = 0xC0 + e % 24 := by unfold P.pio; omega
    have hbus : busRead s who (P.pio (e % 24)) 0x060 = pioInqR s (e % 24) := by
      unfold busRead
      rw [if_neg (by simp [hrails, hlow, hres, htap]), if_neg (by simp [Option.isSome_iff_ne_none.1 (instr_register (e % 24) (Nat.mod_lt _ (by decide)) 0 (by decide)).1]),
        if_neg hst, regRead, if_neg (by simp [P.ev3]), if_pos (by omega), pio_sub]
    refine ⟨_, exec_of_guard rfl ha, ?_⟩
    rw [hbus, pioInqR, hq]
    exact ⟨congrArg PioSt.inq (eng_setEng ..), Tbl.at_put_same ..⟩
  case trig =>
    intro s e who m k hw hk hm
    refine ⟨_, congrArg Host.Outcome.next (hw.pio (by simp) _), ?_⟩
    rw [effPio, if_neg (by decide), if_pos rfl, pioForce]
    obtain ⟨u, -, -, -, hu⟩ := range_foldl_at (p := fun _ => True) (r := FlagsStay) FlagsStay.refl FlagsStay.trans hk
      (f := fun t k => if bitOf (m % 16 * 16 / 16 % 16) k then pioTrigger t (e % 24) k else t) (fun _ _ _ => trivial)
      (fun t j _ _ => .ite (pioTrigger_flags _ _ _) (.refl t)) (s := dropArms s (P.pio (e % 24))) trivial
    have hset : bitOf (m % 16 * 16 / 16 % 16) k = true := by
      rw [Nat.mul_div_cancel _ (by decide), Nat.mod_mod, show (16 : Nat) = 2 ^ 4 from rfl, bitOf_mod]
      simp [hk, hm]
    exact hu _ _ hk (by rw [if_pos hset]; exact pioTrigger_sets _ _ hk)
  case flushOut =>
    intro s e who hw hs
    refine ⟨_, congrArg Host.Outcome.next (hw.pio (by simp) _), ?_⟩
    rw [effPio, if_neg (by decide), if_neg (by decide), if_pos rfl, pioCmd, if_pos (by exact hs), if_pos (by decide), eng_setEng]
  case flushIn =>
    intro s e who hw hs
    refine ⟨_, congrArg Host.Outcome.next (hw.pio (by simp) _), ?_⟩
    rw [effPio, if_neg (by decide), if_neg (by decide), if_pos rfl, pioCmd, if_pos (by exact hs), if_neg (by decide), if_pos (by decide), eng_setEng]
  case start =>
    intro s e ha he hr hm
    refine ⟨_, exec_of_guard rfl (by simp [ha, he, hr, hm]), ?_, ?_⟩
    · simp [pioRunning, State.on, pioStart, F.PIO_ENG_STAT_RUNNING]
    · have : ∀ t : State, ((t.wr (P.pio e) F.HDR_PAGE_STAT_STOPPED 0).wr (P.pio e) F.PIO_ENG_STAT_RUNNING 1).rd (P.pio e) F.HDR_PAGE_STAT_STOPPED = 0 :=
        fun t => (rd_wr_beside _ _ _ rfl).trans (rd_wr_same ..)
      simp [State.stopped, State.on, pioStart, this]
  case instr =>
    intro s e who k v hw hk hs
    refine ⟨_, rfl, ?_⟩
    rw [if_pos hk, hw.instr hk hs]
    omega

end Sys2Proof.Machine
end

section
/-!
PROOF. The USB 2.0 device.
-/

namespace Sys2Proof.Machine

theorem usbEv_eq_or (s : State) (k : Nat) : usbEv s k = raise s P.usb k ∨ usbEv s k = evOnly s P.usb k := by
  unfold usbEv
  split
  · exact .inl rfl
  · exact .inr rfl

theorem usbEv_raised (s : State) (k : Nat) : Raised (noEclEv s) s (usbEv s k) := by
  rcases usbEv_eq_or s k with h | h <;> rw [h]
  · exact raise_raised ..
  · exact evOnly_raised ..

theorem usbEv_rd (s : State) (k : Nat) {f : Fld} (h : f.off ≠ 0x010) : (usbEv s k).rd P.usb f = s.rd P.usb f :=
  (usbEv_raised s k).regs.rd _ _ (by simp [evKey, P.usb, h])

theorem usbEv_usb (s : State) (k : Nat) : (usbEv s k).usb = s.usb := (usbEv_keeps ..).usb rfl

theorem usbEv_bit (s : State) {k : Nat} (hk : k < 32) : (usbEv s k).bit P.usb F.HDR_EV_STAT_EV k = true := by
  rcases usbEv_eq_or s k with h | h <;> rw [h]
  · exact bit_raise _ _ _ hk
  · exact (bit_setBit _ _ _ _ _ _ hk).trans (if_pos rfl)

/-- The registers of SETUP and the event bits stand while the ROM answers. -/
theorem romSetup_rd (s : State) (b : List Nat) {f : Fld} (h : f.off ≠ 0x048) : (romSetup s b).rd P.usb f = s.rd P.usb f := by
  unfold romSetup
  dsimp only
  split
  · rfl
  · split
    · exact rd_wr_beside _ _ _ (by simp [h, F.USBDEV_DEV_ADDR_ADDR])
    · rfl

/-! ## Arming an endpoint (R502) -/

theorem usb_ctrl_register : ∀ e < 9, plainReg P.usb (0x108 + 16 * e) = true ∧
    regFields P.usb (0x108 + 16 * e) = [F.USBDEV_EP_CTRL_ARM e, F.USBDEV_EP_CTRL_STALL e, F.USBDEV_EP_CTRL_ZLP e, F.USBDEV_EP_CTRL_LEN e] ∧
    ∀ f ∈ [F.USBDEV_EP_CTRL_STALL e, F.USBDEV_EP_CTRL_ZLP e, F.USBDEV_EP_CTRL_LEN e], absentField P.usb f = false ∧ ownStore P.usb f = false := by
  decide +kernel

theorem keepWord_epCtrl (s : State) (who : By) {e : Nat} (he : e < 9) (n : Nat) :
    let w := keepWord s who P.usb (0x108 + 16 * e) [(F.USBDEV_EP_CTRL_ARM e, 1), (F.USBDEV_EP_CTRL_LEN e, n)]
    bitOf w 31 = true ∧ w % 2 ^ 16 = n % 2 ^ 16 := by
  unfold keepWord
  rw [(usb_ctrl_register e he).2.1]
  simp only [List.map_cons, List.map_nil, List.find?_cons, List.find?_nil]
  simp [F.USBDEV_EP_CTRL_ARM, F.USBDEV_EP_CTRL_STALL, F.USBDEV_EP_CTRL_ZLP, F.USBDEV_EP_CTRL_LEN, mkWord, beq_eq_decide, bitOf]
  omega

/-- A write of EP_CTRL stores STALL, ZLP and LEN; with ARM it arms the endpoint. -/
theorem MayWrite.epCtrl {s : State} {who : By} {e : Nat} (h : MayWrite s who P.usb (0x108 + 16 * e)) (he : e < 9) {word : Nat}
    (ha : bitOf word 31 = true) : busStore s who P.usb (0x108 + 16 * e) word =
      epArm ((((dropArms s P.usb).wr P.usb (F.USBDEV_EP_CTRL_STALL e) (fbits word (F.USBDEV_EP_CTRL_STALL e))).wr P.usb
        (F.USBDEV_EP_CTRL_ZLP e) (fbits word (F.USBDEV_EP_CTRL_ZLP e))).wr P.usb (F.USBDEV_EP_CTRL_LEN e)
        (fbits word (F.USBDEV_EP_CTRL_LEN e))) e := by
  obtain ⟨hplain, hfields, hown⟩ := usb_ctrl_register e he
  have hrw : ∀ f ∈ [F.USBDEV_EP_CTRL_STALL e, F.USBDEV_EP_CTRL_ZLP e, F.USBDEV_EP_CTRL_LEN e], ∀ t : State,
      storeField t who P.usb f word = t.wr P.usb f (fbits word f) := fun f hf t => by
    obtain ⟨h1, h2⟩ := hown f hf
    have hacc : f.acc = .rw := by
      simp only [List.mem_cons, List.not_mem_nil, or_false] at hf
      rcases hf with rfl | rfl | rfl <;> rfl
    rw [storeField_rw hacc (by rw [h1, h2]; rfl)]
    rfl
  have harm : ∀ t : State, storeField t who P.usb (F.USBDEV_EP_CTRL_ARM e) word = t := fun t => by
    unfold storeField
    dsimp only
    split <;> rfl
  rw [h.plain word hplain (by omega), hfields]
  simp only [List.foldl_cons, List.foldl_nil]
  rw [harm, hrw _ (by simp), hrw _ (by simp), hrw _ (by simp), writeEffect, if_neg (by omega)]
  show effUsb _ _ _ = _
  rw [effUsb, if_neg (by omega), if_pos ⟨by omega, by omega, by omega, ha⟩, show (0x108 + 16 * e - 0x100) / 16 = e by omega]

theorem epArm_arms {s : State} {e : Nat} (hen : s.on P.usb (F.USBDEV_EP_CFG_EN e) = true)
    (hbuf : s.rd P.usb (F.USBDEV_EP_BUF_OFFSET e) + s.rd P.usb (F.USBDEV_EP_CTRL_LEN e) ≤ 0x40000) :
    (epArm s e).usb.armed.contains e = true := by
  have hzero : ∀ f : Fld, f.off % 16 ≠ 0xC → (s.zero P.usb [F.USBDEV_EP_STAT_XFER e, F.USBDEV_EP_STAT_SHORT e]).rd P.usb f = s.rd P.usb f :=
    fun f hf => (rd_wr_beside _ _ _ (by simp [F.USBDEV_EP_STAT_SHORT]; omega)).trans (rd_wr_beside _ _ _ (by simp [F.USBDEV_EP_STAT_XFER]; omega))
  unfold epArm
  dsimp only
  rw [hzero _ (by simp [F.USBDEV_EP_CFG_EN]), hzero _ (by simp [F.USBDEV_EP_BUF_OFFSET]),
    if_neg (by simpa [State.on] using hen), if_neg (by omega)]
  simp

theorem filter_ne_contains (l : List Nat) (e : Nat) : (l.filter (· != e)).contains e = false := by simp

/-! ## The end of a transfer -/

/-- A fold of steps that leave a part of the state leaves it. -/
theorem foldl_part {α β : Type} (g : State → β) {f : State → α → State} (hf : ∀ t a, g (f t a) = g t) (l : List α) (t : State) :
    g (l.foldl f t) = g t := by
  induction l generalizing t with
  | nil => rfl
  | cons a r ih => exact (ih _).trans (hf t a)

theorem usbAbort_armed (s : State) : (usbAbort s).usb.armed = [] := by
  unfold usbAbort
  dsimp only
  split
  · refine foldl_part (·.usb.armed) (fun _ _ => ?_) _ _
    rfl
  · rw [usbEv_usb]
    refine foldl_part (·.usb.armed) (fun _ _ => ?_) _ _
    rfl

/-- Settles O52. -/
theorem usbDevice : Obligations.UsbDevice := by
  unfold Obligations.UsbDevice
  refine ⟨?reset, ?suspend, ?resume, ?setup, ?arm, ?done⟩
  case reset =>
    intro s b hup
    refine ⟨_, exec_of_guard rfl hup, ?_, ?_, ?_⟩
    · rw [usbEv_rd _ _ (by decide)]
      exact rd_wr_same ..
    · rw [usbEv_rd _ _ (by decide), rd_wr_beside _ _ _ rfl]
      rw [rd_put_usb]
      exact rd_wr_same ..
    · rw [usbEv_usb]
      exact usbAbort_armed s
  case suspend =>
    intro s hup h
    refine ⟨_, exec_of_guard rfl (by simp [hup, h]), ?_, usbEv_bit _ (by decide)⟩
    rw [usbEv_rd _ _ (by decide)]
    exact rd_wr_same ..
  case resume =>
    intro s hup h
    refine ⟨_, exec_of_guard rfl (by simp [hup, h]), ?_, usbEv_bit _ (by decide)⟩
    rw [usbEv_rd _ _ (by decide)]
    exact rd_wr_same ..
  case setup =>
    intro s b hup
    have hrom : ∀ (t : State) (f : Fld), f.off ≠ 0x048 → (if t.st = NS.dawn then romSetup t b else t).rd P.usb f = t.rd P.usb f :=
      fun t f hf => by
        split
        · exact romSetup_rd t b hf
        · rfl
    refine ⟨_, exec_of_guard rfl hup, ?_, ?_, ?_⟩
    · rw [hrom _ _ (by decide), usbEv_rd _ _ (by decide), rd_wr_beside _ _ _ rfl]
      exact rd_wr_same ..
    · rw [hrom _ _ (by decide), usbEv_rd _ _ (by decide)]
      exact rd_wr_same ..
    · exact (congrArg (bitOf · 1) (hrom _ _ (by decide))).trans (usbEv_bit _ (by decide))
  case arm =>
    intro s e n who hw hen hbuf
    obtain ⟨harm, hlen⟩ := keepWord_epCtrl s who (Nat.mod_lt e (by decide : 9 > 0)) n
    refine ⟨_, congrArg Host.Outcome.next (hw.epCtrl (Nat.mod_lt _ (by decide)) harm), ?_⟩
    have he : e % 9 < 9 := Nat.mod_lt _ (by decide)
    generalize e % 9 = e at *
    refine epArm_arms ?_ ?_
    · rw [State.on, rd_wr_beside _ _ _ (by simp [F.USBDEV_EP_CFG_EN, F.USBDEV_EP_CTRL_LEN]),
        rd_wr_beside _ _ _ (by simp [F.USBDEV_EP_CFG_EN, F.USBDEV_EP_CTRL_ZLP]),
        rd_wr_beside _ _ _ (by simp [F.USBDEV_EP_CFG_EN, F.USBDEV_EP_CTRL_STALL])]
      exact hen
    · rw [rd_wr_same, rd_wr_beside _ _ _ (by simp [F.USBDEV_EP_BUF_OFFSET, F.USBDEV_EP_CTRL_LEN]),
        rd_wr_beside _ _ _ (by simp [F.USBDEV_EP_BUF_OFFSET, F.USBDEV_EP_CTRL_ZLP]),
        rd_wr_beside _ _ _ (by simp [F.USBDEV_EP_BUF_OFFSET, F.USBDEV_EP_CTRL_STALL])]
      have hn : fbits (keepWord s who P.usb (0x108 + 16 * e) [(F.USBDEV_EP_CTRL_ARM e, 1), (F.USBDEV_EP_CTRL_LEN e, n)])
          (F.USBDEV_EP_CTRL_LEN e) % 2 ^ 16 ≤ n := by
        simp only [fbits, bitsOf, F.USBDEV_EP_CTRL_LEN, Nat.pow_zero, Nat.div_one]
        rw [Nat.mod_mod]
        exact hlen ▸ Nat.mod_le ..
      exact Nat.le_trans (Nat.add_le_add_left hn _) hbuf
  case done =>
    intro s e o b hup harm hdir hen hst
    refine ⟨_, (congrArg Host.Outcome.next (if_neg (by simp [hup, hdir, hen]))).trans
      (congrArg Host.Outcome.next ((if_neg (by simp [hst])).trans (if_pos harm))), ?_⟩
    have hreg : ∀ t : State, (usbEv (t.wr P.usb (F.USBDEV_EP_STAT_DONE e) 1) 1).usb.armed = t.usb.armed ∧
        (usbEv (t.wr P.usb (F.USBDEV_EP_STAT_DONE e) 1) 1).rd P.usb (F.USBDEV_EP_STAT_DONE e) = 1 ∧
        (usbEv (t.wr P.usb (F.USBDEV_EP_STAT_DONE e) 1) 1).rd P.usb (F.USBDEV_EP_STAT_XFER e) = t.rd P.usb (F.USBDEV_EP_STAT_XFER e) := fun t => by
      refine ⟨congrArg (·.armed) (usbEv_usb ..), ?_, ?_⟩
      · rw [usbEv_rd _ _ (by simp [F.USBDEV_EP_STAT_DONE]; omega)]
        exact rd_wr_same ..
      · rw [usbEv_rd _ _ (by simp [F.USBDEV_EP_STAT_XFER]; omega), rd_wr_beside _ _ _ (by simp [F.USBDEV_EP_STAT_XFER, F.USBDEV_EP_STAT_DONE])]
    have haddr : ∀ (t : State) (c : Bool) (a : Nat), (if c then { t with usb := { t.usb with addr := a } } else t).usb.armed = t.usb.armed ∧
        (if c then { t with usb := { t.usb with addr := a } } else t).rd P.usb (F.USBDEV_EP_STAT_XFER e) = t.rd P.usb (F.USBDEV_EP_STAT_XFER e) :=
      fun t c a => by split <;> exact ⟨rfl, rfl⟩
    obtain ⟨h1, h2, h3⟩ := hreg _
    refine ⟨(congrArg (·.contains e) (h1.trans (haddr ..).1)).trans ?_, h2, (h3.trans (haddr ..).2).trans ?_⟩
    · cases o
      · exact filter_ne_contains ..
      · exact (congrArg (fun u : UsbSt => u.armed.contains e) ((State.memWrite_keeps ..).usb rfl)).trans (filter_ne_contains s.usb.armed e)
    · cases o
      · exact rd_wr_same ..
      · exact (rd_wr_beside _ _ _ (by simp [F.USBDEV_EP_STAT_XFER, F.USBDEV_EP_STAT_SHORT])).trans (rd_wr_same ..)

end Sys2Proof.Machine
end

section
/-!
PROOF. The USB-C ports: the service path, attach and detach, capabilities and contracts.
-/

namespace Sys2Proof.Machine

/-! ## A port's registers and record -/

@[simp] theorem pd_setPd (s : State) (p q : Nat) (x : PdSt) (f : Fld) : (setPd s p x).pd q f = s.pd q f := by
  unfold setPd
  split <;> rfl

@[simp] theorem pdSt_setPd (s : State) (p : Nat) (x : PdSt) : pdSt (setPd s p x) p = x := by
  unfold setPd pdSt
  split <;> rfl

@[simp] theorem sent_setPd (s : State) (p : Nat) (x : PdSt) : (setPd s p x).usb.sent = s.usb.sent := by
  unfold setPd
  split <;> rfl

@[simp] theorem pdSt_pdWr (s : State) (p q : Nat) (f : Fld) (v : Nat) : pdSt (s.pdWr p f v) q = pdSt s q := rfl
@[simp] theorem sent_pdWr (s : State) (p : Nat) (f : Fld) (v : Nat) : (s.pdWr p f v).usb.sent = s.usb.sent := rfl
@[simp] theorem pd_pdSend (s : State) (p q : Nat) (m : PdMsg) (f : Fld) : (pdSend s p m).pd q f = s.pd q f := rfl
@[simp] theorem pdSt_pdSend (s : State) (p q : Nat) (m : PdMsg) : pdSt (pdSend s p m) q = pdSt s q := rfl
@[simp] theorem sent_pdSend (s : State) (p : Nat) (m : PdMsg) : (pdSend s p m).usb.sent = (p, m) :: s.usb.sent := rfl

theorem pd_pdWr_same (s : State) (p : Nat) (f : Fld) (v : Nat) : (s.pdWr p f v).pd p f = v % 2 ^ f.width := rd_wr_same ..

theorem pd_pdWr_beside (s : State) (p : Nat) {f g : Fld} (v : Nat) (h : (f.off != g.off || f.lsb != g.lsb) = true) :
    (s.pdWr p g v).pd p f = s.pd p f := rd_wr_beside _ _ _ h

theorem pdSt_of_usb {s t : State} (h : t.usb = s.usb) (p : Nat) : pdSt t p = pdSt s p := congrArg (fun u : UsbSt => if p = 0 then u.port0 else u.port1) h

/-! ## Events that stand -/

/-- No event bit that is set is cleared. -/
structure EvStay (s t : State) : Prop where
  keep : ∀ q k, k < 32 → s.bit q F.HDR_EV_STAT_EV k = true → t.bit q F.HDR_EV_STAT_EV k = true

theorem EvStay.refl (s : State) : EvStay s s := ⟨fun _ _ _ h => h⟩

theorem EvStay.trans {s t u : State} (h : EvStay s t) (k : EvStay t u) : EvStay s u := ⟨fun q j hj hb => k.keep q j hj (h.keep q j hj hb)⟩

theorem EvStay.of_regs {s t : State} (h : t.regs = s.regs) : EvStay s t := ⟨fun q k _ hb => by rwa [State.bit, rd_of_regs h]⟩

theorem EvStay.wr {s t : State} (h : EvStay s t) (p : Nat) (f : Fld) (v : Nat) (hf : f.off ≠ 0x010) : EvStay s (t.wr p f v) := ⟨fun q k hk hb => by
  rw [State.bit, rd_wr_apart _ _ (by simp [keyApart, F.HDR_EV_STAT_EV, Ne.symm hf])]
  exact h.keep q k hk hb⟩

theorem Raised.evStay {c : Prop} {s t : State} (h : Raised c s t) : EvStay s t := ⟨h.ev⟩

theorem EvStay.of_keeps {m : Nat} {s t : State} (h : Keeps m s t) (hm : m.testBit 40 = false) : EvStay s t := ⟨fun q k _ hb => by
  rwa [State.bit, h.rd _ _ (by simpa [regGroup, F.HDR_EV_STAT_EV] using hm)]⟩

theorem EvStay.ite {s t u : State} {c : Prop} [Decidable c] (h : EvStay s t) (k : EvStay s u) : EvStay s (if c then t else u) := by
  split
  · exact h
  · exact k

theorem EvStay.foldl {α : Type} {s t : State} {f : State → α → State} (hf : ∀ t a, EvStay t (f t a)) (l : List α) (h : EvStay s t) :
    EvStay s (l.foldl f t) := by
  induction l generalizing t with
  | nil => exact h
  | cons a r ih => exact ih (h.trans (hf t a))

theorem EvStay.each {s t : State} {n : Nat} {f : State → Nat → State} (hf : ∀ t a, EvStay t (f t a)) (h : EvStay s t) :
    EvStay s (t.each n f) := .foldl hf _ h

theorem EvStay.zero {s t : State} (h : EvStay s t) (p : Nat) (l : List Fld) (hl : (l.all fun f => f.off != 0x010) = true) : EvStay s (t.zero p l) := by
  induction l generalizing t with
  | nil => exact h
  | cons f r ih =>
    rw [List.all_cons, Bool.and_eq_true] at hl
    exact ih (h.wr p f 0 (by simpa using hl.1)) hl.2

theorem raise_evStay (s : State) (p k : Nat) : EvStay s (raise s p k) := ⟨(raise_raised s p k).ev⟩

theorem usbEv_evStay (s : State) (k : Nat) : EvStay s (usbEv s k) := ⟨(usbEv_raised s k).ev⟩

theorem usbAbort_evStay (s : State) : EvStay s (usbAbort s) := by
  have hl : EvStay s (s.usb.armed.foldl (fun t e => t.wr P.usb (F.USBDEV_EP_STAT_ERR e) 1) { s with usb := { s.usb with armed := [] } }) :=
    .foldl (fun t e => (EvStay.refl t).wr _ _ _ (by simp [F.USBDEV_EP_STAT_ERR]; omega)) _ (.of_regs rfl)
  exact .ite hl (hl.trans (usbEv_evStay ..))

theorem usbConnect_evStay (s : State) : EvStay s (usbConnect s) := by
  refine .ite (.refl s) (EvStay.trans ?_ (usbEv_evStay ..))
  have hw := (EvStay.refl s).wr P.usb F.USBDEV_DEV_STAT_CONNECTED (b2n (s.usb.vbus0 && s.on P.usb F.USBDEV_DEV_CFG_CONNECT)) (by decide)
  exact .ite hw ((hw.trans (usbAbort_evStay _)).zero _ _ rfl)

theorem vbusFall_evStay (s : State) : EvStay s (vbusFall s) := by
  refine .ite (.trans ?_ (usbConnect_evStay _)) ?_ <;> exact .of_regs rfl

/-! ## What events, budget, VBUS0 and Tap leave of a port -/

theorem pdEv_raised (s : State) (p k : Nat) : Raised (noEclEv s) s (pdEv s p k) := by
  unfold pdEv
  split
  · exact raise_raised ..
  · exact evOnly_raised ..

theorem pd_pdEv (s : State) (p k q : Nat) {f : Fld} (h : 0x040 ≤ f.off) : (pdEv s p k).pd q f = s.pd q f :=
  (pdEv_keeps ..).rd_body group_pd h rfl

@[simp] theorem usb_pdEv (s : State) (p k : Nat) : (pdEv s p k).usb = s.usb := (pdEv_keeps ..).usb rfl

theorem bit_pdEv (s : State) (p : Nat) {k : Nat} (hk : k < 32) : (pdEv s p k).bit (P.pd p) F.HDR_EV_STAT_EV k = true := by
  unfold pdEv
  split
  · exact bit_raise _ _ _ hk
  · exact (bit_setBit _ _ _ _ _ _ hk).trans (if_pos rfl)

/-- The budget's own register apart, nothing of a port changes with it. -/
theorem pd_judgeBudget (s : State) {f : Fld} (h : 0x040 ≤ f.off) (hb : f.off ≠ 0x080) : (judgeBudget s).pd 0 f = s.pd 0 f := by
  have hw : ∀ (t : State) (g : Fld) (v : Nat), g.off = 0x080 → (t.pdWr 0 g v).pd 0 f = t.pd 0 f := fun t g v hg =>
    pd_pdWr_beside _ _ _ (by simp [hg, hb])
  unfold judgeBudget
  dsimp only
  split
  · rw [pd_pdEv _ _ _ _ h, hw _ _ _ rfl, hw _ _ _ rfl]
  · exact hw _ _ _ rfl

@[simp] theorem usb_judgeBudget (s : State) : (judgeBudget s).usb = s.usb := (judgeBudget_keeps ..).usb rfl

/-- Of the USB state a connection or disconnection changes the armed endpoints alone. -/
theorem usb_usbConnect (s : State) : (usbConnect s).usb = { s.usb with armed := (usbConnect s).usb.armed } := by
  have habort : ∀ t : State, (usbAbort t).usb = { t.usb with armed := (usbAbort t).usb.armed } := fun t => by
    rw [usbAbort_armed]
    unfold usbAbort
    dsimp only
    split
    · refine foldl_part (·.usb) (fun _ _ => ?_) _ _
      rfl
    · rw [usbEv_usb]
      refine foldl_part (·.usb) (fun _ _ => ?_) _ _
      rfl
  unfold usbConnect
  dsimp only
  split
  · rfl
  · rw [usbEv_usb]
    split
    · rfl
    · exact habort _

theorem pd_vbusFall (s : State) (p : Nat) {f : Fld} (h : 0x040 ≤ f.off) : (vbusFall s).pd p f = s.pd p f :=
  (vbusFall_keeps ..).rd_body group_pd h rfl

/-- A fall of VBUS0 leaves the ports' records and what they have sent. -/
theorem vbusFall_ports (s : State) : (vbusFall s).usb.sent = s.usb.sent ∧ ∀ p, pdSt (vbusFall s) p = pdSt s p := by
  have hconn : ∀ t : State, (usbConnect t).usb.sent = t.usb.sent ∧ ∀ p, pdSt (usbConnect t) p = pdSt t p := fun t =>
    ⟨congrArg (·.sent) (usb_usbConnect t), fun p => by unfold pdSt; rw [usb_usbConnect]⟩
  unfold vbusFall
  dsimp only
  split
  · exact hconn _
  · exact ⟨rfl, fun _ => rfl⟩

/-- Tap's end clears TAP; no other register of a port changes. -/
theorem pd_tapEnd (s : State) {f : Fld} (h : 0x040 ≤ f.off) (ht : (f.off != 0x078 || f.lsb != 23) = true) : (tapEnd s).pd 0 f = s.pd 0 f := by
  unfold tapEnd
  dsimp only
  split
  · have hev : ((pdEv (s.pdWr 0 F.PD_PD_STAT_TAP 0) 0 1)).pd 0 f = s.pd 0 f := (pd_pdEv _ _ _ _ h).trans (pd_pdWr_beside _ _ _ ht)
    split
    · exact ((laneExit_keeps ..).rd_body group_pd h rfl).trans hev
    · exact ((setLaneState_keeps ..).rd_body group_pd h rfl).trans hev
  · rfl

theorem tapOn_tapEnd (s : State) : tapOn (tapEnd s) = false := by
  have hev : (pdEv (s.pdWr 0 F.PD_PD_STAT_TAP 0) 0 1).pd 0 F.PD_PD_STAT_TAP = 0 := (pd_pdEv _ _ _ _ (by decide)).trans (pd_pdWr_same ..)
  unfold tapEnd
  dsimp only
  split
  next =>
    split
    · rw [tapOn, State.pd, (laneExit_keeps ..).rd_body group_pd (by decide) rfl]
      exact congrArg (· == 1) hev
    · rw [tapOn, State.pd, (setLaneState_keeps ..).rd_body group_pd (by decide) rfl]
      exact congrArg (· == 1) hev
  next h => simpa using h

@[simp] theorem usb_tapEnd (s : State) : (tapEnd s).usb = s.usb := (tapEnd_keeps ..).usb rfl

theorem pd_zero (s : State) (p : Nat) (l : List Fld) {f : Fld} (h : (l.all fun g => f.off != g.off || f.lsb != g.lsb) = true) :
    (s.zero (P.pd p) l).pd p f = s.pd p f := by
  have : ∀ (l : List Fld) (t : State), (l.all fun g => f.off != g.off || f.lsb != g.lsb) = true → (t.zero (P.pd p) l).pd p f = t.pd p f := by
    intro l
    induction l with
    | nil => exact fun _ _ => rfl
    | cons g r ih =>
      intro t ht
      rw [List.all_cons, Bool.and_eq_true] at ht
      exact (ih _ ht.2).trans (rd_wr_beside _ _ _ ht.1)
  exact this l s h

/-! ## PD_CMD (R487, R501) -/

theorem pdCmd_register : ∀ p < 2, triggerReg (P.pd p) 0x070 = true ∧ ((regFields (P.pd p) 0x070).all (noCondition (P.pd p))) = true ∧
    pageType (P.pd p) = some .pd := by decide +kernel

/-- A write of PD_CMD is its command. -/
theorem MayWrite.pdCmd {s : State} {who : By} {p : Nat} (h : MayWrite s who (P.pd (p % 2)) 0x070) {op : Nat} (hop : op < 16) :
    pdWrite s p who op = Machine.pdCmd (dropArms s (P.pd (p % 2))) (p % 2) op := by
  have hp : p % 2 < 2 := Nat.mod_lt _ (by decide)
  obtain ⟨ht, hc, htype⟩ := pdCmd_register (p % 2) hp
  refine h.block _ ht hc (by decide) (.inl (by simp [P.pd, P.sestx])) ?_
  rw [writeEffect, if_neg (by decide), htype]
  dsimp only
  rw [show P.pd (p % 2) - 0x100 = p % 2 by unfold P.pd; omega, effPd, if_neg (by decide), if_pos rfl,
    Nat.mul_div_cancel _ (by decide), Nat.mod_eq_of_lt hop]

/-- The state in which a command of PD_CMD runs: it is in progress, with no result yet. -/
def pdRunning (s : State) (p op : Nat) : State := (setPd s p { pdSt s p with cmd := some op }).pdWr p F.PD_PD_RES_RESULT 0

theorem pdCmd_runs {s : State} {p op : Nat} (h0 : op ≠ 0 ∧ op ≤ 5) (hcmd : (pdSt s p).cmd = none) (hok : pdOpOk s p op = true)
    (hgo : op = 3 ∨ (pdSt s p).ams = 9 ∨ sinkTxOk s p = true) : pdCmd s p op = pdOpRun (pdRunning s p op) p op := by
  unfold pdCmd
  dsimp only
  rw [if_neg (by omega), if_neg (by simp [hcmd]), if_neg (by simp [hok]), if_pos hgo]
  rfl

/-- What a port asks its partner, and the state in which it waits for the answer. -/
theorem pdAsk_sends (s : State) (p : Nat) (m : PdMsg) (a : Nat) :
    (pdStart (amsStart (pdSend s p m) p a) p PT.senderResp).usb.sent = (p, m) :: s.usb.sent ∧
      (pdSt (pdStart (amsStart (pdSend s p m) p a) p PT.senderResp) p).ams = a := by
  simp [pdStart, pdStartAt, amsStart]

/-! ## Requests (R486) -/

theorem pdChoose_of_pd {s t : State} (h : ∀ f : Fld, f.off = 0x044 → t.pd 0 f = s.pd 0 f) (l : List (Nat × Nat × Bool)) :
    pdChoose t l = pdChoose s l := by
  have hv : snkVmax t = snkVmax s := by simp only [snkVmax, h F.PD_SNK_CFG_SNK_VMAX rfl]
  have hi : snkIop t = snkIop s := by simp only [snkIop, h F.PD_SNK_CFG_SNK_IOP rfl]
  simp only [pdChoose, hv, hi]

theorem pdRequest_sends (s : State) (l : List (Nat × Nat × Bool)) (h : (pdSt s 0).caps = l) :
    (pdRequest s).usb.sent.head? = some (0, .request (pdChoose s l).1 (pdChoose s l).2.2.1 (pdChoose s l).2.2.2) ∧
      (pdSt (pdRequest s) 0).ams = 5 ∧ (pdSt (pdRequest s) 0).caps = l := by
  simp [pdRequest, pdStart, pdStartAt, amsStart, h]

/-- A contract in force. -/
theorem pdContract_shows (s : State) (p v i : Nat) : (pdContract s p v i).pd p F.PD_PD_STAT_CONTRACT = 1 ∧
    (pdContract s p v i).pd p F.PD_CONTRACT_V = v % 2 ^ F.PD_CONTRACT_V.width ∧
    (pdContract s p v i).pd p F.PD_CONTRACT_I = i % 2 ^ F.PD_CONTRACT_I.width := by
  have hrest : ∀ (t : State) (f : Fld), 0x040 ≤ f.off → f.off ≠ 0x080 → (pdEv (if p = 0 then judgeBudget t else t) p 1).pd p f = t.pd p f :=
    fun t f h hb => by
      rw [pd_pdEv _ _ _ _ h]
      split
      next hp => exact hp ▸ pd_judgeBudget t h hb
      next => rfl
  unfold pdContract
  dsimp only
  refine ⟨?_, ?_, ?_⟩
  · rw [hrest _ _ (by decide) (by decide), pd_pdWr_beside _ _ _ rfl, pd_pdWr_beside _ _ _ rfl]
    exact pd_pdWr_same ..
  · rw [hrest _ _ (by decide) (by decide), pd_pdWr_beside _ _ _ rfl]
    exact pd_pdWr_same ..
  · rw [hrest _ _ (by decide) (by decide)]
    exact pd_pdWr_same ..

/-- What follows the registers of an attach: a source offers, a sink judges its budget. -/
theorem attach_rest (s : State) (p : Nat) (b : Bool) {f : Fld} (h : 0x040 ≤ f.off) (hb : f.off ≠ 0x080) (hp : b = false → p = 0) :
    (pdEv (if b then pdOfferNow (pdDrive s p 5000) p else judgeBudget s) p 0).pd p f = s.pd p f := by
  rw [pd_pdEv _ _ _ _ h]
  cases b
  · rw [hp rfl]
    exact pd_judgeBudget s h hb
  · have hdrive : (pdDrive s p 5000).pd p f = s.pd p f := by
      unfold pdDrive
      dsimp only
      split <;> simp
    simpa [pdOfferNow, pdStart, pdStartAt, amsStart] using hdrive

/-- The partner is gone. -/
theorem pdDetach_shows {s : State} {p : Nat} (h : pdAttach s p ≠ 0) :
    pdAttach (pdDetach s p) p = 0 ∧ (pdDetach s p).bit (P.pd p) F.HDR_EV_STAT_EV 0 = true := by
  have hzero : ∀ t : State, (t.zero (P.pd p) [F.PD_PD_STAT_ATTACH, F.PD_PD_STAT_REV3, F.PD_PD_STAT_RP_ADV, F.PD_PD_STAT_DEAD_BATT]).pd p
      F.PD_PD_STAT_ATTACH = 0 := fun t => (pd_zero (t.pdWr p F.PD_PD_STAT_ATTACH 0) p
    [F.PD_PD_STAT_REV3, F.PD_PD_STAT_RP_ADV, F.PD_PD_STAT_DEAD_BATT] rfl).trans (pd_pdWr_same ..)
  have hrest : ∀ t : State, (if p = 0 then judgeBudget (tapEnd (vbusFall t)) else t).pd p F.PD_PD_STAT_ATTACH = t.pd p F.PD_PD_STAT_ATTACH := fun t => by
    split
    next hp =>
      rw [hp, pd_judgeBudget _ (by decide) (by decide), pd_tapEnd _ (by decide) rfl]
      exact pd_vbusFall t 0 (by decide)
    next => rfl
  rw [pdDetach, if_neg h]
  refine ⟨?_, bit_pdEv _ _ (by decide)⟩
  rw [pdAttach, pd_pdEv _ _ _ _ (by decide), hrest, pd_setPd, hzero]

/-- Settles O50. -/
theorem servicePathAndAttach : Obligations.ServicePathAndAttach := by
  unfold Obligations.ServicePathAndAttach
  refine ⟨?rise, ?overlap, ?takeover, ?ov, ?ovClear, ?attach, ?detach, ?caps, ?request, ?received, ?accept, ?ready⟩
  case rise =>
    intro s hv
    have hconn : ∀ t : State, (if t.alive then usbConnect t else t).usb.vbus0 = t.usb.vbus0 ∧
        (if t.alive then usbConnect t else t).usb.svc = t.usb.svc := fun t => by
      split
      · exact ⟨congrArg (·.vbus0) (usb_usbConnect t), congrArg (·.svc) (usb_usbConnect t)⟩
      · exact ⟨rfl, rfl⟩
    have hwake : ∀ t : State, (if !t.node.rails then { t with ao := { t.ao with wake := withBit t.ao.wake 1 } } else t).usb = t.usb ∧
        pgMain (if !t.node.rails then { t with ao := { t.ao with wake := withBit t.ao.wake 1 } } else t) = pgMain t := fun t => by
      split <;> exact ⟨rfl, rfl⟩
    have hsvc : ∀ t : State, (if pgMain t || t.usb.port0.vbus then t else setSvc t true).usb.vbus0 = t.usb.vbus0 ∧
        (if pgMain t || t.usb.port0.vbus then t else setSvc t true).usb.svc = if pgMain t || t.usb.port0.vbus then t.usb.svc else true :=
      fun t => by split <;> exact ⟨rfl, rfl⟩
    refine ⟨_, rfl, ?_, ?_⟩
    · rw [(hconn _).1, (hsvc _).1, (hwake _).1]
    · rw [(hconn _).2, (hsvc _).2, (hwake _).1, (hwake _).2, hv]
      rfl
  case overlap =>
    intro s u x hu hle
    refine ⟨_, congrArg Host.Outcome.next (?_ : _ = setSvc { s with usb := { s.usb with overlap := none } } false), rfl, rfl⟩
    rw [hu]
    exact if_pos hle
  case takeover =>
    intro s v w ha ht hat hf hw hle
    refine ⟨_, exec_of_guard rfl (by simp [ha, ht, hat, hf, hw, hle]), rfl⟩
  case ov =>
    intro s h
    refine ⟨_, congrArg Host.Outcome.next (if_pos h), ?_, ?_, ?_, bit_pdEv _ _ (by decide)⟩
    · rw [usb_pdEv]
      rfl
    · rw [usb_pdEv]
      rfl
    · refine (congrArg (bitOf · 6) (pd_pdEv _ _ _ _ (by decide))).trans ?_
      exact (bit_setBit _ _ _ _ _ _ (by decide)).trans (if_pos rfl)
  case ovClear =>
    intro s h hpg
    refine ⟨_, congrArg Host.Outcome.next ((if_pos h).trans (if_neg ?_)), rfl, rfl⟩
    exact ne_true_of_eq_false hpg
  case attach =>
    intro s p b rp r hr hat hgo
    have hp : b = false → p = 0 := by
      rintro rfl
      by_contra hp
      rw [if_neg hp] at hgo
      exact absurd hgo (by simp)
    have hfirst : ¬ (pdRuns s p && p == 0 && pdAttach s 0 == 1 && !b) = true := by
      simp only [Bool.and_eq_true, beq_iff_eq]
      rintro ⟨⟨⟨-, rfl⟩, h1⟩, -⟩
      omega
    refine ⟨_, congrArg Host.Outcome.next ((if_neg hfirst).trans (if_pos (by rw [hr, hat, hgo]; rfl))), ?_, ?_, bit_pdEv _ _ (by decide)⟩
    · refine (attach_rest _ p b (by decide) (by decide) hp).trans ?_
      rw [pd_setPd, pd_pdWr_beside _ _ _ rfl, pd_pdWr_beside _ _ _ rfl, pd_pdWr_same]
      cases b <;> rfl
    · refine (attach_rest _ p b (by decide) (by decide) hp).trans ?_
      rw [pd_setPd, pd_pdWr_beside _ _ _ rfl, pd_pdWr_same]
      cases r <;> rfl
  case detach =>
    intro s p ha hp hat
    obtain ⟨h0, hev⟩ := pdDetach_shows hat
    have hfall : ∀ t : State, EvStay t (if p = 0 ∧ t.usb.vbus0 then vbusFall t else t) ∧
        pdAttach (if p = 0 ∧ t.usb.vbus0 then vbusFall t else t) p = pdAttach t p := fun t => by
      split
      · exact ⟨vbusFall_evStay t, pd_vbusFall t p (by decide)⟩
      · exact ⟨.refl t, rfl⟩
    refine ⟨_, congrArg Host.Outcome.next ((if_neg (by omega)).trans (?_ : _ = if p = 0 ∧ (pdDetach s p).usb.vbus0 then vbusFall (pdDetach s p)
      else pdDetach s p)), (hfall _).2.trans h0, (hfall _).1.keep _ _ (by decide) hev⟩
    dsimp only
    rw [if_pos ha]
  case caps =>
    intro s l hr hat
    have hkeep : ∀ f : Fld, f.off ≠ 0x074 → (if (pdSt (pdStop s 0 PT.noResponse) 0).ams = 4 then
        pdComplete (pdStop (amsEnd (pdStop s 0 PT.noResponse) 0) 0 PT.senderResp) 0 PR.ok else pdStop s 0 PT.noResponse).pd 0 f = s.pd 0 f := fun f hf => by
      have hcomplete : ∀ t : State, (pdComplete t 0 PR.ok).pd 0 f = t.pd 0 f := fun t => by
        unfold pdComplete
        split
        · rw [pd_setPd, pd_pdWr_beside _ _ _ (by simp [hf, F.PD_PD_RES_RESULT])]
        · rfl
      split
      · rw [hcomplete]
        simp [pdStop, amsEnd]
      · exact pd_setPd ..
    refine ⟨_, exec_of_guard rfl (by simp [hr, hat]), ?_⟩
    dsimp only
    generalize (if (pdSt (pdStop s 0 PT.noResponse) 0).ams = 4 then
        pdComplete (pdStop (amsEnd (pdStop s 0 PT.noResponse) 0) 0 PT.senderResp) 0 PR.ok else pdStop s 0 PT.noResponse) = u at hkeep ⊢
    have hauto : (setPd u 0 { pdSt u 0 with caps := l }).pd 0 F.PD_PD_CFG_AUTO_SNK = s.pd 0 F.PD_PD_CFG_AUTO_SNK :=
      (pd_setPd ..).trans (hkeep _ (by decide))
    obtain ⟨hsent, -, hcaps⟩ := pdRequest_sends (setPd u 0 { pdSt u 0 with caps := l }) l (by rw [pdSt_setPd])
    rw [pdChoose_of_pd (s := s) fun f hf => (pd_setPd ..).trans (hkeep f (by omega))] at hsent
    rw [hauto]
    split
    next => exact ⟨hcaps, fun _ => hsent⟩
    next h =>
      refine ⟨?_, fun hn => absurd hn h⟩
      split <;> simp [pdStart, pdStartAt]
  case request =>
    intro s p who l hw hp hr hat hams hl
    have hok : pdOpOk s 0 5 = true := by
      have hne : (pdSt s 0).caps ≠ [] := hl.1 ▸ hl.2
      have ha : (pdSt s 0).ams = 0 ∨ (pdSt s 0).ams = 9 := hams.2.elim .inr fun h => .inl h.1
      simp [pdOpOk, hr, hat, hne, ha]
    have hrun := pdCmd_runs (s := dropArms s (P.pd 0)) (p := 0) (op := 5) (by decide) hams.1 hok
      (hams.2.elim (fun h => .inr (.inl h)) fun h => .inr (.inr h.2))
    have hx : exec (.request p who) s = .next (pdRequest (pdRunning (dropArms s (P.pd 0)) 0 5)) := by
      refine congrArg Host.Outcome.next ((hw.pdCmd (by decide)).trans ?_)
      rw [hp]
      exact hrun
    obtain ⟨hsent, hams5, -⟩ := pdRequest_sends (pdRunning (dropArms s (P.pd 0)) 0 5) l (by rw [pdRunning, pdSt_pdWr, pdSt_setPd]; exact hl.1)
    refine ⟨_, hx, hsent.trans ?_, hams5⟩
    rw [pdChoose_of_pd (s := s) fun f hf => ?_]
    rw [pdRunning, pd_pdWr_beside _ _ _ (by simp [hf, F.PD_PD_RES_RESULT]), pd_setPd]
    rfl
  case received =>
    intro s p n m v i hr hat hsup hn hoff hm
    have hofr : ∀ t : State, (∀ f : Fld, f.off = 0x048 → t.pd 1 f = s.pd 1 f) → pdOffer t p = pdOffer s p := fun t ht => by
      simp only [pdOffer, ht F.PD_SRC_PDO_IMAX rfl, ht F.PD_SRC_PDO_PDO_EN rfl]
    have hams : ∀ (t : State) (f : Fld), (if (pdSt t p).ams = 8 then amsEnd t p else t).pd 1 f = t.pd 1 f := fun t f => by
      split
      · exact pd_setPd ..
      · rfl
    refine ⟨_, exec_of_guard rfl (by simp [hr, hat, hsup]), ?_⟩
    dsimp only
    rw [if_neg hn, hofr (if (pdSt (pdStop s p PT.sendSrcCap) p).ams = 8 then amsEnd (pdStop s p PT.sendSrcCap) p
      else pdStop s p PT.sendSrcCap) fun f _ => (hams _ f).trans (pd_setPd ..), hoff]
    dsimp only
    rw [if_pos hm]
    exact pdContract_shows ..
  case accept =>
    intro s p b hr hams
    refine ⟨_, exec_of_guard rfl hr, ?_⟩
    dsimp only
    rw [if_neg (by omega), if_pos hams]
    cases b
    · rw [if_neg Bool.false_ne_true, if_neg Bool.false_ne_true, pdComplete]
      split <;> simp [amsEnd]
    · rw [if_pos rfl]
      simp [pdStart, pdStartAt]
  case ready =>
    intro s p hr hams
    refine ⟨_, exec_of_guard rfl hr, ?_⟩
    dsimp only
    rw [if_pos hams]
    exact pdContract_shows ..

end Sys2Proof.Machine
end

section
/-!
SUPPORT. What moving frames through the switch leaves: events that stand, and the registers of other blocks.
-/

namespace Sys2Proof.Machine

/-- Registers that frames in the switch change: what an event can, the ports and the cell pool, and counters of HALO, SWITCH, GATEWAY,
the lanes and the ETH ports. -/
def swKey (k : Key) : Bool :=
  evKey k || decide (0x011 ≤ k.page ∧ k.page ≤ 0x020) ||
    ((k.page == 0x00C || k.page == 0x010 || k.page == 0x039) && decide (0x080 ≤ k.off)) ||
    (decide (0x008 ≤ k.page ∧ k.page < 0x00C) && (k.off == 0x09C || k.off == 0x0AC)) ||
    (decide (0x0E0 ≤ k.page ∧ k.page < 0x0E4) && k.off == 0x0D8)

/-- Frames have moved; where the router triggers no Eclipse, the node's state stays. -/
structure Moved (s t : State) : Prop where
  ev : EvStay s t
  regs : RegsKeep swKey s t
  calm : noEclEv s → t.st = s.st

theorem Moved.evEn {s t : State} (h : Moved s t) (hs : noEclEv s) : noEclEv t := by
  rw [noEclEv, State.on, h.regs.rd P.ecl F.ECLIPSE_ECL_CFG_EV_EN rfl]
  exact hs

theorem Moved.trans {s t u : State} (h : Moved s t) (k : Moved t u) : Moved s u :=
  ⟨h.ev.trans k.ev, h.regs.trans k.regs, fun hs => (k.calm (h.evEn hs)).trans (h.calm hs)⟩

theorem Moved.of_regs {s t : State} (h : t.regs = s.regs) : Moved s t := ⟨.of_regs h, .of_eq h, fun _ => rd_of_regs h ..⟩

theorem Moved.refl (s : State) : Moved s s := .of_regs rfl

theorem Moved.of_keeps {m : Nat} {s t : State} (h : Keeps m s t) (hm : m.testBit 1 = false) : Moved s t := .of_regs (h.regs hm)

/-- Another part of the state than the registers changes. -/
theorem Moved.put {s t u : State} (h : Moved s t) (hu : u.regs = t.regs) : Moved s u := h.trans (.of_regs hu)

theorem Moved.wr {s t : State} (h : Moved s t) (p : Nat) (f : Fld) (v : Nat) (hk : swKey ⟨p, f.off, f.lsb, 0⟩ = true ∧ f.off ≠ 0x010 ∧ p ≠ 0) :
    Moved s (t.wr p f v) := by
  obtain ⟨hkey, hoff, hpage⟩ := hk
  exact ⟨h.ev.wr p f v hoff, h.regs.wr v hkey, fun hs => (rd_wr_apart _ _ (by simp [keyApart, P.node, Ne.symm hpage])).trans (h.calm hs)⟩

theorem Moved.ite {s t u : State} {c : Prop} [Decidable c] (h : Moved s t) (k : Moved s u) : Moved s (if c then t else u) := by
  split
  · exact h
  · exact k

theorem Moved.when {s t : State} (h : Moved s t) (b : Bool) {f : State → State} (hf : ∀ u, Moved u (f u)) : Moved s (t.when b f) :=
  .ite (h.trans (hf t)) h

theorem Moved.foldl {α : Type} {s t : State} {f : State → α → State} (hf : ∀ t a, Moved t (f t a)) (l : List α) (h : Moved s t) :
    Moved s (l.foldl f t) := by
  induction l generalizing t with
  | nil => exact h
  | cons a r ih => exact ih (h.trans (hf t a))

theorem Moved.each {s t : State} {n : Nat} {f : State → Nat → State} (hf : ∀ t a, Moved t (f t a)) (h : Moved s t) :
    Moved s (t.each n f) := .foldl hf _ h

/-- As `Moved.foldl` for a fold that collects something with the state. -/
theorem Moved.foldl_snd {α β : Type} {s : State} {f : β × State → α → β × State} (hf : ∀ a x, Moved a.2 (f a x).2) (l : List α)
    {a : β × State} (h : Moved s a.2) : Moved s (l.foldl f a).2 := by
  induction l generalizing a with
  | nil => exact h
  | cons x r ih => exact ih (h.trans (hf a x))

theorem raise_moved (s : State) (p k : Nat) : Moved s (raise s p k) :=
  ⟨raise_evStay .., (raise_regs s p k).mono fun k h => by simp only [swKey, Bool.or_eq_false_iff] at h; exact h.1.1.1.1, fun hs =>
    ((raise_raised s p k).calm hs).2.rd P.node F.NODE_NODE_STATE_STATE (by decide)⟩

theorem raiseIf_moved (s : State) (b : Bool) (p k : Nat) : Moved s (raiseIf s b p k) := .ite (raise_moved ..) (.refl s)

theorem swKey_swport (p o l : Nat) (h : o ≠ 0x010) : swKey ⟨P.swport p, o, l, 0⟩ = true ∧ o ≠ 0x010 ∧ P.swport p ≠ 0 := by
  have hp : 0x011 ≤ P.swport p ∧ P.swport p ≤ 0x020 := by unfold P.swport; omega
  exact ⟨by simp [swKey, hp], h, by omega⟩

theorem swKey_pool (o l : Nat) (h : o ≠ 0x010) : swKey ⟨P.pool, o, l, 0⟩ = true ∧ o ≠ 0x010 ∧ P.pool ≠ 0 := ⟨by simp [swKey, P.pool], h, by decide⟩

theorem swKey_count {p : Nat} (hp : p = P.halo ∨ p = P.switch ∨ p = P.gw) {o : Nat} (l : Nat) (h : 0x080 ≤ o) :
    swKey ⟨p, o, l, 0⟩ = true ∧ o ≠ 0x010 ∧ p ≠ 0 := by
  refine ⟨?_, by omega, ?_⟩
  · rcases hp with rfl | rfl | rfl <;> simp [swKey, P.halo, P.switch, P.gw, h]
  · rcases hp with rfl | rfl | rfl <;> decide

theorem swKey_lane (i : Nat) {o : Nat} (l : Nat) (h : o = 0x09C ∨ o = 0x0AC) : swKey ⟨P.lane i, o, l, 0⟩ = true ∧ o ≠ 0x010 ∧ P.lane i ≠ 0 := by
  have hp : 0x008 ≤ P.lane i ∧ P.lane i < 0x00C := by unfold P.lane; omega
  rcases h with rfl | rfl <;> exact ⟨by simp [swKey, hp], by decide, by omega⟩

theorem Moved.countRaise {s t : State} (h : Moved s t) (p : Nat) (f : Fld) (q k : Nat) (hk : swKey ⟨p, f.off, f.lsb, 0⟩ = true ∧ f.off ≠ 0x010 ∧ p ≠ 0) :
    Moved s (countRaise t p f q k) := (h.wr p f _ hk).trans (raise_moved ..)

/-! ## While the router triggers no Eclipse -/

/-- Where the router triggers no Eclipse, the node's state stays. -/
structure Steady (s t : State) : Prop where
  calm : noEclEv s → noEclEv t ∧ t.st = s.st

theorem Steady.refl (s : State) : Steady s s := ⟨fun h => ⟨h, rfl⟩⟩

theorem Steady.trans {s t u : State} (h : Steady s t) (k : Steady t u) : Steady s u := ⟨fun hs => by
  obtain ⟨ht, hst⟩ := h.calm hs
  obtain ⟨hu, hsu⟩ := k.calm ht
  exact ⟨hu, hsu.trans hst⟩⟩

theorem Steady.of_keeps {m : Nat} {s t : State} (h : Keeps m s t) (hm : m.testBit 41 = false) (hp : m.testBit (regGroup ⟨P.ecl, F.ECLIPSE_ECL_CFG_EV_EN.off, F.ECLIPSE_ECL_CFG_EV_EN.lsb, 0⟩) = false) :
    Steady s t := ⟨fun hs => ⟨by rw [noEclEv, State.on, h.rd P.ecl F.ECLIPSE_ECL_CFG_EV_EN hp]; exact hs, h.rd P.node F.NODE_NODE_STATE_STATE hm⟩⟩

theorem Moved.steady {s t : State} (h : Moved s t) : Steady s t := ⟨fun hs => ⟨h.evEn hs, h.calm hs⟩⟩

theorem Steady.of_regs {s t : State} (h : t.regs = s.regs) : Steady s t := (Moved.of_regs h).steady

/-- A register written beside the node's state and the router's Eclipse enable. -/
theorem Steady.wri {s t : State} (h : Steady s t) (p : Nat) (f : Fld) (i v : Nat) (hp : p ≠ 0 ∧ p ≠ 0x130) : Steady s (t.wri p f i v) :=
  h.trans ⟨fun hs => ⟨by
    rw [noEclEv, State.on, State.rd, rdi_wri_apart _ _ (by simp [keyApart, P.ecl, Ne.symm hp.2])]
    exact hs, rdi_wri_apart _ _ (by simp [keyApart, P.node, Ne.symm hp.1])⟩⟩

theorem Steady.ite {s t u : State} {c : Prop} [Decidable c] (h : Steady s t) (k : Steady s u) : Steady s (if c then t else u) := by
  split
  · exact h
  · exact k

theorem Steady.ite_snd {α : Type} {s : State} {a b : α × State} {c : Prop} [Decidable c] (h : Steady s a.2) (k : Steady s b.2) :
    Steady s (if c then a else b).2 := by
  split
  · exact h
  · exact k

theorem Steady.foldl {α : Type} {s t : State} {f : State → α → State} (hf : ∀ t a, Steady t (f t a)) (l : List α) (h : Steady s t) :
    Steady s (l.foldl f t) := by
  induction l generalizing t with
  | nil => exact h
  | cons a r ih => exact ih (h.trans (hf t a))

/-! ## Cells, queues and ports -/

theorem sharedMin_moved (s : State) : Moved s (sharedMin s) := .ite ((Moved.refl s).wr _ _ _ (swKey_pool _ _ (by decide))) (.refl s)

theorem dischargeCells_moved (s : State) (q k b : Nat) : Moved s (dischargeCells s q k b) := by
  refine .ite (.trans ?_ (sharedMin_moved _)) ?_ <;> exact .of_regs rfl

theorem poolMonitor_moved (s : State) (b : Nat) : Moved s (poolMonitor s b) := by
  have hmax : Moved s (s.maxr P.pool F.CELLPOOL_USED_MAX_CELLS s.sw.used) :=
    .ite ((Moved.refl s).wr _ _ _ (swKey_pool _ _ (by decide))) (.refl s)
  refine Moved.trans (.each (fun t k => ?_) (hmax.trans (sharedMin_moved _))) (raiseIf_moved ..)
  exact .ite (((Moved.refl t).wr _ _ _ (swKey_pool _ _ (by decide))).trans (raise_moved ..)) (.refl t)

theorem chargeCells_moved (s : State) (q k n : Nat) : Moved s (chargeCells s q k n) := by
  refine Moved.trans ?_ (poolMonitor_moved ..)
  exact .of_regs rfl

theorem alert_moved (s : State) (p k : Nat) : Moved s (alert s p k) :=
  .ite (.refl s) (((Moved.refl s).wr _ _ _ (swKey_swport _ _ _ (by decide))).trans (raise_moved ..))

theorem shapeTo_moved (s : State) (p t : Nat) : Moved s (shapeTo s p t) := by
  refine .ite (.refl s) (.each (fun u c => .ite ?_ (.refl u)) (.refl s))
  refine Moved.wr (.of_regs ?_) _ _ _ (swKey_swport _ _ _ (by simp [F.SWPORT_CREDIT_BITS]; omega))
  rfl

theorem setSwQueue_moved (s : State) (q : Nat) (l : List SwEntry) : Moved s (setSwQueue s q l) := (shapeTo_moved ..).put rfl

theorem releaseEntry_moved (s : State) (q : Nat) (e : SwEntry) : Moved s (releaseEntry s q e) := (dischargeCells_moved ..).put rfl

theorem Moved.setShaper {s t : State} (h : Moved s t) (p c : Nat) (x : ShapeSt) : Moved s (setShaper t p c x) := h.put rfl

theorem shaperLatch_moved (s : State) (p c : Nat) : Moved s (shaperLatch s p c) := by
  have hbits : ∀ f : Nat → Fld, (∀ c, 0x040 ≤ (f c).off) → swKey ⟨P.swport p, (f c).off, (f c).lsb, 0⟩ = true ∧ (f c).off ≠ 0x010 ∧ P.swport p ≠ 0 :=
    fun f hf => swKey_swport _ _ _ (by have := hf c; omega)
  have hcredit : ∀ {t : State} v, Moved s t → Moved s (t.wr (P.swport p) (F.SWPORT_CREDIT_BITS c) v) := fun v h =>
    h.wr _ _ v (hbits _ fun _ => by simp [F.SWPORT_CREDIT_BITS]; omega)
  have hdiscard : ∀ v, Moved s (s.wr (P.swport p) (F.SWPORT_LAST_DISCARD_BITS c) v) := fun v =>
    (Moved.refl s).wr _ _ v (hbits _ fun _ => by simp [F.SWPORT_LAST_DISCARD_BITS]; omega)
  refine .ite (Moved.trans ?_ (alert_moved ..)) (.refl s)
  exact Moved.wr (hcredit _ (Moved.setShaper (hdiscard _) ..)) _ _ _ (swKey_swport _ _ _ (by decide))

theorem sendOver_moved (s : State) (p : Nat) : Moved s (sendOver s p) := by
  have hbusy : Moved s ({ s with sw := { s.sw with sending := s.sw.sending.put none p none } }.wr (P.swport p) F.SWPORT_PORT_STAT_TX_BUSY 0) := by
    refine Moved.wr ?_ _ F.SWPORT_PORT_STAT_TX_BUSY _ (swKey_swport _ _ _ (by decide))
    exact .of_regs rfl
  have hlatch := Moved.each (n := 4) (f := fun u c => if p < 8 then shaperLatch u p c else u)
    (fun u c => .ite (shaperLatch_moved ..) (.refl u)) hbusy
  exact .ite (hlatch.wr _ F.HDR_PAGE_STAT_STOPPED _ (swKey_swport _ _ _ (by decide))) hlatch

theorem flushPort_moved (s : State) (p : Nat) : Moved s (flushPort s p) := by
  have hqueues : Moved s (s.each 8 fun t c =>
      if (swQueue t (8 * p + c)).isEmpty then t
      else alert ((setSwQueue ((swQueue t (8 * p + c)).foldl (fun u e => releaseEntry u (8 * p + c) e) t) (8 * p + c) []).inc (P.swport p)
        (F.SWPORT_FLUSH_N c) (swQueue t (8 * p + c)).length) p 1) := by
    refine .each (fun t c => .ite (.refl t) ?_) (.refl s)
    refine Moved.trans (Moved.wr ?_ _ _ _ (swKey_swport _ _ _ (by simp [F.SWPORT_FLUSH_N]; omega))) (alert_moved ..)
    exact (Moved.foldl (fun u e => releaseEntry_moved ..) _ (.refl t)).trans (setSwQueue_moved ..)
  unfold flushPort
  dsimp only
  split
  · exact ((hqueues.trans (shapeTo_moved ..)).trans (releaseEntry_moved ..)).trans (sendOver_moved ..)
  · exact hqueues

theorem dropStored_moved (s : State) (id : Nat) (qs : List Nat) : Moved s (dropStored s id qs) :=
  .foldl (fun t q => (Moved.foldl (fun u e => releaseEntry_moved ..) _ (.refl t)).trans (setSwQueue_moved ..)) _ (.refl s)

theorem stompStored_moved (s : State) (id : Nat) : Moved s (stompStored s id) := by
  refine Moved.trans (.each (fun t p => ?_) (.refl s)) (dropStored_moved ..)
  split
  next e c x _ =>
    refine .ite ?_ (.refl t)
    have hover : Moved t (sendOver (releaseEntry (shapeTo t p t.now) (8 * p + c) e) p) :=
      ((shapeTo_moved ..).trans (releaseEntry_moved ..)).trans (sendOver_moved ..)
    have hstomp : Moved t (if p < 8 then (sendOver (releaseEntry (shapeTo t p t.now) (8 * p + c) e) p).emitStomp p e.frame
        else sendOver (releaseEntry (shapeTo t p t.now) (8 * p + c) e) p) := .ite (hover.put rfl) hover
    refine .ite (hstomp.wr _ _ _ (swKey_lane _ _ (.inl rfl))) (.ite (hstomp.countRaise _ _ _ _ ?_) hstomp)
    have hp : 0x0E0 ≤ P.eth (p - 4) ∧ P.eth (p - 4) < 0x0E4 := by unfold P.eth; omega
    exact ⟨by simp [swKey, hp, F.ETH_STOMP_TX_N], by decide, by omega⟩
  · exact .refl t

/-! ## Admission -/

theorem enqueue_moved (s : State) (q id : Nat) (f : Frame) (k : Nat) (r c : Bool) (i n : Nat) : Moved s (enqueue s q id f k r c i n) := by
  unfold enqueue
  dsimp only
  refine Moved.trans (.put (chargeCells_moved s q k (if (s.sw.store.at (0, 0) id).1 = 0 then k else 0)) ?_) (setSwQueue_moved ..)
  rfl

theorem noteRefusal_moved (s : State) (r : Nat) : Moved s (noteRefusal s r) :=
  (Moved.refl s).when _ fun u => (Moved.refl u).wr _ _ _ (swKey_pool _ _ (by decide))

theorem noteRefusals_moved (s : State) (ps : List Nat) (c k : Nat) : Moved s (noteRefusals s ps c k) :=
  .foldl (fun _ _ => noteRefusal_moved ..) _ (.refl s)

theorem admitOne_moved (s : State) (p id : Nat) (f : Frame) (r c : Bool) (i : Nat) : Moved s (admitOne s p id f r c i).2 := by
  unfold admitOne
  dsimp only
  split
  · exact .refl s
  · split
    · exact enqueue_moved ..
    · exact noteRefusal_moved ..

theorem dropAt_moved (s : State) (p c : Nat) : Moved s (dropAt s p c) :=
  ((Moved.refl s).wr _ _ _ (swKey_swport _ _ _ (by simp [F.SWPORT_DROP_N]; omega))).trans (alert_moved ..)

theorem countPath_moved (s : State) (p : Nat) (c : Bool) : Moved s (countPath s p c) :=
  .ite (((Moved.refl s).wr _ _ _ (swKey_count (.inr (.inl rfl)) _ (by decide))).wr _ _ _ (swKey_swport _ _ _ (by decide)))
    (.ite ((Moved.refl s).wr _ _ _ (swKey_count (.inr (.inl rfl)) _ (by decide))) (.refl s))

theorem admitFrame_moved (s : State) (outs : List Nat) (id : Nat) (f : Frame) (r : Bool) (i : Nat) (far : List (Nat × Frame)) :
    Moved s (admitFrame s outs id f r i far).2 := by
  unfold admitFrame
  dsimp only
  split
  · exact .foldl (fun _ _ => dropAt_moved ..) _ (.refl s)
  · split
    · split
      · refine .foldl (fun _ _ => enqueue_moved ..) _ (.foldl (fun _ _ => ?_) _ (.refl s))
        exact (enqueue_moved ..).trans (countPath_moved ..)
      · exact (noteRefusals_moved ..).countRaise _ _ _ _ (swKey_count (.inr (.inl rfl)) _ (by decide))
    · refine .foldl_snd (fun a p => ?_) _ (.refl s)
      split
      · exact (admitOne_moved ..).trans (countPath_moved ..)
      · exact (admitOne_moved ..).trans (dropAt_moved ..)

theorem admitRx_moved (s : State) (i id : Nat) (f : Frame) (x r : Bool) : Moved s (admitRx s i id f x r).2 :=
  (Moved.of_keeps (suppressed_keeps s f) rfl).trans (admitFrame_moved ..)

/-! ## The joint of two rings -/

theorem crossOut_moved (s : State) (k : Bool) (i : Nat) (f : Frame) : Moved s (crossOut s k i f).2 := by
  unfold crossOut
  dsimp only
  have hcopies : Moved s ((crossCopies (newId s).2 k { f with seq := crossNum (newId s).2 f }).foldl (fun (a : Bool × State) c =>
      if (admitOne a.2 c.1 (newId s).1 c.2 true false i).1 then (true, (admitOne a.2 c.1 (newId s).1 c.2 true false i).2)
      else (a.1, dropAt (admitOne a.2 c.1 (newId s).1 c.2 true false i).2 c.1 f.cls)) (false, (newId s).2)).2 := by
    refine .foldl_snd (fun a c => ?_) _ (.of_regs rfl)
    split
    · exact admitOne_moved ..
    · exact (admitOne_moved ..).trans (dropAt_moved ..)
  exact .ite (hcopies.trans (.of_keeps (crossNext_keeps ..) rfl)) hcopies

theorem crossWhole_moved (s : State) (k : Bool) (id : Nat) (f : Frame) : Moved s (crossWhole s k id f).2 := by
  unfold crossWhole
  dsimp only
  generalize (if k = true then [2, 3] else [0, 1]) = ps
  split
  · exact (Moved.foldl (fun t p => setSwQueue_moved ..) _ (.refl s)).trans (.of_keeps (crossNext_keeps ..) rfl)
  · exact .refl s

theorem crossSend_moved (s : State) (k : Bool) (i id : Nat) (f : Frame) : Moved s (crossSend s k i id f).2 := by
  have hsend : Moved s (if wholeOrNone f then crossWhole s k id f else crossOut s k i f).2 := by
    split
    · exact crossWhole_moved ..
    · exact crossOut_moved ..
  refine hsend.when _ fun u => (Moved.refl u).wr _ _ _ (swKey_count (.inr (.inr rfl)) _ ?_)
  cases k <;> decide

theorem crossFrame_moved (s : State) (i id : Nat) (f : Frame) : Moved s (crossFrame s i id f).2 := by
  unfold crossFrame
  split
  · exact ((Moved.refl s).countRaise _ _ _ _ (swKey_count (.inr (.inr rfl)) _ (by decide))).trans (crossOut_moved ..)
  · exact crossSend_moved ..

theorem passed_moved (s : State) (i id : Nat) (f : Frame) (x : Bool) (o : Bool × Bool) : Moved s (passed s i id f x o).2 := by
  unfold passed
  split
  · exact (crossFrame_moved ..).trans (.of_keeps (noteStatus_keeps ..) rfl)
  · exact .of_keeps (noteStatus_keeps ..) rfl

/-! ## Frames that Halo holds, and the end of a reception -/

theorem haloDup_moved (s : State) (i g : Nat) : Moved s (haloDup s i g) := by
  refine Moved.wr ((Moved.refl s).wr _ _ _ (swKey_count (.inl rfl) _ ?_)) _ _ _ (swKey_lane _ _ (.inr rfl))
  split <;> decide

theorem acceptHeld_moved (s : State) (g : Nat) (h : HeldFrame) : Moved s (acceptHeld s g h) := by
  have haccept : Moved s (haloAccept s g) := by
    refine (Moved.refl s).wr _ _ _ (swKey_count (.inl rfl) _ ?_)
    split <;> decide
  have hnew : Moved s (newId (haloAccept s g)).2 := haccept.put rfl
  have hpass := (hnew.trans (admitRx_moved _ h.lane (newId (haloAccept s g)).1 h.frame (crosses s h.lane h.frame) true)).trans
    (passed_moved _ h.lane (newId (haloAccept s g)).1 h.frame (crosses s h.lane h.frame)
      (admitRx (newId (haloAccept s g)).2 h.lane (newId (haloAccept s g)).1 h.frame (crosses s h.lane h.frame) true).1)
  refine .ite (.trans ?_ (.of_keeps (noteTun_keeps ..) rfl)) (hpass.trans (.of_keeps (haloSettle_keeps ..) rfl))
  exact hpass.put rfl

theorem settleHeld_moved (s : State) (a g q : Nat) (ok : Bool) : Moved s (settleHeld s a g q ok) := by
  have hset : ∀ e, Moved s (setHaloEnt (haloSettle s a g q ok) a g e) := fun e =>
    (Moved.of_keeps (haloSettle_keeps s a g q ok) rfl).trans (.of_keeps (setHaloEnt_keeps ..) rfl)
  unfold settleHeld
  dsimp only
  split
  · exact .foldl (fun _ _ => haloDup_moved ..) _ (hset _)
  · split
    · exact hset _
    · exact .foldl (fun _ _ => haloDup_moved ..) _ ((hset _).trans (acceptHeld_moved ..))

theorem endHeld_moved (s : State) (i : Nat) (f : Frame) (ok : Bool) : Moved s (endHeld s i f ok) := by
  have hset : ∀ (t : State) a g e, t.regs = s.regs → Moved s (setHaloEnt t a g e) := fun _ _ _ _ h => .of_regs h
  unfold endHeld
  dsimp only
  refine .ite (hset _ _ _ _ rfl) (.ite (hset _ _ _ _ rfl) ?_)
  have hdec : ∀ a g q t u, Moved u (haloDecide u a g q t).2 := fun _ _ _ _ _ => .of_keeps (haloDecide_keeps ..) rfl
  split
  next heq => exact ((hset s _ _ _ rfl).trans (heq ▸ hdec ..)).trans (acceptHeld_moved ..)
  next heq => exact ((hset s _ _ _ rfl).trans (heq ▸ hdec ..)).countRaise _ _ _ _ (swKey_count (.inl rfl) _ (by decide))
  next heq => exact ((hset s _ _ _ rfl).trans (heq ▸ hdec ..)).trans (haloDup_moved ..)

theorem Moved.setLane {s t : State} (h : Moved s t) (i : Nat) (x : LaneSt) : Moved s (t.setLane i x) := h.put rfl

theorem rxLost_moved (s : State) (i : Nat) (x : RxFrame) : Moved s (rxLost s i x) := by
  unfold rxLost
  dsimp only
  refine .ite (.refl s) (.ite (endHeld_moved ..) ?_)
  have hstomp := stompStored_moved s x.id
  refine .ite (Moved.trans ?_ (settleHeld_moved ..)) ?_
  all_goals
    split
    · exact .ite (hstomp.setLane ..) hstomp
    · exact hstomp

theorem tapEnds_moved (s : State) (i : Nat) (e : FrameEnd) : Moved s (tapEnds s i e) := by
  unfold tapEnds
  dsimp only
  split
  · exact .refl s
  · exact Moved.setLane (.ite (.of_keeps (markReady_keeps ..) rfl) (stompStored_moved ..)) ..

theorem rxCut_moved (s : State) (i : Nat) : Moved s (rxCut s i) := by
  unfold rxCut
  dsimp only
  split
  · exact tapEnds_moved ..
  · exact ((tapEnds_moved ..).setLane ..).trans (rxLost_moved ..)

/-! ## Lanes that go down, and Tap's end -/

theorem setLaneState_evStay (s : State) (i st : Nat) : EvStay s (setLaneState s i st) := by
  have h := ((EvStay.refl s).wr (P.lane i) F.LANE_LANE_STAT_STATE st (by decide)).wr (P.lane i) F.HDR_PAGE_STAT_STOPPED (b2n (st == LS.off)) (by decide)
  exact .ite (h.trans (.of_regs rfl)) h

theorem laneExit_evStay (s : State) (i st : Nat) : EvStay s (laneExit s i st) := by
  unfold laneExit
  dsimp only
  refine EvStay.trans (EvStay.trans ?_ (rxCut_moved ..).ev) (flushPort_moved ..).ev
  generalize hd : s.setLane i { s.lane i with downs := downsAt s i s.now ++ [s.upAt s.now] } = t
  have ht : t.regs = s.regs := by
    subst hd
    rfl
  have hdown : EvStay s (countRaise t (P.lane i) F.LANE_DOWN_COUNT_N (P.lane i) 1) :=
    ((EvStay.of_regs ht).wr _ F.LANE_DOWN_COUNT_N _ (by decide)).trans (raise_evStay ..)
  exact .ite ((hdown.trans (setLaneState_evStay ..)).wr _ F.LANE_LANE_STAT_CAUSE _ (by decide)) (hdown.trans (setLaneState_evStay ..))

theorem tapEnd_evStay (s : State) : EvStay s (tapEnd s) := by
  have hev : EvStay s (pdEv (s.pdWr 0 F.PD_PD_STAT_TAP 0) 0 1) := ((EvStay.refl s).wr _ _ _ (by decide)).trans (pdEv_raised ..).evStay
  exact .ite (.ite (hev.trans (laneExit_evStay ..)) (hev.trans (setLaneState_evStay ..))) (.refl s)

end Sys2Proof.Machine
end

section
/-!
PROOF. PD messages: swaps, resets, timers, discovery and Tap.
-/

namespace Sys2Proof.Machine

/-! ## A Hard Reset (R489, R493) -/

/-- What a Hard Reset does after it has been counted and its fault has been raised. -/
def hardResetEnd (s : State) (p : Nat) (swap : Bool) : State :=
  let s := pdQuiet s p
  let s := if p = 0 then tapEnd s else s
  let s :=
    if swap then
      let s := pdDriveOff s p
      if (pdSt s p).rp then pdStart ((setPd s p { pdSt s p with cc := 2 }).pdWr p F.PD_PD_STAT_ATTACH 2) p PT.srcRecover
      else (setPd s p { pdSt s p with cc := 1 }).pdWr p F.PD_PD_STAT_ATTACH 1
    else if pdAttach s p = 2 then pdStart s p PT.psHardReset
    else pdStart (if s.usb.vbus0 then vbusFall s else s) p PT.noResponse
  if p = 0 then judgeBudget s else s

theorem hardReset_eq (s : State) (p : Nat) (sent : Bool) : hardReset s p sent =
    hardResetEnd (pdEv (pdFault ((if sent then pdSend s p .hardReset else s).inc (P.pd p) F.PD_CNT_HARD_RESET_N) p (if sent then 4 else 3)) p 2) p
      (s.pd p F.PD_PD_STAT_SWAP_BUSY == 1) := rfl

/-- What stands through the end of a Hard Reset: what has been sent, the faults, the count and the events. -/
structure ResetKept (p : Nat) (s t : State) : Prop where
  sent : t.usb.sent = s.usb.sent
  fault : t.pd p F.PD_FAULT_CAUSE = s.pd p F.PD_FAULT_CAUSE
  count : t.pd p F.PD_CNT_HARD_RESET_N = s.pd p F.PD_CNT_HARD_RESET_N
  result : (pdSt s p).cmd = none → t.pd p F.PD_PD_RES_RESULT = s.pd p F.PD_PD_RES_RESULT
  cmd : (pdSt s p).cmd = none → (pdSt t p).cmd = none
  ev : EvStay s t

theorem ResetKept.trans {p : Nat} {s t u : State} (h : ResetKept p s t) (k : ResetKept p t u) : ResetKept p s u where
  sent := k.sent.trans h.sent
  fault := k.fault.trans h.fault
  count := k.count.trans h.count
  result hc := (k.result (h.cmd hc)).trans (h.result hc)
  cmd hc := k.cmd (h.cmd hc)
  ev := h.ev.trans k.ev

theorem ResetKept.refl (p : Nat) (s : State) : ResetKept p s s := ⟨rfl, rfl, rfl, fun _ => rfl, id, .refl s⟩

/-- A step that keeps the USB state and the registers of the port. -/
theorem ResetKept.of_usb {p : Nat} {s t : State} (hu : t.usb = s.usb)
    (hr : ∀ f ∈ [F.PD_FAULT_CAUSE, F.PD_CNT_HARD_RESET_N, F.PD_PD_RES_RESULT], t.pd p f = s.pd p f) (he : EvStay s t) : ResetKept p s t :=
  ⟨congrArg (·.sent) hu, hr _ (by simp), hr _ (by simp), fun _ => hr _ (by simp), fun h => (congrArg (·.cmd) (pdSt_of_usb hu p)).trans h, he⟩

theorem setPd_evStay (s : State) (p : Nat) (x : PdSt) : EvStay s (setPd s p x) := by
  unfold setPd
  split <;> exact .of_regs rfl

theorem ResetKept.setPd {p : Nat} {s t : State} (h : ResetKept p s t) (x : PdSt) (hx : x.cmd = (pdSt t p).cmd) :
    ResetKept p s (setPd t p x) :=
  h.trans ⟨sent_setPd .., pd_setPd .., pd_setPd .., fun _ => pd_setPd .., fun hc => by rw [pdSt_setPd, hx]; exact hc, setPd_evStay ..⟩

theorem ResetKept.attach {p : Nat} {s t : State} (h : ResetKept p s t) (v : Nat) : ResetKept p s (t.pdWr p F.PD_PD_STAT_ATTACH v) :=
  h.trans (.of_usb rfl (fun f hf => by
    simp only [List.mem_cons, List.not_mem_nil, or_false] at hf
    rcases hf with rfl | rfl | rfl <;> exact pd_pdWr_beside _ _ _ rfl) ((EvStay.refl t).wr _ _ _ (by decide)))

theorem ResetKept.start {p : Nat} {s t : State} (h : ResetKept p s t) (k : Nat) : ResetKept p s (pdStart t p k) := h.setPd _ rfl

theorem ResetKept.ite {p : Nat} {s t u : State} {c : Prop} [Decidable c] (h : ResetKept p s t) (k : ResetKept p s u) :
    ResetKept p s (if c then t else u) := by
  split
  · exact h
  · exact k

theorem vbusFall_resetKept (p : Nat) (s : State) : ResetKept p s (vbusFall s) where
  sent := (vbusFall_ports s).1
  fault := pd_vbusFall s p (by decide)
  count := pd_vbusFall s p (by decide)
  result _ := pd_vbusFall s p (by decide)
  cmd h := by rw [(vbusFall_ports s).2, h]
  ev := vbusFall_evStay s

theorem tapEnd_resetKept (s : State) : ResetKept 0 s (tapEnd s) :=
  .of_usb (usb_tapEnd s) (fun f hf => by
    simp only [List.mem_cons, List.not_mem_nil, or_false] at hf
    rcases hf with rfl | rfl | rfl <;> exact pd_tapEnd s (by decide) rfl) (tapEnd_evStay s)

theorem judgeBudget_evStay (s : State) : EvStay s (judgeBudget s) := by
  have hb := (EvStay.refl s).wr (P.pd 0) F.PD_SVC_STAT_BUDGET (svcBudget s) (by decide)
  exact .ite ((hb.wr (P.pd 0) F.PD_SVC_STAT_LOW_BUDGET 1 (by decide)).trans (pdEv_raised ..).evStay) hb

theorem judgeBudget_resetKept (s : State) : ResetKept 0 s (judgeBudget s) :=
  .of_usb (usb_judgeBudget s) (fun f hf => by
    simp only [List.mem_cons, List.not_mem_nil, or_false] at hf
    rcases hf with rfl | rfl | rfl <;> exact pd_judgeBudget s (by decide) (by decide)) (judgeBudget_evStay s)

theorem pdQuiet_resetKept (p : Nat) (s : State) : ResetKept p s (pdQuiet s p) := by
  have hcomplete : ResetKept p s (if (pdSt s p).cmd.isSome then
      pdComplete (s.draw 1).2 p (if (s.draw 1).1 = 1 then PR.timeout else PR.rejected) else s) := by
    split
    next hc =>
      have hsome : (pdSt (s.draw 1).2 p).cmd.isSome = true := hc
      rw [pdComplete, if_pos hsome]
      refine ⟨sent_setPd .., ?_, ?_, fun hn => ?_, fun hn => ?_, ?_⟩
      · exact (pd_setPd ..).trans (pd_pdWr_beside _ _ _ rfl)
      · exact (pd_setPd ..).trans (pd_pdWr_beside _ _ _ rfl)
      · rw [hn] at hc
        exact absurd hc (by decide)
      · rw [hn] at hc
        exact absurd hc (by decide)
      · refine EvStay.trans (EvStay.wr ?_ _ F.PD_PD_RES_RESULT _ (by decide)) (setPd_evStay ..)
        exact .of_regs rfl
    next => exact .refl p s
  unfold pdQuiet
  refine ResetKept.setPd (hcomplete.trans (.of_usb ?_ (fun f hf => ?_) ((EvStay.refl _).zero _ _ rfl))) _ rfl
  · refine foldl_part (·.usb) (fun _ _ => ?_) _ _
    rfl
  · simp only [List.mem_cons, List.not_mem_nil, or_false] at hf
    rcases hf with rfl | rfl | rfl <;> exact pd_zero _ _ _ rfl

theorem pdDriveOff_resetKept (p : Nat) (s : State) : ResetKept p s (pdDriveOff s p) := by
  have hset : ResetKept p s (setPd s p { pdSt s p with vbus := false, mv := 5000 }) := (ResetKept.refl p s).setPd _ rfl
  exact .ite (hset.trans (vbusFall_resetKept ..)) hset

theorem hardResetEnd_kept (s : State) (p : Nat) (swap : Bool) : ResetKept p s (hardResetEnd s p swap) := by
  have hbranch : ∀ t : State, ResetKept p t (if swap then
      if (pdSt (pdDriveOff t p) p).rp then
        pdStart ((setPd (pdDriveOff t p) p { pdSt (pdDriveOff t p) p with cc := 2 }).pdWr p F.PD_PD_STAT_ATTACH 2) p PT.srcRecover
      else (setPd (pdDriveOff t p) p { pdSt (pdDriveOff t p) p with cc := 1 }).pdWr p F.PD_PD_STAT_ATTACH 1
    else if pdAttach t p = 2 then pdStart t p PT.psHardReset
    else pdStart (if t.usb.vbus0 then vbusFall t else t) p PT.noResponse) := fun t => by
    have hoff := pdDriveOff_resetKept p t
    refine .ite (.ite ?_ ?_) (.ite ((ResetKept.refl p t).start _) ?_)
    · exact ResetKept.start (ResetKept.attach (hoff.setPd { pdSt (pdDriveOff t p) p with cc := 2 } rfl) _) _
    · exact ResetKept.attach (hoff.setPd { pdSt (pdDriveOff t p) p with cc := 1 } rfl) _
    · exact ResetKept.start (.ite (vbusFall_resetKept p t) (.refl p t)) _
  have htap : ∀ t : State, ResetKept p t (if p = 0 then tapEnd t else t) := fun t => by
    split
    next hp => exact hp ▸ tapEnd_resetKept t
    next => exact .refl p t
  have hjudge : ∀ t : State, ResetKept p t (if p = 0 then judgeBudget t else t) := fun t => by
    split
    next hp => exact hp ▸ judgeBudget_resetKept t
    next => exact .refl p t
  exact (((pdQuiet_resetKept p s).trans (htap _)).trans (hbranch _)).trans (hjudge _)

/-- A Hard Reset: it is sent where the hub begins it, counted, its fault and its event stand, and no fault that stood has gone. -/
theorem hardReset_shows (s : State) (p : Nat) (sent : Bool) :
    (hardReset s p sent).usb.sent = (if sent then (p, .hardReset) :: s.usb.sent else s.usb.sent) ∧
    (hardReset s p sent).pd p F.PD_CNT_HARD_RESET_N = satAdd F.PD_CNT_HARD_RESET_N.width (s.pd p F.PD_CNT_HARD_RESET_N) 1 ∧
    (∀ k < 7, (hardReset s p sent).bit (P.pd p) F.PD_FAULT_CAUSE k = if k = (if sent then 4 else 3) then true else s.bit (P.pd p) F.PD_FAULT_CAUSE k) ∧
    (hardReset s p sent).bit (P.pd p) F.HDR_EV_STAT_EV 2 = true ∧
    ((pdSt s p).cmd = none → (hardReset s p sent).pd p F.PD_PD_RES_RESULT = s.pd p F.PD_PD_RES_RESULT) := by
  rw [hardReset_eq]
  generalize (s.pd p F.PD_PD_STAT_SWAP_BUSY == 1) = swap
  have hk := hardResetEnd_kept (pdEv (pdFault ((if sent then pdSend s p .hardReset else s).inc (P.pd p) F.PD_CNT_HARD_RESET_N) p
    (if sent then 4 else 3)) p 2) p swap
  have hfirst : ∀ f, (if sent then pdSend s p .hardReset else s).pd p f = s.pd p f := fun f => by cases sent <;> rfl
  refine ⟨hk.sent.trans ?_, hk.count.trans ?_, fun k hk7 => (congrArg (bitOf · k) hk.fault).trans ?_, hk.ev.keep _ _ (by decide) (bit_pdEv _ _ (by decide)),
    fun hc => (hk.result ?_).trans ?_⟩
  · rw [usb_pdEv]
    cases sent <;> rfl
  · rw [pd_pdEv _ _ _ _ (by decide)]
    refine (pd_pdWr_beside _ _ _ rfl).trans ((rd_inc_same ..).trans ?_)
    rw [show ∀ t : State, t.rd (P.pd p) F.PD_CNT_HARD_RESET_N = t.pd p F.PD_CNT_HARD_RESET_N from fun _ => rfl, hfirst]
    rfl
  · rw [pd_pdEv _ _ _ _ (by decide)]
    have hsame : ((if sent then pdSend s p .hardReset else s).inc (P.pd p) F.PD_CNT_HARD_RESET_N).bit (P.pd p) F.PD_FAULT_CAUSE k =
        s.bit (P.pd p) F.PD_FAULT_CAUSE k :=
      congrArg (bitOf · k) ((rd_wr_beside _ _ (f := F.PD_FAULT_CAUSE) (g := F.PD_CNT_HARD_RESET_N) _ rfl).trans (hfirst _))
    exact hsame ▸ bit_setBit _ _ _ _ _ _ hk7
  · rw [pdSt_of_usb (usb_pdEv ..)]
    cases sent <;> exact hc
  · rw [pd_pdEv _ _ _ _ (by decide)]
    exact (pd_pdWr_beside _ _ (f := F.PD_PD_RES_RESULT) (g := F.PD_FAULT_CAUSE) _ rfl).trans
      ((pd_pdWr_beside _ _ (f := F.PD_PD_RES_RESULT) (g := F.PD_CNT_HARD_RESET_N) _ rfl).trans (hfirst _))

theorem swapBegin_busy (s : State) (p : Nat) : (swapBegin s p).pd p F.PD_PD_STAT_SWAP_BUSY = 1 := by
  have hoff : ∀ t : State, (pdDriveOff t p).pd p F.PD_PD_STAT_SWAP_BUSY = t.pd p F.PD_PD_STAT_SWAP_BUSY := fun t => by
    unfold pdDriveOff
    dsimp only
    split
    · exact (pd_vbusFall _ _ (by decide)).trans (pd_setPd ..)
    · exact pd_setPd ..
  have hset : (s.pdWr p F.PD_PD_STAT_SWAP_BUSY 1).pd p F.PD_PD_STAT_SWAP_BUSY = 1 := pd_pdWr_same ..
  unfold swapBegin
  dsimp only
  split <;> simp [pdStart, pdStartAt, pdStop, pdWatch, hoff, hset]

/-- Settles O51. -/
theorem pdMessages : Obligations.PdMessages := by
  unfold Obligations.PdMessages
  refine ⟨?swap, ?soft, ?getCap, ?swapReceived, ?hard, ?hardReceived, ?transFail, ?timer, ?unsupported, ?trim, ?svids, ?modes, ?enter, ?exit⟩
  case swap =>
    intro s p who hw hp hr hs hc ht
    have hat : pdAttach s 0 ≠ 0 := by
      simp only [swapOk, Bool.and_eq_true, Bool.or_eq_true, beq_iff_eq] at hs
      omega
    have hrun := pdCmd_runs (s := dropArms s (P.pd 0)) (p := 0) (op := 1) (by decide) hc
      (show pdOpOk s 0 1 = true by simp [pdOpOk, hr, hat, hs]) (.inr (.inr ht))
    have hx : exec (.prSwap p who) s = .next (pdOpRun (pdRunning (dropArms s (P.pd 0)) 0 1) 0 1) := by
      refine congrArg Host.Outcome.next ((hw.pdCmd (by decide)).trans ?_)
      rw [hp]
      exact hrun
    refine ⟨_, hx, ?_⟩
    obtain ⟨h1, h2⟩ := pdAsk_sends (pdRunning (dropArms s (P.pd 0)) 0 1) 0 .prSwap 1
    exact ⟨h1, h2⟩
  case soft =>
    intro s p who hw hr hat hc
    generalize hq : p % 2 = q at *
    have ha : (pdSt s q).ams = 0 ∨ (pdSt s q).ams = 8 ∨ (pdSt s q).ams = 9 := hc.2.elim (fun h => .inr (.inr h)) fun h => h.1.imp id .inl
    have hrun := pdCmd_runs (s := dropArms s (P.pd q)) (p := q) (op := 2) (by decide) hc.1
      (show pdOpOk s q 2 = true by simp [pdOpOk, hr, hat]; omega) (hc.2.elim (fun h => .inr (.inl h)) fun h => .inr (.inr h.2))
    refine ⟨_, congrArg Host.Outcome.next ((MayWrite.pdCmd (hq ▸ hw) (by decide)).trans (hq ▸ hrun)), ?_⟩
    subst hq
    obtain ⟨h1, h2⟩ := pdAsk_sends (pdRunning (dropArms s (P.pd (p % 2))) (p % 2) 2) (p % 2) .softReset 7
    refine ⟨h1.trans ?_, h2⟩
    rw [pdRunning, sent_pdWr, sent_setPd]
    rfl
  case getCap =>
    intro s p who hw hr hat hc
    generalize hq : p % 2 = q at *
    have hrun := pdCmd_runs (s := dropArms s (P.pd q)) (p := q) (op := 4) (by decide) hc.1
      (show pdOpOk s q 4 = true by simp [pdOpOk, hr, hat, hc.2.1]) (.inr (.inr hc.2.2))
    refine ⟨_, congrArg Host.Outcome.next ((MayWrite.pdCmd (hq ▸ hw) (by decide)).trans (hq ▸ hrun)), ?_⟩
    subst hq
    obtain ⟨h1, h2⟩ := pdAsk_sends (pdRunning (dropArms s (P.pd (p % 2))) (p % 2) 4) (p % 2) .getSrcCap 4
    refine ⟨h1.trans ?_, h2⟩
    rw [pdRunning, sent_pdWr, sent_setPd]
    rfl
  case swapReceived =>
    intro s p hr hat hams
    refine ⟨_, exec_of_guard rfl (by simp [hr, hat]), fun hs => ?_, fun hs => ?_⟩
    · rw [if_neg (by rintro ⟨rfl, h, -⟩; omega), if_pos hs]
      exact swapBegin_busy ..
    · rw [if_neg (by rintro ⟨rfl, h, -⟩; omega), if_neg (by simp [hs])]
      rfl
  case hard =>
    intro s q who p hw hq hr hat hc
    subst hq
    have hrun := pdCmd_runs (s := dropArms s (P.pd (q % 2))) (p := q % 2) (op := 3) (by decide) hc
      (show pdOpOk s (q % 2) 3 = true by simp [pdOpOk, hr, hat]) (.inl rfl)
    generalize hu : pdComplete (pdRunning (dropArms s (P.pd (q % 2))) (q % 2) 3) (q % 2) PR.ok = u
    have hx : exec (.hardReset q who) s = .next (hardReset u (q % 2) true) :=
      congrArg Host.Outcome.next ((hw.pdCmd (by decide)).trans (hrun.trans (congrArg (hardReset · (q % 2) true) hu)))
    have hcomplete : u = setPd ((pdRunning (dropArms s (P.pd (q % 2))) (q % 2) 3).pdWr (q % 2) F.PD_PD_RES_RESULT PR.ok) (q % 2)
        { pdSt (pdRunning (dropArms s (P.pd (q % 2))) (q % 2) 3) (q % 2) with cmd := none } := by
      rw [← hu, pdComplete, if_pos (by simp [pdRunning])]
    obtain ⟨hsent, hcount, -, -, hres⟩ := hardReset_shows u (q % 2) true
    refine ⟨_, hx, ?_, (hres ?_).trans ?_, hcount.trans ?_⟩
    · rw [hsent]
      rfl
    · rw [hcomplete, pdSt_setPd]
    · rw [hcomplete, pd_setPd]
      exact pd_pdWr_same ..
    · rw [hcomplete, pd_setPd, pd_pdWr_beside _ _ _ rfl, pdRunning, pd_pdWr_beside _ _ _ rfl, pd_setPd]
      rfl
  case hardReceived =>
    intro s p hr hat
    obtain ⟨-, hcount, hfault, hev, -⟩ := hardReset_shows s p false
    exact ⟨_, exec_of_guard rfl (by simp [hr, hat]), (hfault 3 (by decide)).trans (if_pos rfl), hev, hcount⟩
  case transFail =>
    intro s p k hr ht
    have hk3 : k < 3 := by
      by_contra hk
      have hno : transMay s p k = fun _ => false := by
        funext x
        obtain ⟨j, rfl⟩ : ∃ j, k = j + 3 := ⟨k - 3, by omega⟩
        rfl
      rw [hno] at ht
      exact absurd ht (by simp)
    obtain ⟨-, hcount, hfault, -, -⟩ := hardReset_shows (pdFault s p k) p true
    refine ⟨_, exec_of_guard rfl (by simp [hr, ht]), (hfault k (by omega)).trans ?_, hcount.trans ?_⟩
    · rw [if_neg (by rw [if_pos rfl]; omega)]
      exact (bit_setBit _ _ _ _ _ _ (Nat.lt_trans hk3 (by decide))).trans (if_pos rfl)
    · exact congrArg (satAdd _ · 1) (rd_wr_beside _ _ _ rfl)
  case timer =>
    intro s p k hr hd hk
    obtain ⟨hsent, hcount, -, -, -⟩ := hardReset_shows (pdStop s p k) p true
    have hx : exec (.pdTimerExpiry p k) s = .next (hardReset (pdStop s p k) p true) := by
      refine (exec_of_guard rfl (by simp [hr, hd])).trans (congrArg Host.Outcome.next ?_)
      rcases hk with rfl | rfl | rfl <;> rfl
    refine ⟨_, hx, ?_, hcount.trans ?_⟩
    · rw [hsent]
      rfl
    · rw [pdStop, pd_setPd]
  case unsupported =>
    intro s p k hr hat hk
    refine ⟨_, exec_of_guard rfl (by simp [hr, hat]), ?_⟩
    by_cases h0 : k = 0
    · rw [if_pos h0]
      simp [h0]
    · rw [if_neg h0, if_pos (by omega)]
      simp [h0]
  case trim =>
    intro s v r hr hv
    refine ⟨_, exec_of_guard rfl (by simp [hr, hv]), ?_⟩
    have hfault : ∀ c : Prop, ∀ [Decidable c], pdSt (if c then pdEv (pdFault s 1 2) 1 2 else s) 1 = pdSt s 1 := fun c _ => by
      split
      · exact (pdSt_of_usb (usb_pdEv ..) 1).trans rfl
      · rfl
    dsimp only
    split
    · rw [pdSt_setPd]
    · split
      · rw [pdSt_setPd]
      · rw [hfault]
  case svids =>
    intro s hr hc
    exact ⟨_, exec_of_guard rfl (by simp [hr, hc]), rfl⟩
  case modes =>
    intro s hr hc
    exact ⟨_, exec_of_guard rfl (by simp [hr, hc]), rfl⟩
  case enter =>
    intro s hr hat hal ht
    refine ⟨_, (exec_of_guard rfl (by simp [hr, hat])).trans (congrArg Host.Outcome.next ((if_pos hal).trans (if_neg (ne_true_of_eq_false ht)))), ?_⟩
    have hlane : ∀ t : State, (if laneUp t 3 then laneExit t 3 LS.signal else setLaneState t 3 LS.signal).usb = t.usb ∧
        ∀ f : Fld, 0x040 ≤ f.off → (if laneUp t 3 then laneExit t 3 LS.signal else setLaneState t 3 LS.signal).pd 0 f = t.pd 0 f := fun t => by
      split
      · exact ⟨(laneExit_keeps ..).usb rfl, fun f hf => (laneExit_keeps ..).rd_body group_pd hf rfl⟩
      · exact ⟨(setLaneState_keeps ..).usb rfl, fun f hf => (setLaneState_keeps ..).rd_body group_pd hf rfl⟩
    refine ⟨?_, ?_, ?_⟩
    · rw [tapOn, (hlane _).2 _ (by decide), pd_pdEv _ _ _ _ (by decide)]
      refine congrArg (· == 1) ((rd_wr_beside _ _ _ rfl).trans (rd_wr_same ..))
    · rw [(hlane _).1, usb_pdEv]
      rfl
    · rw [(hlane _).2 _ (by decide), pd_pdEv _ _ _ _ (by decide)]
      exact (rd_inc_same ..).trans (congrArg (fun n => min (n + 1) _) (rd_wr_beside _ _ _ rfl))
  case exit =>
    intro s hr ht
    refine ⟨_, exec_of_guard rfl (by simp [hr, ht]), tapOn_tapEnd s, rfl⟩

end Sys2Proof.Machine
end

section
/-!
PROOF. The commands of the edge scheduler's entries: selection, CONFIGURE, ARM, CANCEL and RELEASE.
-/

namespace Sys2Proof.Machine

/-! ## Pending edges that end -/

theorem edgeCount_edges (s : State) (r : Nat) : (edgeCount s r).edge.edges = s.edge.edges := by
  have hraise : ∀ f k, (countRaise s P.edge f P.edge k).edge.edges = s.edge.edges := fun f k =>
    (congrArg EdgeSched.edges (raise_raised (s.inc P.edge f) P.edge k).edge :)
  unfold edgeCount
  split
  · rfl
  · exact hraise ..
  · exact hraise ..
  · exact hraise ..
  · rfl

theorem edgeReport_edges (s : State) (e : PendEdge) (r : Nat) (at2 : Option Nat) :
    (edgeReport s e r at2).edge.edges = s.edge.edges := by
  have hcount : ∀ (t : State) x, t.edge.edges = s.edge.edges → (edgeCount (setEnt t e.entry x) r).edge.edges = s.edge.edges :=
    fun t x h => (edgeCount_edges ..).trans h
  unfold edgeReport
  dsimp only
  refine (congrArg EdgeSched.edges (raiseIf_raised ..).edge).trans ?_
  have hdrawn : ∀ x, (edgeCount (setEnt (match at2 with | some i => (i / 2, s) | none => s.draw 64).2 e.entry x) r).edge.edges =
      s.edge.edges := fun x => hcount _ x (by cases at2 <;> rfl)
  cases e.action with
  | none => exact hdrawn _
  | some a => exact hdrawn _

theorem dropEdge_edges (s : State) (e : PendEdge) : (dropEdge s e).edge.edges = s.edge.edges.filter (·.seq != e.seq) := by
  unfold dropEdge
  dsimp only
  split <;> rfl

/-- An edge that ends is pending no more, and no other ends with it. -/
theorem edgeEnd_edges (s : State) (e : PendEdge) (r : Nat) : (edgeEnd s e r).edge.edges = s.edge.edges.filter (·.seq != e.seq) := by
  unfold edgeEnd
  dsimp only
  rw [dropEdge_edges]
  congr 1
  split
  · split
    · exact edgeCount_edges ..
    · rfl
  · exact edgeReport_edges ..

/-- A first edge that is not committed: what a cancellation ends. -/
def PendEdge.cancellable (e : PendEdge) : Bool := e.open && !e.isReturn

theorem cancelled_edges (l : List PendEdge) (s : State) :
    (l.foldl (fun t e => if e.open && !e.isReturn then edgeEnd t e ER.cancelled else t) s).edge.edges =
      s.edge.edges.filter fun x => !(l.any fun e => e.cancellable && e.seq == x.seq) := by
  induction l generalizing s with
  | nil => exact (List.filter_true _).symm
  | cons e l ih =>
    rw [List.foldl_cons, ih]
    by_cases h : (e.open && !e.isReturn) = true
    · rw [if_pos h, edgeEnd_edges, List.filter_filter]
      congr 1
      funext x
      rw [List.any_cons, show e.cancellable = true from h, Bool.true_and, Bool.not_or, Bool.and_comm, ← bne_comm (a := e.seq)]
      rfl
    · rw [if_neg h]
      congr 1
      funext x
      rw [List.any_cons, show e.cancellable = false from Bool.eq_false_iff.mpr h, Bool.false_and, Bool.false_or]

/-- After a cancellation no first edge of the entry is left uncommitted, and none came new. -/
theorem edgesCancel_left {s : State} {n : Nat} {x : PendEdge} (h : x ∈ entEdges (edgesCancel s n) n) :
    x ∈ entEdges s n ∧ x.cancellable = false := by
  have hx : x ∈ (edgesCancel s n).edge.edges ∧ (x.entry == n) = true := List.mem_filter.mp h
  rw [show (edgesCancel s n).edge.edges = _ from cancelled_edges .., List.mem_filter] at hx
  obtain ⟨⟨hmem, hleft⟩, hentry⟩ := hx
  have hs : x ∈ entEdges s n := List.mem_filter.mpr ⟨hmem, hentry⟩
  refine ⟨hs, ?_⟩
  simp only [Bool.not_eq_true', List.any_eq_false, Bool.and_eq_true, not_and] at hleft
  have := hleft x hs
  simpa using this

/-! ## Writes of ENT_SEL and ENT_CMD (R327) -/

/-- An accepted write of ENT_SEL selects the entry. -/
theorem MayWrite.entSel_eq {s : State} {who : By} (h : MayWrite s who P.edge 0x048) (n : Nat) : ∃ u, u.edge = s.edge ∧
    busStore s who P.edge 0x048 (n % 1024) = entSelect u (n % 1024 % 1024) := by
  have hfields : regFields P.edge 0x048 = [F.EDGE_ENT_SEL_ENTRY] := by decide
  refine ⟨_, ?_, h.plain _ (by decide) (by decide)⟩
  rw [hfields, List.foldl_cons, List.foldl_nil, storeField_rw rfl rfl]
  rfl

/-- An accepted write of ENT_CMD is the command. -/
theorem MayWrite.entCmd_eq {s : State} {who : By} (h : MayWrite s who P.edge 0x060) {op : Nat} (hop : op < 16) :
    entCmd s who op = entCommand (dropArms s P.edge) op (2 * s.now) := by
  refine h.block _ (by decide) (by decide) (by decide) (.inl (by decide)) ?_
  show entCommand (dropArms s P.edge) (op * 2 ^ 28 / 2 ^ 28 % 16) (2 * s.now) = _
  rw [Nat.mul_div_cancel _ (by decide), Nat.mod_eq_of_lt hop]

/-- A selection shows the entry and its target. -/
theorem entSelect_shows (s : State) (n : Nat) :
    (entSelect s n).rd P.edge F.EDGE_ENT_SEL_ENTRY = n % 1024 ∧ (entSelect s n).rd P.edge F.EDGE_ENT_TGT_KIND = (entOf s n).kind % 16 ∧
      (entSelect s n).rd P.edge F.EDGE_ENT_TGT_UNIT = (entOf s n).unit % 256 ∧
      (entSelect s n).rd P.edge F.EDGE_ENT_TGT_SUB = (entOf s n).sub % 256 := by
  unfold entSelect
  dsimp only
  split
  · simp (disch := decide) only [State.wr64, rd_wr_beside, rd_wr_same]
    exact ⟨rfl, rfl, rfl, rfl⟩
  · split <;>
    · simp (disch := decide) only [State.wr64, rd_wr_beside, rd_wr_same]
      exact ⟨rfl, rfl, rfl, rfl⟩

section
variable {s : State} {n n2 : Nat} (hwork : s.working = true) (hn : s.rd P.edge F.EDGE_ENT_SEL_ENTRY = n) (hpool : inActPool s n = false)
include hwork hn hpool

theorem entCommand_configure (hfree : entEdges s n = [])
    (hok : targetOk (s.rd P.edge F.EDGE_ENT_TGT_KIND) (s.rd P.edge F.EDGE_ENT_TGT_UNIT) (s.rd P.edge F.EDGE_ENT_TGT_SUB) = true) :
    entCommand s 1 n2 = (setEnt s n { entOf s n with
      used := true, leaving := false, kind := s.rd P.edge F.EDGE_ENT_TGT_KIND, safe := s.rd P.edge F.EDGE_ENT_TGT_SAFE,
      lateFire := s.on P.edge F.EDGE_ENT_TGT_LATE_FIRE, onLost := s.on P.edge F.EDGE_ENT_TGT_ON_LOST,
      irq := s.on P.edge F.EDGE_ENT_TGT_IRQ, unit := s.rd P.edge F.EDGE_ENT_TGT_UNIT,
      sub := s.rd P.edge F.EDGE_ENT_TGT_SUB }).wr P.edge F.EDGE_ENT_RES_RESULT EC.ok := by
  subst hn
  unfold entCommand
  dsimp only
  rw [if_neg (by decide), if_neg (by simp [hwork]), if_neg (by simp [hpool]), if_pos rfl, if_neg (by simp [hfree]),
    if_neg (by simp [hok])]

theorem entCommand_arm (hused : (entOf s n).used = true) (hok : armOk s (stagedArm s) = true) (hroom : s.edge.edges.length < 4096) :
    entCommand s 2 n2 = (edgeArm s n (stagedArm s) none n2).wr P.edge F.EDGE_ENT_RES_RESULT EC.ok := by
  subst hn
  unfold entCommand armChecked
  dsimp only
  rw [if_neg (by decide), if_neg (by simp [hwork]), if_neg (by simp [hpool]), if_neg (by decide), if_pos rfl,
    if_neg (by simp [hused, hok]), if_neg (by omega)]

theorem entCommand_cancel : entCommand s 3 n2 = (edgesCancel s n).wr P.edge F.EDGE_ENT_RES_RESULT EC.ok := by
  subst hn
  unfold entCommand
  dsimp only
  rw [if_neg (by decide), if_neg (by simp [hwork]), if_neg (by simp [hpool]), if_neg (by decide), if_neg (by decide), if_pos rfl]

theorem entCommand_release : entCommand s 4 n2 = (edgesRelease s n).wr P.edge F.EDGE_ENT_RES_RESULT EC.ok := by
  subst hn
  unfold entCommand
  dsimp only
  rw [if_neg (by decide), if_neg (by simp [hwork]), if_neg (by simp [hpool]), if_neg (by decide), if_neg (by decide),
    if_neg (by decide)]

end

/-- An edge whose commit instant is still to come stays as it is (R331). -/
theorem edgeTry_early {s : State} {e : PendEdge} {n2 i : Nat} (hs : e.starved = false) (hi : e.inst = some i)
    (h : n2 + commitLead s (entOf s e.entry) < i) : edgeTry s e n2 = s := by
  unfold edgeTry
  dsimp only
  split
  · rfl
  · rw [if_neg (by simp [hs]), hi]
    exact if_pos h

/-- A time operation whose commit instant is still to come is pending, CONVERTED with its instant (R330). -/
theorem edgeArm_pending {s : State} {n n2 : Nat} {o : ArmOp} {a : Option (Nat × Nat)} (hpos : o.pos = false)
    (hlead : n2 + commitLead s (entOf s n) < ceilTo (edgeRes (entOf s n).kind) o.trig.toNat) :
    ((edgeArm s n o a n2).edge.edges.getLast?).map (fun e => (e.entry, e.st, e.inst)) =
      some (n, .converted, some (ceilTo (edgeRes (entOf s n).kind) o.trig.toNat)) := by
  unfold edgeArm
  simp only [hpos, Bool.false_eq_true, if_false]
  rw [edgeTry_early rfl rfl hlead]
  simp

theorem entOf_setEnt_wr (s : State) (n : Nat) (x : EdgeEnt) (f : Fld) (v : Nat) : entOf ((setEnt s n x).wr P.edge f v) n = x :=
  Tbl.at_put_same ..

/-- Settles O37. -/
theorem edgeCommands : Obligations.EdgeCommands := by
  refine ⟨fun s who n hw => ?sel, fun s who n hw hwork hn hpool hfree hok => ?configure,
    fun s who n hw hwork hn hpool hent hok hpos hroom hlead => ?arm, fun s who n hw hwork hn hpool => ?cancel,
    fun s who n hw hwork hn hpool hopen => ?release⟩
  case sel =>
    obtain ⟨u, hu, he⟩ := hw.entSel_eq n
    refine ⟨_, congrArg Host.Outcome.next he, ?_⟩
    obtain ⟨hentry, hshows⟩ := entSelect_shows u (n % 1024 % 1024)
    rw [Nat.mod_mod] at hentry hshows ⊢
    rw [show entOf u = entOf s by unfold entOf; rw [hu]] at hshows
    exact ⟨by rw [hentry, Nat.mod_mod], hshows⟩
  case configure =>
    refine ⟨_, congrArg Host.Outcome.next ((hw.entCmd_eq (by decide)).trans (entCommand_configure hwork hn hpool hfree hok)),
      rd_wr_same .., ?_⟩
    rw [entOf_setEnt_wr]
    exact ⟨rfl, rfl, rfl, rfl⟩
  case arm =>
    have htrig : (stagedArm (dropArms s P.edge)).pos = false := hpos
    refine ⟨_, congrArg Host.Outcome.next ((hw.entCmd_eq (by decide)).trans (entCommand_arm hwork hn hpool hent.1 hok hroom)),
      rd_wr_same .., ?_⟩
    exact edgeArm_pending htrig hlead
  case cancel =>
    refine ⟨_, congrArg Host.Outcome.next ((hw.entCmd_eq (by decide)).trans (entCommand_cancel hwork hn hpool)), rd_wr_same .., ?_⟩
    refine List.all_eq_true.mpr fun e he => ?_
    have hleft : (e.open && !e.isReturn) = false := (edgesCancel_left (s := dropArms s P.edge) he).2
    cases hopen : e.open <;> simp_all
  case release =>
    refine ⟨_, congrArg Host.Outcome.next ((hw.entCmd_eq (by decide)).trans (entCommand_release hwork hn hpool)), rd_wr_same .., ?_⟩
    have hnone : entEdges (edgesCancel (dropArms s P.edge) n) n = [] := List.eq_nil_iff_forall_not_mem.mpr fun e he => by
      obtain ⟨hs, hleft⟩ := edgesCancel_left he
      exact absurd (List.all_eq_true.mp hopen e hs) (ne_true_of_eq_false hleft)
    have hfree : edgesRelease (dropArms s P.edge) n = setEnt (edgesCancel (dropArms s P.edge) n) n {} := by
      unfold edgesRelease
      dsimp only
      rw [hnone]
      rfl
    rw [hfree]
    rw [entState, entOf_setEnt_wr]
    rfl

end Sys2Proof.Machine
end

section
/-!
PROOF. Pending edges in ring time: commit, placement, the field die's commands, and captured input edges.
-/

namespace Sys2Proof.Machine

/-! ## Completions -/

/-- A step of a completion: the pending edges, the completions that Drift has to take and the signals stay. -/
structure EdgeStep (s t : State) : Prop where
  kept : EdgeKept s t
  edges : t.edge.edges = s.edge.edges
  results : t.edge.results = s.edge.results
  sigs : t.sigs = s.sigs

theorem EdgeStep.trans {s t u : State} (h : EdgeStep s t) (k : EdgeStep t u) : EdgeStep s u :=
  ⟨h.kept.trans k.kept, k.edges.trans h.edges, k.results.trans h.results, k.sigs.trans h.sigs⟩

theorem EdgeStep.refl (s : State) : EdgeStep s s := ⟨.of_regs rfl, rfl, rfl, rfl⟩

theorem Raised.edgeStep {s t : State} (h : Raised (noEclEv s) s t) : EdgeStep s t where
  kept := h.edgeKept
  edges := (congrArg EdgeSched.edges h.edge :)
  results := (congrArg EdgeSched.results h.edge :)
  sigs := h.keeps.sigs rfl

theorem EdgeStep.wr {s t : State} (h : EdgeStep s t) (f : Fld) (v : Nat) : EdgeStep s (t.wr P.edge f v) :=
  ⟨h.kept.wr f v, h.edges, h.results, h.sigs⟩

theorem EdgeStep.countRaise {s t : State} (h : EdgeStep s t) (f : Fld) (k : Nat) : EdgeStep s (countRaise t P.edge f P.edge k) :=
  (h.wr f _).trans (raise_raised ..).edgeStep

theorem edgeCount_step (s : State) (r : Nat) : EdgeStep s (edgeCount s r) := by
  unfold edgeCount
  split
  · exact (EdgeStep.refl s).wr ..
  · exact (EdgeStep.refl s).countRaise ..
  · exact (EdgeStep.refl s).countRaise ..
  · exact (EdgeStep.refl s).countRaise ..
  · exact .refl s

theorem edgeReport_step (s : State) {e : PendEdge} (ha : e.action = none) (r : Nat) (at2 : Option Nat) :
    EdgeStep s (edgeReport s e r at2) := by
  unfold edgeReport
  dsimp only
  rw [ha]
  refine EdgeStep.trans ?_ (raiseIf_raised ..).edgeStep
  refine EdgeStep.trans (t := setEnt (match at2 with | some i => (i / 2, s) | none => s.draw 64).2 e.entry _) ?_ (edgeCount_step ..)
  cases at2 with
  | none => exact ⟨.of_regs rfl, rfl, rfl, rfl⟩
  | some i => exact ⟨.of_regs rfl, rfl, rfl, rfl⟩

theorem edgeStep_step (s : State) (x : EdgeEnt) (at2 : Nat) : EdgeStep s (edgeStep s x at2) := by
  have hput : ∀ l, EdgeStep s { s with edge := { s.edge with step := l } } := fun l => ⟨.of_regs rfl, rfl, rfl, rfl⟩
  unfold edgeStep
  dsimp only
  split
  · split
    · exact hput _
    · exact (hput _).countRaise ..
  · exact hput _

/-- A placed edge that is no PULSE is complete (R341). -/
theorem edgePlace_complete {s u : State} {e : PendEdge} {at2 n2 : Nat} {late : Bool} (ha : e.action = none) (ho : e.op ≠ 1)
    (hu : edgeApply (edgeStep s (entOf s e.entry) at2) (entOf s e.entry) e = some u) :
    ∃ v, EdgeStep u v ∧ edgePlace s e at2 n2 late = dropEdge v e := by
  unfold edgePlace
  dsimp only
  rw [hu]
  dsimp only
  split
  · exact ⟨u, .refl u, rfl⟩
  · rw [if_neg (by simp [ho])]
    exact ⟨_, edgeReport_step u ha .., rfl⟩

/-- Without completions for Drift, and without edges that wait for a place, nothing follows a placement. -/
theorem settleEdges_none {s : State} (h : s.edge.results = []) : settleEdges s = s := by
  unfold settleEdges driftDrain
  rw [h]
  rfl

theorem edgesRetry_none {s : State} (h : s.edge.edges = []) (n2 : Nat) : edgesRetry s n2 = s := by
  unfold edgesRetry
  rw [h]
  rfl

theorem edgeStopJudge_step (s : State) : EdgeStep s (edgeStopJudge s) := by
  unfold edgeStopJudge
  split
  · exact (EdgeStep.refl s).wr ..
  · exact .refl s

theorem dropEdge_sigs (s : State) (e : PendEdge) : (dropEdge s e).sigs = s.sigs := by
  unfold dropEdge
  dsimp only
  split <;> rfl

theorem dropEdge_sole {s : State} {e : PendEdge} (h : s.edge.edges = [e]) :
    (dropEdge s e).edge.edges = [] ∧ (dropEdge s e).edge.results = s.edge.results := by
  refine ⟨by simp [dropEdge_edges, h], ?_⟩
  unfold dropEdge
  dsimp only
  split <;> rfl

/-- The state after the one edge has been placed: no edge is pending, and Drift has nothing to take. -/
theorem placed_sole {s u : State} {e : PendEdge} {at2 n2 : Nat} {late : Bool} (hs : s.edge.edges = [e]) (hr : s.edge.results = [])
    (ha : e.action = none) (ho : e.op ≠ 1) (hu : edgeApply (edgeStep s (entOf s e.entry) at2) (entOf s e.entry) e = some u)
    (hkeep : u.edge = (edgeStep s (entOf s e.entry) at2).edge) :
    ∃ v w, EdgeStep u v ∧ EdgeStep (dropEdge v e) w ∧ w.edge.edges = [] ∧
      settleEdges (edgeStopJudge (edgesRetry (edgePlace s e at2 n2 late) n2)) = w := by
  obtain ⟨v, hv, he⟩ := edgePlace_complete (n2 := n2) (late := late) ha ho hu
  have hstep := edgeStep_step s (entOf s e.entry) at2
  have hedges : v.edge.edges = [e] := by rw [hv.edges, hkeep, hstep.edges, hs]
  obtain ⟨hnone, hres⟩ := dropEdge_sole hedges
  have hw := edgeStopJudge_step (dropEdge v e)
  refine ⟨v, _, hv, hw, hw.edges.trans hnone, ?_⟩
  rw [he, edgesRetry_none hnone, settleEdges_none]
  rw [hw.results, hres, hv.results, hkeep, hstep.results, hr]

/-! ## Queues of cells -/

/-- Registers that frames and the queues of the node change. -/
def queueKey (k : Key) : Bool := swKey k || decide (0x040 ≤ k.page ∧ k.page < 0x080)

theorem Moved.queue {s t : State} (h : Moved s t) : RegsKeep queueKey s t := h.regs.mono fun _ hk => (Bool.or_eq_false_iff.mp hk).1

theorem setQueueSt_moved (s : State) (q : Nat) (z : QSt) : Moved s (setQueueSt s q z) := by
  have hput : ∀ x, Moved s { s with ses := x } := fun _ => .of_regs rfl
  unfold setQueueSt
  exact .ite ((hput _).trans (chargeCells_moved ..)) ((hput _).trans (dischargeCells_moved ..))

theorem recycleFor_moved (s : State) (q k : Nat) : Moved s (recycleFor s q k).1 := by
  have : ∀ (l : List QItem) (a : State × Nat), Moved s a.1 → Moved s (l.foldl (fun a x =>
      if qOcc a.1 q + k ≤ qMax a.1 q then a
      else
        let z := queueSt a.1 q
        if z.cur == some x.arr || (x.done && x.heldCells == 0) then a
        else (setQueueSt a.1 q (z.recycle x.arr), a.2 + 1)) a).1 := by
    intro l
    induction l with
    | nil => exact fun _ h => h
    | cons x r ih =>
      intro a h
      refine ih _ ?_
      dsimp only
      split
      · exact h
      · split
        · exact h
        · exact h.trans (setQueueSt_moved ..)
  exact this _ _ (.refl s)

theorem queueKey_queue (q o l : Nat) : queueKey ⟨P.queue q, o, l, 0⟩ = true := by
  have : 0x040 ≤ P.queue q ∧ P.queue q < 0x080 := by unfold P.queue; omega
  simp [queueKey, this]

theorem qRefuse_queue (s : State) (q : Nat) : RegsKeep queueKey s (qRefuse s q) :=
  .ite (fun _ => (RegsKeep.refl _ s).inc _ (queueKey_queue ..)) fun _ => .refl ..

/-! ## Capture (R344, R345) -/

theorem closeCell_moved (s : State) (u : Nat) : Moved s (closeCell s u) := by
  unfold closeCell
  dsimp only
  split
  · exact .refl s
  · refine .trans ?_ (setQueueSt_moved ..)
    have hcells : ∀ x q, Moved s (dischargeCells (setCapUnit s u x) q 1 1) := fun x q =>
      (Moved.of_regs (s := s) (t := setCapUnit s u x) rfl).trans (dischargeCells_moved ..)
    exact (hcells { capUnit s u with cell := [] } (s.cap F.CAPTURE_CAP_CFG_QUEUE u)).put rfl

theorem openCell_queue (s : State) (q : Nat) : RegsKeep queueKey s (openCell s q).2 := by
  have hrecycle : Moved s (if s.on (P.queue q) (F.QUEUE_Q_CFG_OVERWRITE (q % 16)) then recycleFor s q 1 else (s, 0)).1 := by
    split
    · exact recycleFor_moved ..
    · exact .refl s
  unfold openCell
  dsimp only
  generalize (if s.on (P.queue q) (F.QUEUE_Q_CFG_OVERWRITE (q % 16)) then recycleFor s q 1 else (s, 0)) = a at hrecycle ⊢
  split
  · exact .refl ..
  · split
    · exact (hrecycle.queue.inc _ (queueKey_queue ..)).trans (chargeCells_moved ..).queue
    · exact (noteRefusal_moved ..).queue.trans (qRefuse_queue ..)

/-- Registers that a capture changes beside its LAST_INFO: not what configures a unit, nor the LAST_INFO of unit `u`. -/
def capKey (u : Nat) (k : Key) : Bool :=
  !(k.page == P.capt && decide (0x100 ≤ k.off) && (k.off % 32 == 0 || k.off % 32 == 4 || k.off == 0x110 + 0x20 * u))

theorem capKey_unit {u : Nat} {f : Fld} (h : f.off = 0x100 + 0x20 * u ∨ f.off = 0x104 + 0x20 * u ∨ f.off = 0x110 + 0x20 * u) :
    capKey u ⟨P.capt, f.off, f.lsb, 0⟩ = false := by
  have ho : 0x100 ≤ f.off := by omega
  have hu : f.off % 32 = 0 ∨ f.off % 32 = 4 ∨ f.off = 0x110 + 0x20 * u := by omega
  rcases hu with hu | hu | hu
  · simp [capKey, ho, hu]
  · simp [capKey, ho, hu]
  · simp [capKey, hu]
    omega

theorem queueKey_capKey {u : Nat} {s t : State} (h : RegsKeep queueKey s t) : RegsKeep (capKey u) s t := h.mono fun k hk => by
  obtain ⟨p, o, l, i⟩ := k
  simp only [capKey, Bool.not_eq_false', Bool.and_eq_true, beq_iff_eq, decide_eq_true_eq, Bool.or_eq_true, P.capt] at hk
  obtain ⟨⟨rfl, ho⟩, -⟩ := hk
  simp [queueKey, swKey, evKey]
  omega

theorem capRecord_capKey (s : State) (u v : Nat) (r : CapRec) : RegsKeep (capKey u) s (capRecord s v r) := by
  have ho : RegsKeep (capKey u) s (if (capUnit s v).cell.isEmpty then openCell s (s.cap F.CAPTURE_CAP_CFG_QUEUE v) else (true, s)).2 := by
    split
    · exact queueKey_capKey (openCell_queue ..)
    · exact .refl ..
  have hraise : ∀ (t : State) k, RegsKeep (capKey u) t (raise t P.capt k) := fun t k => queueKey_capKey (raise_moved ..).queue
  unfold capRecord
  dsimp only
  generalize (if (capUnit s v).cell.isEmpty then openCell s (s.cap F.CAPTURE_CAP_CFG_QUEUE v) else (true, s)) = o at ho ⊢
  have hrecord : ∀ x b, RegsKeep (capKey u) s (raiseIf ((setCapUnit o.2 v x).inc P.capt F.CAPTURE_CNT_RECORDS_N) b P.capt v) := fun x b =>
    (RegsKeep.inc (t := setCapUnit o.2 v x) _ (ho.trans (.of_eq rfl)) rfl).trans (.ite (fun _ => hraise ..) fun _ => .refl ..)
  refine .ite (fun _ => .refl ..) fun _ => .ite (fun _ => ?_) fun _ => ?_
  · exact .ite (fun _ => (hrecord ..).trans (queueKey_capKey (closeCell_moved ..).queue)) fun _ => hrecord ..
  · refine RegsKeep.trans (((ho.inc _ ?_).inc _ rfl).wr _ ?_) (hraise ..)
    · simp [capKey, F.CAPTURE_CAP_LOST_N]; omega
    · simp [capKey, F.CAPTURE_CAP_STAT_OVF]; omega

/-- The registers that an edge of unit `v` writes before its record. -/
theorem capUnitEdge_capKey (s : State) {u v : Nat} (h : v ≠ u) (kind : Nat) (lvl : Bool) (t fr w : Nat) :
    RegsKeep (capKey u) s (capUnitEdge s v kind lvl t fr w) := by
  have hlast : ∀ x i b, RegsKeep (capKey u) s ((((((setCapUnit s v x).wr64 P.capt (F.CAPTURE_CAP_LAST_LO_NS v) (F.CAPTURE_CAP_LAST_HI_NS v) i).wr
      P.capt (F.CAPTURE_CAP_LAST_INFO_VALID v) 1).wr P.capt (F.CAPTURE_CAP_LAST_INFO_LEVEL v) b).wr P.capt
      (F.CAPTURE_CAP_LAST_INFO_FRAC v) fr)) := fun x i b => by
    unfold State.wr64
    refine .wr _ (.wr _ (.wr _ (.wr _ (.wr _ (.of_eq rfl) ?_) ?_) ?_) ?_) ?_ <;>
      · simp [capKey, F.CAPTURE_CAP_LAST_LO_NS, F.CAPTURE_CAP_LAST_HI_NS, F.CAPTURE_CAP_LAST_INFO_VALID, F.CAPTURE_CAP_LAST_INFO_LEVEL,
          F.CAPTURE_CAP_LAST_INFO_FRAC]
        omega
  unfold capUnitEdge
  dsimp only
  refine .ite (fun _ => .refl ..) fun _ => .ite (fun _ => .refl ..) fun _ => .trans ?_ (capRecord_capKey ..)
  split
  · exact hlast ..
  · exact (hlast ..).trans (.of_eq rfl)

/-- An edge of a kind that the unit takes, wide enough: its LAST_INFO is valid with the level. -/
theorem capUnitEdge_shows {s : State} {u kind : Nat} {lvl : Bool} {w : Nat} (t fr : Nat)
    (hsel : bitOf (s.cap F.CAPTURE_CAP_CFG_EDGES u) (if lvl then 0 else 1) = true)
    (hw : 2 * s.cap F.CAPTURE_CAP_FILT_MIN_WIDTH u ≤ w) :
    (capUnitEdge s u kind lvl t fr w).cap F.CAPTURE_CAP_LAST_INFO_VALID u = 1 ∧
      (capUnitEdge s u kind lvl t fr w).cap F.CAPTURE_CAP_LAST_INFO_LEVEL u = b2n lvl := by
  have hrecord : ∀ (x : State) r {f : Nat → Fld}, (f u).off = 0x110 + 0x20 * u → (capRecord x u r).cap f u = x.cap f u :=
    fun x r _ hf => (capRecord_capKey x u u r).rd _ _ (capKey_unit (.inr (.inr hf)))
  have hbeside : ∀ (x : State) {f g : Nat → Fld} v, ((f u).off != (g u).off || (f u).lsb != (g u).lsb) = true →
      (x.wr P.capt (g u) v).cap f u = x.cap f u := fun x _ _ v h => rd_wr_beside _ _ _ h
  have hvalid : ∀ x : State, (((x.wr P.capt (F.CAPTURE_CAP_LAST_INFO_VALID u) 1).wr P.capt (F.CAPTURE_CAP_LAST_INFO_LEVEL u) (b2n lvl)).wr
      P.capt (F.CAPTURE_CAP_LAST_INFO_FRAC u) fr).cap F.CAPTURE_CAP_LAST_INFO_VALID u = 1 := fun x => by
    rw [hbeside _ _ (by simp [F.CAPTURE_CAP_LAST_INFO_VALID, F.CAPTURE_CAP_LAST_INFO_FRAC]),
      hbeside _ _ (by simp [F.CAPTURE_CAP_LAST_INFO_VALID, F.CAPTURE_CAP_LAST_INFO_LEVEL])]
    exact rd_wr_same ..
  have hlevel : ∀ x : State, ((x.wr P.capt (F.CAPTURE_CAP_LAST_INFO_LEVEL u) (b2n lvl)).wr P.capt (F.CAPTURE_CAP_LAST_INFO_FRAC u) fr).cap
      F.CAPTURE_CAP_LAST_INFO_LEVEL u = b2n lvl := fun x => by
    rw [hbeside _ _ (by simp [F.CAPTURE_CAP_LAST_INFO_LEVEL, F.CAPTURE_CAP_LAST_INFO_FRAC])]
    exact (rd_wr_same ..).trans (by cases lvl <;> rfl)
  unfold capUnitEdge
  dsimp only
  rw [if_neg (by cases lvl <;> simpa using hsel), if_neg (by omega), hrecord _ _ rfl, hrecord _ _ rfl]
  split
  · exact ⟨hvalid _, hlevel _⟩
  · exact ⟨hvalid _, hlevel _⟩

theorem captureEdge_shows {s : State} {kind index u : Nat} {lvl : Bool} {w : Nat} (t fr : Nat) (hon : captureOn s = true) (hu : u < 16)
    (hcfg : s.cap F.CAPTURE_CAP_CFG_EN u = 1 ∧ capKind s u = kind ∧ s.cap F.CAPTURE_CAP_CFG_INDEX u = index)
    (hsel : bitOf (s.cap F.CAPTURE_CAP_CFG_EDGES u) (if lvl then 0 else 1) = true)
    (hw : 2 * s.cap F.CAPTURE_CAP_FILT_MIN_WIDTH u ≤ w) :
    (captureEdge s kind index lvl t fr w).cap F.CAPTURE_CAP_LAST_INFO_VALID u = 1 ∧
      (captureEdge s kind index lvl t fr w).cap F.CAPTURE_CAP_LAST_INFO_LEVEL u = b2n lvl := by
  have hstep : ∀ t' v, v ≠ u → RegsKeep (capKey u) t' (if t'.cap F.CAPTURE_CAP_CFG_EN v == 1 && capKind t' v == kind &&
      t'.cap F.CAPTURE_CAP_CFG_INDEX v == index then capUnitEdge t' v kind lvl t fr w else t') := fun t' v hv =>
    .ite (fun _ => capUnitEdge_capKey _ hv ..) fun _ => .refl ..
  obtain ⟨x, -, hbefore, -, hafter⟩ := range_foldl_at (p := fun _ => True) (r := RegsKeep (capKey u)) (.refl _) .trans hu
    (f := fun t' v => if t'.cap F.CAPTURE_CAP_CFG_EN v == 1 && capKind t' v == kind && t'.cap F.CAPTURE_CAP_CFG_INDEX v == index then
      capUnitEdge t' v kind lvl t fr w else t') (fun _ _ _ => trivial) (fun t' v hv _ => hstep t' v hv) (s := s) trivial
  have hcap : ∀ f : Nat → Fld, (f u).off = 0x100 + 0x20 * u ∨ (f u).off = 0x104 + 0x20 * u → x.cap f u = s.cap f u := fun f hf =>
    hbefore.rd _ _ (capKey_unit (by omega))
  have hkind : capKind x u = capKind s u := by
    unfold capKind
    rw [hcap F.CAPTURE_CAP_CFG_KIND (.inl rfl)]
  rw [if_pos (by rw [hcap _ (.inl rfl), hkind, hcap _ (.inl rfl)]; simp [hcfg])] at hafter
  have hshow := capUnitEdge_shows (s := x) (kind := kind) (w := w) t fr (by rwa [hcap _ (.inl rfl)]) (by rwa [hcap _ (.inr rfl)])
  have hlast : ∀ {t' : State} (f : Nat → Fld), RegsKeep (capKey u) (capUnitEdge x u kind lvl t fr w) t' → (f u).off = 0x110 + 0x20 * u →
      t'.cap f u = (capUnitEdge x u kind lvl t fr w).cap f u := fun f h hf => h.rd _ _ (capKey_unit (.inr (.inr hf)))
  unfold captureEdge
  rw [if_neg (by simp [hon])]
  exact ⟨(hlast _ hafter rfl).trans hshow.1, (hlast _ hafter rfl).trans hshow.2⟩

/-! ## The commands -/

theorem edgeSort_sole (e : PendEdge) : edgeSort [e] = [e] := rfl

/-- The commit of the one pending edge (R331). -/
theorem edgeCommit_sole {s : State} {x : EdgeEnt} {e : PendEdge} {i : Nat} {late : Bool} (h : s.edge.edges = [e]) :
    (edgeCommit s x e i late).edge.edges = [{ e with st := .committed, inst := some i, late := late, starved := false }] ∧
      (edgeCommit s x e i late).edge.results = s.edge.results := by
  unfold edgeCommit
  dsimp only
  split <;> exact ⟨by simp [setEdge, h], rfl⟩

/-- An edge at its commit instant, with a place free, is committed (R331). -/
theorem edgeTry_due {s : State} {e : PendEdge} {n2 i : Nat} (hheld : edgeHeld s = false) (hs : e.starved = false) (hi : e.inst = some i)
    (hfree : placeFree s (entOf s e.entry) = true) (h : n2 + commitLead s (entOf s e.entry) = i) :
    edgeTry s e n2 = edgeCommit s (entOf s e.entry) e i false := by
  unfold edgeTry
  dsimp only
  rw [if_neg (by simp [hheld]), if_neg (by simp [hs]), hi]
  dsimp only
  rw [if_neg (by omega), if_pos h, if_pos hfree]

theorem calmKey_field {c : Nat} {f : Fld} (h : f.off ≠ 0x010) :
    (calmKey ⟨P.field c, f.off, f.lsb, 0⟩ || P.field c == P.edge) = false := by
  have hp : 0x0A0 ≤ P.field c ∧ P.field c < 0x0A8 := by unfold P.field; omega
  simp [calmKey, h, P.edge]
  omega

/-- A command that arrives before its action instant waits at the field die (R333). -/
theorem fieldCmdArrives_waits {s : State} {c : FieldCmd} {e : PendEdge} {x : Nat} (hdown : s.stitch.down = false)
    (hc : s.edge.cmds = [c]) (hhere : c.here = false) (he : edgeOf s c.seq = some e) (hx : x < c.act) :
    (fieldCmdArrives s c.kind c.unit x).edge.cmds = [{ c with here := true }] ∧
      (fieldCmdArrives s c.kind c.unit x).edge.results = s.edge.results := by
  have hfind : s.edge.cmds.find? (fun y => y.kind == c.kind && y.unit == c.unit && !y.here) = some c := by
    rw [hc]
    simp [hhere]
  unfold fieldCmdArrives
  rw [if_neg (by simp [hdown]), hfind]
  dsimp only
  rw [show edgeOf (flitArrives s (x / 2)) c.seq = some e from he]
  dsimp only
  rw [if_pos hx]
  exact ⟨by simp [show (flitArrives s (x / 2)).edge.cmds = [c] from hc], rfl⟩

/-- Settles O38. -/
theorem edgesInTime : Obligations.EdgesInTime := by
  refine ⟨fun s e i ha hs hr he hheld hfree hlead => ?commit, fun s e i ha hs hr he hkind hown hev => ?place,
    fun s c e x ha hdown hc hhere he hx hr => ?arrive, fun s c e ha hc hs hr he hkind hch hev => ?act,
    fun s k i u b x fr w ha hon hk hi hu hcfg hsel hw => ?capture⟩
  case commit =>
    obtain ⟨hst, hinst, hstarved⟩ := he
    refine ⟨_, congrArg Host.Outcome.next (if_pos ha), ?_⟩
    generalize hx : i - commitLead s (entOf s e.entry) = x
    have htry : edgesCommit (s.atTime (x / 2)) x = edgeCommit (s.atTime (x / 2)) (entOf s e.entry) e i false := by
      unfold edgesCommit
      rw [show (s.atTime (x / 2)).edge.edges = [e] from hs, List.filter_cons_of_pos (by simp [hst])]
      exact edgeTry_due hheld hstarved hinst hfree (show x + commitLead s (entOf s e.entry) = i by omega)
    obtain ⟨hedges, hres⟩ := edgeCommit_sole (s := s.atTime (x / 2)) (x := entOf s e.entry) (i := i) (late := false) hs
    rw [htry, settleEdges_none (hres.trans hr), hedges]
    rfl
  case place =>
    obtain ⟨hst, hinst, haction, hop⟩ := he
    obtain ⟨hkind, hunit⟩ := hkind
    refine ⟨_, congrArg Host.Outcome.next (if_pos ha), ?_⟩
    have hfield : (entOf s e.entry).atField = false := by simp [EdgeEnt.atField, hkind]
    have hdue : edgesPlace (s.atTime (i / 2)) i = edgeStopJudge (edgesRetry (edgePlace (s.atTime (i / 2)) e i i e.late) i) := by
      unfold edgesPlace
      rw [show (s.atTime (i / 2)).edge.edges = [e] from hs, List.filter_cons_of_pos]
      · simp only [List.filter_nil, edgeSort_sole, List.foldl_cons, List.foldl_nil, hinst, Option.getD_some]
      · rw [show entOf (s.atTime (i / 2)) e.entry = entOf s e.entry from rfl]
        simp [hst, hinst, hfield]
    have hstep := edgeStep_step (s.atTime (i / 2)) (entOf s e.entry) i
    have hsig : (edgeStep (s.atTime (i / 2)) (entOf s e.entry) i).sig (entOf s e.entry).unit = s.sig (entOf s e.entry).unit :=
      sig_of_sigs hstep.sigs _
    have hpin : ∀ n < 96, sigOwner (edgeStep (s.atTime (i / 2)) (entOf s e.entry) i) n = sigOwner s n := fun n hn => by
      have hrd : ∀ f : Fld, f.off = 0x100 + 4 * n → (edgeStep (s.atTime (i / 2)) (entOf s e.entry) i).rd P.pinmux f = s.rd P.pinmux f :=
        fun f hf => hstep.kept.regs.rd _ _ (by
          rw [hf]
          simp [evKey, P.pinmux, P.edge]
          omega)
      simp only [sigOwner, hrd (F.PINMUX_PIN_OWNER n) rfl, hrd (F.PINMUX_PIN_ENGINE n) rfl]
    have happly : edgeApply (edgeStep (s.atTime (i / 2)) (entOf s e.entry) i) (entOf s e.entry) e =
        some (driveSig (edgeStep (s.atTime (i / 2)) (entOf s e.entry) i) (entOf s e.entry).unit
          (e.drive (s.sig (entOf s e.entry).unit).latch)) := by
      unfold edgeApply
      rw [hkind]
      refine (if_pos ((hpin _ hunit).trans hown)).trans ?_
      rw [hsig]
    obtain ⟨v, w, hv, hw, hedges, he⟩ := placed_sole (s := s.atTime (i / 2)) (n2 := i) (late := e.late) hs hr haction hop happly (by
      unfold driveSig
      rw [if_neg (by omega)]
      rfl)
    rw [hdue, he]
    refine ⟨hedges, ?_⟩
    rw [sig_of_sigs hw.sigs, sig_of_sigs (dropEdge_sigs v e), sig_of_sigs hv.sigs, sig_of_sigs (driveSig_sigs ..), sig_setSig]
  case arrive =>
    refine ⟨_, congrArg Host.Outcome.next (if_pos ha), ?_⟩
    obtain ⟨hcmds, hres⟩ := fieldCmdArrives_waits (s := s.atTime (x / 2)) hdown hc hhere he hx
    rw [settleEdges_none (hres.trans hr), hcmds]
  case act =>
    obtain ⟨hcmds, hhere, hseq⟩ := hc
    obtain ⟨haction, hop⟩ := he
    obtain ⟨hkind, hunit⟩ := hkind
    obtain ⟨hout, hsafe, hservice⟩ := hch
    refine ⟨_, congrArg Host.Outcome.next (if_pos ha), ?_⟩
    have hdue : edgesField (s.atTime (c.act / 2)) c.act =
        edgeStopJudge (edgesRetry (edgePlace (s.atTime (c.act / 2)) e (e.inst.getD 0) c.act e.late) c.act) := by
      have hedge : edgeOf (s.atTime (c.act / 2)) c.seq = some e := by simp [edgeOf, show (s.atTime (c.act / 2)).edge.edges = [e] from hs, hseq]
      unfold edgesField
      rw [show (s.atTime (c.act / 2)).edge.cmds = [c] from hcmds, List.filter_cons_of_pos (by simp [hhere])]
      simp only [List.filter_nil, List.filterMap_cons, hedge, List.filterMap_nil, edgeSort_sole, List.foldl_cons, List.foldl_nil]
    have hstep := edgeStep_step (s.atTime (c.act / 2)) (entOf s e.entry) (e.inst.getD 0)
    have hfield : ∀ f : Nat → Fld, (f ((entOf s e.entry).unit % 8)).off ≠ 0x010 →
        (edgeStep (s.atTime (c.act / 2)) (entOf s e.entry) (e.inst.getD 0)).ch f (entOf s e.entry).unit = s.ch f (entOf s e.entry).unit := fun f hf =>
      (hstep.kept.calm hev).rd _ _ (calmKey_field hf)
    have hchOut : chIsOutput (edgeStep (s.atTime (c.act / 2)) (entOf s e.entry) (e.inst.getD 0)) (entOf s e.entry).unit = true := by
      rw [← hout]
      simp only [chIsOutput, chMode, hfield F.FIELD_CH_CFG_MODE (by simp [F.FIELD_CH_CFG_MODE]; omega),
        hfield F.FIELD_CH_CFG_SIO (by simp [F.FIELD_CH_CFG_SIO]; omega), hfield F.FIELD_CH_CFG_SIO_OUT (by simp [F.FIELD_CH_CFG_SIO_OUT]; omega)]
    have hchSafe : chSafe (edgeStep (s.atTime (c.act / 2)) (entOf s e.entry) (e.inst.getD 0)) (entOf s e.entry).unit = false := by
      rw [← hsafe]
      simp only [chSafe, hfield F.FIELD_CH_STAT_SAFE_ACTIVE (by simp [F.FIELD_CH_STAT_SAFE_ACTIVE]; omega)]
    have hpower : (edgeStep (s.atTime (c.act / 2)) (entOf s e.entry) (e.inst.getD 0)).service = false := by
      rw [← hservice]
      exact congrArg (· != 0) (hstep.kept.regs.rd _ _ (by decide))
    have happly : edgeApply (edgeStep (s.atTime (c.act / 2)) (entOf s e.entry) (e.inst.getD 0)) (entOf s e.entry) e =
        some ((edgeStep (s.atTime (c.act / 2)) (entOf s e.entry) (e.inst.getD 0)).chWr F.FIELD_CH_OUT_LEVEL (entOf s e.entry).unit
          (b2n (e.drive (s.ch F.FIELD_CH_OUT_LEVEL (entOf s e.entry).unit == 1)))) := by
      unfold edgeApply
      rw [hkind]
      refine (if_pos (by simp [hchOut, hchSafe, hpower])).trans ?_
      rw [hfield F.FIELD_CH_OUT_LEVEL (by simp [F.FIELD_CH_OUT_LEVEL]; omega)]
    obtain ⟨v, w, hv, hw, hedges, he⟩ := placed_sole (s := s.atTime (c.act / 2)) (n2 := c.act) (late := e.late) hs hr haction hop happly rfl
    rw [hdue, he]
    refine ⟨hedges, ?_⟩
    have hlevel : ∀ {x y : State}, EdgeKept x y → y.ch F.FIELD_CH_OUT_LEVEL (entOf s e.entry).unit = x.ch F.FIELD_CH_OUT_LEVEL (entOf s e.entry).unit :=
      fun h => h.regs.rd _ _ (by
        rw [evKey_channel (f := F.FIELD_CH_OUT_LEVEL) (by decide)]
        simp [P.field, P.edge]
        omega)
    rw [hlevel hw.kept, hlevel (.of_regs (dropEdge_regs ..)), hlevel hv.kept, ch_chWr_same]
    cases e.drive _ <;> rfl
  case capture =>
    have hreach : (decide (2 ≤ k ∧ k ≤ 4) && decide (i < (if k = 2 then 96 else if k = 3 then 12 else 4))) = true := by simp [hk, hi]
    refine ⟨_, congrArg Host.Outcome.next (if_pos hreach), ?_⟩
    dsimp only
    split
    · rw [if_pos (by exact ha)]
      exact captureEdge_shows x (fr % 65536) hon hu hcfg hsel hw
    · split
      · rw [if_pos (by exact ha)]
        exact captureEdge_shows x (fr % 65536) hon hu hcfg hsel hw
      · rw [if_pos (by exact ha)]
        exact captureEdge_shows x (fr % 65536) hon hu hcfg hsel hw

end Sys2Proof.Machine
end

section
/-!
PROOF. The requester of the transaction engine: loads, stores and atomics on other nodes, completions, resending and release.
-/

namespace Sys2Proof.Machine

/-! ## What ends with a tag -/

/-- The tags, the counter of timeouts and, where no descriptor is in flight, that none is, stay. -/
structure TagsKept (s t : State) : Prop where
  tags : t.txn.tags = s.txn.tags
  idle : (∀ c, descsOf s c = []) → ∀ c, descsOf t c = []
  count : t.rd P.txn F.TXN_CNT_TIMEOUT_N = s.rd P.txn F.TXN_CNT_TIMEOUT_N

theorem TagsKept.trans {s t u : State} (h : TagsKept s t) (k : TagsKept t u) : TagsKept s u :=
  ⟨k.tags.trans h.tags, fun e => k.idle (h.idle e), k.count.trans h.count⟩

theorem TagsKept.refl (s : State) : TagsKept s s := ⟨rfl, id, rfl⟩

/-- A step that leaves the engine's records and its page. -/
theorem TagsKept.of_keeps {m : Nat} {s t : State} (h : Keeps m s t) (hm : m.testBit 16 = false) (hr : m.testBit 52 = false) : TagsKept s t where
  tags := by rw [h.txn hm]
  idle e c := by rw [descsOf, h.txn hm]; exact e c
  count := h.rd _ _ hr

theorem fillHolds_kept (s : State) (n st : Nat) (b : List Nat) : TagsKept s (fillHolds s n st b) := by
  have : ∀ (l : List (Nat × HoldSlot)) (t : State), TagsKept s t → TagsKept s (l.foldl (fun t e =>
      if e.2.tag = n ∧ e.2.data.isNone then
        setHold t e.1 (some { e.2 with data := some (if st = 0 then slice b e.2.skip e.2.size else [], st), since := t.ticks })
      else t) t) := by
    intro l
    induction l with
    | nil => exact fun _ h => h
    | cons e r ih =>
      intro t h
      refine ih _ ?_
      dsimp only
      split
      · exact h.trans ⟨rfl, id, rfl⟩
      · exact h
  exact this _ _ (.refl s)

theorem TagsKept.ite {s t u : State} {c : Prop} [Decidable c] (h : TagsKept s t) (k : TagsKept s u) : TagsKept s (if c then t else u) := by
  split
  · exact h
  · exact k

theorem pieceDone_kept (s : State) (g : TagSt) (st : Nat) (b : List Nat) : TagsKept s (pieceDone s g st b) where
  tags := rfl
  idle h c := by
    unfold pieceDone mapDesc setDescs descsOf
    by_cases hc : c = g.xfer.1 - 1
    · rw [← hc]
      exact (Tbl.at_put_same ..).trans (congrArg (List.map _) (h c))
    · exact (Tbl.at_put_ne _ _ hc _).trans (h c)
  count := rfl

/-- A transaction that is no fetch ends: its tag is free and no descriptor starts; a timeout is counted. -/
theorem endTag_free {s : State} {n : Nat} {g : TagSt} (hg : tagAt s n = some g) (st : Nat) (b : List Nat)
    (hidle : ∀ c, descsOf s c = []) : tagAt (endTag s n st b) n = none ∧ (∀ c, descsOf (endTag s n st b) c = []) ∧
      (st = TS.timeout → (endTag s n st b).rd P.txn F.TXN_CNT_TIMEOUT_N =
        satAdd F.TXN_CNT_TIMEOUT_N.width (s.rd P.txn F.TXN_CNT_TIMEOUT_N) 1) := by
  have hraise : ∀ (t : State) c p k, TagsKept t (raiseIf t c p k) := fun t c p k => .of_keeps (raiseIf_keeps ..) rfl rfl
  obtain ⟨u, hu, htags, hdescs, hcount⟩ : ∃ u, TagsKept u (endTag s n st b) ∧ u.txn.tags = s.txn.tags.put none n none ∧
      (∀ c, descsOf u c = []) ∧ (st = TS.timeout → u.rd P.txn F.TXN_CNT_TIMEOUT_N =
        satAdd F.TXN_CNT_TIMEOUT_N.width (s.rd P.txn F.TXN_CNT_TIMEOUT_N) 1) := by
    refine ⟨if st = TS.timeout then countRaise (setTag s n none) P.txn F.TXN_CNT_TIMEOUT_N P.txn 1 else setTag s n none, ?_, ?_⟩
    · unfold endTag
      rw [hg]
      dsimp only
      refine .trans (hraise _ (st == TS.targetReset) P.txn 2) ?_
      generalize raiseIf _ (st == TS.targetReset) P.txn 2 = v
      split
      · exact .refl _
      · split
        · exact .of_keeps (exportDone_keeps ..) rfl rfl
        · split
          · exact pieceDone_kept ..
          · split
            · exact .trans (.ite (.of_keeps (txnCapture_keeps ..) rfl rfl) (.refl _)) (fillHolds_kept ..)
            · split
              · exact .refl _
              · exact .of_keeps (writeFailed_keeps ..) rfl rfl
    · split
      next hst =>
        have hcount := (raise_keeps ((setTag s n none).inc P.txn F.TXN_CNT_TIMEOUT_N) P.txn 1)
        refine ⟨congrArg TxnSt.tags (hcount.txn rfl), fun c => ?_, fun _ => (hcount.rd _ _ rfl).trans (rd_inc_same ..)⟩
        exact (congrArg (·.descs.at [] c) (hcount.txn rfl)).trans (hidle c)
      next hst => exact ⟨rfl, hidle, fun e => absurd e hst⟩
  exact ⟨by rw [tagAt, hu.tags, htags]; exact Tbl.at_put_same .., hu.idle hdescs, fun e => hu.count.trans (hcount e)⟩

theorem xferPump_idle {s : State} (h : ∀ c, descsOf s c = []) : xferPump s = s :=
  foldl_id _ _ _ fun c _ => by rw [h c]; rfl

theorem completeTag_free {s : State} {n : Nat} {g : TagSt} (hg : tagAt s n = some g) (hf : g.fetch = false) (st : Nat) (b : List Nat)
    (hd : s.txn.descs = []) : tagAt (xferPump (completeTag s n st b)) n = none ∧
      (st = TS.timeout → (xferPump (completeTag s n st b)).rd P.txn F.TXN_CNT_TIMEOUT_N =
        satAdd F.TXN_CNT_TIMEOUT_N.width (s.rd P.txn F.TXN_CNT_TIMEOUT_N) 1) := by
  have hc : completeTag s n st b = endTag s n st b := by
    unfold completeTag
    rw [hg]
    exact if_pos (by simp [hf])
  obtain ⟨hfree, hidle, hcount⟩ := endTag_free hg st b fun c => by rw [descsOf, hd]; rfl
  rw [hc, xferPump_idle hidle]
  exact ⟨hfree, hcount⟩

@[simp] theorem tagAt_setTag (s : State) (n : Nat) (g : Option TagSt) : tagAt (setTag s n g) n = g := Tbl.at_put_same s.txn.tags none n g
@[simp] theorem holdAt_setHold (s : State) (n : Nat) (x : Option HoldSlot) : holdAt (setHold s n x) n = x :=
  Tbl.at_put_same s.txn.slots none n x

/-! ## Requests -/

/-- A request that is sent again (R219). -/
theorem sendTag_again {s : State} {n x : Nat} {g : TagSt} (hg : tagAt s n = some g) (hx : g.first = some x) :
    (sendTag s n).txn = (setTag s n (some { g with last := s.ticks })).txn ∧
      (sendTag s n).rd P.txn F.TXN_CNT_RETRY_N = satAdd F.TXN_CNT_RETRY_N.width (s.rd P.txn F.TXN_CNT_RETRY_N) 1 := by
  unfold sendTag
  rw [hg]
  dsimp only
  rw [hx]
  dsimp only
  exact ⟨(originate_keeps ..).txn rfl, ((originate_keeps ..).rd _ _ rfl).trans (rd_inc_same ..)⟩

/-- A request that is sent first is counted. -/
theorem sendTag_first {s : State} {n : Nat} {g : TagSt} (hg : tagAt s n = some g) (hx : g.first = none) :
    (sendTag s n).rd P.txn F.TXN_CNT_ISSUED_N = satAdd F.TXN_CNT_ISSUED_N.width (s.rd P.txn F.TXN_CNT_ISSUED_N) 1 := by
  unfold sendTag
  rw [hg]
  dsimp only
  rw [hx]
  dsimp only
  exact ((originate_keeps ..).rd _ _ rfl).trans (rd_inc_same ..)

/-- A request to a node whose incarnation is known, with a tag free, is issued (R211). -/
theorem takeTag_issues {s : State} {g : TagSt} (hx : g.first = none) (hinc : s.halo.incs.at 0 g.dst ≠ 0)
    (hmay : mayTake s g.init g.dst 1 = true) : ∃ n t, takeTag s g = (some n, t) ∧
      t.rd P.txn F.TXN_CNT_ISSUED_N = satAdd F.TXN_CNT_ISSUED_N.width (s.rd P.txn F.TXN_CNT_ISSUED_N) 1 := by
  have hknown : (s.halo.incs.at 0 g.dst != 0) = true := by simpa using hinc
  have htake : takeTag s g = (some (putTag s g).1, sendTag (putTag s g).2 (putTag s g).1) := by
    unfold takeTag
    simp [hknown, hmay]
  refine ⟨_, _, htake, ?_⟩
  have hput : tagAt (putTag s g).2 (putTag s g).1 = some { g with ord := nextOrd s g.init g.dst } := by
    unfold putTag
    dsimp only
    generalize ((List.range 512).find? _).getD 0 = k
    exact tagAt_setTag ..
  exact sendTag_first hput hx

theorem orphan_slots (s : State) (x : OrphEnt) : (orphan s x).txn.slots = s.txn.slots := by
  have hraise : ∀ (t : State) k, (raise t P.txn k).txn = t.txn := fun t k => (raise_keeps ..).txn rfl
  have hlog : ∀ l, (raise { s with txn := { s.txn with orphans := l } } P.txn 3).txn.slots = s.txn.slots := fun l =>
    by rw [hraise]
  unfold orphan
  dsimp only
  split
  · rw [hraise]
    exact hlog _
  · exact hlog _

/-- A window of another node is nowhere in this node's own map. -/
theorem hostField_of_window {s : State} {a d o : Nat} (hw : winOf a = some (d, o)) (hd : isOwn s d = false) : hostField s a = false := by
  have ha : 0x100000000 ≤ a ∧ a < 0x1100000000 := by
    by_contra h
    rw [winOf, if_neg h] at hw
    exact absurd hw (by simp)
  have hregion : regionOf a = .window d o := by
    unfold regionOf
    rw [if_neg (by omega), if_neg (by omega), if_neg (by omega), if_neg (by omega), if_neg (by omega), if_neg (by omega), if_neg (by omega), hw]
  unfold hostField fieldAddr ownWindow
  simp [hw, hd, hregion]

/-- Settles O31. -/
theorem remoteAccesses : Obligations.RemoteAccesses := by
  refine ⟨fun s k a n d o i x b ha hk hn hw hal hown hhold hdata => ?load, fun s k a b d o ha hk hb hw hal hown hp hinc hmay => ?store,
    fun s k a n m v d o i x b ha hk hn hm hw hal hown hhold hdata => ?amo,
    fun s f g ha hloc hf hown hd hg hfetch hmatch hbusy => ?cpl, fun s n b g ha hd hg hb hlast hp => ?resend,
    fun s n b g ha hd hg hfetch hb hlast => ?timeout, fun s k x ha hx hdata hsince => ?hold, fun s k x ha hx htouch => ?stream⟩
  case load =>
    refine ⟨_, congrArg Host.Outcome.next ((if_neg (by simp; omega)).trans (if_pos (by simp [ha, hk, hn]))), ?_⟩
    have hread : remoteRead s k d o n = (some (0, b), setHold s i none) := by
      unfold remoteRead
      rw [hhold]
      dsimp only
      rw [hdata]
    rw [hw]
    dsimp only
    rw [if_neg (by omega), if_neg (by simp [hostField_of_window hw hown]), if_neg (by simp [hown]), hread]
    exact ⟨rfl, holdAt_setHold s i none⟩
  case store =>
    refine ⟨_, congrArg Host.Outcome.next ((if_neg (by simp; omega)).trans (if_pos (by
      rcases hb with hb | hb <;> simp [ha, hk, hb, coreSize]))), ?_⟩
    rw [hw]
    dsimp only
    rw [if_neg (by omega), if_neg (by omega), if_neg (by simp [hostField_of_window hw hown]), if_neg (by simp [hown])]
    obtain ⟨n, t, htake, hcount⟩ := takeTag_issues (s := s) (g := newReq k d (writeOp b.length o) o (b.length / 4 - 1) b) rfl hinc hmay
    unfold remoteWrite
    rw [if_neg (by simp [hp]), htake]
    exact hcount
  case amo =>
    refine ⟨_, congrArg Host.Outcome.next (if_pos (by rcases hn with hn | hn <;> simp [ha, hk, hn])), ?_⟩
    rw [hw]
    dsimp only
    rw [if_neg (by omega), if_neg (by omega), if_neg (by simp [hostField_of_window hw hown]), if_neg (by simp [hown]), hhold]
    dsimp only
    rw [hdata]
    exact ⟨rfl, holdAt_setHold s i none⟩
  case cpl =>
    obtain ⟨htyp, hcls⟩ := hf
    obtain ⟨hdst, hord, hfirst⟩ := hmatch
    refine ⟨_, congrArg Host.Outcome.next (if_pos (by simp [ha, hloc, htyp, hcls, hown])), ?_⟩
    generalize hv : (if s.halo.incs.at 0 f.src = 0 then _ else s) = v
    have htxn : v.txn = s.txn := by
      rw [← hv]
      split <;> rfl
    have hg' : tagAt v (bitsOf f.w3 23 9) = some g := by rw [tagAt, htxn]; exact hg
    dsimp only
    rw [hg']
    dsimp only
    rw [if_neg (by simp [hdst, hord, hfirst]), if_neg hbusy]
    exact (completeTag_free hg' hfetch _ _ (by rw [htxn, hd])).1
  case resend =>
    refine ⟨_, congrArg Host.Outcome.next (if_pos ha), ?_⟩
    have hsend : txnResend s n = sendTag s n := by
      unfold txnResend
      rw [hg]
      dsimp only
      rw [hb]
      exact (if_neg (by omega)).trans (if_neg (by simp [hp]))
    obtain ⟨htxn, hcount⟩ := sendTag_again hg hb
    rw [hsend, xferPump_idle fun c => by rw [descsOf, htxn]; exact congrArg (·.at [] c) hd]
    exact ⟨(congrArg (·.tags.at none n) htxn).trans (tagAt_setTag ..), hcount⟩
  case timeout =>
    refine ⟨_, congrArg Host.Outcome.next (if_pos ha), ?_⟩
    have hend : txnExpire s n = completeTag s n TS.timeout [] := by
      unfold txnExpire
      rw [hg]
      dsimp only
      rw [hb]
      exact if_neg (by omega)
    obtain ⟨hfree, hcount⟩ := completeTag_free hg hfetch TS.timeout [] hd
    rw [hend]
    exact ⟨hfree, hcount rfl⟩
  case hold =>
    refine ⟨_, congrArg Host.Outcome.next (if_pos ha), ?_⟩
    obtain ⟨⟨b, st⟩, hb⟩ := Option.ne_none_iff_exists'.mp hdata
    unfold holdRelease
    rw [hx]
    dsimp only
    rw [hb]
    dsimp only
    rw [if_neg (by omega)]
    split
    · rw [holdAt, orphan_slots]
      exact holdAt_setHold ..
    · exact holdAt_setHold ..
  case stream =>
    refine ⟨_, congrArg Host.Outcome.next (if_pos ha), ?_⟩
    unfold streamRelease
    rw [show s.txn.streams.at none k = some x from hx]
    dsimp only
    rw [if_neg (by omega)]
    exact Tbl.at_put_same (heldBack s x.held).txn.streams none k none

end Sys2Proof.Machine
end

section
/-!
SUPPORT. What a frame that a local producer offers, and an item that enters a queue, leave as it is.
-/

namespace Sys2Proof.Machine

/-- What is frozen stays frozen, with its trigger, its scope and its read-out. -/
structure Still (s t : State) : Prop where
  st : s.st = NS.eclipse → t.st = NS.eclipse
  ecl : s.st = NS.eclipse → t.ecl = s.ecl

theorem Still.refl (s : State) : Still s s := ⟨id, fun _ => rfl⟩

theorem Still.trans {s t u : State} (h : Still s t) (k : Still t u) : Still s u :=
  ⟨fun e => k.st (h.st e), fun e => (k.ecl (h.st e)).trans (h.ecl e)⟩

theorem Still.of_keeps {m : Nat} {s t : State} (h : Keeps m s t) (hm : (m.testBit 36 || m.testBit 41) = false) : Still s t := by
  rw [Bool.or_eq_false_iff] at hm
  exact ⟨fun e => (h.rd P.node F.NODE_NODE_STATE_STATE hm.2).trans e, fun _ => h.ecl hm.1⟩

theorem Still.ite {s t u : State} {c : Prop} [Decidable c] (h : Still s t) (k : Still s u) : Still s (if c then t else u) := by
  split
  · exact h
  · exact k

theorem Still.each {s t : State} {n : Nat} {f : State → Nat → State} (hf : ∀ t a, Still t (f t a)) (h : Still s t) : Still s (t.each n f) := by
  unfold State.each
  induction List.range n generalizing t with
  | nil => exact h
  | cons a r ih => exact ih (h.trans (hf t a))

/-- In ECLIPSE the router is frozen: an event sets its bit and does no more (R525). -/
theorem raise_still (s : State) (p k : Nat) : Still s (raise s p k) := by
  have hev : Still s (evOnly s p k) := .of_keeps (evOnly_keeps ..) rfl
  unfold raise
  dsimp only
  split
  · have hrise : ∀ (t : State) src, Still t (rise 40 t src) := fun t src => by
      have : t.st = NS.eclipse → rise 40 t src = t := fun e => if_pos e
      exact ⟨fun e => (this e).symm ▸ e, fun e => by rw [this e]⟩
    exact hev.trans (hrise ..)
  · exact hev

theorem alert_still (s : State) (p k : Nat) : Still s (alert s p k) :=
  .ite (.refl s) (.trans (.of_keeps (State.setBit_keeps 48 group_swport ..) rfl) (raise_still ..))

theorem poolMonitor_still (s : State) (b : Nat) : Still s (poolMonitor s b) := by
  have hmax : Still s (s.maxr P.pool F.CELLPOOL_USED_MAX_CELLS s.sw.used) := .of_keeps (State.maxr_keeps 49 group_pool ..) rfl
  refine .trans (.each (fun t k => ?_) (hmax.trans (.of_keeps (sharedMin_keeps ..) rfl))) (.ite (raise_still ..) (.refl _))
  exact .ite (.trans (.of_keeps (State.setBit_keeps 49 group_pool ..) rfl) (raise_still ..)) (.refl t)

theorem enqueue_still (s : State) (q id : Nat) (f : Frame) (k : Nat) (r c : Bool) (i n : Nat) : Still s (enqueue s q id f k r c i n) := by
  unfold enqueue chargeCells
  dsimp only
  refine Still.trans ?_ (.of_keeps (setSwQueue_keeps ..) rfl)
  refine Still.trans (.trans ?_ (poolMonitor_still ..)) (.of_keeps (Keeps.put_sw ..) rfl)
  exact .of_keeps (Keeps.put_sw ..) rfl

/-- Frames have moved, and node control, the field die, CAN and the UARTs are as they were, but for what a freeze does. -/
structure Offered (s t : State) : Prop where
  moved : Moved s t
  quiet : Quiet s t
  still : Still s t

theorem Offered.trans {s t u : State} (h : Offered s t) (k : Offered t u) : Offered s u :=
  ⟨h.moved.trans k.moved, h.quiet.trans k.quiet, h.still.trans k.still⟩

theorem Offered.refl (s : State) : Offered s s := ⟨.refl s, .refl s, .refl s⟩

theorem Offered.of_keeps {m : Nat} {s t : State} (h : Keeps m s t) (hr : m.testBit 1 = false) (hm : subMask m quietMask = true)
    (he : (m.testBit 36 || m.testBit 41) = false) : Offered s t := ⟨.of_keeps h hr, .of_keeps h hm, .of_keeps h he⟩

theorem Offered.ite {s t u : State} {c : Prop} [Decidable c] (h : Offered s t) (k : Offered s u) : Offered s (if c then t else u) := by
  split
  · exact h
  · exact k

theorem Offered.ite_snd {α : Type} {s : State} {a b : α × State} {c : Prop} [Decidable c] (h : Offered s a.2) (k : Offered s b.2) :
    Offered s (if c then a else b).2 := by
  split
  · exact h
  · exact k

theorem Offered.foldl {α : Type} {s t : State} {f : State → α → State} (hf : ∀ t a, Offered t (f t a)) (l : List α) (h : Offered s t) :
    Offered s (l.foldl f t) := by
  induction l generalizing t with
  | nil => exact h
  | cons a r ih => exact ih (h.trans (hf t a))

/-- As `Offered.foldl` for a fold that collects something with the state. -/
theorem Offered.foldl_snd {α β : Type} {s : State} {f : β × State → α → β × State} (hf : ∀ a x, Offered a.2 (f a x).2) (l : List α)
    {a : β × State} (h : Offered s a.2) : Offered s (l.foldl f a).2 := by
  induction l generalizing a with
  | nil => exact h
  | cons x r ih => exact ih (h.trans (hf a x))

theorem raise_offered (s : State) (p k : Nat) : Offered s (raise s p k) := ⟨raise_moved .., raise_quiet .., raise_still ..⟩

/-! ## Offers (R153 to R161) -/

theorem alert_quiet (s : State) (p k : Nat) : Quiet s (alert s p k) :=
  .ite (.refl s) (((Quiet.refl s).wr ..).trans (raise_quiet ..))

theorem enqueue_offered (s : State) (q id : Nat) (f : Frame) (k : Nat) (r c : Bool) (i n : Nat) : Offered s (enqueue s q id f k r c i n) := by
  refine ⟨enqueue_moved .., ?_, enqueue_still ..⟩
  unfold enqueue
  dsimp only
  refine Quiet.step ?_ (setSwQueue_keeps ..) rfl
  exact (chargeCells_quiet s q k (if (s.sw.store.at (0, 0) id).1 = 0 then k else 0)).step (Keeps.put_sw ..) rfl

theorem noteRefusal_offered (s : State) (r : Nat) : Offered s (noteRefusal s r) := ⟨noteRefusal_moved .., .of_keeps (noteRefusal_keeps ..) rfl, .of_keeps (noteRefusal_keeps ..) rfl⟩

theorem admitOne_offered (s : State) (p id : Nat) (f : Frame) (r c : Bool) (i : Nat) : Offered s (admitOne s p id f r c i).2 := by
  unfold admitOne
  dsimp only
  split
  · exact .refl s
  · split
    · exact enqueue_offered ..
    · exact noteRefusal_offered ..

theorem dropAt_offered (s : State) (p c : Nat) : Offered s (dropAt s p c) :=
  ⟨dropAt_moved .., ((Quiet.refl s).wr ..).trans (alert_quiet ..),
    .trans (.of_keeps (State.inc_keeps 48 group_swport ..) rfl) (alert_still ..)⟩

theorem tryOriginate_offered (s : State) (o : Offer) : Offered s (tryOriginate s o).2 := by
  have hnew : Offered s (newId s).2 := .of_keeps (newId_keeps s) rfl rfl rfl
  have hnext : ∀ t k g, Offered t (haloSeqNext t k g) := fun t k g => .of_keeps (haloSeqNext_keeps ..) rfl rfl rfl
  have hdrop : ∀ (l : List (Nat × Nat)) c, Offered s (l.foldl (fun u x => dropAt u x.1 c) (newId s).2) := fun l c =>
    .foldl (fun _ _ => dropAt_offered ..) _ hnew
  have hput : ∀ (l : List (Nat × Nat)) (u : State) i (g : Nat × Nat → Frame) n, Offered s u →
      Offered s (l.foldl (fun u c => putOne u c.1 i (g c) true false n) u) := fun _ _ _ _ _ h => .foldl (fun _ _ => enqueue_offered ..) _ h
  unfold tryOriginate
  dsimp only
  refine .ite_snd (.refl s) (.ite_snd (.refl s) (.ite_snd (.refl s) (.ite_snd (.ite_snd ?_ ?_) ?_)))
  · have hstamp : ∀ {u : State} (x : Option Nat), Offered s u → Offered s (match x with
        | some x => stampEntry u (newId s).1 x
        | none => u) := fun x hu => by
      cases x with
      | none => exact hu
      | some x => exact hu.trans (.of_keeps (stampEntry_keeps ..) rfl rfl rfl)
    exact .ite ((hstamp _ (hput _ _ _ _ _ (hdrop ..))).trans (hnext ..)) (hstamp _ (hput _ _ _ _ _ (hdrop ..)))
  · exact .ite (.refl s) ⟨noteRefusals_moved .., .of_keeps (noteRefusals_keeps ..) rfl, .of_keeps (noteRefusals_keeps ..) rfl⟩
  · refine Offered.ite (.trans ?_ (hnext ..)) ?_ <;>
    · refine .foldl_snd (fun a c => ?_) _ hnew
      exact .ite_snd (admitOne_offered ..) ((admitOne_offered ..).trans (dropAt_offered ..))

theorem offerWaits_offered (s : State) (o : Offer) : Offered s (offerWaits s o).2 := by
  unfold offerWaits
  split
  · exact ⟨(Moved.refl s).wr _ _ _ (swKey_swport _ _ _ (by decide)), (Quiet.refl s).wr ..,
      .of_keeps (State.inc_keeps 48 group_swport ..) rfl⟩
  · exact .refl s

theorem offerTry_offered (s : State) (o : Offer) : Offered s (offerTry s o).2.2 := by
  unfold offerTry
  dsimp only
  split
  · exact offerWaits_offered ..
  · split
    · exact tryOriginate_offered ..
    · exact (tryOriginate_offered ..).trans (offerWaits_offered ..)

theorem originateOn_offered (s : State) (k : Bool) (p : Nat) (f : Frame) (re rw : Nat) (x : Option Nat) :
    Offered s (originateOn s k p f re rw x) := by
  unfold originateOn
  dsimp only
  exact .ite (offerTry_offered ..) ((offerTry_offered ..).trans (.of_keeps (Keeps.put_sw ..) rfl rfl rfl))

theorem originate_offered (s : State) (p : Nat) (f : Frame) (re rw : Nat) : Offered s (originate s p f re rw) := by
  unfold originate
  dsimp only
  exact .ite (.ite ((originateOn_offered ..).trans (originateOn_offered ..)) (originateOn_offered ..)) (originateOn_offered ..)

theorem metered_offered (s : State) (p c b t : Nat) : Offered s (metered s p c b t).2 := by
  have hset : ∀ v, Offered s (setMeter s p c t v) := fun v => .of_keeps (Keeps.put_sw ..) rfl rfl rfl
  unfold metered
  dsimp only
  split
  · split
    · exact hset _
    · refine .trans (hset (meterCredit s p c t)) ?_
      refine ⟨.trans ((Moved.refl _).wr _ _ _ (swKey_swport _ _ _ ?_)) (alert_moved ..), ((Quiet.refl _).wr ..).trans (alert_quiet ..),
        .trans (.of_keeps (State.inc_keeps 48 group_swport ..) rfl) (alert_still ..)⟩
      simp [F.SWPORT_METER_DROP_N]
      omega
  · exact .refl s

/-! ## Items (R156, R242) -/

theorem qRefuse_quiet (s : State) (q : Nat) : Quiet s (qRefuse s q) := .ite ((Quiet.refl s).wr ..) (.refl s)

/-- An item that arrives at a queue. -/
theorem qAdmit_queue (s : State) (q prio src tag info : Nat) (d : Bool) (head data : List Nat) (ses : Bool) :
    RegsKeep queueKey s (qAdmit s q prio src tag info d head data ses).2 ∧ Quiet s (qAdmit s q prio src tag info d head data ses).2 := by
  have hrecycle : ∀ c : Bool, Moved s (if c then recycleFor s q (itemCells head.length data.length) else (s, 0)).1 ∧
      Quiet s (if c then recycleFor s q (itemCells head.length data.length) else (s, 0)).1 := fun c => by
    split
    · exact ⟨recycleFor_moved .., recycleFor_quiet ..⟩
    · exact ⟨.refl s, .refl s⟩
  unfold qAdmit
  dsimp only
  split
  · exact ⟨.refl .., .refl s⟩
  · generalize ha : (if (s.on (P.queue q) (F.QUEUE_Q_CFG_OVERWRITE (q % 16)) && decide (itemCells head.length data.length ≤ qMax s q)) = true then
        recycleFor s q (itemCells head.length data.length) else (s, 0)) = a
    obtain ⟨hm, hq⟩ := ha ▸ hrecycle _
    split
    · have hinc : RegsKeep queueKey s (a.1.inc (P.queue q) (F.QUEUE_Q_RECYCLED_N (q % 16)) a.2) := hm.queue.inc _ (queueKey_queue ..)
      refine ⟨?_, ?_⟩
      · refine RegsKeep.trans (t := { a.1.inc (P.queue q) (F.QUEUE_Q_RECYCLED_N (q % 16)) a.2 with ses := _ }) (hinc.trans ?_)
          (setQueueSt_moved ..).queue
        exact .of_eq rfl
      · exact (((hq.wr ..).step (Keeps.put_ses ..) rfl)).trans (setQueueSt_quiet ..)
    · exact ⟨(noteRefusal_moved ..).queue.trans (qRefuse_queue ..), (noteRefusal_offered ..).quiet.trans (qRefuse_quiet ..)⟩

end Sys2Proof.Machine
end

section
/-!
PROOF. Mailbox commands of a CAN channel, and its attempts to send.
-/

namespace Sys2Proof.Machine

/-! ## A write that stores a register's fields -/

/-- Only the register at `off` of `page` changes. -/
structure Stored (page off : Nat) (s t : State) : Prop where
  same : t = { s with regs := t.regs }
  regs : RegsKeep (fun k => k.page == page && k.off == off) s t

theorem Stored.refl (page off : Nat) (s : State) : Stored page off s s := ⟨rfl, .refl _ s⟩

theorem Stored.trans {page off : Nat} {s t u : State} (h : Stored page off s t) (k : Stored page off t u) : Stored page off s u := by
  refine ⟨?_, h.regs.trans k.regs⟩
  rw [k.same, h.same]

theorem Stored.rd {page off : Nat} {s t : State} (h : Stored page off s t) (p : Nat) (f : Fld) (hf : p ≠ page ∨ f.off ≠ off) :
    t.rd p f = s.rd p f := h.regs.rd _ _ (by rcases hf with hf | hf <;> simp [hf])

theorem storeField_stored (s : State) (who : By) {page : Nat} {f : Fld} (word : Nat) (hf : f.acc ≠ .rws) :
    Stored page f.off s (storeField s who page f word) := by
  have hwri : ∀ i v, Stored page f.off s (s.wri page f i v) := fun i v => ⟨rfl, (RegsKeep.refl _ s).wri _ (by simp)⟩
  unfold storeField
  dsimp only
  split
  · exact .refl ..
  · split
    · exact hwri ..
    · contradiction
    · exact hwri ..
    · split
      · exact hwri ..
      · exact .refl ..
    all_goals exact .refl ..

/-- An accepted write to a plain register that nothing stages: the block acts on a state in which that register alone has changed. -/
theorem MayWrite.stored {s : State} {who : By} {page off : Nat} (h : MayWrite s who page off) (word : Nat)
    (hp : plainReg page off = true) (ho : off ≠ 0x038)
    (hf : ((regFields page off).all fun f => f.acc != .rws && f.off == off) = true) :
    ∃ u, Stored page off (dropArms s page) u ∧ busStore s who page off word = writeEffect (dropArms s page) u who page off word := by
  refine ⟨_, ?_, h.plain word hp ho⟩
  have : ∀ (l : List Fld) (t : State), (l.all fun f => f.acc != .rws && f.off == off) = true → Stored page off (dropArms s page) t →
      Stored page off (dropArms s page) (l.foldl (fun t f => storeField t who page f word) t) := by
    intro l
    induction l with
    | nil => exact fun _ _ h => h
    | cons f r ih =>
      intro t hl ht
      simp only [List.all_cons, Bool.and_eq_true, bne_iff_ne, ne_eq, beq_iff_eq] at hl
      obtain ⟨⟨hacc, hoff⟩, hr⟩ := hl
      exact ih _ hr (ht.trans (hoff ▸ storeField_stored t who word hacc))
  exact this _ _ hf (.refl ..)

/-! ## Mailbox commands (R383) -/

theorem mb_register : ∀ c < 8, ∀ o ∈ [0x100, 0x104], plainReg (P.can c) o = true ∧
    ((regFields (P.can c) o).all fun f => f.acc != .rws && f.off == o) = true ∧ pageType (P.can c) = some .can := by decide +kernel

theorem mbCancel_register : ∀ c < 8, triggerReg (P.can c) 0x080 = true ∧ ((regFields (P.can c) 0x080).all (noCondition (P.can c))) = true ∧
    pageType (P.can c) = some .can := by decide +kernel

theorem mbCtrl_fields : ∀ c < 8, regFields (P.can c) 0x104 = [F.CAN_MB_CTRL_CMD, F.CAN_MB_CTRL_RETRY_MAX, F.CAN_MB_CTRL_RETRY_ARB,
    F.CAN_MB_CTRL_SCHED, F.CAN_MB_CTRL_WIN_ABORT, F.CAN_MB_CTRL_FB, F.CAN_MB_CTRL_IRQ, F.CAN_MB_CTRL_TXC] := by decide +kernel

/-! ## A channel's record -/

@[simp] theorem can_setCan (s : State) (c : Nat) (x : CanSt) : can (setCan s c x) c = x := Tbl.at_put_same s.can {} c x

@[simp] theorem mbox_setMbox (s : State) (c m : Nat) (x : Mailbox) : mbox (setMbox s c m x) c m = x := by
  unfold mbox setMbox
  rw [can_setCan]
  exact Tbl.at_put_same (can s c).mbs {} m x

theorem mbox_setMbox_ne (s : State) (c : Nat) {m k : Nat} (h : k ≠ m) (x : Mailbox) : mbox (setMbox s c m x) c k = mbox s c k := by
  unfold mbox setMbox
  rw [can_setCan]
  exact Tbl.at_put_ne (can s c).mbs {} h x

theorem mbox_of_can {s t : State} {c : Nat} (h : (can t c).mbs = (can s c).mbs) (m : Nat) : mbox t c m = mbox s c m :=
  congrArg (·.at {} m) h

theorem Quiet.mbox {s t : State} (h : Quiet s t) (c m : Nat) : Machine.mbox t c m = Machine.mbox s c m :=
  mbox_of_can (by rw [(h.can c).1]) m

/-- An attempt that is none stays none. -/
theorem Quiet.att_none {s t : State} (h : Quiet s t) {c : Nat} (hc : (Machine.can s c).att = none) : (Machine.can t c).att = none :=
  (h.can c).2.elim (fun e => e.trans hc) id

/-! ## Registers of a channel -/

/-- What queues and events change, and the registers of the CAN channels at `l`. -/
def canKey (l : List Nat) (k : Key) : Bool := queueKey k || (decide (0x0B0 ≤ k.page ∧ k.page < 0x0B8) && l.contains k.off)

theorem queue_canKey {l : List Nat} {s t : State} (h : RegsKeep queueKey s t) : RegsKeep (canKey l) s t :=
  h.mono fun _ hk => (Bool.or_eq_false_iff.mp hk).1

theorem can_page (c : Nat) : 0x0B0 ≤ P.can c ∧ P.can c < 0x0B8 := by unfold P.can; omega

theorem canKey_wr {l : List Nat} {s t : State} (h : RegsKeep (canKey l) s t) (c : Nat) {f : Fld} (v : Nat) (hf : l.contains f.off = true) :
    RegsKeep (canKey l) s (t.wr (P.can c) f v) := h.wr v (by
  simp only [canKey, hf, can_page c, and_self, decide_true, Bool.and_self, Bool.or_true])

/-- A field of a channel that no event changes and that is not at `l`. -/
def canStays (l : List Nat) (f : Fld) : Bool := !l.contains f.off && f.off != 0x010 && !(f.off == 0x078 && f.lsb == 30)

theorem cn_kept {l : List Nat} {s t : State} (h : RegsKeep (canKey l) s t) (c : Nat) {f : Fld} (hf : canStays l f = true) :
    t.cn c f = s.cn c f := h.rd _ _ (by
  have hp := can_page c
  simp only [canStays, Bool.and_eq_true, Bool.not_eq_true', bne_iff_ne, ne_eq, Bool.and_eq_false_iff, beq_eq_false_iff_ne] at hf
  obtain ⟨⟨h1, h2⟩, h3⟩ := hf
  simp only [canKey, queueKey, swKey, evKey, h1, Bool.and_false, Bool.or_false]
  simp [h2]
  omega)

theorem raise_canKey (l : List Nat) (s : State) (p k : Nat) : RegsKeep (canKey l) s (raise s p k) := queue_canKey (raise_moved ..).queue

/-! ## A mailbox that completes (R386) -/

/-- The state in which a mailbox has completed; then its record goes to TXC_QUEUE and its event is raised. -/
theorem canComplete_quiet (s : State) (c m r : Nat) :
    Quiet (setMbox s c m { mbox s c m with st := .complete, result := r, waitBo := false }) (canComplete s c m r) := by
  unfold canComplete
  dsimp only
  refine .trans ?_ (raiseIf_quiet ..)
  have hdone : ∀ u : State, Quiet u (u.setBit (P.can c) F.CAN_MB_DONE_M m true) := fun u => (Quiet.refl u).wr ..
  split
  · split
    · exact (hdone _).trans (qAdmit_queue ..).2
    · exact ((hdone _).trans (qAdmit_queue ..).2).wr ..
  · exact hdone _

theorem canComplete_regs (s : State) (c m r : Nat) : RegsKeep (canKey [0x084, 0x0EC]) s (canComplete s c m r) := by
  unfold canComplete
  dsimp only
  have hdone : ∀ x, RegsKeep (canKey [0x084, 0x0EC]) s ((setMbox s c m x).setBit (P.can c) F.CAN_MB_DONE_M m true) := fun x =>
    canKey_wr (s := s) (t := setMbox s c m x) (.of_eq rfl) c _ rfl
  refine .trans ?_ (.ite (fun _ => raise_canKey ..) fun _ => .refl ..)
  split
  · split
    · exact (hdone _).trans (queue_canKey (qAdmit_queue ..).1)
    · exact canKey_wr ((hdone _).trans (queue_canKey (qAdmit_queue ..).1)) c _ rfl
  · exact hdone _

theorem canComplete_mbox (s : State) (c m r : Nat) :
    mbox (canComplete s c m r) c m = { mbox s c m with st := .complete, result := r, waitBo := false } := by
  rw [(canComplete_quiet s c m r).mbox, mbox_setMbox]

theorem canComplete_others (s : State) (c : Nat) {m k : Nat} (h : k ≠ m) (r : Nat) : mbox (canComplete s c m r) c k = mbox s c k := by
  rw [(canComplete_quiet s c m r).mbox, mbox_setMbox_ne _ _ h]

theorem canComplete_att {s : State} {c : Nat} (m r : Nat) (h : (can s c).att = none) : (can (canComplete s c m r) c).att = none :=
  (canComplete_quiet s c m r).att_none (by rw [setMbox, can_setCan]; exact h)

/-- The end of an attempt. -/
theorem canEnd_shows (s : State) (c : Nat) : (can (canEnd s c) c).att = none ∧ (∀ m, mbox (canEnd s c) c m = mbox s c m) ∧
    RegsKeep (canKey [0x078, 0x00C]) s (canEnd s c) := by
  have hend : ∀ x : CanSt, x.att = none → x.mbs = (can s c).mbs → let u := (setCan s c x).wr (P.can c) F.CAN_STATUS_TX_ACTIVE 0
      (can (canRest u c) c).att = none ∧ (∀ m, mbox (canRest u c) c m = mbox s c m) ∧ RegsKeep (canKey [0x078, 0x00C]) s (canRest u c) :=
      fun x h1 h2 => by
    have hcan : can ((setCan s c x).wr (P.can c) F.CAN_STATUS_TX_ACTIVE 0) c = x := can_setCan s c x
    have hregs : RegsKeep (canKey [0x078, 0x00C]) s ((setCan s c x).wr (P.can c) F.CAN_STATUS_TX_ACTIVE 0) :=
      canKey_wr (s := s) (t := setCan s c x) (.of_eq rfl) c _ rfl
    unfold canRest
    dsimp only
    split
    · exact ⟨(congrArg CanSt.att hcan).trans h1, fun m => mbox_of_can ((congrArg CanSt.mbs hcan).trans h2) m, canKey_wr hregs c _ rfl⟩
    · exact ⟨(congrArg CanSt.att hcan).trans h1, fun m => mbox_of_can ((congrArg CanSt.mbs hcan).trans h2) m, hregs⟩
  exact hend { can s c with att := none, item := none, cancel := false } rfl rfl

/-! ## Attempts (R388) -/

theorem setMbox_att (s : State) (c m : Nat) (x : Mailbox) : (can (setMbox s c m x) c).att = (can s c).att := by
  rw [setMbox, can_setCan]

theorem canEnd_att (s : State) (c : Nat) : (can (canEnd s c) c).att = none := (canEnd_shows s c).1

theorem canKey_mono {l k : List Nat} {s t : State} (h : RegsKeep (canKey l) s t) (hl : l.all k.contains = true) : RegsKeep (canKey k) s t :=
  h.mono fun x hx => by
    simp only [canKey, Bool.or_eq_false_iff] at hx ⊢
    refine ⟨hx.1, Bool.eq_false_iff.mpr fun h => ?_⟩
    obtain ⟨hp, hx'⟩ := Bool.and_eq_true_iff.mp h
    rw [hp, List.all_eq_true.mp hl _ (List.contains_iff_mem.mp hx')] at hx
    exact absurd hx.2 (by decide)

/-- What a failed attempt writes. -/
def failOffs : List Nat := [0x078, 0x00C, 0x084, 0x0EC, 0x0F8]

theorem canEnd_regs (s : State) (c : Nat) : RegsKeep (canKey failOffs) s (canEnd s c) := canKey_mono (canEnd_shows s c).2.2 rfl

theorem tunDrop_regs (s : State) (c : Nat) (x : QItem) : RegsKeep (canKey failOffs) s (tunDrop s c x) :=
  .trans (queue_canKey (setQueueSt_moved ..).queue) (.of_eq rfl)

theorem tunDrop_att {s : State} {c : Nat} (x : QItem) (h : (can s c).att = none) : (can (tunDrop s c x) c).att = none :=
  (congrArg CanSt.att (can_setCan ..)).trans ((setQueueSt_quiet ..).att_none h)

/-- A failed attempt ends. -/
theorem canFail_ends (s : State) (c : Nat) (n : Bool → Bool) : (can (canFail s c n) c).att = none := by
  have hite : ∀ {q : Prop} [Decidable q] {t u : State}, (can t c).att = none → (can u c).att = none → (can (if q then t else u) c).att = none :=
    fun h k => by split <;> assumption
  have hinc : ∀ u, (can u c).att = none → (can (u.inc (P.can c) F.CAN_CNT_TUN_FAIL_N) c).att = none := fun _ h => h
  unfold canFail
  split
  · dsimp only
    exact hite (canEnd_att _ c) (hite (canEnd_att _ c) (canEnd_att _ c))
  · split
    · exact canEnd_att ..
    · dsimp only
      exact hite (hinc _ (tunDrop_att _ (canEnd_att s c))) ((congrArg CanSt.att (can_setCan ..)).trans (canEnd_att s c))
  · assumption

theorem canFail_regs (s : State) (c : Nat) (n : Bool → Bool) : RegsKeep (canKey failOffs) s (canFail s c n) := by
  have hcomplete : ∀ m x r, RegsKeep (canKey failOffs) s (canEnd (canComplete (setMbox s c m x) c m r) c) := fun m x r =>
    .trans (.trans (t := setMbox s c m x) (.of_eq rfl) (canKey_mono (canComplete_regs ..) rfl)) (canEnd_regs ..)
  unfold canFail
  split
  · refine .ite (fun _ => hcomplete ..) fun _ => .ite (fun _ => hcomplete ..) fun _ => .trans ?_ (canEnd_regs ..)
    exact .of_eq rfl
  · split
    · exact canEnd_regs ..
    · refine .ite (fun _ => ?_) fun _ => (canEnd_regs s c).trans (.of_eq rfl)
      exact canKey_wr ((canEnd_regs s c).trans (tunDrop_regs ..)) c _ rfl
  · exact .refl ..

/-! ## The error state, reception (R389, R398) -/

/-- Of the channels' records nothing but what a freeze changes, and the registers at `l`. -/
structure CanStep (l : List Nat) (s t : State) : Prop where
  quiet : Quiet s t
  regs : RegsKeep (canKey l) s t

theorem CanStep.refl (l : List Nat) (s : State) : CanStep l s s := ⟨.refl s, .refl _ s⟩

theorem CanStep.trans {l : List Nat} {s t u : State} (h : CanStep l s t) (k : CanStep l t u) : CanStep l s u :=
  ⟨h.quiet.trans k.quiet, h.regs.trans k.regs⟩

theorem CanStep.ite {l : List Nat} {s t u : State} {c : Prop} [Decidable c] (h : CanStep l s t) (k : CanStep l s u) :
    CanStep l s (if c then t else u) := by
  split
  · exact h
  · exact k

theorem CanStep.wr {l : List Nat} {s t : State} (h : CanStep l s t) (c : Nat) (f : Fld) (v : Nat) (hf : l.contains f.off = true) :
    CanStep l s (t.wr (P.can c) f v) := ⟨h.quiet.wr .., canKey_wr h.regs c v hf⟩

theorem Offered.canStep {l : List Nat} {s t : State} (h : Offered s t) : CanStep l s t := ⟨h.quiet, queue_canKey h.moved.queue⟩

theorem raise_canStep (l : List Nat) (s : State) (p k : Nat) : CanStep l s (raise s p k) := (raise_offered ..).canStep

theorem qAdmit_canStep (l : List Nat) (s : State) (q a b c d : Nat) (e : Bool) (h x : List Nat) (y : Bool) :
    CanStep l s (qAdmit s q a b c d e h x y).2 := ⟨(qAdmit_queue ..).2, queue_canKey (qAdmit_queue ..).1⟩

theorem setCanErr_step (s : State) (c v : Nat) : CanStep [0x05C] s (setCanErr s c v) :=
  .ite (.refl _ s) (((CanStep.refl _ s).wr c _ _ rfl).trans (raise_canStep ..))

theorem canJudgeErr_step (s : State) (c : Nat) : CanStep [0x05C] s (canJudgeErr s c) :=
  .ite (.refl _ s) (setCanErr_step ..)

/-- The counters of reception. -/
def receiveOffs : List Nat := [0x0C4, 0x0D0, 0x0D4, 0x0F0, 0x0FC]

theorem canStore_step (s : State) (c n : Nat) (f : MbFrame) (esi self : Bool) (flt x : Nat) :
    CanStep receiveOffs s (canStore s c n f esi self flt x) := by
  unfold canStore
  dsimp only
  exact .ite ((qAdmit_canStep ..).wr c _ _ rfl) (((qAdmit_canStep ..).wr c _ _ rfl).trans (raise_canStep ..))

theorem canTunnel_step (s : State) (c r : Nat) (f : MbFrame) (esi : Bool) (x : Nat) :
    CanStep receiveOffs s (canTunnel s c r f esi x) := by
  unfold canTunnel
  refine .ite (.refl _ s) (.ite ((CanStep.refl _ s).wr c _ _ rfl) ?_)
  dsimp only
  split
  · exact (metered_offered ..).canStep
  · exact ((metered_offered ..).canStep.wr c _ _ rfl).trans (originate_offered ..).canStep

theorem canReceive_step (s : State) (c : Nat) (f : MbFrame) (esi self : Bool) (x : Nat) :
    CanStep receiveOffs s (canReceive s c f esi self x) := by
  unfold canReceive
  split
  next k _ =>
    have hstore : CanStep receiveOffs s (if s.cn c (F.CAN_FLT_ACT_STORE k) = 1 then
        canStore s c (s.cn c (F.CAN_FLT_ACT_RXQ k)) f esi self k x else s) := .ite (canStore_step ..) (.refl _ s)
    dsimp only
    exact .ite (hstore.trans (canTunnel_step ..)) hstore
  next => exact .ite ((CanStep.refl _ s).wr c _ _ rfl) (((CanStep.refl _ s).wr c _ _ rfl).trans (canStore_step ..))

/-! ## The mailbox in MB_SEL -/

theorem canSel_shows (s : State) (c m : Nat) : (canSel s c m).cn c F.CAN_MB_SEL_MBOX = s.cn c F.CAN_MB_SEL_MBOX ∧
    (canSel s c m).cn c F.CAN_MB_STAT_STATE = (mbox s c m).st.code := by
  have hdata : ∀ (u : State) (f : Fld) (b : Nat → Nat), f.off < 0x140 → (u.each 16 fun t k => t.wr (P.can c) (F.CAN_MB_DATA_DATA k) (b k)).cn c f = u.cn c f :=
    fun u f b hf => foldl_part (fun t => t.cn c f) (fun t k => rd_wr_beside _ _ _ (by simp [F.CAN_MB_DATA_DATA]; omega)) _ _
  unfold canSel
  dsimp only
  rw [hdata _ _ _ (by decide), hdata _ _ _ (by decide)]
  simp only [List.foldl_cons, List.foldl_nil, State.cn]
  simp (disch := decide) only [rd_wr_beside, rd_wr_same]
  refine ⟨trivial, ?_⟩
  cases (mbox s c m).st <;> rfl

/-- An accepted write of MB_CTRL keeps everything but that register; then the command runs. -/
theorem MayWrite.mbCmd {s : State} {who : By} {c cmd : Nat} (h : MayWrite s who (P.can (c % 8)) 0x104) (hcmd : cmd < 16) :
    ∃ u, Stored (P.can (c % 8)) 0x104 (dropArms s (P.can (c % 8))) u ∧ mbCmd s c who cmd = canCmd u (c % 8) cmd := by
  have hc : c % 8 < 8 := Nat.mod_lt _ (by decide)
  obtain ⟨hplain, hfields, htype⟩ := mb_register (c % 8) hc 0x104 (by simp)
  have hword : keepWord s who (P.can (c % 8)) 0x104 [(F.CAN_MB_CTRL_CMD, cmd)] / 2 ^ 28 % 16 = cmd := by
    unfold keepWord
    rw [mbCtrl_fields _ hc]
    simp only [List.map_cons, List.map_nil, List.find?_cons, List.find?_nil]
    simp [F.CAN_MB_CTRL_CMD, F.CAN_MB_CTRL_RETRY_MAX, F.CAN_MB_CTRL_RETRY_ARB, F.CAN_MB_CTRL_SCHED, F.CAN_MB_CTRL_WIN_ABORT,
      F.CAN_MB_CTRL_FB, F.CAN_MB_CTRL_IRQ, F.CAN_MB_CTRL_TXC, mkWord, beq_eq_decide]
    omega
  obtain ⟨u, hu, he⟩ := h.stored (keepWord s who (P.can (c % 8)) 0x104 [(F.CAN_MB_CTRL_CMD, cmd)]) hplain (by decide) hfields
  refine ⟨u, hu, he.trans ?_⟩
  rw [writeEffect, if_neg (by decide), htype]
  show effCan u (P.can (c % 8) - 0x0B0) 0x104 _ = _
  rw [show P.can (c % 8) - 0x0B0 = c % 8 by unfold P.can; omega, effCan, if_neg (by decide), if_neg (by decide), if_neg (by decide),
    if_pos rfl, hword]

theorem mbSel_fields : ∀ c < 8, regFields (P.can c) 0x100 = [F.CAN_MB_SEL_MBOX] ∧ absentField (P.can c) F.CAN_MB_SEL_MBOX = false ∧
    ownStore (P.can c) F.CAN_MB_SEL_MBOX = false := by decide +kernel

theorem storeField_mbSel (s : State) (who : By) {c : Nat} (hc : c < 8) (word : Nat) :
    storeField s who (P.can c) F.CAN_MB_SEL_MBOX word = s.wr (P.can c) F.CAN_MB_SEL_MBOX (fbits word F.CAN_MB_SEL_MBOX) := by
  obtain ⟨-, habsent, hown⟩ := mbSel_fields c hc
  have hp := can_page c
  have hfixed : fixedField s (P.can c) F.CAN_MB_SEL_MBOX = false := by
    unfold fixedField
    rw [if_neg (by simp [P.switch]; omega), if_neg (by simp [P.gw]; omega), if_neg (by omega), if_neg (by simp [P.adc]; omega)]
  have hbank : bankIdx s who (P.can c) F.CAN_MB_SEL_MBOX = 0 := by
    unfold bankIdx
    rw [if_neg (by simp [P.sestx]; omega), if_neg (by simp [P.sesrx]; omega), if_neg (by simp [P.switch]; omega),
      if_neg (by simp [P.gw]; omega), if_neg (by simp [P.drift]; omega), if_neg (by omega), if_neg (by simp [P.log]; omega)]
  rw [storeField_rw rfl (by rw [habsent, hown, hfixed]; rfl), hbank, storeValue, if_neg (by omega)]
  rfl

/-- An accepted write of MB_SEL shows the mailbox. -/
theorem MayWrite.mbSel {s : State} {who : By} {c : Nat} (h : MayWrite s who (P.can (c % 8)) 0x100) (m : Nat) :
    ∃ u, u.can = s.can ∧ u.cn (c % 8) F.CAN_MB_SEL_MBOX = m % 32 ∧ busStore s who (P.can (c % 8)) 0x100 (m % 32) = canSel u (c % 8) (m % 32) := by
  have hc : c % 8 < 8 := Nat.mod_lt _ (by decide)
  obtain ⟨hplain, -, htype⟩ := mb_register (c % 8) hc 0x100 (by simp)
  have hstore := storeField_mbSel (dropArms s (P.can (c % 8))) who hc (m % 32)
  refine ⟨storeField (dropArms s (P.can (c % 8))) who (P.can (c % 8)) F.CAN_MB_SEL_MBOX (m % 32), ?_, ?_, ?_⟩
  · rw [hstore]
    rfl
  · rw [hstore]
    refine (rd_wr_same ..).trans ?_
    simp [fbits, F.CAN_MB_SEL_MBOX, bitsOf]
  · rw [h.plain _ hplain (by decide), (mbSel_fields _ hc).1, List.foldl_cons, List.foldl_nil, writeEffect, if_neg (by decide), htype]
    show effCan _ (P.can (c % 8) - 0x0B0) 0x100 _ = _
    rw [show P.can (c % 8) - 0x0B0 = c % 8 by unfold P.can; omega, effCan, if_neg (by decide), if_neg (by decide), if_pos rfl, Nat.mod_mod]

/-- An accepted write of MB_CANCEL cancels the mailboxes named. -/
theorem MayWrite.mbCancel {s : State} {who : By} {c : Nat} (h : MayWrite s who (P.can (c % 8)) 0x080) (word : Nat) :
    busStore s who (P.can (c % 8)) 0x080 word =
      (dropArms s (P.can (c % 8))).each 32 fun t m => if bitOf word m then canCancel t (c % 8) m else t := by
  have hc : c % 8 < 8 := Nat.mod_lt _ (by decide)
  obtain ⟨ht, hcond, htype⟩ := mbCancel_register (c % 8) hc
  refine h.block _ ht hcond (by decide) (.inl (by simp [P.can, P.sestx])) ?_
  rw [writeEffect, if_neg (by decide), htype]
  show effCan _ (P.can (c % 8) - 0x0B0) 0x080 _ = _
  rw [show P.can (c % 8) - 0x0B0 = c % 8 by unfold P.can; omega, effCan, if_neg (by decide), if_pos rfl]

theorem canCancel_others (s : State) (c : Nat) {m k : Nat} (h : k ≠ m) : mbox (canCancel s c m) c k = mbox s c k := by
  unfold canCancel
  dsimp only
  split
  · exact canComplete_others _ _ h _
  · exact canComplete_others _ _ h _
  · have hflag : ∀ u, mbox ((setCan u c { can u c with cancel := true }).inc (P.can c) F.CAN_CNT_CANCEL_LATE_N) c k = mbox u c k :=
      fun u => mbox_of_can (congrArg CanSt.mbs (can_setCan u c { can u c with cancel := true }) :) k
    exact (hflag _).trans (mbox_setMbox_ne _ _ h _)
  · rfl
  · rfl

theorem canCancel_completes {s : State} {c m : Nat} (h : (mbox s c m).st = .ready ∨ (mbox s c m).st = .armed) :
    (mbox (canCancel s c m) c m).st = .complete ∧ (mbox (canCancel s c m) c m).result = MR.cancelled := by
  unfold canCancel
  dsimp only
  rcases h with h | h <;>
  · rw [h]
    dsimp only
    rw [canComplete_mbox]
    exact ⟨rfl, rfl⟩

/-- A frame that may be loaded: it is in the mailbox, and the result is OK. -/
theorem canCmd_loads {s : State} {c m cmd : Nat} (hcmd : cmd = 1 ∨ cmd = 2) (hallow : canAllowed s = true)
    (hm : s.cn c F.CAN_MB_SEL_MBOX = m) (hst : (mbox s c m).st = .empty ∨ (mbox s c m).st = .complete)
    (hfmt : canBadFmt s c (canStaged s c) = false) :
    canCmd s c cmd = canRes (setMbox s c m { f := canStaged s c, st := if cmd = 1 then .ready else .armed }) c 1 := by
  unfold canCmd
  dsimp only
  rw [hm, if_neg (by omega), if_neg (by simp [hallow]), if_neg (by omega), if_neg (by omega),
    if_neg (by rcases hst with hst | hst <;> simp [hst]), if_neg (by simp [hfmt])]

/-- The staged frame's format does not depend on MB_CTRL. -/
theorem canBadFmt_stored {s u : State} {c : Nat} (h : Stored (P.can c) 0x104 s u) :
    canBadFmt u c (canStaged u c) = canBadFmt s c (canStaged s c) := by
  have hcn : ∀ f : Fld, f.off ≠ 0x104 → u.cn c f = s.cn c f := fun f hf => h.rd _ _ (.inr hf)
  have hproto : canProto u c = canProto s c := by
    unfold canProto
    rw [hcn _ (by decide)]
  simp (disch := decide) only [canBadFmt, canStaged, hproto, MbFrame.usesPtr, hcn]
  rfl

theorem canAllowed_stored {s u : State} {c : Nat} (h : Stored (P.can c) 0x104 s u) : canAllowed u = canAllowed s := by
  have hst : u.st = s.st := h.rd _ _ (.inr (by decide))
  have hservice : u.service = s.service := congrArg (· != 0) (h.rd P.node F.NODE_NODE_STATE_POWER (.inr (by decide)))
  have hdom : domOn u 6 = domOn s 6 := by
    have hrails : u.node.rails = s.node.rails := by rw [h.same]
    simp only [domOn, State.bit, hrails, h.rd P.mgmt F.MGMT_PWR_STAT_ON (.inr (by decide))]
  simp only [canAllowed, State.working, State.isIn, hst, hservice, hdom]

/-- Settles O42. -/
theorem canMailboxes : Obligations.CanMailboxes := by
  refine ⟨fun s c who m hw => ?sel, fun s c who m hw hallow hm hst hfmt => ?load, fun s c who m hw hallow hm hst hfmt => ?arm,
    fun s c who m hw hallow hm hst => ?clear, fun s c who m k hw hk hb hst => ?cancel,
    fun s c x m d ha hc hpart herr hatt hrx hcfg htun hpick => ?sof, fun s c m ha hc hatt => ?sent,
    fun s c a b ha hc hatt => ?lost, fun s c k a b ha hc hatt hk htec => ?failed⟩
  case sel =>
    obtain ⟨u, hcan, hsel, he⟩ := hw.mbSel m
    refine ⟨_, congrArg Host.Outcome.next he, (canSel_shows ..).1.trans hsel, (canSel_shows ..).2.trans ?_⟩
    rw [mbox, can, hcan]
    rfl
  case load =>
    obtain ⟨u, hu, he⟩ := hw.mbCmd (cmd := 1) (by decide)
    have hcmd := canCmd_loads (s := u) (c := c % 8) (m := m) (.inl rfl) ((canAllowed_stored hu).trans hallow)
      ((hu.rd _ _ (.inr (by decide))).trans hm) (by rw [hu.same]; exact hst) ((canBadFmt_stored hu).trans hfmt)
    refine ⟨_, congrArg Host.Outcome.next (he.trans hcmd), rd_wr_same .., ?_⟩
    exact congrArg Mailbox.st (mbox_setMbox u (c % 8) m _)
  case arm =>
    obtain ⟨u, hu, he⟩ := hw.mbCmd (cmd := 2) (by decide)
    have hcmd := canCmd_loads (s := u) (c := c % 8) (m := m) (.inr rfl) ((canAllowed_stored hu).trans hallow)
      ((hu.rd _ _ (.inr (by decide))).trans hm) (by rw [hu.same]; exact hst) ((canBadFmt_stored hu).trans hfmt)
    refine ⟨_, congrArg Host.Outcome.next (he.trans hcmd), rd_wr_same .., ?_⟩
    exact congrArg Mailbox.st (mbox_setMbox u (c % 8) m _)
  case clear =>
    obtain ⟨u, hu, he⟩ := hw.mbCmd (cmd := 4) (by decide)
    have hcmd : canCmd u (c % 8) 4 = canRes (setMbox u (c % 8) m {}) (c % 8) 1 := by
      have hm' : u.cn (c % 8) F.CAN_MB_SEL_MBOX = m := (hu.rd _ _ (.inr (by decide))).trans hm
      have hst' : (mbox u (c % 8) m).st ≠ .active := by rw [hu.same]; exact hst
      unfold canCmd
      dsimp only
      rw [hm', if_neg (by omega), if_neg (by simp [(canAllowed_stored hu).trans hallow]), if_neg (by omega), if_pos rfl, if_neg hst']
    exact ⟨_, congrArg Host.Outcome.next (he.trans hcmd), rd_wr_same .., mbox_setMbox u (c % 8) m {}⟩
  case cancel =>
    refine ⟨_, congrArg Host.Outcome.next (hw.mbCancel _), ?_⟩
    have hbit : bitOf (m % 2 ^ 32) k = true := by
      rw [bitOf_mod, hb]
      simpa using hk
    obtain ⟨u, -, hbefore, -, hafter⟩ := range_foldl_at (p := fun _ => True) (r := fun t u => mbox u (c % 8) k = mbox t (c % 8) k)
      (fun _ => rfl) (fun h h' => h'.trans h) hk
      (f := fun t j => if bitOf (m % 2 ^ 32) j then canCancel t (c % 8) j else t) (fun _ _ _ => trivial)
      (fun t j hj _ => by
        split
        · exact canCancel_others t _ (Ne.symm hj)
        · rfl) (s := dropArms s (P.can (c % 8))) trivial
    have hst' : (mbox u (c % 8) k).st = .ready ∨ (mbox u (c % 8) k).st = .armed := by rw [hbefore]; exact hst
    rw [if_pos hbit] at hafter
    unfold State.each
    rw [hafter]
    exact canCancel_completes hst'
  case sof =>
    refine ⟨_, congrArg Host.Outcome.next (if_pos (by simp [ha, hc, hpart, herr, hatt, hrx, hcfg])), ?_⟩
    have hp : canPick (s.atTime x) c x 1024 = (some (some m), s.atTime x) := by
      rw [show 1024 = 1023 + 1 from rfl, canPick, hpick, show tunHead (s.atTime x) c = none from htun]
    constructor
    · intro hd
      obtain ⟨dly, rfl⟩ := Option.isSome_iff_exists.mp hd
      unfold canSof
      rw [hp]
      dsimp only
      refine ⟨(setMbox_att ..).trans (congrArg CanSt.att (can_setCan ..)), congrArg Mailbox.st (mbox_setMbox ..), ?_⟩
      exact (rd_wr_beside _ _ _ rfl).trans (rd_wr_same ..)
    · rintro rfl
      unfold canSof
      rw [hp]
      dsimp only
      rw [canComplete_mbox]
      exact ⟨canComplete_att m MR.dataErr hatt, rfl, rfl⟩
  case sent =>
    refine ⟨_, congrArg Host.Outcome.next (if_pos (by simp [ha, hc])), ?_⟩
    rw [hatt]
    dsimp only
    generalize hu : canJudgeErr (((s.inc (P.can c) F.CAN_CNT_TX_N).wr (P.can c) F.CAN_ERR_STAT_TEC _)) c = u
    have hcount : u.cn c F.CAN_CNT_TX_N = satAdd F.CAN_CNT_TX_N.width (s.cn c F.CAN_CNT_TX_N) 1 := by
      rw [← hu]
      exact (cn_kept (canJudgeErr_step ..).regs c rfl).trans ((rd_wr_beside _ _ _ rfl).trans (rd_inc_same ..))
    have hreceive : ∀ f esi x, CanStep receiveOffs (canComplete u c m MR.done) (if (canComplete u c m MR.done).cn c F.CAN_CAN_CFG_SELF_RX = 1 then
        canReceive (canComplete u c m MR.done) c f esi true x else canComplete u c m MR.done) := fun f esi x =>
      .ite (canReceive_step ..) (.refl _ _)
    refine ⟨canEnd_att .., ?_⟩
    rw [(canEnd_shows ..).2.1, (hreceive ..).quiet.mbox, canComplete_mbox]
    refine ⟨rfl, rfl, ?_⟩
    rw [cn_kept (canEnd_regs ..) c rfl, cn_kept (hreceive ..).regs c rfl, cn_kept (canComplete_regs ..) c rfl, hcount]
  case lost =>
    refine ⟨_, congrArg Host.Outcome.next ((if_pos (by simp [ha, hc, Option.isSome_iff_ne_none, hatt])).trans (if_pos rfl)), canFail_ends .., ?_⟩
    exact (cn_kept (canFail_regs ..) c rfl).trans (rd_inc_same ..)
  case failed =>
    refine ⟨_, congrArg Host.Outcome.next ((if_pos (by simp [ha, hc, Option.isSome_iff_ne_none, hatt])).trans (if_neg hk)), ?_⟩
    dsimp only
    have htec' : ∀ u : State, u.cn c F.CAN_ERR_STAT_TEC = s.cn c F.CAN_ERR_STAT_TEC → ¬ 255 < u.cn c F.CAN_ERR_STAT_TEC + (if b then 0 else 8) :=
      fun u hu => by
        rw [hu]
        split <;> omega
    rw [if_neg (htec' _ ?_)]
    · refine ⟨canFail_ends .., ?_, ?_⟩
      · rw [cn_kept (canFail_regs ..) c rfl, cn_kept (canJudgeErr_step ..).regs c rfl]
        exact (rd_wr_beside _ _ _ rfl).trans ((rd_wr_beside _ _ _ rfl).trans ((rd_wr_beside _ _ _ rfl).trans (rd_wr_same ..)))
      · rw [cn_kept (canFail_regs ..) c rfl, cn_kept (canJudgeErr_step ..).regs c rfl]
        exact (rd_wr_beside _ _ _ rfl).trans (rd_wr_same ..)
    · exact (rd_wr_beside _ _ _ rfl).trans ((rd_wr_beside _ _ _ rfl).trans ((rd_wr_beside _ _ _ rfl).trans (rd_wr_beside _ _ _ rfl)))

end Sys2Proof.Machine
end

section
/-!
PROOF. The bus of a CAN channel: bus-off and recovery, windows, reception, tunnelled frames.
-/

namespace Sys2Proof.Machine

/-! ## Bus-off and recovery (R390, R391) -/

/-- No attempt begins, and the registers at `l` alone change. -/
structure CanIdle (l : List Nat) (c : Nat) (s t : State) : Prop where
  att : (can s c).att = none → (can t c).att = none
  regs : RegsKeep (canKey l) s t

theorem CanIdle.trans {l : List Nat} {c : Nat} {s t u : State} (h : CanIdle l c s t) (k : CanIdle l c t u) : CanIdle l c s u :=
  ⟨fun e => k.att (h.att e), h.regs.trans k.regs⟩

theorem CanIdle.refl (l : List Nat) (c : Nat) (s : State) : CanIdle l c s s := ⟨id, .refl _ s⟩

theorem CanIdle.ite {l : List Nat} {n : Nat} {s t u : State} {c : Prop} [Decidable c] (h : CanIdle l n s t) (k : CanIdle l n s u) :
    CanIdle l n s (if c then t else u) := by
  split
  · exact h
  · exact k

theorem CanStep.idle {l : List Nat} {s t : State} (h : CanStep l s t) (c : Nat) : CanIdle l c s t := ⟨h.quiet.att_none, h.regs⟩

theorem setMbox_idle (l : List Nat) (s : State) {c d : Nat} (m : Nat) (x : Mailbox) : CanIdle l c s (setMbox s d m x) where
  att h := by
    by_cases hd : c = d
    · subst hd
      rwa [setMbox_att]
    · exact (congrArg CanSt.att (Tbl.at_put_ne s.can {} hd _)).trans h
  regs := .of_eq rfl

/-- What a bus-off writes after its own steps: MB_DONE and the counters of moved mailboxes and lost records. -/
def moveOffs : List Nat := [0x084, 0x0EC, 0x0DC]

theorem canMove_idle (s : State) (c m : Nat) : CanIdle moveOffs c s (canMove s c m) := by
  unfold canMove
  dsimp only
  refine .ite ?_ (.refl _ c s)
  split
  next k _ =>
    refine .ite ?_ (.refl _ c s)
    have hcount : ∀ u : State, CanIdle moveOffs c u (countRaise u (P.can c) F.CAN_CNT_MOVED_N (P.can c) 1) := fun u =>
      (((CanStep.refl _ u).wr c _ _ rfl).trans (raise_canStep ..)).idle c
    have hcomplete : ∀ u r, CanIdle moveOffs c u (canComplete u c m r) := fun u r =>
      ⟨canComplete_att m r, canKey_mono (canComplete_regs u c m r) rfl⟩
    exact (((setMbox_idle ..).trans (setMbox_idle ..)).trans (hcount _)).trans (hcomplete ..)
  next => exact .refl _ c s

/-- A new error state is shown (R389). -/
theorem setCanErr_shows {s : State} {c v : Nat} (h : canErr s c ≠ v) (hv : v < 4) : canErr (setCanErr s c v) c = v := by
  unfold setCanErr
  rw [if_neg h]
  exact (cn_kept (raise_canKey [] ..) c rfl).trans ((rd_wr_same ..).trans (Nat.mod_eq_of_lt hv))

theorem setCanErr_beside (s : State) (c v : Nat) {f : Fld} (h : canStays [] f && (f.off != 0x05C || f.lsb != 30)) :
    (setCanErr s c v).cn c f = s.cn c f := by
  obtain ⟨h1, h2⟩ := Bool.and_eq_true_iff.mp h
  unfold setCanErr
  split
  · rfl
  · exact (cn_kept (raise_canKey [] ..) c h1).trans (rd_wr_beside _ _ _ h2)

theorem busOff_shows (s : State) (c : Nat) : (can (busOff s c) c).att = none ∧ 2 ≤ canErr (busOff s c) c ∧
    (busOff s c).cn c F.CAN_CNT_BUSOFF_N = satAdd F.CAN_CNT_BUSOFF_N.width (s.cn c F.CAN_CNT_BUSOFF_N) 1 := by
  have hfirst : ∀ u : State, u.cn c F.CAN_CNT_BUSOFF_N = s.cn c F.CAN_CNT_BUSOFF_N →
      let v := raise (((canEnd u c).inc (P.can c) F.CAN_CNT_BUSOFF_N).wr (P.can c) F.CAN_ERR_STAT_STATE 2) (P.can c) 1
      (can v c).att = none ∧ canErr v c = 2 ∧ v.cn c F.CAN_CNT_BUSOFF_N = satAdd F.CAN_CNT_BUSOFF_N.width (s.cn c F.CAN_CNT_BUSOFF_N) 1 :=
      fun u hu => by
    have hregs := raise_canKey [] (((canEnd u c).inc (P.can c) F.CAN_CNT_BUSOFF_N).wr (P.can c) F.CAN_ERR_STAT_STATE 2) (P.can c) 1
    refine ⟨(raise_quiet ..).att_none (canEnd_att u c), (cn_kept hregs c rfl).trans (rd_wr_same ..), (cn_kept hregs c rfl).trans ?_⟩
    refine (rd_wr_beside _ _ _ rfl).trans ((rd_inc_same ..).trans ?_)
    rw [← hu, ← cn_kept (canEnd_regs u c) c (f := F.CAN_CNT_BUSOFF_N) rfl]
    rfl
  have hmoves : ∀ v : State, CanIdle moveOffs c v (v.each 32 fun t m => canMove t c m) := fun v => by
    have : ∀ (l : List Nat) (t : State), CanIdle moveOffs c v t → CanIdle moveOffs c v (l.foldl (fun t m => canMove t c m) t) := fun l => by
      induction l with
      | nil => exact fun _ h => h
      | cons m r ih => exact fun t h => ih _ (h.trans (canMove_idle ..))
    exact this _ _ (.refl _ c v)
  have hrest : ∀ v : State, (can v c).att = none ∧ canErr v c = 2 ∧
      v.cn c F.CAN_CNT_BUSOFF_N = satAdd F.CAN_CNT_BUSOFF_N.width (s.cn c F.CAN_CNT_BUSOFF_N) 1 → ∀ w : State, CanIdle moveOffs c v w →
      ∀ (q : Prop) [Decidable q], let x := if q then setCanErr w c 3 else w
      (can x c).att = none ∧ 2 ≤ canErr x c ∧ x.cn c F.CAN_CNT_BUSOFF_N = satAdd F.CAN_CNT_BUSOFF_N.width (s.cn c F.CAN_CNT_BUSOFF_N) 1 :=
      fun v ⟨hatt, herr, hcount⟩ w hw q _ => by
    have herr' : canErr w c = 2 := (cn_kept hw.regs c rfl).trans herr
    have hcount' := (cn_kept hw.regs c (f := F.CAN_CNT_BUSOFF_N) rfl).trans hcount
    dsimp only
    split
    · refine ⟨((setCanErr_step w c 3).idle c).att (hw.att hatt), ?_, (cn_kept (setCanErr_step w c 3).regs c rfl).trans hcount'⟩
      rw [setCanErr_shows (by omega) (by decide)]
      decide
    · exact ⟨hw.att hatt, herr'.ge, hcount'⟩
  unfold busOff
  dsimp only
  refine hrest _ (hfirst _ ?_) _ (.ite (hmoves _) (.refl _ c _)) _
  split
  · split
    · exact cn_kept (canComplete_regs ..) c rfl
    · rfl
  · rfl

/-! ## Reception (R398, R399) -/

theorem admits_congr {s t : State} (hsw : t.sw = s.sw) (hmin : ∀ q, t.rd (P.queue q) (F.QUEUE_Q_LIMIT_MIN (q % 16)) = s.rd (P.queue q) (F.QUEUE_Q_LIMIT_MIN (q % 16)))
    (hmax : ∀ q, t.rd (P.queue q) (F.QUEUE_Q_LIMIT_MAX (q % 16)) = s.rd (P.queue q) (F.QUEUE_Q_LIMIT_MAX (q % 16)))
    (hres : t.rd P.pool F.CELLPOOL_POOL_CFG_POOL_RESERVE = s.rd P.pool F.CELLPOOL_POOL_CFG_POOL_RESERVE) (q k : Nat) :
    admits t q k = admits s q k := by
  have hocc : qOcc t = qOcc s := by unfold qOcc; rw [hsw]
  have hqmin : qMin t = qMin s := by funext q; unfold qMin; rw [hmin]
  have hqmax : qMax t = qMax s := by funext q; unfold qMax; rw [hmax]
  have hfree : poolFree t = poolFree s := by unfold poolFree; rw [hsw]
  have hthr : qThreshold t = qThreshold s := by funext q; unfold qThreshold; rw [hres]
  unfold admits sharedFree guarUnused
  rw [hocc, hqmin, hqmax, hfree, hthr]

/-- Without an Eclipse trigger only a channel's own registers and events change: the switch stays. -/
structure CalmCan (s t : State) : Prop where
  calm : noEclEv s → noEclEv t ∧ t.sw = s.sw ∧ RegsKeep (fun k => calmKey k || decide (0x0B0 ≤ k.page ∧ k.page < 0x0B8)) s t

theorem CalmCan.trans {s t u : State} (h : CalmCan s t) (k : CalmCan t u) : CalmCan s u := ⟨fun e => by
  obtain ⟨h1, h2, h3⟩ := h.calm e
  obtain ⟨k1, k2, k3⟩ := k.calm h1
  exact ⟨k1, k2.trans h2, h3.trans k3⟩⟩

theorem CalmCan.of_regs {s t : State} (h : t.regs = s.regs) (hsw : t.sw = s.sw) : CalmCan s t := ⟨fun e =>
  ⟨by unfold noEclEv State.on at e ⊢; rwa [rd_of_regs h], hsw, .of_eq h⟩⟩

theorem CalmCan.wr {s t : State} (h : CalmCan s t) (c : Nat) (f : Fld) (v : Nat) : CalmCan s (t.wr (P.can c) f v) := ⟨fun e => by
  obtain ⟨h1, h2, h3⟩ := h.calm e
  have hp := can_page c
  refine ⟨?_, h2, h3.wr v (by simp [hp])⟩
  unfold noEclEv State.on at h1 ⊢
  rwa [rd_wr_apart _ _ (by simp [keyApart, P.ecl]; omega)]⟩

theorem CalmCan.ite {s t u : State} {c : Prop} [Decidable c] (h : CalmCan s t) (k : CalmCan s u) : CalmCan s (if c then t else u) := by
  split
  · exact h
  · exact k

theorem raise_calmCan (s : State) (p k : Nat) : CalmCan s (raise s p k) := ⟨fun e => by
  obtain ⟨hk, hr⟩ := (raise_raised s p k).calm e
  refine ⟨?_, hk.sw rfl, hr.mono fun _ h => (Bool.or_eq_false_iff.mp h).1⟩
  unfold noEclEv State.on at e ⊢
  rwa [hr.rd _ _ (by decide)]⟩

theorem canJudgeErr_calm (s : State) (c : Nat) : CalmCan s (canJudgeErr s c) :=
  .ite (.of_regs rfl rfl) (.ite (.of_regs rfl rfl) ((CalmCan.wr (.of_regs rfl rfl) c _ _).trans (raise_calmCan ..)))

theorem canRxEnd_shows (s : State) (c : Nat) : CalmCan s (canRxEnd s c) ∧ RegsKeep (canKey [0x00C]) s (canRxEnd s c) := by
  have hput : ∀ x, CalmCan s (setCan s c x) := fun x => .of_regs rfl rfl
  have hregs : ∀ x, RegsKeep (canKey [0x00C]) s (setCan s c x) := fun x => .of_eq rfl
  unfold canRxEnd canRest
  exact ⟨.ite ((hput _).wr ..) (hput _), .ite (fun _ => canKey_wr (hregs _) c _ rfl) fun _ => hregs _⟩

/-- A filter judges by the registers of the channel. -/
theorem canFilter_of_cn {s t : State} {c : Nat} (h : ∀ f : Fld, 0x200 ≤ f.off → t.cn c f = s.cn c f) (f : MbFrame) :
    canFilter t c f = canFilter s c f := by
  unfold canFilter
  congr 1
  funext k
  rw [h (F.CAN_FLT_ID_EN k) (by simp [F.CAN_FLT_ID_EN]), h (F.CAN_FLT_ID_IDE k) (by simp [F.CAN_FLT_ID_IDE]),
    h (F.CAN_FLT_ID_ID k) (by simp [F.CAN_FLT_ID_ID]), h (F.CAN_FLT_MASK_MASK k) (by simp [F.CAN_FLT_MASK_MASK]; omega),
    h (F.CAN_FLT_ACT_FMTS k) (by simp [F.CAN_FLT_ACT_FMTS]; omega), h (F.CAN_FLT_ACT_RTR_OK k) (by simp [F.CAN_FLT_ACT_RTR_OK]; omega)]

@[simp] theorem queueSt_setQueueSt (s : State) (q : Nat) (z : QSt) : queueSt (setQueueSt s q z) q = z.settle := by
  have hput : ∀ t : State, t.ses = { s.ses with qs := s.ses.qs.put {} q z.settle } → queueSt t q = z.settle := fun t h => by
    rw [queueSt, h]
    exact Tbl.at_put_same s.ses.qs {} q z.settle
  unfold setQueueSt
  dsimp only
  split
  · exact hput _ ((chargeCells_keeps ..).ses rfl)
  · exact hput _ ((dischargeCells_keeps ..).ses rfl)

/-- What is unread stays: an item of which no cell has been delivered survives. -/
theorem settle_keeps_new {p : QItem → Bool} {x : QItem} (z : QSt) (hn : x.lo = 0 ∧ x.pos = 0 ∧ x.held = none ∧ 0 < x.fin) (hp : p x = true) :
    (QSt.settle { z with items := z.items ++ [x] }).items.any p = true := by
  obtain ⟨hlo, hpos, hheld, hfin⟩ := hn
  have hkeep : max x.lo (x.keepFrom z.last) = x.lo := by
    have : x.keepFrom z.last = 0 := by
      unfold QItem.keepFrom
      rw [hheld, hpos]
      dsimp only
      split
      · split <;> simp
      · rfl
    omega
  rw [List.any_eq_true]
  refine ⟨x, ?_, hp⟩
  unfold QSt.settle
  rw [List.mem_filter, List.mem_map]
  refine ⟨⟨x, by simp, ?_⟩, by simp; omega⟩
  dsimp only
  rw [hkeep]

/-- An item that a queue of the node with room takes (R156). -/
theorem qAdmit_takes {s : State} {q : Nat} (hq : 112 ≤ q ∧ q < 1024 ∧ qType s q ≠ 0)
    (how : s.on (P.queue q) (F.QUEUE_Q_CFG_OVERWRITE (q % 16)) = false) {head data : List Nat}
    (hadm : admits s q (itemCells head.length data.length) = 1) (prio src tag info : Nat) (d ses : Bool) :
    (qAdmit s q prio src tag info d head data ses).1 = true ∧
      ((queueSt (qAdmit s q prio src tag info d head data ses).2 q).items.any fun x => x.tag == tag && x.src == src && x.data == data) = true := by
  unfold qAdmit
  dsimp only
  simp only [how, Bool.false_and, Bool.false_eq_true, if_false]
  rw [if_neg (by omega), if_pos hadm]
  refine ⟨rfl, ?_⟩
  dsimp only
  rw [queueSt_setQueueSt]
  exact settle_keeps_new _ ⟨rfl, rfl, rfl, show 0 < itemCells head.length data.length by unfold itemCells; omega⟩ (by simp)

/-- A frame that a receive queue takes is counted (R399). -/
theorem canStore_counts {s : State} {c n q : Nat} (hq : canRxq s c n = q) (hqok : 112 ≤ q ∧ q < 1024 ∧ qType s q ≠ 0)
    (how : s.on (P.queue q) (F.QUEUE_Q_CFG_OVERWRITE (q % 16)) = false) {f : MbFrame}
    (hadm : admits s q (itemCells 24 f.data.length) = 1) (esi self : Bool) (flt x : Nat) :
    (canStore s c n f esi self flt x).cn c F.CAN_CNT_RX_N = satAdd F.CAN_CNT_RX_N.width (s.cn c F.CAN_CNT_RX_N) 1 := by
  unfold canStore
  dsimp only
  rw [hq, if_pos (qAdmit_takes hqok how (by simpa [leBytes] using hadm) ..).1]
  refine (rd_inc_same ..).trans ?_
  rw [show State.rd _ (P.can c) F.CAN_CNT_RX_N = s.rd (P.can c) F.CAN_CNT_RX_N from cn_kept (qAdmit_canStep [] ..).regs c rfl]
  rfl

theorem canRecover_register : ∀ c < 8, triggerReg (P.can c) 0x060 = true ∧ ((regFields (P.can c) 0x060).all (noCondition (P.can c))) = true ∧
    pageType (P.can c) = some .can := by decide +kernel

/-- Settles O43. -/
theorem canBus : Obligations.CanBus := by
  refine ⟨fun s c ha hc htec herr => ?off, fun s c who hw herr => ?recover, fun s c ha hc herr => ?recovered,
    fun s c w x m ha hc hw hen hkind hlow hmb => ?window,
    fun s c x f k q ha hc hpart hloop herr hstart hfmt hev hflt hact hq hqok how hadm => ?receive,
    fun s f c q ha hallow hf hhit hq hqok how hadm => ?tunnel, fun s c k b d ha hc hpart hloop herr => ?rxError,
    fun s c ha hc hallow hen hstop => ?integrate⟩
  case off =>
    exact ⟨_, congrArg Host.Outcome.next (if_pos (by simp [ha, hc, htec, herr])), busOff_shows s c⟩
  case recover =>
    have hc : c % 8 < 8 := Nat.mod_lt _ (by decide)
    obtain ⟨ht, hcond, htype⟩ := canRecover_register (c % 8) hc
    have he : busStore s who (P.can (c % 8)) 0x060 1 = setCanErr (dropArms s (P.can (c % 8))) (c % 8) 3 := by
      refine hw.block _ ht hcond (by decide) (.inl (by simp [P.can, P.sestx])) ?_
      rw [writeEffect, if_neg (by decide), htype]
      show effCan _ (P.can (c % 8) - 0x0B0) 0x060 _ = _
      rw [show P.can (c % 8) - 0x0B0 = c % 8 by unfold P.can; omega]
      exact if_pos herr
    refine ⟨_, congrArg Host.Outcome.next he, setCanErr_shows ?_ (by decide)⟩
    rw [show canErr (dropArms s (P.can (c % 8))) (c % 8) = 2 from herr]
    decide
  case recovered =>
    refine ⟨_, congrArg Host.Outcome.next (if_pos (by simp [ha, hc, herr])), ?_⟩
    dsimp only
    have hwait : ∀ v : State, (v.each 32 fun t m => if (mbox t c m).waitBo then
        setMbox t c m { mbox t c m with waitBo := false } else t).regs = v.regs := fun v =>
      foldl_part (·.regs) (fun t m => by
        dsimp only
        split <;> rfl) _ _
    have hz : s.zero (P.can c) [F.CAN_ERR_STAT_TEC, F.CAN_ERR_STAT_REC, F.CAN_ERR_STAT_BO_SEQ] =
        ((s.wr (P.can c) F.CAN_ERR_STAT_TEC 0).wr (P.can c) F.CAN_ERR_STAT_REC 0).wr (P.can c) F.CAN_ERR_STAT_BO_SEQ 0 := rfl
    rw [hz]
    generalize hv : ((s.wr (P.can c) F.CAN_ERR_STAT_TEC 0).wr (P.can c) F.CAN_ERR_STAT_REC 0).wr (P.can c) F.CAN_ERR_STAT_BO_SEQ 0 = v
    have hstate : v.cn c F.CAN_ERR_STAT_STATE = 3 := by
      rw [← hv, ← show s.cn c F.CAN_ERR_STAT_STATE = 3 from herr]
      exact (rd_wr_beside _ _ _ rfl).trans ((rd_wr_beside _ _ _ rfl).trans (rd_wr_beside _ _ _ rfl))
    have htec : v.cn c F.CAN_ERR_STAT_TEC = 0 := by
      rw [← hv]
      exact (rd_wr_beside _ _ _ rfl).trans ((rd_wr_beside _ _ _ rfl).trans (rd_wr_same ..))
    have hrd : ∀ f : Fld, _ := fun f => rd_of_regs (hwait v) (P.can c) f
    refine ⟨setCanErr_shows (fun h => ?_) (by decide), (setCanErr_beside _ c 0 rfl).trans ((hrd _).trans htec)⟩
    exact absurd (((hrd F.CAN_ERR_STAT_STATE).trans hstate).symm.trans h) (by decide)
  case window =>
    refine ⟨_, congrArg Host.Outcome.next (if_pos (by simp [ha, hc, hw, hen])), ?_⟩
    obtain ⟨hready, hsched⟩ := hmb
    have hlist : (if (s.atTime x).cn c (F.CAN_WIN_A_KIND w) = 1 then (lowestBit ((s.atTime x).cn c (F.CAN_WIN_B_MASK w))).toList
        else if (s.atTime x).cn c (F.CAN_WIN_A_KIND w) = 2 then (List.range 32).filter fun m => bitOf ((s.atTime x).cn c (F.CAN_WIN_B_MASK w)) m
        else []) = [m] := by
      rw [if_pos (show (s.atTime x).cn c (F.CAN_WIN_A_KIND w) = 1 from hkind), show (s.atTime x).cn c (F.CAN_WIN_B_MASK w) = s.cn c (F.CAN_WIN_B_MASK w) from rfl,
        hlow]
      rfl
    dsimp only
    rw [hlist, List.foldl_cons, List.foldl_nil, if_pos (show (mbox (s.atTime x) c m).st = .ready ∧ (mbox (s.atTime x) c m).f.sched = true from ⟨hready, hsched⟩)]
    have hcount := rd_inc_same (s.atTime x) (P.can c) F.CAN_CNT_WIN_MISSED_N 1
    split
    next => exact ⟨(cn_kept (canComplete_regs ..) c rfl).trans hcount, fun _ => congrArg Mailbox.result (canComplete_mbox ..)⟩
    next hno => exact ⟨hcount, fun h => absurd h hno⟩
  case receive =>
    obtain ⟨hstore, htun⟩ := hact
    refine ⟨_, congrArg Host.Outcome.next ((if_pos (by simp [ha, hc, canHears, hloop, hpart, herr])).trans
      ((if_neg (by simp [hstart])).trans (if_neg (by omega)))), ?_⟩
    dsimp only
    generalize hw : (if s.cn c F.CAN_ERR_STAT_REC ≤ 127 then s.wr (P.can c) F.CAN_ERR_STAT_REC (s.cn c F.CAN_ERR_STAT_REC - 1)
      else (s.draw 8).2.wr (P.can c) F.CAN_ERR_STAT_REC (119 + (s.draw 8).1 % 9)) = w
    have hrec : CalmCan s w ∧ RegsKeep (canKey [0x05C, 0x00C]) s w := by
      rw [← hw]
      exact ⟨.ite (CalmCan.wr (.of_regs rfl rfl) c _ _) (CalmCan.wr (.of_regs (s := s) (t := (s.draw 8).2) rfl rfl) c _ _),
        .ite (fun _ => canKey_wr (.refl _ s) c _ rfl) fun _ => canKey_wr (s := s) (t := (s.draw 8).2) (.of_eq rfl) c _ rfl⟩
    generalize hu : canRxEnd (canJudgeErr w c) c = u
    have hcalm : CalmCan s u := hu ▸ (hrec.1.trans (canJudgeErr_calm ..)).trans (canRxEnd_shows ..).1
    have hregs : RegsKeep (canKey [0x05C, 0x00C]) s u :=
      hu ▸ (hrec.2.trans (canKey_mono (canJudgeErr_step ..).regs rfl)).trans (canKey_mono (canRxEnd_shows ..).2 rfl)
    obtain ⟨-, hsw, hcalmRegs⟩ := hcalm.calm hev
    have hcn : ∀ f : Fld, 0x200 ≤ f.off → u.cn c f = s.cn c f := fun f hf => cn_kept hregs c (by
      simp [canStays]
      omega)
    have hqueue : ∀ (q : Nat) (f : Fld), f.off ≠ 0x010 → u.rd (P.queue q) f = s.rd (P.queue q) f := fun q f hf => hcalmRegs.rd _ _ (by
      have : 0x040 ≤ P.queue q ∧ P.queue q < 0x080 := by unfold P.queue; omega
      simp [calmKey, hf]
      omega)
    have hrxq : canRxq u c (u.cn c (F.CAN_FLT_ACT_RXQ k)) = q := by
      rw [hcn (F.CAN_FLT_ACT_RXQ k) (by simp [F.CAN_FLT_ACT_RXQ]; omega), ← hq]
      unfold canRxq
      refine cn_kept hregs c ?_
      split <;> rfl
    have hadm' : admits u q (itemCells 24 f.data.length) = 1 := by
      rw [admits_congr hsw (fun q => hqueue q _ (by simp [F.QUEUE_Q_LIMIT_MIN]; omega)) (fun q => hqueue q _ (by simp [F.QUEUE_Q_LIMIT_MAX]; omega))
        (hcalmRegs.rd _ _ (by decide)), hadm]
    have htype : qType u q = qType s q := hqueue q _ (by simp [F.QUEUE_Q_CFG_TYPE]; omega)
    have how' : u.on (P.queue q) (F.QUEUE_Q_CFG_OVERWRITE (q % 16)) = false := by
      rw [← how]
      exact congrArg (· != 0) (hqueue q _ (by simp [F.QUEUE_Q_CFG_OVERWRITE]; omega))
    unfold canReceive
    rw [canFilter_of_cn hcn, hflt]
    have htun' : ∀ v, RegsKeep (canKey receiveOffs) u v → ¬ v.cn c (F.CAN_FLT_ACT_TUN k) = 1 := fun v hv => by
      rw [cn_kept hv c (by simp [canStays, receiveOffs, F.CAN_FLT_ACT_TUN]; omega), hcn _ (by simp [F.CAN_FLT_ACT_TUN]; omega), htun]
      decide
    have hcount : u.cn c F.CAN_CNT_RX_N = s.cn c F.CAN_CNT_RX_N := cn_kept hregs c rfl
    dsimp only
    rw [if_pos (show u.cn c (F.CAN_FLT_ACT_STORE k) = 1 from (hcn _ (by simp [F.CAN_FLT_ACT_STORE]; omega)).trans hstore),
      if_neg (htun' _ (canStore_step ..).regs), canStore_counts hrxq (by rw [htype]; exact hqok) how' hadm', hcount]
  case tunnel =>
    obtain ⟨htyp, hkind⟩ := hf
    refine ⟨_, congrArg Host.Outcome.next ((if_pos (by simp [ha, htyp, hallow])).trans (if_pos hkind)), ?_⟩
    unfold canTunnelIn
    dsimp only
    rw [hhit]
    dsimp only
    rw [hq]
    exact (qAdmit_takes hqok how hadm _ _ _ _ _ _).2
  case rxError =>
    refine ⟨_, congrArg Host.Outcome.next (if_pos (by simp [ha, hc, canHears, hloop, hpart, herr])), ?_⟩
    have hend : ∀ (u : State) (f : Fld), canStays [0x00C, 0x05C] f = true → (canRxEnd (canJudgeErr u c) c).cn c f = u.cn c f := fun u f hf =>
      (cn_kept (canKey_mono (canRxEnd_shows ..).2 rfl) c hf).trans (cn_kept (canKey_mono (canJudgeErr_step ..).regs rfl) c hf)
    unfold canRxError
    dsimp only
    refine ⟨(hend _ _ rfl).trans ?_, (hend _ _ rfl).trans ?_, (hend _ _ rfl).trans ?_⟩
    · exact (rd_wr_beside _ _ _ rfl).trans ((rd_wr_beside _ _ _ rfl).trans ((rd_wr_beside _ _ _ rfl).trans (rd_wr_same ..)))
    · exact (rd_wr_beside _ _ _ rfl).trans (rd_wr_same ..)
    · exact (rd_wr_beside _ _ _ rfl).trans ((rd_wr_beside _ _ _ rfl).trans ((rd_wr_beside _ _ _ rfl).trans ((rd_wr_beside _ _ _ rfl).trans (rd_inc_same ..))))
  case integrate =>
    refine ⟨_, congrArg Host.Outcome.next (if_pos (by simp [ha, hc, hallow, hen, hstop])), ?_⟩
    have hjoin : ∀ v : State, v.node = s.node → v.mgmt = s.mgmt → (∀ (p : Nat) (f : Fld), f.off ≠ 0x05C → v.rd p f = s.rd p f) → ∀ x : CanSt, x.integ = true →
        canTakesPart (setCan v c x) c = true := fun v hnode hmgmt hrd x hx => by
      have hinteg : (can (setCan v c x) c).integ = true := (congrArg CanSt.integ (can_setCan v c x)).trans hx
      have hallow' : canAllowed (setCan v c x) = canAllowed s := by
        have hst : (setCan v c x).st = s.st := hrd _ _ (by decide)
        have hservice : (setCan v c x).service = s.service := congrArg (· != 0) (hrd P.node F.NODE_NODE_STATE_POWER (by decide))
        have hdom : domOn (setCan v c x) 6 = domOn s 6 := by
          have hrails : (setCan v c x).node.rails = s.node.rails := by rw [← hnode]; rfl
          have hon : (setCan v c x).rd P.mgmt F.MGMT_PWR_STAT_ON = s.rd P.mgmt F.MGMT_PWR_STAT_ON := hrd _ _ (by decide)
          simp only [domOn, State.bit, hrails, hon]
        simp only [canAllowed, State.working, State.isIn, hst, hservice, hdom]
      have hen' : (setCan v c x).enabled (P.can c) = s.enabled (P.can c) := congrArg (· != 0) (hrd _ F.HDR_PAGE_CTRL_ENABLE (by decide))
      have hstop' : (setCan v c x).stopReq (P.can c) = s.stopReq (P.can c) := by
        have hon : (setCan v c x).on (P.can c) F.HDR_PAGE_CTRL_STOP = s.on (P.can c) F.HDR_PAGE_CTRL_STOP := congrArg (· != 0) (hrd _ _ (by decide))
        have hwait : (setCan v c x).mgmt.stopWait = s.mgmt.stopWait := by rw [← hmgmt]; rfl
        rw [State.stopReq, State.stopReq, hon, hwait]
      rw [canTakesPart, hallow', hen', hstop', hinteg, hallow, hen, hstop]
      rfl
    dsimp only
    split
    · exact hjoin (s.wr (P.can c) F.CAN_ERR_STAT_BO_SEQ _) rfl rfl
        (fun p f hf => rd_wr_apart _ _ (by simp [keyApart, F.CAN_ERR_STAT_BO_SEQ, hf])) _ rfl
    · exact hjoin s rfl rfl (fun _ _ _ => rfl) _ rfl

end Sys2Proof.Machine
end

section
/-!
PROOF. The host port and the flash controller (16_local_ports.md): what a memory reads after bytes are written, an access within one
region, and O47.
-/

namespace Sys2Proof.Machine

/-! ## Bytes of a memory -/

theorem memAt_memPut (s : State) (a : Nat) (b : Byte) (x : Nat) : (s.memPut a b).memAt x = if x = a then b else s.memAt x := by
  unfold State.memAt State.memPut
  split
  · subst x
    exact alGet_alSet_same ..
  · exact alGet_alSet_ne _ _ ‹_› ..

theorem memAt_of_mem {s t : State} (h : t.mem = s.mem) (x : Nat) : t.memAt x = s.memAt x := by
  unfold State.memAt
  rw [h]

/-- A write of bytes changes those bytes and no others. -/
theorem memAt_memWrite (s : State) (a : Nat) (l : List Nat) (x : Nat) : (s.memWrite a l).memAt x =
    if a ≤ x ∧ x < a + l.length then BitVec.ofNat 8 (l.getD (x - a) 0) else s.memAt x := by
  unfold State.memWrite
  induction l generalizing s a with
  | nil => exact (if_neg (by simp)).symm
  | cons b r ih =>
    rw [List.foldl_cons, ih, memAt_memPut]
    by_cases hx : x = a
    · subst x
      rw [if_neg (by omega), if_pos rfl, if_pos (by simp)]
      simp
    · by_cases hin : a + 1 ≤ x ∧ x < a + 1 + r.length
      · rw [if_pos hin, if_pos (by simp; omega), show x - a = x - (a + 1) + 1 by omega]
        rfl
      · rw [if_neg hin, if_neg hx, if_neg (by simp; omega)]

/-- The memories, the log, the images and what places them are as before. -/
theorem showAt_of_keeps {m : Nat} {s t : State} (h : Keeps m s t) (hm : (m.testBit 4 || m.testBit 15 || m.testBit 35 || m.testBit
    (regGroup ⟨P.node, F.NODE_NODE_STATE_STATE.off, F.NODE_NODE_STATE_STATE.lsb, 0⟩) || m.testBit
    (regGroup ⟨P.sub, F.SUBSCRIBE_SUB_CFG_IMG_SEL.off, F.SUBSCRIBE_SUB_CFG_IMG_SEL.lsb, 0⟩)) = false) (a : Nat) :
    t.showAt a = s.showAt a := by
  simp only [Bool.or_eq_false_iff] at hm
  obtain ⟨⟨⟨⟨hmem, hpub⟩, hmgmt⟩, hst⟩, hsel⟩ := hm
  have himg : t.imageOff a = s.imageOff a := by
    unfold State.imageOff State.st
    rw [h.rd _ _ hst, h.rd _ _ hsel]
  unfold State.showAt State.imageAt State.logByte
  rw [himg, h.pub hpub, h.mgmt hmgmt, memAt_of_mem (h.mem hmem)]

theorem memRead_of_keeps {m : Nat} {s t : State} (h : Keeps m s t) (hm : (m.testBit 4 || m.testBit 15 || m.testBit 35 || m.testBit
    (regGroup ⟨P.node, F.NODE_NODE_STATE_STATE.off, F.NODE_NODE_STATE_STATE.lsb, 0⟩) || m.testBit
    (regGroup ⟨P.sub, F.SUBSCRIBE_SUB_CFG_IMG_SEL.off, F.SUBSCRIBE_SUB_CFG_IMG_SEL.lsb, 0⟩)) = false) (a n : Nat) :
    t.memRead a n = s.memRead a n := List.map_congr_left fun _ _ => showAt_of_keeps h hm _

/-! ## An aligned access of DATA RAM (R439) -/

theorem data_bounds {a : Nat} (h : regionOf a = .data) : 0x10200000 ≤ a ∧ a < 0x10400000 := by
  by_contra hn
  unfold regionOf at h
  rw [if_neg hn] at h
  split at h
  · cases h
  · split at h
    · cases h
    · repeat' split at h
      all_goals cases h

theorem regionOf_data {a : Nat} (h : 0x10200000 ≤ a ∧ a < 0x10400000) : regionOf a = .data := by
  unfold regionOf
  rw [if_neg (by omega), if_neg (by omega), if_pos h]

/-- DATA RAM begins and ends on a boundary of 4 KiB, which an aligned access does not cross. -/
theorem data_of_aligned {a n k : Nat} (hr : regionOf a = .data) (ha : hostAligned a n = true) (hk : k < n) : regionOf (a + k) = .data := by
  have := data_bounds hr
  simp only [hostAligned, Bool.and_eq_true, decide_eq_true_eq] at ha
  exact regionOf_data (by omega)

theorem regionSpan_data {a n : Nat} (hr : regionOf a = .data) (ha : hostAligned a n = true) : regionSpan a n = n := by
  have hall : ∀ k ∈ List.range n, sameRegion a (a + k) = true := fun k hk => by
    unfold sameRegion
    rw [hr, data_of_aligned hr ha (List.mem_range.mp hk)]
    rfl
  rw [regionSpan, List.takeWhile_eq_self_iff.mpr hall, List.length_range]

theorem spanMapped_data {a n : Nat} (hr : regionOf a = .data) (ha : hostAligned a n = true) (hn : 0 < n) : spanMapped a n = true := by
  unfold spanMapped
  rw [hr, data_of_aligned hr ha (by omega)]
  rfl

theorem localRead_data {s : State} {who : By} {a n : Nat} (hr : regionOf a = .data) (ha : hostAligned a n = true) (hn : 0 < n) :
    localRead s who a n = (TS.ok, s.memRead a n, s) := by
  have hread : regionRead s who a n = (TS.ok, s.memRead a n, s) := by
    unfold regionRead
    rw [hr]
  unfold localRead
  rw [spanMapped_data hr ha hn, regionSpan_data hr ha]
  dsimp only
  rw [hread]
  exact (if_neg (by simp)).trans (if_pos (Or.inl (le_refl n)))

theorem localWrite_data {s : State} {who : By} {a : Nat} {b : List Nat} (hr : regionOf a = .data) (ha : hostAligned a b.length = true)
    (hn : 0 < b.length) (hi : ((List.range b.length).all fun k => (s.imageOff (a + k)).isNone) = true) :
    localWrite s who a b = (TS.ok, s.memWrite a b) := by
  have hwrite : regionWrite s who a b = (TS.ok, s.memWrite a b) := by
    unfold regionWrite
    rw [hr]
    refine if_neg ?_
    simp only [List.all_eq_true, Option.isNone_iff_eq_none] at hi
    simp only [List.any_eq_true, not_exists, not_and]
    intro k hk
    rw [hi k hk]
    exact Bool.false_ne_true
  unfold localWrite
  rw [spanMapped_data hr ha hn, regionSpan_data hr ha]
  dsimp only
  rw [List.take_of_length_le (le_refl _), hwrite]
  exact (if_neg (by simp)).trans (if_pos (Or.inl (le_refl _)))

/-- DATA RAM is on no field-die page, in whichever node it is. -/
theorem fieldAddr_data {s : State} {a : Nat} (hr : regionOf a = .data) : fieldAddr s a = none := by
  have := data_bounds hr
  have hwin : ownWindow s a = none := by
    unfold ownWindow winOf
    rw [if_neg (by omega)]
  unfold fieldAddr
  rw [hwin, hr]
  exact if_neg (by simp)

theorem remoteOf_data {s : State} {a : Nat} (hr : regionOf a = .data) : remoteOf s a = none := by
  have := data_bounds hr
  unfold remoteOf winOf
  rw [if_neg (by omega)]

theorem hostFetch_data {s : State} {a n : Nat} (hr : regionOf a = .data) (ha : hostAligned a n = true) (hn : 0 < n) :
    hostFetch s a n = (some (TS.ok, s.memRead a n), s) := by
  have hflash : flashWaits s a n = false := by
    unfold flashWaits
    rw [hr, data_of_aligned hr ha (by omega)]
    rfl
  unfold hostFetch
  rw [remoteOf_data hr, hostField, fieldAddr_data hr]
  dsimp only
  rw [if_neg (by simp), hflash, localRead_data hr ha hn]
  rfl

theorem hostCount_keeps (s : State) : Keeps (groupMask (regGroup ⟨P.host, F.HOSTPORT_HP_CNT_CMD_N.off, F.HOSTPORT_HP_CNT_CMD_N.lsb, 0⟩)) s
    (s.inc P.host F.HOSTPORT_HP_CNT_CMD_N) := State.inc_keeps _ (.inl rfl) ..

theorem imageOff_hostCount (s : State) (a : Nat) : (s.inc P.host F.HOSTPORT_HP_CNT_CMD_N).imageOff a = s.imageOff a := by
  unfold State.imageOff State.st
  rw [(hostCount_keeps s).rd _ _ (by decide +kernel), (hostCount_keeps s).rd _ _ (by decide +kernel)]

/-! ## What sending a request leaves -/

theorem sendTag_evStay (s : State) (n : Nat) : EvStay s (sendTag s n) := by
  unfold sendTag
  split
  · exact .refl s
  · have hput : ∀ (x : TagSt) (f : Fld), f.off ≠ 0x010 → EvStay s ((setTag s n (some x)).inc P.txn f) := fun x f hf =>
      (EvStay.of_regs (s := s) (t := setTag s n (some x)) rfl).wr P.txn f _ hf
    split
    · exact (hput _ _ (by decide)).trans (originate_offered ..).moved.ev
    · exact (hput _ _ (by decide)).trans (originate_offered ..).moved.ev

theorem putTag_evStay (s : State) (g : TagSt) : EvStay s (putTag s g).2 := .of_regs rfl

theorem takeTag_evStay (s : State) (g : TagSt) : EvStay s (takeTag s g).2 := by
  unfold takeTag
  extract_lets known waits fetch _ u x
  have hu : EvStay s u := .ite (((putTag_evStay s _).wr P.txn F.TXN_CNT_INC_FETCH_N _ (by decide)).trans (sendTag_evStay ..)) (.refl s)
  split
  · exact hu
  · have hx : EvStay s x.2 := hu.trans (putTag_evStay ..)
    exact .ite hx (hx.trans (sendTag_evStay ..))

theorem readFetch_evStay (s : State) (init dst off n : Nat) : EvStay s (readFetch s init dst off n) := by
  unfold readFetch
  split
  · exact .refl s
  · dsimp only
    split
    · exact .of_regs rfl
    · generalize hg : newReq init dst _ _ _ _ = g
      have hput := takeTag_evStay s g
      split
      · rename_i heq
        rw [heq] at hput
        exact EvStay.trans hput (.of_regs rfl)
      · rename_i heq
        rw [heq] at hput
        exact hput

/-! ## Operations of the flash (R441) -/

/-- A command that is not refused starts its operation. -/
theorem flashCmd_runs {s : State} {op : Nat} (hb : s.on P.flash F.FLASH_FL_STAT_BUSY = false ∧ s.on P.log F.LOG_EXP_STAT_BUSY = false)
    (ho : 1 ≤ op ∧ op ≤ 3) (ha : op = 1 → 1 ≤ s.rd P.flash F.FLASH_FL_BUF_LEN ∧
      s.rd P.flash F.FLASH_FL_ADDR_ADDR % 256 + s.rd P.flash F.FLASH_FL_BUF_LEN ≤ 256 ∧
      s.rd P.flash F.FLASH_FL_BUF_OFFSET + s.rd P.flash F.FLASH_FL_BUF_LEN ≤ 0x200000)
    (hp : s.rd P.flash F.FLASH_FL_PROT_PROT_END * 0x10000 ≤
      (flashSpan op (s.rd P.flash F.FLASH_FL_ADDR_ADDR) (s.rd P.flash F.FLASH_FL_BUF_LEN)).1) :
    (flashCmd s op).rd P.flash F.FLASH_FL_STAT_BUSY = 1 ∧ (flashCmd s op).ports.flash = some (op, s.rd P.flash F.FLASH_FL_ADDR_ADDR,
      if op = 1 then s.memRead (0x10200000 + s.rd P.flash F.FLASH_FL_BUF_OFFSET) (s.rd P.flash F.FLASH_FL_BUF_LEN) else []) := by
  have hbusy : (s.on P.flash F.FLASH_FL_STAT_BUSY || s.on P.log F.LOG_EXP_STAT_BUSY) = false := by rw [hb.1, hb.2]; rfl
  unfold flashCmd
  dsimp only
  rw [hbusy, if_neg Bool.false_ne_true, if_neg (by omega), if_neg (by omega)]
  have hset : ((s.wr P.flash F.FLASH_FL_STAT_BUSY 1).wr P.flash F.FLASH_FL_STAT_RESULT 0).rd P.flash F.FLASH_FL_STAT_BUSY = 1 :=
    (rd_wr_beside _ _ _ rfl).trans (rd_wr_same ..)
  exact ⟨hset, rfl⟩

/-- FL_CMD, written by one that may, is the flash controller's command. -/
theorem flashStore_eq {s : State} {who : By} (h : MayWrite s who P.flash 0x048) {op : Nat} (ho : op < 16) :
    busStore s who P.flash 0x048 (op * 2 ^ 28) = flashCmd (dropArms s P.flash) op := by
  have hop : op * 2 ^ 28 / 2 ^ 28 % 16 = op := by rw [Nat.mul_div_cancel _ (by decide), Nat.mod_eq_of_lt ho]
  have heff : ∀ (d : State) (w : Nat), writeEffect d d who P.flash 0x048 w = flashCmd d (w / 2 ^ 28 % 16) := fun _ _ => rfl
  exact h.block _ (by decide +kernel) (by decide +kernel) (by decide) (.inl rfl) ((heff ..).trans (congrArg (flashCmd _) hop))

theorem flashResult_leaves (s : State) (r : Nat) (h : r < 2 ^ F.FLASH_FL_STAT_RESULT.width) :
    (flashResult s r).rd P.flash F.FLASH_FL_STAT_RESULT = r ∧ (flashResult s r).ports = s.ports ∧ (flashResult s r).mem = s.mem := by
  unfold flashResult
  refine ⟨((raise_keeps ..).rd _ _ rfl).trans ((rd_wr_same ..).trans (Nat.mod_eq_of_lt h)), (raise_keeps ..).ports rfl, (raise_keeps ..).mem rfl⟩

/-- Bytes that are erased read blank. -/
theorem memAt_flashErase (s : State) {a n x : Nat} (h : 0x50000000 + a ≤ x ∧ x < 0x50000000 + a + n) :
    (flashErase s a n).memAt x = memBlank x := by
  unfold flashErase State.memAt
  dsimp only
  induction s.mem with
  | nil => rfl
  | cons e r ih =>
    rw [List.filter_cons]
    split
    · rename_i he
      rw [alGet, if_neg (by rintro rfl; simp [h] at he)]
      exact ih
    · exact ih

theorem memAt_flashProgram (s : State) (a : Nat) (b : List Nat) {k : Nat} (hk : k < b.length) :
    ((flashProgram s a b).memAt (0x50000000 + a + k)).toNat = (s.memAt (0x50000000 + a + k)).toNat &&& b.getD k 0 := by
  unfold flashProgram
  rw [memAt_memWrite, if_pos (by simp; omega), Nat.add_sub_cancel_left, List.getD_eq_getElem?_getD, List.getElem?_map,
    List.getElem?_range hk, Option.map_some, Option.getD_some, BitVec.toNat_ofNat, Nat.mod_eq_of_lt]
  exact lt_of_le_of_lt Nat.and_le_left (BitVec.isLt _)

/-- The doorbell word's bits are set in both directions (R440). -/
theorem doorbell_sets (s : State) (v : Nat) :
    (effHost s 0x044 (v % 2 ^ 32)).rd P.host F.HOSTPORT_DOORBELL_TO_HUB = (s.rd P.host F.HOSTPORT_DOORBELL_TO_HUB ||| v % 2 ^ 16) % 2 ^ 16 ∧
      (effHost s 0x044 (v % 2 ^ 32)).rd P.host F.HOSTPORT_DOORBELL_TO_HOST =
        (s.rd P.host F.HOSTPORT_DOORBELL_TO_HOST ||| v / 2 ^ 16 % 2 ^ 16) % 2 ^ 16 := by
  have hlow : v % 2 ^ 32 % 2 ^ 16 = v % 2 ^ 16 := by omega
  have hhigh : v % 2 ^ 32 / 2 ^ 16 % 2 ^ 16 = v / 2 ^ 16 % 2 ^ 16 := by omega
  have hraise : ∀ (t : State) b f, regGroup ⟨P.host, f.off, f.lsb, 0⟩ = regGroup ⟨P.host, 0x044, 0, 0⟩ →
      (raiseIf t b P.host 0).rd P.host f = t.rd P.host f := fun t b f hf => (raiseIf_keeps ..).rd _ _ (hf ▸ rfl)
  unfold effHost
  rw [if_pos rfl]
  dsimp only
  rw [hlow, hhigh, hraise _ _ _ rfl, hraise _ _ _ rfl]
  have hbeside : ∀ x, (s.wr P.host F.HOSTPORT_DOORBELL_TO_HOST x).rd P.host F.HOSTPORT_DOORBELL_TO_HUB =
      s.rd P.host F.HOSTPORT_DOORBELL_TO_HUB := fun x => rd_wr_beside _ _ _ rfl
  refine ⟨(rd_wr_same ..).trans (congrArg (fun x => (x ||| _) % 2 ^ 16) (hbeside _)), (rd_wr_beside _ _ _ rfl).trans (rd_wr_same ..)⟩

/-- The doorbell word's bits are cleared in both directions (R440). -/
theorem doorbellClr_clears (s : State) (v : Nat) :
    (effHost s 0x048 (v % 2 ^ 32)).rd P.host F.HOSTPORT_DOORBELL_TO_HUB = andNot (s.rd P.host F.HOSTPORT_DOORBELL_TO_HUB) (v % 2 ^ 16) % 2 ^ 16 ∧
      (effHost s 0x048 (v % 2 ^ 32)).rd P.host F.HOSTPORT_DOORBELL_TO_HOST =
        andNot (s.rd P.host F.HOSTPORT_DOORBELL_TO_HOST) (v / 2 ^ 16 % 2 ^ 16) % 2 ^ 16 := by
  have hlow : v % 2 ^ 32 % 2 ^ 16 = v % 2 ^ 16 := by omega
  have hhigh : v % 2 ^ 32 / 2 ^ 16 % 2 ^ 16 = v / 2 ^ 16 % 2 ^ 16 := by omega
  unfold effHost
  rw [if_neg (by decide), if_pos rfl]
  dsimp only
  rw [hlow, hhigh]
  have hbeside : ∀ x, (s.wr P.host F.HOSTPORT_DOORBELL_TO_HOST x).rd P.host F.HOSTPORT_DOORBELL_TO_HUB =
      s.rd P.host F.HOSTPORT_DOORBELL_TO_HUB := fun x => rd_wr_beside _ _ _ rfl
  exact ⟨(rd_wr_same ..).trans (congrArg (fun x => andNot x _ % 2 ^ 16) (hbeside _)), (rd_wr_beside _ _ _ rfl).trans (rd_wr_same ..)⟩

/-- A good completion: the operation is over, RESULT is OK, and its bytes are as the operation left them. -/
theorem flashDone_ok {s : State} {p a : Nat} {b : List Nat} (h : s.ports.flash = some (p, a, b)) (halive : s.alive = true)
    (hdom : domOn s 7 = true) : ∃ t u, exec (.flashDone true) s = .next t ∧ u.mem = s.mem ∧
      t.rd P.flash F.FLASH_FL_STAT_RESULT = FR.ok ∧ t.ports.flash = none ∧
      t.mem = (if p = 1 then flashProgram u (flashSpan p a b.length).1 b
        else flashErase u (flashSpan p a b.length).1 (flashSpan p a b.length).2).mem := by
  let u := ({ s with ports := { s.ports with flash := none } } : State).wr P.flash F.FLASH_FL_STAT_BUSY 0
  let w := if p = 1 then flashProgram u (flashSpan p a b.length).1 b else flashErase u (flashSpan p a b.length).1 (flashSpan p a b.length).2
  have hrun : exec (.flashDone true) s = .next (flashResult w FR.ok) := by
    refine congrArg Host.Outcome.next ((if_pos (by simp [halive, hdom])).trans ?_)
    rw [h]
    rfl
  obtain ⟨hres, hports, hmem⟩ := flashResult_leaves w FR.ok (by decide)
  have hw : w.ports = u.ports := by
    dsimp only [w]
    split
    · exact (flashProgram_keeps ..).ports rfl
    · rfl
  exact ⟨_, u, hrun, rfl, hres, by rw [hports, hw]; rfl, hmem⟩

/-- Settles O47. -/
theorem hostPortAndFlash : Obligations.HostPortAndFlash := by
  unfold Obligations.HostPortAndFlash
  have hne : ∀ {s : State}, hostOn s = true → ∀ {n : Nat}, n % 4 = 0 ∧ 4 ≤ n ∧ n ≤ 256 →
      (hostOn s && n % 4 == 0 && decide (4 ≤ n ∧ n ≤ 256)) = true := fun h n hn => by simp [h, hn]
  refine ⟨?_, ?_, ?_, ?_, ?_, ?_, ?_, ?_, ?_, ?_⟩
  case refine_1 =>
    intro s a n hon hn ha hr _
    refine ⟨_, congrArg Host.Outcome.next (if_pos (hne hon hn)), ?_⟩
    dsimp only
    rw [if_neg (by simp), if_neg (by simp [ha]), hostFetch_data hr ha (by omega), memRead_of_keeps (hostCount_keeps s) (by decide +kernel)]
    rfl
  case refine_2 =>
    intro s a b x hon hn ha hr _ hi
    refine ⟨_, congrArg Host.Outcome.next (if_pos (hne hon hn)), ?_⟩
    dsimp only
    have hi' : ((List.range b.length).all fun k => ((s.inc P.host F.HOSTPORT_HP_CNT_CMD_N).imageOff (a + k)).isNone) = true := by
      simpa only [imageOff_hostCount] using hi
    rw [if_neg (by simp), if_neg (by simp [ha]), remoteOf_data hr]
    dsimp only
    rw [fieldAddr_data hr]
    dsimp only
    rw [localWrite_data hr ha (by omega) hi']
    generalize hu : (s.inc P.host F.HOSTPORT_HP_CNT_CMD_N).memWrite a b = u
    have hkeep : u.ports = s.ports := by
      rw [← hu, (State.memWrite_keeps ..).ports rfl]
      rfl
    have hmem : u.memAt x = if a ≤ x ∧ x < a + b.length then BitVec.ofNat 8 (b.getD (x - a) 0) else s.memAt x := by
      rw [← hu, memAt_memWrite]
      rfl
    exact ⟨congrArg (fun p : PortSt => _ :: p.host) hkeep, hmem⟩
  case refine_3 =>
    intro s b a n hon
    refine ⟨_, congrArg Host.Outcome.next (if_pos hon), ?_⟩
    dsimp only
    generalize hu : countRaise (s.inc P.host F.HOSTPORT_HP_CNT_CMD_N) P.host F.HOSTPORT_HP_CNT_ABORT_N P.host 2 = u
    have hev : u.bit P.host F.HDR_EV_STAT_EV 2 = true := hu ▸ bit_raise _ _ _ (by decide)
    have hcnt : u.rd P.host F.HOSTPORT_HP_CNT_ABORT_N =
        satAdd F.HOSTPORT_HP_CNT_ABORT_N.width (s.rd P.host F.HOSTPORT_HP_CNT_ABORT_N) 1 := by
      rw [← hu, countRaise, (raise_keeps ..).rd _ _ rfl, rd_inc_same]
      exact congrArg (fun x => satAdd _ x 1) (rd_wr_beside _ _ _ rfl)
    have hslot : Keeps (2 ^ 16) u (hostSlot u a n).2 := (hostSlot_keeps ..).mono rfl
    split
    · split
      · split
        · exact ⟨(readFetch_evStay ..).keep _ _ (by decide) hev, ((readFetch_keeps ..).rd _ _ rfl).trans hcnt⟩
        · exact ⟨hev, hcnt⟩
      · unfold State.when
        split
        · exact ⟨(EvStay.of_keeps hslot rfl).keep _ _ (by decide) hev, (hslot.rd _ _ rfl).trans hcnt⟩
        · exact ⟨hev, hcnt⟩
    · exact ⟨hev, hcnt⟩
  case refine_4 =>
    intro s who v h
    refine ⟨_, congrArg Host.Outcome.next (h.block _ (by decide +kernel) (by decide +kernel) (by decide) (.inl rfl)
      (t := effHost (dropArms s P.host) 0x044 (v % 2 ^ 32)) rfl), ?_⟩
    exact doorbell_sets ..
  case refine_5 =>
    intro s who v h
    refine ⟨_, congrArg Host.Outcome.next (h.block _ (by decide +kernel) (by decide +kernel) (by decide) (.inl rfl)
      (t := effHost (dropArms s P.host) 0x048 (v % 2 ^ 32)) rfl), ?_⟩
    exact doorbellClr_clears ..
  case refine_6 =>
    intro s who a n h hb ⟨ha, hn⟩ hp ho hprot
    subst ha hn
    obtain ⟨hbusy, hflash⟩ := flashCmd_runs (s := dropArms s P.flash) (op := 1) hb (by omega) (fun _ => ⟨hp.1, hp.2, ho⟩) hprot
    refine ⟨_, congrArg Host.Outcome.next (flashStore_eq h (op := 1) (by decide)), hbusy, hflash.trans ?_⟩
    rw [if_pos rfl, memRead_of_keeps (dropArms_keeps ..) rfl]
    rfl
  case refine_7 =>
    intro s who a h hb ha hprot
    obtain ⟨hbusy, hflash⟩ := flashCmd_runs (s := dropArms s P.flash) (op := 2) hb (by omega) (fun e => by simp at e) (ha ▸ hprot)
    exact ⟨_, congrArg Host.Outcome.next (flashStore_eq h (op := 2) (by decide)), hbusy, ha ▸ hflash⟩
  case refine_8 =>
    intro s who a h hb ha hprot
    obtain ⟨hbusy, hflash⟩ := flashCmd_runs (s := dropArms s P.flash) (op := 3) hb (by omega) (fun e => by simp at e) (ha ▸ hprot)
    exact ⟨_, congrArg Host.Outcome.next (flashStore_eq h (op := 3) (by decide)), hbusy, ha ▸ hflash⟩
  case refine_9 =>
    intro s a b k halive hdom hf hk
    obtain ⟨t, u, hrun, hu, hres, hnone, hmem⟩ := flashDone_ok hf halive hdom
    refine ⟨t, hrun, hres, hnone, ?_⟩
    rw [memAt_of_mem hmem, if_pos rfl, ← memAt_of_mem hu]
    exact memAt_flashProgram u a b hk
  case refine_10 =>
    intro s p a b x halive hdom hf hp hx
    obtain ⟨t, u, hrun, -, hres, hnone, hmem⟩ := flashDone_ok hf halive hdom
    refine ⟨t, hrun, hres, hnone, ?_⟩
    have hspan : flashSpan p a b.length = flashSpan p a 0 := by rcases hp with rfl | rfl <;> rfl
    rw [memAt_of_mem hmem, if_neg (by omega), hspan]
    exact memAt_flashErase u hx

end Sys2Proof.Machine
end

section
/-!
PROOF. Compare registers, core control, the watchdogs, claims and EVT pulses (19_processors_and_events.md): O58.
-/

namespace Sys2Proof.Machine

/-! ## Core control (R511) -/

/-- Core `k` is to run. -/
def coreRuns (s : State) (k : Nat) : Bool := s.bit P.cores F.CORES_CORE_CTRL_HART_EN k && domOn s 3 && s.st != NS.isolate

/-- What one core does as the cores follow HART_EN, the CORE domain and ISOLATE. -/
def coreFollow (s : State) (k : Nat) : State :=
  if coreRuns s k && !s.bit P.cores F.CORES_CORE_STAT_RUNNING k then coreStart s k (resetVec s) 0 0
  else if !coreRuns s k && s.bit P.cores F.CORES_CORE_STAT_RUNNING k then coreHold s k
  else s

theorem coresFollow_eq (s : State) : coresFollow s = wdtsFollow (s.each 4 coreFollow) := rfl

/-- Beside the cores' own records, CORE_STAT alone changes. -/
structure CoreStat (s t : State) : Prop where
  node : t.node = s.node
  regs : RegsKeep (fun k => k.page == P.cores && k.off == F.CORES_CORE_STAT_RUNNING.off) s t

theorem CoreStat.refl (s : State) : CoreStat s s := ⟨rfl, .refl _ s⟩

theorem CoreStat.trans {s t u : State} (h : CoreStat s t) (k : CoreStat t u) : CoreStat s u := ⟨k.node.trans h.node, h.regs.trans k.regs⟩

theorem CoreStat.setBit {s t : State} (h : CoreStat s t) {f : Fld} (hf : f.off = F.CORES_CORE_STAT_RUNNING.off) (k : Nat) (b : Bool) :
    CoreStat s (t.setBit P.cores f k b) := ⟨h.node, h.regs.setBit k b (by simp [hf])⟩

theorem CoreStat.runs {s t : State} (h : CoreStat s t) (k : Nat) : coreRuns t k = coreRuns s k := by
  unfold coreRuns State.st State.bit domOn State.bit
  rw [h.regs.rd _ _ rfl, h.regs.rd _ _ rfl, h.regs.rd _ _ rfl, h.node]

theorem CoreStat.vec {s t : State} (h : CoreStat s t) : resetVec t = resetVec s := by
  unfold resetVec
  rw [h.regs.rd _ _ rfl, h.regs.rd _ _ rfl]

theorem coreStart_stat (s : State) (k e a b : Nat) : CoreStat s (coreStart s k e a b) :=
  have hset : CoreStat s (setCore s k { core s k with entry := e, a0 := a, a1 := b, debug := false, wfi := false, resv := none }) :=
    ⟨rfl, .of_eq rfl⟩
  ((hset.setBit (f := F.CORES_CORE_STAT_DEBUG) rfl k false).setBit (f := F.CORES_CORE_STAT_WFI) rfl k false).setBit
    (f := F.CORES_CORE_STAT_RUNNING) rfl k true

theorem coreHold_stat (s : State) (k : Nat) : CoreStat s (coreHold s k) :=
  (((CoreStat.refl s).setBit (f := F.CORES_CORE_STAT_RUNNING) rfl k false).setBit (f := F.CORES_CORE_STAT_DEBUG) rfl k false).setBit
    (f := F.CORES_CORE_STAT_WFI) rfl k false

theorem coreFollow_stat (s : State) (k : Nat) : CoreStat s (coreFollow s k) := by
  unfold coreFollow
  split
  · exact coreStart_stat ..
  · split
    · exact coreHold_stat ..
    · exact .refl s

theorem running_coreStart (s : State) (k e a b : Nat) {j : Nat} (hj : j < 4) : (coreStart s k e a b).bit P.cores F.CORES_CORE_STAT_RUNNING j =
    if j = k then true else s.bit P.cores F.CORES_CORE_STAT_RUNNING j := by
  refine (bit_setBit _ _ _ _ _ _ hj).trans (ite_congr rfl (fun _ => rfl) fun _ => ?_)
  exact congrArg (bitOf · j) ((rd_wr_beside _ _ _ rfl).trans (rd_wr_beside _ _ _ rfl))

theorem running_coreHold (s : State) (k : Nat) {j : Nat} (hj : j < 4) : (coreHold s k).bit P.cores F.CORES_CORE_STAT_RUNNING j =
    if j = k then false else s.bit P.cores F.CORES_CORE_STAT_RUNNING j :=
  (congrArg (bitOf · j) ((rd_wr_beside _ _ _ rfl).trans (rd_wr_beside _ _ _ rfl))).trans (bit_setBit _ _ _ _ _ _ hj)

theorem running_coreFollow (s : State) (k : Nat) {j : Nat} (hj : j < 4) : (coreFollow s k).bit P.cores F.CORES_CORE_STAT_RUNNING j =
    if j = k then coreRuns s k else s.bit P.cores F.CORES_CORE_STAT_RUNNING j := by
  unfold coreFollow
  split
  · rename_i h
    simp only [Bool.and_eq_true] at h
    rw [running_coreStart _ _ _ _ _ hj, h.1]
  · split
    · rename_i h
      simp only [Bool.and_eq_true, Bool.not_eq_true'] at h
      rw [running_coreHold _ _ hj, h.1]
    · rename_i h1 h2
      split
      · subst j
        revert h1 h2
        cases coreRuns s k <;> cases s.bit P.cores F.CORES_CORE_STAT_RUNNING k <;> decide
      · rfl

theorem core_coreFollow_ne (s : State) {k j : Nat} (h : j ≠ k) : core (coreFollow s k) j = core s j := by
  unfold coreFollow
  split
  · exact Tbl.at_put_ne _ _ h _
  · split <;> rfl

theorem entry_coreFollow (s : State) (k : Nat) (hr : coreRuns s k = true) (hw : s.bit P.cores F.CORES_CORE_STAT_RUNNING k = false) :
    (core (coreFollow s k) k).entry = resetVec s := by
  unfold coreFollow
  rw [if_pos (by simp [hr, hw])]
  exact congrArg CoreSt.entry (Tbl.at_put_same ..)

/-- After the first `m` cores have followed, they run as they are to, those that start at RESET_VEC, and the others as before. -/
theorem each_coreFollow (s : State) : ∀ m ≤ 4, CoreStat s (s.each m coreFollow) ∧ ∀ j < 4,
    (s.each m coreFollow).bit P.cores F.CORES_CORE_STAT_RUNNING j =
      (if j < m then coreRuns s j else s.bit P.cores F.CORES_CORE_STAT_RUNNING j) ∧
    (j < m → coreRuns s j = true → s.bit P.cores F.CORES_CORE_STAT_RUNNING j = false → (core (s.each m coreFollow) j).entry = resetVec s) := by
  intro m
  induction m with
  | zero => exact fun _ => ⟨.refl s, fun j _ => ⟨rfl, fun h => absurd h (Nat.not_lt_zero j)⟩⟩
  | succ m ih =>
    intro hm
    obtain ⟨hstat, hall⟩ := ih (by omega)
    have hstep : s.each (m + 1) coreFollow = coreFollow (s.each m coreFollow) m := by
      unfold State.each
      rw [List.range_succ, List.foldl_append]
      rfl
    rw [hstep]
    generalize s.each m coreFollow = t at *
    refine ⟨hstat.trans (coreFollow_stat ..), fun j hj => ?_⟩
    obtain ⟨hrun, hentry⟩ := hall j hj
    rw [running_coreFollow _ _ hj, hrun, hstat.runs]
    by_cases h : j = m
    · subst j
      rw [if_pos rfl, if_pos (by omega)]
      refine ⟨rfl, fun _ hr hw => (entry_coreFollow t m (hstat.runs m ▸ hr) ?_).trans hstat.vec⟩
      rw [hrun, if_neg (by omega), hw]
    · rw [if_neg h, core_coreFollow_ne t h]
      exact ⟨ite_congr (by simp; omega) (fun _ => rfl) fun _ => rfl, fun hj => hentry (by omega)⟩

theorem entry_wdtsFollow (s : State) (j : Nat) : (core (wdtsFollow s) j).entry = (core s j).entry := by
  have hset : ∀ (t : State) k x, x.entry = (core t k).entry → (core (setCore t k x) j).entry = (core t j).entry := by
    intro t k x hx
    by_cases h : j = k
    · subst j
      exact (congrArg CoreSt.entry (Tbl.at_put_same ..)).trans hx
    · exact congrArg CoreSt.entry (Tbl.at_put_ne _ _ h _)
  have hone : ∀ (t : State) k, (core (wdtFollow t k) j).entry = (core t j).entry := by
    intro t k
    unfold wdtFollow
    dsimp only
    split
    · split
      · rfl
      · exact hset _ _ _ rfl
    · split
      · exact hset _ _ _ rfl
      · exact hset _ _ _ rfl
      · rfl
  have hfold : ∀ (l : List Nat) (t : State), (core (l.foldl wdtFollow t) j).entry = (core t j).entry := by
    intro l
    induction l with
    | nil => exact fun _ => rfl
    | cons k l ih => exact fun t => (ih _).trans (hone t k)
  exact hfold _ s

/-- The cores follow: each runs exactly where it is to, and one that starts does so at RESET_VEC. -/
theorem coresFollow_runs (s : State) {k : Nat} (hk : k < 4) :
    (coresFollow s).bit P.cores F.CORES_CORE_STAT_RUNNING k = coreRuns s k ∧
      (coreRuns s k = true → s.bit P.cores F.CORES_CORE_STAT_RUNNING k = false → (core (coresFollow s) k).entry = resetVec s) := by
  obtain ⟨-, hall⟩ := each_coreFollow s 4 (le_refl 4)
  obtain ⟨hrun, hentry⟩ := hall k hk
  rw [coresFollow_eq, entry_wdtsFollow]
  refine ⟨((wdtsFollow_keeps ..).bit _ _ _ rfl).trans (hrun.trans (if_pos hk)), hentry hk⟩

theorem coresFollow_rd (s : State) {f : Fld} (hf : f.off ≠ F.CORES_CORE_STAT_RUNNING.off) :
    (coresFollow s).rd P.cores f = s.rd P.cores f := by
  obtain ⟨hstat, -⟩ := each_coreFollow s 4 (le_refl 4)
  rw [coresFollow_eq, rd_of_regs ((wdtsFollow_keeps ..).regs rfl)]
  exact hstat.regs.rd _ _ (by simp [hf])

/-! ## Claims (R519) -/

/-- The source that a claim finds can be claimed, and no other goes before it. -/
theorem bestSource_spec (s : State) (k : Nat) : (bestSource s k = none ∧ ∀ m < 512, claimable s k m = false) ∨
    ∃ n < 512, bestSource s k = some n ∧ claimable s k n = true ∧ ∀ m < 512, claimable s k m = true →
      m = n ∨ srcPrio s m < srcPrio s n ∨ srcPrio s m = srcPrio s n ∧ n < m := by
  unfold bestSource
  generalize 512 = top
  induction top with
  | zero => exact .inl ⟨rfl, fun m h => absurd h (Nat.not_lt_zero m)⟩
  | succ top ih =>
    rw [List.range_succ, List.foldl_append, List.foldl_cons, List.foldl_nil]
    rcases ih with ⟨hnone, hno⟩ | ⟨n, hn, hsome, hc, hbest⟩
    · rw [hnone]
      by_cases h : claimable s k top = true
      · exact .inr ⟨top, by omega, if_pos h, h, fun m hm hcm => .inl (by
          by_contra hne
          exact absurd (hno m (by omega)) (by simp [hcm]))⟩
      · refine .inl ⟨if_neg h, fun m hm => ?_⟩
        rcases Nat.lt_succ_iff_lt_or_eq.mp hm with hlt | rfl
        · exact hno m hlt
        · simpa using h
    · rw [hsome]
      dsimp only
      by_cases h : claimable s k top = true
      · by_cases hp : srcPrio s n < srcPrio s top
        · refine .inr ⟨top, by omega, (if_pos h).trans (if_pos hp), h, fun m hm hcm => ?_⟩
          rcases Nat.lt_succ_iff_lt_or_eq.mp hm with hlt | rfl
          · rcases hbest m hlt hcm with rfl | h | ⟨h, -⟩ <;> omega
          · exact .inl rfl
        · refine .inr ⟨n, by omega, (if_pos h).trans (if_neg hp), hc, fun m hm hcm => ?_⟩
          rcases Nat.lt_succ_iff_lt_or_eq.mp hm with hlt | rfl
          · exact hbest m hlt hcm
          · omega
      · refine .inr ⟨n, by omega, if_neg h, hc, fun m hm hcm => ?_⟩
        rcases Nat.lt_succ_iff_lt_or_eq.mp hm with hlt | rfl
        · exact hbest m hlt hcm
        · exact absurd hcm h

theorem bestSource_some {s : State} {k n : Nat} (hn : n < 512) (hc : claimable s k n = true)
    (hbest : ∀ m < 512, claimable s k m = true → m = n ∨ srcPrio s m < srcPrio s n ∨ srcPrio s m = srcPrio s n ∧ n < m) :
    bestSource s k = some n := by
  rcases bestSource_spec s k with ⟨-, hno⟩ | ⟨m, hm, hsome, hcm, hmax⟩
  · exact absurd hc (by simp [hno n hn])
  · rw [hsome]
    rcases hbest m hm hcm with rfl | h | h
    · rfl
    · rcases hmax n hn hc with rfl | h' | h' <;> omega
    · rcases hmax n hn hc with rfl | h' | h' <;> omega

/-- A read of CLAIMk that reaches the page is a claim. -/
theorem claimRead_eq {s : State} {who : By} {k : Nat} (halive : s.alive = true) (hk : k < 5) (ht : tapShut s who P.ev3 = false) :
    busRead s who P.ev3 (0x044 + 8 * k) = routerClaim s k := by
  simp only [State.alive, Bool.and_eq_true, Bool.not_eq_true', bne_iff_ne] at halive
  obtain ⟨⟨⟨h1, h2⟩, h3⟩, h4⟩ := halive
  unfold busRead
  rw [if_neg (by simp [h1, h2, h3, ht]), if_neg (by decide), if_neg h4, regRead, if_pos (by omega)]
  exact congrArg (routerClaim s) (by omega)

theorem andNot_ne_zero {a b k : Nat} (ha : bitOf a k = true) (hb : bitOf b k = false) : andNot a b ≠ 0 := by
  intro h
  have hle : a &&& b ≤ a := Nat.and_le_left
  have he : a &&& b = a := by unfold andNot at h; omega
  have : bitOf (a &&& b) k = true := by rw [he, ha]
  rw [bitOf_eq_testBit, Nat.testBit_and, ← bitOf_eq_testBit, ← bitOf_eq_testBit, ha, hb] at this
  exact absurd this (by decide)

/-- A write of CORE_CTRL: its two fields hold what is written, and the cores follow. -/
theorem hartEn_store {s : State} {who : By} (h : MayWrite s who P.cores 0x040) (m : Nat) (p : Bool) (hm : m < 16) :
    ∃ u, RegsKeep (fun k => k.page == P.cores && k.off == 0x040) s u ∧ u.node.rails = s.node.rails ∧
      u.rd P.cores F.CORES_CORE_CTRL_HART_EN = m ∧ u.rd P.cores F.CORES_CORE_CTRL_DBG_PAUSE = b2n p ∧
      busStore s who P.cores 0x040 (mkWord [(F.CORES_CORE_CTRL_HART_EN, m), (F.CORES_CORE_CTRL_DBG_PAUSE, b2n p)]) = coresFollow u := by
  have hp : b2n p < 2 := by cases p <;> decide
  have hword : mkWord [(F.CORES_CORE_CTRL_HART_EN, m), (F.CORES_CORE_CTRL_DBG_PAUSE, b2n p)] = m + b2n p * 2 ^ 8 := by
    simp only [mkWord, List.foldl_cons, List.foldl_nil, F.CORES_CORE_CTRL_HART_EN, F.CORES_CORE_CTRL_DBG_PAUSE]
    omega
  have hregs : regFields P.cores 0x040 = [F.CORES_CORE_CTRL_DBG_PAUSE, F.CORES_CORE_CTRL_HART_EN] := by decide +kernel
  have hst : ∀ (t : State) w, (f : Fld) → f.acc = .rw → (absentField P.cores f || ownStore P.cores f || fixedField t P.cores f) = false →
      storeField t who P.cores f w = t.wr P.cores f (fbits w f) := fun t w f ha hn => by
    rw [storeField_rw ha hn]
    rfl
  have hpause : fbits (m + b2n p * 2 ^ 8) F.CORES_CORE_CTRL_DBG_PAUSE = b2n p := by
    show (m + b2n p * 2 ^ 8) / 2 ^ 8 % 2 ^ 1 = b2n p
    omega
  have hhart : fbits (m + b2n p * 2 ^ 8) F.CORES_CORE_CTRL_HART_EN = m := by
    show (m + b2n p * 2 ^ 8) / 2 ^ 0 % 2 ^ 4 = m
    omega
  have hlow : (m + b2n p * 2 ^ 8) % 16 = m := by omega
  have heff : ∀ (d t : State) w, writeEffect d t who P.cores 0x040 w = coresFollow (t.wr P.cores F.CORES_CORE_CTRL_HART_EN (w % 16)) :=
    fun _ _ _ => rfl
  refine ⟨(((dropArms s P.cores).wr P.cores F.CORES_CORE_CTRL_DBG_PAUSE (b2n p)).wr P.cores F.CORES_CORE_CTRL_HART_EN m).wr
    P.cores F.CORES_CORE_CTRL_HART_EN m, ?_, rfl, ?_, ?_, ?_⟩
  · exact ((RegsKeep.of_eq (s := s) (t := dropArms s P.cores) rfl).wr _ rfl).wr _ rfl |>.wr _ rfl
  · exact (rd_wr_same ..).trans (Nat.mod_eq_of_lt hm)
  · refine ((rd_wr_beside _ _ _ rfl).trans (rd_wr_beside _ _ _ rfl)).trans ((rd_wr_same ..).trans (Nat.mod_eq_of_lt hp))
  · rw [hword, h.plain _ (by decide +kernel) (by decide), hregs]
    simp only [List.foldl_cons, List.foldl_nil]
    rw [hst _ _ _ rfl rfl, hst _ _ _ rfl rfl, hpause, hhart, heff, hlow]

/-- Settles O58. -/
theorem coresWatchdogsAndClaims : Obligations.CoresWatchdogsAndClaims := by
  unfold Obligations.CoresWatchdogsAndClaims
  refine ⟨?_, ?_, ?_, ?_, ?_, ?_, ?_, ?_, ?_⟩
  case refine_1 =>
    intro s k x halive hk hcmp
    refine ⟨_, congrArg Host.Outcome.next (if_pos (by simp [halive, hk, hcmp])), ?_, fun j hj => Tbl.at_put_ne _ _ hj _, rfl, rfl⟩
    refine (congrArg CoreSt.mtip (Tbl.at_put_same ..)).trans (decide_eq_true ?_)
    exact hcmp.trans (le_max_right s.now x)
  case refine_2 =>
    intro s who m p h hm
    obtain ⟨u, hregs, hrails, hhart, hpause, hst⟩ := hartEn_store h m p hm
    refine ⟨coresFollow u, congrArg Host.Outcome.next ((if_neg (by omega)).trans hst), ?_, ?_, fun k hk => ?_⟩
    · exact (coresFollow_rd u (by decide)).trans hhart
    · exact (coresFollow_rd u (by decide)).trans hpause
    · obtain ⟨hrun, hentry⟩ := coresFollow_runs u hk
      have hruns : coreRuns u k = (bitOf m k && domOn s 3 && s.st != NS.isolate) := by
        unfold coreRuns State.st State.bit domOn State.bit
        rw [hhart, hregs.rd _ _ rfl, hregs.rd _ _ rfl, hrails]
      have hvec : resetVec u = resetVec s := by
        unfold resetVec
        rw [hregs.rd _ _ rfl, hregs.rd _ _ rfl]
      refine ⟨hrun.trans hruns, fun hon hoff => (hentry (hrun ▸ hon) ?_).trans hvec⟩
      rw [State.bit, hregs.rd _ _ rfl]
      exact hoff
  case refine_3 =>
    rintro s x halive hon hat ⟨k, -, hj, hd⟩
    refine ⟨_, congrArg Host.Outcome.next (if_pos ?_), ?_⟩
    · simp only [halive, hon, hat, Bool.true_and, decide_true, bne_iff_ne]
      exact andNot_ne_zero hj hd
    · rw [countRaise, (raise_keeps ..).rd _ _ rfl, rd_inc_same]
      rfl
  case refine_4 =>
    intro s who m h hini hm hb
    have hword : mkWord [(F.CORES_FWDT_KICK_KEY, 0x4B43), (F.CORES_FWDT_KICK_CORE, m)] = 0x4B43 * 2 ^ 16 + m := by
      simp [F.CORES_FWDT_KICK_KEY, F.CORES_FWDT_KICK_CORE, mkWord]
      omega
    have hwrite : ∀ (d : State) w, writeEffect d d who P.cores 0x0B4 w = fwdtKick d who.ini (w / 2 ^ 16 % 2 ^ 16) (w % 16) := fun _ _ => rfl
    have heff : fwdtKick (dropArms s P.cores) who.ini ((0x4B43 * 2 ^ 16 + m) / 2 ^ 16 % 2 ^ 16) ((0x4B43 * 2 ^ 16 + m) % 16) =
        wdtRestart ((dropArms s P.cores).setBit P.cores F.CORES_FWDT_STAT_WARNED who.ini false) who.ini
          ((dropArms s P.cores).upAt (dropArms s P.cores).now) := by
      rw [show (0x4B43 * 2 ^ 16 + m) / 2 ^ 16 % 2 ^ 16 = 0x4B43 by omega, show (0x4B43 * 2 ^ 16 + m) % 16 = m by omega]
      exact if_pos ⟨rfl, hini, hb⟩
    have hrun := h.block (0x4B43 * 2 ^ 16 + m) (by decide +kernel) (by decide +kernel) (by decide) (.inl rfl) ((hwrite ..).trans heff)
    rw [← hword] at hrun
    refine ⟨_, congrArg Host.Outcome.next hrun, (bit_setBit _ _ _ _ _ _ hini).trans (if_pos rfl), fun k hk hne => (bit_setBit _ _ _ _ _ _ hk).trans (if_neg hne)⟩
  case refine_5 =>
    intro s k hk hmay hw
    refine ⟨_, congrArg Host.Outcome.next ((if_neg (by simp [hk, hmay])).trans (if_neg (by simp [hw]))), ?_, ?_⟩
    · rw [countRaise, (raise_keeps ..).bit _ _ _ rfl]
      refine (congrArg (bitOf · k) (rd_wr_beside _ _ _ rfl)).trans ?_
      exact (bit_setBit _ _ _ _ _ _ hk).trans (if_pos rfl)
    · rw [countRaise, (raise_keeps ..).rd _ _ rfl, rd_inc_same]
      exact congrArg (fun v => satAdd _ v 1) (rd_wr_beside _ _ _ rfl)
  case refine_6 =>
    intro s who h hini
    have hwrite : ∀ (d : State) w, writeEffect d d who P.cores 0x0C4 w = mwdtKick d who.ini (w / 2 ^ 16 % 2 ^ 16) := fun _ _ => rfl
    refine ⟨_, congrArg Host.Outcome.next (h.block _ (by decide +kernel) (by decide +kernel) (by decide) (.inl rfl)
      (t := wdtRestart ((dropArms s P.cores).wr P.cores F.CORES_MWDT_STAT_WARNED 0) 4 ((dropArms s P.cores).upAt (dropArms s P.cores).now))
      ((hwrite ..).trans (if_pos ⟨by decide, hini⟩))), ?_⟩
    exact (rd_wr_same (dropArms s P.cores) P.cores F.CORES_MWDT_STAT_WARNED 0).trans rfl
  case refine_7 =>
    intro s hmay hw
    refine ⟨_, congrArg Host.Outcome.next ((if_neg (by simp [hmay])).trans (if_neg (by simp [hw]))), ?_, ?_⟩
    · rw [countRaise, (raise_keeps ..).rd _ _ rfl]
      exact (rd_wr_beside _ _ _ rfl).trans (rd_wr_same ..)
    · rw [countRaise, (raise_keeps ..).rd _ _ rfl, rd_inc_same]
      exact congrArg (fun v => satAdd _ v 1) (rd_wr_beside _ _ _ rfl)
  case refine_8 =>
    intro s k who halive hk ht
    refine ⟨_, congrArg Host.Outcome.next ((if_pos (by simp [halive, hk])).trans (congrArg (readTo who) (claimRead_eq halive hk ht))), ?_, ?_⟩
    · intro n hn hc hbest
      have hclaim : routerClaim s k = (2 ^ 31 + n, { s with router := { s.router with service := s.router.service ++ [(n, k)] } }) := by
        unfold routerClaim
        rw [bestSource_some hn hc hbest]
      rw [hclaim]
      exact ⟨Tbl.at_put_same s.stitch.readBack 0 (armWho who) _, rfl⟩
    · intro hno
      have hclaim : routerClaim s k = (0, s) := by
        unfold routerClaim
        rcases bestSource_spec s k with ⟨hnone, -⟩ | ⟨n, hn, -, hc, -⟩
        · rw [hnone]
        · exact absurd hc (by simp [hno n hn])
      rw [hclaim]
      exact ⟨Tbl.at_put_same s.stitch.readBack 0 (armWho who) 0, rfl⟩
  case refine_9 =>
    intro s p halive
    refine ⟨_, congrArg Host.Outcome.next (if_pos halive), ?_, fun q hq => ?_⟩
    · simp
    · simp [hq]

end Sys2Proof.Machine
end

section
/-!
PROOF. Requests of an activation (R554, R555), the freeze, arming and requests of an Eclipse and its read-out (21_eclipse_and_diagnostics.md):
O60.
-/

namespace Sys2Proof.Machine

theorem st_of_alive {s : State} (h : s.alive = true) : s.st ≠ NS.eclipse := by
  simp only [State.alive, Bool.and_eq_true, bne_iff_ne] at h
  exact h.2

/-! ## Activation (R554, R555) -/

theorem updResult_leaves (s : State) {r : Nat} (h : r < 2 ^ F.UPDATE_UPD_STAT_RESULT.width) :
    (updResult s r).rd P.upd F.UPDATE_UPD_STAT_RESULT = r ∧ (updResult s r).mgmt.actDue = s.mgmt.actDue := by
  have hdraw : ∀ u w v, (orDraw u w v).2.mgmt.actDue = u.mgmt.actDue := fun u w v => by rw [(orDraw_keeps u w v).mgmt rfl]
  have hput : ∀ u x, (logPut u x).mgmt.actDue = u.mgmt.actDue := fun u x => by
    unfold logPut
    dsimp only
    split <;> rfl
  refine ⟨((hubLog_keeps ..).rd _ _ rfl).trans ((rd_wr_same ..).trans (Nat.mod_eq_of_lt h)), ?_⟩
  unfold updResult hubLog logAdd
  rw [(raiseIf_keeps ..).mgmt rfl, hput, hdraw, hdraw, hdraw]
  rfl

theorem actRequest_due {s : State} {e : Nat} (hst : s.working = true ∨ s.st = NS.join) (hu : updState s = 2) :
    (actRequest s e 0).mgmt.actDue = some e := by
  unfold actRequest
  rw [if_neg]
  rintro (h | h | h)
  · rcases hst with hst | hst <;> simp [hst] at h
  · exact h hu
  · exact h.1 rfl

theorem actRequest_ignored {s : State} {e : Nat} (h : s.working = false ∧ s.st ≠ NS.join ∨ updState s ≠ 2) :
    (actRequest s e 0).rd P.upd F.UPDATE_CNT_ACT_IGNORED_N =
        satAdd F.UPDATE_CNT_ACT_IGNORED_N.width (s.rd P.upd F.UPDATE_CNT_ACT_IGNORED_N) 1 ∧
      (actRequest s e 0).mgmt.actDue = s.mgmt.actDue := by
  unfold actRequest
  rw [if_pos]
  · unfold countRaise
    rw [(raise_keeps ..).rd _ _ rfl, (raise_keeps ..).mgmt rfl, rd_inc_same]
    exact ⟨rfl, rfl⟩
  · rcases h with ⟨h1, h2⟩ | h
    · exact .inl (by simp [h1, h2])
    · exact .inr (.inl h)

theorem rd64_of_regs {s t : State} (h : t.regs = s.regs) (p : Nat) (lo hi : Fld) : t.rd64 p lo hi = s.rd64 p lo hi := by
  unfold State.rd64
  rw [rd_of_regs h, rd_of_regs h]

theorem actGo_eq (s : State) : actGo s = if s.rd64 P.upd F.UPDATE_ACT_EFF_LO_E F.UPDATE_ACT_EFF_HI_E < s.tick + 2 then updResult s 15
    else actRequest s (s.rd64 P.upd F.UPDATE_ACT_EFF_LO_E F.UPDATE_ACT_EFF_HI_E) 0 := rfl

theorem actBit_sets {s : State} {f : Fld} {ini m : Nat} (hi : ini < 5) (hm : bitOf (m % 32) ini = true) (hf : f.width = 5) :
    (actBit s f ini (m % 32)).bit P.upd f ini = true ∧
      ∀ k < 5, k ≠ ini → (actBit s f ini (m % 32)).bit P.upd f k = s.bit P.upd f k := by
  unfold actBit
  rw [if_pos ⟨hi, hm⟩]
  exact ⟨(bit_setBit _ _ _ _ _ _ (hf ▸ hi)).trans (if_pos rfl), fun k hk h => (bit_setBit _ _ _ _ _ _ (hf ▸ hk)).trans (if_neg h)⟩

/-! ## The freeze (R568) -/

/-- The safe states touch no register of the node or of ECLIPSE. -/
theorem rd_safeEnter (s : State) (chs : List Nat) (cause : Nat) {p : Nat} {f : Fld} (hg : regGroup ⟨p, f.off, f.lsb, 0⟩ = 41) (hp : p ≠ P.fdie) :
    (safeEnter evOnly s chs cause).rd p f = s.rd p f := by
  have henter : (chs.foldl (fun t c => chEnterSafe t false false c) s).rd p f = s.rd p f :=
    (Keeps.foldl (m := 4611687117943209986) (fun _ _ => chEnterSafe_keeps ..) _ _ (Keeps.refl _ _)).rd _ _ (by rw [hg]; rfl)
  unfold safeEnter
  dsimp only
  split
  · have hev := (fdieEv_keeps (fun s p k => evOnly_keeps s p k) (((chs.foldl (fun t c => chEnterSafe t false false c) s).wr P.fdie
      F.FDIE_FD_STAT_LAST_CAUSE cause).inc P.fdie F.FDIE_CNT_SAFE_N) 0).rd p f (by rw [hg]; rfl)
    exact hev.trans ((rd_inc_apart _ _ (by simp [keyApart, hp])).trans ((rd_wr_apart _ _ (by simp [keyApart, hp])).trans henter))
  · exact henter

/-- A node that is not frozen freezes: STATE, ECL_STAT, and what the freeze notes. -/
theorem freeze_sets {s : State} (hs : s.st ≠ NS.eclipse) (cause tF : Nat) (late ring : Bool) (sc co : Nat) :
    (freeze s cause tF late ring sc co).st = NS.eclipse ∧ (freeze s cause tF late ring sc co).rd P.ecl F.ECLIPSE_ECL_STAT_FROZEN = 1 ∧
      (freeze s cause tF late ring sc co).rd P.ecl F.ECLIPSE_ECL_STAT_CAUSE = cause % 2 ^ F.ECLIPSE_ECL_STAT_CAUSE.width ∧
      (freeze s cause tF late ring sc co).rd P.ecl F.ECLIPSE_ECL_STAT_LATE = b2n late ∧
      (freeze s cause tF late ring sc co).ecl.tF = tF ∧ (freeze s cause tF late ring sc co).ecl.scope = sc ∧
      (freeze s cause tF late ring sc co).ecl.armed = s.ecl.armed := by
  have hb : b2n late < 2 := by cases late <;> decide
  unfold freeze
  rw [if_neg hs]
  extract_lets s1 s2 s3 s4 n e c r s5 s6
  have hst : s4.st = NS.eclipse := (rd_wr_apart _ _ rfl).trans ((rd_wr_apart _ _ rfl).trans ((rd_wr_apart _ _ rfl).trans
    ((rd_wr_apart _ _ rfl).trans (rd_wr_same ..))))
  have hfrozen : s4.rd P.ecl F.ECLIPSE_ECL_STAT_FROZEN = 1 :=
    (rd_wr_beside _ _ _ rfl).trans ((rd_wr_beside _ _ _ rfl).trans (rd_wr_same ..))
  have hcause : s4.rd P.ecl F.ECLIPSE_ECL_STAT_CAUSE = cause % 2 ^ F.ECLIPSE_ECL_STAT_CAUSE.width :=
    (rd_wr_beside _ _ _ rfl).trans (rd_wr_same ..)
  have hlate : s4.rd P.ecl F.ECLIPSE_ECL_STAT_LATE = b2n late := (rd_wr_same ..).trans (Nat.mod_eq_of_lt hb)
  have hrest : ∀ {p : Nat} {f : Fld}, regGroup ⟨p, f.off, f.lsb, 0⟩ = 41 → p ≠ P.fdie →
      (if s6.stitch.outDead then s6 else safeEnter evOnly s6 allChans 4).rd p f = s4.rd p f := fun hg hp => by
    have hcut : ∀ {p : Nat} {f : Fld}, regGroup ⟨p, f.off, f.lsb, 0⟩ = 41 → s6.rd p f = s4.rd p f := fun hg =>
      ((cutTransmit_keeps s5).rd _ _ (by rw [hg]; rfl)).trans rfl
    split
    · exact hcut hg
    · exact (rd_safeEnter _ _ _ hg hp).trans (hcut hg)
  have hecl : (if s6.stitch.outDead then s6 else safeEnter evOnly s6 allChans 4).ecl = s5.ecl := by
    split
    · exact (cutTransmit_keeps s5).ecl rfl
    · exact ((safeEnter_keeps (fun s p k => evOnly_keeps s p k) ..).ecl rfl).trans ((cutTransmit_keeps s5).ecl rfl)
  refine ⟨(hrest rfl (by decide)).trans hst, (hrest rfl (by decide)).trans hfrozen, (hrest rfl (by decide)).trans hcause,
    (hrest rfl (by decide)).trans hlate, ?_, ?_, ?_⟩ <;> rw [hecl]
  rfl

theorem freezeCfg_sets {s : State} (hs : s.st ≠ NS.eclipse) (cause tF : Nat) : (freezeCfg s cause tF).st = NS.eclipse ∧
    (freezeCfg s cause tF).rd P.ecl F.ECLIPSE_ECL_STAT_FROZEN = 1 ∧
    (freezeCfg s cause tF).rd P.ecl F.ECLIPSE_ECL_STAT_CAUSE = cause % 2 ^ F.ECLIPSE_ECL_STAT_CAUSE.width ∧
    (freezeCfg s cause tF).ecl.tF = tF ∧ (freezeCfg s cause tF).ecl.scope = s.rd P.ecl F.ECLIPSE_ECL_CFG_SCOPE := by
  obtain ⟨h1, h2, h3, -, h4, h5, -⟩ := freeze_sets hs cause tF false false (s.rd P.ecl F.ECLIPSE_ECL_CFG_SCOPE)
    (s.rd P.ecl F.ECLIPSE_ECL_CFG_COLLECTOR)
  exact ⟨h1, h2, h3, h4, h5⟩

/-! ## What events leave armed -/

/-- What is armed is as before. -/
structure ArmKept (s t : State) : Prop where
  armed : t.ecl.armed = s.ecl.armed

theorem ArmKept.refl (s : State) : ArmKept s s := ⟨rfl⟩

theorem ArmKept.trans {s t u : State} (h : ArmKept s t) (k : ArmKept t u) : ArmKept s u := ⟨k.armed.trans h.armed⟩

theorem ArmKept.of_keeps {m : Nat} {s t : State} (h : Keeps m s t) (hm : m.testBit 36 = false) : ArmKept s t := ⟨by rw [h.ecl hm]⟩

theorem ArmKept.each {s t : State} {n : Nat} {f : State → Nat → State} (hf : ∀ t a, ArmKept t (f t a)) (h : ArmKept s t) :
    ArmKept s (t.each n f) := by
  unfold State.each
  induction List.range n generalizing t with
  | nil => exact h
  | cons a r ih => exact ih (h.trans (hf t a))

theorem ArmKept.ite {s t u : State} {c : Prop} [Decidable c] (h : ArmKept s t) (k : ArmKept s u) : ArmKept s (if c then t else u) := by
  split
  · exact h
  · exact k

theorem freeze_armKept (s : State) (cause tF : Nat) (late ring : Bool) (sc co : Nat) : ArmKept s (freeze s cause tF late ring sc co) := by
  by_cases h : s.st = NS.eclipse
  · unfold freeze
    rw [if_pos h]
    exact .refl s
  · obtain ⟨-, -, -, -, -, -, h⟩ := freeze_sets h cause tF late ring sc co
    exact ⟨h⟩

theorem rise_armKept (fuel : Nat) (s : State) (src : Nat) : ArmKept s (rise fuel s src) := by
  induction fuel generalizing s src with
  | zero => exact .refl _
  | succ n ih =>
    unfold rise
    refine ArmKept.ite (.refl _) ?_
    refine ArmKept.trans ?_ (ArmKept.ite (freeze_armKept ..) (.refl _))
    refine ArmKept.each (fun t r => ?_) ?_
    · have hp : ArmKept t (pioTrig t (t.rd P.ev3 (F.EVENTC_PIOR_ENGINE r)) (t.rd P.ev3 (F.EVENTC_PIOR_TRIG r))).2 := .of_keeps (pioTrig_keeps ..) rfl
      have he := hp.trans (.of_keeps (evOnly_keeps _ (P.pio (t.rd P.ev3 (F.EVENTC_PIOR_ENGINE r))) 0) rfl)
      exact .ite (.ite (.ite (he.trans (ih ..)) he) hp) (.refl t)
    · refine ArmKept.each (fun t p => .of_keeps (evtRise_keeps ..) rfl) ?_
      exact ArmKept.each (fun t e => .of_keeps (exportRise_keeps ..) rfl) (.refl s)

theorem raise_armed (s : State) (p k : Nat) : (raise s p k).ecl.armed = s.ecl.armed := by
  have hev : ArmKept s (evOnly s p k) := .of_keeps (evOnly_keeps ..) rfl
  have : ArmKept s (raise s p k) := .ite (hev.trans (rise_armKept ..)) hev
  exact this.armed

/-! ## Arming (R567) -/

theorem disarmEcl_none (s : State) : (disarmEcl s).ecl.armed = none := by
  unfold disarmEcl
  split
  · exact raise_armed ..
  · rename_i h
    simpa using h

theorem armEcl_takes {s : State} {x src id sc co : Nat} {ring : Bool} (hx : s.now < x) (ha : ∀ a, s.ecl.armed = some a → x < a.1) :
    (armEcl s x src id ring sc co).ecl.armed = some (x, src, id, ring, sc, co) ∧
      (armEcl s x src id ring sc co).rd P.ecl F.ECLIPSE_CNT_REQ_N = s.rd P.ecl F.ECLIPSE_CNT_REQ_N := by
  have htake : armEcl s x src id ring sc co = raise { s with ecl := { s.ecl with armed := some (x, src, id, ring, sc, co) } } P.ecl 0 := by
    unfold armEcl
    rw [if_neg (by omega)]
    dsimp only
    refine if_pos ?_
    split
    · exact decide_eq_true (ha _ ‹_›)
    · rfl
  rw [htake, raise_armed]
  exact ⟨rfl, (raise_keeps ..).rd _ _ rfl⟩

theorem armEcl_ignored {s : State} {x src id sc co : Nat} {ring : Bool} {a : Nat × Nat × Nat × Bool × Nat × Nat} (hx : s.now < x)
    (ha : s.ecl.armed = some a) (hle : a.1 ≤ x) : (armEcl s x src id ring sc co).ecl.armed = some a ∧
      (armEcl s x src id ring sc co).rd P.ecl F.ECLIPSE_CNT_REQ_IGNORED_N =
        satAdd F.ECLIPSE_CNT_REQ_IGNORED_N.width (s.rd P.ecl F.ECLIPSE_CNT_REQ_IGNORED_N) 1 := by
  unfold armEcl
  rw [if_neg (by omega), ha]
  dsimp only
  rw [decide_eq_false (by omega), if_neg Bool.false_ne_true]
  exact ⟨ha, rd_inc_same ..⟩

/-- A write of ECL_CTRL by one that may is the block's own operation. -/
theorem eclStore_eq {s : State} {who : By} (h : MayWrite s who P.ecl 0x054) (w : Nat) :
    busStore s who P.ecl 0x054 w = eclCtrl (dropArms s P.ecl) (w % 8) := by
  have heff : ∀ (d : State) (w : Nat), writeEffect d d who P.ecl 0x054 w = eclCtrl d (w % 8) := fun _ _ => rfl
  exact h.block _ (by decide +kernel) (by decide +kernel) (by decide) (.inl rfl) (heff ..)

theorem eclCtrl_arm {s : State} (h : s.st ≠ NS.eclipse) :
    eclCtrl s 2 = armEcl s (s.rd64 P.ecl F.ECLIPSE_ARM_T_LO_NS F.ECLIPSE_ARM_T_HI_NS) s.own 0 false 0 0 := by
  unfold eclCtrl
  exact if_pos (by simpa [bitOf] using h)

theorem eclCtrl_disarm {s : State} (h : s.st ≠ NS.eclipse) : eclCtrl s 1 = disarmEcl s := by
  unfold eclCtrl
  exact (if_neg (by simp [bitOf])).trans (if_pos (by simpa [bitOf] using h))

/-! ## The read-out (R580) -/

/-- The frame that leaves takes its part of the stream. -/
theorem dumpSend_stream {s : State} (hst : s.st = NS.eclipse) {k x e : Nat} {r : List (Nat × Nat × Nat)} (h : s.ecl.stream = (k, x, e) :: r) :
    (dumpSend s).ecl.stream = if x < e then (k, x + min 2048 (e - x), e) :: r else r := by
  have hsend : ∀ (u : State) (l : List (Nat × Nat × Nat)) f, Keeps 256 s u →
      (originate { u with ecl := { u.ecl with stream := l } } 13 f).ecl.stream = l := fun u l f hu => by
    have hu' : ({ u with ecl := { u.ecl with stream := l } } : State).st = NS.eclipse := (hu.rd P.node F.NODE_NODE_STATE_STATE rfl).trans hst
    rw [(originate_offered ..).still.ecl hu']
  unfold dumpSend
  rw [h]
  dsimp only
  split
  · exact hsend _ _ _ (segRead_keeps ..)
  · refine hsend _ _ _ ?_
    split
    · exact (segCrc_keeps ..).mono rfl
    · exact .refl ..

theorem dumpPump_stream {s : State} (hst : s.st = NS.eclipse) (l : List (Nat × Nat × Nat)) :
    (dumpWaits s = true → (dumpPump { s with ecl := { s.ecl with stream := l } }).ecl.stream = l) ∧
      ∀ k x e r, dumpWaits s = false → l = (k, x, e) :: r →
        (dumpPump { s with ecl := { s.ecl with stream := l } }).ecl.stream = if x < e then (k, x + min 2048 (e - x), e) :: r else r := by
  refine ⟨fun hw => ?_, fun k x e r hw hl => ?_⟩
  · have : dumpWaits { s with ecl := { s.ecl with stream := l } } = true := hw
    unfold dumpPump
    rw [if_neg (by simp [this])]
  · have hq : dumpWaits { s with ecl := { s.ecl with stream := l } } = false := hw
    unfold dumpPump
    rw [if_pos ⟨hst, hq⟩]
    exact dumpSend_stream (s := { s with ecl := { s.ecl with stream := l } }) hst hl

theorem segRead_data (s : State) {x : Nat} (hx : 0x200000 ≤ x) (n : Nat) : leVal (segRead s 4 x n).1 = leVal (s.memRead (0x10000000 + x) n) := by
  have hone : ∀ y, 0x200000 ≤ y → segByte s 4 y = some (s.showAt (0x10000000 + y)) := fun y hy => congrArg some (if_neg (by omega))
  induction n generalizing x with
  | zero => rfl
  | succ n ih =>
    have hmem : s.memRead (0x10000000 + x) (n + 1) = s.showAt (0x10000000 + x) :: s.memRead (0x10000000 + (x + 1)) n := by
      unfold State.memRead
      rw [List.range_succ_eq_map, List.map_cons, List.map_map]
      refine congrArg _ (List.map_congr_left fun k _ => congrArg s.showAt ?_)
      omega
    rw [hmem, segRead, if_neg (by decide), hone x hx]
    dsimp only [leVal]
    rw [ih (by omega), Nat.mod_mod]

/-- Settles O60. -/
theorem activationAndEclipse : Obligations.ActivationAndEclipse := by
  unfold Obligations.ActivationAndEclipse
  refine ⟨?_, ?_, ?_, ?_, ?_, ?_, ?_, ?_, ?_, ?_, ?_, ?_, ?_⟩
  case refine_1 =>
    intro s who h
    have heff : ∀ (d : State) w, writeEffect d d who P.upd 0x05C w = if bitOf w 0 then actGo d else d := fun _ _ => rfl
    refine ⟨_, congrArg Host.Outcome.next (h.block _ (by decide +kernel) (by decide +kernel) (by decide) (.inl rfl)
      ((heff _ _).trans (if_pos (by decide)))), ?_⟩
    have hgo := actGo_eq (dropArms s P.upd)
    rw [rd64_of_regs (s := s) (t := dropArms s P.upd) rfl, show (dropArms s P.upd).tick = s.tick from rfl] at hgo
    generalize s.rd64 P.upd F.UPDATE_ACT_EFF_LO_E F.UPDATE_ACT_EFF_HI_E = e at *
    dsimp only
    refine ⟨fun he hst hu => ?_, fun he => ?_, fun he hno => ?_⟩
    · rw [hgo, if_neg (Nat.not_lt.mpr he)]
      exact actRequest_due hst hu
    · rw [hgo, if_pos he]
      exact updResult_leaves _ (by decide)
    · rw [hgo, if_neg (Nat.not_lt.mpr he)]
      exact actRequest_ignored (s := dropArms s P.upd) hno
  case refine_2 =>
    intro s who m h hini hm
    have heff : ∀ (d : State) w, writeEffect d d who P.upd 0x068 w = actBit d F.UPDATE_EXPORT_DONE_D who.ini w := fun _ _ => rfl
    refine ⟨_, congrArg Host.Outcome.next (h.block _ (by decide +kernel) (by decide +kernel) (by decide) (.inl rfl) (heff ..)), ?_⟩
    exact actBit_sets hini ((bitOf_mod m 5 who.ini).trans (by simp [hini, hm])) rfl
  case refine_3 =>
    intro s who m h hini hm
    have heff : ∀ (d : State) w, writeEffect d d who P.upd 0x06C w = actBit d F.UPDATE_READY_R who.ini w := fun _ _ => rfl
    refine ⟨_, congrArg Host.Outcome.next (h.block _ (by decide +kernel) (by decide +kernel) (by decide) (.inl rfl) (heff ..)), ?_⟩
    exact actBit_sets hini ((bitOf_mod m 5 who.ini).trans (by simp [hini, hm])) rfl
  case refine_4 =>
    intro s x w halive hpin hlow
    refine ⟨_, rfl, fun hw => if_neg (by simp; omega), fun hw => ?_⟩
    rw [if_pos (by simp [halive, hpin, hlow, hw])]
    obtain ⟨h1, h2, h3, h4, -⟩ := freezeCfg_sets (s := s.atTime x) (st_of_alive halive) 1 x
    exact ⟨h1, h2, h3, h4⟩
  case refine_5 =>
    intro s who h
    refine ⟨_, congrArg Host.Outcome.next (eclStore_eq h 4), ?_⟩
    obtain ⟨h1, h2, h3, h4, -⟩ := freezeCfg_sets (s := dropArms s P.ecl) (st_of_alive h.alive) 2 s.now
    exact ⟨h1, h2, h3, h4⟩
  case refine_6 =>
    intro s who x h hx
    have hst : (dropArms s P.ecl).st ≠ NS.eclipse := st_of_alive h.alive
    have harm : exec (.eclArm who) s = .next (armEcl (dropArms s P.ecl) x s.own 0 false 0 0) :=
      congrArg Host.Outcome.next ((eclStore_eq h 2).trans ((eclCtrl_arm hst).trans (congrArg (fun x => armEcl _ x _ _ _ _ _) hx)))
    refine ⟨_, harm, fun hlt ha => (armEcl_takes (s := dropArms s P.ecl) hlt ha).1, fun a hlt ha hle =>
      armEcl_ignored (s := dropArms s P.ecl) hlt ha hle, fun hle => ?_⟩
    have hnow : armEcl (dropArms s P.ecl) x s.own 0 false 0 0 = freezeCfg (dropArms s P.ecl) 3 s.now := if_pos hle
    rw [hnow]
    obtain ⟨h1, -, h3, h4, -⟩ := freezeCfg_sets hst 3 s.now
    exact ⟨h1, h3, h4⟩
  case refine_7 =>
    intro s who h
    exact ⟨_, congrArg Host.Outcome.next ((eclStore_eq h 1).trans (eclCtrl_disarm (st_of_alive h.alive))), disarmEcl_none _⟩
  case refine_8 =>
    intro s x t0 src id sc co ring halive harmed hx
    have hst : (s.atTime x).st ≠ NS.eclipse := st_of_alive halive
    have hrun : exec (.armReached x) s = .next (if ring then freeze (s.atTime x) 4 t0 false true sc co else freezeCfg (s.atTime x) 3 t0) := by
      refine congrArg Host.Outcome.next ((if_pos halive).trans ?_)
      rw [harmed]
      exact if_neg (by omega)
    refine ⟨_, hrun, ?_⟩
    cases ring with
    | true =>
      obtain ⟨h1, h2, h3, -, h4, h5, -⟩ := freeze_sets hst 4 t0 false true sc co
      exact ⟨h1, h2, h3, h4, h5⟩
    | false => exact freezeCfg_sets hst 3 t0
  case refine_9 =>
    intro s f halive hins hframe htarget
    have hst : s.st ≠ NS.eclipse := st_of_alive halive
    have hcond : (s.alive && (s.mayInsert || s.st == NS.isolate) && eclFrame f 0x10 && eclTarget s f) = true := by
      rcases hins with hins | hins <;> simp [halive, hins, hframe, htarget]
    refine ⟨_, congrArg Host.Outcome.next (if_pos hcond), ?_⟩
    intro x w late
    refine ⟨fun hno => ?_, fun hopen hw hx hnone => ?_, fun hopen hw hx hlate => ?_, fun hopen hw hx hstale => ?_, fun a hopen hw ha hsrc hid => ?_⟩
    · rw [hno, if_neg Bool.false_ne_true]
      exact ⟨((raise_keeps ..).rd _ _ rfl).trans (rd_inc_same ..), raise_armed ..⟩
    · have hrun : eclJudge s f = armEcl (s.inc P.ecl F.ECLIPSE_CNT_REQ_N) x f.src (w % 2 ^ 16) true (bitsOf w 30 1) (eclCollector s f) :=
        (if_neg (by simp [w, hw])).trans (if_pos hx)
      rw [hopen, if_pos rfl, hrun]
      obtain ⟨h1, h2⟩ := armEcl_takes (s := s.inc P.ecl F.ECLIPSE_CNT_REQ_N) (x := x) (src := f.src) (id := w % 2 ^ 16) (sc := bitsOf w 30 1)
        (co := eclCollector s f) (ring := true) hx fun a ha => absurd (hnone.symm.trans ha) (by simp)
      exact ⟨h1, h2.trans (rd_inc_same ..)⟩
    · have hrun : eclJudge s f = freeze (s.inc P.ecl F.ECLIPSE_CNT_REQ_N) 4 s.now true true (bitsOf w 30 1) (eclCollector s f) :=
        (if_neg (by simp [w, hw])).trans ((if_neg (Nat.not_lt.mpr hx)).trans (if_pos hlate))
      have hst' : (s.inc P.ecl F.ECLIPSE_CNT_REQ_N).st ≠ NS.eclipse := by
        rw [State.st, rd_inc_apart _ _ rfl]
        exact hst
      rw [hopen, if_pos rfl, hrun]
      obtain ⟨h1, -, h3, h4, h5, -⟩ := freeze_sets hst' 4 s.now true true (bitsOf w 30 1) (eclCollector s f)
      exact ⟨h1, h3, h4, h5⟩
    · have hrun : eclJudge s f = countRaise s P.ecl F.ECLIPSE_CNT_REQ_STALE_N P.ecl 3 :=
        (if_neg (by simp [w, hw])).trans ((if_neg (Nat.not_lt.mpr hx)).trans (if_neg (Nat.not_le.mpr hstale)))
      rw [hopen, if_pos rfl, hrun]
      exact ((raise_keeps ..).rd _ _ rfl).trans (rd_inc_same ..)
    · have hrun : eclJudge s f = disarmEcl (s.inc P.ecl F.ECLIPSE_CNT_REQ_N) := by
        refine (if_pos (by simp [w, hw])).trans ?_
        have harm : (s.inc P.ecl F.ECLIPSE_CNT_REQ_N).ecl.armed = some a := ha
        rw [harm]
        exact if_pos ⟨hsrc, hid⟩
      rw [hopen, if_pos rfl, hrun]
      exact disarmEcl_none _
  case refine_10 =>
    intro s f k x n hon hst hframe hown hsrc hk hk10 hopen hx hn hlt
    subst hk hx hn
    refine ⟨_, congrArg Host.Outcome.next (if_pos (by simp [passFrozen, hon, hst, hframe, hown, hsrc])), ?_⟩
    generalize f.w3 / 2 ^ 28 % 16 = k at *
    generalize f.w3 % 2 ^ 28 = x at *
    generalize beAt f.pay 0 4 = n at *
    intro e
    have hrange : dumpRange s k x n = (k, x, e) := by
      refine (if_neg (by simp [hopen])).trans ?_
      rw [Nat.min_eq_left (by omega)]
    have hlt : x < e := by
      dsimp only [e]
      split <;> omega
    have hlist : dumpStart s k x n = dumpPump { s with ecl := { s.ecl with stream := [(k, x, e)] } } := by
      unfold dumpStart
      rw [if_neg (by omega), if_pos hk10, hrange]
    obtain ⟨hwait, hgo⟩ := dumpPump_stream hst [(k, x, e)]
    rw [hlist]
    cases hw : dumpWaits s with
    | true => exact hwait hw
    | false => exact (hgo k x e [] hw rfl).trans (if_pos hlt)
  case refine_11 =>
    intro s x hon hst hauto hcol hx
    refine ⟨_, congrArg Host.Outcome.next (if_pos (by simp [passFrozen, hon, hst, hauto, hcol, hx])), ?_⟩
    intro l
    have hlist : dumpStart (s.atTime x) 0xF 0 0 = dumpPump { s.atTime x with ecl := { s.ecl with stream := l } } := by
      have hrange : ∀ k, dumpRange (s.atTime x) k 0 0 = (k, 0, if segOpen s k then segSize k else 0) := fun k => by
        have hseg : segOpen (s.atTime x) k = segOpen s k := rfl
        unfold dumpRange
        rw [hseg]
        cases segOpen s k <;> simp
      unfold dumpStart
      rw [if_pos rfl]
      simp only [hrange]
      rfl
    obtain ⟨hwait, hgo⟩ := dumpPump_stream (s := s.atTime x) hst l
    refine ⟨fun hw => (congrArg (fun u : State => u.ecl.stream) hlist).trans (hwait hw), fun k e r hw hl => ?_⟩
    refine (congrArg (fun u : State => u.ecl.stream) hlist).trans ((hgo k 0 e r hw hl).trans ?_)
    rw [Nat.zero_add, Nat.sub_zero]
  case refine_12 =>
    intro s f hon hst hframe hown hwho
    refine ⟨_, congrArg Host.Outcome.next (if_pos ?_), fun j => ?_⟩
    · rcases hwho with hwho | hwho <;> simp [passFrozen, hon, hst, hframe, hown, hwho]
    · have hreq : requestWarm s RC.eclipse =
          { s with node := { s.node with resetReq := (s.node.resetReq.filter (· != RC.eclipse)) ++ [RC.eclipse] } } := if_pos hst
      rw [hreq]
      by_cases hj : j = RC.eclipse <;> simp [hj]
  case refine_13 =>
    intro s k x hrails hst hopen hx
    refine ⟨_, congrArg Host.Outcome.next (if_pos (by simp [hrails, hst, hopen, hx])), ?_⟩
    have hkeep := segRead_keeps s k x 4
    have hval : (readTo ⟨7, 0⟩ (leVal (segRead s k x 4).1, (segRead s k x 4).2)).stitch.readBack.at 0 7 = leVal (segRead s k x 4).1 :=
      Tbl.at_put_same (segRead s k x 4).2.stitch.readBack 0 7 _
    refine ⟨hval, fun hk hlow => ?_, hkeep.mem rfl, hkeep.ecl rfl, fun p f i => ?_⟩
    · subst hk
      exact hval.trans (segRead_data s hlow 4)
    · have hregs : (readTo ⟨7, 0⟩ (leVal (segRead s k x 4).1, (segRead s k x 4).2)).regs = s.regs := hkeep.regs rfl
      unfold State.rdi
      rw [hregs]

end Sys2Proof.Machine
end

section
/-!
PROOF. The release of a reset, the boot-fail count and Dawn requests (20_management_boot_update.md): what leaves the reset as it is, and O19.
-/

namespace Sys2Proof.Machine

/-- The reset is asserted or released as before. -/
structure ReleaseKept (s t : State) : Prop where
  kept : t.node.inReset = s.node.inReset

theorem ReleaseKept.refl (s : State) : ReleaseKept s s := ⟨rfl⟩

theorem ReleaseKept.trans {s t u : State} (h : ReleaseKept s t) (k : ReleaseKept t u) : ReleaseKept s u := ⟨k.kept.trans h.kept⟩

theorem ReleaseKept.of_keeps {m : Nat} {s t : State} (h : Keeps m s t) (hm : m.testBit 9 = false) : ReleaseKept s t := ⟨by rw [h.node hm]⟩

theorem Quiet.releaseKept {s t : State} (h : Quiet s t) : ReleaseKept s t := ⟨by rw [h.node]⟩

theorem ReleaseKept.step {m : Nat} {s t u : State} (h : ReleaseKept s t) (k : Keeps m t u) (hm : m.testBit 9 = false) : ReleaseKept s u :=
  h.trans (.of_keeps k hm)

theorem ReleaseKept.ite {s t u : State} {c : Prop} [Decidable c] (h : ReleaseKept s t) (k : ReleaseKept s u) : ReleaseKept s (if c then t else u) := by
  split
  · exact h
  · exact k

theorem ReleaseKept.foldl {α : Type} {s t : State} {f : State → α → State} (hf : ∀ t a, ReleaseKept t (f t a)) (l : List α) (h : ReleaseKept s t) :
    ReleaseKept s (l.foldl f t) := by
  induction l generalizing t with
  | nil => exact h
  | cons a r ih => exact ih (h.trans (hf t a))

theorem ReleaseKept.foldl_snd {α β : Type} {s : State} {f : β × State → α → β × State} (hf : ∀ a x, ReleaseKept a.2 (f a x).2) (l : List α)
    {a : β × State} (h : ReleaseKept s a.2) : ReleaseKept s (l.foldl f a).2 := by
  induction l generalizing a with
  | nil => exact h
  | cons x r ih => exact ih (h.trans (hf a x))

theorem ReleaseKept.each {s t : State} {n : Nat} {f : State → Nat → State} (hf : ∀ t a, ReleaseKept t (f t a)) (h : ReleaseKept s t) :
    ReleaseKept s (t.each n f) := .foldl hf _ h

theorem raise_releaseKept (s : State) (p k : Nat) : ReleaseKept s (raise s p k) := (raise_quiet ..).releaseKept

theorem raiseIf_releaseKept (s : State) (b : Bool) (p k : Nat) : ReleaseKept s (raiseIf s b p k) := (raiseIf_quiet ..).releaseKept

theorem alert_releaseKept (s : State) (p k : Nat) : ReleaseKept s (alert s p k) := (alert_quiet ..).releaseKept

theorem wr_releaseKept (s : State) (p : Nat) (f : Fld) (v : Nat) : ReleaseKept s (s.wr p f v) := ⟨rfl⟩

theorem countRaise_releaseKept (s : State) (p : Nat) (f : Fld) (q k : Nat) : ReleaseKept s (countRaise s p f q k) :=
  (wr_releaseKept ..).trans (raise_releaseKept ..)

theorem hubLog_releaseKept (s : State) (k : Nat) (c a b : Option Nat) : ReleaseKept s (hubLog s k c a b) := (hubLog_quiet ..).releaseKept

/-! ## A lane that goes down with a frame in reception (R130, R162) -/

theorem sendOver_releaseKept (s : State) (p : Nat) : ReleaseKept s (sendOver s p) := by
  have hlatch : ∀ (t : State) c, ReleaseKept t (shaperLatch t p c) := fun t c => by
    refine ReleaseKept.ite (ReleaseKept.trans ?_ (alert_releaseKept ..)) (.refl t)
    exact ⟨rfl⟩
  have hall : ReleaseKept s (({ s with sw := { s.sw with sending := s.sw.sending.put none p none } }.wr (P.swport p)
      F.SWPORT_PORT_STAT_TX_BUSY 0).each 4 fun u c => if p < 8 then shaperLatch u p c else u) :=
    .each (fun t c => .ite (hlatch t c) (.refl t)) ⟨rfl⟩
  exact .ite (hall.trans (wr_releaseKept ..)) hall

theorem sendingEnds_releaseKept (s : State) (p t q : Nat) (e : SwEntry) : ReleaseKept s (sendOver (releaseEntry (shapeTo s p t) q e) p) :=
  .trans (.step (.of_keeps (shapeTo_keeps ..) rfl) (releaseEntry_keeps ..) rfl) (sendOver_releaseKept ..)

theorem flushPort_releaseKept (s : State) (p : Nat) : ReleaseKept s (flushPort s p) := by
  have hqueues : ReleaseKept s (s.each 8 fun t c =>
      if (swQueue t (8 * p + c)).isEmpty then t
      else alert ((setSwQueue ((swQueue t (8 * p + c)).foldl (fun u e => releaseEntry u (8 * p + c) e) t) (8 * p + c) []).inc (P.swport p)
        (F.SWPORT_FLUSH_N c) (swQueue t (8 * p + c)).length) p 1) := by
    refine .each (fun t c => .ite (.refl t) ?_) (.refl s)
    refine ReleaseKept.trans (.trans ?_ (wr_releaseKept ..)) (alert_releaseKept ..)
    exact .step (.foldl (fun u e => .of_keeps (releaseEntry_keeps ..) rfl) _ (.refl t)) (setSwQueue_keeps ..) rfl
  unfold flushPort
  dsimp only
  split
  · exact hqueues.trans (sendingEnds_releaseKept ..)
  · exact hqueues

theorem stompStored_releaseKept (s : State) (id : Nat) : ReleaseKept s (stompStored s id) := by
  refine ReleaseKept.step (.each (fun t p => ?_) (.refl s)) (dropStored_keeps ..) rfl
  split
  next e c x _ =>
    refine .ite ?_ (.refl t)
    have hover := sendingEnds_releaseKept t p t.now (8 * p + c) e
    have hstomp : ReleaseKept t (if p < 8 then (sendOver (releaseEntry (shapeTo t p t.now) (8 * p + c) e) p).emitStomp p e.frame
        else sendOver (releaseEntry (shapeTo t p t.now) (8 * p + c) e) p) := .ite (hover.trans ⟨rfl⟩) hover
    exact .ite (hstomp.trans (wr_releaseKept ..)) (.ite (hstomp.trans (countRaise_releaseKept ..)) hstomp)
  · exact .refl t

theorem admitFrame_releaseKept (s : State) (outs : List Nat) (id : Nat) (f : Frame) (r : Bool) (i : Nat) (far : List (Nat × Frame)) :
    ReleaseKept s (admitFrame s outs id f r i far).2 := by
  unfold admitFrame
  dsimp only
  split
  · exact .foldl (fun _ _ => (dropAt_offered ..).quiet.releaseKept) _ (.refl s)
  · split
    · split
      · refine .foldl (fun _ _ => (enqueue_offered ..).quiet.releaseKept) _ (.foldl (fun _ _ => ?_) _ (.refl s))
        exact .step (enqueue_offered ..).quiet.releaseKept (countPath_keeps ..) rfl
      · exact .trans (.of_keeps (noteRefusals_keeps ..) rfl) (countRaise_releaseKept ..)
    · refine .foldl_snd (fun a p => ?_) _ (.refl s)
      split
      · exact .step (admitOne_offered ..).quiet.releaseKept (countPath_keeps ..) rfl
      · exact .trans (admitOne_offered ..).quiet.releaseKept (dropAt_offered ..).quiet.releaseKept

theorem admitRx_releaseKept (s : State) (i id : Nat) (f : Frame) (x r : Bool) : ReleaseKept s (admitRx s i id f x r).2 :=
  .trans (.of_keeps (suppressed_keeps s f) rfl) (admitFrame_releaseKept ..)

theorem crossOut_releaseKept (s : State) (k : Bool) (i : Nat) (f : Frame) : ReleaseKept s (crossOut s k i f).2 := by
  unfold crossOut
  dsimp only
  have hcopies : ReleaseKept s ((crossCopies (newId s).2 k { f with seq := crossNum (newId s).2 f }).foldl (fun (a : Bool × State) c =>
      if (admitOne a.2 c.1 (newId s).1 c.2 true false i).1 then (true, (admitOne a.2 c.1 (newId s).1 c.2 true false i).2)
      else (a.1, dropAt (admitOne a.2 c.1 (newId s).1 c.2 true false i).2 c.1 f.cls)) (false, (newId s).2)).2 := by
    refine .foldl_snd (fun a c => ?_) _ ⟨rfl⟩
    split
    · exact (admitOne_offered ..).quiet.releaseKept
    · exact .trans (admitOne_offered ..).quiet.releaseKept (dropAt_offered ..).quiet.releaseKept
  exact .ite (hcopies.step (crossNext_keeps ..) rfl) hcopies

theorem crossFrame_releaseKept (s : State) (i id : Nat) (f : Frame) : ReleaseKept s (crossFrame s i id f).2 := by
  have hsend : ∀ k p, ReleaseKept s (crossSend s k p id f).2 := fun k p => by
    have h : ReleaseKept s (if wholeOrNone f then crossWhole s k id f else crossOut s k p f).2 := by
      split
      · exact .of_keeps (crossWhole_keeps ..) rfl
      · exact crossOut_releaseKept ..
    exact .ite (h.trans (wr_releaseKept ..)) h
  unfold crossFrame
  split
  · exact (countRaise_releaseKept ..).trans (crossOut_releaseKept ..)
  · exact hsend ..

theorem passed_releaseKept (s : State) (i id : Nat) (f : Frame) (x : Bool) (o : Bool × Bool) : ReleaseKept s (passed s i id f x o).2 := by
  unfold passed
  split
  · exact (crossFrame_releaseKept ..).step (noteStatus_keeps ..) rfl
  · exact .of_keeps (noteStatus_keeps ..) rfl

theorem acceptHeld_releaseKept (s : State) (g : Nat) (h : HeldFrame) : ReleaseKept s (acceptHeld s g h) := by
  have hnew : ReleaseKept s (newId (haloAccept s g)).2 := ⟨rfl⟩
  have hpass := (hnew.trans (admitRx_releaseKept _ h.lane (newId (haloAccept s g)).1 h.frame (crosses s h.lane h.frame) true)).trans
    (passed_releaseKept _ h.lane (newId (haloAccept s g)).1 h.frame (crosses s h.lane h.frame)
      (admitRx (newId (haloAccept s g)).2 h.lane (newId (haloAccept s g)).1 h.frame (crosses s h.lane h.frame) true).1)
  refine .ite (.step ?_ (noteTun_keeps ..) rfl) (hpass.step (haloSettle_keeps ..) rfl)
  exact hpass.step (setHaloEnt_keeps ..) rfl

theorem settleHeld_releaseKept (s : State) (a g q : Nat) (ok : Bool) : ReleaseKept s (settleHeld s a g q ok) := by
  have hset : ∀ e, ReleaseKept s (setHaloEnt (haloSettle s a g q ok) a g e) := fun e =>
    .step (.of_keeps (haloSettle_keeps s a g q ok) rfl) (setHaloEnt_keeps ..) rfl
  unfold settleHeld
  dsimp only
  split
  · exact .foldl (fun _ _ => .of_keeps (haloDup_keeps ..) rfl) _ (hset _)
  · split
    · exact hset _
    · exact .foldl (fun _ _ => .of_keeps (haloDup_keeps ..) rfl) _ ((hset _).trans (acceptHeld_releaseKept ..))

theorem endHeld_releaseKept (s : State) (i : Nat) (f : Frame) (ok : Bool) : ReleaseKept s (endHeld s i f ok) := by
  have hset : ∀ a g e, ReleaseKept s (setHaloEnt s a g e) := fun _ _ _ => .of_keeps (setHaloEnt_keeps ..) rfl
  unfold endHeld
  dsimp only
  refine .ite (hset ..) (.ite (hset ..) ?_)
  have hdec : ∀ a g q t u, ReleaseKept u (haloDecide u a g q t).2 := fun _ _ _ _ _ => .of_keeps (haloDecide_keeps ..) rfl
  split
  next heq => exact ((hset ..).trans (heq ▸ hdec ..)).trans (acceptHeld_releaseKept ..)
  next heq => exact ((hset ..).trans (heq ▸ hdec ..)).trans (countRaise_releaseKept ..)
  next heq => exact ((hset ..).trans (heq ▸ hdec ..)).step (haloDup_keeps ..) rfl

theorem rxLost_releaseKept (s : State) (i : Nat) (x : RxFrame) : ReleaseKept s (rxLost s i x) := by
  unfold rxLost
  dsimp only
  refine .ite (.refl s) (.ite (endHeld_releaseKept ..) ?_)
  have hstomp := stompStored_releaseKept s x.id
  have hlane : ∀ y, ReleaseKept s ((stompStored s x.id).setLane i y) := fun y => hstomp.step (State.setLane_keeps ..) rfl
  refine .ite (.trans ?_ (settleHeld_releaseKept ..)) ?_
  all_goals
    split
    · exact .ite (hlane _) hstomp
    · exact hstomp

theorem tapEnds_releaseKept (s : State) (i : Nat) (e : FrameEnd) : ReleaseKept s (tapEnds s i e) := by
  unfold tapEnds
  dsimp only
  split
  · exact .refl s
  · exact .step (.ite (.of_keeps (markReady_keeps ..) rfl) (stompStored_releaseKept ..)) (State.setLane_keeps ..) rfl

theorem rxCut_releaseKept (s : State) (i : Nat) : ReleaseKept s (rxCut s i) := by
  unfold rxCut
  dsimp only
  split
  · exact tapEnds_releaseKept ..
  · exact ((tapEnds_releaseKept ..).step (State.setLane_keeps ..) rfl).trans (rxLost_releaseKept ..)

theorem laneExit_releaseKept (s : State) (i st : Nat) : ReleaseKept s (laneExit s i st) := by
  unfold laneExit
  dsimp only
  refine ReleaseKept.trans (ReleaseKept.trans ?_ (rxCut_releaseKept ..)) (flushPort_releaseKept ..)
  generalize hd : s.setLane i { s.lane i with downs := downsAt s i s.now ++ [s.upAt s.now] } = t
  have ht : ReleaseKept s t := hd ▸ .of_keeps (State.setLane_keeps ..) rfl
  have hdown := ht.trans (countRaise_releaseKept t (P.lane i) F.LANE_DOWN_COUNT_N (P.lane i) 1)
  have hstate : ∀ x, ReleaseKept s (setLaneState (countRaise t (P.lane i) F.LANE_DOWN_COUNT_N (P.lane i) 1) i x) := fun x =>
    hdown.step (setLaneState_keeps ..) rfl
  exact .ite ((hstate _).trans (wr_releaseKept ..)) (hstate _)

/-! ## Tap, the USB-C ports and DAWN's entry -/

theorem pdEv_releaseKept (s : State) (p k : Nat) : ReleaseKept s (pdEv s p k) := (pdEv_raised ..).quiet.releaseKept

theorem tapEnd_releaseKept (s : State) : ReleaseKept s (tapEnd s) := by
  have hev : ReleaseKept s (pdEv (s.pdWr 0 F.PD_PD_STAT_TAP 0) 0 1) := (wr_releaseKept ..).trans (pdEv_releaseKept ..)
  exact .ite (.ite (hev.trans (laneExit_releaseKept ..)) (hev.step (setLaneState_keeps ..) rfl)) (.refl s)

theorem usbAbort_releaseKept (s : State) : ReleaseKept s (usbAbort s) := by
  have hl : ReleaseKept s (s.usb.armed.foldl (fun t e => t.wr P.usb (F.USBDEV_EP_STAT_ERR e) 1) { s with usb := { s.usb with armed := [] } }) :=
    .foldl (fun _ _ => wr_releaseKept ..) _ ⟨rfl⟩
  exact .ite hl (hl.trans (usbEv_raised ..).quiet.releaseKept)

theorem usbConnect_releaseKept (s : State) : ReleaseKept s (usbConnect s) := by
  refine .ite (.refl s) (.trans ?_ (usbEv_raised ..).quiet.releaseKept)
  have hwr := wr_releaseKept s P.usb F.USBDEV_DEV_STAT_CONNECTED (b2n (s.usb.vbus0 && s.on P.usb F.USBDEV_DEV_CFG_CONNECT))
  exact .ite hwr (ReleaseKept.trans (hwr.trans (usbAbort_releaseKept _)) ⟨rfl⟩)

theorem judgeBudget_releaseKept (s : State) : ReleaseKept s (judgeBudget s) := by
  refine ReleaseKept.ite (ReleaseKept.trans ?_ (pdEv_releaseKept ..)) ?_ <;> exact ⟨rfl⟩

theorem pdDetach_releaseKept (s : State) (p : Nat) : ReleaseKept s (pdDetach s p) := by
  have hfall : ∀ t : State, ReleaseKept t (vbusFall t) := fun t => by
    refine ReleaseKept.trans (t := { t with usb := { t.usb with vbus0 := false, svc := false, overlap := none, ovOff := false } }) ⟨rfl⟩ ?_
    exact .ite (usbConnect_releaseKept ..) (.refl _)
  unfold pdDetach
  split
  · exact .refl s
  · dsimp only
    refine ReleaseKept.trans ?_ (pdEv_releaseKept ..)
    have hset : ∀ x, ReleaseKept s (setPd ((pdQuiet s p).zero (P.pd p) [F.PD_PD_STAT_ATTACH, F.PD_PD_STAT_REV3, F.PD_PD_STAT_RP_ADV,
        F.PD_PD_STAT_DEAD_BATT]) p x) := fun x => .step (.step (.of_keeps (pdQuiet_keeps ..) rfl) (State.zero_keeps 75 (fun _ _ => group_pd) ..) rfl) (setPd_keeps ..) rfl
    exact .ite ((((hset _).trans (hfall _)).trans (tapEnd_releaseKept _)).trans (judgeBudget_releaseKept _)) (hset _)

theorem branchesOff_releaseKept (s : State) (keep : Nat) : ReleaseKept s (branchesOff s keep) := by
  have hpower : ∀ (t : State) p k, ReleaseKept t (powerEv t p k) := fun t p k => .ite (raise_releaseKept ..) (evOnly_raised (c := False) ..).quiet.releaseKept
  have hev : ∀ (t : State) c k, ReleaseKept t (ctlEv t c k) := fun _ _ _ => .ite (hpower ..) (hpower ..)
  have hpg : ∀ (t : State) b, ReleaseKept t (setPg t b false) := fun t b => .ite (.refl t) (.trans (.of_keeps (State.ctlWr_keeps ..) rfl) (hev ..))
  have hgate : ∀ (t : State) b, ReleaseKept t (brGateOff t b 0) := fun t b => by
    have hkeep : ReleaseKept t (keepEnergy t b) := .of_keeps (keepEnergy_keeps ..) rfl
    unfold brGateOff
    refine ReleaseKept.trans (.step (.step ?_ (unqueue_keeps ..) rfl) (setCtlState_keeps ..) rfl) (hpg ..)
    exact .ite (hkeep.step (Keeps.put_power ..) rfl) hkeep
  have hoff : ∀ (t : State) b, ReleaseKept t (branchOff t b) := fun t b => .ite (.of_keeps (setBrOn_keeps ..) rfl) (.trans (.of_keeps (setBrOn_keeps ..) rfl) (hgate ..))
  exact .each (fun t b => .ite (.refl t) (hoff t b)) (.refl s)

theorem safeTrigger_releaseKept (s : State) (chs : List Nat) (cause : Nat) (fo mi : Bool) : ReleaseKept s (safeTrigger s chs cause fo mi) := by
  have hcount : ∀ (t : State) r, ReleaseKept t (edgeCount t r) := fun t r => by
    unfold edgeCount
    split
    · exact wr_releaseKept ..
    · exact countRaise_releaseKept ..
    · exact countRaise_releaseKept ..
    · exact countRaise_releaseKept ..
    · exact .refl t
  have hreport : ∀ (t : State) e r, ReleaseKept t (edgeReport t e r none) := fun t e r => by
    have hlast : ReleaseKept t (edgeCount (setEnt (t.draw 64).2 e.entry { entOf t e.entry with last := r, lastNs := (t.draw 64).1 }) r) :=
      .trans (.step (.of_keeps (State.draw_keeps ..) rfl) (setEnt_keeps ..) rfl) (hcount ..)
    unfold edgeReport
    dsimp only
    refine ReleaseKept.trans ?_ (raiseIf_releaseKept ..)
    split
    · exact hlast.step (Keeps.put_edge ..) rfl
    · exact hlast
  have hend : ∀ (t : State) e r, ReleaseKept t (edgeEnd t e r) := fun t e r =>
    .step (.ite (.ite (hcount ..) (.refl t)) (hreport ..)) (dropEdge_keeps ..) rfl
  have hdrop : ∀ (t : State) c, ReleaseKept t (edgesDropAt t 1 c) := fun t c => by
    unfold edgesDropAt
    refine .foldl (fun u e => ?_) _ (.refl t)
    split
    · exact hend ..
    · exact .refl u
  have hsafe : ReleaseKept s (safeEnter raise s chs cause fo mi) := by
    have henter : ReleaseKept s (chs.foldl (fun t c => chEnterSafe t fo mi c) s) :=
      .foldl (fun _ _ => .of_keeps (chEnterSafe_keeps ..) rfl) _ (.refl s)
    have hev : ∀ t : State, ReleaseKept t (fdieEv raise t 0) := fun t => .ite ⟨rfl⟩ (raise_releaseKept ..)
    refine ReleaseKept.ite (ReleaseKept.trans ?_ (hev _)) henter
    exact henter.trans ⟨rfl⟩
  exact .ite hsafe (.foldl hdrop _ hsafe)

theorem domainsApply_releaseKept (s : State) : ReleaseKept s (domainsApply s) := by
  have hone : ∀ (t : State) d, ReleaseKept t (domApply t d) := fun t d => by
    have hstart : ∀ u : State, ReleaseKept t u → ReleaseKept t (if d = 6 then fieldlogStart u else u) := fun u h =>
      .ite (h.step (fieldlogStart_keeps ..) rfl) h
    have hwait := hstart { t with mgmt := { t.mgmt with stopWait := t.mgmt.stopWait.filter (· != d) } } ⟨rfl⟩
    exact .ite (.ite hwait (hwait.trans (.trans (wr_releaseKept ..) (raise_releaseKept ..)))) (.ite ⟨rfl⟩ (.refl t))
  exact .step (.foldl hone _ (.refl s)) (coresFollow_keeps ..) rfl

theorem goDawn_releaseKept (s : State) : ReleaseKept s (goState s NS.dawn) := by
  have henter : ReleaseKept s (enterState s NS.dawn) :=
    .trans (.trans (.of_keeps (setState_keeps ..) rfl) (raise_releaseKept ..)) (hubLog_releaseKept ..)
  have heffects : ∀ t : State, ReleaseKept t (entryEffects t NS.dawn) := fun t => by
    have : entryEffects t NS.dawn = branchesOff (safeTrigger ((canOut t).each 24 pioHalt) allChans 4 true) 0 := rfl
    rw [this]
    refine ReleaseKept.trans (.trans (.each (fun _ _ => .of_keeps (pioHalt_keeps ..) rfl) (.of_keeps (canOut_keeps ..) rfl))
      (safeTrigger_releaseKept ..)) (branchesOff_releaseKept ..)
  have htap : ∀ t : State, ReleaseKept t (tapJudge t) := fun t => .ite (tapEnd_releaseKept t) (.refl t)
  exact .ite (.refl s) (((henter.trans (heffects _)).trans (htap _)).trans (domainsApply_releaseKept _))

theorem dawnEnter_releaseKept (s : State) (c : Nat) : ReleaseKept s (dawnEnter s c) := by
  unfold dawnEnter
  dsimp only
  refine ReleaseKept.trans (.trans (.foldl (fun t e => .trans (wr_releaseKept ..) (wr_releaseKept ..)) _ ?_) (wr_releaseKept ..)) (usbConnect_releaseKept _)
  exact ((wr_releaseKept s P.mgmt F.MGMT_DAWN_INFO_CAUSE c).trans (goDawn_releaseKept _)).trans ⟨rfl⟩

/-! ## The release (R23, R544) -/

/-- The reset is released, and the node's own incarnation is `n`. -/
structure Released (n : Nat) (s : State) : Prop where
  released : s.node.inReset = false
  incarnation : s.ao.incarnation = n

theorem Released.step {n m : Nat} {s t : State} (h : Released n s) (k : ReleaseKept s t) (hk : Keeps m s t) (hm : m.testBit 33 = false) :
    Released n t := ⟨k.kept.trans h.released, by rw [hk.ao hm, h.incarnation]⟩

theorem warmRelease_released {s : State} {n : Nat} (hin : s.node.inReset = false) (hn : (s.ao.incarnation + 1) % 65536 = n) :
    Released n (warmRelease s) := by
  refine ⟨(congrArg NodeSt.inReset ((warmRelease_keeps s).node rfl)).trans hin, ?_⟩
  unfold warmRelease
  dsimp only
  split <;> exact hn

theorem coldRelease_released {s : State} {n : Nat} (hin : s.node.inReset = false) (hv : s.ao.valid = true)
    (hn : (s.ao.incarnation + 1) % 65536 = n) : Released n (coldRelease s) := by
  have hnew : ∀ t : State, (newChallenge t).node = t.node ∧ (newChallenge t).ao = t.ao := fun t =>
    ⟨(newChallenge_keeps t).node rfl, (newChallenge_keeps t).ao rfl⟩
  unfold coldRelease
  dsimp only
  rw [hv]
  refine ⟨(congrArg NodeSt.inReset (hnew _).1).trans hin, (congrArg AoSt.incarnation (hnew _).2).trans hn⟩

theorem resetRelease_released {s : State} (hv : s.ao.valid = true) : Released ((s.ao.incarnation + 1) % 65536) (resetRelease s) := by
  have hstart : ∀ t : State, t.node.inReset = false → t.ao = s.ao → Released ((s.ao.incarnation + 1) % 65536)
      (if s.node.warm then warmRelease t else coldRelease t) := fun t hin hao => by
    split
    · exact warmRelease_released hin (congrArg (fun a : AoSt => (a.incarnation + 1) % 65536) hao)
    · exact coldRelease_released hin (hao ▸ hv) (congrArg (fun a : AoSt => (a.incarnation + 1) % 65536) hao)
  unfold resetRelease
  extract_lets w n s1 s2 s3 s4
  have h2 : Released ((s.ao.incarnation + 1) % 65536) s2 :=
    (hstart s1 rfl rfl).step (.each (fun _ _ => .of_keeps (laneStart_keeps ..) rfl) (.refl _)) (Keeps.each (fun _ _ => laneStart_keeps ..) (Keeps.refl _ _)) rfl
  have h3 : Released ((s.ao.incarnation + 1) % 65536) s3 := ⟨h2.released, h2.incarnation⟩
  have h4 : Released ((s.ao.incarnation + 1) % 65536) s4 := by
    have hjudge := h3.step (.ite (pdDetach_releaseKept ..) (.refl _)) (sourceJudge_keeps s3) rfl
    have hover := h3.step (.of_keeps (svcOverlap_keeps ..) rfl) (svcOverlap_keeps s3) rfl
    dsimp only [s4]
    split
    · exact hjudge
    · split
      · exact hover
      · exact h3
  refine ((h4.step (hubLog_releaseKept ..) (hubLog_keeps ..) rfl).step (judgeBudget_releaseKept _) (judgeBudget_keeps _) rfl).step
    (.of_keeps (wdtsFollow_keeps _) rfl) (wdtsFollow_keeps _) rfl

theorem startImage_releaseKept (s : State) (slot : Nat) (hint : Bool) : ReleaseKept s (startImage s slot hint) := by
  unfold startImage
  extract_lets h s1 s2 s3 m s4 vec s5 s6 s7 x s8 n
  have h5 : ReleaseKept s s5 := ⟨rfl⟩
  have h6 : ReleaseKept s s6 := .ite h5 (h5.trans (wr_releaseKept ..))
  have h7 : ReleaseKept s s7 := (h6.trans (wr_releaseKept ..)).trans (domainsApply_releaseKept _)
  have h8 : ReleaseKept s s8 := h7.step (setCore_keeps ..) rfl
  clear_value s8
  exact ⟨h8.kept⟩

/-- What the boot ROM does after the release leaves it (R544). -/
theorem bootSlots_released {s : State} {n k : Nat} (h : Released n s) (ea eb : Bool) : Released n (bootSlots s k ea eb) := by
  have htry : ∀ {t : State} a b, Released n t → Released n (bootTry t a b).2 := fun a b h =>
    h.step (.of_keeps (bootTry_keeps ..) rfl) (bootTry_keeps ..) rfl
  have hstart : ∀ {t : State} a b, Released n t → Released n (startImage t a b) := fun a b h =>
    h.step (startImage_releaseKept ..) (startImage_keeps ..) rfl
  have hdawn : ∀ {t : State} c, Released n t → Released n (dawnEnter t c) := fun c h =>
    h.step (dawnEnter_releaseKept ..) (dawnEnter_keeps ..) rfl
  unfold bootSlots
  extract_lets s1 o a s2 err x y
  have h1 : Released n s1 := by
    dsimp only [s1]
    split
    · exact ⟨h.released, h.incarnation⟩
    · exact h
  have h2 : Released n s2 := by
    dsimp only [s2]
    split
    · split
      · exact ⟨h1.released, h1.incarnation⟩
      · exact h1
    · exact h1
  have hx : Released n x.2 := htry _ _ h2
  have hy : Released n y.2 := htry _ _ hx
  split
  · exact hstart _ _ hx
  · split
    · exact hstart _ _ hy
    · exact hdawn _ hy

/-- A key and a bit below it, as BOOT_CTRL and DAWN_REQ take them. -/
theorem keyWord_parts (key : Nat) : bitOf (key % 65536 * 2 ^ 16 + 1) 0 = true ∧ (key % 65536 * 2 ^ 16 + 1) / 2 ^ 16 % 2 ^ 16 = key % 65536 := by
  refine ⟨?_, by omega⟩
  simp only [bitOf, beq_iff_eq]
  omega

theorem bootGood_store {s : State} {who : By} (h : MayWrite s who P.mgmt 0x04C) (key : Nat) :
    exec (.bootGood who key) s = .next (bootGood (dropArms s P.mgmt) (key % 65536)) := by
  have hword : mkWord [(F.MGMT_BOOT_CTRL_KEY, key), (F.MGMT_BOOT_CTRL_BOOT_GOOD, 1)] = key % 65536 * 2 ^ 16 + 1 := by
    simp [mkWord, F.MGMT_BOOT_CTRL_KEY, F.MGMT_BOOT_CTRL_BOOT_GOOD]
  obtain ⟨hbit, hkey⟩ := keyWord_parts key
  refine congrArg Host.Outcome.next ((congrArg _ hword).trans ((h.mgmt_eq _ (by decide +kernel) (by decide +kernel) (by decide)).trans ?_))
  unfold effMgmt
  rw [if_neg (by decide), if_pos rfl, if_pos hbit, hkey]

theorem dawnReq_store {s : State} {who : By} (h : MayWrite s who P.mgmt 0x054) (key : Nat) :
    exec (.dawnReq who key) s = .next (dawnReq (dropArms s P.mgmt) who.ini (key % 65536)) := by
  have hword : mkWord [(F.MGMT_DAWN_REQ_KEY, key), (F.MGMT_DAWN_REQ_REQ, 1)] = key % 65536 * 2 ^ 16 + 1 := by
    simp [mkWord, F.MGMT_DAWN_REQ_KEY, F.MGMT_DAWN_REQ_REQ]
  obtain ⟨hbit, hkey⟩ := keyWord_parts key
  refine congrArg Host.Outcome.next ((congrArg _ hword).trans ((h.mgmt_eq _ (by decide +kernel) (by decide +kernel) (by decide)).trans ?_))
  unfold effMgmt
  rw [if_neg (by decide), if_neg (by decide), if_pos rfl, if_pos hbit, hkey]

/-- Settles O19. -/
theorem bootAndRelease : Obligations.BootAndRelease := by
  unfold Obligations.BootAndRelease
  refine ⟨?_, ?_, ?_⟩
  case refine_1 =>
    intro s b ea eb hin hrails hlow hv
    refine ⟨_, congrArg Host.Outcome.next (if_pos (by simp [hin, hrails, hlow])), ?_⟩
    have h1 := resetRelease_released hv
    generalize resetRelease s = r at *
    dsimp only
    generalize hu : (if r.ao.actFlag then raise (updResult { r with ao := { r.ao with actFlag := false } } 14) P.upd 5 else r) = u
    have h2 : Released ((s.ao.incarnation + 1) % 65536) u := by
      rw [← hu]
      split
      · have hflag : Released ((s.ao.incarnation + 1) % 65536) { r with ao := { r.ao with actFlag := false } } := ⟨h1.released, h1.incarnation⟩
        have hwr : ∀ v, Released ((s.ao.incarnation + 1) % 65536) (({ r with ao := { r.ao with actFlag := false } } : State).wr P.upd
            F.UPDATE_UPD_STAT_RESULT v) := fun _ => ⟨hflag.released, hflag.incarnation⟩
        exact ((hwr 14).step (hubLog_releaseKept ..) (hubLog_keeps ..) rfl).step
          (raise_releaseKept ..) (raise_keeps ..) rfl
      · exact h1
    suffices h : Released ((s.ao.incarnation + 1) % 65536) (if b then dawnEnter u 2 else if u.ao.dawnReq then dawnEnter u 4
        else if 3 ≤ u.ao.bootFails then dawnEnter u 3
        else bootSlots { u with ao := { u.ao with bootFails := u.ao.bootFails + 1 } } u.ao.bootFails ea eb) from ⟨h.released, h.incarnation⟩
    have hdawn : ∀ c, Released ((s.ao.incarnation + 1) % 65536) (dawnEnter u c) := fun c =>
      h2.step (dawnEnter_releaseKept ..) (dawnEnter_keeps ..) rfl
    split
    · exact hdawn 2
    · split
      · exact hdawn 4
      · split
        · exact hdawn 3
        · have htry : Released ((s.ao.incarnation + 1) % 65536) { u with ao := { u.ao with bootFails := u.ao.bootFails + 1 } } :=
            ⟨h2.released, h2.incarnation⟩
          exact bootSlots_released htry ea eb
  case refine_2 =>
    intro s who key h
    refine ⟨_, bootGood_store h key, fun hk => ?_, fun hk => if_pos hk⟩
    unfold bootGood
    rw [if_neg (by simp [hk])]
    dsimp only
    split <;> rfl
  case refine_3 =>
    intro s who key h
    refine ⟨_, dawnReq_store h key, fun hk => ?_, fun hk => if_pos hk⟩
    unfold dawnReq
    rw [if_neg (by simp [hk])]
    generalize hd : ({ dropArms s P.mgmt with ao := { (dropArms s P.mgmt).ao with dawnReq := true } } : State) = d
    have hst : d.st ≠ NS.eclipse := hd ▸ st_of_alive h.alive
    have hrole : d.role = s.role := hd ▸ rfl
    have hreq : d.ao.dawnReq = true := hd ▸ rfl
    refine ⟨(congrArg AoSt.dawnReq ((requestWarm_keeps ..).ao rfl)).trans hreq, fun hr => ?_⟩
    unfold requestWarm
    rw [if_neg hst, if_neg (by simp [hrole, hr])]
    simp

end Sys2Proof.Machine
end

section
/-!
PROOF. The states of a lane (05_ring_links_and_frames.md, Bringing a lane up): O26.
-/

namespace Sys2Proof.Machine

/-! ## The state of a lane -/

@[simp] theorem laneState_setLaneState (s : State) (i st : Nat) (h : st < 16) : laneState (setLaneState s i st) i = st := by
  have hset : ((s.wr (P.lane i) F.LANE_LANE_STAT_STATE st).wr (P.lane i) F.HDR_PAGE_STAT_STOPPED (b2n (st == LS.off))).rd (P.lane i)
      F.LANE_LANE_STAT_STATE = st :=
    (rd_wr_beside _ _ _ rfl).trans ((rd_wr_same ..).trans (Nat.mod_eq_of_lt h))
  unfold setLaneState
  dsimp only
  split <;> exact hset

/-- Registers of the lane's page beside STATE and STOPPED are as before. -/
theorem rd_setLaneState (s : State) (i st : Nat) {f : Fld} (h : (f.off != F.LANE_LANE_STAT_STATE.off || f.lsb != F.LANE_LANE_STAT_STATE.lsb) = true)
    (ho : (f.off != F.HDR_PAGE_STAT_STOPPED.off || f.lsb != F.HDR_PAGE_STAT_STOPPED.lsb) = true) :
    (setLaneState s i st).rd (P.lane i) f = s.rd (P.lane i) f := by
  have hset : ((s.wr (P.lane i) F.LANE_LANE_STAT_STATE st).wr (P.lane i) F.HDR_PAGE_STAT_STOPPED (b2n (st == LS.off))).rd (P.lane i) f =
      s.rd (P.lane i) f := (rd_wr_beside _ _ _ ho).trans (rd_wr_beside _ _ _ h)
  unfold setLaneState
  dsimp only
  split <;> exact hset

theorem cause_laneCause (s : State) (i c : Nat) (h : c < 16) : (laneCause s i c).rd (P.lane i) F.LANE_LANE_STAT_CAUSE = c :=
  (rd_wr_same ..).trans (Nat.mod_eq_of_lt h)

/-- A lane that leaves for SIGNAL with a cause. -/
theorem signal_cause (s : State) (i c : Nat) (h : c < 16) : laneState (setLaneState (laneCause s i c) i LS.signal) i = LS.signal ∧
    (setLaneState (laneCause s i c) i LS.signal).rd (P.lane i) F.LANE_LANE_STAT_CAUSE = c :=
  ⟨laneState_setLaneState _ _ _ (by decide), (rd_setLaneState _ _ _ rfl rfl).trans (cause_laneCause _ _ _ h)⟩

/-- Registers of a lane's page that frames in the switch do not count in. -/
theorem Moved.lane {s t : State} (h : Moved s t) (i : Nat) {f : Fld} (hf : f.off ≠ 0x010 ∧ f.off ≠ 0x09C ∧ f.off ≠ 0x0AC) :
    t.rd (P.lane i) f = s.rd (P.lane i) f := by
  obtain ⟨h1, h2, h3⟩ := hf
  refine h.regs.rd _ _ ?_
  have hp : 8 ≤ P.lane i ∧ P.lane i < 12 := by unfold P.lane; omega
  simp only [swKey, evKey, Bool.or_eq_false_iff, Bool.and_eq_false_iff, beq_eq_false_iff_ne, decide_eq_false_iff_not]
  omega

/-- The count of exits goes up with the event; other registers of the page are as before. -/
theorem laneDownCount (s : State) (i : Nat) :
    (countRaise s (P.lane i) F.LANE_DOWN_COUNT_N (P.lane i) 1).rd (P.lane i) F.LANE_DOWN_COUNT_N =
        satAdd F.LANE_DOWN_COUNT_N.width (s.rd (P.lane i) F.LANE_DOWN_COUNT_N) 1 ∧
      ∀ f : Fld, f.off ≠ 0x010 ∧ f.off ≠ 0x09C ∧ f.off ≠ 0x0AC → f.off ≠ F.LANE_DOWN_COUNT_N.off →
        (countRaise s (P.lane i) F.LANE_DOWN_COUNT_N (P.lane i) 1).rd (P.lane i) f = s.rd (P.lane i) f :=
  ⟨((raise_moved ..).lane i (by decide)).trans (rd_inc_same ..), fun f hf hne =>
    ((raise_moved ..).lane i hf).trans (rd_wr_beside _ _ _ (by simp [hne]))⟩

/-- An UP lane leaves UP: its state, its cause and its count (R114, R117). -/
theorem laneExit_leaves (s : State) (i : Nat) {st : Nat} (hst : st < 16) :
    ((laneState (laneExit s i st) i = st ∧ (laneExit s i st).rd (P.lane i) F.LANE_LANE_STAT_CAUSE = s.rd (P.lane i) F.LANE_LANE_STAT_CAUSE) ∨
      0 < s.rd (P.lane i) F.LANE_LANE_CFG_FLAP_MAX ∧ laneState (laneExit s i st) i = LS.hold ∧
        (laneExit s i st).rd (P.lane i) F.LANE_LANE_STAT_CAUSE = LC.flapping) ∧
      (laneExit s i st).rd (P.lane i) F.LANE_DOWN_COUNT_N = satAdd F.LANE_DOWN_COUNT_N.width (s.rd (P.lane i) F.LANE_DOWN_COUNT_N) 1 := by
  unfold laneExit
  extract_lets downs l t1 t2 most hold t3 t4
  have h1 : ∀ f, t1.rd (P.lane i) f = s.rd (P.lane i) f := fun f => rd_of_regs (s := s) (t := t1) rfl _ _
  obtain ⟨hcount, hrest⟩ := laneDownCount t1 i
  have hgone : ∀ f : Fld, f.off ≠ 0x010 ∧ f.off ≠ 0x09C ∧ f.off ≠ 0x0AC →
      (flushPort (rxCut t4 i) (lanePort t4 i)).rd (P.lane i) f = t4.rd (P.lane i) f := fun f hf =>
    ((rxCut_moved t4 i).trans (flushPort_moved ..)).lane i hf
  have hmost : most = s.rd (P.lane i) F.LANE_LANE_CFG_FLAP_MAX := (hrest _ (by decide) (by decide)).trans (h1 _)
  have h3 : laneState t3 i = (if hold then LS.hold else st) ∧ t3.rd (P.lane i) F.LANE_LANE_STAT_CAUSE = s.rd (P.lane i) F.LANE_LANE_STAT_CAUSE ∧
      t3.rd (P.lane i) F.LANE_DOWN_COUNT_N = satAdd F.LANE_DOWN_COUNT_N.width (s.rd (P.lane i) F.LANE_DOWN_COUNT_N) 1 := by
    refine ⟨laneState_setLaneState _ _ _ ?_, ?_, ?_⟩
    · split
      · decide
      · exact hst
    · exact (rd_setLaneState _ _ _ rfl rfl).trans ((hrest _ (by decide) (by decide)).trans (h1 _))
    · exact (rd_setLaneState _ _ _ rfl rfl).trans (hcount.trans (congrArg (satAdd _ · 1) (h1 _)))
  obtain ⟨hstate, hcause, hdowns⟩ := h3
  clear_value t3
  rw [show laneState (flushPort (rxCut t4 i) (lanePort t4 i)) i = laneState t4 i from hgone _ (by decide), hgone _ (by decide), hgone _ (by decide)]
  cases hh : hold with
  | true =>
    have h4 : t4 = laneCause t3 i LC.flapping := if_pos hh
    rw [hh] at hstate
    rw [h4]
    refine ⟨.inr ⟨?_, (rd_wr_beside _ _ _ rfl).trans hstate, cause_laneCause _ _ _ (by decide)⟩, (rd_wr_beside _ _ _ rfl).trans hdowns⟩
    simp only [hold, Bool.and_eq_true, decide_eq_true_eq] at hh
    exact hmost ▸ hh.1.1
  | false =>
    have h4 : t4 = t3 := if_neg (by simp [hh])
    rw [hh] at hstate
    rw [h4]
    exact ⟨.inl ⟨hstate, hcause⟩, hdowns⟩

/-- Settles O26. -/
theorem laneStates : Obligations.LaneStates := by
  unfold Obligations.LaneStates
  refine ⟨?_, ?_, ?_, ?_, ?_, ?_, ?_⟩
  case refine_1 =>
    intro s i hon hi hst
    exact ⟨_, congrArg Host.Outcome.next (if_pos (by simp [hon, hi, hst])), laneState_setLaneState _ _ _ (by decide)⟩
  case refine_2 =>
    intro s i b hon hi hst hinv
    refine ⟨_, congrArg Host.Outcome.next (if_pos ?_), ?_⟩
    · cases b with
      | true => simp [hon, hi, hst, hinv rfl]
      | false => simp [hon, hi, hst]
    dsimp only
    generalize hu : (if b then s.wr (P.lane i) F.LANE_LANE_STAT_RX_INVERTED (1 - s.rd (P.lane i) F.LANE_LANE_STAT_RX_INVERTED) else s) = u
    have htap : tapLane u i = tapLane s i := by
      rw [← hu]
      split
      · have hapart : keyApart (P.pd 0) F.PD_PD_STAT_TAP (P.lane i) F.LANE_LANE_STAT_RX_INVERTED = true := by
          simp [keyApart, P.pd, P.lane]
          omega
        unfold tapLane tapOn State.pd
        rw [rd_wr_apart _ _ hapart]
      · rfl
    have hinverted : u.rd (P.lane i) F.LANE_LANE_STAT_RX_INVERTED = (if b then (1 - s.rd (P.lane i) F.LANE_LANE_STAT_RX_INVERTED) % 2
        else s.rd (P.lane i) F.LANE_LANE_STAT_RX_INVERTED) := by
      rw [← hu]
      cases b with
      | true => exact rd_wr_same ..
      | false => rfl
    rw [htap]
    by_cases ht : tapLane s i = true
    · rw [if_pos ht, if_pos ht]
      exact ⟨((raise_moved ..).lane i (by decide)).trans (laneState_setLaneState _ _ _ (by decide)),
        ((raise_moved ..).lane i (by decide)).trans ((rd_setLaneState _ _ _ rfl rfl).trans hinverted), fun _ => bit_raise _ _ _ (by decide)⟩
    · rw [if_neg ht, if_neg ht]
      exact ⟨laneState_setLaneState _ _ _ (by decide), (rd_setLaneState _ _ _ rfl rfl).trans hinverted, fun h => absurd h ht⟩
  case refine_3 =>
    intro s i hon hi hst
    exact ⟨_, congrArg Host.Outcome.next (if_pos (by simp [hon, hi, hst])), signal_cause _ _ _ (by decide)⟩
  case refine_4 =>
    intro s i hon hi hst hsaid
    refine ⟨_, congrArg Host.Outcome.next (if_pos (by simp [hon, hi, hst, hsaid])), ?_, bit_raise _ _ _ (by decide), ?_⟩
    · exact ((raise_moved ..).lane i (by decide)).trans (cause_laneCause s i _ (by decide))
    · exact ((raise_moved ..).lane i (by decide)).trans ((rd_wr_beside s (f := F.LANE_LANE_STAT_STATE) (g := F.LANE_LANE_STAT_CAUSE) (P.lane i) LC.noSignal rfl).trans hst)
  case refine_5 =>
    intro s i hon hi hst hheard
    exact ⟨_, congrArg Host.Outcome.next (if_pos (by simp [hon, hi, hst, hheard])), signal_cause _ _ _ (by decide)⟩
  case refine_6 =>
    intro s i c hon hi hup hc
    have hrun : exec (.laneDown i c) s = .next (linkNotice (laneExit (laneCause s i c) i LS.signal) i 3) :=
      congrArg Host.Outcome.next ((if_pos (by simp [hon, hi, hc])).trans (if_pos hup))
    refine ⟨_, hrun, ?_⟩
    obtain ⟨hstate, hcount⟩ := laneExit_leaves (laneCause s i c) i (st := LS.signal) (by decide)
    have hnotice : ∀ f : Fld, 0x040 ≤ f.off → (linkNotice (laneExit (laneCause s i c) i LS.signal) i 3).rd (P.lane i) f =
        (laneExit (laneCause s i c) i LS.signal).rd (P.lane i) f := fun f hf =>
      (linkNotice_keeps ..).rd_body group_lane hf rfl
    have hmax : (laneCause s i c).rd (P.lane i) F.LANE_LANE_CFG_FLAP_MAX = s.rd (P.lane i) F.LANE_LANE_CFG_FLAP_MAX := rd_wr_beside _ _ _ rfl
    have hdown : (laneCause s i c).rd (P.lane i) F.LANE_DOWN_COUNT_N = s.rd (P.lane i) F.LANE_DOWN_COUNT_N := rd_wr_beside _ _ _ rfl
    rw [cause_laneCause s i c (by omega), hmax] at hstate
    rw [hdown] at hcount
    unfold laneState at hstate ⊢
    rw [hnotice _ (by decide), hnotice _ (by decide), hnotice _ (by decide)]
    exact ⟨hstate, hcount⟩
  case refine_7 =>
    intro s i x hon hi hst hx
    exact ⟨_, congrArg Host.Outcome.next (if_pos (by simp [hon, hi, hst, hx])), laneState_setLaneState _ _ _ (by decide)⟩

end Sys2Proof.Machine
end

section
/-!
SUPPORT. The power entry (17_power_entry.md): which of its registers an operation changes, and what each operation of a controller
sets. A controller's fields stand at the same place on the POWER page and on a BRANCH page, so that one set of offsets names both.
-/

namespace Sys2Proof.Machine

/-! ## Registers of the power entry -/

/-- A register of the POWER page or of a BRANCH page, past the page header. -/
def powKey (k : Key) : Bool := decide (0x0F0 ≤ k.page ∧ k.page < 0x0F9 ∧ 0x040 ≤ k.off)

/-- The registers outside the power entry, and those of its pages `p` that `w` names by offset and lowest bit. -/
def powBut (p : Nat → Bool) (w : Nat → Nat → Bool) (k : Key) : Bool := !powKey k || (p k.page && w k.off k.lsb)

/-- Of the power entry's registers only those that `w` names, on the pages `p`, can have changed. -/
abbrev PowKeep (p : Nat → Bool) (w : Nat → Nat → Bool) (s t : State) : Prop := RegsKeep (powBut p w) s t

theorem regGroup_pow {k : Key} (h : powKey k = true) : regGroup k = 73 ∨ regGroup k = 74 := by
  obtain ⟨page, off, lsb, i⟩ := k
  simp only [powKey, decide_eq_true_eq] at h
  obtain ⟨h1, h2, h3⟩ := h
  have hpages : page = P.power ∨ page = P.branch (page - 0x0F1) := by unfold P.power P.branch; omega
  rcases hpages with hp | hp
  · exact .inl (hp ▸ group_power.resolve_right (regGroup_ne_header h3))
  · exact .inr (hp ▸ group_branch.resolve_right (regGroup_ne_header h3))

theorem PowKeep.of_keeps {p : Nat → Bool} {w : Nat → Nat → Bool} {m : Nat} {s t : State} (h : Keeps m s t)
    (hm : (m.testBit 73 || m.testBit 74) = false) : PowKeep p w s t := ⟨fun k d hk => by
  simp only [Bool.or_eq_false_iff] at hm
  simp only [powBut, Bool.or_eq_false_iff, Bool.not_eq_false'] at hk
  refine h.pages k d ?_
  rcases regGroup_pow hk.1 with e | e <;> rw [e]
  · exact hm.1
  · exact hm.2⟩

theorem PowKeep.widen {p q : Nat → Bool} {v w : Nat → Nat → Bool} {s t : State} (h : PowKeep p v s t)
    (hp : ∀ n, p n = true → q n = true) (hw : ∀ o l, v o l = true → w o l = true) : PowKeep q w s t :=
  h.mono fun k hk => by
    simp only [powBut, Bool.or_eq_false_iff, Bool.and_eq_false_iff] at hk ⊢
    refine ⟨hk.1, hk.2.imp (fun e => ?_) fun e => ?_⟩
    · exact Bool.eq_false_iff.mpr fun c => by simp [hp _ c] at e
    · exact Bool.eq_false_iff.mpr fun c => by simp [hw _ _ c] at e

/-- A controller's page. -/
theorem ctlPage_range {c : Nat} (h : c ≤ 8) : 0x0F0 ≤ ctlPage c ∧ ctlPage c < 0x0F9 := by
  unfold ctlPage P.power P.branch
  split <;> omega

theorem ctlPage_ne {c d : Nat} (hc : c ≤ 8) (hd : d ≤ 8) (h : c ≠ d) : ctlPage c ≠ ctlPage d := by
  unfold ctlPage P.power P.branch mainCtl
  split <;> split <;> omega

theorem ctlPage_branch {c : Nat} (h : c < 8) : ctlPage c = P.branch c := if_neg (by unfold mainCtl; omega)

/-- A controller's field that `w` does not name, or of a page that `p` does not. -/
theorem PowKeep.ctl {p : Nat → Bool} {w : Nat → Nat → Bool} {s t : State} (h : PowKeep p w s t) {c : Nat} (hc : c ≤ 8) {m b : Fld}
    (ho : 0x040 ≤ m.off ∧ 0x040 ≤ b.off) (hw : p (ctlPage c) = false ∨ (w m.off m.lsb = false ∧ w b.off b.lsb = false)) :
    t.ctl c m b = s.ctl c m b := by
  have hr := ctlPage_range hc
  refine h.rd _ _ ?_
  simp only [powBut, powKey, Bool.or_eq_false_iff, Bool.and_eq_false_iff, Bool.not_eq_false', decide_eq_true_eq]
  rcases hw with hw | ⟨hm, hb⟩
  · exact ⟨⟨hr.1, hr.2, by split <;> simp [ho]⟩, .inl hw⟩
  · exact ⟨⟨hr.1, hr.2, by split <;> simp [ho]⟩, .inr (by split <;> assumption)⟩

/-- A register of the POWER page. -/
theorem PowKeep.power {p : Nat → Bool} {w : Nat → Nat → Bool} {s t : State} (h : PowKeep p w s t) {f : Fld} (ho : 0x040 ≤ f.off)
    (hw : (p P.power && w f.off f.lsb) = false) : t.rd P.power f = s.rd P.power f :=
  h.rd _ _ (by simp [powBut, powKey, ho, hw, P.power] at *; exact hw)

/-- A register of a BRANCH page. -/
theorem PowKeep.branch {p : Nat → Bool} {w : Nat → Nat → Bool} {s t : State} (h : PowKeep p w s t) {b : Nat} {f : Fld} (ho : 0x040 ≤ f.off)
    (hw : (p (P.branch b) && w f.off f.lsb) = false) : t.rd (P.branch b) f = s.rd (P.branch b) f := by
  refine h.rd _ _ ?_
  have hb : 0x0F0 ≤ P.branch b ∧ P.branch b < 0x0F9 := by unfold P.branch; omega
  simp only [powBut, powKey, hw, Bool.or_false, Bool.not_eq_false', decide_eq_true_eq]
  exact ⟨hb.1, hb.2, ho⟩

/-! ## What each operation of a controller writes -/

/-- One page. -/
def onPage (c : Nat) (page : Nat) : Bool := page == ctlPage c

/-- The BRANCH pages. -/
def onBranches (page : Nat) : Bool := page != P.power

/-- STATE, PG and LAST.E: what the end of a gate's turn writes. -/
def gateW (o l : Nat) : Bool := (o == 0x0A4 && (l == 29 || l == 28)) || (o == 0x0A8 && l == 16)

/-- STATE and LAST_CAUSE: what a branch that is to be queued writes. -/
def queueW (o l : Nat) : Bool := o == 0x0A4 && (l == 29 || l == 24)

theorem ctlWr_pow (s : State) (c : Nat) (m b : Fld) (v : Nat) {w : Nat → Nat → Bool} (hm : w m.off m.lsb = true) (hb : w b.off b.lsb = true) :
    PowKeep (onPage c) w s (s.ctlWr c m b v) :=
  (RegsKeep.refl _ s).wr v (by simp only [powBut, onPage, beq_self_eq_true, Bool.true_and, Bool.or_eq_true]; right; split <;> assumption)

theorem ctl_ctlWr (s : State) (c : Nat) {m b : Fld} (v : Nat) (h : m.width = b.width) : (s.ctlWr c m b v).ctl c m b = v % 2 ^ m.width := by
  refine (rd_wr_same ..).trans ?_
  split
  · rfl
  · rw [h]

@[simp] theorem ctlState_setCtlState (s : State) (c v : Nat) (h : v < 8) : ctlState (setCtlState s c v) c = v :=
  (ctl_ctlWr _ _ _ rfl).trans (Nat.mod_eq_of_lt h)

theorem powerEv_pow (s : State) (p k : Nat) : PowKeep (fun _ => false) (fun _ _ => false) s (powerEv s p k) := .of_keeps (powerEv_keeps ..) rfl

theorem ctlEv_pow (s : State) (c k : Nat) : PowKeep (fun _ => false) (fun _ _ => false) s (ctlEv s c k) := .ite (fun _ => powerEv_pow ..) fun _ => powerEv_pow ..

theorem setPg_pow (s : State) (c : Nat) (b : Bool) : PowKeep (onPage c) (fun o l => o == 0x0A4 && l == 28) s (setPg s c b) :=
  .ite (fun _ => .refl ..) fun _ => RegsKeep.trans (ctlWr_pow _ _ _ _ _ rfl rfl) ((ctlEv_pow ..).widen (fun _ h => nomatch h) fun _ _ h => nomatch h)

theorem ctlPg_setPg {s : State} {c : Nat} (hc : c ≤ 8) (b : Bool) : ctlPg (setPg s c b) c = b := by
  unfold setPg
  split
  next h => exact beq_iff_eq.mp h
  next h =>
    refine (congrArg (· == 1) ((ctlEv_pow ..).ctl hc (by decide) (.inl rfl))).trans ?_
    rw [ctl_ctlWr s c (m := F.POWER_MAIN_STAT_PG) (b := F.BRANCH_BR_STAT_PG) _ rfl]
    cases b <;> rfl

theorem keepEnergy_pow (s : State) (c : Nat) : PowKeep (onPage c) gateW s (keepEnergy s c) :=
  .ite (fun _ => ctlWr_pow _ _ _ _ _ rfl rfl) fun _ => .refl ..

theorem setCause_pow (s : State) (c v : Nat) : PowKeep (onPage c) (fun o l => o == 0x0A4 && l == 24) s (setCause s c v) := by
  have h := ctlWr_pow s c F.POWER_MAIN_STAT_LAST_CAUSE F.BRANCH_BR_STAT_LAST_CAUSE v (w := fun o l => o == 0x0A4 && l == 24) rfl rfl
  exact .ite (fun _ => h.trans (PowKeep.of_keeps (hubLog_keeps ..) rfl)) fun _ => h

theorem cause_setCause {s : State} {c v : Nat} (hc : c ≤ 8) (hv : v < 8) :
    (setCause s c v).ctl c F.POWER_MAIN_STAT_LAST_CAUSE F.BRANCH_BR_STAT_LAST_CAUSE = v := by
  have h := (ctl_ctlWr s c (m := F.POWER_MAIN_STAT_LAST_CAUSE) (b := F.BRANCH_BR_STAT_LAST_CAUSE) v rfl).trans (Nat.mod_eq_of_lt hv)
  unfold setCause
  dsimp only
  split
  · exact (PowKeep.ctl (p := fun _ => false) (w := fun _ _ => false) (.of_keeps (hubLog_keeps ..) rfl) hc (by decide) (.inl rfl)).trans h
  · exact h

/-! ## The branches' queue and gates -/

theorem brEnqueue_pow (s : State) (b : Nat) : PowKeep (onPage b) queueW s (brEnqueue s b) := by
  refine .ite (fun _ => (setCause_pow ..).widen (fun _ h => h) fun o l h => by simp [queueW] at *; simp [h]) fun _ => ?_
  exact ((RegsKeep.of_eq (s := s) (t := unqueue s b) rfl).trans (ctlWr_pow _ _ _ _ _ rfl rfl)).trans (.of_eq rfl)

theorem brEnqueue_queued {s : State} {b : Nat} (h : (ctl s b).prot.isSome = true) : ctlState (brEnqueue s b) b = 1 := by
  unfold brEnqueue
  rw [if_neg (by simp [Option.isSome_iff_ne_none.mp h])]
  exact ctlState_setCtlState (unqueue s b) b 1 (by decide)

theorem brGateOff_pow (s : State) (b st : Nat) : PowKeep (onPage b) gateW s (brGateOff s b st) := by
  unfold brGateOff
  extract_lets u x v
  have hv : PowKeep (onPage b) gateW s v := (keepEnergy_pow s b).trans (.ite (fun _ => .of_eq rfl) fun _ => .refl ..)
  clear_value v
  exact (hv.trans ((RegsKeep.of_eq (s := v) (t := unqueue v b) rfl).trans (ctlWr_pow _ _ _ _ _ rfl rfl))).trans
    ((setPg_pow ..).widen (fun _ h => h) fun _ _ h => by simp [gateW] at *; simp [h])

theorem brGateOff_state (s : State) {b st : Nat} (hb : b ≤ 8) (h : st < 8) : ctlState (brGateOff s b st) b = st := by
  unfold brGateOff
  extract_lets u x v
  refine Eq.trans ?_ (ctlState_setCtlState (unqueue v b) b st h)
  exact (setPg_pow ..).ctl hb (by decide) (.inr (by decide))

theorem onPage_branches {b : Nat} (h : b < 8) (n : Nat) (hn : onPage b n = true) : onBranches n = true := by
  rw [onPage, beq_iff_eq] at hn
  rw [hn, ctlPage_branch h]
  simp [onBranches, P.branch, P.power]
  omega

theorem brPgFell_pow (s : State) : PowKeep onBranches gateW s (brPgFell s) :=
  .each (fun _ b hb => .ite (fun _ => (brGateOff_pow ..).widen (onPage_branches hb) fun _ _ h => h) fun _ => .refl ..) (.refl ..)

theorem brPgRose_pow (s : State) : PowKeep onBranches queueW s (brPgRose s) :=
  .each (fun _ b hb => .ite (fun _ => (brEnqueue_pow ..).widen (onPage_branches hb) fun _ _ h => h) fun _ => .refl ..) (.refl ..)

/-- STATE and what stands beside it, and LAST: what a controller's own changes write. -/
def statW (o _ : Nat) : Bool := o == 0x0A4 || o == 0x0A8

theorem gateW_statW (o l : Nat) (h : gateW o l = true) : statW o l = true := by
  simp only [gateW, statW, Bool.or_eq_true, Bool.and_eq_true] at *
  exact h.imp And.left And.left

theorem endAttempt_pow (s : State) (c t : Nat) : PowKeep (fun _ => true) gateW s (endAttempt s c t) := by
  unfold endAttempt
  extract_lets u x v pg w
  have hv : PowKeep (fun _ => true) gateW s v :=
    ((keepEnergy_pow s c).widen (fun _ _ => rfl) fun _ _ h => h).trans (.ite (fun _ => .of_eq rfl) fun _ => .refl ..)
  have hw : PowKeep (fun _ => true) gateW s w :=
    hv.trans ((setPg_pow ..).widen (fun _ _ => rfl) fun _ _ h => by simp [gateW] at *; simp [h])
  exact .ite (fun _ => hw.trans ((brPgFell_pow w).widen (fun _ _ => rfl) fun _ _ h => h)) fun _ => hw

/-! ## Seating -/

theorem mainSeating_pow (s : State) : PowKeep (· == P.power) (fun o l => o == 0x0A4 && l == 29) s (mainSeating s) := by
  have h : ∀ (t : State) v, PowKeep (· == P.power) (fun o l => o == 0x0A4 && l == 29) t (setCtlState t mainCtl v) :=
    fun t v => ctlWr_pow t mainCtl F.POWER_MAIN_STAT_STATE F.BRANCH_BR_STAT_STATE v rfl rfl
  refine .ite (fun _ => ?_) fun _ => .ite (fun _ => h ..) fun _ => .refl ..
  exact RegsKeep.trans (t := { s with power := { s.power with seatAt := s.coreNow } }) (.of_eq rfl) (h _ 1)

theorem mainSeating_stat (s : State) : PowKeep (fun _ => true) statW s (mainSeating s) :=
  (mainSeating_pow s).widen (fun _ _ => rfl) fun o l h => by simp [statW] at *; simp [h]

theorem mainShutdown_pow (s : State) (cause t : Nat) : PowKeep (fun _ => true) statW s (mainShutdown s cause t) := by
  have hgate : PowKeep (fun _ => true) statW s (if gateOn s mainCtl then endAttempt s mainCtl t else s) :=
    .ite (fun _ => (endAttempt_pow ..).widen (fun _ h => h) gateW_statW) fun _ => .refl ..
  refine RegsKeep.trans (RegsKeep.trans (t := setCause (if gateOn s mainCtl then endAttempt s mainCtl t else s) mainCtl cause)
    (hgate.trans ?_) ?_) (mainSeating_stat _)
  · exact (setCause_pow ..).widen (fun _ _ => rfl) fun o l h => by simp [statW] at *; simp [h]
  · exact (ctlWr_pow _ _ _ _ _ rfl rfl).widen (fun _ _ => rfl) fun _ _ h => h

theorem latchClear_pow (s : State) (c : Nat) : PowKeep (fun _ => true) statW s (latchClear s c) := by
  have h : PowKeep (fun _ => true) statW s (setRetries (setCtlState s c 0) c 0) :=
    PowKeep.widen (p := onPage c) (v := statW) (RegsKeep.trans (ctlWr_pow _ _ F.POWER_MAIN_STAT_STATE F.BRANCH_BR_STAT_STATE _ rfl rfl)
      (ctlWr_pow _ _ F.POWER_MAIN_STAT_RETRIES F.BRANCH_BR_STAT_RETRIES _ rfl rfl)) (fun _ _ => rfl) fun _ _ h => h
  exact .ite (fun _ => .ite (fun _ => h.trans (mainSeating_stat _)) fun _ => h) fun _ => .refl ..

/-- What follows PG_MAIN writes no register of the power entry. -/
theorem afterPower_pow (s : State) : PowKeep (fun _ => false) (fun _ _ => false) s (afterPower s) := .of_keeps (afterPower_keeps ..) rfl

/-! ## Events -/

theorem powerEv_raised (s : State) (p k : Nat) : Raised (noEclEv s) s (powerEv s p k) :=
  .ite (fun _ => raise_raised ..) fun _ => evOnly_raised ..

theorem bit_powerEv (s : State) (p : Nat) {k : Nat} (hk : k < 32) : (powerEv s p k).bit p F.HDR_EV_STAT_EV k = true := by
  unfold powerEv
  split
  · exact bit_raise _ _ _ hk
  · exact (bit_setBit _ _ _ _ _ _ hk).trans (if_pos rfl)

theorem ctlEv_evStay (s : State) (c k : Nat) : EvStay s (ctlEv s c k) := .ite (powerEv_raised ..).evStay (powerEv_raised ..).evStay

theorem ctlWr_evStay (s : State) (c : Nat) {m b : Fld} (v : Nat) (h : m.off ≠ 0x010 ∧ b.off ≠ 0x010) : EvStay s (s.ctlWr c m b v) :=
  (EvStay.refl s).wr _ _ _ (by split <;> simp [h])

theorem setCtlState_evStay (s : State) (c v : Nat) : EvStay s (setCtlState s c v) := ctlWr_evStay _ _ _ (by decide)

theorem logPut_evStay (s : State) (x : LogEnt) : EvStay s (logPut s x) := by
  unfold logPut
  extract_lets h u m
  have hu : EvStay s u := .ite ((EvStay.refl s).wr _ _ _ (by decide)) (.refl s)
  refine EvStay.wr (.trans hu ?_) _ _ _ (by decide)
  exact .of_regs rfl

theorem hubLog_evStay (s : State) (kind : Nat) (c a b : Option Nat) : EvStay s (hubLog s kind c a b) := by
  unfold hubLog logAdd
  extract_lets
  refine .trans (.trans (.of_regs ?_) (logPut_evStay ..)) (.ite (raise_evStay ..) (.refl _))
  show State.regs (Prod.snd (orDraw _ _ _)) = _
  rw [orDraw_regs_eq, orDraw_regs_eq, orDraw_regs_eq]

theorem setCause_evStay (s : State) (c v : Nat) : EvStay s (setCause s c v) :=
  .ite (.trans (ctlWr_evStay _ _ _ (by decide)) (hubLog_evStay ..)) (ctlWr_evStay _ _ _ (by decide))

theorem setPg_evStay (s : State) (c : Nat) (b : Bool) : EvStay s (setPg s c b) :=
  .ite (.refl s) (.trans (ctlWr_evStay _ _ _ (by decide)) (ctlEv_evStay ..))

theorem keepEnergy_evStay (s : State) (c : Nat) : EvStay s (keepEnergy s c) := .ite (ctlWr_evStay _ _ _ (by decide)) (.refl s)

theorem brGateOff_evStay (s : State) (b st : Nat) : EvStay s (brGateOff s b st) := by
  unfold brGateOff
  extract_lets u x v
  have hv : EvStay s v := (keepEnergy_evStay s b).trans (.ite (.of_regs rfl) (.refl _))
  exact (hv.trans (.trans (t := unqueue v b) (.of_regs rfl) (setCtlState_evStay ..))).trans (setPg_evStay ..)

theorem brPgFell_evStay (s : State) : EvStay s (brPgFell s) := .each (fun _ _ => .ite (brGateOff_evStay ..) (.refl _)) (.refl s)

theorem endAttempt_evStay (s : State) (c t : Nat) : EvStay s (endAttempt s c t) := by
  unfold endAttempt
  extract_lets u x v pg w
  have hv : EvStay s v := (keepEnergy_evStay s c).trans (.ite (.of_regs rfl) (.refl _))
  have hw : EvStay s w := hv.trans (setPg_evStay ..)
  exact .ite (hw.trans (brPgFell_evStay _)) hw

theorem mainSeating_evStay (s : State) : EvStay s (mainSeating s) :=
  .ite (.trans (t := { s with power := { s.power with seatAt := s.coreNow } }) (.of_regs rfl) (setCtlState_evStay ..))
    (.ite (setCtlState_evStay ..) (.refl s))

theorem mainShutdown_evStay (s : State) (cause t : Nat) : EvStay s (mainShutdown s cause t) :=
  .trans (.trans (.trans (.ite (endAttempt_evStay ..) (.refl s)) (setCause_evStay ..)) (setCtlState_evStay ..)) (mainSeating_evStay _)

theorem latchClear_evStay (s : State) (c : Nat) : EvStay s (latchClear s c) := by
  have h : EvStay s (setRetries (setCtlState s c 0) c 0) := (setCtlState_evStay ..).trans (ctlWr_evStay _ _ _ (by decide))
  exact .ite (.ite (h.trans (mainSeating_evStay _)) h) (.refl s)

theorem pdDetach_evStay (s : State) (p : Nat) : EvStay s (pdDetach s p) := by
  unfold pdDetach
  extract_lets q z x d e
  have hd : EvStay s d := (((pdQuiet_resetKept p s).ev).trans ((EvStay.refl _).zero _ _ rfl)).trans (setPd_evStay ..)
  exact .ite (.refl s) ((EvStay.ite (hd.trans ((vbusFall_evStay _).trans ((tapEnd_evStay _).trans (judgeBudget_evStay _)))) hd).trans (pdEv_raised ..).evStay)

theorem afterPower_evStay (s : State) : EvStay s (afterPower s) := by
  have hkeep : EvStay s (svcKeep s) := .of_keeps (svcKeep_keeps s) rfl
  refine .ite (hkeep.trans (.ite (.ite (setPd_evStay ..) (.refl _)) ?_)) hkeep
  exact (pdDetach_evStay ..).trans (setPd_evStay ..)

end Sys2Proof.Machine
end

section
/-!
PROOF. Feeds, seating, ramps, power-good, restart and last gasp of the power entry (17_power_entry.md): O48.
-/

namespace Sys2Proof.Machine

/-! ## Feeds (R451 to R453) -/

theorem feedBit_setFeedBit (s : State) (x k j : Nat) (b : Bool) (hj : j < 5) :
    feedBit (setFeedBit s x k b) x j = if j = k then b else feedBit s x j :=
  bit_setBit _ _ _ _ _ _ (by unfold feedFld; split <;> exact hj)

theorem PowKeep.feedBit {p : Nat → Bool} {w : Nat → Nat → Bool} {s t : State} (h : PowKeep p w s t) (x k : Nat)
    (hw : (p P.power && (w 0x0B0 10 || w 0x0B0 2)) = false) : feedBit t x k = feedBit s x k := by
  refine congrArg (bitOf · k) (h.power (by unfold feedFld; split <;> decide) ?_)
  simp only [Bool.and_eq_false_iff, Bool.or_eq_false_iff] at hw ⊢
  unfold feedFld
  split
  · exact hw.imp id And.left
  · exact hw.imp id And.right

/-- What a feed's voltage makes of its status: inside the window and below it, as `window` judges. -/
theorem feedWindow_shows (s : State) (x : Nat) (v : Int) :
    feedBit (feedWindow s x v) x 4 = (window s v (feedBit s x 4) (feedBit s x 1)).1 ∧
      feedBit (feedWindow s x v) x 2 = (window s v (feedBit s x 4) (feedBit s x 1)).2.1 := by
  unfold feedWindow
  extract_lets w ch u r t q z
  have hu : feedBit u x 4 = w.1 ∧ feedBit u x 2 = w.2.1 := by
    constructor <;> simp [u, feedBit_setFeedBit]
  have hr : feedBit r x 4 = w.1 ∧ feedBit r x 2 = w.2.1 := by
    constructor
    all_goals
      unfold r
      split
    · simpa [feedBit_setFeedBit] using hu.1
    · exact hu.1
    · simpa [feedBit_setFeedBit] using hu.2
    · exact hu.2
  have hz : feedBit z x 4 = w.1 ∧ feedBit z x 2 = w.2.1 := hr
  split
  · exact ⟨((powerEv_pow ..).feedBit _ _ rfl).trans hz.1, ((powerEv_pow ..).feedBit _ _ rfl).trans hz.2⟩
  · exact hz

theorem mainSeating_power (s : State) : (mainSeating s).power = { s.power with seatAt := (mainSeating s).power.seatAt } := by
  unfold mainSeating
  split
  · rfl
  · split <;> rfl

/-! ## Restart (R608) -/

theorem alGet_filter_page (l : List (Key × Nat)) {page : Nat} {k : Key} (h : k.page = page) (d : Nat) :
    alGet (l.filter fun e => e.1.page != page) k d = d := by
  induction l with
  | nil => rfl
  | cons e r ih =>
    rw [List.filter_cons]
    split
    next he => rw [alGet, if_neg (by rintro rfl; simp [h] at he), ih]
    next => exact ih

theorem alGet_filter_other (l : List (Key × Nat)) {page : Nat} {k : Key} (h : k.page ≠ page) (d : Nat) :
    alGet (l.filter fun e => e.1.page != page) k d = alGet l k d := by
  induction l with
  | nil => rfl
  | cons e r ih =>
    rw [List.filter_cons]
    split
    next he => simp only [alGet, ih]
    next he => rw [alGet, if_neg (by rintro rfl; simp [h] at he), ih]

/-- The pages of the power entry return to their reset values. -/
theorem rd_resetPages (s : State) {i : Nat} (hi : i < 9) (f : Fld) :
    (s.each 9 fun t i => resetPage t (0x0F0 + i)).rd (0x0F0 + i) f = resetVal (0x0F0 + i) f 0 := by
  refine each_establishes (q := fun t j => t.rd (0x0F0 + j) f = resetVal (0x0F0 + j) f 0) (fun t a _ => ?_) (fun t a b _ _ hne hb => ?_) s i hi
  · exact alGet_filter_page _ (page := 0x0F0 + a) rfl _
  · exact (alGet_filter_other _ (by simpa using hne) _).trans hb

/-- Every controller is OFF, and the queue is empty, before the main one follows its seating conditions. -/
theorem powerRestart_seats (s : State) : ∃ w, powerRestart s = mainSeating w ∧ w.power.queue = [] ∧ ∀ d ≤ 8, ctlState w d = 0 := by
  refine ⟨_, rfl, rfl, fun d hd => ?_⟩
  obtain ⟨i, hi, hp⟩ : ∃ i < 9, ctlPage d = 0x0F0 + i := ⟨ctlPage d - 0x0F0, by have := ctlPage_range hd; omega, by have := ctlPage_range hd; omega⟩
  have hreset : ctlState (s.each 9 fun t i => resetPage t (0x0F0 + i)) d = 0 := by
    unfold ctlState State.ctl
    rw [hp]
    refine (rd_resetPages _ hi _).trans ?_
    split <;> interval_cases i <;> rfl
  refine (PowKeep.ctl (p := fun _ => true) (w := fun o _ => o == 0x0B0) ?_ hd (by decide) (.inr (by decide))).trans hreset
  refine RegsKeep.wr _ (RegsKeep.wr _ (RegsKeep.wr _ (RegsKeep.of_eq ?_) (by decide)) (by decide)) (by decide)
  rfl

theorem powerRestart_shows (s : State) {c : Nat} (hc : c ≤ 8) :
    ctlState (powerRestart s) c = (if c = mainCtl ∧ seated (powerRestart s) = true then 1 else 0) ∧ (powerRestart s).power.queue = [] := by
  obtain ⟨w, he, hqueue, hstate⟩ := powerRestart_seats s
  rw [he]
  have hseated : seated (mainSeating w) = seated w := by
    unfold seated
    rw [(mainSeating_pow w).power (by decide) (by decide), mainSeating_power]
  refine ⟨?_, by rw [mainSeating_power]; exact hqueue⟩
  by_cases hm : c = mainCtl
  · rw [hm, hseated, mainSeating, if_congr (by rw [hstate _ (by decide)]) rfl rfl]
    split
    next h => rw [if_pos ⟨rfl, h.2⟩]; exact ctlState_setCtlState _ _ _ (by decide)
    next h =>
      have hs : seated w = false := Bool.eq_false_iff.mpr fun hs => h ⟨rfl, hs⟩
      rw [if_neg (by simp [hstate mainCtl (by decide)]), if_neg (by simp [hs])]
      exact hstate mainCtl (by decide)
  · rw [if_neg (by simp [hm])]
    refine ((mainSeating_pow w).ctl hc (by decide) (.inl ?_)).trans (hstate c hc)
    exact beq_false_of_ne (ctlPage_ne hc (d := mainCtl) (by decide) hm)

/-! ## Last gasp (R471, R473) -/

theorem brOn_of_pow {p : Nat → Bool} {w : Nat → Nat → Bool} {s t : State} (h : PowKeep p w s t) (b : Nat)
    (hw : (p (P.branch b) && w 0x0A0 0) = false) : brOn t b = brOn s b := congrArg (· != 0) (h.branch (by decide) hw)

theorem brOn_setBrOn (s : State) (b : Nat) (v : Bool) : brOn (setBrOn s b v) b = v := by
  refine (congrArg (· != 0) (rd_wr_same ..)).trans ?_
  cases v <;> rfl

/-- A branch that is switched off writes its own page alone. -/
theorem branchOff_pow (s : State) (b : Nat) (hb : b < 8) : PowKeep (onPage b) (fun o l => gateW o l || o == 0x0A0) s (branchOff s b) := by
  have hset : PowKeep (onPage b) (fun o l => gateW o l || o == 0x0A0) s (setBrOn s b false) :=
    (RegsKeep.refl _ s).wr _ (by simp [powBut, onPage, ctlPage_branch hb, F.BRANCH_BR_CTRL_ON])
  exact .ite (fun _ => hset) fun _ => hset.trans ((brGateOff_pow ..).widen (fun _ h => h) fun _ _ h => by simp [h])

theorem brOn_branchOff (s : State) {b : Nat} (hb : b < 8) : brOn (branchOff s b) b = false := by
  unfold branchOff
  dsimp only
  split
  · exact brOn_setBrOn ..
  · exact (brOn_of_pow (brGateOff_pow ..) b (by simp [gateW])).trans (brOn_setBrOn ..)

theorem branchesOff_pow (s : State) (keep : Nat) : PowKeep onBranches (fun o l => gateW o l || o == 0x0A0) s (branchesOff s keep) :=
  .each (fun _ b hb => .ite (fun _ => .refl ..) fun _ => (branchOff_pow _ b hb).widen (onPage_branches hb) fun _ _ h => h) (.refl ..)

theorem brOn_branchesOff (s : State) {keep b : Nat} (hb : b < 8) (hk : bitOf keep b = false) : brOn (branchesOff s keep) b = false := by
  refine each_establishes (q := fun t j => bitOf keep j = false → brOn t j = false) (fun t a ha h => ?_) (fun t a c ha hc hne hq h => ?_) s b hb hk
  · rw [if_neg (by simp [h])]
    exact brOn_branchOff t ha
  · split
    · exact hq h
    · refine (brOn_of_pow (branchOff_pow t a ha) c ?_).trans (hq h)
      rw [← ctlPage_branch hc]
      simp [onPage, ctlPage_ne (by omega : c ≤ 8) (by omega) hne]

theorem sesFreeze_pow (s : State) : PowKeep (fun _ => false) (fun _ _ => false) s (sesFreeze s) := .of_keeps (sesFreeze_keeps ..) rfl

/-! ## Power-good of MAIN_OUT (R459 to R461) -/

theorem setPower_feed_pow (s : State) : PowKeep (fun _ => false) (fun _ _ => false) s (setPower s false) := by
  refine .ite (fun _ => .refl ..) fun _ => ?_
  extract_lets u v
  have hu : PowKeep (fun _ => false) (fun _ _ => false) s u :=
    RegsKeep.trans (t := s.wr P.node F.NODE_NODE_STATE_POWER (b2n false)) ((RegsKeep.refl _ s).wr _ (by decide))
      (PowKeep.of_keeps (raise_keeps ..) rfl)
  have hv : PowKeep (fun _ => false) (fun _ _ => false) u v := .of_keeps (svcOverlap_keeps u) rfl
  have hcan : PowKeep (fun _ => false) (fun _ _ => false) v (domainsApply (canOut v)) :=
    RegsKeep.trans (PowKeep.of_keeps (canOut_keeps v) rfl) (PowKeep.of_keeps (domainsApply_keeps ..) rfl)
  refine ((hu.trans hv).trans hcan).trans ?_
  exact RegsKeep.trans (PowKeep.of_keeps (supplyJudge_keeps ..) rfl) (PowKeep.of_keeps (judgeBudget_keeps ..) rfl)

/-- Settles O48. -/
theorem powerFeedsAndStart : Obligations.PowerFeedsAndStart := by
  unfold Obligations.PowerFeedsAndStart
  refine ⟨?diode, ?reverse, ?reversed, ?window, ?common, ?seat, ?seated, ?ramped, ?qualified, ?restart, ?gasp, ?recover⟩
  case diode =>
    intro s x hx h
    exact ⟨_, congrArg Host.Outcome.next (if_pos (by simp [hx, h])), by rw [feedBit_setFeedBit _ _ _ _ _ (by decide), if_pos rfl]⟩
  case reverse =>
    intro s x hx h
    refine ⟨_, congrArg Host.Outcome.next (if_pos (by simp [hx, h])), ?_, ?_⟩
    · refine ((powerEv_pow ..).feedBit _ _ rfl).trans (Eq.trans ?_ ((feedBit_setFeedBit s x 3 3 false (by decide)).trans (if_pos rfl)))
      refine PowKeep.feedBit (p := fun _ => true) (w := fun o l => o == 0x0CC || (o == 0x0B0 && (l == 31 || l == 30))) ?_ _ _ (by decide)
      refine RegsKeep.inc _ (RegsKeep.wr _ (.refl ..) ?_) (by decide)
      split <;> decide
    · refine ((powerEv_pow ..).power (by decide) rfl).trans ((rd_inc_same ..).trans ?_)
      have hrd : ∀ (t : State) (f : Fld) v, f.off = 0x0B0 → (t.wr P.power f v).rd P.power F.POWER_CNT_REV_N = t.rd P.power F.POWER_CNT_REV_N :=
        fun t f v hf => rd_wr_beside _ _ _ (by rw [hf]; rfl)
      rw [hrd _ _ _ (by split <;> rfl)]
      exact congrArg (fun n => min (n + 1) _) (hrd s _ _ (by unfold feedFld; split <;> rfl))
  case reversed =>
    intro s x hx
    refine ⟨_, congrArg Host.Outcome.next (if_pos (by simp [hx])), ?_, ?_⟩ <;>
      refine ((powerEv_pow ..).feedBit _ _ rfl).trans ?_ <;> simp [feedBit_setFeedBit]
  case window =>
    intro s x d hx
    refine ⟨_, congrArg Host.Outcome.next (if_pos hx), ?_⟩
    obtain ⟨h4, h2⟩ := feedWindow_shows (s.coreAt d.t) x d.v
    have hrest : ∀ (b : Bool) (t : State) k, feedBit (afterPower (if b then { t with ao := { t.ao with wake := withBit t.ao.wake 2 } } else t)) x k =
        feedBit t x k := fun b t k => ((afterPower_pow _).feedBit _ _ rfl).trans (by split <;> rfl)
    refine ⟨fun h => (hrest ..).trans (h4.trans ?_), fun h => ⟨(hrest ..).trans (h4.trans ?_), (hrest ..).trans (h2.trans ?_)⟩⟩
    · obtain ⟨hlo, hhi⟩ := h
      have hlo' : (feedUv (s.coreAt d.t) : Int) + 500 < d.v := hlo
      have hhi' : d.v + 500 < (feedOv (s.coreAt d.t) : Int) := hhi
      unfold window
      simp only [Bool.and_eq_true, Bool.not_eq_true', Bool.or_eq_false_iff, Bool.and_eq_false_iff, decide_eq_false_iff_not]
      omega
    · have h' : d.v < (feedUv (s.coreAt d.t) : Int) := h
      simp [window, h']
    · have h' : d.v < (feedUv (s.coreAt d.t) : Int) := h
      simp [window, h']
  case common =>
    intro s d
    exact ⟨_, congrArg Host.Outcome.next ((if_neg (by decide)).trans (if_pos rfl)), congrArg PowerSt.comIn (mainSeating_power _)⟩
  case seat =>
    intro s a b x h
    refine ⟨_, congrArg Host.Outcome.next (if_neg h), ?_⟩
    extract_lets u ao t rose v
    have hn : b2n a * 2 + b2n b < 4 := by cases a <;> cases b <;> decide
    have hset : u.rd P.power F.POWER_FEED_STAT_SEAT = b2n a * 2 + b2n b :=
      ((powerEv_pow ..).power (by decide) rfl).trans ((rd_wr_same ..).trans (Nat.mod_eq_of_lt hn))
    have hev : u.bit P.power F.HDR_EV_STAT_EV 1 = true := bit_powerEv _ _ (by decide)
    have ht : t.regs = u.regs := by unfold t; split <;> rfl
    have hv : PowKeep (fun _ => true) statW t v :=
      .ite (fun _ => .ite (fun _ => latchClear_pow ..) fun _ => .refl ..) fun _ => .ite (fun _ => mainShutdown_pow ..) fun _ => .refl ..
    have hve : EvStay t v := .ite (.ite (latchClear_evStay ..) (.refl _)) (.ite (mainShutdown_evStay ..) (.refl _))
    constructor
    · rw [(afterPower_pow _).power (by decide) rfl, (mainSeating_pow v).power (by decide) rfl, hv.power (by decide) rfl, rd_of_regs ht, hset]
    · refine ((EvStay.of_regs ht).trans (hve.trans ((mainSeating_evStay v).trans (afterPower_evStay _)))).keep _ _ (by decide) hev
  case seated =>
    intro s x hst hs hp hx
    refine ⟨_, congrArg Host.Outcome.next (if_pos (by simp [hst, hs, hp, hx])), ctlState_setCtlState _ _ _ (by decide)⟩
  case ramped =>
    intro s c x hc hst
    refine ⟨_, congrArg Host.Outcome.next (if_pos (by simp [isCtl, hc, hst])), ctlState_setCtlState _ _ _ (by decide)⟩
  case qualified =>
    intro s c x hc hst ht hq
    refine ⟨_, congrArg Host.Outcome.next (if_pos (by simp [isCtl, hc, hst, ht]; simpa using hq)), ?_⟩
    extract_lets u _ v w
    have hv : ctlState v c = 4 ∧ ctlPg v c = true :=
      ⟨((setPg_pow ..).ctl hc (by decide) (.inr (by decide))).trans (ctlState_setCtlState _ _ _ (by decide)), ctlPg_setPg hc _⟩
    split
    next hm =>
      subst hm
      have hrose := brPgRose_pow v
      have hw : PowKeep (fun _ => false) (fun _ _ => false) (brPgRose v) w := .of_keeps (svcOverlap_keeps _) rfl
      have hend : PowKeep onBranches queueW v (if w.alive then supplyJudge (if w.service then setPower w false else w) else w) := by
        have hin : PowKeep (fun _ => false) (fun _ _ => false) w (if w.alive then supplyJudge (if w.service then setPower w false else w) else w) :=
          .ite (fun _ => RegsKeep.trans (.ite (fun _ => setPower_feed_pow w) fun _ => .refl ..) (PowKeep.of_keeps (supplyJudge_keeps ..) rfl)) fun _ => .refl ..
        exact hrose.trans (PowKeep.widen (RegsKeep.trans hw hin) (fun _ h => nomatch h) fun _ _ h => nomatch h)
      exact ⟨(hend.ctl hc (by decide) (.inl rfl)).trans hv.1, (congrArg (· == 1) (hend.ctl hc (by decide) (.inl rfl))).trans hv.2⟩
    next => exact hv
  case restart =>
    intro s c hc
    refine ⟨_, rfl, ?_⟩
    obtain ⟨hst, hqueue⟩ := powerRestart_shows s hc
    have hk := afterPower_pow (powerRestart s)
    have hstate : ctlState (afterPower (powerRestart s)) c = ctlState (powerRestart s) c := hk.ctl hc (by decide) (.inl rfl)
    have hpower := (afterPower_keeps (powerRestart s)).power rfl
    have hseated : seated (afterPower (powerRestart s)) = seated (powerRestart s) := by
      unfold seated
      rw [hk.power (by decide) (by decide), hpower]
    refine ⟨by rw [hstate, hseated, hst], ?_, by rw [hpower, hqueue]⟩
    unfold gateOn
    rw [hstate, hst]
    split <;> rfl
  case gasp =>
    intro s x b ha hl hp hu hb hk
    refine ⟨_, congrArg Host.Outcome.next (if_pos (by simp [ha, hp, hu]; simpa using hl)), ?_⟩
    extract_lets t u v ao w
    have hkeep : u.rd P.power F.POWER_LG_CFG_LG_KEEP = s.rd P.power F.POWER_LG_CFG_LG_KEEP :=
      ((powerEv_pow ..).power (by decide) rfl).trans ((rd_inc_apart _ _ rfl).trans (rd_wr_beside _ _ _ rfl))
    have hact : u.rd P.power F.POWER_LG_STAT_ACTIVE = 1 :=
      ((powerEv_pow ..).power (by decide) rfl).trans ((rd_inc_apart _ _ rfl).trans (rd_wr_same ..))
    have hcnt : u.rd P.power F.POWER_CNT_LAST_GASP_N = satAdd F.POWER_CNT_LAST_GASP_N.width (s.rd P.power F.POWER_CNT_LAST_GASP_N) 1 := by
      refine ((powerEv_pow ..).power (by decide) rfl).trans ((rd_inc_same ..).trans ?_)
      rw [rd_wr_beside _ _ _ rfl]
      rfl
    have hon : brOn v b = false := brOn_branchesOff u hb (by rw [hkeep]; exact hk)
    have hv := branchesOff_pow u (u.rd P.power F.POWER_LG_CFG_LG_KEEP)
    have hw : PowKeep (fun _ => false) (fun _ _ => false) v (if w.alive then sesFreeze w else w) := by
      have hvw : PowKeep (fun _ => false) (fun _ _ => false) v w := .ite (fun _ => .of_eq rfl) fun _ => .refl ..
      exact .ite (fun _ => hvw.trans (sesFreeze_pow w)) fun _ => hvw
    exact ⟨(hw.power (by decide) rfl).trans ((hv.power (by decide) (by decide)).trans hact), (brOn_of_pow hw b rfl).trans hon,
      (hw.power (by decide) rfl).trans ((hv.power (by decide) (by decide)).trans hcnt)⟩
  case recover =>
    intro s ha hf
    refine ⟨_, congrArg Host.Outcome.next (if_pos (by simp [ha, hf])), ?_, ?_, bit_powerEv _ _ (by decide)⟩
    · exact ((powerEv_pow ..).power (by decide) rfl).trans ((rd_wr_beside _ _ _ rfl).trans (rd_wr_same ..))
    · exact ((powerEv_pow ..).power (by decide) rfl).trans (rd_wr_same ..)

end Sys2Proof.Machine
end

section
/-!
PROOF. Trips, retries, protection sets, the breaker sample and the branches of the power entry (17_power_entry.md): O49.
-/

namespace Sys2Proof.Machine

/-! ## Failures and retries (R465, R466) -/

theorem ctl_setCause {s : State} {c d v : Nat} (hd : d ≤ 8) {m b : Fld} (ho : 0x040 ≤ m.off ∧ 0x040 ≤ b.off)
    (hm : ((m.off == 0x0A4 && m.lsb == 24) || (b.off == 0x0A4 && b.lsb == 24)) = false) : (setCause s c v).ctl d m b = s.ctl d m b :=
  (setCause_pow ..).ctl hd ho (.inr (by simpa using hm))

/-- What a failed attempt writes before it counts its retry: the gate's end, LAST, TIMERS, the cause and the counters. -/
def failW (o l : Nat) : Bool :=
  o == 0x0A8 || o == 0x0B0 || o == 0x0B4 || o == 0x0C0 || o == 0x0C4 || (o == 0x0A4 && (l == 29 || l == 28 || l == 16 || l == 24))

theorem gateW_failW (o l : Nat) (h : gateW o l = true) : failW o l = true := by
  simp only [gateW, failW, Bool.or_eq_true, Bool.and_eq_true] at *
  rcases h with ⟨ho, h | h⟩ | ⟨ho, -⟩
  · simp [ho, h]
  · simp [ho, h]
  · simp [ho]

theorem setCtl_regs (s : State) (c : Nat) (x : CtrlSt) : (setCtl s c x).regs = s.regs := by unfold setCtl; split <;> rfl

/-- A change of a controller's record shows in TIMERS alone. -/
theorem showTimers_pow (s : State) (c : Nat) (x : CtrlSt) : PowKeep (onPage c) (fun o l => o == 0x0A4 && l == 16) s (showTimers (setCtl s c x) c) :=
  RegsKeep.trans (t := setCtl s c x) (.of_eq (setCtl_regs ..)) (ctlWr_pow _ _ F.POWER_MAIN_STAT_TIMERS F.BRANCH_BR_STAT_TIMERS _ rfl rfl)

/-- What a failed attempt leaves: RETRY_WAIT while retries are left, else LATCHED, with its cause. -/
theorem failAttempt_leaves (s : State) {c cause : Nat} (hc : c ≤ 8) (hv : cause < 8) (t : Nat) :
    ctlState (failAttempt s c cause t) c = (if retries s c < retryMax s c ∨ retryMax s c = 255 then 5 else 6) ∧
      (failAttempt s c cause t).ctl c F.POWER_MAIN_STAT_LAST_CAUSE F.BRANCH_BR_STAT_LAST_CAUSE = cause := by
  unfold failAttempt
  extract_lets start ton a a1 u v w z z1
  -- the registers that decide and the cause, once the attempt has ended
  have ha : PowKeep (fun _ => true) gateW s a := endAttempt_pow s c t
  have ha1 : PowKeep (fun _ => true) failW a a1 := (ctlWr_pow _ _ _ _ _ rfl rfl).widen (fun _ _ => rfl) fun _ _ h => h
  have hv' : PowKeep (fun _ => true) failW a1 v := by
    refine RegsKeep.trans ((showTimers_pow a1 c _).widen (fun _ _ => rfl) fun o l h => ?_) ((setCause_pow _ c cause).widen (fun _ _ => rfl) fun o l h => ?_) <;>
      (simp [failW] at *; simp [h])
  have hw : PowKeep (fun _ => true) (fun o _ => o == 0x0B0 || o == 0x0B4 || o == 0x0C0 || o == 0x0C4) v w := by
    refine .ite (fun _ => RegsKeep.inc _ (.refl ..) ?_) fun _ => RegsKeep.inc _ (.refl ..) ?_ <;>
      (rw [powBut, Bool.or_eq_true]; right; cases start <;> rfl)
  have hz := ctlEv_pow w c 2
  have hcause : z.ctl c F.POWER_MAIN_STAT_LAST_CAUSE F.BRANCH_BR_STAT_LAST_CAUSE = cause :=
    (hz.ctl hc (by decide) (.inl rfl)).trans ((hw.ctl hc (by decide) (.inr (by decide))).trans (cause_setCause hc hv))
  have hsz : PowKeep (fun _ => true) failW s z := by
    refine RegsKeep.trans (RegsKeep.trans (RegsKeep.trans (RegsKeep.trans (ha.widen (fun _ h => h) gateW_failW) ha1) hv') ?_)
      (hz.widen (fun _ h => nomatch h) fun _ _ h => nomatch h)
    exact hw.widen (fun _ h => h) fun o l h => by
      simp only [failW, Bool.or_eq_true] at *
      tauto
  have hretries : retries z c = retries s c := hsz.ctl hc (by decide) (.inr (by decide))
  have hmax : retryMax z c = retryMax s c := hsz.ctl hc (by decide) (.inr (by decide))
  rw [hretries, hmax]
  split
  · refine ⟨ctlState_setCtlState _ _ _ (by decide), ?_⟩
    refine (PowKeep.ctl (p := onPage c) (w := fun o l => o == 0x0A4 && (l == 0 || l == 29)) ?_ hc (by decide) (.inr (by decide))).trans hcause
    refine RegsKeep.trans ?_ (ctlWr_pow _ _ F.POWER_MAIN_STAT_STATE F.BRANCH_BR_STAT_STATE _ rfl rfl)
    exact RegsKeep.trans (ctlWr_pow z c F.POWER_MAIN_STAT_RETRIES F.BRANCH_BR_STAT_RETRIES _ rfl rfl) (.of_eq (setCtl_regs ..))
  · have hev := ctlEv_pow (setCtlState z c 6) c 3
    refine ⟨(hev.ctl hc (by decide) (.inl rfl)).trans (ctlState_setCtlState _ _ _ (by decide)), (hev.ctl hc (by decide) (.inl rfl)).trans ?_⟩
    exact (PowKeep.ctl (p := onPage c) (ctlWr_pow z c F.POWER_MAIN_STAT_STATE F.BRANCH_BR_STAT_STATE 6 (w := fun o l => o == 0x0A4 && l == 29) rfl rfl)
      hc (by decide) (.inr (by decide))).trans hcause

theorem ctlFail_leaves (s : State) {c cause : Nat} (hc : c ≤ 8) (hv : cause < 8) (t : Nat) :
    ctlState (ctlFail s c cause t) c = (if retries s c < retryMax s c ∨ retryMax s c = 255 then 5 else 6) ∧
      (ctlFail s c cause t).ctl c F.POWER_MAIN_STAT_LAST_CAUSE F.BRANCH_BR_STAT_LAST_CAUSE = cause := by
  obtain ⟨h1, h2⟩ := failAttempt_leaves (s.coreAt t) hc hv t
  have hk := afterPower_pow (failAttempt (s.coreAt t) c cause t)
  exact ⟨(hk.ctl hc (by decide) (.inl rfl)).trans h1, (hk.ctl hc (by decide) (.inl rfl)).trans h2⟩

/-! ## Shutdown and restart of a gate -/

theorem mainSeating_state {s : State} (h : ctlState s mainCtl = 0) : ctlState (mainSeating s) mainCtl ≤ 1 := by
  unfold mainSeating
  split
  · exact Nat.le_of_eq (ctlState_setCtlState _ _ _ (by decide))
  · split
    · exact (Nat.le_of_eq (ctlState_setCtlState _ _ _ (by decide))).trans (by decide)
    · omega

theorem gateOn_of_state {s : State} {c : Nat} (h : ctlState s c ≤ 1 ∨ 5 ≤ ctlState s c) : gateOn s c = false := by
  unfold gateOn
  simp only [Bool.or_eq_false_iff, beq_eq_false_iff_ne]
  omega

theorem mainShutdown_leaves (s : State) {cause : Nat} (hv : cause < 8) (t : Nat) :
    ctlState (mainShutdown s cause t) mainCtl ≤ 1 ∧ (mainShutdown s cause t).rd P.power F.POWER_MAIN_STAT_LAST_CAUSE = cause := by
  unfold mainShutdown
  extract_lets u
  refine ⟨mainSeating_state (ctlState_setCtlState _ _ _ (by decide)), ((mainSeating_pow _).power (by decide) rfl).trans ?_⟩
  exact (rd_wr_beside _ _ _ rfl).trans (cause_setCause (s := u) (c := mainCtl) (by decide) hv)

/-! ## The sample (R457, R463) -/

theorem ctl_setCtl (s : State) (c : Nat) (x : CtrlSt) : ctl (setCtl s c x) c = x := by
  unfold setCtl ctl
  split
  · rfl
  · exact Tbl.at_put_same ..

theorem accStep_rest (x : CtrlSt) (k i ik : Nat) : (accStep x k i ik).energy = x.energy ∧ (accStep x k i ik).prot = x.prot := by
  unfold accStep
  dsimp only
  split
  · exact ⟨rfl, rfl⟩
  · split <;> exact ⟨rfl, rfl⟩

theorem accStep_other (x : CtrlSt) {k j : Nat} (i ik : Nat) (h : j ≠ k) : (accStep x k i ik).acc.at 0 j = x.acc.at 0 j := by
  unfold accStep
  dsimp only
  split
  · exact Tbl.at_put_ne x.acc 0 h (x.acc.at 0 k + 1)
  · split
    · exact Tbl.at_put_ne x.acc 0 h (x.acc.at 0 k - 1)
    · rfl

theorem accStep_above (x : CtrlSt) {k i ik : Nat} (h : ik < i) : (accStep x k i ik).acc.at 0 k = x.acc.at 0 k + 1 := by
  unfold accStep
  dsimp only
  rw [if_pos h]
  exact Tbl.at_put_same x.acc 0 k (x.acc.at 0 k + 1)

/-- The sample's step of one accumulator: against its point of the set in force, or falling. -/
def accTick (b : Bool) (i : Nat) (y : CtrlSt) (k : Nat) : CtrlSt :=
  match (if b then ptLimit y k else none) with
  | some ik => accStep y k i ik
  | none => accStep y k 0 0

theorem accTick_rest (b : Bool) (i : Nat) (y : CtrlSt) (k : Nat) : (accTick b i y k).energy = y.energy ∧ (accTick b i y k).prot = y.prot := by
  unfold accTick
  split <;> exact accStep_rest ..

theorem accTick_other (b : Bool) (i : Nat) (y : CtrlSt) {k j : Nat} (h : j ≠ k) : (accTick b i y k).acc.at 0 j = y.acc.at 0 j := by
  unfold accTick
  split <;> exact accStep_other _ _ _ h

theorem accTicks_rest (b : Bool) (i : Nat) (l : List Nat) (y : CtrlSt) :
    (l.foldl (accTick b i) y).energy = y.energy ∧ (l.foldl (accTick b i) y).prot = y.prot := by
  induction l generalizing y with
  | nil => exact ⟨rfl, rfl⟩
  | cons k r ih => exact ⟨(ih _).1.trans (accTick_rest ..).1, (ih _).2.trans (accTick_rest ..).2⟩

theorem accTicks_other (b : Bool) (i : Nat) (l : List Nat) (y : CtrlSt) {j : Nat} (h : j ∉ l) : (l.foldl (accTick b i) y).acc.at 0 j = y.acc.at 0 j := by
  induction l generalizing y with
  | nil => rfl
  | cons k r ih =>
    rw [List.mem_cons, not_or] at h
    exact (ih _ h.2).trans (accTick_other _ _ _ h.1)

theorem accTick_point {y : CtrlSt} {k i lim : Nat} (h : ptLimit y k = some lim) : accTick true i y k = accStep y k i lim := by
  unfold accTick
  rw [if_pos rfl, h]

/-- A current above the limit of an enabled point adds 1 µs to its accumulator. -/
theorem accTicks_above {i k lim : Nat} (hk : k < 8) (y : CtrlSt) (hp : ptLimit y k = some lim) (hi : lim < i) :
    ((List.range 8).foldl (accTick true i) y).acc.at 0 k = y.acc.at 0 k + 1 := by
  obtain ⟨l, m, hlm⟩ := List.append_of_mem (List.mem_range.2 hk)
  have hnd := hlm ▸ List.nodup_range (n := 8)
  rw [List.nodup_append, List.nodup_cons] at hnd
  obtain ⟨-, ⟨hm, -⟩, hl⟩ := hnd
  have hkl : k ∉ l := fun h => hl _ h _ List.mem_cons_self rfl
  rw [hlm, List.foldl_append, List.foldl_cons, accTicks_other _ _ _ _ hm]
  have hlim : ptLimit (l.foldl (accTick true i) y) k = some lim := by
    unfold ptLimit at *
    rw [(accTicks_rest ..).2]
    exact hp
  rw [accTick_point hlim, accStep_above _ hi, accTicks_other _ _ _ _ hkl]

/-- The record that a sample leaves, but for since when power-good qualifies. -/
theorem ctl_breakerSample (s : State) (c i dv t : Nat) : ∃ q, ctl (breakerSample s c i dv t) c =
    { (List.range 8).foldl (accTick (decide (ctlState s c = 3 ∨ ctlState s c = 4)) i)
      (if ctlState s c = 2 then { ctl s c with energy := (ctl s c).energy + dv * i } else ctl s c) with qual := q } := by
  unfold breakerSample
  extract_lets x st y z u w
  have hz : z = (List.range 8).foldl (accTick (decide (st = 3 ∨ st = 4)) i) y := by
    unfold z
    congr 1
    funext a k
    unfold accTick
    simp only [decide_eq_true_eq] <;> rfl
  have hu : ctl u c = z := by
    show ctl (setCtl s c z) c = z
    exact ctl_setCtl ..
  have hw : w = z := hz.symm
  clear_value w
  subst hw
  split
  · exact ⟨_, ctl_setCtl ..⟩
  · exact ⟨z.qual, hu⟩

/-! ## MAIN_CTRL and BR_CTRL (R462, R468, R469) -/

theorem regFields_brCtrl : ∀ b < 8, regFields (P.branch b) 0x0A0 = [F.BRANCH_BR_CTRL_APPLY, F.BRANCH_BR_CTRL_CLEAR, F.BRANCH_BR_CTRL_ON] := by
  decide +kernel

theorem regFields_mainCtrl : regFields P.power 0x0A0 = [F.POWER_MAIN_CTRL_APPLY, F.POWER_MAIN_CTRL_CLEAR] := by decide +kernel

theorem branch_register : ∀ b < 8, (pageRow (P.branch b)).isSome = true ∧ registerAt (P.branch b) 0x0A0 = true ∧
    plainShape (P.branch b) 0x0A0 = true ∧ pageType (P.branch b) = some .branch ∧ P.branch b - 0x0F1 = b ∧
    (∀ f ∈ [F.BRANCH_BR_CTRL_APPLY, F.BRANCH_BR_CTRL_CLEAR], noCondition (P.branch b) f = true) ∧
    queueNaming (P.branch b) F.BRANCH_BR_CTRL_ON = none ∧ ownStore (P.branch b) F.BRANCH_BR_CTRL_ON = true := by decide +kernel

theorem bankIdx_branch (s : State) (who : By) (b : Nat) (f : Fld) : bankIdx s who (P.branch b) f = 0 := by
  have hp : 0x0F1 ≤ P.branch b ∧ P.branch b < 0x0F9 := by unfold P.branch; omega
  unfold bankIdx
  rw [if_neg (by simp [P.sestx]; omega), if_neg (by simp [P.sesrx]; omega), if_neg (by simp [P.switch]; omega),
    if_neg (by simp [P.gw]; omega), if_neg (by simp [P.drift]; omega), if_neg (by omega), if_neg (by simp [P.log]; omega)]

/-- A write of BR_CTRL that nothing refuses is the block's operation. -/
theorem MayWriteTo.brCtrl {s : State} {who : By} {b word : Nat} {fs : List Fld} (h : MayWriteTo s who (P.branch b) fs) (hb : b < 8)
    (ha : bitsOf word 2 1 = s.rd (P.branch b) F.BRANCH_BR_CTRL_APPLY ∨ classOpen s who (P.branch b) F.BRANCH_BR_CTRL_APPLY = true)
    (ho : bitsOf word 0 1 = s.rd (P.branch b) F.BRANCH_BR_CTRL_ON ∨ bitsOf word 0 1 = 0 ∨ branchAllowed s = true) :
    busStore s who (P.branch b) 0x0A0 word = effBranch (dropArms s (P.branch b)) b 0x0A0 word := by
  obtain ⟨hrow, hreg, hplain, htype, hnum, hcond, hq, hown⟩ := branch_register b hb
  have hrd : ∀ f, activeValue (dropArms s (P.branch b)) who (P.branch b) f = s.rd (P.branch b) f := fun f => by
    unfold activeValue
    rw [bankIdx_branch]
    rfl
  have hpage : 0x0F1 ≤ P.branch b ∧ P.branch b ≤ 0x0F8 := by unfold P.branch; omega
  have hbad : badField (dropArms s (P.branch b)) who (P.branch b) 0x0A0 word = none := by
    refine badField_eq_none fun f hf => ?_
    rw [regFields_brCtrl b hb] at hf
    simp only [List.mem_cons, List.not_mem_nil, or_false] at hf
    rcases hf with rfl | rfl | rfl
    · exact ha.imp (fun e => e.trans (hrd _).symm) fun e => ⟨e, fieldOk_of_noCondition (hcond _ (by simp)) ..⟩
    · exact .inr ⟨rfl, fieldOk_of_noCondition (hcond _ (by simp)) ..⟩
    · refine ho.imp (fun e => e.trans (hrd _).symm) fun e => ⟨rfl, ?_⟩
      unfold fieldOk namingOk
      rw [hq, if_neg (by omega), if_neg (by simp [P.sesrx]; omega), if_neg (by simp [P.mgmt]; omega), if_pos ⟨hpage.1, hpage.2, rfl⟩]
      rcases e with e | e
      · have : fbits word F.BRANCH_BR_CTRL_ON = 0 := e
        simp [this]
      · have : branchAllowed (dropArms s (P.branch b)) = true := e
        simp [this]
  rw [h.applied word (by decide) hrow hreg (by simp) (by simp) hbad, applyWrite_plain hplain, regFields_brCtrl b hb]
  have hstore : ∀ (t : State) f, f ∈ [F.BRANCH_BR_CTRL_APPLY, F.BRANCH_BR_CTRL_CLEAR, F.BRANCH_BR_CTRL_ON] → storeField t who (P.branch b) f word = t :=
    fun t f hf => by
      unfold storeField
      simp only [List.mem_cons, List.not_mem_nil, or_false] at hf
      rcases hf with rfl | rfl | rfl
      · dsimp only
        split <;> rfl
      · dsimp only
        split <;> rfl
      · dsimp only
        rw [if_pos (by simp [hown])]
  rw [List.foldl_cons, List.foldl_cons, List.foldl_cons, List.foldl_nil, hstore _ _ (by simp), hstore _ _ (by simp), hstore _ _ (by simp),
    writeEffect, if_neg (by decide), htype, hnum]

/-- A write of MAIN_CTRL that nothing refuses is the block's operation. -/
theorem MayWriteTo.mainCtrl {s : State} {who : By} {word : Nat} {fs : List Fld} (h : MayWriteTo s who P.power fs)
    (ha : bitsOf word 1 1 = s.rd P.power F.POWER_MAIN_CTRL_APPLY ∨ classOpen s who P.power F.POWER_MAIN_CTRL_APPLY = true) :
    busStore s who P.power 0x0A0 word = effPower (dropArms s P.power) 0x0A0 word := by
  have hbad : badField (dropArms s P.power) who P.power 0x0A0 word = none := by
    refine badField_eq_none fun f hf => ?_
    rw [regFields_mainCtrl] at hf
    simp only [List.mem_cons, List.not_mem_nil, or_false] at hf
    rcases hf with rfl | rfl
    · exact ha.imp id fun e => ⟨e, fieldOk_of_noCondition (by decide +kernel) ..⟩
    · exact .inr ⟨rfl, fieldOk_of_noCondition (by decide +kernel) ..⟩
  rw [h.applied word (by decide) (by decide) (by decide +kernel) (by decide) (by decide) hbad, applyWrite_plain (by decide +kernel), regFields_mainCtrl]
  rfl

/-! ## The controllers' records -/

/-- The records of all controllers are as before. -/
def CtlRecs (s t : State) : Prop := t.power.main = s.power.main ∧ t.power.br = s.power.br

theorem CtlRecs.ctl {s t : State} (h : CtlRecs s t) (c : Nat) : ctl t c = ctl s c := by unfold Machine.ctl; rw [h.1, h.2]

theorem CtlRecs.of_power {s t : State} (h : t.power = s.power) : CtlRecs s t := ⟨by rw [h], by rw [h]⟩

theorem CtlRecs.trans {s t u : State} (h : CtlRecs s t) (k : CtlRecs t u) : CtlRecs s u := ⟨k.1.trans h.1, k.2.trans h.2⟩

theorem CtlRecs.ite {s t u : State} {c : Prop} [Decidable c] (h : CtlRecs s t) (k : CtlRecs s u) : CtlRecs s (if c then t else u) := by
  split
  · exact h
  · exact k

theorem brGateOff_recs (s : State) (b st : Nat) : CtlRecs s (brGateOff s b st) := by
  unfold brGateOff
  extract_lets u x v
  have hu : CtlRecs s u := .of_power ((keepEnergy_keeps ..).power rfl)
  have hv : CtlRecs s v := .ite ⟨hu.1, hu.2⟩ hu
  exact (hv.trans (t := v) (u := setCtlState (unqueue v b) b st) ⟨rfl, rfl⟩).trans (.of_power ((setPg_keeps ..).power rfl))

theorem brEnqueue_recs (s : State) (b : Nat) : CtlRecs s (brEnqueue s b) := .ite (.of_power ((setCause_keeps ..).power rfl)) ⟨rfl, rfl⟩

theorem branchOff_recs (s : State) (b : Nat) : CtlRecs s (branchOff s b) :=
  .ite ⟨rfl, rfl⟩ (CtlRecs.trans (t := setBrOn s b false) ⟨rfl, rfl⟩ (brGateOff_recs ..))

theorem branchOn_recs (s : State) (b : Nat) : CtlRecs s (branchOn s b) :=
  .ite ⟨rfl, rfl⟩ (.ite (CtlRecs.trans (t := setBrOn s b true) ⟨rfl, rfl⟩ (brEnqueue_recs ..)) ⟨rfl, rfl⟩)

/-! ## What the commands of BR_CTRL leave of the branch's status -/

theorem setBrOn_pow (s : State) {b : Nat} (hb : b < 8) (v : Bool) : PowKeep (onPage b) (fun o _ => o == 0x0A0) s (setBrOn s b v) :=
  (RegsKeep.refl _ s).wr _ (by simp [powBut, onPage, ctlPage_branch hb, F.BRANCH_BR_CTRL_ON])

/-- A branch switched on writes BR_CTRL and what its queueing writes. -/
theorem branchOn_pow (s : State) {b : Nat} (hb : b < 8) : PowKeep (onPage b) (fun o l => queueW o l || o == 0x0A0) s (branchOn s b) := by
  have hset : PowKeep (onPage b) (fun o l => queueW o l || o == 0x0A0) s (setBrOn s b true) :=
    (setBrOn_pow s hb true).widen (fun _ h => h) fun _ _ h => by rw [h, Bool.or_true]
  exact .ite (fun _ => .refl ..) fun _ => .ite (fun _ => hset.trans ((brEnqueue_pow ..).widen (fun _ h => h) fun _ _ h => by simp [h])) fun _ => hset

theorem setBrOn_state (s : State) {b : Nat} (hb : b < 8) (v : Bool) : ctlState (setBrOn s b v) b = ctlState s b :=
  (setBrOn_pow s hb v).ctl (by omega) (by decide) (.inr (by decide))

theorem brEnqueue_state (s : State) {b : Nat} (hb : b < 8) (h : ctlState s b = 0) :
    ctlState (brEnqueue s b) b = if (ctl s b).prot.isSome then 1 else 0 := by
  split
  next hp => exact brEnqueue_queued hp
  next hp =>
    unfold brEnqueue
    rw [if_pos (by simpa using hp)]
    exact (ctl_setCause (by omega) (by decide) rfl).trans h

theorem branchOn_state (s : State) {b : Nat} (hb : b < 8) (h : ctlState s b = 0) :
    ctlState (branchOn s b) b = (if (ctl s b).prot.isSome then 1 else 0) ∧ brOn (branchOn s b) b = true := by
  have hset := setBrOn_state s hb true
  unfold branchOn
  dsimp only
  rw [if_neg (by omega), if_pos (by omega)]
  refine ⟨(brEnqueue_state _ hb (by omega)).trans rfl, (brOn_of_pow (brEnqueue_pow ..) b (by simp [queueW])).trans (brOn_setBrOn ..)⟩

theorem branchOff_gate (s : State) {b : Nat} (hb : b < 8) : gateOn (branchOff s b) b = false ∧ (ctlState s b = 0 → ctlState (branchOff s b) b = 0) := by
  have hset := setBrOn_state s hb false
  unfold branchOff
  dsimp only
  split
  next h => exact ⟨gateOn_of_state (by omega), fun h0 => hset.trans h0⟩
  next =>
    have h0 := brGateOff_state (setBrOn s b false) (b := b) (st := 0) (by omega) (by decide)
    exact ⟨gateOn_of_state (by omega), fun _ => h0⟩

theorem latchClear_clears {s : State} {c : Nat} (hc : c ≤ 8) (h : ctlState s c = 6) :
    ctlState (latchClear s c) c ≤ 1 ∧ retries (latchClear s c) c = 0 ∧ (c ≠ mainCtl → ctlState (latchClear s c) c = 0) := by
  have hst : ctlState (setRetries (setCtlState s c 0) c 0) c = 0 :=
    (PowKeep.ctl (p := onPage c) (w := fun o l => o == 0x0A4 && l == 0) (ctlWr_pow _ _ _ _ _ rfl rfl) hc (by decide) (.inr (by decide))).trans
      (ctlState_setCtlState _ _ _ (by decide))
  have hre : retries (setRetries (setCtlState s c 0) c 0) c = 0 := ctl_ctlWr _ _ _ rfl
  unfold latchClear
  dsimp only
  rw [if_pos h]
  split
  next hm =>
    subst hm
    exact ⟨mainSeating_state hst, ((mainSeating_pow _).ctl hc (by decide) (.inr (by decide))).trans hre, fun h => absurd rfl h⟩
  next => exact ⟨by omega, hre, fun _ => hst⟩

/-- A set that passes is in force (R462). -/
theorem curveApply_applies {s : State} {c : Nat} (hc : c ≤ 8) (h : (stagedSet s c).passes = true) :
    (ctl (curveApply s c) c).prot = some (stagedSet s c) ∧ (curveApply s c).ctl c F.POWER_MAIN_STAT_CURVE_BAD F.BRANCH_BR_STAT_CURVE_BAD = 0 := by
  unfold curveApply
  extract_lets p x u v w
  rw [if_pos h]
  have hu : ctl u c = { x with prot := some p } := ctl_setCtl ..
  have hw : CtlRecs u w := .ite ⟨rfl, rfl⟩ ⟨rfl, rfl⟩
  have hbad : w.ctl c F.POWER_MAIN_STAT_CURVE_BAD F.BRANCH_BR_STAT_CURVE_BAD = 0 := by
    have hv : v.ctl c F.POWER_MAIN_STAT_CURVE_BAD F.BRANCH_BR_STAT_CURVE_BAD = 0 := ctl_ctlWr _ _ _ rfl
    refine (PowKeep.ctl (p := fun _ => true) (w := fun o l => o == 0x0A4 && l == 24) ?_ hc (by decide) (.inr (by decide))).trans hv
    exact .ite (fun _ => (RegsKeep.refl _ v).wr _ (by rw [powBut, Bool.or_eq_true]; exact .inr rfl)) fun _ => .refl ..
  have hrec : ctl w c = { x with prot := some p } := (hw.ctl c).trans hu
  split
  · refine ⟨?_, ((brEnqueue_pow ..).ctl hc (by decide) (.inr (by decide))).trans hbad⟩
    rw [(brEnqueue_recs w c).ctl, hrec]
  · exact ⟨by rw [hrec], hbad⟩

/-- The word of BR_CTRL that sets one trigger and keeps ON. -/
theorem brCtrl_word (s : State) (who : By) {b : Nat} (hb : b < 8) (hon : s.rd (P.branch b) F.BRANCH_BR_CTRL_ON < 2) :
    keepWord s who (P.branch b) 0x0A0 [(F.BRANCH_BR_CTRL_CLEAR, 1)] = 2 + s.rd (P.branch b) F.BRANCH_BR_CTRL_ON ∧
      keepWord s who (P.branch b) 0x0A0 [(F.BRANCH_BR_CTRL_APPLY, 1)] = 4 + s.rd (P.branch b) F.BRANCH_BR_CTRL_ON := by
  have hact : activeValue s who (P.branch b) F.BRANCH_BR_CTRL_ON = s.rd (P.branch b) F.BRANCH_BR_CTRL_ON := by
    unfold activeValue
    rw [bankIdx_branch]
    rfl
  unfold keepWord mkWord
  rw [regFields_brCtrl b hb]
  generalize s.rd (P.branch b) F.BRANCH_BR_CTRL_ON = v at *
  obtain rfl | rfl : v = 0 ∨ v = 1 := by omega
  all_goals
    simp only [List.map_cons, List.map_nil, hact]
    exact ⟨rfl, rfl⟩

/-- What a write of BR_CTRL does last: it is a command for ON (R469). -/
def brFollow (s : State) (b : Nat) (on : Bool) : State :=
  if !on then branchOff s b else if brOn s b && !branchAllowed s then s else branchOn s b

theorem effBranch_clear (s : State) (b : Nat) {v : Nat} (hv : v < 2) : effBranch s b 0x0A0 (2 + v) = brFollow (latchClear s b) b (v == 1) := by
  obtain rfl | rfl : v = 0 ∨ v = 1 := by omega
  · rfl
  · rfl

theorem effBranch_apply (s : State) (b : Nat) {v : Nat} (hv : v < 2) : effBranch s b 0x0A0 (4 + v) = brFollow (curveApply s b) b (v == 1) := by
  obtain rfl | rfl : v = 0 ∨ v = 1 := by omega
  · rfl
  · rfl

theorem brFollow_pow (s : State) {b : Nat} (hb : b < 8) (on : Bool) :
    PowKeep (onPage b) (fun o l => gateW o l || queueW o l || o == 0x0A0) s (brFollow s b on) := by
  refine .ite (fun _ => (branchOff_pow s b hb).widen (fun _ h => h) fun _ _ h => ?_) fun _ => .ite (fun _ => .refl ..) fun _ =>
    (branchOn_pow s hb).widen (fun _ h => h) fun _ _ h => ?_
  · rw [Bool.or_eq_true] at h
    exact h.elim (fun h => by simp [h]) fun h => by simp [h]
  · rw [Bool.or_assoc, h, Bool.or_true]

theorem brFollow_recs (s : State) (b : Nat) (on : Bool) : CtlRecs s (brFollow s b on) :=
  .ite (branchOff_recs ..) (.ite ⟨rfl, rfl⟩ (branchOn_recs ..))

theorem brFollow_state {s : State} {b : Nat} (hb : b < 8) (on : Bool) (h : ctlState s b = 0) : ctlState (brFollow s b on) b ≤ 1 := by
  unfold brFollow
  split
  · exact Nat.le_of_eq ((branchOff_gate s hb).2 h) |>.trans (by decide)
  · split
    · omega
    · rw [(branchOn_state s hb h).1]
      split <;> decide

/-- A write of BR_CTRL that sets one trigger acts, and then the command for ON that stands. -/
theorem MayWriteTo.brTrigger {s : State} {who : By} {b : Nat} {fs : List Fld} (h : MayWriteTo s who (P.branch b) fs) (hb : b < 8)
    (hon : s.rd (P.branch b) F.BRANCH_BR_CTRL_ON < 2) :
    (s.rd (P.branch b) F.BRANCH_BR_CTRL_APPLY = 0 → busStore s who (P.branch b) 0x0A0 (keepWord s who (P.branch b) 0x0A0 [(F.BRANCH_BR_CTRL_CLEAR, 1)]) =
        brFollow (latchClear (dropArms s (P.branch b)) b) b (s.rd (P.branch b) F.BRANCH_BR_CTRL_ON == 1)) ∧
      (classOpen s who (P.branch b) F.BRANCH_BR_CTRL_APPLY = true →
        busStore s who (P.branch b) 0x0A0 (keepWord s who (P.branch b) 0x0A0 [(F.BRANCH_BR_CTRL_APPLY, 1)]) =
          brFollow (curveApply (dropArms s (P.branch b)) b) b (s.rd (P.branch b) F.BRANCH_BR_CTRL_ON == 1)) := by
  obtain ⟨h1, h2⟩ := brCtrl_word s who hb hon
  have hlow : ∀ v < 2, bitsOf (2 + v) 2 1 = 0 ∧ bitsOf (2 + v) 0 1 = v ∧ bitsOf (4 + v) 0 1 = v := by decide
  obtain ⟨hl1, hl2, hl3⟩ := hlow _ hon
  refine ⟨fun ha => ?_, fun hc => ?_⟩
  · rw [h1, h.brCtrl hb (.inl (hl1.trans ha.symm)) (.inl hl2), effBranch_clear _ _ hon]
  · rw [h2, h.brCtrl hb (.inr hc) (.inl hl3), effBranch_apply _ _ hon]

/-- Settles O49. -/
theorem powerTripsAndBranches : Obligations.PowerTripsAndBranches := by
  unfold Obligations.PowerTripsAndBranches
  refine ⟨?sc, ?soa, ?dvdt, ?startTo, ?curve, ?ov, ?waitEnd, ?reset, ?clear, ?apply, ?ramp, ?above, ?on, ?off, ?start⟩
  case sc =>
    intro s c x hc hg
    exact ⟨_, congrArg Host.Outcome.next (if_pos (by simp [isCtl, hc, hg])), ctlFail_leaves s hc (by decide) x⟩
  case soa =>
    intro s c x p hc hst hp he
    refine ⟨_, ?_, ctlFail_leaves s hc (by decide) x⟩
    show execSoaTrip c x s = _
    unfold execSoaTrip
    rw [hp]
    exact congrArg Host.Outcome.next (if_pos (by simp [isCtl, hc, hst, he]))
  case dvdt =>
    intro s c d hc hst ht hr
    exact ⟨_, congrArg Host.Outcome.next (if_pos (by simp [isCtl, hc, hst, ht, hr])), ctlFail_leaves s hc (by decide) d.t⟩
  case startTo =>
    intro s c x hc hst ht
    exact ⟨_, congrArg Host.Outcome.next (if_pos (by simp [isCtl, hc, hst]; simpa using ht)), ctlFail_leaves s hc (by decide) x⟩
  case curve =>
    intro s c x hc hst ho
    exact ⟨_, congrArg Host.Outcome.next (if_pos (by simp [isCtl, hc, ho]; exact hst)), ctlFail_leaves s hc (by decide) x⟩
  case ov =>
    intro s x hg ho
    obtain ⟨hst, hcause⟩ := mainShutdown_leaves (s.coreAt x) (cause := PC.ovOrTemp) (by decide) x
    have hk := afterPower_pow (mainShutdown (s.coreAt x) PC.ovOrTemp x)
    refine ⟨_, congrArg Host.Outcome.next (if_pos (by rw [hg, ho]; rfl)), gateOn_of_state (.inl ?_), (hk.power (by decide) rfl).trans hcause⟩
    exact (Nat.le_of_eq (hk.ctl (c := mainCtl) (by decide) (by decide) (.inl rfl))).trans hst
  case waitEnd =>
    intro s c x hc hst ht
    refine ⟨_, congrArg Host.Outcome.next (if_pos (by simp [isCtl, hc, hst, ht])), ?_⟩
    dsimp only
    by_cases hm : c = mainCtl
    · rw [if_pos hm, if_pos hm]
      have hseat : seated (s.coreAt x) = seated s := rfl
      rw [hseat]
      split <;> exact ctlState_setCtlState _ _ _ (by decide)
    · have hb : c < 8 := by unfold mainCtl at hm; omega
      rw [if_neg hm, if_neg hm]
      have h0 : ctlState (setCtlState (s.coreAt x) c 0) c = 0 := ctlState_setCtlState _ _ _ (by decide)
      have hon : brOn (setCtlState (s.coreAt x) c 0) c = brOn s c :=
        brOn_of_pow (s := s.coreAt x) (ctlWr_pow _ _ _ _ _ (w := fun o _ => o == 0x0A4) rfl rfl) c (by simp)
      rw [hon]
      cases brOn s c
      · exact h0
      · rw [if_pos rfl, brEnqueue_state _ hb h0]
        rfl
  case reset =>
    intro s c x hc hp ht
    exact ⟨_, congrArg Host.Outcome.next (if_pos (by simp [isCtl, hc, hp, ht])), ctl_ctlWr _ _ _ rfl⟩
  case clear =>
    intro s c who hw hc hst ha hon
    by_cases hm : c = mainCtl
    · subst hm
      have happly : bitsOf (mkWord [(F.POWER_MAIN_CTRL_CLEAR, 1)]) 1 1 = s.rd P.power F.POWER_MAIN_CTRL_APPLY := Eq.symm ha
      refine ⟨_, congrArg Host.Outcome.next ((if_pos rfl).trans (hw.mainCtrl (.inl happly))), ?_⟩
      have hk := afterPower_pow (latchClear (dropArms s P.power) mainCtl)
      obtain ⟨h1, h2, -⟩ := latchClear_clears (s := dropArms s P.power) (c := mainCtl) (by decide) hst
      exact ⟨(Nat.le_of_eq (hk.ctl hc (by decide) (.inl rfl))).trans h1, (hk.ctl hc (by decide) (.inl rfl)).trans h2⟩
    · have hb : c < 8 := by unfold mainCtl at hm; omega
      rw [ctlPage_branch hb, if_neg hm] at hw
      have ha' : s.rd (P.branch c) F.BRANCH_BR_CTRL_APPLY = 0 := by
        unfold State.ctl at ha
        rwa [ctlPage_branch hb, if_neg hm] at ha
      obtain ⟨-, hretries, hstate⟩ := latchClear_clears (s := dropArms s (P.branch c)) hc hst
      refine ⟨_, congrArg Host.Outcome.next ((if_neg hm).trans ((congrArg (fun n => busStore s who (P.branch n) 0x0A0
        (keepWord s who (P.branch n) 0x0A0 [(F.BRANCH_BR_CTRL_CLEAR, 1)])) (Nat.mod_eq_of_lt hb)).trans ((hw.brTrigger hb hon).1 ha'))), ?_⟩
      exact ⟨brFollow_state hb _ (hstate hm), ((brFollow_pow _ hb _).ctl hc (by decide) (.inr (by decide))).trans hretries⟩
  case apply =>
    intro s c who hw hc hp hon
    by_cases hm : c = mainCtl
    · subst hm
      refine ⟨_, congrArg Host.Outcome.next ((if_pos rfl).trans (hw.mainCtrl (.inr (hw.open' _ (by simp))))), ?_⟩
      exact curveApply_applies (s := dropArms s P.power) hc hp
    · have hb : c < 8 := by unfold mainCtl at hm; omega
      rw [ctlPage_branch hb, if_neg hm] at hw
      obtain ⟨hset, hbad⟩ := curveApply_applies (s := dropArms s (P.branch c)) hc hp
      refine ⟨_, congrArg Host.Outcome.next ((if_neg hm).trans ((congrArg (fun n => busStore s who (P.branch n) 0x0A0
        (keepWord s who (P.branch n) 0x0A0 [(F.BRANCH_BR_CTRL_APPLY, 1)])) (Nat.mod_eq_of_lt hb)).trans ((hw.brTrigger hb hon).2 (hw.open' _ (by simp))))), ?_⟩
      exact ⟨(congrArg CtrlSt.prot ((brFollow_recs ..).ctl c)).trans hset, ((brFollow_pow _ hb _).ctl hc (by decide) (.inr (by decide))).trans hbad⟩
  case ramp =>
    intro s c i d hc hst
    refine ⟨_, congrArg Host.Outcome.next (if_pos (by simp [isCtl, hc])), ?_⟩
    obtain ⟨q, hq⟩ := ctl_breakerSample (s.coreAt d.t) c i d.dv d.t
    have hst' : ctlState (s.coreAt d.t) c = 2 := hst
    rw [hq]
    refine ((accTicks_rest ..).1).trans ?_
    rw [if_pos hst']
    rfl
  case above =>
    intro s c i d p k j n hc hst hp hi
    obtain ⟨hp, hpts, hk⟩ := hp
    refine ⟨_, congrArg Host.Outcome.next (if_pos (by simp [isCtl, hc])), ?_⟩
    obtain ⟨q, hq⟩ := ctl_breakerSample (s.coreAt d.t) c i d.dv d.t
    have hst' : ctlState (s.coreAt d.t) c = 3 ∨ ctlState (s.coreAt d.t) c = 4 := hst
    rw [hq, decide_eq_true hst', if_neg (by omega)]
    refine accTicks_above (lim := j) hk _ ?_ hi
    have : (ctl (s.coreAt d.t) c).prot = some p := hp
    simp [ptLimit, this, hpts]
  case on =>
    intro s b who hw ha hallow hoff hst hp
    have hb : b % 8 < 8 := Nat.mod_lt _ (by decide)
    refine ⟨_, congrArg Host.Outcome.next (hw.brCtrl hb (.inl (by rw [ha]; rfl)) (.inr (.inr hallow))), ?_⟩
    have hoff' : brOn (dropArms s (P.branch (b % 8))) (b % 8) = false := hoff
    obtain ⟨h1, h2⟩ := branchOn_state (dropArms s (P.branch (b % 8))) hb hst
    have hp' : (ctl (dropArms s (P.branch (b % 8))) (b % 8)).prot.isSome = true := hp
    rw [hp'] at h1
    have heff : effBranch (dropArms s (P.branch (b % 8))) (b % 8) 0x0A0 1 = branchOn (dropArms s (P.branch (b % 8))) (b % 8) := by
      unfold effBranch
      refine (if_pos rfl).trans ((if_neg (by decide)).trans (if_neg ?_))
      rw [if_neg (by decide), if_neg (by decide), hoff']
      exact Bool.false_ne_true
    rw [heff]
    exact ⟨h2, h1⟩
  case off =>
    intro s b who hw ha hon
    have hb : b % 8 < 8 := Nat.mod_lt _ (by decide)
    refine ⟨_, congrArg Host.Outcome.next (hw.brCtrl hb (.inl (by rw [ha]; rfl)) (.inr (.inl rfl))), ?_⟩
    exact ⟨brOn_branchOff _ hb, (branchOff_gate _ hb).1⟩
  case start =>
    intro s b x hb hst hq hp hr hl ht
    refine ⟨_, congrArg Host.Outcome.next (if_pos ?_), ctlState_setCtlState _ _ _ (by decide)⟩
    simp only [Bool.and_eq_true]
    refine ⟨⟨⟨⟨⟨⟨decide_eq_true hb, beq_iff_eq.mpr hst⟩, beq_iff_eq.mpr hq⟩, hp⟩, by rw [ht]; rfl⟩, hr⟩, ?_⟩
    cases hu : s.power.lastRamp with
    | none => rfl
    | some u => exact decide_eq_true (hl u hu)

end Sys2Proof.Machine
end

section
/-!
SUPPORT. The queues of the switch: what a frame that enters one leaves of the others, and a frame that the node originates while of its
ring lanes only E is UP.
-/

namespace Sys2Proof.Machine

/-! ## Entries -/

theorem queues_shapeTo (s : State) (p t : Nat) : (shapeTo s p t).sw.queues = s.sw.queues := by
  unfold shapeTo
  split
  · rfl
  · refine foldl_part (fun t => t.sw.queues) (fun u c => ?_) _ _
    dsimp only
    split <;> rfl

theorem swQueue_setSwQueue (s : State) (q r : Nat) (l : List SwEntry) : swQueue (setSwQueue s q l) r = if r = q then l else swQueue s r := by
  unfold swQueue setSwQueue
  dsimp only
  rw [queues_shapeTo]
  split
  next h => rw [h, Tbl.at_put_same]
  next h => rw [Tbl.at_put_ne _ _ h]

theorem queues_chargeCells (s : State) (q k n : Nat) : (chargeCells s q k n).sw.queues = s.sw.queues := by
  unfold chargeCells
  dsimp only
  rw [(poolMonitor_keeps ..).sw rfl]

/-- A frame that enters a queue stands at its end; the other queues are as before. -/
theorem swQueue_enqueue (s : State) (q id : Nat) (f : Frame) (k : Nat) (ready cut : Bool) (i n r : Nat) :
    swQueue (enqueue s q id f k ready cut i n) r =
      if r = q then swQueue s q ++ [{ id := id, frame := f, cells := k, ready := ready, ingress := i, cut := cut, ethLen := n }] else swQueue s r := by
  have hq : ∀ r, swQueue (chargeCells s q k (if (s.sw.store.at (0, 0) id).1 = 0 then k else 0)) r = swQueue s r := fun r =>
    congrArg (fun t : Tbl (List SwEntry) => t.at [] r) (queues_chargeCells ..)
  unfold enqueue
  dsimp only
  rw [swQueue_setSwQueue]
  split
  next => exact congrArg (· ++ _) (hq q)
  next => exact hq r

/-! ## Frames of the node's own while only E is UP -/

/-- Of the ring lanes only E is UP, nothing is offered, and a one-cell frame of class 6 finds room there. -/
structure EastRoom (s : State) : Prop where
  straight : s.reversed = false
  east : laneUp s 0 = true
  west : laneUp s 1 = false
  offers : s.sw.offers = []
  up : portDown s 0 = false
  room : admits s (outQueue 0 6) 1 = 1

theorem EastRoom.copies {s : State} (h : EastRoom s) {re : Nat} (hr : re ≠ 0) (rw : Nat) : copiesOf s false re rw = [(0, re)] := by
  have h0 : portLane s 0 = 0 := by simp [portLane, h.straight]
  have h1 : portLane s 1 = 1 := by simp [portLane, h.straight]
  simp [copiesOf, hr, h0, h1, h.east, h.west]

/-- A one-cell frame of class 6 that nothing holds back enters the queue of that class at E. -/
theorem EastRoom.originateOn {s : State} (h : EastRoom s) {port : Nat} {f : Frame} {re rw : Nat} (hc : f.cls = 6) (hk : ringCells f = 1) (hr : re ≠ 0)
    (hst : s.st ≠ NS.eclipse) (hmay : ∀ src tick, mayOriginate s { f with src := src, tick := tick } = true)
    (hhalo : haloChecked f = false ∨ (s.ownValid = true ∧ s.halo.withdrawn = false ∧ s.holdDone = true)) :
    (swQueue (Machine.originateOn s false port f re rw) (outQueue 0 6)).length = (swQueue s (outQueue 0 6)).length + 1 := by
  have htry : ∀ o : Offer, o = { port := port, frame := f, reachE := re, reachW := rw, ringK := false, stamp := none } →
      (tryOriginate s o).1 = true ∧ (swQueue (tryOriginate s o).2 (outQueue 0 6)).length = (swQueue s (outQueue 0 6)).length + 1 := fun o ho => by
    subst ho
    have hchk : ∀ src tick, haloChecked { f with src := src, tick := tick } = haloChecked f := fun _ _ => rfl
    have hcells : ∀ src tick, ringCells { f with src := src, tick := tick } = 1 := fun _ _ => hk
    unfold tryOriginate
    dsimp only
    rw [if_neg (by simp [hst]), if_neg (by
      rw [hmay, hchk]
      rcases hhalo with hh | ⟨hv, hw, -⟩
      · simp [hh]
      · simp [sideAddr, hv, hw]), if_neg (by
      rw [hchk]
      rcases hhalo with hh | ⟨-, -, hd⟩
      · simp [hh]
      · have : s.on P.halo F.HALO_JOIN_STAT_HOLD_DONE = true := hd
        simp [this]), if_pos (by rw [hc]; rfl), h.copies hr]
    have hup : [(0, re)].filter (fun c => !portDown s c.1) = [(0, re)] := by simp [h.up]
    have hdown : [(0, re)].filter (fun c => portDown s c.1) = [] := by simp [h.up]
    rw [hup, hdown, if_pos (by
      have : ringCells f = 1 := hk
      have hroom : admits s (outQueue 0 f.cls) 1 = 1 := by rw [hc]; exact h.room
      simp only [admitsAll, List.map_cons, List.map_nil, List.all_cons, List.all_nil, Bool.and_true, beq_iff_eq]
      rw [hcells]
      exact hroom)]
    refine ⟨rfl, ?_⟩
    have hput : ∀ g : Frame, g.cls = 6 → (swQueue (putOne (newId s).2 0 (newId s).1 g true false port) (outQueue 0 6)).length =
        (swQueue s (outQueue 0 6)).length + 1 := fun g hg => by
      unfold putOne
      rw [hg, swQueue_enqueue, if_pos rfl, List.length_append]
      rfl
    have hrest : ∀ (b : Bool) (n : Nat) (t : State), swQueue (if b then haloSeqNext t false n else t) = swQueue t := fun b n t => by cases b <;> rfl
    refine (congrArg (fun x => (x (outQueue 0 6)).length) (hrest _ _ _)).trans (hput _ ?_)
    exact hc
  unfold Machine.originateOn offerTry
  dsimp only
  obtain ⟨h1, h2⟩ := htry _ rfl
  rw [h.offers, List.any_nil, if_neg Bool.false_ne_true, if_pos h1, if_pos rfl]
  exact h2

end Sys2Proof.Machine
end

section
/-!
PROOF. The Ethernet ports and the UARTs (16_local_ports.md): O46.
-/

namespace Sys2Proof.Machine

/-! ## Items that arrive at a queue -/

theorem qAdmit_evStay (s : State) (q prio src tag info : Nat) (d : Bool) (head data : List Nat) (ses : Bool) :
    EvStay s (qAdmit s q prio src tag info d head data ses).2 := by
  have hrecycle : ∀ c : Bool, EvStay s (if c then recycleFor s q (itemCells head.length data.length) else (s, 0)).1 := fun c => by
    split
    · exact (recycleFor_moved ..).ev
    · exact .refl s
  unfold qAdmit
  dsimp only
  split
  · exact .refl s
  · generalize ha : (if (s.on (P.queue q) (F.QUEUE_Q_CFG_OVERWRITE (q % 16)) && decide (itemCells head.length data.length ≤ qMax s q)) = true then
        recycleFor s q (itemCells head.length data.length) else (s, 0)) = a
    have hq : EvStay s a.1 := ha ▸ hrecycle _
    have hinc : ∀ (t : State) f v, f.off ≠ 0x010 → EvStay t (t.inc (P.queue q) f v) := fun t f v hf => (EvStay.refl t).wr _ _ _ hf
    split
    · refine (hq.trans (hinc _ (F.QUEUE_Q_RECYCLED_N (q % 16)) a.2 (by simp [F.QUEUE_Q_RECYCLED_N]; omega))).trans ?_
      refine EvStay.trans ?_ (show EvStay _ (setQueueSt _ _ _) from (setQueueSt_moved ..).ev)
      exact .of_regs rfl
    · exact (noteRefusal_moved ..).ev.trans (.ite (hinc _ _ _ (by simp [F.QUEUE_Q_REFUSED_N]; omega)) (.refl _))

/-! ## Frames received by an ETH port (R426) -/

theorem et_of_keeps {m : Nat} {s t : State} (h : Keeps m s t) (hm : m.testBit 70 = false) (n : Nat) {f : Fld} (hf : 0x040 ≤ f.off) : t.et n f = s.et n f :=
  h.rd_body group_eth hf hm

/-- A frame of 802.1AS that the port takes goes to RX_QUEUE. -/
theorem ethReceive_as {s : State} {m : Nat} {b : List Nat} (x : Nat) (hlen : 14 ≤ b.length ∧ b.length + 4 ≤ ethMax s m)
    (has : tagged b = true ∧ etherType b = 0x88F7) : ∃ stamp, ethReceive s m b true x = ethDeliver (s.inc (P.eth m) F.ETH_RX_FRAMES_N) m stamp b := by
  obtain ⟨htag, htype⟩ := has
  have hpause : beAt b 12 2 = 0x8100 := beq_iff_eq.mp htag
  unfold ethReceive
  dsimp only
  rw [if_neg (by simp), if_neg (by omega), if_neg (by omega), if_neg (by simp [htag]), if_pos htag, if_pos htype]
  exact ⟨_, rfl⟩

/-! ## Tunnelled frames (R428) -/

/-- A pending sequence that ends well moves no frame. -/
theorem settleHeld_marks (s : State) (src g q : Nat) :
    (settleHeld s src g q true).sw = s.sw ∧ (settleHeld s src g q true).rd P.switch F.SWITCH_CNT_SF_N = s.rd P.switch F.SWITCH_CNT_SF_N := by
  have hdup : ∀ (t : State) i, (haloDup t i g).sw = t.sw ∧ (haloDup t i g).rd P.switch F.SWITCH_CNT_SF_N = t.rd P.switch F.SWITCH_CNT_SF_N := fun t i =>
    ⟨(haloDup_keeps t i g).sw rfl, (haloDup_keeps t i g).rd_body group_switch (by decide) rfl⟩
  have hset : ∀ (t : State) e, (setHaloEnt t src g e).sw = t.sw ∧ (setHaloEnt t src g e).rd P.switch F.SWITCH_CNT_SF_N = t.rd P.switch F.SWITCH_CNT_SF_N :=
    fun t e => ⟨(setHaloEnt_keeps t src g e).sw rfl, (setHaloEnt_keeps t src g e).rd_body group_switch (by decide) rfl⟩
  obtain ⟨hsw, hcnt⟩ : (haloSettle s src g q true).sw = s.sw ∧ (haloSettle s src g q true).rd P.switch F.SWITCH_CNT_SF_N = s.rd P.switch F.SWITCH_CNT_SF_N :=
    ⟨(haloSettle_keeps s src g q true).sw rfl, (haloSettle_keeps s src g q true).rd_body group_switch (by decide) rfl⟩
  unfold settleHeld
  dsimp only
  rw [if_pos rfl]
  constructor
  · refine (foldl_part (fun t => t.sw) (fun t (h : HeldFrame) => (hdup t h.lane).1) _ _).trans ?_
    exact (hset (haloSettle s src g q true) _).1.trans hsw
  · refine (foldl_part (fun t => t.rd P.switch F.SWITCH_CNT_SF_N) (fun t (h : HeldFrame) => (hdup t h.lane).2) _ _).trans ?_
    exact (hset (haloSettle s src g q true) _).2.trans hcnt

theorem tunSettle_taken (s : State) (i : Nat) {x : TunRx} (he : x.ended = true) :
    (tunSettle s i x 1).sw = s.sw ∧ (tunSettle s i x 1).rd P.switch F.SWITCH_CNT_SF_N = s.rd P.switch F.SWITCH_CNT_SF_N := by
  unfold tunSettle
  dsimp only
  rw [if_pos he]
  split
  · simp only [bne_self_eq_false, Bool.and_false, Bool.false_and, Bool.not_false]
    exact settleHeld_marks ..
  · exact ⟨rfl, rfl⟩

/-- The port that a TIN entry names, up and with room, takes the frame. -/
theorem tunnelOut_takes {s : State} {i id m k : Nat} {f : Frame} (hmc : f.mc = false) (hm : tinMatch s (List.range 4) f = some (m, k))
    (hb : ethBroadcast f.pay = false ∧ bitOf f.w3 15 = false ∧ s.et m (F.ETH_TIN_UNTAG k) = 0) (hd : portDown s (4 + m) = false)
    (ha : admits s (outQueue (4 + m) f.cls) (ringCells f) = 1) :
    (tunnelOut s i id false f).1 = 1 ∧
      (swQueue (tunnelOut s i id false f).2 (outQueue (4 + m) f.cls)).length = (swQueue s (outQueue (4 + m) f.cls)).length + 1 ∧
      (tunnelOut s i id false f).2.rd P.switch F.SWITCH_CNT_SF_N = satAdd F.SWITCH_CNT_SF_N.width (s.rd P.switch F.SWITCH_CNT_SF_N) 1 := by
  obtain ⟨hbr, hflood, htag⟩ := hb
  have hm4 : m < 4 := by
    obtain ⟨n, hn, he⟩ := List.exists_of_findSome?_eq_some hm
    simp only [Option.map_eq_some_iff, Prod.mk.injEq] at he
    obtain ⟨_, -, rfl, -⟩ := he
    exact List.mem_range.mp hn
  unfold tunnelOut
  dsimp only
  rw [if_neg (by simp [hmc]), hm]
  dsimp only
  rw [if_neg (c := s.et m (F.ETH_TIN_UNTAG k) = 1) (by omega)]
  have hcalm : (if (bitOf f.w3 15 || ethBroadcast f.pay) = true then squall s m false else (true, s)) = (true, s) := if_neg (by simp [hflood, hbr])
  rw [hcalm]
  dsimp only
  rw [if_neg (by simp), if_neg (by simp [hd])]
  have hadm : ∀ (n : Nat) r c g, admitEth s m id f (ringCells f) n r c g = (1, enqueue s (outQueue (4 + m) f.cls) id f (ringCells f) r c g n) :=
    fun n r c g => if_pos ha
  change (if _ then (2, _) else (1, _) : Nat × State).1 = 1 ∧ _
  rw [hadm, if_neg (by simp)]
  refine ⟨rfl, ?_, ?_⟩
  · simp only [Bool.false_and, countPath]
    rw [if_neg Bool.false_ne_true, if_pos (by omega)]
    refine (congrArg List.length ((swQueue_enqueue ..).trans (if_pos rfl))).trans ?_
    rw [List.length_append]
    rfl
  · simp only [Bool.false_and, countPath]
    rw [if_neg Bool.false_ne_true, if_pos (by omega)]
    refine (rd_inc_same ..).trans ?_
    rw [(enqueue_keeps ..).rd_body group_switch (by decide) rfl]
    rfl

/-! ## The link (R425) -/

theorem txRecord_evStay (s : State) (m n stamp res : Nat) : EvStay s (txRecord s m n stamp res) := qAdmit_evStay ..

theorem txComplete_evStay (s : State) (m id : Nat) (t0 : Option Nat) : EvStay s (txComplete s m id t0) := by
  unfold txComplete
  split
  · exact .refl s
  · cases t0 <;> dsimp only
    · refine EvStay.trans ?_ (txRecord_evStay ..)
      exact .of_regs rfl
    · refine EvStay.trans ?_ (txRecord_evStay ..)
      exact .of_regs rfl

/-- The flush of an ETH port leaves the port's own registers and every event. -/
theorem flushFull_eth (s : State) {p : Nat} (hp : 4 ≤ p) :
    EvStay s (flushFull s p) ∧ ∀ m (f : Fld), 0x040 ≤ f.off → (flushFull s p).et m f = s.et m f := by
  unfold flushFull
  dsimp only
  have hcut : (if p < 4 then rxCut s (portLane s p) else s) = s := if_neg (by omega)
  rw [hcut]
  have hflush : ∀ m (f : Fld), 0x040 ≤ f.off → (flushPort s p).et m f = s.et m f := fun m f hf => et_of_keeps (flushPort_keeps ..) rfl m hf
  split
  · exact ⟨(flushPort_moved s p).ev.trans (.foldl (fun t id => txComplete_evStay ..) _ (.refl _)),
      fun m f hf => (foldl_part (fun t => t.et m f) (fun t id => et_of_keeps (txComplete_keeps ..) rfl m hf) _ _).trans (hflush m f hf)⟩
  · exact ⟨(flushPort_moved s p).ev, hflush⟩

/-- The link shows what it comes to; only registers beside LINK_STAT and more events change after. -/
theorem ethLink_shows (s : State) (m v : Nat) (b : Bool) :
    (ethLink s m b v).et m F.ETH_LINK_STAT_UP = b2n b ∧ (ethLink s m b v).et m F.ETH_LINK_STAT_SPEED = v % 2 ^ F.ETH_LINK_STAT_SPEED.width ∧
      (ethLink s m b v).bit (P.eth m) F.HDR_EV_STAT_EV 0 = true := by
  unfold ethLink
  dsimp only
  generalize shapeTo s (4 + m) s.now = a
  generalize hr : raise ((a.wr (P.eth m) F.ETH_LINK_STAT_UP (b2n b)).wr (P.eth m) F.ETH_LINK_STAT_SPEED v) (P.eth m) 0 = r
  have hreg : ∀ f : Fld, f.off = 0x04C → r.et m f = ((a.wr (P.eth m) F.ETH_LINK_STAT_UP (b2n b)).wr (P.eth m) F.ETH_LINK_STAT_SPEED v).rd (P.eth m) f := fun f hf => by
    rw [← hr]
    refine (raise_raised ..).regs.rd _ _ ?_
    simp [evKey, P.eth, hf]
  have hup : r.et m F.ETH_LINK_STAT_UP = b2n b := by
    rw [hreg _ rfl, rd_wr_beside _ _ _ rfl, rd_wr_same]
    cases b <;> rfl
  have hspeed : r.et m F.ETH_LINK_STAT_SPEED = v % 2 ^ F.ETH_LINK_STAT_SPEED.width := (hreg _ rfl).trans (rd_wr_same ..)
  have hev : r.bit (P.eth m) F.HDR_EV_STAT_EV 0 = true := hr ▸ bit_raise _ _ _ (by decide)
  split
  · exact ⟨hup, hspeed, hev⟩
  · obtain ⟨hstay, het⟩ := flushFull_eth r (p := 4 + m) (by omega)
    exact ⟨(het m _ (by decide)).trans hup, (het m _ (by decide)).trans hspeed, hstay.keep _ _ (by decide) hev⟩

/-! ## Registers that firmware writes -/

theorem eth_registers : ∀ m < 4, triggerReg (P.eth m) 0x07C = true ∧ (regFields (P.eth m) 0x07C).all (noCondition (P.eth m)) = true ∧
    plainReg (P.eth m) 0x06C = true ∧ pageType (P.eth m) = some .eth := by decide +kernel

theorem MayWrite.asOffHi {s : State} {who : By} {m : Nat} (hm : m < 4) (h : MayWrite s who (P.eth m) 0x06C) (v : Nat) :
    ∃ u, busStore s who (P.eth m) 0x06C v = Machine.asOffHi u m v := by
  obtain ⟨-, -, hp, ht⟩ := eth_registers m hm
  rw [h.plain v hp (by decide), writeEffect, if_neg (by decide), ht]
  show ∃ u, effEth _ (P.eth m - 0x0E0) _ _ _ = _
  rw [show P.eth m - 0x0E0 = m by unfold P.eth; omega]
  exact ⟨_, if_pos rfl⟩

theorem asOffHi_shows (s : State) (m v : Nat) :
    (asOffHi s m v).et m F.ETH_AS_OFF_HI_OFF = v % 2 ^ 32 ∧ (asOffHi s m v).et m F.ETH_AS_STAT_VALID = 1 :=
  ⟨(rd_wr_beside _ _ _ rfl).trans (rd_wr_same ..), rd_wr_same ..⟩

theorem MayWrite.ethSend {s : State} {who : By} {m : Nat} (hm : m < 4) (h : MayWrite s who (P.eth m) 0x07C) (b : Bool) {n : Nat} (hn : n < 4096) :
    busStore s who (P.eth m) 0x07C (mkWord [(F.ETH_TX_CTRL_TS_REQ, b2n b), (F.ETH_TX_CTRL_LEN, n)]) =
      Machine.ethSend (dropArms s (P.eth m)) m (iniIdx who.ini) b n := by
  obtain ⟨ht, hc, -, htype⟩ := eth_registers m hm
  have hword : mkWord [(F.ETH_TX_CTRL_TS_REQ, b2n b), (F.ETH_TX_CTRL_LEN, n)] = b2n b * 2 ^ 31 + n := by
    simp only [mkWord, List.foldl_cons, List.foldl_nil, F.ETH_TX_CTRL_TS_REQ, F.ETH_TX_CTRL_LEN]
    cases b <;> simp [b2n] <;> omega
  refine h.block _ ht hc (by decide) (.inl (by simp [P.eth, P.sestx])) ?_
  rw [writeEffect, if_neg (by decide), htype]
  show effEth _ (P.eth m - 0x0E0) _ _ _ = _
  rw [show P.eth m - 0x0E0 = m by unfold P.eth; omega, hword]
  have hbit : bitOf (b2n b * 2 ^ 31 + n) 31 = b := by
    unfold bitOf
    cases b <;> simp [b2n] <;> omega
  have hlow : (b2n b * 2 ^ 31 + n) % 4096 = n := by cases b <;> simp [b2n] <;> omega
  rw [effEth, if_neg (by decide), if_pos rfl, hbit, hlow]

/-- A good frame that its queue admits is queued. -/
theorem ethSend_queues {s : State} {m ini n o c : Nat} (hw : s.working = true) (hon : ethOn s = true) (hn : 14 ≤ n ∧ n + 4 ≤ ethMax s m)
    (ho : s.rdi (P.eth m) F.ETH_TX_ADDR_OFFSET ini = o ∧ o + n ≤ 0x200000) (hd : portDown s (4 + m) = false)
    (hc : pcpClass s m (if tagged (s.memRead (0x10200000 + o) n) then pcpOf (s.memRead (0x10200000 + o) n) else s.et m F.ETH_VLAN_CFG_DEF_PCP) = c)
    (ha : admits s (outQueue (4 + m) c) (ceilDiv (n + 4) 256) = 1) (b : Bool) : (ethSend s m ini b n).et m F.ETH_TX_STAT_STATUS = 1 := by
  obtain ⟨rfl, hroom⟩ := ho
  subst hc
  unfold ethSend
  dsimp only
  rw [if_neg (by simp [hw]), if_neg (by omega), if_neg (by omega), if_neg (by simp [hon, hd])]
  have hadm : ∀ (f : Frame), admits s (outQueue (4 + m) f.cls) (ceilDiv (n + 4) 256) = 1 →
      admitEth (newId s).2 m (newId s).1 f (ceilDiv (n + 4) 256) (n + 4) true false (4 + m) =
        (1, enqueue (newId s).2 (outQueue (4 + m) f.cls) (newId s).1 f (ceilDiv (n + 4) 256) true false (4 + m) (n + 4)) := fun f hf => if_pos hf
  rw [hadm _ ha, if_neg (by simp)]
  have hstat : ∀ (u : State) id, (txStat u m 1 id).et m F.ETH_TX_STAT_STATUS = 1 := fun u id => (rd_wr_beside _ _ _ rfl).trans (rd_wr_same ..)
  unfold State.when
  split
  · exact hstat ..
  · exact hstat ..

/-! ## The UARTs (R434 to R437) -/

/-- What the queues and events change, and of the UARTs the status and the counts of packets that are lost. -/
def uartKey (k : Key) : Bool :=
  queueKey k || (decide (0x0B8 ≤ k.page ∧ k.page < 0x0BC) && (k.off % 128 == 0x20 || k.off % 128 == 0x48 || k.off % 128 == 0x4C))

/-- What a UART does beside its reception: the packet in reception and those sent stay. -/
structure UartStep (s t : State) : Prop where
  regs : RegsKeep uartKey s t
  rx : ∀ u, (uart t u).rx = (uart s u).rx
  sent : ∀ u, (uart t u).sent = (uart s u).sent

theorem UartStep.refl (s : State) : UartStep s s := ⟨.refl _ s, fun _ => rfl, fun _ => rfl⟩

theorem UartStep.trans {s t u : State} (h : UartStep s t) (k : UartStep t u) : UartStep s u :=
  ⟨h.regs.trans k.regs, fun v => (k.rx v).trans (h.rx v), fun v => (k.sent v).trans (h.sent v)⟩

theorem UartStep.ite {s t u : State} {c : Prop} [Decidable c] (h : UartStep s t) (k : UartStep s u) : UartStep s (if c then t else u) := by
  split
  · exact h
  · exact k

theorem Quiet.uartStep {s t : State} (h : Quiet s t) (hr : RegsKeep queueKey s t) : UartStep s t where
  regs := hr.mono fun _ hk => (Bool.or_eq_false_iff.mp hk).1
  rx u := by
    have := (h.uart u).1
    unfold Machine.uart
    rw [this]
  sent u := by
    have := (h.uart u).1
    unfold Machine.uart
    rw [this]

theorem Offered.uartStep {s t : State} (h : Offered s t) : UartStep s t := h.quiet.uartStep h.moved.queue

theorem uart_setUart_same (s : State) (u : Nat) (x : UartSt) : uart (setUart s u x) u = x := Tbl.at_put_same ..

theorem uart_setUart_ne (s : State) {u v : Nat} (h : v ≠ u) (x : UartSt) : uart (setUart s u x) v = uart s v := Tbl.at_put_ne _ _ h _

/-- A status register or a count of losses of a UART is written. -/
theorem UartStep.wr {s t : State} (h : UartStep s t) (u : Nat) (f : Fld) (v : Nat)
    (hf : (f.off % 128 == 0x20 || f.off % 128 == 0x48 || f.off % 128 == 0x4C) = true) : UartStep s (t.wr (P.uart u) f v) := by
  refine h.trans ⟨(RegsKeep.refl _ t).wr _ ?_, fun _ => rfl, fun _ => rfl⟩
  have : 0x0B8 ≤ P.uart u ∧ P.uart u < 0x0BC := by unfold P.uart; omega
  simp only [uartKey, this, and_self, decide_true, Bool.true_and, hf, Bool.or_true]

theorem setUart_regs (s : State) (u : Nat) (x : UartSt) : RegsKeep uartKey s (setUart s u x) := by
  have hput : UartStep { s with uarts := s.uarts.put {} u x } (setUart s u x) :=
    (((UartStep.refl _).wr u _ _ (by simp [F.UART_U_STAT_RX_ACTIVE])).wr u _ _ (by simp [F.UART_U_STAT_TX_BUSY])).wr u _ _
      (by simp [F.UART_U_STAT_DE])
  exact ⟨hput.regs.keep⟩

/-- A record with the same packets takes the old one's place. -/
theorem setUart_step {s : State} {u : Nat} {x : UartSt} (hrx : x.rx = (uart s u).rx) (hsent : x.sent = (uart s u).sent) : UartStep s (setUart s u x) where
  regs := setUart_regs ..
  rx v := by
    by_cases h : v = u
    · rw [h, uart_setUart_same, hrx]
    · rw [uart_setUart_ne _ h]
  sent v := by
    by_cases h : v = u
    · rw [h, uart_setUart_same, hsent]
    · rw [uart_setUart_ne _ h]

theorem uartEv_step (s : State) (u : Nat) : UartStep s (uartEv s u) :=
  (raise_quiet ..).uartStep ((raise_raised ..).regs.mono fun k hk => by
    simp only [queueKey, swKey, Bool.or_eq_false_iff] at hk
    exact hk.1.1.1.1.1)

theorem uartStart_step (s : State) (u : Nat) : UartStep s (uartStart s u) := by
  unfold uartStart
  dsimp only
  split
  · exact .refl s
  · cases (uart s u).wait with
    | some w => exact setUart_step rfl rfl
    | none =>
      cases uartTunHead s u with
      | none => exact .refl s
      | some i => exact ((setQueueSt_quiet ..).uartStep (setQueueSt_moved ..).queue).trans (setUart_step rfl rfl)

theorem uartTunnel_step (s : State) (u word stamp : Nat) (data : List Nat) : UartStep s (uartTunnel s u word stamp data) := by
  have hdrop : UartStep s (s.uaInc u F.UART_TUN_DROP_N) := (UartStep.refl s).wr u _ _ (by simp [F.UART_TUN_DROP_N])
  unfold uartTunnel
  dsimp only
  refine .ite (.refl s) (.ite hdrop ?_)
  split
  · exact (metered_offered ..).uartStep
  · exact (metered_offered ..).uartStep.trans (originate_offered ..).uartStep

/-- Beside its status and its counts of losses a UART's registers stay. -/
theorem UartStep.ua {s t : State} (h : UartStep s t) (u : Nat) (f : Nat → Fld)
    (hf : (f (u % 4)).off ≠ 0x010 ∧ (f (u % 4)).off % 128 ≠ 0x20 ∧ (f (u % 4)).off % 128 ≠ 0x48 ∧ (f (u % 4)).off % 128 ≠ 0x4C) : t.ua u f = s.ua u f := by
  refine h.regs.rd _ _ ?_
  have : 0x0B8 ≤ P.uart u ∧ P.uart u < 0x0BC := by unfold P.uart; omega
  simp [uartKey, queueKey, swKey, evKey, hf]
  omega

/-- Where no character ends a packet and it is short of MAX_LEN, a character joins it. -/
theorem uartChar_joins {s : State} {u : Nat} (hd : s.ua u F.UART_U_PKT_DELIM = 0)
    (hlen : (uart s u).rx.length + 1 < clampNat 1 2048 (s.ua u F.UART_U_PKT2_MAX_LEN)) (d : Nat) (nine par frm : Bool) (t : Nat) :
    uart (uartChar s u d nine par frm t) u = { uart s u with
      rx := (uart s u).rx ++ [(d, nine)], start := if (uart s u).rx.isEmpty then t else (uart s u).start,
      par := (uart s u).par || par, frm := (uart s u).frm || frm } := by
  have hsame : (if s.ua u F.UART_U_PKT_DELIM = 3 ∧ nine = true then uartPacket s u false false else s) = s := if_neg (by omega)
  unfold uartChar
  dsimp only
  rw [hsame, if_neg (by omega)]
  generalize hv : setUart s u _ = v
  have hmax : v.ua u F.UART_U_PKT2_MAX_LEN = s.ua u F.UART_U_PKT2_MAX_LEN := by
    refine (hv ▸ setUart_regs s u _ : RegsKeep uartKey s v).rd _ _ ?_
    have : 0x0B8 ≤ P.uart u ∧ P.uart u < 0x0BC := by unfold P.uart; omega
    simp [uartKey, queueKey, swKey, evKey, F.UART_U_PKT2_MAX_LEN]
    omega
  rw [hmax, if_neg (by omega), ← hv, uart_setUart_same]

/-- A packet that no address filter judges is delivered: none is in reception, and it is counted. -/
theorem uartPacket_delivers {s : State} {u : Nat} (hrx : (uart s u).rx ≠ []) (hd : s.ua u F.UART_U_PKT_DELIM ≠ 3) (cut brk : Bool) :
    (uart (uartPacket s u cut brk) u).rx = [] ∧
      (uartPacket s u cut brk).ua u F.UART_CNT_RX_N = satAdd (F.UART_CNT_RX_N (u % 4)).width (s.ua u F.UART_CNT_RX_N) 1 := by
  unfold uartPacket
  dsimp only
  rw [if_neg (by simpa using hrx)]
  generalize hv : setUart s u { uart s u with rx := [], par := false, frm := false } = v
  have hreg : ∀ f : Nat → Fld, ((f (u % 4)).off ≠ 0x010 ∧ (f (u % 4)).off % 128 ≠ 0x20 ∧ (f (u % 4)).off % 128 ≠ 0x48 ∧ (f (u % 4)).off % 128 ≠ 0x4C) →
      v.ua u f = s.ua u f := fun f hf => by
    refine (hv ▸ setUart_regs s u _ : RegsKeep uartKey s v).rd _ _ ?_
    have : 0x0B8 ≤ P.uart u ∧ P.uart u < 0x0BC := by unfold P.uart; omega
    simp [uartKey, queueKey, swKey, evKey, hf]
    omega
  have hnone : (uart v u).rx = [] := by rw [← hv, uart_setUart_same]
  rw [if_neg (fun h => hd ((hreg _ (by simp [F.UART_U_PKT_DELIM]; omega)).symm.trans h.1))]
  have hcount : (v.uaInc u F.UART_CNT_RX_N).ua u F.UART_CNT_RX_N = satAdd (F.UART_CNT_RX_N (u % 4)).width (s.ua u F.UART_CNT_RX_N) 1 :=
    (rd_inc_same ..).trans (congrArg (satAdd _ · 1) (hreg F.UART_CNT_RX_N (by simp [F.UART_CNT_RX_N]; omega)))
  have hnone' : (uart (v.uaInc u F.UART_CNT_RX_N) u).rx = [] := hnone
  generalize v.uaInc u F.UART_CNT_RX_N = w at hcount hnone' ⊢
  have hadm := fun (t : State) q a b c d e h l => qAdmit_queue t q a b c d e h l false
  have hstep : ∀ (q : Nat) (n : Nat) h l z (stamp : Nat), UartStep w (uartTunnel (if (qAdmit (uartEv w u) q 0 0 u n false h l).1 then
      (qAdmit (uartEv w u) q 0 0 u n false h l).2 else (qAdmit (uartEv w u) q 0 0 u n false h l).2.uaInc u F.UART_RX_DROP_N) u z stamp l) := fun q n h l z stamp => by
    have hq : UartStep w (qAdmit (uartEv w u) q 0 0 u n false h l).2 := (uartEv_step w u).trans ((qAdmit_queue ..).2.uartStep (qAdmit_queue ..).1)
    exact (UartStep.ite hq (hq.wr u _ _ (by simp [F.UART_RX_DROP_N]))).trans (uartTunnel_step ..)
  exact ⟨((hstep ..).rx u).trans hnone', ((hstep ..).ua u _ (by simp [F.UART_CNT_RX_N]; omega)).trans hcount⟩

theorem uTx_registers : ∀ u < 16, triggerReg (P.uart u) (0x118 + 0x80 * (u % 4)) = true ∧
    (regFields (P.uart u) (0x118 + 0x80 * (u % 4))).all (noCondition (P.uart u)) = true ∧ pageType (P.uart u) = some .uart := by decide +kernel

theorem MayWrite.uartSend {s : State} {who : By} {u : Nat} (hu : u < 16) (h : MayWrite s who (P.uart u) (0x118 + 0x80 * (u % 4))) (b : Bool) {n : Nat}
    (hn : n < 4096) : busStore s who (P.uart u) (0x118 + 0x80 * (u % 4)) (mkWord [(F.UART_U_TX_ADDR9 (u % 4), b2n b), (F.UART_U_TX_LEN (u % 4), n)]) =
      Machine.uartSend (dropArms s (P.uart u)) u b n := by
  obtain ⟨ht, hc, htype⟩ := uTx_registers u hu
  have hword : mkWord [(F.UART_U_TX_ADDR9 (u % 4), b2n b), (F.UART_U_TX_LEN (u % 4), n)] = b2n b * 2 ^ 31 + n := by
    simp only [mkWord, List.foldl_cons, List.foldl_nil, F.UART_U_TX_ADDR9, F.UART_U_TX_LEN]
    cases b <;> simp [b2n] <;> omega
  refine h.block _ ht hc (by omega) (.inl (by simp [P.uart, P.sestx]; omega)) ?_
  rw [writeEffect, if_neg (by omega), htype]
  dsimp only
  rw [if_pos (by omega), hword]
  have hbit : bitOf (b2n b * 2 ^ 31 + n) 31 = b := by
    unfold bitOf
    cases b <;> simp [b2n] <;> omega
  have hlow : (b2n b * 2 ^ 31 + n) % 4096 = n := by cases b <;> simp [b2n] <;> omega
  have hunit : 4 * (P.uart u - 0x0B8) + (0x118 + 0x80 * (u % 4) - 0x100) / 0x80 = u := by unfold P.uart; omega
  rw [hbit, hlow, hunit]

/-- Whether a UART runs depends on registers beside its status. -/
theorem uartOn_congr {s t : State} {u : Nat} (hn : t.node = s.node)
    (hr : ∀ p (f : Fld), (p ≠ P.uart u ∨ f.off ≠ (F.UART_U_STAT_TX_RES (u % 4)).off) → t.rd p f = s.rd p f) : uartOn t u = uartOn s u := by
  have hst : t.st = s.st := hr _ _ (.inl (by simp [P.node, P.uart]; omega))
  have hservice : t.service = s.service := congrArg (· != 0) (hr P.node F.NODE_NODE_STATE_POWER (.inl (by simp [P.node, P.uart]; omega)))
  have hon : t.rd P.mgmt F.MGMT_PWR_STAT_ON = s.rd P.mgmt F.MGMT_PWR_STAT_ON := hr _ _ (.inl (by simp [P.mgmt, P.uart]; omega))
  have hmode : t.ua u F.UART_U_CFG_MODE = s.ua u F.UART_U_CFG_MODE := hr _ _ (.inr (by simp [F.UART_U_CFG_MODE, F.UART_U_STAT_TX_RES]))
  simp only [uartOn, canAllowed, State.alive, State.working, State.isIn, domOn, State.bit, hn, hst, hservice, hon, hmode]

/-- A packet of 1 to 2,048 bytes of DATA RAM starts at once where none is under way. -/
theorem uartSend_starts {s : State} {u n : Nat} (hon : uartOn s u = true) (hmode : s.ua u F.UART_U_CFG_MODE = 1) (hn : 1 ≤ n ∧ n ≤ 2048)
    (hfree : (uart s u).tx = none ∧ (uart s u).wait = none) (hroom : s.ua u F.UART_U_TXADDR_OFFSET + n ≤ 0x200000) (b : Bool) :
    (uartSend s u b n).ua u F.UART_U_STAT_TX_RES = 1 ∧
      (uart (uartSend s u b n) u).tx = some (s.memRead (0x10200000 + s.ua u F.UART_U_TXADDR_OFFSET) n, b, true) := by
  obtain ⟨htx, hwait⟩ := hfree
  unfold uartSend
  dsimp only
  rw [if_neg (by simp [hon]), if_neg (by simp [htx, hwait]), if_neg (by omega), if_neg (by omega)]
  generalize hw : s.memRead (0x10200000 + s.ua u F.UART_U_TXADDR_OFFSET) n = l
  generalize hr : s.uaWr u F.UART_U_STAT_TX_RES 1 = r
  have hres : ∀ (t : State) x, t.ua u F.UART_U_STAT_TX_RES = 1 → (setUart t u x).ua u F.UART_U_STAT_TX_RES = 1 := fun t x h =>
    (rd_wr_beside _ _ _ (by simp [F.UART_U_STAT_TX_RES, F.UART_U_STAT_DE])).trans
      ((rd_wr_beside _ _ _ (by simp [F.UART_U_STAT_TX_RES, F.UART_U_STAT_TX_BUSY])).trans
        ((rd_wr_beside _ _ _ (by simp [F.UART_U_STAT_TX_RES, F.UART_U_STAT_RX_ACTIVE])).trans h))
  have hr1 : r.ua u F.UART_U_STAT_TX_RES = 1 := by
    rw [← hr]
    exact rd_wr_same ..
  generalize hv : setUart r u { uart s u with wait := some (l, b) } = v
  have hv1 : v.ua u F.UART_U_STAT_TX_RES = 1 := hv ▸ hres _ _ hr1
  have hvu : uart v u = { uart s u with wait := some (l, b) } := hv ▸ uart_setUart_same ..
  have hkeep : ∀ p (f : Fld), (p ≠ P.uart u ∨ f.off ≠ (F.UART_U_STAT_TX_RES (u % 4)).off) → v.rd p f = s.rd p f := fun p f hf => by
    have hapart : ∀ g : Fld, g.off = (F.UART_U_STAT_TX_RES (u % 4)).off → keyApart p f (P.uart u) g = true := fun g hg => by
      rcases hf with hf | hf <;> simp [keyApart, hg, hf]
    rw [← hv, ← hr]
    exact (rd_wr_apart _ _ (hapart (F.UART_U_STAT_DE (u % 4)) rfl)).trans ((rd_wr_apart _ _ (hapart (F.UART_U_STAT_TX_BUSY (u % 4)) rfl)).trans
      ((rd_wr_apart _ _ (hapart (F.UART_U_STAT_RX_ACTIVE (u % 4)) rfl)).trans (rd_wr_apart _ _ (hapart (F.UART_U_STAT_TX_RES (u % 4)) rfl))))
  have hon' : uartOn v u = true := by rw [uartOn_congr (s := s) (by rw [← hv, ← hr]; rfl) hkeep, hon]
  have hmode' : v.ua u F.UART_U_CFG_MODE = 1 := (hkeep _ _ (.inr (by simp [F.UART_U_CFG_MODE, F.UART_U_STAT_TX_RES]))).trans hmode
  unfold uartStart
  dsimp only
  rw [hvu, if_neg (by simp [hon', htx, hmode'])]
  exact ⟨hres _ _ hv1, congrArg UartSt.tx (uart_setUart_same ..)⟩

/-- Settles O46. -/
theorem ethernetAndUarts : Obligations.EthernetAndUarts := by
  refine ⟨fun s m b x q hm hon hup hlen has hq hok how hadm => ?received, fun s i f d m k ha hi hloc htyp hdst htun hmatch hb hd hadm => ?tunnel,
    fun s m who b n o c hw hwork hon hn ho hd hc hadm => ?send, fun s m b v w hm hon hspeed => ?link, fun s m who v hw => ?offset,
    fun s m x hm hon hval htime => ?timeout, fun s u c x hu hon hmode hdelim hlen => ?char, fun s u hu hon hrx hdelim => ?gap,
    fun s u who b n hw hon hmode hn hfree hroom => ?sent, fun s u l a b ha hu htx => ?ended⟩
  case received =>
    refine ⟨_, congrArg Host.Outcome.next (if_pos (by simp [hm, hon, hup])), ?_⟩
    obtain ⟨stamp, he⟩ := ethReceive_as (s := s.atTime x) (m := m) x hlen has
    rw [he]
    generalize hv : (s.atTime x).inc (P.eth m) F.ETH_RX_FRAMES_N = v
    have hkeep : ∀ p (f : Fld), (p ≠ P.eth m ∨ f.off ≠ 0x0C0) → v.rd p f = s.rd p f := fun p f hf => by
      rw [← hv]
      refine rd_inc_apart _ _ ?_
      rcases hf with hf | hf <;> simp [keyApart, F.ETH_RX_FRAMES_N, hf]
    have hqueue : ∀ r (f : Fld), v.rd (P.queue r) f = s.rd (P.queue r) f := fun r f => hkeep _ _ (.inl (by simp [P.queue, P.eth]; omega))
    have hq' : v.et m F.ETH_QUEUES_RX_QUEUE = q := (hkeep _ _ (.inr (by decide))).trans hq
    have hadm' : admits v q (itemCells (leBytes 8 stamp).length b.length) = 1 := by
      rw [show (leBytes 8 stamp).length = 8 by simp [leBytes],
        admits_congr (s := s) (by rw [← hv]; rfl) (fun _ => hqueue ..) (fun _ => hqueue ..) (hkeep _ _ (.inl (by simp [P.pool, P.eth]; omega))), hadm]
    have htype : qType v q = qType s q := hqueue _ _
    obtain ⟨hfound, hitem⟩ := qAdmit_takes (s := v) (q := q) (by rw [htype]; exact hok) ((congrArg (· != 0) (hqueue ..)).trans how) hadm' 0 0 m
      (v.tick % 2 ^ 32) false false
    unfold ethDeliver
    rw [hq']
    refine ⟨?_, ?_⟩
    · rw [List.any_eq_true] at hitem ⊢
      obtain ⟨e, he, hb⟩ := hitem
      refine ⟨e, he, ?_⟩
      simp only [Bool.and_eq_true] at hb ⊢
      exact ⟨hb.1.1, hb.2⟩
    · refine (et_of_keeps (qAdmit_keeps ..) rfl m (by decide)).trans ?_
      rw [← hv]
      exact rd_inc_same ..
  case tunnel =>
    obtain ⟨hmc, hown⟩ := hdst
    obtain ⟨ht, hf, hend⟩ := htun
    subst hf
    refine ⟨_, congrArg Host.Outcome.next (if_pos (by simp [ha, hi, tunnelled, htyp, hloc, hown])), ?_⟩
    rw [ht]
    dsimp only
    obtain ⟨hr, hlen, hcnt⟩ := tunnelOut_takes (i := i) (id := d.id) hmc hmatch hb hd hadm
    rw [show (!d.ended) = false by rw [hend]; rfl, hr]
    obtain ⟨hsw, hcount⟩ := tunSettle_taken (tunnelOut s i d.id false d.frame).2 i hend
    refine ⟨?_, hcount.trans hcnt⟩
    rw [← hlen]
    unfold swQueue
    rw [hsw]
  case send =>
    have hm : m % 4 < 4 := Nat.mod_lt _ (by decide)
    have hmax : ethMax s (m % 4) ≤ 2052 := by unfold ethMax clampNat; omega
    refine ⟨_, congrArg Host.Outcome.next (hw.ethSend hm b (by omega)), ?_⟩
    exact ethSend_queues (s := dropArms s (P.eth (m % 4))) hwork hon hn ho hd hc hadm b
  case link =>
    refine ⟨_, congrArg Host.Outcome.next (if_pos (by simp [hm, hon])), ?_⟩
    cases b with
    | true =>
      rw [if_pos rfl] at hspeed ⊢
      rw [hspeed]
      exact ethLink_shows s m w true
    | false =>
      rw [if_neg Bool.false_ne_true] at hspeed ⊢
      obtain rfl := Option.some.inj hspeed
      exact ethLink_shows s m _ false
  case offset =>
    obtain ⟨u, he⟩ := hw.asOffHi (Nat.mod_lt _ (by decide)) (v % 2 ^ 32)
    refine ⟨_, congrArg Host.Outcome.next he, ?_⟩
    obtain ⟨hoff, hval⟩ := asOffHi_shows u (m % 4) (v % 2 ^ 32)
    exact ⟨hoff.trans (Nat.mod_mod ..), hval⟩
  case timeout =>
    refine ⟨_, congrArg Host.Outcome.next (if_pos (by simp [hm, hon, hval, htime])), ?_, bit_raise _ _ _ (by decide)⟩
    refine ((raise_raised ..).regs.rd _ _ ?_).trans (rd_wr_same ..)
    have hpage : P.eth m = 0x0E0 + m := by unfold P.eth; omega
    simp [evKey, hpage, F.ETH_AS_STAT_VALID]
    omega
  case char =>
    refine ⟨_, congrArg Host.Outcome.next (if_pos (by simp [hu, hon, hmode])), ?_⟩
    dsimp only
    rw [if_neg Bool.false_ne_true, if_neg Bool.false_ne_true, if_neg Bool.false_ne_true]
    generalize hv : setUart (s.atTime x) u { uart (s.atTime x) u with idle := false } = v
    have hreg : ∀ f : Nat → Fld, ((f (u % 4)).off ≠ 0x010 ∧ (f (u % 4)).off % 128 ≠ 0x20 ∧ (f (u % 4)).off % 128 ≠ 0x48 ∧ (f (u % 4)).off % 128 ≠ 0x4C) →
        v.ua u f = s.ua u f := fun f hf => by
      have : UartStep (s.atTime x) v := hv ▸ setUart_step rfl rfl
      exact this.ua u f hf
    have hrec : (uart v u).rx = (uart s u).rx := by
      rw [← hv, uart_setUart_same]
      rfl
    have hd : v.ua u F.UART_U_PKT_DELIM = 0 := (hreg _ (by simp [F.UART_U_PKT_DELIM]; omega)).trans hdelim
    refine (congrArg UartSt.rx (uartChar_joins hd ?_ ..)).trans ?_
    · rw [hrec, hreg F.UART_U_PKT2_MAX_LEN (by simp [F.UART_U_PKT2_MAX_LEN]; omega)]
      exact hlen
    · rw [hrec, hreg F.UART_U_CFG_BITS7 (by simp [F.UART_U_CFG_BITS7]; omega), hreg F.UART_U_CFG_PARITY (by simp [F.UART_U_CFG_PARITY]; omega)]
  case gap =>
    refine ⟨_, congrArg Host.Outcome.next (if_pos (by simp [hu, hon])), ?_⟩
    dsimp only
    obtain ⟨hnone, hcount⟩ := uartPacket_delivers hrx hdelim false false
    have hstep : UartStep (uartPacket s u false false) _ := (setUart_step (x := { uart (uartPacket s u false false) u with idle := true }) rfl rfl).trans (uartStart_step _ u)
    exact ⟨(hstep.rx u).trans hnone, (hstep.ua u _ (by simp [F.UART_CNT_RX_N]; omega)).trans hcount⟩
  case sent =>
    refine ⟨_, congrArg Host.Outcome.next (hw.uartSend (Nat.mod_lt _ (by decide)) b (by omega)), ?_⟩
    exact uartSend_starts (s := dropArms s (P.uart (u % 16))) hon hmode hn hfree hroom b
  case ended =>
    refine ⟨_, congrArg Host.Outcome.next (if_pos (by simp [ha, hu])), ?_⟩
    rw [htx]
    dsimp only
    generalize hv : setUart s u { uart s u with tx := none, sent := (l, a) :: (uart s u).sent } = v
    have hsent : (uart v u).sent = (l, a) :: (uart s u).sent := by rw [← hv, uart_setUart_same]
    have hcnt : v.ua u F.UART_CNT_TX_N = s.ua u F.UART_CNT_TX_N := by
      refine (hv ▸ setUart_regs s u _ : RegsKeep uartKey s v).rd _ _ ?_
      have : 0x0B8 ≤ P.uart u ∧ P.uart u < 0x0BC := by unfold P.uart; omega
      simp [uartKey, queueKey, swKey, evKey, F.UART_CNT_TX_N]
      omega
    have hcount : (v.uaInc u F.UART_CNT_TX_N).ua u F.UART_CNT_TX_N = satAdd (F.UART_CNT_TX_N (u % 4)).width (s.ua u F.UART_CNT_TX_N) 1 :=
      (rd_inc_same ..).trans (congrArg (satAdd _ · 1) hcnt)
    have hstep : UartStep (v.uaInc u F.UART_CNT_TX_N) _ := (UartStep.ite (c := b = true) (uartEv_step _ u) (.refl _)).trans (uartStart_step _ u)
    exact ⟨(hstep.sent u).trans hsent, (hstep.ua u _ (by simp [F.UART_CNT_TX_N]; omega)).trans hcount⟩

end Sys2Proof.Machine
end

section
/-!
SUPPORT. What sessions, the edge scheduler and Drift write: their own pages, events and the queues, and no event is lost.
-/

namespace Sys2Proof.Machine

/-- Registers of the sessions, the edge scheduler and Drift that they write. -/
def ownKey (k : Key) : Bool :=
  (k.page == P.sestx || k.page == P.sesrx || k.page == P.edge) ||
    (k.page == P.drift && (decide (0x080 ≤ k.off) || k.off == 0x074 || (k.off == 0x070 && k.lsb == 28))) ||
      (k.page == P.zones && k.off % 0x80 == 8 && k.lsb == 29)

/-- Registers that their work changes: their own, and those of events and of the queues. -/
def workKey (k : Key) : Bool := ownKey k || queueKey k

/-- Sessions, the edge scheduler or Drift have worked. -/
structure Worked (s t : State) : Prop where
  ev : EvStay s t
  regs : RegsKeep workKey s t
  steady : Steady s t

theorem Worked.trans {s t u : State} (h : Worked s t) (k : Worked t u) : Worked s u :=
  ⟨h.ev.trans k.ev, h.regs.trans k.regs, h.steady.trans k.steady⟩

theorem Worked.of_regs {s t : State} (h : t.regs = s.regs) : Worked s t := ⟨.of_regs h, .of_eq h, .of_regs h⟩

theorem ownKey_page {p o l i : Nat} (h : ownKey ⟨p, o, l, i⟩ = true) : p ≠ 0 ∧ p ≠ 0x130 := by
  simp only [ownKey, Bool.or_eq_true, Bool.and_eq_true, beq_iff_eq] at h
  rcases h with (((h | h) | h) | ⟨h, -⟩) | ⟨⟨h, -⟩, -⟩ <;> rw [h] <;> decide

theorem Worked.putEdge {s t : State} (h : Worked s t) (x : EdgeSched) : Worked s { t with edge := x } :=
  h.trans (Worked.of_regs (t := { t with edge := x }) rfl)

theorem Worked.putDrift {s t : State} (h : Worked s t) (x : DriftSt) : Worked s { t with drift := x } :=
  h.trans (Worked.of_regs (t := { t with drift := x }) rfl)

theorem Worked.refl (s : State) : Worked s s := .of_regs rfl

theorem Worked.ite {s t u : State} {c : Prop} [Decidable c] (h : Worked s t) (k : Worked s u) : Worked s (if c then t else u) := by
  split
  · exact h
  · exact k

theorem Worked.foldl {α : Type} {s t : State} {f : State → α → State} (hf : ∀ t a, Worked t (f t a)) (l : List α) (h : Worked s t) :
    Worked s (l.foldl f t) := by
  induction l generalizing t with
  | nil => exact h
  | cons a r ih => exact ih (h.trans (hf t a))

theorem Worked.each {s t : State} {n : Nat} {f : State → Nat → State} (hf : ∀ t a, Worked t (f t a)) (h : Worked s t) : Worked s (t.each n f) :=
  .foldl hf _ h

theorem Worked.wri {s t : State} (h : Worked s t) (p : Nat) (f : Fld) (i v : Nat) (ho : f.off ≠ 0x010) (hk : ownKey ⟨p, f.off, f.lsb, i⟩ = true) :
    Worked s (t.wri p f i v) := by
  refine h.trans ⟨⟨fun q k _ hb => ?_⟩, (RegsKeep.refl _ t).wri v (by rw [workKey, hk]; rfl), (Steady.refl t).wri p f i v (ownKey_page hk)⟩
  have : (t.wri p f i v).rdi q F.HDR_EV_STAT_EV 0 = t.rdi q F.HDR_EV_STAT_EV 0 :=
    rdi_wri_apart _ _ (by simp [keyApart, F.HDR_EV_STAT_EV, Ne.symm ho])
  rw [State.bit, State.rd, this]
  exact hb

theorem Worked.wr {s t : State} (h : Worked s t) (p : Nat) (f : Fld) (v : Nat) (ho : f.off ≠ 0x010) (hk : ownKey ⟨p, f.off, f.lsb, 0⟩ = true) :
    Worked s (t.wr p f v) := h.wri p f 0 v ho hk

theorem Moved.worked {s t : State} (h : Moved s t) : Worked s t := ⟨h.ev, h.queue.mono fun _ hk => (Bool.or_eq_false_iff.mp hk).2, h.steady⟩

theorem Worked.raise {s t : State} (h : Worked s t) (p k : Nat) : Worked s (raise t p k) := h.trans (raise_moved ..).worked

theorem Worked.raiseIf {s t : State} (h : Worked s t) (b : Bool) (p k : Nat) : Worked s (raiseIf t b p k) := .ite (h.raise p k) h

theorem qAdmit_steady (s : State) (q prio src tag info : Nat) (d : Bool) (head data : List Nat) (ses : Bool) :
    Steady s (qAdmit s q prio src tag info d head data ses).2 := by
  have hpage : P.queue q ≠ 0 ∧ P.queue q ≠ 0x130 := by unfold P.queue; omega
  unfold qAdmit
  extract_lets k ow t r u x y w z
  have ht : Steady s t.1 := by
    dsimp only [t]
    split
    · exact (recycleFor_moved ..).steady
    · exact .refl s
  have hu : Steady s u := ht.wri _ _ _ _ hpage
  have hw : Steady s w := hu.trans (.of_regs rfl)
  refine .ite_snd (.refl s) (.ite_snd (hw.trans (setQueueSt_moved ..).steady) ?_)
  exact (noteRefusal_moved ..).steady.trans (.ite ((Steady.refl _).wri _ _ _ _ hpage) (.refl _))

theorem qAdmit_worked (s : State) (q prio src tag info : Nat) (d : Bool) (head data : List Nat) (ses : Bool) :
    Worked s (qAdmit s q prio src tag info d head data ses).2 :=
  ⟨qAdmit_evStay .., (qAdmit_queue ..).1.mono fun _ hk => (Bool.or_eq_false_iff.mp hk).2, qAdmit_steady ..⟩

/-! ## Sessions -/

theorem setTx_worked (s : State) (k : Nat) (x : TxSes) : Worked s (setTx s k x) := by
  have hput : Worked s { s with ses := { s.ses with tx := s.ses.tx.put {} k x } } := .of_regs rfl
  exact hput.wri P.sestx F.SESTX_SES_STAT_RETAINED k _ (by decide) rfl

theorem setRx_worked (s : State) (r : Nat) (x : RxSes) : Worked s (setRx s r x) := .of_regs rfl

theorem sesPeerPresent_worked (s : State) (a : Nat) : Worked s (sesPeerPresent s a) := by
  unfold sesPeerPresent
  exact .each (fun t k => .ite ((Worked.wri (.refl t) _ _ _ _ (by decide) rfl).trans (setTx_worked ..)) (.refl t)) (.refl s)

theorem sesPeerAbsent_worked (s : State) (a : Nat) : Worked s (sesPeerAbsent s a) := by
  unfold sesPeerAbsent
  exact .each (fun t k => .ite ((Worked.wri (.refl t) _ _ _ _ (by decide) rfl).raise ..) (.refl t)) (.refl s)

theorem setRet_worked (s : State) (k : Nat) (l : List (Nat × List Nat)) : Worked s (setRet s k l) := by
  unfold setRet
  extract_lets x was is before y t u
  have ht : Worked s t := .of_regs rfl
  have hu : Worked s u := .ite (ht.trans (poolMonitor_moved ..).worked) ht
  exact hu.trans (setTx_worked ..)

theorem sendSes_worked (s : State) (f : Frame) : Worked s (sendSes s f) := by
  unfold sendSes
  exact .ite (.refl s) (.ite (.of_regs rfl) (originate_offered ..).moved.worked)

theorem sendMsg_worked (s : State) (k : Nat) (retx : Bool) (m : Nat × List Nat) : Worked s (sendMsg s k retx m) := by
  unfold sendMsg
  dsimp only
  refine .ite (.refl s) (Worked.trans (.ite ?_ (.refl s)) (sendSes_worked ..))
  exact ((Worked.refl s).wr _ _ _ (by decide) rfl).wri _ _ _ _ (by decide) rfl

theorem sendProbe_worked (s : State) (k : Nat) : Worked s (sendProbe s k) := by
  unfold sendProbe
  exact .ite (.refl s) (((Worked.refl s).wr _ _ _ (by decide) rfl).trans (sendSes_worked ..))

theorem sendNew_worked (s : State) (k : Nat) : Worked s (sendNew s k) := by
  unfold sendNew
  exact .ite (Worked.trans (.foldl (fun _ _ => sendMsg_worked ..) _ (.refl s)) (setTx_worked ..)) (.refl s)

theorem resendFrom_worked (s : State) (k m : Nat) : Worked s (resendFrom s k m) := by
  unfold resendFrom
  exact Worked.trans (.foldl (fun _ _ => sendMsg_worked ..) _ (.refl s)) (setTx_worked ..)

theorem setStalled_worked (s : State) (k : Nat) (b : Bool) : Worked s (setStalled s k b) := by
  unfold setStalled
  exact ((Worked.refl s).wri _ _ _ _ (by decide) rfl).wr _ _ _ (by simp [F.SESTX_STALLED_S]; omega) rfl

theorem ackTaken_worked (s : State) (k : Nat) : Worked s (ackTaken s k) := by
  unfold ackTaken
  exact ((setTx_worked ..).trans (setStalled_worked ..)).wri _ _ _ _ (by decide) rfl

theorem setRcvd_worked (s : State) (k m : Nat) : Worked s (setRcvd s k m) := by
  unfold setRcvd
  dsimp only
  have hw := (Worked.refl s).wri P.sestx F.SESTX_SES_RCVD_MSEQ k m (by decide) rfl
  refine .ite (Worked.raiseIf (.each (fun t i => .ite (.wr (.refl t) _ _ _ ?_ rfl) (.refl t)) hw) ..) hw
  simp [F.SESTX_PUSH_STAT_STATUS]
  omega

theorem setCons_worked (s : State) (k c : Nat) : Worked s (setCons s k c) := by
  unfold setCons
  exact (((Worked.refl s).wri _ _ _ _ (by decide) rfl).trans (setRet_worked ..)).raiseIf ..

theorem sendAck_worked (s : State) (r : Nat) (gap : Bool) : Worked s (sendAck s r gap) := by
  unfold sendAck
  refine .ite (.refl s) (Worked.trans (.raiseIf (.wr ?_ _ _ _ (by decide) rfl) ..) (sendSes_worked ..))
  exact setRx_worked ..

theorem tableAck_worked (s : State) (r : Nat) (gap : Bool) : Worked s (tableAck s r gap) := .ite (.refl s) (sendAck_worked ..)

theorem ackAdvance_worked (s : State) (r : Nat) : Worked s (ackAdvance s r) := by
  unfold ackAdvance
  exact .ite (.ite ((setRx_worked ..).trans (sendAck_worked ..)) (setRx_worked ..)) (setRx_worked ..)

theorem judgeMsg_worked (s : State) (f : Frame) : Worked s (judgeMsg s f) := by
  have hwri : ∀ {t : State}, Worked s t → ∀ (g : Fld) i v, g.off ≠ 0x010 → Worked s (t.wri P.sesrx g i v) := fun h g i v ho => h.wri _ _ _ _ ho rfl
  have hinc : ∀ {t : State}, Worked s t → ∀ g : Fld, g.off ≠ 0x010 → Worked s (t.inc P.sesrx g) := fun h g ho => h.wr _ _ _ ho rfl
  unfold judgeMsg
  extract_lets k r sinc probe fresh m x resync s1 n s2 y s3 s4 s5 z s6 next dup a s7 s8 s9
  have h1 : Worked s s1 := (hwri (.refl s) _ _ _ (by decide)).raiseIf ..
  have h3 : Worked s s3 := (hwri (hwri h1 _ _ _ (by decide)) _ _ _ (by decide)).trans (setRx_worked ..)
  have h4 : Worked s s4 := hwri h3 _ _ _ (by decide)
  have h5 : Worked s s5 := .ite (.ite h3 ((hwri h4 _ _ _ (by decide)).raise ..)) h1
  have h6 : Worked s s6 := h5.trans (setRx_worked ..)
  have ha : Worked s a.2 := h6.trans (qAdmit_worked ..)
  have h8 : Worked s s8 := hinc (hwri ha _ _ _ (by decide)) _ (by decide)
  have h9 : Worked s s9 := .ite (hinc h8 _ (by decide)) h8
  refine .ite (.refl s) (.ite ((hinc (.refl s) _ (by decide)).raise ..) (.ite (h6.trans (tableAck_worked ..)) ?_))
  refine .ite ((hinc h6 _ (by decide)).trans (tableAck_worked ..)) (.ite (.ite ((h9.raise ..).trans (ackAdvance_worked ..)) ?_) ?_)
  · exact (hinc ha _ (by decide)).raise ..
  · exact (hinc h6 _ (by decide)).trans (tableAck_worked ..)

theorem judgeAck_worked (s : State) (f : Frame) : Worked s (judgeAck s f) := by
  have hwri : ∀ {t : State}, Worked s t → ∀ (g : Fld) i v, g.off ≠ 0x010 → Worked s (t.wri P.sestx g i v) := fun h g i v ho => h.wri _ _ _ _ ho rfl
  have hinc : ∀ {t : State}, Worked s t → ∀ g : Fld, g.off ≠ 0x010 → Worked s (t.inc P.sestx g) := fun h g ho => h.wr _ _ _ ho rfl
  unfold judgeAck
  extract_lets k rsid rinc gap fresh rxn cseq cons next mine noHist inWin sync s1 x o1 o2 o3 o4 o5 s2 f1 f2 changed n1 n2 r n3 n4 n5 n6
  have h1 : Worked s s1 := hinc (.refl s) _ (by decide)
  have hopen : Worked s o5 :=
    hwri (hwri (hwri (hwri (h1.trans (setTx_worked ..)) _ _ _ (by decide)) _ _ _ (by decide)) _ _ _ (by decide)) _ _ _ (by decide)
  have h2 : Worked s s2 := h1.trans (setTx_worked ..)
  have hf : Worked s f2 := ((hwri h2 _ _ _ (by decide)).raise ..).trans (ackTaken_worked ..)
  have hn2 : Worked s n2 := (hwri h2 _ _ _ (by decide)).raiseIf ..
  have hn3 : Worked s n3 := .ite (hn2.trans (setRcvd_worked ..)) hn2
  have hn5 : Worked s n5 := (hn3.trans (setCons_worked ..)).trans (ackTaken_worked ..)
  have hn6 : Worked s n6 := .ite (hn5.trans (resendFrom_worked ..)) hn5
  refine .ite (hinc (.refl s) _ (by decide)) (.ite ((hwri hopen _ _ _ (by decide)).trans (ackTaken_worked ..)) (.ite (.ite ?_ ?_) ?_))
  · exact hf.trans (sendProbe_worked ..)
  · exact hf.trans (resendFrom_worked ..)
  · exact hn6.trans (sendNew_worked ..)

theorem drainLoop_worked (n : Nat) (s : State) : Worked s (drainLoop n s) := by
  induction n generalizing s with
  | zero => exact .refl s
  | succ n ih =>
    unfold drainLoop
    split
    · exact .refl s
    · refine Worked.trans (Worked.trans ?_ (Worked.ite (judgeMsg_worked ..) (judgeAck_worked ..))) (ih _)
      exact .of_regs rfl

theorem retainMsg_worked (s : State) (k : Nat) (b : List Nat) : Worked s (retainMsg s k b).2 := by
  unfold retainMsg
  extract_lets m x t u v
  have ht : Worked s t := .ite (setTx_worked ..) (.refl s)
  have hv : Worked s v := (ht.trans (setRet_worked ..)).wri P.sestx F.SESTX_SES_NEXT_MSEQ k _ (by decide) rfl
  exact ((hv.wr P.sestx F.SESTX_CNT_PUSH_N _ (by decide) rfl).trans (sendNew_worked ..)).trans (drainLoop_worked ..)

/-! ## The edge scheduler -/

theorem Worked.edgeCount {s t : State} (h : Worked s t) (f : Fld) (k : Nat) (ho : f.off ≠ 0x010) : Worked s (countRaise t P.edge f P.edge k) :=
  (h.wr _ _ _ ho rfl).raise ..

theorem edgeCount_worked (s : State) (r : Nat) : Worked s (edgeCount s r) := by
  unfold edgeCount
  split
  · exact (Worked.refl s).wr _ _ _ (by decide) rfl
  · exact (Worked.refl s).edgeCount _ _ (by decide)
  · exact (Worked.refl s).edgeCount _ _ (by decide)
  · exact (Worked.refl s).edgeCount _ _ (by decide)
  · exact .refl s

theorem edgeReport_worked (s : State) (e : PendEdge) (r : Nat) (at2 : Option Nat) : Worked s (edgeReport s e r at2) := by
  have hset : ∀ (t : State) y, t.regs = s.regs → Worked s (edgeCount (setEnt t e.entry y) r) := fun t y h =>
    (Worked.of_regs (t := setEnt t e.entry y) h).trans (edgeCount_worked _ r)
  unfold edgeReport
  cases at2 with
  | none =>
    dsimp only
    refine Worked.raiseIf ?_ ..
    split
    · exact (hset (s.draw 64).2 _ rfl).putEdge _
    · exact hset (s.draw 64).2 _ rfl
  | some i =>
    dsimp only
    refine Worked.raiseIf ?_ ..
    split
    · exact (hset _ _ rfl).putEdge _
    · exact hset _ _ rfl

theorem dropEdge_worked (s : State) (e : PendEdge) : Worked s (dropEdge s e) := by
  unfold dropEdge
  dsimp only
  split
  · exact .of_regs rfl
  · exact .of_regs rfl

theorem edgeEnd_worked (s : State) (e : PendEdge) (r : Nat) : Worked s (edgeEnd s e r) := by
  unfold edgeEnd
  exact Worked.trans (.ite (.ite (edgeCount_worked ..) (.refl s)) (edgeReport_worked ..)) (dropEdge_worked ..)

theorem edgesCancel_worked (s : State) (n : Nat) : Worked s (edgesCancel s n) := by
  unfold edgesCancel
  exact .foldl (fun _ _ => .ite (edgeEnd_worked ..) (.refl _)) _ (.refl s)

theorem setEnt_worked (s : State) (n : Nat) (x : EdgeEnt) : Worked s (setEnt s n x) := .of_regs rfl

theorem edgesRelease_worked (s : State) (n : Nat) : Worked s (edgesRelease s n) := by
  unfold edgesRelease
  exact .ite ((edgesCancel_worked ..).trans (setEnt_worked ..)) ((edgesCancel_worked ..).trans (setEnt_worked ..))

theorem setEdge_worked (s : State) (e : PendEdge) : Worked s (setEdge s e) := .of_regs rfl

theorem edgeCommit_worked (s : State) (x : EdgeEnt) (e : PendEdge) (i : Nat) (late : Bool) : Worked s (edgeCommit s x e i late) := by
  unfold edgeCommit
  dsimp only
  exact .ite (.of_regs rfl) (.of_regs rfl)

theorem edgeStarve_worked (s : State) (e : PendEdge) : Worked s (edgeStarve s e) := by
  unfold edgeStarve
  exact .ite (.refl s) ((setEdge_worked ..).edgeCount _ _ (by decide))

theorem edgeTry_worked (s : State) (e : PendEdge) (n2 : Nat) : Worked s (edgeTry s e n2) := by
  unfold edgeTry
  dsimp only
  refine .ite (.refl s) (.ite (.refl s) ?_)
  split
  · exact edgeEnd_worked ..
  · refine .ite (.refl s) (.ite (.ite ?_ ?_) (.ite (.ite ?_ ?_) (edgeEnd_worked ..)))
    · exact edgeCommit_worked ..
    · exact edgeStarve_worked ..
    · exact edgeCommit_worked ..
    · exact edgeStarve_worked ..

theorem edgeSolve_worked (s : State) (e : PendEdge) (n2 : Nat) (judge : Bool) : Worked s (edgeSolve s e n2 judge) := by
  unfold edgeSolve
  dsimp only
  split
  · exact .ite (.ite ((setEdge_worked ..).trans (edgeTry_worked ..)) (setEdge_worked ..)) (setEdge_worked ..)
  · exact .ite ((setEdge_worked ..).trans (edgeTry_worked ..)) (setEdge_worked ..)
  · exact Worked.trans (.ite (.wr (.refl s) _ _ _ (by decide) rfl) (.refl s)) (setEdge_worked ..)

theorem edgeDisc_worked (s : State) (e : PendEdge) (n2 : Nat) (gone : List Nat) : Worked s (edgeDisc s e n2 gone) := by
  unfold edgeDisc
  split
  · exact Worked.trans (.ite (.refl s) (Worked.edgeCount (.refl s) _ _ (by decide))) (edgeSolve_worked ..)
  · exact edgeSolve_worked ..

theorem edgeBySlot_worked (s : State) (e : PendEdge) (n2 : Nat) (d : Option DiscStep) : Worked s (edgeBySlot s e n2 d).2 := by
  unfold edgeBySlot
  dsimp only
  split
  · exact edgeEnd_worked ..
  · split
    · exact setEdge_worked ..
    · split
      · exact setEdge_worked ..
      · split
        · cases d with
          | none => exact edgeSolve_worked ..
          | some d => exact .ite (edgeDisc_worked ..) (edgeSolve_worked ..)
        · exact .refl s

theorem edgeSync_worked (s : State) (e : PendEdge) (n2 : Nat) (d : Option DiscStep) : Worked s (edgeSync s e n2 d) := by
  have h := edgeBySlot_worked s e n2 d
  unfold edgeSync
  dsimp only
  refine .ite (Worked.raise (h.trans ?_) ..) h
  exact .of_regs rfl

theorem armChecked_worked (s : State) (n : Nat) (o : ArmOp) (a : Option (Nat × Nat)) (n2 : Nat) : Worked s (armChecked s n o a n2).2 := by
  have harm : Worked s (edgeArm s n o a n2) := by
    unfold edgeArm
    dsimp only
    refine .ite (Worked.trans ?_ (edgeSync_worked ..)) (Worked.trans ?_ (edgeTry_worked ..))
    · exact .of_regs rfl
    · exact .of_regs rfl
  unfold armChecked
  split
  · exact .refl s
  · split
    · exact (Worked.refl s).edgeCount _ _ (by decide)
    · exact harm

/-! ## Drift -/

theorem Worked.driftCount {s t : State} (h : Worked s t) (f : Fld) (k : Nat) (hf : 0x080 ≤ f.off) : Worked s (driftCount t f k) :=
  (h.wr _ _ _ (by omega) (by simp [ownKey, hf])).raise ..

theorem Worked.driftInc {s t : State} (h : Worked s t) (f : Fld) (hf : 0x080 ≤ f.off) : Worked s (t.inc P.drift f) :=
  h.wr _ _ _ (by omega) (by simp [ownKey, hf])

theorem recPut_worked (s : State) (i : Nat) (r : Rec) : Worked s (recPut s i r) := .of_regs rfl
theorem setDslot_worked (s : State) (i : Nat) (x : DriftSlot) : Worked s (setDslot s i x) := .of_regs rfl
theorem dropReqs_worked (s : State) (p : DriftReq → Bool) : Worked s (dropReqs s p) := .of_regs rfl

theorem driftNote_worked (s : State) (kind slot peer id : Nat) : Worked s (driftNote s kind slot peer id) := by
  unfold driftNote
  dsimp only
  exact .ite (.refl s) (.ite (qAdmit_worked ..) ((qAdmit_worked ..).driftInc _ (by decide)))

theorem markOrphan_worked (s : State) (i peer : Nat) : Worked s (markOrphan s i peer) := by
  unfold markOrphan
  dsimp only
  exact .ite (.refl s) ((((recPut_worked ..).trans (dropReqs_worked ..)).driftCount _ _ (by decide)).trans (driftNote_worked ..))

theorem crcCheck_worked (s : State) (i : Nat) : Worked s (crcCheck s i) := by
  unfold crcCheck
  dsimp only
  exact .ite (.refl s) (((Worked.refl s).driftCount _ _ (by decide)).trans (markOrphan_worked ..))

theorem freeRec_worked (s : State) (i : Nat) : Worked s (freeRec s i) := by
  unfold freeRec
  dsimp only
  have h : Worked s (endReqs (setDslot (recPut s i ((recAt s i).s R.state RS.free)) i {}) i) := .of_regs rfl
  exact (h.putDrift _).trans (driftNote_worked ..)

theorem findItem_worked (s : State) (id : Nat) : Worked s (findItem s id).2 := .foldl (fun _ _ => crcCheck_worked ..) _ (.refl s)

theorem driftSend_worked (s : State) (f : Frame) : Worked s (driftSend s f) := .ite (originate_offered ..).moved.worked (.refl s)

theorem startReq_worked (s : State) (q : DriftReq) : Worked s (startReq s q) := by
  unfold startReq
  exact ((Worked.refl s).putDrift _).trans (driftSend_worked ..)

theorem request_worked (s : State) (i sub dst act res prev : Nat) : Worked s (request s i sub dst act res prev) := by
  unfold request
  exact (dropReqs_worked ..).trans (startReq_worked ..)

theorem inductOk_worked (s : State) (i peer : Nat) : Worked s (inductOk s i peer) := by
  unfold inductOk
  split
  · exact .refl s
  · dsimp only
    refine Worked.trans (Worked.driftCount (.ite ?_ ?_) _ _ (by decide)) (driftNote_worked ..)
    · exact ((setDslot_worked ..).wri P.drift F.DRIFT_OP_RES_STATUS _ _ (by decide) rfl).wri P.drift F.DRIFT_OP_VER_VERSION _ _ (by decide) rfl
    · exact setDslot_worked ..

theorem mirrorSend_worked (s : State) (i : Nat) : Worked s (mirrorSend s i) := by
  unfold mirrorSend
  dsimp only
  refine .ite (.refl s) (.ite (request_worked ..) ?_)
  split
  · exact request_worked ..
  · exact Worked.trans (.ite (.refl s) (recPut_worked ..)) (inductOk_worked ..)

theorem ownerChange_worked (s : State) (i : Nat) (r : Rec) : Worked s (ownerChange s i r) := (recPut_worked ..).trans (mirrorSend_worked ..)

theorem actionNote_worked (s : State) (i a : Nat) : Worked s (actionNote s i a) := driftNote_worked ..

theorem missActions_worked (s : State) (i x : Nat) : Worked s (missActions s i x).2 := by
  have hstep : ∀ (b : Bool × State) (a : Nat), Worked s b.2 → Worked s (if (recAt b.2 i).g (R.node a) = x ∧ ((recAt b.2 i).g (R.result a) = 1 ∨ (recAt b.2 i).g (R.result a) = 2) then
      (true, actionNote (driftCount (recPut b.2 i ((recAt b.2 i).s (R.result a) 5)) F.DRIFT_CNT_MISSED_N 6) i a) else b).2 := fun b a h => by
    split
    · exact ((h.trans (recPut_worked ..)).driftCount _ _ (by decide)).trans (actionNote_worked ..)
    · exact h
  unfold missActions
  exact hstep _ _ (hstep _ _ (hstep _ _ (hstep _ _ (.refl s))))

theorem releaseAction_worked (s : State) (i a : Nat) : Worked s (releaseAction s i a) := by
  unfold releaseAction
  split
  · exact .refl s
  · exact (((Worked.refl s).putEdge _).trans (setDslot_worked ..)).trans (edgesRelease_worked ..)

theorem armAction_worked (s : State) (i a : Nat) : Worked s (armAction s i a) := by
  have hfail : ∀ t : State, Worked t (actionNote (ownerChange t i ((recAt t i).s (R.result a) 6)) i a) := fun t =>
    (ownerChange_worked ..).trans (actionNote_worked ..)
  unfold armAction
  extract_lets r base pool tmpl fail
  split
  · extract_lets t1 o x t2 t3 c
    have hc : Worked s c.2 := (((setEnt_worked s _ _).trans (setDslot_worked _ i _)).trans (recPut_worked _ i _)).trans (armChecked_worked ..)
    exact .ite hc (((hc.trans (setEnt_worked ..)).trans (setDslot_worked ..)).trans (hfail _))
  · exact hfail s

theorem armActions_worked (s : State) (i : Nat) : Worked s (armActions s i) := by
  unfold armActions
  refine .foldl (fun t a => ?_) _ (.refl s)
  exact .ite ((crcCheck_worked ..).trans (armAction_worked ..)) (crcCheck_worked ..)

theorem retireDone_worked (s : State) (i : Nat) : Worked s (retireDone s i) := by
  unfold retireDone
  dsimp only
  exact (((Worked.ite (request_worked ..) (.refl s)).driftCount _ _ (by decide)).trans (driftNote_worked ..)).trans (freeRec_worked ..)

theorem reportBytes_worked (s : State) (i : Nat) : Worked s (reportBytes s i).2 := by
  unfold reportBytes
  dsimp only
  split
  · exact .refl s
  · exact .of_regs rfl

theorem retireReport_worked (s : State) (i : Nat) : Worked s (retireReport s i) := by
  unfold retireReport
  dsimp only
  split
  · exact .refl s
  · exact .ite (.refl s) (((reportBytes_worked ..).trans (retainMsg_worked ..)).trans (recPut_worked ..))

theorem retireProceed_worked (s : State) (i : Nat) : Worked s (retireProceed s i) := by
  have hcrc := crcCheck_worked s i
  unfold retireProceed
  dsimp only
  refine .ite hcrc ?_
  have hrep := hcrc.trans (retireReport_worked (crcCheck s i) i)
  split
  · exact .ite (hrep.trans (retireDone_worked ..)) hrep
  · exact hrep

theorem withdraw_worked (s : State) (i : Nat) : Worked s (withdraw s i) := by
  unfold withdraw
  exact .ite ((dropReqs_worked ..).trans (recPut_worked ..)) (dropReqs_worked ..)

theorem retireStart_worked (s : State) (i reason : Nat) : Worked s (retireStart s i reason) := by
  have hact : ∀ (t : State) (a : Nat), Worked t (if (recAt t i).g (R.result a) = 1 ∨ (recAt t i).g (R.result a) = 2 then
      actionNote (recPut (if (recAt t i).g (R.node a) = t.own ∧ (recAt t i).g (R.result a) = 2 then releaseAction t i a else t) i
        ((recAt (if (recAt t i).g (R.node a) = t.own ∧ (recAt t i).g (R.result a) = 2 then releaseAction t i a else t) i).s (R.result a) 7)) i a
      else t) := fun t a =>
    .ite (((Worked.ite (releaseAction_worked ..) (.refl t)).trans (recPut_worked ..)).trans (actionNote_worked ..)) (.refl t)
  unfold retireStart
  extract_lets s1 s2 s3 x s4 m
  have h2 : Worked s s2 := .foldl hact _ (withdraw_worked ..)
  have h4 : Worked s s4 := (h2.trans (recPut_worked ..)).trans (setDslot_worked ..)
  exact .ite (h4.trans (request_worked ..)) (h4.trans (retireProceed_worked ..))

theorem ownResult_worked (s : State) (i a code : Nat) : Worked s (ownResult s i a code) := by
  have h := (ownerChange_worked s i ((recAt s i).s (R.result a) code)).trans (actionNote_worked _ i a)
  unfold ownResult
  exact .ite (.refl s) (.ite (h.trans (retireStart_worked ..)) h)

theorem actionEntryEnd_worked (s : State) (id a : Nat) : Worked s (actionEntryEnd s id a) := by
  unfold actionEntryEnd
  dsimp only
  split
  · exact (setDslot_worked ..).trans (edgesRelease_worked ..)
  · exact ((Worked.refl s).putDrift _).trans (edgesRelease_worked ..)
  · exact .refl s

theorem actionResult_worked (s : State) (id a r : Nat) : Worked s (actionResult s id a r) := by
  have h := (actionEntryEnd_worked s id a).trans (findItem_worked _ id)
  unfold actionResult
  dsimp only
  split
  · exact .ite (h.trans (ownResult_worked ..)) (.ite h (h.trans (request_worked ..)))
  · exact .ite h (h.trans (startReq_worked ..))
  · exact h

theorem driftDrain_worked (n : Nat) (s : State) : Worked s (driftDrain n s) := by
  induction n generalizing s with
  | zero => exact .refl s
  | succ n ih =>
    unfold driftDrain
    refine .ite (.refl s) (Worked.trans ?_ (ih _))
    exact .foldl (fun _ _ => actionResult_worked ..) _ ((Worked.refl s).putEdge _)

theorem settleEdges_worked (s : State) : Worked s (settleEdges s) := driftDrain_worked ..

theorem handoffFail_worked (s : State) (i b : Nat) (state : Bool) : Worked s (handoffFail s i b state) := by
  unfold handoffFail
  extract_lets s1 s2 x s3 s4 m s5
  have h2 : Worked s s2 := (withdraw_worked ..).trans (recPut_worked ..)
  have h3 : Worked s s3 := .ite h2 (h2.trans (setDslot_worked ..))
  have hm : Worked s m.2 := (h3.driftCount _ _ (by decide)).trans (missActions_worked ..)
  have h5 : Worked s s5 := .ite (hm.trans (ownerChange_worked ..)) hm
  exact h5.trans (driftNote_worked ..)

theorem handoffCheck_worked (s : State) (k : Nat) : Worked s (handoffCheck s k) := by
  unfold handoffCheck
  extract_lets busy r t was
  have hr : Worked s r.2.2 := by
    refine List.foldlRecOn (motive := fun b : List Nat × Bool × State => Worked s b.2.2) _ _ (.refl s) fun b hb x _ => ?_
    have hcrc := hb.trans (crcCheck_worked b.2.2 x.2)
    dsimp only
    split
    · exact hcrc
    · split
      · exact hcrc
      · split
        · exact hcrc
        · split
          · exact hcrc.trans (retireStart_worked ..)
          · exact hcrc
        · split
          · exact hcrc
          · split
            · exact (hcrc.trans (recPut_worked ..)).trans (request_worked ..)
            · exact hcrc
  refine (hr.wr _ _ _ ?_ ?_).raiseIf ..
  · simp [F.ZONES_ZSTAT_CHAIN_END]
    omega
  · have hoff : (F.ZONES_ZSTAT_CHAIN_END k).off % 0x80 = 8 := by simp [F.ZONES_ZSTAT_CHAIN_END]
    simp [ownKey, hoff, F.ZONES_ZSTAT_CHAIN_END]

theorem checkNow_worked (s : State) : Worked s (checkNow s) :=
  .ite (.each (fun _ _ => .ite (handoffCheck_worked ..) (.refl _)) (.refl s)) (.refl s)

theorem recAbsent_worked (s : State) (x i : Nat) : Worked s (recAbsent s x i) := by
  unfold recAbsent
  extract_lets s1 r1 y s2 s3 hadSet s4 toRetire s5 r5 s6 r6 r7 r8 s7 s8
  have h1 : Worked s s1 := crcCheck_worked ..
  have h2 : Worked s s2 := h1.trans (setDslot_worked ..)
  have h3 : Worked s s3 := .ite (h2.trans (handoffFail_worked ..)) h2
  have h5 : Worked s s5 := (h3.trans (dropReqs_worked ..)).trans (dropReqs_worked ..)
  have h6 : Worked s s6 := .ite (h5.trans (recPut_worked ..)) h5
  have h7 : Worked s s7 := (h6.trans (recPut_worked ..)).driftCount _ _ (by decide)
  have h8 : Worked s s8 := (h7.trans (missActions_worked ..)).trans (driftNote_worked ..)
  refine .ite h1 (.ite (.ite (h6.trans (markOrphan_worked ..)) (.ite ?_ h6)) (.ite ?_ (.ite ?_ h6)))
  · exact ((h6.trans (recPut_worked ..)).trans (inductOk_worked ..)).trans (retireProceed_worked ..)
  · exact (h8.trans (mirrorSend_worked ..)).trans (armActions_worked ..)
  · exact Worked.trans (.ite (h6.trans (recPut_worked ..)) h6) (mirrorSend_worked ..)

theorem judgeLost_worked (s : State) : Worked s (judgeLost s) := by
  unfold judgeLost
  exact .ite (.refl s) (.foldl (fun t i => .foldl (fun _ _ => recAbsent_worked ..) _ (.refl t)) _ (.refl s))

theorem driftAbsent_worked (s : State) (x : Nat) : Worked s (driftAbsent s x) := by
  unfold driftAbsent
  extract_lets s1 s2
  have h1 : Worked s s1 := .foldl (fun _ _ => setDslot_worked ..) _ (.refl s)
  have h2 : Worked s s2 := h1.trans (dropReqs_worked ..)
  exact .ite (((h2.trans (judgeLost_worked ..)).trans (checkNow_worked ..)).trans (settleEdges_worked ..)) h2

theorem driftPresent_worked (s : State) (x : Nat) : Worked s (driftPresent s x) := by
  unfold driftPresent
  exact Worked.trans (.foldl (fun t e => .ite (setDslot_worked ..) (.refl t)) _ (.refl s)) (checkNow_worked ..)

/-! ## Notices of the ring map -/

theorem judgeBreaks_evStay (s : State) (l : List (Nat × Nat)) : EvStay s (judgeBreaks s l) := by
  have hput : EvStay s { s with halo := { s.halo with breaks := l } } := .of_regs rfl
  have hif : ∀ (t : State) b k, EvStay t (raiseIf t b P.halo k) := fun t b k => .ite (raise_evStay ..) (.refl t)
  unfold judgeBreaks
  exact (((hput.wr _ F.HALO_RING_STAT_BREAKS _ (by decide)).wr _ F.HALO_RING_STAT_BROKEN _ (by decide)).trans (hif ..)).trans (hif ..)

theorem setPresent_evStay (s : State) (a : Nat) (b : Bool) : EvStay s (setPresent s a b) := by
  have hif : ∀ (t : State) b p k, EvStay t (raiseIf t b p k) := fun t b p k => .ite (raise_evStay ..) (.refl t)
  unfold setPresent
  dsimp only
  split
  · exact .refl s
  · have hbit : EvStay s (s.setBit P.halo (F.HALO_PRESENT_P (a / 32)) (a % 32) b) := (EvStay.refl s).wr _ _ _ (by simp [F.HALO_PRESENT_P]; omega)
    have hev := (((hbit.wr P.halo F.HALO_RING_STAT_PRESENT_COUNT (if b then s.rd P.halo F.HALO_RING_STAT_PRESENT_COUNT + 1
      else s.rd P.halo F.HALO_RING_STAT_PRESENT_COUNT - 1) (by decide)).trans (raise_evStay _ P.halo 3)))
    refine EvStay.ite ?_ (EvStay.ite ?_ ?_)
    · exact (hev.trans (hif ..)).trans (.ite (sesPeerPresent_worked ..).ev (sesPeerAbsent_worked ..).ev)
    · exact ((hev.trans (hif ..)).trans (.ite (sesPeerPresent_worked ..).ev (sesPeerAbsent_worked ..).ev)).trans (driftPresent_worked ..).ev
    · exact ((hev.trans (hif ..)).trans (.ite (sesPeerPresent_worked ..).ev (sesPeerAbsent_worked ..).ev)).trans (driftAbsent_worked ..).ev

theorem applyChange_evStay (s : State) (kind a b : Nat) : EvStay s (applyChange s kind a b) := by
  have hmark : ∀ (u : State) x c, EvStay u (if isOwn u x then u else setPresent u x c) := fun u x c => .ite (.refl u) (setPresent_evStay ..)
  unfold applyChange
  extract_lets mark s1 s2 s3
  have h1 : EvStay s s1 := .ite ((((EvStay.refl s).wr P.halo F.HALO_LAST_BREAK_VALID _ (by decide)).wr P.halo F.HALO_LAST_BREAK_WEST_END _ (by decide)).wr
    P.halo F.HALO_LAST_BREAK_EAST_END _ (by decide)) (.refl s)
  have h2 : EvStay s s2 := .ite h1 (h1.trans (judgeBreaks_evStay ..))
  have h3 : EvStay s s3 := .ite (h2.trans (hmark ..)) h2
  exact .ite (hmark ..) (.ite (hmark ..) (.ite (.ite (h3.trans (hmark ..)) h3) (.ite (judgeBreaks_evStay ..) (.refl s))))

theorem changeNotice_evStay (s : State) (kind a b : Nat) : EvStay s (changeNotice s kind a b) := by
  unfold changeNotice
  extract_lets s1 pay s2 x
  have h2 : EvStay s s2 := (applyChange_evStay s kind a b).trans (originate_offered ..).moved.ev
  exact h2.trans (.of_regs rfl)

theorem linkNotice_evStay (s : State) (i kind : Nat) : EvStay s (linkNotice s i kind) := by
  unfold linkNotice
  exact .ite (.refl s) (.ite (changeNotice_evStay ..) (changeNotice_evStay ..))

end Sys2Proof.Machine
end

section
/-!
PROOF. HELLO and NEIGHBOUR exchanges of a lane and its windows (05_ring_links_and_frames.md): O27.
-/

namespace Sys2Proof.Machine

/-! ## A lane that enters UP (R114) -/

/-- After the state has been set, entry to UP writes TX_FRAMES alone of a lane's own registers. -/
theorem goUp_rd (s : State) (j i : Nat) {f : Fld} (h : 0x040 ≤ f.off) (ht : f.off ≠ 0x084) :
    (goUp s j).rd (P.lane i) f = (setLaneState s j LS.up).rd (P.lane i) f := by
  unfold goUp
  dsimp only
  refine ((takeAddress_keeps ..).rd_body group_lane h rfl).trans ?_
  generalize hu : setLaneState s j LS.up = u
  have hsend : (sendHello (u.setLane j { u.lane j with heard := true, wasUp := true }) j).rd (P.lane i) f = u.rd (P.lane i) f :=
    rd_inc_apart _ _ (by simp [keyApart, F.LANE_TX_FRAMES_N, ht])
  generalize sendHello (u.setLane j { u.lane j with heard := true, wasUp := true }) j = v at hsend ⊢
  have hraise : (raise v (P.lane j) 0).rd (P.lane i) f = u.rd (P.lane i) f := ((raise_keeps ..).rd_body group_lane h rfl).trans hsend
  generalize raise v (P.lane j) 0 = w at hraise ⊢
  have hseen : ∀ n : NodeSt, (if ringLane w j then { w with node := n } else w).rd (P.lane i) f = u.rd (P.lane i) f := fun n => by
    split
    · exact hraise
    · exact hraise
  split
  · exact ((linkNotice_keeps ..).rd_body group_lane h rfl).trans (hseen _)
  · exact hseen _

theorem laneState_goUp (s : State) (i : Nat) : laneState (goUp s i) i = LS.up :=
  (goUp_rd s i i (by decide) (by decide)).trans (laneState_setLaneState _ _ _ (by decide))

/-- No lane leaves UP when another enters it. -/
theorem laneState_goUp_up {s : State} {i : Nat} (j : Nat) (h : laneState s i = LS.up) : laneState (goUp s j) i = LS.up := by
  by_cases hp : P.lane i = P.lane j
  · have := laneState_goUp s j
    unfold laneState at this ⊢
    rwa [hp]
  · refine (goUp_rd s j i (by decide) (by decide)).trans ?_
    have hw : ((s.wr (P.lane j) F.LANE_LANE_STAT_STATE LS.up).wr (P.lane j) F.HDR_PAGE_STAT_STOPPED (b2n (LS.up == LS.off))).rd (P.lane i)
        F.LANE_LANE_STAT_STATE = LS.up :=
      (rd_wr_apart _ _ (by simp [keyApart, hp])).trans ((rd_wr_apart _ _ (by simp [keyApart, hp])).trans h)
    exact hw

theorem rd_goUp_nbr (s : State) (j i : Nat) : (goUp s j).rd (P.lane i) F.LANE_NBR_INFO_VALID = s.rd (P.lane i) F.LANE_NBR_INFO_VALID := by
  refine (goUp_rd s j i (by decide) (by decide)).trans ?_
  exact (rd_wr_apart _ _ (by simp [keyApart, F.LANE_NBR_INFO_VALID, F.HDR_PAGE_STAT_STOPPED])).trans
    (rd_wr_apart _ _ (by simp [keyApart, F.LANE_NBR_INFO_VALID, F.LANE_LANE_STAT_STATE]))

/-- The node's reversal leaves an UP lane UP and its neighbour known. -/
theorem judgeReversal_up {s : State} {i : Nat} (h : laneState s i = LS.up ∧ s.rd (P.lane i) F.LANE_NBR_INFO_VALID = 1) :
    laneState (judgeReversal s) i = LS.up ∧ (judgeReversal s).rd (P.lane i) F.LANE_NBR_INFO_VALID = 1 := by
  have hturn : ∀ f : Fld, f.off ≠ 0x04C ∨ f.lsb ≠ 21 → (s.each 4 fun t k => t.wr (P.lane k) F.LANE_LANE_STAT_REVERSED 1).rd (P.lane i) f = s.rd (P.lane i) f :=
    fun f hf => foldl_part (fun t => t.rd (P.lane i) f) (fun t k => rd_wr_apart _ _ (by
      rcases hf with hf | hf <;> simp [keyApart, F.LANE_LANE_STAT_REVERSED, hf])) _ _
  have hups : ∀ (l : List Nat) (t : State), (laneState t i = LS.up ∧ t.rd (P.lane i) F.LANE_NBR_INFO_VALID = 1) →
      laneState (l.foldl (fun t k => if (t.lane k).over200 then t else goUp t k) t) i = LS.up ∧
        (l.foldl (fun t k => if (t.lane k).over200 then t else goUp t k) t).rd (P.lane i) F.LANE_NBR_INFO_VALID = 1 := fun l => by
    induction l with
    | nil => exact fun t ht => ht
    | cons k r ih =>
      intro t ht
      refine ih _ ?_
      dsimp only
      split
      · exact ht
      · exact ⟨laneState_goUp_up k ht.1, (rd_goUp_nbr t k i).trans ht.2⟩
  unfold judgeReversal
  dsimp only
  split
  · exact hups _ _ ⟨(hturn _ (.inr (by decide))).trans h.1, (hturn _ (.inl (by decide))).trans h.2⟩
  · exact h

/-! ## The count of CRC errors of a window (R118) -/

/-- Each lane's count of the CRC window stays. -/
structure WinStay (s t : State) : Prop where
  win : ∀ i, (t.lane i).crcWin = (s.lane i).crcWin

theorem WinStay.refl (s : State) : WinStay s s := ⟨fun _ => rfl⟩

theorem WinStay.trans {s t u : State} (h : WinStay s t) (k : WinStay t u) : WinStay s u := ⟨fun i => (k.win i).trans (h.win i)⟩

theorem WinStay.of_lanes {s t : State} (h : t.lanes = s.lanes) : WinStay s t := ⟨fun i => by unfold State.lane; rw [h]⟩

theorem WinStay.ite {s t u : State} {c : Prop} [Decidable c] (h : WinStay s t) (k : WinStay s u) : WinStay s (if c then t else u) := by
  split
  · exact h
  · exact k

theorem lane_setLane_same (s : State) (i : Nat) (x : LaneSt) : (s.setLane i x).lane i = x := Tbl.at_put_same ..

theorem WinStay.setLane {s t : State} (h : WinStay s t) {i : Nat} {x : LaneSt} (hx : x.crcWin = (t.lane i).crcWin) : WinStay s (t.setLane i x) := by
  refine h.trans ⟨fun j => ?_⟩
  by_cases hj : j = i
  · rw [hj, lane_setLane_same, hx]
  · exact congrArg LaneSt.crcWin (Tbl.at_put_ne _ _ hj _)

theorem setLaneState_win (s : State) (i st : Nat) : WinStay s (setLaneState s i st) := by
  have hset : WinStay s ((s.wr (P.lane i) F.LANE_LANE_STAT_STATE st).wr (P.lane i) F.HDR_PAGE_STAT_STOPPED (b2n (st == LS.off))) := .of_lanes rfl
  unfold setLaneState
  exact .ite (hset.setLane rfl) hset

theorem noteTun_win (s : State) (i id : Nat) (f : Frame) (p t r e : Bool) : WinStay s (noteTun s i id f p t r e) := by
  unfold noteTun State.when
  exact .ite (WinStay.setLane (x := { s.lane i with tun := some { id := id, frame := f, pend := p, took := t, refused := r, ended := e } }) (.refl s) rfl) (.refl s)

theorem acceptHeld_win (s : State) (g : Nat) (h : HeldFrame) : WinStay s (acceptHeld s g h) := by
  have hpass : WinStay s (passed (admitRx (newId (haloAccept s g)).2 h.lane (newId (haloAccept s g)).1 h.frame (crosses s h.lane h.frame) true).2 h.lane
      (newId (haloAccept s g)).1 h.frame (crosses s h.lane h.frame)
      (admitRx (newId (haloAccept s g)).2 h.lane (newId (haloAccept s g)).1 h.frame (crosses s h.lane h.frame) true).1).2 :=
    .of_lanes ((((passed_keeps ..).lanes rfl).trans ((admitRx_keeps ..).lanes rfl)).trans rfl)
  unfold acceptHeld
  dsimp only
  split
  · refine WinStay.trans ?_ (noteTun_win ..)
    exact hpass.trans (.of_lanes ((setHaloEnt_keeps ..).lanes rfl))
  · exact hpass.trans (.of_lanes ((haloSettle_keeps ..).lanes rfl))

theorem settleHeld_win (s : State) (src g q : Nat) (ok : Bool) : WinStay s (settleHeld s src g q ok) := by
  have hdup : ∀ (t : State) i, WinStay t (haloDup t i g) := fun t i => .of_lanes ((haloDup_keeps ..).lanes rfl)
  have hfold : ∀ (l : List HeldFrame) (t : State), WinStay t (l.foldl (fun u h => haloDup u h.lane g) t) := fun l => by
    induction l with
    | nil => exact .refl
    | cons h r ih => exact fun t => (hdup t h.lane).trans (ih _)
  unfold settleHeld
  extract_lets s1 e mine s2
  have h2 : WinStay s s2 := .of_lanes (((setHaloEnt_keeps ..).lanes rfl).trans ((haloSettle_keeps ..).lanes rfl))
  clear_value s2 mine
  refine .ite (h2.trans (hfold ..)) ?_
  cases mine with
  | nil => exact h2
  | cons h r => exact (h2.trans (acceptHeld_win ..)).trans (hfold ..)

theorem endHeld_win (s : State) (i : Nat) (f : Frame) (ok : Bool) : WinStay s (endHeld s i f ok) := by
  have hset : ∀ (t : State) a g e, WinStay t (setHaloEnt t a g e) := fun t a g e => .of_lanes ((setHaloEnt_keeps ..).lanes rfl)
  unfold endHeld
  extract_lets g e mine s1
  refine .ite (hset ..) (.ite (hset ..) ?_)
  have h1 : WinStay s s1 := hset ..
  have h2 : WinStay s (haloDecide s1 f.src g f.seq s1.now).2 := h1.trans (.of_lanes ((haloDecide_keeps ..).lanes rfl))
  generalize haloDecide s1 f.src g f.seq s1.now = d at h2 ⊢
  obtain ⟨v, t⟩ := d
  have ht : WinStay s t := h2
  cases v with
  | accept => exact ht.trans (acceptHeld_win ..)
  | stale => exact ht.trans (.of_lanes ((raise_keeps (t.inc P.halo F.HALO_CNT_STALE_N) ..).lanes rfl))
  | duplicate => exact ht.trans (.of_lanes ((haloDup_keeps ..).lanes rfl))
  | hold => exact ht.trans (.of_lanes ((haloDup_keeps ..).lanes rfl))

theorem stompStored_win (s : State) (id : Nat) : WinStay s (stompStored s id) := .of_lanes ((stompStored_keeps ..).lanes rfl)

theorem rxLost_win (s : State) (i : Nat) (x : RxFrame) : WinStay s (rxLost s i x) := by
  have hstomp := stompStored_win s x.id
  have htun : ∀ t : State, WinStay s t → ∀ y : TunRx, WinStay s (if y.id = x.id then t.setLane i { t.lane i with tun := none } else t) := fun t h y =>
    .ite (WinStay.setLane (x := { t.lane i with tun := none }) h rfl) h
  unfold rxLost
  extract_lets s1 y s2
  have h2 : WinStay s s2 := by
    unfold s2
    split
    · exact htun _ hstomp _
    · exact hstomp
  exact .ite (.refl s) (.ite (endHeld_win ..) (.ite (h2.trans (settleHeld_win ..)) h2))

theorem tapEnds_win (s : State) (i : Nat) (e : FrameEnd) : WinStay s (tapEnds s i e) := by
  unfold tapEnds
  split
  · exact .refl s
  · extract_lets s1 y
    have h1 : WinStay s s1 := .ite (.of_lanes rfl) (stompStored_win ..)
    exact h1.setLane (x := { s1.lane i with tap := none }) rfl

theorem rxCut_win (s : State) (i : Nat) : WinStay s (rxCut s i) := by
  have htap := tapEnds_win s i .lenErr
  unfold rxCut
  extract_lets s1
  have h1 : WinStay s s1 := htap
  clear_value s1
  split
  · exact h1
  · exact (h1.setLane (x := { s1.lane i with rx := none }) rfl).trans (rxLost_win ..)

theorem laneExit_win (s : State) (i st : Nat) : WinStay s (laneExit s i st) := by
  unfold laneExit
  extract_lets downs l t1 t2 most hold t3 t4
  have h1 : WinStay s t1 := (WinStay.refl s).setLane (x := { s.lane i with downs := downs }) rfl
  have h2 : WinStay s t2 := h1.trans (.of_lanes ((raise_keeps (t1.inc (P.lane i) F.LANE_DOWN_COUNT_N) (P.lane i) 1).lanes rfl))
  have h3 : WinStay s t3 := h2.trans (setLaneState_win ..)
  have h4 : WinStay s t4 := .ite (h3.trans (.of_lanes rfl)) h3
  exact (h4.trans (rxCut_win ..)).trans (.of_lanes ((flushPort_keeps ..).lanes rfl))

theorem laneExit_rd (s : State) (i st : Nat) {f : Fld} (hf : 0x050 ≤ f.off ∧ f.off < 0x080 ∨ f.off = 0x04C ∧ f.lsb = 22) :
    (laneExit s i st).rd (P.lane i) f = s.rd (P.lane i) f := by
  have hoff : f.off ≠ 0x010 ∧ f.off ≠ 0x09C ∧ f.off ≠ 0x0AC := by omega
  unfold laneExit
  extract_lets downs l t1 t2 most hold t3 t4
  have h2 : t2.rd (P.lane i) f = s.rd (P.lane i) f := (laneDownCount t1 i).2 f hoff (by simp [F.LANE_DOWN_COUNT_N]; omega)
  have h3 : t3.rd (P.lane i) f = s.rd (P.lane i) f := by
    refine (rd_setLaneState _ _ _ ?_ ?_).trans h2
    · simp [F.LANE_LANE_STAT_STATE]
      omega
    · simp [F.HDR_PAGE_STAT_STOPPED]
      omega
  have h4 : t4.rd (P.lane i) f = s.rd (P.lane i) f := by
    unfold t4
    split
    · exact (rd_wr_beside _ _ _ (by simp [F.LANE_LANE_STAT_CAUSE]; omega)).trans h3
    · exact h3
  exact (((rxCut_moved t4 i).trans (flushPort_moved ..)).lane i hoff).trans h4

/-- What a lane that goes down leaves of its registers, its events and its window. -/
theorem laneGoDown_leaves (s : State) (i c : Nat) :
    EvStay s (laneGoDown s i c) ∧ WinStay s (laneGoDown s i c) ∧
      ∀ f : Fld, 0x050 ≤ f.off ∧ f.off < 0x080 ∨ f.off = 0x04C ∧ f.lsb = 22 → (laneGoDown s i c).rd (P.lane i) f = s.rd (P.lane i) f := by
  have hcause : EvStay s (laneCause s i c) := (EvStay.refl s).wr _ _ _ (by decide)
  unfold laneGoDown leaveUp
  split
  · refine ⟨(hcause.trans (laneExit_evStay ..)).trans (linkNotice_evStay ..), ?_, fun f hf => ?_⟩
    · exact ((WinStay.of_lanes (s := s) (t := laneCause s i c) rfl).trans (laneExit_win ..)).trans (.of_lanes ((linkNotice_keeps ..).lanes rfl))
    · refine ((linkNotice_keeps ..).rd_body group_lane (by omega) rfl).trans ((laneExit_rd _ _ _ hf).trans (rd_wr_beside _ _ _ ?_))
      simp [F.LANE_LANE_STAT_CAUSE]
      omega
  · exact ⟨.refl s, .refl s, fun _ _ => rfl⟩

/-! ## The windows -/

theorem toSigned_ofSigned {x : Int} (h : -32768 ≤ x ∧ x < 32768) : toSigned 16 (ofSigned 16 x % 2 ^ 16) = x := by
  unfold toSigned ofSigned bitOf
  simp only [beq_iff_eq]
  split
  · omega
  · omega

theorem ppmWindow_shows (s : State) (i : Nat) {x : Int} (h : -32768 ≤ x ∧ x < 32768) (hl : lanesOn s = true) (hi : i < 4) :
    ∃ t, exec (.ppmWindow i x) s = .next t ∧ toSigned 16 (t.rd (P.lane i) F.LANE_LANE_PPM_PPM) = x ∧
      (15000 < x.natAbs → t.rd (P.lane i) F.LANE_LANE_STAT_CLK_RANGE = 1) := by
  refine ⟨_, congrArg Host.Outcome.next (if_pos (by simp [hl, hi])), ?_⟩
  extract_lets a y s1 s2 under many s3 z s4
  have h1 : s1.rd (P.lane i) F.LANE_LANE_PPM_PPM = ofSigned 16 x % 2 ^ 16 := rd_wr_same ..
  have h2 : s2.rd (P.lane i) F.LANE_LANE_PPM_PPM = ofSigned 16 x % 2 ^ 16 ∧ (15000 < a → s2.rd (P.lane i) F.LANE_LANE_STAT_CLK_RANGE = 1) := by
    have hraise : ∀ f : Fld, 0x040 ≤ f.off → (raise (s1.wr (P.lane i) F.LANE_LANE_STAT_CLK_RANGE 1) (P.lane i) 2).rd (P.lane i) f =
        (s1.wr (P.lane i) F.LANE_LANE_STAT_CLK_RANGE 1).rd (P.lane i) f := fun f hf => (raise_keeps ..).rd_body group_lane hf rfl
    unfold s2
    split
    · exact ⟨(hraise _ (by decide)).trans ((rd_wr_beside _ _ _ rfl).trans h1), fun _ => (hraise _ (by decide)).trans (rd_wr_same ..)⟩
    next hno => exact ⟨h1, fun h => absurd h hno⟩
  have h3 : s3.rd (P.lane i) F.LANE_LANE_PPM_PPM = ofSigned 16 x % 2 ^ 16 ∧ (15000 < a → s3.rd (P.lane i) F.LANE_LANE_STAT_CLK_RANGE = 1) := by
    unfold s3
    split
    next hu =>
      refine ⟨(rd_wr_beside _ _ _ rfl).trans h2.1, fun ha => ?_⟩
      have : under = 0 := if_neg (by omega)
      omega
    · exact h2
  have h4 : s4.rd (P.lane i) F.LANE_LANE_PPM_PPM = ofSigned 16 x % 2 ^ 16 ∧ (15000 < a → s4.rd (P.lane i) F.LANE_LANE_STAT_CLK_RANGE = 1) := h3
  clear_value s4
  split
  · obtain ⟨-, -, hrd⟩ := laneGoDown_leaves s4 i LC.clkDown
    rw [hrd _ (.inl (by decide)), hrd F.LANE_LANE_STAT_CLK_RANGE (.inr (by decide)), h4.1]
    exact ⟨toSigned_ofSigned h, h4.2⟩
  · exact ⟨(congrArg _ h4.1).trans (toSigned_ofSigned h), h4.2⟩

theorem crcWindow_shows (s : State) (i : Nat) (hl : lanesOn s = true) (hi : i < 4) :
    ∃ t, exec (.crcWindow i) s = .next t ∧ (t.lane i).crcWin = 0 ∧
      (max 1 (s.rd (P.lane i) F.LANE_ERR_CFG_CRC_LIMIT) < (s.lane i).crcWin → t.bit (P.lane i) F.HDR_EV_STAT_EV 4 = true) := by
  refine ⟨_, congrArg Host.Outcome.next (if_pos (by simp [hl, hi])), ?_⟩
  extract_lets n y s1 s2
  have h1 : (s1.lane i).crcWin = 0 := congrArg LaneSt.crcWin (lane_setLane_same ..)
  have h2 : (s2.lane i).crcWin = 0 := ((WinStay.of_lanes ((raise_keeps s1 (P.lane i) 4).lanes rfl)).win i).trans h1
  have hev : s2.bit (P.lane i) F.HDR_EV_STAT_EV 4 = true := bit_raise _ _ _ (by decide)
  split
  · split
    · obtain ⟨hstay, hwin, -⟩ := laneGoDown_leaves s2 i LC.errDown
      exact ⟨(hwin.win i).trans h2, fun _ => hstay.keep _ _ (by decide) hev⟩
    · exact ⟨h2, fun _ => hev⟩
  next hno => exact ⟨h1, fun h => absurd h hno⟩

/-! ## HELLO -/

/-- Of a lane's record the count of a frame changes supHere alone. -/
theorem lane_rxCount (s : State) (i : Nat) (f : Frame) (j : Nat) : ((rxCount s i f).lane j).over200 = (s.lane j).over200 := by
  have hsup : ∀ t : State, ((noteSup t f).lane j).over200 = (t.lane j).over200 := fun t => by
    unfold noteSup
    split
    · refine foldl_part (fun u => (u.lane j).over200) (fun u k => ?_) _ _
      dsimp only
      split
      · by_cases hk : j = k
        · rw [hk, lane_setLane_same]
        · exact congrArg LaneSt.over200 (Tbl.at_put_ne _ _ hk _)
      · rfl
    · rfl
  have htap : ∀ t : State, ((tapAdmit t i f true).2).lane j = t.lane j := fun t => congrArg (fun l : Tbl LaneSt => l.at {} j) ((tapAdmit_keeps ..).lanes rfl)
  exact (congrArg LaneSt.over200 (htap _)).trans (hsup _)

theorem rd_rxCount (s : State) (i : Nat) (g : Frame) (j : Nat) {f : Fld} (h : 0x040 ≤ f.off) (hf : f.off ≠ 0x080) :
    (rxCount s i g).rd (P.lane j) f = s.rd (P.lane j) f :=
  ((tapAdmit_keeps ..).rd_body group_lane h rfl).trans (((noteSup_keeps ..).rd_body group_lane h rfl).trans
    (rd_inc_apart _ _ (by simp [keyApart, F.LANE_RX_FRAMES_N, hf])))

theorem helloFault_congr {s t : State} (hotp : t.otp = s.otp) (hgw : t.rd P.gw F.GATEWAY_GW_CFG_RING_K = s.rd P.gw F.GATEWAY_GW_CFG_RING_K)
    (hhalo : t.rd P.halo F.HALO_RING_CFG_RING_NUM = s.rd P.halo F.HALO_RING_CFG_RING_NUM) (hrev : t.reversed = s.reversed) (i u role ring : Nat) :
    helloFault t i u role ring = helloFault s i u role ring := by
  unfold helloFault laneRing laneRole lanePort
  rw [hotp, hgw, hhalo, hrev]

/-- A HELLO in HELLO that no check faults takes the lane UP. -/
theorem onHello_up {s : State} {i : Nat} {f : Frame} (hst : laneState s i = LS.hello) (hover : (s.lane i).over200 = false)
    (hbit : bitOf (beAt f.pay 8 4) 30 = true) (hok : helloFault s i (beAt f.pay 0 8) (bitsOf (beAt f.pay 8 4) 26 2) (bitsOf (beAt f.pay 8 4) 24 2) = none) :
    laneState (onHello s i f) i = LS.up ∧ (onHello s i f).rd (P.lane i) F.LANE_NBR_INFO_VALID = 1 := by
  unfold onHello
  extract_lets uid w x av role p s1 s2 s3 size y s4 st s5 s6
  have hrd : ∀ j (g : Fld), g.off < 0x054 → s3.rd (P.lane j) g = s.rd (P.lane j) g := fun j g hg => by
    have hapart : ∀ k : Fld, 0x054 ≤ k.off → keyApart (P.lane j) g p k = true := fun k hk => by
      have : g.off ≠ k.off := by omega
      simp [keyApart, this]
    exact (rd_wr_apart _ _ (hapart F.LANE_NBR_UID_HI_UID (by decide))).trans ((rd_wr_apart _ _ (hapart F.LANE_NBR_UID_LO_UID (by decide))).trans
      ((rd_wr_apart _ _ (hapart F.LANE_NBR_INFO_ADDR (by decide))).trans ((rd_wr_apart _ _ (hapart F.LANE_NBR_INFO_ADDR_VALID (by decide))).trans
      ((rd_wr_apart _ _ (hapart F.LANE_NBR_INFO_LANE (by decide))).trans (rd_wr_apart _ _ (hapart F.LANE_NBR_INFO_VALID (by decide)))))))
  have hother : ∀ q g, q ≠ p → s3.rd q g = s.rd q g := fun q g hq => by
    have hapart : ∀ k : Fld, keyApart q g p k = true := fun k => by simp [keyApart, hq]
    exact (rd_wr_apart _ _ (hapart F.LANE_NBR_UID_HI_UID)).trans ((rd_wr_apart _ _ (hapart F.LANE_NBR_UID_LO_UID)).trans
      ((rd_wr_apart _ _ (hapart F.LANE_NBR_INFO_ADDR)).trans ((rd_wr_apart _ _ (hapart F.LANE_NBR_INFO_ADDR_VALID)).trans
      ((rd_wr_apart _ _ (hapart F.LANE_NBR_INFO_LANE)).trans (rd_wr_apart _ _ (hapart F.LANE_NBR_INFO_VALID))))))
  have hval : s3.rd p F.LANE_NBR_INFO_VALID = 1 :=
    (rd_wr_beside _ _ _ rfl).trans ((rd_wr_beside _ _ _ rfl).trans ((rd_wr_beside _ _ _ rfl).trans ((rd_wr_beside _ _ _ rfl).trans
      ((rd_wr_beside _ _ _ rfl).trans (rd_wr_same ..)))))
  have h4 : laneState s4 i = LS.hello ∧ s4.rd p F.LANE_NBR_INFO_VALID = 1 ∧ (s4.lane i).over200 = false :=
    ⟨(hrd i _ (by decide)).trans hst, hval, (congrArg LaneSt.over200 (lane_setLane_same ..)).trans hover⟩
  have hfault : helloFault s4 i uid role (bitsOf w 24 2) = none := by
    refine (helloFault_congr (s := s) (t := s4) rfl (hother _ _ ?_) (hother _ _ ?_) (congrArg (· != 0) (hrd 0 F.LANE_LANE_STAT_REVERSED (by decide))) ..).trans hok
    all_goals simp [p, P.lane, P.gw, P.halo]; omega
  obtain ⟨hstate, hvalid, hover4⟩ := h4
  have h5 : laneState s5 i = LS.up ∧ s5.rd p F.LANE_NBR_INFO_VALID = 1 := by
    unfold s5
    rw [hfault]
    dsimp only
    rw [if_pos (by simp [hover4, st, hstate, w, hbit])]
    exact ⟨laneState_goUp .., (rd_goUp_nbr ..).trans hvalid⟩
  have h6 : s6 = s5 := if_neg fun h => by
    have : LS.hello = LS.up := hstate.symm.trans h.1
    exact absurd this (by decide)
  rw [h6]
  obtain ⟨h7, h8⟩ := judgeReversal_up h5
  exact ⟨((takeAddress_keeps ..).rd_body group_lane (by decide) rfl).trans h7, ((takeAddress_keeps ..).rd_body group_lane (by decide) rfl).trans h8⟩

/-- A loop over the lanes of which the first alone does something. -/
theorem each_four {s t : State} {g : State → Nat → State} (h0 : g s 0 = t) (h1 : g t 1 = t) (h2 : g t 2 = t) (h3 : g t 3 = t) : s.each 4 g = t := by
  have : s.each 4 g = g (g (g (g s 0) 1) 2) 3 := rfl
  rw [this, h0, h1, h2, h3]

/-- Settles O27. -/
theorem laneHellosAndWindows : Obligations.LaneHellosAndWindows := by
  refine ⟨fun s i hl hi hst => ?send, fun s i f hl hi hst htap hf hover hbit hok => ?hello, fun s i x hl hi hx => ppmWindow_shows s i hx hl hi,
    fun s i hl hi => crcWindow_shows s i hl hi, fun s x ha hins hrole' hrev hup hoff hdown hadm => ?nbrSend,
    fun s i f ha hi hring hup hf => ?nbr, fun s i ha hi hmiss => ?missed⟩
  case send =>
    refine ⟨_, congrArg Host.Outcome.next (if_pos (by simpa [hl, hi] using hst)), rfl, ?_⟩
    exact rd_inc_same ..
  case hello =>
    obtain ⟨htyp, hsub⟩ := hf
    refine ⟨_, congrArg Host.Outcome.next (if_pos (by simp [hl, hi, hst, htap, htyp, hsub])), ?_⟩
    refine onHello_up ((rd_rxCount _ _ _ _ (by decide) (by decide)).trans hst) ((lane_rxCount ..).trans hover) hbit ?_
    rw [helloFault_congr (s := s) ((rxCount_keeps ..).otp rfl) ((rxCount_keeps ..).rd_body group_gw (by decide) rfl)
      ((rxCount_keeps ..).rd_body group_halo (by decide) rfl) (congrArg (· != 0) (rd_rxCount _ _ _ _ (by decide) (by decide))), hok]
  case nbrSend =>
    obtain ⟨hup0, hup1⟩ := hup
    refine ⟨_, congrArg Host.Outcome.next (if_pos (by simp [ha, hins])), ?_⟩
    have hst : s.st ≠ NS.eclipse ∧ (s.working = true ∨ s.st = NS.join) := by
      simp only [State.mayInsert, State.isIn, List.contains_cons, List.contains_nil, Bool.or_false, Bool.or_eq_true, beq_iff_eq] at hins
      rcases hins with h | h | h | h | h <;> simp [h, State.working, State.isIn] <;> decide
    have hmay : ∀ src tick, mayOriginate (s.atTime x) { neighbourFrame (s.atTime x) 0 with src := src, tick := tick } = true := fun src tick => by
      unfold mayOriginate
      rcases hst.2 with h | h
      · exact if_pos h
      · by_cases hw : s.working = true
        · exact if_pos hw
        · refine (if_neg hw).trans ((if_pos h).trans ?_)
          simp [neighbourFrame]
    have heast : EastRoom (s.atTime x) := ⟨hrev, hup0, hup1, hoff, hdown, hadm⟩
    have hlen := heast.originateOn (port := 13) (f := neighbourFrame (s.atTime x) 0) (re := 1) (rw := 0) rfl (by simp [ringCells, Frame.plen, neighbourFrame, beBytes, leBytes, ceilDiv]) (by decide) hst.1 hmay (.inl (by simp [haloChecked, neighbourFrame]))
    have hrole : laneRole (s.atTime x) 0 = 0 := by
      have : (s.atTime x).reversed = false := hrev
      simp [laneRole, lanePort, this]
    have hout := originateOn_offered (s.atTime x) false 13 (neighbourFrame (s.atTime x) 0) 1 0 none
    have hfirst : (ringLane (s.atTime x) 0 && laneUp (s.atTime x) 0) = true := by
      rw [show laneUp (s.atTime x) 0 = true from hup0]
      rfl
    have hwest : laneUp (originateOn (s.atTime x) false 13 (neighbourFrame (s.atTime x) 0) 1 0) 1 = false := by
      unfold laneUp
      rw [hout.moved.lane 1 (by decide)]
      exact hup1
    have hnot : (originateOn (s.atTime x) false 13 (neighbourFrame (s.atTime x) 0) 1 0).role ≠ 3 := by
      unfold State.role
      rw [hout.moved.regs.rd P.node F.NODE_NODE_STATE_ROLE (by decide)]
      exact hrole'
    refine (congrArg (fun t => (swQueue t (outQueue 0 6)).length) (each_four (t := originateOn (s.atTime x) false 13 (neighbourFrame (s.atTime x) 0) 1 0)
      ?_ (if_neg (by simp [hwest])) (if_neg (by simp [ringLane, hnot])) (if_neg (by simp [ringLane, hnot])))).trans hlen
    refine (if_pos hfirst).trans ?_
    rw [hrole]
    rfl
  case nbr =>
    obtain ⟨htyp, hsub⟩ := hf
    refine ⟨_, congrArg Host.Outcome.next (if_pos (by simp [ha, hi, hring, hup, htyp, hsub])), ?_⟩
    generalize rxCount s i f = v
    unfold onNeighbour
    extract_lets w av p st s1 s2 y s3 s4 s5
    have h2 : s2.rd (P.lane i) F.LANE_NBR_INFO_STATE = bitsOf (beAt f.pay 0 4) 28 4 := by
      refine (rd_wr_beside _ _ _ rfl).trans ((rd_wr_beside _ _ _ rfl).trans ((rd_wr_same ..).trans (Nat.mod_eq_of_lt ?_)))
      exact Nat.mod_lt _ (by decide)
    have h3 : s3.rd (P.lane i) F.LANE_NBR_INFO_STATE = bitsOf (beAt f.pay 0 4) 28 4 ∧ (s3.lane i).nbrHere = true :=
      ⟨h2, congrArg LaneSt.nbrHere (lane_setLane_same ..)⟩
    have h4 : s4.rd (P.lane i) F.LANE_NBR_INFO_STATE = bitsOf (beAt f.pay 0 4) 28 4 ∧ (s4.lane i).nbrHere = true :=
      ⟨(rd_wr_beside _ _ _ rfl).trans h3.1, h3.2⟩
    have hnotice : ∀ (t : State) a, (changeNotice t 2 a 0).rd (P.lane i) F.LANE_NBR_INFO_STATE = t.rd (P.lane i) F.LANE_NBR_INFO_STATE ∧
        (changeNotice t 2 a 0).lane i = t.lane i := fun t a => ⟨(changeNotice_keeps ..).rd_body group_lane (by decide) rfl,
      congrArg (fun l : Tbl LaneSt => l.at {} i) ((changeNotice_keeps ..).lanes rfl)⟩
    have h5 : s5.rd (P.lane i) F.LANE_NBR_INFO_STATE = bitsOf (beAt f.pay 0 4) 28 4 ∧ (s5.lane i).nbrHere = true := by
      unfold s5
      split
      · split
        · exact ⟨(hnotice ..).1.trans h4.1, (congrArg LaneSt.nbrHere (hnotice ..).2).trans h4.2⟩
        · exact h4
      · exact h3
    exact ⟨((takeAddress_keeps ..).rd_body group_lane (by decide) rfl).trans h5.1,
      (congrArg (fun l : Tbl LaneSt => (l.at {} i).nbrHere) ((takeAddress_keeps ..).lanes rfl)).trans h5.2⟩
  case missed =>
    refine ⟨_, congrArg Host.Outcome.next (if_pos (by simp [ha, hi, hmiss])), ?_⟩
    have hraise : (raise (s.wr (P.lane i) F.LANE_LANE_STAT_NBR_PRESENT 0) (P.lane i) 5).rd (P.lane i) F.LANE_LANE_STAT_NBR_PRESENT = 0 :=
      ((raise_keeps ..).rd_body group_lane (by decide) rfl).trans (rd_wr_same ..)
    unfold neighbourMissed
    extract_lets was a s1
    split
    · exact ((changeNotice_keeps ..).rd_body group_lane (by decide) rfl).trans hraise
    · exact hraise

end Sys2Proof.Machine
end

section
/-!
PROOF. The target: requests in the order of their stream, and what it answers to them.
-/

namespace Sys2Proof.Machine

/-! ## The request that is next in order -/

theorem alGet_mem {κ α : Type} [DecidableEq κ] {t : List (κ × α)} {k : κ} {d v : α} (h : alGet t k d = v) (hv : v ≠ d) : (k, v) ∈ t := by
  induction t with
  | nil => exact absurd h.symm hv
  | cons e r ih =>
    rw [alGet] at h
    split at h
    · next he => exact List.mem_cons.mpr (.inl (by rw [← h, ← he]))
    · exact List.mem_cons_of_mem _ (ih h)

/-- A slot that holds nothing has nothing to execute. -/
theorem inDrain_idle {s : State} {k : Nat} (h : ∀ x, streamAt s k = some x → x.held = []) (n : Nat) : inDrain n s k = s := by
  cases n with
  | zero => rfl
  | succ n =>
    unfold inDrain
    split
    · rfl
    · next x hx => rw [h x hx]; rfl

theorem inRetry_idle {s : State} (h : ∀ k x, streamAt s k = some x → x.held = []) : inRetry s = s := by
  unfold inRetry State.each
  induction List.range 32 with
  | nil => rfl
  | cons k r ih => rw [List.foldl_cons, inDrain_idle (h k)]; exact ih

@[simp] theorem streamAt_setStream_same (s : State) (k : Nat) (x : Option StreamSlot) : streamAt (setStream s k x) k = x := Tbl.at_put_same ..

/-- The request's identity, order and operation, which do not depend on what its read meets. -/
theorem nextRequest_iff {s : State} {f : Frame} {op k : Nat} (h : nextRequest s f op k = true) (e : Bool) :
    ∃ x, streamAt s k = some x ∧ x.held = [] ∧ inRetry s = s ∧ (s.alive = true ∧ s.mayInsert = true) ∧
      (if op = 0xE then f.typ == 8 && f.cls == 4 else f.typ == 3 && bitsOf f.w4 28 4 == op) = true ∧ f.mc = false ∧ isOwn s f.dst = true ∧
      streamOf s (inReq f e) = some k ∧ x.next = some (inReq f e).ord ∧ cplRoom s (inReq f e) = true ∧
      ((inReq f e).tgtInc = none ∨ (inReq f e).tgtInc = some s.inc16) := by
  simp only [nextRequest, Bool.and_eq_true, Bool.not_eq_true', Bool.or_eq_true, beq_iff_eq, Option.isNone_iff_eq_none] at h
  obtain ⟨⟨⟨⟨⟨⟨⟨⟨⟨halive, hins⟩, hop⟩, hmc⟩, hown⟩, hheld⟩, hslot⟩, hnext⟩, hroom⟩, hinc⟩ := h
  have hnil : ∀ j y, streamAt s j = some y → y.held = [] := fun j y hy => by
    have := List.all_eq_true.mp hheld _ (alGet_mem hy (by simp))
    simpa using this
  obtain ⟨x, hx, hxn⟩ := Option.bind_eq_some_iff.mp hnext
  exact ⟨x, hx, hnil k x hx, inRetry_idle hnil, ⟨halive, hins⟩, hop, hmc, hown, hslot, hxn, hroom, hinc⟩

/-- The slot of a stream when request `r` reaches it, the next in order. -/
def touched (s : State) (x : StreamSlot) (r : InReq) : StreamSlot := { x with touch := s.ticks, inc := srcInc s r.src }

/-- A request that is next in order and that no field-die link holds is executed at once. -/
theorem inFrame_next {s : State} {f : Frame} {op k : Nat} {e : Bool} (h : nextRequest s f op k = true) (hb : inBlocked s (inReq f e) = false) :
    ∃ x, x.held = [] ∧ ((inReq f e).tgtInc = none ∨ (inReq f e).tgtInc = some s.inc16) ∧ (s.alive = true) ∧
      inFrame s op f e = inDrain 256 (inRun (setStream s k (some x)) k x (inReq f e)) k := by
  obtain ⟨x, hx, hheld, hretry, ⟨halive, hins⟩, hop, hmc, hown, hslot, hnext, hroom, hinc⟩ := nextRequest_iff h e
  refine ⟨touched s x (inReq f e), hheld, hinc, halive, ?_⟩
  have hn : (if x.next.isNone ∧ (inReq f e).isNew = true then some (inReq f e).ord else x.next) = some (inReq f e).ord := by
    rw [hnext]; rfl
  unfold inFrame
  dsimp only
  rw [if_pos (by simp [halive, hins, hop, hmc, hown]), hretry]
  unfold inbound
  rw [hslot]
  dsimp only
  rw [hx]
  dsimp only
  unfold inOrder
  dsimp only
  rw [hn]
  dsimp only
  have hd : ((inReq f e).ord + 256 - (inReq f e).ord) % 256 = 0 := by omega
  have hb' : ∀ y, inBlocked (setStream s k y) (inReq f e) = false := fun _ => hb
  have hr' : ∀ y, cplRoom (setStream s k y) (inReq f e) = true := fun _ => hroom
  rw [if_pos hd, if_neg (by simp [hb', hr'])]
  unfold touched
  rw [hnext]

/-! ## The answer -/

/-- Registers that an answer changes: those that frames in the switch do, and the count of requests served. -/
def cplKey (k : Key) : Bool := swKey k || (k.page == P.txn && k.off == 0x10C)

/-- A completion has been sent: events stand, and registers of other blocks and the records of items are as they were. -/
structure Completed (s t : State) : Prop where
  ev : EvStay s t
  regs : RegsKeep cplKey s t
  drift : t.drift = s.drift

theorem Completed.of_moved {s t : State} (h : Moved s t) (hd : t.drift = s.drift) : Completed s t :=
  ⟨h.ev, h.regs.mono fun k hk => (Bool.or_eq_false_iff.mp hk).1, hd⟩

theorem Completed.trans {s t u : State} (h : Completed s t) (k : Completed t u) : Completed s u :=
  ⟨h.ev.trans k.ev, h.regs.trans k.regs, k.drift.trans h.drift⟩

theorem cplSend_completed (s : State) (r : InReq) (st : Nat) (data : List Nat) : Completed s (cplSend s r st data) := by
  refine .of_moved ?_ ((cplSend_keeps ..).drift rfl)
  unfold cplSend
  extract_lets o own held sw w l
  have hw : Moved s w.2.2 := Moved.trans (t := { s with sw := { s.sw with offers := held.filter own } }) (.of_regs rfl) (offerTry_offered _ o).moved
  exact hw.trans (.of_regs rfl)

theorem streamAt_of_txn {s t : State} (h : t.txn = s.txn) (k : Nat) : streamAt t k = streamAt s k :=
  congrArg (fun x : TxnSt => x.streams.at none k) h

/-- What a stream slot holds once request `r` has been answered with STATUS `st` and `data` (R218, R220). -/
def answeredSlot (x : StreamSlot) (r : InReq) (st : Nat) (data : List Nat) : StreamSlot :=
  { x with next := some ((r.ord + 1) % 256), held := [], cache := ((r.ord, st, data.take 8) :: x.cache).take 64 }

/-- A request that is not BUSY is answered, and its answer heads the completion cache. -/
theorem inRun_answers {s : State} {k : Nat} {x : StreamSlot} {r : InReq} (hx : x.held = []) (hb : (inExec s r).1 ≠ TS.busy) (n : Nat) :
    streamAt (inDrain n (inRun s k x r) k) k = some (answeredSlot x r (inExec s r).1 (inExec s r).2.1) ∧
      Completed (inExec s r).2.2 (inDrain n (inRun s k x r) k) := by
  have hat : streamAt (inRun s k x r) k = some (answeredSlot x r (inExec s r).1 (inExec s r).2.1) := by
    unfold inRun
    dsimp only
    rw [if_neg hb, streamAt_of_txn ((cplSend_keeps ..).txn rfl), streamAt_setStream_same, hx]
    rfl
  rw [inDrain_idle (fun y hy => by rw [hat] at hy; cases hy; rfl)]
  refine ⟨hat, ?_⟩
  unfold inRun
  dsimp only
  rw [if_neg hb]
  refine Completed.trans ?_ (cplSend_completed ..)
  have hinc : ∀ u : State, Completed u (u.inc P.txn F.TXN_CNT_INBOUND_N) := fun u =>
    ⟨(EvStay.refl u).wr _ _ _ (by decide), (RegsKeep.refl _ u).inc 1 (by decide), rfl⟩
  have hrefl : ∀ u : State, Completed u u := fun u => .of_moved (.refl u) rfl
  have hput : ∀ (u : State) y, Completed u (setStream u k y) := fun u y => .of_moved (.of_regs rfl) rfl
  refine Completed.trans (Completed.trans ?_ (.of_moved (raiseIf_moved ..) ((raiseIf_keeps ..).drift rfl))) (hput ..)
  unfold State.when
  split
  · exact hinc _
  · exact hrefl _

/-- What executing a request answers heads the completion cache of its stream. -/
theorem inFrame_answers {s : State} {f : Frame} {op k : Nat} {e : Bool} (h : nextRequest s f op k = true) (hb : inBlocked s (inReq f e) = false) :
    ∃ x, ∀ {st data u}, inExec (setStream s k (some x)) (inReq f e) = (st, data, u) → st ≠ TS.busy →
      (streamAt (inFrame s op f e) k).bind (fun x => x.cache.head?) = some ((inReq f e).ord, st, data.take 8) ∧
        Completed u (inFrame s op f e) := by
  obtain ⟨x, hx, _, _, ht⟩ := inFrame_next h hb
  refine ⟨x, fun {st data u} he hbusy => ?_⟩
  obtain ⟨hat, hc⟩ := inRun_answers (k := k) hx (by rw [he]; exact hbusy) 256
  rw [he] at hat hc
  rw [ht, hat]
  exact ⟨rfl, hc⟩

/-! ## What executing a request does -/

/-- The operation of a request and the incarnation that it names. -/
theorem nextRequest_op {s : State} {f : Frame} {op k : Nat} (h : nextRequest s f op k = true) (hop : op ≠ 0xE) (e : Bool) :
    (inReq f e).op = op ∧ ((inReq f e).tgtInc = none ∨ (inReq f e).tgtInc = some s.inc16) := by
  obtain ⟨x, _, _, _, _, hmine, _, _, _, _, _, hinc⟩ := nextRequest_iff h e
  rw [if_neg hop] at hmine
  simp only [Bool.and_eq_true, beq_iff_eq] at hmine
  exact ⟨(if_neg (by omega)).trans hmine.2, hinc⟩

/-- A request that names the node's incarnation or none is not answered TARGET_RESET; one that reads meets what its memory answers. -/
theorem inExec_ecc {s : State} {r : InReq} (hi : r.tgtInc = none ∨ r.tgtInc = some s.inc16) (he : r.ecc = true)
    (ho : r.op ≤ 2 ∨ (6 ≤ r.op ∧ r.op ≤ 0xD)) : inExec s r = (TS.ecc, [], s) := by
  unfold inExec
  dsimp only
  rw [if_neg (by rcases hi with hi | hi <;> simp [hi]), if_pos (by simpa [he, opReads, opAtomic] using ho)]

theorem inExec_read {s : State} {r : InReq} (hi : r.tgtInc = none ∨ r.tgtInc = some s.inc16) (he : r.ecc = false)
    (ho : r.op = 0 ∨ r.op = 1 ∨ r.op = 2) : inExec s r = windowRead s ⟨8, r.src⟩ r.off (inBytes r) (r.op == 2) := by
  unfold inExec
  dsimp only
  rw [if_neg (by rcases hi with hi | hi <;> simp [hi]), if_neg (by simp [he])]
  rcases ho with h | h | h <;> simp only [h]

theorem inExec_write {s : State} {r : InReq} (hi : r.tgtInc = none ∨ r.tgtInc = some s.inc16)
    (ho : r.op = 3 ∨ r.op = 4 ∨ r.op = 5) {st : Nat} {t : State}
    (hw : windowWrite s ⟨8, r.src⟩ r.off (r.bytes.take (opBytes r.op r.len)) (r.op == 5) = (st, t)) : inExec s r = (st, [], t) := by
  unfold inExec
  dsimp only
  rw [if_neg (by rcases hi with hi | hi <;> simp [hi]), if_neg (by rcases ho with h | h | h <;> simp [h, opReads, opAtomic])]
  rcases ho with h | h | h <;> (simp only [h] at hw ⊢; rw [hw])

theorem inExec_atomic {s : State} {r : InReq} (hi : r.tgtInc = none ∨ r.tgtInc = some s.inc16) (he : r.ecc = false)
    (ho : 6 ≤ r.op ∧ r.op ≤ 0xD) :
    inExec s r = windowAtomic s ⟨8, r.src⟩ r.off (if r.op < 0xA then r.op - 6 else r.op - 0xA) (inBytes r) r.bytes := by
  unfold inExec
  dsimp only
  rw [if_neg (by rcases hi with hi | hi <;> simp [hi]), if_neg (by simp [he])]
  obtain ⟨h, h'⟩ := ho
  generalize r.op = o at h h'
  interval_cases o <;> rfl

/-! ## Bytes of words -/

@[simp] theorem length_leBytes (n v : Nat) : (leBytes n v).length = n := by
  induction n generalizing v with
  | zero => rfl
  | succ n ih => simp [leBytes, ih]

@[simp] theorem length_slice (l : List Nat) (k n : Nat) : (slice l k n).length = n := by
  simp only [slice, List.length_append, List.length_replicate, List.length_take]
  omega

theorem leVal_leBytes (n v : Nat) : leVal (leBytes n v) = v % 256 ^ n := by
  induction n generalizing v with
  | zero => simp [leBytes, leVal, Nat.mod_one]
  | succ n ih =>
    rw [leBytes, leVal, ih, Nat.mod_mod, pow_succ', Nat.mod_mul]

theorem leVal_append (a b : List Nat) : leVal (a ++ b) = leVal a + 256 ^ a.length * leVal b := by
  induction a with
  | nil => simp [leVal]
  | cons x r ih =>
    rw [List.cons_append, leVal, ih, leVal, List.length_cons, pow_succ']
    ring

theorem leVal_lt (l : List Nat) : leVal l < 256 ^ l.length := by
  induction l with
  | nil => simp [leVal]
  | cons x r ih =>
    rw [leVal, List.length_cons, pow_succ']
    omega

theorem leVal_slice_lt (l : List Nat) (k n : Nat) : leVal (slice l k n) < 256 ^ n := by
  simpa using leVal_lt (slice l k n)

/-! ## MTIMECMP0 through the window -/

/-- A word of MTIMECMP0: the low one or the high one. -/
def cmpField (hi : Bool) : Fld := if hi then F.CORES_MTIMECMP_HI_NS 0 else F.CORES_MTIMECMP_LO_NS 0

theorem regFields_cmp (hi : Bool) : regFields P.cores (cmpField hi).off = [cmpField hi] := by
  cases hi <;> decide +kernel

theorem cmpField_facts (hi : Bool) : (cmpField hi).acc = .rw ∧ (cmpField hi).width = 32 ∧ 0x040 ≤ (cmpField hi).off ∧ (cmpField hi).lsb = 0 ∧
    (cmpField hi).cls = .a := by
  cases hi <;> exact ⟨rfl, rfl, by decide, rfl, rfl⟩

/-- A running node reads a word of MTIMECMP0 for another node, and nothing changes. -/
theorem busRead_cmp {s : State} {who : By} (ha : s.alive = true) (hw : who.ini = 8) (hi : Bool) :
    busRead s who P.cores (cmpField hi).off = (s.rd P.cores (cmpField hi), s) := by
  have hfield : fieldValue s who P.cores (cmpField hi) = (s.rd P.cores (cmpField hi), s) := by
    have hb : bankIdx s who P.cores (cmpField hi) = 0 := by cases hi <;> rfl
    have hs : shown s P.cores (cmpField hi) = .held := by cases hi <;> rfl
    have hz : (absentField P.cores (cmpField hi) || readsZero P.cores (cmpField hi)) = false := by cases hi <;> decide +kernel
    unfold fieldValue
    rw [hz, hs, hb]
    rfl
  simp only [State.alive, Bool.and_eq_true, Bool.not_eq_true', bne_iff_ne] at ha
  obtain ⟨⟨⟨h1, h2⟩, h3⟩, h4⟩ := ha
  unfold busRead
  rw [if_neg (by simp [h1, h2, h3, tapShut, hw]), if_neg (by decide +kernel), if_neg h4, regRead,
    if_neg (by rintro ⟨h, _⟩; exact absurd h (by decide)), if_neg (by rintro ⟨h, h', _⟩; exact absurd h' (by decide)),
    if_neg (by rintro ⟨h, _⟩; exact absurd h (by decide))]
  have hp : regPeek s who P.cores (cmpField hi).off = (s.rd P.cores (cmpField hi), s) := by
    unfold regPeek
    rw [regFields_cmp]
    simp [hfield, (cmpField_facts hi).2.2.2.1]
  rw [hp]
  unfold readClears
  rw [regFields_cmp]
  simp [(cmpField_facts hi).1]

/-- What a read of `n` words of MTIMECMP0 through the window answers. -/
def cmpWords (s : State) (n : Nat) : List Nat :=
  if n = 1 then leBytes 4 (s.rd P.cores (F.CORES_MTIMECMP_LO_NS 0))
  else leBytes 4 (s.rd P.cores (F.CORES_MTIMECMP_LO_NS 0)) ++ leBytes 4 (s.rd P.cores (F.CORES_MTIMECMP_HI_NS 0))

theorem readWords_cmp {s : State} {who : By} (ha : s.alive = true) (hw : who.ini = 8) {n : Nat} (hn : n = 1 ∨ n = 2) :
    readWords s who 0x110080 n = (cmpWords s n, s) := by
  have hlo : busRead (fieldFlit s (0x110080 / 0x1000)) who (0x110080 / 0x1000) (0x110080 % 0x1000 / 4 * 4) = (s.rd P.cores (F.CORES_MTIMECMP_LO_NS 0), s) :=
    busRead_cmp ha hw false
  have hhi : busRead (fieldFlit s ((0x110080 + 4) / 0x1000)) who ((0x110080 + 4) / 0x1000) ((0x110080 + 4) % 0x1000 / 4 * 4) =
      (s.rd P.cores (F.CORES_MTIMECMP_HI_NS 0), s) := busRead_cmp ha hw true
  rcases hn with rfl | rfl <;> simp [readWords, hlo, hhi, cmpWords]

/-- A word of MTIMECMP0 written: the timer interrupt of core 0 follows. -/
def cmpStored (s : State) (hi : Bool) (word : Nat) : State := mtipFollow ((dropArms s P.cores).wr P.cores (cmpField hi) word) 0

theorem MayWrite.cmpHi {s : State} {who : By} (h : MayWrite s who P.cores 0x080) (hi : Bool) : MayWrite s who P.cores (cmpField hi).off :=
  ⟨h.alive, h.unlocked, h.remote, h.tap, h.link, fun f hf => by
    rw [regFields_cmp, List.mem_singleton] at hf
    subst hf
    unfold classOpen
    rw [(cmpField_facts hi).2.2.2.2]⟩

theorem MayWrite.busWrite_cmp {s : State} {who : By} (h : MayWrite s who P.cores 0x080) (hi : Bool) (word : Nat) :
    busWrite s who P.cores (cmpField hi).off word = (TS.ok, cmpStored s hi word) := by
  have hplain : plainReg P.cores (cmpField hi).off = true := by cases hi <;> decide +kernel
  have ho : (cmpField hi).off ≠ 0x038 := by cases hi <;> decide
  have hst : (busWrite s who P.cores (cmpField hi).off word).1 = TS.ok := by
    have hw := (h.cmpHi hi).taken word (armedFor s who P.cores) ho (fun f hf => fieldOk_of_noCondition (by
      simp only [plainReg, Bool.and_eq_true] at hplain
      exact List.all_eq_true.mp hplain.2 f hf) ..) (.inl rfl)
    have ha := h.alive
    simp only [State.alive, Bool.and_eq_true, Bool.not_eq_true', bne_iff_ne] at ha
    obtain ⟨⟨⟨h1, h2⟩, h3⟩, h4⟩ := ha
    unfold busWrite
    rw [if_neg (by simp [h1, h2, h3]), if_neg h4, if_neg (by simp [h.tap]), if_neg (by decide +kernel), if_neg (by
      simp only [Bool.and_eq_true, not_and]
      exact fun e => absurd e (by decide +kernel))]
    dsimp only
    split
    · rfl
    · rw [hw, acceptedWrite, if_neg ho, if_neg (by rintro ⟨e, _⟩; exact absurd e (by decide))]
  have hfield : storeField (dropArms s P.cores) who P.cores (cmpField hi) word = (dropArms s P.cores).wr P.cores (cmpField hi) word := by
    have hn : (absentField P.cores (cmpField hi) || ownStore P.cores (cmpField hi)) = false := by cases hi <;> decide +kernel
    rw [storeField_rw (cmpField_facts hi).1 (by rw [hn]; rfl)]
    cases hi <;> simp [State.wr, State.wri, fbits, bitsOf, storeValue, bankIdx, cmpField, F.CORES_MTIMECMP_LO_NS, F.CORES_MTIMECMP_HI_NS,
      P.cores, P.sestx, P.sesrx, P.switch, P.gw, P.drift, P.log]
  have heff : ∀ t : State, writeEffect (dropArms s P.cores) t who P.cores (cmpField hi).off word = mtipFollow t 0 := fun t => by
    cases hi <;> rfl
  refine Prod.ext hst ?_
  have := (h.cmpHi hi).plain word hplain ho
  rw [regFields_cmp, List.foldl_cons, List.foldl_nil, hfield, heff] at this
  exact this

@[simp] theorem rd_mtipFollow (s : State) (k p : Nat) (f : Fld) : (mtipFollow s k).rd p f = s.rd p f := rfl

theorem rd_cmpStored (s : State) (hi : Bool) (word : Nat) : (cmpStored s hi word).rd P.cores (cmpField hi) = word % 2 ^ 32 :=
  (rd_wr_same ..).trans (by rw [(cmpField_facts hi).2.1])

theorem rd_cmpStored_apart (s : State) (hi : Bool) (word : Nat) {p : Nat} {f : Fld} (h : keyApart p f P.cores (cmpField hi) = true) :
    (cmpStored s hi word).rd p f = s.rd p f := rd_wr_apart _ _ h

/-- A word of MTIMECMP0 is no register that a write asks for. -/
theorem MayWrite.cmpStored {s : State} {who : By} (h : MayWrite s who P.cores 0x080) (hi : Bool) (word : Nat) :
    MayWrite (cmpStored s hi word) who P.cores 0x080 := by
  have hrd : ∀ p f, (f.off < 0x080 ∨ p ≠ P.cores) → (Machine.cmpStored s hi word).rd p f = s.rd p f := fun p f hf =>
    rd_cmpStored_apart _ _ _ (by
      have : 0x080 ≤ (cmpField hi).off := by cases hi <;> decide
      simp only [keyApart, Bool.or_eq_true, bne_iff_ne]
      omega)
  have hst : (Machine.cmpStored s hi word).st = s.st := hrd _ _ (.inr (by decide))
  have halive : (Machine.cmpStored s hi word).alive = s.alive := by unfold State.alive; rw [hst]; rfl
  have hmgr : ∀ src m, isManager (Machine.cmpStored s hi word) src m = isManager s src m := fun src m => by
    simp only [isManager, State.on, hrd P.node _ (.inr (by decide)), hrd P.time _ (.inr (by decide))]
  have hremote : ∀ src, remoteOpen (Machine.cmpStored s hi word) src P.cores = remoteOpen s src P.cores := fun src => by
    simp only [remoteOpen, State.bit, hrd P.cores F.HDR_PAGE_ATTR_REMOTE_WRITE (.inl (by decide)),
      hrd P.cores F.HDR_PAGE_ATTR_MGR_MASK (.inl (by decide)), hmgr]
  have htap : tapShut (Machine.cmpStored s hi word) who P.cores = tapShut s who P.cores := by
    unfold tapShut tapOpen State.on
    rw [hrd P.sec _ (.inr (by decide))]
    rfl
  exact ⟨halive.trans h.alive, (hrd _ _ (.inl (by decide))).trans h.unlocked, fun e => (hremote _).trans (h.remote e), htap.trans h.tap,
    h.link, fun f hf => by
      rw [show (0x080 : Nat) = (cmpField false).off from rfl, regFields_cmp, List.mem_singleton] at hf
      subst hf
      rfl⟩

/-- `MayWrite` sees no stream slot. -/
theorem MayWrite.setStream {s : State} {who : By} {page off : Nat} (h : MayWrite s who page off) (k : Nat) (x : Option StreamSlot) :
    MayWrite (setStream s k x) who page off := ⟨h.alive, h.unlocked, h.remote, h.tap, h.link, h.open'⟩

/-- Both words of MTIMECMP0 written, the low one first; or the low one alone. -/
def cmpWritten (s : State) (b : List Nat) : State :=
  if b.length = 4 then cmpStored s false (leVal (slice b 0 4)) else cmpStored (cmpStored s false (leVal (slice b 0 4))) true (leVal (slice b 4 4))

theorem writeWords_cmp {s : State} {who : By} (h : MayWrite s who P.cores 0x080) {b : List Nat} (hn : b.length = 4 ∨ b.length = 8) :
    writeWords s who (wordsAt 0x110080 b) = (TS.ok, cmpWritten s b) := by
  have hlo : ∀ (t : State), MayWrite t who P.cores 0x080 → ∀ v, busWrite (fieldFlit t (0x110080 / 0x1000)) who (0x110080 / 0x1000) (0x110080 % 0x1000 / 4 * 4) v =
      (TS.ok, cmpStored t false v) := fun t ht v => ht.busWrite_cmp false v
  have hhi : ∀ (t : State), MayWrite t who P.cores 0x080 → ∀ v, busWrite (fieldFlit t ((0x110080 + 4) / 0x1000)) who ((0x110080 + 4) / 0x1000) ((0x110080 + 4) % 0x1000 / 4 * 4) v =
      (TS.ok, cmpStored t true v) := fun t ht v => ht.busWrite_cmp true v
  unfold writeWords cmpWritten wordsAt
  rcases hn with hn | hn
  · simp [hn, ceilDiv, List.range_succ, hlo s h]
  · simp [hn, ceilDiv, List.range_succ, hlo s h, hhi s h, hhi _ (h.cmpStored ..)]

theorem cmpWritten_rd (s : State) {b : List Nat} (hn : b.length = 4 ∨ b.length = 8) :
    (cmpWritten s b).rd P.cores (F.CORES_MTIMECMP_LO_NS 0) = leVal (slice b 0 4) ∧
      (b.length = 8 → (cmpWritten s b).rd P.cores (F.CORES_MTIMECMP_HI_NS 0) = leVal (slice b 4 4)) := by
  have hlt : ∀ k, leVal (slice b k 4) % 2 ^ 32 = leVal (slice b k 4) := fun k => Nat.mod_eq_of_lt (leVal_slice_lt b k 4)
  have hlo : (cmpStored s false (leVal (slice b 0 4))).rd P.cores (F.CORES_MTIMECMP_LO_NS 0) = leVal (slice b 0 4) :=
    (rd_cmpStored s false _).trans (hlt 0)
  have hhi : ∀ t : State, (cmpStored t true (leVal (slice b 4 4))).rd P.cores (F.CORES_MTIMECMP_HI_NS 0) = leVal (slice b 4 4) := fun t =>
    (rd_cmpStored t true _).trans (hlt 4)
  unfold cmpWritten
  rcases hn with hn | hn
  · rw [if_pos hn]
    exact ⟨hlo, fun h8 => by omega⟩
  · rw [if_neg (by omega)]
    exact ⟨(rd_cmpStored_apart _ _ _ rfl).trans hlo, fun _ => hhi _⟩

/-! ## The window -/

theorem winPart_cmp {n : Nat} (hn : n = 4 ∨ n = 8) : winPart 0x110080 n = .pages := by
  rcases hn with rfl | rfl <;> rfl

theorem pageListed_cmp {n : Nat} (hn : n = 4 ∨ n = 8) : pageListed 0x110080 n = true := by
  rcases hn with rfl | rfl <;> decide +kernel

theorem sidefxPage_cmp : sidefxPage 0x110080 = false := by decide +kernel

theorem windowRead_status (s : State) (who : By) (off n : Nat) (block : Bool) : (windowRead s who off n block).1 ≠ TS.busy := by
  have hok : TS.ok ≠ TS.busy := by decide
  have haddr : TS.addrErr ≠ TS.busy := by decide
  have huns : TS.unsupported ≠ TS.busy := by decide
  unfold windowRead
  split
  · split
    · exact haddr
    · split
      · exact huns
      · exact hok
  · exact hok
  · exact hok
  · exact hok
  · exact haddr

theorem windowRead_items {s : State} {who : By} {off n : Nat} {block : Bool} (h : winPart off n = .items) :
    windowRead s who off n block = (TS.ok, storeBytes s (off - 0x400000) n, s) := by
  unfold windowRead
  rw [h]

theorem windowRead_reserved {s : State} {who : By} {off n : Nat} {block : Bool} (h : winPart off n = .reserved) :
    windowRead s who off n block = (TS.addrErr, [], s) := by
  unfold windowRead
  rw [h]

theorem windowWrite_items {s : State} {who : By} {off : Nat} {b : List Nat} {block : Bool} (h : winPart off b.length = .items) :
    windowWrite s who off b block = (TS.readOnly, s) := by
  unfold windowWrite
  rw [h]

theorem windowWrite_reserved {s : State} {who : By} {off : Nat} {b : List Nat} {block : Bool} (h : winPart off b.length = .reserved) :
    windowWrite s who off b block = (TS.addrErr, s) := by
  unfold windowWrite
  rw [h]

theorem windowAtomic_items {s : State} {who : By} {off j n : Nat} {pay : List Nat} (h : winPart off n = .items) :
    windowAtomic s who off j n pay = (TS.readOnly, [], s) := by
  unfold windowAtomic
  rw [h]

theorem windowAtomic_reserved {s : State} {who : By} {off j n : Nat} {pay : List Nat} (h : winPart off n = .reserved) :
    windowAtomic s who off j n pay = (TS.addrErr, [], s) := by
  unfold windowAtomic
  rw [h]

theorem length_cmpWords (s : State) {n : Nat} (hn : n = 4 ∨ n = 8) : (cmpWords s (n / 4)).length = n := by
  rcases hn with rfl | rfl <;> simp [cmpWords]

theorem windowRead_cmp {s : State} {who : By} (ha : s.alive = true) (hw : who.ini = 8) {n : Nat} (hn : n = 4 ∨ n = 8) (block : Bool) :
    windowRead s who 0x110080 n block = (TS.ok, cmpWords s (n / 4), s) := by
  unfold windowRead
  rw [winPart_cmp hn]
  dsimp only
  rw [if_neg (by simp [pageListed_cmp hn]), if_neg (by simp [sidefxPage_cmp])]
  have hc : ceilDiv n 4 = n / 4 := by rcases hn with rfl | rfl <;> rfl
  rw [hc, readWords_cmp ha hw (by omega)]
  exact congrArg (fun l => (TS.ok, l, s)) (List.take_of_length_le (length_cmpWords s hn).le)

theorem windowWrite_cmp {s : State} {who : By} (h : MayWrite s who P.cores 0x080) {b : List Nat} (hn : b.length = 4 ∨ b.length = 8) (block : Bool) :
    windowWrite s who 0x110080 b block = (TS.ok, cmpWritten s b) := by
  unfold windowWrite
  rw [winPart_cmp hn]
  dsimp only
  rw [if_neg (by simp [pageListed_cmp hn]), if_neg (by simp [sidefxPage_cmp]), writeWords_cmp h hn]

/-- The value in the compare register that an atomic leaves. -/
def cmpNew (s : State) (j n : Nat) (pay : List Nat) : Nat :=
  (atomicNew j n (leVal (cmpWords s (n / 4))) (leVal (slice pay 0 n)) (leVal (slice pay n n))).getD (leVal (cmpWords s (n / 4)))

theorem windowAtomic_cmp {s : State} {who : By} (h : MayWrite s who P.cores 0x080) (hw : who.ini = 8) {n : Nat} (hn : n = 4 ∨ n = 8) (j : Nat)
    (pay : List Nat) :
    ∃ t, windowAtomic s who 0x110080 j n pay = (TS.ok, cmpWords s (n / 4), t) ∧ (t = s ∧ cmpNew s j n pay = leVal (cmpWords s (n / 4)) ∨
      t = cmpWritten s (leBytes n (cmpNew s j n pay))) := by
  unfold windowAtomic
  rw [winPart_cmp hn]
  dsimp only
  rw [if_neg (by simp [pageListed_cmp hn]), if_neg (by simp [sidefxPage_cmp]), readWords_cmp h.alive hw (by omega)]
  dsimp only
  unfold cmpNew
  cases atomicNew j n (leVal (cmpWords s (n / 4))) (leVal (slice pay 0 n)) (leVal (slice pay n n)) with
  | none => exact ⟨s, rfl, .inl ⟨rfl, rfl⟩⟩
  | some v =>
    dsimp only
    rw [writeWords_cmp h (by simpa using hn)]
    exact ⟨_, rfl, .inr rfl⟩

/-! ## Answers by operation -/

/-- The newest completion that stream slot `k` keeps: ORD, STATUS and data. -/
def topAnswer (t : State) (k : Nat) : Option (Nat × Nat × List Nat) := (streamAt t k).bind (fun x => x.cache.head?)

/-- A read that is next in order. -/
theorem read_answers {s : State} {f : Frame} {op k : Nat} {e : Bool} (h : nextRequest s f op k = true) (hb : inBlocked s (inReq f e) = false)
    (ho : op = 0 ∨ op = 1 ∨ op = 2) {n : Nat} (hn : inBytes (inReq f e) = n) :
    (topAnswer (inFrame s op f e) k).map (·.1) = some (inReq f e).ord ∧
      (e = true → topAnswer (inFrame s op f e) k = some ((inReq f e).ord, TS.ecc, [])) ∧
      (e = false → winPart (inReq f e).off n = .items →
        topAnswer (inFrame s op f e) k = some ((inReq f e).ord, TS.ok, (storeBytes s ((inReq f e).off - 0x400000) n).take 8)) ∧
      (e = false → winPart (inReq f e).off n = .reserved → topAnswer (inFrame s op f e) k = some ((inReq f e).ord, TS.addrErr, [])) ∧
      (e = false → (inReq f e).off = 0x110080 → n = 4 ∨ n = 8 →
        topAnswer (inFrame s op f e) k = some ((inReq f e).ord, TS.ok, cmpWords s (n / 4))) := by
  obtain ⟨x, hx⟩ := inFrame_answers h hb
  obtain ⟨hop, hi⟩ := nextRequest_op h (by omega) e
  obtain ⟨_, _, _, _, ⟨halive, _⟩, _⟩ := nextRequest_iff h e
  have hecc : e = true → inExec (setStream s k (some x)) (inReq f e) = (TS.ecc, [], setStream s k (some x)) := fun he =>
    inExec_ecc (s := setStream s k (some x)) hi he (.inl (by omega))
  have hread : e = false → inExec (setStream s k (some x)) (inReq f e) =
      windowRead (setStream s k (some x)) ⟨8, f.src⟩ (inReq f e).off n ((inReq f e).op == 2) := fun he => by
    rw [inExec_read (s := setStream s k (some x)) hi he (by omega), hn]
    rfl
  refine ⟨?_, fun he => (hx (hecc he) (by decide)).1, fun he hw => (hx ((hread he).trans (windowRead_items hw)) (by decide)).1,
    fun he hw => (hx ((hread he).trans (windowRead_reserved hw)) (by decide)).1, fun he hoff hn' => ?_⟩
  · cases e with
    | true => exact congrArg (Option.map (·.1)) (hx (hecc rfl) (by decide)).1
    | false =>
      have hstatus := windowRead_status (setStream s k (some x)) ⟨8, f.src⟩ (inReq f false).off n ((inReq f false).op == 2)
      rcases hr : windowRead (setStream s k (some x)) ⟨8, f.src⟩ (inReq f false).off n ((inReq f false).op == 2) with ⟨st, data, u⟩
      rw [hr] at hstatus
      exact congrArg (Option.map (·.1)) (hx ((hread rfl).trans hr) hstatus).1
  · have hr : windowRead (setStream s k (some x)) ⟨8, f.src⟩ (inReq f e).off n ((inReq f e).op == 2) =
        (TS.ok, cmpWords s (n / 4), setStream s k (some x)) := by
      rw [hoff]
      exact windowRead_cmp (s := setStream s k (some x)) halive rfl hn' _
    refine (hx ((hread he).trans hr) (by decide)).1.trans (congrArg (fun d => some ((inReq f e).ord, TS.ok, d)) (List.take_of_length_le ?_))
    rw [length_cmpWords _ hn']
    omega

/-- A write that is next in order. -/
theorem write_answers {s : State} {f : Frame} {op k : Nat} (h : nextRequest s f op k = true) (hb : inBlocked s (inReq f false) = false)
    (ho : op = 3 ∨ op = 4 ∨ op = 5) {b : List Nat} (hn : f.pay.take (opBytes op (inReq f false).len) = b) :
    (winPart (inReq f false).off b.length = .items → (inFrame s op f false).drift.recs = s.drift.recs ∧
        topAnswer (inFrame s op f false) k = some ((inReq f false).ord, TS.readOnly, [])) ∧
      (winPart (inReq f false).off b.length = .reserved → topAnswer (inFrame s op f false) k = some ((inReq f false).ord, TS.addrErr, [])) ∧
      (MayWrite s ⟨8, f.src⟩ P.cores 0x080 → (inReq f false).off = 0x110080 → b.length = 4 ∨ b.length = 8 →
        (inFrame s op f false).rd P.cores (F.CORES_MTIMECMP_LO_NS 0) = leVal (slice b 0 4) ∧
        (b.length = 8 → (inFrame s op f false).rd P.cores (F.CORES_MTIMECMP_HI_NS 0) = leVal (slice b 4 4)) ∧
        topAnswer (inFrame s op f false) k = some ((inReq f false).ord, TS.ok, [])) := by
  obtain ⟨x, hx⟩ := inFrame_answers h hb
  obtain ⟨hop, hi⟩ := nextRequest_op h (by omega) false
  have hwrite : ∀ {st t}, windowWrite (setStream s k (some x)) ⟨8, f.src⟩ (inReq f false).off b ((inReq f false).op == 5) = (st, t) →
      inExec (setStream s k (some x)) (inReq f false) = (st, [], t) := fun hw =>
    inExec_write (s := setStream s k (some x)) hi (by omega) (by rw [← hn, ← hop] at hw; exact hw)
  refine ⟨fun hw => ?_, fun hw => ?_, fun hm hoff hl => ?_⟩
  · obtain ⟨htop, hc⟩ := hx (hwrite (windowWrite_items hw)) (by decide)
    exact ⟨by rw [hc.drift]; rfl, htop⟩
  · exact (hx (hwrite (windowWrite_reserved hw)) (by decide)).1
  · have hw : windowWrite (setStream s k (some x)) ⟨8, f.src⟩ (inReq f false).off b ((inReq f false).op == 5) =
        (TS.ok, cmpWritten (setStream s k (some x)) b) := by
      rw [hoff]
      exact windowWrite_cmp (hm.setStream k (some x)) hl _
    obtain ⟨htop, hc⟩ := hx (hwrite hw) (by decide)
    obtain ⟨hlo, hhi⟩ := cmpWritten_rd (setStream s k (some x)) hl
    exact ⟨(hc.regs.rd _ _ rfl).trans hlo, fun h8 => (hc.regs.rd _ _ rfl).trans (hhi h8), htop⟩

/-! ## Atomics -/

/-- MTIMECMP0 as an access of `n` bytes sees it. -/
def cmpVal (s : State) (n : Nat) : Nat :=
  if n = 4 then s.rd P.cores (F.CORES_MTIMECMP_LO_NS 0) else s.rd64 P.cores (F.CORES_MTIMECMP_LO_NS 0) (F.CORES_MTIMECMP_HI_NS 0)

theorem leVal_cmpWords {s : State} {n : Nat} (hn : n = 4 ∨ n = 8) (hlo : s.rd P.cores (F.CORES_MTIMECMP_LO_NS 0) < 2 ^ 32)
    (hhi : s.rd P.cores (F.CORES_MTIMECMP_HI_NS 0) < 2 ^ 32) : leVal (cmpWords s (n / 4)) = cmpVal s n := by
  have hl : leVal (leBytes 4 (s.rd P.cores (F.CORES_MTIMECMP_LO_NS 0))) = s.rd P.cores (F.CORES_MTIMECMP_LO_NS 0) :=
    (leVal_leBytes ..).trans (Nat.mod_eq_of_lt hlo)
  have hh : leVal (leBytes 4 (s.rd P.cores (F.CORES_MTIMECMP_HI_NS 0))) = s.rd P.cores (F.CORES_MTIMECMP_HI_NS 0) :=
    (leVal_leBytes ..).trans (Nat.mod_eq_of_lt hhi)
  rcases hn with rfl | rfl
  · exact hl
  · refine (leVal_append ..).trans ?_
    rw [hl, hh, length_leBytes, mul_comm]
    rfl

theorem cmpVal_cmpWritten (s : State) {n : Nat} (hn : n = 4 ∨ n = 8) {v : Nat} (hv : v < 256 ^ n) : cmpVal (cmpWritten s (leBytes n v)) n = v := by
  obtain ⟨hlo, hhi⟩ := cmpWritten_rd s (b := leBytes n v) (by simpa using hn)
  rcases hn with rfl | rfl
  · have hs : slice (leBytes 4 v) 0 4 = leBytes 4 v := rfl
    rw [cmpVal, if_pos rfl, hlo, hs, leVal_leBytes, Nat.mod_eq_of_lt hv]
  · have hs : slice (leBytes 8 v) 0 4 = leBytes 4 v := rfl
    have hs' : slice (leBytes 8 v) 4 4 = leBytes 4 (v / 256 / 256 / 256 / 256) := rfl
    have hd : v / 256 / 256 / 256 / 256 = v / 2 ^ 32 := by simp only [Nat.div_div_eq_div_mul]; norm_num
    have hm : v / 2 ^ 32 < 256 ^ 4 := by
      rw [Nat.div_lt_iff_lt_mul (by decide)]
      exact hv
    rw [cmpVal, if_neg (by decide), State.rd64, hlo, hhi (length_leBytes ..), hs, hs', hd, leVal_leBytes, leVal_leBytes, Nat.mod_eq_of_lt hm]
    exact (Nat.mod_add_div' v _)

theorem cmpNew_lt (s : State) (j : Nat) {n : Nat} (hn : n = 4 ∨ n = 8) (pay : List Nat) : cmpNew s j n pay < 256 ^ n := by
  have hp : ∀ k, leVal (slice pay k n) < 256 ^ n := fun k => leVal_slice_lt ..
  have ho : leVal (cmpWords s (n / 4)) < 256 ^ n := by
    have := leVal_lt (cmpWords s (n / 4))
    rwa [length_cmpWords s hn] at this
  have h2 : 256 ^ n = 2 ^ (8 * n) := by rw [pow_mul]; rfl
  rw [h2] at hp ho ⊢
  unfold cmpNew atomicNew
  split
  · exact Nat.and_lt_two_pow _ (hp 0)
  · exact Nat.or_lt_two_pow ho (hp 0)
  · exact Nat.mod_lt _ (by positivity)
  · split
    · exact hp n
    · exact ho

/-- An atomic that is next in order. -/
theorem atomic_answers {s : State} {f : Frame} {op k : Nat} {e : Bool} (h : nextRequest s f op k = true) (hb : inBlocked s (inReq f e) = false)
    (ho : 6 ≤ op ∧ op ≤ 0xD) {n j : Nat} (hn : inBytes (inReq f e) = n) (hn' : n = 4 ∨ n = 8) (hj : (if op < 0xA then op - 6 else op - 0xA) = j) :
    (e = true → topAnswer (inFrame s op f e) k = some ((inReq f e).ord, TS.ecc, [])) ∧
      (e = false → winPart (inReq f e).off n = .items → (inFrame s op f e).drift.recs = s.drift.recs ∧
        topAnswer (inFrame s op f e) k = some ((inReq f e).ord, TS.readOnly, [])) ∧
      (e = false → winPart (inReq f e).off n = .reserved → topAnswer (inFrame s op f e) k = some ((inReq f e).ord, TS.addrErr, [])) ∧
      (e = false → MayWrite s ⟨8, f.src⟩ P.cores 0x080 → (inReq f e).off = 0x110080 → s.rd P.cores (F.CORES_MTIMECMP_LO_NS 0) < 2 ^ 32 →
        s.rd P.cores (F.CORES_MTIMECMP_HI_NS 0) < 2 ^ 32 →
        cmpVal (inFrame s op f e) n = (atomicNew j n (cmpVal s n) (leVal (slice f.pay 0 n)) (leVal (slice f.pay n n))).getD (cmpVal s n) ∧
        topAnswer (inFrame s op f e) k = some ((inReq f e).ord, TS.ok, cmpWords s (n / 4))) := by
  obtain ⟨x, hx⟩ := inFrame_answers h hb
  obtain ⟨hop, hi⟩ := nextRequest_op h (by omega) e
  have hecc : e = true → inExec (setStream s k (some x)) (inReq f e) = (TS.ecc, [], setStream s k (some x)) := fun he =>
    inExec_ecc (s := setStream s k (some x)) hi he (.inr (by omega))
  have hatomic : e = false → inExec (setStream s k (some x)) (inReq f e) =
      windowAtomic (setStream s k (some x)) ⟨8, f.src⟩ (inReq f e).off j n f.pay := fun he => by
    rw [inExec_atomic (s := setStream s k (some x)) hi he (by omega), hn, hop, hj]
    rfl
  refine ⟨fun he => (hx (hecc he) (by decide)).1, fun he hw => ?_,
    fun he hw => (hx ((hatomic he).trans (windowAtomic_reserved hw)) (by decide)).1, fun he hm hoff hlo hhi => ?_⟩
  · obtain ⟨htop, hc⟩ := hx ((hatomic he).trans (windowAtomic_items hw)) (by decide)
    exact ⟨by rw [hc.drift]; rfl, htop⟩
  · obtain ⟨t, hw, ht⟩ := windowAtomic_cmp (hm.setStream k (some x)) rfl hn' j f.pay
    rw [← hoff] at hw
    obtain ⟨htop, hc⟩ := hx ((hatomic he).trans hw) (by decide)
    have hold := leVal_cmpWords (s := setStream s k (some x)) hn' hlo hhi
    have hval : cmpVal t n = cmpNew (setStream s k (some x)) j n f.pay := by
      rcases ht with ⟨rfl, hnew⟩ | rfl
      · rw [hnew, hold]
      · exact cmpVal_cmpWritten _ hn' (cmpNew_lt _ j hn' f.pay)
    have hkeep : cmpVal (inFrame s op f e) n = cmpVal t n := by
      unfold cmpVal State.rd64
      rw [hc.regs.rd P.cores _ rfl, hc.regs.rd P.cores _ rfl]
    refine ⟨hkeep.trans (hval.trans (by rw [cmpNew, hold]; rfl)), htop.trans ?_⟩
    refine congrArg (fun d => some ((inReq f e).ord, TS.ok, d)) (List.take_of_length_le ?_)
    rw [length_cmpWords _ hn']
    omega

/-! ## EVENT -/

theorem event_shows {s : State} {f : Frame} {k : Nat} (h : nextRequest s f 14 k = true) (hsrc : f.src < 4096) :
    (inFrame s 14 f false).rd P.txn (F.TXN_EVIN_SRC (bitsOf (inReq f false).off 16 4)) = f.src ∧
      (inFrame s 14 f false).rd P.txn (F.TXN_EVIN_VALUE (bitsOf (inReq f false).off 16 4)) = (inReq f false).off % 2 ^ 16 ∧
      (inFrame s 14 f false).bit P.txn F.HDR_EV_STAT_EV (8 + bitsOf (inReq f false).off 16 4) = true := by
  have hop : (inReq f false).op = 0xE := by
    obtain ⟨x, _, _, _, _, hmine, _⟩ := nextRequest_iff h false
    rw [if_pos rfl] at hmine
    simp only [Bool.and_eq_true, beq_iff_eq] at hmine
    exact if_pos hmine.1
  obtain ⟨x, _, _, _, _, _, _, _, _, _, _, hi⟩ := nextRequest_iff h false
  obtain ⟨x, hx⟩ := inFrame_answers h (e := false) (by unfold inBlocked; rw [hop]; rfl)
  have hev : ∀ u : State, u.inc16 = s.inc16 → inExec u (inReq f false) =
      (TS.ok, [], eventIn u f.src (bitsOf (inReq f false).off 16 4) ((inReq f false).off % 2 ^ 16)) := fun u hu => by
    unfold inExec
    dsimp only
    rw [if_neg (by rw [hu]; rcases hi with hi | hi <;> simp [hi]), if_neg (by simp [hop, opReads, opAtomic])]
    simp only [hop]
    rfl
  obtain ⟨-, hc⟩ := hx (hev _ rfl) (by decide)
  have hk : bitsOf (inReq f false).off 16 4 < 16 := Nat.mod_lt _ (by decide)
  generalize bitsOf (inReq f false).off 16 4 = j at hc hk ⊢
  have hkey : ∀ g : Fld, g = F.TXN_EVIN_SRC j ∨ g = F.TXN_EVIN_VALUE j → evKey ⟨P.txn, g.off, g.lsb, 0⟩ = false ∧ cplKey ⟨P.txn, g.off, g.lsb, 0⟩ = false := by
    interval_cases j <;> (rintro g (rfl | rfl) <;> exact ⟨rfl, rfl⟩)
  refine ⟨?_, ?_, hc.ev.keep _ _ (by omega) (bit_raise _ _ _ (by omega))⟩
  · refine (hc.regs.rd _ _ (hkey _ (.inl rfl)).2).trans (((raise_regs ..).rd _ _ (hkey _ (.inl rfl)).1).trans ?_)
    refine (rd_wr_apart _ _ (by simp [keyApart, F.TXN_EVIN_SRC, F.TXN_EVIN_VALUE])).trans ((rd_wr_same ..).trans (Nat.mod_eq_of_lt hsrc))
  · refine (hc.regs.rd _ _ (hkey _ (.inr rfl)).2).trans (((raise_regs ..).rd _ _ (hkey _ (.inr rfl)).1).trans ?_)
    exact (rd_wr_same ..).trans (Nat.mod_eq_of_lt (Nat.mod_lt _ (by decide)))

/-! ## The obligations -/

theorem inBytes_of_op {s : State} {f : Frame} {op k : Nat} (h : nextRequest s f op k = true) (hop : op ≠ 0xE) (e : Bool) :
    inBytes (inReq f e) = inBytes { inReq f e with op := op } := by
  unfold inBytes
  rw [(nextRequest_op h hop e).1]

theorem take_storeBytes (s : State) (x : Nat) {n : Nat} (hn : n ≤ 8) : (storeBytes s x n).take 8 = storeBytes s x n :=
  List.take_of_length_le (by simpa [storeBytes] using hn)

theorem take_eq_self {b : List Nat} {n : Nat} (h : b.length = n) : b.take n = b := List.take_of_length_le h.le

/-- Settles O32. -/
theorem targetReadsAndWrites : Obligations.TargetReadsAndWrites := by
  refine ⟨fun s f e k h hb => ?rd32, fun s f e k h hb => ?rd64, fun s f e k h hb => ?rdblk, fun s f k h hb => ?wr32, fun s f k h hb => ?wr64,
    fun s f k h hb => ?wrblk, fun s f k h hsrc => ⟨_, rfl, event_shows h hsrc⟩⟩
  case rd32 =>
    obtain ⟨hord, hecc, hitems, hres, hcmp⟩ := read_answers h hb (.inl rfl) (n := 4) (inBytes_of_op h (by decide) e)
    refine ⟨_, rfl, hord, hecc, fun he hw => ?_, hres, fun he hoff _ _ => hcmp he hoff (.inl rfl)⟩
    have := hitems he hw
    rwa [take_storeBytes _ _ (by decide)] at this
  case rd64 =>
    obtain ⟨hord, hecc, hitems, hres, hcmp⟩ := read_answers h hb (.inr (.inl rfl)) (n := 8) (inBytes_of_op h (by decide) e)
    refine ⟨_, rfl, hord, hecc, fun he hw => ?_, hres, fun he hoff _ _ => hcmp he hoff (.inr rfl)⟩
    have := hitems he hw
    rwa [take_storeBytes _ _ (by decide)] at this
  case rdblk =>
    obtain ⟨hord, hecc, hitems, hres, hcmp⟩ := read_answers h hb (.inr (.inr rfl)) rfl
    refine ⟨_, rfl, hord, hecc, hitems, hres, fun he hoff hlen _ _ => ?_⟩
    have h8 : inBytes (inReq f e) = 8 := (inBytes_of_op h (by decide) e).trans (congrArg (fun l => 4 * l + 4) hlen)
    have := hcmp he hoff (.inr h8)
    rwa [h8] at this
  case wr32 =>
    refine ⟨_, rfl, fun hl hw => ?_, fun hl hw => ?_, fun hm hoff hl => ?_⟩ <;>
      obtain ⟨hitems, hres, hcmp⟩ := write_answers h hb (.inl rfl) (take_eq_self hl)
    · exact hitems (hl ▸ hw)
    · exact hres (hl ▸ hw)
    · obtain ⟨hlo, _, htop⟩ := hcmp hm hoff (.inl hl)
      exact ⟨hlo, htop⟩
  case wr64 =>
    refine ⟨_, rfl, fun hl hw => ?_, fun hl hw => ?_, fun hm hoff hl => ?_⟩ <;>
      obtain ⟨hitems, hres, hcmp⟩ := write_answers h hb (.inr (.inl rfl)) (take_eq_self hl)
    · exact hitems (hl ▸ hw)
    · exact hres (hl ▸ hw)
    · obtain ⟨hlo, hhi, htop⟩ := hcmp hm hoff (.inr hl)
      exact ⟨hlo, hhi hl, htop⟩
  case wrblk =>
    obtain ⟨hitems, hres, -⟩ := write_answers h hb (.inr (.inr rfl)) rfl
    refine ⟨_, rfl, hitems, hres, fun hm hoff hl hlen => ?_⟩
    obtain ⟨-, -, hcmp⟩ := write_answers h hb (.inr (.inr rfl)) (b := f.pay) (by rw [hlen]; exact take_eq_self hl)
    obtain ⟨hlo, hhi, htop⟩ := hcmp hm hoff (.inr hl)
    exact ⟨hlo, hhi hl, htop⟩

/-- What each atomic leaves: AND, OR, the sum modulo the width, or the second operand where the register equals the first. -/
theorem getD_and (n v a b : Nat) : (atomicNew 0 n v a b).getD v = v &&& a := rfl

theorem getD_or (n v a b : Nat) : (atomicNew 1 n v a b).getD v = v ||| a := rfl

theorem getD_add {n w : Nat} (v a b : Nat) (hw : 8 * n = w) : (atomicNew 2 n v a b).getD v = (v + a) % 2 ^ w := by
  rw [← hw]
  rfl

theorem getD_cas {n v a b : Nat} (ha : a < 256 ^ n) : (atomicNew 3 n v a b).getD v = if v = a then b else v := by
  have ha' : a < 2 ^ (8 * n) := by rwa [pow_mul]
  have hnew : atomicNew 3 n v a b = if v = a % 2 ^ (8 * n) then some b else none := rfl
  rw [hnew, Nat.mod_eq_of_lt ha']
  split <;> rfl

theorem cmpVal_four (s : State) : cmpVal s 4 = s.rd P.cores (F.CORES_MTIMECMP_LO_NS 0) := if_pos rfl

theorem cmpVal_eight (s : State) : cmpVal s 8 = s.rd64 P.cores (F.CORES_MTIMECMP_LO_NS 0) (F.CORES_MTIMECMP_HI_NS 0) := if_neg (by decide)

/-- The value that MTIMECMP0 holds after an atomic of 32 or 64 bits, given what it leaves of each value. -/
theorem atomic32_answers {s : State} {f : Frame} {op k j : Nat} {e : Bool} (h : nextRequest s f op k = true) (hb : inBlocked s (inReq f e) = false)
    (ho : 6 ≤ op ∧ op ≤ 9) (hj : op - 6 = j) {g : Nat → Nat}
    (hg : ∀ v, (atomicNew j 4 v (leVal (slice f.pay 0 4)) (leVal (slice f.pay 4 4))).getD v = g v) :
    (e = true → topAnswer (inFrame s op f e) k = some ((inReq f e).ord, TS.ecc, [])) ∧
      (e = false → winPart (inReq f e).off 4 = .items → (inFrame s op f e).drift.recs = s.drift.recs ∧
        topAnswer (inFrame s op f e) k = some ((inReq f e).ord, TS.readOnly, [])) ∧
      (e = false → winPart (inReq f e).off 4 = .reserved → topAnswer (inFrame s op f e) k = some ((inReq f e).ord, TS.addrErr, [])) ∧
      (e = false → MayWrite s ⟨8, f.src⟩ P.cores 0x080 → (inReq f e).off = 0x110080 → s.rd P.cores (F.CORES_MTIMECMP_LO_NS 0) < 2 ^ 32 →
        s.rd P.cores (F.CORES_MTIMECMP_HI_NS 0) < 2 ^ 32 →
        (inFrame s op f e).rd P.cores (F.CORES_MTIMECMP_LO_NS 0) = g (s.rd P.cores (F.CORES_MTIMECMP_LO_NS 0)) ∧
        topAnswer (inFrame s op f e) k = some ((inReq f e).ord, TS.ok, leBytes 4 (s.rd P.cores (F.CORES_MTIMECMP_LO_NS 0)))) := by
  have hn : inBytes (inReq f e) = 4 := by
    rw [inBytes_of_op h (by omega) e]
    obtain ⟨h6, h9⟩ := ho
    interval_cases op <;> rfl
  obtain ⟨hecc, hitems, hres, hcmp⟩ := atomic_answers (j := j) h hb (by omega) hn (.inl rfl) (by rw [if_pos (by omega), hj])
  refine ⟨hecc, hitems, hres, fun he hm hoff hlo hhi => ?_⟩
  obtain ⟨hval, htop⟩ := hcmp he hm hoff hlo hhi
  rw [hg, cmpVal_four, cmpVal_four] at hval
  exact ⟨hval, htop⟩

theorem atomic64_answers {s : State} {f : Frame} {op k j : Nat} {e : Bool} (h : nextRequest s f op k = true) (hb : inBlocked s (inReq f e) = false)
    (ho : 0xA ≤ op ∧ op ≤ 0xD) (hj : op - 0xA = j) {g : Nat → Nat}
    (hg : ∀ v, (atomicNew j 8 v (leVal (slice f.pay 0 8)) (leVal (slice f.pay 8 8))).getD v = g v) :
    (e = true → topAnswer (inFrame s op f e) k = some ((inReq f e).ord, TS.ecc, [])) ∧
      (e = false → winPart (inReq f e).off 8 = .items → (inFrame s op f e).drift.recs = s.drift.recs ∧
        topAnswer (inFrame s op f e) k = some ((inReq f e).ord, TS.readOnly, [])) ∧
      (e = false → winPart (inReq f e).off 8 = .reserved → topAnswer (inFrame s op f e) k = some ((inReq f e).ord, TS.addrErr, [])) ∧
      (e = false → MayWrite s ⟨8, f.src⟩ P.cores 0x080 → (inReq f e).off = 0x110080 → s.rd P.cores (F.CORES_MTIMECMP_LO_NS 0) < 2 ^ 32 →
        s.rd P.cores (F.CORES_MTIMECMP_HI_NS 0) < 2 ^ 32 →
        (inFrame s op f e).rd64 P.cores (F.CORES_MTIMECMP_LO_NS 0) (F.CORES_MTIMECMP_HI_NS 0) =
          g (s.rd64 P.cores (F.CORES_MTIMECMP_LO_NS 0) (F.CORES_MTIMECMP_HI_NS 0)) ∧
        topAnswer (inFrame s op f e) k = some ((inReq f e).ord, TS.ok,
          leBytes 4 (s.rd P.cores (F.CORES_MTIMECMP_LO_NS 0)) ++ leBytes 4 (s.rd P.cores (F.CORES_MTIMECMP_HI_NS 0)))) := by
  have hn : inBytes (inReq f e) = 8 := by
    rw [inBytes_of_op h (by omega) e]
    obtain ⟨h6, h9⟩ := ho
    interval_cases op <;> rfl
  obtain ⟨hecc, hitems, hres, hcmp⟩ := atomic_answers (j := j) h hb (by omega) hn (.inr rfl) (by rw [if_neg (by omega), hj])
  refine ⟨hecc, hitems, hres, fun he hm hoff hlo hhi => ?_⟩
  obtain ⟨hval, htop⟩ := hcmp he hm hoff hlo hhi
  rw [hg, cmpVal_eight, cmpVal_eight] at hval
  exact ⟨hval, htop⟩

/-- Settles O33. -/
theorem targetAtomics : Obligations.TargetAtomics :=
  ⟨fun _ _ _ _ h hb => ⟨_, rfl, atomic32_answers h hb (by decide) rfl fun _ => getD_and ..⟩,
    fun _ _ _ _ h hb => ⟨_, rfl, atomic32_answers h hb (by decide) rfl fun _ => getD_or ..⟩,
    fun _ _ _ _ h hb => ⟨_, rfl, atomic32_answers h hb (by decide) rfl fun _ => getD_add _ _ _ rfl⟩,
    fun _ f _ _ h hb => ⟨_, rfl, atomic32_answers (g := fun v => if v = leVal (slice f.pay 0 4) then leVal (slice f.pay 4 4) else v)
      h hb (by decide) rfl fun _ => getD_cas (leVal_slice_lt ..)⟩,
    fun _ _ _ _ h hb => ⟨_, rfl, atomic64_answers h hb (by decide) rfl fun _ => getD_and ..⟩,
    fun _ _ _ _ h hb => ⟨_, rfl, atomic64_answers h hb (by decide) rfl fun _ => getD_or ..⟩,
    fun _ _ _ _ h hb => ⟨_, rfl, atomic64_answers h hb (by decide) rfl fun _ => getD_add _ _ _ rfl⟩,
    fun _ f _ _ h hb => ⟨_, rfl, atomic64_answers (g := fun v => if v = leVal (slice f.pay 0 8) then leVal (slice f.pay 8 8) else v)
      h hb (by decide) rfl fun _ => getD_cas (leVal_slice_lt ..)⟩⟩

end Sys2Proof.Machine
end

section
/-!
PROOF. The switch: ports that go down, transmission, gates, Squall, a cell's ECC error and the end of a handover.
-/

namespace Sys2Proof.Machine

/-! ## Frames that stay where they are -/

/-- The queues of the switch and what is in transmission are as they were. -/
structure Lines (s t : State) : Prop where
  queues : t.sw.queues = s.sw.queues
  sending : t.sw.sending = s.sw.sending

theorem Lines.refl (s : State) : Lines s s := ⟨rfl, rfl⟩

theorem Lines.trans {s t u : State} (h : Lines s t) (k : Lines t u) : Lines s u := ⟨k.queues.trans h.queues, k.sending.trans h.sending⟩

theorem Lines.of_sw {s t : State} (h : t.sw = s.sw) : Lines s t := ⟨by rw [h], by rw [h]⟩

theorem Lines.ite {s t u : State} {c : Prop} [Decidable c] (h : Lines s t) (k : Lines s u) : Lines s (if c then t else u) := by
  split
  · exact h
  · exact k

theorem Lines.foldl {α : Type} {s t : State} {f : State → α → State} (hf : ∀ t a, Lines t (f t a)) (l : List α) (h : Lines s t) :
    Lines s (l.foldl f t) := by
  induction l generalizing t with
  | nil => exact h
  | cons a r ih => exact ih (h.trans (hf t a))

theorem Lines.each {s t : State} {n : Nat} {f : State → Nat → State} (hf : ∀ t a, Lines t (f t a)) (h : Lines s t) : Lines s (t.each n f) :=
  .foldl hf _ h

theorem Lines.swQueue {s t : State} (h : Lines s t) (q : Nat) : swQueue t q = swQueue s q := congrArg (fun l : Tbl (List SwEntry) => l.at [] q) h.queues

theorem raise_lines (s : State) (p k : Nat) : Lines s (raise s p k) := .of_sw ((raise_keeps ..).sw rfl)

theorem alert_lines (s : State) (p k : Nat) : Lines s (alert s p k) := .of_sw ((alert_keeps ..).sw rfl)

theorem dischargeCells_lines (s : State) (q k b : Nat) : Lines s (dischargeCells s q k b) := by
  unfold dischargeCells
  dsimp only
  split
  · exact Lines.trans (t := { s with sw := { s.sw with occ := s.sw.occ.put 0 q (qOcc s q - k), used := s.sw.used - b } }) ⟨rfl, rfl⟩
      (.of_sw ((sharedMin_keeps ..).sw rfl))
  · exact ⟨rfl, rfl⟩

theorem chargeCells_lines (s : State) (q k n : Nat) : Lines s (chargeCells s q k n) := by
  unfold chargeCells
  exact Lines.trans (t := { s with sw := { s.sw with occ := s.sw.occ.put 0 q (qOcc s q + k), used := s.sw.used + n } }) ⟨rfl, rfl⟩
    (.of_sw ((poolMonitor_keeps ..).sw rfl))

theorem releaseEntry_lines (s : State) (q : Nat) (e : SwEntry) : Lines s (releaseEntry s q e) := by
  unfold releaseEntry
  exact (dischargeCells_lines s q e.cells (if (s.sw.store.at (0, 0) e.id).1 ≤ 1 then e.cells else 0)).trans ⟨rfl, rfl⟩

theorem shapeTo_lines (s : State) (p t : Nat) : Lines s (shapeTo s p t) :=
  .ite (.refl s) (.each (fun u c => .ite ⟨rfl, rfl⟩ (.refl u)) (.refl s))

theorem shaperLatch_lines (s : State) (p c : Nat) : Lines s (shaperLatch s p c) := by
  refine .ite (.trans ?_ (alert_lines ..)) (.refl s)
  exact ⟨rfl, rfl⟩

theorem setQueueSt_lines (s : State) (q : Nat) (z : QSt) : Lines s (setQueueSt s q z) := by
  have hput : ∀ x, Lines s { s with ses := x } := fun _ => .of_sw rfl
  unfold setQueueSt
  exact .ite ((hput _).trans (chargeCells_lines ..)) ((hput _).trans (dischargeCells_lines ..))

theorem recycleFor_lines (s : State) (q k : Nat) : Lines s (recycleFor s q k).1 := by
  refine List.foldlRecOn (motive := fun a : State × Nat => Lines s a.1) _ _ (Lines.refl s) fun a h x _ => ?_
  dsimp only
  split
  · exact h
  · split
    · exact h
    · exact h.trans (setQueueSt_lines ..)

theorem qAdmit_lines (s : State) (q prio src tag info : Nat) (d : Bool) (head data : List Nat) (ses : Bool) :
    Lines s (qAdmit s q prio src tag info d head data ses).2 := by
  have hrecycle : ∀ c : Bool, Lines s (if c then recycleFor s q (itemCells head.length data.length) else (s, 0)).1 := fun c => by
    split
    · exact recycleFor_lines ..
    · exact .refl s
  unfold qAdmit
  dsimp only
  split
  · exact .refl s
  · generalize ha : (if (s.on (P.queue q) (F.QUEUE_Q_CFG_OVERWRITE (q % 16)) && decide (itemCells head.length data.length ≤ qMax s q)) = true then
        recycleFor s q (itemCells head.length data.length) else (s, 0)) = a
    have hq : Lines s a.1 := ha ▸ hrecycle _
    split
    · refine hq.trans (.trans ?_ (show Lines _ (setQueueSt _ _ _) from setQueueSt_lines ..))
      exact .of_sw rfl
    · exact .trans (.of_sw ((noteRefusal_keeps ..).sw rfl)) (.of_sw ((qRefuse_keeps ..).sw rfl))

theorem txComplete_lines (s : State) (m id : Nat) (t0 : Option Nat) : Lines s (txComplete s m id t0) := by
  unfold txComplete
  split
  · exact .refl s
  · cases t0 <;> dsimp only
    · refine Lines.trans ?_ (qAdmit_lines ..)
      exact .of_sw rfl
    · refine Lines.trans ?_ (qAdmit_lines ..)
      exact .of_sw rfl

/-! ## Registers that moving frames leaves -/

/-- Any register but a port's TX_BUSY and TX_FRAMES and the pool's count of uncorrectable errors. -/
def flowKey (k : Key) : Bool :=
  !(decide (0x011 ≤ k.page ∧ k.page < 0x01F) && ((k.off == 0x044 && k.lsb == 30) || k.off == 0x180)) && !(k.page == 0x020 && k.off == 0x088)

/-- What is in transmission, and the registers about it, are as they were. -/
structure Flowed (s t : State) : Prop where
  sending : t.sw.sending = s.sw.sending
  regs : RegsKeep flowKey s t

theorem Flowed.refl (s : State) : Flowed s s := ⟨rfl, .refl ..⟩

theorem Flowed.trans {s t u : State} (h : Flowed s t) (k : Flowed t u) : Flowed s u := ⟨k.sending.trans h.sending, h.regs.trans k.regs⟩

theorem Flowed.of_lines {s t : State} (h : Lines s t) (k : RegsKeep flowKey s t) : Flowed s t := ⟨h.sending, k⟩

theorem Flowed.put {s t : State} (h : t.sw.sending = s.sw.sending) (k : t.regs = s.regs) : Flowed s t := ⟨h, .of_eq k⟩

theorem Flowed.ite {s t u : State} {c : Prop} [Decidable c] (h : Flowed s t) (k : Flowed s u) : Flowed s (if c then t else u) := by
  split
  · exact h
  · exact k

theorem Flowed.ite_snd {α : Type} {s : State} {a b : α × State} {c : Prop} [Decidable c] (h : Flowed s a.2) (k : Flowed s b.2) :
    Flowed s (if c then a else b).2 := by
  split
  · exact h
  · exact k

theorem Flowed.foldl {α : Type} {s t : State} {f : State → α → State} (l : List α) (hf : ∀ t a, a ∈ l → Flowed t (f t a)) (h : Flowed s t) :
    Flowed s (l.foldl f t) := by
  induction l generalizing t with
  | nil => exact h
  | cons a r ih => exact ih (fun t b hb => hf t b (by simp [hb])) (h.trans (hf t a (by simp)))

theorem Flowed.each {s t : State} {n : Nat} {f : State → Nat → State} (hf : ∀ t a, a < n → Flowed t (f t a)) (h : Flowed s t) :
    Flowed s (t.each n f) := .foldl _ (fun t a ha => hf t a (List.mem_range.mp ha)) h

theorem Flowed.wr {s t : State} (h : Flowed s t) (p : Nat) (f : Fld) (v : Nat) (hk : flowKey ⟨p, f.off, f.lsb, 0⟩ = true) : Flowed s (t.wr p f v) :=
  ⟨h.sending, h.regs.wr v hk⟩

theorem flowKey_event {k : Key} (h : flowKey k = false) : evKey k = false := by
  simp only [flowKey, Bool.and_eq_false_iff, Bool.not_eq_false', Bool.and_eq_true, decide_eq_true_eq, Bool.or_eq_true, beq_iff_eq] at h
  simp only [evKey, Bool.or_eq_false_iff, Bool.and_eq_false_iff, beq_eq_false_iff_ne, decide_eq_false_iff_not]
  refine ⟨⟨⟨⟨⟨⟨⟨⟨?_, ?_⟩, ?_⟩, ?_⟩, ?_⟩, ?_⟩, ?_⟩, ?_⟩, ?_⟩ <;> omega

theorem flowKey_off {p o : Nat} (l : Nat) (h : o ≠ 0x044 ∧ o ≠ 0x088 ∧ o ≠ 0x180) : flowKey ⟨p, o, l, 0⟩ = true := by
  simp [flowKey, h.1, h.2.1, h.2.2]

theorem raise_flowed (s : State) (p k : Nat) : Flowed s (raise s p k) := .of_lines (raise_lines ..) ((raise_regs s p k).mono fun _ => flowKey_event)

theorem alert_flowed (s : State) (p k : Nat) : Flowed s (alert s p k) :=
  .ite (.refl s) (((Flowed.refl s).wr _ F.SWPORT_ALERT_STAT_ALERT _ (flowKey_off _ (by decide))).trans (raise_flowed ..))

theorem sharedMin_flowed (s : State) : Flowed s (sharedMin s) :=
  .ite ((Flowed.refl s).wr _ _ _ (by decide)) (.refl s)

theorem poolMonitor_flowed (s : State) (b : Nat) : Flowed s (poolMonitor s b) := by
  have hmax : Flowed s (s.maxr P.pool F.CELLPOOL_USED_MAX_CELLS s.sw.used) := .ite ((Flowed.refl s).wr _ _ _ (by decide)) (.refl s)
  refine Flowed.trans (.each (fun t k _ => ?_) (hmax.trans (sharedMin_flowed _))) (.ite (raise_flowed ..) (.refl _))
  exact .ite (((Flowed.refl t).wr _ _ _ (by decide)).trans (raise_flowed ..)) (.refl t)

theorem chargeCells_flowed (s : State) (q k n : Nat) : Flowed s (chargeCells s q k n) :=
  Flowed.trans (t := { s with sw := { s.sw with occ := s.sw.occ.put 0 q (qOcc s q + k), used := s.sw.used + n } }) (.put rfl rfl) (poolMonitor_flowed ..)

theorem dischargeCells_flowed (s : State) (q k b : Nat) : Flowed s (dischargeCells s q k b) := by
  refine .ite (.trans ?_ (sharedMin_flowed _)) ?_ <;> exact .put rfl rfl

theorem releaseEntry_flowed (s : State) (q : Nat) (e : SwEntry) : Flowed s (releaseEntry s q e) :=
  (dischargeCells_flowed s q e.cells (if (s.sw.store.at (0, 0) e.id).1 ≤ 1 then e.cells else 0)).trans (.put rfl rfl)

theorem flowKey_credit (p c l : Nat) : flowKey ⟨P.swport p, (F.SWPORT_CREDIT_BITS c).off, l, 0⟩ = true := by
  refine flowKey_off _ ?_
  simp only [F.SWPORT_CREDIT_BITS]
  omega

theorem shapeTo_flowed (s : State) (p t : Nat) : Flowed s (shapeTo s p t) := by
  refine .ite (.refl s) (.each (fun u c _ => .ite ?_ (.refl u)) (.refl s))
  exact (show ∀ x, Flowed u (setShaper u p c x) from fun _ => .put rfl rfl) _ |>.wr _ _ _ (flowKey_credit ..)

theorem setSwQueue_flowed (s : State) (q : Nat) (l : List SwEntry) : Flowed s (setSwQueue s q l) := (shapeTo_flowed ..).trans (.put rfl rfl)

theorem shaperLatch_flowed (s : State) (p : Nat) {c : Nat} (hc : c < 4) : Flowed s (shaperLatch s p c) := by
  refine .ite (.trans ?_ (alert_flowed ..)) (.refl s)
  have hdiscard : ∀ v, Flowed s (s.wr (P.swport p) (F.SWPORT_LAST_DISCARD_BITS c) v) := fun v =>
    (Flowed.refl s).wr _ _ v (flowKey_off _ (by simp only [F.SWPORT_LAST_DISCARD_BITS]; omega))
  have hset : ∀ v x, Flowed s (setShaper (s.wr (P.swport p) (F.SWPORT_LAST_DISCARD_BITS c) v) p c x) := fun v x => (hdiscard v).trans (.put rfl rfl)
  exact ((hset _ _).wr _ _ _ (flowKey_credit ..)).wr _ F.SWPORT_SHAPER_RESETS_N _ (flowKey_off _ (by decide))

/-! ## A frame of the node's own -/

theorem enqueue_flowed (s : State) (q id : Nat) (f : Frame) (k : Nat) (r c : Bool) (i n : Nat) : Flowed s (enqueue s q id f k r c i n) := by
  unfold enqueue
  dsimp only
  refine Flowed.trans (.trans (chargeCells_flowed s q k (if (s.sw.store.at (0, 0) id).1 = 0 then k else 0)) ?_) (setSwQueue_flowed ..)
  exact .put rfl rfl

theorem noteRefusal_flowed (s : State) (r : Nat) : Flowed s (noteRefusal s r) := by
  unfold noteRefusal State.when
  exact .ite ((Flowed.refl s).wr _ F.CELLPOOL_CNT_ALLOC_FAIL_N _ (by decide)) (.refl s)

theorem admitOne_flowed (s : State) (p id : Nat) (f : Frame) (r c : Bool) (i : Nat) : Flowed s (admitOne s p id f r c i).2 := by
  unfold admitOne
  dsimp only
  exact .ite_snd (.refl s) (.ite_snd (enqueue_flowed ..) (noteRefusal_flowed ..))

theorem dropAt_flowed (s : State) (p : Nat) {c : Nat} (hc : c < 8) : Flowed s (dropAt s p c) :=
  ((Flowed.refl s).wr _ _ _ (flowKey_off _ (by simp only [F.SWPORT_DROP_N]; omega))).trans (alert_flowed ..)

theorem tryOriginate_flowed (s : State) {o : Offer} (hc : o.frame.cls < 8) : Flowed s (tryOriginate s o).2 := by
  have hnew : Flowed s (newId s).2 := .put rfl rfl
  have hnext : ∀ t k g, Flowed t (haloSeqNext t k g) := fun t k g => .put rfl rfl
  have hdrop : ∀ (l : List (Nat × Nat)), Flowed s (l.foldl (fun u x => dropAt u x.1 o.frame.cls) (newId s).2) := fun l =>
    .foldl _ (fun _ _ _ => dropAt_flowed _ _ hc) hnew
  have hput : ∀ (l : List (Nat × Nat)) (u : State) i (g : Nat × Nat → Frame) n, Flowed s u →
      Flowed s (l.foldl (fun u c => putOne u c.1 i (g c) true false n) u) := fun _ _ _ _ _ h => .foldl _ (fun _ _ _ => enqueue_flowed ..) h
  unfold tryOriginate
  dsimp only
  refine .ite_snd (.refl s) (.ite_snd (.refl s) (.ite_snd (.refl s) (.ite_snd (.ite_snd ?_ ?_) ?_)))
  · have hstamp : ∀ {u : State} (x : Option Nat), Flowed s u → Flowed s (match x with
        | some x => stampEntry u (newId s).1 x
        | none => u) := fun x hu => by
      cases x with
      | none => exact hu
      | some x => exact hu.trans (.put rfl rfl)
    exact .ite ((hstamp _ (hput _ _ _ _ _ (hdrop ..))).trans (hnext ..)) (hstamp _ (hput _ _ _ _ _ (hdrop ..)))
  · exact .ite (.refl s) (.foldl _ (fun _ _ _ => noteRefusal_flowed ..) (.refl s))
  · refine Flowed.ite (.trans ?_ (hnext ..)) ?_ <;>
    · refine List.foldlRecOn (motive := fun a : Bool × State => Flowed s a.2) _ _ hnew fun a h c _ => ?_
      exact .ite_snd (h.trans (admitOne_flowed ..)) ((h.trans (admitOne_flowed ..)).trans (dropAt_flowed _ _ hc))

theorem offerWaits_flowed (s : State) (o : Offer) : Flowed s (offerWaits s o).2 := by
  unfold offerWaits
  exact .ite_snd ((Flowed.refl s).wr _ F.SWPORT_BP_COUNT_N _ (flowKey_off _ (by decide))) (.refl s)

theorem offerTry_flowed (s : State) {o : Offer} (hc : o.frame.cls < 8) : Flowed s (offerTry s o).2.2 := by
  unfold offerTry
  dsimp only
  split
  · exact offerWaits_flowed ..
  · split
    · exact tryOriginate_flowed s hc
    · exact (tryOriginate_flowed s hc).trans (offerWaits_flowed ..)

theorem originateOn_flowed (s : State) (k : Bool) (p : Nat) {f : Frame} (hc : f.cls < 8) (re rw : Nat) (x : Option Nat) :
    Flowed s (originateOn s k p f re rw x) := by
  unfold originateOn
  dsimp only
  exact .ite (offerTry_flowed _ hc) ((offerTry_flowed _ hc).trans (.put rfl rfl))

theorem originate_flowed (s : State) (p : Nat) {f : Frame} (hc : f.cls < 8) (re rw : Nat) : Flowed s (originate s p f re rw) := by
  unfold originate
  dsimp only
  exact .ite (.ite ((originateOn_flowed _ _ _ hc ..).trans (originateOn_flowed _ _ _ hc ..)) (originateOn_flowed _ _ _ hc ..))
    (originateOn_flowed _ _ _ hc ..)

theorem dumpPump_flowed (s : State) : Flowed s (dumpPump s) := by
  refine .ite ?_ (.refl s)
  have hdraw : ∀ {m : Nat} {t : State}, Keeps m s t → m.testBit 1 = false → m.testBit 14 = false → Flowed s t := fun h hr hs =>
    .put (by rw [h.sw hs]) (h.regs hr)
  have hcls : ∀ {u : State} {a b c d}, (dumpOut u a b c d).cls < 8 := by intros; exact (by decide : 3 < 8)
  have hread : ∀ k x n, Flowed s (segRead s k x n).2 := fun k x n => hdraw (segRead_keeps ..) rfl rfl
  have hcrc : ∀ k, Flowed s (if segOpen s k then segCrc s k else (0, s)).2 := fun k => .ite_snd (hdraw (segCrc_keeps ..) rfl rfl) (.refl s)
  unfold dumpSend
  split
  · exact .refl s
  next k x e r _ =>
    split
    · refine Flowed.trans (.trans (hread k x (min 2048 (e - x))) ?_) (originate_flowed _ _ hcls _ _)
      exact .put rfl rfl
    · refine Flowed.trans ((hcrc k).trans ?_) (originate_flowed _ _ hcls _ _)
      exact .put rfl rfl

/-! ## The end of a transmission -/

theorem flowKey_txFrames (p : Nat) : flowKey ⟨P.swport p, F.SWPORT_TX_FRAMES_N.off, F.SWPORT_TX_FRAMES_N.lsb, 0⟩ = false := by
  have : 0x011 ≤ P.swport p ∧ P.swport p < 0x01F := by unfold P.swport; omega
  simp [flowKey, F.SWPORT_TX_FRAMES_N, this]

theorem flowKey_txBusy (p : Nat) : flowKey ⟨P.swport p, F.SWPORT_PORT_STAT_TX_BUSY.off, F.SWPORT_PORT_STAT_TX_BUSY.lsb, 0⟩ = false := by
  have : 0x011 ≤ P.swport p ∧ P.swport p < 0x01F := by unfold P.swport; omega
  simp [flowKey, F.SWPORT_PORT_STAT_TX_BUSY, this]

/-- Nothing is in transmission at the port, TX_BUSY is 0, and the count of its frames is as it was. -/
theorem sendOver_leaves (s : State) (p : Nat) : (sendOver s p).sw.sending = s.sw.sending.put none p none ∧
    (sendOver s p).rd (P.swport p) F.SWPORT_PORT_STAT_TX_BUSY = 0 ∧ ∀ q f, f.off ≠ 0x044 → flowKey ⟨q, f.off, f.lsb, 0⟩ = false →
      (sendOver s p).rd q f = s.rd q f := by
  set u : State := { s with sw := { s.sw with sending := s.sw.sending.put none p none } }.wr (P.swport p) F.SWPORT_PORT_STAT_TX_BUSY 0 with hu
  have hbusy : u.rd (P.swport p) F.SWPORT_PORT_STAT_TX_BUSY = 0 := rd_wr_same ..
  have hf : Flowed u (sendOver s p) := by
    have hlatch : Flowed u (u.each 4 fun u c => if p < 8 then shaperLatch u p c else u) :=
      .each (fun t c hc => .ite (shaperLatch_flowed _ _ hc) (.refl t)) (.refl u)
    exact .ite (hlatch.wr _ F.HDR_PAGE_STAT_STOPPED _ (flowKey_off _ (by decide))) hlatch
  exact ⟨hf.sending, (hf.regs.rd _ _ (flowKey_txBusy p)).trans hbusy, fun q f ho hk => (hf.regs.rd _ _ hk).trans
    (rd_wr_apart _ _ (by simp only [keyApart, F.SWPORT_PORT_STAT_TX_BUSY, Bool.or_eq_true, bne_iff_ne]; omega))⟩

/-- What is so of port `p` once a transmission there has ended: nothing is in transmission, and the frame is counted. -/
structure SendEnded (p : Nat) (s t : State) : Prop where
  sending : t.sw.sending.at none p = none
  busy : t.rd (P.swport p) F.SWPORT_PORT_STAT_TX_BUSY = 0
  frames : t.rd (P.swport p) F.SWPORT_TX_FRAMES_N = satAdd F.SWPORT_TX_FRAMES_N.width (s.rd (P.swport p) F.SWPORT_TX_FRAMES_N) 1

theorem SendEnded.flowed {p : Nat} {s t u : State} (h : SendEnded p s t) (k : Flowed t u) : SendEnded p s u :=
  ⟨by rw [k.sending]; exact h.sending, (k.regs.rd _ _ (flowKey_txBusy p)).trans h.busy, (k.regs.rd _ _ (flowKey_txFrames p)).trans h.frames⟩

theorem transmitEnd_ends {s : State} {p x : Nat} {e : SwEntry} {c b : Nat} (h : s.sw.sending.at none p = some (e, c, b)) :
    SendEnded p s (transmitEnd s p x) := by
  unfold transmitEnd
  rw [h]
  dsimp only
  set u : State := (shapeTo s p x).inc (P.swport p) F.SWPORT_TX_FRAMES_N with hu
  have hcount : u.rd (P.swport p) F.SWPORT_TX_FRAMES_N = satAdd F.SWPORT_TX_FRAMES_N.width (s.rd (P.swport p) F.SWPORT_TX_FRAMES_N) 1 :=
    (rd_inc_same ..).trans (by rw [(shapeTo_flowed s p x).regs.rd _ _ (flowKey_txFrames p)]; rfl)
  have hrel : Flowed u (releaseEntry u (8 * p + c) e) := releaseEntry_flowed ..
  have hsent : Flowed u (if p < 8 then (releaseEntry u (8 * p + c) e).emit p e.frame
      else { releaseEntry u (8 * p + c) e with delivered := (p, e.frame) :: (releaseEntry u (8 * p + c) e).delivered }) :=
    .ite (hrel.trans (.put rfl rfl)) (hrel.trans (.put rfl rfl))
  generalize (if p < 8 then (releaseEntry u (8 * p + c) e).emit p e.frame
      else { releaseEntry u (8 * p + c) e with delivered := (p, e.frame) :: (releaseEntry u (8 * p + c) e).delivered }) = v at hsent ⊢
  have hlane : Flowed u (if p < 4 then v.inc (P.lane (portLane v p)) F.LANE_TX_FRAMES_N else v) :=
    .ite (hsent.wr _ F.LANE_TX_FRAMES_N _ (flowKey_off _ (by decide))) hsent
  generalize (if p < 4 then v.inc (P.lane (portLane v p)) F.LANE_TX_FRAMES_N else v) = w at hlane ⊢
  have hend : ∀ z, Flowed u z → SendEnded p s (sendOver z p) := fun z hz => by
    obtain ⟨hsend, hbusy, hframes⟩ := sendOver_leaves z p
    exact ⟨by rw [hsend, Tbl.at_put_same], hbusy,
      (hframes _ _ (by decide) (flowKey_txFrames p)).trans ((hz.regs.rd _ _ (flowKey_txFrames p)).trans hcount)⟩
  exact hend _ (.ite ((hlane.wr _ F.SWPORT_GATE_OVERRUN_N _ (flowKey_off _ (by decide))).trans (alert_flowed ..)) hlane)

/-- The end of a transmission, with what an ETH port reports of it. -/
theorem transmitEndFull_ends {s : State} {p x : Nat} {e : SwEntry} {c b : Nat} (h : s.sw.sending.at none p = some (e, c, b)) :
    SendEnded p s (transmitEndFull s p x) := by
  have hend := transmitEnd_ends (x := x) h
  unfold transmitEndFull
  split
  next hp =>
    rw [h]
    dsimp only
    have hkey : flowKey ⟨P.eth (p - 4), F.ETH_TX_FRAMES_N.off, F.ETH_TX_FRAMES_N.lsb, 0⟩ = true := by
      have : ¬P.eth (p - 4) < 0x01F ∧ P.eth (p - 4) ≠ 0x020 := by unfold P.eth; omega
      simp [flowKey, this]
    have hcount := hend.flowed ((Flowed.refl _).wr _ _ (satAdd F.ETH_TX_FRAMES_N.width ((transmitEnd s p x).rd (P.eth (p - 4)) F.ETH_TX_FRAMES_N) 1) hkey)
    refine ⟨?_, ?_, ?_⟩
    · rw [(txComplete_lines ..).sending]
      exact hcount.sending
    · exact ((txComplete_keeps ..).rd_body group_swport (by decide) rfl).trans hcount.busy
    · exact ((txComplete_keeps ..).rd_body group_swport (by decide) rfl).trans hcount.frames
  next => exact hend

/-! ## A port that is down -/

theorem sendOver_lines (s : State) (p : Nat) : Lines { s with sw := { s.sw with sending := s.sw.sending.put none p none } } (sendOver s p) := by
  have hbusy : Lines { s with sw := { s.sw with sending := s.sw.sending.put none p none } }
      ({ s with sw := { s.sw with sending := s.sw.sending.put none p none } }.wr (P.swport p) F.SWPORT_PORT_STAT_TX_BUSY 0) := .of_sw rfl
  have hlatch := Lines.each (n := 4) (f := fun u c => if p < 8 then shaperLatch u p c else u) (fun u c => .ite (shaperLatch_lines ..) (.refl u)) hbusy
  exact .ite (hlatch.trans (.of_sw rfl)) hlatch

/-- Class `c` of port `p` flushed. -/
def flushClass (p : Nat) (t : State) (c : Nat) : State :=
  if (swQueue t (8 * p + c)).isEmpty then t
  else alert ((setSwQueue ((swQueue t (8 * p + c)).foldl (fun u e => releaseEntry u (8 * p + c) e) t) (8 * p + c) []).inc (P.swport p)
    (F.SWPORT_FLUSH_N c) (swQueue t (8 * p + c)).length) p 1

theorem swQueue_flushClass (p : Nat) (t : State) (c r : Nat) : swQueue (flushClass p t c) r = if r = 8 * p + c then [] else swQueue t r := by
  unfold flushClass
  split
  next h =>
    split
    next hr => rw [hr]; exact List.isEmpty_iff.mp h
    next => rfl
  next =>
    rw [(alert_lines ..).swQueue]
    refine (swQueue_setSwQueue ..).trans ?_
    split
    · rfl
    · exact (Lines.foldl (fun u e => releaseEntry_lines ..) _ (.refl t)).swQueue r

theorem flushPort_empties (s : State) (p : Nat) : (∀ c < 8, swQueue (flushPort s p) (8 * p + c) = []) ∧ (flushPort s p).sw.sending.at none p = none := by
  have hqueues : ∀ c < 8, swQueue (s.each 8 (flushClass p)) (8 * p + c) = [] :=
    each_establishes (n := 8) (f := flushClass p) (q := fun t c => swQueue t (8 * p + c) = [])
      (fun t c _ => by rw [swQueue_flushClass, if_pos rfl])
      (fun t a b _ _ _ h => by
        rw [swQueue_flushClass]
        split
        · rfl
        · exact h) s
  have hsent : ∀ (u : State) e c, (∀ c < 8, swQueue u (8 * p + c) = []) →
      (∀ k < 8, swQueue (sendOver (releaseEntry (shapeTo u p u.now) (8 * p + c) e) p) (8 * p + k) = []) ∧
        (sendOver (releaseEntry (shapeTo u p u.now) (8 * p + c) e) p).sw.sending.at none p = none := fun u e c hu => by
    have hl := (shapeTo_lines u p u.now).trans (releaseEntry_lines (shapeTo u p u.now) (8 * p + c) e)
    generalize releaseEntry (shapeTo u p u.now) (8 * p + c) e = v at hl
    refine ⟨fun k hk => ?_, ?_⟩
    · rw [(sendOver_lines ..).swQueue]
      exact (hl.swQueue _).trans (hu k hk)
    · rw [(sendOver_lines ..).sending]
      exact Tbl.at_put_same v.sw.sending none p none
  unfold flushPort
  dsimp only
  split
  next e c _ _ => exact hsent _ e c hqueues
  next h => exact ⟨hqueues, h⟩

theorem flushFull_empties (s : State) (p : Nat) : (∀ c < 8, swQueue (flushFull s p) (8 * p + c) = []) ∧ (flushFull s p).sw.sending.at none p = none := by
  have hkeep : ∀ u v : State, Lines (flushPort u p) v → (∀ c < 8, swQueue v (8 * p + c) = []) ∧ v.sw.sending.at none p = none := fun u v hl => by
    obtain ⟨hq, hs⟩ := flushPort_empties u p
    exact ⟨fun c hc => (hl.swQueue _).trans (hq c hc), by rw [hl.sending]; exact hs⟩
  unfold flushFull
  exact hkeep _ _ (.ite (.foldl (fun _ _ => txComplete_lines ..) _ (.refl _)) (.refl _))

/-! ## A stored frame that ends -/

theorem foldl_releaseEntry_lines (s : State) (q : Nat) (l : List SwEntry) : Lines s (l.foldl (fun u e => releaseEntry u q e) s) :=
  .foldl (fun u e => releaseEntry_lines ..) _ (.refl s)

/-- A frame taken out of queues stands in none of them, and the others are as before. -/
theorem swQueue_dropStored (s : State) (id : Nat) (qs : List Nat) (r : Nat) :
    swQueue (dropStored s id qs) r = if r ∈ qs then (swQueue s r).filter (·.id != id) else swQueue s r := by
  unfold dropStored
  induction qs generalizing s with
  | nil => rfl
  | cons q qs ih =>
    rw [List.foldl_cons, ih]
    dsimp only
    have hq : swQueue (setSwQueue (((swQueue s q).filter (·.id == id)).foldl (fun u e => releaseEntry u q e) s) q ((swQueue s q).filter (·.id != id))) r =
        if r = q then (swQueue s q).filter (·.id != id) else swQueue s r := by
      rw [swQueue_setSwQueue, (foldl_releaseEntry_lines ..).swQueue]
    rw [hq]
    by_cases hr : r = q
    · subst hr
      simp [List.filter_filter]
    · simp [hr]

theorem flowKey_eccUncorr : flowKey ⟨P.pool, F.CELLPOOL_CNT_ECC_UNCORR_N.off, F.CELLPOOL_CNT_ECC_UNCORR_N.lsb, 0⟩ = false := by decide

/-- A stored frame that ends leaves the count of uncorrectable errors. -/
theorem rd_stompStored (s : State) (id : Nat) : (stompStored s id).rd P.pool F.CELLPOOL_CNT_ECC_UNCORR_N = s.rd P.pool F.CELLPOOL_CNT_ECC_UNCORR_N := by
  have hk : ∀ {u v : State}, Flowed u v → v.rd P.pool F.CELLPOOL_CNT_ECC_UNCORR_N = u.rd P.pool F.CELLPOOL_CNT_ECC_UNCORR_N := fun h =>
    h.regs.rd _ _ flowKey_eccUncorr
  unfold stompStored
  refine (hk (.foldl _ (fun t q _ => .trans (.foldl _ (fun u e _ => releaseEntry_flowed ..) (.refl t)) (setSwQueue_flowed ..)) (.refl _))).trans ?_
  refine foldl_part (fun t => t.rd P.pool F.CELLPOOL_CNT_ECC_UNCORR_N) (fun t p => ?_) _ _
  dsimp only
  split
  next e c _ _ =>
    have hover : (sendOver (releaseEntry (shapeTo t p t.now) (8 * p + c) e) p).rd P.pool F.CELLPOOL_CNT_ECC_UNCORR_N =
        t.rd P.pool F.CELLPOOL_CNT_ECC_UNCORR_N :=
      ((sendOver_leaves ..).2.2 _ _ (by decide) flowKey_eccUncorr).trans (hk ((shapeTo_flowed ..).trans (releaseEntry_flowed ..)))
    generalize sendOver (releaseEntry (shapeTo t p t.now) (8 * p + c) e) p = z at hover ⊢
    have hstomp : Flowed z (if p < 8 then z.emitStomp p e.frame else z) := .ite (.put rfl rfl) (.refl z)
    generalize (if p < 8 then z.emitStomp p e.frame else z) = y at hstomp ⊢
    have hcount : Flowed z (if p < 4 then y.inc (P.lane (portLane y p)) F.LANE_STOMP_SENT_N
        else if p < 8 then countRaise y (P.eth (p - 4)) F.ETH_STOMP_TX_N (P.eth (p - 4)) 1 else y) :=
      .ite (hstomp.wr _ F.LANE_STOMP_SENT_N _ (flowKey_off _ (by decide)))
        (.ite ((hstomp.wr _ F.ETH_STOMP_TX_N _ (flowKey_off _ (by decide))).trans (raise_flowed ..)) hstomp)
    split
    · exact (hk hcount).trans hover
    · rfl
  · rfl

/-! ## The start of a transmission, gates and the Squall interval -/

/-- Bringing credits up to date leaves every register but the credits. -/
theorem rd_shapeTo (s : State) (p t q : Nat) (f : Fld) (hf : f.off < 0x0AC) : (shapeTo s p t).rd q f = s.rd q f := by
  unfold shapeTo
  split
  · rfl
  · refine foldl_part (fun u => u.rd q f) (fun u c => ?_) _ _
    dsimp only
    split
    · exact rd_wr_apart _ _ (by simp only [keyApart, F.SWPORT_CREDIT_BITS, Bool.or_eq_true, bne_iff_ne]; omega)
    · rfl

theorem gclList_congr {s u : State} {p : Nat} (h : ∀ q f, f.off < 0x0AC → u.rd q f = s.rd q f) (l w : Nat) : gclList u p l w = gclList s p l w := by
  have hoff : ∀ k < 8, gclOffset u p k w = gclOffset s p k w := fun k hk => by
    unfold gclOffset State.on
    rw [h _ (F.SWPORT_GCL_AT_W k) (by simp only [F.SWPORT_GCL_AT_W]; omega), h _ (F.SWPORT_GCL_OFFSET k) (by simp only [F.SWPORT_GCL_OFFSET]; omega)]
  have hvalid : ∀ k < 8, u.on (P.swport p) (F.SWPORT_GCL_VALID k) = s.on (P.swport p) (F.SWPORT_GCL_VALID k) := fun k hk => by
    unfold State.on
    rw [h _ (F.SWPORT_GCL_VALID k) (by simp only [F.SWPORT_GCL_VALID]; omega)]
  unfold gclList
  rw [List.filter_congr (q := fun k => s.on (P.swport p) (F.SWPORT_GCL_VALID k) && decide (gclOffset s p k w < l)) fun k hk => by
    rw [hvalid k (List.mem_range.mp hk), hoff k (List.mem_range.mp hk)]]
  refine List.map_congr_left fun k hk => ?_
  have hk8 : k < 8 := List.mem_range.mp (List.mem_filter.mp hk).1
  rw [hoff k hk8, h _ (F.SWPORT_GCL_GATES k) (by simp only [F.SWPORT_GCL_GATES]; omega)]

theorem gatesNow_shapeTo (s : State) (p x : Nat) : gatesNow (shapeTo (s.atTime x) p x) p x = gatesNow s p x := by
  have hrd : ∀ q f, f.off < 0x0AC → (shapeTo (s.atTime x) p x).rd q f = s.rd q f := fun q f hf => rd_shapeTo _ _ _ _ _ hf
  have htime : (shapeTo (s.atTime x) p x).time = (s.atTime x).time := (shapeTo_keeps ..).time rfl
  have hlen : (shapeTo (s.atTime x) p x).tickL = s.tickL := hrd _ _ (by decide)
  have hw : (shapeTo (s.atTime x) p x).winW = s.winW := by
    unfold State.winW State.tickF
    rw [hlen, hrd _ _ (by decide)]
  have hpos : tickPos (shapeTo (s.atTime x) p x) x = tickPos s x := by
    unfold tickPos State.st
    rw [htime, hlen, hrd _ _ (by decide)]
    rfl
  unfold gatesNow
  rw [hlen, hw, hpos, gclList_congr hrd]

/-- The end of the Squall interval that follows the instant `max now n` lies ahead of it, in steps of `len` from `n`. -/
theorem squall_next {now n len : Nat} (hlen : 0 < len) : now < n + len * ((max now n - n) / len + 1) ∧ n < n + len * ((max now n - n) / len + 1) := by
  have h := Nat.div_add_mod (max now n - n) len
  have hm := Nat.mod_lt (max now n - n) hlen
  rw [Nat.mul_add, Nat.mul_one]
  omega

theorem sqLen_pos (s : State) (m : Nat) : 0 < sqLen s m := by
  unfold sqLen clampNat
  omega

/-- With nothing on offer, offering again changes nothing. -/
theorem pumpOffers_nil {s : State} (h : s.sw.offers = []) : pumpOffers s = s := by
  unfold pumpOffers
  rw [h, List.foldl_nil, ← h]

/-- The head of the highest eligible class leaves its queue for the wire. -/
theorem transmitStart_starts {s : State} {p x c : Nat} {e : SwEntry} {r : List SwEntry} (hup : portDown s p = false)
    (hstop : s.stopReq (P.swport p) = false) (hsend : s.sw.sending.at none p = none)
    (htop : topClass ((shapeTo s p x).each 8 fun u c => purgeHead u p c (swQueue u (8 * p + c)).length) p x = some c)
    (hq : swQueue ((shapeTo s p x).each 8 fun u c => purgeHead u p c (swQueue u (8 * p + c)).length) (8 * p + c) = e :: r) :
    ((transmitStart s p x).sw.sending.at none p).map (fun y => (y.1.id, y.1.frame, y.2.1, y.2.2)) = some (e.id, (departs e x).frame, c, x) ∧
      swQueue (transmitStart s p x) (8 * p + c) = r ∧ (transmitStart s p x).rd (P.swport p) F.SWPORT_PORT_STAT_TX_BUSY = 1 := by
  unfold transmitStart
  rw [if_neg (by simp [hup, hstop, hsend])]
  dsimp only
  rw [htop]
  dsimp only
  rw [hq]
  dsimp only
  have hid : (departs e x).id = e.id := by unfold departs; split <;> rfl
  have hput : ∀ (v : State) y, ({ v with sw := { v.sw with sending := v.sw.sending.put none p y } }.wr (P.swport p)
      F.SWPORT_PORT_STAT_TX_BUSY 1).sw.sending.at none p = y := fun v y => Tbl.at_put_same v.sw.sending none p y
  refine ⟨?_, (swQueue_setSwQueue ..).trans (if_pos rfl), rd_wr_same ..⟩
  rw [hput, Option.map_some, hid]

/-- Settles O29. -/
theorem switchCommands : Obligations.SwitchCommands := by
  refine ⟨fun s p halive hp hdown => ?down, fun s p x c e r hrun hup hstop hsend hoff htop hq => ?start,
    fun s p x e c b hrun hsend => ⟨_, congrArg Host.Outcome.next (if_pos hrun), ?ended⟩,
    fun s p x hrun hp => ⟨_, congrArg Host.Outcome.next (if_pos (by simp [hrun, hp])), ?gate⟩,
    fun s m halive hm => ⟨_, congrArg Host.Outcome.next (if_pos (by simp [halive, hm])), ?squall⟩,
    fun s i a halive hstored => ⟨_, congrArg Host.Outcome.next ((if_pos halive).trans (if_pos hstored)), ?ecc⟩,
    fun s halive hfail hdone => ⟨_, congrArg Host.Outcome.next (if_pos (by simp [halive, hfail, hdone])), ?handover⟩⟩
  case down =>
    obtain ⟨hq, hs⟩ := flushFull_empties s p
    refine ⟨_, congrArg Host.Outcome.next (if_pos (by simp [halive, hp, hdown])), ?_, hs⟩
    simp only [List.all_eq_true, List.mem_range, List.isEmpty_iff]
    exact hq
  case start =>
    have hpump : pumpOffers (s.atTime x) = s.atTime x := pumpOffers_nil hoff
    refine ⟨_, congrArg Host.Outcome.next (if_pos hrun), ?_⟩
    rw [hpump]
    exact transmitStart_starts hup hstop hsend htop hq
  case gate =>
    refine (rd_wr_same ..).trans ?_
    rw [gatesNow_shapeTo]
    rfl
  case squall =>
    obtain ⟨hnow, hnext⟩ := squall_next (now := s.now) (n := s.sw.sqNext.at 0 m) (sqLen_pos s m)
    refine ⟨Tbl.at_put_same s.sw.squall (0, 0) m (0, 0), ?_, ?_⟩
    · exact hnow.trans_eq (Tbl.at_put_same s.sw.sqNext 0 m _).symm
    · exact hnext.trans_eq (Tbl.at_put_same s.sw.sqNext 0 m _).symm
  case ecc =>
    refine ⟨?_, (rd_stompStored ..).trans (((errCapture_keeps ..).rd_body group_pool (by decide) rfl).trans (rd_inc_same ..))⟩
    simp only [List.all_eq_true, List.mem_range, bne_iff_ne]
    intro q hq e he
    unfold stompStored at he
    rw [swQueue_dropStored, if_pos (List.mem_range.mpr hq)] at he
    simpa using (List.mem_filter.mp he).2
  case handover =>
    exact ⟨((raise_regs ..).rd _ _ (by decide)).trans (rd_wr_same ..), bit_raise _ _ _ (by decide)⟩
  case ended =>
    obtain ⟨hs, hb, hf⟩ := (transmitEndFull_ends (s := s.atTime x) (x := x) hsend).flowed (dumpPump_flowed _)
    exact ⟨hs, hb, hf⟩

end Sys2Proof.Machine
end

section
/-!
PROOF. Receiving sessions: enabled and disabled, messages taken and ACKs sent.
-/

namespace Sys2Proof.Machine

/-! ## ACKs that leave (R260) -/

/-- Registers that an ACK changes: those that frames in the switch do, and the count of ACKs sent. -/
def ackKey (k : Key) : Bool := swKey k || (k.page == P.sesrx && k.off == 0x090)

theorem Moved.ack {s t : State} (h : Moved s t) : RegsKeep ackKey s t := h.regs.mono fun _ hk => (Bool.or_eq_false_iff.mp hk).1

/-- Registers that a message taken changes: those of its queue, of frames in the switch and of the receiving sessions. -/
def takeKey (k : Key) : Bool := queueKey k || k.page == P.sesrx

theorem ackKey_take {k : Key} (h : takeKey k = false) : ackKey k = false := by
  simp only [takeKey, queueKey, Bool.or_eq_false_iff] at h
  obtain ⟨⟨hsw, _⟩, hses⟩ := h
  simp [ackKey, hsw, hses]

theorem isOwn_of_regs {s t : State} (h : RegsKeep takeKey s t) (a : Nat) : isOwn t a = isOwn s a := by
  unfold isOwn sideAddr State.ownValid State.own State.on
  simp only [if_true]
  rw [h.rd P.node F.NODE_NODE_ADDR_VALID rfl, h.rd P.node F.NODE_NODE_ADDR_ADDR rfl, h.rd P.gw F.GATEWAY_GW_ADDR_VALID rfl,
    h.rd P.gw F.GATEWAY_GW_ADDR_ADDR rfl]

/-- A session frame to an address that is not an own one leaves the sessions as they are. -/
theorem sendSes_out {s : State} {f : Frame} (h : isOwn s f.dst = false) :
    Moved s (sendSes s f) ∧ (sendSes s f).ses = s.ses ∧ Steady s (sendSes s f) ∧ (sendSes s f).ticks = s.ticks := by
  unfold sendSes
  split
  · exact ⟨.refl s, rfl, .refl s, rfl⟩
  · rw [if_neg (by simp [h])]
    exact ⟨(originate_offered ..).moved, (originate_keeps ..).ses rfl, (originate_offered ..).moved.steady, ((originate_keeps ..).ticks rfl).2⟩

/-- Of the sessions and the registers only what an ACK changes has changed. -/
structure Acked (s t : State) : Prop where
  regs : RegsKeep ackKey s t
  loop : t.ses.loop = s.ses.loop
  frozen : t.ses.frozen = s.ses.frozen
  ticks : t.ticks = s.ticks

theorem Acked.refl (s : State) : Acked s s := ⟨.refl .., rfl, rfl, rfl⟩

theorem Acked.trans {s t u : State} (h : Acked s t) (k : Acked t u) : Acked s u :=
  ⟨h.regs.trans k.regs, k.loop.trans h.loop, k.frozen.trans h.frozen, k.ticks.trans h.ticks⟩

theorem Acked.of_moved {s t : State} (h : Moved s t) (hs : t.ses = s.ses) (ht : t.ticks = s.ticks) : Acked s t := ⟨h.ack, by rw [hs], by rw [hs], ht⟩

theorem setRx_acked (s : State) (r : Nat) (x : RxSes) : Acked s (setRx s r x) := ⟨.of_eq rfl, rfl, rfl, rfl⟩

theorem raiseIf_acked (s : State) (b : Bool) (p k : Nat) : Acked s (raiseIf s b p k) :=
  .of_moved (raiseIf_moved ..) ((raiseIf_keeps ..).ses rfl) ((raiseIf_keeps ..).ticks rfl).2

@[simp] theorem rxSes_setRx_same (s : State) (r : Nat) (x : RxSes) : rxSes (setRx s r x) r = x := Tbl.at_put_same ..

theorem rxSes_setRx_ne (s : State) {r j : Nat} (h : j ≠ r) (x : RxSes) : rxSes (setRx s r x) j = rxSes s j := Tbl.at_put_ne _ _ h _

theorem rxSes_of_ses {s t : State} (h : t.ses = s.ses) (r : Nat) : rxSes t r = rxSes s r := by
  unfold rxSes
  rw [h]

/-- What the session's record is once its ACK has left. -/
def ackSent (s : State) (r : Nat) (t : State) : Prop :=
  (rxSes t r).ackTick = some s.ticks ∧ (rxSes t r).due = none ∧ (rxSes t r).freshDue = s.ticks + 8 ∧
    t.rd P.sesrx F.SESRX_CNT_ACK_TX_N = satAdd F.SESRX_CNT_ACK_TX_N.width (s.rd P.sesrx F.SESRX_CNT_ACK_TX_N) 1

/-- The ACK of a session to another address: no other session changes, and where sessions run it is sent. -/
theorem sendAck_out {s : State} {r : Nat} (gap : Bool) (h : isOwn s (s.rx F.SESRX_RSES_CFG_SRC r) = false) :
    Acked s (sendAck s r gap) ∧ (∀ j ≠ r, rxSes (sendAck s r gap) j = rxSes s j) ∧ (gap = false → Steady s (sendAck s r gap)) ∧
      (s.ses.frozen = false → s.sessionsRun = true → ackSent s r (sendAck s r gap)) := by
  unfold sendAck
  split
  next hc => exact ⟨.refl s, fun _ _ => rfl, fun _ => .refl s, fun hf hr => by simp [hf, hr] at hc⟩
  next =>
    extract_lets x fresh cons next u v w
    have huv : Acked s v := ⟨(show RegsKeep ackKey s u from .of_eq rfl).inc 1 rfl, rfl, rfl, rfl⟩
    have hvw : Acked v w := raiseIf_acked ..
    have hw := huv.trans hvw
    have hses : w.ses = v.ses := (raiseIf_keeps ..).ses rfl
    have hdst : w.rx F.SESRX_RSES_CFG_SRC r = s.rx F.SESRX_RSES_CFG_SRC r := hw.regs.rdi _ _ _ rfl
    have hown : isOwn w (w.rx F.SESRX_RSES_CFG_SRC r) = false := by rw [hdst, isOwn_of_regs (hw.regs.mono fun _ => ackKey_take), h]
    obtain ⟨hmoved, hout, hsteady, hticks⟩ := sendSes_out (f := sesFrame 6 (w.rx F.SESRX_RSES_CFG_SRC r) cons (w.rx F.SESRX_RSES_CFG_SSID r) r w.inc16
      (b2n gap * 2 ^ 31 + b2n fresh * 2 ^ 30) (beBytes 4 next)) hown
    refine ⟨hw.trans (.of_moved hmoved hout hticks), fun j hj => ?_, fun hg => ?_, fun _ _ => ?_⟩
    · rw [rxSes_of_ses (hout.trans hses)]
      exact rxSes_setRx_ne _ hj _
    · have hv : Steady s v := ⟨fun hs => ⟨by rw [noEclEv, State.on, rd_inc_apart _ _ rfl]; exact hs, rd_inc_apart _ _ rfl⟩⟩
      have hwv : w = v := by
        show raiseIf v gap P.sesrx 1 = v
        rw [hg]
        rfl
      exact hv.trans (hwv ▸ hsteady)
    · have hx := (rxSes_of_ses (hout.trans hses) r).trans (rxSes_setRx_same ..)
      refine ⟨by rw [hx], by rw [hx], by rw [hx], ?_⟩
      rw [hmoved.regs.rd _ _ rfl, (raiseIf_moved ..).regs.rd _ _ rfl]
      exact rd_inc_same ..

theorem drainLoop_idle {s : State} (h : s.ses.loop = []) (n : Nat) : drainLoop n s = s := by
  cases n with
  | zero => rfl
  | succ n =>
    unfold drainLoop
    rw [h]

theorem sesDone_idle {s : State} (h : s.ses.loop = []) : sesDone s = s := drainLoop_idle h _

/-! ## Whether a queue admits an item -/

/-- Both states judge admission alike: the switch, the queues' records, their registers and the pool's reserve are the same. -/
structure JudgeAlike (s t : State) : Prop where
  sw : t.sw = s.sw
  qs : t.ses.qs = s.ses.qs
  queue : ∀ q (f : Fld), 0x040 ≤ f.off → t.rd (P.queue q) f = s.rd (P.queue q) f
  reserve : t.rd P.pool F.CELLPOOL_POOL_CFG_POOL_RESERVE = s.rd P.pool F.CELLPOOL_POOL_CFG_POOL_RESERVE

theorem JudgeAlike.trans {s t u : State} (h : JudgeAlike s t) (k : JudgeAlike t u) : JudgeAlike s u :=
  ⟨k.sw.trans h.sw, k.qs.trans h.qs, fun q f hf => (k.queue q f hf).trans (h.queue q f hf), k.reserve.trans h.reserve⟩

theorem JudgeAlike.admits {s t : State} (h : JudgeAlike s t) (q k : Nat) : admits t q k = admits s q k :=
  admits_congr h.sw (fun q => h.queue q _ (by simp only [F.QUEUE_Q_LIMIT_MIN]; omega)) (fun q => h.queue q _ (by simp only [F.QUEUE_Q_LIMIT_MAX]; omega))
    h.reserve q k

theorem JudgeAlike.queueSt {s t : State} (h : JudgeAlike s t) (q : Nat) : queueSt t q = queueSt s q := congrArg (fun x : Tbl QSt => x.at {} q) h.qs

theorem JudgeAlike.qMax {s t : State} (h : JudgeAlike s t) (q : Nat) : qMax t q = qMax s q := by
  unfold Machine.qMax
  rw [h.queue q _ (by simp only [F.QUEUE_Q_LIMIT_MAX]; omega)]

theorem JudgeAlike.qOcc {s t : State} (h : JudgeAlike s t) (q : Nat) : qOcc t q = qOcc s q := by
  unfold Machine.qOcc
  rw [h.sw]

theorem sw_chargeCells (s : State) (q k n : Nat) :
    (chargeCells s q k n).sw = { s.sw with occ := s.sw.occ.put 0 q (qOcc s q + k), used := s.sw.used + n } := (poolMonitor_keeps ..).sw rfl

theorem sw_dischargeCells (s : State) (q k b : Nat) :
    (dischargeCells s q k b).sw = { s.sw with occ := s.sw.occ.put 0 q (qOcc s q - k), used := s.sw.used - b } := by
  unfold dischargeCells
  dsimp only
  split
  · exact (sharedMin_keeps ..).sw rfl
  · rfl

/-- Registers other than the pool's reserve. -/
def reserveKey (k : Key) : Bool := !(k.page == P.pool && k.off == 0x040)

theorem raise_reserve (s : State) (p k : Nat) : RegsKeep reserveKey s (raise s p k) := (raise_regs s p k).mono fun j hj => by
  obtain ⟨page, off, lsb, i⟩ := j
  simp only [reserveKey, Bool.not_eq_false', Bool.and_eq_true, beq_iff_eq] at hj
  obtain ⟨rfl, rfl⟩ := hj
  rfl

theorem sharedMin_reserve (s : State) : RegsKeep reserveKey s (sharedMin s) :=
  .ite (fun _ => (RegsKeep.refl _ s).wr _ (by decide)) fun _ => .refl ..

theorem poolMonitor_reserve (s : State) (b : Nat) : RegsKeep reserveKey s (poolMonitor s b) := by
  have hmax : RegsKeep reserveKey s (s.maxr P.pool F.CELLPOOL_USED_MAX_CELLS s.sw.used) :=
    .ite (fun _ => (RegsKeep.refl _ s).wr _ (by decide)) fun _ => .refl ..
  refine RegsKeep.trans (.each (fun t k _ => ?_) (hmax.trans (sharedMin_reserve _))) (.ite (fun _ => raise_reserve ..) fun _ => .refl ..)
  exact .ite (fun _ => ((RegsKeep.refl _ t).setBit k true (by decide)).trans (raise_reserve ..)) fun _ => .refl ..

theorem chargeCells_reserve (s : State) (q k n : Nat) : RegsKeep reserveKey s (chargeCells s q k n) := by
  refine RegsKeep.trans ?_ (poolMonitor_reserve ..)
  exact .of_eq rfl

theorem dischargeCells_reserve (s : State) (q k b : Nat) : RegsKeep reserveKey s (dischargeCells s q k b) := by
  refine .ite (fun _ => .trans ?_ (sharedMin_reserve _)) fun _ => ?_ <;> exact .of_eq rfl

theorem setQueueSt_reserve (s : State) (q : Nat) (z : QSt) : RegsKeep reserveKey s (setQueueSt s q z) := by
  have hput : ∀ x, RegsKeep reserveKey s { s with ses := x } := fun _ => .of_eq rfl
  unfold setQueueSt
  exact .ite (fun _ => (hput _).trans (chargeCells_reserve ..)) fun _ => (hput _).trans (dischargeCells_reserve ..)

/-- What a queue's record put leaves of what admission is judged by. -/
theorem setQueueSt_judges (s : State) (q : Nat) (z : QSt) :
    (setQueueSt s q z).ses.qs = s.ses.qs.put {} q z.settle ∧
      (∀ p (f : Fld), 0x040 ≤ f.off → (setQueueSt s q z).rd (P.queue p) f = s.rd (P.queue p) f) ∧
      (setQueueSt s q z).rd P.pool F.CELLPOOL_POOL_CFG_POOL_RESERVE = s.rd P.pool F.CELLPOOL_POOL_CFG_POOL_RESERVE ∧
      (setQueueSt s q z).sw = if (queueSt s q).cells ≤ z.settle.cells
        then { s.sw with occ := s.sw.occ.put 0 q (qOcc s q + (z.settle.cells - (queueSt s q).cells)), used := s.sw.used + (z.settle.cells - (queueSt s q).cells) }
        else { s.sw with occ := s.sw.occ.put 0 q (qOcc s q - ((queueSt s q).cells - z.settle.cells)), used := s.sw.used - ((queueSt s q).cells - z.settle.cells) } := by
  refine ⟨?_, fun p f hf => (setQueueSt_moved s q z).regs.rd _ _ ?_, (setQueueSt_reserve s q z).rd _ _ rfl, ?_⟩
  · unfold setQueueSt
    dsimp only
    split
    · rw [(chargeCells_keeps ..).ses rfl]
    · rw [(dischargeCells_keeps ..).ses rfl]
  · have hp : 0x040 ≤ P.queue p ∧ P.queue p < 0x080 := by unfold P.queue; omega
    simp only [swKey, evKey, Bool.or_eq_false_iff, Bool.and_eq_false_iff, beq_eq_false_iff_ne, decide_eq_false_iff_not]
    omega
  · unfold setQueueSt
    dsimp only
    split
    · exact sw_chargeCells ..
    · exact sw_dischargeCells ..

theorem JudgeAlike.setQueueSt {s t : State} (h : JudgeAlike s t) (q : Nat) (z : QSt) : JudgeAlike (setQueueSt s q z) (setQueueSt t q z) := by
  obtain ⟨hqs, hqueue, hres, hsw⟩ := setQueueSt_judges s q z
  obtain ⟨hqs', hqueue', hres', hsw'⟩ := setQueueSt_judges t q z
  refine ⟨?_, by rw [hqs', hqs, h.qs], fun p f hf => (hqueue' p f hf).trans ((h.queue p f hf).trans (hqueue p f hf).symm),
    hres'.trans (h.reserve.trans hres.symm)⟩
  rw [hsw', hsw, h.queueSt, h.qOcc, h.sw]

theorem JudgeAlike.recycleFor {s t : State} (h : JudgeAlike s t) (q k : Nat) : JudgeAlike (recycleFor s q k).1 (recycleFor t q k).1 := by
  unfold Machine.recycleFor
  rw [h.queueSt]
  have hfold : ∀ (l : List QItem) (a b : State × Nat), JudgeAlike a.1 b.1 →
      JudgeAlike (l.foldl (fun a x =>
        if Machine.qOcc a.1 q + k ≤ Machine.qMax a.1 q then a
        else
          let z := Machine.queueSt a.1 q
          if z.cur == some x.arr || (x.done && x.heldCells == 0) then a
          else (Machine.setQueueSt a.1 q (z.recycle x.arr), a.2 + 1)) a).1
        (l.foldl (fun a x =>
        if Machine.qOcc a.1 q + k ≤ Machine.qMax a.1 q then a
        else
          let z := Machine.queueSt a.1 q
          if z.cur == some x.arr || (x.done && x.heldCells == 0) then a
          else (Machine.setQueueSt a.1 q (z.recycle x.arr), a.2 + 1)) b).1 := by
    intro l
    induction l with
    | nil => exact fun _ _ hab => hab
    | cons x r ih =>
      intro a b hab
      refine ih _ _ ?_
      dsimp only
      rw [hab.qOcc, hab.qMax, hab.queueSt]
      split
      · exact hab
      · split
        · exact hab
        · exact hab.setQueueSt ..
  exact hfold _ _ _ h

theorem ite_fst_congr {c d : Prop} [Decidable c] [Decidable d] (h : c ↔ d) (x y u v : State) :
    (if c then (true, x) else (false, y)).1 = (if d then (true, u) else (false, v)).1 := by
  by_cases hd : d <;> simp [h, hd]

/-- Whether a queue admits an item depends on its length and on what admission is judged by. -/
theorem qAdmit_alike {s t : State} (h : JudgeAlike s t) (q prio src tag info : Nat) (d : Bool) (head data : List Nat) (ses ses' : Bool) :
    (qAdmit t q prio src tag info d head data ses').1 = (qAdmit s q prio src tag info d head data ses).1 := by
  have htype : qType t q = qType s q := h.queue q _ (by simp only [F.QUEUE_Q_CFG_TYPE]; omega)
  have how : t.on (P.queue q) (F.QUEUE_Q_CFG_OVERWRITE (q % 16)) = s.on (P.queue q) (F.QUEUE_Q_CFG_OVERWRITE (q % 16)) := by
    unfold State.on
    rw [h.queue q _ (by simp only [F.QUEUE_Q_CFG_OVERWRITE]; omega)]
  unfold qAdmit
  dsimp only
  rw [htype, how, h.qMax]
  split
  · rfl
  · have hadm : admits (if (s.on (P.queue q) (F.QUEUE_Q_CFG_OVERWRITE (q % 16)) && decide (itemCells head.length data.length ≤ qMax s q)) = true then
          recycleFor t q (itemCells head.length data.length) else (t, 0)).1 q (itemCells head.length data.length) =
        admits (if (s.on (P.queue q) (F.QUEUE_Q_CFG_OVERWRITE (q % 16)) && decide (itemCells head.length data.length ≤ qMax s q)) = true then
          recycleFor s q (itemCells head.length data.length) else (s, 0)).1 q (itemCells head.length data.length) := by
      split
      · exact (h.recycleFor ..).admits ..
      · exact h.admits ..
    exact ite_fst_congr (by rw [hadm]) ..

theorem raiseIf_alike (s : State) (b : Bool) (p k : Nat) : JudgeAlike s (raiseIf s b p k) := by
  refine ⟨(raiseIf_keeps ..).sw rfl, by rw [(raiseIf_keeps ..).ses rfl], fun q f hf => (raiseIf_moved s b p k).regs.rd _ _ ?_, ?_⟩
  · have hp : 0x040 ≤ P.queue q ∧ P.queue q < 0x080 := by unfold P.queue; omega
    simp only [swKey, evKey, Bool.or_eq_false_iff, Bool.and_eq_false_iff, beq_eq_false_iff_ne, decide_eq_false_iff_not]
    omega
  · unfold raiseIf
    split
    · exact (raise_reserve ..).rd _ _ rfl
    · rfl

/-! ## A message that is taken (R258) -/

theorem loop_setQueueSt (s : State) (q : Nat) (z : QSt) : (setQueueSt s q z).ses.loop = s.ses.loop := by
  unfold setQueueSt
  dsimp only
  split
  · rw [(chargeCells_keeps ..).ses rfl]
  · rw [(dischargeCells_keeps ..).ses rfl]

theorem loop_recycleFor (s : State) (q k : Nat) : (recycleFor s q k).1.ses.loop = s.ses.loop := by
  refine List.foldlRecOn (motive := fun a : State × Nat => a.1.ses.loop = s.ses.loop) _ _ rfl fun a h x _ => ?_
  dsimp only
  split
  · exact h
  · split
    · exact h
    · exact (loop_setQueueSt ..).trans h

theorem loop_qAdmit (s : State) (q prio src tag info : Nat) (d : Bool) (head data : List Nat) (ses : Bool) :
    (qAdmit s q prio src tag info d head data ses).2.ses.loop = s.ses.loop := by
  have hrecycle : ∀ c : Bool, (if c then recycleFor s q (itemCells head.length data.length) else (s, 0)).1.ses.loop = s.ses.loop := fun c => by
    split
    · exact loop_recycleFor ..
    · rfl
  unfold qAdmit
  dsimp only
  split
  · rfl
  · generalize ha : (if (s.on (P.queue q) (F.QUEUE_Q_CFG_OVERWRITE (q % 16)) && decide (itemCells head.length data.length ≤ qMax s q)) = true then
        recycleFor s q (itemCells head.length data.length) else (s, 0)) = a
    have hq : a.1.ses.loop = s.ses.loop := ha ▸ hrecycle _
    split
    · exact (loop_setQueueSt ..).trans hq
    · rw [(qRefuse_keeps ..).ses rfl, (noteRefusal_keeps ..).ses rfl]

/-- An ACK that becomes due, or leaves at once, leaves the session's next number and the counts of messages. -/
theorem ackAdvance_out {s : State} {r : Nat} (h : isOwn s (s.rx F.SESRX_RSES_CFG_SRC r) = false) : Acked s (ackAdvance s r) := by
  unfold ackAdvance
  dsimp only
  refine Acked.trans (setRx_acked s r { rxSes s r with due := some ((rxSes s r).due.getD s.ticks) }) ?_
  split
  · split
    · have hset : ∀ x, isOwn (setRx s r x) ((setRx s r x).rx F.SESRX_RSES_CFG_SRC r) = false := fun _ => h
      exact (sendAck_out false (hset _)).1
    · exact .refl _
  · exact .refl _

/-- The state in which a message of receiving session `r` is judged, once the session has noted its sender's incarnation. -/
def msgNoted (s : State) (f : Frame) (r : Nat) : State :=
  let u := raiseIf (s.wri P.sesrx F.SESRX_RSES_STAT_SINC r (f.w4 % 65536)) ((rxSes s r).hasSinc && s.rx F.SESRX_RSES_STAT_SINC r != f.w4 % 65536) P.sesrx 4
  setRx u r { rxSes u r with hasSinc := true, taken := true }

theorem msgNoted_alike (s : State) (f : Frame) (r : Nat) : JudgeAlike s (msgNoted s f r) := by
  have hw : JudgeAlike s (s.wri P.sesrx F.SESRX_RSES_STAT_SINC r (f.w4 % 65536)) :=
    ⟨rfl, rfl, fun q g _ => rdi_wri_apart _ _ (by
      have : P.queue q < 0x080 := by unfold P.queue; omega
      simp only [keyApart, P.sesrx, Bool.or_eq_true, bne_iff_ne]
      omega), rdi_wri_apart _ _ rfl⟩
  have hu := hw.trans (raiseIf_alike _ ((rxSes s r).hasSinc && s.rx F.SESRX_RSES_STAT_SINC r != f.w4 % 65536) P.sesrx 4)
  exact ⟨hu.sw, hu.qs, hu.queue, hu.reserve⟩

theorem msgNoted_regs (s : State) (f : Frame) (r : Nat) : RegsKeep takeKey s (msgNoted s f r) ∧ (msgNoted s f r).ses.loop = s.ses.loop ∧
    ∀ (g : Fld) j, g.off ≠ 0x04C ∧ 0x040 ≤ g.off → (msgNoted s f r).rx g j = s.rx g j := by
  unfold msgNoted
  dsimp only
  generalize ((rxSes s r).hasSinc && s.rx F.SESRX_RSES_STAT_SINC r != f.w4 % 65536) = b
  have hm := raiseIf_moved (s.wri P.sesrx F.SESRX_RSES_STAT_SINC r (f.w4 % 65536)) b P.sesrx 4
  have hw : RegsKeep takeKey s (s.wri P.sesrx F.SESRX_RSES_STAT_SINC r (f.w4 % 65536)) := (RegsKeep.refl _ s).wri _ rfl
  refine ⟨(hw.trans (hm.ack.mono fun _ => ackKey_take)).trans (.of_eq rfl), ?_, fun g j hg => ?_⟩
  · show (raiseIf _ b P.sesrx 4).ses.loop = _
    rw [(raiseIf_keeps ..).ses rfl]
    rfl
  · refine (hm.regs.rdi P.sesrx g j ?_).trans (rdi_wri_apart _ _ ?_)
    · simp [swKey, evKey, P.sesrx]
      omega
    · simp only [keyApart, F.SESRX_RSES_STAT_SINC, Bool.or_eq_true, bne_iff_ne]
      omega

/-- The message is the next of its session: its queue decides. -/
theorem judgeMsg_next {s : State} {f : Frame} {r : Nat} (hfroz : s.ses.frozen = false) (hr : r = f.w4 / 2 ^ 16 % 256)
    (hmine : s.rx F.SESRX_RSES_CFG_EN r = 1 ∧ f.src = s.rx F.SESRX_RSES_CFG_SRC r ∧ f.w4 / 2 ^ 24 % 256 = s.rx F.SESRX_RSES_CFG_SSID r)
    (htaken : (rxSes s r).taken = true) (hprobe : bitOf f.w5 31 = false) (hnext : f.w3 % 2 ^ 32 = s.rx F.SESRX_RSES_NEXT_MSEQ r) :
    judgeMsg s f =
      let u := msgNoted s f r
      let dup := u.rx F.SESRX_RSES_STAT_UNSAFE r == 1 && serLt (f.w3 % 2 ^ 32) (u.rx F.SESRX_RSES_DUP_MSEQ r)
      let a := qAdmit u (rsesQueue u r) (u.rx F.SESRX_RSES_CFG_PRIO r) f.src r (f.w3 % 2 ^ 32) dup (headBytes f) f.pay true
      if a.1 then
        let v := (a.2.wri P.sesrx F.SESRX_RSES_NEXT_MSEQ r (serNext (f.w3 % 2 ^ 32))).inc P.sesrx F.SESRX_CNT_RX_N
        ackAdvance (raise (if dup then v.inc P.sesrx F.SESRX_CNT_MAYBE_DUP_N else v) P.sesrx 0) r
      else countRaise a.2 P.sesrx F.SESRX_CNT_RX_FULL_N P.sesrx 2 := by
  obtain ⟨hen, hsrc, hssid⟩ := hmine
  have hn : (msgNoted s f r).rx F.SESRX_RSES_NEXT_MSEQ r = f.w3 % 2 ^ 32 :=
    ((msgNoted_regs s f r).2.2 _ _ (by decide)).trans hnext.symm
  have hlive : ¬s.ses.frozen = true := by simp [hfroz]
  have hknown : ¬(!(s.rx F.SESRX_RSES_CFG_EN r == 1 && f.src == s.rx F.SESRX_RSES_CFG_SRC r &&
      f.w4 / 2 ^ 24 % 256 == s.rx F.SESRX_RSES_CFG_SSID r)) = true := by rw [hen, ← hsrc, hssid]; simp
  have hheard : ∀ n : Nat, ¬(n = 1 ∧ (!(rxSes s r).taken) = true) := by simp [htaken]
  have hmsg : ¬bitOf f.w5 31 = true := by simp [hprobe]
  unfold judgeMsg
  dsimp only
  rw [← hr, if_neg hlive, if_neg hknown, if_neg (hheard _), if_neg hmsg]
  change (if serLt (f.w3 % 2 ^ 32) ((msgNoted s f r).rx F.SESRX_RSES_NEXT_MSEQ r) = true then _ else
    if f.w3 % 2 ^ 32 = (msgNoted s f r).rx F.SESRX_RSES_NEXT_MSEQ r then _ else _) = _
  rw [hn, if_neg (by simp [serLt]), if_pos rfl]
  rfl

/-- A message that its queue admits: the session expects the one after, and it is counted. -/
theorem judgeMsg_takes {s : State} {f : Frame} {r : Nat} (hfroz : s.ses.frozen = false) (hloop : s.ses.loop = []) (hr : r = f.w4 / 2 ^ 16 % 256)
    (hmine : s.rx F.SESRX_RSES_CFG_EN r = 1 ∧ f.src = s.rx F.SESRX_RSES_CFG_SRC r ∧ f.w4 / 2 ^ 24 % 256 = s.rx F.SESRX_RSES_CFG_SSID r)
    (htaken : (rxSes s r).taken = true) (hprobe : bitOf f.w5 31 = false) (hnext : f.w3 % 2 ^ 32 = s.rx F.SESRX_RSES_NEXT_MSEQ r)
    (hadm : ∀ d, (qAdmit s (rsesQueue s r) (s.rx F.SESRX_RSES_CFG_PRIO r) f.src r (f.w3 % 2 ^ 32) d (headBytes f) f.pay).1 = true)
    (hown : isOwn s (s.rx F.SESRX_RSES_CFG_SRC r) = false) :
    (judgeMsg s f).ses.loop = [] ∧ (judgeMsg s f).rx F.SESRX_RSES_NEXT_MSEQ r = serNext (f.w3 % 2 ^ 32) ∧
      (judgeMsg s f).rd P.sesrx F.SESRX_CNT_RX_N = satAdd F.SESRX_CNT_RX_N.width (s.rd P.sesrx F.SESRX_CNT_RX_N) 1 := by
  rw [judgeMsg_next hfroz hr hmine htaken hprobe hnext]
  obtain ⟨hregs, hl, hrx⟩ := msgNoted_regs s f r
  have halike := msgNoted_alike s f r
  generalize msgNoted s f r = u at hregs hl hrx halike
  have hq : rsesQueue u r = rsesQueue s r := by
    unfold rsesQueue
    rw [hrx _ _ (by decide)]
  have hprio : u.rx F.SESRX_RSES_CFG_PRIO r = s.rx F.SESRX_RSES_CFG_PRIO r := hrx _ _ (by decide)
  have hcount : u.rd P.sesrx F.SESRX_CNT_RX_N = s.rd P.sesrx F.SESRX_CNT_RX_N := hrx _ 0 (by decide)
  dsimp only
  rw [hq, hprio]
  generalize (u.rx F.SESRX_RSES_STAT_UNSAFE r == 1 && serLt (f.w3 % 2 ^ 32) (u.rx F.SESRX_RSES_DUP_MSEQ r)) = dup
  rw [if_pos ((qAdmit_alike halike ..).trans (hadm dup))]
  have hqk := (qAdmit_queue u (rsesQueue s r) (s.rx F.SESRX_RSES_CFG_PRIO r) f.src r (f.w3 % 2 ^ 32) dup (headBytes f) f.pay true).1
  have hql := loop_qAdmit u (rsesQueue s r) (s.rx F.SESRX_RSES_CFG_PRIO r) f.src r (f.w3 % 2 ^ 32) dup (headBytes f) f.pay true
  generalize (qAdmit u (rsesQueue s r) (s.rx F.SESRX_RSES_CFG_PRIO r) f.src r (f.w3 % 2 ^ 32) dup (headBytes f) f.pay true).2 = a at hqk hql
  set v : State := (a.wri P.sesrx F.SESRX_RSES_NEXT_MSEQ r (serNext (f.w3 % 2 ^ 32))).inc P.sesrx F.SESRX_CNT_RX_N with hv
  have hnv : v.rx F.SESRX_RSES_NEXT_MSEQ r = serNext (f.w3 % 2 ^ 32) :=
    (rdi_wri_apart _ _ rfl).trans ((rdi_wri_same ..).trans (Nat.mod_eq_of_lt (Nat.mod_lt _ (by decide))))
  have hcv : v.rd P.sesrx F.SESRX_CNT_RX_N = satAdd F.SESRX_CNT_RX_N.width (s.rd P.sesrx F.SESRX_CNT_RX_N) 1 := by
    have : (a.wri P.sesrx F.SESRX_RSES_NEXT_MSEQ r (serNext (f.w3 % 2 ^ 32))).rd P.sesrx F.SESRX_CNT_RX_N = s.rd P.sesrx F.SESRX_CNT_RX_N :=
      (rdi_wri_apart _ _ rfl).trans ((hqk.rd _ _ rfl).trans hcount)
    exact (rd_inc_same ..).trans (by rw [this]; rfl)
  have hdst : v.rx F.SESRX_RSES_CFG_SRC r = s.rx F.SESRX_RSES_CFG_SRC r :=
    (rdi_wri_apart _ _ rfl).trans ((rdi_wri_apart _ _ rfl).trans ((hqk.rdi _ _ _ rfl).trans (hrx _ _ (by decide))))
  have hqt : RegsKeep takeKey u a := hqk.mono fun k hk => by
    simp only [takeKey, Bool.or_eq_false_iff] at hk
    exact hk.1
  have hregv : RegsKeep takeKey s v := ((hregs.trans hqt).wri _ rfl).inc 1 rfl
  have hkeep : ∀ w : State, (∀ g j, g.off ≠ 0x098 ∧ 0x040 ≤ g.off → w.rx g j = v.rx g j) → RegsKeep takeKey s w → w.ses.loop = [] →
      (ackAdvance w r).ses.loop = [] ∧ (ackAdvance w r).rx F.SESRX_RSES_NEXT_MSEQ r = serNext (f.w3 % 2 ^ 32) ∧
      (ackAdvance w r).rd P.sesrx F.SESRX_CNT_RX_N = satAdd F.SESRX_CNT_RX_N.width (s.rd P.sesrx F.SESRX_CNT_RX_N) 1 := fun w hw hwr hwl => by
    have ha := ackAdvance_out (s := w) (r := r) (by rw [hw _ _ (by decide), hdst, isOwn_of_regs hwr, hown])
    exact ⟨ha.loop.trans hwl, (ha.regs.rdi _ _ _ rfl).trans ((hw _ _ (by decide)).trans hnv),
      (ha.regs.rd _ _ rfl).trans ((hw _ 0 (by decide)).trans hcv)⟩
  have hraise : ∀ w : State, (∀ g j, g.off ≠ 0x098 ∧ 0x040 ≤ g.off → w.rx g j = v.rx g j) → RegsKeep takeKey s w → w.ses.loop = [] →
      (ackAdvance (raise w P.sesrx 0) r).ses.loop = [] ∧ (ackAdvance (raise w P.sesrx 0) r).rx F.SESRX_RSES_NEXT_MSEQ r = serNext (f.w3 % 2 ^ 32) ∧
      (ackAdvance (raise w P.sesrx 0) r).rd P.sesrx F.SESRX_CNT_RX_N = satAdd F.SESRX_CNT_RX_N.width (s.rd P.sesrx F.SESRX_CNT_RX_N) 1 :=
      fun w hw hwr hwl => by
    refine hkeep _ (fun g j hg => ((raise_regs ..).rdi P.sesrx g j ?_).trans (hw g j hg)) (hwr.trans ((raise_moved ..).ack.mono fun _ => ackKey_take))
      (by rw [(raise_keeps ..).ses rfl]; exact hwl)
    simp [evKey, P.sesrx]
    omega
  have hvl : v.ses.loop = [] := hql.trans (hl.trans hloop)
  cases dup with
  | false => exact hraise v (fun _ _ _ => rfl) hregv hvl
  | true =>
    refine hraise _ (fun g j hg => rdi_wri_apart _ _ ?_) (hregv.inc 1 rfl) hvl
    simp only [keyApart, F.SESRX_CNT_MAYBE_DUP_N, Bool.or_eq_true, bne_iff_ne]
    omega

/-! ## ACKs of a tick instant (R259) -/

/-- The ACK of session `r` where it is due before this tick instant. -/
def ackDue (t : State) (r : Nat) : State :=
  match (rxSes t r).due with
  | some d => if d < t.ticks ∧ t.rx F.SESRX_RSES_CFG_EN r = 1 then sendAck t r false else t
  | none => t

/-- Sessions run, none is of an own address, and no Eclipse is triggered: so it stays as ACKs leave. -/
structure AcksRun (s t : State) : Prop where
  acked : Acked s t
  calm : noEclEv t
  st : t.st = s.st

theorem ackDue_out {s : State} {r : Nat} (h : isOwn s (s.rx F.SESRX_RSES_CFG_SRC r) = false) (he : noEclEv s) :
    AcksRun s (ackDue s r) ∧ ∀ j ≠ r, rxSes (ackDue s r) j = rxSes s j := by
  obtain ⟨hacked, hne, hsteady, -⟩ := sendAck_out false h
  obtain ⟨hcalm, hst⟩ := (hsteady rfl).calm he
  unfold ackDue
  split
  · split
    · exact ⟨⟨hacked, hcalm, hst⟩, hne⟩
    · exact ⟨⟨.refl s, he, rfl⟩, fun _ _ => rfl⟩
  · exact ⟨⟨.refl s, he, rfl⟩, fun _ _ => rfl⟩

theorem AcksRun.run {s t : State} (h : AcksRun s t) : t.sessionsRun = s.sessionsRun := by
  unfold State.sessionsRun State.working State.isIn
  rw [h.st]

theorem AcksRun.own {s t : State} (h : AcksRun s t) (hown : ∀ r < 256, isOwn s (s.rx F.SESRX_RSES_CFG_SRC r) = false) :
    ∀ r < 256, isOwn t (t.rx F.SESRX_RSES_CFG_SRC r) = false := fun r hr => by
  have hsrc : t.rx F.SESRX_RSES_CFG_SRC r = s.rx F.SESRX_RSES_CFG_SRC r := h.acked.regs.rdi _ _ _ rfl
  rw [hsrc, isOwn_of_regs (h.acked.regs.mono fun _ => ackKey_take), hown r hr]

/-- The ACKs of sessions other than `r` leave its record; its own is sent. -/
theorem acks_sent {s : State} {r d : Nat} (hr : r < 256) (hown : ∀ r < 256, isOwn s (s.rx F.SESRX_RSES_CFG_SRC r) = false) (he : noEclEv s)
    (hfroz : s.ses.frozen = false) (hrun : s.sessionsRun = true) (hdue : (rxSes s r).due = some d) (hd : d < s.ticks)
    (hen : s.rx F.SESRX_RSES_CFG_EN r = 1) :
    AcksRun s (s.each 256 ackDue) ∧ (rxSes (s.each 256 ackDue) r).due = none ∧ (rxSes (s.each 256 ackDue) r).ackTick = some s.ticks := by
  have hall : ∀ n ≤ 256, AcksRun s (s.each n ackDue) ∧ (n ≤ r → rxSes (s.each n ackDue) r = rxSes s r) ∧
      (r < n → (rxSes (s.each n ackDue) r).due = none ∧ (rxSes (s.each n ackDue) r).ackTick = some s.ticks) := by
    intro n
    induction n with
    | zero => exact fun _ => ⟨⟨.refl s, he, rfl⟩, fun _ => rfl, fun h => absurd h (Nat.not_lt_zero _)⟩
    | succ n ih =>
      intro hn
      have hstep : s.each (n + 1) ackDue = ackDue (s.each n ackDue) n := by
        unfold State.each
        rw [List.range_succ, List.foldl_append, List.foldl_cons, List.foldl_nil]
      obtain ⟨hacks, hbefore, hafter⟩ := ih (by omega)
      rw [hstep]
      generalize s.each n ackDue = t at hacks hbefore hafter
      have hownt := hacks.own hown n (by omega)
      obtain ⟨hnew, hothers⟩ := ackDue_out hownt hacks.calm
      refine ⟨⟨hacks.acked.trans hnew.acked, hnew.calm, hnew.st.trans hacks.st⟩, fun hnr => (hothers r (by omega)).trans (hbefore (by omega)), fun hrn => ?_⟩
      by_cases hr' : r = n
      · subst hr'
        have hdue' : (rxSes t r).due = some d := by rw [hbefore (Nat.le_refl _)]; exact hdue
        have hent : t.rx F.SESRX_RSES_CFG_EN r = 1 := (hacks.acked.regs.rdi _ _ _ rfl).trans hen
        obtain ⟨htick, hnone, _⟩ := (sendAck_out false hownt).2.2.2 (hacks.acked.frozen.trans hfroz) (hacks.run.trans hrun)
        have hsend : ackDue t r = sendAck t r false := by
          unfold ackDue
          rw [hdue']
          exact if_pos ⟨by rw [hacks.acked.ticks]; exact hd, hent⟩
        rw [hsend, htick, hnone, hacks.acked.ticks]
        exact ⟨rfl, rfl⟩
      · rw [hothers r hr']
        exact hafter (by omega)
  obtain ⟨hacks, -, hdone⟩ := hall 256 (Nat.le_refl _)
  exact ⟨hacks, hdone hr⟩

/-! ## RSES_CFG -/

theorem regFields_rsesCfg : regFields P.sesrx 0x044 = [F.SESRX_RSES_CFG_EN, F.SESRX_RSES_CFG_PRIO, F.SESRX_RSES_CFG_SSID, F.SESRX_RSES_CFG_SRC] := by
  decide +kernel

/-- The fields of RSES_CFG but EN stored from a word. -/
def rsesStored (s : State) (word : Nat) : State :=
  let r := s.rd P.sesrx F.SESRX_RSES_SEL_SESSION
  ((s.wri P.sesrx F.SESRX_RSES_CFG_PRIO r (fbits word F.SESRX_RSES_CFG_PRIO)).wri P.sesrx F.SESRX_RSES_CFG_SSID r (fbits word F.SESRX_RSES_CFG_SSID)).wri
    P.sesrx F.SESRX_RSES_CFG_SRC r (fbits word F.SESRX_RSES_CFG_SRC)

theorem rsesCfg_stores (s : State) (who : By) (word : Nat) :
    (regFields P.sesrx 0x044).foldl (fun t f => storeField t who P.sesrx f word) s = rsesStored s word := by
  have hen : ∀ t, storeField t who P.sesrx F.SESRX_RSES_CFG_EN word = t := fun t => by
    unfold storeField
    dsimp only
    rw [if_pos (by rw [show ownStore P.sesrx F.SESRX_RSES_CFG_EN = true by decide]; simp)]
  have hfield : ∀ (t : State) (f : Fld), f = F.SESRX_RSES_CFG_PRIO ∨ f = F.SESRX_RSES_CFG_SSID ∨ f = F.SESRX_RSES_CFG_SRC →
      storeField t who P.sesrx f word = t.wri P.sesrx f (t.rd P.sesrx F.SESRX_RSES_SEL_SESSION) (fbits word f) := fun t f hf => by
    rcases hf with rfl | rfl | rfl <;> exact storeField_rw rfl rfl
  have hsel : ∀ (t : State) (f : Fld) i v, f.off = 0x044 → (t.wri P.sesrx f i v).rd P.sesrx F.SESRX_RSES_SEL_SESSION =
      t.rd P.sesrx F.SESRX_RSES_SEL_SESSION := fun t f i v hf => rdi_wri_apart _ _ (by simp [keyApart, hf, F.SESRX_RSES_SEL_SESSION])
  rw [regFields_rsesCfg, List.foldl_cons, List.foldl_cons, List.foldl_cons, List.foldl_cons, List.foldl_nil, hen, hfield _ _ (.inl rfl),
    hfield _ _ (.inr (.inl rfl)), hfield _ _ (.inr (.inr rfl)), hsel _ F.SESRX_RSES_CFG_SSID _ _ rfl,
    hsel _ F.SESRX_RSES_CFG_PRIO _ _ rfl]
  rfl

/-- A write of RSES_CFG that no condition stands against stores its fields, and then enables or disables the selected session. -/
theorem MayWrite.rsesCfg {s : State} {who : By} (h : MayWrite s who P.sesrx 0x044) {word : Nat}
    (hen : bitsOf word 31 1 = 0 ∨ rsesMayEnable s (s.rd P.sesrx F.SESRX_RSES_SEL_SESSION) = true) :
    busStore s who P.sesrx 0x044 word = effSesRx (rsesStored (dropArms s P.sesrx) word) 0x044 word := by
  have hok : ∀ f ∈ regFields P.sesrx 0x044, fieldOk (dropArms s P.sesrx) who P.sesrx f (fbits word f) = true := by
    rw [regFields_rsesCfg]
    intro f hf
    simp only [List.mem_cons, List.not_mem_nil, or_false] at hf
    rcases hf with rfl | rfl | rfl | rfl
    · have hmay : (bitsOf word 31 1 == 0 || rsesMayEnable (dropArms s P.sesrx) ((dropArms s P.sesrx).rd P.sesrx F.SESRX_RSES_SEL_SESSION)) = true := by
        rw [Bool.or_eq_true, beq_iff_eq]
        exact hen
      exact hmay
    all_goals exact fieldOk_of_noCondition (by decide +kernel) ..
  rw [h.busStore_eq word (by decide) (by decide +kernel) (by decide +kernel) rfl hok (.inl rfl)]
  have hbefore : beforeWrite (dropArms s P.sesrx) P.sesrx 0x044 word = dropArms s P.sesrx := by
    unfold beforeWrite
    rw [if_neg (by decide), if_neg (by decide), if_neg (by rintro ⟨h, _⟩; exact absurd h (by decide))]
  have hbind : ∀ t, bindQueues (dropArms s P.sesrx) t who P.sesrx 0x044 = t := fun t => by
    unfold bindQueues
    rw [regFields_rsesCfg]
    rfl
  unfold applyWrite
  dsimp only
  rw [hbefore, hbind, storeWord, if_neg (by simp [show pioProgram P.sesrx 0x044 = false by decide]), rsesCfg_stores]
  rfl

theorem rsesStored_regs (s : State) (word : Nat) : RegsKeep (fun k => k.page == P.sesrx && k.off == 0x044 && k.lsb != 31) s (rsesStored s word) :=
  (((RegsKeep.refl _ s).wri _ rfl).wri _ rfl).wri _ rfl

/-- The fields but EN hold what the word gives them. -/
theorem rsesStored_shows (s : State) (word : Nat) :
    let r := s.rd P.sesrx F.SESRX_RSES_SEL_SESSION
    (rsesStored s word).rx F.SESRX_RSES_CFG_PRIO r = bitsOf word 28 3 % 2 ^ 3 ∧ (rsesStored s word).rx F.SESRX_RSES_CFG_SSID r = bitsOf word 20 8 % 2 ^ 8 ∧
      (rsesStored s word).rx F.SESRX_RSES_CFG_SRC r = bitsOf word 0 12 % 2 ^ 12 :=
  ⟨(rdi_wri_apart _ _ rfl).trans ((rdi_wri_apart _ _ rfl).trans (rdi_wri_same ..)), (rdi_wri_apart _ _ rfl).trans (rdi_wri_same ..), rdi_wri_same ..⟩

/-- RSES_CFG written: EN that changes enables or disables the selected session. -/
theorem effSesRx_rsesCfg (s : State) (word : Nat) : effSesRx (rsesStored s word) 0x044 word =
    if bitOf word 31 == (s.rx F.SESRX_RSES_CFG_EN (s.rd P.sesrx F.SESRX_RSES_SEL_SESSION) == 1) then rsesStored s word
    else if bitOf word 31 then rsesEnable (rsesStored s word) (s.rd P.sesrx F.SESRX_RSES_SEL_SESSION)
    else rsesDisable (rsesStored s word) (s.rd P.sesrx F.SESRX_RSES_SEL_SESSION) := by
  have h := rsesStored_regs s word
  have hsel : (rsesStored s word).rd P.sesrx F.SESRX_RSES_SEL_SESSION = s.rd P.sesrx F.SESRX_RSES_SEL_SESSION := h.rd _ _ rfl
  have hen : ∀ r, (rsesStored s word).rx F.SESRX_RSES_CFG_EN r = s.rx F.SESRX_RSES_CFG_EN r := fun r => h.rdi _ _ _ rfl
  unfold effSesRx
  rw [if_pos rfl]
  dsimp only
  rw [hsel, hen]

theorem keepWord_rsesOff (s : State) (who : By) : keepWord s who P.sesrx 0x044 [(F.SESRX_RSES_CFG_EN, 0)] < 2 ^ 31 := by
  unfold keepWord
  rw [regFields_rsesCfg]
  simp only [List.map_cons, List.map_nil, List.find?_cons, List.find?_nil]
  simp [F.SESRX_RSES_CFG_EN, F.SESRX_RSES_CFG_PRIO, F.SESRX_RSES_CFG_SSID, F.SESRX_RSES_CFG_SRC, mkWord, beq_eq_decide]
  omega

/-- Registers other than RSES_CFG. -/
def cfgKey (k : Key) : Bool := !(k.page == P.sesrx && k.off == 0x044)

theorem qBind_cfg (s : State) (q typ : Nat) : RegsKeep cfgKey s (qBind s q typ).2 := by
  have hq : ∀ (f : Fld) i, cfgKey ⟨P.queue q, f.off, f.lsb, i⟩ = true := fun f i => by
    have : P.queue q ≠ P.sesrx := by unfold P.queue P.sesrx; omega
    simp [cfgKey, this]
  unfold qBind
  split
  · exact .refl ..
  · split
    · exact (RegsKeep.refl _ s).wr _ (hq _ _)
    · exact .refl ..

theorem rsesEnable_cfg (s : State) (r : Nat) : RegsKeep cfgKey ((qBind s (rsesQueue s r) 3).2.wri P.sesrx F.SESRX_RSES_CFG_EN r 1) (rsesEnable s r) := by
  unfold rsesEnable
  extract_lets u v w x b ao bb z a1 a2 taken c1 fresh
  have hx : RegsKeep cfgKey v x := (((RegsKeep.refl _ v).wri _ rfl).wri _ rfl).wri _ rfl
  have hz : RegsKeep cfgKey v z := hx.trans (.of_eq rfl)
  refine .ite (fun _ => ?_) fun _ => ?_
  · exact (show RegsKeep cfgKey v taken from ((hz.wri _ rfl).wri _ rfl).wri _ rfl).trans (.of_eq rfl)
  · exact (show RegsKeep cfgKey v fresh from ((hz.wri _ rfl).wri _ rfl).wri _ rfl).trans (.of_eq rfl)

theorem rsesEnable_shows (s : State) (r : Nat) : (rsesEnable s r).rx F.SESRX_RSES_CFG_EN r = 1 ∧
    ∀ f : Fld, f.off = 0x044 → f.lsb ≠ 31 → (rsesEnable s r).rx f r = s.rx f r := by
  have h := rsesEnable_cfg s r
  refine ⟨(h.rdi _ _ _ rfl).trans (rdi_wri_same ..), fun f ho hl => ?_⟩
  have hk : cfgKey ⟨P.sesrx, f.off, f.lsb, r⟩ = false := by simp [cfgKey, ho]
  refine (h.rdi _ _ _ hk).trans ((rdi_wri_apart _ _ ?_).trans ((qBind_cfg ..).rdi _ _ _ hk))
  simp [keyApart, F.SESRX_RSES_CFG_EN, hl]

theorem rsesDisable_shows (s : State) (r : Nat) : (rsesDisable s r).rx F.SESRX_RSES_CFG_EN r = 0 ∧ (rsesDisable s r).rx F.SESRX_RSES_STAT_STATE r = 0 ∧
    (rsesDisable s r).ses.qs = s.ses.qs := by
  unfold rsesDisable
  extract_lets u
  have hu : RegsKeep queueKey u (qUnbind (setRx u r { rxSes u r with due := none }) (rsesQueue u r)) :=
    .ite (fun _ => .of_eq rfl) fun _ => RegsKeep.wr (t := setRx u r { rxSes u r with due := none }) _ (.of_eq rfl) (queueKey_queue ..)
  refine ⟨(hu.rdi _ _ _ rfl).trans ((rdi_wri_apart _ _ rfl).trans (rdi_wri_same ..)), (hu.rdi _ _ _ rfl).trans (rdi_wri_same ..), ?_⟩
  unfold qUnbind
  split <;> rfl
/-! ## The obligation -/

/-- RSES_ENABLE of the selected session, from DISABLED. -/
theorem MayWrite.rsesEnabled {s : State} {who : By} (hw : MayWrite s who P.sesrx 0x044) {p x a : Nat} (hp : p < 8) (hx : x < 256) (ha : a < 4096)
    (hoff : s.rx F.SESRX_RSES_CFG_EN (s.rd P.sesrx F.SESRX_RSES_SEL_SESSION) = 0)
    (hmay : rsesMayEnable s (s.rd P.sesrx F.SESRX_RSES_SEL_SESSION) = true) :
    ∃ t, exec (.rsesEnable who p x a) s = .next t ∧
      (let r := s.rd P.sesrx F.SESRX_RSES_SEL_SESSION
       t.rx F.SESRX_RSES_CFG_EN r = 1 ∧ t.rx F.SESRX_RSES_CFG_PRIO r = p ∧ t.rx F.SESRX_RSES_CFG_SSID r = x ∧ t.rx F.SESRX_RSES_CFG_SRC r = a) := by
  have hword : mkWord [(F.SESRX_RSES_CFG_EN, 1), (F.SESRX_RSES_CFG_PRIO, p), (F.SESRX_RSES_CFG_SSID, x), (F.SESRX_RSES_CFG_SRC, a)] =
      2 ^ 31 + p * 2 ^ 28 + x * 2 ^ 20 + a := by
    simp only [mkWord, List.foldl_cons, List.foldl_nil, F.SESRX_RSES_CFG_EN, F.SESRX_RSES_CFG_PRIO, F.SESRX_RSES_CFG_SSID, F.SESRX_RSES_CFG_SRC]
    omega
  refine ⟨_, congrArg Host.Outcome.next (hw.rsesCfg (.inr hmay)), ?_⟩
  have hbit : bitOf (2 ^ 31 + p * 2 ^ 28 + x * 2 ^ 20 + a) 31 = true := by simp only [bitOf, beq_iff_eq]; omega
  have hzero : (s.rx F.SESRX_RSES_CFG_EN (s.rd P.sesrx F.SESRX_RSES_SEL_SESSION) == 1) = false := by rw [hoff]; rfl
  rw [hword, effSesRx_rsesCfg]
  have hstored := rsesStored_shows (dropArms s P.sesrx) (2 ^ 31 + p * 2 ^ 28 + x * 2 ^ 20 + a)
  have hchange : ¬(bitOf (2 ^ 31 + p * 2 ^ 28 + x * 2 ^ 20 + a) 31 ==
      (s.rx F.SESRX_RSES_CFG_EN (s.rd P.sesrx F.SESRX_RSES_SEL_SESSION) == 1)) = true := by rw [hbit, hzero]; decide
  dsimp only
  rw [show (dropArms s P.sesrx).rx = s.rx from rfl, show (dropArms s P.sesrx).rd = s.rd from rfl, if_neg hchange, if_pos hbit]
  obtain ⟨hprio, hssid, hsrc⟩ := hstored
  obtain ⟨hone, hrest⟩ := rsesEnable_shows (rsesStored (dropArms s P.sesrx) (2 ^ 31 + p * 2 ^ 28 + x * 2 ^ 20 + a)) (s.rd P.sesrx F.SESRX_RSES_SEL_SESSION)
  refine ⟨hone, (hrest _ rfl (by decide)).trans (hprio.trans ?_), (hrest _ rfl (by decide)).trans (hssid.trans ?_),
    (hrest _ rfl (by decide)).trans (hsrc.trans ?_)⟩ <;> (simp only [bitsOf]; omega)

/-- A write of RSES_CFG with EN = 0 disables the selected session where it is enabled. -/
theorem MayWrite.rsesOff {s : State} {who : By} (hw : MayWrite s who P.sesrx 0x044) {word : Nat} (hword : word < 2 ^ 31)
    (hen : s.rx F.SESRX_RSES_CFG_EN (s.rd P.sesrx F.SESRX_RSES_SEL_SESSION) = 1) :
    busStore s who P.sesrx 0x044 word = rsesDisable (rsesStored (dropArms s P.sesrx) word) (s.rd P.sesrx F.SESRX_RSES_SEL_SESSION) := by
  have hbits : bitsOf word 31 1 = 0 := by simp only [bitsOf]; omega
  have hbit : bitOf word 31 = false := by simp only [bitOf, beq_eq_false_iff_ne]; omega
  have hon : ((dropArms s P.sesrx).rx F.SESRX_RSES_CFG_EN ((dropArms s P.sesrx).rd P.sesrx F.SESRX_RSES_SEL_SESSION) == 1) = true :=
    beq_iff_eq.mpr hen
  rw [hw.rsesCfg (.inl hbits), effSesRx_rsesCfg, hbit, hon, if_neg (by decide), if_neg (by decide)]
  rfl

theorem qs_rsesStored (s : State) (word : Nat) : (rsesStored (dropArms s P.sesrx) word).ses.qs = s.ses.qs := rfl

/-- RSES_DISABLE of the selected session. -/
theorem MayWrite.rsesDisabled {s : State} {who : By} (hw : MayWrite s who P.sesrx 0x044)
    (hen : s.rx F.SESRX_RSES_CFG_EN (s.rd P.sesrx F.SESRX_RSES_SEL_SESSION) = 1) :
    ∃ t, exec (.rsesDisable who) s = .next t ∧
      (let r := s.rd P.sesrx F.SESRX_RSES_SEL_SESSION
       t.rx F.SESRX_RSES_CFG_EN r = 0 ∧ t.rx F.SESRX_RSES_STAT_STATE r = 0 ∧ t.ses.qs = s.ses.qs) := by
  refine ⟨_, congrArg Host.Outcome.next (hw.rsesOff (keepWord_rsesOff s who) hen), ?_⟩
  obtain ⟨hzero, hstate, hqs⟩ := rsesDisable_shows (rsesStored (dropArms s P.sesrx) (keepWord s who P.sesrx 0x044 [(F.SESRX_RSES_CFG_EN, 0)]))
    (s.rd P.sesrx F.SESRX_RSES_SEL_SESSION)
  exact ⟨hzero, hstate, hqs.trans (qs_rsesStored ..)⟩

/-- Settles O25. -/
theorem receivingSessions : Obligations.ReceivingSessions := by
  refine ⟨fun s who p x a hw hp hx ha hr hen hmay => hw.rsesEnabled hp hx ha hen hmay, fun s who hw hr hen => hw.rsesDisabled hen,
    fun s f r halive hrun htyp hfroz hloop hr hen => ⟨_, congrArg Host.Outcome.next (if_pos (by simp [halive, hrun, htyp])), ?unknown⟩,
    fun s f r halive hrun htyp hfroz hloop hr hmine htaken hprobe hnext hadm hown =>
      ⟨_, congrArg Host.Outcome.next (if_pos (by simp [halive, hrun, htyp])), ?msg⟩,
    fun s r d halive hrun hhold hfroz hloop hown hr hdue hd hen he =>
      ⟨_, congrArg Host.Outcome.next (if_pos (by simp [halive, hrun, hhold, hfroz])), ?ack⟩,
    fun s r halive hr hrun hhold hfroz hloop hown hen hhist htaken hdue =>
      ⟨_, congrArg Host.Outcome.next (if_pos (by simp [halive, hr, hrun, hhold, hen, hhist, htaken, hdue])), ?fresh⟩⟩
  case unknown =>
    have hj : judgeMsg s f = raise (s.inc P.sesrx F.SESRX_CNT_UNKNOWN_N) P.sesrx 3 := by
      unfold judgeMsg
      dsimp only
      rw [if_neg (by simp [hfroz]), if_pos (by rw [← hr]; simp [hen])]
    rw [hj, sesDone_idle (by rw [(raise_keeps ..).ses rfl]; exact hloop)]
    exact ((raise_regs ..).rd _ _ rfl).trans (rd_inc_same ..)
  case msg =>
    obtain ⟨hl, hn, hc⟩ := judgeMsg_takes hfroz hloop hr hmine htaken hprobe hnext (fun d => by cases d; exacts [hadm.1, hadm.2]) hown
    rw [sesDone_idle hl]
    exact ⟨hn, hc⟩
  case ack =>
    have hown' : ∀ r < 256, isOwn s (s.rx F.SESRX_RSES_CFG_SRC r) = false := fun r hr => by
      simpa using List.all_eq_true.mp hown r (List.mem_range.mpr hr)
    obtain ⟨hacks, hnone, htick⟩ := acks_sent hr hown' he hfroz hrun hdue hd hen
    have hl : (s.each 256 ackDue).ses.loop = [] := hacks.acked.loop.trans hloop
    refine (show (rxSes (sesDone (s.each 256 ackDue)) r).due = none ∧ (rxSes (sesDone (s.each 256 ackDue)) r).ackTick = some s.ticks from ?_)
    rw [sesDone_idle hl]
    exact ⟨hnone, htick⟩
  case fresh =>
    obtain ⟨hacked, -, -, hsent⟩ := sendAck_out (r := r) false hown
    obtain ⟨-, -, hfd, hcount⟩ := hsent hfroz hrun
    rw [sesDone_idle (hacked.loop.trans hloop)]
    exact ⟨hfd, hcount⟩

end Sys2Proof.Machine
end

section
/-!
PROOF. Publication, the transfer engine, feeds and service power, activation.
-/

namespace Sys2Proof.Machine

/-! ## POWER of NODE_STATE (R61) -/

/-- The steps that follow a change of POWER leave it. -/
theorem setPower_service (s : State) (b : Bool) : (setPower s b).service = b := by
  unfold setPower
  split
  next h => exact h
  next =>
    extract_lets u v
    have hu : u.rd P.node F.NODE_NODE_STATE_POWER = b2n b :=
      ((raise_keeps ..).rd P.node F.NODE_NODE_STATE_POWER rfl).trans ((rd_wr_same ..).trans (by cases b <;> rfl))
    have hv : v.rd P.node F.NODE_NODE_STATE_POWER = u.rd P.node F.NODE_NODE_STATE_POWER := by
      show (if b then _ else _ : State).rd _ _ = _
      split
      · exact ((sourceJudge_keeps ..).rd P.node _ rfl).trans ((branchesOff_keeps ..).rd P.node _ rfl)
      · exact (svcOverlap_keeps ..).rd P.node _ rfl
    have hend : (judgeBudget (supplyJudge (domainsApply (canOut v)))).rd P.node F.NODE_NODE_STATE_POWER = b2n b := by
      refine ((judgeBudget_keeps ..).rd P.node _ rfl).trans (((supplyJudge_keeps ..).rd P.node _ rfl).trans ?_)
      exact ((domainsApply_keeps ..).rd P.node _ rfl).trans (((canOut_keeps ..).rd P.node _ rfl).trans (hv.trans hu))
    unfold State.service State.on
    rw [hend]
    cases b <;> rfl

theorem goState_isolate_power (s : State) :
    (goState s NS.isolate).rd P.node F.NODE_NODE_STATE_POWER = s.rd P.node F.NODE_NODE_STATE_POWER := by
  unfold goState
  split
  · rfl
  · refine ((domainsApply_keeps _).rd P.node F.NODE_NODE_STATE_POWER rfl).trans ?_
    refine ((tapJudge_keeps _).rd P.node F.NODE_NODE_STATE_POWER rfl).trans ?_
    unfold entryEffects
    rw [if_neg (by decide), if_pos rfl]
    exact ((isolateEntry_keeps _).rd P.node F.NODE_NODE_STATE_POWER rfl).trans
      ((enterState_keeps s NS.isolate).rd P.node F.NODE_NODE_STATE_POWER rfl)

theorem actForget_power (s : State) : (actForget s).rd P.node F.NODE_NODE_STATE_POWER = s.rd P.node F.NODE_NODE_STATE_POWER :=
  ((rd_wr_apart _ _ rfl).trans (rd_wr_apart _ _ rfl)).trans ((rd_wr_apart _ _ rfl).trans (rd_wr_apart _ _ rfl))

theorem actAbandon_power (s : State) : (actAbandon s).rd P.node F.NODE_NODE_STATE_POWER = s.rd P.node F.NODE_NODE_STATE_POWER := by
  unfold actAbandon
  split
  · rfl
  · extract_lets u v
    have hu : u.rd P.node F.NODE_NODE_STATE_POWER = s.rd P.node F.NODE_NODE_STATE_POWER :=
      (rd_wr_apart _ _ rfl).trans (rd_wr_apart _ _ rfl)
    have hv : v.rd P.node F.NODE_NODE_STATE_POWER = u.rd P.node F.NODE_NODE_STATE_POWER :=
      (actForget_power _).trans (rd_wr_beside u P.node (f := F.NODE_NODE_STATE_POWER) (g := F.NODE_NODE_STATE_UPDATE) 0 rfl)
    have hraise (w : State) (hw : w.regs = v.regs) :
        (raise w P.upd 5).rd P.node F.NODE_NODE_STATE_POWER = v.rd P.node F.NODE_NODE_STATE_POWER :=
      ((raise_keeps ..).rd P.node F.NODE_NODE_STATE_POWER rfl).trans (rd_of_regs hw ..)
    refine Eq.trans (hraise _ ?_) ?_
    · rfl
    · exact hv.trans hu

/-- An own-fault leaves POWER as it is. -/
theorem ownFault_power (s : State) (k : Nat) :
    (ownFault s k).rd P.node F.NODE_NODE_STATE_POWER = s.rd P.node F.NODE_NODE_STATE_POWER := by
  unfold ownFault
  split
  · exact ((evOnly_keeps ..).rd P.node _ rfl).trans (rd_setBit_apart _ _ _ rfl)
  · extract_lets u v
    have hu : u.rd P.node F.NODE_NODE_STATE_POWER = s.rd P.node F.NODE_NODE_STATE_POWER :=
      (actAbandon_power _).trans (((raise_keeps ..).rd P.node _ rfl).trans (rd_setBit_apart _ _ _ rfl))
    have hv : v.rd P.node F.NODE_NODE_STATE_POWER = s.rd P.node F.NODE_NODE_STATE_POWER :=
      ((hubLog_keeps ..).rd P.node _ rfl).trans hu
    split
    · exact (goState_isolate_power _).trans hv
    · exact hv

theorem feedWindowSettled_feed {s : State} {x : Nat} (ha : s.alive = true) (hs : s.service = true) (hp : pgMain s = true)
    (hf : (s.power.inA.any fun u => decide (u + 10000000 ≤ x)) = true ∨ (s.power.inB.any fun u => decide (u + 10000000 ≤ x)) = true) :
    ∃ t, exec (.feedWindowSettled x) s = .next t ∧ t.service = false := by
  refine ⟨_, congrArg Host.Outcome.next (if_pos ?_), setPower_service ..⟩
  simpa [ha, hs, hp] using hf

theorem feedsLost_service {s : State} (ha : s.alive = true) (hs : s.service = false) (hf : feedOk s = false) (hu : s.usb.svc = true) :
    ∃ t, exec .feedsLost s = .next t ∧ t.service = true := by
  refine ⟨_, congrArg Host.Outcome.next (if_pos (by simp [ha, hs, hf, hu])), ?_⟩
  have hset := setPower_service s true
  extract_lets u
  split
  · unfold State.service State.on
    rw [ownFault_power u OF.feedLost]
    exact hset
  · exact hset

/-! ## Activation (R553, R554) -/

theorem activate_due {s : State} {c : TickCmd} (ha : s.alive = true) (hc : s.time.cmds.find? (fun c => c.code == 5) = some c)
    (hst : s.working = true ∨ s.st = NS.join) (hu : updState s = 2) (hv : c.arg = 0 ∨ c.arg = s.mgmt.staged.version) :
    ∃ t, exec .activate s = .next t ∧ t.mgmt.actDue = some c.eff ∧ t.mgmt.actTries = 0 ∧ t.time.cmds = s.time.cmds.erase c := by
  refine ⟨_, congrArg Host.Outcome.next (if_pos ha), ?_⟩
  rw [hc]
  show (actRequest _ _ _).mgmt.actDue = _ ∧ (actRequest _ _ _).mgmt.actTries = _ ∧ (actRequest _ _ _).time.cmds = _
  unfold actRequest
  rw [if_neg]
  · exact ⟨rfl, rfl, rfl⟩
  · rintro (h | h | h)
    · have h' : (!(s.working || s.st == NS.join)) = true := h
      rcases hst with hst | hst <;> simp [hst] at h'
    · exact h hu
    · rcases hv with hv | hv
      · exact h.1 hv
      · exact h.2 hv

/-! ## Publication (R189 to R191) -/

/-- The samples of the track slots leave the publication records and the counters of its two pages. -/
theorem slotTakes_all_keeps (s : State) (i src : Nat) (pay : List Nat) :
    Keeps 523301110096422920962 s (s.each 8 fun t k => slotTakes t k i src pay) :=
  Keeps.each (fun t k => slotTakes_keeps t k i src pay) (.refl _ s)

/-- What no frame that reaches a subscription entry changes: the channels taken and their sequence numbers. -/
theorem feedEntry_channels (s : State) (i src chan sq : Nat) (pay : List Nat) (rx : Nat) :
    (feedEntry s i src chan sq pay rx).pub.taken = s.pub.taken ∧ (feedEntry s i src chan sq pay rx).pub.chSeq = s.pub.chSeq := by
  unfold feedEntry
  split
  · have h := (raise_keeps (s.inc P.sub F.SUBSCRIBE_CNT_LEN_MISMATCH_N) P.sub 3).pub rfl
    exact ⟨congrArg PubSt.taken h, congrArg PubSt.chSeq h⟩
  · extract_lets x u v
    have h := (slotTakes_all_keeps v i src pay).pub rfl
    exact ⟨(congrArg PubSt.taken h).trans rfl, (congrArg PubSt.chSeq h).trans rfl⟩

/-- A frame with the entry's length (R191). -/
theorem feedEntry_fits {s : State} {i : Nat} {pay : List Nat} (h : pay.length = min 256 (s.rd P.sub (F.SUBSCRIBE_SUB_MATCH_LEN i)))
    (src chan sq rx : Nat) : (subEnt (feedEntry s i src chan sq pay rx) i).back.data = pay ∧
      (subEnt (feedEntry s i src chan sq pay rx) i).fresh = true ∧
      (feedEntry s i src chan sq pay rx).rd P.sub F.SUBSCRIBE_CNT_ACCEPT_N =
        satAdd F.SUBSCRIBE_CNT_ACCEPT_N.width (s.rd P.sub F.SUBSCRIBE_CNT_ACCEPT_N) 1 := by
  unfold feedEntry
  rw [if_neg (by simpa using h)]
  extract_lets x u v
  have hkeep := slotTakes_all_keeps v i src pay
  have hent : subEnt (v.each 8 fun t k => slotTakes t k i src pay) i = subEnt u i := by
    unfold subEnt
    rw [hkeep.pub rfl]
    rfl
  have hput : subEnt u i = _ := Tbl.at_put_same s.pub.subs {} i _
  refine ⟨by rw [hent, hput], by rw [hent, hput], (hkeep.rd P.sub F.SUBSCRIBE_CNT_ACCEPT_N rfl).trans ?_⟩
  exact rd_inc_same u P.sub F.SUBSCRIBE_CNT_ACCEPT_N 1

theorem publish_accepted {s : State} {f : Frame} {x i : Nat} (ha : s.alive = true) (hf : f.typ = 2 ∧ f.mc = true)
    (hr : subRuns s = true) (hg : (groupPorts s f.dst).contains 10 = true) (hm : matching s f.src (f.w3 / 2 ^ 26 % 64) = [i])
    (ht : f.w4 % 2 ^ 32 * 65536 + f.tick % 65536 = s.tick % 2 ^ 48)
    (hl : f.pay.length = min 256 (s.rd P.sub (F.SUBSCRIBE_SUB_MATCH_LEN i))) :
    ∃ t, exec (.publishReceived f x) s = .next t ∧ (subEnt t i).back.data = f.pay ∧ (subEnt t i).fresh = true ∧
      t.rd P.sub F.SUBSCRIBE_CNT_ACCEPT_N = satAdd F.SUBSCRIBE_CNT_ACCEPT_N.width (s.rd P.sub F.SUBSCRIBE_CNT_ACCEPT_N) 1 := by
  refine ⟨_, congrArg Host.Outcome.next (if_pos (by simp [ha, hf])), ?_⟩
  have hdeliver (u : State) (hu1 : subRuns u = true) (hu2 : (groupPorts u f.dst).contains 10 = true)
      (hu3 : matching u f.src (f.w3 / 2 ^ 26 % 64) = [i]) (hu4 : f.w4 % 2 ^ 32 * 65536 + f.tick % 65536 = u.tick % 2 ^ 48) :
      pubDeliver u f x = settleEdges (feedEntry u i f.src (f.w3 / 2 ^ 26 % 64) (f.w3 % 65536) f.pay x) := by
    unfold pubDeliver
    rw [if_neg (by simpa [hu1] using hu2), hu3]
    exact (if_neg (by simp)).trans (if_neg (by simpa using hu4))
  rw [hdeliver (s.atTime x) hr hg hm ht]
  have hkeep := settleEdges_keeps (feedEntry (s.atTime x) i f.src (f.w3 / 2 ^ 26 % 64) (f.w3 % 65536) f.pay x)
  obtain ⟨hdata, hfresh, hcount⟩ :=
    feedEntry_fits (s := s.atTime x) hl f.src (f.w3 / 2 ^ 26 % 64) (f.w3 % 65536) x
  have hpub := hkeep.pub rfl
  unfold subEnt at hdata hfresh ⊢
  rw [hpub]
  exact ⟨hdata, hfresh, (hkeep.rd P.sub F.SUBSCRIBE_CNT_ACCEPT_N rfl).trans hcount⟩

/-- What a channel's frame does to the channels' records and to the count of frames sent (R189). -/
theorem offerChan_sent (s : State) (c : Nat) (pay : List Nat) :
    (offerChan s c pay).pub.taken = s.pub.taken ∧
      (offerChan s c pay).pub.chSeq.at 0 c = (s.pub.chSeq.at 0 c + 1) % 65536 ∧
      (offerChan s c pay).rd P.pub F.PUBLISH_CNT_SENT_N = satAdd F.PUBLISH_CNT_SENT_N.width (s.rd P.pub F.PUBLISH_CNT_SENT_N) 1 := by
  rcases hn : newId s with ⟨id, u⟩
  have hu : s.regs = u.regs ∧ s.pub = u.pub := by
    rw [show u = (newId s).2 from (congrArg Prod.snd hn).symm]
    exact ⟨rfl, rfl⟩
  unfold offerChan
  rw [hn]
  dsimp -zeta only
  extract_lets f g ps r v sq src x w
  have hcopies : r.2.pub = s.pub ∧ r.2.rd P.pub F.PUBLISH_CNT_SENT_N = s.rd P.pub F.PUBLISH_CNT_SENT_N := by
    refine List.foldlRecOn (motive := fun a : Bool × State => a.2.pub = s.pub ∧
      a.2.rd P.pub F.PUBLISH_CNT_SENT_N = s.rd P.pub F.PUBLISH_CNT_SENT_N) _ _ ⟨hu.2.symm, rd_of_regs hu.1.symm ..⟩ fun a h y _ => ?_
    obtain ⟨hpub, hrd⟩ := h
    extract_lets o
    have ho := admitOne_keeps a.2 y.1 id { g with copy := y.1 % 2, reach := y.2 } true false 10
    split
    · exact ⟨(ho.pub rfl).trans hpub, (ho.rd P.pub F.PUBLISH_CNT_SENT_N rfl).trans hrd⟩
    · have hd := dropAt_keeps o.2 y.1 5
      have hr := raise_keeps ((dropAt o.2 y.1 5).inc P.pub F.PUBLISH_CNT_DROP_N) P.pub 1
      refine ⟨(hr.pub rfl).trans ((hd.pub rfl).trans ((ho.pub rfl).trans hpub)), ?_⟩
      refine (hr.rd P.pub F.PUBLISH_CNT_SENT_N rfl).trans ((rd_inc_apart _ _ rfl).trans ?_)
      exact (hd.rd P.pub F.PUBLISH_CNT_SENT_N rfl).trans ((ho.rd P.pub F.PUBLISH_CNT_SENT_N rfl).trans hrd)
  have hv : v.pub = s.pub ∧ v.rd P.pub F.PUBLISH_CNT_SENT_N = s.rd P.pub F.PUBLISH_CNT_SENT_N := by
    by_cases hr : r.1 = true
    · rw [show v = haloSeqNext r.2 false 0 from if_pos hr]
      exact hcopies
    · rw [show v = r.2 from if_neg hr]
      exact hcopies
  have hw : w.pub.taken = s.pub.taken ∧ w.pub.chSeq.at 0 c = (s.pub.chSeq.at 0 c + 1) % 65536 ∧
      w.rd P.pub F.PUBLISH_CNT_SENT_N = satAdd F.PUBLISH_CNT_SENT_N.width (s.rd P.pub F.PUBLISH_CNT_SENT_N) 1 := by
    refine ⟨(show w.pub.taken = v.pub.taken from rfl).trans (congrArg PubSt.taken hv.1), ?_, ?_⟩
    · refine (Tbl.at_put_same v.pub.chSeq 0 c _).trans ?_
      rw [show sq = v.pub.chSeq.at 0 c from rfl, hv.1]
    · have hbit : w.rd P.pub F.PUBLISH_CNT_SENT_N = (x.inc P.pub F.PUBLISH_CNT_SENT_N).rd P.pub F.PUBLISH_CNT_SENT_N := by
        by_cases hc : c < 32
        · exact (congrArg (State.rd · P.pub F.PUBLISH_CNT_SENT_N)
            (congrArg ((x.inc P.pub F.PUBLISH_CNT_SENT_N).setBit P.pub · (c % 32) true) (if_pos hc))).trans (rd_setBit_apart _ _ _ rfl)
        · exact (congrArg (State.rd · P.pub F.PUBLISH_CNT_SENT_N)
            (congrArg ((x.inc P.pub F.PUBLISH_CNT_SENT_N).setBit P.pub · (c % 32) true) (if_neg hc))).trans (rd_setBit_apart _ _ _ rfl)
      refine hbit.trans ((rd_inc_same x P.pub F.PUBLISH_CNT_SENT_N 1).trans ?_)
      rw [show x.rd P.pub F.PUBLISH_CNT_SENT_N = s.rd P.pub F.PUBLISH_CNT_SENT_N from hv.2]
      rfl
  split
  · refine List.foldlRecOn (motive := fun t : State => t.pub.taken = s.pub.taken ∧
      t.pub.chSeq.at 0 c = (s.pub.chSeq.at 0 c + 1) % 65536 ∧
      t.rd P.pub F.PUBLISH_CNT_SENT_N = satAdd F.PUBLISH_CNT_SENT_N.width (s.rd P.pub F.PUBLISH_CNT_SENT_N) 1) _ _ hw fun t h i _ => ?_
    obtain ⟨htaken, hseq, hcount⟩ := h
    obtain ⟨ht, hs⟩ := feedEntry_channels t i w.own c sq pay t.now
    exact ⟨ht.trans htaken, (congrArg (·.at 0 c) hs).trans hseq,
      ((feedEntry_keeps ..).rd P.pub F.PUBLISH_CNT_SENT_N rfl).trans hcount⟩
  · exact hw

theorem channel_offered {s : State} {c : Nat} {b : List Nat} (ha : s.alive = true) (hp : pubOn s = true) (ho : s.ownValid = true)
    (hh : s.on P.halo F.HALO_JOIN_STAT_HOLD_DONE = true) (ht : s.pub.taken = [(c, b)]) :
    ∃ t, exec .channelOffer s = .next t ∧ t.pub.taken = [] ∧ t.pub.chSeq.at 0 c = (s.pub.chSeq.at 0 c + 1) % 65536 ∧
      t.rd P.pub F.PUBLISH_CNT_SENT_N = satAdd F.PUBLISH_CNT_SENT_N.width (s.rd P.pub F.PUBLISH_CNT_SENT_N) 1 := by
  refine ⟨_, congrArg Host.Outcome.next (if_pos ha), ?_⟩
  have hoffer : pubOffer s = settleEdges (offerChan { s with pub := { s.pub with taken := [] } } c b) := by
    unfold pubOffer
    rw [ht]
    exact (if_pos (by simp [ho, hp])).trans (if_pos hh)
  rw [hoffer]
  obtain ⟨htaken, hseq, hcount⟩ := offerChan_sent { s with pub := { s.pub with taken := [] } } c b
  have hkeep := settleEdges_keeps (offerChan { s with pub := { s.pub with taken := [] } } c b)
  exact ⟨(congrArg PubSt.taken (hkeep.pub rfl)).trans htaken, (congrArg (·.chSeq.at 0 c) (hkeep.pub rfl)).trans hseq,
    (hkeep.rd P.pub F.PUBLISH_CNT_SENT_N rfl).trans hcount⟩

/-! ## The end of a descriptor (R234, R235) -/

@[simp] theorem descsOf_setDescs_same (s : State) (c : Nat) (l : List XferDesc) : descsOf (setDescs s c l) c = l :=
  Tbl.at_put_same s.txn.descs [] c l

theorem descsOf_setDescs_ne (s : State) {c k : Nat} (h : k ≠ c) (l : List XferDesc) : descsOf (setDescs s c l) k = descsOf s k :=
  Tbl.at_put_ne s.txn.descs [] h l

theorem descStep_ended {t : State} {c : Nat} {e : XferDesc} (he : descsOf t c = [e]) (hover : descOver e = true) :
    descStep t c e.idx = (false, t) ∨ descStep t c e.idx = (false, setDescs t c [{ e with crossed := false }]) := by
  obtain ⟨-, hend⟩ : (e.out == 0) = true ∧ (e.status != 0 || (e.next == e.len && e.got.isEmpty)) = true := by
    simpa [descOver] using hover
  unfold descStep
  rw [he]
  simp only [List.find?_cons, beq_self_eq_true]
  by_cases hst : e.status = 0
  · obtain ⟨hn, hg⟩ : e.next = e.len ∧ e.got = [] := by simpa [hst] using hend
    have hx : xferStitch t e = none := by
      unfold xferStitch
      rw [hg]
      exact if_pos (by omega)
    rw [if_neg (by simp [hst, hx]), hg, hn]
    simp only [lt_irrefl, if_false]
    by_cases hc : e.crossed = true
    · right
      rw [if_pos hc]
      simp [mapDesc, he, hn, hg]
    · left
      rw [if_neg hc]
  · left
    rw [if_pos (.inl hst)]

/-- A step that answers false ends the run. -/
theorem descRun_of_stop {s t : State} {c idx : Nat} (h : descStep s c idx = (false, t)) (n : Nat) : descRun (n + 1) s c idx = t := by
  rw [descRun, h]
  rfl

/-- The descriptor in flight is `e`, which has ended, and but for it the state is `s`. -/
structure Ended (s : State) (c : Nat) (d : XferDesc) (t : State) (e : XferDesc) : Prop where
  rest : ∃ l, t = { s with txn := { s.txn with descs := l } }
  one : ∀ k, descsOf t k = if k = c then [e] else []
  done : descOver e = true
  same : e = d ∨ e = { d with crossed := false }

theorem Ended.uncross {s : State} {c : Nat} {d : XferDesc} {t : State} {e : XferDesc} (h : Ended s c d t e) :
    Ended s c d (setDescs t c [{ e with crossed := false }]) { e with crossed := false } where
  rest := by
    obtain ⟨l, rfl⟩ := h.rest
    exact ⟨_, rfl⟩
  one k := by
    by_cases hk : k = c
    · rw [if_pos hk, hk]
      exact descsOf_setDescs_same ..
    · rw [if_neg hk]
      exact (descsOf_setDescs_ne t hk _).trans ((h.one k).trans (if_neg hk))
  done := h.done
  same := by
    rcases h.same with rfl | rfl <;> exact .inr rfl

/-- A descriptor that has ended moves no further. -/
theorem xferPump_ended {s : State} {c : Nat} {d : XferDesc} (hd : s.txn.descs = [(c, [d])]) (hover : descOver d = true) :
    ∃ e, Ended s c d (xferPump s) e := by
  have hs : Ended s c d s d := by
    refine ⟨⟨s.txn.descs, rfl⟩, fun k => ?_, hover, .inl rfl⟩
    unfold descsOf
    rw [hd]
    by_cases hk : k = c
    · rw [if_pos hk, hk]
      simp [Tbl.at, alGet]
    · rw [if_neg hk]
      simp [Tbl.at, alGet, Ne.symm hk]
  refine List.foldlRecOn (motive := fun t : State => ∃ e, Ended s c d t e) _ _ ⟨d, hs⟩ fun t h k _ => ?_
  obtain ⟨e, he⟩ := h
  rw [he.one k]
  split
  next hk =>
    subst hk
    rcases descStep_ended ((he.one k).trans (if_pos rfl)) he.done with hstep | hstep
    · exact ⟨e, by rw [List.foldl_cons, List.foldl_nil, descFuel, descRun_of_stop hstep]; exact he⟩
    · exact ⟨_, by rw [List.foldl_cons, List.foldl_nil, descFuel, descRun_of_stop hstep]; exact he.uncross⟩
  next => exact ⟨e, he⟩

/-- The engine's page stops as a whole: no descriptor and no byte of memory follows. -/
theorem blockStop_xfer (s : State) : (blockStop s P.xfer).txn = s.txn ∧ (blockStop s P.xfer).mem = s.mem := by
  refine ⟨?_, (blockStop_keeps ..).mem rfl⟩
  unfold blockStop
  split <;> rfl

theorem leBytes_top (v : Nat) : (leBytes 4 v).getD 3 0 = v / 256 / 256 / 256 % 256 := rfl

theorem topByte_eq (st n : Nat) : (2 ^ 31 + st * 2 ^ 24 + n % 2 ^ 24) / 256 / 256 / 256 % 256 = (128 + st) % 256 := by
  omega

/-- The top byte of a word that is written at `a` + 0x1C. -/
theorem memAt_lastWord (s : State) (a v : Nat) :
    ((s.memWrite (a + 0x1C) (leBytes 4 v)).memAt (a + 0x1F)).toNat = v / 256 / 256 / 256 % 256 := by
  rw [memAt_memWrite, if_pos ⟨by omega, by rw [length_leBytes]; omega⟩, Nat.add_sub_add_left, leBytes_top, BitVec.toNat_ofNat]
  exact Nat.mod_mod _ 256

/-- DONE and STATUS head the last word of a descriptor's write-back (R234). -/
theorem writeBack_top {s : State} {c : Nat} {d : XferDesc} (h : backRefused s c d = false) :
    ((writeBack s c d).memAt (descAddr s c d.idx + 0x1F)).toNat = (128 + d.status) % 256 := by
  unfold writeBack
  rw [if_neg (by simp [h]), memAt_lastWord, topByte_eq]

theorem wr_leaves (s : State) (p : Nat) (f : Fld) (v : Nat) : (s.wr p f v).mem = s.mem ∧ (s.wr p f v).txn = s.txn := ⟨rfl, rfl⟩

theorem chanHalt_leaves (s : State) (c : Nat) : (chanHalt s c).mem = s.mem ∧ (chanHalt s c).txn = s.txn :=
  have h := raise_keeps (s.wr P.xfer (F.XFER_CH_STAT_HALTED c) 1) P.xfer c
  ⟨h.mem rfl, h.txn rfl⟩

theorem raiseIf_leaves (s : State) (b : Bool) (p k : Nat) : (raiseIf s b p k).mem = s.mem ∧ (raiseIf s b p k).txn = s.txn :=
  have h := raiseIf_keeps s b p k
  ⟨h.mem rfl, h.txn rfl⟩

theorem descComplete_written {s : State} {c : Nat} {d : XferDesc} (hone : descsOf s c = [d]) (he : d.evt = false)
    (hb : backRefused s c d = false) : descsOf (descComplete s c d false) c = [] ∧
      ((descComplete s c d false).memAt (descAddr s c d.idx + 0x1F)).toNat = (128 + d.status) % 256 := by
  have hd : descEvent s d = (true, s) := by
    unfold descEvent
    exact if_pos (by simp [he])
  have htop : ((writeBack (setDescs s c []) c d).memAt (descAddr s c d.idx + 0x1F)).toNat = (128 + d.status) % 256 :=
    writeBack_top (s := setDescs s c []) hb
  have hwrite : (writeBack (setDescs s c []) c d).txn = (setDescs s c []).txn := (writeBack_keeps ..).txn rfl
  have hcomplete : ∃ t, (t.mem = (writeBack (setDescs s c []) c d).mem ∧ t.txn = (writeBack (setDescs s c []) c d).txn) ∧
      descComplete s c d false = blockStop t P.xfer := by
    unfold descComplete
    simp only [Bool.false_eq_true, if_false, hb, hd, Bool.not_true]
    rw [show (descsOf s c).filter (·.idx != d.idx) = [] by simp [hone]]
    refine ⟨_, ?_, rfl⟩
    generalize hu : (if d.status ≠ 0 then _ else _ : State) = u
    obtain ⟨hmem, htxn⟩ : u.mem = (writeBack (setDescs s c []) c d).mem ∧ u.txn = (writeBack (setDescs s c []) c d).txn := by
      rw [← hu]
      split
      · exact wr_leaves _ P.xfer (F.XFER_CH_STAT_LAST_ERR c) d.status
      · exact ⟨rfl, rfl⟩
    split
    · obtain ⟨hm, ht⟩ := chanHalt_leaves u c
      exact ⟨hm.trans hmem, ht.trans htxn⟩
    · obtain ⟨hm, ht⟩ := raiseIf_leaves u d.irq P.xfer c
      exact ⟨hm.trans hmem, ht.trans htxn⟩
  obtain ⟨t, ⟨hmem, hdescs⟩, hdone⟩ := hcomplete
  rw [hdone]
  obtain ⟨htxn, hm⟩ := blockStop_xfer t
  constructor
  · unfold descsOf
    rw [htxn, hdescs, hwrite]
    exact descsOf_setDescs_same s c []
  · have hat (x : Nat) : (blockStop t P.xfer).memAt x = (writeBack (setDescs s c []) c d).memAt x := by
      unfold State.memAt
      rw [hm, hmem]
    rw [hat]
    exact htop

theorem xferComplete_written {s : State} {c : Nat} {d : XferDesc} (ha : s.alive = true) (hc : c < 8) (hd : s.txn.descs = [(c, [d])])
    (hover : descOver d = true) (he : d.evt = false) (hb : backRefused s c d = false) :
    ∃ t, exec (.xferComplete c d.idx false) s = .next t ∧ descsOf t c = [] ∧
      (t.memAt (descAddr s c d.idx + 0x1F)).toNat = (128 + d.status) % 256 := by
  refine ⟨_, congrArg Host.Outcome.next (if_pos (by simp [ha, hc])), ?_⟩
  obtain ⟨e, hended⟩ := xferPump_ended hd hover
  obtain ⟨l, hpump⟩ := hended.rest
  have hone : descsOf (xferPump s) c = [e] := (hended.one c).trans (if_pos rfl)
  obtain ⟨hidx, hst, hev⟩ : e.idx = d.idx ∧ e.status = d.status ∧ e.evt = false := by
    rcases hended.same with rfl | rfl <;> exact ⟨rfl, rfl, he⟩
  have hback : backRefused (xferPump s) c e = false := by
    have hbe : backRefused s c e = false := by
      rcases hended.same with rfl | rfl <;> exact hb
    rw [hpump]
    exact hbe
  have hfind : (descsOf (xferPump s) c).find? (·.idx == d.idx) = some e := by simp [hone, hidx]
  extract_lets t
  rw [hfind]
  obtain ⟨hfree, htop⟩ := descComplete_written hone hev hback
  rw [show descAddr (xferPump s) c e.idx = descAddr s c d.idx by rw [hpump, hidx]; rfl, hst] at htop
  simp only [hended.done, if_true]
  exact ⟨hfree, htop⟩

end Sys2Proof.Machine
end

section
/-!
PROOF. What the transfer engine's own accesses leave: descriptors in flight, and where each ring goes on.
-/

namespace Sys2Proof.Machine

/-- The registers other than the tails of the transfer rings, which no write reaches. -/
def tailKey (k : Key) : Bool := !(decide (0x110 ≤ k.off) && k.off % 0x20 == 0x10 && k.page == P.xfer)

theorem regGroup_tail {k : Key} (h : tailKey k = false) : regGroup k = 78 := by
  simp only [tailKey, Bool.not_eq_false', Bool.and_eq_true, decide_eq_true_eq, beq_iff_eq] at h
  obtain ⟨⟨hoff, -⟩, hpage⟩ := h
  have := @group_xfer k.off k.lsb k.idx
  cases k with
  | mk p o l i =>
    obtain rfl : p = P.xfer := hpage
    rcases this with e | e
    · exact e
    · exact absurd e (regGroup_ne_header (Nat.le_trans (by decide) hoff))

/-! ## Steps that leave a part of the state -/

/-- A part of the state, the registers that are not part of it, and the parts of `Keeps` that it reads. -/
structure Watch where
  β : Type
  part : State → β
  free : Key → Bool
  mask : Nat
  sound : ∀ {m : Nat} {s t : State}, Keeps m s t → m &&& mask = 0 → part t = part s ∧ RegsKeep free s t

/-- What is watched is as before. -/
structure Keeping (W : Watch) (s t : State) : Prop where
  part : W.part t = W.part s
  regs : RegsKeep W.free s t

namespace Keeping

variable {W : Watch} {s t u : State}

theorem refl (s : State) : Keeping W s s := ⟨rfl, .refl ..⟩

theorem trans (h : Keeping W s t) (k : Keeping W t u) : Keeping W s u := ⟨k.part.trans h.part, h.regs.trans k.regs⟩

theorem of_eq (hp : W.part t = W.part s) (hr : t.regs = s.regs) : Keeping W s t := ⟨hp, .of_eq hr⟩

/-- After a step whose table of effects has nothing that is watched. -/
theorem via {m : Nat} (k : Keeps m t u) (hm : m &&& W.mask = 0) (h : Keeping W s t) : Keeping W s u :=
  h.trans ⟨(W.sound k hm).1, (W.sound k hm).2⟩

theorem wri (h : Keeping W s t) (hp : ∀ r, W.part { t with regs := r } = W.part t) (p : Nat) (f : Fld) (i v : Nat)
    (hk : W.free ⟨p, f.off, f.lsb, i⟩ = true) : Keeping W s (t.wri p f i v) := ⟨(hp _).trans h.part, h.regs.wri v hk⟩

theorem ite {c : Prop} [Decidable c] (h : Keeping W s t) (k : Keeping W s u) : Keeping W s (if c then t else u) := by
  split
  · exact h
  · exact k

theorem ite_snd {α : Type} {x y : α × State} {c : Prop} [Decidable c] (h : Keeping W s x.2) (k : Keeping W s y.2) :
    Keeping W s (if c then x else y).2 := by
  split
  · exact h
  · exact k

theorem ite_snd2 {α β : Type} {x y : α × β × State} {c : Prop} [Decidable c] (h : Keeping W s x.2.2) (k : Keeping W s y.2.2) :
    Keeping W s (if c then x else y).2.2 := by
  split
  · exact h
  · exact k

theorem foldl {α : Type} {f : State → α → State} (hf : ∀ t a, Keeping W t (f t a)) (l : List α) (h : Keeping W s t) :
    Keeping W s (l.foldl f t) := by
  induction l generalizing t with
  | nil => exact h
  | cons a r ih => exact ih (h.trans (hf t a))

theorem foldl_snd {α β : Type} {f : β × State → α → β × State} (hf : ∀ p a, Keeping W p.2 (f p a).2) (l : List α) {p : β × State}
    (h : Keeping W s p.2) : Keeping W s (l.foldl f p).2 := by
  induction l generalizing p with
  | nil => exact h
  | cons a r ih => exact ih (h.trans (hf p a))

theorem when {b : Bool} {f : State → State} (hf : ∀ t, Keeping W t (f t)) (h : Keeping W s t) : Keeping W s (t.when b f) := by
  unfold State.when
  exact ite (h.trans (hf t)) h

theorem of_snd {α : Type} {p : α × State} {a : α} (e : p = (a, u)) (h : Keeping W s p.2) : Keeping W s u := by
  rw [e] at h
  exact h

end Keeping

/-- A part that the mask leaves out. -/
theorem testBit_of_and {m k n : Nat} (h : m &&& k = 0) (hk : k.testBit n = true) : m.testBit n = false := by
  have := congrArg (Nat.testBit · n) h
  simpa [hk] using this

/-- The descriptors in flight, and the tails of their rings. -/
@[reducible] def xferWatch : Watch where
  β := Tbl (List XferDesc)
  part s := s.txn.descs
  free := tailKey
  mask := 2 ^ 16 + 2 ^ 78
  sound k hm := ⟨congrArg TxnSt.descs (k.txn (testBit_of_and hm (by decide))),
    ⟨fun key d hk => k.pages key d (by rw [regGroup_tail hk]; exact testBit_of_and hm (by decide))⟩⟩

/-- Neither the descriptors in flight nor the tails of their rings have changed. -/
abbrev Carried (s t : State) : Prop := Keeping xferWatch s t

theorem Carried.refl (s : State) : Carried s s := Keeping.refl s

theorem Carried.wri {s t : State} (h : Carried s t) (p : Nat) (f : Fld) (i v : Nat) (hk : tailKey ⟨p, f.off, f.lsb, i⟩ = true) :
    Carried s (t.wri p f i v) := Keeping.wri h (fun _ => rfl) p f i v hk

/-! ## Requests -/

theorem setTag_carried (s : State) (n : Nat) (g : Option TagSt) : Carried s (setTag s n g) := .of_eq rfl rfl

theorem putTag_carried (s : State) (g : TagSt) : Carried s (putTag s g).2 := .of_eq rfl rfl

theorem sendTag_carried (s : State) (n : Nat) : Carried s (sendTag s n) := by
  unfold sendTag
  split
  · exact .refl s
  · split <;> exact .via (originate_keeps ..) rfl (.via (State.inc_keeps 52 group_txn ..) rfl (setTag_carried ..))

theorem takeTag_carried (s : State) (g : TagSt) : Carried s (takeTag s g).2 := by
  unfold takeTag
  extract_lets known waits fetch x u
  have hu : Carried s u :=
    .ite ((Keeping.via (State.inc_keeps 52 group_txn ..) rfl (putTag_carried ..)).trans (sendTag_carried ..)) (.refl s)
  refine .ite_snd hu ?_
  exact .ite (hu.trans (putTag_carried ..)) ((hu.trans (putTag_carried ..)).trans (sendTag_carried ..))

theorem sendEvent_carried (s : State) (init dst k value exp : Nat) : Carried s (sendEvent s init dst k value exp).2 := by
  unfold sendEvent
  split
  next h => exact .of_snd h (takeTag_carried ..)
  next n t h =>
    have ht : Carried s t := .of_snd h (takeTag_carried ..)
    extract_lets prev
    split
    · exact ht.trans (setTag_carried ..)
    · exact ht

theorem evout_carried (s : State) (ini dst k value : Nat) : Carried s (evout s ini dst k value).2 := by
  unfold evout
  refine .ite_snd (.via (eventIn_keeps ..) rfl (.refl s)) (.ite_snd (.via (writeFailed_keeps ..) rfl (.refl s)) ?_)
  exact sendEvent_carried ..

theorem effTxn_carried (s : State) (off word : Nat) : Carried s (effTxn s off word) := .ite (.of_eq rfl rfl) (.refl s)

/-! ## Frames that cross -/

theorem crossNext_carried (s : State) (f : Frame) : Carried s (crossNext s f) := .ite (.of_eq rfl rfl) (.refl s)

theorem crossOut_carried (s : State) (k : Bool) (i : Nat) (f : Frame) : Carried s (crossOut s k i f).2 := by
  unfold crossOut
  rcases hn : newId s with ⟨id, t⟩
  have hnew : Carried s t := .of_snd hn (.of_eq rfl rfl)
  dsimp -zeta only
  extract_lets r
  have hr : Carried s r.2 := by
    refine .foldl_snd (fun a c => ?_) _ hnew
    extract_lets o
    refine .ite_snd (.via (admitOne_keeps ..) rfl (.refl _)) ?_
    exact .via (dropAt_keeps ..) rfl (.via (admitOne_keeps ..) rfl (.refl _))
  exact .ite (hr.trans (crossNext_carried ..)) hr

theorem crossWhole_carried (s : State) (k : Bool) (id : Nat) (f : Frame) : Carried s (crossWhole s k id f).2 :=
  .ite_snd ((Keeping.via (numberEntries_keeps ..) rfl (.refl s)).trans (crossNext_carried ..)) (.refl s)

theorem crossSend_carried (s : State) (k : Bool) (i id : Nat) (f : Frame) : Carried s (crossSend s k i id f).2 := by
  unfold crossSend
  exact .when (fun t => .via (State.inc_keeps 53 group_gw ..) rfl (.refl t)) (.ite_snd (crossWhole_carried ..) (crossOut_carried ..))

theorem crossFrame_carried (s : State) (i id : Nat) (f : Frame) : Carried s (crossFrame s i id f).2 := by
  unfold crossFrame
  refine .ite_snd ?_ (crossSend_carried ..)
  exact (Keeping.via (countRaise_keeps 53 group_gw s ..) rfl (.refl s)).trans (crossOut_carried ..)

theorem passed_carried (s : State) (i id : Nat) (f : Frame) (c : Bool) (o : Bool × Bool) : Carried s (passed s i id f c o).2 := by
  unfold passed
  exact .ite_snd (.via (noteStatus_keeps ..) rfl (crossFrame_carried ..)) (.via (noteStatus_keeps ..) rfl (.refl s))

/-! ## Lanes that go down -/

theorem acceptHeld_carried (s : State) (g : Nat) (h : HeldFrame) : Carried s (acceptHeld s g h) := by
  unfold acceptHeld
  extract_lets x n a p o u
  have hu : Carried s u := by
    refine Keeping.trans ?_ (passed_carried a.2 ..)
    exact .via (admitRx_keeps ..) rfl (.via (newId_keeps ..) rfl (.via (haloAccept_keeps ..) rfl (.refl s)))
  exact .ite (.via (noteTun_keeps ..) rfl (.via (setHaloEnt_keeps ..) rfl hu)) (.via (haloSettle_keeps ..) rfl hu)

theorem settleHeld_carried (s : State) (src g q : Nat) (ok : Bool) : Carried s (settleHeld s src g q ok) := by
  unfold settleHeld
  extract_lets t e mine u
  have hu : Carried s u := .via (setHaloEnt_keeps ..) rfl (.via (haloSettle_keeps ..) rfl (.refl s))
  refine .ite (.foldl (fun w h => .via (haloDup_keeps ..) rfl (.refl w)) _ hu) ?_
  clear_value mine
  split
  · exact hu
  · exact .foldl (fun w h => .via (haloDup_keeps ..) rfl (.refl w)) _ (hu.trans (acceptHeld_carried ..))

theorem endHeld_carried (s : State) (i : Nat) (f : Frame) (ok : Bool) : Carried s (endHeld s i f ok) := by
  unfold endHeld
  extract_lets g e mine u
  have hu : Carried s u := .via (setHaloEnt_keeps ..) rfl (.refl s)
  refine .ite hu (.ite (.via (setHaloEnt_keeps ..) rfl (.refl s)) ?_)
  have hd : Carried s (haloDecide u f.src g f.seq u.now).2 := .via (haloDecide_keeps ..) rfl hu
  split
  next hq => exact (Keeping.of_snd hq hd).trans (acceptHeld_carried ..)
  next hq => exact .via (countRaise_keeps 46 group_halo ..) rfl (.of_snd hq hd)
  next hq => exact .via (haloDup_keeps ..) rfl (.of_snd hq hd)

theorem rxLost_carried (s : State) (i : Nat) (x : RxFrame) : Carried s (rxLost s i x) := by
  unfold rxLost
  refine .ite (.refl s) (.ite (endHeld_carried ..) ?_)
  have hstomp : Carried s (stompStored s x.id) := .via (stompStored_keeps ..) rfl (.refl s)
  extract_lets u l v
  have hv : Carried s v := by
    dsimp only [v]
    split
    · exact .ite (.via (State.setLane_keeps ..) rfl hstomp) hstomp
    · exact hstomp
  exact .ite (hv.trans (settleHeld_carried ..)) hv

theorem rxCut_carried (s : State) (i : Nat) : Carried s (rxCut s i) := by
  unfold rxCut
  extract_lets u
  have hu : Carried s u := .via (tapEnds_keeps ..) rfl (.refl s)
  split
  · exact hu
  · exact (Keeping.via (State.setLane_keeps ..) rfl hu).trans (rxLost_carried ..)

theorem laneExit_carried (s : State) (i st : Nat) : Carried s (laneExit s i st) := by
  unfold laneExit
  extract_lets downs l t u mx hold v w
  have hv : Carried s v :=
    .via (setLaneState_keeps ..) rfl (.via (countRaise_keeps 45 group_lane ..) rfl (.via (State.setLane_keeps ..) rfl (.refl s)))
  have hw : Carried s w := .ite (.via (laneCause_keeps ..) rfl hv) hv
  exact .via (flushPort_keeps ..) rfl (hw.trans (rxCut_carried ..))

theorem laneOff_carried (s : State) (i : Nat) : Carried s (laneOff s i) := by
  unfold laneOff
  refine .ite (.refl s) (.ite ?_ (.via (setLaneState_keeps ..) rfl (.refl s)))
  exact .via (linkNotice_keeps ..) rfl (laneExit_carried ..)

theorem flushFull_carried (s : State) (p : Nat) : Carried s (flushFull s p) := by
  unfold flushFull
  extract_lets ids u
  have hu : Carried s u := .via (flushPort_keeps ..) rfl (.ite (rxCut_carried ..) (.refl s))
  exact .ite (.foldl (fun t id => .via (txComplete_keeps ..) rfl (.refl t)) _ hu) hu

theorem tapEnd_carried (s : State) : Carried s (tapEnd s) := by
  unfold tapEnd
  refine .ite ?_ (.refl s)
  extract_lets u st
  have hu : Carried s u := .via (pdEv_keeps ..) rfl (.via (State.pdWr_keeps ..) rfl (.refl s))
  exact .ite (hu.trans (laneExit_carried ..)) (.via (setLaneState_keeps ..) rfl hu)

theorem tapJudge_carried (s : State) : Carried s (tapJudge s) := .ite (tapEnd_carried s) (.refl s)

/-! ## Writes to a page's registers -/

theorem goState_carried (s : State) (st : Nat) : Carried s (goState s st) := by
  unfold goState
  refine .ite (.refl s) (.via (domainsApply_keeps ..) rfl (Keeping.trans ?_ (tapJudge_carried _)))
  exact .via (entryEffects_keeps ..) rfl (.via (enterState_keeps ..) rfl (.refl s))

theorem stateReq_carried (s : State) (ini target : Nat) : Carried s (stateReq s ini target) := by
  have hrefuse (c : Nat) : Carried s (refuse s target c) := .via (refuse_keeps ..) rfl (.refl s)
  unfold stateReq
  refine .ite (.refl s) (.ite (hrefuse 0) (.ite (.ite (goState_carried ..) (hrefuse 0)) (.ite ?_ ?_)))
  · exact .via (State.wr_keeps 97 (.inl rfl) ..) rfl (.refl s)
  · split
    · exact hrefuse _
    · exact .ite (hrefuse 6) (.of_eq rfl rfl)

theorem effNode_carried (s : State) (ini off word : Nat) : Carried s (effNode s ini off word) := by
  unfold effNode
  refine .ite (.via (joinAddress_keeps ..) rfl (stateReq_carried ..)) (.ite (.via (resetCtrl_keeps ..) rfl (.refl s)) ?_)
  exact .ite (.ite (.via (State.wr_keeps 91 (.inl rfl) ..) rfl (.refl s)) (.refl s)) (.refl s)

theorem blockStop_carried (s : State) (page : Nat) : Carried s (blockStop s page) := by
  unfold blockStop
  refine .ite ?_ (.refl s)
  split
  · exact laneOff_carried ..
  · exact .via (pioStop_keeps ..) rfl (.refl s)
  · exact .via (State.wr_keeps 40 (.inr rfl) ..) rfl (.refl s)

theorem enableChange_carried (s : State) (page : Nat) : Carried s (enableChange s page) := by
  unfold enableChange
  extract_lets on
  split
  · exact .ite (.via (laneStart_keeps ..) rfl (.refl s)) (laneOff_carried ..)
  · exact .ite (.refl s) (flushFull_carried ..)
  · exact .via (canFresh_keeps ..) rfl (.refl s)
  · exact .refl s

theorem ctrlWritten_carried (old s : State) (page : Nat) : Carried s (ctrlWritten old s page) := by
  unfold ctrlWritten
  extract_lets stop t u v
  have ht : Carried s t := .ite (.via (resume_keeps ..) rfl (.refl s)) (.refl s)
  have hu : Carried s u := .ite (ht.trans (enableChange_carried ..)) ht
  have hv : Carried s v := hu.trans (blockStop_carried ..)
  refine .ite ?_ hv
  refine .via (settleEdges_keeps ..) rfl (.via (edgesSync_keeps ..) rfl ?_)
  exact .via (judgeZones_keeps ..) rfl (.via (slotRefresh_keeps ..) rfl hv)

theorem effHdr_carried (old s : State) (page off word : Nat) : Carried s (effHdr old s page off word) := by
  unfold effHdr
  have hset (t : State) (k : Nat) : Carried t (raiseIf t (bitOf word k) page k) := .via (raiseIf_keeps ..) rfl (.refl t)
  have hstaged (l m : List (Key × Nat)) : Carried s { s with staged := l, stagedLate := m } := .of_eq rfl rfl
  have hcapt : Carried s (s.zero page [F.HDR_ERR_CAPT0_MULTI, F.HDR_ERR_CAPT0_COUNT]) :=
    ((Carried.refl s).wri page F.HDR_ERR_CAPT0_MULTI 0 0 rfl).wri page F.HDR_ERR_CAPT0_COUNT 0 0 rfl
  refine .ite (ctrlWritten_carried ..) (.ite (.via (maskRise_keeps ..) rfl (.refl s)) (.ite (.foldl hset _ (.refl s)) ?_))
  exact .ite (.ite hcapt (.refl s)) (.ite (.ite (hstaged ..) (.refl s)) (.refl s))

theorem pdDetach_carried (s : State) (p : Nat) : Carried s (pdDetach s p) := by
  unfold pdDetach
  refine .ite (.refl s) ?_
  extract_lets t u d v w
  have hv : Carried s v :=
    .via (setPd_keeps ..) rfl (.via (State.zero_keeps 75 (fun _ _ => group_pd) ..) rfl (.via (pdQuiet_keeps ..) rfl (.refl s)))
  have hw : Carried s w :=
    .ite (.via (judgeBudget_keeps ..) rfl ((Keeping.via (vbusFall_keeps ..) rfl hv).trans (tapEnd_carried _))) hv
  exact .via (pdEv_keeps ..) rfl hw

theorem supplyJudge_carried (s : State) : Carried s (supplyJudge s) := by
  unfold supplyJudge
  refine .ite (.ite (.via (setPd_keeps ..) rfl (.refl s)) (.refl s)) ?_
  exact .via (setPd_keeps ..) rfl (pdDetach_carried s 1)

theorem effPower_carried (s : State) (off word : Nat) : Carried s (effPower s off word) := by
  have hafter (t : State) : Carried t (afterPower t) :=
    .ite ((Keeping.via (svcKeep_keeps t) rfl (.refl t)).trans (supplyJudge_carried _)) (.via (svcKeep_keeps t) rfl (.refl t))
  unfold effPower
  refine .ite ?_ (.refl s)
  extract_lets u
  have hu : Carried s u := .ite (.via (curveApply_keeps ..) rfl (.refl s)) (.refl s)
  exact .ite ((Keeping.via (latchClear_keeps ..) rfl hu).trans (hafter _)) hu

theorem hardReset_carried (s : State) (p : Nat) (sent : Bool) : Carried s (hardReset s p sent) := by
  unfold hardReset
  extract_lets swap t u v w x y d z
  have ht : Carried s t := .ite (.via (pdSend_keeps ..) rfl (.refl s)) (.refl s)
  have hw : Carried s w := by
    refine .via (pdQuiet_keeps ..) rfl (.via (pdEv_keeps ..) rfl (.via (pdFault_keeps ..) rfl ?_))
    exact .via (State.inc_keeps 75 group_pd ..) rfl ht
  have hx : Carried s x := .ite (hw.trans (tapEnd_carried w)) hw
  have hset (q : PdSt) (f : Fld) (n : Nat) : Carried s ((setPd y p q).pdWr p f n) :=
    .via (State.pdWr_keeps ..) rfl (.via (setPd_keeps ..) rfl (.via (pdDriveOff_keeps ..) rfl hx))
  have hz : Carried s z := by
    refine .ite (.ite (.via (pdStart_keeps ..) rfl (hset ..)) (hset ..)) (.ite (.via (pdStart_keeps ..) rfl hx) ?_)
    exact .via (pdStart_keeps ..) rfl (.ite (.via (vbusFall_keeps ..) rfl hx) hx)
  exact .ite (.via (judgeBudget_keeps ..) rfl hz) hz

theorem pdCmd_carried (s : State) (p op : Nat) : Carried s (pdCmd s p op) := by
  have hrun (t : State) : Carried t (pdOpRun t p op) := by
    have hask (m : PdMsg) (a : Nat) : Carried t (pdStart (amsStart (pdSend t p m) p a) p PT.senderResp) :=
      .via (pdStart_keeps ..) rfl (.via (amsStart_keeps ..) rfl (.via (pdSend_keeps ..) rfl (.refl t)))
    unfold pdOpRun
    split
    · exact hask ..
    · exact hask ..
    · exact (Keeping.via (pdComplete_keeps ..) rfl (.refl t)).trans (hardReset_carried ..)
    · exact hask ..
    · exact .via (pdRequest_keeps ..) rfl (.refl t)
  unfold pdCmd
  refine .ite (.refl s) (.ite (.via (State.pdWr_keeps ..) rfl (.refl s)) ?_)
  extract_lets d t u
  have ht : Carried s t := .via (setPd_keeps ..) rfl (.refl s)
  have hu : Carried s u := .via (State.pdWr_keeps ..) rfl ht
  refine .ite (.via (pdComplete_keeps ..) rfl ht) (.ite (hu.trans (hrun u)) ?_)
  exact .via (setPd_keeps ..) rfl hu

theorem effPd_carried (s : State) (p off word : Nat) : Carried s (effPd s p off word) :=
  .ite (.ite (supplyJudge_carried s) (tapJudge_carried s)) (.ite (pdCmd_carried ..) (.refl s))

/-! ## Writes that store -/

theorem tailKey_of_page {k : Key} (h : k.page ≠ P.xfer) : tailKey k = true := by
  simp [tailKey, h]

theorem tailKey_of_low {k : Key} (h : k.off < 0x110) : tailKey k = true := by
  simp [tailKey, h]

/-- Clearing counters below a CNT_CLEAR that lies below the first tail, or on another page. -/
theorem cntClear_carried (s : State) {page off : Nat} (h : page ≠ P.xfer ∨ off ≤ 0x110) : Carried s (cntClear s page off) := by
  unfold cntClear
  extract_lets lo
  refine .foldl (fun t f => ?_) _ (.refl s)
  split
  next hf =>
    simp only [Bool.and_eq_true, decide_eq_true_eq] at hf
    exact (Carried.refl t).wri page f 0 0 (h.elim (fun hp => tailKey_of_page hp) fun ho => tailKey_of_low (by simp only; omega))
  next => exact .refl t

theorem cntClearIf_carried (s : State) {page off n : Nat} (hn : n ≤ 0x110) (b : Prop) [Decidable b] :
    Carried s (if off = n ∧ b then cntClear s page off else s) := by
  split
  next h => exact cntClear_carried s (.inr (h.1.trans_le hn))
  next => exact .refl s

/-- The engine's fields that a write or a read of the page may change leave the tails. -/
theorem tailKey_of_written : ∀ f ∈ pageFields P.xfer, f.acc ≠ .ro → ∀ i, tailKey ⟨P.xfer, f.off, f.lsb, i⟩ = true := by
  have h : ∀ f ∈ pageFields P.xfer, f.acc ≠ .ro → (decide (0x110 ≤ f.off) && f.off % 0x20 == 0x10) = false := by decide +kernel
  intro f hf ha i
  simp [tailKey, h f hf ha]

theorem tailKey_of_field {page off : Nat} {f : Fld} (hf : f ∈ regFields page off) (ha : f.acc ≠ .ro) (i : Nat) :
    tailKey ⟨page, f.off, f.lsb, i⟩ = true := by
  by_cases hp : page = P.xfer
  · subst hp
    exact tailKey_of_written f (List.mem_filter.mp hf).1 ha i
  · exact tailKey_of_page hp

theorem storeField_carried (s : State) (who : By) {page off : Nat} {f : Fld} (hf : f ∈ regFields page off) (word : Nat) :
    Carried s (storeField s who page f word) := by
  unfold storeField
  extract_lets v i
  refine .ite (.refl s) ?_
  split
  next ha => exact (Carried.refl s).wri _ _ _ _ (tailKey_of_field hf (by simp [ha]) _)
  next ha => exact .via (stage_keeps ..) rfl (.refl s)
  next ha => exact (Carried.refl s).wri _ _ _ _ (tailKey_of_field hf (by simp [ha]) _)
  next ha => exact .ite ((Carried.refl s).wri _ _ _ _ (tailKey_of_field hf (by simp [ha]) _)) (.refl s)
  all_goals exact .refl s

theorem storeWord_carried (s : State) (who : By) (page off word : Nat) : Carried s (storeWord s who page off word) := by
  unfold storeWord
  refine .ite (.ite (.via (stageProgram_keeps ..) rfl (.refl s)) (.refl s)) ?_
  exact List.foldlRecOn (motive := fun t : State => Carried s t) _ _ (.refl s) fun t h f hf => h.trans (storeField_carried t who hf word)

theorem effTime_carried (s : State) (ini off word : Nat) : Carried s (effTime s ini off word) := by
  unfold effTime
  refine .ite (.ite (.via (coreDone_keeps ..) rfl (.refl s)) (.refl s)) (.ite (.ite (.via (issueCmd_keeps ..) rfl (.refl s)) (.refl s)) ?_)
  refine .ite (.via (judgeRanges_keeps ..) rfl (.refl s)) (.ite (.via (judgeRanges_keeps ..) rfl (.refl s)) ?_)
  exact .ite (.via (issueCmd_keeps ..) rfl (.refl s)) (.ite (cntClear_carried s (.inl (by decide))) (.refl s))

theorem effTrack_carried (s : State) (k off word : Nat) : Carried s (effTrack s k off word) := by
  unfold effTrack
  refine .ite ?_ (.ite (.ite (.via (trkReclaim_keeps ..) rfl (.refl s)) (.refl s)) (.ite (.via (trkEval_keeps ..) rfl (.refl s)) ?_))
  · exact .via (judgeZones_keeps ..) rfl (.via (edgesReconfigured_keeps ..) rfl (.via (trkConfigured_keeps ..) rfl (.refl s)))
  · exact cntClearIf_carried s (by decide) _

theorem effEdge_carried (s : State) (off word : Nat) : Carried s (effEdge s off word) := by
  unfold effEdge
  refine .ite (.via (entSelect_keeps ..) rfl (.refl s)) (.ite (.via (entCommand_keeps ..) rfl (.refl s)) ?_)
  exact cntClearIf_carried s (by decide) _

theorem effEcl_carried (s : State) (off word : Nat) : Carried s (effEcl s off word) :=
  .ite (.via (eclCtrl_keeps ..) rfl (.refl s)) (cntClearIf_carried s (by decide) _)

theorem writeEffect_carried (old s : State) (who : By) (page off word : Nat) : Carried s (writeEffect old s who page off word) := by
  unfold writeEffect
  refine .ite (effHdr_carried ..) ?_
  split
  · exact .refl s
  split
  · exact effNode_carried ..
  · exact .via (effEvent_keeps ..) rfl (.refl s)
  · exact effTime_carried ..
  · exact cntClearIf_carried s (by decide) _
  · exact cntClearIf_carried s (by decide) _
  · exact .via (effPort_keeps ..) rfl (.refl s)
  · exact .ite (.via (judgeOvercommit_keeps ..) rfl (.refl s)) (.refl s)
  · have hready (n : Nat) : Carried s (readyWrite s n) := .via (readyWrite_keeps ..) rfl (.refl s)
    exact .ite (hready _) (.ite (hready _) (cntClearIf_carried s (by decide) _))
  · exact cntClearIf_carried s (by decide) _
  · exact effTxn_carried ..
  · exact cntClearIf_carried s (by decide) _
  · exact .via (effQueue_keeps ..) rfl (.refl s)
  · exact .ite (.via (effSesTx_keeps ..) rfl (.refl s)) (.via (effSesRx_keeps ..) rfl (.refl s))
  · exact effTrack_carried ..
  · exact .via (effDrift_keeps ..) rfl (.refl s)
  · refine .ite (.refl s) (.when (fun t => .via (judgeLead_keeps ..) rfl (.refl t)) (.via (judgeZone_keeps ..) rfl (.refl s)))
  · exact effEdge_carried ..
  · exact cntClearIf_carried s (by decide) _
  · exact .via (effField_keeps ..) rfl (.refl s)
  · exact .via (effCan_keeps ..) rfl (.refl s)
  · exact .ite (.via (uartSend_keeps ..) rfl (.refl s)) (.refl s)
  · exact .via (effPio_keeps ..) rfl (.refl s)
  · exact .via (effEth_keeps ..) rfl (.refl s)
  · exact .via (effHost_keeps ..) rfl (.refl s)
  · exact .ite (.via (flashCmd_keeps ..) rfl (.refl s)) (.refl s)
  · exact effPower_carried ..
  · exact .via (effBranch_keeps ..) rfl (.refl s)
  · exact effPd_carried ..
  · exact .via (effUsb_keeps ..) rfl (.refl s)
  · exact .via (effCores_keeps ..) rfl (.refl s)
  · exact .via (effMgmt_keeps ..) rfl (.refl s)
  · exact .via (effLog_keeps ..) rfl (.refl s)
  · exact .via (effUpdate_keeps ..) rfl (.refl s)
  · exact .via (effSec_keeps ..) rfl (.refl s)
  · exact effEcl_carried ..
  all_goals exact .refl s

theorem applyWrite_carried (s : State) (who : By) (page off word : Nat) : Carried s (applyWrite s who page off word) := by
  unfold applyWrite
  extract_lets u t
  have hu : Carried s u := .via (beforeWrite_keeps ..) rfl (.refl s)
  have ht : Carried s t := .via (bindQueues_keeps ..) rfl (hu.trans (storeWord_carried ..))
  exact ht.trans (writeEffect_carried ..)

theorem acceptedWrite_carried (s : State) (who : By) (page off word : Nat) : Carried s (acceptedWrite s who page off word).2 := by
  unfold acceptedWrite
  exact .ite_snd (.via (arm_keeps ..) rfl (.refl s)) (.ite_snd (evout_carried ..) (applyWrite_carried ..))

theorem eclipseWrite_carried (s : State) (who : By) (page off word : Nat) : Carried s (eclipseWrite s who page off word) := by
  unfold eclipseWrite
  extract_lets armed u
  have hu : Carried s u := .via (dropArms_keeps ..) rfl (.refl s)
  exact .ite (.ite (.via (arm_keeps ..) rfl hu) hu) (.ite hu (hu.trans (applyWrite_carried ..)))

theorem refusedExtra_carried (s : State) (page off word : Nat) : Carried s (refusedExtra s page off word) := by
  unfold refusedExtra
  refine .ite (.via (pioEv_keeps ..) rfl ?_) (.ite (.via (State.wr_keeps 75 group_pd ..) rfl (.refl s)) (.refl s))
  exact ((Carried.refl s).wri page F.PIO_ENG_STAT_PROG_BUSY 0 1 rfl).wri page F.PIO_CNT_PROG_BUSY_N 0 _ rfl

theorem busWrite_carried (s : State) (who : By) (page off word : Nat) : Carried s (busWrite s who page off word).2 := by
  have hdrop : Carried s (dropArms s page) := .via (dropArms_keeps ..) rfl (.refl s)
  unfold busWrite
  refine .ite_snd (.refl s) (.ite_snd (.ite (eclipseWrite_carried ..) (.refl s)) (.ite_snd (.refl s) (.ite_snd ?_ (.ite_snd (.refl s) ?_))))
  · exact .ite (.refl s) (.via (State.accFault_keeps ..) rfl (.refl s))
  · refine .ite_snd hdrop ?_
    split
    · exact .ite ((Keeping.via (reject_keeps ..) rfl hdrop).trans (refusedExtra_carried ..)) (.via (reject_keeps ..) rfl hdrop)
    · exact hdrop.trans (acceptedWrite_carried ..)

/-! ## Accesses of the engine -/

theorem writeWords_carried (s : State) (who : By) (l : List (Nat × Nat)) : Carried s (writeWords s who l).2 := by
  have hone (t : State) (e : Nat × Nat) :
      Carried t (busWrite (fieldFlit t (e.1 / 0x1000)) who (e.1 / 0x1000) (e.1 % 0x1000 / 4 * 4) e.2).2 :=
    (Keeping.via (fieldFlit_keeps ..) rfl (.refl t)).trans (busWrite_carried ..)
  unfold writeWords
  dsimp only
  split
  · exact hone ..
  · refine .foldl_snd (fun a e => ?_) l ?_
    · exact hone a.2 e
    · exact .refl s

theorem windowWrite_carried (s : State) (who : By) (off : Nat) (b : List Nat) (block : Bool) :
    Carried s (windowWrite s who off b block).2 := by
  unfold windowWrite
  split
  · exact .ite_snd (.refl s) (.ite_snd (.refl s) (writeWords_carried ..))
  all_goals exact .refl s

theorem regionWrite_carried (s : State) (who : By) (a : Nat) (b : List Nat) : Carried s (regionWrite s who a b).2 := by
  have hmem (x : Nat) : Carried s (s.memWrite x b) := .via (State.memWrite_keeps ..) rfl (.refl s)
  unfold regionWrite
  split
  case h_4 => exact .ite (.via (unstage_keeps ..) rfl (hmem _)) (hmem _)
  case h_5 => exact .ite_snd (.refl s) (hmem _)
  case h_6 => exact .ite_snd (.via (storeRaw_keeps ..) rfl (.refl s)) (.refl s)
  case h_7 => exact .ite_snd (.refl s) (writeWords_carried ..)
  case h_8 => exact windowWrite_carried ..
  all_goals exact .refl s

theorem localWrite_carried (s : State) (who : By) (a : Nat) (b : List Nat) : Carried s (localWrite s who a b).2 := by
  unfold localWrite
  exact .ite_snd (.refl s) (.ite_snd (regionWrite_carried ..) ((regionWrite_carried ..).trans (regionWrite_carried ..)))

theorem readClears_carried (s : State) (who : By) (page off : Nat) : Carried s (readClears s who page off) := by
  unfold readClears
  refine List.foldlRecOn (motive := fun t : State => Carried s t) _ _ (.refl s) fun t h f hf => ?_
  split
  · exact h
  next hc =>
    have hw (i : Nat) : tailKey ⟨page, f.off, f.lsb, i⟩ = true := tailKey_of_field hf (fun e => hc (by simp [e])) i
    exact .ite (h.wri _ _ _ _ (hw 0)) (.ite (h.wri _ _ _ _ (hw 0)) (h.wri _ _ _ _ (hw _)))

theorem busRead_carried (s : State) (who : By) (page off : Nat) : Carried s (busRead s who page off).2 := by
  have hpeek : Carried s (regPeek s who page off).2 := .via (regPeek_keeps ..) rfl (.refl s)
  have hreg : Carried s (regRead s who page off).2 := by
    unfold regRead
    refine .ite_snd (.via (routerClaim_keeps ..) rfl (.refl s)) (.ite_snd (.via (pioInqR_keeps ..) rfl (.refl s)) ?_)
    exact .ite_snd (.via (adcFifoRead_keeps ..) rfl (.refl s)) (hpeek.trans (readClears_carried ..))
  have hdraw : Carried s (s.draw 32).2 := .via (State.draw_keeps ..) rfl (.refl s)
  unfold busRead
  exact .ite_snd hdraw (.ite_snd (.via (State.accFault_keeps ..) rfl hdraw) (.ite_snd hpeek hreg))

theorem readWords_carried (s : State) (who : By) (a n : Nat) : Carried s (readWords s who a n).2 := by
  induction n generalizing s a with
  | zero => exact .refl s
  | succ n ih => exact ((Keeping.via (fieldFlit_keeps ..) rfl (.refl s)).trans (busRead_carried ..)).trans (ih ..)

theorem regionRead_carried (s : State) (who : By) (a n : Nat) : Carried s (regionRead s who a n).2.2 := by
  have hwindow (off : Nat) (block : Bool) : Carried s (windowRead s who off n block).2.2 := by
    unfold windowRead
    split
    · exact .ite_snd2 (.refl s) (.ite_snd2 (.refl s) (readWords_carried ..))
    all_goals exact .refl s
  unfold regionRead
  split
  case h_1 => exact .via (openBytes_keeps ..) rfl (.refl s)
  case h_2 => exact .via (cellRead_keeps ..) rfl (.refl s)
  case h_7 => exact .ite_snd2 (.refl s) (readWords_carried ..)
  case h_8 => exact hwindow ..
  all_goals exact .refl s

theorem localRead_carried (s : State) (who : By) (a n : Nat) : Carried s (localRead s who a n).2.2 := by
  unfold localRead
  exact .ite_snd2 (.refl s) (.ite_snd2 (regionRead_carried ..) ((regionRead_carried ..).trans (regionRead_carried ..)))

theorem windowAtomic_carried (s : State) (who : By) (off k n : Nat) (pay : List Nat) :
    Carried s (windowAtomic s who off k n pay).2.2 := by
  unfold windowAtomic
  split
  · refine .ite_snd2 (.refl s) (.ite_snd2 (.refl s) ?_)
    dsimp only
    split
    · exact readWords_carried ..
    · exact (readWords_carried ..).trans (writeWords_carried ..)
  all_goals exact .refl s

/-! ## Descriptors that move on (R235) -/

/-- The same descriptors are in flight, and no ring's tail has moved. -/
structure InFlight (s t : State) : Prop where
  idx : ∀ k, (descsOf t k).map (·.idx) = (descsOf s k).map (·.idx)
  regs : RegsKeep tailKey s t

namespace InFlight

variable {s t u : State}

theorem refl (s : State) : InFlight s s := ⟨fun _ => rfl, .refl ..⟩

theorem trans (h : InFlight s t) (k : InFlight t u) : InFlight s u := ⟨fun c => (k.idx c).trans (h.idx c), h.regs.trans k.regs⟩

theorem of_carried (h : Carried s t) : InFlight s t := ⟨fun k => congrArg (fun l : Tbl (List XferDesc) => (l.at [] k).map (·.idx)) h.part, h.regs⟩

theorem ite_snd {α : Type} {x y : α × State} {c : Prop} [Decidable c] (h : InFlight s x.2) (k : InFlight s y.2) :
    InFlight s (if c then x else y).2 := by
  split
  · exact h
  · exact k

/-- A change of one descriptor's record. -/
theorem map (h : InFlight s t) (c i : Nat) {f : XferDesc → XferDesc} (hf : ∀ d, (f d).idx = d.idx) : InFlight s (mapDesc t c i f) := by
  refine ⟨fun k => Eq.trans ?_ (h.idx k), h.regs.trans (.of_eq rfl)⟩
  by_cases hk : k = c
  · subst hk
    rw [mapDesc, descsOf_setDescs_same, List.map_map]
    refine List.map_congr_left fun d _ => ?_
    simp only [Function.comp_apply]
    split
    · exact hf d
    · rfl
  · rw [mapDesc, descsOf_setDescs_ne _ hk]

end InFlight

theorem putPiece_inFlight (s : State) (c : Nat) (d : XferDesc) (o : Nat) (b : List Nat) : InFlight s (putPiece s c d o b).2 := by
  unfold putPiece
  split
  · refine .ite_snd ((InFlight.refl s).map _ _ fun _ => rfl) ?_
    extract_lets g
    split
    next ht => exact .of_carried (.of_snd ht (takeTag_carried ..))
    next ht => exact (InFlight.of_carried (.of_snd ht (takeTag_carried ..))).map _ _ fun _ => rfl
  · refine (InFlight.of_carried (localWrite_carried ..)).map _ _ fun e => ?_
    split
    · rfl
    · split <;> rfl

theorem nextPiece_inFlight (s : State) (c : Nat) (d : XferDesc) : InFlight s (nextPiece s c d).2 := by
  have hfail (t : State) (n : Nat) (h : InFlight s t) : InFlight s (mapDesc t c d.idx fun e => e.fail n) := h.map _ _ fun _ => rfl
  unfold nextPiece
  split
  · split
    · extract_lets r t g
      have ht : InFlight s t := .of_carried (localRead_carried ..)
      refine .ite_snd (hfail _ _ ht) (.ite_snd (hfail _ _ ht) (.ite_snd (hfail _ _ ht) ?_))
      split
      next hq => exact ht.trans (.of_carried (.of_snd hq (takeTag_carried ..)))
      next hq => exact (ht.trans (.of_carried (.of_snd hq (takeTag_carried ..)))).map _ _ fun _ => rfl
    · extract_lets p k r
      have hp : InFlight s p.2.2 := .of_carried (localRead_carried ..)
      refine .ite_snd (hfail _ _ hp) (.ite_snd (hfail _ _ hp) ?_)
      refine (hp.trans (.of_carried (windowAtomic_carried ..))).map _ _ fun e => ?_
      split <;> rfl
  · extract_lets n
    split
    · refine .ite_snd (hfail _ _ (.refl s)) ?_
      extract_lets g
      split
      next hq => exact .of_carried (.of_snd hq (takeTag_carried ..))
      next hq => exact (InFlight.of_carried (.of_snd hq (takeTag_carried ..))).map _ _ fun _ => rfl
    · refine .ite_snd (.refl s) ?_
      refine (InFlight.of_carried (localRead_carried ..)).map _ _ fun e => ?_
      split <;> rfl

theorem descStep_inFlight (s : State) (c idx : Nat) : InFlight s (descStep s c idx).2 := by
  unfold descStep
  split
  · exact .refl s
  next d _ =>
    refine .ite_snd (.refl s) ?_
    extract_lets t
    have ht : InFlight s t := by
      dsimp only [t]
      split
      · exact (InFlight.refl s).map _ _ fun _ => rfl
      · exact .refl s
    split
    · refine .ite_snd ?_ ?_
      · refine (ht.trans (.of_carried (localWrite_carried ..))).map _ _ fun e => ?_
        split <;> rfl
      · refine .ite_snd ?_ (ht.trans (putPiece_inFlight ..))
        exact (ht.trans (putPiece_inFlight ..)).map _ _ fun _ => rfl
    · exact .ite_snd (ht.trans (nextPiece_inFlight ..)) ht

theorem descRun_inFlight (n : Nat) (s : State) (c idx : Nat) : InFlight s (descRun n s c idx) := by
  induction n generalizing s with
  | zero => exact .refl s
  | succ n ih =>
    rw [descRun]
    split
    · exact (descStep_inFlight ..).trans (ih _)
    · exact descStep_inFlight ..

/-- The engine moves descriptors on; it starts and ends none. -/
theorem xferPump_inFlight (s : State) : InFlight s (xferPump s) := by
  refine List.foldlRecOn (motive := fun t : State => InFlight s t) _ _ (.refl s) fun t h c _ => ?_
  refine List.foldlRecOn (motive := fun u : State => InFlight s u) _ _ h fun u hu d _ => ?_
  exact hu.trans (descRun_inFlight ..)

theorem rd_tail_of_inFlight {s t : State} (h : InFlight s t) (c : Nat) :
    t.rd P.xfer (F.XFER_CH_TAIL_IDX c) = s.rd P.xfer (F.XFER_CH_TAIL_IDX c) :=
  h.regs.rd _ _ (by simp [tailKey, F.XFER_CH_TAIL_IDX])

/-- A descriptor that a channel starts is in flight, and its ring's tail has moved on. -/
theorem xferStart_inFlight {s : State} {c : Nat} {b : Bool} (ha : s.alive = true) (hc : c < 8) (hd : s.txn.descs = [])
    (hm : chanMayStart s c = true) :
    ∃ t, exec (.xferStart c b) s = .next t ∧ (descsOf t c).map (·.idx) = [s.rd P.xfer (F.XFER_CH_TAIL_IDX c)] ∧
      t.rd P.xfer (F.XFER_CH_TAIL_IDX c) = (s.rd P.xfer (F.XFER_CH_TAIL_IDX c) + 1) % descRing s c := by
  refine ⟨_, congrArg Host.Outcome.next (if_pos (by simp [ha, hc])), ?_⟩
  have hnone (k : Nat) : descsOf s k = [] := by rw [descsOf, hd]; rfl
  rw [xferPump_idle hnone]
  extract_lets u idx a out w v e d
  rw [if_neg (by rw [show u = s from rfl, hm]; decide), if_neg (by simp [show u = s from rfl, hnone])]
  have hpump := xferPump_inFlight (setDescs v c (descsOf v c ++ [d]))
  have hidx : d.idx = idx := by
    dsimp only [d]
    split <;> rfl
  have hring : (idx + 1) % descRing s c < 2 ^ 9 :=
    (Nat.mod_lt _ (Nat.two_pow_pos _)).trans_le (Nat.pow_le_pow_right (by decide) (Nat.min_le_left ..))
  constructor
  · rw [hpump.idx c, descsOf_setDescs_same, show descsOf v c = descsOf s c from rfl, hnone]
    exact congrArg (fun n => [n]) hidx
  · rw [rd_tail_of_inFlight hpump]
    exact (rd_wr_same s P.xfer (F.XFER_CH_TAIL_IDX c) _).trans (Nat.mod_eq_of_lt hring)

/-- Settles O30: each row by what its operation says, with the steps that follow it leaving what the row promises. -/
theorem publicationTransferAndSupply : Obligations.PublicationTransferAndSupply := by
  unfold Obligations.PublicationTransferAndSupply
  refine ⟨?offer, ?publish, ?start, ?complete, ?settled, ?lost, ?activate⟩
  case offer => exact fun s c b ha hp ho hh ht => channel_offered ha hp ho hh ht
  case publish => exact fun s f x i ha hf hr hg hm ht hl => publish_accepted ha hf hr hg hm ht hl
  case start => exact fun s c b ha hc hd hm _ _ => xferStart_inFlight ha hc hd hm
  case complete => exact fun s c d ha hc hd ho he hb => xferComplete_written ha hc hd ho he hb
  case settled => exact fun s x ha hs hp hf => feedWindowSettled_feed ha hs hp hf
  case lost => exact fun s ha hs hf hu => feedsLost_service ha hs hf hu
  case activate => exact fun s c ha hc hst hu hv => activate_due ha hc hst hu hv

end Sys2Proof.Machine
end

section
/-!
PROOF. What stands on a node's join and on what it knows of other nodes' incarnations, whatever its engines do.
-/

namespace Sys2Proof.Machine

/-- The registers other than JOIN_STAT and CNT_RESTART. -/
def joinKey (k : Key) : Bool := !(k.page == P.halo && (k.off == 0x04C || k.off == 0x09C))

theorem regGroup_join {k : Key} (h : joinKey k = false) : regGroup k = 46 := by
  simp only [joinKey, Bool.not_eq_false', Bool.and_eq_true, Bool.or_eq_true, beq_iff_eq] at h
  obtain ⟨hpage, hoff⟩ := h
  cases k with
  | mk p o l i =>
    obtain rfl : p = P.halo := hpage
    rcases (@group_halo o l i) with e | e
    · exact e
    · exact absurd e (regGroup_ne_header (hoff.elim (fun e => e ▸ (by decide : 64 ≤ 0x04C)) fun e => e ▸ (by decide : 64 ≤ 0x09C)))

/-- Incarnations, the withdrawal of the address, the tick of the last STATUS; JOIN_STAT and CNT_RESTART. -/
@[reducible] def joinWatch : Watch where
  β := Tbl Nat × Bool × Nat
  part s := (s.halo.incs, s.halo.withdrawn, s.halo.statusAt)
  free := joinKey
  mask := 2 ^ 13 + 2 ^ 46
  sound k hm := ⟨congrArg (fun h : HaloSt => (h.incs, h.withdrawn, h.statusAt)) (k.halo (testBit_of_and hm (by decide))),
    ⟨fun key d hk => k.pages key d (by rw [regGroup_join hk]; exact testBit_of_and hm (by decide))⟩⟩

abbrev Standing (s t : State) : Prop := Keeping joinWatch s t

theorem Standing.refl (s : State) : Standing s s := Keeping.refl s

theorem Standing.wri {s t : State} (h : Standing s t) (p : Nat) (f : Fld) (i v : Nat) (hk : joinKey ⟨p, f.off, f.lsb, i⟩ = true) :
    Standing s (t.wri p f i v) := Keeping.wri h (fun _ => rfl) p f i v hk

/-! ## Originated frames -/

theorem haloSeqNext_standing (s : State) (k : Bool) (g : Nat) : Standing s (haloSeqNext s k g) := by
  cases k <;> exact .of_eq rfl rfl

theorem tryOriginate_standing (s : State) (o : Offer) : Standing s (tryOriginate s o).2 := by
  unfold tryOriginate
  extract_lets ad f f1 cs k g f2 copy up
  rcases hn : newId s with ⟨id, t⟩
  have ht : Standing s t := .of_snd hn (.of_eq rfl rfl)
  dsimp -zeta only
  extract_lets u v w r
  have hv : Standing s v :=
    .foldl (fun x c => .via (putOne_keeps ..) rfl (.refl x)) _ (.foldl (fun x c => .via (dropAt_keeps ..) rfl (.refl x)) _ ht)
  have hw : Standing s w := by
    dsimp only [w]
    split
    · exact .via (stampEntry_keeps ..) rfl hv
    · exact hv
  have hr : Standing s r.2 := by
    refine .foldl_snd (fun a c => ?_) _ ht
    extract_lets x
    refine .ite_snd (.via (admitOne_keeps ..) rfl (.refl _)) ?_
    exact .via (dropAt_keeps ..) rfl (.via (admitOne_keeps ..) rfl (.refl _))
  refine .ite_snd (.refl s) (.ite_snd (.refl s) (.ite_snd (.refl s) (.ite_snd (.ite_snd ?_ ?_) ?_)))
  · exact .ite (hw.trans (haloSeqNext_standing ..)) hw
  · exact .ite (.refl s) (.via (noteRefusals_keeps ..) rfl (.refl s))
  · exact .ite (hr.trans (haloSeqNext_standing ..)) hr

theorem originate_standing (s : State) (port : Nat) (f : Frame) (re rw : Nat) : Standing s (originate s port f re rw) := by
  have hon (t : State) (k : Bool) : Standing t (originateOn t k port f re rw none) := by
    unfold originateOn
    extract_lets o r
    have hr : Standing t r.2.2 := by
      dsimp only [r]
      unfold offerTry
      refine .ite_snd2 (.via (offerWaits_keeps ..) rfl (.refl t)) ?_
      exact .ite_snd2 (tryOriginate_standing ..) (.via (offerWaits_keeps ..) rfl (tryOriginate_standing ..))
    exact .ite hr (hr.trans (.of_eq rfl rfl))
  unfold originate
  exact .ite (.ite ((hon ..).trans (hon ..)) (hon ..)) (hon ..)

/-! ## Sessions -/

theorem sendSes_standing (s : State) (f : Frame) : Standing s (sendSes s f) :=
  .ite (.refl s) (.ite (.of_eq rfl rfl) (originate_standing ..))

theorem sendMsg_standing (s : State) (k : Nat) (retx : Bool) (m : Nat × List Nat) : Standing s (sendMsg s k retx m) := by
  unfold sendMsg
  dsimp only
  refine .ite (.refl s) (Keeping.trans (.ite ?_ (.refl s)) (sendSes_standing ..))
  exact ((Standing.refl s).wri P.sestx F.SESTX_CNT_RETX_N 0 _ rfl).wri P.sestx F.SESTX_SES_RETX_N k _ rfl

theorem sendProbe_standing (s : State) (k : Nat) : Standing s (sendProbe s k) :=
  .ite (.refl s) (((Standing.refl s).wri P.sestx F.SESTX_CNT_PROBE_N 0 _ rfl).trans (sendSes_standing ..))

theorem sendNew_standing (s : State) (k : Nat) : Standing s (sendNew s k) := by
  unfold sendNew
  exact .ite (.via (setTx_keeps ..) rfl (.foldl (fun _ _ => sendMsg_standing ..) _ (.refl s))) (.refl s)

theorem resendFrom_standing (s : State) (k m : Nat) : Standing s (resendFrom s k m) := by
  unfold resendFrom
  exact .via (setTx_keeps ..) rfl (.foldl (fun _ _ => sendMsg_standing ..) _ (.refl s))

theorem sendAck_standing (s : State) (r : Nat) (gap : Bool) : Standing s (sendAck s r gap) := by
  unfold sendAck
  refine .ite (.refl s) (Keeping.trans (.via (raiseIf_keeps ..) rfl (.via (State.inc_keeps 56 group_sesrx ..) rfl ?_)) (sendSes_standing ..))
  exact .via (setRx_keeps ..) rfl (.refl s)

theorem tableAck_standing (s : State) (r : Nat) (gap : Bool) : Standing s (tableAck s r gap) := .ite (.refl s) (sendAck_standing ..)

theorem ackAdvance_standing (s : State) (r : Nat) : Standing s (ackAdvance s r) := by
  have hset (x : RxSes) : Standing s (setRx s r x) := .via (setRx_keeps ..) rfl (.refl s)
  unfold ackAdvance
  exact .ite (.ite ((hset _).trans (sendAck_standing ..)) (hset _)) (hset _)

theorem judgeMsg_standing (s : State) (f : Frame) : Standing s (judgeMsg s f) := by
  have hwri {t : State} (h : Standing s t) (g : Fld) (i v : Nat) : Standing s (t.wri P.sesrx g i v) := h.wri _ _ _ _ rfl
  have hinc {t : State} (h : Standing s t) (g : Fld) : Standing s (t.inc P.sesrx g) := h.wri _ _ _ _ rfl
  have hraise {t : State} (h : Standing s t) (k : Nat) : Standing s (raise t P.sesrx k) := .via (raise_keeps ..) rfl h
  unfold judgeMsg
  extract_lets k r sinc probe fresh m x resync s1 n s2 y s3 s4 s5 z s6 next dup a s7 s8 s9
  have h1 : Standing s s1 := .via (raiseIf_keeps ..) rfl (hwri (.refl s) ..)
  have h3 : Standing s s3 := .via (setRx_keeps ..) rfl (hwri (hwri h1 ..) ..)
  have h4 : Standing s s4 := hwri h3 ..
  have h5 : Standing s s5 := .ite (.ite h3 (hraise (hwri h4 ..) _)) h1
  have h6 : Standing s s6 := .via (setRx_keeps ..) rfl h5
  have ha : Standing s a.2 := .via (qAdmit_keeps ..) rfl h6
  have h8 : Standing s s8 := hinc (hwri ha ..) _
  have h9 : Standing s s9 := .ite (hinc h8 _) h8
  refine .ite (.refl s) (.ite (hraise (hinc (.refl s) _) _) (.ite (h6.trans (tableAck_standing ..)) ?_))
  refine .ite ((hinc h6 _).trans (tableAck_standing ..)) (.ite (.ite ((hraise h9 _).trans (ackAdvance_standing ..)) ?_) ?_)
  · exact hraise (hinc ha _) _
  · exact (hinc h6 _).trans (tableAck_standing ..)

theorem judgeAck_standing (s : State) (f : Frame) : Standing s (judgeAck s f) := by
  have hwri {t : State} (h : Standing s t) (g : Fld) (i v : Nat) : Standing s (t.wri P.sestx g i v) := h.wri _ _ _ _ rfl
  have hinc {t : State} (h : Standing s t) (g : Fld) : Standing s (t.inc P.sestx g) := h.wri _ _ _ _ rfl
  have htx {t : State} (h : Standing s t) (k : Nat) (x : TxSes) : Standing s (setTx t k x) := .via (setTx_keeps ..) rfl h
  have htaken {t : State} (h : Standing s t) (k : Nat) : Standing s (ackTaken t k) := .via (ackTaken_keeps ..) rfl h
  unfold judgeAck
  extract_lets k rsid rinc gap fresh rxn cseq cons next mine noHist inWin sync s1 x o1 o2 o3 o4 o5 s2 f1 f2 changed n1 n2 r n3 n4 n5 n6
  have h1 : Standing s s1 := hinc (.refl s) _
  have hopen : Standing s o5 := hwri (hwri (hwri (hwri (htx h1 ..) ..) ..) ..) ..
  have h2 : Standing s s2 := htx h1 ..
  have hf : Standing s f2 := htaken (.via (raise_keeps ..) rfl (hwri h2 ..)) _
  have hn2 : Standing s n2 := .via (raiseIf_keeps ..) rfl (hwri h2 ..)
  have hn3 : Standing s n3 := .ite (.via (setRcvd_keeps ..) rfl hn2) hn2
  have hn5 : Standing s n5 := htaken (.via (setCons_keeps ..) rfl hn3) _
  have hn6 : Standing s n6 := .ite (hn5.trans (resendFrom_standing ..)) hn5
  refine .ite (hinc (.refl s) _) (.ite (htaken (hwri hopen ..) _) (.ite (.ite ?_ ?_) ?_))
  · exact hf.trans (sendProbe_standing ..)
  · exact hf.trans (resendFrom_standing ..)
  · exact hn6.trans (sendNew_standing ..)

theorem drainLoop_standing (n : Nat) (s : State) : Standing s (drainLoop n s) := by
  induction n generalizing s with
  | zero => exact .refl s
  | succ n ih =>
    unfold drainLoop
    split
    · exact .refl s
    · refine Keeping.trans (Keeping.trans ?_ (.ite (judgeMsg_standing ..) (judgeAck_standing ..))) (ih _)
      exact .of_eq rfl rfl

theorem retainMsg_standing (s : State) (k : Nat) (b : List Nat) : Standing s (retainMsg s k b).2 := by
  unfold retainMsg
  extract_lets m x t u v
  have ht : Standing s t := .ite (.via (setTx_keeps ..) rfl (.refl s)) (.refl s)
  have hv : Standing s v := Standing.wri (.via (setRet_keeps ..) rfl ht) P.sestx F.SESTX_SES_NEXT_MSEQ k _ rfl
  exact ((hv.wri P.sestx F.SESTX_CNT_PUSH_N 0 _ rfl).trans (sendNew_standing ..)).trans (drainLoop_standing ..)

/-! ## Drift -/

theorem driftSend_standing (s : State) (f : Frame) : Standing s (driftSend s f) := .ite (originate_standing ..) (.refl s)

theorem startReq_standing (s : State) (q : DriftReq) : Standing s (startReq s q) := by
  have hput (x : DriftSt) : Standing s { s with drift := x } := .of_eq rfl rfl
  unfold startReq
  exact (hput _).trans (driftSend_standing ..)

theorem request_standing (s : State) (i sub dst act res prev : Nat) : Standing s (request s i sub dst act res prev) := by
  unfold request
  exact Keeping.trans (.via (dropReqs_keeps ..) rfl (.refl s)) (startReq_standing ..)

theorem mirrorSend_standing (s : State) (i : Nat) : Standing s (mirrorSend s i) := by
  have hput (r : Rec) : Standing s (recPut s i r) := .via (recPut_keeps ..) rfl (.refl s)
  unfold mirrorSend
  dsimp only
  refine .ite (.refl s) (.ite (request_standing ..) ?_)
  split
  · exact request_standing ..
  · exact .via (inductOk_keeps ..) rfl (.ite (.refl s) (hput _))

theorem ownerChange_standing (s : State) (i : Nat) (r : Rec) : Standing s (ownerChange s i r) :=
  Keeping.trans (.via (recPut_keeps ..) rfl (.refl s)) (mirrorSend_standing ..)

theorem armAction_standing (s : State) (i a : Nat) : Standing s (armAction s i a) := by
  have hfail (t : State) : Standing t (actionNote (ownerChange t i ((recAt t i).s (R.result a) 6)) i a) :=
    .via (actionNote_keeps ..) rfl (ownerChange_standing ..)
  unfold armAction
  extract_lets r base pool tmpl fail
  split
  · extract_lets t1 o x t2 t3 c
    have h3 : Standing s t3 :=
      .via (recPut_keeps ..) rfl (.via (setDslot_keeps ..) rfl (.via (setEnt_keeps ..) rfl (.refl s)))
    have hc : Standing s c.2 := .via (armChecked_keeps ..) rfl h3
    exact .ite hc (Keeping.trans (.via (setDslot_keeps ..) rfl (.via (setEnt_keeps ..) rfl hc)) (hfail _))
  · exact hfail s

theorem armActions_standing (s : State) (i : Nat) : Standing s (armActions s i) := by
  have hcrc (t : State) : Standing t (crcCheck t i) := .via (crcCheck_keeps ..) rfl (.refl t)
  unfold armActions
  exact .foldl (fun t a => .ite ((hcrc t).trans (armAction_standing ..)) (hcrc t)) _ (.refl s)

theorem retireDone_standing (s : State) (i : Nat) : Standing s (retireDone s i) := by
  unfold retireDone
  extract_lets r t u
  have ht : Standing s t := .ite (request_standing ..) (.refl s)
  exact .via (freeRec_keeps ..) rfl (.via (driftNote_keeps ..) rfl (.via (driftCount_keeps ..) rfl ht))

theorem retireProceed_standing (s : State) (i : Nat) : Standing s (retireProceed s i) := by
  have hreport (t : State) : Standing t (retireReport t i) := by
    unfold retireReport
    extract_lets r
    split
    · exact .refl t
    · refine .ite (.refl t) (.via (recPut_keeps ..) rfl (Keeping.trans (.via (reportBytes_keeps ..) rfl (.refl t)) (retainMsg_standing ..)))
  have hcrc : Standing s (crcCheck s i) := .via (crcCheck_keeps ..) rfl (.refl s)
  unfold retireProceed
  dsimp only
  refine .ite hcrc ?_
  have hrep := hcrc.trans (hreport (crcCheck s i))
  split
  · exact .ite (hrep.trans (retireDone_standing ..)) hrep
  · exact hrep

theorem retireStart_standing (s : State) (i reason : Nat) : Standing s (retireStart s i reason) := by
  unfold retireStart
  extract_lets s1 s2 s3 x s4 m
  have h2 : Standing s s2 := by
    refine .foldl (fun t a => .ite ?_ (.refl t)) _ (.via (withdraw_keeps ..) rfl (.refl s))
    exact .via (actionNote_keeps ..) rfl (.via (recPut_keeps ..) rfl (.ite (.via (releaseAction_keeps ..) rfl (.refl t)) (.refl t)))
  have h4 : Standing s s4 := .via (setDslot_keeps ..) rfl (.via (recPut_keeps ..) rfl h2)
  exact .ite (h4.trans (request_standing ..)) (h4.trans (retireProceed_standing ..))

theorem ownResult_standing (s : State) (i a code : Nat) : Standing s (ownResult s i a code) := by
  have h (r : Rec) : Standing s (actionNote (ownerChange s i r) i a) := .via (actionNote_keeps ..) rfl (ownerChange_standing ..)
  unfold ownResult
  exact .ite (.refl s) (.ite ((h _).trans (retireStart_standing ..)) (h _))

theorem actionResult_standing (s : State) (id a r : Nat) : Standing s (actionResult s id a r) := by
  have h : Standing s (findItem (actionEntryEnd s id a) id).2 :=
    .via (findItem_keeps ..) rfl (.via (actionEntryEnd_keeps ..) rfl (.refl s))
  unfold actionResult
  dsimp only
  split
  · exact .ite (h.trans (ownResult_standing ..)) (.ite h (h.trans (request_standing ..)))
  · exact .ite h (h.trans (startReq_standing ..))
  · exact h

theorem settleEdges_standing (s : State) : Standing s (settleEdges s) := by
  have hdrain (n : Nat) (t : State) : Standing t (driftDrain n t) := by
    induction n generalizing t with
    | zero => exact .refl t
    | succ n ih =>
      have hput (x : EdgeSched) : Standing t { t with edge := x } := .of_eq rfl rfl
      unfold driftDrain
      exact .ite (.refl t) (Keeping.trans (.foldl (fun _ _ => actionResult_standing ..) _ (hput _)) (ih _))
  exact hdrain ..

theorem handoffFail_standing (s : State) (i b : Nat) (state : Bool) : Standing s (handoffFail s i b state) := by
  unfold handoffFail
  extract_lets s1 s2 x s3 s4 m s5
  have h2 : Standing s s2 := .via (recPut_keeps ..) rfl (.via (withdraw_keeps ..) rfl (.refl s))
  have h3 : Standing s s3 := .ite h2 (.via (setDslot_keeps ..) rfl h2)
  have hm : Standing s m.2 := .via (missActions_keeps ..) rfl (.via (driftCount_keeps ..) rfl h3)
  have h5 : Standing s s5 := .ite (hm.trans (ownerChange_standing ..)) hm
  exact .via (driftNote_keeps ..) rfl h5

theorem handoffCheck_standing (s : State) (k : Nat) : Standing s (handoffCheck s k) := by
  unfold handoffCheck
  extract_lets busy r t was
  have hr : Standing s r.2.2 := by
    refine List.foldlRecOn (motive := fun b : List Nat × Bool × State => Standing s b.2.2) _ _ (.refl s) fun b hb x _ => ?_
    have hcrc : Standing s (crcCheck b.2.2 x.2) := .via (crcCheck_keeps ..) rfl hb
    dsimp only
    split
    · exact hcrc
    · split
      · exact hcrc
      · split
        · exact hcrc
        · split
          · exact hcrc.trans (retireStart_standing ..)
          · exact hcrc
        · split
          · exact hcrc
          · split
            · exact Keeping.trans (.via (recPut_keeps ..) rfl hcrc) (request_standing ..)
            · exact hcrc
  exact .via (raiseIf_keeps ..) rfl (hr.wri P.zones (F.ZONES_ZSTAT_CHAIN_END k) 0 _ rfl)

theorem checkNow_standing (s : State) : Standing s (checkNow s) :=
  .ite (.foldl (fun t _ => .ite (handoffCheck_standing ..) (.refl t)) _ (.refl s)) (.refl s)

theorem recAbsent_standing (s : State) (x i : Nat) : Standing s (recAbsent s x i) := by
  have hput {t : State} (h : Standing s t) (r : Rec) : Standing s (recPut t i r) := .via (recPut_keeps ..) rfl h
  have hdrop {t : State} (h : Standing s t) (p : DriftReq → Bool) : Standing s (dropReqs t p) := .via (dropReqs_keeps ..) rfl h
  unfold recAbsent
  extract_lets s1 r1 y s2 s3 hadSet s4 toRetire s5 r5 s6 r6 r7 r8 s7 s8
  have h1 : Standing s s1 := .via (crcCheck_keeps ..) rfl (.refl s)
  have h2 : Standing s s2 := .via (setDslot_keeps ..) rfl h1
  have h3 : Standing s s3 := .ite (h2.trans (handoffFail_standing ..)) h2
  have h5 : Standing s s5 := hdrop (hdrop h3 _) _
  have h6 : Standing s s6 := .ite (hput h5 _) h5
  have h7 : Standing s s7 := .via (driftCount_keeps ..) rfl (hput h6 _)
  have h8 : Standing s s8 := .via (driftNote_keeps ..) rfl (.via (missActions_keeps ..) rfl h7)
  refine .ite h1 (.ite (.ite (.via (markOrphan_keeps ..) rfl h6) (.ite ?_ h6)) (.ite ?_ (.ite ?_ h6)))
  · exact Keeping.trans (.via (inductOk_keeps ..) rfl (hput h6 _)) (retireProceed_standing ..)
  · exact (h8.trans (mirrorSend_standing ..)).trans (armActions_standing ..)
  · exact Keeping.trans (.ite (hput h6 _) h6) (mirrorSend_standing ..)

theorem driftAbsent_standing (s : State) (x : Nat) : Standing s (driftAbsent s x) := by
  have hlost (t : State) : Standing t (judgeLost t) := by
    unfold judgeLost
    exact .ite (.refl t) (.foldl (fun u i => .foldl (fun _ _ => recAbsent_standing ..) _ (.refl u)) _ (.refl t))
  unfold driftAbsent
  extract_lets s1 s2
  have h1 : Standing s s1 := .foldl (fun t _ => .via (setDslot_keeps ..) rfl (.refl t)) _ (.refl s)
  have h2 : Standing s s2 := .via (dropReqs_keeps ..) rfl h1
  exact .ite (((h2.trans (hlost _)).trans (checkNow_standing ..)).trans (settleEdges_standing ..)) h2

theorem driftPresent_standing (s : State) (x : Nat) : Standing s (driftPresent s x) := by
  unfold driftPresent
  exact Keeping.trans (.foldl (fun t e => .ite (.via (setDslot_keeps ..) rfl (.refl t)) (.refl t)) _ (.refl s)) (checkNow_standing ..)

/-! ## The presence map -/

theorem setPresent_standing (s : State) (a : Nat) (b : Bool) : Standing s (setPresent s a b) := by
  have hraise {t : State} (h : Standing s t) (c : Bool) (p k : Nat) : Standing s (raiseIf t c p k) := .via (raiseIf_keeps ..) rfl h
  unfold setPresent
  refine .ite (.refl s) ?_
  extract_lets n t u v w x
  have ht : Standing s t := (Standing.refl s).wri P.halo (F.HALO_PRESENT_P (a / 32)) 0 _ (by
    simp [joinKey, F.HALO_PRESENT_P]
    omega)
  have hv : Standing s v := .via (raise_keeps ..) rfl (ht.wri P.halo F.HALO_RING_STAT_PRESENT_COUNT 0 _ rfl)
  have hx : Standing s x := .ite (.via (sesPeerPresent_keeps ..) rfl (hraise hv ..)) (.via (sesPeerAbsent_keeps ..) rfl (hraise hv ..))
  exact .ite hx (.ite (hx.trans (driftPresent_standing ..)) (hx.trans (driftAbsent_standing ..)))

theorem ownPresence_standing (s : State) : Standing s (ownPresence s) := by
  unfold ownPresence
  extract_lets b t
  have ht : Standing s t := .ite (setPresent_standing ..) (.refl s)
  exact .ite (ht.trans (setPresent_standing ..)) ht

/-! ## Lanes and own-faults -/

theorem setHaloEnt_standing (s : State) (src g : Nat) (e : HaloEnt) : Standing s (setHaloEnt s src g e) := .of_eq rfl rfl

theorem haloSettle_standing (s : State) (src g q : Nat) (ok : Bool) : Standing s (haloSettle s src g q ok) := setHaloEnt_standing ..

theorem haloDup_standing (s : State) (i g : Nat) : Standing s (haloDup s i g) := by
  have hcount : Standing s (s.inc P.halo (if g = 0 then F.HALO_CNT_DUP0_N else F.HALO_CNT_DUP1_N)) := by
    split <;> exact (Standing.refl s).wri P.halo _ 0 _ rfl
  exact .via (State.inc_keeps 45 group_lane ..) rfl hcount

theorem acceptHeld_standing (s : State) (g : Nat) (h : HeldFrame) : Standing s (acceptHeld s g h) := by
  unfold acceptHeld
  extract_lets x n a p o u
  have hcount : Standing s (haloAccept s g) := by
    unfold haloAccept
    split <;> exact (Standing.refl s).wri P.halo _ 0 _ rfl
  have hu : Standing s u :=
    .via (passed_keeps ..) rfl (.via (admitRx_keeps ..) rfl (.via (newId_keeps ..) rfl hcount))
  exact .ite (.via (noteTun_keeps ..) rfl (hu.trans (setHaloEnt_standing ..))) (hu.trans (haloSettle_standing ..))

theorem settleHeld_standing (s : State) (src g q : Nat) (ok : Bool) : Standing s (settleHeld s src g q ok) := by
  unfold settleHeld
  extract_lets t e mine u
  have hu : Standing s u := (haloSettle_standing ..).trans (setHaloEnt_standing ..)
  refine .ite (.foldl (fun w h => haloDup_standing ..) _ hu) ?_
  clear_value mine
  split
  · exact hu
  · exact .foldl (fun w h => haloDup_standing ..) _ (hu.trans (acceptHeld_standing ..))

theorem haloDecide_standing (s : State) (src g q t : Nat) : Standing s (haloDecide s src g q t).2 := by
  have hset (e : HaloEnt) : Standing s (setHaloEnt s src g e) := setHaloEnt_standing ..
  unfold haloDecide
  exact .ite_snd (hset _) (.ite_snd (hset _) (.ite_snd (hset _) (hset _)))

theorem endHeld_standing (s : State) (i : Nat) (f : Frame) (ok : Bool) : Standing s (endHeld s i f ok) := by
  unfold endHeld
  extract_lets g e mine u
  have hu : Standing s u := setHaloEnt_standing ..
  refine .ite hu (.ite (setHaloEnt_standing ..) ?_)
  have hd : Standing s (haloDecide u f.src g f.seq u.now).2 := hu.trans (haloDecide_standing ..)
  split
  next hq => exact (Keeping.of_snd hq hd).trans (acceptHeld_standing ..)
  next t hq =>
    have ht : Standing s t := .of_snd hq hd
    exact .via (raise_keeps ..) rfl (ht.wri P.halo F.HALO_CNT_STALE_N 0 _ rfl)
  next hq => exact (Keeping.of_snd hq hd).trans (haloDup_standing ..)

theorem rxLost_standing (s : State) (i : Nat) (x : RxFrame) : Standing s (rxLost s i x) := by
  unfold rxLost
  refine .ite (.refl s) (.ite (endHeld_standing ..) ?_)
  have hstomp : Standing s (stompStored s x.id) := .via (stompStored_keeps ..) rfl (.refl s)
  extract_lets u l v
  have hv : Standing s v := by
    dsimp only [v]
    split
    · exact .ite (.via (State.setLane_keeps ..) rfl hstomp) hstomp
    · exact hstomp
  exact .ite (hv.trans (settleHeld_standing ..)) hv

theorem rxCut_standing (s : State) (i : Nat) : Standing s (rxCut s i) := by
  unfold rxCut
  extract_lets u
  have hu : Standing s u := .via (tapEnds_keeps ..) rfl (.refl s)
  split
  · exact hu
  · exact Keeping.trans (.via (State.setLane_keeps ..) rfl hu) (rxLost_standing ..)

theorem laneExit_standing (s : State) (i st : Nat) : Standing s (laneExit s i st) := by
  unfold laneExit
  extract_lets downs l t u mx hold v w
  have hv : Standing s v :=
    .via (setLaneState_keeps ..) rfl (.via (countRaise_keeps 45 group_lane ..) rfl (.via (State.setLane_keeps ..) rfl (.refl s)))
  have hw : Standing s w := .ite (.via (laneCause_keeps ..) rfl hv) hv
  exact .via (flushPort_keeps ..) rfl (hw.trans (rxCut_standing ..))

theorem tapJudge_standing (s : State) : Standing s (tapJudge s) := by
  have hend : Standing s (tapEnd s) := by
    unfold tapEnd
    refine .ite ?_ (.refl s)
    extract_lets u st
    have hu : Standing s u := .via (pdEv_keeps ..) rfl (.via (State.pdWr_keeps ..) rfl (.refl s))
    exact .ite (hu.trans (laneExit_standing ..)) (.via (setLaneState_keeps ..) rfl hu)
  exact .ite hend (.refl s)

theorem isolateEntry_standing (s : State) : Standing s (isolateEntry s) := by
  have hput {t : State} (h : Standing s t) (x : NodeSt) : Standing s { t with node := x } := h.trans (.of_eq rfl rfl)
  unfold isolateEntry
  extract_lets t u v w x
  have ht : Standing s t :=
    Keeping.trans (.via (edgesDiscardAll_keeps ..) rfl (.via (isolateSafe_keeps ..) rfl (.via (isolateRefuse_keeps ..) rfl (.refl s))))
      (settleEdges_standing ..)
  have hw : Standing s w := hput (.via (haltCores_keeps ..) rfl ht) _
  have hx : Standing s x := .via (actForget_keeps ..) rfl (.ite (.via (deferDropped_keeps ..) rfl hw) hw)
  have hpio : Standing s ((canOut x).each 24 pioHalt) :=
    .foldl (fun t e => .via (pioHalt_keeps ..) rfl (.refl t)) _ (.via (canOut_keeps ..) rfl hx)
  exact Keeping.trans (.via (sourcesEnd_keeps ..) rfl hpio) (ownPresence_standing ..)

/-- An own-fault leaves them. -/
theorem ownFault_standing (s : State) (k : Nat) : Standing s (ownFault s k) := by
  have hgo (t : State) : Standing t (goState t NS.isolate) := by
    unfold goState
    refine .ite (.refl t) (.via (domainsApply_keeps ..) rfl (Keeping.trans ?_ (tapJudge_standing ..)))
    unfold entryEffects
    rw [if_neg (by decide), if_pos rfl]
    exact Keeping.trans (.via (enterState_keeps ..) rfl (.refl t)) (isolateEntry_standing ..)
  have hbit : Standing s (s.setBit P.node F.NODE_OWN_FAULT_CAUSE k true) := (Standing.refl s).wri P.node _ 0 _ rfl
  unfold ownFault
  refine .ite (.via (evOnly_keeps ..) rfl hbit) ?_
  extract_lets u v
  have hv : Standing s v := .via (hubLog_keeps ..) rfl (.via (actAbandon_keeps ..) rfl (.via (raise_keeps ..) rfl hbit))
  exact .ite (hv.trans (hgo v)) hv

end Sys2Proof.Machine
end

section
/-!
PROOF. Halo's decisions and entries, ANNOUNCE, CHANGE, STATUS and DUPLICATE.
-/

namespace Sys2Proof.Machine

/-! ## Before a frame's head is decided (R128) -/

/-- What a head on its way to the decision may write: events, the switch's registers, the counters of the lanes. -/
def headKey (k : Key) : Bool := swKey k || decide (0x008 ≤ k.page ∧ k.page < 0x00C ∧ 0x080 ≤ k.off)

/-- The head of a frame is on its way: Halo's records and what the lanes have in reception are as before. -/
structure Heading (s t : State) : Prop where
  regs : RegsKeep headKey s t
  halo : t.halo = s.halo
  rx : ∀ j, (t.lane j).rx = (s.lane j).rx ∧ (t.lane j).tun = (s.lane j).tun
  accepted : t.rd P.halo F.HALO_CNT_ACCEPT0_N = s.rd P.halo F.HALO_CNT_ACCEPT0_N

theorem Heading.trans {s t u : State} (h : Heading s t) (k : Heading t u) : Heading s u :=
  ⟨h.regs.trans k.regs, k.halo.trans h.halo, fun j => ⟨(k.rx j).1.trans (h.rx j).1, (k.rx j).2.trans (h.rx j).2⟩,
    k.accepted.trans h.accepted⟩

theorem headKey_lane (i : Nat) {f : Fld} (h : i < 4) (hf : 0x080 ≤ f.off) (j : Nat) : headKey ⟨P.lane i, f.off, f.lsb, j⟩ = true := by
  simp [headKey, P.lane, hf]
  omega

theorem Heading.inc (s : State) {i : Nat} (h : i < 4) {f : Fld} (hf : 0x080 ≤ f.off) (n : Nat) : Heading s (s.inc (P.lane i) f n) :=
  ⟨(RegsKeep.refl _ s).inc _ (headKey_lane i h hf 0), rfl, fun _ => ⟨rfl, rfl⟩,
    (State.inc_keeps 45 group_lane ..).rd P.halo F.HALO_CNT_ACCEPT0_N rfl⟩

/-- A change of a lane's record that leaves what it has in reception. -/
theorem Heading.setLane (s : State) (i : Nat) {x : LaneSt} (hr : x.rx = (s.lane i).rx) (ht : x.tun = (s.lane i).tun) :
    Heading s (s.setLane i x) := by
  refine ⟨.of_eq rfl, rfl, fun j => ?_, rfl⟩
  by_cases hj : j = i
  · rw [hj, lane_setLane_same]
    exact ⟨hr, ht⟩
  · have hne : (s.setLane i x).lane j = s.lane j := Tbl.at_put_ne _ _ hj _
    rw [hne]
    exact ⟨rfl, rfl⟩

theorem lineErrs_heading (s : State) {i : Nat} (h : i < 4) (ln : LineIn) (b : Bool) : Heading s (lineErrs s i ln b) := by
  unfold lineErrs
  extract_lets t
  have ht : Heading s t := .inc s h (by decide) _
  split
  · exact ht
  · exact (ht.trans (.inc t h (by decide) _)).trans (.inc _ h (by decide) _)

theorem Moved.heading {s t : State} {m : Nat} (h : Moved s t) (k : Keeps m s t) (hm : m &&& (2 ^ 12 + 2 ^ 13 + 2 ^ 46) = 0) :
    Heading s t := by
  refine ⟨h.regs.mono fun key hk => (Bool.or_eq_false_iff.mp hk).1, k.halo (testBit_of_and hm (by decide)), fun j => ?_,
    k.rd _ _ (testBit_of_and hm (by decide))⟩
  unfold State.lane
  rw [k.lanes (testBit_of_and hm (by decide))]
  exact ⟨rfl, rfl⟩

theorem tapEnds_heading (s : State) (i : Nat) (e : FrameEnd) : Heading s (tapEnds s i e) := by
  unfold tapEnds
  split
  · exact ⟨.refl .., rfl, fun _ => ⟨rfl, rfl⟩, rfl⟩
  · extract_lets u l
    have hu : Heading s u := by
      dsimp only [u]
      split
      · exact (Moved.of_keeps (markReady_keeps ..) rfl).heading (markReady_keeps ..) rfl
      · exact (stompStored_moved ..).heading (stompStored_keeps ..) rfl
    exact hu.trans (.setLane u i rfl rfl)

theorem noteSup_heading (s : State) (f : Frame) : Heading s (noteSup s f) := by
  have hid : Heading s s := ⟨.refl .., rfl, fun _ => ⟨rfl, rfl⟩, rfl⟩
  unfold noteSup
  split
  · refine List.foldlRecOn (motive := fun t : State => Heading s t) _ _ hid fun t ht j _ => ?_
    split
    · exact ht.trans (.setLane t j rfl rfl)
    · exact ht
  · exact hid

theorem Heading.isOwn {s t : State} (h : Heading s t) (a : Nat) : isOwn t a = isOwn s a := by
  unfold Machine.isOwn sideAddr State.ownValid State.own State.on
  simp only [if_true]
  rw [h.regs.rd P.node F.NODE_NODE_ADDR_VALID rfl, h.regs.rd P.node F.NODE_NODE_ADDR_ADDR rfl, h.regs.rd P.gw F.GATEWAY_GW_ADDR_VALID rfl,
    h.regs.rd P.gw F.GATEWAY_GW_ADDR_ADDR rfl]

theorem Heading.role {s t : State} (h : Heading s t) : t.role = s.role := h.regs.rd P.node F.NODE_NODE_STATE_ROLE rfl

theorem Heading.crossedBack {s t : State} (h : Heading s t) (i : Nat) (f : Frame) : crossedBack t i f = crossedBack s i f := by
  unfold Machine.crossedBack isGateway farSide gwRing
  rw [h.role, h.regs.rd P.gw F.GATEWAY_GW_CFG_RING_K rfl]

theorem Heading.lane {s t : State} (h : Heading s t) {i : Nat} (hi : i < 4) {f : Fld} (hf : f.off < 0x080 ∧ f.off ≠ 0x010) :
    t.rd (P.lane i) f = s.rd (P.lane i) f := by
  obtain ⟨hlow, hev⟩ := hf
  refine h.regs.rd _ _ ?_
  have hp : 8 ≤ P.lane i ∧ P.lane i < 12 := by unfold P.lane; omega
  simp only [headKey, swKey, evKey, Bool.or_eq_false_iff, Bool.and_eq_false_iff, beq_eq_false_iff_ne, decide_eq_false_iff_not]
  omega

theorem Heading.laneUp {s t : State} (h : Heading s t) {i : Nat} (hi : i < 4) : laneUp t i = laneUp s i := by
  unfold Machine.laneUp
  rw [h.lane hi (by decide)]

theorem Heading.tapOn {s t : State} (h : Heading s t) : tapOn t = tapOn s :=
  congrArg (· == 1) (h.regs.rd (P.pd 0) F.PD_PD_STAT_TAP rfl)

/-! ## The decision (R132, R133) -/

/-- The first frame of a source is accepted, and its sequence becomes pending. -/
theorem haloDecide_first {s : State} {src g : Nat} (q t : Nat) (h : haloEnt s src g = {}) :
    ∃ e : HaloEnt, e.pend = [q] ∧ haloDecide s src g q t = (.accept, setHaloEnt s src g e) := by
  have hwin : haloWindow {} q = { valid := true, base := (q + 65536 - 63) % 65536, map := 0 } := rfl
  unfold haloDecide
  rw [h, hwin]
  have hd : (q + 65536 - (q + 65536 - 63) % 65536) % 65536 = 63 := by omega
  refine ⟨_, ?_, (if_neg ?_).trans ((if_neg ?_).trans (if_neg ?_))⟩
  · rfl
  · show ¬32768 ≤ (q + 65536 - (q + 65536 - 63) % 65536) % 65536
    rw [hd]
    decide
  · simp [bitOf]
  · simp

/-- An accepted head is in reception; Halo's records and its count stay. -/
theorem rxAccept_leaves (s : State) (i : Nat) (f : Frame) (pend cross : Bool) : (rxAccept s i f pend cross).halo = s.halo ∧
    ((rxAccept s i f pend cross).lane i).rx.isSome = true ∧
    (rxAccept s i f pend cross).rd P.halo F.HALO_CNT_ACCEPT0_N = s.rd P.halo F.HALO_CNT_ACCEPT0_N := by
  unfold rxAccept
  rcases hn : newId s with ⟨id, t⟩
  have ht : t = { s with sw := { s.sw with nextId := s.sw.nextId + 1 } } := (congrArg Prod.snd hn).symm
  have hk := admitRx_keeps t i id f cross false
  rcases ha : admitRx t i id f cross false with ⟨o, u⟩
  rw [ha] at hk
  dsimp only
  rw [ha]
  dsimp only
  have htun := noteTun_keeps u i id f pend o.1 o.2 false
  refine ⟨(htun.halo rfl).trans ((hk.halo rfl).trans (by rw [ht])), by rw [lane_setLane_same]; rfl, ?_⟩
  refine (htun.rd P.halo F.HALO_CNT_ACCEPT0_N rfl).trans ((hk.rd P.halo F.HALO_CNT_ACCEPT0_N rfl).trans ?_)
  rw [ht]
  rfl

theorem rxDecide_first {s : State} {i : Nat} {f : Frame} (x : Nat) (hown : isOwn s f.src = false) (hback : crossedBack s i f = false)
    (hc : haloChecked f = true) (hg : haloGroup f.cls = 0) (he : haloEnt s f.src 0 = {}) :
    ((rxDecide s i f x).lane i).rx.isSome = true ∧ (haloEnt (rxDecide s i f x) f.src 0).pend = [f.seq] ∧
      (rxDecide s i f x).rd P.halo F.HALO_CNT_ACCEPT0_N =
        satAdd F.HALO_CNT_ACCEPT0_N.width (s.rd P.halo F.HALO_CNT_ACCEPT0_N) 1 := by
  obtain ⟨e, hpend, hdecide⟩ := haloDecide_first f.seq x he
  have hrun : ∃ c, rxDecide s i f x = rxAccept (haloAccept (setHaloEnt s f.src 0 e) 0) i f true c := by
    unfold rxDecide
    dsimp only
    rw [if_neg (by simp [hown]), if_neg (by simp [hback]), if_neg (by simp [hc]), hg, hdecide]
    exact ⟨_, rfl⟩
  obtain ⟨c, hrun⟩ := hrun
  obtain ⟨hhalo, hrx, hcount⟩ := rxAccept_leaves (haloAccept (setHaloEnt s f.src 0 e) 0) i f true c
  rw [hrun]
  refine ⟨hrx, ?_, hcount.trans (rd_inc_same (setHaloEnt s f.src 0 e) P.halo F.HALO_CNT_ACCEPT0_N 1)⟩
  unfold haloEnt
  rw [hhalo]
  exact (congrArg HaloEnt.pend (Tbl.at_put_same s.halo.ents {} (2 * f.src + 0) e)).trans hpend

theorem ringFrame_accepted {s : State} {i : Nat} {f : Frame} {ln : LineIn} {x : Nat} (hl : ln.head = 0) (hon : lanesOn s = true)
    (hi : i < 4) (hup : laneUp s i = true) (hring : ringLane s i = true) (htap : tapOn s = false) (hrx : (s.lane i).rx = none)
    (htun : (s.lane i).tun = none) (hok : headerOk f = true) (hc : haloChecked f = true) (hcmd : ownCommand f = false)
    (hown : isOwn s f.src = false) (hback : crossedBack s i f = false) (hg : haloGroup f.cls = 0) (he : haloEnt s f.src 0 = {}) :
    ∃ t, exec (.ringFrameReceived i ln f .head x) s = .next t ∧ (t.lane i).rx.isSome = true ∧ (haloEnt t f.src 0).pend = [f.seq] ∧
      t.rd P.halo F.HALO_CNT_ACCEPT0_N = satAdd F.HALO_CNT_ACCEPT0_N.width (s.rd P.halo F.HALO_CNT_ACCEPT0_N) 1 := by
  refine ⟨_, congrArg Host.Outcome.next (if_pos (by simp [hon, hi, laneJudges, hup, hring])), ?_⟩
  have hat : Heading s (s.atTime x) := ⟨.of_eq rfl, rfl, fun _ => ⟨rfl, rfl⟩, rfl⟩
  have herrs := hat.trans (lineErrs_heading (s.atTime x) hi ln (pcsFails ln.head .head))
  extract_lets u
  have hends := herrs.trans (tapEnds_heading u i .lenErr)
  have hcut : rxCut u i = tapEnds u i .lenErr := by
    unfold rxCut
    dsimp only
    rw [(hends.rx i).1, hrx]
  have hforget : tunForget (tapEnds u i .lenErr) i = tapEnds u i .lenErr := by
    unfold tunForget
    rw [(hends.rx i).2, htun]
  obtain ⟨v, hv, hdecide⟩ : ∃ v, Heading s v ∧ rxHead (rxCut u i) i ln.head f x = rxDecide v i f x := by
    unfold rxHead
    rw [hcut, hforget]
    dsimp only
    have hnotap : tapLane (tapEnds u i .lenErr) i = false := by
      unfold tapLane
      rw [hends.tapOn, htap, Bool.and_false]
    rw [if_neg (by simp [hl]), if_neg (by simp [hl]), if_neg (by simp [hok]),
      if_neg (by simp [hcmd, hends.laneUp hi, hup])]
    unfold rxPassed3
    have hinc := hends.trans (.inc (tapEnds u i .lenErr) hi (f := F.LANE_RX_FRAMES_N) (by decide) 1)
    have hsup := hinc.trans (noteSup_heading _ f)
    have hadmit : ∀ w : State, Heading s w → tapLane w i = false ∧ tapAdmit w i f false = (none, w) := fun w hw => by
      have hw' : Machine.tapOn w = false := hw.tapOn.trans htap
      exact ⟨by simp [tapLane, hw'], if_neg (by simp [hw'])⟩
    obtain ⟨hlane, hcopy⟩ := hadmit _ hsup
    dsimp only
    rw [hlane, hcopy]
    refine ⟨_, ?_, rfl⟩
    exact hsup.trans (.setLane _ i rfl rfl)
  show ((rxHead (rxCut u i) i ln.head f x).lane i).rx.isSome = true ∧ (haloEnt (rxHead (rxCut u i) i ln.head f x) f.src 0).pend = _ ∧
    (rxHead (rxCut u i) i ln.head f x).rd _ _ = _
  rw [hdecide]
  have hent : haloEnt v f.src 0 = {} := by
    unfold haloEnt
    rw [hv.halo]
    exact he
  have := rxDecide_first x ((hv.isOwn _).trans hown) ((hv.crossedBack ..).trans hback) hc hg hent
  rwa [hv.accepted] at this

/-- A wrong HCRC counts on its lane. -/
theorem ringFrame_hcrc {s : State} {i : Nat} {f : Frame} {ln : LineIn} {x : Nat} (hl : ln.head = 2) (hon : lanesOn s = true) (hi : i < 4)
    (hj : laneJudges s i = true) : ∃ t, exec (.ringFrameReceived i ln f .head x) s = .next t ∧
      t.rd (P.lane i) F.LANE_HCRC_ERR_N = satAdd F.LANE_HCRC_ERR_N.width (s.rd (P.lane i) F.LANE_HCRC_ERR_N) 1 := by
  refine ⟨_, congrArg Host.Outcome.next (if_pos (by simp [hon, hi, hj])), ?_⟩
  extract_lets u
  have hu : u.rd (P.lane i) F.LANE_HCRC_ERR_N = s.rd (P.lane i) F.LANE_HCRC_ERR_N := by
    dsimp only [u]
    unfold lineErrs
    extract_lets v
    have hv : v.rd (P.lane i) F.LANE_HCRC_ERR_N = s.rd (P.lane i) F.LANE_HCRC_ERR_N := rd_wr_beside _ _ _ rfl
    split
    · exact hv
    · exact (rd_wr_beside _ _ _ rfl).trans ((rd_wr_beside _ _ _ rfl).trans hv)
  have hforget (w : State) : (tunForget w i).regs = w.regs := by
    unfold tunForget
    split
    · split <;> rfl
    · rfl
  have hhead : rxHead (rxCut u i) i ln.head f x = (tunForget (rxCut u i) i).inc (P.lane i) F.LANE_HCRC_ERR_N := by
    unfold rxHead
    dsimp only
    rw [if_neg (by simp [hl]), if_pos (by simp [hl])]
  show (rxHead (rxCut u i) i ln.head f x).rd _ _ = _
  rw [hhead]
  refine (rd_inc_same ..).trans ?_
  rw [rd_of_regs (hforget _), (rxCut_moved u i).lane i (by decide), hu]
  rfl

/-! ## Entries and incarnations (R135, R136) -/

theorem haloEntry_aged {s : State} {a g x : Nat} (hon : lanesOn s = true) (ha : a < 4096) (hg : g < 2) (hv : (haloEnt s a g).valid = true)
    (ht : (haloEnt s a g).touch + haloAge s ≤ s.upAt x) : ∃ t, exec (.haloEntryAged a g x) s = .next t ∧ haloEnt t a g = {} ∧
      t.rd P.halo F.HALO_CNT_AGED_N = satAdd F.HALO_CNT_AGED_N.width (s.rd P.halo F.HALO_CNT_AGED_N) 1 := by
  refine ⟨_, congrArg Host.Outcome.next (if_pos (by simp [hon, ha, hg, hv, ht])), ?_, ?_⟩
  · exact Tbl.at_put_same s.halo.ents {} (2 * a + g) {}
  · exact rd_inc_same (setHaloEnt (s.atTime x) a g {}) P.halo F.HALO_CNT_AGED_N 1

/-- A node that withdraws from its address (R143). -/
theorem withdrawAddr_leaves (s : State) : (withdrawAddr s).halo.incs = s.halo.incs ∧
    (withdrawAddr s).rd P.halo F.HALO_CNT_RESTART_N = s.rd P.halo F.HALO_CNT_RESTART_N ∧ (withdrawAddr s).ownValid = false ∧
    (withdrawAddr s).rd P.halo F.HALO_JOIN_STAT_ADDR_FAULT = 2 ∧ (withdrawAddr s).halo.withdrawn = true := by
  unfold withdrawAddr
  extract_lets t u v h w
  have ht : Standing s t := setPresent_standing ..
  have hv := raiseIf_keeps (u.wr P.halo F.HALO_JOIN_STAT_ADDR_FAULT 2)
    ((2 == 1 || 2 == 2) && u.rd P.halo F.HALO_JOIN_STAT_ADDR_FAULT != 2) P.halo 1
  have hvalid : v.rd P.node F.NODE_NODE_ADDR_VALID = 0 :=
    (hv.rd P.node F.NODE_NODE_ADDR_VALID rfl).trans ((rd_wr_apart _ _ rfl).trans ((rd_wr_apart _ _ rfl).trans (rd_wr_same ..)))
  have hfault : v.rd P.halo F.HALO_JOIN_STAT_ADDR_FAULT = 2 := (hv.rd P.halo F.HALO_JOIN_STAT_ADDR_FAULT rfl).trans (rd_wr_same ..)
  have hcount : v.rd P.halo F.HALO_CNT_RESTART_N = s.rd P.halo F.HALO_CNT_RESTART_N :=
    (hv.rd P.halo F.HALO_CNT_RESTART_N rfl).trans ((rd_wr_apart _ _ rfl).trans ((rd_wr_apart _ _ rfl).trans
      ((rd_wr_apart _ _ rfl).trans (ht.regs.rd P.halo F.HALO_CNT_RESTART_N rfl))))
  have hincs : v.halo.incs = s.halo.incs := (congrArg HaloSt.incs (hv.halo rfl)).trans (congrArg Prod.fst ht.part)
  have hkeep (z : State) (hz : Standing w z) (hz' : z.rd P.node F.NODE_NODE_ADDR_VALID = 0) : z.halo.incs = s.halo.incs ∧
      z.rd P.halo F.HALO_CNT_RESTART_N = s.rd P.halo F.HALO_CNT_RESTART_N ∧ z.ownValid = false ∧
      z.rd P.halo F.HALO_JOIN_STAT_ADDR_FAULT = 2 ∧ z.halo.withdrawn = true := by
    refine ⟨(congrArg Prod.fst hz.part).trans hincs, (hz.regs.rd P.halo F.HALO_CNT_RESTART_N rfl).trans hcount, ?_,
      (hz.regs.rd P.halo F.HALO_JOIN_STAT_ADDR_FAULT rfl).trans hfault, congrArg (·.2.1) hz.part⟩
    unfold State.ownValid State.on
    rw [hz']
    rfl
  split
  · exact hkeep w (.refl w) hvalid
  · exact hkeep _ (ownFault_standing ..) (((ownFault_keeps ..).rd P.node F.NODE_NODE_ADDR_VALID rfl).trans hvalid)

theorem newIncarnation_kept (s : State) (src inc : Nat) : (newIncarnation s src inc).halo.incs.at 0 src = inc + 1 ∧
    (newIncarnation s src inc).rd P.halo F.HALO_CNT_RESTART_N =
      satAdd F.HALO_CNT_RESTART_N.width (s.rd P.halo F.HALO_CNT_RESTART_N) 1 := by
  unfold newIncarnation
  extract_lets had t h u v w
  have hcount : v.rd P.halo F.HALO_CNT_RESTART_N = satAdd F.HALO_CNT_RESTART_N.width (s.rd P.halo F.HALO_CNT_RESTART_N) 1 :=
    ((raise_keeps ..).rd P.halo F.HALO_CNT_RESTART_N rfl).trans (rd_inc_same u P.halo F.HALO_CNT_RESTART_N 1)
  have hw : Standing v w := .via (txnRestart_keeps ..) rfl (.refl v)
  have hincs : v.halo.incs.at 0 src = inc + 1 :=
    (congrArg (fun x : HaloSt => x.incs.at 0 src) ((raise_keeps ..).halo rfl)).trans (Tbl.at_put_same t.halo.incs 0 src (inc + 1))
  have hend : Standing v (if had && w.alive then driftAbsent w src else w) := .ite (hw.trans (driftAbsent_standing ..)) hw
  exact ⟨(congrArg (fun x : Tbl Nat × Bool × Nat => x.1.at 0 src) hend.part).trans hincs,
    (hend.regs.rd P.halo F.HALO_CNT_RESTART_N rfl).trans hcount⟩

theorem rxCount_heading (s : State) {i : Nat} (hi : i < 4) (f : Frame) : Heading s (rxCount s i f) := by
  have hinc : Heading s (s.inc (P.lane i) F.LANE_RX_FRAMES_N) := .inc s hi (by decide) 1
  have htap (t : State) : Moved t (tapAdmit t i f true).2 := by
    unfold tapAdmit
    split
    · rcases hn : newId t with ⟨id, u⟩
      have hu : Moved t u := .of_regs (congrArg (fun x : Nat × State => x.2.regs) hn).symm
      have ho : Moved t (admitOne u 3 id f true false (lanePort u i)).2 := hu.trans (admitOne_moved ..)
      dsimp only
      split
      · exact ho
      · exact ho.trans (dropAt_moved ..)
    · exact .refl t
  exact (hinc.trans (noteSup_heading ..)).trans ((htap _).heading (tapAdmit_keeps ..) rfl)

/-- The incarnation that the ANNOUNCE carries is kept, and one restart more than in `s` is counted. -/
def Restarted (s : State) (f : Frame) (t : State) : Prop :=
  t.halo.incs.at 0 f.src = beAt f.pay 12 4 % 65536 + 1 ∧
    t.rd P.halo F.HALO_CNT_RESTART_N = satAdd F.HALO_CNT_RESTART_N.width (s.rd P.halo F.HALO_CNT_RESTART_N) 1

theorem announce_restarts {s : State} {i : Nat} {f : Frame} {x : Nat} (hon : lanesOn s = true) (hi : i < 4) (hup : laneUp s i = true)
    (hring : ringLane s i = true) (hf : f.typ = 0xB ∧ frameSub f = 2) (hown : isOwn s f.src = false) (hback : crossedBack s i f = false)
    (hnew : s.halo.incs.at 0 f.src ≠ beAt f.pay 12 4 % 65536 + 1) :
    ∃ t, exec (.announce i f x) s = .next t ∧ Restarted s f t := by
  refine ⟨_, congrArg Host.Outcome.next (if_pos (by simp [hon, hi, hup, hring, hf])), ?_⟩
  extract_lets u uid inc v a
  have hat : Heading s (s.atTime x) := ⟨.of_eq rfl, rfl, fun _ => ⟨rfl, rfl⟩, rfl⟩
  have hu : Heading s u := hat.trans (rxCount_heading (s.atTime x) hi f)
  have hcount : u.rd P.halo F.HALO_CNT_RESTART_N = s.rd P.halo F.HALO_CNT_RESTART_N :=
    (rxCount_keeps (s.atTime x) i f).rd P.halo F.HALO_CNT_RESTART_N rfl
  have hv : v = announcePass (newIncarnation u f.src inc) i f := if_neg (by rw [hu.halo]; exact hnew)
  have hkeep := announcePass_keeps (newIncarnation u f.src inc) i f
  obtain ⟨hinc, hrestart⟩ := newIncarnation_kept u f.src inc
  have hvinc : v.halo.incs.at 0 f.src = inc + 1 := by
    rw [hv, hkeep.halo rfl]
    exact hinc
  have hvcount : v.rd P.halo F.HALO_CNT_RESTART_N = satAdd F.HALO_CNT_RESTART_N.width (s.rd P.halo F.HALO_CNT_RESTART_N) 1 := by
    rw [hv, hkeep.rd P.halo F.HALO_CNT_RESTART_N rfl, hrestart, hcount]
  rw [if_neg (by simp [hu.isOwn, hown]), if_neg (by simp [hu.crossedBack, hback])]
  have hkept (z : State) (hinc : z.halo.incs = v.halo.incs) (hcount : z.rd P.halo F.HALO_CNT_RESTART_N = v.rd P.halo F.HALO_CNT_RESTART_N) :
      Restarted s f z :=
    ⟨by rw [hinc]; exact hvinc, hcount.trans hvcount⟩
  have hsame := hkept v rfl rfl
  have hsend := originate_standing v 13 (supFrame 5 (beBytes 8 uid ++ beBytes 4 a ++ beBytes 4 0)) 0x3FF 0x3FF
  obtain ⟨hincs, hc, -⟩ := withdrawAddr_leaves v
  clear_value v
  by_cases hown' : (v.alive && isOwn v a && uid != v.otp.uid) = true
  · rw [if_pos hown']
    by_cases hdone : (if (v.ownValid && v.own == a) = true then v.holdDone else v.halo.holdK) = true
    · rw [if_pos hdone]
      exact hkept _ (congrArg Prod.fst hsend.part) (hsend.regs.rd P.halo F.HALO_CNT_RESTART_N rfl)
    · rw [if_neg hdone]
      by_cases huid : uid < v.otp.uid
      · rw [if_pos huid]
        exact hkept _ hincs hc
      · rw [if_neg huid]
        exact hsame
  · rw [if_neg hown']
    exact hsame

theorem holdDone_ends {s : State} {x : Nat} (halive : s.alive = true) (hann : s.on P.halo F.HALO_JOIN_STAT_ANNOUNCED = true)
    (hhold : s.holdDone = false) (hw : s.halo.withdrawn = false) (ht : s.halo.announcedAt + announceWait s ≤ s.upAt x) :
    ∃ t, exec (.holdDone x) s = .next t ∧ t.holdDone = true ∧ t.rd P.halo F.HALO_JOIN_STAT_AO_LOST = 0 := by
  have hover : holdOver s x = true := by
    unfold holdOver
    simp [hann, hhold, ht]
  refine ⟨_, congrArg Host.Outcome.next (if_pos (by simp [halive, hw, hover])), ?_⟩
  extract_lets h u v
  rw [if_pos hover]
  have hend := Keeps.step (pumpOffers_keeps _) rfl ((raise_keeps
    ((v.wr P.halo F.HALO_JOIN_STAT_HOLD_DONE 1).wr P.halo F.HALO_JOIN_STAT_AO_LOST 0) P.halo 2).mono (m := 521121367876774683138) rfl)
  constructor
  · unfold State.holdDone State.on
    rw [hend.rd P.halo F.HALO_JOIN_STAT_HOLD_DONE rfl]
    exact congrArg (· != 0) ((rd_wr_beside _ _ _ rfl).trans (rd_wr_same ..))
  · exact (hend.rd P.halo F.HALO_JOIN_STAT_AO_LOST rfl).trans (rd_wr_same ..)

/-! ## Notices, STATUS and DUPLICATE (R139, R140, R143) -/

theorem Keeps.present {m : Nat} {s t : State} (h : Keeps m s t) (hm : m.testBit 46 = false) (a : Nat) :
    present t a = present s a :=
  congrArg (bitOf · _) (h.rd_body group_halo (by simp [F.HALO_PRESENT_P]; omega) hm)

theorem present_setPresent (s : State) {a : Nat} (ha : a < 4096) (b : Bool) : present (setPresent s a b) a = b := by
  unfold setPresent
  split
  · rename_i h
    exact h.resolve_left (by omega)
  · extract_lets n t u v w x
    have ht : present t a = b := (bit_setBit _ _ _ _ _ _ (Nat.mod_lt _ (Nat.zero_lt_succ 31))).trans (if_pos rfl)
    have hu : present u a = b := (congrArg (bitOf · _) (rd_wr_apart t _ (by
      simp [keyApart, F.HALO_PRESENT_P, F.HALO_RING_STAT_PRESENT_COUNT]
      omega))).trans ht
    have hw : present w a = b := ((raiseIf_keeps ..).present rfl a).trans (((raise_keeps ..).present rfl a).trans hu)
    have hx : present x a = b := by
      dsimp only [x]
      split
      · exact ((sesPeerPresent_keeps ..).present rfl a).trans hw
      · exact ((sesPeerAbsent_keeps ..).present rfl a).trans hw
    split
    · exact hx
    · split
      · exact ((driftPresent_keeps ..).present rfl a).trans hx
      · exact ((driftAbsent_keeps ..).present rfl a).trans hx

theorem change_marks {s : State} {f : Frame} (halive : s.alive = true) (hlocal : deliversLocal s = true)
    (hf : f.typ = 0xB ∧ frameSub f = 3) (hkind : bitsOf (beAt f.pay 0 4) 28 4 = 1 ∨ bitsOf (beAt f.pay 0 4) 28 4 = 2)
    (hown : isOwn s (bitsOf (beAt f.pay 0 4) 16 12) = false) :
    ∃ t, exec (.change f) s = .next t ∧
      present t (bitsOf (beAt f.pay 0 4) 16 12) = decide (bitsOf (beAt f.pay 0 4) 28 4 = 2) := by
  have ha : bitsOf (beAt f.pay 0 4) 16 12 < 4096 := Nat.mod_lt _ (by decide)
  refine ⟨_, congrArg Host.Outcome.next (if_pos (by simp [halive, hlocal, hf])), ?_⟩
  unfold applyChange
  dsimp only
  rcases hkind with hkind | hkind
  · rw [hkind, if_pos rfl, if_neg (by simp [hown])]
    exact present_setPresent s ha false
  · rw [hkind, if_neg (by decide), if_pos rfl, if_neg (by simp [hown])]
    exact present_setPresent s ha true

theorem statusSend_sends {s : State} (halive : s.alive = true) (hins : s.mayInsert = true) (hv : s.ownValid = true)
    (hz : s.on P.time F.TIME_ZENITH_VALID = true) (ht : s.halo.statusAt + statusPeriod s ≤ s.ticks) :
    ∃ t, exec .statusSend s = .next t ∧ t.halo.statusAt = s.ticks ∧ ∀ i < 4, (t.lane i).crcStatus = 0 := by
  refine ⟨_, congrArg Host.Outcome.next (if_pos (by simp [halive, hins, hv, hz, ht])), ?_⟩
  extract_lets lat pay u h w
  have hsend := originate_standing w 13 { typ := 0xB, cls := 6, dst := w.rd P.time F.TIME_ZENITH_ADDR, w4 := 4 * 2 ^ 24, pay := pay } 0x3FF 0x3FF
  have hlane : ∀ i < 4, (u.lane i).crcStatus = 0 :=
    each_establishes (q := fun t j => (t.lane j).crcStatus = 0) (fun t j _ => by rw [lane_setLane_same]) (fun t j i _ _ hij h => by
      unfold State.lane State.setLane
      dsimp only
      rw [Tbl.at_put_ne _ _ hij]
      exact h) s
  have hticks : u.ticks = s.ticks := foldl_part (f := fun t i => t.setLane i { t.lane i with crcStatus := 0 }) (fun t : State => t.ticks) (fun _ _ => rfl) (List.range 4) s
  refine ⟨(congrArg (·.2.2) hsend.part).trans hticks, fun i hi => ?_⟩
  unfold State.lane
  rw [(originate_keeps ..).lanes rfl]
  exact hlane i hi

theorem duplicate_withdraws {s : State} {f : Frame} (halive : s.alive = true) (hf : f.typ = 0xB ∧ frameSub f = 5)
    (huid : beAt f.pay 0 8 = s.otp.uid) (hv : s.ownValid = true) :
    ∃ t, exec (.duplicate f) s = .next t ∧ t.ownValid = false ∧ t.rd P.halo F.HALO_JOIN_STAT_ADDR_FAULT = 2 ∧ t.halo.withdrawn = true :=
  ⟨_, congrArg Host.Outcome.next ((if_pos (by simp [hf, huid, hv])).trans (if_pos halive)), (withdrawAddr_leaves s).2.2⟩

/-- Settles O28: the decision on a frame without an entry, the incarnations kept, and the presence map's one writer. -/
theorem haloAndSupervision : Obligations.HaloAndSupervision := by
  unfold Obligations.HaloAndSupervision
  exact ⟨fun _ _ _ _ _ hl hon hi hup hring htap hrx htun hok hc hcmd hown hback hg he =>
      ringFrame_accepted hl hon hi hup hring htap hrx htun hok hc hcmd hown hback hg he,
    fun _ _ _ _ _ hl hon hi hj => ringFrame_hcrc hl hon hi hj,
    fun _ _ _ _ hon ha hg hv ht => haloEntry_aged hon ha hg hv ht,
    fun _ _ _ _ hon hi hup hring hf hown hback hnew => announce_restarts hon hi hup hring hf hown hback hnew,
    fun _ _ halive hann hhold hw ht => holdDone_ends halive hann hhold hw ht,
    fun _ _ halive hlocal hf hkind hown => change_marks halive hlocal hf hkind hown,
    fun _ halive hins hv hz ht => statusSend_sends halive hins hv hz ht,
    fun _ _ halive hf huid hv => duplicate_withdraws halive hf huid hv⟩

end Sys2Proof.Machine
end

section
/-!
SUPPORT. Records of the item store, and what the steps of Drift do to them.
-/

namespace Sys2Proof.Machine

/-! ## Words and fields of a record (R295) -/

theorem word_setWord (r : Rec) (k v : Nat) {j : Nat} (h : j < 32) :
    (r.setWord k v).word j = if j = k then v % 2 ^ 32 else r.word j := by
  unfold Rec.word Rec.setWord
  rw [List.getD_eq_getElem?_getD, List.getElem?_map, List.getElem?_range h]
  rfl

/-- A field that lies in one of the 32 words. -/
def RecFld.fits (f : RecFld) : Bool := decide (f.word < 32 ∧ f.lsb + f.width ≤ 32)

/-- The results of a record's four actions are fields. -/
theorem result_fits {a : Nat} (h : a < 4) : (R.result a).fits = true :=
  decide_eq_true ⟨(by omega : 11 + 4 * a < 32), (by decide : 0 + 4 ≤ 32)⟩

/-- Fields that share no bit. -/
def RecFld.apart (f g : RecFld) : Bool :=
  decide (f.word ≠ g.word ∨ f.lsb + f.width ≤ g.lsb ∨ g.lsb + g.width ≤ f.lsb)

/-- A word with a field replaced, cut at the field's ends. -/
theorem replace_field (w l n v : Nat) : w - bitsOf w l n * 2 ^ l + v % 2 ^ n * 2 ^ l =
    w % 2 ^ l + 2 ^ l * (v % 2 ^ n + 2 ^ n * (w / 2 ^ l / 2 ^ n)) := by
  have hw : w = w % 2 ^ l + 2 ^ l * (2 ^ n * (w / 2 ^ l / 2 ^ n)) + bitsOf w l n * 2 ^ l := by
    have hlow := Nat.mod_add_div w (2 ^ l)
    have hhigh := Nat.mod_add_div (w / 2 ^ l) (2 ^ n)
    calc w = w % 2 ^ l + 2 ^ l * (w / 2 ^ l) := hlow.symm
      _ = w % 2 ^ l + 2 ^ l * (w / 2 ^ l % 2 ^ n + 2 ^ n * (w / 2 ^ l / 2 ^ n)) := by rw [hhigh]
      _ = w % 2 ^ l + 2 ^ l * (2 ^ n * (w / 2 ^ l / 2 ^ n)) + bitsOf w l n * 2 ^ l := by unfold bitsOf; ring
  rw [Nat.sub_eq_of_eq_add hw]
  ring

theorem replace_field_low (w l n v : Nat) : (w - bitsOf w l n * 2 ^ l + v % 2 ^ n * 2 ^ l) % 2 ^ l = w % 2 ^ l := by
  rw [replace_field, Nat.add_mul_mod_self_left, Nat.mod_mod]

theorem replace_field_div (w l n v : Nat) : (w - bitsOf w l n * 2 ^ l + v % 2 ^ n * 2 ^ l) / 2 ^ l =
    v % 2 ^ n + 2 ^ n * (w / 2 ^ l / 2 ^ n) := by
  rw [replace_field, Nat.add_mul_div_left _ _ (Nat.two_pow_pos _), Nat.div_eq_of_lt (Nat.mod_lt _ (Nat.two_pow_pos _)), Nat.zero_add]

theorem replace_field_high (w l n v : Nat) : (w - bitsOf w l n * 2 ^ l + v % 2 ^ n * 2 ^ l) / 2 ^ (l + n) = w / 2 ^ (l + n) := by
  rw [Nat.pow_add, ← Nat.div_div_eq_div_mul, ← Nat.div_div_eq_div_mul, replace_field_div, Nat.add_mul_div_left _ _ (Nat.two_pow_pos _),
    Nat.div_eq_of_lt (Nat.mod_lt _ (Nat.two_pow_pos _)), Nat.zero_add]

theorem bitsOf_mod (x : Nat) {l n m : Nat} (h : l + n ≤ m) : bitsOf (x % 2 ^ m) l n = bitsOf x l n := by
  unfold bitsOf
  refine Nat.eq_of_testBit_eq fun i => ?_
  simp only [Nat.testBit_mod_two_pow, Nat.testBit_div_two_pow]
  by_cases hi : i < n
  · simp [hi, show i + l < m by omega]
  · simp [hi]

theorem bitsOf_div (x : Nat) {l n m : Nat} (h : m ≤ l) : bitsOf x l n = bitsOf (x / 2 ^ m) (l - m) n := by
  unfold bitsOf
  rw [Nat.div_div_eq_div_mul, ← Nat.pow_add, Nat.add_sub_cancel' h]

theorem Rec.g_s_same (r : Rec) {f : RecFld} (hf : f.fits = true) (v : Nat) : (r.s f v).g f = v % 2 ^ f.width := by
  obtain ⟨hw, hb⟩ := of_decide_eq_true hf
  unfold Rec.g Rec.s
  dsimp only
  rw [word_setWord _ _ _ hw, if_pos rfl, bitsOf_mod _ hb]
  rw [bitsOf, replace_field_div, Nat.add_mul_mod_self_left, Nat.mod_mod]

theorem Rec.g_s_apart (r : Rec) {f g : RecFld} (hg : g.fits = true) (h : f.apart g = true) (v : Nat) : (r.s f v).g g = r.g g := by
  obtain ⟨hw, hb⟩ := of_decide_eq_true hg
  unfold Rec.g Rec.s
  dsimp only
  rw [word_setWord _ _ _ hw]
  by_cases hword : g.word = f.word
  · rw [if_pos hword, bitsOf_mod _ hb, hword]
    rcases of_decide_eq_true h with hne | habove | hbelow
    · exact absurd hword.symm hne
    · rw [bitsOf_div _ habove, replace_field_high, ← bitsOf_div _ habove]
    · rw [← bitsOf_mod _ hbelow, replace_field_low, bitsOf_mod _ hbelow]
  · rw [if_neg hword]

theorem Rec.word_s (r : Rec) (f : RecFld) (v : Nat) {j : Nat} (hj : j < 32) (h : j ≠ f.word) : (r.s f v).word j = r.word j :=
  (word_setWord r _ _ hj).trans (if_neg h)

theorem Rec.word_seal (r : Rec) {j : Nat} (hj : j < 32) (h : j ≠ 7) : r.seal.word j = r.word j := (word_setWord r _ _ hj).trans (if_neg h)

theorem Rec.g_seal (r : Rec) {f : RecFld} (hf : f.fits = true) (h : f.word ≠ 7) : r.seal.g f = r.g f := by
  unfold Rec.g
  rw [r.word_seal (of_decide_eq_true hf).1 h]

/-- A flag after one flag has been set or cleared. -/
theorem Rec.fl_setFl (r : Rec) (k j : Nat) (b : Bool) (hj : j < 8) : (r.setFl k b).fl j = if j = k then b else r.fl j := by
  unfold Rec.fl Rec.setFl
  rw [r.g_s_same (by decide), bitOf_mod, bitOf_putBit]
  simp [R.flags, hj]

theorem Rec.g_setFl (r : Rec) {f : RecFld} (hf : f.fits = true) (h : R.flags.apart f = true) (k : Nat) (b : Bool) :
    (r.setFl k b).g f = r.g f := r.g_s_apart hf h _

theorem recAt_recPut_same (s : State) (i : Nat) (r : Rec) : recAt (recPut s i r) i = r.seal := Tbl.at_put_same s.drift.recs [] i r.seal

theorem recAt_recPut_ne (s : State) {i j : Nat} (h : j ≠ i) (r : Rec) : recAt (recPut s i r) j = recAt s j :=
  Tbl.at_put_ne s.drift.recs [] h r.seal

/-! ## What Drift may do to its store -/

/-- How far a step of Drift goes: the kinds of request that it may start, the slots that it may free, whether it may write
results of actions, and whether it may end inductions that wait for a mirror. -/
structure Scope where
  asks : List Nat
  frees : Nat → Bool
  results : Bool
  inducts : Bool

/-- A record worked on: its flags, VERSION and report may change, its retirement may go on, and results may be written. -/
inductive Edit (S : Scope) (r : Rec) : Rec → Prop
  | same : Edit S r r
  | flags {x : Rec} (v : Nat) (h : Edit S r x) : Edit S r (x.s R.flags v)
  | ver {x : Rec} (v : Nat) (h : Edit S r x) : Edit S r (x.s R.ver v)
  | report {x : Rec} (v : Nat) (h : Edit S r x) : Edit S r (x.s R.leadLo v)
  | ended {x : Rec} {v : Nat} (hv : v = RS.free ∨ v = RS.retired) (h : Edit S r x) : Edit S r (x.s R.state v)
  | result {x : Rec} (a v : Nat) (hS : S.results = true) (h : Edit S r x) : Edit S r (x.s (R.result a) v)

/-- One step on the engine's memory. -/
inductive Move (S : Scope) (d : DriftSt) : DriftSt → Prop
  | put (i : Nat) {r : Rec} (h : Edit S (d.recs.at [] i) r) : Move S d { d with recs := d.recs.put [] i r.seal }
  | slots (x : Tbl DriftSlot) : Move S d { d with slots := x }
  | left (l : List LeftAct) : Move S d { d with left := l }
  | judged (b : Bool) : Move S d { d with resync := b }
  | drop (p : DriftReq → Bool) : Move S d { d with reqs := d.reqs.filter p }
  | ask (q : DriftReq) (h : q.sub ∈ S.asks) : Move S d { d with reqs := d.reqs ++ [q] }
  | loose (i : Nat) (h : S.frees i = true) : Move S d { d with reqs := d.reqs.map fun q => if q.slot = i then { q with slot := 16384 } else q }

/-! ## What its steps leave -/

namespace Edit

variable {S : Scope} {r x : Rec}

/-- Words beside the header's and the actions' results. -/
theorem word (h : Edit S r x) {j : Nat} (hj : j < 32) (hne : j ≠ 2 ∧ j ≠ 3 ∧ j ≠ 4 ∧ j % 4 ≠ 3) : x.word j = r.word j := by
  induction h with
  | same => rfl
  | flags v _ ih => exact (Rec.word_s _ _ v hj hne.2.1).trans ih
  | ver v _ ih => exact (Rec.word_s _ _ v hj hne.1).trans ih
  | report v _ ih => exact (Rec.word_s _ _ v hj hne.2.2.1).trans ih
  | ended _ _ ih => exact (Rec.word_s _ _ _ hj hne.1).trans ih
  | result a v _ _ ih => exact (Rec.word_s _ _ v hj (by show j ≠ 11 + 4 * a; omega)).trans ih

theorem mirror (h : Edit S r x) : x.g R.mirror = r.g R.mirror := by
  induction h with
  | same => rfl
  | flags v _ ih => exact (Rec.g_s_apart _ rfl (by decide) v).trans ih
  | ver v _ ih => exact (Rec.g_s_apart _ rfl (by decide) v).trans ih
  | report v _ ih => exact (Rec.g_s_apart _ rfl (by decide) v).trans ih
  | ended _ _ ih => exact (Rec.g_s_apart _ rfl (by decide) _).trans ih
  | result a v _ _ ih => exact (Rec.g_s_apart _ rfl (decide_eq_true (.inl (by show 11 + 4 * a ≠ 3; omega))) v).trans ih

theorem track (h : Edit S r x) : x.g R.track = r.g R.track := by
  induction h with
  | same => rfl
  | flags v _ ih => exact (Rec.g_s_apart _ rfl (by decide) v).trans ih
  | ver v _ ih => exact (Rec.g_s_apart _ rfl (by decide) v).trans ih
  | report v _ ih => exact (Rec.g_s_apart _ rfl (by decide) v).trans ih
  | ended _ _ ih => exact (Rec.g_s_apart _ rfl (by decide) _).trans ih
  | result a v _ _ ih => exact (Rec.g_s_apart _ rfl (decide_eq_true (.inl (by show 11 + 4 * a ≠ 2; omega))) v).trans ih

/-- A result, where none is written. -/
theorem resultKept (h : Edit S r x) (hS : S.results = false) {a : Nat} (ha : a < 4) : x.g (R.result a) = r.g (R.result a) := by
  have hfit := result_fits ha
  have hapart {f : RecFld} (hf : f.word < 11) : f.apart (R.result a) = true :=
    decide_eq_true (.inl (by show f.word ≠ 11 + 4 * a; omega))
  induction h with
  | same => rfl
  | flags v _ ih => exact (Rec.g_s_apart _ hfit (hapart (by decide)) v).trans ih
  | ver v _ ih => exact (Rec.g_s_apart _ hfit (hapart (by decide)) v).trans ih
  | report v _ ih => exact (Rec.g_s_apart _ hfit (hapart (by decide)) v).trans ih
  | ended _ _ ih => exact (Rec.g_s_apart _ hfit (hapart (by decide)) _).trans ih
  | result a v hr _ ih => exact absurd (hr.symm.trans hS) (by decide)

/-- The end of a record stays. -/
theorem ended_of (h : Edit S r x) (hr : r.g R.state = RS.retired ∨ r.g R.state = RS.free) :
    x.g R.state = RS.retired ∨ x.g R.state = RS.free := by
  induction h with
  | same => exact hr
  | flags v _ ih => rwa [Rec.g_s_apart _ rfl (by decide)]
  | ver v _ ih => rwa [Rec.g_s_apart _ rfl (by decide)]
  | report v _ ih => rwa [Rec.g_s_apart _ rfl (by decide)]
  | ended hv _ _ =>
    rw [Rec.g_s_same _ rfl]
    rcases hv with rfl | rfl
    · exact .inr rfl
    · exact .inl rfl
  | result a v _ _ ih => rwa [Rec.g_s_apart _ rfl (decide_eq_true (.inl (by show 11 + 4 * a ≠ 2; omega)))]

end Edit

/-- What every edit and the seal keep of a record, every step of Drift keeps. -/
theorem moves_recAt {S : Scope} {d e : DriftSt} (h : Relation.ReflTransGen (Move S) d e) {q : Rec → Prop} (i : Nat)
    (hedit : ∀ r x, Edit S r x → q r → q x.seal) (hq : q (d.recs.at [] i)) : q (e.recs.at [] i) := by
  induction h with
  | refl => exact hq
  | tail _ hmove ih =>
    cases hmove with
    | put j hr =>
      by_cases hj : i = j
      · subst hj
        rw [Tbl.at_put_same]
        exact hedit _ _ hr ih
      · rw [Tbl.at_put_ne _ _ hj]
        exact ih
    | _ => exact ih

/-- What holds of every request, also without a slot, and of those that may start, holds of all after any steps of Drift. -/
theorem moves_reqs {S : Scope} {d e : DriftSt} (h : Relation.ReflTransGen (Move S) d e) {p : DriftReq → Prop}
    (hask : ∀ q, q.sub ∈ S.asks → p q) (hloose : ∀ q, S.frees q.slot = true → p q → p { q with slot := 16384 }) (hs : ∀ q ∈ d.reqs, p q) : ∀ q ∈ e.reqs, p q := by
  induction h with
  | refl => exact hs
  | tail _ hmove ih =>
    cases hmove with
    | drop f => exact fun q hq => ih q (List.mem_of_mem_filter hq)
    | ask q hq =>
      intro x hx
      rcases List.mem_append.mp hx with hx | hx
      · exact ih x hx
      · rw [List.mem_singleton.mp hx]
        exact hask q hq
    | loose i hi =>
      intro x hx
      obtain ⟨y, hy, rfl⟩ := List.mem_map.mp hx
      split
      next e => exact hloose y (e ▸ hi) (ih y hy)
      next => exact ih y hy
    | _ => exact ih

/-- Refusals of OFFERs are not touched. -/
theorem moves_refused {S : Scope} {d e : DriftSt} (h : Relation.ReflTransGen (Move S) d e) : e.refused = d.refused := by
  induction h with
  | refl => rfl
  | tail _ hmove ih => cases hmove <;> exact ih

/-! ## What the choice of a mirror rests on (R303) -/

/-- The registers that no step of Drift on its store writes: zones, tracks and presence, the node's address, the engine's timers, and
the count of skipped handoffs. -/
def standsKey (k : Key) : Bool :=
  decide (0x040 ≤ k.off) && (k.page == P.zones || decide (0x088 ≤ k.page ∧ k.page < 0x090) || k.page == P.halo ||
    (k.page == P.node && k.off == 0x044) || (k.page == P.drift && (k.off == 0x044 || k.off == 0x094)))

/-- A register of Drift's page that a step may write beside the results of operations. -/
def freeOff (o : Nat) : Bool := o != 0x044 && o != 0x070 && o != 0x074 && o != 0x094

/-- The mirror that the record of slot `i` would have. -/
def mirrorOf (s : State) (i : Nat) : Option Nat := (zoneSlot s ((recAt s i).g R.track)).bind (mirrorTarget s)

/-- The parts and the groups of registers that the choice of a mirror rests on, and Drift's own. -/
def revisedMask : Nat := 2 ^ 19 + 2 ^ 37 + 2 ^ 46 + 2 ^ 57 + 2 ^ 58 + 2 ^ 59 + 2 ^ 86

theorem regGroup_stands {k : Key} (h : standsKey k = true) : revisedMask.testBit (regGroup k) = true := by
  obtain ⟨p, o, l, i⟩ := k
  simp only [standsKey, Bool.and_eq_true, Bool.or_eq_true, decide_eq_true_eq, beq_iff_eq] at h
  obtain ⟨hoff, (((hp | hp) | hp) | ⟨hp, ho⟩) | ⟨hp, -⟩⟩ := h
  · rw [hp, (@group_zones o l i).resolve_right (regGroup_ne_header hoff)]
    decide
  · obtain ⟨n, rfl⟩ : ∃ n, p = P.track n := ⟨p - 0x088, by unfold P.track; omega⟩
    rw [(@group_track n o l i).resolve_right (regGroup_ne_header hoff)]
    decide
  · rw [hp, (@group_halo o l i).resolve_right (regGroup_ne_header hoff)]
    decide
  · have hgroup : regGroup ⟨P.node, 68, l, i⟩ = 86 := by simp [regGroup, P.node]
    rw [hp, ho, hgroup]
    decide
  · rw [hp, (@group_drift o l i).resolve_right (regGroup_ne_header hoff)]
    decide

/-- Registers that stand are as before. -/
abbrev Stands (s t : State) : Prop := RegsKeep (fun k => !standsKey k) s t

theorem Stands.rd {s t : State} (h : Stands s t) (p : Nat) (f : Fld) (hk : standsKey ⟨p, f.off, f.lsb, 0⟩ = true) :
    t.rd p f = s.rd p f := RegsKeep.rd h p f (by rw [hk]; rfl)

theorem Stands.zones {s t : State} (h : Stands s t) {f : Fld} (hf : 0x040 ≤ f.off) : t.rd P.zones f = s.rd P.zones f :=
  h.rd _ _ (by simp [standsKey, hf])

theorem zoneSlot_stands {s t : State} (h : Stands s t) (track : Nat) : zoneSlot t track = zoneSlot s track := by
  refine List.find?_congr fun k hk => ?_
  have hk : k < 8 := List.mem_range.mp hk
  unfold State.on State.tk
  rw [h.zones (by show 64 ≤ 0x100 + 0x80 * k; omega), h.rd (P.track k) F.TRACK_TRK_CFG_TRACK (by
    have hpage : 0x088 ≤ P.track k ∧ P.track k < 0x090 := by unfold P.track; omega
    simp [standsKey, F.TRACK_TRK_CFG_TRACK, hpage])]

theorem available_stands {s t : State} (h : Stands s t) (ht : t.ticks = s.ticks) (hr : t.drift.refused = s.drift.refused) (a : Nat) :
    available t a = available s a := by
  unfold available present State.bit reoffer State.own
  rw [hr, ht, h.rd P.node F.NODE_NODE_ADDR_ADDR rfl, h.rd P.halo (F.HALO_PRESENT_P (a / 32)) (by
    have hoff : 0x040 ≤ 0x200 + 0x4 * (a / 32) := by omega
    simp [standsKey, F.HALO_PRESENT_P, hoff]), h.rd P.drift F.DRIFT_DRIFT_TMR_REOFFER rfl]

theorem mirrorTarget_stands {s t : State} (h : Stands s t) (ht : t.ticks = s.ticks) (hr : t.drift.refused = s.drift.refused) (k : Nat) :
    mirrorTarget t k = mirrorTarget s k := by
  have hchain (j : Nat) : chainEnt t k j = chainEnt s k j := by
    unfold chainEnt State.on
    rw [h.zones (by show 64 ≤ 0x144 + 0x80 * k + 0x8 * j; omega), h.zones (by show 64 ≤ 0x144 + 0x80 * k + 0x8 * j; omega),
      h.zones (by show 64 ≤ 0x140 + 0x80 * k + 0x8 * j; omega), h.zones (by show 64 ≤ 0x144 + 0x80 * k + 0x8 * j; omega)]
  unfold mirrorTarget
  simp only [hchain, available_stands h ht hr]

/-- An operation whose result stands: it is over, or its record has a mirror to wait for. -/
def OpStands (s : State) (n : Nat) : Prop :=
  s.rdi P.drift F.DRIFT_OP_RES_STATUS n ≠ 1 ∨ mirrorOf s (s.rdi P.drift F.DRIFT_OP_RES_SLOT n) ≠ none

/-- The result of an operation is as before. -/
structure OpKept (n : Nat) (s t : State) : Prop where
  status : t.rdi P.drift F.DRIFT_OP_RES_STATUS n = s.rdi P.drift F.DRIFT_OP_RES_STATUS n
  slot : t.rdi P.drift F.DRIFT_OP_RES_SLOT n = s.rdi P.drift F.DRIFT_OP_RES_SLOT n
  version : t.rdi P.drift F.DRIFT_OP_VER_VERSION n = s.rdi P.drift F.DRIFT_OP_VER_VERSION n

/-- Drift has worked within the scope: what it did to its memory, and what stands. -/
structure Revised (S : Scope) (s t : State) : Prop where
  moves : Relation.ReflTransGen (Move S) s.drift t.drift
  regs : Stands s t
  ticks : t.ticks = s.ticks
  ops : S.inducts = false → ∀ n, OpStands s n → OpKept n s t

namespace Revised

variable {S : Scope} {s t u : State}

theorem mirrorOf (h : Revised S s t) (i : Nat) : mirrorOf t i = mirrorOf s i := by
  have htrack : (recAt t i).g R.track = (recAt s i).g R.track :=
    moves_recAt h.moves (q := fun r => r.g R.track = (recAt s i).g R.track) i
      (fun _ _ he hr => (Rec.g_seal _ rfl (by decide)).trans (he.track.trans hr)) rfl
  unfold Machine.mirrorOf
  rw [htrack, zoneSlot_stands h.regs]
  exact congrArg _ (funext fun k => mirrorTarget_stands h.regs h.ticks (moves_refused h.moves) k)

theorem skip (h : Revised S s t) : t.rd P.drift F.DRIFT_CNT_SKIP_N = s.rd P.drift F.DRIFT_CNT_SKIP_N := h.regs.rd _ _ rfl

theorem refl (s : State) : Revised S s s := ⟨.refl, .refl .., rfl, fun _ _ _ => ⟨rfl, rfl, rfl⟩⟩

theorem trans (h : Revised S s t) (k : Revised S t u) : Revised S s u := by
  refine ⟨h.moves.trans k.moves, h.regs.trans k.regs, k.ticks.trans h.ticks, fun hS n hn => ?_⟩
  obtain ⟨h1, h2, h3⟩ := h.ops hS n hn
  obtain ⟨k1, k2, k3⟩ := k.ops hS n (hn.imp (fun e => by rw [h1]; exact e) fun e => by rw [h2, h.mirrorOf]; exact e)
  exact ⟨k1.trans h1, k2.trans h2, k3.trans h3⟩

theorem of_eq (hd : t.drift = s.drift) (hr : t.regs = s.regs) (ht : t.ticks = s.ticks) : Revised S s t :=
  ⟨by rw [hd], .of_eq hr, ht, fun _ _ _ => ⟨(RegsKeep.of_eq (w := fun _ => false) hr).rdi _ _ _ rfl,
    (RegsKeep.of_eq (w := fun _ => false) hr).rdi _ _ _ rfl, (RegsKeep.of_eq (w := fun _ => false) hr).rdi _ _ _ rfl⟩⟩

theorem move (h : Revised S s t) {d : DriftSt} (hm : Move S t.drift d) : Revised S s { t with drift := d } :=
  h.trans ⟨.single hm, .of_eq rfl, rfl, fun _ _ _ => ⟨rfl, rfl, rfl⟩⟩

/-- After a step whose table of effects lacks Drift and what stands. -/
theorem via {m : Nat} (k : Keeps m t u) (hm : m &&& revisedMask = 0) (h : Revised S s t) :
    Revised S s u := by
  have hgroup (key : Key) (hk : standsKey key = true) : m.testBit (regGroup key) = false := testBit_of_and hm (regGroup_stands hk)
  refine h.trans ⟨by rw [k.drift (testBit_of_and hm (by decide))], ⟨fun key d hk => k.pages key d (hgroup key (by simpa using hk))⟩,
    (k.ticks (testBit_of_and hm (by decide))).2, fun _ n _ => ?_⟩
  have h58 := testBit_of_and hm (by decide : revisedMask.testBit 58 = true)
  exact ⟨k.rdi _ _ _ h58, k.rdi _ _ _ h58, k.rdi _ _ _ h58⟩

theorem wri (h : Revised S s t) (f : Fld) (i v : Nat) (hf : freeOff f.off = true) : Revised S s (t.wri P.drift f i v) := by
  simp only [freeOff, Bool.and_eq_true, bne_iff_ne, ne_eq] at hf
  obtain ⟨⟨⟨h044, h070⟩, h074⟩, h094⟩ := hf
  refine h.trans ⟨.refl, (RegsKeep.refl _ t).wri v ?_, rfl, fun _ n _ => ⟨?_, ?_, ?_⟩⟩
  · have hpage : (P.drift == P.zones || decide (0x088 ≤ P.drift ∧ P.drift < 0x090) || P.drift == P.halo || P.drift == P.node) = false := by
      decide
    simp only [Bool.or_eq_false_iff] at hpage
    simp [standsKey, hpage, h044, h094]
  · exact rdi_wri_apart _ _ (by simp [keyApart, F.DRIFT_OP_RES_STATUS, Ne.symm h070])
  · exact rdi_wri_apart _ _ (by simp [keyApart, F.DRIFT_OP_RES_SLOT, Ne.symm h070])
  · exact rdi_wri_apart _ _ (by simp [keyApart, F.DRIFT_OP_VER_VERSION, Ne.symm h074])

theorem ite {c : Prop} [Decidable c] (h : Revised S s t) (k : Revised S s u) : Revised S s (if c then t else u) := by
  split
  · exact h
  · exact k

theorem foldl {α : Type} {f : State → α → State} (hf : ∀ t a, Revised S t (f t a)) (l : List α) (h : Revised S s t) :
    Revised S s (l.foldl f t) := by
  induction l generalizing t with
  | nil => exact h
  | cons a r ih => exact ih (h.trans (hf t a))

theorem recPut (h : Revised S s t) (i : Nat) {r : Rec} (hr : Edit S (recAt t i) r) : Revised S s (recPut t i r) :=
  h.move (.put i hr)

theorem setDslot (h : Revised S s t) (i : Nat) (x : DriftSlot) : Revised S s (setDslot t i x) := h.move (.slots _)

theorem dropReqs (h : Revised S s t) (p : DriftReq → Bool) : Revised S s (dropReqs t p) := h.move (.drop _)

theorem raise (h : Revised S s t) (p k : Nat) : Revised S s (raise t p k) := .via (raise_keeps ..) rfl h

theorem count (h : Revised S s t) (f : Fld) (k : Nat) (hf : freeOff f.off = true) : Revised S s (driftCount t f k) :=
  Revised.raise (h.wri f 0 _ hf) ..

theorem note (h : Revised S s t) (kind slot peer id : Nat) : Revised S s (driftNote t kind slot peer id) := by
  have hadmit (q : Nat) : Revised S s (qAdmit t q 0 peer kind slot false [] (leBytes 8 id)).2 := .via (qAdmit_keeps ..) rfl h
  unfold driftNote
  exact .ite h (.ite (hadmit _) ((hadmit _).wri F.DRIFT_CNT_NOTE_LOST_N 0 _ (by decide)))

end Revised

/-! ## The steps of Drift, one by one -/

section
variable {S : Scope}

theorem markOrphan_revised (s : State) (i peer : Nat) : Revised S s (markOrphan s i peer) := by
  unfold markOrphan
  exact .ite (.refl s) (((((Revised.refl s).recPut i (.flags _ (.flags _ .same))).dropReqs _).count _ _ (by decide)).note ..)

theorem crcCheck_revised (s : State) (i : Nat) : Revised S s (crcCheck s i) := by
  unfold crcCheck
  exact .ite (.refl s) (((Revised.refl s).count _ _ (by decide)).trans (markOrphan_revised ..))

theorem findItem_revised (s : State) (id : Nat) : Revised S s (findItem s id).2 := .foldl (fun _ _ => crcCheck_revised ..) _ (.refl s)

/-- What was about the slot becomes about none; its armed actions are left. -/
theorem Revised.loosen {s t : State} (h : Revised S s t) (i : Nat) (hi : S.frees i = true) (l : List LeftAct) : Revised S s { t with drift := { t.drift with
    left := l
    reqs := t.drift.reqs.map fun q => if q.slot = i then { q with slot := 16384 } else q } } := by
  have hleft : Revised S s { t with drift := { t.drift with left := l } } := h.move (.left l)
  exact hleft.move (.loose i hi)

theorem freeRec_revised (s : State) (i : Nat) (hi : S.frees i = true) : Revised S s (freeRec s i) := by
  have hend : Revised S s (endReqs (setDslot (recPut s i ((recAt s i).s R.state RS.free)) i {}) i) :=
    (((Revised.refl s).recPut i (.ended (.inl rfl) .same)).setDslot i {}).dropReqs _
  unfold freeRec
  exact (hend.loosen i hi _).note ..

theorem driftSend_revised (s : State) (f : Frame) : Revised S s (driftSend s f) := .ite (.via (originate_keeps ..) rfl (.refl s)) (.refl s)

theorem startReq_revised (s : State) {q : DriftReq} (hq : q.sub ∈ S.asks) : Revised S s (startReq s q) := by
  have hput : Revised S s { s with drift := { s.drift with reqs := s.drift.reqs ++ [q] } } := (Revised.refl s).move (.ask q hq)
  exact hput.trans (driftSend_revised ..)

theorem request_revised (s : State) (i : Nat) {sub : Nat} (hsub : sub ∈ S.asks) (dst act res prev : Nat) :
    Revised S s (request s i sub dst act res prev) := by
  unfold request
  exact ((Revised.refl s).dropReqs _).trans (startReq_revised _ hsub)

theorem inductOk_revised (s : State) (i peer : Nat) (h : S.inducts = true ∨ mirrorOf s i = none) : Revised S s (inductOk s i peer) := by
  unfold inductOk
  split
  · exact .refl s
  · rename_i m _
    extract_lets r x t u
    have ht : Revised S s t := (Revised.refl s).setDslot ..
    have hu : Revised S t u := by
      dsimp only [u]
      split
      · rename_i hm
        obtain ⟨hstatus, hslot⟩ := hm
        refine ⟨.refl, ((RegsKeep.refl _ t).wri _ rfl).wri _ rfl, rfl, fun hS n hn => ?_⟩
        have hne : n ≠ m := fun e => by
          rw [e] at hn
          rcases hn with hn | hn
          · exact hn hstatus
          · rw [hslot, ht.mirrorOf] at hn
            exact hn (h.resolve_left (by rw [hS]; decide))
        have hidx {f g : Fld} (v : Nat) (w : State) : (w.wri P.drift f m v).rdi P.drift g n = w.rdi P.drift g n :=
          rdi_wri_ne _ _ fun e => hne (congrArg Key.idx e)
        exact ⟨(hidx ..).trans (hidx ..), (hidx ..).trans (hidx ..), (hidx ..).trans (hidx ..)⟩
      · exact .refl t
    exact ((ht.trans hu).count _ _ (by decide)).note ..

theorem mirrorSend_revised (s : State) (i : Nat) (h : 7 ∈ S.asks) : Revised S s (mirrorSend s i) := by
  unfold mirrorSend
  dsimp only
  refine .ite (.refl s) (.ite (request_revised _ _ h ..) ?_)
  split
  · exact request_revised _ _ h ..
  · rename_i hnone
    have hsolo : Revised S s (if (recAt s i).fl RFl.solo = true then s else recPut s i ((recAt s i).setFl RFl.solo true)) :=
      .ite (.refl s) ((Revised.refl s).recPut i (.flags _ .same))
    exact hsolo.trans (inductOk_revised _ _ _ (.inr ((hsolo.mirrorOf i).trans hnone)))

theorem ownerChange_revised (s : State) (i : Nat) {r : Rec} (h : 7 ∈ S.asks) (hr : Edit S (recAt s i) r) : Revised S s (ownerChange s i r) :=
  ((Revised.refl s).recPut i (.ver _ hr)).trans (mirrorSend_revised _ _ h)

theorem actionNote_revised (s : State) (i a : Nat) : Revised S s (actionNote s i a) := (Revised.refl s).note ..

theorem releaseAction_revised (s : State) (i a : Nat) : Revised S s (releaseAction s i a) := by
  unfold releaseAction
  split
  · exact .refl s
  · have hquiet (x : EdgeSched) : Revised S s { s with edge := x } := .of_eq rfl rfl rfl
    exact .via (edgesRelease_keeps ..) rfl ((hquiet _).setDslot ..)

theorem armAction_revised (s : State) (i a : Nat) (h : 7 ∈ S.asks) (hS : S.results = true) : Revised S s (armAction s i a) := by
  have hfail (t : State) : Revised S t (actionNote (ownerChange t i ((recAt t i).s (R.result a) 6)) i a) :=
    (ownerChange_revised t i h (.result a 6 hS .same)).trans (actionNote_revised ..)
  unfold armAction
  extract_lets r base pool tmpl fail
  split
  · extract_lets t1 o x t2 t3 c
    have h2 : Revised S s t2 := Revised.setDslot (.via (setEnt_keeps ..) rfl (.refl s)) ..
    have hset : t1.drift = s.drift := (setEnt_keeps ..).drift rfl
    have hrec : recAt t1 i = r := congrArg (fun d : DriftSt => d.recs.at [] i) hset
    have h3 : Revised S s t3 := h2.recPut i (.result a 2 hS (by rw [show recAt t2 i = r from hrec]; exact .same))
    have hc : Revised S s c.2 := .via (armChecked_keeps ..) rfl h3
    exact .ite hc (Revised.trans (.setDslot (.via (setEnt_keeps ..) rfl hc) ..) (hfail _))
  · exact hfail s

theorem armActions_revised (s : State) (i : Nat) (h : 7 ∈ S.asks) (hS : S.results = true) : Revised S s (armActions s i) := by
  unfold armActions
  exact .foldl (fun t a => .ite ((crcCheck_revised t i).trans (armAction_revised _ _ _ h hS)) (crcCheck_revised t i)) _ (.refl s)

theorem retireReport_revised (s : State) (i : Nat) : Revised S s (retireReport s i) := by
  unfold retireReport
  extract_lets r
  split
  · exact .refl s
  · extract_lets k
    refine .ite (.refl s) ?_
    exact Revised.recPut (.via (retainMsg_keeps ..) rfl (.via (reportBytes_keeps ..) rfl (.refl s))) i (.report _ (.flags _ .same))

theorem retireDone_revised (s : State) (i : Nat) (h : 6 ∈ S.asks) (hi : S.frees i = true) : Revised S s (retireDone s i) := by
  unfold retireDone
  extract_lets r t u
  have ht : Revised S s t := .ite (request_revised _ _ h ..) (.refl s)
  exact ((ht.count _ _ (by decide)).note ..).trans (freeRec_revised _ _ hi)

theorem retireProceed_revised (s : State) (i : Nat) (h : 6 ∈ S.asks) (hi : S.frees i = true) : Revised S s (retireProceed s i) := by
  have hcrc : Revised S s (crcCheck s i) := crcCheck_revised ..
  have hrep := hcrc.trans (retireReport_revised (crcCheck s i) i)
  unfold retireProceed
  dsimp only
  refine .ite hcrc ?_
  split
  · exact .ite (hrep.trans (retireDone_revised _ _ h hi)) hrep
  · exact hrep

theorem withdraw_revised (s : State) (i : Nat) : Revised S s (withdraw s i) :=
  .ite (((Revised.refl s).dropReqs _).recPut i (.flags _ .same)) ((Revised.refl s).dropReqs _)

/-- One action of a record that retires ends. -/
def retireAction (s : State) (i a : Nat) : State :=
  if (recAt s i).g (R.result a) = 1 ∨ (recAt s i).g (R.result a) = 2 then
    let t := if (recAt s i).g (R.node a) = s.own ∧ (recAt s i).g (R.result a) = 2 then releaseAction s i a else s
    actionNote (recPut t i ((recAt t i).s (R.result a) 7)) i a
  else s

theorem retireAction_revised (s : State) (i a : Nat) (hS : S.results = true) : Revised S s (retireAction s i a) := by
  unfold retireAction
  refine .ite ?_ (.refl s)
  extract_lets t
  have ht : Revised S s t := .ite (releaseAction_revised ..) (.refl s)
  exact (ht.recPut i (.result a 7 hS .same)).trans (actionNote_revised ..)

/-- The record is RETIRED, its report is kept, and its mirror is told. -/
def retireMark (s : State) (i reason : Nat) : State :=
  let t := recPut s i ((recAt s i).s R.state RS.retired)
  let u := setDslot t i { dslot t i with report := some (reason, t.now, recAt t i) }
  if (recAt u i).g R.mirror ≠ 0xFFF then request u i 8 ((recAt u i).g R.mirror) else retireProceed u i

theorem retireStart_eq (s : State) (i reason : Nat) :
    retireStart s i reason = retireMark (([0, 1, 2, 3]).foldl (retireAction · i) (withdraw s i)) i reason := rfl

theorem retireMark_revised (s : State) (i reason : Nat) (h : 6 ∈ S.asks ∧ 8 ∈ S.asks) (hi : S.frees i = true) :
    Revised S s (retireMark s i reason) := by
  unfold retireMark
  extract_lets t x u
  have hu : Revised S s u := ((Revised.refl s).recPut i (.ended (.inr rfl) .same)).setDslot ..
  exact .ite (hu.trans (request_revised _ _ h.2 ..)) (hu.trans (retireProceed_revised _ _ h.1 hi))

theorem retireStart_revised (s : State) (i reason : Nat) (h : 6 ∈ S.asks ∧ 8 ∈ S.asks) (hi : S.frees i = true) (hS : S.results = true) :
    Revised S s (retireStart s i reason) := by
  rw [retireStart_eq]
  exact Revised.trans (.foldl (fun _ _ => retireAction_revised _ _ _ hS) _ (withdraw_revised ..)) (retireMark_revised _ _ _ h hi)

/-- Everything that follows from results of actions. -/
def settleScope : Scope := { asks := [6, 7, 8, 12], frees := fun _ => true, results := true, inducts := false }

theorem settleScope_results : 12 ∈ settleScope.asks := by decide

theorem ownResult_revised (s : State) (i a code : Nat) : Revised settleScope s (ownResult s i a code) := by
  have hown : Revised settleScope s (actionNote (ownerChange s i ((recAt s i).s (R.result a) code)) i a) :=
    (ownerChange_revised s i (by decide) (.result a code rfl .same)).trans (actionNote_revised ..)
  unfold ownResult
  exact .ite (.refl s) (.ite (hown.trans (retireStart_revised _ _ _ (by decide) rfl rfl)) hown)

theorem actionEntryEnd_revised (s : State) (id a : Nat) : Revised S s (actionEntryEnd s id a) := by
  unfold actionEntryEnd
  extract_lets held
  split
  · exact .via (edgesRelease_keeps ..) rfl ((Revised.refl s).setDslot ..)
  · exact .via (edgesRelease_keeps ..) rfl ((Revised.refl s).move (.left _))
  · exact .refl s

theorem actionResult_revised (s : State) (id a r : Nat) : Revised settleScope s (actionResult s id a r) := by
  have h : Revised settleScope s (findItem (actionEntryEnd s id a) id).2 := (actionEntryEnd_revised ..).trans (findItem_revised ..)
  unfold actionResult
  dsimp only
  split
  · exact .ite (h.trans (ownResult_revised ..)) (.ite h (h.trans (request_revised _ _ (by decide) ..)))
  · exact .ite h (h.trans (startReq_revised _ settleScope_results))
  · exact h

theorem driftDrain_revised (n : Nat) (s : State) : Revised settleScope s (driftDrain n s) := by
  induction n generalizing s with
  | zero => exact .refl s
  | succ n ih =>
    have hput (x : EdgeSched) : Revised settleScope s { s with edge := x } := .of_eq rfl rfl rfl
    unfold driftDrain
    exact .ite (.refl s) (Revised.trans (.foldl (fun _ _ => actionResult_revised ..) _ (hput _)) (ih _))

theorem settleEdges_revised (s : State) : Revised settleScope s (settleEdges s) := driftDrain_revised ..

end

theorem Revised.at {S : Scope} {s t : State} (h : Revised S s t) {q : Rec → Prop} (i : Nat)
    (hedit : ∀ r x, Edit S r x → q r → q x.seal) (hq : q (recAt s i)) : q (recAt t i) := moves_recAt h.moves i hedit hq

theorem Revised.word {S : Scope} {s t : State} (h : Revised S s t) (i : Nat) {j : Nat} (hj : j < 32)
    (hne : j ≠ 2 ∧ j ≠ 3 ∧ j ≠ 4 ∧ j % 4 ≠ 3) : (recAt t i).word j = (recAt s i).word j :=
  h.at (q := fun r => r.word j = (recAt s i).word j) i
    (fun _ _ he hr => (Rec.word_seal _ hj (by omega)).trans ((he.word hj hne).trans hr)) rfl

theorem Revised.mirror {S : Scope} {s t : State} (h : Revised S s t) (i : Nat) : (recAt t i).g R.mirror = (recAt s i).g R.mirror :=
  h.at (q := fun r => r.g R.mirror = (recAt s i).g R.mirror) i
    (fun _ _ he hr => (Rec.g_seal _ rfl (by decide)).trans (he.mirror.trans hr)) rfl

theorem Revised.result {S : Scope} {s t : State} (h : Revised S s t) (hS : S.results = false) (i : Nat) {a : Nat} (ha : a < 4) :
    (recAt t i).g (R.result a) = (recAt s i).g (R.result a) :=
  h.at (q := fun r => r.g (R.result a) = (recAt s i).g (R.result a)) i
    (fun _ _ he hr => (Rec.g_seal _ (result_fits ha) (by show 11 + 4 * a ≠ 7; omega)).trans
      ((he.resultKept hS ha).trans hr)) rfl

theorem Revised.ended {S : Scope} {s t : State} (h : Revised S s t) (i : Nat)
    (hs : (recAt s i).g R.state = RS.retired ∨ (recAt s i).g R.state = RS.free) :
    (recAt t i).g R.state = RS.retired ∨ (recAt t i).g R.state = RS.free :=
  h.at (q := fun r => r.g R.state = RS.retired ∨ r.g R.state = RS.free) i
    (fun _ _ he hr => by rw [Rec.g_seal _ rfl (by decide)]; exact he.ended_of hr) hs

theorem Revised.noRequest {S : Scope} {s t : State} (h : Revised S s t) {sub : Nat} (hsub : sub ∉ S.asks)
    (hs : ∀ q ∈ s.drift.reqs, q.sub ≠ sub) : ∀ q ∈ t.drift.reqs, q.sub ≠ sub :=
  moves_reqs h.moves (p := fun q => q.sub ≠ sub) (fun _ hq e => hsub (e ▸ hq)) (fun _ _ hq => hq) hs

/-- A request that has ended stays away, where none of its kind starts and no slot but its own is freed. -/
theorem Revised.notContains {S : Scope} {s t : State} (h : Revised S s t) {q : DriftReq} (hsub : q.sub ∉ S.asks)
    (hslot : ∀ i, S.frees i = true → i = q.slot) (hs : s.drift.reqs.contains q = false) : t.drift.reqs.contains q = false := by
  have hne : ∀ x ∈ t.drift.reqs, x ≠ q := moves_reqs h.moves (fun x hx e => hsub (e ▸ hx))
    (fun x hx hne e => hne (by
      have hslot' : x.slot = 16384 := (hslot _ hx).trans (congrArg DriftReq.slot e.symm)
      calc x = { x with slot := x.slot } := rfl
        _ = { x with slot := 16384 } := congrArg (fun k : Nat => { x with slot := k }) hslot'
        _ = q := e))
    (fun x hx e => by
      rw [e] at hx
      simp [hx] at hs)
  exact Bool.eq_false_iff.mpr fun hc => hne q (List.contains_iff_mem.mp hc) rfl

end Sys2Proof.Machine
end

section
/-!
PROOF. RETIRE, DRIFT_ACK, QUERY, ANSWER and RESULT, and what Drift does as ticks pass.
-/

namespace Sys2Proof.Machine

/-! ## A record read (R297) -/

/-- The record of slot `i` has become ORPHAN: its requests but RELEASE and RESULT have ended. -/
def orphaned (d : DriftSt) (i : Nat) : DriftSt :=
  { d with
    recs := d.recs.put [] i ((Rec.setFl (d.recs.at [] i) RFl.orphan true).setFl RFl.doubt false).seal
    reqs := d.reqs.filter fun q => !(q.slot == i && q.sub != 6 && q.sub != 12) }

theorem driftCount_drift (s : State) (f : Fld) (k : Nat) : (driftCount s f k).drift = s.drift := (raise_keeps ..).drift rfl

theorem markOrphan_drift {s : State} {i : Nat} (peer : Nat) (h : (recAt s i).fl RFl.orphan = false) :
    (markOrphan s i peer).drift = orphaned s.drift i := by
  unfold markOrphan
  dsimp only
  rw [if_neg (by simp [h]), (driftNote_keeps ..).drift rfl, driftCount_drift]
  rfl

/-- A record that is read stays, or a CRC that fails makes it ORPHAN. -/
theorem crcCheck_cases (s : State) (i : Nat) : crcCheck s i = s ∨
    ((recAt s i).fl RFl.orphan = false ∧ (crcCheck s i).drift = orphaned s.drift i) := by
  unfold crcCheck
  dsimp only
  split
  · exact .inl rfl
  · rename_i h
    have horphan : (recAt s i).fl RFl.orphan = false := by
      simp only [not_or, Bool.not_eq_true] at h
      exact h.2.1
    have hrec (f : Fld) (k : Nat) : recAt (driftCount s f k) i = recAt s i := by
      unfold recAt
      rw [driftCount_drift]
    exact .inr ⟨horphan, by rw [markOrphan_drift _ (by rw [hrec]; exact horphan), driftCount_drift]⟩

theorem orphaned_orphan (d : DriftSt) (i : Nat) : Rec.fl ((orphaned d i).recs.at [] i) RFl.orphan = true := by
  unfold orphaned
  dsimp only
  rw [Tbl.at_put_same, Rec.fl, Rec.g_seal _ rfl (by decide)]
  exact (Rec.fl_setFl _ RFl.doubt RFl.orphan false (by decide)).trans
    ((if_neg (by decide)).trans ((Rec.fl_setFl _ RFl.orphan RFl.orphan true (by decide)).trans (if_pos rfl)))

theorem orphaned_ne (d : DriftSt) {i j : Nat} (h : j ≠ i) : (orphaned d i).recs.at [] j = d.recs.at [] j := by
  unfold orphaned
  dsimp only
  rw [Tbl.at_put_ne _ _ h]

/-- Reading slot `j` leaves the record of slot `i`, or it is ORPHAN now. -/
theorem crcCheck_recAt (s : State) (j i : Nat) : recAt (crcCheck s j) i = recAt s i ∨ (recAt (crcCheck s j) i).fl RFl.orphan = true := by
  rcases crcCheck_cases s j with h | ⟨-, h⟩
  · exact .inl (by rw [h])
  · unfold recAt
    rw [h]
    by_cases hij : i = j
    · exact .inr (hij ▸ orphaned_orphan ..)
    · exact .inl (orphaned_ne _ hij)

/-- An ORPHAN record stays as it is when it is read. -/
theorem crcCheck_orphan {s : State} {i : Nat} (h : (recAt s i).fl RFl.orphan = true) (j : Nat) : recAt (crcCheck s j) i = recAt s i := by
  rcases crcCheck_cases s j with hj | ⟨horphan, hj⟩
  · rw [hj]
  · have hij : i ≠ j := fun e => absurd (e ▸ h) (by rw [horphan]; decide)
    unfold recAt
    rw [hj]
    exact orphaned_ne _ hij

/-- The item that is found: its record stood when it was read. -/
theorem findItem_some {s : State} {id i : Nat} (h : (findItem s id).1 = some i) :
    recAt (findItem s id).2 i = recAt s i ∧ (recAt s i).fl RFl.orphan = false := by
  have hread : recAt (findItem s id).2 i = recAt s i ∨ (recAt (findItem s id).2 i).fl RFl.orphan = true :=
    List.foldlRecOn (motive := fun t : State => recAt t i = recAt s i ∨ (recAt t i).fl RFl.orphan = true) _ _ (.inl rfl) fun t ht j _ => by
      rcases ht with ht | ht
      · rw [← ht]
        exact crcCheck_recAt t j i
      · rw [crcCheck_orphan ht]
        exact .inr ht
  have hfound : (recAt (findItem s id).2 i).fl RFl.orphan = false := by
    have hp := List.find?_some (p := fun i => !(recAt (findItem s id).2 i).fl RFl.orphan) h
    exact (Bool.not_eq_true' _).mp hp
  rcases hread with hread | hread
  · exact ⟨hread, hread ▸ hfound⟩
  · exact absurd hread (by rw [hfound]; decide)

theorem resyncJudge_slots (s : State) : (resyncJudge s).drift = { s.drift with resync := (resyncJudge s).drift.resync } := by
  unfold resyncJudge
  split
  · unfold driftEv
    rw [(raise_keeps ..).drift rfl]
    rfl
  · rfl

/-- The request that is answered is outstanding, of the kind asked for, and the record that it needs stands. -/
theorem askedOf_some {s : State} {f : Frame} {sub : Nat} {q : DriftReq} (h : (askedOf s f sub).1 = some q) :
    q.sub = sub ∧ (sub ≠ 6 → sub ≠ 12 → recAt (askedOf s f sub).2 q.slot = recAt s q.slot) := by
  unfold askedOf answered at h ⊢
  rcases hfind : s.drift.reqs.find? fun q => q.sub == sub && q.dst == f.src && q.id == frameId f with _ | q0
  · rw [hfind] at h
    exact absurd h (by simp)
  · rw [hfind] at h ⊢
    dsimp only at h ⊢
    have hq : q = q0 := beq_iff_eq.mp (List.find?_some (p := fun x : DriftReq => x == q0) h)
    have hmem := List.mem_of_find?_eq_some h
    subst hq
    have hsub : q.sub = sub := by
      have := List.find?_some hfind
      simp only [Bool.and_eq_true, beq_iff_eq] at this
      exact this.1.1
    refine ⟨hsub, fun h6 h12 => ?_⟩
    split
    · rename_i hslot
      rw [if_pos hslot, resyncJudge_slots] at hmem
      unfold recAt
      rw [resyncJudge_slots]
      rcases crcCheck_cases s q.slot with hc | ⟨-, hc⟩
      · rw [hc]
      · rw [hc] at hmem
        have := List.of_mem_filter hmem
        simp [hsub, h6, h12] at this
    · rfl

/-! ## Answers (R313, R314, R316) -/

theorem answerTo_drift (s : State) (f : Frame) (sub code : Nat) (i : Option Nat) : (answerTo s f sub code i).drift = s.drift :=
  (answerTo_keeps ..).drift rfl

theorem recAt_answerTo (s : State) (f : Frame) (sub code : Nat) (o : Option Nat) (i : Nat) :
    recAt (answerTo s f sub code o) i = recAt s i := by
  unfold recAt
  rw [answerTo_drift]

theorem retire_marks {s : State} {f : Frame} {i : Nat} (ht : driftTakes s f 8 8 = true) (hi : (findItem s (frameId f)).1 = some i)
    (hst : (recAt s i).g R.state = RS.mirror ∨ (recAt s i).g R.state = RS.pending) :
    ∃ t, exec (.retire f) s = .next t ∧ (recAt t i).g R.state = RS.retired := by
  refine ⟨_, congrArg Host.Outcome.next (if_pos ht), ?_⟩
  obtain ⟨hrec, -⟩ := findItem_some hi
  unfold onRetire
  dsimp only
  rw [recAt_answerTo, hi]
  dsimp only
  rw [if_pos (by rw [hrec]; exact hst), recAt_recPut_same, Rec.g_seal _ rfl (by decide), Rec.g_s_same _ rfl]
  rfl

/-- The ACK of a SET. -/
def ackScope (i : Nat) : Scope := { asks := [6, 8], frees := (· == i), results := false, inducts := true }

theorem driftAck_mirrors {s : State} {f : Frame} {q : DriftReq} (ht : driftTakes s f 9 8 = true)
    (hq : (askedOf s f (frameCode f)).1 = some q) (hsub : q.sub = 7) (hver : frameVer f = (recAt s q.slot).g R.ver)
    (hstate : frameHState f = RS.mirror) : ∃ t, exec (.driftAck f) s = .next t ∧
      (recAt t q.slot).g R.mirror = f.src % 4096 ∧ t.drift.reqs.contains q = false := by
  refine ⟨_, congrArg Host.Outcome.next (if_pos ht), ?_⟩
  obtain ⟨hcode, hrec⟩ := askedOf_some hq
  replace hrec := hrec (by omega) (by omega)
  unfold onAck
  dsimp only
  rw [hq]
  dsimp only
  rw [if_pos hsub]
  generalize (askedOf s f (frameCode f)).2 = u at hrec ⊢
  unfold setAcked
  extract_lets i r out v w
  rw [if_neg (by rintro ⟨-, h⟩; rw [show r = recAt s q.slot from hrec, ← hver] at h; exact Nat.lt_irrefl _ h),
    if_pos ⟨hver.trans (by rw [show r = recAt s q.slot from hrec]), .inl hstate⟩]
  have hput : (recAt (recPut v i ((r.s R.mirror f.src).setFl RFl.solo false)) i).g R.mirror = f.src % 4096 := by
    rw [recAt_recPut_same, Rec.g_seal _ rfl (by decide), Rec.g_setFl _ rfl (by decide), Rec.g_s_same _ rfl]
    rfl
  have hgone : (recPut v i ((r.s R.mirror f.src).setFl RFl.solo false)).drift.reqs.contains q = false := by
    refine Bool.eq_false_iff.mpr fun hc => ?_
    have := List.of_mem_filter (List.contains_iff_mem.mp hc)
    simp at this
  have hw : Revised (ackScope i) (recPut v i ((r.s R.mirror f.src).setFl RFl.solo false)) w := inductOk_revised _ _ _ (.inl rfl)
  have hfrees : (ackScope i).frees i = true := beq_self_eq_true i
  have hend : ∀ z, Revised (ackScope i) w z → (recAt z q.slot).g R.mirror = f.src % 4096 ∧ z.drift.reqs.contains q = false := fun z hz =>
    ⟨((hw.trans hz).mirror i).trans hput, (hw.trans hz).notContains (by rw [hsub]; exact (by decide : 7 ∉ [6, 8])) (fun j hj => beq_iff_eq.mp hj) hgone⟩
  split
  · exact hend w (.refl w)
  · split
    · exact hend _ (request_revised w i (by decide : 8 ∈ [6, 8]) ..)
    · exact hend _ (retireProceed_revised w i (by decide : 6 ∈ [6, 8]) hfrees)

theorem freeRec_recs (s : State) (i : Nat) : (freeRec s i).drift.recs = (recPut s i ((recAt s i).s R.state RS.free)).drift.recs := by
  unfold freeRec
  rw [(driftNote_keeps ..).drift rfl]
  rfl

theorem freeRec_frees (s : State) (i : Nat) : (recAt (freeRec s i) i).g R.state = RS.free := by
  have hrec : recAt (freeRec s i) i = ((recAt s i).s R.state RS.free).seal := by
    unfold recAt
    rw [freeRec_recs]
    exact recAt_recPut_same ..
  rw [hrec, Rec.g_seal _ rfl (by decide), Rec.g_s_same _ rfl]
  rfl

theorem resyncKeep_sure (s : State) (i : Nat) : (recAt (resyncKeep s i) i).fl RFl.doubt = false := by
  have hrec : recAt (resyncKeep s i) i = ((recAt s i).setFl RFl.doubt false).seal := recAt_recPut_same ..
  rw [hrec, Rec.fl, Rec.g_seal _ rfl (by decide)]
  exact (Rec.fl_setFl _ RFl.doubt RFl.doubt false (by decide)).trans (if_pos rfl)

theorem dropReqs_not_contains (s : State) (q : DriftReq) : (dropReqs s (· == q)).drift.reqs.contains q = false := by
  refine Bool.eq_false_iff.mpr fun hc => ?_
  have := List.of_mem_filter (List.contains_iff_mem.mp hc)
  simp at this

/-- An ANSWER: nothing is asked, and only the slot that it is about may be freed. -/
def answerScope (i : Nat) : Scope := { asks := [], frees := (· == i), results := false, inducts := true }

theorem answer_judges {s : State} {f : Frame} {q : DriftReq} (ht : driftTakes s f 11 8 = true) (hq : (askedOf s f 10).1 = some q) :
    ∃ t, exec (.answer f) s = .next t ∧ t.drift.reqs.contains q = false ∧
      ((recAt t q.slot).g R.state = RS.free ∨ (recAt t q.slot).fl RFl.doubt = false) := by
  refine ⟨_, congrArg Host.Outcome.next (if_pos ht), ?_⟩
  unfold onAnswer
  extract_lets o u
  rw [show o.1 = some q from hq]
  dsimp -zeta only
  extract_lets v r keep
  have hrecs (z : State) (i : Nat) : recAt (resyncJudge z) i = recAt z i := by
    unfold recAt
    rw [resyncJudge_slots]
  have hreqs (z : State) : (resyncJudge z).drift.reqs = z.drift.reqs := by rw [resyncJudge_slots]
  have hgone : v.drift.reqs.contains q = false := dropReqs_not_contains u q
  clear_value keep v
  rw [hrecs, hreqs]
  cases keep
  case true => exact ⟨hgone, .inr (resyncKeep_sure ..)⟩
  case false =>
    have hfree : Revised (answerScope q.slot) v (resyncFree v q.slot) :=
      Revised.trans ((Revised.refl v).wri F.DRIFT_CNT_RESYNC_FREED_N 0 _ (by decide)) (freeRec_revised _ _ (beq_self_eq_true _))
    exact ⟨hfree.notContains List.not_mem_nil (fun j hj => beq_iff_eq.mp hj) hgone, .inl (freeRec_frees ..)⟩

theorem driftTakes_on {s : State} {f : Frame} {sub n : Nat} (h : driftTakes s f sub n = true) :
    driftOn s = true ∧ (s.working = true ∨ s.st = NS.join) := by
  have hon : driftOn s = true := by
    simp only [driftTakes, Bool.and_eq_true] at h
    exact h.1.1.1.2
  refine ⟨hon, ?_⟩
  simp only [driftOn, Bool.and_eq_true, Bool.or_eq_true, beq_iff_eq] at hon
  exact hon.1

theorem query_answered {s : State} {f : Frame} (ht : driftTakes s f 10 8 = true) (hs : (findItem s (frameId f)).2 = s)
    (heast : eastOnly s = true) : ∃ t, exec (.query f) s = .next t ∧
      (swQueue t (outQueue 0 6)).length = (swQueue s (outQueue 0 6)).length + 1 := by
  refine ⟨_, congrArg Host.Outcome.next (if_pos ht), ?_⟩
  obtain ⟨hon, hst⟩ := driftTakes_on ht
  simp only [eastOnly, Bool.and_eq_true, bne_iff_ne, ne_eq, Bool.not_eq_true', List.isEmpty_iff, beq_iff_eq] at heast
  obtain ⟨⟨⟨⟨⟨⟨⟨⟨⟨hrole, hrev⟩, hup0⟩, hup1⟩, hoff⟩, hdown⟩, hadm⟩, hown⟩, hwith⟩, hhold⟩ := heast
  have hroom : EastRoom s := ⟨hrev, hup0, hup1, hoff, hdown, hadm⟩
  unfold onQuery
  dsimp only
  rw [hs]
  unfold answerTo
  extract_lets r
  unfold driftSend originate
  rw [if_pos hon]
  dsimp only
  rw [if_neg (fun h => hrole h.1)]
  refine hroom.originateOn rfl ?_ (by decide) ?_ ?_ (.inr ⟨hown, hwith, hhold⟩)
  · simp [ringCells, Frame.plen, driftFrame, ceilDiv]
  · rcases hst with h | h
    · intro e
      simp [State.working, State.isIn, e] at h
      revert h
      decide
    · rw [h]
      decide
  · intro src tick
    unfold mayOriginate
    by_cases hw : s.working = true
    · exact if_pos hw
    · exact (if_neg hw).trans ((if_pos (hst.resolve_left hw)).trans rfl)

/-! ## Time (R304, R305, R308, R314) -/

theorem driftResend_sends {s : State} {q : DriftReq} (halive : s.alive = true) (hon : driftOn s = true) (hreqs : s.drift.reqs = [q])
    (hcrc : q.sub = 1 ∨ q.sub = 7 → crcCheck s q.slot = s) (hlast : q.last + hoRetry s ≤ s.ticks) :
    ∃ t, exec .driftResend s = .next t ∧ t.drift.reqs = [{ q with last := s.ticks }] ∧
      t.rd P.drift F.DRIFT_CNT_RESEND_N = satAdd F.DRIFT_CNT_RESEND_N.width (s.rd P.drift F.DRIFT_CNT_RESEND_N) 1 := by
  refine ⟨_, congrArg Host.Outcome.next (if_pos halive), ?_⟩
  have hread : (if q.sub = 1 ∨ q.sub = 7 then crcCheck s q.slot else s) = s := by
    split
    next h => exact hcrc h
    next => rfl
  unfold driftResend
  rw [if_neg (by simp [hon]), hreqs, List.filter_cons_of_pos (by simp [hlast]), List.filter_nil]
  dsimp only [List.foldl]
  rw [hread, if_pos (by simp [hreqs]), hreqs]
  have hsend (z : State) (f : Frame) : (driftSend z f).drift = z.drift ∧
      (driftSend z f).rd P.drift F.DRIFT_CNT_RESEND_N = z.rd P.drift F.DRIFT_CNT_RESEND_N :=
    ⟨(driftSend_keeps ..).drift rfl, (driftSend_keeps ..).rd P.drift F.DRIFT_CNT_RESEND_N rfl⟩
  refine ⟨?_, (hsend ..).2.trans (rd_inc_same ..)⟩
  rw [(hsend ..).1]
  exact congrArg (fun x : DriftReq => [x]) (if_pos rfl)

theorem driftCount_counts (s : State) {f : Fld} (k : Nat) (hf : 0x040 ≤ f.off) :
    (driftCount s f k).rd P.drift f = satAdd f.width (s.rd P.drift f) 1 :=
  ((raise_keeps ..).rd_body group_drift hf rfl).trans (rd_inc_same s P.drift f 1)

theorem missActions_revised {S : Scope} (s : State) (i x : Nat) (hS : S.results = true) : Revised S s (missActions s i x).2 := by
  unfold missActions
  refine List.foldlRecOn (motive := fun b : Bool × State => Revised S s b.2) _ _ (.refl s) fun b hb a _ => ?_
  dsimp only
  split
  · exact ((hb.recPut i (.result a 5 hS .same)).count _ _ (by decide)).note ..
  · exact hb

/-- A handoff that fails withdraws its OFFER and counts. -/
theorem handoffFail_skips (s : State) (i b : Nat) (state : Bool) (hreqs : ∀ q ∈ s.drift.reqs, q.slot = i ∧ q.sub = 1) :
    (∀ q ∈ (handoffFail s i b state).drift.reqs, q.sub ≠ 1) ∧
      (handoffFail s i b state).rd P.drift F.DRIFT_CNT_SKIP_N = satAdd F.DRIFT_CNT_SKIP_N.width (s.rd P.drift F.DRIFT_CNT_SKIP_N) 1 := by
  unfold handoffFail
  extract_lets t u y v w m z
  have ht : Revised settleScope s t := withdraw_revised ..
  have hv : Revised settleScope t v := .ite ((Revised.refl t).recPut i (.flags _ .same))
    (((Revised.refl t).recPut i (.flags _ .same)).setDslot ..)
  have hnone : ∀ q ∈ t.drift.reqs, q.sub ≠ 1 := by
    have hdrop : t.drift.reqs = s.drift.reqs.filter fun q => !(q.slot == i && q.sub == 1) := by
      dsimp only [t]
      unfold withdraw
      dsimp only
      split <;> rfl
    intro q hq
    rw [hdrop] at hq
    obtain ⟨hslot, hsub⟩ := hreqs q (List.mem_of_mem_filter hq)
    have := List.of_mem_filter hq
    simp [hslot, hsub] at this
  have hw : w.drift = v.drift := driftCount_drift ..
  have hcount : w.rd P.drift F.DRIFT_CNT_SKIP_N = satAdd F.DRIFT_CNT_SKIP_N.width (s.rd P.drift F.DRIFT_CNT_SKIP_N) 1 := by
    rw [← ht.skip, ← hv.skip]
    exact driftCount_counts v 5 (by decide)
  have hm : Revised settleScope w m.2 := missActions_revised _ _ _ rfl
  have hz : Revised settleScope w z := .ite (hm.trans (ownerChange_revised _ _ (by decide) .same)) hm
  refine ⟨(hz.note ..).noRequest (by decide) ?_, (hz.note ..).skip.trans hcount⟩
  rw [hw]
  exact hv.noRequest (by decide) hnone

theorem handoffTimeout_skips {s : State} {q : DriftReq} (halive : s.alive = true) (hon : driftOn s = true) (hreqs : s.drift.reqs = [q])
    (hcrc : crcCheck s q.slot = s) (hsub : q.sub = 1) (hfirst : q.first + hoTo s ≤ s.ticks) :
    ∃ t, exec .handoffTimeout s = .next t ∧ reqsOf t q.slot 1 = [] ∧
      t.rd P.drift F.DRIFT_CNT_SKIP_N = satAdd F.DRIFT_CNT_SKIP_N.width (s.rd P.drift F.DRIFT_CNT_SKIP_N) 1 := by
  refine ⟨_, congrArg Host.Outcome.next (if_pos halive), ?_⟩
  unfold handoffTimeouts
  rw [if_neg (by simp [hon]), hreqs, List.filter_cons_of_pos (by simp [hsub, hfirst]), List.filter_nil]
  dsimp only [List.foldl]
  rw [hcrc, if_pos (by simp [hreqs])]
  obtain ⟨hnone, hcount⟩ := handoffFail_skips s q.slot q.dst false (by simp [hreqs, hsub])
  have hsettle := settleEdges_revised (handoffFail s q.slot q.dst false)
  refine ⟨List.filter_eq_nil_iff.mpr fun x hx hp => ?_, hsettle.skip.trans hcount⟩
  exact hsettle.noRequest (by decide) hnone x hx (by simp at hp; exact hp.2)

/-! ### PENDING copies -/

/-- A sound record that no reading has to mark. -/
theorem crcCheck_sound {s : State} {i : Nat} (h : crcCheck s i = s) (horphan : (recAt s i).fl RFl.orphan = false)
    (hst : (recAt s i).g R.state ≠ RS.free) : (recAt s i).word 7 = (recAt s i).crc := by
  by_contra hcrc
  have hmark : (crcCheck s i).drift = orphaned s.drift i := by
    unfold crcCheck
    dsimp only
    rw [if_neg (by simp [hst, horphan, hcrc]), markOrphan_drift, driftCount_drift]
    unfold recAt
    rw [driftCount_drift]
    exact horphan
  rw [h] at hmark
  have := orphaned_orphan s.drift i
  rw [← hmark] at this
  exact absurd this (by rw [show Rec.fl (s.drift.recs.at [] i) RFl.orphan = false from horphan]; decide)

/-- A slot's record, what the engine keeps for it, and the time are as before. -/
structure SlotKept (i : Nat) (s t : State) : Prop where
  held : recAt t i = recAt s i
  slot : dslot t i = dslot s i
  wait : pendTo t = pendTo s
  ticks : t.ticks = s.ticks

theorem SlotKept.trans {i : Nat} {s t u : State} (h : SlotKept i s t) (k : SlotKept i t u) : SlotKept i s u :=
  ⟨k.held.trans h.held, k.slot.trans h.slot, k.wait.trans h.wait, k.ticks.trans h.ticks⟩

theorem Worked.pendTo {s t : State} (h : Worked s t) : pendTo t = pendTo s :=
  congrArg (max 2) (h.regs.rd P.drift F.DRIFT_DRIFT_TMR_PEND_TO rfl)

theorem crcCheck_slotKept (s : State) {i j : Nat} (h : i ≠ j) : SlotKept i s (crcCheck s j) := by
  refine ⟨?_, ?_, (crcCheck_worked ..).pendTo, ((crcCheck_keeps ..).ticks rfl).2⟩
  · rcases crcCheck_cases s j with e | ⟨-, e⟩
    · rw [e]
    · unfold recAt
      rw [e]
      exact orphaned_ne _ h
  · rcases crcCheck_cases s j with e | ⟨-, e⟩
    · rw [e]
    · unfold dslot
      rw [e]
      rfl

theorem freeRec_slotKept (s : State) {i j : Nat} (h : i ≠ j) : SlotKept i s (freeRec s j) := by
  refine ⟨?_, ?_, (freeRec_worked ..).pendTo, ((freeRec_keeps ..).ticks rfl).2⟩
  · unfold recAt
    rw [freeRec_recs]
    exact recAt_recPut_ne s h _
  · unfold freeRec dslot
    rw [(driftNote_keeps ..).drift rfl]
    exact Tbl.at_put_ne s.drift.slots {} h {}

/-- The judgement of one slot by PENDING_EXPIRED. -/
def pendingStep (t : State) (i : Nat) : State :=
  let t := crcCheck t i
  let r := recAt t i
  if r.g R.state = RS.pending ∧ !r.fl RFl.orphan ∧ (dslot t i).pend + pendTo t ≤ t.ticks then
    freeRec (t.inc P.drift F.DRIFT_CNT_PEND_EXPIRED_N) i
  else t

theorem inc_slotKept (s : State) (i : Nat) : SlotKept i s (s.inc P.drift F.DRIFT_CNT_PEND_EXPIRED_N) :=
  ⟨rfl, rfl, ((Worked.refl s).driftInc _ (by decide)).pendTo, rfl⟩

theorem pendingStep_slotKept (s : State) {i j : Nat} (h : i ≠ j) : SlotKept i s (pendingStep s j) := by
  have hcrc := crcCheck_slotKept s h
  unfold pendingStep
  dsimp only
  split
  · exact (hcrc.trans (inc_slotKept _ i)).trans (freeRec_slotKept _ h)
  · exact hcrc

theorem pendingStep_stays_free {s : State} {i : Nat} (h : (recAt s i).g R.state = RS.free) (j : Nat) :
    (recAt (pendingStep s j) i).g R.state = RS.free := by
  by_cases hij : i = j
  · subst hij
    have hcrc : crcCheck s i = s := if_pos (.inl h)
    unfold pendingStep
    dsimp only
    rw [hcrc, if_neg (fun hp => absurd (h.symm.trans hp.1) (by decide))]
    exact h
  · rw [(pendingStep_slotKept s hij).held]
    exact h

theorem pendingStep_frees {s : State} {i : Nat} (hst : (recAt s i).g R.state = RS.pending) (horphan : (recAt s i).fl RFl.orphan = false)
    (hcrc : (recAt s i).word 7 = (recAt s i).crc) (ht : (dslot s i).pend + pendTo s ≤ s.ticks) :
    (recAt (pendingStep s i) i).g R.state = RS.free := by
  have hread : crcCheck s i = s := if_pos (.inr (.inr hcrc))
  unfold pendingStep
  dsimp only
  rw [hread, if_pos ⟨hst, by simp [horphan], ht⟩]
  exact freeRec_frees ..

theorem mem_of_alGet {κ α : Type} [DecidableEq κ] {t : List (κ × α)} {k : κ} {d : α} (h : alGet t k d ≠ d) : (k, alGet t k d) ∈ t := by
  induction t with
  | nil => exact absurd rfl h
  | cons e r ih =>
    unfold alGet at h ⊢
    split
    next he => exact he ▸ List.mem_cons_self
    next he =>
      rw [if_neg he] at h
      exact List.mem_cons_of_mem _ (ih h)

theorem mem_recSlots {s : State} {i : Nat} (h : (recAt s i).g R.state ≠ RS.free) : i ∈ recSlots s := by
  have hne : alGet s.drift.recs i [] ≠ [] := fun e => h (by unfold recAt Tbl.at; rw [e]; rfl)
  exact List.mem_map.mpr ⟨_, List.mem_filter.mpr ⟨mem_of_alGet hne, bne_iff_ne.mpr h⟩, rfl⟩

theorem pendingExpired_frees {s : State} {i : Nat} (halive : s.alive = true) (hon : driftOn s = true) (hcrc : crcCheck s i = s)
    (hst : (recAt s i).g R.state = RS.pending) (horphan : (recAt s i).fl RFl.orphan = false)
    (ht : (dslot s i).pend + pendTo s ≤ s.ticks) : ∃ t, exec .pendingExpired s = .next t ∧ (recAt t i).g R.state = RS.free := by
  refine ⟨_, congrArg Host.Outcome.next (if_pos halive), ?_⟩
  have hne : (recAt s i).g R.state ≠ RS.free := by rw [hst]; decide
  have hsound := crcCheck_sound hcrc horphan hne
  have hrun : pendingExpire s = (recSlots s).foldl pendingStep s := if_neg (by simp [hon])
  rw [hrun]
  have hstay (l : List Nat) (t : State) (h : (recAt t i).g R.state = RS.free) : (recAt (l.foldl pendingStep t) i).g R.state = RS.free :=
    List.foldlRecOn (motive := fun t : State => (recAt t i).g R.state = RS.free) _ _ h fun _ h j _ => pendingStep_stays_free h j
  have hall (l : List Nat) (t : State) (hk : SlotKept i s t) (hi : i ∈ l) : (recAt (l.foldl pendingStep t) i).g R.state = RS.free := by
    induction l generalizing t with
    | nil => exact absurd hi List.not_mem_nil
    | cons j r ih =>
      by_cases hij : i = j
      · subst hij
        refine hstay r _ (pendingStep_frees ?_ ?_ ?_ ?_)
        · rw [hk.held]; exact hst
        · rw [hk.held]; exact horphan
        · rw [hk.held]; exact hsound
        · rw [hk.slot, hk.wait, hk.ticks]; exact ht
      · exact ih _ (hk.trans (pendingStep_slotKept t hij)) ((List.mem_cons.mp hi).resolve_left hij)
  exact hall _ s ⟨rfl, rfl, rfl, rfl⟩ (mem_recSlots hne)

/-! ### The resynchronisation's end -/

theorem mem_alInsert {κ α : Type} {lt : κ → κ → Bool} {t : List (κ × α)} {k : κ} {v : α} {e : κ × α} (h : e ∈ alInsert lt t k v) :
    e = (k, v) ∨ e ∈ t := by
  induction t with
  | nil => exact .inl (List.mem_singleton.mp h)
  | cons x r ih =>
    unfold alInsert at h
    split at h
    · exact List.mem_cons.mp h
    · rcases List.mem_cons.mp h with h | h
      · exact .inr (h ▸ List.mem_cons_self)
      · exact (ih h).imp_right (List.mem_cons_of_mem _)

/-- A record put into one slot lists no other. -/
theorem mem_recSlots_recPut {s : State} {i j : Nat} {r : Rec} (h : j ∈ recSlots (recPut s i r)) (hij : j ≠ i) : j ∈ recSlots s := by
  obtain ⟨e, he, rfl⟩ := List.mem_map.mp h
  obtain ⟨hmem, hst⟩ := List.mem_filter.mp he
  have herase : ∀ x ∈ alErase s.drift.recs i, x ∈ s.drift.recs := fun x hx => by
    rw [alErase_eq_filter] at hx
    exact List.mem_of_mem_filter hx
  have hold : e ∈ s.drift.recs := by
    unfold recPut Tbl.put alSet at hmem
    dsimp only at hmem
    split at hmem
    · exact herase e hmem
    · rcases mem_alInsert hmem with rfl | hmem
      · exact absurd rfl hij
      · exact herase e hmem
  exact List.mem_map.mpr ⟨e, List.mem_filter.mpr ⟨hold, hst⟩, rfl⟩

/-- Slot `i` is judged: its record is not in DOUBT any more, and no other slot is concerned. -/
structure Judged (i : Nat) (s t : State) : Prop where
  sure : (recAt t i).fl RFl.doubt = false
  others : ∀ j ≠ i, recAt t j = recAt s j ∧ (j ∈ recSlots t → j ∈ recSlots s)
  resync : t.drift.resync = s.drift.resync

theorem resyncKeep_judged (s : State) (i : Nat) : Judged i s (resyncKeep s i) :=
  ⟨resyncKeep_sure s i, fun _ hj => ⟨recAt_recPut_ne s hj _, fun h => mem_recSlots_recPut h hj⟩, rfl⟩

theorem Judged.congr {i : Nat} {s t u : State} (h : Judged i s t) (hd : u.drift = t.drift) : Judged i s u := by
  have hrec (j : Nat) : recAt u j = recAt t j := by unfold recAt; rw [hd]
  have hslots : recSlots u = recSlots t := by unfold recSlots; rw [hd]
  exact ⟨by rw [hrec]; exact h.sure, fun j hj => by rw [hrec, hslots]; exact h.others j hj, by rw [hd]; exact h.resync⟩

theorem markOrphan_judged (s : State) (i peer : Nat) (h : (recAt s i).fl RFl.orphan = false) : Judged i s (markOrphan s i peer) := by
  have hput : Judged i s (recPut s i (((recAt s i).setFl RFl.orphan true).setFl RFl.doubt false)) := by
    refine ⟨?_, fun _ hj => ⟨recAt_recPut_ne s hj _, fun h => mem_recSlots_recPut h hj⟩, rfl⟩
    rw [recAt_recPut_same, Rec.fl, Rec.g_seal _ rfl (by decide)]
    exact (Rec.fl_setFl _ RFl.doubt RFl.doubt false (by decide)).trans (if_pos rfl)
  have hmark := markOrphan_drift peer h
  refine Judged.congr (t := { s with drift := orphaned s.drift i }) ?_ hmark
  exact ⟨hput.sure, hput.others, rfl⟩

theorem Judged.trans {i : Nat} {s t u : State} (h : Judged i s t) (k : Judged i t u) : Judged i s u :=
  ⟨k.sure, fun j hj => ⟨(k.others j hj).1.trans (h.others j hj).1, fun hm => (h.others j hj).2 ((k.others j hj).2 hm)⟩,
    k.resync.trans h.resync⟩

/-- One record without an answer (R314). -/
def timeoutStep (t : State) (i : Nat) : State :=
  if (recAt t i).fl RFl.orphan then driftEv (resyncKeep t i) 9 else markOrphan (resyncKeep t i) i 0xFFF

theorem timeoutStep_judged (s : State) (i : Nat) : Judged i s (timeoutStep s i) := by
  have hkeep := resyncKeep_judged s i
  unfold timeoutStep
  split
  · exact hkeep.congr ((raise_keeps ..).drift rfl)
  · rename_i h
    have hrec : recAt (resyncKeep s i) i = ((recAt s i).setFl RFl.doubt false).seal := recAt_recPut_same ..
    refine hkeep.trans (markOrphan_judged _ _ _ ?_)
    rw [hrec, Rec.fl, Rec.g_seal _ rfl (by decide)]
    exact (Rec.fl_setFl _ RFl.doubt RFl.orphan false (by decide)).trans ((if_neg (by decide)).trans (Bool.eq_false_iff.mpr h))

theorem timeoutSteps_judge (l : List Nat) (s : State) (h : ∀ j ∈ doubtful s, j ∈ l) :
    doubtful (l.foldl timeoutStep s) = [] ∧ (l.foldl timeoutStep s).drift.resync = s.drift.resync := by
  induction l generalizing s with
  | nil => exact ⟨List.eq_nil_iff_forall_not_mem.mpr fun j hj => List.not_mem_nil (h j hj), rfl⟩
  | cons i r ih =>
    have hstep := timeoutStep_judged s i
    have hrest := ih (timeoutStep s i) fun j hj => by
      obtain ⟨hmem, hdoubt⟩ := List.mem_filter.mp hj
      have hij : j ≠ i := fun e => by
        rw [e, hstep.sure] at hdoubt
        exact absurd hdoubt (by decide)
      obtain ⟨hrec, hslots⟩ := hstep.others j hij
      rw [hrec] at hdoubt
      exact (List.mem_cons.mp (h j (List.mem_filter.mpr ⟨hslots hmem, hdoubt⟩))).resolve_left hij
    exact ⟨hrest.1, hrest.2.trans hstep.resync⟩

theorem readStore_resync (s : State) : (readStore s).drift.resync = s.drift.resync :=
  foldl_part (fun t : State => t.drift.resync) (fun t i => by
    rcases crcCheck_cases t i with h | ⟨-, h⟩
    · rw [h]
    · rw [h]
      rfl) (recSlots s) s

theorem resyncTimeout_ends {s : State} {b : Nat} (halive : s.alive = true) (hon : driftOn s = true) (hresync : s.drift.resync = true)
    (hq : s.drift.queried = some b) (ht : b + resyncTo s ≤ s.ticks) :
    ∃ t, exec .resyncTimeout s = .next t ∧ t.drift.resync = false ∧ t.rd P.drift F.DRIFT_STORE_STAT3_RESYNC_DONE = 1 := by
  refine ⟨_, congrArg Host.Outcome.next (if_pos halive), ?_⟩
  have hrun : resyncTimeouts s = resyncJudge ((doubtful (readStore s)).foldl timeoutStep (dropReqs (readStore s) fun q => q.sub == 10)) := by
    unfold resyncTimeouts
    rw [hq]
    exact if_neg (by simp [hon, hresync, ht])
  obtain ⟨hnone, hkept⟩ := timeoutSteps_judge (doubtful (readStore s)) (dropReqs (readStore s) fun q => q.sub == 10) fun _ h => h
  have hjudge (z : State) (hz : z.drift.resync = true) (hd : doubtful z = []) :
      (resyncJudge z).drift.resync = false ∧ (resyncJudge z).rd P.drift F.DRIFT_STORE_STAT3_RESYNC_DONE = 1 := by
    unfold resyncJudge
    rw [if_pos (by simp [hz, hd])]
    unfold driftEv
    exact ⟨by rw [(raise_keeps ..).drift rfl]; rfl,
      ((raise_keeps ..).rd P.drift F.DRIFT_STORE_STAT3_RESYNC_DONE rfl).trans (rd_wr_same ..)⟩
  rw [hrun]
  exact hjudge _ (hkept.trans ((readStore_resync s).trans hresync)) hnone

end Sys2Proof.Machine
end

section
/-!
SUPPORT. Queues, sessions and the frames that leave change nothing in the edge scheduler's pending edges and completions.
-/

namespace Sys2Proof.Machine

theorem RegsKeep.any (s t : State) : RegsKeep (fun _ => true) s t := ⟨fun _ _ h => absurd h (by decide)⟩

/-- Pending edges, and completions that wait for Drift. -/
@[reducible] def edgeWatch : Watch where
  β := List PendEdge × List (Nat × Nat × Nat)
  part s := (s.edge.edges, s.edge.results)
  free _ := true
  mask := 2 ^ 20
  sound {m s t} k hm := ⟨by rw [k.edge (testBit_of_and hm (by decide))], RegsKeep.any ..⟩

/-- No edge has come or gone. -/
abbrev EdgesKept (s t : State) : Prop := Keeping edgeWatch s t

theorem EdgesKept.refl (s : State) : EdgesKept s s := Keeping.refl s

theorem EdgesKept.wri {s t : State} (h : EdgesKept s t) (p : Nat) (f : Fld) (i v : Nat) : EdgesKept s (t.wri p f i v) :=
  Keeping.wri h (fun _ => rfl) p f i v rfl

theorem EdgesKept.raise {s t : State} (h : EdgesKept s t) (p k : Nat) : EdgesKept s (raise t p k) := by
  have he := (raise_raised t p k).edge
  exact h.trans ⟨by show ((Machine.raise t p k).edge.edges, (Machine.raise t p k).edge.results) = _; rw [he], RegsKeep.any ..⟩

theorem EdgesKept.raiseIf {s t : State} (h : EdgesKept s t) (b : Bool) (p k : Nat) : EdgesKept s (raiseIf t b p k) := .ite (h.raise p k) h

theorem EdgesKept.each {s t : State} {n : Nat} {f : State → Nat → State} (hf : ∀ t a, EdgesKept t (f t a)) (h : EdgesKept s t) :
    EdgesKept s (t.each n f) := .foldl hf _ h

/-! ## Cells, queues and ports -/

theorem poolMonitor_edges (s : State) (before : Nat) : EdgesKept s (poolMonitor s before) := by
  unfold poolMonitor
  have hmin : EdgesKept s (sharedMin (s.maxr P.pool F.CELLPOOL_USED_MAX_CELLS s.sw.used)) :=
    .via (sharedMin_keeps _) rfl (.via (State.maxr_keeps 49 group_pool ..) rfl (.refl s))
  exact EdgesKept.raiseIf (.each (fun t k => .ite (((EdgesKept.refl t).wri P.pool _ 0 _).raise ..) (.refl t)) hmin) ..

theorem chargeCells_edges (s : State) (q k fresh : Nat) : EdgesKept s (chargeCells s q k fresh) := by
  have hput (x : SwitchSt) : EdgesKept s { s with sw := x } := .of_eq rfl rfl
  exact (hput _).trans (poolMonitor_edges ..)

theorem setQueueSt_edges (s : State) (q : Nat) (z : QSt) : EdgesKept s (setQueueSt s q z) := by
  have hput (x : SesSt) : EdgesKept s { s with ses := x } := .of_eq rfl rfl
  unfold setQueueSt
  exact .ite ((hput _).trans (chargeCells_edges ..)) (.via (dischargeCells_keeps ..) rfl (hput _))

theorem recycleFor_edges (s : State) (q k : Nat) : EdgesKept s (recycleFor s q k).1 := by
  unfold recycleFor
  refine List.foldlRecOn (motive := fun a : State × Nat => EdgesKept s a.1) _ _ (.refl s) fun a ha x _ => ?_
  dsimp only
  split
  · exact ha
  · split
    · exact ha
    · exact ha.trans (setQueueSt_edges ..)

theorem qAdmit_edges (s : State) (q prio src tag info : Nat) (d : Bool) (head data : List Nat) (ses : Bool) :
    EdgesKept s (qAdmit s q prio src tag info d head data ses).2 := by
  unfold qAdmit
  extract_lets k ow t r u x y w z
  refine .ite_snd (.refl s) ?_
  have ht : EdgesKept s t.1 := by
    dsimp only [t]
    split
    · exact recycleFor_edges ..
    · exact .refl s
  have hu : EdgesKept s u := ht.wri ..
  have hw : EdgesKept s w := hu.trans (.of_eq rfl rfl)
  exact .ite_snd (hw.trans (setQueueSt_edges ..)) (.via (qRefuse_keeps ..) rfl (.via (noteRefusal_keeps ..) rfl (.refl s)))

theorem enqueue_edges (s : State) (q id : Nat) (f : Frame) (k : Nat) (r c : Bool) (i n : Nat) : EdgesKept s (enqueue s q id f k r c i n) := by
  unfold enqueue
  extract_lets held t x u
  have ht : EdgesKept s t := chargeCells_edges ..
  have hu : EdgesKept s u := ht.trans (.of_eq rfl rfl)
  exact .via (setSwQueue_keeps ..) rfl hu

theorem dropAt_edges (s : State) (p c : Nat) : EdgesKept s (dropAt s p c) := by
  have hinc : EdgesKept s (s.inc (P.swport p) (F.SWPORT_DROP_N c)) := (EdgesKept.refl s).wri ..
  unfold dropAt alert
  exact .ite hinc ((hinc.wri (P.swport p) F.SWPORT_ALERT_STAT_ALERT 0 _).raise ..)

theorem admitOne_edges (s : State) (p id : Nat) (f : Frame) (r c : Bool) (i : Nat) : EdgesKept s (admitOne s p id f r c i).2 := by
  unfold admitOne
  exact .ite_snd (.refl s) (.ite_snd (enqueue_edges ..) (.via (noteRefusal_keeps ..) rfl (.refl s)))

theorem haloSeqNext_edges (s : State) (k : Bool) (g : Nat) : EdgesKept s (haloSeqNext s k g) := .of_eq rfl rfl

theorem tryOriginate_edges (s : State) (o : Offer) : EdgesKept s (tryOriginate s o).2 := by
  unfold tryOriginate
  extract_lets ad f f1 cs k g f2 copy up
  rcases hn : newId s with ⟨id, t⟩
  have ht : EdgesKept s t := .of_snd hn (.of_eq rfl rfl)
  dsimp -zeta only
  extract_lets u v w r
  have hv : EdgesKept s v := .foldl (fun x c => enqueue_edges ..) _ (.foldl (fun x c => dropAt_edges ..) _ ht)
  have hw : EdgesKept s w := by
    dsimp only [w]
    split
    · exact .via (stampEntry_keeps ..) rfl hv
    · exact hv
  have hr : EdgesKept s r.2 := by
    refine .foldl_snd (fun a c => ?_) _ ht
    exact .ite_snd (admitOne_edges ..) ((admitOne_edges ..).trans (dropAt_edges ..))
  refine .ite_snd (.refl s) (.ite_snd (.refl s) (.ite_snd (.refl s) (.ite_snd (.ite_snd ?_ ?_) ?_)))
  · exact .ite (hw.trans (haloSeqNext_edges ..)) hw
  · exact .ite (.refl s) (.via (noteRefusals_keeps ..) rfl (.refl s))
  · exact .ite (hr.trans (haloSeqNext_edges ..)) hr

theorem originate_edges (s : State) (port : Nat) (f : Frame) (re rw : Nat) : EdgesKept s (originate s port f re rw) := by
  have hon (t : State) (k : Bool) : EdgesKept t (originateOn t k port f re rw) := by
    unfold originateOn
    extract_lets o r
    have hr : EdgesKept t r.2.2 := by
      dsimp only [r]
      unfold offerTry
      refine .ite_snd2 (.via (offerWaits_keeps ..) rfl (.refl t)) ?_
      exact .ite_snd2 (tryOriginate_edges ..) (.via (offerWaits_keeps ..) rfl (tryOriginate_edges ..))
    exact .ite hr (hr.trans (.of_eq rfl rfl))
  unfold originate
  exact .ite (.ite ((hon s false).trans (hon _ true)) (hon ..)) (hon ..)

/-! ## Sessions (R252 to R260) -/

theorem sendSes_edges (s : State) (f : Frame) : EdgesKept s (sendSes s f) := by
  unfold sendSes
  exact .ite (.refl s) (.ite (.of_eq rfl rfl) (originate_edges ..))

theorem sendMsg_edges (s : State) (k : Nat) (retx : Bool) (m : Nat × List Nat) : EdgesKept s (sendMsg s k retx m) := by
  unfold sendMsg
  extract_lets t
  have ht : EdgesKept s t := .ite (((EdgesKept.refl s).wri P.sestx F.SESTX_CNT_RETX_N 0 _).wri ..) (.refl s)
  exact .ite (.refl s) (ht.trans (sendSes_edges ..))

theorem sendProbe_edges (s : State) (k : Nat) : EdgesKept s (sendProbe s k) := by
  have hinc : EdgesKept s (s.inc P.sestx F.SESTX_CNT_PROBE_N) := (EdgesKept.refl s).wri ..
  exact .ite (.refl s) (hinc.trans (sendSes_edges ..))

theorem sendNew_edges (s : State) (k : Nat) : EdgesKept s (sendNew s k) := by
  unfold sendNew
  exact .ite (.via (setTx_keeps ..) rfl (.foldl (fun _ _ => sendMsg_edges ..) _ (.refl s))) (.refl s)

theorem resendFrom_edges (s : State) (k m : Nat) : EdgesKept s (resendFrom s k m) := by
  unfold resendFrom
  exact .via (setTx_keeps ..) rfl (.foldl (fun _ _ => sendMsg_edges ..) _ (.refl s))

theorem setRet_edges (s : State) (k : Nat) (l : List (Nat × List Nat)) : EdgesKept s (setRet s k l) := by
  unfold setRet
  extract_lets x was is before y t u
  have ht : EdgesKept s t := .of_eq rfl rfl
  exact .via (setTx_keeps ..) rfl (.ite (ht.trans (poolMonitor_edges ..)) ht)

theorem setCons_edges (s : State) (k c : Nat) : EdgesKept s (setCons s k c) := by
  unfold setCons
  exact EdgesKept.raiseIf (((EdgesKept.refl s).wri ..).trans (setRet_edges ..)) ..

theorem setRcvd_edges (s : State) (k m : Nat) : EdgesKept s (setRcvd s k m) := by
  unfold setRcvd
  extract_lets was t u
  have ht : EdgesKept s t := (EdgesKept.refl s).wri ..
  have hu : EdgesKept s u := .each (fun z _ => .ite ((EdgesKept.refl z).wri ..) (.refl z)) ht
  exact .ite (hu.raiseIf ..) ht

theorem sendAck_edges (s : State) (r : Nat) (gap : Bool) : EdgesKept s (sendAck s r gap) := by
  unfold sendAck
  extract_lets x fresh cons next t u v
  have ht : EdgesKept s t := .via (setRx_keeps ..) rfl (.refl s)
  have hv : EdgesKept s v := EdgesKept.raiseIf (ht.wri ..) ..
  exact .ite (.refl s) (hv.trans (sendSes_edges ..))

theorem tableAck_edges (s : State) (r : Nat) (gap : Bool) : EdgesKept s (tableAck s r gap) := .ite (.refl s) (sendAck_edges ..)

theorem ackAdvance_edges (s : State) (r : Nat) : EdgesKept s (ackAdvance s r) := by
  unfold ackAdvance
  extract_lets x t
  have ht : EdgesKept s t := .via (setRx_keeps ..) rfl (.refl s)
  exact .ite (.ite (ht.trans (sendAck_edges ..)) ht) ht

theorem judgeMsg_edges (s : State) (f : Frame) : EdgesKept s (judgeMsg s f) := by
  unfold judgeMsg
  extract_lets k r sinc probe fresh m x resync s1 n s2 y s3 s4 s5 z s6 next dup a s7 s8 s9
  have h1 : EdgesKept s s1 := EdgesKept.raiseIf ((EdgesKept.refl s).wri ..) ..
  have h3 : EdgesKept s s3 := .via (setRx_keeps ..) rfl ((h1.wri ..).wri ..)
  have h4 : EdgesKept s s4 := h3.wri ..
  have h5 : EdgesKept s s5 := .ite (.ite h3 (EdgesKept.raise (h4.wri ..) ..)) h1
  have h6 : EdgesKept s s6 := .via (setRx_keeps ..) rfl h5
  have ha : EdgesKept s a.2 := h6.trans (qAdmit_edges ..)
  have h8 : EdgesKept s s8 := (ha.wri ..).wri ..
  have h9 : EdgesKept s s9 := .ite (h8.wri ..) h8
  have hunknown : EdgesKept s (s.inc P.sesrx F.SESRX_CNT_UNKNOWN_N) := (EdgesKept.refl s).wri ..
  have hcount (g : Fld) : EdgesKept s (s6.inc P.sesrx g) := h6.wri ..
  have hfull : EdgesKept s (a.2.inc P.sesrx F.SESRX_CNT_RX_FULL_N) := ha.wri ..
  refine .ite (.refl s) (.ite (hunknown.raise ..) (.ite (h6.trans (tableAck_edges ..)) ?_))
  refine .ite ((hcount _).trans (tableAck_edges ..)) (.ite (.ite ((h9.raise ..).trans (ackAdvance_edges ..)) (hfull.raise ..)) ?_)
  exact (hcount _).trans (tableAck_edges ..)

theorem judgeAck_edges (s : State) (f : Frame) : EdgesKept s (judgeAck s f) := by
  have htx {t : State} (h : EdgesKept s t) (k : Nat) (x : TxSes) : EdgesKept s (setTx t k x) := .via (setTx_keeps ..) rfl h
  have htaken {t : State} (h : EdgesKept s t) (k : Nat) : EdgesKept s (ackTaken t k) := .via (ackTaken_keeps ..) rfl h
  unfold judgeAck
  extract_lets k rsid rinc gap fresh rxn cseq cons next mine noHist inWin sync s1 x o1 o2 o3 o4 o5 s2 f1 f2 changed n1 n2 r n3 n4 n5 n6
  have h1 : EdgesKept s s1 := (EdgesKept.refl s).wri ..
  have hopen : EdgesKept s o5 := ((((htx h1 ..).wri ..).wri ..).wri ..).wri ..
  have h2 : EdgesKept s s2 := htx h1 ..
  have hf : EdgesKept s f2 := htaken ((h2.wri P.sestx F.SESTX_SES_RINC_INC k rinc).raise ..) _
  have hn2 : EdgesKept s n2 := (h2.wri P.sestx F.SESTX_SES_RINC_INC k rinc).raiseIf ..
  have hn3 : EdgesKept s n3 := .ite (hn2.trans (setRcvd_edges ..)) hn2
  have hn5 : EdgesKept s n5 := htaken (hn3.trans (setCons_edges ..)) _
  have hn6 : EdgesKept s n6 := .ite (hn5.trans (resendFrom_edges ..)) hn5
  have hbad : EdgesKept s (s.inc P.sestx F.SESTX_CNT_BAD_ACK_N) := (EdgesKept.refl s).wri ..
  refine .ite hbad (.ite (htaken (hopen.wri ..) _) (.ite (.ite ?_ ?_) ?_))
  · exact hf.trans (sendProbe_edges ..)
  · exact hf.trans (resendFrom_edges ..)
  · exact hn6.trans (sendNew_edges ..)

theorem drainLoop_edges (n : Nat) (s : State) : EdgesKept s (drainLoop n s) := by
  induction n generalizing s with
  | zero => exact .refl s
  | succ n ih =>
    unfold drainLoop
    split
    · exact .refl s
    · refine Keeping.trans (Keeping.trans ?_ (.ite (judgeMsg_edges ..) (judgeAck_edges ..))) (ih _)
      exact .of_eq rfl rfl

theorem retainMsg_edges (s : State) (k : Nat) (b : List Nat) : EdgesKept s (retainMsg s k b).2 := by
  unfold retainMsg
  extract_lets m x t u v
  have ht : EdgesKept s t := .ite (.via (setTx_keeps ..) rfl (.refl s)) (.refl s)
  have hu : EdgesKept s u := ht.trans (setRet_edges ..)
  have hv : EdgesKept s v := hu.wri ..
  exact ((hv.wri P.sestx F.SESTX_CNT_PUSH_N 0 _).trans (sendNew_edges ..)).trans (drainLoop_edges ..)

/-! ## Drift -/

theorem EdgesKept.drift {s t : State} (h : EdgesKept s t) (x : DriftSt) : EdgesKept s { t with drift := x } := h.trans (.of_eq rfl rfl)

theorem EdgesKept.driftCount {s t : State} (h : EdgesKept s t) (f : Fld) (k : Nat) : EdgesKept s (driftCount t f k) :=
  EdgesKept.raise (h.wri P.drift f 0 _) ..

theorem driftNote_edges (s : State) (kind slot peer id : Nat) : EdgesKept s (driftNote s kind slot peer id) := by
  unfold driftNote
  dsimp only
  exact .ite (.refl s) (.ite (qAdmit_edges ..) ((qAdmit_edges ..).wri P.drift F.DRIFT_CNT_NOTE_LOST_N 0 _))

theorem recPut_edges (s : State) (i : Nat) (r : Rec) : EdgesKept s (recPut s i r) := .of_eq rfl rfl

theorem dropReqs_edges (s : State) (p : DriftReq → Bool) : EdgesKept s (dropReqs s p) := .of_eq rfl rfl

theorem markOrphan_edges (s : State) (i peer : Nat) : EdgesKept s (markOrphan s i peer) := by
  unfold markOrphan
  dsimp only
  exact .ite (.refl s) ((EdgesKept.driftCount ((recPut_edges ..).trans (dropReqs_edges ..)) ..).trans (driftNote_edges ..))

theorem crcCheck_edges (s : State) (i : Nat) : EdgesKept s (crcCheck s i) :=
  .ite (.refl s) (((EdgesKept.refl s).driftCount ..).trans (markOrphan_edges ..))

theorem findItem_edges (s : State) (id : Nat) : EdgesKept s (findItem s id).2 := .foldl (fun _ _ => crcCheck_edges ..) _ (.refl s)

theorem freeRec_edges (s : State) (i : Nat) : EdgesKept s (freeRec s i) := by
  unfold freeRec
  extract_lets r l t
  have ht : EdgesKept s t := .of_eq rfl rfl
  exact (ht.drift _).trans (driftNote_edges ..)

theorem driftSend_edges (s : State) (f : Frame) : EdgesKept s (driftSend s f) := .ite (originate_edges ..) (.refl s)

theorem request_edges (s : State) (i sub dst act res prev : Nat) : EdgesKept s (request s i sub dst act res prev) := by
  unfold request startReq
  exact (EdgesKept.drift (dropReqs_edges ..) _).trans (driftSend_edges ..)

theorem inductOk_edges (s : State) (i peer : Nat) : EdgesKept s (inductOk s i peer) := by
  unfold inductOk
  split
  · exact .refl s
  · extract_lets r x t u
    have ht : EdgesKept s t := .of_eq rfl rfl
    exact (EdgesKept.driftCount (.ite ((ht.wri ..).wri ..) ht) ..).trans (driftNote_edges ..)

theorem mirrorSend_edges (s : State) (i : Nat) : EdgesKept s (mirrorSend s i) := by
  unfold mirrorSend
  dsimp only
  refine .ite (.refl s) (.ite (request_edges ..) ?_)
  split
  · exact request_edges ..
  · exact Keeping.trans (.ite (.refl s) (recPut_edges ..)) (inductOk_edges ..)

theorem ownerChange_edges (s : State) (i : Nat) (r : Rec) : EdgesKept s (ownerChange s i r) := (recPut_edges ..).trans (mirrorSend_edges ..)

theorem retireProceed_edges (s : State) (i : Nat) : EdgesKept s (retireProceed s i) := by
  have hreport (t : State) : EdgesKept t (retireReport t i) := by
    unfold retireReport
    extract_lets r
    split
    · exact .refl t
    · extract_lets k
      exact .ite (.refl t) (Keeping.trans (.via (reportBytes_keeps ..) rfl (.refl t)) ((retainMsg_edges ..).trans (recPut_edges ..)))
  have hdone (t : State) : EdgesKept t (retireDone t i) := by
    unfold retireDone
    extract_lets r u v
    have hu : EdgesKept t u := .ite (request_edges ..) (.refl t)
    exact ((hu.driftCount ..).trans (driftNote_edges ..)).trans (freeRec_edges ..)
  have hcrc := crcCheck_edges s i
  have hrep := hcrc.trans (hreport (crcCheck s i))
  unfold retireProceed
  dsimp only
  refine .ite hcrc ?_
  split
  · exact .ite (hrep.trans (hdone _)) hrep
  · exact hrep

/-- No edge is pending, and no completion waits for Drift. -/
def Edgeless (s : State) : Prop := s.edge.edges = [] ∧ s.edge.results = []

theorem EdgesKept.edgeless {s t : State} (h : EdgesKept s t) (hs : Edgeless s) : Edgeless t :=
  ⟨(congrArg Prod.fst h.part).trans hs.1, (congrArg Prod.snd h.part).trans hs.2⟩

theorem edgesRelease_edgeless {s : State} (h : Edgeless s) (n : Nat) : Edgeless (edgesRelease s n) := by
  have hcancel : edgesCancel s n = s := by
    unfold edgesCancel entEdges
    rw [h.1]
    rfl
  unfold edgesRelease
  rw [hcancel]
  dsimp only
  split
  · exact h
  · exact h

theorem releaseAction_edgeless {s : State} (h : Edgeless s) (i a : Nat) : Edgeless (releaseAction s i a) := by
  unfold releaseAction
  split
  · exact h
  · refine edgesRelease_edgeless ?_ _
    refine ⟨?_, h.2⟩
    show s.edge.edges.map _ = []
    rw [h.1]
    rfl

end Sys2Proof.Machine
end

section
/-!
PROOF. RESULT of an action, and with it what Drift answers.
-/

namespace Sys2Proof.Machine

/-! ## A result at the owner (R317) -/

/-- A step that works on slot `i` and writes no result. -/
def resultScope (i : Nat) : Scope := { asks := [6, 7, 8], frees := (· == i), results := false, inducts := false }

theorem g_result_seal (r : Rec) {a : Nat} (ha : a < 4) : r.seal.g (R.result a) = r.g (R.result a) :=
  Rec.g_seal _ (result_fits ha) (by show 11 + 4 * a ≠ 7; omega)

theorem retireAction_result {s : State} {i a : Nat} (ha : a < 4) (h1 : (recAt s i).g (R.result a) ≠ 1)
    (h2 : (recAt s i).g (R.result a) ≠ 2) (b : Nat) :
    (recAt (retireAction s i b) i).g (R.result a) = (recAt s i).g (R.result a) := by
  unfold retireAction
  split
  · rename_i hb
    have hne : b ≠ a := fun e => by
      rw [e] at hb
      exact hb.elim h1 h2
    extract_lets t
    have ht : Revised (resultScope i) s t := .ite (releaseAction_revised ..) (.refl s)
    have hnote := (actionNote_revised (S := resultScope i) (recPut t i ((recAt t i).s (R.result b) 7)) i b).result rfl i ha
    rw [hnote, recAt_recPut_same, g_result_seal _ ha, Rec.g_s_apart _ (result_fits ha), ht.result rfl i ha]
    exact decide_eq_true (.inl (by show 11 + 4 * b ≠ 11 + 4 * a; omega))
  · rfl

theorem retireAction_edgeless {s : State} (h : Edgeless s) (i a : Nat) : Edgeless (retireAction s i a) := by
  unfold retireAction
  split
  · extract_lets t
    have ht : Edgeless t := by
      dsimp only [t]
      split
      · exact releaseAction_edgeless h ..
      · exact h
    exact EdgesKept.edgeless ((recPut_edges t i _).trans (driftNote_edges ..)) ht
  · exact h

theorem retireMark_edges (s : State) (i reason : Nat) : EdgesKept s (retireMark s i reason) := by
  unfold retireMark
  extract_lets t x u
  have hu : EdgesKept s u := .of_eq rfl rfl
  exact .ite (hu.trans (request_edges ..)) (hu.trans (retireProceed_edges ..))

/-- A retirement keeps a result that has been written, and brings no edge. -/
theorem retireStart_result {s : State} {i a : Nat} (reason : Nat) (ha : a < 4) (h1 : (recAt s i).g (R.result a) ≠ 1)
    (h2 : (recAt s i).g (R.result a) ≠ 2) (he : Edgeless s) :
    (recAt (retireStart s i reason) i).g (R.result a) = (recAt s i).g (R.result a) ∧ Edgeless (retireStart s i reason) := by
  rw [retireStart_eq]
  have hwith : Revised (resultScope i) s (withdraw s i) := withdraw_revised ..
  have hwithE : EdgesKept s (withdraw s i) := by
    unfold withdraw
    exact .ite (.of_eq rfl rfl) (.of_eq rfl rfl)
  have hloop : (recAt (([0, 1, 2, 3]).foldl (retireAction · i) (withdraw s i)) i).g (R.result a) = (recAt s i).g (R.result a) ∧
      Edgeless (([0, 1, 2, 3]).foldl (retireAction · i) (withdraw s i)) :=
    List.foldlRecOn (motive := fun t : State => (recAt t i).g (R.result a) = (recAt s i).g (R.result a) ∧ Edgeless t) _ _
      ⟨hwith.result rfl i ha, hwithE.edgeless he⟩ fun t ⟨ht, hte⟩ b _ =>
        ⟨(retireAction_result ha (ht ▸ h1) (ht ▸ h2) b).trans ht, retireAction_edgeless hte i b⟩
  have hmark := retireMark_revised (S := resultScope i) (([0, 1, 2, 3]).foldl (retireAction · i) (withdraw s i)) i reason
    ⟨(by decide : 6 ∈ [6, 7, 8]), (by decide : 8 ∈ [6, 7, 8])⟩ (beq_self_eq_true i)
  exact ⟨(hmark.result rfl i ha).trans hloop.1, (retireMark_edges ..).edgeless hloop.2⟩

theorem ownResult_writes {s : State} {i a code : Nat} (ha : a < 4) (hd : (recAt s i).fl RFl.doubt = false) (hc : 3 ≤ code ∧ code < 16)
    (he : Edgeless s) : (recAt (ownResult s i a code) i).g (R.result a) = code ∧ Edgeless (ownResult s i a code) := by
  unfold ownResult
  extract_lets r t
  split
  next h => exact ⟨h.resolve_left (by simp [r, hd]), he⟩
  next =>
    have hput : (recAt (recPut s i (r.s (R.result a) code).up) i).g (R.result a) = code := by
      rw [recAt_recPut_same, g_result_seal _ ha, Rec.up, Rec.g_s_apart _ (result_fits ha)
        (decide_eq_true (.inl (by show 2 ≠ 11 + 4 * a; omega))), Rec.g_s_same _ (result_fits ha)]
      exact Nat.mod_eq_of_lt hc.2
    have hnote : Revised (resultScope i) (recPut s i (r.s (R.result a) code).up) t :=
      (mirrorSend_revised _ _ (by decide : 7 ∈ [6, 7, 8])).trans (actionNote_revised ..)
    have ht : (recAt t i).g (R.result a) = code := (hnote.result rfl i ha).trans hput
    have hte : Edgeless t :=
      EdgesKept.edgeless ((ownerChange_edges s i _).trans (driftNote_edges ..)) he
    split
    · have hretire := retireStart_result (i := i) 1 ha (by omega) (by omega) hte
      exact ⟨hretire.1.trans ht, hretire.2⟩
    · exact ⟨ht, hte⟩

theorem result_written {s : State} {f : Frame} {i : Nat} (ht : driftTakes s f 12 12 = true) (hi : (findItem s (frameId f)).1 = some i)
    (hst : (recAt s i).g R.state = RS.owned) (hd : (recAt s i).fl RFl.doubt = false) (he : s.edge.edges = [] ∧ s.edge.results = [])
    (hcode : 3 ≤ leVal (slice f.pay 8 4) % 16) : ∃ t, exec (.result f) s = .next t ∧
      (recAt t i).g (R.result (leVal (slice f.pay 8 4) / 2 ^ 16 % 4)) = leVal (slice f.pay 8 4) % 16 := by
  refine ⟨_, congrArg Host.Outcome.next (if_pos ht), ?_⟩
  obtain ⟨hrec, -⟩ := findItem_some hi
  have hread : Edgeless (findItem s (frameId f)).2 := (findItem_edges ..).edgeless he
  unfold onResult
  dsimp only
  rw [hi]
  dsimp only
  rw [if_pos (by rw [hrec]; exact hst)]
  obtain ⟨hres, hedge⟩ := ownResult_writes (s := (findItem s (frameId f)).2) (i := i) (a := leVal (slice f.pay 8 4) / 2 ^ 16 % 4)
    (code := leVal (slice f.pay 8 4) % 16) (Nat.mod_lt _ (by decide)) (by rw [hrec]; exact hd) ⟨hcode, Nat.mod_lt _ (by decide)⟩ hread
  rw [settleEdges_none, recAt_answerTo]
  · exact hres
  · exact ((driftSend_edges ..).edgeless hedge).2

/-- Settles O36: what a reading of a record can do (`crcCheck_cases`), and what the steps of Drift keep of records, requests and the
count of skipped handoffs (`Revised`). -/
theorem driftAnswersAndTime : Obligations.DriftAnswersAndTime := by
  unfold Obligations.DriftAnswersAndTime
  exact ⟨fun _ _ _ ht hi hst => retire_marks ht hi hst,
    fun _ _ _ ht hq hsub hver hstate => driftAck_mirrors ht hq hsub hver hstate,
    fun _ _ ht hs heast _ => query_answered ht hs heast,
    fun _ _ _ ht hq => answer_judges ht hq,
    fun _ _ _ ht hi hst hd he hcode => result_written ht hi hst hd he hcode,
    fun _ _ halive hon hreqs hcrc hlast => driftResend_sends halive hon hreqs hcrc hlast,
    fun _ _ halive hon hreqs hcrc hsub hfirst => handoffTimeout_skips halive hon hreqs hcrc hsub hfirst,
    fun _ _ halive hon hcrc hst horphan ht => pendingExpired_frees halive hon hcrc hst horphan ht,
    fun _ _ halive hon hresync hq ht => resyncTimeout_ends halive hon hresync hq ht⟩

end Sys2Proof.Machine
end

section
/-!
PROOF. The operations of Drift (R302, R319).
-/

namespace Sys2Proof.Machine

/-! ## Writes of OP_CMD -/

/-- The fields of a word of OP_CMD. -/
theorem opCmd_fields {op act slot : Nat} (hop : op < 16) (hslot : slot < 16384) (word : Nat)
    (hword : word = mkWord [(F.DRIFT_OP_CMD_OP, op), (F.DRIFT_OP_CMD_ACTION, act), (F.DRIFT_OP_CMD_SLOT, slot)]) :
    word / 2 ^ 28 % 16 = op ∧ word / 2 ^ 20 % 4 = act % 4 ∧ word % 2 ^ 14 = slot := by
  simp only [mkWord, List.foldl_cons, List.foldl_nil, F.DRIFT_OP_CMD_OP, F.DRIFT_OP_CMD_ACTION, F.DRIFT_OP_CMD_SLOT] at hword
  norm_num at hword ⊢
  omega

theorem opCmd_effect (s : State) (who : By) (word : Nat) : writeEffect s s who P.drift 0x06C word =
    driftOp s (iniIdx who.ini) (word / 2 ^ 28 % 16) (word / 2 ^ 20 % 4) (word % 2 ^ 14) := rfl

/-- An accepted write of OP_CMD is the operation. -/
theorem MayWrite.driftCmd_eq {s : State} {who : By} (h : MayWrite s who P.drift 0x06C) {op slot : Nat} (act : Nat) (hop : op < 16)
    (hslot : slot < 16384) : driftCmd s who op act slot = driftOp (dropArms s P.drift) (iniIdx who.ini) op (act % 4) slot := by
  obtain ⟨h1, h2, h3⟩ := opCmd_fields (act := act) hop hslot _ rfl
  refine h.block _ (by decide) (by decide) (by decide) (.inl (by decide)) ?_
  rw [opCmd_effect, h1, h2, h3]

theorem driftOp_runs {s : State} (h : s.working = true ∨ s.st = NS.join) (op : Nat) :
    (!(s.working || s.st == NS.join) && op != 1) = false := by
  rcases h with h | h <;> simp [h]

/-- What an operation reports to its initiator. -/
theorem opResult_shows (s : State) (n status slot ver : Nat) :
    (opResult s n status slot ver).rdi P.drift F.DRIFT_OP_RES_STATUS n = status % 16 ∧
      (opResult s n status slot ver).rdi P.drift F.DRIFT_OP_RES_SLOT n = slot % 2 ^ 14 ∧
      (opResult s n status slot ver).rdi P.drift F.DRIFT_OP_VER_VERSION n = ver % 2 ^ 16 := by
  unfold opResult
  refine ⟨?_, ?_, rdi_wri_same ..⟩
  · exact (rdi_wri_apart _ _ rfl).trans ((rdi_wri_apart _ _ rfl).trans (rdi_wri_same ..))
  · exact (rdi_wri_apart _ _ rfl).trans (rdi_wri_same ..)

/-! ## Reading a record -/

/-- The engine's memory after a record has been read. -/
def checked (d : DriftSt) (i : Nat) : DriftSt :=
  if Rec.g (d.recs.at [] i) R.state = RS.free ∨ Rec.fl (d.recs.at [] i) RFl.orphan ∨
      Rec.word (d.recs.at [] i) 7 = Rec.crc (d.recs.at [] i) then d
  else orphaned d i

theorem crcCheck_drift (s : State) (i : Nat) : (crcCheck s i).drift = checked s.drift i := by
  unfold crcCheck checked
  dsimp only
  by_cases h : (recAt s i).g R.state = RS.free ∨ (recAt s i).fl RFl.orphan = true ∨ (recAt s i).word 7 = (recAt s i).crc
  · rw [if_pos h]
    exact (if_pos h).symm
  · rw [if_neg h]
    have horphan : (recAt s i).fl RFl.orphan = false := by
      simp only [not_or, Bool.not_eq_true] at h
      exact h.2.1
    rw [markOrphan_drift _ (by unfold recAt; rw [driftCount_drift]; exact horphan), driftCount_drift]
    exact (if_neg h).symm

theorem findItem_alike {s t : State} (h : t.drift = s.drift) (id : Nat) :
    (findItem t id).1 = (findItem s id).1 ∧ (findItem t id).2.drift = (findItem s id).2.drift := by
  have hrec : recAt t = recAt s := by
    funext i
    unfold recAt
    rw [h]
  have hslots : recSlots t = recSlots s := by
    unfold recSlots
    rw [h]
  have hfold (l : List Nat) (u v : State) (huv : u.drift = v.drift) : (l.foldl crcCheck u).drift = (l.foldl crcCheck v).drift := by
    induction l generalizing u v with
    | nil => exact huv
    | cons i r ih => exact ih _ _ (by rw [crcCheck_drift, crcCheck_drift, huv])
  have hdrift : (findItem t id).2.drift = (findItem s id).2.drift := by
    unfold findItem
    rw [hrec, hslots]
    exact hfold _ _ _ h
  refine ⟨?_, hdrift⟩
  have hend : recAt (findItem t id).2 = recAt (findItem s id).2 := by
    funext i
    unfold recAt
    rw [hdrift]
  have hfind (u : State) : (findItem u id).1 = ((recSlots u).filter fun i => (recAt u i).id == id && !(recAt u i).fl RFl.orphan).find?
      fun i => !(recAt (findItem u id).2 i).fl RFl.orphan := rfl
  rw [hfind, hfind, hend, hslots, hrec]

theorem crcCheck_of_crc {s : State} {i : Nat} (h : (recAt s i).word 7 = (recAt s i).crc) : crcCheck s i = s := if_pos (.inr (.inr h))

/-! ## FIND and FREE -/

theorem opFind_finds {s : State} {n i : Nat}
    (h : (findItem s (s.rdi P.drift F.DRIFT_OP_ARG_LO_ARG n + s.rdi P.drift F.DRIFT_OP_ARG_HI_ARG n * 2 ^ 32)).1 = some i) :
    (opFind s n).rdi P.drift F.DRIFT_OP_RES_STATUS n = DS.ok ∧ (opFind s n).rdi P.drift F.DRIFT_OP_RES_SLOT n = i % 2 ^ 14 := by
  unfold opFind
  extract_lets id o
  rw [show o.1 = some i from h]
  dsimp only
  obtain ⟨hstatus, hslot, -⟩ := opResult_shows o.2 n DS.ok i ((recAt o.2 i).g R.ver)
  exact ⟨hstatus, hslot⟩

theorem find_finds {s : State} {who : By} {i : Nat} (hw : MayWrite s who P.drift 0x06C) (hrun : s.working = true ∨ s.st = NS.join)
    (hi : (findItem s (s.rdi P.drift F.DRIFT_OP_ARG_LO_ARG (iniIdx who.ini) + s.rdi P.drift F.DRIFT_OP_ARG_HI_ARG (iniIdx who.ini) * 2 ^ 32)).1
      = some i) : ∃ t, exec (.find who) s = .next t ∧ t.rdi P.drift F.DRIFT_OP_RES_STATUS (iniIdx who.ini) = DS.ok ∧
        t.rdi P.drift F.DRIFT_OP_RES_SLOT (iniIdx who.ini) = i % 2 ^ 14 := by
  refine ⟨_, congrArg Host.Outcome.next (hw.driftCmd_eq 0 (op := 4) (by decide) (slot := 0) (by decide)), ?_⟩
  unfold driftOp
  rw [if_neg (by rw [driftOp_runs (s := dropArms s P.drift) hrun]; decide)]
  exact opFind_finds (s := dropArms s P.drift) ((findItem_alike (s := s) (t := dropArms s P.drift) rfl _).1.trans hi)

theorem free_frees {s : State} {who : By} {i : Nat} (hw : MayWrite s who P.drift 0x06C) (hst : s.st = NS.commission ∨ s.st = NS.maint)
    (hi : i < 16384) : ∃ t, exec (.free who i) s = .next t ∧ t.rdi P.drift F.DRIFT_OP_RES_STATUS (iniIdx who.ini) = DS.ok ∧
      (recAt t i).g R.state = RS.free := by
  refine ⟨_, congrArg Host.Outcome.next (hw.driftCmd_eq 0 (op := 6) (by decide) hi), ?_⟩
  have hrun : (dropArms s P.drift).working = true := by
    have h : (dropArms s P.drift).st = NS.commission ∨ (dropArms s P.drift).st = NS.maint := hst
    unfold State.working State.isIn
    rcases h with h | h <;> rw [h] <;> decide
  have hin : (dropArms s P.drift).isIn [NS.commission, NS.maint] = true := by
    have h : (dropArms s P.drift).st = NS.commission ∨ (dropArms s P.drift).st = NS.maint := hst
    unfold State.isIn
    rcases h with h | h <;> rw [h] <;> decide
  unfold driftOp
  rw [if_neg (by rw [driftOp_runs (.inl hrun)]; decide)]
  show (opFreeRec _ _ _).rdi _ _ _ = _ ∧ Rec.g (recAt (opFreeRec _ _ _) i) _ = _
  generalize dropArms s P.drift = u at hin ⊢
  unfold opFreeRec
  extract_lets v r
  have hmay : (r.fl RFl.orphan || v.isIn [NS.commission, NS.maint]) = true := by
    rcases crcCheck_cases u i with h | ⟨-, h⟩
    · rw [show v = u from h, hin, Bool.or_true]
    · have horphan : r.fl RFl.orphan = true := by
        show Rec.fl ((crcCheck u i).drift.recs.at [] i) RFl.orphan = true
        rw [h]
        exact orphaned_orphan ..
      rw [horphan, Bool.true_or]
  rw [if_pos hmay]
  refine ⟨(opResult_shows ..).1, ?_⟩
  have hrec (z : State) (n st k ver : Nat) : recAt (opResult (resyncJudge z) n st k ver) i = recAt z i := by
    show recAt (resyncJudge z) i = recAt z i
    unfold recAt
    rw [resyncJudge_slots]
  rw [hrec]
  exact freeRec_frees ..

/-! ## UPDATE, RETIRE and CANCEL of a record that is owned and idle -/

theorem opUpdate_updates {s : State} {n i : Nat} (hcrc : (recAt s i).word 7 = (recAt s i).crc) (hown : ownedJudge s i = none) :
    (opUpdate s n i).rdi P.drift F.DRIFT_OP_RES_STATUS n = DS.ok ∧
      (recAt (opUpdate s n i) i).word 24 = (opImage s n).word 24 % 2 ^ 32 := by
  unfold opUpdate
  rw [crcCheck_of_crc hcrc]
  extract_lets v im r r1 r2 t u
  rw [show ownedJudge v i = none from hown]
  dsimp -zeta only
  refine ⟨(opResult_shows ..).1, ?_⟩
  have hword : r2.word 24 = im.word 24 % 2 ^ 32 := by
    dsimp only [r2, List.foldl]
    simp [word_setWord]
  have hput : (recAt (recPut s i r2.up) i).word 24 = im.word 24 % 2 ^ 32 := by
    rw [recAt_recPut_same, Rec.word_seal _ (by decide) (by decide), Rec.up, Rec.word_s _ _ _ (by decide) (by decide)]
    exact hword
  have ht : Revised settleScope (recPut s i r2.up) t := mirrorSend_revised _ _ (by decide)
  have hu : Revised settleScope t u := (armActions_revised _ _ (by decide) rfl).trans (settleEdges_revised _)
  exact ((ht.trans hu).word i (by decide) (by decide)).trans hput

theorem retireMark_ended (s : State) (i reason : Nat) :
    (recAt (retireMark s i reason) i).g R.state = RS.retired ∨ (recAt (retireMark s i reason) i).g R.state = RS.free := by
  unfold retireMark
  extract_lets t x u
  have hu : (recAt u i).g R.state = RS.retired := by
    show (recAt (recPut s i ((recAt s i).s R.state RS.retired)) i).g R.state = RS.retired
    rw [recAt_recPut_same, Rec.g_seal _ rfl (by decide), Rec.g_s_same _ rfl]
    rfl
  have hend : Revised settleScope u (if (recAt u i).g R.mirror ≠ 0xFFF then request u i 8 ((recAt u i).g R.mirror) else retireProceed u i) :=
    .ite (request_revised _ _ (by decide) ..) (retireProceed_revised _ _ (by decide) rfl)
  exact hend.ended i (.inl hu)

theorem opRetireRec_eq {s : State} {i : Nat} (n : Nat) (hcrc : (recAt s i).word 7 = (recAt s i).crc) (hown : ownedJudge s i = none) :
    opRetireRec s n i = settleEdges (retireStart (opResult s n DS.ok i ((recAt s i).g R.ver)) i 3) := by
  unfold opRetireRec
  rw [crcCheck_of_crc hcrc]
  extract_lets v
  rw [show ownedJudge v i = none from hown]

theorem retireStart_retires {s : State} {n : Nat} (h : s.rdi P.drift F.DRIFT_OP_RES_STATUS n = DS.ok) (i reason : Nat) :
    (settleEdges (retireStart s i reason)).rdi P.drift F.DRIFT_OP_RES_STATUS n = DS.ok ∧
      ((recAt (settleEdges (retireStart s i reason)) i).g R.state = RS.retired ∨
        (recAt (settleEdges (retireStart s i reason)) i).g R.state = RS.free) := by
  have hstart : Revised settleScope s (settleEdges (retireStart s i reason)) :=
    (retireStart_revised _ _ _ (by decide) rfl rfl).trans (settleEdges_revised _)
  refine ⟨(hstart.ops rfl n (.inl (by rw [h]; decide))).status.trans h, (settleEdges_revised _).ended i ?_⟩
  rw [retireStart_eq]
  exact retireMark_ended ..

theorem opRetireRec_retires {s : State} {i : Nat} (n : Nat) (hcrc : (recAt s i).word 7 = (recAt s i).crc) (hown : ownedJudge s i = none) :
    (opRetireRec s n i).rdi P.drift F.DRIFT_OP_RES_STATUS n = DS.ok ∧
      ((recAt (opRetireRec s n i) i).g R.state = RS.retired ∨ (recAt (opRetireRec s n i) i).g R.state = RS.free) := by
  rw [opRetireRec_eq n hcrc hown]
  exact retireStart_retires (opResult_shows ..).1 i 3

theorem opCancelAct_cancels {s : State} {n i a : Nat} (ha : a < 4) (hcrc : (recAt s i).word 7 = (recAt s i).crc)
    (hown : ownedJudge s i = none) (he : Edgeless s) :
    (opCancelAct s n i a).rdi P.drift F.DRIFT_OP_RES_STATUS n = DS.ok ∧ (recAt (opCancelAct s n i a) i).g (R.result a) = 7 := by
  unfold opCancelAct
  rw [crcCheck_of_crc hcrc]
  extract_lets v t u
  rw [show ownedJudge v i = none from hown]
  dsimp -zeta only
  refine ⟨(opResult_shows ..).1, ?_⟩
  have ht : Edgeless t := by
    dsimp only [t]
    split
    · exact releaseAction_edgeless he ..
    · exact he
  have hput : (recAt (recPut t i ((recAt t i).s (R.result a) 7).up) i).g (R.result a) = 7 := by
    rw [recAt_recPut_same, g_result_seal _ ha, Rec.up, Rec.g_s_apart _ (result_fits ha)
      (decide_eq_true (.inl (by show 2 ≠ 11 + 4 * a; omega))), Rec.g_s_same _ (result_fits ha)]
    rfl
  have hnote : Revised (resultScope i) (recPut t i ((recAt t i).s (R.result a) 7).up)
      (actionNote (ownerChange t i ((recAt t i).s (R.result a) 7)) i a) :=
    (mirrorSend_revised _ _ (by decide : 7 ∈ [6, 7, 8])).trans (actionNote_revised ..)
  have hu : u = actionNote (ownerChange t i ((recAt t i).s (R.result a) 7)) i a :=
    settleEdges_none (EdgesKept.edgeless ((ownerChange_edges t i _).trans (driftNote_edges ..)) ht).2
  show (recAt u i).g (R.result a) = 7
  rw [hu]
  exact (hnote.result rfl i ha).trans hput

/-- An operation in a state in which Drift takes operations. -/
theorem driftOp_update {s : State} (hrun : s.working = true ∨ s.st = NS.join) (n act i : Nat) : driftOp s n 2 act i = opUpdate s n i :=
  if_neg (by rw [driftOp_runs hrun]; decide)

theorem driftOp_retire {s : State} (hrun : s.working = true ∨ s.st = NS.join) (n act i : Nat) : driftOp s n 3 act i = opRetireRec s n i :=
  if_neg (by rw [driftOp_runs hrun]; decide)

theorem driftOp_cancel {s : State} (hrun : s.working = true ∨ s.st = NS.join) (n act i : Nat) :
    driftOp s n 5 act i = opCancelAct s n i (act % 4) :=
  if_neg (by rw [driftOp_runs hrun]; decide)

theorem update_updates {s : State} {who : By} {i : Nat} (hw : MayWrite s who P.drift 0x06C) (hrun : s.working = true ∨ s.st = NS.join)
    (hi : i < 16384) (hcrc : (recAt s i).word 7 = (recAt s i).crc) (hown : ownedJudge s i = none) :
    ∃ t, exec (.update who i) s = .next t ∧ t.rdi P.drift F.DRIFT_OP_RES_STATUS (iniIdx who.ini) = DS.ok ∧
      (recAt t i).word 24 = (opImage s (iniIdx who.ini)).word 24 % 2 ^ 32 := by
  refine ⟨_, congrArg Host.Outcome.next (hw.driftCmd_eq 0 (op := 2) (by decide) hi), ?_⟩
  rw [driftOp_update (s := dropArms s P.drift) hrun]
  exact opUpdate_updates (s := dropArms s P.drift) hcrc hown

theorem opRetire_retires {s : State} {who : By} {i : Nat} (hw : MayWrite s who P.drift 0x06C) (hrun : s.working = true ∨ s.st = NS.join)
    (hi : i < 16384) (hcrc : (recAt s i).word 7 = (recAt s i).crc) (hown : ownedJudge s i = none) :
    ∃ t, exec (.opRetire who i) s = .next t ∧ t.rdi P.drift F.DRIFT_OP_RES_STATUS (iniIdx who.ini) = DS.ok ∧
      ((recAt t i).g R.state = RS.retired ∨ (recAt t i).g R.state = RS.free) := by
  refine ⟨_, congrArg Host.Outcome.next (hw.driftCmd_eq 0 (op := 3) (by decide) hi), ?_⟩
  rw [driftOp_retire (s := dropArms s P.drift) hrun]
  exact opRetireRec_retires (s := dropArms s P.drift) _ hcrc hown

theorem opCancel_cancels {s : State} {who : By} {i a : Nat} (hw : MayWrite s who P.drift 0x06C) (hrun : s.working = true ∨ s.st = NS.join)
    (hi : i < 16384) (hcrc : (recAt s i).word 7 = (recAt s i).crc) (hown : ownedJudge s i = none) (ha : a < 4) (he : Edgeless s) :
    ∃ t, exec (.opCancel who i a) s = .next t ∧ t.rdi P.drift F.DRIFT_OP_RES_STATUS (iniIdx who.ini) = DS.ok ∧
      (recAt t i).g (R.result a) = 7 := by
  refine ⟨_, congrArg Host.Outcome.next (hw.driftCmd_eq a (op := 5) (by decide) hi), ?_⟩
  rw [driftOp_cancel (s := dropArms s P.drift) hrun, Nat.mod_mod, Nat.mod_eq_of_lt ha]
  exact opCancelAct_cancels (s := dropArms s P.drift) ha hcrc hown he


/-! ## INDUCT -/

/-- What INDUCT judges is the same after a page's key arms are dropped. -/
theorem inductJudge_dropArms (s : State) (p k : Nat) (r : Rec) : (inductJudge (dropArms s p) k r).1 = (inductJudge s k r).1 := by
  unfold inductJudge
  dsimp only
  simp only [apply_ite Prod.fst]
  exact ite_congr rfl (fun _ => rfl) fun _ => ite_congr rfl (fun _ => rfl) fun _ => ite_congr rfl (fun _ => rfl) fun _ =>
    ite_congr rfl (fun _ => rfl) fun _ => ite_congr rfl (fun _ => rfl) fun _ => ite_congr rfl (fun _ => rfl) fun _ =>
      congrArg (fun o : Option Nat => if o.isSome then some DS.dupId else none) (findItem_alike (s := s) (t := dropArms s p) rfl _).1

theorem judged_past {c : Prop} [Decidable c] {a : Nat} {s : State} {x : Option Nat × State} (h : (if c then (some a, s) else x).1 = none) :
    ¬c ∧ x.1 = none ∧ (if c then (some a, s) else x) = x := by
  have hc : ¬c := fun hc => by simp [hc] at h
  rw [if_neg hc] at h
  exact ⟨hc, h, if_neg hc⟩

/-- INDUCT that no check refuses: a slot is free, and the store has been read. -/
theorem inductJudge_passes {s : State} {k : Nat} {r : Rec} (h : (inductJudge s k r).1 = none) :
    0 < freeSlots s ∧ (inductJudge s k r).2 = (findItem s r.id).2 := by
  unfold inductJudge at h ⊢
  extract_lets at h ⊢
  obtain ⟨-, h, e⟩ := judged_past h
  rw [e]
  obtain ⟨-, h, e⟩ := judged_past h
  rw [e]
  obtain ⟨-, h, e⟩ := judged_past h
  rw [e]
  obtain ⟨-, h, e⟩ := judged_past h
  rw [e]
  obtain ⟨hfree, h, e⟩ := judged_past h
  rw [e]
  obtain ⟨-, h, e⟩ := judged_past h
  rw [e]
  exact ⟨by omega, rfl⟩

theorem mem_recSlots_crcCheck {s : State} {i j : Nat} (h : j ∈ recSlots (crcCheck s i)) : j ∈ recSlots s := by
  rcases crcCheck_cases s i with e | ⟨-, e⟩
  · rwa [e] at h
  · have hput : recSlots (crcCheck s i) = recSlots (recPut s i (((recAt s i).setFl RFl.orphan true).setFl RFl.doubt false)) := by
      unfold recSlots
      rw [e]
      rfl
    by_cases hj : j = i
    · subst hj
      by_cases hfree : (recAt s j).g R.state = RS.free
      · rwa [show crcCheck s j = s from if_pos (.inl hfree)] at h
      · exact mem_recSlots hfree
    · exact mem_recSlots_recPut (hput ▸ h) hj

theorem mem_recSlots_findItem {s : State} {id j : Nat} (h : j ∈ recSlots (findItem s id).2) : j ∈ recSlots s :=
  List.foldlRecOn (motive := fun t : State => j ∈ recSlots t → j ∈ recSlots s) _ _ (fun hj => hj) (fun _ ht _ _ hj => ht (mem_recSlots_crcCheck hj)) h

/-- With a slot free, one is taken: one that an item may have. -/
theorem takeSlot_takes {s t : State} (hfree : 0 < freeSlots s) (hslots : ∀ j ∈ recSlots t, j ∈ recSlots s) :
    ∃ i, i < 16384 ∧ (takeSlot t).1 = some i := by
  unfold takeSlot
  extract_lets used l
  have hne : l ≠ [] := fun hl => by
    have hsub : List.range 16384 ⊆ recSlots s := fun j hj => by
      have hused := List.filter_eq_nil_iff.mp hl j hj
      exact hslots j (by simpa using hused)
    have hlen := (List.nodup_range.subperm hsub).length_le
    rw [List.length_range] at hlen
    unfold freeSlots at hfree
    omega
  have hlt (v : Nat) : v % l.length < l.length := Nat.mod_lt _ (List.length_pos_iff.mpr hne)
  dsimp only
  rw [if_neg (by simpa using hne)]
  refine ⟨_, ?_, List.getElem?_eq_getElem (hlt _)⟩
  exact List.mem_range.mp (List.mem_of_mem_filter (List.getElem_mem (hlt _)))


/-- The record that INDUCT makes of the staged image. -/
def inducted (own : Nat) (im : Rec) : Rec :=
  ([0, 1, 2, 3]).foldl (fun x a => Rec.s x (R.result a) (if Rec.g x (R.result a) = 1 then 1 else 0))
    ((((((im.s R.state RS.owned).s R.ver 1).s R.owner own).s R.prev 0xFFF).s R.flags 0).s R.mirror 0xFFF)

/-- A field that does not stand among the actions is as before their results are set. -/
theorem inducted_results (r : Rec) {f : RecFld} (hf : f.fits = true) (h : f.word < 11) :
    (([0, 1, 2, 3]).foldl (fun x a => Rec.s x (R.result a) (if Rec.g x (R.result a) = 1 then 1 else 0)) r).g f = r.g f := by
  have hapart (a : Nat) : (R.result a).apart f = true := decide_eq_true (.inl (by show 11 + 4 * a ≠ f.word; omega))
  simp only [List.foldl]
  rw [Rec.g_s_apart _ hf (hapart 3), Rec.g_s_apart _ hf (hapart 2), Rec.g_s_apart _ hf (hapart 1), Rec.g_s_apart _ hf (hapart 0)]

/-- The item is this node's, sound, of VERSION 1 and without a mirror. -/
structure Fresh (r : Rec) : Prop where
  state : r.g R.state = RS.owned
  sound : r.fl RFl.orphan = false
  lone : r.g R.mirror = 0xFFF
  ver : r.g R.ver = 1

theorem inducted_fresh (own : Nat) (im : Rec) : Fresh (inducted own im).seal := by
  unfold inducted
  refine ⟨?_, ?_, ?_, ?_⟩
  · rw [Rec.g_seal _ rfl (by decide), inducted_results _ rfl (by decide), Rec.g_s_apart _ rfl rfl, Rec.g_s_apart _ rfl rfl,
      Rec.g_s_apart _ rfl rfl, Rec.g_s_apart _ rfl rfl, Rec.g_s_apart _ rfl rfl, Rec.g_s_same _ rfl]
    rfl
  · rw [Rec.fl, Rec.g_seal _ rfl (by decide), inducted_results _ rfl (by decide), Rec.g_s_apart _ rfl rfl, Rec.g_s_same _ rfl]
    rfl
  · rw [Rec.g_seal _ rfl (by decide), inducted_results _ rfl (by decide), Rec.g_s_same _ rfl]
    rfl
  · rw [Rec.g_seal _ rfl (by decide), inducted_results _ rfl (by decide), Rec.g_s_apart _ rfl rfl, Rec.g_s_apart _ rfl rfl,
      Rec.g_s_apart _ rfl rfl, Rec.g_s_apart _ rfl rfl, Rec.g_s_same _ rfl]
    rfl

/-- Initiator `n` has asked for the induction of slot `i`, and it is QUEUED. -/
structure Waits (s : State) (i n : Nat) : Prop where
  asker : (dslot s i).ini = some n
  status : s.rdi P.drift F.DRIFT_OP_RES_STATUS n = 1
  slot : s.rdi P.drift F.DRIFT_OP_RES_SLOT n = i
  ver : s.rdi P.drift F.DRIFT_OP_VER_VERSION n = 1

/-- The induction is OK, or QUEUED with a mirror to wait for. -/
structure Accepted (s : State) (n : Nat) : Prop where
  status : s.rdi P.drift F.DRIFT_OP_RES_STATUS n = DS.queued ∨ s.rdi P.drift F.DRIFT_OP_RES_STATUS n = DS.ok
  ver : s.rdi P.drift F.DRIFT_OP_VER_VERSION n = 1
  stands : OpStands s n

/-- Drift's further work leaves it. -/
theorem Accepted.revised {s t : State} {n : Nat} (h : Accepted s n) (ht : Revised settleScope s t) : Accepted t n := by
  obtain ⟨hstatus, hslot, hver⟩ := ht.ops rfl n h.stands
  exact ⟨by rw [hstatus]; exact h.status, hver.trans h.ver, h.stands.imp (fun e => by rw [hstatus]; exact e) fun e => by
    rw [hslot, ht.mirrorOf]; exact e⟩

theorem inductOk_accepts {s : State} {i n : Nat} (h : Waits s i n) (hver : (recAt s i).g R.ver = 1) (peer : Nat) :
    Accepted (inductOk s i peer) n := by
  unfold inductOk
  rw [h.asker]
  dsimp -zeta only
  extract_lets r x u v
  have hv : v = (u.wri P.drift F.DRIFT_OP_RES_STATUS n 2).wri P.drift F.DRIFT_OP_VER_VERSION n (r.g R.ver) := if_pos ⟨h.status, h.slot⟩
  have hstatus : v.rdi P.drift F.DRIFT_OP_RES_STATUS n = DS.ok := by
    rw [hv, rdi_wri_apart _ _ rfl, rdi_wri_same]
    rfl
  have hvv : Accepted v n := ⟨.inr hstatus, by rw [hv, rdi_wri_same, show r.g R.ver = 1 from hver]; rfl, .inl (by rw [hstatus]; decide)⟩
  exact hvv.revised (((Revised.refl v).count _ _ (by decide)).note ..)

theorem mirrorSend_accepts {s : State} {i n : Nat} (h : Waits s i n) (hr : Fresh (recAt s i)) : Accepted (mirrorSend s i) n := by
  cases hm : mirrorOf s i with
  | some a =>
    have hs : Accepted s n := ⟨.inl h.status, h.ver, .inr (by rw [h.slot, hm]; simp)⟩
    exact hs.revised (mirrorSend_revised _ _ (by decide))
  | none =>
    have hsend : mirrorSend s i =
        inductOk (if (recAt s i).fl RFl.solo then s else recPut s i ((recAt s i).setFl RFl.solo true)) i 0xFFF := by
      unfold mirrorSend
      dsimp only
      rw [if_neg (by simp [hr.state, hr.sound]), if_neg (by simp [hr.lone])]
      rw [show (zoneSlot s ((recAt s i).g R.track)).bind (mirrorTarget s) = none from hm]
    rw [hsend]
    by_cases hsolo : (recAt s i).fl RFl.solo = true
    · rw [if_pos hsolo]
      exact inductOk_accepts h hr.ver _
    · rw [if_neg hsolo]
      refine inductOk_accepts (s := recPut s i ((recAt s i).setFl RFl.solo true)) ⟨h.asker, h.status, h.slot, h.ver⟩ ?_ _
      rw [recAt_recPut_same, Rec.g_seal _ rfl (by decide), Rec.g_setFl _ rfl (by decide), hr.ver]

theorem opInduct_accepts {s : State} {n k : Nat} (h : (inductJudge s k (opImage s n)).1 = none) : Accepted (opInduct s n k) n := by
  obtain ⟨hfree, hread⟩ := inductJudge_passes h
  obtain ⟨i, hi, htake⟩ := takeSlot_takes (t := (inductJudge s k (opImage s n)).2) hfree (fun j hj => by
    rw [hread] at hj
    exact mem_recSlots_findItem hj)
  obtain ⟨v, hv⟩ : ∃ v, takeSlot (inductJudge s k (opImage s n)).2 = (some i, v) := ⟨(takeSlot _).2, by rw [← htake]⟩
  unfold opInduct
  extract_lets im o u
  rw [show o.1 = none from h]
  dsimp -zeta only
  rw [show takeSlot u = (some i, v) from hv]
  dsimp -zeta only
  extract_lets r1 r2 r3 w
  have hrec : Fresh (recAt w i) := by
    show Fresh (recAt (recPut v i (inducted v.own im)) i)
    rw [recAt_recPut_same]
    exact inducted_fresh ..
  obtain ⟨hstatus, hslot, hver⟩ := opResult_shows (setDslot (recPut v i r3) i { ini := some n }) n DS.queued i 1
  have hw : Waits (opResult w n DS.queued i 1) i n :=
    ⟨congrArg DriftSlot.ini (Tbl.at_put_same v.drift.slots {} i { ini := some n }), hstatus, hslot.trans (Nat.mod_eq_of_lt hi), hver⟩
  exact (mirrorSend_accepts hw hrec).revised ((armActions_revised _ _ (by decide) rfl).trans (settleEdges_revised _))

theorem induct_accepts {s : State} {who : By} {k : Nat} (hw : MayWrite s who P.drift 0x06C) (hk : k < 16384)
    (h : (inductJudge s k (opImage s (iniIdx who.ini))).1 = none) :
    ∃ t, exec (.induct who k) s = .next t ∧ (t.rdi P.drift F.DRIFT_OP_RES_STATUS (iniIdx who.ini) = DS.queued ∨
      t.rdi P.drift F.DRIFT_OP_RES_STATUS (iniIdx who.ini) = DS.ok) ∧ t.rdi P.drift F.DRIFT_OP_VER_VERSION (iniIdx who.ini) = 1 := by
  refine ⟨_, congrArg Host.Outcome.next (hw.driftCmd_eq 0 (op := 1) (by decide) hk), ?_⟩
  have hrun : driftOp (dropArms s P.drift) (iniIdx who.ini) 1 (0 % 4) k = opInduct (dropArms s P.drift) (iniIdx who.ini) k := if_neg (by simp)
  rw [hrun]
  obtain ⟨hstatus, hver, -⟩ := opInduct_accepts (s := dropArms s P.drift) ((inductJudge_dropArms s P.drift k _).trans h)
  exact ⟨hstatus, hver⟩

end Sys2Proof.Machine
end

section
/-!
PROOF. The registers of the tracks (R282, R288).
-/

namespace Sys2Proof.Machine

theorem writeEffect_track (old s : State) (who : By) {k off : Nat} (hk : k < 8) (ho : 0x040 ≤ off) (word : Nat) :
    writeEffect old s who (P.track k) off word = effTrack s k off word := by
  have hpage : pageType (P.track k) = some .track := by
    have h : ∀ k < 8, pageType (P.track k) = some .track := by decide
    exact h k hk
  unfold writeEffect
  rw [if_neg (by omega), hpage]
  exact congrArg (effTrack s · off word) (by unfold P.track; omega)

/-! ## RECLAIM -/

theorem reclaim_register : ∀ k < 8, triggerReg (P.track k) 0x070 = true ∧ (regFields (P.track k) 0x070).all (noCondition (P.track k)) = true := by
  decide

theorem effTrack_reclaim (s : State) (k : Nat) : effTrack s k 0x070 1 = trkReclaim s k := rfl

theorem reclaim_reclaims {s : State} {k : Nat} {who : By} (hw : MayWrite s who (P.track (k % 8)) 0x070) (hsrc : srcState s (k % 8) = 1)
    (hvalid : s.tk F.TRACK_TRK_STAT_DELTA_VALID (k % 8) = 1) :
    ∃ t, exec (.reclaim k who) s = .next t ∧ (trk t (k % 8)).toActive = true := by
  have hk : k % 8 < 8 := Nat.mod_lt _ (by decide)
  obtain ⟨htrigger, hopen⟩ := reclaim_register _ hk
  have heffect : writeEffect (dropArms s (P.track (k % 8))) (dropArms s (P.track (k % 8))) who (P.track (k % 8)) 0x070 1 =
      trkReclaim (dropArms s (P.track (k % 8))) (k % 8) :=
    (writeEffect_track _ _ _ hk (by decide) _).trans (effTrack_reclaim ..)
  have hplace : (P.track (k % 8) == P.sestx && (0x070 : Nat) == 0x044) = false := by simp
  refine ⟨_, congrArg Host.Outcome.next (hw.block 1 htrigger hopen (by decide) (.inl hplace) heffect), ?_⟩
  unfold trkReclaim
  rw [if_pos ⟨hsrc, hvalid⟩]
  exact congrArg TrackSt.toActive (Tbl.at_put_same s.tracks {} (k % 8) { trk s (k % 8) with toActive := true })

/-! ## EVAL -/

theorem evalT_register : ∀ k < 8, plainReg (P.track k) 0x0A4 = true ∧ regFields (P.track k) 0x0A4 = [F.TRACK_EVAL_T_HI_NS] := by decide

theorem effTrack_eval (s : State) (k word : Nat) : effTrack s k 0x0A4 word = trkEval s k := rfl

theorem storeField_evalT (s : State) (who : By) (word : Nat) :
    ∀ k < 8, storeField s who (P.track k) F.TRACK_EVAL_T_HI_NS word = s.tkWr F.TRACK_EVAL_T_HI_NS k (fbits word F.TRACK_EVAL_T_HI_NS) := by
  intro k hk
  interval_cases k <;> rfl

/-- What a slot's evaluation rests on is the same under a write of EVAL_T. -/
theorem evalTrack_evalT (s : State) (k v : Nat) (t2 : Int) : evalTrack (s.tkWr F.TRACK_EVAL_T_HI_NS k v) k t2 = evalTrack s k t2 := by
  have hstate : trkState (s.tkWr F.TRACK_EVAL_T_HI_NS k v) k = trkState s k := rd_wr_beside _ _ _ rfl
  have hlen : loopLen (s.tkWr F.TRACK_EVAL_T_HI_NS k v) k = loopLen s k := by
    unfold loopLen State.rd64 State.tkWr
    rw [rd_wr_beside _ _ _ rfl, rd_wr_beside _ _ _ rfl]
  unfold evalTrack evalSample wrapPos
  rw [hstate, hlen]
  rfl

theorem trkEval_evaluates (s : State) (k : Nat) :
    (trkEval s k).rd64 (P.track k) F.TRACK_EVAL_POS_LO_POS F.TRACK_EVAL_POS_HI_POS = ofSigned 48 (floorUm
      ((evalTrack s k (2 * (s.rd64 (P.track k) F.TRACK_EVAL_T_LO_NS F.TRACK_EVAL_T_HI_NS : Nat))).getD (0, 0, false)).1) ∧
    (trkEval s k).tk F.TRACK_EVAL_VEL_V k = ofSigned 32
      ((evalTrack s k (2 * (s.rd64 (P.track k) F.TRACK_EVAL_T_LO_NS F.TRACK_EVAL_T_HI_NS : Nat))).getD (0, 0, false)).2.1 := by
  unfold trkEval
  extract_lets t
  generalize (evalTrack s k (2 * (t : Int))).getD (0, 0, false) = e
  have hpos : ofSigned 48 (floorUm e.1) < 2 ^ 48 := by unfold ofSigned; omega
  have hvel := ofSigned_lt e.2.1
  dsimp only [State.rd64, State.wr64, State.tkWr, State.tk]
  refine ⟨?_, ?_⟩
  · rw [rd_wr_beside _ _ _ rfl, rd_wr_beside _ _ _ rfl, rd_wr_beside _ _ _ rfl, rd_wr_same,
      rd_wr_beside _ _ _ rfl, rd_wr_beside _ _ _ rfl, rd_wr_same]
    simp only [F.TRACK_EVAL_POS_LO_POS, F.TRACK_EVAL_POS_HI_POS]
    omega
  · rw [rd_wr_beside _ _ _ rfl, rd_wr_same]
    exact Nat.mod_eq_of_lt hvel

theorem eval_evaluates {s : State} {k : Nat} {who : By} {v : Nat} (hw : MayWrite s who (P.track (k % 8)) 0x0A4) :
    ∃ t, exec (.eval k who v) s = .next t ∧
      (let e := (evalTrack s (k % 8) (2 * (s.tk F.TRACK_EVAL_T_LO_NS (k % 8) + v % 2 ^ 32 * 2 ^ 32 : Nat))).getD (0, 0, false)
       t.rd64 (P.track (k % 8)) F.TRACK_EVAL_POS_LO_POS F.TRACK_EVAL_POS_HI_POS = ofSigned 48 (floorUm e.1) ∧
       t.tk F.TRACK_EVAL_VEL_V (k % 8) = ofSigned 32 e.2.1) := by
  have hk : k % 8 < 8 := Nat.mod_lt _ (by decide)
  obtain ⟨hplain, hfields⟩ := evalT_register _ hk
  have hwrite := hw.plain (v % 2 ^ 32) hplain (by decide)
  rw [writeEffect_track _ _ _ hk (by decide), hfields, effTrack_eval] at hwrite
  refine ⟨_, congrArg Host.Outcome.next hwrite, ?_⟩
  dsimp only [List.foldl_cons, List.foldl_nil]
  rw [storeField_evalT _ _ _ _ hk]
  have hword : fbits (v % 2 ^ 32) F.TRACK_EVAL_T_HI_NS = v % 2 ^ 32 := by
    simp [fbits, bitsOf, F.TRACK_EVAL_T_HI_NS]
  have hlo : (dropArms s (P.track (k % 8))).rd (P.track (k % 8)) F.TRACK_EVAL_T_LO_NS = s.tk F.TRACK_EVAL_T_LO_NS (k % 8) := rfl
  have htime : ((dropArms s (P.track (k % 8))).tkWr F.TRACK_EVAL_T_HI_NS (k % 8) (v % 2 ^ 32)).rd64 (P.track (k % 8))
      F.TRACK_EVAL_T_LO_NS F.TRACK_EVAL_T_HI_NS = s.tk F.TRACK_EVAL_T_LO_NS (k % 8) + v % 2 ^ 32 * 2 ^ 32 := by
    unfold State.rd64 State.tkWr
    rw [rd_wr_beside _ _ _ rfl, rd_wr_same, hlo]
    simp [F.TRACK_EVAL_T_LO_NS, F.TRACK_EVAL_T_HI_NS]
  have heval := trkEval_evaluates ((dropArms s (P.track (k % 8))).tkWr F.TRACK_EVAL_T_HI_NS (k % 8) (v % 2 ^ 32)) (k % 8)
  rw [htime, evalTrack_evalT] at heval
  rw [hword]
  exact heval

end Sys2Proof.Machine
end

section
/-!
PROOF. SCHEDULED_WINDOW_END (R280, R321), and with it the tracks and the operations of Drift.
-/

namespace Sys2Proof.Machine

/-! ## The tracks at the end of the scheduled window -/

/-- Registers that the tracks beside slot `k` and events change. -/
def besideKey (k : Nat) (x : Key) : Bool := evKey x || (decide (0x088 ≤ x.page ∧ x.page < 0x090) && x.page != P.track k)

/-- The other tracks have been judged. -/
structure Passed (k : Nat) (s t : State) : Prop where
  regs : RegsKeep (besideKey k) s t
  steady : Steady s t
  mgmt : t.mgmt = s.mgmt

theorem Passed.refl (k : Nat) (s : State) : Passed k s s := ⟨.refl .., .refl s, rfl⟩

theorem Passed.trans {k : Nat} {s t u : State} (h : Passed k s t) (g : Passed k t u) : Passed k s u :=
  ⟨h.regs.trans g.regs, h.steady.trans g.steady, g.mgmt.trans h.mgmt⟩

theorem Passed.ite {k : Nat} {s t u : State} {c : Prop} [Decidable c] (h : Passed k s t) (g : Passed k s u) : Passed k s (if c then t else u) := by
  split
  · exact h
  · exact g

theorem track_page (k : Nat) : 0x088 ≤ P.track k ∧ P.track k < 0x090 := by unfold P.track; omega

theorem Passed.tkWr {k j : Nat} {s t : State} (h : Passed k s t) (hj : P.track j ≠ P.track k) (f : Fld) (v : Nat) :
    Passed k s (t.tkWr f j v) := by
  have hpage := track_page j
  refine h.trans ⟨(RegsKeep.refl _ t).wr v ?_, (Steady.refl t).wri _ _ _ _ (by omega), rfl⟩
  simp [besideKey, hpage, hj]

theorem Passed.raise {k : Nat} {s t : State} (h : Passed k s t) (p n : Nat) : Passed k s (raise t p n) :=
  h.trans ⟨(raise_regs ..).mono fun _ hx => (Bool.or_eq_false_iff.mp hx).1, (raise_moved ..).steady, (raise_keeps ..).mgmt rfl⟩

theorem Passed.of_regs {k : Nat} {s t u : State} (h : Passed k s t) (hr : u.regs = t.regs) (hm : u.mgmt = t.mgmt) : Passed k s u :=
  h.trans ⟨.of_eq hr, .of_regs hr, hm⟩

theorem setTrkState_passed {k j : Nat} (hj : P.track j ≠ P.track k) (s : State) (v : Nat) : Passed k s (setTrkState s j v) := by
  unfold setTrkState trkStatus
  have hstate := (Passed.refl k s).tkWr hj F.TRACK_TRK_STAT_STATE v
  exact .ite (.refl k s) (Passed.raise (.ite (hstate.tkWr hj ..) hstate) ..)

theorem judgeAge_passed {k j : Nat} (hj : P.track j ≠ P.track k) (s : State) : Passed k s (judgeAge s j) := by
  unfold judgeAge
  have hage := (Passed.refl k s).tkWr hj F.TRACK_TRK_STAT_AGE (smpAge s j)
  have hstate := hage.trans (setTrkState_passed hj _ (stateByAge (s.tkWr F.TRACK_TRK_STAT_AGE j (smpAge s j)) j (smpAge s j)))
  exact .ite (.refl k s) (.ite (hstate.tkWr hj ..) hstate)

theorem judgeMissing_passed {k j : Nat} (hj : P.track j ≠ P.track k) (s : State) : Passed k s (judgeMissing s j) := by
  unfold judgeMissing
  extract_lets x m t rank lim
  have ht : Passed k s t := (Passed.refl k s).tkWr hj ..
  exact .ite (.ite (ht.of_regs rfl rfl) ht) (.refl k s)

theorem track_event (k o l : Nat) : evKey ⟨P.track k, o, l, 0⟩ = (o == 0x010) := by
  have hpage := track_page k
  have h0 : (P.track k == 0) = false := beq_false_of_ne (by omega)
  have h3 : (P.track k == 3) = false := beq_false_of_ne (by omega)
  have hfdie : (P.track k == 0x0A9) = false := beq_false_of_ne (by omega)
  have hecl : (P.track k == 0x130) = false := beq_false_of_ne (by omega)
  have hrange : ¬0x0A0 ≤ P.track k ∧ ¬0x0B0 ≤ P.track k ∧ ¬0x0B8 ≤ P.track k ∧ ¬0x0C0 ≤ P.track k := by omega
  simp [evKey, h0, h3, hfdie, hecl, hrange]

theorem track_beside (k o l : Nat) : besideKey k ⟨P.track k, o, l, 0⟩ = (o == 0x010) := by
  rw [besideKey, track_event]
  simp

theorem track_work (k l : Nat) {o : Nat} (ho : o ≠ 0x010) : workKey ⟨P.track k, o, l, 0⟩ = false := by
  have hpage := track_page k
  have hown : ownKey ⟨P.track k, o, l, 0⟩ = false := by
    simp only [ownKey, P.sestx, P.sesrx, P.edge, P.drift, P.zones, Bool.or_eq_false_iff, Bool.and_eq_false_iff, beq_eq_false_iff_ne]
    omega
  rw [workKey, hown, queueKey, swKey, track_event, beq_false_of_ne ho]
  simp
  omega

/-- Whether slot `k` works is the same. -/
theorem Passed.slotOn {k : Nat} {s t : State} (h : Passed k s t) (hs : noEclEv s) : slotOn t k = slotOn s k := by
  obtain ⟨-, hst⟩ := h.steady.calm hs
  unfold Machine.slotOn tracksOn State.working State.isIn State.enabled State.stopReq State.on
  rw [hst, h.mgmt, h.regs.rd _ _ (by rw [track_beside]; rfl), h.regs.rd _ _ (by rw [track_beside]; rfl)]

/-- A slot that does not work is not judged, and the others leave it alone. -/
theorem tracksWindow_passed {s : State} {k : Nat} (hk : k < 8) (hs : noEclEv s) (hoff : slotOn s k = false) : Passed k s (tracksWindow s) := by
  unfold tracksWindow State.each
  refine List.foldlRecOn (motive := Passed k s) _ _ (.refl k s) fun t ht j hj => ?_
  by_cases hjk : j = k
  · rw [hjk, if_neg (by rw [ht.slotOn hs, hoff]; decide)]
    exact ht
  · have hpage : P.track j ≠ P.track k := by
      have hj := List.mem_range.mp hj
      unfold P.track
      omega
    exact .ite (ht.trans ((judgeMissing_passed hpage _).trans (judgeAge_passed hpage _))) ht

/-! ## HOLDING (R321) -/

/-- Slot `k` is a zones slot whose track follows no sample. -/
def holds (s : State) (k : Nat) : Bool := s.on P.zones (F.ZONES_ZCFG_EN k) && trkState s k != 2 && trkState s k != 3

/-- Registers that the judgement of slot `a` changes. -/
def judgeKey (a : Nat) (x : Key) : Bool := evKey x || (x.page == P.zones && x.off == 0x108 + 0x80 * a && (x.lsb == 27 || x.lsb == 30))

theorem RegsKeep.judged {a : Nat} {s t : State} (h : RegsKeep evKey s t) : RegsKeep (judgeKey a) s t :=
  h.mono fun _ hx => (Bool.or_eq_false_iff.mp hx).1

theorem judgeZone_regs (s : State) (a : Nat) : RegsKeep (judgeKey a) s (judgeZone s a) :=
  ((RegsKeep.refl _ s).wr _ (by simp [judgeKey, F.ZONES_ZSTAT_CHAIN_BAD])).trans (raiseIf_regs ..).judged

theorem judgeHolding_regs (s : State) (a : Nat) : RegsKeep (judgeKey a) s (judgeHolding s a) :=
  ((RegsKeep.refl _ s).wr _ (by simp [judgeKey, F.ZONES_ZSTAT_HOLDING])).trans (raiseIf_regs ..).judged

theorem zones_event {o l : Nat} (ho : o ≠ 0x010) : evKey ⟨P.zones, o, l, 0⟩ = false := by simp [evKey, P.zones, ho]

/-- What the judgement of HOLDING rests on is not judged. -/
theorem RegsKeep.holds {a b : Nat} {s t : State} (h : RegsKeep (judgeKey a) s t) : Machine.holds t b = Machine.holds s b := by
  have hpage := track_page b
  have hen : t.rd P.zones (F.ZONES_ZCFG_EN b) = s.rd P.zones (F.ZONES_ZCFG_EN b) := h.rd _ _ (by
    rw [judgeKey, zones_event (by show 0x100 + 0x80 * b ≠ 16; omega)]
    simp [F.ZONES_ZCFG_EN])
  have hstate : trkState t b = trkState s b := h.rd _ _ (by
    simp [judgeKey, evKey, F.TRACK_TRK_STAT_STATE, P.zones]
    omega)
  unfold Machine.holds State.on
  rw [hen, hstate]

theorem judgeHolding_holds (s : State) (a : Nat) : (judgeHolding s a).on P.zones (F.ZONES_ZSTAT_HOLDING a) = holds s a := by
  unfold judgeHolding State.on
  extract_lets h was
  rw [(raiseIf_regs ..).rd P.zones (F.ZONES_ZSTAT_HOLDING a) (zones_event (by show 0x108 + 0x80 * a ≠ 16; omega)), rd_wr_same]
  show (b2n h % 2 ^ 1 != 0) = holds s a
  cases hh : h
  · exact hh.symm
  · exact hh.symm

/-- After all slots have been judged, HOLDING says so. -/
theorem judgeAll_holds (s : State) {k : Nat} (hk : k < 8) : (s.each 8 fun t k => judgeHolding (judgeZone t k) k).on P.zones (F.ZONES_ZSTAT_HOLDING k) = holds (s.each 8 fun t k => judgeHolding (judgeZone t k) k) k := by
  refine each_establishes (q := fun t k => t.on P.zones (F.ZONES_ZSTAT_HOLDING k) = holds t k) (fun t a _ => ?_) (fun t a b _ _ hab ht => ?_) s k hk
  · exact (judgeHolding_holds ..).trans (judgeHolding_regs ..).holds.symm
  · have hregs : RegsKeep (judgeKey a) t (judgeHolding (judgeZone t a) a) := (judgeZone_regs ..).trans (judgeHolding_regs ..)
    show _ = holds _ b
    rw [hregs.holds, ← ht]
    unfold State.on
    rw [hregs.rd P.zones (F.ZONES_ZSTAT_HOLDING b) (by
      rw [judgeKey, zones_event (by show 0x108 + 0x80 * b ≠ 16; omega)]
      simp [F.ZONES_ZSTAT_HOLDING]
      omega)]

theorem judgeAll_keeps_holds (s : State) (k : Nat) : holds (s.each 8 fun t k => judgeHolding (judgeZone t k) k) k = holds s k := by
  unfold State.each
  refine List.foldlRecOn (motive := fun t : State => holds t k = holds s k) _ _ rfl fun t ht a _ => ?_
  exact (RegsKeep.holds ((judgeZone_regs t a).trans (judgeHolding_regs ..))).trans ht

/-! ## The end of the scheduled window -/

theorem Worked.holds {s t : State} (h : Worked s t) (k : Nat) : Machine.holds t k = Machine.holds s k ∧
    t.on P.zones (F.ZONES_ZSTAT_HOLDING k) = s.on P.zones (F.ZONES_ZSTAT_HOLDING k) := by
  have hpage := track_page k
  have hen : t.rd P.zones (F.ZONES_ZCFG_EN k) = s.rd P.zones (F.ZONES_ZCFG_EN k) := h.regs.rd _ _ (by
    rw [workKey, queueKey, swKey, zones_event (by show 0x100 + 0x80 * k ≠ 16; omega)]
    simp [ownKey, F.ZONES_ZCFG_EN, P.zones, P.sestx, P.sesrx, P.edge, P.drift])
  have hstate : trkState t k = trkState s k := h.regs.rd _ _ (track_work _ _ (by decide))
  have hholding : t.rd P.zones (F.ZONES_ZSTAT_HOLDING k) = s.rd P.zones (F.ZONES_ZSTAT_HOLDING k) := h.regs.rd _ _ (by
    rw [workKey, queueKey, swKey, zones_event (by show 0x108 + 0x80 * k ≠ 16; omega)]
    simp [ownKey, F.ZONES_ZSTAT_HOLDING, P.zones, P.sestx, P.sesrx, P.edge, P.drift])
  unfold Machine.holds State.on
  exact ⟨by rw [hen, hstate], by rw [hholding]⟩

theorem Passed.holds {k : Nat} {s t : State} (h : Passed k s t) : Machine.holds t k = Machine.holds s k := by
  have hen : t.rd P.zones (F.ZONES_ZCFG_EN k) = s.rd P.zones (F.ZONES_ZCFG_EN k) := h.regs.rd _ _ (by
    rw [besideKey, zones_event (by show 0x100 + 0x80 * k ≠ 16; omega)]
    simp [P.zones])
  have hstate : t.rd (P.track k) F.TRACK_TRK_STAT_STATE = s.rd (P.track k) F.TRACK_TRK_STAT_STATE := h.regs.rd _ _ (by
    rw [track_beside]
    rfl)
  unfold Machine.holds State.on trkState State.tk
  rw [hen, hstate]

theorem mirrorSeek_worked (s : State) (i : Nat) : Worked s (mirrorSeek s i) :=
  .ite ((crcCheck_worked s i).trans (mirrorSend_worked ..)) (crcCheck_worked s i)

theorem driftWindow_holds {s : State} {k : Nat} (hk : k < 8) (hon : driftOn s = true) (h : holds s k = true) :
    (driftWindow s).on P.zones (F.ZONES_ZSTAT_HOLDING k) = true := by
  unfold driftWindow
  rw [if_neg (by simp [hon])]
  extract_lets u v w
  have hu : u.on P.zones (F.ZONES_ZSTAT_HOLDING k) = true := by
    refine ((judgeLost_worked _).holds k).2.trans ?_
    rw [judgeAll_holds _ hk, judgeAll_keeps_holds, h]
  have hv : Worked u v := .foldl (fun _ _ => (mirrorSeek_worked ..).trans (armActions_worked ..)) _ (.refl u)
  have hw : Worked v w := .each (fun _ _ => .ite (handoffCheck_worked ..) (.refl _)) (.refl v)
  split
  · exact hu
  · exact (((hv.trans hw).trans (settleEdges_worked w)).holds k).2.trans hu

theorem edgesSync_worked (s : State) (n2 : Nat) (d : Option DiscStep) : Worked s (edgesSync s n2 d) :=
  .foldl (fun _ _ => .ite (edgeSync_worked ..) (.refl _)) _ (.of_regs rfl)

theorem edgesWindow_worked (s : State) (n2 : Nat) : Worked s (edgesWindow s n2) :=
  .each (fun t _ => .foldl (fun _ _ => edgeSolve_worked ..) _ (.refl t)) (edgesSync_worked ..)

theorem driftOn_of {s t : State} (hst : t.st = s.st) (hm : t.mgmt = s.mgmt) (hr : t.on P.drift F.HDR_PAGE_CTRL_STOP = s.on P.drift F.HDR_PAGE_CTRL_STOP) :
    driftOn t = driftOn s := by
  unfold driftOn State.working State.isIn State.stopReq
  rw [hst, hm, hr]

theorem scheduledWindowEnd_holds {s : State} {k : Nat} (halive : s.alive = true) (hon : driftOn s = true) (hev : noEclEv s) (hk : k < 8)
    (hen : s.on P.zones (F.ZONES_ZCFG_EN k) = true) (hoff : slotOn s k = false) (hst : trkState s k ≠ 2 ∧ trkState s k ≠ 3) :
    ∃ t, exec .scheduledWindowEnd s = .next t ∧ s.time.tStart + s.winW ≤ t.now ∧ t.on P.zones (F.ZONES_ZSTAT_HOLDING k) = true := by
  refine ⟨_, congrArg Host.Outcome.next (if_pos halive), ?_⟩
  extract_lets u v w
  have hpass : Passed k u v := tracksWindow_passed hk hev hoff
  have hwork : Worked v (settleEdges w) := (edgesWindow_worked ..).trans (settleEdges_worked ..)
  have hholds : holds (settleEdges w) k = true := by
    rw [(hwork.holds k).1, hpass.holds]
    show holds s k = true
    simp [holds, hen, hst]
  have hdrift : driftOn (settleEdges w) = true := by
    refine Eq.trans (driftOn_of ?_ ?_ ?_) (hon : driftOn u = true)
    · exact ((hpass.steady.trans hwork.steady).calm hev).2
    · exact ((settleEdges_keeps w).mgmt rfl).trans (((edgesWindow_keeps ..).mgmt rfl).trans hpass.mgmt)
    · unfold State.on
      rw [hwork.regs.rd P.drift F.HDR_PAGE_CTRL_STOP rfl, hpass.regs.rd P.drift F.HDR_PAGE_CTRL_STOP rfl]
      rfl
  refine ⟨?_, driftWindow_holds hk hdrift hholds⟩
  have htime : (driftWindow (settleEdges w)).time = u.time := by
    rw [(driftWindow_keeps _).time rfl, (settleEdges_keeps _).time rfl, (edgesWindow_keeps ..).time rfl, (tracksWindow_keeps _).time rfl]
  show _ ≤ (driftWindow (settleEdges w)).time.now
  rw [htime]
  exact Nat.le_max_right ..

/-- Settles O34. -/
theorem tracksAndDriftOperations : Obligations.TracksAndDriftOperations := by
  refine ⟨fun s k halive hon hev hk hen hoff hst => ?window, fun s k who hw hsrc hvalid => ?reclaim, fun s k who v hw => ?eval,
    fun s who k hw hk hpass => ?induct, fun s who i hw hrun hi hcrc hown => ?update, fun s who i hw hrun hi hcrc hown => ?retire,
    fun s who i hw hrun hi => ?find, fun s who i a hw hrun hi hcrc hown ha he => ?cancel, fun s who i hw hst hi => ?free⟩
  case window => exact scheduledWindowEnd_holds halive hon hev hk hen hoff hst
  case reclaim => exact reclaim_reclaims hw hsrc hvalid
  case eval => exact eval_evaluates hw
  case induct => exact induct_accepts hw hk hpass
  case update => exact update_updates hw hrun hi hcrc hown
  case retire => exact opRetire_retires hw hrun hi hcrc hown
  case find => exact find_finds hw hrun hi
  case cancel => exact opCancel_cancels hw hrun hi hcrc hown ha he
  case free => exact free_frees hw hst hi

end Sys2Proof.Machine
end
